-- ==== Sys2Proof/Word.lean ====
section
/-! DEFINITION. The plainest types: a byte, the words of registers and records, and the sparse table
that holds every indexed piece of state. -/
namespace Sys2Proof

/-- One byte on the wire, in host memory or in a record (00 R8). -/
abbrev Byte := BitVec 8

/-- A 32-bit register dword or free-running count (02 R41, 20 R569). -/
abbrev Word := BitVec 32

/-- A 64-byte command descriptor, bit 0 the least significant bit of byte 0 (02 R46). -/
abbrev Descriptor := BitVec 512

/-- A sparse table: index and value, indexes strictly rising, no entry equal to the default that an
unlisted index reads as. -/
abbrev Tab (α : Type) := List (Nat × α)

end Sys2Proof
end

