-- ==== Sys2Proof/Syntax.lean ====
section
/-! DEFINITION. The commands: operand types and the one inductive of commands, a constructor per row of
the table of operations and events. -/
namespace Sys2Proof

/-- The outstanding command that a step concerns: its endpoint, command ring and position (02 R45). -/
structure CmdRef where
  ep : Nat
  ring : Nat
  pos : Word
  deriving DecidableEq, Repr

/-- What the outside gives to a step of a command: the bytes that its DMA reads return (none: a read
error, 02 R583), whether its DMA writes meet an error, and what the spec leaves to the device in the step
(a table position, how many elements the step covers). -/
structure Io where
  rd : Option (List Byte) := some []
  wrErr : Bool := false
  pick : List Nat := []
  deriving DecidableEq, Repr

/-- Why an endpoint goes down (02 R40), in the coding of EV_EP_DOWN. -/
inductive EpCause where
  | perst | flr | link | busMaster
  deriving DecidableEq, Repr

/-- What an unmasking write clears or sets (02 R65). -/
inductive Unmask where
  | vector (v : Nat) | function | enable
  deriving DecidableEq, Repr

/-- What a port's receive FEC has found since the port's last frame (04 R119, R140): codeword groups corrected and not correctable,
and the symbols corrected on each of its lanes. -/
structure Fec where
  corrected : Nat := 0
  uncorrected : Nat := 0
  symbols : List Nat := []
  deriving DecidableEq, Repr

/-- What an error check found. -/
inductive Ecc where
  | clean | corrected | once | lasting
  deriving DecidableEq, Repr

/-- How a plane delivers a cell: intact, with a corrected payload, poisoned, or not at all, its header being
uncorrectable (09 R264). -/
inductive Carried where
  | clean | corrected | poison | lost
  deriving DecidableEq, Repr

/-- An error in a control-store word as it is fetched (05 R163, 08 R250): the word, whether it is uncorrectable
and fails again on the retry, the stage and issue slot, and the syndromes of a corrected word. -/
structure StoreFlaw where
  word : Nat
  bad : Bool
  lasting : Bool
  stage : Nat := 0
  slot : Nat := 0
  syn : Nat := 0
  deriving DecidableEq, Repr

/-- Memory errors that a packet meets: table entries whose parity fails (table, index, fails again), a
control-store word, and buffer cells that read uncorrectably (cell, fails again). -/
structure Flaws where
  parity : List (Nat × Nat × Bool) := []
  store : Option StoreFlaw := none
  cells : List (Nat × Bool) := []
  deriving DecidableEq, Repr

/-- What a read of the basin meets (11 R339, R349): nothing, a corrected error, an uncorrectable cell or header, a
lost link record, or a lost queue state word. -/
inductive BasinErr where
  | clean | corrected | data (lasting : Bool) | header (lasting : Bool) | link | state
  deriving DecidableEq, Repr

/-- Who writes a check-value context (14 R432): an endpoint through its set-up window, or a regulator. -/
inductive CvuParty where
  | window (ep : Nat) | regulator (r : Nat)
  deriving DecidableEq, Repr

/-- A port in the default tables of an image (04 R115): the operands of OP_PORT_CONFIG and the hold. -/
structure PortLayout where
  port : Nat
  lanes : Nat := 8
  rate100 : Bool := false
  iface : Nat := 0
  anEn : Bool := false
  maxFrame : Nat := 9216
  debounceUs : Nat := 10
  rxInvert : Nat := 0
  txInvert : Nat := 0
  txPreset : Nat := 0
  trainTimeoutMs : Nat := 1000
  holdUs : Nat := 1000
  deriving DecidableEq, Repr

/-- A slot that an image gives the event directory (16 R479). -/
structure DirEntry where
  slot : Nat
  code : Option Nat
  severity : Nat := 0
  rate : Nat := 1000
  burst : Nat := 64
  deriving DecidableEq, Repr

/-- What the default-tables section of an image says (17 R503); its format is thevin-pack's. -/
structure ImageTables where
  /-- The port layout; none: that of 04 R115. -/
  ports : Option (List PortLayout) := none
  /-- DEFAULT_ACTION values by class; none: those of 05 Table 5-7. -/
  actions : Option (List (BitVec 64)) := none
  dir : List DirEntry := []
  /-- Owners of CVU contexts: context, OWNER (14 R432). -/
  owners : List (Nat × Nat) := []
  /-- An entry names an object that does not exist. -/
  invalid : Bool := false
  deriving DecidableEq, Repr

/-- An instruction scanned into the TAP (19 R561): the public ones, one of the maker's private debug instructions, or a code
that no instruction has. -/
inductive TapInstr where
  | bypass | idcode | samplePreload | extest | extestPulse | extestTrain | highz | clamp | privateDebug | unassigned
  deriving DecidableEq, Repr

/-- The commands of the ZJ1024: one constructor per row of the table of operations and events. -/
inductive Instr where
  /-- OP_NOP (R69): Command that changes nothing and returns the AON tick of its commit. -/
  | opNop (c : CmdRef) (io : Io)
  /-- OP_FENCE (R56): Command that records P of the named rings and commits once every earlier position of those rings has committed. -/
  | opFence (c : CmdRef) (io : Io)
  /-- OP_ABORT (R71): Command that marks a fetched, uncommitted target command for abort, or reports that it is too late or was not found. -/
  | opAbort (c : CmdRef) (io : Io)
  /-- OP_SURVEY (R73): Command that writes the 16,384-byte device summary to host memory within the caller's scope. -/
  | opSurvey (c : CmdRef) (io : Io)
  /-- OP_ATTEST_REPORT (R518): OP_ATTEST REPORT: writes an 864-byte attestation report signed with the identity key. -/
  | opAttestReport (c : CmdRef) (io : Io)
  /-- OP_ATTEST_CERT (R518): OP_ATTEST CERT: copies the identity certificate from flash to the host buffer. -/
  | opAttestCert (c : CmdRef) (io : Io)
  /-- OP_MODE_SET_DEVICE (R526): Warden command that moves the device to a target mode as Table 18-2 allows. -/
  | opModeSetDevice (c : CmdRef) (io : Io)
  /-- OP_MODE_SET_POLDER (R526): Command that moves one polder between FORWARDING and DRAINING, or out of SAFE_HOLD. -/
  | opModeSetPolder (c : CmdRef) (io : Io)
  /-- OP_TABLE_WRITE (R193): Command that writes a table entry by key or by index in all four quadrant copies. -/
  | opTableWrite (c : CmdRef) (io : Io)
  /-- OP_TABLE_READ (R194): Command that returns the record of one entry from a chosen quadrant copy. -/
  | opTableRead (c : CmdRef) (io : Io)
  /-- OP_TABLE_SEARCH (R194): Command that looks up a key as a packet of the caller's polder would, in a chosen slot. -/
  | opTableSearch (c : CmdRef) (io : Io)
  /-- OP_TABLE_DELETE (R194): Command that deletes an entry by key or by index. -/
  | opTableDelete (c : CmdRef) (io : Io)
  /-- OP_TABLE_BULK (R195): Multi-step command that applies a list of writes and deletes in list order. -/
  | opTableBulk (c : CmdRef) (io : Io)
  /-- OP_TABLE_AUDIT (R196): Command that compares the entries of one copy with the other copies and writes the differences. -/
  | opTableAudit (c : CmdRef) (io : Io)
  /-- OP_TABLE_SCAN (R196): Command that writes every valid entry of the caller's polders in a range of positions of one copy. -/
  | opTableScan (c : CmdRef) (io : Io)
  /-- OP_GEN_OPEN (R186): Command that stages the next generation on the idle slot and sets the holder polder. -/
  | opGenOpen (c : CmdRef) (io : Io)
  /-- OP_GEN_COMMIT (R187): Command that runs the commit wave, swaps the slots and starts the retirement timer. -/
  | opGenCommit (c : CmdRef) (io : Io)
  /-- OP_GEN_DISCARD (R186): Command that discards the staged slot through a synchronisation sweep. -/
  | opGenDiscard (c : CmdRef) (io : Io)
  /-- OP_GEN_STATUS (R197): Command that returns the generation state, the holder and the in-flight counts. -/
  | opGenStatus (c : CmdRef) (io : Io)
  /-- OP_COUNTER_READ (R424): Command that writes the counter block of one object to a host buffer. -/
  | opCounterRead (c : CmdRef) (io : Io)
  /-- OP_COUNTER_CLEAR (R424): Command that sets the running counts of one object to 0. -/
  | opCounterClear (c : CmdRef) (io : Io)
  /-- OP_LEDGER_CONFIG (R422): Command that enables or disables a polder's flow ledger and sets IDLE_S and ACTIVE_S. -/
  | opLedgerConfig (c : CmdRef) (io : Io)
  /-- OP_LEDGER_EXPORT_SET_SET (R423): OP_LEDGER_EXPORT_SET SET: configures, enables or disables a polder's export ring. -/
  | opLedgerExportSetSet (c : CmdRef) (io : Io)
  /-- OP_LEDGER_EXPORT_SET_READ (R423): OP_LEDGER_EXPORT_SET READ: returns the producer count, the bank states and EPOCH_CURRENT. -/
  | opLedgerExportSetRead (c : CmdRef) (io : Io)
  /-- OP_LEDGER_EXPORT_SET_FLUSH (R423): OP_LEDGER_EXPORT_SET FLUSH: exports every ledger flow of the polder as an interim record, in steps. -/
  | opLedgerExportSetFlush (c : CmdRef) (io : Io)
  /-- OP_METER_SET_WEIR_SET (R421): OP_METER_SET WEIR_SET: creates or reconfigures a weir, effective from the next exchange. -/
  | opMeterSetWeirSet (c : CmdRef) (io : Io)
  /-- OP_METER_SET_WEIR_READ (R421): OP_METER_SET WEIR_READ: returns the weir's buckets and the tokens granted to satellites. -/
  | opMeterSetWeirRead (c : CmdRef) (io : Io)
  /-- OP_METER_SET_WEIR_DELETE (R421): OP_METER_SET WEIR_DELETE: deletes a weir. -/
  | opMeterSetWeirDelete (c : CmdRef) (io : Io)
  /-- OP_METER_SET_RULE_SET (R403): OP_METER_SET RULE_SET: writes a tenant rule to all four copies. -/
  | opMeterSetRuleSet (c : CmdRef) (io : Io)
  /-- OP_METER_SET_RULE_DELETE (R421): OP_METER_SET RULE_DELETE: deletes a tenant rule from all four copies. -/
  | opMeterSetRuleDelete (c : CmdRef) (io : Io)
  /-- OP_SCHED_SET_SET (R389): OP_SCHED_SET SET: sets a port's group mode, ADJ and quanta. -/
  | opSchedSetSet (c : CmdRef) (io : Io)
  /-- OP_SCHED_SET_SET_MC (R389): OP_SCHED_SET SET_MC: sets the quanta of a port's multicast queues. -/
  | opSchedSetSetMc (c : CmdRef) (io : Io)
  /-- OP_SCHED_SET_READ (R389): OP_SCHED_SET READ: returns a port's group mode, ADJ and group quanta. -/
  | opSchedSetRead (c : CmdRef) (io : Io)
  /-- OP_SHAPER_SET_SET (R373): OP_SHAPER_SET SET: holds new shaper values pending until the bucket's next refill. -/
  | opShaperSetSet (c : CmdRef) (io : Io)
  /-- OP_SHAPER_SET_READ (R390): OP_SHAPER_SET READ: returns the buckets, deficit and wheel state of a node. -/
  | opShaperSetRead (c : CmdRef) (io : Io)
  /-- OP_TIDE_TABLE_SET_SET (R380): OP_TIDE_TABLE_SET SET: loads a gate list by DMA and schedules it for its configuration change time. -/
  | opTideTableSetSet (c : CmdRef) (io : Io)
  /-- OP_TIDE_TABLE_SET_DISABLE (R380): OP_TIDE_TABLE_SET DISABLE: disables a port's Tide Table and opens every gate. -/
  | opTideTableSetDisable (c : CmdRef) (io : Io)
  /-- OP_TIDE_TABLE_SET_READ (R391): OP_TIDE_TABLE_SET READ: writes the operational list and returns the table state. -/
  | opTideTableSetRead (c : CmdRef) (io : Io)
  /-- OP_GAUGE_SET_SET (R392): OP_GAUGE_SET SET: configures Tide Gauge sampling and export for a port and restarts its phase. -/
  | opGaugeSetSet (c : CmdRef) (io : Io)
  /-- OP_GAUGE_SET_READ (R392): OP_GAUGE_SET READ: writes a record of one queue's current interval. -/
  | opGaugeSetRead (c : CmdRef) (io : Io)
  /-- OP_GAUGE_SET_ARCHIVE_READ (R392): OP_GAUGE_SET ARCHIVE_READ: copies telemetry archive records to a host buffer, in steps. -/
  | opGaugeSetArchiveRead (c : CmdRef) (io : Io)
  /-- OP_POOL_SET_SET (R325): OP_POOL_SET SET: sets an owner account's MIN, MAX, ALPHA and XON_DELTA. -/
  | opPoolSetSet (c : CmdRef) (io : Io)
  /-- OP_POOL_SET_READ (R325): OP_POOL_SET READ: returns an account's counters, closed classes and FREE_SHARED. -/
  | opPoolSetRead (c : CmdRef) (io : Io)
  /-- OP_POOL_SET_RELEASE (R326): OP_POOL_SET RELEASE: releases one reference on a cell through the host injection path. -/
  | opPoolSetRelease (c : CmdRef) (io : Io)
  /-- OP_HEADROOM_SET (R327): Command that sets the headroom reservation of chosen classes of a port. -/
  | opHeadroomSet (c : CmdRef) (io : Io)
  /-- OP_PFC_SET (R328): Command that sets a port's pause mode, storm break, quanta, ECN threshold and class maps. -/
  | opPfcSet (c : CmdRef) (io : Io)
  /-- OP_SPILL_SET_QUEUE (R355): OP_SPILL_SET QUEUE: sets a unicast queue's flood THRESHOLD and BASIN_MAX. -/
  | opSpillSetQueue (c : CmdRef) (io : Io)
  /-- OP_SPILL_SET_LONG_REACH (R355): OP_SPILL_SET LONG_REACH: sets or removes the long-reach headroom of a port and class. -/
  | opSpillSetLongReach (c : CmdRef) (io : Io)
  /-- OP_SPILL_SET_READ_QUEUE (R355): OP_SPILL_SET READ_QUEUE: returns a queue's flood state and basin use. -/
  | opSpillSetReadQueue (c : CmdRef) (io : Io)
  /-- OP_SPILL_SET_READ_LR (R355): OP_SPILL_SET READ_LR: returns a long-reach class's LRQ contents and LR_MIB. -/
  | opSpillSetReadLr (c : CmdRef) (io : Io)
  /-- OP_FAULT_CONFIG_SET (R467): OP_FAULT_CONFIG SET: sets severity, escalation, alarm and grace for a range of sources. -/
  | opFaultConfigSet (c : CmdRef) (io : Io)
  /-- OP_FAULT_CONFIG_READ (R467): OP_FAULT_CONFIG READ: returns one source's configuration and state. -/
  | opFaultConfigRead (c : CmdRef) (io : Io)
  /-- OP_FAULT_CONFIG_HISTORY (R467): OP_FAULT_CONFIG HISTORY: writes the visible fault history entries, newest first. -/
  | opFaultConfigHistory (c : CmdRef) (io : Io)
  /-- OP_FAULT_CONFIG_LATCHED (R467): OP_FAULT_CONFIG LATCHED: writes the 512-byte bitmap of latched visible sources. -/
  | opFaultConfigLatched (c : CmdRef) (io : Io)
  /-- OP_FAULT_ACK (R468): Command that stops a source's running MAJOR grace timer. -/
  | opFaultAck (c : CmdRef) (io : Io)
  /-- OP_FAULT_CLEAR (R469): Command that clears the latched bits of sources that are not live, and optionally the first-fault registers. -/
  | opFaultClear (c : CmdRef) (io : Io)
  /-- OP_LOG_READ (R493): Command that writes visible event records, in SEQ order, from the on-die or persistent log. -/
  | opLogRead (c : CmdRef) (io : Io)
  /-- OP_LOG_FREEZE (R494): Command that takes the caller's freeze of the on-die log. -/
  | opLogFreeze (c : CmdRef) (io : Io)
  /-- OP_LOG_THAW (R494): Command that releases the caller's freeze of the log. -/
  | opLogThaw (c : CmdRef) (io : Io)
  /-- OP_LOG_RATE_SET_SET (R495): OP_LOG_RATE_SET SET: sets the RATE and BURST of an event directory slot. -/
  | opLogRateSetSet (c : CmdRef) (io : Io)
  /-- OP_LOG_RATE_SET_READ (R495): OP_LOG_RATE_SET READ: returns a slot's code, rate, burst and suppression counts. -/
  | opLogRateSetRead (c : CmdRef) (io : Io)
  /-- OP_POLDER_DEFINE_DEFINE (R88): OP_POLDER_DEFINE DEFINE: reads a definition record by DMA and defines a new polder. -/
  | opPolderDefineDefine (c : CmdRef) (io : Io)
  /-- OP_POLDER_DEFINE_MODIFY (R90): OP_POLDER_DEFINE MODIFY: changes a defined polder, including a move to a new owner endpoint. -/
  | opPolderDefineModify (c : CmdRef) (io : Io)
  /-- OP_POLDER_DEFINE_UNDEFINE (R89): OP_POLDER_DEFINE UNDEFINE: takes a polder's ports down, deletes its entries and frees its resources, in steps. -/
  | opPolderDefineUndefine (c : CmdRef) (io : Io)
  /-- OP_SLUICE_SET (R98): Warden command that opens or closes one or both directions of a sluice. -/
  | opSluiceSet (c : CmdRef) (io : Io)
  /-- OP_WARDEN_HANDOVER (R108): Warden command that verifies a signed token and hands the warden role to another endpoint. -/
  | opWardenHandover (c : CmdRef) (io : Io)
  /-- OP_PORT_CONFIG (R136): Command that forms a port from lanes, dissolving overlapping ports and setting defaults. -/
  | opPortConfig (c : CmdRef) (io : Io)
  /-- OP_PORT_STATE_READ (R137): OP_PORT_STATE READ: returns a port's state entry, link-loss count and locked lanes. -/
  | opPortStateRead (c : CmdRef) (io : Io)
  /-- OP_PORT_STATE_ADMIN_UP (R129): OP_PORT_STATE ADMIN_UP: brings a port administratively up, powering its macro and starting training. -/
  | opPortStateAdminUp (c : CmdRef) (io : Io)
  /-- OP_PORT_STATE_ADMIN_DOWN (R129): OP_PORT_STATE ADMIN_DOWN: takes a port down and frees its queued frames as DR_EGRESS_DOWN. -/
  | opPortStateAdminDown (c : CmdRef) (io : Io)
  /-- OP_PORT_STATE_RETRAIN (R129): OP_PORT_STATE RETRAIN: treats an UP port as having lost its link. -/
  | opPortStateRetrain (c : CmdRef) (io : Io)
  /-- OP_PORT_HOLD_SET (R138): Command that sets HOLD_US and optionally breaks a running link-down hold. -/
  | opPortHoldSet (c : CmdRef) (io : Io)
  /-- OP_TIME_SET_SET (R401): OP_TIME_SET SET: sets device time at the commit or at the next 1PPS_IN edge. -/
  | opTimeSetSet (c : CmdRef) (io : Io)
  /-- OP_TIME_SET_STEP (R401): OP_TIME_SET STEP: adds a signed offset to device time. -/
  | opTimeSetStep (c : CmdRef) (io : Io)
  /-- OP_TIME_SET_FREQ (R401): OP_TIME_SET FREQ: sets the frequency adjustment of device time. -/
  | opTimeSetFreq (c : CmdRef) (io : Io)
  /-- OP_TIME_SET_SLEW (R401): OP_TIME_SET SLEW: absorbs an offset by adjusting FREQ by 100 ppm. -/
  | opTimeSetSlew (c : CmdRef) (io : Io)
  /-- OP_TIME_CAPTURE (R402): Command that returns device time at the commit or at the last PPS edge. -/
  | opTimeCapture (c : CmdRef) (io : Io)
  /-- OP_STORE_RELOAD (R515): Warden command that re-verifies the loaded image and rewrites one control store. -/
  | opStoreReload (c : CmdRef) (io : Io)
  /-- OP_DIAG_LOOPBACK (R536): Diagnostic command that sets near-end, far-end or no loopback on a port. -/
  | opDiagLoopback (c : CmdRef) (io : Io)
  /-- OP_DIAG_BIST (R537): Diagnostic command that runs BIST on a memory group, zeroing it. -/
  | opDiagBist (c : CmdRef) (io : Io)
  /-- OP_DIAG_PRBS_START (R538): OP_DIAG_PRBS START: starts sending and checking a PRBS pattern on a lane. -/
  | opDiagPrbsStart (c : CmdRef) (io : Io)
  /-- OP_DIAG_PRBS_READ (R538): OP_DIAG_PRBS READ: returns the bit errors and bits compared since START. -/
  | opDiagPrbsRead (c : CmdRef) (io : Io)
  /-- OP_DIAG_PRBS_STOP (R538): OP_DIAG_PRBS STOP: stops the PRBS pattern and returns the error counts. -/
  | opDiagPrbsStop (c : CmdRef) (io : Io)
  /-- COMMAND_RING_DOORBELL (R42): A doorbell write of a producer count to a command ring, accepted, stale or out of range. -/
  | commandRingDoorbell (e : Nat) (n : Nat) (v : Word) (parity : Bool)
  /-- COMPLETION_RING_DOORBELL (R42): A doorbell write of a consumer count to a completion ring. -/
  | completionRingDoorbell (e : Nat) (n : Nat) (v : Word) (parity : Bool)
  /-- RECEIVE_QUEUE_DOORBELL (R42): A doorbell write posting receive buffers to a receive queue. -/
  | receiveQueueDoorbell (e : Nat) (q : Nat) (v : Word) (parity : Bool)
  /-- TRANSMIT_QUEUE_DOORBELL (R42): A doorbell write posting frame descriptors to a transmit queue. -/
  | transmitQueueDoorbell (e : Nat) (q : Nat) (v : Word) (parity : Bool)
  /-- STRAY_DOORBELL (R43): A doorbell write to an unassigned slot, of a bad width, or to a stopped or disabled ring, which is ignored and counted. -/
  | strayDoorbell (ep : Nat) (off : Nat) (width : Nat) (v : BitVec 64)
  /-- DESCRIPTOR_FETCH (R45): The device issues the DMA fetch of the next descriptor when one of the endpoint's 16 places is free. -/
  | descriptorFetch (e : Nat)
  /-- DESCRIPTOR_FETCH_RETURN (R48): A fetched descriptor returns and is checked, or its fetch error stops the ring. -/
  | descriptorFetchReturn (ep : Nat) (ring : Nat) (desc : Option Descriptor) (check : Ecc)
  /-- COMMAND_DISPATCH (R58): The dispatcher starts the next step of a command on a free command engine. -/
  | commandDispatch
  /-- COMMAND_COMMIT (R53): A command's completion enters the internal completion queue, and its outcome becomes final. -/
  | commandCommit (c : CmdRef)
  /-- COMPLETION_WRITE (R52): A committed completion is written to its completion ring with its phase bit when there is room. -/
  | completionWrite (e : Nat) (n : Nat)
  /-- ENDPOINT_DOWN (R40): PE_PERST_N, a function-level reset, link loss or a Bus Master Enable clear takes an endpoint down. -/
  | endpointDown (ep : Nat) (cause : EpCause)
  /-- EP_CR_CFG_WRITE (R41): A write to a command ring's configuration, enabling, disabling or rejecting it. -/
  | epCrCfgWrite (e : Nat) (n : Nat) (dword : Nat) (v : Word)
  /-- EP_CQ_CFG_WRITE (R44): A write to a completion ring's configuration, enabling or disabling it. -/
  | epCqCfgWrite (e : Nat) (n : Nat) (dword : Nat) (v : Word)
  /-- EP_RXQ_CFG_WRITE (R41): A write to a receive queue's configuration. -/
  | epRxqCfgWrite (ep : Nat) (q : Nat) (dword : Nat) (v : Word)
  /-- EP_TXQ_CFG_WRITE (R41): A write to a transmit queue's configuration. -/
  | epTxqCfgWrite (ep : Nat) (q : Nat) (dword : Nat) (v : Word) (eops : List Bool)
  /-- RING_DISABLE_DONE (R44): A command ring whose ENABLE was cleared becomes DISABLED once every fetched command has committed. -/
  | ringDisableDone (e : Nat) (n : Nat)
  /-- EP_RESYNC_GO (R77): A write of EP_RESYNC_CTRL.GO that starts a ringless summary. -/
  | epResyncGo (ep : Nat) (v : Word)
  /-- RESYNC_DONE (R77): The ringless summary has been written; BUSY clears and DONE or ERR is set. -/
  | resyncDone (ep : Nat) (err : Bool)
  /-- RX_FRAME_DELIVERY (R60): A frame is written into posted receive buffers and their write-backs are made. -/
  | rxFrameDelivery (ep : Nat) (posted : List (Nat × Nat)) (err : Bool)
  /-- RX_QUEUE_STARVED (R61): A receive queue has had no buffer for its starvation limit and enters STARVED. -/
  | rxQueueStarved (ep : Nat) (q : Nat)
  /-- TX_FRAME_FETCH (R63): The device fetches the next transmit frame of an endpoint by DMA and injects it on the host port. -/
  | txFrameFetch (ep : Nat) (descs : List (BitVec 256)) (bytes : Option (List Byte))
  /-- MSIX_MESSAGE (R65): A vector's message is sent once COUNT events have gathered. -/
  | msixMessage (e : Nat) (v : Nat)
  /-- MSIX_DELAY_EXPIRY (R65): A vector's DELAY passes since its first unsignalled event, and its message is sent. -/
  | msixDelayExpiry (e : Nat) (v : Nat)
  /-- MSIX_UNMASK (R65): A write that unmasks a vector or the function, or enables MSI-X, releasing a held message. -/
  | msixUnmask (e : Nat) (what : Unmask)
  /-- SOF_PRE_INDICATION (R127): The receive PCS of a port decodes a start of frame, signalling its pipeline. -/
  | sofPreIndication (port : Nat) (frame : List Byte)
  /-- HEADER_WINDOW_COMPLETE (R31): A packet's header window is held and it enters its 58-cycle pass: parse, lookup, resolve and admission. -/
  | headerWindowComplete (pipe : Nat) (wire : List (Nat × List Byte)) (flaws : Flaws) (upper : Bool)
  /-- FRAME_LAST_BYTE (R271): The ingress MAC receives a frame's last byte and learns its FCS result, setting STOMP in the EOP cell. -/
  | frameLastByte (pid : Nat) (fcsOk : Bool) (fec : Fec)
  /-- CELL_WRITE_CROSSING (R253): A cell crosses a plane toward its bank pair, and a cut-through cell is delivered to the egress pipeline too. -/
  | cellWriteCrossing (ready : List (Nat × Carried))
  /-- WRITE_CONFIRM (R289): A bank pair acknowledges both halves of a cell, which becomes CONFIRMED. -/
  | writeConfirm (cell : Nat)
  /-- CONFIRM_TIMEOUT (R289): A store-and-forward packet not fully confirmed within 64 cycles is discarded as DR_PLANE_ECC. -/
  | confirmTimeout (pid : Nat)
  /-- CELL_ARRIVAL_EGRESS (R259): A cell reaches an egress resequencer and is released, held, or discarded as late. -/
  | cellArrivalEgress (k : Nat) (how : Carried)
  /-- RESEQ_GAP_TIMEOUT (R260): A stream's gap timer reaches 2 µs and the stream skips the gap. -/
  | reseqGapTimeout (pipe : Nat) (stream : Nat)
  /-- DISPATCH_DECISION (R364): The Escapement chooses the next frame for a ready port and dispatches it to the Rewrite Engine. -/
  | dispatchDecision (pipe : Nat) (flaws : Flaws)
  /-- REWRITE_LENGTH_CHARGE (R362): The net bytes added by rewrite are charged to the buckets and deficits 10 cycles after dispatch. -/
  | rewriteLengthCharge (port : Nat)
  /-- FRAME_TRANSMIT_END (R280): A frame's or copy's last bit leaves the egress MAC, and its copy reaches DONE. -/
  | frameTransmitEnd (port : Nat)
  /-- TX_UNDERRUN (R272): The MAC needs a cell that is not in hand and ends the frame stomped. -/
  | txUnderrun (port : Nat)
  /-- MC_COPY_HOLD_DROP (R279): A back-pressured multicast copy queued for MC_HOLD_US is dropped. -/
  | mcCopyHoldDrop (port : Nat) (m : Nat)
  /-- CELL_RELEASE (R300): A party releases a reference on a cell, freeing it at zero, or is rejected as a double or foreign free. -/
  | cellRelease (party : Nat) (cell : Nat) (acct : Nat) (parity : Bool)
  /-- FREE_LIST_REFILL (R286): A free list reads the next chain link into its head cache, or links returned cells into its chain. -/
  | freeListRefill (list : Nat) (check : Ecc)
  /-- ORPHAN_SWEEP_VISIT (R305): The orphan sweep visits one cell descriptor and marks or reclaims an unconfirmed cell. -/
  | orphanSweepVisit (check : Ecc)
  /-- FREELIST_REBUILD_DONE (R306): A free list rebuilt from the descriptors grants again. -/
  | freelistRebuildDone (list : Nat)
  /-- ACCOUNT_REBUILD_DONE (R306): An account's counters have been rebuilt in one sweep pass and its classes may reopen. -/
  | accountRebuildDone (acct : Nat)
  /-- HOLD_BUS_NOTICE (R307): A class change or release notice reaches the Flow-Control Unit, which sets the XOFF bit. -/
  | holdBusNotice (port : Nat) (cls : Nat)
  /-- PFC_FRAME_SEND (R309): The Flow-Control Unit sends a PFC or PAUSE frame at the port's next frame boundary. -/
  | pfcFrameSend (port : Nat)
  /-- PFC_REFRESH (R309): The refresh interval passes while a class is in XOFF and the pause frame is repeated. -/
  | pfcRefresh (port : Nat)
  /-- PFC_FRAME_RECEIVE (R311): A received PFC frame loads the pause timers of its classes. -/
  | pfcFrameReceive (port : Nat) (vector : Nat) (times : List Nat)
  /-- PAUSE_FRAME_RECEIVE (R311): A received PAUSE frame pauses every queue of a port in PAUSE mode. -/
  | pauseFrameReceive (port : Nat) (time : Nat)
  /-- MAC_CONTROL_RECEIVE (R311): A MAC Control frame of another opcode, or of the wrong mode, is consumed, ignored or dropped. -/
  | macControlReceive (port : Nat) (opcode : Nat)
  /-- PAUSE_TIMER_EXPIRY (R311): A class's received pause timer runs out and its queues unpause. -/
  | pauseTimerExpiry (port : Nat) (cls : Nat)
  /-- PAUSE_STORM (R318): A queue paused for STORM_MS enters storm and may start a break. -/
  | pauseStorm (port : Nat) (queue : Nat)
  /-- PAUSE_BREAK_END (R319): RECOVER_MS ends and received pauses are honoured again. -/
  | pauseBreakEnd (port : Nat) (queue : Nat)
  /-- LINK_LOSS_DECLARED (R130): A lane cause holds for DEBOUNCE_US and link loss is declared, starting the hold. -/
  | linkLossDeclared (port : Nat) (cause : Nat) (lane : Nat) (held : Bool)
  /-- LANE_RECHECK (R125): A lane fault report is re-checked after 100 µs and classed transient or lasting. -/
  | laneRecheck (l : Nat) (gone : List Nat)
  /-- LINK_UP (R129): All lanes lock with FEC and PCS aligned and no fault, and the port enters UP. -/
  | linkUp (port : Nat)
  /-- HOLD_EXPIRY (R132): A link-down hold expires, freeing the port's queued frames. -/
  | holdExpiry (port : Nat)
  /-- REALIGN_TIMEOUT (R130): After 1 ms in HOLD_RUNNING a CR or KR port restarts negotiation and training. -/
  | realignTimeout (port : Nat)
  /-- TRAINING_TIMEOUT (R124): A port fails to train within TRAIN_TIMEOUT and records EV_TRAINING_FAILED. -/
  | trainingTimeout (port : Nat) (phase : Nat)
  /-- TRAINING_RESTART (R124): After a 10 ms wait the port restarts from negotiation. -/
  | trainingRestart (port : Nat)
  /-- MACRO_POWER_UP_DONE (R126): A powered-on macro finishes calibration and training may begin. -/
  | macroPowerUpDone (octal : Nat) (failed : Nat)
  /-- QUEUE_FLUSH_DONE (R323): A flush frees the last frame of a port's queues, which become BARRED. -/
  | queueFlushDone (port : Nat)
  /-- ADAPTATION_SLICE (R28): An adaptation engine serves one lane in a 15.625 µs slice. -/
  | adaptationSlice (engine : Nat)
  /-- PIPELINE_SLEEP_ENTRY (R531): A pipeline idle for SLEEP_US gates its clocks. -/
  | pipelineSleepEntry (pipe : Nat)
  /-- PIPELINE_WAKE (R532): A wake trigger restarts a sleeping pipeline within 153 cycles. -/
  | pipelineWake (pipe : Nat) (late : Bool)
  /-- LEARN_EVENT_PASS (R207): The learn ring sequencer passes one offered event and numbers it. -/
  | learnEventPass
  /-- LEARN_EVENT_APPLY (R208): A quadrant copy applies a ring event to its MAC table. -/
  | learnEventApply (quad : Nat) (check : Ecc) (draw : Nat)
  /-- LEARN_APPLY_LAG (R210): A copy holds an event unapplied for more than 2 µs and raises FS_LRN_APPLY_LAG. -/
  | learnApplyLag (quad : Nat)
  /-- RELOCATION_MOVE (R223): The relocation walker moves an entry towards freeing a place for a stash entry. -/
  | relocationMove (quad : Nat) (table : Nat) (path : List Nat)
  /-- AGING_VISIT (R215): The aging sweeper visits a bucket row and clears HIT or offers AGE_MARK or REMOVE. -/
  | agingVisit (quad : Nat)
  /-- GL_LRN_SWEEP_WRITE (R214): A write of the sweep period, which starts, stops or changes aging. -/
  | glLrnSweepWrite (ep : Nat) (v : Word)
  /-- GEN_DRAIN_DONE (R186): No packet of the holder bears the draining slot's tag, and the slot retires. -/
  | genDrainDone
  /-- RETIREMENT_TIMER_EXPIRY (R188): The retirement timer expires and the draining slot is force-retired. -/
  | retirementTimerExpiry
  /-- SYNC_SWEEP_DONE (R186): The synchronisation sweep finishes and the non-current slot is IDLE. -/
  | syncSweepDone
  /-- PLANE_FAILURE (R264): A plane is found failed by missing or uncorrectable headers or by its self-check. -/
  | planeFailure (plane : Nat) (pipe : Nat) (cause : Nat)
  /-- PLANE_REMOVED (R265): Every pipeline has withdrawn from a failed plane, and resequencers skip old gaps. -/
  | planeRemoved (plane : Nat)
  /-- PLANE_SELF_CHECK (R265): 10 µs after removal the plane's self-check is repeated to class the fault. -/
  | planeSelfCheck (plane : Nat) (ok : Bool)
  /-- PLANE_RESTORE (R265): A write of GL_SWC_PLANE_CTRL.RESTORE starts BIST of a removed plane. -/
  | planeRestore (ep : Nat) (v : Word)
  /-- PLANE_BIST_DONE (R265): A restored plane's BIST finishes and the plane becomes ACTIVE or stays REMOVED. -/
  | planeBistDone (plane : Nat) (ok : Bool)
  /-- BASIN_WRITE_COMPLETE (R339): A staged packet's basin write completes, and its cells are released from its account. -/
  | basinWriteComplete (backlog : List Nat)
  /-- BASIN_READ_COMPLETE (R340): A read-back from the basin arrives in RETURN, or an uncorrectable error discards packets. -/
  | basinReadComplete (k : Nat) (n : Nat) (err : BasinErr)
  /-- SEGMENT_WALKER_RETURN (R342): The background walker returns a detached segment to its free pool. -/
  | segmentWalkerReturn
  /-- LRQ_RETURN (R348): A frame read back from an LRQ enters admission for its resolved destination. -/
  | lrqReturn (port : Nat) (cls : Nat) (err : BasinErr)
  /-- CXL_PORT_LOSS (R350): A CXL port is lost and the basins of queues holding segments on it are discarded. -/
  | cxlPortLoss (port : Nat) (cause : Nat)
  /-- CXL_RESTORE (R351): A write of GL_SPW_CXL_CTRL.RESTORE re-enumerates a lost port. -/
  | cxlRestore (ep : Nat) (v : Word)
  /-- CXL_ENUMERATION (R352): Regulator 1 enumerates an enabled CXL port on entry to PROVISIONING or on restore. -/
  | cxlEnumeration (port : Nat)
  /-- CXL_ENUMERATION_DONE (R352): A port's enumeration ends, placing it in service or leaving it out. -/
  | cxlEnumerationDone (port : Nat) (failed : Nat) (capMib : Nat) (width : Nat) (rate : Nat)
  /-- BASIN_AUDIT (R349): Regulator 1's audit visits segments and reclaims unreachable ones. -/
  | basinAudit (seg : Nat)
  /-- HBM_STACK_FAILURE (R351): An HBM stack or its controller fails and every HBM region is lost. -/
  | hbmStackFailure (stack : Nat)
  /-- GL_SPW_MAP_WRITE (R333): A write of the HBM region map, accepted or rejected with CFG_ERR. -/
  | glSpwMapWrite (ep : Nat) (v : Word)
  /-- SHAPER_REFILL_SWEEP (R371): The refill sweep visits a bucket, taking up pending values. -/
  | shaperRefillSweep (bucket : Nat)
  /-- SHAPER_WHEEL_FIRE (R372): A bucket's wheel entry fires and the bucket is refilled. -/
  | shaperWheelFire (bucket : Nat)
  /-- COARSE_WHEEL_SLOT (R372): At a coarse slot's start its entries move to the fine wheel. -/
  | coarseWheelSlot (pipe : Nat) (slot : Nat)
  /-- TIDE_CCT_REACHED (R380): A pending gate list becomes operational at its configuration change time. -/
  | tideCctReached (port : Nat)
  /-- TIDE_GATE_CHANGE (R376): The gate list moves to its next entry, opening and closing gates. -/
  | tideGateChange (port : Nat)
  /-- TIDE_LIST_ECC (R382): An uncorrectable error in the operational list disables the port's table. -/
  | tideListEcc (port : Nat) (entry : Nat)
  /-- GAUGE_SAMPLE (R383): The Tide Gauge samples the depth and delay of a port's enabled queues. -/
  | gaugeSample (port : Nat)
  /-- GAUGE_INTERVAL_END (R385): A gauge interval ends and records are emitted to rings and archive. -/
  | gaugeIntervalEnd (port : Nat)
  /-- EP_GAUGE_RING_WRITE (R387): A write to the gauge export ring's configuration or consumer count. -/
  | epGaugeRingWrite (ep : Nat) (dword : Nat) (v : Word)
  /-- EPOCH_END (R406): Device time reaches the end of the current minute epoch. -/
  | epochEnd
  /-- BANK_FREEZE (R408): CLOSE_MS after an epoch's end the polder's bank freezes and export begins. -/
  | bankFreeze (polder : Nat)
  /-- MINUTE_RECORD_WRITE (R411): The next export record is written to a polder's export ring when there is room. -/
  | minuteRecordWrite (polder : Nat)
  /-- EP_MRP_RING_CONS_WRITE (R411): Software returns its consumer count of a polder's export ring. -/
  | epMrpRingConsWrite (ep : Nat) (polder : Nat) (v : Word)
  /-- COMBINED_UPDATE (R405): A combining front end passes a merged tenant update to the counter store. -/
  | combinedUpdate (k : Nat) (bad : Option Nat)
  /-- LEDGER_MISS (R414): A ledger cache miss reads a flow's home slot from the basin. -/
  | ledgerMiss (bad : Bool) (evict : Option Nat)
  /-- LEDGER_WALKER_VISIT (R416): The ledger walker visits a slot and exports idle or active flows. -/
  | ledgerWalkerVisit (slot : Nat) (bad : Bool)
  /-- WEIR_EXCHANGE (R419): Every 4 µs the satellites return and request tokens and the home meter grants them. -/
  | weirExchange
  /-- WEIR_HOLD_RELEASE (R418): A weir's peak bucket is no longer negative and the held XOFF is released. -/
  | weirHoldRelease (weir : Nat) (port : Nat) (cls : Nat)
  /-- PPS_OUT_EDGE (R399): 1PPS_OUT rises as device time crosses a whole second plus the offset. -/
  | ppsOutEdge
  /-- PPS_IN_EDGE (R399): A rising edge on 1PPS_IN captures device time, applying a pending AT_PPS time set. -/
  | ppsInEdge
  /-- AT_PPS_TIMEOUT (R401): An AT_PPS time set sees no edge for 2 s and completes with ST_TIMEOUT. -/
  | atPpsTimeout
  /-- TIME_REF_LOSS (R396): TIME_REF_IN is absent for 10 µs and the timebase holds its frequency. -/
  | timeRefLoss
  /-- SLEW_COMPLETE (R401): A slew's offset is used up and its frequency adjustment ends. -/
  | slewComplete
  /-- GL_MRP_CFG_WRITE (R400): A write of OFFSET_MS or CLOSE_MS; a changed OFFSET_MS is a time step. -/
  | glMrpCfgWrite (ep : Nat) (v : Word)
  /-- FAULT_REPORT (R444): The Dike Watch samples a source turning live and takes the reaction of its severity. -/
  | faultReport
  /-- GRACE_TIMER_EXPIRY (R451): A MAJOR grace timer expires and the report escalates. -/
  | graceTimerExpiry (src : Nat)
  /-- CRITICAL_GRACE_EXPIRY (R452): A CRITICAL grace ends and the reaction is taken or avoided. -/
  | criticalGraceExpiry (src : Nat)
  /-- FAULT_RETRY_RESULT (R454): A retry of a repeatable check passes and the report is reclassed transient. -/
  | faultRetryResult (src : Nat) (passed : Bool)
  /-- TOURBILLON_VISIT (R465): A Tourbillon sweeper reads a protected word and handles any error it finds. -/
  | tourbillonVisit (sweeper : Nat) (mem : Nat) (inst : Nat) (addr : Nat) (check : Ecc) (weak : Bool) (args : List Nat)
  /-- RECORD_ADMIT (R476): The recorder admits a record, applies its rate limit and writes it to the log. -/
  | recordAdmit (check : Ecc)
  /-- SUPPRESSION_SUMMARY (R481): A suppression episode ends or runs 10 s and EV_SUPPRESSED is made. -/
  | suppressionSummary (slot : Nat)
  /-- LOG_FREEZE_LIMIT (R484): A freeze reaches 100 ms and the log thaws by the limit. -/
  | logFreezeLimit
  /-- HOLDING_FIFO_DRAIN (R485): After a thaw the holding FIFO drains into the log one record per cycle. -/
  | holdingFifoDrain (check : Ecc)
  /-- PERSISTENT_PAGE_PROGRAM (R489): Regulator 3 programs queued records into the persistent flash log. -/
  | persistentPageProgram (n : Nat) (ok : Bool)
  /-- FLASH_SECTOR_ERASE (R488): A persistent sector is erased ahead of use, or retired on wear or failure. -/
  | flashSectorErase (sector : Nat) (ok : Bool)
  /-- HOURMARK (R478): Every hour of AON ticks OP_HOURS advances and EV_HOURMARK is made. -/
  | hourmark
  /-- POWER_ON_SCAN_DONE (R477): The scan of persistent sector headers ends and POWER_CYCLES is rewritten. -/
  | powerOnScanDone (sectors : List (Nat × List Byte)) (hours : Nat)
  /-- POR_N_DEASSERT (R525): POR_N deasserts: straps are sampled and the device enters DORMANT. -/
  | porNDeassert (straps : List Nat) (broken : List Nat)
  /-- POR_N_ASSERT (R554): POR_N asserts, or an AON rail falls too low, and every domain resets. -/
  | porNAssert
  /-- SYS_RST_N (R554): SYS_RST_N is asserted then deasserted, taking the device to DORMANT. -/
  | sysRstN
  /-- LOAD_START (R498): A load starts by itself after reset from the strapped source. -/
  | loadStart (flash : List Byte)
  /-- GL_BOOT_CTRL_GO (R500): The warden writes GO to start a host-pushed image load. -/
  | glBootCtrlGo (ep : Nat)
  /-- IMAGE_REJECTED (R504): An image attempt fails a check, its stores are zeroed and the next source is tried. -/
  | imageRejected (src : Nat) (cause : Nat) (version : Nat)
  /-- IMAGE_LOAD_ACCEPTED (R506): An image passes every check; fuses are blown, stores lock and the device leaves LOADING. -/
  | imageLoadAccepted (src : Nat) (img : List Byte) (tables : ImageTables) (fuseBad : Bool)
  /-- CORE_PLL_LOCK_TIMEOUT (R524): The core PLL fails to lock within 50 µs and is restarted or the device returns to DORMANT. -/
  | corePllLockTimeout
  /-- CORE_PLL_LOCK_LOSS (R524): The core PLL loses lock while powered, a CRITICAL shared fault. -/
  | corePllLockLoss
  /-- REF100_LOSS (R523): The 100 MHz reference is lost and the AON clock runs from its oscillator. -/
  | ref100Loss
  /-- THERMAL_TRIP (R563): A sensor reads 125 °C for 10 µs and the device gates its core and enters DORMANT. -/
  | thermalTrip (temps : List Nat)
  /-- THERM_N_CROSSING (R563): The junction crosses 115 °C or falls below 110 °C and THERM_N changes. -/
  | thermNCrossing (temps : List Nat)
  /-- CALIBRATION_PASS (R534): The Balance sequencer reads the sensors and delay monitors every 1 ms. -/
  | calibrationPass (temps : List Nat)
  /-- AVS_WRITE (R551): The device writes a new VDD_CORE set point over AVSBus. -/
  | avsWrite (mv : Nat) (confirm : Bool)
  /-- AVS_CONFIRM_TIMEOUT (R551): The regulator does not confirm an AVSBus write within 1 ms. -/
  | avsConfirmTimeout
  /-- DRAIN_COMPLETE (R528): The device is drained and enters PROVISIONING. -/
  | drainComplete
  /-- DRAIN_LIMIT_EXPIRY (R528): DRAIN_MS passes, remaining frames are freed as DR_DRAIN_LIMIT and PROVISIONING is entered. -/
  | drainLimitExpiry
  /-- REGULATOR_TRAP (R513): A regulator executes an undefined instruction or leaves its windows and stops. -/
  | regulatorTrap (r : Nat) (word : Nat) (kind : Nat)
  /-- REGULATOR_STORE_UE (R463): An uncorrectable fetch stops a regulator or adaptation engine. -/
  | regulatorStoreUe (adp : Bool) (k : Nat) (word : Nat) (lasting : Bool)
  /-- CVU_DATA_WRITE (R431): A write of 1, 2 or 4 bytes to a context's data port. -/
  | cvuDataWrite (who : CvuParty) (ctx : Nat) (enables : Nat) (v : Word)
  /-- CVU_START (R435): A write of CTL.START reinitialises a context and enters its fold. -/
  | cvuStart (who : CvuParty) (ctx : Nat) (v : Word)
  /-- CVU_COMPARE (R437): A write of CTL.COMPARE judges RESULT against EXPECT and its parity. -/
  | cvuCompare (who : CvuParty) (ctx : Nat) (v : Word)
  /-- CVU_SLICE (R433): The engine enters one buffered write of a context in its round-robin slice. -/
  | cvuSlice (check : Ecc)
  /-- GL_CMD_ARB_WRITE (R58): A write of the arbitration weights and minima, which may set OVERCOMMIT. -/
  | glCmdArbWrite (ep : Nat) (dword : Nat) (v : Word)
  /-- EP_VEC_MAP_WRITE (R573): A write mapping an interrupt cause to a vector, checked against the polder blocks. -/
  | epVecMapWrite (ep : Nat) (cause : Nat) (v : Word)
  /-- WIDE_REGISTER_READ (R570): A read of a register wider than 32 bits that captures a snapshot. -/
  | wideRegisterRead (ep : Nat) (off : Nat) (width : Nat) (check : Ecc)
  /-- SETUP_REGISTER_WRITE (R571): A write to a set-up register that has no row of its own. -/
  | setupRegisterWrite (ep : Nat) (off : Nat) (width : Nat) (v : BitVec 64)
  /-- SMBUS_SUMMARY (R78): SMBus SUMMARY returns the 32-byte short form of the survey. -/
  | smbusSummary (pec : Bool)
  /-- SMBUS_TEMP_MAX (R559): SMBus TEMP_MAX returns the hottest sensor. -/
  | smbusTempMax (pec : Bool)
  /-- SMBUS_TEMP_ALL (R559): SMBus TEMP_ALL returns all 16 sensors. -/
  | smbusTempAll (pec : Bool)
  /-- SMBUS_RAILS (R559): SMBus RAILS returns the rail voltages. -/
  | smbusRails (pec : Bool)
  /-- SMBUS_IDENTITY (R559): SMBus IDENTITY returns DEVICE_TAG, versions, status and CHALLENGE. -/
  | smbusIdentity (pec : Bool)
  /-- SMBUS_TOKEN_LOAD (R560): SMBus TOKEN_LOAD places handover token bytes in the buffer. -/
  | smbusTokenLoad (data : List Byte) (pec : Option Byte)
  /-- SMBUS_TOKEN_APPLY (R560): SMBus TOKEN_APPLY checks and applies a handover token while the warden is down. -/
  | smbusTokenApply (pec : Option Byte)
  /-- SMBUS_TOKEN_STATUS (R559): SMBus TOKEN_STATUS returns the token buffer state and check code. -/
  | smbusTokenStatus (pec : Bool)
  /-- SMBUS_STALL_TIMEOUT (R559): A transaction stalled for 35 ms is abandoned and the bus released. -/
  | smbusStallTimeout
  /-- LED_FRAME (R558): Every 10 ms a 1,024-bit LED frame is sent and latched. -/
  | ledFrame
  /-- TAP_INSTRUCTION (R561): A JTAG instruction is decoded, limited by JTAG_LOCK and the mode. -/
  | tapInstruction (code : TapInstr)
  /-- ENDPOINT_UP (R40): An endpoint returns: PE_PERST_N deasserts, its link trains, and Bus Master Enable is set again, so rings can be enabled and the warden can act. -/
  | endpointUp (ep : Nat)
  /-- AN_MISMATCH (R117): Clause 73 negotiation fails because the partner does not offer the configured port type, and EV_AN_MISMATCH is recorded. -/
  | anMismatch (port : Nat) (page : Nat)
  /-- TIME_REF_RETURN (R396): The 10 MHz signal on TIME_REF_IN returns, the timebase locks to it again and FS_TMU_REF_LOST stops being live. -/
  | timeRefReturn
  /-- REF100_RETURN (R523): The 100 MHz reference returns, the AON clock leaves the internal oscillator and FS_CLK_REF_LOST stops being live. -/
  | ref100Return
  /-- SERDES_REF_LOSS (R540): The 156.25 MHz SerDes reference is lost while a macro is powered, and FS_CLK_SERDES_REF goes live. -/
  | serdesRefLoss
  /-- SERDES_REF_RETURN (R540): The 156.25 MHz SerDes reference returns and FS_CLK_SERDES_REF stops being live. -/
  | serdesRefReturn
  /-- MGMT_PLL_LOCK_LOSS (R540): The management PLL loses lock, making the CRITICAL shared source FS_CLK_MGMT_PLL live. -/
  | mgmtPllLockLoss
  /-- RAIL_OUT_OF_TOLERANCE (R568): A monitored supply rail leaves or re-enters its tolerance, changing FS_PWR_RAIL and recording EV_PWR_RAIL. -/
  | railOutOfTolerance (rail : Nat) (mv : Nat)
  /-- MEM_MARGIN_BROKEN (R550): VDD_MEM stays below VDD_CORE minus 50 mV for 1 us while the core is powered, making FS_PWR_MEM_MARGIN live. -/
  | memMarginBroken (mem : Nat) (core : Nat)
  /-- LIVE_WINDOW_EXPIRY (R444): A fault source's time window runs out, for example a 'last 1 ms' condition or 2 s without a 1PPS_IN edge, and the source's live status changes. -/
  | liveWindowExpiry (src : Nat)
  deriving DecidableEq, Repr

end Sys2Proof
end

