-- ==== Sys2Proof/Config.lean ====
section
/-! DEFINITION. What the spec leaves open: free values without a body, so that no proof can see what they are. -/
namespace Sys2Proof

/-- A value that the spec leaves undefined or does not state; the argument is the serial number of the
free value, `Dev.freeSeq` when it was drawn. -/
opaque Config.freeValue : Nat → BitVec 512

/-- Word `w` of the boot ROM's diagnostic contents for store kind `k` (17 R499). -/
opaque Config.diagRom : Nat → Nat → BitVec 512

/-- The bucket of a key in a way of a table that is organised like the MAC table, before it is cut to the table's size: the
arguments are the table, the way, the polder and the key (06 R193). -/
opaque Config.bucketOf : Nat → Nat → Nat → Nat → Nat

end Sys2Proof
end

