-- ==== Sys2Proof/Machine/Bits.lean ====
section
/-! DEFINITION. Bit fields, little-endian byte strings, cyclic redundancy checks, and the operations on
sparse tables: the helpers that every family uses. -/
namespace Sys2Proof.Machine

/-- Puts a member before the first one that it may stand before. -/
def insertBy {α : Type} (le : α → α → Bool) (x : α) : List α → List α
  | [] => [x]
  | y :: l => if le x y then x :: y :: l else y :: insertBy le x l
/-- Sorts by insertion; members that may stand either way keep their order. -/
def sortBy {α : Type} (le : α → α → Bool) (l : List α) : List α := l.foldr (insertBy le) []

/-- Bits [lsb + w - 1 : lsb] of a number. -/
def bits (n lsb w : Nat) : Nat := (n >>> lsb) % 2 ^ w

/-- One bit of a number. -/
def bitOf (n i : Nat) : Bool := n.testBit i

/-- 1 for true, 0 for false. -/
def b2n (b : Bool) : Nat := if b then 1 else 0

/-- Replaces bits [lsb + w - 1 : lsb] of a number by `v`. -/
def putBits (n lsb w v : Nat) : Nat :=
  n - (bits n lsb w) * 2 ^ lsb + (v % 2 ^ w) * 2 ^ lsb

/-- Packs fields (bit position, width, value) that do not overlap into one number (00 R12). -/
def pack (fs : List (Nat × Nat × Nat)) : Nat :=
  fs.foldl (fun n f => n + (f.2.2 % 2 ^ f.2.1) * 2 ^ f.1) 0

/-- The `k` low bytes of a number, least significant first (00 R8). -/
def leBytes : Nat → Nat → List Byte
  | 0, _ => []
  | k + 1, n => BitVec.ofNat 8 n :: leBytes k (n / 256)

/-- The `k` low bytes of a number, most significant first (network order, 00 R8). -/
def beBytes (k n : Nat) : List Byte := (leBytes k n).reverse

/-- The number a byte string spells, least significant byte first. -/
def leNat : List Byte → Nat
  | [] => 0
  | b :: t => b.toNat + 256 * leNat t

/-- The number a byte string spells, most significant byte first. -/
def beNat (bs : List Byte) : Nat := bs.foldl (fun n b => 256 * n + b.toNat) 0

/-- Ceiling division. -/
def cdiv (a b : Nat) : Nat := (a + b - 1) / b

/-- Positions of the set bits below `k`, ascending. -/
def setBits (n k : Nat) : List Nat := (List.range k).filter (fun i => n.testBit i)

/-- Number of set bits below `k`. -/
def popCount (n k : Nat) : Nat := (setBits n k).length

/-- Two's complement value of the low `w` bits. -/
def signed (w n : Nat) : Int := if n % 2 ^ w < 2 ^ (w - 1) then (n % 2 ^ w : Nat) else (n % 2 ^ w : Nat) - (2 ^ w : Nat)

/-- The low `w` bits of an integer in two's complement. -/
def unsigned (w : Nat) (i : Int) : Nat := (i % (2 ^ w : Nat)).toNat

/-! ### Cyclic redundancy checks -/

/-- One bit of a reflected cyclic redundancy check. -/
def crcBit (poly crc : Nat) : Nat := if crc % 2 = 1 then (crc / 2) ^^^ poly else crc / 2

/-- `k` bits of a reflected cyclic redundancy check. -/
def crcBits (poly : Nat) : Nat → Nat → Nat
  | 0, crc => crc
  | k + 1, crc => crcBits poly k (crcBit poly crc)

/-- A reflected cyclic redundancy check over bytes, from the register value `crc`, before the final XOR. -/
def crcRefl (poly : Nat) (bs : List Byte) (crc : Nat) : Nat :=
  bs.foldl (fun c b => crcBits poly 8 (c ^^^ b.toNat)) crc

/-- CRC-32C: polynomial 0x1EDC_6F41 reflected, initial value and final XOR 0xFFFF_FFFF (02 R47). -/
def crc32c (bs : List Byte) : Nat := crcRefl 0x82F63B78 bs 0xFFFFFFFF ^^^ 0xFFFFFFFF

/-- The Ethernet frame check sequence: CRC-32 with polynomial 0x04C1_1DB7 reflected (IEEE 802.3). -/
def crc32 (bs : List Byte) : Nat := crcRefl 0xEDB88320 bs 0xFFFFFFFF ^^^ 0xFFFFFFFF

/-! ### Sparse tables -/

/-- Reads a table: an unlisted index reads as the default. -/
def tget {α : Type} (t : Tab α) (d : α) (k : Nat) : α :=
  match t with
  | [] => d
  | (j, a) :: r => if j = k then a else tget r d k

/-- A table without index `k`. -/
def terase {α : Type} (t : Tab α) (k : Nat) : Tab α := t.filter (fun x => decide (x.1 ≠ k))

/-- A table with one more entry, before the first greater index. -/
def tins {α : Type} (t : Tab α) (k : Nat) (a : α) : Tab α :=
  match t with
  | [] => [(k, a)]
  | (j, b) :: r => if k < j then (k, a) :: (j, b) :: r else (j, b) :: tins r k a

/-- Writes a table, keeping indexes rising and no entry equal to the default. -/
def tset {α : Type} [DecidableEq α] (t : Tab α) (d : α) (k : Nat) (a : α) : Tab α :=
  if a = d then terase t k else tins (terase t k) k a

/-- Changes one entry of a table. -/
def tmod {α : Type} [DecidableEq α] (t : Tab α) (d : α) (k : Nat) (f : α → α) : Tab α :=
  tset t d k (f (tget t d k))

/-- Changes every listed value; what becomes the default is listed no longer. -/
def tmap {α : Type} [DecidableEq α] (t : Tab α) (d : α) (f : α → α) : Tab α :=
  t.filterMap (fun x => if f x.2 = d then none else some (x.1, f x.2))

/-- Canonical form: indexes strictly rising from `lo`, no entry equal to the default. -/
def twfFrom {α : Type} [DecidableEq α] (d : α) : Nat → Tab α → Bool
  | _, [] => true
  | lo, (j, a) :: r => decide (lo ≤ j) && decide (a ≠ d) && twfFrom d (j + 1) r

/-- A table is in canonical form. -/
def twf {α : Type} [DecidableEq α] (d : α) (t : Tab α) : Bool := twfFrom d 0 t

/-- Writes consecutive entries from index `k` on. -/
def tsetMany {α : Type} [DecidableEq α] (d : α) : Tab α → Nat → List α → Tab α
  | t, _, [] => t
  | t, k, a :: as => tsetMany d (tset t d k a) (k + 1) as

end Sys2Proof.Machine
end

