-- ==== Sys2Proof/Machine/Events.lean ====
section
/-! DEFINITION. The event codes, their intrinsic severities (16 R587, Table 16-2; 17 R522; 18 Table 18-10). -/
namespace Sys2Proof.Machine

/-- EV_PORT_UP (INFO). -/
abbrev Ev.portUp : Nat := 0x0100
/-- EV_PORT_DOWN (MINOR). -/
abbrev Ev.portDown : Nat := 0x0101
/-- EV_PORT_HOLD_EXPIRED (MINOR). -/
abbrev Ev.portHoldExpired : Nat := 0x0102
/-- EV_PORT_ADMIN (INFO). -/
abbrev Ev.portAdmin : Nat := 0x0103
/-- EV_TRAINING_FAILED (MINOR). -/
abbrev Ev.trainingFailed : Nat := 0x0104
/-- EV_AN_MISMATCH (MINOR). -/
abbrev Ev.anMismatch : Nat := 0x0105
/-- EV_LANE_FAULT (MINOR). -/
abbrev Ev.laneFault : Nat := 0x0106
/-- EV_MACRO_POWER (INFO). -/
abbrev Ev.macroPower : Nat := 0x0107
/-- EV_PARSE_EXCEPTION (INFO). -/
abbrev Ev.parseException : Nat := 0x0200
/-- EV_PARSE_STORE_FAULT (MAJOR). -/
abbrev Ev.parseStoreFault : Nat := 0x0201
/-- EV_PARSE_STORE_CORRECTED (NOTE). -/
abbrev Ev.parseStoreCorrected : Nat := 0x0202
/-- EV_GEN_OPEN (INFO). -/
abbrev Ev.genOpen : Nat := 0x0300
/-- EV_GEN_COMMIT (INFO). -/
abbrev Ev.genCommit : Nat := 0x0301
/-- EV_GEN_DISCARD (INFO). -/
abbrev Ev.genDiscard : Nat := 0x0302
/-- EV_GEN_RETIRED (INFO). -/
abbrev Ev.genRetired : Nat := 0x0303
/-- EV_GEN_FORCED (NOTE). -/
abbrev Ev.genForced : Nat := 0x0304
/-- EV_TABLE_PARITY (MINOR). -/
abbrev Ev.tableParity : Nat := 0x0305
/-- EV_ACTION_INVISIBLE (NOTE). -/
abbrev Ev.actionInvisible : Nat := 0x0306
/-- EV_STATION_MOVE (INFO). -/
abbrev Ev.stationMove : Nat := 0x0400
/-- EV_FLAP_LOCK (MINOR). -/
abbrev Ev.flapLock : Nat := 0x0401
/-- EV_EVICT (NOTE). -/
abbrev Ev.evict : Nat := 0x0402
/-- EV_LEARN_REFUSED (NOTE). -/
abbrev Ev.learnRefused : Nat := 0x0403
/-- EV_LRN_RING_ECC (MAJOR). -/
abbrev Ev.lrnRingEcc : Nat := 0x0404
/-- EV_REWRITE_FAULT (NOTE). -/
abbrev Ev.rewriteFault : Nat := 0x0500
/-- EV_RECIRC_LIMIT (NOTE). -/
abbrev Ev.recircLimit : Nat := 0x0501
/-- EV_ACTION_STORE_FAULT (MAJOR). -/
abbrev Ev.actionStoreFault : Nat := 0x0502
/-- EV_ACTION_STORE_CORRECTED (NOTE). -/
abbrev Ev.actionStoreCorrected : Nat := 0x0503
/-- EV_WEIR_PARITY (MINOR). -/
abbrev Ev.weirParity : Nat := 0x0600
/-- EV_MINUTE_CLOSE (INFO). -/
abbrev Ev.minuteClose : Nat := 0x0700
/-- EV_MINUTE_MERGED (MINOR). -/
abbrev Ev.minuteMerged : Nat := 0x0701
/-- EV_LATE_UNRECORDED (MINOR). -/
abbrev Ev.lateUnrecorded : Nat := 0x0702
/-- EV_LEDGER_ECC (MINOR). -/
abbrev Ev.ledgerEcc : Nat := 0x0703
/-- EV_TIME_STEP (NOTE). -/
abbrev Ev.timeStep : Nat := 0x0800
/-- EV_PLANE_LOST (MAJOR). -/
abbrev Ev.planeLost : Nat := 0x0900
/-- EV_PLANE_RESTORED (INFO). -/
abbrev Ev.planeRestored : Nat := 0x0901
/-- EV_PLANE_RESTORE_FAILED (MINOR). -/
abbrev Ev.planeRestoreFailed : Nat := 0x0902
/-- EV_RESEQ_GAP (NOTE). -/
abbrev Ev.reseqGap : Nat := 0x0903
/-- EV_MC_COPY_HOLD (NOTE). -/
abbrev Ev.mcCopyHold : Nat := 0x0904
/-- EV_DOUBLE_FREE (MAJOR). -/
abbrev Ev.doubleFree : Nat := 0x0A00
/-- EV_FOREIGN_FREE (MAJOR). -/
abbrev Ev.foreignFree : Nat := 0x0A01
/-- EV_ORPHAN (NOTE). -/
abbrev Ev.orphan : Nat := 0x0A02
/-- EV_CELL_RETIRED (NOTE). -/
abbrev Ev.cellRetired : Nat := 0x0A03
/-- EV_FREELIST_REBUILT (MAJOR). -/
abbrev Ev.freelistRebuilt : Nat := 0x0A04
/-- EV_ACCOUNT_REBUILT (MAJOR). -/
abbrev Ev.accountRebuilt : Nat := 0x0A05
/-- EV_HEADROOM_OVERRUN (MINOR). -/
abbrev Ev.headroomOverrun : Nat := 0x0A06
/-- EV_PAUSE_STORM (MINOR). -/
abbrev Ev.pauseStorm : Nat := 0x0B00
/-- EV_PAUSE_BREAK (NOTE). -/
abbrev Ev.pauseBreak : Nat := 0x0B01
/-- EV_PAUSE_RESTORED (INFO). -/
abbrev Ev.pauseRestored : Nat := 0x0B02
/-- EV_BASIN_ECC (MINOR). -/
abbrev Ev.basinEcc : Nat := 0x0C00
/-- EV_SEGMENT_RETIRED (NOTE). -/
abbrev Ev.segmentRetired : Nat := 0x0C01
/-- EV_CHAIN_BREAK (MAJOR). -/
abbrev Ev.chainBreak : Nat := 0x0C02
/-- EV_CXL_ENUM (INFO). -/
abbrev Ev.cxlEnum : Nat := 0x0C03
/-- EV_CXL_ENUM_FAILED (MINOR). -/
abbrev Ev.cxlEnumFailed : Nat := 0x0C04
/-- EV_CXL_LOST (MAJOR). -/
abbrev Ev.cxlLost : Nat := 0x0C05
/-- EV_CXL_RESTORED (INFO). -/
abbrev Ev.cxlRestored : Nat := 0x0C06
/-- EV_BASIN_FULL (NOTE). -/
abbrev Ev.basinFull : Nat := 0x0C07
/-- EV_WINDOW_OVERSIZE (NOTE). -/
abbrev Ev.windowOversize : Nat := 0x0D00
/-- EV_ESC_STATE_PARITY (MAJOR). -/
abbrev Ev.escStateParity : Nat := 0x0D01
/-- EV_TIDE_CHANGE (INFO). -/
abbrev Ev.tideChange : Nat := 0x0E00
/-- EV_TIDE_TIME_STEP (NOTE). -/
abbrev Ev.tideTimeStep : Nat := 0x0E01
/-- EV_TIDE_LIST_ECC (MAJOR). -/
abbrev Ev.tideListEcc : Nat := 0x0E02
/-- EV_GAUGE_ARCHIVE_ECC (MINOR). -/
abbrev Ev.gaugeArchiveEcc : Nat := 0x0F00
/-- EV_EP_DOWN (MINOR). -/
abbrev Ev.epDown : Nat := 0x1000
/-- EV_RING_STOPPED (MINOR). -/
abbrev Ev.ringStopped : Nat := 0x1001
/-- EV_RESYNC (INFO). -/
abbrev Ev.resync : Nat := 0x1002
/-- EV_POLDER_OWNER (NOTE). -/
abbrev Ev.polderOwner : Nat := 0x1100
/-- EV_POLDER_SAFE_HOLD (MAJOR). -/
abbrev Ev.polderSafeHold : Nat := 0x1101
/-- EV_HANDOVER_REJECTED (MINOR). -/
abbrev Ev.handoverRejected : Nat := 0x1102
/-- EV_WARDEN_HANDOVER (NOTE). -/
abbrev Ev.wardenHandover : Nat := 0x1103
/-- EV_CVU_ENGINE (MAJOR). -/
abbrev Ev.cvuEngine : Nat := 0x1200
/-- EV_CVU_STATE_PARITY (MAJOR). -/
abbrev Ev.cvuStateParity : Nat := 0x1201
/-- EV_FAULT_REPORT (From the report). -/
abbrev Ev.faultReport : Nat := 0x1300
/-- EV_FAULT_TRANSIENT (NOTE). -/
abbrev Ev.faultTransient : Nat := 0x1301
/-- EV_FAULT_ESCALATED (From the escalation). -/
abbrev Ev.faultEscalated : Nat := 0x1302
/-- EV_FAULT_AVOIDED (NOTE). -/
abbrev Ev.faultAvoided : Nat := 0x1303
/-- EV_FAULT_ACK (INFO). -/
abbrev Ev.faultAck : Nat := 0x1304
/-- EV_FAULT_CLEARED (INFO). -/
abbrev Ev.faultCleared : Nat := 0x1305
/-- EV_FAULT_CLEAR_REFUSED (NOTE). -/
abbrev Ev.faultClearRefused : Nat := 0x1306
/-- EV_FAULT_CONFIG (INFO). -/
abbrev Ev.faultConfig : Nat := 0x1307
/-- EV_POWER_ON (INFO). -/
abbrev Ev.powerOn : Nat := 0x1400
/-- EV_HOURMARK (INFO). -/
abbrev Ev.hourmark : Nat := 0x1401
/-- EV_SUPPRESSED (As R481). -/
abbrev Ev.suppressed : Nat := 0x1402
/-- EV_LOG_MEMORY_FAILED (MAJOR). -/
abbrev Ev.logMemoryFailed : Nat := 0x1403
/-- EV_LOG_FROZEN (INFO). -/
abbrev Ev.logFrozen : Nat := 0x1404
/-- EV_LOG_THAWED (INFO). -/
abbrev Ev.logThawed : Nat := 0x1405
/-- EV_PERSIST_DROPPED (MINOR). -/
abbrev Ev.persistDropped : Nat := 0x1406
/-- EV_FLASH_SECTOR_RETIRED (NOTE). -/
abbrev Ev.flashSectorRetired : Nat := 0x1407
/-- EV_IMAGE_LOADED (INFO). -/
abbrev Ev.imageLoaded : Nat := 0x1500
/-- EV_IMAGE_REJECTED (MINOR). -/
abbrev Ev.imageRejected : Nat := 0x1501
/-- EV_STORE_RELOADED (NOTE). -/
abbrev Ev.storeReloaded : Nat := 0x1502
/-- EV_STORE_RELOAD_FAILED (MINOR). -/
abbrev Ev.storeReloadFailed : Nat := 0x1503
/-- EV_KEY_REVOKED (NOTE). -/
abbrev Ev.keyRevoked : Nat := 0x1504
/-- EV_ROLLBACK_ADVANCED (NOTE). -/
abbrev Ev.rollbackAdvanced : Nat := 0x1505
/-- EV_ATTEST (INFO). -/
abbrev Ev.attest : Nat := 0x1506
/-- EV_REG_TRAP (MAJOR). -/
abbrev Ev.regTrap : Nat := 0x1507
/-- EV_STRAP_INVALID (NOTE). -/
abbrev Ev.strapInvalid : Nat := 0x1508
/-- EV_REG_STORE_FAULT (MAJOR). -/
abbrev Ev.regStoreFault : Nat := 0x1509
/-- EV_ADP_STORE_FAULT (MAJOR). -/
abbrev Ev.adpStoreFault : Nat := 0x150A
/-- EV_TBN_FINDING (NOTE). -/
abbrev Ev.tbnFinding : Nat := 0x1600
/-- EV_MODE_COMMAND (INFO). -/
abbrev Ev.modeCommand : Nat := 0x1700
/-- EV_MODE_FAULT (MAJOR). -/
abbrev Ev.modeFault : Nat := 0x1701
/-- EV_MODE_LOADED (INFO). -/
abbrev Ev.modeLoaded : Nat := 0x1702
/-- EV_MODE_DRAINED (INFO). -/
abbrev Ev.modeDrained : Nat := 0x1703
/-- EV_MODE_DRAIN_LIMIT (NOTE). -/
abbrev Ev.modeDrainLimit : Nat := 0x1704
/-- EV_MODE_RESET (NOTE). -/
abbrev Ev.modeReset : Nat := 0x1705
/-- EV_PLL_LOCK_FAILED (MAJOR). -/
abbrev Ev.pllLockFailed : Nat := 0x1706
/-- EV_MODE_THERMAL_TRIP (CRITICAL). -/
abbrev Ev.modeThermalTrip : Nat := 0x1707
/-- EV_BG_BEHIND (MINOR). -/
abbrev Ev.bgBehind : Nat := 0x1708
/-- EV_PWR_SEQUENCE (MAJOR). -/
abbrev Ev.pwrSequence : Nat := 0x1709
/-- EV_PWR_RAIL (CRITICAL). -/
abbrev Ev.pwrRail : Nat := 0x170A

/-- Event severity codes (16 Table 16-1). -/
abbrev sevInfo : Nat := 0
abbrev sevNote : Nat := 1
abbrev sevMinor : Nat := 2
abbrev sevMajor : Nat := 3
abbrev sevCritical : Nat := 4

/-- The severity that R587, Table 16-2, R522 or Table 18-10 gives a code; EV_FAULT_REPORT, EV_FAULT_ESCALATED
and EV_SUPPRESSED carry their own. -/
def intrinsicSeverity (code : Nat) : Nat :=
  if code ∈ [0x0202, 0x0304, 0x0306, 0x0402, 0x0403, 0x0500, 0x0501, 0x0503, 0x0800, 0x0903, 0x0904, 0x0A02, 0x0A03, 0x0B01, 0x0C01, 0x0C07, 0x0D00, 0x0E01, 0x1100, 0x1103, 0x1301, 0x1303, 0x1306, 0x1407, 0x1502, 0x1504, 0x1505, 0x1508, 0x1600, 0x1704, 0x1705] then sevNote
  else if code ∈ [0x0101, 0x0102, 0x0104, 0x0105, 0x0106, 0x0305, 0x0401, 0x0600, 0x0701, 0x0702, 0x0703, 0x0902, 0x0A06, 0x0B00, 0x0C00, 0x0C04, 0x0F00, 0x1000, 0x1001, 0x1102, 0x1406, 0x1501, 0x1503, 0x1708] then sevMinor
  else if code ∈ [0x0201, 0x0404, 0x0502, 0x0900, 0x0A00, 0x0A01, 0x0A04, 0x0A05, 0x0C02, 0x0C05, 0x0D01, 0x0E02, 0x1101, 0x1200, 0x1201, 0x1403, 0x1507, 0x1509, 0x150A, 0x1701, 0x1706, 0x1709] then sevMajor
  else if code ∈ [0x1707, 0x170A] then sevCritical
  else sevInfo

end Sys2Proof.Machine
end

