-- ==== Sys2Proof/Machine/State.lean ====
section
/-! DEFINITION. The state of the ZJ1024 as plain data, one record per subsystem, and the state right
after reset. -/
namespace Sys2Proof.Machine

/-! ### Modes and straps (chapters 0, 17, 18) -/

/-- The eight device modes, in the coding of DEV_MODE (00 R6, 02 Table 2-15). -/
inductive DevMode where
  | off | dormant | loading | provisioning | forwarding | draining | safeHold | diagnostic
  deriving DecidableEq, Repr

/-- The straps sampled at POR_N deassertion (17 R498, 02 R38, 03 R105). -/
structure Straps where
  peBif : Nat := 0
  wardenSel : Nat := 0
  bootSrc : Nat := 0
  smbAddr : Nat := 0
  deriving DecidableEq, Repr

/-! ### Counters -/

/-- The counters and drop counts of the chapters, by name (13 R424). -/
inductive Ctr where
  /-- CNT_ACTION_INVISIBLE -/
  | actionInvisible
  /-- CNT_AGED -/
  | aged
  /-- CNT_BAD_CHECK -/
  | badCheck
  /-- CNT_BAD_SEQUENCE -/
  | badSequence
  /-- CNT_BASIN_PEAK -/
  | basinPeak
  /-- CNT_BPM_DESC_CE -/
  | bpmDescCe
  /-- CNT_CELLS_RETIRED -/
  | cellsRetired
  /-- CNT_CHECK_FIELD_CORRUPT -/
  | checkFieldCorrupt
  /-- CNT_CLEAR_REFUSED -/
  | clearRefused
  /-- CNT_CPL_DISCARD -/
  | cplDiscard
  /-- CNT_CT_GRANT -/
  | ctGrant
  /-- CNT_CVU_BAD_WIDTH -/
  | cvuBadWidth
  /-- CNT_CVU_CHECK_FIELD -/
  | cvuCheckField
  /-- CNT_CVU_DATA_MISMATCH -/
  | cvuDataMismatch
  /-- CNT_CVU_FOREIGN_WRITE -/
  | cvuForeignWrite
  /-- CNT_CVU_MATCH -/
  | cvuMatch
  /-- CNT_CVU_STALL_CYCLES -/
  | cvuStallCycles
  /-- CNT_DB_STALE -/
  | dbStale
  /-- CNT_DB_STRAY -/
  | dbStray
  /-- CNT_ECN_MARKED -/
  | ecnMarked
  /-- CNT_EVICT -/
  | evict
  /-- CNT_EVR_ADMITTED -/
  | evrAdmitted
  /-- CNT_EVR_DROPPED -/
  | evrDropped
  /-- CNT_EVR_INPUT_DROP -/
  | evrInputDrop
  /-- CNT_EVR_SUPPRESSED -/
  | evrSuppressed
  /-- CNT_EXPORT_RECORDS -/
  | exportRecords
  /-- CNT_FAULT_ESCALATED -/
  | faultEscalated
  /-- CNT_FAULT_HISTORY_SKIP -/
  | faultHistorySkip
  /-- CNT_FEC_CORRECTED -/
  | fecCorrected
  /-- CNT_FEC_SYMBOLS -/
  | fecSymbols
  /-- CNT_FEC_UNCORRECTED -/
  | fecUncorrected
  /-- CNT_FLASH_ERASES_MAX -/
  | flashErasesMax
  /-- CNT_FLASH_SECTORS_USABLE -/
  | flashSectorsUsable
  /-- CNT_FLOOD -/
  | flood
  /-- CNT_FLOOD_DENIED -/
  | floodDenied
  /-- CNT_GATE_DEFER -/
  | gateDefer
  /-- CNT_GAUGE_RING_DROP -/
  | gaugeRingDrop
  /-- CNT_GEN_DOOMED -/
  | genDoomed
  /-- CNT_HR_PEAK -/
  | hrPeak
  /-- CNT_LATE_UNRECORDED -/
  | lateUnrecorded
  /-- CNT_LATE_UPDATES -/
  | lateUpdates
  /-- CNT_LEARN_DROPPED -/
  | learnDropped
  /-- CNT_LEARN_LOCKED -/
  | learnLocked
  /-- CNT_LEARN_OFFERED -/
  | learnOffered
  /-- CNT_LEARN_PARITY_SKIP -/
  | learnParitySkip
  /-- CNT_LEARN_REFUSED -/
  | learnRefused
  /-- CNT_LEDGER_ECC -/
  | ledgerEcc
  /-- CNT_LEDGER_FLOWS -/
  | ledgerFlows
  /-- CNT_LEDGER_MISS -/
  | ledgerMiss
  /-- CNT_LEDGER_UNATTR -/
  | ledgerUnattr
  /-- CNT_LINK_DOWN -/
  | linkDown
  /-- CNT_LOOKUP_HIT -/
  | lookupHit
  /-- CNT_LOOKUP_MISS -/
  | lookupMiss
  /-- CNT_LRQ_PEAK -/
  | lrqPeak
  /-- CNT_MC_COPIES -/
  | mcCopies
  /-- CNT_MC_EMPTY -/
  | mcEmpty
  /-- CNT_MC_SKIP_DOWN -/
  | mcSkipDown
  /-- CNT_MIRROR_COPIES -/
  | mirrorCopies
  /-- CNT_ORPHAN_FREED -/
  | orphanFreed
  /-- CNT_PARSE_EXC -/
  | parseExc
  /-- CNT_PARSE_STORE_CE -/
  | parseStoreCe
  /-- CNT_PAUSE_RX_IGNORED -/
  | pauseRxIgnored
  /-- CNT_PERSIST_DROPPED -/
  | persistDropped
  /-- CNT_PFC_RX -/
  | pfcRx
  /-- CNT_PFC_TX -/
  | pfcTx
  /-- CNT_Q_TX_BYTES -/
  | qTxBytes
  /-- CNT_Q_TX_FRAMES -/
  | qTxFrames
  /-- CNT_RECIRC_PASSES -/
  | recircPasses
  /-- CNT_RELOC -/
  | reloc
  /-- CNT_RESEQ_FULL_SKIP -/
  | reseqFullSkip
  /-- CNT_RESEQ_LATE -/
  | reseqLate
  /-- CNT_RESEQ_SKIP -/
  | reseqSkip
  /-- CNT_REWRITE_FAULT -/
  | rewriteFault
  /-- CNT_RX_BYTES -/
  | rxBytes
  /-- CNT_RX_FRAMES -/
  | rxFrames
  /-- CNT_SEG_FREE -/
  | segFree
  /-- CNT_SEG_RETIRED -/
  | segRetired
  /-- CNT_SHAPER_WAIT -/
  | shaperWait
  /-- CNT_SHARED_FREE -/
  | sharedFree
  /-- CNT_SPILL_PACKETS -/
  | spillPackets
  /-- CNT_SPILL_RD_BYTES -/
  | spillRdBytes
  /-- CNT_SPILL_WR_BYTES -/
  | spillWrBytes
  /-- CNT_STASH_USE -/
  | stashUse
  /-- CNT_STATIC_MOVE_DENIED -/
  | staticMoveDenied
  /-- CNT_STATION_MOVE -/
  | stationMove
  /-- CNT_SWC_CELLS -/
  | swcCells
  /-- CNT_TBN_CE -/
  | tbnCe
  /-- CNT_TBN_LASTING_CE -/
  | tbnLastingCe
  /-- CNT_TBN_UE -/
  | tbnUe
  /-- CNT_TIDE_OVERRUN -/
  | tideOverrun
  /-- CNT_TIME_STEPS -/
  | timeSteps
  /-- CNT_TRACE_RING_DROP -/
  | traceRingDrop
  /-- CNT_TRAIN_FAIL -/
  | trainFail
  /-- CNT_TX_BYTES -/
  | txBytes
  /-- CNT_TX_FRAMES -/
  | txFrames
  /-- CNT_TX_STOMPED -/
  | txStomped
  /-- CNT_TX_UNDERRUN -/
  | txUnderrun
  /-- CNT_WEIR_GREEN -/
  | weirGreen
  /-- CNT_WEIR_RED -/
  | weirRed
  /-- CNT_WEIR_YELLOW -/
  | weirYellow
  /-- CNT_XOFF -/
  | xoff
  /-- DR_BASIN_ECC -/
  | drBasinEcc
  /-- DR_BASIN_LINK_LOST -/
  | drBasinLinkLost
  /-- DR_BUFFER_ECC -/
  | drBufferEcc
  /-- DR_DIKE_BLOCK -/
  | drDikeBlock
  /-- DR_DRAIN_LIMIT -/
  | drDrainLimit
  /-- DR_EGRESS_DOWN -/
  | drEgressDown
  /-- DR_GEN_RETIRED -/
  | drGenRetired
  /-- DR_HEADROOM_OVERRUN -/
  | drHeadroomOverrun
  /-- DR_HOST_QUEUE_DOWN -/
  | drHostQueueDown
  /-- DR_HOST_RX_OVERSIZE -/
  | drHostRxOversize
  /-- DR_HOST_RX_STARVED -/
  | drHostRxStarved
  /-- DR_LAG_EMPTY -/
  | drLagEmpty
  /-- DR_LINK_HOLD_EXPIRED -/
  | drLinkHoldExpired
  /-- DR_MAC_CONTROL -/
  | drMacControl
  /-- DR_MCAST_COPY_HOLD -/
  | drMcastCopyHold
  /-- DR_MIRROR_COPY -/
  | drMirrorCopy
  /-- DR_NH_INVALID -/
  | drNhInvalid
  /-- DR_NO_MATCH -/
  | drNoMatch
  /-- DR_NULL_ROUTE -/
  | drNullRoute
  /-- DR_PARSE_DEPTH -/
  | drParseDepth
  /-- DR_PARSE_LENGTH_CONFLICT -/
  | drParseLengthConflict
  /-- DR_PARSE_MALFORMED -/
  | drParseMalformed
  /-- DR_PARSE_UNKNOWN -/
  | drParseUnknown
  /-- DR_PLANE_ECC -/
  | drPlaneEcc
  /-- DR_POLDER_HOLD -/
  | drPolderHold
  /-- DR_RECIRC_LIMIT -/
  | drRecircLimit
  /-- DR_RESEQ_GAP -/
  | drReseqGap
  /-- DR_REWRITE_FAULT -/
  | drRewriteFault
  /-- DR_REWRITE_INVALID -/
  | drRewriteInvalid
  /-- DR_RULE_DROP -/
  | drRuleDrop
  /-- DR_RX_FCS -/
  | drRxFcs
  /-- DR_RX_OVERSIZE -/
  | drRxOversize
  /-- DR_RX_RUNT -/
  | drRxRunt
  /-- DR_SAFE_HOLD -/
  | drSafeHold
  /-- DR_SKID_OVERRUN -/
  | drSkidOverrun
  /-- DR_STORE_FAULT -/
  | drStoreFault
  /-- DR_TABLE_PARITY -/
  | drTableParity
  /-- DR_TTL_EXPIRED -/
  | drTtlExpired
  /-- DR_TX_OVERSIZE -/
  | drTxOversize
  /-- DR_WEIR_RED -/
  | drWeirRed
  /-- DR_WINDOW_OVERSIZE -/
  | drWindowOversize
  /-- Errors corrected on an HBM stack, which 11 R349 counts without a name -/
  | basinCe
  deriving DecidableEq, Repr

/-! ### Host endpoints and rings (chapter 2) -/

/-- A ring's or queue's state (02 Table 2-3, 20 Table 20-3). -/
inductive RingSt where
  | disabled | active | stopped | starved
  deriving DecidableEq, Repr

/-- Why a ring or queue stopped (02 R42, R44). -/
inductive StopCause where
  | doorbell | fetch | cqRange
  deriving DecidableEq, Repr

/-- A command ring: EP_CR_CFG, EP_CR_STATUS and the device's counts (02 R41, 20 Table 20-3). -/
structure CmdRing where
  base : BitVec 64 := 0
  sizeLog2 : Nat := 6
  boundCq : Nat := 0
  enable : Bool := false
  st : RingSt := .disabled
  cfgErr : Bool := false
  /-- Last accepted producer count. -/
  p : Word := 0
  /-- Fetched count. -/
  f : Word := 0
  /-- Committed count. -/
  c : Word := 0
  /-- Fetches issued, returned or not (02 R44). -/
  issued : Word := 0
  stop : Option StopCause := none
  deriving DecidableEq, Repr

/-- A completion ring: EP_CQ_CFG and EP_CQ_STATUS (02 R41, 20 Table 20-3). -/
structure CplRing where
  base : BitVec 64 := 0
  sizeLog2 : Nat := 6
  enable : Bool := false
  st : RingSt := .disabled
  cfgErr : Bool := false
  /-- Completions written. -/
  w : Word := 0
  /-- Last accepted consumer count. -/
  consumed : Word := 0
  deriving DecidableEq, Repr

/-- A receive or transmit queue: EP_RXQ_CFG, EP_TXQ_CFG (02 R59, 20 Table 20-3). -/
structure PktQueue where
  base : BitVec 64 := 0
  sizeLog2 : Nat := 6
  enable : Bool := false
  st : RingSt := .disabled
  cfgErr : Bool := false
  posted : Word := 0
  used : Word := 0
  /-- Starvation limit in milliseconds (receive queues, 02 R61). -/
  starve : Nat := 1
  /-- Tick from which the queue has had no free buffer (02 R61). -/
  emptySince : Option Nat := none
  deriving DecidableEq, Repr

/-- What the completion takes at its commit (02 R69, 13 R402). -/
inductive CommitFill where
  | none | aonTick | deviceTime
  deriving DecidableEq, Repr

/-- A command's outcome before it commits: what its completion will report (02 R51). -/
structure Done where
  status : Nat
  r0 : BitVec 64 := 0
  r1 : BitVec 64 := 0
  detail : BitVec 32 := 0
  fill : CommitFill := .none
  deriving DecidableEq, Repr

/-- A fetched and uncommitted command (02 R45, Table 2-20). -/
structure Cmd where
  ring : Nat
  pos : Word
  desc : Descriptor
  tagValid : Bool
  /-- It runs and commits as a command without PARALLEL (02 R49, R54). -/
  ordered : Bool
  executing : Bool := false
  /-- An entry of the internal completion queue is reserved for it (02 R53). -/
  reserved : Bool := false
  /-- The polders on whose objects it may act, one bit each, as its check found them (03 R90); bit 8: the objects of no
  polder, which are the warden's (03 R584). -/
  auth : Nat := 0
  /-- The number of its first dispatch in the order of dispatch; 0: not yet dispatched. -/
  disp : Nat := 0
  marked : Bool := false
  steps : Nat := 0
  fetchTick : Nat := 0
  /-- Device mode code when the command was first dispatched, and 16 times the state code of the polder that an
  OP_MODE_SET names (18 R526). -/
  dispMode : Nat := 0
  /-- What a command of several steps keeps between its steps (02 R57). -/
  scratch : List Nat := []
  outcome : Option Done := none
  deriving DecidableEq, Repr

/-- A committed completion in the internal completion queue (02 R53): its ring and its 32 bytes with
PHASE 0. -/
structure Cpl where
  cq : Nat
  image : BitVec 256
  deriving DecidableEq, Repr

/-- One entry of the MSI-X table (02 R65, 20 R575); PCIe resets the mask bit to 1. -/
structure MsixEntry where
  addr : BitVec 64 := 0
  data : BitVec 32 := 0
  masked : Bool := true
  deriving DecidableEq, Repr

/-- A vector's moderation in progress: events gathered and the tick of the first (02 R65). -/
structure VecGather where
  n : Nat := 0
  first : Nat := 0
  pending : Bool := false
  deriving DecidableEq, Repr

/-- An export ring configured by an endpoint: gauge or trace (12 R387, 16 R491, 20 Table 20-3). -/
structure ExportRing where
  base : BitVec 64 := 0
  sizeLog2 : Nat := 6
  enable : Bool := false
  cfgErr : Bool := false
  wbAddr : BitVec 64 := 0
  minSeverity : Nat := 3
  prod : Word := 0
  cons : Word := 0
  deriving DecidableEq, Repr

/-- One host endpoint (02 R38, R40). -/
structure Endpoint where
  up : Bool := false
  perst : Bool := true
  flr : Bool := false
  linkDown : Bool := true
  bmeClear : Bool := true
  /-- It has gone down and its executing commands have not all stopped: the cause's code and the completions discarded
  so far (02 R40). -/
  downEv : Option (Nat × Nat) := none
  crs : Tab CmdRing := []
  cqs : Tab CplRing := []
  rxqs : Tab PktQueue := []
  txqs : Tab PktQueue := []
  /-- The fetched, uncommitted commands, at most 16, oldest fetch first (02 R45). -/
  cmds : List Cmd := []
  /-- The internal completion queue, oldest first (02 R53). -/
  icq : List Cpl := []
  /-- Rings and queues whose state words have failed parity: command rings n, completion rings 64 + n, receive queues 128 + q, transmit
  queues 384 + q (02 Table 2-22). -/
  badWords : List Nat := []
  /-- Round-robin positions: descriptor fetch (02 R45), dispatch within the endpoint (02 R58), transmit queues (02 R63). -/
  rrFetch : Nat := 0
  rrDispatch : Nat := 0
  rrTx : Nat := 0
  /-- EP_VEC_MAP: vector and VALID (20 R577). -/
  vecMap : Tab (BitVec 16) := []
  /-- EP_VEC_MOD: COUNT and DELAY (20 Table 20-3). -/
  vecMod : Tab (Nat × Nat) := []
  msix : Tab MsixEntry := []
  gather : Tab VecGather := []
  msixEnable : Bool := false
  funcMask : Bool := false
  /-- EP_ALARM_SUMMARY (02 R66). -/
  alarmSummary : BitVec 32 := 0
  /-- An alarm message is owed and not yet sent (02 R66). -/
  alarmOwed : Bool := false
  resyncAddr : BitVec 64 := 0
  resyncIrqEn : Bool := false
  resyncBusy : Bool := false
  resyncDone : Bool := false
  resyncErr : Bool := false
  /-- EP_SETUP_STATUS (20 Table 20-3). -/
  denied : Bool := false
  gated : Bool := false
  badAccess : Bool := false
  /-- Register snapshots held by the endpoint (20 R570): BAR0 offset of the register, captured value. -/
  captures : Tab (Option Nat) := []
  gauge : ExportRing := {}
  trace : ExportRing := {}
  deriving DecidableEq, Repr

/-- The host interface: endpoints and the dispatcher (02 R57, R58). -/
structure Hif where
  eps : Tab Endpoint := []
  /-- GL_CMD_ARB.WEIGHT and MIN as stored (20 Table 20-5); unlisted: the reset value. -/
  weight : Tab Nat := []
  minDisp : Tab (Option Nat) := []
  /-- Dispatches in the current window of 64, in all and per endpoint. -/
  winCount : Nat := 0
  winEp : Tab Nat := []
  /-- Round-robin pointer and dispatches made since it arrived. -/
  rrEp : Nat := 0
  rrRun : Nat := 0
  /-- Summaries produced since power-on (02 Table 2-14). -/
  surveySeq : Nat := 0
  /-- Commands dispatched so far (the model's own: it orders dispatches). -/
  dispSeq : Nat := 0
  deriving DecidableEq, Repr

/-! ### Polder control (chapter 3) -/

/-- A polder's state within device FORWARDING (03 R100), coded as POLDER_STATE. -/
inductive PolderSt where
  | undefined | forwarding | draining | safeHold
  deriving DecidableEq, Repr

/-- A polder's definition and state (03 R81, Table 3-2). -/
structure Polder where
  st : PolderSt := .undefined
  /-- Tick of the last change of state. -/
  since : Nat := 0
  owner : Nat := 0
  holdIdle : Bool := false
  tenantBase : Nat := 0
  tenantCount : Nat := 0
  hashSeed : Nat := 0
  cellMin : Nat := 0
  cellMax : Nat := 0
  vecBase : Nat := 0
  vecCount : Nat := 0
  /-- Rings and queues of the owner endpoint, one bit each. -/
  crMask : Nat := 0
  cqMask : Nat := 0
  rxqMask : Nat := 0
  txqMask : Nat := 0
  quota : List Nat := []
  /-- The dike map: bit l for lane l. -/
  portMap : Nat := 0
  deriving DecidableEq, Repr

/-- Polder control: polders, sluices and the warden (03 R81, R97, R105, R110). -/
structure Plc where
  polders : Tab Polder := []
  /-- Open sluices (source, destination, domain), at most 4,096. -/
  sluices : List (Nat × Nat × Nat) := []
  warden : Nat := 0
  challenge : BitVec 64 := 0
  /-- Accepted handovers since power-on (03 Table 3-9). -/
  handovers : Nat := 0
  /-- The token buffer of the SMBus sideband, the bytes loaded since the last apply; its state and its last check code
  (19 R559, R560). -/
  token : Tab (Option Byte) := []
  tokenState : Nat := 0
  tokenCode : Nat := 0
  deriving DecidableEq, Repr

/-! ### Lanes, macros and ports (chapter 4) -/

/-- A port's state, coded as STATE of its port state entry (04 Table 4-4, 02 Table 2-19). -/
inductive PortSt where
  | adminDown | down | training | up | holdRunning | holdExpired
  deriving DecidableEq, Repr

/-- A port's queues: open, on hold, being flushed, or barred (10 Table 10-5). -/
inductive QHold where
  | opened | hold | flushing | barred
  deriving DecidableEq, Repr

/-- A front-panel port, keyed by its first lane (04 R114, R115, Table 4-5). -/
structure Port where
  configured : Bool := false
  lanes : Nat := 0
  iface : Nat := 0
  anEn : Bool := false
  maxFrame : Nat := 9216
  debounceUs : Nat := 10
  rxInvert : Nat := 0
  txInvert : Nat := 0
  txPreset : Nat := 0
  trainTimeoutMs : Nat := 1000
  holdUs : Nat := 1000
  st : PortSt := .adminDown
  /-- Tick of the last state change. -/
  since : Nat := 0
  /-- Link losses since the port was configured, saturating at 65,535. -/
  losses : Nat := 0
  /-- Lanes locked, bit i for lane first + i. -/
  locked : Nat := 0
  /-- Training attempts since ADMIN_UP, and the last phase reached. -/
  attempts : Nat := 0
  phase : Nat := 0
  /-- Start of the running attempt; tick of the next restart. -/
  trainStart : Nat := 0
  retryAt : Option Nat := none
  /-- Expiry of the running hold; the tick of the link's last return before its expiry (04 R138). -/
  holdEnd : Nat := 0
  back : Option Nat := none
  /-- The link has been lost and its port in HOLD has gone to retraining (04 R130). -/
  realigned : Bool := false
  /-- Frames sent or received since the last LED frame (19 R558). -/
  active : Bool := false
  /-- The queue hold state of the port's queues (10 Table 10-5); what their frames are freed for, whether that counts
  against the ingress port, and the tick at which the flush began (10 R322). -/
  hold : QHold := .barred
  flushAs : Option (Ctr × Bool) := none
  flushTick : Nat := 0
  /-- Frames held by the MAC and the skid buffers, oldest first, given without their FCS (04 R127). -/
  skid : List (List Byte) := []
  deriving DecidableEq, Repr

/-- A lane: causes of Table 4-3 that hold, with the tick since when (04 R125). -/
structure Lane where
  causes : List (Nat × Nat) := []
  /-- Causes reported and not yet re-checked. -/
  recheck : List Nat := []
  deriving DecidableEq, Repr

/-- A macro's power (04 R126). -/
inductive MacroSt where
  | off | calibrating | on
  deriving DecidableEq, Repr

/-- An octal macro: power and lane rate (04 R113, R126). -/
structure Octal where
  st : MacroSt := .off
  rate100 : Bool := false
  calibFail : Nat := 0
  deriving DecidableEq, Repr

/-- The Port Engines and lanes. -/
structure Pte where
  ports : Tab Port := []
  lanes : Tab Lane := []
  macros : Tab Octal := []
  deriving DecidableEq, Repr

/-! ### Default actions (chapter 5) -/

/-- The DEFAULT_ACTION table and the loaded image's values (05 R158, R159): the shipped defaults of
Table 5-7, class by class. -/
structure Pse where
  /-- Entries as written, keyed port × 8 + class; unlisted: the image's value. -/
  entries : Tab (Option (BitVec 64)) := []
  image : List (BitVec 64) := [2, 0, 2, 0, 2, 2]
  deriving DecidableEq, Repr

/-! ### Rule tables and generations (chapter 6) -/

/-- An entry of a table other than the MAC table: the same in all four copies but for the copies that a
lasting parity error has invalidated (06 R173, R193). -/
structure TabEnt where
  /-- The record, its read-only fields 0. -/
  image : BitVec 1408 := 0
  polder : Nat := 0
  /-- VIS (06 R183). -/
  vis : Nat := 3
  /-- Copies in which the entry is invalid for a lasting error. -/
  bad : Nat := 0
  /-- The order in which it came into the stash of its table (06 R193, 07 R223). -/
  stashed : Nat := 0
  deriving DecidableEq, Repr

/-- The non-current slot (06 Table 6-13); the synchronisation sweep reports as DRAINING. -/
inductive IdleSt where
  | idle | staged | draining | sweeping
  deriving DecidableEq, Repr

/-- The tables and the generation machinery. -/
structure Rle where
  /-- Entries keyed table × 2^32 + index. -/
  ents : Tab (Option TabEnt) := []
  /-- RELOC per table and bucket. -/
  relocs : Tab Nat := []
  /-- Entries that have come into a stash; per table, the places that the relocation walker still has to serve, the stash
  entry first (06 R193, 07 R223). -/
  stashSeq : Nat := 0
  plans : Tab (List Nat) := []
  /-- GEN_CURRENT; a staged slot holds the next number. -/
  gen : Word := 0
  slotSt : IdleSt := .idle
  holder : Option Nat := none
  commitTick : Nat := 0
  retireUs : Nat := 10000
  forced : Nat := 0
  /-- FLOOD_MASK words that failed parity: quadrant, domain, word (09 R282). -/
  floodBad : List (Nat × Nat × Nat) := []
  /-- Packets counted towards one mirror copy, keyed quadrant × 64 + session (08 R242). -/
  mirrorSkip : Tab Nat := []
  deriving DecidableEq, Repr

/-! ### Learning and aging (chapter 7) -/

/-- A MAC entry of one copy (07 R202); `valid` is clear for a placeholder. -/
structure MacEnt where
  mac : Nat
  domain : Nat
  polder : Nat
  valid : Bool := true
  static : Bool := false
  router : Bool := false
  flapLock : Bool := false
  hit : Bool := false
  agedOnce : Bool := false
  home : Nat := 0
  port : Nat := 0
  isLag : Bool := false
  moves : Nat := 0
  learnTick : Nat := 0
  moveTick : Nat := 0
  version : Nat := 0
  /-- Order of arrival in the stash. -/
  stashed : Nat := 0
  deriving DecidableEq, Repr

/-- The kinds of ring events (07 Table 7-3). -/
inductive LrnKind where
  | new | move | rehome | ageMark | remove | hostPlace | hostValidate | hostWithdraw | hostDelete
  deriving DecidableEq, Repr

/-- EP_LRN_CFG of a polder (07 R228). -/
structure LrnCfg where
  learnEn : Bool := true
  evictRandom : Bool := false
  flapLimit : Nat := 8
  flapWindowMs : Nat := 1000
  deriving DecidableEq, Repr

/-- A ring event (07 R207): its number, tick and configuration are set as it passes the sequencer. -/
structure LrnEvent where
  kind : LrnKind
  origin : Nat
  polder : Nat
  mac : Nat
  domain : Nat
  port : Nat := 0
  isLag : Bool := false
  version : Nat := 0
  /-- The host record of HOST_VALIDATE. -/
  image : BitVec 256 := 0
  /-- The host operation that the event belongs to. -/
  op : Option Nat := none
  seq : Nat := 0
  tick : Nat := 0
  cfg : LrnCfg := {}
  deriving DecidableEq, Repr

/-- A host write or delete on its way round the ring (07 R226, R227). -/
structure LrnOp where
  id : Nat
  ep : Nat
  ring : Nat
  pos : Word
  kind : LrnKind
  image : BitVec 256
  polder : Nat
  applied : Nat := 0
  failed : Nat := 0
  held : Nat := 0
  deriving DecidableEq, Repr

/-- One quadrant: its copy of the MAC table, its offers and its sweeper. -/
structure LrnQuad where
  ents : Tab (Option MacEnt) := []
  relocs : Tab Nat := []
  stashSeq : Nat := 0
  /-- The places that the relocation walker still has to serve, the stash entry first (07 R223). -/
  plan : List Nat := []
  /-- Offers waiting for the sequencer; events passed and not applied here. -/
  offers : List LrnEvent := []
  queue : List LrnEvent := []
  /-- The last 256 offers: kind, key, port, tick (07 R206). -/
  filter : List (LrnKind × Nat × Nat × Nat × Nat × Nat) := []
  winTick : Nat := 0
  winCount : Nat := 0
  /-- Keys of static entries invalidated for a lasting error and not rewritten. -/
  lost : List (Nat × Nat × Nat) := []
  deriving DecidableEq, Repr

/-- Learning and aging. -/
structure Lrn where
  quads : Tab LrnQuad := []
  hostOffers : List LrnEvent := []
  rr : Nat := 0
  seq : Nat := 0
  ops : List LrnOp := []
  opSeq : Nat := 0
  cfg : Tab LrnCfg := []
  /-- EP_LRN_PORT: bit per port. -/
  noLearn : Nat := 0
  periodS : Nat := 300
  sweeping : Bool := false
  /-- Period of the running sweep and its start; next row per quadrant. -/
  sweepPeriod : Nat := 300
  sweepStart : Nat := 0
  rows : Tab Nat := []
  deriving DecidableEq, Repr

/-! ### Packets and queues (chapters 1, 5, 8, 9, 10, 11, 12) -/

/-- A header instance (05 Table 5-3). -/
structure Inst where
  hdr : Nat
  off : Nat
  len : Nat
  deriving DecidableEq, Repr

/-- The parse result vector (05 Table 5-3). -/
structure Prv where
  frameLen : Nat := 0
  excClass : Option Nat := none
  stop : Nat := 0
  excInst : Nat := 31
  excSeen : Nat := 0
  lastState : Nat := 0
  parseEnd : Nat := 0
  insts : List Inst := []
  /-- End, CLAMPED, CONFLICT. -/
  conts : List (Nat × Bool × Bool) := []
  flags : Nat := 0
  /-- LAYER[1] to LAYER[7], 31 when unset. -/
  layers : List Nat := [31, 31, 31, 31, 31, 31, 31]
  deriving DecidableEq, Repr

/-- Where a packet entered on its current pass. -/
inductive Ingress where
  | wire (port : Nat)
  | host (ep : Nat)
  | recirc (pipe : Nat)
  deriving DecidableEq, Repr

/-- Where a copy of a packet waits or goes. -/
inductive Dest where
  | uni (port q : Nat)
  | mc (port m : Nat)
  | recirc (pipe prio : Nat)
  | host (ep q : Nat)
  deriving DecidableEq, Repr

/-- What the Rewrite Engine is to apply (08 R232): the packet's programs and steps, or a mirror copy's
program alone. -/
structure Edit where
  action : Option Nat := none
  nextHop : Option Nat := none
  routed : Bool := false
  dmac : Nat := 0
  domain : Nat := 0
  tagging : Bool := true
  /-- CE is set on the frame (10 R313). -/
  ce : Bool := false
  /-- A mirror copy's session: its REWRITE_PARAM index, and its record as the ingress quadrant read it (08 R243). -/
  mirror : Option Nat := none
  session : BitVec 1408 := 0
  deriving DecidableEq, Repr

/-- A resolved packet's request for its first cell: the copies that admission let in, and whether they are replicated
over a flood set, with its domain (10 R295, R297). -/
structure Ask where
  dests : List Dest
  multi : Bool := false
  domain : Nat := 0
  deriving DecidableEq, Repr

/-- A packet in the device. `pid` is its place in the table of packets (the model's own name; the device
knows it by HEAD_CELL). -/
structure Pkt where
  root : Nat
  /-- The frame on its current pass, without FCS. -/
  bytes : List Byte
  ingress : Ingress
  /-- Port number of the first pass: front-panel, or 528 + e. -/
  first : Nat
  polder : Nat
  cls : Nat
  prio : Nat
  acct : Nat
  gen : Nat
  doomed : Bool := false
  tsSec : Nat
  tsNs : Nat
  tsFrac : Nat := 0
  epoch : Nat
  pass : Nat := 1
  prv : Prv := {}
  hash : Nat := 0
  tenant : Option Nat := none
  metered : Bool := false
  /-- The forwarding profile of the first pass: a PORT_VLAN record (06 R171). -/
  profile : Option (BitVec 192) := none
  rule : Option Nat := none
  reason : Nat := 0
  edit : Edit := {}
  mirror : Bool := false
  /-- The descriptor asked for a timestamp: transmit queue and descriptor address (02 R62). -/
  tsReq : Option (Nat × Nat × Nat) := none
  /-- The last byte has arrived; its FCS was bad. -/
  whole : Bool := false
  badFcs : Bool := false
  /-- The learn event to offer when the frame completes (07 R206). -/
  learn : Option LrnEvent := none
  /-- Cells taken so far, first to last; cells whose write crossing has been made. -/
  cells : List Nat := []
  written : Nat := 0
  /-- Cells of the earlier pass and the account that holds them. -/
  oldCells : List Nat := []
  oldAcct : Nat := 0
  /-- Destinations admitted and not yet linked into their queues. -/
  waiting : List Dest := []
  /-- Queues that marked it with CE at admission, by key (10 R313). -/
  marked : List Nat := []
  /-- Only the header window is delivered to its host queue (05 Table 5-6). -/
  trunc : Bool := false
  repl : Option Nat := none
  /-- Copies that have not reached DONE. -/
  copies : Nat := 0
  /-- Destinations to which it was granted cut-through. -/
  ctTo : List Dest := []
  lastWrite : Nat := 0
  /-- It waits in, or came back from, the basin or an LRQ. -/
  lrq : Bool := false
  /-- Its request for a first cell, not yet granted (10 R297). -/
  ask : Option Ask := none
  /-- Tick of its admission, and the MC_HOLD_US that its copies queued under (09 R279, R281). -/
  admTick : Nat := 0
  mcHold : Nat := 0
  /-- A later cell met overrun: no further cell is asked for (10 R295). -/
  refused : Bool := false
  /-- Unicast queues, by key, that it joined as flooded: its copies wait in STAGING (11 R339). -/
  staging : List Nat := []
  /-- Pipelines in which a copy never reached the egress: its cells are left to the orphan sweep (09 R260, R262). -/
  left : List Nat := []
  /-- Pipelines in which it has been counted as DR_RESEQ_GAP (09 R260). -/
  gapped : List Nat := []
  deriving DecidableEq, Repr

/-- The parts of a flooded queue (11 R338). -/
inductive Part where
  | head | ret | basin | staging
  deriving DecidableEq, Repr

/-- One entry of a queue. -/
structure Ent where
  pid : Nat
  part : Part := .head
  ct : Bool := false
  /-- Cut-through cells have been delivered and not kept: the cells must be read. -/
  reread : Bool := false
  /-- Cut-through cells in hand. -/
  got : Nat := 0
  /-- Device time (ns) and tick of the enqueue. -/
  enqNs : Nat := 0
  enqTick : Nat := 0
  /-- The cells that its read-back took under account 532. -/
  own : List Nat := []
  /-- The segments that hold its cells, and the slot of its first cell. -/
  segs : List Nat := []
  slot : Nat := 0
  /-- The crossing headers stored with its cells, check bits in place (11 R335). -/
  heads : List (BitVec 128) := []
  /-- Waiting for a window has been counted (12 R378). -/
  deferred : Bool := false
  deriving DecidableEq, Repr

/-- A queue: its entries, oldest first, and its flood state (11 R339). -/
structure Queue where
  ents : List Ent := []
  flooded : Bool := false
  /-- Chain of segments, oldest first, with the cells written into the last. -/
  chain : List Nat := []
  fill : Nat := 0
  threshold : Nat := 0
  basinMax : Nat := 0xFFFFFF
  deriving DecidableEq, Repr

/-- A frame dispatched to an egress port and not yet sent. -/
structure Tx where
  ent : Ent
  dest : Dest
  /-- The frame to send, without FCS, and whether it ends stomped. -/
  bytes : List Byte
  stomp : Bool := false
  /-- Cells in hand and cells needed. -/
  got : Nat := 0
  need : Nat
  cut : Bool := false
  /-- Length as enqueued and what the rewrite added, and whether that has been charged (12 R362). -/
  enqLen : Nat
  delta : Int := 0
  charged : Bool := false
  /-- Buckets charged at dispatch. -/
  buckets : List Nat := []
  /-- Picoseconds of device time: start and reckoned end (12 R378). -/
  startPs : Nat := 0
  endPs : Nat := 0
  /-- End of the window it started in. -/
  windowPs : Option Nat := none
  /-- Its packet was discarded while it was being transmitted, and LOST has been charged (09 R263). -/
  lost : Bool := false
  /-- Its EOP cell has reached the egress (12 R362). -/
  eop : Bool := false
  deriving DecidableEq, Repr

/-- A transmit frame fetched by DMA (02 R62, R63). -/
structure HostTx where
  polder : Nat
  /-- DEST_PORT and QUEUE of a DIRECT frame. -/
  direct : Option (Nat × Nat) := none
  tsReq : Option (Nat × Nat × Nat) := none
  /-- Its transmit queue, and the addresses of its descriptors, EOP last, which the write-back completes (02 R62). -/
  queue : Nat := 0
  descs : List Nat := []
  bytes : List Byte
  deriving DecidableEq, Repr

/-- Packets, queues, and frames dispatched. -/
structure Dp where
  pkts : Tab (Option Pkt) := []
  nextPid : Nat := 0
  /-- Queues keyed: unicast port × 16 + q; multicast 8192 + port × 4 + m; recirculation 16384 + 8 p + prio;
  host receive 20480 + 256 e + q. -/
  queues : Tab Queue := []
  /-- Frames dispatched and not sent, per port, oldest first. -/
  tx : Tab (List Tx) := []
  /-- Frames on a recirculation port on their way to the parser. -/
  loop : Tab (List (Nat × List Byte)) := []
  /-- Transmit frames fetched and on their way to the parser, per endpoint. -/
  inject : Tab (List HostTx) := []
  /-- Frames ended before their charge fell due: per port, cut-through frames whose EOP cell has not reached the egress
  (12 R362). -/
  owed : Tab (List Tx) := []
  /-- Host receive queue served last, per endpoint (12 R360). -/
  rrRx : Tab Nat := []
  /-- Round-robin pointers of the parsers and of the Escapements, by pipeline: the place of the port served last among the
  pipeline's ports (05 R142, 12 R363). -/
  rrParse : Tab Nat := []
  rrPort : Tab Nat := []
  deriving DecidableEq, Repr

/-! ### Switch core (chapter 9) -/

/-- A plane's state (09 Table 9-2). -/
inductive PlaneSt where
  | active | failed | removed | testing
  deriving DecidableEq, Repr

/-- A crossbar plane. -/
structure Plane where
  st : PlaneSt := .active
  since : Nat := 0
  checked : Bool := false
  /-- Per attachment: the tick of the last valid header from the plane, and the ticks of its uncorrectable headers, newest
  first, at most 4 (09 R264). -/
  heard : Tab Nat := []
  badAt : Tab (List Nat) := []
  deriving DecidableEq, Repr

/-- A cell that crosses a plane, with its crossing header (09 Table 9-1); `pid` and `src`, the packet and the source
pipeline, are the model's own names. -/
structure Cross where
  plane : Nat
  src : Nat
  dst : Nat
  stream : Nat
  seq : Nat
  pid : Nat
  cell : Nat
  head : Nat := 0
  no : Nat
  sop : Bool
  eop : Bool
  /-- LAST_LEN. -/
  last : Nat := 0xFF
  mc : Bool
  ct : Bool := false
  stomp : Bool := false
  poison : Bool := false
  /-- DEST: egress port and queue, or the replication descriptor. -/
  dest : Nat := 0
  gen : Nat := 0
  prio : Nat := 0
  polder : Nat := 0
  /-- The copy that a read crossing serves (the model's own name). -/
  copy : Option Dest := none
  deriving DecidableEq, Repr

/-- A stream of an egress pipeline (09 R258-R260): the SEQ that its source gives next, and the resequencer's side. -/
structure Stream where
  sendSeq : Nat := 0
  next : Nat := 0
  held : List Cross := []
  /-- Tick at which the gap timer (re)started. -/
  gapAt : Option Nat := none
  /-- The last cell released. -/
  last : Option Cross := none
  deriving DecidableEq, Repr

/-- A multicast lane of an egress pipeline: the packet in progress and the CELL_NO expected (09 R263). -/
structure McLane where
  pid : Option Nat := none
  expect : Nat := 0
  deriving DecidableEq, Repr

/-- A replication descriptor (09 Table 9-5). -/
structure Repl where
  pid : Nat
  copyMask : Nat
  pipeMask : Nat
  copiesLeft : Nat
  head : Nat
  domain : Nat
  ingress : Nat
  polder : Nat
  prio : Nat
  cells : Nat
  ctMask : Nat
  deriving DecidableEq, Repr

/-- The Switch Core. -/
structure Swc where
  planes : Tab Plane := []
  /-- Spray pointers: ingress pipelines 0-15, read engines 16-31 (09 R255). -/
  spray : Tab Nat := []
  /-- Streams, keyed 32 × egress pipeline + stream. -/
  streams : Tab Stream := []
  /-- Multicast lanes, keyed 16 × egress pipeline + source pipeline. -/
  mcLanes : Tab McLane := []
  /-- Read crossings that wait for an attachment, oldest first (09 R254). -/
  reads : List Cross := []
  /-- Cells on their way to an egress pipeline; cells on their way to their bank pairs. -/
  flight : List Cross := []
  toBank : List Cross := []
  /-- Round-robin pointers over source pipelines, by rank (09 R254). -/
  rrRank : Tab Nat := []
  /-- Multicast plane of an ingress pipeline, where it differs from p mod 4 (09 R256, R265). -/
  mcOn : Tab (Option Nat) := []
  repl : Tab (Option Repl) := []
  /-- EP_SWC_CFG[p].MC_HOLD_US as written. -/
  mcHoldUs : Tab Nat := []
  deriving DecidableEq, Repr

/-! ### Buffer pool and flow control (chapter 10) -/

/-- A cell descriptor (10 Table 10-1). -/
structure Cell where
  held : Bool := false
  ref : Nat := 0
  owner : Nat := 0
  next : Nat := 0
  eop : Bool := false
  cls : Nat := 0
  confirmed : Bool := false
  mark : Bool := false
  deriving DecidableEq, Repr

/-- A free list: the chain threaded through free cells and its two caches (10 R286). -/
structure FreeList where
  head : Nat := 0
  /-- Cells still in the chain. -/
  chain : Nat := 65536
  headCache : List Nat := []
  retCache : List Nat := []
  rebuilding : Bool := false
  deriving DecidableEq, Repr

/-- An owner account; the lists hold one value per pause class (10 R292). -/
structure Account where
  min : Nat := 0
  max : Nat := 1048576
  alpha : List Nat := [6, 6, 6, 6, 6, 6, 6, 6]
  xonDelta : Nat := 32
  hr : List Nat := [0, 0, 0, 0, 0, 0, 0, 0]
  /-- Headroom asked for, where the reservation still falls toward it (10 R327). -/
  hrGoal : List Nat := [0, 0, 0, 0, 0, 0, 0, 0]
  m : List Nat := [0, 0, 0, 0, 0, 0, 0, 0]
  sh : List Nat := [0, 0, 0, 0, 0, 0, 0, 0]
  hu : List Nat := [0, 0, 0, 0, 0, 0, 0, 0]
  ov : List Nat := [0, 0, 0, 0, 0, 0, 0, 0]
  /-- Closed classes, one bit each. -/
  closed : Nat := 0
  rebuilding : Bool := false
  deriving DecidableEq, Repr

/-- The Buffer Pool Manager. -/
structure Bpm where
  cells : Tab Cell := []
  /-- A BIST has zeroed the descriptors: an unlisted link reads as 0 (18 R537). -/
  zeroed : Bool := false
  /-- Chain links of free cells: next cell and END; unlisted: the next cell of the list in ascending order. -/
  links : Tab (Option (Nat × Bool)) := []
  lists : Tab FreeList := []
  accts : Tab Account := []
  retired : List Nat := []
  /-- Cells to be retired when their last reference is released (10 R306). -/
  condemned : List Nat := []
  rrList : Nat := 0
  rrAcct : Nat := 0
  sweepPos : Nat := 0
  deriving DecidableEq, Repr

/-- Flow control of one port: OP_PFC_SET fields, XOFF bits, received pauses, storm watch (10 R307-R319, Table 10-7). -/
structure Fcp where
  pauseMode : Bool := false
  stormBreak : Bool := false
  defPcp : Nat := 0
  quanta : Nat := 65535
  stormMs : Nat := 50
  recoverMs : Nat := 100
  ecnCells : Nat := 0
  prioMap : List Nat := [0, 1, 2, 3, 4, 5, 6, 7]
  qmap : List Nat := [0x3, 0xC, 0x30, 0xC0, 0x300, 0xC00, 0x3000, 0xC000]
  sa : Nat := 0
  /-- XOFF bits of the classes' states, and pause-all (10 R312). -/
  xoff : Nat := 0
  pauseAll : Bool := false
  /-- XOFF bits last sent to the partner, and a frame owed. -/
  sent : Nat := 0
  owed : Bool := false
  nextRefresh : Nat := 0
  /-- Running received pause timers: class and tick of expiry. -/
  timers : List (Nat × Nat) := []
  /-- Since when each queue of the port (0-15 unicast, 16-19 multicast) has been paused. -/
  pausedSince : Tab (Option Nat) := []
  /-- Tick of the last frame dropped for headroom overrun (10 R320). -/
  lastOverrun : Option Nat := none
  /-- Queues in storm, and breaks with their end. -/
  storm : List Nat := []
  breaks : List (Nat × Nat) := []
  deriving DecidableEq, Repr

/-! ### The Spillway (chapter 11) -/

/-- HBM regions in GiB (11 Table 11-2). -/
structure HbmMap where
  ledger : Nat := 64
  telemetry : Nat := 8
  longReach : Nat := 8
  spill : Nat := 64
  deriving DecidableEq, Repr

/-- A CXL port (11 R350-R353). -/
structure Cxl where
  inService : Bool := false
  lost : Bool := false
  enumerating : Bool := false
  /-- The last enumeration failed (11 R352). -/
  failed : Bool := false
  capMib : Nat := 0
  width : Nat := 0
  rate : Nat := 0
  /-- Step of the enumeration in progress; 0: asked for and not begun. -/
  step : Nat := 0
  /-- CX_PERST_N is asserted. -/
  perst : Bool := true
  deriving DecidableEq, Repr

/-- A long-reach class's basin queue (11 R346-R348). -/
structure Lrq where
  mib : Nat := 0
  /-- Bytes of records in the LRQ, and of those of the frames staged for it. -/
  bytes : Nat := 0
  stagedBytes : Nat := 0
  /-- Frames in the LRQ, oldest first; frames staged for it. -/
  frames : List Nat := []
  staged : List Nat := []
  deriving DecidableEq, Repr

/-- The link record of a segment: the next segment of its chain, the queue that owns it, and FIRST_SOP (11 R335). -/
structure SegLink where
  next : Option Nat := none
  queue : Nat
  firstSop : Option Nat := none
  deriving DecidableEq, Repr

/-- The Spillway. -/
structure Spw where
  map : HbmMap := {}
  nextMap : HbmMap := {}
  cfgErr : Bool := false
  cxlEn : Nat := 15
  cxl : Tab Cxl := []
  caps : Tab Nat := []
  /-- Segments detached and not returned; retired; to be retired when freed. -/
  detached : List Nat := []
  retired : List Nat := []
  condemned : List Nat := []
  /-- Segments of broken chains, to be reclaimed by the basin audit. -/
  stray : List Nat := []
  stacksDown : Nat := 0
  /-- Packets of queues whose state words were lost, which the walker counts as it frees their segments. -/
  orphans : List (Nat × Ent) := []
  full : Bool := false
  /-- Link records of the segments of chains. -/
  links : Tab (Option SegLink) := []
  /-- Spill writes: the pipeline served last, and the queue served last of each (11 R345); the LRQ written last. -/
  rrPipe : Nat := 15
  rrQueue : Tab Nat := []
  rrLrq : Nat := 4095
  lrqs : Tab Lrq := []
  deriving DecidableEq, Repr

/-! ### The Escapement and the Tide Gauge (chapter 12) -/

/-- A shaper bucket (12 R369-R375). `credit` counts 1/200,000 byte, so that a rate in kb/s accrues whole
units in every AON tick. -/
structure Bucket where
  rate : Nat := 0xFFFFFFFF
  burst : Nat := 65536
  credit : Int := 13107200000
  last : Nat := 0
  /-- Eligible time of the wheel entry, and whether it sits on the coarse wheel. -/
  te : Option Nat := none
  coarse : Bool := false
  pending : Option (Nat × Nat) := none
  deriving DecidableEq, Repr

/-- A deficit round robin member (12 R366). -/
structure Drr where
  quantum : Nat := 160
  def_ : Int := 0
  deriving DecidableEq, Repr

/-- A round over members: the pointer and whether its turn has begun. -/
structure Round where
  ptr : Nat := 0
  turn : Bool := false
  deriving DecidableEq, Repr

/-- The scheduler of one port; members: queues 0-15, multicast 16-19, groups 20-23. -/
structure Sched where
  drrGroups : Bool := false
  adj : Int := 20
  members : Tab Drr := []
  /-- Rounds of groups 0-3, and of the port at 4. -/
  rounds : Tab Round := []
  deriving DecidableEq, Repr

/-- A gate list with its times (12 R376). -/
structure Tide where
  entries : List (Nat × Nat) := []
  baseNs : Nat := 0
  cycle : Nat := 1000
  deriving DecidableEq, Repr

/-- A port's Tide Table (12 Table 12-3). -/
structure TidePort where
  oper : Option Tide := none
  pending : Option (Tide × Nat) := none
  growth : Nat := 136
  /-- Entry in force as last reported (12 R376). -/
  at_ : Nat := 0
  eccOff : Bool := false
  deriving DecidableEq, Repr

/-- A queue's histograms (12 R384). -/
structure Hist where
  depth : List Nat := List.replicate 16 0
  delay : List Nat := List.replicate 16 0
  depthMax : Nat := 0
  delayMax : Nat := 0
  samples : Nat := 0
  partial_ : Bool := true
  deriving DecidableEq, Repr

/-- A port's gauge (12 R383-R388). -/
structure Gauge where
  enable : Nat := 0
  sampleQ : Nat := 4
  exportMs : Nat := 1000
  archive : Bool := false
  ring : Bool := false
  start : Nat := 0
  taken : Nat := 0
  /-- Start of the current interval in ns of device time. -/
  from_ : Nat := 0
  disc : Bool := false
  hists : Tab Hist := []
  deriving DecidableEq, Repr

/-- The Escapements and the gauge. Buckets are keyed port × 64 + node × 2 + (1 for the minimum). -/
structure Esc where
  /-- A BIST has zeroed the scheduler's memories: an unlisted entry reads as zeros (18 R537). -/
  zeroed : Bool := false
  scheds : Tab Sched := []
  buckets : Tab (Option Bucket) := []
  tides : Tab TidePort := []
  gauges : Tab Gauge := []
  /-- The telemetry archive: sequence and record, oldest first. -/
  archive : List (Nat × Nat × BitVec 1536) := []
  archSeq : Nat := 0
  deriving DecidableEq, Repr

/-! ### The Minute Repeater, the ledger and the weirs (chapter 13) -/

/-- A bank's state (13 Table 13-3). -/
inductive BankSt where
  | free | opened | closing | exporting
  deriving DecidableEq, Repr

/-- A polder's part of one epoch bank. -/
structure Bank where
  st : BankSt := .free
  /-- The epochs held, first to last; SPAN is their number. -/
  epochs : List Nat := []
  startNs : Nat := 0
  endNs : Nat := 0
  endTick : Nat := 0
  disc : Bool := false
  fwd : Bool := false
  back : Bool := false
  offs : Bool := false
  /-- Eight counters per tenant (13 Table 13-2). -/
  counts : Tab (List Nat) := []
  invalid : List Nat := []
  deriving DecidableEq, Repr

/-- A late cache entry (13 R410). -/
structure Late where
  tenant : Nat
  epoch : Nat
  polder : Nat
  delta : List Nat
  deriving DecidableEq, Repr

/-- A polder's export ring (13 R411, R423); records still to be written. -/
structure MrpRing where
  enable : Bool := false
  skipZero : Bool := true
  ledger : Bool := false
  sizeLog2 : Nat := 6
  base : Nat := 0
  wb : Nat := 0
  prod : Word := 0
  cons : Word := 0
  seq : Word := 0
  /-- Runs to be written, the one in progress first: bank, first epoch, tenants skipped, and the records still to be
  written before the trailer. -/
  runs : List (Nat × Nat × Nat × List (List Byte)) := []
  /-- The run in progress: records written, and the register of its CHECK. -/
  written : Nat := 0
  check : Nat := 0xFFFFFFFF
  /-- Records outside a run: early late adjustments and ledger records. -/
  extra : List (List Byte) := []
  unrecorded : Nat := 0
  deriving DecidableEq, Repr

/-- A flow of the ledger (13 R414). -/
structure Flow where
  key : BitVec 320
  polder : Nat
  tenant : Nat
  bytes : Nat := 0
  pkts : Nat := 0
  firstSec : Nat := 0
  lastSec : Nat := 0
  lastTick : Nat := 0
  exportTick : Nat := 0
  /-- It stands in the on-die cache. -/
  cached : Bool := true
  deriving DecidableEq, Repr

/-- OP_LEDGER_CONFIG of a polder (13 R422). -/
structure LedgerCfg where
  enable : Bool := false
  idleS : Nat := 60
  activeS : Nat := 0
  deriving DecidableEq, Repr

/-- A tenant's unattributed bucket (13 R415, Table 13-7). -/
structure Unattr where
  bytes : Nat := 0
  pkts : Nat := 0
  budget : Nat := 0
  collide : Nat := 0
  deriving DecidableEq, Repr

/-- What OP_METER_SET WEIR_SET sets (13 Table 13-10). -/
structure WeirCfg where
  aware : Bool := false
  yellow : Bool := false
  red : Nat := 0
  yellowPrio : Nat := 0
  redPrio : Nat := 0
  cir : Nat
  pir : Nat
  cbs : Nat
  pbs : Nat
  deriving DecidableEq, Repr

/-- A weir (13 R417-R420); buckets in 1/200,000 byte. -/
structure Weir where
  polder : Nat
  cfg : WeirCfg
  next : Option WeirCfg := none
  /-- Tick at which `next` was set. -/
  setTick : Nat := 0
  /-- It has been created and no exchange has come since (13 R420). -/
  fresh : Bool := false
  c : Int := 0
  p : Int := 0
  last : Nat := 0
  /-- Per quadrant: granted and unspent committed and peak tokens; spent in this interval. -/
  grants : Tab (Int × Int) := []
  spent : Tab (Nat × Nat) := []
  /-- Buckets with demand in this interval: quadrant × 2, plus 1 for the peak bucket (13 R419). -/
  asked : List Nat := []
  granted : Nat := 0
  rr : Nat := 0
  /-- Holds of port × 8 + class, with the tick at which each began (13 R418). -/
  holds : List (Nat × Nat) := []
  deriving DecidableEq, Repr

/-- Updates of one tenant in one epoch that a pipeline's combining front end has merged since a tick (13 R405). -/
structure Merge where
  pipe : Nat
  tenant : Nat
  polder : Nat
  epoch : Nat
  inc : List Nat := [0, 0, 0, 0, 0, 0, 0, 0]
  tick : Nat := 0
  deriving DecidableEq, Repr

/-- The Minute Repeater and the weirs. -/
structure Mrp where
  offsetMs : Nat := 0
  closeMs : Nat := 50
  cfgErr : Bool := false
  epoch : Nat := 0
  /-- A time step has touched the current epoch. -/
  disc : Bool := false
  /-- Banks keyed polder × 2 + bank. -/
  banks : Tab Bank := []
  late : List Late := []
  rings : Tab MrpRing := []
  /-- Updates merged in the combining front ends. -/
  merging : List Merge := []
  ledgers : Tab LedgerCfg := []
  caps : Tab Nat := []
  flows : Tab (Option Flow) := []
  unattr : Tab Unattr := []
  /-- Ledger updates that missed the cache: flow, bytes, seconds. -/
  misses : List (Flow × Nat) := []
  budgetTick : Nat := 0
  budgetUsed : Nat := 0
  walker : Nat := 0
  /-- Tenant rules: polder, kind, key, tenant. -/
  rules : List (Nat × Nat × Nat × Nat) := []
  weirs : Tab (Option Weir) := []
  lastExchange : Nat := 0
  /-- EP_TMU_CFG.TC_EN per polder. -/
  tcEn : Nat := 0
  deriving DecidableEq, Repr

/-! ### The Time Unit (chapter 13) -/

/-- A capture of device time at a pulse edge (13 R402). -/
structure Capture where
  time : Nat
  tick : Nat
  stepped : Bool := false
  deriving DecidableEq, Repr

/-- A time set or step that waits for the 1PPS_IN edge (13 R401). -/
structure AtPps where
  ep : Nat
  ring : Nat
  pos : Word
  /-- New time of a SET, or none for a STEP. -/
  setTo : Option Nat
  /-- Offset of a STEP in nanoseconds. -/
  offset : Int
  deadline : Nat
  deriving DecidableEq, Repr

/-- The Time Unit. `time` counts device time in units of 2^-16 ns / 256,000,000,000, so that a rate in
units of 2^-8 ppb advances it exactly (13 R396, R401). -/
structure Tmu where
  time : Nat := 0
  /-- FREQ, in units of 2^-8 ppb. -/
  freq : Int := 0
  /-- Offset that a slew has still to absorb, in units of `time`, and its sign. -/
  slewRem : Nat := 0
  slewNeg : Bool := false
  refSel : Bool := false
  refPresent : Bool := true
  refLocked : Bool := false
  cfgErr : Bool := false
  ppsWidthUs : Nat := 1000
  ppsOffset : Int := 0
  capIn : Option Capture := none
  capOut : Option Capture := none
  /-- Last whole second marked by 1PPS_OUT. -/
  lastPps : Int := 0
  atPps : List AtPps := []
  deriving DecidableEq, Repr

/-! ### The Check-Value Unit (chapter 14) -/

/-- A write accepted and not entered (14 R433); of 64-bit registers, one dword. -/
inductive CvuWrite where
  | data (n : Nat) (v : Word)
  /-- START, with the fold bytes already entered. -/
  | start (entered : Nat)
  | run (hi : Bool) (v : Word)
  | bytes (v : Word)
  | fold (hi : Bool) (v : Word)
  deriving DecidableEq, Repr

/-- A context (14 Table 14-3). -/
structure CvuCtx where
  alg : Nat := 0
  /-- The algorithm of the running computation: ALG as of the last START. -/
  runAlg : Nat := 0
  parMode : Bool := false
  irqEn : Bool := false
  foldLen : Nat := 0
  owner : Nat := 0
  nextOwner : Option Nat := none
  isMatch : Bool := false
  mismatch : Bool := false
  checkField : Bool := false
  stateErr : Bool := false
  /-- The next compare reports DATA_MISMATCH (14 R441). -/
  forced : Bool := false
  bytes : Word := 0
  fold : BitVec 64 := 0
  run : BitVec 64 := 0
  expect : BitVec 64 := 0
  expPar : BitVec 8 := 0
  buf : Option CvuWrite := none
  deriving DecidableEq, Repr

/-- The CVU: contexts and the round-robin position of the engine; regulator interrupt inputs raised. -/
structure Cvu where
  ctxs : Tab CvuCtx := []
  rr : Nat := 63
  /-- Per endpoint, one bit: which of its two contexts checks its next descriptor (14 R439). -/
  next : Nat := 0
  irqs : Nat := 0
  deriving DecidableEq, Repr

/-! ### The Dike Watch (chapter 15) -/

/-- A source's configuration (15 R446). -/
structure SrcCfg where
  severity : Nat
  escalate : Bool
  irqOff : Bool
  graceUs : Nat
  deriving DecidableEq, Repr

/-- One fault source (15 R444, R449, R455). -/
structure Src where
  live : Bool := false
  /-- Live status in the last sampling cycle. -/
  sampled : Bool := false
  latched : Bool := false
  /-- Severity of the report that stands in the latched bit, raised by an escalation. -/
  latchedSev : Nat := 0
  /-- Stored configuration; none: the default of the defining table. -/
  cfg : Option SrcCfg := none
  lastTick : Nat := 0
  reports : Nat := 0
  lasting : Bool := false
  /-- Running MAJOR grace timer: tick of expiry and grace in microseconds. -/
  timer : Option (Nat × Nat) := none
  /-- Running CRITICAL grace, likewise. -/
  crit : Option (Nat × Nat) := none
  escalated : Bool := false
  /-- The latched period has taken a CRITICAL reaction (15 R453). -/
  critTaken : Bool := false
  /-- End of the time window that keeps the source live ("in the last 1 ms"). -/
  windowEnd : Option Nat := none
  /-- Ticks of the happenings counted by a source that is live above a count, newest first, with the polders concerned. -/
  recent : List (Nat × Nat) := []
  /-- Polders of the rings, queues or objects whose condition made the source live (02 R79). -/
  attr : Nat := 0
  deriving DecidableEq, Repr

/-- A first-fault register (15 R457, Table 15-9). -/
structure FirstFault where
  source : Nat
  severity : Nat
  lasting : Bool
  sameCycle : Bool
  tick : Nat
  deriving DecidableEq, Repr

/-- A history entry (15 Table 15-3). -/
structure HistEntry where
  source : Nat
  severity : Nat
  lasting : Bool
  sameCycle : Bool
  /-- HISTORY_TOTAL when the entry was made. -/
  id : Nat
  /-- SEQ of the matching record, once the recorder has decided; 0xFFFF_FFFF: not stored. -/
  recSeq : Nat := 0xFFFFFFFF
  tick : Nat
  deriving DecidableEq, Repr

/-- The Fault Collection and Reaction unit (15 R457, R459, R470). -/
structure Fcr where
  srcs : Tab Src := []
  firstDev : Option FirstFault := none
  first : Tab (Option FirstFault) := []
  /-- The newest 64 entries, newest first. -/
  history : List HistEntry := []
  historyTotal : Nat := 0
  alertMin : Nat := 3
  faultN : Bool := false
  alertN : Bool := false
  deriving DecidableEq, Repr

/-! ### The Event Recorder (chapter 16) -/

/-- An event record (16 Table 16-1); `hist` tells which history entry waits for its SEQ. -/
structure Rec where
  seq : Nat := 0
  powerCycles : Nat := 0
  code : Nat
  severity : Nat
  shared : Bool
  polder : Nat
  noPolder : Bool
  source : Option Nat
  coalesced : Bool := false
  count : Nat := 0
  data : BitVec 160
  hist : Option Nat := none
  deriving DecidableEq, Repr

/-- A slot of the event directory with its token bucket and suppression episode (16 R479, R480, R481).
`deficit` is what the bucket lacks of BURST, in tokens times 25,000,000. -/
structure DirSlot where
  code : Option Nat := none
  severity : Nat := 0
  rate : Nat := 1000
  burst : Nat := 64
  deficit : Nat := 0
  lastTick : Nat := 0
  supTotal : Nat := 0
  supCount : Nat := 0
  supFirst : Nat := 0
  supLast : Nat := 0
  supSeverity : Nat := 0
  supPolder : Nat := 0
  supShared : Bool := false
  supNoPolder : Bool := false
  supCode : Nat := 0
  deriving DecidableEq, Repr

/-- A sector of the persistent log (16 R487, R488). -/
structure Sector where
  erased : Bool := true
  opened : Bool := false
  retired : Bool := false
  powerCycles : Nat := 0
  serial : Nat := 0
  erases : Nat := 0
  opHours : Nat := 0
  firstSeq : Nat := 0
  records : List Rec := []
  /-- Verifications failed so far in the present erase or program. -/
  fails : Nat := 0
  deriving DecidableEq, Repr

/-- The recorder (16 R474-R491). -/
structure Evr where
  /-- The input queue, next to admit first, at most 1,024 (16 R476). -/
  input : List Rec := []
  /-- Frames dropped for headroom overrun whose record was suppressed or lost, per port × 8 + class (10 R330). -/
  overruns : Tab Nat := []
  nextSeq : Nat := 0
  /-- The on-die log: slot and record, 65,536 slots (16 R482). -/
  log : Tab (Option Rec) := []
  /-- Slots used so far, in index order. -/
  used : Nat := 0
  newest : Nat := 0
  anyLogged : Bool := false
  dir : Tab DirSlot := []
  /-- Endpoints that hold a freeze, bit per endpoint (16 R484). -/
  holders : Nat := 0
  /-- Endpoints whose freeze an OP_LOG_READ holds for its own duration (16 R484). -/
  reading : Nat := 0
  frozen : Bool := false
  freezeStart : Nat := 0
  /-- Tick until which a freeze is refused after a thaw by the limit. -/
  refuseUntil : Nat := 0
  /-- Endpoints whose freeze the limit ended. -/
  expired : Nat := 0
  fifo : List Rec := []
  draining : Bool := false
  lostInFreeze : Nat := 0
  /-- The last-ditch bank in use, and its records (16 R486). -/
  lastDitch : Bool := false
  bank : Tab (Option Rec) := []
  bankUsed : Nat := 0
  /-- Log slots that read uncorrectably. -/
  badSlots : List Nat := []
  rawPage : Nat := 0
  powerCycles : Nat := 0xFFFF
  scanDone : Bool := false
  opHours : Nat := 0
  nextHour : Nat := 90000000000
  /-- The persistent queue, at most 256, oldest first (16 R489). -/
  pqueue : List Rec := []
  pdropped : Nat := 0
  sectors : Tab Sector := []
  curSector : Option Nat := none
  serial : Nat := 0
  persistSeq : Nat := 0
  persistStopped : Bool := false
  deriving DecidableEq, Repr

/-! ### Boot, one-time-programmable store, control stores, regulators (chapter 17) -/

/-- GL_BOOT_STATUS.STATE (17 Table 17-10). -/
inductive BootSt where
  | idle | loading | loaded | waitHost | failed
  deriving DecidableEq, Repr

/-- The fuses (17 Table 17-6, R508); `bad` fields are those whose ECC has failed. -/
structure Otp where
  imageKey : Tab (BitVec 512) := []
  imageProg : Nat := 0
  imageRevoked : Nat := 0
  imageBad : Nat := 0
  provKey : BitVec 512 := 0
  provProg : Bool := false
  provRevoked : Bool := false
  provBad : Bool := false
  idPriv : Nat := 0
  idPub : List Byte := []
  idBad : Bool := false
  /-- Anti-rollback fuses blown. -/
  rollback : Nat := 0
  jtagLock : Bool := false
  diagRomDisable : Bool := false
  hostPushDisable : Bool := false
  anyBad : Bool := false
  deriving DecidableEq, Repr

/-- One section of the loaded image (17 Table 17-9). -/
structure Section where
  type : Nat
  target : Nat
  reloads : Nat := 0
  measurement : BitVec 512
  deriving DecidableEq, Repr

/-- The secure loader and the boot registers (17 R498-R506, Table 17-10). -/
structure Boot where
  st : BootSt := .idle
  slot : Nat := 0
  locked : Bool := false
  cause : Nat := 0
  attempts : Nat := 0
  addr : BitVec 64 := 0
  len : BitVec 32 := 0
  /-- An attempt has been rejected since POR_N (17 R505). -/
  rejected : Bool := false
  /-- Sources still to be tried by the running load: 0 slot A, 1 slot B, 2 host, 3 diagnostic ROM. -/
  candidates : List Nat := []
  loadTick : Nat := 0
  imageVersion : Nat := 0
  keySlot : Nat := 0
  path : Nat := 0
  manifestHash : BitVec 512 := 0
  sections : List Section := []
  /-- The image names a persistent log region (16 R487). -/
  persist : Bool := false
  diagRom : Bool := false
  /-- A BIST has run since the last load (18 R537). -/
  bistRun : Bool := false
  reportSeq : Nat := 0
  /-- Length of the identity certificate that the flash directory names; 0: none, or no flash was read (17 R517). -/
  certLen : Nat := 0
  /-- A load by itself is due after POR_N or SYS_RST_N (18 Table 18-2). -/
  auto : Bool := true
  /-- Stores left unlocked and zeroed: kind and index (17 R515). -/
  unlocked : List (Nat × Nat) := []
  /-- The running reload (17 R514): endpoint, ring, position of its command, store kind and index, tick of its start. -/
  reloading : Option (Nat × Nat × Nat × Nat × Nat × Nat) := none
  /-- The OP_MODE_SET that waits for LOADING to end (18 R526): endpoint, ring, position. -/
  waiter : Option (Nat × Nat × Nat) := none
  fuseFailed : Bool := false
  fallback : Bool := false
  deriving DecidableEq, Repr

/-- One pipeline's microcode and clocks (05 R144, 08 R235, 17 Table 17-7, 18 R531). -/
structure Pipe where
  parseStore : Tab (BitVec 512) := []
  actionStore : Tab (BitVec 512) := []
  /-- Stopped by an uncorrectable parse or action fetch, or by a reload. -/
  parseStopped : Bool := false
  actionStopped : Bool := false
  asleep : Bool := true
  waking : Bool := false
  /-- Tick of the trigger that began the wake (04 R127). -/
  wakeAt : Nat := 0
  /-- Tick since which the pipeline has been idle. -/
  idleSince : Nat := 0
  /-- SLEEP_US as it stood then: a change applies from the next idle interval (18 R539). -/
  idleUs : Nat := 50
  deriving DecidableEq, Repr

/-- Regulators and adaptation engines (17 R513, 15 R463). -/
structure Reg where
  regStore : Tab (Tab (BitVec 128)) := []
  adpStore : Tab (Tab (BitVec 64)) := []
  regStopped : Nat := 0
  regTrapped : Nat := 0
  adpStopped : Nat := 0
  /-- Next lane of each adaptation engine's even and odd slices, and which slice is next (01 R28). -/
  adpEven : Tab Nat := []
  adpOdd : Tab Nat := []
  adpSlice : Tab Nat := []
  deriving DecidableEq, Repr

/-! ### The Balance domain, modes and clocks (chapters 18, 19) -/

/-- The Balance domain and the mode machine (18 R523-R531, Table 18-8). -/
structure Bal where
  /-- AON ticks since POR_N; the counter that software reads is its low 40 bits (18 Table 18-1). -/
  tick : Nat := 0
  mode : DevMode := .dormant
  prevMode : DevMode := .off
  /-- Event code of the last mode entry (18 R525). -/
  reason : Nat := 0
  since : Nat := 0
  straps : Straps := {}
  bootEff : Nat := 0
  strapInvalid : Bool := false
  porN : Bool := true
  sysRst : Bool := false
  corePll : Bool := false
  corePllRetried : Bool := false
  mgmtPll : Bool := true
  refOnOsc : Bool := false
  serdesRef : Bool := true
  holdIdle : Bool := true
  sleepUs : Nat := 50
  drainMs : Nat := 1000
  /-- Entry and limit of a running drain (18 R528). -/
  drainStart : Nat := 0
  drainEnd : Nat := 0
  /-- GL_GPIO_CTRL and the input pins (19 Table 19-10). -/
  gpioCtrl : BitVec 32 := 0
  gpioIn : Nat := 0
  /-- Sensor readings in 0.25 °C, two's complement of 16 bits (19 R562). -/
  sensors : Tab Nat := []
  thermN : Bool := false
  /-- VDD_CORE set point in mV in force, the write awaiting confirmation, and its tick (19 R551). -/
  vddCore : Nat := 750
  avsPending : Option Nat := none
  avsTick : Nat := 0
  /-- Rail voltages in mV as last measured, and the rails out of tolerance (19 R568). -/
  rails : Tab Nat := []
  railsBad : Nat := 0
  /-- LED frames sent. -/
  ledFrames : Nat := 0
  /-- Loopback kind per port, PRBS pattern and counts per lane (18 R536, R538). -/
  loopback : Tab Nat := []
  prbs : Tab (Option (Nat × Nat × Nat)) := []
  /-- The instruction in force in the TAP; IEEE 1149.1 resets it to IDCODE (19 R561). -/
  tapIr : TapInstr := .idcode
  deriving DecidableEq, Repr

/-! ### Outputs -/

/-- What leaves the device. -/
inductive Out where
  | hostRead (ep : Nat) (addr : Nat) (len : Nat)
  | hostWrite (ep : Nat) (addr : Nat) (bytes : List Byte)
  /-- An output buffer whose contents a DMA write error leaves undefined (02 R583). -/
  | hostUndefined (ep : Nat) (addr : Nat) (len : Nat)
  | msix (ep : Nat) (vec : Nat) (addr : Nat) (data : Nat)
  | regRead (ep : Nat) (off : Nat) (width : Nat) (v : Nat)
  /-- A frame on the wire of a front-panel port, FCS included. -/
  | frame (port : Nat) (bytes : List Byte)
  | smbus (bytes : List Byte)
  /-- A pulse on 1PPS_OUT, with its width in microseconds. -/
  | ppsOut (widthUs : Nat)
  | led (bits : List Bool)
  | avs (mv : Nat)
  | tap (v : Nat)
  deriving DecidableEq, Repr

/-! ### The device -/

/-- Everything the spec gives the device. -/
structure Dev where
  bal : Bal := {}
  hif : Hif := {}
  plc : Plc := {}
  fcr : Fcr := {}
  evr : Evr := {}
  otp : Otp := {}
  boot : Boot := {}
  reg : Reg := {}
  pipes : Tab Pipe := []
  tmu : Tmu := {}
  pte : Pte := {}
  pse : Pse := {}
  rle : Rle := {}
  lrn : Lrn := {}
  dp : Dp := {}
  swc : Swc := {}
  bpm : Bpm := {}
  fcps : Tab Fcp := []
  spw : Spw := {}
  esc : Esc := {}
  mrp : Mrp := {}
  cvu : Cvu := {}
  ctrs : Tab Nat := []
  /-- Serial number of the next free value (the model's own field). -/
  freeSeq : Nat := 0
  /-- What has left the device, newest first (the model's own field). -/
  out : List Out := []
  deriving DecidableEq, Repr

/-- The block with the queue of commands that wait, first in, first out. -/
structure State where
  pending : List Instr := []
  dev : Dev := {}
  deriving DecidableEq, Repr

/-- Nothing stops with a fault. -/
inductive Fault where
  /-- No command raises it: every meaning completes or is refused (safe). -/
  | never
  deriving DecidableEq, Repr

inductive Refusal where
  /-- The command has no meaning yet (safe: nothing follows). -/
  | notModelled (mnemonic : String)
  /-- TAP_INSTRUCTION of a private debug instruction while the TAP is not locked: it acts on the debug unit, and the spec does
  not say what it does (19 R561). Safe: nothing follows. -/
  | privateDebug
  deriving DecidableEq, Repr

/-- A polder that owns everything: polder 0 at reset (03 R91). -/
def wholePolder : Polder :=
  { st := .forwarding, owner := 0, holdIdle := true, tenantCount := 262144, cellMax := 1048576, vecCount := 512
    crMask := 2 ^ 64 - 1, cqMask := 2 ^ 64 - 1, rxqMask := 2 ^ 256 - 1, txqMask := 2 ^ 256 - 1
    quota := [524288, 1048576, 524288, 2097152, 524288, 65536, 262144, 262144, 16384, 1048576, 512, 65536]
    portMap := 2 ^ 512 - 1 }

/-- The first CHALLENGE: 64 bits from the entropy source, never 0 (03 R110): a free value. -/
def resetChallenge : BitVec 64 :=
  if (Config.freeValue 0).toNat % 2 ^ 64 = 0 then 1 else BitVec.ofNat 64 ((Config.freeValue 0).toNat % 2 ^ 64)

/-- EV_POWER_ON with every strap 0, which waits in the recorder's input queue (18 R525). -/
def powerOnRecord : Rec :=
  { code := 0x1400, severity := 0, shared := true, polder := 0, noPolder := false, source := none, data := 0 }

/-- The device right after POR_N deassertion with every strap 0, its fuses blank and its one endpoint still down: the mode is
DORMANT, polder 0 owns everything, CHALLENGE has been drawn, and the sources of the absent identity, of the link and of
PE_PERST_N are live (03 R91, R110; 17 R517; 18 R525, Table 18-2). -/
def State.reset : State :=
  { dev :=
    { bal := { reason := 0x1400 }
      plc := { polders := [(0, wholePolder)], challenge := resetChallenge }
      fcr := { srcs := [(0x14, { live := true }), (0x40, { live := true }), (0x41, { live := true })] }
      evr := { input := [powerOnRecord] }
      freeSeq := 1 } }

end Sys2Proof.Machine
end

