-- ==== Sys2Proof/Machine/Ops.lean ====
section
/-! DEFINITION. The named operations that every family uses: reads and changes of indexed state, the
clock, counters, outputs, event records, the live status of fault sources, ownership. -/
namespace Sys2Proof.Machine

/-! ### Indexed state -/

/-- Endpoint `e`. -/
def Dev.ep (d : Dev) (e : Nat) : Endpoint := tget d.hif.eps {} e
/-- Changes endpoint `e`. -/
def Dev.modEp (d : Dev) (e : Nat) (f : Endpoint → Endpoint) : Dev :=
  { d with hif := { d.hif with eps := tmod d.hif.eps {} e f } }
/-- Command ring `n` of endpoint `e`. -/
def Dev.cr (d : Dev) (e n : Nat) : CmdRing := tget (d.ep e).crs {} n
def Dev.modCr (d : Dev) (e n : Nat) (f : CmdRing → CmdRing) : Dev :=
  d.modEp e (fun x => { x with crs := tmod x.crs {} n f })
/-- Completion ring `n` of endpoint `e`. -/
def Dev.cq (d : Dev) (e n : Nat) : CplRing := tget (d.ep e).cqs {} n
def Dev.modCq (d : Dev) (e n : Nat) (f : CplRing → CplRing) : Dev :=
  d.modEp e (fun x => { x with cqs := tmod x.cqs {} n f })
/-- Receive queue `q` of endpoint `e`. -/
def Dev.rxq (d : Dev) (e q : Nat) : PktQueue := tget (d.ep e).rxqs {} q
def Dev.modRxq (d : Dev) (e q : Nat) (f : PktQueue → PktQueue) : Dev :=
  d.modEp e (fun x => { x with rxqs := tmod x.rxqs {} q f })
/-- Transmit queue `q` of endpoint `e`. -/
def Dev.txq (d : Dev) (e q : Nat) : PktQueue := tget (d.ep e).txqs {} q
def Dev.modTxq (d : Dev) (e q : Nat) (f : PktQueue → PktQueue) : Dev :=
  d.modEp e (fun x => { x with txqs := tmod x.txqs {} q f })
/-- Polder `p`. -/
def Dev.polder (d : Dev) (p : Nat) : Polder := tget d.plc.polders {} p
def Dev.modPolder (d : Dev) (p : Nat) (f : Polder → Polder) : Dev :=
  { d with plc := { d.plc with polders := tmod d.plc.polders {} p f } }
/-- Fault source `s`. -/
def Dev.src (d : Dev) (s : Nat) : Src := tget d.fcr.srcs {} s
def Dev.modSrc (d : Dev) (s : Nat) (f : Src → Src) : Dev :=
  { d with fcr := { d.fcr with srcs := tmod d.fcr.srcs {} s f } }
/-- Pipeline `p`'s stores and clocks. -/
def Dev.pipe (d : Dev) (p : Nat) : Pipe := tget d.pipes {} p
def Dev.modPipe (d : Dev) (p : Nat) (f : Pipe → Pipe) : Dev :=
  { d with pipes := tmod d.pipes {} p f }

/-! ### Modes -/

/-- The code of a device mode (02 Table 2-15). -/
def DevMode.code : DevMode → Nat
  | .off => 0 | .dormant => 1 | .loading => 2 | .provisioning => 3
  | .forwarding => 4 | .draining => 5 | .safeHold => 6 | .diagnostic => 7

/-- The mode of a code; 0 for a value that is none. -/
def modeOfCode : Nat → DevMode
  | 1 => .dormant | 2 => .loading | 3 => .provisioning | 4 => .forwarding
  | 5 => .draining | 6 => .safeHold | 7 => .diagnostic | _ => .off

/-- The core domain is powered (18 Table 18-1). -/
def Dev.corePowered (d : Dev) : Bool :=
  match d.bal.mode with
  | .off | .dormant => false
  | _ => true

/-- Regulator `r` serves its duties: its store has not stopped it, nor a trap (15 R463, 17 R513). -/
def Dev.regRuns (d : Dev) (r : Nat) : Bool := !d.reg.regStopped.testBit r && !d.reg.regTrapped.testBit r

/-- The code of a polder state (02 Table 2-15). -/
def PolderSt.code : PolderSt → Nat
  | .undefined => 0 | .forwarding => 1 | .draining => 2 | .safeHold => 3

/-! ### The clock -/

/-- AON ticks in `n` microseconds (00 R7). -/
def usTicks (n : Nat) : Nat := 25 * n
/-- AON ticks in `n` milliseconds. -/
def msTicks (n : Nat) : Nat := 25000 * n

/-- The AON tick that software reads: 40 bits (18 Table 18-1). -/
def Dev.aon (d : Dev) : Nat := d.bal.tick % 2 ^ 40

/-- One nanosecond in units of `Tmu.time`. -/
def timeNs : Nat := 65536 * 256000000000

/-- Device time after `n` AON ticks: 40 ns each, scaled by 1 + FREQ, a slew adding or taking 100 ppm
until its offset is used up (13 R396, R401). -/
def Tmu.advance (t : Tmu) (n : Nat) : Tmu :=
  let step := n * 40 * 65536
  let gain := (step * (256000000000 + t.freq).toNat)
  let absorb := min (step * 25600000) t.slewRem
  { t with
    time := if t.slewNeg then t.time + gain - absorb else t.time + gain + absorb
    slewRem := t.slewRem - absorb }

/-- `n` AON ticks pass. Device time runs while the core domain is powered (18 Table 18-4). -/
def Dev.pass (d : Dev) (n : Nat) : Dev :=
  { d with
    bal := { d.bal with tick := d.bal.tick + n }
    tmu := if d.corePowered then d.tmu.advance n else d.tmu }

/-- The clock stands at tick `t` or later: a happening that only time brings about has been reported. -/
def Dev.reach (d : Dev) (t : Nat) : Dev := d.pass (t - d.bal.tick)

/-- Device time in whole nanoseconds. -/
def Dev.timeNsAll (d : Dev) : Nat := d.tmu.time / timeNs
/-- SEC, NS and FRAC of a device time (13 R396). -/
def timeSec (t : Nat) : Nat := (t / timeNs / 1000000000) % 2 ^ 48
def timeNano (t : Nat) : Nat := (t / timeNs) % 1000000000
def timeFrac (t : Nat) : Nat := (t / 256000000000) % 65536

/-! ### Counters -/

/-- Where a counter of an object stands in the table of counters. -/
def ctrKey (c : Ctr) (i : Nat) : Nat := c.ctorIdx * 2 ^ 32 + i

/-- A counter of object `i`. -/
def Dev.ctr (d : Dev) (c : Ctr) (i : Nat) : Nat := tget d.ctrs 0 (ctrKey c i)

/-- Sets a counter. -/
def Dev.setCtr (d : Dev) (c : Ctr) (i v : Nat) : Dev := { d with ctrs := tset d.ctrs 0 (ctrKey c i) v }

/-- Adds to a counter, which saturates at 64 bits (02 R80). -/
def Dev.bump (d : Dev) (c : Ctr) (i : Nat) (n : Nat := 1) : Dev :=
  d.setCtr c i (min (d.ctr c i + n) (2 ^ 64 - 1))

/-- Raises a peak counter. -/
def Dev.peak (d : Dev) (c : Ctr) (i v : Nat) : Dev := d.setCtr c i (max (d.ctr c i) v)

/-! ### Outputs and free values -/

/-- Something leaves the device. -/
def Dev.emit (d : Dev) (o : Out) : Dev := { d with out := o :: d.out }

/-- A value of `w` bits that the spec leaves open: nothing constrains it. -/
def Dev.free (d : Dev) (w : Nat) : Nat × Dev :=
  ((Config.freeValue d.freeSeq).toNat % 2 ^ w, { d with freeSeq := d.freeSeq + 1 })

/-- Bytes written to host memory, or, where the write meets a DMA error, a buffer left undefined (02 R583); an endpoint that
is down issues no write (02 R40). -/
def Dev.hostOut (d : Dev) (ep addr : Nat) (bs : List Byte) (err : Bool) : Dev :=
  if (d.ep ep).up then d.emit (if err then .hostUndefined ep addr bs.length else .hostWrite ep addr bs) else d

/-! ### Endpoints, polders, ownership -/

/-- The number of endpoints that bifurcation provides (02 R38). -/
def Dev.epCount (d : Dev) : Nat :=
  match d.bal.straps.peBif with
  | 1 => 2 | 2 => 4 | _ => 1

/-- The endpoint's function answers register accesses: it is up, or nothing but a clear Bus Master Enable keeps it
down, which stops its own requests alone (02 R40, 20 R574). -/
def Endpoint.answers (x : Endpoint) : Bool := x.up || !(x.perst || x.flr || x.linkDown)

/-- Endpoint `e` exists (02 R38). -/
def Dev.present (d : Dev) (e : Nat) : Bool := decide (e < d.epCount)

/-- The polders that endpoint `e` owns, as a mask. -/
def Dev.owned (d : Dev) (e : Nat) : Nat :=
  (List.range 8).foldl (fun m p =>
    if (d.polder p).st ≠ .undefined ∧ (d.polder p).owner = e then m + 2 ^ p else m) 0

/-- The polder that owns a lane (03 R81). -/
def Dev.lanePolder (d : Dev) (l : Nat) : Option Nat :=
  (List.range 8).find? (fun p => (d.polder p).st ≠ .undefined && (d.polder p).portMap.testBit l)

/-- Endpoint `e` is the warden (03 R106). -/
def Dev.isWarden (d : Dev) (e : Nat) : Bool := decide (d.plc.warden = e)

/-- Endpoint `e` owns polder `p`. -/
def Dev.owns (d : Dev) (e p : Nat) : Bool := (d.owned e).testBit p

/-! ### Fault sources: defaults, attribution, live status -/

/-- Whom a source or a record concerns (03 R102, R585; 16 R475). -/
inductive Who where
  | shared
  | polders (mask : Nat)
  | nobody
  deriving DecidableEq, Repr

/-- Default severity of a source, by the table that defines it; none: the number is reserved (15 R445). -/
def defaultSeverity (s : Nat) : Option Nat :=
  let pick (n : Nat) (t : List (Nat × Nat × Nat)) : Option Nat :=
    (t.find? (fun r => decide (r.1 ≤ n ∧ n < r.1 + r.2.1))).map (fun r => r.2.2)
  if s < 0x40 then
    pick s [(0x00, 3, 4), (0x03, 1, 3), (0x04, 1, 1), (0x05, 1, 2), (0x10, 1, 4), (0x11, 1, 1), (0x12, 2, 3),
      (0x14, 2, 2), (0x16, 1, 1), (0x20, 1, 3), (0x21, 1, 4), (0x22, 1, 2), (0x23, 10, 4), (0x30, 1, 2),
      (0x31, 1, 3), (0x32, 1, 4), (0x33, 1, 2)]
  else if s < 0x80 then pick (s % 16) [(0, 1, 2), (1, 1, 1), (2, 6, 2), (8, 2, 1), (10, 1, 3)]
  else if s < 0xC0 then pick (s % 8) [(0, 3, 1), (3, 1, 2), (4, 1, 1)]
  else if s < 0x100 then
    pick s [(0xC0, 2, 3), (0xC2, 2, 1), (0xC8, 1, 3), (0xC9, 1, 1), (0xCA, 1, 2), (0xCB, 1, 3), (0xCC, 2, 1),
      (0xD0, 4, 3)]
  else if s < 0x500 then some 2
  else if s < 0x900 then
    pick (s % 64) [(0x00, 1, 4), (0x01, 2, 1), (0x10, 1, 4), (0x11, 2, 1), (0x38, 1, 3), (0x39, 1, 2)]
  else if s < 0xA00 then
    pick (s % 64) [(0x00, 3, 2), (0x20, 2, 2), (0x22, 2, 1), (0x24, 1, 3)]
  else if s < 0xB00 then
    pick (s % 256) [(0x00, 4, 3), (0x04, 4, 1), (0x08, 1, 4), (0x09, 1, 3), (0x0A, 1, 2), (0x10, 16, 1),
      (0x20, 16, 1), (0x30, 2, 1)]
  else if s < 0xC00 then
    pick (s % 256) [(0x00, 4, 3), (0x04, 1, 2), (0x05, 3, 1), (0x08, 1, 3)]
  else if s < 0xD00 then
    pick (s % 256) [(0x00, 4, 4), (0x04, 4, 1), (0x08, 4, 2), (0x10, 4, 3), (0x14, 4, 2), (0x18, 4, 1),
      (0x1C, 4, 1), (0x20, 2, 1), (0x22, 2, 3)]
  else if s < 0xE00 then
    pick (s % 256) [(0x00, 16, 3), (0x10, 16, 1), (0x20, 1, 1), (0x21, 1, 3), (0x22, 2, 1), (0x24, 1, 2)]
  else if s < 0xF00 then
    pick (s % 256) [(0x00, 1, 2), (0x01, 2, 1), (0x10, 8, 2), (0x18, 1, 2), (0x19, 1, 3), (0x1A, 1, 2),
      (0x1B, 1, 1), (0x20, 1, 2)]
  else
    pick s [(0xF00, 2, 2), (0xF02, 2, 3), (0xF10, 4, 4), (0xF14, 4, 1), (0xF18, 8, 3), (0xF20, 8, 1),
      (0xF30, 4, 2), (0xF34, 1, 1)]

/-- The configuration that the defining table gives a source (15 R446). -/
def defaultCfg (s : Nat) : SrcCfg :=
  let sev := (defaultSeverity s).getD 0
  { severity := sev, escalate := true, irqOff := false, graceUs := if sev = 3 then 10000 else 0 }

/-- The stored configuration of a source (15 R446). -/
def Dev.srcCfg (d : Dev) (s : Nat) : SrcCfg := (d.src s).cfg.getD (defaultCfg s)

/-- A set of polders as a `Who`; an empty set concerns nobody. -/
def whoOf (mask : Nat) : Who := if mask = 0 then .nobody else .polders mask

/-- The attribution of a source (03 Table 3-7, R585; 02 R79). -/
def Dev.attribution (d : Dev) (s : Nat) : Who :=
  let lane (l : Nat) : Who := match d.lanePolder l with
    | some p => .polders (2 ^ p)
    | none => .nobody
  if s < 0x40 then .shared
  else if s < 0x80 then
    if s % 16 ∈ [0, 1, 8, 9] then whoOf (d.owned ((s - 0x40) / 16)) else whoOf ((d.src s).attr &&& d.owned ((s - 0x40) / 16))
  else if s < 0xC0 then .polders (2 ^ ((s - 0x80) / 8))
  else if s < 0x100 then .shared
  else if s < 0x300 then lane (s - 0x100)
  else if s < 0x500 then lane (s - 0x300)
  else .shared

/-- The severity in force for a report of a source: OFF for a lane or pause source of a lane of no polder (03 R585). -/
def Dev.effSeverity (d : Dev) (s : Nat) : Nat :=
  if 0x100 ≤ s ∧ s < 0x500 ∧ d.attribution s = .nobody then 0 else (d.srcCfg s).severity

/-- A source's condition begins to hold; a reserved source is never live (15 R444, R445). -/
def Dev.setLive (d : Dev) (s : Nat) (attr : Nat := 0) : Dev :=
  if (defaultSeverity s).isNone then d
  else d.modSrc s (fun x => { x with live := true, windowEnd := none, attr := x.attr ||| attr })

/-- A source's condition ceases to hold. -/
def Dev.clearLive (d : Dev) (s : Nat) : Dev :=
  d.modSrc s (fun x => { x with live := false, windowEnd := none })

/-- A source's condition holds or not. -/
def Dev.live (d : Dev) (s : Nat) (on : Bool) (attr : Nat := 0) : Dev :=
  if on then d.setLive s attr else d.clearLive s

/-- A source whose condition is a happening within the last `ticks`: it becomes live, and a happening
while it is live moves the end of its window. -/
def Dev.liveFor (d : Dev) (s : Nat) (ticks : Nat) (attr : Nat := 0) : Dev :=
  if (defaultSeverity s).isNone then d
  else d.modSrc s (fun x => { x with live := true, windowEnd := some (d.bal.tick + ticks), attr := x.attr ||| attr })

/-- A source live for 1 ms after a happening. -/
def Dev.liveMs (d : Dev) (s : Nat) (attr : Nat := 0) : Dev := d.liveFor s (msTicks 1) attr

/-- A source live while more than `limit` happenings fall within the last 1 ms: one more happening. It is attributed to the polders of
every happening that the count includes (02 R79). -/
def Dev.liveCount (d : Dev) (s limit : Nat) (attr : Nat := 0) : Dev :=
  let rec0 := (d.bal.tick, attr) :: (d.src s).recent.filter (fun t => decide (d.bal.tick < t.1 + msTicks 1))
  let d := d.modSrc s (fun x => { x with recent := rec0 })
  if limit < rec0.length then
    d.modSrc s (fun x =>
      { x with
        live := true, attr := rec0.foldl (fun m t => m ||| t.2) x.attr
        windowEnd := some ((rec0.getD limit (0, 0)).1 + msTicks 1) })
  else d

/-! ### Event records -/

/-- DATA of a record from (byte offset, bytes, value) fields (16 R587). -/
def dat (fs : List (Nat × Nat × Nat)) : BitVec 160 :=
  BitVec.ofNat 160 (pack (fs.map (fun f => (8 * f.1, 8 * f.2.1, f.2.2))))

/-- The lowest polder of a mask. -/
def lowPolder (m : Nat) : Nat := ((List.range 8).find? (fun p => m.testBit p)).getD 0

/-- The directory slot that serves a code (16 R479). -/
def Dev.slotOf (d : Dev) (code : Nat) : Nat :=
  ((d.evr.dir.find? (fun s => decide (s.2.code = some code))).map (fun s => s.1)).getD 1023

/-- A directory slot. -/
def Dev.slot (d : Dev) (i : Nat) : DirSlot := tget d.evr.dir {} i

/-- The severity that the directory gives a code (16 R475, R479). -/
def Dev.codeSeverity (d : Dev) (code : Nat) : Nat :=
  if 0x1400 ≤ code ∧ code < 0x1500 then intrinsicSeverity code
  else if d.slotOf code = 1023 then intrinsicSeverity code
  else (d.slot (d.slotOf code)).severity

/-- The frames that a record of EV_HEADROOM_OVERRUN tells of stay to be told where it is not admitted (10 R330). -/
def Dev.untold (d : Dev) (r : Rec) : Dev :=
  if r.code ≠ Ev.headroomOverrun then d
  else
    let k := 8 * (r.data.toNat % 2 ^ 16) + r.data.toNat / 2 ^ 16 % 2 ^ 8
    { d with evr := { d.evr with overruns := tmod d.evr.overruns 0 k (fun n => n + r.data.toNat / 2 ^ 24 % 2 ^ 32) } }

/-- A record arrives at the recorder's input queue of 1,024 entries: at a full queue a record of MAJOR or
above displaces the newest queued record below MAJOR; any other arrival is dropped (16 R476). -/
def Dev.pushRec (d : Dev) (r : Rec) : Dev :=
  if d.evr.input.length < 1024 then { d with evr := { d.evr with input := d.evr.input ++ [r] } }
  else
    let d := d.bump .evrInputDrop 0
    match (if r.severity < sevMajor then none else d.evr.input.reverse.findIdx? (fun x => decide (x.severity < sevMajor))) with
    | none => d.untold r
    | some i =>
      let d := (d.evr.input.reverse[i]?).elim d d.untold
      { d with evr := { d.evr with input := (d.evr.input.reverse.eraseIdx i).reverse ++ [r] } }

/-- Makes an event record with a given severity (16 R475). -/
def Dev.recordSev (d : Dev) (code sev : Nat) (who : Who) (source : Option Nat) (data : BitVec 160)
    (hist : Option Nat := none) : Dev :=
  d.pushRec {
    code := code, severity := sev, source := source, data := data, hist := hist
    shared := decide (who = .shared)
    polder := match who with
      | .polders m => lowPolder m
      | _ => 0
    noPolder := decide (who = .nobody) }

/-- Makes an event record with the severity of the event directory. -/
def Dev.record (d : Dev) (code : Nat) (who : Who) (source : Option Nat) (data : BitVec 160) : Dev :=
  d.recordSev code (d.codeSeverity code) who source data

/-- A retry has passed: the last report of a source is classed transient, in the source, its newest history entry and the
first-fault registers where it stands (15 R454). -/
def Dev.reclass (d : Dev) (s : Nat) : Dev :=
  let x := d.src s
  if !x.lasting then d
  else
    let id := ((d.fcr.history.find? (fun h => decide (h.source = s))).map HistEntry.id).getD d.fcr.historyTotal
    let fix (f : Option FirstFault) : Option FirstFault := f.map (fun y =>
      if y.source = s ∧ y.tick = x.lastTick then { y with lasting := false } else y)
    let d := { d with fcr := { d.fcr with
      history := d.fcr.history.map (fun (h : HistEntry) => if h.id = id ∧ h.source = s then { h with lasting := false } else h)
      firstDev := fix d.fcr.firstDev, first := d.fcr.first.map (fun (f : Nat × Option FirstFault) => (f.1, fix f.2)) } }
    let d := d.modSrc s (fun y => { y with lasting := false })
    if d.effSeverity s = 0 then d
    else d.record Ev.faultTransient (d.attribution s) (some s) (dat [(0, 2, s), (2, 5, x.lastTick % 2 ^ 40)])

/-- Adds records or outputs for each element of a list. -/
def Dev.each {α : Type} (d : Dev) (l : List α) (f : Dev → α → Dev) : Dev := l.foldl f d

end Sys2Proof.Machine
end

