-- ==== Sys2Proof/Machine/Operands.lean ====
section
/-! DEFINITION. Command descriptors, outstanding commands and their outcomes: the operand fields, the
reserved-bit check, and how a step of a command begins, goes on and ends (02 R46-R58, R581). -/
namespace Sys2Proof.Machine

/-! ### Statuses (02 Table 2-12) -/

abbrev stOk : Nat := 0x00
abbrev stAborted : Nat := 0x01
abbrev stAbortTooLate : Nat := 0x02
abbrev stBadCheck : Nat := 0x03
abbrev stCheckField : Nat := 0x04
abbrev stBadSequence : Nat := 0x05
abbrev stNotOwner : Nat := 0x06
abbrev stBadOpcode : Nat := 0x07
abbrev stBadOperand : Nat := 0x08
abbrev stNoRoom : Nat := 0x09
abbrev stBusyGen : Nat := 0x0A
abbrev stWrongMode : Nat := 0x0B
abbrev stClearRefused : Nat := 0x0C
abbrev stTimeout : Nat := 0x0D
abbrev stNotFound : Nat := 0x0E
abbrev stEntryParity : Nat := 0x0F

/-! ### Fields -/

/-- A field of a descriptor or record image: byte offset, lowest bit, width (00 R12). -/
def fld (d : Nat) (off lsb w : Nat) : Nat := bits d (8 * off + lsb) w

/-- The descriptor of a command as a number. -/
def Cmd.d (x : Cmd) : Nat := x.desc.toNat

/-- An operand field of a command. -/
def Cmd.fld (x : Cmd) (off lsb w : Nat) : Nat := Machine.fld x.d off lsb w

/-- The opcode byte. -/
def Cmd.opcode (x : Cmd) : Nat := x.fld 0 0 8

/-- The polder of the command's LOCATOR (02 R46): the objects it creates belong there (03 R84). -/
def Cmd.polder (x : Cmd) : Nat := x.fld 4 28 3

/-- An operand field as layout tables write it: byte offset, lowest bit, width. -/
abbrev Field := Nat × Nat × Nat

/-- The bits of the operand bytes 16-63 that the named fields cover. -/
def fieldMask (fs : List Field) : Nat :=
  fs.foldl (fun m f => m ||| ((2 ^ f.2.2 - 1) * 2 ^ (8 * f.1 + f.2.1))) 0

/-- The byte offset of the first non-zero operand bit outside the fields in use (02 R581); none: all are 0. -/
def reservedBad (d : Nat) (fs : List Field) : Option Nat :=
  let m := fieldMask fs
  (List.range 48).map (· + 16) |>.find? (fun o => decide (bits d (8 * o) 8 &&& (255 - bits m (8 * o) 8) ≠ 0))

/-! ### Outstanding commands -/

/-- An entry is the command that a reference names. -/
def names (c : CmdRef) (x : Cmd) : Bool := decide (x.ring = c.ring ∧ x.pos = c.pos)

/-- The outstanding command that a reference names. -/
def Dev.cmd? (d : Dev) (c : CmdRef) : Option Cmd := (d.ep c.ep).cmds.find? (names c)

/-- Changes an outstanding command. -/
def Dev.modCmd (d : Dev) (c : CmdRef) (f : Cmd → Cmd) : Dev :=
  d.modEp c.ep (fun x => { x with cmds := x.cmds.map (fun y => if names c y then f y else y) })

/-- The outcome of a command that an abort stops: the steps finished (02 R71). -/
def abortedDone (steps : Nat) (detail : Nat := 0) : Done :=
  { status := stAborted, r0 := BitVec.ofNat 64 steps, detail := BitVec.ofNat 32 detail }

/-- A command's last step ends with an outcome, unless a mode change or an abort has ended it; one that an abort has marked stops at
this boundary as at any other (02 R71). -/
def Dev.finish (d : Dev) (c : CmdRef) (o : Done) : Dev :=
  d.modCmd c (fun x =>
    if x.outcome.isSome then x
    else { x with executing := false, steps := x.steps + 1, outcome := some (if x.marked then abortedDone (x.steps + 1) else o) })

/-- A command leaves its engine and waits for a happening outside the command engines; no step of it is dispatched until then (02
R57). -/
def Dev.park (d : Dev) (c : CmdRef) : Dev :=
  d.modCmd c (fun x => if x.outcome.isSome then x else { x with executing := false, steps := x.steps + 1 })

/-- The authority of an endpoint: a bit for each polder that it owns, and bit 8 for the objects of no polder (03 R584). -/
def Dev.authority (d : Dev) (e : Nat) : Nat := d.owned e + (if d.isWarden e then 256 else 0)

/-- The command `c` may act on the objects of polder `p`, or of no polder: as its check found it, whatever has changed since
(03 R90, R111). -/
def Dev.mayAs (d : Dev) (c : CmdRef) (p : Option Nat) : Bool :=
  (match d.cmd? c with
  | some x => x.auth
  | none => 0).testBit (p.getD 8)

/-- The lowest of some numbers. -/
def least : List Nat → Option Nat
  | [] => none
  | a :: t => match least t with
    | some b => some (min a b)
    | none => some a

/-- The command completes with ST_OK. -/
def Dev.ok (d : Dev) (c : CmdRef) (r0 : Nat := 0) (r1 : Nat := 0) (detail : Nat := 0) : Dev :=
  d.finish c { status := stOk, r0 := BitVec.ofNat 64 r0, r1 := BitVec.ofNat 64 r1, detail := BitVec.ofNat 32 detail }

/-- The command completes with another status. -/
def Dev.fail (d : Dev) (c : CmdRef) (st : Nat) (detail : Nat := 0) (r0 : Nat := 0) (r1 : Nat := 0) : Dev :=
  d.finish c { status := st, r0 := BitVec.ofNat 64 r0, r1 := BitVec.ofNat 64 r1, detail := BitVec.ofNat 32 detail }

/-- ST_BAD_OPERAND with the byte offset of the offending field (02 R51). -/
def Dev.badOp (d : Dev) (c : CmdRef) (off : Nat) : Dev := d.fail c stBadOperand off

/-- A step ends and the command is not finished: it competes for an engine again, or, marked for abort,
stops at this boundary (02 R57, R71). -/
def Dev.again (d : Dev) (c : CmdRef) (scratch : List Nat) : Dev :=
  d.modCmd c (fun x =>
    if x.marked then { x with executing := false, steps := x.steps + 1, outcome := some (abortedDone (x.steps + 1)) }
    else { x with executing := false, steps := x.steps + 1, scratch := scratch })

/-- The command ends after a DMA write to its buffer: ST_OK, or, where the write met an error, ST_TIMEOUT
with the results of success and the operand offset of the buffer address (02 R583). -/
def Dev.okBuf (d : Dev) (c : CmdRef) (err : Bool) (off : Nat) (r0 : Nat := 0) (r1 : Nat := 0) (detail : Nat := 0) : Dev :=
  if err then d.fail c stTimeout off r0 r1 else d.ok c r0 r1 detail

/-- One step of the command that a reference names, if it is on an engine and the row is the row of its
opcode and action; otherwise nothing happens. -/
def Dev.step1 (d : Dev) (c : CmdRef) (is : Cmd → Bool) (f : Dev → Cmd → Dev) : Dev :=
  match d.cmd? c with
  | some x => if x.executing && x.outcome.isNone && is x then f d x else d
  | none => d

/-- The command is of this opcode. -/
def isOp (op : Nat) (x : Cmd) : Bool := decide (x.opcode = op)

/-- The command is of this opcode and its action field holds this value. -/
def isOpAct (op : Nat) (f : Field) (v : Nat) (x : Cmd) : Bool :=
  decide (x.opcode = op ∧ x.fld f.1 f.2.1 f.2.2 = v)

/-- A write to a global register through the window of endpoint `e`: the warden's alone, and ignored while the core
domain that holds the register is gated (20 R572, R574). -/
def Dev.glWrite (d : Dev) (e : Nat) (core : Bool) (f : Dev → Dev) : Dev :=
  if !(d.ep e).answers then d
  else if !d.isWarden e then d.modEp e (fun x => { x with denied := true })
  else if core && !d.corePowered then d.modEp e (fun x => { x with gated := true })
  else f d

/-- The bytes that a command's DMA read returned, cut or zero-filled to `n` bytes; none: a read error. -/
def ioBytes (io : Io) (n : Nat) : Option (List Byte) :=
  io.rd.map (fun bs => bs.take n ++ List.replicate (n - bs.length) 0)

/-- The record that a command's DMA read returned, as a number. -/
def ioRecord (io : Io) (n : Nat) : Option Nat := (ioBytes io n).map leNat

/-- What the spec leaves to the device in a step: the k-th choice, 0 where none is given. -/
def ioChoice (io : Io) (k : Nat) : Nat := io.pick.getD k 0

end Sys2Proof.Machine
end

