-- ==== Sys2Proof/Machine/Buffer.lean ====
section
/-! DEFINITION. The Buffer Pool Manager (chapter 10): cells, free lists, owner accounts, the admission
ladder, releases and reclaims, and the state of the pause classes. -/
namespace Sys2Proof.Machine

/-! ### Cells and free lists (10 R285, R286) -/

def Dev.cell (d : Dev) (c : Nat) : Cell := tget d.bpm.cells {} c
def Dev.modCell (d : Dev) (c : Nat) (f : Cell → Cell) : Dev :=
  { d with bpm := { d.bpm with cells := tmod d.bpm.cells {} c f } }

/-- The free list that holds a cell when it is free (01 R26). -/
def listOf (c : Nat) : Nat := (c % 64) / 4
/-- The next cell of a list in ascending order: the chain as reset leaves it. -/
def nextOf (c : Nat) : Nat := if c % 4 = 3 then c + 61 else c + 1
/-- The last cell of a list in ascending order. -/
def lastOf (f : Nat) : Nat := 1048512 + 4 * f + 3

/-- A free list; at reset the chain holds all 65,536 cells of the list in ascending order. -/
def Dev.flist (d : Dev) (f : Nat) : FreeList := tget d.bpm.lists { head := 4 * f } f
def Dev.modList (d : Dev) (f : Nat) (g : FreeList → FreeList) : Dev :=
  { d with bpm := { d.bpm with lists := tset d.bpm.lists { head := 4 * f } f (g (d.flist f)) } }

/-- The chain link of a free cell: NEXT_FREE and END. -/
def Dev.link (d : Dev) (c : Nat) : Nat × Bool :=
  (tget d.bpm.links none c).getD (if d.bpm.zeroed then (0, false) else (nextOf c, decide (c = lastOf (listOf c))))

/-- Free cells of a list. -/
def FreeList.count (l : FreeList) : Nat := l.chain + l.headCache.length + l.retCache.length

/-- The link of the chain head is read into the head cache (10 R286), unless the cell has been retired (10 R306). -/
def Dev.pullHead (d : Dev) (f : Nat) : Dev :=
  let l := d.flist f
  if l.chain = 0 then d
  else
    let d := d.modList f (fun x =>
      { x with
        head := (d.link l.head).1, chain := x.chain - 1
        headCache := if d.bpm.retired.contains l.head then x.headCache else x.headCache ++ [l.head] })
    { d with bpm := { d.bpm with links := tset d.bpm.links none l.head none } }

/-- The oldest returned cell is linked at the head of the chain (10 R286). -/
def Dev.pushChain (d : Dev) (f : Nat) : Dev :=
  let l := d.flist f
  match l.retCache.reverse with
  | [] => d
  | c :: rest =>
    let d := { d with bpm := { d.bpm with links := tset d.bpm.links none c (some (l.head, decide (l.chain = 0))) } }
    d.modList f (fun x => { x with head := c, chain := x.chain + 1, retCache := rest.reverse })

/-- Links are read until the head cache holds a cell: at most `n` heads of the chain, retired ones passed over. -/
def Dev.fillHead : Nat → Nat → Dev → Dev
  | 0, _, d => d
  | n + 1, f, d => if (d.flist f).headCache.isEmpty then Dev.fillHead n f (d.pullHead f) else d

/-- Takes a cell of list `f`: the most recently returned one, else the oldest of the head cache. -/
def Dev.takeCell (d : Dev) (f : Nat) : Option (Nat × Dev) :=
  let l := d.flist f
  if l.rebuilding then none
  else match l.retCache with
    | c :: r => some (c, d.modList f (fun x => { x with retCache := r }))
    | [] =>
      let d := Dev.fillHead (d.bpm.retired.length + 1) f d
      match (d.flist f).headCache with
      | c :: r => some (c, d.modList f (fun x => { x with headCache := r }))
      | [] => none

/-- The lists whose bank pairs are read in this core cycle: those of the cells that the read engines have next, at most one
for each plane and pipeline (01 R26, R27). -/
def Dev.busyLists (d : Dev) : List Nat :=
  (List.range 16).flatMap (fun q => ((d.swc.reads.filter (fun x => decide (x.dst = q))).take 4).map (fun x => listOf x.cell))

/-- The list that serves the next write crossing: round robin over the lists that hold a free cell and none of whose bank
pairs is being read; none: the write waits a core cycle (10 R287). -/
def Dev.pickList (d : Dev) : Option Nat :=
  let busy := d.busyLists
  ((List.range 16).map (fun i => (d.bpm.rrList + i) % 16)).find?
    (fun f => !(d.flist f).rebuilding && decide (0 < (d.flist f).count) && !busy.contains f)

/-! ### Owner accounts (10 R290-R294) -/

/-- An account as reset leaves it (10 R325). -/
def acctReset (a : Nat) : Account :=
  if a < 512 then {} else { min := if a < 528 then 2048 else if a < 532 then 4096 else 8192 }
def Dev.acct (d : Dev) (a : Nat) : Account := tget d.bpm.accts (acctReset a) a
def Dev.modAcct (d : Dev) (a : Nat) (f : Account → Account) : Dev :=
  { d with bpm := { d.bpm with accts := tset d.bpm.accts (acctReset a) a (f (d.acct a)) } }

/-- The sum of a list of counts. -/
def sumN (l : List Nat) : Nat := l.foldl (· + ·) 0
/-- DRAWN of an account: headroom is not part of it (10 R292). -/
def Account.drawn (x : Account) : Nat := sumN x.m + sumN x.sh + sumN x.ov
/-- Every cell charged to an account. -/
def Account.held (x : Account) : Nat := x.drawn + sumN x.hu

/-- Σ MIN over all accounts plus Σ HR (10 R294). -/
def Dev.reserved (d : Dev) : Nat :=
  d.bpm.accts.foldl (fun n x => n + x.2.min + sumN x.2.hr - (acctReset x.1).min) 65536
def Dev.sharedSize (d : Dev) : Nat := 1048576 - d.reserved - d.bpm.retired.length
def Dev.freeShared (d : Dev) : Nat :=
  d.sharedSize - d.bpm.accts.foldl (fun n x => n + sumN x.2.sh + sumN x.2.ov) 0

/-- The polder's drawn total over its port accounts (10 R292). -/
def Dev.polderDrawn (d : Dev) (p : Nat) : Nat :=
  d.bpm.accts.foldl (fun n x => if x.1 < 512 ∧ d.lanePolder x.1 = some p then n + x.2.drawn else n) 0
/-- Room under CELL_MAX of the polder of port account `a`, less `slack` cells (03 R92). -/
def Dev.underMax (d : Dev) (a slack : Nat) : Bool :=
  match d.lanePolder a with
  | some p => decide (d.polderDrawn p + slack < (d.polder p).cellMax)
  | none => true

/-- SH < ALPHA × FREE_SHARED, with ALPHA = 2^(code − 6) (10 R293). -/
def underAlpha (sh code fs : Nat) : Bool := decide (sh * 64 < 2 ^ code * fs)

/-- An LRQ key: port × 8 + class. -/
def Dev.lrq (d : Dev) (a c : Nat) : Lrq := tget d.spw.lrqs {} (8 * a + c)

/-- Some rule closes class (a, c) (10 R296, 11 R347). -/
def Dev.mustClose (d : Dev) (a c : Nat) : Bool :=
  let x := d.acct a
  let fs := d.freeShared
  (!underAlpha (x.sh.getD c 0) (x.alpha.getD c 6) fs && !(decide (fs = 0) && decide (sumN x.m < x.min))) ||
    decide (x.max ≤ x.drawn) || !d.underMax a 0 || !(d.lrq a c).frames.isEmpty || x.rebuilding

/-- Every rule that reopens class (a, c) holds (10 R296, 11 R347). -/
def Dev.mayOpen (d : Dev) (a c : Nat) : Bool :=
  let x := d.acct a
  !d.mustClose a c && decide (64 * (x.sh.getD c 0 + x.xonDelta) ≤ 2 ^ x.alpha.getD c 6 * d.freeShared) &&
    decide (x.drawn + x.xonDelta ≤ x.max) && d.underMax a (x.xonDelta - 1) &&
    decide (x.hu.getD c 0 = 0 ∧ x.ov.getD c 0 = 0)

/-- The class states of account `a` are judged again; each closure is counted (10 R296, R331). -/
def Dev.judge (d : Dev) (a : Nat) : Dev :=
  (List.range 8).foldl (fun d c =>
    if (d.acct a).closed.testBit c then
      if d.mayOpen a c then d.modAcct a (fun x => { x with closed := x.closed - 2 ^ c }) else d
    else if d.mustClose a c then
      (d.modAcct a (fun x => { x with closed := x.closed + 2 ^ c })).bump .xoff (8 * a + c)
    else d) d

/-- The polders whose drawn total has reached their CELL_MAX (10 R296). -/
def Dev.fullPolders (d : Dev) : List Nat :=
  (List.range 8).filter (fun p => decide ((d.polder p).st ≠ .undefined ∧ (d.polder p).cellMax ≤ d.polderDrawn p))

/-- Every class whose state may have changed is judged: the accounts that differ from reset, and, with no shared cell left or a
polder at its CELL_MAX, the others that this closes. -/
def Dev.judgeAll (d : Dev) : Dev :=
  let listed := (d.bpm.accts.map (fun x => x.1)).filter (fun a => decide (a < 512))
  let full := d.fullPolders
  let none_ := decide (d.freeShared = 0)
  let more := if none_ || !full.isEmpty then
      (List.range 512).filter (fun a => !listed.contains a && (none_ || (d.lanePolder a).any full.contains)) else []
  let d := (listed ++ more).foldl (fun d a => d.judge a) d
  let d := d.live 0xB07 (decide (d.freeShared = 0))
  (List.range 8).foldl (fun d p =>
    if (d.polder p).st = .undefined then d
    else d.live (0x81 + 8 * p) (decide ((d.polder p).cellMax ≤ d.polderDrawn p ∧ 0 < (d.polder p).cellMax))) d

/-- The pools of a front-panel account. -/
inductive Pool where
  | minimum | shared | headroom | overflow
  deriving DecidableEq, Repr

/-- Adds to element `i` of a list. -/
def addAt (l : List Nat) (i n : Nat) : List Nat := l.set i (l.getD i 0 + n)
/-- Takes from element `i` of a list. -/
def subAt (l : List Nat) (i n : Nat) : List Nat := l.set i (l.getD i 0 - n)

/-- The admission ladder (10 R295; internal accounts R297); `first` is the first cell of a packet. Of a long-reach class the top
1,024 cells of headroom are left to staged frames (11 R347). None: refused or overrun. -/
def Dev.ladder (d : Dev) (a c : Nat) (first : Bool) : Option Pool :=
  let x := d.acct a
  let fs := d.freeShared
  if sumN x.m < x.min then some .minimum
  else if 512 ≤ a then
    if underAlpha (sumN x.sh) (x.alpha.getD 0 6) fs && decide (sumN x.m + sumN x.sh < x.max) then some .shared else none
  else if (if first then !x.closed.testBit c else decide (x.drawn < x.max) && d.underMax a 0) && decide (0 < fs) then
    some .shared
  else if x.hu.getD c 0 + (if (d.lrq a c).mib = 0 then 0 else 1024) < x.hr.getD c 0 then some .headroom
  else if decide (0 < fs) && decide (x.drawn < x.max) && d.underMax a 0 then some .overflow
  else none

/-- Charges one cell of class `c` to account `a` (10 R295). -/
def Dev.charge (d : Dev) (a c : Nat) (p : Pool) : Dev :=
  let d := d.modAcct a (fun x =>
    match p with
    | .minimum => { x with m := addAt x.m c 1 }
    | .shared => { x with sh := addAt x.sh c 1 }
    | .headroom => { x with hu := addAt x.hu c 1 }
    | .overflow => { x with ov := addAt x.ov c 1 })
  (d.peak .hrPeak (8 * a + c) ((d.acct a).hu.getD c 0))

/-- Credits one cell of class `c` to account `a`: overflow, headroom, shared, minimum (10 R298); a headroom
reservation still falling toward its goal falls with it (10 R327). -/
def Dev.credit (d : Dev) (a c : Nat) : Dev :=
  d.modAcct a (fun x =>
    let x :=
      if 0 < x.ov.getD c 0 then { x with ov := subAt x.ov c 1 }
      else if 0 < x.hu.getD c 0 then { x with hu := subAt x.hu c 1 }
      else if 0 < x.sh.getD c 0 then { x with sh := subAt x.sh c 1 }
      else { x with m := subAt x.m c 1 }
    if x.hrGoal.getD c 0 < x.hr.getD c 0 then
      { x with hr := x.hr.set c (max (x.hrGoal.getD c 0) (x.hu.getD c 0)) }
    else x)

/-- A cell is taken for a packet: it becomes HELD, and the packet's previous cell names it (10 R288). -/
def Dev.holdCell (d : Dev) (c a cls refs : Nat) (prev : Option Nat) (eop : Bool) : Dev :=
  let d := d.modCell c (fun _ =>
    { held := true, ref := refs, owner := a, next := 0, eop := eop, cls := cls, confirmed := false, mark := false })
  match prev with
  | some q => d.modCell q (fun x => { x with next := c })
  | none => d

/-- One cell for a packet: from the ladder's pool, and from the list of the round robin. -/
def Dev.grantCell (d : Dev) (a cls refs : Nat) (first eop : Bool) (prev : Option Nat) : Option (Nat × Dev) :=
  match d.ladder a cls first, d.pickList with
  | some p, some f =>
    match d.takeCell f with
    | some (c, d) =>
      let d := { d with bpm := { d.bpm with rrList := (f + 1) % 16 } }
      some (c, ((d.charge a cls p).holdCell c a cls refs prev eop).judgeAll)
    | none => none
  | _, _ => none

/-! ### Releases (10 R300-R303) -/

/-- The parties of a release, in the coding of EV_DOUBLE_FREE (16 Table 16-7). -/
abbrev partyEgress (p : Nat) : Nat := p
abbrev partyReseq (p : Nat) : Nat := 16 + p
abbrev partyRepl : Nat := 32
abbrev partySpill : Nat := 33
abbrev partyHost (e : Nat) : Nat := 34 + e
abbrev partyFlush : Nat := 38
abbrev partySweep : Nat := 39

/-- A cell leaves circulation until the next POR_N (10 R306). -/
def Dev.retireCell (d : Dev) (c cause : Nat) : Dev :=
  let d := { d with bpm := { d.bpm with retired := if d.bpm.retired.contains c then d.bpm.retired else c :: d.bpm.retired } }
  let d := d.setCtr .cellsRetired 0 d.bpm.retired.length
  ((d.setLive 0xB05).record Ev.cellRetired .shared (some 0xB05) (dat [(0, 3, c), (3, 1, cause)])).judgeAll

/-- A cell joins the return cache of its list, which holds at most 256: where it is full, the oldest returned cell is linked
first (10 R286). -/
def Dev.returnCell (d : Dev) (c : Nat) : Dev :=
  let d := if 256 ≤ (d.flist (listOf c)).retCache.length then d.pushChain (listOf c) else d
  d.modList (listOf c) (fun l => { l with retCache := c :: l.retCache })

/-- A held cell becomes FREE: its account is credited and it enters its list's return cache, unless it is
condemned to retirement (10 R298, R300, R306). -/
def Dev.freeCell (d : Dev) (c : Nat) : Dev :=
  let x := d.cell c
  let d := (d.credit x.owner x.cls).modCell c (fun _ => {})
  if d.bpm.condemned.contains c then
    ({ d with bpm := { d.bpm with condemned := d.bpm.condemned.erase c } }).retireCell c 1
  else (d.returnCell c).judgeAll

/-- The outcome of a release. -/
inductive FreeRes where
  | done (left : Nat) | double | foreign
  deriving DecidableEq, Repr

/-- One release of a cell by a party that cites an account (10 R300-R303); a software release raises no fault. -/
def Dev.releaseAs (d : Dev) (soft : Bool) (party c a : Nat) : FreeRes × Dev :=
  let x := d.cell c
  if !x.held then
    let d := d.record Ev.doubleFree .shared (if soft then none else some 0xB00) (dat [(0, 1, party), (1, 3, c), (4, 2, a)])
    (.double, if soft then d else d.liveMs 0xB00)
  else if x.owner ≠ a then
    let d := d.record Ev.foreignFree .shared (if soft then none else some 0xB01)
      (dat [(0, 1, party), (1, 3, c), (4, 2, x.owner), (6, 2, a)])
    (.foreign, if soft then d else d.liveMs 0xB01)
  else if x.ref ≤ 1 then (.done 0, d.freeCell c)
  else (.done (x.ref - 1), d.modCell c (fun y => { y with ref := y.ref - 1 }))

/-- A release by an internal party. -/
def Dev.release (d : Dev) (party c a : Nat) : FreeRes × Dev := d.releaseAs false party c a

/-- Releases one reference of each cell of a list. -/
def Dev.releaseAll (d : Dev) (party a : Nat) (cs : List Nat) : Dev :=
  cs.foldl (fun d c => (d.release party c a).2) d

/-- The orphan sweep reclaims a cell whatever its REF (10 R305). -/
def Dev.reclaim (d : Dev) (c : Nat) : Dev :=
  let x := d.cell c
  (((d.freeCell c).bump .orphanFreed 0).liveMs 0xB06).record Ev.orphan .shared (some 0xB06)
    (dat [(0, 3, c), (3, 2, x.owner), (5, 1, x.cls)])

/-! ### Rows of the free lists and the sweep -/

/-- The parity of an account's counters fails: its classes are closed while they are rebuilt (10 R306). -/
def Dev.counterError (d : Dev) (a : Nat) : Dev :=
  ((d.modAcct a (fun x => { x with rebuilding := true })).setLive 0xB08).judge a

/-- CELL_RELEASE: a party releases a reference on a cell; `parity` tells that the counters of the cell's account fail their
parity as they are read for the credit (10 R300, R306). -/
def doCellRelease (party cell acct : Nat) (parity : Bool) (d : Dev) : Dev :=
  let a := (d.cell cell).owner
  let e := (d.release party cell acct).2
  if parity && (d.cell cell).held then e.counterError a else e

/-- A chain link that fails: the list grants nothing until it has been rebuilt (10 R306). -/
def Dev.linkError (d : Dev) (list : Nat) (lasting : Bool) : Dev :=
  ((d.modList list (fun l => { l with rebuilding := true })).setLive 0xB03).modSrc 0xB03 (fun x => { x with lasting := lasting })

/-- FREE_LIST_REFILL: the next chain link is read while the head cache holds fewer than 32, and a returned
cell is linked while the return cache holds more than 192 (10 R286). -/
def doFreeListRefill (list : Nat) (check : Ecc) (d : Dev) : Dev :=
  if 16 ≤ list ∨ (d.flist list).rebuilding then d
  else match check with
    | .once => d.linkError list false
    | .lasting => d.linkError list true
    | _ =>
      let d := if (d.flist list).headCache.length < 32 then d.pullHead list else d
      if 192 < (d.flist list).retCache.length then d.pushChain list else d

/-- The cells of list `f` that are FREE and not retired, ascending. -/
def Dev.freeOf (d : Dev) (f : Nat) : List Nat :=
  let held := d.bpm.cells.filterMap (fun x => if x.2.held && decide (listOf x.1 = f) then some x.1 else none)
  let out := held ++ d.bpm.retired
  (List.range 65536).filterMap (fun i =>
    let c := 64 * (i / 4) + 4 * f + i % 4
    if out.contains c then none else some c)

/-- The links of a chain through the given cells. -/
def chainLinks : List Nat → List (Nat × (Nat × Bool))
  | [] => []
  | [c] => [(c, (c, true))]
  | c :: e :: t => (c, (e, false)) :: chainLinks (e :: t)

/-- FREELIST_REBUILD_DONE: every FREE cell of the list is linked again, in ascending order (10 R306). -/
def doFreelistRebuildDone (list : Nat) (d : Dev) : Dev :=
  if !(d.flist list).rebuilding then d
  else
    let cs := d.freeOf list
    let links := (chainLinks cs).foldl (fun t x =>
      tset t none x.1 (if x.2 = (nextOf x.1, decide (x.1 = lastOf list)) then none else some x.2))
      (d.bpm.links.filter (fun x => decide (listOf x.1 ≠ list)))
    let d := { d with bpm := { d.bpm with links := links } }
    let d := d.modList list (fun _ =>
      { head := cs.headD 0, chain := cs.length, headCache := [], retCache := [], rebuilding := false })
    let any := (List.range 16).any (fun f => (d.flist f).rebuilding)
    (d.live 0xB03 any).record Ev.freelistRebuilt .shared (some 0xB03) (dat [(0, 1, list), (1, 3, cs.length), (4, 4, 41)])

/-- Counts as the descriptors give them: every held cell of an account, per class. -/
def Dev.heldBy (d : Dev) (a c : Nat) : Nat :=
  (d.bpm.cells.filter (fun x => x.2.held && decide (x.2.owner = a ∧ x.2.cls = c))).length

/-- ACCOUNT_REBUILD_DONE: the counters of an account are rebuilt from the descriptors, which give the cells of each class but
not the pools they were drawn from: a free value splits them, within MIN and HR (10 R306). -/
def doAccountRebuildDone (acct : Nat) (d : Dev) : Dev :=
  if !(d.acct acct).rebuilding then d
  else
    let d := (List.range 8).foldl (fun (d : Dev) c =>
      let n := d.heldBy acct c
      let r := d.free 63
      r.2.modAcct acct (fun x =>
        let m := r.1 % (min n (x.min - sumN x.m) + 1)
        let hu := r.1 / 2 ^ 21 % (min (n - m) (x.hr.getD c 0) + 1)
        let ov := if acct < 512 then r.1 / 2 ^ 42 % (n - m - hu + 1) else 0
        { x with m := x.m.set c m, hu := x.hu.set c hu, ov := x.ov.set c ov, sh := x.sh.set c (n - m - hu - ov) }))
      (d.modAcct acct (fun x =>
        { x with m := List.replicate 8 0, sh := List.replicate 8 0, hu := List.replicate 8 0, ov := List.replicate 8 0, rebuilding := false }))
    let any := d.bpm.accts.any (fun x => x.2.rebuilding)
    ((d.live 0xB08 any).record Ev.accountRebuilt .shared (some 0xB08) (dat [(0, 2, acct)])).judgeAll

/-! ### Meanings -/

/-- CELL_RELEASE (R300). -/
def execCellRelease (party : Nat) (cell : Nat) (acct : Nat) (parity : Bool) (s : State) : Host.Outcome State Fault Refusal :=
  .next { s with dev := doCellRelease party cell acct parity s.dev }

/-- FREE_LIST_REFILL (R286). -/
def execFreeListRefill (list : Nat) (check : Ecc) (s : State) : Host.Outcome State Fault Refusal :=
  .next { s with dev := doFreeListRefill list check s.dev }

/-- FREELIST_REBUILD_DONE (R306). -/
def execFreelistRebuildDone (list : Nat) (s : State) : Host.Outcome State Fault Refusal :=
  .next { s with dev := doFreelistRebuildDone list s.dev }

/-- ACCOUNT_REBUILD_DONE (R306). -/
def execAccountRebuildDone (acct : Nat) (s : State) : Host.Outcome State Fault Refusal :=
  .next { s with dev := doAccountRebuildDone acct s.dev }

end Sys2Proof.Machine
end

