-- ==== Sys2Proof/Machine/Rings.lean ====
section
/-! DEFINITION. Sluice rings (chapter 2): configuration, doorbells, descriptor fetch, dispatch, commit,
completions, moderation and messages. -/
namespace Sys2Proof.Machine

/-! ### Which polder holds a ring, queue or vector (03 R81, R84) -/

/-- The polder of endpoint `e` whose mask names bit `n`. -/
def Dev.maskPolder (d : Dev) (e n : Nat) (m : Polder → Nat) : Option Nat :=
  (List.range 8).find? (fun p =>
    (d.polder p).st ≠ .undefined && (d.polder p).owner = e && (m (d.polder p)).testBit n)
def Dev.crPolder (d : Dev) (e n : Nat) : Option Nat := d.maskPolder e n Polder.crMask
def Dev.cqPolder (d : Dev) (e n : Nat) : Option Nat := d.maskPolder e n Polder.cqMask
def Dev.rxqPolder (d : Dev) (e q : Nat) : Option Nat := d.maskPolder e q Polder.rxqMask
def Dev.txqPolder (d : Dev) (e q : Nat) : Option Nat := d.maskPolder e q Polder.txqMask

/-- An optional polder as a mask. -/
def optMask : Option Nat → Nat
  | some p => 2 ^ p
  | none => 0

/-- A vector lies in the block of a polder that endpoint `e` owns (02 R65). -/
def Dev.vecOwned (d : Dev) (e v : Nat) : Bool :=
  (List.range 8).any (fun p => d.owns e p && decide ((d.polder p).vecBase ≤ v ∧ v < (d.polder p).vecBase + (d.polder p).vecCount))

/-! ### MSI-X (02 R64-R66) -/

/-- EP_VEC_MAP[c]: only the alarm's entry resets with VALID 1 (20 R577). -/
def vecMapReset (c : Nat) : BitVec 16 := if c = 576 then 0x8000 else 0
def Dev.vecMap (d : Dev) (e c : Nat) : BitVec 16 := tget (d.ep e).vecMap (vecMapReset c) c
/-- The vector that a mapping names. -/
def mapVec (m : BitVec 16) : Nat := m.toNat % 512
/-- The mapping's VALID bit. -/
def mapValid (m : BitVec 16) : Bool := m.toNat.testBit 15
/-- EP_VEC_MOD[v]: COUNT 1 and DELAY 0 at reset. -/
def Dev.vecMod (d : Dev) (e v : Nat) : Nat × Nat := tget (d.ep e).vecMod (1, 0) v
/-- The alarm vector, which is never moderated (02 R65, R66). -/
def Dev.alarmVec (d : Dev) (e : Nat) : Nat := mapVec (d.vecMap e 576)
/-- The COUNT in force (20 Table 20-3). -/
def Dev.vecCount (d : Dev) (e v : Nat) : Nat := if v = d.alarmVec e then 1 else max 1 (min 1024 (d.vecMod e v).1)
/-- The DELAY in force, in microseconds. -/
def Dev.vecDelay (d : Dev) (e v : Nat) : Nat := if v = d.alarmVec e then 0 else (d.vecMod e v).2
def Dev.msixEntry (d : Dev) (e v : Nat) : MsixEntry := tget (d.ep e).msix {} v
def Dev.gather (d : Dev) (e v : Nat) : VecGather := tget (d.ep e).gather {} v
def Dev.modGather (d : Dev) (e v : Nat) (f : VecGather → VecGather) : Dev :=
  d.modEp e (fun x => { x with gather := tmod x.gather {} v f })

/-- Neither the function nor the vector keeps a message back (02 R65). -/
def Dev.msixOpen (d : Dev) (e v : Nat) : Bool :=
  (d.ep e).up && !(d.ep e).bmeClear && (d.ep e).msixEnable && !(d.ep e).funcMask && !(d.msixEntry e v).masked

/-- A message of a vector falls due: it is sent, or its pending bit is set (02 R65). -/
def Dev.msixDue (d : Dev) (e v : Nat) : Dev :=
  if !d.vecOwned e v then d.modGather e v (fun _ => {})
  else if d.msixOpen e v then
    (d.modGather e v (fun _ => {})).emit (.msix e v (d.msixEntry e v).addr.toNat (d.msixEntry e v).data.toNat)
  else d.modGather e v (fun _ => { n := 0, first := 0, pending := true })

/-- Vector `v` lies in the block of polder `p` (02 R65). -/
def Dev.inBlock (d : Dev) (p v : Nat) : Bool := decide ((d.polder p).vecBase ≤ v ∧ v < (d.polder p).vecBase + (d.polder p).vecCount)

/-- The vectors that a cause of endpoint `e` may use: those of the block of its object's polder, of any polder of the
endpoint for the causes of the endpoint as a whole, and none while its object is unassigned (20 R573). -/
def Dev.causeVec (d : Dev) (e c v : Nat) : Bool :=
  let within (p : Option Nat) : Bool := match p with
    | some p => d.owns e p && d.inBlock p v
    | none => false
  if c < 64 then within (d.cqPolder e c)
  else if c < 320 then within (d.rxqPolder e (c - 64))
  else if c < 576 then within (d.txqPolder e (c - 320))
  else if c < 580 then d.vecOwned e v
  else if c < 588 then within (some (c - 580))
  else false

/-- An event of an interrupt cause: it gathers on the vector to which EP_VEC_MAP assigns it (02 R64). -/
def Dev.signal (d : Dev) (e cause : Nat) : Dev :=
  let m := d.vecMap e cause
  if mapValid m && d.causeVec e cause (mapVec m) then
    d.modGather e (mapVec m) (fun g => { g with n := g.n + 1, first := if g.n = 0 then d.bal.tick else g.first })
  else d

/-- The owed alarm message is sent as soon as its mapping names a vector of the endpoint's blocks and
messages are allowed; otherwise it stays owed (02 R66). -/
def Dev.alarmTry (d : Dev) (e : Nat) : Dev :=
  let v := mapVec (d.vecMap e 576)
  if !(d.ep e).alarmOwed || !d.vecOwned e v then d
  else if d.msixOpen e v then
    ((d.modEp e (fun x => { x with alarmOwed := false })).modGather e v (fun g => { g with pending := false })).emit
      (.msix e v (d.msixEntry e v).addr.toNat (d.msixEntry e v).data.toNat)
  else d.modGather e v (fun g => { g with pending := true })

/-- An alarm for endpoint `e`: the bit of its severity and of each polder concerned, and one message (02 R66, 15 R448). -/
def Dev.alarm (d : Dev) (e sev pmask : Nat) : Dev :=
  (d.modEp e (fun x =>
    { x with
      alarmSummary := x.alarmSummary ||| BitVec.ofNat 32 (2 ^ sev + 256 * (pmask % 256))
      alarmOwed := true })).alarmTry e

/-- MSIX_MESSAGE: COUNT events have gathered, or DELAY is 0 and one has (02 R65). -/
def doMsixMessage (e v : Nat) (d : Dev) : Dev :=
  let g := d.gather e v
  if 0 < g.n ∧ (d.vecCount e v ≤ g.n ∨ d.vecDelay e v = 0) then d.msixDue e v else d

/-- MSIX_DELAY_EXPIRY: DELAY has passed since the first unsignalled event (02 R65). -/
def doMsixDelayExpiry (e v : Nat) (d : Dev) : Dev :=
  let g := d.gather e v
  if 0 < g.n then (d.reach (g.first + usTicks (d.vecDelay e v))).msixDue e v else d

/-- Messages held while messages were not allowed are sent, one per vector (02 R65, R66). -/
def Dev.msixFlush (d : Dev) (e : Nat) : Dev :=
  let av := mapVec (d.vecMap e 576)
  let d := d.alarmTry e
  d.each (d.ep e).gather (fun d g =>
    if g.2.pending && d.vecOwned e g.1 && d.msixOpen e g.1 && !(decide (g.1 = av) && (d.ep e).alarmOwed) then
      (d.modGather e g.1 (fun x => { x with pending := false })).emit
        (.msix e g.1 (d.msixEntry e g.1).addr.toNat (d.msixEntry e g.1).data.toNat)
    else d)

/-- MSIX_UNMASK: a vector or the function is unmasked, or MSI-X is enabled (02 R65). -/
def doMsixUnmask (e : Nat) (what : Unmask) (d : Dev) : Dev :=
  if !(d.ep e).answers then d
  else
    (match what with
    | .vector v => d.modEp e (fun x => { x with msix := tmod x.msix {} v (fun m => { m with masked := false }) })
    | .function => d.modEp e (fun x => { x with funcMask := false })
    | .enable => d.modEp e (fun x => { x with msixEnable := true })).msixFlush e

/-! ### Endpoint sources of rings and queues (02 R79, Table 2-22) -/

/-- Polders of the listed rings of endpoint `e` that satisfy a condition. -/
def ringMask {α : Type} (t : Tab α) (c : α → Bool) (pol : Nat → Option Nat) : Nat :=
  t.foldl (fun m r => if c r.2 then m ||| optMask (pol r.1) else m) 0

/-- Sources k = 2, 3, 4 and 7 follow the rings and queues of the endpoint (02 Table 2-22). -/
def Dev.epRefresh (d : Dev) (e : Nat) : Dev :=
  let x := d.ep e
  let crBy (k : StopCause) (r : CmdRing) : Bool := decide (r.st = .stopped ∧ r.stop = some k)
  let qBy (q : PktQueue) : Bool := decide (q.st = .stopped)
  let starved (q : PktQueue) : Bool := decide (q.st = .starved)
  let cqBy (q : CplRing) : Bool := decide (q.st = .stopped)
  let src := 0x40 + 16 * e
  let d := d.live (src + 2) (x.crs.any (fun r => crBy .fetch r.2)) (ringMask x.crs (crBy .fetch) (d.crPolder e))
  let d := d.live (src + 3)
    (x.crs.any (fun r => crBy .doorbell r.2) || x.rxqs.any (fun r => qBy r.2) || x.txqs.any (fun r => qBy r.2))
    (ringMask x.crs (crBy .doorbell) (d.crPolder e) ||| ringMask x.rxqs qBy (d.rxqPolder e) |||
      ringMask x.txqs qBy (d.txqPolder e))
  let d := d.live (src + 4) (x.cqs.any (fun r => cqBy r.2)) (ringMask x.cqs cqBy (d.cqPolder e))
  d.live (src + 7) (x.rxqs.any (fun r => starved r.2)) (ringMask x.rxqs starved (d.rxqPolder e))

/-- The polder of a ring or queue by its number among the state words. -/
def Dev.wordPolder (d : Dev) (e i : Nat) : Option Nat :=
  if i < 64 then d.crPolder e i else if i < 128 then d.cqPolder e (i - 64) else if i < 384 then d.rxqPolder e (i - 128)
  else d.txqPolder e (i - 384)

/-- FS_EP_STATE_PARITY follows the state words that have failed (02 Table 2-22). -/
def Dev.wordSource (d : Dev) (e : Nat) : Dev :=
  let ws := (d.ep e).badWords
  d.live (0x4A + 16 * e) (!ws.isEmpty) (ws.foldl (fun m i => m ||| optMask (d.wordPolder e i)) 0)

/-- The state word of a ring or queue fails its parity check as it is read. -/
def Dev.wordRead (d : Dev) (e i : Nat) (parity : Bool) : Dev :=
  if parity && (d.ep e).answers && !(d.ep e).badWords.contains i then
    (d.modEp e (fun x => { x with badWords := i :: x.badWords })).wordSource e
  else d

/-- A ring or queue is enabled: its state word is written anew, which ends a failure (DESIGN CHOICE, assumption 137). -/
def Dev.wordFresh (d : Dev) (e i : Nat) : Dev :=
  if (d.ep e).badWords.contains i then (d.modEp e (fun x => { x with badWords := x.badWords.erase i })).wordSource e else d

/-- EV_RING_STOPPED (16 R587). -/
def Dev.ringStopped (d : Dev) (e kind n cause a b : Nat) (pol : Option Nat) : Dev :=
  d.record Ev.ringStopped (whoOf (optMask pol)) (some (0x40 + 16 * e + (if cause = 0 then 3 else if cause = 1 then 2 else 4)))
    (dat [(0, 1, e), (1, 1, kind), (2, 2, n), (4, 1, cause), (5, 4, a), (9, 4, b)])

/-! ### Doorbells (02 R42-R44, 20 R580) -/

/-- A doorbell write that is ignored and counted (02 R42, R43). -/
def Dev.stray (d : Dev) (e : Nat) : Dev := d.bump .dbStray e

/-- A value lies behind the last accepted one (02 R42). -/
def behind (v last : Word) : Bool := decide (0x80000000 ≤ (v - last).toNat)

/-- COMMAND_RING_DOORBELL; `parity` tells that the ring's state word fails its parity check as it is read (02 R42, Table 2-22). -/
def doCommandRingDoorbell (e n : Nat) (v : Word) (parity : Bool) (d : Dev) : Dev :=
  let d := d.wordRead e n parity
  let r := d.cr e n
  if !(d.ep e).answers then d
  else if 64 ≤ n ∨ r.st ≠ .active then d.stray e
  else if behind v r.p then d.bump .dbStale (64 * e + n)
  else if 2 ^ r.sizeLog2 < (v - r.f).toNat then
    ((d.modCr e n (fun r => { r with st := .stopped, stop := some .doorbell })).ringStopped e 0 n 0
      r.p.toNat r.f.toNat (d.crPolder e n)).epRefresh e
  else d.modCr e n (fun r => { r with p := v })

/-- COMPLETION_RING_DOORBELL (02 R42). -/
def doCompletionRingDoorbell (e n : Nat) (v : Word) (parity : Bool) (d : Dev) : Dev :=
  let d := d.wordRead e (64 + n) parity
  let r := d.cq e n
  if !(d.ep e).answers then d
  else if 64 ≤ n ∨ r.st ≠ .active then d.stray e
  else if behind v r.consumed then d.stray e
  else if 2 ^ r.sizeLog2 < (r.w - v).toNat then
    ((d.modCq e n (fun r => { r with st := .stopped })).ringStopped e 1 n 2
      r.consumed.toNat r.w.toNat (d.cqPolder e n)).epRefresh e
  else d.modCq e n (fun r => { r with consumed := v })

/-- RECEIVE_QUEUE_DOORBELL: the command-ring rule on the queue's own counts; an accepted doorbell that
posts a buffer ends STARVED (02 R42, R61). -/
def doReceiveQueueDoorbell (e q : Nat) (v : Word) (parity : Bool) (d : Dev) : Dev :=
  let d := d.wordRead e (128 + q) parity
  let r := d.rxq e q
  if !(d.ep e).answers then d
  else if 256 ≤ q ∨ (r.st ≠ .active ∧ r.st ≠ .starved) then d.stray e
  else if behind v r.posted then d.stray e
  else if 2 ^ r.sizeLog2 < (v - r.used).toNat then
    ((d.modRxq e q (fun r => { r with st := .stopped })).ringStopped e 2 q 0
      r.posted.toNat r.used.toNat (d.rxqPolder e q)).epRefresh e
  else (d.modRxq e q (fun r =>
    if v = r.posted then r else { r with posted := v, st := .active, emptySince := none })).epRefresh e

/-- TRANSMIT_QUEUE_DOORBELL (02 R42). -/
def doTransmitQueueDoorbell (e q : Nat) (v : Word) (parity : Bool) (d : Dev) : Dev :=
  let d := d.wordRead e (384 + q) parity
  let r := d.txq e q
  if !(d.ep e).answers then d
  else if 256 ≤ q ∨ r.st ≠ .active then d.stray e
  else if behind v r.posted then d.stray e
  else if 2 ^ r.sizeLog2 < (v - r.used).toNat then
    ((d.modTxq e q (fun r => { r with st := .stopped })).ringStopped e 3 q 0
      r.posted.toNat r.used.toNat (d.txqPolder e q)).epRefresh e
  else d.modTxq e q (fun r => { r with posted := v })

/-- A write to BAR2 by its offset and width (02 Table 2-2). -/
def doBar2Write (e off width : Nat) (v : BitVec 64) (d : Dev) : Dev :=
  let w : Word := v.truncate 32
  if !(d.ep e).answers then d
  else if off % 64 ≠ 0 ∨ width ≠ 32 then d.stray e
  else if off < 0x1000 then doCommandRingDoorbell e (off / 64) w false d
  else if off < 0x2000 then doCompletionRingDoorbell e ((off - 0x1000) / 64) w false d
  else if off < 0x6000 then doReceiveQueueDoorbell e ((off - 0x2000) / 64) w false d
  else if off < 0xA000 then doTransmitQueueDoorbell e ((off - 0x6000) / 64) w false d
  else d.stray e

/-! ### Ring configuration (02 R41, R44; 20 Table 20-3) -/

/-- Size of a ring lies in 64 to 65,536 entries (02 R41). -/
def sizeOk (n : Nat) : Bool := decide (6 ≤ n ∧ n ≤ 16)

/-- Stores a dword of BASE: bits [11:0] are reserved. -/
def setBase (b : BitVec 64) (dword : Nat) (v : Word) : BitVec 64 :=
  if dword = 0 then BitVec.ofNat 64 (putBits b.toNat 0 32 (v.toNat / 4096 * 4096))
  else BitVec.ofNat 64 (putBits b.toNat 32 32 v.toNat)

/-- EP_CR_CFG_WRITE: one dword of a command ring's block (02 R41, Table 2-3). ENABLE set again while the ring still drains after it was
cleared does nothing, and the ring goes on to DISABLED (DESIGN CHOICE, assumption 138). -/
def doEpCrCfgWrite (e n dword : Nat) (v : Word) (d : Dev) : Dev :=
  let r := d.cr e n
  if !(d.ep e).answers ∨ 64 ≤ n then d
  else if dword < 2 then
    if r.st = .disabled then d.modCr e n (fun r => { r with base := setBase r.base dword v })
    else if setBase r.base dword v = r.base then d
    else d.modCr e n (fun r => { r with cfgErr := true })
  else if dword = 2 then
    let size := bits v.toNat 0 5
    let cq := bits v.toNat 8 6
    let en := v.toNat.testBit 16 && ((d.ep e).up || decide (r.st ≠ .disabled))
    if r.st = .disabled then
      let d := d.modCr e n (fun r => { r with sizeLog2 := size, boundCq := cq })
      if !en then d
      else if sizeOk size && (d.crPolder e n).isSome && decide ((d.cq e cq).st = .active) then
        ((d.modCr e n (fun r =>
          { r with enable := true, st := .active, p := 0, f := 0, c := 0, issued := 0, stop := none })).wordFresh e n).epRefresh e
      else d.modCr e n (fun r => { r with cfgErr := true })
    else
      let d := if size = r.sizeLog2 ∧ cq = r.boundCq then d else d.modCr e n (fun r => { r with cfgErr := true })
      if en then d else d.modCr e n (fun r => { r with enable := false })
  else if dword = 3 then d.modCr e n (fun r => { r with cfgErr := r.cfgErr && !v.toNat.testBit 2 })
  else d

/-- EP_CQ_CFG_WRITE: one dword of a completion ring's block; clearing ENABLE disables at once (02 Table 2-3). -/
def doEpCqCfgWrite (e n dword : Nat) (v : Word) (d : Dev) : Dev :=
  let r := d.cq e n
  if !(d.ep e).answers ∨ 64 ≤ n then d
  else if dword < 2 then
    if r.st = .disabled then d.modCq e n (fun r => { r with base := setBase r.base dword v })
    else if setBase r.base dword v = r.base then d
    else d.modCq e n (fun r => { r with cfgErr := true })
  else if dword = 2 then
    let size := bits v.toNat 0 5
    let en := v.toNat.testBit 16 && ((d.ep e).up || decide (r.st ≠ .disabled))
    if r.st = .disabled then
      let d := d.modCq e n (fun r => { r with sizeLog2 := size })
      if !en then d
      else if sizeOk size && (d.cqPolder e n).isSome then
        ((d.modCq e n (fun r => { r with enable := true, st := .active, w := 0, consumed := 0 })).wordFresh e (64 + n)).epRefresh e
      else d.modCq e n (fun r => { r with cfgErr := true })
    else
      let d := if size = r.sizeLog2 then d else d.modCq e n (fun r => { r with cfgErr := true })
      if en then d else (d.modCq e n (fun r => { r with enable := false, st := .disabled })).epRefresh e
  else if dword = 3 then d.modCq e n (fun r => { r with cfgErr := r.cfgErr && !v.toNat.testBit 2 })
  else d

/-- One dword of a packet queue's block: the shared rule of receive and transmit queues (02 R41). -/
def pktCfg (q : PktQueue) (assigned rx : Bool) (dword : Nat) (v : Word) : PktQueue :=
  if dword < 2 then
    if q.st = .disabled then { q with base := setBase q.base dword v }
    else if setBase q.base dword v = q.base then q else { q with cfgErr := true }
  else if dword = 2 then
    let size := bits v.toNat 0 5
    let en := v.toNat.testBit 16
    if q.st = .disabled then
      let q := { q with sizeLog2 := size }
      if !en then q
      else if sizeOk size && assigned then
        { q with enable := true, st := .active, posted := 0, used := 0, emptySince := none }
      else { q with cfgErr := true }
    else
      let q := if size = q.sizeLog2 then q else { q with cfgErr := true }
      if en then q else { q with enable := false, st := .disabled }
  else if dword = 3 then
    let s := bits v.toNat 0 7
    let q := { q with cfgErr := q.cfgErr && !v.toNat.testBit 10 }
    if !rx then q
    else if q.st = .disabled then { q with starve := s }
    else if s = q.starve then q else { q with cfgErr := true }
  else q

/-- A dword's RING_DISABLE: a command ring whose ENABLE was cleared becomes DISABLED once every fetched
command has committed (02 Table 2-3). -/
def doRingDisableDone (e n : Nat) (d : Dev) : Dev :=
  let r := d.cr e n
  if !r.enable && decide (r.st ≠ .disabled) && decide (r.issued = r.f) && !(d.ep e).cmds.any (fun x => decide (x.ring = n)) then
    (d.modCr e n (fun r => { r with st := .disabled, stop := none })).epRefresh e
  else d

/-! ### Descriptor fetch (02 R45) -/

/-- Fetches of endpoint `e` that have not returned. -/
def Dev.inFlight (d : Dev) (e : Nat) : Nat :=
  (d.ep e).crs.foldl (fun n r => n + (r.2.issued - r.2.f).toNat) 0

/-- A ring has a position to fetch. -/
def CmdRing.fetchable (r : CmdRing) : Bool := r.enable && decide (r.st = .active ∧ r.issued ≠ r.p)

/-- The first of `k` numbers after `last`, round the circle, that satisfies a condition. -/
def nextRound (k last : Nat) (c : Nat → Bool) : Option Nat :=
  ((List.range k).map (fun i => (last + 1 + i) % k)).find? c

/-- DESCRIPTOR_FETCH: one of the endpoint's 16 places is free and a ring, served round robin, has a
position to fetch: its 64 bytes are read (02 R45). -/
def doDescriptorFetch (e : Nat) (d : Dev) : Dev :=
  if !(d.ep e).up ∨ 16 ≤ (d.ep e).cmds.length + d.inFlight e then d
  else match nextRound 64 (d.ep e).rrFetch (fun n => (d.cr e n).fetchable) with
    | none => d
    | some n =>
      let r := d.cr e n
      let addr := r.base.toNat + 64 * (r.issued.toNat % 2 ^ r.sizeLog2)
      ((d.modCr e n (fun r => { r with issued := r.issued + 1 })).modEp e (fun x => { x with rrFetch := n })).emit
        (.hostRead e addr 64)

/-! ### Dispatch (02 R53, R54, R57, R58; 01 R29) -/

/-- A completion ring is full (02 R53). -/
def CplRing.full (q : CplRing) : Bool := decide (2 ^ q.sizeLog2 ≤ (q.w - q.consumed).toNat)

/-- Commands of endpoint `e` on an engine. -/
def Dev.executing (d : Dev) (e : Nat) : Nat := ((d.ep e).cmds.filter (fun x => x.executing)).length

/-- Ordering within a ring: a command waits for every earlier command of its ring, a PARALLEL one only for
the earlier ones that are not PARALLEL (02 R54). `before` are the earlier fetches of the endpoint. -/
def mayRun (x : Cmd) (before : List Cmd) : Bool :=
  before.all (fun y => decide (y.ring ≠ x.ring) || (!x.ordered && !y.ordered))

/-- The commands of a list that satisfy a condition on themselves and the commands before them. -/
def pickCmds (c : Cmd → List Cmd → Bool) : List Cmd → List Cmd → List Cmd
  | _, [] => []
  | before, x :: t => if c x before then x :: pickCmds c (before ++ [x]) t else pickCmds c (before ++ [x]) t

/-- Entries of the internal completion queue in use or reserved (02 R53). -/
def Dev.icqHeld (d : Dev) (e : Nat) : Nat := (d.ep e).icq.length + ((d.ep e).cmds.filter Cmd.reserved).length

/-- A command waits for a 1PPS_IN edge, or for LOADING to end (13 R401, 18 R526). -/
def Dev.parked (d : Dev) (e : Nat) (x : Cmd) : Bool :=
  d.tmu.atPps.any (fun a => decide (a.ep = e ∧ a.ring = x.ring ∧ a.pos = x.pos)) || decide (d.boot.waiter = some (e, x.ring, x.pos.toNat))

/-- The commands of endpoint `e` that could be dispatched now, oldest fetch first: an entry of the internal completion queue is
reserved for each, or can be (02 R53, R54). -/
def Dev.dispatchable (d : Dev) (e : Nat) : List Cmd :=
  if !(d.ep e).up then []
  else pickCmds (fun x before =>
      let q := d.cq e (d.cr e x.ring).boundCq
      !x.executing && x.outcome.isNone && !d.parked e x && (x.reserved || decide (d.icqHeld e < 1024)) && mayRun x before &&
        decide (q.st = .active) && !q.full) [] (d.ep e).cmds

/-- GL_CMD_ARB.WEIGHT[e] in force: 0 acts as 1 (20 Table 20-5). -/
def Dev.weight (d : Dev) (e : Nat) : Nat := max 1 (tget d.hif.weight 1 e)
/-- GL_CMD_ARB.MIN[e] as stored; at reset 32 / (endpoints present) (02 R58). -/
def Dev.minShare (d : Dev) (e : Nat) : Nat :=
  match tget d.hif.minDisp none e with
  | some m => m
  | none => if d.present e then 32 / d.epCount else 0
/-- MIN in force: larger values act as 64. -/
def Dev.minEff (d : Dev) (e : Nat) : Nat := min 64 (d.minShare e)
/-- The minima sum to more than 64 (02 R58). -/
def Dev.overcommit (d : Dev) : Bool := decide (64 < d.minEff 0 + d.minEff 1 + d.minEff 2 + d.minEff 3)

/-- The endpoint that the next dispatch serves, and whether the pointer moves with it (01 R29, 02 R58). -/
def Dev.arbitrate (d : Dev) : Option (Nat × Bool) :=
  let elig (e : Nat) : Bool := !(d.dispatchable e).isEmpty
  let below (e : Nat) : Bool := elig e && !d.overcommit && decide (tget d.hif.winEp 0 e < d.minEff e)
  let es := List.range 4
  if es.any below && es.any (fun e => elig e && !below e) then
    (if below d.hif.rrEp then some d.hif.rrEp else nextRound 4 d.hif.rrEp below).map (fun e => (e, false))
  else if elig d.hif.rrEp && decide (d.hif.rrRun < d.weight d.hif.rrEp) then some (d.hif.rrEp, true)
  else (nextRound 4 d.hif.rrEp elig).map (fun e => (e, true))

/-- COMMAND_DISPATCH: the dispatcher starts the next step of a command on a free engine; the dispatch
counts in its endpoint's window of 64 (02 R57, R58). -/
def doCommandDispatch (d : Dev) : Dev :=
  if 8 ≤ d.executing 0 + d.executing 1 + d.executing 2 + d.executing 3 then d
  else match d.arbitrate with
    | none => d
    | some (e, moves) =>
      let cs := d.dispatchable e
      match nextRound 64 (d.ep e).rrDispatch (fun n => cs.any (fun x => decide (x.ring = n))) with
      | none => d
      | some n =>
        match cs.find? (fun x => decide (x.ring = n)) with
        | none => d
        | some x =>
          let c : CmdRef := { ep := e, ring := n, pos := x.pos }
          let h := d.hif
          let h := { h with
            winCount := (h.winCount + 1) % 64
            winEp := if h.winCount + 1 = 64 then [] else tmod h.winEp 0 e (· + 1) }
          let h := if moves then
              { h with rrEp := e, rrRun := if e = h.rrEp ∧ h.rrRun < d.weight e then h.rrRun + 1 else 1 } else h
          let h := { h with dispSeq := h.dispSeq + 1 }
          ({ d with hif := h }.modEp e (fun y => { y with rrDispatch := n })).modCmd c (fun x =>
            { x with
              executing := true, reserved := true, disp := if x.disp = 0 then h.dispSeq else x.disp
              dispMode := if x.steps = 0 then d.bal.mode.code + 16 * (d.polder (x.fld 17 0 3)).st.code else x.dispMode })

/-! ### Commit and completion (02 R51-R55) -/

/-- The completion of a command with PHASE 0 (02 Table 2-6). -/
def completionImage (x : Cmd) (o : Done) : BitVec 256 :=
  BitVec.ofNat 256 (pack [(0, 8, x.opcode), (8, 8, o.status), (16, 16, if x.tagValid then x.fld 2 0 16 else 0),
    (32, 20, x.pos.toNat), (52, 6, x.ring), (63, 1, b2n x.tagValid), (64, 64, o.r0.toNat), (128, 64, o.r1.toNat),
    (192, 32, o.detail.toNat)])

/-- The results that are taken at the commit itself: the AON tick (02 R69), device time (13 R402). -/
def Dev.fillDone (d : Dev) (o : Done) : Done :=
  match o.fill with
  | .none => o
  | .aonTick => { o with r0 := BitVec.ofNat 64 d.aon }
  | .deviceTime =>
    { o with
      r0 := BitVec.ofNat 64 (timeSec d.tmu.time + timeFrac d.tmu.time * 2 ^ 48)
      r1 := BitVec.ofNat 64 (timeNano d.tmu.time + (d.aon % 2 ^ 32) * 2 ^ 32) }

/-- An uncommitted OP_ABORT of the endpoint has marked this command: it commits first (02 R71). -/
def Dev.abortFirst (d : Dev) (c : CmdRef) (x : Cmd) : Bool :=
  x.marked && (d.ep c.ep).cmds.any (fun y =>
    isOp 0x02 y && decide (y.outcome.map (·.status) = some stOk) && decide (y.fld 16 0 6 = x.ring) &&
      decide (y.fld 20 0 20 = x.pos.toNat % 2 ^ 20))

/-- A command's outcome may enter the internal completion queue now: a dispatched command has its entry, one that failed its checks
takes one that is not reserved (02 R49, R53, R54). -/
def Dev.mayCommit (d : Dev) (c : CmdRef) (x : Cmd) : Bool :=
  !x.executing && x.outcome.isSome && !d.abortFirst c x &&
    (x.reserved || decide (d.icqHeld c.ep < 1024)) &&
    mayRun x ((d.ep c.ep).cmds.takeWhile (fun y => !names c y))

/-- The committed count of a ring: the leading positions that have committed (02 R41). -/
def leadCommitted (r : CmdRing) (ring : Nat) (cmds : List Cmd) : Word :=
  match cmds.find? (fun x => decide (x.ring = ring)) with
  | some x => x.pos
  | none => r.f

/-- The last executing command of an endpoint that has gone down has stopped (02 R40). -/
def Dev.downDone (d : Dev) (e : Nat) : Dev :=
  match (d.ep e).downEv with
  | none => d
  | some (cause, n) =>
    if !(d.ep e).cmds.isEmpty then d
    else
      let d := (d.modEp e (fun x => { x with downEv := none })).record Ev.epDown (whoOf (d.owned e)) none
        (dat [(0, 1, e), (1, 1, cause), (2, 4, n)])
      if n = 0 then d else d.liveFor (0x48 + 16 * e) 1

/-- A command of an endpoint that has gone down has stopped at a step boundary: its completion is discarded (02 R40). -/
def Dev.discardStopped (d : Dev) (c : CmdRef) : Dev :=
  ((d.modEp c.ep (fun y =>
    { y with cmds := y.cmds.filter (fun z => !names c z), downEv := y.downEv.map (fun q => (q.1, q.2 + 1)) })).bump
    .cplDiscard c.ep).downDone c.ep

/-- COMMAND_COMMIT: the completion enters the internal completion queue, and its outcome is final (02 R53). -/
def doCommandCommit (c : CmdRef) (d : Dev) : Dev :=
  match d.cmd? c with
  | none => d
  | some x =>
    match x.outcome with
    | none => d
    | some o =>
      if (d.ep c.ep).downEv.isSome then d.discardStopped c
      else if d.mayCommit c x then
        let d := d.modEp c.ep (fun y =>
          { y with
            cmds := y.cmds.filter (fun z => !names c z)
            icq := y.icq ++ [{ cq := (d.cr c.ep c.ring).boundCq, image := completionImage x (d.fillDone o) }] })
        d.modCr c.ep c.ring (fun r => { r with c := leadCommitted r c.ring (d.ep c.ep).cmds })
      else d

/-- PHASE of the completion at position `w` (02 R52). -/
def phaseBit (w : Word) (sizeLog2 : Nat) : Nat := 1 - (w.toNat / 2 ^ sizeLog2) % 2

/-- COMPLETION_WRITE: the oldest committed completion of a ring is written with its phase bit when the
ring is ACTIVE and has room (02 R52, R53). -/
def doCompletionWrite (e n : Nat) (d : Dev) : Dev :=
  let q := d.cq e n
  if !(d.ep e).up ∨ q.st ≠ .active ∨ q.full then d
  else match (d.ep e).icq.find? (fun x => decide (x.cq = n)) with
    | none => d
    | some x =>
      let addr := q.base.toNat + 32 * (q.w.toNat % 2 ^ q.sizeLog2)
      let img := x.image.toNat + phaseBit q.w q.sizeLog2 * 2 ^ 255
      (((d.modEp e (fun y => { y with icq := y.icq.erase x })).modCq e n (fun q => { q with w := q.w + 1 })).emit
        (.hostWrite e addr (leBytes 32 img))).signal e n

/-! ### Meanings -/

/-- COMMAND_RING_DOORBELL (R42). -/
def execCommandRingDoorbell (e : Nat) (n : Nat) (v : Word) (parity : Bool) (s : State) : Host.Outcome State Fault Refusal :=
  .next { s with dev := doCommandRingDoorbell e n v parity s.dev }

/-- COMPLETION_RING_DOORBELL (R42). -/
def execCompletionRingDoorbell (e : Nat) (n : Nat) (v : Word) (parity : Bool) (s : State) : Host.Outcome State Fault Refusal :=
  .next { s with dev := doCompletionRingDoorbell e n v parity s.dev }

/-- RECEIVE_QUEUE_DOORBELL (R42). -/
def execReceiveQueueDoorbell (e : Nat) (q : Nat) (v : Word) (parity : Bool) (s : State) : Host.Outcome State Fault Refusal :=
  .next { s with dev := doReceiveQueueDoorbell e q v parity s.dev }

/-- TRANSMIT_QUEUE_DOORBELL (R42). -/
def execTransmitQueueDoorbell (e : Nat) (q : Nat) (v : Word) (parity : Bool) (s : State) : Host.Outcome State Fault Refusal :=
  .next { s with dev := doTransmitQueueDoorbell e q v parity s.dev }

/-- DESCRIPTOR_FETCH (R45). -/
def execDescriptorFetch (e : Nat) (s : State) : Host.Outcome State Fault Refusal :=
  .next { s with dev := doDescriptorFetch e s.dev }

/-- COMMAND_DISPATCH (R58). -/
def execCommandDispatch (s : State) : Host.Outcome State Fault Refusal :=
  .next { s with dev := doCommandDispatch s.dev }

/-- COMMAND_COMMIT (R53). -/
def execCommandCommit (c : CmdRef) (s : State) : Host.Outcome State Fault Refusal :=
  .next { s with dev := doCommandCommit c s.dev }

/-- COMPLETION_WRITE (R52). -/
def execCompletionWrite (e : Nat) (n : Nat) (s : State) : Host.Outcome State Fault Refusal :=
  .next { s with dev := doCompletionWrite e n s.dev }

/-- EP_CR_CFG_WRITE (R41). -/
def execEpCrCfgWrite (e : Nat) (n : Nat) (dword : Nat) (v : Word) (s : State) : Host.Outcome State Fault Refusal :=
  .next { s with dev := doEpCrCfgWrite e n dword v s.dev }

/-- EP_CQ_CFG_WRITE (R44). -/
def execEpCqCfgWrite (e : Nat) (n : Nat) (dword : Nat) (v : Word) (s : State) : Host.Outcome State Fault Refusal :=
  .next { s with dev := doEpCqCfgWrite e n dword v s.dev }

/-- RING_DISABLE_DONE (R44). -/
def execRingDisableDone (e : Nat) (n : Nat) (s : State) : Host.Outcome State Fault Refusal :=
  .next { s with dev := doRingDisableDone e n s.dev }

/-- MSIX_MESSAGE (R65). -/
def execMsixMessage (e : Nat) (v : Nat) (s : State) : Host.Outcome State Fault Refusal :=
  .next { s with dev := doMsixMessage e v s.dev }

/-- MSIX_DELAY_EXPIRY (R65). -/
def execMsixDelayExpiry (e : Nat) (v : Nat) (s : State) : Host.Outcome State Fault Refusal :=
  .next { s with dev := doMsixDelayExpiry e v s.dev }

/-- MSIX_UNMASK (R65). -/
def execMsixUnmask (e : Nat) (what : Unmask) (s : State) : Host.Outcome State Fault Refusal :=
  .next { s with dev := doMsixUnmask e what s.dev }

end Sys2Proof.Machine
end

