-- ==== Sys2Proof/Machine/Packets.lean ====
section
/-! DEFINITION. Packets, their copies and queues: where they stand, how a copy is sent, dropped or freed, and
what that charges (chapters 1, 4, 9, 10, 11, 13). -/
namespace Sys2Proof.Machine

/-! ### Ports and lanes as the data path sees them -/

/-- A port as reset leaves it: every macro one 1.6TbE port, administratively down (04 R115). -/
def portReset (l : Nat) : Port := if l % 8 = 0 then { configured := true, lanes := 8 } else {}
def Dev.port (d : Dev) (l : Nat) : Port := tget d.pte.ports (portReset l) l
def Dev.modPort (d : Dev) (l : Nat) (f : Port → Port) : Dev :=
  { d with pte := { d.pte with ports := tset d.pte.ports (portReset l) l (f (d.port l)) } }
def Dev.lane (d : Dev) (l : Nat) : Lane := tget d.pte.lanes {} l
def Dev.modLane (d : Dev) (l : Nat) (f : Lane → Lane) : Dev :=
  { d with pte := { d.pte with lanes := tmod d.pte.lanes {} l f } }
def Dev.octal (d : Dev) (m : Nat) : Octal := tget d.pte.macros {} m
def Dev.modOctal (d : Dev) (m : Nat) (f : Octal → Octal) : Dev :=
  { d with pte := { d.pte with macros := tmod d.pte.macros {} m f } }
def Dev.fcp (d : Dev) (p : Nat) : Fcp := tget d.fcps {} p
def Dev.modFcp (d : Dev) (p : Nat) (f : Fcp → Fcp) : Dev := { d with fcps := tmod d.fcps {} p f }

/-- `l` is the first lane of a configured front-panel port. -/
def Dev.isPort (d : Dev) (l : Nat) : Bool := decide (l < 512) && (d.port l).configured
/-- The configured front-panel ports. -/
def Dev.portList (d : Dev) : List Nat := (List.range 512).filter d.isPort
/-- The port that holds lane `l`. -/
def Dev.portOfLane (d : Dev) (l : Nat) : Option Nat :=
  [l, l / 2 * 2, l / 4 * 4, l / 8 * 8].find? (fun p => d.isPort p && decide (l < p + (d.port p).lanes))

/-- MAC rate of a port in Gb/s: that of its type (04 Table 4-1, 09 R267). The spec names no rate of the internal ports: a host port is
taken at that of its link, a recirculation port at that of its pipeline (DESIGN CHOICE, assumption 134). -/
def Dev.macRate (d : Dev) (p : Nat) : Nat :=
  if 528 ≤ p then 512 else if 512 ≤ p then 6400 else (d.port p).lanes * (if (d.octal (p / 8)).rate100 then 100 else 200)

/-- A port that counts as down for replication and LAG members (04 R131). -/
def Dev.countsDown (d : Dev) (p : Nat) : Bool :=
  !d.isPort p || match (d.port p).st with
    | .up | .holdRunning => false
    | _ => true

/-- A port's polder is in SAFE_HOLD, which governs while the device is FORWARDING (03 R100). -/
def Dev.polderHeld (d : Dev) (p : Nat) : Bool :=
  match d.lanePolder p with
  | some q => decide ((d.polder q).st = .safeHold)
  | none => false

/-! ### Packets and queues -/

def Dev.pkt? (d : Dev) (pid : Nat) : Option Pkt := tget d.dp.pkts none pid
def Dev.modPkt (d : Dev) (pid : Nat) (f : Pkt → Pkt) : Dev :=
  { d with dp := { d.dp with pkts := tmod d.dp.pkts none pid (fun x => x.map f) } }
def Dev.queue (d : Dev) (k : Nat) : Queue := tget d.dp.queues {} k
def Dev.modQueue (d : Dev) (k : Nat) (f : Queue → Queue) : Dev :=
  { d with dp := { d.dp with queues := tmod d.dp.queues {} k f } }
def Dev.txs (d : Dev) (port : Nat) : List Tx := tget d.dp.tx [] port
def Dev.setTxs (d : Dev) (port : Nat) (l : List Tx) : Dev := { d with dp := { d.dp with tx := tset d.dp.tx [] port l } }

/-- The key of a destination's queue. -/
def Dest.key : Dest → Nat
  | .uni p q => 16 * p + q
  | .mc p m => 8192 + 4 * p + m
  | .recirc p q => 16384 + 8 * p + q
  | .host e q => 20480 + 256 * e + q

/-- The destination that a queue's key names. -/
def destOf (k : Nat) : Dest :=
  if k < 8192 then .uni (k / 16) (k % 16)
  else if k < 16384 then .mc ((k - 8192) / 4) ((k - 8192) % 4)
  else if k < 20480 then .recirc ((k - 16384) / 8) ((k - 16384) % 8)
  else .host ((k - 20480) / 256) ((k - 20480) % 256)

/-- The egress port of a destination. -/
def Dest.port : Dest → Nat
  | .uni p _ => p
  | .mc p _ => p
  | .recirc p _ => 512 + p
  | .host e _ => 528 + e

/-- The pipeline that serves a port (01 R10, R17). -/
def pipeOf (port : Nat) : Nat := if port < 512 then port / 32 else if port < 528 then port - 512 else 4 * (port - 528)

/-- The destination is a front-panel port. -/
def Dest.front : Dest → Bool
  | .uni _ _ | .mc _ _ => true
  | _ => false

/-- FRAME_LEN of a packet on its current pass: the frame with its FCS (05 R141). -/
def Pkt.len (x : Pkt) : Nat := x.bytes.length + 4
/-- Cells that a packet needs (10 R315). -/
def Pkt.need (x : Pkt) : Nat := cdiv x.len 256
/-- The party that dispatches, or frees, copies to a destination. -/
def Dest.party : Dest → Nat
  | .host e _ => partyHost e
  | t => partyEgress (pipeOf t.port)

/-! ### Metering of copies (13 R404, R405) -/

/-- An update of tenant counter `i` and its packet count enters the combining front end of a pipeline, which
merges the updates of one tenant in one epoch (13 R405). -/
def Dev.meterAdd (d : Dev) (pipe tenant polder epoch i bytes : Nat) : Dev :=
  let inc (l : List Nat) : List Nat := (l.set i (l.getD i 0 + bytes)).set (i + 1) (l.getD (i + 1) 0 + 1)
  let same (u : Merge) : Bool := decide (u.pipe = pipe ∧ u.tenant = tenant ∧ u.polder = polder ∧ u.epoch = epoch)
  let ms := if d.mrp.merging.any same then d.mrp.merging.map (fun u => if same u then { u with inc := inc u.inc } else u)
    else d.mrp.merging ++ [{ pipe := pipe, tenant := tenant, polder := polder, epoch := epoch, inc := inc (List.replicate 8 0), tick := d.bal.tick }]
  { d with mrp := { d.mrp with merging := ms } }

/-- Charges a counter pair of the packet's tenant, in the epoch of its ingress timestamp. -/
def Dev.meter (d : Dev) (x : Pkt) (pipe i bytes : Nat) : Dev :=
  match x.tenant with
  | some t => if x.metered && !x.mirror then d.meterAdd pipe t x.polder x.epoch i bytes else d
  | none => d

/-! ### The end of copies -/

/-- The write-back of a transmit frame's EOP descriptor, offsets 16-31, and then the event of its queue's cause (02 R62, R64,
Table 2-9); an endpoint that is down takes no write (02 R40, R52). -/
def Dev.txWriteBack (d : Dev) (ep q addr sec ns status : Nat) : Dev :=
  if (d.ep ep).up then
    (d.emit (.hostWrite ep (addr + 16) (leBytes 4 sec ++ leBytes 4 ns ++ leBytes 4 0 ++ leBytes 3 status ++ [0x80]))).signal ep (320 + q)
  else d

/-- The packet leaves the table of packets once no copy is left, no request waits and its last byte has arrived; a timestamp
asked for and never taken is written back as a free value. -/
def Dev.tidy (d : Dev) (pid : Nat) : Dev :=
  match d.pkt? pid with
  | some x =>
    if x.copies = 0 ∧ x.whole ∧ x.oldCells = [] ∧ x.ask = none then
      let d := match x.tsReq with
        | some (e, q, a) =>
          let (v, d) := d.free 64
          d.txWriteBack e q a (v % 2 ^ 32) (v / 2 ^ 32) 0
        | none => d
      { d with dp := { d.dp with pkts := tset d.dp.pkts none pid none } }
    else d
  | none => d

/-- The replication descriptors all stand in use. -/
def Dev.replFull (d : Dev) : Bool := decide (8192 ≤ (d.swc.repl.filter (fun r => r.2.isSome)).length)

/-- A copy's bit leaves its replication descriptor, which is free once COPIES_LEFT is 0; FS_SWC_REPL_EXHAUSTED outlasts the
exhaustion by 1 ms (09 R277, R280, R282). -/
def Dev.replDone (d : Dev) (x : Pkt) (t : Dest) : Dev :=
  match x.repl, t with
  | some r, .mc p _ =>
    let full := d.replFull
    let d := { d with swc := { d.swc with repl := tmod d.swc.repl none r (fun o => o.bind (fun y =>
        if y.copiesLeft ≤ 1 then none
        else some { y with copyMask := if y.copyMask.testBit p then y.copyMask - 2 ^ p else y.copyMask, copiesLeft := y.copiesLeft - 1 })) } }
    if full && !d.replFull then d.liveMs 0xA31 else d
  | _, _ => d

/-- A pipeline's idle count restarts (18 R531). -/
def Dev.touch (d : Dev) (p : Nat) : Dev := d.modPipe p (fun x => { x with idleSince := d.bal.tick, idleUs := d.bal.sleepUs })

/-- A wake trigger reaches a pipeline. -/
def Dev.trigger (d : Dev) (p : Nat) : Dev :=
  d.modPipe p (fun x =>
    { x with
      waking := x.waking || x.asleep, idleSince := d.bal.tick, idleUs := d.bal.sleepUs
      wakeAt := if x.asleep && !x.waking then d.bal.tick else x.wakeAt })

/-- A command reads or writes state held in the pipeline of a front-panel port (18 R532). -/
def Dev.wakeFor (d : Dev) (port : Nat) : Dev := if d.isPort port then d.trigger (port / 32) else d

/-- One copy of a packet is done with: it gives up its references, the cells it read back included, and its reads that wait
(09 R278, 11 R338). -/
def Dev.copyEnd (d : Dev) (party : Nat) (e : Ent) (t : Dest) : Dev :=
  match d.pkt? e.pid with
  | none => d
  | some x =>
    let d := match e.part with
      | .basin => d
      | .ret => d.releaseAll party 532 e.own
      | _ => d.releaseAll party x.acct x.cells
    let d := { d with swc := { d.swc with reads := d.swc.reads.filter (fun c => !(decide (c.pid = e.pid ∧ c.copy = some t))) } }
    (((d.replDone x t).touch (pipeOf t.port)).modPkt e.pid (fun y => { y with copies := y.copies - 1 })).tidy e.pid

/-- A copy is dropped after admission: the drop is counted, and LOST charged (13 R404). -/
def Dev.copyDrop (d : Dev) (party : Nat) (e : Ent) (t : Dest) (c : Ctr) (i : Nat) : Dev :=
  match d.pkt? e.pid with
  | none => d
  | some x => ((d.bump c i).meter x (pipeOf t.port) 6 x.len).copyEnd party e t

/-- The object that a drop of a packet is counted against: its ingress port, or its egress port. -/
def dropIdx (byIngress : Bool) (x : Pkt) (t : Dest) : Nat := if byIngress then x.first else t.port

/-! ### Freeing queues (10 R321-R323, 11 R342) -/

/-- The keys of the queues of a front-panel port. -/
def portKeys (p : Nat) : List Nat := (List.range 16).map (fun q => 16 * p + q) ++ (List.range 4).map (fun m => 8192 + 4 * p + m)

/-- A queue's BASIN is detached: the walker returns its segments later, and the queue is DRY (11 R342). -/
def Dev.detach (d : Dev) (k : Nat) : Dev :=
  let segs := (d.queue k).chain
  ({ d with spw := { d.spw with detached := d.spw.detached ++ segs } }).modQueue k (fun q =>
    { q with flooded := false, chain := [], fill := 0 })

/-- The frame on the wire: whole, with its FCS, or cut and stomped. -/
def wireFrame (bytes : List Byte) (stomp : Bool) : List Byte :=
  bytes ++ leBytes 4 (if stomp then crc32 bytes ^^^ 0xFFFFFFFF else crc32 bytes)

/-- The loopback of a port (18 R536): 0 off, 1 near end, 2 far end. -/
def Dev.loopKind (d : Dev) (p : Nat) : Nat := tget d.bal.loopback 0 p

/-- A frame leaves the transmitter of a port; in loopback the transmitter idles, or sends what is received. -/
def Dev.wireOut (d : Dev) (p : Nat) (bytes : List Byte) : Dev := if d.loopKind p = 0 then d.emit (.frame p bytes) else d

/-- Bytes in a port's skid buffers. -/
def Port.skidBytes (x : Port) : Nat := x.skid.foldl (fun n f => n + f.length + 4) 0

/-- A pipeline is waking, and the 96 ns of its wake have not passed: what they bring always fits the skid buffers (04
R127). -/
def Dev.wakesInTime (d : Dev) (p : Nat) : Bool :=
  let x := d.pipe p
  x.waking && !x.parseStopped && !x.actionStopped && decide (d.bal.tick < x.wakeAt + 3)

/-- A frame, given without its FCS, goes to a port's skid buffers, or, where they are full, is dropped (04 R127, R128). -/
def Dev.intoSkid (d : Dev) (p : Nat) (bytes : List Byte) : Dev :=
  let x := d.port p
  if d.wakesInTime (p / 32) || decide (x.skidBytes + bytes.length + 4 ≤ x.lanes * 8192) then
    d.modPort p (fun y => { y with skid := y.skid ++ [bytes] })
  else (d.bump .drSkidOverrun p).liveMs (0x538 + 64 * (p / 32))

/-- Frees every frame of a queue, each counted; the frames and bytes freed. -/
def Dev.freeQueue (d : Dev) (k : Nat) (c : Ctr) (byIngress : Bool) : Nat × Nat × Dev :=
  let t := destOf k
  let es := (d.queue k).ents
  let bytes := es.foldl (fun n e => n + ((d.pkt? e.pid).map Pkt.len).getD 0) 0
  let d := es.foldl (fun d e =>
    match d.pkt? e.pid with
    | some x => d.copyDrop partyFlush e t c (dropIdx byIngress x t)
    | none => d) d
  (es.length, bytes, (d.modQueue k (fun q => { q with ents := [] })).detach k)

/-- Frees a packet's copy that was admitted for a queue and not yet linked into it; a frame in a long-reach queue, or
staged for one, meets the queue's state when it returns (11 R348). -/
def Dev.freeWaiting (d : Dev) (keys : List Nat) (c : Ctr) (idx : Pkt → Dest → Nat) : Nat × Nat × Dev :=
  d.dp.pkts.foldl (fun (acc : Nat × Nat × Dev) x =>
    match x.2 with
    | none => acc
    | some y =>
      (y.waiting.filter (fun t => keys.contains t.key && !y.lrq)).foldl (fun (a : Nat × Nat × Dev) (t : Dest) =>
        let d := a.2.2.modPkt x.1 (fun z => { z with waiting := z.waiting.erase t })
        (a.1 + 1, a.2.1 + y.len, d.copyDrop partyFlush { pid := x.1 } t c (idx y t))) acc) (0, 0, d)

/-- Frees every frame queued for a port, the admitted arrivals included. -/
def Dev.freePort (d : Dev) (p : Nat) (c : Ctr) (byIngress : Bool) : Nat × Nat × Dev :=
  let a := (portKeys p).foldl (fun (acc : Nat × Nat × Dev) k =>
    let r := acc.2.2.freeQueue k c byIngress
    (acc.1 + r.1, acc.2.1 + r.2.1, r.2.2)) (0, 0, d)
  let r := a.2.2.freeWaiting (portKeys p) c (dropIdx byIngress)
  (a.1 + r.1, a.2.1 + r.2.1, r.2.2)

/-- A port's queues begin to flush: their frames are freed, and from the next AON tick the port takes no arrival until it is
UP again (10 R322, Table 10-5). -/
def Dev.flushPort (d : Dev) (p : Nat) (c : Ctr) (byIngress : Bool) : Nat × Nat × Dev :=
  let r := d.freePort p c byIngress
  (r.1, r.2.1, r.2.2.modPort p (fun x =>
    { x with hold := .flushing, flushAs := some (c, byIngress), flushTick := r.2.2.bal.tick }))

/-- A port takes no arrival: its queues are barred, or a flush of theirs began in an earlier AON tick (04 R132, 10 R322). -/
def Dev.shutPort (d : Dev) (p : Nat) : Bool :=
  match (d.port p).hold with
  | .barred => true
  | .flushing => decide ((d.port p).flushTick < d.bal.tick)
  | _ => false

/-- QUEUE_FLUSH_DONE: the last frame is freed, those that were admitted in the tick of the flush among them, and the queues
are BARRED (10 R322, Table 10-5). -/
def doQueueFlushDone (port : Nat) (d : Dev) : Dev :=
  if (d.port port).hold = .flushing then
    let d := match (d.port port).flushAs with
      | some a => (d.freePort port a.1 a.2).2.2
      | none => d
    d.modPort port (fun x => { x with hold := .barred, flushAs := none })
  else d

/-! ### Meanings -/

/-- QUEUE_FLUSH_DONE (R323). -/
def execQueueFlushDone (port : Nat) (s : State) : Host.Outcome State Fault Refusal :=
  .next { s with dev := doQueueFlushDone port s.dev }

end Sys2Proof.Machine
end

