-- ==== Sys2Proof/Machine/Parse.lean ====
section
/-! DEFINITION. The Parse Engine: it runs the parse microcode of a pipeline over a packet's header window and
gives the parse result vector (chapter 5). -/
namespace Sys2Proof.Machine

/-! ### Stop codes (05 Table 5-3) and the state of a parse -/

abbrev stopAccept : Nat := 0
abbrev stopWindowEnd : Nat := 1
abbrev stopInstanceLimit : Nat := 2
abbrev stopStageLimit : Nat := 3
abbrev stopUndefined : Nat := 4
abbrev stopMalformed : Nat := 5
abbrev stopOverrun : Nat := 6
abbrev stopStoreFault : Nat := 7

/-- A parse under way. -/
structure Ps where
  insts : List Inst := []
  conts : List (Nat × Bool × Bool) := []
  flags : Nat := 0
  layers : List Nat := [31, 31, 31, 31, 31, 31, 31]
  /-- PARSE_END and the limit L (05 R149). -/
  fin : Nat := 0
  lim : Nat
  declared : Bool := false
  /-- Instance of the first container conflict. -/
  conflict : Option Nat := none
  deriving DecidableEq, Repr

/-- A parse that stops: its code, the instance of the class, and what had been found. -/
structure Halt where
  code : Nat
  inst : Nat
  ps : Ps

/-- A result, or the stop that ends the parse. -/
abbrev Parsed (α : Type) := Except Halt α

/-- The frame under parse. -/
structure Win where
  bytes : List Byte
  /-- FRAME_LEN and PRESENT (05 R141). -/
  frameLen : Nat
  present : Nat

/-- Stops a parse; the instance is the one that would have stood next (DESIGN CHOICE, assumption 128). -/
def Ps.stop (s : Ps) (code : Nat) {α : Type} : Parsed α := .error { code := code, inst := s.insts.length, ps := s }
/-- Stops a parse at an instance. -/
def Ps.stopAt (s : Ps) (code inst : Nat) {α : Type} : Parsed α := .error { code := code, inst := inst, ps := s }

/-- A byte that a word needs for instance `k` (05 R150). -/
def Win.byte (w : Win) (s : Ps) (k i : Nat) : Parsed Nat :=
  if w.present ≤ i then s.stopAt stopMalformed k
  else if 512 ≤ i then s.stopAt stopWindowEnd k
  else .ok (w.bytes.getD i 0).toNat

/-- A big-endian 16-bit value. -/
def Win.u16 (w : Win) (s : Ps) (k i : Nat) : Parsed Nat := do
  let a ← w.byte s k i
  let b ← w.byte s k (i + 1)
  return 256 * a + b

/-- A key of the given width at a byte (05 R148). -/
def Win.key (w : Win) (s : Ps) (k width i : Nat) : Parsed Nat :=
  match width with
  | 0 => do return (← w.byte s k i) / 16
  | 1 => w.byte s k i
  | 2 => w.u16 s k i
  | _ => .ok 0

/-- Places an instance (05 R150): `e` is the bit of the slot's E field group. -/
def Win.place (w : Win) (word e : Nat) (s : Ps) : Parsed Ps :=
  if s.insts.length = 24 then s.stop stopInstanceLimit
  else do
    let base := s.fin
    let part ← if word.testBit (e + 19) then (do
        let v ← w.u16 s s.insts.length (base + bits word (e + 20) 6)
        let width := if bits word (e + 30) 4 = 0 then 16 else bits word (e + 30) 4
        return bits v (bits word (e + 26) 4) width * 2 ^ bits word (e + 34) 3)
      else .ok 0
    let len := bits word (e + 10) 9 + part
    if len < bits word (e + 37) 9 then s.stop stopMalformed
    else if s.lim < base + len ∧ s.declared then s.stop stopOverrun
    else if w.present < base + len then s.stop stopMalformed
    else if 512 < base + len then s.stop stopWindowEnd
    else
      let k := s.insts.length
      let layer := bits word (e + 7) 3
      return { s with
        insts := s.insts ++ [{ hdr := bits word (e + 1) 6, off := base, len := len }]
        fin := base + len
        layers := if layer ≠ 0 ∧ s.layers.getD (layer - 1) 0 = 31 then s.layers.set (layer - 1) k else s.layers }

/-- The container of the last placed instance (05 R149): `c` is the bit of the slot's C field group. -/
def Win.contain (w : Win) (word c : Nat) (s : Ps) : Parsed Ps :=
  let op := bits word c 2
  match s.insts.getLast? with
  | none => .ok s
  | some i =>
    if op = 0 ∨ op = 3 then .ok s
    else do
      let at_ := i.off + bits word (c + 3) 6
      let k := s.insts.length - 1
      let f ← if word.testBit (c + 9) then w.u16 s k at_ else w.byte s k at_
      let start := if word.testBit (c + 2) then i.off + i.len else i.off
      let decl : Int := (start + f * 2 ^ bits word (c + 10) 3 : Nat) + signed 9 (bits word (c + 13) 9)
      let conflict := decide (decl < (i.off + i.len : Nat)) || decide ((s.lim : Int) < decl) ||
        (decide (op = 2) && decide (decl < (s.lim : Int)) && !(!s.declared && decide (w.frameLen = 64)))
      let fin := if conflict then s.lim else decl.toNat
      return { s with
        lim := fin, declared := true
        conts := if s.conts.length < 4 then s.conts ++ [(fin, conflict, conflict)] else s.conts
        conflict := match s.conflict with
          | some k => some k
          | none => if conflict then some (s.insts.length - 1) else none }

/-- The ones'-complement sum of an instance as 16-bit words (05 R148). -/
def onesSum : List Byte → Nat → Nat
  | [], t => t
  | [a], t => t + 256 * a.toNat
  | a :: b :: r, t => onesSum r (t + 256 * a.toNat + b.toNat)
/-- Folds the carries of a ones'-complement sum. -/
def fold16 (n : Nat) : Nat := let a := n % 65536 + n / 65536; a % 65536 + a / 65536

/-- The bytes of an instance. -/
def Win.instBytes (w : Win) (i : Inst) : List Byte := (w.bytes.drop i.off).take i.len

/-- A word's field check and checksum checks on the instances it extracted (05 R147 step 4). -/
def Win.checks (w : Win) (word : Nat) (i0 i1 : Option (Nat × Inst)) (s : Ps) : Parsed Unit := do
  let slot := if word.testBit 189 then i1 else i0
  match slot with
  | some (k, i) =>
    if word.testBit 188 then
      let v ← w.u16 s k (i.off + bits word 190 6)
      if v &&& bits word 196 16 ≠ bits word 212 16 then s.stopAt stopMalformed k
  | none => pure ()
  match i0 with
  | some (k, i) =>
    if word.testBit 46 && decide (fold16 (onesSum (w.instBytes i) 0) ≠ 0xFFFF) then s.stopAt stopMalformed k
  | none => pure ()
  match i1 with
  | some (k, i) =>
    if word.testBit 93 && decide (fold16 (onesSum (w.instBytes i) 0) ≠ 0xFFFF) then s.stopAt stopMalformed k
  | none => pure ()

/-- Where a parse goes after a word. -/
inductive Go where
  | accept | word (addr : Nat) | cont (addr : Nat) | undefined | malformed

/-- The transition that a key takes (05 R147 step 6, R151). -/
def transition (word key : Nat) : Go :=
  match (List.range 5).find? (fun i =>
      word.testBit (266 + 46 * i) && decide (key &&& bits word (266 + 46 * i + 18) 16 = bits word (266 + 46 * i + 2) 16)) with
  | some i => if word.testBit (266 + 46 * i + 1) then .accept else .word (bits word (266 + 46 * i + 34) 12)
  | none =>
    match bits word 496 3 with
    | 1 => .accept
    | 2 => .word (bits word 499 12)
    | 3 => .cont (bits word 499 12)
    | 4 => .malformed
    | _ => .undefined

/-- One stage (05 R147): the word at `addr` of the store, and its continuation word; `bad` is a word that fails as it is fetched. A
transition to a further word after the 24th instance is INSTANCE_LIMIT, in stage 11 too; a CONTINUE that leaves the graph state
ends as UNDEFINED; a stop that DEF_KIND asks for names the instance that would have stood next (DESIGN CHOICE, assumption 128). -/
def Win.stage (w : Win) (store : Nat → Nat) (bad : Option Nat) (addr : Nat) (s : Ps) : Parsed (Ps × Option Nat) := do
  let word := store addr
  let en0 := word.testBit 0
  let s ← if en0 then (do w.contain word 144 (← w.place word 0 s)) else pure s
  let i0 := if en0 then (s.insts.getLast?).map (fun i => (s.insts.length - 1, i)) else none
  let at0 := i0.getD (s.insts.length, { hdr := 0, off := s.fin, len := 0 })
  let k0 ← w.key s at0.1 (bits word 133 2) (at0.2.off + bits word 126 7)
  let take1 := en0 && word.testBit 47 && decide (k0 &&& bits word 110 16 = bits word 94 16)
  let s ← if take1 then (do
      let s ← w.contain word 166 (← w.place word 47 s)
      return (if word.testBit 265 then { s with flags := s.flags ||| 2 ^ bits word 260 5 } else s)) else pure s
  let i1 := if take1 then (s.insts.getLast?).map (fun i => (s.insts.length - 1, i)) else none
  w.checks word i0 i1 s
  let s := { s with flags := s.flags ||| bits word 228 32 }
  let at1 := i1.getD at0
  let key ← if take1 then w.key s at1.1 (bits word 142 2) (at1.2.off + bits word 135 7) else pure k0
  let after (g : Go) : Parsed (Ps × Option Nat) :=
    match g with
    | .accept => .ok (s, none)
    | .malformed => s.stop stopMalformed
    | .word a => if s.insts.length = 24 then s.stop stopInstanceLimit else .ok (s, some a)
    | _ => s.stop stopUndefined
  match transition word key with
  | .cont a =>
    if a / 16 ≠ addr / 16 then s.stop stopUndefined
    else if bad = some a then s.stop stopStoreFault
    else
      let word2 := store a
      let key2 ← w.key s at1.1 (bits word2 133 2) (at1.2.off + bits word2 126 7)
      after (transition word2 key2)
  | g => after g

/-- Up to `n` stages from a word on, `last` being the state of the last word executed; that of the last word executed comes with the
result. A word that fails as it is fetched is not executed (05 R163). -/
def Win.stages (w : Win) (store : Nat → Nat) (bad : Option Nat) : Nat → Nat → Nat → Ps → Nat × Parsed Ps
  | 0, _, last, s => (last, s.stop stopStageLimit)
  | n + 1, addr, last, s =>
    if bad = some addr then (last, s.stop stopStoreFault)
    else match w.stage store bad addr s with
    | .error h => (addr / 16, .error h)
    | .ok (s, none) => (addr / 16, .ok s)
    | .ok (s, some next) => w.stages store bad n next (addr / 16) s

/-- The class of a stop code (05 Table 5-4). -/
def stopClass (code : Nat) : Option Nat :=
  if code = stopStoreFault then some 5
  else if code = stopMalformed then some 4
  else if code = stopOverrun then some 2
  else if code = stopUndefined then some 3
  else if code = stopAccept then none
  else some 1

/-- The precedence of the parse classes (05 Table 5-4). -/
def classOrder : List Nat := [5, 4, 2, 3, 1]

/-- The parse result vector of a finished parse. -/
def prvOf (w : Win) (last code inst : Nat) (s : Ps) : Prv :=
  let found : List (Nat × Nat) :=
    (match s.conflict with
    | some k => [(2, k)]
    | none => []) ++
    (match stopClass code with
    | some c => [(c, inst)]
    | none => [])
  let cls := classOrder.find? (fun c => found.any (fun f => decide (f.1 = c)))
  { frameLen := w.frameLen, excClass := cls, stop := code
    excInst := match cls.bind (fun c => found.find? (fun f => decide (f.1 = c))) with
      | some f => f.2
      | none => 31
    excSeen := found.foldl (fun m f => m ||| 2 ^ f.1) 0
    lastState := last, parseEnd := s.fin, insts := s.insts, conts := s.conts, flags := s.flags, layers := s.layers }

/-- The parse of a frame given without its FCS, by the words of a store, of which `bad` fails as it is fetched (05 R141-R155,
R163). -/
def parseFrame (store : Nat → Nat) (bad : Option Nat) (bytes : List Byte) : Prv :=
  let w : Win := { bytes := bytes, frameLen := bytes.length + 4, present := bytes.length }
  match w.stages store bad 12 0 0 { lim := bytes.length } with
  | (last, .ok s) => prvOf w last stopAccept 31 s
  | (last, .error h) => prvOf w last h.code h.inst h.ps

/-- The words of pipeline `p`'s parse store. -/
def Dev.parseWord (d : Dev) (p : Nat) (addr : Nat) : Nat := (tget (d.pipe p).parseStore 0 addr).toNat

/-! ### Fields of a parsed frame (05 R153, 06 R175) -/

/-- The instance that names a layer, 1 L2_OUT to 7 L4_IN. -/
def Prv.layer (v : Prv) (k : Nat) : Option Inst :=
  let i := v.layers.getD (k - 1) 31
  if i = 31 then none else v.insts[i]?

/-- `n` bytes at an offset within a layer, big-endian; 0 when the layer is absent. -/
def layerBe (v : Prv) (bytes : List Byte) (k off n : Nat) : Nat :=
  match v.layer k with
  | some i => beNat (((bytes.drop (i.off + off)).take n))
  | none => 0

/-- The VLAN tags that begin at byte 12: at most two (08 R240). -/
def vlanTags (bytes : List Byte) : List Nat :=
  let tag (o : Nat) : Option Nat :=
    let t := beNat ((bytes.drop o).take 2)
    if (t = 0x8100 ∨ t = 0x88A8) ∧ o + 4 ≤ bytes.length then some (beNat ((bytes.drop (o + 2)).take 2)) else none
  match tag 12 with
  | none => []
  | some a => match tag 16 with
    | none => [a]
    | some b => [a, b]

/-- The outermost tag's VID, PCP and DEI. -/
def outerVid (bytes : List Byte) : Option Nat := (vlanTags bytes).head?.map (· % 4096)
def outerPcp (bytes : List Byte) : Option Nat := (vlanTags bytes).head?.map (· / 8192)
def outerDei (bytes : List Byte) : Bool := ((vlanTags bytes).head?.map (fun t => (t / 4096) % 2)).getD 0 = 1

/-- Version of the IP header in a layer: 4, 6, or 0 for none. -/
def ipVer (v : Prv) (bytes : List Byte) (k : Nat) : Nat :=
  match v.layer k with
  | some i =>
    let x := (beNat ((bytes.drop i.off).take 1)) / 16
    if (x = 4 ∧ 20 ≤ i.len) ∨ (x = 6 ∧ 40 ≤ i.len) then x else 0
  | none => 0

/-- Source and destination address of an IP layer, as numbers. -/
def ipAddrs (v : Prv) (bytes : List Byte) (k : Nat) : Nat × Nat :=
  match ipVer v bytes k with
  | 4 => (layerBe v bytes k 12 4, layerBe v bytes k 16 4)
  | 6 => (layerBe v bytes k 8 16, layerBe v bytes k 24 16)
  | _ => (0, 0)

/-- The IPv4 protocol, or the final IPv6 next header: that of the last instance of IPv6 or its extension
headers behind the layer. -/
def ipProto (v : Prv) (bytes : List Byte) (k : Nat) : Nat :=
  match ipVer v bytes k with
  | 4 => layerBe v bytes k 9 1
  | 6 =>
    let i0 := v.layers.getD (k - 1) 31
    let ext := (v.insts.drop (i0 + 1)).takeWhile (fun i => decide (7 ≤ i.hdr ∧ i.hdr ≤ 11))
    match ext.getLast? with
    | some i => beNat ((bytes.drop i.off).take 1)
    | none => layerBe v bytes k 6 1
  | _ => 0

/-- The first two 16-bit fields of an L4 layer, the source and the destination port; a non-first fragment (FLAGS bit 1) has ports 0
(06 R175). -/
def l4Ports (v : Prv) (bytes : List Byte) (l4 : Nat) : Nat × Nat :=
  if v.flags.testBit 1 then (0, 0) else (layerBe v bytes l4 0 2, layerBe v bytes l4 2 2)

/-- The VNI of the TUN layer, VXLAN or Geneve by UDP port of the L4 before it; another kind gives 0 (06 R175). -/
def tunVni (v : Prv) (bytes : List Byte) : Option Nat :=
  match v.layer 4 with
  | some i => if i.hdr = 0x0E ∨ i.hdr = 0x0F then some (beNat ((bytes.drop (i.off + 4)).take 3)) else none
  | none => none

/-- Destination and source MAC address of the frame. -/
def macDa (bytes : List Byte) : Nat := beNat (bytes.take 6)
def macSa (bytes : List Byte) : Nat := beNat ((bytes.drop 6).take 6)
/-- The EtherType of the L2_OUT layer, 0 where that is absent: that behind up to two VLAN tags (DESIGN CHOICE, assumption 131; 06
R175). -/
def etherType (v : Prv) (bytes : List Byte) : Nat :=
  match v.layer 1 with
  | some i =>
    let b := bytes.drop i.off
    beNat ((b.drop (12 + 4 * (vlanTags b).length)).take 2)
  | none => 0

end Sys2Proof.Machine
end

