-- ==== Sys2Proof/Machine/Tables.lean ====
section
/-! DEFINITION. The rule tables as lookups see them: entries, visibility, keys, lookups, the symmetric hash and
member selection (chapter 6). -/
namespace Sys2Proof.Machine

/-! ### Table identifiers (06 Table 6-1) -/

abbrev tMac : Nat := 0x00
abbrev tExact : Nat := 0x01
abbrev tHost : Nat := 0x02
abbrev tLpm4 : Nat := 0x03
abbrev tLpm6 : Nat := 0x04
abbrev tTcam : Nat := 0x05
abbrev tAction : Nat := 0x06
abbrev tNextHop : Nat := 0x07
abbrev tEcmpGroup : Nat := 0x08
abbrev tEcmpMember : Nat := 0x09
abbrev tLag : Nat := 0x0A
abbrev tRewrite : Nat := 0x0B
abbrev tPortVlan : Nat := 0x0C
abbrev tDefault : Nat := 0x1F

/-- The identifier names a table. -/
def isTable (t : Nat) : Bool := decide (t ≤ 0x0C ∨ t = 0x1F)
/-- The table is keyed: addressed by key (06 Table 6-1). -/
def keyed (t : Nat) : Bool := decide (t ≤ 5 ∨ t = tPortVlan ∨ t = tDefault)
/-- The table carries generation visibility bits. -/
def versioned (t : Nat) : Bool := decide (t = tExact ∨ t = tTcam ∨ t = tAction ∨ t = tRewrite)
/-- Capacity of one copy in entries, units or slices (06 Table 6-1, 08 R233). -/
def capacity (t : Nat) : Nat :=
  match t with
  | 0x00 => 524288 | 0x01 => 1048576 | 0x02 => 524288 | 0x03 => 2097152 | 0x04 => 524288 | 0x05 => 65536
  | 0x06 => 262144 | 0x07 => 262144 | 0x08 => 16384 | 0x09 => 1048576 | 0x0A => 512 | 0x0B => 262144
  | 0x0C => 65536 | _ => 0
/-- The quota index of a table (03 Table 3-3). -/
def quotaOf (t : Nat) : Option Nat := if t ≤ 0x0A then some t else none

/-! ### Entries -/

def tabKey (t i : Nat) : Nat := t * 2 ^ 32 + i
/-- The entry of table `t` at an index. -/
def Dev.tab (d : Dev) (t i : Nat) : Option TabEnt := tget d.rle.ents none (tabKey t i)
def Dev.setTab (d : Dev) (t i : Nat) (e : Option TabEnt) : Dev :=
  { d with rle := { d.rle with ents := tset d.rle.ents none (tabKey t i) e } }
/-- The entries of table `t` with their indexes, ascending. -/
def Dev.tabList (d : Dev) (t : Nat) : List (Nat × TabEnt) :=
  d.rle.ents.filterMap (fun x =>
    if x.1 / 2 ^ 32 = t then x.2.map (fun e => (x.1 % 2 ^ 32, e)) else none)

/-- A field of a record image: byte offset, lowest bit, width. -/
def TabEnt.f (e : TabEnt) (off lsb w : Nat) : Nat := fld e.image.toNat off lsb w

/-- Size of an entry in quota units: units of EXACT, slices of the TCAM, else 1 (06 Table 6-1). -/
def entUnits (t : Nat) (image : Nat) : Nat := if t = tExact ∨ t = tTcam then 2 ^ (bits image 3 2) else 1

/-- What polder `p` uses of table `t`'s quota: every entry that occupies storage (06 R169, 03 R87). -/
def Dev.quotaUse (d : Dev) (t p : Nat) : Nat :=
  (d.tabList t).foldl (fun n x => if x.2.polder = p then n + entUnits t x.2.image.toNat else n) 0

/-- An entry serves a lookup: its polder, its slot, and its copy (06 R172). -/
def TabEnt.serves (e : TabEnt) (p slot quad : Nat) : Bool :=
  decide (e.polder = p) && e.vis.testBit slot && !e.bad.testBit quad

/-- What a lookup is made for: polder, slot, quadrant, and entries whose parity check fails in it (06 R173). -/
structure Look where
  p : Nat
  slot : Nat
  quad : Nat
  broken : List (Nat × Nat) := []

/-- The entry at an index, if it is valid for the lookup. -/
def Dev.at_ (d : Dev) (k : Look) (t i : Nat) : Option TabEnt :=
  match d.tab t i with
  | some e => if e.serves k.p k.slot k.quad && !k.broken.contains (t, i) then some e else none
  | none => none

/-- The first entry of a table that serves the lookup and satisfies a condition, lowest index first. -/
def Dev.findEnt (d : Dev) (k : Look) (t : Nat) (c : TabEnt → Bool) : Option (Nat × TabEnt) :=
  (d.tabList t).find? (fun x => x.2.serves k.p k.slot k.quad && !k.broken.contains (t, x.1) && c x.2)

/-! ### Generation slots (06 R183, R184) -/

/-- The current slot: the parity of GEN_CURRENT (06 R183). -/
def Dev.curSlot (d : Dev) : Nat := d.rle.gen.toNat % 2
/-- The slot that a packet's tag reads: its own while that generation is current or draining, the current slot
once it has been retired (06 R184, R189). -/
def Dev.slotFor (d : Dev) (x : Pkt) : Nat :=
  let cur := d.rle.gen.toNat
  if x.gen = cur % 16 ∨ (d.rle.slotSt = .draining ∧ x.gen = (cur + 15) % 16) then x.gen % 2 else d.curSlot
/-- The tag of a packet stamped now. -/
def Dev.genTag (d : Dev) : Nat := d.rle.gen.toNat % 16

/-! ### PORT_VLAN (06 R171) and FLOOD_MASK (09 R275) -/

/-- The PORT_VLAN entry of a port and VID that serves a lookup: one whose parity check fails is a miss (06 R173). -/
def Dev.portVlan (d : Dev) (k : Look) (port vid : Nat) : Option (Nat × TabEnt) :=
  (d.tabList tPortVlan).find? (fun x =>
    decide (x.2.polder = k.p ∧ x.2.f 0 0 10 = port ∧ x.2.f 0 10 12 = vid) && !x.2.bad.testBit k.quad &&
      !k.broken.contains (tPortVlan, x.1))
/-- A packet's forwarding profile: the entry of its VID, else the port's default entry. -/
def Dev.profile (d : Dev) (k : Look) (port vid : Nat) : Option (Nat × TabEnt) :=
  match d.portVlan k port vid with
  | some e => some e
  | none => d.portVlan k port 4095

/-- The flood set of a domain: the configured front-panel ports with a PORT_VLAN entry of the domain, less
those of words that failed parity in the quadrant. -/
def Dev.floodSet (d : Dev) (quad domain : Nat) : List Nat :=
  let es := (d.tabList tPortVlan).filter (fun x => decide (x.2.f 8 0 14 = domain ∧ x.2.f 0 0 10 < 512))
  (List.range 512).filter (fun l =>
    es.any (fun x => decide (x.2.f 0 0 10 = l)) && d.isPort l && !d.rle.floodBad.contains (quad, domain, l / 64))

/-! ### Keys (06 R175-R177) -/

/-- What the key builders take from a packet. -/
structure KeyIn where
  prv : Prv
  bytes : List Byte
  port : Nat
  domain : Nat
  vrf : Nat

/-- Units and key bits of an EXACT key (06 Table 6-5). -/
def exactKey (fmt : Nat) (k : KeyIn) : Nat × Nat :=
  let a := ipAddrs k.prv k.bytes 2
  let l4 := l4Ports k.prv k.bytes 3
  let pr := ipProto k.prv k.bytes 2
  let v4 := ipVer k.prv k.bytes 2 = 4
  let v6 := ipVer k.prv k.bytes 2 = 6
  match fmt with
  | 1 => (1, pack [(0, 3, 1), (3, 14, k.domain), (17, 48, layerBe k.prv k.bytes 1 0 6), (65, 16, etherType k.prv k.bytes)])
  | 2 => (1, pack [(0, 3, 2), (3, 14, k.vrf), (17, 32, if v4 then a.1 else 0), (49, 32, if v4 then a.2 else 0),
      (81, 16, l4.1), (97, 16, l4.2), (113, 8, pr)])
  | 3 => (4, pack [(0, 3, 3), (3, 14, k.vrf), (17, 128, if v6 then a.1 else 0), (145, 128, if v6 then a.2 else 0),
      (273, 16, l4.1), (289, 16, l4.2), (305, 8, pr)])
  | _ => (1, pack [(0, 3, 4), (3, 14, k.vrf), (17, 32, if v4 then a.2 else 0), (49, 24, (tunVni k.prv k.bytes).getD 0)])

/-- Traffic class or TOS byte of the outer IP header. -/
def tosOf (k : KeyIn) : Nat :=
  match ipVer k.prv k.bytes 2 with
  | 4 => layerBe k.prv k.bytes 2 1 1
  | 6 => (layerBe k.prv k.bytes 2 0 2 / 16) % 256
  | _ => 0

/-- Width and key of a TCAM key (06 Table 6-7). -/
def tcamKey (fmt : Nat) (k : KeyIn) : Nat × Nat :=
  let a := ipAddrs k.prv k.bytes 2
  let l4 := l4Ports k.prv k.bytes 3
  let pr := ipProto k.prv k.bytes 2
  let v4 := ipVer k.prv k.bytes 2 = 4
  let v6 := ipVer k.prv k.bytes 2 = 6
  let tcp := if pr = 6 ∧ !k.prv.flags.testBit 1 then layerBe k.prv k.bytes 3 13 1 else 0
  let base := [(0, 2, fmt), (2, 10, k.port), (12, 14, k.domain), (26, 32, if v4 then a.1 else 0),
    (58, 32, if v4 then a.2 else 0), (90, 16, l4.1), (106, 16, l4.2), (122, 8, pr), (130, 6, tosOf k / 4), (136, 8, tcp),
    (144, 8, k.prv.flags)]
  let ai := ipAddrs k.prv k.bytes 6
  let v4i := ipVer k.prv k.bytes 6 = 4
  let l4i := l4Ports k.prv k.bytes 7
  match fmt with
  | 1 => (160, pack base)
  | 2 => (320, pack (base ++ [(160, 24, (tunVni k.prv k.bytes).getD 0), (184, 32, if v4i then ai.1 else 0),
      (216, 32, if v4i then ai.2 else 0), (248, 16, l4i.1), (264, 16, l4i.2), (280, 8, ipProto k.prv k.bytes 6)]))
  | _ => (640, pack [(0, 2, 3), (2, 10, k.port), (12, 14, k.domain), (26, 128, if v6 then a.1 else 0),
      (154, 128, if v6 then a.2 else 0), (282, 16, l4.1), (298, 16, l4.2), (314, 8, pr), (322, 8, tosOf k),
      (330, 20, if v6 then layerBe k.prv k.bytes 2 0 4 % 2 ^ 20 else 0), (350, 8, tcp), (358, 8, k.prv.flags),
      (366, 48, layerBe k.prv k.bytes 1 0 6), (414, 48, layerBe k.prv k.bytes 1 6 6), (462, 16, etherType k.prv k.bytes)])

/-- The width of a TCAM entry in bits. -/
def tcamWidth (image : Nat) : Nat := 160 * 2 ^ (bits image 3 2)
/-- A TCAM record as the device holds it: the mask bits of TFMT are 1 (06 R177). -/
def forceTfmt (image : Nat) : Nat := image ||| (3 <<< (128 + tcamWidth image))
/-- The key and the mask of a TCAM entry. -/
def tcamKeyMask (image : Nat) : Nat × Nat :=
  let w := tcamWidth image
  (bits image 128 w, bits image (128 + w) w)

/-- EXACT lookup by width in units and key. -/
def Dev.exactFind (d : Dev) (k : Look) (units key : Nat) : Option (Nat × TabEnt) :=
  d.findEnt k tExact (fun e => decide (entUnits tExact e.image.toNat = units ∧ bits e.image.toNat 128 (128 * units) = key))
/-- TCAM lookup: among the entries of the key's width that match, the lowest index. -/
def Dev.tcamFind (d : Dev) (k : Look) (width key : Nat) : Option (Nat × TabEnt) :=
  d.findEnt k tTcam (fun e =>
    let km := tcamKeyMask e.image.toNat
    decide (tcamWidth e.image.toNat = width ∧ key &&& km.2 = km.1 &&& km.2))
/-- HOST_ROUTE lookup. -/
def Dev.hostFind (d : Dev) (k : Look) (v6 : Bool) (vrf addr : Nat) : Option (Nat × TabEnt) :=
  d.findEnt k tHost (fun e => decide (e.f 16 0 1 = b2n v6 ∧ e.f 16 1 14 = vrf ∧ e.f 16 16 128 = addr))

/-- The longer prefix of two hits. -/
def longer (t : Nat) (a b : Option (Nat × TabEnt)) : Option (Nat × TabEnt) :=
  let len (e : TabEnt) : Nat := if t = tLpm4 then e.f 16 0 6 else e.f 16 0 8
  match a, b with
  | some x, some y => if len x.2 < len y.2 then some y else some x
  | none, y => y
  | x, none => x

/-- LPM lookup: the longest prefix of the VRF that holds the address. -/
def Dev.lpmFind (d : Dev) (k : Look) (v6 : Bool) (vrf addr : Nat) : Option (Nat × TabEnt) :=
  let t := if v6 then tLpm6 else tLpm4
  (d.tabList t).foldl (fun best x =>
    let e := x.2
    let hit := if v6 then
        decide (e.f 16 8 14 = vrf ∧ addr >>> (128 - e.f 16 0 8) = e.f 16 64 128 >>> (128 - e.f 16 0 8))
      else decide (e.f 16 6 14 = vrf ∧ addr >>> (32 - e.f 16 0 6) = e.f 16 32 32 >>> (32 - e.f 16 0 6))
    if hit && e.serves k.p k.slot k.quad && !k.broken.contains (t, x.1) then longer t best (some x) else best) none

/-! ### The MAC table as lookups see it (07 R203) -/

def Dev.quad (d : Dev) (q : Nat) : LrnQuad := tget d.lrn.quads {} q
def Dev.modQuad (d : Dev) (q : Nat) (f : LrnQuad → LrnQuad) : Dev :=
  { d with lrn := { d.lrn with quads := tmod d.lrn.quads {} q f } }
/-- The stash entries. -/
def stashIdx : List Nat := (List.range 64).map (· + 524288)
/-- An index of the stash. -/
def inStash (i : Nat) : Bool := decide (524288 ≤ i)
/-- CNT_STASH_USE and FS_LRN_STASH_FULL follow the stash (07 Table 7-5, R231). -/
def Dev.stashRefresh (d : Dev) (q : Nat) : Dev :=
  let n := ((d.quad q).ents.filter (fun x => inStash x.1)).length
  (d.setCtr .stashUse q n).live (0x922 + 64 * q) (decide (64 ≤ n))

/-- The entry or placeholder of a key in copy `q`, with its index. -/
def Dev.macFind (d : Dev) (q p domain mac : Nat) : Option (Nat × MacEnt) :=
  (d.quad q).ents.findSome? (fun x =>
    match x.2 with
    | some e => if e.mac = mac ∧ e.domain = domain ∧ e.polder = p then some (x.1, e) else none
    | none => none)
/-- The valid entry of a key in copy `q`. -/
def Dev.macLook (d : Dev) (k : Look) (domain mac : Nat) : Option (Nat × MacEnt) :=
  match d.macFind k.quad k.p domain mac with
  | some (i, e) => if e.valid && !k.broken.contains (tMac, i) then some (i, e) else none
  | none => none

/-! ### The symmetric hash (06 R190, R191) -/

/-- The 40-byte input: addresses and ports in order, PROTO, and the tenant. -/
def hashInput (a b pa pb proto tenant : Nat) : List Byte :=
  leBytes 16 (min a b) ++ leBytes 16 (max a b) ++ leBytes 2 (min pa pb) ++ leBytes 2 (max pa pb) ++ leBytes 1 proto ++
    leBytes 3 tenant

/-- The packet is a fragment of a datagram of the IP layer: a first IPv4 fragment (FLAGS bit 0), a non-first fragment
(FLAGS bit 1), or an IPv6 packet with a fragment header, ID 0x09 (05 Table 5-9, R166). -/
def isFragment (v : Prv) (bytes : List Byte) (l3 : Nat) : Bool :=
  v.flags.testBit 0 || v.flags.testBit 1 || decide (ipVer v bytes l3 = 6) &&
    ((v.insts.drop (v.layers.getD (l3 - 1) 31 + 1)).takeWhile (fun i => decide (7 ≤ i.hdr ∧ i.hdr ≤ 11))).any
      (fun i => decide (i.hdr = 9))

/-- The input of a packet's hash; a fragment of a datagram, and a packet without TCP or UDP, hashes with zero
ports (06 R190). -/
def flowInput (v : Prv) (bytes : List Byte) (inner : Bool) (tenant : Nat) : List Byte :=
  let useIn := inner && decide (ipVer v bytes 6 ≠ 0)
  let l3 := if useIn then 6 else 2
  if ipVer v bytes l3 = 0 then hashInput (macDa bytes) (macSa bytes) 0 0 0 tenant
  else
    let a := ipAddrs v bytes l3
    let pr := ipProto v bytes l3
    let p := if isFragment v bytes l3 || !(decide (pr = 6 ∨ pr = 17)) then (0, 0) else l4Ports v bytes (l3 + 1)
    hashInput a.1 a.2 p.1 p.2 pr tenant

/-- The flow hash. -/
def flowHash (seed : Nat) (input : List Byte) : Nat := crc32c (leBytes 4 seed ++ input)

/-- A 32-bit number with its bits reversed. -/
def rev32 (n : Nat) : Nat := (List.range 32).foldl (fun r i => if n.testBit i then r + 2 ^ (31 - i) else r) 0

/-- ECMP member of a group of `n`. -/
def ecmpPick (hash n : Nat) : Nat := hash * n / 2 ^ 32
/-- Position in a LAG of `n`. -/
def lagPick (hash n : Nat) : Nat := rev32 hash * n / 2 ^ 32

/-- MEMBER[i] of a LAG record. -/
def lagMember (e : TabEnt) (i : Nat) : Nat := e.f (16 + 2 * i) 0 10
/-- The members of a LAG. -/
def lagMembers (e : TabEnt) : List Nat := (List.range (e.f 1 0 7)).map (lagMember e)

/-- The member that a hash selects, replaced under FAILOVER when its port counts as down (06 R191). -/
def Dev.lagSelect (d : Dev) (e : TabEnt) (hash : Nat) : Option Nat :=
  let n := e.f 1 0 7
  if n = 0 then none
  else
    let i := lagPick hash n
    if e.f 0 3 1 = 0 then some (lagMember e i)
    else ((List.range n).map (fun k => lagMember e ((i + k) % n))).find? (fun p => !d.countsDown p)

/-- The valid LAGs of a polder that list a port, lowest group first. -/
def Dev.lagsOf (d : Dev) (k : Look) : List (Nat × TabEnt) :=
  (d.tabList tLag).filter (fun x => x.2.serves k.p k.slot k.quad)

end Sys2Proof.Machine
end

