-- ==== Sys2Proof/Machine/Weirs.lean ====
section
/-! DEFINITION. Weirs and tenants as resolve uses them, and the weir rows (13 R403, R417-R420). -/
namespace Sys2Proof.Machine

/-! ### Tenants (13 R403) -/

/-- The tenant of a packet: the most specific hit among the rules of its polder. -/
def Dev.tenantOf (d : Dev) (p port : Nat) (vid vni vrf : Option Nat) : Option Nat :=
  let hit (kind : Nat) (key : Option Nat) : Option Nat :=
    key.bind (fun k => (d.mrp.rules.find? (fun r => decide (r.1 = p ∧ r.2.1 = kind ∧ r.2.2.1 = k))).map (fun r => r.2.2.2))
  ((hit 2 vni).or (hit 3 vrf)).or ((hit 1 (vid.map (fun v => port + v * 1024))).or (hit 0 (some port)))

/-! ### Buckets (13 R417, R419) -/

/-- One byte in units of a bucket. -/
def unitsPerByte : Int := 200000

def Dev.weir (d : Dev) (w : Nat) : Option Weir := tget d.mrp.weirs none w
def Dev.modWeir (d : Dev) (w : Nat) (f : Weir → Weir) : Dev :=
  { d with mrp := { d.mrp with weirs := tmod d.mrp.weirs none w (fun x => x.map f) } }

/-- The home meter refills its buckets: RATE for each AON tick since the last refill, capped at the bursts
(13 R417). A rate of 1 kb/s brings one unit in each tick. -/
def Weir.refill (x : Weir) (now : Nat) : Weir :=
  let n := now - x.last
  { x with
    c := min (x.c + x.cfg.cir * n) (x.cfg.cbs * unitsPerByte)
    p := min (x.p + x.cfg.pir * n) (x.cfg.pbs * unitsPerByte)
    last := now }

/-- Colours (13 R417). -/
inductive Colour where
  | green | yellow | red
  deriving DecidableEq, Repr

/-- RFC 2698 on a pair of buckets: the colour and the buckets after a packet of `n` units. A red packet that
HOLD admits goes to the debt of the peak bucket, which is what the hold then waits for (13 R418). -/
def meter2698 (c p n : Int) (aware yellowIn hold : Bool) : Colour × Int × Int :=
  if p < n then (.red, c, if hold then p - n else p)
  else if (aware && yellowIn) || decide (c < n) then (.yellow, c, p - n)
  else (.green, c - n, p - n)

/-- Weir `w` colours a packet of `bytes` in quadrant `q`: the home quadrant draws on the buckets, a satellite on
its grant (13 R419). -/
def Dev.weirColour (d : Dev) (w q bytes : Nat) (dei : Bool) : Colour × Dev :=
  match d.weir w with
  | none => (.green, d)
  | some x =>
    if x.fresh then (.green, d) else
    let n : Int := bytes * unitsPerByte
    let (col, d) :=
      if w / 65536 = q then
        let x := x.refill d.bal.tick
        let (col, c, p) := meter2698 x.c x.p n x.cfg.aware dei (decide (x.cfg.red = 2))
        (col, d.modWeir w (fun _ => { x with c := c, p := p }))
      else
        let g := tget x.grants (0, 0) q
        let (col, c, p) := meter2698 g.1 g.2 n x.cfg.aware dei (decide (x.cfg.red = 2))
        let s := tget x.spent (0, 0) q
        (col, d.modWeir w (fun x =>
          { x with
            grants := tset x.grants (0, 0) q (c, p)
            asked := (if x.cfg.aware && dei then [2 * q + 1] else [2 * q, 2 * q + 1]).filter (fun k => !x.asked.contains k) ++ x.asked
            spent := tset x.spent (0, 0) q
              (s.1 + (if col = .green then bytes else 0), s.2 + (if col = .red then 0 else bytes)) }))
    let k := match col with
      | .green => Ctr.weirGreen
      | .yellow => Ctr.weirYellow
      | .red => Ctr.weirRed
    (col, (d.bump k (2 * w) bytes).bump k (2 * w + 1))

/-- A satellite's request for a bucket: what it spent in the last interval plus one eighth, at least 1,024 B with
demand, which is a packet that the bucket was to colour (13 R419). -/
def weirRequest (demand : Bool) (spent : Nat) : Nat := if demand then max 1024 (spent + spent / 8) else 0

/-- One weir's exchange at tick `now`: tokens come back, new values set before this tick apply with buckets capped, the home meter
refills and grants the requests in round robin (13 R419, R420). -/
def Weir.exchange (x : Weir) (home now : Nat) : Weir :=
  let sats := (List.range 4).filter (· ≠ home)
  let backC := sats.foldl (fun n q => n + (tget x.grants (0, 0) q).1) 0
  let backP := sats.foldl (fun n q => n + (tget x.grants (0, 0) q).2) 0
  let x := ({ x with c := x.c + backC, p := x.p + backP, grants := [] }).refill now
  let due := if x.setTick < now then x.next else none
  let x := if x.fresh then
      match due with
      | some c => { x with fresh := false, c := c.cbs * unitsPerByte, p := c.pbs * unitsPerByte }
      | none => x
    else x
  let x := match due with
    | some c => { x with cfg := c, next := none, c := min x.c (c.cbs * unitsPerByte), p := min x.p (c.pbs * unitsPerByte) }
    | none => x
  let order := (List.range 3).filterMap (fun i => sats[(x.rr + i) % 3]?)
  let x := order.foldl (fun (x : Weir) q =>
    let s := tget x.spent (0, 0) q
    let gc := max 0 (min x.c (weirRequest (x.asked.contains (2 * q)) s.1 * unitsPerByte))
    let gp := max 0 (min x.p (weirRequest (x.asked.contains (2 * q + 1)) s.2 * unitsPerByte))
    { x with
      c := x.c - gc, p := x.p - gp, grants := tset x.grants (0, 0) q (gc, gp)
      granted := x.granted + (gp / unitsPerByte).toNat }) { x with granted := 0 }
  { x with spent := [], asked := [], rr := (x.rr + 1) % 3 }

/-- WEIR_EXCHANGE: every 100 AON ticks, for every weir at once (13 R419). -/
def doWeirExchange (d : Dev) : Dev :=
  let d := d.reach (d.mrp.lastExchange + 100)
  { d with mrp := { d.mrp with
      lastExchange := d.bal.tick
      weirs := d.mrp.weirs.map (fun w => (w.1, w.2.map (fun x => x.exchange (w.1 / 65536) d.bal.tick))) } }

/-- A weir holds XOFF on a port and class (13 R418). -/
def Dev.weirHolds (d : Dev) (port cls : Nat) : Bool :=
  d.mrp.weirs.any (fun w => match w.2 with
    | some x => x.holds.any (fun h => decide (h.1 = 8 * port + cls))
    | none => false)

/-- A red packet of a HOLD weir holds its ingress port and class (13 R418). -/
def Dev.weirHold (d : Dev) (w port cls : Nat) : Dev :=
  d.modWeir w (fun x =>
    { x with holds := if x.holds.any (fun h => decide (h.1 = 8 * port + cls)) then x.holds
        else x.holds ++ [(8 * port + cls, d.bal.tick)] })

/-- WEIR_HOLD_RELEASE: the peak bucket is no longer negative and the hold has lasted 1 µs (13 R418). -/
def doWeirHoldRelease (weir port cls : Nat) (d : Dev) : Dev :=
  match (d.weir weir).bind (fun x => x.holds.find? (fun h => decide (h.1 = 8 * port + cls))) with
  | none => d
  | some h =>
    let d := d.reach (h.2 + usTicks 1)
    let d := d.modWeir weir (fun x => x.refill d.bal.tick)
    match d.weir weir with
    | some x => if x.p < 0 ∨ x.grants.any (fun g => decide (g.2.2 < 0)) then d else d.modWeir weir (fun x => { x with holds := x.holds.filter (fun g => decide (g.1 ≠ 8 * port + cls)) })
    | none => d

/-! ### Meanings -/

/-- WEIR_EXCHANGE (R419). -/
def execWeirExchange (s : State) : Host.Outcome State Fault Refusal :=
  .next { s with dev := doWeirExchange s.dev }

/-- WEIR_HOLD_RELEASE (R418). -/
def execWeirHoldRelease (weir : Nat) (port : Nat) (cls : Nat) (s : State) : Host.Outcome State Fault Refusal :=
  .next { s with dev := doWeirHoldRelease weir port cls s.dev }

end Sys2Proof.Machine
end

