-- ==== Sys2Proof/Machine/Pause.lean ====
section
/-! DEFINITION. The Flow-Control Unit: XOFF bits, pause frames sent and received, the pause watchdog, and the
commands on accounts and flow control (10 R307-R328). -/
namespace Sys2Proof.Machine

/-! ### Which queues are paused (10 R311) -/

/-- Received pauses of class `c` run on a port; class 8 stands for a PAUSE frame's pause of every queue. -/
def Fcp.running (x : Fcp) (c : Nat) : Bool := x.timers.any (fun t => decide (t.1 = c))

/-- Classes that hold queue `q` of a port: unicast 0-15, multicast 16-19. -/
def Fcp.holders (x : Fcp) (q : Nat) : List Nat :=
  (List.range 8).filter (fun c =>
    (x.running c || x.running 8) &&
      (x.running 8 || if q < 16 then (x.qmap.getD c 0).testBit q else decide (c / 2 = q - 16)))
/-- A queue is paused by received PFC or PAUSE. -/
def Fcp.paused (x : Fcp) (q : Nat) : Bool := !(x.holders q).isEmpty

/-- The queues of a port: 0-15 unicast, 16-19 multicast. -/
def portQs : List Nat := List.range 20

/-- FS_PORT_PAUSE: live while a queue is in storm, or within 1 ms of a headroom overrun (10 R320). -/
def Dev.pauseSource (d : Dev) (p : Nat) : Dev :=
  let x := d.fcp p
  if !x.storm.isEmpty then d.setLive (0x300 + p)
  else match x.lastOverrun with
    | some t => if d.bal.tick < t + msTicks 1 then d.liveFor (0x300 + p) (t + msTicks 1 - d.bal.tick) else d.clearLive (0x300 + p)
    | none => d.clearLive (0x300 + p)

/-- The watchdog's view after a change of a port's pauses: counts start and end, storms end (10 R318). -/
def Dev.watch (d : Dev) (p : Nat) : Dev :=
  let d := d.modFcp p (fun x =>
    { x with
      pausedSince := portQs.foldl (fun t q =>
        if x.paused q then (if (tget t none q).isSome then t else tset t none q (some d.bal.tick)) else tset t none q none)
        x.pausedSince
      storm := x.storm.filter x.paused })
  d.pauseSource p

/-- EV_PAUSE_STORM, EV_PAUSE_BREAK and EV_PAUSE_RESTORED (16 Table 16-7). -/
def Dev.pauseEvent (d : Dev) (code p q : Nat) (classes : List Nat) (src : Option Nat) : Dev :=
  d.record code (d.attribution (0x300 + p)) src
    (dat [(0, 2, p), (2, 2, if q < 16 then 16 * p + q else 32768 + 4 * p + (q - 16)), (4, 1, classes.foldl (fun m c => m ||| 2 ^ c) 0)])

/-! ### Frames -/

/-- Bytes of a frame with its frame check sequence. -/
def withFcs (bs : List Byte) : List Byte := bs ++ leBytes 4 (crc32 bs)

/-- The PFC or PAUSE frame of a port: classes named, classes with time PAUSE_QUANTA (10 R308). -/
def Fcp.frame (x : Fcp) (named on : Nat) : List Byte :=
  let head := beBytes 6 0x0180C2000001 ++ beBytes 6 x.sa ++ beBytes 2 0x8808
  let t (c : Nat) : List Byte := beBytes 2 (if on.testBit c then x.quanta else 0)
  let body := if x.pauseMode then beBytes 2 0x0001 ++ t 0
    else beBytes 2 0x0101 ++ beBytes 2 (named % 256) ++ ((List.range 8).map t).flatten
  let bs := head ++ body
  withFcs (bs ++ List.replicate (60 - bs.length) 0)

/-- AON ticks in `n` quanta of 512 bit times at a rate in Gb/s (10 R309). -/
def quantaTicks (n rate : Nat) : Nat := cdiv (n * 512) (40 * max 1 rate)

/-- A pause frame leaves a port: the classes it names are counted, and the refresh interval starts (10 R309). -/
def Dev.sendPause (d : Dev) (p named on : Nat) : Dev :=
  let x := d.fcp p
  let d := (setBits (if x.pauseMode then 1 else named) 8).foldl (fun d c => d.bump .pfcTx (8 * p + c)) d
  (d.modFcp p (fun y =>
    { y with sent := on, owed := false, nextRefresh := d.bal.tick + quantaTicks (x.quanta / 2) (d.macRate p) })).wireOut p
    (x.frame named on)

/-- A change of MODE first sends XON for every class in XOFF (10 R328); a port that is not UP sends nothing. -/
def Dev.xonAll (d : Dev) (p : Nat) : Dev :=
  let named := (d.fcp p).xoff ||| (d.fcp p).sent
  if named = 0 then d
  else if (d.port p).st = .up then d.sendPause p named 0
  else d.modFcp p (fun y => { y with sent := 0 })

/-- The state that class `c` of a port must show: its account's, or pause-all's, or a weir's hold (10 R307, R312,
13 R418). -/
def Dev.wantXoff (d : Dev) (p c : Nat) : Bool :=
  (d.fcp p).pauseAll || (d.acct p).closed.testBit c || d.weirHolds p c

/-! ### Rows -/

/-- HOLD_BUS_NOTICE: the XOFF bit of a class takes its state; a change owes a frame (10 R307, R309). -/
def doHoldBusNotice (port cls : Nat) (d : Dev) : Dev :=
  if !d.isPort port ∨ 8 ≤ cls then d
  else
    let want := d.wantXoff port cls
    if (d.fcp port).xoff.testBit cls = want then d
    else (d.modFcp port (fun x =>
      { x with xoff := if want then x.xoff + 2 ^ cls else x.xoff - 2 ^ cls, owed := true })).touch (port / 32)

/-- PFC_FRAME_SEND: a frame owed goes out of a port that is UP: classes entering or staying in XOFF, and those leaving it with time 0
(10 R308, R309). -/
def doPfcFrameSend (port : Nat) (d : Dev) : Dev :=
  let x := d.fcp port
  if d.isPort port && x.owed && decide ((d.port port).st = .up) then d.sendPause port (x.xoff ||| x.sent) x.xoff else d

/-- PFC_REFRESH: the interval has passed while a class is in XOFF: the frame is repeated with every class in XOFF, and takes with it
the change that waits (10 R309). -/
def doPfcRefresh (port : Nat) (d : Dev) : Dev :=
  let x := d.fcp port
  if d.isPort port && decide (x.sent ≠ 0 ∧ x.xoff ≠ 0 ∧ (d.port port).st = .up) then
    (d.reach x.nextRefresh).sendPause port (x.xoff ||| x.sent) x.xoff
  else d

/-- Classes whose received pauses a port ignores during breaks (10 R319). -/
def Fcp.ignored (x : Fcp) (c : Nat) : Bool :=
  x.breaks.any (fun b => c = 8 || if b.1 < 16 then (x.qmap.getD c 0).testBit b.1 else decide (c / 2 = b.1 - 16))

/-- Loads or ends the pause timer of a class. -/
def Fcp.load (x : Fcp) (c now ticks : Nat) : Fcp :=
  let rest := x.timers.filter (fun t => decide (t.1 ≠ c))
  { x with timers := if ticks = 0 then rest else rest ++ [(c, now + ticks)] }

/-- A received MAC Control frame is counted in CNT_PFC_RX of each class that it names; one that names none counts at class 0
(10 R311, R331; DESIGN CHOICE, log entry 145). -/
def Dev.countMacControl (d : Dev) (port : Nat) (named : List Nat) : Dev :=
  (if named.isEmpty then [0] else named).foldl (fun d c => d.bump .pfcRx (8 * port + c)) d

/-- PFC_FRAME_RECEIVE: a received PFC frame (10 R311). -/
def doPfcFrameReceive (port vector : Nat) (times : List Nat) (d : Dev) : Dev :=
  if !d.isPort port then d
  else
    let d := d.countMacControl port (setBits vector 8)
    if (d.fcp port).pauseMode then d.bump .pauseRxIgnored port
    else
      let ig := (setBits vector 8).filter (d.fcp port).ignored
      let d := if ig.isEmpty then d else d.bump .pauseRxIgnored port
      (d.modFcp port (fun x => ((setBits vector 8).filter (fun c => !ig.contains c)).foldl
        (fun x c => x.load c d.bal.tick (quantaTicks (times.getD c 0) (d.macRate port))) x)).watch port

/-- PAUSE_FRAME_RECEIVE: a received PAUSE frame (10 R311). -/
def doPauseFrameReceive (port time : Nat) (d : Dev) : Dev :=
  if !d.isPort port then d
  else
    let d := d.countMacControl port []
    if !(d.fcp port).pauseMode || (d.fcp port).ignored 8 then d.bump .pauseRxIgnored port
    else (d.modFcp port (fun x => x.load 8 d.bal.tick (quantaTicks time (d.macRate port)))).watch port

/-- MAC_CONTROL_RECEIVE: a MAC Control frame with any other opcode (10 R311). -/
def doMacControlReceive (port opcode : Nat) (d : Dev) : Dev :=
  if d.isPort port && decide (opcode ≠ 0x0101 ∧ opcode ≠ 0x0001) then (d.countMacControl port []).bump .drMacControl port else d

/-- PAUSE_TIMER_EXPIRY: the timer of a class (8: a PAUSE frame's) runs out (10 R311). -/
def doPauseTimerExpiry (port cls : Nat) (d : Dev) : Dev :=
  match (d.fcp port).timers.find? (fun t => decide (t.1 = cls)) with
  | some t => (((d.reach t.2).modFcp port (fun x => { x with timers := x.timers.filter (fun u => decide (u.1 ≠ cls)) })).touch (port / 32)).watch port
  | none => d

/-- PAUSE_STORM: a queue has been paused for STORM_MS without a break (10 R318, R319). -/
def doPauseStorm (port queue : Nat) (d : Dev) : Dev :=
  match tget (d.fcp port).pausedSince none queue with
  | none => d
  | some since =>
    if (d.fcp port).storm.contains queue then d
    else
      let d := d.reach (since + msTicks (d.fcp port).stormMs)
      let x := d.fcp port
      let cl := x.holders queue
      let d := (d.modFcp port (fun x => { x with storm := x.storm ++ [queue] })).pauseSource port
      let d := d.pauseEvent Ev.pauseStorm port queue cl (some (0x300 + port))
      if !x.stormBreak then d
      else
        let d := d.modFcp port (fun x =>
          let x := { x with breaks := x.breaks ++ [(queue, d.bal.tick + msTicks x.recoverMs)] }
          { x with timers := x.timers.filter (fun t => !x.ignored t.1) })
        (d.watch port).pauseEvent Ev.pauseBreak port queue cl none

/-- PAUSE_BREAK_END: RECOVER_MS has passed and received pauses are honoured again (10 R319). -/
def doPauseBreakEnd (port queue : Nat) (d : Dev) : Dev :=
  match (d.fcp port).breaks.find? (fun b => decide (b.1 = queue)) with
  | some b =>
    let d := (d.reach b.2).modFcp port (fun x => { x with breaks := x.breaks.erase b })
    (d.watch port).pauseEvent Ev.pauseRestored port queue ((d.fcp port).holders queue) none
  | none => d

/-! ### Commands on accounts (10 R324-R327) -/

/-- Σ MIN plus Σ HR over the port accounts of a polder (03 R92). -/
def Dev.polderReserved (d : Dev) (p : Nat) : Nat :=
  d.bpm.accts.foldl (fun n x => if x.1 < 512 ∧ d.lanePolder x.1 = some p then n + x.2.min + sumN x.2.hr else n) 0
/-- Σ MIN over the internal accounts. -/
def Dev.internalMin (d : Dev) : Nat :=
  d.bpm.accts.foldl (fun n x => if 512 ≤ x.1 then n + x.2.min - (acctReset x.1).min else n) 65536
/-- Σ CELL_MIN over the defined polders. -/
def Dev.cellMins (d : Dev) : Nat :=
  (List.range 8).foldl (fun n p => if (d.polder p).st = .undefined then n else n + (d.polder p).cellMin) 0

/-- A new MIN moves the excess of M to SH (10 R325). -/
def Account.setMin (x : Account) (mn : Nat) : Account :=
  (List.range 8).foldl (fun (x : Account) c =>
    let excess := Nat.min (sumN x.m - mn) (x.m.getD c 0)
    { x with m := subAt x.m c excess, sh := addAt x.sh c excess }) { x with min := mn }

/-- The eight nibbles of a dword. -/
def nibbles (n : Nat) : List Nat := (List.range 8).map (fun i => bits n (4 * i) 4)

/-- OP_POOL_SET SET (10 R324, R325). -/
def doOpPoolSetSet (c : CmdRef) (_io : Io) (d : Dev) : Dev :=
  d.step1 c (isOpAct 0x60 (18, 0, 2) 0) fun d x =>
    let a := x.fld 16 0 10
    let mn := x.fld 20 0 21
    if a < 512 ∧ !d.isPort a then d.fail c stNotFound
    else
      let old := (d.acct a).min
      let room := if a < 512 then
          match d.lanePolder a with
          | some p => decide (d.polderReserved p + mn ≤ (d.polder p).cellMin + old)
          | none => true
        else decide (d.internalMin + d.cellMins + mn ≤ 1048576 + old)
      if !room then d.fail c stNoRoom
      else
        let mx := if x.fld 24 0 21 = 0 then 1048576 else x.fld 24 0 21
        let al := nibbles (x.fld 28 0 32)
        let xd := if x.fld 32 0 16 = 0 then 32 else x.fld 32 0 16
        ((d.modAcct a (fun y => { y.setMin mn with max := mx, alpha := al, xonDelta := xd })).judgeAll).ok c

/-- OP_POOL_SET READ (10 R325). -/
def doOpPoolSetRead (c : CmdRef) (_io : Io) (d : Dev) : Dev :=
  d.step1 c (isOpAct 0x60 (18, 0, 2) 1) fun d x =>
    let a := x.fld 16 0 10
    if a < 512 ∧ !d.isPort a then d.fail c stNotFound
    else
      let y := d.acct a
      let ovm := (List.range 8).foldl (fun m i => if 0 < y.ov.getD i 0 then m + 2 ^ i else m) 0
      d.ok c (pack [(0, 21, y.held), (21, 21, sumN y.m), (42, 21, sumN y.sh)])
        (pack [(0, 21, sumN y.hu), (21, 8, y.closed), (29, 8, ovm), (37, 21, d.freeShared)])

/-- OP_POOL_SET RELEASE: one reference through the host injection path (10 R326). -/
def doOpPoolSetRelease (c : CmdRef) (_io : Io) (d : Dev) : Dev :=
  d.step1 c (isOpAct 0x60 (18, 0, 2) 2) fun d x =>
    match d.releaseAs true (partyHost c.ep) (x.fld 36 0 20) (x.fld 16 0 10) with
    | (.done n, d) => d.ok c n
    | (.double, d) => d.fail c stBadOperand (36 + 256 * 0x01)
    | (.foreign, d) => d.fail c stBadOperand (36 + 256 * 0x02)

/-- OP_HEADROOM_SET (10 R327, 11 R346). -/
def doOpHeadroomSet (c : CmdRef) (_io : Io) (d : Dev) : Dev :=
  d.step1 c (isOp 0x61) fun d x =>
    let p := x.fld 16 0 10
    let hr := x.fld 20 0 16
    let cs := setBits (x.fld 18 0 8) 8
    if !d.isPort p then d.fail c stNotFound
    else if hr < 2048 ∧ cs.any (fun k => decide (0 < (d.lrq p k).mib)) then d.badOp c 20
    else
      let y := d.acct p
      let now := cs.foldl (fun n k => n + y.hr.getD k 0) 0
      let room := match d.lanePolder p with
        | some q => decide (d.polderReserved q + cs.length * hr ≤ (d.polder q).cellMin + now)
        | none => true
      if !room then d.fail c stNoRoom
      else
        let d := (d.modAcct p (fun y =>
          { y with
            hr := cs.foldl (fun l k => l.set k (max hr (min (y.hr.getD k 0) (y.hu.getD k 0)))) y.hr
            hrGoal := cs.foldl (fun l k => l.set k hr) y.hrGoal })).judgeAll
        d.ok c (sumN (d.acct p).hr)

/-- OP_PFC_SET (10 R328): a change of MODE first sends XON for every class in XOFF. -/
def doOpPfcSet (c : CmdRef) (_io : Io) (d : Dev) : Dev :=
  d.step1 c (isOp 0x63) fun d x =>
    let p := x.fld 16 0 10
    if !d.isPort p then d.fail c stNotFound
    else
      let md := decide (x.fld 18 0 2 = 1)
      let y := d.fcp p
      let change := decide (md ≠ y.pauseMode)
      let d := if change then d.xonAll p else d
      let pick (v dflt : Nat) : Nat := if v = 0 then dflt else v
      let d := d.modFcp p (fun y =>
        { y with
          pauseMode := md, stormBreak := (x.fld 18 2 1 = 1), defPcp := x.fld 19 0 3, quanta := pick (x.fld 20 0 16) 65535
          stormMs := pick (x.fld 22 0 16) 50, recoverMs := pick (x.fld 24 0 16) 100, ecnCells := x.fld 26 0 16
          prioMap := (List.range 8).map (fun i => x.fld 28 (3 * i) 3), qmap := (List.range 8).map (fun i => x.fld (32 + 2 * i) 0 16)
          sa := x.fld 52 0 48, owed := y.owed || (change && decide (y.xoff ≠ 0)) })
      (d.watch p).ok c

/-! ### Meanings -/

/-- OP_POOL_SET_SET (R325). -/
def execOpPoolSetSet (c : CmdRef) (io : Io) (s : State) : Host.Outcome State Fault Refusal :=
  .next { s with dev := doOpPoolSetSet c io s.dev }

/-- OP_POOL_SET_READ (R325). -/
def execOpPoolSetRead (c : CmdRef) (io : Io) (s : State) : Host.Outcome State Fault Refusal :=
  .next { s with dev := doOpPoolSetRead c io s.dev }

/-- OP_POOL_SET_RELEASE (R326). -/
def execOpPoolSetRelease (c : CmdRef) (io : Io) (s : State) : Host.Outcome State Fault Refusal :=
  .next { s with dev := doOpPoolSetRelease c io s.dev }

/-- OP_HEADROOM_SET (R327). -/
def execOpHeadroomSet (c : CmdRef) (io : Io) (s : State) : Host.Outcome State Fault Refusal :=
  .next { s with dev := doOpHeadroomSet c io s.dev }

/-- OP_PFC_SET (R328). -/
def execOpPfcSet (c : CmdRef) (io : Io) (s : State) : Host.Outcome State Fault Refusal :=
  .next { s with dev := doOpPfcSet c io s.dev }

/-- HOLD_BUS_NOTICE (R307). -/
def execHoldBusNotice (port : Nat) (cls : Nat) (s : State) : Host.Outcome State Fault Refusal :=
  .next { s with dev := doHoldBusNotice port cls s.dev }

/-- PFC_FRAME_SEND (R309). -/
def execPfcFrameSend (port : Nat) (s : State) : Host.Outcome State Fault Refusal :=
  .next { s with dev := doPfcFrameSend port s.dev }

/-- PFC_REFRESH (R309). -/
def execPfcRefresh (port : Nat) (s : State) : Host.Outcome State Fault Refusal :=
  .next { s with dev := doPfcRefresh port s.dev }

/-- PFC_FRAME_RECEIVE (R311). -/
def execPfcFrameReceive (port : Nat) (vector : Nat) (times : List Nat) (s : State) : Host.Outcome State Fault Refusal :=
  .next { s with dev := doPfcFrameReceive port vector times s.dev }

/-- PAUSE_FRAME_RECEIVE (R311). -/
def execPauseFrameReceive (port : Nat) (time : Nat) (s : State) : Host.Outcome State Fault Refusal :=
  .next { s with dev := doPauseFrameReceive port time s.dev }

/-- MAC_CONTROL_RECEIVE (R311). -/
def execMacControlReceive (port : Nat) (opcode : Nat) (s : State) : Host.Outcome State Fault Refusal :=
  .next { s with dev := doMacControlReceive port opcode s.dev }

/-- PAUSE_TIMER_EXPIRY (R311). -/
def execPauseTimerExpiry (port : Nat) (cls : Nat) (s : State) : Host.Outcome State Fault Refusal :=
  .next { s with dev := doPauseTimerExpiry port cls s.dev }

/-- PAUSE_STORM (R318). -/
def execPauseStorm (port : Nat) (queue : Nat) (s : State) : Host.Outcome State Fault Refusal :=
  .next { s with dev := doPauseStorm port queue s.dev }

/-- PAUSE_BREAK_END (R319). -/
def execPauseBreakEnd (port : Nat) (queue : Nat) (s : State) : Host.Outcome State Fault Refusal :=
  .next { s with dev := doPauseBreakEnd port queue s.dev }

end Sys2Proof.Machine
end

