-- ==== Sys2Proof/Machine/Rewrite.lean ====
section
/-! DEFINITION. The Rewrite Engine: action microcode, the fixed steps, mirror copies, and what the MAC adds to
time messages (chapter 8, 13 R398). -/
namespace Sys2Proof.Machine

/-! ### The frame under rewrite (08 R237) -/

/-- A frame under rewrite: the edit region, each byte with the instance that owns it (31: none), the payload
behind it, the instances' starts, the bytes pushed, and the checksum accumulators. -/
structure Rw where
  head : List (Byte × Nat)
  tail : List Byte
  starts : List (Option Nat)
  pushed : Nat := 0
  accs : List Nat := List.replicate 24 0
  deriving DecidableEq, Repr

/-- Why a rewrite ends early: a fault with its cause (16 Table 16-7), or an expired TTL (08 R238, R241). -/
inductive RwStop where
  | fault (cause : Nat)
  | ttl
  deriving DecidableEq, Repr

/-- What a program draws on besides the frame: PARAM bytes and the META values. -/
structure RwIn where
  param : Nat → Byte
  metaOf : Nat → Nat
  layers : List Nat

/-- The instance that owns byte `i` of a frame. -/
def ownerOf (insts : List Inst) (i : Nat) : Nat :=
  (insts.findIdx? (fun x => decide (x.off ≤ i ∧ i < x.off + x.len))).getD 31

/-- A frame as its parse result vector describes it; WINDOW_LEN bytes may be edited. -/
def Rw.init (v : Prv) (bytes : List Byte) : Rw :=
  let w := bytes.take 512
  { head := w.zipIdx.map (fun x => (x.1, ownerOf v.insts x.2))
    tail := bytes.drop 512
    starts := v.insts.map (fun i => some i.off) }

/-- The frame as it stands. -/
def Rw.bytes (s : Rw) : List Byte := s.head.map (fun x => x.1) ++ s.tail

/-- Where an anchor begins: an instance, the instance of a layer, or byte 0; none: absent. -/
def Rw.anchor (s : Rw) (layers : List Nat) (a : Nat) : Option Nat :=
  if a = 31 then some 0
  else if a < 24 then (s.starts[a]?).join
  else (s.starts[layers.getD (a - 24) 31]?).join

/-- `n` bytes at a position, big-endian. -/
def Rw.be (s : Rw) (p n : Nat) : Nat := beNat (((s.head.drop p).take n).map (fun x => x.1))

/-- One byte is written; `acc` tells whether its instance's accumulator takes the difference (08 R239). -/
def Rw.put (s : Rw) (acc : Bool) (p : Nat) (b : Byte) : Rw :=
  match s.head[p]? with
  | none => s
  | some (old, k) =>
    let s1 := { s with head := s.head.set p (b, k) }
    if !acc || b = old then s1
    else match (s.starts[k]?).join with
      | none => s1
      | some st =>
        let w := if (p - st) % 2 = 0 then 256 else 1
        { s1 with accs := s1.accs.set k (fold16 (s1.accs.getD k 0 + 65535 + w * b.toNat - w * old.toNat)) }

/-- Bytes are written from a position on. -/
def Rw.write (s : Rw) (acc : Bool) (p : Nat) (bs : List Byte) : Rw :=
  bs.zipIdx.foldl (fun s x => s.put acc (p + x.2) x.1) s

/-- Bytes are inserted before a position: every instance behind it moves (08 R237). -/
def Rw.insert (s : Rw) (p : Nat) (bs : List Byte) : Rw :=
  { s with
    head := s.head.take p ++ bs.map (fun b => (b, 31)) ++ s.head.drop p
    starts := s.starts.map (fun o => o.map (fun st => if p ≤ st then st + bs.length else st)) }

/-- An instance that has lost every byte is absent. -/
def Rw.absent (before after : List (Byte × Nat)) (k : Nat) : Bool :=
  before.any (fun x => decide (x.2 = k)) && !after.any (fun x => decide (x.2 = k))

/-- Bytes are removed: instances behind them move, an instance removed whole becomes absent (08 R237). -/
def Rw.remove (s : Rw) (p n : Nat) : Rw :=
  let head := s.head.take p ++ s.head.drop (p + n)
  { s with
    head := head
    starts := s.starts.zipIdx.map (fun x => x.1.bind (fun st =>
      if Rw.absent s.head head x.2 then none
      else some (if p + n ≤ st then st - n else if p ≤ st then p else st))) }

/-- Removes every byte that instance `k` owns. -/
def Rw.removeInst (s : Rw) (k : Nat) : Rw :=
  let at_ (st : Nat) : Nat := ((s.head.take st).filter (fun x => decide (x.2 = k))).length
  { s with
    head := s.head.filter (fun x => decide (x.2 ≠ k))
    starts := s.starts.zipIdx.map (fun x => if x.2 = k then none else x.1.map (fun st => st - at_ st)) }

/-- The ones'-complement checksum `old` adjusted by an accumulator (RFC 1624). -/
def adjustSum (old acc : Nat) : Nat := 65535 - fold16 (65535 - old + acc)

/-! ### Microcode (08 R235-R239, R241) -/

/-- Executes one operation slot. -/
def Rw.slot (s : Rw) (x : RwIn) (sl : Nat) : Except RwStop Rw :=
  let op := bits sl 0 4
  let a := bits sl 4 5
  let off := bits sl 10 9
  let shift := bits sl 19 3
  let width := bits sl 22 7
  let src := bits sl 29 2
  let sel := bits sl 31 7
  let imm := bits sl 38 64
  if 9 ≤ op ∨ src = 3 then .error (.fault 5)
  else if op = 0 then .ok s
  else match s.anchor x.layers a with
  | none => if sl.testBit 9 then .ok s else .error (.fault 4)
  | some st =>
    let p := st + off
    let inside (n : Nat) : Bool := decide (p + n ≤ s.head.length)
    match op with
    | 1 =>
      if src ≠ 1 then .error (.fault 5)
      else if width = 0 ∨ 112 < width then .error (.fault 6)
      else if 112 < sel + width then .error (.fault 3)
      else if 128 < s.pushed + width then .error (.fault 2)
      else if !inside 0 then .error (.fault 1)
      else .ok { (s.insert p ((List.range width).map (fun i => x.param (sel + i)))) with pushed := s.pushed + width }
    | 2 =>
      if width = 0 then
        let k := if a < 24 then a else x.layers.getD (a - 24) 31
        if off ≠ 0 ∨ a = 31 then .error (.fault 6) else .ok (s.removeInst k)
      else if !inside width then .error (.fault 1)
      else .ok (s.remove p width)
    | 5 =>
      if !inside 1 then .error (.fault 1)
      else if s.be p 1 < 2 then .error .ttl
      else .ok (s.write true p [BitVec.ofNat 8 (s.be p 1 - 1)])
    | 6 =>
      if !inside 2 then .error (.fault 1)
      else .ok (s.write true p (beBytes 2 (unsigned 16 ((s.head.length + s.tail.length - st : Nat) + signed 16 imm))))
    | 7 =>
      if !inside 2 then .error (.fault 1)
      else
        let old := s.be p 2
        let acc := (setBits imm 24).foldl (fun n k => fold16 (n + s.accs.getD k 0)) 0
        let new := adjustSum old acc
        if imm.testBit 24 && decide (old = 0) then .ok s
        else .ok (s.write false p (beBytes 2 (if imm.testBit 24 && decide (new = 0) then 0xFFFF else new)))
    | 8 =>
      if width < 20 ∨ 60 < width then .error (.fault 6)
      else if !inside width then .error (.fault 1)
      else
        let s0 := s.write false (p + 10) [0, 0]
        let sum := fold16 (onesSum (((s0.head.drop p).take width).map (fun y => y.1)) 0)
        .ok (s0.write false (p + 10) (beBytes 2 (65535 - sum)))
    | _ =>
      if width = 0 ∨ 64 < width then .error (.fault 6)
      else if src = 2 ∧ 11 ≤ sel then .error (.fault 5)
      else
        let n := cdiv (shift + width) 8
        if !inside n then .error (.fault 1)
        else
          let v := match src with
            | 0 => imm
            | 1 => beNat ((List.range (cdiv width 8)).map (fun i => x.param (sel + i)))
            | _ => x.metaOf sel
          let old := s.be p n
          let lsb := 8 * n - shift - width
          let new := if op = 3 then v else bits old lsb width + v
          .ok (s.write true p (beBytes n (putBits old lsb width new)))

/-- Executes the four slots of a word in order; a stop names the slot. -/
def Rw.word (s : Rw) (x : RwIn) (w : Nat) : Except (Nat × RwStop) Rw :=
  (List.range 4).foldl (fun r i => r.bind (fun s =>
    match s.slot x (bits w (112 * i) 112) with
    | .ok s => .ok s
    | .error e => .error (i, e))) (.ok s)

/-- Where and why a pass stopped: REWRITE_PARAM index, word within the program, slot. -/
structure RwAt where
  index : Nat
  word : Nat
  slot : Nat
  stop : RwStop
  deriving DecidableEq, Repr

/-- Executes a program of `words` words from `first` on, with `budget` stages left (08 R232). -/
def Rw.program (s : Rw) (x : RwIn) (store : Nat → Nat) (index first words budget : Nat) : Except RwAt Rw :=
  (List.range words).foldl (fun r j => r.bind (fun s =>
    if budget ≤ j then .error { index := index, word := j, slot := 0, stop := .fault 7 }
    else match s.word x (store (first + j)) with
      | .ok s => .ok s
      | .error e => .error { index := index, word := j, slot := e.1, stop := e.2 })) (.ok s)

/-! ### The fixed steps (08 R240, 10 R313) -/

/-- The VLAN tags at byte 12, at most two, are removed. -/
def Rw.untag (s : Rw) : Rw :=
  s.remove 12 (4 * (vlanTags s.bytes).length)

/-- Egress tagging by a domain entry; `prio` is the internal priority. -/
def Rw.tag (s : Rw) (mode cvid svid prio : Nat) : Rw :=
  let t (tpid vid : Nat) : List Byte := beBytes 2 tpid ++ beBytes 2 (prio * 8192 + vid)
  match mode with
  | 0 => s.untag
  | 1 => s.untag.insert 12 (t 0x8100 cvid)
  | 2 => s.untag.insert 12 (t 0x88A8 svid ++ t 0x8100 cvid)
  | _ => s

/-- CE is set in the outer IP header, the IPv4 checksum adjusted. -/
def Rw.mark (s : Rw) (layers : List Nat) : Rw :=
  match s.anchor layers 25 with
  | none => s
  | some p =>
    let v := s.be p 1 / 16
    let old := s.be (p + 1) 1
    if v = 4 then
      let s := s.write false (p + 1) [BitVec.ofNat 8 (old ||| 3)]
      s.write false (p + 10) (beBytes 2 (adjustSum (s.be (p + 10) 2) (fold16 (65535 - old + (old ||| 3)))))
    else if v = 6 then s.write false (p + 1) [BitVec.ofNat 8 (old ||| 0x30)]
    else s

/-! ### Time messages (13 R398) -/

/-- Start of the time message and of the UDP header before it, in the frame as it stands. -/
def Rw.ptp (s : Rw) (v : Prv) : Option (Nat × Option Nat) :=
  match v.insts.findIdx? (fun i => decide (i.hdr = 0x11)) with
  | none => none
  | some k =>
    let udp := ((List.range k).reverse.find? (fun j => decide ((v.insts.getD j { hdr := 0, off := 0, len := 0 }).hdr = 0x0C))).bind
      (fun j => (s.starts[j]?).join)
    ((s.starts[k]?).join).map (fun p => (p, udp))

/-- Replaces bytes of a frame, and adjusts the UDP checksum at `udp` where it is not 0. -/
def patch (bs : List Byte) (p : Nat) (new : List Byte) (udp : Option Nat) : List Byte :=
  let old := (bs.drop p).take new.length
  let out := bs.take p ++ new ++ bs.drop (p + new.length)
  match udp with
  | none => out
  | some u =>
    let sum := beNat ((bs.drop (u + 6)).take 2)
    if sum = 0 then out
    else
      let delta := ((old.zip new).zipIdx.foldl (fun n x =>
        let w := if (p + x.2 - u) % 2 = 0 then 256 else 1
        fold16 (n + 65535 + w * x.1.2.toNat - w * x.1.1.toNat)) 0)
      let s := adjustSum sum delta
      out.take (u + 6) ++ beBytes 2 (if s = 0 then 0xFFFF else s) ++ out.drop (u + 8)

/-! ### A packet's pass through the engine (08 R232, R243, R249) -/

/-- What a pass gives. -/
inductive RwOut where
  | frame (bytes : List Byte) (ptp : Option (Nat × Option Nat))
  | invalid
  | parity (index : Nat)
  | fault (at_ : RwAt)
  | expired
  | trap (queue : Nat)

/-- The words of pipeline `p`'s action store. -/
def Dev.actionWord (d : Dev) (p a : Nat) : Nat := (tget (d.pipe p).actionStore 0 a).toNat

/-- META values (08 Table 8-6); a copy outside the unicast queues has a free value for its unicast queue. -/
def metaOf (x : Pkt) (t : Dest) (open_ : Nat) (sel : Nat) : Nat :=
  match sel with
  | 0 => x.hash % 65536
  | 1 => x.hash / 65536
  | 2 => x.first
  | 3 => x.prio
  | 4 => x.tenant.getD 0
  | 5 => x.tsNs
  | 6 => x.tsSec % 2 ^ 32
  | 7 => x.gen
  | 8 => x.pass
  | 9 => t.port
  | _ => match t with
    | .uni _ q => q
    | _ => (Config.freeValue open_).toNat % 16

/-- PARAM bytes of a REWRITE_PARAM record; bytes beyond it are free values. -/
def paramOf (image open_ i : Nat) : Byte :=
  if i < 112 then BitVec.ofNat 8 (image >>> (8 * (16 + i))) else BitVec.ofNat 8 ((Config.freeValue open_).toNat >>> (8 * (i - 112)))

/-- Runs the programs of a packet's pass one after another, at most 10 words in all. -/
def Dev.programs (d : Dev) (x : Pkt) (t : Dest) (k : Look) : List Nat → Nat → Rw → Except RwOut Rw
  | [], _, s => .ok s
  | i :: rest, budget, s =>
    if k.broken.contains (tRewrite, i) then .error (.parity i)
    else match d.at_ k tRewrite i with
    | none => .error .invalid
    | some e =>
      let inp : RwIn := { param := paramOf e.image.toNat d.freeSeq, metaOf := metaOf x t (d.freeSeq + 1), layers := x.prv.layers }
      let words := e.f 4 0 4
      match s.program inp (d.actionWord (pipeOf t.port)) i (e.f 2 0 11) words budget with
      | .ok s => d.programs x t k rest (budget - words) s
      | .error a =>
        match a.stop with
        | .fault _ => .error (.fault a)
        | .ttl => .error (if e.f 1 0 1 = 1 then .trap (e.f 6 0 10) else .expired)

/-- The MAC step and egress tagging (08 R240). -/
def Dev.fixedSteps (d : Dev) (x : Pkt) (k : Look) (s : Rw) : Except RwOut Rw :=
  if k.broken.contains (tRewrite, x.edit.domain) then .error (.parity x.edit.domain)
  else match d.at_ k tRewrite x.edit.domain with
  | none => if x.edit.routed then .error .invalid else .ok s
  | some e =>
    let s := if x.edit.routed then s.write false 0 (beBytes 6 x.edit.dmac ++ beBytes 6 (e.f 6 0 48)) else s
    .ok (s.tag (e.f 1 0 2) (e.f 2 0 12) (e.f 4 0 12) x.prio)

/-- A mirror copy's frame: cut to TRUNC_LEN, then the program of the session as the ingress quadrant read it (08 R242, R243). -/
def Dev.mirrorRewrite (d : Dev) (x : Pkt) (t : Dest) (i : Nat) : RwOut :=
  let r := x.edit.session.toNat
  let bytes := if fld r 8 0 10 = 0 then x.bytes else x.bytes.take (fld r 8 0 10)
  if fld r 1 1 1 = 0 then .frame bytes none
  else
    let inp : RwIn := { param := paramOf r d.freeSeq, metaOf := metaOf x t (d.freeSeq + 1), layers := x.prv.layers }
    match (Rw.init x.prv bytes).program inp (d.actionWord (pipeOf t.port)) i (fld r 4 0 11) (fld r 6 0 4) 10 with
    | .ok s => .frame s.bytes none
    | .error a => match a.stop with
      | .fault _ => .fault a
      | .ttl => .expired

/-- The rewrite of a packet's copy for a destination, its programs named by the packet's edit (08 R232). -/
def Dev.rewrite (d : Dev) (x : Pkt) (t : Dest) (flaws : Flaws) : RwOut × Dev :=
  let k : Look :=
    { p := x.polder, slot := d.slotFor x, quad := pipeOf t.port / 4
      broken := flaws.parity.map (fun f => (f.1, f.2.1)) }
  let d' := { d with freeSeq := d.freeSeq + 2 }
  match x.edit.mirror with
  | some i => (d.mirrorRewrite x t i, d')
  | none =>
    let r := (d.programs x t k (x.edit.action.toList ++ x.edit.nextHop.toList) 10 (Rw.init x.prv x.bytes)).bind (fun s =>
      if x.edit.tagging then d.fixedSteps x k s else .ok s)
    match r with
    | .error o => (o, d')
    | .ok s =>
      let s := if x.edit.ce then s.mark x.prv.layers else s
      (.frame s.bytes (s.ptp x.prv), d')

/-- EV_REWRITE_FAULT and its counts (08 R238, R251). -/
def Dev.rewriteFault (d : Dev) (x : Pkt) (t : Dest) (a : RwAt) : Dev :=
  let p := pipeOf t.port
  let cause := match a.stop with
    | .fault c => c
    | .ttl => 0
  ((d.bump .rewriteFault p).liveCount (0x512 + 64 * p) 1024).record Ev.rewriteFault (.polders (2 ^ x.polder)) none
    (dat [(0, 4, a.index), (4, 1, a.word), (5, 1, a.slot), (6, 1, cause), (7, 2, t.port)])

/-- The transparent clock's correction, or a one-step originTimestamp (13 R398): `egress` is the egress
timestamp in picoseconds. -/
def Dev.stampFrame (d : Dev) (x : Pkt) (t : Dest) (bytes : List Byte) (at_ : Nat × Option Nat) (egress : Nat) : List Byte :=
  let p := at_.1
  if x.prv.flags.testBit 4 && t.front && decide (x.first < 512) && d.mrp.tcEn.testBit x.polder && !x.mirror then
    let inn := (x.tsSec * 1000000000 + x.tsNs) * 65536 + x.tsFrac
    let out := egress * 65536 / 1000
    let old := beNat ((bytes.drop (p + 8)).take 8)
    patch bytes (p + 8) (beBytes 8 (old + out + 2 ^ 64 - inn % 2 ^ 64)) at_.2
  else if x.tsReq.isSome && decide (beNat ((bytes.drop p).take 1) % 16 = 0) && !(beNat ((bytes.drop (p + 6)).take 1)).testBit 1
      && decide (p + 44 ≤ bytes.length) then
    let ns := egress / 1000
    patch bytes (p + 34) (beBytes 6 (ns / 1000000000) ++ beBytes 4 (ns % 1000000000)) at_.2
  else bytes

end Sys2Proof.Machine
end

