-- ==== Sys2Proof/Machine/Shape.lean ====
section
/-! DEFINITION. Shapers and calendar wheels, deficit round robin, gate lists and windows, and their rows and
commands (chapter 12). -/
namespace Sys2Proof.Machine

/-! ### Buckets (12 R369-R375) -/

/-- The key of a bucket: node 0 the port, 1-4 the groups, 5-20 the unicast queues (13 Table 13-11). -/
def bucketKey (port node : Nat) (isMin : Bool) : Nat := 64 * port + 2 * node + b2n isMin
/-- A bucket as OP_PORT_CONFIG sets it: maximum unshaped, minimum 0, full (12 R389). -/
def bucketReset (k : Nat) : Bucket := if k % 2 = 1 then { rate := 0 } else {}
/-- What an unlisted bucket reads as. -/
def Dev.bucketBase (d : Dev) (k : Nat) : Bucket :=
  if d.esc.zeroed then { rate := 0, burst := 0, credit := 0 } else bucketReset k
def Dev.bucket (d : Dev) (k : Nat) : Bucket := (tget d.esc.buckets none k).getD (d.bucketBase k)
def Dev.setBucket (d : Dev) (k : Nat) (b : Bucket) : Dev :=
  { d with esc := { d.esc with buckets := tset d.esc.buckets none k (if b = d.bucketBase k then none else some b) } }

/-- The rate marks a bucket without accrual: unshaped, blocked, or no guarantee. -/
def Bucket.frozen (b : Bucket) : Bool := decide (b.rate = 0 ∨ b.rate = 0xFFFFFFFF)
/-- A maximum bucket permits its node (12 R364, R370). -/
def Bucket.permits (b : Bucket) : Bool := decide (b.rate = 0xFFFFFFFF) || (decide (b.rate ≠ 0) && decide (0 ≤ b.credit))
/-- A minimum bucket is in guarantee (12 R365). -/
def Bucket.guards (b : Bucket) : Bool := decide (b.rate ≠ 0) && decide (0 ≤ b.credit)

/-- Entered on a wheel at its eligible time while it is negative (12 R372). -/
def Bucket.enter (b : Bucket) (now : Nat) : Bucket :=
  if b.frozen ∨ 0 ≤ b.credit then { b with te := none, coarse := false }
  else
    let te := now + cdiv (-b.credit).toNat b.rate
    { b with te := some te, coarse := decide (msTicks 512 ≤ (te - now) * 1000) }

/-- A refill: accrual at the old rate, capped at the burst; then pending values take over, debt kept (12 R371,
R373). -/
def Bucket.refill (b : Bucket) (now : Nat) : Bucket :=
  let b := if b.frozen then b
    else { b with credit := min (b.credit + b.rate * (now - b.last)) (b.burst * unitsPerByte) }
  let b := { b with last := now }
  match b.pending with
  | some (r, s) =>
    let b := { b with rate := r, burst := s, pending := none }
    ({ b with credit := min b.credit (s * unitsPerByte) }).enter now
  | none => if b.te.isSome && decide (0 ≤ b.credit) then { b with te := none, coarse := false } else b

/-- A charge of `bytes` follows a refill; a bucket that goes negative waits (12 R371, R372, Table 12-2). -/
def Dev.chargeBucket (d : Dev) (k : Nat) (bytes : Int) : Dev :=
  let b := (d.bucket k).refill d.bal.tick
  if b.frozen then d.setBucket k b
  else
    let was := decide (b.credit < 0)
    let b := ({ b with credit := b.credit - bytes * unitsPerByte }).enter d.bal.tick
    let d := d.setBucket k b
    if decide (b.credit < 0) && !was then d.bump .shaperWait k else d

/-- SHAPER_REFILL_SWEEP: the sweep visits a bucket (12 R371). -/
def doShaperRefillSweep (bucket : Nat) (d : Dev) : Dev :=
  if 64 * 512 ≤ bucket ∨ 42 ≤ bucket % 64 then d else d.setBucket bucket ((d.bucket bucket).refill d.bal.tick)

/-- SHAPER_WHEEL_FIRE: the wheel entry of a bucket fires; more than 1 µs late is a fault condition (12 R372,
R393). -/
def doShaperWheelFire (bucket : Nat) (d : Dev) : Dev :=
  match (d.bucket bucket).te with
  | none => d
  | some te =>
    let d := d.reach te
    let d := if te + usTicks 1 < d.bal.tick then d.liveMs (0xD10 + bucket / 64 / 32) else d
    d.setBucket bucket ((d.bucket bucket).refill d.bal.tick)

/-- COARSE_WHEEL_SLOT: the entries of a coarse slot of an Escapement move to the fine wheel (12 R372). -/
def doCoarseWheelSlot (pipe slot : Nat) (d : Dev) : Dev :=
  let here := d.esc.buckets.filterMap (fun x =>
    match x.2 with
    | some b => match b.te with
      | some te => if b.coarse ∧ x.1 / 2048 = pipe ∧ te / 12800 % 4096 = slot then some (x.1, te) else none
      | none => none
    | none => none)
  here.foldl (fun d x => (d.reach (x.2 / 12800 * 12800)).setBucket x.1 { (d.bucket x.1) with coarse := false }) d

/-! ### Deficit round robin (12 R366, R367) -/

/-- What an unlisted port's scheduler reads as. -/
def Dev.schedBase (d : Dev) : Sched :=
  if d.esc.zeroed then { adj := 0, members := (List.range 24).map (fun m => (m, { quantum := 0 })) } else {}
def Dev.sched (d : Dev) (p : Nat) : Sched := tget d.esc.scheds d.schedBase p
def Dev.modSched (d : Dev) (p : Nat) (f : Sched → Sched) : Dev :=
  { d with esc := { d.esc with scheds := tmod d.esc.scheds d.schedBase p f } }
def Sched.member (s : Sched) (m : Nat) : Drr := tget s.members {} m
def Sched.modMember (s : Sched) (m : Nat) (f : Drr → Drr) : Sched := { s with members := tmod s.members {} m f }
def Sched.round (s : Sched) (r : Nat) : Round := tget s.rounds {} r
/-- QUANTUM in bytes: 0 selects 160 units (12 R366). -/
def Drr.bytes (x : Drr) : Int := 64 * (if x.quantum = 0 then 160 else x.quantum)

/-- The members of group `g`, in order: four unicast queues and one multicast queue (12 Table 12-1). -/
def groupMembers (g : Nat) : List Nat := [4 * g, 4 * g + 1, 4 * g + 2, 4 * g + 3, 16 + g]

/-- The selection loop of R366 over `order` with round `r`: the chosen member with the scheduler after the turn
began; the deficit is charged by the caller. -/
def drrPick (order : List Nat) (r : Nat) (elig : Nat → Bool) (len : Nat → Int) : Nat → Sched → Option (Nat × Sched)
  | 0, _ => none
  | n + 1, s =>
    let rd := s.round r
    let m := order.getD (rd.ptr % order.length) 0
    let next (s : Sched) : Sched := { s with rounds := tset s.rounds {} r { ptr := (rd.ptr + 1) % order.length, turn := false } }
    if !elig m then drrPick order r elig len n (next s)
    else
      let s := if rd.turn then s
        else { (s.modMember m (fun x => { x with def_ := x.def_ + x.bytes })) with rounds := tset s.rounds {} r { ptr := rd.ptr % order.length, turn := true } }
      if len m ≤ (s.member m).def_ then some (m, s) else drrPick order r elig len n (next s)

/-! ### Device time in picoseconds -/

/-- Device time in picoseconds. -/
def Dev.timePs (d : Dev) : Nat := d.tmu.time * 1000 / timeNs

/-- Time passes until device time has reached `ns` nanoseconds. -/
def Dev.reachNs (d : Dev) (ns : Nat) : Dev :=
  let rate := 40 * 65536 * (256000000000 + d.tmu.freq).toNat
  let need (d : Dev) : Nat := ns * timeNs - d.tmu.time
  let slew := if d.tmu.slewNeg ∧ 0 < d.tmu.slewRem then 40 * 65536 * 25600000 else 0
  let d := if need d = 0 then d else d.pass (cdiv (need d) (rate - slew))
  if need d = 0 then d else d.pass (cdiv (need d) rate)

/-! ### Gate lists (12 R376-R379) -/

def Dev.tide (d : Dev) (p : Nat) : TidePort := tget d.esc.tides {} p
def Dev.modTide (d : Dev) (p : Nat) (f : TidePort → TidePort) : Dev :=
  { d with esc := { d.esc with tides := tmod d.esc.tides {} p f } }
/-- A port's table is enabled: PENDING or RUNNING (12 R377). -/
def TidePort.enabled (x : TidePort) : Bool := x.oper.isSome || x.pending.isSome

/-- The effective list: start and end of each entry within the cycle, and its gates; it is cut at the cycle's
end, and the last entry's gates stay in force until then (12 R376). -/
def effective (cycle : Nat) : Nat → List (Nat × Nat) → List (Nat × Nat × Nat)
  | _, [] => []
  | at_, [(_, g)] => if at_ < cycle then [(at_, cycle, g)] else []
  | at_, (n, g) :: r => if at_ < cycle then (at_, min cycle (at_ + n), g) :: effective cycle (at_ + n) r else []

/-- The effective list of a gate list. -/
def Tide.list (t : Tide) : List (Nat × Nat × Nat) := effective t.cycle 0 t.entries

/-- Position within the cycle at a device time in picoseconds, in picoseconds. -/
def Tide.posPs (t : Tide) (ps : Nat) : Nat :=
  (((ps : Int) - (t.baseNs * 1000 : Nat)) % (t.cycle * 1000 : Nat)).toNat

/-- The index of the entry in force at a position. -/
def Tide.entryAt (t : Tide) (posPs : Nat) : Nat :=
  ((t.list.findIdx? (fun e => decide (e.1 * 1000 ≤ posPs ∧ posPs < e.2.1 * 1000)))).getD 0

/-- Length of the open run of queue `q` at the head of a list of entries, in ns. -/
def openRun (q : Nat) : List (Nat × Nat × Nat) → Nat
  | [] => 0
  | e :: r => if e.2.2.testBit q then (e.2.1 - e.1) + openRun q r else 0

/-- The gate of queue `q` is open through the whole cycle. -/
def Tide.always (t : Tide) (q : Nat) : Bool := t.list.all (fun e => e.2.2.testBit q)

/-- At a position in picoseconds: none if the gate of queue `q` is closed, else the picoseconds until its window
ends, none standing for no limit (12 R379). -/
def Tide.window (t : Tide) (q posPs : Nat) : Option (Option Nat) :=
  let l := t.list
  let i := t.entryAt posPs
  match l[i]? with
  | none => none
  | some e =>
    if !e.2.2.testBit q then none
    else if t.always q then some none
    else some (some ((e.2.1 * 1000 - posPs) + 1000 * openRun q (l.drop (i + 1) ++ l.take i)))

/-- MAXWIN of queue `q` in ns: none if there is no limit (12 R379). -/
def Tide.maxWin (t : Tide) (q : Nat) : Option Nat :=
  if t.always q then none
  else
    let l := t.list
    some ((List.range l.length).foldl (fun m i => max m (openRun q (l.drop i ++ l.take i))) 0)

/-- The start of the entry after the one in force at device time `ns`, in ns. -/
def Tide.nextStart (t : Tide) (ns : Nat) : Nat :=
  let pos := t.posPs (ns * 1000)
  match t.list[t.entryAt pos]? with
  | some e => ns + (e.2.1 - pos / 1000)
  | none => ns

/-- A port's list is loaded again, or the port is dissolved: the loss of R382 no longer stands for it. -/
def Dev.tideReload (d : Dev) (p : Nat) : Dev :=
  let d := d.modTide p (fun x => { x with eccOff := false })
  if d.esc.tides.any (fun x => x.2.eccOff) then d else d.clearLive 0xD21

/-- A pending list becomes operational from entry 0 (12 Table 12-3). -/
def Dev.tideStart (d : Dev) (p : Nat) : Dev :=
  match (d.tide p).pending with
  | none => d
  | some (t, cct) =>
    let d := d.modTide p (fun x => { x with oper := some t, pending := none, at_ := 0 })
    d.record Ev.tideChange (d.attribution (0x300 + p)) none
      (dat [(0, 2, p), (2, 2, t.entries.length), (4, 6, cct / 1000000000), (10, 4, cct % 1000000000)])

/-- TIDE_CCT_REACHED (12 R380). -/
def doTideCctReached (port : Nat) (d : Dev) : Dev :=
  match (d.tide port).pending with
  | none => d
  | some (_, cct) => (d.reachNs cct).tideStart port

/-- TIDE_GATE_CHANGE: the list of a running table moves to its next entry (12 R376). -/
def doTideGateChange (port : Nat) (d : Dev) : Dev :=
  match (d.tide port).oper with
  | none => d
  | some t =>
    let d := d.reachNs (t.nextStart d.timeNsAll)
    d.modTide port (fun x => { x with at_ := t.entryAt (t.posPs d.timePs) })

/-- TIDE_LIST_ECC: an uncorrectable error in an operational entry disables the table (12 R382). -/
def doTideListEcc (port entry : Nat) (d : Dev) : Dev :=
  match (d.tide port).oper with
  | none => d
  | some t =>
    if t.entries.length ≤ entry then d
    else
      (((d.modTide port (fun x => { x with oper := none, pending := none, eccOff := true })).setLive 0xD21)).record
        Ev.tideListEcc (d.attribution (0x300 + port)) (some 0xD21) (dat [(0, 2, port), (2, 2, entry)])

/-- After a step of the device time: a port's pending list starts where its time has come, and the list that runs stands at the
entry of the new time. -/
def Dev.tideJump (d : Dev) (p : Nat) : Dev :=
  let d := match (d.tide p).pending with
    | some (_, cct) => if cct ≤ d.timeNsAll then d.tideStart p else d
    | none => d
  match (d.tide p).oper with
  | some t => d.modTide p (fun x => { x with at_ := t.entryAt (t.posPs d.timePs) })
  | none => d

/-- A time step moves every enabled table (12 R381): a CCT that the step has passed takes up its list at once. -/
def Dev.tideStep (d : Dev) (stepNs : Int) : Dev :=
  let ports := d.esc.tides.filterMap (fun x => if x.2.enabled then some x.1 else none)
  if ports.isEmpty then d
  else
    ((ports.foldl Dev.tideJump d).liveMs 0xD22).record Ev.tideTimeStep .shared (some 0xD22)
      (dat [(0, 8, unsigned 64 stepNs), (8, 2, ports.length)])

/-! ### OP_SCHED_SET (12 R389) -/

/-- Signed ADJ of a byte. -/
def adjOf (n : Nat) : Int := signed 8 n

/-- OP_SCHED_SET SET. -/
def doOpSchedSetSet (c : CmdRef) (_io : Io) (d : Dev) : Dev :=
  d.step1 c (isOpAct 0x50 (18, 0, 2) 0) fun d x =>
    let p := x.fld 16 0 10
    let d := d.wakeFor p
    if !d.isPort p then d.fail c stNotFound
    else
      let md := decide (x.fld 19 0 1 = 1)
      let d := d.modSched p (fun s =>
        let s := if md = s.drrGroups then s
          else (List.range 4).foldl (fun (s : Sched) g => s.modMember (20 + g) (fun m => { m with def_ := 0 }))
            { s with rounds := tset s.rounds {} 4 {} }
        let s := { s with drrGroups := md, adj := adjOf (x.fld 20 0 8) }
        let s := (List.range 4).foldl (fun (s : Sched) g => s.modMember (20 + g) (fun m => { m with quantum := x.fld (24 + 2 * g) 0 16 })) s
        (List.range 16).foldl (fun (s : Sched) q => s.modMember q (fun m => { m with quantum := x.fld (32 + 2 * q) 0 16 })) s)
      d.ok c

/-- OP_SCHED_SET SET_MC. -/
def doOpSchedSetSetMc (c : CmdRef) (_io : Io) (d : Dev) : Dev :=
  d.step1 c (isOpAct 0x50 (18, 0, 2) 1) fun d x =>
    let p := x.fld 16 0 10
    let d := d.wakeFor p
    if !d.isPort p then d.fail c stNotFound
    else (d.modSched p (fun s => (List.range 4).foldl (fun (s : Sched) m =>
      s.modMember (16 + m) (fun y => { y with quantum := x.fld (32 + 2 * m) 0 16 })) s)).ok c

/-- OP_SCHED_SET READ. -/
def doOpSchedSetRead (c : CmdRef) (_io : Io) (d : Dev) : Dev :=
  d.step1 c (isOpAct 0x50 (18, 0, 2) 2) fun d x =>
    let p := x.fld 16 0 10
    let d := d.wakeFor p
    if !d.isPort p then d.fail c stNotFound
    else
      let s := d.sched p
      d.ok c (pack [(0, 1, b2n s.drrGroups), (8, 8, unsigned 8 s.adj)])
        (pack ((List.range 4).map (fun g => (16 * g, 16, (s.member (20 + g)).quantum))))

/-! ### OP_SHAPER_SET (12 R390) -/

/-- The node of KIND and INDEX; none for a multicast queue, which has no bucket. -/
def nodeOf (kind index : Nat) : Option Nat :=
  match kind with
  | 0 => some 0
  | 1 => some (1 + index)
  | 2 => some (5 + index)
  | _ => none

/-- OP_SHAPER_SET SET: the values pend until the bucket's next refill (12 R373). -/
def doOpShaperSetSet (c : CmdRef) (_io : Io) (d : Dev) : Dev :=
  d.step1 c (isOpAct 0x51 (18, 0, 2) 0) fun d x =>
    let p := x.fld 16 0 10
    let d := d.wakeFor p
    if !d.isPort p then d.fail c stNotFound
    else match nodeOf (x.fld 16 10 2) (x.fld 16 12 4) with
      | none => d.badOp c 16
      | some n =>
        let burst (v : Nat) : Nat := if v = 0 then 65536 else v
        let put (d : Dev) (k r s : Nat) : Dev := d.setBucket k { (d.bucket k) with pending := some (r, s) }
        let d := if x.fld 18 2 1 = 1 then put d (bucketKey p n false) (x.fld 20 0 32) (burst (x.fld 24 0 32)) else d
        let d := if x.fld 18 3 1 = 1 then put d (bucketKey p n true) (x.fld 28 0 32) (burst (x.fld 32 0 32)) else d
        d.ok c

/-- A bucket's signed bytes as software reads them. -/
def Bucket.bytes (b : Bucket) : Int := b.credit / unitsPerByte

/-- OP_SHAPER_SET READ. -/
def doOpShaperSetRead (c : CmdRef) (_io : Io) (d : Dev) : Dev :=
  d.step1 c (isOpAct 0x51 (18, 0, 2) 1) fun d x =>
    let p := x.fld 16 0 10
    let d := d.wakeFor p
    let kind := x.fld 16 10 2
    let idx := x.fld 16 12 4
    if !d.isPort p then d.fail c stNotFound
    else
      let m := match kind with
        | 1 => 20 + idx
        | 2 => idx
        | _ => 16 + idx
      let y := (d.sched p).member m
      let df := if kind = 0 then 0 else unsigned 32 y.def_
      let qu := if kind = 0 then 0 else y.quantum
      match nodeOf kind idx with
      | none => d.ok c 0 (pack [(0, 32, df), (32, 16, qu)])
      | some n =>
        let a := d.bucket (bucketKey p n false)
        let b := d.bucket (bucketKey p n true)
        d.ok c (pack [(0, 32, unsigned 32 a.bytes), (32, 32, unsigned 32 b.bytes)])
          (pack [(0, 32, df), (32, 16, qu), (48, 1, b2n a.te.isSome), (49, 1, b2n b.te.isSome), (50, 1, b2n (decide (a.rate = 0))),
            (51, 1, b2n (a.pending.isSome || b.pending.isSome)), (52, 1, b2n b.guards)])
          (match a.te with
          | some te => cdiv (te - d.bal.tick) 25
          | none => 0)

/-! ### OP_TIDE_TABLE_SET (12 R380, R391) -/

/-- The entries of a gate list as host memory holds them. -/
def tideEntries : Nat → List Byte → List (Nat × Nat × Nat)
  | 0, _ => []
  | n + 1, bs =>
    let w := leNat (bs.take 8)
    (bits w 0 32, bits w 32 20, bits w 52 12) :: tideEntries n (bs.drop 8)

/-- OP_TIDE_TABLE_SET SET. -/
def doOpTideTableSetSet (c : CmdRef) (io : Io) (d : Dev) : Dev :=
  d.step1 c (isOpAct 0x52 (18, 0, 2) 0) fun d x =>
    let p := x.fld 16 0 10
    let d := d.wakeFor p
    let n := x.fld 20 0 16
    let cycle := x.fld 44 0 32
    if !d.isPort p then d.fail c stNotFound
    else match ioBytes io (8 * n) with
      | none => d.fail c stTimeout 24
      | some bs =>
        let es := tideEntries n bs
        match es.findIdx? (fun e => decide (e.1 < 8 ∨ cycle < e.1 ∨ e.2.2 ≠ 0)) with
        | some i => d.fail c stBadOperand (24 + 256 * 1 + 65536 * i)
        | none =>
          let base := x.fld 32 0 48 * 1000000000 + x.fld 40 0 32
          let now := d.timeNsAll
          let cct := if now ≤ base then base else base + cdiv (now - base) cycle * cycle
          let had := (d.tide p).pending.isSome
          let d := d.modTide p (fun y =>
            { y with pending := some ({ entries := es.map (fun e => (e.1, e.2.1)), baseNs := base, cycle := cycle }, cct), growth := x.fld 19 0 8 })
          (d.tideReload p).ok c (b2n had * 2 ^ 24) (cct / 1000000000 % 2 ^ 48) (cct % 1000000000)

/-- OP_TIDE_TABLE_SET DISABLE. -/
def doOpTideTableSetDisable (c : CmdRef) (_io : Io) (d : Dev) : Dev :=
  d.step1 c (isOpAct 0x52 (18, 0, 2) 1) fun d x =>
    let p := x.fld 16 0 10
    let d := d.wakeFor p
    if !d.isPort p then d.fail c stNotFound
    else (d.modTide p (fun y => { y with oper := none, pending := none })).ok c

/-- OP_TIDE_TABLE_SET READ. -/
def doOpTideTableSetRead (c : CmdRef) (io : Io) (d : Dev) : Dev :=
  d.step1 c (isOpAct 0x52 (18, 0, 2) 2) fun d x =>
    let p := x.fld 16 0 10
    let d := d.wakeFor p
    if !d.isPort p then d.fail c stNotFound
    else
      let y := d.tide p
      let es := (y.oper.map (·.entries)).getD []
      let bs := ((es.take (x.fld 20 0 16)).map (fun e => leBytes 8 (e.1 + e.2 * 2 ^ 32))).flatten
      let pn := (y.pending.map (fun t => t.1.entries.length)).getD 0
      let cct := (y.pending.map (fun t => t.2)).getD 0
      let d := if bs.isEmpty then d else d.hostOut c.ep (x.fld 24 0 64) bs io.wrErr
      d.okBuf c (io.wrErr && !bs.isEmpty) 24
        (pack [(0, 11, es.length), (11, 11, pn), (22, 1, b2n y.enabled), (23, 1, b2n (y.oper.isSome && y.pending.isSome))])
        (cct / 1000000000 % 2 ^ 48) (cct % 1000000000)

/-! ### Meanings -/

/-- OP_SCHED_SET_SET (R389). -/
def execOpSchedSetSet (c : CmdRef) (io : Io) (s : State) : Host.Outcome State Fault Refusal :=
  .next { s with dev := doOpSchedSetSet c io s.dev }

/-- OP_SCHED_SET_SET_MC (R389). -/
def execOpSchedSetSetMc (c : CmdRef) (io : Io) (s : State) : Host.Outcome State Fault Refusal :=
  .next { s with dev := doOpSchedSetSetMc c io s.dev }

/-- OP_SCHED_SET_READ (R389). -/
def execOpSchedSetRead (c : CmdRef) (io : Io) (s : State) : Host.Outcome State Fault Refusal :=
  .next { s with dev := doOpSchedSetRead c io s.dev }

/-- OP_SHAPER_SET_SET (R373). -/
def execOpShaperSetSet (c : CmdRef) (io : Io) (s : State) : Host.Outcome State Fault Refusal :=
  .next { s with dev := doOpShaperSetSet c io s.dev }

/-- OP_SHAPER_SET_READ (R390). -/
def execOpShaperSetRead (c : CmdRef) (io : Io) (s : State) : Host.Outcome State Fault Refusal :=
  .next { s with dev := doOpShaperSetRead c io s.dev }

/-- OP_TIDE_TABLE_SET_SET (R380). -/
def execOpTideTableSetSet (c : CmdRef) (io : Io) (s : State) : Host.Outcome State Fault Refusal :=
  .next { s with dev := doOpTideTableSetSet c io s.dev }

/-- OP_TIDE_TABLE_SET_DISABLE (R380). -/
def execOpTideTableSetDisable (c : CmdRef) (io : Io) (s : State) : Host.Outcome State Fault Refusal :=
  .next { s with dev := doOpTideTableSetDisable c io s.dev }

/-- OP_TIDE_TABLE_SET_READ (R391). -/
def execOpTideTableSetRead (c : CmdRef) (io : Io) (s : State) : Host.Outcome State Fault Refusal :=
  .next { s with dev := doOpTideTableSetRead c io s.dev }

/-- SHAPER_REFILL_SWEEP (R371). -/
def execShaperRefillSweep (bucket : Nat) (s : State) : Host.Outcome State Fault Refusal :=
  .next { s with dev := doShaperRefillSweep bucket s.dev }

/-- SHAPER_WHEEL_FIRE (R372). -/
def execShaperWheelFire (bucket : Nat) (s : State) : Host.Outcome State Fault Refusal :=
  .next { s with dev := doShaperWheelFire bucket s.dev }

/-- COARSE_WHEEL_SLOT (R372). -/
def execCoarseWheelSlot (pipe : Nat) (slot : Nat) (s : State) : Host.Outcome State Fault Refusal :=
  .next { s with dev := doCoarseWheelSlot pipe slot s.dev }

/-- TIDE_CCT_REACHED (R380). -/
def execTideCctReached (port : Nat) (s : State) : Host.Outcome State Fault Refusal :=
  .next { s with dev := doTideCctReached port s.dev }

/-- TIDE_GATE_CHANGE (R376). -/
def execTideGateChange (port : Nat) (s : State) : Host.Outcome State Fault Refusal :=
  .next { s with dev := doTideGateChange port s.dev }

/-- TIDE_LIST_ECC (R382). -/
def execTideListEcc (port : Nat) (entry : Nat) (s : State) : Host.Outcome State Fault Refusal :=
  .next { s with dev := doTideListEcc port entry s.dev }

end Sys2Proof.Machine
end

