-- ==== Sys2Proof/Machine/Resolve.lean ====
section
/-! DEFINITION. A packet's lookups and resolve: profile, rule, forwarding result, members, the dike check, the
weir, default actions and the copy set (chapters 3, 5, 6, 7, 9, 13). -/
namespace Sys2Proof.Machine

/-! ### Parity failures of table entries (06 R173, 07 R225) -/

/-- The source of Table 6-17 or 7-5 for a table of quadrant `q`; the MAC table has its own. -/
def paritySource (q t : Nat) : Nat :=
  0x900 + 64 * q + (if t = tMac then 0x20 else if t = tTcam then 1 else if t = tExact ∨ t = tHost ∨ t = tLpm4 ∨ t = tLpm6 then 0 else 2)

/-- The parity sources of quadrant `q` follow the entries invalidated in its copy and not rewritten. -/
def Dev.parityRefresh (d : Dev) (q : Nat) : Dev :=
  let badIn (n : Nat) : Bool := d.rle.ents.any (fun x =>
    match x.2 with
    | some e => e.bad.testBit q && decide (paritySource q (x.1 / 2 ^ 32) = 0x900 + 64 * q + n)
    | none => false)
  let d := d.live (0x900 + 64 * q) (badIn 0)
  let d := d.live (0x901 + 64 * q) (badIn 1)
  let d := d.live (0x902 + 64 * q) (badIn 2)
  d.live (0x920 + 64 * q) (!(d.quad q).lost.isEmpty)

/-- EV_TABLE_PARITY of an entry of polder `p`. -/
def Dev.parityEvent (d : Dev) (q t i p : Nat) (lasting : Bool) : Dev :=
  d.record Ev.tableParity (.polders (2 ^ p)) (some (paritySource q t)) (dat [(0, 1, t), (1, 1, q), (2, 4, i), (6, 1, b2n lasting)])

/-- A parity failure raises its source, which stays live after the tick only as Tables 6-17 and 7-5 say (06 R173, 07 R225;
DEDUCED, assumption 132). -/
def Dev.parityRaise (d : Dev) (q t : Nat) (lasting : Bool) : Dev :=
  let s := paritySource q t
  if (d.src s).live then d else (d.liveFor s 0).modSrc s (fun x => { x with lasting := lasting })

/-- The Tourbillon's re-read of an entry that failed parity: a lasting error invalidates it in that copy alone
(06 R173, 07 R225). -/
def Dev.parityRead (d : Dev) (q t i : Nat) (lasting : Bool) : Dev :=
  if !lasting then d.parityRaise q t false
  else if t = tMac then
    match tget (d.quad q).ents none i with
    | some e =>
      let d := d.modQuad q (fun x =>
        { x with
          ents := tset x.ents none i none
          lost := if e.static then (e.polder, e.domain, e.mac) :: x.lost else x.lost })
      (((d.stashRefresh q).parityRefresh q).parityRaise q t true).parityEvent q t i e.polder true
    | none => d
  else match d.tab t i with
  | some e => ((d.setTab t i (some { e with bad := e.bad ||| 2 ^ q })).parityRefresh q).parityEvent q t i e.polder true
  | none => d

/-! ### Forwarding profile (06 R171, Table 6-2) -/

/-- A field of a PORT_VLAN record. -/
def pvF (r : BitVec 192) (off lsb w : Nat) : Nat := fld r.toNat off lsb w

/-- The profile of a frame on its first pass. -/
def Dev.profileOf (d : Dev) (k : Look) (x : Pkt) : Option (BitVec 192) :=
  let e := match x.ingress with
    | .host ep => d.portVlan k (528 + ep) 4095
    | _ => d.profile k x.first ((outerVid x.bytes).getD 0)
  e.map (fun y => y.2.image.truncate 192)

/-! ### Lookups (06 R172) -/

/-- What the parallel lookups of a packet give. -/
structure Hits where
  exact : Option (Nat × TabEnt) := none
  tcam : Option (Nat × TabEnt) := none
  route : Option (Nat × TabEnt) := none
  dst : Option (Nat × MacEnt) := none
  routed : Bool := false

/-- CNT_LOOKUP_HIT or CNT_LOOKUP_MISS of a table in a copy (06 R200). -/
def Dev.tally (d : Dev) (q t : Nat) (hit : Bool) : Dev :=
  d.bump (if hit then .lookupHit else .lookupMiss) (256 * q + t)

/-- The lookups of a packet with a profile. -/
def Dev.lookups (d : Dev) (k : Look) (x : Pkt) (r : BitVec 192) : Hits × Dev :=
  let ki : KeyIn := { prv := x.prv, bytes := x.bytes, port := x.first, domain := pvF r 8 0 14, vrf := pvF r 10 0 14 }
  let dst := d.macLook k ki.domain (macDa x.bytes)
  let d := d.tally k.quad tMac dst.isSome
  let ef := pvF r 13 0 3
  let exact := if ef = 0 then none else let u := exactKey ef ki; d.exactFind k u.1 u.2
  let d := if ef = 0 then d else d.tally k.quad tExact exact.isSome
  let tf := pvF r 13 3 2
  let tcam := if tf = 0 then none else let u := tcamKey tf ki; d.tcamFind k u.1 u.2
  let d := if tf = 0 then d else d.tally k.quad tTcam tcam.isSome
  let ver := ipVer x.prv x.bytes 2
  let addr := (ipAddrs x.prv x.bytes 2).2
  let host := if ver = 0 then none else d.hostFind k (decide (ver = 6)) ki.vrf addr
  let lpm := if ver = 0 then none else d.lpmFind k (decide (ver = 6)) ki.vrf addr
  let d := if ver = 0 then d
    else (d.tally k.quad tHost host.isSome).tally k.quad (if ver = 6 then tLpm6 else tLpm4) lpm.isSome
  let routed := pvF r 12 0 1 = 1 && (dst.map (fun m => m.2.router)).getD false
  ({ exact := exact, tcam := tcam, route := host.or lpm, dst := dst, routed := routed }, d)

/-! ### The source lookup (07 R204, R205) -/

/-- Sets HIT of a MAC entry in copy `q` when that copy is its home. -/
def Dev.setHit (d : Dev) (q i : Nat) : Dev :=
  d.modQuad q (fun x => { x with ents := tmod x.ents none i (fun o => o.map (fun e => if e.home = q then { e with hit := true } else e)) })

/-- The port that a frame learns: its ingress port, or the lowest valid LAG of its polder that lists it. -/
def Dev.learnPort (d : Dev) (k : Look) (port : Nat) : Nat × Bool :=
  match (d.lagsOf k).find? (fun g => (lagMembers g.2).contains port) with
  | some g => (g.1, true)
  | none => (port, false)

/-- EP_LRN_CFG of a polder. -/
def Dev.lrnCfg (d : Dev) (p : Nat) : LrnCfg := tget d.lrn.cfg {} p

/-- The source lookup of a packet: HIT, counts, and the event to offer once its frame is whole; the key of a static entry lost to a
lasting error is not learned in that copy until its owner rewrites it (07 R225). -/
def Dev.sourceLookup (d : Dev) (k : Look) (x : Pkt) (domain : Nat) : Option LrnEvent × Dev :=
  let sa := macSa x.bytes
  let found := d.macLook k domain sa
  let d := d.tally k.quad tMac found.isSome
  let wire := match x.ingress with
    | .wire _ => true
    | _ => false
  let on := wire && decide (d.bal.mode = .forwarding) && (d.lrnCfg k.p).learnEn && !d.lrn.noLearn.testBit x.first &&
    !(sa / 2 ^ 40).testBit 0 && decide (sa ≠ 0) && (x.prv.layer 1).isSome &&
    !decide (x.prv.excClass = some 2 ∨ x.prv.excClass = some 4 ∨ x.prv.excClass = some 5)
  let lp := d.learnPort k x.first
  let ev (kind : LrnKind) (ver : Nat) : LrnEvent :=
    { kind := kind, origin := k.quad, polder := k.p, mac := sa, domain := domain, port := lp.1, isLag := lp.2, version := ver }
  match found with
  | none =>
    let broken := k.broken.any (fun b => decide (b.1 = tMac) && match tget (d.quad k.quad).ents none b.2 with
      | some e => decide (e.mac = sa ∧ e.domain = domain ∧ e.polder = k.p ∧ e.valid)
      | none => false)
    if !on || (d.quad k.quad).lost.contains (k.p, domain, sa) then (none, d)
    else if broken then (none, d.bump .learnParitySkip k.quad)
    else (some (ev .new 0), d)
  | some (i, e) =>
    if !wire then (none, d.setHit k.quad i)
    else if e.port = lp.1 ∧ e.isLag = lp.2 then
      if e.home = k.quad then (none, d.setHit k.quad i)
      else if on && e.agedOnce then (some (ev .rehome e.version), d)
      else (none, d)
    else if !on then (none, d)
    else if e.static then (none, d.bump .staticMoveDenied k.quad)
    else if e.flapLock then (none, d.bump .learnLocked k.quad)
    else (some (ev .move e.version), d)

/-! ### Forwarding results (06 Table 6-3) -/

/-- Where a packet is aimed before the dike check. -/
inductive Aim where
  | port (p domain : Nat) (nh : Option TabEnt)
  | flood
  | trap (q : Nat)
  | drop (c : Ctr)

/-- A destination port or LAG group becomes a port (06 R191). -/
def Dev.member (d : Dev) (k : Look) (dest : Nat) (isLag : Bool) (hash : Nat) : Except Ctr Nat :=
  if !isLag then .ok dest
  else if k.broken.contains (tLag, dest) then .error .drTableParity
  else match d.at_ k tLag dest with
  | none => .error .drNhInvalid
  | some e => match d.lagSelect e hash with
    | some p => .ok p
    | none => .error .drLagEmpty

/-- A next hop by its index. -/
def Dev.hop (d : Dev) (k : Look) (i hash : Nat) : Aim :=
  if k.broken.contains (tNextHop, i) then .drop .drTableParity
  else match d.at_ k tNextHop i with
  | none => .drop .drNhInvalid
  | some e => match d.member k (if e.f 2 10 1 = 1 then e.f 2 0 9 else e.f 2 0 10) (decide (e.f 2 10 1 = 1)) hash with
    | .ok p => .port p (e.f 4 0 14) (some e)
    | .error c => .drop c

/-- NH_INDEX and NH_KIND (06 R172, Table 6-3 steps 5 and 6). -/
def Dev.nh (d : Dev) (k : Look) (v hash : Nat) : Aim :=
  let i := v % 2 ^ 18
  match bits v 18 2 with
  | 0 => d.hop k i hash
  | 1 =>
    if k.broken.contains (tEcmpGroup, i) then .drop .drTableParity
    else match d.at_ k tEcmpGroup i with
    | none => .drop .drNhInvalid
    | some g =>
      let m := g.f 4 0 20 + ecmpPick hash (g.f 2 0 10)
      if k.broken.contains (tEcmpMember, m) then .drop .drTableParity
      else match d.at_ k tEcmpMember m with
      | none => .drop .drNhInvalid
      | some e => d.hop k (e.f 1 0 18) hash
  | 2 => .drop .drNullRoute
  | _ => .trap (i % 1024)

/-- The MAC destination result: a hit's port, else a flood of the domain (06 Table 6-3 step 2). -/
def Dev.bridge (d : Dev) (k : Look) (h : Hits) (domain hash : Nat) : Aim :=
  match h.dst with
  | none => .flood
  | some (_, e) => match d.member k e.port e.isLag hash with
    | .ok p => .port p domain none
    | .error c => .drop c

/-! ### The dike check and the copy set (03 R96, 09 R276) -/

/-- The dike check toward a front-panel port. -/
def Dev.dikeOk (d : Dev) (p port domain : Nat) : Bool :=
  match d.lanePolder port with
  | some q => decide (p = q) || d.plc.sluices.contains (p, q, domain)
  | none => false

/-- A packet or copy that the dike check stops (03 R96, Table 3-8). -/
def Dev.dikeBlock (d : Dev) (p : Nat) : Dev := (d.bump .drDikeBlock p).liveCount (0x82 + 8 * p) 1024

/-- The port's polder is another than the packet's and is in SAFE_HOLD (03 Table 3-6). -/
def Dev.foreignHold (d : Dev) (p port : Nat) : Bool :=
  decide (d.bal.mode = .forwarding) && d.polderHeld port && decide (d.lanePolder port ≠ some p)

/-- A packet or copy for a polder in SAFE_HOLD is dropped; FS_POLDER_SLUICE_HOLD is the sending polder's, as the example after 03 R112
has it (03 Table 3-6, Table 3-8). -/
def Dev.heldDrop (d : Dev) (x : Pkt) (port : Nat) : Dev :=
  let d := d.bump .drPolderHold x.first
  match d.lanePolder port with
  | some q => if q ≠ x.polder then d.liveMs (0x84 + 8 * x.polder) else d
  | none => d

/-- The flood set of a packet, less its ingress port, with one member kept of each LAG (09 R276 steps 1, 2). -/
def Dev.floodPorts (d : Dev) (k : Look) (x : Pkt) (domain hash : Nat) : List Nat :=
  let set0 := (d.floodSet k.quad domain).erase x.first
  (d.lagsOf k).foldl (fun s g =>
    let ms := lagMembers g.2
    if ms.contains x.first then s.filter (fun p => !ms.contains p)
    else if s.any (fun p => ms.contains p) then
      let keep := match d.lagSelect g.2 hash with
        | some p => if s.contains p then [p] else []
        | none => []
      s.filter (fun p => !ms.contains p || keep.contains p)
    else s) set0

/-! ### Resolve (06 Table 6-3, 05 R156-R161) -/

/-- What resolve gives: the copies that pass its checks, or the drop. -/
structure Fwd where
  dests : List Dest := []
  multi : Bool := false
  drop : Option (Ctr × Nat) := none
  edit : Edit := {}
  reason : Nat := 0
  rule : Option Nat := none
  prio : Nat
  trunc : Bool := false
  mirror : Option Nat := none
  /-- WEIR_INDEX of the deciding action. -/
  weir : Option Nat := none
  routed : Bool := false
  /-- A default action or a DIRECT frame has named the queue. -/
  fixed : Bool := false

/-- The host queue of an ID, for a packet of polder `p`: a queue of another polder is a dike block (02 R59). -/
def Dev.hostDest (d : Dev) (p id : Nat) : Option Dest :=
  if d.rxqPolder (id / 256) (id % 256) = some p then some (.host (id / 256) (id % 256)) else none

/-- The unicast queue of an internal priority: one of the two that R328's default QMAP pairs with it (`upper`:
the higher). -/
def uniQueue (prio : Nat) (upper : Bool) : Nat := 2 * prio + b2n upper

/-- An aim becomes destinations; `fix` is the queue that a default action or a DIRECT frame names. -/
def Dev.aimed (d : Dev) (k : Look) (x : Pkt) (f : Fwd) (a : Aim) (domain : Nat) (fix : Option Nat) (upper : Bool) : Fwd × Dev :=
  match a with
  | .drop c => ({ f with drop := some (c, x.first) }, d)
  | .trap q => match d.hostDest x.polder q with
    | some t => ({ f with dests := [t] }, d)
    | none => ({ f with drop := none }, d.dikeBlock x.polder)
  | .port p dom nh =>
    if !d.dikeOk x.polder p dom then (f, d.dikeBlock x.polder)
    else if d.foreignHold x.polder p then (f, d.heldDrop x p)
    else
      let e := { f.edit with
        domain := dom
        dmac := (nh.map (fun e => e.f 6 0 48)).getD 0
        routed := f.edit.routed && nh.isSome
        nextHop := (nh.map (fun e => e.f 12 0 18)).filter (· ≠ 0) }
      ({ f with dests := [.uni p (fix.getD (uniQueue f.prio upper))], edit := e, fixed := fix.isSome }, d)
  | .flood =>
    let ports := d.floodPorts k x domain x.hash
    let r := ports.foldl (fun (acc : List Dest × Dev) p =>
      if !acc.2.dikeOk x.polder p domain then (acc.1, acc.2.dikeBlock x.polder)
      else if decide (acc.2.bal.mode = .forwarding) && acc.2.polderHeld p then (acc.1, acc.2.heldDrop x p)
      else (acc.1 ++ [.mc p (f.prio / 2)], acc.2)) ([], d)
    ({ f with dests := r.1, multi := true, edit := { f.edit with domain := domain } }, r.2)

/-- The drop count of a class (05 Table 5-8). -/
def classDrop : Nat → Ctr
  | 0 => .drNoMatch | 1 => .drParseDepth | 2 => .drParseLengthConflict | 3 => .drParseUnknown
  | 4 => .drParseMalformed | _ => .drStoreFault

/-- The default-action entry of a port and class (05 R158, R159). -/
def Dev.defaultEntry (d : Dev) (port cls : Nat) : BitVec 64 :=
  (tget d.pse.entries none (8 * port + cls)).getD (d.pse.image.getD cls 2)

/-- EV_PARSE_EXCEPTION (16 Table 16-7). -/
def Dev.parseEvent (d : Dev) (x : Pkt) (cls : Nat) : Dev :=
  let i := x.prv.insts[x.prv.excInst]?
  let c := match x.prv.conts.head? with
    | some (e, cl, cf) => e + 1024 * b2n cl + 2048 * b2n cf
    | none => 0
  d.record Ev.parseException (.polders (2 ^ x.polder)) none
    (dat [(0, 2, x.first), (2, 1, cls), (3, 1, x.prv.stop), (4, 1, x.prv.excInst), (5, 1, (i.map Inst.hdr).getD 0),
      (6, 2, (i.map Inst.off).getD 0), (8, 2, x.prv.parseEnd), (10, 2, x.prv.frameLen), (12, 2, c), (14, 4, x.prv.flags)])

/-- A packet of a class takes the default action of its class (05 R157-R161). -/
def Dev.defaultAction (d : Dev) (k : Look) (x : Pkt) (h : Hits) (cls : Nat) (domain : Option Nat) (upper : Bool) : Fwd × Dev :=
  let f : Fwd := { prio := x.prio }
  let gone : Fwd := { f with drop := some (classDrop cls, x.first) }
  if 512 ≤ x.first then (gone, d)
  else
    let e := (d.defaultEntry x.first cls).toNat
    let d := if e.testBit 3 then d.parseEvent x cls else d
    match bits e 0 3 with
    | 0 => match domain with
      | some dom => if (x.prv.layer 1).isNone then (gone, d) else d.aimed k x f (d.bridge k h dom x.hash) dom none upper
      | none => (gone, d)
    | 1 => d.aimed k x { f with reason := cls, trunc := e.testBit 4 } (.trap (bits e 16 10)) 0 none upper
    | 3 => ({ gone with mirror := some (bits e 48 6) }, d)
    | 4 => d.aimed k x f (.port (bits e 32 10) (domain.getD 0) none) 0 (some (bits e 42 4)) upper
    | _ => (gone, d)

/-- The rule of a packet: a TCAM hit with OVERRIDE, else an EXACT hit, else a TCAM hit (06 Table 6-3 step 1): table,
index and RESULT. -/
def Hits.rule (h : Hits) : Option (Nat × Nat × Nat) :=
  let r (t : Nat) (o : Option (Nat × TabEnt)) : Option (Nat × Nat × Nat) := o.map (fun x => (t, x.1, x.2.f 4 0 20))
  let tc := r tTcam h.tcam
  match tc.filter (fun x => x.2.2.testBit 18) with
  | some x => some x
  | none => (r tExact h.exact).or tc

/-- What an action entry sets whatever becomes of the packet: priority, rule, mirror session, weir and rewrite program. -/
def actionFwd (x : Pkt) (h : Hits) (i : Nat) (e : TabEnt) : Fwd :=
  { prio := if e.f 1 5 1 = 1 then e.f 2 0 3 else x.prio
    rule := some i
    mirror := if e.f 1 4 1 = 1 then some (e.f 3 0 6) else none
    weir := if e.f 12 28 1 = 1 ∧ x.pass = 1 then some (e.f 12 10 18) else none
    routed := h.routed
    edit := { action := if e.f 1 7 1 = 1 ∧ e.f 8 0 18 ≠ 0 then some (e.f 8 0 18) else none, routed := h.routed } }

/-- KIND 4 adds a copy to a host receive queue. -/
def Dev.withCopy (d : Dev) (x : Pkt) (e : TabEnt) (g : Fwd) : Fwd × Dev :=
  if e.f 1 0 3 = 4 then
    match d.hostDest x.polder (e.f 12 0 10) with
    | some t => ({ g with dests := g.dests ++ [t], reason := 0x10 }, d)
    | none => (g, d.dikeBlock x.polder)
  else (g, d)

/-- RECIRC: the recirculation port of the packet's pipeline, up to three passes. -/
def Dev.recircAction (d : Dev) (x : Pkt) (i : Nat) (e : TabEnt) (f : Fwd) : Fwd × Dev :=
  let p := match x.ingress with
    | .wire a => pipeOf a
    | .host a => 4 * a
    | .recirc a => a
  if 3 ≤ x.pass then
    ({ f with drop := some (.drRecircLimit, x.first) },
      d.record Ev.recircLimit (.polders (2 ^ x.polder)) none (dat [(0, 4, i), (4, 2, x.first)]))
  else if (d.pipe p).parseStopped then ({ f with drop := some (.drStoreFault, x.first) }, d)
  else d.withCopy x e { f with dests := [.recirc p f.prio], edit := { action := f.edit.action, tagging := false } }

/-- The effect of an action entry, its index `i` (06 Tables 6-8, 6-9; 08 R245, R247). -/
def Dev.action (d : Dev) (k : Look) (x : Pkt) (h : Hits) (i : Nat) (e : TabEnt) (r : BitVec 192)
    (route : Aim) (direct : Option (Nat × Nat)) (upper : Bool) : Fwd × Dev :=
  let dom := pvF r 8 0 14
  let kind := e.f 1 0 3
  let f := actionFwd x h i e
  if kind = 1 then ({ f with drop := some (.drRuleDrop, x.first) }, d)
  else if kind = 2 then d.aimed k x { f with reason := 0x10 } (.trap (e.f 12 0 10)) dom none upper
  else if e.f 1 6 1 = 1 then d.recircAction x i e f
  else
    let a := match direct with
      | some t => .port t.1 dom none
      | none => if e.f 1 3 1 = 1 then d.nh k (e.f 4 0 20) x.hash else route
    let reason := match a with
      | .trap _ => if kind = 3 then 0x11 else 0x10
      | _ => 0
    let g := d.aimed k x { f with reason := reason } a dom (direct.map (fun t => t.2)) upper
    g.2.withCopy x e g.1

/-- Forwarding without a rule: DIRECT's port, or the route or bridge result; NO_MATCH where the profile requires a rule. -/
def Dev.noRule (d : Dev) (k : Look) (x : Pkt) (h : Hits) (r : BitVec 192) (route : Aim) (direct : Option (Nat × Nat)) (upper : Bool) :
    Option Fwd × Dev :=
  let dom := pvF r 8 0 14
  if pvF r 12 2 1 = 1 then (none, d)
  else
    let f : Fwd := { prio := x.prio, routed := h.routed, edit := { routed := h.routed } }
    match direct with
    | some t => let g := d.aimed k x f (.port t.1 dom none) dom (some t.2) upper; (some g.1, g.2)
    | none =>
      let reason := match route with
        | .trap _ => 0x10
        | _ => 0
      let g := d.aimed k x { f with reason := reason } route dom none upper
      (some g.1, g.2)

/-- Steps 1 to 7 of Table 6-3 for a packet with no parse class: its forwarding, or NO_MATCH. -/
def Dev.resolveRule (d : Dev) (k : Look) (x : Pkt) (h : Hits) (r : BitVec 192) (direct : Option (Nat × Nat)) (upper : Bool) :
    Option Fwd × Dev :=
  let dom := pvF r 8 0 14
  if h.routed && h.route.isNone && decide (pvF r 12 1 1 = 1) then (none, d)
  else
    let route := if h.routed then
        (match h.route with
        | some e => d.nh k (e.2.f 4 0 20) x.hash
        | none => .drop .drNhInvalid)
      else d.bridge k h dom x.hash
    match h.rule with
    | none => d.noRule k x h r route direct upper
    | some (t, i, res) =>
      let ai := res % 2 ^ 18
      if k.broken.contains (tAction, ai) then (some { prio := x.prio, drop := some (.drTableParity, x.first) }, d)
      else match d.at_ k tAction ai with
      | some e => let g := d.action k x h ai e r route direct upper; (some g.1, g.2)
      | none =>
        ((d.bump .actionInvisible k.quad).record Ev.actionInvisible (.polders (2 ^ x.polder)) none
          (dat [(0, 1, t), (1, 4, i), (5, 4, ai), (9, 1, k.slot), (10, 1, k.quad)])).noRule k x h r route direct upper

/-! ### The weir at resolve (13 R417, R418) -/

/-- A packet's ECN field is ECT(0) or ECT(1). -/
def isEct (x : Pkt) : Bool :=
  let e := match ipVer x.prv x.bytes 2 with
    | 4 => layerBe x.prv x.bytes 2 1 1 % 4
    | 6 => layerBe x.prv x.bytes 2 1 1 / 16 % 4
    | _ => 0
  decide (e = 1 ∨ e = 2)

/-- The weir colours a packet that leaves resolve; the flag tells that it is red, and a red DROP takes the
destinations away. -/
def Dev.weirStep (d : Dev) (k : Look) (x : Pkt) (f : Fwd) : Fwd × Bool × Dev :=
  match f.weir.bind (fun w => (d.weir w).map (fun y => (w, y))) with
  | none => (f, false, d)
  | some (w, y) =>
    let (col, d) := d.weirColour w k.quad x.len (outerDei x.bytes)
    let requeue (p : Nat) : Fwd :=
      { f with
        prio := p
        dests := f.dests.map (fun t => match t with
          | .uni a q => .uni a (if f.fixed then q else 2 * p + q % 2)
          | .mc a _ => .mc a (p / 2)
          | .recirc a _ => .recirc a p
          | t => t) }
    match col with
    | .green => (f, false, d)
    | .yellow => (if y.cfg.yellow then requeue y.cfg.yellowPrio else f, false, d)
    | .red =>
      let drop : Fwd := { f with dests := [], drop := some (.drWeirRed, x.first) }
      match y.cfg.red with
      | 0 => (drop, true, d)
      | 1 => (if isEct x then { requeue y.cfg.redPrio with edit := { f.edit with ce := true } } else requeue y.cfg.redPrio, true, d)
      | _ => match x.ingress with
        | .wire p => if d.lanePolder p = some y.polder then (f, true, d.weirHold w p x.cls) else (drop, true, d)
        | _ => (drop, true, d)

/-! ### The whole of resolve -/

/-- The tenant of a packet's first pass (13 R403). -/
def Dev.firstTenant (d : Dev) (x : Pkt) (routed : Bool) (r : BitVec 192) : Option Nat :=
  d.tenantOf x.polder x.first (outerVid x.bytes) (tunVni x.prv x.bytes) (if routed then some (pvF r 10 0 14) else none)

/-- Lookups and resolve of a parsed packet: its forwarding, its learn event, whether the weir found it red, and
the packet with its tenant and hash. -/
def Dev.resolve (d : Dev) (k : Look) (x : Pkt) (direct : Option (Nat × Nat)) (upper : Bool) :
    Fwd × Option LrnEvent × Bool × Pkt × Dev :=
  let p := match x.ingress with
    | .wire a => pipeOf a
    | .host a => 4 * a
    | .recirc a => a
  let hl : Hits × Dev := match x.profile with
    | some r => d.lookups k x r
    | none => ({}, d)
  let h := hl.1
  let r := x.profile.getD 0
  let lr := match x.profile with
    | some r => hl.2.sourceLookup k x (pvF r 8 0 14)
    | none => (none, hl.2)
  let d := lr.2
  let x := if x.pass = 1 then { x with tenant := d.firstTenant x h.routed r } else x
  let x := { x with hash := flowHash (d.polder x.polder).hashSeed (flowInput x.prv x.bytes (pvF r 12 3 1 = 1) (x.tenant.getD 0)) }
  let byClass (d : Dev) (c : Nat) : Fwd × Dev :=
    let d := (d.bump .parseExc (8 * x.first + c)).liveCount (0x502 + 64 * p) 4096
    match direct with
    | some t => d.aimed k x { prio := x.prio } (.port t.1 (pvF r 8 0 14) none) 0 (some t.2) upper
    | none => d.defaultAction k x h c (x.profile.map (fun r => pvF r 8 0 14)) upper
  let out := match x.prv.excClass with
    | some c => byClass d c
    | none => match x.profile with
      | none => byClass d 0
      | some r => match d.resolveRule k x h r direct upper with
        | (some f, d) => (f, d)
        | (none, d) => byClass d 0
  if out.1.dests.isEmpty then (out.1, lr.1, false, x, out.2)
  else
    let w := out.2.weirStep k x out.1
    (w.1, lr.1, w.2.1, x, w.2.2)

end Sys2Proof.Machine
end

