-- ==== Sys2Proof/Machine/Admit.lean ====
section
/-! DEFINITION. A packet's entry: parser entry, admission, cut-through, multicast replication, the writing of its
cells, and its last byte (chapters 1, 4, 5, 8, 9, 10, 11). -/
namespace Sys2Proof.Machine

/-! ### Pipelines at work (18 R531, R532) -/

/-- The parser of a pipeline takes packets. -/
def Dev.parserUp (d : Dev) (p : Nat) : Bool := !(d.pipe p).asleep && !(d.pipe p).parseStopped && !(d.pipe p).actionStopped

/-- The device forwards, or drops at admission in SAFE_HOLD; in DIAGNOSTIC the path runs on the loaded tables
(18 R528, R529, Diagnostics). -/
def Dev.takesPackets (d : Dev) : Bool :=
  match d.bal.mode with
  | .forwarding | .draining | .safeHold | .diagnostic => true
  | _ => false

/-- Pause-all begins or ends for a port (10 R312). -/
def Dev.setPauseAll (d : Dev) (p : Nat) (on : Bool) : Dev := d.modFcp p (fun x => { x with pauseAll := on })

/-- A device mode, a polder state or a stopped parser applies pause-all to a port (05 R164, 10 R312, 18 R528, R529,
03 Table 3-6). -/
def Dev.wantPauseAll (d : Dev) (p : Nat) : Bool :=
  (match d.bal.mode with
  | .draining => true
  | .safeHold => !d.bal.holdIdle
  | .forwarding => match d.lanePolder p with
    | some q => match (d.polder q).st with
      | .draining => true
      | .safeHold => !(d.polder q).holdIdle
      | _ => false
    | none => false
  | _ => false) || (d.pipe (p / 32)).parseStopped || (d.pipe (p / 32)).actionStopped

/-- Pause-all of every configured port follows the modes, the polder states and the parsers. -/
def Dev.refreshPauseAll (d : Dev) : Dev :=
  d.portList.foldl (fun d p =>
    if (d.fcp p).pauseAll = d.wantPauseAll p then d else d.setPauseAll p (d.wantPauseAll p)) d

/-! ### Store faults (05 R163, R164; 08 R250) -/

/-- The parse of a packet, one of whose words may fail as it is fetched: a corrected word is executed, an uncorrectable one stops
the packet with STORE_FAULT and the pipeline with it; a word that the parse never fetches is not found to fail. -/
def Dev.parseFetch (d : Dev) (p : Nat) (f : Option StoreFlaw) (bytes : List Byte) : Prv × Dev :=
  let v := parseFrame (d.parseWord p) none bytes
  match f with
  | none => (v, d)
  | some f =>
    let w := parseFrame (d.parseWord p) (some f.word) bytes
    if w.stop ≠ stopStoreFault then (v, d)
    else if !f.bad then
      (v, ((d.bump .parseStoreCe p).liveMs (0x501 + 64 * p)).record Ev.parseStoreCorrected .shared (some (0x501 + 64 * p))
        (dat [(0, 1, p), (1, 2, f.word), (3, 8, f.syn)]))
    else
      let d := (d.modPipe p (fun x => { x with parseStopped := true })).setLive (0x500 + 64 * p)
      let d := d.modSrc (0x500 + 64 * p) (fun x => { x with lasting := f.lasting })
      (w, (d.refreshPauseAll).record Ev.parseStoreFault .shared (some (0x500 + 64 * p))
        (dat [(0, 1, p), (1, 2, f.word), (3, 1, f.stage), (4, 1, f.slot), (5, 1, b2n f.lasting), (6, 1, 1)]))

/-! ### Queues' cells (10 R313, 11 R339) -/

/-- Cells of an entry's packet. -/
def Dev.entCells (d : Dev) (e : Ent) : Nat := ((d.pkt? e.pid).map Pkt.need).getD 0
/-- Cells of a queue's entry that stand on die: those read back, or those written so far; none in the basin. -/
def Dev.dieCells (d : Dev) (e : Ent) : Nat :=
  match e.part with
  | .basin => 0
  | .ret => e.own.length
  | _ => ((d.pkt? e.pid).map (fun x => x.cells.length)).getD 0
/-- Cells held by packets admitted for a queue and not yet linked. -/
def Dev.waitingCells (d : Dev) (k : Nat) : Nat :=
  d.dp.pkts.foldl (fun n x => match x.2 with
    | some y => if y.waiting.any (fun t => decide (t.key = k)) then n + y.cells.length else n
    | none => n) 0
/-- A queue's cells on die: HEAD, RETURN and STAGING, and what has been admitted for it. -/
def Dev.onDie (d : Dev) (k : Nat) : Nat :=
  (d.queue k).ents.foldl (fun n e => n + d.dieCells e) (d.waitingCells k)
/-- All of a queue's cells, the basin portion included. -/
def Dev.queueCells (d : Dev) (k : Nat) : Nat :=
  (d.queue k).ents.foldl (fun n e => n + if e.part = .basin then d.entCells e else d.dieCells e) (d.waitingCells k)

/-! ### Segments (11 R336, R339) -/

def Dev.cxl (d : Dev) (i : Nat) : Cxl := tget d.spw.cxl {} i
/-- Segments that a tier holds: 0 for HBM, 1 + i for CXL port i (11 R335). -/
def Dev.tierSize (d : Dev) (t : Nat) : Nat :=
  if t = 0 then d.spw.map.spill * 4096
  else if (d.cxl (t - 1)).inService then (d.cxl (t - 1)).capMib * 4 else 0
/-- Segments in use, detached, stray or retired. -/
def Dev.segBusy (d : Dev) (s : Nat) : Bool :=
  d.spw.detached.contains s || d.spw.retired.contains s || d.spw.stray.contains s ||
    d.dp.queues.any (fun q => q.2.chain.contains s)
/-- Segments taken from a tier. -/
def Dev.tierUsed (d : Dev) (t : Nat) : Nat :=
  let inT (l : List Nat) : Nat := (l.filter (fun s => decide (s / 2 ^ 21 = t))).length
  inT d.spw.detached + inT d.spw.retired + inT d.spw.stray + d.dp.queues.foldl (fun n q => n + inT q.2.chain) 0
/-- A tier has a free segment. -/
def Dev.tierFree (d : Dev) (t : Nat) : Bool := decide (d.tierUsed t < d.tierSize t)
/-- The polder of a queue's port. -/
def keyPolder (d : Dev) (k : Nat) : Option Nat := d.lanePolder (destOf k).port
/-- Segments that a polder's queues hold (11 R339). -/
def Dev.polderSegs (d : Dev) (p : Nat) : Nat :=
  d.dp.queues.foldl (fun n q => if keyPolder d q.1 = some p then n + q.2.chain.length else n) 0
/-- GL_SPW_POLDER_CAP[p]: no limit at reset. -/
def Dev.polderCap (d : Dev) (p : Nat) : Nat := tget d.spw.caps 0xFFFFFF p
/-- A segment is obtainable for a queue. -/
def Dev.segObtainable (d : Dev) (k : Nat) : Bool :=
  (List.range 5).any d.tierFree && decide ((d.queue k).chain.length < (d.queue k).basinMax) &&
    match keyPolder d k with
    | some p => decide (d.polderSegs p < d.polderCap p)
    | none => false

/-- FS_SPW_BASIN_FULL follows the tiers; EV_BASIN_FULL marks each entry into the condition (11 R356, R357). -/
def Dev.refreshFull (d : Dev) : Dev :=
  let f := !(List.range 5).any d.tierFree
  if f = d.spw.full then d
  else
    let d := ({ d with spw := { d.spw with full := f } }).live 0xC20 f
    if f then d.record Ev.basinFull .shared (some 0xC20) 0 else d

/-- A segment returns to its free pool, or is retired for a lasting error (11 R349); its link record goes. -/
def Dev.freeSeg (d : Dev) (s : Nat) : Dev :=
  let d := { d with spw := { d.spw with links := tset d.spw.links none s none } }
  let d := if d.spw.condemned.contains s then
      (({ d with spw := { d.spw with condemned := d.spw.condemned.erase s, retired := d.spw.retired ++ [s] } }).setLive 0xC21).record
        Ev.segmentRetired .shared (some 0xC21) (dat [(0, 3, s)])
    else d
  d.refreshFull

/-- A queue whose BASIN and STAGING are empty is DRY; its emptied segments are free. -/
def Dev.dry (d : Dev) (k : Nat) : Dev :=
  let segs := (d.queue k).chain
  segs.foldl Dev.freeSeg (d.modQueue k (fun q => { q with flooded := false, chain := [], fill := 0 }))

/-- The flood test at enqueue (11 R339). -/
def Dev.floodTest (d : Dev) (k : Nat) : Dev :=
  let q := d.queue k
  if 8192 ≤ k ∨ q.threshold = 0 ∨ q.flooded ∨ d.onDie k < q.threshold then d
  else if d.segObtainable k then (d.modQueue k (fun q => { q with flooded := true })).bump .flood k
  else d.bump .floodDenied k

/-! ### Planes as admission sees them (09 R255, R256, R265) -/

def Dev.plane (d : Dev) (k : Nat) : Plane := tget d.swc.planes {} k
/-- The spray set: the ACTIVE planes. -/
def Dev.spraySet (d : Dev) : List Nat := (List.range 4).filter (fun k => decide ((d.plane k).st = .active))
/-- The multicast plane of an ingress pipeline by the spray set as it stands (09 R256). -/
def Dev.mcWant (d : Dev) (p : Nat) : Option Nat :=
  ((List.range 4).map (fun i => (p + i) % 4)).find? (fun k => decide ((d.plane k).st = .active))
/-- The multicast plane that an ingress pipeline is on (09 R265). -/
def Dev.mcPlane (d : Dev) (p : Nat) : Nat := (tget d.swc.mcOn none p).getD (p % 4)
/-- The multicast admissions of a pipeline run: it stands on its plane, and is not about to move to another. -/
def Dev.mcReady (d : Dev) (p : Nat) : Bool := decide (d.mcWant p = some (d.mcPlane p))

/-- The pipeline from which a packet's cells are written. -/
def Pkt.pipe (x : Pkt) : Nat :=
  match x.ingress with
  | .wire p => pipeOf p
  | .host e => 4 * e
  | .recirc p => p

/-! ### Admission (09 R267, 10 R295-R297, R322, 11 R347) -/

/-- Buckets on the path of a queue of a port, minimum and maximum: queue (unicast), group, port (12 Table 12-1). -/
def pathBuckets (p q : Nat) : List Nat :=
  (if q < 16 then [5 + q, 1 + q / 4] else [1 + (q - 16)]).flatMap (fun n => [bucketKey p n false, bucketKey p n true]) ++
    [bucketKey p 0 false]
/-- A bucket is negative; an unshaped one is never tested (09 R267, 12 R370). -/
def Bucket.short (b : Bucket) : Bool := decide (b.rate ≠ 0xFFFFFFFF ∧ b.credit < 0)
/-- The queue number of a destination within its port: unicast 0-15, multicast 16-19. -/
def Dest.qnum : Dest → Nat
  | .uni _ q => q
  | .mc _ m => 16 + m
  | .recirc _ q => q
  | .host _ q => q

/-- Every condition of R267 for a copy of a packet. -/
def Dev.cutThrough (d : Dev) (x : Pkt) (t : Dest) : Bool :=
  let p := t.port
  match x.ingress with
  | .wire i =>
    t.front && decide ((d.port p).st = .up ∧ (d.port p).hold = .opened) && (d.queue t.key).ents.isEmpty &&
      decide (d.waitingCells t.key = 0) && !(d.txs p).any (fun y => decide (y.dest = t)) && !(d.fcp p).paused t.qnum &&
      !(d.queue t.key).flooded && (pathBuckets p t.qnum).all (fun b => !(d.bucket b).short) &&
      !(d.tide p).enabled && decide (d.macRate p ≤ d.macRate i)
  | _ => false

/-- Why a copy is not admitted at cycle 30: the count and its object; none: it may be. A receive queue that is DISABLED or
STOPPED takes no arrival: the frames queued before stay (DESIGN CHOICE, assumption 130; 02 R44). -/
def Dev.copyRefused (d : Dev) (x : Pkt) (t : Dest) : Option (Ctr × Nat) :=
  match t with
  | .recirc p _ =>
    if d.bal.mode = .safeHold then some (.drSafeHold, x.first)
    else if (d.pipe p).parseStopped || (d.pipe p).actionStopped then some (.drStoreFault, x.first) else none
  | .host e q =>
    let id := 256 * e + q
    if d.bal.mode = .safeHold then some (.drSafeHold, x.first)
    else if !(d.ep e).up || decide ((d.rxq e q).st = .disabled ∨ (d.rxq e q).st = .stopped) then some (.drHostQueueDown, id)
    else if (d.rxq e q).st = .starved then some (.drHostRxStarved, id) else none
  | _ =>
    let p := t.port
    if d.bal.mode = .safeHold then some (.drSafeHold, x.first)
    else if d.bal.mode = .forwarding && d.polderHeld p then some (.drPolderHold, x.first)
    else if !d.isPort p || d.shutPort p then some (.drEgressDown, x.first)
    else if (d.port p).maxFrame < x.len ∧ !d.cutThrough x t then some (.drTxOversize, p)
    else none

/-- What the ladder of R295 and R347 decides for a packet's first cell: the pool, and whether it is staged for the
LRQ. -/
def Dev.admitPool (d : Dev) (a c len : Nat) : Option (Pool × Bool) :=
  let l := d.lrq a c
  let x := d.acct a
  if 512 ≤ a ∨ l.mib = 0 then (d.ladder a c true).map (fun p => (p, false))
  else
    let fits := decide (l.bytes + l.stagedBytes + len + 32 ≤ l.mib * 2 ^ 20)
    let room := decide (x.hu.getD c 0 < x.hr.getD c 0)
    let fs := d.freeShared
    if !l.frames.isEmpty || !l.staged.isEmpty then (if room && fits then some (.headroom, true) else none)
    else if sumN x.m < x.min then some (.minimum, false)
    else if !x.closed.testBit c && decide (0 < fs) then some (.shared, false)
    else if x.hu.getD c 0 + 1024 < x.hr.getD c 0 then some (.headroom, false)
    else if room && fits then some (.headroom, true)
    else if decide (0 < fs) && decide (x.drawn < x.max) && d.underMax a 0 then some (.overflow, false)
    else none

/-- DR_HEADROOM_OVERRUN of a frame: counted per port and per class, with its event, which tells the frames of that port and class
dropped since their last record, and its source (10 R317, R330). -/
def Dev.overrun (d : Dev) (port cls : Nat) : Dev :=
  let d := (d.bump .drHeadroomOverrun port).bump .drHeadroomOverrun (65536 + 8 * port + cls)
  let d := (d.modFcp port (fun x => { x with lastOverrun := some d.bal.tick })).pauseSource port
  let n := tget d.evr.overruns 0 (8 * port + cls) + 1
  let d := { d with evr := { d.evr with overruns := tset d.evr.overruns 0 (8 * port + cls) 0 } }
  d.record Ev.headroomOverrun (d.attribution (0x300 + port)) (some (0x300 + port)) (dat [(0, 2, port), (2, 1, cls), (3, 4, n)])

/-- Takes one cell for a packet from a pool; none: no list can serve it in this core cycle. -/
def Dev.takeFor (d : Dev) (x : Pkt) (pool : Pool) (refs : Nat) : Option (Nat × Dev) :=
  match d.pickList with
  | none => none
  | some f => match d.takeCell f with
    | some (c, d) =>
      let d := { d with bpm := { d.bpm with rrList := (f + 1) % 16 } }
      let n := x.cells.length
      some (c, ((d.charge x.acct x.cls pool).holdCell c x.acct x.cls refs x.cells.getLast? (decide (n + 1 = x.need))).judgeAll)
    | none => none

/-- The lowest free replication descriptor. -/
def Dev.freeRepl (d : Dev) : Option Nat :=
  (List.range 8192).find? (fun i => (tget d.swc.repl none i).isNone)

/-- Enters a new packet into the table of packets. -/
def Dev.newPkt (d : Dev) (x : Pkt) : Nat × Dev :=
  (d.dp.nextPid, { d with dp := { d.dp with nextPid := d.dp.nextPid + 1, pkts := tset d.dp.pkts none d.dp.nextPid (some x) } })

/-- The key of queue `q` of a front-panel port: unicast 0-15, multicast 16-19. -/
def portKey (p q : Nat) : Nat := if q < 16 then 16 * p + q else 8192 + 4 * p + (q - 16)
/-- The group of a queue of a port. -/
def groupOf (q : Nat) : Nat := if q < 16 then q / 4 else q - 16

/-- A queue that becomes active starts with a deficit of 0, and so does a group none of whose members held a frame (12 R366,
R367). -/
def Dev.activate (d : Dev) (t : Dest) : Dev :=
  let bare (q : Nat) : Bool := (d.queue (portKey t.port q)).ents.isEmpty
  if t.front && bare t.qnum then
    d.modSched t.port (fun s =>
      let s := s.modMember t.qnum (fun m => { m with def_ := 0 })
      if (groupMembers (groupOf t.qnum)).all bare then s.modMember (20 + groupOf t.qnum) (fun m => { m with def_ := 0 }) else s)
  else d

/-- A copy's entry in its queue: in STAGING where the packet joined the queue as flooded (11 R339). -/
def Dev.entOf (d : Dev) (pid : Nat) (x : Pkt) (t : Dest) (ct : Bool) : Ent :=
  { pid := pid, ct := ct, enqNs := d.timeNsAll, enqTick := d.bal.tick
    part := if x.staging.contains t.key && (d.queue t.key).flooded then .staging else .head }

/-- A copy joins the tail of its queue; one that joined a flooded queue before the flood stands in HEAD, before the parts behind it
(11 R338). -/
def Dev.enqueue (d : Dev) (pid : Nat) (x : Pkt) (t : Dest) (ct : Bool) : Dev :=
  let e := d.entOf pid x t ct
  let join (q : Queue) : List Ent :=
    if q.flooded && decide (e.part = .head) then
      let h := q.ents.takeWhile (fun f => decide (f.part = .head))
      h ++ [e] ++ q.ents.drop h.length
    else q.ents ++ [e]
  ((d.activate t).modQueue t.key (fun q => { q with ents := join q })).trigger (pipeOf t.port)

/-- Copies that cycle 30 refuses are metered as dropped. -/
def Dev.lostCopies (d : Dev) (x : Pkt) (n : Nat) : Dev := (List.range n).foldl (fun d _ => d.meter x (pipeOf x.first) 6 x.len) d

/-- Cycle 30 looks at one copy: it stays in the list, or is skipped or refused and counted. -/
def Dev.judgeCopy (d : Dev) (x : Pkt) (multi : Bool) (ts : List Dest) (t : Dest) : List Dest × Dev :=
  let skipped : Bool := match t with
    | .mc p _ => multi && d.countsDown p && decide (d.bal.mode ≠ .safeHold)
    | _ => false
  if skipped then (ts, d.bump .mcSkipDown t.port)
  else match d.copyRefused x t with
    | some c => (ts, (if c.1 = .drPolderHold then d.heldDrop x t.port else d.bump c.1 c.2).lostCopies x 1)
    | none => (ts ++ [t], d)

/-- A port or a recirculation point whose queue the replication engine serves. -/
def Dest.isMc : Dest → Bool
  | .mc _ _ => true
  | _ => false

/-- A mask with a bit for each of some numbers. -/
def maskOf (l : List Nat) : Nat := l.eraseDups.foldl (fun n p => n + 2 ^ p) 0

/-- The replication descriptor of a multicast packet is taken (09 R277). -/
def Dev.takeRepl (d : Dev) (pid : Nat) (x : Pkt) (i : Nat) (mcs cts : List Dest) (domain : Nat) : Dev :=
  let pipes (l : List Dest) : Nat := maskOf (l.map (fun t => pipeOf t.port))
  let d := { d with swc := { d.swc with repl := tset d.swc.repl none i (some
    { pid := pid, copyMask := maskOf (mcs.map Dest.port), pipeMask := pipes mcs, copiesLeft := mcs.length, head := x.cells.headD 0
      domain := domain, ingress := x.first, polder := x.polder, prio := x.prio, cells := x.need
      ctMask := pipes (cts.filter mcs.contains) }) } }
  if d.replFull then d.setLive 0xA31 else d

/-- A frame staged for an LRQ (11 R343). -/
def Dev.stageLrq (d : Dev) (pid : Nat) (x : Pkt) : Dev :=
  { d with spw := { d.spw with lrqs := tmod d.spw.lrqs {} (8 * x.acct + x.cls) (fun l =>
      { l with staged := l.staged ++ [pid], stagedBytes := l.stagedBytes + x.len + 32 }) } }

/-- Queues that mark a packet with CE at its admission (10 R313). -/
def Dev.ecnMarks (d : Dev) (x : Pkt) (ts cts : List Dest) : List Nat :=
  (ts.filter (fun t => t.front && decide ((d.fcp t.port).ecnCells ≠ 0 ∧ (d.fcp t.port).ecnCells ≤ d.queueCells t.key) &&
    isEct x && !cts.contains t)).map Dest.key

/-- Cycle 31 with its first cell in hand: marks, cut-through grants, the replication descriptor, the flood test. -/
def Dev.admitAs (d : Dev) (pid : Nat) (x : Pkt) (ts cts mcs : List Dest) (repl : Option Nat) (staged : Bool) (domain cell : Nat) : Dev :=
  let marked := d.ecnMarks x ts cts
  let d := marked.foldl (fun d k => d.bump .ecnMarked (destOf k).port) d
  let d := if x.mirror then d.bump .mirrorCopies (x.edit.mirror.getD 16384 - 16384) else d
  let rest := ts.filter (fun t => !cts.contains t)
  let d := if staged then d.stageLrq pid x else rest.foldl (fun d t => d.floodTest t.key) d
  let x := { x with
    ask := none, cells := [cell], copies := ts.length, marked := marked, repl := repl, lrq := staged, lastWrite := d.bal.tick
    admTick := d.bal.tick, mcHold := max 1 (min 100000 (tget d.swc.mcHoldUs 100 x.polder))
    ctTo := cts, waiting := rest
    staging := (rest.filter (fun t => (d.queue t.key).flooded)).map Dest.key }
  let d := match repl with
    | some i => d.takeRepl pid x i mcs cts domain
    | none => d
  let d := d.modPkt pid (fun _ => x)
  let d := cts.foldl (fun d t => (d.bump .ctGrant t.port).enqueue pid x t true) d
  rest.foldl (fun d t => if staged then d else d.trigger (pipeOf t.port)) d

/-- A request ends without a cell: no copy is left. -/
def Dev.endAsk (d : Dev) (pid : Nat) (x : Pkt) (n : Nat) : Dev :=
  ((d.lostCopies x n).modPkt pid (fun y => { y with ask := none })).tidy pid

/-- A packet's request for its first cell is presented: the copies that may be admitted, the replication descriptor, the
ladder, the cell (cycles 30 and 31). Refused, it waits, and is presented again in a later core cycle; a front-panel packet
that the ladder refuses is dropped for headroom overrun, a mirror copy as DR_MIRROR_COPY (09 R256, R265, R266, R277; 10 R287,
R295, R297). -/
def Dev.request (d : Dev) (pid : Nat) : Dev :=
  match d.pkt? pid with
  | none => d
  | some x => match x.ask with
    | none => d
    | some a =>
      let r := a.dests.foldl (fun (acc : List Dest × Dev) t => acc.2.judgeCopy x a.multi acc.1 t) ([], d)
      let ts := r.1
      let d := r.2
      if ts.isEmpty then (if a.multi then d.bump .mcEmpty x.polder else d).endAsk pid x 0
      else
        let d := d.modPkt pid (fun y => { y with ask := some { a with dests := ts } })
        let mcs := ts.filter Dest.isMc
        let repl := if mcs.isEmpty then none else d.freeRepl
        if d.spraySet.isEmpty || (!mcs.isEmpty && (repl.isNone || !d.mcReady x.pipe)) then d
        else match d.admitPool x.acct x.cls x.len with
        | none =>
          if x.acct < 512 then (d.overrun x.acct x.cls).endAsk pid x ts.length
          else if x.acct = 533 then (d.bump .drMirrorCopy (x.edit.mirror.getD 16384 - 16384)).endAsk pid x ts.length
          else d
        | some p =>
          let cts := if p.2 then [] else ts.filter (d.cutThrough x)
          match d.takeFor x p.1 ts.length with
          | none => d
          | some r => r.2.admitAs pid x ts cts mcs repl p.2 a.domain r.1

/-! ### The order of grants within a core cycle (10 R299) -/

/-- The account of a packet. -/
def Dev.acctOf (d : Dev) (pid : Nat) : Nat := ((d.pkt? pid).map Pkt.acct).getD 0

/-- The packets of a core cycle that ask for a cell are served: first those that draw from a reserved minimum or from headroom,
then the others account by account in round robin; the pointer moves behind the last account served from the shared pool. `pool`
tells what a packet would draw, `give` serves it. -/
def Dev.inTurn (d : Dev) (ids : List Nat) (pool : Dev → Nat → Option Pool) (give : Dev → Nat → Dev) : Dev :=
  let own (d : Dev) (i : Nat) : Bool := decide (pool d i = some .minimum ∨ pool d i = some .headroom)
  let r := ids.foldl (fun (acc : List Nat × Dev) i => if own acc.2 i then (acc.1, give acc.2 i) else (acc.1 ++ [i], acc.2)) ([], d)
  let d := r.2
  let far (i : Nat) : Nat := (d.acctOf i + 534 - d.bpm.rrAcct) % 534
  let order := sortBy (fun i j => decide (far i ≤ far j)) r.1
  order.foldl (fun (d : Dev) i =>
    let shared := decide (pool d i = some .shared ∨ pool d i = some .overflow)
    let a := d.acctOf i
    let d := give d i
    if shared then { d with bpm := { d.bpm with rrAcct := (a + 1) % 534 } } else d) d

/-- The packets whose requests wait. -/
def Dev.asking (d : Dev) : List Nat :=
  d.dp.pkts.filterMap (fun x => x.2.bind (fun y => if y.ask.isSome then some x.1 else none))

/-- Every waiting request is presented (10 R297, R299). -/
def Dev.presentAll (d : Dev) : Dev :=
  d.inTurn d.asking (fun d i => (d.pkt? i).bind (fun x => (d.admitPool x.acct x.cls x.len).map (fun p => p.1))) Dev.request

/-! ### The ledger's update (13 R414) -/

/-- Slots of the LEDGER region (13 R414). -/
def Dev.ledgerSlots (d : Dev) : Nat := d.spw.map.ledger * 2 ^ 24
/-- Home slot of a flow. -/
def Dev.homeSlot (d : Dev) (key : List Byte) : Nat := flowHash 0x4C454447 key % max 1 d.ledgerSlots

/-- A flow's counts take a packet. -/
def Flow.add (f : Flow) (bytes sec tick : Nat) : Flow :=
  { f with
    bytes := f.bytes + bytes, pkts := f.pkts + 1
    firstSec := if f.pkts = 0 then sec else f.firstSec
    lastSec := sec, lastTick := tick }

/-- A metered packet of a polder whose ledger is enabled updates its flow, or misses the cache. -/
def Dev.ledgerAdd (d : Dev) (x : Pkt) : Dev :=
  match x.tenant with
  | none => d
  | some t =>
    if !(tget d.mrp.ledgers {} x.polder).enable then d
    else
      let key := flowInput x.prv x.bytes (pvF (x.profile.getD 0) 12 3 1 = 1) t
      let k : BitVec 320 := BitVec.ofNat 320 (leNat key)
      let s := d.homeSlot key
      let sec := timeSec d.tmu.time
      match tget d.mrp.flows none s with
      | some f =>
        if f.cached && decide (f.key = k ∧ f.polder = x.polder) then
          { d with mrp := { d.mrp with flows := tset d.mrp.flows none s (some (f.add x.len sec d.bal.tick)) } }
        else { d with mrp := { d.mrp with misses := d.mrp.misses ++ [({ key := k, polder := x.polder, tenant := t, firstSec := sec, lastSec := sec, lastTick := d.bal.tick, exportTick := d.bal.tick, bytes := x.len, pkts := 1 }, s)] } }
      | none =>
        { d with mrp := { d.mrp with misses := d.mrp.misses ++ [({ key := k, polder := x.polder, tenant := t, firstSec := sec, lastSec := sec, lastTick := d.bal.tick, exportTick := d.bal.tick, bytes := x.len, pkts := 1 }, s)] } }

/-! ### Mirror copies (08 R242-R244) -/

/-- The mirror copy of a packet through a session: a packet of its own, which asks for its cells under account 533; the session
is read here, in the ingress quadrant's copy. -/
def Dev.mirror (d : Dev) (k : Look) (x : Pkt) (session : Nat) : Dev :=
  let i := 16384 + session
  match d.tab tRewrite i with
  | none => d.bump .drMirrorCopy session
  | some e =>
    if !e.vis.testBit k.slot || e.bad.testBit k.quad || k.broken.contains (tRewrite, i) then d.bump .drMirrorCopy session
    else if e.polder ≠ x.polder then d.dikeBlock x.polder
    else
      let key := 64 * k.quad + session
      let n := tget d.rle.mirrorSkip 0 key
      let d := { d with rle := { d.rle with mirrorSkip := tset d.rle.mirrorSkip 0 key ((n + 1) % 2 ^ (e.f 6 4 4)) } }
      if n ≠ 0 then d
      else
        let t : Option Dest := if e.f 1 0 1 = 1 then d.hostDest x.polder (e.f 2 0 10) else some (.uni (e.f 2 0 10) (e.f 2 10 4))
        match t with
        | none => d.dikeBlock x.polder
        | some t =>
          (d.newPkt { x with
            acct := 533, cls := 0, mirror := true, metered := false, learn := none, reason := 0x20, trunc := false, oldCells := []
            edit := { mirror := some i, session := e.image, tagging := false }, tsReq := none, ask := some { dests := [t] } }).2

/-! ### Parser entry -/

/-- The time stamp of a packet that enters now. -/
def Dev.stampNow (d : Dev) (x : Pkt) : Pkt :=
  { x with tsSec := timeSec d.tmu.time, tsNs := timeNano d.tmu.time, tsFrac := timeFrac d.tmu.time, epoch := d.mrp.epoch }

/-- The packet of a frame from the wire (10 R292). -/
def Dev.wirePkt (d : Dev) (port polder : Nat) (bytes : List Byte) : Pkt :=
  let x := d.fcp port
  let pcp := (outerPcp bytes).getD x.defPcp
  let c := if x.pauseMode then 0 else pcp
  d.stampNow { root := d.dp.nextPid, bytes := bytes, ingress := .wire port, first := port, polder := polder, cls := c
               prio := x.prioMap.getD c 0, acct := port, gen := d.genTag, tsSec := 0, tsNs := 0, epoch := 0 }

/-- The packet of a host transmit frame (02 R63). -/
def Dev.hostPkt (d : Dev) (ep : Nat) (h : HostTx) : Pkt :=
  d.stampNow { root := d.dp.nextPid, bytes := h.bytes, ingress := .host ep, first := 528 + ep, polder := h.polder, cls := 0
               prio := (outerPcp h.bytes).getD 0, acct := 528 + ep, gen := d.genTag, tsSec := 0, tsNs := 0, epoch := 0
               tsReq := h.tsReq, whole := true }

/-- A packet's tag names the generation that forced retirement has ended (06 R189). -/
def Pkt.dead (x : Pkt) : Bool := x.doomed

/-- What resolve decides is counted: tenant counters and the ledger on the first pass, the drop counter, the empty copy set, and a
later pass's drop (09 R277, 13 R404, R414). -/
def Dev.countResolved (d : Dev) (p : Nat) (x : Pkt) (f : Fwd) (red keep : Bool) : Dev :=
  let d := if x.pass = 1 && keep then d.meter x p 0 x.len else d
  let d := if x.pass = 1 && keep && red then d.meter x p 4 x.len else d
  let d := match f.drop with
    | some c => d.bump c.1 c.2
    | none => if f.multi && f.dests.isEmpty then d.bump .mcEmpty x.polder else d
  let d := if x.pass ≠ 1 && f.dests.isEmpty then d.meter x p 6 x.len else d
  if x.pass = 1 && keep then d.ledgerAdd x else d

/-- A host frame is longer than the maximum of the one port it is for (02 R63). -/
def Dev.overLong (d : Dev) (h : HostTx) (f : Fwd) : Bool :=
  match f.dests with
  | [t] => t.front && decide ((d.port t.port).maxFrame < h.bytes.length + 4)
  | _ => false

/-- The write-backs of a host frame's descriptors once its destination is known: BAD_LENGTH, or ACCEPTED, whose EOP descriptor
waits for the time of egress where that was asked for (02 R62, R63). -/
def Dev.txSettle (d : Dev) (ep : Nat) (h : HostTx) (bad : Bool) : Dev :=
  let d := if (d.ep ep).up then h.descs.dropLast.foldl (fun d a => d.emit (.hostWrite ep (a + 31) [0x80])) d else d
  if h.tsReq.isSome && !bad then d else d.txWriteBack ep h.queue (h.descs.getLastD 0) 0 0 (if bad then 2 else 0)

/-- The pass of a packet through parser, lookup and resolve, each decision taken once (01 R31, R33). What it resolved to asks for
its first cell, and so does its mirror copy. `h` is the host frame that the packet carries on its first pass. -/
def Dev.runPass (d : Dev) (p : Nat) (x : Pkt) (h : Option HostTx) (flaws : Flaws) (upper : Bool) : Dev :=
  let o := d.parseFetch p flaws.store x.bytes
  let d := o.2
  let k : Look := { p := x.polder, slot := d.slotFor x, quad := p / 4, broken := flaws.parity.map (fun f => (f.1, f.2.1)) }
  let x := { x with prv := o.1 }
  let x := if x.pass = 1 then { x with profile := d.profileOf k x } else x
  let r := d.resolve k x (h.bind HostTx.direct) upper
  let bad := (h.map (fun y => r.2.2.2.2.overLong y r.1)).getD false
  let f := if bad then { r.1 with dests := [] } else r.1
  let red := r.2.2.1
  let keep := !f.dests.isEmpty || (red && f.drop = some (.drWeirRed, r.2.2.2.1.first))
  let x := { r.2.2.2.1 with
    prio := f.prio, rule := f.rule, reason := f.reason, trunc := f.trunc, edit := f.edit, learn := r.2.1
    metered := r.2.2.2.1.metered || keep
    tsReq := if bad then none else r.2.2.2.1.tsReq
    ask := if f.dests.isEmpty then none else some { dests := f.dests, multi := f.multi && f.drop.isNone, domain := f.edit.domain } }
  let d := r.2.2.2.2.countResolved p x f red keep
  let d := match h, x.ingress with
    | some y, .host e => d.txSettle e y bad
    | _, _ => d
  let n := d.newPkt x
  let d := match f.mirror with
    | some s => n.2.mirror k x s
    | none => n.2
  ((flaws.parity.foldl (fun d f => d.parityRead (p / 4) f.1 f.2.1 f.2.2) d).touch p).tidy n.1

/-- A frame of the MAC Control type is consumed by the MAC and never forwarded (10 R311). -/
def isMacControl (bytes : List Byte) : Bool := decide (beNat ((bytes.drop 12).take 2) = 0x8808)

/-- The port through which a packet entered on its current pass. -/
def Ingress.port : Ingress → Nat
  | .wire p => p
  | .host e => 528 + e
  | .recirc p => 512 + p

/-- A packet of a port waits for its first cell: its port presents no other until then. -/
def Dev.portAsks (d : Dev) (port : Nat) : Bool :=
  d.dp.pkts.any (fun x => match x.2 with
    | some y => y.ask.isSome && !y.mirror && decide (y.ingress.port = port)
    | none => false)

/-- The ports of a pipeline, in the order of its round robins: its lanes, its recirculation port, its host port (01 R10, R17). -/
def pipePorts (p : Nat) : List Nat :=
  (List.range 32).map (fun l => 32 * p + l) ++ [512 + p] ++ (if p % 4 = 0 then [528 + p / 4] else [])

/-- A port has a packet that is ready to enter the parser. -/
def Dev.portReady (d : Dev) (port : Nat) : Bool :=
  !d.portAsks port &&
    (if port < 512 then !(d.port port).skid.isEmpty && (d.lanePolder port).isSome
    else if port < 528 then !(tget d.dp.loop [] (port - 512)).isEmpty
    else !(tget d.dp.inject [] (port - 528)).isEmpty)

/-- The oldest frame that a front-panel port has received enters the parser. -/
def Dev.wireEntry (d : Dev) (port : Nat) (flaws : Flaws) (upper : Bool) : Dev :=
  match (d.port port).skid, d.lanePolder port with
  | bytes :: rest, some p =>
    let d := d.modPort port (fun x => { x with skid := rest, active := true })
    let d := (d.bump .rxFrames port).bump .rxBytes port (bytes.length + 4)
    if bytes.length < 60 then d.bump .drRxRunt port
    else d.runPass (port / 32) (d.wirePkt port p bytes) none flaws upper
  | _, _ => d

/-- The oldest transmit frame of an endpoint enters the parser. -/
def Dev.hostEntry (d : Dev) (ep : Nat) (flaws : Flaws) (upper : Bool) : Dev :=
  match tget d.dp.inject [] ep with
  | [] => d
  | h :: rest =>
    let d := { d with dp := { d.dp with inject := tset d.dp.inject [] ep rest } }
    d.runPass (4 * ep) (d.hostPkt ep h) (some h) flaws upper

/-- The oldest frame of a recirculation port enters the parser: a pass of its packet, written anew (08 R245, R246). -/
def Dev.loopEntry (d : Dev) (p : Nat) (flaws : Flaws) (upper : Bool) : Dev :=
  match tget d.dp.loop [] p with
  | [] => d
  | (pid, bytes) :: rest =>
    let d := { d with dp := { d.dp with loop := tset d.dp.loop [] p rest } }
    match d.pkt? pid with
    | none => d
    | some x =>
      let d := ((d.modPkt pid (fun y => { y with copies := y.copies - 1, tsReq := none })).tidy pid).bump .recircPasses p
      let y : Pkt := { x with
        bytes := bytes, ingress := .recirc p, cls := 0, acct := 512 + p, pass := x.pass + 1
        reason := 0, edit := {}, whole := false, cells := [], written := 0, oldCells := x.cells, oldAcct := x.acct
        waiting := [], marked := [], trunc := false, repl := none, copies := 0, ctTo := [], learn := none, lrq := false
        staging := [], left := [], gapped := [], refused := false }
      if x.dead then (((d.bump .drGenRetired x.first).meter x p 6 x.len).newPkt y).2 else d.runPass p y none flaws upper

/-- The frames of a recirculation port are dropped while its pipeline is stopped (05 R164). -/
def Dev.dropLoop (d : Dev) (p : Nat) : Dev :=
  (tget d.dp.loop [] p).foldl (fun d f =>
    d.copyDrop (partyEgress p) { pid := f.1 } (.recirc p 0) .drStoreFault (((d.pkt? f.1).map Pkt.first).getD 0))
    { d with dp := { d.dp with loop := tset d.dp.loop [] p [] } }

/-- The port that the parser of a pipeline serves next: the first ready port from the round-robin pointer on (05 R142). -/
def Dev.parseTurn (d : Dev) (p : Nat) : Option Nat :=
  nextRound (pipePorts p).length (tget d.dp.rrParse ((pipePorts p).length - 1) p) (fun i => d.portReady ((pipePorts p).getD i 0))

/-- The next packet of a pipeline enters its parser. -/
def Dev.parseNext (d : Dev) (p : Nat) (flaws : Flaws) (upper : Bool) : Dev :=
  match d.parseTurn p with
  | none => d
  | some i =>
    let d := { d with dp := { d.dp with rrParse := tset d.dp.rrParse ((pipePorts p).length - 1) p i } }
    let port := (pipePorts p).getD i 0
    if port < 512 then d.wireEntry port flaws upper
    else if port < 528 then d.loopEntry p flaws upper
    else d.hostEntry (port - 528) flaws upper

/-- A frame reaches the MAC of a port of pipeline `p`: it waits for the parser, in the skid buffers where that does not take it at
once; a port in far-end loopback sends it back, and a port that is not UP receives nothing (04 R127, 18 R536). -/
def Dev.wireArrive (d : Dev) (p port : Nat) (bytes : List Byte) : Dev :=
  if port / 32 ≠ p || !d.isPort port then d
  else if d.loopKind port = 2 then d.emit (.frame port (wireFrame bytes false))
  else if decide ((d.port port).st ≠ .up ∨ d.loopKind port ≠ 0) || isMacControl bytes then d
  else if d.parserUp p && !d.portAsks port then d.modPort port (fun x => { x with skid := x.skid ++ [bytes] })
  else d.intoSkid port bytes

/-- HEADER_WINDOW_COMPLETE: in one core cycle of pipeline `pipe`, header windows of its front-panel ports are held (`wire`: port
and frame), the next packet in round robin over the pipeline's ports makes its pass, and every request that waits for a cell is
presented (01 R31, 05 R142, 10 R297). -/
def doHeaderWindowComplete (pipe : Nat) (wire : List (Nat × List Byte)) (flaws : Flaws) (upper : Bool) (d : Dev) : Dev :=
  if 16 ≤ pipe || !d.takesPackets then d
  else
    let d := wire.foldl (fun d w => d.wireArrive pipe w.1 w.2) d
    let d := if (d.pipe pipe).parseStopped || (d.pipe pipe).actionStopped then d.dropLoop pipe
      else if d.parserUp pipe then d.parseNext pipe flaws upper else d
    d.presentAll

/-! ### The last byte (04 R121, R122; 07 R206; 09 R271) -/

/-- The copies of a packet that wait to be linked are dropped, each counted. -/
def Dev.dropWaiting (d : Dev) (pid : Nat) (party : Nat) (c : Ctr) (idx : Pkt → Dest → Nat) : Dev :=
  match d.pkt? pid with
  | none => d
  | some x => x.waiting.foldl (fun d t =>
      (d.modPkt pid (fun y => { y with waiting := y.waiting.erase t })).copyDrop party { pid := pid } t c (idx x t)) d

/-- The copies of a packet that stand in queues are dropped, each counted. -/
def Dev.dropQueued (d : Dev) (pid : Nat) (party : Nat) (c : Ctr) (idx : Pkt → Dest → Nat) : Dev :=
  match d.pkt? pid with
  | none => d
  | some x => (d.dp.queues.map (fun q => q.1)).foldl (fun d k =>
      ((d.queue k).ents.filter (fun e => decide (e.pid = pid))).foldl (fun d e =>
        (d.modQueue k (fun q => { q with ents := q.ents.filter (fun f => decide (f ≠ e)) })).copyDrop party e (destOf k) c
          (idx x (destOf k))) d) d

/-- The frames of a packet that are being transmitted end at the cells in hand, with a stomped FCS (09 R270). -/
def Dev.cutTx (d : Dev) (pid : Nat) : Dev :=
  { d with dp := { d.dp with tx := d.dp.tx.map (fun t =>
      (t.1, t.2.map (fun y => if y.ent.pid = pid then { y with stomp := true, need := y.got } else y))) } }

/-- A packet staged for a long-reach queue leaves it. -/
def Dev.unstage (d : Dev) (pid : Nat) (x : Pkt) : Dev :=
  if !x.lrq then d
  else { d with spw := { d.spw with lrqs := tmod d.spw.lrqs {} (8 * x.acct + x.cls) (fun l =>
    if l.staged.contains pid then { l with staged := l.staged.erase pid, stagedBytes := l.stagedBytes - (x.len + 32) } else l) } }

/-- A packet is dropped whole: copies not started are dropped, those on the wire end where they are; no further cell is asked
for, and a request that waits ends. -/
def Dev.discardPkt (d : Dev) (pid party : Nat) (c : Ctr) (idx : Pkt → Dest → Nat) : Dev :=
  match d.pkt? pid with
  | none => d
  | some x =>
    let d := match x.ask with
      | some a => d.endAsk pid x a.dests.length
      | none => d
    ((((((d.unstage pid x).modPkt pid (fun y => { y with refused := true })).cutTx pid).dropWaiting pid party c idx).dropQueued pid party c idx)).tidy
      pid

/-- A packet whose frame ended with a bad FCS: the copies not granted are dropped; those granted meet the STOMP of its EOP cell
(09 R271). -/
def Dev.badFrame (d : Dev) (pid : Nat) : Dev :=
  match d.pkt? pid with
  | none => d
  | some x =>
    let d := match x.ask with
      | some a => (d.bump .drRxFcs x.first a.dests.length).endAsk pid x a.dests.length
      | none => d
    ((d.unstage pid x).dropWaiting pid partyRepl .drRxFcs (fun _ _ => x.first)).tidy pid

/-- The quadrant still offers an event: its port may learn, and no static entry for its key stands in the quadrant's copy (07
R221, R228). -/
def Dev.mayOffer (d : Dev) (first : Nat) (e : LrnEvent) : Bool :=
  !d.lrn.noLearn.testBit first && match d.macFind e.origin e.polder e.domain e.mac with
    | some f => !(f.2.valid && f.2.static)
    | none => true

/-- A quadrant offers an event: not twice within 4 µs, and at most 100 in a window of 25 ticks (07 R206). -/
def Dev.offer (d : Dev) (e : LrnEvent) : Dev :=
  let q := d.quad e.origin
  let key := (e.kind, e.polder, e.domain, e.mac, e.port + 1024 * b2n e.isLag, d.bal.tick)
  let same (f : LrnKind × Nat × Nat × Nat × Nat × Nat) : Bool :=
    decide (f.1 = e.kind ∧ f.2.1 = e.polder ∧ f.2.2.1 = e.domain ∧ f.2.2.2.1 = e.mac ∧
      f.2.2.2.2.1 = e.port + 1024 * b2n e.isLag ∧ d.bal.tick < f.2.2.2.2.2 + 100)
  if q.filter.any same then d
  else
    let fresh := decide (d.bal.tick / 25 ≠ q.winTick / 25)
    let n := if fresh then 0 else q.winCount
    if 100 ≤ n then (d.bump .learnDropped e.origin).liveMs (0x923 + 64 * e.origin)
    else (d.modQuad e.origin (fun x =>
      { x with
        offers := x.offers ++ [e], filter := (x.filter ++ [key]).drop (x.filter.length + 1 - 256)
        winTick := d.bal.tick, winCount := n + 1 })).bump .learnOffered e.origin

/-- The packets of a frame on its current pass that have not heard of its last byte: the packet and its mirror copies. -/
def Dev.kin (d : Dev) (x : Pkt) : List Nat :=
  d.dp.pkts.filterMap (fun y => match y.2 with
    | some z => if z.root = x.root ∧ !z.whole then some y.1 else none
    | none => none)

/-- A received frame is longer than its port's MAX_FRAME (04 R122). -/
def Dev.tooLong (d : Dev) (x : Pkt) : Bool :=
  match x.ingress with
  | .wire p => decide ((d.port p).maxFrame < x.len)
  | _ => false

/-- A frame found too long is dropped once, whatever its copies. -/
def Dev.dropOversize (d : Dev) (x : Pkt) (kin : List Nat) : Dev :=
  let d := if x.copies = 0 ∧ x.ask = none then d else d.bump .drRxOversize x.first
  let n := d.ctr .drRxOversize x.first
  (kin.foldl (fun d i => d.discardPkt i partyRepl .drRxOversize (fun _ _ => x.first)) d).setCtr .drRxOversize x.first n

/-- The counters of a port's receive FEC (04 R140): a count per port, and symbols per lane. -/
def Dev.countFec (d : Dev) (x : Pkt) (fec : Fec) : Dev :=
  match x.ingress with
  | .wire p =>
    let d := (d.bump .fecCorrected p fec.corrected).bump .fecUncorrected p fec.uncorrected
    (List.range (d.port p).lanes).foldl (fun d i => d.bump .fecSymbols (p + i) (fec.symbols.getD i 0)) d
  | _ => d

/-- FRAME_LAST_BYTE: the MAC receives a frame's last byte and learns its FCS result (09 R271); `fec` is what the port's FEC has found
since its last frame. -/
def doFrameLastByte (pid : Nat) (fcsOk : Bool) (fec : Fec) (d : Dev) : Dev :=
  match d.pkt? pid with
  | none => d
  | some x =>
    if x.whole || x.mirror then d
    else
      let d := d.countFec x fec
      let big := d.tooLong x
      let kin := d.kin x
      let d := kin.foldl (fun d i => d.modPkt i (fun y => { y with whole := true, badFcs := !fcsOk })) d
      let d := d.releaseAll (partyEgress x.pipe) x.oldAcct x.oldCells
      let d := d.modPkt pid (fun y => { y with oldCells := [] })
      let d :=
        if big then d.dropOversize x kin
        else if !fcsOk then kin.foldl Dev.badFrame d
        else match x.learn with
          | some e => if d.mayOffer x.first e then d.offer e else d
          | none => d
      kin.foldl (fun d i => d.tidy i) d

/-! ### Write confirms (10 R288, R289) -/

/-- A stored packet whose every cell is confirmed joins its queues (09 Table 9-4). -/
def Dev.linkIfDone (d : Dev) (pid : Nat) : Dev :=
  match d.pkt? pid with
  | none => d
  | some x =>
    if x.whole && !x.badFcs && decide (x.written = x.need) && x.cells.all (fun c => (d.cell c).confirmed) && !x.waiting.isEmpty && !x.lrq then
      x.waiting.foldl (fun d t => d.enqueue pid x t false) (d.modPkt pid (fun y => { y with waiting := [] }))
    else d

/-- WRITE_CONFIRM: a bank pair confirms the write of a cell that is on its way to it (10 R289). -/
def doWriteConfirm (cell : Nat) (d : Dev) : Dev :=
  match d.swc.toBank.find? (fun x => decide (x.cell = cell)) with
  | none => d
  | some x =>
    let d := { d with swc := { d.swc with toBank := d.swc.toBank.erase x } }
    if (d.cell cell).held && ((d.pkt? x.pid).map (fun y => y.cells.contains cell)).getD false then
      (d.modCell cell (fun y => { y with confirmed := true, mark := false })).linkIfDone x.pid
    else d

/-! ### Meanings -/

/-- HEADER_WINDOW_COMPLETE (R31). -/
def execHeaderWindowComplete (pipe : Nat) (wire : List (Nat × List Byte)) (flaws : Flaws) (upper : Bool) (s : State) :
    Host.Outcome State Fault Refusal :=
  .next { s with dev := doHeaderWindowComplete pipe wire flaws upper s.dev }

/-- FRAME_LAST_BYTE (R271). -/
def execFrameLastByte (pid : Nat) (fcsOk : Bool) (fec : Fec) (s : State) : Host.Outcome State Fault Refusal :=
  .next { s with dev := doFrameLastByte pid fcsOk fec s.dev }

/-- WRITE_CONFIRM (R289). -/
def execWriteConfirm (cell : Nat) (s : State) : Host.Outcome State Fault Refusal :=
  .next { s with dev := doWriteConfirm cell s.dev }

end Sys2Proof.Machine
end

