-- ==== Sys2Proof/Machine/Crypto.lean ====
section
/-! DEFINITION. SHA-512 (FIPS 180-4), ECDSA on P-521 (FIPS 186-5) and the deterministic nonce of RFC 6979: the
cryptography that chapters 3 and 17 name for images, handover tokens and attestation. -/
namespace Sys2Proof.Machine

/-! ### SHA-512 -/

/-- A 64-bit word of the hash. -/
abbrev W64 := BitVec 64

/-- A number below 529 is prime: nothing from 2 to 20 below it divides it. -/
def smallPrime (n : Nat) : Bool :=
  decide (2 ≤ n) && (List.range 21).all (fun k => decide (k < 2 ∨ n ≤ k ∨ n % k ≠ 0))

/-- The largest root whose power `e` does not exceed `n`, found from its bit `k - 1` down, above the part `r` known. -/
def rootFrom (e n : Nat) : Nat → Nat → Nat
  | 0, r => r
  | k + 1, r => rootFrom e n k (if (r + 2 ^ k) ^ e ≤ n then r + 2 ^ k else r)

/-- The first 64 bits of the fraction of the root `e` of a number, the root being less than 8. -/
def rootFraction (e n : Nat) : Nat := rootFrom e (n * 2 ^ (64 * e)) 67 0 % 2 ^ 64

/-- The first 80 primes. -/
def shaPrimes : List Nat := (List.range 410).filter smallPrime

/-- The round constants: the fractions of the cube roots of the first 80 primes (FIPS 180-4). -/
def shaK : List Nat := shaPrimes.map (rootFraction 3)

/-- The initial hash value: the fractions of the square roots of the first 8 primes (FIPS 180-4). -/
def shaInit : List W64 := (shaPrimes.take 8).map (fun p => BitVec.ofNat 64 (rootFraction 2 p))

/-- The message padded to whole blocks of 128 bytes. -/
def shaPad (m : List Byte) : List Byte :=
  m ++ [0x80] ++ List.replicate ((239 - m.length % 128) % 128) 0 ++ beBytes 16 (8 * m.length)

/-- The 16 words of a block. -/
def shaWords : Nat → List Byte → List W64
  | 0, _ => []
  | k + 1, b => BitVec.ofNat 64 (beNat (b.take 8)) :: shaWords k (b.drop 8)

/-- The message schedule, newest word first, extended `k` words. -/
def shaSchedule : Nat → List W64 → List W64
  | 0, w => w
  | k + 1, w =>
    let s0 (x : W64) : W64 := x.rotateRight 1 ^^^ x.rotateRight 8 ^^^ (x >>> 7)
    let s1 (x : W64) : W64 := x.rotateRight 19 ^^^ x.rotateRight 61 ^^^ (x >>> 6)
    shaSchedule k ((s1 (w.getD 1 0) + w.getD 6 0 + s0 (w.getD 14 0) + w.getD 15 0) :: w)

/-- One round over the working variables a to h. -/
def shaRound (v : List W64) (kw : Nat × W64) : List W64 :=
  let x (i : Nat) : W64 := v.getD i 0
  let s1 := (x 4).rotateRight 14 ^^^ (x 4).rotateRight 18 ^^^ (x 4).rotateRight 41
  let ch := (x 4 &&& x 5) ^^^ (~~~(x 4) &&& x 6)
  let t1 := x 7 + s1 + ch + BitVec.ofNat 64 kw.1 + kw.2
  let s0 := (x 0).rotateRight 28 ^^^ (x 0).rotateRight 34 ^^^ (x 0).rotateRight 39
  let mj := (x 0 &&& x 1) ^^^ (x 0 &&& x 2) ^^^ (x 1 &&& x 2)
  [t1 + s0 + mj, x 0, x 1, x 2, x 3 + t1, x 4, x 5, x 6]

/-- The hash value after one block. -/
def shaBlock (h : List W64) (b : List Byte) : List W64 :=
  let w := (shaSchedule 64 (shaWords 16 b).reverse).reverse
  List.zipWith (· + ·) h ((shaK.zip w).foldl shaRound h)

/-- The hash value after `k` blocks. -/
def shaBlocks : Nat → List Byte → List W64 → List W64
  | 0, _, h => h
  | k + 1, m, h => shaBlocks k (m.drop 128) (shaBlock h (m.take 128))

/-- SHA-512: 64 bytes. -/
def sha512 (m : List Byte) : List Byte :=
  let p := shaPad m
  ((shaBlocks (p.length / 128) p shaInit).map (fun w => beBytes 8 w.toNat)).flatten

/-- HMAC with SHA-512 (RFC 2104). -/
def hmac512 (key m : List Byte) : List Byte :=
  let k := if 128 < key.length then sha512 key else key
  let k := k ++ List.replicate (128 - k.length) 0
  sha512 (k.map (· ^^^ 0x5C) ++ sha512 (k.map (· ^^^ 0x36) ++ m))

/-! ### P-521 -/

/-- The field prime. -/
def p521 : Nat := 2 ^ 521 - 1
/-- The order of the base point. -/
def n521 : Nat :=
  0x1FFFFFFFFFFFFFFFFFFFFFFFFFFFFFFFFFFFFFFFFFFFFFFFFFFFFFFFFFFFFFFFFFA51868783BF2F966B7FCC0148F709A5D03BB5C9B8899C47AEBB6FB71E91386409
/-- The coefficient b of the curve y^2 = x^3 - 3 x + b. -/
def b521 : Nat :=
  0x51953EB9618E1C9A1F929A21A0B68540EEA2DA725B99B315F3B8B489918EF109E156193951EC7E937B1652C0BD3BB1BF073573DF883D2C34F1EF451FD46B503F00
/-- The base point. -/
def g521 : Nat × Nat :=
  (0xC6858E06B70404E9CD9E3ECB662395B4429C648139053FB521F828AF606B4D3DBAA14B5E77EFE75928FE1DC127A2FFA8DE3348B3C1856A429BF97E7E31C2E5BD66,
   0x11839296A789A3BC0045C8A5FB42C7D1BD998F54449579B446817AFBD17273E662C97EE72995EF42640C550B9013FAD0761353C7086A272C24088BE94769FD16650)

/-- b^e mod m over the `k` low bits of e. -/
def powMod (m : Nat) : Nat → Nat → Nat → Nat
  | 0, _, _ => 1 % m
  | k + 1, b, e => (if e % 2 = 1 then b else 1) * powMod m k (b * b % m) (e / 2) % m

/-- The inverse modulo a prime of at most 521 bits. -/
def invMod (m a : Nat) : Nat := powMod m 521 (a % m) (m - 2)

/-- A point of the curve; none: the point at infinity. -/
abbrev Pt := Option (Nat × Nat)

/-- A point in Jacobian coordinates: (X, Y, Z) stands for (X / Z^2, Y / Z^3), and Z = 0 for the point at infinity. -/
abbrev Jac := Nat × Nat × Nat

/-- A difference in the field. -/
def fieldSub (a b : Nat) : Nat := (a + p521 - b % p521) % p521

/-- Twice a point, the curve's coefficient a being -3. -/
def jacDouble (q : Jac) : Jac :=
  let (x, y, z) := q
  let zz := z * z % p521
  let yy := y * y % p521
  let b := x * yy % p521
  let m := 3 * fieldSub x zz * (x + zz) % p521
  let x3 := fieldSub (m * m) (8 * b)
  (x3, fieldSub (m * fieldSub (4 * b) x3) (8 * yy * yy), 2 * y * z % p521)

/-- The sum of two points. -/
def jacAdd (a b : Jac) : Jac :=
  let (x1, y1, z1) := a
  let (x2, y2, z2) := b
  if z1 = 0 then b
  else if z2 = 0 then a
  else
    let u1 := x1 * (z2 * z2 % p521) % p521
    let u2 := x2 * (z1 * z1 % p521) % p521
    let s1 := y1 * (z2 * z2 % p521) * z2 % p521
    let s2 := y2 * (z1 * z1 % p521) * z1 % p521
    if u1 = u2 then (if s1 = s2 then jacDouble a else (1, 1, 0))
    else
      let h := fieldSub u2 u1
      let r := fieldSub s2 s1
      let hh := h * h % p521
      let v := u1 * hh % p521
      let x3 := fieldSub (r * r) (hh * h + 2 * v)
      (x3, fieldSub (r * fieldSub v x3) (s1 * hh * h), h * z1 * z2 % p521)

/-- k times a point, over the `n` low bits of k. -/
def jacMul : Nat → Nat → Jac → Jac
  | 0, _, _ => (1, 1, 0)
  | n + 1, k, q => jacAdd (if k % 2 = 1 then q else (1, 1, 0)) (jacMul n (k / 2) (jacDouble q))

/-- The point that coordinates stand for. -/
def Jac.point (q : Jac) : Pt :=
  let (x, y, z) := q
  if z = 0 then none
  else
    let w := invMod p521 z
    some (x * (w * w % p521) % p521, y * (w * w % p521) * w % p521)

/-- A point's Jacobian coordinates. -/
def ptJac (q : Nat × Nat) : Jac := (q.1, q.2, 1)

/-- The coordinates lie in the field and on the curve. -/
def onCurve (x y : Nat) : Bool :=
  decide (x < p521 ∧ y < p521 ∧ y * y % p521 = (x * x * x + (p521 - 3) * x + b521) % p521)

/-- An uncompressed public key of 133 bytes. -/
def pubKey (bs : List Byte) : Pt :=
  let x := beNat ((bs.drop 1).take 66)
  let y := beNat ((bs.drop 67).take 66)
  if bs.length = 133 ∧ bs.headD 0 = 4 ∧ onCurve x y then some (x, y) else none

/-- ECDSA verification of a message with SHA-512. -/
def ecdsaVerify (key m rBytes sBytes : List Byte) : Bool :=
  let r := beNat rBytes
  let s := beNat sBytes
  match pubKey key with
  | none => false
  | some q =>
    if r = 0 ∨ n521 ≤ r ∨ s = 0 ∨ n521 ≤ s then false
    else
      let e := beNat (sha512 m)
      let w := invMod n521 s
      match (jacAdd (jacMul 521 (e * w % n521) (ptJac g521)) (jacMul 521 (r * w % n521) (ptJac q))).point with
      | none => false
      | some (x, _) => decide (x % n521 = r)

/-- The generator of RFC 6979: candidate nonces until one gives a signature. -/
def ecdsaTry (d e : Nat) : Nat → List Byte → List Byte → Nat × Nat
  | 0, _, _ => (0, 0)
  | fuel + 1, k, v =>
    let v1 := hmac512 k v
    let v2 := hmac512 k v1
    let t := beNat ((v1 ++ v2).take 66) / 128
    let r := match (jacMul 521 t (ptJac g521)).point with
      | some (x, _) => x % n521
      | none => 0
    let s := invMod n521 t * (e + r * d) % n521
    if t = 0 ∨ n521 ≤ t ∨ r = 0 ∨ s = 0 then
      let k1 := hmac512 k (v2 ++ [0])
      ecdsaTry d e fuel k1 (hmac512 k1 v2)
    else (r, s)

/-- The ECDSA signature of a message with SHA-512 and the deterministic nonce: r and s, 66 bytes each. -/
def ecdsaSign (d : Nat) (m : List Byte) : List Byte × List Byte :=
  let e := beNat (sha512 m)
  let seed := beBytes 66 d ++ beBytes 66 (e % n521)
  let v0 := List.replicate 64 (1 : Byte)
  let k0 := List.replicate 64 (0 : Byte)
  let k1 := hmac512 k0 (v0 ++ [0] ++ seed)
  let v1 := hmac512 k1 v0
  let k2 := hmac512 k1 (v1 ++ [1] ++ seed)
  let rs := ecdsaTry d e 64 k2 (hmac512 k2 v1)
  (beBytes 66 rs.1, beBytes 66 rs.2)

end Sys2Proof.Machine
end

