-- ==== Sys2Proof/Machine/Recorder.lean ====
section
/-! DEFINITION. The Event Recorder (chapter 16): admission, rate limits, the on-die log, freezes, the
last-ditch bank, the persistent log, trace rings, and the log commands. -/
namespace Sys2Proof.Machine

/-! ### Record images -/

/-- The 32 bytes of a record (16 Table 16-1). -/
def recImage (r : Rec) : Nat :=
  pack [(0, 32, r.seq), (32, 16, r.powerCycles), (48, 16, r.code), (64, 3, r.severity), (67, 1, b2n r.shared),
    (68, 3, r.polder), (71, 1, b2n r.noPolder), (72, 12, r.source.getD 0), (84, 1, b2n r.source.isSome),
    (85, 1, b2n r.coalesced), (88, 8, r.count), (96, 160, r.data.toNat)]

/-- A record is visible to an endpoint: its own polders' and shared machinery's, to the warden all (16 R475, 03 R95). -/
def Dev.recVisible (d : Dev) (e : Nat) (r : Rec) : Bool :=
  d.isWarden e || (!r.noPolder && (if r.shared then decide (d.owned e ≠ 0) else d.owns e r.polder))

/-! ### Rate limits (16 R479-R481) -/

/-- One token, in the unit of `DirSlot.deficit`. -/
abbrev tokenUnit : Nat := 25000000

/-- The slot's bucket refilled to the present tick: RATE tokens per second, never above BURST (16 R480). -/
def refillSlot (now : Nat) (s : DirSlot) : DirSlot :=
  { s with deficit := min (s.burst * tokenUnit) (s.deficit - s.rate * (now - s.lastTick)), lastTick := now }

/-- Whole tokens held. -/
def slotTokens (s : DirSlot) : Nat := (s.burst * tokenUnit - s.deficit) / tokenUnit

/-- The slot's bucket lets a record through; a CRITICAL record always passes and takes a token if one is there. -/
def slotAdmits (s : DirSlot) (sev : Nat) : Bool := decide (0 < slotTokens s ∨ sev = sevCritical)

/-- A record is suppressed and counted in the slot's episode (16 R481). -/
def suppress (now : Nat) (r : Rec) (s : DirSlot) : DirSlot :=
  { s with
    supTotal := s.supTotal + 1, supCount := s.supCount + 1
    supFirst := if s.supCount = 0 then now else s.supFirst, supLast := now
    supSeverity := max s.supSeverity r.severity, supPolder := r.polder, supShared := r.shared
    supNoPolder := r.noPolder, supCode := r.code }

def Dev.modSlot (d : Dev) (i : Nat) (f : DirSlot → DirSlot) : Dev :=
  { d with evr := { d.evr with dir := tmod d.evr.dir {} i f } }

/-! ### The log (16 R482, R485, R486) -/

/-- A record is lost after taking its SEQ (16 R476). -/
def Dev.recLost (d : Dev) (n : Nat := 1) : Dev :=
  let d := (d.bump .evrDropped 0 n).liveMs 0x0C9
  if d.evr.frozen then { d with evr := { d.evr with lostInFreeze := d.evr.lostInFreeze + n } } else d

/-- The slot and SEQ of the record of lowest SEQ that satisfies a condition. -/
def lowestRec (t : Tab (Option Rec)) (c : Rec → Bool) : Option (Nat × Nat) :=
  t.foldl (fun b x => match x.2 with
    | some r => if c r then (match b with
        | some y => if r.seq < y.2 then some (x.1, r.seq) else b
        | none => some (x.1, r.seq)) else b
    | none => b) none

/-- The lowest slot that holds no record: an error has emptied it (16 R486). -/
def emptySlot (t : Tab (Option Rec)) : Nat := ((t.zipIdx.find? (fun x => decide (x.1.1 ≠ x.2))).map Prod.snd).getD t.length

/-- Places a record in a memory of `size` slots used so far `used`: slots fill in index order, then an emptied slot is used
again, then the record of lowest SEQ among those of equal or lower severity is replaced. Answers the memory, the slots used, and whether a
record was lost (16 R482). -/
def placeRec (t : Tab (Option Rec)) (used size : Nat) (r : Rec) : Tab (Option Rec) × Nat × Bool :=
  if used < size then (tset t none used (some r), used + 1, false)
  else if t.length < size then (tset t none (emptySlot t) (some r), used, false)
  else match lowestRec t (fun x => decide (x.severity ≤ r.severity)) with
    | none => (t, used, true)
    | some (i, q) =>
      (tset t none i (some r), used, decide ((lowestRec t (fun _ => true)).map (·.2) ≠ some q))

/-- An admitted record is written to the log, or to the last-ditch bank (16 R482, R486). -/
def Dev.logWrite (d : Dev) (r : Rec) : Dev :=
  let e := d.evr
  if e.lastDitch then
    let p := placeRec e.bank e.bankUsed 16 r
    let d := { d with evr := { e with bank := p.1, bankUsed := p.2.1, newest := r.seq, anyLogged := true } }
    if p.2.2 then d.recLost else d
  else
    let p := placeRec e.log e.used 65536 r
    let d := { d with evr := { e with log := p.1, used := p.2.1, newest := r.seq, anyLogged := true } }
    if p.2.2 then d.recLost else d

/-- A record enters the holding FIFO of 256 while the log is frozen; at a full FIFO the newest record of the
lowest severity present is shed for an arrival of higher severity (16 R485). -/
def Dev.fifoPush (d : Dev) (r : Rec) : Dev :=
  let f := d.evr.fifo
  if f.length < 256 then { d with evr := { d.evr with fifo := f ++ [r] } }
  else
    let low := f.foldl (fun m x => min m x.severity) 7
    let d := d.recLost
    if low < r.severity then
      match f.reverse.findIdx? (fun x => decide (x.severity = low)) with
      | some i => { d with evr := { d.evr with fifo := (f.reverse.eraseIdx i).reverse ++ [r] } }
      | none => d
    else d

/-! ### The persistent queue (16 R489, R490) -/

/-- Folds a record into a queued entry of its code. -/
def foldRec (q : List Rec) (r : Rec) : List Rec :=
  match q with
  | [] => []
  | x :: t =>
    if x.code = r.code then
      { x with coalesced := true, count := min 255 (x.count + 1), severity := max x.severity r.severity } :: t
    else x :: foldRec t r

/-- A record of MAJOR or above, EV_POWER_ON or EV_HOURMARK enters the persistent queue of 256 (16 R489, R490). -/
def Dev.persistPush (d : Dev) (r : Rec) : Dev :=
  let q := d.evr.pqueue
  if 128 < q.length ∧ q.any (fun x => decide (x.code = r.code)) then
    { d with evr := { d.evr with pqueue := foldRec q r } }
  else if q.length < 256 then { d with evr := { d.evr with pqueue := q ++ [r] } }
  else
    let d := (d.bump .persistDropped 0).liveMs 0x0CA
    let d := { d with evr := { d.evr with pdropped := d.evr.pdropped + 1 } }
    match q.reverse.findIdx? (fun x => decide (x.severity < r.severity)) with
    | some i => { d with evr := { d.evr with pqueue := (q.reverse.eraseIdx i).reverse ++ [r] } }
    | none => d

/-! ### Trace rings (16 R491) -/

/-- Export rings: the ring is enabled and has a free slot. -/
def ExportRing.room (r : ExportRing) : Bool := r.enable && decide ((r.prod - r.cons).toNat < 2 ^ r.sizeLog2)

/-- The Atpeong record of a trace ring: header of Table 12-5, the event record at 16 (16 R491). -/
def traceImage (r : Rec) : Nat :=
  pack [(0, 16, 64), (16, 8, 0x30), (24, 8, 1), (64, 16, r.powerCycles), (80, 3, r.polder),
    (128, 256, recImage r)]

/-- TRACE_RING_WRITE: an admitted record visible to the endpoint and severe enough (16 R491). -/
def Dev.traceWrite (d : Dev) (e : Nat) (r : Rec) : Dev :=
  let t := (d.ep e).trace
  if !d.present e || !d.recVisible e r || decide (r.severity < t.minSeverity) then d
  else if !t.room || !d.regRuns 3 then d.bump .traceRingDrop e
  else
    (((d.emit (.hostWrite e (t.base.toNat + 64 * (t.prod.toNat % 2 ^ t.sizeLog2)) (leBytes 64 (traceImage r)))).modEp e
      (fun x => { x with trace := { x.trace with prod := x.trace.prod + 1 } })).emit
      (.hostWrite e t.wbAddr.toNat (leBytes 4 (t.prod + 1).toNat))).signal e 579

/-! ### Admission (16 R476) -/

/-- The SEQ after `n`: 0xFFFF_FFFF is never assigned. -/
def seqAfter (n : Nat) : Nat := if (n + 1) % 2 ^ 32 = 0xFFFFFFFF then n + 2 else n + 1

/-- A history entry learns the SEQ of its record (15 R459). -/
def Dev.histSeq (d : Dev) (h : Option Nat) (seq : Nat) : Dev :=
  match h with
  | none => d
  | some i =>
    { d with fcr := { d.fcr with
        history := d.fcr.history.map (fun x => if x.id = i then { x with recSeq := seq % 2 ^ 32 } else x) } }

/-- An admitted record takes the next SEQ and goes to the log or the FIFO, to the persistent queue and to the
trace rings (16 R476, R485, R489, R491). -/
def Dev.take (d : Dev) (r0 : Rec) : Dev :=
  let r := { r0 with seq := d.evr.nextSeq, powerCycles := d.evr.powerCycles }
  let d := { d with evr := { d.evr with nextSeq := seqAfter d.evr.nextSeq } }
  let d := (d.bump .evrAdmitted 0).histSeq r.hist r.seq
  let d := if decide (sevMajor ≤ r.severity) || r.code ∈ [Ev.powerOn, Ev.hourmark] then d.persistPush r else d
  let d := d.each (List.range 4) (fun d e => d.traceWrite e r)
  if d.evr.frozen || d.evr.draining then d.fifoPush r else d.logWrite r

/-- An uncorrectable error in log slot `i`: transient, the slot's record is lost; lasting, the recorder moves to
the last-ditch bank, whose first record is EV_LOG_MEMORY_FAILED (16 R486). -/
def Dev.logMemoryError (d : Dev) (i : Nat) (lasting : Bool) : Dev :=
  if lasting then
    if d.evr.lastDitch then d
    else
      let old := d.evr.newest
      let held := (tget d.evr.log none i).isSome
      let d := { d with evr := { d.evr with
        lastDitch := true, badSlots := i :: d.evr.badSlots, log := tset d.evr.log none i none } }
      ((if held then d.recLost else d).setLive 0x0C8).take {
        code := Ev.logMemoryFailed, severity := sevMajor, shared := true, polder := 0, noPolder := false, source := some 0x0C8
        data := dat [(0, 4, i), (4, 1, 1), (5, 4, old)] }
  else if (tget d.evr.log none i).isSome then { d with evr := { d.evr with log := tset d.evr.log none i none } }.recLost
  else d

/-- A read of log slot `i` meets an uncorrectable error, which is retried once (16 R486). -/
def Dev.slotCheck (d : Dev) (i : Nat) (check : Ecc) : Dev :=
  match check with
  | .once => d.logMemoryError i false
  | .lasting => d.logMemoryError i true
  | _ => d

/-- The recorder's own check after the write of the newest record to the log (16 R486). -/
def Dev.writeCheck (d : Dev) (check : Ecc) : Dev :=
  if d.evr.lastDitch then d
  else match d.evr.log.find? (fun x => (x.2.map Rec.seq) == some d.evr.newest) with
    | some x => d.slotCheck x.1 check
    | none => d

/-- RECORD_ADMIT: the record at the front of the input queue meets its slot's rate limit; one that goes to the log is checked after its
write (16 R476, R480, R486). -/
def doRecordAdmit (check : Ecc) (d : Dev) : Dev :=
  match d.evr.input with
  | [] => d
  | r :: rest =>
    let take (d : Dev) : Dev := if d.evr.frozen || d.evr.draining then d.take r else (d.take r).writeCheck check
    let d := { d with evr := { d.evr with input := rest } }
    if 0x1400 ≤ r.code ∧ r.code < 0x1500 then take d
    else
      let i := d.slotOf r.code
      let d := d.modSlot i (refillSlot d.bal.tick)
      if slotAdmits (d.slot i) r.severity then
        take (d.modSlot i (fun s => if slotTokens s = 0 then s else { s with deficit := s.deficit + tokenUnit }))
      else ((d.modSlot i (suppress d.bal.tick r)).bump .evrSuppressed 0).untold r

/-- Who a suppression summary concerns: the last record it counts. -/
def supWho (s : DirSlot) : Who :=
  if s.supShared then .shared else if s.supNoPolder then .nobody else .polders (2 ^ s.supPolder)

/-- SUPPRESSION_SUMMARY: the slot's episode ends a second after its last suppression, or has run 10 s (16 R481). -/
def doSuppressionSummary (slot : Nat) (d : Dev) : Dev :=
  let s := d.slot slot
  if s.supCount = 0 then d
  else
    let d := d.reach (min (s.supLast + msTicks 1000) (s.supFirst + msTicks 10000))
    let d := d.recordSev Ev.suppressed s.supSeverity (supWho s) none
      (dat [(0, 2, s.supCode), (2, 4, s.supCount), (6, 5, s.supFirst), (11, 5, s.supLast)])
    d.modSlot slot (fun s => { s with supCount := 0, supSeverity := 0 })

/-! ### Freezing (16 R484, R485) -/

/-- The log thaws and the FIFO drains into it. -/
def Dev.thaw (d : Dev) (byLimit : Bool) : Dev :=
  let held := d.evr.fifo.length
  let lost := d.evr.lostInFreeze
  let d := { d with evr := { d.evr with frozen := false, holders := 0, reading := 0, draining := decide (0 < held), lostInFreeze := 0 } }
  d.record Ev.logThawed .shared none (dat [(0, 1, b2n byLimit), (1, 2, held), (3, 4, lost)])

/-- An endpoint takes a freeze: it is refused within 100 ms of a thaw by the limit and while the last-ditch bank
is in use; otherwise it joins or starts the episode. Answers the DETAIL of a refusal (16 R484, R486). -/
def Dev.freeze (d : Dev) (e : Nat) : Option Nat × Dev :=
  if d.evr.lastDitch then (some 0x02, d)
  else if d.evr.frozen then
    (none, { d with evr := { d.evr with holders := d.evr.holders ||| 2 ^ e, expired := d.evr.expired &&& (15 - 2 ^ e) } })
  else if d.bal.tick < d.evr.refuseUntil then (some 0x01, d)
  else
    let d := { d with evr := { d.evr with
      frozen := true, holders := 2 ^ e, freezeStart := d.bal.tick, expired := 0, lostInFreeze := 0 } }
    (none, d.record Ev.logFrozen .shared none (dat [(0, 1, e), (1, 4, d.aon)]))

/-- An endpoint gives up its freeze; the log thaws when no endpoint holds one. -/
def Dev.unfreeze (d : Dev) (e : Nat) : Dev :=
  let h := d.evr.holders &&& (15 - 2 ^ e)
  let d := { d with evr := { d.evr with holders := h, reading := d.evr.reading &&& (15 - 2 ^ e) } }
  if h = 0 ∧ d.evr.frozen then d.thaw false else d

/-- LOG_FREEZE_LIMIT: 100 ms after the first freeze of the episode the log thaws (16 R484). -/
def doLogFreezeLimit (d : Dev) : Dev :=
  if !d.evr.frozen then d
  else
    let d := d.reach (d.evr.freezeStart + msTicks 100)
    let h := d.evr.holders
    let d := (d.thaw true).liveMs 0x0CD
    { d with evr := { d.evr with refuseUntil := d.bal.tick + msTicks 100, expired := h } }

/-- HOLDING_FIFO_DRAIN: one held record goes to the log, in SEQ order, and is checked after its write (16 R485, R486). -/
def doHoldingFifoDrain (check : Ecc) (d : Dev) : Dev :=
  if d.evr.frozen then d
  else match d.evr.fifo with
    | [] => { d with evr := { d.evr with draining := false } }
    | r :: t => (({ d with evr := { d.evr with fifo := t, draining := !t.isEmpty } }).logWrite r).writeCheck check

/-! ### Hours, power cycles, the persistent log (16 R477, R478, R487-R490) -/

/-- HOURMARK: another 90,000,000,000 ticks have passed (16 R478). -/
def doHourmark (d : Dev) : Dev :=
  let d := d.reach d.evr.nextHour
  let d := { d with evr := { d.evr with opHours := (d.evr.opHours + 1) % 2 ^ 32, nextHour := d.evr.nextHour + 90000000000 } }
  d.record Ev.hourmark .shared none (dat [(0, 4, d.evr.opHours), (4, 5, d.aon)])

/-- The header of a persistent sector is intact: MAGIC, FORMAT and CHECK (16 Table 16-4, R488). -/
def headerOk (bs : List Byte) : Bool :=
  let n := leNat (bs.take 64)
  decide (bs.length = 64 ∧ bits n 0 32 = 0x47454C50 ∧ bits n 32 16 = 1 ∧ bits n 480 32 = crc32c (bs.take 60))

/-- A sector as its header shows it at power-on: erased, in use, or, with a bad header, retired (16 R488). -/
def sectorOfHeader (bs : List Byte) : Sector :=
  let n := leNat (bs.take 64)
  if bs.all (· = 0xFF) then { erased := true }
  else if headerOk bs then
    { erased := false, powerCycles := bits n 48 16, serial := bits n 64 32, erases := bits n 96 32,
      opHours := bits n 128 32, firstSeq := bits n 160 32 }
  else { erased := false, retired := true }

/-- The usable sectors and the wear figures follow the sectors (16 R488, R496, R497). -/
def Dev.flashRefresh (d : Dev) : Dev :=
  let retired := (d.evr.sectors.filter (fun s => s.2.retired)).length
  let d := d.setCtr .flashSectorsUsable 0 (4096 - retired)
  let d := d.setCtr .flashErasesMax 0 (d.evr.sectors.foldl (fun m s => max m s.2.erases) 0)
  let stop := d.boot.persist && decide (4096 - retired < 16)
  let d := { d with evr := { d.evr with persistStopped := stop } }
  (d.live 0x0CC (decide (0 < retired))).live 0x0CB stop

/-- POWER_ON_SCAN_DONE: POWER_CYCLES becomes the highest found plus 1, OP_HOURS resumes from the newest HOURMARK,
and records held take the count. Operands: sector number with its 64-byte header, and the newest HOURMARK (16 R477). -/
def doPowerOnScanDone (sectors : List (Nat × List Byte)) (hours : Nat) (d : Dev) : Dev :=
  if d.evr.scanDone then d
  else
    let ss : List (Nat × Sector) := sectors.map (fun s => (s.1, sectorOfHeader s.2))
    let live : List (Nat × Sector) := ss.filter (fun s => !s.2.retired && !s.2.erased)
    let pc := if live.isEmpty then 0 else (live.foldl (fun m s => max m s.2.powerCycles) 0 + 1) % 65536
    let total := (hours + d.evr.opHours) % 2 ^ 32
    let resume (r : Rec) : Rec := if r.code = Ev.powerOn then
        { r with data := BitVec.ofNat 160 (putBits r.data.toNat 0 32 total) } else r
    let fix (r : Rec) : Rec := resume { r with powerCycles := pc }
    let fixO (t : Tab (Option Rec)) : Tab (Option Rec) := t.map (fun x => (x.1, x.2.map fix))
    let e := d.evr
    let newest : Option (Nat × Sector) := live.find? (fun s => live.all (fun t : Nat × Sector => decide (t.2.serial ≤ s.2.serial)))
    let serial := live.foldl (fun (m : Nat) (s : Nat × Sector) => max m (s.2.serial + 1)) 0
    let sectors := ss.foldl (fun (t : Tab Sector) (s : Nat × Sector) => tset t {} s.1 s.2) []
    ({ d with evr := { e with
        powerCycles := pc, scanDone := true, opHours := total, input := e.input.map resume
        log := fixO e.log, bank := fixO e.bank, fifo := e.fifo.map fix, pqueue := e.pqueue.map fix
        serial := serial, curSector := newest.map Prod.fst, sectors := sectors } }).flashRefresh

/-- The next usable sector in ring order after `i`. -/
def Dev.nextSector (d : Dev) (i : Nat) : Option Nat :=
  nextRound 4096 i (fun k => !(tget d.evr.sectors {} k).retired)

def Dev.modSector (d : Dev) (i : Nat) (f : Sector → Sector) : Dev :=
  { d with evr := { d.evr with sectors := tmod d.evr.sectors {} i f } }

/-- A sector is retired and skipped (16 R488). -/
def Dev.retireSector (d : Dev) (i : Nat) (verify : Bool) : Dev :=
  let n := (tget d.evr.sectors {} i).erases
  ((d.modSector i (fun s => { s with retired := true })).record Ev.flashSectorRetired .shared none
    (dat [(0, 2, i), (2, 4, n), (6, 1, b2n verify)])).flashRefresh

/-- FLASH_SECTOR_ERASE: the sector after the open one is erased once that is half full; at 100,000 erases, or when verification fails twice, it
is retired (16 R488). -/
def doFlashSectorErase (sector : Nat) (ok : Bool) (d : Dev) : Dev :=
  let s := tget d.evr.sectors {} sector
  let due := match d.evr.curSector with
    | none => decide (d.nextSector 4095 = some sector)
    | some k =>
      let y := tget d.evr.sectors {} k
      decide (d.nextSector k = some sector) && (!y.opened || decide (63 ≤ y.records.length))
  if 4096 ≤ sector ∨ s.retired ∨ s.erased ∨ d.evr.curSector = some sector ∨ !due ∨ !d.boot.persist ∨ !d.regRuns 3 then d
  else
    let d := d.modSector sector (fun s =>
      { s with
        erases := s.erases + 1, erased := ok, opened := false, records := []
        fails := if ok then 0 else s.fails + 1 })
    let s := tget d.evr.sectors {} sector
    if 2 ≤ s.fails then d.retireSector sector true
    else if 100000 ≤ s.erases then d.retireSector sector false
    else d.flashRefresh

/-- PERSISTENT_PAGE_PROGRAM: up to 8 queued records go to the open sector, opening the next erased one when it is
full (126 records); a program that fails verification twice retires the sector (16 R487-R490). -/
def doPersistentPageProgram (n : Nat) (ok : Bool) (d : Dev) : Dev :=
  if !d.boot.persist ∨ d.evr.persistStopped ∨ d.evr.pqueue.isEmpty ∨ !d.evr.scanDone ∨ !d.regRuns 3 then d
  else
    let usable (i : Nat) : Bool :=
      !(tget d.evr.sectors {} i).retired && (tget d.evr.sectors {} i).opened && decide ((tget d.evr.sectors {} i).records.length < 126)
    let target := match d.evr.curSector with
      | some i => if usable i then some i else d.nextSector i
      | none => d.nextSector 4095
    match target with
    | none => d
    | some i =>
      let s := tget d.evr.sectors {} i
      if !s.opened && !s.erased then d
      else
      let d := if s.opened then d
        else ({ d with evr := { d.evr with serial := d.evr.serial + 1, curSector := some i } }).modSector i (fun s =>
          { s with
            opened := true, erased := false, serial := d.evr.serial, powerCycles := d.evr.powerCycles
            opHours := d.evr.opHours, firstSeq := (d.evr.pqueue.head?.map Rec.seq).getD 0, records := [] })
      let k := min (min n 8) (126 - (tget d.evr.sectors {} i).records.length)
      if ok then
        let rs := d.evr.pqueue.take k
        let d := { d with evr := { d.evr with
          pqueue := d.evr.pqueue.drop k
          persistSeq := (rs.getLast?.map (fun r : Rec => r.seq % 2 ^ 32)).getD d.evr.persistSeq } }
        let d := d.modSector i (fun s => { s with records := s.records ++ rs, fails := 0 })
        if 0 < d.evr.pdropped ∧ 0 < k then
          let m := d.evr.pdropped
          ({ d with evr := { d.evr with pdropped := 0 } }).record Ev.persistDropped .shared none (dat [(0, 4, m)])
        else d
      else
        let d := d.modSector i (fun s => { s with fails := s.fails + 1 })
        if 2 ≤ (tget d.evr.sectors {} i).fails then d.retireSector i true else d

/-! ### Commands (16 R493-R495) -/

/-- Lowest SEQ held in the log and the bank. -/
def Dev.oldestSeq (d : Dev) : Nat :=
  (lowestRec (d.evr.log ++ (d.evr.bank.map (fun x => (x.1 + 65536, x.2)))) (fun _ => true)).elim 0 (·.2)

/-- The records held, in SEQ order. -/
def Dev.heldRecs (d : Dev) : List Rec :=
  sortBy (fun a b => decide (a.seq ≤ b.seq)) ((d.evr.log.filterMap (·.2)) ++ (d.evr.bank.filterMap (·.2)))

/-- The records of the persistent log for one power cycle, in SEQ order. -/
def Dev.persistRecs (d : Dev) (pc : Nat) : List Rec :=
  sortBy (fun a b => decide (a.seq ≤ b.seq))
    ((d.evr.sectors.flatMap (fun s => s.2.records)).filter (fun r => decide (r.powerCycles = pc)))

/-- SEQ values compared modulo 2^32: `a` is at or after `b`. -/
def seqAtOrAfter (a b : Nat) : Bool := decide ((a % 2 ^ 32 + 2 ^ 32 - b % 2 ^ 32) % 2 ^ 32 < 2 ^ 31)

/-- Two neighbours in SEQ order leave a gap. -/
def seqGap : List Rec → Bool
  | a :: b :: t => decide (seqAfter a.seq ≠ b.seq) || seqGap (b :: t)
  | _ => false

/-- OP_LOG_READ: visible records from FROM_SEQ, in SEQ order, as many as the buffer holds, in steps of the size
that the device chooses; FREEZE holds the log for the command's duration, unless the endpoint holds a freeze already. The slots that the
step finds uncorrectable follow the size, each as twice its number, plus 1 where the error is lasting (16 R486, R493). -/
def doOpLogRead (c : CmdRef) (io : Io) (d : Dev) : Dev :=
  d.step1 c (isOp 0x73) (fun d x =>
    let persistent := decide (x.fld 16 0 1 = 1)
    let wantFreeze := decide (x.fld 16 1 1 = 1)
    let minSev := x.fld 17 0 3
    let room := x.fld 32 0 32 / 32
    let addr := x.fld 24 0 64
    let first := x.steps = 0
    let had := d.evr.holders.testBit c.ep
    let fz := if first ∧ wantFreeze then d.freeze c.ep else (none, d)
    match fz.1 with
    | some why => d.fail c stWrongMode (why * 256)
    | none =>
      let d := fz.2
      let d := if first ∧ wantFreeze ∧ !had then { d with evr := { d.evr with reading := d.evr.reading ||| 2 ^ c.ep } } else d
      let d := if persistent then d else (io.pick.drop 1).foldl (fun d k => d.logMemoryError (k / 2) (decide (k % 2 = 1))) d
      let next := if first then x.fld 20 0 32 else x.scratch.getD 0 0
      let done := x.scratch.getD 1 0
      let skipped := x.scratch.getD 2 0
      let gap0 := decide (x.scratch.getD 3 0 = 1)
      let src := (if persistent then d.persistRecs (x.fld 18 0 16) else d.heldRecs).filter
        (fun r => seqAtOrAfter r.seq next)
      let pick := if ioChoice io 0 = 0 then src.length else ioChoice io 0
      let step := src.take pick
      let want := step.filter (fun r => d.recVisible c.ep r && decide (minSev ≤ r.severity))
      let put := want.take (room - done)
      let after := if want.length ≤ room - done then
          (step.getLast?.map (fun r => seqAfter r.seq % 2 ^ 32)).getD next
        else (want[room - done]?.map Rec.seq).getD next % 2 ^ 32
      let read := if want.length ≤ room - done then step else step.takeWhile (fun r => !seqAtOrAfter r.seq after)
      let skip := (read.filter (fun r => !d.recVisible c.ep r)).length
      let between := !first && (src.head?).any (fun r => decide (r.seq % 2 ^ 32 ≠ next))
      let gap := gap0 || between || seqGap (step.takeWhile (fun r => !seqAtOrAfter r.seq after))
      let d := if put.isEmpty then d
        else d.hostOut c.ep (addr + 32 * done) ((put.map (fun r => leBytes 32 (recImage r))).flatten) io.wrErr
      let bad := io.wrErr || decide (x.scratch.getD 4 0 = 1)
      if src.length ≤ pick ∨ room ≤ done + want.length then
        let expired := wantFreeze && d.evr.expired.testBit c.ep
        let d := if wantFreeze && d.evr.reading.testBit c.ep then d.unfreeze c.ep else d
        let oldest := if persistent then ((d.persistRecs (x.fld 18 0 16)).head?.map Rec.seq).getD 0 else d.oldestSeq
        d.okBuf c bad 24 (done + put.length + after * 2 ^ 32)
          (oldest % 2 ^ 32 + b2n expired * 2 ^ 32 + b2n gap * 2 ^ 33) (skipped + skip)
      else d.again c [after, done + put.length, skipped + skip, b2n gap, b2n bad])

/-- OP_LOG_FREEZE (16 R494). -/
def doOpLogFreeze (c : CmdRef) (io : Io) (d : Dev) : Dev :=
  let _ := io
  d.step1 c (isOp 0x74) (fun d _ =>
    match d.freeze c.ep with
    | (some why, _) => d.fail c stWrongMode (why * 256)
    | (none, d') => ({ d' with evr := { d'.evr with reading := d'.evr.reading &&& (15 - 2 ^ c.ep) } }).ok c ((d'.evr.freezeStart + msTicks 100 - d'.bal.tick) / 25))

/-- OP_LOG_THAW (16 R494). -/
def doOpLogThaw (c : CmdRef) (io : Io) (d : Dev) : Dev :=
  let _ := io
  d.step1 c (isOp 0x75) (fun d _ =>
    if d.evr.holders.testBit c.ep then
      let n := d.evr.fifo.length
      (d.unfreeze c.ep).ok c n
    else d.fail c stNotFound)

/-- OP_LOG_RATE_SET SET caps the bucket at the new BURST (16 R495). -/
def doOpLogRateSetSet (c : CmdRef) (io : Io) (d : Dev) : Dev :=
  let _ := io
  d.step1 c (isOpAct 0x76 (18, 0, 1) 0) (fun d x =>
    let i := x.fld 16 0 10
    let burst := x.fld 24 0 16
    let d := d.modSlot i (fun s =>
      let s := refillSlot d.bal.tick s
      let tokens := min (burst * tokenUnit) (s.burst * tokenUnit - s.deficit)
      { s with rate := x.fld 20 0 20, burst := burst, deficit := burst * tokenUnit - tokens })
    d.ok c)

/-- OP_LOG_RATE_SET READ (16 R495). -/
def doOpLogRateSetRead (c : CmdRef) (io : Io) (d : Dev) : Dev :=
  let _ := io
  d.step1 c (isOpAct 0x76 (18, 0, 1) 1) (fun d x =>
    let s := refillSlot d.bal.tick (d.slot (x.fld 16 0 10))
    d.ok c (s.code.getD 0 + s.rate * 2 ^ 16 + s.burst * 2 ^ 36 + s.severity * 2 ^ 52)
      (s.supTotal % 2 ^ 32 + slotTokens s * 2 ^ 32))

/-- A freeze that an OP_LOG_READ holds ends with a command that has ended otherwise (16 R484). -/
def Dev.readSweep (d : Dev) : Dev :=
  (setBits d.evr.reading 4).foldl (fun (d : Dev) e =>
    if (d.ep e).cmds.any (fun x => x.outcome.isNone && decide (x.opcode = 0x73 ∧ x.fld 16 1 1 = 1 ∧ x.steps ≠ 0)) then d else d.unfreeze e) d

/-! ### Meanings -/

/-- OP_LOG_READ (R493). -/
def execOpLogRead (c : CmdRef) (io : Io) (s : State) : Host.Outcome State Fault Refusal :=
  .next { s with dev := doOpLogRead c io s.dev }

/-- OP_LOG_FREEZE (R494). -/
def execOpLogFreeze (c : CmdRef) (io : Io) (s : State) : Host.Outcome State Fault Refusal :=
  .next { s with dev := doOpLogFreeze c io s.dev }

/-- OP_LOG_THAW (R494). -/
def execOpLogThaw (c : CmdRef) (io : Io) (s : State) : Host.Outcome State Fault Refusal :=
  .next { s with dev := doOpLogThaw c io s.dev }

/-- OP_LOG_RATE_SET_SET (R495). -/
def execOpLogRateSetSet (c : CmdRef) (io : Io) (s : State) : Host.Outcome State Fault Refusal :=
  .next { s with dev := doOpLogRateSetSet c io s.dev }

/-- OP_LOG_RATE_SET_READ (R495). -/
def execOpLogRateSetRead (c : CmdRef) (io : Io) (s : State) : Host.Outcome State Fault Refusal :=
  .next { s with dev := doOpLogRateSetRead c io s.dev }

/-- RECORD_ADMIT (R476). -/
def execRecordAdmit (check : Ecc) (s : State) : Host.Outcome State Fault Refusal :=
  .next { s with dev := doRecordAdmit check s.dev }

/-- SUPPRESSION_SUMMARY (R481). -/
def execSuppressionSummary (slot : Nat) (s : State) : Host.Outcome State Fault Refusal :=
  .next { s with dev := doSuppressionSummary slot s.dev }

/-- LOG_FREEZE_LIMIT (R484). -/
def execLogFreezeLimit (s : State) : Host.Outcome State Fault Refusal :=
  .next { s with dev := doLogFreezeLimit s.dev }

/-- HOLDING_FIFO_DRAIN (R485). -/
def execHoldingFifoDrain (check : Ecc) (s : State) : Host.Outcome State Fault Refusal :=
  .next { s with dev := doHoldingFifoDrain check s.dev }

/-- PERSISTENT_PAGE_PROGRAM (R489). -/
def execPersistentPageProgram (n : Nat) (ok : Bool) (s : State) : Host.Outcome State Fault Refusal :=
  .next { s with dev := doPersistentPageProgram n ok s.dev }

/-- FLASH_SECTOR_ERASE (R488). -/
def execFlashSectorErase (sector : Nat) (ok : Bool) (s : State) : Host.Outcome State Fault Refusal :=
  .next { s with dev := doFlashSectorErase sector ok s.dev }

/-- HOURMARK (R478). -/
def execHourmark (s : State) : Host.Outcome State Fault Refusal :=
  .next { s with dev := doHourmark s.dev }

/-- POWER_ON_SCAN_DONE (R477). -/
def execPowerOnScanDone (sectors : List (Nat × List Byte)) (hours : Nat) (s : State) : Host.Outcome State Fault Refusal :=
  .next { s with dev := doPowerOnScanDone sectors hours s.dev }

end Sys2Proof.Machine
end

