-- ==== Sys2Proof/Machine/Switch.lean ====
section
/-! DEFINITION. The switch core behind the crossings: resequencers, multicast lanes, planes, discards in a pipeline,
and the memory errors of the buffer (chapters 9, 10). -/
namespace Sys2Proof.Machine

def Dev.stream (d : Dev) (q s : Nat) : Stream := tget d.swc.streams {} (32 * q + s)
def Dev.modStream (d : Dev) (q s : Nat) (f : Stream → Stream) : Dev :=
  { d with swc := { d.swc with streams := tmod d.swc.streams {} (32 * q + s) f } }

/-! ### Discards in an egress pipeline (09 R263, R264) -/

/-- The egress queues of pipeline `q` that hold something. -/
def Dev.keysOf (d : Dev) (q : Nat) : List Nat :=
  (d.dp.queues.map (fun x => x.1)).filter (fun k => decide (pipeOf (destOf k).port = q))
/-- The egress ports of pipeline `q` with frames on their way out. -/
def Dev.sendersOf (d : Dev) (q : Nat) : List Nat := (d.dp.tx.map (fun t => t.1)).filter (fun p => decide (pipeOf p = q))

/-- A frame being transmitted is discarded: it ends at the first byte it lacks, stomped; the count and LOST stand. -/
def Tx.abandon (y : Tx) : Tx := { y with stomp := true, lost := true, need := y.got }

/-- Discards the copies of a packet in pipeline `q` that satisfy a condition: those not started are dropped, those on the wire
stomped; each is counted, against its egress port or, `byIngress`, the packet's ingress port. -/
def Dev.discardCopies (d : Dev) (q pid : Nat) (c : Ctr) (byIngress : Bool) (mine : Dest → Bool) : Dev :=
  match d.pkt? pid with
  | none => d
  | some x =>
    let d := (x.waiting.filter (fun t => decide (pipeOf t.port = q) && mine t)).foldl (fun d t =>
      (d.modPkt pid (fun y => { y with waiting := y.waiting.erase t })).copyDrop (partyReseq q) { pid := pid } t c
        (dropIdx byIngress x t)) d
    let d := ((d.keysOf q).filter (fun k => mine (destOf k))).foldl (fun d k =>
      ((d.queue k).ents.filter (fun e => decide (e.pid = pid))).foldl (fun d e =>
        (d.modQueue k (fun u => { u with ents := u.ents.filter (fun f => decide (f ≠ e)) })).copyDrop (partyReseq q) e (destOf k) c
          (dropIdx byIngress x (destOf k))) d) d
    (d.sendersOf q).foldl (fun d p =>
      (d.txs p).foldl (fun d y =>
        if (decide (y.ent.pid = pid ∧ !y.lost)) && mine y.dest then
          ((d.setTxs p ((d.txs p).map (fun z => if z = y then z.abandon else z))).bump c (dropIdx byIngress x y.dest)).meter x q 6 x.len
        else d) d) d

/-- Discards every copy of a packet in pipeline `q`. -/
def Dev.discardIn (d : Dev) (q pid : Nat) (c : Ctr) (byIngress : Bool) : Dev := d.discardCopies q pid c byIngress (fun _ => true)

/-- Discards a packet in every pipeline. -/
def Dev.discardEverywhere (d : Dev) (pid : Nat) (c : Ctr) (byIngress : Bool) : Dev :=
  (List.range 16).foldl (fun d q => d.discardIn q pid c byIngress) d

/-! ### Delivery to the Escapement (09 R268, R271) -/

/-- A granted frame that has not begun keeps a delivered cell while its port is idle; otherwise the cell is discarded
and will be read. -/
def Ent.deliver (e : Ent) (idle : Bool) : Ent :=
  if e.reread then e else if idle then { e with got := e.got + 1 } else { e with got := 0, reread := true }

/-- A frame on its way out takes a cell of its packet, and learns of its end. -/
def Tx.take (y : Tx) (x : Cross) : Tx :=
  { y with
    got := if y.got < y.need then y.got + 1 else y.got
    eop := y.eop || x.eop, stomp := y.stomp || (x.eop && x.stomp) }

/-- The first frame of a port's transmit record that matches takes a cell. -/
def Dev.txTakes (d : Dev) (p : Nat) (x : Cross) (c : Tx → Bool) : Dev :=
  match (d.txs p).findIdx? c with
  | some i => d.setTxs p ((d.txs p).modify i (fun y => y.take x))
  | none => d

/-- A released cell reaches the frames of its packet in pipeline `q`: a read goes to the frame of its copy, a cut-through cell to
every granted copy. A STOMP EOP cell stomps the copies that have begun and drops the others as DR_RX_FCS. -/
def Dev.deliver (d : Dev) (q : Nat) (x : Cross) : Dev :=
  if x.stream = 16 then
    match x.copy with
    | some t => d.txTakes t.port x (fun y => decide (y.ent.pid = x.pid ∧ y.dest = t ∧ y.got < y.need))
    | none => d
  else
    let d := (d.sendersOf q).foldl (fun d p => d.txTakes p x (fun y => decide (y.ent.pid = x.pid ∧ y.cut))) d
    let d := if x.eop then
        { d with dp := { d.dp with owed := d.dp.owed.map (fun (t : Nat × List Tx) =>
          (t.1, t.2.map (fun (y : Tx) => if y.ent.pid = x.pid ∧ pipeOf t.1 = q then { y with eop := true } else y))) } }
      else d
    (d.keysOf q).foldl (fun d k =>
      let mine := (d.queue k).ents.filter (fun e => decide (e.pid = x.pid ∧ e.ct))
      if mine.isEmpty then d
      else if x.eop && x.stomp then
        mine.foldl (fun d e => (d.modQueue k (fun u => { u with ents := u.ents.filter (fun f => decide (f ≠ e)) })).copyDrop
          (partyEgress q) e (destOf k) .drRxFcs (((d.pkt? x.pid).map Pkt.first).getD 0)) d
      else
        let idle := (d.txs (destOf k).port).isEmpty
        d.modQueue k (fun u => { u with ents := u.ents.map (fun e => if e.pid = x.pid ∧ e.ct then e.deliver idle else e) })) d

/-! ### The resequencer (09 R259-R262) -/

/-- Releases the run of held cells that begins at NEXT; the first argument bounds the run. -/
def Dev.releaseRun : Nat → Nat → Nat → Dev → Dev
  | 0, _, _, d => d
  | n + 1, q, s, d =>
    let y := d.stream q s
    match y.held.find? (fun x => decide (x.seq = y.next)) with
    | none => d
    | some x =>
      let d := d.modStream q s (fun z => { z with next := (z.next + 1) % 65536, held := z.held.erase x, last := some x })
      (d.deliver q x).releaseRun n q s

/-- Cells held by a pipeline's resequencer. -/
def Dev.window (d : Dev) (q : Nat) : Nat := (List.range 17).foldl (fun n s => n + (d.stream q s).held.length) 0

/-- FS_SWC_RESEQ_FULL follows the window: it is live while the window is full, and for 1 ms after (09 R282). -/
def Dev.windowSource (d : Dev) (q : Nat) : Dev :=
  let x := d.src (0xA20 + q)
  if 2048 ≤ d.window q then d.setLive (0xA20 + q)
  else if x.live && x.windowEnd.isNone then d.liveMs (0xA20 + q) else d

/-- Granted copies of which every cell fell into a gap: sent whole, nothing of them released or held, nothing on its way that is
not late. They never reach the egress, and their cells are left to the orphan sweep (09 R260). -/
def Dev.dropLostWhole (d : Dev) (q s : Nat) : Dev :=
  if s = 16 then d
  else (d.keysOf q).foldl (fun d k =>
    ((d.queue k).ents.filter (fun e =>
      e.ct && decide (e.got = 0) && !e.reread && match d.pkt? e.pid with
        | some x => decide (x.pipe = s ∧ x.written = x.need) && x.repl.isNone &&
            !d.swc.flight.any (fun c => decide (c.pid = e.pid ∧ c.dst = q ∧ c.stream = s ∧ (c.seq + 65536 - (d.stream q s).next) % 65536 < 32768)) &&
            !(d.stream q s).held.any (fun c => decide (c.pid = e.pid))
        | none => false)).foldl (fun d e =>
      ((d.modQueue k (fun u => { u with ents := u.ents.filter (fun f => decide (f ≠ e)) })).modPkt e.pid (fun y =>
        { y with copies := y.copies - 1, left := y.left ++ [q] })).tidy e.pid) d) d

/-- The packet of a cell beside a gap is discarded: the copy that the cell was for, counted once against its egress port, even
where its frame has ended before (09 R260). -/
def Dev.gapDiscard (d : Dev) (q : Nat) (x : Cross) : Dev :=
  let port := (x.copy.map Dest.port).getD (x.dest % 1024)
  let seen := ((d.pkt? x.pid).map (fun y => y.gapped.contains q)).getD false
  if seen then d
  else
    let n := d.ctr .drReseqGap port
    let d := d.discardCopies q x.pid .drReseqGap false (fun t => decide (t.port = port))
    let d := if d.ctr .drReseqGap port = n then d.bump .drReseqGap port else d
    let d := { d with dp := { d.dp with owed := d.dp.owed.map (fun (t : Nat × List Tx) => (t.1, t.2.filter (fun (y : Tx) => decide (y.ent.pid ≠ x.pid)))) } }
    d.modPkt x.pid (fun y => { y with gapped := q :: y.gapped })

/-- A stream skips its gap (09 R260). -/
def Dev.skipGap (d : Dev) (q s : Nat) : Dev :=
  let y := d.stream q s
  match y.held with
  | [] => d
  | h :: t =>
    let dist (x : Cross) : Nat := (x.seq + 65536 - y.next) % 65536
    let first := t.foldl (fun a b => if dist b < dist a then b else a) h
    let before := match y.last with
      | some x => if x.eop then [] else [x]
      | none => []
    let behind := if first.sop || before.any (fun x => decide (x.pid = first.pid)) then [] else [first]
    let d := (before ++ behind).foldl (fun d x => d.gapDiscard q x) d
    let d := d.modStream q s (fun z => { z with next := first.seq, last := none })
    let d := d.releaseRun 2049 q s
    let d := d.modStream q s (fun z => { z with gapAt := if z.held.isEmpty then none else some d.bal.tick })
    let d := (((d.dropLostWhole q s).windowSource q).bump .reseqSkip q)
    (d.liveMs (0xA10 + q)).record Ev.reseqGap .shared (some (0xA10 + q))
      (dat [(0, 1, q), (1, 1, s), (2, 2, y.next), (4, 2, (first.seq + 65535) % 65536), (6, 2, (before ++ behind).length)])

/-- The stream of a pipeline whose gap has been open longest. -/
def Dev.oldestGap (d : Dev) (q : Nat) : Option Nat :=
  ((List.range 17).foldl (fun (best : Option (Nat × Nat)) s =>
    match (d.stream q s).gapAt, best with
    | some t, some (u, _) => if t < u then some (t, s) else best
    | some t, none => some (t, s)
    | none, _ => best) none).map (fun b => b.2)

/-- A packet holds a cell: in its chain, in that of its earlier pass, or among those read back from the basin. -/
def Dev.cellTaken (d : Dev) (c : Nat) : Bool :=
  d.dp.pkts.any (fun x => match x.2 with
    | some y => y.cells.contains c || y.oldCells.contains c
    | none => false) ||
  d.dp.queues.any (fun q => q.2.ents.any (fun e => e.own.contains c)) || d.dp.tx.any (fun t => t.2.any (fun y => y.ent.own.contains c))

/-- A late cell is discarded. A packet dropped earlier gave up its references then; the reference of a cell whose packet was lost
whole is released here (09 R262). -/
def Dev.lateCell (d : Dev) (x : Cross) : Dev :=
  let d := d.bump .reseqLate x.dst
  let open_ := match d.pkt? x.pid with
    | some y => y.left.contains x.dst && y.cells.contains x.cell
    | none => (d.cell x.cell).held && !d.cellTaken x.cell
  if open_ && x.stream ≠ 16 then
    ((d.modPkt x.pid (fun y => { y with cells := y.cells.erase x.cell })).release (partyReseq x.dst) x.cell (d.cell x.cell).owner).2
  else d

/-- A unicast cell enters the resequencer of pipeline `q`. -/
def Dev.resequence (d : Dev) (x : Cross) : Dev :=
  let q := x.dst
  let ahead (d : Dev) : Nat := (x.seq + 65536 - (d.stream q x.stream).next) % 65536
  if 32768 ≤ ahead d then d.lateCell x
  else
    let d := if 0 < ahead d ∧ 2048 ≤ d.window q then
        match d.oldestGap q with
        | some s => (d.skipGap q s).bump .reseqFullSkip q
        | none => d
      else d
    if 32768 ≤ ahead d then d.lateCell x
    else
      let d := d.modStream q x.stream (fun y => { y with held := y.held ++ [x] })
      let d := d.releaseRun 2049 q x.stream
      (d.modStream q x.stream (fun y =>
        { y with gapAt := if y.held.isEmpty then none else some (y.gapAt.getD d.bal.tick) })).windowSource q

/-! ### Multicast lanes (09 R263) -/

def Dev.mcLane (d : Dev) (q s : Nat) : McLane := tget d.swc.mcLanes {} (16 * q + s)
def Dev.setMcLane (d : Dev) (q s : Nat) (l : McLane) : Dev :=
  { d with swc := { d.swc with mcLanes := tset d.swc.mcLanes {} (16 * q + s) l } }

/-- A multicast cell enters the lane of its source pipeline: a CELL_NO out of order, or an SOP before the expected EOP,
discards that packet in this pipeline. -/
def Dev.mcArrive (d : Dev) (x : Cross) : Dev :=
  let q := x.dst
  let l := d.mcLane q x.src
  let broken := match l.pid with
    | some p => if p = x.pid ∧ l.expect = x.no then [] else if x.sop ∧ p ≠ x.pid then [p] else [p, x.pid].eraseDups
    | none => if x.sop then [] else [x.pid]
  let d := broken.foldl (fun d p => d.discardIn q p .drReseqGap false) d
  let d := d.setMcLane q x.src (if x.eop || broken.contains x.pid then {} else { pid := some x.pid, expect := x.no + 1 })
  if broken.contains x.pid then d else d.deliver q x

/-! ### Planes (09 R256, R264, R265) -/

def Dev.modPlane (d : Dev) (k : Nat) (f : Plane → Plane) : Dev :=
  { d with swc := { d.swc with planes := tmod d.swc.planes {} k f } }

/-- The attachment of pipeline `q` on a plane sees a header: a valid one, or one that is uncorrectable. -/
def Dev.hear (d : Dev) (k q : Nat) (valid : Bool) : Dev :=
  d.modPlane k (fun x =>
    if valid then { x with heard := tset x.heard 0 q d.bal.tick }
    else { x with badAt := tset x.badAt [] q ((d.bal.tick :: tget x.badAt [] q).take 4) })

/-- The multicast planes of the ingress pipelines follow the spray set: from a plane that has been removed at once, back to a
restored one when no multicast cell of the source is in flight (09 R256, R265). -/
def Dev.mcSettle (d : Dev) : Dev :=
  (List.range 16).foldl (fun d p =>
    match d.mcWant p with
    | none => d
    | some k =>
      let go := match (d.plane (d.mcPlane p)).st with
        | .active => !d.swc.flight.any (fun x => decide (x.src = p) && x.mc)
        | .failed => false
        | _ => true
      if k ≠ d.mcPlane p && go then { d with swc := { d.swc with mcOn := tset d.swc.mcOn none p (some k) } } else d) d

/-- The place of the cell that arrives when cell `i` of those under way is due: multicast cells of one source reach a pipeline in
the order they were sent (09 R256). -/
def Dev.dueCell (d : Dev) (i : Nat) (x : Cross) : Nat :=
  if x.mc then (d.swc.flight.findIdx? (fun y => y.mc && decide (y.src = x.src ∧ y.dst = x.dst))).getD i else i

/-- CELL_ARRIVAL_EGRESS: a cell that crosses a plane arrives, as its plane delivers it; `i` is its place among the cells
under way (09 R258-R264). -/
def doCellArrivalEgress (i : Nat) (how : Carried) (d : Dev) : Dev :=
  match (d.swc.flight[i]?).bind (fun x => (d.swc.flight[d.dueCell i x]?).map (fun y => (d.dueCell i x, y))) with
  | none => d
  | some (j, x) =>
    let d := { d with swc := { d.swc with flight := d.swc.flight.eraseIdx j } }
    let d := if how = .clean then d else d.liveMs (0xA04 + x.plane)
    let d := d.hear x.plane x.dst (decide (how ≠ .lost))
    let d :=
      if how = .lost then d
      else
        let d := if how = .poison || x.poison then d.discardIn x.dst x.pid .drPlaneEcc false else d
        if x.mc then d.mcArrive x else d.resequence x
    if x.mc then d.mcSettle else d

/-- RESEQ_GAP_TIMEOUT: a stream's gap timer reaches 2 µs (09 R260). -/
def doReseqGapTimeout (pipe stream : Nat) (d : Dev) : Dev :=
  match (d.stream pipe stream).gapAt with
  | some t => (d.reach (t + usTicks 2)).skipGap pipe stream
  | none => d

/-- CONFIRM_TIMEOUT: a stored packet is not wholly confirmed 64 core cycles after its last cell's write crossing: it is
discarded at ingress, and its confirmed cells are released (10 R289). -/
def doConfirmTimeout (pid : Nat) (d : Dev) : Dev :=
  match d.pkt? pid with
  | none => d
  | some x =>
    if x.waiting.isEmpty || decide (x.written ≠ x.need) || x.cells.all (fun c => (d.cell c).confirmed) then d
    else
      let d := d.reach (x.lastWrite + 1)
      let sure := x.cells.filter (fun c => (d.cell c).confirmed)
      let d := x.waiting.foldl (fun d t =>
        let d := ((d.bump .drPlaneEcc t.port).meter x (pipeOf t.port) 6 x.len).releaseAll partyRepl x.acct sure
        (d.replDone x t).modPkt pid (fun y => { y with waiting := y.waiting.erase t, copies := y.copies - 1 })) d
      (d.unstage pid x).tidy pid

/-! ### The hold of multicast copies (09 R279) -/

/-- The tick at which a packet's multicast copies have been queued for MC_HOLD_US. -/
def Pkt.holdDue (x : Pkt) : Nat := x.admTick + usTicks x.mcHold

/-- The multicast copies queued for a destination, each as its packet and, once it is linked, its entry. -/
def Dev.mcQueued (d : Dev) (t : Dest) : List (Nat × Option Ent) :=
  (d.queue t.key).ents.map (fun e => (e.pid, some e)) ++
    d.dp.pkts.filterMap (fun x => match x.2 with
      | some y => if y.waiting.contains t then some (x.1, none) else none
      | none => none)

/-- MC_COPY_HOLD_DROP: of the copies of multicast queue `m` of a back-pressured port, the first that has been queued for
its MC_HOLD_US is dropped (09 R279). -/
def doMcCopyHoldDrop (port m : Nat) (d : Dev) : Dev :=
  let t := Dest.mc port m
  if 512 ≤ port || !((d.fcp port).paused (16 + m) || decide ((d.port port).st = .holdRunning)) then d
  else
    let due (pid : Nat) : Nat := ((d.pkt? pid).map Pkt.holdDue).getD 0
    match d.mcQueued t with
    | [] => d
    | h :: l =>
      let c := l.foldl (fun a b => if due b.1 < due a.1 then b else a) h
      let us := ((d.pkt? c.1).map Pkt.mcHold).getD 0
      let d := d.reach (due c.1)
      let d := match c.2 with
        | some e => (d.modQueue t.key (fun u => { u with ents := u.ents.erase e })).copyDrop (partyEgress (pipeOf port)) e t .drMcastCopyHold port
        | none => (d.modPkt c.1 (fun y => { y with waiting := y.waiting.erase t })).copyDrop (partyEgress (pipeOf port)) { pid := c.1 } t
            .drMcastCopyHold port
      (d.liveMs 0xA30).record Ev.mcCopyHold (d.attribution (0x300 + port)) (some 0xA30)
        (dat [(0, 2, port), (2, 2, 4 * port + m), (4, 4, us)])

/-! ### Planes lost and restored (09 R264, R265) -/

/-- FS_SWC_PLANE_LOST and FS_SWC_NO_PLANE follow the planes. -/
def Dev.planeSources (d : Dev) : Dev :=
  let d := (List.range 4).foldl (fun d k =>
    if (d.src (0xA00 + k)).live = decide ((d.plane k).st ≠ .active) then d
    else d.live (0xA00 + k) (decide ((d.plane k).st ≠ .active))) d
  d.live 0xA08 d.spraySet.isEmpty

/-- What the attachment of a pipeline must have found: four uncorrectable headers within 1,024 core cycles (cause 1). -/
def Plane.fourBad (x : Plane) (q : Nat) : Bool :=
  match tget x.badAt [] q with
  | [a, _, _, b] => decide (a ≤ b + 16)
  | _ => false

/-- PLANE_FAILURE: plane `k` is found failed by pipeline `pipe`; cause 0 no valid header for 512 core cycles, 1 four uncorrectable
headers within 1,024, 2 its self-check (09 R264). -/
def doPlaneFailure (plane pipe cause : Nat) (d : Dev) : Dev :=
  let x := d.plane plane
  if 4 ≤ plane || decide (x.st ≠ .active) || (decide (cause = 1) && !x.fourBad pipe) then d
  else
    let d := if cause = 0 then d.reach (tget x.heard 0 pipe + 8) else d
    let d := (d.modPlane plane (fun _ => { st := .failed, since := d.bal.tick })).planeSources
    d.record Ev.planeLost .shared (some (0xA00 + plane)) (dat [(0, 1, plane), (1, 1, pipe), (2, 1, cause)])

/-- PLANE_REMOVED: every pipeline has withdrawn from a failed plane; each gap open for more than 64 core cycles is
skipped, and the multicast planes move. -/
def doPlaneRemoved (plane : Nat) (d : Dev) : Dev :=
  if (d.plane plane).st ≠ .failed then d
  else
    let d := d.modPlane plane (fun x => { x with st := .removed, since := d.bal.tick, checked := false })
    let d := (List.range 16).foldl (fun d q => (List.range 17).foldl (fun d s =>
      match (d.stream q s).gapAt with
      | some t => if t + 1 < d.bal.tick then d.skipGap q s else d
      | none => d) d) d
    d.mcSettle

/-- PLANE_SELF_CHECK: the self-check is repeated 10 µs after the removal, and classes the fault. -/
def doPlaneSelfCheck (plane : Nat) (ok : Bool) (d : Dev) : Dev :=
  let x := d.plane plane
  if x.st ≠ .removed ∨ x.checked then d
  else
    let d := (d.reach (x.since + usTicks 10)).modPlane plane (fun y => { y with checked := true })
    if ok then d.reclass (0xA00 + plane) else d

/-- RESTORE of planes: a plane that is not REMOVED ignores it. -/
def Dev.planeRestore (d : Dev) (mask : Nat) : Dev :=
  (setBits mask 4).foldl (fun d k => if (d.plane k).st = .removed then d.modPlane k (fun x => { x with st := .testing }) else d) d

/-- PLANE_BIST_DONE: the BIST of a plane under test passes or fails. -/
def doPlaneBistDone (plane : Nat) (ok : Bool) (d : Dev) : Dev :=
  if (d.plane plane).st ≠ .testing then d
  else if ok then
    (((d.modPlane plane (fun _ => {})).planeSources).mcSettle).record Ev.planeRestored .shared none (dat [(0, 1, plane)])
  else
    (d.modPlane plane (fun x => { x with st := .removed, checked := true })).record Ev.planeRestoreFailed .shared
      (some (0xA00 + plane)) (dat [(0, 1, plane)])

/-! ### Memory errors in the buffer (10 R306) -/

/-- A packet that holds a cell, in its chain or in that of its earlier pass. -/
def Dev.holderOf (d : Dev) (c : Nat) : Option Nat :=
  (d.dp.pkts.find? (fun x => match x.2 with
    | some y => y.cells.contains c || y.oldCells.contains c
    | none => false)).map (fun x => x.1)

/-- A cell that a copy read back from the basin is lost: the copy is discarded. -/
def Dev.ownError (d : Dev) (c : Nat) : Dev :=
  let d := (d.dp.queues.map (fun q => q.1)).foldl (fun d k =>
    ((d.queue k).ents.filter (fun e => e.own.contains c)).foldl (fun d e =>
      (d.modQueue k (fun u => { u with ents := u.ents.filter (fun f => decide (f ≠ e)) })).copyDrop (partyEgress (pipeOf (destOf k).port))
        { e with own := e.own.erase c } (destOf k) .drBufferEcc (((d.pkt? e.pid).map Pkt.first).getD 0)) d) d
  (d.dp.tx.map (fun t => t.1)).foldl (fun d p =>
    ((d.txs p).filter (fun y => y.ent.own.contains c && !y.lost)).foldl (fun d y =>
      let z := y.abandon
      let d := d.setTxs p ((d.txs p).map (fun w => if w = y then { z with ent := { z.ent with own := z.ent.own.erase c } } else w))
      match d.pkt? y.ent.pid with
      | some x => (d.bump .drBufferEcc x.first).meter x (pipeOf p) 6 x.len
      | none => d) d) d

/-- A descriptor fails uncorrectably: the packet that holds the cell is discarded, and the cell is retired. -/
def Dev.descError (d : Dev) (c : Nat) (lasting : Bool) : Dev :=
  let d := (d.liveMs 0xB02).modSrc 0xB02 (fun x => { x with lasting := lasting })
  let d := if (d.cell c).held then (d.credit (d.cell c).owner (d.cell c).cls).modCell c (fun _ => {})
    else d.modList (listOf c) (fun l => { l with headCache := l.headCache.erase c, retCache := l.retCache.erase c })
  let d := (d.retireCell c 0).ownError c
  match d.holderOf c with
  | none => d
  | some pid =>
    let d := d.modPkt pid (fun y => { y with cells := y.cells.erase c, oldCells := y.oldCells.erase c, refused := true })
    (d.discardEverywhere pid .drBufferEcc true).tidy pid

/-- A payload fails uncorrectably as it is read; a lasting error condemns the cell. -/
def Dev.payloadError (d : Dev) (c : Nat) (lasting : Bool) : Dev :=
  let d := (d.liveMs 0xB04).modSrc 0xB04 (fun x => { x with lasting := lasting })
  if lasting ∧ !d.bpm.condemned.contains c then { d with bpm := { d.bpm with condemned := c :: d.bpm.condemned } } else d

/-- A replication descriptor fails: its remaining copies are discarded, and its cells left to the orphan sweep (09
R282). -/
def Dev.replError (d : Dev) (r : Nat) : Dev :=
  match tget d.swc.repl none r with
  | none => d
  | some y =>
    let cells := ((d.pkt? y.pid).map (fun x => x.cells ++ x.oldCells)).getD []
    let d := cells.foldl (fun d c => d.modCell c (fun z => { z with confirmed := false })) (d.liveMs 0xA09)
    let d := d.modPkt y.pid (fun x => { x with cells := [], oldCells := [], refused := true })
    (d.discardEverywhere y.pid .drPlaneEcc false).tidy y.pid

/-- ORPHAN_SWEEP_VISIT: the sweep visits the next descriptor, whose ECC is checked (10 R305, R306). -/
def doOrphanSweepVisit (check : Ecc) (d : Dev) : Dev :=
  let c := d.bpm.sweepPos
  let d := { d with bpm := { d.bpm with sweepPos := (c + 1) % 1048576 } }
  let x := d.cell c
  match check with
  | .once => d.descError c false
  | .lasting => d.descError c true
  | _ =>
    let d := if check = .corrected then d.bump .bpmDescCe 0 else d
    if !x.held then d
    else if x.confirmed then d.modCell c (fun y => { y with mark := false })
    else if !x.mark then d.modCell c (fun y => { y with mark := true })
    else d.reclaim c

/-! ### Meanings -/

/-- CONFIRM_TIMEOUT (R289). -/
def execConfirmTimeout (pid : Nat) (s : State) : Host.Outcome State Fault Refusal :=
  .next { s with dev := doConfirmTimeout pid s.dev }

/-- CELL_ARRIVAL_EGRESS (R259). -/
def execCellArrivalEgress (i : Nat) (how : Carried) (s : State) : Host.Outcome State Fault Refusal :=
  .next { s with dev := doCellArrivalEgress i how s.dev }

/-- RESEQ_GAP_TIMEOUT (R260). -/
def execReseqGapTimeout (pipe : Nat) (stream : Nat) (s : State) : Host.Outcome State Fault Refusal :=
  .next { s with dev := doReseqGapTimeout pipe stream s.dev }

/-- MC_COPY_HOLD_DROP (R279). -/
def execMcCopyHoldDrop (port : Nat) (m : Nat) (s : State) : Host.Outcome State Fault Refusal :=
  .next { s with dev := doMcCopyHoldDrop port m s.dev }

/-- ORPHAN_SWEEP_VISIT (R305). -/
def execOrphanSweepVisit (check : Ecc) (s : State) : Host.Outcome State Fault Refusal :=
  .next { s with dev := doOrphanSweepVisit check s.dev }

/-- PLANE_FAILURE (R264). -/
def execPlaneFailure (plane : Nat) (pipe : Nat) (cause : Nat) (s : State) : Host.Outcome State Fault Refusal :=
  .next { s with dev := doPlaneFailure plane pipe cause s.dev }

/-- PLANE_REMOVED (R265). -/
def execPlaneRemoved (plane : Nat) (s : State) : Host.Outcome State Fault Refusal :=
  .next { s with dev := doPlaneRemoved plane s.dev }

/-- PLANE_SELF_CHECK (R265). -/
def execPlaneSelfCheck (plane : Nat) (ok : Bool) (s : State) : Host.Outcome State Fault Refusal :=
  .next { s with dev := doPlaneSelfCheck plane ok s.dev }

/-- PLANE_BIST_DONE (R265). -/
def execPlaneBistDone (plane : Nat) (ok : Bool) (s : State) : Host.Outcome State Fault Refusal :=
  .next { s with dev := doPlaneBistDone plane ok s.dev }

end Sys2Proof.Machine
end

