-- ==== Sys2Proof/Machine/Planes.lean ====
section
/-! DEFINITION. The crossings of one core cycle: the cells of packets toward their bank pairs, cut-through cells toward their egress
pipelines as well, and reads back from the banks; how they share the attachments of the planes (09 R253-R258, 10 R287). -/
namespace Sys2Proof.Machine

/-! ### Later cells (10 R295, R299, 11 R347) -/

/-- A packet meets overrun with a later cell: it is dropped and its cells released; a packet of another account waits (10 R295,
R297). -/
def Dev.laterOverrun (d : Dev) (pid : Nat) (x : Pkt) : Dev :=
  if x.acct < 512 then
    let d := d.overrun x.acct x.cls
    let n := d.ctr .drHeadroomOverrun x.acct
    (d.discardPkt pid partyRepl .drHeadroomOverrun (fun _ _ => x.acct)).setCtr .drHeadroomOverrun x.acct n
  else if x.acct = 533 then d.discardPkt pid partyRepl .drMirrorCopy (fun y _ => y.edit.mirror.getD 16384 - 16384)
  else d

/-- The pool from which a packet takes a later cell. A staged frame of a long-reach class takes it from headroom alone. -/
def Dev.laterPool (d : Dev) (x : Pkt) : Option Pool :=
  if x.lrq then (if (d.acct x.acct).hu.getD x.cls 0 < (d.acct x.acct).hr.getD x.cls 0 then some .headroom else none)
  else d.ladder x.acct x.cls false

/-- A packet's next write crossing is due: a copy is left, and the last cell waits for the frame's end. -/
def Pkt.writes (x : Pkt) : Bool :=
  decide (x.copies ≠ 0 ∧ x.written < x.need) && !x.refused && (decide (x.written + 1 < x.need) || x.whole)

/-- The packet has no cell in hand for its next write crossing. -/
def Pkt.lacksCell (x : Pkt) : Bool := x.writes && decide (x.cells.length ≤ x.written)

/-- A packet asks for its next cell: it takes one, waits a core cycle where every list is in conflict (10 R287), or meets overrun. -/
def Dev.laterCell (d : Dev) (pid : Nat) : Dev :=
  match d.pkt? pid with
  | none => d
  | some x =>
    if !x.lacksCell then d
    else match d.laterPool x with
    | none => d.laterOverrun pid x
    | some pl => match d.takeFor x pl x.copies with
      | none => d
      | some r => r.2.modPkt pid (fun y => { y with cells := y.cells ++ [r.1] })

/-- The later cells of a core cycle, granted in the order of R299. -/
def Dev.laterCells (d : Dev) (ids : List Nat) : Dev :=
  d.inTurn (ids.filter (fun i => ((d.pkt? i).map Pkt.lacksCell).getD false)) (fun d i => (d.pkt? i).bind d.laterPool) Dev.laterCell

/-! ### A cell's crossing -/

/-- The crossing header of a packet's next cell, before its destination is known (09 Table 9-1). -/
def crossOf (pid : Nat) (x : Pkt) (k no cell : Nat) : Cross :=
  let last := decide (no + 1 = x.need)
  { plane := k, src := x.pipe, dst := 0, stream := 31, seq := 0, pid := pid, cell := cell, head := x.cells.headD cell, no := no
    sop := decide (no = 0), eop := last, last := if last then x.len - 256 * no - 1 else 0xFF, mc := x.repl.isSome
    ct := !x.ctTo.isEmpty, stomp := last && x.badFcs
    dest := match x.repl with
      | some r => r
      | none => ((x.ctTo ++ x.waiting).head?.map (fun t => t.port + 1024 * (t.qnum % 16))).getD 0
    gen := x.gen, prio := x.prio, polder := x.polder }

/-- The 128 bits of a crossing header (09 Table 9-1). -/
def Cross.header (x : Cross) : BitVec 128 :=
  BitVec.ofNat 128 (pack [(0, 20, x.cell), (20, 20, x.head), (40, 16, if x.mc then 0 else x.seq), (56, 5, x.stream),
    (61, 4, if x.mc then 0 else x.dst), (65, 1, b2n x.sop), (66, 1, b2n x.eop), (67, 8, x.last), (75, 1, b2n x.mc), (76, 1, b2n x.ct),
    (77, 1, b2n x.stomp), (78, 1, b2n x.poison), (79, 14, x.dest), (93, 4, x.gen), (97, 2, x.plane), (99, 3, x.prio),
    (102, 3, x.polder), (105, 6, x.no)])

/-- A cell is sent toward an egress pipeline: on a stream it takes the next SEQ (09 R258). -/
def Dev.launch (d : Dev) (x : Cross) : Dev :=
  if x.mc then { d with swc := { d.swc with flight := d.swc.flight ++ [x] } }
  else
    let seq := (d.stream x.dst x.stream).sendSeq
    let d := d.modStream x.dst x.stream (fun s => { s with sendSeq := (seq + 1) % 65536 })
    { d with swc := { d.swc with flight := d.swc.flight ++ [{ x with seq := seq }] } }

/-- The pipelines to which a packet's cells are delivered as they are written: those of PIPE_MASK, or that of the cut-through copy
(09 R253, R277). -/
def Dev.fanOut (d : Dev) (x : Pkt) : List Nat :=
  match x.repl with
  | some r => setBits (((tget d.swc.repl none r).map Repl.pipeMask).getD 0) 16
  | none => (x.ctTo.map (fun t => pipeOf t.port)).take 1

/-- The write crossing of a packet's next cell on plane `k`. `how` is what the plane makes of it on the way to the bank pair: a lost
cell is never written, a poisoned one discards its packet everywhere (09 R264). -/
def Dev.writeCross (d : Dev) (pid k : Nat) (how : Carried) : Dev :=
  match d.pkt? pid with
  | none => d
  | some x =>
    let c := { crossOf pid x k x.written (x.cells.getD x.written 0) with poison := decide (how = .poison) }
    let d := (d.modPkt pid (fun y => { y with written := x.written + 1, lastWrite := d.bal.tick })).bump .swcCells k
    let d := if x.repl.isSome then d else { d with swc := { d.swc with spray := tset d.swc.spray 0 x.pipe ((k + 1) % 4) } }
    let d := if how = .lost then d else { d with swc := { d.swc with toBank := d.swc.toBank ++ [c] } }
    let d := if how = .clean then d else d.liveMs (0xA04 + k)
    let d := (d.fanOut x).foldl (fun d q => d.launch { c with dst := q, stream := if x.repl.isSome then 31 else x.pipe }) d
    if how = .poison then (d.discardEverywhere pid .drPlaneEcc false).tidy pid else d

/-- A read crossing on plane `k`, in the read stream of its pipeline (09 R255, R258). -/
def Dev.readCross (d : Dev) (x : Cross) (k : Nat) : Dev :=
  let d := { d with swc := { d.swc with reads := d.swc.reads.erase x, spray := tset d.swc.spray 0 (16 + x.dst) ((k + 1) % 4) } }
  (d.bump .swcCells k).launch { x with plane := k }

/-! ### Attachments (09 R253-R256) -/

/-- A crossing that wants its attachments in a core cycle. -/
inductive Crossing where
  | write (pid : Nat) (how : Carried)
  | read (x : Cross)
  deriving DecidableEq, Repr

/-- The source pipeline of a crossing. -/
def Dev.sourceOf (d : Dev) : Crossing → Nat
  | .write pid _ => ((d.pkt? pid).map Pkt.pipe).getD 0
  | .read x => x.dst

/-- The rank of a crossing: first cells of cut-through frames, other cut-through cells, reads, stored writes (09 R254). -/
def Dev.rankOf (d : Dev) : Crossing → Nat
  | .read _ => 2
  | .write pid _ => match d.pkt? pid with
    | some x => if x.ctTo.isEmpty then 3 else if x.written = 0 then 0 else 1
    | none => 3

/-- The pipelines of whose attachments a crossing takes one, on the same plane. -/
def Dev.pipesOf (d : Dev) : Crossing → List Nat
  | .read x => [x.dst]
  | .write pid _ => match d.pkt? pid with
    | some x => (x.pipe :: d.fanOut x).eraseDups
    | none => []

/-- The planes that a crossing tries, in order: the multicast plane of its source, or the spray set from the pointer on (09 R255,
R256). -/
def Dev.planesFor (d : Dev) (c : Crossing) : List Nat :=
  let spray (i : Nat) : List Nat := ((List.range 4).map (fun j => (tget d.swc.spray 0 i + j) % 4)).filter d.spraySet.contains
  match c with
  | .read x => spray (16 + x.dst)
  | .write pid _ => match d.pkt? pid with
    | some x => if x.repl.isSome then [d.mcPlane x.pipe].filter d.spraySet.contains else spray x.pipe
    | none => []

/-- A crossing takes the first plane on which its attachments are free; where there is none, it waits for the next core cycle. The
attachments taken so far are numbered 16 × plane + pipeline. -/
def Dev.cross (acc : Dev × List Nat × List Nat) (c : Crossing) : Dev × List Nat × List Nat :=
  let d := acc.1
  let pipes := d.pipesOf c
  match (d.planesFor c).find? (fun k => pipes.all (fun q => !acc.2.1.contains (16 * k + q))) with
  | none => acc
  | some k =>
    (match c with
      | .write pid how => d.writeCross pid k how
      | .read x => d.readCross x k,
      acc.2.1 ++ pipes.map (fun q => 16 * k + q), acc.2.2 ++ [d.sourceOf c])

/-- The crossings of one rank: from the round-robin pointer over source pipelines on; the pointer moves behind the first pipeline
served (DESIGN CHOICE, assumption 133). -/
def Dev.crossRank (acc : Dev × List Nat) (r : Nat) (cs : List Crossing) : Dev × List Nat :=
  let d := acc.1
  let far (c : Crossing) : Nat := (d.sourceOf c + 16 - tget d.swc.rrRank 0 r) % 16
  let out := (sortBy (fun a b => decide (far a ≤ far b)) cs).foldl Dev.cross (d, acc.2, [])
  match out.2.2 with
  | [] => (out.1, out.2.1)
  | p :: _ => ({ out.1 with swc := { out.1.swc with rrRank := tset out.1.swc.rrRank 0 r ((p + 1) % 16) } }, out.2.1)

/-- The crossings of one core cycle: `ready` names the packets whose next cell is there, with what the plane makes of it; the reads
that wait take part. -/
def Dev.cycle (d : Dev) (ready : List (Nat × Carried)) : Dev :=
  let ready := ready.filter (fun r => ((d.pkt? r.1).map Pkt.writes).getD false)
  let ready := ready.foldl (fun (l : List (Nat × Carried)) r => if l.any (fun y => decide (y.1 = r.1)) then l else l ++ [r]) []
  let d := d.laterCells (ready.map (fun r => r.1))
  let writes := (ready.filter (fun r => ((d.pkt? r.1).map (fun x => x.writes && !x.lacksCell)).getD false)).map (fun r => Crossing.write r.1 r.2)
  let all := writes ++ d.swc.reads.map Crossing.read
  ((List.range 4).foldl (fun acc r => Dev.crossRank acc r (all.filter (fun c => decide (d.rankOf c = r)))) (d, [])).1

/-- CELL_WRITE_CROSSING: the crossings of one core cycle (09 R253). -/
def doCellWriteCrossing (ready : List (Nat × Carried)) (d : Dev) : Dev := d.cycle ready

/-! ### Meanings -/

/-- CELL_WRITE_CROSSING (R253). -/
def execCellWriteCrossing (ready : List (Nat × Carried)) (s : State) : Host.Outcome State Fault Refusal :=
  .next { s with dev := doCellWriteCrossing ready s.dev }

end Sys2Proof.Machine
end

