-- ==== Sys2Proof/Machine/Send.lean ====
section
/-! DEFINITION. Dispatch, transmission, recirculation and delivery to hosts: how a queue's frame leaves (chapters 2, 8,
9, 12, 13). -/
namespace Sys2Proof.Machine

/-! ### Flooded queues at their head (11 R339, R340) -/

/-- An entry of which some cells are still to be read back. -/
def Dev.partRead (d : Dev) (e : Ent) : Bool :=
  match e.part with
  | .basin => true
  | .ret => decide (e.own.length < d.entCells e)
  | _ => false

/-- Frames of queue `k` on their way out of which some cells are still to be read back. -/
def Dev.partSent (d : Dev) (k : Nat) (y : Tx) : Bool := decide (y.dest.key = k) && !y.lost && d.partRead y.ent

/-- With BASIN empty, the packets of STAGING whose writes have not begun are linked on die, and the queue is DRY. -/
def Dev.settle (d : Dev) (k : Nat) : Dev :=
  let q := d.queue k
  if !q.flooded || q.ents.any d.partRead || (d.txs (destOf k).port).any (d.partSent k) then d
  else (d.modQueue k (fun q => { q with ents := q.ents.map (fun e => if e.part = .staging then { e with part := .head } else e) })).dry k

/-- A packet from the basin is eligible once it is wholly in RETURN, or its first 8 cells are. -/
def Ent.returned (e : Ent) (need : Nat) : Bool := decide (min 8 need ≤ e.own.length)

/-- The head of a queue may be dispatched: a plane is ACTIVE, and its cells are in hand or can be read (09 R266, R268, 11 R340). -/
def Dev.headReady (d : Dev) (e : Ent) (x : Pkt) : Bool :=
  !d.spraySet.isEmpty &&
    match e.part with
    | .basin | .staging => false
    | .ret => e.returned x.need
    | .head => if e.ct then (if e.reread then decide (0 < x.written) else decide (0 < e.got)) else true

/-! ### Lengths, gates, eligibility (12 R361, R364, R378, R379) -/

/-- Wire length of a frame on a port. -/
def Dev.wireLen (d : Dev) (p len : Nat) : Int := max 1 (len + (d.sched p).adj)
/-- The head of a queue, with its packet. -/
def Dev.head? (d : Dev) (k : Nat) : Option (Ent × Pkt) :=
  match (d.queue k).ents with
  | [] => none
  | e :: _ => (d.pkt? e.pid).map (fun x => (e, x))
/-- WT of a frame in picoseconds. -/
def Dev.wtPs (d : Dev) (p len : Nat) : Nat := (len + (d.tide p).growth + 20) * 8000 / max 1 (d.macRate p)
/-- ST of a frame dispatched now. -/
def Dev.startPs (d : Dev) (p : Nat) : Nat := max (d.timePs + 18750) ((((d.txs p).getLast?).map Tx.endPs).getD 0)

/-- The gate of queue `q` is open at the frame's start, and the frame fits before its window closes. -/
def Dev.gateFits (d : Dev) (p q len : Nat) : Bool :=
  match (d.tide p).oper with
  | none => true
  | some t => match t.window q (t.posPs (d.startPs p)) with
    | none => false
    | some none => true
    | some (some w) => decide (d.wtPs p len ≤ w)

/-- The maximum bucket of a node permits it. -/
def Dev.permits (d : Dev) (p node : Nat) : Bool := (d.bucket (bucketKey p node false)).permits
/-- The minimum bucket of a node is in guarantee. -/
def Dev.guards (d : Dev) (p node : Nat) : Bool := (d.bucket (bucketKey p node true)).guards

/-- Queue `q` of a front-panel port is eligible but for its gate; a pause does not stop a granted frame (01 R34, 12 R364). -/
def Dev.openQueue (d : Dev) (p q : Nat) : Option (Ent × Pkt) :=
  match d.head? (portKey p q) with
  | none => none
  | some (e, x) =>
    if d.headReady e x && decide ((d.port p).hold = .opened) && (e.ct || !(d.fcp p).paused q) && (decide (16 ≤ q) || d.permits p (5 + q)) then
      some (e, x)
    else none
/-- Queue `q` is eligible. -/
def Dev.eligible (d : Dev) (p q : Nat) : Bool :=
  match d.openQueue p q with
  | some (_, x) => d.gateFits p q x.len
  | none => false

/-- Frames at a queue's head that no window can take are discarded (12 R379); the first argument bounds the run. -/
def Dev.purgeHead : Nat → Nat → Nat → Dev → Dev
  | 0, _, _, d => d
  | n + 1, p, q, d =>
    let k := portKey p q
    match (d.tide p).oper, d.head? k with
    | some t, some (e, x) => match t.maxWin q with
      | some w =>
        if w = 0 ∨ d.wtPs p x.len ≤ w * 1000 then d
        else
          let d := (d.modQueue k (fun u => { u with ents := u.ents.tail })).copyDrop (partyEgress (pipeOf p)) e (destOf k) .drWindowOversize p
          let d := (d.liveMs 0xD20).record Ev.windowOversize (d.attribution (0x300 + p)) (some 0xD20)
            (dat [(0, 2, p), (2, 1, q), (3, 2, x.len), (5, 4, w)])
          d.purgeHead n p q
      | none => d
    | _, _ => d

/-- A head that waits for its window is counted once (12 R378). -/
def Dev.deferHeads (d : Dev) (p : Nat) : Dev :=
  portQs.foldl (fun d q =>
    match d.openQueue p q with
    | some (e, x) =>
      if !d.gateFits p q x.len && !e.deferred then
        (d.modQueue (portKey p q) (fun u => { u with ents := u.ents.modify 0 (fun y => { y with deferred := true }) })).bump .gateDefer p
      else d
    | none => d) d

/-! ### The choice (12 R365-R367) -/

/-- Length by which the round robin judges the head of a queue: a cut-through frame's is unknown, and stands for 1. -/
def Dev.headLen (d : Dev) (p q : Nat) : Int :=
  match d.head? (portKey p q) with
  | some (e, x) => if e.ct then 1 else d.wireLen p x.len
  | none => 1

/-- Bound of the selection loop. -/
abbrev pickFuel : Nat := 100000

/-- One pass over the groups, each with its candidate members: the queue, and the scheduler after the choice. -/
def Dev.pickPass (d : Dev) (p : Nat) (cand : Nat → List Nat) : Option (Nat × Sched) :=
  let s := d.sched p
  let inner (s : Sched) (g : Nat) : Option (Nat × Sched) :=
    drrPick (groupMembers g) g (fun m => (cand g).contains m) (d.headLen p) pickFuel s
  let gs := [3, 2, 1, 0].filter (fun g => !(cand g).isEmpty)
  if !s.drrGroups then (gs.head?).bind (inner s)
  else
    let len (m : Nat) : Int := match inner s (m - 20) with
      | some (q, _) => d.headLen p q
      | none => 1
    (drrPick [20, 21, 22, 23] 4 (fun m => gs.contains (m - 20)) len pickFuel s).bind (fun r => inner r.2 (r.1 - 20))

/-- The decision of a ready port: pass 1 over the guarantees, else pass 2 over every eligible node. -/
def Dev.choose (d : Dev) (p : Nat) : Option (Nat × Sched) :=
  if !d.permits p 0 then none
  else
    let el (g : Nat) : List Nat := if d.permits p (1 + g) then (groupMembers g).filter (d.eligible p) else []
    let sure (g : Nat) : List Nat :=
      if d.guards p (1 + g) then el g else (el g).filter (fun q => decide (q < 16) && d.guards p (5 + q))
    match d.pickPass p sure with
    | some r => some r
    | none => d.pickPass p el

/-- Deficits of empty queues, and of groups without a frame, are 0. -/
def Dev.clearDeficits (d : Dev) (p : Nat) : Dev :=
  let bare (q : Nat) : Bool := (d.queue (portKey p q)).ents.isEmpty
  d.modSched p (fun s =>
    let s := portQs.foldl (fun (s : Sched) q => if bare q then s.modMember q (fun m => { m with def_ := 0 }) else s) s
    (List.range 4).foldl (fun (s : Sched) g =>
      if (groupMembers g).all bare then s.modMember (20 + g) (fun m => { m with def_ := 0 }) else s) s)

/-- Charges a length to the deficits of a queue and its group. -/
def Dev.chargeDeficit (d : Dev) (p q : Nat) (len : Int) : Dev :=
  d.modSched p (fun s =>
    let s := s.modMember q (fun m => { m with def_ := m.def_ - len })
    if s.drrGroups then s.modMember (20 + groupOf q) (fun m => { m with def_ := m.def_ - len }) else s)

/-- The buckets that a frame of queue `q` is charged to. -/
def Dev.chargedBuckets (d : Dev) (p q : Nat) : List Nat :=
  let nodes := (if q < 16 then [5 + q] else []) ++ [1 + groupOf q, 0]
  nodes.map (fun n => bucketKey p n false) ++ (nodes.filter (d.guards p)).map (fun n => bucketKey p n true)

/-! ### Reading and rewriting -/

/-- The reads of a copy's cells, numbered, wait for their crossings toward its pipeline (09 R255, R258). -/
def Dev.readCells (d : Dev) (p : Nat) (t : Dest) (pid : Nat) (x : Pkt) (cells : List (Nat × Nat)) : Dev :=
  { d with swc := { d.swc with reads := d.swc.reads ++ cells.map (fun c =>
      { crossOf pid x 0 c.1 c.2 with
        src := pipeOf p, dst := pipeOf p, stream := 16, mc := false, ct := false, dest := t.port + 1024 * (t.qnum % 16), copy := some t }) } }

/-- A word of the action store fails as it is fetched; true: the packet in hand is dropped (08 R250). -/
def Dev.actionFetch (d : Dev) (p : Nat) (f : Option StoreFlaw) : Bool × Dev :=
  match f with
  | none => (false, d)
  | some f =>
    let s := 0x511 + 64 * p
    if !f.bad then
      (false, (d.liveMs s).record Ev.actionStoreCorrected .shared (some s) (dat [(0, 1, p), (1, 2, f.word), (3, 8, f.syn)]))
    else
      let d := ((d.modPipe p (fun x => { x with actionStopped := true })).setLive (s - 1)).modSrc (s - 1) (fun x => { x with lasting := f.lasting })
      (true, (d.refreshPauseAll).record Ev.actionStoreFault .shared (some (s - 1))
        (dat [(0, 1, p), (1, 2, f.word), (3, 1, b2n f.lasting), (4, 1, 1)]))

/-- What a dispatched copy becomes: nothing, a copy for a host queue, or the frame to send. -/
inductive Sent where
  | gone
  | host (queue : Nat)
  | frame (bytes : List Byte) (ptp : Option (Nat × Option Nat))
  deriving DecidableEq, Repr

/-- The frame that a host receives: its header window alone where the action says so (05 Table 5-6). -/
def Pkt.hostBytes (x : Pkt) : List Byte := if x.trunc then x.bytes.take 512 else x.bytes

/-- A host receive queue. -/
def Dest.isHost : Dest → Bool
  | .host _ _ => true
  | _ => false

/-- The tag check of R184 and the rewrite of a copy at its dispatch (06 R189, 08 R232, R238, R249, R250). The entry has
left its queue; a drop is counted and the copy ended. -/
def Dev.rewriteCopy (d : Dev) (e : Ent) (x : Pkt) (t : Dest) (flaws : Flaws) : Sent × Dev :=
  let drop (d : Dev) (c : Ctr) (byIngress : Bool) : Sent × Dev :=
    (.gone, d.copyDrop t.party e t c (dropIdx byIngress x t))
  if x.dead then drop d .drGenRetired true
  else if !x.mirror && t.isHost then (.frame x.hostBytes none, d)
  else
    let (stop, d) := d.actionFetch (pipeOf t.port) flaws.store
    if stop then drop d .drStoreFault true
    else
      let y := { x with edit := { x.edit with ce := x.edit.ce || x.marked.contains t.key } }
      let (out, d) := d.rewrite y t flaws
      let d := flaws.parity.foldl (fun d f => d.parityRead (pipeOf t.port / 4) f.1 f.2.1 f.2.2) d
      match out with
      | .invalid => drop d .drRewriteInvalid false
      | .parity _ => drop d .drTableParity true
      | .fault a => drop (d.rewriteFault x t a) .drRewriteFault false
      | .expired => drop d .drTtlExpired false
      | .trap q => (.host q, d)
      | .frame bytes ptp => (.frame bytes ptp, d)

/-- A copy whose TTL traps goes to a host queue as received, once its frame is whole (08 R241). -/
def Dev.trapCopy (d : Dev) (e : Ent) (x : Pkt) (t : Dest) (id : Nat) : Dev :=
  match d.hostDest x.polder id with
  | none => (d.dikeBlock x.polder).copyDrop t.party e t .drDikeBlock x.polder |> fun r => r.setCtr .drDikeBlock x.polder (d.ctr .drDikeBlock x.polder + 1)
  | some h => match d.copyRefused x h with
    | some c => d.copyDrop t.party e t c.1 c.2
    | none =>
      let d := (d.replDone x t).modPkt e.pid (fun y => { y with reason := 0x10 })
      if e.ct then (d.modPkt e.pid (fun y => { y with waiting := y.waiting ++ [h] })).linkIfDone e.pid
      else d.modQueue h.key (fun q => { q with ents := q.ents ++ [e] })

/-- The first cell of a list that fails as it is read, with what it does to the buffer (10 R306). -/
def Dev.readFlaws (d : Dev) (cells : List Nat) (flaws : Flaws) : Option Nat × Dev :=
  let mine := flaws.cells.filter (fun f => cells.contains f.1)
  ((cells.findIdx? (fun c => mine.any (fun f => decide (f.1 = c)))), mine.foldl (fun d f => d.payloadError f.1 f.2) d)

/-- Granted frames of a port's other queues lose the cells they kept (09 R268). -/
def Dev.dropKept (d : Dev) (p : Nat) : Dev :=
  (portKeys p).foldl (fun d k =>
    if (d.queue k).ents.any (fun f => f.ct && decide (0 < f.got)) then
      d.modQueue k (fun u => { u with ents := u.ents.map (fun f => if f.ct && decide (0 < f.got) then { f with got := 0, reread := true } else f) })
    else d) d

/-- The window that is open for a queue as a frame starts, by its end. -/
def Dev.openWindow (d : Dev) (p : Nat) (t : Dest) (st : Nat) : Option Nat :=
  match (d.tide p).oper with
  | some tt => match tt.window t.qnum (tt.posPs st) with
    | some (some w) => some (st + w)
    | _ => none
  | none => none

/-- The cells of a copy that are to be read now, numbered: a granted frame reads again only what it does not have. -/
def Dev.toRead (d : Dev) (p : Nat) (e : Ent) (x : Pkt) (cells : List Nat) (bad : Option Nat) : List (Nat × Nat) :=
  let coming (c : Cross) (i : Nat) : Bool := decide (c.pid = e.pid ∧ c.no = i ∧ c.stream ≠ 16)
  let away (i : Nat) : Bool := e.ct && (d.swc.flight.any (fun c => coming c i && decide (c.dst = pipeOf p)) || decide (x.written ≤ i) ||
    (List.range 16).any (fun s => (d.stream (pipeOf p) s).held.any (fun c => coming c i)))
  let nos := if e.ct && !e.reread then [] else ((List.range cells.length).map (fun i => (i, cells.getD i 0))).filter (fun c => !away c.1)
  match bad with
  | some i => nos.take i
  | none => nos

/-- A rewritten frame starts on its port: the transmit record, and the reads of its cells. -/
def Dev.startFrame (d : Dev) (p : Nat) (t : Dest) (e : Ent) (x : Pkt) (bks cells : List Nat) (bad : Option Nat) (bytes : List Byte)
    (ptp : Option (Nat × Option Nat)) : Dev :=
  let st := d.startPs p
  let limit := if p < 512 then (d.port p).maxFrame else 16383
  if limit < bytes.length + 4 ∧ !e.ct then d.copyDrop t.party e t .drTxOversize p
  else
    let bytes := match ptp with
      | some a => d.stampFrame x t bytes a (st + 8000)
      | none => bytes
    let y : Tx := {
      ent := e, dest := t, bytes := if limit < bytes.length + 4 then bytes.take (limit - 4) else bytes
      stomp := decide (limit < bytes.length + 4) || x.badFcs || bad.isSome
      got := e.got, need := bad.getD x.need, cut := e.ct, enqLen := x.len, delta := (bytes.length : Int) - (x.bytes.length : Int), buckets := bks
      startPs := st, endPs := st + d.wtPs p x.len, windowPs := d.openWindow p t st, lost := bad.isSome }
    let nos := d.toRead p e x cells bad
    let d := if bad.isSome then (d.bump .drBufferEcc x.first).meter x (pipeOf p) 6 x.len else d
    ((d.setTxs p (d.txs p ++ [y])).readCells p t e.pid x nos).dropKept p

/-- Dispatches a copy that has left its queue: rewrite, reads, and the transmit record. -/
def Dev.dispatch (d : Dev) (p : Nat) (t : Dest) (e : Ent) (x : Pkt) (bks : List Nat) (flaws : Flaws) : Dev :=
  let cells := if e.part = .ret then e.own else x.cells
  let b := d.readFlaws (if e.ct && !e.reread then [] else cells) flaws
  if b.1 = some 0 then b.2.copyDrop t.party e t .drBufferEcc x.first
  else
    let r := b.2.rewriteCopy e x t flaws
    match r.1 with
    | .gone => r.2
    | .host id => r.2.trapCopy e x t id
    | .frame bytes ptp => r.2.startFrame p t e x bks cells b.1 bytes ptp

/-- A front-panel port's buckets and queue heads as its decision finds them. -/
def Dev.frontReady (d : Dev) (p : Nat) : Dev :=
  let d := (portKeys p).foldl Dev.settle d
  let d := portQs.foldl (fun d q => d.purgeHead (d.queue (portKey p q)).ents.length p q) d
  d.deferHeads p

/-- The chosen frame leaves its queue: the buckets it is charged to, and the state with its charges. A doomed frame and a
cut-through frame are not charged here. -/
def Dev.takeHead (d : Dev) (p q : Nat) (s : Sched) (e : Ent) (x : Pkt) : List Nat × Dev :=
  let bks := d.chargedBuckets p q
  let d := (d.modQueue (portKey p q) (fun u => { u with ents := u.ents.tail })).touch (pipeOf p)
  if x.dead then ([], d)
  else
    let d := d.modSched p (fun _ => s)
    let len := d.wireLen p x.len
    (bks, if e.ct then d else bks.foldl (fun d b => d.chargeBucket b len) (d.chargeDeficit p q len))

/-- A front-panel port's decision: whether one was made. -/
def Dev.frontDecision (d : Dev) (p : Nat) (flaws : Flaws) : Bool × Dev :=
  let d := d.frontReady p
  match d.choose p with
  | none => (false, d)
  | some (q, s) =>
    match d.head? (portKey p q) with
    | none => (false, d)
    | some (e, x) =>
      let r := d.takeHead p q s e x
      (true, (r.2.dispatch p (destOf (portKey p q)) e x r.1 flaws).clearDeficits p)

/-- A recirculation port's decision: strict priority, nothing while its account is refused (08 R245, R246). -/
def Dev.recircDecision (d : Dev) (pipe : Nat) (flaws : Flaws) : Bool × Dev :=
  match [7, 6, 5, 4, 3, 2, 1, 0].find? (fun q => match d.head? (Dest.recirc pipe q).key with
    | some (e, x) => d.headReady e x
    | none => false) with
  | none => (false, d)
  | some q =>
    let t := Dest.recirc pipe q
    match d.head? t.key with
    | none => (false, d)
    | some (e, x) =>
      let d0 := d.modQueue t.key (fun u => { u with ents := u.ents.tail })
      if (d.pipe pipe).parseStopped then (true, d0.copyDrop t.party e t .drStoreFault x.first)
      else if (d.ladder (512 + pipe) 0 true).isNone then (false, d)
      else (true, (d0.touch pipe).dispatch (512 + pipe) t e x [] flaws)

/-- Frames of a host receive queue on their way to its buffers. -/
def Dev.rxUnder (d : Dev) (e q : Nat) : Nat := ((d.txs (528 + e)).filter (fun y => decide (y.dest = .host e q))).length

/-- The receive queue of an endpoint that is served next: round robin over those with a frame, and with a posted buffer beyond
those that its frames under way take, one each at least (12 R360). -/
def Dev.rxTurn (d : Dev) (e : Nat) : Option Nat :=
  nextRound 256 (tget d.dp.rrRx 255 e) (fun q =>
    let r := d.rxq e q
    (match d.head? (Dest.host e q).key with
      | some h => d.headReady h.1 h.2
      | none => false) && decide (r.st = .active ∧ d.rxUnder e q < (r.posted - r.used).toNat))

/-- A host port's decision. -/
def Dev.hostDecision (d : Dev) (e : Nat) (flaws : Flaws) : Bool × Dev :=
  if d.bal.mode = .safeHold then (false, d)
  else match d.rxTurn e with
  | none => (false, d)
  | some q =>
    let t := Dest.host e q
    match d.head? t.key with
    | none => (false, d)
    | some (n, x) =>
      let d := { d with dp := { d.dp with rrRx := tset d.dp.rrRx 255 e q } }
      (true, ((d.modQueue t.key (fun u => { u with ents := u.ents.tail })).touch (4 * e)).dispatch (528 + e) t n x [] flaws)

/-- A port is ready: what has been dispatched to it will finish on the wire within 30 core cycles; a host port has fewer than two
frames under way (12 R363; DESIGN CHOICE, assumption 134). -/
def Dev.portOpen (d : Dev) (port : Nat) : Bool :=
  if port < 512 then d.isPort port && (d.txs port).all (fun y => decide (y.endPs ≤ d.timePs + 18750))
  else if port < 528 then (d.txs port).all (fun y => decide (y.endPs ≤ d.timePs + 18750))
  else decide ((d.txs port).length < 2)

/-- The decision of one port. -/
def Dev.portDecision (d : Dev) (port : Nat) (flaws : Flaws) : Bool × Dev :=
  if !d.portOpen port then (false, d)
  else if port < 512 then d.frontDecision port flaws
  else if port < 528 then d.recircDecision (port - 512) flaws
  else d.hostDecision (port - 528) flaws

/-- The ports of a pipeline are asked in turn, each by its place among them, until one of them dispatches; the pointer stands at
that one. -/
def Dev.askPorts (pipe : Nat) (flaws : Flaws) : List Nat → Dev → Dev
  | [], d => d
  | i :: rest, d =>
    let r := d.portDecision ((pipePorts pipe).getD i 0) flaws
    if r.1 then { r.2 with dp := { r.2.dp with rrPort := tset r.2.dp.rrPort ((pipePorts pipe).length - 1) pipe i } }
    else Dev.askPorts pipe flaws rest r.2

/-- DISPATCH_DECISION: the Escapement of a pipeline chooses the next frame for a ready port, by round robin over its ports, and
dispatches it; reads that wait make their crossings (12 R363-R368). -/
def doDispatchDecision (pipe : Nat) (flaws : Flaws) (d : Dev) : Dev :=
  if 16 ≤ pipe || !d.takesPackets || (d.pipe pipe).actionStopped || (d.pipe pipe).asleep then d
  else
    let n := (pipePorts pipe).length
    let last := tget d.dp.rrPort (n - 1) pipe
    (Dev.askPorts pipe flaws ((List.range n).map (fun i => (last + 1 + i) % n)) d).cycle []

/-! ### Charges after dispatch (12 R362) -/

/-- The charge of a dispatched frame is due: at once for the bytes that the rewrite added, and for a cut-through frame, whole, once
its EOP cell has reached the egress. -/
def Tx.due (y : Tx) : Bool := !y.charged && (!y.cut || y.eop)

/-- Charges a frame of a front-panel port what its dispatch left open. -/
def Dev.chargeLate (d : Dev) (port : Nat) (y : Tx) : Dev :=
  let n : Int := if y.cut then d.wireLen port y.enqLen + y.delta else y.delta
  if !d.isPort port || n = 0 then d
  else (y.buckets.foldl (fun d b => d.chargeBucket b n) (d.chargeDeficit port y.dest.qnum n)).clearDeficits port

/-- Frames of a port that ended before their EOP cell reached the egress. -/
def Dev.owedAt (d : Dev) (port : Nat) : List Tx := tget d.dp.owed [] port
def Dev.setOwed (d : Dev) (port : Nat) (l : List Tx) : Dev := { d with dp := { d.dp with owed := tset d.dp.owed [] port l } }

/-- REWRITE_LENGTH_CHARGE: the oldest frame of a port whose charge is due is charged (12 R362). -/
def doRewriteLengthCharge (port : Nat) (d : Dev) : Dev :=
  match (d.owedAt port).find? Tx.due with
  | some y => (d.setOwed port ((d.owedAt port).erase y)).chargeLate port y
  | none => match (d.txs port).findIdx? Tx.due with
    | none => d
    | some i => match (d.txs port)[i]? with
      | none => d
      | some y => (d.setTxs port ((d.txs port).set i { y with charged := true })).chargeLate port y

/-- A frame that ends uncharged is charged if that is due; a cut-through frame whose EOP cell is still to come stays owed. -/
def Dev.settleCharge (d : Dev) (port : Nat) (y : Tx) : Dev :=
  if y.due then d.chargeLate port y
  else if !y.charged && !y.lost && d.isPort port then d.setOwed port (d.owedAt port ++ [y])
  else d

/-! ### The end of a transmission (09 R270-R272, R280) -/

/-- A frame that its port has sent is counted, with its queue, its copy and its tenant (04 R140, 13 R404). -/
def Dev.countSent (d : Dev) (port : Nat) (y : Tx) (x : Pkt) (len : Nat) : Dev :=
  let d := (d.bump .txFrames port).bump .txBytes port len
  let d := if y.stomp then d.bump .txStomped port else d
  let d := (d.bump .qTxFrames y.dest.key).bump .qTxBytes y.dest.key (d.wireLen port len).toNat
  let d := if y.dest.isMc && !y.stomp then d.bump .mcCopies port else d
  let d := if y.lost then d else d.meter x (pipeOf port) 2 len
  let done := y.startPs + (len + 20) * 8000 / max 1 (d.macRate port)
  match y.windowPs with
  | some w => if w < done then d.bump .tideOverrun port else d
  | none => d

/-- A frame leaves the transmit record of a port: it is sent or re-enters, counted and metered, and its copy ends. -/
def Dev.txEnd (d : Dev) (port : Nat) (y : Tx) : Dev :=
  let d := (d.setTxs port ((d.txs port).erase y)).settleCharge port y
  match d.pkt? y.ent.pid with
  | none => d
  | some x =>
    let whole := decide (x.need ≤ y.got)
    let bytes := if whole then y.bytes else y.bytes.take ((256 * y.got : Int) + y.delta).toNat
    match y.dest with
    | .recirc pipe _ =>
      if y.stomp then d.copyEnd y.dest.party y.ent y.dest
      else { d with dp := { d.dp with loop := tset d.dp.loop [] pipe (tget d.dp.loop [] pipe ++ [(y.ent.pid, y.bytes)]) } }
    | _ =>
      let d := d.countSent port y x (bytes.length + 4)
      let d := (d.modPort port (fun z => { z with active := true })).wireOut port (wireFrame bytes y.stomp)
      let d := if d.loopKind port = 1 then (d.trigger (port / 32)).intoSkid port bytes else d
      let d := match x.tsReq with
        | some r =>
          let ns := (y.startPs + 8000) / 1000
          (d.txWriteBack r.1 r.2.1 r.2.2 (ns / 1000000000) (ns % 1000000000) 0).modPkt y.ent.pid (fun z => { z with tsReq := none })
        | none => d
      d.copyEnd y.dest.party y.ent y.dest

/-- FRAME_TRANSMIT_END: the oldest frame of a port is all there, and its last bit leaves (09 R280). -/
def doFrameTransmitEnd (port : Nat) (d : Dev) : Dev :=
  if 528 ≤ port then d else match d.txs port with
  | [] => d
  | y :: _ => match d.pkt? y.ent.pid with
    | none => d.setTxs port (d.txs port).tail
    | some x => if y.need ≤ y.got ∧ (x.whole ∨ y.stomp) then d.txEnd port y else d

/-- TX_UNDERRUN: the MAC of a port needs a cell that is not in hand, and ends the frame stomped (09 R272). -/
def doTxUnderrun (port : Nat) (d : Dev) : Dev :=
  if 528 ≤ port then d else match d.txs port with
  | [] => d
  | y :: rest =>
    if y.need ≤ y.got then d
    else
      let z := { y with stomp := true, need := y.got }
      ((d.setTxs port (z :: rest)).bump .txUnderrun port).txEnd port z

/-! ### Delivery to host receive queues (02 R59-R61, 12 R360) -/

/-- A receive write-back (02 Table 2-8); `last` fills offsets 4 to 27. -/
def rxWriteBack (x : Pkt) (n : Nat) (sop last : Bool) : Nat :=
  let base := [(0, 16, n), (16, 1, b2n sop), (17, 1, b2n last), (18, 1, x.gen % 2), (8 * 31 + 7, 1, 1)]
  pack (base ++ if last then
    [(32, 10, x.first), (42, 3, x.polder), (45, 3, x.prio), (48, 8, x.reason), (64, 32, x.tsNs), (96, 32, x.tsSec),
      (128, 18, x.tenant.getD 0), (160, 32, x.rule.getD 0xFFFFFFFF), (192, 32, x.hash)] else [])

/-- The buffers that a frame of `n` bytes takes from posted lengths: bytes in each; none: more than it may. -/
def rxFill : List Nat → Nat → Option (List Nat)
  | [], n => if n = 0 then some [] else none
  | l :: ls, n => if n ≤ l then some [n] else (rxFill ls (n - l)).map (fun r => l :: r)

/-- A frame leaves the record of a host port undelivered. -/
def Dev.rxLose (d : Dev) (ep : Nat) (y : Tx) (c : Option Ctr) : Dev :=
  let d := d.setTxs (528 + ep) ((d.txs (528 + ep)).erase y)
  match c with
  | some c => d.copyDrop y.dest.party y.ent y.dest c (256 * ep + y.dest.qnum)
  | none => d.copyEnd y.dest.party y.ent y.dest

/-- A frame is written into receive buffers, and then their descriptors are written back (02 R60, Tables 2-7, 2-8); `ns` are the bytes
in each buffer. -/
def Dev.rxDeliver (d : Dev) (ep q : Nat) (y : Tx) (x : Pkt) (bufs : List (Nat × Nat)) (ns : List Nat) (err : Bool) : Dev :=
  let r := d.rxq ep q
  let d := d.setTxs (528 + ep) ((d.txs (528 + ep)).erase y)
  let d := (List.range ns.length).foldl (fun (d : Dev) i =>
    d.hostOut ep (bufs.getD i (0, 0)).1 ((y.bytes.drop ((ns.take i).foldl (· + ·) 0)).take (ns.getD i 0)) err) d
  let d := (List.range ns.length).foldl (fun (d : Dev) i =>
    let pos := (r.used.toNat + i) % 2 ^ r.sizeLog2
    d.hostOut ep (r.base.toNat + 32 * pos) (leBytes 32 (rxWriteBack x (ns.getD i 0) (decide (i = 0)) (decide (i + 1 = ns.length)))) err) d
  let d := d.modRxq ep q (fun z =>
    let u := z.used + BitVec.ofNat 32 ns.length
    { z with used := u, emptySince := if u = z.posted then some d.bal.tick else none })
  let d := d.meter x (pipeOf (528 + ep)) 2 (y.bytes.length + 4)
  (d.signal ep (64 + q)).copyEnd y.dest.party y.ent y.dest

/-- RX_FRAME_DELIVERY: the oldest frame that an endpoint's host port holds whole is written into posted buffers; `posted` gives the
descriptors that the device reads at the queue's position, in order (buffer address, length). A frame that needs more buffers than
are posted waits whole for further ones (DESIGN CHOICE, assumption 135; 02 R60). -/
def doRxFrameDelivery (ep : Nat) (posted : List (Nat × Nat)) (err : Bool) (d : Dev) : Dev :=
  match (d.txs (528 + ep)).find? (fun y => decide (y.need ≤ y.got)) with
  | none => d
  | some y => match d.pkt? y.ent.pid with
    | none => d.setTxs (528 + ep) ((d.txs (528 + ep)).erase y)
    | some x =>
      let q := y.dest.qnum
      let r := d.rxq ep q
      let bufs := posted.take (min 8 (r.posted - r.used).toNat)
      if y.stomp then d.rxLose ep y none
      else match r.st with
      | .disabled => d.rxLose ep y (some .drHostQueueDown)
      | .starved => d.rxLose ep y (some .drHostRxStarved)
      | .stopped => d
      | .active => match rxFill (bufs.map (fun b => b.2)) y.bytes.length with
        | none => if bufs.length = 8 then d.rxLose ep y (some .drHostRxOversize) else d
        | some ns => d.rxDeliver ep q y x bufs ns err

/-- Every frame for a host receive queue is freed: those queued, those under way, and those admitted and not yet linked. -/
def Dev.freeRx (d : Dev) (ep q : Nat) (c : Ctr) : Dev :=
  let t := Dest.host ep q
  let es := (d.queue t.key).ents
  let d := d.modQueue t.key (fun u => { u with ents := [] })
  let d := es.foldl (fun d e => d.copyDrop t.party e t c (256 * ep + q)) d
  let d := ((d.txs (528 + ep)).filter (fun y => decide (y.dest = t))).foldl (fun d y => d.rxLose ep y (some c)) d
  (d.freeWaiting [t.key] c (fun _ _ => 256 * ep + q)).2.2

/-- RX_QUEUE_STARVED: a receive queue has had no free buffer for its starvation limit: its waiting frames are freed (02
R61). -/
def doRxQueueStarved (ep q : Nat) (d : Dev) : Dev :=
  let r := d.rxq ep q
  match r.emptySince with
  | none => d
  | some t0 =>
    if r.st ≠ .active ∨ r.posted ≠ r.used then d
    else
      let d := (d.reach (t0 + msTicks (min 100 r.starve))).freeRx ep q .drHostRxStarved
      (d.modRxq ep q (fun z => { z with st := .starved })).epRefresh ep

/-! ### Transmit frames of hosts (02 R62, R63) -/

/-- A transmit descriptor's fields (02 Table 2-9). -/
def txF (w : BitVec 256) (off lsb n : Nat) : Nat := fld w.toNat off lsb n

/-- The descriptors of a frame that goes no further are written back: the EOP descriptor with a status, the others with DONE (02 R62);
an endpoint that is down takes no write. -/
def Dev.txRefuse (d : Dev) (ep q : Nat) (descs : List Nat) (status : Nat) : Dev :=
  let d := if (d.ep ep).up then descs.dropLast.foldl (fun d a => d.emit (.hostWrite ep (a + 31) [0x80])) d else d
  d.txWriteBack ep q (descs.getLastD 0) 0 0 status

/-- The transmit queue of an endpoint that is served next. -/
def Dev.txTurn (d : Dev) (e : Nat) : Option Nat :=
  nextRound 256 (d.ep e).rrTx (fun q => let r := d.txq e q; decide (r.st = .active ∧ r.posted ≠ r.used) && (d.txqPolder e q).isSome)

/-- Transmit fetching runs in FORWARDING and DIAGNOSTIC; it pauses in DRAINING and stops in SAFE_HOLD (18 R528, R529). -/
def Dev.fetchesTx (d : Dev) : Bool :=
  match d.bal.mode with
  | .forwarding | .diagnostic => true
  | _ => false

/-- TX_FRAME_FETCH: the next transmit frame of an endpoint is fetched: its descriptors, and its bytes (none: a read
error). A frame that passes its checks is on its way to the parser. -/
def doTxFrameFetch (ep : Nat) (descs : List (BitVec 256)) (bytes : Option (List Byte)) (d : Dev) : Dev :=
  if (d.ladder (528 + ep) 0 true).isNone || !(d.ep ep).up || (d.pipe (4 * ep)).parseStopped || (d.pipe (4 * ep)).actionStopped || !d.fetchesTx then d
  else match d.txTurn ep, descs with
  | some q, h :: _ =>
    let r := d.txq ep q
    let n := descs.length
    if (r.posted - r.used).toNat < n then d
    else
      let d := d.modEp ep (fun x => { x with rrTx := q })
      let last := descs.getLastD 0
      let addrs := (List.range n).map (fun i => r.base.toNat + 32 * ((r.used.toNat + i) % 2 ^ r.sizeLog2))
      let d := d.modTxq ep q (fun z => { z with used := z.used + BitVec.ofNat 32 n })
      let p := (d.txqPolder ep q).getD 0
      let direct := txF h 10 2 1 = 1
      let port := txF h 12 0 10
      let size := descs.foldl (fun m w => m + txF w 8 0 16) 0
      let chain := decide (n ≤ 8) && decide (txF last 10 1 1 = 1)
      match bytes with
      | none => (d.txRefuse ep q addrs 3).liveMs (0x46 + 16 * ep) (2 ^ p)
      | some bs =>
        if !chain || decide (size < 60) then d.txRefuse ep q addrs 2
        else if direct && d.lanePolder port ≠ some p then d.txRefuse ep q addrs 1
        else if direct && decide ((d.port port).maxFrame < size + 4) then d.txRefuse ep q addrs 2
        else
          let f : HostTx := {
            polder := p, direct := if direct then some (port, txF h 12 10 4) else none
            tsReq := if txF h 10 3 1 = 1 then some (ep, q, addrs.getLastD 0) else none
            queue := q, descs := addrs
            bytes := bs.take size ++ List.replicate (size - bs.length) 0 }
          ({ d with dp := { d.dp with inject := tset d.dp.inject [] ep (tget d.dp.inject [] ep ++ [f]) } }).trigger (4 * ep)
  | _, _ => d

/-! ### Meanings -/

/-- RX_FRAME_DELIVERY (R60). -/
def execRxFrameDelivery (ep : Nat) (posted : List (Nat × Nat)) (err : Bool) (s : State) : Host.Outcome State Fault Refusal :=
  .next { s with dev := doRxFrameDelivery ep posted err s.dev }

/-- RX_QUEUE_STARVED (R61). -/
def execRxQueueStarved (ep : Nat) (q : Nat) (s : State) : Host.Outcome State Fault Refusal :=
  .next { s with dev := doRxQueueStarved ep q s.dev }

/-- TX_FRAME_FETCH (R63). -/
def execTxFrameFetch (ep : Nat) (descs : List (BitVec 256)) (bytes : Option (List Byte)) (s : State) : Host.Outcome State Fault Refusal :=
  .next { s with dev := doTxFrameFetch ep descs bytes s.dev }

/-- DISPATCH_DECISION (R364). -/
def execDispatchDecision (pipe : Nat) (flaws : Flaws) (s : State) : Host.Outcome State Fault Refusal :=
  .next { s with dev := doDispatchDecision pipe flaws s.dev }

/-- REWRITE_LENGTH_CHARGE (R362). -/
def execRewriteLengthCharge (port : Nat) (s : State) : Host.Outcome State Fault Refusal :=
  .next { s with dev := doRewriteLengthCharge port s.dev }

/-- FRAME_TRANSMIT_END (R280). -/
def execFrameTransmitEnd (port : Nat) (s : State) : Host.Outcome State Fault Refusal :=
  .next { s with dev := doFrameTransmitEnd port s.dev }

/-- TX_UNDERRUN (R272). -/
def execTxUnderrun (port : Nat) (s : State) : Host.Outcome State Fault Refusal :=
  .next { s with dev := doTxUnderrun port s.dev }

end Sys2Proof.Machine
end

