-- ==== Sys2Proof/Machine/Gen.lean ====
section
/-! DEFINITION. Rule generations: opening, committing, discarding, retirement and the synchronisation sweep
(06 R183-R189, R197). -/
namespace Sys2Proof.Machine

/-- The tag of the slot that drains: the generation before the current one. -/
def Dev.oldTag (d : Dev) : Nat := (d.rle.gen.toNat + 15) % 16

/-- Packets in the device that satisfy a condition, mirror copies and passes of one packet counted once. -/
def Dev.countPkts (d : Dev) (c : Pkt → Bool) : Nat :=
  ((d.dp.pkts.filterMap (fun x => x.2)).filter c |>.map Pkt.root).eraseDups.length

/-- LIVE[t] (06 R184). -/
def Dev.liveTag (d : Dev) (t : Nat) : Nat := d.countPkts (fun x => decide (x.gen = t))

/-- Packets of the holder that bear the draining tag. -/
def Dev.holderLive (d : Dev) : Nat :=
  match d.rle.holder with
  | some h => d.countPkts (fun x => decide (x.gen = d.oldTag ∧ x.polder = h))
  | none => 0

/-- IDLE_STATE (06 R186). -/
def IdleSt.code : IdleSt → Nat
  | .idle => 0 | .staged => 1 | .draining | .sweeping => 2

/-- Microseconds until forced retirement, rounded up. -/
def Dev.retireLeft (d : Dev) : Nat :=
  if d.rle.slotSt = .draining then cdiv (d.rle.commitTick + usTicks d.rle.retireUs - d.bal.tick) 25 else 0

/-- ST_BUSY_GEN with its reason in DETAIL[15:8]. -/
def Dev.busyGen (d : Dev) (c : CmdRef) (why : Nat) : Dev := d.fail c stBusyGen (256 * why)

/-- OP_GEN_OPEN (06 R186, R197). -/
def doOpGenOpen (c : CmdRef) (_io : Io) (d : Dev) : Dev :=
  d.step1 c (isOp 0x30) fun d x =>
    let next := d.rle.gen + 1
    if x.fld 16 0 32 ≠ 0 ∧ x.fld 16 0 32 ≠ next.toNat then d.badOp c 16
    else match d.rle.slotSt with
    | .staged => d.busyGen c 3
    | .draining | .sweeping => d.busyGen c 1
    | .idle =>
      if 0 < d.liveTag (next.toNat % 16) then d.busyGen c 2
      else
        let d := { d with rle := { d.rle with slotSt := .staged, holder := some x.polder } }
        let d := d.record Ev.genOpen (.polders (2 ^ x.polder)) none (dat [(0, 4, next.toNat), (4, 1, x.polder)])
        d.ok c next.toNat

/-- The slot retires and the synchronisation sweep begins. -/
def Dev.genRetire (d : Dev) : Dev :=
  let who := d.rle.holder.elim Who.shared (fun h => .polders (2 ^ h))
  ({ d with rle := { d.rle with slotSt := .sweeping } }).record Ev.genRetired who none
    (dat [(0, 4, (d.rle.gen - 1).toNat), (4, 4, (d.bal.tick - d.rle.commitTick) / 25)])

/-- A staged write or delete of the holder that was dispatched before the commit has not committed (06 R187). -/
def Dev.stagedWrites (d : Dev) (p disp : Nat) : Bool :=
  (List.range 4).any (fun e => (d.ep e).cmds.any (fun x =>
    decide ((x.opcode = 0x10 ∨ x.opcode = 0x13 ∨ x.opcode = 0x14) ∧ x.fld 17 1 1 = 1 ∧ x.polder = p ∧ 0 < x.disp ∧ x.disp < disp) &&
      x.outcome.isNone))

/-- OP_GEN_COMMIT: the wave has run through the parsers (06 R187, R188). -/
def doOpGenCommit (c : CmdRef) (_io : Io) (d : Dev) : Dev :=
  d.step1 c (isOp 0x31) fun d x =>
    let us := if x.fld 20 0 32 = 0 then 10000 else x.fld 20 0 32
    if d.rle.slotSt ≠ .staged then d.fail c stNotFound
    else if d.rle.holder ≠ some x.polder then d.busyGen c 3
    else if x.fld 16 0 32 ≠ (d.rle.gen + 1).toNat then d.badOp c 16
    else if us < 1000 ∨ 1000000 < us then d.badOp c 20
    else if d.stagedWrites x.polder x.disp then d.again c []
    else
      let d := { d with rle := { d.rle with gen := d.rle.gen + 1, slotSt := .draining, commitTick := d.bal.tick, retireUs := us } }
      let d := d.record Ev.genCommit (.polders (2 ^ x.polder)) none (dat [(0, 4, d.rle.gen.toNat), (4, 4, us)])
      d.ok c d.rle.gen.toNat d.aon

/-- The staged slot is discarded: the sweep begins. -/
def Dev.genDiscard (d : Dev) (ep : Nat) : Dev :=
  let who := d.rle.holder.elim Who.shared (fun h => .polders (2 ^ h))
  ({ d with rle := { d.rle with slotSt := .sweeping } }).record Ev.genDiscard who none
    (dat [(0, 4, (d.rle.gen + 1).toNat), (4, 1, ep)])

/-- OP_GEN_DISCARD: the command stays on its engine until its sweep has ended (06 R186, R197). -/
def doOpGenDiscard (c : CmdRef) (_io : Io) (d : Dev) : Dev :=
  d.step1 c (fun x => isOp 0x32 x && x.scratch.isEmpty) fun d x =>
    if d.rle.slotSt ≠ .staged ∨ x.fld 16 0 32 ≠ (d.rle.gen + 1).toNat then d.fail c stNotFound
    else if d.rle.holder ≠ some x.polder ∧ !d.mayAs c none then d.busyGen c 3
    else (d.genDiscard c.ep).modCmd c (fun y => { y with scratch := [1] })

/-- OP_GEN_STATUS (06 R197). -/
def doOpGenStatus (c : CmdRef) (_io : Io) (d : Dev) : Dev :=
  d.step1 c (isOp 0x33) fun d _ =>
    let drains := decide (d.rle.slotSt = .draining ∨ d.rle.slotSt = .sweeping)
    d.ok c
      (pack [(0, 32, d.rle.gen.toNat), (32, 1, d.curSlot), (33, 2, d.rle.slotSt.code), (35, 3, d.rle.holder.getD 0),
        (38, 1, b2n d.rle.holder.isSome)])
      (pack [(0, 32, if drains then d.liveTag d.oldTag else 0), (32, 32, if drains then d.holderLive else 0)])
      d.retireLeft

/-- GEN_DRAIN_DONE: no packet of the holder bears the draining tag (06 R186). -/
def doGenDrainDone (d : Dev) : Dev :=
  if d.rle.slotSt = .draining ∧ d.holderLive = 0 then d.genRetire else d

/-- RETIREMENT_TIMER_EXPIRY: forced retirement, unless the last packet leaves in the same tick (06 R188, R189). -/
def doRetirementTimerExpiry (d : Dev) : Dev :=
  if d.rle.slotSt ≠ .draining then d
  else
    let d := d.reach (d.rle.commitTick + usTicks d.rle.retireUs)
    if d.holderLive = 0 then d.genRetire
    else
      let n := d.holderLive
      let h := d.rle.holder.getD 0
      let tag := d.oldTag
      let d := { d with
        dp := { d.dp with pkts := d.dp.pkts.map (fun (x : Nat × Option Pkt) => (x.1, x.2.map (fun (y : Pkt) => if y.gen = tag ∧ y.polder = h then { y with doomed := true } else y))) }
        rle := { d.rle with slotSt := .sweeping, forced := d.rle.forced + 1 } }
      (d.bump .genDoomed 0 n).record Ev.genForced (.polders (2 ^ h)) none (dat [(0, 4, (d.rle.gen - 1).toNat), (4, 4, n)])

/-- The visibility of an entry after the sweep: the current slot's bit in both (06 R186). -/
def sweepVis (cur vis : Nat) : Nat := if vis.testBit cur then 3 else 0

/-- SYNC_SWEEP_DONE: VIS of the current slot stands in both, entries visible in neither are freed, and the slot is IDLE
(06 R186). -/
def doSyncSweepDone (d : Dev) : Dev :=
  if d.rle.slotSt ≠ .sweeping then d
  else
    let cur := d.curSlot
    let ents := d.rle.ents.filterMap (fun x =>
      if !versioned (x.1 / 2 ^ 32) then some x
      else match x.2 with
        | some e => if sweepVis cur e.vis = 0 then none else some (x.1, some { e with vis := sweepVis cur e.vis })
        | none => none)
    let d := { d with rle := { d.rle with ents := ents, slotSt := .idle, holder := none } }
    let d := (List.range 4).foldl (fun d q => d.parityRefresh q) d
    (List.range 4).foldl (fun d e =>
      ((d.ep e).cmds.filter (fun x => x.executing && x.outcome.isNone && decide (x.opcode = 0x32) && !x.scratch.isEmpty)).foldl
        (fun d x => d.ok { ep := e, ring := x.ring, pos := x.pos }) d) d

/-! ### Meanings -/

/-- OP_GEN_OPEN (R186). -/
def execOpGenOpen (c : CmdRef) (io : Io) (s : State) : Host.Outcome State Fault Refusal :=
  .next { s with dev := doOpGenOpen c io s.dev }

/-- OP_GEN_COMMIT (R187). -/
def execOpGenCommit (c : CmdRef) (io : Io) (s : State) : Host.Outcome State Fault Refusal :=
  .next { s with dev := doOpGenCommit c io s.dev }

/-- OP_GEN_DISCARD (R186). -/
def execOpGenDiscard (c : CmdRef) (io : Io) (s : State) : Host.Outcome State Fault Refusal :=
  .next { s with dev := doOpGenDiscard c io s.dev }

/-- OP_GEN_STATUS (R197). -/
def execOpGenStatus (c : CmdRef) (io : Io) (s : State) : Host.Outcome State Fault Refusal :=
  .next { s with dev := doOpGenStatus c io s.dev }

/-- GEN_DRAIN_DONE (R186). -/
def execGenDrainDone (s : State) : Host.Outcome State Fault Refusal :=
  .next { s with dev := doGenDrainDone s.dev }

/-- RETIREMENT_TIMER_EXPIRY (R188). -/
def execRetirementTimerExpiry (s : State) : Host.Outcome State Fault Refusal :=
  .next { s with dev := doRetirementTimerExpiry s.dev }

/-- SYNC_SWEEP_DONE (R186). -/
def execSyncSweepDone (s : State) : Host.Outcome State Fault Refusal :=
  .next { s with dev := doSyncSweepDone s.dev }

end Sys2Proof.Machine
end

