-- ==== Sys2Proof/Machine/Learn.lean ====
section
/-! DEFINITION. The learn ring, its effect on each copy of the MAC table, aging and relocation (chapter 7), and the
accounting of bulk table commands (06 R195). -/
namespace Sys2Proof.Machine

/-! ### Placement (07 R201, R209) -/

/-- The first index of a key's bucket in way `w`. -/
def macBucket (w mac domain polder : Nat) : Nat :=
  w * 131072 + 4 * (crc32c (leBytes 4 (w + 1) ++ beBytes 6 mac ++ leBytes 3 (domain + 16384 * polder)) % 32768)
/-- The sixteen candidate entries of a key, lowest way and slot first. -/
def macCandidates (mac domain polder : Nat) : List Nat :=
  (List.range 4).flatMap (fun w => (List.range 4).map (fun s => macBucket w mac domain polder + s))

/-- The entry or placeholder at an index of copy `q`. -/
def Dev.macAt (d : Dev) (q i : Nat) : Option MacEnt := tget (d.quad q).ents none i
def Dev.setMac (d : Dev) (q i : Nat) (e : Option MacEnt) : Dev := d.modQuad q (fun x => { x with ents := tset x.ents none i e })

/-- What a polder uses of copy `q`. -/
def Dev.macUse (d : Dev) (q p : Nat) : Nat :=
  ((d.quad q).ents.filter (fun x => match x.2 with
    | some e => decide (e.polder = p)
    | none => false)).length
/-- QUOTA[i] of a polder. -/
def Dev.quota (d : Dev) (p i : Nat) : Nat := (d.polder p).quota.getD i 0

/-- A free place for a key in copy `q`: a candidate, else a stash entry. -/
def Dev.macPlace (d : Dev) (q mac domain polder : Nat) : Option Nat :=
  (macCandidates mac domain polder ++ stashIdx).find? (fun i => (d.macAt q i).isNone)

/-- Writes an entry at an index; a stash entry takes its order of arrival. -/
def Dev.putMac (d : Dev) (q i : Nat) (e : MacEnt) : Dev :=
  let n := (d.quad q).stashSeq
  let d := if inStash i then d.modQuad q (fun x => { x with stashSeq := n + 1 }) else d
  (d.setMac q i (some { e with stashed := if inStash i then n else 0 })).stashRefresh q

/-- The polder has reached its MAC quota in copy `q` (03 R87). -/
def Dev.macFull (d : Dev) (q p : Nat) : Bool := decide (d.quota p 0 ≤ d.macUse q p)

/-- An entry without eviction: none when there is no room or the quota is reached. -/
def Dev.macReserve (d : Dev) (q : Nat) (e : MacEnt) : Option Dev :=
  if d.macFull q e.polder then none
  else (d.macPlace q e.mac e.domain e.polder).map (fun i => d.putMac q i e)

/-- The victim of an insertion that fails (07 R222): the oldest, or one drawn by the copy. -/
def Dev.macVictim (d : Dev) (q : Nat) (e : MacEnt) (random : Bool) (draw : Nat) : Option (Nat × MacEnt) :=
  let cand := (macCandidates e.mac e.domain e.polder ++ stashIdx).filterMap (fun i =>
    match d.macAt q i with
    | some v => if v.valid && !v.static && decide (v.polder = e.polder) then some (i, v) else none
    | none => none)
  let age (v : MacEnt) : Nat := (d.bal.tick - v.learnTick) % 2 ^ 40
  if random then (cand[draw % max 1 cand.length]?)
  else cand.foldl (fun (b : Option (Nat × MacEnt)) x =>
    match b with
    | some y => if age y.2 < age x.2 ∨ (age y.2 = age x.2 ∧ x.1 < y.1) then some x else b
    | none => some x) none

/-- Inserts a learned entry, evicting where it must (07 R209, R222). -/
def Dev.macInsert (d : Dev) (q : Nat) (e : MacEnt) (cfg : LrnCfg) (draw : Nat) : Dev :=
  match d.macReserve q e with
  | some d => d
  | none =>
    match d.macVictim q e cfg.evictRandom draw with
    | some (i, v) =>
      ((d.putMac q i e).bump .evict q).record Ev.evict (.polders (2 ^ e.polder)) none
        (dat [(0, 1, q), (1, 1, b2n cfg.evictRandom), (2, 6, v.mac), (8, 2, v.domain), (10, 2, v.port + 1024 * b2n v.isLag), (12, 6, e.mac),
          (18, 2, e.domain)])
    | none =>
      let full := d.macFull q e.polder
      let d := (d.bump .learnRefused q).record Ev.learnRefused (.polders (2 ^ e.polder)) none
        (dat [(0, 1, q), (1, 6, e.mac), (7, 2, e.domain), (9, 1, b2n full)])
      if full then d.liveMs (0x80 + 8 * e.polder) else d

/-! ### The ring's events (07 Table 7-3) -/

/-- The entry that a NEW event inserts. -/
def learned (v : LrnEvent) (q : Nat) : MacEnt :=
  { mac := v.mac, domain := v.domain, polder := v.polder, home := v.origin, hit := decide (q = v.origin), port := v.port, isLag := v.isLag
    learnTick := v.tick, moveTick := v.tick, version := v.seq % 2 ^ 24 }

/-- An entry relearned on its port. -/
def MacEnt.again (e : MacEnt) (v : LrnEvent) (q : Nat) : MacEnt :=
  { e with home := v.origin, hit := decide (q = v.origin), agedOnce := false, static := false, version := v.seq % 2 ^ 24, learnTick := v.tick }

/-- A MOVE of an entry in copy `q`: flap counting, and the move if it stands (07 R219, R220). -/
def Dev.macMove (d : Dev) (q i : Nat) (e : MacEnt) (v : LrnEvent) : Dev :=
  let own := decide (q = v.origin)
  let go (d : Dev) (e' : MacEnt) : Dev :=
    let d := d.setMac q i (some { (e'.again v q) with port := v.port, isLag := v.isLag })
    if own then
      (d.bump .stationMove q).record Ev.stationMove (.polders (2 ^ v.polder)) none
        (dat [(0, 6, v.mac), (6, 2, v.domain), (8, 2, e.port + 1024 * b2n e.isLag), (10, 2, v.port + 1024 * b2n v.isLag), (12, 1, v.origin)])
    else d
  if e.flapLock then (if own then d.bump .learnLocked q else d)
  else if e.moves = 0 ∨ e.moveTick + msTicks (max 1 (min 60000 v.cfg.flapWindowMs)) ≤ v.tick then go d { e with moveTick := v.tick, moves := 1 }
  else if v.cfg.flapLimit < e.moves + 1 ∧ v.cfg.flapLimit ≠ 0 then
    let d := d.setMac q i (some { e with flapLock := true })
    if own then
      d.record Ev.flapLock (.polders (2 ^ v.polder)) none
        (dat [(0, 6, v.mac), (6, 2, v.domain), (8, 2, e.port + 1024 * b2n e.isLag), (10, 1, e.moves)])
    else d
  else go d { e with moves := min 255 (e.moves + 1) }

/-- NEW or MOVE in copy `q`. -/
def Dev.macLearn (d : Dev) (q : Nat) (v : LrnEvent) (draw : Nat) : Dev :=
  if (d.polder v.polder).st = .undefined then d
  else match d.macFind q v.polder v.domain v.mac with
  | none => d.macInsert q (learned v q) v.cfg draw
  | some (i, e) =>
    if !e.valid then d.setMac q i (some { (learned v q) with stashed := e.stashed })
    else if e.port = v.port ∧ e.isLag = v.isLag then d.setMac q i (some (e.again v q))
    else d.macMove q i e v

/-- An event that is checked on VERSION. -/
def Dev.macChecked (d : Dev) (q : Nat) (v : LrnEvent) (f : MacEnt → Option MacEnt) : Dev :=
  match d.macFind q v.polder v.domain v.mac with
  | some (i, e) => if e.valid && decide (e.version = v.version) then (d.setMac q i (f e)).stashRefresh q else d
  | none => d

/-- A field of a MAC record. -/
def macF (r : BitVec 256) (off lsb w : Nat) : Nat := fld r.toNat off lsb w

/-- The entry that a host record makes. -/
def hostEnt (v : LrnEvent) (q : Nat) : MacEnt :=
  let static := macF v.image 0 3 1 = 1
  { mac := v.mac, domain := v.domain, polder := v.polder, static := static, router := decide (macF v.image 0 4 1 = 1)
    home := macF v.image 1 0 2, hit := !static && decide (q = macF v.image 1 0 2), port := macF v.image 4 0 10
    isLag := decide (macF v.image 4 10 1 = 1), learnTick := v.tick, moveTick := v.tick, version := v.seq % 2 ^ 24 }

/-- What a copy reports of a host event: it failed; it held the key. -/
structure HostRes where
  failed : Bool := false
  held : Bool := false

/-- A host write finds no place in copy `q`: a quota that refused it is recorded in its polder's source (03 Table 3-8). -/
def Dev.macRefuse (d : Dev) (q p : Nat) : HostRes × Dev :=
  ({ failed := true }, if d.macFull q p then d.liveMs (0x80 + 8 * p) else d)

/-- A key whose static entry was lost to a parity error is rewritten, or deleted (07 R225). -/
def Dev.macFound (d : Dev) (q : Nat) (v : LrnEvent) : Dev :=
  (d.modQuad q (fun x => { x with lost := x.lost.erase (v.polder, v.domain, v.mac) })).parityRefresh q

/-- A host event in copy `q` (07 R226, R227). -/
def Dev.macHost (d : Dev) (q : Nat) (v : LrnEvent) : HostRes × Dev :=
  let found := d.macFind q v.polder v.domain v.mac
  match v.kind with
  | .hostPlace =>
    match found with
    | some _ => ({}, d)
    | none => match d.macReserve q { (hostEnt v q) with valid := false, hit := false } with
      | some d => ({}, d)
      | none => d.macRefuse q v.polder
  | .hostValidate =>
    match found with
    | some (i, e) => ({}, (d.macFound q v).setMac q i (some { (hostEnt v q) with stashed := e.stashed }))
    | none => match d.macReserve q (hostEnt v q) with
      | some d => ({}, d.macFound q v)
      | none => d.macRefuse q v.polder
  | .hostWithdraw =>
    match found with
    | some (i, e) => ({}, if e.valid then d else (d.setMac q i none).stashRefresh q)
    | none => ({}, d)
  | .hostDelete =>
    let d := d.macFound q v
    match found with
    | some (i, e) => ({ held := e.valid }, (d.setMac q i none).stashRefresh q)
    | none => ({}, d)
  | _ => ({}, d)

/-! ### Bulk commands (06 R195) -/

/-- What a bulk command keeps between its steps. -/
structure Bulk where
  pos : Nat := 0
  applied : Nat := 0
  failed : Nat := 0
  firstAt : Nat := 0
  firstSt : Nat := 0

def Bulk.ofList (l : List Nat) : Bulk :=
  { pos := l.getD 0 0, applied := l.getD 1 0, failed := l.getD 2 0, firstAt := l.getD 3 0, firstSt := l.getD 4 0 }
def Bulk.toList (b : Bulk) : List Nat := [b.pos, b.applied, b.failed, b.firstAt, b.firstSt]

/-- One element has been applied, or has failed with a status. -/
def Bulk.count (b : Bulk) (st : Nat) : Bulk :=
  if st = stOk then { b with pos := b.pos + 1, applied := b.applied + 1 }
  else { b with
    pos := b.pos + 1, failed := b.failed + 1
    firstAt := if b.failed = 0 then b.pos else b.firstAt, firstSt := if b.failed = 0 then st else b.firstSt }

/-- The command ends here: every element has been treated, or one has failed without CONTINUE. -/
def Bulk.past (b : Bulk) (x : Cmd) : Bool := decide (x.fld 20 0 32 ≤ b.pos) || (decide (0 < b.failed) && decide (x.fld 17 3 1 = 0))

/-- The completion of a bulk command. -/
def Dev.bulkEnd (d : Dev) (c : CmdRef) (b : Bulk) : Dev :=
  d.fail c b.firstSt 0 (pack [(0, 32, b.applied), (32, 32, b.failed)]) (pack [(0, 32, b.firstAt), (32, 8, b.firstSt)])

/-- A bulk command goes on, or ends. -/
def Dev.bulkNext (d : Dev) (c : CmdRef) (x : Cmd) (b : Bulk) : Dev :=
  if b.past x then d.bulkEnd c b else d.again c b.toList

/-! ### Host operations on the ring (07 R226, R227) -/

/-- The event of an operation's pass. -/
def LrnOp.event (o : LrnOp) : LrnEvent :=
  { kind := o.kind, origin := 4, polder := o.polder, mac := macF o.image 16 0 48, domain := macF o.image 22 0 14, image := o.image, op := some o.id }

/-- A command's operation goes to the host stop of the ring. -/
def Dev.lrnStart (d : Dev) (c : CmdRef) (kind : LrnKind) (image : BitVec 256) (polder : Nat) : Dev :=
  let o : LrnOp := { id := d.lrn.opSeq, ep := c.ep, ring := c.ring, pos := c.pos, kind := kind, image := image, polder := polder }
  { d with lrn := { d.lrn with ops := d.lrn.ops ++ [o], opSeq := d.lrn.opSeq + 1, hostOffers := d.lrn.hostOffers ++ [o.event] } }

/-- The operation's command takes its outcome; a bulk command goes on with its next element. -/
def Dev.lrnDone (d : Dev) (o : LrnOp) (st detail r0 r1 : Nat) : Dev :=
  let c : CmdRef := { ep := o.ep, ring := o.ring, pos := o.pos }
  let d := { d with lrn := { d.lrn with ops := d.lrn.ops.filter (fun y => decide (y.id ≠ o.id)) } }
  match d.cmd? c with
  | none => d
  | some x =>
    if x.opcode = 0x14 then d.bulkNext c x ((Bulk.ofList x.scratch).count st)
    else d.fail c st detail r0 r1

/-- RELOC of the bucket that holds an index of copy `q`. -/
def Dev.macReloc (d : Dev) (q i : Nat) : Nat := tget (d.quad q).relocs 0 (i / 4)

/-- Every copy has applied an operation's event: its next pass, or its end. -/
def Dev.lrnPass (d : Dev) (o : LrnOp) : Dev :=
  let next (k : LrnKind) : Dev :=
    let o := { o with kind := k, applied := 0 }
    { d with lrn := { d.lrn with
      ops := d.lrn.ops.map (fun y => if y.id = o.id then o else y), hostOffers := d.lrn.hostOffers ++ [o.event] } }
  match o.kind with
  | .hostPlace => if o.failed = 0 then next .hostValidate else next .hostWithdraw
  | .hostValidate =>
    if o.failed = 0 then
      let i := ((d.macFind 0 o.polder (macF o.image 22 0 14) (macF o.image 16 0 48)).map (fun x => x.1)).getD 0
      d.lrnDone o stOk 0 i (d.macReloc 0 i)
    else d.lrnDone o stNoRoom (o.failed * 2 ^ 16) 0 0
  | .hostWithdraw => d.lrnDone o stNoRoom (o.failed * 2 ^ 16) 0 0
  | _ => if o.held = 0 then d.lrnDone o stNotFound 0 0 0 else d.lrnDone o stOk 0 o.held 0

/-- Copy `q` has dealt with an operation's event. -/
def Dev.lrnReport (d : Dev) (q id : Nat) (r : HostRes) : Dev :=
  match d.lrn.ops.find? (fun o => decide (o.id = id)) with
  | none => d
  | some o =>
    let o := { o with applied := o.applied ||| 2 ^ q, failed := o.failed ||| (if r.failed then 2 ^ q else 0), held := o.held ||| (if r.held then 2 ^ q else 0) }
    let d := { d with lrn := { d.lrn with ops := d.lrn.ops.map (fun y => if y.id = id then o else y) } }
    if o.applied = 15 then d.lrnPass o else d

/-! ### Rows -/

/-- LEARN_EVENT_PASS: the sequencer passes the event of the next source in turn: the quadrants, and the host stop (07
R207). -/
def doLearnEventPass (d : Dev) : Dev :=
  let offers (s : Nat) : List LrnEvent := if s = 4 then d.lrn.hostOffers else (d.quad s).offers
  match nextRound 5 d.lrn.rr (fun s => !(offers s).isEmpty) with
  | none => d
  | some s => match offers s with
    | [] => d
    | v :: rest =>
      let v := { v with seq := d.lrn.seq, tick := d.bal.tick, cfg := d.lrnCfg v.polder }
      let d := { d with lrn := { d.lrn with rr := s, seq := (d.lrn.seq + 1) % 2 ^ 32 } }
      let d := if s = 4 then { d with lrn := { d.lrn with hostOffers := rest } } else d.modQuad s (fun x => { x with offers := rest })
      (List.range 4).foldl (fun d q => d.modQuad q (fun x => { x with queue := x.queue ++ [v] })) d

/-- FS_LRN_APPLY_LAG follows the oldest event that a copy has not applied. -/
def Dev.lagRefresh (d : Dev) (q : Nat) : Dev :=
  d.live (0x921 + 64 * q) (match (d.quad q).queue with
    | v :: _ => decide (v.tick + usTicks 2 < d.bal.tick)
    | [] => false)

/-- LEARN_EVENT_APPLY: copy `quad` applies its next event; `draw` is the draw of a random eviction (07 R208, R211). -/
def doLearnEventApply (quad : Nat) (check : Ecc) (draw : Nat) (d : Dev) : Dev :=
  if 4 ≤ quad then d
  else match (d.quad quad).queue with
  | [] => d
  | v :: rest =>
    let d := d.modQuad quad (fun x => { x with queue := rest })
    let bad := decide (check = .once ∨ check = .lasting)
    let (r, d) :=
      if bad then
        ({}, (d.liveMs (0x924 + 64 * quad)).record Ev.lrnRingEcc .shared (some (0x924 + 64 * quad)) (dat [(0, 1, quad), (1, 4, v.seq)]))
      else match v.kind with
      | .new | .move => (({} : HostRes), d.macLearn quad v draw)
      | .rehome => ({}, d.macChecked quad v (fun e =>
          some { e with home := v.origin, hit := decide (quad = v.origin), agedOnce := false, version := v.seq % 2 ^ 24 }))
      | .ageMark => ({}, d.macChecked quad v (fun e => some { e with agedOnce := true }))
      | .remove => ({}, d.macChecked quad v (fun _ => none))
      | _ => d.macHost quad v
    let d := match v.op with
      | some id => d.lrnReport quad id r
      | none => d
    d.lagRefresh quad

/-- LEARN_APPLY_LAG: a copy still holds an event 2 µs after it passed the sequencer (07 R210). -/
def doLearnApplyLag (quad : Nat) (d : Dev) : Dev :=
  match (d.quad quad).queue with
  | v :: _ => (d.reach (v.tick + usTicks 2 + 1)).lagRefresh quad
  | [] => d

/-! ### Relocation (07 R223) -/

/-- A path of moves from the entry at `src`: each place but the last holds an entry that can move on to the next, and the last is free.
`cand` gives the candidate places of the entry at a place, `room` says that an entry fits where another stands. -/
def pathOk (cand : Nat → List Nat) (free : Nat → Nat → Bool) (room : Nat → Nat → Bool) : Nat → List Nat → Bool
  | _, [] => false
  | src, dst :: rest =>
    (cand src).contains dst && decide (src / 4 ≠ dst / 4) &&
      match rest with
      | [] => free src dst
      | _ => room src dst && pathOk cand free room dst rest

/-- The walker's plan with the path that it takes when it has none: the stash entry and the places of at most eight moves and of the
stash entry's own (07 R223; DEDUCED, assumption 142). -/
def planOf (plan : List Nat) (oldest : Option Nat) (path : List Nat) (ok : Nat → List Nat → Bool) : List Nat :=
  match plan, oldest with
  | [], some s => if path.length ≤ 9 && ok s path then s :: path else []
  | _, _ => plan

/-- The next move of a plan, from its end: source, target, and the plan that remains. -/
def planStep (plan : List Nat) : Option (Nat × Nat × List Nat) :=
  match plan.reverse with
  | dst :: src :: rest => some (src, dst, if rest.isEmpty then [] else (src :: rest).reverse)
  | _ => none

/-- The oldest entry of a stash: its index and order of arrival. -/
def oldestOf (es : List (Nat × Nat)) : Option Nat :=
  (es.foldl (fun (b : Option (Nat × Nat)) x => match b with
    | some y => if x.2 < y.2 then some x else b
    | none => some x) none).map (fun x => x.1)

/-- RELOC of the buckets of two places advances. -/
def relocBoth (t : Tab Nat) (key : Nat → Nat) (src dst : Nat) : Tab Nat :=
  tmod (tmod t 0 (key (src / 4)) (fun n => (n + 1) % 65536)) 0 (key (dst / 4)) (fun n => (n + 1) % 65536)

/-- The candidate places of the entry at an index of copy `q`. -/
def Dev.macCand (d : Dev) (q i : Nat) : List Nat :=
  match d.macAt q i with
  | some e => macCandidates e.mac e.domain e.polder
  | none => []

/-- One move in copy `q` of the MAC table. -/
def Dev.macWalk (d : Dev) (q : Nat) (path : List Nat) : Dev :=
  let x := d.quad q
  let free (_ dst : Nat) : Bool := (d.macAt q dst).isNone
  let oldest := oldestOf (x.ents.filterMap (fun y => if inStash y.1 then y.2.map (fun e => (y.1, e.stashed)) else none))
  match planStep (planOf x.plan oldest path (pathOk (d.macCand q) free (fun _ dst => (d.macAt q dst).isSome))) with
  | none => d.modQuad q (fun x => { x with plan := [] })
  | some (src, dst, rest) => match d.macAt q src with
    | some e =>
      if !free src dst || !(d.macCand q src).contains dst then d.modQuad q (fun x => { x with plan := [] })
      else
        let d := (d.setMac q dst (some { e with stashed := 0, hit := e.hit || decide (e.home = q) })).setMac q src none
        let d := d.modQuad q (fun x => { x with plan := rest, relocs := relocBoth x.relocs id src dst })
        (d.bump .reloc q).stashRefresh q
    | none => d.modQuad q (fun x => { x with plan := [] })

/-- RELOCATION_MOVE: the walker of a copy of the MAC table moves an entry toward a place for the oldest stash entry; `path` is the path
that it takes when it begins a search (07 R223). The walker of another table is in `Dev.tabWalk`. -/
def Dev.macRelocate (d : Dev) (quad : Nat) (path : List Nat) : Dev := if 4 ≤ quad then d else d.macWalk quad path

/-- The sweep begins at the present tick (07 R214). -/
def Dev.sweepStart (d : Dev) : Dev :=
  if d.lrn.periodS = 0 then { d with lrn := { d.lrn with sweeping := false, rows := [] } }
  else { d with lrn := { d.lrn with sweeping := true, sweepPeriod := min 3600 d.lrn.periodS, sweepStart := d.bal.tick, rows := [] } }

/-- The sweeper's visit to the entry at an index (07 R215). -/
def Dev.ageVisit (d : Dev) (q i : Nat) : Dev :=
  match d.macAt q i with
  | none => d
  | some e =>
    if !e.valid || e.static || decide (e.home ≠ q) then d
    else if e.hit then d.setMac q i (some { e with hit := false, agedOnce := false })
    else
      let v (k : LrnKind) : LrnEvent := { kind := k, origin := q, polder := e.polder, mac := e.mac, domain := e.domain, version := e.version }
      let put (d : Dev) (k : LrnKind) : Dev := d.modQuad q (fun x => { x with offers := x.offers ++ [v k] })
      if e.agedOnce then (put d .remove).bump .aged q else put d .ageMark

/-- AGING_VISIT: a quadrant's sweeper visits its next bucket row, with row 0 the stash; a new sweep follows once every
quadrant has swept (07 R214). -/
def doAgingVisit (quad : Nat) (d : Dev) : Dev :=
  let b := tget d.lrn.rows 0 quad
  if 4 ≤ quad ∨ !d.lrn.sweeping ∨ 32768 ≤ b then d
  else
    let d := d.reach (d.lrn.sweepStart + b * d.lrn.sweepPeriod * 25000000 / 32768)
    let idx := (List.range 4).flatMap (fun w => (List.range 4).map (fun s => w * 131072 + 4 * b + s)) ++ (if b = 0 then stashIdx else [])
    let d := idx.foldl (fun d i => d.ageVisit quad i) d
    let d : Dev := { d with lrn := { d.lrn with rows := tset d.lrn.rows 0 quad (b + 1) } }
    if (List.range 4).all (fun q => decide (32768 ≤ tget d.lrn.rows 0 q)) then
      if d.lrn.periodS = 0 then ({ d with lrn := { d.lrn with sweeping := false, rows := [] } } : Dev)
      else { d with lrn := { d.lrn with sweepStart := d.lrn.sweepStart + d.lrn.sweepPeriod * 25000000, sweepPeriod := min 3600 d.lrn.periodS, rows := [] } }
    else d

/-! ### Meanings -/

/-- LEARN_EVENT_PASS (R207). -/
def execLearnEventPass (s : State) : Host.Outcome State Fault Refusal :=
  .next { s with dev := doLearnEventPass s.dev }

/-- LEARN_EVENT_APPLY (R208). -/
def execLearnEventApply (quad : Nat) (check : Ecc) (draw : Nat) (s : State) : Host.Outcome State Fault Refusal :=
  .next { s with dev := doLearnEventApply quad check draw s.dev }

/-- LEARN_APPLY_LAG (R210). -/
def execLearnApplyLag (quad : Nat) (s : State) : Host.Outcome State Fault Refusal :=
  .next { s with dev := doLearnApplyLag quad s.dev }

/-- AGING_VISIT (R215). -/
def execAgingVisit (quad : Nat) (s : State) : Host.Outcome State Fault Refusal :=
  .next { s with dev := doAgingVisit quad s.dev }

end Sys2Proof.Machine
end

