-- ==== Sys2Proof/Machine/TableCmds.lean ====
section
/-! DEFINITION. The table commands: records and their checks, single-entry commands, bulk lists, scans and audits
(06 R169-R196, 05 R158, 07 R226, R227, 08 R233). -/
namespace Sys2Proof.Machine

/-! ### Records -/

/-- The first byte of an `n`-byte record that holds a set bit outside the named fields. -/
def rsvBad (r n : Nat) (fs : List Field) : Option Nat :=
  let m := fieldMask fs
  (List.range n).find? (fun o => decide (bits r (8 * o) 8 &&& (255 - bits m (8 * o) 8) ≠ 0))

/-- Bytes of a record of table `t`; a keyed record's width decides it for EXACT and the TCAM (06 Table 6-1). -/
def recLen (t r : Nat) : Nat :=
  match t with
  | 0x00 => 32
  | 0x01 => 16 + 16 * 2 ^ (bits r 3 2)
  | 0x02 => 48 | 0x03 => 32 | 0x04 => 48
  | 0x05 => 16 + 40 * 2 ^ (bits r 3 2)
  | 0x06 => 16 | 0x07 => 16 | 0x08 => 8 | 0x09 => 4 | 0x0A => 144 | 0x0B => 128 | 0x0C => 24 | _ => 16

/-- The lengths that RECORD_LEN may take. -/
def lenOk (t n : Nat) : Bool :=
  match t with
  | 0x01 => decide (n = 32 ∨ n = 48 ∨ n = 80)
  | 0x05 => decide (n = 56 ∨ n = 96 ∨ n = 176)
  | _ => decide (n = recLen t 0)

/-- PORT lies outside its range (01 Table 1-3: 0-531, and the null port). -/
def portBad (p : Nat) : Bool := decide (531 < p ∧ p < 1023)

/-- Fields of an EXACT key, from offset 16 (06 Table 6-5). -/
def exactFields : Nat → List Field
  | 1 => [(16, 0, 81)] | 2 => [(16, 0, 121)] | 3 => [(16, 0, 313)] | 4 => [(16, 0, 73)] | _ => []
/-- Fields of a TCAM key of width code `w` from byte `o` (06 Table 6-7). -/
def tcamFields (o : Nat) : Nat → List Field
  | 0 => [(o, 0, 152)] | 1 => [(o, 0, 152), (o, 160, 128)] | _ => [(o, 0, 478)]

/-- The fields that the action of a DEFAULT_ACTION record uses beside its key, ACTION and EVENT (05 Table 5-6). -/
def defaultFields : Nat → List Field
  | 1 => [(8, 4, 1), (10, 0, 10)] | 3 => [(14, 0, 6)] | 4 => [(12, 0, 14)] | _ => []

/-- The fields of a record of table `t`; `i` is its index (06 Tables 6-4 to 6-12, 07 Table 7-1, 08 Tables 8-2, 8-3, 8-7, 05 Table
5-6). Read-only fields are written as 0. -/
def recordFields (t i r : Nat) : List Field :=
  match t with
  | 0x00 => [(0, 3, 2), (1, 0, 2), (4, 0, 11), (16, 0, 62)]
  | 0x01 => [(0, 3, 2), (4, 0, 18)] ++ exactFields (fld r 16 0 3)
  | 0x02 => [(4, 0, 20), (16, 0, 15), (16, 16, 128)]
  | 0x03 => [(4, 0, 20), (16, 0, 20), (16, 32, 32)]
  | 0x04 => [(4, 0, 20), (16, 0, 22), (16, 64, 128)]
  | 0x05 =>
    let w := fld r 0 3 2
    [(0, 3, 2), (4, 0, 19)] ++ tcamFields 16 w ++ [(16 + 20 * 2 ^ w, 0, 160 * 2 ^ w)]
  | 0x06 => [(1, 0, 8), (2, 0, 3), (3, 0, 6), (4, 0, 20), (8, 0, 18), (12, 0, 29)]
  | 0x07 => [(2, 0, 11), (4, 0, 14), (6, 0, 48), (12, 0, 18)]
  | 0x08 => [(2, 0, 10), (4, 0, 20)]
  | 0x09 => [(1, 0, 18)]
  | 0x0A => [(0, 3, 1), (1, 0, 7)] ++ (List.range 64).map (fun k => (16 + 2 * k, 0, 10))
  | 0x0B =>
    if i < 16384 then [(1, 0, 2), (2, 0, 12), (4, 0, 12), (6, 0, 48)]
    else if i < 16448 then [(1, 0, 2), (2, 0, 14), (4, 0, 11), (6, 0, 8), (8, 0, 10), (16, 0, 896)]
    else [(1, 0, 1), (2, 0, 11), (4, 0, 4), (6, 0, 10), (16, 0, 896)]
  | 0x0C => [(0, 0, 22), (8, 0, 14), (10, 0, 14), (12, 0, 4), (13, 0, 5)]
  | _ => [(0, 0, 13), (8, 0, 4)] ++ defaultFields (fld r 8 0 3)

/-- The offsets of a record's fields with whether each is out of its range (the same tables). -/
def recordRanges (t i r : Nat) : List (Nat × Bool) :=
  let f (off lsb w : Nat) : Nat := fld r off lsb w
  let rewrite (off : Nat) : Nat × Bool := (off, decide (0 < f off 0 18 ∧ f off 0 18 < 16448))
  match t with
  | 0x00 => [(1, decide (f 0 3 1 = 1 ∧ f 1 0 2 ≠ 0)), (4, decide (f 4 9 1 = 1))]
  | 0x01 => [(0, decide (f 0 3 2 = 3)),
      (16, !decide (f 16 0 3 = 3 ∧ f 0 3 2 = 2 ∨ (f 16 0 3 = 1 ∨ f 16 0 3 = 2 ∨ f 16 0 3 = 4) ∧ f 0 3 2 = 0))]
  | 0x02 => [(18, decide (f 16 0 1 = 0 ∧ f 16 48 96 ≠ 0))]
  | 0x03 => [(16, decide (32 < f 16 0 6)), (20, decide (f 16 32 32 % 2 ^ (32 - f 16 0 6) ≠ 0))]
  | 0x04 => [(16, decide (128 < f 16 0 8)), (24, decide (f 16 64 128 % 2 ^ (128 - f 16 0 8) ≠ 0))]
  | 0x05 => [(0, decide (f 0 3 2 = 3)), (16, decide (f 16 0 2 ≠ f 0 3 2 + 1))]
  | 0x06 => [(1, decide (4 < f 1 0 3 ∨ f 1 0 3 = 3 ∧ f 1 3 1 = 0)), rewrite 8]
  | 0x07 => [(2, decide (f 2 9 1 = 1)), rewrite 12]
  | 0x08 => [(2, decide (f 2 0 10 = 0 ∨ 512 < f 2 0 10)), (4, decide (1048576 < f 4 0 20 + f 2 0 10))]
  | 0x0A => (1, decide (64 < f 1 0 7)) :: (List.range 64).map (fun k =>
      (16 + 2 * k, if k < f 1 0 7 then decide (511 < f (16 + 2 * k) 0 10) else decide (f (16 + 2 * k) 0 10 ≠ 0)))
  | 0x0B =>
    if i < 16384 then []
    else if i < 16448 then
      [(2, decide (f 1 0 1 = 1 ∧ f 2 10 4 ≠ 0 ∨ f 1 0 1 = 0 ∧ 511 < f 2 0 10)),
       (4, decide (f 1 1 1 = 1 ∧ 2048 < f 4 0 11 + f 6 0 4)),
       (6, if f 1 1 1 = 1 then decide (f 6 0 4 = 0 ∨ 10 < f 6 0 4) else decide (f 6 0 4 ≠ 0)),
       (8, decide (f 8 0 10 ≠ 0 ∧ (f 8 0 10 < 64 ∨ 512 < f 8 0 10)))]
    else [(2, decide (2048 < f 2 0 11 + f 4 0 4)), (4, decide (f 4 0 4 = 0 ∨ 10 < f 4 0 4))]
  | 0x0C => [(0, decide (511 < f 0 0 10 ∧ f 0 0 10 < 528 ∨ 531 < f 0 0 10)), (13, decide (4 < f 13 0 3))]
  | 0x1F => [(0, portBad (f 0 0 10) || decide (5 < f 0 10 3)), (8, decide (4 < f 8 0 3))]
  | _ => []

/-- The offset of the first field of a record that breaks the layout of its table. -/
def recordBad (t i r : Nat) : Option Nat :=
  least ((rsvBad r (recLen t r) (recordFields t i r)).toList ++
    (recordRanges t i r).filterMap (fun b => if b.2 then some b.1 else none))

/-- A record keeps the layout of its table. -/
def recordOk (t i r : Nat) : Bool := (recordBad t i r).isNone

/-- The entries that a record refers to, as far as its fields are in range: tables and indexes (06 R170). -/
def recordRefs (t r : Nat) : List (Nat × Nat) :=
  let f (off lsb w : Nat) : Nat := fld r off lsb w
  let nh (v : Nat) : List (Nat × Nat) :=
    match v / 2 ^ 18 with
    | 0 => [(tNextHop, v % 2 ^ 18)]
    | 1 => if v % 2 ^ 18 < 16384 then [(tEcmpGroup, v % 2 ^ 18)] else []
    | _ => []
  let rw (n : Nat) : List (Nat × Nat) := if n < 16448 then [] else [(tRewrite, n)]
  match t with
  | 0x01 => [(tAction, f 4 0 18)]
  | 0x05 => [(tAction, f 4 0 18)]
  | 0x02 => nh (f 4 0 20)
  | 0x03 => nh (f 4 0 20)
  | 0x04 => nh (f 4 0 20)
  | 0x06 => (if f 1 3 1 = 1 then nh (f 4 0 20) else []) ++ (if f 1 7 1 = 1 then rw (f 8 0 18) else [])
  | 0x07 => (if f 2 10 1 = 1 then [(tLag, f 2 0 9)] else []) ++ rw (f 12 0 18)
  | 0x08 =>
    if f 2 0 10 ≤ 512 ∧ f 4 0 20 + f 2 0 10 ≤ 1048576 then (List.range (f 2 0 10)).map (fun k => (tEcmpMember, f 4 0 20 + k)) else []
  | 0x09 => [(tNextHop, f 1 0 18)]
  | _ => []

/-! ### Ownership of what table commands name (06 R170, 03 R94, R584, 02 R582) -/

/-- A port that a table key names, for an authority over polders, or over no polder: a front-panel port, a recirculation port, or
endpoint `e`'s host port. -/
def Dev.keyPortMine (d : Dev) (mine : Option Nat → Bool) (e port : Nat) : Bool :=
  if port < 512 then mine (d.lanePolder port) else if port < 528 then mine none else decide (531 < port ∨ port = 528 + e)

/-- Host queue `q` as the destination of a TRAP: one of the authority's polders, or unassigned and endpoint `e`'s own. -/
def Dev.trapMine (d : Dev) (mine : Option Nat → Bool) (e q : Nat) : Bool :=
  match d.rxqPolder (q / 256) (q % 256) with
  | some p => mine (some p)
  | none => decide (q / 256 = e)

/-- The objects that the in-range fields of a record name, other than the indexes of R170: the port of a PORT_VLAN or DEFAULT_ACTION
key, a TRAP's host queue, a mirror session, and a session's destination. -/
def Dev.recordMine (d : Dev) (mine : Option Nat → Bool) (e t i r : Nat) : Bool :=
  match t with
  | 0x0B =>
    let dest := fld r 2 0 10
    if i < 16384 ∨ 16448 ≤ i then true
    else if fld r 1 0 1 = 1 then (d.rxqPolder (dest / 256) (dest % 256)).any (fun p => mine (some p))
    else decide (511 < dest) || (d.lanePolder dest).any (fun p => mine (some p))
  | 0x0C => d.keyPortMine mine e (fld r 0 0 10)
  | 0x1F =>
    d.keyPortMine mine e (fld r 0 0 10) &&
      match fld r 8 0 3 with
      | 1 => d.trapMine mine e (fld r 10 0 10)
      | 3 => (d.tab tRewrite (16384 + fld r 14 0 6)).any (fun x => mine (some x.polder))
      | _ => true
  | _ => true

/-- The entry at an index of copy `quad`, and for the TCAM the entry that holds the slice, belongs to the authority, or is
invalid. -/
def Dev.indexMine (d : Dev) (mine : Option Nat → Bool) (t i quad : Nat) : Bool :=
  if t = tMac then (match d.macAt quad i with
    | some e => mine (some e.polder)
    | none => true)
  else if t = tTcam then
    (d.tabList t).all (fun x => !decide (x.1 ≤ i ∧ i < x.1 + entUnits t x.2.image.toNat) || mine (some x.2.polder))
  else match d.tab t i with
    | some e => mine (some e.polder)
    | none => true

/-- An index is valid and belongs to the authority. -/
def Dev.refOk (d : Dev) (mine : Option Nat → Bool) (a : Nat × Nat) : Bool :=
  match d.tab a.1 a.2 with
  | some e => mine (some e.polder)
  | none => false

/-- The key bits of a record of a keyed table: what two records of one key share. -/
def keyOf (t r : Nat) : Nat :=
  match t with
  | 0x01 => r % 2 ^ (8 * recLen t r) / 2 ^ 128 * 4 + bits r 3 2
  | 0x02 => fld r 16 0 256
  | 0x03 => fld r 16 0 128
  | 0x04 => fld r 16 0 256
  | 0x05 => forceTfmt (r % 2 ^ (8 * recLen t r)) / 2 ^ 128 * 4 + bits r 3 2
  | 0x0C => fld r 0 0 22
  | _ => 0

/-- The entries of a polder that hold a key, lowest index first. -/
def Dev.keyEnts (d : Dev) (t p r : Nat) : List (Nat × TabEnt) :=
  (d.tabList t).filter (fun x => decide (x.2.polder = p ∧ keyOf t x.2.image.toNat = keyOf t r))

/-- The lowest index from `i` on that a rising list of indexes leaves free. -/
def firstFree : Nat → List Nat → Nat
  | i, [] => i
  | i, j :: r => if i < j then i else firstFree (if j = i then i + 1 else i) r

/-! ### Places of EXACT and HOST_ROUTE (06 R193, 07 R201, R209) -/

/-- The table is organised like the MAC table: four ways of buckets of four units, and a stash of 64 entries. -/
def wayed (t : Nat) : Bool := decide (t = tExact ∨ t = tHost)

/-- The first unit of a key's bucket in way `w`: a value the spec does not state, cut to the buckets of a way. -/
def tabBucket (t p r w : Nat) : Nat :=
  w * (capacity t / 4) + 4 * (Config.bucketOf t w p (keyOf t r) % (capacity t / 16))

/-- The places that an entry may take in its buckets, lowest way and slot first; wide entries start at a multiple of their
units. -/
def tabCandidates (t p r : Nat) : List Nat :=
  (List.range 4).flatMap (fun w =>
    ((List.range 4).filter (fun k => decide (k % entUnits t r = 0))).map (fun k => tabBucket t p r w + k))

/-- The indexes of a table's stash. -/
def stashOf (t : Nat) : List Nat := (List.range 64).map (· + capacity t)

/-- No entry lies in the `units` units from `i`; a stash entry holds any width. -/
def Dev.placeFree (d : Dev) (t i units : Nat) : Bool :=
  if capacity t ≤ i then (d.tab t i).isNone
  else (List.range 4).all (fun k =>
    let j := i / 4 * 4 + k
    match d.tab t j with
    | some e => decide (i + units ≤ j ∨ j + entUnits t e.image.toNat ≤ i)
    | none => true)

/-- The end of a table's indexes, its stash with it (07 R201). -/
def lastIndex (t : Nat) : Nat := capacity t + (if t = tMac ∨ wayed t then 64 else 0)

/-- Writes an entry; one that comes into a stash takes its order of arrival. -/
def Dev.putTab (d : Dev) (t i : Nat) (e : TabEnt) : Dev :=
  if capacity t ≤ i then
    { d with rle := { d.rle with stashSeq := d.rle.stashSeq + 1 } }.setTab t i (some { e with stashed := d.rle.stashSeq })
  else d.setTab t i (some { e with stashed := 0 })

/-- RELOC of the bucket of an index. -/
def Dev.tabReloc (d : Dev) (t i : Nat) : Nat := tget d.rle.relocs 0 (tabKey t (i / 4))

/-- The record that a read returns, its read-only fields filled in. -/
def Dev.readImage (d : Dev) (t i : Nat) (e : TabEnt) : Nat :=
  let vis := if versioned t then e.vis else 3
  if t = tPortVlan then e.image.toNat + 2 ^ 32
  else if t = tDefault then e.image.toNat
  else e.image.toNat + 1 + 2 * vis + (if t ≤ 5 then d.tabReloc t i * 2 ^ 16 else 0)

/-- A MAC entry as a record. -/
def Dev.macImage (d : Dev) (q i : Nat) (e : MacEnt) : Nat :=
  pack [(0, 1, 1), (1, 2, 3), (3, 1, b2n e.static), (4, 1, b2n e.router), (5, 1, b2n e.flapLock), (6, 1, b2n e.hit), (7, 1, b2n e.agedOnce),
    (8, 2, e.home), (16, 16, d.macReloc q i), (32, 10, e.port), (42, 1, b2n e.isLag), (48, 8, e.moves), (64, 40, e.learnTick),
    (128, 48, e.mac), (176, 14, e.domain), (192, 40, e.moveTick), (232, 24, e.version)]

/-- The quota does not allow `units` more of table `t`, `freed` units being given up (03 R87). -/
def Dev.quotaShort (d : Dev) (t p units freed : Nat) : Bool :=
  match quotaOf t with
  | some i => decide (d.quota p i + freed < d.quotaUse t p + units)
  | none => false

/-- Pipeline of a PORT_VLAN entry. -/
def pvPipe (r : Nat) : Nat := pipeOf (fld r 0 0 10)

/-! ### One write, one delete -/

/-- What a table command is asked: its table and flags, the index, and the spare index. -/
structure TabReq where
  c : CmdRef
  p : Nat
  t : Nat
  byIndex : Bool := false
  gen : Bool := false
  mbb : Bool := false
  index : Nat := 0
  spare : Nat := 0
  /-- The place that the device chooses for an entry of another keyed table. -/
  place : Option Nat := none
  /-- The record stands in the descriptor. -/
  inline : Bool := false

/-- How a table command fails: its status and DETAIL, and whether a table quota refused it. -/
structure TabFail where
  st : Nat
  detail : Nat := 0
  quota : Bool := false

/-- The authority of a table command (03 R90). -/
def Dev.mine (d : Dev) (q : TabReq) : Option Nat → Bool := d.mayAs q.c

/-- A commit of the holder's generation that was dispatched before a command (06 R187). -/
def Dev.commitBefore (d : Dev) (p disp : Nat) : Bool :=
  (List.range 4).any (fun e => (d.ep e).cmds.any (fun x =>
    decide (x.opcode = 0x31 ∧ x.polder = p ∧ 0 < x.disp ∧ x.disp < disp) && x.outcome.isNone))

/-- A staged command may not run: why, in DETAIL[15:8] of ST_BUSY_GEN (06 R185, R187). -/
def Dev.stagedBar (d : Dev) (q : TabReq) : Option TabFail :=
  if !q.gen then none
  else if !versioned q.t then some { st := stBadOperand, detail := 17 }
  else match d.rle.slotSt with
  | .staged =>
    if d.rle.holder ≠ some q.p then some { st := stBusyGen, detail := 0x300 }
    else if d.commitBefore q.p (match d.cmd? q.c with
      | some x => x.disp
      | none => 0) then some { st := stBusyGen, detail := 0x400 }
    else none
  | .draining | .sweeping => some { st := stBusyGen, detail := 0x100 }
  | .idle => some { st := stNotFound }

/-- The staged slot. -/
def Dev.stagedSlot (d : Dev) : Nat := 1 - d.curSlot
/-- VIS of a new entry. -/
def Dev.newVis (d : Dev) (gen : Bool) : Nat := if gen then 2 ^ d.stagedSlot else 3
/-- An entry hidden from the staged slot. -/
def TabEnt.hide (e : TabEnt) (slot : Nat) : TabEnt := { e with vis := if e.vis.testBit slot then e.vis - 2 ^ slot else e.vis }

/-- The entries that a write by index meets: their slices or their index. -/
def Dev.hits (d : Dev) (q : TabReq) (r i : Nat) : List (Nat × TabEnt) :=
  let span (e : Nat) : Nat := if q.t = tTcam then entUnits q.t e else 1
  (d.tabList q.t).filter (fun e => decide (e.1 < i + span r ∧ i < e.1 + span e.2.image.toNat))

/-- What is judged of a write before the command's own checks: the ownership of every object that it and its record name, then the
record's values; a value's DETAIL is its offset in the descriptor, or that of RECORD_ADDR (02 R51, R582, 06 R170). -/
def Dev.recordBar (d : Dev) (q : TabReq) (r : Nat) : Option TabFail :=
  if !(q.byIndex && !(d.hits q r q.index).all (fun e => d.mine q (some e.2.polder))) && d.recordMine (d.mine q) q.c.ep q.t q.index r &&
      (recordRefs q.t r).all (d.refOk (d.mine q)) then
    match recordBad q.t q.index r with
    | some o => some { st := stBadOperand, detail := if q.inline then 32 + o else 32 }
    | none => none
  else some { st := stNotOwner }

/-- The image that an entry keeps of its record: the mask bits of TFMT are 1 in a TCAM entry (06 R177). -/
def keptImage (t r : Nat) : BitVec 1408 := BitVec.ofNat 1408 (if t = tTcam then forceTfmt r else r)

/-- A write to an indexed table or the TCAM. -/
def Dev.writeIndexed (d : Dev) (q : TabReq) (r : Nat) : Except TabFail (Nat × Dev) :=
  let units := if q.t = tTcam then entUnits q.t r else 1
  let bad (o : Nat) : Except TabFail (Nat × Dev) := .error { st := stBadOperand, detail := o }
  let old := d.tab q.t q.index
  if capacity q.t < q.index + units ∨ q.index % units ≠ 0 ∨ (d.hits q r q.index).any (fun e => decide (e.1 ≠ q.index)) then bad 20
  else if q.gen && old.any (fun e => e.vis.testBit d.curSlot) then bad 20
  else if q.mbb && (!(d.hits q r q.spare).isEmpty || decide (q.spare % units ≠ 0 ∨ capacity q.t < q.spare + units)) then bad 24
  else
    let freed := match old with
      | some e => if e.polder = q.p then entUnits q.t e.image.toNat else 0
      | none => 0
    if d.quotaShort q.t q.p (entUnits q.t r) freed then .error { st := stNoRoom, quota := true }
    else
      let e : TabEnt := { image := keptImage q.t r, polder := q.p, vis := d.newVis q.gen }
      if q.mbb then .ok (q.spare, (d.setTab q.t q.spare (some e)).setTab q.t q.index none)
      else .ok (q.index, d.setTab q.t q.index (some e))

/-- A free place for a record of a keyed table: a candidate of its key, else a stash entry, in the tables organised like the MAC table;
elsewhere the place that the device chooses. -/
def Dev.newPlace (d : Dev) (q : TabReq) (r : Nat) : Option Nat :=
  if wayed q.t then (tabCandidates q.t q.p r ++ stashOf q.t).find? (fun i => d.placeFree q.t i (entUnits q.t r))
  else
    let i := match q.place with
      | some i => i
      | none => firstFree 0 ((d.tabList q.t).map (fun x => x.1))
    if i < capacity q.t ∧ (d.tab q.t i).isNone then some i else none

/-- PORT_VLAN entries of one pipeline fill its table (06 Table 6-1). -/
def Dev.pipeFull (d : Dev) (t r : Nat) : Bool :=
  decide (t = tPortVlan ∧ 4096 ≤ ((d.tabList t).filter (fun x => decide (pvPipe x.2.image.toNat = pvPipe r))).length)

/-- A write by key: an update in place, or, with MBB, at a free place; a staged write hides the older version (06 R181, R183,
R193). -/
def Dev.writeKeyed (d : Dev) (q : TabReq) (r : Nat) : Except TabFail (Nat × Dev) :=
  let units := entUnits q.t r
  let olds := d.keyEnts q.t q.p r
  let e : TabEnt := { image := keptImage q.t r, polder := q.p, vis := d.newVis q.gen }
  let keep := if q.gen then olds.find? (fun x => !x.2.vis.testBit d.curSlot) else olds.head?
  let rest (d : Dev) (i : Nat) : Dev := olds.foldl (fun d x =>
    if x.1 = i then d
    else if q.gen then d.setTab q.t x.1 (some (x.2.hide d.stagedSlot)) else d.setTab q.t x.1 none) d
  match keep with
  | some (i, o) =>
    if !q.mbb then .ok (i, (rest d i).setTab q.t i (some { e with stashed := o.stashed }))
    else match d.newPlace q r with
    | none => .error { st := stNoRoom }
    | some j => .ok (j, ((rest d i).putTab q.t j e).setTab q.t i none)
  | none =>
    if d.quotaShort q.t q.p units 0 then .error { st := stNoRoom, quota := true }
    else if d.pipeFull q.t r then .error { st := stNoRoom }
    else match d.newPlace q r with
    | none => .error { st := stNoRoom }
    | some j => .ok (j, (rest d j).putTab q.t j e)

/-- A DEFAULT_ACTION record is written (05 R158). -/
def Dev.writeDefault (d : Dev) (r : Nat) : Except TabFail (Nat × Dev) :=
  let port := fld r 0 0 10
  if fld r 8 0 3 = 4 ∧ !d.isPort (fld r 12 0 10) then .error { st := stBadOperand, detail := 32 }
  else if !d.isPort port then .error { st := stNotFound }
  else
    let k := 8 * port + fld r 0 10 3
    .ok (k, { d.wakeFor port with pse := { d.pse with entries := tset d.pse.entries none k (some (BitVec.ofNat 64 (fld r 8 0 64))) } })

/-- A write to a table other than the MAC table (06 R193). -/
def Dev.tabWrite (d : Dev) (q : TabReq) (r : Nat) : Except TabFail (Nat × Dev) :=
  let byKey := keyed q.t && decide (q.t ≠ tTcam)
  if byKey && q.byIndex || !byKey && !q.byIndex || q.mbb && (decide (q.t = tDefault) || !keyed q.t) then
    .error { st := stBadOperand, detail := 17 }
  else match d.recordBar q r with
  | some f => .error f
  | none => match d.stagedBar q with
  | some f => .error f
  | none => if q.t = tDefault then d.writeDefault r else if byKey then d.writeKeyed q r else d.writeIndexed q r

/-- An entry is deleted: everywhere, or, staged, from the staged slot. -/
def Dev.dropEnt (d : Dev) (q : TabReq) (i : Nat) (e : TabEnt) : Dev :=
  d.setTab q.t i (if q.gen then some (e.hide d.stagedSlot) else none)

/-- A delete from a table other than the MAC table (06 R194). By key in the TCAM it compares KEY and MASK as kept, and removes every
entry of the polder that has them (DESIGN CHOICE, assumption 140). -/
def Dev.tabDelete (d : Dev) (q : TabReq) (r : Nat) : Except TabFail (Nat × Dev) :=
  if q.t = tDefault then .error { st := stBadOperand, detail := 16 }
  else if q.byIndex && !d.indexMine (d.mine q) q.t q.index 0 then .error { st := stNotOwner }
  else if q.byIndex && decide (lastIndex q.t ≤ q.index) then .error { st := stBadOperand, detail := 20 }
  else if !q.byIndex && !keyed q.t then .error { st := stBadOperand, detail := 17 }
  else match d.stagedBar q with
  | some f => .error f
  | none =>
    let es := (if q.byIndex then ((d.tab q.t q.index).map (fun e => (q.index, e))).toList else d.keyEnts q.t q.p r).filter (fun x =>
      !q.gen || x.2.vis.testBit d.stagedSlot)
    match es with
    | [] => .error { st := stNotFound }
    | x :: _ => .ok (x.1, es.foldl (fun d y => d.dropEnt q y.1 y.2) d)

/-- After a change of the tables the parity sources follow the entries. -/
def Dev.parityAll (d : Dev) : Dev := (List.range 4).foldl (fun d q => d.parityRefresh q) d

/-! ### Relocation in EXACT and HOST_ROUTE (06 R193, 07 R223) -/

/-- The candidate places of the entry at an index. -/
def Dev.tabCand (d : Dev) (t i : Nat) : List Nat :=
  match d.tab t i with
  | some e => tabCandidates t e.polder e.image.toNat
  | none => []

/-- Units of the entry at an index. -/
def Dev.unitsAt (d : Dev) (t i : Nat) : Nat :=
  match d.tab t i with
  | some e => entUnits t e.image.toNat
  | none => 0

/-- One move in a table that is organised like the MAC table, in all four copies, which hold an entry at one index (06 R193). -/
def Dev.tabWalk (d : Dev) (t : Nat) (path : List Nat) : Dev :=
  let free (src dst : Nat) : Bool := d.placeFree t dst (d.unitsAt t src)
  let room (src dst : Nat) : Bool := decide (d.unitsAt t src ≤ d.unitsAt t dst)
  let oldest := oldestOf ((d.tabList t).filterMap (fun x => if capacity t ≤ x.1 then some (x.1, x.2.stashed) else none))
  let plan (p : List Nat) (d : Dev) : Dev := { d with rle := { d.rle with plans := tset d.rle.plans [] t p } }
  match planStep (planOf (tget d.rle.plans [] t) oldest path (pathOk (d.tabCand t) free room)) with
  | none => plan [] d
  | some (src, dst, rest) => match d.tab t src with
    | some e =>
      if !free src dst || !(d.tabCand t src).contains dst then plan [] d
      else
        let d := (d.setTab t dst (some { e with stashed := 0 })).setTab t src none
        plan rest { d with rle := { d.rle with relocs := relocBoth d.rle.relocs (fun b => tabKey t b) src dst } }
    | none => plan [] d

/-- RELOCATION_MOVE: a relocation walker makes one move toward a place for the oldest stash entry of its table, in copy `quad` of the MAC
table, or in EXACT or HOST_ROUTE; `path` is the path that it takes when it begins a search (07 R223, 06 R193). -/
def doRelocationMove (quad table : Nat) (path : List Nat) (d : Dev) : Dev :=
  if table = tMac then d.macRelocate quad path else if wayed table then d.tabWalk table path else d

/-! ### Single commands (06 R192-R194) -/

/-- The request that a single command makes. -/
def tabReq (c : CmdRef) (x : Cmd) (io : Io) : TabReq :=
  { c := c, p := x.polder, t := x.fld 16 0 8, byIndex := decide (x.fld 17 0 1 = 1), gen := decide (x.fld 17 1 1 = 1)
    mbb := decide (x.fld 17 2 1 = 1), index := x.fld 20 0 32, spare := x.fld 24 0 32, place := io.pick.head?
    inline := decide (x.fld 17 3 1 = 1) }

/-- The record of a command: inline, or read by DMA; none: a read error. -/
def tabRecord (x : Cmd) (io : Io) : Option Nat :=
  let n := x.fld 18 0 16
  if x.fld 17 3 1 = 1 then some (x.fld 32 0 256 % 2 ^ (8 * n)) else ioRecord io n

/-- The first operand that a form of a single table command may not carry (06 R192). -/
def tabForm (x : Cmd) : Option Nat :=
  let op := x.opcode
  let t := x.fld 16 0 8
  let inl := x.fld 17 3 1 = 1
  let len := x.fld 18 0 16
  let delIdx := decide (op = 0x13 ∧ x.fld 17 0 1 = 1)
  if !isTable t then some 16
  else if x.fld 17 6 2 ≠ 0 ∨ (x.fld 17 4 2 ≠ 0 ∧ op ≠ 0x11 ∧ op ≠ 0x12) ∨ (x.fld 17 2 1 = 1 ∧ op ≠ 0x10) then some 17
  else if inl ∧ (op = 0x11 ∨ op = 0x12 ∨ delIdx ∨ 32 < len) then some 17
  else if (op = 0x11 ∨ op = 0x12) ∧ x.fld 17 1 1 = 1 ∧ !versioned t then some 17
  else if t = tMac ∧ ((op = 0x10 ∧ x.fld 17 0 3 ≠ 0) ∨ (op = 0x13 ∧ x.fld 17 0 3 ≠ 0)) then some 17
  else if if delIdx then len ≠ 0 else !lenOk t len then some 18
  else if x.fld 17 0 1 = 0 ∧ x.fld 20 0 32 ≠ 0 then some 20
  else if x.fld 24 0 32 ≠ 0 ∧ !(op = 0x10 ∧ x.fld 17 2 1 = 1 ∧ t = tTcam) then some 24
  else if x.fld 28 0 32 ≠ 0 then some 28
  else if delIdx then (List.range 32).map (· + 32) |>.find? (fun o => decide (x.fld o 0 8 ≠ 0))
  else if inl then ((List.range 32).map (· + 32)).find? (fun o => decide (32 + len ≤ o ∧ x.fld o 0 8 ≠ 0))
  else ((List.range 24).map (· + 40)).find? (fun o => decide (x.fld o 0 8 ≠ 0))

/-- A table command fails; a table quota that refused it is recorded in its polder's source (03 Table 3-8). -/
def Dev.tabFail (d : Dev) (c : CmdRef) (p : Nat) (f : TabFail) : Dev :=
  (if f.quota then d.liveMs (0x80 + 8 * p) else d).fail c f.st f.detail

/-- OP_TABLE_WRITE (06 R193; 07 R226 for the MAC table). -/
def doOpTableWrite (c : CmdRef) (io : Io) (d : Dev) : Dev :=
  d.step1 c (fun x => isOp 0x10 x && x.scratch.isEmpty) fun d x =>
    match tabForm x with
    | some o => d.badOp c o
    | none => match tabRecord x io with
    | none => d.fail c stTimeout
    | some r =>
      let q := tabReq c x io
      if recLen q.t r ≠ x.fld 18 0 16 then d.badOp c 18
      else if q.t = tMac then
        match recordBad tMac 0 r with
        | some o => d.badOp c (if q.inline then 32 + o else 32)
        | none => (d.lrnStart c .hostPlace (BitVec.ofNat 256 r) q.p).modCmd c (fun y => { y with scratch := [1] })
      else match d.tabWrite q r with
        | .error f => d.tabFail c q.p f
        | .ok (i, d) => d.parityAll.ok c i (d.tabReloc q.t i)

/-- OP_TABLE_DELETE (06 R194; 07 R227). -/
def doOpTableDelete (c : CmdRef) (io : Io) (d : Dev) : Dev :=
  d.step1 c (fun x => isOp 0x13 x && x.scratch.isEmpty) fun d x =>
    match tabForm x with
    | some o => d.badOp c o
    | none =>
      let q := tabReq c x io
      match (if q.byIndex then some 0 else tabRecord x io) with
      | none => d.fail c stTimeout
      | some r =>
        if !q.byIndex && decide (recLen q.t r ≠ x.fld 18 0 16) then d.badOp c 18
        else if q.t = tMac then (d.lrnStart c .hostDelete (BitVec.ofNat 256 r) q.p).modCmd c (fun y => { y with scratch := [1] })
        else match d.tabDelete q r with
          | .error f => d.tabFail c q.p f
          | .ok (_, d) => d.parityAll.ok c

/-- The result of a read or a search: index and record image, or a failure. A read by index also judges the owner of the entry
(06 R170, R194). GEN=1 with nothing staged looks in the slot that is not current (DESIGN CHOICE, assumption 141). -/
def Dev.tabLook (d : Dev) (c : CmdRef) (x : Cmd) (r : Nat) (search : Bool) : Except TabFail (Nat × Nat) :=
  let t := x.fld 16 0 8
  let byIndex := x.fld 17 0 1 = 1
  let quad := x.fld 17 4 2
  let i := x.fld 20 0 32
  let len := x.fld 18 0 16
  let slot := if x.fld 17 1 1 = 1 then d.stagedSlot else d.curSlot
  let k : Look := { p := x.polder, slot := slot, quad := quad }
  let none_ : Except TabFail (Nat × Nat) := .error { st := stNotFound }
  let bad (o : Nat) : Except TabFail (Nat × Nat) := .error { st := stBadOperand, detail := o }
  let found (o : Option (Nat × TabEnt)) : Except TabFail (Nat × Nat) :=
    match o with
    | some (i, e) => .ok (i, d.readImage t i e)
    | none => none_
  let foundMac (o : Option (Nat × MacEnt)) : Except TabFail (Nat × Nat) :=
    match o with
    | some (i, e) => .ok (i, d.macImage quad i e)
    | none => none_
  if search && byIndex || byIndex && decide (t = tDefault) || !byIndex && !keyed t then bad (if search && !byIndex then 16 else 17)
  else if byIndex && !d.indexMine (d.mayAs c) t i quad then .error { st := stNotOwner }
  else if t = tDefault then
    let port := fld r 0 0 10
    let cls := fld r 0 10 3
    if !d.keyPortMine (d.mayAs c) c.ep port then .error { st := stNotOwner }
    else if portBad port ∨ 5 < cls ∨ bits r 13 51 ≠ 0 then bad 32
    else if !d.isPort port then none_
    else .ok (8 * port + cls, fld r 0 0 13 + (d.defaultEntry port cls).toNat * 2 ^ 64)
  else if byIndex && decide (t = tMac) then foundMac (((d.macAt quad i).filter MacEnt.valid).map (fun e => (i, e)))
  else if byIndex then
    match d.tab t i with
    | none => none_
    | some e =>
      if e.bad.testBit quad || !e.vis.testBit slot then none_
      else if recLen t e.image.toNat ≠ len then bad 18
      else found (some (i, e))
  else if recLen t r ≠ len then bad 18
  else if t = tMac then foundMac (d.macLook k (fld r 22 0 14) (fld r 16 0 48))
  else if search && decide (t = tLpm4) then found (d.lpmFind k false (fld r 16 6 14) (fld r 16 32 32))
  else if search && decide (t = tLpm6) then found (d.lpmFind k true (fld r 16 8 14) (fld r 16 64 128))
  else if search && decide (t = tTcam) then found (d.tcamFind k (tcamWidth r) (bits r 128 (tcamWidth r)))
  else found ((d.keyEnts t x.polder r).find? (fun e => e.2.serves x.polder slot quad))

/-- READ and SEARCH: the record goes to RECORD_ADDR; a parity error that the read meets gives ST_ENTRY_PARITY. The first
choice of the device tells whether the entry's parity check fails. -/
def Dev.tabReadCmd (d : Dev) (c : CmdRef) (x : Cmd) (io : Io) (search : Bool) : Dev :=
  match tabForm x with
  | some o => d.badOp c o
  | none =>
    let n := x.fld 18 0 16
    match (if x.fld 17 0 1 = 1 then some 0 else ioRecord io n) with
    | none => d.fail c stTimeout
    | some r => match d.tabLook c x r search with
      | .error f => d.fail c f.st f.detail
      | .ok (i, img) =>
        if ioChoice io 0 = 1 then d.fail c stEntryParity i
        else
          let t := x.fld 16 0 8
          let rl := if t = tMac then d.macReloc (x.fld 17 4 2) i else d.tabReloc t i
          (d.hostOut c.ep (x.fld 32 0 64) (leBytes n img) io.wrErr).okBuf c io.wrErr 32 i rl

/-- OP_TABLE_READ (06 R194). -/
def doOpTableRead (c : CmdRef) (io : Io) (d : Dev) : Dev :=
  d.step1 c (isOp 0x11) fun d x => d.tabReadCmd c x io false

/-- OP_TABLE_SEARCH (06 R194). -/
def doOpTableSearch (c : CmdRef) (io : Io) (d : Dev) : Dev :=
  d.step1 c (isOp 0x12) fun d x => d.tabReadCmd c x io true

/-! ### Bulk lists (06 R195) -/

/-- One element of a list: its status, or none where it has gone to the learn ring. -/
def Dev.bulkElem (d : Dev) (c : CmdRef) (x : Cmd) (el : List Byte) (place : Option Nat) : Option Nat × Dev :=
  let h := leNat (el.take 8)
  let op := bits h 0 2
  let byIndex := bits h 2 1 = 1
  let q : TabReq := {
    c := c, p := x.polder, t := x.fld 16 0 8, byIndex := byIndex, gen := decide (x.fld 17 1 1 = 1), mbb := decide (x.fld 17 2 1 = 1) && decide (op = 0)
    index := bits h 32 32, place := place }
  let r0 := leNat (el.drop 8)
  let r := r0 % 2 ^ (8 * recLen q.t r0)
  if 1 < op ∨ bits h 3 29 ≠ 0 ∨ (!byIndex ∧ q.index ≠ 0) ∨ (q.t = tTcam ∧ q.mbb) ∨
      ((op = 0 ∨ !byIndex) ∧ el.length < 8 + recLen q.t r0) then (some stBadOperand, d)
  else if q.t = tMac then
    if byIndex ∨ q.gen ∨ q.mbb ∨ (op = 0 ∧ !recordOk tMac 0 r) then (some stBadOperand, d)
    else (none, d.lrnStart c (if op = 0 then .hostPlace else .hostDelete) (BitVec.ofNat 256 r) q.p)
  else match (if op = 0 then d.tabWrite q r else d.tabDelete q r) with
    | .error f => (some f.st, if f.quota then d.liveMs (0x80 + 8 * q.p) else d)
    | .ok (_, d) => (some stOk, d)

/-- Applies the elements of one step, until the command is over or an element is on the ring. -/
def Dev.bulkRun (d : Dev) (c : CmdRef) (x : Cmd) (stride : Nat) : Nat → List Byte → Bulk → Bool × Bulk × Dev
  | 0, _, b => (false, b, d)
  | n + 1, bs, b =>
    if b.past x then (false, b, d)
    else match d.bulkElem c x (bs.take stride) none with
      | (none, d) => (true, b, d)
      | (some st, d) => bulkRun d c x stride n (bs.drop stride) (b.count st)

/-- OP_TABLE_BULK: one step covers as many elements as the bytes that its DMA read returned hold (06 R195). -/
def doOpTableBulk (c : CmdRef) (io : Io) (d : Dev) : Dev :=
  d.step1 c (fun x => isOp 0x14 x && decide (x.scratch.length ≤ 5)) fun d x =>
    let t := x.fld 16 0 8
    let stride := x.fld 18 0 16
    let count := x.fld 20 0 32
    if !isTable t then d.badOp c 16
    else if stride % 8 ≠ 0 ∨ stride < 8 + recLen t 0 then d.badOp c 18
    else if count = 0 ∨ 1048576 < count then d.badOp c 20
    else
      let b := Bulk.ofList x.scratch
      match io.rd with
      | none => d.fail c stTimeout 0 (pack [(0, 32, b.applied), (32, 32, b.failed)])
      | some bs =>
        let n := min (count - b.pos) (max 1 (bs.length / stride))
        match d.bulkRun c x stride n bs b with
        | (true, b, d) => d.modCmd c (fun y => { y with scratch := b.toList ++ [1] })
        | (false, b, d) => d.parityAll.bulkNext c x b

/-! ### Scans and audits (06 R196) -/

/-- The entries of copy `quad` at positions from `start` to below `stop` that belong to the caller's polders: position,
record and the key to look up elsewhere. A default action stands at position 8 × port + class. -/
def Dev.walk (d : Dev) (mine : Nat → Bool) (t quad start stop : Nat) : List (Nat × Nat) :=
  if t = tDefault then
    d.portList.flatMap (fun l => (List.range 6).filterMap (fun k =>
      let i := 8 * l + k
      if (d.lanePolder l).any mine && decide (start ≤ i ∧ i < stop) then
        some (i, l + 1024 * k + (d.defaultEntry l k).toNat * 2 ^ 64) else none))
  else if t = tMac then
    (d.quad quad).ents.filterMap (fun x => match x.2 with
      | some e => if e.valid && mine e.polder && decide (start ≤ x.1 ∧ x.1 < stop) then some (x.1, d.macImage quad x.1 e) else none
      | none => none)
  else (d.tabList t).filterMap (fun x =>
    if mine x.2.polder && !x.2.bad.testBit quad && decide (start ≤ x.1 ∧ x.1 < stop) then some (x.1, d.readImage t x.1 x.2) else none)

/-- The fields of a MAC record that an audit compares (07 R212). -/
def macCompared (r : Nat) : Nat := r &&& pack [(3, 3, 7), (8, 2, 3), (32, 11, 2047)]

/-- PRESENT and DIFFER of an entry of copy `quad` (06 R196). -/
def Dev.auditMasks (d : Dev) (t quad i r : Nat) : Nat × Nat :=
  (List.range 4).foldl (fun (m : Nat × Nat) q =>
    if t = tMac then
      match d.macAt quad i with
      | none => m
      | some e => match d.macFind q e.polder e.domain e.mac with
        | some (j, f) =>
          if !f.valid then m
          else (m.1 + 2 ^ q, if macCompared (d.macImage q j f) = macCompared r then m.2 else m.2 + 2 ^ q)
        | none => m
    else if t = tDefault then (m.1 + 2 ^ q, m.2)
    else match d.tab t i with
      | some e => if e.bad.testBit q then m else (m.1 + 2 ^ q, m.2)
      | none => m) (0, 0)

/-- Elements of a walk as far as `room` bytes go: their bytes, how many, and the position where the room ended. -/
def walkOut (t : Nat) (masks : Nat → Nat → Nat × Nat) (audit : Bool) : List (Nat × Nat) → Nat → List Byte × Nat × Option Nat
  | [], _ => ([], 0, none)
  | (i, r) :: rest, room =>
    let m := masks i r
    if audit && decide (m.1 = 15 ∧ m.2 = 0) then walkOut t masks audit rest room
    else
      let n := recLen t r
      if room < 8 + n then ([], 0, some i)
      else
        let e := leBytes 4 i ++ [BitVec.ofNat 8 (if audit then m.1 + 16 * m.2 else 0), 0, 0, 0] ++ leBytes n r
        let o := walkOut t masks audit rest (room - (8 + n))
        (e ++ o.1, o.2.1 + 1, o.2.2)

/-- One step of a walk; the first choice of the device says how many positions it covers (0: the rest). -/
def Dev.walkStep (d : Dev) (c : CmdRef) (x : Cmd) (io : Io) (audit : Bool) : Dev :=
  let t := x.fld 16 0 8
  let quad := x.fld 17 4 2
  let start := x.fld 20 0 32
  let stop := start + x.fld 24 0 32
  if !isTable t then d.badOp c 16
  else
    let pos := x.scratch.getD 0 start
    let wrote := x.scratch.getD 1 0
    let used := x.scratch.getD 2 0
    let err := decide (x.scratch.getD 3 0 = 1) || io.wrErr
    let upTo := if ioChoice io 0 = 0 then stop else min stop (pos + ioChoice io 0)
    let o := walkOut t (d.auditMasks t quad) audit (d.walk (fun p => d.mayAs c (some p)) t quad pos upTo) (x.fld 40 0 32 - used)
    let d := if o.1.isEmpty then d else d.hostOut c.ep (x.fld 32 0 64 + used) o.1 io.wrErr
    match o.2.2 with
    | some i => d.okBuf c err 32 (wrote + o.2.1) (i + 2 ^ 32)
    | none =>
      if stop ≤ upTo then d.okBuf c err 32 (wrote + o.2.1) (stop % 2 ^ 32)
      else d.again c [upTo, wrote + o.2.1, used + o.1.length, b2n err]

/-- OP_TABLE_AUDIT (06 R196). -/
def doOpTableAudit (c : CmdRef) (io : Io) (d : Dev) : Dev := d.step1 c (isOp 0x15) fun d x => d.walkStep c x io true

/-- OP_TABLE_SCAN (06 R196). -/
def doOpTableScan (c : CmdRef) (io : Io) (d : Dev) : Dev := d.step1 c (isOp 0x16) fun d x => d.walkStep c x io false

/-! ### Meanings -/

/-- RELOCATION_MOVE (R223). -/
def execRelocationMove (quad : Nat) (table : Nat) (path : List Nat) (s : State) : Host.Outcome State Fault Refusal :=
  .next { s with dev := doRelocationMove quad table path s.dev }

/-- OP_TABLE_WRITE (R193). -/
def execOpTableWrite (c : CmdRef) (io : Io) (s : State) : Host.Outcome State Fault Refusal :=
  .next { s with dev := doOpTableWrite c io s.dev }

/-- OP_TABLE_READ (R194). -/
def execOpTableRead (c : CmdRef) (io : Io) (s : State) : Host.Outcome State Fault Refusal :=
  .next { s with dev := doOpTableRead c io s.dev }

/-- OP_TABLE_SEARCH (R194). -/
def execOpTableSearch (c : CmdRef) (io : Io) (s : State) : Host.Outcome State Fault Refusal :=
  .next { s with dev := doOpTableSearch c io s.dev }

/-- OP_TABLE_DELETE (R194). -/
def execOpTableDelete (c : CmdRef) (io : Io) (s : State) : Host.Outcome State Fault Refusal :=
  .next { s with dev := doOpTableDelete c io s.dev }

/-- OP_TABLE_BULK (R195). -/
def execOpTableBulk (c : CmdRef) (io : Io) (s : State) : Host.Outcome State Fault Refusal :=
  .next { s with dev := doOpTableBulk c io s.dev }

/-- OP_TABLE_AUDIT (R196). -/
def execOpTableAudit (c : CmdRef) (io : Io) (s : State) : Host.Outcome State Fault Refusal :=
  .next { s with dev := doOpTableAudit c io s.dev }

/-- OP_TABLE_SCAN (R196). -/
def execOpTableScan (c : CmdRef) (io : Io) (s : State) : Host.Outcome State Fault Refusal :=
  .next { s with dev := doOpTableScan c io s.dev }

end Sys2Proof.Machine
end

