-- ==== Sys2Proof/Machine/Spill.lean ====
section
/-! DEFINITION. The Spillway (chapter 11): segments, the writes and reads of flooded queues and long-reach queues,
memory errors, the CXL ports, OP_SPILL_SET. -/
namespace Sys2Proof.Machine

/-! ### Segments (11 R332, R335, R336) -/

/-- The tier of a segment: 0 for HBM, 1 + i for CXL port i. -/
def segTier (s : Nat) : Nat := s / 2 ^ 21
/-- Cells that a segment holds. -/
def segCells (s : Nat) : Nat := if segTier s = 0 then 1024 else 960

/-- The basin address of a slot of a segment. -/
def Dev.basinAddr (d : Dev) (s slot : Nat) : Nat :=
  let i := s % 2 ^ 21
  if segTier s = 0 then
    (d.spw.map.ledger + d.spw.map.telemetry + d.spw.map.longReach) * 2 ^ 30 + i * 262144 + slot * 256
  else 0x010000000000 + (segTier s - 1) * 0x008000000000 + i * 262144 + (slot / 4) * 1088 + (slot % 4) * 256

/-- The HBM stack of a basin address. -/
def stackOf (addr : Nat) : Nat := addr / 4096 % 4

/-- The segment and slot of cell `i` of a packet that begins in `slot` of the first of its segments. -/
def placeOf : List Nat → Nat → Nat → Option (Nat × Nat)
  | [], _, _ => none
  | s :: t, slot, i => if slot + i < segCells s then some (s, slot + i) else placeOf t 0 (slot + i - segCells s)

/-- The tier that supplies the next segment, by free segments and by the write backlogs in cells (11 R336). -/
def Dev.pickTier (d : Dev) (backlog : List Nat) : Option Nat :=
  let b (t : Nat) : Nat := backlog.getD t 0
  if d.tierFree 0 && decide (b 0 < 4096) then some 0
  else
    let ports := [1, 2, 3, 4].filter d.tierFree
    match ports.foldl (fun (best : Option Nat) t =>
      match best with
      | some u => if b t < b u then some t else some u
      | none => some t) none with
    | some t => some t
    | none => if d.tierFree 0 then some 0 else none

/-- The lowest free segment of a tier. -/
def Dev.newSeg (d : Dev) (t : Nat) : Option Nat :=
  ((List.range (d.tierUsed t + 1)).map (fun i => t * 2 ^ 21 + i)).find? (fun s => !d.segBusy s)

/-- A queue's next cell needs a new segment. -/
def Queue.wantsSeg (q : Queue) : Bool :=
  match q.chain.getLast? with
  | none => true
  | some s => decide (segCells s ≤ q.fill)

/-- One cell of a queue is written behind its chain: the segment that takes it. None: no segment is obtainable. -/
def Dev.writeCell (d : Dev) (k : Nat) (backlog : List Nat) : Option (Nat × Dev) :=
  let q := d.queue k
  if q.wantsSeg then
    if !d.segObtainable k then none
    else match (d.pickTier backlog).bind d.newSeg with
      | none => none
      | some s => some (s, ((d.modQueue k (fun q => { q with chain := q.chain ++ [s], fill := 1 })).refreshFull))
  else some (q.chain.getLast?.getD 0, d.modQueue k (fun q => { q with fill := q.fill + 1 }))

/-- `n` cells are written: the segments that take them. -/
def Dev.writeCells (backlog : List Nat) (k : Nat) : Nat → List Nat → Dev → Option (List Nat × Dev)
  | 0, segs, d => some (segs, d)
  | n + 1, segs, d =>
    match d.writeCell k backlog with
    | none => none
    | some (s, d) =>
      Dev.writeCells backlog k n (if segs.getLast? = some s then segs else segs ++ [s]) (d.bump .spillWrBytes (segTier s) 256)

/-- A queue's segments that none of its packets still needs are freed; the one being filled stays (11 R339). -/
def Dev.trimChain (d : Dev) (k : Nat) : Dev :=
  let q := d.queue k
  let need := ((q.ents.filter d.partRead).map Ent.segs).flatten ++
    (((d.txs (destOf k).port).filter (d.partSent k)).map (fun y => y.ent.segs)).flatten
  let keep (s : Nat) : Bool := need.contains s || (decide (q.chain.getLast? = some s) && decide (q.fill < segCells s))
  let gone := q.chain.filter (fun s => !keep s)
  if gone.isEmpty then d
  else gone.foldl Dev.freeSeg (d.modQueue k (fun q => { q with chain := q.chain.filter keep }))

/-! ### Basin writes (11 R338, R339, R347) -/

/-- Every copy's reference on a packet's cells is released by the Spillway. -/
def Dev.releaseCopies (d : Dev) (x : Pkt) : Dev :=
  (List.range x.copies).foldl (fun d _ => d.releaseAll partySpill x.acct x.cells) d

/-- The link records of the segments that a packet of queue `k` is written into: each is the next of the one before, and the first has
its FIRST_SOP at the packet's slot where no packet starts in it yet (11 R335). -/
def Dev.linkSegs (d : Dev) (k : Nat) (before : Option Nat) (segs : List Nat) (slot : Nat) : Dev :=
  let rec_ (s : Nat) : SegLink := (tget d.spw.links none s).getD { queue := k }
  let first (s : Nat) : SegLink :=
    if segs.head? = some s ∧ (rec_ s).firstSop = none then { rec_ s with firstSop := some slot } else rec_ s
  let links := segs.foldl (fun t s => tset t none s (some (first s))) d.spw.links
  let chain := (match before with
    | some b => if segs.head? = some b then [] else [b]
    | none => []) ++ segs
  { d with spw := { d.spw with links := (chain.zip chain.tail).foldl (fun t y =>
      tset t none y.1 ((tget t none y.1).map (fun (r : SegLink) => { r with next := some y.2 }))) links } }

/-- The crossing headers that are stored with a packet's cells, the check bits in [119:111] (11 R335). The spec names no code for the
check bits: free values. A header that crosses no plane keeps PLANE and SEQ 0 (DESIGN CHOICE, assumption 136). -/
def Dev.spillHeads (d : Dev) (k pid : Nat) (x : Pkt) : List (BitVec 128) × Dev :=
  (List.range x.cells.length).foldl (fun (acc : List (BitVec 128) × Dev) i =>
    let c := { crossOf pid x 0 i (x.cells.getD i 0) with
      dst := pipeOf (destOf k).port, stream := 16, mc := false, ct := false, dest := (destOf k).port + 1024 * (destOf k).qnum }
    let r := acc.2.free 9
    (acc.1 ++ [c.header ||| BitVec.ofNat 128 (r.1 * 2 ^ 111)], r.2)) ([], d)

/-- The oldest staged packet of a flooded queue, and its place in the queue. -/
def Dev.stagedHead (d : Dev) (k : Nat) : Option (Nat × Ent × Pkt) :=
  let q := d.queue k
  if !q.flooded then none
  else (q.ents.findIdx? (fun e => decide (e.part = .staging))).bind (fun i =>
    q.ents[i]?.bind (fun e => (d.pkt? e.pid).map (fun x => (i, e, x))))

/-- The oldest staged packet of a flooded queue enters BASIN; nothing happens where no segment is obtainable for it. -/
def Dev.writeQueue (d : Dev) (k : Nat) (backlog : List Nat) : Dev :=
  match d.stagedHead k with
  | none => d
  | some (i, e, x) =>
    let q := d.queue k
    let slot := if q.wantsSeg then 0 else q.fill
    match d.writeCells backlog k x.need [] with
    | none => d
    | some (segs, d) =>
      let h := d.spillHeads k e.pid x
      let e' : Ent := { e with part := .basin, segs := segs, slot := slot, heads := h.1 }
      let d := (h.2.linkSegs k q.chain.getLast? segs slot).modQueue k (fun q => { q with ents := q.ents.set i e' })
      let d := ((d.bump .spillPackets k).peak .basinPeak k (d.queue k).chain.length).releaseAll partySpill x.acct x.cells
      if x.copies = 1 then d.modPkt e.pid (fun y => { y with cells := [] }) else d

def Dev.modLrq (d : Dev) (a c : Nat) (f : Lrq → Lrq) : Dev :=
  { d with spw := { d.spw with lrqs := tmod d.spw.lrqs {} (8 * a + c) f } }

/-- Bytes of a frame's record in an LRQ (11 R346). -/
def Pkt.record (x : Pkt) : Nat := x.len + 32

/-- The oldest frame staged for a long-reach class is wholly in the buffer, and may be written. -/
def Dev.lrqReady (d : Dev) (a c : Nat) : Option (Nat × Pkt) :=
  ((d.lrq a c).staged.head?.bind (fun pid => (d.pkt? pid).map (fun x => (pid, x)))).filter (fun y =>
    y.2.whole && !y.2.badFcs && decide (y.2.written = y.2.need) && y.2.cells.all (fun i => (d.cell i).confirmed))

/-- The oldest staged frame of a long-reach class enters its LRQ. -/
def Dev.writeLrq (d : Dev) (a c : Nat) : Dev :=
  match d.lrqReady a c with
  | none => d
  | some (pid, x) =>
    let d := d.modLrq a c (fun l =>
      { l with staged := l.staged.tail, frames := l.frames ++ [pid], stagedBytes := l.stagedBytes - x.record, bytes := l.bytes + x.record })
    let d := (d.releaseCopies x).modPkt pid (fun y => { y with cells := [] })
    (((d.bump .spillWrBytes 0 x.record).peak .lrqPeak (8 * a + c) (d.lrq a c).bytes).judge a)

/-- A flooded queue has a packet to write, and what it needs is obtainable. -/
def Dev.mayWrite (d : Dev) (backlog : List Nat) (k : Nat) : Bool :=
  match d.stagedHead k with
  | some (_, _, x) => (d.writeCells backlog k x.need []).isSome
  | none => false

/-- The queue whose packet is written next: round robin over the egress pipelines, and over the flooded queues of each (11 R345). -/
def Dev.spillTurn (d : Dev) (backlog : List Nat) : Option (Nat × Nat) :=
  let turn (p : Nat) : Option Nat := nextRound 512 (tget d.spw.rrQueue 511 p) (fun i => d.mayWrite backlog (512 * p + i))
  (nextRound 16 d.spw.rrPipe (fun p => (turn p).isSome)).bind (fun p => (turn p).map (fun i => (p, i)))

/-- BASIN_WRITE_COMPLETE: a basin write completes: that of a frame of a long-reach class, which goes ahead, the classes in turn
(DESIGN CHOICE, assumption 136), or else that of the queue whose turn it is. The backlogs, in cells, of HBM and the four CXL ports
decide where a new segment comes from (11 R334, R336, R345). -/
def doBasinWriteComplete (backlog : List Nat) (d : Dev) : Dev :=
  match nextRound 4096 d.spw.rrLrq (fun i => (d.lrqReady (i / 8) (i % 8)).isSome) with
  | some i => ({ d with spw := { d.spw with rrLrq := i } }).writeLrq (i / 8) (i % 8)
  | none => match d.spillTurn backlog with
    | some (p, i) =>
      ({ d with spw := { d.spw with rrPipe := p, rrQueue := tset d.spw.rrQueue 511 p i } }).writeQueue (512 * p + i) backlog
    | none => d

/-! ### Discards in the basin (11 R349, R350) -/

/-- Drops the packets of a queue that satisfy a condition, counted against the egress port. -/
def Dev.dropEnts (d : Dev) (k : Nat) (sel : Ent → Bool) (c : Ctr) : Dev :=
  ((d.queue k).ents.filter sel).foldl (fun d e =>
    (d.modQueue k (fun q => { q with ents := q.ents.filter (fun f => decide (f ≠ e)) })).copyDrop partySpill e (destOf k) c
      (destOf k).port) d

/-- Frames of a queue that are being transmitted and satisfy a condition are discarded, and end stomped. -/
def Dev.dropSent (d : Dev) (k : Nat) (sel : Tx → Bool) (c : Ctr) : Dev :=
  let p := (destOf k).port
  (d.txs p).foldl (fun d y =>
    if decide (y.dest.key = k) && !y.lost && sel y then
      let d := (d.setTxs p ((d.txs p).map (fun z => if z = y then z.abandon else z))).bump c p
      match d.pkt? y.ent.pid with
      | some x => d.meter x (pipeOf p) 6 x.len
      | none => d
    else d) d

/-- Packets of a queue, queued or being sent, that satisfy a condition and are not wholly back. -/
def Dev.countPart (d : Dev) (k : Nat) (sel : Ent → Bool) : Nat :=
  ((d.queue k).ents.filter (fun e => d.partRead e && sel e)).length +
    ((d.txs (destOf k).port).filter (fun y => d.partSent k y && sel y.ent)).length

/-- Discards those packets. -/
def Dev.dropPart (d : Dev) (k : Nat) (sel : Ent → Bool) (c : Ctr) : Dev :=
  (d.dropSent k (fun y => d.partSent k y && sel y.ent) c).dropEnts k (fun e => d.partRead e && sel e) c

/-- The staged packets of a queue whose BASIN is gone are linked on die. -/
def Dev.linkStaged (d : Dev) (k : Nat) : Dev :=
  d.modQueue k (fun q => { q with ents := q.ents.map (fun e => if e.part = .staging then { e with part := .head } else e) })

/-! ### Read-back (11 R340, R349) -/

/-- The packet of queue `k` whose next cell is read: a frame on its way out, else the first one not wholly back. -/
def Dev.readNext (d : Dev) (k : Nat) : Option (Ent × Bool) :=
  match (d.txs (destOf k).port).find? (d.partSent k) with
  | some y => some (y.ent, true)
  | none => ((d.queue k).ents.find? d.partRead).map (fun e => (e, false))

/-- Cells of a queue in RETURN. -/
def Queue.returned (q : Queue) : Nat := q.ents.foldl (fun n e => n + e.own.length) 0

/-- Takes a cell under account 532, confirmed. -/
def Dev.takeReturn (d : Dev) (eop : Bool) (prev : Option Nat) : Option (Nat × Dev) :=
  (d.grantCell 532 0 1 true eop prev).map (fun r => (r.1, r.2.modCell r.1 (fun x => { x with confirmed := true })))

/-- The next cell of a queue is read back, if account 532 takes it. -/
def Dev.readBack (d : Dev) (k : Nat) : Option Dev :=
  match d.readNext k with
  | none => none
  | some (e, sent) =>
    let need := d.entCells e
    let i := e.own.length
    if !sent && decide (1024 ≤ (d.queue k).returned) then none
    else match d.takeReturn (decide (i + 1 = need)) e.own.getLast?, placeOf e.segs e.slot i with
      | some (c, d), some (s, _) =>
        let d := d.bump .spillRdBytes (segTier s) 256
        let e' : Ent := { e with part := .ret, own := e.own ++ [c] }
        let p := (destOf k).port
        let d := if sent then
            let d := d.setTxs p ((d.txs p).map (fun y => if y.dest.key = k ∧ y.ent = e then { y with ent := e' } else y))
            match d.pkt? e.pid with
            | some x => d.readCells p (destOf k) e.pid x [(i, c)]
            | none => d
          else d.modQueue k (fun q => { q with ents := q.ents.map (fun f => if f = e then e' else f) })
        some (d.trimChain k)
      | _, _ => none

/-- Up to `n` cells of a queue are read back. -/
def Dev.readMany (k : Nat) : Nat → Dev → Dev
  | 0, d => d
  | n + 1, d => match d.readBack k with
    | some d => Dev.readMany k n d
    | none => d

/-- An error is corrected on an HBM stack (11 R349). -/
def Dev.hbmFixed (d : Dev) (stack : Nat) : Dev := (d.bump .basinCe stack).liveMs (0xC04 + stack)

/-- An uncorrectable cell: its event, the source of its tier, and the segment condemned where the error lasts. -/
def Dev.basinBad (d : Dev) (id s slot : Nat) (lasting : Bool) : Dev :=
  let a := d.basinAddr s slot
  let src := if segTier s = 0 then 0xC08 + stackOf a else 0xC14 + (segTier s - 1)
  let d := (d.liveMs src).modSrc src (fun x => { x with lasting := lasting })
  let d := d.record Ev.basinEcc .shared (some src) (dat [(0, 1, segTier s), (1, 6, a), (7, 2, id), (9, 1, b2n lasting)])
  if lasting && !d.spw.condemned.contains s then { d with spw := { d.spw with condemned := s :: d.spw.condemned } } else d

/-- The uncorrectable link record of the queue's first segment: what is still in the basin is lost (11 R349). -/
def Dev.chainBreak (d : Dev) (k : Nat) : Dev :=
  let n := d.countPart k (fun _ => true)
  let seg := (d.queue k).chain.headD 0
  let d := d.dropPart k (fun _ => true) .drBasinEcc
  let rest := (d.queue k).chain.tail
  let d := { d with spw := { d.spw with stray := d.spw.stray ++ rest } }
  let d := ((d.modQueue k (fun q => { q with chain := q.chain.take 1 })).linkStaged k).dry k
  (d.liveMs 0xC23).record Ev.chainBreak .shared (some 0xC23) (dat [(0, 2, k), (2, 3, seg), (5, 4, n)])

/-- A queue's basin state word is lost: BASIN is detached, and the walker counts its packets (11 R339). -/
def Dev.qstateLost (d : Dev) (k : Nat) : Dev :=
  let d := d.dropSent k (d.partSent k) .drBasinEcc
  let d := d.dropEnts k (fun e => decide (e.part = .ret) && d.partRead e) .drBasinEcc
  let lost := (d.queue k).ents.filter (fun e => decide (e.part = .basin))
  let d := d.modQueue k (fun q => { q with ents := q.ents.filter (fun e => decide (e.part ≠ .basin)) })
  let d := { d with spw := { d.spw with orphans := d.spw.orphans ++ lost.map (fun e => (k, e)) } }
  ((d.linkStaged k).detach k).liveMs 0xC22

/-- BASIN_READ_COMPLETE: up to `n` cells of a queue's basin arrive in RETURN, or the next one meets an error. With an HBM
stack failed, nothing in HBM can be read (11 R351). -/
def doBasinReadComplete (k n : Nat) (err : BasinErr) (d : Dev) : Dev :=
  if 8192 ≤ k then d
  else if err = .state then (if (d.queue k).flooded then d.qstateLost k else d)
  else match d.readNext k with
  | none => d
  | some (e, sent) => match placeOf e.segs e.slot e.own.length with
    | none => d
    | some (s, slot) =>
      let err := if d.spw.stacksDown ≠ 0 ∧ segTier s = 0 then BasinErr.data true else err
      match err with
      | .clean => (Dev.readMany k n d).settle k
      | .corrected =>
        let d := if segTier s = 0 then d.hbmFixed (stackOf (d.basinAddr s slot)) else d
        (Dev.readMany k n d).settle k
      | .data lasting =>
        let d := d.basinBad k s slot lasting
        let d := if sent then d.dropSent k (fun y => decide (y.ent = e)) .drBasinEcc else d.dropEnts k (fun f => decide (f = e)) .drBasinEcc
        (d.trimChain k).settle k
      | .header lasting =>
        let d := (d.basinBad k s slot lasting).dropPart k (fun f => decide (f = e) || decide (f.segs.head? = some s)) .drBasinEcc
        (d.trimChain k).settle k
      | .link => d.chainBreak k
      | .state => d.qstateLost k

/-- SEGMENT_WALKER_RETURN: the walker returns the oldest detached segment (11 R342). -/
def doSegmentWalkerReturn (d : Dev) : Dev :=
  match d.spw.detached with
  | [] => d
  | s :: rest =>
    let d := { d with spw := { d.spw with detached := rest } }
    let mine := d.spw.orphans.filter (fun o => decide (o.2.segs.head? = some s))
    let d := { d with spw := { d.spw with orphans := d.spw.orphans.filter (fun o => decide (o.2.segs.head? ≠ some s)) } }
    (mine.foldl (fun (d : Dev) o => d.copyDrop partySpill o.2 (destOf o.1) .drBasinEcc (destOf o.1).port) d).freeSeg s

/-! ### Long-reach queues (11 R346-R348) -/

/-- `n` cells under account 532 for a frame read back from an LRQ. -/
def Dev.takeMany : Nat → List Nat → Dev → Option (List Nat × Dev)
  | 0, cs, d => some (cs, d)
  | n + 1, cs, d => match d.takeReturn (decide (n = 0)) cs.getLast? with
    | some (c, d) => Dev.takeMany n (cs ++ [c]) d
    | none => none

/-- The basin address of a record of an LRQ, which the spec does not place within the LONG_REACH region. -/
def Dev.lrqAddr (d : Dev) : Nat × Dev :=
  let (v, d) := d.free 36
  ((d.spw.map.ledger + d.spw.map.telemetry) * 2 ^ 30 + v % max 1 (d.spw.map.longReach * 2 ^ 30), d)

/-- LRQ_RETURN: the oldest frame of a long-reach queue is read back under account 532 and admitted to the destinations
that it was resolved to, as they stand now (11 R348). An error discards it (11 R349). -/
def doLrqReturn (port cls : Nat) (err : BasinErr) (d : Dev) : Dev :=
  match (d.lrq port cls).frames with
  | [] => d
  | pid :: rest => match d.pkt? pid with
    | none => d
    | some x =>
      let leave (d : Dev) : Dev := (d.modLrq port cls (fun l => { l with frames := rest, bytes := l.bytes - x.record })).judge port
      let bad (lasting : Bool) (d : Dev) : Dev :=
        let (v, d) := d.lrqAddr
        let src := 0xC08 + stackOf v
        let d := (d.liveMs src).modSrc src (fun y => { y with lasting := lasting })
        let d := d.record Ev.basinEcc .shared (some src)
          (dat [(0, 1, 0), (1, 6, v), (7, 2, 2 ^ 15 + 8 * port + cls), (9, 1, b2n lasting)])
        leave (d.discardPkt pid partySpill .drBasinEcc (fun y _ => y.first))
      let err := if d.spw.stacksDown ≠ 0 then BasinErr.data true else err
      match err with
      | .data lasting | .header lasting => bad lasting d
      | .link | .state => bad false d
      | .clean | .corrected =>
        match Dev.takeMany x.need [] d with
        | none => d
        | some (cs, d) =>
          let r := x.waiting.foldl (fun (acc : List Dest × Dev) t =>
            match acc.2.copyRefused x t with
            | some c =>
              let d := acc.2.modPkt pid (fun y => { y with waiting := y.waiting.erase t })
              (acc.1, d.copyDrop partySpill { pid := pid, part := .basin } t c.1 c.2)
            | none => (acc.1 ++ [t], acc.2)) ([], d)
          let ts := r.1
          let d := if err = .corrected then
              let (v, d) := r.2.lrqAddr
              d.hbmFixed (stackOf v)
            else r.2
          let d := (leave d).bump .spillRdBytes 0 x.record
          if ts.isEmpty then d.releaseAll partySpill 532 cs
          else
            let d := cs.foldl (fun d c => d.modCell c (fun y => { y with ref := ts.length })) d
            let d := ts.foldl (fun d t => d.floodTest t.key) d
            let x' : Pkt := { x with acct := 532, cls := 0, cells := cs, written := x.need, lrq := false, waiting := [] }
            let d := d.modPkt pid (fun y => { y with acct := 532, cls := 0, cells := cs, written := x.need, lrq := false, waiting := [] })
            let d := match x.repl with
              | some i => { d with swc := { d.swc with repl := tmod d.swc.repl none i (fun o => o.map (fun y => { y with head := cs.headD 0 })) } }
              | none => d
            ts.foldl (fun d t => d.enqueue pid x' t false) d

/-! ### CXL ports and HBM stacks (11 R350-R353) -/

def Dev.modCxl (d : Dev) (i : Nat) (f : Cxl → Cxl) : Dev := { d with spw := { d.spw with cxl := tmod d.spw.cxl {} i f } }

/-- FS_SPW_CXL_ABSENT of each port: it is enabled, and its enumeration has failed (11 R356). -/
def Dev.cxlAbsent (d : Dev) : Dev := (List.range 4).foldl (fun d i => d.live (0xC1C + i) (d.spw.cxlEn.testBit i && (d.cxl i).failed)) d

/-- CXL_PORT_LOSS: a port is lost; cause 0 link, 1 no response, 2 fatal error. -/
def doCxlPortLoss (port cause : Nat) (d : Dev) : Dev :=
  if 4 ≤ port ∨ 3 ≤ cause ∨ !(d.cxl port).inService then d
  else
    let ks := (d.dp.queues.map (fun q => q.1)).filter (fun k => (d.queue k).chain.any (fun s => decide (segTier s = 1 + port)))
    let n := ks.foldl (fun n k => n + d.countPart k (fun _ => true)) 0
    let d := ks.foldl (fun d k => ((d.dropPart k (fun _ => true) .drBasinLinkLost).linkStaged k).detach k) d
    let d := d.modCxl port (fun x => { x with inService := false, lost := true })
    let d := (d.setLive (0xC10 + port)).clearLive (0xC18 + port)
    (d.refreshFull).record Ev.cxlLost .shared (some (0xC10 + port)) (dat [(0, 1, port), (1, 1, cause), (2, 2, ks.length), (4, 4, n)])

/-- CXL_ENUMERATION: regulator 1 begins to enumerate a port for which that has been asked. -/
def doCxlEnumeration (port : Nat) (d : Dev) : Dev :=
  if (d.cxl port).enumerating && decide ((d.cxl port).step = 0) && d.regRuns 1 then
    d.modCxl port (fun x => { x with step := 1, perst := false })
  else d

/-- CXL_ENUMERATION_DONE: the enumeration fails at a step of R352, or the port is placed in service with the expander's
capacity in MiB at a link width and rate. -/
def doCxlEnumerationDone (port failed capMib width rate : Nat) (d : Dev) : Dev :=
  if !(d.cxl port).enumerating || decide ((d.cxl port).step = 0) || decide (6 < failed) then d
  else
    let okLink := decide ((width = 16 ∨ width = 8) ∧ (rate = 64 ∨ rate = 32))
    let failed := if failed = 0 ∧ !okLink then 2 else failed
    let lost := (d.cxl port).lost
    if failed ≠ 0 then
      let d := (d.modCxl port (fun x => { x with enumerating := false, step := 0, failed := true })).cxlAbsent
      d.record Ev.cxlEnumFailed .shared (some (0xC1C + port)) (dat [(0, 1, port), (1, 1, failed)])
    else
      let cap := min capMib 524288 / 256 * 256
      let d := d.modCxl port (fun x =>
        { x with enumerating := false, failed := false, step := 0, inService := true, lost := false, capMib := cap, width := width, rate := rate })
      let d := (d.clearLive (0xC10 + port)).cxlAbsent
      let d := d.live (0xC18 + port) (decide (width ≠ 16 ∨ rate ≠ 64))
      let d := (d.refreshFull).record Ev.cxlEnum .shared none (dat [(0, 1, port), (1, 2, cap / 256), (3, 1, width), (4, 1, rate)])
      if lost then d.record Ev.cxlRestored .shared none (dat [(0, 1, port)]) else d

/-- Ports are to be enumerated (11 R352); one that is in service needs it no more. -/
def Dev.cxlAsk (d : Dev) (mask : Nat) : Dev :=
  (setBits mask 4).foldl (fun d i =>
    if (d.cxl i).inService || (d.cxl i).enumerating then d else d.modCxl i (fun x => { x with enumerating := true, step := 0 })) d

/-- The enabled ports are enumerated on entry to PROVISIONING; a lost one returns on RESTORE alone (11 R351, R352; DEDUCED, assumption
136). -/
def Dev.cxlEnter (d : Dev) : Dev := d.cxlAsk (maskOf ((setBits d.spw.cxlEn 4).filter (fun i => !(d.cxl i).lost)))

/-- BASIN_AUDIT: regulator 1's audit visits a segment and reclaims it if no chain reaches it (11 R349). -/
def doBasinAudit (seg : Nat) (d : Dev) : Dev :=
  if d.spw.stray.contains seg && d.regRuns 1 then
    ({ d with spw := { d.spw with stray := d.spw.stray.erase seg } }).freeSeg seg
  else d

/-- HBM_STACK_FAILURE: a stack or its controller fails; the contents of every HBM region are lost (11 R351). -/
def doHbmStackFailure (stack : Nat) (d : Dev) : Dev :=
  if 4 ≤ stack then d
  else
    let d := { d with
      spw := { d.spw with stacksDown := d.spw.stacksDown ||| 2 ^ stack }
      esc := { d.esc with archive := [] }
      mrp := { d.mrp with flows := d.mrp.flows.filter (fun f => match f.2 with
        | some x => x.cached
        | none => false) } }
    d.setLive (0xC00 + stack)

/-! ### OP_SPILL_SET (11 R354, R355) -/

/-- OP_SPILL_SET QUEUE. -/
def doOpSpillSetQueue (c : CmdRef) (_io : Io) (d : Dev) : Dev :=
  d.step1 c (isOpAct 0x62 (18, 0, 2) 0) fun d x =>
    let k := x.fld 16 0 13
    let th := x.fld 20 0 16
    if !d.isPort (k / 16) then d.fail c stNotFound
    else if 0 < th ∧ th < 256 then d.badOp c 20
    else
      let mx := if x.fld 24 0 24 = 0 then 0xFFFFFF else x.fld 24 0 24
      (d.modQueue k (fun q => { q with threshold := th, basinMax := mx })).ok c

/-- Σ LR_MIB, with class (a, c) at `mib`. -/
def Dev.lrTotal (d : Dev) (a c mib : Nat) : Nat :=
  d.spw.lrqs.foldl (fun n l => if l.1 = 8 * a + c then n else n + l.2.mib) mib
/-- Σ MAC rates of the ports that have a long-reach class, port `a` among them, in Gb/s. -/
def Dev.lrRate (d : Dev) (a : Nat) : Nat :=
  let ports := (a :: d.spw.lrqs.filterMap (fun l => if 0 < l.2.mib then some (l.1 / 8) else none)).eraseDups
  ports.foldl (fun n p => n + d.macRate p) 0

/-- OP_SPILL_SET LONG_REACH. -/
def doOpSpillSetLongReach (c : CmdRef) (_io : Io) (d : Dev) : Dev :=
  d.step1 c (isOpAct 0x62 (18, 0, 2) 1) fun d x =>
    let a := x.fld 16 0 10
    let k := x.fld 19 0 3
    let mib := x.fld 28 0 16
    let l := d.lrq a k
    if x.fld 16 10 3 ≠ 0 then d.badOp c 16
    else if !d.isPort a then d.fail c stNotFound
    else if !l.frames.isEmpty || (d.acct a).closed.testBit k then d.fail c stWrongMode 0x100
    else if 0 < mib ∧ (d.acct a).hr.getD k 0 < 2048 then d.badOp c 28
    else if d.spw.map.longReach * 1024 < d.lrTotal a k mib then d.fail c stNoRoom 0x300
    else if 0 < mib ∧ 6400 < d.lrRate a then d.fail c stNoRoom 0x400
    else (d.modLrq a k (fun y => { y with mib := mib })).ok c

/-- OP_SPILL_SET READ_QUEUE. -/
def doOpSpillSetReadQueue (c : CmdRef) (_io : Io) (d : Dev) : Dev :=
  d.step1 c (isOpAct 0x62 (18, 0, 2) 2) fun d x =>
    let k := x.fld 16 0 13
    let q := d.queue k
    if !d.isPort (k / 16) then d.fail c stNotFound
    else
      let tiers := (List.range 5).foldl (fun n t => if q.chain.any (fun s => decide (segTier s = t)) then n + 2 ^ t else n) 0
      let staging := q.ents.foldl (fun n e => if e.part = .staging then n + d.entCells e else n) 0
      d.ok c (pack [(0, 1, b2n q.flooded), (1, 24, q.chain.length), (25, 5, tiers)])
        (pack [(0, 32, (q.ents.filter (fun e => decide (e.part = .basin))).length), (32, 21, staging), (53, 11, q.returned)])

/-- OP_SPILL_SET READ_LR. -/
def doOpSpillSetReadLr (c : CmdRef) (_io : Io) (d : Dev) : Dev :=
  d.step1 c (isOpAct 0x62 (18, 0, 2) 3) fun d x =>
    let a := x.fld 16 0 10
    let k := x.fld 19 0 3
    let l := d.lrq a k
    if x.fld 16 10 3 ≠ 0 then d.badOp c 16
    else if !d.isPort a then d.fail c stNotFound
    else
      let shut := !l.frames.isEmpty && (d.acct a).closed.testBit k
      d.ok c (pack [(0, 32, l.bytes), (32, 32, l.frames.length)]) (pack [(0, 16, l.mib), (16, 1, b2n shut)])

/-! ### Meanings -/

/-- OP_SPILL_SET_QUEUE (R355). -/
def execOpSpillSetQueue (c : CmdRef) (io : Io) (s : State) : Host.Outcome State Fault Refusal :=
  .next { s with dev := doOpSpillSetQueue c io s.dev }

/-- OP_SPILL_SET_LONG_REACH (R355). -/
def execOpSpillSetLongReach (c : CmdRef) (io : Io) (s : State) : Host.Outcome State Fault Refusal :=
  .next { s with dev := doOpSpillSetLongReach c io s.dev }

/-- OP_SPILL_SET_READ_QUEUE (R355). -/
def execOpSpillSetReadQueue (c : CmdRef) (io : Io) (s : State) : Host.Outcome State Fault Refusal :=
  .next { s with dev := doOpSpillSetReadQueue c io s.dev }

/-- OP_SPILL_SET_READ_LR (R355). -/
def execOpSpillSetReadLr (c : CmdRef) (io : Io) (s : State) : Host.Outcome State Fault Refusal :=
  .next { s with dev := doOpSpillSetReadLr c io s.dev }

/-- BASIN_WRITE_COMPLETE (R339, R345). -/
def execBasinWriteComplete (backlog : List Nat) (s : State) : Host.Outcome State Fault Refusal :=
  .next { s with dev := doBasinWriteComplete backlog s.dev }

/-- BASIN_READ_COMPLETE (R340). -/
def execBasinReadComplete (k : Nat) (n : Nat) (err : BasinErr) (s : State) : Host.Outcome State Fault Refusal :=
  .next { s with dev := doBasinReadComplete k n err s.dev }

/-- SEGMENT_WALKER_RETURN (R342). -/
def execSegmentWalkerReturn (s : State) : Host.Outcome State Fault Refusal :=
  .next { s with dev := doSegmentWalkerReturn s.dev }

/-- LRQ_RETURN (R348). -/
def execLrqReturn (port : Nat) (cls : Nat) (err : BasinErr) (s : State) : Host.Outcome State Fault Refusal :=
  .next { s with dev := doLrqReturn port cls err s.dev }

/-- CXL_PORT_LOSS (R350). -/
def execCxlPortLoss (port : Nat) (cause : Nat) (s : State) : Host.Outcome State Fault Refusal :=
  .next { s with dev := doCxlPortLoss port cause s.dev }

/-- CXL_ENUMERATION (R352). -/
def execCxlEnumeration (port : Nat) (s : State) : Host.Outcome State Fault Refusal :=
  .next { s with dev := doCxlEnumeration port s.dev }

/-- CXL_ENUMERATION_DONE (R352). -/
def execCxlEnumerationDone (port : Nat) (failed : Nat) (capMib : Nat) (width : Nat) (rate : Nat) (s : State) : Host.Outcome State Fault Refusal :=
  .next { s with dev := doCxlEnumerationDone port failed capMib width rate s.dev }

/-- BASIN_AUDIT (R349). -/
def execBasinAudit (seg : Nat) (s : State) : Host.Outcome State Fault Refusal :=
  .next { s with dev := doBasinAudit seg s.dev }

/-- HBM_STACK_FAILURE (R351). -/
def execHbmStackFailure (stack : Nat) (s : State) : Host.Outcome State Fault Refusal :=
  .next { s with dev := doHbmStackFailure stack s.dev }

end Sys2Proof.Machine
end

