-- ==== Sys2Proof/Machine/Gauge.lean ====
section
/-! DEFINITION. The Tide Gauge (12 R383-R388, R392): samples, intervals, records, export rings and the archive. -/
namespace Sys2Proof.Machine

def Dev.gauge (d : Dev) (p : Nat) : Gauge := tget d.esc.gauges {} p
def Dev.modGauge (d : Dev) (p : Nat) (f : Gauge → Gauge) : Dev :=
  { d with esc := { d.esc with gauges := tmod d.esc.gauges {} p f } }

/-! ### Samples (12 R383, R384) -/

/-- The bin of a depth in cells. -/
def depthBin (n : Nat) : Nat := ((List.range 15).find? (fun k => decide (n < 4 ^ k))).getD 15
/-- The bin of a delay in nanoseconds. -/
def delayBin (n : Nat) : Nat := ((List.range 15).find? (fun k => decide (n < 2 ^ (2 * k + 6)))).getD 15

/-- Adds one to a 32-bit saturating count of a list. -/
def addSat (l : List Nat) (i : Nat) : List Nat := l.set i (min (l.getD i 0 + 1) 0xFFFFFFFF)

/-- A histogram takes a sample. -/
def Hist.take (h : Hist) (depth delay : Nat) : Hist :=
  { h with
    depth := addSat h.depth (depthBin depth), delay := addSat h.delay (delayBin delay)
    depthMax := max h.depthMax depth, delayMax := max h.delayMax delay, samples := min (h.samples + 1) 0xFFFFFFFF }

/-- DELAY of a queue: device time less the enqueue time of its head. -/
def Dev.headDelay (d : Dev) (k : Nat) : Nat :=
  match (d.queue k).ents with
  | [] => 0
  | e :: _ => d.timeNsAll - e.enqNs

/-- The tick at which sample `n` of a port falls: SAMPLE_Q × 250 ns apart from the commit of its OP_GAUGE_SET. -/
def Gauge.due (g : Gauge) (n : Nat) : Nat := g.start + cdiv (n * g.sampleQ * 25) 4

/-- GAUGE_SAMPLE: a port's enabled queues are sampled (12 R383). -/
def doGaugeSample (port : Nat) (d : Dev) : Dev :=
  let g := d.gauge port
  if !d.isPort port || decide (g.enable = 0) then d
  else
    let d := d.reach (g.due (g.taken + 1))
    d.modGauge port (fun g =>
      { g with
        taken := g.taken + 1
        hists := (setBits g.enable 20).foldl (fun t q =>
          tmod t {} q (fun h => h.take (d.queueCells (portKey port q)) (d.headDelay (portKey port q)))) g.hists })

/-! ### Records (12 R385-R388) -/

/-- The interval record of a queue (12 Table 12-5). -/
def Dev.gaugeImage (d : Dev) (port q seq endNs : Nat) (disc part : Bool) : BitVec 1536 :=
  let g := d.gauge port
  let h := tget g.hists {} q
  let at_ (off w v : Nat) : Nat × Nat × Nat := (8 * off, w, v)
  let key := portKey port q
  BitVec.ofNat 1536 (pack
    ([at_ 0 16 192, at_ 2 8 0x20, at_ 3 8 1, at_ 4 32 seq, at_ 8 16 d.evr.powerCycles,
      (80, 3, (d.lanePolder port).getD 0), (83, 1, b2n disc), (84, 1, b2n part),
      (128, 13, if q < 16 then key else key - 8192), (141, 1, b2n (decide (16 ≤ q))), at_ 18 10 port, at_ 20 12 g.sampleQ,
      at_ 24 48 (g.from_ / 1000000000), at_ 32 32 (g.from_ % 1000000000), at_ 36 32 ((endNs - g.from_) / 1000),
      at_ 40 32 h.samples, at_ 48 64 h.depthMax, at_ 56 64 h.delayMax] ++
     (List.range 16).map (fun k => at_ (64 + 4 * k) 32 (h.depth.getD k 0)) ++
     (List.range 16).map (fun k => at_ (128 + 4 * k) 32 (h.delay.getD k 0))))

/-- Records that the TELEMETRY region holds (12 R388). -/
def Dev.archCap (d : Dev) : Nat := d.spw.map.telemetry * 2 ^ 30 / 192

/-- An archived record takes the next sequence; the newest overwrites the oldest. -/
def Dev.archivePut (d : Dev) (polder : Nat) (r : BitVec 1536) : Dev :=
  let a := d.esc.archive ++ [(d.esc.archSeq, polder, r)]
  { d with esc := { d.esc with archive := a.drop (a.length - d.archCap), archSeq := d.esc.archSeq + 1 } }

/-- A record enters the gauge export ring of an endpoint, or is dropped and counted (12 R387); regulator 3 writes the rings (01 Table 1-5;
DEDUCED, assumption 144). -/
def Dev.gaugePut (d : Dev) (e : Nat) (r : BitVec 1536) : Dev :=
  let t := (d.ep e).gauge
  if !t.room || !(d.ep e).up || !d.regRuns 3 then (d.bump .gaugeRingDrop e).liveMs 0xD23
  else
    ((((d.emit (.hostWrite e (t.base.toNat + 192 * (t.prod.toNat % 2 ^ t.sizeLog2)) (leBytes 192 r.toNat))).modEp e
      (fun x => { x with gauge := { x.gauge with prod := x.gauge.prod + 1 } })).emit
      (.hostWrite e t.wbAddr.toNat (leBytes 4 (t.prod + 1).toNat)))).signal e 578

/-- The record of one queue is emitted at the end of its interval, and its histograms are cleared. -/
def Dev.gaugeEmit (d : Dev) (port endNs : Nat) (disc : Bool) (q : Nat) : Dev :=
  let g := d.gauge port
  let pol := d.lanePolder port
  let arch := g.archive && decide (0 < d.archCap)
  let r := d.gaugeImage port q (if arch then d.esc.archSeq % 2 ^ 32 else 0) endNs disc (tget g.hists {} q).partial_
  let d := if arch then d.archivePut (pol.getD 0) r else d
  let d := match pol with
    | some p => if g.ring then d.gaugePut (d.polder p).owner r else d
    | none => d
  d.modGauge port (fun g => { g with hists := tset g.hists {} q { partial_ := false } })

/-- The interval of a port ends at a device time. -/
def Dev.gaugeClose (d : Dev) (port endNs : Nat) (disc : Bool) : Dev :=
  (setBits (d.gauge port).enable 20).foldl (fun d q => d.gaugeEmit port endNs disc q) d

/-- The end of the interval that contains a device time: the next multiple of EXPORT_MS (12 R385). -/
def Gauge.boundary (g : Gauge) (ns : Nat) : Nat := (ns / (g.exportMs * 1000000) + 1) * (g.exportMs * 1000000)

/-- GAUGE_INTERVAL_END: a port's interval ends (12 R385). -/
def doGaugeIntervalEnd (port : Nat) (d : Dev) : Dev :=
  let g := d.gauge port
  if !d.isPort port || decide (g.exportMs = 0 ∨ g.enable = 0) then d
  else
    let t := g.boundary g.from_
    let d := d.reachNs t
    (d.gaugeClose port t false).modGauge port (fun g => { g with from_ := t })

/-- A time step closes every interval (12 R385): `old` is device time before it. -/
def Dev.gaugeStep (d : Dev) (old : Nat) : Dev :=
  (d.esc.gauges.map (fun x => x.1)).foldl (fun d p =>
    let d := if (d.gauge p).exportMs = 0 then d else d.gaugeClose p old true
    d.modGauge p (fun g => { g with from_ := d.timeNsAll })) d

/-! ### Export rings (12 R387, 16 R491, 20 Table 20-3) -/

/-- One dword of the block of a gauge or trace ring. -/
def ExportRing.write (r : ExportRing) (dword : Nat) (v : Word) (trace : Bool) : ExportRing :=
  if dword < 2 then
    if !r.enable then { r with base := setBase r.base dword v }
    else if setBase r.base dword v = r.base then r else { r with cfgErr := true }
  else if dword = 2 then
    let size := bits v.toNat 0 5
    let en := v.toNat.testBit 16
    let r := { r with cfgErr := r.cfgErr && !v.toNat.testBit 31 }
    if r.enable && decide (size ≠ r.sizeLog2) then { r with cfgErr := true }
    else
      let r := { r with sizeLog2 := size, minSeverity := if trace then bits v.toNat 20 3 else r.minSeverity }
      if en && !(decide (6 ≤ size ∧ size ≤ 16)) then { r with cfgErr := true } else { r with enable := en }
  else if dword = 4 ∨ dword = 5 then
    let wb := if dword = 4 then BitVec.ofNat 64 (putBits r.wbAddr.toNat 0 32 (v.toNat / 8 * 8))
      else BitVec.ofNat 64 (putBits r.wbAddr.toNat 32 32 v.toNat)
    if !r.enable then { r with wbAddr := wb } else if wb = r.wbAddr then r else { r with cfgErr := true }
  else if dword = 6 then { r with cons := v }
  else r

/-- ENABLE is not set while the endpoint is down (02 R40). -/
def Endpoint.enableWord (x : Endpoint) (dword : Nat) (v : Word) : Word :=
  if x.up || decide (dword ≠ 2) then v else BitVec.ofNat 32 (putBits v.toNat 16 1 0)

/-- EP_GAUGE_RING_WRITE: one dword of an endpoint's gauge export ring. -/
def doEpGaugeRingWrite (ep dword : Nat) (v : Word) (d : Dev) : Dev :=
  if !(d.ep ep).answers then d else d.modEp ep (fun x => { x with gauge := x.gauge.write dword (x.enableWord dword v) false })

/-! ### OP_GAUGE_SET (12 R392) -/

/-- OP_GAUGE_SET SET. -/
def doOpGaugeSetSet (c : CmdRef) (_io : Io) (d : Dev) : Dev :=
  d.step1 c (isOpAct 0x53 (18, 0, 2) 0) fun d x =>
    let p := x.fld 16 0 10
    let en := x.fld 20 0 20
    let sq := if x.fld 24 0 12 = 0 then 4 else x.fld 24 0 12
    let ex := x.fld 26 0 16
    if !d.isPort p then d.fail c stNotFound
    else if 4000 < sq then d.badOp c 24
    else if 60000 < ex then d.badOp c 26
    else
      (d.modGauge p (fun g =>
        { g with
          enable := en, sampleQ := sq, exportMs := ex, archive := x.fld 28 0 1 = 1, ring := x.fld 28 1 1 = 1
          start := d.bal.tick, taken := 0
          from_ := if ex = g.exportMs ∧ g.enable ≠ 0 then g.from_
            else if ex = 0 then d.timeNsAll else d.timeNsAll / (ex * 1000000) * (ex * 1000000)
          hists := (List.range 20).foldl (fun t q =>
            if en.testBit q then tmod t {} q (fun h => if g.enable.testBit q then { h with partial_ := true } else {})
            else tset t {} q {}) g.hists })).ok c

/-- OP_GAUGE_SET READ. -/
def doOpGaugeSetRead (c : CmdRef) (io : Io) (d : Dev) : Dev :=
  d.step1 c (isOpAct 0x53 (18, 0, 2) 1) fun d x =>
    let p := x.fld 16 0 10
    let q := x.fld 19 0 5
    if !d.isPort p then d.fail c stNotFound
    else if 20 ≤ q then d.badOp c 19
    else if x.fld 32 0 6 ≠ 0 then d.badOp c 32
    else if x.fld 44 0 32 < 192 then d.badOp c 44
    else
      let r := d.gaugeImage p q 0 d.timeNsAll false true
      (d.hostOut c.ep (x.fld 32 0 64) (leBytes 192 r.toNat) io.wrErr).okBuf c io.wrErr 32

/-- Archive sequence `a` lies before `b`. -/
def seqUnder (a b : Nat) : Bool := decide ((b + 2 ^ 32 - a - 1) % 2 ^ 32 < 2 ^ 31)

/-- OP_GAUGE_SET ARCHIVE_READ: a step covers as many records as the device chooses; those that it finds
uncorrectable follow in its choices (12 R388, R392). -/
def doOpGaugeSetArchiveRead (c : CmdRef) (io : Io) (d : Dev) : Dev :=
  d.step1 c (isOpAct 0x53 (18, 0, 2) 2) fun d x =>
    let room := x.fld 44 0 32 / 192
    let addr := x.fld 32 0 64
    if x.fld 32 0 6 ≠ 0 then d.badOp c 32
    else if room = 0 then d.badOp c 44
    else
      let next := if x.steps = 0 then x.fld 40 0 32 else x.scratch.getD 0 0
      let done := x.scratch.getD 1 0
      let lost := x.scratch.getD 2 0
      let err := io.wrErr || decide (x.scratch.getD 3 0 = 1)
      let all := d.esc.archive
      let oldest := ((all.head?).map (fun r => r.1)).getD d.esc.archSeq % 2 ^ 32
      let src := all.filter (fun r => decide ((r.1 + 2 ^ 32 - next) % 2 ^ 32 < 2 ^ 31))
      let pick := if ioChoice io 0 = 0 then src.length else ioChoice io 0
      let step := src.take pick
      let bad := step.filter (fun r => (io.pick.drop 1).contains (r.1 % 2 ^ 32))
      let good := step.filter (fun r => !(io.pick.drop 1).contains (r.1 % 2 ^ 32) && (d.mayAs c none || d.mayAs c (some r.2.1)))
      let put := good.take (room - done)
      let after : Nat := match good[room - done]? with
        | some r => r.1 % 2 ^ 32
        | none => match step.getLast? with
          | some r => (r.1 + 1) % 2 ^ 32
          | none => if src.isEmpty then d.esc.archSeq % 2 ^ 32 else next
      let hit := bad.filter (fun (r : Nat × Nat × BitVec 1536) => seqUnder (r.1 % 2 ^ 32) after)
      let d := hit.foldl (fun (d : Dev) (r : Nat × Nat × BitVec 1536) => (d.liveMs 0xD24).record Ev.gaugeArchiveEcc .shared (some 0xD24) (dat [(0, 4, r.1 % 2 ^ 32)])) d
      let d := if put.isEmpty then d
        else d.hostOut c.ep (addr + 192 * done) ((put.map (fun r => leBytes 192 r.2.2.toNat)).flatten) io.wrErr
      if src.length ≤ pick ∨ room ≤ done + put.length then
        d.okBuf c err 32 (done + put.length + oldest * 2 ^ 32) (after + (lost + hit.length) * 2 ^ 32)
      else d.again c [after, done + put.length, lost + hit.length, b2n err]

/-! ### Meanings -/

/-- OP_GAUGE_SET_SET (R392). -/
def execOpGaugeSetSet (c : CmdRef) (io : Io) (s : State) : Host.Outcome State Fault Refusal :=
  .next { s with dev := doOpGaugeSetSet c io s.dev }

/-- OP_GAUGE_SET_READ (R392). -/
def execOpGaugeSetRead (c : CmdRef) (io : Io) (s : State) : Host.Outcome State Fault Refusal :=
  .next { s with dev := doOpGaugeSetRead c io s.dev }

/-- OP_GAUGE_SET_ARCHIVE_READ (R392). -/
def execOpGaugeSetArchiveRead (c : CmdRef) (io : Io) (s : State) : Host.Outcome State Fault Refusal :=
  .next { s with dev := doOpGaugeSetArchiveRead c io s.dev }

/-- GAUGE_SAMPLE (R383). -/
def execGaugeSample (port : Nat) (s : State) : Host.Outcome State Fault Refusal :=
  .next { s with dev := doGaugeSample port s.dev }

/-- GAUGE_INTERVAL_END (R385). -/
def execGaugeIntervalEnd (port : Nat) (s : State) : Host.Outcome State Fault Refusal :=
  .next { s with dev := doGaugeIntervalEnd port s.dev }

/-- EP_GAUGE_RING_WRITE (R387). -/
def execEpGaugeRingWrite (ep : Nat) (dword : Nat) (v : Word) (s : State) : Host.Outcome State Fault Refusal :=
  .next { s with dev := doEpGaugeRingWrite ep dword v s.dev }

end Sys2Proof.Machine
end

