-- ==== Sys2Proof/Machine/Meter.lean ====
section
/-! DEFINITION. The Minute Repeater, its export rings, the flow ledger, and the commands over them, over weirs and over
tenant rules (chapter 13). -/
namespace Sys2Proof.Machine

/-! ### Epochs (13 R406) -/

/-- Where epoch `n` begins, in nanoseconds of device time. -/
def Dev.epochStart (d : Dev) (n : Nat) : Nat := n * 60000000000 + d.mrp.offsetMs * 1000000
/-- The epoch number of a device time; 0 below OFFSET_MS. -/
def Dev.epochOf (d : Dev) (ns : Nat) : Nat := (ns - d.mrp.offsetMs * 1000000) / 60000000000

/-! ### Banks (13 R408) -/

def Dev.bank (d : Dev) (p b : Nat) : Bank := tget d.mrp.banks {} (2 * p + b)
def Dev.modBank (d : Dev) (p b : Nat) (f : Bank → Bank) : Dev :=
  { d with mrp := { d.mrp with banks := tmod d.mrp.banks {} (2 * p + b) f } }
/-- The bank of a polder in a state. -/
def Dev.bankIn (d : Dev) (p : Nat) (s : BankSt) : Option Nat := [0, 1].find? (fun b => decide ((d.bank p b).st = s))
/-- SPAN of a bank. -/
def Bank.span (b : Bank) : Nat := b.epochs.length
/-- The first epoch of a bank. -/
def Bank.first (b : Bank) : Nat := b.epochs.headD 0
/-- The bank of a polder that holds the epoch with a tag: the low 8 bits travel with a packet. -/
def Dev.bankOf (d : Dev) (p epoch : Nat) : Option Nat :=
  [0, 1].find? (fun b => decide ((d.bank p b).st = .opened ∨ (d.bank p b).st = .closing) &&
    (d.bank p b).epochs.any (fun e => decide (e % 256 = epoch % 256)))

/-- FS_MRP_EXPORT_STALL follows the span of a polder's OPEN bank. -/
def Dev.stall (d : Dev) (p : Nat) : Dev :=
  d.live (0xE10 + p) (match d.bankIn p .opened with
    | some b => decide (1 < (d.bank p b).span)
    | none => false)

/-- A bank opens with the current epoch. -/
def Dev.openBank (d : Dev) (p : Nat) : Dev :=
  match d.bankIn p .opened, d.bankIn p .free with
  | none, some b => (d.modBank p b (fun _ => { st := .opened, epochs := [d.mrp.epoch], startNs := d.timeNsAll })).stall p
  | _, _ => d

/-- The polders that are defined. -/
def Dev.defined (d : Dev) : List Nat := (List.range 8).filter (fun p => decide ((d.polder p).st ≠ .undefined))

/-- Entry to FORWARDING opens a bank for every polder. -/
def Dev.openBanks (d : Dev) : Dev := d.defined.foldl Dev.openBank d

/-- What a time step writes into the records of the epoch that it meets (13 R407). -/
structure StepMark where
  fwd : Bool := false
  back : Bool := false
  offs : Bool := false
  deriving DecidableEq, Repr

/-- The OPEN banks bear a step's mark. -/
def Dev.markBanks (d : Dev) (m : StepMark) : Dev :=
  d.defined.foldl (fun d p => match d.bankIn p .opened with
    | some b => d.modBank p b (fun x =>
        { x with disc := true, fwd := x.fwd || m.fwd, back := x.back || m.back, offs := x.offs || m.offs })
    | none => d) d

/-- The current epoch ends at a device time, and `next` is current (13 R406, Table 13-3). -/
def Dev.endEpoch (d : Dev) (next endNs : Nat) : Dev :=
  let d := { d with mrp := { d.mrp with epoch := next, disc := false } }
  d.defined.foldl (fun d p =>
    match d.bankIn p .opened with
    | none => if d.bal.mode = .forwarding then d.openBank p else d
    | some b =>
      let x := d.bank p b
      if (d.bank p (1 - b)).st = .free then
        let d := d.modBank p b (fun x => { x with st := .closing, endNs := endNs, endTick := d.bal.tick })
        let d := d.record Ev.minuteClose (.polders (2 ^ p)) none (dat [(0, 8, x.first), (8, 2, x.span)])
        d.openBank p
      else
        let d := d.modBank p b (fun x => { x with epochs := x.epochs ++ [next], endNs := endNs })
        (d.stall p).record Ev.minuteMerged (.polders (2 ^ p)) (some (0xE10 + p)) (dat [(0, 8, x.first), (8, 2, x.span + 1)])) d

/-- EPOCH_END: device time reaches the end of the current epoch. -/
def doEpochEnd (d : Dev) : Dev :=
  if !d.corePowered then d
  else
    let t := d.epochStart (d.mrp.epoch + 1)
    let d := d.reachNs t
    d.endEpoch (d.epochOf d.timeNsAll) t

/-! ### Records (13 R413) -/

def Dev.mrpRing (d : Dev) (p : Nat) : MrpRing := tget d.mrp.rings {} p
def Dev.modMrpRing (d : Dev) (p : Nat) (f : MrpRing → MrpRing) : Dev :=
  { d with mrp := { d.mrp with rings := tmod d.mrp.rings {} p f } }

/-- A record of 64 or 128 bytes: header fields, the bits at offset 10 and up, and (offset, bytes, value) fields; SEQ is
set as it is written. -/
def mrpRec (size type polder flags : Nat) (fs : List (Nat × Nat × Nat)) : List Byte :=
  leBytes size (pack ([(0, 16, size), (16, 8, type), (24, 8, 1), (80, 3, polder), (83, 13, flags)] ++
    fs.map (fun f => (8 * f.1, 8 * f.2.1, f.2.2))))

/-- A record's SEQ and POWER_CYCLES. -/
def stampRec (r : List Byte) (seq cycles : Nat) : List Byte := r.take 4 ++ leBytes 4 seq ++ leBytes 2 cycles ++ r.drop 10

/-- Widths of the counters of MINUTE_TENANT: bytes 53 bits, packets 43 bits. -/
def tenantWidth (i : Nat) : Nat := if i % 2 = 0 then 53 else 43

/-- MINUTE_TENANT (13 Table 13-5). -/
def tenantRec (polder tenant : Nat) (invalid : Bool) (cs : List Nat) : List Byte :=
  let sat := (List.range 8).any (fun i => decide (2 ^ tenantWidth i ≤ cs.getD i 0))
  let v (i : Nat) : Nat := min (cs.getD i 0) (2 ^ tenantWidth i - 1)
  let body := pack ((List.range 8).map (fun i => (96 * (i / 2) + 53 * (i % 2), tenantWidth i, v i)))
  mrpRec 64 0x11 polder (b2n invalid + 2 * b2n sat) [(12, 4, tenant), (16, 48, body)]

/-- LATE_ADJUST (13 Table 13-8). -/
def lateRec (l : Late) (current : Nat) (early : Bool) : List Byte :=
  mrpRec 128 0x13 l.polder (b2n early) ([(12, 4, l.tenant), (16, 8, l.epoch), (24, 8, current)] ++
    (List.range 8).map (fun i => (32 + 8 * i, 8, l.delta.getD i 0)))

/-- UNATTRIBUTED (13 Table 13-7). -/
def unattrRec (polder tenant : Nat) (u : Unattr) : List Byte :=
  mrpRec 64 0x14 polder 0 [(12, 4, tenant), (16, 8, u.bytes), (24, 8, u.pkts), (32, 4, u.budget), (36, 4, u.collide)]

/-- LEDGER_FLOW (13 Table 13-9). -/
def flowRec (f : Flow) (epoch : Nat) (final evicted : Bool) : List Byte :=
  let key := leBytes 40 f.key.toNat
  mrpRec 128 0x18 f.polder (b2n final + 2 * b2n evicted)
    [(12, 4, f.tenant), (16, 32, leNat (key.take 32)), (48, 5, leNat ((key.drop 32).take 5)), (56, 8, f.bytes),
     (64, 8, f.pkts), (72, 6, f.firstSec), (80, 6, f.lastSec), (88, 8, epoch)]

/-! ### Freezing and export (13 R411, R412) -/

def Dev.unattr (d : Dev) (t : Nat) : Unattr := tget d.mrp.unattr {} t

/-- The bank is zeroed and FREE. -/
def Dev.freeBank (d : Dev) (p b : Nat) : Dev := d.modBank p b (fun _ => {})

/-- A bank freezes: its run is made up, unless the polder's ring is disabled, which frees the bank. -/
def Dev.freeze_ (d : Dev) (p b : Nat) : Dev :=
  let x := d.bank p b
  let r := d.mrpRing p
  let lates := d.mrp.late.filter (fun l => decide (l.polder = p))
  let d := { d with mrp := { d.mrp with late := d.mrp.late.filter (fun l => decide (l.polder ≠ p)) } }
  if !r.enable then d.freeBank p b
  else
    let pol := d.polder p
    let range := (List.range pol.tenantCount).map (· + pol.tenantBase)
    let zero (t : Nat) : Bool := (tget x.counts [] t).all (fun n => decide (n = 0))
    let shown := range.filter (fun t => !(r.skipZero && zero t))
    let un := range.filter (fun t => decide (d.unattr t ≠ {}))
    let flags := b2n x.disc + 2 * b2n x.fwd + 4 * b2n x.back + 8 * b2n (decide (1 < x.span)) + 16 * b2n x.offs
    let header := mrpRec 64 0x10 p flags
      [(16, 8, x.first), (24, 2, x.span), (28, 4, un.length), (32, 6, x.startNs / 1000000000), (40, 4, x.startNs % 1000000000),
       (44, 4, x.endNs % 1000000000), (48, 6, x.endNs / 1000000000), (56, 4, shown.length), (60, 4, lates.length)]
    let recs := [header] ++ shown.map (fun t => tenantRec p t (x.invalid.contains t) (tget x.counts [] t)) ++
      lates.map (fun l => lateRec l (x.epochs.getLast?.getD 0) false) ++ un.map (fun t => unattrRec p t (d.unattr t))
    let d := { d with mrp := { d.mrp with unattr := d.mrp.unattr.filter (fun u => !un.contains u.1) } }
    let d := d.modBank p b (fun x => { x with st := .exporting })
    d.modMrpRing p (fun r => { r with runs := r.runs ++ [(b, x.first, range.length - shown.length, recs)] })

/-- BANK_FREEZE: CLOSE_MS after its epoch's end a CLOSING bank freezes. -/
def doBankFreeze (polder : Nat) (d : Dev) : Dev :=
  match d.bankIn polder .closing with
  | none => d
  | some b => ((d.reach ((d.bank polder b).endTick + msTicks d.mrp.closeMs)).freeze_ polder b).stall polder

/-- The device leaves FORWARDING: the epoch ends at once for every bank, the older one first (13 Table 13-3). -/
def Dev.closeBanks (d : Dev) : Dev :=
  d.defined.foldl (fun d p =>
    let d := match d.bankIn p .closing with
      | some b => d.freeze_ p b
      | none => d
    let d := match d.bankIn p .opened with
      | some b => (d.modBank p b (fun x => { x with endNs := d.timeNsAll, endTick := d.bal.tick })).freeze_ p b
      | none => d
    d.stall p) d

/-- Slots that a record takes from the ring's present position: one or two, and the slot that a 128-byte record leaves
unused rather than wrap. -/
def MrpRing.slots (r : MrpRing) (len : Nat) : Nat :=
  let n := len / 64
  if n = 2 ∧ r.prod.toNat % 2 ^ r.sizeLog2 = 2 ^ r.sizeLog2 - 1 then 3 else n

/-- The ring has room for a record. -/
def MrpRing.room (r : MrpRing) (len : Nat) : Bool := r.enable && decide ((r.prod - r.cons).toNat + r.slots len ≤ 2 ^ r.sizeLog2)

/-- Writes a record into a polder's export ring, numbers it, writes the producer count back and signals the export
cause (13 R411). -/
def Dev.mrpPut (d : Dev) (p : Nat) (r : List Byte) : List Byte × Dev :=
  let x := d.mrpRing p
  let e := (d.polder p).owner
  let r := stampRec r x.seq.toNat d.evr.powerCycles
  let n := x.slots r.length
  let at_ := (x.prod.toNat + (n - r.length / 64)) % 2 ^ x.sizeLog2
  let prod := x.prod + BitVec.ofNat 32 n
  let d := d.emit (.hostWrite e (x.base + 64 * at_) r)
  let d := d.modMrpRing p (fun x => { x with prod := prod, seq := x.seq + 1 })
  (r, (((d.emit (.hostWrite e x.wb (leBytes 4 prod.toNat))).bump .exportRecords p).signal e (580 + p)))

/-- MINUTE_RECORD_WRITE: the next record of a polder goes to its ring when there is room: the run in progress, else what
waits between runs. -/
def doMinuteRecordWrite (polder : Nat) (d : Dev) : Dev :=
  let r := d.mrpRing polder
  if !(d.ep (d.polder polder).owner).up || !d.regRuns 3 then d
  else match r.runs with
  | (b, first, skipped, rec0 :: rest) :: more =>
    if decide (r.written = 0) && !r.extra.isEmpty then
      match r.extra with
      | x :: t => if r.room x.length then ((d.modMrpRing polder (fun r => { r with extra := t })).mrpPut polder x).2 else d
      | [] => d
    else if !r.room rec0.length then d
    else
      let (bs, d) := d.mrpPut polder rec0
      d.modMrpRing polder (fun r =>
        { r with runs := (b, first, skipped, rest) :: more, written := r.written + 1, check := crcRefl 0x82F63B78 bs r.check })
  | (b, first, skipped, []) :: more =>
    if !r.room 64 then d
    else
      let t := mrpRec 64 0x12 polder 0 [(16, 8, first), (24, 4, r.written - 1), (28, 4, skipped),
        (32, 4, r.check ^^^ 0xFFFFFFFF), (36, 4, r.unrecorded)]
      let d := (d.mrpPut polder t).2
      (d.modMrpRing polder (fun r => { r with runs := more, written := 0, check := 0xFFFFFFFF, unrecorded := 0 })).freeBank polder b
  | [] => match r.extra with
    | x :: t => if r.room x.length then ((d.modMrpRing polder (fun r => { r with extra := t })).mrpPut polder x).2 else d
    | [] => d

/-- EP_MRP_RING_CONS_WRITE: a consumer count beyond the producer count is ignored (20 Table 20-3). -/
def doEpMrpRingConsWrite (ep polder : Nat) (v : Word) (d : Dev) : Dev :=
  if !(d.ep ep).answers || decide (8 ≤ polder) then d
  else if !d.owns ep polder then d.modEp ep (fun x => { x with denied := true })
  else
    let beyond := (v - (d.mrpRing polder).prod).toNat
    if 0 < beyond ∧ beyond < 2 ^ 31 then d else d.modMrpRing polder (fun r => { r with cons := v })

/-! ### Updates (13 R405, R408-R410) -/

/-- Adds increments to counts, saturating at 64 bits. -/
def addCounts (a inc : List Nat) : List Nat := (List.range 8).map (fun i => min (a.getD i 0 + inc.getD i 0) (2 ^ 64 - 1))

/-- The latest epoch up to the current one with the low 8 bits of a tag. -/
def Dev.epochOfTag (d : Dev) (epoch : Nat) : Nat := d.mrp.epoch - (d.mrp.epoch + 256 - epoch % 256) % 256

/-- A late update enters the late cache; a full cache emits its oldest entry at once (13 R410). -/
def Dev.lateUpdate (d : Dev) (tenant polder epoch : Nat) (inc : List Nat) : Dev :=
  let d := d.bump .lateUpdates polder
  let same (l : Late) : Bool := decide (l.tenant = tenant ∧ l.epoch = epoch ∧ l.polder = polder)
  let add (d : Dev) : Dev := { d with mrp := { d.mrp with late := d.mrp.late ++ [{ tenant := tenant, epoch := epoch, polder := polder, delta := inc }] } }
  if d.mrp.late.any same then
    { d with mrp := { d.mrp with late := d.mrp.late.map (fun l => if same l then { l with delta := addCounts l.delta inc } else l) } }
  else if d.mrp.late.length < 16384 then add d
  else match d.mrp.late with
    | [] => d
    | old :: rest =>
      let r := d.mrpRing old.polder
      let dropped := { d with mrp := { d.mrp with late := rest } }
      if !r.enable then add dropped
      else if r.room 128 && (d.ep (d.polder old.polder).owner).up && d.regRuns 3 then
        let d := add dropped
        (d.mrpPut old.polder (lateRec old d.mrp.epoch true)).2
      else
        let d := (d.bump .lateUnrecorded polder).modMrpRing polder (fun r => { r with unrecorded := r.unrecorded + 1 })
        (d.liveMs 0xE18).record Ev.lateUnrecorded (.polders (2 ^ polder)) (some 0xE18) (dat [(0, 4, tenant), (4, 8, epoch)])

/-- A combining front end passes merged update `i` to the counter store; a counter of it may fail uncorrectably as it is read
(13 R405, R409). -/
def Dev.combine (d : Dev) (i : Nat) (bad : Option Nat) : Dev :=
  match d.mrp.merging[i]? with
  | none => d
  | some u =>
    let d := { d with mrp := { d.mrp with merging := d.mrp.merging.eraseIdx i } }
    match d.bankOf u.polder u.epoch with
    | none => d.lateUpdate u.tenant u.polder (d.epochOfTag u.epoch) u.inc
    | some b =>
      let d := match bad with
        | some k => (d.modBank u.polder b (fun x =>
            { x with
              counts := tmod x.counts [] u.tenant (fun l => l.set k 0)
              invalid := if x.invalid.contains u.tenant then x.invalid else x.invalid ++ [u.tenant] })).liveMs 0xE19
        | none => d
      d.modBank u.polder b (fun x => { x with counts := tmod x.counts [] u.tenant (fun l => addCounts l u.inc) })

/-- Every merged update older than 1 µs is passed (13 R405, R424); the first argument bounds the run. -/
def Dev.combineOld : Nat → Dev → Dev
  | 0, d => d
  | n + 1, d => match d.mrp.merging.findIdx? (fun u => decide (u.tick + usTicks 1 < d.bal.tick)) with
    | none => d
    | some i => Dev.combineOld n (d.combine i none)

/-- COMBINED_UPDATE: a merged update passes to the counter store (13 R405). -/
def doCombinedUpdate (i : Nat) (bad : Option Nat) (d : Dev) : Dev := d.combine i bad

/-! ### The ledger (13 R414-R416) -/

def Dev.ledgerCfg (d : Dev) (p : Nat) : LedgerCfg := tget d.mrp.ledgers {} p
def Dev.setFlow (d : Dev) (s : Nat) (f : Option Flow) : Dev := { d with mrp := { d.mrp with flows := tset d.mrp.flows none s f } }
/-- Slots that a polder's flows hold. -/
def Dev.flowsOf (d : Dev) (p : Nat) : Nat :=
  (d.mrp.flows.filter (fun f => match f.2 with
    | some x => decide (x.polder = p)
    | none => false)).length
/-- GL_MRP_LEDGER_CAP[p]. -/
def Dev.ledgerCap (d : Dev) (p : Nat) : Nat := tget d.mrp.caps 0x40000000 p

/-- An update goes to its tenant's unattributed bucket (13 R415). -/
def Dev.toUnattr (d : Dev) (f : Flow) (budget : Bool) : Dev :=
  let d := { d with mrp := { d.mrp with unattr := tmod d.mrp.unattr {} f.tenant (fun u =>
    { u with
      bytes := u.bytes + f.bytes, pkts := u.pkts + f.pkts
      budget := u.budget + (if budget then f.pkts else 0), collide := u.collide + (if budget then 0 else f.pkts) }) } }
  (d.bump .ledgerUnattr f.polder).liveMs 0xE1B

/-- A flow's record is made and waits for its ring, if the polder's ring takes ledger records. -/
def Dev.exportFlow (d : Dev) (f : Flow) (final evicted : Bool) : Dev :=
  let r := d.mrpRing f.polder
  if r.enable && r.ledger then
    d.modMrpRing f.polder (fun r => { r with extra := r.extra ++ [flowRec f d.mrp.epoch final evicted] })
  else d

/-- The polder's ring has no room for a further ledger record. -/
def Dev.ledgerRingFull (d : Dev) (p : Nat) : Bool :=
  let r := d.mrpRing p
  r.enable && r.ledger && (!r.room 128 || !r.extra.isEmpty)

/-- A flow has been idle longer than IDLE_S. -/
def Dev.flowIdle (d : Dev) (f : Flow) : Bool := decide (f.lastTick + (d.ledgerCfg f.polder).idleS * 25000000 < d.bal.tick)

/-- An uncorrectable ledger read loses the flow, and frees its slot (13 R416). -/
def Dev.ledgerBad (d : Dev) (s : Nat) (f : Flow) : Dev :=
  (((d.setFlow s none).bump .ledgerEcc f.polder).liveMs 0xE1A).record Ev.ledgerEcc (.polders (2 ^ f.polder)) (some 0xE1A)
    (dat [(0, 4, s)])

/-- LEDGER_MISS: the oldest update that missed the cache reads its flow's home slot, within the budget of the
microsecond; `evict` is the cached flow that the cache writes back, if any. -/
def doLedgerMiss (bad : Bool) (evict : Option Nat) (d : Dev) : Dev :=
  match d.mrp.misses with
  | [] => d
  | (f, s) :: rest =>
    let d := { d with mrp := { d.mrp with misses := rest } }
    let d := d.bump .ledgerMiss 0
    let now := d.bal.tick / 25
    let used := if d.mrp.budgetTick = now then d.mrp.budgetUsed else 0
    if 9375 ≤ used then d.toUnattr f true
    else
      let d := { d with mrp := { d.mrp with budgetTick := now, budgetUsed := used + 1 } }
      let d := match evict with
        | some k => { d with mrp := { d.mrp with flows := tmod d.mrp.flows none k (fun x => x.map (fun y => { y with cached := false })) } }
        | none => d
      let d := match tget d.mrp.flows none s with
        | some g => if bad && !g.cached then d.ledgerBad s g else d
        | none => d
      let install (d : Dev) : Dev :=
        if d.ledgerSlots ≤ s ∨ d.ledgerCap f.polder ≤ d.flowsOf f.polder then d.toUnattr f false else d.setFlow s (some f)
      match tget d.mrp.flows none s with
      | none => install d
      | some g =>
        if g.key = f.key ∧ g.polder = f.polder then
          d.setFlow s (some { g with
            bytes := g.bytes + f.bytes, pkts := g.pkts + f.pkts, firstSec := if g.pkts = 0 then f.firstSec else g.firstSec
            lastSec := f.lastSec, lastTick := f.lastTick, cached := true })
        else if !d.flowIdle g || d.ledgerRingFull g.polder then d.toUnattr f false
        else
          let own := if g.polder = f.polder then 1 else 0
          if d.ledgerCap f.polder + own ≤ d.flowsOf f.polder then d.toUnattr f false
          else (d.exportFlow g true true).setFlow s (some f)

/-- A flow's counts restart after its export. -/
def Flow.restart (f : Flow) (now : Nat) : Flow := { f with bytes := 0, pkts := 0, exportTick := now }

/-- LEDGER_WALKER_VISIT: the walker visits a slot (13 R416). -/
def doLedgerWalkerVisit (slot : Nat) (bad : Bool) (d : Dev) : Dev :=
  match tget d.mrp.flows none slot with
  | none => d
  | some f =>
    if bad && !f.cached then d.ledgerBad slot f
    else if d.flowIdle f then (d.exportFlow f true false).setFlow slot none
    else
      let a := (d.ledgerCfg f.polder).activeS
      if 0 < a ∧ f.exportTick + a * 25000000 ≤ d.bal.tick then
        (d.exportFlow f false false).setFlow slot (some (f.restart d.bal.tick))
      else d

/-! ### OP_LEDGER_CONFIG, OP_LEDGER_EXPORT_SET (13 R422, R423) -/

/-- OP_LEDGER_CONFIG. -/
def doOpLedgerConfig (c : CmdRef) (_io : Io) (d : Dev) : Dev :=
  d.step1 c (isOp 0x42) fun d x =>
    let p := x.fld 16 0 3
    if 3600 < x.fld 20 0 16 then d.badOp c 20
    else if 3600 < x.fld 22 0 16 then d.badOp c 22
    else
      let cfg : LedgerCfg :=
        { enable := decide (x.fld 17 0 1 = 1), idleS := if x.fld 20 0 16 = 0 then 60 else x.fld 20 0 16, activeS := x.fld 22 0 16 }
      ({ d with mrp := { d.mrp with ledgers := tset d.mrp.ledgers {} p cfg } }).ok c

/-- Disabling a ring ends its runs: their records are not written, and their banks are freed. -/
def Dev.disableRing (d : Dev) (p : Nat) : Dev :=
  let d := (d.mrpRing p).runs.foldl (fun (d : Dev) (r : Nat × Nat × Nat × List (List Byte)) => d.freeBank p r.1) d
  d.modMrpRing p (fun r => { r with enable := false, runs := [], extra := [], written := 0, check := 0xFFFFFFFF })

/-- OP_LEDGER_EXPORT_SET SET. -/
def doOpLedgerExportSetSet (c : CmdRef) (_io : Io) (d : Dev) : Dev :=
  d.step1 c (isOpAct 0x43 (17, 0, 2) 0) fun d x =>
    let p := x.fld 16 0 3
    let en := decide (x.fld 18 0 1 = 1)
    let r := d.mrpRing p
    let flags (r : MrpRing) : MrpRing := { r with skipZero := x.fld 18 1 1 = 1, ledger := x.fld 18 2 1 = 1 }
    if !en then ((if r.enable then d.disableRing p else d).modMrpRing p flags).ok c
    else
      let size := x.fld 19 0 5
      let base := x.fld 24 0 64
      let wb := x.fld 32 0 64
      if size < 6 ∨ 20 < size then d.badOp c 19
      else if base % 4096 ≠ 0 then d.badOp c 24
      else if wb % 8 ≠ 0 then d.badOp c 32
      else if r.enable then
        if base = r.base ∧ size = r.sizeLog2 then (d.modMrpRing p flags).ok c else d.fail c stWrongMode
      else
        (d.modMrpRing p (fun r => flags { r with
          enable := true, base := base, sizeLog2 := size, wb := wb, prod := 0, cons := 0, seq := 0 })).ok c

/-- The code of a bank's state. -/
def BankSt.code : BankSt → Nat
  | .free => 0 | .opened => 1 | .closing => 2 | .exporting => 3

/-- OP_LEDGER_EXPORT_SET READ. -/
def doOpLedgerExportSetRead (c : CmdRef) (_io : Io) (d : Dev) : Dev :=
  d.step1 c (isOpAct 0x43 (17, 0, 2) 1) fun d x =>
    let p := x.fld 16 0 3
    let span := match d.bankIn p .opened with
      | some b => (d.bank p b).span
      | none => 0
    d.ok c (pack [(0, 32, (d.mrpRing p).prod.toNat), (32, 2, (d.bank p 0).st.code), (34, 2, (d.bank p 1).st.code), (36, 16, span)])
      d.mrp.epoch

/-- OP_LEDGER_EXPORT_SET FLUSH: every flow of the polder is exported as an interim record; a step covers as many as the
device chooses. -/
def doOpLedgerExportSetFlush (c : CmdRef) (io : Io) (d : Dev) : Dev :=
  d.step1 c (isOpAct 0x43 (17, 0, 2) 2) fun d x =>
    let p := x.fld 16 0 3
    let from_ := x.scratch.getD 0 0
    let mine := d.mrp.flows.filterMap (fun f => match f.2 with
      | some y => if y.polder = p ∧ from_ ≤ f.1 then some (f.1, y) else none
      | none => none)
    let pick := if ioChoice io 0 = 0 then mine.length else ioChoice io 0
    let d := (mine.take pick).foldl (fun (d : Dev) (f : Nat × Flow) => (d.exportFlow f.2 false false).setFlow f.1 (some (f.2.restart d.bal.tick))) d
    match mine[pick]? with
    | none => d.ok c
    | some f => d.again c [f.1]

/-! ### OP_METER_SET (13 R403, R421) -/

/-- Weirs of a polder homed in a quadrant. -/
def Dev.weirCount (d : Dev) (p q : Nat) : Nat :=
  (d.mrp.weirs.filter (fun w => decide (w.1 / 65536 = q) && match w.2 with
    | some x => decide (x.polder = p)
    | none => false)).length

/-- A weir that belongs to a polder outside an authority. -/
def Dev.foreignWeir (d : Dev) (mine : Option Nat → Bool) (w : Nat) : Bool :=
  match d.weir w with
  | some x => !mine (some x.polder)
  | none => false

/-- OP_METER_SET WEIR_SET. -/
def doOpMeterSetWeirSet (c : CmdRef) (_io : Io) (d : Dev) : Dev :=
  d.step1 c (isOpAct 0x44 (16, 0, 3) 0) fun d x =>
    let w := x.fld 20 0 18
    let cir := x.fld 24 0 32
    let pir := x.fld 28 0 32
    let cbs := x.fld 32 0 32
    let pbs := x.fld 36 0 32
    let okBurst (n : Nat) : Bool := decide (64 ≤ n ∧ n ≤ 16777216)
    if d.foreignWeir (d.mayAs c) w then d.fail c stNotOwner
    else if x.fld 17 2 2 = 3 then d.badOp c 17
    else if cir < 1000 ∨ 1600000000 < cir then d.badOp c 24
    else if pir < cir ∨ 1600000000 < pir then d.badOp c 28
    else if !okBurst cbs then d.badOp c 32
    else if !okBurst pbs then d.badOp c 36
    else
      let cfg : WeirCfg :=
        { aware := decide (x.fld 17 0 1 = 1), yellow := decide (x.fld 17 1 1 = 1), red := x.fld 17 2 2, yellowPrio := x.fld 18 0 3
          redPrio := x.fld 18 3 3, cir := cir, pir := pir, cbs := cbs, pbs := pbs }
      match d.weir w with
      | some _ => (d.modWeir w (fun y => { y with next := some cfg, setTick := d.bal.tick })).ok c
      | none =>
        if d.quota x.polder 11 ≤ d.weirCount x.polder (w / 65536) then (d.liveMs (0x80 + 8 * x.polder)).fail c stNoRoom
        else
          let y : Weir := { polder := x.polder, cfg := cfg, next := some cfg, setTick := d.bal.tick, fresh := true, last := d.bal.tick }
          ({ d with mrp := { d.mrp with weirs := tset d.mrp.weirs none w (some y) } }).ok c

/-- OP_METER_SET WEIR_READ. -/
def doOpMeterSetWeirRead (c : CmdRef) (_io : Io) (d : Dev) : Dev :=
  d.step1 c (isOpAct 0x44 (16, 0, 3) 1) fun d x =>
    let w := x.fld 20 0 18
    if d.foreignWeir (d.mayAs c) w then d.fail c stNotOwner
    else match d.weir w with
      | none => d.fail c stNotFound
      | some y =>
        let z := y.refill d.bal.tick
        d.ok c (pack [(0, 32, unsigned 32 (z.c / unitsPerByte)), (32, 32, unsigned 32 (z.p / unitsPerByte))]) (y.granted % 2 ^ 32)

/-- OP_METER_SET WEIR_DELETE. -/
def doOpMeterSetWeirDelete (c : CmdRef) (_io : Io) (d : Dev) : Dev :=
  d.step1 c (isOpAct 0x44 (16, 0, 3) 2) fun d x =>
    let w := x.fld 20 0 18
    if d.foreignWeir (d.mayAs c) w then d.fail c stNotOwner
    else if (d.weir w).isNone then d.fail c stNotFound
    else ({ d with mrp := { d.mrp with weirs := tset d.mrp.weirs none w none } }).ok c

/-- Bits of a rule's key by its KIND. -/
def ruleKeyBits (kind : Nat) : Nat :=
  match kind with
  | 0 => 10
  | 1 => 22
  | 2 => 24
  | _ => 14

/-- A rule's key has a bit beyond those of its KIND, or names no port (01 R18, 13 R403). -/
def badRuleKey (kind key : Nat) : Bool := decide (2 ^ ruleKeyBits kind ≤ key ∨ (kind ≤ 1 ∧ 532 ≤ key % 1024))

/-- OP_METER_SET RULE_SET. -/
def doOpMeterSetRuleSet (c : CmdRef) (_io : Io) (d : Dev) : Dev :=
  d.step1 c (isOpAct 0x44 (16, 0, 3) 3) fun d x =>
    let p := x.polder
    let k := x.fld 40 0 2
    let key := x.fld 44 0 32
    let t := x.fld 48 0 18
    let pol := d.polder p
    let same (r : Nat × Nat × Nat × Nat) : Bool := decide (r.1 = p ∧ r.2.1 = k ∧ r.2.2.1 = key)
    if badRuleKey k key then d.badOp c 44
    else if t < pol.tenantBase ∨ pol.tenantBase + pol.tenantCount ≤ t then d.fail c stNotOwner
    else
      let rest := d.mrp.rules.filter (fun r => !same r)
      if 65536 ≤ rest.length then d.fail c stNoRoom
      else ({ d with mrp := { d.mrp with rules := rest ++ [(p, k, key, t)] } }).ok c

/-- OP_METER_SET RULE_DELETE. -/
def doOpMeterSetRuleDelete (c : CmdRef) (_io : Io) (d : Dev) : Dev :=
  d.step1 c (isOpAct 0x44 (16, 0, 3) 4) fun d x =>
    let p := x.polder
    let k := x.fld 40 0 2
    let key := x.fld 44 0 32
    let same (r : Nat × Nat × Nat × Nat) : Bool := decide (r.1 = p ∧ r.2.1 = k ∧ r.2.2.1 = key)
    if badRuleKey k key then d.badOp c 44
    else if !d.mrp.rules.any same then d.fail c stNotFound
    else ({ d with mrp := { d.mrp with rules := d.mrp.rules.filter (fun r => !same r) } }).ok c

/-- A weir state word fails parity: it is reset to full buckets (13 R420). -/
def Dev.weirParity (d : Dev) (w q : Nat) : Dev :=
  let d := d.modWeir w (fun x =>
    let c : Int := x.cfg.cbs * unitsPerByte
    let p : Int := x.cfg.pbs * unitsPerByte
    if w / 65536 = q then { x with c := c, p := p } else { x with grants := tset x.grants (0, 0) q (c, p) })
  let who := match d.weir w with
    | some x => Who.polders (2 ^ x.polder)
    | none => Who.nobody
  (d.liveMs 0xE20).record Ev.weirParity who (some 0xE20) (dat [(0, 4, w), (4, 1, q)])

/-! ### Meanings -/

/-- OP_LEDGER_CONFIG (R422). -/
def execOpLedgerConfig (c : CmdRef) (io : Io) (s : State) : Host.Outcome State Fault Refusal :=
  .next { s with dev := doOpLedgerConfig c io s.dev }

/-- OP_LEDGER_EXPORT_SET_SET (R423). -/
def execOpLedgerExportSetSet (c : CmdRef) (io : Io) (s : State) : Host.Outcome State Fault Refusal :=
  .next { s with dev := doOpLedgerExportSetSet c io s.dev }

/-- OP_LEDGER_EXPORT_SET_READ (R423). -/
def execOpLedgerExportSetRead (c : CmdRef) (io : Io) (s : State) : Host.Outcome State Fault Refusal :=
  .next { s with dev := doOpLedgerExportSetRead c io s.dev }

/-- OP_LEDGER_EXPORT_SET_FLUSH (R423). -/
def execOpLedgerExportSetFlush (c : CmdRef) (io : Io) (s : State) : Host.Outcome State Fault Refusal :=
  .next { s with dev := doOpLedgerExportSetFlush c io s.dev }

/-- OP_METER_SET_WEIR_SET (R421). -/
def execOpMeterSetWeirSet (c : CmdRef) (io : Io) (s : State) : Host.Outcome State Fault Refusal :=
  .next { s with dev := doOpMeterSetWeirSet c io s.dev }

/-- OP_METER_SET_WEIR_READ (R421). -/
def execOpMeterSetWeirRead (c : CmdRef) (io : Io) (s : State) : Host.Outcome State Fault Refusal :=
  .next { s with dev := doOpMeterSetWeirRead c io s.dev }

/-- OP_METER_SET_WEIR_DELETE (R421). -/
def execOpMeterSetWeirDelete (c : CmdRef) (io : Io) (s : State) : Host.Outcome State Fault Refusal :=
  .next { s with dev := doOpMeterSetWeirDelete c io s.dev }

/-- OP_METER_SET_RULE_SET (R403). -/
def execOpMeterSetRuleSet (c : CmdRef) (io : Io) (s : State) : Host.Outcome State Fault Refusal :=
  .next { s with dev := doOpMeterSetRuleSet c io s.dev }

/-- OP_METER_SET_RULE_DELETE (R421). -/
def execOpMeterSetRuleDelete (c : CmdRef) (io : Io) (s : State) : Host.Outcome State Fault Refusal :=
  .next { s with dev := doOpMeterSetRuleDelete c io s.dev }

/-- EPOCH_END (R406). -/
def execEpochEnd (s : State) : Host.Outcome State Fault Refusal :=
  .next { s with dev := doEpochEnd s.dev }

/-- BANK_FREEZE (R408). -/
def execBankFreeze (polder : Nat) (s : State) : Host.Outcome State Fault Refusal :=
  .next { s with dev := doBankFreeze polder s.dev }

/-- MINUTE_RECORD_WRITE (R411). -/
def execMinuteRecordWrite (polder : Nat) (s : State) : Host.Outcome State Fault Refusal :=
  .next { s with dev := doMinuteRecordWrite polder s.dev }

/-- EP_MRP_RING_CONS_WRITE (R411). -/
def execEpMrpRingConsWrite (ep : Nat) (polder : Nat) (v : Word) (s : State) : Host.Outcome State Fault Refusal :=
  .next { s with dev := doEpMrpRingConsWrite ep polder v s.dev }

/-- COMBINED_UPDATE (R405). -/
def execCombinedUpdate (i : Nat) (bad : Option Nat) (s : State) : Host.Outcome State Fault Refusal :=
  .next { s with dev := doCombinedUpdate i bad s.dev }

/-- LEDGER_MISS (R414). -/
def execLedgerMiss (bad : Bool) (evict : Option Nat) (s : State) : Host.Outcome State Fault Refusal :=
  .next { s with dev := doLedgerMiss bad evict s.dev }

/-- LEDGER_WALKER_VISIT (R416). -/
def execLedgerWalkerVisit (slot : Nat) (bad : Bool) (s : State) : Host.Outcome State Fault Refusal :=
  .next { s with dev := doLedgerWalkerVisit slot bad s.dev }

end Sys2Proof.Machine
end

