-- ==== Sys2Proof/Machine/Time.lean ====
section
/-! DEFINITION. The Time Unit (13 R396-R402): steps, frequency, slews, the reference and the second pulses, and the
commands and registers that set them. -/
namespace Sys2Proof.Machine

/-! ### Steps (13 R400, R407) -/

/-- Device time as SEC, NS and FRAC make it up. -/
def timeOf (sec ns frac : Nat) : Nat := ((sec * 1000000000 + ns) * 65536 + frac) * 256000000000

/-- The last whole second whose pulse lies at or before a device time. -/
def ppsBefore (t : Nat) (offset : Int) : Int := ((t / timeNs : Nat) - offset) / 1000000000

/-- A step: device time changes (cause 0 SET, 1 STEP) or OFFSET_MS does (cause 2). -/
def Dev.timeStep (d : Dev) (newTime newOffset cause : Nat) : Dev :=
  let old := d.tmu.time
  let stepped (c : Option Capture) : Option Capture := c.map (fun c => { c with stepped := true })
  let mark : StepMark := { fwd := decide (old < newTime), back := decide (newTime < old), offs := decide (cause = 2) }
  let d := d.markBanks mark
  let d := { d with
    mrp := { d.mrp with offsetMs := newOffset, disc := true }
    tmu := { d.tmu with
      time := newTime, lastPps := ppsBefore newTime d.tmu.ppsOffset, capIn := stepped d.tmu.capIn, capOut := stepped d.tmu.capOut } }
  let d := ((d.bump .timeSteps 0).liveMs 0xE02).record Ev.timeStep .shared (some 0xE02)
    (dat [(0, 4, timeSec old), (4, 4, timeNano old), (8, 6, timeSec newTime), (14, 4, timeNano newTime), (18, 1, cause)])
  let d : Dev := (d.tideStep (((newTime : Int) - (old : Int)) / (timeNs : Int))).gaugeStep (old / timeNs)
  let e : Nat := d.epochOf (newTime / timeNs)
  if d.mrp.epoch < e then d.endEpoch e (old / timeNs) else d

/-- The signed difference of two device times in nanoseconds, saturating (13 R401). -/
def timeDiff (new old : Nat) : Nat :=
  unsigned 64 (max (-(2 ^ 63 - 1)) (min (2 ^ 63 - 1) (((new : Int) - (old : Int)) / (timeNs : Int))))

/-- Device time after an offset in nanoseconds; SEC wraps at 48 bits. -/
def Tmu.offsetBy (t : Tmu) (ns : Int) : Nat := (((t.time : Int) + ns * (timeNs : Int)) % ((2 ^ 48 * 1000000000 * timeNs : Nat) : Int)).toNat

/-! ### OP_TIME_SET, OP_TIME_CAPTURE -/

/-- A SET or STEP takes effect, and its command completes. -/
def Dev.timeApply (d : Dev) (c : CmdRef) (setTo : Option Nat) (offset : Int) : Dev :=
  let old := d.tmu.time
  let new := setTo.getD (d.tmu.offsetBy offset)
  (d.timeStep new d.mrp.offsetMs (if setTo.isSome then 0 else 1)).ok c (timeDiff new old)

/-- A SET or STEP takes effect now, or waits up to 2 s for the edge, off its engine (02 R57). -/
def Dev.timeWhen (d : Dev) (c : CmdRef) (x : Cmd) (setTo : Option Nat) (offset : Int) : Dev :=
  if x.fld 16 3 1 = 0 then d.timeApply c setTo offset
  else
    let a : AtPps := { ep := c.ep, ring := c.ring, pos := c.pos, setTo := setTo, offset := offset, deadline := d.bal.tick + msTicks 2000 }
    ({ d with tmu := { d.tmu with atPps := d.tmu.atPps ++ [a] } }).park c

/-- OP_TIME_SET SET. -/
def doOpTimeSetSet (c : CmdRef) (_io : Io) (d : Dev) : Dev :=
  d.step1 c (isOpAct 0xA0 (16, 0, 3) 0) fun d x =>
    if 1000000000 ≤ x.fld 32 0 32 then d.badOp c 32
    else d.timeWhen c x (some (timeOf (x.fld 24 0 48) (x.fld 32 0 32) (x.fld 30 0 16))) 0

/-- OP_TIME_SET STEP. -/
def doOpTimeSetStep (c : CmdRef) (_io : Io) (d : Dev) : Dev :=
  d.step1 c (isOpAct 0xA0 (16, 0, 3) 1) fun d x => d.timeWhen c x none (signed 64 (x.fld 40 0 64))

/-- OP_TIME_SET FREQ. -/
def doOpTimeSetFreq (c : CmdRef) (_io : Io) (d : Dev) : Dev :=
  d.step1 c (isOpAct 0xA0 (16, 0, 3) 2) fun d x =>
    let f := signed 32 (x.fld 48 0 32)
    if x.fld 16 3 1 ≠ 0 then d.badOp c 16
    else if 128000000 < f.natAbs then d.badOp c 48
    else ({ d with tmu := { d.tmu with freq := f } }).ok c

/-- OP_TIME_SET SLEW: it replaces the remainder of the one before. -/
def doOpTimeSetSlew (c : CmdRef) (_io : Io) (d : Dev) : Dev :=
  d.step1 c (isOpAct 0xA0 (16, 0, 3) 3) fun d x =>
    let o := signed 64 (x.fld 40 0 64)
    if x.fld 16 3 1 ≠ 0 then d.badOp c 16
    else if 1000000000 < o.natAbs then d.badOp c 40
    else ({ d with tmu := { d.tmu with slewRem := o.natAbs * timeNs, slewNeg := decide (o < 0) } }).ok c

/-- OP_TIME_CAPTURE (13 R402). -/
def doOpTimeCapture (c : CmdRef) (_io : Io) (d : Dev) : Dev :=
  d.step1 c (isOp 0xA1) fun d x =>
    let give (k : Option Capture) : Dev :=
      match k with
      | none => d.ok c
      | some k => d.ok c (timeSec k.time + timeFrac k.time * 2 ^ 48) (timeNano k.time + (k.tick % 2 ^ 32) * 2 ^ 32) (1 + 2 * b2n k.stepped)
    match x.fld 16 0 2 with
    | 0 => d.finish c { status := stOk, detail := 1, fill := .deviceTime }
    | 1 => give d.tmu.capIn
    | 2 => give d.tmu.capOut
    | _ => d.badOp c 16

/-! ### Pulses (13 R399) -/

/-- PPS_OUT_EDGE: device time crosses the next whole second plus the offset. -/
def doPpsOutEdge (d : Dev) : Dev :=
  if !d.corePowered then d
  else
    let s := d.tmu.lastPps + 1
    let at_ := (s * 1000000000 + d.tmu.ppsOffset).toNat
    let d := d.reachNs at_
    ({ d with tmu := { d.tmu with lastPps := s, capOut := some { time := at_ * timeNs, tick := d.bal.tick } } }).emit (.ppsOut d.tmu.ppsWidthUs)

/-- PPS_IN_EDGE: a SET or STEP that waited for the edge takes effect, and the edge captures device time, which is the new
time (13 R399-R401). -/
def doPpsInEdge (d : Dev) : Dev :=
  if !d.corePowered then d
  else
    let waiting := d.tmu.atPps
    let d := { d with tmu := { d.tmu with atPps := [] } }
    let d := waiting.foldl (fun (d : Dev) (a : AtPps) =>
      let c : CmdRef := { ep := a.ep, ring := a.ring, pos := a.pos }
      match d.cmd? c with
      | some x => if x.outcome.isNone then d.timeApply c a.setTo a.offset else d
      | none => d) (d.clearLive 0xE01)
    { d with tmu := { d.tmu with capIn := some { time := d.tmu.time, tick := d.bal.tick } } }

/-- AT_PPS_TIMEOUT: 2 s pass without an edge, and the oldest waiting command completes with ST_TIMEOUT. -/
def doAtPpsTimeout (d : Dev) : Dev :=
  match d.tmu.atPps with
  | [] => d
  | a :: rest =>
    let d := (d.reach a.deadline)
    let d := { d with tmu := { d.tmu with atPps := rest } }
    let c : CmdRef := { ep := a.ep, ring := a.ring, pos := a.pos }
    match d.cmd? c with
    | some x => if x.outcome.isNone then d.fail c stTimeout else d
    | none => d

/-! ### The reference (13 R396) -/

/-- Lock and FS_TMU_REF_LOST follow REF_SEL and the signal. -/
def Dev.refState (d : Dev) : Dev :=
  ({ d with tmu := { d.tmu with refLocked := d.tmu.refSel && d.tmu.refPresent } }).live 0xE00 (d.tmu.refSel && !d.tmu.refPresent)

/-- TIME_REF_LOSS: TIME_REF_IN has been absent for 10 µs. -/
def doTimeRefLoss (d : Dev) : Dev := ({ d with tmu := { d.tmu with refPresent := false } }).refState

/-- TIME_REF_RETURN. -/
def doTimeRefReturn (d : Dev) : Dev := ({ d with tmu := { d.tmu with refPresent := true } }).refState

/-- SLEW_COMPLETE: the slew's offset is used up. -/
def doSlewComplete (d : Dev) : Dev := d.pass (cdiv d.tmu.slewRem (40 * 65536 * 25600000))

/-! ### Registers (20 Table 20-5) -/

/-- One dword of GL_TMU_CFG. -/
def Dev.tmuCfgWrite (d : Dev) (dword : Nat) (v : Word) : Dev :=
  let bad : Dev := { d with tmu := { d.tmu with cfgErr := true } }
  if dword = 0 then
    let w := bits v.toNat 8 19
    if w = 0 ∨ 500000 < w then bad
    else ({ d with tmu := { d.tmu with
        refSel := v.toNat.testBit 0, ppsWidthUs := w, cfgErr := d.tmu.cfgErr && !v.toNat.testBit 7 } }).refState
  else
    let o := signed 32 v.toNat
    if o < -500000000 ∨ 499999999 < o then bad
    else { d with tmu := { d.tmu with ppsOffset := o, lastPps := ppsBefore d.tmu.time o } }

/-- GL_MRP_CFG_WRITE: OFFSET_MS and CLOSE_MS; a changed OFFSET_MS is a time step (13 R400). -/
def doGlMrpCfgWrite (ep : Nat) (v : Word) (d : Dev) : Dev :=
  d.glWrite ep true fun d =>
    let o := bits v.toNat 0 16
    let c := bits v.toNat 16 10
    if 59999 < o ∨ c = 0 ∨ 1000 < c then { d with mrp := { d.mrp with cfgErr := true } }
    else
      let d := { d with mrp := { d.mrp with closeMs := c, cfgErr := d.mrp.cfgErr && !v.toNat.testBit 31 } }
      if o = d.mrp.offsetMs then d else d.timeStep d.tmu.time o 2

/-! ### Meanings -/

/-- OP_TIME_SET_SET (R401). -/
def execOpTimeSetSet (c : CmdRef) (io : Io) (s : State) : Host.Outcome State Fault Refusal :=
  .next { s with dev := doOpTimeSetSet c io s.dev }

/-- OP_TIME_SET_STEP (R401). -/
def execOpTimeSetStep (c : CmdRef) (io : Io) (s : State) : Host.Outcome State Fault Refusal :=
  .next { s with dev := doOpTimeSetStep c io s.dev }

/-- OP_TIME_SET_FREQ (R401). -/
def execOpTimeSetFreq (c : CmdRef) (io : Io) (s : State) : Host.Outcome State Fault Refusal :=
  .next { s with dev := doOpTimeSetFreq c io s.dev }

/-- OP_TIME_SET_SLEW (R401). -/
def execOpTimeSetSlew (c : CmdRef) (io : Io) (s : State) : Host.Outcome State Fault Refusal :=
  .next { s with dev := doOpTimeSetSlew c io s.dev }

/-- OP_TIME_CAPTURE (R402). -/
def execOpTimeCapture (c : CmdRef) (io : Io) (s : State) : Host.Outcome State Fault Refusal :=
  .next { s with dev := doOpTimeCapture c io s.dev }

/-- PPS_OUT_EDGE (R399). -/
def execPpsOutEdge (s : State) : Host.Outcome State Fault Refusal :=
  .next { s with dev := doPpsOutEdge s.dev }

/-- PPS_IN_EDGE (R399). -/
def execPpsInEdge (s : State) : Host.Outcome State Fault Refusal :=
  .next { s with dev := doPpsInEdge s.dev }

/-- AT_PPS_TIMEOUT (R401). -/
def execAtPpsTimeout (s : State) : Host.Outcome State Fault Refusal :=
  .next { s with dev := doAtPpsTimeout s.dev }

/-- TIME_REF_LOSS (R396). -/
def execTimeRefLoss (s : State) : Host.Outcome State Fault Refusal :=
  .next { s with dev := doTimeRefLoss s.dev }

/-- SLEW_COMPLETE (R401). -/
def execSlewComplete (s : State) : Host.Outcome State Fault Refusal :=
  .next { s with dev := doSlewComplete s.dev }

/-- GL_MRP_CFG_WRITE (R400). -/
def execGlMrpCfgWrite (ep : Nat) (v : Word) (s : State) : Host.Outcome State Fault Refusal :=
  .next { s with dev := doGlMrpCfgWrite ep v s.dev }

/-- TIME_REF_RETURN (R396). -/
def execTimeRefReturn (s : State) : Host.Outcome State Fault Refusal :=
  .next { s with dev := doTimeRefReturn s.dev }

end Sys2Proof.Machine
end

