-- ==== Sys2Proof/Machine/Cvu.lean ====
section
/-! DEFINITION. The Check-Value Unit (chapter 14): algorithms, contexts, slices, compares, descriptor checks. -/
namespace Sys2Proof.Machine

/-! ### Algorithms (14 R429) -/

/-- Width of an algorithm in bits. -/
def cvuWidth (alg : Nat) : Nat :=
  match alg with
  | 0 | 1 => 32
  | 2 => 16
  | _ => 64
/-- Initial value of the running register. -/
def cvuInit (alg : Nat) : Nat :=
  match alg with
  | 0 | 1 => 0xFFFFFFFF
  | 2 => 0xFFFF
  | _ => 0
/-- XOROUT. -/
def cvuXor (alg : Nat) : Nat :=
  match alg with
  | 0 | 1 => 0xFFFFFFFF
  | _ => 0

/-- One bit of a check value of width `w` that enters most significant bit first. -/
def msbBit (w poly crc : Nat) : Nat := if crc.testBit (w - 1) then (2 * crc % 2 ^ w) ^^^ poly else 2 * crc
/-- `k` bits of it. -/
def msbBits (w poly : Nat) : Nat → Nat → Nat
  | 0, crc => crc
  | k + 1, crc => msbBits w poly k (msbBit w poly crc)

/-- The running register after a byte: CRC-32C and CRC-32 are reflected, CRC-16/CCITT and CRC-64/ECMA-182 are not
(14 Table 14-2). -/
def cvuByte (alg run : Nat) (b : Byte) : Nat :=
  match alg with
  | 0 => crcRefl 0x82F63B78 [b] run
  | 1 => crcRefl 0xEDB88320 [b] run
  | 2 => msbBits 16 0x1021 8 (run ^^^ (b.toNat * 2 ^ 8))
  | _ => msbBits 64 0x42F0E1EBA9EA3693 8 (run ^^^ (b.toNat * 2 ^ 56))

/-- The running register after bytes. -/
def cvuBytes (alg run : Nat) (bs : List Byte) : Nat := bs.foldl (cvuByte alg) run

/-! ### Contexts (14 R430) -/

def Dev.cvuCtx (d : Dev) (n : Nat) : CvuCtx := tget d.cvu.ctxs {} n
def Dev.modCvu (d : Dev) (n : Nat) (f : CvuCtx → CvuCtx) : Dev :=
  { d with cvu := { d.cvu with ctxs := tmod d.cvu.ctxs {} n f } }

/-- A value cut to the width of the running algorithm. -/
def CvuCtx.cut (x : CvuCtx) (v : Nat) : BitVec 64 := BitVec.ofNat 64 (v % 2 ^ cvuWidth x.runAlg)
/-- RESULT: RUN XOR XOROUT. -/
def CvuCtx.result (x : CvuCtx) : BitVec 64 := x.run ^^^ BitVec.ofNat 64 (cvuXor x.runAlg)
/-- The owner in force: 0 the set-up window, 1-4 regulators 0-3. -/
def CvuCtx.holder (x : CvuCtx) : Nat := if 4 < x.owner then 0 else x.owner
/-- Fold bytes entered at START: 9-15 act as 8. -/
def CvuCtx.folds (x : CvuCtx) : Nat := min 8 x.foldLen

/-- One buffered write is entered: what stays in the buffer, and the cycles that it takes (14 R433, R435). -/
def CvuCtx.enter (x : CvuCtx) (w : CvuWrite) : CvuCtx × Nat :=
  match w with
  | .data n v =>
    ({ x with
      run := x.cut (cvuBytes x.runAlg x.run.toNat (leBytes n v.toNat)), bytes := x.bytes + BitVec.ofNat 32 n, buf := none }, n)
  | .start k =>
    let x := if k = 0 then
        { x with
          runAlg := x.alg, run := BitVec.ofNat 64 (cvuInit x.alg), bytes := 0, isMatch := false, mismatch := false, checkField := false
          forced := false }
      else x
    let group := ((leBytes 8 x.fold.toNat).take x.folds |>.drop k).take 4
    ({ x with
      run := x.cut (cvuBytes x.runAlg x.run.toNat group)
      buf := if k + 4 < x.folds then some (.start (k + 4)) else none }, max 1 group.length)
  | .run hi v =>
    let r := if hi then putBits x.run.toNat 32 32 v.toNat else putBits x.run.toNat 0 32 v.toNat
    let x := { x with runAlg := x.alg }
    ({ x with run := x.cut r, buf := none }, 1)
  | .bytes v => ({ x with bytes := v, buf := none }, 1)
  | .fold hi v =>
    let r := if hi then putBits x.fold.toNat 32 32 v.toNat else putBits x.fold.toNat 0 32 v.toNat
    ({ x with fold := BitVec.ofNat 64 r, buf := none }, 1)

/-- A change of OWNER takes effect once PENDING is 0 (14 R432). -/
def CvuCtx.settle (x : CvuCtx) : CvuCtx :=
  match x.nextOwner, x.buf with
  | some o, none => { x with owner := o, nextOwner := none }
  | _, _ => x

/-- The next context in round robin whose buffer is full. -/
def Dev.cvuNext (d : Dev) : Option Nat :=
  ((List.range 64).map (fun i => (d.cvu.rr + 1 + i) % 64)).find? (fun n => (d.cvuCtx n).buf.isSome)

/-- One slice of the engine: the context served and the cycles taken (14 R433). -/
def Dev.cvuSlice (d : Dev) : Option (Nat × Nat × Dev) :=
  match d.cvuNext with
  | none => none
  | some n => match (d.cvuCtx n).buf with
    | none => none
    | some w =>
      let r := (d.cvuCtx n).enter w
      let d := d.modCvu n (fun _ => r.1.settle)
      some (n, r.2, { d with cvu := { d.cvu with rr := n } })

/-- The engine runs until context `n` has no buffered write: a writer or reader of it stalls for the cycles of the slices
before its own; `own` counts its own slice too (14 R434, R435). -/
def Dev.cvuDrain (n : Nat) (own : Bool) : Nat → Nat → Dev → Dev
  | 0, _, d => d
  | k + 1, cycles, d =>
    if (d.cvuCtx n).buf.isNone then (if cycles = 0 then d else d.bump .cvuStallCycles 0 cycles)
    else match d.cvuSlice with
      | none => d
      | some (m, c, d) => Dev.cvuDrain n own k (cycles + (if m = n ∧ !own then 0 else c)) d

/-- A writer or reader waits for context `n`. -/
def Dev.cvuWait (d : Dev) (n : Nat) (own : Bool) : Dev := d.cvuDrain n own 257 0

/-- A write is accepted into the buffer. -/
def Dev.cvuAccept (d : Dev) (n : Nat) (w : CvuWrite) : Dev := (d.cvuWait n false).modCvu n (fun x => { x with buf := some w })

/-- A write by a party: through the set-up window only the warden's, and never to contexts 0-7; of a register that only
the OWNER may write, ignored and counted when another party writes it (14 R428, R432, 20 R579). -/
def Dev.cvuBy (d : Dev) (who : CvuParty) (n : Nat) (ownerOnly : Bool) (f : Dev → Dev) : Dev :=
  let own (me : Nat) (d : Dev) : Dev :=
    if ownerOnly && decide ((d.cvuCtx n).holder ≠ me) then d.bump .cvuForeignWrite 0 else f d
  match who with
  | .window e => d.glWrite e false fun d =>
      if 64 ≤ n then d else if n < 8 then d.modEp e (fun x => { x with denied := true }) else own 0 d
  | .regulator r => if 4 ≤ r ∨ 64 ≤ n ∨ n < 8 ∨ !d.regRuns r then d else own (r + 1) d

/-! ### Compares (14 R437, R438) -/

/-- The XOR of the low `k` bytes of a value. -/
def xorBytes (k n : Nat) : Nat := (leBytes k n).foldl (fun a b => a ^^^ b.toNat) 0

/-- The parity of EXPECT agrees with EXP_PAR. -/
def CvuCtx.parityOk (x : CvuCtx) : Bool :=
  if x.parMode then decide (xorBytes (cvuWidth x.runAlg / 8) x.expect.toNat = x.expPar.toNat)
  else decide (popCount x.expect.toNat 64 % 2 = x.expPar.toNat % 2)

/-- COMPARE judges context `n`. -/
def Dev.cvuJudge (d : Dev) (n : Nat) : Dev :=
  let x := d.cvuCtx n
  let field := !x.forced && !x.parityOk
  let bad := x.forced || (x.parityOk && decide (x.result ≠ x.expect))
  let d := d.modCvu n (fun x => { x with isMatch := !field && !bad, mismatch := bad, checkField := field, forced := false })
  let d := d.bump (if field then .cvuCheckField else if bad then .cvuDataMismatch else .cvuMatch) 0
  if !x.irqEn || !(field || bad) then d
  else if x.holder = 0 then d.liveMs (if field then 0xF01 else 0xF00)
  else { d with cvu := { d.cvu with irqs := d.cvu.irqs ||| 2 ^ (x.holder - 1) } }

/-! ### Writes (14 R430-R435) -/

/-- A write of CTL: the plain fields first, then START, then COMPARE. -/
def Dev.cvuCtl (d : Dev) (who : CvuParty) (n : Nat) (v : Word) : Dev :=
  let b := v.toNat
  let d := d.cvuBy who n false fun d =>
    let d := d.modCvu n (fun x => { x with alg := bits b 0 2, parMode := b.testBit 2, irqEn := b.testBit 3, foldLen := bits b 4 4 })
    match who with
    | .window _ => d.modCvu n (fun x => ({ x with nextOwner := some (bits b 8 3) }).settle)
    | .regulator _ => d
  let d := if b.testBit 16 then d.cvuBy who n true (fun d => d.cvuAccept n (.start 0)) else d
  if b.testBit 17 then d.cvuBy who n true (fun d => (d.cvuWait n true).cvuJudge n) else d

/-- CVU_START: a write of CTL with START. -/
def doCvuStart (who : CvuParty) (ctx : Nat) (v : Word) (d : Dev) : Dev := if v.toNat.testBit 16 then d.cvuCtl who ctx v else d

/-- CVU_COMPARE: a write of CTL with COMPARE and without START. -/
def doCvuCompare (who : CvuParty) (ctx : Nat) (v : Word) (d : Dev) : Dev :=
  if v.toNat.testBit 17 && !v.toNat.testBit 16 then d.cvuCtl who ctx v else d

/-- CVU_DATA_WRITE: a write to DATA with its byte enables (14 R431). -/
def doCvuDataWrite (who : CvuParty) (ctx enables : Nat) (v : Word) (d : Dev) : Dev :=
  d.cvuBy who ctx true fun d =>
    match enables with
    | 1 => d.cvuAccept ctx (.data 1 v)
    | 3 => d.cvuAccept ctx (.data 2 v)
    | 15 => d.cvuAccept ctx (.data 4 v)
    | _ => d.bump .cvuBadWidth 0

/-- A write of another register of a context, by its offset in the block (20 R579). -/
def Dev.cvuReg (d : Dev) (who : CvuParty) (n off : Nat) (v : Word) : Dev :=
  let own (f : Dev → Dev) : Dev := d.cvuBy who n true f
  match off with
  | 0x00 => d.cvuCtl who n v
  | 0x04 => d.cvuBy who n false fun d => d.modCvu n (fun x =>
      { x with
        isMatch := x.isMatch && !v.toNat.testBit 1, mismatch := x.mismatch && !v.toNat.testBit 2
        checkField := x.checkField && !v.toNat.testBit 3, stateErr := x.stateErr && !v.toNat.testBit 4 })
  | 0x08 => own fun d => d.cvuAccept n (.bytes v)
  | 0x0C => own fun d => d.modCvu n (fun x => { x with expPar := BitVec.ofNat 8 v.toNat })
  | 0x10 => own fun d => d.cvuAccept n (.fold false v)
  | 0x14 => own fun d => d.cvuAccept n (.fold true v)
  | 0x18 => own fun d => d.cvuAccept n (.run false v)
  | 0x1C => own fun d => d.cvuAccept n (.run true v)
  | 0x20 => own fun d => d.modCvu n (fun x => { x with expect := BitVec.ofNat 64 (putBits x.expect.toNat 0 32 v.toNat) })
  | 0x24 => own fun d => d.modCvu n (fun x => { x with expect := BitVec.ofNat 64 (putBits x.expect.toNat 32 32 v.toNat) })
  | _ => d

/-! ### The engine (14 R433, R441) -/

/-- The parity prediction of a slice of context `n` that began at byte count `first`: a failure that the repeat does not show again
changes nothing, a lasting one spoils the computation's next compare (14 R441). -/
def Dev.cvuEngine (d : Dev) (n first : Nat) (check : Ecc) : Dev :=
  match check with
  | .once => d.record Ev.cvuEngine .shared none (dat [(0, 1, n), (1, 4, first), (5, 1, 0)])
  | .lasting =>
    let d := d.modCvu n (fun x => { x with stateErr := true, forced := true })
    ((d.liveMs 0xF02).modSrc 0xF02 (fun x => { x with lasting := true })).record Ev.cvuEngine .shared (some 0xF02)
      (dat [(0, 1, n), (1, 4, first), (5, 1, 1)])
  | _ => d

/-- CVU_SLICE: the engine enters one buffered write of the next context in round robin; its parity prediction may fail,
once or twice. -/
def doCvuSlice (check : Ecc) (d : Dev) : Dev :=
  match d.cvuNext with
  | none => d
  | some n =>
    let first := (d.cvuCtx n).bytes.toNat
    let d := match d.cvuSlice with
      | some r => r.2.2
      | none => d
    d.cvuEngine n first check

/-- A stored register of a context fails parity (14 R441): 0 CTL, 1 RUN, 2 FOLD, 3 BYTES. -/
def Dev.cvuStateBad (d : Dev) (n reg : Nat) : Dev :=
  ((d.modCvu n (fun x => { x with stateErr := true, forced := true })).liveMs 0xF03).record Ev.cvuStateParity .shared (some 0xF03)
    (dat [(0, 1, n), (1, 1, reg)])

/-! ### Descriptor checks (14 R439, 02 R47) -/

/-- The fold value that a descriptor's LOCATOR gives. -/
def descFold (desc : Descriptor) : BitVec 64 :=
  let l := bits desc.toNat 32 32
  BitVec.ofNat 64 (pack [(0, 20, bits l 0 20), (21, 6, bits l 20 6), (27, 2, bits l 26 2), (29, 3, bits l 28 3)])

/-- The words that the Host Interface feeds of a descriptor: offset 8 and byte 12 as 0. -/
def descWords (desc : Descriptor) : List Byte :=
  let bs := leBytes 64 desc.toNat
  bs.take 8 ++ List.replicate 5 0 ++ bs.drop 13

/-- How a descriptor fares in its compare. -/
inductive DescCheck where
  | good | badField | badData
  deriving DecidableEq, Repr

/-- The Host Interface checks a descriptor of endpoint `e` in its next context; `check` is how the engine fares on one of its slices. -/
def Dev.cvuDescriptor (d : Dev) (e : Nat) (desc : Descriptor) (check : Ecc) : DescCheck × Dev :=
  let fold := descFold desc
  let n := 2 * e + (if d.cvu.next.testBit e then 1 else 0)
  let d := { d with cvu := { d.cvu with next := d.cvu.next ^^^ 2 ^ e } }
  let x := d.cvuCtx n
  let run0 := cvuBytes 0 (cvuInit 0) (leBytes 4 fold.toNat)
  let y : CvuCtx :=
    { x with
      alg := 0, runAlg := 0, parMode := true, foldLen := 4, fold := fold, bytes := 64
      run := BitVec.ofNat 64 (cvuBytes 0 run0 (descWords desc))
      expect := BitVec.ofNat 64 (bits desc.toNat 64 32), expPar := BitVec.ofNat 8 (bits desc.toNat 96 8) }
  let d := ((d.modCvu n (fun _ => y)).cvuEngine n 0 check).cvuJudge n
  let r := d.cvuCtx n
  (if r.checkField then .badField else if r.mismatch then .badData else .good, d)

/-! ### Meanings -/

/-- CVU_DATA_WRITE (R431). -/
def execCvuDataWrite (who : CvuParty) (ctx : Nat) (enables : Nat) (v : Word) (s : State) : Host.Outcome State Fault Refusal :=
  .next { s with dev := doCvuDataWrite who ctx enables v s.dev }

/-- CVU_START (R435). -/
def execCvuStart (who : CvuParty) (ctx : Nat) (v : Word) (s : State) : Host.Outcome State Fault Refusal :=
  .next { s with dev := doCvuStart who ctx v s.dev }

/-- CVU_COMPARE (R437). -/
def execCvuCompare (who : CvuParty) (ctx : Nat) (v : Word) (s : State) : Host.Outcome State Fault Refusal :=
  .next { s with dev := doCvuCompare who ctx v s.dev }

/-- CVU_SLICE (R433). -/
def execCvuSlice (check : Ecc) (s : State) : Host.Outcome State Fault Refusal :=
  .next { s with dev := doCvuSlice check s.dev }

end Sys2Proof.Machine
end

