-- ==== Sys2Proof/Machine/Ports.lean ====
section
/-! DEFINITION. Lanes, macros, ports and links (chapter 4), and the sleep of pipelines (18 R531, R532). -/
namespace Sys2Proof.Machine

/-! ### Port records and their parts -/

/-- SPEED of a port state entry (02 Table 2-19). -/
def speedCode (gbps : Nat) : Nat :=
  match gbps with
  | 100 => 1 | 200 => 2 | 400 => 3 | 800 => 4 | 1600 => 5 | _ => 0

/-- STATE of a port state entry (02 Table 2-19). -/
def PortSt.code : PortSt → Nat
  | .adminDown => 0 | .down => 1 | .training => 2 | .up => 3 | .holdRunning => 4 | .holdExpired => 5

/-- The lanes of a port. -/
def Dev.lanesOf (d : Dev) (p : Nat) : List Nat := (List.range (d.port p).lanes).map (p + ·)

/-- A port's record in the event log (04 R139). -/
def Dev.portEvent (d : Dev) (code p : Nat) (fs : List (Nat × Nat × Nat)) : Dev :=
  d.record code (d.attribution (0x100 + p)) (some (0x100 + p)) (dat ((0, 2, p) :: fs))

/-- FS_LANE_LINK is live while the lane's port is in UP or HOLD_RUNNING and a cause of Table 4-3 holds (04 R125). -/
def Dev.laneRefresh (d : Dev) (l : Nat) : Dev :=
  let on := match d.portOfLane l with
    | some p => match (d.port p).st with
      | .up | .holdRunning => !(d.lane l).causes.isEmpty
      | _ => false
    | none => false
  if (d.src (0x100 + l)).live = on then d else d.live (0x100 + l) on

/-- A port changes state (04 R129). -/
def Dev.setPortSt (d : Dev) (p : Nat) (st : PortSt) : Dev :=
  let d := d.modPort p (fun x => { x with st := st, since := if x.st = st then x.since else d.bal.tick })
  (d.lanesOf p).foldl Dev.laneRefresh d

/-- FS_CLK_SERDES_REF: the 156.25 MHz reference is absent while a macro is powered (18 Table 18-9). -/
def Dev.serdesRefresh (d : Dev) : Dev :=
  d.live 0x003 (!d.bal.serdesRef && (List.range 64).any (fun m => decide ((d.octal m).st ≠ .off)))

/-! ### Macro power (04 R126) -/

/-- EV_MACRO_POWER, with FS_LANE_LINK of the macro's first lane (04 R139). -/
def Dev.macroEvent (d : Dev) (m on failed : Nat) : Dev :=
  d.record Ev.macroPower (d.attribution (0x100 + 8 * m)) (some (0x100 + 8 * m)) (dat [(0, 1, m), (1, 1, on), (2, 1, failed)])

/-- A macro whose lanes are all administratively down is powered off. -/
def Dev.macroIdle (d : Dev) (m : Nat) : Dev :=
  let ls := (List.range 8).map (8 * m + ·)
  if (d.octal m).st = .off ∨ ls.any (fun l => d.isPort l && decide ((d.port l).st ≠ .adminDown)) then d
  else
    let d := ls.foldl (fun d l => (d.modLane l (fun _ => {})).laneRefresh l) d
    ((d.modOctal m (fun x => { x with st := .off, calibFail := 0 })).macroEvent m 0 0).serdesRefresh

/-- A powered-off macro begins to power up and calibrate. -/
def Dev.macroStart (d : Dev) (m : Nat) : Dev :=
  if (d.octal m).st = .off then (d.modOctal m (fun x => { x with st := .calibrating })).serdesRefresh else d

/-! ### Links, which regulator 2 brings up and holds (01 Table 1-5, 15 R463; 04 R117, R124, R129, R130) -/

/-- Every transmitter of a port is kept in electrical idle by the device mode or by its polder's SAFE_HOLD
(18 R528, R529, Diagnostics; 03 Table 3-6). -/
def Dev.linkIdle (d : Dev) (p : Nat) : Bool :=
  match d.bal.mode with
  | .forwarding => match d.lanePolder p with
    | some q => decide ((d.polder q).st = .safeHold) && (d.polder q).holdIdle
    | none => true
  | .draining => false
  | .safeHold => d.bal.holdIdle
  | .diagnostic => decide (tget d.bal.loopback 0 p = 0)
  | _ => true

/-- Training may begin: the device is FORWARDING and the polder is not in SAFE_HOLD, or the port is looped in
DIAGNOSTIC (04 Table 4-4). -/
def Dev.linkStarts (d : Dev) (p : Nat) : Bool :=
  !d.linkIdle p && match d.bal.mode with
    | .forwarding => !d.polderHeld p
    | .diagnostic => true
    | _ => false

/-- A training attempt begins, once the macro has calibrated. -/
def Dev.trainStart (d : Dev) (p : Nat) : Dev :=
  if (d.octal (p / 8)).st = .on then
    d.modPort p (fun x =>
      { x with attempts := x.attempts + 1, trainStart := d.bal.tick, retryAt := none, realigned := true, phase := 0, locked := 0 })
  else d.modPort p (fun x => { x with retryAt := none, realigned := false })

/-- An attempt is running: the port is TRAINING, or its link is being brought back in a hold state by training or, on a
C2M port, by the receivers on their own (04 R130). -/
def Port.tries (x : Port) : Bool :=
  x.retryAt.isNone && match x.st with
    | .training => x.realigned
    | .holdRunning | .holdExpired => x.realigned || decide (x.iface = 2)
    | _ => false

/-- The device mode or the polder state acts on a port's link (04 Table 4-4): electrical idle reads DOWN; a cancelled
hold over links that stay up reads HOLD_EXPIRED; a DOWN port begins to train once it may. -/
def Dev.linkRefresh (d : Dev) (p : Nat) : Dev :=
  match (d.port p).st with
  | .adminDown => d
  | .down => if d.linkStarts p then (d.setPortSt p .training).trainStart p else d
  | st =>
    if d.linkIdle p then
      (d.modPort p (fun x => { x with retryAt := none, realigned := false, locked := 0, hold := .barred })).setPortSt p .down
    else if st = .holdRunning ∧ (d.bal.mode = .safeHold ∨ (d.bal.mode = .forwarding ∧ d.polderHeld p)) then
      (d.modPort p (fun x => { x with hold := if x.hold = .flushing then x.hold else .barred })).setPortSt p .holdExpired
    else d

/-- The queues of a port that is UP open once its polder is not in SAFE_HOLD (10 Table 10-5). -/
def Dev.reopen (d : Dev) (p : Nat) : Dev :=
  if (d.port p).st = .up ∧ !(d.bal.mode = .forwarding ∧ d.polderHeld p) then d.modPort p (fun x => { x with hold := .opened })
  else d

/-- The links of all ports follow the device mode and the polder states. -/
def Dev.linksRefresh (d : Dev) : Dev := d.portList.foldl (fun d p => (d.linkRefresh p).reopen p) d

/-- Hold expiry, or BREAK: the queues are flushed (04 R132), and a CR or KR port that was realigning trains anew. -/
def Dev.expireHold (d : Dev) (p : Nat) (brk : Bool) : Dev :=
  let r := d.flushPort p .drLinkHoldExpired false
  let d := (r.2.2.setPortSt p .holdExpired).portEvent Ev.portHoldExpired p [(2, 4, r.1), (6, 8, r.2.1), (14, 1, b2n brk)]
  if (d.port p).iface ≠ 2 ∧ !(d.port p).realigned then d.trainStart p else d

/-- An UP port loses its link, or is to retrain (04 Table 4-4): the hold starts at this AON tick, or, with HOLD_US 0, the
actions of expiry are taken at once. -/
def Dev.loseLink (d : Dev) (p cause lane : Nat) : Dev :=
  let d := d.portEvent Ev.portDown p [(2, 1, cause), (3, 2, lane)]
  let d := d.modPort p (fun x => { x with realigned := false, retryAt := none, trainStart := d.bal.tick })
  if 0 < (d.port p).holdUs then
    (d.modPort p (fun x => { x with hold := .hold, holdEnd := d.bal.tick + usTicks x.holdUs })).setPortSt p .holdRunning
  else
    let d := (d.flushPort p .drLinkHoldExpired false).2.2.setPortSt p .holdExpired
    if (d.port p).iface ≠ 2 then d.trainStart p else d

/-- A cause of Table 4-3 holds on a lane from a tick on (04 R125). -/
def Dev.laneCause (d : Dev) (l cause since : Nat) : Dev :=
  if (d.lane l).causes.any (fun x => decide (x.1 = cause)) then d
  else (d.modLane l (fun x => { x with causes := x.causes ++ [(cause, since)] })).laneRefresh l

/-- LINK_LOSS_DECLARED: a cause of Table 4-3 begins to hold on a lane, or, `held`, has held on it for DEBOUNCE_US, and the loss of an UP
port's link is declared (04 R125, R130); without debounce the first tick of the cause declares it. Cause 0x04 stands on the port's
first lane. -/
def doLinkLossDeclared (port cause lane : Nat) (held : Bool) (d : Dev) : Dev :=
  let l := if cause = 4 then port else lane
  if !d.isPort port || !(d.lanesOf port).contains l || !decide (1 ≤ cause ∧ cause ≤ 6) then d
  else if !held && decide ((d.port port).debounceUs ≠ 0) || decide ((d.port port).st ≠ .up) then
    if held then d else d.laneCause l cause d.bal.tick
  else
    let d := match (d.lane l).causes.find? (fun x => decide (x.1 = cause)) with
      | some x => d.reach (x.2 + usTicks (d.port port).debounceUs)
      | none => d.laneCause l cause (d.bal.tick - usTicks (d.port port).debounceUs)
    let d := (d.modPort port (fun x =>
      { x with
        losses := min 65535 (x.losses + 1)
        locked := if cause ≤ 3 ∧ x.locked.testBit (l - port) then x.locked - 2 ^ (l - port) else x.locked })).bump .linkDown port
    (d.loseLink port cause l).laneRefresh l

/-- LINK_UP: every lane is locked, FEC and PCS are aligned, and no local or remote fault remains (04 Table 4-4, R130). In
the tick of the hold's expiry the expiry comes first (04 R133). Lanes in training make no progress while their adaptation
engine is stopped (15 R463). -/
def doLinkUp (port : Nat) (d : Dev) : Dev :=
  let x := d.port port
  let bad := (d.octal (port / 8)).st ≠ .on ∨ (d.lanesOf port).any (fun l => (d.lane l).causes.any (fun c => decide (c.1 = 6)))
  let waits := x.retryAt.isSome || (decide (x.st = .training) && !d.regRuns 2) || (x.realigned && d.reg.adpStopped.testBit (port / 64))
  if !d.isPort port || decide bad || waits || d.linkIdle port then d
  else match x.st with
  | .training | .holdRunning | .holdExpired =>
    let d := if x.st = .holdRunning ∧ x.holdEnd ≤ d.bal.tick then d.expireHold port false else d
    let back := if x.st = .holdRunning ∧ (d.port port).st = .holdRunning then some d.bal.tick else none
    let us := min (2 ^ 32 - 1) ((d.bal.tick - (d.port port).since) / 25)
    let d := (d.lanesOf port).foldl (fun d l => d.modLane l (fun y => { y with causes := [] })) d
    let d := d.modPort port (fun y => { y with locked := 2 ^ y.lanes - 1, retryAt := none, realigned := false, back := back })
    ((d.setPortSt port .up).portEvent Ev.portUp port
      [(2, 1, speedCode (d.macRate port)), (3, 1, b2n (d.octal (port / 8)).rate100), (4, 4, us)]).reopen port
  | _ => d

/-- HOLD_EXPIRY: the hold timer reaches its end (04 R130, R132). -/
def doHoldExpiry (port : Nat) (d : Dev) : Dev :=
  if d.isPort port && d.regRuns 2 && decide ((d.port port).st = .holdRunning) then
    (d.reach (d.port port).holdEnd).expireHold port false
  else d

/-- REALIGN_TIMEOUT: a CR or KR port has tried for 1 ms to realign and begins to negotiate and train (04 R130), also where a
SAFE_HOLD has cancelled its hold meanwhile. -/
def doRealignTimeout (port : Nat) (d : Dev) : Dev :=
  let x := d.port port
  if d.isPort port && decide ((x.st = .holdRunning ∨ x.st = .holdExpired) ∧ x.iface ≠ 2 ∧ !x.realigned) && x.retryAt.isNone && d.regRuns 2 then
    (d.reach (x.trainStart + msTicks 1)).trainStart port
  else d

/-- TRAINING_TIMEOUT: TRAIN_TIMEOUT has passed without lock (04 R124). A CR or KR port waits 10 ms; a C2M port restarts its
receive convergence. -/
def doTrainingTimeout (port phase : Nat) (d : Dev) : Dev :=
  let x := d.port port
  if !d.isPort port || !x.tries || !d.regRuns 2 then d
  else
    let ph := if x.iface = 2 then 2 else if x.anEn ∧ phase = 0 then 0 else 1
    let d := d.reach (x.trainStart + msTicks x.trainTimeoutMs)
    let d := (d.bump .trainFail port).modPort port (fun y => { y with phase := ph })
    let d := d.portEvent Ev.trainingFailed port [(2, 4, x.attempts), (6, 1, ph)]
    if x.iface = 2 then
      d.modPort port (fun y => { y with attempts := y.attempts + 1, trainStart := d.bal.tick })
    else d.modPort port (fun y => { y with retryAt := some (d.bal.tick + msTicks 10) })

/-- TRAINING_RESTART: the wait of 10 ms is over (04 R124). -/
def doTrainingRestart (port : Nat) (d : Dev) : Dev :=
  match (d.port port).retryAt with
  | some t => if d.isPort port && d.regRuns 2 then (d.reach t).trainStart port else d
  | none => d

/-- AN_MISMATCH: the partner's base page does not offer the configured port type (04 R117). -/
def doAnMismatch (port page : Nat) (d : Dev) : Dev :=
  if d.isPort port && (d.port port).tries && (d.port port).anEn && d.regRuns 2 then
    d.portEvent Ev.anMismatch port [(2, 6, page)]
  else d

/-- MACRO_POWER_UP_DONE: calibration ends, with the lanes that failed it, and training begins (04 R126). -/
def doMacroPowerUpDone (octal failed : Nat) (d : Dev) : Dev :=
  if (d.octal octal).st ≠ .calibrating ∨ !d.regRuns 2 then d
  else
    let ls := (List.range 8).map (8 * octal + ·)
    let d := (d.modOctal octal (fun x => { x with st := .on, calibFail := failed % 256 })).macroEvent octal 1 failed
    let d := ls.foldl (fun d l =>
      if failed.testBit (l % 8) then d.modLane l (fun x => { x with causes := [(6, d.bal.tick)] }) else d) d
    ls.foldl (fun d l => if d.isPort l && decide ((d.port l).st = .training) then d.trainStart l else d) d

/-- ADAPTATION_SLICE: an engine serves its next lane: even slices the lanes of its die in turn, odd slices the lanes in
training, or the next steady lane where none trains (01 R28). A stopped engine serves none (15 R463). -/
def doAdaptationSlice (engine : Nat) (d : Dev) : Dev :=
  if 8 ≤ engine ∨ !d.corePowered ∨ d.reg.adpStopped.testBit engine then d
  else
    let r := d.reg
    let odd := decide (tget r.adpSlice 0 engine = 1)
    let r := { r with adpSlice := tset r.adpSlice 0 engine (if odd then 0 else 1) }
    if !odd then { d with reg := { r with adpEven := tset r.adpEven 0 engine ((tget r.adpEven 0 engine + 1) % 64) } }
    else
      let at_ := tget r.adpOdd 0 engine
      let trains (i : Nat) : Bool := match d.portOfLane (64 * engine + i) with
        | some p => (d.port p).tries
        | none => false
      let k := ((List.range 64).find? (fun i => trains ((at_ + i) % 64))).getD 0
      { d with reg := { r with adpOdd := tset r.adpOdd 0 engine ((at_ + k + 1) % 64) } }

/-! ### Port commands (04 R135-R138) -/

/-- The lowest lane of a port in the list that is not administratively down. -/
def Dev.busyLane (d : Dev) (ps : List Nat) : Option Nat :=
  (ps.find? (fun p => decide ((d.port p).st ≠ .adminDown)))

/-- A port's account takes its defaults (10 R325); with no headroom reserved its classes are long-reach no more (11 R346). -/
def Dev.acctDefaults (d : Dev) (p : Nat) : Dev :=
  let zero := List.replicate 8 0
  let d := (d.modAcct p (fun y =>
    { y.setMin 0 with max := 1048576, alpha := List.replicate 8 6, xonDelta := 32, hr := zero, hrGoal := zero })).judgeAll
  { d with spw := { d.spw with lrqs := (List.range 8).foldl (fun t c => tmod t {} (8 * p + c) (fun l => { l with mib := 0 })) d.spw.lrqs } }

/-- A port is dissolved: it is configured no more, and its default-action entries go with it (04 R136). -/
def Dev.dissolve (d : Dev) (p : Nat) : Dev :=
  let d := d.acctDefaults p
  let d := (d.lanesOf p).foldl (fun d l => d.clearLive (0x100 + l)) d
  let d := d.modPort p (fun _ => {})
  let d := ((d.modTide p (fun _ => {})).tideReload p).modGauge p (fun _ => {})
  { d with pse := { d.pse with entries := (List.range 6).foldl (fun t c => tset t none (8 * p + c) none) d.pse.entries } }

/-- The per-port defaults that the commit of OP_PORT_CONFIG sets (04 R136, 05 R159, 10 R325, R328, 12 R389). -/
def Dev.portDefaults (d : Dev) (p : Nat) : Dev :=
  let d := { d with pse := { d.pse with entries := (List.range 6).foldl (fun t c => tset t none (8 * p + c) none) d.pse.entries } }
  let d := d.acctDefaults p
  let y := d.fcp p
  let d := if y.pauseMode then d.xonAll p else d
  let z : Fcp := {}
  let d := (d.modFcp p (fun y =>
    { y with
      pauseMode := false, stormBreak := z.stormBreak, defPcp := z.defPcp, quanta := z.quanta, stormMs := z.stormMs
      recoverMs := z.recoverMs, ecnCells := z.ecnCells, prioMap := z.prioMap, qmap := z.qmap, sa := z.sa
      owed := y.owed || (y.pauseMode && decide (y.xoff ≠ 0)) })).watch p
  let d := d.modSched p (fun _ => {})
  let d := (List.range 42).foldl (fun (d : Dev) i => d.setBucket (64 * p + i) (bucketReset (64 * p + i))) d
  let d := d.modTide p (fun _ => {})
  d.modGauge p (fun _ => { from_ := d.timeNsAll })

/-- OP_PORT_CONFIG (04 R135, R136): the ports that the new one overlaps, or, with a new lane rate, every port of the macro,
are dissolved, if they are all administratively down. -/
def doOpPortConfig (c : CmdRef) (_io : Io) (d : Dev) : Dev :=
  d.step1 c (isOp 0x90) fun d x =>
    let p := x.fld 16 0 10
    let n := x.fld 18 0 4
    let rate := decide (x.fld 18 4 1 = 1)
    let m := p / 8
    let gone := ((List.range 8).map (8 * m + ·)).filter (fun q =>
      d.isPort q && (decide (q < p + n ∧ p < q + (d.port q).lanes) || decide (rate ≠ (d.octal m).rate100)))
    match d.busyLane gone with
    | some l => d.fail c stWrongMode l
    | none =>
      let d := gone.foldl Dev.dissolve d
      let pick (v dflt : Nat) : Nat := if v = 0 then dflt else v
      let deb := x.fld 22 0 16
      let cfg : Port :=
        { configured := true, lanes := n, iface := x.fld 19 0 2, anEn := decide (x.fld 19 2 1 = 1)
          maxFrame := pick (x.fld 20 0 14) 9216, debounceUs := if deb = 0xFFFF then 0 else pick deb 10
          rxInvert := x.fld 24 0 8, txInvert := x.fld 25 0 8, txPreset := x.fld 26 0 4
          trainTimeoutMs := pick (x.fld 28 0 16) 1000, since := d.bal.tick }
      let d := (d.modOctal m (fun y => { y with rate100 := rate })).modPort p (fun _ => cfg)
      (d.portDefaults p).refreshPauseAll.ok c

/-- Classes that the partner pauses on a port (02 Table 2-19). -/
def Fcp.pausedRx (x : Fcp) : Nat :=
  if x.running 8 then 255 else (List.range 8).foldl (fun n c => if x.running c then n + 2 ^ c else n) 0

/-- The port state entry of a lane, for a caller who may see it (02 Table 2-19). -/
def Dev.portEntry (d : Dev) (l : Nat) : Nat :=
  match d.portOfLane l with
  | none => 0
  | some p =>
    if p ≠ l then 6
    else
      let x := d.port p
      let y := d.fcp p
      let tx := if y.pauseMode then (if y.sent = 0 then 0 else 255) else y.sent
      let left := if x.st = .holdRunning then min 255 (cdiv (x.holdEnd - d.bal.tick) 12500) else 0
      pack [(0, 4, x.st.code), (4, 4, speedCode (d.macRate p)), (8, 8, y.pausedRx), (16, 8, tx), (24, 8, left)]

/-- The results of OP_PORT_STATE for the state after the command (04 R137). -/
def Dev.portResult (d : Dev) (c : CmdRef) (p : Nat) : Dev :=
  let x := d.port p
  d.ok c (pack [(0, 32, d.portEntry p), (32, 16, x.losses), (48, 8, x.locked)]) (x.since % 2 ^ 40)

/-- OP_PORT_STATE READ (04 R137). -/
def doOpPortStateRead (c : CmdRef) (_io : Io) (d : Dev) : Dev :=
  d.step1 c (isOpAct 0x91 (18, 0, 2) 0) fun d x =>
    if d.isPort (x.fld 16 0 10) then d.portResult c (x.fld 16 0 10) else d.fail c stNotFound

/-- A port goes administratively up (04 Table 4-4); an unassigned port is held down (03 R89). -/
def Dev.adminUp (d : Dev) (p ep : Nat) : Dev :=
  if (d.port p).st ≠ .adminDown ∨ d.lanePolder p = none then d
  else
    let d := (d.macroStart (p / 8)).portEvent Ev.portAdmin p [(2, 1, 1), (3, 1, ep)]
    ((d.modPort p (fun x => { x with attempts := 0, retryAt := none, realigned := false })).setPortSt p .down).linkRefresh p

/-- OP_PORT_STATE ADMIN_UP (04 Table 4-4). -/
def doOpPortStateAdminUp (c : CmdRef) (_io : Io) (d : Dev) : Dev :=
  d.step1 c (isOpAct 0x91 (18, 0, 2) 1) fun d x =>
    let p := x.fld 16 0 10
    if d.isPort p then (d.adminUp p c.ep).portResult c p else d.fail c stNotFound

/-- The transmitter of a port stops at the next frame boundary: the frames dispatched behind the one that it is sending are freed as
DR_EGRESS_DOWN, counted against their ingress ports (04 Table 4-4, R140). -/
def Dev.stopTransmitter (d : Dev) (p : Nat) : Dev :=
  (d.txs p).tail.foldl (fun (d : Dev) y =>
    let d := (d.setTxs p ((d.txs p).erase y)).settleCharge p y
    if y.lost then d.copyEnd y.dest.party y.ent y.dest
    else d.copyDrop y.dest.party y.ent y.dest .drEgressDown (((d.pkt? y.ent.pid).map Pkt.first).getD 0)) d

/-- A port goes administratively down (04 Table 4-4): its queued frames are freed as DR_EGRESS_DOWN, counted against their
ingress ports (04 R140). -/
def Dev.adminDown (d : Dev) (p ep : Nat) : Dev :=
  if (d.port p).st = .adminDown then d
  else
    let d := (d.stopTransmitter p).flushPort p .drEgressDown true |>.2.2
    let d := (d.modPort p (fun x => { x with retryAt := none, realigned := false, locked := 0 })).setPortSt p .adminDown
    (d.portEvent Ev.portAdmin p [(2, 1, 0), (3, 1, ep)]).macroIdle (p / 8)

/-- OP_PORT_STATE ADMIN_DOWN (04 Table 4-4). -/
def doOpPortStateAdminDown (c : CmdRef) (_io : Io) (d : Dev) : Dev :=
  d.step1 c (isOpAct 0x91 (18, 0, 2) 2) fun d x =>
    let p := x.fld 16 0 10
    if d.isPort p then (d.adminDown p c.ep).portResult c p else d.fail c stNotFound

/-- OP_PORT_STATE RETRAIN: an UP port goes the way of a link loss, with cause 0x00; no effect in another state (04 R137,
Table 4-4). -/
def doOpPortStateRetrain (c : CmdRef) (_io : Io) (d : Dev) : Dev :=
  d.step1 c (isOpAct 0x91 (18, 0, 2) 3) fun d x =>
    let p := x.fld 16 0 10
    if d.isPort p then
      (if (d.port p).st = .up then d.loseLink p 0 p else d).portResult c p
    else d.fail c stNotFound

/-- A BREAK in the tick of the link's return wins: the held frames are freed as at an expiry, and the port is UP with empty queues (04
R138). -/
def Dev.breakBack (d : Dev) (p : Nat) : Dev :=
  let r := d.flushPort p .drLinkHoldExpired false
  ((r.2.2.modPort p (fun x => { x with back := none })).portEvent Ev.portHoldExpired p [(2, 4, r.1), (6, 8, r.2.1), (14, 1, 1)]).reopen p

/-- OP_PORT_HOLD_SET: HOLD_US of one port or of every port of the ring's polder, and BREAK of a running hold (04 R138). -/
def doOpPortHoldSet (c : CmdRef) (_io : Io) (d : Dev) : Dev :=
  d.step1 c (isOp 0x92) fun d x =>
    let all := decide (x.fld 18 1 1 = 1)
    let p := x.fld 16 0 10
    if !all && !d.isPort p then d.fail c stNotFound
    else
      let ps := if all then d.portList.filter (fun q => decide (d.lanePolder q = some x.polder)) else [p]
      let r := ps.foldl (fun (a : Bool × Dev) (q : Nat) =>
        let e := a.2.modPort q (fun y => { y with holdUs := x.fld 20 0 17 })
        if x.fld 18 0 1 = 0 then (a.1, e)
        else if (e.port q).st = .holdRunning then (true, e.expireHold q true)
        else if (e.port q).st = .up ∧ (e.port q).back = some e.bal.tick then (true, e.breakBack q)
        else (a.1, e)) (false, d)
      r.2.ok c (b2n r.1)

/-! ### Skid buffers and sleep (04 R127, R128; 18 R531, R532) -/

/-- SOF_PRE_INDICATION: a frame, given without its FCS, starts on a port whose pipeline sleeps, wakes or is stopped. It
goes to the port's skid buffers, or, where they are full, is dropped (04 R127, R128). -/
def doSofPreIndication (port : Nat) (frame : List Byte) (d : Dev) : Dev :=
  let p := port / 32
  let x := d.port port
  if !d.takesPackets || !d.isPort port || decide (x.st ≠ .up ∨ d.loopKind port ≠ 0) || (d.parserUp p && x.skid.isEmpty) then d
  else (d.trigger p).intoSkid port frame

/-- The ports of pipeline `p`: front-panel, recirculation, host. -/
def Dev.pipeKeys (d : Dev) (p : Nat) : List Nat :=
  (d.dp.queues.filter (fun q => decide (pipeOf (destOf q.1).port = p) && !q.2.ents.isEmpty)).map (fun q => q.1)

/-- Nothing stands against the sleep of pipeline `p` at this moment (18 R531). -/
def Dev.pipeIdle (d : Dev) (p : Nat) : Bool :=
  let fronts := d.portList.filter (fun q => decide (q / 32 = p))
  (d.pipeKeys p).isEmpty &&
    d.dp.tx.all (fun t => t.2.isEmpty || decide (pipeOf t.1 ≠ p)) &&
    (tget d.dp.loop [] p).isEmpty &&
    d.dp.pkts.all (fun x => match x.2 with
      | some y => y.whole || decide (y.pipe ≠ p)
      | none => true) &&
    (decide (p % 4 ≠ 0) || (tget d.dp.inject [] (p / 4)).isEmpty) &&
    fronts.all (fun q => (d.port q).skid.isEmpty && decide ((d.fcp q).xoff = 0) && (d.fcp q).timers.isEmpty)

/-- PIPELINE_SLEEP_ENTRY: SLEEP_US have passed since the pipeline was last busy, and nothing keeps it awake (18 R531). -/
def doPipelineSleepEntry (pipe : Nat) (d : Dev) : Dev :=
  let x := d.pipe pipe
  if 16 ≤ pipe ∨ !d.corePowered ∨ x.asleep ∨ x.waking ∨ x.idleUs = 0 ∨ !d.pipeIdle pipe then d
  else (d.reach (x.idleSince + usTicks (min 10000 x.idleUs))).modPipe pipe (fun y => { y with asleep := true })

/-- PIPELINE_WAKE: a waking pipeline's clocks run again; a wake longer than 96 ns is reported (18 R532, 04 R128). -/
def doPipelineWake (pipe : Nat) (late : Bool) (d : Dev) : Dev :=
  if (d.pipe pipe).waking then
    let d := d.modPipe pipe (fun y => { y with asleep := false, waking := false, idleSince := d.bal.tick, idleUs := d.bal.sleepUs })
    if late then d.liveMs (0x539 + 64 * pipe) else d
  else d

/-! ### Meanings -/

/-- OP_PORT_CONFIG (R136). -/
def execOpPortConfig (c : CmdRef) (io : Io) (s : State) : Host.Outcome State Fault Refusal :=
  .next { s with dev := doOpPortConfig c io s.dev }

/-- OP_PORT_STATE_READ (R137). -/
def execOpPortStateRead (c : CmdRef) (io : Io) (s : State) : Host.Outcome State Fault Refusal :=
  .next { s with dev := doOpPortStateRead c io s.dev }

/-- OP_PORT_STATE_ADMIN_UP (R129). -/
def execOpPortStateAdminUp (c : CmdRef) (io : Io) (s : State) : Host.Outcome State Fault Refusal :=
  .next { s with dev := doOpPortStateAdminUp c io s.dev }

/-- OP_PORT_STATE_ADMIN_DOWN (R129). -/
def execOpPortStateAdminDown (c : CmdRef) (io : Io) (s : State) : Host.Outcome State Fault Refusal :=
  .next { s with dev := doOpPortStateAdminDown c io s.dev }

/-- OP_PORT_STATE_RETRAIN (R129). -/
def execOpPortStateRetrain (c : CmdRef) (io : Io) (s : State) : Host.Outcome State Fault Refusal :=
  .next { s with dev := doOpPortStateRetrain c io s.dev }

/-- OP_PORT_HOLD_SET (R138). -/
def execOpPortHoldSet (c : CmdRef) (io : Io) (s : State) : Host.Outcome State Fault Refusal :=
  .next { s with dev := doOpPortHoldSet c io s.dev }

/-- SOF_PRE_INDICATION (R127). -/
def execSofPreIndication (port : Nat) (frame : List Byte) (s : State) : Host.Outcome State Fault Refusal :=
  .next { s with dev := doSofPreIndication port frame s.dev }

/-- LINK_LOSS_DECLARED (R130). -/
def execLinkLossDeclared (port : Nat) (cause : Nat) (lane : Nat) (held : Bool) (s : State) : Host.Outcome State Fault Refusal :=
  .next { s with dev := doLinkLossDeclared port cause lane held s.dev }

/-- LINK_UP (R129). -/
def execLinkUp (port : Nat) (s : State) : Host.Outcome State Fault Refusal :=
  .next { s with dev := doLinkUp port s.dev }

/-- HOLD_EXPIRY (R132). -/
def execHoldExpiry (port : Nat) (s : State) : Host.Outcome State Fault Refusal :=
  .next { s with dev := doHoldExpiry port s.dev }

/-- REALIGN_TIMEOUT (R130). -/
def execRealignTimeout (port : Nat) (s : State) : Host.Outcome State Fault Refusal :=
  .next { s with dev := doRealignTimeout port s.dev }

/-- TRAINING_TIMEOUT (R124). -/
def execTrainingTimeout (port : Nat) (phase : Nat) (s : State) : Host.Outcome State Fault Refusal :=
  .next { s with dev := doTrainingTimeout port phase s.dev }

/-- TRAINING_RESTART (R124). -/
def execTrainingRestart (port : Nat) (s : State) : Host.Outcome State Fault Refusal :=
  .next { s with dev := doTrainingRestart port s.dev }

/-- MACRO_POWER_UP_DONE (R126). -/
def execMacroPowerUpDone (octal : Nat) (failed : Nat) (s : State) : Host.Outcome State Fault Refusal :=
  .next { s with dev := doMacroPowerUpDone octal failed s.dev }

/-- ADAPTATION_SLICE (R28). -/
def execAdaptationSlice (engine : Nat) (s : State) : Host.Outcome State Fault Refusal :=
  .next { s with dev := doAdaptationSlice engine s.dev }

/-- PIPELINE_SLEEP_ENTRY (R531). -/
def execPipelineSleepEntry (pipe : Nat) (s : State) : Host.Outcome State Fault Refusal :=
  .next { s with dev := doPipelineSleepEntry pipe s.dev }

/-- PIPELINE_WAKE (R532). -/
def execPipelineWake (pipe : Nat) (late : Bool) (s : State) : Host.Outcome State Fault Refusal :=
  .next { s with dev := doPipelineWake pipe late s.dev }

/-- AN_MISMATCH (R117). -/
def execAnMismatch (port : Nat) (page : Nat) (s : State) : Host.Outcome State Fault Refusal :=
  .next { s with dev := doAnMismatch port page s.dev }

end Sys2Proof.Machine
end

