-- ==== Sys2Proof/Machine/Polders.lean ====
section
/-! DEFINITION. Polders, sluices and the warden (chapter 3). -/
namespace Sys2Proof.Machine

/-! ### A polder's SAFE_HOLD (03 Table 3-6, R103, R104) -/

/-- The ports of a polder. -/
def Dev.portsOf (d : Dev) (p : Nat) : List Nat := d.portList.filter (fun l => decide (d.lanePolder l = some p))

/-- The links and the pause-all of every port follow a change of mode or polder state. -/
def Dev.portsFollow (d : Dev) : Dev := d.linksRefresh.refreshPauseAll

/-- Frees the queued frames of a polder's ports as DR_POLDER_HOLD; how many. -/
def Dev.polderFree (d : Dev) (p : Nat) : Nat × Dev :=
  (d.portsOf p).foldl (fun (a : Nat × Dev) (l : Nat) =>
    let r := a.2.flushPort l .drPolderHold false
    (a.1 + r.1, r.2.2)) (0, d)

/-- A polder enters SAFE_HOLD for a source. Its state governs its ports while the device is FORWARDING (03 R100). -/
def Dev.holdPolder (d : Dev) (p source : Nat) : Dev :=
  match (d.polder p).st with
  | .forwarding | .draining =>
    let d := (d.modPolder p (fun x => { x with st := .safeHold, since := d.bal.tick })).setLive (0x83 + 8 * p)
    let r := if d.bal.mode = .forwarding then d.polderFree p else (0, d)
    (r.2.portsFollow).record Ev.polderSafeHold (.polders (2 ^ p)) (some source) (dat [(0, 1, p), (1, 2, source), (3, 4, r.1)])
  | _ => d

/-- Every polder of a mask enters SAFE_HOLD. -/
def Dev.holdPolders (d : Dev) (mask source : Nat) : Dev := (setBits mask 8).foldl (fun d p => d.holdPolder p source) d

/-! ### OP_POLDER_DEFINE (03 R85-R91) -/

/-- The fields of a definition record (03 Table 3-2). -/
def polderFields : List Field :=
  [(0, 0, 3), (1, 0, 2), (2, 0, 1), (4, 0, 18), (8, 0, 19), (12, 0, 32), (16, 0, 21), (20, 0, 21), (24, 0, 9), (26, 0, 10),
   (0x20, 0, 64), (0x28, 0, 64), (0x30, 0, 256), (0x50, 0, 256), (0x70, 0, 384), (0xC0, 0, 512)]

/-- The polder that a record defines. -/
def polderOf (r : Nat) : Polder :=
  { st := .forwarding, owner := fld r 1 0 2, holdIdle := decide (fld r 2 0 1 = 1), tenantBase := fld r 4 0 18
    tenantCount := fld r 8 0 19, hashSeed := fld r 12 0 32, cellMin := fld r 16 0 21, cellMax := fld r 20 0 21
    vecBase := fld r 24 0 9, vecCount := fld r 26 0 10, crMask := fld r 0x20 0 64, cqMask := fld r 0x28 0 64
    rxqMask := fld r 0x30 0 256, txqMask := fld r 0x50 0 256
    quota := (List.range 12).map (fun i => fld r (0x70 + 4 * i) 0 32), portMap := fld r 0xC0 0 512 }

/-- A reserved bit is set or a field is out of its range (03 Table 3-2). -/
def Dev.polderRange (d : Dev) (r : Nat) (y : Polder) : Bool :=
  decide (r &&& (2 ^ 2048 - 1 - fieldMask polderFields) = 0) && d.present y.owner &&
  decide (1 ≤ y.tenantCount ∧ y.tenantBase + y.tenantCount ≤ 262144) &&
  decide (y.cellMin ≤ y.cellMax ∧ y.cellMax ≤ 1048576) &&
  decide (1 ≤ y.vecCount ∧ y.vecBase + y.vecCount ≤ 512)

/-- The lanes of a port as a mask. -/
def Dev.laneMask (d : Dev) (l : Nat) : Nat := (2 ^ (d.port l).lanes - 1) * 2 ^ l

/-- Two ranges meet. -/
def meets (a n b m : Nat) : Bool := decide (a < b + m ∧ b < a + n)

/-- A lane, ring, queue, vector or tenant of the definition is claimed by another polder, or a port's lanes are split. -/
def Dev.polderClash (d : Dev) (p : Nat) (y : Polder) : Bool :=
  d.portList.any (fun l => let m := d.laneMask l &&& y.portMap; decide (m ≠ 0 ∧ m ≠ d.laneMask l)) ||
  (d.defined.filter (fun q => decide (q ≠ p))).any (fun q =>
    let z := d.polder q
    decide (z.portMap &&& y.portMap ≠ 0) || meets z.tenantBase z.tenantCount y.tenantBase y.tenantCount ||
    (decide (z.owner = y.owner) &&
      (decide (z.crMask &&& y.crMask ≠ 0 ∨ z.cqMask &&& y.cqMask ≠ 0 ∨ z.rxqMask &&& y.rxqMask ≠ 0 ∨ z.txqMask &&& y.txqMask ≠ 0) ||
       meets z.vecBase z.vecCount y.vecBase y.vecCount)))

/-- A ring or queue of endpoint `e` in the masks is not DISABLED. -/
def Dev.ringsBusy (d : Dev) (e cr cq rx tx : Nat) : Bool :=
  (d.ep e).crs.any (fun r => cr.testBit r.1 && decide (r.2.st ≠ .disabled)) ||
  (d.ep e).cqs.any (fun r => cq.testBit r.1 && decide (r.2.st ≠ .disabled)) ||
  (d.ep e).rxqs.any (fun r => rx.testBit r.1 && decide (r.2.st ≠ .disabled)) ||
  (d.ep e).txqs.any (fun r => tx.testBit r.1 && decide (r.2.st ≠ .disabled))

/-- A ring or queue of a polder is not DISABLED. -/
def Dev.polderBusy (d : Dev) (y : Polder) : Bool := d.ringsBusy y.owner y.crMask y.cqMask y.rxqMask y.txqMask

/-- A ring or queue moves while it is not DISABLED (03 Table 3-4, R90). -/
def Dev.ringsMove (d : Dev) (p : Nat) (x y : Polder) : Bool :=
  if x.st = .undefined then d.polderBusy y
  else if x.owner = y.owner then
    d.ringsBusy x.owner (x.crMask ^^^ y.crMask) (x.cqMask ^^^ y.cqMask) (x.rxqMask ^^^ y.rxqMask) (x.txqMask ^^^ y.txqMask)
  else d.polderBusy x || d.polderBusy y || (d.mrpRing p).enable

/-- Capacity of a table copy by quota index (03 Table 3-3). -/
def quotaCap : List Nat :=
  [524288, 1048576, 524288, 2097152, 524288, 65536, 262144, 262144, 16384, 1048576, 512, 65536]

/-- What a polder uses of a quota in the copy that uses most. -/
def Dev.quotaUsed (d : Dev) (p i : Nat) : Nat :=
  if i = 0 then (List.range 4).foldl (fun n q => max n (d.macUse q p)) 0
  else if i = 11 then (List.range 4).foldl (fun n q => max n (d.weirCount p q)) 0
  else d.quotaUse i p

/-- A quota sum exceeds its capacity, or a quota is below the polder's use. -/
def Dev.quotaBad (d : Dev) (p : Nat) (y : Polder) : Bool :=
  (List.range 12).any (fun i =>
    let n := y.quota.getD i 0
    let rest := (d.defined.filter (fun q => decide (q ≠ p))).foldl (fun s q => s + d.quota q i) 0
    decide (quotaCap.getD i 0 < rest + n ∨ n < d.quotaUsed p i))

/-- The first rule of Table 3-4 that a definition breaks: status and code. -/
def Dev.polderBar (d : Dev) (p act r : Nat) : Option (Nat × Nat) :=
  let x := d.polder p
  let y := polderOf r
  if decide (act = 0) != decide (x.st = .undefined) then some (stNotFound, 1)
  else if act = 2 then
    if x.st = .forwarding ∨ d.polderBusy x then some (stWrongMode, 2) else none
  else if !d.polderRange r y then some (stBadOperand, 3)
  else if d.polderClash p y then some (stBadOperand, 4)
  else
    let old := if x.st = .undefined then 0 else x.portMap
    if d.portList.any (fun l => decide (old.testBit l ≠ y.portMap.testBit l ∧ (d.port l).st ≠ .adminDown)) then some (stWrongMode, 5)
    else if d.ringsMove p x y then some (stWrongMode, 6)
    else
      let rest := (d.defined.filter (fun q => decide (q ≠ p))).foldl (fun s q => s + (d.polder q).cellMin) 0
      if 1048576 < rest + y.cellMin + d.internalMin then some (stNoRoom, 7)
      else if d.quotaBad p y then some (stNoRoom, 8) else none

/-- The vector blocks have changed: nothing stays held for a vector outside them, and an owed alarm goes out where its mapping now
names a vector of a block (02 R65, R66). -/
def Dev.vecsFollow (d : Dev) : Dev :=
  (List.range 4).foldl (fun d e =>
    (d.modEp e (fun x => { x with gather := x.gather.filter (fun g => d.vecOwned e g.1) })).alarmTry e) d

/-- The vectors of a polder leave its old owner: the causes mapped to them send nothing until they are mapped again; the alarm's
mapping cannot be cleared (03 R90, 20 R577). -/
def Dev.unmapVecs (d : Dev) (p : Nat) : Dev :=
  d.modEp (d.polder p).owner (fun x => { x with vecMap := x.vecMap.filter (fun m => decide (m.1 = 576) || !d.inBlock p (mapVec m.2)) })

/-- A definition comes into force (03 R88-R90): the sources of newly assigned lanes take their defaults (15 R445). -/
def Dev.polderPut (d : Dev) (p r : Nat) : Dev :=
  let x := d.polder p
  let y := polderOf r
  let old := if x.st = .undefined then 0 else x.portMap
  let fresh := (List.range 512).filter (fun l => y.portMap.testBit l && !old.testBit l)
  let d := fresh.foldl (fun d l =>
    (d.modSrc (0x100 + l) (fun s => { s with cfg := none })).modSrc (0x300 + l) (fun s => { s with cfg := none })) d
  let d := if x.st ≠ .undefined ∧ x.owner ≠ y.owner then d.unmapVecs p else d
  let d := d.modPolder p (fun x => { y with st := if x.st = .undefined then .forwarding else x.st, since := if x.st = .undefined then d.bal.tick else x.since })
  let d := (d.judgeAll).portsFollow.vecsFollow
  if x.st = .undefined then (if d.bal.mode = .forwarding then d.openBank p else d)
  else if x.owner ≠ y.owner then
    d.record Ev.polderOwner (.polders (2 ^ p)) none (dat [(0, 1, p), (1, 1, x.owner), (2, 1, y.owner)])
  else d

/-- DEFINE or MODIFY. -/
def Dev.polderSet (d : Dev) (c : CmdRef) (io : Io) (act : Nat) : Dev :=
  match ioRecord io 256 with
  | none => d.fail c stTimeout 0x10
  | some r =>
    let p := fld r 0 0 3
    match d.polderBar p act r with
    | some f => d.fail c f.1 (0x10 + 256 * f.2)
    | none => (d.polderPut p r).ok c

/-- OP_POLDER_DEFINE DEFINE (03 R88). -/
def doOpPolderDefineDefine (c : CmdRef) (io : Io) (d : Dev) : Dev :=
  d.step1 c (isOpAct 0x80 (24, 0, 2) 0) fun d _ => d.polderSet c io 0

/-- OP_POLDER_DEFINE MODIFY (03 R88, R90). -/
def doOpPolderDefineModify (c : CmdRef) (io : Io) (d : Dev) : Dev :=
  d.step1 c (isOpAct 0x80 (24, 0, 2) 1) fun d _ => d.polderSet c io 1

/-- The first step of UNDEFINE: the polder's ports go down and their default actions return to the image's, a staged generation is
discarded, its export ring stops, and its ports, rings, queues and vectors are unassigned, so that nothing of them can come back into use
(03 R89, 06 R185). -/
def Dev.polderClear (d : Dev) (p ep : Nat) : Dev :=
  let lanes := (List.range 512).filter (fun l => (d.polder p).portMap.testBit l)
  let d := (d.portsOf p).foldl (fun d l =>
    let d := d.adminDown l ep
    { d with pse := { d.pse with entries := (List.range 6).foldl (fun t k => tset t none (8 * l + k) none) d.pse.entries } }) d
  let d := if d.rle.slotSt = .staged ∧ d.rle.holder = some p then d.genDiscard ep else d
  let d := (d.disableRing p).modPolder p (fun x =>
    { x with portMap := 0, crMask := 0, cqMask := 0, rxqMask := 0, txqMask := 0, vecCount := 0 })
  ((lanes.foldl Dev.laneRefresh d).judgeAll).portsFollow.vecsFollow

/-- The last step of UNDEFINE: everything that the polder holds in tables is deleted, and the polder is undefined (03 R89). -/
def Dev.polderDrop (d : Dev) (p : Nat) : Dev :=
  let keep (o : Option TabEnt) : Bool := match o with
    | some e => decide (e.polder ≠ p)
    | none => true
  let d := { d with rle := { d.rle with ents := d.rle.ents.filter (fun x => keep x.2) } }
  let d := (List.range 4).foldl (fun d q => (d.modQuad q (fun z =>
    { z with
      ents := z.ents.filter (fun (e : Nat × Option MacEnt) => match e.2 with
        | some m => decide (m.polder ≠ p)
        | none => true)
      lost := z.lost.filter (fun e => decide (e.1 ≠ p)) })).stashRefresh q) d
  let d := { d with
    mrp := { d.mrp with
      weirs := d.mrp.weirs.filter (fun (w : Nat × Option Weir) => match w.2 with
        | some z => decide (z.polder ≠ p)
        | none => true)
      rules := d.mrp.rules.filter (fun r => decide (r.1 ≠ p)), banks := d.mrp.banks.filter (fun b => decide (b.1 / 2 ≠ p))
      late := d.mrp.late.filter (fun l => decide (l.polder ≠ p)) }
    plc := { d.plc with sluices := d.plc.sluices.filter (fun s => decide (s.1 ≠ p ∧ s.2.1 ≠ p)) } }
  let d := d.modPolder p (fun _ => {})
  let d := (List.range 5).foldl (fun d k => d.clearLive (0x80 + 8 * p + k)) d
  d.judgeAll.parityAll

/-- OP_POLDER_DEFINE UNDEFINE, in two steps (03 R89). -/
def doOpPolderDefineUndefine (c : CmdRef) (io : Io) (d : Dev) : Dev :=
  d.step1 c (isOpAct 0x80 (24, 0, 2) 2) fun d x =>
    match x.scratch with
    | p :: _ => (d.polderDrop p).ok c
    | [] =>
      match ioRecord io 256 with
      | none => d.fail c stTimeout 0x10
      | some r =>
        let p := fld r 0 0 3
        match d.polderBar p 2 r with
        | some f => d.fail c f.1 (0x10 + 256 * f.2)
        | none => (d.polderClear p c.ep).again c [p]

/-! ### Sluices (03 R97-R99) -/

/-- OP_SLUICE_SET: one direction or both, or neither (03 R98). -/
def doOpSluiceSet (c : CmdRef) (_io : Io) (d : Dev) : Dev :=
  d.step1 c (isOp 0x81) fun d x =>
    let a := x.fld 16 0 3
    let b := x.fld 17 0 3
    let dom := x.fld 18 0 14
    let both := x.fld 20 1 1
    let ways := if both = 1 then [(a, b, dom), (b, a, dom)] else [(a, b, dom)]
    if a = b then d.badOp c 17
    else if (d.polder a).st = .undefined ∨ (d.polder b).st = .undefined then d.fail c stNotFound
    else if x.fld 20 0 1 = 1 then
      let new := ways.filter (fun w => !d.plc.sluices.contains w)
      if 4096 < d.plc.sluices.length + new.length then d.fail c stNoRoom
      else ({ d with plc := { d.plc with sluices := d.plc.sluices ++ new } }).ok c
    else if ways.all d.plc.sluices.contains then
      ({ d with plc := { d.plc with sluices := d.plc.sluices.filter (fun s => !ways.contains s) } }).ok c
    else d.fail c stNotFound

/-! ### The warden (03 R105-R112) -/

/-- Identity present: both halves of the key are held and readable (17 R508, R517). -/
def Otp.identity (o : Otp) : Bool := !o.idBad && decide (o.idPriv ≠ 0) && !o.idPub.isEmpty

/-- DEVICE_TAG (17 R517); 0 without an identity. -/
def Dev.deviceTag (d : Dev) : Nat := if d.otp.identity then leNat ((sha512 d.otp.idPub).take 8) else 0

/-- The reserved bits of a handover token are 0, and MAGIC and FORMAT are right (03 Table 3-9). -/
def tokenForm (t : List Byte) : Bool :=
  let r := leNat t
  decide (t.length = 304 ∧ fld r 0 0 32 = 0x574E4448 ∧ fld r 4 0 16 = 1 ∧ fld r 6 2 14 = 0 ∧ fld r 0x12 0 16 = 0 ∧
    fld r 0xA5 0 24 = 0 ∧ fld r 0x12C 0 32 = 0)

/-- The first check of Table 3-10 that a token fails. -/
def Dev.tokenCheck (d : Dev) (t : List Byte) (smbus : Bool) : Option Nat :=
  let r := leNat t
  let key := (t.drop 0x20).take 133
  let w := fld r 6 0 2
  if !tokenForm t then some 1
  else if !d.otp.provProg || d.otp.provRevoked || d.otp.provBad || decide (leNat (sha512 key) ≠ d.otp.provKey.toNat) then some 2
  else if !ecdsaVerify key (t.take 0xA8) ((t.drop 0xA8).take 66) ((t.drop 0xEA).take 66) then some 3
  else if fld r 8 0 64 ≠ d.deviceTag then some 4
  else if fld r 0x10 0 16 ≠ d.evr.powerCycles ∨ fld r 0x14 0 32 ≠ d.plc.handovers + 1 ∨ fld r 0x18 0 64 ≠ d.plc.challenge.toNat then some 5
  else if !d.present w || !(d.ep w).up || (!smbus && d.isWarden w) || (smbus && (d.ep d.plc.warden).up) then some 6
  else none

/-- A new CHALLENGE is drawn from the entropy source; it is never 0 (03 R110). -/
def Dev.drawChallenge (d : Dev) : Dev :=
  let (v, d) := d.free 64
  { d with plc := { d.plc with challenge := if v = 0 then 1 else BitVec.ofNat 64 v } }

/-- A token is checked and, if it passes, the warden changes (03 R109, R111, R112); the code of a failure. -/
def Dev.handover (d : Dev) (t : List Byte) (smbus : Bool) : Option Nat × Dev :=
  let w := fld (leNat t) 6 0 2
  match d.tokenCheck t smbus with
  | some k => (some k, d.record Ev.handoverRejected .shared none (dat [(0, 1, k), (1, 1, b2n smbus), (2, 1, w)]))
  | none =>
    let old := d.plc.warden
    let d := ({ d with plc := { d.plc with warden := w, handovers := d.plc.handovers + 1 } }).drawChallenge
    (none, d.record Ev.wardenHandover .shared none (dat [(0, 1, old), (1, 1, w), (2, 1, b2n smbus)]))

/-- OP_WARDEN_HANDOVER: the token is read, and regulator 0 verifies it in a later step (03 R108). A token of another length is not
read, and its rejection names endpoint 0 (03 R109; DESIGN CHOICE, assumption 143). -/
def doOpWardenHandover (c : CmdRef) (io : Io) (d : Dev) : Dev :=
  d.step1 c (isOp 0x82) fun d x =>
    match x.scratch with
    | _ :: bs =>
      match d.handover (bs.map (BitVec.ofNat 8)) false with
        | (some k, d) => d.badOp c (0x10 + 256 * k)
        | (none, d) => d.ok c
    | [] =>
      if x.fld 24 0 16 ≠ 304 then
        d.again c [1]
      else match ioBytes io 304 with
        | none => d.fail c stTimeout 0x10
        | some bs => d.again c (1 :: bs.map BitVec.toNat)

/-! ### Meanings -/

/-- OP_POLDER_DEFINE_DEFINE (R88). -/
def execOpPolderDefineDefine (c : CmdRef) (io : Io) (s : State) : Host.Outcome State Fault Refusal :=
  .next { s with dev := doOpPolderDefineDefine c io s.dev }

/-- OP_POLDER_DEFINE_MODIFY (R90). -/
def execOpPolderDefineModify (c : CmdRef) (io : Io) (s : State) : Host.Outcome State Fault Refusal :=
  .next { s with dev := doOpPolderDefineModify c io s.dev }

/-- OP_POLDER_DEFINE_UNDEFINE (R89). -/
def execOpPolderDefineUndefine (c : CmdRef) (io : Io) (s : State) : Host.Outcome State Fault Refusal :=
  .next { s with dev := doOpPolderDefineUndefine c io s.dev }

/-- OP_SLUICE_SET (R98). -/
def execOpSluiceSet (c : CmdRef) (io : Io) (s : State) : Host.Outcome State Fault Refusal :=
  .next { s with dev := doOpSluiceSet c io s.dev }

/-- OP_WARDEN_HANDOVER (R108). -/
def execOpWardenHandover (c : CmdRef) (io : Io) (s : State) : Host.Outcome State Fault Refusal :=
  .next { s with dev := doOpWardenHandover c io s.dev }

end Sys2Proof.Machine
end

