-- ==== Sys2Proof/Machine/Modes.lean ====
section
/-! DEFINITION. Entering a device mode: what is opened, freed, stopped, lost or ended (18 R525-R530). -/
namespace Sys2Proof.Machine

/-! ### Commands that a mode change ends (18 R527) -/

/-- The modes of an opcode (02 Table 2-11). -/
def opModes (op : Nat) (m : DevMode) : Bool :=
  if op = 4 then decide (m ≠ .off ∧ m ≠ .loading)
  else if op ≤ 5 ∨ (0x70 ≤ op ∧ op ≤ 0x76) then decide (m ≠ .off)
  else if 0xF0 ≤ op then decide (m = .diagnostic)
  else match m with
    | .provisioning | .forwarding | .draining | .safeHold => true
    | _ => false

/-- A command that a mode change ends: one that never ran completes ST_WRONG_MODE, one that has begun ST_ABORTED with the
steps finished. -/
def Cmd.ended (x : Cmd) : Cmd :=
  if x.steps = 0 ∧ !x.executing then
    { x with ordered := true, outcome := some { status := stWrongMode, detail := 0x2000 } }
  else { x with executing := false, outcome := some (abortedDone x.steps 0x2000) }

/-- A store is left unlocked and zeroed, and its user stopped (17 R515); kind 0 parse, 1 action, 2 regulator, 3 adaptation. -/
def Dev.storeLost (d : Dev) (kind i : Nat) : Dev :=
  let d := { d with boot := { d.boot with
    unlocked := if d.boot.unlocked.contains (kind, i) then d.boot.unlocked else d.boot.unlocked ++ [(kind, i)], locked := false } }
  let d := match kind with
    | 0 => d.modPipe i (fun x => { x with parseStore := [], parseStopped := true })
    | 1 => d.modPipe i (fun x => { x with actionStore := [], actionStopped := true })
    | 2 => { d with reg := { d.reg with regStore := tset d.reg.regStore [] i [], regStopped := d.reg.regStopped ||| 2 ^ i } }
    | _ => { d with reg := { d.reg with adpStore := tset d.reg.adpStore [] i [], adpStopped := d.reg.adpStopped ||| 2 ^ i } }
  d

/-- The running reload fails or is aborted, with the cause of EV_STORE_RELOAD_FAILED (17 R515, R516). -/
def Dev.reloadFails (d : Dev) (cause : Nat) : Dev :=
  match d.boot.reloading with
  | none => d
  | some (_, _, _, kind, i, _) =>
    let d := ({ d with boot := { d.boot with reloading := none } }).storeLost kind i
    (d.record Ev.storeReloadFailed .shared (some 0x015) (dat [(0, 1, kind), (1, 1, i), (2, 1, cause)])).setLive 0x015

/-- What a command that has ended otherwise leaves ends with it: a freeze that it held, a reload, which is then an aborted one (16 R484,
17 R516). -/
def Dev.endedSweep (d : Dev) : Dev :=
  let d := d.readSweep
  match d.boot.reloading with
  | none => d
  | some (e, n, p, _) =>
    let goes := match d.cmd? { ep := e, ring := n, pos := BitVec.ofNat 32 p } with
      | some x => x.outcome.isNone
      | none => false
    if goes then d else (d.reloadFails 0xFF).refreshPauseAll

/-- Ends every fetched, uncommitted command whose mode set the device has left. -/
def Dev.endCommands (d : Dev) : Dev :=
  let d := (List.range 4).foldl (fun d e => d.modEp e (fun y =>
    { y with cmds := y.cmds.map (fun x => if x.outcome.isNone && !opModes x.opcode d.bal.mode then x.ended else x) })) d
  let running (a : AtPps) : Bool := match d.cmd? { ep := a.ep, ring := a.ring, pos := a.pos } with
    | some x => x.outcome.isNone
    | none => false
  ({ d with tmu := { d.tmu with atPps := d.tmu.atPps.filter running } }).endedSweep

/-! ### Freeing everything (18 R528, R529) -/

/-- Frames and bytes that wait in queues, for their links, in LRQs or on recirculation ports. -/
def Dev.heldFrames (d : Dev) : Nat × Nat :=
  let add (a : Nat × Nat) (n len : Nat) : Nat × Nat := (a.1 + n, a.2 + n * len)
  let a := d.dp.queues.foldl (fun (a : Nat × Nat) (q : Nat × Queue) =>
    q.2.ents.foldl (fun a e => add a 1 (((d.pkt? e.pid).map Pkt.len).getD 0)) a) (0, 0)
  let a := d.dp.pkts.foldl (fun (a : Nat × Nat) (x : Nat × Option Pkt) => match x.2 with
    | some y => add a y.waiting.length y.len
    | none => a) a
  d.dp.loop.foldl (fun (a : Nat × Nat) (l : Nat × List (Nat × List Byte)) => l.2.foldl (fun a f => add a 1 (f.2.length + 4)) a) a

/-- Frees every frame that waits in the device, each counted against its egress port, or, where `drain` says so for a
frame of an LRQ, and for a frame on a recirculation port, against its ingress port. -/
def Dev.freeAll (d : Dev) (c : Ctr) (drain : Bool) : Dev :=
  let d := (d.dp.queues.map (fun q => q.1)).foldl (fun d k => (d.freeQueue k c false).2.2) d
  let d := (d.dp.pkts.map (fun x => x.1)).foldl (fun d pid => match d.pkt? pid with
    | some x => (d.unstage pid x).dropWaiting pid partyFlush c (fun y t => dropIdx (drain && y.lrq) y t)
    | none => d) d
  let d := d.dp.loop.foldl (fun (d : Dev) (l : Nat × List (Nat × List Byte)) =>
    l.2.foldl (fun d f => d.copyDrop partyFlush { pid := f.1 } (.recirc l.1 0) c (((d.pkt? f.1).map Pkt.first).getD 0)) d) d
  let d := { d with dp := { d.dp with loop := [] } }
  { d with spw := { d.spw with lrqs := d.spw.lrqs.filterMap (fun (l : Nat × Lrq) =>
      let y : Lrq := { l.2 with frames := [], staged := [], bytes := 0, stagedBytes := 0 }
      if y = ({} : Lrq) then none else some (l.1, y)) } }

/-! ### The core domain is gated (18 R530, Table 18-4; 20 R574) -/

/-- A counter that a block of the management domain holds, by its key (18 Tables 18-1, 18-4). -/
def keptCtr (k : Nat) : Bool :=
  [Ctr.cellsRetired, .drPolderHold, .drDikeBlock, .badCheck, .checkFieldCorrupt, .badSequence, .dbStale, .dbStray, .cplDiscard, .drHostQueueDown, .drHostRxStarved,
   .drHostRxOversize, .cvuBadWidth, .cvuCheckField, .cvuDataMismatch, .cvuForeignWrite, .cvuMatch, .cvuStallCycles,
   .evrAdmitted, .evrDropped, .evrInputDrop, .evrSuppressed, .persistDropped, .traceRingDrop, .flashErasesMax,
   .flashSectorsUsable, .faultEscalated, .clearRefused, .faultHistorySkip, .tbnCe, .tbnUe, .tbnLastingCe].any
    (fun c => decide (c.ctorIdx = k / 2 ^ 32))

/-- A source of a block in the core or SerDes domain; cells and segments retired since POR_N are known after it has lost power (10 R329,
11 R356). -/
def coreSource (s : Nat) : Bool :=
  decide (s = 2 ∨ s = 3 ∨ s = 0x15 ∨ (0x100 ≤ s ∧ s < 0xF00) ∨ (0xF18 ≤ s ∧ s < 0xF28) ∨ (0x80 ≤ s ∧ s < 0xC0 ∧ s % 8 ≠ 3)) &&
    decide (s ≠ 0xB05 ∧ s ≠ 0xC21)

/-- Everything in the core and SerDes domains is lost; set-up registers of the management domain are kept. -/
def Dev.coreReset (d : Dev) : Dev :=
  let d := d.bpm.condemned.foldl (fun (d : Dev) c => d.retireCell c 1) d
  let d := d.spw.condemned.foldl Dev.freeSeg d
  let d := d.pte.macros.foldl (fun (d : Dev) (m : Nat × Octal) => if m.2.st = .off then d else d.macroEvent m.1 0 0) d
  { d with
    reg := { d.reg with adpStore := [], adpStopped := 0, adpEven := [], adpOdd := [], adpSlice := [] }
    pipes := [], tmu := { refPresent := d.tmu.refPresent }, pte := {}, pse := {}, rle := {}
    lrn := { cfg := d.lrn.cfg, noLearn := d.lrn.noLearn }, dp := {}, swc := { mcHoldUs := d.swc.mcHoldUs }, bpm := { retired := d.bpm.retired }
    hif := { d.hif with eps := tmap d.hif.eps {} (fun (x : Endpoint) =>
      { x with captures := x.captures.filter (fun c => decide (c.1 < 0x20140 ∨ 0x201C0 ≤ c.1)) }) }
    fcps := [], spw := { retired := d.spw.retired }, esc := {}
    mrp := { tcEn := d.mrp.tcEn, rings := d.mrp.rings.filterMap (fun (r : Nat × MrpRing) =>
      if r.2.cons = 0 then none else some (r.1, { cons := r.2.cons })) }
    ctrs := d.ctrs.filter (fun x => keptCtr x.1)
    fcr := { d.fcr with srcs := d.fcr.srcs.filterMap (fun (x : Nat × Src) =>
      let y : Src := if coreSource x.1 then { x.2 with live := false, windowEnd := none, recent := [] } else x.2
      if y = ({} : Src) then none else some (x.1, y)) }
    bal := { d.bal with corePll := false, loopback := [], prbs := [] }
    boot := { d.boot with unlocked := [], reloading := none } }

/-! ### Entering a mode (18 R525) -/

/-- The basin map applies; a change of TELEMETRY empties the archive (11 R333). -/
def Dev.applyMap (d : Dev) : Dev :=
  let d := if d.spw.nextMap.telemetry = d.spw.map.telemetry then d else { d with esc := { d.esc with archive := [] } }
  ({ d with spw := { d.spw with map := d.spw.nextMap } }).refreshFull

/-- Aging stops outside FORWARDING and DRAINING (18 Table 18-7). -/
def Dev.sweepStop (d : Dev) : Dev := { d with lrn := { d.lrn with sweeping := false, rows := [] } }

/-- Entry into DORMANT (18 R530): the boot status falls back (17 R500), and an image no longer stands in the stores. -/
def Dev.goDormant (d : Dev) : Dev :=
  let loaded := decide (d.boot.st = .loaded ∨ d.boot.st = .loading)
  let d := d.coreReset.clearLive 0x021
  if loaded then
    { d with boot := { d.boot with
        st := if d.bal.bootEff = 1 ∨ d.bal.bootEff = 2 then .waitHost else .idle
        locked := false, imageVersion := 0, keySlot := 0, path := 0, manifestHash := 0, sections := [], diagRom := false } }
  else { d with boot := { d.boot with locked := false } }

/-- What entering a mode does. -/
def Dev.entered (d : Dev) (old : DevMode) : Dev :=
  match d.bal.mode with
  | .forwarding =>
    let d := d.applyMap
    let d := if old = .provisioning then
        { d with pipes := (List.range 16).foldl (fun t p => tmod t {} p (fun x => { x with asleep := true, waking := false })) d.pipes }
      else d
    (d.openBanks.sweepStart).portsFollow
  | .draining => d.portsFollow
  | .safeHold => ((d.freeAll .drSafeHold false).sweepStop).portsFollow
  | .provisioning =>
    let d := if old = .diagnostic then { d with bal := { d.bal with loopback := [], prbs := [] } } else d
    let d := d.cxlEnter
    d.sweepStop.portsFollow
  | .diagnostic => d.sweepStop.portsFollow
  | .dormant => d.goDormant
  | .loading | .off => d

/-- The device enters a mode and records why (18 R525, Table 18-2). -/
def Dev.toMode (d : Dev) (m : DevMode) (code : Nat) (source : Option Nat) (fs : List (Nat × Nat × Nat)) : Dev :=
  let old := d.bal.mode
  let d := if old = .forwarding then d.closeBanks else d
  let d := { d with bal := { d.bal with mode := m, prevMode := old, reason := code, since := d.bal.tick } }
  ((d.record code .shared source (dat fs)).entered old).endCommands

/-- EV_MODE_COMMAND's data: new mode, old mode, endpoint (18 Table 18-10). -/
def Dev.byCommand (d : Dev) (m : DevMode) (ep : Nat) : Dev :=
  d.toMode m Ev.modeCommand none [(0, 1, m.code), (1, 1, d.bal.mode.code), (2, 1, ep)]

/-- SAFE_HOLD as the reaction to a shared source (15 R453): entered from the modes that carry frames or may. -/
def Dev.safeHoldFor (d : Dev) (source : Nat) : Dev :=
  match d.bal.mode with
  | .provisioning | .forwarding | .draining | .diagnostic =>
    d.toMode .safeHold Ev.modeFault (some source) [(0, 1, 6), (1, 1, d.bal.mode.code), (2, 2, source)]
  | _ => d

/-! ### Draining (18 R528) -/

/-- Entry into DRAINING with a limit in milliseconds. -/
def Dev.startDrain (d : Dev) (ms : Nat) (ep : Nat) : Dev :=
  let d := d.byCommand .draining ep
  { d with bal := { d.bal with drainStart := d.bal.tick, drainEnd := d.bal.tick + msTicks ms } }

/-- No queue or LRQ holds a frame, and no packet lies between parser entry and the egress MAC. -/
def Dev.drained (d : Dev) : Bool :=
  d.dp.queues.all (fun q => q.2.ents.isEmpty) && d.dp.tx.all (fun t => t.2.isEmpty) && d.dp.loop.all (fun l => l.2.isEmpty) &&
    d.dp.pkts.isEmpty && d.spw.lrqs.all (fun l => l.2.frames.isEmpty && l.2.staged.isEmpty)

/-- The device is drained. -/
def Dev.drainEnds (d : Dev) : Dev :=
  d.toMode .provisioning Ev.modeDrained none [(0, 4, (d.bal.tick - d.bal.drainStart) / 25)]

/-- DRAIN_COMPLETE: the first tick in which the device is drained. -/
def doDrainComplete (d : Dev) : Dev :=
  if d.bal.mode = .draining ∧ d.drained ∧ d.bal.tick ≤ d.bal.drainEnd ∧ d.regRuns 0 then d.drainEnds else d

/-- DRAIN_LIMIT_EXPIRY: what remains is freed; the drain wins in the tick of the limit. -/
def doDrainLimitExpiry (d : Dev) : Dev :=
  if d.bal.mode ≠ .draining ∨ !d.regRuns 0 then d
  else
    let d := d.reach d.bal.drainEnd
    if d.drained then d.drainEnds
    else
      let n := d.heldFrames
      ((d.freeAll .drDrainLimit true).toMode .provisioning Ev.modeDrainLimit (some 4) [(0, 4, n.1), (4, 8, n.2)]).liveMs 4

/-! ### Polder modes (03 Table 3-6, 18 R526) -/

/-- A polder changes state by command. -/
def Dev.setPolderSt (d : Dev) (p : Nat) (st : PolderSt) : Dev :=
  (d.modPolder p (fun x => { x with st := st, since := d.bal.tick })).portsFollow

/-- A latched source of severity MAJOR or above is attributed to a polder. -/
def Dev.polderBlocked (d : Dev) (p : Nat) : Bool :=
  d.fcr.srcs.any (fun s => s.2.latched && decide (3 ≤ s.2.latchedSev) && match d.attribution s.1 with
    | .polders m => m.testBit p
    | _ => false)

/-- The results of a polder operation. -/
def Dev.polderResult (d : Dev) (c : CmdRef) (x : Cmd) (p : Nat) : Dev :=
  d.ok c (pack [(0, 4, (d.polder p).st.code), (4, 4, x.dispMode / 16), (8, 4, d.bal.mode.code)]) ((d.polder p).since % 2 ^ 40)

/-- OP_MODE_SET of a polder: FORWARDING or DRAINING (03 Table 3-6, 18 R526). -/
def doOpModeSetPolder (c : CmdRef) (_io : Io) (d : Dev) : Dev :=
  d.step1 c (isOpAct 0x05 (16, 4, 1) 1) fun d x =>
    let t := x.fld 16 0 4
    let p := x.fld 17 0 3
    let b := match d.bal.mode with
      | .provisioning | .forwarding | .draining | .safeHold => true
      | _ => false
    if !b then d.fail c stWrongMode 0x0200
    else match (d.polder p).st with
    | .undefined => d.fail c stNotFound
    | .forwarding => if t = 4 then d.polderResult c x p else (d.setPolderSt p .draining).polderResult c x p
    | .draining => if t = 5 then d.polderResult c x p else (d.setPolderSt p .forwarding).polderResult c x p
    | .safeHold =>
      if t = 5 then d.fail c stWrongMode 0x0100
      else if d.polderBlocked p then d.fail c stClearRefused
      else ((d.setPolderSt p .forwarding).clearLive (0x83 + 8 * p)).polderResult c x p

/-! ### Meanings -/

/-- OP_MODE_SET_POLDER (R526). -/
def execOpModeSetPolder (c : CmdRef) (io : Io) (s : State) : Host.Outcome State Fault Refusal :=
  .next { s with dev := doOpModeSetPolder c io s.dev }

/-- DRAIN_COMPLETE (R528). -/
def execDrainComplete (s : State) : Host.Outcome State Fault Refusal :=
  .next { s with dev := doDrainComplete s.dev }

/-- DRAIN_LIMIT_EXPIRY (R528). -/
def execDrainLimitExpiry (s : State) : Host.Outcome State Fault Refusal :=
  .next { s with dev := doDrainLimitExpiry s.dev }

end Sys2Proof.Machine
end

