-- ==== Sys2Proof/Machine/Boot.lean ====
section
/-! DEFINITION. Power-on and reset, the secure loader, attestation, store reloads, regulators, clocks, supplies and
temperature (chapters 17, 18, 19). -/
namespace Sys2Proof.Machine

/-! ### Power-on and reset (17 R498, R508; 18 R525; 19 R550, R554) -/

/-- Polder 0 at reset: the warden owns everything (03 R91). -/
def bootPolder (warden : Nat) : Polder := { wholePolder with owner := warden }

/-- A field of the one-time-programmable store is unreadable (17 R508). -/
def Otp.err (o : Otp) : Bool := o.anyBad || o.provBad || o.idBad || decide (o.imageBad ≠ 0)

/-- The effective boot source (17 R498). -/
def Otp.bootEff (o : Otp) (src : Nat) : Nat :=
  if (src = 3 ∧ o.diagRomDisable) ∨ ((src = 1 ∨ src = 2) ∧ o.hostPushDisable) then 0 else src

/-- EV_STRAP_INVALID: a strap value is replaced (17 R498, R522). -/
def Dev.strapEvent (d : Dev) (strap sampled eff : Nat) : Dev :=
  if sampled = eff then d
  else ({ d with bal := { d.bal with strapInvalid := true } }).record Ev.strapInvalid .shared (some 0x016)
    (dat [(0, 1, strap), (1, 1, sampled), (2, 1, eff)])

/-- The junction's out-of-family sensors: more than 15 °C from the median of the others (19 R563). -/
def excluded (temps : List Nat) : List Nat :=
  let t (i : Nat) : Int := signed 16 (temps.getD i 0)
  (List.range 16).filter (fun i =>
    let others := ((List.range 16).filter (fun j => decide (j ≠ i))).map t
    let med := (sortBy (fun a b => decide (a ≤ b)) others).getD 7 0
    decide (60 < t i - med ∨ 60 < med - t i))

/-- The hottest sensor that is not excluded, and its reading in 0.25 °C. -/
def hottest (temps : List Nat) : Nat × Int :=
  let bad := excluded temps
  let ok := (List.range 16).filter (fun i => !bad.contains i)
  let t (i : Nat) : Int := signed 16 (temps.getD i 0)
  let i := ok.foldl (fun b i => if t b < t i then i else b) (ok.headD 0)
  (i, t i)

/-- The sensor readings as last taken. -/
def Dev.temps (d : Dev) : List Nat := (List.range 16).map (fun i => tget d.bal.sensors 0 i)

/-- The sources of supplies, clocks and temperature follow what is measured (18 Table 18-9, 19 Table 19-14). -/
def Dev.balanceRefresh (d : Dev) : Dev :=
  let d := d.live 0x000 d.bal.refOnOsc
  let d := d.live 0x001 (!d.bal.mgmtPll)
  let d := (List.range 10).foldl (fun d n => d.live (0x023 + n) (d.bal.railsBad.testBit n)) d
  let d := d.live 0x030 (decide (440 < (hottest d.temps).2))
  let d := d.live 0x031 d.bal.thermN
  let d := d.live 0x033 (!(excluded d.temps).isEmpty)
  let d := if (hottest d.temps).2 < 420 then d.clearLive 0x032 else d
  d.serdesRefresh

/-- The endpoints' own sources (02 Table 2-22). -/
def Dev.epSources (d : Dev) (e : Nat) : Dev :=
  if d.present e then
    (d.live (0x40 + 16 * e) (d.ep e).linkDown).live (0x41 + 16 * e) ((d.ep e).perst || (d.ep e).flr)
  else d

/-- POR_N_DEASSERT: the straps are sampled, and the Balance and management domains run (18 Table 18-2). `broken` lists the
rules of Table 19-6 that the power-up broke. -/
def doPorNDeassert (straps : List Nat) (broken : List Nat) (d : Dev) : Dev :=
  if d.bal.porN ∨ d.bal.mode ≠ .off then d
  else
    let s : Straps := { peBif := straps.getD 0 0 % 4, wardenSel := straps.getD 1 0 % 4, bootSrc := straps.getD 2 0 % 4
                        smbAddr := straps.getD 3 0 % 8 }
    let eff := d.otp.bootEff s.bootSrc
    let d : Dev := { d with bal := { d.bal with
      porN := true, mode := .dormant, prevMode := .off, reason := Ev.powerOn, tick := 0, since := 0, straps := s, bootEff := eff } }
    let warden := if d.present s.wardenSel then s.wardenSel else 0
    let d : Dev := { d with
      plc := { d.plc with warden := warden, polders := tset [] {} 0 (bootPolder warden) }
      boot := { d.boot with st := if eff = 1 then .waitHost else .idle, auto := decide (eff ≠ 1) } }
    let d := if eff = 1 ∨ eff = 3 then { d with evr := { d.evr with powerCycles := 0, scanDone := true } } else d
    let d := (d.drawChallenge).record Ev.powerOn .shared none
      (dat [(0, 4, d.evr.opHours), (8, 2, s.bootSrc), (10, 2, s.wardenSel), (12, 2, s.peBif), (14, 3, s.smbAddr)])
    let d := d.strapEvent 0 s.peBif (if s.peBif = 3 then 0 else s.peBif)
    let d := d.strapEvent 1 s.wardenSel warden
    let d := d.strapEvent 2 s.bootSrc eff
    let d := d.live 0x016 d.bal.strapInvalid
    let d := d.live 0x012 d.otp.err
    let d := d.live 0x014 (!d.otp.identity)
    let rules := (List.range 6).filter (fun r => decide (r ∈ broken ∧ 1 ≤ r))
    let d := match rules with
      | [] => d
      | r :: more => (d.record Ev.pwrSequence .shared (some 0x020) (dat [(0, 1, r), (1, 1, b2n (!more.isEmpty))])).setLive 0x020
    ((List.range 4).foldl Dev.epSources d).balanceRefresh

/-- What is no state of the device: the inputs at its pins, as they stand. -/
def Bal.pins (b : Bal) : Bal :=
  { mode := .off, reason := 0, porN := false, mgmtPll := b.mgmtPll, refOnOsc := b.refOnOsc, serdesRef := b.serdesRef
    gpioIn := b.gpioIn, sensors := b.sensors, thermN := b.thermN, rails := b.rails, railsBad := b.railsBad }

/-- POR_N_ASSERT: every domain resets (19 R554); fuses, flash and the inputs at the pins stay. -/
def doPorNAssert (d : Dev) : Dev :=
  if !d.bal.porN then d
  else
    { bal := d.bal.pins, otp := d.otp, evr := { sectors := d.evr.sectors }, tmu := { refPresent := d.tmu.refPresent }
      freeSeq := d.freeSeq, out := d.out }

/-! ### A load (17 R498-R506) -/

/-- FS_THERM_TRIP is live: no load starts (19 R563). -/
def Dev.tripped (d : Dev) : Bool := (d.src 0x032).live

/-- A flash directory whose CHECK, MAGIC and FORMAT are right (17 R501). -/
def dirOk (bs : List Byte) : Bool :=
  let r := leNat bs
  decide (bs.length = 64 ∧ fld r 0x3C 0 32 = crc32c (bs.take 60) ∧ fld r 0 0 32 = 0x52444C46 ∧ fld r 4 0 16 = 1)

/-- The flash as the loader reads it at the start of a load: two copies of the directory, 64 bytes each, then the manifests
of slots A and B, 1,024 bytes each. -/
def flashDir (flash : List Byte) : Option Nat :=
  if dirOk (flash.take 64) then some (leNat (flash.take 64))
  else if dirOk ((flash.drop 64).take 64) then some (leNat ((flash.drop 64).take 64))
  else none

/-- The order in which the slots are tried (17 R505): higher SECURITY_VERSION, then higher IMAGE_VERSION, then slot A; a slot
without an image is skipped. Without a directory every slot is tried and rejected. -/
def flashOrder (flash : List Byte) : List Nat :=
  let m (i : Nat) : Nat := leNat ((flash.drop (128 + 1024 * i)).take 1024)
  let rank (i : Nat) : Nat := fld (m i) 0x0C 0 7 * 2 ^ 32 + fld (m i) 0x08 0 32
  let order := if rank 0 < rank 1 then [1, 0] else [0, 1]
  match flashDir flash with
  | none => [0, 1]
  | some r => order.filter (fun i => decide (fld r (8 + 4 * i) 0 32 ≠ 0))

/-- An attempt begins. -/
def Dev.attempt (d : Dev) : Dev := { d with boot := { d.boot with attempts := min 255 (d.boot.attempts + 1) } }

/-- An OP_MODE_SET that waits for LOADING to end completes (18 R526). -/
def Dev.loadAnswer (d : Dev) (st detail r0 r1 : Nat) : Dev :=
  match d.boot.waiter with
  | none => d
  | some (e, n, p) =>
    let d := { d with boot := { d.boot with waiter := none } }
    d.fail { ep := e, ring := n, pos := BitVec.ofNat 32 p } st detail r0 r1

/-- The results of a device operation of OP_MODE_SET (18 R526): the modes after the commit and at dispatch, and the tick
of the entry. -/
def Dev.modeResult (d : Dev) (old : Nat) : Nat × Nat := (d.bal.mode.code + 16 * (old % 16), d.bal.since % 2 ^ 40)

/-- Every attempt of the load is rejected: back to DORMANT (17 Table 17-1). -/
def Dev.loadFails (d : Dev) (wait : Bool) (cause : Nat) : Dev :=
  let d := { d with boot := { d.boot with st := if wait then .waitHost else .failed, candidates := [] } }
  let d := d.live 0x010 (!wait)
  (d.toMode .dormant Ev.modeFault (some 0x010) [(0, 1, 1), (1, 1, 2), (2, 2, 0x010)]).loadAnswer stBadOperand (16 + 256 * cause) 0 0

/-- Entry into LOADING with the sources to be tried (18 Table 18-2); `by` is the endpoint of a command or of GO. -/
def Dev.startLoad (d : Dev) (cands : List Nat) (who : Option Nat) (waiter : Option (Nat × Nat × Nat)) (cert : Nat) : Dev :=
  let d := { d with boot := { d.boot with
    st := .loading, candidates := cands, auto := false, waiter := waiter, loadTick := d.bal.tick, certLen := cert, bistRun := false } }
  let d := d.clearLive 0x010
  let d := match who with
    | none => d.toMode .loading Ev.modeReset none [(0, 1, 1)]
    | some e => d.byCommand .loading e
  let d := { d with bal := { d.bal with corePll := true, corePllRetried := false } }
  if cands.isEmpty then d.loadFails (decide (d.bal.bootEff = 2)) d.boot.cause else d.attempt

/-- The start of a load from flash. -/
def Dev.flashLoad (d : Dev) (flash : List Byte) (who : Option Nat) (waiter : Option (Nat × Nat × Nat)) : Dev :=
  d.startLoad (flashOrder flash) who waiter (((flashDir flash).map (fun r => if fld r 0x10 0 32 = 0 then 0 else fld r 0x14 0 16)).getD 0)

/-- LOAD_START: a load starts by itself after POR_N or SYS_RST_N (17 R498). -/
def doLoadStart (flash : List Byte) (d : Dev) : Dev :=
  if d.bal.mode ≠ .dormant ∨ !d.boot.auto ∨ d.tripped ∨ d.bal.bootEff = 1 then d
  else if d.bal.bootEff = 3 then d.startLoad [3] none none 0
  else d.flashLoad flash none none

/-- GL_BOOT_CTRL_GO: the warden starts a host load (17 R500); at any other time GO is ignored. -/
def doGlBootCtrlGo (ep : Nat) (d : Dev) : Dev :=
  d.glWrite ep false (fun d =>
    if d.bal.mode = .dormant ∧ (d.bal.bootEff = 1 ∨ d.bal.bootEff = 2) ∧ (d.boot.st = .waitHost ∨ d.boot.st = .failed) ∧ !d.tripped
    then d.startLoad [2] (some ep) none d.boot.certLen
    else d)

/-- IMAGE_REJECTED: the attempt in hand fails a check, with the cause of Table 17-5; the next source is tried. -/
def doImageRejected (src cause version : Nat) (d : Dev) : Dev :=
  if d.bal.mode ≠ .loading ∨ d.boot.candidates.head? ≠ some src ∨ src = 3 ∨ cause = 0 ∨ 0x0A < cause ∨ cause = 9 then d
  else
    let d := d.record Ev.imageRejected .shared none (dat [(0, 1, src), (1, 1, cause), (2, 4, version)])
    let d := { d with boot := { d.boot with slot := src, cause := cause, rejected := true, candidates := d.boot.candidates.tail } }
    if d.boot.candidates.isEmpty then d.loadFails (decide (d.bal.bootEff = 2 ∧ src ≠ 2)) cause else d.attempt

/-! ### Images (17 R502-R504) -/

/-- A section as the manifest names it: TYPE, TARGET, OFFSET, LENGTH, HASH. -/
structure SecDesc where
  type : Nat
  target : Nat
  offset : Nat
  length : Nat
  hash : Nat
  deriving DecidableEq, Repr

/-- The eight sections of a manifest (17 Table 17-3). -/
def secDescs (m : Nat) : List SecDesc :=
  (List.range 8).map (fun i =>
    { type := fld m (0x0A8 + 80 * i) 0 8, target := fld m (0x0A9 + 80 * i) 0 8, offset := fld m (0x0AC + 80 * i) 0 32
      length := fld m (0x0B0 + 80 * i) 0 32, hash := fld m (0x0B8 + 80 * i) 0 512 })

/-- The section layout of Table 17-4 within IMAGE_LEN bytes. -/
def sectionsOk (len : Nat) (ss : List SecDesc) : Bool :=
  let count (t : Nat) : Nat := (ss.filter (fun s => decide (s.type = t))).length
  let shape (s : SecDesc) : Bool := match s.type with
    | 1 => decide (s.length = 262144 ∧ s.target = 0xFF)
    | 2 => decide (s.length = 131072 ∧ s.target = 0xFF)
    | 3 => decide (s.length = 131072 ∧ s.target < 4)
    | 4 => decide (s.length = 16384 ∧ s.target = 0xFF)
    | 5 => decide (64 ≤ s.length ∧ s.target = 0xFF)
    | _ => false
  let places := ss.map (fun s => (s.offset, s.length))
  decide (count 1 = 1 ∧ count 2 = 1 ∧ count 3 = 4 ∧ count 4 = 1 ∧ count 5 = 1) && ss.all shape &&
    sortBy (fun a b => decide (a ≤ b)) ((ss.filter (fun s => decide (s.type = 3))).map SecDesc.target) == [0, 1, 2, 3] &&
    ss.all (fun s => decide (s.offset % 64 = 0 ∧ 1024 ≤ s.offset ∧ s.offset + s.length ≤ len)) &&
    (List.range 8).all (fun i => (List.range i).all (fun j =>
      let a : Nat × Nat := places.getD i (0, 0)
      let b : Nat × Nat := places.getD j (0, 0)
      decide (a.1 + a.2 ≤ b.1 ∨ b.1 + b.2 ≤ a.1)))

/-- The bytes of a section. -/
def secBytes (img : List Byte) (s : SecDesc) : List Byte := (img.drop s.offset).take s.length

/-- The image key slot that a manifest's PUB_KEY matches: programmed, unrevoked and readable (17 R504, R508). -/
def Dev.keySlotOf (d : Dev) (man : List Byte) : Option Nat :=
  let h := leNat (sha512 ((man.drop 0x20).take 133))
  (List.range 4).find? (fun k => d.otp.imageProg.testBit k && !d.otp.imageRevoked.testBit k && !d.otp.imageBad.testBit k &&
    decide ((tget d.otp.imageKey 0 k).toNat = h))

/-- Steps 1 to 4 of R504 on an image: the first cause that rejects it. -/
def Dev.manifestCause (d : Dev) (img : List Byte) : Option Nat :=
  let man := img.take 1024
  let m := leNat man
  let len := fld m 0x18 0 32
  if man.length < 1024 then some 1
  else if fld m 0 0 32 ≠ 0x4E564854 ∨ fld m 4 0 16 ≠ 1 ∨ fld m 6 0 8 ≠ 8 ∨ len < 1024 ∨ 50331648 < len then some 2
  else if !sectionsOk len (secDescs m) then some 8
  else if (d.keySlotOf man).isNone then some (if d.otp.imageBad = 0 then 3 else 0x0A)
  else if !ecdsaVerify ((man.drop 0x20).take 133) (man.take 0x328) ((man.drop 0x328).take 66) ((man.drop 0x36A).take 66) then some 4
  else if fld m 0x10 0 64 ≠ 0 ∧ d.otp.idBad then some 0x0A
  else if fld m 0x10 0 64 ≠ 0 ∧ fld m 0x10 0 64 ≠ d.deviceTag then some 5
  else if fld m 0x0C 0 7 < d.otp.rollback then some 6
  else none

/-- A section's SHA-512 as a little-endian value. -/
def measure (img : List Byte) (s : SecDesc) : Nat := leNat (sha512 (secBytes img s))

/-- The words of a store from a section's bytes; only words that are not 0 are listed. -/
def storeWords (w : Nat) : Nat → Nat → List Byte → Tab (BitVec (8 * w))
  | 0, _, _ => []
  | n + 1, i, bs =>
    let v := BitVec.ofNat (8 * w) (leNat (bs.take w))
    if v = 0 then storeWords w n (i + 1) (bs.drop w) else (i, v) :: storeWords w n (i + 1) (bs.drop w)

/-- The entries of the default tables name objects that exist (17 R503). -/
def tablesOk (t : ImageTables) : Bool :=
  let port (p : PortLayout) : Bool := (p.lanes = 1 || p.lanes = 2 || p.lanes = 4 || p.lanes = 8) &&
    decide (p.port < 512 ∧ p.port % p.lanes = 0 ∧ p.iface < 3)
  let apart (a b : PortLayout) : Bool := !meets a.port a.lanes b.port b.lanes && (a.port / 8 ≠ b.port / 8 || a.rate100 = b.rate100)
  !t.invalid && (t.ports.getD []).all port && decide ((t.ports.getD []).Pairwise (fun a b => apart a b)) &&
    t.dir.all (fun e => decide (e.slot < 1024 ∧ e.severity ≤ 4 ∧ 1 ≤ e.rate ∧ e.rate ≤ 1000000 ∧ 1 ≤ e.burst ∧ e.burst ≤ 65535) &&
      (e.code.isNone || decide (e.slot < 1023))) &&
    decide ((t.dir.map DirEntry.slot).Nodup) && t.owners.all (fun o => decide (8 ≤ o.1 ∧ o.1 < 64 ∧ o.2 ≤ 4)) &&
    (match t.actions with | some l => decide (l.length = 6) | none => true)

/-- The port layout of 04 R115: 64 ports of 8 lanes. -/
def layout115 : List PortLayout := (List.range 64).map (fun m => { port := 8 * m })

/-- A port of the layout, with the defaults of 04 R115. -/
def Dev.layPort (d : Dev) (l : PortLayout) : Dev :=
  let cfg : Port :=
    { configured := true, lanes := l.lanes, iface := l.iface, anEn := l.anEn, maxFrame := l.maxFrame, debounceUs := l.debounceUs
      rxInvert := l.rxInvert, txInvert := l.txInvert, txPreset := l.txPreset, trainTimeoutMs := l.trainTimeoutMs
      holdUs := l.holdUs, since := d.bal.tick }
  ((d.modOctal (l.port / 8) (fun y => { y with rate100 := l.rate100 })).modPort l.port (fun _ => cfg)).portDefaults l.port

/-- The event directory as an image fills it (16 R479); a suppression episode that runs goes on. -/
def Dev.fillDirectory (d : Dev) (es : List DirEntry) : Dev :=
  let dir := d.evr.dir.map (fun (x : Nat × DirSlot) => (x.1, { x.2 with code := none, severity := 0, rate := 1000, burst := 64 }))
  let dir := dir.filter (fun x => decide (x.2 ≠ ({} : DirSlot)))
  { d with evr := { d.evr with dir := es.foldl (fun (t : Tab DirSlot) e => tmod t {} e.slot (fun x =>
      { x with code := e.code, severity := e.severity, rate := e.rate, burst := e.burst })) dir } }

/-- Applies the default tables (17 R503): an image's port layout stands in place of that of 04 R115. -/
def Dev.applyTables (d : Dev) (t : ImageTables) : Dev :=
  let d := { d with pse := { d.pse with image := t.actions.getD [2, 0, 2, 0, 2, 2] } }
  let d := match t.ports with
    | none => layout115.foldl Dev.layPort d
    | some l => l.foldl Dev.layPort (layout115.foldl (fun (d : Dev) (p : PortLayout) => d.modPort p.port (fun _ => {})) d)
  let d := d.fillDirectory t.dir
  t.owners.foldl (fun (d : Dev) o => d.modCvu o.1 (fun x => ({ x with nextOwner := some o.2 } : CvuCtx).settle)) d

/-- Fills every store from one set of words per kind (17 Table 17-4). -/
def Dev.fillStores (d : Dev) (parse action : Tab (BitVec 512)) (reg : Nat → Tab (BitVec 128)) (adp : Tab (BitVec 64)) : Dev :=
  let pipe (p : Pipe) : Pipe := { p with parseStore := parse, actionStore := action, parseStopped := false, actionStopped := false }
  let d := (List.range 16).foldl (fun d p => d.modPipe p pipe) d
  let d := { d with reg := { d.reg with
    regStore := (List.range 4).foldl (fun t r => tset t [] r (reg r)) d.reg.regStore
    adpStore := (List.range 8).foldl (fun t r => tset t [] r adp) d.reg.adpStore
    regStopped := 0, adpStopped := 0, regTrapped := 0 } }
  let d := (List.range 4).foldl (fun d r => (d.clearLive (0xF10 + r)).clearLive (0x0D0 + r)) d
  (List.range 8).foldl (fun d r => d.clearLive (0xF18 + r)) d

/-- The words of the boot ROM's diagnostic contents (17 R499). -/
def romWords (w kind n : Nat) : Tab (BitVec w) :=
  (List.range n).filterMap (fun i =>
    let v := (Config.diagRom kind i).setWidth w
    if v = 0 then none else some (i, v))

/-! ### Fuses (17 R509, R510) -/

/-- REVOKE_KEYS and REVOKE_PROV are applied; the slot that verified the image is never revoked. -/
def Dev.revoke (d : Dev) (mask : Nat) (prov : Bool) (slot : Nat) : Dev :=
  let d := (List.range 4).foldl (fun (d : Dev) k =>
    if mask.testBit k && decide (k ≠ slot) && !d.otp.imageRevoked.testBit k then
      ({ d with otp := { d.otp with imageRevoked := d.otp.imageRevoked + 2 ^ k } }).record Ev.keyRevoked .shared none (dat [(0, 1, k)])
    else d) d
  if prov && !d.otp.provRevoked then
    ({ d with otp := { d.otp with provRevoked := true } }).record Ev.keyRevoked .shared none (dat [(0, 1, 4)])
  else d

/-- The anti-rollback counter advances to a SECURITY_VERSION. -/
def Dev.advanceRollback (d : Dev) (v : Nat) : Dev :=
  if v ≤ d.otp.rollback then d
  else ({ d with otp := { d.otp with rollback := v } }).record Ev.rollbackAdvanced .shared none (dat [(0, 1, d.otp.rollback), (1, 1, v)])

/-! ### The end of a load -/

/-- Leaves LOADING with stores filled: the boot registers, the event and the mode (17 R506, 18 Table 18-2). -/
def Dev.loadEnds (d : Dev) (src version slot : Nat) (m : DevMode) : Dev :=
  let us := min (2 ^ 32 - 1) ((d.bal.tick - d.boot.loadTick) / 25)
  let d := { d with boot := { d.boot with
    st := .loaded, slot := src, locked := true, candidates := [], imageVersion := version, keySlot := slot
    path := if src = 2 then 1 else if src = 3 then 3 else 0, unlocked := [] } }
  let d := (d.clearLive 0x015).record Ev.imageLoaded .shared none (dat [(0, 4, version), (4, 1, slot), (5, 1, src), (6, 4, us)])
  let d := if d.boot.rejected && decide (src ≠ 3) then ({ d with boot := { d.boot with fallback := true } }).setLive 0x011 else d
  let d := d.toMode m Ev.modeLoaded none [(0, 1, m.code), (1, 4, version)]
  if m = .provisioning then
    let r := d.modeResult 1
    d.loadAnswer stOk 0 r.1 r.2
  else d.loadAnswer stWrongMode 0x0100 0 0

/-- IMAGE_LOAD_ACCEPTED: the image in hand passes every check of R504 and the load completes (17 R506), or the diagnostic
ROM has filled the stores (17 R499). `fuseBad` says that a fuse blown failed its verification. -/
def doImageLoadAccepted (src : Nat) (img : List Byte) (tables : ImageTables) (fuseBad : Bool) (d : Dev) : Dev :=
  if d.bal.mode ≠ .loading ∨ d.boot.candidates.head? ≠ some src then d
  else if src = 3 then
    let d := d.fillStores (romWords 512 1 4096) (romWords 512 2 2048) (fun r => romWords 128 (16 + r) 8192) (romWords 64 4 2048)
    let d := layout115.foldl Dev.layPort d
    let d := { d with boot := { d.boot with diagRom := true, sections := [], manifestHash := 0, persist := false } }
    d.loadEnds 3 0 0 .diagnostic
  else
    let man := img.take 1024
    let m := leNat man
    let ss := secDescs m
    match d.manifestCause img, d.keySlotOf man with
    | none, some slot =>
      if !(ss.all (fun s => decide ((secBytes img s).length = s.length ∧ measure img s = s.hash)) && tablesOk tables) then d
      else
        let of (t : Nat) : SecDesc := (ss.find? (fun s => decide (s.type = t))).getD (ss.headD { type := 0, target := 0, offset := 0, length := 0, hash := 0 })
        let reg (r : Nat) : List Byte := ((ss.find? (fun s => decide (s.type = 3 ∧ s.target = r))).map (secBytes img)).getD []
        let d := d.fillStores (storeWords 64 4096 0 (secBytes img (of 1))) (storeWords 64 2048 0 (secBytes img (of 2)))
          (fun r => storeWords 16 8192 0 (reg r)) (storeWords 8 2048 0 (secBytes img (of 4)))
        let d := d.applyTables tables
        let blows := decide (fld m 0x0D 0 1 = 1 ∧ d.otp.rollback < fld m 0x0C 0 7) || (fld m 0x0E 4 1 = 1 && !d.otp.provRevoked) ||
          (List.range 4).any (fun k => (fld m 0x0E 0 4).testBit k && decide (k ≠ slot) && !d.otp.imageRevoked.testBit k)
        let d := d.revoke (fld m 0x0E 0 4) (decide (fld m 0x0E 4 1 = 1)) slot
        let d := if fld m 0x0D 0 1 = 1 then d.advanceRollback (fld m 0x0C 0 7) else d
        let d := if fuseBad && blows then ({ d with boot := { d.boot with fuseFailed := true } }).setLive 0x013 else d
        let persist := decide (fld m 0x1C 0 32 ≠ 0xFFFFFFFF)
        let d := { d with boot := { d.boot with
          diagRom := false, manifestHash := BitVec.ofNat 512 (leNat (sha512 man)), persist := persist
          sections := ss.map (fun s => { type := s.type, target := s.target, measurement := BitVec.ofNat 512 s.hash }) } }
        let d : Dev := if persist || d.evr.scanDone then d else doPowerOnScanDone [] 0 d
        d.loadEnds src (fld m 8 0 32) slot .provisioning
    | _, _ => d

/-! ### Leaving LOADING early, resets and clocks (17 R500; 18 R523-R526, R540; 19 R554) -/

/-- SYS_RST_N: to DORMANT, from which a load starts as after POR_N (18 Table 18-2); the straps stand as last sampled. -/
def doSysRstN (d : Dev) : Dev :=
  if d.bal.mode = .off then d
  else
    let d := d.toMode .dormant Ev.modeReset none [(0, 1, d.bal.mode.code)]
    let d := { d with boot := { d.boot with auto := decide (d.bal.bootEff ≠ 1), candidates := [] } }
    d.loadAnswer stAborted 0x2000 0 0

/-- CORE_PLL_LOCK_TIMEOUT: no lock after 50 µs; the PLL is restarted once, and then the device returns to DORMANT (18 R524).
FS_CLK_CORE_PLL is reported, and lives no longer than the core domain's power. -/
def doCorePllLockTimeout (d : Dev) : Dev :=
  if d.bal.mode ≠ .loading ∨ d.bal.tick > d.bal.since + usTicks 100 then d
  else
    let d := d.reach (d.bal.since + usTicks (if d.bal.corePllRetried then 100 else 50))
    if !d.bal.corePllRetried then { d with bal := { d.bal with corePllRetried := true } }
    else
      let d := { d with bal := { d.bal with corePll := false } }
      let d := d.record Ev.pllLockFailed .shared (some 0x002) (dat [(0, 1, 1)])
      let d := d.toMode .dormant Ev.modeFault (some 0x002) [(0, 1, 1), (1, 1, 2), (2, 2, 0x002)]
      let d := { d with boot := { d.boot with candidates := [] } }
      (d.liveFor 0x002 1).loadAnswer stAborted 0x2000 0 0

/-- CORE_PLL_LOCK_LOSS (18 R524). -/
def doCorePllLockLoss (d : Dev) : Dev :=
  if d.corePowered then ({ d with bal := { d.bal with corePll := false } }).setLive 0x002 else d

/-- REF100_LOSS: the AON clock runs from the internal oscillator (18 R523). -/
def doRef100Loss (d : Dev) : Dev :=
  let d := { d with bal := { d.bal with refOnOsc := true } }
  if d.bal.porN then d.setLive 0x000 else d

/-- REF100_RETURN (18 R523). -/
def doRef100Return (d : Dev) : Dev := ({ d with bal := { d.bal with refOnOsc := false } }).clearLive 0x000

/-- SERDES_REF_LOSS (18 R540). -/
def doSerdesRefLoss (d : Dev) : Dev := ({ d with bal := { d.bal with serdesRef := false } }).serdesRefresh

/-- SERDES_REF_RETURN (18 R540). -/
def doSerdesRefReturn (d : Dev) : Dev := ({ d with bal := { d.bal with serdesRef := true } }).serdesRefresh

/-- MGMT_PLL_LOCK_LOSS (18 R540). -/
def doMgmtPllLockLoss (d : Dev) : Dev :=
  if d.bal.porN then ({ d with bal := { d.bal with mgmtPll := false } }).setLive 0x001 else d

/-! ### Temperature and supplies (19 R551, R562, R563, R568) -/

/-- The 16 sensors are read. -/
def Dev.readSensors (d : Dev) (temps : List Nat) : Dev :=
  let t := (List.range 16).foldl (fun t i => tset t 0 i (temps.getD i 0 % 65536)) d.bal.sensors
  { d with bal := { d.bal with sensors := t } }

/-- CALIBRATION_PASS: the Balance sequencer reads the sensors every 1 ms (18 Table 18-7). -/
def doCalibrationPass (temps : List Nat) (d : Dev) : Dev :=
  if !d.bal.porN ∨ temps.length ≠ 16 then d else (d.readSensors temps).balanceRefresh

/-- THERM_N_CROSSING: THERM_N asserts at 115 °C and releases below 110 °C (19 R563); it works while POR_N is low. -/
def doThermNCrossing (temps : List Nat) (d : Dev) : Dev :=
  if temps.length ≠ 16 then d
  else
    let d := d.readSensors temps
    let t := (hottest temps).2
    let d := { d with bal := { d.bal with thermN := if 460 ≤ t then true else if t < 440 then false else d.bal.thermN } }
    if d.bal.porN then d.balanceRefresh else d

/-- THERMAL_TRIP: a sensor that is not excluded reads 125 °C or more for 10 µs (19 R563, R568). -/
def doThermalTrip (temps : List Nat) (d : Dev) : Dev :=
  if !d.bal.porN ∨ temps.length ≠ 16 ∨ (hottest temps).2 < 500 ∨ d.tripped then d
  else
    let h := hottest temps
    let fs : List (Nat × Nat × Nat) := [(0, 1, d.bal.mode.code), (1, 2, unsigned 16 h.2), (3, 1, h.1)]
    let d := (d.readSensors temps).balanceRefresh
    let d := if d.bal.mode = .dormant then d.record Ev.modeThermalTrip .shared (some 0x032) (dat fs)
      else
        let d := d.toMode .dormant Ev.modeThermalTrip (some 0x032) fs
        ({ d with boot := { d.boot with candidates := [] } }).loadAnswer stAborted 0x2000 0 0
    d.setLive 0x032

/-- AVS_WRITE: calibration moves VDD_CORE by at most 5 mV, at least 10 µs after the last step, within 0.68-0.82 V, never while a
pipeline wakes, and no more once a write has failed (18 R535, 19 R551). The regulator confirms it or does not. -/
def doAvsWrite (mv : Nat) (confirm : Bool) (d : Dev) : Dev :=
  let b := d.bal
  if !b.porN ∨ mv < 680 ∨ 820 < mv ∨ b.vddCore + 5 < mv ∨ mv + 5 < b.vddCore ∨ b.avsPending.isSome ∨ (d.src 0x022).live ∨
      (b.avsTick ≠ 0 ∧ b.tick < b.avsTick + usTicks 10) ∨ d.pipes.any (fun p => p.2.waking) then d
  else
    let d := d.emit (.avs mv)
    { d with bal := { b with avsTick := b.tick, vddCore := if confirm then mv else b.vddCore, avsPending := if confirm then none else some mv } }

/-- AVS_CONFIRM_TIMEOUT: no confirmation within 1 ms; the voltage stays where it stands (19 R551). -/
def doAvsConfirmTimeout (d : Dev) : Dev :=
  if d.bal.avsPending.isNone then d
  else
    let d := d.reach (d.bal.avsTick + msTicks 1)
    ({ d with bal := { d.bal with avsPending := none } }).setLive 0x022

/-- Nominal voltages of the rails in Table 19-5 order, in mV. -/
def railNominal (i : Nat) : Nat := [800, 1800, 750, 850, 750, 1200, 900, 750, 1200, 1800, 1100, 400].getD i 0

/-- A rail's voltage as last measured; before that, nominal. -/
def Dev.railMv (d : Dev) (i : Nat) : Nat := tget d.bal.rails (railNominal i) i

def Dev.setRail (d : Dev) (i mv : Nat) : Dev :=
  { d with bal := { d.bal with rails := tset d.bal.rails (railNominal i) i (mv % 65536) } }

/-- Rail n of FS_PWR_RAIL (row n + 3 of Table 19-5) is below or above its tolerance at a voltage; VDD_CORE's is 2.5 % of the set
point, VPP_HBM's 5 %, the others' 3 %. -/
def Dev.railOut (d : Dev) (n mv : Nat) : Option Bool :=
  let nom := if n = 0 then d.bal.vddCore else railNominal (n + 2)
  let tol := if n = 0 then 25 else if n = 7 then 50 else 30
  if 1000 * mv < nom * (1000 - tol) then some false else if nom * (1000 + tol) < 1000 * mv then some true else none

/-- FS_PWR_MEM_MARGIN ends once VDD_MEM stands above VDD_CORE − 50 mV again. -/
def Dev.marginEnds (d : Dev) : Dev := if d.railMv 3 + 50 < d.railMv 2 then d else d.clearLive 0x021

/-- RAIL_OUT_OF_TOLERANCE: a rail leaves its tolerance, with EV_PWR_RAIL, or re-enters it (19 R568). -/
def doRailOutOfTolerance (rail mv : Nat) (d : Dev) : Dev :=
  if !d.bal.porN ∨ 10 ≤ rail then d
  else
    let d := (d.setRail (rail + 2) mv).marginEnds
    match d.railOut rail mv, d.bal.railsBad.testBit rail with
    | some above, false =>
      let d := { d with bal := { d.bal with railsBad := d.bal.railsBad + 2 ^ rail } }
      (d.record Ev.pwrRail .shared (some (0x023 + rail)) (dat [(0, 1, rail), (1, 2, mv), (3, 1, b2n above)])).setLive (0x023 + rail)
    | none, true => ({ d with bal := { d.bal with railsBad := d.bal.railsBad - 2 ^ rail } }).clearLive (0x023 + rail)
    | _, _ => d

/-- MEM_MARGIN_BROKEN: VDD_MEM has been below VDD_CORE − 50 mV for 1 µs while the core domain is powered (19 R550). -/
def doMemMarginBroken (mem core : Nat) (d : Dev) : Dev :=
  if d.corePowered ∧ mem + 50 < core then ((d.setRail 3 mem).setRail 2 core).setLive 0x021 else d

/-! ### Regulators and adaptation engines (15 R463, 17 R513) -/

/-- REGULATOR_TRAP: kind 0 an undefined instruction, 1 an access outside its windows. -/
def doRegulatorTrap (r word kind : Nat) (d : Dev) : Dev :=
  if d.bal.mode = .off ∨ 4 ≤ r ∨ 8192 ≤ word ∨ 2 ≤ kind ∨ !d.regRuns r then d
  else
    let d := { d with reg := { d.reg with regTrapped := d.reg.regTrapped + 2 ^ r } }
    (d.record Ev.regTrap .shared (some (0x0D0 + r)) (dat [(0, 1, r), (1, 2, word), (3, 1, kind)])).setLive (0x0D0 + r)

/-- REGULATOR_STORE_UE: an uncorrectable fetch, retried once, stops a regulator or an adaptation engine. -/
def doRegulatorStoreUe (adp : Bool) (i word : Nat) (lasting : Bool) (d : Dev) : Dev :=
  let fs : List (Nat × Nat × Nat) := [(0, 1, i), (1, 2, word), (3, 1, b2n lasting)]
  if adp then
    if !d.corePowered ∨ 8 ≤ i ∨ 2048 ≤ word ∨ d.reg.adpStopped.testBit i then d
    else
      let d := { d with reg := { d.reg with adpStopped := d.reg.adpStopped + 2 ^ i } }
      (d.record Ev.adpStoreFault .shared (some (0xF18 + i)) (dat fs)).setLive (0xF18 + i)
  else if d.bal.mode = .off ∨ 4 ≤ i ∨ 8192 ≤ word ∨ !d.regRuns i then d
  else
    let d := { d with reg := { d.reg with regStopped := d.reg.regStopped + 2 ^ i } }
    (d.record Ev.regStoreFault .shared (some (0xF10 + i)) (dat fs)).setLive (0xF10 + i)

/-! ### OP_MODE_SET of the device (18 R526) -/

/-- The modes that OP_MODE_SET reaches from a mode (18 Table 18-2). -/
def reaches (m : DevMode) (t : Nat) : Bool :=
  match m with
  | .dormant => decide (t = 3)
  | .provisioning => decide (t = 4 ∨ t = 6 ∨ t = 7 ∨ t = 1)
  | .forwarding => decide (t = 5 ∨ t = 6)
  | .draining => decide (t = 6)
  | .safeHold => decide (t = 3 ∨ t = 4 ∨ t = 1)
  | .diagnostic => decide (t = 3 ∨ t = 6 ∨ t = 1)
  | .off | .loading => false

/-- A shared source bars the exit from SAFE_HOLD: latched at CRITICAL, or at MAJOR after an escalation. -/
def Dev.exitBlocked (d : Dev) : Bool :=
  d.fcr.srcs.any (fun s => decide (d.attribution s.1 = .shared) && s.2.latched &&
    (decide (s.2.latchedSev = 4) || (decide (s.2.latchedSev = 3) && s.2.escalated)))

/-- OP_MODE_SET of the device. From DORMANT the command waits, off its engine, for LOADING to end (02 R57). The other transitions
are a duty of regulator 0: while it is stopped the command waits for an engine again (01 Table 1-5, 15 R463; DEDUCED, assumption
144). -/
def doOpModeSetDevice (c : CmdRef) (io : Io) (d : Dev) : Dev :=
  d.step1 c (isOpAct 0x05 (16, 4, 1) 0) fun d x =>
    let t := x.fld 16 0 4
    let w := (c.ep, c.ring, c.pos.toNat)
    let done (d : Dev) : Dev :=
      let r := d.modeResult x.dispMode
      d.ok c r.1 r.2
    let wait (d : Dev) : Dev := if d.boot.waiter = some w then d.park c else d
    if t = d.bal.mode.code then done d
    else if !reaches d.bal.mode t then d.fail c stWrongMode 0x0100
    else if d.bal.mode ≠ .dormant ∧ !d.regRuns 0 then d.again c []
    else match d.bal.mode with
    | .dormant =>
      if d.tripped then d.fail c stWrongMode 0x0400
      else if d.bal.bootEff = 1 then wait (d.startLoad [2] (some c.ep) (some w) d.boot.certLen)
      else if d.bal.bootEff = 3 then wait (d.startLoad [3] (some c.ep) (some w) 0)
      else wait (d.flashLoad (io.rd.getD []) (some c.ep) (some w))
    | .forwarding =>
      if t = 5 then
        let ms := if x.fld 18 0 16 ≠ 0 then x.fld 18 0 16 else if d.bal.drainMs = 0 then 1000 else d.bal.drainMs
        done (d.startDrain ms c.ep)
      else done (d.byCommand .safeHold c.ep)
    | .safeHold | .diagnostic =>
      if (t = 3 ∨ t = 4) ∧ (d.boot.diagRom ∨ d.boot.bistRun) then d.fail c stWrongMode 0x0100
      else if (t = 3 ∨ t = 4) ∧ d.bal.mode = .safeHold ∧ d.exitBlocked then d.fail c stClearRefused
      else done (d.byCommand (modeOfCode t) c.ep)
    | _ => done (d.byCommand (modeOfCode t) c.ep)

/-! ### OP_STORE_RELOAD (17 R514-R516) -/

/-- The section of the loaded image that fills a store. -/
def sectionFor (kind i : Nat) (type target : Nat) : Bool :=
  match kind with
  | 0 => decide (type = 1)
  | 1 => decide (type = 2)
  | 2 => decide (type = 3 ∧ target = i)
  | _ => decide (type = 4)

/-- The store's user stops, if it still runs (17 R515). -/
def Dev.stopUser (d : Dev) (kind i : Nat) : Dev :=
  match kind with
  | 0 => (d.trigger i).modPipe i (fun x => { x with parseStopped := true })
  | 1 => (d.trigger i).modPipe i (fun x => { x with actionStopped := true })
  | 2 => { d with reg := { d.reg with regStopped := d.reg.regStopped ||| 2 ^ i } }
  | _ => { d with reg := { d.reg with adpStopped := d.reg.adpStopped ||| 2 ^ i } }

/-- A section's words are written, the store is locked and its user restarted. -/
def Dev.restoreStore (d : Dev) (kind i : Nat) (bs : List Byte) : Dev :=
  let drop (n : Nat) : Nat := if n.testBit i then n - 2 ^ i else n
  let d := { d with boot := { d.boot with unlocked := d.boot.unlocked.filter (fun u => decide (u ≠ (kind, i))) } }
  let d := { d with boot := { d.boot with locked := d.boot.unlocked.isEmpty } }
  let d := if d.boot.unlocked.isEmpty then d.clearLive 0x015 else d
  match kind with
  | 0 => (d.modPipe i (fun x => { x with parseStore := storeWords 64 4096 0 bs, parseStopped := false })).clearLive (0x500 + 64 * i)
  | 1 => (d.modPipe i (fun x => { x with actionStore := storeWords 64 2048 0 bs, actionStopped := false })).clearLive (0x510 + 64 * i)
  | 2 =>
    (({ d with reg := { d.reg with
        regStore := tset d.reg.regStore [] i (storeWords 16 8192 0 bs), regStopped := drop d.reg.regStopped
        regTrapped := drop d.reg.regTrapped } }).clearLive (0xF10 + i)).clearLive (0x0D0 + i)
  | _ =>
    ({ d with reg := { d.reg with
        adpStore := tset d.reg.adpStore [] i (storeWords 8 2048 0 bs), adpStopped := drop d.reg.adpStopped } }).clearLive (0xF18 + i)

/-- OP_STORE_RELOAD. The first step reads and verifies the manifest and stops the store's user, the second reads the section
and writes it; after a failure the store stays unlocked and zeroed. -/
def doOpStoreReload (c : CmdRef) (io : Io) (d : Dev) : Dev :=
  (d.step1 c (isOp 0xB0) fun d x =>
    let kind := x.fld 16 0 2
    let i := x.fld 17 0 4
    let src := x.fld 18 0 1
    let fails (d : Dev) (cause : Nat) : Dev :=
      let d := d.reloadFails cause
      let d := if cause = 1 then d.fail c stTimeout (if src = 1 then 24 else 0) else d.badOp c (16 + 256 * cause)
      d.refreshPauseAll
    match x.scratch with
    | [] =>
      if d.boot.reloading.isSome then d.fail c stWrongMode 0x0200
      else
        let d := { d with boot := { d.boot with reloading := some (c.ep, c.ring, c.pos.toNat, kind, i, d.bal.tick) } }
        match io.rd with
        | none => fails d 1
        | some man =>
          let m := leNat (man.take 1024)
          if leNat (sha512 (man.take 1024)) ≠ d.boot.manifestHash.toNat then fails d 9
          else match d.manifestCause man with
            | some k => fails d k
            | none =>
              if src = 1 ∧ x.fld 32 0 32 < fld m 0x18 0 32 then fails d 2
              else match (secDescs m).find? (fun s => sectionFor kind i s.type s.target) with
                | none => fails d 8
                | some s =>
                  let d := { d with boot := { d.boot with locked := false } }
                  (((d.stopUser kind i).refreshPauseAll).again c [s.length, s.hash])
    | len :: hash :: _ =>
      match io.rd with
      | none => fails d 1
      | some bs =>
        if bs.length ≠ len ∨ leNat (sha512 bs) ≠ hash then fails d 7
        else
          let us := match d.boot.reloading with
            | some (_, _, _, _, _, t) => min (2 ^ 32 - 1) ((d.bal.tick - t) / 25)
            | none => 0
          let d := d.restoreStore kind i bs
          let up (s : Section) : Section :=
            if sectionFor kind i s.type s.target then { s with reloads := min (2 ^ 32 - 1) (s.reloads + 1) } else s
          let d := { d with boot := { d.boot with reloading := none, sections := d.boot.sections.map up } }
          let d := d.record Ev.storeReloaded .shared none (dat [(0, 1, kind), (1, 1, i), (2, 4, us)])
          (d.refreshPauseAll).ok c us
    | _ => d).endedSweep

/-! ### OP_ATTEST (17 R517-R519) -/

/-- GL_OTP_STATUS (17 Table 17-10). -/
def Dev.otpStatus (d : Dev) : Nat :=
  let o := d.otp
  pack [(0, 4, o.imageProg), (4, 4, o.imageRevoked ||| o.imageBad), (8, 1, b2n o.provProg), (9, 1, b2n (o.provRevoked || o.provBad)),
    (10, 7, o.rollback), (17, 1, b2n o.jtagLock), (18, 1, b2n o.diagRomDisable), (19, 1, b2n o.hostPushDisable),
    (20, 1, b2n o.identity), (21, 1, b2n o.err)]

/-- GL_STRAP_STATUS (17 Table 17-10). -/
def Dev.strapStatus (d : Dev) : Nat :=
  let s := d.bal.straps
  pack [(0, 2, s.bootSrc), (2, 2, s.wardenSel), (4, 2, s.peBif), (6, 3, s.smbAddr), (9, 2, d.bal.bootEff)]

/-- Bytes 0x000-0x2CF of an attestation report (17 Table 17-9). -/
def Dev.reportBody (d : Dev) (ep nonce seq : Nat) : List Byte :=
  let b := d.boot
  let at_ (off : Nat) (w v : Nat) : Nat × Nat × Nat := (8 * off, w, v)
  let head := [at_ 0 32 0x54535441, at_ 4 16 1, at_ 6 16 0x0360, at_ 8 64 d.deviceTag, at_ 0x10 256 nonce, at_ 0x30 32 seq,
    at_ 0x34 16 d.evr.powerCycles, at_ 0x36 8 (pack [(0, 4, d.bal.mode.code), (4, 2, ep), (6, 1, b2n (d.isWarden ep))]),
    at_ 0x38 40 d.aon, at_ 0x40 32 b.imageVersion, at_ 0x44 2 b.keySlot, at_ 0x45 7 d.otp.rollback, at_ 0x46 2 b.path,
    at_ 0x47 4 b.sections.length, at_ 0x48 8 (d.otpStatus % 256),
    at_ 0x49 8 (pack [(0, 2, bits d.otpStatus 8 2), (2, 3, bits d.otpStatus 17 3), (5, 1, b2n d.otp.err)]),
    at_ 0x50 512 b.manifestHash.toNat]
  let secs := (b.sections.zipIdx).map (fun (s : Section × Nat) =>
    at_ (0x90 + 72 * s.2) 576 (pack [(0, 8, s.1.type), (8, 8, s.1.target), (32, 32, s.1.reloads), (64, 512, s.1.measurement.toNat)]))
  leBytes 720 (pack (head ++ secs))

/-- OP_ATTEST REPORT: the report of 864 bytes, signed with the identity key. -/
def doOpAttestReport (c : CmdRef) (io : Io) (d : Dev) : Dev :=
  d.step1 c (isOpAct 0x04 (16, 0, 1) 0) fun d x =>
    if !d.otp.identity then d.fail c stNotFound 0x0100
    else if x.fld 20 0 32 < 864 then d.badOp c 20
    else
      let seq := (d.boot.reportSeq + 1) % 2 ^ 32
      let d := { d with boot := { d.boot with reportSeq := seq } }
      let body := d.reportBody c.ep (x.fld 32 0 256) seq
      let sig := ecdsaSign d.otp.idPriv body
      let d := d.hostOut c.ep (x.fld 24 0 64) (body ++ sig.1 ++ sig.2 ++ List.replicate 12 0) io.wrErr
      let d := d.record Ev.attest .shared none (dat [(0, 1, c.ep), (1, 4, seq), (5, 1, 0)])
      d.okBuf c io.wrErr 24 864 seq

/-- OP_ATTEST CERT: the identity certificate in flash. -/
def doOpAttestCert (c : CmdRef) (io : Io) (d : Dev) : Dev :=
  d.step1 c (isOpAct 0x04 (16, 0, 1) 1) fun d x =>
    if !d.otp.identity then d.fail c stNotFound 0x0100
    else if d.boot.certLen = 0 ∨ d.boot.path ≠ 0 then d.fail c stNotFound 0x0200
    else if x.fld 20 0 32 < d.boot.certLen then d.badOp c 20
    else match ioBytes io d.boot.certLen with
      | none => d.fail c stTimeout
      | some bs =>
        let d := d.hostOut c.ep (x.fld 24 0 64) bs io.wrErr
        let d := d.record Ev.attest .shared none (dat [(0, 1, c.ep), (1, 4, d.boot.reportSeq), (5, 1, 1)])
        d.okBuf c io.wrErr 24 d.boot.certLen d.boot.reportSeq

/-! ### Meanings -/

/-- OP_ATTEST_REPORT (R518). -/
def execOpAttestReport (c : CmdRef) (io : Io) (s : State) : Host.Outcome State Fault Refusal :=
  .next { s with dev := doOpAttestReport c io s.dev }

/-- OP_ATTEST_CERT (R518). -/
def execOpAttestCert (c : CmdRef) (io : Io) (s : State) : Host.Outcome State Fault Refusal :=
  .next { s with dev := doOpAttestCert c io s.dev }

/-- OP_MODE_SET_DEVICE (R526). -/
def execOpModeSetDevice (c : CmdRef) (io : Io) (s : State) : Host.Outcome State Fault Refusal :=
  .next { s with dev := doOpModeSetDevice c io s.dev }

/-- OP_STORE_RELOAD (R515). -/
def execOpStoreReload (c : CmdRef) (io : Io) (s : State) : Host.Outcome State Fault Refusal :=
  .next { s with dev := doOpStoreReload c io s.dev }

/-- POR_N_DEASSERT (R525). -/
def execPorNDeassert (straps : List Nat) (broken : List Nat) (s : State) : Host.Outcome State Fault Refusal :=
  .next { s with dev := doPorNDeassert straps broken s.dev }

/-- POR_N_ASSERT (R554). -/
def execPorNAssert (s : State) : Host.Outcome State Fault Refusal :=
  .next { s with dev := doPorNAssert s.dev }

/-- SYS_RST_N (R554). -/
def execSysRstN (s : State) : Host.Outcome State Fault Refusal :=
  .next { s with dev := doSysRstN s.dev }

/-- LOAD_START (R498). -/
def execLoadStart (flash : List Byte) (s : State) : Host.Outcome State Fault Refusal :=
  .next { s with dev := doLoadStart flash s.dev }

/-- GL_BOOT_CTRL_GO (R500). -/
def execGlBootCtrlGo (ep : Nat) (s : State) : Host.Outcome State Fault Refusal :=
  .next { s with dev := doGlBootCtrlGo ep s.dev }

/-- IMAGE_REJECTED (R504). -/
def execImageRejected (src : Nat) (cause : Nat) (version : Nat) (s : State) : Host.Outcome State Fault Refusal :=
  .next { s with dev := doImageRejected src cause version s.dev }

/-- IMAGE_LOAD_ACCEPTED (R506). -/
def execImageLoadAccepted (src : Nat) (img : List Byte) (tables : ImageTables) (fuseBad : Bool) (s : State) : Host.Outcome State Fault Refusal :=
  .next { s with dev := doImageLoadAccepted src img tables fuseBad s.dev }

/-- CORE_PLL_LOCK_TIMEOUT (R524). -/
def execCorePllLockTimeout (s : State) : Host.Outcome State Fault Refusal :=
  .next { s with dev := doCorePllLockTimeout s.dev }

/-- CORE_PLL_LOCK_LOSS (R524). -/
def execCorePllLockLoss (s : State) : Host.Outcome State Fault Refusal :=
  .next { s with dev := doCorePllLockLoss s.dev }

/-- REF100_LOSS (R523). -/
def execRef100Loss (s : State) : Host.Outcome State Fault Refusal :=
  .next { s with dev := doRef100Loss s.dev }

/-- THERMAL_TRIP (R563). -/
def execThermalTrip (temps : List Nat) (s : State) : Host.Outcome State Fault Refusal :=
  .next { s with dev := doThermalTrip temps s.dev }

/-- THERM_N_CROSSING (R563). -/
def execThermNCrossing (temps : List Nat) (s : State) : Host.Outcome State Fault Refusal :=
  .next { s with dev := doThermNCrossing temps s.dev }

/-- CALIBRATION_PASS (R534). -/
def execCalibrationPass (temps : List Nat) (s : State) : Host.Outcome State Fault Refusal :=
  .next { s with dev := doCalibrationPass temps s.dev }

/-- AVS_WRITE (R551). -/
def execAvsWrite (mv : Nat) (confirm : Bool) (s : State) : Host.Outcome State Fault Refusal :=
  .next { s with dev := doAvsWrite mv confirm s.dev }

/-- AVS_CONFIRM_TIMEOUT (R551). -/
def execAvsConfirmTimeout (s : State) : Host.Outcome State Fault Refusal :=
  .next { s with dev := doAvsConfirmTimeout s.dev }

/-- REGULATOR_TRAP (R513). -/
def execRegulatorTrap (r : Nat) (word : Nat) (kind : Nat) (s : State) : Host.Outcome State Fault Refusal :=
  .next { s with dev := doRegulatorTrap r word kind s.dev }

/-- REGULATOR_STORE_UE (R463). -/
def execRegulatorStoreUe (adp : Bool) (i : Nat) (word : Nat) (lasting : Bool) (s : State) : Host.Outcome State Fault Refusal :=
  .next { s with dev := doRegulatorStoreUe adp i word lasting s.dev }

/-- REF100_RETURN (R523). -/
def execRef100Return (s : State) : Host.Outcome State Fault Refusal :=
  .next { s with dev := doRef100Return s.dev }

/-- SERDES_REF_LOSS (R540). -/
def execSerdesRefLoss (s : State) : Host.Outcome State Fault Refusal :=
  .next { s with dev := doSerdesRefLoss s.dev }

/-- SERDES_REF_RETURN (R540). -/
def execSerdesRefReturn (s : State) : Host.Outcome State Fault Refusal :=
  .next { s with dev := doSerdesRefReturn s.dev }

/-- MGMT_PLL_LOCK_LOSS (R540). -/
def execMgmtPllLockLoss (s : State) : Host.Outcome State Fault Refusal :=
  .next { s with dev := doMgmtPllLockLoss s.dev }

/-- RAIL_OUT_OF_TOLERANCE (R568). -/
def execRailOutOfTolerance (rail : Nat) (mv : Nat) (s : State) : Host.Outcome State Fault Refusal :=
  .next { s with dev := doRailOutOfTolerance rail mv s.dev }

/-- MEM_MARGIN_BROKEN (R550). -/
def execMemMarginBroken (mem : Nat) (core : Nat) (s : State) : Host.Outcome State Fault Refusal :=
  .next { s with dev := doMemMarginBroken mem core s.dev }

end Sys2Proof.Machine
end

