-- ==== Sys2Proof/Machine/Faults.lean ====
section
/-! DEFINITION. The Dike Watch: reports and reactions, grace timers, classes, clears, its commands, and the Tourbillon
(chapter 15). -/
namespace Sys2Proof.Machine

/-! ### Who sees a source (03 R95, R585; 15 R448, R466) -/

/-- The polders to which a source is attributed; 0 for a shared source or one of no polder. -/
def Dev.srcMask (d : Dev) (s : Nat) : Nat :=
  match d.attribution s with
  | .polders m => m
  | _ => 0

/-- Endpoint `e` sees source `s`. -/
def Dev.srcVisible (d : Dev) (e s : Nat) : Bool :=
  d.isWarden e || decide (d.attribution s = .shared) || decide (d.srcMask s &&& d.owned e ≠ 0)

/-- Endpoint `e` may set, acknowledge and clear source `s` (15 R466). -/
def Dev.mayAct (d : Dev) (e s : Nat) : Bool :=
  decide (d.srcMask s &&& d.owned e ≠ 0) || (d.isWarden e && decide (d.srcMask s = 0))

/-- The alarm of a report at a severity (15 R448): every up endpoint to which the source is visible. -/
def Dev.alarmAll (d : Dev) (s sev : Nat) : Dev :=
  (List.range 4).foldl (fun d e =>
    if d.present e && (d.ep e).up && d.srcVisible e s then
      d.alarm e sev (if d.isWarden e then d.srcMask s else d.srcMask s &&& d.owned e)
    else d) d

/-! ### FAULT_N and ALERT_N (15 R448, R453, R470) -/

/-- ALERT_MIN in force: 0 is taken as 1, and 5-7 as 4. -/
def Fcr.alertLevel (f : Fcr) : Nat := if f.alertMin = 0 then 1 else min 4 f.alertMin

/-- The two outputs follow the latched sources. -/
def Dev.faultPins (d : Dev) : Dev :=
  { d with fcr := { d.fcr with
    faultN := d.fcr.srcs.any (fun s => s.2.latched && s.2.critTaken)
    alertN := d.fcr.srcs.any (fun s => s.2.latched && decide (d.fcr.alertLevel ≤ s.2.latchedSev)) } }

/-! ### History and first faults (15 R457, R459, R460) -/

/-- A history entry is made; its id is the number of entries before it. -/
def Dev.histAdd (d : Dev) (s sev : Nat) (lasting same : Bool) : Dev :=
  let h : HistEntry := { source := s, severity := sev, lasting := lasting, sameCycle := same, id := d.fcr.historyTotal, tick := d.aon }
  { d with fcr := { d.fcr with history := (h :: d.fcr.history).take 64, historyTotal := d.fcr.historyTotal + 1 } }

/-- The report that an empty register captures among those it considers: of the highest severity, then the lowest source. -/
def firstOf (tick : Nat) (rs : List (Nat × Nat)) (lasting : Nat → Bool) : Option FirstFault :=
  match rs with
  | [] => none
  | r :: t =>
    let m := t.foldl (fun (b : Nat × Nat) (x : Nat × Nat) => if b.2 < x.2 ∨ (b.2 = x.2 ∧ x.1 < b.1) then x else b) r
    some { source := m.1, severity := m.2, lasting := lasting m.1, sameCycle := decide (1 < rs.length), tick := tick }

/-- Empty first-fault registers capture among the reports of MINOR or above of one sampling cycle: source and severity. -/
def Dev.capture (d : Dev) (rs : List (Nat × Nat)) : Dev :=
  let rs := rs.filter (fun r => decide (2 ≤ r.2))
  if rs.isEmpty then d
  else
    let last (s : Nat) : Bool := (d.src s).lasting
    let considers (p : Nat) (r : Nat × Nat) : Bool := match d.attribution r.1 with
      | .shared => true
      | .polders m => m.testBit p
      | .nobody => false
    { d with fcr := { d.fcr with
      firstDev := if d.fcr.firstDev.isSome then d.fcr.firstDev else firstOf d.aon rs last
      first := (List.range 8).foldl (fun t p =>
        if (tget t none p).isSome then t else tset t none p (firstOf d.aon (rs.filter (considers p)) last)) d.fcr.first } }

/-! ### Reactions (15 Table 15-2, R451-R453) -/

/-- The CRITICAL reaction of a source: SAFE_HOLD of the device and FAULT_N for a shared source, of its polders otherwise; none
for a source of no polder (03 R103, R585). -/
def Dev.critical (d : Dev) (s : Nat) : Dev :=
  match d.attribution s with
  | .shared => (d.modSrc s (fun x => { x with critTaken := true })).safeHoldFor s
  | .polders m => d.holdPolders m s
  | .nobody => d

/-- A report is taken into the source's own state. -/
def Dev.latch (d : Dev) (s sev : Nat) : Dev :=
  d.modSrc s (fun x =>
    { x with
      sampled := true, latched := true, latchedSev := if x.latched then max x.latchedSev sev else sev, lastTick := d.aon
      reports := min (2 ^ 24 - 1) (x.reports + 1), lasting := true
      escalated := x.latched && x.escalated, critTaken := x.latched && x.critTaken })

/-- The record of a report, citing history entry `h` (15 R447). -/
def Dev.reportRecord (d : Dev) (s sev : Nat) (same : Bool) (h : Option Nat) : Dev :=
  d.recordSev Ev.faultReport sev (d.attribution s) (some s)
    (dat [(0, 2, s), (2, 1, sev), (3, 1, 1 + 2 * b2n same), (4, 5, d.aon)]) h

/-- The entry, record and, past the 64th of the cycle, the skip of one report, of a cycle that has so many reports of MINOR or above
(15 R459, R460). -/
def Dev.reportMade (d : Dev) (entries : Nat) (r : Nat × Nat × Nat) : Dev :=
  let (i, s, sev) := r
  let same := decide ((if sev = 1 then 0 else 1) < entries)
  if sev = 0 then d
  else if sev = 1 then d.reportRecord s sev same none
  else if i < 64 then (d.histAdd s sev true same).reportRecord s sev same (some d.fcr.historyTotal)
  else ((d.reportRecord s sev same none).bump .faultHistorySkip 0).liveMs 0x0C3

/-- What a report does beyond its record: the lane's causes wait for their re-check, the alarm, the grace timer or the
CRITICAL reaction. -/
def Dev.reactTo (d : Dev) (s sev : Nat) : Dev :=
  let c := d.srcCfg s
  let d := if 0x100 ≤ s ∧ s < 0x300 then d.modLane (s - 0x100) (fun x => { x with recheck := x.causes.map Prod.fst }) else d
  let d := if sev = 4 ∨ (2 ≤ sev ∧ !c.irqOff) then d.alarmAll s sev else d
  if sev = 3 then
    let us := if c.graceUs = 0 then 10000 else c.graceUs
    d.modSrc s (fun x => { x with timer := if x.timer.isSome then x.timer else some (d.bal.tick + usTicks us, us) })
  else if sev = 4 then
    if c.graceUs = 0 then d.critical s
    else d.modSrc s (fun x => { x with crit := if x.crit.isSome then x.crit else some (d.bal.tick + usTicks c.graceUs, c.graceUs) })
  else d

/-- The reports of a sampling cycle: sources that are live and were not in the last cycle, by descending severity, then
ascending number (15 R444, R460). -/
def Dev.newReports (d : Dev) : List (Nat × Nat) :=
  let new := d.fcr.srcs.filter (fun x => x.2.live && !x.2.sampled)
  let rs := new.map (fun x => (x.1, d.effSeverity x.1))
  sortBy (fun a b => decide (b.2 < a.2 ∨ (b.2 = a.2 ∧ a.1 ≤ b.1))) rs

/-- FAULT_REPORT: one sampling cycle. -/
def doFaultReport (d : Dev) : Dev :=
  if d.bal.mode = .off then d
  else
    let rs := d.newReports
    let entries := (rs.filter (fun r => decide (2 ≤ r.2))).length
    let d := { d with fcr := { d.fcr with srcs := tmap d.fcr.srcs {} (fun x => { x with sampled := x.live }) } }
    let d := rs.foldl (fun d r => d.latch r.1 r.2) d
    let d := (rs.zipIdx.map (fun (x : (Nat × Nat) × Nat) => (x.2, x.1.1, x.1.2))).foldl (fun d r => d.reportMade entries r) d
    let d := d.capture rs
    (rs.foldl (fun d r => d.reactTo r.1 r.2) d).faultPins

/-- CNT_FAULT_ESCALATED and CNT_CLEAR_REFUSED: of the device (8) and of each polder of a mask (15 R473). -/
def Dev.bumpScope (d : Dev) (c : Ctr) (mask : Nat) : Dev := (setBits mask 8).foldl (fun d p => d.bump c p) (d.bump c 8)

/-- GRACE_TIMER_EXPIRY: a MAJOR report escalates (15 R451). -/
def doGraceTimerExpiry (src : Nat) (d : Dev) : Dev :=
  match (d.src src).timer with
  | none => d
  | some (t, us) =>
    let d := (d.reach t).modSrc src (fun x => { x with timer := none, escalated := true })
    let shared := decide (d.attribution src = .shared)
    let crit := shared || !(d.srcCfg src).escalate
    let mask := d.srcMask src
    let d := d.bumpScope .faultEscalated mask
    let data := dat [(0, 2, src), (2, 1, if shared then 0 else 1), (3, 1, mask), (4, 4, us)]
    if crit then
      let d := d.modSrc src (fun x => { x with latchedSev := 4 })
      let h := d.fcr.historyTotal
      let d := d.histAdd src 4 (d.src src).lasting false
      let d := d.recordSev Ev.faultEscalated 4 (d.attribution src) (some src) data (some h)
      let d := (d.capture [(src, 4)]).alarmAll src 4
      (d.critical src).faultPins
    else
      let d := d.recordSev Ev.faultEscalated 3 (d.attribution src) (some src) data
      (d.holdPolders mask src).faultPins

/-- CRITICAL_GRACE_EXPIRY: the reaction is taken only if the source is still live or its report is lasting (15 R452). -/
def doCriticalGraceExpiry (src : Nat) (d : Dev) : Dev :=
  match (d.src src).crit with
  | none => d
  | some (t, us) =>
    let d := (d.reach t).modSrc src (fun x => { x with crit := none })
    if (d.src src).live ∨ (d.src src).lasting then (d.critical src).faultPins
    else d.record Ev.faultAvoided (d.attribution src) (some src) (dat [(0, 2, src), (2, 4, us)])

/-- A source whose check cannot be repeated: a doorbell out of range, a pause storm, a double or foreign free (15 R454). -/
def onceOnly (s : Nat) : Bool :=
  decide ((0x40 ≤ s ∧ s < 0x80 ∧ (s % 16 = 3 ∨ s % 16 = 4)) ∨ (0x300 ≤ s ∧ s < 0x500) ∨ s = 0xB00 ∨ s = 0xB01)

/-- FAULT_RETRY_RESULT: the retry of a repeatable check passes, or fails and changes nothing (15 R454). -/
def doFaultRetryResult (src : Nat) (passed : Bool) (d : Dev) : Dev :=
  if passed && !onceOnly src && decide ((d.src src).reports ≠ 0) then d.reclass src else d

/-- LANE_RECHECK: 100 µs after the report, `gone` are the causes that no longer hold (04 R125). The record puts the cause at data
byte 4, as 16 Table 16-7 lays it out, not at byte 0 as the caption of 04 Table 4-3 says (DEDUCED, assumption 148). -/
def doLaneRecheck (l : Nat) (gone : List Nat) (d : Dev) : Dev :=
  let cs := (d.lane l).recheck
  if cs.isEmpty then d
  else
    let d := d.reach ((d.bal.tick - (d.aon - (d.src (0x100 + l)).lastTick)) + usTicks 100)
    let d := (d.modLane l (fun x =>
      { causes := x.causes.filter (fun c => !(gone.contains c.1)), recheck := [] })).laneRefresh l
    let holds (c : Nat) : Bool := (d.lane l).causes.any (fun x => decide (x.1 = c))
    let p := (d.portOfLane l).getD l
    let d := cs.foldl (fun d c => d.portEvent Ev.laneFault p [(2, 2, l), (4, 1, c), (5, 1, b2n (holds c))]) d
    if cs.any holds then d else d.reclass (0x100 + l)

/-- LIVE_WINDOW_EXPIRY: a source's time window runs out; FS_TMU_PPS_IN_LOST goes live 2 s after the last edge (15 R444,
13 Table 13-12). -/
def doLiveWindowExpiry (src : Nat) (d : Dev) : Dev :=
  if src = 0xE01 then
    match d.tmu.capIn with
    | some c => if (d.src src).live then d else (d.reach (c.tick + msTicks 2000)).setLive src
    | none => d
  else match (d.src src).windowEnd with
  | some t => (d.reach t).clearLive src
  | none => d

/-! ### Commands (15 R466-R469) -/

/-- The sources of a range operand. -/
def Cmd.sources (x : Cmd) : List Nat := (List.range (max 1 (x.fld 20 0 13))).map (x.fld 16 0 12 + ·)

/-- OP_FAULT_CONFIG SET: applied to every source of the range. -/
def doOpFaultConfigSet (c : CmdRef) (_io : Io) (d : Dev) : Dev :=
  d.step1 c (isOpAct 0x70 (18, 0, 2) 0) fun d x =>
    let sev := x.fld 24 0 3
    let us := x.fld 28 0 24
    let cfg : SrcCfg :=
      { severity := sev, escalate := decide (x.fld 24 3 1 = 1), irqOff := decide (x.fld 24 4 1 = 1)
        graceUs := if sev = 3 ∧ us = 0 then 10000 else us }
    let d := x.sources.foldl (fun d s => d.modSrc s (fun y =>
      { y with cfg := some cfg, timer := if sev = 0 then none else y.timer })) d
    let s := x.fld 16 0 12
    (d.record Ev.faultConfig (d.attribution s) (some s)
      (dat [(0, 2, s), (2, 2, max 1 (x.fld 20 0 13)), (4, 1, sev), (5, 1, c.ep)])).ok c

/-- OP_FAULT_CONFIG READ. -/
def doOpFaultConfigRead (c : CmdRef) (_io : Io) (d : Dev) : Dev :=
  d.step1 c (isOpAct 0x70 (18, 0, 2) 1) fun d x =>
    let s := x.fld 16 0 12
    let y := d.src s
    let f := d.srcCfg s
    let timer := y.timer.orElse (fun _ => y.crit)
    d.ok c (pack [(0, 24, f.graceUs), (24, 3, d.effSeverity s), (27, 1, b2n f.escalate), (28, 1, b2n f.irqOff), (29, 1, b2n y.live),
        (30, 1, b2n y.latched), (31, 1, b2n y.lasting), (32, 1, b2n timer.isSome), (33, 1, b2n y.escalated)])
      (y.lastTick + y.reports * 2 ^ 40) ((timer.map (fun t => (t.1 - d.bal.tick) / 25)).getD 0)

/-- A history entry of Table 15-3. -/
def HistEntry.image (h : HistEntry) : Nat :=
  pack [(0, 12, h.source), (12, 3, h.severity), (15, 1, b2n h.lasting), (16, 1, b2n h.sameCycle), (17, 1, 1), (32, 32, h.recSeq), (64, 40, h.tick)]

/-- OP_FAULT_CONFIG HISTORY. -/
def doOpFaultConfigHistory (c : CmdRef) (io : Io) (d : Dev) : Dev :=
  d.step1 c (isOpAct 0x70 (18, 0, 2) 2) fun d x =>
    let es := (d.fcr.history.filter (fun h => d.srcVisible c.ep h.source)).take (x.fld 40 0 32 / 16)
    let d := d.hostOut c.ep (x.fld 32 0 64) (es.flatMap (fun h => leBytes 16 h.image)) io.wrErr
    d.okBuf c io.wrErr 32 es.length (d.fcr.historyTotal % 2 ^ 32)

/-- OP_FAULT_CONFIG LATCHED. -/
def doOpFaultConfigLatched (c : CmdRef) (io : Io) (d : Dev) : Dev :=
  d.step1 c (isOpAct 0x70 (18, 0, 2) 3) fun d x =>
    let ss := (d.fcr.srcs.filter (fun y => y.2.latched && d.srcVisible c.ep y.1)).map Prod.fst
    let d := d.hostOut c.ep (x.fld 32 0 64) (leBytes 512 (ss.foldl (fun n s => n + 2 ^ s) 0)) io.wrErr
    d.okBuf c io.wrErr 32 ss.length

/-- OP_FAULT_ACK: stops a running MAJOR timer (15 R450, R468). -/
def doOpFaultAck (c : CmdRef) (_io : Io) (d : Dev) : Dev :=
  d.step1 c (isOp 0x71) fun d x =>
    let s := x.fld 16 0 12
    match (d.src s).timer with
    | none => d.fail c stNotFound (if (d.src s).escalated then 0x0100 else 0x0200)
    | some _ =>
      let d := d.modSrc s (fun y => { y with timer := none })
      (d.record Ev.faultAck (d.attribution s) (some s) (dat [(0, 2, s), (2, 1, c.ep)])).ok c 1

/-- A clear is refused (15 R456). -/
def Dev.clearRefused (d : Dev) (s ep : Nat) : Dev :=
  let d := (d.bumpScope .clearRefused (d.owned ep)).liveMs 0x0C2
  d.record Ev.faultClearRefused (d.attribution s) (some s) (dat [(0, 2, s), (2, 1, ep)])

/-- A source is cleared (15 R455, R456). -/
def Dev.clearSrc (d : Dev) (s ep : Nat) : Dev :=
  let d := d.record Ev.faultCleared (d.attribution s) (some s) (dat [(0, 2, s), (2, 1, ep)])
  d.modSrc s (fun y =>
    { y with latched := false, latchedSev := 0, timer := none, critTaken := false, attr := if y.live then y.attr else 0 })

/-- The first-fault registers of the caller's scope, the device's as 8 (15 R469). -/
def Dev.firstScope (d : Dev) (ep : Nat) : List Nat := (if d.isWarden ep then [8] else []) ++ setBits (d.owned ep) 8

/-- A first-fault register. -/
def Dev.firstReg (d : Dev) (i : Nat) : Option FirstFault := if i = 8 then d.fcr.firstDev else tget d.fcr.first none i

/-- A first-fault register is emptied. -/
def Dev.firstEmpty (d : Dev) (i : Nat) : Dev :=
  { d with fcr := if i = 8 then { d.fcr with firstDev := none } else { d.fcr with first := tset d.fcr.first none i none } }

/-- OP_FAULT_CLEAR. -/
def doOpFaultClear (c : CmdRef) (_io : Io) (d : Dev) : Dev :=
  d.step1 c (isOp 0x72) fun d x =>
    let ss := x.sources.filter (fun s => (d.src s).latched || (d.src s).live)
    let bad := ss.filter (fun s => (d.src s).live)
    let good := ss.filter (fun s => !(d.src s).live)
    let d := ss.foldl (fun (d : Dev) s => if (d.src s).live then d.clearRefused s c.ep else d.clearSrc s c.ep) d
    let regs := if x.fld 18 0 1 = 1 then (d.firstScope c.ep).filter (fun i => (d.firstReg i).isSome) else []
    let held (i : Nat) : Bool := match d.firstReg i with
      | some f => (d.src f.source).latched
      | none => false
    let kept := regs.filter held
    let gone := regs.filter (fun i => !held i)
    let src (i : Nat) : Nat := ((d.firstReg i).map FirstFault.source).getD 0
    let d := (kept.map src).foldl (fun d s => d.clearRefused s c.ep) d
    let d := (gone.foldl Dev.firstEmpty d).faultPins
    let r1 := bad.length + (if gone.contains 8 then 2 ^ 32 else 0) + 2 ^ 40 * ((gone.filter (fun i => decide (i < 8))).foldl (fun n i => n + 2 ^ i) 0)
    if bad.isEmpty && kept.isEmpty then d.ok c good.length r1
    else d.fail c stClearRefused ((bad.head?).getD ((kept.head?.map src).getD 0)) good.length r1

/-! ### The Tourbillon (15 R464, R465) -/

/-- A memory and instance that a sweeper walks (15 Table 15-6), memories in the coding of EV_TBN_FINDING. -/
def sweeps (sweeper mem inst : Nat) : Bool :=
  match mem with
  | 0 | 16 | 17 | 18 => decide (inst = sweeper)
  | 1 | 2 => decide (inst < 16 ∧ inst / 4 = sweeper)
  | 3 => decide (sweeper = 0 ∧ inst < 4)
  | 4 | 5 => decide (sweeper = 0)
  | 6 | 7 | 8 | 9 => decide (sweeper = 1)
  | 10 => decide (sweeper = 2 ∧ inst < 16)
  | 11 | 12 => decide (sweeper = 2)
  | 13 | 14 => decide (sweeper = 3)
  | 15 => decide (sweeper = 3 ∧ inst < 8)
  | _ => false

/-- A memory protected by parity, in which no error is correctable. -/
def parityOnly (mem : Nat) : Bool := decide (mem = 0 ∨ mem = 9 ∨ mem = 10 ∨ mem = 14 ∨ 16 ≤ mem)

/-- The correctable source of a memory's block, where it has one. -/
def ceSource (mem inst : Nat) : Option Nat :=
  match mem with
  | 1 => some (0x501 + 64 * inst)
  | 2 => some (0x511 + 64 * inst)
  | 3 => some (0xF14 + inst)
  | 15 => some (0xF20 + inst)
  | _ => none

/-- A source is reported that something else may keep live. -/
def Dev.pulse (d : Dev) (s : Nat) : Dev := if (d.src s).live && (d.src s).windowEnd.isNone then d else d.liveMs s

/-- A scheduler state word fails parity: the node's deficit and buckets become 0 and its wheel entries go (12 Table 12-10). -/
def Dev.escParity (d : Dev) (port node : Nat) : Dev :=
  let member (n : Nat) : Option Nat :=
    if 1 ≤ n ∧ n ≤ 4 then some (19 + n) else if 5 ≤ n ∧ n ≤ 20 then some (n - 5) else if 21 ≤ n ∧ n ≤ 24 then some (n - 5) else none
  let zero (d : Dev) (k : Nat) : Dev := d.setBucket k { (d.bucket k) with credit := 0, last := d.bal.tick, te := none, coarse := false }
  let d := match member node with
    | some m => d.modSched port (fun x => { x with members := tmod x.members {} m (fun y => { y with def_ := 0 }) })
    | none => d
  let d := zero (zero d (bucketKey port node false)) (bucketKey port node true)
  (d.liveMs (0xD00 + pipeOf port)).record Ev.escStateParity (d.attribution (0x300 + port)) (some (0xD00 + pipeOf port))
    (dat [(0, 1, pipeOf port), (1, 2, port), (3, 1, node)])

/-- What an uncorrectable word does, by memory; `args` are what its place says beyond the address: the table (0), the
sources of a word of live and latched state (4), polder, bank and counter (6), quadrant (9), node (10), list entry (11),
register (14), word of 64 ports (18). -/
def Dev.tbnBad (d : Dev) (mem inst addr : Nat) (lasting : Bool) (args : List Nat) : Dev :=
  let a (k : Nat) : Nat := args.getD k 0
  match mem with
  | 0 => d.parityRead inst (a 0) addr lasting
  | 1 => d.pulse (0x500 + 64 * inst)
  | 2 => d.pulse (0x510 + 64 * inst)
  | 3 => d.pulse (0xF10 + inst)
  | 4 =>
    if addr < 4096 then (d.modSrc addr (fun x => { x with cfg := none })).liveMs 0x0C0
    else (args.foldl (fun (d : Dev) s => d.modSrc s (fun x =>
      if x.latched ∨ (defaultSeverity s).isNone then x else { x with latched := true, latchedSev := d.effSeverity s })) d).liveMs 0x0C1
  | 6 => if lasting then (d.modBank (a 0) (a 1) (fun x =>
      { x with
        counts := tmod x.counts [] addr (fun l => l.set (a 2) 0)
        invalid := if x.invalid.contains addr then x.invalid else x.invalid ++ [addr] })).liveMs 0xE19
    else d.liveMs 0xE19
  | 8 => match tget d.mrp.flows none addr with
    | some f => if lasting then d.ledgerBad addr f else d.liveMs 0xE1A
    | none => d
  | 9 => d.weirParity addr (a 0)
  | 10 => d.escParity addr (a 0)
  | 11 => if lasting then doTideListEcc addr (a 0) d else d
  | 12 => if lasting then d.replError addr else d
  | 13 => d.logMemoryError addr lasting
  | 14 => d.cvuStateBad addr (a 0)
  | 15 => d.pulse (0xF18 + inst)
  | 16 => d.parityRead inst tMac addr lasting
  | 17 => d.parityRead inst tPortVlan addr lasting
  | 18 =>
    let k := (inst, addr, a 0)
    let bad := if d.rle.floodBad.contains k then d.rle.floodBad.filter (fun x => decide (x ≠ k)) else k :: d.rle.floodBad
    ({ d with rle := { d.rle with floodBad := bad } }).live 0xA0A (!bad.isEmpty)
  | _ => d

/-- TOURBILLON_VISIT: a sweeper reads a protected word; a correctable error is written back and re-read, and is `weak` when
the re-read is bad; an uncorrectable one is re-read once. -/
def doTourbillonVisit (sweeper mem inst addr : Nat) (check : Ecc) (weak : Bool) (args : List Nat) (d : Dev) : Dev :=
  if !d.corePowered ∨ 4 ≤ sweeper ∨ !sweeps sweeper mem inst then d
  else
    let found (d : Dev) (ue lasting : Bool) : Dev := d.record Ev.tbnFinding .shared none
      (dat [(0, 1, sweeper), (1, 1, mem), (2, 1, inst), (3, 4, addr), (7, 1, b2n ue), (8, 1, b2n lasting)])
    match check with
    | .clean => d
    | .corrected =>
      if parityOnly mem then d
      else
        let d := d.bump .tbnCe 0
        let d := match ceSource mem inst with
          | some s => d.liveMs s
          | none => d
        let d := if weak then (d.bump .tbnLastingCe 0).liveMs 0xF34 else d
        found d false weak
    | .once => (found ((d.bump .tbnUe 0).tbnBad mem inst addr false args) true false).faultPins
    | .lasting => (found ((d.bump .tbnUe 0).tbnBad mem inst addr true args) true true).faultPins

/-! ### Meanings -/

/-- OP_FAULT_CONFIG_SET (R467). -/
def execOpFaultConfigSet (c : CmdRef) (io : Io) (s : State) : Host.Outcome State Fault Refusal :=
  .next { s with dev := doOpFaultConfigSet c io s.dev }

/-- OP_FAULT_CONFIG_READ (R467). -/
def execOpFaultConfigRead (c : CmdRef) (io : Io) (s : State) : Host.Outcome State Fault Refusal :=
  .next { s with dev := doOpFaultConfigRead c io s.dev }

/-- OP_FAULT_CONFIG_HISTORY (R467). -/
def execOpFaultConfigHistory (c : CmdRef) (io : Io) (s : State) : Host.Outcome State Fault Refusal :=
  .next { s with dev := doOpFaultConfigHistory c io s.dev }

/-- OP_FAULT_CONFIG_LATCHED (R467). -/
def execOpFaultConfigLatched (c : CmdRef) (io : Io) (s : State) : Host.Outcome State Fault Refusal :=
  .next { s with dev := doOpFaultConfigLatched c io s.dev }

/-- OP_FAULT_ACK (R468). -/
def execOpFaultAck (c : CmdRef) (io : Io) (s : State) : Host.Outcome State Fault Refusal :=
  .next { s with dev := doOpFaultAck c io s.dev }

/-- OP_FAULT_CLEAR (R469). -/
def execOpFaultClear (c : CmdRef) (io : Io) (s : State) : Host.Outcome State Fault Refusal :=
  .next { s with dev := doOpFaultClear c io s.dev }

/-- LANE_RECHECK (R125). -/
def execLaneRecheck (l : Nat) (gone : List Nat) (s : State) : Host.Outcome State Fault Refusal :=
  .next { s with dev := doLaneRecheck l gone s.dev }

/-- FAULT_REPORT (R444). -/
def execFaultReport (s : State) : Host.Outcome State Fault Refusal :=
  .next { s with dev := doFaultReport s.dev }

/-- GRACE_TIMER_EXPIRY (R451). -/
def execGraceTimerExpiry (src : Nat) (s : State) : Host.Outcome State Fault Refusal :=
  .next { s with dev := doGraceTimerExpiry src s.dev }

/-- CRITICAL_GRACE_EXPIRY (R452). -/
def execCriticalGraceExpiry (src : Nat) (s : State) : Host.Outcome State Fault Refusal :=
  .next { s with dev := doCriticalGraceExpiry src s.dev }

/-- FAULT_RETRY_RESULT (R454). -/
def execFaultRetryResult (src : Nat) (passed : Bool) (s : State) : Host.Outcome State Fault Refusal :=
  .next { s with dev := doFaultRetryResult src passed s.dev }

/-- TOURBILLON_VISIT (R465). -/
def execTourbillonVisit (sweeper : Nat) (mem : Nat) (inst : Nat) (addr : Nat) (check : Ecc) (weak : Bool) (args : List Nat) (s : State) : Host.Outcome State Fault Refusal :=
  .next { s with dev := doTourbillonVisit sweeper mem inst addr check weak args s.dev }

/-- LIVE_WINDOW_EXPIRY (R444). -/
def execLiveWindowExpiry (src : Nat) (s : State) : Host.Outcome State Fault Refusal :=
  .next { s with dev := doLiveWindowExpiry src s.dev }

end Sys2Proof.Machine
end

