-- ==== Sys2Proof/Machine/Endpoints.lean ====
section
/-! DEFINITION. Endpoints as a whole (chapter 2): going down and coming up, packet queue configuration, stray doorbells,
OP_NOP, OP_FENCE, OP_ABORT, the survey and its form without rings. -/
namespace Sys2Proof.Machine

/-! ### Receive and transmit queues (02 R41, R59-R63) -/

/-- EP_RXQ_CFG_WRITE: one dword of a receive queue's block. -/
def doEpRxqCfgWrite (ep q dword : Nat) (v : Word) (d : Dev) : Dev :=
  let x := d.ep ep
  if !x.answers || decide (256 ≤ q) then d
  else
    let r := d.rxq ep q
    let w := if decide (r.st = .disabled) then x.enableWord dword v else v
    let d := d.modRxq ep q (fun r => pktCfg r (d.rxqPolder ep q).isSome true dword w)
    let d := match decide (r.st = .disabled), decide ((d.rxq ep q).st = .disabled) with
      | false, true => d.freeRx ep q .drHostQueueDown
      | true, false => (d.modRxq ep q (fun z => { z with emptySince := some d.bal.tick })).wordFresh ep (128 + q)
      | _, _ => d
    d.epRefresh ep

/-- The posted and unfetched frames of a transmit queue get FLUSHED; `eops` are the EOP bits of their descriptors, as the
device reads them from the queue's position on (02 R62, R63). -/
def Dev.txFlush (d : Dev) (e q : Nat) (eops : List Bool) : Dev :=
  let r := d.txq e q
  (List.range (r.posted - r.used).toNat).foldl (fun (d : Dev) i =>
    let at_ := r.base.toNat + 32 * ((r.used.toNat + i) % 2 ^ r.sizeLog2)
    let d := if eops.getD i true then d.txWriteBack e q at_ 0 0 4
      else d.emit (.hostWrite e (at_ + 31) [0x80])
    d.modTxq e q (fun z => { z with used := z.used + 1 })) d

/-- EP_TXQ_CFG_WRITE: one dword of a transmit queue's block. -/
def doEpTxqCfgWrite (ep q dword : Nat) (v : Word) (eops : List Bool) (d : Dev) : Dev :=
  let x := d.ep ep
  if !x.answers || decide (256 ≤ q) then d
  else
    let r := d.txq ep q
    let w := if decide (r.st = .disabled) then x.enableWord dword v else v
    let d := d.modTxq ep q (fun r => pktCfg r (d.txqPolder ep q).isSome false dword w)
    let d := match decide (r.st = .disabled), decide ((d.txq ep q).st = .disabled) with
      | false, true => d.txFlush ep q eops
      | true, false => d.wordFresh ep (384 + q)
      | _, _ => d
    d.epRefresh ep

/-- STRAY_DOORBELL: a write to BAR2 at an offset or with a width that names no doorbell, or at a ring that takes none, is
ignored and counted (02 R42-R44, 20 R580). -/
def doStrayDoorbell (ep off width : Nat) (v : BitVec 64) (d : Dev) : Dev := doBar2Write ep off width v d

/-! ### Going down and coming up (02 R40, 20 R574) -/

/-- The code of a cause in EV_EP_DOWN. -/
def epCauseCode : EpCause → Nat
  | .perst => 0 | .flr => 1 | .link => 2 | .busMaster => 3

/-- The endpoint after a cause: PCIe resets the function, with its MSI-X table and pending bits, by every cause but a clear
Bus Master Enable. -/
def Endpoint.struck (x : Endpoint) (cause : EpCause) : Endpoint :=
  let y : Endpoint := { x with bmeClear := true, msix := [], gather := [], msixEnable := false, funcMask := false }
  match cause with
  | .perst => { y with perst := true, linkDown := true }
  | .flr => { y with flr := true }
  | .link => { y with linkDown := true }
  | .busMaster => { x with bmeClear := true }

/-- Every ring, queue and export ring of an endpoint is disabled; positions not fetched are never executed. -/
def Endpoint.disabled (x : Endpoint) : Endpoint :=
  { x with
    up := false
    badWords := []
    crs := tmap x.crs {} (fun (r : CmdRing) => { r with enable := false, st := .disabled, issued := r.f, stop := none })
    cqs := tmap x.cqs {} (fun (r : CplRing) => { r with enable := false, st := .disabled })
    rxqs := tmap x.rxqs {} (fun (r : PktQueue) => { r with enable := false, st := .disabled, emptySince := none })
    txqs := tmap x.txqs {} (fun (r : PktQueue) => { r with enable := false, st := .disabled, emptySince := none })
    resyncIrqEn := false, resyncBusy := false
    gauge := { x.gauge with enable := false }, trace := { x.trace with enable := false } }

/-- A command is on an engine, and has a step boundary to reach. -/
def Cmd.onEngine (x : Cmd) : Bool := x.executing && x.outcome.isNone

/-- A frame stands in, or is on its way to, a receive queue. -/
def Dev.rxHolds (d : Dev) (e q : Nat) : Bool :=
  !(d.queue (Dest.host e q).key).ents.isEmpty || decide (0 < d.rxUnder e q) || d.dp.pkts.any (fun x => match x.2 with
    | some y => y.waiting.contains (Dest.host e q)
    | none => false)

/-- ENDPOINT_DOWN: commands on engines stop at their next step boundary; everything else of the endpoint that waits for a
completion is discarded. -/
def doEndpointDown (ep : Nat) (cause : EpCause) (d : Dev) : Dev :=
  if !d.present ep || decide (d.bal.mode = .off) then d
  else if !(d.ep ep).up then (d.modEp ep (fun x => x.struck cause)).epSources ep
  else
    let keep := (d.ep ep).cmds.filter Cmd.onEngine
    let n := (d.ep ep).cmds.length - keep.length + (d.ep ep).icq.length
    let d := d.modEp ep (fun x => { (x.struck cause).disabled with
      cmds := keep.map (fun y => { y with marked := true }), icq := [], downEv := some (epCauseCode cause, n) })
    let d : Dev := { d with
      tmu := { d.tmu with atPps := d.tmu.atPps.filter (fun a => decide (a.ep ≠ ep)) }
      boot := { d.boot with waiter := if (d.boot.waiter.map (fun w => w.1)) = some ep then none else d.boot.waiter } }
    let d := if n = 0 then d else d.bump .cplDiscard ep n
    let d := (setBits (d.owned ep) 8).foldl (fun d p => if (d.mrpRing p).enable then d.disableRing p else d) d
    let d := ((List.range 256).filter (d.rxHolds ep)).foldl (fun d q => d.freeRx ep q .drHostQueueDown) d
    (((((d.endedSweep).epRefresh ep).wordSource ep).epSources ep).downDone ep)

/-- ENDPOINT_UP: no cause keeps the endpoint down any longer; its rings stay disabled. A command that has not reached its
step boundary by then counts as stopped. -/
def doEndpointUp (ep : Nat) (d : Dev) : Dev :=
  if !d.present ep || (d.ep ep).up || decide (d.bal.mode = .off) then d
  else
    let d := (d.ep ep).cmds.foldl (fun (d : Dev) x => d.discardStopped { ep := ep, ring := x.ring, pos := x.pos }) d
    ((d.modEp ep (fun x => { x with up := true, perst := false, flr := false, linkDown := false, bmeClear := false })).epSources ep).msixFlush ep

/-! ### OP_NOP, OP_FENCE (02 R56, R69) -/

/-- OP_NOP: the AON tick is taken at its commit. -/
def doOpNop (c : CmdRef) (_io : Io) (d : Dev) : Dev :=
  d.step1 c (isOp 0x00) fun d _ => d.finish c { status := stOk, fill := .aonTick }

/-- `a` lies before `b` in the circle of 32-bit positions. -/
def posBefore (a b : Word) : Bool := decide (0 < (b - a).toNat ∧ (b - a).toNat < 2 ^ 31)

/-- A position of ring `n` below `p`, other than the fence's own, has not committed. -/
def Dev.fenceWaits (d : Dev) (c : CmdRef) (n : Nat) (p : Word) : Bool :=
  posBefore (d.cr c.ep n).f p || (d.ep c.ep).cmds.any (fun y => decide (y.ring = n) && posBefore y.pos p && !names c y)

/-- The rings that a fence named, with the P recorded of each, as its scratch keeps them after a marker. -/
def fencePairs : List Nat → List (Nat × Word)
  | n :: p :: t => (n, BitVec.ofNat 32 p) :: fencePairs t
  | _ => []

/-- OP_FENCE: its first step records P of each named ring; it ends in the first step that finds every position below them
committed. -/
def doOpFence (c : CmdRef) (_io : Io) (d : Dev) : Dev :=
  d.step1 c (isOp 0x01) fun d x =>
    let rec_ := match x.scratch with
      | [] => 1 :: (setBits (x.fld 16 0 64) 64).flatMap (fun n => [n, (d.cr c.ep n).p.toNat])
      | s => s
    if (fencePairs rec_.tail).any (fun y => d.fenceWaits c y.1 y.2) then d.again c rec_ else d.ok c

/-! ### OP_ABORT (02 R70-R72) -/

/-- Commands of several steps (02 R57 and the commands' chapters). -/
def multiStep (x : Cmd) : Bool :=
  match x.opcode with
  | 0x01 | 0x03 | 0x14 | 0x15 | 0x16 | 0x73 | 0x82 | 0xB0 | 0xF1 => true
  | 0x43 => decide (x.fld 17 0 2 = 2)
  | 0x53 => decide (x.fld 18 0 2 = 2)
  | 0x80 => decide (x.fld 24 0 2 = 2)
  | _ => false

/-- The abort's status when its target is not in the window. -/
def abortMiss (r : CmdRing) (s : Nat) : Nat × Nat :=
  let f := r.f.toNat % 2 ^ 20
  let p := r.p.toNat % 2 ^ 20
  let sub (a b : Nat) : Nat := (a + 2 ^ 20 - b) % 2 ^ 20
  if 1 ≤ sub f s ∧ sub f s - 1 < 0x80000 then (stAbortTooLate, 0)
  else if sub s f < sub p f then (stNotFound, 1)
  else (stNotFound, 2)

/-- OP_ABORT. While its target executes its only step, or waits to commit, the abort waits at the commit port: the target's
completion wins. -/
def doOpAbort (c : CmdRef) (_io : Io) (d : Dev) : Dev :=
  d.step1 c (isOp 0x02) fun d x =>
    let n := x.fld 16 0 6
    let s := x.fld 20 0 20
    match (d.ep c.ep).cmds.find? (fun y => decide (y.ring = n ∧ y.pos.toNat % 2 ^ 20 = s)) with
    | none =>
      let m := abortMiss (d.cr c.ep n) s
      if m.1 = stNotFound then d.fail c stNotFound m.2 else d.fail c m.1
    | some y =>
      let t : CmdRef := { ep := c.ep, ring := y.ring, pos := y.pos }
      if !y.executing && (y.outcome.isNone || decide (y.steps = 0)) then
        (((d.modCmd t (fun z => { z with marked := true, outcome := some (abortedDone z.steps) })).endedSweep).ok c)
      else if y.executing && y.outcome.isNone && multiStep y then (d.modCmd t (fun z => { z with marked := true })).ok c
      else d

/-! ### The survey (02 R73-R77) -/

/-- What a caller's survey covers: the polders, and whether objects of no polder are in scope (02 R74). -/
structure Scope where
  ep : Nat
  polders : Nat
  warden : Bool
  deriving DecidableEq, Repr

/-- The scope of endpoint `e` narrowed by POLDER_MASK; 0 narrows nothing. -/
def Dev.scope (d : Dev) (e mask : Nat) : Scope :=
  let all := if d.isWarden e then 255 else d.owned e
  { ep := e, polders := if mask = 0 then all else all &&& mask, warden := d.isWarden e }

/-- An object of a polder is in scope; one of no polder is the warden's, and a ring also its own endpoint's (02 R584). -/
def Scope.sees (s : Scope) (own : Bool) : Option Nat → Bool
  | some p => s.polders.testBit p
  | none => s.warden || own

/-- An ownership nibble (02 R76). -/
def Scope.nibble (s : Scope) (own : Bool) (p : Option Nat) : Nat :=
  if s.sees own p then p.getD 8 else 15

/-- A section's fields from a byte offset on: (byte offset, lowest bit, width, value). -/
abbrev SurveyField := Nat × Nat × Nat × Nat

/-- The number that a list of fields spells. -/
def surveyPack (fs : List SurveyField) : Nat := pack (fs.map (fun f => (8 * f.1 + f.2.1, f.2.2.1, f.2.2.2)))

/-- A command has been dispatched. -/
def Cmd.begun (x : Cmd) : Bool := x.executing || decide (0 < x.steps)

/-- Table 2-20: ring states of one endpoint; those of an endpoint that bifurcation does not provide are written as out of scope
(DESIGN CHOICE, assumption 139). -/
def Dev.ringSection (d : Dev) (s : Scope) (e : Nat) : List SurveyField :=
  let b := 0x0E00 + 0x600 * e
  let st (r : RingSt) : Nat := match r with
    | .disabled => 0 | .active => 1 | .stopped => 2 | .starved => 0
  (List.range 64).flatMap (fun n =>
    let r := d.cr e n
    let q := d.cq e n
    let own := decide (e = s.ep)
    let here := d.present e
    let cs := (d.ep e).cmds.filter (fun x => decide (x.ring = n))
    let run := (cs.filter Cmd.begun).length
    let cr : List SurveyField := if here && s.sees own (d.crPolder e n) then
        [(b + 16 * n, 0, 32, r.p.toNat), (b + 16 * n + 4, 0, 32, r.f.toNat), (b + 16 * n + 8, 0, 32, r.c.toNat),
          (b + 16 * n + 12, 0, 2, st r.st), (b + 16 * n + 12, 2, 6, r.boundCq), (b + 16 * n + 12, 8, 8, run),
          (b + 16 * n + 12, 16, 8, cs.length - run)]
      else [(b + 16 * n + 12, 0, 2, 3)]
    let cq : List SurveyField := if here && s.sees own (d.cqPolder e n) then
        [(b + 16 * n + 12, 24, 2, st q.st), (b + 0x400 + 8 * n, 0, 32, q.w.toNat), (b + 0x404 + 8 * n, 0, 32, q.consumed.toNat)]
      else [(b + 16 * n + 12, 24, 2, 3)]
    cr ++ cq)

/-- Table 2-20: the outstanding commands in scope, endpoint by endpoint, oldest fetch first. -/
def Dev.cmdSection (d : Dev) (s : Scope) : List SurveyField :=
  let all := (List.range 4).flatMap (fun e =>
    ((d.ep e).cmds.filter (fun x => s.sees (decide (e = s.ep)) (d.crPolder e x.ring))).map (fun x => (e, x)))
  ((all.take 64).zipIdx).flatMap (fun (y : (Nat × Cmd) × Nat) =>
    let x := y.1.2
    let at_ := 0x2600 + 16 * y.2
    [(at_, 0, 20, x.pos.toNat), (at_, 20, 6, x.ring), (at_, 26, 2, y.1.1), (at_ + 4, 0, 8, x.opcode),
      (at_ + 4, 8, 8, if x.marked then 3 else if x.begun then 2 else 1), (at_ + 4, 16, 16, if x.tagValid then x.fld 2 0 16 else 0),
      (at_ + 8, 0, 32, x.steps), (at_ + 12, 0, 32, (d.bal.tick - x.fetchTick) / 25)])

/-- What a survey captures in one management cycle (02 R75): the AON tick, device time, the ring states and the outstanding
commands. -/
def Dev.surveyCapture (d : Dev) (s : Scope) : Nat × Nat × Nat :=
  (d.aon, d.tmu.time, surveyPack ((List.range 4).flatMap (d.ringSection s) ++ d.cmdSection s))

/-- Tables 2-15 and 2-16: modes, polders, image and generation. -/
def Dev.modeSection (d : Dev) (s : Scope) (core : Bool) : List SurveyField :=
  let drains := decide (d.rle.slotSt = .draining ∨ d.rle.slotSt = .sweeping)
  [(0x40, 0, 4, d.bal.mode.code), (0x41, 0, 4, d.bal.prevMode.code), (0x42, 0, 16, d.bal.reason), (0x48, 0, 40, d.bal.since)] ++
  (List.range 8).flatMap (fun p => if s.polders.testBit p then
    [(0x50 + p, 0, 3, (d.polder p).st.code), (0x50 + p, 3, 2, (d.polder p).owner), (0x50 + p, 5, 1, 1)] else []) ++
  [(0x58, 0, 2, d.plc.warden), (0x80, 0, 32, d.boot.imageVersion), (0x84, 0, 2, d.boot.keySlot), (0x85, 0, 7, d.otp.rollback),
    (0x86, 0, 2, d.boot.path), (0x88, 0, 512, d.boot.manifestHash.toNat)] ++
  (if core then
    [(0x100, 0, 32, d.rle.gen.toNat), (0x104, 0, 1, d.curSlot), (0x104, 1, 2, d.rle.slotSt.code),
      (0x108, 0, 32, if drains then d.liveTag d.oldTag else 0), (0x10C, 0, 32, d.retireLeft), (0x110, 0, 32, d.rle.forced)]
   else [])

/-- Latched sources that an endpoint sees, at a severity. -/
def Dev.latchedAt (d : Dev) (e sev : Nat) : Nat :=
  (d.fcr.srcs.filter (fun x => x.2.latched && decide (x.2.latchedSev = sev) && d.srcVisible e x.1)).length

/-- One first fault comes before another: earlier, or of higher severity, or of a lower source number (15 R458). -/
def FirstFault.before (f g : FirstFault) : Bool :=
  decide (f.tick < g.tick) || (decide (f.tick = g.tick) &&
    (decide (g.severity < f.severity) || (decide (f.severity = g.severity) && decide (f.source < g.source))))

/-- The first fault of a scope: the device's for the warden, the earliest of its polders' for an owner (15 R458). -/
def Dev.firstOf (d : Dev) (s : Scope) : Option FirstFault :=
  if s.warden then d.fcr.firstDev
  else ((setBits s.polders 8).filterMap (fun p => tget d.fcr.first none p)).foldl (fun (b : Option FirstFault) f =>
    match b with
    | some g => if f.before g then some f else some g
    | none => some f) none

/-- Table 2-17: faults and recorder. -/
def Dev.faultSection (d : Dev) (s : Scope) : List SurveyField :=
  let first : List SurveyField := match d.firstOf s with
    | some f => [(0x140, 0, 12, f.source), (0x140, 12, 3, f.severity), (0x140, 15, 1, b2n f.lasting), (0x142, 0, 1, 1), (0x148, 0, 40, f.tick)]
    | none => []
  first ++ ([1, 2, 3, 4].map (fun v => (0x150 + 4 * (v - 1), 0, 32, d.latchedAt s.ep v))) ++
  [(0x160, 0, 32, d.fcr.historyTotal), (0x164, 0, 32, d.ctr .clearRefused 8)] ++
  ((((d.fcr.history.filter (fun h => d.srcVisible s.ep h.source)).take 32).zipIdx).map (fun (h : HistEntry × Nat) =>
    (0x180 + 16 * h.2, 0, 128, h.1.image))) ++
  [(0x380, 0, 32, d.oldestSeq), (0x384, 0, 32, d.evr.newest), (0x388, 0, 1, b2n d.evr.frozen), (0x388, 1, 1, b2n d.evr.lastDitch),
    (0x38C, 0, 32, d.ctr .evrDropped 0), (0x390, 0, 32, d.evr.persistSeq)]

/-- Table 2-17: the ledger epoch; the banks of all polders close at the same boundaries. -/
def Dev.epochSection (d : Dev) : List SurveyField :=
  let find (st : BankSt) : Option Bank :=
    ((d.mrp.banks.map (fun (b : Nat × Bank) => b.2)).find? (fun b => decide (b.st = st)))
  [(0x3A0, 0, 64, d.mrp.epoch), (0x3B0, 2, 1, b2n d.mrp.disc)] ++
  (match find .closing, find .exporting with
  | some b, _ => [(0x3A8, 0, 64, b.epochs.getLastD 0), (0x3B0, 0, 2, 1),
      (0x3B4, 0, 32, (b.endTick + msTicks d.mrp.closeMs - d.bal.tick) / 25)]
  | none, some _ => [(0x3B0, 0, 2, 2)]
  | none, none => [])

/-- Ownership, polder definitions (Table 2-18) and port states (Table 2-19); the sections of the ports are zero without the core
(02 R75). -/
def Dev.objectSection (d : Dev) (s : Scope) (core : Bool) : List SurveyField :=
  (if core then (List.range 512).map (fun l => (0x400 + l / 2, 4 * (l % 2), 4, s.nibble false (d.lanePolder l))) else []) ++
  (List.range 4).flatMap (fun e => (List.range 64).map (fun n =>
    (0x500 + 32 * e + n / 2, 4 * (n % 2), 4, if d.present e then s.nibble (decide (e = s.ep)) (d.crPolder e n) else 15))) ++
  (List.range 8).flatMap (fun p =>
    let x := d.polder p
    let b := 0x580 + 16 * p
    if s.polders.testBit p && decide (x.st ≠ .undefined) then
      [(b, 0, 2, x.owner), (b, 7, 1, 1), (b + 4, 0, 18, x.tenantBase), (b + 8, 0, 19, x.tenantCount),
        (b + 12, 0, 16, (d.plc.sluices.filter (fun y => decide (y.1 = p ∨ y.2.1 = p))).length)]
    else []) ++
  (if core then (List.range 512).map (fun l => (0x600 + 4 * l, 0, 32, if s.sees false (d.lanePolder l) then d.portEntry l else 15))
   else [])

/-- A section's check over the whole summary, its field taken as 0, and the summary's bytes. -/
def surveySeal (n : Nat) : List Byte :=
  let bs := leBytes 16384 n
  bs.take 0x34 ++ leBytes 4 (crc32c bs) ++ bs.drop 0x38

/-- The summary (02 Tables 2-13 to 2-20), of what was captured and of what the state holds now. -/
def Dev.survey (d : Dev) (s : Scope) (resync : Bool) (cap : Nat × Nat × Nat) : List Byte :=
  let core := match d.bal.mode with
    | .off | .dormant | .loading => false
    | _ => true
  let head : List SurveyField :=
    [(0, 0, 32, 0x56534A5A), (4, 0, 16, 1), (6, 0, 16, 0x2A00), (8, 0, 32, d.hif.surveySeq), (0xC, 0, 8, s.polders),
      (0xD, 0, 2, s.ep), (0xD, 2, 1, b2n s.warden), (0xD, 3, 2, b2n resync), (0xE, 0, 16, d.evr.powerCycles),
      (0x10, 0, 48, timeSec cap.2.1), (0x16, 0, 16, timeFrac cap.2.1), (0x18, 0, 32, timeNano cap.2.1), (0x1C, 0, 1, b2n core),
      (0x20, 0, 40, cap.1), (0x28, 0, 40, d.aon), (0x30, 0, 32, d.evr.opHours), (0x38, 0, 64, d.plc.challenge.toNat)]
  surveySeal (surveyPack (head ++ d.modeSection s core ++ d.faultSection s ++ (if core then d.epochSection else []) ++
    d.objectSection s core) + cap.2.2)

/-- A summary takes its number (02 Table 2-14). -/
def Dev.takeSurveySeq (d : Dev) : Dev := { d with hif := { d.hif with surveySeq := (d.hif.surveySeq + 1) % 2 ^ 32 } }

/-- OP_SURVEY: its first step captures the ring states; the device chooses in how many steps it does the rest. -/
def doOpSurvey (c : CmdRef) (io : Io) (d : Dev) : Dev :=
  d.step1 c (isOp 0x03) fun d x =>
    let s := d.scope c.ep (x.fld 28 0 8)
    let cap := match x.scratch with
      | [a, t, n] => (a, t, n)
      | _ => d.surveyCapture s
    if ioChoice io 0 ≠ 0 then d.again c [cap.1, cap.2.1, cap.2.2]
    else
      let d := d.takeSurveySeq
      let d := d.hostOut c.ep (x.fld 16 0 64) (d.survey s false cap) io.wrErr
      d.okBuf c io.wrErr 16 d.hif.surveySeq

/-! ### Resynchronisation without rings (02 R77) -/

/-- A write of EP_RESYNC_CTRL: its other fields are stored before GO acts (20 R570). -/
def doEpResyncGo (ep : Nat) (v : Word) (d : Dev) : Dev :=
  if !(d.ep ep).answers || decide (d.bal.mode = .off) then d
  else d.modEp ep (fun x =>
    let w := v.toNat
    let x := { x with
      resyncIrqEn := w.testBit 1, resyncDone := x.resyncDone && !w.testBit 9, resyncErr := x.resyncErr && !w.testBit 10 }
    if w.testBit 0 && !x.resyncBusy then { x with resyncBusy := true, resyncDone := false, resyncErr := false } else x)

/-- RESYNC_DONE: the summary has been written with the endpoint's whole scope, or met a DMA error. -/
def doResyncDone (ep : Nat) (err : Bool) (d : Dev) : Dev :=
  if !(d.ep ep).resyncBusy then d
  else
    let s := d.scope ep 0
    let bad := err || !(d.ep ep).up
    let d := d.takeSurveySeq
    let d := d.hostOut ep (d.ep ep).resyncAddr.toNat (d.survey s true (d.surveyCapture s)) bad
    let d := d.modEp ep (fun x => { x with resyncBusy := false, resyncDone := !bad, resyncErr := bad })
    let d := d.record Ev.resync (whoOf (d.owned ep)) none (dat [(0, 1, ep), (1, 4, d.hif.surveySeq), (5, 1, b2n bad)])
    if !bad && (d.ep ep).resyncIrqEn then d.signal ep 577 else d

/-! ### Meanings -/

/-- OP_NOP (R69). -/
def execOpNop (c : CmdRef) (io : Io) (s : State) : Host.Outcome State Fault Refusal :=
  .next { s with dev := doOpNop c io s.dev }

/-- OP_FENCE (R56). -/
def execOpFence (c : CmdRef) (io : Io) (s : State) : Host.Outcome State Fault Refusal :=
  .next { s with dev := doOpFence c io s.dev }

/-- OP_ABORT (R71). -/
def execOpAbort (c : CmdRef) (io : Io) (s : State) : Host.Outcome State Fault Refusal :=
  .next { s with dev := doOpAbort c io s.dev }

/-- OP_SURVEY (R73). -/
def execOpSurvey (c : CmdRef) (io : Io) (s : State) : Host.Outcome State Fault Refusal :=
  .next { s with dev := doOpSurvey c io s.dev }

/-- STRAY_DOORBELL (R43). -/
def execStrayDoorbell (ep : Nat) (off : Nat) (width : Nat) (v : BitVec 64) (s : State) : Host.Outcome State Fault Refusal :=
  .next { s with dev := doStrayDoorbell ep off width v s.dev }

/-- ENDPOINT_DOWN (R40). -/
def execEndpointDown (ep : Nat) (cause : EpCause) (s : State) : Host.Outcome State Fault Refusal :=
  .next { s with dev := doEndpointDown ep cause s.dev }

/-- EP_RXQ_CFG_WRITE (R41). -/
def execEpRxqCfgWrite (ep : Nat) (q : Nat) (dword : Nat) (v : Word) (s : State) : Host.Outcome State Fault Refusal :=
  .next { s with dev := doEpRxqCfgWrite ep q dword v s.dev }

/-- EP_TXQ_CFG_WRITE (R41). -/
def execEpTxqCfgWrite (ep : Nat) (q : Nat) (dword : Nat) (v : Word) (eops : List Bool) (s : State) : Host.Outcome State Fault Refusal :=
  .next { s with dev := doEpTxqCfgWrite ep q dword v eops s.dev }

/-- EP_RESYNC_GO (R77). -/
def execEpResyncGo (ep : Nat) (v : Word) (s : State) : Host.Outcome State Fault Refusal :=
  .next { s with dev := doEpResyncGo ep v s.dev }

/-- RESYNC_DONE (R77). -/
def execResyncDone (ep : Nat) (err : Bool) (s : State) : Host.Outcome State Fault Refusal :=
  .next { s with dev := doResyncDone ep err s.dev }

/-- ENDPOINT_UP (R40). -/
def execEndpointUp (ep : Nat) (s : State) : Host.Outcome State Fault Refusal :=
  .next { s with dev := doEndpointUp ep s.dev }

end Sys2Proof.Machine
end

