-- ==== Sys2Proof/Machine/Counters.lean ====
section
/-! DEFINITION. OP_COUNTER_READ and OP_COUNTER_CLEAR (13 R424): the counters of each kind of object, in the order of the
chapters. -/
namespace Sys2Proof.Machine

/-- How a counter answers a read and a clear: a running total; a peak, which a read resets to the value that stands now; a
current value, which nothing resets. -/
inductive CtrSort where
  | total | peak | current
  deriving DecidableEq, Repr

/-- A counter of an object: for a peak and a current value, `now` is the value that stands. -/
structure CtrItem where
  ctr : Ctr
  idx : Nat
  sort : CtrSort := .total
  now : Nat := 0
  deriving DecidableEq, Repr

/-- Running totals of one object. -/
def totals (i : Nat) (cs : List Ctr) : List CtrItem := cs.map (fun c => { ctr := c, idx := i })

/-- KIND 0: a port's counters (03 R586; 04 R140; 05 R168; 06 R200; 08 R252; 09 R284; 10 R331; 11 R358; 12 R395; 13 R427;
18 R588). -/
def portItems (p : Nat) : List CtrItem :=
  totals p [.drPolderHold, .rxFrames, .rxBytes, .txFrames, .txBytes, .txStomped, .fecCorrected, .fecUncorrected, .linkDown,
    .trainFail, .drRxFcs, .drRxRunt, .drRxOversize, .drTxOversize, .drSkidOverrun, .drEgressDown, .drLinkHoldExpired] ++
  (List.range 8).map (fun c => { ctr := .parseExc, idx := 8 * p + c }) ++
  totals p [.drNoMatch, .drParseDepth, .drParseLengthConflict, .drParseUnknown, .drParseMalformed, .drStoreFault,
    .drRuleDrop, .drNullRoute, .drNhInvalid, .drLagEmpty, .drTableParity, .drGenRetired,
    .drRewriteFault, .drRewriteInvalid, .drTtlExpired, .drRecircLimit,
    .ctGrant, .mcCopies, .mcSkipDown, .txUnderrun, .drReseqGap, .drPlaneEcc, .drMcastCopyHold,
    .pauseRxIgnored, .ecnMarked, .drHeadroomOverrun, .drMacControl, .drBufferEcc,
    .drBasinEcc, .drBasinLinkLost, .gateDefer, .tideOverrun, .drWindowOversize, .drWeirRed, .drDrainLimit, .drSafeHold]

/-- KIND 18: the device's counters (06 R200; 10 R331; 13 R427; 14 R443; 15 R473; 16 R497). -/
def Dev.deviceItems (d : Dev) : List CtrItem :=
  totals 0 [.genDoomed, .orphanFreed, .bpmDescCe] ++
  [{ ctr := .cellsRetired, idx := 0, sort := .current, now := d.bpm.retired.length },
    { ctr := .sharedFree, idx := 0, sort := .current, now := if d.corePowered then d.freeShared else 0 }] ++
  totals 0 [.ledgerMiss, .timeSteps, .cvuMatch, .cvuDataMismatch, .cvuCheckField, .cvuBadWidth, .cvuForeignWrite,
    .cvuStallCycles] ++
  totals 8 [.faultEscalated, .clearRefused] ++
  totals 0 [.faultHistorySkip, .tbnCe, .tbnUe, .tbnLastingCe, .evrAdmitted, .evrSuppressed, .evrInputDrop, .evrDropped,
    .persistDropped] ++
  [{ ctr := .flashSectorsUsable, idx := 0, sort := .current, now := d.ctr .flashSectorsUsable 0 },
    { ctr := .flashErasesMax, idx := 0, sort := .current, now := d.ctr .flashErasesMax 0 }]

/-- The polder whose tenant range holds a tenant (03 R81). -/
def Dev.tenantPolder (d : Dev) (t : Nat) : Option Nat :=
  (List.range 8).find? (fun p => let x := d.polder p
    x.st ≠ .undefined && decide (x.tenantBase ≤ t ∧ t < x.tenantBase + x.tenantCount))

/-- KIND 14: the eight counters of a tenant in a bank of its polder, and its unattributed bytes and packets. -/
def Dev.tenantItems (d : Dev) (t bank : Nat) : List CtrItem :=
  let st : BankSt := match bank with
    | 0 => .opened
    | 1 => .closing
    | _ => .exporting
  let counts : List Nat := match d.tenantPolder t with
    | some p => match d.bankIn p st with
      | some b => tget (d.bank p b).counts [] t
      | none => []
    | none => []
  let u := tget d.mrp.unattr {} t
  ((List.range 8).map (fun i => counts.getD i 0) ++ [u.bytes, u.pkts]).map (fun v =>
    { ctr := .ledgerUnattr, idx := t, sort := .current, now := v })

/-- The counters of an object (13 Table 13-11), in the order of a block. -/
def Dev.ctrItems (d : Dev) (kind i bank : Nat) : List CtrItem :=
  match kind with
  | 0 => portItems i
  | 1 => totals i [.pfcTx, .pfcRx, .xoff] ++
      [{ ctr := .hrPeak, idx := i, sort := .peak, now := (d.acct (i / 8)).hu.getD (i % 8) 0 },
        { ctr := .drHeadroomOverrun, idx := 65536 + i },
        { ctr := .lrqPeak, idx := i, sort := .peak, now := (d.lrq (i / 8) (i % 8)).bytes }]
  | 2 => totals i [.fecSymbols]
  | 3 => totals i [.flood, .floodDenied, .spillPackets] ++
      [{ ctr := .basinPeak, idx := i, sort := .peak, now := (d.queue i).chain.length }] ++ totals i [.qTxFrames, .qTxBytes]
  | 4 => totals (8192 + i) [.qTxFrames, .qTxBytes]
  | 5 => totals i [.parseStoreCe, .rewriteFault, .recircPasses, .reseqSkip, .reseqFullSkip, .reseqLate]
  | 6 => totals i [.actionInvisible, .learnOffered, .learnDropped, .learnLocked, .staticMoveDenied, .learnParitySkip,
        .stationMove, .aged, .evict, .learnRefused, .reloc] ++
      [{ ctr := .stashUse, idx := i, sort := .current, now := d.ctr .stashUse i }]
  | 7 => totals i [.lookupHit, .lookupMiss]
  | 8 => totals i [.swcCells]
  | 9 => totals i [.spillWrBytes, .spillRdBytes] ++
      [{ ctr := .segFree, idx := i, sort := .current, now := d.tierSize i - d.tierUsed i },
        { ctr := .segRetired, idx := i, sort := .current, now := (d.spw.retired.filter (fun s => decide (s / 2 ^ 21 = i))).length }]
  | 10 => totals i [.drDikeBlock, .mcEmpty, .lateUpdates, .lateUnrecorded, .ledgerUnattr] ++
      [{ ctr := .ledgerFlows, idx := i, sort := .current, now := d.flowsOf i }] ++
      totals i [.ledgerEcc, .exportRecords, .faultEscalated, .clearRefused]
  | 11 => totals i [.dbStray, .cplDiscard, .gaugeRingDrop, .traceRingDrop]
  | 12 => totals i [.badCheck, .checkFieldCorrupt, .badSequence, .dbStale]
  | 13 => if i < 1024 then totals i [.drHostQueueDown, .drHostRxStarved, .drHostRxOversize] else []
  | 14 => d.tenantItems i bank
  | 15 => [Ctr.weirGreen, .weirYellow, .weirRed].flatMap (fun c => [{ ctr := c, idx := 2 * i }, { ctr := c, idx := 2 * i + 1 }])
  | 16 => totals i [.mirrorCopies, .drMirrorCopy]
  | 17 => totals i [.shaperWait]
  | 18 => d.deviceItems
  | _ => []

/-- The value of a counter. -/
def Dev.ctrValue (d : Dev) (x : CtrItem) : Nat :=
  match x.sort with
  | .total => d.ctr x.ctr x.idx
  | .peak => max (d.ctr x.ctr x.idx) x.now
  | .current => x.now

/-- The block that a read writes: KIND in byte 0, INDEX in bytes 4-7, COUNT in bytes 8-11, and the values. -/
def ctrBlock (kind i : Nat) (vs : List Nat) : List Byte :=
  leBytes 16 (pack [(0, 8, kind), (32, 32, i), (64, 32, vs.length)]) ++ vs.flatMap (leBytes 8)

/-- OP_COUNTER_READ: the peak counters restart from the values that stand (10 R331, 11 R358), a write error
notwithstanding (02 R583); a tenant is read after every update older than 1 µs (13 R424). -/
def doOpCounterRead (c : CmdRef) (io : Io) (d : Dev) : Dev :=
  d.step1 c (isOp 0x40) fun d x =>
    let d := if x.fld 16 0 8 = 14 then Dev.combineOld d.mrp.merging.length d else d
    let xs := d.ctrItems (x.fld 16 0 8) (x.fld 20 0 32) (x.fld 17 0 2)
    let bs := ctrBlock (x.fld 16 0 8) (x.fld 20 0 32) (xs.map d.ctrValue)
    let d := xs.foldl (fun (d : Dev) y => if y.sort = .peak then d.setCtr y.ctr y.idx y.now else d) d
    (d.hostOut c.ep (x.fld 24 0 64) bs io.wrErr).okBuf c io.wrErr 24

/-- OP_COUNTER_CLEAR: the running counts of the object become 0. -/
def doOpCounterClear (c : CmdRef) (_io : Io) (d : Dev) : Dev :=
  d.step1 c (isOp 0x41) fun d x =>
    let xs := d.ctrItems (x.fld 16 0 8) (x.fld 20 0 32) 0
    (xs.foldl (fun (d : Dev) y => if y.sort = .current then d else d.setCtr y.ctr y.idx 0) d).ok c

/-! ### Meanings -/

/-- OP_COUNTER_READ (R424). -/
def execOpCounterRead (c : CmdRef) (io : Io) (s : State) : Host.Outcome State Fault Refusal :=
  .next { s with dev := doOpCounterRead c io s.dev }

/-- OP_COUNTER_CLEAR (R424). -/
def execOpCounterClear (c : CmdRef) (io : Io) (s : State) : Host.Outcome State Fault Refusal :=
  .next { s with dev := doOpCounterClear c io s.dev }

end Sys2Proof.Machine
end

