-- ==== Sys2Proof/Machine/Diag.lean ====
section
/-! DEFINITION. The diagnostic commands (18 R536-R538): loopback, memory tests, pattern generators. -/
namespace Sys2Proof.Machine

/-- OP_DIAG_LOOPBACK: the link of the port follows (18 R536). -/
def doOpDiagLoopback (c : CmdRef) (_io : Io) (d : Dev) : Dev :=
  d.step1 c (isOp 0xF0) fun d x =>
    let p := x.fld 16 0 10
    if !d.isPort p then d.fail c stNotFound
    else
      let old := d.loopKind p
      (({ d with bal := { d.bal with loopback := tset d.bal.loopback 0 p (x.fld 18 0 2) } } : Dev).linkRefresh p).ok c old

/-! ### Memory tests (18 R537) -/

/-- A packet whose payload has been zeroed. -/
def Pkt.zeroed (x : Pkt) : Pkt := { x with bytes := x.bytes.map (fun _ => (0 : Byte)) }

/-- The packets of which the basin holds the cells. -/
def Dev.basinPids (d : Dev) : List Nat :=
  (d.dp.queues.flatMap (fun (q : Nat × Queue) => (q.2.ents.filter (fun e => decide (e.part = .basin))).map Ent.pid)) ++
    d.spw.lrqs.flatMap (fun (l : Nat × Lrq) => l.2.frames)

/-- A test leaves zeros in the memories of its group. -/
def Dev.bistZero (d : Dev) (g : Nat) : Dev :=
  match g with
  | 0 => { d with
      bpm := { d.bpm with cells := [], links := [], zeroed := true }
      dp := { d.dp with pkts := d.dp.pkts.map (fun (x : Nat × Option Pkt) => (x.1, x.2.map Pkt.zeroed)) } }
  | 5 => { d with swc := { d.swc with flight := [] } }
  | 6 =>
    let ps := d.basinPids
    { d with
      esc := { d.esc with archive := [] }
      mrp := { d.mrp with flows := d.mrp.flows.filter (fun (f : Nat × Option Flow) => (f.2.map Flow.cached).getD false) }
      dp := { d.dp with pkts := d.dp.pkts.map (fun (x : Nat × Option Pkt) =>
        if ps.contains x.1 then (x.1, x.2.map Pkt.zeroed) else x) } }
  | 7 => { d with
      esc := { d.esc with scheds := [], buckets := [], tides := [], zeroed := true }
      mrp := { d.mrp with banks := d.mrp.banks.map (fun (b : Nat × Bank) => (b.1, { b.2 with counts := [], invalid := [] })) }
      ctrs := d.ctrs.filter (fun x => keptCtr x.1) }
  | n =>
    let q := n - 1
    { d with
      rle := { d.rle with
        ents := d.rle.ents.map (fun (e : Nat × Option TabEnt) => (e.1, e.2.map (fun y => { y with bad := y.bad ||| 2 ^ q })))
        relocs := [] }
      lrn := { d.lrn with quads := tmod d.lrn.quads {} q (fun y => { y with ents := [], relocs := [] }) } }

/-- OP_DIAG_BIST. The device chooses in how many steps it runs; in the last, what the test finds is given: the failing words,
and the address of the first. -/
def doOpDiagBist (c : CmdRef) (io : Io) (d : Dev) : Dev :=
  d.step1 c (isOp 0xF1) fun d x =>
    let d : Dev := { d with boot := { d.boot with bistRun := true } }
    if ioChoice io 0 ≠ 0 then d.again c [1]
    else (d.bistZero (x.fld 16 0 3)).ok c (ioChoice io 1 % 2 ^ 32) (if ioChoice io 1 = 0 then 0 else ioChoice io 2)

/-! ### Pattern generators (18 R538) -/

/-- The macro of a lane is powered. -/
def Dev.lanePowered (d : Dev) (l : Nat) : Bool := decide ((d.octal (l / 8)).st ≠ .off)

/-- A lane's generator and checker: pattern, bit errors, bits compared. -/
def Dev.setPrbs (d : Dev) (l : Nat) (v : Option (Nat × Nat × Nat)) : Dev :=
  { d with bal := { d.bal with prbs := tset d.bal.prbs none l v } }

/-- OP_DIAG_PRBS START. -/
def doOpDiagPrbsStart (c : CmdRef) (_io : Io) (d : Dev) : Dev :=
  d.step1 c (isOpAct 0xF2 (18, 0, 2) 0) fun d x =>
    let l := x.fld 16 0 9
    if !d.lanePowered l then d.fail c stWrongMode else (d.setPrbs l (some (x.fld 19 0 2, 0, 0))).ok c

/-- The counts of a lane's checker since its START, as the lane gives them; of a lane without a START the spec states no
counts. -/
def Dev.prbsCounts (d : Dev) (l : Nat) (io : Io) : Nat × Nat × Dev :=
  match tget d.bal.prbs none l with
  | some (k, _, _) =>
    let e := ioChoice io 0 % 2 ^ 64
    let n := ioChoice io 1 % 2 ^ 64
    (e, n, d.setPrbs l (some (k, e, n)))
  | none =>
    let a := d.free 64
    let b := a.2.free 64
    (a.1, b.1, b.2)

/-- OP_DIAG_PRBS READ. -/
def doOpDiagPrbsRead (c : CmdRef) (io : Io) (d : Dev) : Dev :=
  d.step1 c (isOpAct 0xF2 (18, 0, 2) 1) fun d x =>
    let l := x.fld 16 0 9
    if !d.lanePowered l then d.fail c stWrongMode
    else let r := d.prbsCounts l io
      r.2.2.ok c r.1 r.2.1

/-- OP_DIAG_PRBS STOP. -/
def doOpDiagPrbsStop (c : CmdRef) (io : Io) (d : Dev) : Dev :=
  d.step1 c (isOpAct 0xF2 (18, 0, 2) 2) fun d x =>
    let l := x.fld 16 0 9
    if !d.lanePowered l then d.fail c stWrongMode
    else let r := d.prbsCounts l io
      (r.2.2.setPrbs l none).ok c r.1 r.2.1

/-! ### Meanings -/

/-- OP_DIAG_LOOPBACK (R536). -/
def execOpDiagLoopback (c : CmdRef) (io : Io) (s : State) : Host.Outcome State Fault Refusal :=
  .next { s with dev := doOpDiagLoopback c io s.dev }

/-- OP_DIAG_BIST (R537). -/
def execOpDiagBist (c : CmdRef) (io : Io) (s : State) : Host.Outcome State Fault Refusal :=
  .next { s with dev := doOpDiagBist c io s.dev }

/-- OP_DIAG_PRBS_START (R538). -/
def execOpDiagPrbsStart (c : CmdRef) (io : Io) (s : State) : Host.Outcome State Fault Refusal :=
  .next { s with dev := doOpDiagPrbsStart c io s.dev }

/-- OP_DIAG_PRBS_READ (R538). -/
def execOpDiagPrbsRead (c : CmdRef) (io : Io) (s : State) : Host.Outcome State Fault Refusal :=
  .next { s with dev := doOpDiagPrbsRead c io s.dev }

/-- OP_DIAG_PRBS_STOP (R538). -/
def execOpDiagPrbsStop (c : CmdRef) (io : Io) (s : State) : Host.Outcome State Fault Refusal :=
  .next { s with dev := doOpDiagPrbsStop c io s.dev }

end Sys2Proof.Machine
end

