-- ==== Sys2Proof/Machine/Sideband.lean ====
section
/-! DEFINITION. The SMBus sideband, the LED stream and the TAP (19 R558-R561). -/
namespace Sys2Proof.Machine

/-! ### SMBus transactions (19 R559) -/

/-- The SMBus packet error code: CRC-8 of polynomial x^8 + x^2 + x + 1. -/
def crc8 (bs : List Byte) : Nat :=
  bs.foldl (fun c b => (List.range 8).foldl (fun c _ => if c.testBit 7 then ((2 * c) ^^^ 0x07) % 256 else 2 * c) (c ^^^ b.toNat)) 0

/-- The address byte of the target, for a write or a read. -/
def Dev.smbAddr (d : Dev) (read : Bool) : Byte := BitVec.ofNat 8 (2 * (0x58 + d.bal.straps.smbAddr) + b2n read)

/-- The target answers its address: POR_N is not low. -/
def Dev.smbOn (d : Dev) : Bool := decide (d.bal.mode ≠ .off)

/-- A read's answer: its bytes, with the PEC when the master clocks it. -/
def Dev.smbAnswer (d : Dev) (code : Nat) (bs : List Byte) (pec : Bool) : Dev :=
  if !d.smbOn then d
  else d.emit (.smbus (bs ++ (if pec then
    [BitVec.ofNat 8 (crc8 ([d.smbAddr false, BitVec.ofNat 8 code, d.smbAddr true] ++ bs))] else [])))

/-- A block read: its count and its bytes. -/
def Dev.smbBlock (d : Dev) (code : Nat) (bs : List Byte) (pec : Bool) : Dev :=
  d.smbAnswer code (BitVec.ofNat 8 bs.length :: bs) pec

/-- A write's PEC, where the master sends one, is right. -/
def Dev.smbPecOk (d : Dev) (bs : List Byte) : Option Byte → Bool
  | none => true
  | some p => decide (p.toNat = crc8 (d.smbAddr false :: bs))

/-- The short form of the survey (02 Table 2-21). -/
def Dev.shortForm (d : Dev) : Nat :=
  let first := match d.fcr.firstDev with
    | some f => pack [(0, 12, f.source), (12, 3, f.severity), (15, 1, 1)]
    | none => 0
  let crit := (d.fcr.srcs.filter (fun x => x.2.latched && decide (x.2.latchedSev = 4))).length
  surveyPack ([(0, 0, 8, 1), (1, 0, 4, d.bal.mode.code)] ++
    (List.range 8).map (fun p => (2, 2 * p, 2, (d.polder p).st.code)) ++
    [(4, 0, 16, first), (6, 0, 16, d.evr.powerCycles), (8, 0, 32, d.evr.newest), (0xC, 0, 32, d.evr.opHours),
      (0x10, 0, 48, if d.corePowered then timeSec d.tmu.time else 0), (0x18, 0, 32, d.boot.imageVersion), (0x1C, 0, 2, d.plc.warden)] ++
    (List.range 4).map (fun e => (0x1C, 4 + e, 1, b2n (d.ep e).up)) ++ [(0x1D, 0, 8, min 255 crit)])

/-- SMBUS_SUMMARY (02 R78). -/
def doSmbusSummary (pec : Bool) (d : Dev) : Dev := d.smbBlock 0x01 (leBytes 32 d.shortForm) pec

/-- SMBUS_TEMP_MAX: the hottest sensor that is not excluded. -/
def doSmbusTempMax (pec : Bool) (d : Dev) : Dev := d.smbAnswer 0x02 (leBytes 2 (unsigned 16 (hottest d.temps).2)) pec

/-- SMBUS_TEMP_ALL: sensors 0-15. -/
def doSmbusTempAll (pec : Bool) (d : Dev) : Dev := d.smbBlock 0x03 (d.temps.flatMap (leBytes 2)) pec

/-- SMBUS_RAILS: the rails in the order of Table 19-5, VSS excluded. -/
def doSmbusRails (pec : Bool) (d : Dev) : Dev :=
  d.smbBlock 0x04 ((List.range 12).flatMap (fun i => leBytes 2 (d.railMv i))) pec

/-- IDCODE (19 R561). -/
def idcode : Nat := 0x1D1024A3

/-- SMBUS_IDENTITY. -/
def doSmbusIdentity (pec : Bool) (d : Dev) : Dev :=
  d.smbBlock 0x05 (leBytes 8 d.deviceTag ++ leBytes 4 d.boot.imageVersion ++ leBytes 4 idcode ++ leBytes 4 d.otpStatus ++
    leBytes 4 d.strapStatus ++ leBytes 8 d.plc.challenge.toNat) pec

/-- SMBUS_TOKEN_LOAD: the block's data are OFFSET and up to 128 token bytes; a load beyond byte 303 is discarded. -/
def doSmbusTokenLoad (data : List Byte) (pec : Option Byte) (d : Dev) : Dev :=
  let off := leNat (data.take 2)
  let bs := data.drop 2
  if !d.smbOn || decide (data.length < 3 ∨ 130 < data.length) || !d.smbPecOk (0x10 :: BitVec.ofNat 8 data.length :: data) pec then d
  else if 304 < off + bs.length then d
  else { d with plc := { d.plc with token := tsetMany none d.plc.token off (bs.map some), tokenState := 1 } }

/-- The token loaded, or as much of it as is there. -/
def Dev.tokenBytes (d : Dev) : List Byte := (List.range 304).filterMap (fun i => tget d.plc.token none i)

/-- SMBUS_TOKEN_APPLY: the checks of a handover, with the warden endpoint down (03 R112); the buffer is cleared. A token not
wholly loaded fails the first check. -/
def doSmbusTokenApply (pec : Option Byte) (d : Dev) : Dev :=
  if !d.smbOn || !d.smbPecOk [0x11] pec then d
  else
    let (k, d) := d.handover d.tokenBytes true
    { d with plc := { d.plc with token := [], tokenState := if k.isNone then 3 else 4, tokenCode := k.getD 0 } }

/-- SMBUS_TOKEN_STATUS. -/
def doSmbusTokenStatus (pec : Bool) (d : Dev) : Dev :=
  d.smbAnswer 0x12 (leBytes 2 (pack [(0, 8, d.plc.tokenState), (8, 8, d.plc.tokenCode)])) pec

/-- SMBUS_STALL_TIMEOUT: the bus is released and the transaction has no effect; one that has its effect is over. -/
def doSmbusStallTimeout (d : Dev) : Dev := d

/-! ### LEDs and TAP (19 R558, R561) -/

/-- LINK and ACT of a lane. -/
def Dev.ledBits (d : Dev) (l : Nat) : List Bool :=
  let on := d.corePowered && d.isPort l && decide ((d.port l).st = .up)
  [on, d.corePowered && d.isPort l && (d.port l).active]

/-- LED_FRAME: every 10 ms. -/
def doLedFrame (d : Dev) : Dev :=
  if d.bal.mode = .off then d
  else
    let d := d.reach (msTicks 10 * (d.bal.ledFrames + 1))
    let d := d.emit (.led ((List.range 512).flatMap d.ledBits))
    d.pte.ports.foldl (fun (d : Dev) p => d.modPort p.1 (fun x => { x with active := false }))
      { d with bal := { d.bal with ledFrames := d.bal.ledFrames + 1 } }

/-- The instruction that takes effect: a locked TAP knows no private one, and the pins are taken only in DORMANT and
DIAGNOSTIC. -/
def Dev.tapDecode (d : Dev) (i : TapInstr) : TapInstr :=
  let pins := decide (d.bal.mode = .dormant ∨ d.bal.mode = .diagnostic)
  match i with
  | .extest | .extestPulse | .extestTrain | .highz | .clamp => if pins then i else .bypass
  | .privateDebug => if d.otp.jtagLock then .bypass else i
  | .unassigned => .bypass
  | .bypass | .idcode | .samplePreload => i

/-- TAP_INSTRUCTION: what is decoded stands in the instruction register; IDCODE shifts out the code, BYPASS a 0. -/
def doTapInstruction (i : TapInstr) (d : Dev) : Dev :=
  let j := d.tapDecode i
  let d := { d with bal := { d.bal with tapIr := j } }
  match j with
  | .idcode => d.emit (.tap idcode)
  | .bypass => d.emit (.tap 0)
  | .samplePreload | .extest | .extestPulse | .extestTrain | .highz | .clamp | .privateDebug | .unassigned => d

/-- TAP_INSTRUCTION (R561): a private debug instruction that is decoded is not documented. -/
def execTapInstruction (i : TapInstr) (s : State) : Host.Outcome State Fault Refusal :=
  if s.dev.tapDecode i = .privateDebug then .refused .privateDebug else .next { s with dev := doTapInstruction i s.dev }

/-! ### Meanings -/

/-- SMBUS_SUMMARY (R78). -/
def execSmbusSummary (pec : Bool) (s : State) : Host.Outcome State Fault Refusal :=
  .next { s with dev := doSmbusSummary pec s.dev }

/-- SMBUS_TEMP_MAX (R559). -/
def execSmbusTempMax (pec : Bool) (s : State) : Host.Outcome State Fault Refusal :=
  .next { s with dev := doSmbusTempMax pec s.dev }

/-- SMBUS_TEMP_ALL (R559). -/
def execSmbusTempAll (pec : Bool) (s : State) : Host.Outcome State Fault Refusal :=
  .next { s with dev := doSmbusTempAll pec s.dev }

/-- SMBUS_RAILS (R559). -/
def execSmbusRails (pec : Bool) (s : State) : Host.Outcome State Fault Refusal :=
  .next { s with dev := doSmbusRails pec s.dev }

/-- SMBUS_IDENTITY (R559). -/
def execSmbusIdentity (pec : Bool) (s : State) : Host.Outcome State Fault Refusal :=
  .next { s with dev := doSmbusIdentity pec s.dev }

/-- SMBUS_TOKEN_LOAD (R560). -/
def execSmbusTokenLoad (data : List Byte) (pec : Option Byte) (s : State) : Host.Outcome State Fault Refusal :=
  .next { s with dev := doSmbusTokenLoad data pec s.dev }

/-- SMBUS_TOKEN_APPLY (R560). -/
def execSmbusTokenApply (pec : Option Byte) (s : State) : Host.Outcome State Fault Refusal :=
  .next { s with dev := doSmbusTokenApply pec s.dev }

/-- SMBUS_TOKEN_STATUS (R559). -/
def execSmbusTokenStatus (pec : Bool) (s : State) : Host.Outcome State Fault Refusal :=
  .next { s with dev := doSmbusTokenStatus pec s.dev }

/-- SMBUS_STALL_TIMEOUT (R559). -/
def execSmbusStallTimeout (s : State) : Host.Outcome State Fault Refusal :=
  .next { s with dev := doSmbusStallTimeout s.dev }

/-- LED_FRAME (R558). -/
def execLedFrame (s : State) : Host.Outcome State Fault Refusal :=
  .next { s with dev := doLedFrame s.dev }

end Sys2Proof.Machine
end

