-- ==== Sys2Proof/Machine/Regs.lean ====
section
/-! DEFINITION. The set-up register map (chapter 20): which register lies where, what it reads, snapshots, access rules, and
the writes of registers. -/
namespace Sys2Proof.Machine

/-! ### Where the registers lie (20 Tables 20-1, 20-2, 20-4) -/

/-- The registers of BAR0: first offset, stride, number, size of one in bytes. Every dword of the MSI-X structures, the raw log and
the last-ditch bank stands for itself; a ring's CFG and STATUS are two registers. -/
def regMap : List (Nat × Nat × Nat × Nat) :=
  [(0x0000, 8, 1, 8), (0x0008, 4, 1, 4), (0x0010, 4, 1, 4), (0x0020, 8, 1, 8), (0x0028, 4, 1, 4),
    (0x1000, 32, 64, 12), (0x100C, 32, 64, 20), (0x1800, 32, 64, 12), (0x180C, 32, 64, 20),
    (0x2000, 32, 256, 32), (0x4000, 32, 256, 32), (0x6000, 4, 1024, 4), (0x7000, 4, 512, 4), (0x7800, 4, 32, 4),
    (0x7900, 4, 16, 4), (0x7A00, 32, 2, 32), (0x8000, 8, 256, 8), (0x8800, 8, 2, 8)] ++
  [(0x9000, 32, 256, 8), (0x9008, 32, 256, 8), (0x9010, 32, 256, 8), (0x10000, 4, 2048, 4), (0x12000, 4, 16, 4),
    (0x20000, 4, 2, 4), (0x20008, 8, 1, 8), (0x20010, 4, 3, 4), (0x20020, 8, 2, 8), (0x20030, 4, 2, 4), (0x20040, 12, 1, 12),
    (0x20050, 4, 2, 4), (0x20060, 16, 9, 12), (0x20100, 12, 1, 12), (0x20110, 4, 1, 4), (0x20140, 4, 2, 4),
    (0x20148, 8, 1, 8), (0x20150, 4, 1, 4), (0x20158, 8, 1, 8), (0x20160, 4, 1, 4), (0x20180, 4, 16, 4)] ++
  [(0x21000, 64, 64, 4), (0x21004, 64, 64, 4), (0x21008, 64, 64, 4), (0x2100C, 64, 64, 4), (0x21010, 64, 64, 8),
    (0x21018, 64, 64, 8), (0x21020, 64, 64, 8), (0x21028, 64, 64, 8), (0x21030, 64, 64, 4), (0x22000, 4, 128, 4),
    (0x24000, 4, 2048, 4)]

/-- The register that holds the dword at an offset: its own offset and its size. -/
def regAt (off : Nat) : Option (Nat × Nat) :=
  match regMap.find? (fun r => decide (r.1 ≤ off ∧ off < r.1 + r.2.1 * r.2.2.1 ∧ (off - r.1) % r.2.1 < r.2.2.2)) with
  | some r => some (off - (off - r.1) % r.2.1, r.2.2.2)
  | none => none

/-- An access is naturally aligned and 32 or 64 bits wide, or reaches GL_CVU_DATA with one or two bytes (20 R569). -/
def accessOk (off width : Nat) : Bool :=
  decide ((width = 32 ∧ off % 4 = 0) ∨ (width = 64 ∧ off % 8 = 0) ∨
    ((width = 8 ∨ width = 16) ∧ 0x21000 ≤ off ∧ off < 0x22000 ∧ 0x30 ≤ off % 64 ∧ off % 64 + width / 8 ≤ 0x34))

/-- EP_SETUP_STATUS.DENIED. -/
def Dev.deny (d : Dev) (e : Nat) : Dev := d.modEp e (fun x => { x with denied := true })

/-! ### What registers read -/

/-- STATE of a ring; of a queue. -/
def RingSt.ringCode : RingSt → Nat
  | .disabled => 0 | .active => 1 | .stopped => 2 | .starved => 1
def RingSt.queueCode : RingSt → Nat
  | .disabled => 0 | .active => 1 | .starved => 2 | .stopped => 3

/-- POLDER and ASSIGNED. -/
def polFields (p : Option Nat) : List (Nat × Nat × Nat) := [(88, 3, p.getD 0), (91, 1, b2n p.isSome)]

/-- A packet queue's block. -/
def PktQueue.image (q : PktQueue) (p : Option Nat) (rx : Bool) : Nat :=
  pack ([(0, 64, q.base.toNat), (64, 5, q.sizeLog2), (80, 1, b2n q.enable)] ++ polFields p ++
    [(96, 7, if rx then q.starve else 0), (104, 2, q.st.queueCode), (106, 1, b2n q.cfgErr), (128, 32, q.posted.toNat),
      (160, 32, q.used.toNat)])

/-- An export ring's block. -/
def ExportRing.image (r : ExportRing) (trace : Bool) : Nat :=
  pack [(0, 64, r.base.toNat), (64, 5, r.sizeLog2), (80, 1, b2n r.enable), (84, 3, if trace then r.minSeverity else 0),
    (95, 1, b2n r.cfgErr), (128, 64, r.wbAddr.toNat), (192, 32, r.cons.toNat)]

/-- The ports of word k of EP_LRN_PORT that belong to polders of an endpoint (07 R228). -/
def Dev.ownPorts (d : Dev) (e k : Nat) : Nat :=
  ((List.range 32).filter (fun i => match d.lanePolder (32 * k + i) with
    | some p => d.owns e p
    | none => false)).foldl (fun m i => m + 2 ^ i) 0

/-- A cause whose registers the endpoint may reach: not a reserved one, nor that of a polder of another (20 R573, R577). -/
def Dev.causeMine (d : Dev) (e c : Nat) : Bool := decide (c < 580) || (decide (c < 588) && d.owns e (c - 580))

/-- The value of a per-endpoint register, by its offset (20 Table 20-3). -/
def Dev.epReg (d : Dev) (e b : Nat) : Nat :=
  let x := d.ep e
  if b = 0 then
    pack [(0, 16, 0xD102), (16, 4, 1), (20, 2, e), (22, 1, b2n (d.isWarden e)), (24, 4, 2 ^ d.epCount - 1),
      (28, 4, d.bal.mode.code), (32, 8, d.owned e)]
  else if b = 8 then pack [(0, 1, b2n x.denied), (1, 1, b2n x.gated), (2, 1, b2n x.badAccess)]
  else if b = 0x10 then x.alarmSummary.toNat
  else if b = 0x20 then x.resyncAddr.toNat
  else if b = 0x28 then
    pack [(1, 1, b2n x.resyncIrqEn), (8, 1, b2n x.resyncBusy), (9, 1, b2n x.resyncDone), (10, 1, b2n x.resyncErr)]
  else if b < 0x1800 then
    let n := (b - 0x1000) / 32
    let r := d.cr e n
    if b % 32 = 0 then
      pack ([(0, 64, r.base.toNat), (64, 5, r.sizeLog2), (72, 6, r.boundCq), (80, 1, b2n r.enable)] ++ polFields (d.crPolder e n))
    else pack [(0, 2, r.st.ringCode), (2, 1, b2n r.cfgErr), (32, 32, r.p.toNat), (64, 32, r.f.toNat), (96, 32, r.c.toNat)]
  else if b < 0x2000 then
    let n := (b - 0x1800) / 32
    let r := d.cq e n
    if b % 32 = 0 then
      pack ([(0, 64, r.base.toNat), (64, 5, r.sizeLog2), (80, 1, b2n r.enable)] ++ polFields (d.cqPolder e n))
    else pack [(0, 2, r.st.ringCode), (2, 1, b2n r.cfgErr), (32, 32, r.w.toNat), (64, 32, r.consumed.toNat)]
  else if b < 0x4000 then (d.rxq e ((b - 0x2000) / 32)).image (d.rxqPolder e ((b - 0x2000) / 32)) true
  else if b < 0x6000 then (d.txq e ((b - 0x4000) / 32)).image (d.txqPolder e ((b - 0x4000) / 32)) false
  else if b < 0x7000 then
    let c := (b - 0x6000) / 4
    if d.causeMine e c then (d.vecMap e c).toNat else 0
  else if b < 0x7800 then
    let m := d.vecMod e ((b - 0x7000) / 4)
    pack [(0, 11, m.1), (16, 10, m.2)]
  else if b < 0x7900 then
    let p := (b - 0x7800) / 16
    let l := d.lrnCfg p
    if !d.owns e p then 0
    else match b % 16 / 4 with
      | 0 => pack [(0, 1, b2n l.learnEn), (1, 1, b2n l.evictRandom), (8, 8, l.flapLimit), (16, 16, l.flapWindowMs)]
      | 1 => tget d.swc.mcHoldUs 100 p
      | 2 => b2n (d.mrp.tcEn.testBit p)
      | _ => (d.mrpRing p).cons.toNat
  else if b < 0x7A00 then
    let k := (b - 0x7900) / 4
    bits d.lrn.noLearn (32 * k) 32 &&& d.ownPorts e k
  else if b = 0x7A00 then x.gauge.image false
  else if b = 0x7A20 then x.trace.image true
  else if b < 0x8800 then
    let n := (b - 0x8000) / 32
    match b % 32 / 8 with
    | 0 => d.ctr .badCheck (64 * e + n)
    | 1 => d.ctr .checkFieldCorrupt (64 * e + n)
    | 2 => d.ctr .badSequence (64 * e + n)
    | _ => d.ctr .dbStale (64 * e + n)
  else if b = 0x8800 then d.ctr .dbStray e
  else if b = 0x8808 then d.ctr .cplDiscard e
  else if b < 0x10000 then
    let q := 256 * e + (b - 0x9000) / 32
    match b % 32 / 8 with
    | 0 => d.ctr .drHostQueueDown q
    | 1 => d.ctr .drHostRxStarved q
    | _ => d.ctr .drHostRxOversize q
  else if b < 0x12000 then
    let m := d.msixEntry e ((b - 0x10000) / 16)
    match b % 16 / 4 with
    | 0 => bits m.addr.toNat 0 32
    | 1 => bits m.addr.toNat 32 32
    | 2 => m.data.toNat
    | _ => b2n m.masked
  else
    let k := (b - 0x12000) / 4
    ((List.range 32).filter (fun i => (d.gather e (32 * k + i)).pending)).foldl (fun m i => m + 2 ^ i) 0

/-- A first-fault register (15 Table 15-9). -/
def FirstFault.image (f : FirstFault) : Nat :=
  pack [(0, 12, f.source), (12, 3, f.severity), (15, 1, b2n f.lasting), (16, 1, 1), (17, 1, b2n f.sameCycle), (32, 40, f.tick)]

/-- Latched sources of a severity. -/
def Dev.latchedOf (d : Dev) (sev : Nat) : Nat :=
  (d.fcr.srcs.filter (fun s => s.2.latched && decide (s.2.latchedSev = sev))).length

/-- GL_SPW_CXL_CTRL.STATE of a port. -/
def Cxl.code (x : Cxl) : Nat := if x.inService then 2 else if x.enumerating then 1 else if x.lost then 3 else 0

/-- The value of a global register other than the CVU's and the raw log's, by its offset from the window's start (20 R578). -/
def Dev.glReg (d : Dev) (b : Nat) : Nat :=
  if b = 0x000 then d.strapStatus
  else if b = 0x008 then d.boot.addr.toNat
  else if b = 0x010 then d.boot.len.toNat
  else if b = 0x014 then
    let st := match d.boot.st with
      | .idle => 0 | .loading => 1 | .loaded => 2 | .waitHost => 3 | .failed => 4
    pack [(0, 3, st), (3, 2, d.boot.slot), (5, 1, b2n d.boot.locked), (8, 8, d.boot.cause), (16, 8, min 255 d.boot.attempts)]
  else if b = 0x018 then d.otpStatus
  else if b = 0x020 then pack [(0, 1, b2n d.bal.holdIdle), (8, 16, d.bal.sleepUs), (32, 16, d.bal.drainMs)]
  else if b = 0x028 then
    let awake := (List.range 16).foldl (fun m p => if d.corePowered && !(d.pipe p).asleep then m + 2 ^ p else m) 0
    let left := if d.bal.mode = .draining then cdiv (d.bal.drainEnd - d.bal.tick) (msTicks 1) else 0
    pack [(0, 4, d.bal.mode.code), (4, 4, d.bal.prevMode.code), (8, 1, b2n d.bal.corePll), (9, 1, b2n d.bal.mgmtPll),
      (10, 1, b2n d.bal.refOnOsc), (16, 16, awake), (32, 16, left)]
  else if b = 0x030 then d.bal.gpioCtrl.toNat
  else if b = 0x034 then
    let oe := bits d.bal.gpioCtrl.toNat 0 16
    (bits d.bal.gpioCtrl.toNat 16 16 &&& oe) ||| (d.bal.gpioIn % 65536 &&& (65535 - oe))
  else if b = 0x040 then
    pack ((List.range 4).flatMap (fun e => [(16 * e, 8, tget d.hif.weight 1 e), (16 * e + 8, 7, d.minShare e)]) ++
      [(64, 1, b2n d.overcommit)])
  else if b = 0x050 then d.fcr.alertMin
  else if b = 0x054 then
    pack [(0, 12, min 4095 (d.latchedOf 4)), (12, 12, min 4095 (d.latchedOf 3)), (24, 1, b2n d.fcr.faultN),
      (25, 1, b2n d.fcr.alertN), (26, 6, min 63 ((d.fcr.srcs.filter (fun s => s.2.timer.isSome || s.2.crit.isSome)).length))]
  else if b < 0x060 then 0
  else if b < 0x100 then ((d.firstReg (if b = 0x060 then 8 else (b - 0x070) / 16)).map FirstFault.image).getD 0
  else if b = 0x100 then
    pack [(0, 32, d.evr.newest), (32, 32, d.oldestSeq), (64, 1, b2n d.evr.frozen), (65, 1, b2n d.evr.lastDitch), (66, 4, d.evr.holders)]
  else if b = 0x110 then d.evr.rawPage
  else if b = 0x140 then d.lrn.periodS
  else if b = 0x144 then pack ((List.range 4).map (fun k => (2 * k, 2, (d.plane k).st.ctorIdx)))
  else if b = 0x148 then
    pack [(0, 1, b2n d.tmu.refSel), (7, 1, b2n d.tmu.cfgErr), (8, 19, d.tmu.ppsWidthUs), (32, 32, unsigned 32 d.tmu.ppsOffset)]
  else if b = 0x150 then pack [(0, 16, d.mrp.offsetMs), (16, 10, d.mrp.closeMs), (31, 1, b2n d.mrp.cfgErr)]
  else if b = 0x158 then
    let m := d.spw.nextMap
    pack [(0, 7, m.ledger), (8, 6, m.telemetry), (16, 7, m.longReach), (31, 1, b2n d.spw.cfgErr), (32, 8, m.spill)]
  else if b = 0x160 then pack ([(0, 4, d.spw.cxlEn)] ++ (List.range 4).map (fun i => (2 * i + 8, 2, (d.cxl i).code)))
  else if b < 0x1A0 then d.polderCap ((b - 0x180) / 4)
  else if b < 0x1C0 then d.ledgerCap ((b - 0x1A0) / 4)
  else if b < 0x2200 then bits ((match tget d.evr.bank none ((b - 0x2000) / 32) with
    | some r => recImage r
    | none => 0)) (8 * (b % 32)) 32
  else 0

/-- A dword of the raw log: a bad slot reads all ones, and what a slot that holds no record reads is open (16 Table 16-3). -/
def Dev.rawWord (d : Dev) (b : Nat) (check : Ecc) : Nat × Dev :=
  let i := 256 * d.evr.rawPage + (b - 0x4000) / 32
  if check = .once ∨ check = .lasting then (0xFFFFFFFF, d.slotCheck i check)
  else if d.evr.badSlots.contains i then (0xFFFFFFFF, d)
  else match tget d.evr.log none i with
    | some r => (bits (recImage r) (8 * (b % 32)) 32, d)
    | none => d.free 32

/-- A register of a CVU context; RUN, RESULT, BYTES and STATUS wait for the writes accepted before (14 R435, Table 14-3). -/
def Dev.cvuRead (d : Dev) (b : Nat) : Nat × Dev :=
  let n := (b - 0x1000) / 64
  let o := b % 64
  let d := if o = 0x04 ∨ o = 0x08 ∨ o = 0x18 ∨ o = 0x28 then d.cvuWait n true else d
  let x := d.cvuCtx n
  (match o with
    | 0x00 => pack [(0, 2, x.alg), (2, 1, b2n x.parMode), (3, 1, b2n x.irqEn), (4, 4, x.foldLen), (8, 3, x.owner)]
    | 0x04 => pack [(0, 1, b2n x.buf.isSome), (1, 1, b2n x.isMatch), (2, 1, b2n x.mismatch), (3, 1, b2n x.checkField), (4, 1, b2n x.stateErr)]
    | 0x08 => x.bytes.toNat
    | 0x0C => x.expPar.toNat
    | 0x10 => x.fold.toNat % 2 ^ cvuWidth x.alg
    | 0x18 => x.run.toNat
    | 0x20 => x.expect.toNat % 2 ^ cvuWidth x.alg
    | 0x28 => x.result.toNat
    | _ => 0, d)

/-- The value of the register at an offset, as endpoint `e` sees it. -/
def Dev.regValue (d : Dev) (e b : Nat) (check : Ecc) : Nat × Dev :=
  if b < 0x20000 then (d.epReg e b, d)
  else if 0x21000 ≤ b ∧ b < 0x22000 then d.cvuRead (b - 0x20000)
  else if 0x24000 ≤ b then d.rawWord (b - 0x20000) check
  else (d.glReg (b - 0x20000), d)

/-- An endpoint may not reach the register at an offset: the global window of another than the warden; a register or a cause of a
polder of another (20 R572, R573). -/
def Dev.regDenied (d : Dev) (e off : Nat) : Bool :=
  if 0x20000 ≤ off then !d.isWarden e
  else if 0x6000 ≤ off ∧ off < 0x7000 then decide (580 ≤ (off - 0x6000) / 4 ∧ (off - 0x6000) / 4 < 588) && !d.causeMine e ((off - 0x6000) / 4)
  else if 0x7800 ≤ off ∧ off < 0x7880 then !d.owns e ((off - 0x7800) / 16)
  else false

/-! ### Reads (20 R569, R570) -/

/-- A read of one dword: a register of more than 32 bits is captured with its lowest dword, or where no capture of it is held. -/
def Dev.readDword (d : Dev) (e off : Nat) (check : Ecc) : Nat × Dev :=
  if d.regDenied e off then (0, d.deny e)
  else match regAt off with
    | none => (0, d)
    | some (b, size) =>
      if size ≤ 4 then d.regValue e b check
      else match tget (d.ep e).captures none b with
        | some v => if off = b then
            let r := d.regValue e b check
            (bits r.1 0 32, r.2.modEp e (fun x => { x with captures := tset x.captures none b (some r.1) }))
          else (bits v (8 * (off - b)) 32, d)
        | none =>
          let r := d.regValue e b check
          (bits r.1 (8 * (off - b)) 32, r.2.modEp e (fun x => { x with captures := tset x.captures none b (some r.1) }))

/-- A read of BAR0 by an endpoint's host; `check` is how a word of the raw log reads (16 R486). -/
def doWideRegisterRead (ep off width : Nat) (check : Ecc) (d : Dev) : Dev :=
  if !(d.ep ep).answers || decide (0x40000 ≤ off) then d
  else if !accessOk off width then (d.modEp ep (fun x => { x with badAccess := true })).emit (.regRead ep off width 0)
  else if width < 32 then (if d.regDenied ep off then d.deny ep else d).emit (.regRead ep off width 0)
  else
    let lo := d.readDword ep off check
    if width = 32 then lo.2.emit (.regRead ep off width lo.1)
    else
      let hi := lo.2.readDword ep (off + 4) check
      hi.2.emit (.regRead ep off width (lo.1 + hi.1 * 2 ^ 32))

/-! ### Writes of global registers (20 Table 20-5 and the chapters) -/

/-- GL_CMD_ARB_WRITE: weights and minima of two endpoints a dword; OVERCOMMIT follows (02 R58). -/
def doGlCmdArbWrite (ep dword : Nat) (v : Word) (d : Dev) : Dev :=
  d.glWrite ep false fun d =>
    if 2 ≤ dword then d
    else
      let set (h : Hif) (i : Nat) : Hif :=
        { h with
          weight := tset h.weight 1 (2 * dword + i) (bits v.toNat (16 * i) 8)
          minDisp := tset h.minDisp none (2 * dword + i) (some (bits v.toNat (16 * i + 8) 7)) }
      let d := { d with hif := set (set d.hif 0) 1 }
      (List.range 4).foldl (fun (d : Dev) e => if d.present e then d.live (0x49 + 16 * e) d.overcommit else d) d

/-- GL_LRN_SWEEP_WRITE: a period written while aging stands still in FORWARDING or DRAINING starts a sweep at the next AON tick
(07 R214). -/
def doGlLrnSweepWrite (ep : Nat) (v : Word) (d : Dev) : Dev :=
  d.glWrite ep true fun d =>
    let d := { d with lrn := { d.lrn with periodS := bits v.toNat 0 12 } }
    if !d.lrn.sweeping && decide (d.lrn.periodS ≠ 0 ∧ (d.bal.mode = .forwarding ∨ d.bal.mode = .draining)) then
      let d := d.sweepStart
      { d with lrn := { d.lrn with sweepStart := d.bal.tick + 1 } }
    else d

/-- PLANE_RESTORE: a write of GL_SWC_PLANE_CTRL (09 R265, R281). -/
def doPlaneRestore (ep : Nat) (v : Word) (d : Dev) : Dev :=
  d.glWrite ep true fun d => d.planeRestore (bits v.toNat 8 4)

/-- CXL_RESTORE: a write of GL_SPW_CXL_CTRL; a lost and enabled port is to be enumerated again (11 R351, R352). -/
def doCxlRestore (ep : Nat) (v : Word) (d : Dev) : Dev :=
  d.glWrite ep true fun d =>
    let d := { d with spw := { d.spw with cxlEn := bits v.toNat 0 4 } }
    let lost := ((List.range 4).filter (fun i => (d.cxl i).lost)).foldl (fun m i => m + 2 ^ i) 0
    d.cxlAbsent.cxlAsk (bits v.toNat 4 4 &&& d.spw.cxlEn &&& lost)

/-- The GiB that the long-reach classes need. -/
def Dev.longReachNeed (d : Dev) : Nat := cdiv ((d.spw.lrqs.map (fun l => l.2.mib)).foldl (· + ·) 0) 1024

/-- GL_SPW_MAP_WRITE: a new map is accepted in PROVISIONING alone, if it fits, and applies at the next entry into FORWARDING
(11 R333). -/
def doGlSpwMapWrite (ep : Nat) (v : Word) (d : Dev) : Dev :=
  d.glWrite ep true fun d =>
    let w := v.toNat
    let l := bits w 0 7
    let t := bits w 8 6
    let r := bits w 16 7
    let m := d.spw.nextMap
    let same := decide (l = m.ledger ∧ t = m.telemetry ∧ r = m.longReach)
    let fits := decide (l ≤ 64 ∧ t ≤ 32 ∧ r ≤ 64 ∧ l + t + r + 8 ≤ 144 ∧ d.longReachNeed ≤ r) &&
      (decide (l = m.ledger) || d.mrp.flows.isEmpty)
    if same && w.testBit 31 then { d with spw := { d.spw with cfgErr := false } }
    else if decide (d.bal.mode = .provisioning) && fits then
      { d with spw := { d.spw with
        cfgErr := d.spw.cfgErr && !w.testBit 31
        nextMap := { ledger := l, telemetry := t, longReach := r, spill := 144 - l - t - r } } }
    else { d with spw := { d.spw with cfgErr := true } }

/-- EP_VEC_MAP_WRITE: VALID 0 is always stored; VALID 1 needs a vector of the cause's polder, or of a polder of the endpoint for a
cause of the endpoint as a whole or of an object without a polder (20 R573, R577). -/
def doEpVecMapWrite (ep cause : Nat) (v : Word) (d : Dev) : Dev :=
  let vec := bits v.toNat 0 9
  let free := decide (cause < 576) && (if cause < 64 then (d.cqPolder ep cause).isNone
    else if cause < 320 then (d.rxqPolder ep (cause - 64)).isNone else (d.txqPolder ep (cause - 320)).isNone)
  let put (valid : Bool) : Dev := (d.modEp ep (fun x =>
    { x with vecMap := tset x.vecMap (vecMapReset cause) cause (BitVec.ofNat 16 (vec + (if valid then 2 ^ 15 else 0))) })).msixFlush ep
  if !(d.ep ep).answers || decide (588 ≤ cause) then d
  else if !d.causeMine ep cause then d.deny ep
  else if !v.toNat.testBit 15 then put (decide (cause = 576))
  else if (if free then d.vecOwned ep vec else d.causeVec ep cause vec) then put true
  else d.deny ep

/-! ### Writes of the other registers -/

/-- The registers of a polder in its owner's window: learning, the multicast copy hold, and the tenant counters' enable (20
Table 20-3). -/
def Dev.polderRegWrite (d : Dev) (p dw w : Nat) : Dev :=
  match dw with
  | 0 =>
    let l : LrnCfg :=
      { learnEn := w.testBit 0, evictRandom := w.testBit 1, flapLimit := bits w 8 8, flapWindowMs := bits w 16 16 }
    { d with lrn := { d.lrn with cfg := tset d.lrn.cfg {} p l } }
  | 1 => { d with swc := { d.swc with mcHoldUs := tset d.swc.mcHoldUs 100 p (bits w 0 17) } }
  | 2 => { d with mrp := { d.mrp with tcEn := putBits d.mrp.tcEn p 1 (bits w 0 1) } }
  | _ => d

/-- A dword of an MSI-X table entry is written. -/
def MsixEntry.write (m : MsixEntry) (dw : Nat) (v : Word) : MsixEntry :=
  match dw with
  | 0 => { m with addr := BitVec.ofNat 64 (putBits m.addr.toNat 0 32 (v.toNat / 4 * 4)) }
  | 1 => { m with addr := BitVec.ofNat 64 (putBits m.addr.toNat 32 32 v.toNat) }
  | 2 => { m with data := v }
  | _ => { m with masked := v.toNat.testBit 0 }

/-- A write of a per-endpoint register that has no row of its own. -/
def Dev.epRegWrite (d : Dev) (e off : Nat) (v : Word) : Dev :=
  let w := v.toNat
  if off = 8 then d.modEp e (fun x =>
    { x with denied := x.denied && !w.testBit 0, gated := x.gated && !w.testBit 1, badAccess := x.badAccess && !w.testBit 2 })
  else if off = 0x10 then d.modEp e (fun x => { x with alarmSummary := BitVec.ofNat 32 (x.alarmSummary.toNat - (x.alarmSummary.toNat &&& w)) })
  else if off = 0x20 then d.modEp e (fun x => { x with resyncAddr := BitVec.ofNat 64 (putBits x.resyncAddr.toNat 0 32 w) })
  else if off = 0x24 then d.modEp e (fun x => { x with resyncAddr := BitVec.ofNat 64 (putBits x.resyncAddr.toNat 32 32 w) })
  else if 0x7000 ≤ off ∧ off < 0x7800 then
    let i := (off - 0x7000) / 4
    if i = mapVec (d.vecMap e 576) then d
    else d.modEp e (fun x => { x with vecMod := tset x.vecMod (1, 0) i (bits w 0 11, bits w 16 10) })
  else if 0x7800 ≤ off ∧ off < 0x7880 then
    if d.owns e ((off - 0x7800) / 16) ∨ off % 16 / 4 = 3 then d.polderRegWrite ((off - 0x7800) / 16) (off % 16 / 4) w
    else d.deny e
  else if 0x7900 ≤ off ∧ off < 0x7940 then
    let k := (off - 0x7900) / 4
    let m := d.ownPorts e k
    let old := bits d.lrn.noLearn (32 * k) 32
    { d with lrn := { d.lrn with noLearn := putBits d.lrn.noLearn (32 * k) 32 ((old - (old &&& m)) + (w &&& m)) } }
  else if 0x7A20 ≤ off ∧ off < 0x7A40 then
    let dw := (off - 0x7A20) / 4
    d.modEp e (fun x => { x with trace := x.trace.write dw (x.enableWord dw v) true })
  else if 0x10000 ≤ off ∧ off < 0x12000 then
    let d := d.modEp e (fun x => { x with msix := tmod x.msix {} ((off - 0x10000) / 16) (fun m => m.write (off % 16 / 4) v) })
    if off % 16 / 4 = 3 then d.msixFlush e else d
  else d

/-- A write of a global register that has no row of its own, by its offset from the window's start, by the warden. -/
def Dev.glRegWrite (d : Dev) (e off : Nat) (v : Word) : Dev :=
  let w := v.toNat
  let m (f : Dev → Dev) : Dev := d.glWrite e false f
  let c (f : Dev → Dev) : Dev := d.glWrite e true f
  if off = 0x008 then m fun d => { d with boot := { d.boot with addr := BitVec.ofNat 64 (putBits d.boot.addr.toNat 0 32 w) } }
  else if off = 0x00C then m fun d => { d with boot := { d.boot with addr := BitVec.ofNat 64 (putBits d.boot.addr.toNat 32 32 w) } }
  else if off = 0x010 then m fun d => { d with boot := { d.boot with len := v } }
  else if off = 0x020 then m fun d =>
    let old := d.bal.holdIdle
    let d := { d with bal := { d.bal with holdIdle := w.testBit 0, sleepUs := bits w 8 16 } }
    if old ≠ w.testBit 0 && d.corePowered then d.portsFollow else d
  else if off = 0x024 then m fun d => { d with bal := { d.bal with drainMs := bits w 0 16 } }
  else if off = 0x030 then m fun d => { d with bal := { d.bal with gpioCtrl := v } }
  else if off = 0x050 then m fun d => ({ d with fcr := { d.fcr with alertMin := bits w 0 3 } }).faultPins
  else if off = 0x110 then m fun d => { d with evr := { d.evr with rawPage := bits w 0 8 } }
  else if off = 0x148 then c fun d => d.tmuCfgWrite 0 v
  else if off = 0x14C then c fun d => d.tmuCfgWrite 1 v
  else if 0x180 ≤ off ∧ off < 0x1A0 then c fun d =>
    { d with spw := { d.spw with caps := tset d.spw.caps 0xFFFFFF ((off - 0x180) / 4) (bits w 0 24) } }
  else if 0x1A0 ≤ off ∧ off < 0x1C0 then c fun d =>
    { d with mrp := { d.mrp with caps := tset d.mrp.caps 0x40000000 ((off - 0x1A0) / 4) w } }
  else if 0x140 ≤ off ∧ off < 0x1C0 ∧ (regAt (0x20000 + off)).isSome then c id
  else m id

/-- A write of one dword: to the row of the register that has one, else as above. -/
def Dev.writeDword (d : Dev) (e off : Nat) (v : Word) : Dev :=
  let g := off - 0x20000
  if off < 0x20000 then
    if off = 0x28 then doEpResyncGo e v d
    else if 0x1000 ≤ off ∧ off < 0x1800 then doEpCrCfgWrite e ((off - 0x1000) / 32) (off % 32 / 4) v d
    else if 0x1800 ≤ off ∧ off < 0x2000 then doEpCqCfgWrite e ((off - 0x1800) / 32) (off % 32 / 4) v d
    else if 0x2000 ≤ off ∧ off < 0x4000 then doEpRxqCfgWrite e ((off - 0x2000) / 32) (off % 32 / 4) v d
    else if 0x4000 ≤ off ∧ off < 0x6000 then doEpTxqCfgWrite e ((off - 0x4000) / 32) (off % 32 / 4) v [] d
    else if 0x6000 ≤ off ∧ off < 0x7000 then doEpVecMapWrite e ((off - 0x6000) / 4) v d
    else if 0x7800 ≤ off ∧ off < 0x7880 ∧ off % 16 = 12 then doEpMrpRingConsWrite e ((off - 0x7800) / 16) v d
    else if 0x7A00 ≤ off ∧ off < 0x7A20 then doEpGaugeRingWrite e ((off - 0x7A00) / 4) v d
    else d.epRegWrite e off v
  else if !d.isWarden e then d.deny e
  else if g = 0x004 then (if v.toNat.testBit 0 then doGlBootCtrlGo e d else d)
  else if 0x040 ≤ g ∧ g < 0x04C then doGlCmdArbWrite e ((g - 0x040) / 4) v d
  else if g = 0x140 then doGlLrnSweepWrite e v d
  else if g = 0x144 then doPlaneRestore e v d
  else if g = 0x150 then doGlMrpCfgWrite e v d
  else if g = 0x158 then doGlSpwMapWrite e v d
  else if g = 0x160 then doCxlRestore e v d
  else if 0x1000 ≤ g ∧ g < 0x2000 then
    let n := (g - 0x1000) / 64
    if g % 64 < 0x28 then d.cvuReg (.window e) n (g % 64) v
    else if g % 64 < 0x30 then d.cvuBy (.window e) n false id
    else if g % 64 = 0x30 then doCvuDataWrite (.window e) n 15 v d
    else d
  else d.glRegWrite e g v

/-- A write of BAR0 by an endpoint's host (20 R569-R574). -/
def doSetupRegisterWrite (ep off width : Nat) (v : BitVec 64) (d : Dev) : Dev :=
  if !(d.ep ep).answers || decide (0x40000 ≤ off) then d
  else if !accessOk off width then d.modEp ep (fun x => { x with badAccess := true })
  else if width < 32 then
    if !d.isWarden ep then d.deny ep
    else doCvuDataWrite (.window ep) ((off - 0x21000) / 64) ((2 ^ (width / 8) - 1) * 2 ^ (off % 4)) (v.truncate 32) d
  else
    let d := d.writeDword ep off (v.truncate 32)
    if width = 32 then d else d.writeDword ep (off + 4) ((v >>> 32).truncate 32)

/-! ### Meanings -/

/-- GL_LRN_SWEEP_WRITE (R214). -/
def execGlLrnSweepWrite (ep : Nat) (v : Word) (s : State) : Host.Outcome State Fault Refusal :=
  .next { s with dev := doGlLrnSweepWrite ep v s.dev }

/-- PLANE_RESTORE (R265). -/
def execPlaneRestore (ep : Nat) (v : Word) (s : State) : Host.Outcome State Fault Refusal :=
  .next { s with dev := doPlaneRestore ep v s.dev }

/-- CXL_RESTORE (R351). -/
def execCxlRestore (ep : Nat) (v : Word) (s : State) : Host.Outcome State Fault Refusal :=
  .next { s with dev := doCxlRestore ep v s.dev }

/-- GL_SPW_MAP_WRITE (R333). -/
def execGlSpwMapWrite (ep : Nat) (v : Word) (s : State) : Host.Outcome State Fault Refusal :=
  .next { s with dev := doGlSpwMapWrite ep v s.dev }

/-- GL_CMD_ARB_WRITE (R58). -/
def execGlCmdArbWrite (ep : Nat) (dword : Nat) (v : Word) (s : State) : Host.Outcome State Fault Refusal :=
  .next { s with dev := doGlCmdArbWrite ep dword v s.dev }

/-- EP_VEC_MAP_WRITE (R573). -/
def execEpVecMapWrite (ep : Nat) (cause : Nat) (v : Word) (s : State) : Host.Outcome State Fault Refusal :=
  .next { s with dev := doEpVecMapWrite ep cause v s.dev }

/-- WIDE_REGISTER_READ (R570). -/
def execWideRegisterRead (ep : Nat) (off : Nat) (width : Nat) (check : Ecc) (s : State) : Host.Outcome State Fault Refusal :=
  .next { s with dev := doWideRegisterRead ep off width check s.dev }

/-- SETUP_REGISTER_WRITE (R571). -/
def execSetupRegisterWrite (ep : Nat) (off : Nat) (width : Nat) (v : BitVec 64) (s : State) : Host.Outcome State Fault Refusal :=
  .next { s with dev := doSetupRegisterWrite ep off width v s.dev }

end Sys2Proof.Machine
end

