-- ==== Sys2Proof/Machine/Checks.lean ====
section
/-! DEFINITION. The checks of a fetched descriptor (02 R45-R49, Table 2-5): check value, LOCATOR, opcode, reserved bits, mode,
scope and ownership, operands. -/
namespace Sys2Proof.Machine

/-! ### Ownership of what operands name (03 R93-R95, 02 R582, R584) -/

/-- A port that an operand names: a front-panel port of one of the caller's polders, or of none for the warden. Other values
name no front-panel port. -/
def Dev.portMine (d : Dev) (e p : Nat) : Bool :=
  if 512 ≤ p then true
  else match d.lanePolder p with
    | some q => d.owns e q
    | none => d.isWarden e

/-- A port whose counters the caller may read or clear: host ports are objects of their endpoint's polders, recirculation ports the
warden's. -/
def Dev.portCtrMine (d : Dev) (e p : Nat) : Bool :=
  if p < 512 then d.portMine e p else if p < 528 then d.isWarden e else decide (p = 528 + e)

/-- The caller may read (or clear) the counters of an object (03 Table 3-5, 13 R424). -/
def Dev.ctrMine (d : Dev) (e kind i : Nat) (read : Bool) : Bool :=
  (read && d.isWarden e) ||
  match kind with
  | 0 => d.portCtrMine e i
  | 1 => d.portCtrMine e (i / 8)
  | 2 => d.portMine e i
  | 3 => d.portMine e (i / 16)
  | 4 => d.portMine e (i / 4)
  | 10 => d.owns e i
  | 11 => decide (i = e)
  | 12 => decide (i / 64 = e)
  | 13 => decide (i % 1024 / 256 = e)
  | 14 => (d.tenantPolder i).any (d.owns e)
  | 15 => (d.weir i).any (fun w => d.owns e w.polder)
  | 16 => (d.tab tRewrite (16384 + i)).any (fun x => d.owns e x.polder)
  | 17 => d.portMine e (i / 64)
  | _ => read || d.isWarden e

/-- INDEX names an object of its KIND (13 Table 13-11). -/
def ctrIndexOk (kind i : Nat) : Bool :=
  match kind with
  | 0 => decide (i ≤ 531)
  | 1 => decide (i < 8 * 532)
  | 2 => decide (i < 512)
  | 3 => decide (i < 8192)
  | 4 => decide (i < 2048)
  | 5 => decide (i < 16)
  | 6 => decide (i < 4)
  | 7 => decide (i < 1024) && isTable (i % 256)
  | 8 => decide (i < 4)
  | 9 => decide (i < 5)
  | 10 => decide (i < 8)
  | 11 => decide (i < 4)
  | 12 => decide (i < 256)
  | 13 => decide (i < 2048)
  | 14 => decide (i < 262144)
  | 15 => decide (i < 262144)
  | 16 => decide (i < 64)
  | 17 => decide (i < 512 * 64 ∧ i % 64 < 42)
  | _ => decide (i = 0)

/-! ### Operands -/

/-- What an opcode asks of its operands: whether the caller may name the objects they name, the fields its table lists, and the
offsets of fields with whether each is broken: out of its range, or set where the action does not use it. -/
structure OpCheck where
  own : Bool := true
  fields : List Field := []
  bad : List (Nat × Bool) := []
  deriving DecidableEq, Repr

/-- Fields that an action does not use: set, they are offending (02 R581). -/
def Cmd.unused (x : Cmd) (fs : List Field) : List (Nat × Bool) := fs.map (fun f => (f.1, decide (x.fld f.1 f.2.1 f.2.2 ≠ 0)))

/-- A number outside a range, 0 being no offence where it selects a default. -/
def outside (lo hi v : Nat) : Bool := decide (v < lo ∨ hi < v)
def outsideOr0 (lo hi v : Nat) : Bool := decide (v ≠ 0) && outside lo hi v

/-- An address is not a multiple of `n`. -/
def unaligned (n v : Nat) : Bool := decide (v % n ≠ 0)

/-- Chapters 2, 17, 18: 0x00-0x05. -/
def Dev.checkGeneral (d : Dev) (e : Nat) (x : Cmd) : OpCheck :=
  match x.opcode with
  | 0x01 => { fields := [(16, 0, 64)], bad := [(1, decide (x.fld 1 0 1 = 1))] }
  | 0x02 =>
    { fields := [(16, 0, 6), (20, 0, 20)]
      bad := [(16, decide (x.fld 16 0 6 = x.ring ∧ x.fld 20 0 20 = x.pos.toNat % 2 ^ 20))] }
  | 0x03 =>
    { fields := [(16, 0, 64), (24, 0, 32), (28, 0, 8)]
      bad := [(16, unaligned 64 (x.fld 16 0 64)), (24, decide (x.fld 24 0 32 < 16384))] }
  | 0x04 =>
    let cert := decide (x.fld 16 0 1 = 1)
    { fields := [(16, 0, 1), (20, 0, 32), (24, 0, 64), (32, 0, 256)]
      bad := [(20, !cert && decide (x.fld 20 0 32 < 864)), (24, unaligned 64 (x.fld 24 0 64)), (32, cert && decide (x.fld 32 0 256 ≠ 0))] }
  | 0x05 =>
    let t := x.fld 16 0 4
    let p := x.fld 17 0 3
    if x.fld 16 4 1 = 1 then
      { own := d.isWarden e || d.owns e p || decide ((d.polder p).st = .undefined)
        fields := [(16, 0, 5), (17, 0, 3), (18, 0, 16)]
        bad := [(16, decide (t ≠ 4 ∧ t ≠ 5)), (18, decide (x.fld 18 0 16 ≠ 0))] }
    else
      { own := d.isWarden e
        fields := [(16, 0, 5), (17, 0, 3), (18, 0, 16)]
        bad := [(16, decide (t = 0 ∨ t = 2 ∨ 7 < t)), (17, decide (p ≠ 0)),
          (18, if t = 5 then decide (60000 < x.fld 18 0 16) else decide (x.fld 18 0 16 ≠ 0))] }
  | _ => {}

/-- The form of a single table command (06 R192): tables that want an index, or a key; the generation flags; the index's range. -/
def tabForms (x : Cmd) : List (Nat × Bool) :=
  let op := x.opcode
  let t := x.fld 16 0 8
  let byIndex := decide (x.fld 17 0 1 = 1)
  let keyWrite := keyed t && decide (t ≠ tTcam)
  [(16, decide (op = 0x12) && !keyed t), (16, decide (op = 0x13 ∧ t = tDefault)),
    (17, decide (op = 0x12) && byIndex), (17, byIndex && decide (t = tDefault)), (17, !byIndex && !keyed t),
    (17, decide (op = 0x10) && (if keyWrite then byIndex else !byIndex)),
    (17, decide (x.fld 17 1 1 = 1) && !versioned t),
    (17, decide (x.fld 17 2 1 = 1) && (decide (t = tDefault) || !keyed t)),
    (20, byIndex && decide (t ≠ tDefault ∧ lastIndex t ≤ x.fld 20 0 32))]

/-- What an inline record names, and what of it is out of range: its length, and its own fields at offset 32 (02 R582, 06 R192). -/
def Dev.inlineCheck (d : Dev) (mine : Option Nat → Bool) (e : Nat) (x : Cmd) : Bool × List (Nat × Bool) :=
  let t := x.fld 16 0 8
  let len := x.fld 18 0 16
  let r := x.fld 32 0 256 % 2 ^ (8 * len)
  if x.fld 17 3 1 = 0 ∨ !isTable t ∨ !lenOk t len ∨ 32 < len then (true, [])
  else if x.opcode = 0x10 then
    (d.recordMine mine e t (x.fld 20 0 32) r, [(18, decide (recLen t r ≠ len))] ++ (match recordBad t (x.fld 20 0 32) r with
      | some o => [(32 + o, true)]
      | none => []))
  else (true, [(18, decide (x.opcode = 0x13 ∧ recLen t r ≠ len))])

/-- Chapters 6, 7, 13: 0x10-0x44. -/
def Dev.checkTables (d : Dev) (e : Nat) (x : Cmd) : OpCheck :=
  match x.opcode with
  | 0x10 | 0x11 | 0x12 | 0x13 =>
    let mine (p : Option Nat) : Bool := (d.authority e).testBit (p.getD 8)
    let rec_ := d.inlineCheck mine e x
    { own := (decide (x.fld 17 0 1 = 0) || d.indexMine mine (x.fld 16 0 8) (x.fld 20 0 32) (x.fld 17 4 2)) && rec_.1
      fields := [(16, 0, 384)]
      bad := (match tabForm x with
        | some o => [(o, true)]
        | none => []) ++ tabForms x ++ rec_.2 }
  | 0x14 =>
    let t := x.fld 16 0 8
    { fields := [(16, 0, 8), (17, 1, 3), (18, 0, 16), (20, 0, 32), (24, 0, 64)]
      bad := [(16, !isTable t), (17, decide (x.fld 17 1 1 = 1) && !versioned t),
        (18, unaligned 8 (x.fld 18 0 16) || decide (x.fld 18 0 16 < 8 + recLen t 0)), (20, outside 1 1048576 (x.fld 20 0 32))] }
  | 0x15 | 0x16 =>
    let t := x.fld 16 0 8
    { fields := [(16, 0, 8), (17, 4, 2), (20, 0, 32), (24, 0, 32), (32, 0, 64), (40, 0, 32)]
      bad := [(16, !isTable t)] }
  | 0x30 => { fields := [(16, 0, 32)] }
  | 0x31 => { fields := [(16, 0, 32), (20, 0, 32)], bad := [(20, outsideOr0 1000 1000000 (x.fld 20 0 32))] }
  | 0x32 => { fields := [(16, 0, 32)] }
  | 0x40 =>
    let k := x.fld 16 0 8
    let i := x.fld 20 0 32
    let known := decide (k ≤ 18)
    let named := known && ctrIndexOk k i
    { own := !named || d.ctrMine e k i true
      fields := [(16, 0, 8), (17, 0, 2), (20, 0, 32), (24, 0, 64), (32, 0, 32)]
      bad := [(16, !known), (17, if k = 14 then decide (x.fld 17 0 2 = 3) else decide (x.fld 17 0 2 ≠ 0)),
        (20, known && !ctrIndexOk k i), (24, unaligned 64 (x.fld 24 0 64)),
        (32, named && decide (x.fld 32 0 32 < 16 + 8 * (d.ctrItems k i (x.fld 17 0 2)).length))] }
  | 0x41 =>
    let k := x.fld 16 0 8
    let i := x.fld 20 0 32
    let known := decide (k ≤ 18)
    { own := !known || !ctrIndexOk k i || d.ctrMine e k i false
      fields := [(16, 0, 8), (17, 0, 2), (20, 0, 32), (24, 0, 64), (32, 0, 32)]
      bad := [(16, !known || decide (k = 14)), (20, known && !ctrIndexOk k i)] ++ x.unused [(17, 0, 2), (24, 0, 64), (32, 0, 32)] }
  | 0x42 =>
    { own := d.owns e (x.fld 16 0 3)
      fields := [(16, 0, 3), (17, 0, 1), (20, 0, 16), (22, 0, 16)]
      bad := [(20, decide (3600 < x.fld 20 0 16)), (22, decide (3600 < x.fld 22 0 16))] }
  | 0x43 =>
    let a := x.fld 17 0 2
    let rest : List Field := [(18, 0, 3), (19, 0, 5), (24, 0, 64), (32, 0, 64)]
    { own := d.owns e (x.fld 16 0 3)
      fields := [(16, 0, 3), (17, 0, 2)] ++ rest
      bad := (17, decide (a = 3)) :: (if a = 0 then
          (if x.fld 18 0 1 = 1 then
            [(19, outside 6 20 (x.fld 19 0 5)), (24, unaligned 4096 (x.fld 24 0 64)), (32, unaligned 8 (x.fld 32 0 64))] else [])
        else if a = 3 then [] else x.unused rest) }
  | 0x44 =>
    let a := x.fld 16 0 3
    let flags : List Field := [(17, 0, 4), (18, 0, 6)]
    let rates : List Field := [(24, 0, 32), (28, 0, 32), (32, 0, 32), (36, 0, 32)]
    let rule : List Field := [(40, 0, 2), (44, 0, 32), (48, 0, 18)]
    let pol := d.polder x.polder
    let t := x.fld 48 0 18
    { own := if a < 3 then !d.foreignWeir (fun p => (d.authority e).testBit (p.getD 8)) (x.fld 20 0 18)
        else if a = 3 then decide (pol.tenantBase ≤ t ∧ t < pol.tenantBase + pol.tenantCount) else true
      fields := [(16, 0, 3)] ++ flags ++ [(20, 0, 18)] ++ rates ++ rule
      bad := (16, decide (4 < a)) ::
        (match a with
        | 0 => [(17, decide (x.fld 17 2 2 = 3)), (24, outside 1000 1600000000 (x.fld 24 0 32)),
            (28, outside (x.fld 24 0 32) 1600000000 (x.fld 28 0 32)), (32, outside 64 16777216 (x.fld 32 0 32)),
            (36, outside 64 16777216 (x.fld 36 0 32))] ++ x.unused rule
        | 1 | 2 => x.unused (flags ++ rates ++ rule)
        | 3 => x.unused (flags ++ [(20, 0, 18)] ++ rates) ++ [(44, decide (2 ^ ruleKeyBits (x.fld 40 0 2) ≤ x.fld 44 0 32))]
        | 4 => x.unused (flags ++ [(20, 0, 18)] ++ rates ++ [(48, 0, 18)]) ++
            [(44, decide (2 ^ ruleKeyBits (x.fld 40 0 2) ≤ x.fld 44 0 32))]
        | _ => []) }
  | _ => {}

/-- A maximum rate that a shaper takes (12 R369). -/
def maxRateOk (r : Nat) : Bool := decide (r = 0 ∨ r = 0xFFFFFFFF ∨ (1000 ≤ r ∧ r ≤ 1600000000))

/-- Chapter 12: 0x50-0x53. -/
def Dev.checkSched (d : Dev) (e : Nat) (x : Cmd) : OpCheck :=
  let p := x.fld 16 0 10
  let own := d.portMine e p
  match x.opcode with
  | 0x50 =>
    let a := x.fld 18 0 2
    let word (o n : Nat) : List Field := (List.range n).map (fun i => (o + 2 * i, 0, 16))
    { own := own
      fields := [(16, 0, 10), (18, 0, 2), (19, 0, 1), (20, 0, 8), (24, 0, 320)]
      bad := [(16, portBad p), (18, decide (a = 3))] ++
        (if a = 0 then [(20, decide (128 ≤ x.fld 20 0 8 ∧ x.fld 20 0 8 < 192))]
        else if a = 1 then x.unused ([(19, 0, 1), (20, 0, 8)] ++ word 24 4 ++ word 40 12)
        else if a = 2 then x.unused ([(19, 0, 1), (20, 0, 8)] ++ word 24 4 ++ word 32 16) else []) }
  | 0x51 =>
    let a := x.fld 18 0 2
    let k := x.fld 16 10 2
    let i := x.fld 16 12 4
    let smax := decide (x.fld 18 2 1 = 1)
    let smin := decide (x.fld 18 3 1 = 1)
    let mx := x.fld 20 0 32
    let mn := x.fld 28 0 32
    { own := own
      fields := [(16, 0, 16), (18, 0, 4), (20, 0, 32), (24, 0, 32), (28, 0, 32), (32, 0, 32)]
      bad := [(16, portBad p), (16, decide (k = 0 ∧ i ≠ 0 ∨ (k = 1 ∨ k = 3) ∧ 3 < i)), (16, decide (a = 0 ∧ k = 3)), (18, decide (1 < a))] ++
        (if a = 0 then
          [(18, smin && decide (k = 0)), (28, smin && smax && decide (mx ≠ 0xFFFFFFFF ∧ mx < mn))] ++
          (if smax then [(20, !maxRateOk mx), (24, outsideOr0 64 16777216 (x.fld 24 0 32))] else x.unused [(20, 0, 32), (24, 0, 32)]) ++
          (if smin then [(28, outsideOr0 1000 1600000000 mn), (32, outsideOr0 64 16777216 (x.fld 32 0 32))]
          else x.unused [(28, 0, 32), (32, 0, 32)])
        else if a = 1 then x.unused [(18, 2, 2), (20, 0, 32), (24, 0, 32), (28, 0, 32), (32, 0, 32)] else []) }
  | 0x52 =>
    let a := x.fld 18 0 2
    let list := (24, unaligned 8 (x.fld 24 0 64))
    { own := own
      fields := [(16, 0, 10), (18, 0, 2), (19, 0, 8), (20, 0, 16), (24, 0, 64), (32, 0, 48), (40, 0, 32), (44, 0, 32)]
      bad := [(16, portBad p), (18, decide (a = 3))] ++
        (match a with
        | 0 => [(19, decide (136 < x.fld 19 0 8)), (20, outside 1 1024 (x.fld 20 0 16)), list,
            (40, decide (999999999 < x.fld 40 0 32)), (44, outside 1000 1000000000 (x.fld 44 0 32))]
        | 1 => x.unused [(19, 0, 8), (20, 0, 16), (24, 0, 64), (32, 0, 48), (40, 0, 32), (44, 0, 32)]
        | 2 => list :: x.unused [(19, 0, 8), (32, 0, 48), (40, 0, 32), (44, 0, 32)]
        | _ => []) }
  | 0x53 =>
    let a := x.fld 18 0 2
    let sets : List Field := [(20, 0, 20), (24, 0, 12), (26, 0, 16), (28, 0, 2)]
    let buf := [(32, unaligned 64 (x.fld 32 0 64)), (44, decide (x.fld 44 0 32 < 192))]
    { own := decide (a = 2) || own
      fields := [(16, 0, 10), (18, 0, 2), (19, 0, 5)] ++ sets ++ [(32, 0, 64), (40, 0, 32), (44, 0, 32)]
      bad := [(16, decide (a ≠ 2) && portBad p), (18, decide (a = 3))] ++
        (match a with
        | 0 => [(24, decide (4000 < x.fld 24 0 12)), (26, decide (60000 < x.fld 26 0 16))] ++
            x.unused [(19, 0, 5), (32, 0, 64), (40, 0, 32), (44, 0, 32)]
        | 1 => (19, decide (19 < x.fld 19 0 5)) :: buf ++ x.unused (sets ++ [(40, 0, 32)])
        | 2 => buf ++ x.unused ([(16, 0, 10), (19, 0, 5)] ++ sets)
        | _ => []) }
  | _ => {}

/-- Chapters 10, 11: 0x60-0x63. -/
def Dev.checkPool (d : Dev) (e : Nat) (x : Cmd) : OpCheck :=
  let p := x.fld 16 0 10
  match x.opcode with
  | 0x60 =>
    let a := x.fld 18 0 2
    let mn := x.fld 20 0 21
    let mx := x.fld 24 0 21
    let sets : List Field := [(20, 0, 21), (24, 0, 21), (28, 0, 32), (32, 0, 16)]
    let codes := (List.range 8).any (fun c => decide (9 < x.fld 28 (4 * c) 4))
    { own := decide (533 < p) || (if a = 2 then decide (p = 528 + e) else if p < 512 then d.portMine e p else d.isWarden e)
      fields := [(16, 0, 10), (18, 0, 2)] ++ sets ++ [(36, 0, 20)]
      bad := [(16, decide (533 < p)), (18, decide (a = 3))] ++
        (match a with
        | 0 => [(20, decide (1048576 < mn)), (24, outsideOr0 mn 1048576 mx), (28, codes || decide (512 ≤ p ∧ 16 ≤ x.fld 28 0 32)),
            (32, decide (4096 < x.fld 32 0 16))] ++ x.unused [(36, 0, 20)]
        | 1 => x.unused (sets ++ [(36, 0, 20)])
        | 2 => x.unused sets
        | _ => []) }
  | 0x61 => { own := d.portMine e p, fields := [(16, 0, 10), (18, 0, 8), (20, 0, 16)], bad := [(16, portBad p)] }
  | 0x62 =>
    let a := x.fld 18 0 2
    let q := decide (a = 0 ∨ a = 2)
    let port := if q then x.fld 16 0 13 / 16 else p
    { own := d.portMine e port
      fields := [(16, 0, 13), (18, 0, 2), (19, 0, 3), (20, 0, 16), (24, 0, 24), (28, 0, 16)]
      bad := (16, !q && (portBad p || decide (x.fld 16 10 3 ≠ 0))) ::
        (match a with
        | 0 => (20, decide (0 < x.fld 20 0 16 ∧ x.fld 20 0 16 < 256)) :: x.unused [(19, 0, 3), (28, 0, 16)]
        | 1 => x.unused [(20, 0, 16), (24, 0, 24)]
        | 2 => x.unused [(19, 0, 3), (20, 0, 16), (24, 0, 24), (28, 0, 16)]
        | _ => x.unused [(20, 0, 16), (24, 0, 24), (28, 0, 16)]) }
  | 0x63 =>
    { own := d.portMine e p
      fields := [(16, 0, 10), (18, 0, 3), (19, 0, 3), (20, 0, 16), (22, 0, 16), (24, 0, 16), (26, 0, 16), (28, 0, 24), (32, 0, 128), (52, 0, 48)]
      bad := [(16, portBad p), (18, decide (1 < x.fld 18 0 2)), (22, decide (60000 < x.fld 22 0 16)), (24, decide (60000 < x.fld 24 0 16))] }
  | _ => {}

/-- Chapters 15, 16: 0x70-0x76. A reserved number names no source. -/
def Dev.checkFaults (d : Dev) (e : Nat) (x : Cmd) : OpCheck :=
  let s := x.fld 16 0 12
  let n := max 1 (x.fld 20 0 13)
  let span := decide (4096 < x.fld 20 0 13 ∨ 4096 < s + n)
  let range := (List.range (if span then 1 else n)).map (· + s)
  let acts := range.all (fun i => (defaultSeverity i).isNone || d.mayAct e i)
  match x.opcode with
  | 0x70 =>
    let a := x.fld 18 0 2
    let sev := x.fld 24 0 3
    let g := x.fld 28 0 24
    let sets : List Field := [(20, 0, 13), (24, 0, 5), (28, 0, 24)]
    { own := match a with
        | 0 => acts
        | 1 => (defaultSeverity s).isNone || d.srcVisible e s
        | _ => true
      fields := [(16, 0, 12), (18, 0, 2)] ++ sets ++ [(32, 0, 64), (40, 0, 32)]
      bad := match a with
        | 0 => [(16, range.any (fun i => (defaultSeverity i).isNone)), (20, span),
            (24, decide (4 < sev) || (decide (sev < 3) && range.any (fun i => decide (i = 0x0C0 ∨ i = 0x0C1)))),
            (28, decide (sev = 4 ∧ 1000 < g ∨ sev = 3 ∧ 16000000 < g))] ++ x.unused [(32, 0, 64), (40, 0, 32)]
        | 1 => x.unused (sets ++ [(32, 0, 64), (40, 0, 32)])
        | _ => [(32, unaligned 64 (x.fld 32 0 64)), (40, decide (x.fld 40 0 32 < (if a = 2 then 16 else 512)))] ++
            x.unused ((16, 0, 12) :: sets) }
  | 0x71 => { own := (defaultSeverity s).isNone || d.mayAct e s, fields := [(16, 0, 12)] }
  | 0x72 => { own := acts, fields := [(16, 0, 12), (18, 0, 1), (20, 0, 13)], bad := [(20, span)] }
  | 0x73 =>
    let persistent := decide (x.fld 16 0 1 = 1)
    { fields := [(16, 0, 2), (17, 0, 3), (18, 0, 16), (20, 0, 32), (24, 0, 64), (32, 0, 32)]
      bad := [(16, persistent && decide (x.fld 16 1 1 = 1)), (18, !persistent && decide (x.fld 18 0 16 ≠ 0)),
        (24, unaligned 32 (x.fld 24 0 64)), (32, decide (x.fld 32 0 32 = 0) || unaligned 32 (x.fld 32 0 32))] }
  | 0x76 =>
    { own := d.isWarden e
      fields := [(16, 0, 10), (18, 0, 1), (20, 0, 20), (24, 0, 16)]
      bad := if x.fld 18 0 1 = 0 then [(20, outside 1 1000000 (x.fld 20 0 20)), (24, decide (x.fld 24 0 16 = 0))]
        else x.unused [(20, 0, 20), (24, 0, 16)] }
  | _ => {}

/-- Chapters 3, 4: 0x80-0x92. -/
def Dev.checkPolders (d : Dev) (e : Nat) (x : Cmd) : OpCheck :=
  let p := x.fld 16 0 10
  match x.opcode with
  | 0x80 =>
    { own := d.isWarden e
      fields := [(16, 0, 64), (24, 0, 2)]
      bad := [(16, unaligned 64 (x.fld 16 0 64)), (24, decide (x.fld 24 0 2 = 3))] }
  | 0x81 =>
    { own := d.isWarden e
      fields := [(16, 0, 3), (17, 0, 3), (18, 0, 14), (20, 0, 2)]
      bad := [(17, decide (x.fld 16 0 3 = x.fld 17 0 3))] }
  | 0x82 => { own := d.isWarden e, fields := [(16, 0, 64), (24, 0, 16)], bad := [(16, unaligned 8 (x.fld 16 0 64))] }
  | 0x90 =>
    let l := x.fld 18 0 4
    let lOk := decide (l = 1 ∨ l = 2 ∨ l = 4 ∨ l = 8)
    let k := x.fld 19 0 2
    let deb := x.fld 22 0 16
    { own := (List.range (if lOk then l else 1)).all (fun i => decide (512 ≤ p + i) || d.portMine e (p + i))
      fields := [(16, 0, 10), (18, 0, 5), (19, 0, 3), (20, 0, 14), (22, 0, 16), (24, 0, 8), (25, 0, 8), (26, 0, 4), (28, 0, 16)]
      bad := [(16, decide (511 < p) || (lOk && unaligned l p)), (18, !lOk), (19, decide (k = 3 ∨ k = 2 ∧ x.fld 19 2 1 = 1)),
        (20, outsideOr0 1518 16383 (x.fld 20 0 14)), (22, decide (deb ≠ 0xFFFF ∧ 1000 < deb)),
        (24, lOk && decide (2 ^ l ≤ x.fld 24 0 8)), (25, lOk && decide (2 ^ l ≤ x.fld 25 0 8)), (26, decide (k ≠ 2 ∧ x.fld 26 0 4 ≠ 0)),
        (28, outsideOr0 100 10000 (x.fld 28 0 16))] }
  | 0x91 => { own := d.portMine e p, fields := [(16, 0, 10), (18, 0, 2)], bad := [(16, portBad p)] }
  | 0x92 =>
    let all := decide (x.fld 18 1 1 = 1)
    { own := all || d.portMine e p
      fields := [(16, 0, 10), (18, 0, 2), (20, 0, 17)]
      bad := [(16, if all then decide (p ≠ 0) else portBad p), (20, decide (100000 < x.fld 20 0 17))] }
  | _ => {}

/-- Chapters 13, 17, 18: 0xA0-0xF2. -/
def Dev.checkSystem (d : Dev) (e : Nat) (x : Cmd) : OpCheck :=
  match x.opcode with
  | 0xA0 =>
    let a := x.fld 16 0 3
    let time : List Field := [(24, 0, 48), (30, 0, 16), (32, 0, 32)]
    let mag (w o : Nat) : Nat := (signed w (x.fld o 0 w)).natAbs
    { own := d.isWarden e
      fields := [(16, 0, 4)] ++ time ++ [(40, 0, 64), (48, 0, 32)]
      bad := (16, decide (3 < a ∨ 1 < a ∧ x.fld 16 3 1 = 1)) ::
        (match a with
        | 0 => (32, decide (999999999 < x.fld 32 0 32)) :: x.unused [(40, 0, 64), (48, 0, 32)]
        | 1 => x.unused (time ++ [(48, 0, 32)])
        | 2 => (48, decide (128000000 < mag 32 48)) :: x.unused (time ++ [(40, 0, 64)])
        | 3 => (40, decide (1000000000 < mag 64 40)) :: x.unused (time ++ [(48, 0, 32)])
        | _ => []) }
  | 0xA1 => { fields := [(16, 0, 2)], bad := [(16, decide (x.fld 16 0 2 = 3))] }
  | 0xB0 =>
    let st := x.fld 16 0 2
    { own := d.isWarden e
      fields := [(16, 0, 2), (17, 0, 4), (18, 0, 1), (24, 0, 64), (32, 0, 32)]
      bad := (17, decide (st = 2 ∧ 3 < x.fld 17 0 4 ∨ st = 3 ∧ 7 < x.fld 17 0 4)) ::
        (if x.fld 18 0 1 = 0 then x.unused [(24, 0, 64), (32, 0, 32)] else []) }
  | 0xF0 =>
    let p := x.fld 16 0 10
    { own := d.isWarden e && d.portMine e p
      fields := [(16, 0, 10), (18, 0, 2)]
      bad := [(16, portBad p), (18, decide (x.fld 18 0 2 = 3))] }
  | 0xF1 => { own := d.isWarden e, fields := [(16, 0, 3)] }
  | 0xF2 =>
    let a := x.fld 18 0 2
    { own := d.isWarden e && d.portMine e (x.fld 16 0 9)
      fields := [(16, 0, 9), (18, 0, 2), (19, 0, 2)]
      bad := [(18, decide (a = 3)), (19, if a = 0 then decide (x.fld 19 0 2 = 3) else decide (x.fld 19 0 2 ≠ 0))] }
  | _ => {}

/-- What an opcode asks of its operands. -/
def Dev.opCheck (d : Dev) (e : Nat) (x : Cmd) : OpCheck :=
  if x.opcode < 0x10 then d.checkGeneral e x
  else if x.opcode < 0x50 then d.checkTables e x
  else if x.opcode < 0x60 then d.checkSched e x
  else if x.opcode < 0x70 then d.checkPool e x
  else if x.opcode < 0x80 then d.checkFaults e x
  else if x.opcode < 0xA0 then d.checkPolders e x
  else d.checkSystem e x

/-! ### Table 2-5 -/

/-- The assigned opcodes (02 Table 2-11). -/
def assigned (op : Nat) : Bool :=
  decide (op ≤ 5 ∨ (0x10 ≤ op ∧ op ≤ 0x16) ∨ (0x30 ≤ op ∧ op ≤ 0x33) ∨ (0x40 ≤ op ∧ op ≤ 0x44) ∨ (0x50 ≤ op ∧ op ≤ 0x53) ∨
    (0x60 ≤ op ∧ op ≤ 0x63) ∨ (0x70 ≤ op ∧ op ≤ 0x76) ∨ (0x80 ≤ op ∧ op ≤ 0x82) ∨ (0x90 ≤ op ∧ op ≤ 0x92) ∨ op = 0xA0 ∨ op = 0xA1 ∨
    op = 0xB0 ∨ (0xF0 ≤ op ∧ op ≤ 0xF2))

/-- The first byte of bytes 0-15 that holds a set reserved bit (02 Table 2-4). -/
def headBad (x : Cmd) : Option Nat :=
  [(1, x.fld 1 1 7), (7, x.fld 7 7 1), (13, x.fld 13 0 8), (14, x.fld 14 0 8), (15, x.fld 15 0 8)].findSome? (fun b =>
    if b.2 = 0 then none else some b.1)

/-- The offset of the first offending operand (02 R51, R581). -/
def OpCheck.offending (k : OpCheck) (x : Cmd) : Option Nat :=
  least ((k.bad.filterMap (fun b => if b.2 then some b.1 else none)) ++ (match reservedBad x.d k.fields with
    | some o => [o]
    | none => []))

/-- The LOCATOR is that of the position (02 Table 2-5, step 3). -/
def Dev.locatorOk (d : Dev) (e : Nat) (x : Cmd) : Bool :=
  decide (x.fld 4 0 20 = x.pos.toNat % 2 ^ 20 ∧ x.fld 4 20 6 = x.ring ∧ x.fld 4 26 2 = e ∧ d.crPolder e x.ring = some (x.fld 4 28 3))

/-- Steps 4 to 8. -/
def Dev.checkRest (d : Dev) (e : Nat) (x : Cmd) : Option Done :=
  let polOp := decide (x.opcode = 0x05 ∧ x.fld 16 4 1 = 1) && !opModes 0x10 d.bal.mode
  let k := d.opCheck e x
  if !assigned x.opcode then some { status := stBadOpcode }
  else match headBad x with
  | some o => some { status := stBadOperand, detail := BitVec.ofNat 32 o }
  | none =>
    if !opModes x.opcode d.bal.mode then some { status := stWrongMode }
    else if polOp then some { status := stWrongMode, detail := 0x200 }
    else if !k.own then some { status := stNotOwner }
    else match k.offending x with
    | some o =>
      let len := if x.opcode = 0x40 ∧ o = 32 then 16 + 8 * (d.ctrItems (x.fld 16 0 8) (x.fld 20 0 32) (x.fld 17 0 2)).length else 0
      some { status := stBadOperand, detail := BitVec.ofNat 32 o, r0 := BitVec.ofNat 64 len }
    | none => none

/-- A descriptor has been fetched: it is checked and takes its place among the endpoint's commands (02 R48, R49). -/
def Dev.fetched (d : Dev) (e n : Nat) (desc : Descriptor) (check : Ecc) : Dev :=
  let r := d.cr e n
  let (chk, d) := d.cvuDescriptor e desc check
  let x : Cmd :=
    { ring := n, pos := r.f, desc := desc, tagValid := decide (chk = .good), ordered := decide (bits desc.toNat 8 1 = 0), fetchTick := d.bal.tick
      auth := d.authority e }
  let counted (d : Dev) (c : Ctr) : Dev := (d.bump c (64 * e + n)).liveCount (0x45 + 16 * e) 16 (optMask (d.crPolder e n))
  let (o, d) : Option Done × Dev := match chk with
    | .badField => (some { status := stCheckField }, counted d .checkFieldCorrupt)
    | .badData => (some { status := stBadCheck }, counted d .badCheck)
    | .good => if !d.locatorOk e x then (some { status := stBadSequence }, counted d .badSequence) else (d.checkRest e x, d)
  let x := match o with
    | some y => { x with ordered := true, outcome := some y }
    | none => x
  (d.modCr e n (fun r => { r with f := r.f + 1 })).modEp e (fun y => { y with cmds := y.cmds ++ [x] })

/-- DESCRIPTOR_FETCH_RETURN: the oldest fetch of a ring returns its 64 bytes, or an error, which stops the ring: its later fetches
are given up (02 R44, R45, R48). -/
def doDescriptorFetchReturn (ep ring : Nat) (desc : Option Descriptor) (check : Ecc) (d : Dev) : Dev :=
  let r := d.cr ep ring
  if !(d.ep ep).up || decide (r.issued = r.f) then d
  else match desc with
    | some x => d.fetched ep ring x check
    | none =>
      let d := d.modCr ep ring (fun r => { r with issued := r.f })
      if r.st ≠ .active then d
      else ((d.modCr ep ring (fun r => { r with st := .stopped, stop := some .fetch })).ringStopped ep 0 ring 1
        r.p.toNat r.f.toNat (d.crPolder ep ring)).epRefresh ep

/-! ### Meanings -/

/-- DESCRIPTOR_FETCH_RETURN (R48). -/
def execDescriptorFetchReturn (ep : Nat) (ring : Nat) (desc : Option Descriptor) (check : Ecc) (s : State) : Host.Outcome State Fault Refusal :=
  .next { s with dev := doDescriptorFetchReturn ep ring desc check s.dev }

end Sys2Proof.Machine
end

