-- ==== Sys2Proof/Machine/Dispatch.lean ====
section
/-! DEFINITION. The dispatch of commands to their meanings, one arm per constructor. -/
namespace Sys2Proof.Machine

def exec (i : Instr) (s : State) : Host.Outcome State Fault Refusal :=
  match i with
  | .opNop c io => Sys2Proof.Machine.execOpNop c io s
  | .opFence c io => Sys2Proof.Machine.execOpFence c io s
  | .opAbort c io => Sys2Proof.Machine.execOpAbort c io s
  | .opSurvey c io => Sys2Proof.Machine.execOpSurvey c io s
  | .opAttestReport c io => Sys2Proof.Machine.execOpAttestReport c io s
  | .opAttestCert c io => Sys2Proof.Machine.execOpAttestCert c io s
  | .opModeSetDevice c io => Sys2Proof.Machine.execOpModeSetDevice c io s
  | .opModeSetPolder c io => Sys2Proof.Machine.execOpModeSetPolder c io s
  | .opTableWrite c io => Sys2Proof.Machine.execOpTableWrite c io s
  | .opTableRead c io => Sys2Proof.Machine.execOpTableRead c io s
  | .opTableSearch c io => Sys2Proof.Machine.execOpTableSearch c io s
  | .opTableDelete c io => Sys2Proof.Machine.execOpTableDelete c io s
  | .opTableBulk c io => Sys2Proof.Machine.execOpTableBulk c io s
  | .opTableAudit c io => Sys2Proof.Machine.execOpTableAudit c io s
  | .opTableScan c io => Sys2Proof.Machine.execOpTableScan c io s
  | .opGenOpen c io => Sys2Proof.Machine.execOpGenOpen c io s
  | .opGenCommit c io => Sys2Proof.Machine.execOpGenCommit c io s
  | .opGenDiscard c io => Sys2Proof.Machine.execOpGenDiscard c io s
  | .opGenStatus c io => Sys2Proof.Machine.execOpGenStatus c io s
  | .opCounterRead c io => Sys2Proof.Machine.execOpCounterRead c io s
  | .opCounterClear c io => Sys2Proof.Machine.execOpCounterClear c io s
  | .opLedgerConfig c io => Sys2Proof.Machine.execOpLedgerConfig c io s
  | .opLedgerExportSetSet c io => Sys2Proof.Machine.execOpLedgerExportSetSet c io s
  | .opLedgerExportSetRead c io => Sys2Proof.Machine.execOpLedgerExportSetRead c io s
  | .opLedgerExportSetFlush c io => Sys2Proof.Machine.execOpLedgerExportSetFlush c io s
  | .opMeterSetWeirSet c io => Sys2Proof.Machine.execOpMeterSetWeirSet c io s
  | .opMeterSetWeirRead c io => Sys2Proof.Machine.execOpMeterSetWeirRead c io s
  | .opMeterSetWeirDelete c io => Sys2Proof.Machine.execOpMeterSetWeirDelete c io s
  | .opMeterSetRuleSet c io => Sys2Proof.Machine.execOpMeterSetRuleSet c io s
  | .opMeterSetRuleDelete c io => Sys2Proof.Machine.execOpMeterSetRuleDelete c io s
  | .opSchedSetSet c io => Sys2Proof.Machine.execOpSchedSetSet c io s
  | .opSchedSetSetMc c io => Sys2Proof.Machine.execOpSchedSetSetMc c io s
  | .opSchedSetRead c io => Sys2Proof.Machine.execOpSchedSetRead c io s
  | .opShaperSetSet c io => Sys2Proof.Machine.execOpShaperSetSet c io s
  | .opShaperSetRead c io => Sys2Proof.Machine.execOpShaperSetRead c io s
  | .opTideTableSetSet c io => Sys2Proof.Machine.execOpTideTableSetSet c io s
  | .opTideTableSetDisable c io => Sys2Proof.Machine.execOpTideTableSetDisable c io s
  | .opTideTableSetRead c io => Sys2Proof.Machine.execOpTideTableSetRead c io s
  | .opGaugeSetSet c io => Sys2Proof.Machine.execOpGaugeSetSet c io s
  | .opGaugeSetRead c io => Sys2Proof.Machine.execOpGaugeSetRead c io s
  | .opGaugeSetArchiveRead c io => Sys2Proof.Machine.execOpGaugeSetArchiveRead c io s
  | .opPoolSetSet c io => Sys2Proof.Machine.execOpPoolSetSet c io s
  | .opPoolSetRead c io => Sys2Proof.Machine.execOpPoolSetRead c io s
  | .opPoolSetRelease c io => Sys2Proof.Machine.execOpPoolSetRelease c io s
  | .opHeadroomSet c io => Sys2Proof.Machine.execOpHeadroomSet c io s
  | .opPfcSet c io => Sys2Proof.Machine.execOpPfcSet c io s
  | .opSpillSetQueue c io => Sys2Proof.Machine.execOpSpillSetQueue c io s
  | .opSpillSetLongReach c io => Sys2Proof.Machine.execOpSpillSetLongReach c io s
  | .opSpillSetReadQueue c io => Sys2Proof.Machine.execOpSpillSetReadQueue c io s
  | .opSpillSetReadLr c io => Sys2Proof.Machine.execOpSpillSetReadLr c io s
  | .opFaultConfigSet c io => Sys2Proof.Machine.execOpFaultConfigSet c io s
  | .opFaultConfigRead c io => Sys2Proof.Machine.execOpFaultConfigRead c io s
  | .opFaultConfigHistory c io => Sys2Proof.Machine.execOpFaultConfigHistory c io s
  | .opFaultConfigLatched c io => Sys2Proof.Machine.execOpFaultConfigLatched c io s
  | .opFaultAck c io => Sys2Proof.Machine.execOpFaultAck c io s
  | .opFaultClear c io => Sys2Proof.Machine.execOpFaultClear c io s
  | .opLogRead c io => Sys2Proof.Machine.execOpLogRead c io s
  | .opLogFreeze c io => Sys2Proof.Machine.execOpLogFreeze c io s
  | .opLogThaw c io => Sys2Proof.Machine.execOpLogThaw c io s
  | .opLogRateSetSet c io => Sys2Proof.Machine.execOpLogRateSetSet c io s
  | .opLogRateSetRead c io => Sys2Proof.Machine.execOpLogRateSetRead c io s
  | .opPolderDefineDefine c io => Sys2Proof.Machine.execOpPolderDefineDefine c io s
  | .opPolderDefineModify c io => Sys2Proof.Machine.execOpPolderDefineModify c io s
  | .opPolderDefineUndefine c io => Sys2Proof.Machine.execOpPolderDefineUndefine c io s
  | .opSluiceSet c io => Sys2Proof.Machine.execOpSluiceSet c io s
  | .opWardenHandover c io => Sys2Proof.Machine.execOpWardenHandover c io s
  | .opPortConfig c io => Sys2Proof.Machine.execOpPortConfig c io s
  | .opPortStateRead c io => Sys2Proof.Machine.execOpPortStateRead c io s
  | .opPortStateAdminUp c io => Sys2Proof.Machine.execOpPortStateAdminUp c io s
  | .opPortStateAdminDown c io => Sys2Proof.Machine.execOpPortStateAdminDown c io s
  | .opPortStateRetrain c io => Sys2Proof.Machine.execOpPortStateRetrain c io s
  | .opPortHoldSet c io => Sys2Proof.Machine.execOpPortHoldSet c io s
  | .opTimeSetSet c io => Sys2Proof.Machine.execOpTimeSetSet c io s
  | .opTimeSetStep c io => Sys2Proof.Machine.execOpTimeSetStep c io s
  | .opTimeSetFreq c io => Sys2Proof.Machine.execOpTimeSetFreq c io s
  | .opTimeSetSlew c io => Sys2Proof.Machine.execOpTimeSetSlew c io s
  | .opTimeCapture c io => Sys2Proof.Machine.execOpTimeCapture c io s
  | .opStoreReload c io => Sys2Proof.Machine.execOpStoreReload c io s
  | .opDiagLoopback c io => Sys2Proof.Machine.execOpDiagLoopback c io s
  | .opDiagBist c io => Sys2Proof.Machine.execOpDiagBist c io s
  | .opDiagPrbsStart c io => Sys2Proof.Machine.execOpDiagPrbsStart c io s
  | .opDiagPrbsRead c io => Sys2Proof.Machine.execOpDiagPrbsRead c io s
  | .opDiagPrbsStop c io => Sys2Proof.Machine.execOpDiagPrbsStop c io s
  | .commandRingDoorbell e n v parity => Sys2Proof.Machine.execCommandRingDoorbell e n v parity s
  | .completionRingDoorbell e n v parity => Sys2Proof.Machine.execCompletionRingDoorbell e n v parity s
  | .receiveQueueDoorbell e q v parity => Sys2Proof.Machine.execReceiveQueueDoorbell e q v parity s
  | .transmitQueueDoorbell e q v parity => Sys2Proof.Machine.execTransmitQueueDoorbell e q v parity s
  | .strayDoorbell ep off width v => Sys2Proof.Machine.execStrayDoorbell ep off width v s
  | .descriptorFetch e => Sys2Proof.Machine.execDescriptorFetch e s
  | .descriptorFetchReturn ep ring desc check => Sys2Proof.Machine.execDescriptorFetchReturn ep ring desc check s
  | .commandDispatch => Sys2Proof.Machine.execCommandDispatch s
  | .commandCommit c => Sys2Proof.Machine.execCommandCommit c s
  | .completionWrite e n => Sys2Proof.Machine.execCompletionWrite e n s
  | .endpointDown ep cause => Sys2Proof.Machine.execEndpointDown ep cause s
  | .epCrCfgWrite e n dword v => Sys2Proof.Machine.execEpCrCfgWrite e n dword v s
  | .epCqCfgWrite e n dword v => Sys2Proof.Machine.execEpCqCfgWrite e n dword v s
  | .epRxqCfgWrite ep q dword v => Sys2Proof.Machine.execEpRxqCfgWrite ep q dword v s
  | .epTxqCfgWrite ep q dword v eops => Sys2Proof.Machine.execEpTxqCfgWrite ep q dword v eops s
  | .ringDisableDone e n => Sys2Proof.Machine.execRingDisableDone e n s
  | .epResyncGo ep v => Sys2Proof.Machine.execEpResyncGo ep v s
  | .resyncDone ep err => Sys2Proof.Machine.execResyncDone ep err s
  | .rxFrameDelivery ep posted err => Sys2Proof.Machine.execRxFrameDelivery ep posted err s
  | .rxQueueStarved ep q => Sys2Proof.Machine.execRxQueueStarved ep q s
  | .txFrameFetch ep descs bytes => Sys2Proof.Machine.execTxFrameFetch ep descs bytes s
  | .msixMessage e v => Sys2Proof.Machine.execMsixMessage e v s
  | .msixDelayExpiry e v => Sys2Proof.Machine.execMsixDelayExpiry e v s
  | .msixUnmask e what => Sys2Proof.Machine.execMsixUnmask e what s
  | .sofPreIndication port frame => Sys2Proof.Machine.execSofPreIndication port frame s
  | .headerWindowComplete pipe wire flaws upper => Sys2Proof.Machine.execHeaderWindowComplete pipe wire flaws upper s
  | .frameLastByte pid fcsOk fec => Sys2Proof.Machine.execFrameLastByte pid fcsOk fec s
  | .cellWriteCrossing ready => Sys2Proof.Machine.execCellWriteCrossing ready s
  | .writeConfirm cell => Sys2Proof.Machine.execWriteConfirm cell s
  | .confirmTimeout pid => Sys2Proof.Machine.execConfirmTimeout pid s
  | .cellArrivalEgress k how => Sys2Proof.Machine.execCellArrivalEgress k how s
  | .reseqGapTimeout pipe stream => Sys2Proof.Machine.execReseqGapTimeout pipe stream s
  | .dispatchDecision pipe flaws => Sys2Proof.Machine.execDispatchDecision pipe flaws s
  | .rewriteLengthCharge port => Sys2Proof.Machine.execRewriteLengthCharge port s
  | .frameTransmitEnd port => Sys2Proof.Machine.execFrameTransmitEnd port s
  | .txUnderrun port => Sys2Proof.Machine.execTxUnderrun port s
  | .mcCopyHoldDrop port m => Sys2Proof.Machine.execMcCopyHoldDrop port m s
  | .cellRelease party cell acct parity => Sys2Proof.Machine.execCellRelease party cell acct parity s
  | .freeListRefill list check => Sys2Proof.Machine.execFreeListRefill list check s
  | .orphanSweepVisit check => Sys2Proof.Machine.execOrphanSweepVisit check s
  | .freelistRebuildDone list => Sys2Proof.Machine.execFreelistRebuildDone list s
  | .accountRebuildDone acct => Sys2Proof.Machine.execAccountRebuildDone acct s
  | .holdBusNotice port cls => Sys2Proof.Machine.execHoldBusNotice port cls s
  | .pfcFrameSend port => Sys2Proof.Machine.execPfcFrameSend port s
  | .pfcRefresh port => Sys2Proof.Machine.execPfcRefresh port s
  | .pfcFrameReceive port vector times => Sys2Proof.Machine.execPfcFrameReceive port vector times s
  | .pauseFrameReceive port time => Sys2Proof.Machine.execPauseFrameReceive port time s
  | .macControlReceive port opcode => Sys2Proof.Machine.execMacControlReceive port opcode s
  | .pauseTimerExpiry port cls => Sys2Proof.Machine.execPauseTimerExpiry port cls s
  | .pauseStorm port queue => Sys2Proof.Machine.execPauseStorm port queue s
  | .pauseBreakEnd port queue => Sys2Proof.Machine.execPauseBreakEnd port queue s
  | .linkLossDeclared port cause lane held => Sys2Proof.Machine.execLinkLossDeclared port cause lane held s
  | .laneRecheck l gone => Sys2Proof.Machine.execLaneRecheck l gone s
  | .linkUp port => Sys2Proof.Machine.execLinkUp port s
  | .holdExpiry port => Sys2Proof.Machine.execHoldExpiry port s
  | .realignTimeout port => Sys2Proof.Machine.execRealignTimeout port s
  | .trainingTimeout port phase => Sys2Proof.Machine.execTrainingTimeout port phase s
  | .trainingRestart port => Sys2Proof.Machine.execTrainingRestart port s
  | .macroPowerUpDone octal failed => Sys2Proof.Machine.execMacroPowerUpDone octal failed s
  | .queueFlushDone port => Sys2Proof.Machine.execQueueFlushDone port s
  | .adaptationSlice engine => Sys2Proof.Machine.execAdaptationSlice engine s
  | .pipelineSleepEntry pipe => Sys2Proof.Machine.execPipelineSleepEntry pipe s
  | .pipelineWake pipe late => Sys2Proof.Machine.execPipelineWake pipe late s
  | .learnEventPass => Sys2Proof.Machine.execLearnEventPass s
  | .learnEventApply quad check draw => Sys2Proof.Machine.execLearnEventApply quad check draw s
  | .learnApplyLag quad => Sys2Proof.Machine.execLearnApplyLag quad s
  | .relocationMove quad table path => Sys2Proof.Machine.execRelocationMove quad table path s
  | .agingVisit quad => Sys2Proof.Machine.execAgingVisit quad s
  | .glLrnSweepWrite ep v => Sys2Proof.Machine.execGlLrnSweepWrite ep v s
  | .genDrainDone => Sys2Proof.Machine.execGenDrainDone s
  | .retirementTimerExpiry => Sys2Proof.Machine.execRetirementTimerExpiry s
  | .syncSweepDone => Sys2Proof.Machine.execSyncSweepDone s
  | .planeFailure plane pipe cause => Sys2Proof.Machine.execPlaneFailure plane pipe cause s
  | .planeRemoved plane => Sys2Proof.Machine.execPlaneRemoved plane s
  | .planeSelfCheck plane ok => Sys2Proof.Machine.execPlaneSelfCheck plane ok s
  | .planeRestore ep v => Sys2Proof.Machine.execPlaneRestore ep v s
  | .planeBistDone plane ok => Sys2Proof.Machine.execPlaneBistDone plane ok s
  | .basinWriteComplete backlog => Sys2Proof.Machine.execBasinWriteComplete backlog s
  | .basinReadComplete k n err => Sys2Proof.Machine.execBasinReadComplete k n err s
  | .segmentWalkerReturn => Sys2Proof.Machine.execSegmentWalkerReturn s
  | .lrqReturn port cls err => Sys2Proof.Machine.execLrqReturn port cls err s
  | .cxlPortLoss port cause => Sys2Proof.Machine.execCxlPortLoss port cause s
  | .cxlRestore ep v => Sys2Proof.Machine.execCxlRestore ep v s
  | .cxlEnumeration port => Sys2Proof.Machine.execCxlEnumeration port s
  | .cxlEnumerationDone port failed capMib width rate => Sys2Proof.Machine.execCxlEnumerationDone port failed capMib width rate s
  | .basinAudit seg => Sys2Proof.Machine.execBasinAudit seg s
  | .hbmStackFailure stack => Sys2Proof.Machine.execHbmStackFailure stack s
  | .glSpwMapWrite ep v => Sys2Proof.Machine.execGlSpwMapWrite ep v s
  | .shaperRefillSweep bucket => Sys2Proof.Machine.execShaperRefillSweep bucket s
  | .shaperWheelFire bucket => Sys2Proof.Machine.execShaperWheelFire bucket s
  | .coarseWheelSlot pipe slot => Sys2Proof.Machine.execCoarseWheelSlot pipe slot s
  | .tideCctReached port => Sys2Proof.Machine.execTideCctReached port s
  | .tideGateChange port => Sys2Proof.Machine.execTideGateChange port s
  | .tideListEcc port entry => Sys2Proof.Machine.execTideListEcc port entry s
  | .gaugeSample port => Sys2Proof.Machine.execGaugeSample port s
  | .gaugeIntervalEnd port => Sys2Proof.Machine.execGaugeIntervalEnd port s
  | .epGaugeRingWrite ep dword v => Sys2Proof.Machine.execEpGaugeRingWrite ep dword v s
  | .epochEnd => Sys2Proof.Machine.execEpochEnd s
  | .bankFreeze polder => Sys2Proof.Machine.execBankFreeze polder s
  | .minuteRecordWrite polder => Sys2Proof.Machine.execMinuteRecordWrite polder s
  | .epMrpRingConsWrite ep polder v => Sys2Proof.Machine.execEpMrpRingConsWrite ep polder v s
  | .combinedUpdate k bad => Sys2Proof.Machine.execCombinedUpdate k bad s
  | .ledgerMiss bad evict => Sys2Proof.Machine.execLedgerMiss bad evict s
  | .ledgerWalkerVisit slot bad => Sys2Proof.Machine.execLedgerWalkerVisit slot bad s
  | .weirExchange => Sys2Proof.Machine.execWeirExchange s
  | .weirHoldRelease weir port cls => Sys2Proof.Machine.execWeirHoldRelease weir port cls s
  | .ppsOutEdge => Sys2Proof.Machine.execPpsOutEdge s
  | .ppsInEdge => Sys2Proof.Machine.execPpsInEdge s
  | .atPpsTimeout => Sys2Proof.Machine.execAtPpsTimeout s
  | .timeRefLoss => Sys2Proof.Machine.execTimeRefLoss s
  | .slewComplete => Sys2Proof.Machine.execSlewComplete s
  | .glMrpCfgWrite ep v => Sys2Proof.Machine.execGlMrpCfgWrite ep v s
  | .faultReport => Sys2Proof.Machine.execFaultReport s
  | .graceTimerExpiry src => Sys2Proof.Machine.execGraceTimerExpiry src s
  | .criticalGraceExpiry src => Sys2Proof.Machine.execCriticalGraceExpiry src s
  | .faultRetryResult src passed => Sys2Proof.Machine.execFaultRetryResult src passed s
  | .tourbillonVisit sweeper mem inst addr check weak args => Sys2Proof.Machine.execTourbillonVisit sweeper mem inst addr check weak args s
  | .recordAdmit check => Sys2Proof.Machine.execRecordAdmit check s
  | .suppressionSummary slot => Sys2Proof.Machine.execSuppressionSummary slot s
  | .logFreezeLimit => Sys2Proof.Machine.execLogFreezeLimit s
  | .holdingFifoDrain check => Sys2Proof.Machine.execHoldingFifoDrain check s
  | .persistentPageProgram n ok => Sys2Proof.Machine.execPersistentPageProgram n ok s
  | .flashSectorErase sector ok => Sys2Proof.Machine.execFlashSectorErase sector ok s
  | .hourmark => Sys2Proof.Machine.execHourmark s
  | .powerOnScanDone sectors hours => Sys2Proof.Machine.execPowerOnScanDone sectors hours s
  | .porNDeassert straps broken => Sys2Proof.Machine.execPorNDeassert straps broken s
  | .porNAssert => Sys2Proof.Machine.execPorNAssert s
  | .sysRstN => Sys2Proof.Machine.execSysRstN s
  | .loadStart flash => Sys2Proof.Machine.execLoadStart flash s
  | .glBootCtrlGo ep => Sys2Proof.Machine.execGlBootCtrlGo ep s
  | .imageRejected src cause version => Sys2Proof.Machine.execImageRejected src cause version s
  | .imageLoadAccepted src img tables fuseBad => Sys2Proof.Machine.execImageLoadAccepted src img tables fuseBad s
  | .corePllLockTimeout => Sys2Proof.Machine.execCorePllLockTimeout s
  | .corePllLockLoss => Sys2Proof.Machine.execCorePllLockLoss s
  | .ref100Loss => Sys2Proof.Machine.execRef100Loss s
  | .thermalTrip temps => Sys2Proof.Machine.execThermalTrip temps s
  | .thermNCrossing temps => Sys2Proof.Machine.execThermNCrossing temps s
  | .calibrationPass temps => Sys2Proof.Machine.execCalibrationPass temps s
  | .avsWrite mv confirm => Sys2Proof.Machine.execAvsWrite mv confirm s
  | .avsConfirmTimeout => Sys2Proof.Machine.execAvsConfirmTimeout s
  | .drainComplete => Sys2Proof.Machine.execDrainComplete s
  | .drainLimitExpiry => Sys2Proof.Machine.execDrainLimitExpiry s
  | .regulatorTrap r word kind => Sys2Proof.Machine.execRegulatorTrap r word kind s
  | .regulatorStoreUe adp k word lasting => Sys2Proof.Machine.execRegulatorStoreUe adp k word lasting s
  | .cvuDataWrite who ctx enables v => Sys2Proof.Machine.execCvuDataWrite who ctx enables v s
  | .cvuStart who ctx v => Sys2Proof.Machine.execCvuStart who ctx v s
  | .cvuCompare who ctx v => Sys2Proof.Machine.execCvuCompare who ctx v s
  | .cvuSlice check => Sys2Proof.Machine.execCvuSlice check s
  | .glCmdArbWrite ep dword v => Sys2Proof.Machine.execGlCmdArbWrite ep dword v s
  | .epVecMapWrite ep cause v => Sys2Proof.Machine.execEpVecMapWrite ep cause v s
  | .wideRegisterRead ep off width check => Sys2Proof.Machine.execWideRegisterRead ep off width check s
  | .setupRegisterWrite ep off width v => Sys2Proof.Machine.execSetupRegisterWrite ep off width v s
  | .smbusSummary pec => Sys2Proof.Machine.execSmbusSummary pec s
  | .smbusTempMax pec => Sys2Proof.Machine.execSmbusTempMax pec s
  | .smbusTempAll pec => Sys2Proof.Machine.execSmbusTempAll pec s
  | .smbusRails pec => Sys2Proof.Machine.execSmbusRails pec s
  | .smbusIdentity pec => Sys2Proof.Machine.execSmbusIdentity pec s
  | .smbusTokenLoad data pec => Sys2Proof.Machine.execSmbusTokenLoad data pec s
  | .smbusTokenApply pec => Sys2Proof.Machine.execSmbusTokenApply pec s
  | .smbusTokenStatus pec => Sys2Proof.Machine.execSmbusTokenStatus pec s
  | .smbusStallTimeout => Sys2Proof.Machine.execSmbusStallTimeout s
  | .ledFrame => Sys2Proof.Machine.execLedFrame s
  | .tapInstruction code => Sys2Proof.Machine.execTapInstruction code s
  | .endpointUp ep => Sys2Proof.Machine.execEndpointUp ep s
  | .anMismatch port page => Sys2Proof.Machine.execAnMismatch port page s
  | .timeRefReturn => Sys2Proof.Machine.execTimeRefReturn s
  | .ref100Return => Sys2Proof.Machine.execRef100Return s
  | .serdesRefLoss => Sys2Proof.Machine.execSerdesRefLoss s
  | .serdesRefReturn => Sys2Proof.Machine.execSerdesRefReturn s
  | .mgmtPllLockLoss => Sys2Proof.Machine.execMgmtPllLockLoss s
  | .railOutOfTolerance rail mv => Sys2Proof.Machine.execRailOutOfTolerance rail mv s
  | .memMarginBroken mem core => Sys2Proof.Machine.execMemMarginBroken mem core s
  | .liveWindowExpiry src => Sys2Proof.Machine.execLiveWindowExpiry src s

end Sys2Proof.Machine
end

