-- ==== Sys2Proof/Safety.lean ====
section
/-! DEFINITION. The terms of the claims: a command on an engine, what a step of it leaves, the parts of the device and what a
command leaves alone, and the safe run, which no fault and no refusal ends. -/
namespace Sys2Proof.Machine

/-- The command that a reference names is on an engine, nothing has ended it, and no OP_ABORT has marked it. -/
def Dev.isRunning (d : Dev) (c : CmdRef) (x : Cmd) : Prop :=
  d.cmd? c = some x ∧ x.executing = true ∧ x.outcome = none ∧ x.marked = false

/-- The outcome that the command has, if it has ended. -/
def Dev.outcomeOf (d : Dev) (c : CmdRef) : Option Done := (d.cmd? c).bind Cmd.outcome

/-- A command has ended in one more step, with an outcome, and left its engine (02 R57). -/
def Dev.ended (d : Dev) (c : CmdRef) (x : Cmd) (o : Done) : Prop :=
  d.cmd? c = some { x with executing := false, steps := x.steps + 1, outcome := some o }

/-- ST_OK with its results. -/
def okDone (r0 : Nat := 0) (r1 : Nat := 0) (detail : Nat := 0) : Done :=
  { status := stOk, r0 := BitVec.ofNat 64 r0, r1 := BitVec.ofNat 64 r1, detail := BitVec.ofNat 32 detail }

/-- Another status with its detail. -/
def failDone (st : Nat) (detail : Nat := 0) : Done := { status := st, detail := BitVec.ofNat 32 detail }

/-- The parts of the device: its blocks, the counters, the serial number of free values, and what has left it. -/
inductive Area where
  | bal | hif | plc | fcr | evr | otp | boot | reg | pipes | tmu | pte | pse | rle | lrn | dp | swc | bpm | fcps | spw | esc | mrp | cvu
  | ctrs | freeSeq | out
  deriving DecidableEq, Repr

/-- A part stands in `e` as it does in `d`. -/
def Area.same : Area → Dev → Dev → Prop
  | .bal, d, e => e.bal = d.bal
  | .hif, d, e => e.hif = d.hif
  | .plc, d, e => e.plc = d.plc
  | .fcr, d, e => e.fcr = d.fcr
  | .evr, d, e => e.evr = d.evr
  | .otp, d, e => e.otp = d.otp
  | .boot, d, e => e.boot = d.boot
  | .reg, d, e => e.reg = d.reg
  | .pipes, d, e => e.pipes = d.pipes
  | .tmu, d, e => e.tmu = d.tmu
  | .pte, d, e => e.pte = d.pte
  | .pse, d, e => e.pse = d.pse
  | .rle, d, e => e.rle = d.rle
  | .lrn, d, e => e.lrn = d.lrn
  | .dp, d, e => e.dp = d.dp
  | .swc, d, e => e.swc = d.swc
  | .bpm, d, e => e.bpm = d.bpm
  | .fcps, d, e => e.fcps = d.fcps
  | .spw, d, e => e.spw = d.spw
  | .esc, d, e => e.esc = d.esc
  | .mrp, d, e => e.mrp = d.mrp
  | .cvu, d, e => e.cvu = d.cvu
  | .ctrs, d, e => e.ctrs = d.ctrs
  | .freeSeq, d, e => e.freeSeq = d.freeSeq
  | .out, d, e => e.out = d.out

/-- From `s` to `t` the queue stands, and every part of the device but those listed. -/
def onlyIn (ps : List Area) (s t : State) : Prop :=
  t.pending = s.pending ∧ ∀ p, p ∉ ps → p.same s.dev t.dev

/-- From `s` to `t` the fetched commands stand but for the record of one of them, which keeps its ring and its position, and every
command ring and completion ring of every endpoint stands. -/
def ownCommandOnly (c : CmdRef) (s t : State) : Prop :=
  ∃ f : Cmd → Cmd, (∀ y, names c (f y) = names c y) ∧ ∀ e,
    (t.dev.ep e).cmds = (if e = c.ep then (s.dev.ep e).cmds.map (fun y => if names c y then f y else y) else (s.dev.ep e).cmds) ∧
    (t.dev.ep e).crs = (s.dev.ep e).crs ∧ (t.dev.ep e).cqs = (s.dev.ep e).cqs

/-- The command that an abort has marked does not end but as aborted, with one step more than before (02 R71). -/
def endsAborted (c : CmdRef) (s t : State) : Prop :=
  ∀ x y, s.dev.cmd? c = some x → x.executing = true → x.outcome = none → x.marked = true → t.dev.cmd? c = some y →
    y.outcome = none ∨ y.outcome = some (abortedDone (x.steps + 1))

/-- The Balance domain's part in the invariants: the warden is an endpoint that the bifurcation strap makes present, and CHALLENGE
is not 0 while POR_N stands deasserted (03 R105, R110). -/
def WardenStands (d : Dev) : Prop := d.present d.plc.warden = true ∧ (d.bal.porN = true → d.plc.challenge ≠ 0)

/-- The running register of every check-value context is cut to the width of its algorithm: the bits above read 0 (14 R430). -/
def RunsFit (d : Dev) : Prop := ∀ n, (d.cvuCtx n).run.toNat < 2 ^ cvuWidth (d.cvuCtx n).runAlg

/-- A safe step: it answers a next state. -/
def Safe (s : State) : Prop := ∃ t, step s = .next t

end Sys2Proof.Machine
end

