-- ==== Sys2Proof/Certificates/Slice0/Obligations.lean ====
section
/-! DEFINITION. The statements about the ZJ1024, for the provers: completion and effects by family, frames, the queue of commands
and the invariants of a step. -/
set_option maxRecDepth 4000
open Sys2Proof Sys2Proof.Machine

/-- A command on an engine of one of the four opcodes that act on commands or report state completes: OP_NOP returns the AON
tick of its commit; OP_FENCE commits at its first step where every earlier position of the rings it names has committed, and
otherwise records P of each and goes on; OP_ABORT marks a target that waits for an engine, which commits with the steps
finished; OP_SURVEY writes the summary of the caller's scope and returns its number (02 R56, R69, R71, R73). -/
def Obligations.OrderingCommandsComplete : Prop :=
  ∀ (s : State) (c : CmdRef) (io : Io) (x : Cmd), s.dev.isRunning c x →
    (isOp 0x00 x = true →
      ∃ t, exec (.opNop c io) s = .next t ∧ t.dev.ended c x { status := stOk, fill := .aonTick }) ∧
    (isOp 0x01 x = true → x.scratch = [] →
      (∀ n ∈ setBits (x.fld 16 0 64) 64, s.dev.fenceWaits c n (s.dev.cr c.ep n).p = false) →
      ∃ t, exec (.opFence c io) s = .next t ∧ t.dev.ended c x okDone) ∧
    (isOp 0x01 x = true → x.scratch = [] → x.marked = false →
      (∃ n ∈ setBits (x.fld 16 0 64) 64, s.dev.fenceWaits c n (s.dev.cr c.ep n).p = true) →
      ∃ t, exec (.opFence c io) s = .next t ∧ t.dev.cmd? c = some { x with
        executing := false, steps := x.steps + 1
        scratch := 1 :: (setBits (x.fld 16 0 64) 64).flatMap (fun n => [n, (s.dev.cr c.ep n).p.toNat]) }) ∧
    (∀ y, isOp 0x02 x = true → s.dev.boot.reloading = none →
      (s.dev.ep c.ep).cmds.find? (fun y => decide (y.ring = x.fld 16 0 6 ∧ y.pos.toNat % 2 ^ 20 = x.fld 20 0 20)) = some y →
      y.executing = false → y.outcome = none →
      ∃ t, exec (.opAbort c io) s = .next t ∧ t.dev.ended c x okDone ∧
        t.dev.cmd? { ep := c.ep, ring := y.ring, pos := y.pos } =
          some { y with marked := true, outcome := some (abortedDone y.steps) }) ∧
    (isOp 0x03 x = true → x.scratch = [] → io.pick = [] → io.wrErr = false → (s.dev.ep c.ep).up = true →
      ∃ t, exec (.opSurvey c io) s = .next t ∧ t.dev.ended c x (okDone ((s.dev.hif.surveySeq + 1) % 2 ^ 32)) ∧
        t.dev.out = .hostWrite c.ep (x.fld 16 0 64) (s.dev.takeSurveySeq.survey (s.dev.scope c.ep (x.fld 28 0 8)) false
          (s.dev.surveyCapture (s.dev.scope c.ep (x.fld 28 0 8)))) :: s.dev.out)

/-- Doorbells at an endpoint that answers accesses (02 R42, R43, R44). On an ACTIVE ring or queue, or a STARVED receive queue, the
running count that a doorbell writes is taken; a value behind the last accepted one is ignored and counted, in CNT_DB_STALE of the
ring for a command ring and in CNT_DB_STRAY of the endpoint for every other doorbell; a value that claims more than the ring holds
stops the ring and raises the endpoint's source. A value that posts a buffer ends STARVED. A doorbell of another ring state or
number does what a write of another width does: that, a write of another offset within a slot, and a write to an unassigned slot
are ignored and counted in CNT_DB_STRAY. A 32-bit write to a slot of Table 2-2 is the doorbell of that slot. A state word that
fails its parity check as it is read raises FS_EP_STATE_PARITY. -/
def Obligations.DoorbellsFollowTheirRules : Prop :=
  ∀ (s : State) (e n : Nat) (v : Word), e < 4 → (s.dev.ep e).answers = true →
    (n < 64 → (s.dev.cr e n).st = .active →
      (0x80000000 ≤ (v - (s.dev.cr e n).p).toNat →
        ∃ t, exec (.commandRingDoorbell e n v false) s = .next t ∧ t.dev.hif = s.dev.hif ∧
          t.dev.ctr .dbStale (64 * e + n) = min (s.dev.ctr .dbStale (64 * e + n) + 1) (2 ^ 64 - 1)) ∧
      ((v - (s.dev.cr e n).p).toNat < 0x80000000 → 2 ^ (s.dev.cr e n).sizeLog2 < (v - (s.dev.cr e n).f).toNat →
        ∃ t, exec (.commandRingDoorbell e n v false) s = .next t ∧
          t.dev.cr e n = { s.dev.cr e n with st := .stopped, stop := some .doorbell } ∧
          (t.dev.src (0x43 + 16 * e)).live = true) ∧
      ((v - (s.dev.cr e n).p).toNat < 0x80000000 → (v - (s.dev.cr e n).f).toNat ≤ 2 ^ (s.dev.cr e n).sizeLog2 →
        ∃ t, exec (.commandRingDoorbell e n v false) s = .next t ∧ t.dev.cr e n = { s.dev.cr e n with p := v } ∧
          (∀ m, m ≠ n → t.dev.cr e m = s.dev.cr e m) ∧ ∀ f, f ≠ e → t.dev.ep f = s.dev.ep f)) ∧
    (n < 64 → (s.dev.cq e n).st = .active →
      (0x80000000 ≤ (v - (s.dev.cq e n).consumed).toNat →
        ∃ t, exec (.completionRingDoorbell e n v false) s = .next t ∧ t.dev.hif = s.dev.hif ∧
          t.dev.ctr .dbStray e = min (s.dev.ctr .dbStray e + 1) (2 ^ 64 - 1)) ∧
      ((v - (s.dev.cq e n).consumed).toNat < 0x80000000 → 2 ^ (s.dev.cq e n).sizeLog2 < ((s.dev.cq e n).w - v).toNat →
        ∃ t, exec (.completionRingDoorbell e n v false) s = .next t ∧ t.dev.cq e n = { s.dev.cq e n with st := .stopped } ∧
          (t.dev.src (0x44 + 16 * e)).live = true) ∧
      ((v - (s.dev.cq e n).consumed).toNat < 0x80000000 → ((s.dev.cq e n).w - v).toNat ≤ 2 ^ (s.dev.cq e n).sizeLog2 →
        ∃ t, exec (.completionRingDoorbell e n v false) s = .next t ∧ t.dev.cq e n = { s.dev.cq e n with consumed := v } ∧
          (∀ m, m ≠ n → t.dev.cq e m = s.dev.cq e m) ∧ ∀ f, f ≠ e → t.dev.ep f = s.dev.ep f)) ∧
    (n < 256 → (s.dev.rxq e n).st = .active ∨ (s.dev.rxq e n).st = .starved →
      (0x80000000 ≤ (v - (s.dev.rxq e n).posted).toNat →
        ∃ t, exec (.receiveQueueDoorbell e n v false) s = .next t ∧ t.dev.hif = s.dev.hif ∧
          t.dev.ctr .dbStray e = min (s.dev.ctr .dbStray e + 1) (2 ^ 64 - 1)) ∧
      ((v - (s.dev.rxq e n).posted).toNat < 0x80000000 → 2 ^ (s.dev.rxq e n).sizeLog2 < (v - (s.dev.rxq e n).used).toNat →
        ∃ t, exec (.receiveQueueDoorbell e n v false) s = .next t ∧ t.dev.rxq e n = { s.dev.rxq e n with st := .stopped } ∧
          (t.dev.src (0x43 + 16 * e)).live = true) ∧
      ((v - (s.dev.rxq e n).posted).toNat < 0x80000000 → (v - (s.dev.rxq e n).used).toNat ≤ 2 ^ (s.dev.rxq e n).sizeLog2 →
        ∃ t, exec (.receiveQueueDoorbell e n v false) s = .next t ∧ (t.dev.rxq e n).posted = v ∧
          (t.dev.rxq e n).used = (s.dev.rxq e n).used ∧
          (t.dev.rxq e n).st = (if v = (s.dev.rxq e n).posted then (s.dev.rxq e n).st else .active) ∧ (∀ m, m ≠ n → t.dev.rxq e m = s.dev.rxq e m) ∧
          ∀ f, f ≠ e → t.dev.ep f = s.dev.ep f)) ∧
    (n < 256 → (s.dev.txq e n).st = .active →
      (0x80000000 ≤ (v - (s.dev.txq e n).posted).toNat →
        ∃ t, exec (.transmitQueueDoorbell e n v false) s = .next t ∧ t.dev.hif = s.dev.hif ∧
          t.dev.ctr .dbStray e = min (s.dev.ctr .dbStray e + 1) (2 ^ 64 - 1)) ∧
      ((v - (s.dev.txq e n).posted).toNat < 0x80000000 → 2 ^ (s.dev.txq e n).sizeLog2 < (v - (s.dev.txq e n).used).toNat →
        ∃ t, exec (.transmitQueueDoorbell e n v false) s = .next t ∧ t.dev.txq e n = { s.dev.txq e n with st := .stopped } ∧
          (t.dev.src (0x43 + 16 * e)).live = true) ∧
      ((v - (s.dev.txq e n).posted).toNat < 0x80000000 → (v - (s.dev.txq e n).used).toNat ≤ 2 ^ (s.dev.txq e n).sizeLog2 →
        ∃ t, exec (.transmitQueueDoorbell e n v false) s = .next t ∧ t.dev.txq e n = { s.dev.txq e n with posted := v } ∧
          (∀ m, m ≠ n → t.dev.txq e m = s.dev.txq e m) ∧ ∀ f, f ≠ e → t.dev.ep f = s.dev.ep f)) ∧
    (∀ t, exec (.strayDoorbell e 0 8 0) s = .next t →
      (64 ≤ n ∨ (s.dev.cr e n).st ≠ .active → exec (.commandRingDoorbell e n v false) s = .next t) ∧
      (64 ≤ n ∨ (s.dev.cq e n).st ≠ .active → exec (.completionRingDoorbell e n v false) s = .next t) ∧
      (256 ≤ n ∨ ((s.dev.rxq e n).st ≠ .active ∧ (s.dev.rxq e n).st ≠ .starved) →
        exec (.receiveQueueDoorbell e n v false) s = .next t) ∧
      (256 ≤ n ∨ (s.dev.txq e n).st ≠ .active → exec (.transmitQueueDoorbell e n v false) s = .next t)) ∧
    (∀ (off width : Nat) (w : BitVec 64),
      (off % 64 ≠ 0 ∨ width ≠ 32 ∨ 0xA000 ≤ off →
        ∃ t, exec (.strayDoorbell e off width w) s = .next t ∧ t.dev.hif = s.dev.hif ∧
          t.dev.ctr .dbStray e = min (s.dev.ctr .dbStray e + 1) (2 ^ 64 - 1)) ∧
      (n < 64 → exec (.strayDoorbell e (64 * n) 32 w) s = exec (.commandRingDoorbell e n (w.truncate 32) false) s ∧
        exec (.strayDoorbell e (0x1000 + 64 * n) 32 w) s = exec (.completionRingDoorbell e n (w.truncate 32) false) s) ∧
      (n < 256 → exec (.strayDoorbell e (0x2000 + 64 * n) 32 w) s = exec (.receiveQueueDoorbell e n (w.truncate 32) false) s ∧
        exec (.strayDoorbell e (0x6000 + 64 * n) 32 w) s = exec (.transmitQueueDoorbell e n (w.truncate 32) false) s)) ∧
    ((s.dev.ep e).badWords = [] →
      (∃ t, exec (.commandRingDoorbell e n v true) s = .next t ∧ (t.dev.src (0x4A + 16 * e)).live = true) ∧
      (∃ t, exec (.completionRingDoorbell e n v true) s = .next t ∧ (t.dev.src (0x4A + 16 * e)).live = true) ∧
      (∃ t, exec (.receiveQueueDoorbell e n v true) s = .next t ∧ (t.dev.src (0x4A + 16 * e)).live = true) ∧
      ∃ t, exec (.transmitQueueDoorbell e n v true) s = .next t ∧ (t.dev.src (0x4A + 16 * e)).live = true)

/-- Ring and queue configuration, written to dword 2 of the block while the endpoint is up (02 R41, R44). On a DISABLED ring or
queue, setting ENABLE with a valid configuration makes it ACTIVE with all counts 0, and with an invalid one leaves it DISABLED and
sets CFG_ERR. On one that is not DISABLED, a write that leaves ENABLE set changes nothing, but for CFG_ERR where another field of it
differs; a write of equal fields that clears ENABLE makes a completion ring or a packet queue DISABLED, and a command ring draining,
which is DISABLED once every fetched command has committed and no fetch is under way. The endpoint's other rings and queues of the
kind stand. -/
def Obligations.RingConfigurationFollowsItsStates : Prop :=
  ∀ (s : State) (e n : Nat) (v : Word), (s.dev.ep e).answers = true → (s.dev.ep e).up = true →
    (n < 64 →
      ∃ t, exec (.epCrCfgWrite e n 2 v) s = .next t ∧ (∀ m, m ≠ n → t.dev.cr e m = s.dev.cr e m) ∧
        ((s.dev.cr e n).st = .disabled → v.toNat.testBit 16 = true → sizeOk (bits v.toNat 0 5) = true →
          (s.dev.crPolder e n).isSome = true → (s.dev.cq e (bits v.toNat 8 6)).st = .active →
          t.dev.cr e n = { s.dev.cr e n with
            sizeLog2 := bits v.toNat 0 5, boundCq := bits v.toNat 8 6, enable := true, st := .active, p := 0, f := 0, c := 0,
            issued := 0, stop := none }) ∧
        ((s.dev.cr e n).st = .disabled → v.toNat.testBit 16 = true →
          sizeOk (bits v.toNat 0 5) = false ∨ s.dev.crPolder e n = none ∨ (s.dev.cq e (bits v.toNat 8 6)).st ≠ .active →
          (t.dev.cr e n).st = .disabled ∧ (t.dev.cr e n).cfgErr = true) ∧
        ((s.dev.cr e n).st ≠ .disabled → v.toNat.testBit 16 = true →
          t.dev.cr e n = { s.dev.cr e n with
            cfgErr := (s.dev.cr e n).cfgErr ||
              !decide (bits v.toNat 0 5 = (s.dev.cr e n).sizeLog2 ∧ bits v.toNat 8 6 = (s.dev.cr e n).boundCq) }) ∧
        ((s.dev.cr e n).st ≠ .disabled → v.toNat.testBit 16 = false → bits v.toNat 0 5 = (s.dev.cr e n).sizeLog2 →
          bits v.toNat 8 6 = (s.dev.cr e n).boundCq → t.dev.cr e n = { s.dev.cr e n with enable := false })) ∧
    (n < 64 → (s.dev.cr e n).st ≠ .disabled → (s.dev.cr e n).enable = false → (s.dev.cr e n).issued = (s.dev.cr e n).f →
      (∀ x ∈ (s.dev.ep e).cmds, x.ring ≠ n) →
      ∃ t, exec (.ringDisableDone e n) s = .next t ∧ (∀ m, m ≠ n → t.dev.cr e m = s.dev.cr e m) ∧
        t.dev.cr e n = { s.dev.cr e n with st := .disabled, stop := none }) ∧
    (n < 64 →
      ∃ t, exec (.epCqCfgWrite e n 2 v) s = .next t ∧ (∀ m, m ≠ n → t.dev.cq e m = s.dev.cq e m) ∧
        ((s.dev.cq e n).st = .disabled → v.toNat.testBit 16 = true → sizeOk (bits v.toNat 0 5) = true →
          (s.dev.cqPolder e n).isSome = true →
          t.dev.cq e n = { s.dev.cq e n with
            sizeLog2 := bits v.toNat 0 5, enable := true, st := .active, w := 0, consumed := 0 }) ∧
        ((s.dev.cq e n).st = .disabled → v.toNat.testBit 16 = true →
          sizeOk (bits v.toNat 0 5) = false ∨ s.dev.cqPolder e n = none →
          (t.dev.cq e n).st = .disabled ∧ (t.dev.cq e n).cfgErr = true) ∧
        ((s.dev.cq e n).st ≠ .disabled → v.toNat.testBit 16 = true →
          t.dev.cq e n = { s.dev.cq e n with
            cfgErr := (s.dev.cq e n).cfgErr || !decide (bits v.toNat 0 5 = (s.dev.cq e n).sizeLog2) }) ∧
        ((s.dev.cq e n).st ≠ .disabled → v.toNat.testBit 16 = false → bits v.toNat 0 5 = (s.dev.cq e n).sizeLog2 →
          t.dev.cq e n = { s.dev.cq e n with enable := false, st := .disabled })) ∧
    (n < 256 →
      ∃ t, exec (.epRxqCfgWrite e n 2 v) s = .next t ∧ (∀ m, m ≠ n → t.dev.rxq e m = s.dev.rxq e m) ∧
        ((s.dev.rxq e n).st = .disabled → v.toNat.testBit 16 = true → sizeOk (bits v.toNat 0 5) = true →
          (s.dev.rxqPolder e n).isSome = true →
          t.dev.rxq e n = { s.dev.rxq e n with
            sizeLog2 := bits v.toNat 0 5, enable := true, st := .active, posted := 0, used := 0,
            emptySince := some s.dev.bal.tick }) ∧
        ((s.dev.rxq e n).st = .disabled → v.toNat.testBit 16 = true →
          sizeOk (bits v.toNat 0 5) = false ∨ s.dev.rxqPolder e n = none →
          (t.dev.rxq e n).st = .disabled ∧ (t.dev.rxq e n).cfgErr = true) ∧
        ((s.dev.rxq e n).st ≠ .disabled → v.toNat.testBit 16 = true →
          t.dev.rxq e n = { s.dev.rxq e n with
            cfgErr := (s.dev.rxq e n).cfgErr || !decide (bits v.toNat 0 5 = (s.dev.rxq e n).sizeLog2) }) ∧
        ((s.dev.rxq e n).st ≠ .disabled → v.toNat.testBit 16 = false → bits v.toNat 0 5 = (s.dev.rxq e n).sizeLog2 →
          t.dev.rxq e n = { s.dev.rxq e n with enable := false, st := .disabled })) ∧
    (∀ eops, n < 256 →
      ∃ t, exec (.epTxqCfgWrite e n 2 v eops) s = .next t ∧ (∀ m, m ≠ n → t.dev.txq e m = s.dev.txq e m) ∧
        ((s.dev.txq e n).st = .disabled → v.toNat.testBit 16 = true → sizeOk (bits v.toNat 0 5) = true →
          (s.dev.txqPolder e n).isSome = true →
          t.dev.txq e n = { s.dev.txq e n with
            sizeLog2 := bits v.toNat 0 5, enable := true, st := .active, posted := 0, used := 0,
            emptySince := none }) ∧
        ((s.dev.txq e n).st = .disabled → v.toNat.testBit 16 = true →
          sizeOk (bits v.toNat 0 5) = false ∨ s.dev.txqPolder e n = none →
          (t.dev.txq e n).st = .disabled ∧ (t.dev.txq e n).cfgErr = true) ∧
        ((s.dev.txq e n).st ≠ .disabled → v.toNat.testBit 16 = true →
          t.dev.txq e n = { s.dev.txq e n with
            cfgErr := (s.dev.txq e n).cfgErr || !decide (bits v.toNat 0 5 = (s.dev.txq e n).sizeLog2) }) ∧
        ((s.dev.txq e n).st ≠ .disabled → v.toNat.testBit 16 = false → bits v.toNat 0 5 = (s.dev.txq e n).sizeLog2 →
          t.dev.txq e n = { s.dev.txq e n with
            enable := false, st := .disabled, used := (s.dev.txq e n).posted }))

/-- The checks of Table 2-5 (02 R48): each descriptor that a fetch returns takes the next position of its ring and waits there
with the status of the first check that fails, and is ordered like a command without PARALLEL; with none where all pass. CHECK and
CHECK_PAR are judged over the descriptor and the fold value of its LOCATOR; a lasting error of the engine on them, or one that
stands against the context that is the endpoint's next, gives ST_BAD_CHECK (14 R441). -/
def Obligations.DescriptorChecksGiveTheFirstFailure : Prop :=
  ∀ (s : State) (e n : Nat) (desc : Descriptor), e < 4 → (s.dev.ep e).up = true → (s.dev.cr e n).issued ≠ (s.dev.cr e n).f →
    ∀ check : Ecc, ∃ t y, exec (.descriptorFetchReturn e n (some desc) check) s = .next t ∧ (t.dev.ep e).cmds = (s.dev.ep e).cmds ++ [y] ∧
      t.dev.cr e n = { s.dev.cr e n with f := (s.dev.cr e n).f + 1 } ∧
      y.ring = n ∧ y.pos = (s.dev.cr e n).f ∧ y.desc = desc ∧ y.executing = false ∧
      (y.outcome ≠ none → y.ordered = true) ∧ (y.outcome = none → y.ordered = decide (y.fld 1 0 1 = 0)) ∧
      y.outcome.map Done.status =
        if check = .lasting ∨ (s.dev.cvuCtx (2 * e + if s.dev.cvu.next.testBit e then 1 else 0)).forced = true then some stBadCheck
        else if (y.fld 8 0 8 ^^^ y.fld 9 0 8 ^^^ y.fld 10 0 8 ^^^ y.fld 11 0 8) ≠ y.fld 12 0 8 then some stCheckField
        else if y.fld 8 0 32 ≠ crc32c (leBytes 4 (y.fld 4 0 20 + y.fld 4 20 6 * 2 ^ 21 + y.fld 4 26 2 * 2 ^ 27 + y.fld 4 28 3 * 2 ^ 29) ++
            ((leBytes 64 desc.toNat).take 8 ++ [0, 0, 0, 0, 0] ++ (leBytes 64 desc.toNat).drop 13)) then some stBadCheck
        else if ¬(y.fld 4 0 20 = (s.dev.cr e n).f.toNat % 2 ^ 20 ∧ y.fld 4 20 6 = n ∧ y.fld 4 26 2 = e ∧
            s.dev.crPolder e n = some (y.fld 4 28 3)) then some stBadSequence
        else if assigned y.opcode = false then some stBadOpcode
        else if headBad y ≠ none then some stBadOperand
        else if opModes y.opcode s.dev.bal.mode = false ∨
            y.opcode = 0x05 ∧ y.fld 16 4 1 = 1 ∧ opModes 0x10 s.dev.bal.mode = false then some stWrongMode
        else if (s.dev.opCheck e y).own = false then some stNotOwner
        else if (s.dev.opCheck e y).offending y ≠ none then some stBadOperand
        else none

/-- The life of a command (02 R44, R45, R53, R54, R57, R58). A place of the 16 lets the next ring in round robin fetch the
descriptor of its next position; a fetch that returns an error stops the ring, whose position gets no completion; a step is
dispatched on a free engine for a command that is ready, which no other change of the commands accompanies; a command with an
outcome, that every earlier command of its ring allows, commits: it leaves the window and its completion enters the internal
completion queue; the oldest completion of an ACTIVE ring with room is written with PHASE at the ring's position. -/
def Obligations.CommandsMoveFromFetchToCompletion : Prop :=
  ∀ (s : State) (e n : Nat), e < 4 →
    ((s.dev.ep e).up = true → (s.dev.ep e).cmds.length + s.dev.inFlight e < 16 →
      nextRound 64 (s.dev.ep e).rrFetch (fun m => (s.dev.cr e m).fetchable) = some n →
      ∃ t, exec (.descriptorFetch e) s = .next t ∧
        t.dev.cr e n = { s.dev.cr e n with issued := (s.dev.cr e n).issued + 1 } ∧ (t.dev.ep e).rrFetch = n ∧
        t.dev.out = .hostRead e ((s.dev.cr e n).base.toNat +
          64 * ((s.dev.cr e n).issued.toNat % 2 ^ (s.dev.cr e n).sizeLog2)) 64 :: s.dev.out) ∧
    (∀ check, (s.dev.ep e).up = true → (s.dev.cr e n).issued ≠ (s.dev.cr e n).f → (s.dev.cr e n).st = .active →
      ∃ t, exec (.descriptorFetchReturn e n none check) s = .next t ∧
        t.dev.cr e n = { s.dev.cr e n with issued := (s.dev.cr e n).f, st := .stopped, stop := some .fetch } ∧
        (t.dev.ep e).cmds = (s.dev.ep e).cmds ∧ (t.dev.src (0x42 + 16 * e)).live = true) ∧
    (∀ moves x, s.dev.executing 0 + s.dev.executing 1 + s.dev.executing 2 + s.dev.executing 3 < 8 →
      s.dev.arbitrate = some (e, moves) →
      nextRound 64 (s.dev.ep e).rrDispatch (fun m => (s.dev.dispatchable e).any (fun y => decide (y.ring = m))) = some n →
      (s.dev.dispatchable e).find? (fun y => decide (y.ring = n)) = some x →
      ∃ t, exec .commandDispatch s = .next t ∧ (t.dev.ep e).cmds = (s.dev.ep e).cmds.map (fun y =>
        if y.ring = n ∧ y.pos = x.pos then { y with
          executing := true, reserved := true, disp := if y.disp = 0 then s.dev.hif.dispSeq + 1 else y.disp
          dispMode := if y.steps = 0 then s.dev.bal.mode.code + 16 * (s.dev.polder (y.fld 17 0 3)).st.code else y.dispMode }
        else y)) ∧
    (∀ c x o, c.ep = e → s.dev.cmd? c = some x → x.outcome = some o → (s.dev.ep e).downEv = none → s.dev.mayCommit c x = true →
      ∃ t, exec (.commandCommit c) s = .next t ∧ t.dev.cmd? c = none ∧
        (t.dev.ep e).icq = (s.dev.ep e).icq ++
          [{ cq := (s.dev.cr e c.ring).boundCq, image := completionImage x (s.dev.fillDone o) }]) ∧
    (∀ y, (s.dev.ep e).up = true → (s.dev.cq e n).st = .active → (s.dev.cq e n).full = false →
      (s.dev.ep e).icq.find? (fun z => decide (z.cq = n)) = some y →
      ∃ t, exec (.completionWrite e n) s = .next t ∧ (t.dev.ep e).icq = (s.dev.ep e).icq.erase y ∧
        t.dev.cq e n = { s.dev.cq e n with w := (s.dev.cq e n).w + 1 } ∧
        t.dev.out = .hostWrite e ((s.dev.cq e n).base.toNat + 32 * ((s.dev.cq e n).w.toNat % 2 ^ (s.dev.cq e n).sizeLog2))
          (leBytes 32 (y.image.toNat +
            (1 - (s.dev.cq e n).w.toNat / 2 ^ (s.dev.cq e n).sizeLog2 % 2) * 2 ^ 255)) :: s.dev.out)

/-- Endpoints go down and come up, and write the summary that needs no rings (02 R40, R77). Down: every ring and queue is
DISABLED, the commands that are on no engine and the committed completions are discarded and counted, and those on engines are
marked, to stop at their next boundary. Up: nothing keeps the endpoint down, and no command of before remains. GO starts a summary;
its end writes it to EP_RESYNC_ADDR and sets DONE, or, where the write met an error, ERR. -/
def Obligations.EndpointsGoDownAndComeUp : Prop :=
  ∀ (s : State) (e : Nat), s.dev.present e = true → s.dev.bal.mode ≠ .off →
    (∀ cause, (s.dev.ep e).up = true →
      ∃ t, exec (.endpointDown e cause) s = .next t ∧ (t.dev.ep e).up = false ∧
        (∀ n, (t.dev.cr e n).st = .disabled ∧ (t.dev.cq e n).st = .disabled ∧ (t.dev.rxq e n).st = .disabled ∧
          (t.dev.txq e n).st = .disabled) ∧
        (t.dev.ep e).icq = [] ∧ (∀ y ∈ (t.dev.ep e).cmds, y.marked = true ∧ y.executing = true) ∧
        ∀ n, n = ((s.dev.ep e).cmds.filter (fun y => !y.onEngine)).length + (s.dev.ep e).icq.length → n ≠ 0 →
          t.dev.ctr .cplDiscard e = min (s.dev.ctr .cplDiscard e + n) (2 ^ 64 - 1)) ∧
    ((s.dev.ep e).up = false →
      ∃ t, exec (.endpointUp e) s = .next t ∧ (t.dev.ep e).up = true ∧ (t.dev.ep e).perst = false ∧
        (t.dev.ep e).flr = false ∧ (t.dev.ep e).linkDown = false ∧ (t.dev.ep e).bmeClear = false ∧ (t.dev.ep e).cmds = []) ∧
    (∀ v : Word, (s.dev.ep e).answers = true → v.toNat.testBit 0 = true → (s.dev.ep e).resyncBusy = false →
      ∃ t, exec (.epResyncGo e v) s = .next t ∧ t.dev.ep e = { s.dev.ep e with
        resyncIrqEn := v.toNat.testBit 1, resyncBusy := true, resyncDone := false, resyncErr := false }) ∧
    ((s.dev.ep e).resyncBusy = true → (s.dev.ep e).up = true →
      ∃ t, exec (.resyncDone e false) s = .next t ∧ (t.dev.ep e).resyncBusy = false ∧ (t.dev.ep e).resyncDone = true ∧
        (t.dev.ep e).resyncErr = false ∧ t.dev.hif.surveySeq = (s.dev.hif.surveySeq + 1) % 2 ^ 32 ∧
        t.dev.out = .hostWrite e (s.dev.ep e).resyncAddr.toNat (s.dev.takeSurveySeq.survey (s.dev.scope e 0) true
          (s.dev.surveyCapture (s.dev.scope e 0))) :: s.dev.out) ∧
    ((s.dev.ep e).resyncBusy = true →
      ∃ t, exec (.resyncDone e true) s = .next t ∧ (t.dev.ep e).resyncBusy = false ∧ (t.dev.ep e).resyncDone = false ∧
        (t.dev.ep e).resyncErr = true ∧ t.dev.hif.surveySeq = (s.dev.hif.surveySeq + 1) % 2 ^ 32)

/-- Interrupt messages (02 R65). MSIX_MESSAGE is a message that falls due because COUNT events have gathered, or one has and DELAY
is 0; MSIX_DELAY_EXPIRY is one that falls due when DELAY has passed since the first event. The message of a vector in a block of the
endpoint's polders is sent, or its pending bit is set where the vector, the function or MSI-X Enable keeps it back; of another vector
nothing is sent or held. A write that unmasks the one vector with a held message, unmasks the function or enables MSI-X sends that
message once nothing else keeps it back, while no alarm is owed. -/
def Obligations.MessagesFollowTheirModeration : Prop :=
  ∀ (s : State) (e v : Nat),
    (∀ i, 0 < (s.dev.gather e v).n →
      (i = .msixMessage e v ∧ (s.dev.vecCount e v ≤ (s.dev.gather e v).n ∨ s.dev.vecDelay e v = 0)) ∨ i = .msixDelayExpiry e v →
      ∃ t, exec i s = .next t ∧
        (i = .msixDelayExpiry e v → (s.dev.gather e v).first + 25 * s.dev.vecDelay e v ≤ t.dev.bal.tick) ∧
        (s.dev.vecOwned e v = true → s.dev.msixOpen e v = true →
          t.dev.gather e v = {} ∧
            t.dev.out = .msix e v (s.dev.msixEntry e v).addr.toNat (s.dev.msixEntry e v).data.toNat :: s.dev.out) ∧
        (s.dev.vecOwned e v = true → s.dev.msixOpen e v = false →
          (t.dev.gather e v).pending = true ∧ t.dev.out = s.dev.out) ∧
        (s.dev.vecOwned e v = false → t.dev.gather e v = {} ∧ t.dev.out = s.dev.out)) ∧
    (∀ g : VecGather, (s.dev.ep e).answers = true → (s.dev.ep e).gather = [(v, g)] → g.pending = true → (s.dev.ep e).alarmOwed = false →
      s.dev.vecOwned e v = true → (s.dev.ep e).up = true → (s.dev.ep e).bmeClear = false →
      ((s.dev.ep e).msixEnable = true → (s.dev.ep e).funcMask = false →
        ∃ t, exec (.msixUnmask e (.vector v)) s = .next t ∧ (t.dev.msixEntry e v).masked = false ∧ (t.dev.gather e v).pending = false ∧
          t.dev.out = .msix e v (s.dev.msixEntry e v).addr.toNat (s.dev.msixEntry e v).data.toNat :: s.dev.out) ∧
      ((s.dev.ep e).msixEnable = true → (s.dev.msixEntry e v).masked = false →
        ∃ t, exec (.msixUnmask e .function) s = .next t ∧ (t.dev.ep e).funcMask = false ∧ (t.dev.gather e v).pending = false ∧
          t.dev.out = .msix e v (s.dev.msixEntry e v).addr.toNat (s.dev.msixEntry e v).data.toNat :: s.dev.out) ∧
      ((s.dev.ep e).funcMask = false → (s.dev.msixEntry e v).masked = false →
        ∃ t, exec (.msixUnmask e .enable) s = .next t ∧ (t.dev.ep e).msixEnable = true ∧ (t.dev.gather e v).pending = false ∧
          t.dev.out = .msix e v (s.dev.msixEntry e v).addr.toNat (s.dev.msixEntry e v).data.toNat :: s.dev.out))

/-- Packet queues of hosts (02 R60, R61, R63). The oldest frame that the host port holds whole for an ACTIVE receive queue is written
into the posted buffers, in order, and its descriptors are written back; one that 8 buffers do not hold takes none. A queue that has
had no buffer for its limit becomes STARVED and holds no frame. The next frame of the transmit queue in turn is fetched: where its
descriptors make a frame that may be sent it waits for the parser with its polder, its destination where DIRECT, and where its
timestamp goes where TS_REQ; else it gets NOT_OWNER, BAD_LENGTH or DMA_ERROR, and DMA_ERROR raises the endpoint's source. -/
def Obligations.HostPacketQueuesMoveFrames : Prop :=
  ∀ (s : State) (e q : Nat), e < 4 →
    (∀ posted y x bufs, (s.dev.ep e).up = true → (s.dev.txs (528 + e)).find? (fun y => decide (y.need ≤ y.got)) = some y →
      s.dev.pkt? y.ent.pid = some x → y.dest = .host e q → y.stomp = false → (s.dev.rxq e q).st = .active →
      bufs = posted.take (min 8 ((s.dev.rxq e q).posted - (s.dev.rxq e q).used).toNat) →
      (∀ ns, rxFill (bufs.map (fun b => b.2)) y.bytes.length = some ns →
        ∃ t, exec (.rxFrameDelivery e posted false) s = .next t ∧
          (t.dev.rxq e q).used = (s.dev.rxq e q).used + BitVec.ofNat 32 ns.length ∧
          ∀ i, i < ns.length →
            .hostWrite e (bufs.getD i (0, 0)).1 ((y.bytes.drop ((ns.take i).foldl (· + ·) 0)).take (ns.getD i 0)) ∈ t.dev.out ∧
            .hostWrite e ((s.dev.rxq e q).base.toNat + 32 * (((s.dev.rxq e q).used.toNat + i) % 2 ^ (s.dev.rxq e q).sizeLog2))
              (leBytes 32 (rxWriteBack x (ns.getD i 0) (decide (i = 0)) (decide (i + 1 = ns.length)))) ∈ t.dev.out) ∧
      (rxFill (bufs.map (fun b => b.2)) y.bytes.length = none → bufs.length = 8 →
        ∃ t, exec (.rxFrameDelivery e posted false) s = .next t ∧ t.dev.rxq e q = s.dev.rxq e q)) ∧
    (∀ t0, (s.dev.rxq e q).emptySince = some t0 → (s.dev.rxq e q).st = .active → (s.dev.rxq e q).posted = (s.dev.rxq e q).used →
      ∃ t, exec (.rxQueueStarved e q) s = .next t ∧ (t.dev.rxq e q).st = .starved ∧
        (t.dev.queue (Dest.host e q).key).ents = [] ∧ (t.dev.src (0x47 + 16 * e)).live = true ∧
        t0 + 25000 * min 100 (s.dev.rxq e q).starve ≤ t.dev.bal.tick) ∧
    (∀ h rest size addrs p, (s.dev.ladder (528 + e) 0 true).isSome = true → (s.dev.ep e).up = true →
      (s.dev.pipe (4 * e)).parseStopped = false → (s.dev.pipe (4 * e)).actionStopped = false → s.dev.fetchesTx = true →
      s.dev.txTurn e = some q → (h :: rest).length ≤ ((s.dev.txq e q).posted - (s.dev.txq e q).used).toNat →
      size = (h :: rest).foldl (fun m w => m + txF w 8 0 16) 0 → s.dev.txqPolder e q = some p →
      addrs = (List.range (h :: rest).length).map (fun i =>
        (s.dev.txq e q).base.toNat + 32 * (((s.dev.txq e q).used.toNat + i) % 2 ^ (s.dev.txq e q).sizeLog2)) →
      (∀ bytes : Option (List Byte), ∃ t, exec (.txFrameFetch e (h :: rest) bytes) s = .next t ∧
        (t.dev.txq e q).used = (s.dev.txq e q).used + BitVec.ofNat 32 (h :: rest).length ∧
        (bytes = none → (t.dev.src (0x46 + 16 * e)).live = true ∧ tget t.dev.dp.inject [] e = tget s.dev.dp.inject [] e ∧
          .hostWrite e (addrs.getLastD 0 + 16) (leBytes 4 0 ++ leBytes 4 0 ++ leBytes 4 0 ++ leBytes 3 3 ++ [0x80]) ∈ t.dev.out) ∧
        (bytes ≠ none → 8 < (h :: rest).length ∨ txF ((h :: rest).getLastD 0) 10 1 1 ≠ 1 ∨ size < 60 →
          tget t.dev.dp.inject [] e = tget s.dev.dp.inject [] e ∧
          .hostWrite e (addrs.getLastD 0 + 16) (leBytes 4 0 ++ leBytes 4 0 ++ leBytes 4 0 ++ leBytes 3 2 ++ [0x80]) ∈ t.dev.out) ∧
        (bytes ≠ none → (h :: rest).length ≤ 8 → txF ((h :: rest).getLastD 0) 10 1 1 = 1 → 60 ≤ size → txF h 10 2 1 = 1 →
          s.dev.lanePolder (txF h 12 0 10) ≠ some p →
          tget t.dev.dp.inject [] e = tget s.dev.dp.inject [] e ∧
          .hostWrite e (addrs.getLastD 0 + 16) (leBytes 4 0 ++ leBytes 4 0 ++ leBytes 4 0 ++ leBytes 3 1 ++ [0x80]) ∈ t.dev.out) ∧
        (∀ bs, bytes = some bs → bs.length = size → (h :: rest).length ≤ 8 → txF ((h :: rest).getLastD 0) 10 1 1 = 1 → 60 ≤ size →
          (txF h 10 2 1 = 1 → s.dev.lanePolder (txF h 12 0 10) = some p ∧ size + 4 ≤ (s.dev.port (txF h 12 0 10)).maxFrame) →
          tget t.dev.dp.inject [] e = tget s.dev.dp.inject [] e ++
            [{ polder := p, queue := q, descs := addrs, bytes := bs
               direct := if txF h 10 2 1 = 1 then some (txF h 12 0 10, txF h 12 10 4) else none
               tsReq := if txF h 10 3 1 = 1 then some (e, q, addrs.getLastD 0) else none }])))

/-- Counters and diagnostics (13 R424; 18 R536, R537, R538). A read writes the block of one object's counters, and each peak among
them restarts from the value that stands, a write error of the buffer notwithstanding; a tenant is read after every update older than
1 µs. A clear sets the running totals and peaks to 0. A loopback is stored and the one before it returned. A memory test, in its last
step, returns what it finds, and leaves the memories of its group zero: buffers, cells and links; a quadrant's copies, whose MAC
entries go and whose other entries no longer stand in the copy; the cells between pipelines; the telemetry archive and the flows of
the basin; scheduling, gate lists and counters. A pattern generator starts with counts of 0, and is read and stopped with the counts
that its checker gives; the counts of a lane without a START are free values. -/
def Obligations.CountersAndDiagnosticsComplete : Prop :=
  ∀ (s : State) (c : CmdRef) (io : Io) (x : Cmd), s.dev.isRunning c x →
    (∀ d is, isOp 0x40 x = true →
      d = (if x.fld 16 0 8 = 14 then Dev.combineOld s.dev.mrp.merging.length s.dev else s.dev) →
      is = d.ctrItems (x.fld 16 0 8) (x.fld 20 0 32) (x.fld 17 0 2) →
      ∃ t, exec (.opCounterRead c io) s = .next t ∧ t.dev.ended c x (if io.wrErr then failDone stTimeout 24 else okDone) ∧
        (∀ y ∈ is, y.sort = .peak → t.dev.ctr y.ctr y.idx = y.now) ∧
        (io.wrErr = false → (d.ep c.ep).up = true →
          t.dev.out = .hostWrite c.ep (x.fld 24 0 64) (ctrBlock (x.fld 16 0 8) (x.fld 20 0 32) (is.map d.ctrValue)) :: d.out)) ∧
    (isOp 0x41 x = true →
      ∃ t, exec (.opCounterClear c io) s = .next t ∧ t.dev.ended c x okDone ∧
        ∀ y ∈ s.dev.ctrItems (x.fld 16 0 8) (x.fld 20 0 32) 0, y.sort ≠ .current → t.dev.ctr y.ctr y.idx = 0) ∧
    (isOp 0xF0 x = true →
      ∃ t, exec (.opDiagLoopback c io) s = .next t ∧
        (s.dev.isPort (x.fld 16 0 10) = true →
          t.dev.ended c x (okDone (s.dev.loopKind (x.fld 16 0 10))) ∧ tget t.dev.bal.loopback 0 (x.fld 16 0 10) = x.fld 18 0 2) ∧
        (s.dev.isPort (x.fld 16 0 10) = false → t.dev.ended c x (failDone stNotFound) ∧ t.dev.bal = s.dev.bal)) ∧
    (isOp 0xF1 x = true → ioChoice io 0 = 0 →
      ∃ t, exec (.opDiagBist c io) s = .next t ∧
        t.dev.ended c x (okDone (ioChoice io 1 % 2 ^ 32) (if ioChoice io 1 = 0 then 0 else ioChoice io 2)) ∧
        t.dev.boot.bistRun = true ∧
        (x.fld 16 0 3 = 0 → t.dev.bpm.cells = [] ∧ t.dev.bpm.links = [] ∧
          ∀ k y, tget t.dev.dp.pkts none k = some y → ∀ b ∈ y.bytes, b = 0) ∧
        (∀ q, q < 4 → x.fld 16 0 3 = q + 1 → (tget t.dev.lrn.quads {} q).ents = [] ∧
          ∀ k y, tget t.dev.rle.ents none k = some y → y.bad.testBit q = true) ∧
        (x.fld 16 0 3 = 5 → t.dev.swc.flight = []) ∧
        (x.fld 16 0 3 = 6 → t.dev.esc.archive = [] ∧ ∀ k f, tget t.dev.mrp.flows none k = some f → f.cached = true) ∧
        (x.fld 16 0 3 = 7 → t.dev.esc.scheds = [] ∧ t.dev.esc.buckets = [] ∧ t.dev.esc.tides = [] ∧
          ∀ k, keptCtr k = false → tget t.dev.ctrs 0 k = 0)) ∧
    (isOpAct 0xF2 (18, 0, 2) 0 x = true →
      ∃ t, exec (.opDiagPrbsStart c io) s = .next t ∧
        (s.dev.lanePowered (x.fld 16 0 9) = true →
          t.dev.ended c x okDone ∧ tget t.dev.bal.prbs none (x.fld 16 0 9) = some (x.fld 19 0 2, 0, 0)) ∧
        (s.dev.lanePowered (x.fld 16 0 9) = false → t.dev.ended c x (failDone stWrongMode))) ∧
    (isOpAct 0xF2 (18, 0, 2) 1 x = true →
      ∃ t, exec (.opDiagPrbsRead c io) s = .next t ∧
        (s.dev.lanePowered (x.fld 16 0 9) = false → t.dev.ended c x (failDone stWrongMode)) ∧
        (s.dev.lanePowered (x.fld 16 0 9) = true →
          (∀ g, tget s.dev.bal.prbs none (x.fld 16 0 9) = some g →
            t.dev.ended c x (okDone (ioChoice io 0 % 2 ^ 64) (ioChoice io 1 % 2 ^ 64)) ∧
            (tget t.dev.bal.prbs none (x.fld 16 0 9)).isSome = true) ∧
          (tget s.dev.bal.prbs none (x.fld 16 0 9) = none →
            t.dev.ended c x (okDone (s.dev.free 64).1 ((s.dev.free 64).2.free 64).1)))) ∧
    (isOpAct 0xF2 (18, 0, 2) 2 x = true →
      ∃ t, exec (.opDiagPrbsStop c io) s = .next t ∧
        (s.dev.lanePowered (x.fld 16 0 9) = false → t.dev.ended c x (failDone stWrongMode)) ∧
        (s.dev.lanePowered (x.fld 16 0 9) = true → tget t.dev.bal.prbs none (x.fld 16 0 9) = none ∧
          (∀ g, tget s.dev.bal.prbs none (x.fld 16 0 9) = some g →
            t.dev.ended c x (okDone (ioChoice io 0 % 2 ^ 64) (ioChoice io 1 % 2 ^ 64))) ∧
          (tget s.dev.bal.prbs none (x.fld 16 0 9) = none →
            t.dev.ended c x (okDone (s.dev.free 64).1 ((s.dev.free 64).2.free 64).1))))

/-- The SMBus sideband, the LEDs and the TAP (02 R78; 19 R558, R559, R560, R561). While POR_N is not low, each read answers its
bytes, with a check byte after them where the master clocks one; a load with a good check byte, or none, stores token bytes up to
byte 303; an apply empties the buffer, and one whose token passes the checks of a handover moves the warden; a stalled transaction
has no effect; an LED frame, every 10 ms, shows every lane and clears ACT. The instruction of the TAP that is decoded stands in its
register: IDCODE shifts out the code and BYPASS a 0; those that take the pins are decoded in DORMANT and DIAGNOSTIC alone, a private
one while JTAG_LOCK is not blown, and what is not decoded acts as BYPASS. -/
def Obligations.SidebandAnswers : Prop :=
  ∀ (s : State),
    (∀ (pec : Bool) (check : Nat → List Byte → List Byte), s.dev.bal.mode ≠ .off →
      (∀ code bs, check code bs = bs ++
        if pec then [BitVec.ofNat 8 (crc8 ([s.dev.smbAddr false, BitVec.ofNat 8 code, s.dev.smbAddr true] ++ bs))] else []) →
      (∃ t, exec (.smbusSummary pec) s = .next t ∧ t.dev = s.dev.emit (.smbus (check 0x01 ((32 : Byte) :: leBytes 32 s.dev.shortForm)))) ∧
      (∃ t, exec (.smbusTempMax pec) s = .next t ∧
        t.dev = s.dev.emit (.smbus (check 0x02 (leBytes 2 (unsigned 16 (hottest s.dev.temps).2))))) ∧
      (∃ t, exec (.smbusTempAll pec) s = .next t ∧ t.dev = s.dev.emit (.smbus (check 0x03
        (BitVec.ofNat 8 (s.dev.temps.flatMap (leBytes 2)).length :: s.dev.temps.flatMap (leBytes 2))))) ∧
      (∃ t, exec (.smbusRails pec) s = .next t ∧ t.dev = s.dev.emit (.smbus (check 0x04
        ((24 : Byte) :: (List.range 12).flatMap (fun i => leBytes 2 (s.dev.railMv i)))))) ∧
      (∃ t, exec (.smbusIdentity pec) s = .next t ∧ t.dev = s.dev.emit (.smbus (check 0x05 ((32 : Byte) :: (leBytes 8 s.dev.deviceTag ++
        leBytes 4 s.dev.boot.imageVersion ++ leBytes 4 0x1D1024A3 ++ leBytes 4 s.dev.otpStatus ++ leBytes 4 s.dev.strapStatus ++
        leBytes 8 s.dev.plc.challenge.toNat))))) ∧
      (∃ t, exec (.smbusTokenStatus pec) s = .next t ∧ t.dev = s.dev.emit (.smbus (check 0x12
        (leBytes 2 (s.dev.plc.tokenState % 256 + s.dev.plc.tokenCode % 256 * 256)))))) ∧
    (∀ (a b : Byte) (bs : List Byte) (pec : Option Byte), s.dev.bal.mode ≠ .off → 1 ≤ bs.length → bs.length ≤ 128 →
      ∃ t, exec (.smbusTokenLoad (a :: b :: bs) pec) s = .next t ∧
        (s.dev.smbPecOk (0x10 :: BitVec.ofNat 8 (bs.length + 2) :: a :: b :: bs) pec = false ∨
          304 < a.toNat + 256 * b.toNat + bs.length → t.dev = s.dev) ∧
        (s.dev.smbPecOk (0x10 :: BitVec.ofNat 8 (bs.length + 2) :: a :: b :: bs) pec = true →
          a.toNat + 256 * b.toNat + bs.length ≤ 304 → t.dev.plc.tokenState = 1 ∧
          (∀ i, i < bs.length → tget t.dev.plc.token none (a.toNat + 256 * b.toNat + i) = bs[i]?) ∧
          ∀ j, j < a.toNat + 256 * b.toNat ∨ a.toNat + 256 * b.toNat + bs.length ≤ j →
            tget t.dev.plc.token none j = tget s.dev.plc.token none j)) ∧
    (∀ pec, s.dev.bal.mode ≠ .off →
      ∃ t, exec (.smbusTokenApply pec) s = .next t ∧
        (s.dev.smbPecOk [0x11] pec = false → t.dev = s.dev) ∧
        (s.dev.smbPecOk [0x11] pec = true → s.dev.tokenCheck s.dev.tokenBytes true = none →
          t.dev.plc.warden = fld (leNat s.dev.tokenBytes) 6 0 2 ∧ t.dev.plc.handovers = s.dev.plc.handovers + 1 ∧
          t.dev.plc.token = [] ∧ t.dev.plc.tokenState = 3) ∧
        ∀ k, s.dev.smbPecOk [0x11] pec = true → s.dev.tokenCheck s.dev.tokenBytes true = some k →
          t.dev.plc.warden = s.dev.plc.warden ∧ t.dev.plc.challenge = s.dev.plc.challenge ∧ t.dev.plc.token = [] ∧
          t.dev.plc.tokenState = 4 ∧ t.dev.plc.tokenCode = k) ∧
    (∃ t, exec .smbusStallTimeout s = .next t ∧ t.dev = s.dev) ∧
    (s.dev.bal.mode ≠ .off →
      ∃ t, exec .ledFrame s = .next t ∧ t.dev.out = .led ((List.range 512).flatMap s.dev.ledBits) :: s.dev.out ∧
        250000 * (s.dev.bal.ledFrames + 1) ≤ t.dev.bal.tick ∧ ∀ p, (t.dev.port p).active = false) ∧
    (∃ t, exec (.tapInstruction .idcode) s = .next t ∧ t.dev.bal.tapIr = .idcode ∧ t.dev.out = .tap 0x1D1024A3 :: s.dev.out) ∧
    (∃ t, exec (.tapInstruction .samplePreload) s = .next t ∧ t.dev.bal.tapIr = .samplePreload ∧ t.dev.out = s.dev.out) ∧
    (∀ i, i = .bypass ∨ i = .unassigned ∨ (i = .privateDebug ∧ s.dev.otp.jtagLock = true) ∨
        (i ∈ [TapInstr.extest, .extestPulse, .extestTrain, .highz, .clamp] ∧ s.dev.bal.mode ≠ .dormant ∧ s.dev.bal.mode ≠ .diagnostic) →
      ∃ t, exec (.tapInstruction i) s = .next t ∧ t.dev.bal.tapIr = .bypass ∧ t.dev.out = .tap 0 :: s.dev.out) ∧
    (∀ i, i ∈ [TapInstr.extest, .extestPulse, .extestTrain, .highz, .clamp] → s.dev.bal.mode = .dormant ∨ s.dev.bal.mode = .diagnostic →
      ∃ t, exec (.tapInstruction i) s = .next t ∧ t.dev.bal.tapIr = i ∧ t.dev.out = s.dev.out)

/-- Register accesses (20 R569, R570, R571, R572). An access of a wrong width or alignment sets BAD_ACCESS, reaches nothing, and as a
read returns 0. An access of a global register by another endpoint than the warden sets DENIED, reaches nothing, and as a read
returns 0; the warden's write of the drain limit is stored, and its read of a global register of 32 bits gives its value. Bits of the
alarm summary are cleared by writing ones. A 64-bit read gives a register of the endpoint's window at one instant; a 32-bit read of
its low half captures it, and its high half is then read from the capture. -/
def Obligations.RegisterAccessesFollowTheMap : Prop :=
  ∀ (s : State) (e off : Nat) (check : Ecc), (s.dev.ep e).answers = true → off < 0x40000 →
    (∀ width v, accessOk off width = false →
      (∃ t, exec (.setupRegisterWrite e off width v) s = .next t ∧ t.dev = s.dev.modEp e (fun x => { x with badAccess := true })) ∧
      ∃ t, exec (.wideRegisterRead e off width check) s = .next t ∧
        t.dev = (s.dev.modEp e (fun x => { x with badAccess := true })).emit (.regRead e off width 0)) ∧
    (∀ v, s.dev.isWarden e = false → 0x20000 ≤ off → off % 4 = 0 →
      (∃ t, exec (.setupRegisterWrite e off 32 v) s = .next t ∧ t.dev = s.dev.modEp e (fun x => { x with denied := true })) ∧
      ∃ t, exec (.wideRegisterRead e off 32 check) s = .next t ∧
        t.dev = (s.dev.modEp e (fun x => { x with denied := true })).emit (.regRead e off 32 0)) ∧
    (∀ v : BitVec 64, s.dev.isWarden e = true → off = 0x20024 →
      ∃ t, exec (.setupRegisterWrite e off 32 v) s = .next t ∧
        t.dev = { s.dev with bal := { s.dev.bal with drainMs := v.toNat % 2 ^ 16 } }) ∧
    (s.dev.isWarden e = true → 0x20000 ≤ off → off < 0x21000 → off % 4 = 0 → regAt off = some (off, 4) →
      ∃ t, exec (.wideRegisterRead e off 32 check) s = .next t ∧
        t.dev = s.dev.emit (.regRead e off 32 (s.dev.glReg (off - 0x20000)))) ∧
    (∀ v : BitVec 64, off = 0x10 →
      ∃ t, exec (.setupRegisterWrite e off 32 v) s = .next t ∧
        (t.dev.ep e).alarmSummary = (s.dev.ep e).alarmSummary &&& ~~~(v.truncate 32)) ∧
    (off < 0x20000 → off % 8 = 0 → regAt off = some (off, 8) → regAt (off + 4) = some (off, 8) →
      s.dev.regDenied e off = false → s.dev.regDenied e (off + 4) = false →
      (∃ t, exec (.wideRegisterRead e off 64 check) s = .next t ∧
        t.dev.out = .regRead e off 64 (s.dev.epReg e off % 2 ^ 64) :: s.dev.out) ∧
      ∃ t, exec (.wideRegisterRead e off 32 check) s = .next t ∧
        t.dev.out = .regRead e off 32 (s.dev.epReg e off % 2 ^ 32) :: s.dev.out ∧
        tget (t.dev.ep e).captures none off = some (s.dev.epReg e off)) ∧
    (∀ v, off < 0x20000 → off % 8 = 4 → regAt off = some (off - 4, 8) → s.dev.regDenied e off = false →
      tget (s.dev.ep e).captures none (off - 4) = some v →
      ∃ t, exec (.wideRegisterRead e off 32 check) s = .next t ∧ t.dev.out = .regRead e off 32 (v / 2 ^ 32 % 2 ^ 32) :: s.dev.out)

/-- Writes of registers that act (02 R58; 07 R214; 09 R265; 11 R333, R351; 12 R387; 13 R400, R411; 20 R572, R573). Of the global ones,
a write by another endpoint than the warden sets DENIED alone; the warden's acts: arbitration weights and minima are stored; a sweep
period is stored, and one written while aging stands still in FORWARDING or DRAINING starts a sweep at the next AON tick; a removed
plane comes under test; a lost CXL port that is enabled is enumerated; a map that fits is taken in PROVISIONING, and a write of
one that does not fit, or in another mode, changes no map and sets CFG_ERR; timers of the ledger's epochs in range are stored. An
endpoint's own acts: a vector map is stored with VALID where the cause may use the vector, and sets DENIED where it may not; a gauge
ring is enabled; the consumer count of a polder's export ring is taken where it does not lie beyond what was produced. -/
def Obligations.ActingRegistersActWhenWritten : Prop :=
  ∀ (s : State) (e : Nat) (v : Word), (s.dev.ep e).answers = true →
    (∀ i dw, s.dev.isWarden e = false →
      i ∈ [Instr.glCmdArbWrite e dw v, .glLrnSweepWrite e v, .planeRestore e v, .cxlRestore e v, .glSpwMapWrite e v, .glMrpCfgWrite e v] →
      ∃ t, exec i s = .next t ∧ t.dev = s.dev.modEp e (fun x => { x with denied := true })) ∧
    (∀ dw, s.dev.isWarden e = true → dw < 2 →
      ∃ t, exec (.glCmdArbWrite e dw v) s = .next t ∧
        tget t.dev.hif.weight 1 (2 * dw) = bits v.toNat 0 8 ∧ tget t.dev.hif.minDisp none (2 * dw) = some (bits v.toNat 8 7) ∧
        tget t.dev.hif.weight 1 (2 * dw + 1) = bits v.toNat 16 8 ∧
        tget t.dev.hif.minDisp none (2 * dw + 1) = some (bits v.toNat 24 7)) ∧
    (s.dev.isWarden e = true → s.dev.corePowered = true →
      ∃ t, exec (.glLrnSweepWrite e v) s = .next t ∧ t.dev.lrn.periodS = bits v.toNat 0 12 ∧
        (s.dev.lrn.sweeping = false → s.dev.bal.mode = .forwarding ∨ s.dev.bal.mode = .draining → bits v.toNat 0 12 ≠ 0 →
          t.dev.lrn.sweeping = true ∧ t.dev.lrn.sweepStart = s.dev.bal.tick + 1)) ∧
    (∀ k, s.dev.isWarden e = true → s.dev.corePowered = true → k < 4 → v.toNat.testBit (8 + k) = true → (s.dev.plane k).st = .removed →
      ∃ t, exec (.planeRestore e v) s = .next t ∧ (t.dev.plane k).st = .testing) ∧
    (∀ k, s.dev.isWarden e = true → s.dev.corePowered = true → k < 4 → v.toNat.testBit (4 + k) = true → v.toNat.testBit k = true →
      (s.dev.cxl k).lost = true → (s.dev.cxl k).inService = false →
      ∃ t, exec (.cxlRestore e v) s = .next t ∧ t.dev.spw.cxlEn = bits v.toNat 0 4 ∧ (t.dev.cxl k).enumerating = true) ∧
    (s.dev.isWarden e = true → s.dev.corePowered = true → s.dev.bal.mode = .provisioning →
      bits v.toNat 0 7 = s.dev.spw.nextMap.ledger ∨ s.dev.mrp.flows = [] →
      bits v.toNat 0 7 ≤ 64 → bits v.toNat 8 6 ≤ 32 → bits v.toNat 16 7 ≤ 64 →
      bits v.toNat 0 7 + bits v.toNat 8 6 + bits v.toNat 16 7 + 8 ≤ 144 → s.dev.longReachNeed ≤ bits v.toNat 16 7 →
      ∃ t, exec (.glSpwMapWrite e v) s = .next t ∧ t.dev.spw.nextMap.telemetry = bits v.toNat 8 6 ∧
        t.dev.spw.nextMap.longReach = bits v.toNat 16 7 ∧ t.dev.spw.nextMap.ledger = bits v.toNat 0 7) ∧
    (s.dev.isWarden e = true → s.dev.corePowered = true → v.toNat.testBit 31 = false →
      s.dev.bal.mode ≠ .provisioning ∨ bits v.toNat 16 7 < s.dev.longReachNeed ∨
        144 < bits v.toNat 0 7 + bits v.toNat 8 6 + bits v.toNat 16 7 + 8 →
      ∃ t, exec (.glSpwMapWrite e v) s = .next t ∧ t.dev.spw.nextMap = s.dev.spw.nextMap ∧ t.dev.spw.cfgErr = true) ∧
    (s.dev.isWarden e = true → s.dev.corePowered = true → bits v.toNat 0 16 ≤ 59999 → 1 ≤ bits v.toNat 16 10 → bits v.toNat 16 10 ≤ 1000 →
      ∃ t, exec (.glMrpCfgWrite e v) s = .next t ∧ t.dev.mrp.closeMs = bits v.toNat 16 10 ∧ t.dev.mrp.offsetMs = bits v.toNat 0 16) ∧
    (∀ cause, cause < 576 → v.toNat.testBit 15 = true →
      (s.dev.causeVec e cause (bits v.toNat 0 9) = true → (s.dev.ep e).gather = [] → (s.dev.ep e).alarmOwed = false →
        ∃ t, exec (.epVecMapWrite e cause v) s = .next t ∧
          t.dev.vecMap e cause = BitVec.ofNat 16 (bits v.toNat 0 9 + 2 ^ 15) ∧ t.dev.out = s.dev.out) ∧
      (s.dev.causeVec e cause (bits v.toNat 0 9) = false → s.dev.vecOwned e (bits v.toNat 0 9) = false →
        ∃ t, exec (.epVecMapWrite e cause v) s = .next t ∧ t.dev = s.dev.modEp e (fun x => { x with denied := true }))) ∧
    ((s.dev.ep e).up = true → (s.dev.ep e).gauge.enable = false → v.toNat.testBit 16 = true → 6 ≤ bits v.toNat 0 5 →
      bits v.toNat 0 5 ≤ 16 →
      ∃ t, exec (.epGaugeRingWrite e 2 v) s = .next t ∧ (t.dev.ep e).gauge.enable = true ∧
        (t.dev.ep e).gauge.sizeLog2 = bits v.toNat 0 5) ∧
    (∀ p, p < 8 → s.dev.owns e p = true → (v - (s.dev.mrpRing p).prod = 0 ∨ 2 ^ 31 ≤ (v - (s.dev.mrpRing p).prod).toNat) →
      ∃ t, exec (.epMrpRingConsWrite e p v) s = .next t ∧ t.dev.mrpRing p = { s.dev.mrpRing p with cons := v })

/-- A frame enters and is stored (01 R31; 04 R121, R122, R127, R140; 05 R142; 09 R253, R254, R255, R257, R271; 10 R289). A header window
that is complete while its pipeline sleeps waits in the skid buffers, or, where they are full, is counted and lost. While the parser is
up, no request for a cell waits and no new window comes, the port in turn makes the pass of its oldest frame: a wire frame below 64
bytes is counted and dropped there. The last byte with a good FCS makes a packet whole, a bad one drops the copies not granted, and a
frame too long is counted once. A cell in hand crosses on the first plane of the spray set from its pipeline's pointer on, which moves
behind it; a cut-through cell goes to its egress pipeline as well, and a read back from the banks to its own. A cell confirmed is marked;
a packet whose cells are not all confirmed in time keeps no copy that waits for them. -/
def Obligations.FramesEnterAndAreStored : Prop :=
  ∀ (s : State),
    (∀ pipe port bytes flaws upper, pipe < 16 → s.dev.takesPackets = true → s.dev.asking = [] → (s.dev.pipe pipe).asleep = true →
      (s.dev.pipe pipe).parseStopped = false → (s.dev.pipe pipe).actionStopped = false → port / 32 = pipe → s.dev.isPort port = true →
      (s.dev.port port).st = .up → s.dev.loopKind port = 0 → isMacControl bytes = false →
      ∃ t, exec (.headerWindowComplete pipe [(port, bytes)] flaws upper) s = .next t ∧
        ((s.dev.wakesInTime pipe || decide ((s.dev.port port).skidBytes + bytes.length + 4 ≤ (s.dev.port port).lanes * 8192)) = true →
          t.dev = s.dev.modPort port (fun y => { y with skid := y.skid ++ [bytes] })) ∧
        ((s.dev.wakesInTime pipe || decide ((s.dev.port port).skidBytes + bytes.length + 4 ≤ (s.dev.port port).lanes * 8192)) = false →
          t.dev.pte = s.dev.pte ∧ t.dev.ctr .drSkidOverrun port = min (s.dev.ctr .drSkidOverrun port + 1) (2 ^ 64 - 1))) ∧
    (∀ pipe flaws upper i port d, pipe < 16 → s.dev.takesPackets = true → s.dev.parserUp pipe = true → s.dev.asking = [] →
      s.dev.parseTurn pipe = some i → port = (pipePorts pipe).getD i 0 →
      d = { s.dev with dp := { s.dev.dp with rrParse := tset s.dev.dp.rrParse ((pipePorts pipe).length - 1) pipe i } } →
      ∃ t, exec (.headerWindowComplete pipe [] flaws upper) s = .next t ∧
        t.dev = (if port < 512 then d.wireEntry port flaws upper else if port < 528 then d.loopEntry (port - 512) flaws upper
          else d.hostEntry (port - 528) flaws upper).presentAll ∧
        ∀ bytes rest, port < 512 → (s.dev.port port).skid = bytes :: rest → bytes.length < 60 →
          t.dev.dp.pkts = s.dev.dp.pkts ∧ t.dev.bpm = s.dev.bpm ∧ (t.dev.port port).skid = rest ∧
          t.dev.ctr .drRxRunt port = min (s.dev.ctr .drRxRunt port + 1) (2 ^ 64 - 1) ∧
          t.dev.ctr .rxFrames port = min (s.dev.ctr .rxFrames port + 1) (2 ^ 64 - 1) ∧
          t.dev.ctr .rxBytes port = min (s.dev.ctr .rxBytes port + (bytes.length + 4)) (2 ^ 64 - 1)) ∧
    (∀ pid x fcsOk fec, s.dev.pkt? pid = some x → x.whole = false → x.mirror = false →
      ∃ t, exec (.frameLastByte pid fcsOk fec) s = .next t ∧
        (∀ p, x.ingress = .wire p → s.dev.tooLong x = false → fcsOk = true →
          t.dev.ctr .fecCorrected p = min (s.dev.ctr .fecCorrected p + fec.corrected) (2 ^ 64 - 1)) ∧
        (∀ y, t.dev.pkt? pid = some y → y.whole = true ∧ y.badFcs = !fcsOk ∧ y.oldCells = []) ∧
        (s.dev.tooLong x = false → fcsOk = false → ∀ y, t.dev.pkt? pid = some y → y.waiting = [] ∧ y.ask = none) ∧
        (s.dev.tooLong x = true → x.copies ≠ 0 →
          t.dev.ctr .drRxOversize x.first = min (s.dev.ctr .drRxOversize x.first + 1) (2 ^ 64 - 1))) ∧
    (∀ pid x k how cell, s.dev.swc.reads = [] → s.dev.pkt? pid = some x → x.writes = true → x.cells[x.written]? = some cell →
      x.repl = none → how = Carried.clean ∨ how = .corrected ∨ how = .lost →
      (((List.range 4).map (fun j => (tget s.dev.swc.spray 0 x.pipe + j) % 4)).filter s.dev.spraySet.contains).head? = some k →
      ∃ t, exec (.cellWriteCrossing [(pid, how)]) s = .next t ∧
        t.dev.pkt? pid = some { x with written := x.written + 1, lastWrite := s.dev.bal.tick } ∧
        tget t.dev.swc.spray 0 x.pipe = (k + 1) % 4 ∧
        t.dev.ctr .swcCells k = min (s.dev.ctr .swcCells k + 1) (2 ^ 64 - 1) ∧
        t.dev.swc.toBank = s.dev.swc.toBank ++ (if how = .lost then [] else [crossOf pid x k x.written cell]) ∧
        t.dev.swc.flight = s.dev.swc.flight ++ (x.ctTo.take 1).map (fun u => { crossOf pid x k x.written cell with
          dst := pipeOf u.port, stream := x.pipe, seq := (s.dev.stream (pipeOf u.port) x.pipe).sendSeq })) ∧
    (∀ x k, s.dev.swc.reads = [x] → x.mc = false →
      (((List.range 4).map (fun j => (tget s.dev.swc.spray 0 (16 + x.dst) + j) % 4)).filter s.dev.spraySet.contains).head? = some k →
      ∃ t, exec (.cellWriteCrossing []) s = .next t ∧ t.dev.swc.reads = [] ∧ tget t.dev.swc.spray 0 (16 + x.dst) = (k + 1) % 4 ∧
        t.dev.swc.flight = s.dev.swc.flight ++ [{ x with plane := k, seq := (s.dev.stream x.dst x.stream).sendSeq }]) ∧
    (∀ cell x y, s.dev.swc.toBank.find? (fun z => decide (z.cell = cell)) = some x → (s.dev.cell cell).held = true →
      s.dev.pkt? x.pid = some y → cell ∈ y.cells →
      ∃ t, exec (.writeConfirm cell) s = .next t ∧ (t.dev.cell cell).confirmed = true ∧ t.dev.swc.toBank = s.dev.swc.toBank.erase x) ∧
    (∀ pid x, s.dev.pkt? pid = some x → x.waiting ≠ [] → x.written = x.need →
      (x.cells.all (fun c => (s.dev.cell c).confirmed)) = false →
      ∃ t, exec (.confirmTimeout pid) s = .next t ∧ x.lastWrite + 1 ≤ t.dev.bal.tick ∧
        ∀ y, t.dev.pkt? pid = some y → y.waiting = [] ∧ y.copies = x.copies - x.waiting.length)

/-- Cells cross to the egress (09 R256, R259, R260, R264, R265, R279). A unicast cell that its stream expects is released at once; of a
source's multicast cells to a pipeline the oldest arrives; a cell lost on its plane leaves, and the plane's source is raised. A gap is
skipped when its timer runs out, and the held cell behind it released. A plane that is found failed leaves the spray set; once removed,
no source stays on it for multicast while another plane is active; its self-check is repeated, and after a restore it is active again
if its test passes. Of the multicast copies of a queue that is held, the one queued longest is dropped when its time is up. -/
def Obligations.CellsCrossThePlanes : Prop :=
  ∀ (s : State),
    (∀ k x, s.dev.swc.flight[k]? = some x → x.mc = false → x.poison = false → (s.dev.stream x.dst x.stream).held = [] →
      x.seq = (s.dev.stream x.dst x.stream).next →
      ∃ t, exec (.cellArrivalEgress k .clean) s = .next t ∧ t.dev.swc.flight = s.dev.swc.flight.eraseIdx k ∧
        t.dev.stream x.dst x.stream = { s.dev.stream x.dst x.stream with
          next := (x.seq + 1) % 65536, held := [], last := some x, gapAt := none }) ∧
    (∀ k x j y, s.dev.swc.flight[k]? = some x → s.dev.dueCell k x = j → s.dev.swc.flight[j]? = some y → y.plane < 4 →
      ∃ t, exec (.cellArrivalEgress k .lost) s = .next t ∧ t.dev.swc.flight = s.dev.swc.flight.eraseIdx j ∧
        (t.dev.src (0xA04 + y.plane)).live = true ∧ t.dev.dp = s.dev.dp ∧
        (x.mc = true → ∀ i z, s.dev.swc.flight[i]? = some z → z.mc = true → z.src = x.src → z.dst = x.dst → j ≤ i)) ∧
    (∀ q n t0 x, q < 16 → (s.dev.stream q n).gapAt = some t0 → (s.dev.stream q n).held = [x] →
      ∃ t, exec (.reseqGapTimeout q n) s = .next t ∧ (t.dev.src (0xA10 + q)).live = true ∧ t0 + 50 ≤ t.dev.bal.tick ∧
        t.dev.stream q n = { s.dev.stream q n with next := (x.seq + 1) % 65536, held := [], last := some x, gapAt := none }) ∧
    (∀ k pipe cause, k < 4 → (s.dev.plane k).st = .active → (cause = 1 → (s.dev.plane k).fourBad pipe = true) →
      ∃ t, exec (.planeFailure k pipe cause) s = .next t ∧ t.dev.plane k = { st := .failed, since := t.dev.bal.tick } ∧
        (cause = 0 → tget (s.dev.plane k).heard 0 pipe + 8 ≤ t.dev.bal.tick) ∧
        (t.dev.src (0xA00 + k)).live = true ∧ k ∉ t.dev.spraySet ∧ (∀ j, j ≠ k → t.dev.plane j = s.dev.plane j)) ∧
    (∀ k, (s.dev.plane k).st = .failed →
      ∃ t, exec (.planeRemoved k) s = .next t ∧
        t.dev.plane k = { s.dev.plane k with st := .removed, since := s.dev.bal.tick, checked := false } ∧
        (∀ p, p < 16 → s.dev.mcPlane p = k → s.dev.spraySet ≠ [] → (t.dev.plane (t.dev.mcPlane p)).st = .active)) ∧
    (∀ k ok, (s.dev.plane k).st = .removed → (s.dev.plane k).checked = false →
      ∃ t, exec (.planeSelfCheck k ok) s = .next t ∧ (t.dev.plane k).checked = true ∧
        (s.dev.plane k).since + 250 ≤ t.dev.bal.tick) ∧
    (∀ k, k < 4 → (s.dev.plane k).st = .testing →
      (∃ t, exec (.planeBistDone k true) s = .next t ∧ t.dev.plane k = {} ∧ k ∈ t.dev.spraySet) ∧
      (∃ t, exec (.planeBistDone k false) s = .next t ∧ (t.dev.plane k).st = .removed)) ∧
    (∀ port m ent rest x, port < 512 →
      ((s.dev.fcp port).paused (16 + m) = true ∨ (s.dev.port port).st = .holdRunning) →
      (s.dev.queue (Dest.mc port m).key).ents = ent :: rest → s.dev.pkt? ent.pid = some x →
      (∀ b ∈ s.dev.mcQueued (.mc port m), x.holdDue ≤ ((s.dev.pkt? b.1).map Pkt.holdDue).getD 0) →
      ∃ t, exec (.mcCopyHoldDrop port m) s = .next t ∧ (t.dev.queue (Dest.mc port m).key).ents = rest ∧
        (t.dev.src 0xA30).live = true ∧ x.admTick + 25 * x.mcHold ≤ t.dev.bal.tick)

/-- A port sends (09 R270, R272, R280; 12 R362, R363, R364). The first port in turn behind the Escapement's pointer that is ready and
has a frame to send takes the frame that its scheduler chooses: the frame leaves its queue, is rewritten and stands in the port's
transmit record, and the pointer stands at the port. A charge that is due takes the bytes that the rewrite added, and for a cut-through
frame the whole. A frame that is there leaves the device with its FCS, stomped where it ends so; one that lacks a cell is ended by an
underrun at the bytes it has, with a stomped FCS. -/
def Obligations.PortsSendChosenFrames : Prop :=
  ∀ (s : State) (p : Nat),
    (∀ pipe i q sch e x bytes, pipe < 16 → s.dev.takesPackets = true → (s.dev.pipe pipe).actionStopped = false →
      (s.dev.pipe pipe).asleep = false →
      i = (tget s.dev.dp.rrPort ((pipePorts pipe).length - 1) pipe + 1) % (pipePorts pipe).length → p = (pipePorts pipe).getD i 0 →
      p < 512 → s.dev.portOpen p = true →
      (s.dev.frontReady p).choose p = some (q, sch) → (s.dev.frontReady p).head? (portKey p q) = some (e, x) →
      e.part ≠ .ret → e.ct = false →
      (((s.dev.frontReady p).takeHead p q sch e x).2.rewriteCopy e x (destOf (portKey p q)) {}).1 = .frame bytes none →
      bytes.length + 4 ≤ ((((s.dev.frontReady p).takeHead p q sch e x).2.rewriteCopy e x (destOf (portKey p q)) {}).2.port p).maxFrame →
      ∃ t, exec (.dispatchDecision pipe {}) s = .next t ∧ tget t.dev.dp.rrPort ((pipePorts pipe).length - 1) pipe = i ∧
        ∃ y ∈ t.dev.txs p, y.ent = e ∧ y.bytes = bytes ∧ y.dest = destOf (portKey p q) ∧ y.need = x.need ∧ y.stomp = x.badFcs) ∧
    (∀ i y, s.dev.owedAt p = [] → (s.dev.txs p).findIdx? Tx.due = some i → (s.dev.txs p)[i]? = some y →
      ∃ t, exec (.rewriteLengthCharge p) s = .next t ∧ t.dev.txs p = (s.dev.txs p).set i { y with charged := true } ∧
        (s.dev.isPort p = true → t.dev.esc = ((s.dev.setTxs p ((s.dev.txs p).set i { y with charged := true })).chargeLate p y).esc)) ∧
    (∀ y, (s.dev.owedAt p).find? Tx.due = some y →
      ∃ t, exec (.rewriteLengthCharge p) s = .next t ∧ t.dev.owedAt p = (s.dev.owedAt p).erase y ∧ t.dev.txs p = s.dev.txs p) ∧
    (∀ y rest x a b, p < 528 → s.dev.txs p = y :: rest → s.dev.pkt? y.ent.pid = some x → y.need ≤ y.got → x.need ≤ y.got →
      (x.whole = true ∨ y.stomp = true) → y.dest = .uni a b → s.dev.loopKind p = 0 →
      ∃ t, exec (.frameTransmitEnd p) s = .next t ∧ t.dev.txs p = rest ∧
        .frame p (y.bytes ++ leBytes 4 (if y.stomp then crc32 y.bytes ^^^ 0xFFFFFFFF else crc32 y.bytes)) ∈ t.dev.out) ∧
    (∀ y rest x a b, p < 528 → s.dev.txs p = y :: rest → s.dev.pkt? y.ent.pid = some x → y.got < y.need → y.got < x.need →
      y.dest = .uni a b → s.dev.loopKind p = 0 →
      ∃ t, exec (.txUnderrun p) s = .next t ∧ t.dev.txs p = rest ∧
        .frame p (y.bytes.take ((256 * y.got : Int) + y.delta).toNat ++
          leBytes 4 (crc32 (y.bytes.take ((256 * y.got : Int) + y.delta).toNat) ^^^ 0xFFFFFFFF)) ∈ t.dev.out)

/-- The cells of the buffer (10 R286, R300 to R303, R305, R306). The last release of a held cell frees it to its list's return cache,
where a full cache gives its oldest cell to the chain; an earlier one takes one reference; a release of a free cell or one that cites
another account changes nothing in the buffer and raises its source; where the counters of the cell's account fail their parity, the
account is to be rebuilt. A refill reads the next chain link, passing over a retired cell, or links the oldest returned one; a link that
fails has its list rebuilt; a rebuilt list holds every free cell, and a rebuilt account counts for each class the cells that the
descriptors give. The sweep marks an unconfirmed cell on one visit and reclaims it on the next, clears the mark of a confirmed one, and
a descriptor that fails retires its cell. -/
def Obligations.BufferCellsAreReleasedOnce : Prop :=
  ∀ (s : State),
    (∀ party cell acct parity, (s.dev.cell cell).held = true → (s.dev.cell cell).owner = acct →
      ∃ t, exec (.cellRelease party cell acct parity) s = .next t ∧
        (parity = true → (t.dev.acct acct).rebuilding = true ∧ (t.dev.src 0xB08).live = true) ∧
        ((s.dev.cell cell).ref ≤ 1 → s.dev.bpm.condemned.contains cell = false → t.dev.cell cell = {} ∧
          ((s.dev.flist (listOf cell)).retCache.length < 256 →
            (t.dev.flist (listOf cell)).retCache = cell :: (s.dev.flist (listOf cell)).retCache) ∧
          ((s.dev.flist (listOf cell)).retCache.length = 256 →
            (t.dev.flist (listOf cell)).retCache = cell :: (s.dev.flist (listOf cell)).retCache.dropLast ∧
            (t.dev.flist (listOf cell)).chain = (s.dev.flist (listOf cell)).chain + 1)) ∧
        ((s.dev.cell cell).ref ≤ 1 → s.dev.bpm.condemned.contains cell = true → t.dev.cell cell = {} ∧ cell ∈ t.dev.bpm.retired) ∧
        (2 ≤ (s.dev.cell cell).ref → parity = false →
          t.dev = s.dev.modCell cell (fun y => { y with ref := y.ref - 1 }))) ∧
    (∀ party cell acct parity,
      ((s.dev.cell cell).held = false →
        ∃ t, exec (.cellRelease party cell acct parity) s = .next t ∧ t.dev.bpm = s.dev.bpm ∧ (t.dev.src 0xB00).live = true) ∧
      ((s.dev.cell cell).held = true → (s.dev.cell cell).owner ≠ acct →
        ∃ t, exec (.cellRelease party cell acct parity) s = .next t ∧ t.dev.cell cell = s.dev.cell cell ∧
          (parity = false → t.dev.bpm = s.dev.bpm) ∧ (t.dev.src 0xB01).live = true)) ∧
    (∀ list check, list < 16 → (s.dev.flist list).rebuilding = false → check = Ecc.clean ∨ check = .corrected →
      ∃ t, exec (.freeListRefill list check) s = .next t ∧
        ((s.dev.flist list).headCache.length < 32 → (s.dev.flist list).retCache.length ≤ 192 → (s.dev.flist list).chain ≠ 0 →
          t.dev.flist list = { s.dev.flist list with
            head := (s.dev.link (s.dev.flist list).head).1, chain := (s.dev.flist list).chain - 1
            headCache := if s.dev.bpm.retired.contains (s.dev.flist list).head then (s.dev.flist list).headCache
              else (s.dev.flist list).headCache ++ [(s.dev.flist list).head] }) ∧
        (32 ≤ (s.dev.flist list).headCache.length → 192 < (s.dev.flist list).retCache.length →
          t.dev.flist list = { s.dev.flist list with
            head := (s.dev.flist list).retCache.getLast?.getD 0, chain := (s.dev.flist list).chain + 1
            retCache := (s.dev.flist list).retCache.dropLast })) ∧
    (∀ list check, list < 16 → (s.dev.flist list).rebuilding = false → check = Ecc.once ∨ check = .lasting →
      ∃ t, exec (.freeListRefill list check) s = .next t ∧ t.dev.flist list = { s.dev.flist list with rebuilding := true } ∧
        (t.dev.src 0xB03).live = true ∧ (t.dev.src 0xB03).lasting = decide (check = .lasting)) ∧
    (∀ list, (s.dev.flist list).rebuilding = true →
      ∃ t, exec (.freelistRebuildDone list) s = .next t ∧ t.dev.flist list = {
        head := (s.dev.freeOf list).headD 0, chain := (s.dev.freeOf list).length, headCache := [], retCache := []
        rebuilding := false }) ∧
    (∀ acct, (s.dev.acct acct).rebuilding = true →
      ∃ t, exec (.accountRebuildDone acct) s = .next t ∧ (t.dev.acct acct).rebuilding = false ∧
        ∀ c, c < 8 → (t.dev.acct acct).m.getD c 0 + (t.dev.acct acct).sh.getD c 0 + (t.dev.acct acct).hu.getD c 0 +
          (t.dev.acct acct).ov.getD c 0 = s.dev.heldBy acct c) ∧
    (∀ check, check = Ecc.clean ∨ check = .corrected →
      ∃ t, exec (.orphanSweepVisit check) s = .next t ∧ t.dev.bpm.sweepPos = (s.dev.bpm.sweepPos + 1) % 1048576 ∧
        ((s.dev.cell s.dev.bpm.sweepPos).held = true → (s.dev.cell s.dev.bpm.sweepPos).confirmed = true →
          t.dev.cell s.dev.bpm.sweepPos = { s.dev.cell s.dev.bpm.sweepPos with mark := false }) ∧
        ((s.dev.cell s.dev.bpm.sweepPos).held = true → (s.dev.cell s.dev.bpm.sweepPos).confirmed = false →
          ((s.dev.cell s.dev.bpm.sweepPos).mark = false →
            t.dev.cell s.dev.bpm.sweepPos = { s.dev.cell s.dev.bpm.sweepPos with mark := true }) ∧
          ((s.dev.cell s.dev.bpm.sweepPos).mark = true →
            t.dev.cell s.dev.bpm.sweepPos = {} ∧ (t.dev.src 0xB06).live = true))) ∧
    (∀ check, check = Ecc.once ∨ check = .lasting →
      ∃ t, exec (.orphanSweepVisit check) s = .next t ∧ t.dev.bpm.sweepPos = (s.dev.bpm.sweepPos + 1) % 1048576 ∧
        s.dev.bpm.sweepPos ∈ t.dev.bpm.retired ∧ (t.dev.src 0xB02).live = true)

/-- Commands on accounts and flow control (10 R325, R326, R327, R328). SET stores an account's MIN, MAX, ALPHA and XON_DELTA where
there is room for the MIN, and ends in NO_ROOM where there is not; READ returns its counters; RELEASE gives back one reference and
returns those left, and refuses a free cell or another account's; a headroom goal is stored for each chosen class; a port's pause
settings are stored. A port that does not exist is not found. -/
def Obligations.BufferCommandsComplete : Prop :=
  ∀ (s : State) (c : CmdRef) (io : Io) (x : Cmd), s.dev.isRunning c x →
    (∀ a, isOpAct 0x60 (18, 0, 2) 0 x = true → a = x.fld 16 0 10 → (a < 512 → s.dev.isPort a = true) →
      ∃ t, exec (.opPoolSetSet c io) s = .next t ∧
        ((∀ p, a < 512 → s.dev.lanePolder a = some p →
            s.dev.polderReserved p + x.fld 20 0 21 ≤ (s.dev.polder p).cellMin + (s.dev.acct a).min) →
          (512 ≤ a → s.dev.internalMin + s.dev.cellMins + x.fld 20 0 21 ≤ 1048576 + (s.dev.acct a).min) →
          t.dev.ended c x okDone ∧
          (t.dev.acct a).min = x.fld 20 0 21 ∧
          (t.dev.acct a).max = (if x.fld 24 0 21 = 0 then 1048576 else x.fld 24 0 21) ∧
          (t.dev.acct a).alpha = nibbles (x.fld 28 0 32) ∧
          (t.dev.acct a).xonDelta = (if x.fld 32 0 16 = 0 then 32 else x.fld 32 0 16)) ∧
        (∀ p, a < 512 → s.dev.lanePolder a = some p →
          (s.dev.polder p).cellMin + (s.dev.acct a).min < s.dev.polderReserved p + x.fld 20 0 21 →
          t.dev.ended c x (failDone stNoRoom) ∧ t.dev.bpm = s.dev.bpm)) ∧
    (∀ a, isOpAct 0x60 (18, 0, 2) 1 x = true → a = x.fld 16 0 10 → 512 ≤ a ∨ s.dev.isPort a = true →
      ∃ t, exec (.opPoolSetRead c io) s = .next t ∧ t.dev.ended c x (okDone
        (pack [(0, 21, (s.dev.acct a).held), (21, 21, sumN (s.dev.acct a).m), (42, 21, sumN (s.dev.acct a).sh)])
        (pack [(0, 21, sumN (s.dev.acct a).hu), (21, 8, (s.dev.acct a).closed),
          (29, 8, (List.range 8).foldl (fun m i => if 0 < (s.dev.acct a).ov.getD i 0 then m + 2 ^ i else m) 0),
          (37, 21, s.dev.freeShared)]))) ∧
    (∀ y, isOpAct 0x60 (18, 0, 2) 2 x = true → y = s.dev.cell (x.fld 36 0 20) →
      ∃ t, exec (.opPoolSetRelease c io) s = .next t ∧
        (y.held = true → y.owner = x.fld 16 0 10 → 1 ≤ y.ref → t.dev.ended c x (okDone (y.ref - 1))) ∧
        (y.held = false → t.dev.ended c x (failDone stBadOperand (36 + 256 * 1)) ∧ t.dev.bpm = s.dev.bpm) ∧
        (y.held = true → y.owner ≠ x.fld 16 0 10 → t.dev.ended c x (failDone stBadOperand (36 + 256 * 2)) ∧ t.dev.bpm = s.dev.bpm)) ∧
    (isOp 0x61 x = true → s.dev.isPort (x.fld 16 0 10) = true →
      (x.fld 20 0 16 < 2048 → ∀ k, (s.dev.lrq (x.fld 16 0 10) k).mib = 0) →
      (∀ q, s.dev.lanePolder (x.fld 16 0 10) = some q →
        s.dev.polderReserved q + (setBits (x.fld 18 0 8) 8).length * x.fld 20 0 16 ≤ (s.dev.polder q).cellMin +
          (setBits (x.fld 18 0 8) 8).foldl (fun n k => n + (s.dev.acct (x.fld 16 0 10)).hr.getD k 0) 0) →
      (s.dev.acct (x.fld 16 0 10)).hrGoal.length = 8 →
      ∃ t, exec (.opHeadroomSet c io) s = .next t ∧ t.dev.ended c x (okDone (sumN (t.dev.acct (x.fld 16 0 10)).hr)) ∧
        ∀ k, k < 8 → (x.fld 18 0 8).testBit k = true → (t.dev.acct (x.fld 16 0 10)).hrGoal.getD k 0 = x.fld 20 0 16) ∧
    (∀ p, isOp 0x63 x = true → p = x.fld 16 0 10 → s.dev.isPort p = true →
      ∃ t, exec (.opPfcSet c io) s = .next t ∧ t.dev.ended c x okDone ∧
        (t.dev.fcp p).pauseMode = decide (x.fld 18 0 2 = 1) ∧
        (t.dev.fcp p).stormBreak = decide (x.fld 18 2 1 = 1) ∧
        (t.dev.fcp p).defPcp = x.fld 19 0 3 ∧
        (t.dev.fcp p).quanta = (if x.fld 20 0 16 = 0 then 65535 else x.fld 20 0 16) ∧
        (t.dev.fcp p).stormMs = (if x.fld 22 0 16 = 0 then 50 else x.fld 22 0 16) ∧
        (t.dev.fcp p).recoverMs = (if x.fld 24 0 16 = 0 then 100 else x.fld 24 0 16) ∧
        (t.dev.fcp p).ecnCells = x.fld 26 0 16 ∧
        (t.dev.fcp p).prioMap = (List.range 8).map (fun i => x.fld 28 (3 * i) 3) ∧
        (t.dev.fcp p).qmap = (List.range 8).map (fun i => x.fld (32 + 2 * i) 0 16) ∧
        (t.dev.fcp p).sa = x.fld 52 0 48) ∧
    (x.fld 16 0 10 < 512 → s.dev.isPort (x.fld 16 0 10) = false →
      (isOpAct 0x60 (18, 0, 2) 0 x = true → ∃ t, exec (.opPoolSetSet c io) s = .next t ∧ t.dev.ended c x (failDone stNotFound)) ∧
      (isOpAct 0x60 (18, 0, 2) 1 x = true → ∃ t, exec (.opPoolSetRead c io) s = .next t ∧ t.dev.ended c x (failDone stNotFound)) ∧
      (isOp 0x61 x = true → ∃ t, exec (.opHeadroomSet c io) s = .next t ∧ t.dev.ended c x (failDone stNotFound)) ∧
      (isOp 0x63 x = true → ∃ t, exec (.opPfcSet c io) s = .next t ∧ t.dev.ended c x (failDone stNotFound)))

/-- Pause frames and the watchdog (10 R307 to R311, R318, R319). A class takes the state of its account and owes a frame; a frame
owed is sent by a port that is UP, and a frame with every class in XOFF is sent again at each interval, which takes with it the change
that waits; a received frame loads the timers of the classes it names, those of a break excepted, and one of the mode that the port does
not have is counted and ignored; timers end when they run out; another MAC Control frame is counted and dropped. A queue paused too
long is in storm; with STORM_BREAK its pauses are broken off, and honoured again when the time of the break has passed. -/
def Obligations.PauseFollowsItsFramesAndTimers : Prop :=
  ∀ (s : State) (p : Nat), p < 512 →
    (∀ cls, s.dev.isPort p = true → cls < 8 →
      ∃ t, exec (.holdBusNotice p cls) s = .next t ∧ (t.dev.fcp p).xoff.testBit cls = s.dev.wantXoff p cls ∧
        ((s.dev.fcp p).xoff.testBit cls ≠ s.dev.wantXoff p cls → (t.dev.fcp p).owed = true) ∧
        ∀ k, k ≠ cls → (t.dev.fcp p).xoff.testBit k = (s.dev.fcp p).xoff.testBit k) ∧
    (s.dev.isPort p = true → (s.dev.fcp p).owed = true → (s.dev.port p).st = .up → s.dev.loopKind p = 0 →
      ∃ t, exec (.pfcFrameSend p) s = .next t ∧ (t.dev.fcp p).owed = false ∧ (t.dev.fcp p).sent = (s.dev.fcp p).xoff ∧
        t.dev.out = .frame p ((s.dev.fcp p).frame ((s.dev.fcp p).xoff ||| (s.dev.fcp p).sent) (s.dev.fcp p).xoff) :: s.dev.out) ∧
    (s.dev.isPort p = true → (s.dev.fcp p).sent ≠ 0 → (s.dev.fcp p).xoff ≠ 0 → (s.dev.port p).st = .up → s.dev.loopKind p = 0 →
      ∃ t, exec (.pfcRefresh p) s = .next t ∧ (s.dev.fcp p).nextRefresh ≤ t.dev.bal.tick ∧ (t.dev.fcp p).sent = (s.dev.fcp p).xoff ∧
        (t.dev.fcp p).owed = false ∧
        t.dev.out = .frame p ((s.dev.fcp p).frame ((s.dev.fcp p).xoff ||| (s.dev.fcp p).sent) (s.dev.fcp p).xoff) :: s.dev.out) ∧
    (∀ vector times, s.dev.isPort p = true →
      ∃ t, exec (.pfcFrameReceive p vector times) s = .next t ∧
        ((s.dev.fcp p).pauseMode = true → t.dev.fcps = s.dev.fcps ∧
          t.dev.ctr .pauseRxIgnored p = min (s.dev.ctr .pauseRxIgnored p + 1) (2 ^ 64 - 1)) ∧
        ((s.dev.fcp p).pauseMode = false → ∀ k, k < 8 → vector.testBit k = true → (s.dev.fcp p).ignored k = false →
          (quantaTicks (times.getD k 0) (s.dev.macRate p) ≠ 0 →
            (k, s.dev.bal.tick + quantaTicks (times.getD k 0) (s.dev.macRate p)) ∈ (t.dev.fcp p).timers) ∧
          (quantaTicks (times.getD k 0) (s.dev.macRate p) = 0 → ∀ u ∈ (t.dev.fcp p).timers, u.1 ≠ k))) ∧
    (∀ time, s.dev.isPort p = true →
      ∃ t, exec (.pauseFrameReceive p time) s = .next t ∧
        ((s.dev.fcp p).pauseMode = true → (s.dev.fcp p).ignored 8 = false → quantaTicks time (s.dev.macRate p) ≠ 0 →
          (8, s.dev.bal.tick + quantaTicks time (s.dev.macRate p)) ∈ (t.dev.fcp p).timers) ∧
        ((s.dev.fcp p).pauseMode = false → t.dev.fcps = s.dev.fcps ∧
          t.dev.ctr .pauseRxIgnored p = min (s.dev.ctr .pauseRxIgnored p + 1) (2 ^ 64 - 1))) ∧
    (∀ opcode, s.dev.isPort p = true → opcode ≠ 0x0101 → opcode ≠ 0x0001 →
      ∃ t, exec (.macControlReceive p opcode) s = .next t ∧
        t.dev.ctr .drMacControl p = min (s.dev.ctr .drMacControl p + 1) (2 ^ 64 - 1)) ∧
    (∀ cls u, (s.dev.fcp p).timers.find? (fun t => decide (t.1 = cls)) = some u →
      ∃ t, exec (.pauseTimerExpiry p cls) s = .next t ∧ (∀ w ∈ (t.dev.fcp p).timers, w.1 ≠ cls) ∧ u.2 ≤ t.dev.bal.tick) ∧
    (∀ q since, tget (s.dev.fcp p).pausedSince none q = some since → (s.dev.fcp p).storm.contains q = false →
      ∃ t, exec (.pauseStorm p q) s = .next t ∧ since + 25000 * (s.dev.fcp p).stormMs ≤ t.dev.bal.tick ∧
        ((s.dev.fcp p).stormBreak = false → q ∈ (t.dev.fcp p).storm ∧ (t.dev.src (0x300 + p)).live = true) ∧
        ((s.dev.fcp p).stormBreak = true →
          (t.dev.fcp p).breaks = (s.dev.fcp p).breaks ++ [(q, t.dev.bal.tick + 25000 * (s.dev.fcp p).recoverMs)] ∧
          ∀ u ∈ (t.dev.fcp p).timers, (t.dev.fcp p).ignored u.1 = false)) ∧
    (∀ q b, (s.dev.fcp p).breaks.find? (fun b => decide (b.1 = q)) = some b →
      ∃ t, exec (.pauseBreakEnd p q) s = .next t ∧ (t.dev.fcp p).breaks = (s.dev.fcp p).breaks.erase b ∧ b.2 ≤ t.dev.bal.tick)

/-- Links (01 R28; 04 R117, R124, R125, R126, R129, R130, R132; 10 R322, R323). A cause that begins on a lane of a port that debounces
is noted on the lane; once the loss of an UP port is declared, its hold starts, or with HOLD_US 0 the actions of expiry are taken at
once. The link is UP again once its lanes are, unless its transmitters idle; expiry frees the frames of its queues, and when the flush
is done the queues are barred. A port that cannot realign trains, fails after its time and waits before the next attempt, a C2M port
starting anew at once; a mismatch is recorded; a macro's calibration ends with the lanes that failed; a lane report is judged again; an
adaptation engine serves its lanes in turn. -/
def Obligations.LinksFollowTheirStates : Prop :=
  ∀ (s : State) (p : Nat),
    (∀ cause lane l, s.dev.isPort p = true → l = (if cause = 4 then p else lane) → l ∈ s.dev.lanesOf p → 1 ≤ cause → cause ≤ 6 →
      (s.dev.port p).debounceUs ≠ 0 → (s.dev.lane l).causes = [] →
      ∃ t, exec (.linkLossDeclared p cause lane false) s = .next t ∧ (t.dev.lane l).causes = [(cause, s.dev.bal.tick)] ∧
        ∀ q, t.dev.port q = s.dev.port q) ∧
    (∀ cause lane held l, s.dev.isPort p = true → l = (if cause = 4 then p else lane) → l ∈ s.dev.lanesOf p → 1 ≤ cause → cause ≤ 6 →
      (held = true ∨ (s.dev.port p).debounceUs = 0) → (s.dev.port p).st = .up →
      ∃ t, exec (.linkLossDeclared p cause lane held) s = .next t ∧
        (t.dev.port p).losses = min 65535 ((s.dev.port p).losses + 1) ∧
        (∀ since, (s.dev.lane l).causes.find? (fun x => decide (x.1 = cause)) = some (cause, since) →
          since + 25 * (s.dev.port p).debounceUs ≤ t.dev.bal.tick) ∧
        (0 < (s.dev.port p).holdUs → (t.dev.port p).st = .holdRunning ∧ (t.dev.port p).hold = .hold ∧
          (t.dev.port p).holdEnd = t.dev.bal.tick + 25 * (s.dev.port p).holdUs) ∧
        ((s.dev.port p).holdUs = 0 → (t.dev.port p).st = .holdExpired ∧ (t.dev.port p).hold = .flushing ∧
          ∀ k ∈ portKeys p, (t.dev.queue k).ents = []) ∧
        ∀ q, q ≠ p → t.dev.port q = s.dev.port q) ∧
    (s.dev.isPort p = true → (s.dev.octal (p / 8)).st = .on → (∀ l ∈ s.dev.lanesOf p, ∀ c ∈ (s.dev.lane l).causes, c.1 ≠ 6) →
      (s.dev.port p).retryAt = none → s.dev.regRuns 2 = true → s.dev.reg.adpStopped.testBit (p / 64) = false →
      s.dev.linkIdle p = false →
      (s.dev.port p).st = .training ∨ (s.dev.port p).st = .holdExpired ∨ (s.dev.port p).st = .holdRunning →
      ∃ t, exec (.linkUp p) s = .next t ∧ (t.dev.port p).st = .up ∧ (t.dev.port p).locked = 2 ^ (s.dev.port p).lanes - 1) ∧
    (s.dev.isPort p = true → s.dev.regRuns 2 = true → (s.dev.port p).st = .holdRunning →
      ∃ t, exec (.holdExpiry p) s = .next t ∧ (t.dev.port p).st = .holdExpired ∧ (t.dev.port p).hold = .flushing ∧
        (s.dev.port p).holdEnd ≤ t.dev.bal.tick ∧ ∀ k ∈ portKeys p, (t.dev.queue k).ents = []) ∧
    ((s.dev.port p).hold = .flushing →
      ∃ t, exec (.queueFlushDone p) s = .next t ∧ (t.dev.port p).hold = .barred ∧
        ((s.dev.port p).flushAs ≠ none → ∀ k ∈ portKeys p, (t.dev.queue k).ents = [])) ∧
    (s.dev.isPort p = true → s.dev.regRuns 2 = true → (s.dev.port p).st = .holdRunning ∨ (s.dev.port p).st = .holdExpired →
      (s.dev.port p).iface ≠ 2 → (s.dev.port p).realigned = false → (s.dev.port p).retryAt = none → (s.dev.octal (p / 8)).st = .on →
      ∃ t, exec (.realignTimeout p) s = .next t ∧ (t.dev.port p).realigned = true ∧
        (t.dev.port p).attempts = (s.dev.port p).attempts + 1 ∧ (s.dev.port p).trainStart + 25000 ≤ t.dev.bal.tick) ∧
    (∀ phase, s.dev.isPort p = true → s.dev.regRuns 2 = true → (s.dev.port p).tries = true →
      ∃ t, exec (.trainingTimeout p phase) s = .next t ∧
        (s.dev.port p).trainStart + 25000 * (s.dev.port p).trainTimeoutMs ≤ t.dev.bal.tick ∧
        ((s.dev.port p).iface ≠ 2 → (t.dev.port p).retryAt = some (t.dev.bal.tick + 250000)) ∧
        ((s.dev.port p).iface = 2 → (t.dev.port p).attempts = (s.dev.port p).attempts + 1 ∧
          (t.dev.port p).trainStart = t.dev.bal.tick)) ∧
    (∀ t0, s.dev.isPort p = true → s.dev.regRuns 2 = true → (s.dev.port p).retryAt = some t0 → (s.dev.octal (p / 8)).st = .on →
      ∃ t, exec (.trainingRestart p) s = .next t ∧ (t.dev.port p).retryAt = none ∧
        (t.dev.port p).attempts = (s.dev.port p).attempts + 1 ∧ t0 ≤ t.dev.bal.tick) ∧
    (∀ page, s.dev.isPort p = true → s.dev.regRuns 2 = true → (s.dev.port p).tries = true → (s.dev.port p).anEn = true →
      s.dev.evr.input.length < 1024 →
      ∃ t r, exec (.anMismatch p page) s = .next t ∧ t.dev.evr.input = s.dev.evr.input ++ [r] ∧ r.code = Ev.anMismatch ∧
        r.source = some (0x100 + p)) ∧
    (∀ m failed, s.dev.regRuns 2 = true → (s.dev.octal m).st = .calibrating →
      ∃ t, exec (.macroPowerUpDone m failed) s = .next t ∧
        t.dev.octal m = { s.dev.octal m with st := .on, calibFail := failed % 256 }) ∧
    (∀ l gone, (s.dev.lane l).recheck ≠ [] →
      ∃ t, exec (.laneRecheck l gone) s = .next t ∧ (t.dev.lane l).recheck = [] ∧
        (t.dev.lane l).causes = (s.dev.lane l).causes.filter (fun c => !(gone.contains c.1))) ∧
    (∀ e, e < 8 → s.dev.corePowered = true → s.dev.reg.adpStopped.testBit e = false →
      ∃ t, exec (.adaptationSlice e) s = .next t ∧
        (tget s.dev.reg.adpSlice 0 e ≠ 1 → tget t.dev.reg.adpSlice 0 e = 1 ∧
          tget t.dev.reg.adpEven 0 e = (tget s.dev.reg.adpEven 0 e + 1) % 64) ∧
        (tget s.dev.reg.adpSlice 0 e = 1 → tget t.dev.reg.adpSlice 0 e = 0 ∧ t.dev.reg.adpEven = s.dev.reg.adpEven))

/-- Commands on ports, and the sleep of pipelines (04 R127, R128, R129, R136, R137, R138; 18 R531, R532). A configuration is taken where
the ports that it dissolves are all administratively down, and ends in WRONG_MODE where one is not; the state commands take a port up,
down or to retrain, change nothing in the other states, and return the state that they leave; HOLD_US is stored for a port or for every
port of the polder, and a BREAK frees the frames of a running hold. A frame that finds its pipeline asleep waits in the skid buffers, or
is counted where they are full; a pipeline with nothing to do goes to sleep, and wakes. -/
def Obligations.PortCommandsAndSleep : Prop :=
  ∀ (s : State),
    (∀ (c : CmdRef) (io : Io) (x : Cmd) (p : Nat) (res : Dev → Done), s.dev.isRunning c x → p = x.fld 16 0 10 →
      res = (fun d => okDone (pack [(0, 32, d.portEntry p), (32, 16, (d.port p).losses), (48, 8, (d.port p).locked)])
        ((d.port p).since % 2 ^ 40)) →
      (isOp 0x90 x = true →
        ((∀ q, s.dev.isPort q = true → q / 8 = p / 8 → (q < p + x.fld 18 0 4 ∧ p < q + (s.dev.port q).lanes) ∨
            decide (x.fld 18 4 1 = 1) ≠ (s.dev.octal (p / 8)).rate100 → (s.dev.port q).st = .adminDown) →
          ∃ t, exec (.opPortConfig c io) s = .next t ∧ t.dev.ended c x okDone ∧
            (t.dev.port p).configured = true ∧ (t.dev.port p).lanes = x.fld 18 0 4 ∧
            (t.dev.port p).iface = x.fld 19 0 2 ∧ (t.dev.port p).st = .adminDown ∧
            (t.dev.port p).maxFrame = (if x.fld 20 0 14 = 0 then 9216 else x.fld 20 0 14) ∧
            (t.dev.octal (p / 8)).rate100 = decide (x.fld 18 4 1 = 1)) ∧
        (∀ q, s.dev.isPort q = true → q / 8 = p / 8 → (q < p + x.fld 18 0 4 ∧ p < q + (s.dev.port q).lanes) ∨
            decide (x.fld 18 4 1 = 1) ≠ (s.dev.octal (p / 8)).rate100 → (s.dev.port q).st ≠ .adminDown →
          ∃ t l, exec (.opPortConfig c io) s = .next t ∧ t.dev.ended c x (failDone stWrongMode l) ∧
            ∀ q', t.dev.port q' = s.dev.port q')) ∧
      (s.dev.isPort p = true →
        (isOpAct 0x91 (18, 0, 2) 0 x = true →
          ∃ t, exec (.opPortStateRead c io) s = .next t ∧ t.dev.port p = s.dev.port p ∧ t.dev.ended c x (res t.dev)) ∧
        (isOpAct 0x91 (18, 0, 2) 1 x = true →
          ∃ t, exec (.opPortStateAdminUp c io) s = .next t ∧ t.dev.ended c x (res t.dev) ∧
            ((s.dev.port p).st ≠ .adminDown ∨ s.dev.lanePolder p = none → t.dev.port p = s.dev.port p) ∧
            ((s.dev.port p).st = .adminDown → s.dev.lanePolder p ≠ none →
              (t.dev.port p).st = (if s.dev.linkStarts p then .training else .down))) ∧
        (isOpAct 0x91 (18, 0, 2) 2 x = true →
          ∃ t, exec (.opPortStateAdminDown c io) s = .next t ∧ t.dev.ended c x (res t.dev) ∧
            (t.dev.port p).st = .adminDown ∧
            ((s.dev.port p).st ≠ .adminDown → (t.dev.port p).hold = .flushing ∧ (t.dev.port p).locked = 0 ∧
              ∀ k ∈ portKeys p, (t.dev.queue k).ents = [])) ∧
        (isOpAct 0x91 (18, 0, 2) 3 x = true →
          ∃ t, exec (.opPortStateRetrain c io) s = .next t ∧ t.dev.ended c x (res t.dev) ∧
            ((s.dev.port p).st ≠ .up → t.dev.port p = s.dev.port p) ∧
            ((s.dev.port p).st = .up → 0 < (s.dev.port p).holdUs → (t.dev.port p).st = .holdRunning ∧
              (t.dev.port p).holdEnd = s.dev.bal.tick + 25 * (s.dev.port p).holdUs) ∧
            ((s.dev.port p).st = .up → (s.dev.port p).holdUs = 0 → (t.dev.port p).st = .holdExpired)) ∧
        (isOp 0x92 x = true → x.fld 18 1 1 = 0 → x.fld 18 0 1 = 0 →
          ∃ t, exec (.opPortHoldSet c io) s = .next t ∧ t.dev.ended c x okDone ∧
            t.dev.port p = { s.dev.port p with holdUs := x.fld 20 0 17 }) ∧
        (isOp 0x92 x = true → x.fld 18 1 1 = 0 → x.fld 18 0 1 = 1 →
          ∃ t, exec (.opPortHoldSet c io) s = .next t ∧ (t.dev.port p).holdUs = x.fld 20 0 17 ∧
            ((s.dev.port p).st = .holdRunning → t.dev.ended c x (okDone 1) ∧ (t.dev.port p).st = .holdExpired ∧
              ∀ k ∈ portKeys p, (t.dev.queue k).ents = []) ∧
            ((s.dev.port p).st = .up → (s.dev.port p).back = some s.dev.bal.tick → t.dev.ended c x (okDone 1) ∧
              (t.dev.port p).st = .up ∧ ∀ k ∈ portKeys p, (t.dev.queue k).ents = []) ∧
            ((s.dev.port p).st ≠ .holdRunning → (s.dev.port p).st ≠ .up → t.dev.ended c x okDone))) ∧
      (isOp 0x92 x = true → x.fld 18 1 1 = 1 → x.fld 18 0 1 = 0 →
        ∃ t, exec (.opPortHoldSet c io) s = .next t ∧ t.dev.ended c x okDone ∧
          ∀ q, s.dev.isPort q = true → t.dev.port q =
            (if s.dev.lanePolder q = some x.polder then { s.dev.port q with holdUs := x.fld 20 0 17 } else s.dev.port q)) ∧
      (s.dev.isPort p = false →
        (isOpAct 0x91 (18, 0, 2) 0 x = true → ∃ t, exec (.opPortStateRead c io) s = .next t ∧ t.dev.ended c x (failDone stNotFound)) ∧
        (isOpAct 0x91 (18, 0, 2) 1 x = true → ∃ t, exec (.opPortStateAdminUp c io) s = .next t ∧ t.dev.ended c x (failDone stNotFound)) ∧
        (isOpAct 0x91 (18, 0, 2) 2 x = true → ∃ t, exec (.opPortStateAdminDown c io) s = .next t ∧ t.dev.ended c x (failDone stNotFound)) ∧
        (isOpAct 0x91 (18, 0, 2) 3 x = true → ∃ t, exec (.opPortStateRetrain c io) s = .next t ∧ t.dev.ended c x (failDone stNotFound)) ∧
        (isOp 0x92 x = true → x.fld 18 1 1 = 0 → ∃ t, exec (.opPortHoldSet c io) s = .next t ∧ t.dev.ended c x (failDone stNotFound)))) ∧
    (∀ p frame fits, s.dev.takesPackets = true → s.dev.isPort p = true → (s.dev.port p).st = .up → s.dev.loopKind p = 0 →
      s.dev.parserUp (p / 32) = false ∨ (s.dev.port p).skid ≠ [] →
      fits = ((s.dev.trigger (p / 32)).wakesInTime (p / 32) || decide ((s.dev.port p).skidBytes + frame.length + 4 ≤ (s.dev.port p).lanes * 8192)) →
      ∃ t, exec (.sofPreIndication p frame) s = .next t ∧
        (fits = true → t.dev.port p = { s.dev.port p with skid := (s.dev.port p).skid ++ [frame] }) ∧
        (fits = false → t.dev.port p = s.dev.port p ∧
          t.dev.ctr .drSkidOverrun p = min (s.dev.ctr .drSkidOverrun p + 1) (2 ^ 64 - 1))) ∧
    (∀ k, k < 16 → s.dev.corePowered = true → (s.dev.pipe k).asleep = false → (s.dev.pipe k).waking = false → (s.dev.pipe k).idleUs ≠ 0 →
      s.dev.pipeIdle k = true →
      ∃ t, exec (.pipelineSleepEntry k) s = .next t ∧ t.dev.pipe k = { s.dev.pipe k with asleep := true } ∧
        (s.dev.pipe k).idleSince + 25 * min 10000 (s.dev.pipe k).idleUs ≤ t.dev.bal.tick) ∧
    (∀ k late, k < 16 → (s.dev.pipe k).waking = true →
      ∃ t, exec (.pipelineWake k late) s = .next t ∧
        t.dev.pipe k = { s.dev.pipe k with
          asleep := false, waking := false, idleSince := s.dev.bal.tick, idleUs := s.dev.bal.sleepUs } ∧
        (late = true → (t.dev.src (0x539 + 64 * k)).live = true))

/-- Shapers and their commands (12 R370, R371, R372, R373, R389, R390). A visit of the sweep adds the old rate for each tick, caps the
credit at the burst and then takes up values that wait; a wheel entry fires at its tick, and one that fires more than 1 µs late raises
its source; the entries of a coarse slot move to the fine wheel; the commands store the scheduler's and the shapers' values and return
them, refuse a node without a bucket, and find no port that does not exist. -/
def Obligations.ShapersAccrueAndTheirCommandsComplete : Prop :=
  ∀ (s : State),
    (∀ k a acc, k < 64 * 512 → k % 64 < 42 → s.dev.bucket k = a →
      acc = (if a.frozen then a.credit else min (a.credit + a.rate * (s.dev.bal.tick - a.last : Nat)) (a.burst * 200000)) →
      ∃ t, exec (.shaperRefillSweep k) s = .next t ∧ (t.dev.bucket k).last = s.dev.bal.tick ∧ (t.dev.bucket k).pending = none ∧
        (a.pending = none → (t.dev.bucket k).credit = acc ∧ (t.dev.bucket k).rate = a.rate ∧ (t.dev.bucket k).burst = a.burst) ∧
        (∀ r b, a.pending = some (r, b) → (t.dev.bucket k).rate = r ∧ (t.dev.bucket k).burst = b ∧
          (t.dev.bucket k).credit = min acc (b * 200000)) ∧
        ∀ j, j ≠ k → t.dev.bucket j = s.dev.bucket j) ∧
    (∀ k te, (s.dev.bucket k).te = some te →
      ∃ t, exec (.shaperWheelFire k) s = .next t ∧ te ≤ t.dev.bal.tick ∧ (t.dev.bucket k).last = t.dev.bal.tick ∧
        (k < 64 * 512 → te + 25 < s.dev.bal.tick → (t.dev.src (0xD10 + k / 64 / 32)).live = true)) ∧
    (∀ pipe slot k b te, tget s.dev.esc.buckets none k = some b → b.te = some te → b.coarse = true → k / 2048 = pipe →
      te / 12800 % 4096 = slot →
      ∃ t, exec (.coarseWheelSlot pipe slot) s = .next t ∧ (t.dev.bucket k).coarse = false ∧ te / 12800 * 12800 ≤ t.dev.bal.tick) ∧
    (∀ (c : CmdRef) (io : Io) (x : Cmd) (p : Nat), s.dev.isRunning c x → p = x.fld 16 0 10 →
      (isOpAct 0x50 (18, 0, 2) 0 x = true →
        ∃ t, exec (.opSchedSetSet c io) s = .next t ∧
          (s.dev.isPort p = true → t.dev.ended c x okDone ∧
            (t.dev.sched p).drrGroups = decide (x.fld 19 0 1 = 1) ∧
            (t.dev.sched p).adj = signed 8 (x.fld 20 0 8) ∧
            (∀ g, g < 4 → ((t.dev.sched p).member (20 + g)).quantum = x.fld (24 + 2 * g) 0 16) ∧
            (∀ q, q < 16 → ((t.dev.sched p).member q).quantum = x.fld (32 + 2 * q) 0 16)) ∧
          (s.dev.isPort p = false → t.dev.ended c x (failDone stNotFound) ∧ t.dev.esc = s.dev.esc)) ∧
      (isOpAct 0x50 (18, 0, 2) 1 x = true →
        ∃ t, exec (.opSchedSetSetMc c io) s = .next t ∧
          (s.dev.isPort p = true → t.dev.ended c x okDone ∧
            ∀ m, m < 4 → ((t.dev.sched p).member (16 + m)).quantum = x.fld (32 + 2 * m) 0 16) ∧
          (s.dev.isPort p = false → t.dev.ended c x (failDone stNotFound) ∧ t.dev.esc = s.dev.esc)) ∧
      (isOpAct 0x50 (18, 0, 2) 2 x = true →
        ∃ t, exec (.opSchedSetRead c io) s = .next t ∧ t.dev.esc = s.dev.esc ∧
          (s.dev.isPort p = true → t.dev.ended c x (okDone
            (pack [(0, 1, b2n (s.dev.sched p).drrGroups), (8, 8, unsigned 8 (s.dev.sched p).adj)])
            (pack ((List.range 4).map (fun g => (16 * g, 16, ((s.dev.sched p).member (20 + g)).quantum)))))) ∧
          (s.dev.isPort p = false → t.dev.ended c x (failDone stNotFound))) ∧
      (isOpAct 0x51 (18, 0, 2) 0 x = true →
        ∃ t, exec (.opShaperSetSet c io) s = .next t ∧
          (s.dev.isPort p = false → t.dev.ended c x (failDone stNotFound) ∧ t.dev.esc = s.dev.esc) ∧
          (s.dev.isPort p = true → nodeOf (x.fld 16 10 2) (x.fld 16 12 4) = none →
            t.dev.ended c x (failDone stBadOperand 16) ∧ t.dev.esc = s.dev.esc) ∧
          (∀ n, s.dev.isPort p = true → nodeOf (x.fld 16 10 2) (x.fld 16 12 4) = some n → t.dev.ended c x okDone ∧
            (t.dev.bucket (bucketKey p n false)).pending = (if x.fld 18 2 1 = 1 then
              some (x.fld 20 0 32, if x.fld 24 0 32 = 0 then 65536 else x.fld 24 0 32) else (s.dev.bucket (bucketKey p n false)).pending) ∧
            (t.dev.bucket (bucketKey p n true)).pending = (if x.fld 18 3 1 = 1 then
              some (x.fld 28 0 32, if x.fld 32 0 32 = 0 then 65536 else x.fld 32 0 32) else (s.dev.bucket (bucketKey p n true)).pending))) ∧
      (∀ kind y, isOpAct 0x51 (18, 0, 2) 1 x = true → kind = x.fld 16 10 2 →
        y = (s.dev.sched p).member (if kind = 1 then 20 + x.fld 16 12 4 else if kind = 2 then x.fld 16 12 4 else 16 + x.fld 16 12 4) →
        ∃ t, exec (.opShaperSetRead c io) s = .next t ∧ t.dev.esc = s.dev.esc ∧
          (s.dev.isPort p = false → t.dev.ended c x (failDone stNotFound)) ∧
          (s.dev.isPort p = true → nodeOf kind (x.fld 16 12 4) = none → kind ≠ 0 →
            t.dev.ended c x (okDone 0 (pack [(0, 32, unsigned 32 y.def_), (32, 16, y.quantum)]))) ∧
          (∀ n a b, s.dev.isPort p = true → nodeOf kind (x.fld 16 12 4) = some n → s.dev.bucket (bucketKey p n false) = a →
            s.dev.bucket (bucketKey p n true) = b →
            ∃ detail, (∀ te, a.te = some te → detail = cdiv (te - s.dev.bal.tick) 25) ∧ t.dev.ended c x (okDone
              (pack [(0, 32, unsigned 32 (a.credit / 200000)), (32, 32, unsigned 32 (b.credit / 200000))])
              (pack [(0, 32, if kind = 0 then 0 else unsigned 32 y.def_), (32, 16, if kind = 0 then 0 else y.quantum),
                (48, 1, b2n a.te.isSome), (49, 1, b2n b.te.isSome), (50, 1, b2n (decide (a.rate = 0))),
                (51, 1, b2n (a.pending.isSome || b.pending.isSome)), (52, 1, b2n (decide (b.rate ≠ 0 ∧ 0 ≤ b.credit)))]) detail))))
/-- Gate lists (12 R376, R380, R382, R391). A waiting list becomes operational from entry 0; a running list moves to the entry of its
position; an uncorrectable error disables the table; the commands load, disable and return a list, and a list with an entry that is out
of range, one that cannot be read, and a port that does not exist end the command in error. -/
def Obligations.GateListsFollowTheirTimes : Prop :=
  ∀ (s : State),
    (∀ p l cct, (s.dev.tide p).pending = some (l, cct) →
      ∃ t, exec (.tideCctReached p) s = .next t ∧ (t.dev.tide p).oper = some l ∧ (t.dev.tide p).pending = none ∧ (t.dev.tide p).at_ = 0) ∧
    (∀ p l, (s.dev.tide p).oper = some l →
      ∃ t, exec (.tideGateChange p) s = .next t ∧ t.dev.tide p = { s.dev.tide p with at_ := l.entryAt (l.posPs t.dev.timePs) }) ∧
    (∀ p l e, (s.dev.tide p).oper = some l → e < l.entries.length →
      ∃ t, exec (.tideListEcc p e) s = .next t ∧ (t.dev.tide p).enabled = false ∧ (t.dev.tide p).eccOff = true ∧
        (t.dev.src 0xD21).live = true) ∧
    (∀ (c : CmdRef) (io : Io) (x : Cmd) (p : Nat), s.dev.isRunning c x → p = x.fld 16 0 10 →
      (∀ base cct, isOpAct 0x52 (18, 0, 2) 0 x = true → base = x.fld 32 0 48 * 1000000000 + x.fld 40 0 32 →
        cct = (if s.dev.timeNsAll ≤ base then base
          else base + cdiv (s.dev.timeNsAll - base) (x.fld 44 0 32) * x.fld 44 0 32) →
        ∃ t, exec (.opTideTableSetSet c io) s = .next t ∧
          (s.dev.isPort p = false → t.dev.ended c x (failDone stNotFound) ∧ t.dev.esc = s.dev.esc) ∧
          (s.dev.isPort p = true → ioBytes io (8 * x.fld 20 0 16) = none →
            t.dev.ended c x (failDone stTimeout 24) ∧ t.dev.esc = s.dev.esc) ∧
          (∀ bs i, s.dev.isPort p = true → ioBytes io (8 * x.fld 20 0 16) = some bs →
            (tideEntries (x.fld 20 0 16) bs).findIdx? (fun e => decide (e.1 < 8 ∨ x.fld 44 0 32 < e.1 ∨ e.2.2 ≠ 0)) = some i →
            t.dev.ended c x (failDone stBadOperand (24 + 256 * 1 + 65536 * i)) ∧ t.dev.esc = s.dev.esc) ∧
          (∀ bs, s.dev.isPort p = true → ioBytes io (8 * x.fld 20 0 16) = some bs →
            (∀ e ∈ tideEntries (x.fld 20 0 16) bs, 8 ≤ e.1 ∧ e.1 ≤ x.fld 44 0 32 ∧ e.2.2 = 0) →
            t.dev.ended c x (okDone (b2n (s.dev.tide p).pending.isSome * 2 ^ 24) (cct / 1000000000 % 2 ^ 48) (cct % 1000000000)) ∧
            (t.dev.tide p).oper = (s.dev.tide p).oper ∧ (t.dev.tide p).growth = x.fld 19 0 8 ∧
            ∃ l, (t.dev.tide p).pending = some (l, cct) ∧ l.baseNs = base ∧ l.cycle = x.fld 44 0 32 ∧
              l.entries = (tideEntries (x.fld 20 0 16) bs).map (fun e => (e.1, e.2.1)))) ∧
      (isOpAct 0x52 (18, 0, 2) 1 x = true →
        ∃ t, exec (.opTideTableSetDisable c io) s = .next t ∧
          (s.dev.isPort p = false → t.dev.ended c x (failDone stNotFound) ∧ t.dev.esc = s.dev.esc) ∧
          (s.dev.isPort p = true → t.dev.ended c x okDone ∧
            t.dev.tide p = { s.dev.tide p with oper := none, pending := none })) ∧
      (∀ es bs r0 cct, isOpAct 0x52 (18, 0, 2) 2 x = true → s.dev.isPort p = true →
        es = ((s.dev.tide p).oper.map Tide.entries).getD [] →
        bs = ((es.take (x.fld 20 0 16)).map (fun e => leBytes 8 (e.1 + e.2 * 2 ^ 32))).flatten →
        cct = ((s.dev.tide p).pending.map (fun t => t.2)).getD 0 →
        r0 = pack [(0, 11, es.length), (11, 11, ((s.dev.tide p).pending.map (fun t => t.1.entries.length)).getD 0),
          (22, 1, b2n (s.dev.tide p).enabled), (23, 1, b2n ((s.dev.tide p).oper.isSome && (s.dev.tide p).pending.isSome))] →
        ∃ t, exec (.opTideTableSetRead c io) s = .next t ∧ t.dev.esc = s.dev.esc ∧
          (io.wrErr = false ∨ bs = [] → t.dev.ended c x (okDone r0 (cct / 1000000000 % 2 ^ 48) (cct % 1000000000))) ∧
          (io.wrErr = false → bs ≠ [] → (s.dev.ep c.ep).up = true → t.dev.out = .hostWrite c.ep (x.fld 24 0 64) bs :: s.dev.out) ∧
          (io.wrErr = true → bs ≠ [] → ∃ o, t.dev.ended c x o ∧ o.status = stTimeout ∧ o.detail = 24)) ∧
      (isOpAct 0x52 (18, 0, 2) 2 x = true → s.dev.isPort p = false →
        ∃ t, exec (.opTideTableSetRead c io) s = .next t ∧ t.dev.ended c x (failDone stNotFound)))
/-- Weirs (13 R418, R419, R420). An exchange takes up the values that were set before its tick, keeps both buckets under their bursts,
forgets what the satellites spent, turns the round robin and ends no hold; a hold lasts 1 µs and while a peak bucket is in debt. -/
def Obligations.WeirsExchangeAndRelease : Prop :=
  ∀ (s : State),
    (∃ t, exec .weirExchange s = .next t ∧ s.dev.mrp.lastExchange + 100 ≤ t.dev.mrp.lastExchange ∧
      t.dev.mrp.lastExchange = t.dev.bal.tick ∧
      ∀ w x, s.dev.weir w = some x → ∃ y, t.dev.weir w = some y ∧ y.spent = [] ∧ y.asked = [] ∧ y.rr = (x.rr + 1) % 3 ∧
        y.holds = x.holds ∧
        (x.setTick < t.dev.bal.tick → y.next = none ∧ y.cfg = x.next.getD x.cfg) ∧
        (t.dev.bal.tick ≤ x.setTick → y.next = x.next ∧ y.cfg = x.cfg) ∧
        y.c ≤ y.cfg.cbs * 200000 ∧ y.p ≤ y.cfg.pbs * 200000) ∧
    (∀ w port cls x at_, s.dev.weir w = some x → x.holds.find? (fun h => decide (h.1 = 8 * port + cls)) = some (8 * port + cls, at_) →
      ∃ t, exec (.weirHoldRelease w port cls) s = .next t ∧ at_ + 25 ≤ t.dev.bal.tick ∧ ∃ y, t.dev.weir w = some y ∧
        (0 ≤ y.p → (∀ g ∈ y.grants, 0 ≤ g.2.2) → y.holds = x.holds.filter (fun g => decide (g.1 ≠ 8 * port + cls))) ∧
        (y.p < 0 ∨ (∃ g ∈ y.grants, g.2.2 < 0) → y.holds = x.holds) ∧ (0 ≤ x.p → 0 ≤ y.p))

/-- The Event Recorder's own rows (16 R476, R477, R478, R480, R481, R484, R485, R487, R488). A record whose slot holds a token
takes the next SEQ and the next slot of the log, or, while the log is frozen, a place in the holding FIFO; a record without a token is
counted in its slot and leaves the log as it was. An episode of suppression ends with its summary; the limit thaws the log; held records
follow it. Hours advance; POWER_CYCLES comes to lie above those that the scan finds; the next sector in turn is erased, and retired at
100,000 erases or when its verification fails twice; pages of queued records go to the open sector, or to the next erased one. -/
def Obligations.RecorderAdmitsAndKeepsRecords : Prop :=
  ∀ (s : State),
    (∀ r rest admits check, s.dev.evr.input = r :: rest → check = Ecc.clean ∨ check = .corrected →
      admits = (decide (0x1400 ≤ r.code ∧ r.code < 0x1500) ||
        slotAdmits (refillSlot s.dev.bal.tick (s.dev.slot (s.dev.slotOf r.code))) r.severity) →
      ∃ t, exec (.recordAdmit check) s = .next t ∧ t.dev.evr.input = rest ∧
        (admits = true →
          t.dev.evr.nextSeq = (if (s.dev.evr.nextSeq + 1) % 2 ^ 32 = 0xFFFFFFFF then s.dev.evr.nextSeq + 2 else s.dev.evr.nextSeq + 1) ∧
          (s.dev.evr.frozen = false → s.dev.evr.draining = false → s.dev.evr.lastDitch = false → s.dev.evr.used < 65536 →
            t.dev.evr.used = s.dev.evr.used + 1 ∧
            tget t.dev.evr.log none s.dev.evr.used = some { r with seq := s.dev.evr.nextSeq, powerCycles := s.dev.evr.powerCycles }) ∧
          (s.dev.evr.frozen = true → s.dev.evr.fifo.length < 256 → t.dev.evr.log = s.dev.evr.log ∧
            t.dev.evr.fifo = s.dev.evr.fifo ++ [{ r with seq := s.dev.evr.nextSeq, powerCycles := s.dev.evr.powerCycles }])) ∧
        (admits = false → t.dev.evr.log = s.dev.evr.log ∧ t.dev.evr.fifo = s.dev.evr.fifo ∧
          t.dev.evr.nextSeq = s.dev.evr.nextSeq ∧
          (t.dev.slot (s.dev.slotOf r.code)).supTotal = (s.dev.slot (s.dev.slotOf r.code)).supTotal + 1)) ∧
    (∀ i, (s.dev.slot i).supCount ≠ 0 →
      ∃ t, exec (.suppressionSummary i) s = .next t ∧ (t.dev.slot i).supCount = 0 ∧
        (t.dev.slot i).supTotal = (s.dev.slot i).supTotal ∧
        min ((s.dev.slot i).supLast + 25000000) ((s.dev.slot i).supFirst + 250000000) ≤ t.dev.bal.tick ∧
        (s.dev.evr.input.length < 1024 →
          ∃ r : Rec, t.dev.evr.input = s.dev.evr.input ++ [r] ∧ r.code = Ev.suppressed ∧ r.severity = (s.dev.slot i).supSeverity)) ∧
    (s.dev.evr.frozen = true →
      ∃ t, exec .logFreezeLimit s = .next t ∧ t.dev.evr.frozen = false ∧ t.dev.evr.holders = 0 ∧
        t.dev.evr.expired = s.dev.evr.holders ∧ s.dev.evr.freezeStart + 2500000 ≤ t.dev.bal.tick ∧
        t.dev.evr.refuseUntil = t.dev.bal.tick + 2500000 ∧ t.dev.evr.fifo = s.dev.evr.fifo ∧ (t.dev.src 0x0CD).live = true) ∧
    (∀ r rest check, s.dev.evr.frozen = false → s.dev.evr.fifo = r :: rest → check = Ecc.clean ∨ check = .corrected →
      ∃ t, exec (.holdingFifoDrain check) s = .next t ∧ t.dev.evr.fifo = rest ∧
        (s.dev.evr.lastDitch = false → s.dev.evr.used < 65536 → t.dev.evr.used = s.dev.evr.used + 1 ∧
          tget t.dev.evr.log none s.dev.evr.used = some r)) ∧
    (∃ t, exec .hourmark s = .next t ∧ s.dev.evr.nextHour ≤ t.dev.bal.tick ∧
      t.dev.evr.nextHour = s.dev.evr.nextHour + 90000000000 ∧ t.dev.evr.opHours = (s.dev.evr.opHours + 1) % 2 ^ 32) ∧
    (∀ sectors hours, s.dev.evr.scanDone = false →
      ∃ t, exec (.powerOnScanDone sectors hours) s = .next t ∧ t.dev.evr.scanDone = true ∧
        t.dev.evr.opHours = (hours + s.dev.evr.opHours) % 2 ^ 32 ∧
        (sectors = [] → t.dev.evr.powerCycles = 0) ∧
        ((∀ b ∈ sectors, headerOk b.2 = true → bits (leNat b.2) 48 16 < 65535) →
          ∀ b ∈ sectors, headerOk b.2 = true → bits (leNat b.2) 48 16 < t.dev.evr.powerCycles)) ∧
    (∀ i ok, i < 4096 → s.dev.boot.persist = true → s.dev.regRuns 3 = true → s.dev.evr.curSector ≠ some i →
      (tget s.dev.evr.sectors {} i).retired = false → (tget s.dev.evr.sectors {} i).erased = false →
      (s.dev.evr.curSector = none ∧ s.dev.nextSector 4095 = some i) ∨ (∃ k, s.dev.evr.curSector = some k ∧ s.dev.nextSector k = some i ∧
        ((tget s.dev.evr.sectors {} k).opened = false ∨ 63 ≤ (tget s.dev.evr.sectors {} k).records.length)) →
      ∃ t, exec (.flashSectorErase i ok) s = .next t ∧
        (ok = true → (tget s.dev.evr.sectors {} i).erases + 1 < 100000 → tget t.dev.evr.sectors {} i =
          { tget s.dev.evr.sectors {} i with
            erases := (tget s.dev.evr.sectors {} i).erases + 1, erased := true, opened := false, records := [], fails := 0 }) ∧
        (100000 ≤ (tget s.dev.evr.sectors {} i).erases + 1 → (tget t.dev.evr.sectors {} i).retired = true) ∧
        (ok = false → 1 ≤ (tget s.dev.evr.sectors {} i).fails → (tget t.dev.evr.sectors {} i).retired = true)) ∧
    (∀ i n ok k, s.dev.boot.persist = true → s.dev.regRuns 3 = true → s.dev.evr.persistStopped = false → s.dev.evr.scanDone = true →
      s.dev.evr.pqueue ≠ [] → s.dev.evr.curSector = some i →
      (tget s.dev.evr.sectors {} i).retired = false → (tget s.dev.evr.sectors {} i).opened = true →
      (tget s.dev.evr.sectors {} i).records.length < 126 → k = min (min n 8) (126 - (tget s.dev.evr.sectors {} i).records.length) →
      ∃ t, exec (.persistentPageProgram n ok) s = .next t ∧
        (ok = true → t.dev.evr.pqueue = s.dev.evr.pqueue.drop k ∧
          (tget t.dev.evr.sectors {} i).records = (tget s.dev.evr.sectors {} i).records ++ s.dev.evr.pqueue.take k) ∧
        (ok = false → t.dev.evr.pqueue = s.dev.evr.pqueue ∧
          (tget t.dev.evr.sectors {} i).retired = decide (1 ≤ (tget s.dev.evr.sectors {} i).fails))) ∧
    (∀ i n, s.dev.boot.persist = true → s.dev.regRuns 3 = true → s.dev.evr.persistStopped = false → s.dev.evr.scanDone = true →
      s.dev.evr.pqueue ≠ [] → (∀ k, s.dev.evr.curSector = some k → (tget s.dev.evr.sectors {} k).records.length = 126) →
      s.dev.nextSector (s.dev.evr.curSector.getD 4095) = some i → (tget s.dev.evr.sectors {} i).opened = false →
      (tget s.dev.evr.sectors {} i).erased = true →
      ∃ t, exec (.persistentPageProgram n true) s = .next t ∧ t.dev.evr.pqueue = s.dev.evr.pqueue.drop (min n 8) ∧
        t.dev.evr.curSector = some i ∧ t.dev.evr.serial = s.dev.evr.serial + 1 ∧
        (tget t.dev.evr.sectors {} i).opened = true ∧ (tget t.dev.evr.sectors {} i).records = s.dev.evr.pqueue.take (min n 8))
/-- The log commands (16 R484, R486, R493, R494, R495). A read returns in its one step, in SEQ order and as many as the buffer holds, the
visible records from FROM_SEQ that it wants, with the SEQ to go on from; where the device cuts the step short, the command goes on with what
it has returned. A freeze lasts at most 100 ms, and is refused in the last-ditch bank and within 100 ms of a thaw by the limit; a thaw by
the last holder thaws the log, and one by an endpoint that holds none finds none; a slot's rate and burst are set, and returned. -/
def Obligations.LogCommandsComplete : Prop :=
  ∀ (s : State) (c : CmdRef) (io : Io) (x : Cmd), s.dev.isRunning c x →
    (∀ src want put after read oldest, isOp 0x73 x = true → (x.fld 16 1 1 = 1 → (s.dev.freeze c.ep).1 = none) → x.steps = 0 →
      x.scratch = [] → io.pick = [] →
      src = (if x.fld 16 0 1 = 1 then s.dev.persistRecs (x.fld 18 0 16) else s.dev.heldRecs).filter (fun r => seqAtOrAfter r.seq (x.fld 20 0 32)) →
      want = src.filter (fun r => s.dev.recVisible c.ep r && decide (x.fld 17 0 3 ≤ r.severity)) → put = want.take (x.fld 32 0 32 / 32) →
      after = (if want.length ≤ x.fld 32 0 32 / 32 then (src.getLast?.map (fun r => seqAfter r.seq % 2 ^ 32)).getD (x.fld 20 0 32)
        else (want[x.fld 32 0 32 / 32]?.map Rec.seq).getD (x.fld 20 0 32) % 2 ^ 32) →
      read = (if want.length ≤ x.fld 32 0 32 / 32 then src else src.takeWhile (fun r => !seqAtOrAfter r.seq after)) →
      oldest = (if x.fld 16 0 1 = 1 then ((s.dev.persistRecs (x.fld 18 0 16)).head?.map Rec.seq).getD 0 else s.dev.oldestSeq) →
      ∃ t, exec (.opLogRead c io) s = .next t ∧ t.dev.evr.log = s.dev.evr.log ∧
        (io.wrErr = false → t.dev.ended c x (okDone (put.length + after * 2 ^ 32)
          (oldest % 2 ^ 32 + b2n (seqGap (src.takeWhile (fun r => !seqAtOrAfter r.seq after))) * 2 ^ 33)
          (read.filter (fun r => !s.dev.recVisible c.ep r)).length)) ∧
        (io.wrErr = true → ∃ o, t.dev.ended c x o ∧ o.status = stTimeout ∧ o.detail = 24) ∧
        (io.wrErr = false → put ≠ [] → (s.dev.ep c.ep).up = true → t.dev.out =
          .hostWrite c.ep (x.fld 24 0 64) ((put.map (fun r => leBytes 32 (recImage r))).flatten) :: s.dev.out)) ∧
    (∀ src want k, isOp 0x73 x = true → x.fld 16 1 1 = 0 → x.steps = 0 → x.scratch = [] → io.pick = [k] → 0 < k →
      src = (if x.fld 16 0 1 = 1 then s.dev.persistRecs (x.fld 18 0 16) else s.dev.heldRecs).filter (fun r => seqAtOrAfter r.seq (x.fld 20 0 32)) →
      want = (src.take k).filter (fun r => s.dev.recVisible c.ep r && decide (x.fld 17 0 3 ≤ r.severity)) →
      k < src.length → want.length < x.fld 32 0 32 / 32 →
      ∃ t y, exec (.opLogRead c io) s = .next t ∧ t.dev.cmd? c = some y ∧ y.outcome = none ∧ y.executing = false ∧ y.steps = 1 ∧
        y.scratch.getD 1 0 = want.length) ∧
    (isOp 0x73 x = true → x.fld 16 1 1 = 1 → x.steps = 0 → ∀ why, (s.dev.freeze c.ep).1 = some why →
      ∃ t, exec (.opLogRead c io) s = .next t ∧ t.dev.ended c x (failDone stWrongMode (why * 256))) ∧
    (isOp 0x74 x = true →
      ∃ t, exec (.opLogFreeze c io) s = .next t ∧
        (s.dev.evr.lastDitch = true → t.dev.ended c x (failDone stWrongMode 0x200) ∧ t.dev.evr = s.dev.evr) ∧
        (s.dev.evr.lastDitch = false → s.dev.evr.frozen = false → s.dev.bal.tick < s.dev.evr.refuseUntil →
          t.dev.ended c x (failDone stWrongMode 0x100) ∧ t.dev.evr = s.dev.evr) ∧
        (s.dev.evr.lastDitch = false → s.dev.evr.frozen = false → s.dev.evr.refuseUntil ≤ s.dev.bal.tick →
          t.dev.ended c x (okDone 100000) ∧ t.dev.evr.frozen = true ∧ t.dev.evr.holders = 2 ^ c.ep ∧
          t.dev.evr.freezeStart = s.dev.bal.tick) ∧
        (s.dev.evr.lastDitch = false → s.dev.evr.frozen = true → t.dev.evr.frozen = true ∧
          t.dev.evr.holders = s.dev.evr.holders ||| 2 ^ c.ep ∧
          t.dev.ended c x (okDone ((s.dev.evr.freezeStart + 2500000 - s.dev.bal.tick) / 25)))) ∧
    (isOp 0x75 x = true →
      ∃ t, exec (.opLogThaw c io) s = .next t ∧ t.dev.evr.fifo = s.dev.evr.fifo ∧
        (s.dev.evr.holders.testBit c.ep = true → t.dev.ended c x (okDone s.dev.evr.fifo.length) ∧
          t.dev.evr.holders = s.dev.evr.holders &&& (15 - 2 ^ c.ep) ∧
          (t.dev.evr.holders = 0 → t.dev.evr.frozen = false) ∧ (t.dev.evr.holders ≠ 0 → t.dev.evr.frozen = s.dev.evr.frozen)) ∧
        (s.dev.evr.holders.testBit c.ep = false → t.dev.ended c x (failDone stNotFound) ∧ t.dev.evr = s.dev.evr)) ∧
    (isOpAct 0x76 (18, 0, 1) 0 x = true →
      ∃ t, exec (.opLogRateSetSet c io) s = .next t ∧ t.dev.ended c x okDone ∧
        (t.dev.slot (x.fld 16 0 10)).rate = x.fld 20 0 20 ∧ (t.dev.slot (x.fld 16 0 10)).burst = x.fld 24 0 16) ∧
    (∀ y, isOpAct 0x76 (18, 0, 1) 1 x = true → y = refillSlot s.dev.bal.tick (s.dev.slot (x.fld 16 0 10)) →
      ∃ t, exec (.opLogRateSetRead c io) s = .next t ∧ t.dev.evr = s.dev.evr ∧ t.dev.ended c x (okDone
        (y.code.getD 0 + y.rate * 2 ^ 16 + y.burst * 2 ^ 36 + y.severity * 2 ^ 52) (y.supTotal % 2 ^ 32 + slotTokens y * 2 ^ 32)))
/-- Rule generations (06 R186, R187, R188, R189, R197). The commands open, commit and discard the staged slot and return its state; a
commit waits for the staged writes that were dispatched before it; a slot that is not free, or another holder's, is busy. A
drained or expired slot retires, and the holder's packets that still bear the tag at expiry are doomed; the sweep makes the current
slot's entries visible in both, frees the others and ends the command that waits. -/
def Obligations.GenerationsAdvance : Prop :=
  ∀ (s : State),
    (∀ (c : CmdRef) (io : Io) (x : Cmd) (next : Nat), s.dev.isRunning c x → next = (s.dev.rle.gen + 1).toNat →
      (isOp 0x30 x = true →
        ∃ t, exec (.opGenOpen c io) s = .next t ∧
          (x.fld 16 0 32 ≠ 0 → x.fld 16 0 32 ≠ next → t.dev.ended c x (failDone stBadOperand 16) ∧ t.dev.rle = s.dev.rle) ∧
          (x.fld 16 0 32 = 0 ∨ x.fld 16 0 32 = next →
            (s.dev.rle.slotSt = .idle → s.dev.liveTag (next % 16) = 0 → t.dev.ended c x (okDone next) ∧
              t.dev.rle = { s.dev.rle with slotSt := .staged, holder := some x.polder }) ∧
            (s.dev.rle.slotSt = .idle → s.dev.liveTag (next % 16) ≠ 0 →
              t.dev.ended c x (failDone stBusyGen 0x200) ∧ t.dev.rle = s.dev.rle) ∧
            (s.dev.rle.slotSt = .staged → t.dev.ended c x (failDone stBusyGen 0x300) ∧ t.dev.rle = s.dev.rle) ∧
            (s.dev.rle.slotSt = .draining ∨ s.dev.rle.slotSt = .sweeping →
              t.dev.ended c x (failDone stBusyGen 0x100) ∧ t.dev.rle = s.dev.rle))) ∧
      (∀ us, isOp 0x31 x = true → us = (if x.fld 20 0 32 = 0 then 10000 else x.fld 20 0 32) →
        ∃ t, exec (.opGenCommit c io) s = .next t ∧
          (s.dev.rle.slotSt ≠ .staged → t.dev.ended c x (failDone stNotFound) ∧ t.dev.rle = s.dev.rle) ∧
          (s.dev.rle.slotSt = .staged → s.dev.rle.holder ≠ some x.polder →
            t.dev.ended c x (failDone stBusyGen 0x300) ∧ t.dev.rle = s.dev.rle) ∧
          (s.dev.rle.slotSt = .staged → s.dev.rle.holder = some x.polder → x.fld 16 0 32 = next → 1000 ≤ us → us ≤ 1000000 →
            (s.dev.stagedWrites x.polder x.disp = false → t.dev.ended c x (okDone next s.dev.aon) ∧
              t.dev.rle = { s.dev.rle with gen := s.dev.rle.gen + 1, slotSt := .draining, commitTick := s.dev.bal.tick, retireUs := us }) ∧
            (s.dev.stagedWrites x.polder x.disp = true → t.dev.rle = s.dev.rle ∧
              t.dev.cmd? c = some { x with executing := false, steps := x.steps + 1, scratch := [] }))) ∧
      (isOp 0x32 x = true → x.scratch = [] →
        ∃ t, exec (.opGenDiscard c io) s = .next t ∧
          (s.dev.rle.slotSt ≠ .staged ∨ x.fld 16 0 32 ≠ next → t.dev.ended c x (failDone stNotFound) ∧ t.dev.rle = s.dev.rle) ∧
          (s.dev.rle.slotSt = .staged → x.fld 16 0 32 = next → s.dev.rle.holder ≠ some x.polder → s.dev.mayAs c none = false →
            t.dev.ended c x (failDone stBusyGen 0x300) ∧ t.dev.rle = s.dev.rle) ∧
          (s.dev.rle.slotSt = .staged → x.fld 16 0 32 = next → s.dev.rle.holder = some x.polder ∨ s.dev.mayAs c none = true →
            t.dev.cmd? c = some { x with scratch := [1] } ∧ t.dev.rle = { s.dev.rle with slotSt := .sweeping })) ∧
      (∀ drains, isOp 0x33 x = true → drains = decide (s.dev.rle.slotSt = .draining ∨ s.dev.rle.slotSt = .sweeping) →
        ∃ t, exec (.opGenStatus c io) s = .next t ∧ t.dev.rle = s.dev.rle ∧ t.dev.ended c x (okDone
          (pack [(0, 32, s.dev.rle.gen.toNat), (32, 1, s.dev.curSlot), (33, 2, s.dev.rle.slotSt.code), (35, 3, s.dev.rle.holder.getD 0),
            (38, 1, b2n s.dev.rle.holder.isSome)])
          (pack [(0, 32, if drains then s.dev.liveTag s.dev.oldTag else 0), (32, 32, if drains then s.dev.holderLive else 0)])
          s.dev.retireLeft))) ∧
    (s.dev.rle.slotSt = .draining →
      (s.dev.holderLive = 0 → ∃ t, exec .genDrainDone s = .next t ∧ t.dev.rle = { s.dev.rle with slotSt := .sweeping }) ∧
      (∃ t, exec .retirementTimerExpiry s = .next t ∧ t.dev.rle.slotSt = .sweeping ∧
        s.dev.rle.commitTick + 25 * s.dev.rle.retireUs ≤ t.dev.bal.tick ∧
        ∀ h, s.dev.rle.holder = some h → s.dev.holderLive ≠ 0 → t.dev.rle.forced = s.dev.rle.forced + 1 ∧
          ∀ pid y, (pid, some y) ∈ t.dev.dp.pkts → y.gen = s.dev.oldTag → y.polder = h → y.doomed = true)) ∧
    (s.dev.rle.slotSt = .sweeping →
      ∃ t, exec .syncSweepDone s = .next t ∧ t.dev.rle.slotSt = .idle ∧ t.dev.rle.holder = none ∧
        (∀ k e, versioned (k / 2 ^ 32) = true → tget s.dev.rle.ents none k = some e → e.vis.testBit s.dev.curSlot = true →
          tget t.dev.rle.ents none k = some { e with vis := 3 }) ∧
        (∀ y ∈ t.dev.rle.ents, versioned (y.1 / 2 ^ 32) = true → ∃ e, y.2 = some e ∧ e.vis = 3) ∧
        (∀ c x, c.ep < 4 → s.dev.isRunning c x → isOp 0x32 x = true → x.scratch ≠ [] → t.dev.ended c x okDone))

/-- Learning (06 R193; 07 R207, R208, R210, R211, R214, R215, R217, R223). The sequencer stamps the event of the next source in turn and
hands it to all four copies; a copy applies its events in order, and loses one whose ECC fails; a late copy is reported. A walker makes
the last move of its plan, and gives a plan up whose target is taken; a search begins with the oldest stash entry. The sweeper visits the
rows of its own quadrant's entries: one that was hit stays, one that was not is marked, and one that is marked is to be removed. -/
def Obligations.LearnRingAppliesEvents : Prop :=
  ∀ (s : State),
    (∀ src v rest, nextRound 5 s.dev.lrn.rr (fun k => !(if k = 4 then s.dev.lrn.hostOffers else (s.dev.quad k).offers).isEmpty) = some src →
      (if src = 4 then s.dev.lrn.hostOffers else (s.dev.quad src).offers) = v :: rest →
      ∃ t, exec .learnEventPass s = .next t ∧ t.dev.lrn.rr = src ∧ t.dev.lrn.seq = (s.dev.lrn.seq + 1) % 2 ^ 32 ∧
        (if src = 4 then t.dev.lrn.hostOffers else (t.dev.quad src).offers) = rest ∧
        ∀ q, q < 4 → (t.dev.quad q).queue = (s.dev.quad q).queue ++
          [{ v with seq := s.dev.lrn.seq, tick := s.dev.bal.tick, cfg := s.dev.lrnCfg v.polder }]) ∧
    (∀ q v rest draw, q < 4 → (s.dev.quad q).queue = v :: rest → v.op = none →
      (∀ check, check = .once ∨ check = .lasting →
        ∃ t, exec (.learnEventApply q check draw) s = .next t ∧ (t.dev.quad q).queue = rest ∧ (t.dev.quad q).ents = (s.dev.quad q).ents ∧
          (t.dev.src (0x924 + 64 * q)).live = true) ∧
      (∀ i e, s.dev.macFind q v.polder v.domain v.mac = some (i, e) → e.valid = true →
        (v.kind = .ageMark → e.version = v.version →
          ∃ t, exec (.learnEventApply q .clean draw) s = .next t ∧ (t.dev.quad q).queue = rest ∧
            t.dev.macAt q i = some { e with agedOnce := true }) ∧
        (v.kind = .remove → e.version = v.version →
          ∃ t, exec (.learnEventApply q .clean draw) s = .next t ∧ (t.dev.quad q).queue = rest ∧ t.dev.macAt q i = none) ∧
        (v.kind = .rehome → e.version = v.version →
          ∃ t, exec (.learnEventApply q .clean draw) s = .next t ∧ (t.dev.quad q).queue = rest ∧
            t.dev.macAt q i = some { e with home := v.origin, hit := decide (q = v.origin), agedOnce := false, version := v.seq % 2 ^ 24 }) ∧
        (v.kind = .new ∨ v.kind = .move → (s.dev.polder v.polder).st ≠ .undefined → e.port = v.port → e.isLag = v.isLag →
          ∃ t, exec (.learnEventApply q .clean draw) s = .next t ∧ (t.dev.quad q).queue = rest ∧
            t.dev.macAt q i = some { e with
              home := v.origin, hit := decide (q = v.origin), agedOnce := false, static := false, version := v.seq % 2 ^ 24, learnTick := v.tick })) ∧
      (∀ i, v.kind = .new → (s.dev.polder v.polder).st ≠ .undefined → s.dev.macFind q v.polder v.domain v.mac = none → s.dev.macUse q v.polder < s.dev.quota v.polder 0 →
        s.dev.macPlace q v.mac v.domain v.polder = some i →
        ∃ t, exec (.learnEventApply q .clean draw) s = .next t ∧ (t.dev.quad q).queue = rest ∧
          ∃ e, t.dev.macAt q i = some e ∧ e.mac = v.mac ∧ e.domain = v.domain ∧ e.polder = v.polder ∧ e.port = v.port ∧
            e.isLag = v.isLag ∧ e.home = v.origin ∧ e.valid = true ∧ e.static = false ∧ e.learnTick = v.tick ∧ e.version = v.seq % 2 ^ 24)) ∧
    (∀ q v rest, q < 4 → (s.dev.quad q).queue = v :: rest →
      ∃ t, exec (.learnApplyLag q) s = .next t ∧ v.tick + 50 < t.dev.bal.tick ∧ (t.dev.src (0x921 + 64 * q)).live = true) ∧
    (∀ q path pre src dst e, q < 4 → (s.dev.quad q).plan = pre ++ [src, dst] → s.dev.macAt q src = some e →
      ∃ t, exec (.relocationMove q 0 path) s = .next t ∧
        (s.dev.macAt q dst = none → dst ∈ macCandidates e.mac e.domain e.polder → t.dev.macAt q src = none ∧
          t.dev.macAt q dst = some { e with stashed := 0, hit := e.hit || decide (e.home = q) } ∧
          (t.dev.quad q).plan = (if pre = [] then [] else pre ++ [src])) ∧
        (s.dev.macAt q dst ≠ none → (t.dev.quad q).ents = (s.dev.quad q).ents ∧ (t.dev.quad q).plan = [])) ∧
    (∀ q src dst e, q < 4 → (s.dev.quad q).plan = [] →
      oldestOf ((s.dev.quad q).ents.filterMap (fun y => if inStash y.1 then y.2.map (fun z => (y.1, z.stashed)) else none)) = some src →
      s.dev.macAt q src = some e → s.dev.macAt q dst = none → dst ∈ macCandidates e.mac e.domain e.polder → src / 4 ≠ dst / 4 →
      ∃ t, exec (.relocationMove q 0 [dst]) s = .next t ∧ t.dev.macAt q src = none ∧
        t.dev.macAt q dst = some { e with stashed := 0, hit := e.hit || decide (e.home = q) }) ∧
    (∀ q table path pre src dst e, wayed table = true → tget s.dev.rle.plans [] table = pre ++ [src, dst] →
      s.dev.tab table src = some e → src ≠ dst → s.dev.placeFree table dst (s.dev.unitsAt table src) = true →
      (s.dev.tabCand table src).contains dst = true →
      ∃ t, exec (.relocationMove q table path) s = .next t ∧ t.dev.tab table src = none ∧
        t.dev.tab table dst = some { e with stashed := 0 }) ∧
    (∀ q, q < 4 → s.dev.lrn.sweeping = true → tget s.dev.lrn.rows 0 q < 32767 →
      ∃ t, exec (.agingVisit q) s = .next t ∧ tget t.dev.lrn.rows 0 q = tget s.dev.lrn.rows 0 q + 1 ∧
        ∀ w k e, w < 4 → k < 4 → s.dev.macAt q (w * 131072 + 4 * tget s.dev.lrn.rows 0 q + k) = some e → e.valid = true →
          e.static = false → e.home = q →
          (e.hit = true → t.dev.macAt q (w * 131072 + 4 * tget s.dev.lrn.rows 0 q + k) = some { e with hit := false, agedOnce := false }) ∧
          (e.hit = false → ∃ v ∈ (t.dev.quad q).offers, v.mac = e.mac ∧ v.domain = e.domain ∧ v.polder = e.polder ∧
            v.version = e.version ∧ v.kind = (if e.agedOnce then .remove else .ageMark)))

/-- Table commands (06 R170, R185, R192, R193, R194, R195, R196; 07 R226, R227). A malformed form, a record that cannot be read, one that
is barred and one for which the quota leaves no room end the command in error and leave the tables as they are. A write by index stores
the record where nothing stands; a write by key of a new key stores it at its place, and one of a key that an entry holds updates that
entry; a default action is stored for its port and class; a write or delete of the MAC table goes to the learn ring. A delete frees the
entry, or, staged, hides it from the staged slot, and finds none where there is none. A read and a search return index and record, or the
parity error that they meet, or find none; a list of one delete is applied; an audit and a scan write what they find as far as the buffer
goes. -/
def Obligations.TableCommandsComplete : Prop :=
  ∀ (s : State) (c : CmdRef) (io : Io) (x : Cmd) (tb i : Nat), s.dev.isRunning c x → tb = x.fld 16 0 8 → i = x.fld 20 0 32 →
    (isOp 0x10 x = true → x.scratch = [] →
      ∃ t, exec (.opTableWrite c io) s = .next t ∧
        (∀ o, tabForm x = some o → t.dev.ended c x (failDone stBadOperand o) ∧ t.dev.rle = s.dev.rle) ∧
        (tabForm x = none → tabRecord x io = none → t.dev.ended c x (failDone stTimeout) ∧ t.dev.rle = s.dev.rle) ∧
        (∀ r q, tabForm x = none → tabRecord x io = some r → recLen tb r = x.fld 18 0 16 → q = tabReq c x io →
          (tb = tMac → recordBad tMac 0 r = none → t.dev.cmd? c = some { x with scratch := [1] } ∧
            ∃ v, t.dev.lrn.hostOffers = s.dev.lrn.hostOffers ++ [v] ∧ v.kind = .hostPlace ∧ v.polder = x.polder ∧
              v.image = BitVec.ofNat 256 r) ∧
          (tb ≠ tMac → tb ≠ tDefault →
            (keyed tb = false ∨ tb = tTcam → x.fld 17 0 3 = 1 → s.dev.recordBar q r = none →
              i + (if tb = tTcam then entUnits tb r else 1) ≤ capacity tb → i % (if tb = tTcam then entUnits tb r else 1) = 0 →
              s.dev.hits q r i = [] →
              (s.dev.quotaShort tb x.polder (entUnits tb r) 0 = false → t.dev.ended c x (okDone i (s.dev.tabReloc tb i)) ∧
                t.dev.tab tb i = some { image := keptImage tb r, polder := x.polder, vis := 3 }) ∧
              (s.dev.quotaShort tb x.polder (entUnits tb r) 0 = true →
                t.dev.ended c x (failDone stNoRoom) ∧ t.dev.rle = s.dev.rle)) ∧
            (keyed tb = true → tb ≠ tTcam → x.fld 17 0 3 = 0 → s.dev.recordBar q r = none →
              (∀ j, s.dev.keyEnts tb x.polder r = [] → s.dev.quotaShort tb x.polder (entUnits tb r) 0 = false →
                s.dev.pipeFull tb r = false → s.dev.newPlace q r = some j →
                t.dev.ended c x (okDone j (s.dev.tabReloc tb j)) ∧ t.dev.tab tb j = some {
                  image := keptImage tb r, polder := x.polder, vis := 3, stashed := if capacity tb ≤ j then s.dev.rle.stashSeq else 0 }) ∧
              (∀ j o, s.dev.keyEnts tb x.polder r = [(j, o)] → t.dev.ended c x (okDone j (s.dev.tabReloc tb j)) ∧
                t.dev.tab tb j = some { image := keptImage tb r, polder := x.polder, vis := 3, stashed := o.stashed })) ∧
            (∀ f, (keyed tb = false ∨ tb = tTcam) ∧ x.fld 17 0 1 = 1 ∨ (keyed tb = true ∧ tb ≠ tTcam ∧ x.fld 17 0 1 = 0) →
              x.fld 17 2 1 = 0 → s.dev.recordBar q r = some f ∨ (s.dev.recordBar q r = none ∧ s.dev.stagedBar q = some f) →
              t.dev.ended c x (failDone f.st f.detail) ∧ t.dev.rle = s.dev.rle)) ∧
          (tb = tDefault → x.fld 17 0 3 = 0 → s.dev.recordBar q r = none → s.dev.isPort (fld r 0 0 10) = true → fld r 8 0 3 ≠ 4 →
            t.dev.ended c x (okDone (8 * fld r 0 0 10 + fld r 0 10 3) (s.dev.tabReloc tb (8 * fld r 0 0 10 + fld r 0 10 3))) ∧
            tget t.dev.pse.entries none (8 * fld r 0 0 10 + fld r 0 10 3) = some (BitVec.ofNat 64 (fld r 8 0 64))))) ∧
    (isOp 0x13 x = true → x.scratch = [] → tabForm x = none →
      ∃ t, exec (.opTableDelete c io) s = .next t ∧
        (tb ≠ tMac → tb ≠ tDefault → x.fld 17 0 1 = 1 → i < lastIndex tb → s.dev.indexMine (s.dev.mayAs c) tb i 0 = true →
          (x.fld 17 1 1 = 0 → ∀ e, s.dev.tab tb i = some e → t.dev.ended c x okDone ∧ t.dev.tab tb i = none) ∧
          (x.fld 17 1 1 = 1 → s.dev.stagedBar (tabReq c x io) = none → ∀ e, s.dev.tab tb i = some e →
            e.vis.testBit s.dev.stagedSlot = true → t.dev.ended c x okDone ∧ t.dev.tab tb i = some (e.hide s.dev.stagedSlot)) ∧
          (x.fld 17 1 1 = 0 → s.dev.tab tb i = none → t.dev.ended c x (failDone stNotFound) ∧ t.dev.rle = s.dev.rle)) ∧
        (tb ≠ tMac → tb ≠ tDefault → x.fld 17 0 1 = 1 → s.dev.indexMine (s.dev.mayAs c) tb i 0 = false →
          t.dev.ended c x (failDone stNotOwner) ∧ t.dev.rle = s.dev.rle) ∧
        (∀ r, keyed tb = true → tb ≠ tMac → tb ≠ tDefault → x.fld 17 0 2 = 0 → tabRecord x io = some r → recLen tb r = x.fld 18 0 16 →
          (s.dev.keyEnts tb x.polder r ≠ [] → t.dev.ended c x okDone ∧ ∀ y ∈ s.dev.keyEnts tb x.polder r, t.dev.tab tb y.1 = none) ∧
          (s.dev.keyEnts tb x.polder r = [] → t.dev.ended c x (failDone stNotFound) ∧ t.dev.rle = s.dev.rle)) ∧
        (∀ r, tb = tMac → x.fld 17 0 1 = 0 → tabRecord x io = some r → recLen tb r = x.fld 18 0 16 →
          t.dev.cmd? c = some { x with scratch := [1] } ∧
          ∃ v, t.dev.lrn.hostOffers = s.dev.lrn.hostOffers ++ [v] ∧ v.kind = .hostDelete ∧ v.polder = x.polder)) ∧
    (∀ slot e, isOp 0x11 x = true → tabForm x = none → x.fld 17 0 1 = 1 → tb ≠ tMac → tb ≠ tDefault →
      slot = (if x.fld 17 1 1 = 1 then s.dev.stagedSlot else s.dev.curSlot) →
      s.dev.indexMine (s.dev.mayAs c) tb i (x.fld 17 4 2) = true → s.dev.tab tb i = some e →
      ∃ t, exec (.opTableRead c io) s = .next t ∧ t.dev.rle = s.dev.rle ∧
        (e.bad.testBit (x.fld 17 4 2) = true ∨ e.vis.testBit slot = false → t.dev.ended c x (failDone stNotFound)) ∧
        (e.bad.testBit (x.fld 17 4 2) = false → e.vis.testBit slot = true → recLen tb e.image.toNat = x.fld 18 0 16 →
          (ioChoice io 0 = 1 → t.dev.ended c x (failDone stEntryParity i)) ∧
          (ioChoice io 0 ≠ 1 → io.wrErr = false → t.dev.ended c x (okDone i (s.dev.tabReloc tb i)) ∧
            ((s.dev.ep c.ep).up = true → t.dev.out =
              .hostWrite c.ep (x.fld 32 0 64) (leBytes (x.fld 18 0 16) (s.dev.readImage tb i e)) :: s.dev.out)))) ∧
    (∀ r, isOp 0x12 x = true → tabForm x = none → x.fld 17 0 2 = 0 → tb = tMac → ioRecord io (x.fld 18 0 16) = some r →
      recLen tb r = x.fld 18 0 16 →
      ∃ t, exec (.opTableSearch c io) s = .next t ∧ t.dev.lrn = s.dev.lrn ∧
        (s.dev.macFind (x.fld 17 4 2) x.polder (fld r 22 0 14) (fld r 16 0 48) = none → t.dev.ended c x (failDone stNotFound)) ∧
        (∀ j e, s.dev.macFind (x.fld 17 4 2) x.polder (fld r 22 0 14) (fld r 16 0 48) = some (j, e) → e.valid = true →
          (ioChoice io 0 = 1 → t.dev.ended c x (failDone stEntryParity j)) ∧
          (ioChoice io 0 ≠ 1 → io.wrErr = false → t.dev.ended c x (okDone j (s.dev.macReloc (x.fld 17 4 2) j)) ∧
            ((s.dev.ep c.ep).up = true → t.dev.out =
              .hostWrite c.ep (x.fld 32 0 64) (leBytes (x.fld 18 0 16) (s.dev.macImage (x.fld 17 4 2) j e)) :: s.dev.out)))) ∧
    (∀ bs j e, isOp 0x14 x = true → x.scratch = [] → isTable tb = true → tb ≠ tMac → tb ≠ tDefault →
      x.fld 17 1 1 = 0 → x.fld 18 0 16 % 8 = 0 → 8 + recLen tb 0 ≤ x.fld 18 0 16 → i = 1 → io.rd = some bs →
      bs.length = x.fld 18 0 16 → leNat (bs.take 8) = 5 + j * 2 ^ 32 → j < lastIndex tb → s.dev.tab tb j = some e →
      s.dev.indexMine (s.dev.mayAs c) tb j 0 = true →
      ∃ t, exec (.opTableBulk c io) s = .next t ∧ t.dev.ended c x (okDone 1) ∧ t.dev.tab tb j = none) ∧
    (isOp 0x14 x = true → x.scratch = [] → isTable tb = true → x.fld 18 0 16 % 8 = 0 → 8 + recLen tb 0 ≤ x.fld 18 0 16 → 1 ≤ i →
      i ≤ 1048576 → io.rd = none →
      ∃ t, exec (.opTableBulk c io) s = .next t ∧ t.dev.ended c x (failDone stTimeout) ∧ t.dev.rle = s.dev.rle) ∧
    (∀ o, isOp 0x15 x = true → x.scratch = [] → isTable tb = true → ioChoice io 0 = 0 → io.wrErr = false →
      o = walkOut tb (s.dev.auditMasks tb (x.fld 17 4 2)) true
        (s.dev.walk (fun p => s.dev.mayAs c (some p)) tb (x.fld 17 4 2) i (i + x.fld 24 0 32)) (x.fld 40 0 32) →
      ∃ t, exec (.opTableAudit c io) s = .next t ∧
        (o.2.2 = none → t.dev.ended c x (okDone o.2.1 ((i + x.fld 24 0 32) % 2 ^ 32))) ∧
        (∀ k, o.2.2 = some k → t.dev.ended c x (okDone o.2.1 (k + 2 ^ 32))) ∧
        (o.1 ≠ [] → (s.dev.ep c.ep).up = true → t.dev.out = .hostWrite c.ep (x.fld 32 0 64) o.1 :: s.dev.out)) ∧
    (∀ o, isOp 0x16 x = true → x.scratch = [] → isTable tb = true → ioChoice io 0 = 0 → io.wrErr = false →
      o = walkOut tb (s.dev.auditMasks tb (x.fld 17 4 2)) false
        (s.dev.walk (fun p => s.dev.mayAs c (some p)) tb (x.fld 17 4 2) i (i + x.fld 24 0 32)) (x.fld 40 0 32) →
      ∃ t, exec (.opTableScan c io) s = .next t ∧
        (o.2.2 = none → t.dev.ended c x (okDone o.2.1 ((i + x.fld 24 0 32) % 2 ^ 32))) ∧
        (∀ k, o.2.2 = some k → t.dev.ended c x (okDone o.2.1 (k + 2 ^ 32))) ∧
        (o.1 ≠ [] → (s.dev.ep c.ep).up = true → t.dev.out = .hostWrite c.ep (x.fld 32 0 64) o.1 :: s.dev.out))

/-- The Spillway's rows (11 R335, R338, R340, R342, R345, R347, R348, R349, R350, R351, R352). The oldest frame of a long-reach class
whose turn it is goes into its LRQ; else the oldest staged packet of the queue whose turn it is goes behind the chain, in the last segment
where it fits, or in new ones; else nothing is written. A cell read back goes to RETURN; a data error discards its packet and makes its source live,
and one of a lost state word leaves no chain; a detached segment comes back, to be retired where it is condemned; a long-reach frame
leaves its LRQ; a CXL port is lost, enumerated, and placed in service or absent; an audit frees a stray segment; a failed stack loses the
archive. -/
def Obligations.SpillwayMovesPackets : Prop :=
  ∀ (s : State),
    (∀ backlog, nextRound 4096 s.dev.spw.rrLrq (fun i => (s.dev.lrqReady (i / 8) (i % 8)).isSome) = none →
      (s.dev.spillTurn backlog = none → exec (.basinWriteComplete backlog) s = .next s) ∧
      (∀ p i k pre post e x, s.dev.spillTurn backlog = some (p, i) → k = 512 * p + i → (s.dev.queue k).ents = pre ++ e :: post →
        (∀ f ∈ pre, f.part ≠ .staging) → e.part = .staging → s.dev.pkt? e.pid = some x →
        ∃ t, exec (.basinWriteComplete backlog) s = .next t ∧ t.dev.spw.rrPipe = p ∧ tget t.dev.spw.rrQueue 511 p = i ∧
          (∀ sg, (s.dev.queue k).chain.getLast? = some sg → 0 < x.need → (s.dev.queue k).fill + x.need ≤ segCells sg →
            (t.dev.queue k).chain = (s.dev.queue k).chain ∧ (t.dev.queue k).fill = (s.dev.queue k).fill + x.need ∧
            ∃ hs, (t.dev.queue k).ents =
              pre ++ { e with part := .basin, segs := [sg], slot := (s.dev.queue k).fill, heads := hs } :: post) ∧
          (∀ segs d, s.dev.writeCells backlog k x.need [] = some (segs, d) → (s.dev.queue k).wantsSeg = true →
            (t.dev.queue k).chain = (d.queue k).chain ∧ (t.dev.queue k).fill = (d.queue k).fill ∧
            ∃ hs, (t.dev.queue k).ents = pre ++ { e with part := .basin, segs := segs, slot := 0, heads := hs } :: post))) ∧
    (∀ a c i pid x backlog, i = 8 * a + c → c < 8 →
      nextRound 4096 s.dev.spw.rrLrq (fun i => (s.dev.lrqReady (i / 8) (i % 8)).isSome) = some i → s.dev.lrqReady a c = some (pid, x) →
      ∃ t, exec (.basinWriteComplete backlog) s = .next t ∧ t.dev.spw.rrLrq = i ∧ t.dev.lrq a c =
        { s.dev.lrq a c with
          staged := (s.dev.lrq a c).staged.tail, frames := (s.dev.lrq a c).frames ++ [pid],
          stagedBytes := (s.dev.lrq a c).stagedBytes - x.record, bytes := (s.dev.lrq a c).bytes + x.record }) ∧
    (∀ k n err, s.dev.readNext k = none → err ≠ .state → exec (.basinReadComplete k n err) s = .next s) ∧
    (∀ k n, k < 8192 → (s.dev.queue k).flooded = true →
      ∃ t, exec (.basinReadComplete k n .state) s = .next t ∧ (t.dev.queue k).chain = [] ∧ (t.dev.queue k).flooded = false) ∧
    (∀ k e sg slot, k < 8192 → s.dev.readNext k = some (e, false) → placeOf e.segs e.slot e.own.length = some (sg, slot) →
      (∀ cl d, e.own.length + 1 < s.dev.entCells e → (s.dev.queue k).returned < 1024 → s.dev.spw.stacksDown = 0 →
        (s.dev.takeReturn false e.own.getLast? = some (cl, d) →
          ∃ t, exec (.basinReadComplete k 1 .clean) s = .next t ∧ { e with part := .ret, own := e.own ++ [cl] } ∈ (t.dev.queue k).ents) ∧
        (segTier sg = 0 → (s.dev.hbmFixed (stackOf (s.dev.basinAddr sg slot))).takeReturn false e.own.getLast? = some (cl, d) →
          ∃ t, exec (.basinReadComplete k 1 .corrected) s = .next t ∧
            { e with part := .ret, own := e.own ++ [cl] } ∈ (t.dev.queue k).ents)) ∧
      (∀ lasting, sg < 2 ^ 21 →
        ∃ t, exec (.basinReadComplete k 1 (.data lasting)) s = .next t ∧ e ∉ (t.dev.queue k).ents ∧
          (t.dev.src (0xC08 + s.dev.basinAddr sg slot / 4096 % 4)).live = true)) ∧
    (s.dev.spw.detached = [] → exec .segmentWalkerReturn s = .next s) ∧
    (∀ sg rest, s.dev.spw.detached = sg :: rest → ∃ t, exec .segmentWalkerReturn s = .next t ∧ t.dev.spw.detached = rest ∧
      (sg ∈ s.dev.spw.condemned → sg ∈ t.dev.spw.retired)) ∧
    (∀ p c pid rest x err, (s.dev.lrq p c).frames = pid :: rest → s.dev.pkt? pid = some x →
      (err = .clean ∨ err = .corrected → (Dev.takeMany x.need [] s.dev).isSome = true) →
      ∃ t, exec (.lrqReturn p c err) s = .next t ∧ (t.dev.lrq p c).frames = rest ∧
        (t.dev.lrq p c).bytes = (s.dev.lrq p c).bytes - x.record) ∧
    (∀ p cause, p < 4 → cause < 3 → (s.dev.cxl p).inService = true →
      ∃ t, exec (.cxlPortLoss p cause) s = .next t ∧ (t.dev.cxl p).inService = false ∧ (t.dev.cxl p).lost = true ∧
        (t.dev.src (0xC10 + p)).live = true ∧ ∀ k, ∀ sg ∈ (t.dev.queue k).chain, sg / 2 ^ 21 ≠ 1 + p) ∧
    (∀ p, (s.dev.cxl p).enumerating = true → (s.dev.cxl p).step = 0 → s.dev.regRuns 1 = true →
      ∃ t, exec (.cxlEnumeration p) s = .next t ∧ t.dev.cxl p = { s.dev.cxl p with step := 1, perst := false }) ∧
    (∀ p cap, p < 4 → (s.dev.cxl p).enumerating = true → (s.dev.cxl p).step ≠ 0 →
      (∀ w r, w = 16 ∨ w = 8 → r = 64 ∨ r = 32 → ∃ t, exec (.cxlEnumerationDone p 0 cap w r) s = .next t ∧ t.dev.cxl p =
        { s.dev.cxl p with
          enumerating := false, failed := false, step := 0, inService := true, lost := false, capMib := min cap 524288 / 256 * 256,
          width := w, rate := r } ∧ (t.dev.src (0xC18 + p)).live = decide (w ≠ 16 ∨ r ≠ 64)) ∧
      (∀ f w r, 1 ≤ f ∧ f ≤ 6 ∨ f = 0 ∧ ¬((w = 16 ∨ w = 8) ∧ (r = 64 ∨ r = 32)) →
        ∃ t, exec (.cxlEnumerationDone p f cap w r) s = .next t ∧ (t.dev.cxl p).enumerating = false ∧ (t.dev.cxl p).failed = true ∧
        (t.dev.cxl p).inService = (s.dev.cxl p).inService ∧ (t.dev.src (0xC1C + p)).live = s.dev.spw.cxlEn.testBit p)) ∧
    (∀ sg, sg ∈ s.dev.spw.stray → s.dev.regRuns 1 = true →
      ∃ t, exec (.basinAudit sg) s = .next t ∧ t.dev.spw.stray = s.dev.spw.stray.erase sg ∧
        (sg ∈ s.dev.spw.condemned → sg ∈ t.dev.spw.retired)) ∧
    (∀ k, k < 4 → ∃ t, exec (.hbmStackFailure k) s = .next t ∧ t.dev.spw.stacksDown.testBit k = true ∧ t.dev.esc.archive = [] ∧
      (∀ i x, (i, some x) ∈ t.dev.mrp.flows → x.cached = true) ∧ (t.dev.src (0xC00 + k)).live = true)
/-- OP_SPILL_SET (11 R339, R346, R354, R355): a queue's threshold and basin limit, a class's long-reach allotment, and what a queue and a
long-reach queue hold. What names no port is not found; a threshold below 256 is a bad operand. An allotment is refused of a class that
holds frames in the LRQ or is closed, without the headroom or room in the region, or above the rate. -/
def Obligations.SpillCommandsComplete : Prop :=
  ∀ (s : State) (c : CmdRef) (io : Io) (x : Cmd), s.dev.isRunning c x →
    (∀ k, k = x.fld 16 0 13 →
      (isOpAct 0x62 (18, 0, 2) 0 x = true → ∃ t, exec (.opSpillSetQueue c io) s = .next t ∧
        (s.dev.isPort (k / 16) = false → t.dev.ended c x (failDone stNotFound) ∧ t.dev.queue k = s.dev.queue k) ∧
        (s.dev.isPort (k / 16) = true → 0 < x.fld 20 0 16 → x.fld 20 0 16 < 256 →
          t.dev.ended c x (failDone stBadOperand 20) ∧ t.dev.queue k = s.dev.queue k) ∧
        (s.dev.isPort (k / 16) = true → x.fld 20 0 16 = 0 ∨ 256 ≤ x.fld 20 0 16 → t.dev.ended c x okDone ∧ t.dev.queue k =
          { s.dev.queue k with threshold := x.fld 20 0 16, basinMax := if x.fld 24 0 24 = 0 then 0xFFFFFF else x.fld 24 0 24 })) ∧
      (isOpAct 0x62 (18, 0, 2) 2 x = true → ∃ t, exec (.opSpillSetReadQueue c io) s = .next t ∧ t.dev.queue k = s.dev.queue k ∧
        (s.dev.isPort (k / 16) = false → t.dev.ended c x (failDone stNotFound)) ∧
        (s.dev.isPort (k / 16) = true → ∃ tiers staging, t.dev.ended c x (okDone
          (pack [(0, 1, b2n (s.dev.queue k).flooded), (1, 24, (s.dev.queue k).chain.length), (25, 5, tiers)])
          (pack [(0, 32, ((s.dev.queue k).ents.filter (fun e => decide (e.part = .basin))).length), (32, 21, staging),
            (53, 11, (s.dev.queue k).returned)])) ∧
          (∀ i, i < 5 → tiers.testBit i = (s.dev.queue k).chain.any (fun sg => decide (segTier sg = i))) ∧
          ((∀ e ∈ (s.dev.queue k).ents, e.part ≠ .staging) → staging = 0)))) ∧
    (∀ a k mib, a = x.fld 16 0 10 → k = x.fld 19 0 3 → mib = x.fld 28 0 16 → x.fld 16 10 3 = 0 → s.dev.isPort a = true →
      (isOpAct 0x62 (18, 0, 2) 1 x = true → ∃ t, exec (.opSpillSetLongReach c io) s = .next t ∧
        ((s.dev.lrq a k).frames ≠ [] ∨ (s.dev.acct a).closed.testBit k = true →
          t.dev.ended c x (failDone stWrongMode 0x100) ∧ t.dev.lrq a k = s.dev.lrq a k) ∧
        ((s.dev.lrq a k).frames = [] → (s.dev.acct a).closed.testBit k = false →
          (0 < mib → (s.dev.acct a).hr.getD k 0 < 2048 → t.dev.ended c x (failDone stBadOperand 28) ∧ t.dev.lrq a k = s.dev.lrq a k) ∧
          (mib = 0 ∨ 2048 ≤ (s.dev.acct a).hr.getD k 0 →
            (s.dev.spw.map.longReach * 1024 < s.dev.lrTotal a k mib →
              t.dev.ended c x (failDone stNoRoom 0x300) ∧ t.dev.lrq a k = s.dev.lrq a k) ∧
            (s.dev.lrTotal a k mib ≤ s.dev.spw.map.longReach * 1024 → 0 < mib → 6400 < s.dev.lrRate a →
              t.dev.ended c x (failDone stNoRoom 0x400) ∧ t.dev.lrq a k = s.dev.lrq a k) ∧
            (s.dev.lrTotal a k mib ≤ s.dev.spw.map.longReach * 1024 → mib = 0 ∨ s.dev.lrRate a ≤ 6400 →
              t.dev.ended c x okDone ∧ t.dev.lrq a k = { s.dev.lrq a k with mib := mib })))) ∧
      (isOpAct 0x62 (18, 0, 2) 3 x = true →
        ∃ t, exec (.opSpillSetReadLr c io) s = .next t ∧ t.dev.lrq a k = s.dev.lrq a k ∧ t.dev.ended c x (okDone
          (pack [(0, 32, (s.dev.lrq a k).bytes), (32, 32, (s.dev.lrq a k).frames.length)])
          (pack [(0, 16, (s.dev.lrq a k).mib),
            (16, 1, b2n (!(s.dev.lrq a k).frames.isEmpty && (s.dev.acct a).closed.testBit k))])))) ∧
    (∀ a, a = x.fld 16 0 10 →
      (isOpAct 0x62 (18, 0, 2) 1 x = true → ∃ t, exec (.opSpillSetLongReach c io) s = .next t ∧
        (x.fld 16 10 3 ≠ 0 → t.dev.ended c x (failDone stBadOperand 16)) ∧
        (x.fld 16 10 3 = 0 → s.dev.isPort a = false → t.dev.ended c x (failDone stNotFound))) ∧
      (isOpAct 0x62 (18, 0, 2) 3 x = true → ∃ t, exec (.opSpillSetReadLr c io) s = .next t ∧
        (x.fld 16 10 3 ≠ 0 → t.dev.ended c x (failDone stBadOperand 16)) ∧
        (x.fld 16 10 3 = 0 → s.dev.isPort a = false → t.dev.ended c x (failDone stNotFound))))

/-- The Tide Gauge (12 R383, R384, R385, R388, R392). A sample counts in each enabled queue's histograms; an interval's end begins the
next one with cleared histograms, and archives one record of each enabled queue where the port's records are archived; the commands set a
port's gauge and return a live record and the archived records that the caller may read, from a sequence on, or end in the error of a
port, an operand or a buffer. -/
def Obligations.TideGaugeSamplesAndReports : Prop :=
  ∀ (s : State),
    (∀ p, s.dev.isPort p = true → (s.dev.gauge p).enable ≠ 0 →
      ∃ t, exec (.gaugeSample p) s = .next t ∧ (t.dev.gauge p).taken = (s.dev.gauge p).taken + 1 ∧
        (s.dev.gauge p).due ((s.dev.gauge p).taken + 1) ≤ t.dev.bal.tick ∧
        ∀ q, q < 20 → (s.dev.gauge p).enable.testBit q = true →
          (tget (t.dev.gauge p).hists {} q).samples = min ((tget (s.dev.gauge p).hists {} q).samples + 1) 0xFFFFFFFF ∧
          (tget (t.dev.gauge p).hists {} q).depth =
            addSat (tget (s.dev.gauge p).hists {} q).depth (depthBin (s.dev.queueCells (portKey p q))) ∧
          (tget (t.dev.gauge p).hists {} q).depthMax = max (tget (s.dev.gauge p).hists {} q).depthMax (s.dev.queueCells (portKey p q))) ∧
    (∀ p, s.dev.isPort p = false ∨ (s.dev.gauge p).enable = 0 → exec (.gaugeSample p) s = .next s ∧ exec (.gaugeIntervalEnd p) s = .next s) ∧
    (∀ p, s.dev.isPort p = true → (s.dev.gauge p).enable ≠ 0 → (s.dev.gauge p).exportMs ≠ 0 →
      ∃ t, exec (.gaugeIntervalEnd p) s = .next t ∧ (t.dev.gauge p).from_ = (s.dev.gauge p).boundary (s.dev.gauge p).from_ ∧
        ((s.dev.gauge p).archive = true → 0 < s.dev.archCap →
          t.dev.esc.archSeq = s.dev.esc.archSeq + (setBits (s.dev.gauge p).enable 20).length) ∧
        ((s.dev.gauge p).archive = false → t.dev.esc.archive = s.dev.esc.archive) ∧
        ∀ q, q < 20 → (s.dev.gauge p).enable.testBit q = true → tget (t.dev.gauge p).hists {} q = { partial_ := false }) ∧
    (∀ (c : CmdRef) (io : Io) (x : Cmd) (p : Nat), s.dev.isRunning c x → p = x.fld 16 0 10 →
      (isOpAct 0x53 (18, 0, 2) 0 x = true → ∃ t, exec (.opGaugeSetSet c io) s = .next t ∧
        (s.dev.isPort p = false → t.dev.ended c x (failDone stNotFound) ∧ t.dev.esc = s.dev.esc) ∧
        (s.dev.isPort p = true → 4000 < x.fld 24 0 12 → t.dev.ended c x (failDone stBadOperand 24) ∧ t.dev.esc = s.dev.esc) ∧
        (s.dev.isPort p = true → x.fld 24 0 12 ≤ 4000 → 60000 < x.fld 26 0 16 →
          t.dev.ended c x (failDone stBadOperand 26) ∧ t.dev.esc = s.dev.esc) ∧
        (s.dev.isPort p = true → x.fld 24 0 12 ≤ 4000 → x.fld 26 0 16 ≤ 60000 →
          t.dev.ended c x okDone ∧ (t.dev.gauge p).enable = x.fld 20 0 20 ∧
          (t.dev.gauge p).sampleQ = (if x.fld 24 0 12 = 0 then 4 else x.fld 24 0 12) ∧ (t.dev.gauge p).exportMs = x.fld 26 0 16 ∧
          (t.dev.gauge p).archive = decide (x.fld 28 0 1 = 1) ∧ (t.dev.gauge p).ring = decide (x.fld 28 1 1 = 1) ∧
          (t.dev.gauge p).start = s.dev.bal.tick ∧ (t.dev.gauge p).taken = 0)) ∧
      (isOpAct 0x53 (18, 0, 2) 1 x = true → ∃ t, exec (.opGaugeSetRead c io) s = .next t ∧ t.dev.esc = s.dev.esc ∧
        (s.dev.isPort p = false → t.dev.ended c x (failDone stNotFound)) ∧
        (s.dev.isPort p = true → 20 ≤ x.fld 19 0 5 → t.dev.ended c x (failDone stBadOperand 19)) ∧
        (s.dev.isPort p = true → x.fld 19 0 5 < 20 → x.fld 32 0 6 ≠ 0 → t.dev.ended c x (failDone stBadOperand 32)) ∧
        (s.dev.isPort p = true → x.fld 19 0 5 < 20 → x.fld 32 0 6 = 0 → x.fld 44 0 32 < 192 →
          t.dev.ended c x (failDone stBadOperand 44)) ∧
        (s.dev.isPort p = true → x.fld 19 0 5 < 20 → x.fld 32 0 6 = 0 → 192 ≤ x.fld 44 0 32 →
          (io.wrErr = true → t.dev.ended c x (failDone stTimeout 32)) ∧
          (io.wrErr = false → t.dev.ended c x okDone ∧ ((s.dev.ep c.ep).up = true → t.dev.out =
            .hostWrite c.ep (x.fld 32 0 64)
              (leBytes 192 (s.dev.gaugeImage p (x.fld 19 0 5) 0 s.dev.timeNsAll false true).toNat) :: s.dev.out)))) ∧
      (isOpAct 0x53 (18, 0, 2) 2 x = true → x.steps = 0 → x.scratch = [] → io.pick = [] →
        ∃ t, exec (.opGaugeSetArchiveRead c io) s = .next t ∧ t.dev.esc = s.dev.esc ∧
        (x.fld 32 0 6 ≠ 0 → t.dev.ended c x (failDone stBadOperand 32)) ∧
        (x.fld 32 0 6 = 0 → x.fld 44 0 32 < 192 → t.dev.ended c x (failDone stBadOperand 44)) ∧
        (∀ src good put oldest after, x.fld 32 0 6 = 0 → 192 ≤ x.fld 44 0 32 →
          src = s.dev.esc.archive.filter (fun r => decide ((r.1 + 2 ^ 32 - x.fld 40 0 32) % 2 ^ 32 < 2 ^ 31)) →
          good = src.filter (fun r => s.dev.mayAs c none || s.dev.mayAs c (some r.2.1)) → put = good.take (x.fld 44 0 32 / 192) →
          oldest = (s.dev.esc.archive.head?.map (fun r => r.1)).getD s.dev.esc.archSeq % 2 ^ 32 →
          after = (match good[x.fld 44 0 32 / 192]? with
            | some r => r.1 % 2 ^ 32
            | none => match src.getLast? with
              | some r => (r.1 + 1) % 2 ^ 32
              | none => s.dev.esc.archSeq % 2 ^ 32) →
          (io.wrErr = true → ∃ o, t.dev.ended c x o ∧ o.status = stTimeout ∧ o.detail = 32) ∧
          (io.wrErr = false → t.dev.ended c x (okDone (put.length + oldest * 2 ^ 32) after) ∧
            (put ≠ [] → (s.dev.ep c.ep).up = true → t.dev.out = .hostWrite c.ep (x.fld 32 0 64)
              ((put.map (fun r => leBytes 192 r.2.2.toNat)).flatten) :: s.dev.out)))))

/-- The Minute Repeater and the ledger (13 R405, R406, R408, R410, R411, R412, R414, R415, R416). An epoch's end closes the open bank and
opens the other, or, while the other is not free, the open bank holds the next epoch too; a frozen bank is exported or freed; records go to
the ring in turn; a merged update is counted in its bank, or late; a missed flow takes its slot, joins its flow or goes to its tenant's
bucket; the walker ends a flow that is idle, exports one that is due and loses one that cannot be read. -/
def Obligations.MinuteRepeaterCountsAndExports : Prop :=
  ∀ (s : State),
    (s.dev.corePowered = false → exec .epochEnd s = .next s) ∧
    (s.dev.corePowered = true →
      ∃ t, exec .epochEnd s = .next t ∧ t.dev.mrp.epoch = t.dev.epochOf t.dev.timeNsAll ∧
        ∀ p b, p < 8 → (s.dev.polder p).st ≠ .undefined → s.dev.bankIn p .opened = some b →
          ((s.dev.bank p (1 - b)).st = .free →
            (t.dev.bank p b).st = .closing ∧ (t.dev.bank p b).epochs = (s.dev.bank p b).epochs ∧
            (t.dev.bank p (1 - b)).st = .opened ∧ (t.dev.bank p (1 - b)).epochs = [t.dev.mrp.epoch]) ∧
          ((s.dev.bank p (1 - b)).st ≠ .free → (t.dev.bank p b).st = .opened ∧
            (t.dev.bank p b).epochs = (s.dev.bank p b).epochs ++ [t.dev.mrp.epoch] ∧ t.dev.bank p (1 - b) = s.dev.bank p (1 - b))) ∧
    (∀ p, s.dev.bankIn p .closing = none → exec (.bankFreeze p) s = .next s) ∧
    (∀ p b, s.dev.bankIn p .closing = some b →
      ∃ t, exec (.bankFreeze p) s = .next t ∧ (s.dev.bank p b).endTick + 25000 * s.dev.mrp.closeMs ≤ t.dev.bal.tick ∧
        ((s.dev.mrpRing p).enable = true → (t.dev.bank p b).st = .exporting ∧
          (t.dev.mrpRing p).runs.length = (s.dev.mrpRing p).runs.length + 1) ∧
        ((s.dev.mrpRing p).enable = false → t.dev.bank p b = {} ∧ t.dev.mrpRing p = s.dev.mrpRing p)) ∧
    (∀ p, (s.dev.ep (s.dev.polder p).owner).up = false ∨ s.dev.regRuns 3 = false → exec (.minuteRecordWrite p) s = .next s) ∧
    (∀ p, (s.dev.ep (s.dev.polder p).owner).up = true → s.dev.regRuns 3 = true →
      (∀ b first skipped r rest more, (s.dev.mrpRing p).runs = (b, first, skipped, r :: rest) :: more →
        (s.dev.mrpRing p).extra = [] ∨ (s.dev.mrpRing p).written ≠ 0 →
        ((s.dev.mrpRing p).room r.length = false → exec (.minuteRecordWrite p) s = .next s) ∧
        ((s.dev.mrpRing p).room r.length = true →
          ∃ t, exec (.minuteRecordWrite p) s = .next t ∧ (t.dev.mrpRing p).runs = (b, first, skipped, rest) :: more ∧
            (t.dev.mrpRing p).written = (s.dev.mrpRing p).written + 1 ∧ (t.dev.mrpRing p).seq = (s.dev.mrpRing p).seq + 1 ∧
            (t.dev.mrpRing p).prod = (s.dev.mrpRing p).prod + BitVec.ofNat 32 ((s.dev.mrpRing p).slots r.length))) ∧
      (∀ b first skipped more, (s.dev.mrpRing p).runs = (b, first, skipped, []) :: more → (s.dev.mrpRing p).room 64 = true →
        ∃ t, exec (.minuteRecordWrite p) s = .next t ∧ (t.dev.mrpRing p).runs = more ∧ (t.dev.mrpRing p).written = 0 ∧
          t.dev.bank p b = {} ∧ (t.dev.mrpRing p).seq = (s.dev.mrpRing p).seq + 1) ∧
      (∀ r rest, (s.dev.mrpRing p).runs = [] → (s.dev.mrpRing p).extra = r :: rest → (s.dev.mrpRing p).room r.length = true →
        ∃ t, exec (.minuteRecordWrite p) s = .next t ∧ (t.dev.mrpRing p).extra = rest ∧
          (t.dev.mrpRing p).seq = (s.dev.mrpRing p).seq + 1)) ∧
    (∀ i bad, s.dev.mrp.merging[i]? = none → exec (.combinedUpdate i bad) s = .next s) ∧
    (∀ i u, s.dev.mrp.merging[i]? = some u →
      (∀ b, s.dev.bankOf u.polder u.epoch = some b →
        (∃ t, exec (.combinedUpdate i none) s = .next t ∧ t.dev.mrp.merging = s.dev.mrp.merging.eraseIdx i ∧
          tget (t.dev.bank u.polder b).counts [] u.tenant = addCounts (tget (s.dev.bank u.polder b).counts [] u.tenant) u.inc) ∧
        (∀ k, ∃ t, exec (.combinedUpdate i (some k)) s = .next t ∧ t.dev.mrp.merging = s.dev.mrp.merging.eraseIdx i ∧
          tget (t.dev.bank u.polder b).counts [] u.tenant =
            addCounts ((tget (s.dev.bank u.polder b).counts [] u.tenant).set k 0) u.inc ∧
          u.tenant ∈ (t.dev.bank u.polder b).invalid ∧ (t.dev.src 0xE19).live = true)) ∧
      (s.dev.bankOf u.polder u.epoch = none → s.dev.mrp.late = [] →
        ∀ bad, ∃ t, exec (.combinedUpdate i bad) s = .next t ∧ t.dev.mrp.merging = s.dev.mrp.merging.eraseIdx i ∧
          t.dev.mrp.late = [{ tenant := u.tenant, epoch := s.dev.epochOfTag u.epoch, polder := u.polder, delta := u.inc }])) ∧
    (∀ bad ev, s.dev.mrp.misses = [] → exec (.ledgerMiss bad ev) s = .next s) ∧
    (∀ f slot rest bad used, s.dev.mrp.misses = (f, slot) :: rest →
      used = (if s.dev.mrp.budgetTick = s.dev.bal.tick / 25 then s.dev.mrp.budgetUsed else 0) →
      (used < 9375 → tget s.dev.mrp.flows none slot = none → slot < s.dev.ledgerSlots → s.dev.flowsOf f.polder < s.dev.ledgerCap f.polder →
        ∃ t, exec (.ledgerMiss bad none) s = .next t ∧ t.dev.mrp.misses = rest ∧ tget t.dev.mrp.flows none slot = some f) ∧
      (∀ g, used < 9375 → tget s.dev.mrp.flows none slot = some g → bad = false ∨ g.cached = true → g.key = f.key → g.polder = f.polder →
        ∃ t, exec (.ledgerMiss bad none) s = .next t ∧ t.dev.mrp.misses = rest ∧ tget t.dev.mrp.flows none slot = some { g with
          bytes := g.bytes + f.bytes, pkts := g.pkts + f.pkts, firstSec := if g.pkts = 0 then f.firstSec else g.firstSec
          lastSec := f.lastSec, lastTick := f.lastTick, cached := true }) ∧
      (∀ g, used < 9375 → tget s.dev.mrp.flows none slot = some g → bad = false ∨ g.cached = true → g.key ≠ f.key →
        s.dev.flowIdle g = false →
        ∃ t, exec (.ledgerMiss bad none) s = .next t ∧ t.dev.mrp.misses = rest ∧ t.dev.mrp.flows = s.dev.mrp.flows ∧
          (t.dev.unattr f.tenant).bytes = (s.dev.unattr f.tenant).bytes + f.bytes ∧
          (t.dev.unattr f.tenant).collide = (s.dev.unattr f.tenant).collide + f.pkts) ∧
      (9375 ≤ used →
        ∃ t, exec (.ledgerMiss bad none) s = .next t ∧ t.dev.mrp.misses = rest ∧ t.dev.mrp.flows = s.dev.mrp.flows ∧
          (t.dev.unattr f.tenant).bytes = (s.dev.unattr f.tenant).bytes + f.bytes ∧
          (t.dev.unattr f.tenant).budget = (s.dev.unattr f.tenant).budget + f.pkts)) ∧
    (∀ slot bad, tget s.dev.mrp.flows none slot = none → exec (.ledgerWalkerVisit slot bad) s = .next s) ∧
    (∀ slot f, tget s.dev.mrp.flows none slot = some f →
      (f.cached = false → ∃ t, exec (.ledgerWalkerVisit slot true) s = .next t ∧ tget t.dev.mrp.flows none slot = none ∧
        (t.dev.src 0xE1A).live = true) ∧
      (s.dev.flowIdle f = true →
        ∃ t, exec (.ledgerWalkerVisit slot false) s = .next t ∧ tget t.dev.mrp.flows none slot = none ∧
          ((s.dev.mrpRing f.polder).enable = true → (s.dev.mrpRing f.polder).ledger = true → (t.dev.mrpRing f.polder).extra =
            (s.dev.mrpRing f.polder).extra ++ [flowRec f s.dev.mrp.epoch true false])) ∧
      (s.dev.flowIdle f = false → ∃ t, exec (.ledgerWalkerVisit slot false) s = .next t ∧
        (0 < (s.dev.ledgerCfg f.polder).activeS → f.exportTick + (s.dev.ledgerCfg f.polder).activeS * 25000000 ≤ s.dev.bal.tick →
          tget t.dev.mrp.flows none slot = some { f with bytes := 0, pkts := 0, exportTick := s.dev.bal.tick }) ∧
        ((s.dev.ledgerCfg f.polder).activeS = 0 ∨ s.dev.bal.tick < f.exportTick + (s.dev.ledgerCfg f.polder).activeS * 25000000 → t = s)))
/-- The ledger, export and meter commands (13 R403, R412, R420, R421, R422, R423): what each stores, returns and deletes, and the operand
or the state for which it ends in error. An enabled ring takes new flags alone; a disabled one loses its runs and frees their banks. A
weir that stands takes its new configuration as pending; a new one needs room in the quota; a foreign one is not the caller's; a rule
replaces the one of its key. -/
def Obligations.MeterAndLedgerCommandsComplete : Prop :=
  ∀ (s : State) (c : CmdRef) (io : Io) (x : Cmd), s.dev.isRunning c x →
    (isOp 0x42 x = true → ∃ t, exec (.opLedgerConfig c io) s = .next t ∧
      (3600 < x.fld 20 0 16 → t.dev.ended c x (failDone stBadOperand 20) ∧ t.dev.mrp = s.dev.mrp) ∧
      (x.fld 20 0 16 ≤ 3600 → 3600 < x.fld 22 0 16 → t.dev.ended c x (failDone stBadOperand 22) ∧ t.dev.mrp = s.dev.mrp) ∧
      (x.fld 20 0 16 ≤ 3600 → x.fld 22 0 16 ≤ 3600 → t.dev.ended c x okDone ∧ t.dev.ledgerCfg (x.fld 16 0 3) =
        { enable := decide (x.fld 17 0 1 = 1), idleS := if x.fld 20 0 16 = 0 then 60 else x.fld 20 0 16, activeS := x.fld 22 0 16 })) ∧
    (∀ p r, p = x.fld 16 0 3 → r = s.dev.mrpRing p →
      (isOpAct 0x43 (17, 0, 2) 0 x = true → ∃ t, exec (.opLedgerExportSetSet c io) s = .next t ∧
        (x.fld 18 0 1 = 1 →
          (x.fld 19 0 5 < 6 ∨ 20 < x.fld 19 0 5 → t.dev.ended c x (failDone stBadOperand 19) ∧ t.dev.mrp = s.dev.mrp) ∧
          (6 ≤ x.fld 19 0 5 → x.fld 19 0 5 ≤ 20 →
            (x.fld 24 0 64 % 4096 ≠ 0 → t.dev.ended c x (failDone stBadOperand 24) ∧ t.dev.mrp = s.dev.mrp) ∧
            (x.fld 24 0 64 % 4096 = 0 → x.fld 32 0 64 % 8 ≠ 0 → t.dev.ended c x (failDone stBadOperand 32) ∧ t.dev.mrp = s.dev.mrp) ∧
            (x.fld 24 0 64 % 4096 = 0 → x.fld 32 0 64 % 8 = 0 →
              (r.enable = false → t.dev.ended c x okDone ∧ t.dev.mrpRing p = { r with
                enable := true, base := x.fld 24 0 64, sizeLog2 := x.fld 19 0 5, wb := x.fld 32 0 64, prod := 0, cons := 0, seq := 0
                skipZero := decide (x.fld 18 1 1 = 1), ledger := decide (x.fld 18 2 1 = 1) }) ∧
              (r.enable = true → x.fld 24 0 64 = r.base → x.fld 19 0 5 = r.sizeLog2 → t.dev.ended c x okDone ∧ t.dev.mrpRing p =
                { r with skipZero := decide (x.fld 18 1 1 = 1), ledger := decide (x.fld 18 2 1 = 1) }) ∧
              (r.enable = true → x.fld 24 0 64 ≠ r.base ∨ x.fld 19 0 5 ≠ r.sizeLog2 →
                t.dev.ended c x (failDone stWrongMode) ∧ t.dev.mrp = s.dev.mrp)))) ∧
        (x.fld 18 0 1 = 0 → t.dev.ended c x okDone ∧
          (r.enable = true → (t.dev.mrpRing p).enable = false ∧ (t.dev.mrpRing p).runs = [] ∧ ∀ y ∈ r.runs, t.dev.bank p y.1 = {}))) ∧
      (isOpAct 0x43 (17, 0, 2) 1 x = true → ∃ t, exec (.opLedgerExportSetRead c io) s = .next t ∧ t.dev.mrp = s.dev.mrp ∧
        t.dev.ended c x (okDone
          (pack [(0, 32, r.prod.toNat), (32, 2, (s.dev.bank p 0).st.code), (34, 2, (s.dev.bank p 1).st.code),
            (36, 16, ((s.dev.bankIn p .opened).map (fun b => (s.dev.bank p b).epochs.length)).getD 0)]) s.dev.mrp.epoch)) ∧
      (isOpAct 0x43 (17, 0, 2) 2 x = true → x.scratch = [] → io.pick = [] →
        ∃ t, exec (.opLedgerExportSetFlush c io) s = .next t ∧ t.dev.ended c x okDone ∧
          ∀ k f, tget t.dev.mrp.flows none k = some f → f.polder = p → f.bytes = 0 ∧ f.pkts = 0)) ∧
    (∀ w cfg, isOpAct 0x44 (16, 0, 3) 0 x = true → w = x.fld 20 0 18 →
      cfg =
        { aware := decide (x.fld 17 0 1 = 1), yellow := decide (x.fld 17 1 1 = 1), red := x.fld 17 2 2, yellowPrio := x.fld 18 0 3
          redPrio := x.fld 18 3 3, cir := x.fld 24 0 32, pir := x.fld 28 0 32, cbs := x.fld 32 0 32, pbs := x.fld 36 0 32 } →
      ∃ t, exec (.opMeterSetWeirSet c io) s = .next t ∧
        (∀ y, s.dev.weir w = some y → s.dev.mayAs c (some y.polder) = false →
          t.dev.ended c x (failDone stNotOwner) ∧ t.dev.mrp = s.dev.mrp) ∧
        ((∀ y, s.dev.weir w = some y → s.dev.mayAs c (some y.polder) = true) →
          (cfg.red = 3 → t.dev.ended c x (failDone stBadOperand 17) ∧ t.dev.mrp = s.dev.mrp) ∧
          (cfg.red ≠ 3 → cfg.cir < 1000 ∨ 1600000000 < cfg.cir → t.dev.ended c x (failDone stBadOperand 24) ∧ t.dev.mrp = s.dev.mrp) ∧
          (cfg.red ≠ 3 → 1000 ≤ cfg.cir → cfg.cir ≤ 1600000000 → cfg.pir < cfg.cir ∨ 1600000000 < cfg.pir →
            t.dev.ended c x (failDone stBadOperand 28) ∧ t.dev.mrp = s.dev.mrp) ∧
          (cfg.red ≠ 3 → 1000 ≤ cfg.cir → cfg.cir ≤ cfg.pir → cfg.pir ≤ 1600000000 →
            (cfg.cbs < 64 ∨ 16777216 < cfg.cbs → t.dev.ended c x (failDone stBadOperand 32) ∧ t.dev.mrp = s.dev.mrp) ∧
            (64 ≤ cfg.cbs → cfg.cbs ≤ 16777216 →
              (cfg.pbs < 64 ∨ 16777216 < cfg.pbs → t.dev.ended c x (failDone stBadOperand 36) ∧ t.dev.mrp = s.dev.mrp) ∧
              (64 ≤ cfg.pbs → cfg.pbs ≤ 16777216 →
                (∀ y, s.dev.weir w = some y → t.dev.ended c x okDone ∧
                  t.dev.weir w = some { y with next := some cfg, setTick := s.dev.bal.tick }) ∧
                (s.dev.weir w = none → s.dev.weirCount x.polder (w / 65536) < s.dev.quota x.polder 11 →
                  t.dev.ended c x okDone ∧ ∃ y, t.dev.weir w = some y ∧ y.polder = x.polder ∧ y.next = some cfg ∧ y.fresh = true) ∧
                (s.dev.weir w = none → s.dev.quota x.polder 11 ≤ s.dev.weirCount x.polder (w / 65536) →
                  t.dev.ended c x (failDone stNoRoom) ∧ t.dev.mrp = s.dev.mrp)))))) ∧
    (∀ w, w = x.fld 20 0 18 →
      (isOpAct 0x44 (16, 0, 3) 1 x = true → ∃ t, exec (.opMeterSetWeirRead c io) s = .next t ∧ t.dev.mrp = s.dev.mrp ∧
        (s.dev.weir w = none → t.dev.ended c x (failDone stNotFound)) ∧
        (∀ y, s.dev.weir w = some y →
          (s.dev.mayAs c (some y.polder) = false → t.dev.ended c x (failDone stNotOwner)) ∧
          (s.dev.mayAs c (some y.polder) = true → y.last = s.dev.bal.tick → y.c ≤ y.cfg.cbs * 200000 → y.p ≤ y.cfg.pbs * 200000 →
            t.dev.ended c x (okDone (pack [(0, 32, unsigned 32 (y.c / 200000)), (32, 32, unsigned 32 (y.p / 200000))])
              (y.granted % 2 ^ 32))))) ∧
      (isOpAct 0x44 (16, 0, 3) 2 x = true → ∃ t, exec (.opMeterSetWeirDelete c io) s = .next t ∧
        (s.dev.weir w = none → t.dev.ended c x (failDone stNotFound) ∧ t.dev.mrp = s.dev.mrp) ∧
        (∀ y, s.dev.weir w = some y →
          (s.dev.mayAs c (some y.polder) = false → t.dev.ended c x (failDone stNotOwner) ∧ t.dev.mrp = s.dev.mrp) ∧
          (s.dev.mayAs c (some y.polder) = true → t.dev.ended c x okDone ∧ t.dev.weir w = none)))) ∧
    (∀ k key rule tn, k = x.fld 40 0 2 → key = x.fld 44 0 32 → tn = x.fld 48 0 18 → rule = (x.polder, k, key, tn) →
      (isOpAct 0x44 (16, 0, 3) 3 x = true → ∃ t, exec (.opMeterSetRuleSet c io) s = .next t ∧
        (badRuleKey k key = true → t.dev.ended c x (failDone stBadOperand 44) ∧ t.dev.mrp = s.dev.mrp) ∧
        (badRuleKey k key = false →
          (tn < (s.dev.polder x.polder).tenantBase ∨ (s.dev.polder x.polder).tenantBase + (s.dev.polder x.polder).tenantCount ≤ tn →
            t.dev.ended c x (failDone stNotOwner) ∧ t.dev.mrp = s.dev.mrp) ∧
          ((s.dev.polder x.polder).tenantBase ≤ tn → tn < (s.dev.polder x.polder).tenantBase + (s.dev.polder x.polder).tenantCount →
            s.dev.mrp.rules.length < 65536 → t.dev.ended c x okDone ∧ rule ∈ t.dev.mrp.rules ∧
              ∀ u, (x.polder, k, key, u) ∈ t.dev.mrp.rules → u = tn))) ∧
      (isOpAct 0x44 (16, 0, 3) 4 x = true → ∃ t, exec (.opMeterSetRuleDelete c io) s = .next t ∧
        (badRuleKey k key = true → t.dev.ended c x (failDone stBadOperand 44) ∧ t.dev.mrp = s.dev.mrp) ∧
        (badRuleKey k key = false →
          (∀ u, (x.polder, k, key, u) ∈ s.dev.mrp.rules → t.dev.ended c x okDone ∧ ∀ v, (x.polder, k, key, v) ∉ t.dev.mrp.rules) ∧
          ((∀ u, (x.polder, k, key, u) ∉ s.dev.mrp.rules) → t.dev.ended c x (failDone stNotFound) ∧ t.dev.mrp = s.dev.mrp))))

/-- The Time Unit (13 R396, R398, R399, R400, R401, R402). SET and STEP move device time and return by how much, at once or, waiting off
their engine, at the next edge of PPS_IN; 2 s without an edge end the one that waits longest; FREQ and SLEW are stored; values out of range
are bad operands; a capture returns the time of an edge; the pulses and the reference are followed. -/
def Obligations.TimeUnitKeepsTime : Prop :=
  ∀ (s : State),
    (∀ (c : CmdRef) (io : Io) (x : Cmd), s.dev.isRunning c x →
      (isOpAct 0xA0 (16, 0, 3) 0 x = true → ∃ t, exec (.opTimeSetSet c io) s = .next t ∧
        (1000000000 ≤ x.fld 32 0 32 → t.dev.ended c x (failDone stBadOperand 32) ∧ t.dev.tmu = s.dev.tmu) ∧
        (∀ n, x.fld 32 0 32 < 1000000000 → n = ((x.fld 24 0 48 * 1000000000 + x.fld 32 0 32) * 65536 + x.fld 30 0 16) * 256000000000 →
          (x.fld 16 3 1 = 0 → t.dev.ended c x (okDone (timeDiff n s.dev.tmu.time)) ∧ t.dev.tmu.time = n) ∧
          (x.fld 16 3 1 = 1 → t.dev.cmd? c = some { x with executing := false, steps := x.steps + 1 } ∧ t.dev.tmu = { s.dev.tmu with
            atPps := s.dev.tmu.atPps ++
              [{ ep := c.ep, ring := c.ring, pos := c.pos, setTo := some n, offset := 0, deadline := s.dev.bal.tick + 50000000 }] }))) ∧
      (∀ o n, isOpAct 0xA0 (16, 0, 3) 1 x = true → o = signed 64 (x.fld 40 0 64) → n = s.dev.tmu.offsetBy o →
        ∃ t, exec (.opTimeSetStep c io) s = .next t ∧
          (x.fld 16 3 1 = 0 → t.dev.ended c x (okDone (timeDiff n s.dev.tmu.time)) ∧ t.dev.tmu.time = n) ∧
          (x.fld 16 3 1 = 1 → t.dev.cmd? c = some { x with executing := false, steps := x.steps + 1 } ∧ t.dev.tmu = { s.dev.tmu with
            atPps := s.dev.tmu.atPps ++
              [{ ep := c.ep, ring := c.ring, pos := c.pos, setTo := none, offset := o, deadline := s.dev.bal.tick + 50000000 }] })) ∧
      (∀ f, isOpAct 0xA0 (16, 0, 3) 2 x = true → f = signed 32 (x.fld 48 0 32) → ∃ t, exec (.opTimeSetFreq c io) s = .next t ∧
        (x.fld 16 3 1 = 1 → t.dev.ended c x (failDone stBadOperand 16) ∧ t.dev.tmu = s.dev.tmu) ∧
        (x.fld 16 3 1 = 0 → 128000000 < f.natAbs → t.dev.ended c x (failDone stBadOperand 48) ∧ t.dev.tmu = s.dev.tmu) ∧
        (x.fld 16 3 1 = 0 → f.natAbs ≤ 128000000 → t.dev.ended c x okDone ∧ t.dev.tmu = { s.dev.tmu with freq := f })) ∧
      (∀ o, isOpAct 0xA0 (16, 0, 3) 3 x = true → o = signed 64 (x.fld 40 0 64) → ∃ t, exec (.opTimeSetSlew c io) s = .next t ∧
        (x.fld 16 3 1 = 1 → t.dev.ended c x (failDone stBadOperand 16) ∧ t.dev.tmu = s.dev.tmu) ∧
        (x.fld 16 3 1 = 0 → 1000000000 < o.natAbs → t.dev.ended c x (failDone stBadOperand 40) ∧ t.dev.tmu = s.dev.tmu) ∧
        (x.fld 16 3 1 = 0 → o.natAbs ≤ 1000000000 → t.dev.ended c x okDone ∧
          t.dev.tmu = { s.dev.tmu with slewRem := o.natAbs * timeNs, slewNeg := decide (o < 0) })) ∧
      (isOp 0xA1 x = true → ∃ t, exec (.opTimeCapture c io) s = .next t ∧ t.dev.tmu = s.dev.tmu ∧
        (x.fld 16 0 2 = 0 → t.dev.ended c x { status := stOk, detail := 1, fill := .deviceTime }) ∧
        (x.fld 16 0 2 = 3 → t.dev.ended c x (failDone stBadOperand 16)) ∧
        (∀ k, k = (if x.fld 16 0 2 = 1 then s.dev.tmu.capIn else s.dev.tmu.capOut) → x.fld 16 0 2 = 1 ∨ x.fld 16 0 2 = 2 →
          (k = none → t.dev.ended c x okDone) ∧
          (∀ y, k = some y → t.dev.ended c x (okDone (timeSec y.time + timeFrac y.time * 2 ^ 48)
            (timeNano y.time + (y.tick % 2 ^ 32) * 2 ^ 32) (1 + 2 * b2n y.stepped)))))) ∧
    (s.dev.corePowered = false → exec .ppsOutEdge s = .next s ∧ exec .ppsInEdge s = .next s) ∧
    (s.dev.corePowered = true →
      (∃ t, exec .ppsOutEdge s = .next t ∧ t.dev.tmu.lastPps = s.dev.tmu.lastPps + 1 ∧ t.dev.out = .ppsOut s.dev.tmu.ppsWidthUs :: s.dev.out ∧
        ∃ k, t.dev.tmu.capOut = some k ∧ k.time = ((s.dev.tmu.lastPps + 1) * 1000000000 + s.dev.tmu.ppsOffset).toNat * timeNs ∧
          k.stepped = false) ∧
      (s.dev.tmu.atPps = [] → ∃ t, exec .ppsInEdge s = .next t ∧ (t.dev.src 0xE01).live = false ∧
        t.dev.tmu = { s.dev.tmu with capIn := some { time := s.dev.tmu.time, tick := s.dev.bal.tick } }) ∧
      (∀ a c x n, s.dev.tmu.atPps = [a] → c = { ep := a.ep, ring := a.ring, pos := a.pos } → s.dev.cmd? c = some x → x.outcome = none →
        x.marked = false → n = a.setTo.getD (s.dev.tmu.offsetBy a.offset) →
        ∃ t, exec .ppsInEdge s = .next t ∧ t.dev.tmu.time = n ∧ t.dev.tmu.atPps = [] ∧
          t.dev.tmu.capIn = some { time := n, tick := s.dev.bal.tick } ∧ t.dev.ended c x (okDone (timeDiff n s.dev.tmu.time))) ∧
      (∃ t, exec .slewComplete s = .next t ∧ t.dev.tmu.slewRem = 0)) ∧
    (s.dev.tmu.atPps = [] → exec .atPpsTimeout s = .next s) ∧
    (∀ a rest c x, s.dev.tmu.atPps = a :: rest → c = { ep := a.ep, ring := a.ring, pos := a.pos } → s.dev.cmd? c = some x →
      x.outcome = none → x.marked = false →
      ∃ t, exec .atPpsTimeout s = .next t ∧ t.dev.tmu.atPps = rest ∧ a.deadline ≤ t.dev.bal.tick ∧ t.dev.ended c x (failDone stTimeout)) ∧
    (∃ t, exec .timeRefLoss s = .next t ∧ t.dev.tmu = { s.dev.tmu with refPresent := false, refLocked := false } ∧
      (t.dev.src 0xE00).live = s.dev.tmu.refSel) ∧
    (∃ t, exec .timeRefReturn s = .next t ∧ t.dev.tmu = { s.dev.tmu with refPresent := true, refLocked := s.dev.tmu.refSel } ∧
      (t.dev.src 0xE00).live = false)

/-- The Check-Value Unit (14 R429, R431, R432, R433, R437, R438). The owner of a context with an empty buffer starts it, feeds it and has
it compared; a write of another width, or by a party that does not hold the context, is counted and changes nothing in it; a slice of the
engine enters the buffered write of the next context; a parity failure that lasts spoils the next compare. -/
def Obligations.CheckValueUnitRunsAndCompares : Prop :=
  ∀ (s : State),
    (∀ who n (v : Word), 8 ≤ n → n < 64 → (s.dev.cvuCtx n).buf = none →
      (∃ e, who = .window e ∧ (s.dev.ep e).answers = true ∧ s.dev.isWarden e = true ∧ (s.dev.cvuCtx n).holder = 0 ∧ bits v.toNat 8 3 = 0) ∨
        (∃ r, who = .regulator r ∧ r < 4 ∧ s.dev.regRuns r = true ∧ (s.dev.cvuCtx n).holder = r + 1) →
      (v.toNat.testBit 16 = true → v.toNat.testBit 17 = false →
        ∃ t, exec (.cvuStart who n v) s = .next t ∧ (t.dev.cvuCtx n).buf = some (.start 0) ∧ (t.dev.cvuCtx n).alg = bits v.toNat 0 2 ∧
          (t.dev.cvuCtx n).parMode = v.toNat.testBit 2 ∧ (t.dev.cvuCtx n).irqEn = v.toNat.testBit 3 ∧
          (t.dev.cvuCtx n).foldLen = bits v.toNat 4 4 ∧ (t.dev.cvuCtx n).run = (s.dev.cvuCtx n).run) ∧
      (∀ y, v.toNat.testBit 16 = false → v.toNat.testBit 17 = true → y = { s.dev.cvuCtx n with parMode := v.toNat.testBit 2 } →
        ∃ t, exec (.cvuCompare who n v) s = .next t ∧
          (t.dev.cvuCtx n).isMatch = (!y.forced && y.parityOk && decide (y.result = y.expect)) ∧
          (t.dev.cvuCtx n).mismatch = (y.forced || (y.parityOk && decide (y.result ≠ y.expect))) ∧
          (t.dev.cvuCtx n).checkField = (!y.forced && !y.parityOk) ∧ (t.dev.cvuCtx n).forced = false ∧
          (t.dev.cvuCtx n).run = (s.dev.cvuCtx n).run)) ∧
    (∀ who n (v : Word) en k, 8 ≤ n → n < 64 → (s.dev.cvuCtx n).buf = none →
      (∃ e, who = .window e ∧ (s.dev.ep e).answers = true ∧ s.dev.isWarden e = true ∧ (s.dev.cvuCtx n).holder = 0) ∨
        (∃ r, who = .regulator r ∧ r < 4 ∧ s.dev.regRuns r = true ∧ (s.dev.cvuCtx n).holder = r + 1) →
      (en = 1 ∧ k = 1 ∨ en = 3 ∧ k = 2 ∨ en = 15 ∧ k = 4 →
        ∃ t, exec (.cvuDataWrite who n en v) s = .next t ∧ t.dev.cvuCtx n = { s.dev.cvuCtx n with buf := some (.data k v) }) ∧
      (en ≠ 1 → en ≠ 3 → en ≠ 15 →
        ∃ t, exec (.cvuDataWrite who n en v) s = .next t ∧ t.dev.cvuCtx n = s.dev.cvuCtx n ∧
          t.dev.ctr .cvuBadWidth 0 = min (s.dev.ctr .cvuBadWidth 0 + 1) (2 ^ 64 - 1))) ∧
    (∀ r n en (v : Word), 8 ≤ n → n < 64 → r < 4 → s.dev.regRuns r = true → (s.dev.cvuCtx n).holder ≠ r + 1 →
      ∃ t, exec (.cvuDataWrite (.regulator r) n en v) s = .next t ∧ t.dev.cvuCtx n = s.dev.cvuCtx n ∧
        t.dev.ctr .cvuForeignWrite 0 = min (s.dev.ctr .cvuForeignWrite 0 + 1) (2 ^ 64 - 1)) ∧
    (∀ check, s.dev.cvuNext = none → exec (.cvuSlice check) s = .next s) ∧
    (∀ n, s.dev.cvuNext = some n →
      (∀ k (v : Word), (s.dev.cvuCtx n).buf = some (.data k v) →
        ∃ t, exec (.cvuSlice .clean) s = .next t ∧ t.dev.cvu.rr = n ∧ (t.dev.cvuCtx n).buf = none ∧
          (t.dev.cvuCtx n).run = BitVec.ofNat 64
            (cvuBytes (s.dev.cvuCtx n).runAlg (s.dev.cvuCtx n).run.toNat (leBytes k v.toNat) % 2 ^ cvuWidth (s.dev.cvuCtx n).runAlg) ∧
          (t.dev.cvuCtx n).bytes = (s.dev.cvuCtx n).bytes + BitVec.ofNat 32 k) ∧
      ((s.dev.cvuCtx n).buf = some (.start 0) → (s.dev.cvuCtx n).foldLen = 0 →
        ∃ t, exec (.cvuSlice .clean) s = .next t ∧ t.dev.cvu.rr = n ∧ (t.dev.cvuCtx n).buf = none ∧ (t.dev.cvuCtx n).bytes = 0 ∧
          (t.dev.cvuCtx n).runAlg = (s.dev.cvuCtx n).alg ∧ (t.dev.cvuCtx n).isMatch = false ∧ (t.dev.cvuCtx n).mismatch = false ∧
          (t.dev.cvuCtx n).checkField = false) ∧
      (∃ t, exec (.cvuSlice .lasting) s = .next t ∧ (t.dev.cvuCtx n).stateErr = true ∧ (t.dev.cvuCtx n).forced = true ∧
        (t.dev.src 0xF02).live = true))

/-- Polders, sluices and the warden (03 R88, R89, R90, R98, R108, R109, R111). A definition that breaks no rule comes into force, and one
that breaks a rule, or cannot be read, ends in that error and changes no polder; an UNDEFINE takes two steps: the polder loses its ports,
rings, queues and vectors, and then its weirs, rules, sluices and definition; a sluice is opened or closed in one direction or both; a
handover reads its token, and the token decides. -/
def Obligations.PoldersSluicesAndWarden : Prop :=
  ∀ (s : State) (c : CmdRef) (io : Io) (x : Cmd), s.dev.isRunning c x →
    (isOpAct 0x80 (24, 0, 2) 0 x = true → ∃ t, exec (.opPolderDefineDefine c io) s = .next t ∧
      (ioRecord io 256 = none → t.dev.ended c x (failDone stTimeout 16) ∧ t.dev.plc = s.dev.plc) ∧
      ∀ r p, ioRecord io 256 = some r → p = fld r 0 0 3 →
        (∀ f, s.dev.polderBar p 0 r = some f → t.dev.ended c x (failDone f.1 (16 + 256 * f.2)) ∧ t.dev.plc = s.dev.plc) ∧
        (s.dev.polderBar p 0 r = none → t.dev.ended c x okDone ∧
          t.dev.polder p = { polderOf r with st := .forwarding, since := s.dev.bal.tick })) ∧
    (isOpAct 0x80 (24, 0, 2) 1 x = true → ∃ t, exec (.opPolderDefineModify c io) s = .next t ∧
      (ioRecord io 256 = none → t.dev.ended c x (failDone stTimeout 16) ∧ t.dev.plc = s.dev.plc) ∧
      ∀ r p, ioRecord io 256 = some r → p = fld r 0 0 3 →
        (∀ f, s.dev.polderBar p 1 r = some f → t.dev.ended c x (failDone f.1 (16 + 256 * f.2)) ∧ t.dev.plc = s.dev.plc) ∧
        (s.dev.polderBar p 1 r = none → t.dev.ended c x okDone ∧
          t.dev.polder p = { polderOf r with st := (s.dev.polder p).st, since := (s.dev.polder p).since })) ∧
    (isOpAct 0x80 (24, 0, 2) 2 x = true →
      (x.scratch = [] → ∃ t, exec (.opPolderDefineUndefine c io) s = .next t ∧
        (ioRecord io 256 = none → t.dev.ended c x (failDone stTimeout 16) ∧ t.dev.plc = s.dev.plc) ∧
        ∀ r p, ioRecord io 256 = some r → p = fld r 0 0 3 →
          (∀ f, s.dev.polderBar p 2 r = some f → t.dev.ended c x (failDone f.1 (16 + 256 * f.2)) ∧ t.dev.plc = s.dev.plc) ∧
          (s.dev.polderBar p 2 r = none →
            t.dev.cmd? c = some { x with executing := false, steps := x.steps + 1, scratch := [p] } ∧
            t.dev.polder p = { s.dev.polder p with portMap := 0, crMask := 0, cqMask := 0, rxqMask := 0, txqMask := 0, vecCount := 0 })) ∧
      (∀ p rest, x.scratch = p :: rest → ∃ t, exec (.opPolderDefineUndefine c io) s = .next t ∧ t.dev.ended c x okDone ∧
        t.dev.polder p = {} ∧ (∀ w ∈ t.dev.plc.sluices, w.1 ≠ p ∧ w.2.1 ≠ p) ∧ (∀ w ∈ t.dev.mrp.rules, w.1 ≠ p) ∧
        ∀ i e, (i, some e) ∈ t.dev.rle.ents → e.polder ≠ p)) ∧
    (∀ a b w v, isOp 0x81 x = true → a = x.fld 16 0 3 → b = x.fld 17 0 3 → w = (a, b, x.fld 18 0 14) → v = (b, a, x.fld 18 0 14) →
      ∃ t, exec (.opSluiceSet c io) s = .next t ∧
        (a = b → t.dev.ended c x (failDone stBadOperand 17) ∧ t.dev.plc = s.dev.plc) ∧
        (a ≠ b → (s.dev.polder a).st = .undefined ∨ (s.dev.polder b).st = .undefined →
          t.dev.ended c x (failDone stNotFound) ∧ t.dev.plc = s.dev.plc) ∧
        (a ≠ b → (s.dev.polder a).st ≠ .undefined → (s.dev.polder b).st ≠ .undefined →
          (x.fld 20 0 1 = 1 →
            (s.dev.plc.sluices.length + 2 ≤ 4096 → t.dev.ended c x okDone ∧ w ∈ t.dev.plc.sluices ∧
              (x.fld 20 1 1 = 1 → v ∈ t.dev.plc.sluices) ∧ ∀ u ∈ s.dev.plc.sluices, u ∈ t.dev.plc.sluices) ∧
            (s.dev.plc.sluices.length = 4096 → w ∉ s.dev.plc.sluices →
              t.dev.ended c x (failDone stNoRoom) ∧ t.dev.plc = s.dev.plc)) ∧
          (x.fld 20 0 1 = 0 →
            (w ∈ s.dev.plc.sluices → x.fld 20 1 1 = 0 ∨ v ∈ s.dev.plc.sluices → t.dev.ended c x okDone ∧ w ∉ t.dev.plc.sluices ∧
              (x.fld 20 1 1 = 1 → v ∉ t.dev.plc.sluices)) ∧
            (w ∉ s.dev.plc.sluices ∨ x.fld 20 1 1 = 1 ∧ v ∉ s.dev.plc.sluices →
              t.dev.ended c x (failDone stNotFound) ∧ t.dev.plc = s.dev.plc)))) ∧
    (isOp 0x82 x = true →
      (x.scratch = [] → ∃ t, exec (.opWardenHandover c io) s = .next t ∧ t.dev.plc = s.dev.plc ∧
        (x.fld 24 0 16 ≠ 304 → t.dev.cmd? c = some { x with executing := false, steps := x.steps + 1, scratch := [1] }) ∧
        (x.fld 24 0 16 = 304 → ioBytes io 304 = none → t.dev.ended c x (failDone stTimeout 16)) ∧
        (∀ bs, x.fld 24 0 16 = 304 → ioBytes io 304 = some bs →
          t.dev.cmd? c = some { x with executing := false, steps := x.steps + 1, scratch := 1 :: bs.map BitVec.toNat })) ∧
      (∀ k bs, x.scratch = k :: bs → ∃ t, exec (.opWardenHandover c io) s = .next t ∧
        (s.dev.tokenCheck (bs.map (BitVec.ofNat 8)) false = none → t.dev.ended c x okDone ∧
          t.dev.plc.warden = fld (leNat (bs.map (BitVec.ofNat 8))) 6 0 2 ∧ t.dev.plc.handovers = s.dev.plc.handovers + 1 ∧
          t.dev.plc.challenge ≠ 0) ∧
        (∀ why, s.dev.tokenCheck (bs.map (BitVec.ofNat 8)) false = some why →
          t.dev.ended c x (failDone stBadOperand (16 + 256 * why)) ∧ t.dev.plc = s.dev.plc)))

/-- Modes (18 R525, R526, R528; 03 R100; 15 R463). OP_MODE_SET takes the device from PROVISIONING to FORWARDING and on to DRAINING or
SAFE_HOLD, and back unless a source bars it, or confirms the mode that it is in; a mode that it does not reach is a wrong one, and while
regulator 0 is stopped the command waits. A polder is drained and forwards again. A drained device, or the limit, ends DRAINING. -/
def Obligations.ModesChangeAsCommanded : Prop :=
  ∀ (s : State),
    (∀ (c : CmdRef) (io : Io) (x : Cmd) (tm : Nat), s.dev.isRunning c x → tm = x.fld 16 0 4 →
      (isOpAct 0x05 (16, 4, 1) 0 x = true →
        (tm = s.dev.bal.mode.code →
          ∃ t, exec (.opModeSetDevice c io) s = .next t ∧ t.dev.bal = s.dev.bal ∧
            t.dev.ended c x (okDone (s.dev.bal.mode.code + 16 * (x.dispMode % 16)) (s.dev.bal.since % 2 ^ 40))) ∧
        (tm ≠ s.dev.bal.mode.code → reaches s.dev.bal.mode tm = false →
          ∃ t, exec (.opModeSetDevice c io) s = .next t ∧ t.dev.bal = s.dev.bal ∧ t.dev.ended c x (failDone stWrongMode 0x100)) ∧
        (tm ≠ s.dev.bal.mode.code → reaches s.dev.bal.mode tm = true → s.dev.bal.mode ≠ .dormant → s.dev.regRuns 0 = false →
          ∃ t, exec (.opModeSetDevice c io) s = .next t ∧ t.dev.bal = s.dev.bal ∧
            t.dev.cmd? c = some { x with executing := false, steps := x.steps + 1, scratch := [] }) ∧
        (s.dev.regRuns 0 = true →
          (tm = 4 → s.dev.bal.mode = .provisioning →
            ∃ t, exec (.opModeSetDevice c io) s = .next t ∧ t.dev.bal.mode = .forwarding ∧ t.dev.bal.prevMode = .provisioning ∧
              t.dev.bal.reason = Ev.modeCommand ∧ t.dev.bal.since = s.dev.bal.tick ∧ t.dev.spw.map = s.dev.spw.nextMap ∧
              t.dev.ended c x (okDone (4 + 16 * (x.dispMode % 16)) (s.dev.bal.tick % 2 ^ 40))) ∧
          (∀ ms, tm = 5 → s.dev.bal.mode = .forwarding →
            ms = (if x.fld 18 0 16 ≠ 0 then x.fld 18 0 16 else if s.dev.bal.drainMs = 0 then 1000 else s.dev.bal.drainMs) →
            ∃ t, exec (.opModeSetDevice c io) s = .next t ∧ t.dev.bal.mode = .draining ∧ t.dev.bal.drainStart = s.dev.bal.tick ∧
              t.dev.bal.drainEnd = s.dev.bal.tick + 25000 * ms ∧
              t.dev.ended c x (okDone (5 + 16 * (x.dispMode % 16)) (s.dev.bal.tick % 2 ^ 40))) ∧
          (tm = 6 → s.dev.bal.mode = .provisioning ∨ s.dev.bal.mode = .forwarding ∨ s.dev.bal.mode = .draining →
            ∃ t, exec (.opModeSetDevice c io) s = .next t ∧ t.dev.bal.mode = .safeHold ∧ t.dev.bal.prevMode = s.dev.bal.mode ∧
              t.dev.ended c x (okDone (6 + 16 * (x.dispMode % 16)) (s.dev.bal.tick % 2 ^ 40))) ∧
          (tm = 3 ∨ tm = 4 → s.dev.bal.mode = .safeHold →
            ∃ t, exec (.opModeSetDevice c io) s = .next t ∧
              (s.dev.boot.diagRom = true ∨ s.dev.boot.bistRun = true →
                t.dev.bal = s.dev.bal ∧ t.dev.ended c x (failDone stWrongMode 0x100)) ∧
              (s.dev.boot.diagRom = false → s.dev.boot.bistRun = false → s.dev.exitBlocked = true →
                t.dev.bal = s.dev.bal ∧ t.dev.ended c x (failDone stClearRefused)) ∧
              (s.dev.boot.diagRom = false → s.dev.boot.bistRun = false → s.dev.exitBlocked = false →
                t.dev.bal.mode.code = tm ∧ t.dev.ended c x (okDone (tm + 16 * (x.dispMode % 16)) (s.dev.bal.tick % 2 ^ 40)))))) ∧
      (∀ p m, isOpAct 0x05 (16, 4, 1) 1 x = true → p = x.fld 17 0 3 → m = s.dev.bal.mode → ∃ t, exec (.opModeSetPolder c io) s = .next t ∧
        (m = .dormant ∨ m = .loading ∨ m = .diagnostic → t.dev.plc = s.dev.plc ∧ t.dev.ended c x (failDone stWrongMode 0x200)) ∧
        (m = .provisioning ∨ m = .forwarding ∨ m = .draining ∨ m = .safeHold →
          ((s.dev.polder p).st = .undefined → t.dev.plc = s.dev.plc ∧ t.dev.ended c x (failDone stNotFound)) ∧
          ((s.dev.polder p).st = .forwarding → tm = 4 → t.dev.plc = s.dev.plc ∧
            t.dev.ended c x (okDone (pack [(0, 4, 1), (4, 4, x.dispMode / 16), (8, 4, m.code)]) ((s.dev.polder p).since % 2 ^ 40))) ∧
          ((s.dev.polder p).st = .forwarding → tm = 5 → (t.dev.polder p).st = .draining ∧ (t.dev.polder p).since = s.dev.bal.tick ∧
            t.dev.ended c x (okDone (pack [(0, 4, 2), (4, 4, x.dispMode / 16), (8, 4, m.code)]) (s.dev.bal.tick % 2 ^ 40))) ∧
          ((s.dev.polder p).st = .draining → tm = 4 → (t.dev.polder p).st = .forwarding ∧ (t.dev.polder p).since = s.dev.bal.tick ∧
            t.dev.ended c x (okDone (pack [(0, 4, 1), (4, 4, x.dispMode / 16), (8, 4, m.code)]) (s.dev.bal.tick % 2 ^ 40))) ∧
          ((s.dev.polder p).st = .safeHold → tm = 5 → t.dev.plc = s.dev.plc ∧ t.dev.ended c x (failDone stWrongMode 0x100)) ∧
          ((s.dev.polder p).st = .safeHold → tm = 4 → s.dev.polderBlocked p = true →
            t.dev.plc = s.dev.plc ∧ t.dev.ended c x (failDone stClearRefused)) ∧
          ((s.dev.polder p).st = .safeHold → tm = 4 → s.dev.polderBlocked p = false → (t.dev.polder p).st = .forwarding ∧
            (t.dev.src (0x83 + 8 * p)).live = false ∧
            t.dev.ended c x (okDone (pack [(0, 4, 1), (4, 4, x.dispMode / 16), (8, 4, m.code)]) (s.dev.bal.tick % 2 ^ 40)))))) ∧
    (s.dev.bal.mode ≠ .draining ∨ s.dev.regRuns 0 = false → exec .drainComplete s = .next s ∧ exec .drainLimitExpiry s = .next s) ∧
    (s.dev.bal.mode = .draining → s.dev.regRuns 0 = true →
      (s.dev.drained = true → s.dev.bal.tick ≤ s.dev.bal.drainEnd →
        ∃ t, exec .drainComplete s = .next t ∧ t.dev.bal.mode = .provisioning ∧ t.dev.bal.prevMode = .draining ∧
          t.dev.bal.reason = Ev.modeDrained ∧ t.dev.bal.since = s.dev.bal.tick) ∧
      (s.dev.drained = false → exec .drainComplete s = .next s) ∧
      (∃ t, exec .drainLimitExpiry s = .next t ∧ t.dev.bal.mode = .provisioning ∧ s.dev.bal.drainEnd ≤ t.dev.bal.tick ∧
        (s.dev.drained = true → t.dev.bal.reason = Ev.modeDrained) ∧
        (s.dev.drained = false → t.dev.bal.reason = Ev.modeDrainLimit ∧ (t.dev.src 4).live = true)))

/-- Power-on, resets and loads (17 R498, R499, R500, R505; 18 R525; 19 R554). POR_N released leaves the device DORMANT with its straps and
warden and a CHALLENGE that is not 0; POR_N asserted leaves the fuses and the flash; a load starts by itself, by the warden or by a
command, tries its sources in turn and fails or, here from the diagnostic ROM, ends. -/
def Obligations.ResetsAndLoadsFollowTheirSources : Prop :=
  ∀ (s : State),
    (∀ straps broken sel, s.dev.bal.porN = false → s.dev.bal.mode = .off → sel = straps.getD 1 0 % 4 →
      ∃ t, exec (.porNDeassert straps broken) s = .next t ∧ t.dev.bal.porN = true ∧ t.dev.bal.mode = .dormant ∧ t.dev.bal.tick = 0 ∧
        t.dev.bal.reason = Ev.powerOn ∧ t.dev.bal.straps = { peBif := straps.getD 0 0 % 4, wardenSel := sel, bootSrc := straps.getD 2 0 % 4
                                                             smbAddr := straps.getD 3 0 % 8 } ∧
        t.dev.plc.warden = (if t.dev.present sel then sel else 0) ∧ t.dev.plc.challenge ≠ 0 ∧
        t.dev.polder 0 = { wholePolder with owner := t.dev.plc.warden } ∧ ∀ p, p ≠ 0 → t.dev.polder p = {}) ∧
    (s.dev.bal.porN = true →
      ∃ t, exec .porNAssert s = .next t ∧ t.dev.bal.mode = .off ∧ t.dev.bal.porN = false ∧ t.dev.otp = s.dev.otp ∧
        t.dev.evr.sectors = s.dev.evr.sectors ∧ t.dev.hif = {} ∧ t.dev.plc = {} ∧ t.dev.pte = {} ∧ t.dev.ctrs = []) ∧
    (∀ flash, s.dev.bal.mode = .dormant → s.dev.boot.auto = true → s.dev.tripped = false →
      (∀ k rest, s.dev.bal.bootEff = 0 → flashOrder flash = k :: rest →
        ∃ t, exec (.loadStart flash) s = .next t ∧ t.dev.bal.mode = .loading ∧ t.dev.boot.st = .loading ∧ t.dev.boot.candidates = k :: rest) ∧
      (s.dev.bal.bootEff = 3 →
        ∃ t, exec (.loadStart flash) s = .next t ∧ t.dev.bal.mode = .loading ∧ t.dev.boot.st = .loading ∧ t.dev.boot.candidates = [3])) ∧
    (∀ ep, (s.dev.ep ep).answers = true → s.dev.isWarden ep = true → s.dev.bal.mode = .dormant → s.dev.tripped = false →
      s.dev.bal.bootEff = 1 ∨ s.dev.bal.bootEff = 2 → s.dev.boot.st = .waitHost ∨ s.dev.boot.st = .failed →
      ∃ t, exec (.glBootCtrlGo ep) s = .next t ∧ t.dev.bal.mode = .loading ∧ t.dev.boot.st = .loading ∧ t.dev.boot.candidates = [2]) ∧
    (∀ src rest cause version, s.dev.bal.mode = .loading → s.dev.boot.candidates = src :: rest → src ≠ 3 → 1 ≤ cause ∧ cause ≤ 8 ∨ cause = 10 →
      (rest ≠ [] →
        ∃ t, exec (.imageRejected src cause version) s = .next t ∧ t.dev.bal.mode = .loading ∧ t.dev.boot.candidates = rest ∧
          t.dev.boot.slot = src ∧ t.dev.boot.cause = cause) ∧
      (rest = [] →
        ∃ t, exec (.imageRejected src cause version) s = .next t ∧ t.dev.bal.mode = .dormant ∧ t.dev.boot.cause = cause ∧
          t.dev.boot.st = (if s.dev.bal.bootEff = 2 ∧ src ≠ 2 then .waitHost else .failed))) ∧
    (∀ rest img tables bad, s.dev.bal.mode = .loading → s.dev.boot.candidates = 3 :: rest → s.dev.boot.reloading = none →
      ∃ t, exec (.imageLoadAccepted 3 img tables bad) s = .next t ∧ t.dev.bal.mode = .diagnostic ∧ t.dev.boot.st = .loaded ∧
        t.dev.boot.locked = true ∧ t.dev.boot.diagRom = true ∧ t.dev.boot.path = 3 ∧ t.dev.otp = s.dev.otp) ∧
    (s.dev.bal.mode ≠ .off →
      ∃ t, exec .sysRstN s = .next t ∧ t.dev.bal.mode = .dormant ∧ t.dev.bal.reason = Ev.modeReset ∧ t.dev.bal.straps = s.dev.bal.straps ∧
        t.dev.boot.auto = decide (s.dev.bal.bootEff ≠ 1) ∧ t.dev.boot.candidates = [])
/-- Clocks, temperature and supplies (18 R523, R524, R540; 19 R550, R551, R563, R568). -/
def Obligations.ClocksSuppliesAndTemperatureAreFollowed : Prop :=
  ∀ (s : State),
    (s.dev.bal.mode = .loading → s.dev.bal.tick ≤ s.dev.bal.since + 2500 →
      (s.dev.bal.corePllRetried = false →
        ∃ t, exec .corePllLockTimeout s = .next t ∧ t.dev.bal.corePllRetried = true ∧ t.dev.bal.mode = .loading ∧
          s.dev.bal.since + 1250 ≤ t.dev.bal.tick) ∧
      (s.dev.bal.corePllRetried = true →
        ∃ t, exec .corePllLockTimeout s = .next t ∧ t.dev.bal.mode = .dormant ∧ s.dev.bal.since + 2500 ≤ t.dev.bal.tick ∧
          t.dev.boot.candidates = [])) ∧
    (s.dev.corePowered = true → ∃ t, exec .corePllLockLoss s = .next t ∧ t.dev.bal = { s.dev.bal with corePll := false } ∧
      (t.dev.src 0x002).live = true) ∧
    (∃ t, exec .ref100Loss s = .next t ∧ t.dev.bal = { s.dev.bal with refOnOsc := true } ∧
      (s.dev.bal.porN = true → (t.dev.src 0x000).live = true)) ∧
    (∃ t, exec .ref100Return s = .next t ∧ t.dev.bal = { s.dev.bal with refOnOsc := false } ∧ (t.dev.src 0x000).live = false) ∧
    (∃ t, exec .serdesRefLoss s = .next t ∧ t.dev.bal = { s.dev.bal with serdesRef := false } ∧
      ∀ m, m < 64 → (s.dev.octal m).st ≠ .off → (t.dev.src 0x003).live = true) ∧
    (∃ t, exec .serdesRefReturn s = .next t ∧ t.dev.bal = { s.dev.bal with serdesRef := true } ∧ (t.dev.src 0x003).live = false) ∧
    (s.dev.bal.porN = true → ∃ t, exec .mgmtPllLockLoss s = .next t ∧ t.dev.bal = { s.dev.bal with mgmtPll := false } ∧
      (t.dev.src 0x001).live = true) ∧
    (∀ temps, temps.length = 16 →
      (s.dev.bal.porN = true → ∃ t, exec (.calibrationPass temps) s = .next t ∧
        ∀ i, i < 16 → tget t.dev.bal.sensors 0 i = temps.getD i 0 % 65536) ∧
      (∃ t, exec (.thermNCrossing temps) s = .next t ∧
        (460 ≤ (hottest temps).2 → t.dev.bal.thermN = true) ∧
        ((hottest temps).2 < 440 → t.dev.bal.thermN = false)) ∧
      (s.dev.bal.porN = true → 500 ≤ (hottest temps).2 → s.dev.tripped = false →
        ∃ t, exec (.thermalTrip temps) s = .next t ∧ t.dev.bal.mode = .dormant ∧ t.dev.tripped = true)) ∧
    (∀ mv confirm, s.dev.bal.porN = true → 680 ≤ mv → mv ≤ 820 → mv ≤ s.dev.bal.vddCore + 5 → s.dev.bal.vddCore ≤ mv + 5 →
      s.dev.bal.avsPending = none → (s.dev.src 0x022).live = false → s.dev.bal.avsTick = 0 ∨ s.dev.bal.avsTick + 250 ≤ s.dev.bal.tick → (∀ p ∈ s.dev.pipes, p.2.waking = false) →
      ∃ t, exec (.avsWrite mv confirm) s = .next t ∧ t.dev.out = .avs mv :: s.dev.out ∧
        t.dev.bal.vddCore = (if confirm then mv else s.dev.bal.vddCore) ∧ t.dev.bal.avsPending = (if confirm then none else some mv)) ∧
    (∀ mv, s.dev.bal.avsPending = some mv →
      ∃ t, exec .avsConfirmTimeout s = .next t ∧ t.dev.bal.avsPending = none ∧ s.dev.bal.avsTick + 25000 ≤ t.dev.bal.tick ∧
        t.dev.bal.vddCore = s.dev.bal.vddCore ∧ (t.dev.src 0x022).live = true) ∧
    (∀ rail mv, s.dev.bal.porN = true → rail < 10 →
      (∀ above, s.dev.railOut rail mv = some above → s.dev.bal.railsBad.testBit rail = false →
        ∃ t, exec (.railOutOfTolerance rail mv) s = .next t ∧ t.dev.bal.railsBad = s.dev.bal.railsBad + 2 ^ rail ∧
          (t.dev.src (0x023 + rail)).live = true) ∧
      (s.dev.railOut rail mv = none → s.dev.bal.railsBad.testBit rail = true →
        ∃ t, exec (.railOutOfTolerance rail mv) s = .next t ∧ t.dev.bal.railsBad = s.dev.bal.railsBad - 2 ^ rail ∧
          (t.dev.src (0x023 + rail)).live = false)) ∧
    (∀ mem core, s.dev.corePowered = true → mem + 50 < core →
      ∃ t, exec (.memMarginBroken mem core) s = .next t ∧ (t.dev.src 0x021).live = true)

/-- Regulators, stores and attestation (15 R463; 17 R513, R514, R515, R517, R518, R519). A trap or an uncorrectable fetch stops a user of a
store; a reload's last step fills the store and restarts its user, a manifest that is not the loaded one leaves it zeroed; a report
and the certificate are written to host memory, where there is an identity and room. -/
def Obligations.StoresAndAttestationComplete : Prop :=
  ∀ (s : State),
    (∀ r word, s.dev.bal.mode ≠ .off → r < 4 → word < 8192 → s.dev.regRuns r = true →
      (∀ kind, kind < 2 → ∃ t, exec (.regulatorTrap r word kind) s = .next t ∧ t.dev.regRuns r = false ∧ (t.dev.src (0x0D0 + r)).live = true) ∧
      (∀ lasting, ∃ t, exec (.regulatorStoreUe false r word lasting) s = .next t ∧ t.dev.regRuns r = false ∧
        (t.dev.src (0xF10 + r)).live = true)) ∧
    (∀ i word lasting, s.dev.corePowered = true → i < 8 → word < 2048 → s.dev.reg.adpStopped.testBit i = false →
      ∃ t, exec (.regulatorStoreUe true i word lasting) s = .next t ∧ t.dev.reg.adpStopped.testBit i = true ∧
        (t.dev.src (0xF18 + i)).live = true) ∧
    (∀ (c : CmdRef) (io : Io) (x : Cmd), s.dev.isRunning c x →
      (∀ i bs h t0, isOp 0xB0 x = true → i = x.fld 17 0 4 → x.scratch = [bs.length, h] → io.rd = some bs → leNat (sha512 bs) = h →
        s.dev.boot.reloading = some (c.ep, c.ring, c.pos.toNat, x.fld 16 0 2, i, t0) →
        (x.fld 16 0 2 = 0 →
          ∃ t, exec (.opStoreReload c io) s = .next t ∧ t.dev.ended c x (okDone (min (2 ^ 32 - 1) ((s.dev.bal.tick - t0) / 25))) ∧
            (t.dev.pipe i).parseStopped = false ∧ (t.dev.pipe i).parseStore = storeWords 64 4096 0 bs ∧ t.dev.boot.reloading = none) ∧
        (x.fld 16 0 2 = 2 →
          ∃ t, exec (.opStoreReload c io) s = .next t ∧ t.dev.ended c x (okDone (min (2 ^ 32 - 1) ((s.dev.bal.tick - t0) / 25))) ∧
            t.dev.reg.regStopped.testBit i = false ∧ tget t.dev.reg.regStore [] i = storeWords 16 8192 0 bs ∧
            t.dev.boot.reloading = none)) ∧
      (∀ man, isOp 0xB0 x = true → x.fld 16 0 2 = 0 → x.scratch = [] → s.dev.boot.reloading = none → io.rd = some man →
        leNat (sha512 (man.take 1024)) ≠ s.dev.boot.manifestHash.toNat →
        ∃ t, exec (.opStoreReload c io) s = .next t ∧ t.dev.ended c x (failDone stBadOperand (16 + 256 * 9)) ∧
          (t.dev.pipe (x.fld 17 0 4)).parseStopped = true ∧ (t.dev.pipe (x.fld 17 0 4)).parseStore = [] ∧ t.dev.boot.locked = false) ∧
      (isOp 0xB0 x = true → x.scratch = [] → s.dev.boot.reloading ≠ none →
        (∀ e n p k i t0, s.dev.boot.reloading = some (e, n, p, k, i, t0) → ∃ y, s.dev.cmd? { ep := e, ring := n, pos := BitVec.ofNat 32 p } = some y ∧
          y.outcome = none ∧ ¬(e = c.ep ∧ n = c.ring ∧ BitVec.ofNat 32 p = c.pos)) → s.dev.evr.reading = 0 →
        ∃ t, exec (.opStoreReload c io) s = .next t ∧ t.dev.ended c x (failDone stWrongMode 0x200) ∧ t.dev.boot = s.dev.boot) ∧
      (isOpAct 0x04 (16, 0, 1) 0 x = true → s.dev.otp.identity = false ∨ x.fld 20 0 32 < 864 →
        ∃ t, exec (.opAttestReport c io) s = .next t ∧ t.dev.boot = s.dev.boot ∧
          t.dev.ended c x (if s.dev.otp.identity then failDone stBadOperand 20 else failDone stNotFound 0x100)) ∧
      (isOpAct 0x04 (16, 0, 1) 1 x = true → s.dev.otp.identity = false ∨ s.dev.boot.certLen = 0 ∨ s.dev.boot.path ≠ 0 →
        ∃ t, exec (.opAttestCert c io) s = .next t ∧
          t.dev.ended c x (failDone stNotFound (if s.dev.otp.identity then 0x200 else 0x100))) ∧
      (∀ seq, isOpAct 0x04 (16, 0, 1) 0 x = true → s.dev.otp.identity = true → 864 ≤ x.fld 20 0 32 → io.wrErr = false →
        seq = (s.dev.boot.reportSeq + 1) % 2 ^ 32 →
        ∃ t, exec (.opAttestReport c io) s = .next t ∧ t.dev.ended c x (okDone 864 seq) ∧ t.dev.boot.reportSeq = seq ∧
          ((s.dev.ep c.ep).up = true → ∃ sig, t.dev.out =
            .hostWrite c.ep (x.fld 24 0 64) (s.dev.reportBody c.ep (x.fld 32 0 256) seq ++ sig) :: s.dev.out)) ∧
      (∀ bs, isOpAct 0x04 (16, 0, 1) 1 x = true → s.dev.otp.identity = true → s.dev.boot.certLen ≠ 0 → s.dev.boot.path = 0 →
        s.dev.boot.certLen ≤ x.fld 20 0 32 → ioBytes io s.dev.boot.certLen = some bs → io.wrErr = false →
        ∃ t, exec (.opAttestCert c io) s = .next t ∧ t.dev.ended c x (okDone s.dev.boot.certLen s.dev.boot.reportSeq) ∧
          ((s.dev.ep c.ep).up = true → t.dev.out = .hostWrite c.ep (x.fld 24 0 64) bs :: s.dev.out)))

/-- The Dike Watch (15 R444, R446, R450, R451, R452, R453, R454, R455). A new report is latched and starts its timer or takes its
reaction; a timer escalates; a retry that passes makes it transient; a window ends, or 2 s pass without an edge; the Tourbillon counts and
reports; where there is nothing of that, nothing happens. -/
def Obligations.FaultsAreReportedAndEscalate : Prop :=
  ∀ (s : State) (k : Nat),
    (s.dev.bal.mode ≠ .off → (s.dev.src k).live = true → (s.dev.src k).sampled = false →
      (∀ us, s.dev.effSeverity k = 3 → (s.dev.src k).timer = none →
        us = (if (s.dev.srcCfg k).graceUs = 0 then 10000 else (s.dev.srcCfg k).graceUs) →
        ∃ t, exec .faultReport s = .next t ∧ (t.dev.src k).latched = true ∧ (t.dev.src k).sampled = true ∧ (t.dev.src k).lasting = true ∧
          3 ≤ (t.dev.src k).latchedSev ∧ (t.dev.src k).timer = some (s.dev.bal.tick + 25 * us, us)) ∧
      (s.dev.effSeverity k = 4 → s.dev.attribution k = .shared → (s.dev.srcCfg k).graceUs = 0 → s.dev.bal.mode = .forwarding →
        ∃ t, exec .faultReport s = .next t ∧ (t.dev.src k).latched = true ∧ (t.dev.src k).critTaken = true ∧
          t.dev.bal.mode = .safeHold ∧ t.dev.fcr.faultN = true)) ∧
    (s.dev.bal.mode = .off → exec .faultReport s = .next s) ∧
    ((s.dev.src k).timer = none → exec (.graceTimerExpiry k) s = .next s) ∧
    ((s.dev.src k).crit = none → exec (.criticalGraceExpiry k) s = .next s) ∧
    (∀ due us, (s.dev.src k).timer = some (due, us) → s.dev.attribution k = .shared →
      ∃ t, exec (.graceTimerExpiry k) s = .next t ∧ due ≤ t.dev.bal.tick ∧ (t.dev.src k).timer = none ∧ (t.dev.src k).escalated = true ∧
        (t.dev.src k).latchedSev = 4 ∧ (t.dev.src k).critTaken = true ∧ (s.dev.bal.mode = .forwarding → t.dev.bal.mode = .safeHold)) ∧
    (∀ due us, (s.dev.src k).crit = some (due, us) →
      ((s.dev.src k).live = false → (s.dev.src k).lasting = false →
        ∃ t, exec (.criticalGraceExpiry k) s = .next t ∧ due ≤ t.dev.bal.tick ∧ t.dev.bal.mode = s.dev.bal.mode ∧
          t.dev.src k = { s.dev.src k with crit := none }) ∧
      ((s.dev.src k).live = true ∨ (s.dev.src k).lasting = true → s.dev.attribution k = .shared →
        ∃ t, exec (.criticalGraceExpiry k) s = .next t ∧ due ≤ t.dev.bal.tick ∧ (t.dev.src k).crit = none ∧
          (t.dev.src k).critTaken = true ∧ (s.dev.bal.mode = .forwarding → t.dev.bal.mode = .safeHold))) ∧
    (onceOnly k = false → (s.dev.src k).reports ≠ 0 →
      ∃ t, exec (.faultRetryResult k true) s = .next t ∧ t.dev.src k = { s.dev.src k with lasting := false }) ∧
    (∀ passed, onceOnly k = true ∨ (s.dev.src k).reports = 0 ∨ passed = false → exec (.faultRetryResult k passed) s = .next s) ∧
    (∀ cp, k = 0xE01 → s.dev.tmu.capIn = some cp → (s.dev.src k).live = false →
      ∃ t, exec (.liveWindowExpiry k) s = .next t ∧ cp.tick + 50000000 ≤ t.dev.bal.tick ∧ (t.dev.src k).live = true) ∧
    (∀ due, k ≠ 0xE01 → (s.dev.src k).windowEnd = some due →
      ∃ t, exec (.liveWindowExpiry k) s = .next t ∧ due ≤ t.dev.bal.tick ∧ t.dev.src k = { s.dev.src k with live := false, windowEnd := none }) ∧
    (∀ w mem inst args, s.dev.corePowered = true → w < 4 → sweeps w mem inst = true →
      (∀ weak, exec (.tourbillonVisit w mem inst k .clean weak args) s = .next s) ∧
      (parityOnly mem = false →
        ∃ t, exec (.tourbillonVisit w mem inst k .corrected false args) s = .next t ∧
          t.dev.ctr .tbnCe 0 = min (s.dev.ctr .tbnCe 0 + 1) (2 ^ 64 - 1) ∧
          ∀ src, ceSource mem inst = some src → (t.dev.src src).live = true) ∧
      (mem = 4 → k < 4096 →
        ∃ t, exec (.tourbillonVisit w mem inst k .lasting false args) s = .next t ∧ (t.dev.src k).cfg = none ∧
          (t.dev.src 0x0C0).live = true ∧ t.dev.ctr .tbnUe 0 = min (s.dev.ctr .tbnUe 0 + 1) (2 ^ 64 - 1)))
/-- The fault commands (15 R446, R450, R455, R466, R467, R468, R469). A configuration is stored for every source of the range and
returned, a severity of 0 ending their timers; histories and latched sources are counted and written out, or meet an error; an
acknowledgement stops a timer, or finds none; a source that is no longer live is cleared, one that is live is not. -/
def Obligations.FaultCommandsComplete : Prop :=
  ∀ (s : State) (c : CmdRef) (io : Io) (x : Cmd), s.dev.isRunning c x →
    (∀ cfg, isOpAct 0x70 (18, 0, 2) 0 x = true →
      cfg = ({ severity := x.fld 24 0 3, escalate := decide (x.fld 24 3 1 = 1), irqOff := decide (x.fld 24 4 1 = 1)
               graceUs := if x.fld 24 0 3 = 3 ∧ x.fld 28 0 24 = 0 then 10000 else x.fld 28 0 24 } : SrcCfg) →
      ∃ t, exec (.opFaultConfigSet c io) s = .next t ∧ t.dev.ended c x okDone ∧
        ∀ k, x.fld 16 0 12 ≤ k → k < x.fld 16 0 12 + max 1 (x.fld 20 0 13) →
          (t.dev.src k).cfg = some cfg ∧ (cfg.severity = 0 → (t.dev.src k).timer = none)) ∧
    (isOpAct 0x70 (18, 0, 2) 1 x = true → (s.dev.src (x.fld 16 0 12)).timer = none → (s.dev.src (x.fld 16 0 12)).crit = none →
      ∃ t, exec (.opFaultConfigRead c io) s = .next t ∧ t.dev.fcr = s.dev.fcr ∧ t.dev.ended c x (okDone
        (pack [(0, 24, (s.dev.srcCfg (x.fld 16 0 12)).graceUs), (24, 3, s.dev.effSeverity (x.fld 16 0 12)),
          (27, 1, b2n (s.dev.srcCfg (x.fld 16 0 12)).escalate), (28, 1, b2n (s.dev.srcCfg (x.fld 16 0 12)).irqOff),
          (29, 1, b2n (s.dev.src (x.fld 16 0 12)).live), (30, 1, b2n (s.dev.src (x.fld 16 0 12)).latched),
          (31, 1, b2n (s.dev.src (x.fld 16 0 12)).lasting), (33, 1, b2n (s.dev.src (x.fld 16 0 12)).escalated)])
        ((s.dev.src (x.fld 16 0 12)).lastTick + (s.dev.src (x.fld 16 0 12)).reports * 2 ^ 40))) ∧
    (∀ es, isOpAct 0x70 (18, 0, 2) 2 x = true →
      es = (s.dev.fcr.history.filter (fun h => s.dev.srcVisible c.ep h.source)).take (x.fld 40 0 32 / 16) →
      ∃ t, exec (.opFaultConfigHistory c io) s = .next t ∧ t.dev.fcr = s.dev.fcr ∧
        (io.wrErr = true → ∃ o, t.dev.ended c x o ∧ o.status = stTimeout ∧ o.detail = 32) ∧
        (io.wrErr = false → t.dev.ended c x (okDone es.length (s.dev.fcr.historyTotal % 2 ^ 32))) ∧
        (io.wrErr = false → (s.dev.ep c.ep).up = true → t.dev.out = .hostWrite c.ep (x.fld 32 0 64) (es.flatMap (fun h => leBytes 16 h.image)) :: s.dev.out)) ∧
    (isOpAct 0x70 (18, 0, 2) 3 x = true →
      ∃ t, exec (.opFaultConfigLatched c io) s = .next t ∧ t.dev.fcr = s.dev.fcr ∧
        (io.wrErr = true → ∃ o, t.dev.ended c x o ∧ o.status = stTimeout ∧ o.detail = 32) ∧
        (io.wrErr = false → t.dev.ended c x (okDone
          (s.dev.fcr.srcs.filter (fun y => y.2.latched && s.dev.srcVisible c.ep y.1)).length))) ∧
    (isOp 0x71 x = true → (s.dev.src (x.fld 16 0 12)).timer = none →
      ∃ t, exec (.opFaultAck c io) s = .next t ∧ t.dev.fcr = s.dev.fcr ∧
        t.dev.ended c x (failDone stNotFound (if (s.dev.src (x.fld 16 0 12)).escalated then 0x100 else 0x200))) ∧
    (∀ tm, isOp 0x71 x = true → (s.dev.src (x.fld 16 0 12)).timer = some tm →
      ∃ t, exec (.opFaultAck c io) s = .next t ∧ t.dev.ended c x (okDone 1) ∧
        t.dev.src (x.fld 16 0 12) = { s.dev.src (x.fld 16 0 12) with timer := none }) ∧
    (isOp 0x72 x = true → x.fld 18 0 1 = 0 → (∀ k ∈ x.sources, (s.dev.src k).latched = false ∧ (s.dev.src k).live = false) →
      ∃ t, exec (.opFaultClear c io) s = .next t ∧ t.dev.ended c x okDone) ∧
    (isOp 0x72 x = true → x.fld 20 0 13 ≤ 1 → x.fld 18 0 1 = 0 → (s.dev.src (x.fld 16 0 12)).latched = true →
      ((s.dev.src (x.fld 16 0 12)).live = false →
        ∃ t, exec (.opFaultClear c io) s = .next t ∧ t.dev.ended c x (okDone 1) ∧ (t.dev.src (x.fld 16 0 12)).latched = false ∧
          (t.dev.src (x.fld 16 0 12)).timer = none) ∧
      ((s.dev.src (x.fld 16 0 12)).live = true →
        ∃ t, exec (.opFaultClear c io) s = .next t ∧ t.dev.outcomeOf c = some
            { failDone stClearRefused (x.fld 16 0 12) with r1 := 1 } ∧ (t.dev.src (x.fld 16 0 12)).latched = true))

/-- The rows of the host interface: doorbells, rings, fetch, dispatch and commit, endpoints, host queues, messages, register
accesses, the sideband, counters change the parts that each of them names, and no other part of the device; the queue of
commands stands (02 and 20). -/
def Obligations.HostInterfaceRowsStayInTheirParts : Prop :=
  ∀ (s t : State) (c : CmdRef) (io : Io),
    (∀ e n v parity, exec (.commandRingDoorbell e n v parity) s = .next t → onlyIn [.hif, .fcr, .evr, .ctrs] s t) ∧
    (∀ e n v parity, exec (.completionRingDoorbell e n v parity) s = .next t → onlyIn [.hif, .fcr, .evr, .ctrs] s t) ∧
    (∀ e q v parity, exec (.receiveQueueDoorbell e q v parity) s = .next t → onlyIn [.hif, .fcr, .evr, .ctrs] s t) ∧
    (∀ e q v parity, exec (.transmitQueueDoorbell e q v parity) s = .next t → onlyIn [.hif, .fcr, .evr, .ctrs] s t) ∧
    (∀ c, exec (.commandCommit c) s = .next t → onlyIn [.hif, .fcr, .evr, .ctrs] s t) ∧
    (∀ ep off width v, exec (.strayDoorbell ep off width v) s = .next t → onlyIn [.hif, .fcr, .evr, .ctrs] s t) ∧
    (exec (.opSurvey c io) s = .next t → onlyIn [.hif, .out] s t) ∧
    (∀ e, exec (.descriptorFetch e) s = .next t → onlyIn [.hif, .out] s t) ∧
    (∀ e n, exec (.completionWrite e n) s = .next t → onlyIn [.hif, .out] s t) ∧
    (∀ e v, exec (.msixMessage e v) s = .next t → onlyIn [.hif, .out] s t) ∧
    (∀ e what, exec (.msixUnmask e what) s = .next t → onlyIn [.hif, .out] s t) ∧
    (∀ ep cause v, exec (.epVecMapWrite ep cause v) s = .next t → onlyIn [.hif, .out] s t) ∧
    (∀ i ∈ [Instr.opNop c io, Instr.opFence c io, Instr.commandDispatch],
      exec i s = .next t → onlyIn [.hif] s t) ∧
    (∀ ep v, exec (.epResyncGo ep v) s = .next t → onlyIn [.hif] s t) ∧
    (∀ e n dword v, exec (.epCrCfgWrite e n dword v) s = .next t → onlyIn [.hif, .fcr] s t) ∧
    (∀ e n dword v, exec (.epCqCfgWrite e n dword v) s = .next t → onlyIn [.hif, .fcr] s t) ∧
    (∀ e n, exec (.ringDisableDone e n) s = .next t → onlyIn [.hif, .fcr] s t) ∧
    (∀ ep dword v, exec (.glCmdArbWrite ep dword v) s = .next t → onlyIn [.hif, .fcr] s t) ∧
    (∀ e v, exec (.msixDelayExpiry e v) s = .next t → onlyIn [.bal, .hif, .tmu, .out] s t) ∧
    (exec (.opAbort c io) s = .next t → onlyIn [.hif, .fcr, .evr, .boot, .reg, .pipes, .fcps, .ctrs] s t) ∧
    (∀ ep cause, exec (.endpointDown ep cause) s = .next t → onlyIn [.hif, .fcr, .evr, .boot, .reg, .pipes, .tmu, .dp, .swc,
        .bpm, .fcps, .mrp, .ctrs, .freeSeq, .out] s t) ∧
    (∀ ep q dword v, exec (.epRxqCfgWrite ep q dword v) s = .next t → onlyIn [.hif, .fcr, .evr, .pipes, .dp, .swc, .bpm, .mrp,
        .ctrs, .freeSeq, .out] s t) ∧
    (∀ ep q dword v eops, exec (.epTxqCfgWrite ep q dword v eops) s = .next t → onlyIn [.hif, .fcr, .out] s t) ∧
    (∀ ep err, exec (.resyncDone ep err) s = .next t → onlyIn [.hif, .evr, .ctrs, .out] s t) ∧
    (∀ ep, exec (.endpointUp ep) s = .next t → onlyIn [.hif, .fcr, .evr, .ctrs, .out] s t) ∧
    (∀ ep ring desc check, exec (.descriptorFetchReturn ep ring desc check) s = .next t → onlyIn [.hif, .fcr, .evr, .cvu,
        .ctrs] s t) ∧
    (∀ pec, exec (.smbusSummary pec) s = .next t → onlyIn [.out] s t) ∧
    (∀ pec, exec (.smbusTempMax pec) s = .next t → onlyIn [.out] s t) ∧
    (∀ pec, exec (.smbusTempAll pec) s = .next t → onlyIn [.out] s t) ∧
    (∀ pec, exec (.smbusRails pec) s = .next t → onlyIn [.out] s t) ∧
    (∀ pec, exec (.smbusIdentity pec) s = .next t → onlyIn [.out] s t) ∧
    (∀ pec, exec (.smbusTokenStatus pec) s = .next t → onlyIn [.out] s t) ∧
    (∀ data pec, exec (.smbusTokenLoad data pec) s = .next t → onlyIn [.plc] s t) ∧
    (∀ pec, exec (.smbusTokenApply pec) s = .next t → onlyIn [.plc, .evr, .ctrs, .freeSeq] s t) ∧
    (exec (.smbusStallTimeout) s = .next t → onlyIn [] s t) ∧
    (exec (.ledFrame) s = .next t → onlyIn [.bal, .tmu, .pte, .out] s t) ∧
    (∀ code, exec (.tapInstruction code) s = .next t → onlyIn [.bal, .out] s t) ∧
    (∀ ep v, exec (.glLrnSweepWrite ep v) s = .next t → onlyIn [.hif, .lrn] s t) ∧
    (∀ ep v, exec (.planeRestore ep v) s = .next t → onlyIn [.hif, .swc] s t) ∧
    (∀ ep v, exec (.cxlRestore ep v) s = .next t → onlyIn [.hif, .fcr, .spw] s t) ∧
    (∀ ep v, exec (.glSpwMapWrite ep v) s = .next t → onlyIn [.hif, .spw] s t) ∧
    (∀ ep off width check, exec (.wideRegisterRead ep off width check) s = .next t → onlyIn [.hif, .fcr, .evr, .cvu, .ctrs,
        .freeSeq, .out] s t) ∧
    (∀ ep off width v, exec (.setupRegisterWrite ep off width v) s = .next t → onlyIn [.bal, .hif, .fcr, .evr, .boot, .reg,
        .pipes, .tmu, .pte, .pse, .rle, .lrn, .dp, .swc, .bpm, .fcps, .spw, .esc, .mrp, .cvu, .ctrs, .freeSeq, .out] s t) ∧
    (exec (.opCounterRead c io) s = .next t → onlyIn [.hif, .fcr, .evr, .mrp, .ctrs, .out] s t) ∧
    (exec (.opCounterClear c io) s = .next t → onlyIn [.hif, .ctrs] s t)

/-- The rows of the buffer and of pause change the parts that each of them names, and no other part of the device; the queue
of commands stands (10). -/
def Obligations.BufferAndPauseRowsStayInTheirParts : Prop :=
  ∀ (s t : State) (c : CmdRef) (io : Io),
    (∀ party cell acct parity, exec (.cellRelease party cell acct parity) s = .next t → onlyIn [.fcr, .evr, .bpm, .ctrs] s t) ∧
    (∀ list, exec (.freelistRebuildDone list) s = .next t → onlyIn [.fcr, .evr, .bpm, .ctrs] s t) ∧
    (∀ list check, exec (.freeListRefill list check) s = .next t → onlyIn [.fcr, .bpm] s t) ∧
    (∀ acct, exec (.accountRebuildDone acct) s = .next t → onlyIn [.fcr, .evr, .bpm, .ctrs, .freeSeq] s t) ∧
    (∀ i ∈ [Instr.opPoolSetSet c io, Instr.opHeadroomSet c io],
      exec i s = .next t → onlyIn [.hif, .fcr, .bpm, .ctrs] s t) ∧
    (exec (.opPoolSetRead c io) s = .next t → onlyIn [.hif] s t) ∧
    (exec (.opPoolSetRelease c io) s = .next t → onlyIn [.hif, .fcr, .evr, .bpm, .ctrs] s t) ∧
    (exec (.opPfcSet c io) s = .next t → onlyIn [.hif, .fcr, .fcps, .ctrs, .out] s t) ∧
    (∀ port cls, exec (.holdBusNotice port cls) s = .next t → onlyIn [.pipes, .fcps] s t) ∧
    (∀ port, exec (.pfcFrameSend port) s = .next t → onlyIn [.fcps, .ctrs, .out] s t) ∧
    (∀ port, exec (.pfcRefresh port) s = .next t → onlyIn [.bal, .tmu, .fcps, .ctrs, .out] s t) ∧
    (∀ port vector times, exec (.pfcFrameReceive port vector times) s = .next t → onlyIn [.fcr, .fcps, .ctrs] s t) ∧
    (∀ port time, exec (.pauseFrameReceive port time) s = .next t → onlyIn [.fcr, .fcps, .ctrs] s t) ∧
    (∀ port opcode, exec (.macControlReceive port opcode) s = .next t → onlyIn [.ctrs] s t) ∧
    (∀ port cls, exec (.pauseTimerExpiry port cls) s = .next t → onlyIn [.bal, .fcr, .pipes, .tmu, .fcps] s t) ∧
    (∀ port queue, exec (.pauseStorm port queue) s = .next t → onlyIn [.bal, .fcr, .evr, .tmu, .fcps, .ctrs] s t) ∧
    (∀ port queue, exec (.pauseBreakEnd port queue) s = .next t → onlyIn [.bal, .fcr, .evr, .tmu, .fcps, .ctrs] s t)

/-- The rows of the schedulers, the gauge, the weirs and the meter change the parts that each of them names, and no other
part of the device; the queue of commands stands (12 and 13). -/
def Obligations.SchedulingAndMeteringRowsStayInTheirParts : Prop :=
  ∀ (s t : State) (c : CmdRef) (io : Io),
    (∀ i ∈ [Instr.opSchedSetSet c io, Instr.opSchedSetSetMc c io, Instr.opShaperSetSet c io, Instr.opTideTableSetDisable c io],
      exec i s = .next t → onlyIn [.hif, .pipes, .esc] s t) ∧
    (∀ i ∈ [Instr.opSchedSetRead c io, Instr.opShaperSetRead c io],
      exec i s = .next t → onlyIn [.hif, .pipes] s t) ∧
    (exec (.opTideTableSetSet c io) s = .next t → onlyIn [.hif, .fcr, .pipes, .esc] s t) ∧
    (exec (.opTideTableSetRead c io) s = .next t → onlyIn [.hif, .pipes, .out] s t) ∧
    (∀ bucket, exec (.shaperRefillSweep bucket) s = .next t → onlyIn [.esc] s t) ∧
    (∀ bucket, exec (.shaperWheelFire bucket) s = .next t → onlyIn [.bal, .fcr, .tmu, .esc] s t) ∧
    (∀ pipe slot, exec (.coarseWheelSlot pipe slot) s = .next t → onlyIn [.bal, .tmu, .esc] s t) ∧
    (∀ port, exec (.tideGateChange port) s = .next t → onlyIn [.bal, .tmu, .esc] s t) ∧
    (∀ port, exec (.gaugeSample port) s = .next t → onlyIn [.bal, .tmu, .esc] s t) ∧
    (∀ port, exec (.tideCctReached port) s = .next t → onlyIn [.bal, .evr, .tmu, .esc, .ctrs] s t) ∧
    (∀ port entry, exec (.tideListEcc port entry) s = .next t → onlyIn [.fcr, .evr, .esc, .ctrs] s t) ∧
    (exec (.weirExchange) s = .next t → onlyIn [.bal, .tmu, .mrp] s t) ∧
    (∀ weir port cls, exec (.weirHoldRelease weir port cls) s = .next t → onlyIn [.bal, .tmu, .mrp] s t) ∧
    (∀ i ∈ [Instr.opLedgerConfig c io, Instr.opLedgerExportSetSet c io, Instr.opLedgerExportSetFlush c io,
        Instr.opMeterSetWeirDelete c io, Instr.opMeterSetRuleSet c io, Instr.opMeterSetRuleDelete c io],
      exec i s = .next t → onlyIn [.hif, .mrp] s t) ∧
    (∀ ep polder v, exec (.epMrpRingConsWrite ep polder v) s = .next t → onlyIn [.hif, .mrp] s t) ∧
    (∀ i ∈ [Instr.opLedgerExportSetRead c io, Instr.opMeterSetWeirRead c io],
      exec i s = .next t → onlyIn [.hif] s t) ∧
    (∀ ep dword v, exec (.epGaugeRingWrite ep dword v) s = .next t → onlyIn [.hif] s t) ∧
    (exec (.opMeterSetWeirSet c io) s = .next t → onlyIn [.hif, .fcr, .mrp] s t) ∧
    (exec (.epochEnd) s = .next t → onlyIn [.bal, .fcr, .evr, .tmu, .mrp, .ctrs] s t) ∧
    (∀ polder, exec (.bankFreeze polder) s = .next t → onlyIn [.bal, .fcr, .tmu, .mrp] s t) ∧
    (∀ polder, exec (.minuteRecordWrite polder) s = .next t → onlyIn [.hif, .mrp, .ctrs, .out] s t) ∧
    (∀ k bad, exec (.combinedUpdate k bad) s = .next t → onlyIn [.hif, .fcr, .evr, .mrp, .ctrs, .out] s t) ∧
    (∀ bad evict, exec (.ledgerMiss bad evict) s = .next t → onlyIn [.fcr, .evr, .mrp, .ctrs] s t) ∧
    (∀ slot bad, exec (.ledgerWalkerVisit slot bad) s = .next t → onlyIn [.fcr, .evr, .mrp, .ctrs] s t) ∧
    (exec (.opGaugeSetSet c io) s = .next t → onlyIn [.hif, .esc] s t) ∧
    (exec (.opGaugeSetRead c io) s = .next t → onlyIn [.hif, .out] s t) ∧
    (exec (.opGaugeSetArchiveRead c io) s = .next t → onlyIn [.hif, .fcr, .evr, .ctrs, .out] s t) ∧
    (∀ port, exec (.gaugeIntervalEnd port) s = .next t → onlyIn [.bal, .hif, .fcr, .tmu, .esc, .ctrs, .out] s t)

/-- The rows of the event recorder, the fault reporters and the diagnostics change the parts that each of them names, and no
other part of the device; the queue of commands stands (15, 16 and 18). -/
def Obligations.RecorderAndFaultRowsStayInTheirParts : Prop :=
  ∀ (s t : State) (c : CmdRef) (io : Io),
    (exec (.opLogRead c io) s = .next t → onlyIn [.hif, .fcr, .evr, .ctrs, .out] s t) ∧
    (∀ check, exec (.recordAdmit check) s = .next t → onlyIn [.hif, .fcr, .evr, .ctrs, .out] s t) ∧
    (∀ check, exec (.holdingFifoDrain check) s = .next t → onlyIn [.hif, .fcr, .evr, .ctrs, .out] s t) ∧
    (∀ i ∈ [Instr.opLogFreeze c io, Instr.opLogThaw c io],
      exec i s = .next t → onlyIn [.hif, .evr, .ctrs] s t) ∧
    (exec (.opLogRateSetSet c io) s = .next t → onlyIn [.hif, .evr] s t) ∧
    (∀ i ∈ [Instr.opLogRateSetRead c io, Instr.opFaultConfigRead c io],
      exec i s = .next t → onlyIn [.hif] s t) ∧
    (exec (.hourmark) s = .next t → onlyIn [.bal, .evr, .tmu, .ctrs] s t) ∧
    (∀ slot, exec (.suppressionSummary slot) s = .next t → onlyIn [.bal, .evr, .tmu, .ctrs] s t) ∧
    (exec (.logFreezeLimit) s = .next t → onlyIn [.bal, .fcr, .evr, .tmu, .ctrs] s t) ∧
    (∀ n ok, exec (.persistentPageProgram n ok) s = .next t → onlyIn [.fcr, .evr, .ctrs] s t) ∧
    (∀ sector ok, exec (.flashSectorErase sector ok) s = .next t → onlyIn [.fcr, .evr, .ctrs] s t) ∧
    (∀ sectors hours, exec (.powerOnScanDone sectors hours) s = .next t → onlyIn [.fcr, .evr, .ctrs] s t) ∧
    (∀ src passed, exec (.faultRetryResult src passed) s = .next t → onlyIn [.fcr, .evr, .ctrs] s t) ∧
    (∀ i ∈ [Instr.opFaultConfigSet c io, Instr.opFaultAck c io, Instr.opFaultClear c io],
      exec i s = .next t → onlyIn [.hif, .fcr, .evr, .ctrs] s t) ∧
    (∀ i ∈ [Instr.opFaultConfigHistory c io, Instr.opFaultConfigLatched c io],
      exec i s = .next t → onlyIn [.hif, .out] s t) ∧
    (∀ l gone, exec (.laneRecheck l gone) s = .next t → onlyIn [.bal, .fcr, .evr, .tmu, .pte, .ctrs] s t) ∧
    (exec (.faultReport) s = .next t → onlyIn [.bal, .hif, .plc, .fcr, .evr, .boot, .reg, .pipes, .tmu, .pte, .pse, .rle, .lrn,
        .dp, .swc, .bpm, .fcps, .spw, .esc, .mrp, .ctrs, .freeSeq, .out] s t) ∧
    (∀ src, exec (.graceTimerExpiry src) s = .next t → onlyIn [.bal, .hif, .plc, .fcr, .evr, .boot, .reg, .pipes, .tmu, .pte,
        .pse, .rle, .lrn, .dp, .swc, .bpm, .fcps, .spw, .esc, .mrp, .ctrs, .freeSeq, .out] s t) ∧
    (∀ src, exec (.criticalGraceExpiry src) s = .next t → onlyIn [.bal, .hif, .plc, .fcr, .evr, .boot, .reg, .pipes, .tmu,
        .pte, .pse, .rle, .lrn, .dp, .swc, .bpm, .fcps, .spw, .esc, .mrp, .ctrs, .freeSeq, .out] s t) ∧
    (∀ sweeper mem inst addr check weak args,
        exec (.tourbillonVisit sweeper mem inst addr check weak args) s = .next t → onlyIn [.hif, .fcr, .evr, .pipes, .rle,
        .lrn, .dp, .swc, .bpm, .esc, .mrp, .cvu, .ctrs, .freeSeq, .out] s t) ∧
    (∀ src, exec (.liveWindowExpiry src) s = .next t → onlyIn [.bal, .fcr, .tmu] s t) ∧
    (exec (.opDiagLoopback c io) s = .next t → onlyIn [.bal, .hif, .fcr, .pte] s t) ∧
    (exec (.opDiagBist c io) s = .next t → onlyIn [.hif, .boot, .rle, .lrn, .dp, .swc, .bpm, .esc, .mrp, .ctrs] s t) ∧
    (exec (.opDiagPrbsStart c io) s = .next t → onlyIn [.bal, .hif] s t) ∧
    (∀ i ∈ [Instr.opDiagPrbsRead c io, Instr.opDiagPrbsStop c io],
      exec i s = .next t → onlyIn [.bal, .hif, .freeSeq] s t)

/-- The rows of tables, generations, the learn ring, polders and sluices change the parts that each of them names, and no
other part of the device; the queue of commands stands (03, 06 and 07). -/
def Obligations.TableLearningAndPolderRowsStayInTheirParts : Prop :=
  ∀ (s t : State) (c : CmdRef) (io : Io),
    (∀ i ∈ [Instr.opGenOpen c io, Instr.opGenCommit c io, Instr.opGenDiscard c io],
      exec i s = .next t → onlyIn [.hif, .evr, .rle, .ctrs] s t) ∧
    (exec (.opGenStatus c io) s = .next t → onlyIn [.hif] s t) ∧
    (exec (.genDrainDone) s = .next t → onlyIn [.evr, .rle, .ctrs] s t) ∧
    (exec (.retirementTimerExpiry) s = .next t → onlyIn [.bal, .evr, .tmu, .rle, .dp, .ctrs] s t) ∧
    (exec (.syncSweepDone) s = .next t → onlyIn [.hif, .fcr, .rle] s t) ∧
    (∀ i ∈ [Instr.opTableWrite c io, Instr.opTableBulk c io],
      exec i s = .next t → onlyIn [.hif, .fcr, .pipes, .pse, .rle, .lrn] s t) ∧
    (∀ i ∈ [Instr.opTableRead c io, Instr.opTableSearch c io, Instr.opTableAudit c io, Instr.opTableScan c io],
      exec i s = .next t → onlyIn [.hif, .out] s t) ∧
    (exec (.opTableDelete c io) s = .next t → onlyIn [.hif, .fcr, .rle, .lrn] s t) ∧
    (∀ quad table path, exec (.relocationMove quad table path) s = .next t → onlyIn [.fcr, .rle, .lrn, .ctrs] s t) ∧
    (exec (.learnEventPass) s = .next t → onlyIn [.lrn] s t) ∧
    (∀ quad check draw, exec (.learnEventApply quad check draw) s = .next t → onlyIn [.hif, .fcr, .evr, .lrn, .ctrs] s t) ∧
    (∀ quad, exec (.learnApplyLag quad) s = .next t → onlyIn [.bal, .fcr, .tmu] s t) ∧
    (∀ quad, exec (.agingVisit quad) s = .next t → onlyIn [.bal, .tmu, .lrn, .ctrs] s t) ∧
    (∀ i ∈ [Instr.opPolderDefineDefine c io, Instr.opPolderDefineModify c io],
      exec i s = .next t → onlyIn [.hif, .plc, .fcr, .evr, .pte, .bpm, .fcps, .mrp, .ctrs, .out] s t) ∧
    (exec (.opPolderDefineUndefine c io) s = .next t → onlyIn [.hif, .plc, .fcr, .evr, .pipes, .pte, .pse, .rle, .lrn, .dp,
        .swc, .bpm, .fcps, .spw, .esc, .mrp, .ctrs, .freeSeq, .out] s t) ∧
    (exec (.opSluiceSet c io) s = .next t → onlyIn [.hif, .plc] s t) ∧
    (exec (.opWardenHandover c io) s = .next t → onlyIn [.hif, .plc, .evr, .ctrs, .freeSeq] s t)

/-- The rows of the frame path: entry, cells, planes, dispatch, transmission, the spillway change the parts that each of them
names, and no other part of the device; the queue of commands stands (04, 09, 11 and 12). -/
def Obligations.FrameRowsStayInTheirParts : Prop :=
  ∀ (s t : State) (c : CmdRef) (io : Io),
    (∀ pipe wire flaws upper, exec (.headerWindowComplete pipe wire flaws upper) s = .next t → onlyIn [.hif, .fcr, .evr, .pipes,
        .pte, .rle, .lrn, .dp, .swc, .bpm, .fcps, .spw, .esc, .mrp, .ctrs, .freeSeq, .out] s t) ∧
    (∀ pid fcsOk fec, exec (.frameLastByte pid fcsOk fec) s = .next t → onlyIn [.hif, .fcr, .evr, .pipes, .lrn, .dp, .swc,
        .bpm, .spw, .mrp, .ctrs, .freeSeq, .out] s t) ∧
    (∀ cell, exec (.writeConfirm cell) s = .next t → onlyIn [.pipes, .dp, .swc, .bpm, .esc] s t) ∧
    (∀ port, exec (.queueFlushDone port) s = .next t → onlyIn [.hif, .fcr, .evr, .pipes, .pte, .dp, .swc, .bpm, .spw, .mrp,
        .ctrs, .freeSeq, .out] s t) ∧
    (∀ ep posted err, exec (.rxFrameDelivery ep posted err) s = .next t → onlyIn [.hif, .fcr, .evr, .pipes, .dp, .swc, .bpm,
        .mrp, .ctrs, .freeSeq, .out] s t) ∧
    (∀ k how, exec (.cellArrivalEgress k how) s = .next t → onlyIn [.hif, .fcr, .evr, .pipes, .dp, .swc, .bpm, .mrp, .ctrs,
        .freeSeq, .out] s t) ∧
    (∀ check, exec (.orphanSweepVisit check) s = .next t → onlyIn [.hif, .fcr, .evr, .pipes, .dp, .swc, .bpm, .mrp, .ctrs,
        .freeSeq, .out] s t) ∧
    (∀ plane, exec (.planeRemoved plane) s = .next t → onlyIn [.hif, .fcr, .evr, .pipes, .dp, .swc, .bpm, .mrp, .ctrs,
        .freeSeq, .out] s t) ∧
    (∀ ep q, exec (.rxQueueStarved ep q) s = .next t → onlyIn [.bal, .hif, .fcr, .evr, .pipes, .tmu, .dp, .swc, .bpm, .mrp,
        .ctrs, .freeSeq, .out] s t) ∧
    (∀ pipe stream, exec (.reseqGapTimeout pipe stream) s = .next t → onlyIn [.bal, .hif, .fcr, .evr, .pipes, .tmu, .dp, .swc,
        .bpm, .mrp, .ctrs, .freeSeq, .out] s t) ∧
    (∀ port m, exec (.mcCopyHoldDrop port m) s = .next t → onlyIn [.bal, .hif, .fcr, .evr, .pipes, .tmu, .dp, .swc, .bpm, .mrp,
        .ctrs, .freeSeq, .out] s t) ∧
    (∀ ep descs bytes, exec (.txFrameFetch ep descs bytes) s = .next t → onlyIn [.hif, .fcr, .pipes, .dp, .out] s t) ∧
    (∀ pipe flaws, exec (.dispatchDecision pipe flaws) s = .next t → onlyIn [.hif, .fcr, .evr, .pipes, .rle, .lrn, .dp, .swc,
        .bpm, .fcps, .spw, .esc, .mrp, .ctrs, .freeSeq, .out] s t) ∧
    (∀ port, exec (.rewriteLengthCharge port) s = .next t → onlyIn [.dp, .esc, .ctrs] s t) ∧
    (∀ port, exec (.frameTransmitEnd port) s = .next t → onlyIn [.hif, .fcr, .evr, .pipes, .pte, .dp, .swc, .bpm, .esc, .mrp,
        .ctrs, .freeSeq, .out] s t) ∧
    (∀ port, exec (.txUnderrun port) s = .next t → onlyIn [.hif, .fcr, .evr, .pipes, .pte, .dp, .swc, .bpm, .esc, .mrp, .ctrs,
        .freeSeq, .out] s t) ∧
    (∀ pid, exec (.confirmTimeout pid) s = .next t → onlyIn [.bal, .hif, .fcr, .evr, .tmu, .dp, .swc, .bpm, .spw, .mrp, .ctrs,
        .freeSeq, .out] s t) ∧
    (∀ plane pipe cause, exec (.planeFailure plane pipe cause) s = .next t → onlyIn [.bal, .fcr, .evr, .tmu, .swc, .ctrs] s t) ∧
    (∀ plane ok, exec (.planeSelfCheck plane ok) s = .next t → onlyIn [.bal, .fcr, .evr, .tmu, .swc, .ctrs] s t) ∧
    (∀ plane ok, exec (.planeBistDone plane ok) s = .next t → onlyIn [.fcr, .evr, .swc, .ctrs] s t) ∧
    (∀ ready, exec (.cellWriteCrossing ready) s = .next t → onlyIn [.hif, .fcr, .evr, .pipes, .dp, .swc, .bpm, .fcps, .spw,
        .mrp, .ctrs, .freeSeq, .out] s t) ∧
    (exec (.opSpillSetQueue c io) s = .next t → onlyIn [.hif, .dp] s t) ∧
    (exec (.opSpillSetLongReach c io) s = .next t → onlyIn [.hif, .spw] s t) ∧
    (∀ i ∈ [Instr.opSpillSetReadQueue c io, Instr.opSpillSetReadLr c io],
      exec i s = .next t → onlyIn [.hif] s t) ∧
    (∀ backlog, exec (.basinWriteComplete backlog) s = .next t → onlyIn [.fcr, .evr, .dp, .bpm, .spw, .ctrs, .freeSeq] s t) ∧
    (exec (.segmentWalkerReturn) s = .next t → onlyIn [.hif, .fcr, .evr, .pipes, .dp, .swc, .bpm, .spw, .mrp, .ctrs, .freeSeq,
        .out] s t) ∧
    (∀ k n err, exec (.basinReadComplete k n err) s = .next t → onlyIn [.hif, .fcr, .evr, .pipes, .dp, .swc, .bpm, .spw, .mrp,
        .ctrs, .freeSeq, .out] s t) ∧
    (∀ port cause, exec (.cxlPortLoss port cause) s = .next t → onlyIn [.hif, .fcr, .evr, .pipes, .dp, .swc, .bpm, .spw, .mrp,
        .ctrs, .freeSeq, .out] s t) ∧
    (∀ port cls err, exec (.lrqReturn port cls err) s = .next t → onlyIn [.hif, .fcr, .evr, .pipes, .dp, .swc, .bpm, .spw,
        .esc, .mrp, .ctrs, .freeSeq, .out] s t) ∧
    (∀ port, exec (.cxlEnumeration port) s = .next t → onlyIn [.spw] s t) ∧
    (∀ port failed capMib width rate, exec (.cxlEnumerationDone port failed capMib width rate) s = .next t → onlyIn [.fcr,
        .evr, .spw, .ctrs] s t) ∧
    (∀ seg, exec (.basinAudit seg) s = .next t → onlyIn [.fcr, .evr, .spw, .ctrs] s t) ∧
    (∀ stack, exec (.hbmStackFailure stack) s = .next t → onlyIn [.fcr, .spw, .esc, .mrp] s t)

/-- The rows of ports and links, of the time unit and of the check-value units change the parts that each of them names, and
no other part of the device; the queue of commands stands (04, 13 and 14). -/
def Obligations.PortTimeAndCompareRowsStayInTheirParts : Prop :=
  ∀ (s t : State) (c : CmdRef) (io : Io),
    (exec (.opPortConfig c io) s = .next t → onlyIn [.hif, .fcr, .pte, .pse, .bpm, .fcps, .spw, .esc, .ctrs, .out] s t) ∧
    (∀ i ∈ [Instr.opPortStateRead c io, Instr.opTimeCapture c io],
      exec i s = .next t → onlyIn [.hif] s t) ∧
    (exec (.opPortStateAdminUp c io) s = .next t → onlyIn [.hif, .fcr, .evr, .pte, .ctrs] s t) ∧
    (exec (.opPortStateAdminDown c io) s = .next t → onlyIn [.hif, .fcr, .evr, .pipes, .pte, .dp, .swc, .bpm, .spw, .esc, .mrp,
        .ctrs, .freeSeq, .out] s t) ∧
    (∀ i ∈ [Instr.opPortStateRetrain c io, Instr.opPortHoldSet c io],
      exec i s = .next t → onlyIn [.hif, .fcr, .evr, .pipes, .pte, .dp, .swc, .bpm, .spw, .mrp, .ctrs, .freeSeq, .out] s t) ∧
    (∀ port, exec (.linkUp port) s = .next t → onlyIn [.hif, .fcr, .evr, .pipes, .pte, .dp, .swc, .bpm, .spw, .mrp, .ctrs,
        .freeSeq, .out] s t) ∧
    (∀ port frame, exec (.sofPreIndication port frame) s = .next t → onlyIn [.fcr, .pipes, .pte, .ctrs] s t) ∧
    (∀ port cause lane held, exec (.linkLossDeclared port cause lane held) s = .next t → onlyIn [.bal, .hif, .fcr, .evr,
        .pipes, .tmu, .pte, .dp, .swc, .bpm, .spw, .mrp, .ctrs, .freeSeq, .out] s t) ∧
    (∀ port, exec (.holdExpiry port) s = .next t → onlyIn [.bal, .hif, .fcr, .evr, .pipes, .tmu, .pte, .dp, .swc, .bpm, .spw,
        .mrp, .ctrs, .freeSeq, .out] s t) ∧
    (∀ port, exec (.realignTimeout port) s = .next t → onlyIn [.bal, .tmu, .pte] s t) ∧
    (∀ port, exec (.trainingRestart port) s = .next t → onlyIn [.bal, .tmu, .pte] s t) ∧
    (∀ port phase, exec (.trainingTimeout port phase) s = .next t → onlyIn [.bal, .evr, .tmu, .pte, .ctrs] s t) ∧
    (∀ octal failed, exec (.macroPowerUpDone octal failed) s = .next t → onlyIn [.evr, .pte, .ctrs] s t) ∧
    (∀ engine, exec (.adaptationSlice engine) s = .next t → onlyIn [.reg] s t) ∧
    (∀ pipe, exec (.pipelineSleepEntry pipe) s = .next t → onlyIn [.bal, .pipes, .tmu] s t) ∧
    (∀ pipe late, exec (.pipelineWake pipe late) s = .next t → onlyIn [.fcr, .pipes] s t) ∧
    (∀ port page, exec (.anMismatch port page) s = .next t → onlyIn [.evr, .ctrs] s t) ∧
    (∀ i ∈ [Instr.opTimeSetSet c io, Instr.opTimeSetStep c io, Instr.ppsInEdge],
      exec i s = .next t → onlyIn [.hif, .fcr, .evr, .tmu, .esc, .mrp, .ctrs, .out] s t) ∧
    (∀ ep v, exec (.glMrpCfgWrite ep v) s = .next t → onlyIn [.hif, .fcr, .evr, .tmu, .esc, .mrp, .ctrs, .out] s t) ∧
    (∀ i ∈ [Instr.opTimeSetFreq c io, Instr.opTimeSetSlew c io],
      exec i s = .next t → onlyIn [.hif, .tmu] s t) ∧
    (exec (.ppsOutEdge) s = .next t → onlyIn [.bal, .tmu, .out] s t) ∧
    (exec (.atPpsTimeout) s = .next t → onlyIn [.bal, .hif, .tmu] s t) ∧
    (∀ i ∈ [Instr.timeRefLoss, Instr.timeRefReturn],
      exec i s = .next t → onlyIn [.fcr, .tmu] s t) ∧
    (exec (.slewComplete) s = .next t → onlyIn [.bal, .tmu] s t) ∧
    (∀ who ctx enables v, exec (.cvuDataWrite who ctx enables v) s = .next t → onlyIn [.hif, .cvu, .ctrs] s t) ∧
    (∀ who ctx v, exec (.cvuStart who ctx v) s = .next t → onlyIn [.hif, .fcr, .cvu, .ctrs] s t) ∧
    (∀ who ctx v, exec (.cvuCompare who ctx v) s = .next t → onlyIn [.hif, .fcr, .cvu, .ctrs] s t) ∧
    (∀ check, exec (.cvuSlice check) s = .next t → onlyIn [.fcr, .evr, .cvu, .ctrs] s t)

/-- The rows of boot, stores, modes, clocks, supplies and temperature change the parts that each of them names, and no other
part of the device; the queue of commands stands (17, 18 and 19). -/
def Obligations.BootAndModeRowsStayInTheirParts : Prop :=
  ∀ (s t : State) (c : CmdRef) (io : Io),
    (exec (.opAttestReport c io) s = .next t → onlyIn [.hif, .evr, .boot, .ctrs, .out] s t) ∧
    (exec (.opAttestCert c io) s = .next t → onlyIn [.hif, .evr, .ctrs, .out] s t) ∧
    (∀ i ∈ [Instr.opModeSetDevice c io, Instr.sysRstN, Instr.corePllLockTimeout, Instr.drainComplete, Instr.drainLimitExpiry],
      exec i s = .next t → onlyIn [.bal, .hif, .fcr, .evr, .boot, .reg, .pipes, .tmu, .pte, .pse, .rle, .lrn, .dp, .swc, .bpm,
        .fcps, .spw, .esc, .mrp, .ctrs, .freeSeq, .out] s t) ∧
    (∀ flash, exec (.loadStart flash) s = .next t → onlyIn [.bal, .hif, .fcr, .evr, .boot, .reg, .pipes, .tmu, .pte, .pse,
        .rle, .lrn, .dp, .swc, .bpm, .fcps, .spw, .esc, .mrp, .ctrs, .freeSeq, .out] s t) ∧
    (∀ ep, exec (.glBootCtrlGo ep) s = .next t → onlyIn [.bal, .hif, .fcr, .evr, .boot, .reg, .pipes, .tmu, .pte, .pse, .rle,
        .lrn, .dp, .swc, .bpm, .fcps, .spw, .esc, .mrp, .ctrs, .freeSeq, .out] s t) ∧
    (∀ src cause version, exec (.imageRejected src cause version) s = .next t → onlyIn [.bal, .hif, .fcr, .evr, .boot, .reg,
        .pipes, .tmu, .pte, .pse, .rle, .lrn, .dp, .swc, .bpm, .fcps, .spw, .esc, .mrp, .ctrs, .freeSeq, .out] s t) ∧
    (∀ temps, exec (.thermalTrip temps) s = .next t → onlyIn [.bal, .hif, .fcr, .evr, .boot, .reg, .pipes, .tmu, .pte, .pse,
        .rle, .lrn, .dp, .swc, .bpm, .fcps, .spw, .esc, .mrp, .ctrs, .freeSeq, .out] s t) ∧
    (exec (.opStoreReload c io) s = .next t → onlyIn [.hif, .fcr, .evr, .boot, .reg, .pipes, .fcps, .ctrs] s t) ∧
    (∀ straps broken, exec (.porNDeassert straps broken) s = .next t → onlyIn [.bal, .plc, .fcr, .evr, .boot, .ctrs,
        .freeSeq] s t) ∧
    (exec (.porNAssert) s = .next t → onlyIn [.bal, .hif, .plc, .fcr, .evr, .boot, .reg, .pipes, .tmu, .pte, .pse, .rle, .lrn,
        .dp, .swc, .bpm, .fcps, .spw, .esc, .mrp, .cvu, .ctrs] s t) ∧
    (∀ src img tables fuseBad, exec (.imageLoadAccepted src img tables fuseBad) s = .next t → onlyIn [.bal, .hif, .fcr, .evr,
        .otp, .boot, .reg, .pipes, .tmu, .pte, .pse, .rle, .lrn, .dp, .swc, .bpm, .fcps, .spw, .esc, .mrp, .cvu, .ctrs,
        .freeSeq, .out] s t) ∧
    (∀ i ∈ [Instr.corePllLockLoss, Instr.ref100Loss, Instr.ref100Return, Instr.serdesRefLoss, Instr.serdesRefReturn,
        Instr.mgmtPllLockLoss],
      exec i s = .next t → onlyIn [.bal, .fcr] s t) ∧
    (∀ temps, exec (.thermNCrossing temps) s = .next t → onlyIn [.bal, .fcr] s t) ∧
    (∀ temps, exec (.calibrationPass temps) s = .next t → onlyIn [.bal, .fcr] s t) ∧
    (∀ mem core, exec (.memMarginBroken mem core) s = .next t → onlyIn [.bal, .fcr] s t) ∧
    (∀ mv confirm, exec (.avsWrite mv confirm) s = .next t → onlyIn [.bal, .out] s t) ∧
    (exec (.avsConfirmTimeout) s = .next t → onlyIn [.bal, .fcr, .tmu] s t) ∧
    (∀ r word kind, exec (.regulatorTrap r word kind) s = .next t → onlyIn [.fcr, .evr, .reg, .ctrs] s t) ∧
    (∀ adp k word lasting, exec (.regulatorStoreUe adp k word lasting) s = .next t → onlyIn [.fcr, .evr, .reg, .ctrs] s t) ∧
    (∀ rail mv, exec (.railOutOfTolerance rail mv) s = .next t → onlyIn [.bal, .fcr, .evr, .ctrs] s t) ∧
    (exec (.opModeSetPolder c io) s = .next t → onlyIn [.hif, .plc, .fcr, .pte, .fcps] s t)

/-- A step of a command changes no other command: the rows below leave the fetched commands and the rings as they are, but for the record
of the command that they run, which keeps its ring and its position; and where an abort has marked that command, its step ends it as
aborted, with the steps finished, or does not end it. The rows of OP_ABORT, which marks its target, and OP_MODE_SET DEVICE, which ends
commands, are not among them (02 R56, R57, R71). -/
def Obligations.CommandStepsLeaveOtherCommands : Prop :=
  ∀ (s t : State) (c : CmdRef) (io : Io),
    ∀ i ∈ [Instr.opNop c io, Instr.opFence c io, Instr.opSurvey c io, Instr.opAttestReport c io, Instr.opAttestCert c io,
        Instr.opModeSetPolder c io, Instr.opTableWrite c io, Instr.opTableRead c io, Instr.opTableSearch c io,
        Instr.opTableDelete c io, Instr.opTableBulk c io, Instr.opTableAudit c io, Instr.opTableScan c io,
        Instr.opGenOpen c io, Instr.opGenCommit c io, Instr.opGenDiscard c io, Instr.opGenStatus c io,
        Instr.opCounterRead c io, Instr.opCounterClear c io, Instr.opLedgerConfig c io, Instr.opLedgerExportSetSet c io,
        Instr.opLedgerExportSetRead c io, Instr.opLedgerExportSetFlush c io, Instr.opMeterSetWeirSet c io,
        Instr.opMeterSetWeirRead c io, Instr.opMeterSetWeirDelete c io, Instr.opMeterSetRuleSet c io,
        Instr.opMeterSetRuleDelete c io, Instr.opSchedSetSet c io, Instr.opSchedSetSetMc c io, Instr.opSchedSetRead c io,
        Instr.opShaperSetSet c io, Instr.opShaperSetRead c io, Instr.opTideTableSetSet c io,
        Instr.opTideTableSetDisable c io, Instr.opTideTableSetRead c io, Instr.opGaugeSetSet c io,
        Instr.opGaugeSetRead c io, Instr.opGaugeSetArchiveRead c io, Instr.opPoolSetSet c io, Instr.opPoolSetRead c io,
        Instr.opPoolSetRelease c io, Instr.opHeadroomSet c io, Instr.opPfcSet c io, Instr.opSpillSetQueue c io,
        Instr.opSpillSetLongReach c io, Instr.opSpillSetReadQueue c io, Instr.opSpillSetReadLr c io,
        Instr.opFaultConfigSet c io, Instr.opFaultConfigRead c io, Instr.opFaultConfigHistory c io,
        Instr.opFaultConfigLatched c io, Instr.opFaultAck c io, Instr.opFaultClear c io, Instr.opLogRead c io,
        Instr.opLogFreeze c io, Instr.opLogThaw c io, Instr.opLogRateSetSet c io, Instr.opLogRateSetRead c io,
        Instr.opPolderDefineDefine c io, Instr.opPolderDefineModify c io, Instr.opPolderDefineUndefine c io,
        Instr.opSluiceSet c io, Instr.opWardenHandover c io, Instr.opPortConfig c io, Instr.opPortStateRead c io,
        Instr.opPortStateAdminUp c io, Instr.opPortStateAdminDown c io, Instr.opPortStateRetrain c io,
        Instr.opPortHoldSet c io, Instr.opTimeSetSet c io, Instr.opTimeSetStep c io, Instr.opTimeSetFreq c io,
        Instr.opTimeSetSlew c io, Instr.opTimeCapture c io, Instr.opStoreReload c io, Instr.opDiagLoopback c io,
        Instr.opDiagBist c io, Instr.opDiagPrbsStart c io, Instr.opDiagPrbsRead c io, Instr.opDiagPrbsStop c io],
      exec i s = .next t → ownCommandOnly c s t ∧ endsAborted c s t

/-- A step runs the command at the front of the queue on the state that holds the queue's rest. -/
def Obligations.StepRunsFrontCommand : Prop :=
  ∀ (c : Instr) (q : List Instr) (d : Dev), step { pending := c :: q, dev := d } = exec c { pending := q, dev := d }

/-- On an empty queue the always-on clock ticks once: the tick count rises by one; device time runs only while the core domain
is powered, and nothing else changes. That an empty queue ticks is the model's choice (assumption 2). -/
def Obligations.EmptyQueueTicks : Prop :=
  ∀ (s : State), s.pending = [] →
    ∃ t, step s = .next t ∧ t.pending = [] ∧ t.dev.bal = { s.dev.bal with tick := s.dev.bal.tick + 1 } ∧
      onlyIn [.bal, .tmu] s t ∧ (s.dev.corePowered = false → t.dev.tmu = s.dev.tmu)

/-- Every command answers a next state, and leaves the queue as it is, but a private debug instruction of the TAP while the fuses
leave it decoded (19 R561: what it does is not documented): that one is refused by name. -/
def Obligations.EveryCommandAnswers : Prop :=
  ∀ (i : Instr) (s : State),
    ((∀ code, i = .tapInstruction code → s.dev.tapDecode code ≠ .privateDebug) →
      ∃ t, exec i s = .next t ∧ t.pending = s.pending) ∧
    (∀ code, i = .tapInstruction code → s.dev.tapDecode code = .privateDebug → exec i s = .refused .privateDebug)

/-- At reset polder 0 is defined and owns everything: its owner is the warden, its port map has every lane, its tenant range runs
from 0 to 262,143, the warden endpoint's rings, queues and vectors are its own, every quota is the full capacity, CELL_MIN is 0,
CELL_MAX 1,048,576, HASH_SEED 0 and HOLD_IDLE 1. Polders 1 to 7 are undefined, and no ring or queue of another endpoint is
assigned to any polder (03 R91). -/
def Obligations.PolderZeroOwnsAllAtReset : Prop :=
  let d := State.reset.dev
  (d.polder 0).owner = d.plc.warden ∧ (d.polder 0).portMap = 2 ^ 512 - 1 ∧ (d.polder 0).tenantBase = 0 ∧
    (d.polder 0).tenantCount = 262144 ∧ (d.polder 0).crMask = 2 ^ 64 - 1 ∧ (d.polder 0).cqMask = 2 ^ 64 - 1 ∧
    (d.polder 0).rxqMask = 2 ^ 256 - 1 ∧ (d.polder 0).txqMask = 2 ^ 256 - 1 ∧ (d.polder 0).vecBase = 0 ∧ (d.polder 0).vecCount = 512 ∧
    (d.polder 0).quota = [524288, 1048576, 524288, 2097152, 524288, 65536, 262144, 262144, 16384, 1048576, 512, 65536] ∧
    (d.polder 0).cellMin = 0 ∧ (d.polder 0).cellMax = 1048576 ∧ (d.polder 0).hashSeed = 0 ∧ (d.polder 0).holdIdle = true ∧
    (d.polder 0).st ≠ .undefined ∧ (∀ p, 1 ≤ p → p < 8 → (d.polder p).st = .undefined) ∧
    (∀ e n, e ≠ d.plc.warden → d.crPolder e n = none ∧ d.cqPolder e n = none ∧ d.rxqPolder e n = none ∧ d.txqPolder e n = none)

/-- Every step keeps the warden present and CHALLENGE other than 0 (03 R105, R110, R111). -/
def Obligations.EveryStepKeepsTheWarden : Prop :=
  ∀ (s t : State), WardenStands s.dev → step s = .next t → WardenStands t.dev

/-- Every step keeps every running register of the check-value unit within its algorithm's width (14 R430). -/
def Obligations.EveryStepKeepsTheRunWidths : Prop :=
  ∀ (s t : State), RunsFit s.dev → step s = .next t → RunsFit t.dev

/-- No step gives a fuse back: keys, identity, lock fuses and the fields found unreadable stand, the anti-rollback counter never
decreases, and a revoked key stays revoked (17 R507, R509, R510). -/
def Obligations.NoStepGivesAFuseBack : Prop :=
  ∀ (s t : State), step s = .next t →
    s.dev.otp.rollback ≤ t.dev.otp.rollback ∧
    (∀ k, s.dev.otp.imageRevoked.testBit k = true → t.dev.otp.imageRevoked.testBit k = true) ∧
    (s.dev.otp.provRevoked = true → t.dev.otp.provRevoked = true) ∧
    t.dev.otp = { s.dev.otp with
      rollback := t.dev.otp.rollback, imageRevoked := t.dev.otp.imageRevoked, provRevoked := t.dev.otp.provRevoked }

/-- The state after reset meets the invariants, and its queue is empty. -/
def Obligations.ResetMeetsTheInvariants : Prop :=
  WardenStands State.reset.dev ∧ RunsFit State.reset.dev ∧ State.reset.pending = []
end

