-- ==== Sys2Proof/Laws/Tables.lean ====
section
/-! SUPPORT. The laws of sparse tables: what a read gives after a write, and that writes keep the canonical form. -/
namespace Sys2Proof.Machine

variable {α : Type}

theorem tget_terase (t : Tab α) (d : α) (j k : Nat) :
    tget (terase t j) d k = if j = k then d else tget t d k := by
  induction t with
  | nil => simp [terase, tget]
  | cons x r ih =>
    obtain ⟨i, b⟩ := x
    by_cases hij : i = j
    · subst hij
      have : terase ((i, b) :: r) i = terase r i := by simp [terase]
      rw [this, ih]
      by_cases hk : i = k <;> simp [tget, hk]
    · have : terase ((i, b) :: r) j = (i, b) :: terase r j := by simp [terase, hij]
      rw [this]
      by_cases hk : i = k
      · subst hk
        simp [tget, Ne.symm hij]
      · simp [tget, hk, ih]

theorem tget_tins (t : Tab α) (d : α) (j k : Nat) (a : α)
    (hn : ∀ x ∈ t, x.1 ≠ j) : tget (tins t j a) d k = if j = k then a else tget t d k := by
  induction t with
  | nil => simp [tins, tget]
  | cons x r ih =>
    obtain ⟨i, b⟩ := x
    have hi : i ≠ j := hn (i, b) (by simp)
    have ih := ih (fun x hx => hn x (by simp [hx]))
    unfold tins
    split
    · simp [tget]
    · by_cases hk : i = k
      · subst hk
        simp [tget, Ne.symm hi]
      · simp [tget, hk, ih]

theorem terase_none (t : Tab α) (j : Nat) : ∀ x ∈ terase t j, x.1 ≠ j := by
  intro x hx
  simp [terase] at hx
  exact hx.2

/-- A read after a write gives the value written at its index, and every other index as before. -/
@[simp] theorem tget_tset [DecidableEq α] (t : Tab α) (d : α) (j k : Nat) (a : α) :
    tget (tset t d j a) d k = if j = k then a else tget t d k := by
  unfold tset
  split
  · next h => rw [tget_terase, h]
  · rw [tget_tins _ _ _ _ _ (terase_none t j), tget_terase]
    by_cases hk : j = k <;> simp [hk]

/-- A modified index gives the modified value, and every other index is as before. -/
@[simp] theorem tget_tmod [DecidableEq α] (t : Tab α) (d : α) (j k : Nat) (f : α → α) :
    tget (tmod t d j f) d k = if j = k then f (tget t d j) else tget t d k := by
  simp [tmod]

@[simp] theorem tget_nil (d : α) (k : Nat) : tget ([] : Tab α) d k = d := rfl

theorem twfFrom_mono [DecidableEq α] (d : α) {lo lo' : Nat} {t : Tab α} (h : lo' ≤ lo) (w : twfFrom d lo t = true) :
    twfFrom d lo' t = true := by
  cases t with
  | nil => rfl
  | cons x r =>
    obtain ⟨j, a⟩ := x
    simp_all [twfFrom]
    omega

theorem twfFrom_terase [DecidableEq α] (d : α) (lo k : Nat) (t : Tab α) (w : twfFrom d lo t = true) :
    twfFrom d lo (terase t k) = true := by
  induction t generalizing lo with
  | nil => simpa [terase] using w
  | cons x r ih =>
    obtain ⟨j, a⟩ := x
    simp [twfFrom] at w
    by_cases hj : j = k
    · have e : terase ((j, a) :: r) k = terase r k := by simp [terase, hj]
      rw [e]
      exact twfFrom_mono d (by omega) (ih (j + 1) w.2)
    · have e : terase ((j, a) :: r) k = (j, a) :: terase r k := by simp [terase, hj]
      rw [e]
      simp [twfFrom, w.1, ih (j + 1) w.2]

theorem twfFrom_tins [DecidableEq α] (d : α) (lo k : Nat) (a : α) (t : Tab α) (hk : lo ≤ k) (ha : a ≠ d)
    (hn : ∀ x ∈ t, x.1 ≠ k) (w : twfFrom d lo t = true) : twfFrom d lo (tins t k a) = true := by
  induction t generalizing lo with
  | nil => simp [tins, twfFrom, hk, ha]
  | cons x r ih =>
    obtain ⟨j, b⟩ := x
    have hj : j ≠ k := hn (j, b) (by simp)
    simp [twfFrom] at w
    unfold tins
    split
    · simp [twfFrom, hk, ha, w.1.2, w.2]
      omega
    · simp [twfFrom, w.1]
      exact ih (j + 1) (by omega) (fun x hx => hn x (by simp [hx])) w.2

/-- A write keeps the canonical form. -/
theorem twf_tset [DecidableEq α] (t : Tab α) (d : α) (k : Nat) (a : α) (w : twf d t = true) : twf d (tset t d k a) = true := by
  unfold tset twf at *
  split
  · exact twfFrom_terase d 0 k t w
  · next h => exact twfFrom_tins d 0 k a _ (by omega) h (terase_none t k) (twfFrom_terase d 0 k t w)

/-- A modification keeps the canonical form. -/
theorem twf_tmod [DecidableEq α] (t : Tab α) (d : α) (k : Nat) (f : α → α) (w : twf d t = true) :
    twf d (tmod t d k f) = true := twf_tset t d k _ w

/-- The empty table is in canonical form. -/
theorem twf_nil [DecidableEq α] (d : α) : twf d ([] : Tab α) = true := rfl

end Sys2Proof.Machine
end

