-- ==== Sys2Proof/Laws/Commands.lean ====
section
/-! SUPPORT. The laws of outstanding commands: who is on an engine, what a step of a command runs, and what a command that ends
leaves. -/
namespace Sys2Proof.Machine

@[simp] theorem ep_modEp (d : Dev) (e e' : Nat) (f : Endpoint → Endpoint) :
    (d.modEp e f).ep e' = if e = e' then f (d.ep e) else d.ep e' := by
  simp [Dev.ep, Dev.modEp]

theorem find?_map_names {c : CmdRef} {f : Cmd → Cmd} (hf : ∀ y, names c (f y) = names c y) (l : List Cmd) :
    (l.map (fun y => if names c y then f y else y)).find? (names c) = (l.find? (names c)).map f := by
  induction l with
  | nil => rfl
  | cons y t ih =>
    by_cases h : names c y <;> simp_all

/-- A change of the named command that keeps its ring and position. -/
theorem cmd?_modCmd (d : Dev) (c : CmdRef) (f : Cmd → Cmd) (hf : ∀ y, names c (f y) = names c y) :
    (d.modCmd c f).cmd? c = (d.cmd? c).map f := by
  simp [Dev.modCmd, Dev.cmd?, find?_map_names hf]

/-- A step of a command whose row it is runs the row's effect. -/
theorem step1_run {d : Dev} {c : CmdRef} {x : Cmd} {is : Cmd → Bool} {f : Dev → Cmd → Dev} (h : d.isRunning c x)
    (hi : is x = true) : d.step1 c is f = f d x := by
  obtain ⟨h1, h2, h3, -⟩ := h
  simp [Dev.step1, h1, h2, h3, hi]

/-- Whether a command is on an engine depends on the endpoints alone. -/
theorem isRunning_eps {d d' : Dev} {c : CmdRef} {x : Cmd} (hh : d'.hif.eps = d.hif.eps) (h : d.isRunning c x) :
    d'.isRunning c x := by
  simpa [Dev.isRunning, Dev.cmd?, Dev.ep, hh] using h

/-- Whether a command is on an engine depends on the host interface alone. -/
theorem isRunning_congr {d d' : Dev} {c : CmdRef} {x : Cmd} (hh : d'.hif = d.hif) (h : d.isRunning c x) : d'.isRunning c x := by
  simpa [Dev.isRunning, Dev.cmd?, Dev.ep, hh] using h

/-- A command that ends has its outcome and has left its engine. -/
theorem finish_ended {d : Dev} {c : CmdRef} {x : Cmd} {o : Done} (h : d.isRunning c x) : (d.finish c o).ended c x o := by
  obtain ⟨h1, h2, h3, h4⟩ := h
  unfold Dev.ended Dev.finish
  rw [cmd?_modCmd]
  · simp [h1, h3, h4]
  · intro y
    split <;> simp [names]

theorem ok_ended {d : Dev} {c : CmdRef} {x : Cmd} {r0 r1 detail : Nat} (h : d.isRunning c x) :
    (d.ok c r0 r1 detail).ended c x (okDone r0 r1 detail) := finish_ended h

theorem fail_ended {d : Dev} {c : CmdRef} {x : Cmd} {st detail : Nat} (h : d.isRunning c x) :
    (d.fail c st detail).ended c x (failDone st detail) := finish_ended h

theorem badOp_ended {d : Dev} {c : CmdRef} {x : Cmd} {off : Nat} (h : d.isRunning c x) :
    (d.badOp c off).ended c x (failDone stBadOperand off) := finish_ended h

theorem okBuf_ended {d : Dev} {c : CmdRef} {x : Cmd} {off r0 r1 detail : Nat} (h : d.isRunning c x) :
    (d.okBuf c false off r0 r1 detail).ended c x (okDone r0 r1 detail) := finish_ended h

/-- An ended command has its outcome. -/
theorem ended_outcome {d : Dev} {c : CmdRef} {x : Cmd} {o : Done} (h : d.ended c x o) : d.outcomeOf c = some o := by
  simp_all [Dev.ended, Dev.outcomeOf]

end Sys2Proof.Machine
end

