-- ==== Sys2Proof/Laws/Frames.lean ====
section
/-! SUPPORT. Frames of the shared operations: for each, once, the parts of the device that it leaves as they are. A law is
stated with an abbreviation that names the parts that MAY change; it is a conjunction of equations, so that simp rewrites with
it. Loops, choices and the steps of commands pass the frames of their bodies on. -/
namespace Sys2Proof.Machine

/-! ### What may change: every other part stands -/

abbrev ButHif (d d' : Dev) : Prop := d'.bal = d.bal ∧ d'.plc = d.plc ∧ d'.fcr = d.fcr ∧ d'.evr = d.evr ∧ d'.otp = d.otp ∧ d'.boot = d.boot ∧ d'.reg = d.reg ∧ d'.pipes = d.pipes ∧ d'.tmu = d.tmu ∧ d'.pte = d.pte ∧ d'.pse = d.pse ∧ d'.rle = d.rle ∧ d'.lrn = d.lrn ∧ d'.dp = d.dp ∧ d'.swc = d.swc ∧ d'.bpm = d.bpm ∧ d'.fcps = d.fcps ∧ d'.spw = d.spw ∧ d'.esc = d.esc ∧ d'.mrp = d.mrp ∧ d'.cvu = d.cvu ∧ d'.ctrs = d.ctrs ∧ d'.freeSeq = d.freeSeq ∧ d'.out = d.out
abbrev ButPlc (d d' : Dev) : Prop := d'.bal = d.bal ∧ d'.hif = d.hif ∧ d'.fcr = d.fcr ∧ d'.evr = d.evr ∧ d'.otp = d.otp ∧ d'.boot = d.boot ∧ d'.reg = d.reg ∧ d'.pipes = d.pipes ∧ d'.tmu = d.tmu ∧ d'.pte = d.pte ∧ d'.pse = d.pse ∧ d'.rle = d.rle ∧ d'.lrn = d.lrn ∧ d'.dp = d.dp ∧ d'.swc = d.swc ∧ d'.bpm = d.bpm ∧ d'.fcps = d.fcps ∧ d'.spw = d.spw ∧ d'.esc = d.esc ∧ d'.mrp = d.mrp ∧ d'.cvu = d.cvu ∧ d'.ctrs = d.ctrs ∧ d'.freeSeq = d.freeSeq ∧ d'.out = d.out
abbrev ButFcr (d d' : Dev) : Prop := d'.bal = d.bal ∧ d'.hif = d.hif ∧ d'.plc = d.plc ∧ d'.evr = d.evr ∧ d'.otp = d.otp ∧ d'.boot = d.boot ∧ d'.reg = d.reg ∧ d'.pipes = d.pipes ∧ d'.tmu = d.tmu ∧ d'.pte = d.pte ∧ d'.pse = d.pse ∧ d'.rle = d.rle ∧ d'.lrn = d.lrn ∧ d'.dp = d.dp ∧ d'.swc = d.swc ∧ d'.bpm = d.bpm ∧ d'.fcps = d.fcps ∧ d'.spw = d.spw ∧ d'.esc = d.esc ∧ d'.mrp = d.mrp ∧ d'.cvu = d.cvu ∧ d'.ctrs = d.ctrs ∧ d'.freeSeq = d.freeSeq ∧ d'.out = d.out
abbrev ButPipes (d d' : Dev) : Prop := d'.bal = d.bal ∧ d'.hif = d.hif ∧ d'.plc = d.plc ∧ d'.fcr = d.fcr ∧ d'.evr = d.evr ∧ d'.otp = d.otp ∧ d'.boot = d.boot ∧ d'.reg = d.reg ∧ d'.tmu = d.tmu ∧ d'.pte = d.pte ∧ d'.pse = d.pse ∧ d'.rle = d.rle ∧ d'.lrn = d.lrn ∧ d'.dp = d.dp ∧ d'.swc = d.swc ∧ d'.bpm = d.bpm ∧ d'.fcps = d.fcps ∧ d'.spw = d.spw ∧ d'.esc = d.esc ∧ d'.mrp = d.mrp ∧ d'.cvu = d.cvu ∧ d'.ctrs = d.ctrs ∧ d'.freeSeq = d.freeSeq ∧ d'.out = d.out
abbrev ButBalTmu (d d' : Dev) : Prop := d'.hif = d.hif ∧ d'.plc = d.plc ∧ d'.fcr = d.fcr ∧ d'.evr = d.evr ∧ d'.otp = d.otp ∧ d'.boot = d.boot ∧ d'.reg = d.reg ∧ d'.pipes = d.pipes ∧ d'.pte = d.pte ∧ d'.pse = d.pse ∧ d'.rle = d.rle ∧ d'.lrn = d.lrn ∧ d'.dp = d.dp ∧ d'.swc = d.swc ∧ d'.bpm = d.bpm ∧ d'.fcps = d.fcps ∧ d'.spw = d.spw ∧ d'.esc = d.esc ∧ d'.mrp = d.mrp ∧ d'.cvu = d.cvu ∧ d'.ctrs = d.ctrs ∧ d'.freeSeq = d.freeSeq ∧ d'.out = d.out
abbrev ButCtrs (d d' : Dev) : Prop := d'.bal = d.bal ∧ d'.hif = d.hif ∧ d'.plc = d.plc ∧ d'.fcr = d.fcr ∧ d'.evr = d.evr ∧ d'.otp = d.otp ∧ d'.boot = d.boot ∧ d'.reg = d.reg ∧ d'.pipes = d.pipes ∧ d'.tmu = d.tmu ∧ d'.pte = d.pte ∧ d'.pse = d.pse ∧ d'.rle = d.rle ∧ d'.lrn = d.lrn ∧ d'.dp = d.dp ∧ d'.swc = d.swc ∧ d'.bpm = d.bpm ∧ d'.fcps = d.fcps ∧ d'.spw = d.spw ∧ d'.esc = d.esc ∧ d'.mrp = d.mrp ∧ d'.cvu = d.cvu ∧ d'.freeSeq = d.freeSeq ∧ d'.out = d.out
abbrev ButOut (d d' : Dev) : Prop := d'.bal = d.bal ∧ d'.hif = d.hif ∧ d'.plc = d.plc ∧ d'.fcr = d.fcr ∧ d'.evr = d.evr ∧ d'.otp = d.otp ∧ d'.boot = d.boot ∧ d'.reg = d.reg ∧ d'.pipes = d.pipes ∧ d'.tmu = d.tmu ∧ d'.pte = d.pte ∧ d'.pse = d.pse ∧ d'.rle = d.rle ∧ d'.lrn = d.lrn ∧ d'.dp = d.dp ∧ d'.swc = d.swc ∧ d'.bpm = d.bpm ∧ d'.fcps = d.fcps ∧ d'.spw = d.spw ∧ d'.esc = d.esc ∧ d'.mrp = d.mrp ∧ d'.cvu = d.cvu ∧ d'.ctrs = d.ctrs ∧ d'.freeSeq = d.freeSeq
abbrev ButFreeSeq (d d' : Dev) : Prop := d'.bal = d.bal ∧ d'.hif = d.hif ∧ d'.plc = d.plc ∧ d'.fcr = d.fcr ∧ d'.evr = d.evr ∧ d'.otp = d.otp ∧ d'.boot = d.boot ∧ d'.reg = d.reg ∧ d'.pipes = d.pipes ∧ d'.tmu = d.tmu ∧ d'.pte = d.pte ∧ d'.pse = d.pse ∧ d'.rle = d.rle ∧ d'.lrn = d.lrn ∧ d'.dp = d.dp ∧ d'.swc = d.swc ∧ d'.bpm = d.bpm ∧ d'.fcps = d.fcps ∧ d'.spw = d.spw ∧ d'.esc = d.esc ∧ d'.mrp = d.mrp ∧ d'.cvu = d.cvu ∧ d'.ctrs = d.ctrs ∧ d'.out = d.out
abbrev ButEvr (d d' : Dev) : Prop := d'.bal = d.bal ∧ d'.hif = d.hif ∧ d'.plc = d.plc ∧ d'.fcr = d.fcr ∧ d'.otp = d.otp ∧ d'.boot = d.boot ∧ d'.reg = d.reg ∧ d'.pipes = d.pipes ∧ d'.tmu = d.tmu ∧ d'.pte = d.pte ∧ d'.pse = d.pse ∧ d'.rle = d.rle ∧ d'.lrn = d.lrn ∧ d'.dp = d.dp ∧ d'.swc = d.swc ∧ d'.bpm = d.bpm ∧ d'.fcps = d.fcps ∧ d'.spw = d.spw ∧ d'.esc = d.esc ∧ d'.mrp = d.mrp ∧ d'.cvu = d.cvu ∧ d'.ctrs = d.ctrs ∧ d'.freeSeq = d.freeSeq ∧ d'.out = d.out
abbrev ButEvrCtrs (d d' : Dev) : Prop := d'.bal = d.bal ∧ d'.hif = d.hif ∧ d'.plc = d.plc ∧ d'.fcr = d.fcr ∧ d'.otp = d.otp ∧ d'.boot = d.boot ∧ d'.reg = d.reg ∧ d'.pipes = d.pipes ∧ d'.tmu = d.tmu ∧ d'.pte = d.pte ∧ d'.pse = d.pse ∧ d'.rle = d.rle ∧ d'.lrn = d.lrn ∧ d'.dp = d.dp ∧ d'.swc = d.swc ∧ d'.bpm = d.bpm ∧ d'.fcps = d.fcps ∧ d'.spw = d.spw ∧ d'.esc = d.esc ∧ d'.mrp = d.mrp ∧ d'.cvu = d.cvu ∧ d'.freeSeq = d.freeSeq ∧ d'.out = d.out
abbrev ButFcrEvrCtrs (d d' : Dev) : Prop := d'.bal = d.bal ∧ d'.hif = d.hif ∧ d'.plc = d.plc ∧ d'.otp = d.otp ∧ d'.boot = d.boot ∧ d'.reg = d.reg ∧ d'.pipes = d.pipes ∧ d'.tmu = d.tmu ∧ d'.pte = d.pte ∧ d'.pse = d.pse ∧ d'.rle = d.rle ∧ d'.lrn = d.lrn ∧ d'.dp = d.dp ∧ d'.swc = d.swc ∧ d'.bpm = d.bpm ∧ d'.fcps = d.fcps ∧ d'.spw = d.spw ∧ d'.esc = d.esc ∧ d'.mrp = d.mrp ∧ d'.cvu = d.cvu ∧ d'.freeSeq = d.freeSeq ∧ d'.out = d.out
abbrev ButBpm (d d' : Dev) : Prop := d'.bal = d.bal ∧ d'.hif = d.hif ∧ d'.plc = d.plc ∧ d'.fcr = d.fcr ∧ d'.evr = d.evr ∧ d'.otp = d.otp ∧ d'.boot = d.boot ∧ d'.reg = d.reg ∧ d'.pipes = d.pipes ∧ d'.tmu = d.tmu ∧ d'.pte = d.pte ∧ d'.pse = d.pse ∧ d'.rle = d.rle ∧ d'.lrn = d.lrn ∧ d'.dp = d.dp ∧ d'.swc = d.swc ∧ d'.fcps = d.fcps ∧ d'.spw = d.spw ∧ d'.esc = d.esc ∧ d'.mrp = d.mrp ∧ d'.cvu = d.cvu ∧ d'.ctrs = d.ctrs ∧ d'.freeSeq = d.freeSeq ∧ d'.out = d.out
abbrev ButBpmCtrs (d d' : Dev) : Prop := d'.bal = d.bal ∧ d'.hif = d.hif ∧ d'.plc = d.plc ∧ d'.fcr = d.fcr ∧ d'.evr = d.evr ∧ d'.otp = d.otp ∧ d'.boot = d.boot ∧ d'.reg = d.reg ∧ d'.pipes = d.pipes ∧ d'.tmu = d.tmu ∧ d'.pte = d.pte ∧ d'.pse = d.pse ∧ d'.rle = d.rle ∧ d'.lrn = d.lrn ∧ d'.dp = d.dp ∧ d'.swc = d.swc ∧ d'.fcps = d.fcps ∧ d'.spw = d.spw ∧ d'.esc = d.esc ∧ d'.mrp = d.mrp ∧ d'.cvu = d.cvu ∧ d'.freeSeq = d.freeSeq ∧ d'.out = d.out
abbrev ButFcrBpmCtrs (d d' : Dev) : Prop := d'.bal = d.bal ∧ d'.hif = d.hif ∧ d'.plc = d.plc ∧ d'.evr = d.evr ∧ d'.otp = d.otp ∧ d'.boot = d.boot ∧ d'.reg = d.reg ∧ d'.pipes = d.pipes ∧ d'.tmu = d.tmu ∧ d'.pte = d.pte ∧ d'.pse = d.pse ∧ d'.rle = d.rle ∧ d'.lrn = d.lrn ∧ d'.dp = d.dp ∧ d'.swc = d.swc ∧ d'.fcps = d.fcps ∧ d'.spw = d.spw ∧ d'.esc = d.esc ∧ d'.mrp = d.mrp ∧ d'.cvu = d.cvu ∧ d'.freeSeq = d.freeSeq ∧ d'.out = d.out
abbrev ButFcrEvrBpmCtrs (d d' : Dev) : Prop := d'.bal = d.bal ∧ d'.hif = d.hif ∧ d'.plc = d.plc ∧ d'.otp = d.otp ∧ d'.boot = d.boot ∧ d'.reg = d.reg ∧ d'.pipes = d.pipes ∧ d'.tmu = d.tmu ∧ d'.pte = d.pte ∧ d'.pse = d.pse ∧ d'.rle = d.rle ∧ d'.lrn = d.lrn ∧ d'.dp = d.dp ∧ d'.swc = d.swc ∧ d'.fcps = d.fcps ∧ d'.spw = d.spw ∧ d'.esc = d.esc ∧ d'.mrp = d.mrp ∧ d'.cvu = d.cvu ∧ d'.freeSeq = d.freeSeq ∧ d'.out = d.out
abbrev ButFcrBpm (d d' : Dev) : Prop := d'.bal = d.bal ∧ d'.hif = d.hif ∧ d'.plc = d.plc ∧ d'.evr = d.evr ∧ d'.otp = d.otp ∧ d'.boot = d.boot ∧ d'.reg = d.reg ∧ d'.pipes = d.pipes ∧ d'.tmu = d.tmu ∧ d'.pte = d.pte ∧ d'.pse = d.pse ∧ d'.rle = d.rle ∧ d'.lrn = d.lrn ∧ d'.dp = d.dp ∧ d'.swc = d.swc ∧ d'.fcps = d.fcps ∧ d'.spw = d.spw ∧ d'.esc = d.esc ∧ d'.mrp = d.mrp ∧ d'.cvu = d.cvu ∧ d'.ctrs = d.ctrs ∧ d'.freeSeq = d.freeSeq ∧ d'.out = d.out
abbrev ButHifOut (d d' : Dev) : Prop := d'.bal = d.bal ∧ d'.plc = d.plc ∧ d'.fcr = d.fcr ∧ d'.evr = d.evr ∧ d'.otp = d.otp ∧ d'.boot = d.boot ∧ d'.reg = d.reg ∧ d'.pipes = d.pipes ∧ d'.tmu = d.tmu ∧ d'.pte = d.pte ∧ d'.pse = d.pse ∧ d'.rle = d.rle ∧ d'.lrn = d.lrn ∧ d'.dp = d.dp ∧ d'.swc = d.swc ∧ d'.bpm = d.bpm ∧ d'.fcps = d.fcps ∧ d'.spw = d.spw ∧ d'.esc = d.esc ∧ d'.mrp = d.mrp ∧ d'.cvu = d.cvu ∧ d'.ctrs = d.ctrs ∧ d'.freeSeq = d.freeSeq
abbrev ButHifFcr (d d' : Dev) : Prop := d'.bal = d.bal ∧ d'.plc = d.plc ∧ d'.evr = d.evr ∧ d'.otp = d.otp ∧ d'.boot = d.boot ∧ d'.reg = d.reg ∧ d'.pipes = d.pipes ∧ d'.tmu = d.tmu ∧ d'.pte = d.pte ∧ d'.pse = d.pse ∧ d'.rle = d.rle ∧ d'.lrn = d.lrn ∧ d'.dp = d.dp ∧ d'.swc = d.swc ∧ d'.bpm = d.bpm ∧ d'.fcps = d.fcps ∧ d'.spw = d.spw ∧ d'.esc = d.esc ∧ d'.mrp = d.mrp ∧ d'.cvu = d.cvu ∧ d'.ctrs = d.ctrs ∧ d'.freeSeq = d.freeSeq ∧ d'.out = d.out
abbrev ButHifFcrEvrCtrs (d d' : Dev) : Prop := d'.bal = d.bal ∧ d'.plc = d.plc ∧ d'.otp = d.otp ∧ d'.boot = d.boot ∧ d'.reg = d.reg ∧ d'.pipes = d.pipes ∧ d'.tmu = d.tmu ∧ d'.pte = d.pte ∧ d'.pse = d.pse ∧ d'.rle = d.rle ∧ d'.lrn = d.lrn ∧ d'.dp = d.dp ∧ d'.swc = d.swc ∧ d'.bpm = d.bpm ∧ d'.fcps = d.fcps ∧ d'.spw = d.spw ∧ d'.esc = d.esc ∧ d'.mrp = d.mrp ∧ d'.cvu = d.cvu ∧ d'.freeSeq = d.freeSeq ∧ d'.out = d.out
abbrev ButPte (d d' : Dev) : Prop := d'.bal = d.bal ∧ d'.hif = d.hif ∧ d'.plc = d.plc ∧ d'.fcr = d.fcr ∧ d'.evr = d.evr ∧ d'.otp = d.otp ∧ d'.boot = d.boot ∧ d'.reg = d.reg ∧ d'.pipes = d.pipes ∧ d'.tmu = d.tmu ∧ d'.pse = d.pse ∧ d'.rle = d.rle ∧ d'.lrn = d.lrn ∧ d'.dp = d.dp ∧ d'.swc = d.swc ∧ d'.bpm = d.bpm ∧ d'.fcps = d.fcps ∧ d'.spw = d.spw ∧ d'.esc = d.esc ∧ d'.mrp = d.mrp ∧ d'.cvu = d.cvu ∧ d'.ctrs = d.ctrs ∧ d'.freeSeq = d.freeSeq ∧ d'.out = d.out
abbrev ButFcps (d d' : Dev) : Prop := d'.bal = d.bal ∧ d'.hif = d.hif ∧ d'.plc = d.plc ∧ d'.fcr = d.fcr ∧ d'.evr = d.evr ∧ d'.otp = d.otp ∧ d'.boot = d.boot ∧ d'.reg = d.reg ∧ d'.pipes = d.pipes ∧ d'.tmu = d.tmu ∧ d'.pte = d.pte ∧ d'.pse = d.pse ∧ d'.rle = d.rle ∧ d'.lrn = d.lrn ∧ d'.dp = d.dp ∧ d'.swc = d.swc ∧ d'.bpm = d.bpm ∧ d'.spw = d.spw ∧ d'.esc = d.esc ∧ d'.mrp = d.mrp ∧ d'.cvu = d.cvu ∧ d'.ctrs = d.ctrs ∧ d'.freeSeq = d.freeSeq ∧ d'.out = d.out
abbrev ButDp (d d' : Dev) : Prop := d'.bal = d.bal ∧ d'.hif = d.hif ∧ d'.plc = d.plc ∧ d'.fcr = d.fcr ∧ d'.evr = d.evr ∧ d'.otp = d.otp ∧ d'.boot = d.boot ∧ d'.reg = d.reg ∧ d'.pipes = d.pipes ∧ d'.tmu = d.tmu ∧ d'.pte = d.pte ∧ d'.pse = d.pse ∧ d'.rle = d.rle ∧ d'.lrn = d.lrn ∧ d'.swc = d.swc ∧ d'.bpm = d.bpm ∧ d'.fcps = d.fcps ∧ d'.spw = d.spw ∧ d'.esc = d.esc ∧ d'.mrp = d.mrp ∧ d'.cvu = d.cvu ∧ d'.ctrs = d.ctrs ∧ d'.freeSeq = d.freeSeq ∧ d'.out = d.out
abbrev ButMrp (d d' : Dev) : Prop := d'.bal = d.bal ∧ d'.hif = d.hif ∧ d'.plc = d.plc ∧ d'.fcr = d.fcr ∧ d'.evr = d.evr ∧ d'.otp = d.otp ∧ d'.boot = d.boot ∧ d'.reg = d.reg ∧ d'.pipes = d.pipes ∧ d'.tmu = d.tmu ∧ d'.pte = d.pte ∧ d'.pse = d.pse ∧ d'.rle = d.rle ∧ d'.lrn = d.lrn ∧ d'.dp = d.dp ∧ d'.swc = d.swc ∧ d'.bpm = d.bpm ∧ d'.fcps = d.fcps ∧ d'.spw = d.spw ∧ d'.esc = d.esc ∧ d'.cvu = d.cvu ∧ d'.ctrs = d.ctrs ∧ d'.freeSeq = d.freeSeq ∧ d'.out = d.out
abbrev ButHifDpFreeSeqOut (d d' : Dev) : Prop := d'.bal = d.bal ∧ d'.plc = d.plc ∧ d'.fcr = d.fcr ∧ d'.evr = d.evr ∧ d'.otp = d.otp ∧ d'.boot = d.boot ∧ d'.reg = d.reg ∧ d'.pipes = d.pipes ∧ d'.tmu = d.tmu ∧ d'.pte = d.pte ∧ d'.pse = d.pse ∧ d'.rle = d.rle ∧ d'.lrn = d.lrn ∧ d'.swc = d.swc ∧ d'.bpm = d.bpm ∧ d'.fcps = d.fcps ∧ d'.spw = d.spw ∧ d'.esc = d.esc ∧ d'.mrp = d.mrp ∧ d'.cvu = d.cvu ∧ d'.ctrs = d.ctrs
abbrev ButFcrSwc (d d' : Dev) : Prop := d'.bal = d.bal ∧ d'.hif = d.hif ∧ d'.plc = d.plc ∧ d'.evr = d.evr ∧ d'.otp = d.otp ∧ d'.boot = d.boot ∧ d'.reg = d.reg ∧ d'.pipes = d.pipes ∧ d'.tmu = d.tmu ∧ d'.pte = d.pte ∧ d'.pse = d.pse ∧ d'.rle = d.rle ∧ d'.lrn = d.lrn ∧ d'.dp = d.dp ∧ d'.bpm = d.bpm ∧ d'.fcps = d.fcps ∧ d'.spw = d.spw ∧ d'.esc = d.esc ∧ d'.mrp = d.mrp ∧ d'.cvu = d.cvu ∧ d'.ctrs = d.ctrs ∧ d'.freeSeq = d.freeSeq ∧ d'.out = d.out
abbrev ButHifFcrEvrPipesDpSwcBpmCtrsFreeSeqOut (d d' : Dev) : Prop := d'.bal = d.bal ∧ d'.plc = d.plc ∧ d'.otp = d.otp ∧ d'.boot = d.boot ∧ d'.reg = d.reg ∧ d'.tmu = d.tmu ∧ d'.pte = d.pte ∧ d'.pse = d.pse ∧ d'.rle = d.rle ∧ d'.lrn = d.lrn ∧ d'.fcps = d.fcps ∧ d'.spw = d.spw ∧ d'.esc = d.esc ∧ d'.mrp = d.mrp ∧ d'.cvu = d.cvu
abbrev ButHifFcrEvrPipesDpSwcBpmMrpCtrsFreeSeqOut (d d' : Dev) : Prop := d'.bal = d.bal ∧ d'.plc = d.plc ∧ d'.otp = d.otp ∧ d'.boot = d.boot ∧ d'.reg = d.reg ∧ d'.tmu = d.tmu ∧ d'.pte = d.pte ∧ d'.pse = d.pse ∧ d'.rle = d.rle ∧ d'.lrn = d.lrn ∧ d'.fcps = d.fcps ∧ d'.spw = d.spw ∧ d'.esc = d.esc ∧ d'.cvu = d.cvu
abbrev ButDpSpw (d d' : Dev) : Prop := d'.bal = d.bal ∧ d'.hif = d.hif ∧ d'.plc = d.plc ∧ d'.fcr = d.fcr ∧ d'.evr = d.evr ∧ d'.otp = d.otp ∧ d'.boot = d.boot ∧ d'.reg = d.reg ∧ d'.pipes = d.pipes ∧ d'.tmu = d.tmu ∧ d'.pte = d.pte ∧ d'.pse = d.pse ∧ d'.rle = d.rle ∧ d'.lrn = d.lrn ∧ d'.swc = d.swc ∧ d'.bpm = d.bpm ∧ d'.fcps = d.fcps ∧ d'.esc = d.esc ∧ d'.mrp = d.mrp ∧ d'.cvu = d.cvu ∧ d'.ctrs = d.ctrs ∧ d'.freeSeq = d.freeSeq ∧ d'.out = d.out
abbrev ButFcrPteCtrs (d d' : Dev) : Prop := d'.bal = d.bal ∧ d'.hif = d.hif ∧ d'.plc = d.plc ∧ d'.evr = d.evr ∧ d'.otp = d.otp ∧ d'.boot = d.boot ∧ d'.reg = d.reg ∧ d'.pipes = d.pipes ∧ d'.tmu = d.tmu ∧ d'.pse = d.pse ∧ d'.rle = d.rle ∧ d'.lrn = d.lrn ∧ d'.dp = d.dp ∧ d'.swc = d.swc ∧ d'.bpm = d.bpm ∧ d'.fcps = d.fcps ∧ d'.spw = d.spw ∧ d'.esc = d.esc ∧ d'.mrp = d.mrp ∧ d'.cvu = d.cvu ∧ d'.freeSeq = d.freeSeq ∧ d'.out = d.out
abbrev ButHifFcrEvrPipesDpSwcBpmSpwMrpCtrsFreeSeqOut (d d' : Dev) : Prop := d'.bal = d.bal ∧ d'.plc = d.plc ∧ d'.otp = d.otp ∧ d'.boot = d.boot ∧ d'.reg = d.reg ∧ d'.tmu = d.tmu ∧ d'.pte = d.pte ∧ d'.pse = d.pse ∧ d'.rle = d.rle ∧ d'.lrn = d.lrn ∧ d'.fcps = d.fcps ∧ d'.esc = d.esc ∧ d'.cvu = d.cvu
abbrev ButHifFcrEvrPipesPteDpSwcBpmSpwMrpCtrsFreeSeqOut (d d' : Dev) : Prop := d'.bal = d.bal ∧ d'.plc = d.plc ∧ d'.otp = d.otp ∧ d'.boot = d.boot ∧ d'.reg = d.reg ∧ d'.tmu = d.tmu ∧ d'.pse = d.pse ∧ d'.rle = d.rle ∧ d'.lrn = d.lrn ∧ d'.fcps = d.fcps ∧ d'.esc = d.esc ∧ d'.cvu = d.cvu
abbrev ButRle (d d' : Dev) : Prop := d'.bal = d.bal ∧ d'.hif = d.hif ∧ d'.plc = d.plc ∧ d'.fcr = d.fcr ∧ d'.evr = d.evr ∧ d'.otp = d.otp ∧ d'.boot = d.boot ∧ d'.reg = d.reg ∧ d'.pipes = d.pipes ∧ d'.tmu = d.tmu ∧ d'.pte = d.pte ∧ d'.pse = d.pse ∧ d'.lrn = d.lrn ∧ d'.dp = d.dp ∧ d'.swc = d.swc ∧ d'.bpm = d.bpm ∧ d'.fcps = d.fcps ∧ d'.spw = d.spw ∧ d'.esc = d.esc ∧ d'.mrp = d.mrp ∧ d'.cvu = d.cvu ∧ d'.ctrs = d.ctrs ∧ d'.freeSeq = d.freeSeq ∧ d'.out = d.out
abbrev ButLrn (d d' : Dev) : Prop := d'.bal = d.bal ∧ d'.hif = d.hif ∧ d'.plc = d.plc ∧ d'.fcr = d.fcr ∧ d'.evr = d.evr ∧ d'.otp = d.otp ∧ d'.boot = d.boot ∧ d'.reg = d.reg ∧ d'.pipes = d.pipes ∧ d'.tmu = d.tmu ∧ d'.pte = d.pte ∧ d'.pse = d.pse ∧ d'.rle = d.rle ∧ d'.dp = d.dp ∧ d'.swc = d.swc ∧ d'.bpm = d.bpm ∧ d'.fcps = d.fcps ∧ d'.spw = d.spw ∧ d'.esc = d.esc ∧ d'.mrp = d.mrp ∧ d'.cvu = d.cvu ∧ d'.ctrs = d.ctrs ∧ d'.freeSeq = d.freeSeq ∧ d'.out = d.out
abbrev ButFcrCtrs (d d' : Dev) : Prop := d'.bal = d.bal ∧ d'.hif = d.hif ∧ d'.plc = d.plc ∧ d'.evr = d.evr ∧ d'.otp = d.otp ∧ d'.boot = d.boot ∧ d'.reg = d.reg ∧ d'.pipes = d.pipes ∧ d'.tmu = d.tmu ∧ d'.pte = d.pte ∧ d'.pse = d.pse ∧ d'.rle = d.rle ∧ d'.lrn = d.lrn ∧ d'.dp = d.dp ∧ d'.swc = d.swc ∧ d'.bpm = d.bpm ∧ d'.fcps = d.fcps ∧ d'.spw = d.spw ∧ d'.esc = d.esc ∧ d'.mrp = d.mrp ∧ d'.cvu = d.cvu ∧ d'.freeSeq = d.freeSeq ∧ d'.out = d.out
abbrev ButMrpCtrs (d d' : Dev) : Prop := d'.bal = d.bal ∧ d'.hif = d.hif ∧ d'.plc = d.plc ∧ d'.fcr = d.fcr ∧ d'.evr = d.evr ∧ d'.otp = d.otp ∧ d'.boot = d.boot ∧ d'.reg = d.reg ∧ d'.pipes = d.pipes ∧ d'.tmu = d.tmu ∧ d'.pte = d.pte ∧ d'.pse = d.pse ∧ d'.rle = d.rle ∧ d'.lrn = d.lrn ∧ d'.dp = d.dp ∧ d'.swc = d.swc ∧ d'.bpm = d.bpm ∧ d'.fcps = d.fcps ∧ d'.spw = d.spw ∧ d'.esc = d.esc ∧ d'.cvu = d.cvu ∧ d'.freeSeq = d.freeSeq ∧ d'.out = d.out
abbrev ButFcrFcps (d d' : Dev) : Prop := d'.bal = d.bal ∧ d'.hif = d.hif ∧ d'.plc = d.plc ∧ d'.evr = d.evr ∧ d'.otp = d.otp ∧ d'.boot = d.boot ∧ d'.reg = d.reg ∧ d'.pipes = d.pipes ∧ d'.tmu = d.tmu ∧ d'.pte = d.pte ∧ d'.pse = d.pse ∧ d'.rle = d.rle ∧ d'.lrn = d.lrn ∧ d'.dp = d.dp ∧ d'.swc = d.swc ∧ d'.bpm = d.bpm ∧ d'.spw = d.spw ∧ d'.esc = d.esc ∧ d'.mrp = d.mrp ∧ d'.cvu = d.cvu ∧ d'.ctrs = d.ctrs ∧ d'.freeSeq = d.freeSeq ∧ d'.out = d.out
abbrev ButFcpsCtrsOut (d d' : Dev) : Prop := d'.bal = d.bal ∧ d'.hif = d.hif ∧ d'.plc = d.plc ∧ d'.fcr = d.fcr ∧ d'.evr = d.evr ∧ d'.otp = d.otp ∧ d'.boot = d.boot ∧ d'.reg = d.reg ∧ d'.pipes = d.pipes ∧ d'.tmu = d.tmu ∧ d'.pte = d.pte ∧ d'.pse = d.pse ∧ d'.rle = d.rle ∧ d'.lrn = d.lrn ∧ d'.dp = d.dp ∧ d'.swc = d.swc ∧ d'.bpm = d.bpm ∧ d'.spw = d.spw ∧ d'.esc = d.esc ∧ d'.mrp = d.mrp ∧ d'.cvu = d.cvu ∧ d'.freeSeq = d.freeSeq
abbrev ButEsc (d d' : Dev) : Prop := d'.bal = d.bal ∧ d'.hif = d.hif ∧ d'.plc = d.plc ∧ d'.fcr = d.fcr ∧ d'.evr = d.evr ∧ d'.otp = d.otp ∧ d'.boot = d.boot ∧ d'.reg = d.reg ∧ d'.pipes = d.pipes ∧ d'.tmu = d.tmu ∧ d'.pte = d.pte ∧ d'.pse = d.pse ∧ d'.rle = d.rle ∧ d'.lrn = d.lrn ∧ d'.dp = d.dp ∧ d'.swc = d.swc ∧ d'.bpm = d.bpm ∧ d'.fcps = d.fcps ∧ d'.spw = d.spw ∧ d'.mrp = d.mrp ∧ d'.cvu = d.cvu ∧ d'.ctrs = d.ctrs ∧ d'.freeSeq = d.freeSeq ∧ d'.out = d.out
abbrev ButEscCtrs (d d' : Dev) : Prop := d'.bal = d.bal ∧ d'.hif = d.hif ∧ d'.plc = d.plc ∧ d'.fcr = d.fcr ∧ d'.evr = d.evr ∧ d'.otp = d.otp ∧ d'.boot = d.boot ∧ d'.reg = d.reg ∧ d'.pipes = d.pipes ∧ d'.tmu = d.tmu ∧ d'.pte = d.pte ∧ d'.pse = d.pse ∧ d'.rle = d.rle ∧ d'.lrn = d.lrn ∧ d'.dp = d.dp ∧ d'.swc = d.swc ∧ d'.bpm = d.bpm ∧ d'.fcps = d.fcps ∧ d'.spw = d.spw ∧ d'.mrp = d.mrp ∧ d'.cvu = d.cvu ∧ d'.freeSeq = d.freeSeq ∧ d'.out = d.out
abbrev ButFcrEsc (d d' : Dev) : Prop := d'.bal = d.bal ∧ d'.hif = d.hif ∧ d'.plc = d.plc ∧ d'.evr = d.evr ∧ d'.otp = d.otp ∧ d'.boot = d.boot ∧ d'.reg = d.reg ∧ d'.pipes = d.pipes ∧ d'.tmu = d.tmu ∧ d'.pte = d.pte ∧ d'.pse = d.pse ∧ d'.rle = d.rle ∧ d'.lrn = d.lrn ∧ d'.dp = d.dp ∧ d'.swc = d.swc ∧ d'.bpm = d.bpm ∧ d'.fcps = d.fcps ∧ d'.spw = d.spw ∧ d'.mrp = d.mrp ∧ d'.cvu = d.cvu ∧ d'.ctrs = d.ctrs ∧ d'.freeSeq = d.freeSeq ∧ d'.out = d.out
abbrev ButEvrEscCtrs (d d' : Dev) : Prop := d'.bal = d.bal ∧ d'.hif = d.hif ∧ d'.plc = d.plc ∧ d'.fcr = d.fcr ∧ d'.otp = d.otp ∧ d'.boot = d.boot ∧ d'.reg = d.reg ∧ d'.pipes = d.pipes ∧ d'.tmu = d.tmu ∧ d'.pte = d.pte ∧ d'.pse = d.pse ∧ d'.rle = d.rle ∧ d'.lrn = d.lrn ∧ d'.dp = d.dp ∧ d'.swc = d.swc ∧ d'.bpm = d.bpm ∧ d'.fcps = d.fcps ∧ d'.spw = d.spw ∧ d'.mrp = d.mrp ∧ d'.cvu = d.cvu ∧ d'.freeSeq = d.freeSeq ∧ d'.out = d.out
abbrev ButFcrEvrEscCtrs (d d' : Dev) : Prop := d'.bal = d.bal ∧ d'.hif = d.hif ∧ d'.plc = d.plc ∧ d'.otp = d.otp ∧ d'.boot = d.boot ∧ d'.reg = d.reg ∧ d'.pipes = d.pipes ∧ d'.tmu = d.tmu ∧ d'.pte = d.pte ∧ d'.pse = d.pse ∧ d'.rle = d.rle ∧ d'.lrn = d.lrn ∧ d'.dp = d.dp ∧ d'.swc = d.swc ∧ d'.bpm = d.bpm ∧ d'.fcps = d.fcps ∧ d'.spw = d.spw ∧ d'.mrp = d.mrp ∧ d'.cvu = d.cvu ∧ d'.freeSeq = d.freeSeq ∧ d'.out = d.out
abbrev ButFcrEvrRleLrnCtrs (d d' : Dev) : Prop := d'.bal = d.bal ∧ d'.hif = d.hif ∧ d'.plc = d.plc ∧ d'.otp = d.otp ∧ d'.boot = d.boot ∧ d'.reg = d.reg ∧ d'.pipes = d.pipes ∧ d'.tmu = d.tmu ∧ d'.pte = d.pte ∧ d'.pse = d.pse ∧ d'.dp = d.dp ∧ d'.swc = d.swc ∧ d'.bpm = d.bpm ∧ d'.fcps = d.fcps ∧ d'.spw = d.spw ∧ d'.esc = d.esc ∧ d'.mrp = d.mrp ∧ d'.cvu = d.cvu ∧ d'.freeSeq = d.freeSeq ∧ d'.out = d.out
abbrev ButLrnCtrs (d d' : Dev) : Prop := d'.bal = d.bal ∧ d'.hif = d.hif ∧ d'.plc = d.plc ∧ d'.fcr = d.fcr ∧ d'.evr = d.evr ∧ d'.otp = d.otp ∧ d'.boot = d.boot ∧ d'.reg = d.reg ∧ d'.pipes = d.pipes ∧ d'.tmu = d.tmu ∧ d'.pte = d.pte ∧ d'.pse = d.pse ∧ d'.rle = d.rle ∧ d'.dp = d.dp ∧ d'.swc = d.swc ∧ d'.bpm = d.bpm ∧ d'.fcps = d.fcps ∧ d'.spw = d.spw ∧ d'.esc = d.esc ∧ d'.mrp = d.mrp ∧ d'.cvu = d.cvu ∧ d'.freeSeq = d.freeSeq ∧ d'.out = d.out
abbrev ButFcrEvrLrnMrpCtrs (d d' : Dev) : Prop := d'.bal = d.bal ∧ d'.hif = d.hif ∧ d'.plc = d.plc ∧ d'.otp = d.otp ∧ d'.boot = d.boot ∧ d'.reg = d.reg ∧ d'.pipes = d.pipes ∧ d'.tmu = d.tmu ∧ d'.pte = d.pte ∧ d'.pse = d.pse ∧ d'.rle = d.rle ∧ d'.dp = d.dp ∧ d'.swc = d.swc ∧ d'.bpm = d.bpm ∧ d'.fcps = d.fcps ∧ d'.spw = d.spw ∧ d'.esc = d.esc ∧ d'.cvu = d.cvu ∧ d'.freeSeq = d.freeSeq ∧ d'.out = d.out
abbrev ButFcrEvrPipesFcpsCtrs (d d' : Dev) : Prop := d'.bal = d.bal ∧ d'.hif = d.hif ∧ d'.plc = d.plc ∧ d'.otp = d.otp ∧ d'.boot = d.boot ∧ d'.reg = d.reg ∧ d'.tmu = d.tmu ∧ d'.pte = d.pte ∧ d'.pse = d.pse ∧ d'.rle = d.rle ∧ d'.lrn = d.lrn ∧ d'.dp = d.dp ∧ d'.swc = d.swc ∧ d'.bpm = d.bpm ∧ d'.spw = d.spw ∧ d'.esc = d.esc ∧ d'.mrp = d.mrp ∧ d'.cvu = d.cvu ∧ d'.freeSeq = d.freeSeq ∧ d'.out = d.out
abbrev ButFcrEvrSpwCtrs (d d' : Dev) : Prop := d'.bal = d.bal ∧ d'.hif = d.hif ∧ d'.plc = d.plc ∧ d'.otp = d.otp ∧ d'.boot = d.boot ∧ d'.reg = d.reg ∧ d'.pipes = d.pipes ∧ d'.tmu = d.tmu ∧ d'.pte = d.pte ∧ d'.pse = d.pse ∧ d'.rle = d.rle ∧ d'.lrn = d.lrn ∧ d'.dp = d.dp ∧ d'.swc = d.swc ∧ d'.bpm = d.bpm ∧ d'.fcps = d.fcps ∧ d'.esc = d.esc ∧ d'.mrp = d.mrp ∧ d'.cvu = d.cvu ∧ d'.freeSeq = d.freeSeq ∧ d'.out = d.out
abbrev ButFcrEvrDpSpwCtrs (d d' : Dev) : Prop := d'.bal = d.bal ∧ d'.hif = d.hif ∧ d'.plc = d.plc ∧ d'.otp = d.otp ∧ d'.boot = d.boot ∧ d'.reg = d.reg ∧ d'.pipes = d.pipes ∧ d'.tmu = d.tmu ∧ d'.pte = d.pte ∧ d'.pse = d.pse ∧ d'.rle = d.rle ∧ d'.lrn = d.lrn ∧ d'.swc = d.swc ∧ d'.bpm = d.bpm ∧ d'.fcps = d.fcps ∧ d'.esc = d.esc ∧ d'.mrp = d.mrp ∧ d'.cvu = d.cvu ∧ d'.freeSeq = d.freeSeq ∧ d'.out = d.out
abbrev ButDpCtrs (d d' : Dev) : Prop := d'.bal = d.bal ∧ d'.hif = d.hif ∧ d'.plc = d.plc ∧ d'.fcr = d.fcr ∧ d'.evr = d.evr ∧ d'.otp = d.otp ∧ d'.boot = d.boot ∧ d'.reg = d.reg ∧ d'.pipes = d.pipes ∧ d'.tmu = d.tmu ∧ d'.pte = d.pte ∧ d'.pse = d.pse ∧ d'.rle = d.rle ∧ d'.lrn = d.lrn ∧ d'.swc = d.swc ∧ d'.bpm = d.bpm ∧ d'.fcps = d.fcps ∧ d'.spw = d.spw ∧ d'.esc = d.esc ∧ d'.mrp = d.mrp ∧ d'.cvu = d.cvu ∧ d'.freeSeq = d.freeSeq ∧ d'.out = d.out
abbrev ButFcrEvrFcpsCtrs (d d' : Dev) : Prop := d'.bal = d.bal ∧ d'.hif = d.hif ∧ d'.plc = d.plc ∧ d'.otp = d.otp ∧ d'.boot = d.boot ∧ d'.reg = d.reg ∧ d'.pipes = d.pipes ∧ d'.tmu = d.tmu ∧ d'.pte = d.pte ∧ d'.pse = d.pse ∧ d'.rle = d.rle ∧ d'.lrn = d.lrn ∧ d'.dp = d.dp ∧ d'.swc = d.swc ∧ d'.bpm = d.bpm ∧ d'.spw = d.spw ∧ d'.esc = d.esc ∧ d'.mrp = d.mrp ∧ d'.cvu = d.cvu ∧ d'.freeSeq = d.freeSeq ∧ d'.out = d.out
abbrev ButPipesDpEsc (d d' : Dev) : Prop := d'.bal = d.bal ∧ d'.hif = d.hif ∧ d'.plc = d.plc ∧ d'.fcr = d.fcr ∧ d'.evr = d.evr ∧ d'.otp = d.otp ∧ d'.boot = d.boot ∧ d'.reg = d.reg ∧ d'.tmu = d.tmu ∧ d'.pte = d.pte ∧ d'.pse = d.pse ∧ d'.rle = d.rle ∧ d'.lrn = d.lrn ∧ d'.swc = d.swc ∧ d'.bpm = d.bpm ∧ d'.fcps = d.fcps ∧ d'.spw = d.spw ∧ d'.mrp = d.mrp ∧ d'.cvu = d.cvu ∧ d'.ctrs = d.ctrs ∧ d'.freeSeq = d.freeSeq ∧ d'.out = d.out
abbrev ButFcrMrpCtrs (d d' : Dev) : Prop := d'.bal = d.bal ∧ d'.hif = d.hif ∧ d'.plc = d.plc ∧ d'.evr = d.evr ∧ d'.otp = d.otp ∧ d'.boot = d.boot ∧ d'.reg = d.reg ∧ d'.pipes = d.pipes ∧ d'.tmu = d.tmu ∧ d'.pte = d.pte ∧ d'.pse = d.pse ∧ d'.rle = d.rle ∧ d'.lrn = d.lrn ∧ d'.dp = d.dp ∧ d'.swc = d.swc ∧ d'.bpm = d.bpm ∧ d'.fcps = d.fcps ∧ d'.spw = d.spw ∧ d'.esc = d.esc ∧ d'.cvu = d.cvu ∧ d'.freeSeq = d.freeSeq ∧ d'.out = d.out
abbrev ButSpw (d d' : Dev) : Prop := d'.bal = d.bal ∧ d'.hif = d.hif ∧ d'.plc = d.plc ∧ d'.fcr = d.fcr ∧ d'.evr = d.evr ∧ d'.otp = d.otp ∧ d'.boot = d.boot ∧ d'.reg = d.reg ∧ d'.pipes = d.pipes ∧ d'.tmu = d.tmu ∧ d'.pte = d.pte ∧ d'.pse = d.pse ∧ d'.rle = d.rle ∧ d'.lrn = d.lrn ∧ d'.dp = d.dp ∧ d'.swc = d.swc ∧ d'.bpm = d.bpm ∧ d'.fcps = d.fcps ∧ d'.esc = d.esc ∧ d'.mrp = d.mrp ∧ d'.cvu = d.cvu ∧ d'.ctrs = d.ctrs ∧ d'.freeSeq = d.freeSeq ∧ d'.out = d.out
abbrev ButFcrPipesDpSwcSpwEscCtrs (d d' : Dev) : Prop := d'.bal = d.bal ∧ d'.hif = d.hif ∧ d'.plc = d.plc ∧ d'.evr = d.evr ∧ d'.otp = d.otp ∧ d'.boot = d.boot ∧ d'.reg = d.reg ∧ d'.tmu = d.tmu ∧ d'.pte = d.pte ∧ d'.pse = d.pse ∧ d'.rle = d.rle ∧ d'.lrn = d.lrn ∧ d'.bpm = d.bpm ∧ d'.fcps = d.fcps ∧ d'.mrp = d.mrp ∧ d'.cvu = d.cvu ∧ d'.freeSeq = d.freeSeq ∧ d'.out = d.out
abbrev ButHifDpMrpFreeSeqOut (d d' : Dev) : Prop := d'.bal = d.bal ∧ d'.plc = d.plc ∧ d'.fcr = d.fcr ∧ d'.evr = d.evr ∧ d'.otp = d.otp ∧ d'.boot = d.boot ∧ d'.reg = d.reg ∧ d'.pipes = d.pipes ∧ d'.tmu = d.tmu ∧ d'.pte = d.pte ∧ d'.pse = d.pse ∧ d'.rle = d.rle ∧ d'.lrn = d.lrn ∧ d'.swc = d.swc ∧ d'.bpm = d.bpm ∧ d'.fcps = d.fcps ∧ d'.spw = d.spw ∧ d'.esc = d.esc ∧ d'.cvu = d.cvu ∧ d'.ctrs = d.ctrs
abbrev ButHifFcrEvrPipesDpSwcBpmFcpsSpwEscMrpCtrsFreeSeqOut (d d' : Dev) : Prop := d'.bal = d.bal ∧ d'.plc = d.plc ∧ d'.otp = d.otp ∧ d'.boot = d.boot ∧ d'.reg = d.reg ∧ d'.tmu = d.tmu ∧ d'.pte = d.pte ∧ d'.pse = d.pse ∧ d'.rle = d.rle ∧ d'.lrn = d.lrn ∧ d'.cvu = d.cvu
abbrev ButFcrRleDpCtrs (d d' : Dev) : Prop := d'.bal = d.bal ∧ d'.hif = d.hif ∧ d'.plc = d.plc ∧ d'.evr = d.evr ∧ d'.otp = d.otp ∧ d'.boot = d.boot ∧ d'.reg = d.reg ∧ d'.pipes = d.pipes ∧ d'.tmu = d.tmu ∧ d'.pte = d.pte ∧ d'.pse = d.pse ∧ d'.lrn = d.lrn ∧ d'.swc = d.swc ∧ d'.bpm = d.bpm ∧ d'.fcps = d.fcps ∧ d'.spw = d.spw ∧ d'.esc = d.esc ∧ d'.mrp = d.mrp ∧ d'.cvu = d.cvu ∧ d'.freeSeq = d.freeSeq ∧ d'.out = d.out
abbrev ButHifFcrEvrPipesRleLrnDpFcpsMrpCtrsFreeSeqOut (d d' : Dev) : Prop := d'.bal = d.bal ∧ d'.plc = d.plc ∧ d'.otp = d.otp ∧ d'.boot = d.boot ∧ d'.reg = d.reg ∧ d'.tmu = d.tmu ∧ d'.pte = d.pte ∧ d'.pse = d.pse ∧ d'.swc = d.swc ∧ d'.bpm = d.bpm ∧ d'.spw = d.spw ∧ d'.esc = d.esc ∧ d'.cvu = d.cvu
abbrev ButHifFcrEvrPipesPteRleLrnDpFcpsMrpCtrsFreeSeqOut (d d' : Dev) : Prop := d'.bal = d.bal ∧ d'.plc = d.plc ∧ d'.otp = d.otp ∧ d'.boot = d.boot ∧ d'.reg = d.reg ∧ d'.tmu = d.tmu ∧ d'.pse = d.pse ∧ d'.swc = d.swc ∧ d'.bpm = d.bpm ∧ d'.spw = d.spw ∧ d'.esc = d.esc ∧ d'.cvu = d.cvu
abbrev ButFcrPteCtrsOut (d d' : Dev) : Prop := d'.bal = d.bal ∧ d'.hif = d.hif ∧ d'.plc = d.plc ∧ d'.evr = d.evr ∧ d'.otp = d.otp ∧ d'.boot = d.boot ∧ d'.reg = d.reg ∧ d'.pipes = d.pipes ∧ d'.tmu = d.tmu ∧ d'.pse = d.pse ∧ d'.rle = d.rle ∧ d'.lrn = d.lrn ∧ d'.dp = d.dp ∧ d'.swc = d.swc ∧ d'.bpm = d.bpm ∧ d'.fcps = d.fcps ∧ d'.spw = d.spw ∧ d'.esc = d.esc ∧ d'.mrp = d.mrp ∧ d'.cvu = d.cvu ∧ d'.freeSeq = d.freeSeq
abbrev ButFcrLrnCtrs (d d' : Dev) : Prop := d'.bal = d.bal ∧ d'.hif = d.hif ∧ d'.plc = d.plc ∧ d'.evr = d.evr ∧ d'.otp = d.otp ∧ d'.boot = d.boot ∧ d'.reg = d.reg ∧ d'.pipes = d.pipes ∧ d'.tmu = d.tmu ∧ d'.pte = d.pte ∧ d'.pse = d.pse ∧ d'.rle = d.rle ∧ d'.dp = d.dp ∧ d'.swc = d.swc ∧ d'.bpm = d.bpm ∧ d'.fcps = d.fcps ∧ d'.spw = d.spw ∧ d'.esc = d.esc ∧ d'.mrp = d.mrp ∧ d'.cvu = d.cvu ∧ d'.freeSeq = d.freeSeq ∧ d'.out = d.out
abbrev ButHifCtrsOut (d d' : Dev) : Prop := d'.bal = d.bal ∧ d'.plc = d.plc ∧ d'.fcr = d.fcr ∧ d'.evr = d.evr ∧ d'.otp = d.otp ∧ d'.boot = d.boot ∧ d'.reg = d.reg ∧ d'.pipes = d.pipes ∧ d'.tmu = d.tmu ∧ d'.pte = d.pte ∧ d'.pse = d.pse ∧ d'.rle = d.rle ∧ d'.lrn = d.lrn ∧ d'.dp = d.dp ∧ d'.swc = d.swc ∧ d'.bpm = d.bpm ∧ d'.fcps = d.fcps ∧ d'.spw = d.spw ∧ d'.esc = d.esc ∧ d'.mrp = d.mrp ∧ d'.cvu = d.cvu ∧ d'.freeSeq = d.freeSeq
abbrev ButHifFcrEvrCtrsOut (d d' : Dev) : Prop := d'.bal = d.bal ∧ d'.plc = d.plc ∧ d'.otp = d.otp ∧ d'.boot = d.boot ∧ d'.reg = d.reg ∧ d'.pipes = d.pipes ∧ d'.tmu = d.tmu ∧ d'.pte = d.pte ∧ d'.pse = d.pse ∧ d'.rle = d.rle ∧ d'.lrn = d.lrn ∧ d'.dp = d.dp ∧ d'.swc = d.swc ∧ d'.bpm = d.bpm ∧ d'.fcps = d.fcps ∧ d'.spw = d.spw ∧ d'.esc = d.esc ∧ d'.mrp = d.mrp ∧ d'.cvu = d.cvu ∧ d'.freeSeq = d.freeSeq
abbrev ButSwc (d d' : Dev) : Prop := d'.bal = d.bal ∧ d'.hif = d.hif ∧ d'.plc = d.plc ∧ d'.fcr = d.fcr ∧ d'.evr = d.evr ∧ d'.otp = d.otp ∧ d'.boot = d.boot ∧ d'.reg = d.reg ∧ d'.pipes = d.pipes ∧ d'.tmu = d.tmu ∧ d'.pte = d.pte ∧ d'.pse = d.pse ∧ d'.rle = d.rle ∧ d'.lrn = d.lrn ∧ d'.dp = d.dp ∧ d'.bpm = d.bpm ∧ d'.fcps = d.fcps ∧ d'.spw = d.spw ∧ d'.esc = d.esc ∧ d'.mrp = d.mrp ∧ d'.cvu = d.cvu ∧ d'.ctrs = d.ctrs ∧ d'.freeSeq = d.freeSeq ∧ d'.out = d.out
abbrev ButFcrEvrDpBpmCtrs (d d' : Dev) : Prop := d'.bal = d.bal ∧ d'.hif = d.hif ∧ d'.plc = d.plc ∧ d'.otp = d.otp ∧ d'.boot = d.boot ∧ d'.reg = d.reg ∧ d'.pipes = d.pipes ∧ d'.tmu = d.tmu ∧ d'.pte = d.pte ∧ d'.pse = d.pse ∧ d'.rle = d.rle ∧ d'.lrn = d.lrn ∧ d'.swc = d.swc ∧ d'.fcps = d.fcps ∧ d'.spw = d.spw ∧ d'.esc = d.esc ∧ d'.mrp = d.mrp ∧ d'.cvu = d.cvu ∧ d'.freeSeq = d.freeSeq ∧ d'.out = d.out
abbrev ButHifFcrEvrPipesDpSwcBpmFcpsSpwMrpCtrsFreeSeqOut (d d' : Dev) : Prop := d'.bal = d.bal ∧ d'.plc = d.plc ∧ d'.otp = d.otp ∧ d'.boot = d.boot ∧ d'.reg = d.reg ∧ d'.tmu = d.tmu ∧ d'.pte = d.pte ∧ d'.pse = d.pse ∧ d'.rle = d.rle ∧ d'.lrn = d.lrn ∧ d'.esc = d.esc ∧ d'.cvu = d.cvu
abbrev ButSwcCtrs (d d' : Dev) : Prop := d'.bal = d.bal ∧ d'.hif = d.hif ∧ d'.plc = d.plc ∧ d'.fcr = d.fcr ∧ d'.evr = d.evr ∧ d'.otp = d.otp ∧ d'.boot = d.boot ∧ d'.reg = d.reg ∧ d'.pipes = d.pipes ∧ d'.tmu = d.tmu ∧ d'.pte = d.pte ∧ d'.pse = d.pse ∧ d'.rle = d.rle ∧ d'.lrn = d.lrn ∧ d'.dp = d.dp ∧ d'.bpm = d.bpm ∧ d'.fcps = d.fcps ∧ d'.spw = d.spw ∧ d'.esc = d.esc ∧ d'.mrp = d.mrp ∧ d'.cvu = d.cvu ∧ d'.freeSeq = d.freeSeq ∧ d'.out = d.out
abbrev ButHifFcrEvrPipesRleLrnDpSwcBpmFcpsMrpCtrsFreeSeqOut (d d' : Dev) : Prop := d'.bal = d.bal ∧ d'.plc = d.plc ∧ d'.otp = d.otp ∧ d'.boot = d.boot ∧ d'.reg = d.reg ∧ d'.tmu = d.tmu ∧ d'.pte = d.pte ∧ d'.pse = d.pse ∧ d'.spw = d.spw ∧ d'.esc = d.esc ∧ d'.cvu = d.cvu
abbrev ButHifFcrEvrPipesDpSwcBpmEscMrpCtrsFreeSeqOut (d d' : Dev) : Prop := d'.bal = d.bal ∧ d'.plc = d.plc ∧ d'.otp = d.otp ∧ d'.boot = d.boot ∧ d'.reg = d.reg ∧ d'.tmu = d.tmu ∧ d'.pte = d.pte ∧ d'.pse = d.pse ∧ d'.rle = d.rle ∧ d'.lrn = d.lrn ∧ d'.fcps = d.fcps ∧ d'.spw = d.spw ∧ d'.cvu = d.cvu
abbrev ButHifFcrEvrPipesRleLrnDpSwcBpmFcpsEscMrpCtrsFreeSeqOut (d d' : Dev) : Prop := d'.bal = d.bal ∧ d'.plc = d.plc ∧ d'.otp = d.otp ∧ d'.boot = d.boot ∧ d'.reg = d.reg ∧ d'.tmu = d.tmu ∧ d'.pte = d.pte ∧ d'.pse = d.pse ∧ d'.spw = d.spw ∧ d'.cvu = d.cvu
abbrev ButPipesDpEscCtrs (d d' : Dev) : Prop := d'.bal = d.bal ∧ d'.hif = d.hif ∧ d'.plc = d.plc ∧ d'.fcr = d.fcr ∧ d'.evr = d.evr ∧ d'.otp = d.otp ∧ d'.boot = d.boot ∧ d'.reg = d.reg ∧ d'.tmu = d.tmu ∧ d'.pte = d.pte ∧ d'.pse = d.pse ∧ d'.rle = d.rle ∧ d'.lrn = d.lrn ∧ d'.swc = d.swc ∧ d'.bpm = d.bpm ∧ d'.fcps = d.fcps ∧ d'.spw = d.spw ∧ d'.mrp = d.mrp ∧ d'.cvu = d.cvu ∧ d'.freeSeq = d.freeSeq ∧ d'.out = d.out
abbrev ButHifFcrEvrPipesRleLrnDpSwcBpmFcpsSpwEscMrpCtrsFreeSeqOut (d d' : Dev) : Prop := d'.bal = d.bal ∧ d'.plc = d.plc ∧ d'.otp = d.otp ∧ d'.boot = d.boot ∧ d'.reg = d.reg ∧ d'.tmu = d.tmu ∧ d'.pte = d.pte ∧ d'.pse = d.pse ∧ d'.cvu = d.cvu
abbrev ButDpEscCtrs (d d' : Dev) : Prop := d'.bal = d.bal ∧ d'.hif = d.hif ∧ d'.plc = d.plc ∧ d'.fcr = d.fcr ∧ d'.evr = d.evr ∧ d'.otp = d.otp ∧ d'.boot = d.boot ∧ d'.reg = d.reg ∧ d'.pipes = d.pipes ∧ d'.tmu = d.tmu ∧ d'.pte = d.pte ∧ d'.pse = d.pse ∧ d'.rle = d.rle ∧ d'.lrn = d.lrn ∧ d'.swc = d.swc ∧ d'.bpm = d.bpm ∧ d'.fcps = d.fcps ∧ d'.spw = d.spw ∧ d'.mrp = d.mrp ∧ d'.cvu = d.cvu ∧ d'.freeSeq = d.freeSeq ∧ d'.out = d.out
abbrev ButHifFcrEvrPipesPteDpSwcBpmEscMrpCtrsFreeSeqOut (d d' : Dev) : Prop := d'.bal = d.bal ∧ d'.plc = d.plc ∧ d'.otp = d.otp ∧ d'.boot = d.boot ∧ d'.reg = d.reg ∧ d'.tmu = d.tmu ∧ d'.pse = d.pse ∧ d'.rle = d.rle ∧ d'.lrn = d.lrn ∧ d'.fcps = d.fcps ∧ d'.spw = d.spw ∧ d'.cvu = d.cvu
abbrev ButEvrRleCtrs (d d' : Dev) : Prop := d'.bal = d.bal ∧ d'.hif = d.hif ∧ d'.plc = d.plc ∧ d'.fcr = d.fcr ∧ d'.otp = d.otp ∧ d'.boot = d.boot ∧ d'.reg = d.reg ∧ d'.pipes = d.pipes ∧ d'.tmu = d.tmu ∧ d'.pte = d.pte ∧ d'.pse = d.pse ∧ d'.lrn = d.lrn ∧ d'.dp = d.dp ∧ d'.swc = d.swc ∧ d'.bpm = d.bpm ∧ d'.fcps = d.fcps ∧ d'.spw = d.spw ∧ d'.esc = d.esc ∧ d'.mrp = d.mrp ∧ d'.cvu = d.cvu ∧ d'.freeSeq = d.freeSeq ∧ d'.out = d.out
abbrev ButFcrEvrLrnCtrs (d d' : Dev) : Prop := d'.bal = d.bal ∧ d'.hif = d.hif ∧ d'.plc = d.plc ∧ d'.otp = d.otp ∧ d'.boot = d.boot ∧ d'.reg = d.reg ∧ d'.pipes = d.pipes ∧ d'.tmu = d.tmu ∧ d'.pte = d.pte ∧ d'.pse = d.pse ∧ d'.rle = d.rle ∧ d'.dp = d.dp ∧ d'.swc = d.swc ∧ d'.bpm = d.bpm ∧ d'.fcps = d.fcps ∧ d'.spw = d.spw ∧ d'.esc = d.esc ∧ d'.mrp = d.mrp ∧ d'.cvu = d.cvu ∧ d'.freeSeq = d.freeSeq ∧ d'.out = d.out
abbrev ButEvrLrnCtrs (d d' : Dev) : Prop := d'.bal = d.bal ∧ d'.hif = d.hif ∧ d'.plc = d.plc ∧ d'.fcr = d.fcr ∧ d'.otp = d.otp ∧ d'.boot = d.boot ∧ d'.reg = d.reg ∧ d'.pipes = d.pipes ∧ d'.tmu = d.tmu ∧ d'.pte = d.pte ∧ d'.pse = d.pse ∧ d'.rle = d.rle ∧ d'.dp = d.dp ∧ d'.swc = d.swc ∧ d'.bpm = d.bpm ∧ d'.fcps = d.fcps ∧ d'.spw = d.spw ∧ d'.esc = d.esc ∧ d'.mrp = d.mrp ∧ d'.cvu = d.cvu ∧ d'.freeSeq = d.freeSeq ∧ d'.out = d.out
abbrev ButFcrLrn (d d' : Dev) : Prop := d'.bal = d.bal ∧ d'.hif = d.hif ∧ d'.plc = d.plc ∧ d'.evr = d.evr ∧ d'.otp = d.otp ∧ d'.boot = d.boot ∧ d'.reg = d.reg ∧ d'.pipes = d.pipes ∧ d'.tmu = d.tmu ∧ d'.pte = d.pte ∧ d'.pse = d.pse ∧ d'.rle = d.rle ∧ d'.dp = d.dp ∧ d'.swc = d.swc ∧ d'.bpm = d.bpm ∧ d'.fcps = d.fcps ∧ d'.spw = d.spw ∧ d'.esc = d.esc ∧ d'.mrp = d.mrp ∧ d'.cvu = d.cvu ∧ d'.ctrs = d.ctrs ∧ d'.freeSeq = d.freeSeq ∧ d'.out = d.out
abbrev ButHifLrn (d d' : Dev) : Prop := d'.bal = d.bal ∧ d'.plc = d.plc ∧ d'.fcr = d.fcr ∧ d'.evr = d.evr ∧ d'.otp = d.otp ∧ d'.boot = d.boot ∧ d'.reg = d.reg ∧ d'.pipes = d.pipes ∧ d'.tmu = d.tmu ∧ d'.pte = d.pte ∧ d'.pse = d.pse ∧ d'.rle = d.rle ∧ d'.dp = d.dp ∧ d'.swc = d.swc ∧ d'.bpm = d.bpm ∧ d'.fcps = d.fcps ∧ d'.spw = d.spw ∧ d'.esc = d.esc ∧ d'.mrp = d.mrp ∧ d'.cvu = d.cvu ∧ d'.ctrs = d.ctrs ∧ d'.freeSeq = d.freeSeq ∧ d'.out = d.out
abbrev ButPipesPse (d d' : Dev) : Prop := d'.bal = d.bal ∧ d'.hif = d.hif ∧ d'.plc = d.plc ∧ d'.fcr = d.fcr ∧ d'.evr = d.evr ∧ d'.otp = d.otp ∧ d'.boot = d.boot ∧ d'.reg = d.reg ∧ d'.tmu = d.tmu ∧ d'.pte = d.pte ∧ d'.rle = d.rle ∧ d'.lrn = d.lrn ∧ d'.dp = d.dp ∧ d'.swc = d.swc ∧ d'.bpm = d.bpm ∧ d'.fcps = d.fcps ∧ d'.spw = d.spw ∧ d'.esc = d.esc ∧ d'.mrp = d.mrp ∧ d'.cvu = d.cvu ∧ d'.ctrs = d.ctrs ∧ d'.freeSeq = d.freeSeq ∧ d'.out = d.out
abbrev ButPipesPseRle (d d' : Dev) : Prop := d'.bal = d.bal ∧ d'.hif = d.hif ∧ d'.plc = d.plc ∧ d'.fcr = d.fcr ∧ d'.evr = d.evr ∧ d'.otp = d.otp ∧ d'.boot = d.boot ∧ d'.reg = d.reg ∧ d'.tmu = d.tmu ∧ d'.pte = d.pte ∧ d'.lrn = d.lrn ∧ d'.dp = d.dp ∧ d'.swc = d.swc ∧ d'.bpm = d.bpm ∧ d'.fcps = d.fcps ∧ d'.spw = d.spw ∧ d'.esc = d.esc ∧ d'.mrp = d.mrp ∧ d'.cvu = d.cvu ∧ d'.ctrs = d.ctrs ∧ d'.freeSeq = d.freeSeq ∧ d'.out = d.out
abbrev ButFcrPipesPseRleLrn (d d' : Dev) : Prop := d'.bal = d.bal ∧ d'.hif = d.hif ∧ d'.plc = d.plc ∧ d'.evr = d.evr ∧ d'.otp = d.otp ∧ d'.boot = d.boot ∧ d'.reg = d.reg ∧ d'.tmu = d.tmu ∧ d'.pte = d.pte ∧ d'.dp = d.dp ∧ d'.swc = d.swc ∧ d'.bpm = d.bpm ∧ d'.fcps = d.fcps ∧ d'.spw = d.spw ∧ d'.esc = d.esc ∧ d'.mrp = d.mrp ∧ d'.cvu = d.cvu ∧ d'.ctrs = d.ctrs ∧ d'.freeSeq = d.freeSeq ∧ d'.out = d.out
abbrev ButFcrEvrDpBpmSpwCtrsFreeSeq (d d' : Dev) : Prop := d'.bal = d.bal ∧ d'.hif = d.hif ∧ d'.plc = d.plc ∧ d'.otp = d.otp ∧ d'.boot = d.boot ∧ d'.reg = d.reg ∧ d'.pipes = d.pipes ∧ d'.tmu = d.tmu ∧ d'.pte = d.pte ∧ d'.pse = d.pse ∧ d'.rle = d.rle ∧ d'.lrn = d.lrn ∧ d'.swc = d.swc ∧ d'.fcps = d.fcps ∧ d'.esc = d.esc ∧ d'.mrp = d.mrp ∧ d'.cvu = d.cvu ∧ d'.out = d.out
abbrev ButFcrEvrDpBpmSpwCtrs (d d' : Dev) : Prop := d'.bal = d.bal ∧ d'.hif = d.hif ∧ d'.plc = d.plc ∧ d'.otp = d.otp ∧ d'.boot = d.boot ∧ d'.reg = d.reg ∧ d'.pipes = d.pipes ∧ d'.tmu = d.tmu ∧ d'.pte = d.pte ∧ d'.pse = d.pse ∧ d'.rle = d.rle ∧ d'.lrn = d.lrn ∧ d'.swc = d.swc ∧ d'.fcps = d.fcps ∧ d'.esc = d.esc ∧ d'.mrp = d.mrp ∧ d'.cvu = d.cvu ∧ d'.freeSeq = d.freeSeq ∧ d'.out = d.out
abbrev ButDpMrpCtrs (d d' : Dev) : Prop := d'.bal = d.bal ∧ d'.hif = d.hif ∧ d'.plc = d.plc ∧ d'.fcr = d.fcr ∧ d'.evr = d.evr ∧ d'.otp = d.otp ∧ d'.boot = d.boot ∧ d'.reg = d.reg ∧ d'.pipes = d.pipes ∧ d'.tmu = d.tmu ∧ d'.pte = d.pte ∧ d'.pse = d.pse ∧ d'.rle = d.rle ∧ d'.lrn = d.lrn ∧ d'.swc = d.swc ∧ d'.bpm = d.bpm ∧ d'.fcps = d.fcps ∧ d'.spw = d.spw ∧ d'.esc = d.esc ∧ d'.cvu = d.cvu ∧ d'.freeSeq = d.freeSeq ∧ d'.out = d.out
abbrev ButFcrEvrDpSwcBpmSpwCtrs (d d' : Dev) : Prop := d'.bal = d.bal ∧ d'.hif = d.hif ∧ d'.plc = d.plc ∧ d'.otp = d.otp ∧ d'.boot = d.boot ∧ d'.reg = d.reg ∧ d'.pipes = d.pipes ∧ d'.tmu = d.tmu ∧ d'.pte = d.pte ∧ d'.pse = d.pse ∧ d'.rle = d.rle ∧ d'.lrn = d.lrn ∧ d'.fcps = d.fcps ∧ d'.esc = d.esc ∧ d'.mrp = d.mrp ∧ d'.cvu = d.cvu ∧ d'.freeSeq = d.freeSeq ∧ d'.out = d.out
abbrev ButHifFcrCtrsOut (d d' : Dev) : Prop := d'.bal = d.bal ∧ d'.plc = d.plc ∧ d'.evr = d.evr ∧ d'.otp = d.otp ∧ d'.boot = d.boot ∧ d'.reg = d.reg ∧ d'.pipes = d.pipes ∧ d'.tmu = d.tmu ∧ d'.pte = d.pte ∧ d'.pse = d.pse ∧ d'.rle = d.rle ∧ d'.lrn = d.lrn ∧ d'.dp = d.dp ∧ d'.swc = d.swc ∧ d'.bpm = d.bpm ∧ d'.fcps = d.fcps ∧ d'.spw = d.spw ∧ d'.esc = d.esc ∧ d'.mrp = d.mrp ∧ d'.cvu = d.cvu ∧ d'.freeSeq = d.freeSeq
abbrev ButHifFcrEscCtrsOut (d d' : Dev) : Prop := d'.bal = d.bal ∧ d'.plc = d.plc ∧ d'.evr = d.evr ∧ d'.otp = d.otp ∧ d'.boot = d.boot ∧ d'.reg = d.reg ∧ d'.pipes = d.pipes ∧ d'.tmu = d.tmu ∧ d'.pte = d.pte ∧ d'.pse = d.pse ∧ d'.rle = d.rle ∧ d'.lrn = d.lrn ∧ d'.dp = d.dp ∧ d'.swc = d.swc ∧ d'.bpm = d.bpm ∧ d'.fcps = d.fcps ∧ d'.spw = d.spw ∧ d'.mrp = d.mrp ∧ d'.cvu = d.cvu ∧ d'.freeSeq = d.freeSeq
abbrev ButFcrMrp (d d' : Dev) : Prop := d'.bal = d.bal ∧ d'.hif = d.hif ∧ d'.plc = d.plc ∧ d'.evr = d.evr ∧ d'.otp = d.otp ∧ d'.boot = d.boot ∧ d'.reg = d.reg ∧ d'.pipes = d.pipes ∧ d'.tmu = d.tmu ∧ d'.pte = d.pte ∧ d'.pse = d.pse ∧ d'.rle = d.rle ∧ d'.lrn = d.lrn ∧ d'.dp = d.dp ∧ d'.swc = d.swc ∧ d'.bpm = d.bpm ∧ d'.fcps = d.fcps ∧ d'.spw = d.spw ∧ d'.esc = d.esc ∧ d'.cvu = d.cvu ∧ d'.ctrs = d.ctrs ∧ d'.freeSeq = d.freeSeq ∧ d'.out = d.out
abbrev ButFcrEvrMrpCtrs (d d' : Dev) : Prop := d'.bal = d.bal ∧ d'.hif = d.hif ∧ d'.plc = d.plc ∧ d'.otp = d.otp ∧ d'.boot = d.boot ∧ d'.reg = d.reg ∧ d'.pipes = d.pipes ∧ d'.tmu = d.tmu ∧ d'.pte = d.pte ∧ d'.pse = d.pse ∧ d'.rle = d.rle ∧ d'.lrn = d.lrn ∧ d'.dp = d.dp ∧ d'.swc = d.swc ∧ d'.bpm = d.bpm ∧ d'.fcps = d.fcps ∧ d'.spw = d.spw ∧ d'.esc = d.esc ∧ d'.cvu = d.cvu ∧ d'.freeSeq = d.freeSeq ∧ d'.out = d.out
abbrev ButHifMrpCtrsOut (d d' : Dev) : Prop := d'.bal = d.bal ∧ d'.plc = d.plc ∧ d'.fcr = d.fcr ∧ d'.evr = d.evr ∧ d'.otp = d.otp ∧ d'.boot = d.boot ∧ d'.reg = d.reg ∧ d'.pipes = d.pipes ∧ d'.tmu = d.tmu ∧ d'.pte = d.pte ∧ d'.pse = d.pse ∧ d'.rle = d.rle ∧ d'.lrn = d.lrn ∧ d'.dp = d.dp ∧ d'.swc = d.swc ∧ d'.bpm = d.bpm ∧ d'.fcps = d.fcps ∧ d'.spw = d.spw ∧ d'.esc = d.esc ∧ d'.cvu = d.cvu ∧ d'.freeSeq = d.freeSeq
abbrev ButHifMrp (d d' : Dev) : Prop := d'.bal = d.bal ∧ d'.plc = d.plc ∧ d'.fcr = d.fcr ∧ d'.evr = d.evr ∧ d'.otp = d.otp ∧ d'.boot = d.boot ∧ d'.reg = d.reg ∧ d'.pipes = d.pipes ∧ d'.tmu = d.tmu ∧ d'.pte = d.pte ∧ d'.pse = d.pse ∧ d'.rle = d.rle ∧ d'.lrn = d.lrn ∧ d'.dp = d.dp ∧ d'.swc = d.swc ∧ d'.bpm = d.bpm ∧ d'.fcps = d.fcps ∧ d'.spw = d.spw ∧ d'.esc = d.esc ∧ d'.cvu = d.cvu ∧ d'.ctrs = d.ctrs ∧ d'.freeSeq = d.freeSeq ∧ d'.out = d.out
abbrev ButHifFcrEvrMrpCtrsOut (d d' : Dev) : Prop := d'.bal = d.bal ∧ d'.plc = d.plc ∧ d'.otp = d.otp ∧ d'.boot = d.boot ∧ d'.reg = d.reg ∧ d'.pipes = d.pipes ∧ d'.tmu = d.tmu ∧ d'.pte = d.pte ∧ d'.pse = d.pse ∧ d'.rle = d.rle ∧ d'.lrn = d.lrn ∧ d'.dp = d.dp ∧ d'.swc = d.swc ∧ d'.bpm = d.bpm ∧ d'.fcps = d.fcps ∧ d'.spw = d.spw ∧ d'.esc = d.esc ∧ d'.cvu = d.cvu ∧ d'.freeSeq = d.freeSeq
abbrev ButHifFcrEvrTmuEscMrpCtrsOut (d d' : Dev) : Prop := d'.bal = d.bal ∧ d'.plc = d.plc ∧ d'.otp = d.otp ∧ d'.boot = d.boot ∧ d'.reg = d.reg ∧ d'.pipes = d.pipes ∧ d'.pte = d.pte ∧ d'.pse = d.pse ∧ d'.rle = d.rle ∧ d'.lrn = d.lrn ∧ d'.dp = d.dp ∧ d'.swc = d.swc ∧ d'.bpm = d.bpm ∧ d'.fcps = d.fcps ∧ d'.spw = d.spw ∧ d'.cvu = d.cvu ∧ d'.freeSeq = d.freeSeq
abbrev ButFcrTmu (d d' : Dev) : Prop := d'.bal = d.bal ∧ d'.hif = d.hif ∧ d'.plc = d.plc ∧ d'.evr = d.evr ∧ d'.otp = d.otp ∧ d'.boot = d.boot ∧ d'.reg = d.reg ∧ d'.pipes = d.pipes ∧ d'.pte = d.pte ∧ d'.pse = d.pse ∧ d'.rle = d.rle ∧ d'.lrn = d.lrn ∧ d'.dp = d.dp ∧ d'.swc = d.swc ∧ d'.bpm = d.bpm ∧ d'.fcps = d.fcps ∧ d'.spw = d.spw ∧ d'.esc = d.esc ∧ d'.mrp = d.mrp ∧ d'.cvu = d.cvu ∧ d'.ctrs = d.ctrs ∧ d'.freeSeq = d.freeSeq ∧ d'.out = d.out
abbrev ButCvu (d d' : Dev) : Prop := d'.bal = d.bal ∧ d'.hif = d.hif ∧ d'.plc = d.plc ∧ d'.fcr = d.fcr ∧ d'.evr = d.evr ∧ d'.otp = d.otp ∧ d'.boot = d.boot ∧ d'.reg = d.reg ∧ d'.pipes = d.pipes ∧ d'.tmu = d.tmu ∧ d'.pte = d.pte ∧ d'.pse = d.pse ∧ d'.rle = d.rle ∧ d'.lrn = d.lrn ∧ d'.dp = d.dp ∧ d'.swc = d.swc ∧ d'.bpm = d.bpm ∧ d'.fcps = d.fcps ∧ d'.spw = d.spw ∧ d'.esc = d.esc ∧ d'.mrp = d.mrp ∧ d'.ctrs = d.ctrs ∧ d'.freeSeq = d.freeSeq ∧ d'.out = d.out
abbrev ButCvuCtrs (d d' : Dev) : Prop := d'.bal = d.bal ∧ d'.hif = d.hif ∧ d'.plc = d.plc ∧ d'.fcr = d.fcr ∧ d'.evr = d.evr ∧ d'.otp = d.otp ∧ d'.boot = d.boot ∧ d'.reg = d.reg ∧ d'.pipes = d.pipes ∧ d'.tmu = d.tmu ∧ d'.pte = d.pte ∧ d'.pse = d.pse ∧ d'.rle = d.rle ∧ d'.lrn = d.lrn ∧ d'.dp = d.dp ∧ d'.swc = d.swc ∧ d'.bpm = d.bpm ∧ d'.fcps = d.fcps ∧ d'.spw = d.spw ∧ d'.esc = d.esc ∧ d'.mrp = d.mrp ∧ d'.freeSeq = d.freeSeq ∧ d'.out = d.out
abbrev ButFcrCvuCtrs (d d' : Dev) : Prop := d'.bal = d.bal ∧ d'.hif = d.hif ∧ d'.plc = d.plc ∧ d'.evr = d.evr ∧ d'.otp = d.otp ∧ d'.boot = d.boot ∧ d'.reg = d.reg ∧ d'.pipes = d.pipes ∧ d'.tmu = d.tmu ∧ d'.pte = d.pte ∧ d'.pse = d.pse ∧ d'.rle = d.rle ∧ d'.lrn = d.lrn ∧ d'.dp = d.dp ∧ d'.swc = d.swc ∧ d'.bpm = d.bpm ∧ d'.fcps = d.fcps ∧ d'.spw = d.spw ∧ d'.esc = d.esc ∧ d'.mrp = d.mrp ∧ d'.freeSeq = d.freeSeq ∧ d'.out = d.out
abbrev ButHifFcrCvuCtrs (d d' : Dev) : Prop := d'.bal = d.bal ∧ d'.plc = d.plc ∧ d'.evr = d.evr ∧ d'.otp = d.otp ∧ d'.boot = d.boot ∧ d'.reg = d.reg ∧ d'.pipes = d.pipes ∧ d'.tmu = d.tmu ∧ d'.pte = d.pte ∧ d'.pse = d.pse ∧ d'.rle = d.rle ∧ d'.lrn = d.lrn ∧ d'.dp = d.dp ∧ d'.swc = d.swc ∧ d'.bpm = d.bpm ∧ d'.fcps = d.fcps ∧ d'.spw = d.spw ∧ d'.esc = d.esc ∧ d'.mrp = d.mrp ∧ d'.freeSeq = d.freeSeq ∧ d'.out = d.out
abbrev ButHifCvuCtrs (d d' : Dev) : Prop := d'.bal = d.bal ∧ d'.plc = d.plc ∧ d'.fcr = d.fcr ∧ d'.evr = d.evr ∧ d'.otp = d.otp ∧ d'.boot = d.boot ∧ d'.reg = d.reg ∧ d'.pipes = d.pipes ∧ d'.tmu = d.tmu ∧ d'.pte = d.pte ∧ d'.pse = d.pse ∧ d'.rle = d.rle ∧ d'.lrn = d.lrn ∧ d'.dp = d.dp ∧ d'.swc = d.swc ∧ d'.bpm = d.bpm ∧ d'.fcps = d.fcps ∧ d'.spw = d.spw ∧ d'.esc = d.esc ∧ d'.mrp = d.mrp ∧ d'.freeSeq = d.freeSeq ∧ d'.out = d.out
abbrev ButFcrEvrCvuCtrs (d d' : Dev) : Prop := d'.bal = d.bal ∧ d'.hif = d.hif ∧ d'.plc = d.plc ∧ d'.otp = d.otp ∧ d'.boot = d.boot ∧ d'.reg = d.reg ∧ d'.pipes = d.pipes ∧ d'.tmu = d.tmu ∧ d'.pte = d.pte ∧ d'.pse = d.pse ∧ d'.rle = d.rle ∧ d'.lrn = d.lrn ∧ d'.dp = d.dp ∧ d'.swc = d.swc ∧ d'.bpm = d.bpm ∧ d'.fcps = d.fcps ∧ d'.spw = d.spw ∧ d'.esc = d.esc ∧ d'.mrp = d.mrp ∧ d'.freeSeq = d.freeSeq ∧ d'.out = d.out
abbrev ButFcrPte (d d' : Dev) : Prop := d'.bal = d.bal ∧ d'.hif = d.hif ∧ d'.plc = d.plc ∧ d'.evr = d.evr ∧ d'.otp = d.otp ∧ d'.boot = d.boot ∧ d'.reg = d.reg ∧ d'.pipes = d.pipes ∧ d'.tmu = d.tmu ∧ d'.pse = d.pse ∧ d'.rle = d.rle ∧ d'.lrn = d.lrn ∧ d'.dp = d.dp ∧ d'.swc = d.swc ∧ d'.bpm = d.bpm ∧ d'.fcps = d.fcps ∧ d'.spw = d.spw ∧ d'.esc = d.esc ∧ d'.mrp = d.mrp ∧ d'.cvu = d.cvu ∧ d'.ctrs = d.ctrs ∧ d'.freeSeq = d.freeSeq ∧ d'.out = d.out
abbrev ButFcrEvrPteCtrs (d d' : Dev) : Prop := d'.bal = d.bal ∧ d'.hif = d.hif ∧ d'.plc = d.plc ∧ d'.otp = d.otp ∧ d'.boot = d.boot ∧ d'.reg = d.reg ∧ d'.pipes = d.pipes ∧ d'.tmu = d.tmu ∧ d'.pse = d.pse ∧ d'.rle = d.rle ∧ d'.lrn = d.lrn ∧ d'.dp = d.dp ∧ d'.swc = d.swc ∧ d'.bpm = d.bpm ∧ d'.fcps = d.fcps ∧ d'.spw = d.spw ∧ d'.esc = d.esc ∧ d'.mrp = d.mrp ∧ d'.cvu = d.cvu ∧ d'.freeSeq = d.freeSeq ∧ d'.out = d.out
abbrev ButFcrBpmSpwCtrs (d d' : Dev) : Prop := d'.bal = d.bal ∧ d'.hif = d.hif ∧ d'.plc = d.plc ∧ d'.evr = d.evr ∧ d'.otp = d.otp ∧ d'.boot = d.boot ∧ d'.reg = d.reg ∧ d'.pipes = d.pipes ∧ d'.tmu = d.tmu ∧ d'.pte = d.pte ∧ d'.pse = d.pse ∧ d'.rle = d.rle ∧ d'.lrn = d.lrn ∧ d'.dp = d.dp ∧ d'.swc = d.swc ∧ d'.fcps = d.fcps ∧ d'.esc = d.esc ∧ d'.mrp = d.mrp ∧ d'.cvu = d.cvu ∧ d'.freeSeq = d.freeSeq ∧ d'.out = d.out
abbrev ButFcrPtePseBpmSpwEscCtrs (d d' : Dev) : Prop := d'.bal = d.bal ∧ d'.hif = d.hif ∧ d'.plc = d.plc ∧ d'.evr = d.evr ∧ d'.otp = d.otp ∧ d'.boot = d.boot ∧ d'.reg = d.reg ∧ d'.pipes = d.pipes ∧ d'.tmu = d.tmu ∧ d'.rle = d.rle ∧ d'.lrn = d.lrn ∧ d'.dp = d.dp ∧ d'.swc = d.swc ∧ d'.fcps = d.fcps ∧ d'.mrp = d.mrp ∧ d'.cvu = d.cvu ∧ d'.freeSeq = d.freeSeq ∧ d'.out = d.out
abbrev ButFcrPseBpmFcpsSpwEscCtrsOut (d d' : Dev) : Prop := d'.bal = d.bal ∧ d'.hif = d.hif ∧ d'.plc = d.plc ∧ d'.evr = d.evr ∧ d'.otp = d.otp ∧ d'.boot = d.boot ∧ d'.reg = d.reg ∧ d'.pipes = d.pipes ∧ d'.tmu = d.tmu ∧ d'.pte = d.pte ∧ d'.rle = d.rle ∧ d'.lrn = d.lrn ∧ d'.dp = d.dp ∧ d'.swc = d.swc ∧ d'.mrp = d.mrp ∧ d'.cvu = d.cvu ∧ d'.freeSeq = d.freeSeq
abbrev ButHifFcrEvrPipesPteDpSwcBpmSpwEscMrpCtrsFreeSeqOut (d d' : Dev) : Prop := d'.bal = d.bal ∧ d'.plc = d.plc ∧ d'.otp = d.otp ∧ d'.boot = d.boot ∧ d'.reg = d.reg ∧ d'.tmu = d.tmu ∧ d'.pse = d.pse ∧ d'.rle = d.rle ∧ d'.lrn = d.lrn ∧ d'.fcps = d.fcps ∧ d'.cvu = d.cvu
abbrev ButFcrPteFcps (d d' : Dev) : Prop := d'.bal = d.bal ∧ d'.hif = d.hif ∧ d'.plc = d.plc ∧ d'.evr = d.evr ∧ d'.otp = d.otp ∧ d'.boot = d.boot ∧ d'.reg = d.reg ∧ d'.pipes = d.pipes ∧ d'.tmu = d.tmu ∧ d'.pse = d.pse ∧ d'.rle = d.rle ∧ d'.lrn = d.lrn ∧ d'.dp = d.dp ∧ d'.swc = d.swc ∧ d'.bpm = d.bpm ∧ d'.spw = d.spw ∧ d'.esc = d.esc ∧ d'.mrp = d.mrp ∧ d'.cvu = d.cvu ∧ d'.ctrs = d.ctrs ∧ d'.freeSeq = d.freeSeq ∧ d'.out = d.out
abbrev ButHifPlcFcrEvrPipesPteDpSwcBpmFcpsSpwMrpCtrsFreeSeqOut (d d' : Dev) : Prop := d'.bal = d.bal ∧ d'.otp = d.otp ∧ d'.boot = d.boot ∧ d'.reg = d.reg ∧ d'.tmu = d.tmu ∧ d'.pse = d.pse ∧ d'.rle = d.rle ∧ d'.lrn = d.lrn ∧ d'.esc = d.esc ∧ d'.cvu = d.cvu
abbrev ButHifPlcFcrEvrPteBpmFcpsMrpCtrsOut (d d' : Dev) : Prop := d'.bal = d.bal ∧ d'.otp = d.otp ∧ d'.boot = d.boot ∧ d'.reg = d.reg ∧ d'.pipes = d.pipes ∧ d'.tmu = d.tmu ∧ d'.pse = d.pse ∧ d'.rle = d.rle ∧ d'.lrn = d.lrn ∧ d'.dp = d.dp ∧ d'.swc = d.swc ∧ d'.spw = d.spw ∧ d'.esc = d.esc ∧ d'.cvu = d.cvu ∧ d'.freeSeq = d.freeSeq
abbrev ButHifPlcFcrEvrPipesPtePseRleDpSwcBpmFcpsSpwEscMrpCtrsFreeSeqOut (d d' : Dev) : Prop := d'.bal = d.bal ∧ d'.otp = d.otp ∧ d'.boot = d.boot ∧ d'.reg = d.reg ∧ d'.tmu = d.tmu ∧ d'.lrn = d.lrn ∧ d'.cvu = d.cvu
abbrev ButPlcFcrRleLrnBpmMrpCtrs (d d' : Dev) : Prop := d'.bal = d.bal ∧ d'.hif = d.hif ∧ d'.evr = d.evr ∧ d'.otp = d.otp ∧ d'.boot = d.boot ∧ d'.reg = d.reg ∧ d'.pipes = d.pipes ∧ d'.tmu = d.tmu ∧ d'.pte = d.pte ∧ d'.pse = d.pse ∧ d'.dp = d.dp ∧ d'.swc = d.swc ∧ d'.fcps = d.fcps ∧ d'.spw = d.spw ∧ d'.esc = d.esc ∧ d'.cvu = d.cvu ∧ d'.freeSeq = d.freeSeq ∧ d'.out = d.out
abbrev ButPlcFreeSeq (d d' : Dev) : Prop := d'.bal = d.bal ∧ d'.hif = d.hif ∧ d'.fcr = d.fcr ∧ d'.evr = d.evr ∧ d'.otp = d.otp ∧ d'.boot = d.boot ∧ d'.reg = d.reg ∧ d'.pipes = d.pipes ∧ d'.tmu = d.tmu ∧ d'.pte = d.pte ∧ d'.pse = d.pse ∧ d'.rle = d.rle ∧ d'.lrn = d.lrn ∧ d'.dp = d.dp ∧ d'.swc = d.swc ∧ d'.bpm = d.bpm ∧ d'.fcps = d.fcps ∧ d'.spw = d.spw ∧ d'.esc = d.esc ∧ d'.mrp = d.mrp ∧ d'.cvu = d.cvu ∧ d'.ctrs = d.ctrs ∧ d'.out = d.out
abbrev ButPlcEvrCtrsFreeSeq (d d' : Dev) : Prop := d'.bal = d.bal ∧ d'.hif = d.hif ∧ d'.fcr = d.fcr ∧ d'.otp = d.otp ∧ d'.boot = d.boot ∧ d'.reg = d.reg ∧ d'.pipes = d.pipes ∧ d'.tmu = d.tmu ∧ d'.pte = d.pte ∧ d'.pse = d.pse ∧ d'.rle = d.rle ∧ d'.lrn = d.lrn ∧ d'.dp = d.dp ∧ d'.swc = d.swc ∧ d'.bpm = d.bpm ∧ d'.fcps = d.fcps ∧ d'.spw = d.spw ∧ d'.esc = d.esc ∧ d'.mrp = d.mrp ∧ d'.cvu = d.cvu ∧ d'.out = d.out
abbrev ButBootRegPipes (d d' : Dev) : Prop := d'.bal = d.bal ∧ d'.hif = d.hif ∧ d'.plc = d.plc ∧ d'.fcr = d.fcr ∧ d'.evr = d.evr ∧ d'.otp = d.otp ∧ d'.tmu = d.tmu ∧ d'.pte = d.pte ∧ d'.pse = d.pse ∧ d'.rle = d.rle ∧ d'.lrn = d.lrn ∧ d'.dp = d.dp ∧ d'.swc = d.swc ∧ d'.bpm = d.bpm ∧ d'.fcps = d.fcps ∧ d'.spw = d.spw ∧ d'.esc = d.esc ∧ d'.mrp = d.mrp ∧ d'.cvu = d.cvu ∧ d'.ctrs = d.ctrs ∧ d'.freeSeq = d.freeSeq ∧ d'.out = d.out
abbrev ButFcrEvrBootRegPipesCtrs (d d' : Dev) : Prop := d'.bal = d.bal ∧ d'.hif = d.hif ∧ d'.plc = d.plc ∧ d'.otp = d.otp ∧ d'.tmu = d.tmu ∧ d'.pte = d.pte ∧ d'.pse = d.pse ∧ d'.rle = d.rle ∧ d'.lrn = d.lrn ∧ d'.dp = d.dp ∧ d'.swc = d.swc ∧ d'.bpm = d.bpm ∧ d'.fcps = d.fcps ∧ d'.spw = d.spw ∧ d'.esc = d.esc ∧ d'.mrp = d.mrp ∧ d'.cvu = d.cvu ∧ d'.freeSeq = d.freeSeq ∧ d'.out = d.out
abbrev ButFcrEvrBootRegPipesFcpsCtrs (d d' : Dev) : Prop := d'.bal = d.bal ∧ d'.hif = d.hif ∧ d'.plc = d.plc ∧ d'.otp = d.otp ∧ d'.tmu = d.tmu ∧ d'.pte = d.pte ∧ d'.pse = d.pse ∧ d'.rle = d.rle ∧ d'.lrn = d.lrn ∧ d'.dp = d.dp ∧ d'.swc = d.swc ∧ d'.bpm = d.bpm ∧ d'.spw = d.spw ∧ d'.esc = d.esc ∧ d'.mrp = d.mrp ∧ d'.cvu = d.cvu ∧ d'.freeSeq = d.freeSeq ∧ d'.out = d.out
abbrev ButHifFcrEvrBootRegPipesTmuFcpsCtrs (d d' : Dev) : Prop := d'.bal = d.bal ∧ d'.plc = d.plc ∧ d'.otp = d.otp ∧ d'.pte = d.pte ∧ d'.pse = d.pse ∧ d'.rle = d.rle ∧ d'.lrn = d.lrn ∧ d'.dp = d.dp ∧ d'.swc = d.swc ∧ d'.bpm = d.bpm ∧ d'.spw = d.spw ∧ d'.esc = d.esc ∧ d'.mrp = d.mrp ∧ d'.cvu = d.cvu ∧ d'.freeSeq = d.freeSeq ∧ d'.out = d.out
abbrev ButBalHifFcrEvrBootRegPipesTmuPtePseRleLrnDpSwcBpmFcpsSpwEscMrpCtrs (d d' : Dev) : Prop := d'.plc = d.plc ∧ d'.otp = d.otp ∧ d'.cvu = d.cvu ∧ d'.freeSeq = d.freeSeq ∧ d'.out = d.out
abbrev ButFcrEvrSpwEscCtrs (d d' : Dev) : Prop := d'.bal = d.bal ∧ d'.hif = d.hif ∧ d'.plc = d.plc ∧ d'.otp = d.otp ∧ d'.boot = d.boot ∧ d'.reg = d.reg ∧ d'.pipes = d.pipes ∧ d'.tmu = d.tmu ∧ d'.pte = d.pte ∧ d'.pse = d.pse ∧ d'.rle = d.rle ∧ d'.lrn = d.lrn ∧ d'.dp = d.dp ∧ d'.swc = d.swc ∧ d'.bpm = d.bpm ∧ d'.fcps = d.fcps ∧ d'.mrp = d.mrp ∧ d'.cvu = d.cvu ∧ d'.freeSeq = d.freeSeq ∧ d'.out = d.out
abbrev ButBalHifFcrEvrBootRegPipesTmuPtePseRleLrnDpSwcBpmFcpsSpwEscMrpCtrsFreeSeqOut (d d' : Dev) : Prop := d'.plc = d.plc ∧ d'.otp = d.otp ∧ d'.cvu = d.cvu
abbrev ButPlcFcrPteFcps (d d' : Dev) : Prop := d'.bal = d.bal ∧ d'.hif = d.hif ∧ d'.evr = d.evr ∧ d'.otp = d.otp ∧ d'.boot = d.boot ∧ d'.reg = d.reg ∧ d'.pipes = d.pipes ∧ d'.tmu = d.tmu ∧ d'.pse = d.pse ∧ d'.rle = d.rle ∧ d'.lrn = d.lrn ∧ d'.dp = d.dp ∧ d'.swc = d.swc ∧ d'.bpm = d.bpm ∧ d'.spw = d.spw ∧ d'.esc = d.esc ∧ d'.mrp = d.mrp ∧ d'.cvu = d.cvu ∧ d'.ctrs = d.ctrs ∧ d'.freeSeq = d.freeSeq ∧ d'.out = d.out
abbrev ButBalEvrCtrs (d d' : Dev) : Prop := d'.hif = d.hif ∧ d'.plc = d.plc ∧ d'.fcr = d.fcr ∧ d'.otp = d.otp ∧ d'.boot = d.boot ∧ d'.reg = d.reg ∧ d'.pipes = d.pipes ∧ d'.tmu = d.tmu ∧ d'.pte = d.pte ∧ d'.pse = d.pse ∧ d'.rle = d.rle ∧ d'.lrn = d.lrn ∧ d'.dp = d.dp ∧ d'.swc = d.swc ∧ d'.bpm = d.bpm ∧ d'.fcps = d.fcps ∧ d'.spw = d.spw ∧ d'.esc = d.esc ∧ d'.mrp = d.mrp ∧ d'.cvu = d.cvu ∧ d'.freeSeq = d.freeSeq ∧ d'.out = d.out
abbrev ButBoot (d d' : Dev) : Prop := d'.bal = d.bal ∧ d'.hif = d.hif ∧ d'.plc = d.plc ∧ d'.fcr = d.fcr ∧ d'.evr = d.evr ∧ d'.otp = d.otp ∧ d'.reg = d.reg ∧ d'.pipes = d.pipes ∧ d'.tmu = d.tmu ∧ d'.pte = d.pte ∧ d'.pse = d.pse ∧ d'.rle = d.rle ∧ d'.lrn = d.lrn ∧ d'.dp = d.dp ∧ d'.swc = d.swc ∧ d'.bpm = d.bpm ∧ d'.fcps = d.fcps ∧ d'.spw = d.spw ∧ d'.esc = d.esc ∧ d'.mrp = d.mrp ∧ d'.cvu = d.cvu ∧ d'.ctrs = d.ctrs ∧ d'.freeSeq = d.freeSeq ∧ d'.out = d.out
abbrev ButHifBoot (d d' : Dev) : Prop := d'.bal = d.bal ∧ d'.plc = d.plc ∧ d'.fcr = d.fcr ∧ d'.evr = d.evr ∧ d'.otp = d.otp ∧ d'.reg = d.reg ∧ d'.pipes = d.pipes ∧ d'.tmu = d.tmu ∧ d'.pte = d.pte ∧ d'.pse = d.pse ∧ d'.rle = d.rle ∧ d'.lrn = d.lrn ∧ d'.dp = d.dp ∧ d'.swc = d.swc ∧ d'.bpm = d.bpm ∧ d'.fcps = d.fcps ∧ d'.spw = d.spw ∧ d'.esc = d.esc ∧ d'.mrp = d.mrp ∧ d'.cvu = d.cvu ∧ d'.ctrs = d.ctrs ∧ d'.freeSeq = d.freeSeq ∧ d'.out = d.out
abbrev ButFcrPtePseBpmFcpsSpwEscCtrsOut (d d' : Dev) : Prop := d'.bal = d.bal ∧ d'.hif = d.hif ∧ d'.plc = d.plc ∧ d'.evr = d.evr ∧ d'.otp = d.otp ∧ d'.boot = d.boot ∧ d'.reg = d.reg ∧ d'.pipes = d.pipes ∧ d'.tmu = d.tmu ∧ d'.rle = d.rle ∧ d'.lrn = d.lrn ∧ d'.dp = d.dp ∧ d'.swc = d.swc ∧ d'.mrp = d.mrp ∧ d'.cvu = d.cvu ∧ d'.freeSeq = d.freeSeq
abbrev ButFcrEvrPtePseBpmFcpsSpwEscCvuCtrsOut (d d' : Dev) : Prop := d'.bal = d.bal ∧ d'.hif = d.hif ∧ d'.plc = d.plc ∧ d'.otp = d.otp ∧ d'.boot = d.boot ∧ d'.reg = d.reg ∧ d'.pipes = d.pipes ∧ d'.tmu = d.tmu ∧ d'.rle = d.rle ∧ d'.lrn = d.lrn ∧ d'.dp = d.dp ∧ d'.swc = d.swc ∧ d'.mrp = d.mrp ∧ d'.freeSeq = d.freeSeq
abbrev ButFcrRegPipes (d d' : Dev) : Prop := d'.bal = d.bal ∧ d'.hif = d.hif ∧ d'.plc = d.plc ∧ d'.evr = d.evr ∧ d'.otp = d.otp ∧ d'.boot = d.boot ∧ d'.tmu = d.tmu ∧ d'.pte = d.pte ∧ d'.pse = d.pse ∧ d'.rle = d.rle ∧ d'.lrn = d.lrn ∧ d'.dp = d.dp ∧ d'.swc = d.swc ∧ d'.bpm = d.bpm ∧ d'.fcps = d.fcps ∧ d'.spw = d.spw ∧ d'.esc = d.esc ∧ d'.mrp = d.mrp ∧ d'.cvu = d.cvu ∧ d'.ctrs = d.ctrs ∧ d'.freeSeq = d.freeSeq ∧ d'.out = d.out
abbrev ButEvrOtpCtrs (d d' : Dev) : Prop := d'.bal = d.bal ∧ d'.hif = d.hif ∧ d'.plc = d.plc ∧ d'.fcr = d.fcr ∧ d'.boot = d.boot ∧ d'.reg = d.reg ∧ d'.pipes = d.pipes ∧ d'.tmu = d.tmu ∧ d'.pte = d.pte ∧ d'.pse = d.pse ∧ d'.rle = d.rle ∧ d'.lrn = d.lrn ∧ d'.dp = d.dp ∧ d'.swc = d.swc ∧ d'.bpm = d.bpm ∧ d'.fcps = d.fcps ∧ d'.spw = d.spw ∧ d'.esc = d.esc ∧ d'.mrp = d.mrp ∧ d'.cvu = d.cvu ∧ d'.freeSeq = d.freeSeq ∧ d'.out = d.out
abbrev ButBal (d d' : Dev) : Prop := d'.hif = d.hif ∧ d'.plc = d.plc ∧ d'.fcr = d.fcr ∧ d'.evr = d.evr ∧ d'.otp = d.otp ∧ d'.boot = d.boot ∧ d'.reg = d.reg ∧ d'.pipes = d.pipes ∧ d'.tmu = d.tmu ∧ d'.pte = d.pte ∧ d'.pse = d.pse ∧ d'.rle = d.rle ∧ d'.lrn = d.lrn ∧ d'.dp = d.dp ∧ d'.swc = d.swc ∧ d'.bpm = d.bpm ∧ d'.fcps = d.fcps ∧ d'.spw = d.spw ∧ d'.esc = d.esc ∧ d'.mrp = d.mrp ∧ d'.cvu = d.cvu ∧ d'.ctrs = d.ctrs ∧ d'.freeSeq = d.freeSeq ∧ d'.out = d.out
abbrev ButRegPipes (d d' : Dev) : Prop := d'.bal = d.bal ∧ d'.hif = d.hif ∧ d'.plc = d.plc ∧ d'.fcr = d.fcr ∧ d'.evr = d.evr ∧ d'.otp = d.otp ∧ d'.boot = d.boot ∧ d'.tmu = d.tmu ∧ d'.pte = d.pte ∧ d'.pse = d.pse ∧ d'.rle = d.rle ∧ d'.lrn = d.lrn ∧ d'.dp = d.dp ∧ d'.swc = d.swc ∧ d'.bpm = d.bpm ∧ d'.fcps = d.fcps ∧ d'.spw = d.spw ∧ d'.esc = d.esc ∧ d'.mrp = d.mrp ∧ d'.cvu = d.cvu ∧ d'.ctrs = d.ctrs ∧ d'.freeSeq = d.freeSeq ∧ d'.out = d.out
abbrev ButFcrBootRegPipes (d d' : Dev) : Prop := d'.bal = d.bal ∧ d'.hif = d.hif ∧ d'.plc = d.plc ∧ d'.evr = d.evr ∧ d'.otp = d.otp ∧ d'.tmu = d.tmu ∧ d'.pte = d.pte ∧ d'.pse = d.pse ∧ d'.rle = d.rle ∧ d'.lrn = d.lrn ∧ d'.dp = d.dp ∧ d'.swc = d.swc ∧ d'.bpm = d.bpm ∧ d'.fcps = d.fcps ∧ d'.spw = d.spw ∧ d'.esc = d.esc ∧ d'.mrp = d.mrp ∧ d'.cvu = d.cvu ∧ d'.ctrs = d.ctrs ∧ d'.freeSeq = d.freeSeq ∧ d'.out = d.out
abbrev ButBalHifPlcFcrEvrBootRegPipesTmuPtePseRleLrnDpSwcBpmFcpsSpwEscMrpCtrsFreeSeqOut (d d' : Dev) : Prop := d'.otp = d.otp ∧ d'.cvu = d.cvu
abbrev ButHifFcrEvrPipesRleLrnDpSwcBpmEscMrpCvuCtrsFreeSeqOut (d d' : Dev) : Prop := d'.bal = d.bal ∧ d'.plc = d.plc ∧ d'.otp = d.otp ∧ d'.boot = d.boot ∧ d'.reg = d.reg ∧ d'.tmu = d.tmu ∧ d'.pte = d.pte ∧ d'.pse = d.pse ∧ d'.fcps = d.fcps ∧ d'.spw = d.spw
abbrev ButHifFcrOut (d d' : Dev) : Prop := d'.bal = d.bal ∧ d'.plc = d.plc ∧ d'.evr = d.evr ∧ d'.otp = d.otp ∧ d'.boot = d.boot ∧ d'.reg = d.reg ∧ d'.pipes = d.pipes ∧ d'.tmu = d.tmu ∧ d'.pte = d.pte ∧ d'.pse = d.pse ∧ d'.rle = d.rle ∧ d'.lrn = d.lrn ∧ d'.dp = d.dp ∧ d'.swc = d.swc ∧ d'.bpm = d.bpm ∧ d'.fcps = d.fcps ∧ d'.spw = d.spw ∧ d'.esc = d.esc ∧ d'.mrp = d.mrp ∧ d'.cvu = d.cvu ∧ d'.ctrs = d.ctrs ∧ d'.freeSeq = d.freeSeq
abbrev ButRleLrnDpSwcBpmEscMrpCtrs (d d' : Dev) : Prop := d'.bal = d.bal ∧ d'.hif = d.hif ∧ d'.plc = d.plc ∧ d'.fcr = d.fcr ∧ d'.evr = d.evr ∧ d'.otp = d.otp ∧ d'.boot = d.boot ∧ d'.reg = d.reg ∧ d'.pipes = d.pipes ∧ d'.tmu = d.tmu ∧ d'.pte = d.pte ∧ d'.pse = d.pse ∧ d'.fcps = d.fcps ∧ d'.spw = d.spw ∧ d'.cvu = d.cvu ∧ d'.freeSeq = d.freeSeq ∧ d'.out = d.out
abbrev ButBalFreeSeq (d d' : Dev) : Prop := d'.hif = d.hif ∧ d'.plc = d.plc ∧ d'.fcr = d.fcr ∧ d'.evr = d.evr ∧ d'.otp = d.otp ∧ d'.boot = d.boot ∧ d'.reg = d.reg ∧ d'.pipes = d.pipes ∧ d'.tmu = d.tmu ∧ d'.pte = d.pte ∧ d'.pse = d.pse ∧ d'.rle = d.rle ∧ d'.lrn = d.lrn ∧ d'.dp = d.dp ∧ d'.swc = d.swc ∧ d'.bpm = d.bpm ∧ d'.fcps = d.fcps ∧ d'.spw = d.spw ∧ d'.esc = d.esc ∧ d'.mrp = d.mrp ∧ d'.cvu = d.cvu ∧ d'.ctrs = d.ctrs ∧ d'.out = d.out
abbrev ButHifFcrEvrCtrsFreeSeqOut (d d' : Dev) : Prop := d'.bal = d.bal ∧ d'.plc = d.plc ∧ d'.otp = d.otp ∧ d'.boot = d.boot ∧ d'.reg = d.reg ∧ d'.pipes = d.pipes ∧ d'.tmu = d.tmu ∧ d'.pte = d.pte ∧ d'.pse = d.pse ∧ d'.rle = d.rle ∧ d'.lrn = d.lrn ∧ d'.dp = d.dp ∧ d'.swc = d.swc ∧ d'.bpm = d.bpm ∧ d'.fcps = d.fcps ∧ d'.spw = d.spw ∧ d'.esc = d.esc ∧ d'.mrp = d.mrp ∧ d'.cvu = d.cvu
abbrev ButHifFcrEvrCvuCtrsFreeSeqOut (d d' : Dev) : Prop := d'.bal = d.bal ∧ d'.plc = d.plc ∧ d'.otp = d.otp ∧ d'.boot = d.boot ∧ d'.reg = d.reg ∧ d'.pipes = d.pipes ∧ d'.tmu = d.tmu ∧ d'.pte = d.pte ∧ d'.pse = d.pse ∧ d'.rle = d.rle ∧ d'.lrn = d.lrn ∧ d'.dp = d.dp ∧ d'.swc = d.swc ∧ d'.bpm = d.bpm ∧ d'.fcps = d.fcps ∧ d'.spw = d.spw ∧ d'.esc = d.esc ∧ d'.mrp = d.mrp
abbrev ButHifSwc (d d' : Dev) : Prop := d'.bal = d.bal ∧ d'.plc = d.plc ∧ d'.fcr = d.fcr ∧ d'.evr = d.evr ∧ d'.otp = d.otp ∧ d'.boot = d.boot ∧ d'.reg = d.reg ∧ d'.pipes = d.pipes ∧ d'.tmu = d.tmu ∧ d'.pte = d.pte ∧ d'.pse = d.pse ∧ d'.rle = d.rle ∧ d'.lrn = d.lrn ∧ d'.dp = d.dp ∧ d'.bpm = d.bpm ∧ d'.fcps = d.fcps ∧ d'.spw = d.spw ∧ d'.esc = d.esc ∧ d'.mrp = d.mrp ∧ d'.cvu = d.cvu ∧ d'.ctrs = d.ctrs ∧ d'.freeSeq = d.freeSeq ∧ d'.out = d.out
abbrev ButHifFcrSpw (d d' : Dev) : Prop := d'.bal = d.bal ∧ d'.plc = d.plc ∧ d'.evr = d.evr ∧ d'.otp = d.otp ∧ d'.boot = d.boot ∧ d'.reg = d.reg ∧ d'.pipes = d.pipes ∧ d'.tmu = d.tmu ∧ d'.pte = d.pte ∧ d'.pse = d.pse ∧ d'.rle = d.rle ∧ d'.lrn = d.lrn ∧ d'.dp = d.dp ∧ d'.swc = d.swc ∧ d'.bpm = d.bpm ∧ d'.fcps = d.fcps ∧ d'.esc = d.esc ∧ d'.mrp = d.mrp ∧ d'.cvu = d.cvu ∧ d'.ctrs = d.ctrs ∧ d'.freeSeq = d.freeSeq ∧ d'.out = d.out
abbrev ButHifSpw (d d' : Dev) : Prop := d'.bal = d.bal ∧ d'.plc = d.plc ∧ d'.fcr = d.fcr ∧ d'.evr = d.evr ∧ d'.otp = d.otp ∧ d'.boot = d.boot ∧ d'.reg = d.reg ∧ d'.pipes = d.pipes ∧ d'.tmu = d.tmu ∧ d'.pte = d.pte ∧ d'.pse = d.pse ∧ d'.rle = d.rle ∧ d'.lrn = d.lrn ∧ d'.dp = d.dp ∧ d'.swc = d.swc ∧ d'.bpm = d.bpm ∧ d'.fcps = d.fcps ∧ d'.esc = d.esc ∧ d'.mrp = d.mrp ∧ d'.cvu = d.cvu ∧ d'.ctrs = d.ctrs ∧ d'.freeSeq = d.freeSeq ∧ d'.out = d.out
abbrev ButLrnSwcMrp (d d' : Dev) : Prop := d'.bal = d.bal ∧ d'.hif = d.hif ∧ d'.plc = d.plc ∧ d'.fcr = d.fcr ∧ d'.evr = d.evr ∧ d'.otp = d.otp ∧ d'.boot = d.boot ∧ d'.reg = d.reg ∧ d'.pipes = d.pipes ∧ d'.tmu = d.tmu ∧ d'.pte = d.pte ∧ d'.pse = d.pse ∧ d'.rle = d.rle ∧ d'.dp = d.dp ∧ d'.bpm = d.bpm ∧ d'.fcps = d.fcps ∧ d'.spw = d.spw ∧ d'.esc = d.esc ∧ d'.cvu = d.cvu ∧ d'.ctrs = d.ctrs ∧ d'.freeSeq = d.freeSeq ∧ d'.out = d.out
abbrev ButHifLrnSwcMrpOut (d d' : Dev) : Prop := d'.bal = d.bal ∧ d'.plc = d.plc ∧ d'.fcr = d.fcr ∧ d'.evr = d.evr ∧ d'.otp = d.otp ∧ d'.boot = d.boot ∧ d'.reg = d.reg ∧ d'.pipes = d.pipes ∧ d'.tmu = d.tmu ∧ d'.pte = d.pte ∧ d'.pse = d.pse ∧ d'.rle = d.rle ∧ d'.dp = d.dp ∧ d'.bpm = d.bpm ∧ d'.fcps = d.fcps ∧ d'.spw = d.spw ∧ d'.esc = d.esc ∧ d'.cvu = d.cvu ∧ d'.ctrs = d.ctrs ∧ d'.freeSeq = d.freeSeq
abbrev ButBalHifFcrEvrBootTmuPteFcpsSpwMrp (d d' : Dev) : Prop := d'.plc = d.plc ∧ d'.otp = d.otp ∧ d'.reg = d.reg ∧ d'.pipes = d.pipes ∧ d'.pse = d.pse ∧ d'.rle = d.rle ∧ d'.lrn = d.lrn ∧ d'.dp = d.dp ∧ d'.swc = d.swc ∧ d'.bpm = d.bpm ∧ d'.esc = d.esc ∧ d'.cvu = d.cvu ∧ d'.ctrs = d.ctrs ∧ d'.freeSeq = d.freeSeq ∧ d'.out = d.out
abbrev ButBalHifFcrEvrBootRegPipesTmuPtePseRleLrnDpSwcBpmFcpsSpwEscMrpCvuCtrsFreeSeqOut (d d' : Dev) : Prop := d'.plc = d.plc ∧ d'.otp = d.otp
abbrev ButHifFcrEvrCvuCtrs (d d' : Dev) : Prop := d'.bal = d.bal ∧ d'.plc = d.plc ∧ d'.otp = d.otp ∧ d'.boot = d.boot ∧ d'.reg = d.reg ∧ d'.pipes = d.pipes ∧ d'.tmu = d.tmu ∧ d'.pte = d.pte ∧ d'.pse = d.pse ∧ d'.rle = d.rle ∧ d'.lrn = d.lrn ∧ d'.dp = d.dp ∧ d'.swc = d.swc ∧ d'.bpm = d.bpm ∧ d'.fcps = d.fcps ∧ d'.spw = d.spw ∧ d'.esc = d.esc ∧ d'.mrp = d.mrp ∧ d'.freeSeq = d.freeSeq ∧ d'.out = d.out

/-! ### Loops, choices, steps, register writes -/

@[simp] theorem foldl_bal {α} (l : List α) (f : Dev → α → Dev) (h : ∀ d x, (f d x).bal = d.bal) (d : Dev) : (l.foldl f d).bal = d.bal := by induction l generalizing d <;> simp_all
@[simp] theorem ite_bal (c : Prop) [Decidable c] (a b : Dev) : (if c then a else b).bal = if c then a.bal else b.bal := apply_ite _ _ _ _
@[simp] theorem step1_bal (d : Dev) (c : CmdRef) (is : Cmd → Bool) (f : Dev → Cmd → Dev) (h : ∀ d x, (f d x).bal = d.bal) : (d.step1 c is f).bal = d.bal := by
  unfold Dev.step1; repeat' split
  all_goals simp [h]
@[simp] theorem each_bal {α : Type} (l : List α) (f : Dev → α → Dev) (h : ∀ d x, (f d x).bal = d.bal) (d : Dev) : (d.each l f).bal = d.bal := foldl_bal l f h d
@[simp] theorem foldl2_bal {α β : Type} (l : List α) (f : β × Dev → α → β × Dev) (h : ∀ a x, (f a x).2.bal = a.2.bal) (a : β × Dev) : (l.foldl f a).2.bal = a.2.bal := by induction l generalizing a <;> simp_all
@[simp] theorem foldl3_bal {α β γ : Type} (l : List α) (f : γ × β × Dev → α → γ × β × Dev) (h : ∀ a x, (f a x).2.2.bal = a.2.2.bal) (a : γ × β × Dev) : (l.foldl f a).2.2.bal = a.2.2.bal := by induction l generalizing a <;> simp_all
@[simp] theorem glWrite_bal (d : Dev) (e : Nat) (core : Bool) (f : Dev → Dev) (h : ∀ d, (f d).bal = d.bal) : (d.glWrite e core f).bal = d.bal := by
  unfold Dev.glWrite; repeat' split
  all_goals simp [h, Dev.modEp]
@[simp] theorem foldlP_bal {α β : Type} (l : List α) (f : Dev × β → α → Dev × β) (h : ∀ a x, (f a x).1.bal = a.1.bal) (a : Dev × β) : (l.foldl f a).1.bal = a.1.bal := by induction l generalizing a <;> simp_all
@[simp] theorem inTurn_bal (d : Dev) (ids : List Nat) (pool : Dev → Nat → Option Pool) (give : Dev → Nat → Dev) (h : ∀ d i, (give d i).bal = d.bal) : (d.inTurn ids pool give).bal = d.bal := by
  unfold Dev.inTurn
  dsimp only
  rw [foldl_bal _ _ (by intro d i; split <;> simp [h]), foldl2_bal _ _ (by intro a i; split <;> simp [h])]
@[simp] theorem cvuBy_bal (d : Dev) (who : CvuParty) (n : Nat) (o : Bool) (f : Dev → Dev) (h : ∀ d, (f d).bal = d.bal) : (d.cvuBy who n o f).bal = d.bal := by
  unfold Dev.cvuBy; repeat' split
  all_goals simp [h, Dev.modEp, Dev.bump, Dev.setCtr]
@[simp] theorem foldl_hif {α} (l : List α) (f : Dev → α → Dev) (h : ∀ d x, (f d x).hif = d.hif) (d : Dev) : (l.foldl f d).hif = d.hif := by induction l generalizing d <;> simp_all
@[simp] theorem ite_hif (c : Prop) [Decidable c] (a b : Dev) : (if c then a else b).hif = if c then a.hif else b.hif := apply_ite _ _ _ _
@[simp] theorem step1_hif (d : Dev) (c : CmdRef) (is : Cmd → Bool) (f : Dev → Cmd → Dev) (h : ∀ d x, (f d x).hif = d.hif) : (d.step1 c is f).hif = d.hif := by
  unfold Dev.step1; repeat' split
  all_goals simp [h]
@[simp] theorem each_hif {α : Type} (l : List α) (f : Dev → α → Dev) (h : ∀ d x, (f d x).hif = d.hif) (d : Dev) : (d.each l f).hif = d.hif := foldl_hif l f h d
@[simp] theorem foldl2_hif {α β : Type} (l : List α) (f : β × Dev → α → β × Dev) (h : ∀ a x, (f a x).2.hif = a.2.hif) (a : β × Dev) : (l.foldl f a).2.hif = a.2.hif := by induction l generalizing a <;> simp_all
@[simp] theorem foldl3_hif {α β γ : Type} (l : List α) (f : γ × β × Dev → α → γ × β × Dev) (h : ∀ a x, (f a x).2.2.hif = a.2.2.hif) (a : γ × β × Dev) : (l.foldl f a).2.2.hif = a.2.2.hif := by induction l generalizing a <;> simp_all
@[simp] theorem foldlP_hif {α β : Type} (l : List α) (f : Dev × β → α → Dev × β) (h : ∀ a x, (f a x).1.hif = a.1.hif) (a : Dev × β) : (l.foldl f a).1.hif = a.1.hif := by induction l generalizing a <;> simp_all
@[simp] theorem inTurn_hif (d : Dev) (ids : List Nat) (pool : Dev → Nat → Option Pool) (give : Dev → Nat → Dev) (h : ∀ d i, (give d i).hif = d.hif) : (d.inTurn ids pool give).hif = d.hif := by
  unfold Dev.inTurn
  dsimp only
  rw [foldl_hif _ _ (by intro d i; split <;> simp [h]), foldl2_hif _ _ (by intro a i; split <;> simp [h])]
@[simp] theorem foldl_plc {α} (l : List α) (f : Dev → α → Dev) (h : ∀ d x, (f d x).plc = d.plc) (d : Dev) : (l.foldl f d).plc = d.plc := by induction l generalizing d <;> simp_all
@[simp] theorem ite_plc (c : Prop) [Decidable c] (a b : Dev) : (if c then a else b).plc = if c then a.plc else b.plc := apply_ite _ _ _ _
@[simp] theorem step1_plc (d : Dev) (c : CmdRef) (is : Cmd → Bool) (f : Dev → Cmd → Dev) (h : ∀ d x, (f d x).plc = d.plc) : (d.step1 c is f).plc = d.plc := by
  unfold Dev.step1; repeat' split
  all_goals simp [h]
@[simp] theorem each_plc {α : Type} (l : List α) (f : Dev → α → Dev) (h : ∀ d x, (f d x).plc = d.plc) (d : Dev) : (d.each l f).plc = d.plc := foldl_plc l f h d
@[simp] theorem foldl2_plc {α β : Type} (l : List α) (f : β × Dev → α → β × Dev) (h : ∀ a x, (f a x).2.plc = a.2.plc) (a : β × Dev) : (l.foldl f a).2.plc = a.2.plc := by induction l generalizing a <;> simp_all
@[simp] theorem foldl3_plc {α β γ : Type} (l : List α) (f : γ × β × Dev → α → γ × β × Dev) (h : ∀ a x, (f a x).2.2.plc = a.2.2.plc) (a : γ × β × Dev) : (l.foldl f a).2.2.plc = a.2.2.plc := by induction l generalizing a <;> simp_all
@[simp] theorem glWrite_plc (d : Dev) (e : Nat) (core : Bool) (f : Dev → Dev) (h : ∀ d, (f d).plc = d.plc) : (d.glWrite e core f).plc = d.plc := by
  unfold Dev.glWrite; repeat' split
  all_goals simp [h, Dev.modEp]
@[simp] theorem foldlP_plc {α β : Type} (l : List α) (f : Dev × β → α → Dev × β) (h : ∀ a x, (f a x).1.plc = a.1.plc) (a : Dev × β) : (l.foldl f a).1.plc = a.1.plc := by induction l generalizing a <;> simp_all
@[simp] theorem inTurn_plc (d : Dev) (ids : List Nat) (pool : Dev → Nat → Option Pool) (give : Dev → Nat → Dev) (h : ∀ d i, (give d i).plc = d.plc) : (d.inTurn ids pool give).plc = d.plc := by
  unfold Dev.inTurn
  dsimp only
  rw [foldl_plc _ _ (by intro d i; split <;> simp [h]), foldl2_plc _ _ (by intro a i; split <;> simp [h])]
@[simp] theorem cvuBy_plc (d : Dev) (who : CvuParty) (n : Nat) (o : Bool) (f : Dev → Dev) (h : ∀ d, (f d).plc = d.plc) : (d.cvuBy who n o f).plc = d.plc := by
  unfold Dev.cvuBy; repeat' split
  all_goals simp [h, Dev.modEp, Dev.bump, Dev.setCtr]
@[simp] theorem foldl_fcr {α} (l : List α) (f : Dev → α → Dev) (h : ∀ d x, (f d x).fcr = d.fcr) (d : Dev) : (l.foldl f d).fcr = d.fcr := by induction l generalizing d <;> simp_all
@[simp] theorem ite_fcr (c : Prop) [Decidable c] (a b : Dev) : (if c then a else b).fcr = if c then a.fcr else b.fcr := apply_ite _ _ _ _
@[simp] theorem step1_fcr (d : Dev) (c : CmdRef) (is : Cmd → Bool) (f : Dev → Cmd → Dev) (h : ∀ d x, (f d x).fcr = d.fcr) : (d.step1 c is f).fcr = d.fcr := by
  unfold Dev.step1; repeat' split
  all_goals simp [h]
@[simp] theorem each_fcr {α : Type} (l : List α) (f : Dev → α → Dev) (h : ∀ d x, (f d x).fcr = d.fcr) (d : Dev) : (d.each l f).fcr = d.fcr := foldl_fcr l f h d
@[simp] theorem foldl2_fcr {α β : Type} (l : List α) (f : β × Dev → α → β × Dev) (h : ∀ a x, (f a x).2.fcr = a.2.fcr) (a : β × Dev) : (l.foldl f a).2.fcr = a.2.fcr := by induction l generalizing a <;> simp_all
@[simp] theorem foldl3_fcr {α β γ : Type} (l : List α) (f : γ × β × Dev → α → γ × β × Dev) (h : ∀ a x, (f a x).2.2.fcr = a.2.2.fcr) (a : γ × β × Dev) : (l.foldl f a).2.2.fcr = a.2.2.fcr := by induction l generalizing a <;> simp_all
@[simp] theorem glWrite_fcr (d : Dev) (e : Nat) (core : Bool) (f : Dev → Dev) (h : ∀ d, (f d).fcr = d.fcr) : (d.glWrite e core f).fcr = d.fcr := by
  unfold Dev.glWrite; repeat' split
  all_goals simp [h, Dev.modEp]
@[simp] theorem foldlP_fcr {α β : Type} (l : List α) (f : Dev × β → α → Dev × β) (h : ∀ a x, (f a x).1.fcr = a.1.fcr) (a : Dev × β) : (l.foldl f a).1.fcr = a.1.fcr := by induction l generalizing a <;> simp_all
@[simp] theorem inTurn_fcr (d : Dev) (ids : List Nat) (pool : Dev → Nat → Option Pool) (give : Dev → Nat → Dev) (h : ∀ d i, (give d i).fcr = d.fcr) : (d.inTurn ids pool give).fcr = d.fcr := by
  unfold Dev.inTurn
  dsimp only
  rw [foldl_fcr _ _ (by intro d i; split <;> simp [h]), foldl2_fcr _ _ (by intro a i; split <;> simp [h])]
@[simp] theorem cvuBy_fcr (d : Dev) (who : CvuParty) (n : Nat) (o : Bool) (f : Dev → Dev) (h : ∀ d, (f d).fcr = d.fcr) : (d.cvuBy who n o f).fcr = d.fcr := by
  unfold Dev.cvuBy; repeat' split
  all_goals simp [h, Dev.modEp, Dev.bump, Dev.setCtr]
@[simp] theorem foldl_evr {α} (l : List α) (f : Dev → α → Dev) (h : ∀ d x, (f d x).evr = d.evr) (d : Dev) : (l.foldl f d).evr = d.evr := by induction l generalizing d <;> simp_all
@[simp] theorem ite_evr (c : Prop) [Decidable c] (a b : Dev) : (if c then a else b).evr = if c then a.evr else b.evr := apply_ite _ _ _ _
@[simp] theorem step1_evr (d : Dev) (c : CmdRef) (is : Cmd → Bool) (f : Dev → Cmd → Dev) (h : ∀ d x, (f d x).evr = d.evr) : (d.step1 c is f).evr = d.evr := by
  unfold Dev.step1; repeat' split
  all_goals simp [h]
@[simp] theorem each_evr {α : Type} (l : List α) (f : Dev → α → Dev) (h : ∀ d x, (f d x).evr = d.evr) (d : Dev) : (d.each l f).evr = d.evr := foldl_evr l f h d
@[simp] theorem foldl2_evr {α β : Type} (l : List α) (f : β × Dev → α → β × Dev) (h : ∀ a x, (f a x).2.evr = a.2.evr) (a : β × Dev) : (l.foldl f a).2.evr = a.2.evr := by induction l generalizing a <;> simp_all
@[simp] theorem foldl3_evr {α β γ : Type} (l : List α) (f : γ × β × Dev → α → γ × β × Dev) (h : ∀ a x, (f a x).2.2.evr = a.2.2.evr) (a : γ × β × Dev) : (l.foldl f a).2.2.evr = a.2.2.evr := by induction l generalizing a <;> simp_all
@[simp] theorem glWrite_evr (d : Dev) (e : Nat) (core : Bool) (f : Dev → Dev) (h : ∀ d, (f d).evr = d.evr) : (d.glWrite e core f).evr = d.evr := by
  unfold Dev.glWrite; repeat' split
  all_goals simp [h, Dev.modEp]
@[simp] theorem foldlP_evr {α β : Type} (l : List α) (f : Dev × β → α → Dev × β) (h : ∀ a x, (f a x).1.evr = a.1.evr) (a : Dev × β) : (l.foldl f a).1.evr = a.1.evr := by induction l generalizing a <;> simp_all
@[simp] theorem inTurn_evr (d : Dev) (ids : List Nat) (pool : Dev → Nat → Option Pool) (give : Dev → Nat → Dev) (h : ∀ d i, (give d i).evr = d.evr) : (d.inTurn ids pool give).evr = d.evr := by
  unfold Dev.inTurn
  dsimp only
  rw [foldl_evr _ _ (by intro d i; split <;> simp [h]), foldl2_evr _ _ (by intro a i; split <;> simp [h])]
@[simp] theorem cvuBy_evr (d : Dev) (who : CvuParty) (n : Nat) (o : Bool) (f : Dev → Dev) (h : ∀ d, (f d).evr = d.evr) : (d.cvuBy who n o f).evr = d.evr := by
  unfold Dev.cvuBy; repeat' split
  all_goals simp [h, Dev.modEp, Dev.bump, Dev.setCtr]
@[simp] theorem foldl_otp {α} (l : List α) (f : Dev → α → Dev) (h : ∀ d x, (f d x).otp = d.otp) (d : Dev) : (l.foldl f d).otp = d.otp := by induction l generalizing d <;> simp_all
@[simp] theorem ite_otp (c : Prop) [Decidable c] (a b : Dev) : (if c then a else b).otp = if c then a.otp else b.otp := apply_ite _ _ _ _
@[simp] theorem step1_otp (d : Dev) (c : CmdRef) (is : Cmd → Bool) (f : Dev → Cmd → Dev) (h : ∀ d x, (f d x).otp = d.otp) : (d.step1 c is f).otp = d.otp := by
  unfold Dev.step1; repeat' split
  all_goals simp [h]
@[simp] theorem each_otp {α : Type} (l : List α) (f : Dev → α → Dev) (h : ∀ d x, (f d x).otp = d.otp) (d : Dev) : (d.each l f).otp = d.otp := foldl_otp l f h d
@[simp] theorem foldl2_otp {α β : Type} (l : List α) (f : β × Dev → α → β × Dev) (h : ∀ a x, (f a x).2.otp = a.2.otp) (a : β × Dev) : (l.foldl f a).2.otp = a.2.otp := by induction l generalizing a <;> simp_all
@[simp] theorem foldl3_otp {α β γ : Type} (l : List α) (f : γ × β × Dev → α → γ × β × Dev) (h : ∀ a x, (f a x).2.2.otp = a.2.2.otp) (a : γ × β × Dev) : (l.foldl f a).2.2.otp = a.2.2.otp := by induction l generalizing a <;> simp_all
@[simp] theorem glWrite_otp (d : Dev) (e : Nat) (core : Bool) (f : Dev → Dev) (h : ∀ d, (f d).otp = d.otp) : (d.glWrite e core f).otp = d.otp := by
  unfold Dev.glWrite; repeat' split
  all_goals simp [h, Dev.modEp]
@[simp] theorem foldlP_otp {α β : Type} (l : List α) (f : Dev × β → α → Dev × β) (h : ∀ a x, (f a x).1.otp = a.1.otp) (a : Dev × β) : (l.foldl f a).1.otp = a.1.otp := by induction l generalizing a <;> simp_all
@[simp] theorem inTurn_otp (d : Dev) (ids : List Nat) (pool : Dev → Nat → Option Pool) (give : Dev → Nat → Dev) (h : ∀ d i, (give d i).otp = d.otp) : (d.inTurn ids pool give).otp = d.otp := by
  unfold Dev.inTurn
  dsimp only
  rw [foldl_otp _ _ (by intro d i; split <;> simp [h]), foldl2_otp _ _ (by intro a i; split <;> simp [h])]
@[simp] theorem cvuBy_otp (d : Dev) (who : CvuParty) (n : Nat) (o : Bool) (f : Dev → Dev) (h : ∀ d, (f d).otp = d.otp) : (d.cvuBy who n o f).otp = d.otp := by
  unfold Dev.cvuBy; repeat' split
  all_goals simp [h, Dev.modEp, Dev.bump, Dev.setCtr]
@[simp] theorem foldl_boot {α} (l : List α) (f : Dev → α → Dev) (h : ∀ d x, (f d x).boot = d.boot) (d : Dev) : (l.foldl f d).boot = d.boot := by induction l generalizing d <;> simp_all
@[simp] theorem ite_boot (c : Prop) [Decidable c] (a b : Dev) : (if c then a else b).boot = if c then a.boot else b.boot := apply_ite _ _ _ _
@[simp] theorem step1_boot (d : Dev) (c : CmdRef) (is : Cmd → Bool) (f : Dev → Cmd → Dev) (h : ∀ d x, (f d x).boot = d.boot) : (d.step1 c is f).boot = d.boot := by
  unfold Dev.step1; repeat' split
  all_goals simp [h]
@[simp] theorem each_boot {α : Type} (l : List α) (f : Dev → α → Dev) (h : ∀ d x, (f d x).boot = d.boot) (d : Dev) : (d.each l f).boot = d.boot := foldl_boot l f h d
@[simp] theorem foldl2_boot {α β : Type} (l : List α) (f : β × Dev → α → β × Dev) (h : ∀ a x, (f a x).2.boot = a.2.boot) (a : β × Dev) : (l.foldl f a).2.boot = a.2.boot := by induction l generalizing a <;> simp_all
@[simp] theorem foldl3_boot {α β γ : Type} (l : List α) (f : γ × β × Dev → α → γ × β × Dev) (h : ∀ a x, (f a x).2.2.boot = a.2.2.boot) (a : γ × β × Dev) : (l.foldl f a).2.2.boot = a.2.2.boot := by induction l generalizing a <;> simp_all
@[simp] theorem glWrite_boot (d : Dev) (e : Nat) (core : Bool) (f : Dev → Dev) (h : ∀ d, (f d).boot = d.boot) : (d.glWrite e core f).boot = d.boot := by
  unfold Dev.glWrite; repeat' split
  all_goals simp [h, Dev.modEp]
@[simp] theorem foldlP_boot {α β : Type} (l : List α) (f : Dev × β → α → Dev × β) (h : ∀ a x, (f a x).1.boot = a.1.boot) (a : Dev × β) : (l.foldl f a).1.boot = a.1.boot := by induction l generalizing a <;> simp_all
@[simp] theorem inTurn_boot (d : Dev) (ids : List Nat) (pool : Dev → Nat → Option Pool) (give : Dev → Nat → Dev) (h : ∀ d i, (give d i).boot = d.boot) : (d.inTurn ids pool give).boot = d.boot := by
  unfold Dev.inTurn
  dsimp only
  rw [foldl_boot _ _ (by intro d i; split <;> simp [h]), foldl2_boot _ _ (by intro a i; split <;> simp [h])]
@[simp] theorem cvuBy_boot (d : Dev) (who : CvuParty) (n : Nat) (o : Bool) (f : Dev → Dev) (h : ∀ d, (f d).boot = d.boot) : (d.cvuBy who n o f).boot = d.boot := by
  unfold Dev.cvuBy; repeat' split
  all_goals simp [h, Dev.modEp, Dev.bump, Dev.setCtr]
@[simp] theorem foldl_reg {α} (l : List α) (f : Dev → α → Dev) (h : ∀ d x, (f d x).reg = d.reg) (d : Dev) : (l.foldl f d).reg = d.reg := by induction l generalizing d <;> simp_all
@[simp] theorem ite_reg (c : Prop) [Decidable c] (a b : Dev) : (if c then a else b).reg = if c then a.reg else b.reg := apply_ite _ _ _ _
@[simp] theorem step1_reg (d : Dev) (c : CmdRef) (is : Cmd → Bool) (f : Dev → Cmd → Dev) (h : ∀ d x, (f d x).reg = d.reg) : (d.step1 c is f).reg = d.reg := by
  unfold Dev.step1; repeat' split
  all_goals simp [h]
@[simp] theorem each_reg {α : Type} (l : List α) (f : Dev → α → Dev) (h : ∀ d x, (f d x).reg = d.reg) (d : Dev) : (d.each l f).reg = d.reg := foldl_reg l f h d
@[simp] theorem foldl2_reg {α β : Type} (l : List α) (f : β × Dev → α → β × Dev) (h : ∀ a x, (f a x).2.reg = a.2.reg) (a : β × Dev) : (l.foldl f a).2.reg = a.2.reg := by induction l generalizing a <;> simp_all
@[simp] theorem foldl3_reg {α β γ : Type} (l : List α) (f : γ × β × Dev → α → γ × β × Dev) (h : ∀ a x, (f a x).2.2.reg = a.2.2.reg) (a : γ × β × Dev) : (l.foldl f a).2.2.reg = a.2.2.reg := by induction l generalizing a <;> simp_all
@[simp] theorem glWrite_reg (d : Dev) (e : Nat) (core : Bool) (f : Dev → Dev) (h : ∀ d, (f d).reg = d.reg) : (d.glWrite e core f).reg = d.reg := by
  unfold Dev.glWrite; repeat' split
  all_goals simp [h, Dev.modEp]
@[simp] theorem foldlP_reg {α β : Type} (l : List α) (f : Dev × β → α → Dev × β) (h : ∀ a x, (f a x).1.reg = a.1.reg) (a : Dev × β) : (l.foldl f a).1.reg = a.1.reg := by induction l generalizing a <;> simp_all
@[simp] theorem inTurn_reg (d : Dev) (ids : List Nat) (pool : Dev → Nat → Option Pool) (give : Dev → Nat → Dev) (h : ∀ d i, (give d i).reg = d.reg) : (d.inTurn ids pool give).reg = d.reg := by
  unfold Dev.inTurn
  dsimp only
  rw [foldl_reg _ _ (by intro d i; split <;> simp [h]), foldl2_reg _ _ (by intro a i; split <;> simp [h])]
@[simp] theorem cvuBy_reg (d : Dev) (who : CvuParty) (n : Nat) (o : Bool) (f : Dev → Dev) (h : ∀ d, (f d).reg = d.reg) : (d.cvuBy who n o f).reg = d.reg := by
  unfold Dev.cvuBy; repeat' split
  all_goals simp [h, Dev.modEp, Dev.bump, Dev.setCtr]
@[simp] theorem foldl_pipes {α} (l : List α) (f : Dev → α → Dev) (h : ∀ d x, (f d x).pipes = d.pipes) (d : Dev) : (l.foldl f d).pipes = d.pipes := by induction l generalizing d <;> simp_all
@[simp] theorem ite_pipes (c : Prop) [Decidable c] (a b : Dev) : (if c then a else b).pipes = if c then a.pipes else b.pipes := apply_ite _ _ _ _
@[simp] theorem step1_pipes (d : Dev) (c : CmdRef) (is : Cmd → Bool) (f : Dev → Cmd → Dev) (h : ∀ d x, (f d x).pipes = d.pipes) : (d.step1 c is f).pipes = d.pipes := by
  unfold Dev.step1; repeat' split
  all_goals simp [h]
@[simp] theorem each_pipes {α : Type} (l : List α) (f : Dev → α → Dev) (h : ∀ d x, (f d x).pipes = d.pipes) (d : Dev) : (d.each l f).pipes = d.pipes := foldl_pipes l f h d
@[simp] theorem foldl2_pipes {α β : Type} (l : List α) (f : β × Dev → α → β × Dev) (h : ∀ a x, (f a x).2.pipes = a.2.pipes) (a : β × Dev) : (l.foldl f a).2.pipes = a.2.pipes := by induction l generalizing a <;> simp_all
@[simp] theorem foldl3_pipes {α β γ : Type} (l : List α) (f : γ × β × Dev → α → γ × β × Dev) (h : ∀ a x, (f a x).2.2.pipes = a.2.2.pipes) (a : γ × β × Dev) : (l.foldl f a).2.2.pipes = a.2.2.pipes := by induction l generalizing a <;> simp_all
@[simp] theorem glWrite_pipes (d : Dev) (e : Nat) (core : Bool) (f : Dev → Dev) (h : ∀ d, (f d).pipes = d.pipes) : (d.glWrite e core f).pipes = d.pipes := by
  unfold Dev.glWrite; repeat' split
  all_goals simp [h, Dev.modEp]
@[simp] theorem foldlP_pipes {α β : Type} (l : List α) (f : Dev × β → α → Dev × β) (h : ∀ a x, (f a x).1.pipes = a.1.pipes) (a : Dev × β) : (l.foldl f a).1.pipes = a.1.pipes := by induction l generalizing a <;> simp_all
@[simp] theorem inTurn_pipes (d : Dev) (ids : List Nat) (pool : Dev → Nat → Option Pool) (give : Dev → Nat → Dev) (h : ∀ d i, (give d i).pipes = d.pipes) : (d.inTurn ids pool give).pipes = d.pipes := by
  unfold Dev.inTurn
  dsimp only
  rw [foldl_pipes _ _ (by intro d i; split <;> simp [h]), foldl2_pipes _ _ (by intro a i; split <;> simp [h])]
@[simp] theorem cvuBy_pipes (d : Dev) (who : CvuParty) (n : Nat) (o : Bool) (f : Dev → Dev) (h : ∀ d, (f d).pipes = d.pipes) : (d.cvuBy who n o f).pipes = d.pipes := by
  unfold Dev.cvuBy; repeat' split
  all_goals simp [h, Dev.modEp, Dev.bump, Dev.setCtr]
@[simp] theorem foldl_tmu {α} (l : List α) (f : Dev → α → Dev) (h : ∀ d x, (f d x).tmu = d.tmu) (d : Dev) : (l.foldl f d).tmu = d.tmu := by induction l generalizing d <;> simp_all
@[simp] theorem ite_tmu (c : Prop) [Decidable c] (a b : Dev) : (if c then a else b).tmu = if c then a.tmu else b.tmu := apply_ite _ _ _ _
@[simp] theorem step1_tmu (d : Dev) (c : CmdRef) (is : Cmd → Bool) (f : Dev → Cmd → Dev) (h : ∀ d x, (f d x).tmu = d.tmu) : (d.step1 c is f).tmu = d.tmu := by
  unfold Dev.step1; repeat' split
  all_goals simp [h]
@[simp] theorem each_tmu {α : Type} (l : List α) (f : Dev → α → Dev) (h : ∀ d x, (f d x).tmu = d.tmu) (d : Dev) : (d.each l f).tmu = d.tmu := foldl_tmu l f h d
@[simp] theorem foldl2_tmu {α β : Type} (l : List α) (f : β × Dev → α → β × Dev) (h : ∀ a x, (f a x).2.tmu = a.2.tmu) (a : β × Dev) : (l.foldl f a).2.tmu = a.2.tmu := by induction l generalizing a <;> simp_all
@[simp] theorem foldl3_tmu {α β γ : Type} (l : List α) (f : γ × β × Dev → α → γ × β × Dev) (h : ∀ a x, (f a x).2.2.tmu = a.2.2.tmu) (a : γ × β × Dev) : (l.foldl f a).2.2.tmu = a.2.2.tmu := by induction l generalizing a <;> simp_all
@[simp] theorem glWrite_tmu (d : Dev) (e : Nat) (core : Bool) (f : Dev → Dev) (h : ∀ d, (f d).tmu = d.tmu) : (d.glWrite e core f).tmu = d.tmu := by
  unfold Dev.glWrite; repeat' split
  all_goals simp [h, Dev.modEp]
@[simp] theorem foldlP_tmu {α β : Type} (l : List α) (f : Dev × β → α → Dev × β) (h : ∀ a x, (f a x).1.tmu = a.1.tmu) (a : Dev × β) : (l.foldl f a).1.tmu = a.1.tmu := by induction l generalizing a <;> simp_all
@[simp] theorem inTurn_tmu (d : Dev) (ids : List Nat) (pool : Dev → Nat → Option Pool) (give : Dev → Nat → Dev) (h : ∀ d i, (give d i).tmu = d.tmu) : (d.inTurn ids pool give).tmu = d.tmu := by
  unfold Dev.inTurn
  dsimp only
  rw [foldl_tmu _ _ (by intro d i; split <;> simp [h]), foldl2_tmu _ _ (by intro a i; split <;> simp [h])]
@[simp] theorem cvuBy_tmu (d : Dev) (who : CvuParty) (n : Nat) (o : Bool) (f : Dev → Dev) (h : ∀ d, (f d).tmu = d.tmu) : (d.cvuBy who n o f).tmu = d.tmu := by
  unfold Dev.cvuBy; repeat' split
  all_goals simp [h, Dev.modEp, Dev.bump, Dev.setCtr]
@[simp] theorem foldl_pte {α} (l : List α) (f : Dev → α → Dev) (h : ∀ d x, (f d x).pte = d.pte) (d : Dev) : (l.foldl f d).pte = d.pte := by induction l generalizing d <;> simp_all
@[simp] theorem ite_pte (c : Prop) [Decidable c] (a b : Dev) : (if c then a else b).pte = if c then a.pte else b.pte := apply_ite _ _ _ _
@[simp] theorem step1_pte (d : Dev) (c : CmdRef) (is : Cmd → Bool) (f : Dev → Cmd → Dev) (h : ∀ d x, (f d x).pte = d.pte) : (d.step1 c is f).pte = d.pte := by
  unfold Dev.step1; repeat' split
  all_goals simp [h]
@[simp] theorem each_pte {α : Type} (l : List α) (f : Dev → α → Dev) (h : ∀ d x, (f d x).pte = d.pte) (d : Dev) : (d.each l f).pte = d.pte := foldl_pte l f h d
@[simp] theorem foldl2_pte {α β : Type} (l : List α) (f : β × Dev → α → β × Dev) (h : ∀ a x, (f a x).2.pte = a.2.pte) (a : β × Dev) : (l.foldl f a).2.pte = a.2.pte := by induction l generalizing a <;> simp_all
@[simp] theorem foldl3_pte {α β γ : Type} (l : List α) (f : γ × β × Dev → α → γ × β × Dev) (h : ∀ a x, (f a x).2.2.pte = a.2.2.pte) (a : γ × β × Dev) : (l.foldl f a).2.2.pte = a.2.2.pte := by induction l generalizing a <;> simp_all
@[simp] theorem glWrite_pte (d : Dev) (e : Nat) (core : Bool) (f : Dev → Dev) (h : ∀ d, (f d).pte = d.pte) : (d.glWrite e core f).pte = d.pte := by
  unfold Dev.glWrite; repeat' split
  all_goals simp [h, Dev.modEp]
@[simp] theorem foldlP_pte {α β : Type} (l : List α) (f : Dev × β → α → Dev × β) (h : ∀ a x, (f a x).1.pte = a.1.pte) (a : Dev × β) : (l.foldl f a).1.pte = a.1.pte := by induction l generalizing a <;> simp_all
@[simp] theorem inTurn_pte (d : Dev) (ids : List Nat) (pool : Dev → Nat → Option Pool) (give : Dev → Nat → Dev) (h : ∀ d i, (give d i).pte = d.pte) : (d.inTurn ids pool give).pte = d.pte := by
  unfold Dev.inTurn
  dsimp only
  rw [foldl_pte _ _ (by intro d i; split <;> simp [h]), foldl2_pte _ _ (by intro a i; split <;> simp [h])]
@[simp] theorem cvuBy_pte (d : Dev) (who : CvuParty) (n : Nat) (o : Bool) (f : Dev → Dev) (h : ∀ d, (f d).pte = d.pte) : (d.cvuBy who n o f).pte = d.pte := by
  unfold Dev.cvuBy; repeat' split
  all_goals simp [h, Dev.modEp, Dev.bump, Dev.setCtr]
@[simp] theorem foldl_pse {α} (l : List α) (f : Dev → α → Dev) (h : ∀ d x, (f d x).pse = d.pse) (d : Dev) : (l.foldl f d).pse = d.pse := by induction l generalizing d <;> simp_all
@[simp] theorem ite_pse (c : Prop) [Decidable c] (a b : Dev) : (if c then a else b).pse = if c then a.pse else b.pse := apply_ite _ _ _ _
@[simp] theorem step1_pse (d : Dev) (c : CmdRef) (is : Cmd → Bool) (f : Dev → Cmd → Dev) (h : ∀ d x, (f d x).pse = d.pse) : (d.step1 c is f).pse = d.pse := by
  unfold Dev.step1; repeat' split
  all_goals simp [h]
@[simp] theorem each_pse {α : Type} (l : List α) (f : Dev → α → Dev) (h : ∀ d x, (f d x).pse = d.pse) (d : Dev) : (d.each l f).pse = d.pse := foldl_pse l f h d
@[simp] theorem foldl2_pse {α β : Type} (l : List α) (f : β × Dev → α → β × Dev) (h : ∀ a x, (f a x).2.pse = a.2.pse) (a : β × Dev) : (l.foldl f a).2.pse = a.2.pse := by induction l generalizing a <;> simp_all
@[simp] theorem foldl3_pse {α β γ : Type} (l : List α) (f : γ × β × Dev → α → γ × β × Dev) (h : ∀ a x, (f a x).2.2.pse = a.2.2.pse) (a : γ × β × Dev) : (l.foldl f a).2.2.pse = a.2.2.pse := by induction l generalizing a <;> simp_all
@[simp] theorem glWrite_pse (d : Dev) (e : Nat) (core : Bool) (f : Dev → Dev) (h : ∀ d, (f d).pse = d.pse) : (d.glWrite e core f).pse = d.pse := by
  unfold Dev.glWrite; repeat' split
  all_goals simp [h, Dev.modEp]
@[simp] theorem foldlP_pse {α β : Type} (l : List α) (f : Dev × β → α → Dev × β) (h : ∀ a x, (f a x).1.pse = a.1.pse) (a : Dev × β) : (l.foldl f a).1.pse = a.1.pse := by induction l generalizing a <;> simp_all
@[simp] theorem inTurn_pse (d : Dev) (ids : List Nat) (pool : Dev → Nat → Option Pool) (give : Dev → Nat → Dev) (h : ∀ d i, (give d i).pse = d.pse) : (d.inTurn ids pool give).pse = d.pse := by
  unfold Dev.inTurn
  dsimp only
  rw [foldl_pse _ _ (by intro d i; split <;> simp [h]), foldl2_pse _ _ (by intro a i; split <;> simp [h])]
@[simp] theorem cvuBy_pse (d : Dev) (who : CvuParty) (n : Nat) (o : Bool) (f : Dev → Dev) (h : ∀ d, (f d).pse = d.pse) : (d.cvuBy who n o f).pse = d.pse := by
  unfold Dev.cvuBy; repeat' split
  all_goals simp [h, Dev.modEp, Dev.bump, Dev.setCtr]
@[simp] theorem foldl_rle {α} (l : List α) (f : Dev → α → Dev) (h : ∀ d x, (f d x).rle = d.rle) (d : Dev) : (l.foldl f d).rle = d.rle := by induction l generalizing d <;> simp_all
@[simp] theorem ite_rle (c : Prop) [Decidable c] (a b : Dev) : (if c then a else b).rle = if c then a.rle else b.rle := apply_ite _ _ _ _
@[simp] theorem step1_rle (d : Dev) (c : CmdRef) (is : Cmd → Bool) (f : Dev → Cmd → Dev) (h : ∀ d x, (f d x).rle = d.rle) : (d.step1 c is f).rle = d.rle := by
  unfold Dev.step1; repeat' split
  all_goals simp [h]
@[simp] theorem each_rle {α : Type} (l : List α) (f : Dev → α → Dev) (h : ∀ d x, (f d x).rle = d.rle) (d : Dev) : (d.each l f).rle = d.rle := foldl_rle l f h d
@[simp] theorem foldl2_rle {α β : Type} (l : List α) (f : β × Dev → α → β × Dev) (h : ∀ a x, (f a x).2.rle = a.2.rle) (a : β × Dev) : (l.foldl f a).2.rle = a.2.rle := by induction l generalizing a <;> simp_all
@[simp] theorem foldl3_rle {α β γ : Type} (l : List α) (f : γ × β × Dev → α → γ × β × Dev) (h : ∀ a x, (f a x).2.2.rle = a.2.2.rle) (a : γ × β × Dev) : (l.foldl f a).2.2.rle = a.2.2.rle := by induction l generalizing a <;> simp_all
@[simp] theorem glWrite_rle (d : Dev) (e : Nat) (core : Bool) (f : Dev → Dev) (h : ∀ d, (f d).rle = d.rle) : (d.glWrite e core f).rle = d.rle := by
  unfold Dev.glWrite; repeat' split
  all_goals simp [h, Dev.modEp]
@[simp] theorem foldlP_rle {α β : Type} (l : List α) (f : Dev × β → α → Dev × β) (h : ∀ a x, (f a x).1.rle = a.1.rle) (a : Dev × β) : (l.foldl f a).1.rle = a.1.rle := by induction l generalizing a <;> simp_all
@[simp] theorem inTurn_rle (d : Dev) (ids : List Nat) (pool : Dev → Nat → Option Pool) (give : Dev → Nat → Dev) (h : ∀ d i, (give d i).rle = d.rle) : (d.inTurn ids pool give).rle = d.rle := by
  unfold Dev.inTurn
  dsimp only
  rw [foldl_rle _ _ (by intro d i; split <;> simp [h]), foldl2_rle _ _ (by intro a i; split <;> simp [h])]
@[simp] theorem cvuBy_rle (d : Dev) (who : CvuParty) (n : Nat) (o : Bool) (f : Dev → Dev) (h : ∀ d, (f d).rle = d.rle) : (d.cvuBy who n o f).rle = d.rle := by
  unfold Dev.cvuBy; repeat' split
  all_goals simp [h, Dev.modEp, Dev.bump, Dev.setCtr]
@[simp] theorem foldl_lrn {α} (l : List α) (f : Dev → α → Dev) (h : ∀ d x, (f d x).lrn = d.lrn) (d : Dev) : (l.foldl f d).lrn = d.lrn := by induction l generalizing d <;> simp_all
@[simp] theorem ite_lrn (c : Prop) [Decidable c] (a b : Dev) : (if c then a else b).lrn = if c then a.lrn else b.lrn := apply_ite _ _ _ _
@[simp] theorem step1_lrn (d : Dev) (c : CmdRef) (is : Cmd → Bool) (f : Dev → Cmd → Dev) (h : ∀ d x, (f d x).lrn = d.lrn) : (d.step1 c is f).lrn = d.lrn := by
  unfold Dev.step1; repeat' split
  all_goals simp [h]
@[simp] theorem each_lrn {α : Type} (l : List α) (f : Dev → α → Dev) (h : ∀ d x, (f d x).lrn = d.lrn) (d : Dev) : (d.each l f).lrn = d.lrn := foldl_lrn l f h d
@[simp] theorem foldl2_lrn {α β : Type} (l : List α) (f : β × Dev → α → β × Dev) (h : ∀ a x, (f a x).2.lrn = a.2.lrn) (a : β × Dev) : (l.foldl f a).2.lrn = a.2.lrn := by induction l generalizing a <;> simp_all
@[simp] theorem foldl3_lrn {α β γ : Type} (l : List α) (f : γ × β × Dev → α → γ × β × Dev) (h : ∀ a x, (f a x).2.2.lrn = a.2.2.lrn) (a : γ × β × Dev) : (l.foldl f a).2.2.lrn = a.2.2.lrn := by induction l generalizing a <;> simp_all
@[simp] theorem glWrite_lrn (d : Dev) (e : Nat) (core : Bool) (f : Dev → Dev) (h : ∀ d, (f d).lrn = d.lrn) : (d.glWrite e core f).lrn = d.lrn := by
  unfold Dev.glWrite; repeat' split
  all_goals simp [h, Dev.modEp]
@[simp] theorem foldlP_lrn {α β : Type} (l : List α) (f : Dev × β → α → Dev × β) (h : ∀ a x, (f a x).1.lrn = a.1.lrn) (a : Dev × β) : (l.foldl f a).1.lrn = a.1.lrn := by induction l generalizing a <;> simp_all
@[simp] theorem inTurn_lrn (d : Dev) (ids : List Nat) (pool : Dev → Nat → Option Pool) (give : Dev → Nat → Dev) (h : ∀ d i, (give d i).lrn = d.lrn) : (d.inTurn ids pool give).lrn = d.lrn := by
  unfold Dev.inTurn
  dsimp only
  rw [foldl_lrn _ _ (by intro d i; split <;> simp [h]), foldl2_lrn _ _ (by intro a i; split <;> simp [h])]
@[simp] theorem cvuBy_lrn (d : Dev) (who : CvuParty) (n : Nat) (o : Bool) (f : Dev → Dev) (h : ∀ d, (f d).lrn = d.lrn) : (d.cvuBy who n o f).lrn = d.lrn := by
  unfold Dev.cvuBy; repeat' split
  all_goals simp [h, Dev.modEp, Dev.bump, Dev.setCtr]
@[simp] theorem foldl_dp {α} (l : List α) (f : Dev → α → Dev) (h : ∀ d x, (f d x).dp = d.dp) (d : Dev) : (l.foldl f d).dp = d.dp := by induction l generalizing d <;> simp_all
@[simp] theorem ite_dp (c : Prop) [Decidable c] (a b : Dev) : (if c then a else b).dp = if c then a.dp else b.dp := apply_ite _ _ _ _
@[simp] theorem step1_dp (d : Dev) (c : CmdRef) (is : Cmd → Bool) (f : Dev → Cmd → Dev) (h : ∀ d x, (f d x).dp = d.dp) : (d.step1 c is f).dp = d.dp := by
  unfold Dev.step1; repeat' split
  all_goals simp [h]
@[simp] theorem each_dp {α : Type} (l : List α) (f : Dev → α → Dev) (h : ∀ d x, (f d x).dp = d.dp) (d : Dev) : (d.each l f).dp = d.dp := foldl_dp l f h d
@[simp] theorem foldl2_dp {α β : Type} (l : List α) (f : β × Dev → α → β × Dev) (h : ∀ a x, (f a x).2.dp = a.2.dp) (a : β × Dev) : (l.foldl f a).2.dp = a.2.dp := by induction l generalizing a <;> simp_all
@[simp] theorem foldl3_dp {α β γ : Type} (l : List α) (f : γ × β × Dev → α → γ × β × Dev) (h : ∀ a x, (f a x).2.2.dp = a.2.2.dp) (a : γ × β × Dev) : (l.foldl f a).2.2.dp = a.2.2.dp := by induction l generalizing a <;> simp_all
@[simp] theorem glWrite_dp (d : Dev) (e : Nat) (core : Bool) (f : Dev → Dev) (h : ∀ d, (f d).dp = d.dp) : (d.glWrite e core f).dp = d.dp := by
  unfold Dev.glWrite; repeat' split
  all_goals simp [h, Dev.modEp]
@[simp] theorem foldlP_dp {α β : Type} (l : List α) (f : Dev × β → α → Dev × β) (h : ∀ a x, (f a x).1.dp = a.1.dp) (a : Dev × β) : (l.foldl f a).1.dp = a.1.dp := by induction l generalizing a <;> simp_all
@[simp] theorem inTurn_dp (d : Dev) (ids : List Nat) (pool : Dev → Nat → Option Pool) (give : Dev → Nat → Dev) (h : ∀ d i, (give d i).dp = d.dp) : (d.inTurn ids pool give).dp = d.dp := by
  unfold Dev.inTurn
  dsimp only
  rw [foldl_dp _ _ (by intro d i; split <;> simp [h]), foldl2_dp _ _ (by intro a i; split <;> simp [h])]
@[simp] theorem cvuBy_dp (d : Dev) (who : CvuParty) (n : Nat) (o : Bool) (f : Dev → Dev) (h : ∀ d, (f d).dp = d.dp) : (d.cvuBy who n o f).dp = d.dp := by
  unfold Dev.cvuBy; repeat' split
  all_goals simp [h, Dev.modEp, Dev.bump, Dev.setCtr]
@[simp] theorem foldl_swc {α} (l : List α) (f : Dev → α → Dev) (h : ∀ d x, (f d x).swc = d.swc) (d : Dev) : (l.foldl f d).swc = d.swc := by induction l generalizing d <;> simp_all
@[simp] theorem ite_swc (c : Prop) [Decidable c] (a b : Dev) : (if c then a else b).swc = if c then a.swc else b.swc := apply_ite _ _ _ _
@[simp] theorem step1_swc (d : Dev) (c : CmdRef) (is : Cmd → Bool) (f : Dev → Cmd → Dev) (h : ∀ d x, (f d x).swc = d.swc) : (d.step1 c is f).swc = d.swc := by
  unfold Dev.step1; repeat' split
  all_goals simp [h]
@[simp] theorem each_swc {α : Type} (l : List α) (f : Dev → α → Dev) (h : ∀ d x, (f d x).swc = d.swc) (d : Dev) : (d.each l f).swc = d.swc := foldl_swc l f h d
@[simp] theorem foldl2_swc {α β : Type} (l : List α) (f : β × Dev → α → β × Dev) (h : ∀ a x, (f a x).2.swc = a.2.swc) (a : β × Dev) : (l.foldl f a).2.swc = a.2.swc := by induction l generalizing a <;> simp_all
@[simp] theorem foldl3_swc {α β γ : Type} (l : List α) (f : γ × β × Dev → α → γ × β × Dev) (h : ∀ a x, (f a x).2.2.swc = a.2.2.swc) (a : γ × β × Dev) : (l.foldl f a).2.2.swc = a.2.2.swc := by induction l generalizing a <;> simp_all
@[simp] theorem glWrite_swc (d : Dev) (e : Nat) (core : Bool) (f : Dev → Dev) (h : ∀ d, (f d).swc = d.swc) : (d.glWrite e core f).swc = d.swc := by
  unfold Dev.glWrite; repeat' split
  all_goals simp [h, Dev.modEp]
@[simp] theorem foldlP_swc {α β : Type} (l : List α) (f : Dev × β → α → Dev × β) (h : ∀ a x, (f a x).1.swc = a.1.swc) (a : Dev × β) : (l.foldl f a).1.swc = a.1.swc := by induction l generalizing a <;> simp_all
@[simp] theorem inTurn_swc (d : Dev) (ids : List Nat) (pool : Dev → Nat → Option Pool) (give : Dev → Nat → Dev) (h : ∀ d i, (give d i).swc = d.swc) : (d.inTurn ids pool give).swc = d.swc := by
  unfold Dev.inTurn
  dsimp only
  rw [foldl_swc _ _ (by intro d i; split <;> simp [h]), foldl2_swc _ _ (by intro a i; split <;> simp [h])]
@[simp] theorem cvuBy_swc (d : Dev) (who : CvuParty) (n : Nat) (o : Bool) (f : Dev → Dev) (h : ∀ d, (f d).swc = d.swc) : (d.cvuBy who n o f).swc = d.swc := by
  unfold Dev.cvuBy; repeat' split
  all_goals simp [h, Dev.modEp, Dev.bump, Dev.setCtr]
@[simp] theorem foldl_bpm {α} (l : List α) (f : Dev → α → Dev) (h : ∀ d x, (f d x).bpm = d.bpm) (d : Dev) : (l.foldl f d).bpm = d.bpm := by induction l generalizing d <;> simp_all
@[simp] theorem ite_bpm (c : Prop) [Decidable c] (a b : Dev) : (if c then a else b).bpm = if c then a.bpm else b.bpm := apply_ite _ _ _ _
@[simp] theorem step1_bpm (d : Dev) (c : CmdRef) (is : Cmd → Bool) (f : Dev → Cmd → Dev) (h : ∀ d x, (f d x).bpm = d.bpm) : (d.step1 c is f).bpm = d.bpm := by
  unfold Dev.step1; repeat' split
  all_goals simp [h]
@[simp] theorem each_bpm {α : Type} (l : List α) (f : Dev → α → Dev) (h : ∀ d x, (f d x).bpm = d.bpm) (d : Dev) : (d.each l f).bpm = d.bpm := foldl_bpm l f h d
@[simp] theorem foldl2_bpm {α β : Type} (l : List α) (f : β × Dev → α → β × Dev) (h : ∀ a x, (f a x).2.bpm = a.2.bpm) (a : β × Dev) : (l.foldl f a).2.bpm = a.2.bpm := by induction l generalizing a <;> simp_all
@[simp] theorem foldl3_bpm {α β γ : Type} (l : List α) (f : γ × β × Dev → α → γ × β × Dev) (h : ∀ a x, (f a x).2.2.bpm = a.2.2.bpm) (a : γ × β × Dev) : (l.foldl f a).2.2.bpm = a.2.2.bpm := by induction l generalizing a <;> simp_all
@[simp] theorem glWrite_bpm (d : Dev) (e : Nat) (core : Bool) (f : Dev → Dev) (h : ∀ d, (f d).bpm = d.bpm) : (d.glWrite e core f).bpm = d.bpm := by
  unfold Dev.glWrite; repeat' split
  all_goals simp [h, Dev.modEp]
@[simp] theorem foldlP_bpm {α β : Type} (l : List α) (f : Dev × β → α → Dev × β) (h : ∀ a x, (f a x).1.bpm = a.1.bpm) (a : Dev × β) : (l.foldl f a).1.bpm = a.1.bpm := by induction l generalizing a <;> simp_all
@[simp] theorem cvuBy_bpm (d : Dev) (who : CvuParty) (n : Nat) (o : Bool) (f : Dev → Dev) (h : ∀ d, (f d).bpm = d.bpm) : (d.cvuBy who n o f).bpm = d.bpm := by
  unfold Dev.cvuBy; repeat' split
  all_goals simp [h, Dev.modEp, Dev.bump, Dev.setCtr]
@[simp] theorem foldl_fcps {α} (l : List α) (f : Dev → α → Dev) (h : ∀ d x, (f d x).fcps = d.fcps) (d : Dev) : (l.foldl f d).fcps = d.fcps := by induction l generalizing d <;> simp_all
@[simp] theorem ite_fcps (c : Prop) [Decidable c] (a b : Dev) : (if c then a else b).fcps = if c then a.fcps else b.fcps := apply_ite _ _ _ _
@[simp] theorem step1_fcps (d : Dev) (c : CmdRef) (is : Cmd → Bool) (f : Dev → Cmd → Dev) (h : ∀ d x, (f d x).fcps = d.fcps) : (d.step1 c is f).fcps = d.fcps := by
  unfold Dev.step1; repeat' split
  all_goals simp [h]
@[simp] theorem each_fcps {α : Type} (l : List α) (f : Dev → α → Dev) (h : ∀ d x, (f d x).fcps = d.fcps) (d : Dev) : (d.each l f).fcps = d.fcps := foldl_fcps l f h d
@[simp] theorem foldl2_fcps {α β : Type} (l : List α) (f : β × Dev → α → β × Dev) (h : ∀ a x, (f a x).2.fcps = a.2.fcps) (a : β × Dev) : (l.foldl f a).2.fcps = a.2.fcps := by induction l generalizing a <;> simp_all
@[simp] theorem foldl3_fcps {α β γ : Type} (l : List α) (f : γ × β × Dev → α → γ × β × Dev) (h : ∀ a x, (f a x).2.2.fcps = a.2.2.fcps) (a : γ × β × Dev) : (l.foldl f a).2.2.fcps = a.2.2.fcps := by induction l generalizing a <;> simp_all
@[simp] theorem glWrite_fcps (d : Dev) (e : Nat) (core : Bool) (f : Dev → Dev) (h : ∀ d, (f d).fcps = d.fcps) : (d.glWrite e core f).fcps = d.fcps := by
  unfold Dev.glWrite; repeat' split
  all_goals simp [h, Dev.modEp]
@[simp] theorem foldlP_fcps {α β : Type} (l : List α) (f : Dev × β → α → Dev × β) (h : ∀ a x, (f a x).1.fcps = a.1.fcps) (a : Dev × β) : (l.foldl f a).1.fcps = a.1.fcps := by induction l generalizing a <;> simp_all
@[simp] theorem inTurn_fcps (d : Dev) (ids : List Nat) (pool : Dev → Nat → Option Pool) (give : Dev → Nat → Dev) (h : ∀ d i, (give d i).fcps = d.fcps) : (d.inTurn ids pool give).fcps = d.fcps := by
  unfold Dev.inTurn
  dsimp only
  rw [foldl_fcps _ _ (by intro d i; split <;> simp [h]), foldl2_fcps _ _ (by intro a i; split <;> simp [h])]
@[simp] theorem cvuBy_fcps (d : Dev) (who : CvuParty) (n : Nat) (o : Bool) (f : Dev → Dev) (h : ∀ d, (f d).fcps = d.fcps) : (d.cvuBy who n o f).fcps = d.fcps := by
  unfold Dev.cvuBy; repeat' split
  all_goals simp [h, Dev.modEp, Dev.bump, Dev.setCtr]
@[simp] theorem foldl_spw {α} (l : List α) (f : Dev → α → Dev) (h : ∀ d x, (f d x).spw = d.spw) (d : Dev) : (l.foldl f d).spw = d.spw := by induction l generalizing d <;> simp_all
@[simp] theorem ite_spw (c : Prop) [Decidable c] (a b : Dev) : (if c then a else b).spw = if c then a.spw else b.spw := apply_ite _ _ _ _
@[simp] theorem step1_spw (d : Dev) (c : CmdRef) (is : Cmd → Bool) (f : Dev → Cmd → Dev) (h : ∀ d x, (f d x).spw = d.spw) : (d.step1 c is f).spw = d.spw := by
  unfold Dev.step1; repeat' split
  all_goals simp [h]
@[simp] theorem each_spw {α : Type} (l : List α) (f : Dev → α → Dev) (h : ∀ d x, (f d x).spw = d.spw) (d : Dev) : (d.each l f).spw = d.spw := foldl_spw l f h d
@[simp] theorem foldl2_spw {α β : Type} (l : List α) (f : β × Dev → α → β × Dev) (h : ∀ a x, (f a x).2.spw = a.2.spw) (a : β × Dev) : (l.foldl f a).2.spw = a.2.spw := by induction l generalizing a <;> simp_all
@[simp] theorem foldl3_spw {α β γ : Type} (l : List α) (f : γ × β × Dev → α → γ × β × Dev) (h : ∀ a x, (f a x).2.2.spw = a.2.2.spw) (a : γ × β × Dev) : (l.foldl f a).2.2.spw = a.2.2.spw := by induction l generalizing a <;> simp_all
@[simp] theorem glWrite_spw (d : Dev) (e : Nat) (core : Bool) (f : Dev → Dev) (h : ∀ d, (f d).spw = d.spw) : (d.glWrite e core f).spw = d.spw := by
  unfold Dev.glWrite; repeat' split
  all_goals simp [h, Dev.modEp]
@[simp] theorem foldlP_spw {α β : Type} (l : List α) (f : Dev × β → α → Dev × β) (h : ∀ a x, (f a x).1.spw = a.1.spw) (a : Dev × β) : (l.foldl f a).1.spw = a.1.spw := by induction l generalizing a <;> simp_all
@[simp] theorem inTurn_spw (d : Dev) (ids : List Nat) (pool : Dev → Nat → Option Pool) (give : Dev → Nat → Dev) (h : ∀ d i, (give d i).spw = d.spw) : (d.inTurn ids pool give).spw = d.spw := by
  unfold Dev.inTurn
  dsimp only
  rw [foldl_spw _ _ (by intro d i; split <;> simp [h]), foldl2_spw _ _ (by intro a i; split <;> simp [h])]
@[simp] theorem cvuBy_spw (d : Dev) (who : CvuParty) (n : Nat) (o : Bool) (f : Dev → Dev) (h : ∀ d, (f d).spw = d.spw) : (d.cvuBy who n o f).spw = d.spw := by
  unfold Dev.cvuBy; repeat' split
  all_goals simp [h, Dev.modEp, Dev.bump, Dev.setCtr]
@[simp] theorem foldl_esc {α} (l : List α) (f : Dev → α → Dev) (h : ∀ d x, (f d x).esc = d.esc) (d : Dev) : (l.foldl f d).esc = d.esc := by induction l generalizing d <;> simp_all
@[simp] theorem ite_esc (c : Prop) [Decidable c] (a b : Dev) : (if c then a else b).esc = if c then a.esc else b.esc := apply_ite _ _ _ _
@[simp] theorem step1_esc (d : Dev) (c : CmdRef) (is : Cmd → Bool) (f : Dev → Cmd → Dev) (h : ∀ d x, (f d x).esc = d.esc) : (d.step1 c is f).esc = d.esc := by
  unfold Dev.step1; repeat' split
  all_goals simp [h]
@[simp] theorem each_esc {α : Type} (l : List α) (f : Dev → α → Dev) (h : ∀ d x, (f d x).esc = d.esc) (d : Dev) : (d.each l f).esc = d.esc := foldl_esc l f h d
@[simp] theorem foldl2_esc {α β : Type} (l : List α) (f : β × Dev → α → β × Dev) (h : ∀ a x, (f a x).2.esc = a.2.esc) (a : β × Dev) : (l.foldl f a).2.esc = a.2.esc := by induction l generalizing a <;> simp_all
@[simp] theorem foldl3_esc {α β γ : Type} (l : List α) (f : γ × β × Dev → α → γ × β × Dev) (h : ∀ a x, (f a x).2.2.esc = a.2.2.esc) (a : γ × β × Dev) : (l.foldl f a).2.2.esc = a.2.2.esc := by induction l generalizing a <;> simp_all
@[simp] theorem glWrite_esc (d : Dev) (e : Nat) (core : Bool) (f : Dev → Dev) (h : ∀ d, (f d).esc = d.esc) : (d.glWrite e core f).esc = d.esc := by
  unfold Dev.glWrite; repeat' split
  all_goals simp [h, Dev.modEp]
@[simp] theorem foldlP_esc {α β : Type} (l : List α) (f : Dev × β → α → Dev × β) (h : ∀ a x, (f a x).1.esc = a.1.esc) (a : Dev × β) : (l.foldl f a).1.esc = a.1.esc := by induction l generalizing a <;> simp_all
@[simp] theorem inTurn_esc (d : Dev) (ids : List Nat) (pool : Dev → Nat → Option Pool) (give : Dev → Nat → Dev) (h : ∀ d i, (give d i).esc = d.esc) : (d.inTurn ids pool give).esc = d.esc := by
  unfold Dev.inTurn
  dsimp only
  rw [foldl_esc _ _ (by intro d i; split <;> simp [h]), foldl2_esc _ _ (by intro a i; split <;> simp [h])]
@[simp] theorem cvuBy_esc (d : Dev) (who : CvuParty) (n : Nat) (o : Bool) (f : Dev → Dev) (h : ∀ d, (f d).esc = d.esc) : (d.cvuBy who n o f).esc = d.esc := by
  unfold Dev.cvuBy; repeat' split
  all_goals simp [h, Dev.modEp, Dev.bump, Dev.setCtr]
@[simp] theorem foldl_mrp {α} (l : List α) (f : Dev → α → Dev) (h : ∀ d x, (f d x).mrp = d.mrp) (d : Dev) : (l.foldl f d).mrp = d.mrp := by induction l generalizing d <;> simp_all
@[simp] theorem ite_mrp (c : Prop) [Decidable c] (a b : Dev) : (if c then a else b).mrp = if c then a.mrp else b.mrp := apply_ite _ _ _ _
@[simp] theorem step1_mrp (d : Dev) (c : CmdRef) (is : Cmd → Bool) (f : Dev → Cmd → Dev) (h : ∀ d x, (f d x).mrp = d.mrp) : (d.step1 c is f).mrp = d.mrp := by
  unfold Dev.step1; repeat' split
  all_goals simp [h]
@[simp] theorem each_mrp {α : Type} (l : List α) (f : Dev → α → Dev) (h : ∀ d x, (f d x).mrp = d.mrp) (d : Dev) : (d.each l f).mrp = d.mrp := foldl_mrp l f h d
@[simp] theorem foldl2_mrp {α β : Type} (l : List α) (f : β × Dev → α → β × Dev) (h : ∀ a x, (f a x).2.mrp = a.2.mrp) (a : β × Dev) : (l.foldl f a).2.mrp = a.2.mrp := by induction l generalizing a <;> simp_all
@[simp] theorem foldl3_mrp {α β γ : Type} (l : List α) (f : γ × β × Dev → α → γ × β × Dev) (h : ∀ a x, (f a x).2.2.mrp = a.2.2.mrp) (a : γ × β × Dev) : (l.foldl f a).2.2.mrp = a.2.2.mrp := by induction l generalizing a <;> simp_all
@[simp] theorem glWrite_mrp (d : Dev) (e : Nat) (core : Bool) (f : Dev → Dev) (h : ∀ d, (f d).mrp = d.mrp) : (d.glWrite e core f).mrp = d.mrp := by
  unfold Dev.glWrite; repeat' split
  all_goals simp [h, Dev.modEp]
@[simp] theorem foldlP_mrp {α β : Type} (l : List α) (f : Dev × β → α → Dev × β) (h : ∀ a x, (f a x).1.mrp = a.1.mrp) (a : Dev × β) : (l.foldl f a).1.mrp = a.1.mrp := by induction l generalizing a <;> simp_all
@[simp] theorem inTurn_mrp (d : Dev) (ids : List Nat) (pool : Dev → Nat → Option Pool) (give : Dev → Nat → Dev) (h : ∀ d i, (give d i).mrp = d.mrp) : (d.inTurn ids pool give).mrp = d.mrp := by
  unfold Dev.inTurn
  dsimp only
  rw [foldl_mrp _ _ (by intro d i; split <;> simp [h]), foldl2_mrp _ _ (by intro a i; split <;> simp [h])]
@[simp] theorem cvuBy_mrp (d : Dev) (who : CvuParty) (n : Nat) (o : Bool) (f : Dev → Dev) (h : ∀ d, (f d).mrp = d.mrp) : (d.cvuBy who n o f).mrp = d.mrp := by
  unfold Dev.cvuBy; repeat' split
  all_goals simp [h, Dev.modEp, Dev.bump, Dev.setCtr]
@[simp] theorem foldl_cvu {α} (l : List α) (f : Dev → α → Dev) (h : ∀ d x, (f d x).cvu = d.cvu) (d : Dev) : (l.foldl f d).cvu = d.cvu := by induction l generalizing d <;> simp_all
@[simp] theorem ite_cvu (c : Prop) [Decidable c] (a b : Dev) : (if c then a else b).cvu = if c then a.cvu else b.cvu := apply_ite _ _ _ _
@[simp] theorem step1_cvu (d : Dev) (c : CmdRef) (is : Cmd → Bool) (f : Dev → Cmd → Dev) (h : ∀ d x, (f d x).cvu = d.cvu) : (d.step1 c is f).cvu = d.cvu := by
  unfold Dev.step1; repeat' split
  all_goals simp [h]
@[simp] theorem each_cvu {α : Type} (l : List α) (f : Dev → α → Dev) (h : ∀ d x, (f d x).cvu = d.cvu) (d : Dev) : (d.each l f).cvu = d.cvu := foldl_cvu l f h d
@[simp] theorem foldl2_cvu {α β : Type} (l : List α) (f : β × Dev → α → β × Dev) (h : ∀ a x, (f a x).2.cvu = a.2.cvu) (a : β × Dev) : (l.foldl f a).2.cvu = a.2.cvu := by induction l generalizing a <;> simp_all
@[simp] theorem foldl3_cvu {α β γ : Type} (l : List α) (f : γ × β × Dev → α → γ × β × Dev) (h : ∀ a x, (f a x).2.2.cvu = a.2.2.cvu) (a : γ × β × Dev) : (l.foldl f a).2.2.cvu = a.2.2.cvu := by induction l generalizing a <;> simp_all
@[simp] theorem glWrite_cvu (d : Dev) (e : Nat) (core : Bool) (f : Dev → Dev) (h : ∀ d, (f d).cvu = d.cvu) : (d.glWrite e core f).cvu = d.cvu := by
  unfold Dev.glWrite; repeat' split
  all_goals simp [h, Dev.modEp]
@[simp] theorem foldlP_cvu {α β : Type} (l : List α) (f : Dev × β → α → Dev × β) (h : ∀ a x, (f a x).1.cvu = a.1.cvu) (a : Dev × β) : (l.foldl f a).1.cvu = a.1.cvu := by induction l generalizing a <;> simp_all
@[simp] theorem inTurn_cvu (d : Dev) (ids : List Nat) (pool : Dev → Nat → Option Pool) (give : Dev → Nat → Dev) (h : ∀ d i, (give d i).cvu = d.cvu) : (d.inTurn ids pool give).cvu = d.cvu := by
  unfold Dev.inTurn
  dsimp only
  rw [foldl_cvu _ _ (by intro d i; split <;> simp [h]), foldl2_cvu _ _ (by intro a i; split <;> simp [h])]
@[simp] theorem cvuBy_cvu (d : Dev) (who : CvuParty) (n : Nat) (o : Bool) (f : Dev → Dev) (h : ∀ d, (f d).cvu = d.cvu) : (d.cvuBy who n o f).cvu = d.cvu := by
  unfold Dev.cvuBy; repeat' split
  all_goals simp [h, Dev.modEp, Dev.bump, Dev.setCtr]
@[simp] theorem foldl_ctrs {α} (l : List α) (f : Dev → α → Dev) (h : ∀ d x, (f d x).ctrs = d.ctrs) (d : Dev) : (l.foldl f d).ctrs = d.ctrs := by induction l generalizing d <;> simp_all
@[simp] theorem ite_ctrs (c : Prop) [Decidable c] (a b : Dev) : (if c then a else b).ctrs = if c then a.ctrs else b.ctrs := apply_ite _ _ _ _
@[simp] theorem step1_ctrs (d : Dev) (c : CmdRef) (is : Cmd → Bool) (f : Dev → Cmd → Dev) (h : ∀ d x, (f d x).ctrs = d.ctrs) : (d.step1 c is f).ctrs = d.ctrs := by
  unfold Dev.step1; repeat' split
  all_goals simp [h]
@[simp] theorem each_ctrs {α : Type} (l : List α) (f : Dev → α → Dev) (h : ∀ d x, (f d x).ctrs = d.ctrs) (d : Dev) : (d.each l f).ctrs = d.ctrs := foldl_ctrs l f h d
@[simp] theorem foldl2_ctrs {α β : Type} (l : List α) (f : β × Dev → α → β × Dev) (h : ∀ a x, (f a x).2.ctrs = a.2.ctrs) (a : β × Dev) : (l.foldl f a).2.ctrs = a.2.ctrs := by induction l generalizing a <;> simp_all
@[simp] theorem foldl3_ctrs {α β γ : Type} (l : List α) (f : γ × β × Dev → α → γ × β × Dev) (h : ∀ a x, (f a x).2.2.ctrs = a.2.2.ctrs) (a : γ × β × Dev) : (l.foldl f a).2.2.ctrs = a.2.2.ctrs := by induction l generalizing a <;> simp_all
@[simp] theorem glWrite_ctrs (d : Dev) (e : Nat) (core : Bool) (f : Dev → Dev) (h : ∀ d, (f d).ctrs = d.ctrs) : (d.glWrite e core f).ctrs = d.ctrs := by
  unfold Dev.glWrite; repeat' split
  all_goals simp [h, Dev.modEp]
@[simp] theorem foldlP_ctrs {α β : Type} (l : List α) (f : Dev × β → α → Dev × β) (h : ∀ a x, (f a x).1.ctrs = a.1.ctrs) (a : Dev × β) : (l.foldl f a).1.ctrs = a.1.ctrs := by induction l generalizing a <;> simp_all
@[simp] theorem inTurn_ctrs (d : Dev) (ids : List Nat) (pool : Dev → Nat → Option Pool) (give : Dev → Nat → Dev) (h : ∀ d i, (give d i).ctrs = d.ctrs) : (d.inTurn ids pool give).ctrs = d.ctrs := by
  unfold Dev.inTurn
  dsimp only
  rw [foldl_ctrs _ _ (by intro d i; split <;> simp [h]), foldl2_ctrs _ _ (by intro a i; split <;> simp [h])]
@[simp] theorem foldl_freeSeq {α} (l : List α) (f : Dev → α → Dev) (h : ∀ d x, (f d x).freeSeq = d.freeSeq) (d : Dev) : (l.foldl f d).freeSeq = d.freeSeq := by induction l generalizing d <;> simp_all
@[simp] theorem ite_freeSeq (c : Prop) [Decidable c] (a b : Dev) : (if c then a else b).freeSeq = if c then a.freeSeq else b.freeSeq := apply_ite _ _ _ _
@[simp] theorem step1_freeSeq (d : Dev) (c : CmdRef) (is : Cmd → Bool) (f : Dev → Cmd → Dev) (h : ∀ d x, (f d x).freeSeq = d.freeSeq) : (d.step1 c is f).freeSeq = d.freeSeq := by
  unfold Dev.step1; repeat' split
  all_goals simp [h]
@[simp] theorem each_freeSeq {α : Type} (l : List α) (f : Dev → α → Dev) (h : ∀ d x, (f d x).freeSeq = d.freeSeq) (d : Dev) : (d.each l f).freeSeq = d.freeSeq := foldl_freeSeq l f h d
@[simp] theorem foldl2_freeSeq {α β : Type} (l : List α) (f : β × Dev → α → β × Dev) (h : ∀ a x, (f a x).2.freeSeq = a.2.freeSeq) (a : β × Dev) : (l.foldl f a).2.freeSeq = a.2.freeSeq := by induction l generalizing a <;> simp_all
@[simp] theorem foldl3_freeSeq {α β γ : Type} (l : List α) (f : γ × β × Dev → α → γ × β × Dev) (h : ∀ a x, (f a x).2.2.freeSeq = a.2.2.freeSeq) (a : γ × β × Dev) : (l.foldl f a).2.2.freeSeq = a.2.2.freeSeq := by induction l generalizing a <;> simp_all
@[simp] theorem glWrite_freeSeq (d : Dev) (e : Nat) (core : Bool) (f : Dev → Dev) (h : ∀ d, (f d).freeSeq = d.freeSeq) : (d.glWrite e core f).freeSeq = d.freeSeq := by
  unfold Dev.glWrite; repeat' split
  all_goals simp [h, Dev.modEp]
@[simp] theorem foldlP_freeSeq {α β : Type} (l : List α) (f : Dev × β → α → Dev × β) (h : ∀ a x, (f a x).1.freeSeq = a.1.freeSeq) (a : Dev × β) : (l.foldl f a).1.freeSeq = a.1.freeSeq := by induction l generalizing a <;> simp_all
@[simp] theorem inTurn_freeSeq (d : Dev) (ids : List Nat) (pool : Dev → Nat → Option Pool) (give : Dev → Nat → Dev) (h : ∀ d i, (give d i).freeSeq = d.freeSeq) : (d.inTurn ids pool give).freeSeq = d.freeSeq := by
  unfold Dev.inTurn
  dsimp only
  rw [foldl_freeSeq _ _ (by intro d i; split <;> simp [h]), foldl2_freeSeq _ _ (by intro a i; split <;> simp [h])]
@[simp] theorem cvuBy_freeSeq (d : Dev) (who : CvuParty) (n : Nat) (o : Bool) (f : Dev → Dev) (h : ∀ d, (f d).freeSeq = d.freeSeq) : (d.cvuBy who n o f).freeSeq = d.freeSeq := by
  unfold Dev.cvuBy; repeat' split
  all_goals simp [h, Dev.modEp, Dev.bump, Dev.setCtr]
@[simp] theorem foldl_out {α} (l : List α) (f : Dev → α → Dev) (h : ∀ d x, (f d x).out = d.out) (d : Dev) : (l.foldl f d).out = d.out := by induction l generalizing d <;> simp_all
@[simp] theorem ite_out (c : Prop) [Decidable c] (a b : Dev) : (if c then a else b).out = if c then a.out else b.out := apply_ite _ _ _ _
@[simp] theorem step1_out (d : Dev) (c : CmdRef) (is : Cmd → Bool) (f : Dev → Cmd → Dev) (h : ∀ d x, (f d x).out = d.out) : (d.step1 c is f).out = d.out := by
  unfold Dev.step1; repeat' split
  all_goals simp [h]
@[simp] theorem each_out {α : Type} (l : List α) (f : Dev → α → Dev) (h : ∀ d x, (f d x).out = d.out) (d : Dev) : (d.each l f).out = d.out := foldl_out l f h d
@[simp] theorem foldl2_out {α β : Type} (l : List α) (f : β × Dev → α → β × Dev) (h : ∀ a x, (f a x).2.out = a.2.out) (a : β × Dev) : (l.foldl f a).2.out = a.2.out := by induction l generalizing a <;> simp_all
@[simp] theorem foldl3_out {α β γ : Type} (l : List α) (f : γ × β × Dev → α → γ × β × Dev) (h : ∀ a x, (f a x).2.2.out = a.2.2.out) (a : γ × β × Dev) : (l.foldl f a).2.2.out = a.2.2.out := by induction l generalizing a <;> simp_all
@[simp] theorem glWrite_out (d : Dev) (e : Nat) (core : Bool) (f : Dev → Dev) (h : ∀ d, (f d).out = d.out) : (d.glWrite e core f).out = d.out := by
  unfold Dev.glWrite; repeat' split
  all_goals simp [h, Dev.modEp]
@[simp] theorem foldlP_out {α β : Type} (l : List α) (f : Dev × β → α → Dev × β) (h : ∀ a x, (f a x).1.out = a.1.out) (a : Dev × β) : (l.foldl f a).1.out = a.1.out := by induction l generalizing a <;> simp_all
@[simp] theorem inTurn_out (d : Dev) (ids : List Nat) (pool : Dev → Nat → Option Pool) (give : Dev → Nat → Dev) (h : ∀ d i, (give d i).out = d.out) : (d.inTurn ids pool give).out = d.out := by
  unfold Dev.inTurn
  dsimp only
  rw [foldl_out _ _ (by intro d i; split <;> simp [h]), foldl2_out _ _ (by intro a i; split <;> simp [h])]
@[simp] theorem cvuBy_out (d : Dev) (who : CvuParty) (n : Nat) (o : Bool) (f : Dev → Dev) (h : ∀ d, (f d).out = d.out) : (d.cvuBy who n o f).out = d.out := by
  unfold Dev.cvuBy; repeat' split
  all_goals simp [h, Dev.modEp, Dev.bump, Dev.setCtr]

/-! ### Operations -/

@[simp] theorem Dev.modEp_frame (d : Dev) (e : Nat) (f : Endpoint → Endpoint) : ButHif d (Dev.modEp d e f) := by
  simp [ButHif, Dev.modEp]
@[simp] theorem Dev.modCr_frame (d : Dev) (e n : Nat) (f : CmdRing → CmdRing) : ButHif d (Dev.modCr d e n f) := by
  simp [ButHif, Dev.modCr]
@[simp] theorem Dev.modCq_frame (d : Dev) (e n : Nat) (f : CplRing → CplRing) : ButHif d (Dev.modCq d e n f) := by
  simp [ButHif, Dev.modCq]
@[simp] theorem Dev.modRxq_frame (d : Dev) (e q : Nat) (f : PktQueue → PktQueue) : ButHif d (Dev.modRxq d e q f) := by
  simp [ButHif, Dev.modRxq]
@[simp] theorem Dev.modTxq_frame (d : Dev) (e q : Nat) (f : PktQueue → PktQueue) : ButHif d (Dev.modTxq d e q f) := by
  simp [ButHif, Dev.modTxq]
@[simp] theorem Dev.modPolder_frame (d : Dev) (p : Nat) (f : Polder → Polder) : ButPlc d (Dev.modPolder d p f) := by
  simp [ButPlc, Dev.modPolder]
@[simp] theorem Dev.modSrc_frame (d : Dev) (s : Nat) (f : Src → Src) : ButFcr d (Dev.modSrc d s f) := by
  simp [ButFcr, Dev.modSrc]
@[simp] theorem Dev.modPipe_frame (d : Dev) (p : Nat) (f : Pipe → Pipe) : ButPipes d (Dev.modPipe d p f) := by
  simp [ButPipes, Dev.modPipe]
@[simp] theorem Dev.pass_frame (d : Dev) (n : Nat) : ButBalTmu d (Dev.pass d n) := by
  simp [ButBalTmu, Dev.pass]
@[simp] theorem Dev.reach_frame (d : Dev) (t : Nat) : ButBalTmu d (Dev.reach d t) := by
  simp [ButBalTmu, Dev.reach]
@[simp] theorem Dev.setCtr_frame (d : Dev) (c : Ctr) (i v : Nat) : ButCtrs d (Dev.setCtr d c i v) := by
  simp [ButCtrs, Dev.setCtr]
@[simp] theorem Dev.bump_frame (d : Dev) (c : Ctr) (i : Nat) (n : Nat) : ButCtrs d (Dev.bump d c i n) := by
  simp [ButCtrs, Dev.bump]
@[simp] theorem Dev.peak_frame (d : Dev) (c : Ctr) (i v : Nat) : ButCtrs d (Dev.peak d c i v) := by
  simp [ButCtrs, Dev.peak]
@[simp] theorem Dev.emit_frame (d : Dev) (o : Out) : ButOut d (Dev.emit d o) := by
  simp [ButOut, Dev.emit]
@[simp] theorem Dev.free_frame (d : Dev) (w : Nat) : ButFreeSeq d (Dev.free d w).2 := by
  simp [ButFreeSeq, Dev.free]
@[simp] theorem Dev.hostOut_frame (d : Dev) (ep addr : Nat) (bs : List Byte) (err : Bool) : ButOut d (Dev.hostOut d ep addr bs err) := by
  simp [ButOut, Dev.hostOut]
@[simp] theorem Dev.setLive_frame (d : Dev) (s : Nat) (attr : Nat) : ButFcr d (Dev.setLive d s attr) := by
  simp [ButFcr, Dev.setLive]
@[simp] theorem Dev.clearLive_frame (d : Dev) (s : Nat) : ButFcr d (Dev.clearLive d s) := by
  simp [ButFcr, Dev.clearLive]
@[simp] theorem Dev.live_frame (d : Dev) (s : Nat) (on : Bool) (attr : Nat) : ButFcr d (Dev.live d s on attr) := by
  simp [ButFcr, Dev.live]
@[simp] theorem Dev.liveFor_frame (d : Dev) (s : Nat) (ticks : Nat) (attr : Nat) : ButFcr d (Dev.liveFor d s ticks attr) := by
  simp [ButFcr, Dev.liveFor]
@[simp] theorem Dev.liveMs_frame (d : Dev) (s : Nat) (attr : Nat) : ButFcr d (Dev.liveMs d s attr) := by
  simp [ButFcr, Dev.liveMs]
@[simp] theorem Dev.liveCount_frame (d : Dev) (s limit : Nat) (attr : Nat) : ButFcr d (Dev.liveCount d s limit attr) := by
  simp [ButFcr, Dev.liveCount]
@[simp] theorem Dev.untold_frame (d : Dev) (r : Rec) : ButEvr d (Dev.untold d r) := by
  simp [ButEvr, Dev.untold]
@[simp] theorem Dev.pushRec_frame (d : Dev) (r : Rec) : ButEvrCtrs d (Dev.pushRec d r) := by
  unfold Dev.pushRec
  split
  · simp [ButEvrCtrs]
  · dsimp only
    split
    · simp [ButEvrCtrs]
    · simp only [Option.elim]
      split <;> simp [ButEvrCtrs]
@[simp] theorem Dev.recordSev_frame (d : Dev) (code sev : Nat) (who : Who) (source : Option Nat) (data : BitVec 160) (hist : Option Nat) : ButEvrCtrs d (Dev.recordSev d code sev who source data hist) := by
  simp [ButEvrCtrs, Dev.recordSev]
@[simp] theorem Dev.record_frame (d : Dev) (code : Nat) (who : Who) (source : Option Nat) (data : BitVec 160) : ButEvrCtrs d (Dev.record d code who source data) := by
  simp [ButEvrCtrs, Dev.record]
@[simp] theorem Dev.reclass_frame (d : Dev) (s : Nat) : ButFcrEvrCtrs d (Dev.reclass d s) := by
  simp [ButFcrEvrCtrs, Dev.reclass]
@[simp] theorem Dev.modCmd_frame (d : Dev) (c : CmdRef) (f : Cmd → Cmd) : ButHif d (Dev.modCmd d c f) := by
  simp [ButHif, Dev.modCmd]
@[simp] theorem Dev.finish_frame (d : Dev) (c : CmdRef) (o : Done) : ButHif d (Dev.finish d c o) := by
  simp [ButHif, Dev.finish]
@[simp] theorem Dev.park_frame (d : Dev) (c : CmdRef) : ButHif d (Dev.park d c) := by
  simp [ButHif, Dev.park]
@[simp] theorem Dev.ok_frame (d : Dev) (c : CmdRef) (r0 : Nat) (r1 : Nat) (detail : Nat) : ButHif d (Dev.ok d c r0 r1 detail) := by
  simp [ButHif, Dev.ok]
@[simp] theorem Dev.fail_frame (d : Dev) (c : CmdRef) (st : Nat) (detail : Nat) (r0 : Nat) (r1 : Nat) : ButHif d (Dev.fail d c st detail r0 r1) := by
  simp [ButHif, Dev.fail]
@[simp] theorem Dev.badOp_frame (d : Dev) (c : CmdRef) (off : Nat) : ButHif d (Dev.badOp d c off) := by
  simp [ButHif, Dev.badOp]
@[simp] theorem Dev.again_frame (d : Dev) (c : CmdRef) (scratch : List Nat) : ButHif d (Dev.again d c scratch) := by
  simp [ButHif, Dev.again]
@[simp] theorem Dev.okBuf_frame (d : Dev) (c : CmdRef) (err : Bool) (off : Nat) (r0 : Nat) (r1 : Nat) (detail : Nat) : ButHif d (Dev.okBuf d c err off r0 r1 detail) := by
  simp [ButHif, Dev.okBuf]
@[simp] theorem Dev.modCell_frame (d : Dev) (c : Nat) (f : Cell → Cell) : ButBpm d (Dev.modCell d c f) := by
  simp [ButBpm, Dev.modCell]
@[simp] theorem Dev.modList_frame (d : Dev) (f : Nat) (g : FreeList → FreeList) : ButBpm d (Dev.modList d f g) := by
  simp [ButBpm, Dev.modList]
@[simp] theorem Dev.pullHead_frame (d : Dev) (f : Nat) : ButBpm d (Dev.pullHead d f) := by
  simp [ButBpm, Dev.pullHead]
@[simp] theorem Dev.pushChain_frame (d : Dev) (f : Nat) : ButBpm d (Dev.pushChain d f) := by
  unfold Dev.pushChain; (try dsimp only); (repeat' split) <;> first | (simp [ButBpm]; done) | (simp_all [ButBpm]; done) | (simp (disch := (intros; (repeat' split) <;> simp)) [ButBpm]; done)
@[simp] theorem Dev.fillHead_frame (q1 : Nat) (q2 : Nat) (q3 : Dev) : ButBpm q3 (Dev.fillHead q1 q2 q3) := by
  induction q1 generalizing q3 with
  | zero => simp [ButBpm, Dev.fillHead]
  | succ n ih =>
    unfold Dev.fillHead
    split
    · have := ih (q3.pullHead q2); simp_all [ButBpm]
    · simp [ButBpm]
theorem Dev.takeCell_frame (d : Dev) (f : Nat) {t} (h : (Dev.takeCell d f) = some t) : ButBpm d t.2 := by
  revert h; unfold Dev.takeCell; (try dsimp only); (repeat' split) <;> (intro h; first | contradiction | (simp at h; subst h; simp [ButBpm]; done) | (simp_all [ButBpm]; done))
@[simp] theorem Dev.modAcct_frame (d : Dev) (a : Nat) (f : Account → Account) : ButBpm d (Dev.modAcct d a f) := by
  simp [ButBpm, Dev.modAcct]
@[simp] theorem Dev.judge_frame (d : Dev) (a : Nat) : ButBpmCtrs d (Dev.judge d a) := by
  simp [ButBpmCtrs, Dev.judge]
@[simp] theorem Dev.judgeAll_frame (d : Dev) : ButFcrBpmCtrs d (Dev.judgeAll d) := by
  simp [ButFcrBpmCtrs, Dev.judgeAll]
@[simp] theorem Dev.charge_frame (d : Dev) (a c : Nat) (p : Pool) : ButBpmCtrs d (Dev.charge d a c p) := by
  simp [ButBpmCtrs, Dev.charge]
@[simp] theorem Dev.credit_frame (d : Dev) (a c : Nat) : ButBpm d (Dev.credit d a c) := by
  simp [ButBpm, Dev.credit]
@[simp] theorem Dev.holdCell_frame (d : Dev) (c a cls refs : Nat) (prev : Option Nat) (eop : Bool) : ButBpm d (Dev.holdCell d c a cls refs prev eop) := by
  unfold Dev.holdCell; split <;> simp [ButBpm]
theorem Dev.grantCell_frame (d : Dev) (a cls refs : Nat) (first eop : Bool) (prev : Option Nat) {t} (h : (Dev.grantCell d a cls refs first eop prev) = some t) : ButFcrBpmCtrs d t.2 := by
  unfold Dev.grantCell at h
  repeat' split at h
  · next hc =>
      have := Dev.takeCell_frame _ _ hc
      simp only [Option.some.injEq] at h
      subst h
      simp_all [ButFcrBpmCtrs]
  all_goals contradiction
@[simp] theorem Dev.retireCell_frame (d : Dev) (c cause : Nat) : ButFcrEvrBpmCtrs d (Dev.retireCell d c cause) := by
  simp [ButFcrEvrBpmCtrs, Dev.retireCell]
@[simp] theorem Dev.returnCell_frame (d : Dev) (c : Nat) : ButBpm d (Dev.returnCell d c) := by
  simp [ButBpm, Dev.returnCell]
@[simp] theorem Dev.freeCell_frame (d : Dev) (c : Nat) : ButFcrEvrBpmCtrs d (Dev.freeCell d c) := by
  simp [ButFcrEvrBpmCtrs, Dev.freeCell]
@[simp] theorem Dev.releaseAs_frame (d : Dev) (soft : Bool) (party c a : Nat) : ButFcrEvrBpmCtrs d (Dev.releaseAs d soft party c a).2 := by
  unfold Dev.releaseAs; (try dsimp only); (repeat' split) <;> first | (simp [ButFcrEvrBpmCtrs]; done) | (simp_all [ButFcrEvrBpmCtrs]; done) | (simp (disch := (intros; (repeat' split) <;> simp)) [ButFcrEvrBpmCtrs]; done)
@[simp] theorem Dev.release_frame (d : Dev) (party c a : Nat) : ButFcrEvrBpmCtrs d (Dev.release d party c a).2 := by
  simp [ButFcrEvrBpmCtrs, Dev.release]
@[simp] theorem Dev.releaseAll_frame (d : Dev) (party a : Nat) (cs : List Nat) : ButFcrEvrBpmCtrs d (Dev.releaseAll d party a cs) := by
  simp [ButFcrEvrBpmCtrs, Dev.releaseAll]
@[simp] theorem Dev.reclaim_frame (d : Dev) (c : Nat) : ButFcrEvrBpmCtrs d (Dev.reclaim d c) := by
  simp [ButFcrEvrBpmCtrs, Dev.reclaim]
@[simp] theorem Dev.counterError_frame (d : Dev) (a : Nat) : ButFcrBpmCtrs d (Dev.counterError d a) := by
  simp [ButFcrBpmCtrs, Dev.counterError]
@[simp] theorem Dev.linkError_frame (d : Dev) (list : Nat) (lasting : Bool) : ButFcrBpm d (Dev.linkError d list lasting) := by
  simp [ButFcrBpm, Dev.linkError]
@[simp] theorem Dev.modGather_frame (d : Dev) (e v : Nat) (f : VecGather → VecGather) : ButHif d (Dev.modGather d e v f) := by
  simp [ButHif, Dev.modGather]
@[simp] theorem Dev.msixDue_frame (d : Dev) (e v : Nat) : ButHifOut d (Dev.msixDue d e v) := by
  simp [ButHifOut, Dev.msixDue]
@[simp] theorem Dev.signal_frame (d : Dev) (e cause : Nat) : ButHif d (Dev.signal d e cause) := by
  simp [ButHif, Dev.signal]
@[simp] theorem Dev.alarmTry_frame (d : Dev) (e : Nat) : ButHifOut d (Dev.alarmTry d e) := by
  simp [ButHifOut, Dev.alarmTry]
@[simp] theorem Dev.alarm_frame (d : Dev) (e sev pmask : Nat) : ButHifOut d (Dev.alarm d e sev pmask) := by
  simp [ButHifOut, Dev.alarm]
@[simp] theorem Dev.msixFlush_frame (d : Dev) (e : Nat) : ButHifOut d (Dev.msixFlush d e) := by
  simp [ButHifOut, Dev.msixFlush]
@[simp] theorem Dev.epRefresh_frame (d : Dev) (e : Nat) : ButFcr d (Dev.epRefresh d e) := by
  simp [ButFcr, Dev.epRefresh]
@[simp] theorem Dev.wordSource_frame (d : Dev) (e : Nat) : ButFcr d (Dev.wordSource d e) := by
  simp [ButFcr, Dev.wordSource]
@[simp] theorem Dev.wordRead_frame (d : Dev) (e i : Nat) (parity : Bool) : ButHifFcr d (Dev.wordRead d e i parity) := by
  simp [ButHifFcr, Dev.wordRead]
@[simp] theorem Dev.wordFresh_frame (d : Dev) (e i : Nat) : ButHifFcr d (Dev.wordFresh d e i) := by
  simp [ButHifFcr, Dev.wordFresh]
@[simp] theorem Dev.ringStopped_frame (d : Dev) (e kind n cause a b : Nat) (pol : Option Nat) : ButEvrCtrs d (Dev.ringStopped d e kind n cause a b pol) := by
  simp [ButEvrCtrs, Dev.ringStopped]
@[simp] theorem Dev.stray_frame (d : Dev) (e : Nat) : ButCtrs d (Dev.stray d e) := by
  simp [ButCtrs, Dev.stray]
@[simp] theorem doEpCrCfgWrite_frame (e n dword : Nat) (v : Word) (d : Dev) : ButHifFcr d (doEpCrCfgWrite e n dword v d) := by
  simp [ButHifFcr, doEpCrCfgWrite]
@[simp] theorem doEpCqCfgWrite_frame (e n dword : Nat) (v : Word) (d : Dev) : ButHifFcr d (doEpCqCfgWrite e n dword v d) := by
  simp [ButHifFcr, doEpCqCfgWrite]
@[simp] theorem Dev.downDone_frame (d : Dev) (e : Nat) : ButHifFcrEvrCtrs d (Dev.downDone d e) := by
  unfold Dev.downDone; split <;> simp [ButHifFcrEvrCtrs]
@[simp] theorem Dev.discardStopped_frame (d : Dev) (c : CmdRef) : ButHifFcrEvrCtrs d (Dev.discardStopped d c) := by
  simp [ButHifFcrEvrCtrs, Dev.discardStopped]
@[simp] theorem Dev.modPort_frame (d : Dev) (l : Nat) (f : Port → Port) : ButPte d (Dev.modPort d l f) := by
  simp [ButPte, Dev.modPort]
@[simp] theorem Dev.modLane_frame (d : Dev) (l : Nat) (f : Lane → Lane) : ButPte d (Dev.modLane d l f) := by
  simp [ButPte, Dev.modLane]
@[simp] theorem Dev.modOctal_frame (d : Dev) (m : Nat) (f : Octal → Octal) : ButPte d (Dev.modOctal d m f) := by
  simp [ButPte, Dev.modOctal]
@[simp] theorem Dev.modFcp_frame (d : Dev) (p : Nat) (f : Fcp → Fcp) : ButFcps d (Dev.modFcp d p f) := by
  simp [ButFcps, Dev.modFcp]
@[simp] theorem Dev.modPkt_frame (d : Dev) (pid : Nat) (f : Pkt → Pkt) : ButDp d (Dev.modPkt d pid f) := by
  simp [ButDp, Dev.modPkt]
@[simp] theorem Dev.modQueue_frame (d : Dev) (k : Nat) (f : Queue → Queue) : ButDp d (Dev.modQueue d k f) := by
  simp [ButDp, Dev.modQueue]
@[simp] theorem Dev.setTxs_frame (d : Dev) (port : Nat) (l : List Tx) : ButDp d (Dev.setTxs d port l) := by
  simp [ButDp, Dev.setTxs]
@[simp] theorem Dev.meterAdd_frame (d : Dev) (pipe tenant polder epoch i bytes : Nat) : ButMrp d (Dev.meterAdd d pipe tenant polder epoch i bytes) := by
  simp [ButMrp, Dev.meterAdd]
@[simp] theorem Dev.meter_frame (d : Dev) (x : Pkt) (pipe i bytes : Nat) : ButMrp d (Dev.meter d x pipe i bytes) := by
  unfold Dev.meter; split <;> simp [ButMrp]
@[simp] theorem Dev.txWriteBack_frame (d : Dev) (ep q addr sec ns status : Nat) : ButHifOut d (Dev.txWriteBack d ep q addr sec ns status) := by
  simp [ButHifOut, Dev.txWriteBack]
@[simp] theorem Dev.tidy_frame (d : Dev) (pid : Nat) : ButHifDpFreeSeqOut d (Dev.tidy d pid) := by
  unfold Dev.tidy; (try dsimp only); (repeat' split) <;> first | (simp [ButHifDpFreeSeqOut]; done) | (simp_all [ButHifDpFreeSeqOut]; done) | (simp (disch := (intros; (repeat' split) <;> simp)) [ButHifDpFreeSeqOut]; done)
@[simp] theorem Dev.replDone_frame (d : Dev) (x : Pkt) (t : Dest) : ButFcrSwc d (Dev.replDone d x t) := by
  unfold Dev.replDone; split <;> simp [ButFcrSwc]
@[simp] theorem Dev.touch_frame (d : Dev) (p : Nat) : ButPipes d (Dev.touch d p) := by
  simp [ButPipes, Dev.touch]
@[simp] theorem Dev.trigger_frame (d : Dev) (p : Nat) : ButPipes d (Dev.trigger d p) := by
  simp [ButPipes, Dev.trigger]
@[simp] theorem Dev.wakeFor_frame (d : Dev) (port : Nat) : ButPipes d (Dev.wakeFor d port) := by
  simp [ButPipes, Dev.wakeFor]
@[simp] theorem Dev.copyEnd_frame (d : Dev) (party : Nat) (e : Ent) (t : Dest) : ButHifFcrEvrPipesDpSwcBpmCtrsFreeSeqOut d (Dev.copyEnd d party e t) := by
  unfold Dev.copyEnd; (repeat' split) <;> simp [ButHifFcrEvrPipesDpSwcBpmCtrsFreeSeqOut]
@[simp] theorem Dev.copyDrop_frame (d : Dev) (party : Nat) (e : Ent) (t : Dest) (c : Ctr) (i : Nat) : ButHifFcrEvrPipesDpSwcBpmMrpCtrsFreeSeqOut d (Dev.copyDrop d party e t c i) := by
  unfold Dev.copyDrop; split <;> simp [ButHifFcrEvrPipesDpSwcBpmMrpCtrsFreeSeqOut]
@[simp] theorem Dev.detach_frame (d : Dev) (k : Nat) : ButDpSpw d (Dev.detach d k) := by
  simp [ButDpSpw, Dev.detach]
@[simp] theorem Dev.wireOut_frame (d : Dev) (p : Nat) (bytes : List Byte) : ButOut d (Dev.wireOut d p bytes) := by
  simp [ButOut, Dev.wireOut]
@[simp] theorem Dev.intoSkid_frame (d : Dev) (p : Nat) (bytes : List Byte) : ButFcrPteCtrs d (Dev.intoSkid d p bytes) := by
  simp [ButFcrPteCtrs, Dev.intoSkid]
@[simp] theorem Dev.freeQueue_frame (d : Dev) (k : Nat) (c : Ctr) (byIngress : Bool) : ButHifFcrEvrPipesDpSwcBpmSpwMrpCtrsFreeSeqOut d (Dev.freeQueue d k c byIngress).2.2 := by
  unfold Dev.freeQueue; (try dsimp only); (repeat' split) <;> first | (simp [ButHifFcrEvrPipesDpSwcBpmSpwMrpCtrsFreeSeqOut]; done) | (simp_all [ButHifFcrEvrPipesDpSwcBpmSpwMrpCtrsFreeSeqOut]; done) | (simp (disch := (intros; (repeat' split) <;> simp)) [ButHifFcrEvrPipesDpSwcBpmSpwMrpCtrsFreeSeqOut]; done)
@[simp] theorem Dev.freeWaiting_frame (d : Dev) (keys : List Nat) (c : Ctr) (idx : Pkt → Dest → Nat) : ButHifFcrEvrPipesDpSwcBpmMrpCtrsFreeSeqOut d (Dev.freeWaiting d keys c idx).2.2 := by
  unfold Dev.freeWaiting; (try dsimp only); (repeat' split) <;> first | (simp [ButHifFcrEvrPipesDpSwcBpmMrpCtrsFreeSeqOut]; done) | (simp_all [ButHifFcrEvrPipesDpSwcBpmMrpCtrsFreeSeqOut]; done) | (simp (disch := (intros; (repeat' split) <;> simp)) [ButHifFcrEvrPipesDpSwcBpmMrpCtrsFreeSeqOut]; done)
@[simp] theorem Dev.freePort_frame (d : Dev) (p : Nat) (c : Ctr) (byIngress : Bool) : ButHifFcrEvrPipesDpSwcBpmSpwMrpCtrsFreeSeqOut d (Dev.freePort d p c byIngress).2.2 := by
  simp [ButHifFcrEvrPipesDpSwcBpmSpwMrpCtrsFreeSeqOut, Dev.freePort]
@[simp] theorem Dev.flushPort_frame (d : Dev) (p : Nat) (c : Ctr) (byIngress : Bool) : ButHifFcrEvrPipesPteDpSwcBpmSpwMrpCtrsFreeSeqOut d (Dev.flushPort d p c byIngress).2.2 := by
  simp [ButHifFcrEvrPipesPteDpSwcBpmSpwMrpCtrsFreeSeqOut, Dev.flushPort]
@[simp] theorem Dev.setTab_frame (d : Dev) (t i : Nat) (e : Option TabEnt) : ButRle d (Dev.setTab d t i e) := by
  simp [ButRle, Dev.setTab]
@[simp] theorem Dev.modQuad_frame (d : Dev) (q : Nat) (f : LrnQuad → LrnQuad) : ButLrn d (Dev.modQuad d q f) := by
  simp [ButLrn, Dev.modQuad]
@[simp] theorem Dev.stashRefresh_frame (d : Dev) (q : Nat) : ButFcrCtrs d (Dev.stashRefresh d q) := by
  simp [ButFcrCtrs, Dev.stashRefresh]
@[simp] theorem Dev.modWeir_frame (d : Dev) (w : Nat) (f : Weir → Weir) : ButMrp d (Dev.modWeir d w f) := by
  simp [ButMrp, Dev.modWeir]
@[simp] theorem Dev.weirColour_frame (d : Dev) (w q bytes : Nat) (dei : Bool) : ButMrpCtrs d (Dev.weirColour d w q bytes dei).2 := by
  unfold Dev.weirColour; (repeat' split) <;> simp [ButMrpCtrs]
@[simp] theorem Dev.weirHold_frame (d : Dev) (w port cls : Nat) : ButMrp d (Dev.weirHold d w port cls) := by
  simp [ButMrp, Dev.weirHold]
@[simp] theorem Dev.pauseSource_frame (d : Dev) (p : Nat) : ButFcr d (Dev.pauseSource d p) := by
  unfold Dev.pauseSource; (try dsimp only); (repeat' split) <;> first | (simp [ButFcr]; done) | (simp_all [ButFcr]; done) | (simp (disch := (intros; (repeat' split) <;> simp)) [ButFcr]; done)
@[simp] theorem Dev.watch_frame (d : Dev) (p : Nat) : ButFcrFcps d (Dev.watch d p) := by
  simp [ButFcrFcps, Dev.watch]
@[simp] theorem Dev.pauseEvent_frame (d : Dev) (code p q : Nat) (classes : List Nat) (src : Option Nat) : ButEvrCtrs d (Dev.pauseEvent d code p q classes src) := by
  simp [ButEvrCtrs, Dev.pauseEvent]
@[simp] theorem Dev.sendPause_frame (d : Dev) (p named on : Nat) : ButFcpsCtrsOut d (Dev.sendPause d p named on) := by
  simp [ButFcpsCtrsOut, Dev.sendPause]
@[simp] theorem Dev.xonAll_frame (d : Dev) (p : Nat) : ButFcpsCtrsOut d (Dev.xonAll d p) := by
  simp [ButFcpsCtrsOut, Dev.xonAll]
@[simp] theorem Dev.countMacControl_frame (d : Dev) (port : Nat) (named : List Nat) : ButCtrs d (Dev.countMacControl d port named) := by
  simp [ButCtrs, Dev.countMacControl]
@[simp] theorem Dev.rewrite_frame (d : Dev) (x : Pkt) (t : Dest) (flaws : Flaws) : ButFreeSeq d (Dev.rewrite d x t flaws).2 := by
  unfold Dev.rewrite; (try dsimp only); (repeat' split) <;> first | (simp [ButFreeSeq]; done) | (simp_all [ButFreeSeq]; done) | (simp (disch := (intros; (repeat' split) <;> simp)) [ButFreeSeq]; done)
@[simp] theorem Dev.rewriteFault_frame (d : Dev) (x : Pkt) (t : Dest) (a : RwAt) : ButFcrEvrCtrs d (Dev.rewriteFault d x t a) := by
  simp [ButFcrEvrCtrs, Dev.rewriteFault]
@[simp] theorem Dev.setBucket_frame (d : Dev) (k : Nat) (b : Bucket) : ButEsc d (Dev.setBucket d k b) := by
  simp [ButEsc, Dev.setBucket]
@[simp] theorem Dev.chargeBucket_frame (d : Dev) (k : Nat) (bytes : Int) : ButEscCtrs d (Dev.chargeBucket d k bytes) := by
  simp [ButEscCtrs, Dev.chargeBucket]
@[simp] theorem Dev.modSched_frame (d : Dev) (p : Nat) (f : Sched → Sched) : ButEsc d (Dev.modSched d p f) := by
  simp [ButEsc, Dev.modSched]
@[simp] theorem Dev.reachNs_frame (d : Dev) (ns : Nat) : ButBalTmu d (Dev.reachNs d ns) := by
  simp [ButBalTmu, Dev.reachNs]
@[simp] theorem Dev.modTide_frame (d : Dev) (p : Nat) (f : TidePort → TidePort) : ButEsc d (Dev.modTide d p f) := by
  simp [ButEsc, Dev.modTide]
@[simp] theorem Dev.tideReload_frame (d : Dev) (p : Nat) : ButFcrEsc d (Dev.tideReload d p) := by
  simp [ButFcrEsc, Dev.tideReload]
@[simp] theorem Dev.tideStart_frame (d : Dev) (p : Nat) : ButEvrEscCtrs d (Dev.tideStart d p) := by
  unfold Dev.tideStart; split <;> simp [ButEvrEscCtrs]
@[simp] theorem doTideListEcc_frame (port entry : Nat) (d : Dev) : ButFcrEvrEscCtrs d (doTideListEcc port entry d) := by
  unfold doTideListEcc; split <;> simp [ButFcrEvrEscCtrs]
@[simp] theorem Dev.tideJump_frame (d : Dev) (p : Nat) : ButEvrEscCtrs d (Dev.tideJump d p) := by
  unfold Dev.tideJump; (try dsimp only); (repeat' split) <;> simp [ButEvrEscCtrs]
@[simp] theorem Dev.tideStep_frame (d : Dev) (stepNs : Int) : ButFcrEvrEscCtrs d (Dev.tideStep d stepNs) := by
  unfold Dev.tideStep; (try dsimp only); split <;> simp [ButFcrEvrEscCtrs]
@[simp] theorem Dev.parityRefresh_frame (d : Dev) (q : Nat) : ButFcr d (Dev.parityRefresh d q) := by
  simp [ButFcr, Dev.parityRefresh]
@[simp] theorem Dev.parityEvent_frame (d : Dev) (q t i p : Nat) (lasting : Bool) : ButEvrCtrs d (Dev.parityEvent d q t i p lasting) := by
  simp [ButEvrCtrs, Dev.parityEvent]
@[simp] theorem Dev.parityRaise_frame (d : Dev) (q t : Nat) (lasting : Bool) : ButFcr d (Dev.parityRaise d q t lasting) := by
  simp [ButFcr, Dev.parityRaise]
@[simp] theorem Dev.parityRead_frame (d : Dev) (q t i : Nat) (lasting : Bool) : ButFcrEvrRleLrnCtrs d (Dev.parityRead d q t i lasting) := by
  unfold Dev.parityRead; (repeat' split) <;> simp [ButFcrEvrRleLrnCtrs]
@[simp] theorem Dev.tally_frame (d : Dev) (q t : Nat) (hit : Bool) : ButCtrs d (Dev.tally d q t hit) := by
  simp [ButCtrs, Dev.tally]
@[simp] theorem Dev.lookups_frame (d : Dev) (k : Look) (x : Pkt) (r : BitVec 192) : ButCtrs d (Dev.lookups d k x r).2 := by
  simp [ButCtrs, Dev.lookups]
@[simp] theorem Dev.setHit_frame (d : Dev) (q i : Nat) : ButLrn d (Dev.setHit d q i) := by
  simp [ButLrn, Dev.setHit]
@[simp] theorem Dev.sourceLookup_frame (d : Dev) (k : Look) (x : Pkt) (domain : Nat) : ButLrnCtrs d (Dev.sourceLookup d k x domain).2 := by
  unfold Dev.sourceLookup; (try dsimp only); (repeat' split) <;> first | (simp [ButLrnCtrs]; done) | (simp_all [ButLrnCtrs]; done) | (simp (disch := (intros; (repeat' split) <;> simp)) [ButLrnCtrs]; done)
@[simp] theorem Dev.dikeBlock_frame (d : Dev) (p : Nat) : ButFcrCtrs d (Dev.dikeBlock d p) := by
  simp [ButFcrCtrs, Dev.dikeBlock]
@[simp] theorem Dev.heldDrop_frame (d : Dev) (x : Pkt) (port : Nat) : ButFcrCtrs d (Dev.heldDrop d x port) := by
  unfold Dev.heldDrop; (try dsimp only); (repeat' split) <;> first | (simp [ButFcrCtrs]; done) | (simp_all [ButFcrCtrs]; done) | (simp (disch := (intros; (repeat' split) <;> simp)) [ButFcrCtrs]; done)
@[simp] theorem Dev.aimed_frame (d : Dev) (k : Look) (x : Pkt) (f : Fwd) (a : Aim) (domain : Nat) (fix : Option Nat) (upper : Bool) : ButFcrCtrs d (Dev.aimed d k x f a domain fix upper).2 := by
  unfold Dev.aimed; (try dsimp only); (repeat' split) <;> first | (simp [ButFcrCtrs]; done) | (simp_all [ButFcrCtrs]; done) | (simp (disch := (intros; (repeat' split) <;> simp)) [ButFcrCtrs]; done)
@[simp] theorem Dev.parseEvent_frame (d : Dev) (x : Pkt) (cls : Nat) : ButEvrCtrs d (Dev.parseEvent d x cls) := by
  simp [ButEvrCtrs, Dev.parseEvent]
@[simp] theorem Dev.defaultAction_frame (d : Dev) (k : Look) (x : Pkt) (h : Hits) (cls : Nat) (domain : Option Nat) (upper : Bool) : ButFcrEvrCtrs d (Dev.defaultAction d k x h cls domain upper).2 := by
  unfold Dev.defaultAction; (try dsimp only); (repeat' split) <;> first | (simp [ButFcrEvrCtrs]; done) | (simp_all [ButFcrEvrCtrs]; done) | (simp (disch := (intros; (repeat' split) <;> simp)) [ButFcrEvrCtrs]; done)
@[simp] theorem Dev.withCopy_frame (d : Dev) (x : Pkt) (e : TabEnt) (g : Fwd) : ButFcrCtrs d (Dev.withCopy d x e g).2 := by
  unfold Dev.withCopy; (repeat' split) <;> simp [ButFcrCtrs]
@[simp] theorem Dev.recircAction_frame (d : Dev) (x : Pkt) (i : Nat) (e : TabEnt) (f : Fwd) : ButFcrEvrCtrs d (Dev.recircAction d x i e f).2 := by
  unfold Dev.recircAction; (try dsimp only); (repeat' split) <;> first | (simp [ButFcrEvrCtrs]; done) | (simp_all [ButFcrEvrCtrs]; done) | (simp (disch := (intros; (repeat' split) <;> simp)) [ButFcrEvrCtrs]; done)
@[simp] theorem Dev.action_frame (d : Dev) (k : Look) (x : Pkt) (h : Hits) (i : Nat) (e : TabEnt) (r : BitVec 192) (route : Aim) (direct : Option (Nat × Nat)) (upper : Bool) : ButFcrEvrCtrs d (Dev.action d k x h i e r route direct upper).2 := by
  unfold Dev.action; (try dsimp only); (repeat' split) <;> first | (simp [ButFcrEvrCtrs]; done) | (simp_all [ButFcrEvrCtrs]; done) | (simp (disch := (intros; (repeat' split) <;> simp)) [ButFcrEvrCtrs]; done)
@[simp] theorem Dev.noRule_frame (d : Dev) (k : Look) (x : Pkt) (h : Hits) (r : BitVec 192) (route : Aim) (direct : Option (Nat × Nat)) (upper : Bool) : ButFcrCtrs d (Dev.noRule d k x h r route direct upper).2 := by
  unfold Dev.noRule; (repeat' split) <;> simp [ButFcrCtrs]
@[simp] theorem Dev.resolveRule_frame (d : Dev) (k : Look) (x : Pkt) (h : Hits) (r : BitVec 192) (direct : Option (Nat × Nat)) (upper : Bool) : ButFcrEvrCtrs d (Dev.resolveRule d k x h r direct upper).2 := by
  unfold Dev.resolveRule; (try dsimp only); (repeat' split) <;> first | (simp [ButFcrEvrCtrs]; done) | (simp_all [ButFcrEvrCtrs]; done) | (simp (disch := (intros; (repeat' split) <;> simp)) [ButFcrEvrCtrs]; done)
@[simp] theorem Dev.weirStep_frame (d : Dev) (k : Look) (x : Pkt) (f : Fwd) : ButMrpCtrs d (Dev.weirStep d k x f).2.2 := by
  unfold Dev.weirStep; (try dsimp only); (repeat' split) <;> first | (simp [ButMrpCtrs]; done) | (simp_all [ButMrpCtrs]; done) | (simp (disch := (intros; (repeat' split) <;> simp)) [ButMrpCtrs]; done)
@[simp] theorem Dev.resolve_frame (d : Dev) (k : Look) (x : Pkt) (direct : Option (Nat × Nat)) (upper : Bool) : ButFcrEvrLrnMrpCtrs d (Dev.resolve d k x direct upper).2.2.2.2 := by
  unfold Dev.resolve
  extract_lets p hl h r lr d1 x1 x2 byClass out w
  have e1 : ButFcrEvrLrnMrpCtrs d hl.2 := by
    simp only [hl]
    split <;> simp [ButFcrEvrLrnMrpCtrs]
  have e2 : ButFcrEvrLrnMrpCtrs d d1 := by
    simp only [d1, lr]
    split <;> simp_all [ButFcrEvrLrnMrpCtrs]
  clear_value d1 x2 h r
  have e3 : ∀ (d' : Dev) (c : Nat), ButFcrEvrLrnMrpCtrs d' (byClass d' c).2 := by
    intro d' c
    simp only [byClass]
    split <;> simp [ButFcrEvrLrnMrpCtrs]
  clear_value byClass
  have e4 : ButFcrEvrLrnMrpCtrs d1 out.2 := by
    simp only [out]
    split
    · exact e3 d1 _
    · split
      · exact e3 d1 0
      · next r' _ =>
        have hr := Dev.resolveRule_frame d1 k x2 h r' direct upper
        split
        · next hq => rw [hq] at hr; simp_all [ButFcrEvrLrnMrpCtrs]
        · next d' hq => rw [hq] at hr; have h2 := e3 d' 0; simp_all [ButFcrEvrLrnMrpCtrs]
  clear_value out
  split
  · simp_all [ButFcrEvrLrnMrpCtrs]
  · simp_all [ButFcrEvrLrnMrpCtrs, w]
@[simp] theorem Dev.setPauseAll_frame (d : Dev) (p : Nat) (on : Bool) : ButFcps d (Dev.setPauseAll d p on) := by
  simp [ButFcps, Dev.setPauseAll]
@[simp] theorem Dev.refreshPauseAll_frame (d : Dev) : ButFcps d (Dev.refreshPauseAll d) := by
  simp [ButFcps, Dev.refreshPauseAll]
@[simp] theorem Dev.parseFetch_frame (d : Dev) (p : Nat) (f : Option StoreFlaw) (bytes : List Byte) : ButFcrEvrPipesFcpsCtrs d (Dev.parseFetch d p f bytes).2 := by
  unfold Dev.parseFetch; (try dsimp only); (repeat' split) <;> first | (simp [ButFcrEvrPipesFcpsCtrs]; done) | (simp_all [ButFcrEvrPipesFcpsCtrs]; done) | (simp (disch := (intros; (repeat' split) <;> simp)) [ButFcrEvrPipesFcpsCtrs]; done)
@[simp] theorem Dev.refreshFull_frame (d : Dev) : ButFcrEvrSpwCtrs d (Dev.refreshFull d) := by
  simp [ButFcrEvrSpwCtrs, Dev.refreshFull]
@[simp] theorem Dev.freeSeg_frame (d : Dev) (s : Nat) : ButFcrEvrSpwCtrs d (Dev.freeSeg d s) := by
  simp [ButFcrEvrSpwCtrs, Dev.freeSeg]
@[simp] theorem Dev.dry_frame (d : Dev) (k : Nat) : ButFcrEvrDpSpwCtrs d (Dev.dry d k) := by
  simp [ButFcrEvrDpSpwCtrs, Dev.dry]
@[simp] theorem Dev.floodTest_frame (d : Dev) (k : Nat) : ButDpCtrs d (Dev.floodTest d k) := by
  simp [ButDpCtrs, Dev.floodTest]
@[simp] theorem Dev.overrun_frame (d : Dev) (port cls : Nat) : ButFcrEvrFcpsCtrs d (Dev.overrun d port cls) := by
  simp [ButFcrEvrFcpsCtrs, Dev.overrun]
theorem Dev.takeFor_frame (d : Dev) (x : Pkt) (pool : Pool) (refs : Nat) {t} (h : (Dev.takeFor d x pool refs) = some t) : ButFcrBpmCtrs d t.2 := by
  unfold Dev.takeFor at h
  repeat' split at h
  · contradiction
  · next hc =>
      have := Dev.takeCell_frame _ _ hc
      simp only [Option.some.injEq] at h
      subst h
      simp_all [ButFcrBpmCtrs]
  · contradiction
@[simp] theorem Dev.newPkt_frame (d : Dev) (x : Pkt) : ButDp d (Dev.newPkt d x).2 := by
  simp [ButDp, Dev.newPkt]
@[simp] theorem Dev.activate_frame (d : Dev) (t : Dest) : ButEsc d (Dev.activate d t) := by
  simp [ButEsc, Dev.activate]
@[simp] theorem Dev.enqueue_frame (d : Dev) (pid : Nat) (x : Pkt) (t : Dest) (ct : Bool) : ButPipesDpEsc d (Dev.enqueue d pid x t ct) := by
  simp [ButPipesDpEsc, Dev.enqueue]
@[simp] theorem Dev.lostCopies_frame (d : Dev) (x : Pkt) (n : Nat) : ButMrp d (Dev.lostCopies d x n) := by
  simp [ButMrp, Dev.lostCopies]
@[simp] theorem Dev.judgeCopy_frame (d : Dev) (x : Pkt) (multi : Bool) (ts : List Dest) (t : Dest) : ButFcrMrpCtrs d (Dev.judgeCopy d x multi ts t).2 := by
  unfold Dev.judgeCopy; (try dsimp only); (repeat' split) <;> first | (simp [ButFcrMrpCtrs]; done) | (simp_all [ButFcrMrpCtrs]; done) | (simp (disch := (intros; (repeat' split) <;> simp)) [ButFcrMrpCtrs]; done)
@[simp] theorem Dev.takeRepl_frame (d : Dev) (pid : Nat) (x : Pkt) (i : Nat) (mcs cts : List Dest) (domain : Nat) : ButFcrSwc d (Dev.takeRepl d pid x i mcs cts domain) := by
  simp [ButFcrSwc, Dev.takeRepl]
@[simp] theorem Dev.stageLrq_frame (d : Dev) (pid : Nat) (x : Pkt) : ButSpw d (Dev.stageLrq d pid x) := by
  simp [ButSpw, Dev.stageLrq]
@[simp] theorem Dev.admitAs_frame (d : Dev) (pid : Nat) (x : Pkt) (ts cts mcs : List Dest) (repl : Option Nat) (staged : Bool) (domain cell : Nat) : ButFcrPipesDpSwcSpwEscCtrs d (Dev.admitAs d pid x ts cts mcs repl staged domain cell) := by
  unfold Dev.admitAs; (repeat' split) <;> simp [ButFcrPipesDpSwcSpwEscCtrs]
@[simp] theorem Dev.endAsk_frame (d : Dev) (pid : Nat) (x : Pkt) (n : Nat) : ButHifDpMrpFreeSeqOut d (Dev.endAsk d pid x n) := by
  simp [ButHifDpMrpFreeSeqOut, Dev.endAsk]
@[simp] theorem Dev.request_frame (d : Dev) (pid : Nat) : ButHifFcrEvrPipesDpSwcBpmFcpsSpwEscMrpCtrsFreeSeqOut d (Dev.request d pid) := by
  unfold Dev.request
  split
  · simp [ButHifFcrEvrPipesDpSwcBpmFcpsSpwEscMrpCtrsFreeSeqOut]
  · split
    · simp [ButHifFcrEvrPipesDpSwcBpmFcpsSpwEscMrpCtrsFreeSeqOut]
    · dsimp only
      split
      · simp [ButHifFcrEvrPipesDpSwcBpmFcpsSpwEscMrpCtrsFreeSeqOut]
      · (repeat' split) <;> first
          | (simp [ButHifFcrEvrPipesDpSwcBpmFcpsSpwEscMrpCtrsFreeSeqOut]; done)
          | (have := Dev.takeFor_frame _ _ _ _ ‹Dev.takeFor _ _ _ _ = some _›; simp_all [ButHifFcrEvrPipesDpSwcBpmFcpsSpwEscMrpCtrsFreeSeqOut]; done)
@[simp] theorem Dev.presentAll_frame (d : Dev) : ButHifFcrEvrPipesDpSwcBpmFcpsSpwEscMrpCtrsFreeSeqOut d (Dev.presentAll d) := by
  simp [ButHifFcrEvrPipesDpSwcBpmFcpsSpwEscMrpCtrsFreeSeqOut, Dev.presentAll]
@[simp] theorem Dev.ledgerAdd_frame (d : Dev) (x : Pkt) : ButMrp d (Dev.ledgerAdd d x) := by
  unfold Dev.ledgerAdd; (try dsimp only); (repeat' split) <;> first | (simp [ButMrp]; done) | (simp_all [ButMrp]; done) | (simp (disch := (intros; (repeat' split) <;> simp)) [ButMrp]; done)
@[simp] theorem Dev.mirror_frame (d : Dev) (k : Look) (x : Pkt) (session : Nat) : ButFcrRleDpCtrs d (Dev.mirror d k x session) := by
  unfold Dev.mirror; (try dsimp only); (repeat' split) <;> first | (simp [ButFcrRleDpCtrs]; done) | (simp_all [ButFcrRleDpCtrs]; done) | (simp (disch := (intros; (repeat' split) <;> simp)) [ButFcrRleDpCtrs]; done)
@[simp] theorem Dev.countResolved_frame (d : Dev) (p : Nat) (x : Pkt) (f : Fwd) (red keep : Bool) : ButMrpCtrs d (Dev.countResolved d p x f red keep) := by
  unfold Dev.countResolved; (repeat' split) <;> simp [ButMrpCtrs]
@[simp] theorem Dev.txSettle_frame (d : Dev) (ep : Nat) (h : HostTx) (bad : Bool) : ButHifOut d (Dev.txSettle d ep h bad) := by
  simp [ButHifOut, Dev.txSettle]
@[simp] theorem Dev.runPass_frame (d : Dev) (p : Nat) (x : Pkt) (h : Option HostTx) (flaws : Flaws) (upper : Bool) : ButHifFcrEvrPipesRleLrnDpFcpsMrpCtrsFreeSeqOut d (Dev.runPass d p x h flaws upper) := by
  unfold Dev.runPass; (try dsimp only); (repeat' split) <;> first | (simp [ButHifFcrEvrPipesRleLrnDpFcpsMrpCtrsFreeSeqOut]; done) | (simp_all [ButHifFcrEvrPipesRleLrnDpFcpsMrpCtrsFreeSeqOut]; done) | (simp (disch := (intros; (repeat' split) <;> simp)) [ButHifFcrEvrPipesRleLrnDpFcpsMrpCtrsFreeSeqOut]; done)
@[simp] theorem Dev.wireEntry_frame (d : Dev) (port : Nat) (flaws : Flaws) (upper : Bool) : ButHifFcrEvrPipesPteRleLrnDpFcpsMrpCtrsFreeSeqOut d (Dev.wireEntry d port flaws upper) := by
  unfold Dev.wireEntry; split <;> simp [ButHifFcrEvrPipesPteRleLrnDpFcpsMrpCtrsFreeSeqOut]
@[simp] theorem Dev.hostEntry_frame (d : Dev) (ep : Nat) (flaws : Flaws) (upper : Bool) : ButHifFcrEvrPipesRleLrnDpFcpsMrpCtrsFreeSeqOut d (Dev.hostEntry d ep flaws upper) := by
  unfold Dev.hostEntry; split <;> simp [ButHifFcrEvrPipesRleLrnDpFcpsMrpCtrsFreeSeqOut]
@[simp] theorem Dev.loopEntry_frame (d : Dev) (p : Nat) (flaws : Flaws) (upper : Bool) : ButHifFcrEvrPipesRleLrnDpFcpsMrpCtrsFreeSeqOut d (Dev.loopEntry d p flaws upper) := by
  unfold Dev.loopEntry; (try dsimp only); (repeat' split) <;> first | (simp [ButHifFcrEvrPipesRleLrnDpFcpsMrpCtrsFreeSeqOut]; done) | (simp_all [ButHifFcrEvrPipesRleLrnDpFcpsMrpCtrsFreeSeqOut]; done) | (simp (disch := (intros; (repeat' split) <;> simp)) [ButHifFcrEvrPipesRleLrnDpFcpsMrpCtrsFreeSeqOut]; done)
@[simp] theorem Dev.dropLoop_frame (d : Dev) (p : Nat) : ButHifFcrEvrPipesDpSwcBpmMrpCtrsFreeSeqOut d (Dev.dropLoop d p) := by
  simp [ButHifFcrEvrPipesDpSwcBpmMrpCtrsFreeSeqOut, Dev.dropLoop]
@[simp] theorem Dev.parseNext_frame (d : Dev) (p : Nat) (flaws : Flaws) (upper : Bool) : ButHifFcrEvrPipesPteRleLrnDpFcpsMrpCtrsFreeSeqOut d (Dev.parseNext d p flaws upper) := by
  unfold Dev.parseNext; split <;> simp [ButHifFcrEvrPipesPteRleLrnDpFcpsMrpCtrsFreeSeqOut]
@[simp] theorem Dev.wireArrive_frame (d : Dev) (p port : Nat) (bytes : List Byte) : ButFcrPteCtrsOut d (Dev.wireArrive d p port bytes) := by
  simp [ButFcrPteCtrsOut, Dev.wireArrive]
@[simp] theorem Dev.dropWaiting_frame (d : Dev) (pid : Nat) (party : Nat) (c : Ctr) (idx : Pkt → Dest → Nat) : ButHifFcrEvrPipesDpSwcBpmMrpCtrsFreeSeqOut d (Dev.dropWaiting d pid party c idx) := by
  unfold Dev.dropWaiting; split <;> simp [ButHifFcrEvrPipesDpSwcBpmMrpCtrsFreeSeqOut]
@[simp] theorem Dev.dropQueued_frame (d : Dev) (pid : Nat) (party : Nat) (c : Ctr) (idx : Pkt → Dest → Nat) : ButHifFcrEvrPipesDpSwcBpmMrpCtrsFreeSeqOut d (Dev.dropQueued d pid party c idx) := by
  unfold Dev.dropQueued; split <;> simp [ButHifFcrEvrPipesDpSwcBpmMrpCtrsFreeSeqOut]
@[simp] theorem Dev.cutTx_frame (d : Dev) (pid : Nat) : ButDp d (Dev.cutTx d pid) := by
  simp [ButDp, Dev.cutTx]
@[simp] theorem Dev.unstage_frame (d : Dev) (pid : Nat) (x : Pkt) : ButSpw d (Dev.unstage d pid x) := by
  simp [ButSpw, Dev.unstage]
@[simp] theorem Dev.discardPkt_frame (d : Dev) (pid party : Nat) (c : Ctr) (idx : Pkt → Dest → Nat) : ButHifFcrEvrPipesDpSwcBpmSpwMrpCtrsFreeSeqOut d (Dev.discardPkt d pid party c idx) := by
  unfold Dev.discardPkt; (repeat' split) <;> simp [ButHifFcrEvrPipesDpSwcBpmSpwMrpCtrsFreeSeqOut]
@[simp] theorem Dev.badFrame_frame (d : Dev) (pid : Nat) : ButHifFcrEvrPipesDpSwcBpmSpwMrpCtrsFreeSeqOut d (Dev.badFrame d pid) := by
  unfold Dev.badFrame; (repeat' split) <;> simp [ButHifFcrEvrPipesDpSwcBpmSpwMrpCtrsFreeSeqOut]
@[simp] theorem Dev.offer_frame (d : Dev) (e : LrnEvent) : ButFcrLrnCtrs d (Dev.offer d e) := by
  simp [ButFcrLrnCtrs, Dev.offer]
@[simp] theorem Dev.dropOversize_frame (d : Dev) (x : Pkt) (kin : List Nat) : ButHifFcrEvrPipesDpSwcBpmSpwMrpCtrsFreeSeqOut d (Dev.dropOversize d x kin) := by
  simp [ButHifFcrEvrPipesDpSwcBpmSpwMrpCtrsFreeSeqOut, Dev.dropOversize]
@[simp] theorem Dev.countFec_frame (d : Dev) (x : Pkt) (fec : Fec) : ButCtrs d (Dev.countFec d x fec) := by
  unfold Dev.countFec; split <;> simp [ButCtrs]
@[simp] theorem Dev.linkIfDone_frame (d : Dev) (pid : Nat) : ButPipesDpEsc d (Dev.linkIfDone d pid) := by
  unfold Dev.linkIfDone; split <;> simp [ButPipesDpEsc]
@[simp] theorem Dev.modSlot_frame (d : Dev) (i : Nat) (f : DirSlot → DirSlot) : ButEvr d (Dev.modSlot d i f) := by
  simp [ButEvr, Dev.modSlot]
@[simp] theorem Dev.recLost_frame (d : Dev) (n : Nat) : ButFcrEvrCtrs d (Dev.recLost d n) := by
  simp [ButFcrEvrCtrs, Dev.recLost]
@[simp] theorem Dev.logWrite_frame (d : Dev) (r : Rec) : ButFcrEvrCtrs d (Dev.logWrite d r) := by
  simp [ButFcrEvrCtrs, Dev.logWrite]
@[simp] theorem Dev.fifoPush_frame (d : Dev) (r : Rec) : ButFcrEvrCtrs d (Dev.fifoPush d r) := by
  unfold Dev.fifoPush; (try dsimp only); (repeat' split) <;> first | (simp [ButFcrEvrCtrs]; done) | (simp_all [ButFcrEvrCtrs]; done) | (simp (disch := (intros; (repeat' split) <;> simp)) [ButFcrEvrCtrs]; done)
@[simp] theorem Dev.persistPush_frame (d : Dev) (r : Rec) : ButFcrEvrCtrs d (Dev.persistPush d r) := by
  unfold Dev.persistPush; (try dsimp only); (repeat' split) <;> first | (simp [ButFcrEvrCtrs]; done) | (simp_all [ButFcrEvrCtrs]; done) | (simp (disch := (intros; (repeat' split) <;> simp)) [ButFcrEvrCtrs]; done)
@[simp] theorem Dev.traceWrite_frame (d : Dev) (e : Nat) (r : Rec) : ButHifCtrsOut d (Dev.traceWrite d e r) := by
  simp [ButHifCtrsOut, Dev.traceWrite]
@[simp] theorem Dev.histSeq_frame (d : Dev) (h : Option Nat) (seq : Nat) : ButFcr d (Dev.histSeq d h seq) := by
  unfold Dev.histSeq; split <;> simp [ButFcr]
@[simp] theorem Dev.take_frame (d : Dev) (r0 : Rec) : ButHifFcrEvrCtrsOut d (Dev.take d r0) := by
  simp [ButHifFcrEvrCtrsOut, Dev.take]
@[simp] theorem Dev.logMemoryError_frame (d : Dev) (i : Nat) (lasting : Bool) : ButHifFcrEvrCtrsOut d (Dev.logMemoryError d i lasting) := by
  simp [ButHifFcrEvrCtrsOut, Dev.logMemoryError]
@[simp] theorem Dev.slotCheck_frame (d : Dev) (i : Nat) (check : Ecc) : ButHifFcrEvrCtrsOut d (Dev.slotCheck d i check) := by
  unfold Dev.slotCheck; split <;> simp [ButHifFcrEvrCtrsOut]
@[simp] theorem Dev.writeCheck_frame (d : Dev) (check : Ecc) : ButHifFcrEvrCtrsOut d (Dev.writeCheck d check) := by
  unfold Dev.writeCheck; (repeat' split) <;> simp [ButHifFcrEvrCtrsOut]
@[simp] theorem Dev.thaw_frame (d : Dev) (byLimit : Bool) : ButEvrCtrs d (Dev.thaw d byLimit) := by
  simp [ButEvrCtrs, Dev.thaw]
@[simp] theorem Dev.freeze_frame (d : Dev) (e : Nat) : ButEvrCtrs d (Dev.freeze d e).2 := by
  unfold Dev.freeze; (repeat' split) <;> simp [ButEvrCtrs]
@[simp] theorem Dev.unfreeze_frame (d : Dev) (e : Nat) : ButEvrCtrs d (Dev.unfreeze d e) := by
  simp [ButEvrCtrs, Dev.unfreeze]
@[simp] theorem Dev.flashRefresh_frame (d : Dev) : ButFcrEvrCtrs d (Dev.flashRefresh d) := by
  simp [ButFcrEvrCtrs, Dev.flashRefresh]
@[simp] theorem Dev.modSector_frame (d : Dev) (i : Nat) (f : Sector → Sector) : ButEvr d (Dev.modSector d i f) := by
  simp [ButEvr, Dev.modSector]
@[simp] theorem Dev.retireSector_frame (d : Dev) (i : Nat) (verify : Bool) : ButFcrEvrCtrs d (Dev.retireSector d i verify) := by
  simp [ButFcrEvrCtrs, Dev.retireSector]
@[simp] theorem Dev.readSweep_frame (d : Dev) : ButEvrCtrs d (Dev.readSweep d) := by
  simp [ButEvrCtrs, Dev.readSweep]
@[simp] theorem Dev.modStream_frame (d : Dev) (q s : Nat) (f : Stream → Stream) : ButSwc d (Dev.modStream d q s f) := by
  simp [ButSwc, Dev.modStream]
@[simp] theorem Dev.discardCopies_frame (d : Dev) (q pid : Nat) (c : Ctr) (byIngress : Bool) (mine : Dest → Bool) : ButHifFcrEvrPipesDpSwcBpmMrpCtrsFreeSeqOut d (Dev.discardCopies d q pid c byIngress mine) := by
  unfold Dev.discardCopies; split <;> simp [ButHifFcrEvrPipesDpSwcBpmMrpCtrsFreeSeqOut]
@[simp] theorem Dev.discardIn_frame (d : Dev) (q pid : Nat) (c : Ctr) (byIngress : Bool) : ButHifFcrEvrPipesDpSwcBpmMrpCtrsFreeSeqOut d (Dev.discardIn d q pid c byIngress) := by
  simp [ButHifFcrEvrPipesDpSwcBpmMrpCtrsFreeSeqOut, Dev.discardIn]
@[simp] theorem Dev.discardEverywhere_frame (d : Dev) (pid : Nat) (c : Ctr) (byIngress : Bool) : ButHifFcrEvrPipesDpSwcBpmMrpCtrsFreeSeqOut d (Dev.discardEverywhere d pid c byIngress) := by
  simp [ButHifFcrEvrPipesDpSwcBpmMrpCtrsFreeSeqOut, Dev.discardEverywhere]
@[simp] theorem Dev.txTakes_frame (d : Dev) (p : Nat) (x : Cross) (c : Tx → Bool) : ButDp d (Dev.txTakes d p x c) := by
  unfold Dev.txTakes; split <;> simp [ButDp]
@[simp] theorem Dev.deliver_frame (d : Dev) (q : Nat) (x : Cross) : ButHifFcrEvrPipesDpSwcBpmMrpCtrsFreeSeqOut d (Dev.deliver d q x) := by
  unfold Dev.deliver; (repeat' split) <;> simp [ButHifFcrEvrPipesDpSwcBpmMrpCtrsFreeSeqOut]
@[simp] theorem Dev.releaseRun_frame (q1 : Nat) (q2 : Nat) (q3 : Nat) (q4 : Dev) : ButHifFcrEvrPipesDpSwcBpmMrpCtrsFreeSeqOut q4 (Dev.releaseRun q1 q2 q3 q4) := by
  induction q1 generalizing q4 with
  | zero => simp [ButHifFcrEvrPipesDpSwcBpmMrpCtrsFreeSeqOut, Dev.releaseRun]
  | succ n ih =>
    unfold Dev.releaseRun
    dsimp only
    split
    · simp [ButHifFcrEvrPipesDpSwcBpmMrpCtrsFreeSeqOut]
    · simp [ButHifFcrEvrPipesDpSwcBpmMrpCtrsFreeSeqOut, ih]
@[simp] theorem Dev.windowSource_frame (d : Dev) (q : Nat) : ButFcr d (Dev.windowSource d q) := by
  simp [ButFcr, Dev.windowSource]
@[simp] theorem Dev.dropLostWhole_frame (d : Dev) (q s : Nat) : ButHifDpFreeSeqOut d (Dev.dropLostWhole d q s) := by
  simp [ButHifDpFreeSeqOut, Dev.dropLostWhole]
@[simp] theorem Dev.gapDiscard_frame (d : Dev) (q : Nat) (x : Cross) : ButHifFcrEvrPipesDpSwcBpmMrpCtrsFreeSeqOut d (Dev.gapDiscard d q x) := by
  simp [ButHifFcrEvrPipesDpSwcBpmMrpCtrsFreeSeqOut, Dev.gapDiscard]
@[simp] theorem Dev.skipGap_frame (d : Dev) (q s : Nat) : ButHifFcrEvrPipesDpSwcBpmMrpCtrsFreeSeqOut d (Dev.skipGap d q s) := by
  unfold Dev.skipGap; (try dsimp only); (repeat' split) <;> first | (simp [ButHifFcrEvrPipesDpSwcBpmMrpCtrsFreeSeqOut]; done) | (simp_all [ButHifFcrEvrPipesDpSwcBpmMrpCtrsFreeSeqOut]; done) | (simp (disch := (intros; (repeat' split) <;> simp)) [ButHifFcrEvrPipesDpSwcBpmMrpCtrsFreeSeqOut]; done)
@[simp] theorem Dev.lateCell_frame (d : Dev) (x : Cross) : ButFcrEvrDpBpmCtrs d (Dev.lateCell d x) := by
  simp [ButFcrEvrDpBpmCtrs, Dev.lateCell]
@[simp] theorem Dev.resequence_frame (d : Dev) (x : Cross) : ButHifFcrEvrPipesDpSwcBpmMrpCtrsFreeSeqOut d (Dev.resequence d x) := by
  unfold Dev.resequence; (try dsimp only); (repeat' split) <;> first | (simp [ButHifFcrEvrPipesDpSwcBpmMrpCtrsFreeSeqOut]; done) | (simp_all [ButHifFcrEvrPipesDpSwcBpmMrpCtrsFreeSeqOut]; done) | (simp (disch := (intros; (repeat' split) <;> simp)) [ButHifFcrEvrPipesDpSwcBpmMrpCtrsFreeSeqOut]; done)
@[simp] theorem Dev.setMcLane_frame (d : Dev) (q s : Nat) (l : McLane) : ButSwc d (Dev.setMcLane d q s l) := by
  simp [ButSwc, Dev.setMcLane]
@[simp] theorem Dev.mcArrive_frame (d : Dev) (x : Cross) : ButHifFcrEvrPipesDpSwcBpmMrpCtrsFreeSeqOut d (Dev.mcArrive d x) := by
  simp [ButHifFcrEvrPipesDpSwcBpmMrpCtrsFreeSeqOut, Dev.mcArrive]
@[simp] theorem Dev.modPlane_frame (d : Dev) (k : Nat) (f : Plane → Plane) : ButSwc d (Dev.modPlane d k f) := by
  simp [ButSwc, Dev.modPlane]
@[simp] theorem Dev.hear_frame (d : Dev) (k q : Nat) (valid : Bool) : ButSwc d (Dev.hear d k q valid) := by
  simp [ButSwc, Dev.hear]
@[simp] theorem Dev.mcSettle_frame (d : Dev) : ButSwc d (Dev.mcSettle d) := by
  unfold Dev.mcSettle
  simp (disch := (intros; (try dsimp only); (repeat' split) <;> first | rfl | (simp; done) | (simp (disch := (intros; (try dsimp only); (repeat' split) <;> first | rfl | (simp; done) | skip)); done) | skip)) [ButSwc]
@[simp] theorem Dev.planeSources_frame (d : Dev) : ButFcr d (Dev.planeSources d) := by
  simp [ButFcr, Dev.planeSources]
@[simp] theorem Dev.planeRestore_frame (d : Dev) (mask : Nat) : ButSwc d (Dev.planeRestore d mask) := by
  simp [ButSwc, Dev.planeRestore]
@[simp] theorem Dev.ownError_frame (d : Dev) (c : Nat) : ButHifFcrEvrPipesDpSwcBpmMrpCtrsFreeSeqOut d (Dev.ownError d c) := by
  unfold Dev.ownError
  simp (disch := (intros; (try dsimp only); (repeat' split) <;> first | rfl | (simp; done) | (simp (disch := (intros; (try dsimp only); (repeat' split) <;> first | rfl | (simp; done) | skip)); done) | skip)) [ButHifFcrEvrPipesDpSwcBpmMrpCtrsFreeSeqOut]
@[simp] theorem Dev.descError_frame (d : Dev) (c : Nat) (lasting : Bool) : ButHifFcrEvrPipesDpSwcBpmMrpCtrsFreeSeqOut d (Dev.descError d c lasting) := by
  unfold Dev.descError; (try dsimp only); (repeat' split) <;> first | (simp [ButHifFcrEvrPipesDpSwcBpmMrpCtrsFreeSeqOut]; done) | (simp_all [ButHifFcrEvrPipesDpSwcBpmMrpCtrsFreeSeqOut]; done) | (simp (disch := (intros; (repeat' split) <;> simp)) [ButHifFcrEvrPipesDpSwcBpmMrpCtrsFreeSeqOut]; done)
@[simp] theorem Dev.payloadError_frame (d : Dev) (c : Nat) (lasting : Bool) : ButFcrBpm d (Dev.payloadError d c lasting) := by
  simp [ButFcrBpm, Dev.payloadError]
@[simp] theorem Dev.replError_frame (d : Dev) (r : Nat) : ButHifFcrEvrPipesDpSwcBpmMrpCtrsFreeSeqOut d (Dev.replError d r) := by
  unfold Dev.replError; split <;> simp [ButHifFcrEvrPipesDpSwcBpmMrpCtrsFreeSeqOut]
@[simp] theorem Dev.laterOverrun_frame (d : Dev) (pid : Nat) (x : Pkt) : ButHifFcrEvrPipesDpSwcBpmFcpsSpwMrpCtrsFreeSeqOut d (Dev.laterOverrun d pid x) := by
  simp [ButHifFcrEvrPipesDpSwcBpmFcpsSpwMrpCtrsFreeSeqOut, Dev.laterOverrun]
@[simp] theorem Dev.laterCell_frame (d : Dev) (pid : Nat) : ButHifFcrEvrPipesDpSwcBpmFcpsSpwMrpCtrsFreeSeqOut d (Dev.laterCell d pid) := by
  unfold Dev.laterCell; (try dsimp only); (repeat' split) <;> first | (simp [ButHifFcrEvrPipesDpSwcBpmFcpsSpwMrpCtrsFreeSeqOut]; done) | (simp_all [ButHifFcrEvrPipesDpSwcBpmFcpsSpwMrpCtrsFreeSeqOut]; done) | grind [Dev.laterOverrun_frame, Dev.modPkt_frame, Dev.takeFor_frame]
@[simp] theorem Dev.laterCells_frame (d : Dev) (ids : List Nat) : ButHifFcrEvrPipesDpSwcBpmFcpsSpwMrpCtrsFreeSeqOut d (Dev.laterCells d ids) := by
  simp [ButHifFcrEvrPipesDpSwcBpmFcpsSpwMrpCtrsFreeSeqOut, Dev.laterCells]
@[simp] theorem Dev.launch_frame (d : Dev) (x : Cross) : ButSwc d (Dev.launch d x) := by
  simp [ButSwc, Dev.launch]
@[simp] theorem Dev.writeCross_frame (d : Dev) (pid k : Nat) (how : Carried) : ButHifFcrEvrPipesDpSwcBpmMrpCtrsFreeSeqOut d (Dev.writeCross d pid k how) := by
  unfold Dev.writeCross; split <;> simp [ButHifFcrEvrPipesDpSwcBpmMrpCtrsFreeSeqOut]
@[simp] theorem Dev.readCross_frame (d : Dev) (x : Cross) (k : Nat) : ButSwcCtrs d (Dev.readCross d x k) := by
  simp [ButSwcCtrs, Dev.readCross]
@[simp] theorem Dev.cross_frame (acc : Dev × List Nat × List Nat) (c : Crossing) : ButHifFcrEvrPipesDpSwcBpmMrpCtrsFreeSeqOut acc.1 (Dev.cross acc c).1 := by
  unfold Dev.cross
  dsimp only
  (repeat' split) <;> simp [ButHifFcrEvrPipesDpSwcBpmMrpCtrsFreeSeqOut]
@[simp] theorem Dev.crossRank_frame (acc : Dev × List Nat) (r : Nat) (cs : List Crossing) : ButHifFcrEvrPipesDpSwcBpmMrpCtrsFreeSeqOut acc.1 (Dev.crossRank acc r cs).1 := by
  unfold Dev.crossRank
  dsimp only
  split <;> simp [ButHifFcrEvrPipesDpSwcBpmMrpCtrsFreeSeqOut]
@[simp] theorem Dev.cycle_frame (d : Dev) (ready : List (Nat × Carried)) : ButHifFcrEvrPipesDpSwcBpmFcpsSpwMrpCtrsFreeSeqOut d (Dev.cycle d ready) := by
  simp [ButHifFcrEvrPipesDpSwcBpmFcpsSpwMrpCtrsFreeSeqOut, Dev.cycle]
@[simp] theorem Dev.settle_frame (d : Dev) (k : Nat) : ButFcrEvrDpSpwCtrs d (Dev.settle d k) := by
  simp [ButFcrEvrDpSpwCtrs, Dev.settle]
@[simp] theorem Dev.purgeHead_frame (q1 : Nat) (q2 : Nat) (q3 : Nat) (q4 : Dev) : ButHifFcrEvrPipesDpSwcBpmMrpCtrsFreeSeqOut q4 (Dev.purgeHead q1 q2 q3 q4) := by
  induction q1 generalizing q4 with
  | zero => simp [ButHifFcrEvrPipesDpSwcBpmMrpCtrsFreeSeqOut, Dev.purgeHead]
  | succ n ih =>
    unfold Dev.purgeHead
    dsimp only
    (repeat' split) <;> simp [ButHifFcrEvrPipesDpSwcBpmMrpCtrsFreeSeqOut, ih]
@[simp] theorem Dev.deferHeads_frame (d : Dev) (p : Nat) : ButDpCtrs d (Dev.deferHeads d p) := by
  unfold Dev.deferHeads; (try dsimp only); (repeat' split) <;> first | (simp [ButDpCtrs]; done) | (simp_all [ButDpCtrs]; done) | (simp (disch := (intros; (repeat' split) <;> simp)) [ButDpCtrs]; done)
@[simp] theorem Dev.clearDeficits_frame (d : Dev) (p : Nat) : ButEsc d (Dev.clearDeficits d p) := by
  simp [ButEsc, Dev.clearDeficits]
@[simp] theorem Dev.chargeDeficit_frame (d : Dev) (p q : Nat) (len : Int) : ButEsc d (Dev.chargeDeficit d p q len) := by
  simp [ButEsc, Dev.chargeDeficit]
@[simp] theorem Dev.readCells_frame (d : Dev) (p : Nat) (t : Dest) (pid : Nat) (x : Pkt) (cells : List (Nat × Nat)) : ButSwc d (Dev.readCells d p t pid x cells) := by
  simp [ButSwc, Dev.readCells]
@[simp] theorem Dev.actionFetch_frame (d : Dev) (p : Nat) (f : Option StoreFlaw) : ButFcrEvrPipesFcpsCtrs d (Dev.actionFetch d p f).2 := by
  unfold Dev.actionFetch; (repeat' split) <;> simp [ButFcrEvrPipesFcpsCtrs]
@[simp] theorem Dev.rewriteCopy_frame (d : Dev) (e : Ent) (x : Pkt) (t : Dest) (flaws : Flaws) : ButHifFcrEvrPipesRleLrnDpSwcBpmFcpsMrpCtrsFreeSeqOut d (Dev.rewriteCopy d e x t flaws).2 := by
  unfold Dev.rewriteCopy; (try dsimp only); (repeat' split) <;> first | (simp [ButHifFcrEvrPipesRleLrnDpSwcBpmFcpsMrpCtrsFreeSeqOut]; done) | (simp_all [ButHifFcrEvrPipesRleLrnDpSwcBpmFcpsMrpCtrsFreeSeqOut]; done) | (simp (disch := (intros; (repeat' split) <;> simp)) [ButHifFcrEvrPipesRleLrnDpSwcBpmFcpsMrpCtrsFreeSeqOut]; done)
@[simp] theorem Dev.trapCopy_frame (d : Dev) (e : Ent) (x : Pkt) (t : Dest) (id : Nat) : ButHifFcrEvrPipesDpSwcBpmEscMrpCtrsFreeSeqOut d (Dev.trapCopy d e x t id) := by
  unfold Dev.trapCopy; (repeat' split) <;> simp [ButHifFcrEvrPipesDpSwcBpmEscMrpCtrsFreeSeqOut]
@[simp] theorem Dev.readFlaws_frame (d : Dev) (cells : List Nat) (flaws : Flaws) : ButFcrBpm d (Dev.readFlaws d cells flaws).2 := by
  simp [ButFcrBpm, Dev.readFlaws]
@[simp] theorem Dev.dropKept_frame (d : Dev) (p : Nat) : ButDp d (Dev.dropKept d p) := by
  simp [ButDp, Dev.dropKept]
@[simp] theorem Dev.startFrame_frame (d : Dev) (p : Nat) (t : Dest) (e : Ent) (x : Pkt) (bks cells : List Nat) (bad : Option Nat) (bytes : List Byte) (ptp : Option (Nat × Option Nat)) : ButHifFcrEvrPipesDpSwcBpmMrpCtrsFreeSeqOut d (Dev.startFrame d p t e x bks cells bad bytes ptp) := by
  simp [ButHifFcrEvrPipesDpSwcBpmMrpCtrsFreeSeqOut, Dev.startFrame]
@[simp] theorem Dev.dispatch_frame (d : Dev) (p : Nat) (t : Dest) (e : Ent) (x : Pkt) (bks : List Nat) (flaws : Flaws) : ButHifFcrEvrPipesRleLrnDpSwcBpmFcpsEscMrpCtrsFreeSeqOut d (Dev.dispatch d p t e x bks flaws) := by
  unfold Dev.dispatch; (try dsimp only); (repeat' split) <;> first | (simp [ButHifFcrEvrPipesRleLrnDpSwcBpmFcpsEscMrpCtrsFreeSeqOut]; done) | (simp_all [ButHifFcrEvrPipesRleLrnDpSwcBpmFcpsEscMrpCtrsFreeSeqOut]; done) | (simp (disch := (intros; (repeat' split) <;> simp)) [ButHifFcrEvrPipesRleLrnDpSwcBpmFcpsEscMrpCtrsFreeSeqOut]; done)
@[simp] theorem Dev.frontReady_frame (d : Dev) (p : Nat) : ButHifFcrEvrPipesDpSwcBpmSpwMrpCtrsFreeSeqOut d (Dev.frontReady d p) := by
  simp [ButHifFcrEvrPipesDpSwcBpmSpwMrpCtrsFreeSeqOut, Dev.frontReady]
@[simp] theorem Dev.takeHead_frame (d : Dev) (p q : Nat) (s : Sched) (e : Ent) (x : Pkt) : ButPipesDpEscCtrs d (Dev.takeHead d p q s e x).2 := by
  unfold Dev.takeHead; split <;> simp [ButPipesDpEscCtrs]
@[simp] theorem Dev.frontDecision_frame (d : Dev) (p : Nat) (flaws : Flaws) : ButHifFcrEvrPipesRleLrnDpSwcBpmFcpsSpwEscMrpCtrsFreeSeqOut d (Dev.frontDecision d p flaws).2 := by
  unfold Dev.frontDecision
  dsimp only
  (repeat' split) <;> simp [ButHifFcrEvrPipesRleLrnDpSwcBpmFcpsSpwEscMrpCtrsFreeSeqOut]
@[simp] theorem Dev.recircDecision_frame (d : Dev) (pipe : Nat) (flaws : Flaws) : ButHifFcrEvrPipesRleLrnDpSwcBpmFcpsEscMrpCtrsFreeSeqOut d (Dev.recircDecision d pipe flaws).2 := by
  unfold Dev.recircDecision; (try dsimp only); (repeat' split) <;> first | (simp [ButHifFcrEvrPipesRleLrnDpSwcBpmFcpsEscMrpCtrsFreeSeqOut]; done) | (simp_all [ButHifFcrEvrPipesRleLrnDpSwcBpmFcpsEscMrpCtrsFreeSeqOut]; done) | (simp (disch := (intros; (repeat' split) <;> simp)) [ButHifFcrEvrPipesRleLrnDpSwcBpmFcpsEscMrpCtrsFreeSeqOut]; done)
@[simp] theorem Dev.hostDecision_frame (d : Dev) (e : Nat) (flaws : Flaws) : ButHifFcrEvrPipesRleLrnDpSwcBpmFcpsEscMrpCtrsFreeSeqOut d (Dev.hostDecision d e flaws).2 := by
  unfold Dev.hostDecision; (try dsimp only); (repeat' split) <;> first | (simp [ButHifFcrEvrPipesRleLrnDpSwcBpmFcpsEscMrpCtrsFreeSeqOut]; done) | (simp_all [ButHifFcrEvrPipesRleLrnDpSwcBpmFcpsEscMrpCtrsFreeSeqOut]; done) | (simp (disch := (intros; (repeat' split) <;> simp)) [ButHifFcrEvrPipesRleLrnDpSwcBpmFcpsEscMrpCtrsFreeSeqOut]; done)
@[simp] theorem Dev.portDecision_frame (d : Dev) (port : Nat) (flaws : Flaws) : ButHifFcrEvrPipesRleLrnDpSwcBpmFcpsSpwEscMrpCtrsFreeSeqOut d (Dev.portDecision d port flaws).2 := by
  unfold Dev.portDecision; (repeat' split) <;> simp [ButHifFcrEvrPipesRleLrnDpSwcBpmFcpsSpwEscMrpCtrsFreeSeqOut]
@[simp] theorem Dev.askPorts_frame (pipe : Nat) (flaws : Flaws) (q1 : List Nat) (q2 : Dev) : ButHifFcrEvrPipesRleLrnDpSwcBpmFcpsSpwEscMrpCtrsFreeSeqOut q2 (Dev.askPorts pipe flaws q1 q2) := by
  induction q1 generalizing q2 with
  | nil => simp [ButHifFcrEvrPipesRleLrnDpSwcBpmFcpsSpwEscMrpCtrsFreeSeqOut, Dev.askPorts]
  | cons i l ih =>
    unfold Dev.askPorts
    dsimp only
    split <;> simp [ButHifFcrEvrPipesRleLrnDpSwcBpmFcpsSpwEscMrpCtrsFreeSeqOut, ih]
@[simp] theorem Dev.chargeLate_frame (d : Dev) (port : Nat) (y : Tx) : ButEscCtrs d (Dev.chargeLate d port y) := by
  simp [ButEscCtrs, Dev.chargeLate]
@[simp] theorem Dev.setOwed_frame (d : Dev) (port : Nat) (l : List Tx) : ButDp d (Dev.setOwed d port l) := by
  simp [ButDp, Dev.setOwed]
@[simp] theorem Dev.settleCharge_frame (d : Dev) (port : Nat) (y : Tx) : ButDpEscCtrs d (Dev.settleCharge d port y) := by
  simp [ButDpEscCtrs, Dev.settleCharge]
@[simp] theorem Dev.countSent_frame (d : Dev) (port : Nat) (y : Tx) (x : Pkt) (len : Nat) : ButMrpCtrs d (Dev.countSent d port y x len) := by
  unfold Dev.countSent; (repeat' split) <;> simp [ButMrpCtrs]
@[simp] theorem Dev.txEnd_frame (d : Dev) (port : Nat) (y : Tx) : ButHifFcrEvrPipesPteDpSwcBpmEscMrpCtrsFreeSeqOut d (Dev.txEnd d port y) := by
  unfold Dev.txEnd; (try dsimp only); (repeat' split) <;> first | (simp [ButHifFcrEvrPipesPteDpSwcBpmEscMrpCtrsFreeSeqOut]; done) | (simp_all [ButHifFcrEvrPipesPteDpSwcBpmEscMrpCtrsFreeSeqOut]; done) | (simp (disch := (intros; (repeat' split) <;> simp)) [ButHifFcrEvrPipesPteDpSwcBpmEscMrpCtrsFreeSeqOut]; done)
@[simp] theorem Dev.rxLose_frame (d : Dev) (ep : Nat) (y : Tx) (c : Option Ctr) : ButHifFcrEvrPipesDpSwcBpmMrpCtrsFreeSeqOut d (Dev.rxLose d ep y c) := by
  unfold Dev.rxLose; split <;> simp [ButHifFcrEvrPipesDpSwcBpmMrpCtrsFreeSeqOut]
@[simp] theorem Dev.rxDeliver_frame (d : Dev) (ep q : Nat) (y : Tx) (x : Pkt) (bufs : List (Nat × Nat)) (ns : List Nat) (err : Bool) : ButHifFcrEvrPipesDpSwcBpmMrpCtrsFreeSeqOut d (Dev.rxDeliver d ep q y x bufs ns err) := by
  simp [ButHifFcrEvrPipesDpSwcBpmMrpCtrsFreeSeqOut, Dev.rxDeliver]
@[simp] theorem Dev.freeRx_frame (d : Dev) (ep q : Nat) (c : Ctr) : ButHifFcrEvrPipesDpSwcBpmMrpCtrsFreeSeqOut d (Dev.freeRx d ep q c) := by
  simp [ButHifFcrEvrPipesDpSwcBpmMrpCtrsFreeSeqOut, Dev.freeRx]
@[simp] theorem Dev.txRefuse_frame (d : Dev) (ep q : Nat) (descs : List Nat) (status : Nat) : ButHifOut d (Dev.txRefuse d ep q descs status) := by
  simp [ButHifOut, Dev.txRefuse]
@[simp] theorem Dev.busyGen_frame (d : Dev) (c : CmdRef) (why : Nat) : ButHif d (Dev.busyGen d c why) := by
  simp [ButHif, Dev.busyGen]
@[simp] theorem Dev.genRetire_frame (d : Dev) : ButEvrRleCtrs d (Dev.genRetire d) := by
  simp [ButEvrRleCtrs, Dev.genRetire]
@[simp] theorem Dev.genDiscard_frame (d : Dev) (ep : Nat) : ButEvrRleCtrs d (Dev.genDiscard d ep) := by
  simp [ButEvrRleCtrs, Dev.genDiscard]
@[simp] theorem Dev.setMac_frame (d : Dev) (q i : Nat) (e : Option MacEnt) : ButLrn d (Dev.setMac d q i e) := by
  simp [ButLrn, Dev.setMac]
@[simp] theorem Dev.putMac_frame (d : Dev) (q i : Nat) (e : MacEnt) : ButFcrLrnCtrs d (Dev.putMac d q i e) := by
  simp [ButFcrLrnCtrs, Dev.putMac]
theorem Dev.macReserve_frame (d : Dev) (q : Nat) (e : MacEnt) {t} (h : (Dev.macReserve d q e) = some t) : ButFcrLrnCtrs d t := by
  unfold Dev.macReserve at h
  split at h
  · contradiction
  · simp only [Option.map_eq_some_iff] at h
    obtain ⟨i, -, rfl⟩ := h
    simp [ButFcrLrnCtrs]
@[simp] theorem Dev.macInsert_frame (d : Dev) (q : Nat) (e : MacEnt) (cfg : LrnCfg) (draw : Nat) : ButFcrEvrLrnCtrs d (Dev.macInsert d q e cfg draw) := by
  unfold Dev.macInsert; (try dsimp only); (repeat' split) <;> first | (simp [ButFcrEvrLrnCtrs]; done) | (simp_all [ButFcrEvrLrnCtrs]; done) | grind [Dev.bump_frame, Dev.liveMs_frame, Dev.macReserve_frame, Dev.putMac_frame, Dev.record_frame]
@[simp] theorem Dev.macMove_frame (d : Dev) (q i : Nat) (e : MacEnt) (v : LrnEvent) : ButEvrLrnCtrs d (Dev.macMove d q i e v) := by
  simp [ButEvrLrnCtrs, Dev.macMove]
@[simp] theorem Dev.macLearn_frame (d : Dev) (q : Nat) (v : LrnEvent) (draw : Nat) : ButFcrEvrLrnCtrs d (Dev.macLearn d q v draw) := by
  unfold Dev.macLearn; (repeat' split) <;> simp [ButFcrEvrLrnCtrs]
@[simp] theorem Dev.macChecked_frame (d : Dev) (q : Nat) (v : LrnEvent) (f : MacEnt → Option MacEnt) : ButFcrLrnCtrs d (Dev.macChecked d q v f) := by
  unfold Dev.macChecked; split <;> simp [ButFcrLrnCtrs]
@[simp] theorem Dev.macRefuse_frame (d : Dev) (q p : Nat) : ButFcr d (Dev.macRefuse d q p).2 := by
  simp [ButFcr, Dev.macRefuse]
@[simp] theorem Dev.macFound_frame (d : Dev) (q : Nat) (v : LrnEvent) : ButFcrLrn d (Dev.macFound d q v) := by
  simp [ButFcrLrn, Dev.macFound]
@[simp] theorem Dev.macHost_frame (d : Dev) (q : Nat) (v : LrnEvent) : ButFcrLrnCtrs d (Dev.macHost d q v).2 := by
  unfold Dev.macHost; (try dsimp only); (repeat' split) <;> first | (simp [ButFcrLrnCtrs]; done) | (simp_all [ButFcrLrnCtrs]; done) | grind [Dev.macFound_frame, Dev.macRefuse_frame, Dev.macReserve_frame, Dev.setMac_frame, Dev.stashRefresh_frame]
@[simp] theorem Dev.bulkEnd_frame (d : Dev) (c : CmdRef) (b : Bulk) : ButHif d (Dev.bulkEnd d c b) := by
  simp [ButHif, Dev.bulkEnd]
@[simp] theorem Dev.bulkNext_frame (d : Dev) (c : CmdRef) (x : Cmd) (b : Bulk) : ButHif d (Dev.bulkNext d c x b) := by
  simp [ButHif, Dev.bulkNext]
@[simp] theorem Dev.lrnStart_frame (d : Dev) (c : CmdRef) (kind : LrnKind) (image : BitVec 256) (polder : Nat) : ButLrn d (Dev.lrnStart d c kind image polder) := by
  simp [ButLrn, Dev.lrnStart]
@[simp] theorem Dev.lrnDone_frame (d : Dev) (o : LrnOp) (st detail r0 r1 : Nat) : ButHifLrn d (Dev.lrnDone d o st detail r0 r1) := by
  unfold Dev.lrnDone; (try dsimp only); (repeat' split) <;> first | (simp [ButHifLrn]; done) | (simp_all [ButHifLrn]; done) | (simp (disch := (intros; (repeat' split) <;> simp)) [ButHifLrn]; done)
@[simp] theorem Dev.lrnPass_frame (d : Dev) (o : LrnOp) : ButHifLrn d (Dev.lrnPass d o) := by
  unfold Dev.lrnPass; split <;> simp [ButHifLrn]
@[simp] theorem Dev.lrnReport_frame (d : Dev) (q id : Nat) (r : HostRes) : ButHifLrn d (Dev.lrnReport d q id r) := by
  unfold Dev.lrnReport; split <;> simp [ButHifLrn]
@[simp] theorem Dev.lagRefresh_frame (d : Dev) (q : Nat) : ButFcr d (Dev.lagRefresh d q) := by
  simp [ButFcr, Dev.lagRefresh]
@[simp] theorem Dev.macWalk_frame (d : Dev) (q : Nat) (path : List Nat) : ButFcrLrnCtrs d (Dev.macWalk d q path) := by
  unfold Dev.macWalk; (try dsimp only); (repeat' split) <;> first | (simp [ButFcrLrnCtrs]; done) | (simp_all [ButFcrLrnCtrs]; done) | (simp (disch := (intros; (repeat' split) <;> simp)) [ButFcrLrnCtrs]; done)
@[simp] theorem Dev.macRelocate_frame (d : Dev) (quad : Nat) (path : List Nat) : ButFcrLrnCtrs d (Dev.macRelocate d quad path) := by
  simp [ButFcrLrnCtrs, Dev.macRelocate]
@[simp] theorem Dev.sweepStart_frame (d : Dev) : ButLrn d (Dev.sweepStart d) := by
  simp [ButLrn, Dev.sweepStart]
@[simp] theorem Dev.ageVisit_frame (d : Dev) (q i : Nat) : ButLrnCtrs d (Dev.ageVisit d q i) := by
  unfold Dev.ageVisit; split <;> simp [ButLrnCtrs]
@[simp] theorem Dev.putTab_frame (d : Dev) (t i : Nat) (e : TabEnt) : ButRle d (Dev.putTab d t i e) := by
  simp [ButRle, Dev.putTab]
theorem Dev.writeIndexed_frame (d : Dev) (q : TabReq) (r : Nat) {t} (h : (Dev.writeIndexed d q r) = .ok t) : ButRle d t.2 := by
  revert h; unfold Dev.writeIndexed; (try dsimp only); (repeat' split) <;> (intro h; first | contradiction | (simp at h; subst h; simp [ButRle]; done) | (simp_all [ButRle]; done))
theorem Dev.writeKeyed_frame (d : Dev) (q : TabReq) (r : Nat) {t} (h : (Dev.writeKeyed d q r) = .ok t) : ButRle d t.2 := by
  revert h; unfold Dev.writeKeyed; (try dsimp only); (repeat' split) <;> (intro h; first | contradiction | (simp at h; subst h; simp [ButRle]; done) | (simp_all [ButRle]; done))
theorem Dev.writeDefault_frame (d : Dev) (r : Nat) {t} (h : (Dev.writeDefault d r) = .ok t) : ButPipesPse d t.2 := by
  revert h; unfold Dev.writeDefault; (try dsimp only); (repeat' split) <;> (intro h; first | contradiction | (simp at h; subst h; simp [ButPipesPse]; done) | (simp_all [ButPipesPse]; done))
theorem Dev.tabWrite_frame (d : Dev) (q : TabReq) (r : Nat) {t} (h : (Dev.tabWrite d q r) = .ok t) : ButPipesPseRle d t.2 := by
  revert h; unfold Dev.tabWrite; (try dsimp only); (repeat' split) <;> (intro h; first | (simp_all [ButPipesPseRle]; done) | grind [Dev.writeDefault_frame, Dev.writeIndexed_frame, Dev.writeKeyed_frame])
@[simp] theorem Dev.dropEnt_frame (d : Dev) (q : TabReq) (i : Nat) (e : TabEnt) : ButRle d (Dev.dropEnt d q i e) := by
  simp [ButRle, Dev.dropEnt]
theorem Dev.tabDelete_frame (d : Dev) (q : TabReq) (r : Nat) {t} (h : (Dev.tabDelete d q r) = .ok t) : ButRle d t.2 := by
  revert h; unfold Dev.tabDelete; (try dsimp only); (repeat' split) <;> (intro h; first | contradiction | (simp at h; subst h; simp [ButRle]; done) | (simp_all [ButRle]; done))
@[simp] theorem Dev.parityAll_frame (d : Dev) : ButFcr d (Dev.parityAll d) := by
  simp [ButFcr, Dev.parityAll]
@[simp] theorem Dev.tabWalk_frame (d : Dev) (t : Nat) (path : List Nat) : ButRle d (Dev.tabWalk d t path) := by
  unfold Dev.tabWalk; (try dsimp only); (repeat' split) <;> first | (simp [ButRle]; done) | (simp_all [ButRle]; done) | (simp (disch := (intros; (repeat' split) <;> simp)) [ButRle]; done)
@[simp] theorem Dev.tabFail_frame (d : Dev) (c : CmdRef) (p : Nat) (f : TabFail) : ButHifFcr d (Dev.tabFail d c p f) := by
  simp [ButHifFcr, Dev.tabFail]
@[simp] theorem Dev.tabReadCmd_frame (d : Dev) (c : CmdRef) (x : Cmd) (io : Io) (search : Bool) : ButHifOut d (Dev.tabReadCmd d c x io search) := by
  unfold Dev.tabReadCmd; (try dsimp only); (repeat' split) <;> first | (simp [ButHifOut]; done) | (simp_all [ButHifOut]; done) | (simp (disch := (intros; (repeat' split) <;> simp)) [ButHifOut]; done)
@[simp] theorem Dev.bulkElem_frame (d : Dev) (c : CmdRef) (x : Cmd) (el : List Byte) (place : Option Nat) : ButFcrPipesPseRleLrn d (Dev.bulkElem d c x el place).2 := by
  unfold Dev.bulkElem
  dsimp only
  repeat' split
  all_goals first
    | (simp [ButFcrPipesPseRleLrn]; done)
    | (next h => have := Dev.tabWrite_frame _ _ _ h; simp_all [ButFcrPipesPseRleLrn]; done)
    | (next h => have := Dev.tabDelete_frame _ _ _ h; simp_all [ButFcrPipesPseRleLrn]; done)
    | (next h =>
        split at h
        · have := Dev.tabWrite_frame _ _ _ h; simp_all [ButFcrPipesPseRleLrn]
        · have := Dev.tabDelete_frame _ _ _ h; simp_all [ButFcrPipesPseRleLrn])
@[simp] theorem Dev.bulkRun_frame (d : Dev) (c : CmdRef) (x : Cmd) (stride : Nat) (q1 : Nat) (q2 : List Byte) (q3 : Bulk) : ButFcrPipesPseRleLrn d (Dev.bulkRun d c x stride q1 q2 q3).2.2 := by
  induction q1 generalizing q2 q3 d with
  | zero => simp [ButFcrPipesPseRleLrn, Dev.bulkRun]
  | succ n ih =>
    have he := Dev.bulkElem_frame d c x (q2.take stride) none
    unfold Dev.bulkRun
    split
    · simp [ButFcrPipesPseRleLrn]
    · split
      · next h => simp_all [ButFcrPipesPseRleLrn]
      · next h => simp_all [ButFcrPipesPseRleLrn]
@[simp] theorem Dev.walkStep_frame (d : Dev) (c : CmdRef) (x : Cmd) (io : Io) (audit : Bool) : ButHifOut d (Dev.walkStep d c x io audit) := by
  unfold Dev.walkStep; (try dsimp only); (repeat' split) <;> first | (simp [ButHifOut]; done) | (simp_all [ButHifOut]; done) | (simp (disch := (intros; (repeat' split) <;> simp)) [ButHifOut]; done)
theorem Dev.writeCell_frame (d : Dev) (k : Nat) (backlog : List Nat) {t} (h : (Dev.writeCell d k backlog) = some t) : ButFcrEvrDpSpwCtrs d t.2 := by
  revert h; unfold Dev.writeCell; (try dsimp only); (repeat' split) <;> (intro h; first | contradiction | (simp at h; subst h; simp [ButFcrEvrDpSpwCtrs]; done) | (simp_all [ButFcrEvrDpSpwCtrs]; done))
theorem Dev.writeCells_frame (backlog : List Nat) (k : Nat) (q1 : Nat) (q2 : List Nat) (q3 : Dev) {t} (h : (Dev.writeCells backlog k q1 q2 q3) = some t) : ButFcrEvrDpSpwCtrs q3 t.2 := by
  induction q1 generalizing q2 q3 with
  | zero =>
    simp only [Dev.writeCells, Option.some.injEq] at h
    subst h
    simp [ButFcrEvrDpSpwCtrs]
  | succ n ih =>
    unfold Dev.writeCells at h
    split at h
    · contradiction
    · next hw =>
      have h1 := Dev.writeCell_frame _ _ _ hw
      have h2 := ih _ _ h
      simp_all [ButFcrEvrDpSpwCtrs]
@[simp] theorem Dev.trimChain_frame (d : Dev) (k : Nat) : ButFcrEvrDpSpwCtrs d (Dev.trimChain d k) := by
  simp [ButFcrEvrDpSpwCtrs, Dev.trimChain]
@[simp] theorem Dev.releaseCopies_frame (d : Dev) (x : Pkt) : ButFcrEvrBpmCtrs d (Dev.releaseCopies d x) := by
  simp [ButFcrEvrBpmCtrs, Dev.releaseCopies]
@[simp] theorem Dev.linkSegs_frame (d : Dev) (k : Nat) (before : Option Nat) (segs : List Nat) (slot : Nat) : ButSpw d (Dev.linkSegs d k before segs slot) := by
  simp [ButSpw, Dev.linkSegs]
@[simp] theorem Dev.spillHeads_frame (d : Dev) (k pid : Nat) (x : Pkt) : ButFreeSeq d (Dev.spillHeads d k pid x).2 := by
  simp [ButFreeSeq, Dev.spillHeads]
@[simp] theorem Dev.writeQueue_frame (d : Dev) (k : Nat) (backlog : List Nat) : ButFcrEvrDpBpmSpwCtrsFreeSeq d (Dev.writeQueue d k backlog) := by
  unfold Dev.writeQueue
  dsimp only
  repeat' split
  all_goals first
    | (simp [ButFcrEvrDpBpmSpwCtrsFreeSeq]; done)
    | (next h => have := Dev.writeCells_frame _ _ _ _ _ h; simp_all [ButFcrEvrDpBpmSpwCtrsFreeSeq]; done)
    | (next h _ _ => have := Dev.writeCells_frame _ _ _ _ _ h; simp_all [ButFcrEvrDpBpmSpwCtrsFreeSeq]; done)
    | (next h _ => have := Dev.writeCells_frame _ _ _ _ _ h; simp_all [ButFcrEvrDpBpmSpwCtrsFreeSeq]; done)
@[simp] theorem Dev.modLrq_frame (d : Dev) (a c : Nat) (f : Lrq → Lrq) : ButSpw d (Dev.modLrq d a c f) := by
  simp [ButSpw, Dev.modLrq]
@[simp] theorem Dev.writeLrq_frame (d : Dev) (a c : Nat) : ButFcrEvrDpBpmSpwCtrs d (Dev.writeLrq d a c) := by
  unfold Dev.writeLrq; split <;> simp [ButFcrEvrDpBpmSpwCtrs]
@[simp] theorem Dev.dropEnts_frame (d : Dev) (k : Nat) (sel : Ent → Bool) (c : Ctr) : ButHifFcrEvrPipesDpSwcBpmMrpCtrsFreeSeqOut d (Dev.dropEnts d k sel c) := by
  simp [ButHifFcrEvrPipesDpSwcBpmMrpCtrsFreeSeqOut, Dev.dropEnts]
@[simp] theorem Dev.dropSent_frame (d : Dev) (k : Nat) (sel : Tx → Bool) (c : Ctr) : ButDpMrpCtrs d (Dev.dropSent d k sel c) := by
  unfold Dev.dropSent; (try dsimp only); (repeat' split) <;> first | (simp [ButDpMrpCtrs]; done) | (simp_all [ButDpMrpCtrs]; done) | (simp (disch := (intros; (repeat' split) <;> simp)) [ButDpMrpCtrs]; done)
@[simp] theorem Dev.dropPart_frame (d : Dev) (k : Nat) (sel : Ent → Bool) (c : Ctr) : ButHifFcrEvrPipesDpSwcBpmMrpCtrsFreeSeqOut d (Dev.dropPart d k sel c) := by
  simp [ButHifFcrEvrPipesDpSwcBpmMrpCtrsFreeSeqOut, Dev.dropPart]
@[simp] theorem Dev.linkStaged_frame (d : Dev) (k : Nat) : ButDp d (Dev.linkStaged d k) := by
  simp [ButDp, Dev.linkStaged]
theorem Dev.takeReturn_frame (d : Dev) (eop : Bool) (prev : Option Nat) {t} (h : (Dev.takeReturn d eop prev) = some t) : ButFcrBpmCtrs d t.2 := by
  unfold Dev.takeReturn at h
  simp only [Option.map_eq_some_iff] at h
  obtain ⟨r, hr, rfl⟩ := h
  have := Dev.grantCell_frame _ _ _ _ _ _ _ hr
  simp_all [ButFcrBpmCtrs]
theorem Dev.readBack_frame (d : Dev) (k : Nat) {t} (h : (Dev.readBack d k) = some t) : ButFcrEvrDpSwcBpmSpwCtrs d t := by
  unfold Dev.readBack at h
  dsimp only at h
  repeat' split at h
  all_goals first
    | contradiction
    | (have := Dev.takeReturn_frame _ _ _ ‹Dev.takeReturn _ _ _ = some _›; simp only [Option.some.injEq] at h; subst h; simp_all [ButFcrEvrDpSwcBpmSpwCtrs]; done)
@[simp] theorem Dev.readMany_frame (k : Nat) (q1 : Nat) (q2 : Dev) : ButFcrEvrDpSwcBpmSpwCtrs q2 (Dev.readMany k q1 q2) := by
  induction q1 generalizing q2 with
  | zero => simp [ButFcrEvrDpSwcBpmSpwCtrs, Dev.readMany]
  | succ n ih =>
    unfold Dev.readMany
    split
    · next h => have := Dev.readBack_frame _ _ h; simp_all [ButFcrEvrDpSwcBpmSpwCtrs]
    · simp [ButFcrEvrDpSwcBpmSpwCtrs]
@[simp] theorem Dev.hbmFixed_frame (d : Dev) (stack : Nat) : ButFcrCtrs d (Dev.hbmFixed d stack) := by
  simp [ButFcrCtrs, Dev.hbmFixed]
@[simp] theorem Dev.basinBad_frame (d : Dev) (id s slot : Nat) (lasting : Bool) : ButFcrEvrSpwCtrs d (Dev.basinBad d id s slot lasting) := by
  simp [ButFcrEvrSpwCtrs, Dev.basinBad]
@[simp] theorem Dev.chainBreak_frame (d : Dev) (k : Nat) : ButHifFcrEvrPipesDpSwcBpmSpwMrpCtrsFreeSeqOut d (Dev.chainBreak d k) := by
  simp [ButHifFcrEvrPipesDpSwcBpmSpwMrpCtrsFreeSeqOut, Dev.chainBreak]
@[simp] theorem Dev.qstateLost_frame (d : Dev) (k : Nat) : ButHifFcrEvrPipesDpSwcBpmSpwMrpCtrsFreeSeqOut d (Dev.qstateLost d k) := by
  simp [ButHifFcrEvrPipesDpSwcBpmSpwMrpCtrsFreeSeqOut, Dev.qstateLost]
theorem Dev.takeMany_frame (q1 : Nat) (q2 : List Nat) (q3 : Dev) {t} (h : (Dev.takeMany q1 q2 q3) = some t) : ButFcrBpmCtrs q3 t.2 := by
  induction q1 generalizing q2 q3 with
  | zero =>
    simp only [Dev.takeMany, Option.some.injEq] at h
    subst h
    simp [ButFcrBpmCtrs]
  | succ n ih =>
    unfold Dev.takeMany at h
    split at h
    · next hw =>
      have h1 := Dev.takeReturn_frame _ _ _ hw
      have h2 := ih _ _ h
      simp_all [ButFcrBpmCtrs]
    · contradiction
@[simp] theorem Dev.lrqAddr_frame (d : Dev) : ButFreeSeq d (Dev.lrqAddr d).2 := by
  simp [ButFreeSeq, Dev.lrqAddr]
@[simp] theorem Dev.modCxl_frame (d : Dev) (i : Nat) (f : Cxl → Cxl) : ButSpw d (Dev.modCxl d i f) := by
  simp [ButSpw, Dev.modCxl]
@[simp] theorem Dev.cxlAbsent_frame (d : Dev) : ButFcr d (Dev.cxlAbsent d) := by
  simp [ButFcr, Dev.cxlAbsent]
@[simp] theorem Dev.cxlAsk_frame (d : Dev) (mask : Nat) : ButSpw d (Dev.cxlAsk d mask) := by
  simp [ButSpw, Dev.cxlAsk]
@[simp] theorem Dev.cxlEnter_frame (d : Dev) : ButSpw d (Dev.cxlEnter d) := by
  simp [ButSpw, Dev.cxlEnter]
@[simp] theorem Dev.modGauge_frame (d : Dev) (p : Nat) (f : Gauge → Gauge) : ButEsc d (Dev.modGauge d p f) := by
  simp [ButEsc, Dev.modGauge]
@[simp] theorem Dev.archivePut_frame (d : Dev) (polder : Nat) (r : BitVec 1536) : ButEsc d (Dev.archivePut d polder r) := by
  simp [ButEsc, Dev.archivePut]
@[simp] theorem Dev.gaugePut_frame (d : Dev) (e : Nat) (r : BitVec 1536) : ButHifFcrCtrsOut d (Dev.gaugePut d e r) := by
  simp [ButHifFcrCtrsOut, Dev.gaugePut]
@[simp] theorem Dev.gaugeEmit_frame (d : Dev) (port endNs : Nat) (disc : Bool) (q : Nat) : ButHifFcrEscCtrsOut d (Dev.gaugeEmit d port endNs disc q) := by
  unfold Dev.gaugeEmit; (try dsimp only); (repeat' split) <;> first | (simp [ButHifFcrEscCtrsOut]; done) | (simp_all [ButHifFcrEscCtrsOut]; done) | (simp (disch := (intros; (repeat' split) <;> simp)) [ButHifFcrEscCtrsOut]; done)
@[simp] theorem Dev.gaugeClose_frame (d : Dev) (port endNs : Nat) (disc : Bool) : ButHifFcrEscCtrsOut d (Dev.gaugeClose d port endNs disc) := by
  simp [ButHifFcrEscCtrsOut, Dev.gaugeClose]
@[simp] theorem Dev.gaugeStep_frame (d : Dev) (old : Nat) : ButHifFcrEscCtrsOut d (Dev.gaugeStep d old) := by
  simp [ButHifFcrEscCtrsOut, Dev.gaugeStep]
@[simp] theorem doEpGaugeRingWrite_frame (ep dword : Nat) (v : Word) (d : Dev) : ButHif d (doEpGaugeRingWrite ep dword v d) := by
  simp [ButHif, doEpGaugeRingWrite]
@[simp] theorem Dev.modBank_frame (d : Dev) (p b : Nat) (f : Bank → Bank) : ButMrp d (Dev.modBank d p b f) := by
  simp [ButMrp, Dev.modBank]
@[simp] theorem Dev.stall_frame (d : Dev) (p : Nat) : ButFcr d (Dev.stall d p) := by
  simp [ButFcr, Dev.stall]
@[simp] theorem Dev.openBank_frame (d : Dev) (p : Nat) : ButFcrMrp d (Dev.openBank d p) := by
  unfold Dev.openBank; split <;> simp [ButFcrMrp]
@[simp] theorem Dev.openBanks_frame (d : Dev) : ButFcrMrp d (Dev.openBanks d) := by
  simp [ButFcrMrp, Dev.openBanks]
@[simp] theorem Dev.markBanks_frame (d : Dev) (m : StepMark) : ButMrp d (Dev.markBanks d m) := by
  unfold Dev.markBanks; (try dsimp only); (repeat' split) <;> first | (simp [ButMrp]; done) | (simp_all [ButMrp]; done) | (simp (disch := (intros; (repeat' split) <;> simp)) [ButMrp]; done)
@[simp] theorem Dev.endEpoch_frame (d : Dev) (next endNs : Nat) : ButFcrEvrMrpCtrs d (Dev.endEpoch d next endNs) := by
  unfold Dev.endEpoch
  simp (disch := (intros; (try dsimp only); (repeat' split) <;> first | rfl | (simp; done) | (simp (disch := (intros; (try dsimp only); (repeat' split) <;> first | rfl | (simp; done) | skip)); done) | skip)) [ButFcrEvrMrpCtrs]
@[simp] theorem Dev.modMrpRing_frame (d : Dev) (p : Nat) (f : MrpRing → MrpRing) : ButMrp d (Dev.modMrpRing d p f) := by
  simp [ButMrp, Dev.modMrpRing]
@[simp] theorem Dev.freeBank_frame (d : Dev) (p b : Nat) : ButMrp d (Dev.freeBank d p b) := by
  simp [ButMrp, Dev.freeBank]
@[simp] theorem Dev.freeze__frame (d : Dev) (p b : Nat) : ButMrp d (Dev.freeze_ d p b) := by
  simp [ButMrp, Dev.freeze_]
@[simp] theorem Dev.closeBanks_frame (d : Dev) : ButFcrMrp d (Dev.closeBanks d) := by
  unfold Dev.closeBanks; (try dsimp only); (repeat' split) <;> first | (simp [ButFcrMrp]; done) | (simp_all [ButFcrMrp]; done) | (simp (disch := (intros; (repeat' split) <;> simp)) [ButFcrMrp]; done)
@[simp] theorem Dev.mrpPut_frame (d : Dev) (p : Nat) (r : List Byte) : ButHifMrpCtrsOut d (Dev.mrpPut d p r).2 := by
  simp [ButHifMrpCtrsOut, Dev.mrpPut]
@[simp] theorem doEpMrpRingConsWrite_frame (ep polder : Nat) (v : Word) (d : Dev) : ButHifMrp d (doEpMrpRingConsWrite ep polder v d) := by
  simp [ButHifMrp, doEpMrpRingConsWrite]
@[simp] theorem Dev.lateUpdate_frame (d : Dev) (tenant polder epoch : Nat) (inc : List Nat) : ButHifFcrEvrMrpCtrsOut d (Dev.lateUpdate d tenant polder epoch inc) := by
  unfold Dev.lateUpdate; (try dsimp only); (repeat' split) <;> first | (simp [ButHifFcrEvrMrpCtrsOut]; done) | (simp_all [ButHifFcrEvrMrpCtrsOut]; done) | (simp (disch := (intros; (repeat' split) <;> simp)) [ButHifFcrEvrMrpCtrsOut]; done)
@[simp] theorem Dev.combine_frame (d : Dev) (i : Nat) (bad : Option Nat) : ButHifFcrEvrMrpCtrsOut d (Dev.combine d i bad) := by
  unfold Dev.combine; (try dsimp only); (repeat' split) <;> first | (simp [ButHifFcrEvrMrpCtrsOut]; done) | (simp_all [ButHifFcrEvrMrpCtrsOut]; done) | (simp (disch := (intros; (repeat' split) <;> simp)) [ButHifFcrEvrMrpCtrsOut]; done)
@[simp] theorem Dev.combineOld_frame (q1 : Nat) (q2 : Dev) : ButHifFcrEvrMrpCtrsOut q2 (Dev.combineOld q1 q2) := by
  induction q1 generalizing q2 with
  | zero => simp [ButHifFcrEvrMrpCtrsOut, Dev.combineOld]
  | succ n ih =>
    unfold Dev.combineOld
    split
    · simp [ButHifFcrEvrMrpCtrsOut]
    · simp [ButHifFcrEvrMrpCtrsOut, ih]
@[simp] theorem Dev.setFlow_frame (d : Dev) (s : Nat) (f : Option Flow) : ButMrp d (Dev.setFlow d s f) := by
  simp [ButMrp, Dev.setFlow]
@[simp] theorem Dev.toUnattr_frame (d : Dev) (f : Flow) (budget : Bool) : ButFcrMrpCtrs d (Dev.toUnattr d f budget) := by
  simp [ButFcrMrpCtrs, Dev.toUnattr]
@[simp] theorem Dev.exportFlow_frame (d : Dev) (f : Flow) (final evicted : Bool) : ButMrp d (Dev.exportFlow d f final evicted) := by
  simp [ButMrp, Dev.exportFlow]
@[simp] theorem Dev.ledgerBad_frame (d : Dev) (s : Nat) (f : Flow) : ButFcrEvrMrpCtrs d (Dev.ledgerBad d s f) := by
  simp [ButFcrEvrMrpCtrs, Dev.ledgerBad]
@[simp] theorem Dev.disableRing_frame (d : Dev) (p : Nat) : ButMrp d (Dev.disableRing d p) := by
  simp [ButMrp, Dev.disableRing]
@[simp] theorem Dev.weirParity_frame (d : Dev) (w q : Nat) : ButFcrEvrMrpCtrs d (Dev.weirParity d w q) := by
  simp [ButFcrEvrMrpCtrs, Dev.weirParity]
@[simp] theorem Dev.timeStep_frame (d : Dev) (newTime newOffset cause : Nat) : ButHifFcrEvrTmuEscMrpCtrsOut d (Dev.timeStep d newTime newOffset cause) := by
  simp [ButHifFcrEvrTmuEscMrpCtrsOut, Dev.timeStep]
@[simp] theorem Dev.timeApply_frame (d : Dev) (c : CmdRef) (setTo : Option Nat) (offset : Int) : ButHifFcrEvrTmuEscMrpCtrsOut d (Dev.timeApply d c setTo offset) := by
  simp [ButHifFcrEvrTmuEscMrpCtrsOut, Dev.timeApply]
@[simp] theorem Dev.timeWhen_frame (d : Dev) (c : CmdRef) (x : Cmd) (setTo : Option Nat) (offset : Int) : ButHifFcrEvrTmuEscMrpCtrsOut d (Dev.timeWhen d c x setTo offset) := by
  simp [ButHifFcrEvrTmuEscMrpCtrsOut, Dev.timeWhen]
@[simp] theorem Dev.refState_frame (d : Dev) : ButFcrTmu d (Dev.refState d) := by
  simp [ButFcrTmu, Dev.refState]
@[simp] theorem Dev.tmuCfgWrite_frame (d : Dev) (dword : Nat) (v : Word) : ButFcrTmu d (Dev.tmuCfgWrite d dword v) := by
  simp [ButFcrTmu, Dev.tmuCfgWrite]
@[simp] theorem doGlMrpCfgWrite_frame (ep : Nat) (v : Word) (d : Dev) : ButHifFcrEvrTmuEscMrpCtrsOut d (doGlMrpCfgWrite ep v d) := by
  simp [ButHifFcrEvrTmuEscMrpCtrsOut, doGlMrpCfgWrite]
@[simp] theorem Dev.modCvu_frame (d : Dev) (n : Nat) (f : CvuCtx → CvuCtx) : ButCvu d (Dev.modCvu d n f) := by
  simp [ButCvu, Dev.modCvu]
theorem Dev.cvuSlice_frame (d : Dev) {t} (h : (Dev.cvuSlice d) = some t) : ButCvu d t.2.2 := by
  revert h; unfold Dev.cvuSlice; (try dsimp only); (repeat' split) <;> (intro h; first | contradiction | (simp at h; subst h; simp [ButCvu]; done) | (simp_all [ButCvu]; done))
@[simp] theorem Dev.cvuDrain_frame (n : Nat) (own : Bool) (q1 : Nat) (q2 : Nat) (q3 : Dev) : ButCvuCtrs q3 (Dev.cvuDrain n own q1 q2 q3) := by
  induction q1 generalizing q2 q3 with
  | zero => simp [ButCvuCtrs, Dev.cvuDrain]
  | succ k ih =>
    unfold Dev.cvuDrain
    repeat' split
    all_goals first
      | (simp [ButCvuCtrs]; done)
      | (have := Dev.cvuSlice_frame _ ‹Dev.cvuSlice _ = some _›; simp_all [ButCvuCtrs]; done)
@[simp] theorem Dev.cvuWait_frame (d : Dev) (n : Nat) (own : Bool) : ButCvuCtrs d (Dev.cvuWait d n own) := by
  simp [ButCvuCtrs, Dev.cvuWait]
@[simp] theorem Dev.cvuAccept_frame (d : Dev) (n : Nat) (w : CvuWrite) : ButCvuCtrs d (Dev.cvuAccept d n w) := by
  simp [ButCvuCtrs, Dev.cvuAccept]
@[simp] theorem Dev.cvuJudge_frame (d : Dev) (n : Nat) : ButFcrCvuCtrs d (Dev.cvuJudge d n) := by
  simp [ButFcrCvuCtrs, Dev.cvuJudge]
@[simp] theorem Dev.cvuCtl_frame (d : Dev) (who : CvuParty) (n : Nat) (v : Word) : ButHifFcrCvuCtrs d (Dev.cvuCtl d who n v) := by
  unfold Dev.cvuCtl; split <;> simp [ButHifFcrCvuCtrs]
@[simp] theorem doCvuDataWrite_frame (who : CvuParty) (ctx enables : Nat) (v : Word) (d : Dev) : ButHifCvuCtrs d (doCvuDataWrite who ctx enables v d) := by
  unfold doCvuDataWrite; split <;> simp [ButHifCvuCtrs]
@[simp] theorem Dev.cvuReg_frame (d : Dev) (who : CvuParty) (n off : Nat) (v : Word) : ButHifFcrCvuCtrs d (Dev.cvuReg d who n off v) := by
  unfold Dev.cvuReg; split <;> simp [ButHifFcrCvuCtrs]
@[simp] theorem Dev.cvuEngine_frame (d : Dev) (n first : Nat) (check : Ecc) : ButFcrEvrCvuCtrs d (Dev.cvuEngine d n first check) := by
  unfold Dev.cvuEngine; split <;> simp [ButFcrEvrCvuCtrs]
@[simp] theorem Dev.cvuStateBad_frame (d : Dev) (n reg : Nat) : ButFcrEvrCvuCtrs d (Dev.cvuStateBad d n reg) := by
  simp [ButFcrEvrCvuCtrs, Dev.cvuStateBad]
@[simp] theorem Dev.cvuDescriptor_frame (d : Dev) (e : Nat) (desc : Descriptor) (check : Ecc) : ButFcrEvrCvuCtrs d (Dev.cvuDescriptor d e desc check).2 := by
  simp [ButFcrEvrCvuCtrs, Dev.cvuDescriptor]
@[simp] theorem Dev.portEvent_frame (d : Dev) (code p : Nat) (fs : List (Nat × Nat × Nat)) : ButEvrCtrs d (Dev.portEvent d code p fs) := by
  simp [ButEvrCtrs, Dev.portEvent]
@[simp] theorem Dev.laneRefresh_frame (d : Dev) (l : Nat) : ButFcr d (Dev.laneRefresh d l) := by
  simp [ButFcr, Dev.laneRefresh]
@[simp] theorem Dev.setPortSt_frame (d : Dev) (p : Nat) (st : PortSt) : ButFcrPte d (Dev.setPortSt d p st) := by
  simp [ButFcrPte, Dev.setPortSt]
@[simp] theorem Dev.serdesRefresh_frame (d : Dev) : ButFcr d (Dev.serdesRefresh d) := by
  simp [ButFcr, Dev.serdesRefresh]
@[simp] theorem Dev.macroEvent_frame (d : Dev) (m on failed : Nat) : ButEvrCtrs d (Dev.macroEvent d m on failed) := by
  simp [ButEvrCtrs, Dev.macroEvent]
@[simp] theorem Dev.macroIdle_frame (d : Dev) (m : Nat) : ButFcrEvrPteCtrs d (Dev.macroIdle d m) := by
  simp [ButFcrEvrPteCtrs, Dev.macroIdle]
@[simp] theorem Dev.macroStart_frame (d : Dev) (m : Nat) : ButFcrPte d (Dev.macroStart d m) := by
  simp [ButFcrPte, Dev.macroStart]
@[simp] theorem Dev.trainStart_frame (d : Dev) (p : Nat) : ButPte d (Dev.trainStart d p) := by
  simp [ButPte, Dev.trainStart]
@[simp] theorem Dev.linkRefresh_frame (d : Dev) (p : Nat) : ButFcrPte d (Dev.linkRefresh d p) := by
  unfold Dev.linkRefresh; split <;> simp [ButFcrPte]
@[simp] theorem Dev.reopen_frame (d : Dev) (p : Nat) : ButPte d (Dev.reopen d p) := by
  simp [ButPte, Dev.reopen]
@[simp] theorem Dev.linksRefresh_frame (d : Dev) : ButFcrPte d (Dev.linksRefresh d) := by
  simp [ButFcrPte, Dev.linksRefresh]
@[simp] theorem Dev.expireHold_frame (d : Dev) (p : Nat) (brk : Bool) : ButHifFcrEvrPipesPteDpSwcBpmSpwMrpCtrsFreeSeqOut d (Dev.expireHold d p brk) := by
  simp [ButHifFcrEvrPipesPteDpSwcBpmSpwMrpCtrsFreeSeqOut, Dev.expireHold]
@[simp] theorem Dev.loseLink_frame (d : Dev) (p cause lane : Nat) : ButHifFcrEvrPipesPteDpSwcBpmSpwMrpCtrsFreeSeqOut d (Dev.loseLink d p cause lane) := by
  simp [ButHifFcrEvrPipesPteDpSwcBpmSpwMrpCtrsFreeSeqOut, Dev.loseLink]
@[simp] theorem Dev.laneCause_frame (d : Dev) (l cause since : Nat) : ButFcrPte d (Dev.laneCause d l cause since) := by
  simp [ButFcrPte, Dev.laneCause]
@[simp] theorem Dev.acctDefaults_frame (d : Dev) (p : Nat) : ButFcrBpmSpwCtrs d (Dev.acctDefaults d p) := by
  simp [ButFcrBpmSpwCtrs, Dev.acctDefaults]
@[simp] theorem Dev.dissolve_frame (d : Dev) (p : Nat) : ButFcrPtePseBpmSpwEscCtrs d (Dev.dissolve d p) := by
  simp [ButFcrPtePseBpmSpwEscCtrs, Dev.dissolve]
@[simp] theorem Dev.portDefaults_frame (d : Dev) (p : Nat) : ButFcrPseBpmFcpsSpwEscCtrsOut d (Dev.portDefaults d p) := by
  simp [ButFcrPseBpmFcpsSpwEscCtrsOut, Dev.portDefaults]
@[simp] theorem Dev.portResult_frame (d : Dev) (c : CmdRef) (p : Nat) : ButHif d (Dev.portResult d c p) := by
  simp [ButHif, Dev.portResult]
@[simp] theorem Dev.adminUp_frame (d : Dev) (p ep : Nat) : ButFcrEvrPteCtrs d (Dev.adminUp d p ep) := by
  simp [ButFcrEvrPteCtrs, Dev.adminUp]
@[simp] theorem Dev.stopTransmitter_frame (d : Dev) (p : Nat) : ButHifFcrEvrPipesDpSwcBpmEscMrpCtrsFreeSeqOut d (Dev.stopTransmitter d p) := by
  simp [ButHifFcrEvrPipesDpSwcBpmEscMrpCtrsFreeSeqOut, Dev.stopTransmitter]
@[simp] theorem Dev.adminDown_frame (d : Dev) (p ep : Nat) : ButHifFcrEvrPipesPteDpSwcBpmSpwEscMrpCtrsFreeSeqOut d (Dev.adminDown d p ep) := by
  simp [ButHifFcrEvrPipesPteDpSwcBpmSpwEscMrpCtrsFreeSeqOut, Dev.adminDown]
@[simp] theorem Dev.breakBack_frame (d : Dev) (p : Nat) : ButHifFcrEvrPipesPteDpSwcBpmSpwMrpCtrsFreeSeqOut d (Dev.breakBack d p) := by
  simp [ButHifFcrEvrPipesPteDpSwcBpmSpwMrpCtrsFreeSeqOut, Dev.breakBack]
@[simp] theorem Dev.portsFollow_frame (d : Dev) : ButFcrPteFcps d (Dev.portsFollow d) := by
  simp [ButFcrPteFcps, Dev.portsFollow]
@[simp] theorem Dev.polderFree_frame (d : Dev) (p : Nat) : ButHifFcrEvrPipesPteDpSwcBpmSpwMrpCtrsFreeSeqOut d (Dev.polderFree d p).2 := by
  simp [ButHifFcrEvrPipesPteDpSwcBpmSpwMrpCtrsFreeSeqOut, Dev.polderFree]
@[simp] theorem Dev.holdPolder_frame (d : Dev) (p source : Nat) : ButHifPlcFcrEvrPipesPteDpSwcBpmFcpsSpwMrpCtrsFreeSeqOut d (Dev.holdPolder d p source) := by
  unfold Dev.holdPolder; (try dsimp only); (repeat' split) <;> first | (simp [ButHifPlcFcrEvrPipesPteDpSwcBpmFcpsSpwMrpCtrsFreeSeqOut]; done) | (simp_all [ButHifPlcFcrEvrPipesPteDpSwcBpmFcpsSpwMrpCtrsFreeSeqOut]; done) | (simp (disch := (intros; (repeat' split) <;> simp)) [ButHifPlcFcrEvrPipesPteDpSwcBpmFcpsSpwMrpCtrsFreeSeqOut]; done)
@[simp] theorem Dev.holdPolders_frame (d : Dev) (mask source : Nat) : ButHifPlcFcrEvrPipesPteDpSwcBpmFcpsSpwMrpCtrsFreeSeqOut d (Dev.holdPolders d mask source) := by
  simp [ButHifPlcFcrEvrPipesPteDpSwcBpmFcpsSpwMrpCtrsFreeSeqOut, Dev.holdPolders]
@[simp] theorem Dev.vecsFollow_frame (d : Dev) : ButHifOut d (Dev.vecsFollow d) := by
  simp [ButHifOut, Dev.vecsFollow]
@[simp] theorem Dev.unmapVecs_frame (d : Dev) (p : Nat) : ButHif d (Dev.unmapVecs d p) := by
  simp [ButHif, Dev.unmapVecs]
@[simp] theorem Dev.polderPut_frame (d : Dev) (p r : Nat) : ButHifPlcFcrEvrPteBpmFcpsMrpCtrsOut d (Dev.polderPut d p r) := by
  simp [ButHifPlcFcrEvrPteBpmFcpsMrpCtrsOut, Dev.polderPut]
@[simp] theorem Dev.polderSet_frame (d : Dev) (c : CmdRef) (io : Io) (act : Nat) : ButHifPlcFcrEvrPteBpmFcpsMrpCtrsOut d (Dev.polderSet d c io act) := by
  unfold Dev.polderSet; (try dsimp only); (repeat' split) <;> first | (simp [ButHifPlcFcrEvrPteBpmFcpsMrpCtrsOut]; done) | (simp_all [ButHifPlcFcrEvrPteBpmFcpsMrpCtrsOut]; done) | (simp (disch := (intros; (repeat' split) <;> simp)) [ButHifPlcFcrEvrPteBpmFcpsMrpCtrsOut]; done)
@[simp] theorem Dev.polderClear_frame (d : Dev) (p ep : Nat) : ButHifPlcFcrEvrPipesPtePseRleDpSwcBpmFcpsSpwEscMrpCtrsFreeSeqOut d (Dev.polderClear d p ep) := by
  simp [ButHifPlcFcrEvrPipesPtePseRleDpSwcBpmFcpsSpwEscMrpCtrsFreeSeqOut, Dev.polderClear]
@[simp] theorem Dev.polderDrop_frame (d : Dev) (p : Nat) : ButPlcFcrRleLrnBpmMrpCtrs d (Dev.polderDrop d p) := by
  simp [ButPlcFcrRleLrnBpmMrpCtrs, Dev.polderDrop]
@[simp] theorem Dev.drawChallenge_frame (d : Dev) : ButPlcFreeSeq d (Dev.drawChallenge d) := by
  simp [ButPlcFreeSeq, Dev.drawChallenge]
@[simp] theorem Dev.handover_frame (d : Dev) (t : List Byte) (smbus : Bool) : ButPlcEvrCtrsFreeSeq d (Dev.handover d t smbus).2 := by
  unfold Dev.handover; split <;> simp [ButPlcEvrCtrsFreeSeq]
@[simp] theorem Dev.storeLost_frame (d : Dev) (kind i : Nat) : ButBootRegPipes d (Dev.storeLost d kind i) := by
  unfold Dev.storeLost; (repeat' split) <;> simp [ButBootRegPipes]
@[simp] theorem Dev.reloadFails_frame (d : Dev) (cause : Nat) : ButFcrEvrBootRegPipesCtrs d (Dev.reloadFails d cause) := by
  unfold Dev.reloadFails; split <;> simp [ButFcrEvrBootRegPipesCtrs]
@[simp] theorem Dev.endedSweep_frame (d : Dev) : ButFcrEvrBootRegPipesFcpsCtrs d (Dev.endedSweep d) := by
  unfold Dev.endedSweep; (try dsimp only); (repeat' split) <;> first | (simp [ButFcrEvrBootRegPipesFcpsCtrs]; done) | (simp_all [ButFcrEvrBootRegPipesFcpsCtrs]; done) | (simp (disch := (intros; (repeat' split) <;> simp)) [ButFcrEvrBootRegPipesFcpsCtrs]; done)
@[simp] theorem Dev.endCommands_frame (d : Dev) : ButHifFcrEvrBootRegPipesTmuFcpsCtrs d (Dev.endCommands d) := by
  simp [ButHifFcrEvrBootRegPipesTmuFcpsCtrs, Dev.endCommands]
@[simp] theorem Dev.freeAll_frame (d : Dev) (c : Ctr) (drain : Bool) : ButHifFcrEvrPipesDpSwcBpmSpwMrpCtrsFreeSeqOut d (Dev.freeAll d c drain) := by
  unfold Dev.freeAll
  simp (disch := (intros; (try dsimp only); (repeat' split) <;> first | rfl | (simp; done) | (simp (disch := (intros; (try dsimp only); (repeat' split) <;> first | rfl | (simp; done) | skip)); done) | skip)) [ButHifFcrEvrPipesDpSwcBpmSpwMrpCtrsFreeSeqOut]
@[simp] theorem Dev.coreReset_frame (d : Dev) : ButBalHifFcrEvrBootRegPipesTmuPtePseRleLrnDpSwcBpmFcpsSpwEscMrpCtrs d (Dev.coreReset d) := by
  simp [ButBalHifFcrEvrBootRegPipesTmuPtePseRleLrnDpSwcBpmFcpsSpwEscMrpCtrs, Dev.coreReset]
@[simp] theorem Dev.applyMap_frame (d : Dev) : ButFcrEvrSpwEscCtrs d (Dev.applyMap d) := by
  simp [ButFcrEvrSpwEscCtrs, Dev.applyMap]
@[simp] theorem Dev.sweepStop_frame (d : Dev) : ButLrn d (Dev.sweepStop d) := by
  simp [ButLrn, Dev.sweepStop]
@[simp] theorem Dev.goDormant_frame (d : Dev) : ButBalHifFcrEvrBootRegPipesTmuPtePseRleLrnDpSwcBpmFcpsSpwEscMrpCtrs d (Dev.goDormant d) := by
  simp [ButBalHifFcrEvrBootRegPipesTmuPtePseRleLrnDpSwcBpmFcpsSpwEscMrpCtrs, Dev.goDormant]
@[simp] theorem Dev.entered_frame (d : Dev) (old : DevMode) : ButBalHifFcrEvrBootRegPipesTmuPtePseRleLrnDpSwcBpmFcpsSpwEscMrpCtrsFreeSeqOut d (Dev.entered d old) := by
  unfold Dev.entered; split <;> simp [ButBalHifFcrEvrBootRegPipesTmuPtePseRleLrnDpSwcBpmFcpsSpwEscMrpCtrsFreeSeqOut]
@[simp] theorem Dev.toMode_frame (d : Dev) (m : DevMode) (code : Nat) (source : Option Nat) (fs : List (Nat × Nat × Nat)) : ButBalHifFcrEvrBootRegPipesTmuPtePseRleLrnDpSwcBpmFcpsSpwEscMrpCtrsFreeSeqOut d (Dev.toMode d m code source fs) := by
  simp [ButBalHifFcrEvrBootRegPipesTmuPtePseRleLrnDpSwcBpmFcpsSpwEscMrpCtrsFreeSeqOut, Dev.toMode]
@[simp] theorem Dev.byCommand_frame (d : Dev) (m : DevMode) (ep : Nat) : ButBalHifFcrEvrBootRegPipesTmuPtePseRleLrnDpSwcBpmFcpsSpwEscMrpCtrsFreeSeqOut d (Dev.byCommand d m ep) := by
  simp [ButBalHifFcrEvrBootRegPipesTmuPtePseRleLrnDpSwcBpmFcpsSpwEscMrpCtrsFreeSeqOut, Dev.byCommand]
@[simp] theorem Dev.safeHoldFor_frame (d : Dev) (source : Nat) : ButBalHifFcrEvrBootRegPipesTmuPtePseRleLrnDpSwcBpmFcpsSpwEscMrpCtrsFreeSeqOut d (Dev.safeHoldFor d source) := by
  unfold Dev.safeHoldFor; split <;> simp [ButBalHifFcrEvrBootRegPipesTmuPtePseRleLrnDpSwcBpmFcpsSpwEscMrpCtrsFreeSeqOut]
@[simp] theorem Dev.startDrain_frame (d : Dev) (ms : Nat) (ep : Nat) : ButBalHifFcrEvrBootRegPipesTmuPtePseRleLrnDpSwcBpmFcpsSpwEscMrpCtrsFreeSeqOut d (Dev.startDrain d ms ep) := by
  simp [ButBalHifFcrEvrBootRegPipesTmuPtePseRleLrnDpSwcBpmFcpsSpwEscMrpCtrsFreeSeqOut, Dev.startDrain]
@[simp] theorem Dev.drainEnds_frame (d : Dev) : ButBalHifFcrEvrBootRegPipesTmuPtePseRleLrnDpSwcBpmFcpsSpwEscMrpCtrsFreeSeqOut d (Dev.drainEnds d) := by
  simp [ButBalHifFcrEvrBootRegPipesTmuPtePseRleLrnDpSwcBpmFcpsSpwEscMrpCtrsFreeSeqOut, Dev.drainEnds]
@[simp] theorem Dev.setPolderSt_frame (d : Dev) (p : Nat) (st : PolderSt) : ButPlcFcrPteFcps d (Dev.setPolderSt d p st) := by
  simp [ButPlcFcrPteFcps, Dev.setPolderSt]
@[simp] theorem Dev.polderResult_frame (d : Dev) (c : CmdRef) (x : Cmd) (p : Nat) : ButHif d (Dev.polderResult d c x p) := by
  simp [ButHif, Dev.polderResult]
@[simp] theorem Dev.strapEvent_frame (d : Dev) (strap sampled eff : Nat) : ButBalEvrCtrs d (Dev.strapEvent d strap sampled eff) := by
  simp [ButBalEvrCtrs, Dev.strapEvent]
@[simp] theorem Dev.balanceRefresh_frame (d : Dev) : ButFcr d (Dev.balanceRefresh d) := by
  simp [ButFcr, Dev.balanceRefresh]
@[simp] theorem Dev.epSources_frame (d : Dev) (e : Nat) : ButFcr d (Dev.epSources d e) := by
  simp [ButFcr, Dev.epSources]
@[simp] theorem Dev.attempt_frame (d : Dev) : ButBoot d (Dev.attempt d) := by
  simp [ButBoot, Dev.attempt]
@[simp] theorem Dev.loadAnswer_frame (d : Dev) (st detail r0 r1 : Nat) : ButHifBoot d (Dev.loadAnswer d st detail r0 r1) := by
  unfold Dev.loadAnswer; split <;> simp [ButHifBoot]
@[simp] theorem Dev.loadFails_frame (d : Dev) (wait : Bool) (cause : Nat) : ButBalHifFcrEvrBootRegPipesTmuPtePseRleLrnDpSwcBpmFcpsSpwEscMrpCtrsFreeSeqOut d (Dev.loadFails d wait cause) := by
  simp [ButBalHifFcrEvrBootRegPipesTmuPtePseRleLrnDpSwcBpmFcpsSpwEscMrpCtrsFreeSeqOut, Dev.loadFails]
@[simp] theorem Dev.startLoad_frame (d : Dev) (cands : List Nat) (who : Option Nat) (waiter : Option (Nat × Nat × Nat)) (cert : Nat) : ButBalHifFcrEvrBootRegPipesTmuPtePseRleLrnDpSwcBpmFcpsSpwEscMrpCtrsFreeSeqOut d (Dev.startLoad d cands who waiter cert) := by
  unfold Dev.startLoad; split <;> simp [ButBalHifFcrEvrBootRegPipesTmuPtePseRleLrnDpSwcBpmFcpsSpwEscMrpCtrsFreeSeqOut]
@[simp] theorem Dev.flashLoad_frame (d : Dev) (flash : List Byte) (who : Option Nat) (waiter : Option (Nat × Nat × Nat)) : ButBalHifFcrEvrBootRegPipesTmuPtePseRleLrnDpSwcBpmFcpsSpwEscMrpCtrsFreeSeqOut d (Dev.flashLoad d flash who waiter) := by
  simp [ButBalHifFcrEvrBootRegPipesTmuPtePseRleLrnDpSwcBpmFcpsSpwEscMrpCtrsFreeSeqOut, Dev.flashLoad]
@[simp] theorem doGlBootCtrlGo_frame (ep : Nat) (d : Dev) : ButBalHifFcrEvrBootRegPipesTmuPtePseRleLrnDpSwcBpmFcpsSpwEscMrpCtrsFreeSeqOut d (doGlBootCtrlGo ep d) := by
  simp [ButBalHifFcrEvrBootRegPipesTmuPtePseRleLrnDpSwcBpmFcpsSpwEscMrpCtrsFreeSeqOut, doGlBootCtrlGo]
@[simp] theorem Dev.layPort_frame (d : Dev) (l : PortLayout) : ButFcrPtePseBpmFcpsSpwEscCtrsOut d (Dev.layPort d l) := by
  simp [ButFcrPtePseBpmFcpsSpwEscCtrsOut, Dev.layPort]
@[simp] theorem Dev.fillDirectory_frame (d : Dev) (es : List DirEntry) : ButEvr d (Dev.fillDirectory d es) := by
  simp [ButEvr, Dev.fillDirectory]
@[simp] theorem Dev.applyTables_frame (d : Dev) (t : ImageTables) : ButFcrEvrPtePseBpmFcpsSpwEscCvuCtrsOut d (Dev.applyTables d t) := by
  unfold Dev.applyTables; split <;> simp [ButFcrEvrPtePseBpmFcpsSpwEscCvuCtrsOut]
@[simp] theorem Dev.fillStores_frame (d : Dev) (parse action : Tab (BitVec 512)) (reg : Nat → Tab (BitVec 128)) (adp : Tab (BitVec 64)) : ButFcrRegPipes d (Dev.fillStores d parse action reg adp) := by
  simp [ButFcrRegPipes, Dev.fillStores]
@[simp] theorem Dev.revoke_frame (d : Dev) (mask : Nat) (prov : Bool) (slot : Nat) : ButEvrOtpCtrs d (Dev.revoke d mask prov slot) := by
  simp [ButEvrOtpCtrs, Dev.revoke]
@[simp] theorem Dev.advanceRollback_frame (d : Dev) (v : Nat) : ButEvrOtpCtrs d (Dev.advanceRollback d v) := by
  simp [ButEvrOtpCtrs, Dev.advanceRollback]
@[simp] theorem Dev.loadEnds_frame (d : Dev) (src version slot : Nat) (m : DevMode) : ButBalHifFcrEvrBootRegPipesTmuPtePseRleLrnDpSwcBpmFcpsSpwEscMrpCtrsFreeSeqOut d (Dev.loadEnds d src version slot m) := by
  simp [ButBalHifFcrEvrBootRegPipesTmuPtePseRleLrnDpSwcBpmFcpsSpwEscMrpCtrsFreeSeqOut, Dev.loadEnds]
@[simp] theorem Dev.readSensors_frame (d : Dev) (temps : List Nat) : ButBal d (Dev.readSensors d temps) := by
  simp [ButBal, Dev.readSensors]
@[simp] theorem Dev.setRail_frame (d : Dev) (i mv : Nat) : ButBal d (Dev.setRail d i mv) := by
  simp [ButBal, Dev.setRail]
@[simp] theorem Dev.marginEnds_frame (d : Dev) : ButFcr d (Dev.marginEnds d) := by
  simp [ButFcr, Dev.marginEnds]
@[simp] theorem Dev.stopUser_frame (d : Dev) (kind i : Nat) : ButRegPipes d (Dev.stopUser d kind i) := by
  unfold Dev.stopUser; split <;> simp [ButRegPipes]
@[simp] theorem Dev.restoreStore_frame (d : Dev) (kind i : Nat) (bs : List Byte) : ButFcrBootRegPipes d (Dev.restoreStore d kind i bs) := by
  unfold Dev.restoreStore; split <;> simp [ButFcrBootRegPipes]
@[simp] theorem Dev.alarmAll_frame (d : Dev) (s sev : Nat) : ButHifOut d (Dev.alarmAll d s sev) := by
  simp [ButHifOut, Dev.alarmAll]
@[simp] theorem Dev.faultPins_frame (d : Dev) : ButFcr d (Dev.faultPins d) := by
  simp [ButFcr, Dev.faultPins]
@[simp] theorem Dev.histAdd_frame (d : Dev) (s sev : Nat) (lasting same : Bool) : ButFcr d (Dev.histAdd d s sev lasting same) := by
  simp [ButFcr, Dev.histAdd]
@[simp] theorem Dev.capture_frame (d : Dev) (rs : List (Nat × Nat)) : ButFcr d (Dev.capture d rs) := by
  simp [ButFcr, Dev.capture]
@[simp] theorem Dev.critical_frame (d : Dev) (s : Nat) : ButBalHifPlcFcrEvrBootRegPipesTmuPtePseRleLrnDpSwcBpmFcpsSpwEscMrpCtrsFreeSeqOut d (Dev.critical d s) := by
  unfold Dev.critical; split <;> simp [ButBalHifPlcFcrEvrBootRegPipesTmuPtePseRleLrnDpSwcBpmFcpsSpwEscMrpCtrsFreeSeqOut]
@[simp] theorem Dev.latch_frame (d : Dev) (s sev : Nat) : ButFcr d (Dev.latch d s sev) := by
  simp [ButFcr, Dev.latch]
@[simp] theorem Dev.reportRecord_frame (d : Dev) (s sev : Nat) (same : Bool) (h : Option Nat) : ButEvrCtrs d (Dev.reportRecord d s sev same h) := by
  simp [ButEvrCtrs, Dev.reportRecord]
@[simp] theorem Dev.reportMade_frame (d : Dev) (entries : Nat) (r : Nat × Nat × Nat) : ButFcrEvrCtrs d (Dev.reportMade d entries r) := by
  simp [ButFcrEvrCtrs, Dev.reportMade]
@[simp] theorem Dev.reactTo_frame (d : Dev) (s sev : Nat) : ButBalHifPlcFcrEvrBootRegPipesTmuPtePseRleLrnDpSwcBpmFcpsSpwEscMrpCtrsFreeSeqOut d (Dev.reactTo d s sev) := by
  simp [ButBalHifPlcFcrEvrBootRegPipesTmuPtePseRleLrnDpSwcBpmFcpsSpwEscMrpCtrsFreeSeqOut, Dev.reactTo]
@[simp] theorem Dev.bumpScope_frame (d : Dev) (c : Ctr) (mask : Nat) : ButCtrs d (Dev.bumpScope d c mask) := by
  simp [ButCtrs, Dev.bumpScope]
@[simp] theorem Dev.clearRefused_frame (d : Dev) (s ep : Nat) : ButFcrEvrCtrs d (Dev.clearRefused d s ep) := by
  simp [ButFcrEvrCtrs, Dev.clearRefused]
@[simp] theorem Dev.clearSrc_frame (d : Dev) (s ep : Nat) : ButFcrEvrCtrs d (Dev.clearSrc d s ep) := by
  simp [ButFcrEvrCtrs, Dev.clearSrc]
@[simp] theorem Dev.firstEmpty_frame (d : Dev) (i : Nat) : ButFcr d (Dev.firstEmpty d i) := by
  simp [ButFcr, Dev.firstEmpty]
@[simp] theorem Dev.pulse_frame (d : Dev) (s : Nat) : ButFcr d (Dev.pulse d s) := by
  simp [ButFcr, Dev.pulse]
@[simp] theorem Dev.escParity_frame (d : Dev) (port node : Nat) : ButFcrEvrEscCtrs d (Dev.escParity d port node) := by
  unfold Dev.escParity; (try dsimp only); (repeat' split) <;> first | (simp [ButFcrEvrEscCtrs]; done) | (simp_all [ButFcrEvrEscCtrs]; done) | (simp (disch := (intros; (repeat' split) <;> simp)) [ButFcrEvrEscCtrs]; done)
@[simp] theorem Dev.tbnBad_frame (d : Dev) (mem inst addr : Nat) (lasting : Bool) (args : List Nat) : ButHifFcrEvrPipesRleLrnDpSwcBpmEscMrpCvuCtrsFreeSeqOut d (Dev.tbnBad d mem inst addr lasting args) := by
  unfold Dev.tbnBad; (repeat' split) <;> simp [ButHifFcrEvrPipesRleLrnDpSwcBpmEscMrpCvuCtrsFreeSeqOut]
@[simp] theorem doEpRxqCfgWrite_frame (ep q dword : Nat) (v : Word) (d : Dev) : ButHifFcrEvrPipesDpSwcBpmMrpCtrsFreeSeqOut d (doEpRxqCfgWrite ep q dword v d) := by
  unfold doEpRxqCfgWrite; (try dsimp only); (repeat' split) <;> first | (simp [ButHifFcrEvrPipesDpSwcBpmMrpCtrsFreeSeqOut]; done) | (simp_all [ButHifFcrEvrPipesDpSwcBpmMrpCtrsFreeSeqOut]; done) | (simp (disch := (intros; (repeat' split) <;> simp)) [ButHifFcrEvrPipesDpSwcBpmMrpCtrsFreeSeqOut]; done)
@[simp] theorem Dev.txFlush_frame (d : Dev) (e q : Nat) (eops : List Bool) : ButHifOut d (Dev.txFlush d e q eops) := by
  simp [ButHifOut, Dev.txFlush]
@[simp] theorem doEpTxqCfgWrite_frame (ep q dword : Nat) (v : Word) (eops : List Bool) (d : Dev) : ButHifFcrOut d (doEpTxqCfgWrite ep q dword v eops d) := by
  unfold doEpTxqCfgWrite; (try dsimp only); (repeat' split) <;> first | (simp [ButHifFcrOut]; done) | (simp_all [ButHifFcrOut]; done) | (simp (disch := (intros; (repeat' split) <;> simp)) [ButHifFcrOut]; done)
@[simp] theorem Dev.takeSurveySeq_frame (d : Dev) : ButHif d (Dev.takeSurveySeq d) := by
  simp [ButHif, Dev.takeSurveySeq]
@[simp] theorem doEpResyncGo_frame (ep : Nat) (v : Word) (d : Dev) : ButHif d (doEpResyncGo ep v d) := by
  simp [ButHif, doEpResyncGo]
@[simp] theorem Dev.bistZero_frame (d : Dev) (g : Nat) : ButRleLrnDpSwcBpmEscMrpCtrs d (Dev.bistZero d g) := by
  unfold Dev.bistZero; split <;> simp [ButRleLrnDpSwcBpmEscMrpCtrs]
@[simp] theorem Dev.setPrbs_frame (d : Dev) (l : Nat) (v : Option (Nat × Nat × Nat)) : ButBal d (Dev.setPrbs d l v) := by
  simp [ButBal, Dev.setPrbs]
@[simp] theorem Dev.prbsCounts_frame (d : Dev) (l : Nat) (io : Io) : ButBalFreeSeq d (Dev.prbsCounts d l io).2.2 := by
  unfold Dev.prbsCounts; split <;> simp [ButBalFreeSeq]
@[simp] theorem Dev.smbAnswer_frame (d : Dev) (code : Nat) (bs : List Byte) (pec : Bool) : ButOut d (Dev.smbAnswer d code bs pec) := by
  simp [ButOut, Dev.smbAnswer]
@[simp] theorem Dev.smbBlock_frame (d : Dev) (code : Nat) (bs : List Byte) (pec : Bool) : ButOut d (Dev.smbBlock d code bs pec) := by
  simp [ButOut, Dev.smbBlock]
@[simp] theorem Dev.deny_frame (d : Dev) (e : Nat) : ButHif d (Dev.deny d e) := by
  simp [ButHif, Dev.deny]
@[simp] theorem Dev.rawWord_frame (d : Dev) (b : Nat) (check : Ecc) : ButHifFcrEvrCtrsFreeSeqOut d (Dev.rawWord d b check).2 := by
  unfold Dev.rawWord; (try dsimp only); (repeat' split) <;> first | (simp [ButHifFcrEvrCtrsFreeSeqOut]; done) | (simp_all [ButHifFcrEvrCtrsFreeSeqOut]; done) | (simp (disch := (intros; (repeat' split) <;> simp)) [ButHifFcrEvrCtrsFreeSeqOut]; done)
@[simp] theorem Dev.cvuRead_frame (d : Dev) (b : Nat) : ButCvuCtrs d (Dev.cvuRead d b).2 := by
  simp [ButCvuCtrs, Dev.cvuRead]
@[simp] theorem Dev.regValue_frame (d : Dev) (e b : Nat) (check : Ecc) : ButHifFcrEvrCvuCtrsFreeSeqOut d (Dev.regValue d e b check).2 := by
  unfold Dev.regValue; (repeat' split) <;> simp [ButHifFcrEvrCvuCtrsFreeSeqOut]
@[simp] theorem Dev.readDword_frame (d : Dev) (e off : Nat) (check : Ecc) : ButHifFcrEvrCvuCtrsFreeSeqOut d (Dev.readDword d e off check).2 := by
  unfold Dev.readDword; (repeat' split) <;> simp [ButHifFcrEvrCvuCtrsFreeSeqOut]
@[simp] theorem doGlCmdArbWrite_frame (ep dword : Nat) (v : Word) (d : Dev) : ButHifFcr d (doGlCmdArbWrite ep dword v d) := by
  simp [ButHifFcr, doGlCmdArbWrite]
@[simp] theorem doGlLrnSweepWrite_frame (ep : Nat) (v : Word) (d : Dev) : ButHifLrn d (doGlLrnSweepWrite ep v d) := by
  simp [ButHifLrn, doGlLrnSweepWrite]
@[simp] theorem doPlaneRestore_frame (ep : Nat) (v : Word) (d : Dev) : ButHifSwc d (doPlaneRestore ep v d) := by
  simp [ButHifSwc, doPlaneRestore]
@[simp] theorem doCxlRestore_frame (ep : Nat) (v : Word) (d : Dev) : ButHifFcrSpw d (doCxlRestore ep v d) := by
  simp [ButHifFcrSpw, doCxlRestore]
@[simp] theorem doGlSpwMapWrite_frame (ep : Nat) (v : Word) (d : Dev) : ButHifSpw d (doGlSpwMapWrite ep v d) := by
  simp [ButHifSpw, doGlSpwMapWrite]
@[simp] theorem doEpVecMapWrite_frame (ep cause : Nat) (v : Word) (d : Dev) : ButHifOut d (doEpVecMapWrite ep cause v d) := by
  simp [ButHifOut, doEpVecMapWrite]
@[simp] theorem Dev.polderRegWrite_frame (d : Dev) (p dw w : Nat) : ButLrnSwcMrp d (Dev.polderRegWrite d p dw w) := by
  unfold Dev.polderRegWrite; split <;> simp [ButLrnSwcMrp]
@[simp] theorem Dev.epRegWrite_frame (d : Dev) (e off : Nat) (v : Word) : ButHifLrnSwcMrpOut d (Dev.epRegWrite d e off v) := by
  simp [ButHifLrnSwcMrpOut, Dev.epRegWrite]
@[simp] theorem Dev.glRegWrite_frame (d : Dev) (e off : Nat) (v : Word) : ButBalHifFcrEvrBootTmuPteFcpsSpwMrp d (Dev.glRegWrite d e off v) := by
  simp [ButBalHifFcrEvrBootTmuPteFcpsSpwMrp, Dev.glRegWrite]
@[simp] theorem Dev.writeDword_frame (d : Dev) (e off : Nat) (v : Word) : ButBalHifFcrEvrBootRegPipesTmuPtePseRleLrnDpSwcBpmFcpsSpwEscMrpCvuCtrsFreeSeqOut d (Dev.writeDword d e off v) := by
  simp [ButBalHifFcrEvrBootRegPipesTmuPtePseRleLrnDpSwcBpmFcpsSpwEscMrpCvuCtrsFreeSeqOut, Dev.writeDword]
@[simp] theorem Dev.fetched_frame (d : Dev) (e n : Nat) (desc : Descriptor) (check : Ecc) : ButHifFcrEvrCvuCtrs d (Dev.fetched d e n desc check) := by
  unfold Dev.fetched; (try dsimp only); (repeat' split) <;> first | (simp [ButHifFcrEvrCvuCtrs]; done) | (simp_all [ButHifFcrEvrCvuCtrs]; done) | (simp (disch := (intros; (repeat' split) <;> simp)) [ButHifFcrEvrCvuCtrs]; done)

end Sys2Proof.Machine
end

