-- ==== Sys2Proof/Laws/State.lean ====
section
/-! SUPPORT. The laws of the updates of the state: what a read gives after a write. Which parts an update leaves as they are stands in
Laws/Frames. -/
namespace Sys2Proof.Machine

/-- A write leaves every other key as it is, whatever an unlisted key reads as there. -/
theorem tget_tset_ne {α : Type} [DecidableEq α] (t : Tab α) (d d' : α) (a : α) {j k : Nat} (h : j ≠ k) :
    tget (tset t d j a) d' k = tget t d' k := by
  unfold tset
  split
  · simp [tget_terase, h]
  · rw [tget_tins _ _ _ _ _ (terase_none t j), if_neg h, tget_terase, if_neg h]

@[simp] theorem Dev.cell_modCell (d : Dev) (c : Nat) (f : Cell → Cell) (j : Nat) :
    (d.modCell c f).cell j = if c = j then f (d.cell j) else d.cell j := by
  by_cases h : c = j <;> simp [Dev.modCell, Dev.cell, h]

@[simp] theorem Dev.flist_modList (d : Dev) (f : Nat) (g : FreeList → FreeList) (j : Nat) :
    (d.modList f g).flist j = if f = j then g (d.flist j) else d.flist j := by
  by_cases h : f = j <;> simp [Dev.modList, Dev.flist, h, tget_tset_ne]

@[simp] theorem Dev.acct_modAcct (d : Dev) (a : Nat) (f : Account → Account) (j : Nat) :
    (d.modAcct a f).acct j = if a = j then f (d.acct j) else d.acct j := by
  by_cases h : a = j <;> simp [Dev.modAcct, Dev.acct, h, tget_tset_ne]

@[simp] theorem Dev.cvuCtx_modCvu (d : Dev) (n : Nat) (f : CvuCtx → CvuCtx) (j : Nat) :
    (d.modCvu n f).cvuCtx j = if n = j then f (d.cvuCtx j) else d.cvuCtx j := by
  by_cases h : n = j <;> simp [Dev.modCvu, Dev.cvuCtx, h]

@[simp] theorem Dev.gauge_modGauge (d : Dev) (p : Nat) (f : Gauge → Gauge) (j : Nat) :
    (d.modGauge p f).gauge j = if p = j then f (d.gauge j) else d.gauge j := by
  by_cases h : p = j <;> simp [Dev.modGauge, Dev.gauge, h]

@[simp] theorem Dev.mrpRing_modMrpRing (d : Dev) (p : Nat) (f : MrpRing → MrpRing) (j : Nat) :
    (d.modMrpRing p f).mrpRing j = if p = j then f (d.mrpRing j) else d.mrpRing j := by
  by_cases h : p = j <;> simp [Dev.modMrpRing, Dev.mrpRing, h]

@[simp] theorem Dev.polder_modPolder (d : Dev) (p : Nat) (f : Polder → Polder) (j : Nat) :
    (d.modPolder p f).polder j = if p = j then f (d.polder j) else d.polder j := by
  by_cases h : p = j <;> simp [Dev.modPolder, Dev.polder, h]

@[simp] theorem Dev.src_modSrc (d : Dev) (s : Nat) (f : Src → Src) (j : Nat) :
    (d.modSrc s f).src j = if s = j then f (d.src j) else d.src j := by
  by_cases h : s = j <;> simp [Dev.modSrc, Dev.src, h]

@[simp] theorem Dev.pipe_modPipe (d : Dev) (p : Nat) (f : Pipe → Pipe) (j : Nat) :
    (d.modPipe p f).pipe j = if p = j then f (d.pipe j) else d.pipe j := by
  by_cases h : p = j <;> simp [Dev.modPipe, Dev.pipe, h]

@[simp] theorem Dev.port_modPort (d : Dev) (l : Nat) (f : Port → Port) (j : Nat) :
    (d.modPort l f).port j = if l = j then f (d.port j) else d.port j := by
  by_cases h : l = j <;> simp [Dev.modPort, Dev.port, h, tget_tset_ne]

@[simp] theorem Dev.lane_modLane (d : Dev) (l : Nat) (f : Lane → Lane) (j : Nat) :
    (d.modLane l f).lane j = if l = j then f (d.lane j) else d.lane j := by
  by_cases h : l = j <;> simp [Dev.modLane, Dev.lane, h]

@[simp] theorem Dev.octal_modOctal (d : Dev) (m : Nat) (f : Octal → Octal) (j : Nat) :
    (d.modOctal m f).octal j = if m = j then f (d.octal j) else d.octal j := by
  by_cases h : m = j <;> simp [Dev.modOctal, Dev.octal, h]

@[simp] theorem Dev.fcp_modFcp (d : Dev) (p : Nat) (f : Fcp → Fcp) (j : Nat) :
    (d.modFcp p f).fcp j = if p = j then f (d.fcp j) else d.fcp j := by
  by_cases h : p = j <;> simp [Dev.modFcp, Dev.fcp, h]

@[simp] theorem Dev.queue_modQueue (d : Dev) (k : Nat) (f : Queue → Queue) (j : Nat) :
    (d.modQueue k f).queue j = if k = j then f (d.queue j) else d.queue j := by
  by_cases h : k = j <;> simp [Dev.modQueue, Dev.queue, h]

@[simp] theorem Dev.slot_modSlot (d : Dev) (i : Nat) (f : DirSlot → DirSlot) (j : Nat) :
    (d.modSlot i f).slot j = if i = j then f (d.slot j) else d.slot j := by
  by_cases h : i = j <;> simp [Dev.modSlot, Dev.slot, h]

@[simp] theorem Dev.tide_modTide (d : Dev) (p : Nat) (f : TidePort → TidePort) (j : Nat) :
    (d.modTide p f).tide j = if p = j then f (d.tide j) else d.tide j := by
  by_cases h : p = j <;> simp [Dev.modTide, Dev.tide, h]

@[simp] theorem Dev.cxl_modCxl (d : Dev) (i : Nat) (f : Cxl → Cxl) (j : Nat) :
    (d.modCxl i f).cxl j = if i = j then f (d.cxl j) else d.cxl j := by
  by_cases h : i = j <;> simp [Dev.modCxl, Dev.cxl, h]

@[simp] theorem Dev.plane_modPlane (d : Dev) (k : Nat) (f : Plane → Plane) (j : Nat) :
    (d.modPlane k f).plane j = if k = j then f (d.plane j) else d.plane j := by
  by_cases h : k = j <;> simp [Dev.modPlane, Dev.plane, h]

@[simp] theorem Dev.quad_modQuad (d : Dev) (q : Nat) (f : LrnQuad → LrnQuad) (j : Nat) :
    (d.modQuad q f).quad j = if q = j then f (d.quad j) else d.quad j := by
  by_cases h : q = j <;> simp [Dev.modQuad, Dev.quad, h]

theorem any_of_tget {α : Type} (t : Tab α) (d : α) (k : Nat) (c : α → Bool) (h : c (tget t d k) = true) (hd : c d = false) :
    t.any (fun r => c r.2) = true := by
  induction t with
  | nil => simp_all [tget]
  | cons x r ih =>
    obtain ⟨j, a⟩ := x
    by_cases hj : j = k
    · simp_all [tget]
    · simp only [tget, hj, if_false] at h
      simp [ih h]

@[simp] theorem cr_modCr (d : Dev) (e n e' n' : Nat) (f) : (d.modCr e n f).cr e' n' = if e = e' ∧ n = n' then f (d.cr e n) else d.cr e' n' := by
  simp [Dev.modCr, Dev.cr]; split <;> simp_all
@[simp] theorem cq_modCq (d : Dev) (e n e' n' : Nat) (f) : (d.modCq e n f).cq e' n' = if e = e' ∧ n = n' then f (d.cq e n) else d.cq e' n' := by
  simp [Dev.modCq, Dev.cq]; split <;> simp_all
@[simp] theorem rxq_modRxq (d : Dev) (e n e' n' : Nat) (f) : (d.modRxq e n f).rxq e' n' = if e = e' ∧ n = n' then f (d.rxq e n) else d.rxq e' n' := by
  simp [Dev.modRxq, Dev.rxq]; split <;> simp_all
@[simp] theorem txq_modTxq (d : Dev) (e n e' n' : Nat) (f) : (d.modTxq e n f).txq e' n' = if e = e' ∧ n = n' then f (d.txq e n) else d.txq e' n' := by
  simp [Dev.modTxq, Dev.txq]; split <;> simp_all
@[simp] theorem ctr_setCtr (d : Dev) (c : Ctr) (i v : Nat) : (d.setCtr c i v).ctr c i = v := by simp [Dev.setCtr, Dev.ctr]
@[simp] theorem ctr_bump (d : Dev) (c : Ctr) (i n : Nat) : (d.bump c i n).ctr c i = min (d.ctr c i + n) (2^64-1) := by simp [Dev.bump]
theorem cr_hif {d d' : Dev} (h : d'.hif = d.hif) (e n) : d'.cr e n = d.cr e n := by simp [Dev.cr, Dev.ep, h]
theorem cq_hif {d d' : Dev} (h : d'.hif = d.hif) (e n) : d'.cq e n = d.cq e n := by simp [Dev.cq, Dev.ep, h]
theorem rxq_hif {d d' : Dev} (h : d'.hif = d.hif) (e n) : d'.rxq e n = d.rxq e n := by simp [Dev.rxq, Dev.ep, h]
theorem txq_hif {d d' : Dev} (h : d'.hif = d.hif) (e n) : d'.txq e n = d.txq e n := by simp [Dev.txq, Dev.ep, h]
theorem ep_hif {d d' : Dev} (h : d'.hif = d.hif) (e) : d'.ep e = d.ep e := by simp [Dev.ep, h]

theorem fencePairs_flatMap (l : List Nat) (g : Nat → Word) :
    fencePairs (l.flatMap (fun n => [n, (g n).toNat])) = l.map (fun n => (n, g n)) := by
  induction l with
  | nil => rfl
  | cons a t ih => simp [fencePairs, ih]


end Sys2Proof.Machine
end

