-- ==== Sys2Proof/WellFormed.lean ====
section
/-! DEFINITION. Which commands are well formed: every operand in the range that the spec gives it (an endpoint of four, a ring
of 64, a port of 512, ...). A command outside is no command of the device; its meaning is total all the same. -/
namespace Sys2Proof

/-- A command on a ring of an endpoint (02 R44). -/
def CmdRef.wf (c : CmdRef) : Bool := c.ep < 4 && c.ring < 64

/-- A party that may write a context (14 R432). -/
def CvuParty.wf : CvuParty → Bool
  | .window ep => ep < 4
  | .regulator r => r < 4

/-- Every operand is in its range. -/
def Instr.wellFormed : Instr → Bool
  | .opNop c _ => c.wf
  | .opFence c _ => c.wf
  | .opAbort c _ => c.wf
  | .opSurvey c _ => c.wf
  | .opAttestReport c _ => c.wf
  | .opAttestCert c _ => c.wf
  | .opModeSetDevice c _ => c.wf
  | .opModeSetPolder c _ => c.wf
  | .opTableWrite c _ => c.wf
  | .opTableRead c _ => c.wf
  | .opTableSearch c _ => c.wf
  | .opTableDelete c _ => c.wf
  | .opTableBulk c _ => c.wf
  | .opTableAudit c _ => c.wf
  | .opTableScan c _ => c.wf
  | .opGenOpen c _ => c.wf
  | .opGenCommit c _ => c.wf
  | .opGenDiscard c _ => c.wf
  | .opGenStatus c _ => c.wf
  | .opCounterRead c _ => c.wf
  | .opCounterClear c _ => c.wf
  | .opLedgerConfig c _ => c.wf
  | .opLedgerExportSetSet c _ => c.wf
  | .opLedgerExportSetRead c _ => c.wf
  | .opLedgerExportSetFlush c _ => c.wf
  | .opMeterSetWeirSet c _ => c.wf
  | .opMeterSetWeirRead c _ => c.wf
  | .opMeterSetWeirDelete c _ => c.wf
  | .opMeterSetRuleSet c _ => c.wf
  | .opMeterSetRuleDelete c _ => c.wf
  | .opSchedSetSet c _ => c.wf
  | .opSchedSetSetMc c _ => c.wf
  | .opSchedSetRead c _ => c.wf
  | .opShaperSetSet c _ => c.wf
  | .opShaperSetRead c _ => c.wf
  | .opTideTableSetSet c _ => c.wf
  | .opTideTableSetDisable c _ => c.wf
  | .opTideTableSetRead c _ => c.wf
  | .opGaugeSetSet c _ => c.wf
  | .opGaugeSetRead c _ => c.wf
  | .opGaugeSetArchiveRead c _ => c.wf
  | .opPoolSetSet c _ => c.wf
  | .opPoolSetRead c _ => c.wf
  | .opPoolSetRelease c _ => c.wf
  | .opHeadroomSet c _ => c.wf
  | .opPfcSet c _ => c.wf
  | .opSpillSetQueue c _ => c.wf
  | .opSpillSetLongReach c _ => c.wf
  | .opSpillSetReadQueue c _ => c.wf
  | .opSpillSetReadLr c _ => c.wf
  | .opFaultConfigSet c _ => c.wf
  | .opFaultConfigRead c _ => c.wf
  | .opFaultConfigHistory c _ => c.wf
  | .opFaultConfigLatched c _ => c.wf
  | .opFaultAck c _ => c.wf
  | .opFaultClear c _ => c.wf
  | .opLogRead c _ => c.wf
  | .opLogFreeze c _ => c.wf
  | .opLogThaw c _ => c.wf
  | .opLogRateSetSet c _ => c.wf
  | .opLogRateSetRead c _ => c.wf
  | .opPolderDefineDefine c _ => c.wf
  | .opPolderDefineModify c _ => c.wf
  | .opPolderDefineUndefine c _ => c.wf
  | .opSluiceSet c _ => c.wf
  | .opWardenHandover c _ => c.wf
  | .opPortConfig c _ => c.wf
  | .opPortStateRead c _ => c.wf
  | .opPortStateAdminUp c _ => c.wf
  | .opPortStateAdminDown c _ => c.wf
  | .opPortStateRetrain c _ => c.wf
  | .opPortHoldSet c _ => c.wf
  | .opTimeSetSet c _ => c.wf
  | .opTimeSetStep c _ => c.wf
  | .opTimeSetFreq c _ => c.wf
  | .opTimeSetSlew c _ => c.wf
  | .opTimeCapture c _ => c.wf
  | .opStoreReload c _ => c.wf
  | .opDiagLoopback c _ => c.wf
  | .opDiagBist c _ => c.wf
  | .opDiagPrbsStart c _ => c.wf
  | .opDiagPrbsRead c _ => c.wf
  | .opDiagPrbsStop c _ => c.wf
  | .commandRingDoorbell e n _ _ => e < 4 && n < 64
  | .completionRingDoorbell e n _ _ => e < 4 && n < 64
  | .receiveQueueDoorbell e q _ _ => e < 4 && q < 256
  | .transmitQueueDoorbell e q _ _ => e < 4 && q < 256
  | .strayDoorbell ep _ width _ => ep < 4 && (width = 8 || width = 16 || width = 32 || width = 64)
  | .descriptorFetch e => e < 4
  | .descriptorFetchReturn ep ring _ _ => ep < 4 && ring < 64
  | .commandDispatch => true
  | .commandCommit c => c.wf
  | .completionWrite e n => e < 4 && n < 64
  | .endpointDown ep _ => ep < 4
  | .epCrCfgWrite e n dword _ => e < 4 && n < 64 && dword < 4
  | .epCqCfgWrite e n dword _ => e < 4 && n < 64 && dword < 4
  | .epRxqCfgWrite ep q dword _ => ep < 4 && q < 256 && dword < 4
  | .epTxqCfgWrite ep q dword _ _ => ep < 4 && q < 256 && dword < 4
  | .ringDisableDone e n => e < 4 && n < 64
  | .epResyncGo ep _ => ep < 4
  | .resyncDone ep _ => ep < 4
  | .rxFrameDelivery ep _ _ => ep < 4
  | .rxQueueStarved ep q => ep < 4 && q < 256
  | .txFrameFetch ep _ _ => ep < 4
  | .msixMessage e v => e < 4 && v < 512
  | .msixDelayExpiry e v => e < 4 && v < 512
  | .msixUnmask e _ => e < 4
  | .sofPreIndication port _ => port < 512
  | .headerWindowComplete pipe wire _ _ => pipe < 16 && wire.all (fun w => w.1 / 32 = pipe)
  | .frameLastByte _ _ fec => fec.symbols.length ≤ 8
  | .cellWriteCrossing _ => true
  | .writeConfirm cell => cell < 2 ^ 20
  | .confirmTimeout _ => true
  | .cellArrivalEgress _ _ => true
  | .reseqGapTimeout pipe stream => pipe < 16 && stream < 17
  | .dispatchDecision pipe _ => pipe < 16
  | .rewriteLengthCharge port => port < 532
  | .frameTransmitEnd port => port < 528
  | .txUnderrun port => port < 528
  | .mcCopyHoldDrop port m => port < 512 && m < 4
  | .cellRelease party cell _ _ => party < 40 && cell < 2 ^ 20
  | .freeListRefill list _ => list < 16
  | .orphanSweepVisit _ => true
  | .freelistRebuildDone list => list < 16
  | .accountRebuildDone _ => true
  | .holdBusNotice port cls => port < 512 && cls < 8
  | .pfcFrameSend port => port < 512
  | .pfcRefresh port => port < 512
  | .pfcFrameReceive port vector times => port < 512 && vector < 256 && times.length = 8
  | .pauseFrameReceive port time => port < 512 && time < 65536
  | .macControlReceive port opcode => port < 512 && opcode < 65536
  | .pauseTimerExpiry port cls => port < 512 && cls < 8
  | .pauseStorm port queue => port < 512 && queue < 20
  | .pauseBreakEnd port queue => port < 512 && queue < 20
  | .linkLossDeclared port cause lane _ => port < 512 && 1 ≤ cause && cause ≤ 6 && lane < 512
  | .laneRecheck l _ => l < 512
  | .linkUp port => port < 512
  | .holdExpiry port => port < 512
  | .realignTimeout port => port < 512
  | .trainingTimeout port _ => port < 512
  | .trainingRestart port => port < 512
  | .macroPowerUpDone octal _ => octal < 64
  | .queueFlushDone port => port < 512
  | .adaptationSlice engine => engine < 8
  | .pipelineSleepEntry pipe => pipe < 16
  | .pipelineWake pipe _ => pipe < 16
  | .learnEventPass => true
  | .learnEventApply quad _ _ => quad < 4
  | .learnApplyLag quad => quad < 4
  | .relocationMove quad table path => quad < 4 ∧ table ≤ 2 ∧ path.length ≤ 9
  | .agingVisit quad => quad < 4
  | .glLrnSweepWrite ep _ => ep < 4
  | .genDrainDone => true
  | .retirementTimerExpiry => true
  | .syncSweepDone => true
  | .planeFailure plane pipe _ => plane < 4 && pipe < 16
  | .planeRemoved plane => plane < 4
  | .planeSelfCheck plane _ => plane < 4
  | .planeRestore ep _ => ep < 4
  | .planeBistDone plane _ => plane < 4
  | .basinWriteComplete _ => true
  | .basinReadComplete _ _ _ => true
  | .segmentWalkerReturn => true
  | .lrqReturn port cls _ => port < 512 && cls < 8
  | .cxlPortLoss port cause => port < 4 && cause < 3
  | .cxlRestore ep _ => ep < 4
  | .cxlEnumeration port => port < 4
  | .cxlEnumerationDone port failed _ _ _ => port < 4 && failed < 7
  | .basinAudit _ => true
  | .hbmStackFailure stack => stack < 4
  | .glSpwMapWrite ep _ => ep < 4
  | .shaperRefillSweep bucket => bucket < 32768
  | .shaperWheelFire bucket => bucket < 32768
  | .coarseWheelSlot pipe slot => pipe < 16 && slot < 4096
  | .tideCctReached port => port < 512
  | .tideGateChange port => port < 512
  | .tideListEcc port _ => port < 512
  | .gaugeSample port => port < 512
  | .gaugeIntervalEnd port => port < 512
  | .epGaugeRingWrite ep dword _ => ep < 4 && dword < 4
  | .epochEnd => true
  | .bankFreeze polder => polder < 8
  | .minuteRecordWrite polder => polder < 8
  | .epMrpRingConsWrite ep polder _ => ep < 4 && polder < 8
  | .combinedUpdate _ _ => true
  | .ledgerMiss _ _ => true
  | .ledgerWalkerVisit slot _ => slot < 2 ^ 30
  | .weirExchange => true
  | .weirHoldRelease weir port cls => weir < 262144 && port < 512 && cls < 8
  | .ppsOutEdge => true
  | .ppsInEdge => true
  | .atPpsTimeout => true
  | .timeRefLoss => true
  | .slewComplete => true
  | .glMrpCfgWrite ep _ => ep < 4
  | .faultReport => true
  | .graceTimerExpiry src => src < 4096
  | .criticalGraceExpiry src => src < 4096
  | .faultRetryResult src _ => src < 4096
  | .tourbillonVisit sweeper mem _ _ _ _ _ => sweeper < 4 && mem < 19
  | .recordAdmit _ => true
  | .suppressionSummary slot => slot < 1024
  | .logFreezeLimit => true
  | .holdingFifoDrain _ => true
  | .persistentPageProgram _ _ => true
  | .flashSectorErase sector _ => sector < 4096
  | .hourmark => true
  | .powerOnScanDone _ _ => true
  | .porNDeassert straps _ => straps.length = 4
  | .porNAssert => true
  | .sysRstN => true
  | .loadStart _ => true
  | .glBootCtrlGo ep => ep < 4
  | .imageRejected src _ _ => src < 4
  | .imageLoadAccepted src _ _ _ => src < 4
  | .corePllLockTimeout => true
  | .corePllLockLoss => true
  | .ref100Loss => true
  | .thermalTrip temps => temps.length = 16
  | .thermNCrossing temps => temps.length = 16
  | .calibrationPass temps => temps.length = 16
  | .avsWrite mv _ => 680 ≤ mv && mv ≤ 820
  | .avsConfirmTimeout => true
  | .drainComplete => true
  | .drainLimitExpiry => true
  | .regulatorTrap r word kind => r < 4 && word < 8192 && kind < 2
  | .regulatorStoreUe adp i word _ => (if adp then i < 8 else i < 4) && (if adp then word < 2048 else word < 8192)
  | .cvuDataWrite who ctx enables _ => who.wf && ctx < 64 && enables < 16
  | .cvuStart who ctx _ => who.wf && ctx < 64
  | .cvuCompare who ctx _ => who.wf && ctx < 64
  | .cvuSlice _ => true
  | .glCmdArbWrite ep dword _ => ep < 4 && dword < 4
  | .epVecMapWrite ep cause _ => ep < 4 && cause < 1024
  | .wideRegisterRead ep _ width _ => ep < 4 && (width = 8 || width = 16 || width = 32 || width = 64)
  | .setupRegisterWrite ep _ width _ => ep < 4 && (width = 8 || width = 16 || width = 32 || width = 64)
  | .smbusSummary _ => true
  | .smbusTempMax _ => true
  | .smbusTempAll _ => true
  | .smbusRails _ => true
  | .smbusIdentity _ => true
  | .smbusTokenLoad _ _ => true
  | .smbusTokenApply _ => true
  | .smbusTokenStatus _ => true
  | .smbusStallTimeout => true
  | .ledFrame => true
  | .tapInstruction _ => true
  | .endpointUp ep => ep < 4
  | .anMismatch port page => port < 512 && page < 2 ^ 48
  | .timeRefReturn => true
  | .ref100Return => true
  | .serdesRefLoss => true
  | .serdesRefReturn => true
  | .mgmtPllLockLoss => true
  | .railOutOfTolerance rail _ => rail < 10
  | .memMarginBroken _ _ => true
  | .liveWindowExpiry src => src < 4096

end Sys2Proof
end

