-- ==== Sys2Proof/Tests/Slice0.lean ====
section
/-! SUPPORT. Tests: the worked examples of the specification, well-formedness, and one witness for every statement: a state and
operands that meet its hypotheses, clause by clause. -/
namespace Sys2Proof.Tests
open Sys2Proof Sys2Proof.Machine
set_option maxRecDepth 100000
set_option Elab.async false

/-! ### Small states for witnesses -/

/-- The first command of ring 0 of endpoint 0. -/
def c0 : CmdRef := { ep := 0, ring := 0, pos := 0 }

/-- A command at position 0 of ring 0, on an engine, from its opcode and its operand fields (offset, lowest bit, width, value). -/
def cmd (op : Nat) (fs : List (Nat × Nat × Nat × Nat) := []) : Cmd :=
  { ring := 0, pos := 0, tagValid := true, ordered := true, executing := true, auth := 511
    desc := BitVec.ofNat 512 (pack ((0, 8, op) :: fs.map (fun f => (8 * f.1 + f.2.1, f.2.2.1, f.2.2.2)))) }

/-- An endpoint that is up. -/
def ep0 : Endpoint := { up := true, perst := false, linkDown := false, bmeClear := false }

/-- A device in PROVISIONING with endpoint 0 up, as the warden's single host finds it. -/
def dev0 : Dev :=
  { bal := { mode := .provisioning, corePll := true }
    hif := { eps := [(0, ep0)] }
    plc := { polders := [(0, wholePolder)], challenge := 1 } }

/-- A state of one device. -/
def st (d : Dev) : State := { dev := d }

/-- The device with another endpoint 0. -/
def withEp (e : Endpoint) (d : Dev := dev0) : Dev := { d with hif := { d.hif with eps := [(0, e)] } }

/-- A state with one command on an engine. -/
def run (x : Cmd) (d : Dev := dev0) : State :=
  st { d with hif := { d.hif with eps := tmod d.hif.eps {} 0 (fun e => { e with cmds := [x] }) } }

/-- A unicast frame of 60 bytes that entered at port 0. -/
def pkt0 : Pkt :=
  { root := 0, bytes := List.replicate 60 0, ingress := .wire 0, first := 0, polder := 0, cls := 0, prio := 0, acct := 0, gen := 0
    tsSec := 0, tsNs := 0, epoch := 0, whole := true, copies := 1 }

/-- The device with packet 0, which waits in a queue. -/
def queued (k : Nat) (x : Pkt := pkt0) (e : Ent := { pid := 0 }) (d : Dev := dev0) : Dev :=
  { d with dp := { d.dp with pkts := [(0, some x)], nextPid := 1, queues := [(k, { ents := [e] })] } }

/-- The device in FORWARDING. -/
def fwd : Dev := { dev0 with bal := { dev0.bal with mode := .forwarding }, pipes := [(0, { asleep := false })] }

/-- A port eight lanes wide that is UP. -/
def p0 : Port := { configured := true, lanes := 8, st := .up, locked := 255, hold := .opened }

/-- The device with port 0, on a calibrated macro. -/
def portIs (x : Port) (d : Dev := dev0) : Dev :=
  { d with pte := { d.pte with ports := [(0, x)], macros := [(0, { st := .on })] } }

/-- The device with port 0 in a state. -/
def port0 (x : PortSt) (d : Dev := dev0) : Dev := portIs { p0 with st := x } d

/-- A frame of 60 bytes. -/
def frame0 : List Byte := List.replicate 60 1

/-- A held cell of an account. -/
def cell0 (x : Cell := { held := true, ref := 1 }) (d : Dev := dev0) : Dev := { d with bpm := { d.bpm with cells := [(0, x)] } }

/-- Port 0 sends what waits in its unicast queue 0. -/
def sender : Dev := port0 .up (queued 0 pkt0 { pid := 0 } fwd)

/-- The default actions of port 0 send a packet back to port 0, whose queue is not empty; no free list has a cell at hand. -/
def full0 : Dev :=
  { port0 .up (queued 0 pkt0 { pid := 0 } fwd) with pse := { entries := (List.range 8).map (fun c => (c, some (4 : BitVec 64))) } }

/-- A record of a program error. -/
def rec0 : Rec := { code := 0x100, severity := 2, shared := true, polder := 0, noPolder := false, source := none, data := 0 }

/-- The header of a sector of the persistent log. -/
def header0 : List Byte :=
  let b := leBytes 60 (pack [(0, 32, 0x47454C50), (32, 16, 1)])
  b ++ leBytes 4 (crc32c b)

/-- A MAC entry and an event about it, which waits in quadrant 0. -/
def mac0 : MacEnt := { mac := 2, domain := 1, polder := 0 }
def event0 (k : LrnKind) : LrnEvent := { kind := k, origin := 0, polder := 0, mac := 2, domain := 1 }
def learn0 (k : LrnKind) (at_ : Option Nat := none) : State :=
  st { dev0 with lrn := { quads := [(0, { queue := [event0 k], ents := match at_ with
    | some i => [(i, some mac0)]
    | none => [] })] } }
/-- A handover token to endpoint 1, signed with the test key 123456789 (03 Table 3-9). -/
def token0 : List Byte :=
  leBytes 48 0xBFB0783A3AF9AD191EEA271555D901040000000000000001000000010000FFFF000000000000000000010001574E4448 ++
  leBytes 48 0x87D3CC8886F1353C2E1A34F1D2B7B45A8F0806AC8B0CE169FCFF2238C4C239977D439A3B3BFC16A55ED0C63182FD924C ++
  leBytes 48 0xF02E6C0A90C741480F8EF64F34ACB9A88E93DFA590FAF989AFF26460EF771FA41BEE08D1425511F2FFFFE305014BA749 ++
  leBytes 48 0xE51AA9E7C8123703BFEF10457AD6314117360A2725BF7C0100000002FB5F402F60C09F38CD1DAFAFFE76E8E1215566FE ++
  leBytes 48 0x6AF1B0EF8A01BAA8DEBBBC456E1885F791083B1538FCA5C9E699659C0E177579B178058E33DDF176619B861759181550 ++
  leBytes 48 0xE862763883BC06ED54AE55079944331C5365DEF1E7870DCB8F2B73852DA90E8BC56E8DB778E6978519EFC58A82720825 ++
  leBytes 16 0xB8DE91FFCE4E988B51DD4F5C

/-- The device whose fuses hold the hash of that key, with endpoints 0 and 1 up. -/
def tokenDev : Dev :=
  { dev0 with
    bal := { dev0.bal with straps := { peBif := 1 } }
    otp := { dev0.otp with
      provProg := true
      provKey := BitVec.ofNat 512
        0x5A3C03C090AF5AF8D6963AE36CA8ED39612207B191B1D620A05D368D10BD3046F823D7DDEDCBA5F810EBE972A20927A2C570D38DA8CD146A5C72AF9395B71C2A }
    hif := { eps := [(0, ep0), (1, ep0)] } }

/-- The same with endpoint 0 down and the token loaded over the sideband. -/
def sideDev : Dev :=
  { tokenDev with
    hif := { eps := [(1, ep0)] }
    plc := { tokenDev.plc with token := (List.range 304).map (fun i => (i, token0[i]?)), tokenState := 1 } }

/-! ### Worked examples and tables of the specification -/

/-- The nine ASCII bytes "123456789". -/
def nine : List Byte := [0x31, 0x32, 0x33, 0x34, 0x35, 0x36, 0x37, 0x38, 0x39]

/-- The check values of 14 Table 14-2. -/
theorem test_check_values :
    (List.range 4).map (fun a => cvuBytes a (cvuInit a) nine ^^^ cvuXor a) = [0xE3069283, 0xCBF43926, 0x29B1, 0x6C40DF5F0B497347] := by
  decide +kernel

/-- Context 40 of the example of chapter 14 after "12345678". -/
def context40 (x : CvuCtx := {}) : State :=
  st { dev0 with cvu := { ctxs := [(40, { x with run := BitVec.ofNat 64 (cvuBytes 0 (cvuInit 0) (nine.take 8)), bytes := 8 })] } }

/-- Entering "9" gives RESULT 0xE306_9283 and BYTES 9 (the example of chapter 14). -/
theorem test_cvu_slice_enters_nine : ∃ t, exec (.cvuSlice .clean) (context40 { buf := some (.data 1 0x39) }) = .next t ∧
    (t.dev.cvuCtx 40).result = 0xE3069283 ∧ (t.dev.cvuCtx 40).bytes = 9 := ⟨_, rfl, by decide +kernel⟩

/-- COMPARE with EXPECT 0xE306_9283 and EXP_PAR 1 matches; EXPECT 0xE306_9287 is inconsistent with EXP_PAR 1, no data mismatch
(the example of chapter 14). -/
theorem test_cvu_compare :
    let s (e : BitVec 64) := st { dev0 with cvu := { ctxs := [(40, { run := 0x1CF96D7C, expect := e, expPar := 1 })] } }
    (∃ t, exec (.cvuCompare (.window 0) 40 0x20000) (s 0xE3069283) = .next t ∧ (t.dev.cvuCtx 40).isMatch = true) ∧
    ∃ t, exec (.cvuCompare (.window 0) 40 0x20000) (s 0xE3069287) = .next t ∧ (t.dev.cvuCtx 40).isMatch = false ∧
      (t.dev.cvuCtx 40).checkField = true ∧ (t.dev.cvuCtx 40).mismatch = false :=
  ⟨⟨_, rfl, by decide +kernel⟩, ⟨_, rfl, by decide +kernel⟩⟩

/-- Lane 300 lies in pipeline 9 (the example of 00 R10). -/
theorem test_pipeline_of_port_300 : pipeOf 300 = 9 := by decide

/-- Hash 0x9E37_79B9 picks member 3 of 6 of a group and position 2 of 4 of a LAG (the example of 06 R190, R191). -/
theorem test_member_selection : ecmpPick 0x9E3779B9 6 = 3 ∧ rev32 0x9E3779B9 = 0x9D9EEC79 ∧ lagPick 0x9E3779B9 4 = 2 := by decide +kernel

/-- LOCATOR 0x2451_1170 is that of position 70,000 of CR5 of EP1 for polder 2; in CR6, and at position 135,536, it is not
(the example of 02 R45-R48). -/
theorem test_locator :
    let d := { dev0 with plc := { dev0.plc with polders := [(2, { st := .forwarding, owner := 1, crMask := 0x60 })] } }
    let x (ring : Nat) (pos : Word) : Cmd := { ring := ring, pos := pos, tagValid := true, ordered := true, desc := BitVec.ofNat 512 (0x24511170 * 2 ^ 32) }
    d.locatorOk 1 (x 5 70000) = true ∧ d.locatorOk 1 (x 6 70000) = false ∧ d.locatorOk 1 (x 5 135536) = false := by decide +kernel

/-- Position 70,000 of a ring of 65,536 entries is read at byte offset 0x0004_5C00 (the same example). -/
theorem test_fetch_offset : ∃ t,
    exec (.descriptorFetch 1) (st { dev0 with hif := { eps := [(1, { ep0 with
      crs := [(5, { st := .active, enable := true, sizeLog2 := 16, p := 70001, issued := 70000, f := 70000 })] })] } }) = .next t ∧
    t.dev.out = [.hostRead 1 0x45C00 64] := ⟨_, rfl, by decide +kernel⟩

/-- A bucket of 1.25 B/ns that owes 8,000 B is due after 6,400 ns; after 2,560 ns, when 0.125 B/ns takes over, it owes
4,800 B and is due at 40,960 ns; 25 ticks are 1 µs (the example of 12 R371-R373). -/
theorem test_shaper_debt :
    let b := Bucket.enter { rate := 10000000, credit := -8000 * 200000 } 0
    let c := Bucket.refill { b with pending := some (1000000, 65536) } 64
    b.te = some 160 ∧ c.credit = -4800 * 200000 ∧ c.te = some 1024 := by decide +kernel

/-- The SHA-512 of "abc" (FIPS 180-4) ends in these bytes. -/
theorem test_sha512 : (sha512 [0x61, 0x62, 0x63]).drop 56 = [0x2A, 0x9A, 0xC9, 0x4F, 0xA5, 0x4C, 0xA4, 0x9F] := by decide +kernel

/-- A token with one bit of its signature changed fails check 3 of 03 Table 3-10. -/
theorem test_token_signature : tokenDev.tokenCheck (token0.set 0x100 0x55) false = some 3 := by decide +kernel

/-! ### Well-formedness -/

theorem test_wellFormed_accepts_1 : ∀ i ∈ ([
    .commandRingDoorbell 0 0 0 false, .completionRingDoorbell 0 0 0 false, .receiveQueueDoorbell 0 0 0 false,
    .transmitQueueDoorbell 0 0 0 false, .strayDoorbell 0 0 32 0, .descriptorFetch 0, .descriptorFetchReturn 0 0 none (.clean),
    .commandCommit { ep := 0, ring := 0, pos := 0 }, .completionWrite 0 0, .endpointDown 0 (.perst), .epCrCfgWrite 0 0 0 0,
    .epCqCfgWrite 0 0 0 0, .epRxqCfgWrite 0 0 0 0, .epTxqCfgWrite 0 0 0 0 [], .ringDisableDone 0 0, .epResyncGo 0 0,
    .resyncDone 0 false, .rxFrameDelivery 0 [] false, .rxQueueStarved 0 0, .txFrameFetch 0 [] none, .msixMessage 0 0,
    .msixDelayExpiry 0 0, .msixUnmask 0 (.function), .sofPreIndication 0 [], .headerWindowComplete 0 [] {} false,
    .frameLastByte 0 false {}, .writeConfirm 0, .reseqGapTimeout 0 0, .dispatchDecision 0 {}, .rewriteLengthCharge 0,
    .frameTransmitEnd 0, .txUnderrun 0, .mcCopyHoldDrop 0 0, .cellRelease 0 0 0 false, .freeListRefill 0 (.clean),
    .freelistRebuildDone 0, .holdBusNotice 0 0, .pfcFrameSend 0, .pfcRefresh 0, .pfcFrameReceive 0 0 (List.replicate 8 0),
    .pauseFrameReceive 0 0, .macControlReceive 0 0, .pauseTimerExpiry 0 0, .pauseStorm 0 0, .pauseBreakEnd 0 0,
    .linkLossDeclared 0 1 0 false, .laneRecheck 0 [], .linkUp 0, .holdExpiry 0, .realignTimeout 0, .trainingTimeout 0 0,
    .trainingRestart 0, .macroPowerUpDone 0 0, .queueFlushDone 0, .adaptationSlice 0, .pipelineSleepEntry 0,
    .pipelineWake 0 false, .learnEventApply 0 (.clean) 0, .learnApplyLag 0, .relocationMove 0 0 []] : List Instr), i.wellFormed = true := by
  decide +kernel

theorem test_wellFormed_accepts_2 : ∀ i ∈ ([
    .agingVisit 0, .glLrnSweepWrite 0 0, .planeFailure 0 0 0, .planeRemoved 0, .planeSelfCheck 0 false, .planeRestore 0 0,
    .planeBistDone 0 false, .lrqReturn 0 0 (.clean), .cxlPortLoss 0 0, .cxlRestore 0 0, .cxlEnumeration 0,
    .cxlEnumerationDone 0 0 0 0 0, .hbmStackFailure 0, .glSpwMapWrite 0 0, .shaperRefillSweep 0, .shaperWheelFire 0,
    .coarseWheelSlot 0 0, .tideCctReached 0, .tideGateChange 0, .tideListEcc 0 0, .gaugeSample 0, .gaugeIntervalEnd 0,
    .epGaugeRingWrite 0 0 0, .bankFreeze 0, .minuteRecordWrite 0, .epMrpRingConsWrite 0 0 0, .ledgerWalkerVisit 0 false,
    .weirHoldRelease 0 0 0, .glMrpCfgWrite 0 0, .graceTimerExpiry 0, .criticalGraceExpiry 0, .faultRetryResult 0 false,
    .tourbillonVisit 0 0 0 0 (.clean) false [], .suppressionSummary 0, .flashSectorErase 0 false,
    .porNDeassert (List.replicate 4 0) [], .glBootCtrlGo 0, .imageRejected 0 0 0, .imageLoadAccepted 0 [] {} false,
    .thermalTrip (List.replicate 16 0), .thermNCrossing (List.replicate 16 0), .calibrationPass (List.replicate 16 0),
    .avsWrite 680 false, .regulatorTrap 0 0 0, .regulatorStoreUe false 0 0 false, .cvuDataWrite (.window 0) 0 0 0,
    .cvuStart (.window 0) 0 0, .cvuCompare (.window 0) 0 0, .glCmdArbWrite 0 0 0, .epVecMapWrite 0 0 0,
    .wideRegisterRead 0 0 32 (.clean), .setupRegisterWrite 0 0 32 0, .endpointUp 0, .anMismatch 0 0, .railOutOfTolerance 0 0,
    .liveWindowExpiry 0] : List Instr), i.wellFormed = true := by
  decide +kernel

theorem test_wellFormed_refuses_1 : ∀ i ∈ ([
    .commandRingDoorbell 4 0 0 false, .commandRingDoorbell 0 64 0 false, .completionRingDoorbell 4 0 0 false,
    .completionRingDoorbell 0 64 0 false, .receiveQueueDoorbell 4 0 0 false, .receiveQueueDoorbell 0 256 0 false,
    .transmitQueueDoorbell 4 0 0 false, .transmitQueueDoorbell 0 256 0 false, .strayDoorbell 4 0 32 0,
    .strayDoorbell 0 0 24 0, .descriptorFetch 4, .descriptorFetchReturn 4 0 none (.clean),
    .descriptorFetchReturn 0 64 none (.clean), .commandCommit { ep := 4, ring := 0, pos := 0 },
    .commandCommit { ep := 0, ring := 64, pos := 0 }, .completionWrite 4 0, .completionWrite 0 64, .endpointDown 4 (.perst),
    .epCrCfgWrite 4 0 0 0, .epCrCfgWrite 0 64 0 0, .epCrCfgWrite 0 0 4 0, .epCqCfgWrite 4 0 0 0, .epCqCfgWrite 0 64 0 0,
    .epCqCfgWrite 0 0 4 0, .epRxqCfgWrite 4 0 0 0, .epRxqCfgWrite 0 256 0 0, .epRxqCfgWrite 0 0 4 0,
    .epTxqCfgWrite 4 0 0 0 [], .epTxqCfgWrite 0 256 0 0 [], .epTxqCfgWrite 0 0 4 0 [], .ringDisableDone 4 0,
    .ringDisableDone 0 64, .epResyncGo 4 0, .resyncDone 4 false, .rxFrameDelivery 4 [] false, .rxQueueStarved 4 0,
    .rxQueueStarved 0 256, .txFrameFetch 4 [] none, .msixMessage 4 0, .msixMessage 0 512, .msixDelayExpiry 4 0,
    .msixDelayExpiry 0 512, .msixUnmask 4 (.function), .sofPreIndication 512 [], .headerWindowComplete 16 [] {} false,
    .headerWindowComplete 0 [(32, [])] {} false, .frameLastByte 0 false { symbols := List.replicate 9 0 },
    .writeConfirm (2 ^ 20), .reseqGapTimeout 16 0, .reseqGapTimeout 0 17, .dispatchDecision 16 {}, .rewriteLengthCharge 532,
    .frameTransmitEnd 528, .txUnderrun 528, .mcCopyHoldDrop 512 0, .mcCopyHoldDrop 0 4, .cellRelease 40 0 0 false,
    .cellRelease 0 (2 ^ 20) 0 false, .freeListRefill 16 (.clean), .freelistRebuildDone 16] : List Instr), i.wellFormed = false := by
  decide +kernel

theorem test_wellFormed_refuses_2 : ∀ i ∈ ([
    .holdBusNotice 512 0, .holdBusNotice 0 8, .pfcFrameSend 512, .pfcRefresh 512, .pfcFrameReceive 512 0 (List.replicate 8 0),
    .pfcFrameReceive 0 256 (List.replicate 8 0), .pfcFrameReceive 0 0 (List.replicate 7 0), .pauseFrameReceive 512 0,
    .pauseFrameReceive 0 65536, .macControlReceive 512 0, .macControlReceive 0 65536, .pauseTimerExpiry 512 0,
    .pauseTimerExpiry 0 8, .pauseStorm 512 0, .pauseStorm 0 20, .pauseBreakEnd 512 0, .pauseBreakEnd 0 20,
    .linkLossDeclared 512 1 0 false, .linkLossDeclared 0 0 0 false, .linkLossDeclared 0 7 0 false,
    .linkLossDeclared 0 1 512 false, .laneRecheck 512 [], .linkUp 512, .holdExpiry 512, .realignTimeout 512,
    .trainingTimeout 512 0, .trainingRestart 512, .macroPowerUpDone 64 0, .queueFlushDone 512, .adaptationSlice 8,
    .pipelineSleepEntry 16, .pipelineWake 16 false, .learnEventApply 4 (.clean) 0, .learnApplyLag 4, .relocationMove 4 0 [],
    .relocationMove 0 3 [], .relocationMove 0 0 (List.replicate 10 0), .agingVisit 4, .glLrnSweepWrite 4 0,
    .planeFailure 4 0 0, .planeFailure 0 16 0, .planeRemoved 4, .planeSelfCheck 4 false, .planeRestore 4 0,
    .planeBistDone 4 false, .lrqReturn 512 0 (.clean), .lrqReturn 0 8 (.clean), .cxlPortLoss 4 0, .cxlPortLoss 0 3,
    .cxlRestore 4 0, .cxlEnumeration 4, .cxlEnumerationDone 4 0 0 0 0, .cxlEnumerationDone 0 7 0 0 0, .hbmStackFailure 4,
    .glSpwMapWrite 4 0, .shaperRefillSweep 32768, .shaperWheelFire 32768, .coarseWheelSlot 16 0, .coarseWheelSlot 0 4096,
    .tideCctReached 512] : List Instr), i.wellFormed = false := by
  decide +kernel

theorem test_wellFormed_refuses_3 : ∀ i ∈ ([
    .tideGateChange 512, .tideListEcc 512 0, .gaugeSample 512, .gaugeIntervalEnd 512, .epGaugeRingWrite 4 0 0,
    .epGaugeRingWrite 0 4 0, .bankFreeze 8, .minuteRecordWrite 8, .epMrpRingConsWrite 4 0 0, .epMrpRingConsWrite 0 8 0,
    .ledgerWalkerVisit (2 ^ 30) false, .weirHoldRelease 262144 0 0, .weirHoldRelease 0 512 0, .weirHoldRelease 0 0 8,
    .glMrpCfgWrite 4 0, .graceTimerExpiry 4096, .criticalGraceExpiry 4096, .faultRetryResult 4096 false,
    .tourbillonVisit 4 0 0 0 (.clean) false [], .tourbillonVisit 0 19 0 0 (.clean) false [], .suppressionSummary 1024,
    .flashSectorErase 4096 false, .porNDeassert (List.replicate 3 0) [], .glBootCtrlGo 4, .imageRejected 4 0 0,
    .imageLoadAccepted 4 [] {} false, .thermalTrip (List.replicate 15 0), .thermNCrossing (List.replicate 15 0),
    .calibrationPass (List.replicate 15 0), .avsWrite 679 false, .avsWrite 821 false, .regulatorTrap 4 0 0,
    .regulatorTrap 0 8192 0, .regulatorTrap 0 0 2, .regulatorStoreUe true 8 0 false, .regulatorStoreUe false 4 0 false,
    .regulatorStoreUe true 0 2048 false, .regulatorStoreUe false 0 8192 false, .cvuDataWrite (.window 4) 0 0 0,
    .cvuDataWrite (.regulator 4) 0 0 0, .cvuDataWrite (.window 0) 64 0 0, .cvuDataWrite (.window 0) 0 16 0,
    .cvuStart (.window 4) 0 0, .cvuStart (.regulator 4) 0 0, .cvuStart (.window 0) 64 0, .cvuCompare (.window 4) 0 0,
    .cvuCompare (.regulator 4) 0 0, .cvuCompare (.window 0) 64 0, .glCmdArbWrite 4 0 0, .glCmdArbWrite 0 4 0,
    .epVecMapWrite 4 0 0, .epVecMapWrite 0 1024 0, .wideRegisterRead 4 0 32 (.clean), .wideRegisterRead 0 0 24 (.clean),
    .setupRegisterWrite 4 0 32 0, .setupRegisterWrite 0 0 24 0, .endpointUp 4, .anMismatch 512 0, .anMismatch 0 (2 ^ 48),
    .railOutOfTolerance 10 0] : List Instr), i.wellFormed = false := by
  decide +kernel

theorem test_wellFormed_refuses_4 : ∀ i ∈ ([
    .liveWindowExpiry 4096] : List Instr), i.wellFormed = false := by
  decide +kernel

/-- The rows that run a command of a ring. -/
def opRows (c : CmdRef) : List Instr := [
    .opNop c {}, .opFence c {}, .opAbort c {}, .opSurvey c {}, .opAttestReport c {}, .opAttestCert c {},
    .opModeSetDevice c {}, .opModeSetPolder c {}, .opTableWrite c {}, .opTableRead c {}, .opTableSearch c {},
    .opTableDelete c {}, .opTableBulk c {}, .opTableAudit c {}, .opTableScan c {}, .opGenOpen c {}, .opGenCommit c {},
    .opGenDiscard c {}, .opGenStatus c {}, .opCounterRead c {}, .opCounterClear c {}, .opLedgerConfig c {},
    .opLedgerExportSetSet c {}, .opLedgerExportSetRead c {}, .opLedgerExportSetFlush c {}, .opMeterSetWeirSet c {},
    .opMeterSetWeirRead c {}, .opMeterSetWeirDelete c {}, .opMeterSetRuleSet c {}, .opMeterSetRuleDelete c {},
    .opSchedSetSet c {}, .opSchedSetSetMc c {}, .opSchedSetRead c {}, .opShaperSetSet c {}, .opShaperSetRead c {},
    .opTideTableSetSet c {}, .opTideTableSetDisable c {}, .opTideTableSetRead c {}, .opGaugeSetSet c {}, .opGaugeSetRead c {},
    .opGaugeSetArchiveRead c {}, .opPoolSetSet c {}, .opPoolSetRead c {}, .opPoolSetRelease c {}, .opHeadroomSet c {},
    .opPfcSet c {}, .opSpillSetQueue c {}, .opSpillSetLongReach c {}, .opSpillSetReadQueue c {}, .opSpillSetReadLr c {},
    .opFaultConfigSet c {}, .opFaultConfigRead c {}, .opFaultConfigHistory c {}, .opFaultConfigLatched c {}, .opFaultAck c {},
    .opFaultClear c {}, .opLogRead c {}, .opLogFreeze c {}, .opLogThaw c {}, .opLogRateSetSet c {}, .opLogRateSetRead c {},
    .opPolderDefineDefine c {}, .opPolderDefineModify c {}, .opPolderDefineUndefine c {}, .opSluiceSet c {},
    .opWardenHandover c {}, .opPortConfig c {}, .opPortStateRead c {}, .opPortStateAdminUp c {}, .opPortStateAdminDown c {},
    .opPortStateRetrain c {}, .opPortHoldSet c {}, .opTimeSetSet c {}, .opTimeSetStep c {}, .opTimeSetFreq c {},
    .opTimeSetSlew c {}, .opTimeCapture c {}, .opStoreReload c {}, .opDiagLoopback c {}, .opDiagBist c {},
    .opDiagPrbsStart c {}, .opDiagPrbsRead c {}, .opDiagPrbsStop c {}]

theorem test_wellFormed_opRows :
    (∀ i ∈ opRows { ep := 3, ring := 63, pos := 0 }, i.wellFormed = true) ∧
    (∀ i ∈ opRows { ep := 4, ring := 63, pos := 0 }, i.wellFormed = false) ∧
    ∀ i ∈ opRows { ep := 3, ring := 64, pos := 0 }, i.wellFormed = false := by
  decide +kernel

/-! ### Witnesses -/

theorem isRunning_intro {d : Dev} {c : CmdRef} {x : Cmd}
    (h : d.cmd? c = some x ∧ x.executing = true ∧ x.outcome = none ∧ x.marked = false) : d.isRunning c x := h
theorem port_reset_down (q : Nat) (_ : q / 8 = 0) : ((run (cmd 0x90)).dev.port q).st = .adminDown := by
  unfold Dev.port portReset; split <;> rfl
/-- A reload that another command holds. -/
def reloads : State :=
  run (cmd 0xB0) { dev0 with boot := { reloading := some (1, 0, 0, 0, 0, 0) }, hif := { eps := [(0, ep0), (1, { ep0 with cmds := [cmd 0xB0] })] } }
theorem reload_other (e n p k i t0 : Nat) (h : reloads.dev.boot.reloading = some (e, n, p, k, i, t0)) :
    ∃ y, reloads.dev.cmd? { ep := e, ring := n, pos := BitVec.ofNat 32 p } = some y ∧ y.outcome = none ∧
      ¬(e = c0.ep ∧ n = c0.ring ∧ BitVec.ofNat 32 p = c0.pos) := by
  have h : some (1, 0, 0, 0, 0, 0) = some (e, n, p, k, i, t0) := h
  simp only [Option.some.injEq, Prod.mk.injEq] at h
  obtain ⟨rfl, rfl, rfl, rfl, rfl, rfl⟩ := h
  exact ⟨cmd 0xB0, by decide +kernel, by decide +kernel, by decide +kernel⟩

/-- The stash entry of EXACT that the relocation walker is to move to the first place of its first bucket. -/
def relocs : State :=
  st { dev0 with rle := { plans := [(1, [1048576, tabBucket 1 0 0 0])], ents := [(tabKey 1 1048576, some {})] } }
theorem bucket_lt : tabBucket 1 0 0 0 < 262144 := by
  show 0 * (1048576 / 4) + 4 * (Config.bucketOf 1 0 0 (keyOf 1 0) % 65536) < 262144
  omega
theorem candidate_other : 1048576 ≠ tabBucket 1 0 0 0 := by have := bucket_lt; omega
theorem candidate_first : (relocs.dev.tabCand 1 1048576).contains (tabBucket 1 0 0 0) = true :=
  List.elem_iff.2 (List.mem_flatMap.2 ⟨0, by decide, List.mem_map.2 ⟨0, by decide, rfl⟩⟩)
theorem candidate_free : relocs.dev.placeFree 1 (tabBucket 1 0 0 0) (relocs.dev.unitsAt 1 1048576) = true := by
  have hb := bucket_lt
  have none_at (j : Nat) (h : j < 1048576) : relocs.dev.tab 1 j = none := by
    show (match [(4296015872, some ({} : TabEnt))] with | [] => none | (k, v) :: t => if k = 1 * 2 ^ 32 + j then v else tget t none (1 * 2 ^ 32 + j)) = none
    simp only [tget]
    rw [if_neg (by omega)]
  unfold Dev.placeFree
  rw [if_neg (by show ¬ 1048576 ≤ _; omega)]
  refine List.all_eq_true.2 fun k hk => ?_
  have hk := List.mem_range.1 hk
  simp only [none_at (tabBucket 1 0 0 0 / 4 * 4 + k) (by omega)]

theorem witness_OrderingCommandsComplete :
    (∃ s : State, ∃ c : CmdRef, ∃ x : Cmd, s.dev.isRunning c x ∧ isOp 0x00 x = true) ∧
    (∃ s : State, ∃ c : CmdRef, ∃ x : Cmd, s.dev.isRunning c x ∧ isOp 0x01 x = true ∧ x.scratch = [] ∧ (∀ n ∈ setBits (x.fld 16 0
        64) 64, s.dev.fenceWaits c n (s.dev.cr c.ep n).p = false)) ∧
    (∃ s : State, ∃ c : CmdRef, ∃ x : Cmd, s.dev.isRunning c x ∧ isOp 0x01 x = true ∧ x.scratch = [] ∧ x.marked = false ∧ (∃ n ∈
        setBits (x.fld 16 0 64) 64, s.dev.fenceWaits c n (s.dev.cr c.ep n).p = true)) ∧
    (∃ s : State, ∃ c : CmdRef, ∃ x : Cmd, ∃ y : Cmd, s.dev.isRunning c x ∧ isOp 0x02 x = true ∧ s.dev.boot.reloading = none ∧
        (s.dev.ep c.ep).cmds.find? (fun y => decide (y.ring = x.fld 16 0 6 ∧ y.pos.toNat % 2 ^ 20 = x.fld 20 0 20)) = some y ∧
        y.executing = false ∧ y.outcome = none) ∧
    (∃ s : State, ∃ c : CmdRef, ∃ io : Io, ∃ x : Cmd, s.dev.isRunning c x ∧ isOp 0x03 x = true ∧ x.scratch = [] ∧ io.pick = [] ∧
        io.wrErr = false ∧ (s.dev.ep c.ep).up = true) :=
  ⟨⟨run (cmd 0), c0, cmd 0, isRunning_intro (by decide +kernel), by decide +kernel⟩,
   ⟨run (cmd 1 [(16, 0, 64, 1)]), c0, cmd 1 [(16, 0, 64, 1)], isRunning_intro (by decide +kernel), by decide +kernel⟩,
   ⟨run (cmd 1 [(16, 0, 64, 1)]) (withEp { ep0 with crs := [(0, { f := 0, p := 2 })] }), c0, cmd 1 [(16, 0, 64, 1)],
     isRunning_intro (by decide +kernel), by decide +kernel⟩,
   ⟨st (withEp { ep0 with cmds := [cmd 2 [(20, 0, 20, 1)], { cmd 0 with pos := 1, executing := false }] }), c0, cmd 2 [(20, 0, 20,
     1)], ({ cmd 0 with pos := 1, executing := false } : Cmd), isRunning_intro (by decide +kernel), by decide +kernel⟩,
   ⟨run (cmd 3), c0, {}, cmd 3, isRunning_intro (by decide +kernel), by decide +kernel⟩⟩

theorem witness_DoorbellsFollowTheirRules :
    (∃ s : State, ∃ e : Nat, ∃ n : Nat, ∃ v : Word, e < 4 ∧ (s.dev.ep e).answers = true ∧ n < 64 ∧ (s.dev.cr e n).st = .active ∧
        0x80000000 ≤ (v - (s.dev.cr e n).p).toNat) ∧
    (∃ s : State, ∃ e : Nat, ∃ n : Nat, ∃ v : Word, e < 4 ∧ (s.dev.ep e).answers = true ∧ n < 64 ∧ (s.dev.cr e n).st = .active ∧ (v
        - (s.dev.cr e n).p).toNat < 0x80000000 ∧ 2 ^ (s.dev.cr e n).sizeLog2 < (v - (s.dev.cr e n).f).toNat) ∧
    (∃ s : State, ∃ e : Nat, ∃ n : Nat, ∃ v : Word, ∃ m : Nat, e < 4 ∧ (s.dev.ep e).answers = true ∧ n < 64 ∧ (s.dev.cr e n).st =
        .active ∧ (v - (s.dev.cr e n).p).toNat < 0x80000000 ∧ (v - (s.dev.cr e n).f).toNat ≤ 2 ^ (s.dev.cr e n).sizeLog2 ∧ m ≠
        n) ∧
    (∃ s : State, ∃ e : Nat, ∃ n : Nat, ∃ v : Word, ∃ f : Nat, e < 4 ∧ (s.dev.ep e).answers = true ∧ n < 64 ∧ (s.dev.cr e n).st =
        .active ∧ (v - (s.dev.cr e n).p).toNat < 0x80000000 ∧ (v - (s.dev.cr e n).f).toNat ≤ 2 ^ (s.dev.cr e n).sizeLog2 ∧ f ≠
        e) ∧
    (∃ s : State, ∃ e : Nat, ∃ n : Nat, ∃ v : Word, e < 4 ∧ (s.dev.ep e).answers = true ∧ n < 64 ∧ (s.dev.cq e n).st = .active ∧
        0x80000000 ≤ (v - (s.dev.cq e n).consumed).toNat) ∧
    (∃ s : State, ∃ e : Nat, ∃ n : Nat, ∃ v : Word, e < 4 ∧ (s.dev.ep e).answers = true ∧ n < 64 ∧ (s.dev.cq e n).st = .active ∧ (v
        - (s.dev.cq e n).consumed).toNat < 0x80000000 ∧ 2 ^ (s.dev.cq e n).sizeLog2 < ((s.dev.cq e n).w - v).toNat) ∧
    (∃ s : State, ∃ e : Nat, ∃ n : Nat, ∃ v : Word, ∃ m : Nat, e < 4 ∧ (s.dev.ep e).answers = true ∧ n < 64 ∧ (s.dev.cq e n).st =
        .active ∧ (v - (s.dev.cq e n).consumed).toNat < 0x80000000 ∧ ((s.dev.cq e n).w - v).toNat ≤ 2 ^ (s.dev.cq e n).sizeLog2
        ∧ m ≠ n) ∧
    (∃ s : State, ∃ e : Nat, ∃ n : Nat, ∃ v : Word, ∃ f : Nat, e < 4 ∧ (s.dev.ep e).answers = true ∧ n < 64 ∧ (s.dev.cq e n).st =
        .active ∧ (v - (s.dev.cq e n).consumed).toNat < 0x80000000 ∧ ((s.dev.cq e n).w - v).toNat ≤ 2 ^ (s.dev.cq e n).sizeLog2
        ∧ f ≠ e) ∧
    (∃ s : State, ∃ e : Nat, ∃ n : Nat, ∃ v : Word, e < 4 ∧ (s.dev.ep e).answers = true ∧ n < 256 ∧ ((s.dev.rxq e n).st = .active ∨
        (s.dev.rxq e n).st = .starved) ∧ 0x80000000 ≤ (v - (s.dev.rxq e n).posted).toNat) ∧
    (∃ s : State, ∃ e : Nat, ∃ n : Nat, ∃ v : Word, e < 4 ∧ (s.dev.ep e).answers = true ∧ n < 256 ∧ ((s.dev.rxq e n).st = .active ∨
        (s.dev.rxq e n).st = .starved) ∧ (v - (s.dev.rxq e n).posted).toNat < 0x80000000 ∧ 2 ^ (s.dev.rxq e n).sizeLog2 < (v -
        (s.dev.rxq e n).used).toNat) ∧
    (∃ s : State, ∃ e : Nat, ∃ n : Nat, ∃ v : Word, ∃ m : Nat, e < 4 ∧ (s.dev.ep e).answers = true ∧ n < 256 ∧ ((s.dev.rxq e n).st =
        .active ∨ (s.dev.rxq e n).st = .starved) ∧ (v - (s.dev.rxq e n).posted).toNat < 0x80000000 ∧ (v - (s.dev.rxq e
        n).used).toNat ≤ 2 ^ (s.dev.rxq e n).sizeLog2 ∧ m ≠ n) ∧
    (∃ s : State, ∃ e : Nat, ∃ n : Nat, ∃ v : Word, ∃ f : Nat, e < 4 ∧ (s.dev.ep e).answers = true ∧ n < 256 ∧ ((s.dev.rxq e n).st =
        .active ∨ (s.dev.rxq e n).st = .starved) ∧ (v - (s.dev.rxq e n).posted).toNat < 0x80000000 ∧ (v - (s.dev.rxq e
        n).used).toNat ≤ 2 ^ (s.dev.rxq e n).sizeLog2 ∧ f ≠ e) :=
  ⟨⟨st (withEp { ep0 with crs := [(0, { st := .active, p := 5 })] }), 0, 0, 4, by decide +kernel⟩,
   ⟨st (withEp { ep0 with crs := [(0, { st := .active, sizeLog2 := 6 })] }), 0, 0, 65, by decide +kernel⟩,
   ⟨st (withEp { ep0 with crs := [(0, { st := .active, sizeLog2 := 6 })] }), 0, 0, 64, 1, by decide +kernel⟩,
   ⟨st (withEp { ep0 with crs := [(0, { st := .active, sizeLog2 := 6 })] }), 0, 0, 64, 1, by decide +kernel⟩,
   ⟨st (withEp { ep0 with cqs := [(0, { st := .active, consumed := 5 })] }), 0, 0, 4, by decide +kernel⟩,
   ⟨st (withEp { ep0 with cqs := [(0, { st := .active, w := 66 })] }), 0, 0, 1, by decide +kernel⟩,
   ⟨st (withEp { ep0 with cqs := [(0, { st := .active, w := 65 })] }), 0, 0, 1, 1, by decide +kernel⟩,
   ⟨st (withEp { ep0 with cqs := [(0, { st := .active, w := 65 })] }), 0, 0, 1, 1, by decide +kernel⟩,
   ⟨st (withEp { ep0 with rxqs := [(0, { st := .active, posted := 5 })] }), 0, 0, 4, by decide +kernel⟩,
   ⟨st (withEp { ep0 with rxqs := [(0, { st := .active })] }), 0, 0, 65, by decide +kernel⟩,
   ⟨st (withEp { ep0 with rxqs := [(0, { st := .active })] }), 0, 0, 64, 1, by decide +kernel⟩,
   ⟨st (withEp { ep0 with rxqs := [(0, { st := .active })] }), 0, 0, 64, 1, by decide +kernel⟩⟩

theorem witness_DoorbellsFollowTheirRules_2 :
    (∃ s : State, ∃ e : Nat, ∃ n : Nat, ∃ v : Word, e < 4 ∧ (s.dev.ep e).answers = true ∧ n < 256 ∧ (s.dev.txq e n).st = .active ∧
        0x80000000 ≤ (v - (s.dev.txq e n).posted).toNat) ∧
    (∃ s : State, ∃ e : Nat, ∃ n : Nat, ∃ v : Word, e < 4 ∧ (s.dev.ep e).answers = true ∧ n < 256 ∧ (s.dev.txq e n).st = .active ∧
        (v - (s.dev.txq e n).posted).toNat < 0x80000000 ∧ 2 ^ (s.dev.txq e n).sizeLog2 < (v - (s.dev.txq e n).used).toNat) ∧
    (∃ s : State, ∃ e : Nat, ∃ n : Nat, ∃ v : Word, ∃ m : Nat, e < 4 ∧ (s.dev.ep e).answers = true ∧ n < 256 ∧ (s.dev.txq e n).st =
        .active ∧ (v - (s.dev.txq e n).posted).toNat < 0x80000000 ∧ (v - (s.dev.txq e n).used).toNat ≤ 2 ^ (s.dev.txq e
        n).sizeLog2 ∧ m ≠ n) ∧
    (∃ s : State, ∃ e : Nat, ∃ n : Nat, ∃ v : Word, ∃ f : Nat, e < 4 ∧ (s.dev.ep e).answers = true ∧ n < 256 ∧ (s.dev.txq e n).st =
        .active ∧ (v - (s.dev.txq e n).posted).toNat < 0x80000000 ∧ (v - (s.dev.txq e n).used).toNat ≤ 2 ^ (s.dev.txq e
        n).sizeLog2 ∧ f ≠ e) ∧
    (∃ s : State, ∃ e : Nat, ∃ n : Nat, ∃ t : State, e < 4 ∧ (s.dev.ep e).answers = true ∧ exec (.strayDoorbell e 0 8 0) s = .next t
        ∧ (64 ≤ n ∨ (s.dev.cr e n).st ≠ .active)) ∧
    (∃ s : State, ∃ e : Nat, ∃ n : Nat, ∃ t : State, e < 4 ∧ (s.dev.ep e).answers = true ∧ exec (.strayDoorbell e 0 8 0) s = .next t
        ∧ (64 ≤ n ∨ (s.dev.cq e n).st ≠ .active)) ∧
    (∃ s : State, ∃ e : Nat, ∃ n : Nat, ∃ t : State, e < 4 ∧ (s.dev.ep e).answers = true ∧ exec (.strayDoorbell e 0 8 0) s = .next t
        ∧ (256 ≤ n ∨ ((s.dev.rxq e n).st ≠ .active ∧ (s.dev.rxq e n).st ≠ .starved))) ∧
    (∃ s : State, ∃ e : Nat, ∃ n : Nat, ∃ t : State, e < 4 ∧ (s.dev.ep e).answers = true ∧ exec (.strayDoorbell e 0 8 0) s = .next t
        ∧ (256 ≤ n ∨ (s.dev.txq e n).st ≠ .active)) ∧
    (∃ s : State, ∃ e : Nat, ∃ off : Nat, ∃ width : Nat, e < 4 ∧ (s.dev.ep e).answers = true ∧ (off % 64 ≠ 0 ∨ width ≠ 32 ∨ 0xA000 ≤
        off)) ∧
    (∃ s : State, ∃ e : Nat, ∃ n : Nat, e < 4 ∧ (s.dev.ep e).answers = true ∧ n < 64) ∧
    (∃ s : State, ∃ e : Nat, ∃ n : Nat, e < 4 ∧ (s.dev.ep e).answers = true ∧ n < 256) ∧
    (∃ s : State, ∃ e : Nat, e < 4 ∧ (s.dev.ep e).answers = true ∧ (s.dev.ep e).badWords = []) :=
  ⟨⟨st (withEp { ep0 with txqs := [(0, { st := .active, posted := 5 })] }), 0, 0, 4, by decide +kernel⟩,
   ⟨st (withEp { ep0 with txqs := [(0, { st := .active })] }), 0, 0, 65, by decide +kernel⟩,
   ⟨st (withEp { ep0 with txqs := [(0, { st := .active })] }), 0, 0, 64, 1, by decide +kernel⟩,
   ⟨st (withEp { ep0 with txqs := [(0, { st := .active })] }), 0, 0, 64, 1, by decide +kernel⟩,
   ⟨st dev0, 0, 64, (match exec (.strayDoorbell 0 0 8 0) (st dev0) with | .next t => t | _ => st dev0), by decide +kernel,
     by decide +kernel, rfl, by decide +kernel⟩,
   ⟨st dev0, 0, 64, (match exec (.strayDoorbell 0 0 8 0) (st dev0) with | .next t => t | _ => st dev0), by decide +kernel,
     by decide +kernel, rfl, by decide +kernel⟩,
   ⟨st dev0, 0, 256, (match exec (.strayDoorbell 0 0 8 0) (st dev0) with | .next t => t | _ => st dev0), by decide +kernel,
     by decide +kernel, rfl, by decide +kernel⟩,
   ⟨st dev0, 0, 256, (match exec (.strayDoorbell 0 0 8 0) (st dev0) with | .next t => t | _ => st dev0), by decide +kernel,
     by decide +kernel, rfl, by decide +kernel⟩,
   ⟨st dev0, 0, 8, 32, by decide +kernel⟩,
   ⟨st dev0, 0, 63, by decide +kernel⟩,
   ⟨st dev0, 0, 255, by decide +kernel⟩,
   ⟨st dev0, 0, by decide +kernel⟩⟩

theorem witness_RingConfigurationFollowsItsStates :
    (∃ s : State, ∃ e : Nat, ∃ n : Nat, ∃ m : Nat, (s.dev.ep e).answers = true ∧ (s.dev.ep e).up = true ∧ n < 64 ∧ m ≠ n) ∧
    (∃ s : State, ∃ e : Nat, ∃ n : Nat, ∃ v : Word, (s.dev.ep e).answers = true ∧ (s.dev.ep e).up = true ∧ n < 64 ∧ (s.dev.cr e
        n).st = .disabled ∧ v.toNat.testBit 16 = true ∧ sizeOk (bits v.toNat 0 5) = true ∧ (s.dev.crPolder e n).isSome = true ∧
        (s.dev.cq e (bits v.toNat 8 6)).st = .active) ∧
    (∃ s : State, ∃ e : Nat, ∃ n : Nat, ∃ v : Word, (s.dev.ep e).answers = true ∧ (s.dev.ep e).up = true ∧ n < 64 ∧ (s.dev.cr e
        n).st = .disabled ∧ v.toNat.testBit 16 = true ∧ (sizeOk (bits v.toNat 0 5) = false ∨ s.dev.crPolder e n = none ∨
        (s.dev.cq e (bits v.toNat 8 6)).st ≠ .active)) ∧
    (∃ s : State, ∃ e : Nat, ∃ n : Nat, ∃ v : Word, (s.dev.ep e).answers = true ∧ (s.dev.ep e).up = true ∧ n < 64 ∧ (s.dev.cr e
        n).st ≠ .disabled ∧ v.toNat.testBit 16 = true) ∧
    (∃ s : State, ∃ e : Nat, ∃ n : Nat, ∃ v : Word, (s.dev.ep e).answers = true ∧ (s.dev.ep e).up = true ∧ n < 64 ∧ (s.dev.cr e
        n).st ≠ .disabled ∧ v.toNat.testBit 16 = false ∧ bits v.toNat 0 5 = (s.dev.cr e n).sizeLog2 ∧ bits v.toNat 8 6 =
        (s.dev.cr e n).boundCq) ∧
    (∃ s : State, ∃ e : Nat, ∃ n : Nat, ∃ m : Nat, (s.dev.ep e).answers = true ∧ (s.dev.ep e).up = true ∧ n < 64 ∧ (s.dev.cr e n).st
        ≠ .disabled ∧ (s.dev.cr e n).enable = false ∧ (s.dev.cr e n).issued = (s.dev.cr e n).f ∧ (∀ x ∈ (s.dev.ep e).cmds,
        x.ring ≠ n) ∧ m ≠ n) ∧
    (∃ s : State, ∃ e : Nat, ∃ n : Nat, ∃ v : Word, (s.dev.ep e).answers = true ∧ (s.dev.ep e).up = true ∧ n < 64 ∧ (s.dev.cq e
        n).st = .disabled ∧ v.toNat.testBit 16 = true ∧ sizeOk (bits v.toNat 0 5) = true ∧ (s.dev.cqPolder e n).isSome = true) ∧
    (∃ s : State, ∃ e : Nat, ∃ n : Nat, ∃ v : Word, (s.dev.ep e).answers = true ∧ (s.dev.ep e).up = true ∧ n < 64 ∧ (s.dev.cq e
        n).st = .disabled ∧ v.toNat.testBit 16 = true ∧ (sizeOk (bits v.toNat 0 5) = false ∨ s.dev.cqPolder e n = none)) ∧
    (∃ s : State, ∃ e : Nat, ∃ n : Nat, ∃ v : Word, (s.dev.ep e).answers = true ∧ (s.dev.ep e).up = true ∧ n < 64 ∧ (s.dev.cq e
        n).st ≠ .disabled ∧ v.toNat.testBit 16 = true) ∧
    (∃ s : State, ∃ e : Nat, ∃ n : Nat, ∃ v : Word, (s.dev.ep e).answers = true ∧ (s.dev.ep e).up = true ∧ n < 64 ∧ (s.dev.cq e
        n).st ≠ .disabled ∧ v.toNat.testBit 16 = false ∧ bits v.toNat 0 5 = (s.dev.cq e n).sizeLog2) ∧
    (∃ s : State, ∃ e : Nat, ∃ n : Nat, ∃ m : Nat, (s.dev.ep e).answers = true ∧ (s.dev.ep e).up = true ∧ n < 256 ∧ m ≠ n) ∧
    (∃ s : State, ∃ e : Nat, ∃ n : Nat, ∃ v : Word, (s.dev.ep e).answers = true ∧ (s.dev.ep e).up = true ∧ n < 256 ∧ (s.dev.rxq e
        n).st = .disabled ∧ v.toNat.testBit 16 = true ∧ sizeOk (bits v.toNat 0 5) = true ∧ (s.dev.rxqPolder e n).isSome = true) :=
  ⟨⟨st dev0, 0, 0, 1, by decide +kernel⟩,
   ⟨st (withEp { ep0 with cqs := [(0, { st := .active })] }), 0, 0, 0x10006, by decide +kernel⟩,
   ⟨st dev0, 0, 0, 0x10006, by decide +kernel⟩,
   ⟨st (withEp { ep0 with crs := [(0, { st := .active, enable := true })] }), 0, 0, 0x10007, by decide +kernel⟩,
   ⟨st (withEp { ep0 with crs := [(0, { st := .active, enable := true })] }), 0, 0, 6, by decide +kernel⟩,
   ⟨st (withEp { ep0 with crs := [(0, { st := .active })] }), 0, 0, 1, by decide +kernel⟩,
   ⟨st dev0, 0, 0, 0x10006, by decide +kernel⟩,
   ⟨st dev0, 0, 0, 0x10003, by decide +kernel⟩,
   ⟨st (withEp { ep0 with cqs := [(0, { st := .active })] }), 0, 0, 0x10007, by decide +kernel⟩,
   ⟨st (withEp { ep0 with cqs := [(0, { st := .active })] }), 0, 0, 6, by decide +kernel⟩,
   ⟨st dev0, 0, 255, 1, by decide +kernel⟩,
   ⟨st dev0, 0, 255, 0x10006, by decide +kernel⟩⟩

theorem witness_RingConfigurationFollowsItsStates_2 :
    (∃ s : State, ∃ e : Nat, ∃ n : Nat, ∃ v : Word, (s.dev.ep e).answers = true ∧ (s.dev.ep e).up = true ∧ n < 256 ∧ (s.dev.rxq e
        n).st = .disabled ∧ v.toNat.testBit 16 = true ∧ (sizeOk (bits v.toNat 0 5) = false ∨ s.dev.rxqPolder e n = none)) ∧
    (∃ s : State, ∃ e : Nat, ∃ n : Nat, ∃ v : Word, (s.dev.ep e).answers = true ∧ (s.dev.ep e).up = true ∧ n < 256 ∧ (s.dev.rxq e
        n).st ≠ .disabled ∧ v.toNat.testBit 16 = true) ∧
    (∃ s : State, ∃ e : Nat, ∃ n : Nat, ∃ v : Word, (s.dev.ep e).answers = true ∧ (s.dev.ep e).up = true ∧ n < 256 ∧ (s.dev.rxq e
        n).st ≠ .disabled ∧ v.toNat.testBit 16 = false ∧ bits v.toNat 0 5 = (s.dev.rxq e n).sizeLog2) ∧
    (∃ s : State, ∃ e : Nat, ∃ n : Nat, ∃ v : Word, (s.dev.ep e).answers = true ∧ (s.dev.ep e).up = true ∧ n < 256 ∧ (s.dev.txq e
        n).st = .disabled ∧ v.toNat.testBit 16 = true ∧ sizeOk (bits v.toNat 0 5) = true ∧ (s.dev.txqPolder e n).isSome = true) ∧
    (∃ s : State, ∃ e : Nat, ∃ n : Nat, ∃ v : Word, (s.dev.ep e).answers = true ∧ (s.dev.ep e).up = true ∧ n < 256 ∧ (s.dev.txq e
        n).st = .disabled ∧ v.toNat.testBit 16 = true ∧ (sizeOk (bits v.toNat 0 5) = false ∨ s.dev.txqPolder e n = none)) ∧
    (∃ s : State, ∃ e : Nat, ∃ n : Nat, ∃ v : Word, (s.dev.ep e).answers = true ∧ (s.dev.ep e).up = true ∧ n < 256 ∧ (s.dev.txq e
        n).st ≠ .disabled ∧ v.toNat.testBit 16 = true) ∧
    (∃ s : State, ∃ e : Nat, ∃ n : Nat, ∃ v : Word, (s.dev.ep e).answers = true ∧ (s.dev.ep e).up = true ∧ n < 256 ∧ (s.dev.txq e
        n).st ≠ .disabled ∧ v.toNat.testBit 16 = false ∧ bits v.toNat 0 5 = (s.dev.txq e n).sizeLog2) :=
  ⟨⟨st dev0, 0, 255, 0x10003, by decide +kernel⟩,
   ⟨st (withEp { ep0 with rxqs := [(0, { st := .active })] }), 0, 0, 0x10007, by decide +kernel⟩,
   ⟨st (withEp { ep0 with rxqs := [(0, { st := .active })] }), 0, 0, 6, by decide +kernel⟩,
   ⟨st dev0, 0, 255, 0x10006, by decide +kernel⟩,
   ⟨st dev0, 0, 255, 0x10003, by decide +kernel⟩,
   ⟨st (withEp { ep0 with txqs := [(0, { st := .active })] }), 0, 0, 0x10007, by decide +kernel⟩,
   ⟨st (withEp { ep0 with txqs := [(0, { st := .active })] }), 0, 0, 6, by decide +kernel⟩⟩

theorem witness_DescriptorChecksGiveTheFirstFailure :
    (∃ s : State, ∃ e : Nat, ∃ n : Nat, e < 4 ∧ (s.dev.ep e).up = true ∧ (s.dev.cr e n).issued ≠ (s.dev.cr e n).f) :=
  ⟨st (withEp { ep0 with crs := [(0, { issued := 1 })] }), 0, 0, by decide +kernel⟩

theorem witness_CommandsMoveFromFetchToCompletion :
    (∃ s : State, ∃ e : Nat, ∃ n : Nat, e < 4 ∧ (s.dev.ep e).up = true ∧ (s.dev.ep e).cmds.length + s.dev.inFlight e < 16 ∧
        nextRound 64 (s.dev.ep e).rrFetch (fun m => (s.dev.cr e m).fetchable) = some n) ∧
    (∃ s : State, ∃ e : Nat, ∃ n : Nat, e < 4 ∧ (s.dev.ep e).up = true ∧ (s.dev.cr e n).issued ≠ (s.dev.cr e n).f ∧ (s.dev.cr e
        n).st = .active) ∧
    (∃ s : State, ∃ e : Nat, ∃ n : Nat, ∃ moves : Bool, ∃ x : Cmd, e < 4 ∧ s.dev.executing 0 + s.dev.executing 1 + s.dev.executing 2
        + s.dev.executing 3 < 8 ∧ s.dev.arbitrate = some (e, moves) ∧ nextRound 64 (s.dev.ep e).rrDispatch (fun m =>
        (s.dev.dispatchable e).any (fun y => decide (y.ring = m))) = some n ∧ (s.dev.dispatchable e).find? (fun y => decide
        (y.ring = n)) = some x) ∧
    (∃ s : State, ∃ e : Nat, ∃ c : CmdRef, ∃ x : Cmd, ∃ o : Done, e < 4 ∧ c.ep = e ∧ s.dev.cmd? c = some x ∧ x.outcome = some o ∧
        (s.dev.ep e).downEv = none ∧ s.dev.mayCommit c x = true) ∧
    (∃ s : State, ∃ e : Nat, ∃ n : Nat, ∃ y : Cpl, e < 4 ∧ (s.dev.ep e).up = true ∧ (s.dev.cq e n).st = .active ∧ (s.dev.cq e
        n).full = false ∧ (s.dev.ep e).icq.find? (fun z => decide (z.cq = n)) = some y) :=
  ⟨⟨st (withEp { ep0 with crs := [(0, { st := .active, enable := true, p := 1 })] }), 0, 0, by decide +kernel⟩,
   ⟨st (withEp { ep0 with crs := [(0, { st := .active, issued := 1 })] }), 0, 0, by decide +kernel⟩,
   ⟨st (withEp
     { ep0 with crs := [(0, { st := .active })], cmds := [{ cmd 0 with executing := false }], cqs := [(0, { st := .active })] }),
     0, 0, true, ({ cmd 0 with executing := false } : Cmd), by decide +kernel⟩,
   ⟨st (withEp { ep0 with cmds := [{ cmd 0 with executing := false, outcome := some { status := 0 } }] }), 0, c0,
     ({ cmd 0 with executing := false, outcome := some { status := 0 } } : Cmd), ({ status := 0 } : Done), by decide +kernel⟩,
   ⟨st (withEp { ep0 with cqs := [(0, { st := .active })], icq := [{ cq := 0, image := 0 }] }), 0, 0, ({ cq := 0, image := 0 } :
     Cpl), by decide +kernel⟩⟩

theorem witness_EndpointsGoDownAndComeUp :
    (∃ s : State, ∃ e : Nat, ∃ n : Nat, s.dev.present e = true ∧ s.dev.bal.mode ≠ .off ∧ (s.dev.ep e).up = true ∧ n = ((s.dev.ep
        e).cmds.filter (fun y => !y.onEngine)).length + (s.dev.ep e).icq.length ∧ n ≠ 0) ∧
    (∃ s : State, ∃ e : Nat, s.dev.present e = true ∧ s.dev.bal.mode ≠ .off ∧ (s.dev.ep e).up = false) ∧
    (∃ s : State, ∃ e : Nat, ∃ v : Word, s.dev.present e = true ∧ s.dev.bal.mode ≠ .off ∧ (s.dev.ep e).answers = true ∧
        v.toNat.testBit 0 = true ∧ (s.dev.ep e).resyncBusy = false) ∧
    (∃ s : State, ∃ e : Nat, s.dev.present e = true ∧ s.dev.bal.mode ≠ .off ∧ (s.dev.ep e).resyncBusy = true ∧ (s.dev.ep e).up =
        true) :=
  ⟨⟨st (withEp { ep0 with cmds := [{ cmd 0 with executing := false }] }), 0, _, by decide +kernel, by decide +kernel,
     by decide +kernel, rfl, by decide +kernel⟩,
   ⟨st { dev0 with hif := {} }, 0, by decide +kernel⟩,
   ⟨st dev0, 0, 1, by decide +kernel⟩,
   ⟨st (withEp { ep0 with resyncBusy := true }), 0, by decide +kernel⟩⟩

theorem witness_MessagesFollowTheirModeration :
    (∃ s : State, ∃ e : Nat, ∃ v : Nat, ∃ i : Instr, 0 < (s.dev.gather e v).n ∧ ((i = .msixMessage e v ∧ (s.dev.vecCount e v ≤
        (s.dev.gather e v).n ∨ s.dev.vecDelay e v = 0)) ∨ i = .msixDelayExpiry e v) ∧ i = .msixDelayExpiry e v) ∧
    (∃ s : State, ∃ e : Nat, ∃ v : Nat, ∃ i : Instr, 0 < (s.dev.gather e v).n ∧ ((i = .msixMessage e v ∧ (s.dev.vecCount e v ≤
        (s.dev.gather e v).n ∨ s.dev.vecDelay e v = 0)) ∨ i = .msixDelayExpiry e v) ∧ s.dev.vecOwned e v = true ∧ s.dev.msixOpen
        e v = true) ∧
    (∃ s : State, ∃ e : Nat, ∃ v : Nat, ∃ i : Instr, 0 < (s.dev.gather e v).n ∧ ((i = .msixMessage e v ∧ (s.dev.vecCount e v ≤
        (s.dev.gather e v).n ∨ s.dev.vecDelay e v = 0)) ∨ i = .msixDelayExpiry e v) ∧ s.dev.vecOwned e v = true ∧ s.dev.msixOpen
        e v = false) ∧
    (∃ s : State, ∃ e : Nat, ∃ v : Nat, ∃ i : Instr, 0 < (s.dev.gather e v).n ∧ ((i = .msixMessage e v ∧ (s.dev.vecCount e v ≤
        (s.dev.gather e v).n ∨ s.dev.vecDelay e v = 0)) ∨ i = .msixDelayExpiry e v) ∧ s.dev.vecOwned e v = false) ∧
    (∃ s : State, ∃ e : Nat, ∃ v : Nat, ∃ g : VecGather, (s.dev.ep e).answers = true ∧ (s.dev.ep e).gather = [(v, g)] ∧ g.pending =
        true ∧ (s.dev.ep e).alarmOwed = false ∧ s.dev.vecOwned e v = true ∧ (s.dev.ep e).up = true ∧ (s.dev.ep e).bmeClear =
        false ∧ (s.dev.ep e).msixEnable = true ∧ (s.dev.ep e).funcMask = false) ∧
    (∃ s : State, ∃ e : Nat, ∃ v : Nat, ∃ g : VecGather, (s.dev.ep e).answers = true ∧ (s.dev.ep e).gather = [(v, g)] ∧ g.pending =
        true ∧ (s.dev.ep e).alarmOwed = false ∧ s.dev.vecOwned e v = true ∧ (s.dev.ep e).up = true ∧ (s.dev.ep e).bmeClear =
        false ∧ (s.dev.ep e).msixEnable = true ∧ (s.dev.msixEntry e v).masked = false) ∧
    (∃ s : State, ∃ e : Nat, ∃ v : Nat, ∃ g : VecGather, (s.dev.ep e).answers = true ∧ (s.dev.ep e).gather = [(v, g)] ∧ g.pending =
        true ∧ (s.dev.ep e).alarmOwed = false ∧ s.dev.vecOwned e v = true ∧ (s.dev.ep e).up = true ∧ (s.dev.ep e).bmeClear =
        false ∧ (s.dev.ep e).funcMask = false ∧ (s.dev.msixEntry e v).masked = false) :=
  ⟨⟨st (withEp { ep0 with gather := [(0, { n := 1 })], msixEnable := true, msix := [(0, { masked := false })] }), 0, 0, _,
     by decide +kernel, by decide +kernel, rfl⟩,
   ⟨st (withEp { ep0 with gather := [(0, { n := 1 })], msixEnable := true, msix := [(0, { masked := false })] }), 0, 0,
     Instr.msixMessage 0 0, by decide +kernel⟩,
   ⟨st (withEp { ep0 with gather := [(0, { n := 1 })] }), 0, 0, Instr.msixMessage 0 0, by decide +kernel⟩,
   ⟨st { dev0 with hif := { eps := [(0, { ep0 with gather := [(0, { n := 1 })] })] }, plc := {} }, 0, 0, Instr.msixMessage 0 0,
     by decide +kernel⟩,
   ⟨st (withEp { ep0 with gather := [(0, { pending := true })], msixEnable := true }), 0, 0, { pending := true },
     by decide +kernel⟩,
   ⟨st (withEp { ep0 with gather := [(0, { pending := true })], msixEnable := true, msix := [(0, { masked := false })] }), 0, 0,
     { pending := true }, by decide +kernel⟩,
   ⟨st (withEp { ep0 with gather := [(0, { pending := true })], msixEnable := true, msix := [(0, { masked := false })] }), 0, 0,
     { pending := true }, by decide +kernel⟩⟩

theorem witness_HostPacketQueuesMoveFrames :
    (∃ s : State, ∃ e : Nat, ∃ q : Nat, ∃ posted : List (Nat × Nat), ∃ y : Tx, ∃ x : Pkt, ∃ bufs : List (Nat × Nat), ∃ ns : List
        Nat, ∃ i, e < 4 ∧ (s.dev.ep e).up = true ∧ (s.dev.txs (528 + e)).find? (fun y => decide (y.need ≤ y.got)) = some y ∧
        s.dev.pkt? y.ent.pid = some x ∧ y.dest = .host e q ∧ y.stomp = false ∧ (s.dev.rxq e q).st = .active ∧ bufs = posted.take
        (min 8 ((s.dev.rxq e q).posted - (s.dev.rxq e q).used).toNat) ∧ rxFill (bufs.map (fun b => b.2)) y.bytes.length = some
        ns ∧ i < ns.length) ∧
    (∃ s : State, ∃ e : Nat, ∃ q : Nat, ∃ posted : List (Nat × Nat), ∃ y : Tx, ∃ x : Pkt, ∃ bufs : List (Nat × Nat), e < 4 ∧
        (s.dev.ep e).up = true ∧ (s.dev.txs (528 + e)).find? (fun y => decide (y.need ≤ y.got)) = some y ∧ s.dev.pkt? y.ent.pid
        = some x ∧ y.dest = .host e q ∧ y.stomp = false ∧ (s.dev.rxq e q).st = .active ∧ bufs = posted.take (min 8 ((s.dev.rxq e
        q).posted - (s.dev.rxq e q).used).toNat) ∧ rxFill (bufs.map (fun b => b.2)) y.bytes.length = none ∧ bufs.length = 8) ∧
    (∃ s : State, ∃ e : Nat, ∃ q : Nat, ∃ t0 : Nat, e < 4 ∧ (s.dev.rxq e q).emptySince = some t0 ∧ (s.dev.rxq e q).st = .active ∧
        (s.dev.rxq e q).posted = (s.dev.rxq e q).used) ∧
    (∃ s : State, ∃ e : Nat, ∃ q : Nat, ∃ h : BitVec 256, ∃ rest : List (BitVec 256), ∃ p : Nat, e < 4 ∧ (s.dev.ladder (528 + e) 0
        true).isSome = true ∧ (s.dev.ep e).up = true ∧ (s.dev.pipe (4 * e)).parseStopped = false ∧ (s.dev.pipe (4 *
        e)).actionStopped = false ∧ s.dev.fetchesTx = true ∧ s.dev.txTurn e = some q ∧ (h :: rest).length ≤ ((s.dev.txq e
        q).posted - (s.dev.txq e q).used).toNat ∧ s.dev.txqPolder e q = some p) ∧
    (∃ s : State, ∃ e : Nat, ∃ q : Nat, ∃ h : BitVec 256, ∃ rest : List (BitVec 256), ∃ size : Nat, ∃ p : Nat, ∃ bytes : Option
        (List Byte), e < 4 ∧ (s.dev.ladder (528 + e) 0 true).isSome = true ∧ (s.dev.ep e).up = true ∧ (s.dev.pipe (4 *
        e)).parseStopped = false ∧ (s.dev.pipe (4 * e)).actionStopped = false ∧ s.dev.fetchesTx = true ∧ s.dev.txTurn e = some q
        ∧ (h :: rest).length ≤ ((s.dev.txq e q).posted - (s.dev.txq e q).used).toNat ∧ size = (h :: rest).foldl (fun m w => m +
        txF w 8 0 16) 0 ∧ s.dev.txqPolder e q = some p ∧ bytes ≠ none ∧ (8 < (h :: rest).length ∨ txF ((h :: rest).getLastD 0)
        10 1 1 ≠ 1 ∨ size < 60)) ∧
    (∃ s : State, ∃ e : Nat, ∃ q : Nat, ∃ h : BitVec 256, ∃ rest : List (BitVec 256), ∃ size : Nat, ∃ p : Nat, ∃ bytes : Option
        (List Byte), e < 4 ∧ (s.dev.ladder (528 + e) 0 true).isSome = true ∧ (s.dev.ep e).up = true ∧ (s.dev.pipe (4 *
        e)).parseStopped = false ∧ (s.dev.pipe (4 * e)).actionStopped = false ∧ s.dev.fetchesTx = true ∧ s.dev.txTurn e = some q
        ∧ (h :: rest).length ≤ ((s.dev.txq e q).posted - (s.dev.txq e q).used).toNat ∧ size = (h :: rest).foldl (fun m w => m +
        txF w 8 0 16) 0 ∧ s.dev.txqPolder e q = some p ∧ bytes ≠ none ∧ (h :: rest).length ≤ 8 ∧ txF ((h :: rest).getLastD 0) 10
        1 1 = 1 ∧ 60 ≤ size ∧ txF h 10 2 1 = 1 ∧ s.dev.lanePolder (txF h 12 0 10) ≠ some p) ∧
    (∃ s : State, ∃ e : Nat, ∃ q : Nat, ∃ h : BitVec 256, ∃ rest : List (BitVec 256), ∃ size : Nat, ∃ p : Nat, ∃ bs : List Byte, e <
        4 ∧ (s.dev.ladder (528 + e) 0 true).isSome = true ∧ (s.dev.ep e).up = true ∧ (s.dev.pipe (4 * e)).parseStopped = false ∧
        (s.dev.pipe (4 * e)).actionStopped = false ∧ s.dev.fetchesTx = true ∧ s.dev.txTurn e = some q ∧ (h :: rest).length ≤
        ((s.dev.txq e q).posted - (s.dev.txq e q).used).toNat ∧ size = (h :: rest).foldl (fun m w => m + txF w 8 0 16) 0 ∧
        s.dev.txqPolder e q = some p ∧ bs.length = size ∧ (h :: rest).length ≤ 8 ∧ txF ((h :: rest).getLastD 0) 10 1 1 = 1 ∧ 60
        ≤ size ∧ (txF h 10 2 1 = 1 → s.dev.lanePolder (txF h 12 0 10) = some p ∧ size + 4 ≤ (s.dev.port (txF h 12 0
        10)).maxFrame)) :=
  ⟨⟨st
     ({ withEp { ep0 with rxqs := [(0, { st := .active, posted := 1 })] } (queued 20480 pkt0 { pid := 0 } fwd) with dp := { (withEp { ep0 with rxqs := [(0, { st := .active, posted := 1 })] } (queued 20480 pkt0 { pid := 0 } fwd)).dp with tx := [(528, [({ ent := { pid := 0 }, dest := .host 0 0, bytes := frame0, need := 1, got := 1, enqLen := 60 } : Tx)])] } }),
     0, 0, [(4096, 64)], ({ ent := { pid := 0 }, dest := .host 0 0, bytes := frame0, need := 1, got := 1, enqLen := 60 } : Tx),
     pkt0, _, [60], 0, by decide +kernel, by decide +kernel, by decide +kernel, by decide +kernel, by decide +kernel,
     by decide +kernel, by decide +kernel, rfl, by decide +kernel⟩,
   ⟨st
     ({ withEp { ep0 with rxqs := [(0, { st := .active, posted := 8 })] } (queued 20480 pkt0 { pid := 0 } fwd) with dp := { (withEp { ep0 with rxqs := [(0, { st := .active, posted := 8 })] } (queued 20480 pkt0 { pid := 0 } fwd)).dp with tx := [(528, [({ ent := { pid := 0 }, dest := .host 0 0, bytes := frame0, need := 1, got := 1, enqLen := 60 } : Tx)])] } }),
     0, 0, List.replicate 8 (4096, 4),
     ({ ent := { pid := 0 }, dest := .host 0 0, bytes := frame0, need := 1, got := 1, enqLen := 60 } : Tx), pkt0, _,
     by decide +kernel, by decide +kernel, by decide +kernel, by decide +kernel, by decide +kernel, by decide +kernel,
     by decide +kernel, rfl, by decide +kernel⟩,
   ⟨st (withEp { ep0 with rxqs := [(0, { st := .active, emptySince := some 0 })] } (queued 20480)), 0, 0, 0, by decide +kernel⟩,
   ⟨st (withEp { ep0 with txqs := [(0, { st := .active, posted := 16 })] } fwd), 0, 0, BitVec.ofNat 256 (pack [(64, 16, 60), (81,
     1, 1)]), ([] : List (BitVec 256)), 0, by decide +kernel⟩,
   ⟨st (withEp { ep0 with txqs := [(0, { st := .active, posted := 16 })] } fwd), 0, 0, BitVec.ofNat 256 (pack [(64, 16, 60)]), ([]
     : List (BitVec 256)), _, 0, some frame0, by decide +kernel, by decide +kernel, by decide +kernel, by decide +kernel,
     by decide +kernel, by decide +kernel, by decide +kernel, by decide +kernel, rfl, by decide +kernel⟩,
   ⟨st (withEp { ep0 with txqs := [(0, { st := .active, posted := 16 })] } fwd), 0, 0, BitVec.ofNat 256 (pack [(64, 16, 60), (81,
     1, 1), (82, 1, 1), (96, 10, 600)]), ([] : List (BitVec 256)), _, 0, some frame0, by decide +kernel, by decide +kernel,
     by decide +kernel, by decide +kernel, by decide +kernel, by decide +kernel, by decide +kernel, by decide +kernel, rfl,
     by decide +kernel⟩,
   ⟨st (withEp { ep0 with txqs := [(0, { st := .active, posted := 16 })] } fwd), 0, 0, BitVec.ofNat 256 (pack [(64, 16, 60), (81,
     1, 1)]), ([] : List (BitVec 256)), _, 0, frame0, by decide +kernel, by decide +kernel, by decide +kernel,
     by decide +kernel, by decide +kernel, by decide +kernel, by decide +kernel, by decide +kernel, rfl, by decide +kernel⟩⟩

theorem witness_CountersAndDiagnosticsComplete :
    (∃ s : State, ∃ c : CmdRef, ∃ x : Cmd, ∃ d : Dev, ∃ is : List CtrItem, ∃ y : CtrItem, s.dev.isRunning c x ∧ isOp 0x40 x = true ∧
        d = (if x.fld 16 0 8 = 14 then Dev.combineOld s.dev.mrp.merging.length s.dev else s.dev) ∧ is = d.ctrItems (x.fld 16 0
        8) (x.fld 20 0 32) (x.fld 17 0 2) ∧ y ∈ is ∧ y.sort = .peak) ∧
    (∃ s : State, ∃ c : CmdRef, ∃ io : Io, ∃ x : Cmd, ∃ d : Dev, s.dev.isRunning c x ∧ isOp 0x40 x = true ∧ d = (if x.fld 16 0 8 =
        14 then Dev.combineOld s.dev.mrp.merging.length s.dev else s.dev) ∧ io.wrErr = false ∧ (d.ep c.ep).up = true) ∧
    (∃ s : State, ∃ c : CmdRef, ∃ x : Cmd, ∃ y : CtrItem, s.dev.isRunning c x ∧ isOp 0x41 x = true ∧ y ∈ s.dev.ctrItems (x.fld 16 0
        8) (x.fld 20 0 32) 0 ∧ y.sort ≠ .current) ∧
    (∃ s : State, ∃ c : CmdRef, ∃ x : Cmd, s.dev.isRunning c x ∧ isOp 0xF0 x = true ∧ s.dev.isPort (x.fld 16 0 10) = true) ∧
    (∃ s : State, ∃ c : CmdRef, ∃ x : Cmd, s.dev.isRunning c x ∧ isOp 0xF0 x = true ∧ s.dev.isPort (x.fld 16 0 10) = false) ∧
    (∃ s : State, ∃ c : CmdRef, ∃ io : Io, ∃ x : Cmd, s.dev.isRunning c x ∧ isOp 0xF1 x = true ∧ ioChoice io 0 = 0 ∧ x.fld 16 0 3 =
        0) ∧
    (∃ s : State, ∃ c : CmdRef, ∃ io : Io, ∃ x : Cmd, ∃ q, s.dev.isRunning c x ∧ isOp 0xF1 x = true ∧ ioChoice io 0 = 0 ∧ q < 4 ∧
        x.fld 16 0 3 = q + 1) ∧
    (∃ s : State, ∃ c : CmdRef, ∃ io : Io, ∃ x : Cmd, s.dev.isRunning c x ∧ isOp 0xF1 x = true ∧ ioChoice io 0 = 0 ∧ x.fld 16 0 3 =
        5) ∧
    (∃ s : State, ∃ c : CmdRef, ∃ io : Io, ∃ x : Cmd, s.dev.isRunning c x ∧ isOp 0xF1 x = true ∧ ioChoice io 0 = 0 ∧ x.fld 16 0 3 =
        6) ∧
    (∃ s : State, ∃ c : CmdRef, ∃ io : Io, ∃ x : Cmd, ∃ k : Nat, s.dev.isRunning c x ∧ isOp 0xF1 x = true ∧ ioChoice io 0 = 0 ∧
        x.fld 16 0 3 = 7 ∧ keptCtr k = false) ∧
    (∃ s : State, ∃ c : CmdRef, ∃ x : Cmd, s.dev.isRunning c x ∧ isOpAct 0xF2 (18, 0, 2) 0 x = true ∧ s.dev.lanePowered (x.fld 16 0
        9) = true) ∧
    (∃ s : State, ∃ c : CmdRef, ∃ x : Cmd, s.dev.isRunning c x ∧ isOpAct 0xF2 (18, 0, 2) 0 x = true ∧ s.dev.lanePowered (x.fld 16 0
        9) = false) :=
  ⟨⟨run (cmd 0x40 [(16, 0, 8, 1)]), c0, cmd 0x40 [(16, 0, 8, 1)], _, _, { ctr := .hrPeak, idx := 0, sort := .peak, now := 0 },
     isRunning_intro (by decide +kernel), by decide +kernel, rfl, rfl, by decide +kernel⟩,
   ⟨run (cmd 0x40 [(16, 0, 8, 1)]), c0, {}, cmd 0x40 [(16, 0, 8, 1)], _, isRunning_intro (by decide +kernel), by decide +kernel,
     rfl, by decide +kernel⟩,
   ⟨run (cmd 0x41 [(16, 0, 8, 18)]), c0, cmd 0x41 [(16, 0, 8, 18)], { ctr := .genDoomed, idx := 0 }, isRunning_intro
     (by decide +kernel), by decide +kernel⟩,
   ⟨run (cmd 0xF0) (port0 .up), c0, cmd 0xF0, isRunning_intro (by decide +kernel), by decide +kernel⟩,
   ⟨run (cmd 0xF0 [(16, 0, 10, 9)]) (port0 .up), c0, cmd 0xF0 [(16, 0, 10, 9)], isRunning_intro (by decide +kernel),
     by decide +kernel⟩,
   ⟨run (cmd 0xF1), c0, {}, cmd 0xF1, isRunning_intro (by decide +kernel), by decide +kernel⟩,
   ⟨run (cmd 0xF1 [(16, 0, 3, 1)]), c0, {}, cmd 0xF1 [(16, 0, 3, 1)], 0, isRunning_intro (by decide +kernel), by decide +kernel⟩,
   ⟨run (cmd 0xF1 [(16, 0, 3, 5)]), c0, {}, cmd 0xF1 [(16, 0, 3, 5)], isRunning_intro (by decide +kernel), by decide +kernel⟩,
   ⟨run (cmd 0xF1 [(16, 0, 3, 6)]), c0, {}, cmd 0xF1 [(16, 0, 3, 6)], isRunning_intro (by decide +kernel), by decide +kernel⟩,
   ⟨run (cmd 0xF1 [(16, 0, 3, 7)]), c0, {}, cmd 0xF1 [(16, 0, 3, 7)], 0, isRunning_intro (by decide +kernel), by decide +kernel⟩,
   ⟨run (cmd 0xF2) (port0 .up), c0, cmd 0xF2, isRunning_intro (by decide +kernel), by decide +kernel⟩,
   ⟨run (cmd 0xF2), c0, cmd 0xF2, isRunning_intro (by decide +kernel), by decide +kernel⟩⟩

theorem witness_CountersAndDiagnosticsComplete_2 :
    (∃ s : State, ∃ c : CmdRef, ∃ x : Cmd, s.dev.isRunning c x ∧ isOpAct 0xF2 (18, 0, 2) 1 x = true ∧ s.dev.lanePowered (x.fld 16 0
        9) = false) ∧
    (∃ s : State, ∃ c : CmdRef, ∃ x : Cmd, ∃ g : Nat × Nat × Nat, s.dev.isRunning c x ∧ isOpAct 0xF2 (18, 0, 2) 1 x = true ∧
        s.dev.lanePowered (x.fld 16 0 9) = true ∧ tget s.dev.bal.prbs none (x.fld 16 0 9) = some g) ∧
    (∃ s : State, ∃ c : CmdRef, ∃ x : Cmd, s.dev.isRunning c x ∧ isOpAct 0xF2 (18, 0, 2) 1 x = true ∧ s.dev.lanePowered (x.fld 16 0
        9) = true ∧ tget s.dev.bal.prbs none (x.fld 16 0 9) = none) ∧
    (∃ s : State, ∃ c : CmdRef, ∃ x : Cmd, s.dev.isRunning c x ∧ isOpAct 0xF2 (18, 0, 2) 2 x = true ∧ s.dev.lanePowered (x.fld 16 0
        9) = false) ∧
    (∃ s : State, ∃ c : CmdRef, ∃ x : Cmd, ∃ g : Nat × Nat × Nat, s.dev.isRunning c x ∧ isOpAct 0xF2 (18, 0, 2) 2 x = true ∧
        s.dev.lanePowered (x.fld 16 0 9) = true ∧ tget s.dev.bal.prbs none (x.fld 16 0 9) = some g) ∧
    (∃ s : State, ∃ c : CmdRef, ∃ x : Cmd, s.dev.isRunning c x ∧ isOpAct 0xF2 (18, 0, 2) 2 x = true ∧ s.dev.lanePowered (x.fld 16 0
        9) = true ∧ tget s.dev.bal.prbs none (x.fld 16 0 9) = none) :=
  ⟨⟨run (cmd 0xF2 [(18, 0, 2, 1)]), c0, cmd 0xF2 [(18, 0, 2, 1)], isRunning_intro (by decide +kernel), by decide +kernel⟩,
   ⟨run (cmd 0xF2 [(18, 0, 2, 1)]) ({ port0 .up with bal := { dev0.bal with prbs := [(0, some (0, 0, 0))] } }), c0, cmd 0xF2 [(18,
     0, 2, 1)], (0, 0, 0), isRunning_intro (by decide +kernel), by decide +kernel⟩,
   ⟨run (cmd 0xF2 [(18, 0, 2, 1)]) (port0 .up), c0, cmd 0xF2 [(18, 0, 2, 1)], isRunning_intro (by decide +kernel),
     by decide +kernel⟩,
   ⟨run (cmd 0xF2 [(18, 0, 2, 2)]), c0, cmd 0xF2 [(18, 0, 2, 2)], isRunning_intro (by decide +kernel), by decide +kernel⟩,
   ⟨run (cmd 0xF2 [(18, 0, 2, 2)]) ({ port0 .up with bal := { dev0.bal with prbs := [(0, some (0, 0, 0))] } }), c0, cmd 0xF2 [(18,
     0, 2, 2)], (0, 0, 0), isRunning_intro (by decide +kernel), by decide +kernel⟩,
   ⟨run (cmd 0xF2 [(18, 0, 2, 2)]) (port0 .up), c0, cmd 0xF2 [(18, 0, 2, 2)], isRunning_intro (by decide +kernel),
     by decide +kernel⟩⟩

theorem witness_SidebandAnswers :
    (∃ s : State, ∃ pec : Bool, ∃ check : Nat → List Byte → List Byte, s.dev.bal.mode ≠ .off ∧ (∀ code bs, check code bs = bs ++ if
        pec then [BitVec.ofNat 8 (crc8 ([s.dev.smbAddr false, BitVec.ofNat 8 code, s.dev.smbAddr true] ++ bs))] else [])) ∧
    (∃ s : State, ∃ a : Byte, ∃ b : Byte, ∃ bs : List Byte, ∃ pec : Option Byte, s.dev.bal.mode ≠ .off ∧ 1 ≤ bs.length ∧ bs.length ≤
        128 ∧ (s.dev.smbPecOk (0x10 :: BitVec.ofNat 8 (bs.length + 2) :: a :: b :: bs) pec = false ∨ 304 < a.toNat + 256 *
        b.toNat + bs.length)) ∧
    (∃ s : State, ∃ a : Byte, ∃ b : Byte, ∃ bs : List Byte, ∃ pec : Option Byte, ∃ i : Nat, s.dev.bal.mode ≠ .off ∧ 1 ≤ bs.length ∧
        bs.length ≤ 128 ∧ s.dev.smbPecOk (0x10 :: BitVec.ofNat 8 (bs.length + 2) :: a :: b :: bs) pec = true ∧ a.toNat + 256 *
        b.toNat + bs.length ≤ 304 ∧ i < bs.length) ∧
    (∃ s : State, ∃ a : Byte, ∃ b : Byte, ∃ bs : List Byte, ∃ pec : Option Byte, ∃ j : Nat, s.dev.bal.mode ≠ .off ∧ 1 ≤ bs.length ∧
        bs.length ≤ 128 ∧ s.dev.smbPecOk (0x10 :: BitVec.ofNat 8 (bs.length + 2) :: a :: b :: bs) pec = true ∧ a.toNat + 256 *
        b.toNat + bs.length ≤ 304 ∧ (j < a.toNat + 256 * b.toNat ∨ a.toNat + 256 * b.toNat + bs.length ≤ j)) ∧
    (∃ s : State, ∃ pec : Option Byte, s.dev.bal.mode ≠ .off ∧ s.dev.smbPecOk [0x11] pec = false) ∧
    (∃ s : State, ∃ pec : Option Byte, s.dev.bal.mode ≠ .off ∧ s.dev.smbPecOk [0x11] pec = true ∧ s.dev.tokenCheck s.dev.tokenBytes
        true = none) ∧
    (∃ s : State, ∃ pec : Option Byte, ∃ k : Nat, s.dev.bal.mode ≠ .off ∧ s.dev.smbPecOk [0x11] pec = true ∧ s.dev.tokenCheck
        s.dev.tokenBytes true = some k) ∧
    (∃ s : State, s.dev.bal.mode ≠ .off) ∧
    (∃ s : State, ∃ i : TapInstr, (i = .bypass ∨ i = .unassigned ∨ (i = .privateDebug ∧ s.dev.otp.jtagLock = true) ∨ (i ∈
        [TapInstr.extest, .extestPulse, .extestTrain, .highz, .clamp] ∧ s.dev.bal.mode ≠ .dormant ∧ s.dev.bal.mode ≠
        .diagnostic))) ∧
    (∃ s : State, ∃ i : TapInstr, i ∈ [TapInstr.extest, .extestPulse, .extestTrain, .highz, .clamp] ∧ (s.dev.bal.mode = .dormant ∨
        s.dev.bal.mode = .diagnostic)) :=
  ⟨⟨st dev0, true, fun code bs => bs ++ if true then [BitVec.ofNat 8 (crc8 ([dev0.smbAddr false, BitVec.ofNat 8 code, dev0.smbAddr
     true] ++ bs))] else [], by decide +kernel, fun _ _ => rfl⟩,
   ⟨st dev0, 0, 0, [0], some 0, by decide +kernel⟩,
   ⟨st dev0, 0, 0, [0], none, 0, by decide +kernel⟩,
   ⟨st dev0, 0, 0, [0], none, 5, by decide +kernel⟩,
   ⟨st dev0, some 0, by decide +kernel⟩,
   ⟨st sideDev, none, by decide +kernel⟩,
   ⟨st dev0, none, 1, by decide +kernel⟩,
   ⟨st dev0, by decide +kernel⟩,
   ⟨st dev0, .bypass, by decide +kernel⟩,
   ⟨st { dev0 with bal := { dev0.bal with mode := .diagnostic } }, .extest, by decide +kernel⟩⟩

theorem witness_RegisterAccessesFollowTheMap :
    (∃ s : State, ∃ e : Nat, ∃ off : Nat, ∃ width : Nat, (s.dev.ep e).answers = true ∧ off < 0x40000 ∧ accessOk off width = false) ∧
    (∃ s : State, ∃ e : Nat, ∃ off : Nat, (s.dev.ep e).answers = true ∧ off < 0x40000 ∧ s.dev.isWarden e = false ∧ 0x20000 ≤ off ∧
        off % 4 = 0) ∧
    (∃ s : State, ∃ e : Nat, ∃ off : Nat, (s.dev.ep e).answers = true ∧ off < 0x40000 ∧ s.dev.isWarden e = true ∧ off = 0x20024) ∧
    (∃ s : State, ∃ e : Nat, ∃ off : Nat, (s.dev.ep e).answers = true ∧ off < 0x40000 ∧ s.dev.isWarden e = true ∧ 0x20000 ≤ off ∧
        off < 0x21000 ∧ off % 4 = 0 ∧ regAt off = some (off, 4)) ∧
    (∃ s : State, ∃ e : Nat, ∃ off : Nat, (s.dev.ep e).answers = true ∧ off < 0x40000 ∧ off = 0x10) ∧
    (∃ s : State, ∃ e : Nat, ∃ off : Nat, (s.dev.ep e).answers = true ∧ off < 0x40000 ∧ off < 0x20000 ∧ off % 8 = 0 ∧ regAt off =
        some (off, 8) ∧ regAt (off + 4) = some (off, 8) ∧ s.dev.regDenied e off = false ∧ s.dev.regDenied e (off + 4) = false) ∧
    (∃ s : State, ∃ e : Nat, ∃ off : Nat, ∃ v, (s.dev.ep e).answers = true ∧ off < 0x40000 ∧ off < 0x20000 ∧ off % 8 = 4 ∧ regAt off
        = some (off - 4, 8) ∧ s.dev.regDenied e off = false ∧ tget (s.dev.ep e).captures none (off - 4) = some v) :=
  ⟨⟨st dev0, 0, 0x21, 32, by decide +kernel⟩,
   ⟨st { dev0 with plc := { dev0.plc with warden := 1 }, hif := { eps := [(0, ep0)] } }, 0, 0x20000, by decide +kernel⟩,
   ⟨st dev0, 0, _, by decide +kernel, by decide +kernel, by decide +kernel, rfl⟩,
   ⟨st dev0, 0, 0x20000, by decide +kernel⟩,
   ⟨st dev0, 0, _, by decide +kernel, by decide +kernel, rfl⟩,
   ⟨st dev0, 0, 0x20, by decide +kernel⟩,
   ⟨st (withEp { ep0 with captures := [(0x20, some 7)] }), 0, 0x24, 7, by decide +kernel⟩⟩

theorem witness_ActingRegistersActWhenWritten :
    (∃ s : State, ∃ e : Nat, ∃ v : Word, ∃ i : Instr, ∃ dw : Nat, (s.dev.ep e).answers = true ∧ s.dev.isWarden e = false ∧ i ∈
        [Instr.glCmdArbWrite e dw v, .glLrnSweepWrite e v, .planeRestore e v, .cxlRestore e v, .glSpwMapWrite e v,
        .glMrpCfgWrite e v]) ∧
    (∃ s : State, ∃ e : Nat, ∃ dw : Nat, (s.dev.ep e).answers = true ∧ s.dev.isWarden e = true ∧ dw < 2) ∧
    (∃ s : State, ∃ e : Nat, ∃ v : Word, (s.dev.ep e).answers = true ∧ s.dev.isWarden e = true ∧ s.dev.corePowered = true ∧
        s.dev.lrn.sweeping = false ∧ (s.dev.bal.mode = .forwarding ∨ s.dev.bal.mode = .draining) ∧ bits v.toNat 0 12 ≠ 0) ∧
    (∃ s : State, ∃ e : Nat, ∃ v : Word, ∃ k : Nat, (s.dev.ep e).answers = true ∧ s.dev.isWarden e = true ∧ s.dev.corePowered = true
        ∧ k < 4 ∧ v.toNat.testBit (8 + k) = true ∧ (s.dev.plane k).st = .removed) ∧
    (∃ s : State, ∃ e : Nat, ∃ v : Word, ∃ k : Nat, (s.dev.ep e).answers = true ∧ s.dev.isWarden e = true ∧ s.dev.corePowered = true
        ∧ k < 4 ∧ v.toNat.testBit (4 + k) = true ∧ v.toNat.testBit k = true ∧ (s.dev.cxl k).lost = true ∧ (s.dev.cxl
        k).inService = false) ∧
    (∃ s : State, ∃ e : Nat, ∃ v : Word, (s.dev.ep e).answers = true ∧ s.dev.isWarden e = true ∧ s.dev.corePowered = true ∧
        s.dev.bal.mode = .provisioning ∧ (bits v.toNat 0 7 = s.dev.spw.nextMap.ledger ∨ s.dev.mrp.flows = []) ∧ bits v.toNat 0 7
        ≤ 64 ∧ bits v.toNat 8 6 ≤ 32 ∧ bits v.toNat 16 7 ≤ 64 ∧ bits v.toNat 0 7 + bits v.toNat 8 6 + bits v.toNat 16 7 + 8 ≤
        144 ∧ s.dev.longReachNeed ≤ bits v.toNat 16 7) ∧
    (∃ s : State, ∃ e : Nat, ∃ v : Word, (s.dev.ep e).answers = true ∧ s.dev.isWarden e = true ∧ s.dev.corePowered = true ∧
        v.toNat.testBit 31 = false ∧ (s.dev.bal.mode ≠ .provisioning ∨ bits v.toNat 16 7 < s.dev.longReachNeed ∨ 144 < bits
        v.toNat 0 7 + bits v.toNat 8 6 + bits v.toNat 16 7 + 8)) ∧
    (∃ s : State, ∃ e : Nat, ∃ v : Word, (s.dev.ep e).answers = true ∧ s.dev.isWarden e = true ∧ s.dev.corePowered = true ∧ bits
        v.toNat 0 16 ≤ 59999 ∧ 1 ≤ bits v.toNat 16 10 ∧ bits v.toNat 16 10 ≤ 1000) ∧
    (∃ s : State, ∃ e : Nat, ∃ v : Word, ∃ cause, (s.dev.ep e).answers = true ∧ cause < 576 ∧ v.toNat.testBit 15 = true ∧
        s.dev.causeVec e cause (bits v.toNat 0 9) = true ∧ (s.dev.ep e).gather = [] ∧ (s.dev.ep e).alarmOwed = false) ∧
    (∃ s : State, ∃ e : Nat, ∃ v : Word, ∃ cause, (s.dev.ep e).answers = true ∧ cause < 576 ∧ v.toNat.testBit 15 = true ∧
        s.dev.causeVec e cause (bits v.toNat 0 9) = false ∧ s.dev.vecOwned e (bits v.toNat 0 9) = false) ∧
    (∃ s : State, ∃ e : Nat, ∃ v : Word, (s.dev.ep e).answers = true ∧ (s.dev.ep e).up = true ∧ (s.dev.ep e).gauge.enable = false ∧
        v.toNat.testBit 16 = true ∧ 6 ≤ bits v.toNat 0 5 ∧ bits v.toNat 0 5 ≤ 16) ∧
    (∃ s : State, ∃ e : Nat, ∃ v : Word, ∃ p, (s.dev.ep e).answers = true ∧ p < 8 ∧ s.dev.owns e p = true ∧ (v - (s.dev.mrpRing
        p).prod = 0 ∨ 2 ^ 31 ≤ (v - (s.dev.mrpRing p).prod).toNat)) :=
  ⟨⟨st { dev0 with plc := { dev0.plc with warden := 1 } }, 0, 5, .planeRestore 0 5, 0, by decide +kernel⟩,
   ⟨st dev0, 0, 0, by decide +kernel⟩,
   ⟨st fwd, 0, 5, by decide +kernel⟩,
   ⟨st { dev0 with swc := { planes := [(0, { st := .removed })] } }, 0, 0x100, 0, by decide +kernel⟩,
   ⟨st { dev0 with spw := { cxl := [(0, { lost := true })] } }, 0, 0x11, 0, by decide +kernel⟩,
   ⟨st dev0, 0, 0x080810, by decide +kernel⟩,
   ⟨st fwd, 0, 0, by decide +kernel⟩,
   ⟨st dev0, 0, 0x10000, by decide +kernel⟩,
   ⟨st dev0, 0, 0x8000, 0, by decide +kernel⟩,
   ⟨st { dev0 with plc := { dev0.plc with polders := [] } }, 0, 0x8000, 0, by decide +kernel⟩,
   ⟨st dev0, 0, 0x10006, by decide +kernel⟩,
   ⟨st dev0, 0, 0, 0, by decide +kernel⟩⟩

theorem witness_FramesEnterAndAreStored :
    (∃ s : State, ∃ pipe : Nat, ∃ port : Nat, ∃ bytes : List Byte, pipe < 16 ∧ s.dev.takesPackets = true ∧ s.dev.asking = [] ∧
        (s.dev.pipe pipe).asleep = true ∧ (s.dev.pipe pipe).parseStopped = false ∧ (s.dev.pipe pipe).actionStopped = false ∧
        port / 32 = pipe ∧ s.dev.isPort port = true ∧ (s.dev.port port).st = .up ∧ s.dev.loopKind port = 0 ∧ isMacControl bytes
        = false ∧ (s.dev.wakesInTime pipe || decide ((s.dev.port port).skidBytes + bytes.length + 4 ≤ (s.dev.port port).lanes *
        8192)) = true) ∧
    (∃ s : State, ∃ pipe : Nat, ∃ port : Nat, ∃ bytes : List Byte, pipe < 16 ∧ s.dev.takesPackets = true ∧ s.dev.asking = [] ∧
        (s.dev.pipe pipe).asleep = true ∧ (s.dev.pipe pipe).parseStopped = false ∧ (s.dev.pipe pipe).actionStopped = false ∧
        port / 32 = pipe ∧ s.dev.isPort port = true ∧ (s.dev.port port).st = .up ∧ s.dev.loopKind port = 0 ∧ isMacControl bytes
        = false ∧ (s.dev.wakesInTime pipe || decide ((s.dev.port port).skidBytes + bytes.length + 4 ≤ (s.dev.port port).lanes *
        8192)) = false) ∧
    (∃ s : State, ∃ pipe : Nat, ∃ i : Nat, ∃ port : Nat, ∃ bytes : List Byte, ∃ rest : List (List Byte), pipe < 16 ∧
        s.dev.takesPackets = true ∧ s.dev.parserUp pipe = true ∧ s.dev.asking = [] ∧ s.dev.parseTurn pipe = some i ∧ port =
        (pipePorts pipe).getD i 0 ∧ port < 512 ∧ (s.dev.port port).skid = bytes :: rest ∧ bytes.length < 60) ∧
    (∃ s : State, ∃ pid : Nat, ∃ x, ∃ p : Nat, s.dev.pkt? pid = some x ∧ x.whole = false ∧ x.mirror = false ∧ x.ingress = .wire p ∧
        s.dev.tooLong x = false) ∧
    (∃ s : State, ∃ pid : Nat, ∃ x, s.dev.pkt? pid = some x ∧ x.whole = false ∧ x.mirror = false ∧ s.dev.tooLong x = true ∧ x.copies
        ≠ 0) ∧
    (∃ s : State, ∃ pid : Nat, ∃ x, ∃ k : Nat, ∃ how : Carried, ∃ cell : Nat, s.dev.swc.reads = [] ∧ s.dev.pkt? pid = some x ∧
        x.writes = true ∧ x.cells[x.written]? = some cell ∧ x.repl = none ∧ (how = Carried.clean ∨ how = .corrected ∨ how =
        .lost) ∧ (((List.range 4).map (fun j => (tget s.dev.swc.spray 0 x.pipe + j) % 4)).filter s.dev.spraySet.contains).head?
        = some k) ∧
    (∃ s : State, ∃ x : Cross, ∃ k : Nat, s.dev.swc.reads = [x] ∧ x.mc = false ∧ (((List.range 4).map (fun j => (tget
        s.dev.swc.spray 0 (16 + x.dst) + j) % 4)).filter s.dev.spraySet.contains).head? = some k) ∧
    (∃ s : State, ∃ cell : Nat, ∃ x : Cross, ∃ y : Pkt, s.dev.swc.toBank.find? (fun z => decide (z.cell = cell)) = some x ∧
        (s.dev.cell cell).held = true ∧ s.dev.pkt? x.pid = some y ∧ cell ∈ y.cells) ∧
    (∃ s : State, ∃ pid : Nat, ∃ x : Pkt, s.dev.pkt? pid = some x ∧ x.waiting ≠ [] ∧ x.written = x.need ∧ (x.cells.all (fun c =>
        (s.dev.cell c).confirmed)) = false) :=
  ⟨⟨st (port0 .up { fwd with pipes := [] }), 0, 0, frame0, by decide +kernel⟩,
   ⟨st
     { port0 .up { fwd with pipes := [] } with pte := { (port0 .up { fwd with pipes := [] }).pte with ports := [(0, { p0 with skid := [List.replicate 65500 0] })] } },
     0, 0, frame0, by decide +kernel⟩,
   ⟨st { port0 .up fwd with pte := { (port0 .up fwd).pte with ports := [(0, { p0 with skid := [[0]] })] } }, 0, 0, _, ([0] : List
     Byte), ([] : List (List Byte)), by decide +kernel, by decide +kernel, by decide +kernel, by decide +kernel,
     by decide +kernel, rfl, by decide +kernel⟩,
   ⟨st (port0 .up (queued 0 { pkt0 with whole := false } { pid := 0 } fwd)), 0, ({ pkt0 with whole := false } : Pkt), 0,
     by decide +kernel⟩,
   ⟨st (port0 .up (queued 0 { pkt0 with whole := false, bytes := List.replicate 9300 0 } { pid := 0 } fwd)), 0,
     ({ pkt0 with whole := false, bytes := List.replicate 9300 0 } : Pkt), by decide +kernel⟩,
   ⟨st (cell0 { held := true, ref := 1 } (queued 0 { pkt0 with cells := [0], whole := true } { pid := 0 } fwd)), 0,
     ({ pkt0 with cells := [0], whole := true } : Pkt), 0, .clean, 0, by decide +kernel⟩,
   ⟨st
     { cell0 { held := true, ref := 1 } (queued 0 { pkt0 with cells := [0], whole := true } { pid := 0 } fwd) with swc := { reads := [({ pid := 0, cell := 0, no := 0, sop := true, eop := true, seq := 0, src := 0, dst := 0, stream := 0, plane := 0, mc := false } : Cross)] } },
     ({ pid := 0, cell := 0, no := 0, sop := true, eop := true, seq := 0, src := 0, dst := 0, stream := 0, plane := 0, mc := false }
     : Cross), 0, by decide +kernel⟩,
   ⟨st
     { cell0 { held := true, ref := 1 } (queued 0 { pkt0 with cells := [0], whole := true } { pid := 0 } fwd) with swc := { toBank := [({ pid := 0, cell := 0, no := 0, sop := true, eop := true, seq := 0, src := 0, dst := 0, stream := 0, plane := 0, mc := false } : Cross)] } },
     0,
     ({ pid := 0, cell := 0, no := 0, sop := true, eop := true, seq := 0, src := 0, dst := 0, stream := 0, plane := 0, mc := false }
     : Cross), ({ pkt0 with cells := [0], whole := true } : Pkt), by decide +kernel⟩,
   ⟨st (cell0 { held := true, ref := 1 } (queued 0 { pkt0 with cells := [0], written := 1, waiting := [.uni 0 0] } { pid := 0 }
     fwd)), 0, { pkt0 with cells := [0], written := 1, waiting := [.uni 0 0] }, by decide +kernel⟩⟩

theorem witness_CellsCrossThePlanes :
    (∃ s : State, ∃ k : Nat, ∃ x, s.dev.swc.flight[k]? = some x ∧ x.mc = false ∧ x.poison = false ∧ (s.dev.stream x.dst
        x.stream).held = [] ∧ x.seq = (s.dev.stream x.dst x.stream).next) ∧
    (∃ s : State, ∃ k : Nat, ∃ x, ∃ j : Nat, ∃ y : Cross, ∃ i : Nat, ∃ z : Cross, s.dev.swc.flight[k]? = some x ∧ s.dev.dueCell k x
        = j ∧ s.dev.swc.flight[j]? = some y ∧ y.plane < 4 ∧ x.mc = true ∧ s.dev.swc.flight[i]? = some z ∧ z.mc = true ∧ z.src =
        x.src ∧ z.dst = x.dst) ∧
    (∃ s : State, ∃ q : Nat, ∃ n : Nat, ∃ t0 : Nat, ∃ x, q < 16 ∧ (s.dev.stream q n).gapAt = some t0 ∧ (s.dev.stream q n).held =
        [x]) ∧
    (∃ s : State, ∃ k : Nat, ∃ pipe : Nat, ∃ cause : Nat, k < 4 ∧ (s.dev.plane k).st = .active ∧ (cause = 1 → (s.dev.plane
        k).fourBad pipe = true) ∧ cause = 0) ∧
    (∃ s : State, ∃ k : Nat, ∃ pipe : Nat, ∃ cause : Nat, ∃ j : Nat, k < 4 ∧ (s.dev.plane k).st = .active ∧ (cause = 1 →
        (s.dev.plane k).fourBad pipe = true) ∧ j ≠ k) ∧
    (∃ s : State, ∃ k : Nat, ∃ p, (s.dev.plane k).st = .failed ∧ p < 16 ∧ s.dev.mcPlane p = k ∧ s.dev.spraySet ≠ []) ∧
    (∃ s : State, ∃ k : Nat, (s.dev.plane k).st = .removed ∧ (s.dev.plane k).checked = false) ∧
    (∃ s : State, ∃ k : Nat, k < 4 ∧ (s.dev.plane k).st = .testing) ∧
    (∃ s : State, ∃ port : Nat, ∃ m : Nat, ∃ ent : Ent, ∃ rest : List Ent, ∃ x : Pkt, port < 512 ∧ ((s.dev.fcp port).paused (16 + m)
        = true ∨ (s.dev.port port).st = .holdRunning) ∧ (s.dev.queue (Dest.mc port m).key).ents = ent :: rest ∧ s.dev.pkt?
        ent.pid = some x ∧ (∀ b ∈ s.dev.mcQueued (.mc port m), x.holdDue ≤ ((s.dev.pkt? b.1).map Pkt.holdDue).getD 0)) :=
  ⟨⟨st
     { queued 0 with swc := { flight := [({ pid := 0, cell := 0, no := 0, sop := true, eop := true, seq := 0, src := 0, dst := 0, stream := 0, plane := 0, mc := false } : Cross)] } },
     0,
     ({ pid := 0, cell := 0, no := 0, sop := true, eop := true, seq := 0, src := 0, dst := 0, stream := 0, plane := 0, mc := false }
     : Cross), by decide +kernel⟩,
   ⟨st
     { queued 0 with swc := { flight := [({ pid := 0, cell := 0, no := 0, sop := true, eop := true, seq := 0, src := 0, dst := 0, stream := 0, plane := 0, mc := true } : Cross)] } },
     0,
     ({ pid := 0, cell := 0, no := 0, sop := true, eop := true, seq := 0, src := 0, dst := 0, stream := 0, plane := 0, mc := true }
     : Cross), 0,
     ({ pid := 0, cell := 0, no := 0, sop := true, eop := true, seq := 0, src := 0, dst := 0, stream := 0, plane := 0, mc := true }
     : Cross), 0,
     ({ pid := 0, cell := 0, no := 0, sop := true, eop := true, seq := 0, src := 0, dst := 0, stream := 0, plane := 0, mc := true }
     : Cross), by decide +kernel⟩,
   ⟨st
     { dev0 with swc := { streams := [(0, { gapAt := some 0, held := [({ pid := 0, cell := 0, no := 0, sop := true, eop := true, seq := 0, src := 0, dst := 0, stream := 0, plane := 0, mc := false } : Cross)] })] } },
     0, 0, 0,
     ({ pid := 0, cell := 0, no := 0, sop := true, eop := true, seq := 0, src := 0, dst := 0, stream := 0, plane := 0, mc := false }
     : Cross), by decide +kernel⟩,
   ⟨st dev0, 0, 0, _, by decide +kernel, by decide +kernel, by decide +kernel, rfl⟩,
   ⟨st dev0, 0, 0, 0, 1, by decide +kernel⟩,
   ⟨st { dev0 with swc := { planes := [(0, { st := .failed })], mcOn := [(0, some 0)] } }, 0, 0, by decide +kernel⟩,
   ⟨st { dev0 with swc := { planes := [(0, { st := .removed })] } }, 0, by decide +kernel⟩,
   ⟨st { dev0 with swc := { planes := [(0, { st := .testing })] } }, 0, by decide +kernel⟩,
   ⟨st { queued 8192 with pte := { ports := [(0, { p0 with st := .holdRunning })] } }, 0, 0, ({ pid := 0 } : Ent), ([] : List Ent),
     pkt0, by decide +kernel⟩⟩

theorem witness_PortsSendChosenFrames :
    (∃ s : State, ∃ p : Nat, ∃ pipe : Nat, ∃ i : Nat, ∃ q : Nat, ∃ sch : Sched, ∃ e : Ent, ∃ x : Pkt, ∃ bytes : List Byte, pipe < 16
        ∧ s.dev.takesPackets = true ∧ (s.dev.pipe pipe).actionStopped = false ∧ (s.dev.pipe pipe).asleep = false ∧ i = (tget
        s.dev.dp.rrPort ((pipePorts pipe).length - 1) pipe + 1) % (pipePorts pipe).length ∧ p = (pipePorts pipe).getD i 0 ∧ p <
        512 ∧ s.dev.portOpen p = true ∧ (s.dev.frontReady p).choose p = some (q, sch) ∧ (s.dev.frontReady p).head? (portKey p q)
        = some (e, x) ∧ e.part ≠ .ret ∧ e.ct = false ∧ (((s.dev.frontReady p).takeHead p q sch e x).2.rewriteCopy e x (destOf
        (portKey p q)) {}).1 = .frame bytes none ∧ bytes.length + 4 ≤ ((((s.dev.frontReady p).takeHead p q sch e
        x).2.rewriteCopy e x (destOf (portKey p q)) {}).2.port p).maxFrame) ∧
    (∃ s : State, ∃ p : Nat, ∃ i : Nat, ∃ y : Tx, s.dev.owedAt p = [] ∧ (s.dev.txs p).findIdx? Tx.due = some i ∧ (s.dev.txs p)[i]? =
        some y ∧ s.dev.isPort p = true) ∧
    (∃ s : State, ∃ p : Nat, ∃ y : Tx, (s.dev.owedAt p).find? Tx.due = some y) ∧
    (∃ s : State, ∃ p : Nat, ∃ y : Tx, ∃ rest : List Tx, ∃ x : Pkt, ∃ a : Nat, ∃ b : Nat, p < 528 ∧ s.dev.txs p = y :: rest ∧
        s.dev.pkt? y.ent.pid = some x ∧ y.need ≤ y.got ∧ x.need ≤ y.got ∧ (x.whole = true ∨ y.stomp = true) ∧ y.dest = .uni a b
        ∧ s.dev.loopKind p = 0) ∧
    (∃ s : State, ∃ p : Nat, ∃ y : Tx, ∃ rest : List Tx, ∃ x : Pkt, ∃ a : Nat, ∃ b : Nat, p < 528 ∧ s.dev.txs p = y :: rest ∧
        s.dev.pkt? y.ent.pid = some x ∧ y.got < y.need ∧ y.got < x.need ∧ y.dest = .uni a b ∧ s.dev.loopKind p = 0) :=
  ⟨⟨st sender, _, 0, _, 0, ((((sender.frontReady 0).choose 0).getD (0, {})).2), (((sender.frontReady 0).head? 0).getD
     ({ pid := 0 }, pkt0)).1, (((sender.frontReady 0).head? 0).getD ({ pid := 0 }, pkt0)).2, pkt0.bytes, by decide +kernel,
     by decide +kernel, by decide +kernel, by decide +kernel, rfl, rfl, by decide +kernel⟩,
   ⟨st
     { port0 .up (queued 0 (pkt0) { pid := 0 } fwd) with dp := { (port0 .up (queued 0 (pkt0) { pid := 0 } fwd)).dp with tx := [(0, [({ ent := { pid := 0 }, dest := .uni 0 0, bytes := frame0, need := 1, got := 1, enqLen := 60, eop := true } : Tx)])] } },
     0, 0, ({ ent := { pid := 0 }, dest := .uni 0 0, bytes := frame0, need := 1, got := 1, enqLen := 60, eop := true } : Tx),
     by decide +kernel⟩,
   ⟨st
     { port0 .up (queued 0 (pkt0) { pid := 0 } fwd) with dp := { (port0 .up (queued 0 (pkt0) { pid := 0 } fwd)).dp with owed := [(0, [({ ent := { pid := 0 }, dest := .uni 0 0, bytes := frame0, need := 1, got := 1, enqLen := 60, eop := true } : Tx)])] } },
     0, ({ ent := { pid := 0 }, dest := .uni 0 0, bytes := frame0, need := 1, got := 1, enqLen := 60, eop := true } : Tx),
     by decide +kernel⟩,
   ⟨st
     { port0 .up (queued 0 (pkt0) { pid := 0 } fwd) with dp := { (port0 .up (queued 0 (pkt0) { pid := 0 } fwd)).dp with tx := [(0, [({ ent := { pid := 0 }, dest := .uni 0 0, bytes := frame0, need := 1, got := 1, enqLen := 60 } : Tx)])] } },
     0, ({ ent := { pid := 0 }, dest := .uni 0 0, bytes := frame0, need := 1, got := 1, enqLen := 60 } : Tx), ([] : List Tx),
     pkt0, 0, 0, by decide +kernel⟩,
   ⟨st
     { port0 .up (queued 0 (pkt0) { pid := 0 } fwd) with dp := { (port0 .up (queued 0 (pkt0) { pid := 0 } fwd)).dp with tx := [(0, [({ ent := { pid := 0 }, dest := .uni 0 0, bytes := frame0, need := 1, got := 0, enqLen := 60 } : Tx)])] } },
     0, ({ ent := { pid := 0 }, dest := .uni 0 0, bytes := frame0, need := 1, got := 0, enqLen := 60 } : Tx), ([] : List Tx),
     pkt0, 0, 0, by decide +kernel⟩⟩

theorem witness_BufferCellsAreReleasedOnce :
    (∃ s : State, ∃ cell : Nat, ∃ acct : Nat, (s.dev.cell cell).held = true ∧ (s.dev.cell cell).owner = acct) ∧
    (∃ s : State, ∃ cell : Nat, ∃ acct : Nat, (s.dev.cell cell).held = true ∧ (s.dev.cell cell).owner = acct ∧ (s.dev.cell cell).ref
        ≤ 1 ∧ s.dev.bpm.condemned.contains cell = false ∧ (s.dev.flist (listOf cell)).retCache.length < 256) ∧
    (∃ s : State, ∃ cell : Nat, ∃ acct : Nat, (s.dev.cell cell).held = true ∧ (s.dev.cell cell).owner = acct ∧ (s.dev.cell cell).ref
        ≤ 1 ∧ s.dev.bpm.condemned.contains cell = false ∧ (s.dev.flist (listOf cell)).retCache.length = 256) ∧
    (∃ s : State, ∃ cell : Nat, ∃ acct : Nat, (s.dev.cell cell).held = true ∧ (s.dev.cell cell).owner = acct ∧ (s.dev.cell cell).ref
        ≤ 1 ∧ s.dev.bpm.condemned.contains cell = true) ∧
    (∃ s : State, ∃ cell : Nat, ∃ acct : Nat, (s.dev.cell cell).held = true ∧ (s.dev.cell cell).owner = acct ∧ 2 ≤ (s.dev.cell
        cell).ref) ∧
    (∃ s : State, ∃ cell : Nat, (s.dev.cell cell).held = false) ∧
    (∃ s : State, ∃ cell : Nat, ∃ acct : Nat, (s.dev.cell cell).held = true ∧ (s.dev.cell cell).owner ≠ acct) ∧
    (∃ s : State, ∃ list : Nat, ∃ check : Ecc, list < 16 ∧ (s.dev.flist list).rebuilding = false ∧ (check = Ecc.clean ∨ check =
        .corrected) ∧ (s.dev.flist list).headCache.length < 32 ∧ (s.dev.flist list).retCache.length ≤ 192 ∧ (s.dev.flist
        list).chain ≠ 0) ∧
    (∃ s : State, ∃ list : Nat, ∃ check : Ecc, list < 16 ∧ (s.dev.flist list).rebuilding = false ∧ (check = Ecc.clean ∨ check =
        .corrected) ∧ 32 ≤ (s.dev.flist list).headCache.length ∧ 192 < (s.dev.flist list).retCache.length) ∧
    (∃ s : State, ∃ list : Nat, ∃ check : Ecc, list < 16 ∧ (s.dev.flist list).rebuilding = false ∧ (check = Ecc.once ∨ check =
        .lasting)) ∧
    (∃ s : State, ∃ list : Nat, (s.dev.flist list).rebuilding = true) ∧
    (∃ s : State, ∃ acct : Nat, ∃ c, (s.dev.acct acct).rebuilding = true ∧ c < 8) :=
  ⟨⟨st { dev0 with bpm := { cells := [(0, { held := true, ref := 1 })] } }, 0, 0, by decide +kernel⟩,
   ⟨st { dev0 with bpm := { cells := [(0, { held := true, ref := 1 })] } }, 0, 0, by decide +kernel⟩,
   ⟨st { dev0 with bpm := { cells := [(0, { held := true, ref := 1 })], lists := [(0, { retCache := List.replicate 256 16 })] } },
     0, 0, by decide +kernel⟩,
   ⟨st { dev0 with bpm := { cells := [(0, { held := true, ref := 1 })], condemned := [0] } }, 0, 0, by decide +kernel⟩,
   ⟨st { dev0 with bpm := { cells := [(0, { held := true, ref := 2 })] } }, 0, 0, by decide +kernel⟩,
   ⟨st { dev0 with bpm := { cells := [(0, { ref := 0 })] } }, 0, by decide +kernel⟩,
   ⟨st { dev0 with bpm := { cells := [(0, { held := true, ref := 1 })] } }, 0, 1, by decide +kernel⟩,
   ⟨st { dev0 with bpm := { lists := [(0, { chain := 65536 })] } }, 0, .clean, by decide +kernel⟩,
   ⟨st { dev0 with bpm := { lists := [(0, { headCache := List.replicate 32 0, retCache := List.replicate 193 16 })] } }, 0, .clean,
     by decide +kernel⟩,
   ⟨st { dev0 with bpm := { lists := [(0, { headCache := List.replicate 32 0, retCache := List.replicate 193 16 })] } }, 0, .once,
     by decide +kernel⟩,
   ⟨st { dev0 with bpm := { lists := [(0, { rebuilding := true })] } }, 0, by decide +kernel⟩,
   ⟨st { dev0 with bpm := { accts := [(0, { rebuilding := true })] } }, 0, 0, by decide +kernel⟩⟩

theorem witness_BufferCellsAreReleasedOnce_2 :
    (∃ s : State, ∃ check : Ecc, (check = Ecc.clean ∨ check = .corrected) ∧ (s.dev.cell s.dev.bpm.sweepPos).held = true ∧
        (s.dev.cell s.dev.bpm.sweepPos).confirmed = true) ∧
    (∃ s : State, ∃ check : Ecc, (check = Ecc.clean ∨ check = .corrected) ∧ (s.dev.cell s.dev.bpm.sweepPos).held = true ∧
        (s.dev.cell s.dev.bpm.sweepPos).confirmed = false ∧ (s.dev.cell s.dev.bpm.sweepPos).mark = false) ∧
    (∃ s : State, ∃ check : Ecc, (check = Ecc.clean ∨ check = .corrected) ∧ (s.dev.cell s.dev.bpm.sweepPos).held = true ∧
        (s.dev.cell s.dev.bpm.sweepPos).confirmed = false ∧ (s.dev.cell s.dev.bpm.sweepPos).mark = true) ∧
    (∃ check : Ecc, (check = Ecc.once ∨ check = .lasting)) :=
  ⟨⟨st { dev0 with bpm := { cells := [(0, { held := true, ref := 1, confirmed := true })] } }, .clean, by decide +kernel⟩,
   ⟨st { dev0 with bpm := { cells := [(0, { held := true, ref := 1 })] } }, .clean, by decide +kernel⟩,
   ⟨st { dev0 with bpm := { cells := [(0, { held := true, ref := 1, mark := true })] } }, .clean, by decide +kernel⟩,
   ⟨.once, by decide +kernel⟩⟩

theorem witness_BufferCommandsComplete :
    (∃ s : State, ∃ c : CmdRef, ∃ x : Cmd, ∃ a : Nat, s.dev.isRunning c x ∧ isOpAct 0x60 (18, 0, 2) 0 x = true ∧ a = x.fld 16 0 10 ∧
        (a < 512 → s.dev.isPort a = true) ∧ (∀ p, a < 512 → s.dev.lanePolder a = some p → s.dev.polderReserved p + x.fld 20 0 21
        ≤ (s.dev.polder p).cellMin + (s.dev.acct a).min) ∧ (512 ≤ a → s.dev.internalMin + s.dev.cellMins + x.fld 20 0 21 ≤
        1048576 + (s.dev.acct a).min)) ∧
    (∃ s : State, ∃ c : CmdRef, ∃ x : Cmd, ∃ a : Nat, ∃ p : Nat, s.dev.isRunning c x ∧ isOpAct 0x60 (18, 0, 2) 0 x = true ∧ a =
        x.fld 16 0 10 ∧ (a < 512 → s.dev.isPort a = true) ∧ a < 512 ∧ s.dev.lanePolder a = some p ∧ (s.dev.polder p).cellMin +
        (s.dev.acct a).min < s.dev.polderReserved p + x.fld 20 0 21) ∧
    (∃ s : State, ∃ c : CmdRef, ∃ x : Cmd, ∃ a : Nat, s.dev.isRunning c x ∧ isOpAct 0x60 (18, 0, 2) 1 x = true ∧ a = x.fld 16 0 10 ∧
        (512 ≤ a ∨ s.dev.isPort a = true)) ∧
    (∃ s : State, ∃ c : CmdRef, ∃ x : Cmd, ∃ y : Cell, s.dev.isRunning c x ∧ isOpAct 0x60 (18, 0, 2) 2 x = true ∧ y = s.dev.cell
        (x.fld 36 0 20) ∧ y.held = true ∧ y.owner = x.fld 16 0 10 ∧ 1 ≤ y.ref) ∧
    (∃ s : State, ∃ c : CmdRef, ∃ x : Cmd, ∃ y : Cell, s.dev.isRunning c x ∧ isOpAct 0x60 (18, 0, 2) 2 x = true ∧ y = s.dev.cell
        (x.fld 36 0 20) ∧ y.held = false) ∧
    (∃ s : State, ∃ c : CmdRef, ∃ x : Cmd, ∃ y : Cell, s.dev.isRunning c x ∧ isOpAct 0x60 (18, 0, 2) 2 x = true ∧ y = s.dev.cell
        (x.fld 36 0 20) ∧ y.held = true ∧ y.owner ≠ x.fld 16 0 10) ∧
    (∃ s : State, ∃ c : CmdRef, ∃ x : Cmd, ∃ k : Nat, s.dev.isRunning c x ∧ isOp 0x61 x = true ∧ s.dev.isPort (x.fld 16 0 10) = true
        ∧ (x.fld 20 0 16 < 2048 → ∀ k, (s.dev.lrq (x.fld 16 0 10) k).mib = 0) ∧ (∀ q, s.dev.lanePolder (x.fld 16 0 10) = some q
        → s.dev.polderReserved q + (setBits (x.fld 18 0 8) 8).length * x.fld 20 0 16 ≤ (s.dev.polder q).cellMin + (setBits
        (x.fld 18 0 8) 8).foldl (fun n k => n + (s.dev.acct (x.fld 16 0 10)).hr.getD k 0) 0) ∧ (s.dev.acct (x.fld 16 0
        10)).hrGoal.length = 8 ∧ k < 8 ∧ (x.fld 18 0 8).testBit k = true) ∧
    (∃ s : State, ∃ c : CmdRef, ∃ x : Cmd, ∃ p : Nat, s.dev.isRunning c x ∧ isOp 0x63 x = true ∧ p = x.fld 16 0 10 ∧ s.dev.isPort p
        = true) ∧
    (∃ s : State, ∃ c : CmdRef, ∃ x : Cmd, s.dev.isRunning c x ∧ x.fld 16 0 10 < 512 ∧ s.dev.isPort (x.fld 16 0 10) = false ∧
        isOpAct 0x60 (18, 0, 2) 0 x = true) ∧
    (∃ s : State, ∃ c : CmdRef, ∃ x : Cmd, s.dev.isRunning c x ∧ x.fld 16 0 10 < 512 ∧ s.dev.isPort (x.fld 16 0 10) = false ∧
        isOpAct 0x60 (18, 0, 2) 1 x = true) ∧
    (∃ s : State, ∃ c : CmdRef, ∃ x : Cmd, s.dev.isRunning c x ∧ x.fld 16 0 10 < 512 ∧ s.dev.isPort (x.fld 16 0 10) = false ∧ isOp
        0x61 x = true) ∧
    (∃ s : State, ∃ c : CmdRef, ∃ x : Cmd, s.dev.isRunning c x ∧ x.fld 16 0 10 < 512 ∧ s.dev.isPort (x.fld 16 0 10) = false ∧ isOp
        0x63 x = true) :=
  ⟨⟨run (cmd 0x60) (port0 .up), c0, cmd 0x60, _, isRunning_intro (by decide +kernel), by decide +kernel, rfl, by decide +kernel,
     fun p _ h => by
        obtain rfl := Option.some.inj (h.symm.trans (show _ = some 0 by decide +kernel)); decide +kernel,
     by decide +kernel⟩,
   ⟨run (cmd 0x60 [(20, 0, 21, 1000000)]) (port0 .up), c0, cmd 0x60 [(20, 0, 21, 1000000)], _, 0, isRunning_intro
     (by decide +kernel), by decide +kernel, rfl, by decide +kernel⟩,
   ⟨run (cmd 0x60 [(18, 0, 2, 1)]) (port0 .up), c0, cmd 0x60 [(18, 0, 2, 1)], _, isRunning_intro (by decide +kernel),
     by decide +kernel, rfl, by decide +kernel⟩,
   ⟨run (cmd 0x60 [(18, 0, 2, 2)]) (cell0), c0, cmd 0x60 [(18, 0, 2, 2)], _, isRunning_intro (by decide +kernel),
     by decide +kernel, rfl, by decide +kernel⟩,
   ⟨run (cmd 0x60 [(18, 0, 2, 2)]), c0, cmd 0x60 [(18, 0, 2, 2)], _, isRunning_intro (by decide +kernel), by decide +kernel, rfl,
     by decide +kernel⟩,
   ⟨run (cmd 0x60 [(18, 0, 2, 2), (16, 0, 10, 1)]) (cell0), c0, cmd 0x60 [(18, 0, 2, 2), (16, 0, 10, 1)], _, isRunning_intro
     (by decide +kernel), by decide +kernel, rfl, by decide +kernel⟩,
   ⟨run (cmd 0x61 [(18, 0, 8, 1), (20, 0, 16, 2048)])
     ({ port0 .up with plc := { polders := [(0, { wholePolder with cellMin := 1000000 })] } }), c0, cmd 0x61 [(18, 0, 8, 1),
     (20, 0, 16, 2048)], 0, isRunning_intro (by decide +kernel), by decide +kernel, by decide +kernel, fun h => absurd h
     (by decide +kernel), by decide +kernel⟩,
   ⟨run (cmd 0x63) (port0 .up), c0, cmd 0x63, _, isRunning_intro (by decide +kernel), by decide +kernel, rfl, by decide +kernel⟩,
   ⟨run (cmd 0x60 [(16, 0, 10, 9)]), c0, cmd 0x60 [(16, 0, 10, 9)], isRunning_intro (by decide +kernel), by decide +kernel⟩,
   ⟨run (cmd 0x60 [(16, 0, 10, 9), (18, 0, 2, 1)]), c0, cmd 0x60 [(16, 0, 10, 9), (18, 0, 2, 1)], isRunning_intro
     (by decide +kernel), by decide +kernel⟩,
   ⟨run (cmd 0x61 [(16, 0, 10, 9)]), c0, cmd 0x61 [(16, 0, 10, 9)], isRunning_intro (by decide +kernel), by decide +kernel⟩,
   ⟨run (cmd 0x63 [(16, 0, 10, 9)]), c0, cmd 0x63 [(16, 0, 10, 9)], isRunning_intro (by decide +kernel), by decide +kernel⟩⟩

theorem witness_PauseFollowsItsFramesAndTimers :
    (∃ s : State, ∃ p : Nat, ∃ cls : Nat, p < 512 ∧ s.dev.isPort p = true ∧ cls < 8 ∧ (s.dev.fcp p).xoff.testBit cls ≠
        s.dev.wantXoff p cls) ∧
    (∃ s : State, ∃ p : Nat, ∃ cls : Nat, ∃ k : Nat, p < 512 ∧ s.dev.isPort p = true ∧ cls < 8 ∧ k ≠ cls) ∧
    (∃ s : State, ∃ p : Nat, p < 512 ∧ s.dev.isPort p = true ∧ (s.dev.fcp p).owed = true ∧ (s.dev.port p).st = .up ∧ s.dev.loopKind
        p = 0) ∧
    (∃ s : State, ∃ p : Nat, p < 512 ∧ s.dev.isPort p = true ∧ (s.dev.fcp p).sent ≠ 0 ∧ (s.dev.fcp p).xoff ≠ 0 ∧ (s.dev.port p).st =
        .up ∧ s.dev.loopKind p = 0) ∧
    (∃ s : State, ∃ p : Nat, p < 512 ∧ s.dev.isPort p = true ∧ (s.dev.fcp p).pauseMode = true) ∧
    (∃ s : State, ∃ p : Nat, ∃ vector : Nat, ∃ times : List Nat, ∃ k : Nat, p < 512 ∧ s.dev.isPort p = true ∧ (s.dev.fcp
        p).pauseMode = false ∧ k < 8 ∧ vector.testBit k = true ∧ (s.dev.fcp p).ignored k = false ∧ quantaTicks (times.getD k 0)
        (s.dev.macRate p) ≠ 0) ∧
    (∃ s : State, ∃ p : Nat, ∃ time : Nat, p < 512 ∧ s.dev.isPort p = true ∧ (s.dev.fcp p).pauseMode = true ∧ (s.dev.fcp p).ignored
        8 = false ∧ quantaTicks time (s.dev.macRate p) ≠ 0) ∧
    (∃ s : State, ∃ p : Nat, p < 512 ∧ s.dev.isPort p = true ∧ (s.dev.fcp p).pauseMode = false) ∧
    (∃ s : State, ∃ p : Nat, ∃ opcode : Nat, p < 512 ∧ s.dev.isPort p = true ∧ opcode ≠ 0x0101 ∧ opcode ≠ 0x0001) ∧
    (∃ s : State, ∃ p : Nat, ∃ cls : Nat, ∃ u : Nat × Nat, p < 512 ∧ (s.dev.fcp p).timers.find? (fun t => decide (t.1 = cls)) = some
        u) ∧
    (∃ s : State, ∃ p : Nat, ∃ q : Nat, ∃ since : Nat, p < 512 ∧ tget (s.dev.fcp p).pausedSince none q = some since ∧ (s.dev.fcp
        p).storm.contains q = false ∧ (s.dev.fcp p).stormBreak = false) ∧
    (∃ s : State, ∃ p : Nat, ∃ q : Nat, ∃ since : Nat, p < 512 ∧ tget (s.dev.fcp p).pausedSince none q = some since ∧ (s.dev.fcp
        p).storm.contains q = false ∧ (s.dev.fcp p).stormBreak = true) :=
  ⟨⟨st { port0 .up with fcps := [(0, { xoff := 128 })] }, 0, 7, by decide +kernel⟩,
   ⟨st { port0 .up with fcps := [(0, { xoff := 128 })] }, 0, 7, 1, by decide +kernel⟩,
   ⟨st { port0 .up with fcps := [(0, { owed := true })] }, 0, by decide +kernel⟩,
   ⟨st { port0 .up with fcps := [(0, { sent := 1, xoff := 1 })] }, 0, by decide +kernel⟩,
   ⟨st { port0 .up with fcps := [(0, { pauseMode := true })] }, 0, by decide +kernel⟩,
   ⟨st (port0 .up), 0, 1, [5], 0, by decide +kernel⟩,
   ⟨st { port0 .up with fcps := [(0, { pauseMode := true })] }, 0, 5, by decide +kernel⟩,
   ⟨st (port0 .up), 0, by decide +kernel⟩,
   ⟨st (port0 .up), 0, 2, by decide +kernel⟩,
   ⟨st { port0 .up with fcps := [(0, { timers := [(0, 9)] })] }, 0, 0, (0, 9), by decide +kernel⟩,
   ⟨st { port0 .up with fcps := [(0, { pausedSince := [(0, some 0)] })] }, 0, 0, 0, by decide +kernel⟩,
   ⟨st { port0 .up with fcps := [(0, { pausedSince := [(0, some 0)], stormBreak := true })] }, 0, 0, 0, by decide +kernel⟩⟩

theorem witness_PauseFollowsItsFramesAndTimers_2 :
    (∃ s : State, ∃ p : Nat, ∃ q : Nat, ∃ b : Nat × Nat, p < 512 ∧ (s.dev.fcp p).breaks.find? (fun b => decide (b.1 = q)) = some b) :=
  ⟨st { port0 .up with fcps := [(0, { breaks := [(0, 9)] })] }, 0, 0, (0, 9), by decide +kernel⟩

theorem witness_LinksFollowTheirStates :
    (∃ s : State, ∃ p : Nat, ∃ cause : Nat, ∃ lane : Nat, ∃ l : Nat, s.dev.isPort p = true ∧ l = (if cause = 4 then p else lane) ∧ l
        ∈ s.dev.lanesOf p ∧ 1 ≤ cause ∧ cause ≤ 6 ∧ (s.dev.port p).debounceUs ≠ 0 ∧ (s.dev.lane l).causes = []) ∧
    (∃ s : State, ∃ p : Nat, ∃ cause : Nat, ∃ lane : Nat, ∃ held : Bool, ∃ l : Nat, ∃ since : Nat, s.dev.isPort p = true ∧ l = (if
        cause = 4 then p else lane) ∧ l ∈ s.dev.lanesOf p ∧ 1 ≤ cause ∧ cause ≤ 6 ∧ (held = true ∨ (s.dev.port p).debounceUs =
        0) ∧ (s.dev.port p).st = .up ∧ (s.dev.lane l).causes.find? (fun x => decide (x.1 = cause)) = some (cause, since)) ∧
    (∃ s : State, ∃ p : Nat, ∃ cause : Nat, ∃ lane : Nat, ∃ held : Bool, ∃ l : Nat, s.dev.isPort p = true ∧ l = (if cause = 4 then p
        else lane) ∧ l ∈ s.dev.lanesOf p ∧ 1 ≤ cause ∧ cause ≤ 6 ∧ (held = true ∨ (s.dev.port p).debounceUs = 0) ∧ (s.dev.port
        p).st = .up ∧ 0 < (s.dev.port p).holdUs) ∧
    (∃ s : State, ∃ p : Nat, ∃ cause : Nat, ∃ lane : Nat, ∃ held : Bool, ∃ l : Nat, ∃ k, s.dev.isPort p = true ∧ l = (if cause = 4
        then p else lane) ∧ l ∈ s.dev.lanesOf p ∧ 1 ≤ cause ∧ cause ≤ 6 ∧ (held = true ∨ (s.dev.port p).debounceUs = 0) ∧
        (s.dev.port p).st = .up ∧ (s.dev.port p).holdUs = 0 ∧ k ∈ portKeys p) ∧
    (∃ s : State, ∃ p : Nat, ∃ cause : Nat, ∃ lane : Nat, ∃ held : Bool, ∃ l : Nat, ∃ q : Nat, s.dev.isPort p = true ∧ l = (if cause
        = 4 then p else lane) ∧ l ∈ s.dev.lanesOf p ∧ 1 ≤ cause ∧ cause ≤ 6 ∧ (held = true ∨ (s.dev.port p).debounceUs = 0) ∧
        (s.dev.port p).st = .up ∧ q ≠ p) ∧
    (∃ s : State, ∃ p : Nat, s.dev.isPort p = true ∧ (s.dev.octal (p / 8)).st = .on ∧ (∀ l ∈ s.dev.lanesOf p, ∀ c ∈ (s.dev.lane
        l).causes, c.1 ≠ 6) ∧ (s.dev.port p).retryAt = none ∧ s.dev.regRuns 2 = true ∧ s.dev.reg.adpStopped.testBit (p / 64) =
        false ∧ s.dev.linkIdle p = false ∧ ((s.dev.port p).st = .training ∨ (s.dev.port p).st = .holdExpired ∨ (s.dev.port p).st
        = .holdRunning)) ∧
    (∃ s : State, ∃ p : Nat, ∃ k, s.dev.isPort p = true ∧ s.dev.regRuns 2 = true ∧ (s.dev.port p).st = .holdRunning ∧ k ∈ portKeys
        p) ∧
    (∃ s : State, ∃ p : Nat, ∃ k, (s.dev.port p).hold = .flushing ∧ (s.dev.port p).flushAs ≠ none ∧ k ∈ portKeys p) ∧
    (∃ s : State, ∃ p : Nat, s.dev.isPort p = true ∧ s.dev.regRuns 2 = true ∧ ((s.dev.port p).st = .holdRunning ∨ (s.dev.port p).st
        = .holdExpired) ∧ (s.dev.port p).iface ≠ 2 ∧ (s.dev.port p).realigned = false ∧ (s.dev.port p).retryAt = none ∧
        (s.dev.octal (p / 8)).st = .on) ∧
    (∃ s : State, ∃ p : Nat, s.dev.isPort p = true ∧ s.dev.regRuns 2 = true ∧ (s.dev.port p).tries = true ∧ (s.dev.port p).iface ≠
        2) ∧
    (∃ s : State, ∃ p : Nat, s.dev.isPort p = true ∧ s.dev.regRuns 2 = true ∧ (s.dev.port p).tries = true ∧ (s.dev.port p).iface =
        2) ∧
    (∃ s : State, ∃ p : Nat, ∃ t0 : Nat, s.dev.isPort p = true ∧ s.dev.regRuns 2 = true ∧ (s.dev.port p).retryAt = some t0 ∧
        (s.dev.octal (p / 8)).st = .on) :=
  ⟨⟨st (portIs { p0 with debounceUs := 10 } dev0), 0, 1, 0, _, by decide +kernel, rfl, by decide +kernel⟩,
   ⟨st { port0 .up with pte := { (port0 .up).pte with lanes := [(0, { causes := [(1, 5)] })] } }, 0, 1, 0, true, _, 5,
     by decide +kernel, rfl, by decide +kernel⟩,
   ⟨st (port0 .up), 0, 1, 0, true, _, by decide +kernel, rfl, by decide +kernel⟩,
   ⟨st (portIs { p0 with holdUs := 0 } dev0), 0, 1, 0, true, _, 0, by decide +kernel, rfl, by decide +kernel⟩,
   ⟨st (portIs { p0 with holdUs := 0 } dev0), 0, 1, 0, true, _, 1, by decide +kernel, rfl, by decide +kernel⟩,
   ⟨st (portIs { p0 with st := .training } fwd), 0, by decide +kernel⟩,
   ⟨st (portIs { p0 with st := .holdRunning } dev0), 0, 0, by decide +kernel⟩,
   ⟨st (portIs { p0 with hold := .flushing, flushAs := some (.linkDown, true) } dev0), 0, 0, by decide +kernel⟩,
   ⟨st (portIs { p0 with st := .holdRunning } dev0), 0, by decide +kernel⟩,
   ⟨st (portIs { p0 with st := .training, realigned := true } dev0), 0, by decide +kernel⟩,
   ⟨st (portIs { p0 with st := .training, realigned := true, iface := 2 } dev0), 0, by decide +kernel⟩,
   ⟨st (portIs { p0 with st := .training, retryAt := some 0 } dev0), 0, 0, by decide +kernel⟩⟩

theorem witness_LinksFollowTheirStates_2 :
    (∃ s : State, ∃ p : Nat, s.dev.isPort p = true ∧ s.dev.regRuns 2 = true ∧ (s.dev.port p).tries = true ∧ (s.dev.port p).anEn =
        true ∧ s.dev.evr.input.length < 1024) ∧
    (∃ s : State, ∃ m : Nat, s.dev.regRuns 2 = true ∧ (s.dev.octal m).st = .calibrating) ∧
    (∃ s : State, ∃ l : Nat, (s.dev.lane l).recheck ≠ []) ∧
    (∃ s : State, ∃ e, e < 8 ∧ s.dev.corePowered = true ∧ s.dev.reg.adpStopped.testBit e = false ∧ tget s.dev.reg.adpSlice 0 e ≠ 1) ∧
    (∃ s : State, ∃ e, e < 8 ∧ s.dev.corePowered = true ∧ s.dev.reg.adpStopped.testBit e = false ∧ tget s.dev.reg.adpSlice 0 e = 1) :=
  ⟨⟨st (portIs { p0 with st := .training, realigned := true, anEn := true } dev0), 0, by decide +kernel⟩,
   ⟨st { dev0 with pte := { macros := [(0, { st := .calibrating })] } }, 0, by decide +kernel⟩,
   ⟨st { dev0 with pte := { lanes := [(0, { recheck := [1] })] } }, 0, by decide +kernel⟩,
   ⟨st dev0, 0, by decide +kernel⟩,
   ⟨st { dev0 with reg := { adpSlice := [(0, 1)] } }, 0, by decide +kernel⟩⟩

theorem witness_PortCommandsAndSleep :
    (∃ s : State, ∃ c : CmdRef, ∃ x : Cmd, ∃ p : Nat, s.dev.isRunning c x ∧ p = x.fld 16 0 10 ∧ isOp 0x90 x = true ∧ (∀ q,
        s.dev.isPort q = true → q / 8 = p / 8 → (q < p + x.fld 18 0 4 ∧ p < q + (s.dev.port q).lanes) ∨ decide (x.fld 18 4 1 =
        1) ≠ (s.dev.octal (p / 8)).rate100 → (s.dev.port q).st = .adminDown)) ∧
    (∃ s : State, ∃ c : CmdRef, ∃ x : Cmd, ∃ p : Nat, ∃ q : Nat, s.dev.isRunning c x ∧ p = x.fld 16 0 10 ∧ isOp 0x90 x = true ∧
        s.dev.isPort q = true ∧ q / 8 = p / 8 ∧ ((q < p + x.fld 18 0 4 ∧ p < q + (s.dev.port q).lanes) ∨ decide (x.fld 18 4 1 =
        1) ≠ (s.dev.octal (p / 8)).rate100) ∧ (s.dev.port q).st ≠ .adminDown) ∧
    (∃ s : State, ∃ c : CmdRef, ∃ x : Cmd, ∃ p : Nat, s.dev.isRunning c x ∧ p = x.fld 16 0 10 ∧ s.dev.isPort p = true ∧ isOpAct 0x91
        (18, 0, 2) 0 x = true) ∧
    (∃ s : State, ∃ c : CmdRef, ∃ x : Cmd, ∃ p : Nat, s.dev.isRunning c x ∧ p = x.fld 16 0 10 ∧ s.dev.isPort p = true ∧ isOpAct 0x91
        (18, 0, 2) 1 x = true ∧ ((s.dev.port p).st ≠ .adminDown ∨ s.dev.lanePolder p = none)) ∧
    (∃ s : State, ∃ c : CmdRef, ∃ x : Cmd, ∃ p : Nat, s.dev.isRunning c x ∧ p = x.fld 16 0 10 ∧ s.dev.isPort p = true ∧ isOpAct 0x91
        (18, 0, 2) 1 x = true ∧ (s.dev.port p).st = .adminDown ∧ s.dev.lanePolder p ≠ none) ∧
    (∃ s : State, ∃ c : CmdRef, ∃ x : Cmd, ∃ p : Nat, ∃ k : Nat, s.dev.isRunning c x ∧ p = x.fld 16 0 10 ∧ s.dev.isPort p = true ∧
        isOpAct 0x91 (18, 0, 2) 2 x = true ∧ (s.dev.port p).st ≠ .adminDown ∧ k ∈ portKeys p) ∧
    (∃ s : State, ∃ c : CmdRef, ∃ x : Cmd, ∃ p : Nat, s.dev.isRunning c x ∧ p = x.fld 16 0 10 ∧ s.dev.isPort p = true ∧ isOpAct 0x91
        (18, 0, 2) 3 x = true ∧ (s.dev.port p).st ≠ .up) ∧
    (∃ s : State, ∃ c : CmdRef, ∃ x : Cmd, ∃ p : Nat, s.dev.isRunning c x ∧ p = x.fld 16 0 10 ∧ s.dev.isPort p = true ∧ isOpAct 0x91
        (18, 0, 2) 3 x = true ∧ (s.dev.port p).st = .up ∧ 0 < (s.dev.port p).holdUs) ∧
    (∃ s : State, ∃ c : CmdRef, ∃ x : Cmd, ∃ p : Nat, s.dev.isRunning c x ∧ p = x.fld 16 0 10 ∧ s.dev.isPort p = true ∧ isOpAct 0x91
        (18, 0, 2) 3 x = true ∧ (s.dev.port p).st = .up ∧ (s.dev.port p).holdUs = 0) ∧
    (∃ s : State, ∃ c : CmdRef, ∃ x : Cmd, ∃ p : Nat, s.dev.isRunning c x ∧ p = x.fld 16 0 10 ∧ s.dev.isPort p = true ∧ isOp 0x92 x
        = true ∧ x.fld 18 1 1 = 0 ∧ x.fld 18 0 1 = 0) ∧
    (∃ s : State, ∃ c : CmdRef, ∃ x : Cmd, ∃ p : Nat, ∃ k : Nat, s.dev.isRunning c x ∧ p = x.fld 16 0 10 ∧ s.dev.isPort p = true ∧
        isOp 0x92 x = true ∧ x.fld 18 1 1 = 0 ∧ x.fld 18 0 1 = 1 ∧ (s.dev.port p).st = .holdRunning ∧ k ∈ portKeys p) ∧
    (∃ s : State, ∃ c : CmdRef, ∃ x : Cmd, ∃ p : Nat, ∃ k : Nat, s.dev.isRunning c x ∧ p = x.fld 16 0 10 ∧ s.dev.isPort p = true ∧
        isOp 0x92 x = true ∧ x.fld 18 1 1 = 0 ∧ x.fld 18 0 1 = 1 ∧ (s.dev.port p).st = .up ∧ (s.dev.port p).back = some
        s.dev.bal.tick ∧ k ∈ portKeys p) :=
  ⟨⟨run (cmd 0x90), c0, cmd 0x90, _, isRunning_intro (by decide +kernel), rfl, by decide +kernel, fun q _ h _ => port_reset_down q
     h⟩,
   ⟨run (cmd 0x90 [(18, 0, 4, 1)]) (port0 .up), c0, cmd 0x90 [(18, 0, 4, 1)], _, 0, isRunning_intro (by decide +kernel), rfl,
     by decide +kernel⟩,
   ⟨run (cmd 0x91) (port0 .up), c0, cmd 0x91, _, isRunning_intro (by decide +kernel), rfl, by decide +kernel⟩,
   ⟨run (cmd 0x91 [(18, 0, 2, 1)]) (port0 .up), c0, cmd 0x91 [(18, 0, 2, 1)], _, isRunning_intro (by decide +kernel), rfl,
     by decide +kernel⟩,
   ⟨run (cmd 0x91 [(18, 0, 2, 1)]) (port0 .adminDown), c0, cmd 0x91 [(18, 0, 2, 1)], _, isRunning_intro (by decide +kernel), rfl,
     by decide +kernel⟩,
   ⟨run (cmd 0x91 [(18, 0, 2, 2)]) (port0 .up), c0, cmd 0x91 [(18, 0, 2, 2)], _, 0, isRunning_intro (by decide +kernel), rfl,
     by decide +kernel⟩,
   ⟨run (cmd 0x91 [(18, 0, 2, 3)]) (port0 .training), c0, cmd 0x91 [(18, 0, 2, 3)], _, isRunning_intro (by decide +kernel), rfl,
     by decide +kernel⟩,
   ⟨run (cmd 0x91 [(18, 0, 2, 3)]) (port0 .up), c0, cmd 0x91 [(18, 0, 2, 3)], _, isRunning_intro (by decide +kernel), rfl,
     by decide +kernel⟩,
   ⟨run (cmd 0x91 [(18, 0, 2, 3)]) (portIs { p0 with holdUs := 0 }), c0, cmd 0x91 [(18, 0, 2, 3)], _, isRunning_intro
     (by decide +kernel), rfl, by decide +kernel⟩,
   ⟨run (cmd 0x92) (port0 .up), c0, cmd 0x92, _, isRunning_intro (by decide +kernel), rfl, by decide +kernel⟩,
   ⟨run (cmd 0x92 [(18, 0, 1, 1)]) (port0 .holdRunning), c0, cmd 0x92 [(18, 0, 1, 1)], _, 0, isRunning_intro (by decide +kernel),
     rfl, by decide +kernel⟩,
   ⟨run (cmd 0x92 [(18, 0, 1, 1)]) ((portIs { p0 with back := some 0 })), c0, cmd 0x92 [(18, 0, 1, 1)], _, 0, isRunning_intro
     (by decide +kernel), rfl, by decide +kernel⟩⟩

theorem witness_PortCommandsAndSleep_2 :
    (∃ s : State, ∃ c : CmdRef, ∃ x : Cmd, ∃ p : Nat, s.dev.isRunning c x ∧ p = x.fld 16 0 10 ∧ s.dev.isPort p = true ∧ isOp 0x92 x
        = true ∧ x.fld 18 1 1 = 0 ∧ x.fld 18 0 1 = 1 ∧ (s.dev.port p).st ≠ .holdRunning ∧ (s.dev.port p).st ≠ .up) ∧
    (∃ s : State, ∃ c : CmdRef, ∃ x : Cmd, ∃ p : Nat, ∃ q : Nat, s.dev.isRunning c x ∧ p = x.fld 16 0 10 ∧ isOp 0x92 x = true ∧
        x.fld 18 1 1 = 1 ∧ x.fld 18 0 1 = 0 ∧ s.dev.isPort q = true) ∧
    (∃ s : State, ∃ c : CmdRef, ∃ x : Cmd, ∃ p : Nat, s.dev.isRunning c x ∧ p = x.fld 16 0 10 ∧ s.dev.isPort p = false ∧ isOpAct
        0x91 (18, 0, 2) 0 x = true) ∧
    (∃ s : State, ∃ c : CmdRef, ∃ x : Cmd, ∃ p : Nat, s.dev.isRunning c x ∧ p = x.fld 16 0 10 ∧ s.dev.isPort p = false ∧ isOpAct
        0x91 (18, 0, 2) 1 x = true) ∧
    (∃ s : State, ∃ c : CmdRef, ∃ x : Cmd, ∃ p : Nat, s.dev.isRunning c x ∧ p = x.fld 16 0 10 ∧ s.dev.isPort p = false ∧ isOpAct
        0x91 (18, 0, 2) 2 x = true) ∧
    (∃ s : State, ∃ c : CmdRef, ∃ x : Cmd, ∃ p : Nat, s.dev.isRunning c x ∧ p = x.fld 16 0 10 ∧ s.dev.isPort p = false ∧ isOpAct
        0x91 (18, 0, 2) 3 x = true) ∧
    (∃ s : State, ∃ c : CmdRef, ∃ x : Cmd, ∃ p : Nat, s.dev.isRunning c x ∧ p = x.fld 16 0 10 ∧ s.dev.isPort p = false ∧ isOp 0x92 x
        = true ∧ x.fld 18 1 1 = 0) ∧
    (∃ s : State, ∃ p : Nat, ∃ frame : List Byte, ∃ fits : Bool, s.dev.takesPackets = true ∧ s.dev.isPort p = true ∧ (s.dev.port
        p).st = .up ∧ s.dev.loopKind p = 0 ∧ (s.dev.parserUp (p / 32) = false ∨ (s.dev.port p).skid ≠ []) ∧ fits =
        ((s.dev.trigger (p / 32)).wakesInTime (p / 32) || decide ((s.dev.port p).skidBytes + frame.length + 4 ≤ (s.dev.port
        p).lanes * 8192)) ∧ fits = true) ∧
    (∃ s : State, ∃ p : Nat, ∃ frame : List Byte, ∃ fits : Bool, s.dev.takesPackets = true ∧ s.dev.isPort p = true ∧ (s.dev.port
        p).st = .up ∧ s.dev.loopKind p = 0 ∧ (s.dev.parserUp (p / 32) = false ∨ (s.dev.port p).skid ≠ []) ∧ fits =
        ((s.dev.trigger (p / 32)).wakesInTime (p / 32) || decide ((s.dev.port p).skidBytes + frame.length + 4 ≤ (s.dev.port
        p).lanes * 8192)) ∧ fits = false) ∧
    (∃ s : State, ∃ k : Nat, k < 16 ∧ s.dev.corePowered = true ∧ (s.dev.pipe k).asleep = false ∧ (s.dev.pipe k).waking = false ∧
        (s.dev.pipe k).idleUs ≠ 0 ∧ s.dev.pipeIdle k = true) ∧
    (∃ s : State, ∃ k : Nat, k < 16 ∧ (s.dev.pipe k).waking = true) :=
  ⟨⟨run (cmd 0x92 [(18, 0, 1, 1)]) (port0 .training), c0, cmd 0x92 [(18, 0, 1, 1)], _, isRunning_intro (by decide +kernel), rfl,
     by decide +kernel⟩,
   ⟨run (cmd 0x92 [(18, 1, 1, 1)]) (port0 .up), c0, cmd 0x92 [(18, 1, 1, 1)], _, 0, isRunning_intro (by decide +kernel), rfl,
     by decide +kernel⟩,
   ⟨run (cmd 0x91 [(16, 0, 10, 9)]), c0, cmd 0x91 [(16, 0, 10, 9)], _, isRunning_intro (by decide +kernel), rfl, by decide +kernel⟩,
   ⟨run (cmd 0x91 [(16, 0, 10, 9), (18, 0, 2, 1)]), c0, cmd 0x91 [(16, 0, 10, 9), (18, 0, 2, 1)], _, isRunning_intro
     (by decide +kernel), rfl, by decide +kernel⟩,
   ⟨run (cmd 0x91 [(16, 0, 10, 9), (18, 0, 2, 2)]), c0, cmd 0x91 [(16, 0, 10, 9), (18, 0, 2, 2)], _, isRunning_intro
     (by decide +kernel), rfl, by decide +kernel⟩,
   ⟨run (cmd 0x91 [(16, 0, 10, 9), (18, 0, 2, 3)]), c0, cmd 0x91 [(16, 0, 10, 9), (18, 0, 2, 3)], _, isRunning_intro
     (by decide +kernel), rfl, by decide +kernel⟩,
   ⟨run (cmd 0x92 [(16, 0, 10, 9)]), c0, cmd 0x92 [(16, 0, 10, 9)], _, isRunning_intro (by decide +kernel), rfl, by decide +kernel⟩,
   ⟨st (port0 .up { fwd with pipes := [] }), 0, frame0, _, by decide +kernel, by decide +kernel, by decide +kernel,
     by decide +kernel, by decide +kernel, rfl, by decide +kernel⟩,
   ⟨st
     { port0 .up { fwd with pipes := [(0, { actionStopped := true })] } with pte := { (port0 .up).pte with ports := [(0, { p0 with skid := [List.replicate 65500 0] })] } },
     0, frame0, _, by decide +kernel, by decide +kernel, by decide +kernel, by decide +kernel, by decide +kernel, rfl,
     by decide +kernel⟩,
   ⟨st fwd, 0, by decide +kernel⟩,
   ⟨st { fwd with pipes := [(0, { waking := true })] }, 0, by decide +kernel⟩⟩

theorem witness_ShapersAccrueAndTheirCommandsComplete :
    (∃ s : State, ∃ k : Nat, ∃ a : Bucket, k < 64 * 512 ∧ k % 64 < 42 ∧ s.dev.bucket k = a ∧ a.pending = none) ∧
    (∃ s : State, ∃ k : Nat, ∃ a : Bucket, ∃ r : Nat, ∃ b, k < 64 * 512 ∧ k % 64 < 42 ∧ s.dev.bucket k = a ∧ a.pending = some (r,
        b)) ∧
    (∃ s : State, ∃ k : Nat, ∃ a : Bucket, ∃ j : Nat, k < 64 * 512 ∧ k % 64 < 42 ∧ s.dev.bucket k = a ∧ j ≠ k) ∧
    (∃ s : State, ∃ k : Nat, ∃ te : Nat, (s.dev.bucket k).te = some te ∧ k < 64 * 512 ∧ te + 25 < s.dev.bal.tick) ∧
    (∃ s : State, ∃ pipe : Nat, ∃ slot : Nat, ∃ k : Nat, ∃ b : Bucket, ∃ te : Nat, tget s.dev.esc.buckets none k = some b ∧ b.te =
        some te ∧ b.coarse = true ∧ k / 2048 = pipe ∧ te / 12800 % 4096 = slot) ∧
    (∃ s : State, ∃ c : CmdRef, ∃ x : Cmd, ∃ p : Nat, ∃ g, s.dev.isRunning c x ∧ p = x.fld 16 0 10 ∧ isOpAct 0x50 (18, 0, 2) 0 x =
        true ∧ s.dev.isPort p = true ∧ g < 4) ∧
    (∃ s : State, ∃ c : CmdRef, ∃ x : Cmd, ∃ p : Nat, ∃ q, s.dev.isRunning c x ∧ p = x.fld 16 0 10 ∧ isOpAct 0x50 (18, 0, 2) 0 x =
        true ∧ s.dev.isPort p = true ∧ q < 16) ∧
    (∃ s : State, ∃ c : CmdRef, ∃ x : Cmd, ∃ p : Nat, s.dev.isRunning c x ∧ p = x.fld 16 0 10 ∧ isOpAct 0x50 (18, 0, 2) 0 x = true ∧
        s.dev.isPort p = false) ∧
    (∃ s : State, ∃ c : CmdRef, ∃ x : Cmd, ∃ p : Nat, ∃ m, s.dev.isRunning c x ∧ p = x.fld 16 0 10 ∧ isOpAct 0x50 (18, 0, 2) 1 x =
        true ∧ s.dev.isPort p = true ∧ m < 4) ∧
    (∃ s : State, ∃ c : CmdRef, ∃ x : Cmd, ∃ p : Nat, s.dev.isRunning c x ∧ p = x.fld 16 0 10 ∧ isOpAct 0x50 (18, 0, 2) 1 x = true ∧
        s.dev.isPort p = false) ∧
    (∃ s : State, ∃ c : CmdRef, ∃ x : Cmd, ∃ p : Nat, s.dev.isRunning c x ∧ p = x.fld 16 0 10 ∧ isOpAct 0x50 (18, 0, 2) 2 x = true ∧
        s.dev.isPort p = true) ∧
    (∃ s : State, ∃ c : CmdRef, ∃ x : Cmd, ∃ p : Nat, s.dev.isRunning c x ∧ p = x.fld 16 0 10 ∧ isOpAct 0x50 (18, 0, 2) 2 x = true ∧
        s.dev.isPort p = false) :=
  ⟨⟨st dev0, 0, (dev0.bucket 0), by decide +kernel⟩,
   ⟨st { dev0 with esc := { buckets := [(0, some { pending := some (1, 1) })] } }, 0, ({ pending := some (1, 1) } : Bucket), 1, 1,
     by decide +kernel⟩,
   ⟨st { dev0 with esc := { buckets := [(0, some { pending := some (1, 1) })] } }, 0, ({ pending := some (1, 1) } : Bucket), 1,
     by decide +kernel⟩,
   ⟨st { { dev0 with bal := { dev0.bal with tick := 100 } } with esc := { buckets := [(0, some { te := some 5 })] } }, 0, 5,
     by decide +kernel⟩,
   ⟨st { dev0 with esc := { buckets := [(0, some { te := some 5, coarse := true })] } }, 0, 0, 0, { te := some 5, coarse := true },
     5, by decide +kernel⟩,
   ⟨run (cmd 0x50) (port0 .up), c0, cmd 0x50, _, 3, isRunning_intro (by decide +kernel), rfl, by decide +kernel⟩,
   ⟨run (cmd 0x50) (port0 .up), c0, cmd 0x50, _, 15, isRunning_intro (by decide +kernel), rfl, by decide +kernel⟩,
   ⟨run (cmd 0x50 [(16, 0, 10, 9)]), c0, cmd 0x50 [(16, 0, 10, 9)], _, isRunning_intro (by decide +kernel), rfl, by decide +kernel⟩,
   ⟨run (cmd 0x50 [(18, 0, 2, 1)]) (port0 .up), c0, cmd 0x50 [(18, 0, 2, 1)], _, 3, isRunning_intro (by decide +kernel), rfl,
     by decide +kernel⟩,
   ⟨run (cmd 0x50 [(16, 0, 10, 9), (18, 0, 2, 1)]), c0, cmd 0x50 [(16, 0, 10, 9), (18, 0, 2, 1)], _, isRunning_intro
     (by decide +kernel), rfl, by decide +kernel⟩,
   ⟨run (cmd 0x50 [(18, 0, 2, 2)]) (port0 .up), c0, cmd 0x50 [(18, 0, 2, 2)], _, isRunning_intro (by decide +kernel), rfl,
     by decide +kernel⟩,
   ⟨run (cmd 0x50 [(16, 0, 10, 9), (18, 0, 2, 2)]), c0, cmd 0x50 [(16, 0, 10, 9), (18, 0, 2, 2)], _, isRunning_intro
     (by decide +kernel), rfl, by decide +kernel⟩⟩

theorem witness_ShapersAccrueAndTheirCommandsComplete_2 :
    (∃ s : State, ∃ c : CmdRef, ∃ x : Cmd, ∃ p : Nat, s.dev.isRunning c x ∧ p = x.fld 16 0 10 ∧ isOpAct 0x51 (18, 0, 2) 0 x = true ∧
        s.dev.isPort p = false) ∧
    (∃ s : State, ∃ c : CmdRef, ∃ x : Cmd, ∃ p : Nat, s.dev.isRunning c x ∧ p = x.fld 16 0 10 ∧ isOpAct 0x51 (18, 0, 2) 0 x = true ∧
        s.dev.isPort p = true ∧ nodeOf (x.fld 16 10 2) (x.fld 16 12 4) = none) ∧
    (∃ s : State, ∃ c : CmdRef, ∃ x : Cmd, ∃ p : Nat, ∃ n : Nat, s.dev.isRunning c x ∧ p = x.fld 16 0 10 ∧ isOpAct 0x51 (18, 0, 2) 0
        x = true ∧ s.dev.isPort p = true ∧ nodeOf (x.fld 16 10 2) (x.fld 16 12 4) = some n) ∧
    (∃ s : State, ∃ c : CmdRef, ∃ x : Cmd, ∃ p : Nat, ∃ kind : Nat, s.dev.isRunning c x ∧ p = x.fld 16 0 10 ∧ isOpAct 0x51 (18, 0,
        2) 1 x = true ∧ kind = x.fld 16 10 2 ∧ s.dev.isPort p = false) ∧
    (∃ s : State, ∃ c : CmdRef, ∃ x : Cmd, ∃ p : Nat, ∃ kind : Nat, s.dev.isRunning c x ∧ p = x.fld 16 0 10 ∧ isOpAct 0x51 (18, 0,
        2) 1 x = true ∧ kind = x.fld 16 10 2 ∧ s.dev.isPort p = true ∧ nodeOf kind (x.fld 16 12 4) = none ∧ kind ≠ 0) ∧
    (∃ s : State, ∃ c : CmdRef, ∃ x : Cmd, ∃ p : Nat, ∃ kind : Nat, ∃ n : Nat, ∃ a : Bucket, ∃ b : Bucket, s.dev.isRunning c x ∧ p =
        x.fld 16 0 10 ∧ isOpAct 0x51 (18, 0, 2) 1 x = true ∧ kind = x.fld 16 10 2 ∧ s.dev.isPort p = true ∧ nodeOf kind (x.fld
        16 12 4) = some n ∧ s.dev.bucket (bucketKey p n false) = a ∧ s.dev.bucket (bucketKey p n true) = b) :=
  ⟨⟨run (cmd 0x51 [(16, 0, 10, 9)]), c0, cmd 0x51 [(16, 0, 10, 9)], _, isRunning_intro (by decide +kernel), rfl, by decide +kernel⟩,
   ⟨run (cmd 0x51 [(16, 10, 2, 3)]) (port0 .up), c0, cmd 0x51 [(16, 10, 2, 3)], _, isRunning_intro (by decide +kernel), rfl,
     by decide +kernel⟩,
   ⟨run (cmd 0x51) (port0 .up), c0, cmd 0x51, _, 0, isRunning_intro (by decide +kernel), rfl, by decide +kernel⟩,
   ⟨run (cmd 0x51 [(16, 0, 10, 9), (18, 0, 2, 1)]), c0, cmd 0x51 [(16, 0, 10, 9), (18, 0, 2, 1)], _, _, isRunning_intro
     (by decide +kernel), rfl, by decide +kernel, rfl, by decide +kernel⟩,
   ⟨run (cmd 0x51 [(16, 10, 2, 3), (18, 0, 2, 1)]) (port0 .up), c0, cmd 0x51 [(16, 10, 2, 3), (18, 0, 2, 1)], _, _, isRunning_intro
     (by decide +kernel), rfl, by decide +kernel, rfl, by decide +kernel⟩,
   ⟨run (cmd 0x51 [(18, 0, 2, 1)]) (port0 .up), c0, cmd 0x51 [(18, 0, 2, 1)], _, _, 0, ((port0 .up).bucket (bucketKey 0 0 false)),
     ((port0 .up).bucket (bucketKey 0 0 true)), isRunning_intro (by decide +kernel), rfl, by decide +kernel, rfl,
     by decide +kernel⟩⟩

theorem witness_GateListsFollowTheirTimes :
    (∃ s : State, ∃ p : Nat, ∃ l : Tide, ∃ cct : Nat, (s.dev.tide p).pending = some (l, cct)) ∧
    (∃ s : State, ∃ p : Nat, ∃ l : Tide, (s.dev.tide p).oper = some l) ∧
    (∃ s : State, ∃ p : Nat, ∃ l : Tide, ∃ e : Nat, (s.dev.tide p).oper = some l ∧ e < l.entries.length) ∧
    (∃ s : State, ∃ c : CmdRef, ∃ x : Cmd, ∃ p : Nat, ∃ base : Nat, s.dev.isRunning c x ∧ p = x.fld 16 0 10 ∧ isOpAct 0x52 (18, 0,
        2) 0 x = true ∧ base = x.fld 32 0 48 * 1000000000 + x.fld 40 0 32 ∧ s.dev.isPort p = false) ∧
    (∃ s : State, ∃ c : CmdRef, ∃ io : Io, ∃ x : Cmd, ∃ p : Nat, ∃ base : Nat, s.dev.isRunning c x ∧ p = x.fld 16 0 10 ∧ isOpAct
        0x52 (18, 0, 2) 0 x = true ∧ base = x.fld 32 0 48 * 1000000000 + x.fld 40 0 32 ∧ s.dev.isPort p = true ∧ ioBytes io (8 *
        x.fld 20 0 16) = none) ∧
    (∃ s : State, ∃ c : CmdRef, ∃ io : Io, ∃ x : Cmd, ∃ p : Nat, ∃ base : Nat, ∃ bs : List Byte, ∃ i : Nat, s.dev.isRunning c x ∧ p
        = x.fld 16 0 10 ∧ isOpAct 0x52 (18, 0, 2) 0 x = true ∧ base = x.fld 32 0 48 * 1000000000 + x.fld 40 0 32 ∧ s.dev.isPort
        p = true ∧ ioBytes io (8 * x.fld 20 0 16) = some bs ∧ ((tideEntries (x.fld 20 0 16) bs).findIdx? (fun e => decide (e.1 <
        8 ∨ x.fld 44 0 32 < e.1 ∨ e.2.2 ≠ 0)) = some i)) ∧
    (∃ s : State, ∃ c : CmdRef, ∃ io : Io, ∃ x : Cmd, ∃ p : Nat, ∃ base : Nat, ∃ bs : List Byte, s.dev.isRunning c x ∧ p = x.fld 16
        0 10 ∧ isOpAct 0x52 (18, 0, 2) 0 x = true ∧ base = x.fld 32 0 48 * 1000000000 + x.fld 40 0 32 ∧ s.dev.isPort p = true ∧
        ioBytes io (8 * x.fld 20 0 16) = some bs ∧ (∀ e ∈ tideEntries (x.fld 20 0 16) bs, 8 ≤ e.1 ∧ e.1 ≤ x.fld 44 0 32 ∧ e.2.2
        = 0)) ∧
    (∃ s : State, ∃ c : CmdRef, ∃ x : Cmd, ∃ p : Nat, s.dev.isRunning c x ∧ p = x.fld 16 0 10 ∧ isOpAct 0x52 (18, 0, 2) 1 x = true ∧
        s.dev.isPort p = false) ∧
    (∃ s : State, ∃ c : CmdRef, ∃ x : Cmd, ∃ p : Nat, s.dev.isRunning c x ∧ p = x.fld 16 0 10 ∧ isOpAct 0x52 (18, 0, 2) 1 x = true ∧
        s.dev.isPort p = true) ∧
    (∃ s : State, ∃ c : CmdRef, ∃ io : Io, ∃ x : Cmd, ∃ p : Nat, ∃ es : List (Nat × Nat), ∃ bs : List Byte, s.dev.isRunning c x ∧ p
        = x.fld 16 0 10 ∧ isOpAct 0x52 (18, 0, 2) 2 x = true ∧ s.dev.isPort p = true ∧ es = ((s.dev.tide p).oper.map
        Tide.entries).getD [] ∧ bs = ((es.take (x.fld 20 0 16)).map (fun e => leBytes 8 (e.1 + e.2 * 2 ^ 32))).flatten ∧
        (io.wrErr = false ∨ bs = [])) ∧
    (∃ s : State, ∃ c : CmdRef, ∃ io : Io, ∃ x : Cmd, ∃ p : Nat, ∃ es : List (Nat × Nat), ∃ bs : List Byte, s.dev.isRunning c x ∧ p
        = x.fld 16 0 10 ∧ isOpAct 0x52 (18, 0, 2) 2 x = true ∧ s.dev.isPort p = true ∧ es = ((s.dev.tide p).oper.map
        Tide.entries).getD [] ∧ bs = ((es.take (x.fld 20 0 16)).map (fun e => leBytes 8 (e.1 + e.2 * 2 ^ 32))).flatten ∧
        io.wrErr = false ∧ bs ≠ [] ∧ (s.dev.ep c.ep).up = true) ∧
    (∃ s : State, ∃ c : CmdRef, ∃ io : Io, ∃ x : Cmd, ∃ p : Nat, ∃ es : List (Nat × Nat), ∃ bs : List Byte, s.dev.isRunning c x ∧ p
        = x.fld 16 0 10 ∧ isOpAct 0x52 (18, 0, 2) 2 x = true ∧ s.dev.isPort p = true ∧ es = ((s.dev.tide p).oper.map
        Tide.entries).getD [] ∧ bs = ((es.take (x.fld 20 0 16)).map (fun e => leBytes 8 (e.1 + e.2 * 2 ^ 32))).flatten ∧
        io.wrErr = true ∧ bs ≠ []) :=
  ⟨⟨st { dev0 with esc := { tides := [(0, { pending := some (({ entries := [(1000, 1)] } : Tide), 0) })] } }, 0,
     ({ entries := [(1000, 1)] } : Tide), 0, by decide +kernel⟩,
   ⟨st { dev0 with esc := { tides := [(0, { oper := some ({ entries := [(1000, 1)] } : Tide) })] } }, 0,
     ({ entries := [(1000, 1)] } : Tide), by decide +kernel⟩,
   ⟨st { dev0 with esc := { tides := [(0, { oper := some ({ entries := [(1000, 1)] } : Tide) })] } }, 0,
     ({ entries := [(1000, 1)] } : Tide), 0, by decide +kernel⟩,
   ⟨run (cmd 0x52 [(16, 0, 10, 9), (44, 0, 32, 1000)]), c0, cmd 0x52 [(16, 0, 10, 9), (44, 0, 32, 1000)], _, _, isRunning_intro
     (by decide +kernel), rfl, by decide +kernel, rfl, by decide +kernel⟩,
   ⟨run (cmd 0x52 [(20, 0, 16, 1), (44, 0, 32, 1000)]) (port0 .up), c0, { rd := none }, cmd 0x52 [(20, 0, 16, 1), (44, 0, 32,
     1000)], _, _, isRunning_intro (by decide +kernel), rfl, by decide +kernel, rfl, by decide +kernel⟩,
   ⟨run (cmd 0x52 [(20, 0, 16, 1), (44, 0, 32, 1000)]) (port0 .up), c0, { rd := some [1, 0, 0, 0, 1, 0, 0, 0] }, cmd 0x52 [(20, 0,
     16, 1), (44, 0, 32, 1000)], _, _, ([1, 0, 0, 0, 1, 0, 0, 0] : List Byte), 0, isRunning_intro (by decide +kernel), rfl,
     by decide +kernel, rfl, by decide +kernel⟩,
   ⟨run (cmd 0x52 [(20, 0, 16, 1), (44, 0, 32, 1000)]) (port0 .up), c0, { rd := some [0xE8, 3, 0, 0, 1, 0, 0, 0] }, cmd 0x52 [(20,
     0, 16, 1), (44, 0, 32, 1000)], _, _, ([0xE8, 3, 0, 0, 1, 0, 0, 0] : List Byte), isRunning_intro (by decide +kernel), rfl,
     by decide +kernel, rfl, by decide +kernel⟩,
   ⟨run (cmd 0x52 [(16, 0, 10, 9), (18, 0, 2, 1)]), c0, cmd 0x52 [(16, 0, 10, 9), (18, 0, 2, 1)], _, isRunning_intro
     (by decide +kernel), rfl, by decide +kernel⟩,
   ⟨run (cmd 0x52 [(18, 0, 2, 1)]) (port0 .up), c0, cmd 0x52 [(18, 0, 2, 1)], _, isRunning_intro (by decide +kernel), rfl,
     by decide +kernel⟩,
   ⟨run (cmd 0x52 [(18, 0, 2, 2), (20, 0, 16, 1)])
     ({ port0 .up with esc := { tides := [(0, { oper := some ({ entries := [(1000, 1)] } : Tide) })] } }), c0, {}, cmd 0x52
     [(18, 0, 2, 2), (20, 0, 16, 1)], _, _, _, isRunning_intro (by decide +kernel), rfl, by decide +kernel, by decide +kernel,
     rfl, rfl, by decide +kernel⟩,
   ⟨run (cmd 0x52 [(18, 0, 2, 2), (20, 0, 16, 1)])
     ({ port0 .up with esc := { tides := [(0, { oper := some ({ entries := [(1000, 1)] } : Tide) })] } }), c0, {}, cmd 0x52
     [(18, 0, 2, 2), (20, 0, 16, 1)], _, _, _, isRunning_intro (by decide +kernel), rfl, by decide +kernel, by decide +kernel,
     rfl, rfl, by decide +kernel⟩,
   ⟨run (cmd 0x52 [(18, 0, 2, 2), (20, 0, 16, 1)])
     ({ port0 .up with esc := { tides := [(0, { oper := some ({ entries := [(1000, 1)] } : Tide) })] } }), c0,
     { wrErr := true }, cmd 0x52 [(18, 0, 2, 2), (20, 0, 16, 1)], _, _, _, isRunning_intro (by decide +kernel), rfl,
     by decide +kernel, by decide +kernel, rfl, rfl, by decide +kernel⟩⟩

theorem witness_GateListsFollowTheirTimes_2 :
    (∃ s : State, ∃ c : CmdRef, ∃ x : Cmd, ∃ p : Nat, s.dev.isRunning c x ∧ p = x.fld 16 0 10 ∧ isOpAct 0x52 (18, 0, 2) 2 x = true ∧
        s.dev.isPort p = false) :=
  ⟨run (cmd 0x52 [(16, 0, 10, 9), (18, 0, 2, 2)]), c0, cmd 0x52 [(16, 0, 10, 9), (18, 0, 2, 2)], _, isRunning_intro
    (by decide +kernel), rfl, by decide +kernel⟩

theorem witness_WeirsExchangeAndRelease :
    (∃ s : State, ∃ w : Nat, ∃ x : Weir, s.dev.weir w = some x) ∧
    (∃ s : State, ∃ w : Nat, ∃ port : Nat, ∃ cls : Nat, ∃ x : Weir, ∃ at_ : Nat, s.dev.weir w = some x ∧ x.holds.find? (fun h =>
        decide (h.1 = 8 * port + cls)) = some (8 * port + cls, at_)) :=
  ⟨⟨st
     { dev0 with mrp := { weirs := [(0, some ({ polder := 0, cfg := { cir := 1, pir := 1, cbs := 1, pbs := 1 }, holds := [(0, 5)] } : Weir))] } },
     0, ({ polder := 0, cfg := { cir := 1, pir := 1, cbs := 1, pbs := 1 }, holds := [(0, 5)] } : Weir), by decide +kernel⟩,
   ⟨st
     { dev0 with mrp := { weirs := [(0, some ({ polder := 0, cfg := { cir := 1, pir := 1, cbs := 1, pbs := 1 }, holds := [(0, 5)] } : Weir))] } },
     0, 0, 0, ({ polder := 0, cfg := { cir := 1, pir := 1, cbs := 1, pbs := 1 }, holds := [(0, 5)] } : Weir), 5,
     by decide +kernel⟩⟩

theorem witness_RecorderAdmitsAndKeepsRecords :
    (∃ s : State, ∃ r : Rec, ∃ rest : List Rec, ∃ admits : Bool, ∃ check : Ecc, s.dev.evr.input = r :: rest ∧ (check = Ecc.clean ∨
        check = .corrected) ∧ admits = (decide (0x1400 ≤ r.code ∧ r.code < 0x1500) || slotAdmits (refillSlot s.dev.bal.tick
        (s.dev.slot (s.dev.slotOf r.code))) r.severity) ∧ admits = true ∧ s.dev.evr.frozen = false ∧ s.dev.evr.draining = false
        ∧ s.dev.evr.lastDitch = false ∧ s.dev.evr.used < 65536) ∧
    (∃ s : State, ∃ r : Rec, ∃ rest : List Rec, ∃ admits : Bool, ∃ check : Ecc, s.dev.evr.input = r :: rest ∧ (check = Ecc.clean ∨
        check = .corrected) ∧ admits = (decide (0x1400 ≤ r.code ∧ r.code < 0x1500) || slotAdmits (refillSlot s.dev.bal.tick
        (s.dev.slot (s.dev.slotOf r.code))) r.severity) ∧ admits = true ∧ s.dev.evr.frozen = true ∧ s.dev.evr.fifo.length < 256) ∧
    (∃ s : State, ∃ r : Rec, ∃ rest : List Rec, ∃ admits : Bool, ∃ check : Ecc, s.dev.evr.input = r :: rest ∧ (check = Ecc.clean ∨
        check = .corrected) ∧ admits = (decide (0x1400 ≤ r.code ∧ r.code < 0x1500) || slotAdmits (refillSlot s.dev.bal.tick
        (s.dev.slot (s.dev.slotOf r.code))) r.severity) ∧ admits = false) ∧
    (∃ s : State, ∃ i : Nat, (s.dev.slot i).supCount ≠ 0 ∧ s.dev.evr.input.length < 1024) ∧
    (∃ s : State, s.dev.evr.frozen = true) ∧
    (∃ s : State, ∃ r : Rec, ∃ rest : List Rec, ∃ check : Ecc, s.dev.evr.frozen = false ∧ s.dev.evr.fifo = r :: rest ∧ (check =
        Ecc.clean ∨ check = .corrected) ∧ s.dev.evr.lastDitch = false ∧ s.dev.evr.used < 65536) ∧
    (∃ s : State, s.dev.evr.scanDone = false) ∧
    (∃ s : State, ∃ sectors : List (Nat × List Byte), ∃ b, s.dev.evr.scanDone = false ∧ (∀ b ∈ sectors, headerOk b.2 = true → bits
        (leNat b.2) 48 16 < 65535) ∧ b ∈ sectors ∧ headerOk b.2 = true) ∧
    (∃ s : State, ∃ i : Nat, i < 4096 ∧ s.dev.boot.persist = true ∧ s.dev.regRuns 3 = true ∧ s.dev.evr.curSector ≠ some i ∧ (tget
        s.dev.evr.sectors {} i).retired = false ∧ (tget s.dev.evr.sectors {} i).erased = false ∧ ((s.dev.evr.curSector = none ∧
        s.dev.nextSector 4095 = some i) ∨ (∃ k, s.dev.evr.curSector = some k ∧ s.dev.nextSector k = some i ∧ ((tget
        s.dev.evr.sectors {} k).opened = false ∨ 63 ≤ (tget s.dev.evr.sectors {} k).records.length))) ∧ (tget s.dev.evr.sectors
        {} i).erases + 1 < 100000) ∧
    (∃ s : State, ∃ i : Nat, i < 4096 ∧ s.dev.boot.persist = true ∧ s.dev.regRuns 3 = true ∧ s.dev.evr.curSector ≠ some i ∧ (tget
        s.dev.evr.sectors {} i).retired = false ∧ (tget s.dev.evr.sectors {} i).erased = false ∧ ((s.dev.evr.curSector = none ∧
        s.dev.nextSector 4095 = some i) ∨ (∃ k, s.dev.evr.curSector = some k ∧ s.dev.nextSector k = some i ∧ ((tget
        s.dev.evr.sectors {} k).opened = false ∨ 63 ≤ (tget s.dev.evr.sectors {} k).records.length))) ∧ 100000 ≤ (tget
        s.dev.evr.sectors {} i).erases + 1) ∧
    (∃ s : State, ∃ i : Nat, i < 4096 ∧ s.dev.boot.persist = true ∧ s.dev.regRuns 3 = true ∧ s.dev.evr.curSector ≠ some i ∧ (tget
        s.dev.evr.sectors {} i).retired = false ∧ (tget s.dev.evr.sectors {} i).erased = false ∧ ((s.dev.evr.curSector = none ∧
        s.dev.nextSector 4095 = some i) ∨ (∃ k, s.dev.evr.curSector = some k ∧ s.dev.nextSector k = some i ∧ ((tget
        s.dev.evr.sectors {} k).opened = false ∨ 63 ≤ (tget s.dev.evr.sectors {} k).records.length))) ∧ 1 ≤ (tget
        s.dev.evr.sectors {} i).fails) ∧
    (∃ s : State, ∃ i : Nat, s.dev.boot.persist = true ∧ s.dev.regRuns 3 = true ∧ s.dev.evr.persistStopped = false ∧
        s.dev.evr.scanDone = true ∧ s.dev.evr.pqueue ≠ [] ∧ s.dev.evr.curSector = some i ∧ (tget s.dev.evr.sectors {} i).retired
        = false ∧ (tget s.dev.evr.sectors {} i).opened = true ∧ (tget s.dev.evr.sectors {} i).records.length < 126) :=
  ⟨⟨st { dev0 with evr := { input := [rec0] } }, rec0, ([] : List Rec), _, .clean, by decide +kernel, by decide +kernel, rfl,
     by decide +kernel⟩,
   ⟨st { dev0 with evr := { input := [rec0], frozen := true } }, rec0, ([] : List Rec), _, .clean, by decide +kernel,
     by decide +kernel, rfl, by decide +kernel⟩,
   ⟨st { dev0 with evr := { input := [rec0], dir := [(1023, { deficit := 64 * tokenUnit, rate := 0 })] } }, rec0, ([] : List Rec),
     _, .clean, by decide +kernel, by decide +kernel, rfl, by decide +kernel⟩,
   ⟨st { dev0 with evr := { dir := [(1023, { supCount := 1 })] } }, 1023, by decide +kernel⟩,
   ⟨st { dev0 with evr := { frozen := true } }, by decide +kernel⟩,
   ⟨st { dev0 with evr := { fifo := [rec0] } }, rec0, ([] : List Rec), .clean, by decide +kernel⟩,
   ⟨st dev0, by decide +kernel⟩,
   ⟨st dev0, [(0, header0)], (0, header0), by decide +kernel⟩,
   ⟨st { { dev0 with boot := { persist := true } } with evr := { sectors := [(0, { erased := false })] } }, 0, by decide +kernel⟩,
   ⟨st { { dev0 with boot := { persist := true } } with evr := { sectors := [(0, { erased := false, erases := 100000 })] } }, 0,
     by decide +kernel⟩,
   ⟨st { { dev0 with boot := { persist := true } } with evr := { sectors := [(0, { erased := false, fails := 1 })] } }, 0,
     by decide +kernel⟩,
   ⟨st
     { { dev0 with boot := { persist := true } } with evr := { scanDone := true, pqueue := [rec0], curSector := some 0, sectors := [(0, { opened := true })] } },
     0, by decide +kernel⟩⟩

theorem witness_RecorderAdmitsAndKeepsRecords_2 :
    (∃ s : State, ∃ i : Nat, s.dev.boot.persist = true ∧ s.dev.regRuns 3 = true ∧ s.dev.evr.persistStopped = false ∧
        s.dev.evr.scanDone = true ∧ s.dev.evr.pqueue ≠ [] ∧ (∀ k, s.dev.evr.curSector = some k → (tget s.dev.evr.sectors {}
        k).records.length = 126) ∧ s.dev.nextSector (s.dev.evr.curSector.getD 4095) = some i ∧ (tget s.dev.evr.sectors {}
        i).opened = false ∧ (tget s.dev.evr.sectors {} i).erased = true) :=
  ⟨st { { dev0 with boot := { persist := true } } with evr := { scanDone := true, pqueue := [rec0] } }, 0, by decide +kernel⟩

theorem witness_LogCommandsComplete :
    (∃ s : State, ∃ c : CmdRef, ∃ io : Io, ∃ x : Cmd, ∃ src : List Rec, ∃ want : List Rec, ∃ after : Nat, s.dev.isRunning c x ∧ isOp
        0x73 x = true ∧ (x.fld 16 1 1 = 1 → (s.dev.freeze c.ep).1 = none) ∧ x.steps = 0 ∧ x.scratch = [] ∧ io.pick = [] ∧ src =
        (if x.fld 16 0 1 = 1 then s.dev.persistRecs (x.fld 18 0 16) else s.dev.heldRecs).filter (fun r => seqAtOrAfter r.seq
        (x.fld 20 0 32)) ∧ want = src.filter (fun r => s.dev.recVisible c.ep r && decide (x.fld 17 0 3 ≤ r.severity)) ∧ after =
        (if want.length ≤ x.fld 32 0 32 / 32 then (src.getLast?.map (fun r => seqAfter r.seq % 2 ^ 32)).getD (x.fld 20 0 32)
        else (want[x.fld 32 0 32 / 32]?.map Rec.seq).getD (x.fld 20 0 32) % 2 ^ 32) ∧ io.wrErr = true) ∧
    (∃ s : State, ∃ c : CmdRef, ∃ io : Io, ∃ x : Cmd, ∃ src : List Rec, ∃ want : List Rec, ∃ put : List Rec, ∃ after : Nat,
        s.dev.isRunning c x ∧ isOp 0x73 x = true ∧ (x.fld 16 1 1 = 1 → (s.dev.freeze c.ep).1 = none) ∧ x.steps = 0 ∧ x.scratch =
        [] ∧ io.pick = [] ∧ src = (if x.fld 16 0 1 = 1 then s.dev.persistRecs (x.fld 18 0 16) else s.dev.heldRecs).filter (fun r
        => seqAtOrAfter r.seq (x.fld 20 0 32)) ∧ want = src.filter (fun r => s.dev.recVisible c.ep r && decide (x.fld 17 0 3 ≤
        r.severity)) ∧ put = want.take (x.fld 32 0 32 / 32) ∧ after = (if want.length ≤ x.fld 32 0 32 / 32 then
        (src.getLast?.map (fun r => seqAfter r.seq % 2 ^ 32)).getD (x.fld 20 0 32) else (want[x.fld 32 0 32 / 32]?.map
        Rec.seq).getD (x.fld 20 0 32) % 2 ^ 32) ∧ io.wrErr = false ∧ put ≠ [] ∧ (s.dev.ep c.ep).up = true) ∧
    (∃ s : State, ∃ c : CmdRef, ∃ io : Io, ∃ x : Cmd, ∃ src : List Rec, ∃ want : List Rec, ∃ k : Nat, s.dev.isRunning c x ∧ isOp
        0x73 x = true ∧ x.fld 16 1 1 = 0 ∧ x.steps = 0 ∧ x.scratch = [] ∧ io.pick = [k] ∧ 0 < k ∧ src = (if x.fld 16 0 1 = 1
        then s.dev.persistRecs (x.fld 18 0 16) else s.dev.heldRecs).filter (fun r => seqAtOrAfter r.seq (x.fld 20 0 32)) ∧ want
        = (src.take k).filter (fun r => s.dev.recVisible c.ep r && decide (x.fld 17 0 3 ≤ r.severity)) ∧ k < src.length ∧
        want.length < x.fld 32 0 32 / 32) ∧
    (∃ s : State, ∃ c : CmdRef, ∃ x : Cmd, ∃ why : Nat, s.dev.isRunning c x ∧ isOp 0x73 x = true ∧ x.fld 16 1 1 = 1 ∧ x.steps = 0 ∧
        (s.dev.freeze c.ep).1 = some why) ∧
    (∃ s : State, ∃ c : CmdRef, ∃ x : Cmd, s.dev.isRunning c x ∧ isOp 0x74 x = true ∧ s.dev.evr.lastDitch = true) ∧
    (∃ s : State, ∃ c : CmdRef, ∃ x : Cmd, s.dev.isRunning c x ∧ isOp 0x74 x = true ∧ s.dev.evr.lastDitch = false ∧ s.dev.evr.frozen
        = false ∧ s.dev.bal.tick < s.dev.evr.refuseUntil) ∧
    (∃ s : State, ∃ c : CmdRef, ∃ x : Cmd, s.dev.isRunning c x ∧ isOp 0x74 x = true ∧ s.dev.evr.lastDitch = false ∧ s.dev.evr.frozen
        = false ∧ s.dev.evr.refuseUntil ≤ s.dev.bal.tick) ∧
    (∃ s : State, ∃ c : CmdRef, ∃ x : Cmd, s.dev.isRunning c x ∧ isOp 0x74 x = true ∧ s.dev.evr.lastDitch = false ∧ s.dev.evr.frozen
        = true) ∧
    (∃ s : State, ∃ c : CmdRef, ∃ x : Cmd, s.dev.isRunning c x ∧ isOp 0x75 x = true ∧ s.dev.evr.holders.testBit c.ep = true) ∧
    (∃ s : State, ∃ c : CmdRef, ∃ x : Cmd, s.dev.isRunning c x ∧ isOp 0x75 x = true ∧ s.dev.evr.holders.testBit c.ep = false) ∧
    (∃ s : State, ∃ c : CmdRef, ∃ x : Cmd, s.dev.isRunning c x ∧ isOpAct 0x76 (18, 0, 1) 0 x = true) ∧
    (∃ s : State, ∃ c : CmdRef, ∃ x : Cmd, s.dev.isRunning c x ∧ isOpAct 0x76 (18, 0, 1) 1 x = true) :=
  ⟨⟨run (cmd 0x73 [(32, 0, 32, 64)]) ({ dev0 with evr := { log := [(0, some rec0), (1, some { rec0 with seq := 1 })] } }), c0,
     { wrErr := true }, cmd 0x73 [(32, 0, 32, 64)], _, _, _, isRunning_intro (by decide +kernel), by decide +kernel,
     by decide +kernel, by decide +kernel, by decide +kernel, by decide +kernel, rfl, rfl, rfl, by decide +kernel⟩,
   ⟨run (cmd 0x73 [(32, 0, 32, 64)]) ({ dev0 with evr := { log := [(0, some rec0), (1, some { rec0 with seq := 1 })] } }), c0, {},
     cmd 0x73 [(32, 0, 32, 64)], _, _, _, _, isRunning_intro (by decide +kernel), by decide +kernel, by decide +kernel,
     by decide +kernel, by decide +kernel, by decide +kernel, rfl, rfl, rfl, rfl, by decide +kernel⟩,
   ⟨run (cmd 0x73 [(32, 0, 32, 64)]) ({ dev0 with evr := { log := [(0, some rec0), (1, some { rec0 with seq := 1 })] } }), c0,
     { pick := [1] }, cmd 0x73 [(32, 0, 32, 64)], _, _, 1, isRunning_intro (by decide +kernel), by decide +kernel,
     by decide +kernel, by decide +kernel, by decide +kernel, by decide +kernel, by decide +kernel, rfl, rfl, by decide +kernel⟩,
   ⟨run (cmd 0x73 [(16, 1, 1, 1), (32, 0, 32, 64)]) ({ dev0 with evr := { lastDitch := true } }), c0, cmd 0x73 [(16, 1, 1, 1), (32,
     0, 32, 64)], 2, isRunning_intro (by decide +kernel), by decide +kernel⟩,
   ⟨run (cmd 0x74) ({ dev0 with evr := { lastDitch := true } }), c0, cmd 0x74, isRunning_intro (by decide +kernel),
     by decide +kernel⟩,
   ⟨run (cmd 0x74) ({ dev0 with evr := { refuseUntil := 9 } }), c0, cmd 0x74, isRunning_intro (by decide +kernel),
     by decide +kernel⟩,
   ⟨run (cmd 0x74), c0, cmd 0x74, isRunning_intro (by decide +kernel), by decide +kernel⟩,
   ⟨run (cmd 0x74) ({ dev0 with evr := { frozen := true } }), c0, cmd 0x74, isRunning_intro (by decide +kernel), by decide +kernel⟩,
   ⟨run (cmd 0x75) ({ dev0 with evr := { frozen := true, holders := 1 } }), c0, cmd 0x75, isRunning_intro (by decide +kernel),
     by decide +kernel⟩,
   ⟨run (cmd 0x75), c0, cmd 0x75, isRunning_intro (by decide +kernel), by decide +kernel⟩,
   ⟨run (cmd 0x76), c0, cmd 0x76, isRunning_intro (by decide +kernel), by decide +kernel⟩,
   ⟨run (cmd 0x76 [(18, 0, 1, 1)]), c0, cmd 0x76 [(18, 0, 1, 1)], isRunning_intro (by decide +kernel), by decide +kernel⟩⟩

theorem witness_GenerationsAdvance :
    (∃ s : State, ∃ c : CmdRef, ∃ x : Cmd, ∃ next : Nat, s.dev.isRunning c x ∧ next = (s.dev.rle.gen + 1).toNat ∧ isOp 0x30 x = true
        ∧ x.fld 16 0 32 ≠ 0 ∧ x.fld 16 0 32 ≠ next) ∧
    (∃ s : State, ∃ c : CmdRef, ∃ x : Cmd, ∃ next : Nat, s.dev.isRunning c x ∧ next = (s.dev.rle.gen + 1).toNat ∧ isOp 0x30 x = true
        ∧ (x.fld 16 0 32 = 0 ∨ x.fld 16 0 32 = next) ∧ s.dev.rle.slotSt = .idle ∧ s.dev.liveTag (next % 16) = 0) ∧
    (∃ s : State, ∃ c : CmdRef, ∃ x : Cmd, ∃ next : Nat, s.dev.isRunning c x ∧ next = (s.dev.rle.gen + 1).toNat ∧ isOp 0x30 x = true
        ∧ (x.fld 16 0 32 = 0 ∨ x.fld 16 0 32 = next) ∧ s.dev.rle.slotSt = .idle ∧ s.dev.liveTag (next % 16) ≠ 0) ∧
    (∃ s : State, ∃ c : CmdRef, ∃ x : Cmd, ∃ next : Nat, s.dev.isRunning c x ∧ next = (s.dev.rle.gen + 1).toNat ∧ isOp 0x30 x = true
        ∧ (x.fld 16 0 32 = 0 ∨ x.fld 16 0 32 = next) ∧ s.dev.rle.slotSt = .staged) ∧
    (∃ s : State, ∃ c : CmdRef, ∃ x : Cmd, ∃ next : Nat, s.dev.isRunning c x ∧ next = (s.dev.rle.gen + 1).toNat ∧ isOp 0x30 x = true
        ∧ (x.fld 16 0 32 = 0 ∨ x.fld 16 0 32 = next) ∧ (s.dev.rle.slotSt = .draining ∨ s.dev.rle.slotSt = .sweeping)) ∧
    (∃ s : State, ∃ c : CmdRef, ∃ x : Cmd, s.dev.isRunning c x ∧ isOp 0x31 x = true ∧ s.dev.rle.slotSt ≠ .staged) ∧
    (∃ s : State, ∃ c : CmdRef, ∃ x : Cmd, s.dev.isRunning c x ∧ isOp 0x31 x = true ∧ s.dev.rle.slotSt = .staged ∧ s.dev.rle.holder
        ≠ some x.polder) ∧
    (∃ s : State, ∃ c : CmdRef, ∃ x : Cmd, ∃ next : Nat, ∃ us : Nat, s.dev.isRunning c x ∧ next = (s.dev.rle.gen + 1).toNat ∧ isOp
        0x31 x = true ∧ us = (if x.fld 20 0 32 = 0 then 10000 else x.fld 20 0 32) ∧ s.dev.rle.slotSt = .staged ∧
        s.dev.rle.holder = some x.polder ∧ x.fld 16 0 32 = next ∧ 1000 ≤ us ∧ us ≤ 1000000 ∧ s.dev.stagedWrites x.polder x.disp
        = false) ∧
    (∃ s : State, ∃ c : CmdRef, ∃ x : Cmd, ∃ next : Nat, ∃ us : Nat, s.dev.isRunning c x ∧ next = (s.dev.rle.gen + 1).toNat ∧ isOp
        0x31 x = true ∧ us = (if x.fld 20 0 32 = 0 then 10000 else x.fld 20 0 32) ∧ s.dev.rle.slotSt = .staged ∧
        s.dev.rle.holder = some x.polder ∧ x.fld 16 0 32 = next ∧ 1000 ≤ us ∧ us ≤ 1000000 ∧ s.dev.stagedWrites x.polder x.disp
        = true) ∧
    (∃ s : State, ∃ c : CmdRef, ∃ x : Cmd, ∃ next : Nat, s.dev.isRunning c x ∧ next = (s.dev.rle.gen + 1).toNat ∧ isOp 0x32 x = true
        ∧ x.scratch = [] ∧ (s.dev.rle.slotSt ≠ .staged ∨ x.fld 16 0 32 ≠ next)) ∧
    (∃ s : State, ∃ c : CmdRef, ∃ x : Cmd, ∃ next : Nat, s.dev.isRunning c x ∧ next = (s.dev.rle.gen + 1).toNat ∧ isOp 0x32 x = true
        ∧ x.scratch = [] ∧ s.dev.rle.slotSt = .staged ∧ x.fld 16 0 32 = next ∧ s.dev.rle.holder ≠ some x.polder ∧ s.dev.mayAs c
        none = false) ∧
    (∃ s : State, ∃ c : CmdRef, ∃ x : Cmd, ∃ next : Nat, s.dev.isRunning c x ∧ next = (s.dev.rle.gen + 1).toNat ∧ isOp 0x32 x = true
        ∧ x.scratch = [] ∧ s.dev.rle.slotSt = .staged ∧ x.fld 16 0 32 = next ∧ (s.dev.rle.holder = some x.polder ∨ s.dev.mayAs c
        none = true)) :=
  ⟨⟨run (cmd 0x30 [(16, 0, 32, 5)]), c0, cmd 0x30 [(16, 0, 32, 5)], _, isRunning_intro (by decide +kernel), rfl, by decide +kernel⟩,
   ⟨run (cmd 0x30), c0, cmd 0x30, _, isRunning_intro (by decide +kernel), rfl, by decide +kernel⟩,
   ⟨run (cmd 0x30) ({ dev0 with dp := { (dev0).dp with pkts := [(0, some { pkt0 with gen := 1 })] } }), c0, cmd 0x30, _,
     isRunning_intro (by decide +kernel), rfl, by decide +kernel⟩,
   ⟨run (cmd 0x30) ({ dev0 with rle := { slotSt := .staged } }), c0, cmd 0x30, _, isRunning_intro (by decide +kernel), rfl,
     by decide +kernel⟩,
   ⟨run (cmd 0x30) ({ dev0 with rle := { slotSt := .draining } }), c0, cmd 0x30, _, isRunning_intro (by decide +kernel), rfl,
     by decide +kernel⟩,
   ⟨run (cmd 0x31 [(16, 0, 32, 1), (20, 0, 32, 1000)]), c0, cmd 0x31 [(16, 0, 32, 1), (20, 0, 32, 1000)], isRunning_intro
     (by decide +kernel), by decide +kernel⟩,
   ⟨run (cmd 0x31 [(16, 0, 32, 1), (20, 0, 32, 1000)]) ({ dev0 with rle := { slotSt := .staged } }), c0, cmd 0x31 [(16, 0, 32, 1),
     (20, 0, 32, 1000)], isRunning_intro (by decide +kernel), by decide +kernel⟩,
   ⟨run (cmd 0x31 [(16, 0, 32, 1), (20, 0, 32, 1000)]) ({ dev0 with rle := { slotSt := .staged, holder := some 0 } }), c0, cmd 0x31
     [(16, 0, 32, 1), (20, 0, 32, 1000)], _, _, isRunning_intro (by decide +kernel), rfl, by decide +kernel, rfl,
     by decide +kernel⟩,
   ⟨st
     { { dev0 with rle := { slotSt := .staged, holder := some 0 } } with hif := { eps := [(0, { ep0 with cmds := [{ cmd 0x31 [(16, 0, 32, 1), (20, 0, 32, 1000)] with disp := 2 }, { cmd 0x10 [(17, 1, 1, 1)] with pos := 1, disp := 1 }] })] } },
     c0, ({ cmd 0x31 [(16, 0, 32, 1), (20, 0, 32, 1000)] with disp := 2 } : Cmd), _, _, isRunning_intro (by decide +kernel),
     rfl, by decide +kernel, rfl, by decide +kernel⟩,
   ⟨run (cmd 0x32), c0, cmd 0x32, _, isRunning_intro (by decide +kernel), rfl, by decide +kernel⟩,
   ⟨run ({ cmd 0x32 [(16, 0, 32, 1)] with auth := 0 }) ({ dev0 with rle := { slotSt := .staged, holder := some 1 } }), c0,
     ({ cmd 0x32 [(16, 0, 32, 1)] with auth := 0 } : Cmd), _, isRunning_intro (by decide +kernel), rfl, by decide +kernel⟩,
   ⟨run (cmd 0x32 [(16, 0, 32, 1)]) ({ dev0 with rle := { slotSt := .staged, holder := some 0 } }), c0, cmd 0x32 [(16, 0, 32, 1)],
     _, isRunning_intro (by decide +kernel), rfl, by decide +kernel⟩⟩

theorem witness_GenerationsAdvance_2 :
    (∃ s : State, ∃ c : CmdRef, ∃ x : Cmd, s.dev.isRunning c x ∧ isOp 0x33 x = true) ∧
    (∃ s : State, s.dev.rle.slotSt = .draining ∧ s.dev.holderLive = 0) ∧
    (∃ s : State, ∃ h : Nat, s.dev.rle.slotSt = .draining ∧ s.dev.rle.holder = some h ∧ s.dev.holderLive ≠ 0) ∧
    (∃ s : State, ∃ k : Nat, ∃ e : TabEnt, s.dev.rle.slotSt = .sweeping ∧ versioned (k / 2 ^ 32) = true ∧ tget s.dev.rle.ents none k
        = some e ∧ e.vis.testBit s.dev.curSlot = true) ∧
    (∃ s : State, ∃ c : CmdRef, ∃ x : Cmd, s.dev.rle.slotSt = .sweeping ∧ c.ep < 4 ∧ s.dev.isRunning c x ∧ isOp 0x32 x = true ∧
        x.scratch ≠ []) :=
  ⟨⟨run (cmd 0x33), c0, cmd 0x33, isRunning_intro (by decide +kernel), by decide +kernel⟩,
   ⟨st { dev0 with rle := { slotSt := .draining } }, by decide +kernel⟩,
   ⟨st
     { { dev0 with rle := { slotSt := .draining, holder := some 0 } } with dp := { ({ dev0 with rle := { slotSt := .draining, holder := some 0 } }).dp with pkts := [(0, some { pkt0 with gen := 15 })] } },
     0, by decide +kernel⟩,
   ⟨st { dev0 with rle := { slotSt := .sweeping, ents := [(tabKey 5 0, some {})] } }, (tabKey 5 0), ({} : TabEnt),
     by decide +kernel⟩,
   ⟨run ({ cmd 0x32 with scratch := [1] }) ({ dev0 with rle := { slotSt := .sweeping } }), c0, ({ cmd 0x32 with scratch := [1] } :
     Cmd), by decide +kernel, by decide +kernel, isRunning_intro (by decide +kernel), by decide +kernel⟩⟩

theorem witness_LearnRingAppliesEvents :
    (∃ s : State, ∃ src : Nat, ∃ v : LrnEvent, ∃ rest : List LrnEvent, ∃ q : Nat, nextRound 5 s.dev.lrn.rr (fun k => !(if k = 4 then
        s.dev.lrn.hostOffers else (s.dev.quad k).offers).isEmpty) = some src ∧ (if src = 4 then s.dev.lrn.hostOffers else
        (s.dev.quad src).offers) = v :: rest ∧ q < 4) ∧
    (∃ s : State, ∃ q : Nat, ∃ v : LrnEvent, ∃ rest : List LrnEvent, ∃ check : Ecc, q < 4 ∧ (s.dev.quad q).queue = v :: rest ∧ v.op
        = none ∧ (check = .once ∨ check = .lasting)) ∧
    (∃ s : State, ∃ q : Nat, ∃ v : LrnEvent, ∃ rest : List LrnEvent, ∃ i : Nat, ∃ e, q < 4 ∧ (s.dev.quad q).queue = v :: rest ∧ v.op
        = none ∧ s.dev.macFind q v.polder v.domain v.mac = some (i, e) ∧ e.valid = true ∧ v.kind = .ageMark ∧ e.version =
        v.version) ∧
    (∃ s : State, ∃ q : Nat, ∃ v : LrnEvent, ∃ rest : List LrnEvent, ∃ i : Nat, ∃ e, q < 4 ∧ (s.dev.quad q).queue = v :: rest ∧ v.op
        = none ∧ s.dev.macFind q v.polder v.domain v.mac = some (i, e) ∧ e.valid = true ∧ v.kind = .remove ∧ e.version =
        v.version) ∧
    (∃ s : State, ∃ q : Nat, ∃ v : LrnEvent, ∃ rest : List LrnEvent, ∃ i : Nat, ∃ e, q < 4 ∧ (s.dev.quad q).queue = v :: rest ∧ v.op
        = none ∧ s.dev.macFind q v.polder v.domain v.mac = some (i, e) ∧ e.valid = true ∧ v.kind = .rehome ∧ e.version =
        v.version) ∧
    (∃ s : State, ∃ q : Nat, ∃ v : LrnEvent, ∃ rest : List LrnEvent, ∃ i : Nat, ∃ e, q < 4 ∧ (s.dev.quad q).queue = v :: rest ∧ v.op
        = none ∧ s.dev.macFind q v.polder v.domain v.mac = some (i, e) ∧ e.valid = true ∧ (v.kind = .new ∨ v.kind = .move) ∧
        (s.dev.polder v.polder).st ≠ .undefined ∧ e.port = v.port ∧ e.isLag = v.isLag) ∧
    (∃ s : State, ∃ q : Nat, ∃ v : LrnEvent, ∃ rest : List LrnEvent, ∃ i : Nat, q < 4 ∧ (s.dev.quad q).queue = v :: rest ∧ v.op =
        none ∧ v.kind = .new ∧ (s.dev.polder v.polder).st ≠ .undefined ∧ s.dev.macFind q v.polder v.domain v.mac = none ∧
        s.dev.macUse q v.polder < s.dev.quota v.polder 0 ∧ s.dev.macPlace q v.mac v.domain v.polder = some i) ∧
    (∃ s : State, ∃ q : Nat, ∃ v : LrnEvent, ∃ rest : List LrnEvent, q < 4 ∧ (s.dev.quad q).queue = v :: rest) ∧
    (∃ s : State, ∃ q : Nat, ∃ pre : List Nat, ∃ src : Nat, ∃ dst : Nat, ∃ e, q < 4 ∧ (s.dev.quad q).plan = pre ++ [src, dst] ∧
        s.dev.macAt q src = some e ∧ s.dev.macAt q dst = none ∧ dst ∈ macCandidates e.mac e.domain e.polder) ∧
    (∃ s : State, ∃ q : Nat, ∃ pre : List Nat, ∃ src : Nat, ∃ dst : Nat, ∃ e, q < 4 ∧ (s.dev.quad q).plan = pre ++ [src, dst] ∧
        s.dev.macAt q src = some e ∧ s.dev.macAt q dst ≠ none) ∧
    (∃ s : State, ∃ q : Nat, ∃ src : Nat, ∃ dst : Nat, ∃ e, q < 4 ∧ (s.dev.quad q).plan = [] ∧ oldestOf ((s.dev.quad
        q).ents.filterMap (fun y => if inStash y.1 then y.2.map (fun z => (y.1, z.stashed)) else none)) = some src ∧ s.dev.macAt
        q src = some e ∧ s.dev.macAt q dst = none ∧ dst ∈ macCandidates e.mac e.domain e.polder ∧ src / 4 ≠ dst / 4) ∧
    (∃ s : State, ∃ table : Nat, ∃ pre : List Nat, ∃ src : Nat, ∃ dst : Nat, ∃ e, wayed table = true ∧ tget s.dev.rle.plans [] table
        = pre ++ [src, dst] ∧ s.dev.tab table src = some e ∧ src ≠ dst ∧ s.dev.placeFree table dst (s.dev.unitsAt table src) =
        true ∧ (s.dev.tabCand table src).contains dst = true) :=
  ⟨⟨st { dev0 with lrn := { hostOffers := [event0 .new] } }, 4, event0 .new, ([] : List LrnEvent), 0, by decide +kernel⟩,
   ⟨st { dev0 with lrn := { quads := [(0, { queue := [event0 .new] })] } }, 0, event0 .new, ([] : List LrnEvent), .once,
     by decide +kernel⟩,
   ⟨st
     { dev0 with lrn := { quads := [(0, { queue := [event0 .ageMark], ents := [(((macCandidates 2 1 0).getD 0 0), some mac0)] })] } },
     0, event0 .ageMark, ([] : List LrnEvent), ((macCandidates 2 1 0).getD 0 0), mac0, by decide +kernel⟩,
   ⟨st
     { dev0 with lrn := { quads := [(0, { queue := [event0 .remove], ents := [(((macCandidates 2 1 0).getD 0 0), some mac0)] })] } },
     0, event0 .remove, ([] : List LrnEvent), ((macCandidates 2 1 0).getD 0 0), mac0, by decide +kernel⟩,
   ⟨st
     { dev0 with lrn := { quads := [(0, { queue := [event0 .rehome], ents := [(((macCandidates 2 1 0).getD 0 0), some mac0)] })] } },
     0, event0 .rehome, ([] : List LrnEvent), ((macCandidates 2 1 0).getD 0 0), mac0, by decide +kernel⟩,
   ⟨st
     { dev0 with lrn := { quads := [(0, { queue := [event0 .new], ents := [(((macCandidates 2 1 0).getD 0 0), some mac0)] })] } },
     0, event0 .new, ([] : List LrnEvent), ((macCandidates 2 1 0).getD 0 0), mac0, by decide +kernel⟩,
   ⟨st { dev0 with lrn := { quads := [(0, { queue := [event0 .new] })] } }, 0, event0 .new, ([] : List LrnEvent), ((st
     { dev0 with lrn := { quads := [(0, { queue := [event0 .new] })] } }).dev.macPlace 0 2 1 0).getD 0, by decide +kernel⟩,
   ⟨st { dev0 with lrn := { quads := [(0, { queue := [event0 .new] })] } }, 0, event0 .new, ([] : List LrnEvent),
     by decide +kernel⟩,
   ⟨st
     { dev0 with lrn := { quads := [(0, { plan := [524288, ((macCandidates 2 1 0).getD 0 0)], ents := [(524288, some mac0)] })] } },
     0, ([] : List Nat), 524288, ((macCandidates 2 1 0).getD 0 0), mac0, by decide +kernel⟩,
   ⟨st
     { dev0 with lrn := { quads := [(0, { plan := [524288, ((macCandidates 2 1 0).getD 0 0)], ents := [(((macCandidates 2 1 0).getD 0 0), some { mac0 with mac := 4 }), (524288, some mac0)] })] } },
     0, ([] : List Nat), 524288, ((macCandidates 2 1 0).getD 0 0), mac0, by decide +kernel⟩,
   ⟨st { dev0 with lrn := { quads := [(0, { plan := [], ents := [(524288, some mac0)] })] } }, 0, 524288, ((macCandidates 2 1
     0).getD 0 0), mac0, by decide +kernel⟩,
   ⟨relocs, 1, ([] : List Nat), 1048576, tabBucket 1 0 0 0, ({} : TabEnt), by decide +kernel, rfl, by decide +kernel,
     candidate_other, candidate_free, candidate_first⟩⟩

theorem witness_LearnRingAppliesEvents_2 :
    (∃ s : State, ∃ q : Nat, ∃ w : Nat, ∃ k : Nat, ∃ e, q < 4 ∧ s.dev.lrn.sweeping = true ∧ tget s.dev.lrn.rows 0 q < 32767 ∧ w < 4
        ∧ k < 4 ∧ s.dev.macAt q (w * 131072 + 4 * tget s.dev.lrn.rows 0 q + k) = some e ∧ e.valid = true ∧ e.static = false ∧
        e.home = q ∧ e.hit = true) ∧
    (∃ s : State, ∃ q : Nat, ∃ w : Nat, ∃ k : Nat, ∃ e, q < 4 ∧ s.dev.lrn.sweeping = true ∧ tget s.dev.lrn.rows 0 q < 32767 ∧ w < 4
        ∧ k < 4 ∧ s.dev.macAt q (w * 131072 + 4 * tget s.dev.lrn.rows 0 q + k) = some e ∧ e.valid = true ∧ e.static = false ∧
        e.home = q ∧ e.hit = false) :=
  ⟨⟨st { dev0 with lrn := { sweeping := true, quads := [(0, { ents := [(0, some { mac0 with hit := true })] })] } }, 0, 0, 0,
     ({ mac0 with hit := true } : MacEnt), by decide +kernel⟩,
   ⟨st { dev0 with lrn := { sweeping := true, quads := [(0, { ents := [(0, some { mac0 with hit := false })] })] } }, 0, 0, 0,
     ({ mac0 with hit := false } : MacEnt), by decide +kernel⟩⟩

theorem witness_TableCommandsComplete :
    (∃ s : State, ∃ c : CmdRef, ∃ x : Cmd, ∃ o, s.dev.isRunning c x ∧ isOp 0x10 x = true ∧ x.scratch = [] ∧ tabForm x = some o) ∧
    (∃ s : State, ∃ c : CmdRef, ∃ io : Io, ∃ x : Cmd, s.dev.isRunning c x ∧ isOp 0x10 x = true ∧ x.scratch = [] ∧ tabForm x = none ∧
        tabRecord x io = none) ∧
    (∃ s : State, ∃ c : CmdRef, ∃ io : Io, ∃ x : Cmd, ∃ tb : Nat, ∃ r : Nat, s.dev.isRunning c x ∧ tb = x.fld 16 0 8 ∧ isOp 0x10 x =
        true ∧ x.scratch = [] ∧ tabForm x = none ∧ tabRecord x io = some r ∧ recLen tb r = x.fld 18 0 16 ∧ tb = tMac ∧ recordBad
        tMac 0 r = none) ∧
    (∃ s : State, ∃ c : CmdRef, ∃ io : Io, ∃ x : Cmd, ∃ tb : Nat, ∃ i : Nat, ∃ r : Nat, ∃ q : TabReq, s.dev.isRunning c x ∧ tb =
        x.fld 16 0 8 ∧ i = x.fld 20 0 32 ∧ isOp 0x10 x = true ∧ x.scratch = [] ∧ tabForm x = none ∧ tabRecord x io = some r ∧
        recLen tb r = x.fld 18 0 16 ∧ q = tabReq c x io ∧ tb ≠ tMac ∧ tb ≠ tDefault ∧ (keyed tb = false ∨ tb = tTcam) ∧ x.fld 17
        0 3 = 1 ∧ s.dev.recordBar q r = none ∧ i + (if tb = tTcam then entUnits tb r else 1) ≤ capacity tb ∧ i % (if tb = tTcam
        then entUnits tb r else 1) = 0 ∧ s.dev.hits q r i = [] ∧ s.dev.quotaShort tb x.polder (entUnits tb r) 0 = false) ∧
    (∃ s : State, ∃ c : CmdRef, ∃ io : Io, ∃ x : Cmd, ∃ tb : Nat, ∃ i : Nat, ∃ r : Nat, ∃ q : TabReq, s.dev.isRunning c x ∧ tb =
        x.fld 16 0 8 ∧ i = x.fld 20 0 32 ∧ isOp 0x10 x = true ∧ x.scratch = [] ∧ tabForm x = none ∧ tabRecord x io = some r ∧
        recLen tb r = x.fld 18 0 16 ∧ q = tabReq c x io ∧ tb ≠ tMac ∧ tb ≠ tDefault ∧ (keyed tb = false ∨ tb = tTcam) ∧ x.fld 17
        0 3 = 1 ∧ s.dev.recordBar q r = none ∧ i + (if tb = tTcam then entUnits tb r else 1) ≤ capacity tb ∧ i % (if tb = tTcam
        then entUnits tb r else 1) = 0 ∧ s.dev.hits q r i = [] ∧ s.dev.quotaShort tb x.polder (entUnits tb r) 0 = true) ∧
    (∃ s : State, ∃ c : CmdRef, ∃ io : Io, ∃ x : Cmd, ∃ tb : Nat, ∃ r : Nat, ∃ q : TabReq, ∃ j : Nat, s.dev.isRunning c x ∧ tb =
        x.fld 16 0 8 ∧ isOp 0x10 x = true ∧ x.scratch = [] ∧ tabForm x = none ∧ tabRecord x io = some r ∧ recLen tb r = x.fld 18
        0 16 ∧ q = tabReq c x io ∧ tb ≠ tMac ∧ tb ≠ tDefault ∧ keyed tb = true ∧ tb ≠ tTcam ∧ x.fld 17 0 3 = 0 ∧ s.dev.recordBar
        q r = none ∧ s.dev.keyEnts tb x.polder r = [] ∧ s.dev.quotaShort tb x.polder (entUnits tb r) 0 = false ∧ s.dev.pipeFull
        tb r = false ∧ s.dev.newPlace q r = some j) ∧
    (∃ s : State, ∃ c : CmdRef, ∃ io : Io, ∃ x : Cmd, ∃ tb : Nat, ∃ r : Nat, ∃ q : TabReq, ∃ j : Nat, ∃ o, s.dev.isRunning c x ∧ tb
        = x.fld 16 0 8 ∧ isOp 0x10 x = true ∧ x.scratch = [] ∧ tabForm x = none ∧ tabRecord x io = some r ∧ recLen tb r = x.fld
        18 0 16 ∧ q = tabReq c x io ∧ tb ≠ tMac ∧ tb ≠ tDefault ∧ keyed tb = true ∧ tb ≠ tTcam ∧ x.fld 17 0 3 = 0 ∧
        s.dev.recordBar q r = none ∧ s.dev.keyEnts tb x.polder r = [(j, o)]) ∧
    (∃ s : State, ∃ c : CmdRef, ∃ io : Io, ∃ x : Cmd, ∃ tb : Nat, ∃ r : Nat, ∃ q : TabReq, ∃ f : TabFail, s.dev.isRunning c x ∧ tb =
        x.fld 16 0 8 ∧ isOp 0x10 x = true ∧ x.scratch = [] ∧ tabForm x = none ∧ tabRecord x io = some r ∧ recLen tb r = x.fld 18
        0 16 ∧ q = tabReq c x io ∧ tb ≠ tMac ∧ tb ≠ tDefault ∧ ((keyed tb = false ∨ tb = tTcam) ∧ x.fld 17 0 1 = 1 ∨ (keyed tb =
        true ∧ tb ≠ tTcam ∧ x.fld 17 0 1 = 0)) ∧ x.fld 17 2 1 = 0 ∧ (s.dev.recordBar q r = some f ∨ (s.dev.recordBar q r = none
        ∧ s.dev.stagedBar q = some f))) ∧
    (∃ s : State, ∃ c : CmdRef, ∃ io : Io, ∃ x : Cmd, ∃ tb : Nat, ∃ r : Nat, ∃ q : TabReq, s.dev.isRunning c x ∧ tb = x.fld 16 0 8 ∧
        isOp 0x10 x = true ∧ x.scratch = [] ∧ tabForm x = none ∧ tabRecord x io = some r ∧ recLen tb r = x.fld 18 0 16 ∧ q =
        tabReq c x io ∧ tb = tDefault ∧ x.fld 17 0 3 = 0 ∧ s.dev.recordBar q r = none ∧ s.dev.isPort (fld r 0 0 10) = true ∧ fld
        r 8 0 3 ≠ 4) ∧
    (∃ s : State, ∃ c : CmdRef, ∃ x : Cmd, ∃ tb : Nat, ∃ i : Nat, ∃ e, s.dev.isRunning c x ∧ tb = x.fld 16 0 8 ∧ i = x.fld 20 0 32 ∧
        isOp 0x13 x = true ∧ x.scratch = [] ∧ tabForm x = none ∧ tb ≠ tMac ∧ tb ≠ tDefault ∧ x.fld 17 0 1 = 1 ∧ i < lastIndex tb
        ∧ s.dev.indexMine (s.dev.mayAs c) tb i 0 = true ∧ x.fld 17 1 1 = 0 ∧ s.dev.tab tb i = some e) ∧
    (∃ s : State, ∃ c : CmdRef, ∃ io : Io, ∃ x : Cmd, ∃ tb : Nat, ∃ i : Nat, ∃ e, s.dev.isRunning c x ∧ tb = x.fld 16 0 8 ∧ i =
        x.fld 20 0 32 ∧ isOp 0x13 x = true ∧ x.scratch = [] ∧ tabForm x = none ∧ tb ≠ tMac ∧ tb ≠ tDefault ∧ x.fld 17 0 1 = 1 ∧
        i < lastIndex tb ∧ s.dev.indexMine (s.dev.mayAs c) tb i 0 = true ∧ x.fld 17 1 1 = 1 ∧ s.dev.stagedBar (tabReq c x io) =
        none ∧ s.dev.tab tb i = some e ∧ e.vis.testBit s.dev.stagedSlot = true) ∧
    (∃ s : State, ∃ c : CmdRef, ∃ x : Cmd, ∃ tb : Nat, ∃ i : Nat, s.dev.isRunning c x ∧ tb = x.fld 16 0 8 ∧ i = x.fld 20 0 32 ∧ isOp
        0x13 x = true ∧ x.scratch = [] ∧ tabForm x = none ∧ tb ≠ tMac ∧ tb ≠ tDefault ∧ x.fld 17 0 1 = 1 ∧ i < lastIndex tb ∧
        s.dev.indexMine (s.dev.mayAs c) tb i 0 = true ∧ x.fld 17 1 1 = 0 ∧ s.dev.tab tb i = none) :=
  ⟨⟨run (cmd 0x10 [(16, 0, 8, 99)]), c0, cmd 0x10 [(16, 0, 8, 99)], 16, isRunning_intro (by decide +kernel), by decide +kernel⟩,
   ⟨run (cmd 0x10 [(18, 0, 16, 32)]), c0, { rd := none }, cmd 0x10 [(18, 0, 16, 32)], isRunning_intro (by decide +kernel),
     by decide +kernel⟩,
   ⟨run (cmd 0x10 [(17, 0, 8, 8), (18, 0, 16, 32)]), c0, {}, cmd 0x10 [(17, 0, 8, 8), (18, 0, 16, 32)], _, ((tabRecord (cmd 0x10
     [(17, 0, 8, 8), (18, 0, 16, 32)]) {}).getD 0), isRunning_intro (by decide +kernel), rfl, by decide +kernel⟩,
   ⟨run (cmd 0x10 [(16, 0, 8, 9), (17, 0, 8, 9), (18, 0, 16, 4)]) ({ dev0 with rle := { ents := [(tabKey 7 0, some {})] } }), c0,
     {}, cmd 0x10 [(16, 0, 8, 9), (17, 0, 8, 9), (18, 0, 16, 4)], _, _, ((tabRecord (cmd 0x10 [(16, 0, 8, 9), (17, 0, 8, 9),
     (18, 0, 16, 4)]) {}).getD 0), _, isRunning_intro (by decide +kernel), rfl, rfl, by decide +kernel, by decide +kernel,
     by decide +kernel, by decide +kernel, by decide +kernel, rfl, by decide +kernel⟩,
   ⟨run (cmd 0x10 [(16, 0, 8, 9), (17, 0, 8, 9), (18, 0, 16, 4)])
     ({ { dev0 with rle := { ents := [(tabKey 7 0, some {})] } } with plc := { dev0.plc with polders := [(0, { wholePolder with quota := [] })] } }),
     c0, {}, cmd 0x10 [(16, 0, 8, 9), (17, 0, 8, 9), (18, 0, 16, 4)], _, _, ((tabRecord (cmd 0x10 [(16, 0, 8, 9), (17, 0, 8, 9),
     (18, 0, 16, 4)]) {}).getD 0), _, isRunning_intro (by decide +kernel), rfl, rfl, by decide +kernel, by decide +kernel,
     by decide +kernel, by decide +kernel, by decide +kernel, rfl, by decide +kernel⟩,
   ⟨run (cmd 0x10 [(16, 0, 8, 12), (17, 0, 8, 8), (18, 0, 16, 24)]) (port0 .up), c0, {}, cmd 0x10 [(16, 0, 8, 12), (17, 0, 8, 8),
     (18, 0, 16, 24)], _, ((tabRecord (cmd 0x10 [(16, 0, 8, 12), (17, 0, 8, 8), (18, 0, 16, 24)]) {}).getD 0), _, 0,
     isRunning_intro (by decide +kernel), rfl, by decide +kernel, by decide +kernel, by decide +kernel, by decide +kernel,
     by decide +kernel, rfl, by decide +kernel⟩,
   ⟨run (cmd 0x10 [(16, 0, 8, 12), (17, 0, 8, 8), (18, 0, 16, 24)])
     ({ port0 .up with rle := { ents := [(tabKey 12 3, some {})] } }), c0, {}, cmd 0x10 [(16, 0, 8, 12), (17, 0, 8, 8), (18, 0,
     16, 24)], _, ((tabRecord (cmd 0x10 [(16, 0, 8, 12), (17, 0, 8, 8), (18, 0, 16, 24)]) {}).getD 0), _, 3, ({} : TabEnt),
     isRunning_intro (by decide +kernel), rfl, by decide +kernel, by decide +kernel, by decide +kernel, by decide +kernel,
     by decide +kernel, rfl, by decide +kernel⟩,
   ⟨run (cmd 0x10 [(16, 0, 8, 9), (17, 0, 8, 9), (18, 0, 16, 4), (32, 0, 32, 0xFFFFFFFF)])
     ({ dev0 with rle := { ents := [(tabKey 7 0, some {})] } }), c0, {}, cmd 0x10 [(16, 0, 8, 9), (17, 0, 8, 9), (18, 0, 16, 4),
     (32, 0, 32, 0xFFFFFFFF)], _, ((tabRecord (cmd 0x10 [(16, 0, 8, 9), (17, 0, 8, 9), (18, 0, 16, 4), (32, 0, 32, 0xFFFFFFFF)])
     {}).getD 0), _, { st := stNotOwner }, isRunning_intro (by decide +kernel), rfl, by decide +kernel, by decide +kernel,
     by decide +kernel, by decide +kernel, by decide +kernel, rfl, by decide +kernel, by decide +kernel, by decide +kernel,
     by decide +kernel, .inl rfl⟩,
   ⟨run (cmd 0x10 [(16, 0, 8, 31), (17, 0, 8, 8), (18, 0, 16, 16)]) (port0 .up), c0, {}, cmd 0x10 [(16, 0, 8, 31), (17, 0, 8, 8),
     (18, 0, 16, 16)], _, ((tabRecord (cmd 0x10 [(16, 0, 8, 31), (17, 0, 8, 8), (18, 0, 16, 16)]) {}).getD 0), _,
     isRunning_intro (by decide +kernel), rfl, by decide +kernel, by decide +kernel, by decide +kernel, by decide +kernel,
     by decide +kernel, rfl, by decide +kernel⟩,
   ⟨run (cmd 0x13 [(16, 0, 8, 9), (17, 0, 8, 1)]) ({ dev0 with rle := { ents := [(tabKey 9 0, some {})] } }), c0, cmd 0x13 [(16, 0,
     8, 9), (17, 0, 8, 1)], _, _, ({} : TabEnt), isRunning_intro (by decide +kernel), rfl, rfl, by decide +kernel⟩,
   ⟨run (cmd 0x13 [(16, 0, 8, 6), (17, 0, 8, 3)])
     ({ dev0 with rle := { slotSt := .staged, holder := some 0, ents := [(tabKey 6 0, some {})] } }), c0, {}, cmd 0x13 [(16, 0,
     8, 6), (17, 0, 8, 3)], _, _, ({} : TabEnt), isRunning_intro (by decide +kernel), rfl, rfl, by decide +kernel⟩,
   ⟨run (cmd 0x13 [(16, 0, 8, 9), (17, 0, 8, 1)]), c0, cmd 0x13 [(16, 0, 8, 9), (17, 0, 8, 1)], _, _, isRunning_intro
     (by decide +kernel), rfl, rfl, by decide +kernel⟩⟩

theorem witness_TableCommandsComplete_2 :
    (∃ s : State, ∃ c : CmdRef, ∃ x : Cmd, ∃ tb : Nat, ∃ i : Nat, s.dev.isRunning c x ∧ tb = x.fld 16 0 8 ∧ i = x.fld 20 0 32 ∧ isOp
        0x13 x = true ∧ x.scratch = [] ∧ tabForm x = none ∧ tb ≠ tMac ∧ tb ≠ tDefault ∧ x.fld 17 0 1 = 1 ∧ s.dev.indexMine
        (s.dev.mayAs c) tb i 0 = false) ∧
    (∃ s : State, ∃ c : CmdRef, ∃ io : Io, ∃ x : Cmd, ∃ tb : Nat, ∃ r : Nat, ∃ y : Nat × TabEnt, s.dev.isRunning c x ∧ tb = x.fld 16
        0 8 ∧ isOp 0x13 x = true ∧ x.scratch = [] ∧ tabForm x = none ∧ keyed tb = true ∧ tb ≠ tMac ∧ tb ≠ tDefault ∧ x.fld 17 0
        2 = 0 ∧ tabRecord x io = some r ∧ recLen tb r = x.fld 18 0 16 ∧ s.dev.keyEnts tb x.polder r ≠ [] ∧ y ∈ s.dev.keyEnts tb
        x.polder r) ∧
    (∃ s : State, ∃ c : CmdRef, ∃ io : Io, ∃ x : Cmd, ∃ tb : Nat, ∃ r : Nat, s.dev.isRunning c x ∧ tb = x.fld 16 0 8 ∧ isOp 0x13 x =
        true ∧ x.scratch = [] ∧ tabForm x = none ∧ keyed tb = true ∧ tb ≠ tMac ∧ tb ≠ tDefault ∧ x.fld 17 0 2 = 0 ∧ tabRecord x
        io = some r ∧ recLen tb r = x.fld 18 0 16 ∧ s.dev.keyEnts tb x.polder r = []) ∧
    (∃ s : State, ∃ c : CmdRef, ∃ io : Io, ∃ x : Cmd, ∃ tb : Nat, ∃ r : Nat, s.dev.isRunning c x ∧ tb = x.fld 16 0 8 ∧ isOp 0x13 x =
        true ∧ x.scratch = [] ∧ tabForm x = none ∧ tb = tMac ∧ x.fld 17 0 1 = 0 ∧ tabRecord x io = some r ∧ recLen tb r = x.fld
        18 0 16) ∧
    (∃ s : State, ∃ c : CmdRef, ∃ x : Cmd, ∃ tb : Nat, ∃ i : Nat, ∃ slot : Nat, ∃ e, s.dev.isRunning c x ∧ tb = x.fld 16 0 8 ∧ i =
        x.fld 20 0 32 ∧ isOp 0x11 x = true ∧ tabForm x = none ∧ x.fld 17 0 1 = 1 ∧ tb ≠ tMac ∧ tb ≠ tDefault ∧ slot = (if x.fld
        17 1 1 = 1 then s.dev.stagedSlot else s.dev.curSlot) ∧ s.dev.indexMine (s.dev.mayAs c) tb i (x.fld 17 4 2) = true ∧
        s.dev.tab tb i = some e ∧ (e.bad.testBit (x.fld 17 4 2) = true ∨ e.vis.testBit slot = false)) ∧
    (∃ s : State, ∃ c : CmdRef, ∃ io : Io, ∃ x : Cmd, ∃ tb : Nat, ∃ i : Nat, ∃ slot : Nat, ∃ e, s.dev.isRunning c x ∧ tb = x.fld 16
        0 8 ∧ i = x.fld 20 0 32 ∧ isOp 0x11 x = true ∧ tabForm x = none ∧ x.fld 17 0 1 = 1 ∧ tb ≠ tMac ∧ tb ≠ tDefault ∧ slot =
        (if x.fld 17 1 1 = 1 then s.dev.stagedSlot else s.dev.curSlot) ∧ s.dev.indexMine (s.dev.mayAs c) tb i (x.fld 17 4 2) =
        true ∧ s.dev.tab tb i = some e ∧ e.bad.testBit (x.fld 17 4 2) = false ∧ e.vis.testBit slot = true ∧ recLen tb
        e.image.toNat = x.fld 18 0 16 ∧ ioChoice io 0 = 1) ∧
    (∃ s : State, ∃ c : CmdRef, ∃ io : Io, ∃ x : Cmd, ∃ tb : Nat, ∃ i : Nat, ∃ slot : Nat, ∃ e, s.dev.isRunning c x ∧ tb = x.fld 16
        0 8 ∧ i = x.fld 20 0 32 ∧ isOp 0x11 x = true ∧ tabForm x = none ∧ x.fld 17 0 1 = 1 ∧ tb ≠ tMac ∧ tb ≠ tDefault ∧ slot =
        (if x.fld 17 1 1 = 1 then s.dev.stagedSlot else s.dev.curSlot) ∧ s.dev.indexMine (s.dev.mayAs c) tb i (x.fld 17 4 2) =
        true ∧ s.dev.tab tb i = some e ∧ e.bad.testBit (x.fld 17 4 2) = false ∧ e.vis.testBit slot = true ∧ recLen tb
        e.image.toNat = x.fld 18 0 16 ∧ ioChoice io 0 ≠ 1 ∧ io.wrErr = false ∧ (s.dev.ep c.ep).up = true) ∧
    (∃ s : State, ∃ c : CmdRef, ∃ io : Io, ∃ x : Cmd, ∃ tb : Nat, ∃ r : Nat, s.dev.isRunning c x ∧ tb = x.fld 16 0 8 ∧ isOp 0x12 x =
        true ∧ tabForm x = none ∧ x.fld 17 0 2 = 0 ∧ tb = tMac ∧ ioRecord io (x.fld 18 0 16) = some r ∧ recLen tb r = x.fld 18 0
        16 ∧ s.dev.macFind (x.fld 17 4 2) x.polder (fld r 22 0 14) (fld r 16 0 48) = none) ∧
    (∃ s : State, ∃ c : CmdRef, ∃ io : Io, ∃ x : Cmd, ∃ tb : Nat, ∃ r : Nat, ∃ j : Nat, ∃ e : MacEnt, s.dev.isRunning c x ∧ tb =
        x.fld 16 0 8 ∧ isOp 0x12 x = true ∧ tabForm x = none ∧ x.fld 17 0 2 = 0 ∧ tb = tMac ∧ ioRecord io (x.fld 18 0 16) = some
        r ∧ recLen tb r = x.fld 18 0 16 ∧ s.dev.macFind (x.fld 17 4 2) x.polder (fld r 22 0 14) (fld r 16 0 48) = some (j, e) ∧
        e.valid = true ∧ ioChoice io 0 = 1) ∧
    (∃ s : State, ∃ c : CmdRef, ∃ io : Io, ∃ x : Cmd, ∃ tb : Nat, ∃ r : Nat, ∃ j : Nat, ∃ e : MacEnt, s.dev.isRunning c x ∧ tb =
        x.fld 16 0 8 ∧ isOp 0x12 x = true ∧ tabForm x = none ∧ x.fld 17 0 2 = 0 ∧ tb = tMac ∧ ioRecord io (x.fld 18 0 16) = some
        r ∧ recLen tb r = x.fld 18 0 16 ∧ s.dev.macFind (x.fld 17 4 2) x.polder (fld r 22 0 14) (fld r 16 0 48) = some (j, e) ∧
        e.valid = true ∧ ioChoice io 0 ≠ 1 ∧ io.wrErr = false ∧ (s.dev.ep c.ep).up = true) ∧
    (∃ s : State, ∃ c : CmdRef, ∃ io : Io, ∃ x : Cmd, ∃ tb : Nat, ∃ i : Nat, ∃ bs : List Byte, ∃ j : Nat, ∃ e : TabEnt,
        s.dev.isRunning c x ∧ tb = x.fld 16 0 8 ∧ i = x.fld 20 0 32 ∧ isOp 0x14 x = true ∧ x.scratch = [] ∧ isTable tb = true ∧
        tb ≠ tMac ∧ tb ≠ tDefault ∧ x.fld 17 1 1 = 0 ∧ x.fld 18 0 16 % 8 = 0 ∧ 8 + recLen tb 0 ≤ x.fld 18 0 16 ∧ i = 1 ∧ io.rd =
        some bs ∧ bs.length = x.fld 18 0 16 ∧ leNat (bs.take 8) = 5 + j * 2 ^ 32 ∧ j < lastIndex tb ∧ s.dev.tab tb j = some e ∧
        s.dev.indexMine (s.dev.mayAs c) tb j 0 = true) ∧
    (∃ s : State, ∃ c : CmdRef, ∃ io : Io, ∃ x : Cmd, ∃ tb : Nat, ∃ i : Nat, s.dev.isRunning c x ∧ tb = x.fld 16 0 8 ∧ i = x.fld 20
        0 32 ∧ isOp 0x14 x = true ∧ x.scratch = [] ∧ isTable tb = true ∧ x.fld 18 0 16 % 8 = 0 ∧ 8 + recLen tb 0 ≤ x.fld 18 0 16
        ∧ 1 ≤ i ∧ i ≤ 1048576 ∧ io.rd = none) :=
  ⟨⟨run ({ cmd 0x13 [(16, 0, 8, 9), (17, 0, 8, 1)] with auth := 1 })
     ({ dev0 with rle := { ents := [(tabKey 9 0, some { polder := 1 })] } }), c0,
     { cmd 0x13 [(16, 0, 8, 9), (17, 0, 8, 1)] with auth := 1 }, _, _, isRunning_intro (by decide +kernel), rfl, rfl,
     by decide +kernel⟩,
   ⟨run (cmd 0x13 [(16, 0, 8, 12), (17, 0, 8, 8), (18, 0, 16, 24)]) ({ dev0 with rle := { ents := [(tabKey 12 0, some {})] } }),
     c0, {}, cmd 0x13 [(16, 0, 8, 12), (17, 0, 8, 8), (18, 0, 16, 24)], _, ((tabRecord (cmd 0x13 [(16, 0, 8, 12), (17, 0, 8, 8),
     (18, 0, 16, 24)]) {}).getD 0), (0, {}), isRunning_intro (by decide +kernel), rfl, by decide +kernel⟩,
   ⟨run (cmd 0x13 [(16, 0, 8, 12), (17, 0, 8, 8), (18, 0, 16, 24)]), c0, {}, cmd 0x13 [(16, 0, 8, 12), (17, 0, 8, 8), (18, 0, 16,
     24)], _, ((tabRecord (cmd 0x13 [(16, 0, 8, 12), (17, 0, 8, 8), (18, 0, 16, 24)]) {}).getD 0), isRunning_intro
     (by decide +kernel), rfl, by decide +kernel⟩,
   ⟨run (cmd 0x13 [(17, 0, 8, 8), (18, 0, 16, 32)]), c0, {}, cmd 0x13 [(17, 0, 8, 8), (18, 0, 16, 32)], _, ((tabRecord (cmd 0x13
     [(17, 0, 8, 8), (18, 0, 16, 32)]) {}).getD 0), isRunning_intro (by decide +kernel), rfl, by decide +kernel⟩,
   ⟨run (cmd 0x11 [(16, 0, 8, 9), (17, 0, 8, 1), (18, 0, 16, 4)])
     ({ dev0 with rle := { ents := [(tabKey 9 0, some { bad := 1 })] } }), c0, cmd 0x11 [(16, 0, 8, 9), (17, 0, 8, 1), (18, 0,
     16, 4)], _, _, _, ({ bad := 1 } : TabEnt), isRunning_intro (by decide +kernel), rfl, rfl, by decide +kernel,
     by decide +kernel, by decide +kernel, by decide +kernel, by decide +kernel, rfl, by decide +kernel⟩,
   ⟨run (cmd 0x11 [(16, 0, 8, 9), (17, 0, 8, 1), (18, 0, 16, 4)]) ({ dev0 with rle := { ents := [(tabKey 9 0, some {})] } }), c0,
     { pick := [1] }, cmd 0x11 [(16, 0, 8, 9), (17, 0, 8, 1), (18, 0, 16, 4)], _, _, _, ({} : TabEnt), isRunning_intro
     (by decide +kernel), rfl, rfl, by decide +kernel, by decide +kernel, by decide +kernel, by decide +kernel,
     by decide +kernel, rfl, by decide +kernel⟩,
   ⟨run (cmd 0x11 [(16, 0, 8, 9), (17, 0, 8, 1), (18, 0, 16, 4)]) ({ dev0 with rle := { ents := [(tabKey 9 0, some {})] } }), c0,
     {}, cmd 0x11 [(16, 0, 8, 9), (17, 0, 8, 1), (18, 0, 16, 4)], _, _, _, ({} : TabEnt), isRunning_intro (by decide +kernel),
     rfl, rfl, by decide +kernel, by decide +kernel, by decide +kernel, by decide +kernel, by decide +kernel, rfl,
     by decide +kernel⟩,
   ⟨run (cmd 0x12 [(18, 0, 16, 32)]), c0, { rd := some (List.replicate 32 0) }, cmd 0x12 [(18, 0, 16, 32)], _, 0, isRunning_intro
     (by decide +kernel), rfl, by decide +kernel⟩,
   ⟨run (cmd 0x12 [(18, 0, 16, 32)])
     ({ dev0 with lrn := { quads := [(0, { ents := [(0, some { mac := 0, domain := 0, polder := 0 })] })] } }), c0,
     { rd := some (List.replicate 32 0), pick := [1] }, cmd 0x12 [(18, 0, 16, 32)], _, 0, 0,
     { mac := 0, domain := 0, polder := 0 }, isRunning_intro (by decide +kernel), rfl, by decide +kernel⟩,
   ⟨run (cmd 0x12 [(18, 0, 16, 32)])
     ({ dev0 with lrn := { quads := [(0, { ents := [(0, some { mac := 0, domain := 0, polder := 0 })] })] } }), c0,
     { rd := some (List.replicate 32 0) }, cmd 0x12 [(18, 0, 16, 32)], _, 0, 0, { mac := 0, domain := 0, polder := 0 },
     isRunning_intro (by decide +kernel), rfl, by decide +kernel⟩,
   ⟨run (cmd 0x14 [(16, 0, 8, 9), (18, 0, 16, 16), (20, 0, 32, 1)]) ({ dev0 with rle := { ents := [(tabKey 9 0, some {})] } }), c0,
     { rd := some [5, 0, 0, 0, 0, 0, 0, 0, 0, 0, 0, 0, 0, 0, 0, 0] }, cmd 0x14 [(16, 0, 8, 9), (18, 0, 16, 16), (20, 0, 32, 1)],
     _, _, ([5, 0, 0, 0, 0, 0, 0, 0, 0, 0, 0, 0, 0, 0, 0, 0] : List Byte), 0, {}, isRunning_intro (by decide +kernel), rfl, rfl,
     by decide +kernel⟩,
   ⟨run (cmd 0x14 [(16, 0, 8, 9), (18, 0, 16, 16), (20, 0, 32, 1)]), c0, { rd := none }, cmd 0x14 [(16, 0, 8, 9), (18, 0, 16, 16),
     (20, 0, 32, 1)], _, _, isRunning_intro (by decide +kernel), rfl, rfl, by decide +kernel⟩⟩

theorem witness_TableCommandsComplete_3 :
    (∃ s : State, ∃ c : CmdRef, ∃ io : Io, ∃ x : Cmd, ∃ tb : Nat, ∃ i : Nat, ∃ o, s.dev.isRunning c x ∧ tb = x.fld 16 0 8 ∧ i =
        x.fld 20 0 32 ∧ isOp 0x15 x = true ∧ x.scratch = [] ∧ isTable tb = true ∧ ioChoice io 0 = 0 ∧ io.wrErr = false ∧ o =
        walkOut tb (s.dev.auditMasks tb (x.fld 17 4 2)) true (s.dev.walk (fun p => s.dev.mayAs c (some p)) tb (x.fld 17 4 2) i
        (i + x.fld 24 0 32)) (x.fld 40 0 32) ∧ o.2.2 = none) ∧
    (∃ s : State, ∃ c : CmdRef, ∃ io : Io, ∃ x : Cmd, ∃ tb : Nat, ∃ i : Nat, ∃ o, ∃ k : Nat, s.dev.isRunning c x ∧ tb = x.fld 16 0 8
        ∧ i = x.fld 20 0 32 ∧ isOp 0x15 x = true ∧ x.scratch = [] ∧ isTable tb = true ∧ ioChoice io 0 = 0 ∧ io.wrErr = false ∧ o
        = walkOut tb (s.dev.auditMasks tb (x.fld 17 4 2)) true (s.dev.walk (fun p => s.dev.mayAs c (some p)) tb (x.fld 17 4 2) i
        (i + x.fld 24 0 32)) (x.fld 40 0 32) ∧ o.2.2 = some k) ∧
    (∃ s : State, ∃ c : CmdRef, ∃ io : Io, ∃ x : Cmd, ∃ tb : Nat, ∃ i : Nat, ∃ o, s.dev.isRunning c x ∧ tb = x.fld 16 0 8 ∧ i =
        x.fld 20 0 32 ∧ isOp 0x15 x = true ∧ x.scratch = [] ∧ isTable tb = true ∧ ioChoice io 0 = 0 ∧ io.wrErr = false ∧ o =
        walkOut tb (s.dev.auditMasks tb (x.fld 17 4 2)) true (s.dev.walk (fun p => s.dev.mayAs c (some p)) tb (x.fld 17 4 2) i
        (i + x.fld 24 0 32)) (x.fld 40 0 32) ∧ o.1 ≠ [] ∧ (s.dev.ep c.ep).up = true) ∧
    (∃ s : State, ∃ c : CmdRef, ∃ io : Io, ∃ x : Cmd, ∃ tb : Nat, ∃ i : Nat, ∃ o, s.dev.isRunning c x ∧ tb = x.fld 16 0 8 ∧ i =
        x.fld 20 0 32 ∧ isOp 0x16 x = true ∧ x.scratch = [] ∧ isTable tb = true ∧ ioChoice io 0 = 0 ∧ io.wrErr = false ∧ o =
        walkOut tb (s.dev.auditMasks tb (x.fld 17 4 2)) false (s.dev.walk (fun p => s.dev.mayAs c (some p)) tb (x.fld 17 4 2) i
        (i + x.fld 24 0 32)) (x.fld 40 0 32) ∧ o.2.2 = none) ∧
    (∃ s : State, ∃ c : CmdRef, ∃ io : Io, ∃ x : Cmd, ∃ tb : Nat, ∃ i : Nat, ∃ o, ∃ k : Nat, s.dev.isRunning c x ∧ tb = x.fld 16 0 8
        ∧ i = x.fld 20 0 32 ∧ isOp 0x16 x = true ∧ x.scratch = [] ∧ isTable tb = true ∧ ioChoice io 0 = 0 ∧ io.wrErr = false ∧ o
        = walkOut tb (s.dev.auditMasks tb (x.fld 17 4 2)) false (s.dev.walk (fun p => s.dev.mayAs c (some p)) tb (x.fld 17 4 2)
        i (i + x.fld 24 0 32)) (x.fld 40 0 32) ∧ o.2.2 = some k) ∧
    (∃ s : State, ∃ c : CmdRef, ∃ io : Io, ∃ x : Cmd, ∃ tb : Nat, ∃ i : Nat, ∃ o, s.dev.isRunning c x ∧ tb = x.fld 16 0 8 ∧ i =
        x.fld 20 0 32 ∧ isOp 0x16 x = true ∧ x.scratch = [] ∧ isTable tb = true ∧ ioChoice io 0 = 0 ∧ io.wrErr = false ∧ o =
        walkOut tb (s.dev.auditMasks tb (x.fld 17 4 2)) false (s.dev.walk (fun p => s.dev.mayAs c (some p)) tb (x.fld 17 4 2) i
        (i + x.fld 24 0 32)) (x.fld 40 0 32) ∧ o.1 ≠ [] ∧ (s.dev.ep c.ep).up = true) :=
  ⟨⟨run (cmd 0x15 [(16, 0, 8, 9), (24, 0, 32, 1), (40, 0, 32, 64)]) ({ dev0 with rle := { ents := [(tabKey 9 0, some {})] } }), c0,
     {}, cmd 0x15 [(16, 0, 8, 9), (24, 0, 32, 1), (40, 0, 32, 64)], _, _, _, isRunning_intro (by decide +kernel), rfl, rfl,
     by decide +kernel, by decide +kernel, by decide +kernel, by decide +kernel, by decide +kernel, rfl, by decide +kernel⟩,
   ⟨run (cmd 0x15 [(16, 0, 8, 9), (24, 0, 32, 1), (40, 0, 32, 0)])
     ({ dev0 with rle := { ents := [(tabKey 9 0, some { bad := 2 })] } }), c0, {}, cmd 0x15 [(16, 0, 8, 9), (24, 0, 32, 1), (40,
     0, 32, 0)], _, _, _, 0, isRunning_intro (by decide +kernel), rfl, rfl, by decide +kernel, by decide +kernel,
     by decide +kernel, by decide +kernel, by decide +kernel, rfl, by decide +kernel⟩,
   ⟨run (cmd 0x15 [(16, 0, 8, 9), (24, 0, 32, 1), (40, 0, 32, 64)])
     ({ dev0 with rle := { ents := [(tabKey 9 0, some { bad := 2 })] } }), c0, {}, cmd 0x15 [(16, 0, 8, 9), (24, 0, 32, 1), (40,
     0, 32, 64)], _, _, _, isRunning_intro (by decide +kernel), rfl, rfl, by decide +kernel, by decide +kernel,
     by decide +kernel, by decide +kernel, by decide +kernel, rfl, by decide +kernel⟩,
   ⟨run (cmd 0x16 [(16, 0, 8, 9), (24, 0, 32, 1), (40, 0, 32, 64)]) ({ dev0 with rle := { ents := [(tabKey 9 0, some {})] } }), c0,
     {}, cmd 0x16 [(16, 0, 8, 9), (24, 0, 32, 1), (40, 0, 32, 64)], _, _, _, isRunning_intro (by decide +kernel), rfl, rfl,
     by decide +kernel, by decide +kernel, by decide +kernel, by decide +kernel, by decide +kernel, rfl, by decide +kernel⟩,
   ⟨run (cmd 0x16 [(16, 0, 8, 9), (24, 0, 32, 1), (40, 0, 32, 0)]) ({ dev0 with rle := { ents := [(tabKey 9 0, some {})] } }), c0,
     {}, cmd 0x16 [(16, 0, 8, 9), (24, 0, 32, 1), (40, 0, 32, 0)], _, _, _, 0, isRunning_intro (by decide +kernel), rfl, rfl,
     by decide +kernel, by decide +kernel, by decide +kernel, by decide +kernel, by decide +kernel, rfl, by decide +kernel⟩,
   ⟨run (cmd 0x16 [(16, 0, 8, 9), (24, 0, 32, 1), (40, 0, 32, 64)]) ({ dev0 with rle := { ents := [(tabKey 9 0, some {})] } }), c0,
     {}, cmd 0x16 [(16, 0, 8, 9), (24, 0, 32, 1), (40, 0, 32, 64)], _, _, _, isRunning_intro (by decide +kernel), rfl, rfl,
     by decide +kernel, by decide +kernel, by decide +kernel, by decide +kernel, by decide +kernel, rfl, by decide +kernel⟩⟩

theorem witness_SpillwayMovesPackets :
    (∃ s : State, ∃ backlog : List Nat, nextRound 4096 s.dev.spw.rrLrq (fun i => (s.dev.lrqReady (i / 8) (i % 8)).isSome) = none ∧
        s.dev.spillTurn backlog = none) ∧
    (∃ s : State, ∃ backlog : List Nat, ∃ p : Nat, ∃ i : Nat, ∃ k : Nat, ∃ pre : List Ent, ∃ post : List Ent, ∃ e : Ent, ∃ x : Pkt,
        ∃ sg : Nat, nextRound 4096 s.dev.spw.rrLrq (fun i => (s.dev.lrqReady (i / 8) (i % 8)).isSome) = none ∧ s.dev.spillTurn
        backlog = some (p, i) ∧ k = 512 * p + i ∧ (s.dev.queue k).ents = pre ++ e :: post ∧ (∀ f ∈ pre, f.part ≠ .staging) ∧
        e.part = .staging ∧ s.dev.pkt? e.pid = some x ∧ (s.dev.queue k).chain.getLast? = some sg ∧ 0 < x.need ∧ (s.dev.queue
        k).fill + x.need ≤ segCells sg) ∧
    (∃ s : State, ∃ backlog : List Nat, ∃ p : Nat, ∃ i : Nat, ∃ k : Nat, ∃ pre : List Ent, ∃ post : List Ent, ∃ e : Ent, ∃ x : Pkt,
        ∃ segs : List Nat, ∃ d : Dev, nextRound 4096 s.dev.spw.rrLrq (fun i => (s.dev.lrqReady (i / 8) (i % 8)).isSome) = none ∧
        s.dev.spillTurn backlog = some (p, i) ∧ k = 512 * p + i ∧ (s.dev.queue k).ents = pre ++ e :: post ∧ (∀ f ∈ pre, f.part ≠
        .staging) ∧ e.part = .staging ∧ s.dev.pkt? e.pid = some x ∧ s.dev.writeCells backlog k x.need [] = some (segs, d) ∧
        (s.dev.queue k).wantsSeg = true) ∧
    (∃ s : State, ∃ a : Nat, ∃ c : Nat, ∃ i : Nat, ∃ pid : Nat, ∃ x : Pkt, i = 8 * a + c ∧ c < 8 ∧ nextRound 4096 s.dev.spw.rrLrq
        (fun i => (s.dev.lrqReady (i / 8) (i % 8)).isSome) = some i ∧ s.dev.lrqReady a c = some (pid, x)) ∧
    (∃ s : State, ∃ k : Nat, ∃ err : BasinErr, s.dev.readNext k = none ∧ err ≠ .state) ∧
    (∃ s : State, ∃ k : Nat, k < 8192 ∧ (s.dev.queue k).flooded = true) ∧
    (∃ s : State, ∃ k : Nat, ∃ e : Ent, ∃ sg : Nat, ∃ slot : Nat, ∃ cl : Nat, ∃ d : Dev, k < 8192 ∧ s.dev.readNext k = some (e,
        false) ∧ placeOf e.segs e.slot e.own.length = some (sg, slot) ∧ e.own.length + 1 < s.dev.entCells e ∧ (s.dev.queue
        k).returned < 1024 ∧ s.dev.spw.stacksDown = 0 ∧ s.dev.takeReturn false e.own.getLast? = some (cl, d)) ∧
    (∃ s : State, ∃ k : Nat, ∃ e : Ent, ∃ sg : Nat, ∃ slot : Nat, ∃ cl : Nat, ∃ d : Dev, k < 8192 ∧ s.dev.readNext k = some (e,
        false) ∧ placeOf e.segs e.slot e.own.length = some (sg, slot) ∧ e.own.length + 1 < s.dev.entCells e ∧ (s.dev.queue
        k).returned < 1024 ∧ s.dev.spw.stacksDown = 0 ∧ segTier sg = 0 ∧ (s.dev.hbmFixed (stackOf (s.dev.basinAddr sg
        slot))).takeReturn false e.own.getLast? = some (cl, d)) ∧
    (∃ s : State, ∃ k : Nat, ∃ e : Ent, ∃ sg : Nat, ∃ slot : Nat, k < 8192 ∧ s.dev.readNext k = some (e, false) ∧ placeOf e.segs
        e.slot e.own.length = some (sg, slot) ∧ sg < 2 ^ 21) ∧
    (∃ s : State, s.dev.spw.detached = []) ∧
    (∃ s : State, ∃ sg : Nat, ∃ rest : List Nat, s.dev.spw.detached = sg :: rest ∧ sg ∈ s.dev.spw.condemned) ∧
    (∃ s : State, ∃ p : Nat, ∃ c : Nat, ∃ pid : Nat, ∃ rest : List Nat, ∃ x : Pkt, ∃ err : BasinErr, (s.dev.lrq p c).frames = pid ::
        rest ∧ s.dev.pkt? pid = some x ∧ (err = .clean ∨ err = .corrected → (Dev.takeMany x.need [] s.dev).isSome = true)) :=
  ⟨⟨st dev0, ([] : List Nat), by decide +kernel⟩,
   ⟨st
     { queued 0 (pkt0) ({ pid := 0, part := .staging } : Ent) (dev0) with dp := { (queued 0 (pkt0) ({ pid := 0, part := .staging } : Ent) (dev0)).dp with queues := [(0, { ents := [({ pid := 0, part := .staging } : Ent)], flooded := true, chain := [0] })] } },
     ([] : List Nat), 0, 0, _, ([] : List Ent), ([] : List Ent), ({ pid := 0, part := .staging } : Ent), pkt0, 0,
     by decide +kernel, by decide +kernel, rfl, by decide +kernel⟩,
   ⟨st
     { queued 0 (pkt0) ({ pid := 0, part := .staging } : Ent) (dev0) with dp := { (queued 0 (pkt0) ({ pid := 0, part := .staging } : Ent) (dev0)).dp with queues := [(0, { ents := [({ pid := 0, part := .staging } : Ent)], flooded := true })] } },
     ([] : List Nat), 0, 0, _, ([] : List Ent), ([] : List Ent), ({ pid := 0, part := .staging } : Ent), pkt0, ((((st
     ({ queued 0 (pkt0) ({ pid := 0, part := .staging } : Ent) (dev0) with dp := { (queued 0 (pkt0) ({ pid := 0, part := .staging } : Ent) (dev0)).dp with queues := [(0, { ents := [({ pid := 0, part := .staging } : Ent)], flooded := true })] } })).dev).writeCells
     [] 0 1 []).map Prod.fst).getD [], ((((st
     ({ queued 0 (pkt0) ({ pid := 0, part := .staging } : Ent) (dev0) with dp := { (queued 0 (pkt0) ({ pid := 0, part := .staging } : Ent) (dev0)).dp with queues := [(0, { ents := [({ pid := 0, part := .staging } : Ent)], flooded := true })] } })).dev).writeCells
     [] 0 1 []).map Prod.snd).getD {}, by decide +kernel, by decide +kernel, rfl, by decide +kernel⟩,
   ⟨st { queued 0 ({ pkt0 with written := 1 } : Pkt) with spw := { lrqs := [(0, { staged := [0] })] } }, 0, 0, _, 0,
     ({ pkt0 with written := 1 } : Pkt), rfl, by decide +kernel⟩,
   ⟨st dev0, 0, BasinErr.clean, by decide +kernel⟩,
   ⟨st
     { queued 0 ({ pkt0 with bytes := List.replicate 600 0 }) ({ pid := 0, part := .basin, segs := [0] } : Ent) (dev0) with dp := { (queued 0 ({ pkt0 with bytes := List.replicate 600 0 }) ({ pid := 0, part := .basin, segs := [0] } : Ent) (dev0)).dp with queues := [(0, { ents := [({ pid := 0, part := .basin, segs := [0] } : Ent)], flooded := true, chain := [0] })] } },
     0, by decide +kernel⟩,
   ⟨st
     { queued 0 ({ pkt0 with bytes := List.replicate 600 0 }) ({ pid := 0, part := .basin, segs := [0] } : Ent) (dev0) with dp := { (queued 0 ({ pkt0 with bytes := List.replicate 600 0 }) ({ pid := 0, part := .basin, segs := [0] } : Ent) (dev0)).dp with queues := [(0, { ents := [({ pid := 0, part := .basin, segs := [0] } : Ent)], flooded := true, chain := [0] })] } },
     0, ({ pid := 0, part := .basin, segs := [0] } : Ent), 0, 0,
     ((({ queued 0 ({ pkt0 with bytes := List.replicate 600 0 }) ({ pid := 0, part := .basin, segs := [0] } : Ent) (dev0) with dp := { (queued 0 ({ pkt0 with bytes := List.replicate 600 0 }) ({ pid := 0, part := .basin, segs := [0] } : Ent) (dev0)).dp with queues := [(0, { ents := [({ pid := 0, part := .basin, segs := [0] } : Ent)], flooded := true, chain := [0] })] } }).takeReturn
     false none).map Prod.fst).getD 0,
     ((({ queued 0 ({ pkt0 with bytes := List.replicate 600 0 }) ({ pid := 0, part := .basin, segs := [0] } : Ent) (dev0) with dp := { (queued 0 ({ pkt0 with bytes := List.replicate 600 0 }) ({ pid := 0, part := .basin, segs := [0] } : Ent) (dev0)).dp with queues := [(0, { ents := [({ pid := 0, part := .basin, segs := [0] } : Ent)], flooded := true, chain := [0] })] } }).takeReturn
     false none).map Prod.snd).getD {}, by decide +kernel⟩,
   ⟨st
     { queued 0 ({ pkt0 with bytes := List.replicate 600 0 }) ({ pid := 0, part := .basin, segs := [0] } : Ent) (dev0) with dp := { (queued 0 ({ pkt0 with bytes := List.replicate 600 0 }) ({ pid := 0, part := .basin, segs := [0] } : Ent) (dev0)).dp with queues := [(0, { ents := [({ pid := 0, part := .basin, segs := [0] } : Ent)], flooded := true, chain := [0] })] } },
     0, ({ pid := 0, part := .basin, segs := [0] } : Ent), 0, 0,
     (((({ queued 0 ({ pkt0 with bytes := List.replicate 600 0 }) ({ pid := 0, part := .basin, segs := [0] } : Ent) (dev0) with dp := { (queued 0 ({ pkt0 with bytes := List.replicate 600 0 }) ({ pid := 0, part := .basin, segs := [0] } : Ent) (dev0)).dp with queues := [(0, { ents := [({ pid := 0, part := .basin, segs := [0] } : Ent)], flooded := true, chain := [0] })] } }).hbmFixed
     (stackOf
     (({ queued 0 ({ pkt0 with bytes := List.replicate 600 0 }) ({ pid := 0, part := .basin, segs := [0] } : Ent) (dev0) with dp := { (queued 0 ({ pkt0 with bytes := List.replicate 600 0 }) ({ pid := 0, part := .basin, segs := [0] } : Ent) (dev0)).dp with queues := [(0, { ents := [({ pid := 0, part := .basin, segs := [0] } : Ent)], flooded := true, chain := [0] })] } }).basinAddr
     0 0))).takeReturn false none).map Prod.fst).getD 0,
     (((({ queued 0 ({ pkt0 with bytes := List.replicate 600 0 }) ({ pid := 0, part := .basin, segs := [0] } : Ent) (dev0) with dp := { (queued 0 ({ pkt0 with bytes := List.replicate 600 0 }) ({ pid := 0, part := .basin, segs := [0] } : Ent) (dev0)).dp with queues := [(0, { ents := [({ pid := 0, part := .basin, segs := [0] } : Ent)], flooded := true, chain := [0] })] } }).hbmFixed
     (stackOf
     (({ queued 0 ({ pkt0 with bytes := List.replicate 600 0 }) ({ pid := 0, part := .basin, segs := [0] } : Ent) (dev0) with dp := { (queued 0 ({ pkt0 with bytes := List.replicate 600 0 }) ({ pid := 0, part := .basin, segs := [0] } : Ent) (dev0)).dp with queues := [(0, { ents := [({ pid := 0, part := .basin, segs := [0] } : Ent)], flooded := true, chain := [0] })] } }).basinAddr
     0 0))).takeReturn false none).map Prod.snd).getD {}, by decide +kernel⟩,
   ⟨st
     { queued 0 ({ pkt0 with bytes := List.replicate 600 0 }) ({ pid := 0, part := .basin, segs := [0] } : Ent) (dev0) with dp := { (queued 0 ({ pkt0 with bytes := List.replicate 600 0 }) ({ pid := 0, part := .basin, segs := [0] } : Ent) (dev0)).dp with queues := [(0, { ents := [({ pid := 0, part := .basin, segs := [0] } : Ent)], flooded := true, chain := [0] })] } },
     0, ({ pid := 0, part := .basin, segs := [0] } : Ent), 0, 0, by decide +kernel⟩,
   ⟨st dev0, by decide +kernel⟩,
   ⟨st { dev0 with spw := { detached := [0], condemned := [0] } }, 0, ([] : List Nat), by decide +kernel⟩,
   ⟨st { queued 0 with spw := { lrqs := [(0, { frames := [0] })] } }, 0, 0, 0, ([] : List Nat), pkt0, .clean, by decide +kernel⟩⟩

theorem witness_SpillwayMovesPackets_2 :
    (∃ s : State, ∃ p : Nat, ∃ cause : Nat, p < 4 ∧ cause < 3 ∧ (s.dev.cxl p).inService = true) ∧
    (∃ s : State, ∃ p : Nat, (s.dev.cxl p).enumerating = true ∧ (s.dev.cxl p).step = 0 ∧ s.dev.regRuns 1 = true) ∧
    (∃ s : State, ∃ p : Nat, ∃ w : Nat, ∃ r : Nat, p < 4 ∧ (s.dev.cxl p).enumerating = true ∧ (s.dev.cxl p).step ≠ 0 ∧ (w = 16 ∨ w =
        8) ∧ (r = 64 ∨ r = 32)) ∧
    (∃ s : State, ∃ p : Nat, ∃ f : Nat, ∃ w : Nat, ∃ r : Nat, p < 4 ∧ (s.dev.cxl p).enumerating = true ∧ (s.dev.cxl p).step ≠ 0 ∧ (1
        ≤ f ∧ f ≤ 6 ∨ f = 0 ∧ ¬((w = 16 ∨ w = 8) ∧ (r = 64 ∨ r = 32)))) ∧
    (∃ s : State, ∃ sg : Nat, sg ∈ s.dev.spw.stray ∧ s.dev.regRuns 1 = true ∧ sg ∈ s.dev.spw.condemned) ∧
    (∃ k : Nat, k < 4) :=
  ⟨⟨st { dev0 with spw := { cxl := [(0, { inService := true })] } }, 0, 0, by decide +kernel⟩,
   ⟨st { dev0 with spw := { cxl := [(0, { enumerating := true })] } }, 0, by decide +kernel⟩,
   ⟨st { dev0 with spw := { cxl := [(0, { enumerating := true, step := 1 })] } }, 0, 16, 64, by decide +kernel⟩,
   ⟨st { dev0 with spw := { cxl := [(0, { enumerating := true, step := 1 })] } }, 0, 0, 4, 64, by decide +kernel⟩,
   ⟨st { dev0 with spw := { stray := [0], condemned := [0] } }, 0, by decide +kernel⟩,
   ⟨0, by decide +kernel⟩⟩

theorem witness_SpillCommandsComplete :
    (∃ s : State, ∃ c : CmdRef, ∃ x : Cmd, ∃ k : Nat, s.dev.isRunning c x ∧ k = x.fld 16 0 13 ∧ isOpAct 0x62 (18, 0, 2) 0 x = true ∧
        s.dev.isPort (k / 16) = false) ∧
    (∃ s : State, ∃ c : CmdRef, ∃ x : Cmd, ∃ k : Nat, s.dev.isRunning c x ∧ k = x.fld 16 0 13 ∧ isOpAct 0x62 (18, 0, 2) 0 x = true ∧
        s.dev.isPort (k / 16) = true ∧ 0 < x.fld 20 0 16 ∧ x.fld 20 0 16 < 256) ∧
    (∃ s : State, ∃ c : CmdRef, ∃ x : Cmd, ∃ k : Nat, s.dev.isRunning c x ∧ k = x.fld 16 0 13 ∧ isOpAct 0x62 (18, 0, 2) 0 x = true ∧
        s.dev.isPort (k / 16) = true ∧ (x.fld 20 0 16 = 0 ∨ 256 ≤ x.fld 20 0 16)) ∧
    (∃ s : State, ∃ c : CmdRef, ∃ x : Cmd, ∃ k : Nat, s.dev.isRunning c x ∧ k = x.fld 16 0 13 ∧ isOpAct 0x62 (18, 0, 2) 2 x = true ∧
        s.dev.isPort (k / 16) = false) ∧
    (∃ s : State, ∃ c : CmdRef, ∃ x : Cmd, ∃ k : Nat, s.dev.isRunning c x ∧ k = x.fld 16 0 13 ∧ isOpAct 0x62 (18, 0, 2) 2 x = true ∧
        s.dev.isPort (k / 16) = true) ∧
    (∃ s : State, ∃ c : CmdRef, ∃ x : Cmd, ∃ a : Nat, ∃ k : Nat, s.dev.isRunning c x ∧ a = x.fld 16 0 10 ∧ k = x.fld 19 0 3 ∧ x.fld
        16 10 3 = 0 ∧ s.dev.isPort a = true ∧ isOpAct 0x62 (18, 0, 2) 1 x = true ∧ ((s.dev.lrq a k).frames ≠ [] ∨ (s.dev.acct
        a).closed.testBit k = true)) ∧
    (∃ s : State, ∃ c : CmdRef, ∃ x : Cmd, ∃ a : Nat, ∃ k : Nat, ∃ mib : Nat, s.dev.isRunning c x ∧ a = x.fld 16 0 10 ∧ k = x.fld 19
        0 3 ∧ mib = x.fld 28 0 16 ∧ x.fld 16 10 3 = 0 ∧ s.dev.isPort a = true ∧ isOpAct 0x62 (18, 0, 2) 1 x = true ∧ (s.dev.lrq
        a k).frames = [] ∧ (s.dev.acct a).closed.testBit k = false ∧ 0 < mib ∧ (s.dev.acct a).hr.getD k 0 < 2048) ∧
    (∃ s : State, ∃ c : CmdRef, ∃ x : Cmd, ∃ a : Nat, ∃ k : Nat, ∃ mib : Nat, s.dev.isRunning c x ∧ a = x.fld 16 0 10 ∧ k = x.fld 19
        0 3 ∧ mib = x.fld 28 0 16 ∧ x.fld 16 10 3 = 0 ∧ s.dev.isPort a = true ∧ isOpAct 0x62 (18, 0, 2) 1 x = true ∧ (s.dev.lrq
        a k).frames = [] ∧ (s.dev.acct a).closed.testBit k = false ∧ (mib = 0 ∨ 2048 ≤ (s.dev.acct a).hr.getD k 0) ∧
        s.dev.spw.map.longReach * 1024 < s.dev.lrTotal a k mib) ∧
    (∃ s : State, ∃ c : CmdRef, ∃ x : Cmd, ∃ a : Nat, ∃ k : Nat, ∃ mib : Nat, s.dev.isRunning c x ∧ a = x.fld 16 0 10 ∧ k = x.fld 19
        0 3 ∧ mib = x.fld 28 0 16 ∧ x.fld 16 10 3 = 0 ∧ s.dev.isPort a = true ∧ isOpAct 0x62 (18, 0, 2) 1 x = true ∧ (s.dev.lrq
        a k).frames = [] ∧ (s.dev.acct a).closed.testBit k = false ∧ (mib = 0 ∨ 2048 ≤ (s.dev.acct a).hr.getD k 0) ∧
        s.dev.lrTotal a k mib ≤ s.dev.spw.map.longReach * 1024 ∧ 0 < mib ∧ 6400 < s.dev.lrRate a) ∧
    (∃ s : State, ∃ c : CmdRef, ∃ x : Cmd, ∃ a : Nat, ∃ k : Nat, ∃ mib : Nat, s.dev.isRunning c x ∧ a = x.fld 16 0 10 ∧ k = x.fld 19
        0 3 ∧ mib = x.fld 28 0 16 ∧ x.fld 16 10 3 = 0 ∧ s.dev.isPort a = true ∧ isOpAct 0x62 (18, 0, 2) 1 x = true ∧ (s.dev.lrq
        a k).frames = [] ∧ (s.dev.acct a).closed.testBit k = false ∧ (mib = 0 ∨ 2048 ≤ (s.dev.acct a).hr.getD k 0) ∧
        s.dev.lrTotal a k mib ≤ s.dev.spw.map.longReach * 1024 ∧ (mib = 0 ∨ s.dev.lrRate a ≤ 6400)) ∧
    (∃ s : State, ∃ c : CmdRef, ∃ x : Cmd, ∃ a : Nat, s.dev.isRunning c x ∧ a = x.fld 16 0 10 ∧ x.fld 16 10 3 = 0 ∧ s.dev.isPort a =
        true ∧ isOpAct 0x62 (18, 0, 2) 3 x = true) ∧
    (∃ s : State, ∃ c : CmdRef, ∃ x : Cmd, s.dev.isRunning c x ∧ isOpAct 0x62 (18, 0, 2) 1 x = true ∧ x.fld 16 10 3 ≠ 0) :=
  ⟨⟨run (cmd 0x62 [(16, 0, 13, 144)]), c0, cmd 0x62 [(16, 0, 13, 144)], _, isRunning_intro (by decide +kernel), rfl,
     by decide +kernel⟩,
   ⟨run (cmd 0x62 [(20, 0, 16, 255)]) (port0 .up), c0, cmd 0x62 [(20, 0, 16, 255)], _, isRunning_intro (by decide +kernel), rfl,
     by decide +kernel⟩,
   ⟨run (cmd 0x62) (port0 .up), c0, cmd 0x62, _, isRunning_intro (by decide +kernel), rfl, by decide +kernel⟩,
   ⟨run (cmd 0x62 [(16, 0, 13, 144), (18, 0, 2, 2)]), c0, cmd 0x62 [(16, 0, 13, 144), (18, 0, 2, 2)], _, isRunning_intro
     (by decide +kernel), rfl, by decide +kernel⟩,
   ⟨run (cmd 0x62 [(18, 0, 2, 2)]) (port0 .up), c0, cmd 0x62 [(18, 0, 2, 2)], _, isRunning_intro (by decide +kernel), rfl,
     by decide +kernel⟩,
   ⟨run (cmd 0x62 [(18, 0, 2, 1)]) ({ port0 .up with spw := { lrqs := [(0, { frames := [0] })] } }), c0, cmd 0x62 [(18, 0, 2, 1)],
     _, _, isRunning_intro (by decide +kernel), rfl, rfl, by decide +kernel⟩,
   ⟨run (cmd 0x62 [(18, 0, 2, 1), (28, 0, 16, 1)]) (port0 .up), c0, cmd 0x62 [(18, 0, 2, 1), (28, 0, 16, 1)], _, _, _,
     isRunning_intro (by decide +kernel), rfl, rfl, rfl, by decide +kernel⟩,
   ⟨run (cmd 0x62 [(18, 0, 2, 1), (28, 0, 16, 65535)])
     ({ { port0 .up with bpm := { accts := [(0, { hr := [4096] })] } } with spw := { map := { longReach := 0 } } }), c0, cmd
     0x62 [(18, 0, 2, 1), (28, 0, 16, 65535)], _, _, _, isRunning_intro (by decide +kernel), rfl, rfl, rfl, by decide +kernel⟩,
   ⟨run (cmd 0x62 [(18, 0, 2, 1), (28, 0, 16, 1)])
     ({ { port0 .up with bpm := { accts := [(0, { hr := [4096] })] } } with pte := { (port0 .up).pte with ports := (List.range 9).map (fun i => (8 * i, p0)) }, spw := { lrqs := (List.range 9).map (fun i => (64 * i, { mib := 1 })) } }),
     c0, cmd 0x62 [(18, 0, 2, 1), (28, 0, 16, 1)], _, _, _, isRunning_intro (by decide +kernel), rfl, rfl, rfl,
     by decide +kernel⟩,
   ⟨run (cmd 0x62 [(18, 0, 2, 1), (28, 0, 16, 1)]) ({ port0 .up with bpm := { accts := [(0, { hr := [4096] })] } }), c0, cmd 0x62
     [(18, 0, 2, 1), (28, 0, 16, 1)], _, _, _, isRunning_intro (by decide +kernel), rfl, rfl, rfl, by decide +kernel⟩,
   ⟨run (cmd 0x62 [(18, 0, 2, 3)]) (port0 .up), c0, cmd 0x62 [(18, 0, 2, 3)], _, isRunning_intro (by decide +kernel), rfl,
     by decide +kernel⟩,
   ⟨run (cmd 0x62 [(18, 0, 2, 1), (16, 10, 3, 1)]) (port0 .up), c0, cmd 0x62 [(18, 0, 2, 1), (16, 10, 3, 1)], isRunning_intro
     (by decide +kernel), by decide +kernel⟩⟩

theorem witness_SpillCommandsComplete_2 :
    (∃ s : State, ∃ c : CmdRef, ∃ x : Cmd, ∃ a : Nat, s.dev.isRunning c x ∧ a = x.fld 16 0 10 ∧ isOpAct 0x62 (18, 0, 2) 1 x = true ∧
        x.fld 16 10 3 = 0 ∧ s.dev.isPort a = false) ∧
    (∃ s : State, ∃ c : CmdRef, ∃ x : Cmd, s.dev.isRunning c x ∧ isOpAct 0x62 (18, 0, 2) 3 x = true ∧ x.fld 16 10 3 ≠ 0) ∧
    (∃ s : State, ∃ c : CmdRef, ∃ x : Cmd, ∃ a : Nat, s.dev.isRunning c x ∧ a = x.fld 16 0 10 ∧ isOpAct 0x62 (18, 0, 2) 3 x = true ∧
        x.fld 16 10 3 = 0 ∧ s.dev.isPort a = false) :=
  ⟨⟨run (cmd 0x62 [(18, 0, 2, 1), (16, 0, 10, 9)]), c0, cmd 0x62 [(18, 0, 2, 1), (16, 0, 10, 9)], _, isRunning_intro
     (by decide +kernel), rfl, by decide +kernel⟩,
   ⟨run (cmd 0x62 [(18, 0, 2, 3), (16, 10, 3, 1)]) (port0 .up), c0, cmd 0x62 [(18, 0, 2, 3), (16, 10, 3, 1)], isRunning_intro
     (by decide +kernel), by decide +kernel⟩,
   ⟨run (cmd 0x62 [(18, 0, 2, 3), (16, 0, 10, 9)]), c0, cmd 0x62 [(18, 0, 2, 3), (16, 0, 10, 9)], _, isRunning_intro
     (by decide +kernel), rfl, by decide +kernel⟩⟩

theorem witness_TideGaugeSamplesAndReports :
    (∃ s : State, ∃ p : Nat, ∃ q, s.dev.isPort p = true ∧ (s.dev.gauge p).enable ≠ 0 ∧ q < 20 ∧ (s.dev.gauge p).enable.testBit q =
        true) ∧
    (∃ s : State, ∃ p : Nat, (s.dev.isPort p = false ∨ (s.dev.gauge p).enable = 0)) ∧
    (∃ s : State, ∃ p : Nat, s.dev.isPort p = true ∧ (s.dev.gauge p).enable ≠ 0 ∧ (s.dev.gauge p).exportMs ≠ 0 ∧ (s.dev.gauge
        p).archive = true ∧ 0 < s.dev.archCap) ∧
    (∃ s : State, ∃ p : Nat, s.dev.isPort p = true ∧ (s.dev.gauge p).enable ≠ 0 ∧ (s.dev.gauge p).exportMs ≠ 0 ∧ (s.dev.gauge
        p).archive = false) ∧
    (∃ s : State, ∃ p : Nat, ∃ q, s.dev.isPort p = true ∧ (s.dev.gauge p).enable ≠ 0 ∧ (s.dev.gauge p).exportMs ≠ 0 ∧ q < 20 ∧
        (s.dev.gauge p).enable.testBit q = true) ∧
    (∃ s : State, ∃ c : CmdRef, ∃ x : Cmd, ∃ p : Nat, s.dev.isRunning c x ∧ p = x.fld 16 0 10 ∧ isOpAct 0x53 (18, 0, 2) 0 x = true ∧
        s.dev.isPort p = false) ∧
    (∃ s : State, ∃ c : CmdRef, ∃ x : Cmd, ∃ p : Nat, s.dev.isRunning c x ∧ p = x.fld 16 0 10 ∧ isOpAct 0x53 (18, 0, 2) 0 x = true ∧
        s.dev.isPort p = true ∧ 4000 < x.fld 24 0 12) ∧
    (∃ s : State, ∃ c : CmdRef, ∃ x : Cmd, ∃ p : Nat, s.dev.isRunning c x ∧ p = x.fld 16 0 10 ∧ isOpAct 0x53 (18, 0, 2) 0 x = true ∧
        s.dev.isPort p = true ∧ x.fld 24 0 12 ≤ 4000 ∧ 60000 < x.fld 26 0 16) ∧
    (∃ s : State, ∃ c : CmdRef, ∃ x : Cmd, ∃ p : Nat, s.dev.isRunning c x ∧ p = x.fld 16 0 10 ∧ isOpAct 0x53 (18, 0, 2) 0 x = true ∧
        s.dev.isPort p = true ∧ x.fld 24 0 12 ≤ 4000 ∧ x.fld 26 0 16 ≤ 60000) ∧
    (∃ s : State, ∃ c : CmdRef, ∃ x : Cmd, ∃ p : Nat, s.dev.isRunning c x ∧ p = x.fld 16 0 10 ∧ isOpAct 0x53 (18, 0, 2) 1 x = true ∧
        s.dev.isPort p = false) ∧
    (∃ s : State, ∃ c : CmdRef, ∃ x : Cmd, ∃ p : Nat, s.dev.isRunning c x ∧ p = x.fld 16 0 10 ∧ isOpAct 0x53 (18, 0, 2) 1 x = true ∧
        s.dev.isPort p = true ∧ 20 ≤ x.fld 19 0 5) ∧
    (∃ s : State, ∃ c : CmdRef, ∃ x : Cmd, ∃ p : Nat, s.dev.isRunning c x ∧ p = x.fld 16 0 10 ∧ isOpAct 0x53 (18, 0, 2) 1 x = true ∧
        s.dev.isPort p = true ∧ x.fld 19 0 5 < 20 ∧ x.fld 32 0 6 ≠ 0) :=
  ⟨⟨st { port0 .up with esc := { gauges := [(0, { enable := 1 })] } }, 0, 0, by decide +kernel⟩,
   ⟨st dev0, 0, by decide +kernel⟩,
   ⟨st { port0 .up with esc := { gauges := [(0, { enable := 1, exportMs := 1, archive := true })] } }, 0, by decide +kernel⟩,
   ⟨st { port0 .up with esc := { gauges := [(0, { enable := 1, exportMs := 1 })] } }, 0, by decide +kernel⟩,
   ⟨st { port0 .up with esc := { gauges := [(0, { enable := 1, exportMs := 1 })] } }, 0, 0, by decide +kernel⟩,
   ⟨run (cmd 0x53 [(16, 0, 10, 9)]), c0, cmd 0x53 [(16, 0, 10, 9)], _, isRunning_intro (by decide +kernel), rfl, by decide +kernel⟩,
   ⟨run (cmd 0x53 [(24, 0, 12, 4001)]) (port0 .up), c0, cmd 0x53 [(24, 0, 12, 4001)], _, isRunning_intro (by decide +kernel), rfl,
     by decide +kernel⟩,
   ⟨run (cmd 0x53 [(24, 0, 12, 4000), (26, 0, 16, 60001)]) (port0 .up), c0, cmd 0x53 [(24, 0, 12, 4000), (26, 0, 16, 60001)], _,
     isRunning_intro (by decide +kernel), rfl, by decide +kernel⟩,
   ⟨run (cmd 0x53) (port0 .up), c0, cmd 0x53, _, isRunning_intro (by decide +kernel), rfl, by decide +kernel⟩,
   ⟨run (cmd 0x53 [(16, 0, 10, 9), (18, 0, 2, 1)]), c0, cmd 0x53 [(16, 0, 10, 9), (18, 0, 2, 1)], _, isRunning_intro
     (by decide +kernel), rfl, by decide +kernel⟩,
   ⟨run (cmd 0x53 [(18, 0, 2, 1), (19, 0, 5, 20)]) (port0 .up), c0, cmd 0x53 [(18, 0, 2, 1), (19, 0, 5, 20)], _, isRunning_intro
     (by decide +kernel), rfl, by decide +kernel⟩,
   ⟨run (cmd 0x53 [(18, 0, 2, 1), (32, 0, 6, 1)]) (port0 .up), c0, cmd 0x53 [(18, 0, 2, 1), (32, 0, 6, 1)], _, isRunning_intro
     (by decide +kernel), rfl, by decide +kernel⟩⟩

theorem witness_TideGaugeSamplesAndReports_2 :
    (∃ s : State, ∃ c : CmdRef, ∃ x : Cmd, ∃ p : Nat, s.dev.isRunning c x ∧ p = x.fld 16 0 10 ∧ isOpAct 0x53 (18, 0, 2) 1 x = true ∧
        s.dev.isPort p = true ∧ x.fld 19 0 5 < 20 ∧ x.fld 32 0 6 = 0 ∧ x.fld 44 0 32 < 192) ∧
    (∃ s : State, ∃ c : CmdRef, ∃ io : Io, ∃ x : Cmd, ∃ p : Nat, s.dev.isRunning c x ∧ p = x.fld 16 0 10 ∧ isOpAct 0x53 (18, 0, 2) 1
        x = true ∧ s.dev.isPort p = true ∧ x.fld 19 0 5 < 20 ∧ x.fld 32 0 6 = 0 ∧ 192 ≤ x.fld 44 0 32 ∧ io.wrErr = true) ∧
    (∃ s : State, ∃ c : CmdRef, ∃ io : Io, ∃ x : Cmd, ∃ p : Nat, s.dev.isRunning c x ∧ p = x.fld 16 0 10 ∧ isOpAct 0x53 (18, 0, 2) 1
        x = true ∧ s.dev.isPort p = true ∧ x.fld 19 0 5 < 20 ∧ x.fld 32 0 6 = 0 ∧ 192 ≤ x.fld 44 0 32 ∧ io.wrErr = false ∧
        (s.dev.ep c.ep).up = true) ∧
    (∃ s : State, ∃ c : CmdRef, ∃ io : Io, ∃ x : Cmd, s.dev.isRunning c x ∧ isOpAct 0x53 (18, 0, 2) 2 x = true ∧ x.steps = 0 ∧
        x.scratch = [] ∧ io.pick = [] ∧ x.fld 32 0 6 ≠ 0) ∧
    (∃ s : State, ∃ c : CmdRef, ∃ io : Io, ∃ x : Cmd, s.dev.isRunning c x ∧ isOpAct 0x53 (18, 0, 2) 2 x = true ∧ x.steps = 0 ∧
        x.scratch = [] ∧ io.pick = [] ∧ x.fld 32 0 6 = 0 ∧ x.fld 44 0 32 < 192) ∧
    (∃ s : State, ∃ c : CmdRef, ∃ io : Io, ∃ x : Cmd, ∃ src : List (Nat × Nat × BitVec 1536), ∃ good : List (Nat × Nat × BitVec
        1536), s.dev.isRunning c x ∧ isOpAct 0x53 (18, 0, 2) 2 x = true ∧ x.steps = 0 ∧ x.scratch = [] ∧ io.pick = [] ∧ x.fld 32
        0 6 = 0 ∧ 192 ≤ x.fld 44 0 32 ∧ src = s.dev.esc.archive.filter (fun r => decide ((r.1 + 2 ^ 32 - x.fld 40 0 32) % 2 ^ 32
        < 2 ^ 31)) ∧ good = src.filter (fun r => s.dev.mayAs c none || s.dev.mayAs c (some r.2.1)) ∧ io.wrErr = true) ∧
    (∃ s : State, ∃ c : CmdRef, ∃ io : Io, ∃ x : Cmd, ∃ src : List (Nat × Nat × BitVec 1536), ∃ good : List (Nat × Nat × BitVec
        1536), ∃ put : List (Nat × Nat × BitVec 1536), s.dev.isRunning c x ∧ isOpAct 0x53 (18, 0, 2) 2 x = true ∧ x.steps = 0 ∧
        x.scratch = [] ∧ io.pick = [] ∧ x.fld 32 0 6 = 0 ∧ 192 ≤ x.fld 44 0 32 ∧ src = s.dev.esc.archive.filter (fun r => decide
        ((r.1 + 2 ^ 32 - x.fld 40 0 32) % 2 ^ 32 < 2 ^ 31)) ∧ good = src.filter (fun r => s.dev.mayAs c none || s.dev.mayAs c
        (some r.2.1)) ∧ put = good.take (x.fld 44 0 32 / 192) ∧ io.wrErr = false ∧ put ≠ [] ∧ (s.dev.ep c.ep).up = true) :=
  ⟨⟨run (cmd 0x53 [(18, 0, 2, 1), (44, 0, 32, 191)]) (port0 .up), c0, cmd 0x53 [(18, 0, 2, 1), (44, 0, 32, 191)], _,
     isRunning_intro (by decide +kernel), rfl, by decide +kernel⟩,
   ⟨run (cmd 0x53 [(18, 0, 2, 1), (44, 0, 32, 192)]) (port0 .up), c0, { wrErr := true }, cmd 0x53 [(18, 0, 2, 1), (44, 0, 32,
     192)], _, isRunning_intro (by decide +kernel), rfl, by decide +kernel⟩,
   ⟨run (cmd 0x53 [(18, 0, 2, 1), (44, 0, 32, 192)]) (port0 .up), c0, {}, cmd 0x53 [(18, 0, 2, 1), (44, 0, 32, 192)], _,
     isRunning_intro (by decide +kernel), rfl, by decide +kernel⟩,
   ⟨run (cmd 0x53 [(18, 0, 2, 2), (32, 0, 6, 1)]), c0, {}, cmd 0x53 [(18, 0, 2, 2), (32, 0, 6, 1)], isRunning_intro
     (by decide +kernel), by decide +kernel⟩,
   ⟨run (cmd 0x53 [(18, 0, 2, 2), (44, 0, 32, 191)]), c0, {}, cmd 0x53 [(18, 0, 2, 2), (44, 0, 32, 191)], isRunning_intro
     (by decide +kernel), by decide +kernel⟩,
   ⟨run (cmd 0x53 [(18, 0, 2, 2), (44, 0, 32, 192)]) ({ dev0 with esc := { archive := [(0, 0, 5)] } }), c0, { wrErr := true }, cmd
     0x53 [(18, 0, 2, 2), (44, 0, 32, 192)], _, _, isRunning_intro (by decide +kernel), by decide +kernel, by decide +kernel,
     by decide +kernel, by decide +kernel, by decide +kernel, by decide +kernel, rfl, rfl, by decide +kernel⟩,
   ⟨run (cmd 0x53 [(18, 0, 2, 2), (44, 0, 32, 192)]) ({ dev0 with esc := { archive := [(0, 0, 5)] } }), c0, {}, cmd 0x53 [(18, 0,
     2, 2), (44, 0, 32, 192)], _, _, _, isRunning_intro (by decide +kernel), by decide +kernel, by decide +kernel,
     by decide +kernel, by decide +kernel, by decide +kernel, by decide +kernel, rfl, rfl, rfl, by decide +kernel⟩⟩

theorem witness_MinuteRepeaterCountsAndExports :
    (∃ s : State, s.dev.corePowered = false) ∧
    (∃ s : State, ∃ p : Nat, ∃ b : Nat, s.dev.corePowered = true ∧ p < 8 ∧ (s.dev.polder p).st ≠ .undefined ∧ s.dev.bankIn p .opened
        = some b ∧ (s.dev.bank p (1 - b)).st = .free) ∧
    (∃ s : State, ∃ p : Nat, ∃ b : Nat, s.dev.corePowered = true ∧ p < 8 ∧ (s.dev.polder p).st ≠ .undefined ∧ s.dev.bankIn p .opened
        = some b ∧ (s.dev.bank p (1 - b)).st ≠ .free) ∧
    (∃ s : State, ∃ p : Nat, s.dev.bankIn p .closing = none) ∧
    (∃ s : State, ∃ p : Nat, ∃ b : Nat, s.dev.bankIn p .closing = some b ∧ (s.dev.mrpRing p).enable = true) ∧
    (∃ s : State, ∃ p : Nat, ∃ b : Nat, s.dev.bankIn p .closing = some b ∧ (s.dev.mrpRing p).enable = false) ∧
    (∃ s : State, ∃ p : Nat, ((s.dev.ep (s.dev.polder p).owner).up = false ∨ s.dev.regRuns 3 = false)) ∧
    (∃ s : State, ∃ p : Nat, ∃ b : Nat, ∃ first, ∃ skipped, ∃ r : List Byte, ∃ rest, ∃ more, (s.dev.ep (s.dev.polder p).owner).up =
        true ∧ s.dev.regRuns 3 = true ∧ (s.dev.mrpRing p).runs = (b, first, skipped, r :: rest) :: more ∧ ((s.dev.mrpRing
        p).extra = [] ∨ (s.dev.mrpRing p).written ≠ 0) ∧ (s.dev.mrpRing p).room r.length = false) ∧
    (∃ s : State, ∃ p : Nat, ∃ b : Nat, ∃ first, ∃ skipped, ∃ r : List Byte, ∃ rest, ∃ more, (s.dev.ep (s.dev.polder p).owner).up =
        true ∧ s.dev.regRuns 3 = true ∧ (s.dev.mrpRing p).runs = (b, first, skipped, r :: rest) :: more ∧ ((s.dev.mrpRing
        p).extra = [] ∨ (s.dev.mrpRing p).written ≠ 0) ∧ (s.dev.mrpRing p).room r.length = true) ∧
    (∃ s : State, ∃ p : Nat, ∃ b : Nat, ∃ first, ∃ skipped, ∃ more, (s.dev.ep (s.dev.polder p).owner).up = true ∧ s.dev.regRuns 3 =
        true ∧ (s.dev.mrpRing p).runs = (b, first, skipped, []) :: more ∧ (s.dev.mrpRing p).room 64 = true) ∧
    (∃ s : State, ∃ p : Nat, ∃ r : List Byte, ∃ rest, (s.dev.ep (s.dev.polder p).owner).up = true ∧ s.dev.regRuns 3 = true ∧
        (s.dev.mrpRing p).runs = [] ∧ (s.dev.mrpRing p).extra = r :: rest ∧ (s.dev.mrpRing p).room r.length = true) ∧
    (∃ s : State, ∃ i : Nat, s.dev.mrp.merging[i]? = none) :=
  ⟨⟨st { dev0 with bal := {} }, by decide +kernel⟩,
   ⟨st { dev0 with mrp := { banks := [(0, { st := .opened, epochs := [0] })] } }, 0, 0, by decide +kernel⟩,
   ⟨st { dev0 with mrp := { banks := [(0, { st := .opened, epochs := [0] }), (1, { st := .exporting })] } }, 0, 0,
     by decide +kernel⟩,
   ⟨st dev0, 0, by decide +kernel⟩,
   ⟨st { dev0 with mrp := { banks := [(0, { st := .closing })], rings := [(0, { enable := true })] } }, 0, 0, by decide +kernel⟩,
   ⟨st { dev0 with mrp := { banks := [(0, { st := .closing })] } }, 0, 0, by decide +kernel⟩,
   ⟨st { dev0 with hif := {} }, 0, by decide +kernel⟩,
   ⟨st
     { dev0 with mrp := { rings := [(0, { enable := true, cons := 1, sizeLog2 := 6, prod := 65, runs := [(0, 0, 0, [(List.replicate 64 0 : List Byte)])] })] } },
     0, 0, 0, 0, (List.replicate 64 0 : List Byte), ([] : List (List Byte)), ([] : List (Nat × Nat × Nat × List (List Byte))),
     by decide +kernel⟩,
   ⟨st { dev0 with mrp := { rings := [(0, { enable := true, runs := [(0, 0, 0, [(List.replicate 64 0 : List Byte)])] })] } }, 0, 0,
     0, 0, (List.replicate 64 0 : List Byte), ([] : List (List Byte)), ([] : List (Nat × Nat × Nat × List (List Byte))),
     by decide +kernel⟩,
   ⟨st { dev0 with mrp := { rings := [(0, { enable := true, runs := [(0, 0, 0, [])] })] } }, 0, 0, 0, 0, ([] : List (Nat × Nat ×
     Nat × List (List Byte))), by decide +kernel⟩,
   ⟨st { dev0 with mrp := { rings := [(0, { enable := true, extra := [(List.replicate 64 0 : List Byte)] })] } }, 0,
     (List.replicate 64 0 : List Byte), ([] : List (List Byte)), by decide +kernel⟩,
   ⟨st dev0, 0, by decide +kernel⟩⟩

theorem witness_MinuteRepeaterCountsAndExports_2 :
    (∃ s : State, ∃ i : Nat, ∃ u : Merge, ∃ b : Nat, s.dev.mrp.merging[i]? = some u ∧ s.dev.bankOf u.polder u.epoch = some b) ∧
    (∃ s : State, ∃ i : Nat, ∃ u : Merge, s.dev.mrp.merging[i]? = some u ∧ s.dev.bankOf u.polder u.epoch = none ∧ s.dev.mrp.late =
        []) ∧
    (∃ s : State, s.dev.mrp.misses = []) ∧
    (∃ s : State, ∃ f : Flow, ∃ slot : Nat, ∃ rest : List (Flow × Nat), ∃ used : Nat, s.dev.mrp.misses = (f, slot) :: rest ∧ used =
        (if s.dev.mrp.budgetTick = s.dev.bal.tick / 25 then s.dev.mrp.budgetUsed else 0) ∧ used < 9375 ∧ tget s.dev.mrp.flows
        none slot = none ∧ slot < s.dev.ledgerSlots ∧ s.dev.flowsOf f.polder < s.dev.ledgerCap f.polder) ∧
    (∃ s : State, ∃ f : Flow, ∃ slot : Nat, ∃ rest : List (Flow × Nat), ∃ bad : Bool, ∃ used : Nat, ∃ g : Flow, s.dev.mrp.misses =
        (f, slot) :: rest ∧ used = (if s.dev.mrp.budgetTick = s.dev.bal.tick / 25 then s.dev.mrp.budgetUsed else 0) ∧ used <
        9375 ∧ tget s.dev.mrp.flows none slot = some g ∧ (bad = false ∨ g.cached = true) ∧ g.key = f.key ∧ g.polder = f.polder) ∧
    (∃ s : State, ∃ f : Flow, ∃ slot : Nat, ∃ rest : List (Flow × Nat), ∃ bad : Bool, ∃ used : Nat, ∃ g : Flow, s.dev.mrp.misses =
        (f, slot) :: rest ∧ used = (if s.dev.mrp.budgetTick = s.dev.bal.tick / 25 then s.dev.mrp.budgetUsed else 0) ∧ used <
        9375 ∧ tget s.dev.mrp.flows none slot = some g ∧ (bad = false ∨ g.cached = true) ∧ g.key ≠ f.key ∧ s.dev.flowIdle g =
        false) ∧
    (∃ s : State, ∃ f : Flow, ∃ slot : Nat, ∃ rest : List (Flow × Nat), ∃ used : Nat, s.dev.mrp.misses = (f, slot) :: rest ∧ used =
        (if s.dev.mrp.budgetTick = s.dev.bal.tick / 25 then s.dev.mrp.budgetUsed else 0) ∧ 9375 ≤ used) ∧
    (∃ s : State, ∃ slot : Nat, tget s.dev.mrp.flows none slot = none) ∧
    (∃ s : State, ∃ slot : Nat, ∃ f : Flow, tget s.dev.mrp.flows none slot = some f ∧ f.cached = false) ∧
    (∃ s : State, ∃ slot : Nat, ∃ f : Flow, tget s.dev.mrp.flows none slot = some f ∧ s.dev.flowIdle f = true ∧ (s.dev.mrpRing
        f.polder).enable = true ∧ (s.dev.mrpRing f.polder).ledger = true) ∧
    (∃ s : State, ∃ slot : Nat, ∃ f : Flow, tget s.dev.mrp.flows none slot = some f ∧ s.dev.flowIdle f = false ∧ 0 <
        (s.dev.ledgerCfg f.polder).activeS ∧ f.exportTick + (s.dev.ledgerCfg f.polder).activeS * 25000000 ≤ s.dev.bal.tick) ∧
    (∃ s : State, ∃ slot : Nat, ∃ f : Flow, tget s.dev.mrp.flows none slot = some f ∧ s.dev.flowIdle f = false ∧ ((s.dev.ledgerCfg
        f.polder).activeS = 0 ∨ s.dev.bal.tick < f.exportTick + (s.dev.ledgerCfg f.polder).activeS * 25000000)) :=
  ⟨⟨st
     { dev0 with mrp := { merging := [({ pipe := 0, tenant := 0, polder := 0, epoch := 0 } : Merge)], banks := [(0, { st := .opened, epochs := [0] })] } },
     0, ({ pipe := 0, tenant := 0, polder := 0, epoch := 0 } : Merge), 0, by decide +kernel⟩,
   ⟨st { dev0 with mrp := { merging := [({ pipe := 0, tenant := 0, polder := 0, epoch := 0 } : Merge)] } }, 0,
     ({ pipe := 0, tenant := 0, polder := 0, epoch := 0 } : Merge), by decide +kernel⟩,
   ⟨st dev0, by decide +kernel⟩,
   ⟨st { dev0 with mrp := { misses := [(({ key := 0, polder := 0, tenant := 0 } : Flow), 0)] } },
     ({ key := 0, polder := 0, tenant := 0 } : Flow), 0, [], _, by decide +kernel, rfl, by decide +kernel⟩,
   ⟨st
     { dev0 with mrp := { misses := [(({ key := 0, polder := 0, tenant := 0 } : Flow), 0)], flows := [(0, some ({ key := 0, polder := 0, tenant := 0, cached := false } : Flow))] } },
     ({ key := 0, polder := 0, tenant := 0 } : Flow), 0, [], false, _, ({ key := 0, polder := 0, tenant := 0, cached := false }
     : Flow), by decide +kernel, rfl, by decide +kernel⟩,
   ⟨st
     { dev0 with mrp := { misses := [(({ key := 0, polder := 0, tenant := 0 } : Flow), 0)], flows := [(0, some ({ key := 1, polder := 0, tenant := 0, cached := false } : Flow))] } },
     ({ key := 0, polder := 0, tenant := 0 } : Flow), 0, [], false, _, ({ key := 1, polder := 0, tenant := 0, cached := false }
     : Flow), by decide +kernel, rfl, by decide +kernel⟩,
   ⟨st { dev0 with mrp := { misses := [(({ key := 0, polder := 0, tenant := 0 } : Flow), 0)], budgetUsed := 9375 } },
     ({ key := 0, polder := 0, tenant := 0 } : Flow), 0, [], _, by decide +kernel, rfl, by decide +kernel⟩,
   ⟨st dev0, 0, by decide +kernel⟩,
   ⟨st { dev0 with mrp := { flows := [(0, some ({ key := 0, polder := 0, tenant := 0, cached := false } : Flow))] } }, 0,
     ({ key := 0, polder := 0, tenant := 0, cached := false } : Flow), by decide +kernel⟩,
   ⟨st
     { { dev0 with bal := { dev0.bal with tick := 1 } } with mrp := { flows := [(0, some ({ key := 0, polder := 0, tenant := 0, cached := false } : Flow))], ledgers := [(0, { idleS := 0 })], rings := [(0, { enable := true, ledger := true })] } },
     0, ({ key := 0, polder := 0, tenant := 0, cached := false } : Flow), by decide +kernel⟩,
   ⟨st
     { { dev0 with bal := { dev0.bal with tick := 25000000 } } with mrp := { flows := [(0, some ({ key := 0, polder := 0, tenant := 0, cached := false } : Flow))], ledgers := [(0, { activeS := 1 })] } },
     0, ({ key := 0, polder := 0, tenant := 0, cached := false } : Flow), by decide +kernel⟩,
   ⟨st { dev0 with mrp := { flows := [(0, some ({ key := 0, polder := 0, tenant := 0, cached := false } : Flow))] } }, 0,
     ({ key := 0, polder := 0, tenant := 0, cached := false } : Flow), by decide +kernel⟩⟩

theorem witness_MeterAndLedgerCommandsComplete :
    (∃ s : State, ∃ c : CmdRef, ∃ x : Cmd, s.dev.isRunning c x ∧ isOp 0x42 x = true ∧ 3600 < x.fld 20 0 16) ∧
    (∃ s : State, ∃ c : CmdRef, ∃ x : Cmd, s.dev.isRunning c x ∧ isOp 0x42 x = true ∧ x.fld 20 0 16 ≤ 3600 ∧ 3600 < x.fld 22 0 16) ∧
    (∃ s : State, ∃ c : CmdRef, ∃ x : Cmd, s.dev.isRunning c x ∧ isOp 0x42 x = true ∧ x.fld 20 0 16 ≤ 3600 ∧ x.fld 22 0 16 ≤ 3600) ∧
    (∃ s : State, ∃ c : CmdRef, ∃ x : Cmd, ∃ p : Nat, s.dev.isRunning c x ∧ p = x.fld 16 0 3 ∧ isOpAct 0x43 (17, 0, 2) 0 x = true ∧
        x.fld 18 0 1 = 1 ∧ (x.fld 19 0 5 < 6 ∨ 20 < x.fld 19 0 5)) ∧
    (∃ s : State, ∃ c : CmdRef, ∃ x : Cmd, ∃ p : Nat, s.dev.isRunning c x ∧ p = x.fld 16 0 3 ∧ isOpAct 0x43 (17, 0, 2) 0 x = true ∧
        x.fld 18 0 1 = 1 ∧ 6 ≤ x.fld 19 0 5 ∧ x.fld 19 0 5 ≤ 20 ∧ x.fld 24 0 64 % 4096 ≠ 0) ∧
    (∃ s : State, ∃ c : CmdRef, ∃ x : Cmd, ∃ p : Nat, s.dev.isRunning c x ∧ p = x.fld 16 0 3 ∧ isOpAct 0x43 (17, 0, 2) 0 x = true ∧
        x.fld 18 0 1 = 1 ∧ 6 ≤ x.fld 19 0 5 ∧ x.fld 19 0 5 ≤ 20 ∧ x.fld 24 0 64 % 4096 = 0 ∧ x.fld 32 0 64 % 8 ≠ 0) ∧
    (∃ s : State, ∃ c : CmdRef, ∃ x : Cmd, ∃ p : Nat, ∃ r : MrpRing, s.dev.isRunning c x ∧ p = x.fld 16 0 3 ∧ r = s.dev.mrpRing p ∧
        isOpAct 0x43 (17, 0, 2) 0 x = true ∧ x.fld 18 0 1 = 1 ∧ 6 ≤ x.fld 19 0 5 ∧ x.fld 19 0 5 ≤ 20 ∧ x.fld 24 0 64 % 4096 = 0
        ∧ x.fld 32 0 64 % 8 = 0 ∧ r.enable = false) ∧
    (∃ s : State, ∃ c : CmdRef, ∃ x : Cmd, ∃ p : Nat, ∃ r : MrpRing, s.dev.isRunning c x ∧ p = x.fld 16 0 3 ∧ r = s.dev.mrpRing p ∧
        isOpAct 0x43 (17, 0, 2) 0 x = true ∧ x.fld 18 0 1 = 1 ∧ 6 ≤ x.fld 19 0 5 ∧ x.fld 19 0 5 ≤ 20 ∧ x.fld 24 0 64 % 4096 = 0
        ∧ x.fld 32 0 64 % 8 = 0 ∧ r.enable = true ∧ x.fld 24 0 64 = r.base ∧ x.fld 19 0 5 = r.sizeLog2) ∧
    (∃ s : State, ∃ c : CmdRef, ∃ x : Cmd, ∃ p : Nat, ∃ r : MrpRing, s.dev.isRunning c x ∧ p = x.fld 16 0 3 ∧ r = s.dev.mrpRing p ∧
        isOpAct 0x43 (17, 0, 2) 0 x = true ∧ x.fld 18 0 1 = 1 ∧ 6 ≤ x.fld 19 0 5 ∧ x.fld 19 0 5 ≤ 20 ∧ x.fld 24 0 64 % 4096 = 0
        ∧ x.fld 32 0 64 % 8 = 0 ∧ r.enable = true ∧ (x.fld 24 0 64 ≠ r.base ∨ x.fld 19 0 5 ≠ r.sizeLog2)) ∧
    (∃ s : State, ∃ c : CmdRef, ∃ x : Cmd, ∃ p : Nat, ∃ r : MrpRing, ∃ y : Nat × Nat × Nat × List (List Byte), s.dev.isRunning c x ∧
        p = x.fld 16 0 3 ∧ r = s.dev.mrpRing p ∧ isOpAct 0x43 (17, 0, 2) 0 x = true ∧ x.fld 18 0 1 = 0 ∧ r.enable = true ∧ y ∈
        r.runs) ∧
    (∃ s : State, ∃ c : CmdRef, ∃ x : Cmd, ∃ p : Nat, s.dev.isRunning c x ∧ p = x.fld 16 0 3 ∧ isOpAct 0x43 (17, 0, 2) 1 x = true) ∧
    (∃ s : State, ∃ c : CmdRef, ∃ io : Io, ∃ x : Cmd, ∃ p : Nat, s.dev.isRunning c x ∧ p = x.fld 16 0 3 ∧ isOpAct 0x43 (17, 0, 2) 2
        x = true ∧ x.scratch = [] ∧ io.pick = []) :=
  ⟨⟨run (cmd 0x42 [(20, 0, 16, 3601)]), c0, cmd 0x42 [(20, 0, 16, 3601)], isRunning_intro (by decide +kernel), by decide +kernel⟩,
   ⟨run (cmd 0x42 [(20, 0, 16, 3600), (22, 0, 16, 3601)]), c0, cmd 0x42 [(20, 0, 16, 3600), (22, 0, 16, 3601)], isRunning_intro
     (by decide +kernel), by decide +kernel⟩,
   ⟨run (cmd 0x42), c0, cmd 0x42, isRunning_intro (by decide +kernel), by decide +kernel⟩,
   ⟨run (cmd 0x43 [(18, 0, 1, 1), (19, 0, 5, 5)]), c0, cmd 0x43 [(18, 0, 1, 1), (19, 0, 5, 5)], _, isRunning_intro
     (by decide +kernel), rfl, by decide +kernel⟩,
   ⟨run (cmd 0x43 [(18, 0, 1, 1), (19, 0, 5, 20), (24, 0, 64, 1)]), c0, cmd 0x43 [(18, 0, 1, 1), (19, 0, 5, 20), (24, 0, 64, 1)],
     _, isRunning_intro (by decide +kernel), rfl, by decide +kernel⟩,
   ⟨run (cmd 0x43 [(18, 0, 1, 1), (19, 0, 5, 6), (32, 0, 64, 1)]), c0, cmd 0x43 [(18, 0, 1, 1), (19, 0, 5, 6), (32, 0, 64, 1)], _,
     isRunning_intro (by decide +kernel), rfl, by decide +kernel⟩,
   ⟨run (cmd 0x43 [(18, 0, 1, 1), (19, 0, 5, 6)]), c0, cmd 0x43 [(18, 0, 1, 1), (19, 0, 5, 6)], _, _, isRunning_intro
     (by decide +kernel), rfl, rfl, by decide +kernel⟩,
   ⟨run (cmd 0x43 [(18, 0, 1, 1), (19, 0, 5, 6)]) ({ dev0 with mrp := { rings := [(0, { enable := true })] } }), c0, cmd 0x43 [(18,
     0, 1, 1), (19, 0, 5, 6)], _, _, isRunning_intro (by decide +kernel), rfl, rfl, by decide +kernel⟩,
   ⟨run (cmd 0x43 [(18, 0, 1, 1), (19, 0, 5, 7)]) ({ dev0 with mrp := { rings := [(0, { enable := true })] } }), c0, cmd 0x43 [(18,
     0, 1, 1), (19, 0, 5, 7)], _, _, isRunning_intro (by decide +kernel), rfl, rfl, by decide +kernel⟩,
   ⟨run (cmd 0x43) ({ dev0 with mrp := { rings := [(0, { enable := true, runs := [(0, 0, 0, [])] })] } }), c0, cmd 0x43, _, _, (0,
     0, 0, []), isRunning_intro (by decide +kernel), rfl, rfl, by decide +kernel⟩,
   ⟨run (cmd 0x43 [(17, 0, 2, 1)]), c0, cmd 0x43 [(17, 0, 2, 1)], _, isRunning_intro (by decide +kernel), rfl, by decide +kernel⟩,
   ⟨run (cmd 0x43 [(17, 0, 2, 2)]), c0, {}, cmd 0x43 [(17, 0, 2, 2)], _, isRunning_intro (by decide +kernel), rfl,
     by decide +kernel⟩⟩

theorem witness_MeterAndLedgerCommandsComplete_2 :
    (∃ s : State, ∃ c : CmdRef, ∃ x : Cmd, ∃ w : Nat, ∃ y : Weir, s.dev.isRunning c x ∧ isOpAct 0x44 (16, 0, 3) 0 x = true ∧ w =
        x.fld 20 0 18 ∧ s.dev.weir w = some y ∧ s.dev.mayAs c (some y.polder) = false) ∧
    (∃ s : State, ∃ c : CmdRef, ∃ x : Cmd, ∃ w : Nat, ∃ cfg : WeirCfg, s.dev.isRunning c x ∧ isOpAct 0x44 (16, 0, 3) 0 x = true ∧ w
        = x.fld 20 0 18 ∧ cfg =
        { aware := decide (x.fld 17 0 1 = 1), yellow := decide (x.fld 17 1 1 = 1), red := x.fld 17 2 2, yellowPrio := x.fld 18 0 3, redPrio := x.fld 18 3 3, cir := x.fld 24 0 32, pir := x.fld 28 0 32, cbs := x.fld 32 0 32, pbs := x.fld 36 0 32 }
        ∧ (∀ y, s.dev.weir w = some y → s.dev.mayAs c (some y.polder) = true) ∧ cfg.red = 3) ∧
    (∃ s : State, ∃ c : CmdRef, ∃ x : Cmd, ∃ w : Nat, ∃ cfg : WeirCfg, s.dev.isRunning c x ∧ isOpAct 0x44 (16, 0, 3) 0 x = true ∧ w
        = x.fld 20 0 18 ∧ cfg =
        { aware := decide (x.fld 17 0 1 = 1), yellow := decide (x.fld 17 1 1 = 1), red := x.fld 17 2 2, yellowPrio := x.fld 18 0 3, redPrio := x.fld 18 3 3, cir := x.fld 24 0 32, pir := x.fld 28 0 32, cbs := x.fld 32 0 32, pbs := x.fld 36 0 32 }
        ∧ (∀ y, s.dev.weir w = some y → s.dev.mayAs c (some y.polder) = true) ∧ cfg.red ≠ 3 ∧ (cfg.cir < 1000 ∨ 1600000000 <
        cfg.cir)) ∧
    (∃ s : State, ∃ c : CmdRef, ∃ x : Cmd, ∃ w : Nat, ∃ cfg : WeirCfg, s.dev.isRunning c x ∧ isOpAct 0x44 (16, 0, 3) 0 x = true ∧ w
        = x.fld 20 0 18 ∧ cfg =
        { aware := decide (x.fld 17 0 1 = 1), yellow := decide (x.fld 17 1 1 = 1), red := x.fld 17 2 2, yellowPrio := x.fld 18 0 3, redPrio := x.fld 18 3 3, cir := x.fld 24 0 32, pir := x.fld 28 0 32, cbs := x.fld 32 0 32, pbs := x.fld 36 0 32 }
        ∧ (∀ y, s.dev.weir w = some y → s.dev.mayAs c (some y.polder) = true) ∧ cfg.red ≠ 3 ∧ 1000 ≤ cfg.cir ∧ cfg.cir ≤
        1600000000 ∧ (cfg.pir < cfg.cir ∨ 1600000000 < cfg.pir)) ∧
    (∃ s : State, ∃ c : CmdRef, ∃ x : Cmd, ∃ w : Nat, ∃ cfg : WeirCfg, s.dev.isRunning c x ∧ isOpAct 0x44 (16, 0, 3) 0 x = true ∧ w
        = x.fld 20 0 18 ∧ cfg =
        { aware := decide (x.fld 17 0 1 = 1), yellow := decide (x.fld 17 1 1 = 1), red := x.fld 17 2 2, yellowPrio := x.fld 18 0 3, redPrio := x.fld 18 3 3, cir := x.fld 24 0 32, pir := x.fld 28 0 32, cbs := x.fld 32 0 32, pbs := x.fld 36 0 32 }
        ∧ (∀ y, s.dev.weir w = some y → s.dev.mayAs c (some y.polder) = true) ∧ cfg.red ≠ 3 ∧ 1000 ≤ cfg.cir ∧ cfg.cir ≤ cfg.pir
        ∧ cfg.pir ≤ 1600000000 ∧ (cfg.cbs < 64 ∨ 16777216 < cfg.cbs)) ∧
    (∃ s : State, ∃ c : CmdRef, ∃ x : Cmd, ∃ w : Nat, ∃ cfg : WeirCfg, s.dev.isRunning c x ∧ isOpAct 0x44 (16, 0, 3) 0 x = true ∧ w
        = x.fld 20 0 18 ∧ cfg =
        { aware := decide (x.fld 17 0 1 = 1), yellow := decide (x.fld 17 1 1 = 1), red := x.fld 17 2 2, yellowPrio := x.fld 18 0 3, redPrio := x.fld 18 3 3, cir := x.fld 24 0 32, pir := x.fld 28 0 32, cbs := x.fld 32 0 32, pbs := x.fld 36 0 32 }
        ∧ (∀ y, s.dev.weir w = some y → s.dev.mayAs c (some y.polder) = true) ∧ cfg.red ≠ 3 ∧ 1000 ≤ cfg.cir ∧ cfg.cir ≤ cfg.pir
        ∧ cfg.pir ≤ 1600000000 ∧ 64 ≤ cfg.cbs ∧ cfg.cbs ≤ 16777216 ∧ (cfg.pbs < 64 ∨ 16777216 < cfg.pbs)) ∧
    (∃ s : State, ∃ c : CmdRef, ∃ x : Cmd, ∃ w : Nat, ∃ cfg : WeirCfg, ∃ y : Weir, s.dev.isRunning c x ∧ isOpAct 0x44 (16, 0, 3) 0 x
        = true ∧ w = x.fld 20 0 18 ∧ cfg =
        { aware := decide (x.fld 17 0 1 = 1), yellow := decide (x.fld 17 1 1 = 1), red := x.fld 17 2 2, yellowPrio := x.fld 18 0 3, redPrio := x.fld 18 3 3, cir := x.fld 24 0 32, pir := x.fld 28 0 32, cbs := x.fld 32 0 32, pbs := x.fld 36 0 32 }
        ∧ (∀ y, s.dev.weir w = some y → s.dev.mayAs c (some y.polder) = true) ∧ cfg.red ≠ 3 ∧ 1000 ≤ cfg.cir ∧ cfg.cir ≤ cfg.pir
        ∧ cfg.pir ≤ 1600000000 ∧ 64 ≤ cfg.cbs ∧ cfg.cbs ≤ 16777216 ∧ 64 ≤ cfg.pbs ∧ cfg.pbs ≤ 16777216 ∧ s.dev.weir w = some y) ∧
    (∃ s : State, ∃ c : CmdRef, ∃ x : Cmd, ∃ w : Nat, ∃ cfg : WeirCfg, s.dev.isRunning c x ∧ isOpAct 0x44 (16, 0, 3) 0 x = true ∧ w
        = x.fld 20 0 18 ∧ cfg =
        { aware := decide (x.fld 17 0 1 = 1), yellow := decide (x.fld 17 1 1 = 1), red := x.fld 17 2 2, yellowPrio := x.fld 18 0 3, redPrio := x.fld 18 3 3, cir := x.fld 24 0 32, pir := x.fld 28 0 32, cbs := x.fld 32 0 32, pbs := x.fld 36 0 32 }
        ∧ (∀ y, s.dev.weir w = some y → s.dev.mayAs c (some y.polder) = true) ∧ cfg.red ≠ 3 ∧ 1000 ≤ cfg.cir ∧ cfg.cir ≤ cfg.pir
        ∧ cfg.pir ≤ 1600000000 ∧ 64 ≤ cfg.cbs ∧ cfg.cbs ≤ 16777216 ∧ 64 ≤ cfg.pbs ∧ cfg.pbs ≤ 16777216 ∧ s.dev.weir w = none ∧
        s.dev.weirCount x.polder (w / 65536) < s.dev.quota x.polder 11) ∧
    (∃ s : State, ∃ c : CmdRef, ∃ x : Cmd, ∃ w : Nat, ∃ cfg : WeirCfg, s.dev.isRunning c x ∧ isOpAct 0x44 (16, 0, 3) 0 x = true ∧ w
        = x.fld 20 0 18 ∧ cfg =
        { aware := decide (x.fld 17 0 1 = 1), yellow := decide (x.fld 17 1 1 = 1), red := x.fld 17 2 2, yellowPrio := x.fld 18 0 3, redPrio := x.fld 18 3 3, cir := x.fld 24 0 32, pir := x.fld 28 0 32, cbs := x.fld 32 0 32, pbs := x.fld 36 0 32 }
        ∧ (∀ y, s.dev.weir w = some y → s.dev.mayAs c (some y.polder) = true) ∧ cfg.red ≠ 3 ∧ 1000 ≤ cfg.cir ∧ cfg.cir ≤ cfg.pir
        ∧ cfg.pir ≤ 1600000000 ∧ 64 ≤ cfg.cbs ∧ cfg.cbs ≤ 16777216 ∧ 64 ≤ cfg.pbs ∧ cfg.pbs ≤ 16777216 ∧ s.dev.weir w = none ∧
        s.dev.quota x.polder 11 ≤ s.dev.weirCount x.polder (w / 65536)) ∧
    (∃ s : State, ∃ c : CmdRef, ∃ x : Cmd, ∃ w : Nat, s.dev.isRunning c x ∧ w = x.fld 20 0 18 ∧ isOpAct 0x44 (16, 0, 3) 1 x = true ∧
        s.dev.weir w = none) ∧
    (∃ s : State, ∃ c : CmdRef, ∃ x : Cmd, ∃ w : Nat, ∃ y : Weir, s.dev.isRunning c x ∧ w = x.fld 20 0 18 ∧ isOpAct 0x44 (16, 0, 3)
        1 x = true ∧ s.dev.weir w = some y ∧ s.dev.mayAs c (some y.polder) = false) ∧
    (∃ s : State, ∃ c : CmdRef, ∃ x : Cmd, ∃ w : Nat, ∃ y : Weir, s.dev.isRunning c x ∧ w = x.fld 20 0 18 ∧ isOpAct 0x44 (16, 0, 3)
        1 x = true ∧ s.dev.weir w = some y ∧ s.dev.mayAs c (some y.polder) = true ∧ y.last = s.dev.bal.tick ∧ y.c ≤ y.cfg.cbs *
        200000 ∧ y.p ≤ y.cfg.pbs * 200000) :=
  ⟨⟨run ({ (cmd 0x44 [(24, 0, 32, 1000), (28, 0, 32, 1000), (32, 0, 32, 64), (36, 0, 32, 64)]) with auth := 0 })
     ({ dev0 with mrp := { weirs := [(0, some ({ polder := 0, cfg := ({ cir := 1000, pir := 1000, cbs := 64, pbs := 64 } : WeirCfg) } : Weir))] } }),
     c0, { (cmd 0x44 [(24, 0, 32, 1000), (28, 0, 32, 1000), (32, 0, 32, 64), (36, 0, 32, 64)]) with auth := 0 }, _,
     ({ polder := 0, cfg := ({ cir := 1000, pir := 1000, cbs := 64, pbs := 64 } : WeirCfg) } : Weir), isRunning_intro
     (by decide +kernel), by decide +kernel, rfl, by decide +kernel⟩,
   ⟨run (cmd 0x44 [(24, 0, 32, 1000), (28, 0, 32, 1000), (32, 0, 32, 64), (36, 0, 32, 64), (17, 2, 2, 3)])
     ({ dev0 with mrp := { weirs := [(0, some ({ polder := 0, cfg := ({ cir := 1000, pir := 1000, cbs := 64, pbs := 64 } : WeirCfg) } : Weir))] } }),
     c0, cmd 0x44 [(24, 0, 32, 1000), (28, 0, 32, 1000), (32, 0, 32, 64), (36, 0, 32, 64), (17, 2, 2, 3)], _, _, isRunning_intro
     (by decide +kernel), by decide +kernel, rfl, rfl, by decide +kernel⟩,
   ⟨run (cmd 0x44 [(24, 0, 32, 999), (28, 0, 32, 1000), (32, 0, 32, 64), (36, 0, 32, 64)]), c0, cmd 0x44 [(24, 0, 32, 999), (28, 0,
     32, 1000), (32, 0, 32, 64), (36, 0, 32, 64)], _, _, isRunning_intro (by decide +kernel), by decide +kernel, rfl, rfl,
     by decide +kernel⟩,
   ⟨run (cmd 0x44 [(24, 0, 32, 1000), (28, 0, 32, 999), (32, 0, 32, 64), (36, 0, 32, 64)]), c0, cmd 0x44 [(24, 0, 32, 1000), (28,
     0, 32, 999), (32, 0, 32, 64), (36, 0, 32, 64)], _, _, isRunning_intro (by decide +kernel), by decide +kernel, rfl, rfl,
     by decide +kernel⟩,
   ⟨run (cmd 0x44 [(24, 0, 32, 1000), (28, 0, 32, 1000), (32, 0, 32, 63), (36, 0, 32, 64)]), c0, cmd 0x44 [(24, 0, 32, 1000), (28,
     0, 32, 1000), (32, 0, 32, 63), (36, 0, 32, 64)], _, _, isRunning_intro (by decide +kernel), by decide +kernel, rfl, rfl,
     by decide +kernel⟩,
   ⟨run (cmd 0x44 [(24, 0, 32, 1000), (28, 0, 32, 1000), (32, 0, 32, 64), (36, 0, 32, 63)]), c0, cmd 0x44 [(24, 0, 32, 1000), (28,
     0, 32, 1000), (32, 0, 32, 64), (36, 0, 32, 63)], _, _, isRunning_intro (by decide +kernel), by decide +kernel, rfl, rfl,
     by decide +kernel⟩,
   ⟨run (cmd 0x44 [(24, 0, 32, 1000), (28, 0, 32, 1000), (32, 0, 32, 64), (36, 0, 32, 64)])
     ({ dev0 with mrp := { weirs := [(0, some ({ polder := 0, cfg := ({ cir := 1000, pir := 1000, cbs := 64, pbs := 64 } : WeirCfg) } : Weir))] } }),
     c0, cmd 0x44 [(24, 0, 32, 1000), (28, 0, 32, 1000), (32, 0, 32, 64), (36, 0, 32, 64)], _, _,
     ({ polder := 0, cfg := ({ cir := 1000, pir := 1000, cbs := 64, pbs := 64 } : WeirCfg) } : Weir), isRunning_intro
     (by decide +kernel), by decide +kernel, rfl, rfl, by decide +kernel⟩,
   ⟨run (cmd 0x44 [(24, 0, 32, 1000), (28, 0, 32, 1000), (32, 0, 32, 64), (36, 0, 32, 64)]), c0, cmd 0x44 [(24, 0, 32, 1000), (28,
     0, 32, 1000), (32, 0, 32, 64), (36, 0, 32, 64)], _, _, isRunning_intro (by decide +kernel), by decide +kernel, rfl, rfl,
     by decide +kernel⟩,
   ⟨run (cmd 0x44 [(24, 0, 32, 1000), (28, 0, 32, 1000), (32, 0, 32, 64), (36, 0, 32, 64)])
     ({ dev0 with plc := { dev0.plc with polders := [(0, { wholePolder with quota := [] })] } }), c0, cmd 0x44 [(24, 0, 32,
     1000), (28, 0, 32, 1000), (32, 0, 32, 64), (36, 0, 32, 64)], _, _, isRunning_intro (by decide +kernel), by decide +kernel,
     rfl, rfl, by decide +kernel⟩,
   ⟨run (cmd 0x44 [(16, 0, 3, 1)]), c0, cmd 0x44 [(16, 0, 3, 1)], _, isRunning_intro (by decide +kernel), rfl, by decide +kernel⟩,
   ⟨run ({ (cmd 0x44 [(16, 0, 3, 1)]) with auth := 0 })
     ({ dev0 with mrp := { weirs := [(0, some ({ polder := 0, cfg := ({ cir := 1000, pir := 1000, cbs := 64, pbs := 64 } : WeirCfg) } : Weir))] } }),
     c0, { (cmd 0x44 [(16, 0, 3, 1)]) with auth := 0 }, _,
     ({ polder := 0, cfg := ({ cir := 1000, pir := 1000, cbs := 64, pbs := 64 } : WeirCfg) } : Weir), isRunning_intro
     (by decide +kernel), rfl, by decide +kernel⟩,
   ⟨run (cmd 0x44 [(16, 0, 3, 1)])
     ({ dev0 with mrp := { weirs := [(0, some ({ polder := 0, cfg := ({ cir := 1000, pir := 1000, cbs := 64, pbs := 64 } : WeirCfg) } : Weir))] } }),
     c0, cmd 0x44 [(16, 0, 3, 1)], _, ({ polder := 0, cfg := ({ cir := 1000, pir := 1000, cbs := 64, pbs := 64 } : WeirCfg) } :
     Weir), isRunning_intro (by decide +kernel), rfl, by decide +kernel⟩⟩

theorem witness_MeterAndLedgerCommandsComplete_3 :
    (∃ s : State, ∃ c : CmdRef, ∃ x : Cmd, ∃ w : Nat, s.dev.isRunning c x ∧ w = x.fld 20 0 18 ∧ isOpAct 0x44 (16, 0, 3) 2 x = true ∧
        s.dev.weir w = none) ∧
    (∃ s : State, ∃ c : CmdRef, ∃ x : Cmd, ∃ w : Nat, ∃ y : Weir, s.dev.isRunning c x ∧ w = x.fld 20 0 18 ∧ isOpAct 0x44 (16, 0, 3)
        2 x = true ∧ s.dev.weir w = some y ∧ s.dev.mayAs c (some y.polder) = false) ∧
    (∃ s : State, ∃ c : CmdRef, ∃ x : Cmd, ∃ w : Nat, ∃ y : Weir, s.dev.isRunning c x ∧ w = x.fld 20 0 18 ∧ isOpAct 0x44 (16, 0, 3)
        2 x = true ∧ s.dev.weir w = some y ∧ s.dev.mayAs c (some y.polder) = true) ∧
    (∃ s : State, ∃ c : CmdRef, ∃ x : Cmd, ∃ k : Nat, ∃ key : Nat, ∃ tn : Nat, s.dev.isRunning c x ∧ k = x.fld 40 0 2 ∧ key = x.fld
        44 0 32 ∧ tn = x.fld 48 0 18 ∧ isOpAct 0x44 (16, 0, 3) 3 x = true ∧ badRuleKey k key = true) ∧
    (∃ s : State, ∃ c : CmdRef, ∃ x : Cmd, ∃ k : Nat, ∃ key : Nat, ∃ tn : Nat, s.dev.isRunning c x ∧ k = x.fld 40 0 2 ∧ key = x.fld
        44 0 32 ∧ tn = x.fld 48 0 18 ∧ isOpAct 0x44 (16, 0, 3) 3 x = true ∧ badRuleKey k key = false ∧ (tn < (s.dev.polder
        x.polder).tenantBase ∨ (s.dev.polder x.polder).tenantBase + (s.dev.polder x.polder).tenantCount ≤ tn)) ∧
    (∃ s : State, ∃ c : CmdRef, ∃ x : Cmd, ∃ k : Nat, ∃ key : Nat, ∃ tn : Nat, s.dev.isRunning c x ∧ k = x.fld 40 0 2 ∧ key = x.fld
        44 0 32 ∧ tn = x.fld 48 0 18 ∧ isOpAct 0x44 (16, 0, 3) 3 x = true ∧ badRuleKey k key = false ∧ (s.dev.polder
        x.polder).tenantBase ≤ tn ∧ tn < (s.dev.polder x.polder).tenantBase + (s.dev.polder x.polder).tenantCount ∧
        s.dev.mrp.rules.length < 65536) ∧
    (∃ s : State, ∃ c : CmdRef, ∃ x : Cmd, ∃ k : Nat, ∃ key : Nat, ∃ tn : Nat, s.dev.isRunning c x ∧ k = x.fld 40 0 2 ∧ key = x.fld
        44 0 32 ∧ tn = x.fld 48 0 18 ∧ isOpAct 0x44 (16, 0, 3) 4 x = true ∧ badRuleKey k key = true) ∧
    (∃ s : State, ∃ c : CmdRef, ∃ x : Cmd, ∃ k : Nat, ∃ key : Nat, ∃ tn : Nat, ∃ u : Nat, s.dev.isRunning c x ∧ k = x.fld 40 0 2 ∧
        key = x.fld 44 0 32 ∧ tn = x.fld 48 0 18 ∧ isOpAct 0x44 (16, 0, 3) 4 x = true ∧ badRuleKey k key = false ∧ (x.polder, k,
        key, u) ∈ s.dev.mrp.rules) ∧
    (∃ s : State, ∃ c : CmdRef, ∃ x : Cmd, ∃ k : Nat, ∃ key : Nat, ∃ tn : Nat, s.dev.isRunning c x ∧ k = x.fld 40 0 2 ∧ key = x.fld
        44 0 32 ∧ tn = x.fld 48 0 18 ∧ isOpAct 0x44 (16, 0, 3) 4 x = true ∧ badRuleKey k key = false ∧ (∀ u, (x.polder, k, key,
        u) ∉ s.dev.mrp.rules)) :=
  ⟨⟨run (cmd 0x44 [(16, 0, 3, 2)]), c0, cmd 0x44 [(16, 0, 3, 2)], _, isRunning_intro (by decide +kernel), rfl, by decide +kernel⟩,
   ⟨run ({ (cmd 0x44 [(16, 0, 3, 2)]) with auth := 0 })
     ({ dev0 with mrp := { weirs := [(0, some ({ polder := 0, cfg := ({ cir := 1000, pir := 1000, cbs := 64, pbs := 64 } : WeirCfg) } : Weir))] } }),
     c0, { (cmd 0x44 [(16, 0, 3, 2)]) with auth := 0 }, _,
     ({ polder := 0, cfg := ({ cir := 1000, pir := 1000, cbs := 64, pbs := 64 } : WeirCfg) } : Weir), isRunning_intro
     (by decide +kernel), rfl, by decide +kernel⟩,
   ⟨run (cmd 0x44 [(16, 0, 3, 2)])
     ({ dev0 with mrp := { weirs := [(0, some ({ polder := 0, cfg := ({ cir := 1000, pir := 1000, cbs := 64, pbs := 64 } : WeirCfg) } : Weir))] } }),
     c0, cmd 0x44 [(16, 0, 3, 2)], _, ({ polder := 0, cfg := ({ cir := 1000, pir := 1000, cbs := 64, pbs := 64 } : WeirCfg) } :
     Weir), isRunning_intro (by decide +kernel), rfl, by decide +kernel⟩,
   ⟨run (cmd 0x44 [(16, 0, 3, 3), (44, 0, 32, 1023)]), c0, cmd 0x44 [(16, 0, 3, 3), (44, 0, 32, 1023)], _, _, _, isRunning_intro
     (by decide +kernel), rfl, rfl, rfl, by decide +kernel⟩,
   ⟨run (cmd 0x44 [(16, 0, 3, 3)])
     ({ dev0 with plc := { dev0.plc with polders := [(0, { wholePolder with tenantCount := 0 })] } }), c0, cmd 0x44 [(16, 0, 3,
     3)], _, _, _, isRunning_intro (by decide +kernel), rfl, rfl, rfl, by decide +kernel⟩,
   ⟨run (cmd 0x44 [(16, 0, 3, 3)]), c0, cmd 0x44 [(16, 0, 3, 3)], _, _, _, isRunning_intro (by decide +kernel), rfl, rfl, rfl,
     by decide +kernel⟩,
   ⟨run (cmd 0x44 [(16, 0, 3, 4), (44, 0, 32, 1023)]), c0, cmd 0x44 [(16, 0, 3, 4), (44, 0, 32, 1023)], _, _, _, isRunning_intro
     (by decide +kernel), rfl, rfl, rfl, by decide +kernel⟩,
   ⟨run (cmd 0x44 [(16, 0, 3, 4)]) ({ dev0 with mrp := { rules := [(0, 0, 0, 0)] } }), c0, cmd 0x44 [(16, 0, 3, 4)], _, _, _, 0,
     isRunning_intro (by decide +kernel), rfl, rfl, rfl, by decide +kernel⟩,
   ⟨run (cmd 0x44 [(16, 0, 3, 4)]), c0, cmd 0x44 [(16, 0, 3, 4)], _, _, _, isRunning_intro (by decide +kernel), rfl, rfl, rfl,
     by decide +kernel, by decide +kernel, fun _ h => nomatch h⟩⟩

theorem witness_TimeUnitKeepsTime :
    (∃ s : State, ∃ c : CmdRef, ∃ x : Cmd, s.dev.isRunning c x ∧ isOpAct 0xA0 (16, 0, 3) 0 x = true ∧ 1000000000 ≤ x.fld 32 0 32) ∧
    (∃ s : State, ∃ c : CmdRef, ∃ x : Cmd, s.dev.isRunning c x ∧ isOpAct 0xA0 (16, 0, 3) 0 x = true ∧ x.fld 32 0 32 < 1000000000 ∧
        x.fld 16 3 1 = 0) ∧
    (∃ s : State, ∃ c : CmdRef, ∃ x : Cmd, s.dev.isRunning c x ∧ isOpAct 0xA0 (16, 0, 3) 0 x = true ∧ x.fld 32 0 32 < 1000000000 ∧
        x.fld 16 3 1 = 1) ∧
    (∃ s : State, ∃ c : CmdRef, ∃ x : Cmd, ∃ o : Int, s.dev.isRunning c x ∧ isOpAct 0xA0 (16, 0, 3) 1 x = true ∧ o = signed 64
        (x.fld 40 0 64) ∧ x.fld 16 3 1 = 0) ∧
    (∃ s : State, ∃ c : CmdRef, ∃ x : Cmd, ∃ o : Int, s.dev.isRunning c x ∧ isOpAct 0xA0 (16, 0, 3) 1 x = true ∧ o = signed 64
        (x.fld 40 0 64) ∧ x.fld 16 3 1 = 1) ∧
    (∃ s : State, ∃ c : CmdRef, ∃ x : Cmd, s.dev.isRunning c x ∧ isOpAct 0xA0 (16, 0, 3) 2 x = true ∧ x.fld 16 3 1 = 1) ∧
    (∃ s : State, ∃ c : CmdRef, ∃ x : Cmd, ∃ f : Int, s.dev.isRunning c x ∧ isOpAct 0xA0 (16, 0, 3) 2 x = true ∧ f = signed 32
        (x.fld 48 0 32) ∧ x.fld 16 3 1 = 0 ∧ 128000000 < f.natAbs) ∧
    (∃ s : State, ∃ c : CmdRef, ∃ x : Cmd, ∃ f : Int, s.dev.isRunning c x ∧ isOpAct 0xA0 (16, 0, 3) 2 x = true ∧ f = signed 32
        (x.fld 48 0 32) ∧ x.fld 16 3 1 = 0 ∧ f.natAbs ≤ 128000000) ∧
    (∃ s : State, ∃ c : CmdRef, ∃ x : Cmd, s.dev.isRunning c x ∧ isOpAct 0xA0 (16, 0, 3) 3 x = true ∧ x.fld 16 3 1 = 1) ∧
    (∃ s : State, ∃ c : CmdRef, ∃ x : Cmd, ∃ o : Int, s.dev.isRunning c x ∧ isOpAct 0xA0 (16, 0, 3) 3 x = true ∧ o = signed 64
        (x.fld 40 0 64) ∧ x.fld 16 3 1 = 0 ∧ 1000000000 < o.natAbs) ∧
    (∃ s : State, ∃ c : CmdRef, ∃ x : Cmd, ∃ o : Int, s.dev.isRunning c x ∧ isOpAct 0xA0 (16, 0, 3) 3 x = true ∧ o = signed 64
        (x.fld 40 0 64) ∧ x.fld 16 3 1 = 0 ∧ o.natAbs ≤ 1000000000) ∧
    (∃ s : State, ∃ c : CmdRef, ∃ x : Cmd, s.dev.isRunning c x ∧ isOp 0xA1 x = true ∧ x.fld 16 0 2 = 0) :=
  ⟨⟨run (cmd 0xA0 [(32, 0, 32, 1000000000)]), c0, cmd 0xA0 [(32, 0, 32, 1000000000)], isRunning_intro (by decide +kernel),
     by decide +kernel⟩,
   ⟨run (cmd 0xA0 [(32, 0, 32, 999999999)]), c0, cmd 0xA0 [(32, 0, 32, 999999999)], isRunning_intro (by decide +kernel),
     by decide +kernel⟩,
   ⟨run (cmd 0xA0 [(16, 3, 1, 1)]), c0, cmd 0xA0 [(16, 3, 1, 1)], isRunning_intro (by decide +kernel), by decide +kernel⟩,
   ⟨run (cmd 0xA0 [(16, 0, 3, 1)]), c0, cmd 0xA0 [(16, 0, 3, 1)], _, isRunning_intro (by decide +kernel), by decide +kernel, rfl,
     by decide +kernel⟩,
   ⟨run (cmd 0xA0 [(16, 0, 3, 1), (16, 3, 1, 1)]), c0, cmd 0xA0 [(16, 0, 3, 1), (16, 3, 1, 1)], _, isRunning_intro
     (by decide +kernel), by decide +kernel, rfl, by decide +kernel⟩,
   ⟨run (cmd 0xA0 [(16, 0, 3, 2), (16, 3, 1, 1)]), c0, cmd 0xA0 [(16, 0, 3, 2), (16, 3, 1, 1)], isRunning_intro
     (by decide +kernel), by decide +kernel⟩,
   ⟨run (cmd 0xA0 [(16, 0, 3, 2), (48, 0, 32, 128000001)]), c0, cmd 0xA0 [(16, 0, 3, 2), (48, 0, 32, 128000001)], _,
     isRunning_intro (by decide +kernel), by decide +kernel, rfl, by decide +kernel⟩,
   ⟨run (cmd 0xA0 [(16, 0, 3, 2), (48, 0, 32, 128000000)]), c0, cmd 0xA0 [(16, 0, 3, 2), (48, 0, 32, 128000000)], _,
     isRunning_intro (by decide +kernel), by decide +kernel, rfl, by decide +kernel⟩,
   ⟨run (cmd 0xA0 [(16, 0, 3, 3), (16, 3, 1, 1)]), c0, cmd 0xA0 [(16, 0, 3, 3), (16, 3, 1, 1)], isRunning_intro
     (by decide +kernel), by decide +kernel⟩,
   ⟨run (cmd 0xA0 [(16, 0, 3, 3), (40, 0, 64, 1000000001)]), c0, cmd 0xA0 [(16, 0, 3, 3), (40, 0, 64, 1000000001)], _,
     isRunning_intro (by decide +kernel), by decide +kernel, rfl, by decide +kernel⟩,
   ⟨run (cmd 0xA0 [(16, 0, 3, 3)]), c0, cmd 0xA0 [(16, 0, 3, 3)], _, isRunning_intro (by decide +kernel), by decide +kernel, rfl,
     by decide +kernel⟩,
   ⟨run (cmd 0xA1), c0, cmd 0xA1, isRunning_intro (by decide +kernel), by decide +kernel⟩⟩

theorem witness_TimeUnitKeepsTime_2 :
    (∃ s : State, ∃ c : CmdRef, ∃ x : Cmd, s.dev.isRunning c x ∧ isOp 0xA1 x = true ∧ x.fld 16 0 2 = 3) ∧
    (∃ s : State, ∃ c : CmdRef, ∃ x : Cmd, ∃ k : Option Capture, s.dev.isRunning c x ∧ isOp 0xA1 x = true ∧ k = (if x.fld 16 0 2 = 1
        then s.dev.tmu.capIn else s.dev.tmu.capOut) ∧ (x.fld 16 0 2 = 1 ∨ x.fld 16 0 2 = 2) ∧ k = none) ∧
    (∃ s : State, ∃ c : CmdRef, ∃ x : Cmd, ∃ k : Option Capture, ∃ y : Capture, s.dev.isRunning c x ∧ isOp 0xA1 x = true ∧ k = (if
        x.fld 16 0 2 = 1 then s.dev.tmu.capIn else s.dev.tmu.capOut) ∧ (x.fld 16 0 2 = 1 ∨ x.fld 16 0 2 = 2) ∧ k = some y) ∧
    (∃ s : State, s.dev.corePowered = false) ∧
    (∃ s : State, s.dev.corePowered = true ∧ s.dev.tmu.atPps = []) ∧
    (∃ s : State, ∃ a : AtPps, ∃ c : CmdRef, ∃ x : Cmd, s.dev.corePowered = true ∧ s.dev.tmu.atPps = [a] ∧ c =
        { ep := a.ep, ring := a.ring, pos := a.pos } ∧ s.dev.cmd? c = some x ∧ x.outcome = none ∧ x.marked = false) ∧
    (∃ s : State, s.dev.tmu.atPps = []) ∧
    (∃ s : State, ∃ a : AtPps, ∃ rest : List AtPps, ∃ c : CmdRef, ∃ x : Cmd, s.dev.tmu.atPps = a :: rest ∧ c =
        { ep := a.ep, ring := a.ring, pos := a.pos } ∧ s.dev.cmd? c = some x ∧ x.outcome = none ∧ x.marked = false) :=
  ⟨⟨run (cmd 0xA1 [(16, 0, 2, 3)]), c0, cmd 0xA1 [(16, 0, 2, 3)], isRunning_intro (by decide +kernel), by decide +kernel⟩,
   ⟨run (cmd 0xA1 [(16, 0, 2, 1)]), c0, cmd 0xA1 [(16, 0, 2, 1)], _, isRunning_intro (by decide +kernel), by decide +kernel, rfl,
     by decide +kernel⟩,
   ⟨run (cmd 0xA1 [(16, 0, 2, 1)]) ({ dev0 with tmu := { capIn := some ({ time := 0, tick := 0 } : Capture) } }), c0, cmd 0xA1
     [(16, 0, 2, 1)], _, ({ time := 0, tick := 0 } : Capture), isRunning_intro (by decide +kernel), by decide +kernel, rfl,
     by decide +kernel⟩,
   ⟨st { dev0 with bal := {} }, by decide +kernel⟩,
   ⟨st dev0, by decide +kernel⟩,
   ⟨run (cmd 0xA0)
     { dev0 with tmu := { atPps := [({ ep := 0, ring := 0, pos := 0, setTo := some 5, offset := 0, deadline := 0 } : AtPps)] } },
     ({ ep := 0, ring := 0, pos := 0, setTo := some 5, offset := 0, deadline := 0 } : AtPps), _, cmd 0xA0, by decide +kernel,
     by decide +kernel, rfl, by decide +kernel⟩,
   ⟨st dev0, by decide +kernel⟩,
   ⟨run (cmd 0xA0)
     { dev0 with tmu := { atPps := [({ ep := 0, ring := 0, pos := 0, setTo := some 5, offset := 0, deadline := 0 } : AtPps)] } },
     ({ ep := 0, ring := 0, pos := 0, setTo := some 5, offset := 0, deadline := 0 } : AtPps), ([] : List AtPps), _, cmd 0xA0,
     by decide +kernel, rfl, by decide +kernel⟩⟩

theorem witness_CheckValueUnitRunsAndCompares :
    (∃ s : State, ∃ who : CvuParty, ∃ n : Nat, ∃ v : Word, 8 ≤ n ∧ n < 64 ∧ (s.dev.cvuCtx n).buf = none ∧ ((∃ e, who = .window e ∧
        (s.dev.ep e).answers = true ∧ s.dev.isWarden e = true ∧ (s.dev.cvuCtx n).holder = 0 ∧ bits v.toNat 8 3 = 0) ∨ (∃ r, who
        = .regulator r ∧ r < 4 ∧ s.dev.regRuns r = true ∧ (s.dev.cvuCtx n).holder = r + 1)) ∧ v.toNat.testBit 16 = true ∧
        v.toNat.testBit 17 = false) ∧
    (∃ s : State, ∃ who : CvuParty, ∃ n : Nat, ∃ v : Word, 8 ≤ n ∧ n < 64 ∧ (s.dev.cvuCtx n).buf = none ∧ ((∃ e, who = .window e ∧
        (s.dev.ep e).answers = true ∧ s.dev.isWarden e = true ∧ (s.dev.cvuCtx n).holder = 0 ∧ bits v.toNat 8 3 = 0) ∨ (∃ r, who
        = .regulator r ∧ r < 4 ∧ s.dev.regRuns r = true ∧ (s.dev.cvuCtx n).holder = r + 1)) ∧ v.toNat.testBit 16 = false ∧
        v.toNat.testBit 17 = true) ∧
    (∃ s : State, ∃ who : CvuParty, ∃ n : Nat, ∃ en : Nat, ∃ k : Nat, 8 ≤ n ∧ n < 64 ∧ (s.dev.cvuCtx n).buf = none ∧ ((∃ e, who =
        .window e ∧ (s.dev.ep e).answers = true ∧ s.dev.isWarden e = true ∧ (s.dev.cvuCtx n).holder = 0) ∨ (∃ r, who =
        .regulator r ∧ r < 4 ∧ s.dev.regRuns r = true ∧ (s.dev.cvuCtx n).holder = r + 1)) ∧ (en = 1 ∧ k = 1 ∨ en = 3 ∧ k = 2 ∨
        en = 15 ∧ k = 4)) ∧
    (∃ s : State, ∃ who : CvuParty, ∃ n : Nat, ∃ en : Nat, 8 ≤ n ∧ n < 64 ∧ (s.dev.cvuCtx n).buf = none ∧ ((∃ e, who = .window e ∧
        (s.dev.ep e).answers = true ∧ s.dev.isWarden e = true ∧ (s.dev.cvuCtx n).holder = 0) ∨ (∃ r, who = .regulator r ∧ r < 4
        ∧ s.dev.regRuns r = true ∧ (s.dev.cvuCtx n).holder = r + 1)) ∧ en ≠ 1 ∧ en ≠ 3 ∧ en ≠ 15) ∧
    (∃ s : State, ∃ r : Nat, ∃ n : Nat, 8 ≤ n ∧ n < 64 ∧ r < 4 ∧ s.dev.regRuns r = true ∧ (s.dev.cvuCtx n).holder ≠ r + 1) ∧
    (∃ s : State, s.dev.cvuNext = none) ∧
    (∃ s : State, ∃ n : Nat, ∃ k : Nat, ∃ v : Word, s.dev.cvuNext = some n ∧ (s.dev.cvuCtx n).buf = some (.data k v)) ∧
    (∃ s : State, ∃ n : Nat, s.dev.cvuNext = some n ∧ (s.dev.cvuCtx n).buf = some (.start 0) ∧ (s.dev.cvuCtx n).foldLen = 0) :=
  ⟨⟨st dev0, CvuParty.window 0, 8, 0x10000, by decide +kernel, by decide +kernel, by decide +kernel, .inl ⟨0, by decide +kernel⟩,
     by decide +kernel⟩,
   ⟨st dev0, CvuParty.window 0, 8, 0x20000, by decide +kernel, by decide +kernel, by decide +kernel, .inl ⟨0, by decide +kernel⟩,
     by decide +kernel⟩,
   ⟨st dev0, CvuParty.window 0, 8, 1, 1, by decide +kernel, by decide +kernel, by decide +kernel, .inl ⟨0, by decide +kernel⟩,
     by decide +kernel⟩,
   ⟨st dev0, CvuParty.window 0, 8, 2, by decide +kernel, by decide +kernel, by decide +kernel, .inl ⟨0, by decide +kernel⟩,
     by decide +kernel⟩,
   ⟨st { dev0 with cvu := { ctxs := [(8, { owner := 2 })] } }, 0, 8, by decide +kernel⟩,
   ⟨st dev0, by decide +kernel⟩,
   ⟨st { dev0 with cvu := { ctxs := [(8, { buf := some (.data 1 5) })] } }, 8, 1, 5, by decide +kernel⟩,
   ⟨st { dev0 with cvu := { ctxs := [(8, { buf := some (.start 0) })] } }, 8, by decide +kernel⟩⟩

theorem witness_PoldersSluicesAndWarden :
    (∃ s : State, ∃ c : CmdRef, ∃ io : Io, ∃ x : Cmd, s.dev.isRunning c x ∧ isOpAct 0x80 (24, 0, 2) 0 x = true ∧ ioRecord io 256 =
        none) ∧
    (∃ s : State, ∃ c : CmdRef, ∃ io : Io, ∃ x : Cmd, ∃ r : Nat, ∃ p : Nat, ∃ f : Nat × Nat, s.dev.isRunning c x ∧ isOpAct 0x80 (24,
        0, 2) 0 x = true ∧ ioRecord io 256 = some r ∧ p = fld r 0 0 3 ∧ s.dev.polderBar p 0 r = some f) ∧
    (∃ s : State, ∃ c : CmdRef, ∃ io : Io, ∃ x : Cmd, ∃ r : Nat, ∃ p : Nat, s.dev.isRunning c x ∧ isOpAct 0x80 (24, 0, 2) 0 x = true
        ∧ ioRecord io 256 = some r ∧ p = fld r 0 0 3 ∧ s.dev.polderBar p 0 r = none) ∧
    (∃ s : State, ∃ c : CmdRef, ∃ io : Io, ∃ x : Cmd, s.dev.isRunning c x ∧ isOpAct 0x80 (24, 0, 2) 1 x = true ∧ ioRecord io 256 =
        none) ∧
    (∃ s : State, ∃ c : CmdRef, ∃ io : Io, ∃ x : Cmd, ∃ r : Nat, ∃ p : Nat, ∃ f : Nat × Nat, s.dev.isRunning c x ∧ isOpAct 0x80 (24,
        0, 2) 1 x = true ∧ ioRecord io 256 = some r ∧ p = fld r 0 0 3 ∧ s.dev.polderBar p 1 r = some f) ∧
    (∃ s : State, ∃ c : CmdRef, ∃ io : Io, ∃ x : Cmd, ∃ r : Nat, ∃ p : Nat, s.dev.isRunning c x ∧ isOpAct 0x80 (24, 0, 2) 1 x = true
        ∧ ioRecord io 256 = some r ∧ p = fld r 0 0 3 ∧ s.dev.polderBar p 1 r = none) ∧
    (∃ s : State, ∃ c : CmdRef, ∃ io : Io, ∃ x : Cmd, s.dev.isRunning c x ∧ isOpAct 0x80 (24, 0, 2) 2 x = true ∧ x.scratch = [] ∧
        ioRecord io 256 = none) ∧
    (∃ s : State, ∃ c : CmdRef, ∃ io : Io, ∃ x : Cmd, ∃ r : Nat, ∃ p : Nat, ∃ f : Nat × Nat, s.dev.isRunning c x ∧ isOpAct 0x80 (24,
        0, 2) 2 x = true ∧ x.scratch = [] ∧ ioRecord io 256 = some r ∧ p = fld r 0 0 3 ∧ s.dev.polderBar p 2 r = some f) ∧
    (∃ s : State, ∃ c : CmdRef, ∃ io : Io, ∃ x : Cmd, ∃ r : Nat, ∃ p : Nat, s.dev.isRunning c x ∧ isOpAct 0x80 (24, 0, 2) 2 x = true
        ∧ x.scratch = [] ∧ ioRecord io 256 = some r ∧ p = fld r 0 0 3 ∧ s.dev.polderBar p 2 r = none) ∧
    (∃ s : State, ∃ c : CmdRef, ∃ x : Cmd, ∃ p : Nat, ∃ rest : List Nat, s.dev.isRunning c x ∧ isOpAct 0x80 (24, 0, 2) 2 x = true ∧
        x.scratch = p :: rest) ∧
    (∃ s : State, ∃ c : CmdRef, ∃ x : Cmd, ∃ a : Nat, ∃ b : Nat, s.dev.isRunning c x ∧ isOp 0x81 x = true ∧ a = x.fld 16 0 3 ∧ b =
        x.fld 17 0 3 ∧ a = b) ∧
    (∃ s : State, ∃ c : CmdRef, ∃ x : Cmd, ∃ a : Nat, ∃ b : Nat, s.dev.isRunning c x ∧ isOp 0x81 x = true ∧ a = x.fld 16 0 3 ∧ b =
        x.fld 17 0 3 ∧ a ≠ b ∧ ((s.dev.polder a).st = .undefined ∨ (s.dev.polder b).st = .undefined)) :=
  ⟨⟨run (cmd 0x80), c0, { rd := none }, cmd 0x80, isRunning_intro (by decide +kernel), by decide +kernel⟩,
   ⟨run (cmd 0x80) (dev0), c0, { rd := some (leBytes 256 (pack [(64, 19, 1), (208, 10, 1)])) }, cmd 0x80, (pack [(64, 19, 1), (208,
     10, 1)]), _, ((dev0.polderBar 0 0 (pack [(64, 19, 1), (208, 10, 1)])).getD default), isRunning_intro (by decide +kernel),
     by decide +kernel, by decide +kernel, rfl, by decide +kernel⟩,
   ⟨run (cmd 0x80) ({ dev0 with plc := { challenge := 1 } }), c0, { rd := some (leBytes 256 (pack [(64, 19, 1), (208, 10, 1)])) },
     cmd 0x80, (pack [(64, 19, 1), (208, 10, 1)]), _, isRunning_intro (by decide +kernel), by decide +kernel, by decide +kernel,
     rfl, by decide +kernel⟩,
   ⟨run (cmd 0x80 [(24, 0, 2, 1)]), c0, { rd := none }, cmd 0x80 [(24, 0, 2, 1)], isRunning_intro (by decide +kernel),
     by decide +kernel⟩,
   ⟨run (cmd 0x80 [(24, 0, 2, 1)]) ({ dev0 with plc := { challenge := 1 } }), c0,
     { rd := some (leBytes 256 (pack [(64, 19, 1), (208, 10, 1)])) }, cmd 0x80 [(24, 0, 2, 1)], (pack [(64, 19, 1), (208, 10,
     1)]), _, ((({ dev0 with plc := { challenge := 1 } } : Dev).polderBar 0 1 (pack [(64, 19, 1), (208, 10, 1)])).getD default),
     isRunning_intro (by decide +kernel), by decide +kernel, by decide +kernel, rfl, by decide +kernel⟩,
   ⟨run (cmd 0x80 [(24, 0, 2, 1)]), c0, { rd := some (leBytes 256 (pack [(64, 19, 1), (208, 10, 1)])) }, cmd 0x80 [(24, 0, 2, 1)],
     (pack [(64, 19, 1), (208, 10, 1)]), _, isRunning_intro (by decide +kernel), by decide +kernel, by decide +kernel, rfl,
     by decide +kernel⟩,
   ⟨run (cmd 0x80 [(24, 0, 2, 2)]), c0, { rd := none }, cmd 0x80 [(24, 0, 2, 2)], isRunning_intro (by decide +kernel),
     by decide +kernel⟩,
   ⟨run (cmd 0x80 [(24, 0, 2, 2)])
     ({ dev0 with plc := { dev0.plc with polders := [(0, wholePolder), (1, { st := .undefined })] } }), c0,
     { rd := some (leBytes 256 (pack [(0, 3, 1)])) }, cmd 0x80 [(24, 0, 2, 2)], (pack [(0, 3, 1)]), _,
     (((({ dev0 with plc := { dev0.plc with polders := [(0, wholePolder), (1, { st := .undefined })] } }) : Dev).polderBar 1 2
     (pack [(0, 3, 1)])).getD default), isRunning_intro (by decide +kernel), by decide +kernel, by decide +kernel,
     by decide +kernel, rfl, by decide +kernel⟩,
   ⟨run (cmd 0x80 [(24, 0, 2, 2)])
     ({ dev0 with plc := { dev0.plc with polders := [(0, wholePolder), (1, { st := .safeHold })] } }), c0,
     { rd := some (leBytes 256 (pack [(0, 3, 1)])) }, cmd 0x80 [(24, 0, 2, 2)], (pack [(0, 3, 1)]), _, isRunning_intro
     (by decide +kernel), by decide +kernel, by decide +kernel, by decide +kernel, rfl, by decide +kernel⟩,
   ⟨run ({ cmd 0x80 [(24, 0, 2, 2)] with scratch := [1] })
     ({ dev0 with plc := { dev0.plc with polders := [(0, wholePolder), (1, { st := .safeHold })] } }), c0,
     ({ cmd 0x80 [(24, 0, 2, 2)] with scratch := [1] } : Cmd), 1, ([] : List Nat), isRunning_intro (by decide +kernel),
     by decide +kernel⟩,
   ⟨run (cmd 0x81), c0, cmd 0x81, _, _, isRunning_intro (by decide +kernel), by decide +kernel, rfl, rfl, by decide +kernel⟩,
   ⟨run (cmd 0x81 [(17, 0, 3, 1), (20, 0, 2, 1)]), c0, cmd 0x81 [(17, 0, 3, 1), (20, 0, 2, 1)], _, _, isRunning_intro
     (by decide +kernel), by decide +kernel, rfl, rfl, by decide +kernel⟩⟩

theorem witness_PoldersSluicesAndWarden_2 :
    (∃ s : State, ∃ c : CmdRef, ∃ x : Cmd, ∃ a : Nat, ∃ b : Nat, s.dev.isRunning c x ∧ isOp 0x81 x = true ∧ a = x.fld 16 0 3 ∧ b =
        x.fld 17 0 3 ∧ a ≠ b ∧ (s.dev.polder a).st ≠ .undefined ∧ (s.dev.polder b).st ≠ .undefined ∧ x.fld 20 0 1 = 1 ∧
        s.dev.plc.sluices.length + 2 ≤ 4096 ∧ x.fld 20 1 1 = 1) ∧
    (∃ s : State, ∃ c : CmdRef, ∃ x : Cmd, ∃ a : Nat, ∃ b : Nat, ∃ u, s.dev.isRunning c x ∧ isOp 0x81 x = true ∧ a = x.fld 16 0 3 ∧
        b = x.fld 17 0 3 ∧ a ≠ b ∧ (s.dev.polder a).st ≠ .undefined ∧ (s.dev.polder b).st ≠ .undefined ∧ x.fld 20 0 1 = 1 ∧
        s.dev.plc.sluices.length + 2 ≤ 4096 ∧ u ∈ s.dev.plc.sluices) ∧
    (∃ s : State, ∃ c : CmdRef, ∃ x : Cmd, ∃ a : Nat, ∃ b : Nat, ∃ w : Nat × Nat × Nat, s.dev.isRunning c x ∧ isOp 0x81 x = true ∧ a
        = x.fld 16 0 3 ∧ b = x.fld 17 0 3 ∧ w = (a, b, x.fld 18 0 14) ∧ a ≠ b ∧ (s.dev.polder a).st ≠ .undefined ∧ (s.dev.polder
        b).st ≠ .undefined ∧ x.fld 20 0 1 = 1 ∧ s.dev.plc.sluices.length = 4096 ∧ w ∉ s.dev.plc.sluices) ∧
    (∃ s : State, ∃ c : CmdRef, ∃ x : Cmd, ∃ a : Nat, ∃ b : Nat, ∃ w : Nat × Nat × Nat, ∃ v : Nat × Nat × Nat, s.dev.isRunning c x ∧
        isOp 0x81 x = true ∧ a = x.fld 16 0 3 ∧ b = x.fld 17 0 3 ∧ w = (a, b, x.fld 18 0 14) ∧ v = (b, a, x.fld 18 0 14) ∧ a ≠ b
        ∧ (s.dev.polder a).st ≠ .undefined ∧ (s.dev.polder b).st ≠ .undefined ∧ x.fld 20 0 1 = 0 ∧ w ∈ s.dev.plc.sluices ∧
        (x.fld 20 1 1 = 0 ∨ v ∈ s.dev.plc.sluices) ∧ x.fld 20 1 1 = 1) ∧
    (∃ s : State, ∃ c : CmdRef, ∃ x : Cmd, ∃ a : Nat, ∃ b : Nat, ∃ w : Nat × Nat × Nat, ∃ v : Nat × Nat × Nat, s.dev.isRunning c x ∧
        isOp 0x81 x = true ∧ a = x.fld 16 0 3 ∧ b = x.fld 17 0 3 ∧ w = (a, b, x.fld 18 0 14) ∧ v = (b, a, x.fld 18 0 14) ∧ a ≠ b
        ∧ (s.dev.polder a).st ≠ .undefined ∧ (s.dev.polder b).st ≠ .undefined ∧ x.fld 20 0 1 = 0 ∧ (w ∉ s.dev.plc.sluices ∨
        x.fld 20 1 1 = 1 ∧ v ∉ s.dev.plc.sluices)) ∧
    (∃ s : State, ∃ c : CmdRef, ∃ x : Cmd, s.dev.isRunning c x ∧ isOp 0x82 x = true ∧ x.scratch = [] ∧ x.fld 24 0 16 ≠ 304) ∧
    (∃ s : State, ∃ c : CmdRef, ∃ io : Io, ∃ x : Cmd, s.dev.isRunning c x ∧ isOp 0x82 x = true ∧ x.scratch = [] ∧ x.fld 24 0 16 =
        304 ∧ ioBytes io 304 = none) ∧
    (∃ s : State, ∃ c : CmdRef, ∃ io : Io, ∃ x : Cmd, ∃ bs, s.dev.isRunning c x ∧ isOp 0x82 x = true ∧ x.scratch = [] ∧ x.fld 24 0
        16 = 304 ∧ ioBytes io 304 = some bs) ∧
    (∃ s : State, ∃ c : CmdRef, ∃ x : Cmd, ∃ k : Nat, ∃ bs : List Nat, s.dev.isRunning c x ∧ isOp 0x82 x = true ∧ x.scratch = k ::
        bs ∧ s.dev.tokenCheck (bs.map (BitVec.ofNat 8)) false = none) ∧
    (∃ s : State, ∃ c : CmdRef, ∃ x : Cmd, ∃ k : Nat, ∃ bs : List Nat, ∃ why : Nat, s.dev.isRunning c x ∧ isOp 0x82 x = true ∧
        x.scratch = k :: bs ∧ s.dev.tokenCheck (bs.map (BitVec.ofNat 8)) false = some why) :=
  ⟨⟨run (cmd 0x81 [(17, 0, 3, 1), (20, 0, 2, 3)])
     ({ dev0 with plc := { dev0.plc with polders := [(0, wholePolder), (1, { st := .forwarding })] } }), c0, cmd 0x81 [(17, 0,
     3, 1), (20, 0, 2, 3)], _, _, isRunning_intro (by decide +kernel), by decide +kernel, rfl, rfl, by decide +kernel⟩,
   ⟨run (cmd 0x81 [(17, 0, 3, 1), (20, 0, 2, 1)])
     ({ dev0 with plc := { dev0.plc with polders := [(0, wholePolder), (1, { st := .forwarding })], sluices := [(0, 2, 0)] } }),
     c0, cmd 0x81 [(17, 0, 3, 1), (20, 0, 2, 1)], _, _, (0, 2, 0), isRunning_intro (by decide +kernel), by decide +kernel, rfl,
     rfl, by decide +kernel⟩,
   ⟨run (cmd 0x81 [(17, 0, 3, 1), (20, 0, 2, 1)])
     ({ dev0 with plc := { dev0.plc with polders := [(0, wholePolder), (1, { st := .forwarding })], sluices := (List.range 4096).map (fun i => (0, 2, i)) } }),
     c0, cmd 0x81 [(17, 0, 3, 1), (20, 0, 2, 1)], _, _, _, isRunning_intro (by decide +kernel), by decide +kernel, rfl, rfl,
     rfl, by decide +kernel⟩,
   ⟨run (cmd 0x81 [(17, 0, 3, 1), (20, 0, 2, 2)])
     ({ dev0 with plc := { dev0.plc with polders := [(0, wholePolder), (1, { st := .forwarding })], sluices := [(0, 1, 0), (1, 0, 0)] } }),
     c0, cmd 0x81 [(17, 0, 3, 1), (20, 0, 2, 2)], _, _, _, _, isRunning_intro (by decide +kernel), by decide +kernel, rfl, rfl,
     rfl, rfl, by decide +kernel⟩,
   ⟨run (cmd 0x81 [(17, 0, 3, 1), (20, 0, 2, 0)])
     ({ dev0 with plc := { dev0.plc with polders := [(0, wholePolder), (1, { st := .forwarding })] } }), c0, cmd 0x81 [(17, 0,
     3, 1), (20, 0, 2, 0)], _, _, _, _, isRunning_intro (by decide +kernel), by decide +kernel, rfl, rfl, rfl, rfl,
     by decide +kernel⟩,
   ⟨run (cmd 0x82), c0, cmd 0x82, isRunning_intro (by decide +kernel), by decide +kernel⟩,
   ⟨run (cmd 0x82 [(24, 0, 16, 304)]), c0, { rd := none }, cmd 0x82 [(24, 0, 16, 304)], isRunning_intro (by decide +kernel),
     by decide +kernel⟩,
   ⟨run (cmd 0x82 [(24, 0, 16, 304)]), c0, { rd := some (List.replicate 304 0) }, cmd 0x82 [(24, 0, 16, 304)], (List.replicate 304
     0 : List Byte), isRunning_intro (by decide +kernel), by decide +kernel⟩,
   ⟨run ({ cmd 0x82 with scratch := 0 :: token0.map BitVec.toNat }) (tokenDev), c0,
     ({ cmd 0x82 with scratch := 0 :: token0.map BitVec.toNat } : Cmd), 0, (token0.map BitVec.toNat), isRunning_intro
     (by decide +kernel), by decide +kernel⟩,
   ⟨run ({ cmd 0x82 with scratch := [0] }), c0, ({ cmd 0x82 with scratch := [0] } : Cmd), 0, [], 1, isRunning_intro
     (by decide +kernel), by decide +kernel⟩⟩

theorem witness_ModesChangeAsCommanded :
    (∃ s : State, ∃ c : CmdRef, ∃ x : Cmd, ∃ tm : Nat, s.dev.isRunning c x ∧ tm = x.fld 16 0 4 ∧ isOpAct 0x05 (16, 4, 1) 0 x = true
        ∧ tm = s.dev.bal.mode.code) ∧
    (∃ s : State, ∃ c : CmdRef, ∃ x : Cmd, ∃ tm : Nat, s.dev.isRunning c x ∧ tm = x.fld 16 0 4 ∧ isOpAct 0x05 (16, 4, 1) 0 x = true
        ∧ tm ≠ s.dev.bal.mode.code ∧ reaches s.dev.bal.mode tm = false) ∧
    (∃ s : State, ∃ c : CmdRef, ∃ x : Cmd, ∃ tm : Nat, s.dev.isRunning c x ∧ tm = x.fld 16 0 4 ∧ isOpAct 0x05 (16, 4, 1) 0 x = true
        ∧ tm ≠ s.dev.bal.mode.code ∧ reaches s.dev.bal.mode tm = true ∧ s.dev.bal.mode ≠ .dormant ∧ s.dev.regRuns 0 = false) ∧
    (∃ s : State, ∃ c : CmdRef, ∃ x : Cmd, ∃ tm : Nat, s.dev.isRunning c x ∧ tm = x.fld 16 0 4 ∧ isOpAct 0x05 (16, 4, 1) 0 x = true
        ∧ s.dev.regRuns 0 = true ∧ tm = 4 ∧ s.dev.bal.mode = .provisioning) ∧
    (∃ s : State, ∃ c : CmdRef, ∃ x : Cmd, ∃ tm : Nat, s.dev.isRunning c x ∧ tm = x.fld 16 0 4 ∧ isOpAct 0x05 (16, 4, 1) 0 x = true
        ∧ s.dev.regRuns 0 = true ∧ tm = 5 ∧ s.dev.bal.mode = .forwarding) ∧
    (∃ s : State, ∃ c : CmdRef, ∃ x : Cmd, ∃ tm : Nat, s.dev.isRunning c x ∧ tm = x.fld 16 0 4 ∧ isOpAct 0x05 (16, 4, 1) 0 x = true
        ∧ s.dev.regRuns 0 = true ∧ tm = 6 ∧ (s.dev.bal.mode = .provisioning ∨ s.dev.bal.mode = .forwarding ∨ s.dev.bal.mode =
        .draining)) ∧
    (∃ s : State, ∃ c : CmdRef, ∃ x : Cmd, ∃ tm : Nat, s.dev.isRunning c x ∧ tm = x.fld 16 0 4 ∧ isOpAct 0x05 (16, 4, 1) 0 x = true
        ∧ s.dev.regRuns 0 = true ∧ (tm = 3 ∨ tm = 4) ∧ s.dev.bal.mode = .safeHold ∧ (s.dev.boot.diagRom = true ∨
        s.dev.boot.bistRun = true)) ∧
    (∃ s : State, ∃ c : CmdRef, ∃ x : Cmd, ∃ tm : Nat, s.dev.isRunning c x ∧ tm = x.fld 16 0 4 ∧ isOpAct 0x05 (16, 4, 1) 0 x = true
        ∧ s.dev.regRuns 0 = true ∧ (tm = 3 ∨ tm = 4) ∧ s.dev.bal.mode = .safeHold ∧ s.dev.boot.diagRom = false ∧
        s.dev.boot.bistRun = false ∧ s.dev.exitBlocked = true) ∧
    (∃ s : State, ∃ c : CmdRef, ∃ x : Cmd, ∃ tm : Nat, s.dev.isRunning c x ∧ tm = x.fld 16 0 4 ∧ isOpAct 0x05 (16, 4, 1) 0 x = true
        ∧ s.dev.regRuns 0 = true ∧ (tm = 3 ∨ tm = 4) ∧ s.dev.bal.mode = .safeHold ∧ s.dev.boot.diagRom = false ∧
        s.dev.boot.bistRun = false ∧ s.dev.exitBlocked = false) ∧
    (∃ s : State, ∃ c : CmdRef, ∃ x : Cmd, ∃ m : DevMode, s.dev.isRunning c x ∧ isOpAct 0x05 (16, 4, 1) 1 x = true ∧ m =
        s.dev.bal.mode ∧ (m = .dormant ∨ m = .loading ∨ m = .diagnostic)) ∧
    (∃ s : State, ∃ c : CmdRef, ∃ x : Cmd, ∃ p : Nat, ∃ m : DevMode, s.dev.isRunning c x ∧ isOpAct 0x05 (16, 4, 1) 1 x = true ∧ p =
        x.fld 17 0 3 ∧ m = s.dev.bal.mode ∧ (m = .provisioning ∨ m = .forwarding ∨ m = .draining ∨ m = .safeHold) ∧
        (s.dev.polder p).st = .undefined) ∧
    (∃ s : State, ∃ c : CmdRef, ∃ x : Cmd, ∃ tm : Nat, ∃ p : Nat, ∃ m : DevMode, s.dev.isRunning c x ∧ tm = x.fld 16 0 4 ∧ isOpAct
        0x05 (16, 4, 1) 1 x = true ∧ p = x.fld 17 0 3 ∧ m = s.dev.bal.mode ∧ (m = .provisioning ∨ m = .forwarding ∨ m =
        .draining ∨ m = .safeHold) ∧ (s.dev.polder p).st = .forwarding ∧ tm = 4) :=
  ⟨⟨run (cmd 0x05 [(16, 0, 4, 3)]), c0, cmd 0x05 [(16, 0, 4, 3)], _, isRunning_intro (by decide +kernel), rfl, by decide +kernel⟩,
   ⟨run (cmd 0x05 [(16, 0, 4, 2)]), c0, cmd 0x05 [(16, 0, 4, 2)], _, isRunning_intro (by decide +kernel), rfl, by decide +kernel⟩,
   ⟨run (cmd 0x05 [(16, 0, 4, 4)]) ({ dev0 with reg := { regStopped := 1 } }), c0, cmd 0x05 [(16, 0, 4, 4)], _, isRunning_intro
     (by decide +kernel), rfl, by decide +kernel⟩,
   ⟨run (cmd 0x05 [(16, 0, 4, 4)]), c0, cmd 0x05 [(16, 0, 4, 4)], _, isRunning_intro (by decide +kernel), rfl, by decide +kernel⟩,
   ⟨run (cmd 0x05 [(16, 0, 4, 5)]) ({ dev0 with bal := { dev0.bal with mode := .forwarding } }), c0, cmd 0x05 [(16, 0, 4, 5)], _,
     isRunning_intro (by decide +kernel), rfl, by decide +kernel⟩,
   ⟨run (cmd 0x05 [(16, 0, 4, 6)]), c0, cmd 0x05 [(16, 0, 4, 6)], _, isRunning_intro (by decide +kernel), rfl, by decide +kernel⟩,
   ⟨run (cmd 0x05 [(16, 0, 4, 4)]) ({ { dev0 with bal := { dev0.bal with mode := .safeHold } } with boot := { diagRom := true } }),
     c0, cmd 0x05 [(16, 0, 4, 4)], _, isRunning_intro (by decide +kernel), rfl, by decide +kernel⟩,
   ⟨run (cmd 0x05 [(16, 0, 4, 4)])
     ({ { dev0 with bal := { dev0.bal with mode := .safeHold } } with boot := { diagRom := false, bistRun := false }, fcr := { srcs := [(0x20, { latched := true, latchedSev := 4 })] } }),
     c0, cmd 0x05 [(16, 0, 4, 4)], _, isRunning_intro (by decide +kernel), rfl, by decide +kernel⟩,
   ⟨run (cmd 0x05 [(16, 0, 4, 4)])
     ({ { dev0 with bal := { dev0.bal with mode := .safeHold } } with boot := { diagRom := false, bistRun := false } }), c0, cmd
     0x05 [(16, 0, 4, 4)], _, isRunning_intro (by decide +kernel), rfl, by decide +kernel⟩,
   ⟨run (cmd 0x05 [(16, 0, 4, 5), (16, 4, 1, 1), (17, 0, 3, 1)]) ({ dev0 with bal := { dev0.bal with mode := .diagnostic } }), c0,
     cmd 0x05 [(16, 0, 4, 5), (16, 4, 1, 1), (17, 0, 3, 1)], _, isRunning_intro (by decide +kernel), by decide +kernel, rfl,
     by decide +kernel⟩,
   ⟨run (cmd 0x05 [(16, 0, 4, 5), (16, 4, 1, 1), (17, 0, 3, 1)]), c0, cmd 0x05 [(16, 0, 4, 5), (16, 4, 1, 1), (17, 0, 3, 1)], _, _,
     isRunning_intro (by decide +kernel), by decide +kernel, rfl, rfl, by decide +kernel⟩,
   ⟨run (cmd 0x05 [(16, 0, 4, 4), (16, 4, 1, 1), (17, 0, 3, 1)])
     ({ dev0 with plc := { dev0.plc with polders := [(0, wholePolder), (1, { st := .forwarding })] } }), c0, cmd 0x05 [(16, 0,
     4, 4), (16, 4, 1, 1), (17, 0, 3, 1)], _, _, _, isRunning_intro (by decide +kernel), rfl, by decide +kernel, rfl, rfl,
     by decide +kernel⟩⟩

theorem witness_ModesChangeAsCommanded_2 :
    (∃ s : State, ∃ c : CmdRef, ∃ x : Cmd, ∃ tm : Nat, ∃ p : Nat, ∃ m : DevMode, s.dev.isRunning c x ∧ tm = x.fld 16 0 4 ∧ isOpAct
        0x05 (16, 4, 1) 1 x = true ∧ p = x.fld 17 0 3 ∧ m = s.dev.bal.mode ∧ (m = .provisioning ∨ m = .forwarding ∨ m =
        .draining ∨ m = .safeHold) ∧ (s.dev.polder p).st = .forwarding ∧ tm = 5) ∧
    (∃ s : State, ∃ c : CmdRef, ∃ x : Cmd, ∃ tm : Nat, ∃ p : Nat, ∃ m : DevMode, s.dev.isRunning c x ∧ tm = x.fld 16 0 4 ∧ isOpAct
        0x05 (16, 4, 1) 1 x = true ∧ p = x.fld 17 0 3 ∧ m = s.dev.bal.mode ∧ (m = .provisioning ∨ m = .forwarding ∨ m =
        .draining ∨ m = .safeHold) ∧ (s.dev.polder p).st = .draining ∧ tm = 4) ∧
    (∃ s : State, ∃ c : CmdRef, ∃ x : Cmd, ∃ tm : Nat, ∃ p : Nat, ∃ m : DevMode, s.dev.isRunning c x ∧ tm = x.fld 16 0 4 ∧ isOpAct
        0x05 (16, 4, 1) 1 x = true ∧ p = x.fld 17 0 3 ∧ m = s.dev.bal.mode ∧ (m = .provisioning ∨ m = .forwarding ∨ m =
        .draining ∨ m = .safeHold) ∧ (s.dev.polder p).st = .safeHold ∧ tm = 5) ∧
    (∃ s : State, ∃ c : CmdRef, ∃ x : Cmd, ∃ tm : Nat, ∃ p : Nat, ∃ m : DevMode, s.dev.isRunning c x ∧ tm = x.fld 16 0 4 ∧ isOpAct
        0x05 (16, 4, 1) 1 x = true ∧ p = x.fld 17 0 3 ∧ m = s.dev.bal.mode ∧ (m = .provisioning ∨ m = .forwarding ∨ m =
        .draining ∨ m = .safeHold) ∧ (s.dev.polder p).st = .safeHold ∧ tm = 4 ∧ s.dev.polderBlocked p = true) ∧
    (∃ s : State, ∃ c : CmdRef, ∃ x : Cmd, ∃ tm : Nat, ∃ p : Nat, ∃ m : DevMode, s.dev.isRunning c x ∧ tm = x.fld 16 0 4 ∧ isOpAct
        0x05 (16, 4, 1) 1 x = true ∧ p = x.fld 17 0 3 ∧ m = s.dev.bal.mode ∧ (m = .provisioning ∨ m = .forwarding ∨ m =
        .draining ∨ m = .safeHold) ∧ (s.dev.polder p).st = .safeHold ∧ tm = 4 ∧ s.dev.polderBlocked p = false) ∧
    (∃ s : State, (s.dev.bal.mode ≠ .draining ∨ s.dev.regRuns 0 = false)) ∧
    (∃ s : State, s.dev.bal.mode = .draining ∧ s.dev.regRuns 0 = true ∧ s.dev.drained = true ∧ s.dev.bal.tick ≤ s.dev.bal.drainEnd) ∧
    (∃ s : State, s.dev.bal.mode = .draining ∧ s.dev.regRuns 0 = true ∧ s.dev.drained = false) :=
  ⟨⟨run (cmd 0x05 [(16, 0, 4, 5), (16, 4, 1, 1), (17, 0, 3, 1)])
     ({ dev0 with plc := { dev0.plc with polders := [(0, wholePolder), (1, { st := .forwarding })] } }), c0, cmd 0x05 [(16, 0,
     4, 5), (16, 4, 1, 1), (17, 0, 3, 1)], _, _, _, isRunning_intro (by decide +kernel), rfl, by decide +kernel, rfl, rfl,
     by decide +kernel⟩,
   ⟨run (cmd 0x05 [(16, 0, 4, 4), (16, 4, 1, 1), (17, 0, 3, 1)])
     ({ dev0 with plc := { dev0.plc with polders := [(0, wholePolder), (1, { st := .draining })] } }), c0, cmd 0x05 [(16, 0, 4,
     4), (16, 4, 1, 1), (17, 0, 3, 1)], _, _, _, isRunning_intro (by decide +kernel), rfl, by decide +kernel, rfl, rfl,
     by decide +kernel⟩,
   ⟨run (cmd 0x05 [(16, 0, 4, 5), (16, 4, 1, 1), (17, 0, 3, 1)])
     ({ dev0 with plc := { dev0.plc with polders := [(0, wholePolder), (1, { st := .safeHold })] } }), c0, cmd 0x05 [(16, 0, 4,
     5), (16, 4, 1, 1), (17, 0, 3, 1)], _, _, _, isRunning_intro (by decide +kernel), rfl, by decide +kernel, rfl, rfl,
     by decide +kernel⟩,
   ⟨run (cmd 0x05 [(16, 0, 4, 4), (16, 4, 1, 1), (17, 0, 3, 1)])
     ({ dev0 with plc := { dev0.plc with polders := [(1, { st := .safeHold, portMap := 1 })] }, fcr := { srcs := [(0x300, { latched := true, latchedSev := 3 })] } }),
     c0, cmd 0x05 [(16, 0, 4, 4), (16, 4, 1, 1), (17, 0, 3, 1)], _, _, _, isRunning_intro (by decide +kernel), rfl,
     by decide +kernel, rfl, rfl, by decide +kernel⟩,
   ⟨run (cmd 0x05 [(16, 0, 4, 4), (16, 4, 1, 1), (17, 0, 3, 1)])
     ({ dev0 with plc := { dev0.plc with polders := [(0, wholePolder), (1, { st := .safeHold })] } }), c0, cmd 0x05 [(16, 0, 4,
     4), (16, 4, 1, 1), (17, 0, 3, 1)], _, _, _, isRunning_intro (by decide +kernel), rfl, by decide +kernel, rfl, rfl,
     by decide +kernel⟩,
   ⟨st dev0, by decide +kernel⟩,
   ⟨st ({ dev0 with bal := { dev0.bal with mode := .draining } }), by decide +kernel⟩,
   ⟨st ({ { dev0 with bal := { dev0.bal with mode := .draining } } with dp := { pkts := [(0, some pkt0)] } }), by decide +kernel⟩⟩

theorem witness_ResetsAndLoadsFollowTheirSources :
    (∃ s : State, ∃ p : Nat, s.dev.bal.porN = false ∧ s.dev.bal.mode = .off ∧ p ≠ 0) ∧
    (∃ s : State, s.dev.bal.porN = true) ∧
    (∃ s : State, ∃ flash : List Byte, ∃ k : Nat, ∃ rest : List Nat, s.dev.bal.mode = .dormant ∧ s.dev.boot.auto = true ∧
        s.dev.tripped = false ∧ s.dev.bal.bootEff = 0 ∧ flashOrder flash = k :: rest) ∧
    (∃ s : State, s.dev.bal.mode = .dormant ∧ s.dev.boot.auto = true ∧ s.dev.tripped = false ∧ s.dev.bal.bootEff = 3) ∧
    (∃ s : State, ∃ ep : Nat, (s.dev.ep ep).answers = true ∧ s.dev.isWarden ep = true ∧ s.dev.bal.mode = .dormant ∧ s.dev.tripped =
        false ∧ (s.dev.bal.bootEff = 1 ∨ s.dev.bal.bootEff = 2) ∧ (s.dev.boot.st = .waitHost ∨ s.dev.boot.st = .failed)) ∧
    (∃ s : State, ∃ src : Nat, ∃ rest : List Nat, ∃ cause : Nat, s.dev.bal.mode = .loading ∧ s.dev.boot.candidates = src :: rest ∧
        src ≠ 3 ∧ (1 ≤ cause ∧ cause ≤ 8 ∨ cause = 10) ∧ rest ≠ []) ∧
    (∃ s : State, ∃ src : Nat, ∃ rest : List Nat, ∃ cause : Nat, s.dev.bal.mode = .loading ∧ s.dev.boot.candidates = src :: rest ∧
        src ≠ 3 ∧ (1 ≤ cause ∧ cause ≤ 8 ∨ cause = 10) ∧ rest = []) ∧
    (∃ s : State, ∃ rest : List Nat, s.dev.bal.mode = .loading ∧ s.dev.boot.candidates = 3 :: rest ∧ s.dev.boot.reloading = none) ∧
    (∃ s : State, s.dev.bal.mode ≠ .off) :=
  ⟨⟨st { dev0 with bal := { porN := false, mode := .off } }, 1, by decide +kernel⟩,
   ⟨st dev0, by decide +kernel⟩,
   ⟨st { dev0 with bal := { mode := .dormant, corePll := true, bootEff := 0 } }, ([] : List Byte), 0, [1], by decide +kernel⟩,
   ⟨st { dev0 with bal := { mode := .dormant, corePll := true, bootEff := 3 } }, by decide +kernel⟩,
   ⟨st { dev0 with bal := { mode := .dormant, corePll := true, bootEff := 1 }, boot := { st := .waitHost } }, 0, by decide +kernel⟩,
   ⟨st { dev0 with bal := { mode := .loading, corePll := true }, boot := { candidates := [0, 1] } }, 0, [1], 1, by decide +kernel⟩,
   ⟨st { dev0 with bal := { mode := .loading, corePll := true }, boot := { candidates := [0] } }, 0, _, 1, by decide +kernel,
     by decide +kernel, by decide +kernel, by decide +kernel, rfl⟩,
   ⟨st { dev0 with bal := { mode := .loading, corePll := true }, boot := { candidates := [3] } }, ([] : List Nat),
     by decide +kernel⟩,
   ⟨st dev0, by decide +kernel⟩⟩

theorem witness_ClocksSuppliesAndTemperatureAreFollowed :
    (∃ s : State, s.dev.bal.mode = .loading ∧ s.dev.bal.tick ≤ s.dev.bal.since + 2500 ∧ s.dev.bal.corePllRetried = false) ∧
    (∃ s : State, s.dev.bal.mode = .loading ∧ s.dev.bal.tick ≤ s.dev.bal.since + 2500 ∧ s.dev.bal.corePllRetried = true) ∧
    (∃ s : State, s.dev.corePowered = true) ∧
    (∃ s : State, s.dev.bal.porN = true) ∧
    (∃ s : State, ∃ m, m < 64 ∧ (s.dev.octal m).st ≠ .off) ∧
    (∃ s : State, ∃ temps : List Nat, ∃ i, temps.length = 16 ∧ s.dev.bal.porN = true ∧ i < 16) ∧
    (∃ temps : List Nat, temps.length = 16 ∧ 460 ≤ (hottest temps).2) ∧
    (∃ temps : List Nat, temps.length = 16 ∧ (hottest temps).2 < 440) ∧
    (∃ s : State, ∃ temps : List Nat, temps.length = 16 ∧ s.dev.bal.porN = true ∧ 500 ≤ (hottest temps).2 ∧ s.dev.tripped = false) ∧
    (∃ s : State, ∃ mv : Nat, s.dev.bal.porN = true ∧ 680 ≤ mv ∧ mv ≤ 820 ∧ mv ≤ s.dev.bal.vddCore + 5 ∧ s.dev.bal.vddCore ≤ mv + 5
        ∧ s.dev.bal.avsPending = none ∧ (s.dev.src 0x022).live = false ∧ (s.dev.bal.avsTick = 0 ∨ s.dev.bal.avsTick + 250 ≤
        s.dev.bal.tick) ∧ (∀ p ∈ s.dev.pipes, p.2.waking = false)) ∧
    (∃ s : State, ∃ mv : Nat, s.dev.bal.avsPending = some mv) ∧
    (∃ s : State, ∃ rail : Nat, ∃ mv : Nat, ∃ above : Bool, s.dev.bal.porN = true ∧ rail < 10 ∧ s.dev.railOut rail mv = some above ∧
        s.dev.bal.railsBad.testBit rail = false) :=
  ⟨⟨st { dev0 with bal := { dev0.bal with mode := .loading } }, by decide +kernel⟩,
   ⟨st { dev0 with bal := { dev0.bal with mode := .loading, corePllRetried := true } }, by decide +kernel⟩,
   ⟨st dev0, by decide +kernel⟩,
   ⟨st dev0, by decide +kernel⟩,
   ⟨st { dev0 with pte := { macros := [(0, { st := .on })] } }, 0, by decide +kernel⟩,
   ⟨st dev0, (List.replicate 16 400 : List Nat), 15, by decide +kernel⟩,
   ⟨(List.replicate 16 460 : List Nat), by decide +kernel⟩,
   ⟨(List.replicate 16 439 : List Nat), by decide +kernel⟩,
   ⟨st dev0, (List.replicate 16 500 : List Nat), by decide +kernel⟩,
   ⟨st dev0, 752, by decide +kernel⟩,
   ⟨st { dev0 with bal := { dev0.bal with avsPending := some 752 } }, 752, by decide +kernel⟩,
   ⟨st dev0, 0, 0, false, by decide +kernel⟩⟩

theorem witness_ClocksSuppliesAndTemperatureAreFollowed_2 :
    (∃ s : State, ∃ rail : Nat, ∃ mv : Nat, s.dev.bal.porN = true ∧ rail < 10 ∧ s.dev.railOut rail mv = none ∧
        s.dev.bal.railsBad.testBit rail = true) ∧
    (∃ s : State, ∃ mem : Nat, ∃ core : Nat, s.dev.corePowered = true ∧ mem + 50 < core) :=
  ⟨⟨st { dev0 with bal := { dev0.bal with railsBad := 1 } }, 0, 750, by decide +kernel⟩,
   ⟨st dev0, 700, 751, by decide +kernel⟩⟩

theorem witness_StoresAndAttestationComplete :
    (∃ s : State, ∃ r : Nat, ∃ word : Nat, ∃ kind, s.dev.bal.mode ≠ .off ∧ r < 4 ∧ word < 8192 ∧ s.dev.regRuns r = true ∧ kind < 2) ∧
    (∃ s : State, ∃ r : Nat, ∃ word : Nat, s.dev.bal.mode ≠ .off ∧ r < 4 ∧ word < 8192 ∧ s.dev.regRuns r = true) ∧
    (∃ s : State, ∃ i : Nat, ∃ word : Nat, s.dev.corePowered = true ∧ i < 8 ∧ word < 2048 ∧ s.dev.reg.adpStopped.testBit i = false) ∧
    (∃ s : State, ∃ c : CmdRef, ∃ io : Io, ∃ x : Cmd, ∃ i : Nat, ∃ bs : List Byte, ∃ h : Nat, ∃ t0 : Nat, s.dev.isRunning c x ∧ isOp
        0xB0 x = true ∧ i = x.fld 17 0 4 ∧ x.scratch = [bs.length, h] ∧ io.rd = some bs ∧ leNat (sha512 bs) = h ∧
        s.dev.boot.reloading = some (c.ep, c.ring, c.pos.toNat, x.fld 16 0 2, i, t0) ∧ x.fld 16 0 2 = 0) ∧
    (∃ s : State, ∃ c : CmdRef, ∃ io : Io, ∃ x : Cmd, ∃ i : Nat, ∃ bs : List Byte, ∃ h : Nat, ∃ t0 : Nat, s.dev.isRunning c x ∧ isOp
        0xB0 x = true ∧ i = x.fld 17 0 4 ∧ x.scratch = [bs.length, h] ∧ io.rd = some bs ∧ leNat (sha512 bs) = h ∧
        s.dev.boot.reloading = some (c.ep, c.ring, c.pos.toNat, x.fld 16 0 2, i, t0) ∧ x.fld 16 0 2 = 2) ∧
    (∃ s : State, ∃ c : CmdRef, ∃ io : Io, ∃ x : Cmd, ∃ man : List Byte, s.dev.isRunning c x ∧ isOp 0xB0 x = true ∧ x.fld 16 0 2 = 0
        ∧ x.scratch = [] ∧ s.dev.boot.reloading = none ∧ io.rd = some man ∧ leNat (sha512 (man.take 1024)) ≠
        s.dev.boot.manifestHash.toNat) ∧
    (∃ s : State, ∃ c : CmdRef, ∃ x : Cmd, s.dev.isRunning c x ∧ isOp 0xB0 x = true ∧ x.scratch = [] ∧ s.dev.boot.reloading ≠ none ∧
        (∀ e n p k i t0, s.dev.boot.reloading = some (e, n, p, k, i, t0) → ∃ y, s.dev.cmd?
        { ep := e, ring := n, pos := BitVec.ofNat 32 p } = some y ∧ y.outcome = none ∧ ¬(e = c.ep ∧ n = c.ring ∧ BitVec.ofNat 32
        p = c.pos)) ∧ s.dev.evr.reading = 0) ∧
    (∃ s : State, ∃ c : CmdRef, ∃ x : Cmd, s.dev.isRunning c x ∧ isOpAct 0x04 (16, 0, 1) 0 x = true ∧ (s.dev.otp.identity = false ∨
        x.fld 20 0 32 < 864)) ∧
    (∃ s : State, ∃ c : CmdRef, ∃ x : Cmd, s.dev.isRunning c x ∧ isOpAct 0x04 (16, 0, 1) 1 x = true ∧ (s.dev.otp.identity = false ∨
        s.dev.boot.certLen = 0 ∨ s.dev.boot.path ≠ 0)) ∧
    (∃ s : State, ∃ c : CmdRef, ∃ io : Io, ∃ x : Cmd, s.dev.isRunning c x ∧ isOpAct 0x04 (16, 0, 1) 0 x = true ∧ s.dev.otp.identity
        = true ∧ 864 ≤ x.fld 20 0 32 ∧ io.wrErr = false ∧ (s.dev.ep c.ep).up = true) ∧
    (∃ s : State, ∃ c : CmdRef, ∃ io : Io, ∃ x : Cmd, ∃ bs : List Byte, s.dev.isRunning c x ∧ isOpAct 0x04 (16, 0, 1) 1 x = true ∧
        s.dev.otp.identity = true ∧ s.dev.boot.certLen ≠ 0 ∧ s.dev.boot.path = 0 ∧ s.dev.boot.certLen ≤ x.fld 20 0 32 ∧ ioBytes
        io s.dev.boot.certLen = some bs ∧ io.wrErr = false ∧ (s.dev.ep c.ep).up = true) :=
  ⟨⟨st dev0, 1, 8191, 0, by decide +kernel⟩,
   ⟨st dev0, 1, 8191, by decide +kernel⟩,
   ⟨st dev0, 7, 2047, by decide +kernel⟩,
   ⟨run ({ cmd 0xB0 with scratch := [0, leNat (sha512 [])] }) { dev0 with boot := { reloading := some (0, 0, 0, 0, 0, 0) } }, c0,
     { rd := some [] }, ({ cmd 0xB0 with scratch := [0, leNat (sha512 [])] } : Cmd), _, ([] : List Byte), (leNat (sha512 [])),
     0, isRunning_intro (by decide +kernel), by decide +kernel, rfl, by decide +kernel⟩,
   ⟨run ({ cmd 0xB0 [(16, 0, 2, 2)] with scratch := [0, leNat (sha512 [])] })
     { dev0 with boot := { reloading := some (0, 0, 0, 2, 0, 0) } }, c0, { rd := some [] },
     ({ cmd 0xB0 [(16, 0, 2, 2)] with scratch := [0, leNat (sha512 [])] } : Cmd), _, ([] : List Byte), (leNat (sha512 [])), 0,
     isRunning_intro (by decide +kernel), by decide +kernel, rfl, by decide +kernel⟩,
   ⟨run (cmd 0xB0), c0, { rd := some [] }, cmd 0xB0, ([] : List Byte), isRunning_intro (by decide +kernel), by decide +kernel⟩,
   ⟨reloads, c0, cmd 0xB0, isRunning_intro (by decide +kernel), by decide +kernel, by decide +kernel, by decide +kernel,
     reload_other, by decide +kernel⟩,
   ⟨run (cmd 0x04), c0, cmd 0x04, isRunning_intro (by decide +kernel), by decide +kernel⟩,
   ⟨run (cmd 0x04 [(16, 0, 1, 1)]), c0, cmd 0x04 [(16, 0, 1, 1)], isRunning_intro (by decide +kernel), by decide +kernel⟩,
   ⟨run (cmd 0x04 [(20, 0, 32, 864)]) ({ dev0 with otp := { dev0.otp with idPriv := 1, idPub := [4] } }), c0, {}, cmd 0x04 [(20, 0,
     32, 864)], isRunning_intro (by decide +kernel), by decide +kernel⟩,
   ⟨run (cmd 0x04 [(16, 0, 1, 1), (20, 0, 32, 1)])
     ({ dev0 with otp := { dev0.otp with idPriv := 1, idPub := [4] }, boot := { certLen := 1, path := 0 } }), c0,
     { rd := some [7] }, cmd 0x04 [(16, 0, 1, 1), (20, 0, 32, 1)], ([7] : List Byte), isRunning_intro (by decide +kernel),
     by decide +kernel⟩⟩

theorem witness_FaultsAreReportedAndEscalate :
    (∃ s : State, ∃ k : Nat, s.dev.bal.mode ≠ .off ∧ (s.dev.src k).live = true ∧ (s.dev.src k).sampled = false ∧ s.dev.effSeverity k
        = 3 ∧ (s.dev.src k).timer = none) ∧
    (∃ s : State, ∃ k : Nat, s.dev.bal.mode ≠ .off ∧ (s.dev.src k).live = true ∧ (s.dev.src k).sampled = false ∧ s.dev.effSeverity k
        = 4 ∧ s.dev.attribution k = .shared ∧ (s.dev.srcCfg k).graceUs = 0 ∧ s.dev.bal.mode = .forwarding) ∧
    (∃ s : State, s.dev.bal.mode = .off) ∧
    (∃ s : State, ∃ k : Nat, (s.dev.src k).timer = none) ∧
    (∃ s : State, ∃ k : Nat, (s.dev.src k).crit = none) ∧
    (∃ s : State, ∃ k : Nat, ∃ due : Nat, ∃ us : Nat, (s.dev.src k).timer = some (due, us) ∧ s.dev.attribution k = .shared ∧
        s.dev.bal.mode = .forwarding) ∧
    (∃ s : State, ∃ k : Nat, ∃ due : Nat, ∃ us : Nat, (s.dev.src k).crit = some (due, us) ∧ (s.dev.src k).live = false ∧ (s.dev.src
        k).lasting = false) ∧
    (∃ s : State, ∃ k : Nat, ∃ due : Nat, ∃ us : Nat, (s.dev.src k).crit = some (due, us) ∧ ((s.dev.src k).live = true ∨ (s.dev.src
        k).lasting = true) ∧ s.dev.attribution k = .shared ∧ s.dev.bal.mode = .forwarding) ∧
    (∃ s : State, ∃ k : Nat, onceOnly k = false ∧ (s.dev.src k).reports ≠ 0) ∧
    (∃ s : State, ∃ k : Nat, ∃ passed : Bool, (onceOnly k = true ∨ (s.dev.src k).reports = 0 ∨ passed = false)) ∧
    (∃ s : State, ∃ k : Nat, ∃ cp : Capture, k = 0xE01 ∧ s.dev.tmu.capIn = some cp ∧ (s.dev.src k).live = false) ∧
    (∃ s : State, ∃ k : Nat, ∃ due : Nat, k ≠ 0xE01 ∧ (s.dev.src k).windowEnd = some due) :=
  ⟨⟨st
     { dev0 with fcr := { srcs := [(0x20, { live := true, cfg := some { severity := 3, escalate := false, irqOff := false, graceUs := 0 } })] } },
     0x20, by decide +kernel⟩,
   ⟨st
     { fwd with fcr := { srcs := [(0x20, { live := true, cfg := some { severity := 4, escalate := false, irqOff := false, graceUs := 0 } })] } },
     0x20, by decide +kernel⟩,
   ⟨st { dev0 with bal := { mode := .off } }, by decide +kernel⟩,
   ⟨st dev0, 0x20, by decide +kernel⟩,
   ⟨st dev0, 0x20, by decide +kernel⟩,
   ⟨st { fwd with fcr := { srcs := [(0x20, { timer := some (0, 5) })] } }, 0x20, 0, 5, by decide +kernel⟩,
   ⟨st { dev0 with fcr := { srcs := [(0x20, { crit := some (0, 5) })] } }, 0x20, 0, 5, by decide +kernel⟩,
   ⟨st { fwd with fcr := { srcs := [(0x20, { crit := some (0, 5), live := true })] } }, 0x20, 0, 5, by decide +kernel⟩,
   ⟨st { dev0 with fcr := { srcs := [(0x20, { reports := 1 })] } }, 0x20, by decide +kernel⟩,
   ⟨st { dev0 with fcr := { srcs := [(0x20, { reports := 1 })] } }, 0x20, false, by decide +kernel⟩,
   ⟨st { dev0 with tmu := { capIn := some ({ time := 0, tick := 0 } : Capture) } }, _, ({ time := 0, tick := 0 } : Capture), rfl,
     by decide +kernel⟩,
   ⟨st { dev0 with fcr := { srcs := [(0x20, { windowEnd := some 0 })] } }, 0x20, 0, by decide +kernel⟩⟩

theorem witness_FaultsAreReportedAndEscalate_2 :
    (∃ s : State, ∃ w : Nat, ∃ mem : Nat, ∃ inst : Nat, s.dev.corePowered = true ∧ w < 4 ∧ sweeps w mem inst = true) ∧
    (∃ s : State, ∃ w : Nat, ∃ mem : Nat, ∃ inst : Nat, ∃ src : Nat, s.dev.corePowered = true ∧ w < 4 ∧ sweeps w mem inst = true ∧
        parityOnly mem = false ∧ ceSource mem inst = some src) ∧
    (∃ s : State, ∃ k : Nat, ∃ w : Nat, ∃ mem : Nat, ∃ inst : Nat, s.dev.corePowered = true ∧ w < 4 ∧ sweeps w mem inst = true ∧ mem
        = 4 ∧ k < 4096) :=
  ⟨⟨st dev0, 0, 0, 0, by decide +kernel⟩,
   ⟨st dev0, 0, 3, 0, 0xF14, by decide +kernel⟩,
   ⟨st dev0, 0, 0, _, 0, by decide +kernel, by decide +kernel, by decide +kernel, rfl, by decide +kernel⟩⟩

theorem witness_FaultCommandsComplete :
    (∃ s : State, ∃ c : CmdRef, ∃ x : Cmd, ∃ cfg : SrcCfg, ∃ k : Nat, s.dev.isRunning c x ∧ isOpAct 0x70 (18, 0, 2) 0 x = true ∧
        (cfg =
        ({ severity := x.fld 24 0 3, escalate := decide (x.fld 24 3 1 = 1), irqOff := decide (x.fld 24 4 1 = 1), graceUs := if x.fld 24 0 3 = 3 ∧ x.fld 28 0 24 = 0 then 10000 else x.fld 28 0 24 }
        : SrcCfg)) ∧ x.fld 16 0 12 ≤ k ∧ k < x.fld 16 0 12 + max 1 (x.fld 20 0 13) ∧ cfg.severity = 0) ∧
    (∃ s : State, ∃ c : CmdRef, ∃ x : Cmd, s.dev.isRunning c x ∧ isOpAct 0x70 (18, 0, 2) 1 x = true ∧ (s.dev.src (x.fld 16 0
        12)).timer = none ∧ (s.dev.src (x.fld 16 0 12)).crit = none) ∧
    (∃ s : State, ∃ c : CmdRef, ∃ io : Io, ∃ x : Cmd, s.dev.isRunning c x ∧ isOpAct 0x70 (18, 0, 2) 2 x = true ∧ io.wrErr = true) ∧
    (∃ s : State, ∃ c : CmdRef, ∃ io : Io, ∃ x : Cmd, s.dev.isRunning c x ∧ isOpAct 0x70 (18, 0, 2) 2 x = true ∧ io.wrErr = false ∧
        (s.dev.ep c.ep).up = true) ∧
    (∃ s : State, ∃ c : CmdRef, ∃ io : Io, ∃ x : Cmd, s.dev.isRunning c x ∧ isOpAct 0x70 (18, 0, 2) 3 x = true ∧ io.wrErr = true) ∧
    (∃ s : State, ∃ c : CmdRef, ∃ io : Io, ∃ x : Cmd, s.dev.isRunning c x ∧ isOpAct 0x70 (18, 0, 2) 3 x = true ∧ io.wrErr = false) ∧
    (∃ s : State, ∃ c : CmdRef, ∃ x : Cmd, s.dev.isRunning c x ∧ isOp 0x71 x = true ∧ (s.dev.src (x.fld 16 0 12)).timer = none) ∧
    (∃ s : State, ∃ c : CmdRef, ∃ x : Cmd, ∃ tm : Nat × Nat, s.dev.isRunning c x ∧ isOp 0x71 x = true ∧ (s.dev.src (x.fld 16 0
        12)).timer = some tm) ∧
    (∃ s : State, ∃ c : CmdRef, ∃ x : Cmd, s.dev.isRunning c x ∧ isOp 0x72 x = true ∧ x.fld 18 0 1 = 0 ∧ (∀ k ∈ x.sources,
        (s.dev.src k).latched = false ∧ (s.dev.src k).live = false)) ∧
    (∃ s : State, ∃ c : CmdRef, ∃ x : Cmd, s.dev.isRunning c x ∧ isOp 0x72 x = true ∧ x.fld 20 0 13 ≤ 1 ∧ x.fld 18 0 1 = 0 ∧
        (s.dev.src (x.fld 16 0 12)).latched = true ∧ (s.dev.src (x.fld 16 0 12)).live = false) ∧
    (∃ s : State, ∃ c : CmdRef, ∃ x : Cmd, s.dev.isRunning c x ∧ isOp 0x72 x = true ∧ x.fld 20 0 13 ≤ 1 ∧ x.fld 18 0 1 = 0 ∧
        (s.dev.src (x.fld 16 0 12)).latched = true ∧ (s.dev.src (x.fld 16 0 12)).live = true) :=
  ⟨⟨run (cmd 0x70 [(20, 0, 13, 1)]), c0, cmd 0x70 [(20, 0, 13, 1)], _, 0, isRunning_intro (by decide +kernel), by decide +kernel,
     rfl, by decide +kernel⟩,
   ⟨run (cmd 0x70 [(18, 0, 2, 1)]), c0, cmd 0x70 [(18, 0, 2, 1)], isRunning_intro (by decide +kernel), by decide +kernel⟩,
   ⟨run (cmd 0x70 [(18, 0, 2, 2)]), c0, { wrErr := true }, cmd 0x70 [(18, 0, 2, 2)], isRunning_intro (by decide +kernel),
     by decide +kernel⟩,
   ⟨run (cmd 0x70 [(18, 0, 2, 2)]), c0, {}, cmd 0x70 [(18, 0, 2, 2)], isRunning_intro (by decide +kernel), by decide +kernel⟩,
   ⟨run (cmd 0x70 [(18, 0, 2, 3)]), c0, { wrErr := true }, cmd 0x70 [(18, 0, 2, 3)], isRunning_intro (by decide +kernel),
     by decide +kernel⟩,
   ⟨run (cmd 0x70 [(18, 0, 2, 3)]), c0, {}, cmd 0x70 [(18, 0, 2, 3)], isRunning_intro (by decide +kernel), by decide +kernel⟩,
   ⟨run (cmd 0x71 [(16, 0, 12, 0x20)]), c0, cmd 0x71 [(16, 0, 12, 0x20)], isRunning_intro (by decide +kernel), by decide +kernel⟩,
   ⟨run (cmd 0x71 [(16, 0, 12, 0x20)]) ({ dev0 with fcr := { srcs := [(0x20, { timer := some (0, 5) })] } }), c0, cmd 0x71 [(16, 0,
     12, 0x20)], (0, 5), isRunning_intro (by decide +kernel), by decide +kernel⟩,
   ⟨run (cmd 0x72 [(16, 0, 12, 0x20)]), c0, cmd 0x72 [(16, 0, 12, 0x20)], isRunning_intro (by decide +kernel), by decide +kernel⟩,
   ⟨run (cmd 0x72 [(16, 0, 12, 0x20)]) ({ dev0 with fcr := { srcs := [(0x20, { latched := true })] } }), c0, cmd 0x72 [(16, 0, 12,
     0x20)], isRunning_intro (by decide +kernel), by decide +kernel⟩,
   ⟨run (cmd 0x72 [(16, 0, 12, 0x20)]) ({ dev0 with fcr := { srcs := [(0x20, { latched := true, live := true })] } }), c0, cmd 0x72
     [(16, 0, 12, 0x20)], isRunning_intro (by decide +kernel), by decide +kernel⟩⟩

/-! ### The remaining statements -/

/-- The hypothesis of a frame is met: every row but a private debug instruction answers a next state, at reset already. -/
theorem every_row_answers (i : Instr) (h : ∀ code, i = .tapInstruction code → code ≠ .privateDebug) :
    ∃ t, exec i State.reset = .next t := by
  cases i
  case tapInstruction code =>
    have hd : State.reset.dev.tapDecode code ≠ .privateDebug := by
      have := h code rfl
      cases code <;> first | exact absurd rfl this | decide
    exact ⟨_, by simp [exec, execTapInstruction, hd]; rfl⟩
  all_goals exact ⟨_, rfl⟩

theorem witness_HostInterfaceRowsStayInTheirParts : ∃ t, exec (.commandRingDoorbell 0 0 0 true) State.reset = .next t := every_row_answers _ nofun
theorem witness_BufferAndPauseRowsStayInTheirParts : ∃ t, exec (.pfcRefresh 0) State.reset = .next t := every_row_answers _ nofun
theorem witness_SchedulingAndMeteringRowsStayInTheirParts : ∃ t, exec (.epochEnd) State.reset = .next t := every_row_answers _ nofun
theorem witness_RecorderAndFaultRowsStayInTheirParts : ∃ t, exec (.faultReport) State.reset = .next t := every_row_answers _ nofun
theorem witness_TableLearningAndPolderRowsStayInTheirParts : ∃ t, exec (.opTableWrite c0 {}) State.reset = .next t := every_row_answers _ nofun
theorem witness_FrameRowsStayInTheirParts : ∃ t, exec (.frameTransmitEnd 0) State.reset = .next t := every_row_answers _ nofun
theorem witness_PortTimeAndCompareRowsStayInTheirParts : ∃ t, exec (.linkUp 0) State.reset = .next t := every_row_answers _ nofun
theorem witness_BootAndModeRowsStayInTheirParts : ∃ t, exec (.porNAssert) State.reset = .next t := every_row_answers _ nofun
theorem witness_CommandStepsLeaveOtherCommands : ∃ t, exec (.opGenOpen c0 {}) State.reset = .next t := every_row_answers _ nofun
theorem witness_EmptyQueueTicks : State.reset.pending = [] ∧ State.reset.dev.corePowered = false := ⟨rfl, by decide⟩
theorem witness_EveryCommandAnswers :
    (∃ s : State, ∃ i, ∀ code, i = Instr.tapInstruction code → s.dev.tapDecode code ≠ .privateDebug) ∧
    ∃ s : State, ∃ i, ∃ code, i = Instr.tapInstruction code ∧ s.dev.tapDecode code = .privateDebug :=
  ⟨⟨State.reset, .tapInstruction .idcode, fun _ h => by cases h; decide⟩, ⟨State.reset, .tapInstruction .privateDebug, _, rfl, by decide⟩⟩
theorem witness_PolderZeroOwnsAllAtReset : ∃ e n : Nat, e ≠ State.reset.dev.plc.warden ∧ n < 256 := ⟨1, 255, by decide⟩
theorem witness_EveryStepKeepsTheWarden : ∃ s t, WardenStands s.dev ∧ step s = .next t :=
  ⟨st dev0, _, ⟨by decide, by decide⟩, rfl⟩
theorem witness_EveryStepKeepsTheRunWidths : ∃ s t, RunsFit s.dev ∧ step s = .next t :=
  ⟨st dev0, _, fun n => by show (0 : Nat) < 2 ^ cvuWidth _; exact Nat.two_pow_pos _, rfl⟩
theorem witness_NoStepGivesAFuseBack : ∃ s t, s.dev.otp.imageRevoked.testBit 0 = true ∧ s.dev.otp.provRevoked = true ∧ step s = .next t :=
  ⟨st { dev0 with otp := { imageRevoked := 1, provRevoked := true } }, _, by decide, rfl, rfl⟩

end Sys2Proof.Tests
end

section
/-! PROOFS. What a doorbell does to its ring or queue and to the fault sources of its endpoint (02 R42-R44, R79). -/
namespace Sys2Proof.Machine

/-! ### Fault sources and what moves them -/

theorem src_fcr {d d' : Dev} (h : d'.fcr = d.fcr) (k : Nat) : d'.src k = d.src k := by simp [Dev.src, h]

theorem src_live_ne {s k : Nat} (h : s ≠ k) (d : Dev) (on : Bool) (attr : Nat) : (d.live s on attr).src k = d.src k := by
  cases on with
  | false => simp [Dev.live, Dev.clearLive, h]
  | true => simp only [Dev.live, Dev.setLive, if_true]; split <;> simp [h]

/-- A source that is not reserved is live once its condition holds (15 R444, R445). -/
theorem src_live_self {s : Nat} (h : (defaultSeverity s).isSome = true) (d : Dev) (attr : Nat) :
    ((d.live s true attr).src s).live = true := by
  simp [Dev.live, Dev.setLive, Option.isNone_eq_false_iff.2 h]

theorem endpoint_cases {e : Nat} (he : e < 4) : e = 0 ∨ e = 1 ∨ e = 2 ∨ e = 3 := by omega

theorem defaultSeverity_doorbellStop {e : Nat} (he : e < 4) : (defaultSeverity (0x43 + 16 * e)).isSome = true := by
  rcases endpoint_cases he with rfl | rfl | rfl | rfl <;> rfl

theorem defaultSeverity_cplRingStop {e : Nat} (he : e < 4) : (defaultSeverity (0x44 + 16 * e)).isSome = true := by
  rcases endpoint_cases he with rfl | rfl | rfl | rfl <;> rfl

theorem defaultSeverity_stateParity {e : Nat} (he : e < 4) : (defaultSeverity (0x4A + 16 * e)).isSome = true := by
  rcases endpoint_cases he with rfl | rfl | rfl | rfl <;> rfl

/-! ### The endpoint's sources follow its rings -/

/-- A ring or queue that a doorbell has stopped keeps source 3 of its endpoint live (02 Table 2-22). -/
theorem epRefresh_src_doorbellStop {d : Dev} {e : Nat} (he : e < 4)
    (h : (∃ n, (d.cr e n).st = .stopped ∧ (d.cr e n).stop = some .doorbell) ∨ (∃ q, (d.rxq e q).st = .stopped) ∨
      ∃ q, (d.txq e q).st = .stopped) : ((d.epRefresh e).src (0x43 + 16 * e)).live = true := by
  have hany : ((d.ep e).crs.any (fun r => decide (r.2.st = .stopped ∧ r.2.stop = some .doorbell)) ||
      (d.ep e).rxqs.any (fun r => decide (r.2.st = .stopped)) ||
      (d.ep e).txqs.any (fun r => decide (r.2.st = .stopped))) = true := by
    simp only [Bool.or_eq_true, or_assoc]
    rcases h with ⟨n, h⟩ | ⟨q, h⟩ | ⟨q, h⟩
    · exact .inl (any_of_tget _ ({} : CmdRing) n (fun r => decide (r.st = .stopped ∧ r.stop = some .doorbell)) (decide_eq_true h) rfl)
    · exact .inr (.inl (any_of_tget _ ({} : PktQueue) q (fun r => decide (r.st = .stopped)) (decide_eq_true h) rfl))
    · exact .inr (.inr (any_of_tget _ ({} : PktQueue) q (fun r => decide (r.st = .stopped)) (decide_eq_true h) rfl))
  unfold Dev.epRefresh
  dsimp only
  rw [src_live_ne (by omega), src_live_ne (by omega), hany, show 0x40 + 16 * e + 3 = 0x43 + 16 * e by omega]
  exact src_live_self (defaultSeverity_doorbellStop he) _ _

/-- A stopped completion ring keeps source 4 of its endpoint live (02 Table 2-22). -/
theorem epRefresh_src_cplRingStop {d : Dev} {e n : Nat} (he : e < 4) (h : (d.cq e n).st = .stopped) :
    ((d.epRefresh e).src (0x44 + 16 * e)).live = true := by
  have hany : (d.ep e).cqs.any (fun r => decide (r.2.st = .stopped)) = true :=
    any_of_tget _ ({} : CplRing) n (fun r => decide (r.st = .stopped)) (decide_eq_true h) rfl
  unfold Dev.epRefresh
  dsimp only
  rw [src_live_ne (by omega), hany, show 0x40 + 16 * e + 4 = 0x44 + 16 * e by omega]
  exact src_live_self (defaultSeverity_cplRingStop he) _ _

theorem epRefresh_srcs_stateParity (d : Dev) (e : Nat) :
    tget (d.epRefresh e).fcr.srcs {} (0x4A + 16 * e) = tget d.fcr.srcs {} (0x4A + 16 * e) := by
  show (d.epRefresh e).src _ = d.src _
  unfold Dev.epRefresh
  dsimp only
  rw [src_live_ne (by omega), src_live_ne (by omega), src_live_ne (by omega), src_live_ne (by omega)]

@[simp] theorem Dev.ep_epRefresh (d : Dev) (e f : Nat) : (d.epRefresh e).ep f = d.ep f := ep_hif (by simp) f

@[simp] theorem Dev.ep_ringStopped (d : Dev) (e kind n cause a b : Nat) (pol : Option Nat) (f : Nat) :
    (d.ringStopped e kind n cause a b pol).ep f = d.ep f := ep_hif (by simp) f

@[simp] theorem Dev.rxq_epRefresh (d : Dev) (e f q : Nat) : (d.epRefresh e).rxq f q = d.rxq f q := rxq_hif (by simp) f q

/-! ### State words -/

@[simp] theorem Dev.wordRead_clean (d : Dev) (e i : Nat) : d.wordRead e i false = d := rfl

/-- The first state word of an endpoint that fails its parity check raises FS_EP_STATE_PARITY (02 Table 2-22). -/
theorem wordRead_src_stateParity {d : Dev} {e : Nat} (he : e < 4) (ha : (d.ep e).answers = true) (hw : (d.ep e).badWords = [])
    (i : Nat) : ((d.wordRead e i true).src (0x4A + 16 * e)).live = true := by
  simp only [Dev.wordRead, ha, hw, Dev.wordSource, ep_modEp, if_true, Bool.and_self, List.contains_nil, Bool.not_false,
    List.isEmpty_cons]
  exact src_live_self (defaultSeverity_stateParity he) _ _

/-- A value is behind by the half range (02 R42; for other rings than command rings by assumption 26). -/
theorem behind_iff {v l : Word} : behind v l = true ↔ 0x80000000 ≤ (v - l).toNat := decide_eq_true_iff

/-! ### The four doorbells, case by case (02 R42-R44) -/

section
variable {d : Dev} {e n : Nat} {v : Word} (ha : (d.ep e).answers = true)
include ha

theorem doCommandRingDoorbell_stray (h : 64 ≤ n ∨ (d.cr e n).st ≠ .active) : doCommandRingDoorbell e n v false d = d.stray e := by
  simp [doCommandRingDoorbell, ha, h]

theorem doCompletionRingDoorbell_stray (h : 64 ≤ n ∨ (d.cq e n).st ≠ .active) :
    doCompletionRingDoorbell e n v false d = d.stray e := by
  simp [doCompletionRingDoorbell, ha, h]

theorem doReceiveQueueDoorbell_stray (h : 256 ≤ n ∨ ((d.rxq e n).st ≠ .active ∧ (d.rxq e n).st ≠ .starved)) :
    doReceiveQueueDoorbell e n v false d = d.stray e := by
  simp [doReceiveQueueDoorbell, ha, h]

theorem doTransmitQueueDoorbell_stray (h : 256 ≤ n ∨ (d.txq e n).st ≠ .active) :
    doTransmitQueueDoorbell e n v false d = d.stray e := by
  simp [doTransmitQueueDoorbell, ha, h]

section
variable (hn : n < 64) (hs : (d.cr e n).st = .active)
include hn hs

theorem doCommandRingDoorbell_behind (hb : 0x80000000 ≤ (v - (d.cr e n).p).toNat) :
    doCommandRingDoorbell e n v false d = d.bump .dbStale (64 * e + n) := by
  simp [-BitVec.toNat_sub, doCommandRingDoorbell, behind_iff, ha, hs, hb, Nat.not_le.2 hn]

theorem doCommandRingDoorbell_overclaim (hb : (v - (d.cr e n).p).toNat < 0x80000000)
    (hc : 2 ^ (d.cr e n).sizeLog2 < (v - (d.cr e n).f).toNat) : doCommandRingDoorbell e n v false d =
      ((d.modCr e n (fun r => { r with st := .stopped, stop := some .doorbell })).ringStopped e 0 n 0
        (d.cr e n).p.toNat (d.cr e n).f.toNat (d.crPolder e n)).epRefresh e := by
  simp [-BitVec.toNat_sub, doCommandRingDoorbell, behind_iff, ha, hs, Nat.not_le.2 hb, Nat.not_le.2 hn, hc]

theorem doCommandRingDoorbell_accepted (hb : (v - (d.cr e n).p).toNat < 0x80000000)
    (hc : (v - (d.cr e n).f).toNat ≤ 2 ^ (d.cr e n).sizeLog2) :
    doCommandRingDoorbell e n v false d = d.modCr e n (fun r => { r with p := v }) := by
  simp [-BitVec.toNat_sub, doCommandRingDoorbell, behind_iff, ha, hs, Nat.not_le.2 hb, Nat.not_le.2 hn, Nat.not_lt.2 hc]
end

section
variable (hn : n < 64) (hs : (d.cq e n).st = .active)
include hn hs

theorem doCompletionRingDoorbell_behind (hb : 0x80000000 ≤ (v - (d.cq e n).consumed).toNat) :
    doCompletionRingDoorbell e n v false d = d.stray e := by
  simp [-BitVec.toNat_sub, doCompletionRingDoorbell, behind_iff, ha, hs, hb, Nat.not_le.2 hn]

theorem doCompletionRingDoorbell_overclaim (hb : (v - (d.cq e n).consumed).toNat < 0x80000000)
    (hc : 2 ^ (d.cq e n).sizeLog2 < ((d.cq e n).w - v).toNat) : doCompletionRingDoorbell e n v false d =
      ((d.modCq e n (fun r => { r with st := .stopped })).ringStopped e 1 n 2
        (d.cq e n).consumed.toNat (d.cq e n).w.toNat (d.cqPolder e n)).epRefresh e := by
  simp [-BitVec.toNat_sub, doCompletionRingDoorbell, behind_iff, ha, hs, Nat.not_le.2 hb, Nat.not_le.2 hn, hc]

theorem doCompletionRingDoorbell_accepted (hb : (v - (d.cq e n).consumed).toNat < 0x80000000)
    (hc : ((d.cq e n).w - v).toNat ≤ 2 ^ (d.cq e n).sizeLog2) :
    doCompletionRingDoorbell e n v false d = d.modCq e n (fun r => { r with consumed := v }) := by
  simp [-BitVec.toNat_sub, doCompletionRingDoorbell, behind_iff, ha, hs, Nat.not_le.2 hb, Nat.not_le.2 hn, Nat.not_lt.2 hc]
end

section
variable (hn : n < 256)
include hn

theorem doReceiveQueueDoorbell_behind (hb : 0x80000000 ≤ (v - (d.rxq e n).posted).toNat) :
    doReceiveQueueDoorbell e n v false d = d.stray e := by
  simp [-BitVec.toNat_sub, doReceiveQueueDoorbell, behind_iff, ha, hb, Nat.not_le.2 hn]

variable (hs : (d.rxq e n).st = .active ∨ (d.rxq e n).st = .starved)
include hs

theorem doReceiveQueueDoorbell_overclaim (hb : (v - (d.rxq e n).posted).toNat < 0x80000000)
    (hc : 2 ^ (d.rxq e n).sizeLog2 < (v - (d.rxq e n).used).toNat) : doReceiveQueueDoorbell e n v false d =
      ((d.modRxq e n (fun r => { r with st := .stopped })).ringStopped e 2 n 0
        (d.rxq e n).posted.toNat (d.rxq e n).used.toNat (d.rxqPolder e n)).epRefresh e := by
  rcases hs with hs | hs <;>
    simp [-BitVec.toNat_sub, doReceiveQueueDoorbell, behind_iff, ha, hs, Nat.not_le.2 hb, Nat.not_le.2 hn, hc]

theorem doReceiveQueueDoorbell_accepted (hb : (v - (d.rxq e n).posted).toNat < 0x80000000)
    (hc : (v - (d.rxq e n).used).toNat ≤ 2 ^ (d.rxq e n).sizeLog2) :
    doReceiveQueueDoorbell e n v false d = (d.modRxq e n (fun r =>
      if v = r.posted then r else { r with posted := v, st := .active, emptySince := none })).epRefresh e := by
  rcases hs with hs | hs <;>
    simp [-BitVec.toNat_sub, doReceiveQueueDoorbell, behind_iff, ha, hs, Nat.not_le.2 hb, Nat.not_le.2 hn, Nat.not_lt.2 hc]
end

section
variable (hn : n < 256) (hs : (d.txq e n).st = .active)
include hn hs

theorem doTransmitQueueDoorbell_behind (hb : 0x80000000 ≤ (v - (d.txq e n).posted).toNat) :
    doTransmitQueueDoorbell e n v false d = d.stray e := by
  simp [-BitVec.toNat_sub, doTransmitQueueDoorbell, behind_iff, ha, hs, hb, Nat.not_le.2 hn]

theorem doTransmitQueueDoorbell_overclaim (hb : (v - (d.txq e n).posted).toNat < 0x80000000)
    (hc : 2 ^ (d.txq e n).sizeLog2 < (v - (d.txq e n).used).toNat) : doTransmitQueueDoorbell e n v false d =
      ((d.modTxq e n (fun r => { r with st := .stopped })).ringStopped e 3 n 0
        (d.txq e n).posted.toNat (d.txq e n).used.toNat (d.txqPolder e n)).epRefresh e := by
  simp [-BitVec.toNat_sub, doTransmitQueueDoorbell, behind_iff, ha, hs, Nat.not_le.2 hb, Nat.not_le.2 hn, hc]

theorem doTransmitQueueDoorbell_accepted (hb : (v - (d.txq e n).posted).toNat < 0x80000000)
    (hc : (v - (d.txq e n).used).toNat ≤ 2 ^ (d.txq e n).sizeLog2) :
    doTransmitQueueDoorbell e n v false d = d.modTxq e n (fun r => { r with posted := v }) := by
  simp [-BitVec.toNat_sub, doTransmitQueueDoorbell, behind_iff, ha, hs, Nat.not_le.2 hb, Nat.not_le.2 hn, Nat.not_lt.2 hc]
end

end

/-! ### A doorbell with a bad state word (02 R79) -/

theorem doCommandRingDoorbell_src_stateParity (d : Dev) (e n : Nat) (v : Word) (p : Bool) :
    (doCommandRingDoorbell e n v p d).src (0x4A + 16 * e) = (d.wordRead e n p).src (0x4A + 16 * e) := by
  unfold doCommandRingDoorbell
  generalize d.wordRead e n p = d'
  dsimp only
  repeat' split
  all_goals simp [Dev.src, epRefresh_srcs_stateParity]

theorem doCompletionRingDoorbell_src_stateParity (d : Dev) (e n : Nat) (v : Word) (p : Bool) :
    (doCompletionRingDoorbell e n v p d).src (0x4A + 16 * e) = (d.wordRead e (64 + n) p).src (0x4A + 16 * e) := by
  unfold doCompletionRingDoorbell
  generalize d.wordRead e (64 + n) p = d'
  dsimp only
  repeat' split
  all_goals simp [Dev.src, epRefresh_srcs_stateParity]

theorem doReceiveQueueDoorbell_src_stateParity (d : Dev) (e n : Nat) (v : Word) (p : Bool) :
    (doReceiveQueueDoorbell e n v p d).src (0x4A + 16 * e) = (d.wordRead e (128 + n) p).src (0x4A + 16 * e) := by
  unfold doReceiveQueueDoorbell
  generalize d.wordRead e (128 + n) p = d'
  dsimp only
  repeat' split
  all_goals simp [Dev.src, epRefresh_srcs_stateParity]

theorem doTransmitQueueDoorbell_src_stateParity (d : Dev) (e n : Nat) (v : Word) (p : Bool) :
    (doTransmitQueueDoorbell e n v p d).src (0x4A + 16 * e) = (d.wordRead e (384 + n) p).src (0x4A + 16 * e) := by
  unfold doTransmitQueueDoorbell
  generalize d.wordRead e (384 + n) p = d'
  dsimp only
  repeat' split
  all_goals simp [Dev.src, epRefresh_srcs_stateParity]

/-! ### Writes to BAR2 (02 Table 2-2, R43) -/

theorem doStrayDoorbell_stray {d : Dev} {e off width : Nat} (ha : (d.ep e).answers = true)
    (h : off % 64 ≠ 0 ∨ width ≠ 32 ∨ 0xA000 ≤ off) (w : BitVec 64) : doStrayDoorbell e off width w d = d.stray e := by
  simp only [doStrayDoorbell, doBar2Write, ha, Bool.not_true, Bool.false_eq_true, if_false]
  by_cases hf : off % 64 ≠ 0 ∨ width ≠ 32
  · rw [if_pos hf]
  · rw [if_neg hf, if_neg (by omega), if_neg (by omega), if_neg (by omega), if_neg (by omega)]

/-- A 32-bit write to a slot of Table 2-2 is the doorbell of that slot. -/
theorem doStrayDoorbell_slot {d : Dev} {e : Nat} (ha : (d.ep e).answers = true) (n : Nat) (w : BitVec 64) :
    (n < 64 → doStrayDoorbell e (64 * n) 32 w d = doCommandRingDoorbell e n (w.truncate 32) false d ∧
      doStrayDoorbell e (0x1000 + 64 * n) 32 w d = doCompletionRingDoorbell e n (w.truncate 32) false d) ∧
    (n < 256 → doStrayDoorbell e (0x2000 + 64 * n) 32 w d = doReceiveQueueDoorbell e n (w.truncate 32) false d ∧
      doStrayDoorbell e (0x6000 + 64 * n) 32 w d = doTransmitQueueDoorbell e n (w.truncate 32) false d) := by
  have hdiv (b : Nat) : (b + 64 * n - b) / 64 = n := by omega
  have hnum : 64 * n / 64 = n := by omega
  simp only [doStrayDoorbell, doBar2Write, ha, Bool.not_true, Bool.false_eq_true, if_false, hdiv, hnum]
  refine ⟨fun hn => ⟨?_, ?_⟩, fun hn => ⟨?_, ?_⟩⟩
  · rw [if_neg (by omega), if_pos (by omega)]
  · rw [if_neg (by omega), if_neg (by omega), if_pos (by omega)]
  · rw [if_neg (by omega), if_neg (by omega), if_neg (by omega), if_pos (by omega)]
  · rw [if_neg (by omega), if_neg (by omega), if_neg (by omega), if_neg (by omega), if_pos (by omega)]

/-- Rows that leave the same device answer the same. -/
theorem next_congr {s : State} {d d' : Dev} (h : d = d') :
    (.next { s with dev := d } : Host.Outcome State Fault Refusal) = .next { s with dev := d' } := by rw [h]

/-- Settles O2: each doorbell runs one of its cases above, at an endpoint that answers; what it does with its ring, the counters and
the endpoint's sources are the equations of that case. -/
theorem doorbellsFollowTheirRules : Obligations.DoorbellsFollowTheirRules := by
  intro s e n v he ha
  refine ⟨fun hn hs => ?_, fun hn hs => ?_, fun hn hs => ?_, fun hn hs => ?_, fun t ht => ?_, fun off width w => ?_, fun hw => ?_⟩
  · refine ⟨fun hb => ⟨_, rfl, ?_⟩, fun hb hc => ⟨_, rfl, ?_⟩, fun hb hc => ⟨_, rfl, ?_⟩⟩
    · rw [doCommandRingDoorbell_behind ha hn hs hb]
      exact ⟨by simp, ctr_bump ..⟩
    · rw [doCommandRingDoorbell_overclaim ha hn hs hb hc]
      exact ⟨by simp [Dev.cr, Dev.modCr], epRefresh_src_doorbellStop he (.inl ⟨n, by simp [Dev.cr, Dev.modCr]⟩)⟩
    · rw [doCommandRingDoorbell_accepted ha hn hs hb hc]
      exact ⟨by simp, fun m hm => by simp [hm.symm], fun f hf => by simp [Dev.modCr, hf.symm]⟩
  · refine ⟨fun hb => ⟨_, rfl, ?_⟩, fun hb hc => ⟨_, rfl, ?_⟩, fun hb hc => ⟨_, rfl, ?_⟩⟩
    · rw [doCompletionRingDoorbell_behind ha hn hs hb]
      exact ⟨by simp, ctr_bump ..⟩
    · rw [doCompletionRingDoorbell_overclaim ha hn hs hb hc]
      exact ⟨by simp [Dev.cq, Dev.modCq], epRefresh_src_cplRingStop (n := n) he (by simp [Dev.cq, Dev.modCq])⟩
    · rw [doCompletionRingDoorbell_accepted ha hn hs hb hc]
      exact ⟨by simp, fun m hm => by simp [hm.symm], fun f hf => by simp [Dev.modCq, hf.symm]⟩
  · refine ⟨fun hb => ⟨_, rfl, ?_⟩, fun hb hc => ⟨_, rfl, ?_⟩, fun hb hc => ⟨_, rfl, ?_⟩⟩
    · rw [doReceiveQueueDoorbell_behind ha hn hb]
      exact ⟨by simp, ctr_bump ..⟩
    · rw [doReceiveQueueDoorbell_overclaim ha hn hs hb hc]
      exact ⟨by simp [Dev.rxq, Dev.modRxq], epRefresh_src_doorbellStop he (.inr (.inl ⟨n, by simp [Dev.rxq, Dev.modRxq]⟩))⟩
    · rw [doReceiveQueueDoorbell_accepted ha hn hs hb hc]
      refine ⟨?_, ?_, ?_, fun m hm => by simp [hm.symm], fun f hf => by simp [Dev.modRxq, hf.symm]⟩ <;>
        by_cases hv : v = (s.dev.rxq e n).posted <;> simp [hv]
  · refine ⟨fun hb => ⟨_, rfl, ?_⟩, fun hb hc => ⟨_, rfl, ?_⟩, fun hb hc => ⟨_, rfl, ?_⟩⟩
    · rw [doTransmitQueueDoorbell_behind ha hn hs hb]
      exact ⟨by simp, ctr_bump ..⟩
    · rw [doTransmitQueueDoorbell_overclaim ha hn hs hb hc]
      exact ⟨by simp [Dev.txq, Dev.modTxq], epRefresh_src_doorbellStop he (.inr (.inr ⟨n, by simp [Dev.txq, Dev.modTxq]⟩))⟩
    · rw [doTransmitQueueDoorbell_accepted ha hn hs hb hc]
      exact ⟨by simp, fun m hm => by simp [hm.symm], fun f hf => by simp [Dev.modTxq, hf.symm]⟩
  · have hstray : doStrayDoorbell e 0 8 0 s.dev = s.dev.stray e := doStrayDoorbell_stray ha (.inr (.inl (by decide))) 0
    exact ⟨fun h => (next_congr ((doCommandRingDoorbell_stray ha h).trans hstray.symm)).trans ht,
      fun h => (next_congr ((doCompletionRingDoorbell_stray ha h).trans hstray.symm)).trans ht,
      fun h => (next_congr ((doReceiveQueueDoorbell_stray ha h).trans hstray.symm)).trans ht,
      fun h => (next_congr ((doTransmitQueueDoorbell_stray ha h).trans hstray.symm)).trans ht⟩
  · refine ⟨fun h => ⟨_, rfl, ?_⟩, fun hn => ?_, fun hn => ?_⟩
    · rw [doStrayDoorbell_stray ha h]
      exact ⟨by simp, ctr_bump ..⟩
    · exact ((doStrayDoorbell_slot ha n w).1 hn).imp next_congr next_congr
    · exact ((doStrayDoorbell_slot ha n w).2 hn).imp next_congr next_congr
  · refine ⟨⟨_, rfl, ?_⟩, ⟨_, rfl, ?_⟩, ⟨_, rfl, ?_⟩, ⟨_, rfl, ?_⟩⟩
    · rw [doCommandRingDoorbell_src_stateParity]
      exact wordRead_src_stateParity he ha hw _
    · rw [doCompletionRingDoorbell_src_stateParity]
      exact wordRead_src_stateParity he ha hw _
    · rw [doReceiveQueueDoorbell_src_stateParity]
      exact wordRead_src_stateParity he ha hw _
    · rw [doTransmitQueueDoorbell_src_stateParity]
      exact wordRead_src_stateParity he ha hw _

end Sys2Proof.Machine
end

section
/-! PROOFS. The checks of a fetched descriptor (02 R45-R49, Table 2-5; 14 R439, R441). -/
namespace Sys2Proof.Machine

/-! ### What no check reads -/

/-- The device `d` with the recorder, the check-value contexts and the counters of `r`. -/
def Dev.withLogs (d r : Dev) : Dev := { d with evr := r.evr, cvu := r.cvu, ctrs := r.ctrs }

theorem eq_withLogs {d d' : Dev} (h : ButFcrEvrCvuCtrs d d') (hf : d'.fcr = d.fcr) : d' = d.withLogs d' := by
  cases d
  cases d'
  simp_all [ButFcrEvrCvuCtrs, Dev.withLogs]

/-- How many counters an object has does not depend on their values. -/
theorem length_ctrItems_withLogs (d r : Dev) (kind i bank : Nat) :
    ((d.withLogs r).ctrItems kind i bank).length = (d.ctrItems kind i bank).length := by
  unfold Dev.ctrItems
  split <;> rfl

theorem checkTables_withLogs (d r : Dev) (e : Nat) (x : Cmd) : (d.withLogs r).checkTables e x = d.checkTables e x := by
  unfold Dev.checkTables
  simp only [length_ctrItems_withLogs]
  rfl

theorem opCheck_withLogs (d r : Dev) (e : Nat) (x : Cmd) : (d.withLogs r).opCheck e x = d.opCheck e x := by
  unfold Dev.opCheck
  rw [checkTables_withLogs]
  rfl

theorem locatorOk_withLogs (d r : Dev) (e : Nat) (x : Cmd) : (d.withLogs r).locatorOk e x = d.locatorOk e x := rfl

/-! ### Steps 4 to 8 of Table 2-5 -/

theorem status_checkRest (d : Dev) (e : Nat) (x : Cmd) : (d.checkRest e x).map Done.status =
    if assigned x.opcode = false then some stBadOpcode
    else if headBad x ≠ none then some stBadOperand
    else if opModes x.opcode d.bal.mode = false ∨ x.opcode = 0x05 ∧ x.fld 16 4 1 = 1 ∧ opModes 0x10 d.bal.mode = false then
      some stWrongMode
    else if (d.opCheck e x).own = false then some stNotOwner
    else if (d.opCheck e x).offending x ≠ none then some stBadOperand
    else none := by
  unfold Dev.checkRest
  dsimp only
  cases assigned x.opcode with
  | false => simp
  | true =>
    cases headBad x with
    | some o => simp
    | none =>
      cases opModes x.opcode d.bal.mode with
      | false => simp
      | true =>
        by_cases hp : x.opcode = 0x05 ∧ x.fld 16 4 1 = 1 ∧ opModes 0x10 d.bal.mode = false
        · simp [hp]
        · cases (d.opCheck e x).own with
          | false => simp [hp, and_assoc]
          | true => cases (d.opCheck e x).offending x <;> simp [hp, and_assoc]

/-! ### The compare of CHECK and CHECK_PAR (02 R47, 14 R437-R441) -/

theorem cvuCtx_cvu {d d' : Dev} (h : d'.cvu = d.cvu) (n : Nat) : d'.cvuCtx n = d.cvuCtx n := by simp [Dev.cvuCtx, h]

/-- A compare finds the check field bad, or else the data, or neither; a spoilt computation is bad data (14 R437, R438, R441). -/
theorem cvuJudge_verdict (d : Dev) (n : Nat) :
    ((d.cvuJudge n).cvuCtx n).checkField = (!(d.cvuCtx n).forced && !(d.cvuCtx n).parityOk) ∧
    ((d.cvuJudge n).cvuCtx n).mismatch =
      ((d.cvuCtx n).forced || ((d.cvuCtx n).parityOk && decide ((d.cvuCtx n).result ≠ (d.cvuCtx n).expect))) := by
  unfold Dev.cvuJudge
  dsimp only
  repeat' split
  all_goals simp [Dev.cvuCtx, Dev.modCvu]

/-- A compare that matches raises no source. -/
theorem fcr_cvuJudge {d : Dev} {n : Nat} (hf : ((d.cvuJudge n).cvuCtx n).checkField = false)
    (hm : ((d.cvuJudge n).cvuCtx n).mismatch = false) : (d.cvuJudge n).fcr = d.fcr := by
  obtain ⟨hfield, hbad⟩ := cvuJudge_verdict d n
  rw [hf] at hfield
  rw [hm] at hbad
  simp only [Dev.cvuJudge, ← hfield, ← hbad, Bool.or_self, Bool.not_false, Bool.or_true, if_true]
  simp

/-- The engine spoils the computation of a context by a lasting error alone (14 R441). -/
theorem cvuCtx_cvuEngine (d : Dev) (n first : Nat) (check : Ecc) : (d.cvuEngine n first check).cvuCtx n =
    if check = .lasting then { d.cvuCtx n with stateErr := true, forced := true } else d.cvuCtx n := by
  cases check with
  | clean | corrected => rfl
  | once => simp [Dev.cvuEngine, Dev.cvuCtx]
  | lasting =>
    rw [if_pos rfl, cvuCtx_cvu (d := d.modCvu n (fun x => { x with stateErr := true, forced := true })) (by simp [Dev.cvuEngine])]
    simp

theorem fcr_cvuEngine (d : Dev) (n first : Nat) {check : Ecc} (h : check ≠ .lasting) : (d.cvuEngine n first check).fcr = d.fcr := by
  cases check with
  | clean | corrected => rfl
  | once => simp [Dev.cvuEngine]
  | lasting => exact absurd rfl h

/-! ### The check value of a descriptor -/

/-- The context of an endpoint that its next descriptor is judged in (14 R439). -/
def Dev.descCtx (d : Dev) (e : Nat) : Nat := 2 * e + if d.cvu.next.testBit e then 1 else 0

/-- The context after the Host Interface has fed it a descriptor. -/
def fedCtx (x : CvuCtx) (desc : Descriptor) : CvuCtx :=
  { x with
    alg := 0, runAlg := 0, parMode := true, foldLen := 4, fold := descFold desc, bytes := 64
    run := BitVec.ofNat 64 (cvuBytes 0 (cvuBytes 0 (cvuInit 0) (leBytes 4 (descFold desc).toNat)) (descWords desc))
    expect := BitVec.ofNat 64 (bits desc.toNat 64 32), expPar := BitVec.ofNat 8 (bits desc.toNat 96 8) }

/-- The device with the endpoint's next descriptor fed. -/
def Dev.fed (d : Dev) (e : Nat) (desc : Descriptor) : Dev :=
  { d with cvu := { d.cvu with next := d.cvu.next ^^^ 2 ^ e } }.modCvu (d.descCtx e) (fun x => fedCtx x desc)

theorem cvuDescriptor_eq (d : Dev) (e : Nat) (desc : Descriptor) (check : Ecc) : d.cvuDescriptor e desc check =
    let d' := ((d.fed e desc).cvuEngine (d.descCtx e) 0 check).cvuJudge (d.descCtx e)
    (if (d'.cvuCtx (d.descCtx e)).checkField then .badField else if (d'.cvuCtx (d.descCtx e)).mismatch then .badData else .good,
      d') := rfl

/-- A field of a field is a field. -/
theorem bits_bits (n : Nat) {a w b u c : Nat} (h : b + u ≤ w) (hc : a + b = c) : bits (bits n a w) b u = bits n c u := by
  subst hc
  apply Nat.eq_of_testBit_eq
  intro i
  simp only [bits, Nat.testBit_mod_two_pow, Nat.testBit_shiftRight]
  by_cases hi : i < u
  · simp [hi, show b + i < w by omega, Nat.add_assoc]
  · simp [hi]

theorem bits_lt (n a w : Nat) : bits n a w < 2 ^ w := Nat.mod_lt _ (Nat.two_pow_pos w)

theorem xorBytes_four (n : Nat) : xorBytes 4 n = bits n 0 8 ^^^ bits n 8 8 ^^^ bits n 16 8 ^^^ bits n 24 8 := by
  simp [xorBytes, leBytes, bits, Nat.shiftRight_eq_div_pow, Nat.div_div_eq_div_mul]

/-- The XOR of the bytes of CHECK (02 R47). -/
def descXor (desc : Descriptor) : Nat :=
  bits desc.toNat 64 8 ^^^ bits desc.toNat 72 8 ^^^ bits desc.toNat 80 8 ^^^ bits desc.toNat 88 8

/-- The CRC-32C of what CHECK covers (02 R47). -/
def descCrc (desc : Descriptor) : Nat := crc32c (leBytes 4 (descFold desc).toNat ++ descWords desc)

theorem xorBytes_check (desc : Descriptor) : xorBytes 4 (bits desc.toNat 64 32) = descXor desc := by
  rw [xorBytes_four, bits_bits _ (by decide) rfl, bits_bits _ (by decide) rfl, bits_bits _ (by decide) rfl, bits_bits _ (by decide) rfl]
  rfl

theorem pack_four (a0 w0 v0 a1 w1 v1 a2 w2 v2 a3 w3 v3 : Nat) :
    pack [(a0, w0, v0), (a1, w1, v1), (a2, w2, v2), (a3, w3, v3)] =
      v0 % 2 ^ w0 * 2 ^ a0 + v1 % 2 ^ w1 * 2 ^ a1 + v2 % 2 ^ w2 * 2 ^ a2 + v3 % 2 ^ w3 * 2 ^ a3 := by
  simp [pack]

theorem toNat_descFold (desc : Descriptor) : (descFold desc).toNat = bits desc.toNat 32 20 + bits desc.toNat 52 6 * 2 ^ 21 +
    bits desc.toNat 58 2 * 2 ^ 27 + bits desc.toNat 60 3 * 2 ^ 29 := by
  have hpos := bits_lt desc.toNat 32 20
  have hring := bits_lt desc.toNat 52 6
  have hep := bits_lt desc.toNat 58 2
  have hpolder := bits_lt desc.toNat 60 3
  unfold descFold
  rw [BitVec.toNat_ofNat, pack_four, bits_bits _ (by decide) rfl, bits_bits _ (by decide) rfl, bits_bits _ (by decide) rfl,
    bits_bits _ (by decide) rfl, Nat.mod_eq_of_lt hpos, Nat.mod_eq_of_lt hring, Nat.mod_eq_of_lt hep, Nat.mod_eq_of_lt hpolder,
    Nat.pow_zero, Nat.mul_one]
  exact Nat.mod_eq_of_lt (by omega)

theorem cvuBytes_zero (run : Nat) (bs : List Byte) : cvuBytes 0 run bs = crcRefl 0x82F63B78 bs run := by
  induction bs generalizing run with
  | nil => rfl
  | cons b t ih => exact ih _

theorem crcBit_lt {c : Nat} (h : c < 2 ^ 32) : crcBit 0x82F63B78 c < 2 ^ 32 := by
  unfold crcBit
  split
  · exact Nat.xor_lt_two_pow (by omega) (by decide)
  · omega

theorem crcBits_lt (k : Nat) {c : Nat} (h : c < 2 ^ 32) : crcBits 0x82F63B78 k c < 2 ^ 32 := by
  induction k generalizing c with
  | zero => exact h
  | succ k ih => exact ih (crcBit_lt h)

theorem crcRefl_lt (bs : List Byte) {c : Nat} (h : c < 2 ^ 32) : crcRefl 0x82F63B78 bs c < 2 ^ 32 := by
  induction bs generalizing c with
  | nil => exact h
  | cons b t ih => exact ih (crcBits_lt 8 (Nat.xor_lt_two_pow h (by have := b.isLt; omega)))

theorem crc32c_lt (bs : List Byte) : crc32c bs < 2 ^ 32 := Nat.xor_lt_two_pow (crcRefl_lt bs (by decide)) (by decide)

/-- RESULT of the context is the check value of the fold value's bytes and the words fed (02 R47). -/
theorem fedCtx_result (x : CvuCtx) (desc : Descriptor) : (fedCtx x desc).result = BitVec.ofNat 64 (descCrc desc) := by
  simp only [CvuCtx.result, fedCtx, descCrc, crc32c, cvuBytes_zero, cvuInit, cvuXor, crcRefl, List.foldl_append, BitVec.ofNat_xor]

theorem fedCtx_parityOk (x : CvuCtx) (desc : Descriptor) :
    (fedCtx x desc).parityOk = decide (descXor desc = bits desc.toNat 96 8) := by
  have hcheck := bits_lt desc.toNat 64 32
  simp only [CvuCtx.parityOk, fedCtx, if_true, cvuWidth, Nat.reduceDiv, BitVec.toNat_ofNat,
    Nat.mod_eq_of_lt (show bits desc.toNat 64 32 < 2 ^ 64 by omega), Nat.mod_eq_of_lt (bits_lt desc.toNat 96 8), xorBytes_check]

theorem fedCtx_match (x : CvuCtx) (desc : Descriptor) : (fedCtx x desc).result = (fedCtx x desc).expect ↔
    bits desc.toNat 64 32 = descCrc desc := by
  have hb := bits_lt desc.toNat 64 32
  have hc : descCrc desc < 2 ^ 32 := crc32c_lt _
  rw [fedCtx_result, fedCtx, ← BitVec.toNat_inj, BitVec.toNat_ofNat, BitVec.toNat_ofNat, Nat.mod_eq_of_lt (by omega),
    Nat.mod_eq_of_lt (by omega), eq_comm]

theorem cvuCtx_fed (d : Dev) (e : Nat) (desc : Descriptor) :
    (d.fed e desc).cvuCtx (d.descCtx e) = fedCtx (d.cvuCtx (d.descCtx e)) desc :=
  (Dev.cvuCtx_modCvu ..).trans (if_pos rfl)

/-- What a descriptor's compare finds: a spoilt computation, a bad check field, bad data, or a match (02 R47, 14 R439, R441). -/
theorem fst_cvuDescriptor (d : Dev) (e : Nat) (desc : Descriptor) (check : Ecc) : (d.cvuDescriptor e desc check).1 =
    if check = .lasting ∨ (d.cvuCtx (d.descCtx e)).forced = true then .badData
    else if descXor desc ≠ bits desc.toNat 96 8 then .badField
    else if bits desc.toNat 64 32 ≠ descCrc desc then .badData
    else .good := by
  obtain ⟨hfield, hbad⟩ := cvuJudge_verdict ((d.fed e desc).cvuEngine (d.descCtx e) 0 check) (d.descCtx e)
  rw [cvuDescriptor_eq]
  dsimp only
  rw [hfield, hbad, cvuCtx_cvuEngine, cvuCtx_fed]
  by_cases hl : check = .lasting
  · simp [hl]
  · have hforced : (fedCtx (d.cvuCtx (d.descCtx e)) desc).forced = (d.cvuCtx (d.descCtx e)).forced := rfl
    cases hf : (d.cvuCtx (d.descCtx e)).forced with
    | true => simp [hl, hforced, hf]
    | false =>
      by_cases hx : descXor desc = bits desc.toNat 96 8
      · simp [hl, hforced, hf, fedCtx_parityOk, fedCtx_match, hx]
      · simp [hl, hforced, hf, fedCtx_parityOk, hx]

/-- A descriptor whose compare matches leaves all that the later checks read. -/
theorem snd_cvuDescriptor_of_good {d : Dev} {e : Nat} {desc : Descriptor} {check : Ecc}
    (h : (d.cvuDescriptor e desc check).1 = .good) :
    (d.cvuDescriptor e desc check).2 = d.withLogs (d.cvuDescriptor e desc check).2 := by
  refine eq_withLogs (Dev.cvuDescriptor_frame ..) ?_
  have hl : check ≠ .lasting := by
    rintro rfl
    simp [fst_cvuDescriptor] at h
  rw [cvuDescriptor_eq] at h ⊢
  dsimp only at h ⊢
  split at h
  · cases h
  · next hfield =>
    split at h
    · cases h
    · next hbad =>
      rw [fcr_cvuJudge (eq_false_of_ne_true hfield) (eq_false_of_ne_true hbad), fcr_cvuEngine _ _ _ hl]
      rfl

/-! ### The command that a fetch appends -/

/-- The command of a descriptor that a fetch of ring `n` returns, before its checks have ended it; `chk` is how its check value
fares. -/
def Dev.fetchedCmd (d : Dev) (e n : Nat) (desc : Descriptor) (chk : DescCheck) : Cmd :=
  { ring := n, pos := (d.cr e n).f, desc := desc, tagValid := decide (chk = .good), ordered := decide (bits desc.toNat 8 1 = 0)
    fetchTick := d.bal.tick, auth := d.authority e }

/-- The outcome of the first check that fails. -/
def Dev.fetchOutcome (d : Dev) (e : Nat) (x : Cmd) : DescCheck → Option Done
  | .badField => some { status := stCheckField }
  | .badData => some { status := stBadCheck }
  | .good => if !d.locatorOk e x then some { status := stBadSequence } else d.checkRest e x

/-- A command with what its checks found: one that failed is ordered (02 R49). -/
def Cmd.checked (x : Cmd) : Option Done → Cmd
  | some o => { x with ordered := true, outcome := some o }
  | none => x

/-- A command joins those of endpoint `e`, and its ring goes on by one position. -/
def Dev.appendCmd (d : Dev) (e n : Nat) (x : Cmd) : Dev :=
  (d.modCr e n (fun r => { r with f := r.f + 1 })).modEp e (fun y => { y with cmds := y.cmds ++ [x] })

theorem cmds_appendCmd (d : Dev) (e n : Nat) (x : Cmd) : ((d.appendCmd e n x).ep e).cmds = (d.ep e).cmds ++ [x] := by
  simp [Dev.appendCmd, Dev.modCr]

theorem cr_appendCmd (d : Dev) (e n : Nat) (x : Cmd) :
    (d.appendCmd e n x).cr e n = { d.cr e n with f := (d.cr e n).f + 1 } := by
  simp [Dev.appendCmd, Dev.cr, Dev.modCr]

/-- A fetch appends the command with what its checks found; before it, only counters and sources move. -/
theorem fetched_eq_appendCmd (d : Dev) (e n : Nat) (desc : Descriptor) (check : Ecc) :
    let r := d.cvuDescriptor e desc check
    let x := r.2.fetchedCmd e n desc r.1
    ∃ d' : Dev, d'.hif = d.hif ∧ d.fetched e n desc check = d'.appendCmd e n (x.checked (r.2.fetchOutcome e x r.1)) := by
  have hhif : (d.cvuDescriptor e desc check).2.hif = d.hif := by simp
  have hcr := cr_hif hhif e n
  unfold Dev.fetched
  generalize d.cvuDescriptor e desc check = r at hhif hcr ⊢
  obtain ⟨chk, d'⟩ := r
  dsimp only at hhif hcr ⊢
  rw [← hcr]
  cases chk with
  | badField => exact ⟨_, by simp [hhif], rfl⟩
  | badData => exact ⟨_, by simp [hhif], rfl⟩
  | good =>
    cases hl : d'.locatorOk e (d'.fetchedCmd e n desc .good) with
    | false =>
      simp only [Dev.fetchedCmd] at hl
      simp only [hl, Bool.not_false, if_true, Dev.fetchOutcome, Dev.fetchedCmd]
      exact ⟨_, by simp [hhif], rfl⟩
    | true =>
      simp only [Dev.fetchedCmd] at hl
      simp only [hl, Bool.not_true, Bool.false_eq_true, if_false, Dev.fetchOutcome, Dev.fetchedCmd]
      exact ⟨_, hhif, rfl⟩

/-- CHECK in the fields of the descriptor: the fold value of its LOCATOR, then its bytes with CHECK and CHECK_PAR as 0 (02 R47). -/
theorem descCrc_eq (desc : Descriptor) : descCrc desc = crc32c
    (leBytes 4 (fld desc.toNat 4 0 20 + fld desc.toNat 4 20 6 * 2 ^ 21 + fld desc.toNat 4 26 2 * 2 ^ 27 + fld desc.toNat 4 28 3 * 2 ^ 29) ++
      ((leBytes 64 desc.toNat).take 8 ++ [0, 0, 0, 0, 0] ++ (leBytes 64 desc.toNat).drop 13)) := by
  rw [descCrc, toNat_descFold]
  rfl

theorem fetchOutcome_withLogs (d r : Dev) (e : Nat) (x : Cmd) : ((d.withLogs r).fetchOutcome e x .good).map Done.status =
    if d.locatorOk e x = false then some stBadSequence else (d.checkRest e x).map Done.status := by
  have hrest : ((d.withLogs r).checkRest e x).map Done.status = (d.checkRest e x).map Done.status := by
    rw [status_checkRest, status_checkRest, opCheck_withLogs]
    rfl
  unfold Dev.fetchOutcome
  rw [locatorOk_withLogs]
  cases d.locatorOk e x with
  | false => rfl
  | true => exact hrest

/-- The first check of Table 2-5 that fails gives the status (02 R48). -/
theorem status_fetchOutcome (d : Dev) (e n : Nat) (desc : Descriptor) (check : Ecc) :
    let r := d.cvuDescriptor e desc check
    let x := r.2.fetchedCmd e n desc r.1
    (r.2.fetchOutcome e x r.1).map Done.status =
      if check = .lasting ∨ (d.cvuCtx (d.descCtx e)).forced = true then some stBadCheck
      else if descXor desc ≠ bits desc.toNat 96 8 then some stCheckField
      else if bits desc.toNat 64 32 ≠ descCrc desc then some stBadCheck
      else if d.locatorOk e x = false then some stBadSequence
      else (d.checkRest e x).map Done.status := by
  intro r x
  have hchk : r.1 = _ := fst_cvuDescriptor d e desc check
  by_cases hforced : check = .lasting ∨ (d.cvuCtx (d.descCtx e)).forced = true
  · rw [if_pos hforced] at hchk ⊢
    rw [hchk]
    rfl
  rw [if_neg hforced] at hchk ⊢
  by_cases hfield : descXor desc ≠ bits desc.toNat 96 8
  · rw [if_pos hfield] at hchk ⊢
    rw [hchk]
    rfl
  rw [if_neg hfield] at hchk ⊢
  by_cases hdata : bits desc.toNat 64 32 ≠ descCrc desc
  · rw [if_pos hdata] at hchk ⊢
    rw [hchk]
    rfl
  rw [if_neg hdata] at hchk ⊢
  rw [hchk, show r.2 = d.withLogs r.2 from snd_cvuDescriptor_of_good hchk]
  exact fetchOutcome_withLogs d r.2 e x

theorem doDescriptorFetchReturn_some {d : Dev} {e n : Nat} (hup : (d.ep e).up = true) (hi : (d.cr e n).issued ≠ (d.cr e n).f)
    (desc : Descriptor) (check : Ecc) : doDescriptorFetchReturn e n (some desc) check d = d.fetched e n desc check := by
  simp [doDescriptorFetchReturn, hup, hi]

/-! ### What the checks leave of a command -/

section
variable (x : Cmd) (o : Option Done)

@[simp] theorem checked_desc : (x.checked o).desc = x.desc := by cases o <;> rfl
@[simp] theorem checked_ring : (x.checked o).ring = x.ring := by cases o <;> rfl
@[simp] theorem checked_pos : (x.checked o).pos = x.pos := by cases o <;> rfl
@[simp] theorem checked_executing : (x.checked o).executing = x.executing := by cases o <;> rfl
@[simp] theorem fld_checked (off lsb w : Nat) : (x.checked o).fld off lsb w = x.fld off lsb w := by cases o <;> rfl
@[simp] theorem opcode_checked : (x.checked o).opcode = x.opcode := fld_checked x o 0 0 8
@[simp] theorem headBad_checked : headBad (x.checked o) = headBad x := by cases o <;> rfl
@[simp] theorem opCheck_checked (d : Dev) (e : Nat) : d.opCheck e (x.checked o) = d.opCheck e x := by cases o <;> rfl
@[simp] theorem offending_checked (k : OpCheck) : k.offending (x.checked o) = k.offending x := by cases o <;> rfl

theorem outcome_checked (hx : x.outcome = none) : (x.checked o).outcome = o := by
  cases o with
  | none => exact hx
  | some _ => rfl

theorem ordered_checked : (x.checked o).ordered = (o.isSome || x.ordered) := by
  cases o <;> rfl
end

/-- Settles O4: the fetch appends one command, whose outcome is that of the first check that fails; the compare leaves all that the
later checks read, so that they judge the device as the fetch found it. That all eight checks are made at the fetch, and OP_MODE_SET of a
polder among those of the mode, is the model's choice (assumptions 27 and 35). -/
theorem descriptorChecksGiveTheFirstFailure : Obligations.DescriptorChecksGiveTheFirstFailure := by
  intro s e n desc _ hup hi check
  obtain ⟨d', hhif, heq⟩ := fetched_eq_appendCmd s.dev e n desc check
  have hstatus := status_fetchOutcome s.dev e n desc check
  have hpos : (s.dev.cvuDescriptor e desc check).2.cr e n = s.dev.cr e n := cr_hif (by simp) e n
  generalize s.dev.cvuDescriptor e desc check = r at heq hstatus hpos
  dsimp only at heq hstatus
  generalize r.2.fetchOutcome e (r.2.fetchedCmd e n desc r.1) r.1 = o at heq hstatus
  refine ⟨_, (r.2.fetchedCmd e n desc r.1).checked o, rfl, ?_⟩
  dsimp only
  rw [doDescriptorFetchReturn_some hup hi, heq, cmds_appendCmd, cr_appendCmd, ep_hif hhif, cr_hif hhif]
  have hnone : (r.2.fetchedCmd e n desc r.1).outcome = none := rfl
  refine ⟨rfl, rfl, checked_ring .., (checked_pos ..).trans (congrArg CmdRing.f hpos), checked_desc .., checked_executing ..,
    ?_, ?_, ?_⟩
  · rw [outcome_checked _ _ hnone, ordered_checked]
    intro h
    simp [Option.isSome_iff_ne_none.2 h]
  · rw [outcome_checked _ _ hnone, ordered_checked, fld_checked]
    rintro rfl
    rfl
  · rw [outcome_checked _ _ hnone, hstatus]
    simp only [fld_checked, opcode_checked, headBad_checked, opCheck_checked, offending_checked, status_checkRest,
      descCrc_eq, Dev.locatorOk, decide_eq_false_iff_not]
    simp only [Dev.fetchedCmd, hpos]
    rfl

end Sys2Proof.Machine
end

section
/-! PROOFS. What polder 0 owns at reset, and that nothing else is assigned (03 R91). -/
namespace Sys2Proof.Machine

theorem polder_zero_reset : State.reset.dev.polder 0 = wholePolder := rfl

theorem polder_reset_of_ne_zero {p : Nat} (hp : p ≠ 0) : State.reset.dev.polder p = {} := if_neg hp.symm

/-- Every polder defined at reset belongs to the warden endpoint (03 R91). -/
theorem owner_reset_of_defined {p : Nat} (hdef : (State.reset.dev.polder p).st ≠ .undefined) :
    (State.reset.dev.polder p).owner = State.reset.dev.plc.warden := by
  by_cases hp : p = 0
  · subst hp
    rfl
  · rw [polder_reset_of_ne_zero hp] at hdef
    exact absurd rfl hdef

/-- An endpoint that owns no defined polder has no ring or queue assigned, whatever the masks say (03 R81, R84). -/
theorem maskPolder_eq_none {d : Dev} {e : Nat} (h : ∀ p, (d.polder p).st ≠ .undefined → (d.polder p).owner ≠ e) (n : Nat)
    (m : Polder → Nat) : d.maskPolder e n m = none := by
  refine List.find?_eq_none.2 fun p _ hmatch => ?_
  simp only [Bool.and_eq_true, decide_eq_true_eq] at hmatch
  obtain ⟨⟨hdef, howner⟩, _⟩ := hmatch
  exact h p hdef howner

/-- Settles O55: the reset table lists polder 0 alone, with the whole device; an endpoint other than the warden owns no defined polder,
so that no mask assigns it anything. -/
theorem polderZeroOwnsAllAtReset : Obligations.PolderZeroOwnsAllAtReset := by
  have hother : ∀ e n m, e ≠ State.reset.dev.plc.warden → State.reset.dev.maskPolder e n m = none := fun e n m he =>
    maskPolder_eq_none (fun _ hdef howner => he (howner.symm.trans (owner_reset_of_defined hdef))) n m
  unfold Obligations.PolderZeroOwnsAllAtReset
  dsimp only
  rw [polder_zero_reset]
  refine ⟨rfl, rfl, rfl, rfl, rfl, rfl, rfl, rfl, rfl, rfl, rfl, rfl, rfl, rfl, rfl, nofun, fun p hp _ => ?_, fun e n he => ?_⟩
  · rw [polder_reset_of_ne_zero (Nat.ne_of_gt hp)]
  · exact ⟨hother e n _ he, hother e n _ he, hother e n _ he, hother e n _ he⟩

end Sys2Proof.Machine
end

section
/-! PROOFS. Which parts of the device stand: the relation and what keeps it. -/
namespace Sys2Proof.Machine

/-- The listed parts stand in `e` as they do in `d`. -/
def Stand : List Area → Dev → Dev → Prop
  | [], _, _ => True
  | p :: ps, d, e => p.same d e ∧ Stand ps d e

theorem Area.same_refl (p : Area) (d : Dev) : p.same d d := by cases p <;> rfl

theorem Area.same_trans {p : Area} {a b c : Dev} (h : p.same a b) (h' : p.same b c) : p.same a c := by
  cases p <;> exact h'.trans h

theorem stand_iff {ps : List Area} {d e : Dev} : Stand ps d e ↔ ∀ p ∈ ps, p.same d e := by
  induction ps with
  | nil => simp [Stand]
  | cons p ps ih => simp [Stand, ih]

theorem Stand.refl (ps : List Area) (d : Dev) : Stand ps d d := stand_iff.2 fun p _ => p.same_refl d

theorem Stand.trans {ps : List Area} {a b c : Dev} (h : Stand ps a b) (h' : Stand ps b c) : Stand ps a c :=
  stand_iff.2 fun p hp => Area.same_trans (stand_iff.1 h p hp) (stand_iff.1 h' p hp)

theorem Stand.step1 {ps : List Area} {d : Dev} {c : CmdRef} {is : Cmd → Bool} {f : Dev → Cmd → Dev}
    (h : ∀ x, Stand ps d (f d x)) : Stand ps d (d.step1 c is f) := by
  unfold Dev.step1
  repeat' split
  · exact h _
  · exact .refl ..
  · exact .refl ..

theorem Stand.foldl {α : Type} {ps : List Area} {f : Dev → α → Dev} (h : ∀ d x, Stand ps d (f d x)) (l : List α) (d : Dev) :
    Stand ps d (l.foldl f d) := by
  induction l generalizing d with
  | nil => exact .refl ..
  | cons x l ih => exact (h d x).trans (ih _)

theorem Stand.foldlSnd {α β : Type} {ps : List Area} {f : β × Dev → α → β × Dev} (h : ∀ a x, Stand ps a.2 (f a x).2)
    (l : List α) (a : β × Dev) : Stand ps a.2 (l.foldl f a).2 := by
  induction l generalizing a with
  | nil => exact .refl ..
  | cons x l ih => exact (h a x).trans (ih _)

/-- A command that ends changes the host interface alone. -/
theorem Stand.ok {ps : List Area} {a b : Dev} (h : Stand ps a b) (c : CmdRef) (r0 r1 detail : Nat)
    (hp : Area.hif ∉ ps := by decide) : Stand ps a (b.ok c r0 r1 detail) :=
  h.trans <| stand_iff.2 fun p hm => by
    cases p
    case hif => exact absurd hm hp
    all_goals simp [Area.same]

theorem Stand.setTmu {ps : List Area} {a b : Dev} (h : Stand ps a b) (t : Tmu) (hp : Area.tmu ∉ ps := by decide) :
    Stand ps a { b with tmu := t } :=
  h.trans <| stand_iff.2 fun p hm => by
    cases p
    case tmu => exact absurd hm hp
    all_goals rfl

/-- Every part of the device. -/
def Area.list : List Area :=
  [.bal, .hif, .plc, .fcr, .evr, .otp, .boot, .reg, .pipes, .tmu, .pte, .pse, .rle, .lrn, .dp, .swc, .bpm, .fcps, .spw, .esc,
    .mrp, .cvu, .ctrs, .freeSeq, .out]

theorem Area.mem_list (p : Area) : p ∈ Area.list := by cases p <;> decide

/-- The two lists name every part between them. -/
def cover (ps qs : List Area) : Bool := Area.list.all fun p => ps.contains p || qs.contains p

/-- A row whose listed parts stand changes no part that is not listed. -/
theorem Stand.onlyIn {ps qs : List Area} {s t : State} {d : Dev} (h : Stand qs s.dev d)
    (ht : (.next { s with dev := d } : Host.Outcome State Fault Refusal) = .next t) (hc : cover ps qs = true := by rfl) :
    onlyIn ps s t := by
  cases ht
  refine ⟨rfl, fun p hp => stand_iff.1 h p ?_⟩
  have := List.all_eq_true.1 hc p p.mem_list
  simp_all

theorem Dev.mcSettle_stands (d : Dev) :
    Stand [.bal, .plc, .otp, .boot, .reg, .tmu, .pte, .pse, .rle, .lrn, .fcps, .spw, .esc, .cvu] d d.mcSettle := by
  simp [Stand, Area.same]

theorem Dev.endedSweep_stands (d : Dev) :
    Stand [.bal, .plc, .otp, .tmu, .pte, .pse, .rle, .lrn, .dp, .swc, .bpm, .spw, .esc, .mrp, .cvu, .freeSeq, .out] d
      d.endedSweep := by
  simp [Stand, Area.same]

end Sys2Proof.Machine
end

section
/-! PROOFS. The parts that stand over the rows of the host interface (02, 20). -/
namespace Sys2Proof.Machine

theorem doCommandRingDoorbell_stands (e n : Nat) (v : Word) (parity : Bool) (d : Dev) :
    Stand [.bal, .plc, .otp, .boot, .reg, .pipes, .tmu, .pte, .pse, .rle, .lrn, .dp, .swc, .bpm, .fcps, .spw, .esc, .mrp, .cvu,
      .freeSeq, .out] d
      (doCommandRingDoorbell e n v parity d) := by
  simp [Stand, Area.same, doCommandRingDoorbell]

theorem doCompletionRingDoorbell_stands (e n : Nat) (v : Word) (parity : Bool) (d : Dev) :
    Stand [.bal, .plc, .otp, .boot, .reg, .pipes, .tmu, .pte, .pse, .rle, .lrn, .dp, .swc, .bpm, .fcps, .spw, .esc, .mrp, .cvu,
      .freeSeq, .out] d
      (doCompletionRingDoorbell e n v parity d) := by
  simp [Stand, Area.same, doCompletionRingDoorbell]

theorem doReceiveQueueDoorbell_stands (e q : Nat) (v : Word) (parity : Bool) (d : Dev) :
    Stand [.bal, .plc, .otp, .boot, .reg, .pipes, .tmu, .pte, .pse, .rle, .lrn, .dp, .swc, .bpm, .fcps, .spw, .esc, .mrp, .cvu,
      .freeSeq, .out] d
      (doReceiveQueueDoorbell e q v parity d) := by
  simp [Stand, Area.same, doReceiveQueueDoorbell]

theorem doTransmitQueueDoorbell_stands (e q : Nat) (v : Word) (parity : Bool) (d : Dev) :
    Stand [.bal, .plc, .otp, .boot, .reg, .pipes, .tmu, .pte, .pse, .rle, .lrn, .dp, .swc, .bpm, .fcps, .spw, .esc, .mrp, .cvu,
      .freeSeq, .out] d
      (doTransmitQueueDoorbell e q v parity d) := by
  simp [Stand, Area.same, doTransmitQueueDoorbell]

theorem doCommandCommit_stands (c : CmdRef) (d : Dev) :
    Stand [.bal, .plc, .otp, .boot, .reg, .pipes, .tmu, .pte, .pse, .rle, .lrn, .dp, .swc, .bpm, .fcps, .spw, .esc, .mrp, .cvu,
      .freeSeq, .out] d
      (doCommandCommit c d) := by
  unfold doCommandCommit
  repeat' split
  all_goals simp [Stand, Area.same]

theorem doStrayDoorbell_stands (ep off width : Nat) (v : BitVec 64) (d : Dev) :
    Stand [.bal, .plc, .otp, .boot, .reg, .pipes, .tmu, .pte, .pse, .rle, .lrn, .dp, .swc, .bpm, .fcps, .spw, .esc, .mrp, .cvu,
      .freeSeq, .out] d
      (doStrayDoorbell ep off width v d) := by
  unfold doStrayDoorbell doBar2Write
  dsimp only
  repeat' split
  all_goals simp [Stand, Area.same, doCommandRingDoorbell, doCompletionRingDoorbell, doReceiveQueueDoorbell, doTransmitQueueDoorbell]

theorem doOpSurvey_stands (c : CmdRef) (io : Io) (d : Dev) :
    Stand [.bal, .plc, .fcr, .evr, .otp, .boot, .reg, .pipes, .tmu, .pte, .pse, .rle, .lrn, .dp, .swc, .bpm, .fcps, .spw, .esc,
      .mrp, .cvu, .ctrs, .freeSeq] d
      (doOpSurvey c io d) := by
  simp [Stand, Area.same, doOpSurvey]

theorem doDescriptorFetch_stands (e : Nat) (d : Dev) :
    Stand [.bal, .plc, .fcr, .evr, .otp, .boot, .reg, .pipes, .tmu, .pte, .pse, .rle, .lrn, .dp, .swc, .bpm, .fcps, .spw, .esc,
      .mrp, .cvu, .ctrs, .freeSeq] d
      (doDescriptorFetch e d) := by
  unfold doDescriptorFetch
  repeat' split
  all_goals simp [Stand, Area.same]

theorem doCompletionWrite_stands (e n : Nat) (d : Dev) :
    Stand [.bal, .plc, .fcr, .evr, .otp, .boot, .reg, .pipes, .tmu, .pte, .pse, .rle, .lrn, .dp, .swc, .bpm, .fcps, .spw, .esc,
      .mrp, .cvu, .ctrs, .freeSeq] d
      (doCompletionWrite e n d) := by
  unfold doCompletionWrite
  repeat' split
  all_goals simp [Stand, Area.same]

theorem doMsixMessage_stands (e v : Nat) (d : Dev) :
    Stand [.bal, .plc, .fcr, .evr, .otp, .boot, .reg, .pipes, .tmu, .pte, .pse, .rle, .lrn, .dp, .swc, .bpm, .fcps, .spw, .esc,
      .mrp, .cvu, .ctrs, .freeSeq] d
      (doMsixMessage e v d) := by
  simp [Stand, Area.same, doMsixMessage]

theorem doMsixUnmask_stands (e : Nat) (what : Unmask) (d : Dev) :
    Stand [.bal, .plc, .fcr, .evr, .otp, .boot, .reg, .pipes, .tmu, .pte, .pse, .rle, .lrn, .dp, .swc, .bpm, .fcps, .spw, .esc,
      .mrp, .cvu, .ctrs, .freeSeq] d
      (doMsixUnmask e what d) := by
  unfold doMsixUnmask
  repeat' split
  all_goals simp [Stand, Area.same]

theorem doEpVecMapWrite_stands (ep cause : Nat) (v : Word) (d : Dev) :
    Stand [.bal, .plc, .fcr, .evr, .otp, .boot, .reg, .pipes, .tmu, .pte, .pse, .rle, .lrn, .dp, .swc, .bpm, .fcps, .spw, .esc,
      .mrp, .cvu, .ctrs, .freeSeq] d
      (doEpVecMapWrite ep cause v d) := by
  simp [Stand, Area.same, doEpVecMapWrite]

theorem doOpNop_stands (c : CmdRef) (io : Io) (d : Dev) :
    Stand [.bal, .plc, .fcr, .evr, .otp, .boot, .reg, .pipes, .tmu, .pte, .pse, .rle, .lrn, .dp, .swc, .bpm, .fcps, .spw, .esc,
      .mrp, .cvu, .ctrs, .freeSeq, .out] d
      (doOpNop c io d) := by
  simp [Stand, Area.same, doOpNop]

theorem doOpFence_stands (c : CmdRef) (io : Io) (d : Dev) :
    Stand [.bal, .plc, .fcr, .evr, .otp, .boot, .reg, .pipes, .tmu, .pte, .pse, .rle, .lrn, .dp, .swc, .bpm, .fcps, .spw, .esc,
      .mrp, .cvu, .ctrs, .freeSeq, .out] d
      (doOpFence c io d) := by
  simp [Stand, Area.same, doOpFence]

theorem doCommandDispatch_stands (d : Dev) :
    Stand [.bal, .plc, .fcr, .evr, .otp, .boot, .reg, .pipes, .tmu, .pte, .pse, .rle, .lrn, .dp, .swc, .bpm, .fcps, .spw, .esc,
      .mrp, .cvu, .ctrs, .freeSeq, .out] d
      (doCommandDispatch d) := by
  unfold doCommandDispatch
  dsimp only
  repeat' split
  all_goals simp [Stand, Area.same]

theorem doEpResyncGo_stands (ep : Nat) (v : Word) (d : Dev) :
    Stand [.bal, .plc, .fcr, .evr, .otp, .boot, .reg, .pipes, .tmu, .pte, .pse, .rle, .lrn, .dp, .swc, .bpm, .fcps, .spw, .esc,
      .mrp, .cvu, .ctrs, .freeSeq, .out] d
      (doEpResyncGo ep v d) := by
  simp [Stand, Area.same, doEpResyncGo]

theorem doEpCrCfgWrite_stands (e n dword : Nat) (v : Word) (d : Dev) :
    Stand [.bal, .plc, .evr, .otp, .boot, .reg, .pipes, .tmu, .pte, .pse, .rle, .lrn, .dp, .swc, .bpm, .fcps, .spw, .esc, .mrp,
      .cvu, .ctrs, .freeSeq, .out] d
      (doEpCrCfgWrite e n dword v d) := by
  simp [Stand, Area.same, doEpCrCfgWrite]

theorem doEpCqCfgWrite_stands (e n dword : Nat) (v : Word) (d : Dev) :
    Stand [.bal, .plc, .evr, .otp, .boot, .reg, .pipes, .tmu, .pte, .pse, .rle, .lrn, .dp, .swc, .bpm, .fcps, .spw, .esc, .mrp,
      .cvu, .ctrs, .freeSeq, .out] d
      (doEpCqCfgWrite e n dword v d) := by
  simp [Stand, Area.same, doEpCqCfgWrite]

theorem doRingDisableDone_stands (e n : Nat) (d : Dev) :
    Stand [.bal, .plc, .evr, .otp, .boot, .reg, .pipes, .tmu, .pte, .pse, .rle, .lrn, .dp, .swc, .bpm, .fcps, .spw, .esc, .mrp,
      .cvu, .ctrs, .freeSeq, .out] d
      (doRingDisableDone e n d) := by
  simp [Stand, Area.same, doRingDisableDone]

theorem doGlCmdArbWrite_stands (ep dword : Nat) (v : Word) (d : Dev) :
    Stand [.bal, .plc, .evr, .otp, .boot, .reg, .pipes, .tmu, .pte, .pse, .rle, .lrn, .dp, .swc, .bpm, .fcps, .spw, .esc, .mrp,
      .cvu, .ctrs, .freeSeq, .out] d
      (doGlCmdArbWrite ep dword v d) := by
  simp [Stand, Area.same, doGlCmdArbWrite]

theorem doMsixDelayExpiry_stands (e v : Nat) (d : Dev) :
    Stand [.plc, .fcr, .evr, .otp, .boot, .reg, .pipes, .pte, .pse, .rle, .lrn, .dp, .swc, .bpm, .fcps, .spw, .esc, .mrp, .cvu,
      .ctrs, .freeSeq] d
      (doMsixDelayExpiry e v d) := by
  simp [Stand, Area.same, doMsixDelayExpiry]

theorem doOpAbort_stands (c : CmdRef) (io : Io) (d : Dev) :
    Stand [.bal, .plc, .otp, .tmu, .pte, .pse, .rle, .lrn, .dp, .swc, .bpm, .spw, .esc, .mrp, .cvu, .freeSeq, .out] d
      (doOpAbort c io d) := by
  refine .step1 fun x => ?_
  dsimp only
  repeat' split
  all_goals simp [Stand, Area.same]

theorem doEndpointDown_stands (ep : Nat) (cause : EpCause) (d : Dev) :
    Stand [.bal, .plc, .otp, .pte, .pse, .rle, .lrn, .spw, .esc, .cvu] d (doEndpointDown ep cause d) := by
  simp [Stand, Area.same, doEndpointDown]

theorem doEpRxqCfgWrite_stands (ep q dword : Nat) (v : Word) (d : Dev) :
    Stand [.bal, .plc, .otp, .boot, .reg, .tmu, .pte, .pse, .rle, .lrn, .fcps, .spw, .esc, .cvu] d
      (doEpRxqCfgWrite ep q dword v d) := by
  unfold doEpRxqCfgWrite
  dsimp only
  repeat' split
  all_goals simp [Stand, Area.same]

theorem doEpTxqCfgWrite_stands (ep q dword : Nat) (v : Word) (eops : List Bool) (d : Dev) :
    Stand [.bal, .plc, .evr, .otp, .boot, .reg, .pipes, .tmu, .pte, .pse, .rle, .lrn, .dp, .swc, .bpm, .fcps, .spw, .esc, .mrp,
      .cvu, .ctrs, .freeSeq] d
      (doEpTxqCfgWrite ep q dword v eops d) := by
  unfold doEpTxqCfgWrite
  dsimp only
  repeat' split
  all_goals simp [Stand, Area.same]

theorem doResyncDone_stands (ep : Nat) (err : Bool) (d : Dev) :
    Stand [.bal, .plc, .fcr, .otp, .boot, .reg, .pipes, .tmu, .pte, .pse, .rle, .lrn, .dp, .swc, .bpm, .fcps, .spw, .esc, .mrp,
      .cvu, .freeSeq] d
      (doResyncDone ep err d) := by
  simp [Stand, Area.same, doResyncDone]

theorem doEndpointUp_stands (ep : Nat) (d : Dev) :
    Stand [.bal, .plc, .otp, .boot, .reg, .pipes, .tmu, .pte, .pse, .rle, .lrn, .dp, .swc, .bpm, .fcps, .spw, .esc, .mrp, .cvu,
      .freeSeq] d
      (doEndpointUp ep d) := by
  simp [Stand, Area.same, doEndpointUp]

theorem doDescriptorFetchReturn_stands (ep ring : Nat) (desc : Option Descriptor) (check : Ecc) (d : Dev) :
    Stand [.bal, .plc, .otp, .boot, .reg, .pipes, .tmu, .pte, .pse, .rle, .lrn, .dp, .swc, .bpm, .fcps, .spw, .esc, .mrp,
      .freeSeq, .out] d
      (doDescriptorFetchReturn ep ring desc check d) := by
  unfold doDescriptorFetchReturn
  repeat' split
  all_goals simp [Stand, Area.same]

theorem doSmbusSummary_stands (pec : Bool) (d : Dev) :
    Stand [.bal, .hif, .plc, .fcr, .evr, .otp, .boot, .reg, .pipes, .tmu, .pte, .pse, .rle, .lrn, .dp, .swc, .bpm, .fcps, .spw,
      .esc, .mrp, .cvu, .ctrs, .freeSeq] d
      (doSmbusSummary pec d) := by
  simp [Stand, Area.same, doSmbusSummary]

theorem doSmbusTempMax_stands (pec : Bool) (d : Dev) :
    Stand [.bal, .hif, .plc, .fcr, .evr, .otp, .boot, .reg, .pipes, .tmu, .pte, .pse, .rle, .lrn, .dp, .swc, .bpm, .fcps, .spw,
      .esc, .mrp, .cvu, .ctrs, .freeSeq] d
      (doSmbusTempMax pec d) := by
  simp [Stand, Area.same, doSmbusTempMax]

theorem doSmbusTempAll_stands (pec : Bool) (d : Dev) :
    Stand [.bal, .hif, .plc, .fcr, .evr, .otp, .boot, .reg, .pipes, .tmu, .pte, .pse, .rle, .lrn, .dp, .swc, .bpm, .fcps, .spw,
      .esc, .mrp, .cvu, .ctrs, .freeSeq] d
      (doSmbusTempAll pec d) := by
  simp [Stand, Area.same, doSmbusTempAll]

theorem doSmbusRails_stands (pec : Bool) (d : Dev) :
    Stand [.bal, .hif, .plc, .fcr, .evr, .otp, .boot, .reg, .pipes, .tmu, .pte, .pse, .rle, .lrn, .dp, .swc, .bpm, .fcps, .spw,
      .esc, .mrp, .cvu, .ctrs, .freeSeq] d
      (doSmbusRails pec d) := by
  simp [Stand, Area.same, doSmbusRails]

theorem doSmbusIdentity_stands (pec : Bool) (d : Dev) :
    Stand [.bal, .hif, .plc, .fcr, .evr, .otp, .boot, .reg, .pipes, .tmu, .pte, .pse, .rle, .lrn, .dp, .swc, .bpm, .fcps, .spw,
      .esc, .mrp, .cvu, .ctrs, .freeSeq] d
      (doSmbusIdentity pec d) := by
  simp [Stand, Area.same, doSmbusIdentity]

theorem doSmbusTokenStatus_stands (pec : Bool) (d : Dev) :
    Stand [.bal, .hif, .plc, .fcr, .evr, .otp, .boot, .reg, .pipes, .tmu, .pte, .pse, .rle, .lrn, .dp, .swc, .bpm, .fcps, .spw,
      .esc, .mrp, .cvu, .ctrs, .freeSeq] d
      (doSmbusTokenStatus pec d) := by
  simp [Stand, Area.same, doSmbusTokenStatus]

theorem doSmbusTokenLoad_stands (data : List Byte) (pec : Option Byte) (d : Dev) :
    Stand [.bal, .hif, .fcr, .evr, .otp, .boot, .reg, .pipes, .tmu, .pte, .pse, .rle, .lrn, .dp, .swc, .bpm, .fcps, .spw, .esc,
      .mrp, .cvu, .ctrs, .freeSeq, .out] d
      (doSmbusTokenLoad data pec d) := by
  simp [Stand, Area.same, doSmbusTokenLoad]

theorem doSmbusTokenApply_stands (pec : Option Byte) (d : Dev) :
    Stand [.bal, .hif, .fcr, .otp, .boot, .reg, .pipes, .tmu, .pte, .pse, .rle, .lrn, .dp, .swc, .bpm, .fcps, .spw, .esc, .mrp,
      .cvu, .out] d
      (doSmbusTokenApply pec d) := by
  simp [Stand, Area.same, doSmbusTokenApply]

theorem doSmbusStallTimeout_stands (d : Dev) :
    Stand [.bal, .hif, .plc, .fcr, .evr, .otp, .boot, .reg, .pipes, .tmu, .pte, .pse, .rle, .lrn, .dp, .swc, .bpm, .fcps, .spw,
      .esc, .mrp, .cvu, .ctrs, .freeSeq, .out] d
      (doSmbusStallTimeout d) := by
  simp [Stand, Area.same, doSmbusStallTimeout]

theorem doLedFrame_stands (d : Dev) :
    Stand [.hif, .plc, .fcr, .evr, .otp, .boot, .reg, .pipes, .pse, .rle, .lrn, .dp, .swc, .bpm, .fcps, .spw, .esc, .mrp, .cvu,
      .ctrs, .freeSeq] d
      (doLedFrame d) := by
  simp [Stand, Area.same, doLedFrame]

theorem doTapInstruction_stands (i : TapInstr) (d : Dev) :
    Stand [.hif, .plc, .fcr, .evr, .otp, .boot, .reg, .pipes, .tmu, .pte, .pse, .rle, .lrn, .dp, .swc, .bpm, .fcps, .spw, .esc,
      .mrp, .cvu, .ctrs, .freeSeq] d
      (doTapInstruction i d) := by
  unfold doTapInstruction
  dsimp only
  repeat' split
  all_goals simp [Stand, Area.same]

theorem doGlLrnSweepWrite_stands (ep : Nat) (v : Word) (d : Dev) :
    Stand [.bal, .plc, .fcr, .evr, .otp, .boot, .reg, .pipes, .tmu, .pte, .pse, .rle, .dp, .swc, .bpm, .fcps, .spw, .esc, .mrp,
      .cvu, .ctrs, .freeSeq, .out] d
      (doGlLrnSweepWrite ep v d) := by
  simp [Stand, Area.same, doGlLrnSweepWrite]

theorem doPlaneRestore_stands (ep : Nat) (v : Word) (d : Dev) :
    Stand [.bal, .plc, .fcr, .evr, .otp, .boot, .reg, .pipes, .tmu, .pte, .pse, .rle, .lrn, .dp, .bpm, .fcps, .spw, .esc, .mrp,
      .cvu, .ctrs, .freeSeq, .out] d
      (doPlaneRestore ep v d) := by
  simp [Stand, Area.same, doPlaneRestore]

theorem doCxlRestore_stands (ep : Nat) (v : Word) (d : Dev) :
    Stand [.bal, .plc, .evr, .otp, .boot, .reg, .pipes, .tmu, .pte, .pse, .rle, .lrn, .dp, .swc, .bpm, .fcps, .esc, .mrp, .cvu,
      .ctrs, .freeSeq, .out] d
      (doCxlRestore ep v d) := by
  simp [Stand, Area.same, doCxlRestore]

theorem doGlSpwMapWrite_stands (ep : Nat) (v : Word) (d : Dev) :
    Stand [.bal, .plc, .fcr, .evr, .otp, .boot, .reg, .pipes, .tmu, .pte, .pse, .rle, .lrn, .dp, .swc, .bpm, .fcps, .esc, .mrp,
      .cvu, .ctrs, .freeSeq, .out] d
      (doGlSpwMapWrite ep v d) := by
  simp [Stand, Area.same, doGlSpwMapWrite]

theorem doWideRegisterRead_stands (ep off width : Nat) (check : Ecc) (d : Dev) :
    Stand [.bal, .plc, .otp, .boot, .reg, .pipes, .tmu, .pte, .pse, .rle, .lrn, .dp, .swc, .bpm, .fcps, .spw, .esc, .mrp] d
      (doWideRegisterRead ep off width check d) := by
  simp [Stand, Area.same, doWideRegisterRead]

theorem doSetupRegisterWrite_stands (ep off width : Nat) (v : BitVec 64) (d : Dev) :
    Stand [.plc, .otp] d (doSetupRegisterWrite ep off width v d) := by
  simp [Stand, Area.same, doSetupRegisterWrite]

theorem doOpCounterRead_stands (c : CmdRef) (io : Io) (d : Dev) :
    Stand [.bal, .plc, .otp, .boot, .reg, .pipes, .tmu, .pte, .pse, .rle, .lrn, .dp, .swc, .bpm, .fcps, .spw, .esc, .cvu,
      .freeSeq] d
      (doOpCounterRead c io d) := by
  simp [Stand, Area.same, doOpCounterRead]

theorem doOpCounterClear_stands (c : CmdRef) (io : Io) (d : Dev) :
    Stand [.bal, .plc, .fcr, .evr, .otp, .boot, .reg, .pipes, .tmu, .pte, .pse, .rle, .lrn, .dp, .swc, .bpm, .fcps, .spw, .esc,
      .mrp, .cvu, .freeSeq, .out] d
      (doOpCounterClear c io d) := by
  simp [Stand, Area.same, doOpCounterClear]

end Sys2Proof.Machine
end

section
/-! PROOFS. The parts that stand over the rows of the buffer and of pause (10). -/
namespace Sys2Proof.Machine

theorem doCellRelease_stands (party cell acct : Nat) (parity : Bool) (d : Dev) :
    Stand [.bal, .hif, .plc, .otp, .boot, .reg, .pipes, .tmu, .pte, .pse, .rle, .lrn, .dp, .swc, .fcps, .spw, .esc, .mrp, .cvu,
      .freeSeq, .out] d
      (doCellRelease party cell acct parity d) := by
  simp [Stand, Area.same, doCellRelease]

theorem doFreelistRebuildDone_stands (list : Nat) (d : Dev) :
    Stand [.bal, .hif, .plc, .otp, .boot, .reg, .pipes, .tmu, .pte, .pse, .rle, .lrn, .dp, .swc, .fcps, .spw, .esc, .mrp, .cvu,
      .freeSeq, .out] d
      (doFreelistRebuildDone list d) := by
  simp [Stand, Area.same, doFreelistRebuildDone]

theorem doFreeListRefill_stands (list : Nat) (check : Ecc) (d : Dev) :
    Stand [.bal, .hif, .plc, .evr, .otp, .boot, .reg, .pipes, .tmu, .pte, .pse, .rle, .lrn, .dp, .swc, .fcps, .spw, .esc, .mrp,
      .cvu, .ctrs, .freeSeq, .out] d
      (doFreeListRefill list check d) := by
  unfold doFreeListRefill
  repeat' split
  all_goals simp [Stand, Area.same]

theorem doAccountRebuildDone_stands (acct : Nat) (d : Dev) :
    Stand [.bal, .hif, .plc, .otp, .boot, .reg, .pipes, .tmu, .pte, .pse, .rle, .lrn, .dp, .swc, .fcps, .spw, .esc, .mrp, .cvu,
      .out] d
      (doAccountRebuildDone acct d) := by
  simp [Stand, Area.same, doAccountRebuildDone]

theorem doOpPoolSetSet_stands (c : CmdRef) (io : Io) (d : Dev) :
    Stand [.bal, .plc, .evr, .otp, .boot, .reg, .pipes, .tmu, .pte, .pse, .rle, .lrn, .dp, .swc, .fcps, .spw, .esc, .mrp, .cvu,
      .freeSeq, .out] d
      (doOpPoolSetSet c io d) := by
  simp [Stand, Area.same, doOpPoolSetSet]

theorem doOpHeadroomSet_stands (c : CmdRef) (io : Io) (d : Dev) :
    Stand [.bal, .plc, .evr, .otp, .boot, .reg, .pipes, .tmu, .pte, .pse, .rle, .lrn, .dp, .swc, .fcps, .spw, .esc, .mrp, .cvu,
      .freeSeq, .out] d
      (doOpHeadroomSet c io d) := by
  simp [Stand, Area.same, doOpHeadroomSet]

theorem doOpPoolSetRead_stands (c : CmdRef) (io : Io) (d : Dev) :
    Stand [.bal, .plc, .fcr, .evr, .otp, .boot, .reg, .pipes, .tmu, .pte, .pse, .rle, .lrn, .dp, .swc, .bpm, .fcps, .spw, .esc,
      .mrp, .cvu, .ctrs, .freeSeq, .out] d
      (doOpPoolSetRead c io d) := by
  simp [Stand, Area.same, doOpPoolSetRead]

theorem doOpPoolSetRelease_stands (c : CmdRef) (io : Io) (d : Dev) :
    Stand [.bal, .plc, .otp, .boot, .reg, .pipes, .tmu, .pte, .pse, .rle, .lrn, .dp, .swc, .fcps, .spw, .esc, .mrp, .cvu,
      .freeSeq, .out] d
      (doOpPoolSetRelease c io d) := by
  refine .step1 fun x => ?_
  have h := Dev.releaseAs_frame d true (partyHost c.ep) (x.fld 36 0 20) (x.fld 16 0 10)
  split
  all_goals simp_all [Stand, Area.same]

theorem doOpPfcSet_stands (c : CmdRef) (io : Io) (d : Dev) :
    Stand [.bal, .plc, .evr, .otp, .boot, .reg, .pipes, .tmu, .pte, .pse, .rle, .lrn, .dp, .swc, .bpm, .spw, .esc, .mrp, .cvu,
      .freeSeq] d
      (doOpPfcSet c io d) := by
  simp [Stand, Area.same, doOpPfcSet]

theorem doHoldBusNotice_stands (port cls : Nat) (d : Dev) :
    Stand [.bal, .hif, .plc, .fcr, .evr, .otp, .boot, .reg, .tmu, .pte, .pse, .rle, .lrn, .dp, .swc, .bpm, .spw, .esc, .mrp, .cvu,
      .ctrs, .freeSeq, .out] d
      (doHoldBusNotice port cls d) := by
  simp [Stand, Area.same, doHoldBusNotice]

theorem doPfcFrameSend_stands (port : Nat) (d : Dev) :
    Stand [.bal, .hif, .plc, .fcr, .evr, .otp, .boot, .reg, .pipes, .tmu, .pte, .pse, .rle, .lrn, .dp, .swc, .bpm, .spw, .esc,
      .mrp, .cvu, .freeSeq] d
      (doPfcFrameSend port d) := by
  simp [Stand, Area.same, doPfcFrameSend]

theorem doPfcRefresh_stands (port : Nat) (d : Dev) :
    Stand [.hif, .plc, .fcr, .evr, .otp, .boot, .reg, .pipes, .pte, .pse, .rle, .lrn, .dp, .swc, .bpm, .spw, .esc, .mrp, .cvu,
      .freeSeq] d
      (doPfcRefresh port d) := by
  simp [Stand, Area.same, doPfcRefresh]

theorem doPfcFrameReceive_stands (port vector : Nat) (times : List Nat) (d : Dev) :
    Stand [.bal, .hif, .plc, .evr, .otp, .boot, .reg, .pipes, .tmu, .pte, .pse, .rle, .lrn, .dp, .swc, .bpm, .spw, .esc, .mrp,
      .cvu, .freeSeq, .out] d
      (doPfcFrameReceive port vector times d) := by
  simp [Stand, Area.same, doPfcFrameReceive]

theorem doPauseFrameReceive_stands (port time : Nat) (d : Dev) :
    Stand [.bal, .hif, .plc, .evr, .otp, .boot, .reg, .pipes, .tmu, .pte, .pse, .rle, .lrn, .dp, .swc, .bpm, .spw, .esc, .mrp,
      .cvu, .freeSeq, .out] d
      (doPauseFrameReceive port time d) := by
  simp [Stand, Area.same, doPauseFrameReceive]

theorem doMacControlReceive_stands (port opcode : Nat) (d : Dev) :
    Stand [.bal, .hif, .plc, .fcr, .evr, .otp, .boot, .reg, .pipes, .tmu, .pte, .pse, .rle, .lrn, .dp, .swc, .bpm, .fcps, .spw,
      .esc, .mrp, .cvu, .freeSeq, .out] d
      (doMacControlReceive port opcode d) := by
  simp [Stand, Area.same, doMacControlReceive]

theorem doPauseTimerExpiry_stands (port cls : Nat) (d : Dev) :
    Stand [.hif, .plc, .evr, .otp, .boot, .reg, .pte, .pse, .rle, .lrn, .dp, .swc, .bpm, .spw, .esc, .mrp, .cvu, .ctrs, .freeSeq,
      .out] d
      (doPauseTimerExpiry port cls d) := by
  unfold doPauseTimerExpiry
  repeat' split
  all_goals simp [Stand, Area.same]

theorem doPauseStorm_stands (port queue : Nat) (d : Dev) :
    Stand [.hif, .plc, .otp, .boot, .reg, .pipes, .pte, .pse, .rle, .lrn, .dp, .swc, .bpm, .spw, .esc, .mrp, .cvu, .freeSeq, .out] d
      (doPauseStorm port queue d) := by
  unfold doPauseStorm
  repeat' split
  all_goals simp [Stand, Area.same]

theorem doPauseBreakEnd_stands (port queue : Nat) (d : Dev) :
    Stand [.hif, .plc, .otp, .boot, .reg, .pipes, .pte, .pse, .rle, .lrn, .dp, .swc, .bpm, .spw, .esc, .mrp, .cvu, .freeSeq, .out] d
      (doPauseBreakEnd port queue d) := by
  unfold doPauseBreakEnd
  repeat' split
  all_goals simp [Stand, Area.same]

end Sys2Proof.Machine
end

section
/-! PROOFS. The parts that stand over the rows of the schedulers, the gauge, the weirs and the meter (12, 13). -/
namespace Sys2Proof.Machine

theorem doOpSchedSetSet_stands (c : CmdRef) (io : Io) (d : Dev) :
    Stand [.bal, .plc, .fcr, .evr, .otp, .boot, .reg, .tmu, .pte, .pse, .rle, .lrn, .dp, .swc, .bpm, .fcps, .spw, .mrp, .cvu,
      .ctrs, .freeSeq, .out] d
      (doOpSchedSetSet c io d) := by
  simp [Stand, Area.same, doOpSchedSetSet]

theorem doOpSchedSetSetMc_stands (c : CmdRef) (io : Io) (d : Dev) :
    Stand [.bal, .plc, .fcr, .evr, .otp, .boot, .reg, .tmu, .pte, .pse, .rle, .lrn, .dp, .swc, .bpm, .fcps, .spw, .mrp, .cvu,
      .ctrs, .freeSeq, .out] d
      (doOpSchedSetSetMc c io d) := by
  simp [Stand, Area.same, doOpSchedSetSetMc]

theorem doOpShaperSetSet_stands (c : CmdRef) (io : Io) (d : Dev) :
    Stand [.bal, .plc, .fcr, .evr, .otp, .boot, .reg, .tmu, .pte, .pse, .rle, .lrn, .dp, .swc, .bpm, .fcps, .spw, .mrp, .cvu,
      .ctrs, .freeSeq, .out] d
      (doOpShaperSetSet c io d) := by
  refine .step1 fun x => ?_
  dsimp only
  repeat' split
  all_goals simp [Stand, Area.same]

theorem doOpTideTableSetDisable_stands (c : CmdRef) (io : Io) (d : Dev) :
    Stand [.bal, .plc, .fcr, .evr, .otp, .boot, .reg, .tmu, .pte, .pse, .rle, .lrn, .dp, .swc, .bpm, .fcps, .spw, .mrp, .cvu,
      .ctrs, .freeSeq, .out] d
      (doOpTideTableSetDisable c io d) := by
  simp [Stand, Area.same, doOpTideTableSetDisable]

theorem doOpSchedSetRead_stands (c : CmdRef) (io : Io) (d : Dev) :
    Stand [.bal, .plc, .fcr, .evr, .otp, .boot, .reg, .tmu, .pte, .pse, .rle, .lrn, .dp, .swc, .bpm, .fcps, .spw, .esc, .mrp,
      .cvu, .ctrs, .freeSeq, .out] d
      (doOpSchedSetRead c io d) := by
  simp [Stand, Area.same, doOpSchedSetRead]

theorem doOpShaperSetRead_stands (c : CmdRef) (io : Io) (d : Dev) :
    Stand [.bal, .plc, .fcr, .evr, .otp, .boot, .reg, .tmu, .pte, .pse, .rle, .lrn, .dp, .swc, .bpm, .fcps, .spw, .esc, .mrp,
      .cvu, .ctrs, .freeSeq, .out] d
      (doOpShaperSetRead c io d) := by
  refine .step1 fun x => ?_
  dsimp only
  repeat' split
  all_goals simp [Stand, Area.same]

theorem doOpTideTableSetSet_stands (c : CmdRef) (io : Io) (d : Dev) :
    Stand [.bal, .plc, .evr, .otp, .boot, .reg, .tmu, .pte, .pse, .rle, .lrn, .dp, .swc, .bpm, .fcps, .spw, .mrp, .cvu, .ctrs,
      .freeSeq, .out] d
      (doOpTideTableSetSet c io d) := by
  refine .step1 fun x => ?_
  dsimp only
  repeat' split
  all_goals simp [Stand, Area.same]

theorem doOpTideTableSetRead_stands (c : CmdRef) (io : Io) (d : Dev) :
    Stand [.bal, .plc, .fcr, .evr, .otp, .boot, .reg, .tmu, .pte, .pse, .rle, .lrn, .dp, .swc, .bpm, .fcps, .spw, .esc, .mrp,
      .cvu, .ctrs, .freeSeq] d
      (doOpTideTableSetRead c io d) := by
  simp [Stand, Area.same, doOpTideTableSetRead]

theorem doShaperRefillSweep_stands (bucket : Nat) (d : Dev) :
    Stand [.bal, .hif, .plc, .fcr, .evr, .otp, .boot, .reg, .pipes, .tmu, .pte, .pse, .rle, .lrn, .dp, .swc, .bpm, .fcps, .spw,
      .mrp, .cvu, .ctrs, .freeSeq, .out] d
      (doShaperRefillSweep bucket d) := by
  simp [Stand, Area.same, doShaperRefillSweep]

theorem doShaperWheelFire_stands (bucket : Nat) (d : Dev) :
    Stand [.hif, .plc, .evr, .otp, .boot, .reg, .pipes, .pte, .pse, .rle, .lrn, .dp, .swc, .bpm, .fcps, .spw, .mrp, .cvu, .ctrs,
      .freeSeq, .out] d
      (doShaperWheelFire bucket d) := by
  unfold doShaperWheelFire
  repeat' split
  all_goals simp [Stand, Area.same]

theorem doCoarseWheelSlot_stands (pipe slot : Nat) (d : Dev) :
    Stand [.hif, .plc, .fcr, .evr, .otp, .boot, .reg, .pipes, .pte, .pse, .rle, .lrn, .dp, .swc, .bpm, .fcps, .spw, .mrp, .cvu,
      .ctrs, .freeSeq, .out] d
      (doCoarseWheelSlot pipe slot d) := by
  simp [Stand, Area.same, doCoarseWheelSlot]

theorem doTideGateChange_stands (port : Nat) (d : Dev) :
    Stand [.hif, .plc, .fcr, .evr, .otp, .boot, .reg, .pipes, .pte, .pse, .rle, .lrn, .dp, .swc, .bpm, .fcps, .spw, .mrp, .cvu,
      .ctrs, .freeSeq, .out] d
      (doTideGateChange port d) := by
  unfold doTideGateChange
  repeat' split
  all_goals simp [Stand, Area.same]

theorem doGaugeSample_stands (port : Nat) (d : Dev) :
    Stand [.hif, .plc, .fcr, .evr, .otp, .boot, .reg, .pipes, .pte, .pse, .rle, .lrn, .dp, .swc, .bpm, .fcps, .spw, .mrp, .cvu,
      .ctrs, .freeSeq, .out] d
      (doGaugeSample port d) := by
  simp [Stand, Area.same, doGaugeSample]

theorem doTideCctReached_stands (port : Nat) (d : Dev) :
    Stand [.hif, .plc, .fcr, .otp, .boot, .reg, .pipes, .pte, .pse, .rle, .lrn, .dp, .swc, .bpm, .fcps, .spw, .mrp, .cvu,
      .freeSeq, .out] d
      (doTideCctReached port d) := by
  unfold doTideCctReached
  repeat' split
  all_goals simp [Stand, Area.same]

theorem doTideListEcc_stands (port entry : Nat) (d : Dev) :
    Stand [.bal, .hif, .plc, .otp, .boot, .reg, .pipes, .tmu, .pte, .pse, .rle, .lrn, .dp, .swc, .bpm, .fcps, .spw, .mrp, .cvu,
      .freeSeq, .out] d
      (doTideListEcc port entry d) := by
  unfold doTideListEcc
  repeat' split
  all_goals simp [Stand, Area.same]

theorem doWeirExchange_stands (d : Dev) :
    Stand [.hif, .plc, .fcr, .evr, .otp, .boot, .reg, .pipes, .pte, .pse, .rle, .lrn, .dp, .swc, .bpm, .fcps, .spw, .esc, .cvu,
      .ctrs, .freeSeq, .out] d
      (doWeirExchange d) := by
  simp [Stand, Area.same, doWeirExchange]

theorem doWeirHoldRelease_stands (weir port cls : Nat) (d : Dev) :
    Stand [.hif, .plc, .fcr, .evr, .otp, .boot, .reg, .pipes, .pte, .pse, .rle, .lrn, .dp, .swc, .bpm, .fcps, .spw, .esc, .cvu,
      .ctrs, .freeSeq, .out] d
      (doWeirHoldRelease weir port cls d) := by
  unfold doWeirHoldRelease
  dsimp only
  repeat' split
  all_goals simp [Stand, Area.same]

theorem doOpLedgerConfig_stands (c : CmdRef) (io : Io) (d : Dev) :
    Stand [.bal, .plc, .fcr, .evr, .otp, .boot, .reg, .pipes, .tmu, .pte, .pse, .rle, .lrn, .dp, .swc, .bpm, .fcps, .spw, .esc,
      .cvu, .ctrs, .freeSeq, .out] d
      (doOpLedgerConfig c io d) := by
  simp [Stand, Area.same, doOpLedgerConfig]

theorem doOpLedgerExportSetSet_stands (c : CmdRef) (io : Io) (d : Dev) :
    Stand [.bal, .plc, .fcr, .evr, .otp, .boot, .reg, .pipes, .tmu, .pte, .pse, .rle, .lrn, .dp, .swc, .bpm, .fcps, .spw, .esc,
      .cvu, .ctrs, .freeSeq, .out] d
      (doOpLedgerExportSetSet c io d) := by
  simp [Stand, Area.same, doOpLedgerExportSetSet]

theorem doOpLedgerExportSetFlush_stands (c : CmdRef) (io : Io) (d : Dev) :
    Stand [.bal, .plc, .fcr, .evr, .otp, .boot, .reg, .pipes, .tmu, .pte, .pse, .rle, .lrn, .dp, .swc, .bpm, .fcps, .spw, .esc,
      .cvu, .ctrs, .freeSeq, .out] d
      (doOpLedgerExportSetFlush c io d) := by
  refine .step1 fun x => ?_
  dsimp only
  repeat' split
  all_goals simp [Stand, Area.same]

theorem doOpMeterSetWeirDelete_stands (c : CmdRef) (io : Io) (d : Dev) :
    Stand [.bal, .plc, .fcr, .evr, .otp, .boot, .reg, .pipes, .tmu, .pte, .pse, .rle, .lrn, .dp, .swc, .bpm, .fcps, .spw, .esc,
      .cvu, .ctrs, .freeSeq, .out] d
      (doOpMeterSetWeirDelete c io d) := by
  simp [Stand, Area.same, doOpMeterSetWeirDelete]

theorem doOpMeterSetRuleSet_stands (c : CmdRef) (io : Io) (d : Dev) :
    Stand [.bal, .plc, .fcr, .evr, .otp, .boot, .reg, .pipes, .tmu, .pte, .pse, .rle, .lrn, .dp, .swc, .bpm, .fcps, .spw, .esc,
      .cvu, .ctrs, .freeSeq, .out] d
      (doOpMeterSetRuleSet c io d) := by
  simp [Stand, Area.same, doOpMeterSetRuleSet]

theorem doOpMeterSetRuleDelete_stands (c : CmdRef) (io : Io) (d : Dev) :
    Stand [.bal, .plc, .fcr, .evr, .otp, .boot, .reg, .pipes, .tmu, .pte, .pse, .rle, .lrn, .dp, .swc, .bpm, .fcps, .spw, .esc,
      .cvu, .ctrs, .freeSeq, .out] d
      (doOpMeterSetRuleDelete c io d) := by
  simp [Stand, Area.same, doOpMeterSetRuleDelete]

theorem doEpMrpRingConsWrite_stands (ep polder : Nat) (v : Word) (d : Dev) :
    Stand [.bal, .plc, .fcr, .evr, .otp, .boot, .reg, .pipes, .tmu, .pte, .pse, .rle, .lrn, .dp, .swc, .bpm, .fcps, .spw, .esc,
      .cvu, .ctrs, .freeSeq, .out] d
      (doEpMrpRingConsWrite ep polder v d) := by
  simp [Stand, Area.same, doEpMrpRingConsWrite]

theorem doOpLedgerExportSetRead_stands (c : CmdRef) (io : Io) (d : Dev) :
    Stand [.bal, .plc, .fcr, .evr, .otp, .boot, .reg, .pipes, .tmu, .pte, .pse, .rle, .lrn, .dp, .swc, .bpm, .fcps, .spw, .esc,
      .mrp, .cvu, .ctrs, .freeSeq, .out] d
      (doOpLedgerExportSetRead c io d) := by
  simp [Stand, Area.same, doOpLedgerExportSetRead]

theorem doOpMeterSetWeirRead_stands (c : CmdRef) (io : Io) (d : Dev) :
    Stand [.bal, .plc, .fcr, .evr, .otp, .boot, .reg, .pipes, .tmu, .pte, .pse, .rle, .lrn, .dp, .swc, .bpm, .fcps, .spw, .esc,
      .mrp, .cvu, .ctrs, .freeSeq, .out] d
      (doOpMeterSetWeirRead c io d) := by
  refine .step1 fun x => ?_
  dsimp only
  repeat' split
  all_goals simp [Stand, Area.same]

theorem doEpGaugeRingWrite_stands (ep dword : Nat) (v : Word) (d : Dev) :
    Stand [.bal, .plc, .fcr, .evr, .otp, .boot, .reg, .pipes, .tmu, .pte, .pse, .rle, .lrn, .dp, .swc, .bpm, .fcps, .spw, .esc,
      .mrp, .cvu, .ctrs, .freeSeq, .out] d
      (doEpGaugeRingWrite ep dword v d) := by
  simp [Stand, Area.same, doEpGaugeRingWrite]

theorem doOpMeterSetWeirSet_stands (c : CmdRef) (io : Io) (d : Dev) :
    Stand [.bal, .plc, .evr, .otp, .boot, .reg, .pipes, .tmu, .pte, .pse, .rle, .lrn, .dp, .swc, .bpm, .fcps, .spw, .esc, .cvu,
      .ctrs, .freeSeq, .out] d
      (doOpMeterSetWeirSet c io d) := by
  refine .step1 fun x => ?_
  dsimp only
  repeat' split
  all_goals simp [Stand, Area.same]

theorem doEpochEnd_stands (d : Dev) :
    Stand [.hif, .plc, .otp, .boot, .reg, .pipes, .pte, .pse, .rle, .lrn, .dp, .swc, .bpm, .fcps, .spw, .esc, .cvu, .freeSeq,
      .out] d
      (doEpochEnd d) := by
  simp [Stand, Area.same, doEpochEnd]

theorem doBankFreeze_stands (polder : Nat) (d : Dev) :
    Stand [.hif, .plc, .evr, .otp, .boot, .reg, .pipes, .pte, .pse, .rle, .lrn, .dp, .swc, .bpm, .fcps, .spw, .esc, .cvu, .ctrs,
      .freeSeq, .out] d
      (doBankFreeze polder d) := by
  unfold doBankFreeze
  repeat' split
  all_goals simp [Stand, Area.same]

theorem doMinuteRecordWrite_stands (polder : Nat) (d : Dev) :
    Stand [.bal, .plc, .fcr, .evr, .otp, .boot, .reg, .pipes, .tmu, .pte, .pse, .rle, .lrn, .dp, .swc, .bpm, .fcps, .spw, .esc,
      .cvu, .freeSeq] d
      (doMinuteRecordWrite polder d) := by
  unfold doMinuteRecordWrite
  dsimp only
  repeat' split
  all_goals simp [Stand, Area.same]

theorem doCombinedUpdate_stands (i : Nat) (bad : Option Nat) (d : Dev) :
    Stand [.bal, .plc, .otp, .boot, .reg, .pipes, .tmu, .pte, .pse, .rle, .lrn, .dp, .swc, .bpm, .fcps, .spw, .esc, .cvu,
      .freeSeq] d
      (doCombinedUpdate i bad d) := by
  simp [Stand, Area.same, doCombinedUpdate]

theorem doLedgerMiss_stands (bad : Bool) (evict : Option Nat) (d : Dev) :
    Stand [.bal, .hif, .plc, .otp, .boot, .reg, .pipes, .tmu, .pte, .pse, .rle, .lrn, .dp, .swc, .bpm, .fcps, .spw, .esc, .cvu,
      .freeSeq, .out] d
      (doLedgerMiss bad evict d) := by
  unfold doLedgerMiss
  split
  · exact .refl ..
  next f s rest _ =>
    extract_lets m1 d1 d2 now used m2 d3 m3 d4 d5 install
    have h3 : Stand [.bal, .hif, .plc, .otp, .boot, .reg, .pipes, .tmu, .pte, .pse, .rle, .lrn, .dp, .swc, .bpm, .fcps, .spw,
        .esc, .cvu, .freeSeq, .out] d d3 := by
      simp [Stand, Area.same, d3, d2, d1]
    have h4 : Stand [.bal, .hif, .plc, .otp, .boot, .reg, .pipes, .tmu, .pte, .pse, .rle, .lrn, .dp, .swc, .bpm, .fcps, .spw,
        .esc, .cvu, .freeSeq, .out] d3 d4 := by
      unfold d4
      split <;> simp [Stand, Area.same]
    have h5 : Stand [.bal, .hif, .plc, .otp, .boot, .reg, .pipes, .tmu, .pte, .pse, .rle, .lrn, .dp, .swc, .bpm, .fcps, .spw,
        .esc, .cvu, .freeSeq, .out] d4 d5 := by
      unfold d5
      repeat' split
      all_goals simp [Stand, Area.same]
    split
    · simp [Stand, Area.same, d2, d1]
    · refine (h3.trans h4).trans (h5.trans ?_)
      unfold install
      clear_value d5
      repeat' split
      all_goals simp [Stand, Area.same]

theorem doLedgerWalkerVisit_stands (slot : Nat) (bad : Bool) (d : Dev) :
    Stand [.bal, .hif, .plc, .otp, .boot, .reg, .pipes, .tmu, .pte, .pse, .rle, .lrn, .dp, .swc, .bpm, .fcps, .spw, .esc, .cvu,
      .freeSeq, .out] d
      (doLedgerWalkerVisit slot bad d) := by
  unfold doLedgerWalkerVisit
  repeat' split
  all_goals simp [Stand, Area.same]

theorem doOpGaugeSetSet_stands (c : CmdRef) (io : Io) (d : Dev) :
    Stand [.bal, .plc, .fcr, .evr, .otp, .boot, .reg, .pipes, .tmu, .pte, .pse, .rle, .lrn, .dp, .swc, .bpm, .fcps, .spw, .mrp,
      .cvu, .ctrs, .freeSeq, .out] d
      (doOpGaugeSetSet c io d) := by
  simp [Stand, Area.same, doOpGaugeSetSet]

theorem doOpGaugeSetRead_stands (c : CmdRef) (io : Io) (d : Dev) :
    Stand [.bal, .plc, .fcr, .evr, .otp, .boot, .reg, .pipes, .tmu, .pte, .pse, .rle, .lrn, .dp, .swc, .bpm, .fcps, .spw, .esc,
      .mrp, .cvu, .ctrs, .freeSeq] d
      (doOpGaugeSetRead c io d) := by
  simp [Stand, Area.same, doOpGaugeSetRead]

theorem doOpGaugeSetArchiveRead_stands (c : CmdRef) (io : Io) (d : Dev) :
    Stand [.bal, .plc, .otp, .boot, .reg, .pipes, .tmu, .pte, .pse, .rle, .lrn, .dp, .swc, .bpm, .fcps, .spw, .esc, .mrp, .cvu,
      .freeSeq] d
      (doOpGaugeSetArchiveRead c io d) := by
  simp [Stand, Area.same, doOpGaugeSetArchiveRead]

theorem doGaugeIntervalEnd_stands (port : Nat) (d : Dev) :
    Stand [.plc, .evr, .otp, .boot, .reg, .pipes, .pte, .pse, .rle, .lrn, .dp, .swc, .bpm, .fcps, .spw, .mrp, .cvu, .freeSeq] d
      (doGaugeIntervalEnd port d) := by
  simp [Stand, Area.same, doGaugeIntervalEnd]

end Sys2Proof.Machine
end

section
/-! PROOFS. The parts that stand over the rows of the event recorder, the fault reporters and the diagnostics (15, 16, 18). -/
namespace Sys2Proof.Machine

theorem doOpLogRead_stands (c : CmdRef) (io : Io) (d : Dev) :
    Stand [.bal, .plc, .otp, .boot, .reg, .pipes, .tmu, .pte, .pse, .rle, .lrn, .dp, .swc, .bpm, .fcps, .spw, .esc, .mrp, .cvu,
      .freeSeq] d
      (doOpLogRead c io d) := by
  refine .step1 fun x => ?_
  extract_lets persistent wantFreeze minSev room addr first had fz
  have hfz : Stand [.bal, .plc, .otp, .boot, .reg, .pipes, .tmu, .pte, .pse, .rle, .lrn, .dp, .swc, .bpm, .fcps, .spw, .esc, .mrp,
      .cvu, .freeSeq] d fz.2 := by
    unfold fz
    split <;> simp [Stand, Area.same]
  clear_value fz had
  obtain ⟨why, e⟩ := fz
  dsimp only at hfz ⊢
  split
  · simp [Stand, Area.same]
  · refine hfz.trans ?_
    split <;> simp +zetaDelta [Stand, Area.same]

theorem doRecordAdmit_stands (check : Ecc) (d : Dev) :
    Stand [.bal, .plc, .otp, .boot, .reg, .pipes, .tmu, .pte, .pse, .rle, .lrn, .dp, .swc, .bpm, .fcps, .spw, .esc, .mrp, .cvu,
      .freeSeq] d
      (doRecordAdmit check d) := by
  unfold doRecordAdmit
  repeat' split
  all_goals simp [Stand, Area.same]

theorem doHoldingFifoDrain_stands (check : Ecc) (d : Dev) :
    Stand [.bal, .plc, .otp, .boot, .reg, .pipes, .tmu, .pte, .pse, .rle, .lrn, .dp, .swc, .bpm, .fcps, .spw, .esc, .mrp, .cvu,
      .freeSeq] d
      (doHoldingFifoDrain check d) := by
  unfold doHoldingFifoDrain
  repeat' split
  all_goals simp [Stand, Area.same]

theorem doOpLogFreeze_stands (c : CmdRef) (io : Io) (d : Dev) :
    Stand [.bal, .plc, .fcr, .otp, .boot, .reg, .pipes, .tmu, .pte, .pse, .rle, .lrn, .dp, .swc, .bpm, .fcps, .spw, .esc, .mrp,
      .cvu, .freeSeq, .out] d
      (doOpLogFreeze c io d) := by
  unfold doOpLogFreeze
  refine .step1 fun x => ?_
  have h := Dev.freeze_frame d c.ep
  split
  all_goals simp_all [Stand, Area.same]

theorem doOpLogThaw_stands (c : CmdRef) (io : Io) (d : Dev) :
    Stand [.bal, .plc, .fcr, .otp, .boot, .reg, .pipes, .tmu, .pte, .pse, .rle, .lrn, .dp, .swc, .bpm, .fcps, .spw, .esc, .mrp,
      .cvu, .freeSeq, .out] d
      (doOpLogThaw c io d) := by
  simp [Stand, Area.same, doOpLogThaw]

theorem doOpLogRateSetSet_stands (c : CmdRef) (io : Io) (d : Dev) :
    Stand [.bal, .plc, .fcr, .otp, .boot, .reg, .pipes, .tmu, .pte, .pse, .rle, .lrn, .dp, .swc, .bpm, .fcps, .spw, .esc, .mrp,
      .cvu, .ctrs, .freeSeq, .out] d
      (doOpLogRateSetSet c io d) := by
  simp [Stand, Area.same, doOpLogRateSetSet]

theorem doOpLogRateSetRead_stands (c : CmdRef) (io : Io) (d : Dev) :
    Stand [.bal, .plc, .fcr, .evr, .otp, .boot, .reg, .pipes, .tmu, .pte, .pse, .rle, .lrn, .dp, .swc, .bpm, .fcps, .spw, .esc,
      .mrp, .cvu, .ctrs, .freeSeq, .out] d
      (doOpLogRateSetRead c io d) := by
  simp [Stand, Area.same, doOpLogRateSetRead]

theorem doOpFaultConfigRead_stands (c : CmdRef) (io : Io) (d : Dev) :
    Stand [.bal, .plc, .fcr, .evr, .otp, .boot, .reg, .pipes, .tmu, .pte, .pse, .rle, .lrn, .dp, .swc, .bpm, .fcps, .spw, .esc,
      .mrp, .cvu, .ctrs, .freeSeq, .out] d
      (doOpFaultConfigRead c io d) := by
  simp [Stand, Area.same, doOpFaultConfigRead]

theorem doHourmark_stands (d : Dev) :
    Stand [.hif, .plc, .fcr, .otp, .boot, .reg, .pipes, .pte, .pse, .rle, .lrn, .dp, .swc, .bpm, .fcps, .spw, .esc, .mrp, .cvu,
      .freeSeq, .out] d
      (doHourmark d) := by
  simp [Stand, Area.same, doHourmark]

theorem doSuppressionSummary_stands (slot : Nat) (d : Dev) :
    Stand [.hif, .plc, .fcr, .otp, .boot, .reg, .pipes, .pte, .pse, .rle, .lrn, .dp, .swc, .bpm, .fcps, .spw, .esc, .mrp, .cvu,
      .freeSeq, .out] d
      (doSuppressionSummary slot d) := by
  simp [Stand, Area.same, doSuppressionSummary]

theorem doLogFreezeLimit_stands (d : Dev) :
    Stand [.hif, .plc, .otp, .boot, .reg, .pipes, .pte, .pse, .rle, .lrn, .dp, .swc, .bpm, .fcps, .spw, .esc, .mrp, .cvu,
      .freeSeq, .out] d
      (doLogFreezeLimit d) := by
  simp [Stand, Area.same, doLogFreezeLimit]

theorem doPersistentPageProgram_stands (n : Nat) (ok : Bool) (d : Dev) :
    Stand [.bal, .hif, .plc, .otp, .boot, .reg, .pipes, .tmu, .pte, .pse, .rle, .lrn, .dp, .swc, .bpm, .fcps, .spw, .esc, .mrp,
      .cvu, .freeSeq, .out] d
      (doPersistentPageProgram n ok d) := by
  unfold doPersistentPageProgram
  dsimp only
  repeat' split
  all_goals simp [Stand, Area.same]

theorem doFlashSectorErase_stands (sector : Nat) (ok : Bool) (d : Dev) :
    Stand [.bal, .hif, .plc, .otp, .boot, .reg, .pipes, .tmu, .pte, .pse, .rle, .lrn, .dp, .swc, .bpm, .fcps, .spw, .esc, .mrp,
      .cvu, .freeSeq, .out] d
      (doFlashSectorErase sector ok d) := by
  simp [Stand, Area.same, doFlashSectorErase]

theorem doPowerOnScanDone_stands (sectors : List (Nat × List Byte)) (hours : Nat) (d : Dev) :
    Stand [.bal, .hif, .plc, .otp, .boot, .reg, .pipes, .tmu, .pte, .pse, .rle, .lrn, .dp, .swc, .bpm, .fcps, .spw, .esc, .mrp,
      .cvu, .freeSeq, .out] d
      (doPowerOnScanDone sectors hours d) := by
  simp [Stand, Area.same, doPowerOnScanDone]

theorem doFaultRetryResult_stands (src : Nat) (passed : Bool) (d : Dev) :
    Stand [.bal, .hif, .plc, .otp, .boot, .reg, .pipes, .tmu, .pte, .pse, .rle, .lrn, .dp, .swc, .bpm, .fcps, .spw, .esc, .mrp,
      .cvu, .freeSeq, .out] d
      (doFaultRetryResult src passed d) := by
  simp [Stand, Area.same, doFaultRetryResult]

theorem doOpFaultConfigSet_stands (c : CmdRef) (io : Io) (d : Dev) :
    Stand [.bal, .plc, .otp, .boot, .reg, .pipes, .tmu, .pte, .pse, .rle, .lrn, .dp, .swc, .bpm, .fcps, .spw, .esc, .mrp, .cvu,
      .freeSeq, .out] d
      (doOpFaultConfigSet c io d) := by
  simp [Stand, Area.same, doOpFaultConfigSet]

theorem doOpFaultAck_stands (c : CmdRef) (io : Io) (d : Dev) :
    Stand [.bal, .plc, .otp, .boot, .reg, .pipes, .tmu, .pte, .pse, .rle, .lrn, .dp, .swc, .bpm, .fcps, .spw, .esc, .mrp, .cvu,
      .freeSeq, .out] d
      (doOpFaultAck c io d) := by
  refine .step1 fun x => ?_
  dsimp only
  repeat' split
  all_goals simp [Stand, Area.same]

theorem doOpFaultClear_stands (c : CmdRef) (io : Io) (d : Dev) :
    Stand [.bal, .plc, .otp, .boot, .reg, .pipes, .tmu, .pte, .pse, .rle, .lrn, .dp, .swc, .bpm, .fcps, .spw, .esc, .mrp, .cvu,
      .freeSeq, .out] d
      (doOpFaultClear c io d) := by
  simp [Stand, Area.same, doOpFaultClear]

theorem doOpFaultConfigHistory_stands (c : CmdRef) (io : Io) (d : Dev) :
    Stand [.bal, .plc, .fcr, .evr, .otp, .boot, .reg, .pipes, .tmu, .pte, .pse, .rle, .lrn, .dp, .swc, .bpm, .fcps, .spw, .esc,
      .mrp, .cvu, .ctrs, .freeSeq] d
      (doOpFaultConfigHistory c io d) := by
  simp [Stand, Area.same, doOpFaultConfigHistory]

theorem doOpFaultConfigLatched_stands (c : CmdRef) (io : Io) (d : Dev) :
    Stand [.bal, .plc, .fcr, .evr, .otp, .boot, .reg, .pipes, .tmu, .pte, .pse, .rle, .lrn, .dp, .swc, .bpm, .fcps, .spw, .esc,
      .mrp, .cvu, .ctrs, .freeSeq] d
      (doOpFaultConfigLatched c io d) := by
  simp [Stand, Area.same, doOpFaultConfigLatched]

theorem doLaneRecheck_stands (l : Nat) (gone : List Nat) (d : Dev) :
    Stand [.hif, .plc, .otp, .boot, .reg, .pipes, .pse, .rle, .lrn, .dp, .swc, .bpm, .fcps, .spw, .esc, .mrp, .cvu, .freeSeq,
      .out] d
      (doLaneRecheck l gone d) := by
  simp [Stand, Area.same, doLaneRecheck]

theorem doFaultReport_stands (d : Dev) :
    Stand [.otp, .cvu] d (doFaultReport d) := by
  simp [Stand, Area.same, doFaultReport]

theorem doGraceTimerExpiry_stands (src : Nat) (d : Dev) :
    Stand [.otp, .cvu] d (doGraceTimerExpiry src d) := by
  unfold doGraceTimerExpiry
  repeat' split
  all_goals simp [Stand, Area.same]

theorem doCriticalGraceExpiry_stands (src : Nat) (d : Dev) :
    Stand [.otp, .cvu] d (doCriticalGraceExpiry src d) := by
  unfold doCriticalGraceExpiry
  repeat' split
  all_goals simp [Stand, Area.same]

theorem doTourbillonVisit_stands (sweeper mem inst addr : Nat) (check : Ecc) (weak : Bool) (args : List Nat) (d : Dev) :
    Stand [.bal, .plc, .otp, .boot, .reg, .tmu, .pte, .pse, .fcps, .spw] d
      (doTourbillonVisit sweeper mem inst addr check weak args d) := by
  unfold doTourbillonVisit
  repeat' split
  all_goals simp [Stand, Area.same]

theorem doLiveWindowExpiry_stands (src : Nat) (d : Dev) :
    Stand [.hif, .plc, .evr, .otp, .boot, .reg, .pipes, .pte, .pse, .rle, .lrn, .dp, .swc, .bpm, .fcps, .spw, .esc, .mrp, .cvu,
      .ctrs, .freeSeq, .out] d
      (doLiveWindowExpiry src d) := by
  unfold doLiveWindowExpiry
  repeat' split
  all_goals simp [Stand, Area.same]

theorem doOpDiagLoopback_stands (c : CmdRef) (io : Io) (d : Dev) :
    Stand [.plc, .evr, .otp, .boot, .reg, .pipes, .tmu, .pse, .rle, .lrn, .dp, .swc, .bpm, .fcps, .spw, .esc, .mrp, .cvu, .ctrs,
      .freeSeq, .out] d
      (doOpDiagLoopback c io d) := by
  simp [Stand, Area.same, doOpDiagLoopback]

theorem doOpDiagBist_stands (c : CmdRef) (io : Io) (d : Dev) :
    Stand [.bal, .plc, .fcr, .evr, .otp, .reg, .pipes, .tmu, .pte, .pse, .fcps, .spw, .cvu, .freeSeq, .out] d
      (doOpDiagBist c io d) := by
  simp [Stand, Area.same, doOpDiagBist]

theorem doOpDiagPrbsStart_stands (c : CmdRef) (io : Io) (d : Dev) :
    Stand [.plc, .fcr, .evr, .otp, .boot, .reg, .pipes, .tmu, .pte, .pse, .rle, .lrn, .dp, .swc, .bpm, .fcps, .spw, .esc, .mrp,
      .cvu, .ctrs, .freeSeq, .out] d
      (doOpDiagPrbsStart c io d) := by
  simp [Stand, Area.same, doOpDiagPrbsStart]

theorem doOpDiagPrbsRead_stands (c : CmdRef) (io : Io) (d : Dev) :
    Stand [.plc, .fcr, .evr, .otp, .boot, .reg, .pipes, .tmu, .pte, .pse, .rle, .lrn, .dp, .swc, .bpm, .fcps, .spw, .esc, .mrp,
      .cvu, .ctrs, .out] d
      (doOpDiagPrbsRead c io d) := by
  simp [Stand, Area.same, doOpDiagPrbsRead]

theorem doOpDiagPrbsStop_stands (c : CmdRef) (io : Io) (d : Dev) :
    Stand [.plc, .fcr, .evr, .otp, .boot, .reg, .pipes, .tmu, .pte, .pse, .rle, .lrn, .dp, .swc, .bpm, .fcps, .spw, .esc, .mrp,
      .cvu, .ctrs, .out] d
      (doOpDiagPrbsStop c io d) := by
  simp [Stand, Area.same, doOpDiagPrbsStop]

end Sys2Proof.Machine
end

section
/-! PROOFS. The parts that stand over the rows of tables, generations, the learn ring, polders and sluices (03, 06, 07). -/
namespace Sys2Proof.Machine

theorem doOpGenOpen_stands (c : CmdRef) (io : Io) (d : Dev) :
    Stand [.bal, .plc, .fcr, .otp, .boot, .reg, .pipes, .tmu, .pte, .pse, .lrn, .dp, .swc, .bpm, .fcps, .spw, .esc, .mrp, .cvu,
      .freeSeq, .out] d
      (doOpGenOpen c io d) := by
  refine .step1 fun x => ?_
  dsimp only
  repeat' split
  all_goals simp [Stand, Area.same]

theorem doOpGenCommit_stands (c : CmdRef) (io : Io) (d : Dev) :
    Stand [.bal, .plc, .fcr, .otp, .boot, .reg, .pipes, .tmu, .pte, .pse, .lrn, .dp, .swc, .bpm, .fcps, .spw, .esc, .mrp, .cvu,
      .freeSeq, .out] d
      (doOpGenCommit c io d) := by
  simp [Stand, Area.same, doOpGenCommit]

theorem doOpGenDiscard_stands (c : CmdRef) (io : Io) (d : Dev) :
    Stand [.bal, .plc, .fcr, .otp, .boot, .reg, .pipes, .tmu, .pte, .pse, .lrn, .dp, .swc, .bpm, .fcps, .spw, .esc, .mrp, .cvu,
      .freeSeq, .out] d
      (doOpGenDiscard c io d) := by
  simp [Stand, Area.same, doOpGenDiscard]

theorem doOpGenStatus_stands (c : CmdRef) (io : Io) (d : Dev) :
    Stand [.bal, .plc, .fcr, .evr, .otp, .boot, .reg, .pipes, .tmu, .pte, .pse, .rle, .lrn, .dp, .swc, .bpm, .fcps, .spw, .esc,
      .mrp, .cvu, .ctrs, .freeSeq, .out] d
      (doOpGenStatus c io d) := by
  simp [Stand, Area.same, doOpGenStatus]

theorem doGenDrainDone_stands (d : Dev) :
    Stand [.bal, .hif, .plc, .fcr, .otp, .boot, .reg, .pipes, .tmu, .pte, .pse, .lrn, .dp, .swc, .bpm, .fcps, .spw, .esc, .mrp,
      .cvu, .freeSeq, .out] d
      (doGenDrainDone d) := by
  simp [Stand, Area.same, doGenDrainDone]

theorem doRetirementTimerExpiry_stands (d : Dev) :
    Stand [.hif, .plc, .fcr, .otp, .boot, .reg, .pipes, .pte, .pse, .lrn, .swc, .bpm, .fcps, .spw, .esc, .mrp, .cvu, .freeSeq,
      .out] d
      (doRetirementTimerExpiry d) := by
  simp [Stand, Area.same, doRetirementTimerExpiry]

theorem doSyncSweepDone_stands (d : Dev) :
    Stand [.bal, .plc, .evr, .otp, .boot, .reg, .pipes, .tmu, .pte, .pse, .lrn, .dp, .swc, .bpm, .fcps, .spw, .esc, .mrp, .cvu,
      .ctrs, .freeSeq, .out] d
      (doSyncSweepDone d) := by
  simp [Stand, Area.same, doSyncSweepDone]

theorem doOpTableWrite_stands (c : CmdRef) (io : Io) (d : Dev) :
    Stand [.bal, .plc, .evr, .otp, .boot, .reg, .tmu, .pte, .dp, .swc, .bpm, .fcps, .spw, .esc, .mrp, .cvu, .ctrs, .freeSeq, .out] d
      (doOpTableWrite c io d) := by
  refine .step1 fun x => ?_
  dsimp only
  split
  · simp [Stand, Area.same]
  · split
    · simp [Stand, Area.same]
    · split
      · simp [Stand, Area.same]
      · split
        · split <;> simp [Stand, Area.same]
        · split
          · simp [Stand, Area.same]
          next h =>
            have hf := Dev.tabWrite_frame _ _ _ h
            simp_all [Stand, Area.same]

theorem doOpTableBulk_stands (c : CmdRef) (io : Io) (d : Dev) :
    Stand [.bal, .plc, .evr, .otp, .boot, .reg, .tmu, .pte, .dp, .swc, .bpm, .fcps, .spw, .esc, .mrp, .cvu, .ctrs, .freeSeq, .out] d
      (doOpTableBulk c io d) := by
  refine .step1 fun x => ?_
  dsimp only
  split
  · simp [Stand, Area.same]
  · split
    · simp [Stand, Area.same]
    · split
      · simp [Stand, Area.same]
      · split
        · simp [Stand, Area.same]
        next bs _ =>
          have h := Dev.bulkRun_frame d c x (x.fld 18 0 16) (min (x.fld 20 0 32 - (Bulk.ofList x.scratch).pos) (max 1 (bs.length /
              x.fld 18 0 16))) bs (Bulk.ofList x.scratch)
          split
          · simp_all [Stand, Area.same]
          · simp_all [Stand, Area.same]

theorem doOpTableRead_stands (c : CmdRef) (io : Io) (d : Dev) :
    Stand [.bal, .plc, .fcr, .evr, .otp, .boot, .reg, .pipes, .tmu, .pte, .pse, .rle, .lrn, .dp, .swc, .bpm, .fcps, .spw, .esc,
      .mrp, .cvu, .ctrs, .freeSeq] d
      (doOpTableRead c io d) := by
  simp [Stand, Area.same, doOpTableRead]

theorem doOpTableSearch_stands (c : CmdRef) (io : Io) (d : Dev) :
    Stand [.bal, .plc, .fcr, .evr, .otp, .boot, .reg, .pipes, .tmu, .pte, .pse, .rle, .lrn, .dp, .swc, .bpm, .fcps, .spw, .esc,
      .mrp, .cvu, .ctrs, .freeSeq] d
      (doOpTableSearch c io d) := by
  simp [Stand, Area.same, doOpTableSearch]

theorem doOpTableAudit_stands (c : CmdRef) (io : Io) (d : Dev) :
    Stand [.bal, .plc, .fcr, .evr, .otp, .boot, .reg, .pipes, .tmu, .pte, .pse, .rle, .lrn, .dp, .swc, .bpm, .fcps, .spw, .esc,
      .mrp, .cvu, .ctrs, .freeSeq] d
      (doOpTableAudit c io d) := by
  simp [Stand, Area.same, doOpTableAudit]

theorem doOpTableScan_stands (c : CmdRef) (io : Io) (d : Dev) :
    Stand [.bal, .plc, .fcr, .evr, .otp, .boot, .reg, .pipes, .tmu, .pte, .pse, .rle, .lrn, .dp, .swc, .bpm, .fcps, .spw, .esc,
      .mrp, .cvu, .ctrs, .freeSeq] d
      (doOpTableScan c io d) := by
  simp [Stand, Area.same, doOpTableScan]

theorem doOpTableDelete_stands (c : CmdRef) (io : Io) (d : Dev) :
    Stand [.bal, .plc, .evr, .otp, .boot, .reg, .pipes, .tmu, .pte, .pse, .dp, .swc, .bpm, .fcps, .spw, .esc, .mrp, .cvu, .ctrs,
      .freeSeq, .out] d
      (doOpTableDelete c io d) := by
  refine .step1 fun x => ?_
  dsimp only
  split
  · simp [Stand, Area.same]
  · split
    · simp [Stand, Area.same]
    · split
      · simp [Stand, Area.same]
      · split
        · simp [Stand, Area.same]
        · split
          · simp [Stand, Area.same]
          next h =>
            have hf := Dev.tabDelete_frame _ _ _ h
            simp_all [Stand, Area.same]

theorem doRelocationMove_stands (quad table : Nat) (path : List Nat) (d : Dev) :
    Stand [.bal, .hif, .plc, .evr, .otp, .boot, .reg, .pipes, .tmu, .pte, .pse, .dp, .swc, .bpm, .fcps, .spw, .esc, .mrp, .cvu,
      .freeSeq, .out] d
      (doRelocationMove quad table path d) := by
  simp [Stand, Area.same, doRelocationMove]

theorem doLearnEventPass_stands (d : Dev) :
    Stand [.bal, .hif, .plc, .fcr, .evr, .otp, .boot, .reg, .pipes, .tmu, .pte, .pse, .rle, .dp, .swc, .bpm, .fcps, .spw, .esc,
      .mrp, .cvu, .ctrs, .freeSeq, .out] d
      (doLearnEventPass d) := by
  unfold doLearnEventPass
  dsimp only
  repeat' split
  all_goals simp [Stand, Area.same]

theorem doLearnEventApply_stands (quad : Nat) (check : Ecc) (draw : Nat) (d : Dev) :
    Stand [.bal, .plc, .otp, .boot, .reg, .pipes, .tmu, .pte, .pse, .rle, .dp, .swc, .bpm, .fcps, .spw, .esc, .mrp, .cvu,
      .freeSeq, .out] d
      (doLearnEventApply quad check draw d) := by
  unfold doLearnEventApply
  dsimp only
  repeat' split
  all_goals simp [Stand, Area.same]

theorem doLearnApplyLag_stands (quad : Nat) (d : Dev) :
    Stand [.hif, .plc, .evr, .otp, .boot, .reg, .pipes, .pte, .pse, .rle, .lrn, .dp, .swc, .bpm, .fcps, .spw, .esc, .mrp, .cvu,
      .ctrs, .freeSeq, .out] d
      (doLearnApplyLag quad d) := by
  unfold doLearnApplyLag
  repeat' split
  all_goals simp [Stand, Area.same]

theorem doAgingVisit_stands (quad : Nat) (d : Dev) :
    Stand [.hif, .plc, .fcr, .evr, .otp, .boot, .reg, .pipes, .pte, .pse, .rle, .dp, .swc, .bpm, .fcps, .spw, .esc, .mrp, .cvu,
      .freeSeq, .out] d
      (doAgingVisit quad d) := by
  simp [Stand, Area.same, doAgingVisit]

theorem doOpPolderDefineDefine_stands (c : CmdRef) (io : Io) (d : Dev) :
    Stand [.bal, .otp, .boot, .reg, .pipes, .tmu, .pse, .rle, .lrn, .dp, .swc, .spw, .esc, .cvu, .freeSeq] d
      (doOpPolderDefineDefine c io d) := by
  simp [Stand, Area.same, doOpPolderDefineDefine]

theorem doOpPolderDefineModify_stands (c : CmdRef) (io : Io) (d : Dev) :
    Stand [.bal, .otp, .boot, .reg, .pipes, .tmu, .pse, .rle, .lrn, .dp, .swc, .spw, .esc, .cvu, .freeSeq] d
      (doOpPolderDefineModify c io d) := by
  simp [Stand, Area.same, doOpPolderDefineModify]

theorem doOpPolderDefineUndefine_stands (c : CmdRef) (io : Io) (d : Dev) :
    Stand [.bal, .otp, .boot, .reg, .tmu, .cvu] d (doOpPolderDefineUndefine c io d) := by
  refine .step1 fun x => ?_
  dsimp only
  repeat' split
  all_goals simp [Stand, Area.same]

theorem doOpSluiceSet_stands (c : CmdRef) (io : Io) (d : Dev) :
    Stand [.bal, .fcr, .evr, .otp, .boot, .reg, .pipes, .tmu, .pte, .pse, .rle, .lrn, .dp, .swc, .bpm, .fcps, .spw, .esc, .mrp,
      .cvu, .ctrs, .freeSeq, .out] d
      (doOpSluiceSet c io d) := by
  simp [Stand, Area.same, doOpSluiceSet]

theorem doOpWardenHandover_stands (c : CmdRef) (io : Io) (d : Dev) :
    Stand [.bal, .fcr, .otp, .boot, .reg, .pipes, .tmu, .pte, .pse, .rle, .lrn, .dp, .swc, .bpm, .fcps, .spw, .esc, .mrp, .cvu,
      .out] d
      (doOpWardenHandover c io d) := by
  refine .step1 fun x => ?_
  split
  next bs _ =>
    have h := Dev.handover_frame d (bs.map (BitVec.ofNat 8)) false
    split
    all_goals simp_all [Stand, Area.same]
  · repeat' split
    all_goals simp [Stand, Area.same]

end Sys2Proof.Machine
end

section
/-! PROOFS. The parts that stand over the rows of the frame path and the spillway (04, 09, 11, 12). -/
namespace Sys2Proof.Machine

theorem doHeaderWindowComplete_stands (pipe : Nat) (wire : List (Nat × List Byte)) (flaws : Flaws) (upper : Bool) (d : Dev) :
    Stand [.bal, .plc, .otp, .boot, .reg, .tmu, .pse, .cvu] d (doHeaderWindowComplete pipe wire flaws upper d) := by
  simp [Stand, Area.same, doHeaderWindowComplete]

theorem doFrameLastByte_stands (pid : Nat) (fcsOk : Bool) (fec : Fec) (d : Dev) :
    Stand [.bal, .plc, .otp, .boot, .reg, .tmu, .pte, .pse, .rle, .fcps, .esc, .cvu] d (doFrameLastByte pid fcsOk fec d) := by
  unfold doFrameLastByte
  repeat' split
  all_goals simp [Stand, Area.same]

theorem doWriteConfirm_stands (cell : Nat) (d : Dev) :
    Stand [.bal, .hif, .plc, .fcr, .evr, .otp, .boot, .reg, .tmu, .pte, .pse, .rle, .lrn, .fcps, .spw, .mrp, .cvu, .ctrs,
      .freeSeq, .out] d
      (doWriteConfirm cell d) := by
  unfold doWriteConfirm
  repeat' split
  all_goals simp [Stand, Area.same]

theorem doQueueFlushDone_stands (port : Nat) (d : Dev) :
    Stand [.bal, .plc, .otp, .boot, .reg, .tmu, .pse, .rle, .lrn, .fcps, .esc, .cvu] d (doQueueFlushDone port d) := by
  unfold doQueueFlushDone
  repeat' split
  all_goals simp [Stand, Area.same]

theorem doRxFrameDelivery_stands (ep : Nat) (posted : List (Nat × Nat)) (err : Bool) (d : Dev) :
    Stand [.bal, .plc, .otp, .boot, .reg, .tmu, .pte, .pse, .rle, .lrn, .fcps, .spw, .esc, .cvu] d
      (doRxFrameDelivery ep posted err d) := by
  unfold doRxFrameDelivery
  dsimp only
  repeat' split
  all_goals simp [Stand, Area.same]

theorem doCellArrivalEgress_stands (i : Nat) (how : Carried) (d : Dev) :
    Stand [.bal, .plc, .otp, .boot, .reg, .tmu, .pte, .pse, .rle, .lrn, .fcps, .spw, .esc, .cvu] d
      (doCellArrivalEgress i how d) := by
  unfold doCellArrivalEgress
  repeat' split
  all_goals simp [Stand, Area.same]

theorem doOrphanSweepVisit_stands (check : Ecc) (d : Dev) :
    Stand [.bal, .plc, .otp, .boot, .reg, .tmu, .pte, .pse, .rle, .lrn, .fcps, .spw, .esc, .cvu] d
      (doOrphanSweepVisit check d) := by
  unfold doOrphanSweepVisit
  repeat' split
  all_goals simp [Stand, Area.same]

theorem doPlaneRemoved_stands (plane : Nat) (d : Dev) :
    Stand [.bal, .plc, .otp, .boot, .reg, .tmu, .pte, .pse, .rle, .lrn, .fcps, .spw, .esc, .cvu] d (doPlaneRemoved plane d) := by
  unfold doPlaneRemoved
  split
  · exact .refl ..
  · refine .trans ?_ (Dev.mcSettle_stands _)
    refine .trans ?_ (.foldl (fun d q => .foldl (fun d s => ?_) _ _) _ _)
    · simp [Stand, Area.same]
    · repeat' split
      all_goals simp [Stand, Area.same]

theorem doRxQueueStarved_stands (ep q : Nat) (d : Dev) :
    Stand [.plc, .otp, .boot, .reg, .pte, .pse, .rle, .lrn, .fcps, .spw, .esc, .cvu] d (doRxQueueStarved ep q d) := by
  unfold doRxQueueStarved
  dsimp only
  repeat' split
  all_goals simp [Stand, Area.same]

theorem doReseqGapTimeout_stands (pipe stream : Nat) (d : Dev) :
    Stand [.plc, .otp, .boot, .reg, .pte, .pse, .rle, .lrn, .fcps, .spw, .esc, .cvu] d (doReseqGapTimeout pipe stream d) := by
  unfold doReseqGapTimeout
  repeat' split
  all_goals simp [Stand, Area.same]

theorem doMcCopyHoldDrop_stands (port m : Nat) (d : Dev) :
    Stand [.plc, .otp, .boot, .reg, .pte, .pse, .rle, .lrn, .fcps, .spw, .esc, .cvu] d (doMcCopyHoldDrop port m d) := by
  unfold doMcCopyHoldDrop
  dsimp only
  repeat' split
  all_goals simp [Stand, Area.same]

theorem doTxFrameFetch_stands (ep : Nat) (descs : List (BitVec 256)) (bytes : Option (List Byte)) (d : Dev) :
    Stand [.bal, .plc, .evr, .otp, .boot, .reg, .tmu, .pte, .pse, .rle, .lrn, .swc, .bpm, .fcps, .spw, .esc, .mrp, .cvu, .ctrs,
      .freeSeq] d
      (doTxFrameFetch ep descs bytes d) := by
  unfold doTxFrameFetch
  dsimp only
  split
  · exact .refl ..
  · split
    · split
      · exact .refl ..
      · split <;> simp [Stand, Area.same]
    · exact .refl ..

theorem doDispatchDecision_stands (pipe : Nat) (flaws : Flaws) (d : Dev) :
    Stand [.bal, .plc, .otp, .boot, .reg, .tmu, .pte, .pse, .cvu] d (doDispatchDecision pipe flaws d) := by
  simp [Stand, Area.same, doDispatchDecision]

theorem doRewriteLengthCharge_stands (port : Nat) (d : Dev) :
    Stand [.bal, .hif, .plc, .fcr, .evr, .otp, .boot, .reg, .pipes, .tmu, .pte, .pse, .rle, .lrn, .swc, .bpm, .fcps, .spw, .mrp,
      .cvu, .freeSeq, .out] d
      (doRewriteLengthCharge port d) := by
  unfold doRewriteLengthCharge
  repeat' split
  all_goals simp [Stand, Area.same]

theorem doFrameTransmitEnd_stands (port : Nat) (d : Dev) :
    Stand [.bal, .plc, .otp, .boot, .reg, .tmu, .pse, .rle, .lrn, .fcps, .spw, .cvu] d (doFrameTransmitEnd port d) := by
  unfold doFrameTransmitEnd
  repeat' split
  all_goals simp [Stand, Area.same]

theorem doTxUnderrun_stands (port : Nat) (d : Dev) :
    Stand [.bal, .plc, .otp, .boot, .reg, .tmu, .pse, .rle, .lrn, .fcps, .spw, .cvu] d (doTxUnderrun port d) := by
  unfold doTxUnderrun
  repeat' split
  all_goals simp [Stand, Area.same]

theorem doConfirmTimeout_stands (pid : Nat) (d : Dev) :
    Stand [.plc, .otp, .boot, .reg, .pipes, .pte, .pse, .rle, .lrn, .fcps, .esc, .cvu] d (doConfirmTimeout pid d) := by
  unfold doConfirmTimeout
  repeat' split
  all_goals simp [Stand, Area.same]

theorem doPlaneFailure_stands (plane pipe cause : Nat) (d : Dev) :
    Stand [.hif, .plc, .otp, .boot, .reg, .pipes, .pte, .pse, .rle, .lrn, .dp, .bpm, .fcps, .spw, .esc, .mrp, .cvu, .freeSeq,
      .out] d
      (doPlaneFailure plane pipe cause d) := by
  simp [Stand, Area.same, doPlaneFailure]

theorem doPlaneSelfCheck_stands (plane : Nat) (ok : Bool) (d : Dev) :
    Stand [.hif, .plc, .otp, .boot, .reg, .pipes, .pte, .pse, .rle, .lrn, .dp, .bpm, .fcps, .spw, .esc, .mrp, .cvu, .freeSeq,
      .out] d
      (doPlaneSelfCheck plane ok d) := by
  simp [Stand, Area.same, doPlaneSelfCheck]

theorem doPlaneBistDone_stands (plane : Nat) (ok : Bool) (d : Dev) :
    Stand [.bal, .hif, .plc, .otp, .boot, .reg, .pipes, .tmu, .pte, .pse, .rle, .lrn, .dp, .bpm, .fcps, .spw, .esc, .mrp, .cvu,
      .freeSeq, .out] d
      (doPlaneBistDone plane ok d) := by
  simp [Stand, Area.same, doPlaneBistDone]

theorem doCellWriteCrossing_stands (ready : List (Nat × Carried)) (d : Dev) :
    Stand [.bal, .plc, .otp, .boot, .reg, .tmu, .pte, .pse, .rle, .lrn, .esc, .cvu] d (doCellWriteCrossing ready d) := by
  simp [Stand, Area.same, doCellWriteCrossing]

theorem doOpSpillSetQueue_stands (c : CmdRef) (io : Io) (d : Dev) :
    Stand [.bal, .plc, .fcr, .evr, .otp, .boot, .reg, .pipes, .tmu, .pte, .pse, .rle, .lrn, .swc, .bpm, .fcps, .spw, .esc, .mrp,
      .cvu, .ctrs, .freeSeq, .out] d
      (doOpSpillSetQueue c io d) := by
  simp [Stand, Area.same, doOpSpillSetQueue]

theorem doOpSpillSetLongReach_stands (c : CmdRef) (io : Io) (d : Dev) :
    Stand [.bal, .plc, .fcr, .evr, .otp, .boot, .reg, .pipes, .tmu, .pte, .pse, .rle, .lrn, .dp, .swc, .bpm, .fcps, .esc, .mrp,
      .cvu, .ctrs, .freeSeq, .out] d
      (doOpSpillSetLongReach c io d) := by
  simp [Stand, Area.same, doOpSpillSetLongReach]

theorem doOpSpillSetReadQueue_stands (c : CmdRef) (io : Io) (d : Dev) :
    Stand [.bal, .plc, .fcr, .evr, .otp, .boot, .reg, .pipes, .tmu, .pte, .pse, .rle, .lrn, .dp, .swc, .bpm, .fcps, .spw, .esc,
      .mrp, .cvu, .ctrs, .freeSeq, .out] d
      (doOpSpillSetReadQueue c io d) := by
  simp [Stand, Area.same, doOpSpillSetReadQueue]

theorem doOpSpillSetReadLr_stands (c : CmdRef) (io : Io) (d : Dev) :
    Stand [.bal, .plc, .fcr, .evr, .otp, .boot, .reg, .pipes, .tmu, .pte, .pse, .rle, .lrn, .dp, .swc, .bpm, .fcps, .spw, .esc,
      .mrp, .cvu, .ctrs, .freeSeq, .out] d
      (doOpSpillSetReadLr c io d) := by
  simp [Stand, Area.same, doOpSpillSetReadLr]

theorem doBasinWriteComplete_stands (backlog : List Nat) (d : Dev) :
    Stand [.bal, .hif, .plc, .otp, .boot, .reg, .pipes, .tmu, .pte, .pse, .rle, .lrn, .swc, .fcps, .esc, .mrp, .cvu, .out] d
      (doBasinWriteComplete backlog d) := by
  unfold doBasinWriteComplete
  repeat' split
  all_goals simp [Stand, Area.same]

theorem doSegmentWalkerReturn_stands (d : Dev) :
    Stand [.bal, .plc, .otp, .boot, .reg, .tmu, .pte, .pse, .rle, .lrn, .fcps, .esc, .cvu] d (doSegmentWalkerReturn d) := by
  unfold doSegmentWalkerReturn
  repeat' split
  all_goals simp [Stand, Area.same]

theorem doBasinReadComplete_stands (k n : Nat) (err : BasinErr) (d : Dev) :
    Stand [.bal, .plc, .otp, .boot, .reg, .tmu, .pte, .pse, .rle, .lrn, .fcps, .esc, .cvu] d (doBasinReadComplete k n err d) := by
  unfold doBasinReadComplete
  dsimp only
  repeat' split
  all_goals simp [Stand, Area.same]

theorem doCxlPortLoss_stands (port cause : Nat) (d : Dev) :
    Stand [.bal, .plc, .otp, .boot, .reg, .tmu, .pte, .pse, .rle, .lrn, .fcps, .esc, .cvu] d (doCxlPortLoss port cause d) := by
  simp [Stand, Area.same, doCxlPortLoss]

theorem doLrqReturn_stands (port cls : Nat) (err : BasinErr) (d : Dev) :
    Stand [.bal, .plc, .otp, .boot, .reg, .tmu, .pte, .pse, .rle, .lrn, .fcps, .cvu] d (doLrqReturn port cls err d) := by
  unfold doLrqReturn
  split
  · exact .refl ..
  next pid rest _ =>
    split
    · exact .refl ..
    next x _ =>
      dsimp only
      split
      · simp [Stand, Area.same]
      · simp [Stand, Area.same]
      · simp [Stand, Area.same]
      · simp [Stand, Area.same]
      all_goals
        split
        · exact .refl ..
        next cs d' h =>
          have htake : Stand [.bal, .plc, .otp, .boot, .reg, .tmu, .pte, .pse, .rle, .lrn, .fcps, .cvu] d d' := by
            have hf := Dev.takeMany_frame _ _ _ h
            simp_all [Stand, Area.same]
          refine htake.trans ?_
          generalize hr : List.foldl _ (([] : List Dest), d') x.waiting = r
          have hd : Stand [.bal, .plc, .otp, .boot, .reg, .tmu, .pte, .pse, .rle, .lrn, .fcps, .cvu] d' r.2 := by
            rw [← hr]
            refine .foldlSnd (fun a t => ?_) _ (_, d')
            split <;> simp [Stand, Area.same]
          refine hd.trans ?_
          have haddr := Dev.lrqAddr_frame r.2
          generalize r.2.lrqAddr = p at haddr ⊢
          obtain ⟨v, b⟩ := p
          simp only [ButFreeSeq] at haddr
          cases x.repl <;> simp [Stand, Area.same, haddr]

theorem doCxlEnumeration_stands (port : Nat) (d : Dev) :
    Stand [.bal, .hif, .plc, .fcr, .evr, .otp, .boot, .reg, .pipes, .tmu, .pte, .pse, .rle, .lrn, .dp, .swc, .bpm, .fcps, .esc,
      .mrp, .cvu, .ctrs, .freeSeq, .out] d
      (doCxlEnumeration port d) := by
  simp [Stand, Area.same, doCxlEnumeration]

theorem doCxlEnumerationDone_stands (port failed capMib width rate : Nat) (d : Dev) :
    Stand [.bal, .hif, .plc, .otp, .boot, .reg, .pipes, .tmu, .pte, .pse, .rle, .lrn, .dp, .swc, .bpm, .fcps, .esc, .mrp, .cvu,
      .freeSeq, .out] d
      (doCxlEnumerationDone port failed capMib width rate d) := by
  simp [Stand, Area.same, doCxlEnumerationDone]

theorem doBasinAudit_stands (seg : Nat) (d : Dev) :
    Stand [.bal, .hif, .plc, .otp, .boot, .reg, .pipes, .tmu, .pte, .pse, .rle, .lrn, .dp, .swc, .bpm, .fcps, .esc, .mrp, .cvu,
      .freeSeq, .out] d
      (doBasinAudit seg d) := by
  simp [Stand, Area.same, doBasinAudit]

theorem doHbmStackFailure_stands (stack : Nat) (d : Dev) :
    Stand [.bal, .hif, .plc, .evr, .otp, .boot, .reg, .pipes, .tmu, .pte, .pse, .rle, .lrn, .dp, .swc, .bpm, .fcps, .cvu, .ctrs,
      .freeSeq, .out] d
      (doHbmStackFailure stack d) := by
  simp [Stand, Area.same, doHbmStackFailure]

end Sys2Proof.Machine
end

section
/-! PROOFS. The parts that stand over the rows of ports and links, the time unit and the check-value units (04, 13, 14). -/
namespace Sys2Proof.Machine

theorem doOpPortConfig_stands (c : CmdRef) (io : Io) (d : Dev) :
    Stand [.bal, .plc, .evr, .otp, .boot, .reg, .pipes, .tmu, .rle, .lrn, .dp, .swc, .mrp, .cvu, .freeSeq] d
      (doOpPortConfig c io d) := by
  refine .step1 fun x => ?_
  dsimp only
  repeat' split
  all_goals simp [Stand, Area.same]

theorem doOpPortStateRead_stands (c : CmdRef) (io : Io) (d : Dev) :
    Stand [.bal, .plc, .fcr, .evr, .otp, .boot, .reg, .pipes, .tmu, .pte, .pse, .rle, .lrn, .dp, .swc, .bpm, .fcps, .spw, .esc,
      .mrp, .cvu, .ctrs, .freeSeq, .out] d
      (doOpPortStateRead c io d) := by
  simp [Stand, Area.same, doOpPortStateRead]

theorem doOpTimeCapture_stands (c : CmdRef) (io : Io) (d : Dev) :
    Stand [.bal, .plc, .fcr, .evr, .otp, .boot, .reg, .pipes, .tmu, .pte, .pse, .rle, .lrn, .dp, .swc, .bpm, .fcps, .spw, .esc,
      .mrp, .cvu, .ctrs, .freeSeq, .out] d
      (doOpTimeCapture c io d) := by
  refine .step1 fun x => ?_
  dsimp only
  repeat' split
  all_goals simp [Stand, Area.same]

theorem doOpPortStateAdminUp_stands (c : CmdRef) (io : Io) (d : Dev) :
    Stand [.bal, .plc, .otp, .boot, .reg, .pipes, .tmu, .pse, .rle, .lrn, .dp, .swc, .bpm, .fcps, .spw, .esc, .mrp, .cvu,
      .freeSeq, .out] d
      (doOpPortStateAdminUp c io d) := by
  simp [Stand, Area.same, doOpPortStateAdminUp]

theorem doOpPortStateAdminDown_stands (c : CmdRef) (io : Io) (d : Dev) :
    Stand [.bal, .plc, .otp, .boot, .reg, .tmu, .pse, .rle, .lrn, .fcps, .cvu] d (doOpPortStateAdminDown c io d) := by
  simp [Stand, Area.same, doOpPortStateAdminDown]

theorem doOpPortStateRetrain_stands (c : CmdRef) (io : Io) (d : Dev) :
    Stand [.bal, .plc, .otp, .boot, .reg, .tmu, .pse, .rle, .lrn, .fcps, .esc, .cvu] d (doOpPortStateRetrain c io d) := by
  simp [Stand, Area.same, doOpPortStateRetrain]

theorem doOpPortHoldSet_stands (c : CmdRef) (io : Io) (d : Dev) :
    Stand [.bal, .plc, .otp, .boot, .reg, .tmu, .pse, .rle, .lrn, .fcps, .esc, .cvu] d (doOpPortHoldSet c io d) := by
  refine .step1 fun x => ?_
  dsimp only
  split
  · simp [Stand, Area.same]
  · refine .ok (.foldlSnd (fun a q => ?_) _ (false, d)) _ _ _ _
    repeat' split
    all_goals simp [Stand, Area.same]

theorem doLinkUp_stands (port : Nat) (d : Dev) :
    Stand [.bal, .plc, .otp, .boot, .reg, .tmu, .pse, .rle, .lrn, .fcps, .esc, .cvu] d (doLinkUp port d) := by
  unfold doLinkUp
  dsimp only
  split
  · exact .refl ..
  · split <;> simp [Stand, Area.same]

theorem doSofPreIndication_stands (port : Nat) (frame : List Byte) (d : Dev) :
    Stand [.bal, .hif, .plc, .evr, .otp, .boot, .reg, .tmu, .pse, .rle, .lrn, .dp, .swc, .bpm, .fcps, .spw, .esc, .mrp, .cvu,
      .freeSeq, .out] d
      (doSofPreIndication port frame d) := by
  simp [Stand, Area.same, doSofPreIndication]

theorem doLinkLossDeclared_stands (port cause lane : Nat) (held : Bool) (d : Dev) :
    Stand [.plc, .otp, .boot, .reg, .pse, .rle, .lrn, .fcps, .esc, .cvu] d (doLinkLossDeclared port cause lane held d) := by
  unfold doLinkLossDeclared
  extract_lets l d1
  split
  · exact .refl ..
  · split
    · split <;> simp [Stand, Area.same]
    · have h1 : Stand [.plc, .otp, .boot, .reg, .pse, .rle, .lrn, .fcps, .esc, .cvu] d d1 := by
        unfold d1
        split <;> simp [Stand, Area.same]
      exact .trans h1 (by simp +zetaDelta [Stand, Area.same])

theorem doHoldExpiry_stands (port : Nat) (d : Dev) :
    Stand [.plc, .otp, .boot, .reg, .pse, .rle, .lrn, .fcps, .esc, .cvu] d (doHoldExpiry port d) := by
  simp [Stand, Area.same, doHoldExpiry]

theorem doRealignTimeout_stands (port : Nat) (d : Dev) :
    Stand [.hif, .plc, .fcr, .evr, .otp, .boot, .reg, .pipes, .pse, .rle, .lrn, .dp, .swc, .bpm, .fcps, .spw, .esc, .mrp, .cvu,
      .ctrs, .freeSeq, .out] d
      (doRealignTimeout port d) := by
  simp [Stand, Area.same, doRealignTimeout]

theorem doTrainingRestart_stands (port : Nat) (d : Dev) :
    Stand [.hif, .plc, .fcr, .evr, .otp, .boot, .reg, .pipes, .pse, .rle, .lrn, .dp, .swc, .bpm, .fcps, .spw, .esc, .mrp, .cvu,
      .ctrs, .freeSeq, .out] d
      (doTrainingRestart port d) := by
  unfold doTrainingRestart
  repeat' split
  all_goals simp [Stand, Area.same]

theorem doTrainingTimeout_stands (port phase : Nat) (d : Dev) :
    Stand [.hif, .plc, .fcr, .otp, .boot, .reg, .pipes, .pse, .rle, .lrn, .dp, .swc, .bpm, .fcps, .spw, .esc, .mrp, .cvu,
      .freeSeq, .out] d
      (doTrainingTimeout port phase d) := by
  simp [Stand, Area.same, doTrainingTimeout]

theorem doMacroPowerUpDone_stands (octal failed : Nat) (d : Dev) :
    Stand [.bal, .hif, .plc, .fcr, .otp, .boot, .reg, .pipes, .tmu, .pse, .rle, .lrn, .dp, .swc, .bpm, .fcps, .spw, .esc, .mrp,
      .cvu, .freeSeq, .out] d
      (doMacroPowerUpDone octal failed d) := by
  simp [Stand, Area.same, doMacroPowerUpDone]

theorem doAdaptationSlice_stands (engine : Nat) (d : Dev) :
    Stand [.bal, .hif, .plc, .fcr, .evr, .otp, .boot, .pipes, .tmu, .pte, .pse, .rle, .lrn, .dp, .swc, .bpm, .fcps, .spw, .esc,
      .mrp, .cvu, .ctrs, .freeSeq, .out] d
      (doAdaptationSlice engine d) := by
  simp [Stand, Area.same, doAdaptationSlice]

theorem doPipelineSleepEntry_stands (pipe : Nat) (d : Dev) :
    Stand [.hif, .plc, .fcr, .evr, .otp, .boot, .reg, .pte, .pse, .rle, .lrn, .dp, .swc, .bpm, .fcps, .spw, .esc, .mrp, .cvu,
      .ctrs, .freeSeq, .out] d
      (doPipelineSleepEntry pipe d) := by
  simp [Stand, Area.same, doPipelineSleepEntry]

theorem doPipelineWake_stands (pipe : Nat) (late : Bool) (d : Dev) :
    Stand [.bal, .hif, .plc, .evr, .otp, .boot, .reg, .tmu, .pte, .pse, .rle, .lrn, .dp, .swc, .bpm, .fcps, .spw, .esc, .mrp,
      .cvu, .ctrs, .freeSeq, .out] d
      (doPipelineWake pipe late d) := by
  simp [Stand, Area.same, doPipelineWake]

theorem doAnMismatch_stands (port page : Nat) (d : Dev) :
    Stand [.bal, .hif, .plc, .fcr, .otp, .boot, .reg, .pipes, .tmu, .pte, .pse, .rle, .lrn, .dp, .swc, .bpm, .fcps, .spw, .esc,
      .mrp, .cvu, .freeSeq, .out] d
      (doAnMismatch port page d) := by
  simp [Stand, Area.same, doAnMismatch]

theorem doOpTimeSetSet_stands (c : CmdRef) (io : Io) (d : Dev) :
    Stand [.bal, .plc, .otp, .boot, .reg, .pipes, .pte, .pse, .rle, .lrn, .dp, .swc, .bpm, .fcps, .spw, .cvu, .freeSeq] d
      (doOpTimeSetSet c io d) := by
  simp [Stand, Area.same, doOpTimeSetSet]

theorem doOpTimeSetStep_stands (c : CmdRef) (io : Io) (d : Dev) :
    Stand [.bal, .plc, .otp, .boot, .reg, .pipes, .pte, .pse, .rle, .lrn, .dp, .swc, .bpm, .fcps, .spw, .cvu, .freeSeq] d
      (doOpTimeSetStep c io d) := by
  simp [Stand, Area.same, doOpTimeSetStep]

theorem doPpsInEdge_stands (d : Dev) :
    Stand [.bal, .plc, .otp, .boot, .reg, .pipes, .pte, .pse, .rle, .lrn, .dp, .swc, .bpm, .fcps, .spw, .cvu, .freeSeq] d
      (doPpsInEdge d) := by
  unfold doPpsInEdge
  split
  · exact .refl ..
  · refine .setTmu (.trans ?_ (.foldl (fun d a => ?_) _ _)) _
    · simp [Stand, Area.same]
    · dsimp only
      repeat' split
      all_goals simp [Stand, Area.same]

theorem doGlMrpCfgWrite_stands (ep : Nat) (v : Word) (d : Dev) :
    Stand [.bal, .plc, .otp, .boot, .reg, .pipes, .pte, .pse, .rle, .lrn, .dp, .swc, .bpm, .fcps, .spw, .cvu, .freeSeq] d
      (doGlMrpCfgWrite ep v d) := by
  simp [Stand, Area.same, doGlMrpCfgWrite]

theorem doOpTimeSetFreq_stands (c : CmdRef) (io : Io) (d : Dev) :
    Stand [.bal, .plc, .fcr, .evr, .otp, .boot, .reg, .pipes, .pte, .pse, .rle, .lrn, .dp, .swc, .bpm, .fcps, .spw, .esc, .mrp,
      .cvu, .ctrs, .freeSeq, .out] d
      (doOpTimeSetFreq c io d) := by
  simp [Stand, Area.same, doOpTimeSetFreq]

theorem doOpTimeSetSlew_stands (c : CmdRef) (io : Io) (d : Dev) :
    Stand [.bal, .plc, .fcr, .evr, .otp, .boot, .reg, .pipes, .pte, .pse, .rle, .lrn, .dp, .swc, .bpm, .fcps, .spw, .esc, .mrp,
      .cvu, .ctrs, .freeSeq, .out] d
      (doOpTimeSetSlew c io d) := by
  simp [Stand, Area.same, doOpTimeSetSlew]

theorem doPpsOutEdge_stands (d : Dev) :
    Stand [.hif, .plc, .fcr, .evr, .otp, .boot, .reg, .pipes, .pte, .pse, .rle, .lrn, .dp, .swc, .bpm, .fcps, .spw, .esc, .mrp,
      .cvu, .ctrs, .freeSeq] d
      (doPpsOutEdge d) := by
  simp [Stand, Area.same, doPpsOutEdge]

theorem doAtPpsTimeout_stands (d : Dev) :
    Stand [.plc, .fcr, .evr, .otp, .boot, .reg, .pipes, .pte, .pse, .rle, .lrn, .dp, .swc, .bpm, .fcps, .spw, .esc, .mrp, .cvu,
      .ctrs, .freeSeq, .out] d
      (doAtPpsTimeout d) := by
  unfold doAtPpsTimeout
  dsimp only
  repeat' split
  all_goals simp [Stand, Area.same]

theorem doTimeRefLoss_stands (d : Dev) :
    Stand [.bal, .hif, .plc, .evr, .otp, .boot, .reg, .pipes, .pte, .pse, .rle, .lrn, .dp, .swc, .bpm, .fcps, .spw, .esc, .mrp,
      .cvu, .ctrs, .freeSeq, .out] d
      (doTimeRefLoss d) := by
  simp [Stand, Area.same, doTimeRefLoss]

theorem doTimeRefReturn_stands (d : Dev) :
    Stand [.bal, .hif, .plc, .evr, .otp, .boot, .reg, .pipes, .pte, .pse, .rle, .lrn, .dp, .swc, .bpm, .fcps, .spw, .esc, .mrp,
      .cvu, .ctrs, .freeSeq, .out] d
      (doTimeRefReturn d) := by
  simp [Stand, Area.same, doTimeRefReturn]

theorem doSlewComplete_stands (d : Dev) :
    Stand [.hif, .plc, .fcr, .evr, .otp, .boot, .reg, .pipes, .pte, .pse, .rle, .lrn, .dp, .swc, .bpm, .fcps, .spw, .esc, .mrp,
      .cvu, .ctrs, .freeSeq, .out] d
      (doSlewComplete d) := by
  simp [Stand, Area.same, doSlewComplete]

theorem doCvuDataWrite_stands (who : CvuParty) (ctx enables : Nat) (v : Word) (d : Dev) :
    Stand [.bal, .plc, .fcr, .evr, .otp, .boot, .reg, .pipes, .tmu, .pte, .pse, .rle, .lrn, .dp, .swc, .bpm, .fcps, .spw, .esc,
      .mrp, .freeSeq, .out] d
      (doCvuDataWrite who ctx enables v d) := by
  unfold doCvuDataWrite
  repeat' split
  all_goals simp [Stand, Area.same]

theorem doCvuStart_stands (who : CvuParty) (ctx : Nat) (v : Word) (d : Dev) :
    Stand [.bal, .plc, .evr, .otp, .boot, .reg, .pipes, .tmu, .pte, .pse, .rle, .lrn, .dp, .swc, .bpm, .fcps, .spw, .esc, .mrp,
      .freeSeq, .out] d
      (doCvuStart who ctx v d) := by
  simp [Stand, Area.same, doCvuStart]

theorem doCvuCompare_stands (who : CvuParty) (ctx : Nat) (v : Word) (d : Dev) :
    Stand [.bal, .plc, .evr, .otp, .boot, .reg, .pipes, .tmu, .pte, .pse, .rle, .lrn, .dp, .swc, .bpm, .fcps, .spw, .esc, .mrp,
      .freeSeq, .out] d
      (doCvuCompare who ctx v d) := by
  simp [Stand, Area.same, doCvuCompare]

theorem doCvuSlice_stands (check : Ecc) (d : Dev) :
    Stand [.bal, .hif, .plc, .otp, .boot, .reg, .pipes, .tmu, .pte, .pse, .rle, .lrn, .dp, .swc, .bpm, .fcps, .spw, .esc, .mrp,
      .freeSeq, .out] d
      (doCvuSlice check d) := by
  unfold doCvuSlice
  split
  · exact .refl ..
  · dsimp only
    split
    next h => simp [Stand, Area.same, Dev.cvuSlice_frame d h]
    · simp [Stand, Area.same]

end Sys2Proof.Machine
end

section
/-! PROOFS. The parts that stand over the rows of boot, stores, modes, clocks, supplies and temperature (17, 18, 19). -/
namespace Sys2Proof.Machine

theorem doOpAttestReport_stands (c : CmdRef) (io : Io) (d : Dev) :
    Stand [.bal, .plc, .fcr, .otp, .reg, .pipes, .tmu, .pte, .pse, .rle, .lrn, .dp, .swc, .bpm, .fcps, .spw, .esc, .mrp, .cvu,
      .freeSeq] d
      (doOpAttestReport c io d) := by
  simp [Stand, Area.same, doOpAttestReport]

theorem doOpAttestCert_stands (c : CmdRef) (io : Io) (d : Dev) :
    Stand [.bal, .plc, .fcr, .otp, .boot, .reg, .pipes, .tmu, .pte, .pse, .rle, .lrn, .dp, .swc, .bpm, .fcps, .spw, .esc, .mrp,
      .cvu, .freeSeq] d
      (doOpAttestCert c io d) := by
  refine .step1 fun x => ?_
  dsimp only
  repeat' split
  all_goals simp [Stand, Area.same]

theorem doOpModeSetDevice_stands (c : CmdRef) (io : Io) (d : Dev) :
    Stand [.plc, .otp, .cvu] d (doOpModeSetDevice c io d) := by
  refine .step1 fun x => ?_
  dsimp only
  repeat' split
  all_goals simp [Stand, Area.same]

theorem doSysRstN_stands (d : Dev) :
    Stand [.plc, .otp, .cvu] d (doSysRstN d) := by
  simp [Stand, Area.same, doSysRstN]

theorem doCorePllLockTimeout_stands (d : Dev) :
    Stand [.plc, .otp, .cvu] d (doCorePllLockTimeout d) := by
  simp [Stand, Area.same, doCorePllLockTimeout]

theorem doDrainComplete_stands (d : Dev) :
    Stand [.plc, .otp, .cvu] d (doDrainComplete d) := by
  simp [Stand, Area.same, doDrainComplete]

theorem doDrainLimitExpiry_stands (d : Dev) :
    Stand [.plc, .otp, .cvu] d (doDrainLimitExpiry d) := by
  simp [Stand, Area.same, doDrainLimitExpiry]

theorem doLoadStart_stands (flash : List Byte) (d : Dev) :
    Stand [.plc, .otp, .cvu] d (doLoadStart flash d) := by
  simp [Stand, Area.same, doLoadStart]

theorem doGlBootCtrlGo_stands (ep : Nat) (d : Dev) :
    Stand [.plc, .otp, .cvu] d (doGlBootCtrlGo ep d) := by
  simp [Stand, Area.same, doGlBootCtrlGo]

theorem doImageRejected_stands (src cause version : Nat) (d : Dev) :
    Stand [.plc, .otp, .cvu] d (doImageRejected src cause version d) := by
  simp [Stand, Area.same, doImageRejected]

theorem doThermalTrip_stands (temps : List Nat) (d : Dev) :
    Stand [.plc, .otp, .cvu] d (doThermalTrip temps d) := by
  simp [Stand, Area.same, doThermalTrip]

theorem doOpStoreReload_stands (c : CmdRef) (io : Io) (d : Dev) :
    Stand [.bal, .plc, .otp, .tmu, .pte, .pse, .rle, .lrn, .dp, .swc, .bpm, .spw, .esc, .mrp, .cvu, .freeSeq, .out] d
      (doOpStoreReload c io d) := by
  unfold doOpStoreReload
  refine .trans ?_ (Dev.endedSweep_stands _)
  refine .step1 fun x => ?_
  extract_lets kind i src fails
  have hfails (d : Dev) (k : Nat) : Stand [.bal, .plc, .otp, .tmu, .pte, .pse, .rle, .lrn, .dp, .swc, .bpm, .spw, .esc, .mrp,
      .cvu, .freeSeq, .out] d (fails d k) := by
    unfold fails
    dsimp only
    split <;> simp [Stand, Area.same]
  split
  · split
    · simp [Stand, Area.same]
    · refine .trans (b := { d with boot := { d.boot with reloading := some (c.ep, c.ring, c.pos.toNat, kind, i, d.bal.tick) } })
        (by simp [Stand, Area.same]) ?_
      split
      · exact hfails _ _
      · refine iteInduction (motive := Stand _ _) (fun _ => hfails _ _) fun _ => ?_
        split
        · exact hfails _ _
        · refine iteInduction (motive := Stand _ _) (fun _ => hfails _ _) fun _ => ?_
          split
          · exact hfails _ _
          · simp +zetaDelta [Stand, Area.same]
  · split
    · exact hfails _ _
    · split
      · exact hfails _ _
      · simp [Stand, Area.same]
  · exact .refl ..

theorem doPorNDeassert_stands (straps broken : List Nat) (d : Dev) :
    Stand [.hif, .otp, .reg, .pipes, .tmu, .pte, .pse, .rle, .lrn, .dp, .swc, .bpm, .fcps, .spw, .esc, .mrp, .cvu, .out] d
      (doPorNDeassert straps broken d) := by
  unfold doPorNDeassert
  split
  · exact .refl ..
  · dsimp only
    split <;> simp [Stand, Area.same]

theorem doPorNAssert_stands (d : Dev) :
    Stand [.otp, .freeSeq, .out] d (doPorNAssert d) := by
  simp [Stand, Area.same, doPorNAssert]

theorem doImageLoadAccepted_stands (src : Nat) (img : List Byte) (tables : ImageTables) (fuseBad : Bool) (d : Dev) :
    Stand [.plc] d (doImageLoadAccepted src img tables fuseBad d) := by
  unfold doImageLoadAccepted
  generalize layout115 = layout
  split
  · exact .refl ..
  · split
    · simp [Stand, Area.same]
    · extract_lets man m ss
      split
      · split
        · exact .refl ..
        · simp +zetaDelta [Stand, Area.same, doPowerOnScanDone]
      · exact .refl ..

theorem doCorePllLockLoss_stands (d : Dev) :
    Stand [.hif, .plc, .evr, .otp, .boot, .reg, .pipes, .tmu, .pte, .pse, .rle, .lrn, .dp, .swc, .bpm, .fcps, .spw, .esc, .mrp,
      .cvu, .ctrs, .freeSeq, .out] d
      (doCorePllLockLoss d) := by
  simp [Stand, Area.same, doCorePllLockLoss]

theorem doRef100Loss_stands (d : Dev) :
    Stand [.hif, .plc, .evr, .otp, .boot, .reg, .pipes, .tmu, .pte, .pse, .rle, .lrn, .dp, .swc, .bpm, .fcps, .spw, .esc, .mrp,
      .cvu, .ctrs, .freeSeq, .out] d
      (doRef100Loss d) := by
  simp [Stand, Area.same, doRef100Loss]

theorem doRef100Return_stands (d : Dev) :
    Stand [.hif, .plc, .evr, .otp, .boot, .reg, .pipes, .tmu, .pte, .pse, .rle, .lrn, .dp, .swc, .bpm, .fcps, .spw, .esc, .mrp,
      .cvu, .ctrs, .freeSeq, .out] d
      (doRef100Return d) := by
  simp [Stand, Area.same, doRef100Return]

theorem doSerdesRefLoss_stands (d : Dev) :
    Stand [.hif, .plc, .evr, .otp, .boot, .reg, .pipes, .tmu, .pte, .pse, .rle, .lrn, .dp, .swc, .bpm, .fcps, .spw, .esc, .mrp,
      .cvu, .ctrs, .freeSeq, .out] d
      (doSerdesRefLoss d) := by
  simp [Stand, Area.same, doSerdesRefLoss]

theorem doSerdesRefReturn_stands (d : Dev) :
    Stand [.hif, .plc, .evr, .otp, .boot, .reg, .pipes, .tmu, .pte, .pse, .rle, .lrn, .dp, .swc, .bpm, .fcps, .spw, .esc, .mrp,
      .cvu, .ctrs, .freeSeq, .out] d
      (doSerdesRefReturn d) := by
  simp [Stand, Area.same, doSerdesRefReturn]

theorem doMgmtPllLockLoss_stands (d : Dev) :
    Stand [.hif, .plc, .evr, .otp, .boot, .reg, .pipes, .tmu, .pte, .pse, .rle, .lrn, .dp, .swc, .bpm, .fcps, .spw, .esc, .mrp,
      .cvu, .ctrs, .freeSeq, .out] d
      (doMgmtPllLockLoss d) := by
  simp [Stand, Area.same, doMgmtPllLockLoss]

theorem doThermNCrossing_stands (temps : List Nat) (d : Dev) :
    Stand [.hif, .plc, .evr, .otp, .boot, .reg, .pipes, .tmu, .pte, .pse, .rle, .lrn, .dp, .swc, .bpm, .fcps, .spw, .esc, .mrp,
      .cvu, .ctrs, .freeSeq, .out] d
      (doThermNCrossing temps d) := by
  simp [Stand, Area.same, doThermNCrossing]

theorem doCalibrationPass_stands (temps : List Nat) (d : Dev) :
    Stand [.hif, .plc, .evr, .otp, .boot, .reg, .pipes, .tmu, .pte, .pse, .rle, .lrn, .dp, .swc, .bpm, .fcps, .spw, .esc, .mrp,
      .cvu, .ctrs, .freeSeq, .out] d
      (doCalibrationPass temps d) := by
  simp [Stand, Area.same, doCalibrationPass]

theorem doMemMarginBroken_stands (mem core : Nat) (d : Dev) :
    Stand [.hif, .plc, .evr, .otp, .boot, .reg, .pipes, .tmu, .pte, .pse, .rle, .lrn, .dp, .swc, .bpm, .fcps, .spw, .esc, .mrp,
      .cvu, .ctrs, .freeSeq, .out] d
      (doMemMarginBroken mem core d) := by
  simp [Stand, Area.same, doMemMarginBroken]

theorem doAvsWrite_stands (mv : Nat) (confirm : Bool) (d : Dev) :
    Stand [.hif, .plc, .fcr, .evr, .otp, .boot, .reg, .pipes, .tmu, .pte, .pse, .rle, .lrn, .dp, .swc, .bpm, .fcps, .spw, .esc,
      .mrp, .cvu, .ctrs, .freeSeq] d
      (doAvsWrite mv confirm d) := by
  simp [Stand, Area.same, doAvsWrite]

theorem doAvsConfirmTimeout_stands (d : Dev) :
    Stand [.hif, .plc, .evr, .otp, .boot, .reg, .pipes, .pte, .pse, .rle, .lrn, .dp, .swc, .bpm, .fcps, .spw, .esc, .mrp, .cvu,
      .ctrs, .freeSeq, .out] d
      (doAvsConfirmTimeout d) := by
  simp [Stand, Area.same, doAvsConfirmTimeout]

theorem doRegulatorTrap_stands (r word kind : Nat) (d : Dev) :
    Stand [.bal, .hif, .plc, .otp, .boot, .pipes, .tmu, .pte, .pse, .rle, .lrn, .dp, .swc, .bpm, .fcps, .spw, .esc, .mrp, .cvu,
      .freeSeq, .out] d
      (doRegulatorTrap r word kind d) := by
  simp [Stand, Area.same, doRegulatorTrap]

theorem doRegulatorStoreUe_stands (adp : Bool) (i word : Nat) (lasting : Bool) (d : Dev) :
    Stand [.bal, .hif, .plc, .otp, .boot, .pipes, .tmu, .pte, .pse, .rle, .lrn, .dp, .swc, .bpm, .fcps, .spw, .esc, .mrp, .cvu,
      .freeSeq, .out] d
      (doRegulatorStoreUe adp i word lasting d) := by
  simp [Stand, Area.same, doRegulatorStoreUe]

theorem doRailOutOfTolerance_stands (rail mv : Nat) (d : Dev) :
    Stand [.hif, .plc, .otp, .boot, .reg, .pipes, .tmu, .pte, .pse, .rle, .lrn, .dp, .swc, .bpm, .fcps, .spw, .esc, .mrp, .cvu,
      .freeSeq, .out] d
      (doRailOutOfTolerance rail mv d) := by
  unfold doRailOutOfTolerance
  dsimp only
  repeat' split
  all_goals simp [Stand, Area.same]

theorem doOpModeSetPolder_stands (c : CmdRef) (io : Io) (d : Dev) :
    Stand [.bal, .evr, .otp, .boot, .reg, .pipes, .tmu, .pse, .rle, .lrn, .dp, .swc, .bpm, .spw, .esc, .mrp, .cvu, .ctrs,
      .freeSeq, .out] d
      (doOpModeSetPolder c io d) := by
  refine .step1 fun x => ?_
  dsimp only
  repeat' split
  all_goals simp [Stand, Area.same]

end Sys2Proof.Machine
end

section
/-! PROOFS. The table of rows and the parts that each may change, and the frames of the statements. -/
namespace Sys2Proof.Machine

/-- The parts of the device that a row may change (O43 to O50 of the statements). -/
def rowAreas : Instr → List Area
  | .opNop .. | .opFence .. | .opGenStatus .. | .opLedgerExportSetRead .. | .opMeterSetWeirRead .. | .opPoolSetRead ..
  | .opSpillSetReadQueue .. | .opSpillSetReadLr .. | .opFaultConfigRead .. | .opLogRateSetRead .. | .opPortStateRead ..
  | .opTimeCapture .. | .commandDispatch | .epResyncGo .. | .epGaugeRingWrite .. =>
    [.hif]
  | .opAbort .. | .opStoreReload .. =>
    [.hif, .fcr, .evr, .boot, .reg, .pipes, .fcps, .ctrs]
  | .opSurvey .. | .opTableRead .. | .opTableSearch .. | .opTableAudit .. | .opTableScan .. | .opGaugeSetRead ..
  | .opFaultConfigHistory .. | .opFaultConfigLatched .. | .descriptorFetch .. | .completionWrite .. | .msixMessage ..
  | .msixUnmask .. | .epVecMapWrite .. =>
    [.hif, .out]
  | .opAttestReport .. =>
    [.hif, .evr, .boot, .ctrs, .out]
  | .opAttestCert .. | .resyncDone .. =>
    [.hif, .evr, .ctrs, .out]
  | .opModeSetDevice .. | .sysRstN | .loadStart .. | .glBootCtrlGo .. | .imageRejected .. | .corePllLockTimeout
  | .thermalTrip .. | .drainComplete | .drainLimitExpiry =>
    [.bal, .hif, .fcr, .evr, .boot, .reg, .pipes, .tmu, .pte, .pse, .rle, .lrn, .dp, .swc, .bpm, .fcps, .spw, .esc, .mrp,
      .ctrs, .freeSeq, .out]
  | .opModeSetPolder .. =>
    [.hif, .plc, .fcr, .pte, .fcps]
  | .opTableWrite .. | .opTableBulk .. =>
    [.hif, .fcr, .pipes, .pse, .rle, .lrn]
  | .opTableDelete .. =>
    [.hif, .fcr, .rle, .lrn]
  | .opGenOpen .. | .opGenCommit .. | .opGenDiscard .. =>
    [.hif, .evr, .rle, .ctrs]
  | .opCounterRead .. | .combinedUpdate .. =>
    [.hif, .fcr, .evr, .mrp, .ctrs, .out]
  | .opCounterClear .. =>
    [.hif, .ctrs]
  | .opLedgerConfig .. | .opLedgerExportSetSet .. | .opLedgerExportSetFlush .. | .opMeterSetWeirDelete ..
  | .opMeterSetRuleSet .. | .opMeterSetRuleDelete .. | .epMrpRingConsWrite .. =>
    [.hif, .mrp]
  | .opMeterSetWeirSet .. =>
    [.hif, .fcr, .mrp]
  | .opSchedSetSet .. | .opSchedSetSetMc .. | .opShaperSetSet .. | .opTideTableSetDisable .. =>
    [.hif, .pipes, .esc]
  | .opSchedSetRead .. | .opShaperSetRead .. =>
    [.hif, .pipes]
  | .opTideTableSetSet .. =>
    [.hif, .fcr, .pipes, .esc]
  | .opTideTableSetRead .. =>
    [.hif, .pipes, .out]
  | .opGaugeSetSet .. =>
    [.hif, .esc]
  | .opGaugeSetArchiveRead .. | .opLogRead .. | .recordAdmit .. | .holdingFifoDrain .. | .endpointUp .. =>
    [.hif, .fcr, .evr, .ctrs, .out]
  | .opPoolSetSet .. | .opHeadroomSet .. =>
    [.hif, .fcr, .bpm, .ctrs]
  | .opPoolSetRelease .. =>
    [.hif, .fcr, .evr, .bpm, .ctrs]
  | .opPfcSet .. =>
    [.hif, .fcr, .fcps, .ctrs, .out]
  | .opSpillSetQueue .. =>
    [.hif, .dp]
  | .opSpillSetLongReach .. | .glSpwMapWrite .. =>
    [.hif, .spw]
  | .opFaultConfigSet .. | .opFaultAck .. | .opFaultClear .. | .commandRingDoorbell .. | .completionRingDoorbell ..
  | .receiveQueueDoorbell .. | .transmitQueueDoorbell .. | .strayDoorbell .. | .commandCommit .. =>
    [.hif, .fcr, .evr, .ctrs]
  | .opLogFreeze .. | .opLogThaw .. =>
    [.hif, .evr, .ctrs]
  | .opLogRateSetSet .. =>
    [.hif, .evr]
  | .opPolderDefineDefine .. | .opPolderDefineModify .. =>
    [.hif, .plc, .fcr, .evr, .pte, .bpm, .fcps, .mrp, .ctrs, .out]
  | .opPolderDefineUndefine .. =>
    [.hif, .plc, .fcr, .evr, .pipes, .pte, .pse, .rle, .lrn, .dp, .swc, .bpm, .fcps, .spw, .esc, .mrp, .ctrs, .freeSeq, .out]
  | .opSluiceSet .. =>
    [.hif, .plc]
  | .opWardenHandover .. =>
    [.hif, .plc, .evr, .ctrs, .freeSeq]
  | .opPortConfig .. =>
    [.hif, .fcr, .pte, .pse, .bpm, .fcps, .spw, .esc, .ctrs, .out]
  | .opPortStateAdminUp .. =>
    [.hif, .fcr, .evr, .pte, .ctrs]
  | .opPortStateAdminDown .. =>
    [.hif, .fcr, .evr, .pipes, .pte, .dp, .swc, .bpm, .spw, .esc, .mrp, .ctrs, .freeSeq, .out]
  | .opPortStateRetrain .. | .opPortHoldSet .. | .linkUp .. | .queueFlushDone .. =>
    [.hif, .fcr, .evr, .pipes, .pte, .dp, .swc, .bpm, .spw, .mrp, .ctrs, .freeSeq, .out]
  | .opTimeSetSet .. | .opTimeSetStep .. | .ppsInEdge | .glMrpCfgWrite .. =>
    [.hif, .fcr, .evr, .tmu, .esc, .mrp, .ctrs, .out]
  | .opTimeSetFreq .. | .opTimeSetSlew .. =>
    [.hif, .tmu]
  | .opDiagLoopback .. =>
    [.bal, .hif, .fcr, .pte]
  | .opDiagBist .. =>
    [.hif, .boot, .rle, .lrn, .dp, .swc, .bpm, .esc, .mrp, .ctrs]
  | .opDiagPrbsStart .. =>
    [.bal, .hif]
  | .opDiagPrbsRead .. | .opDiagPrbsStop .. =>
    [.bal, .hif, .freeSeq]
  | .descriptorFetchReturn .. =>
    [.hif, .fcr, .evr, .cvu, .ctrs]
  | .endpointDown .. =>
    [.hif, .fcr, .evr, .boot, .reg, .pipes, .tmu, .dp, .swc, .bpm, .fcps, .mrp, .ctrs, .freeSeq, .out]
  | .epCrCfgWrite .. | .epCqCfgWrite .. | .ringDisableDone .. | .glCmdArbWrite .. =>
    [.hif, .fcr]
  | .epRxqCfgWrite .. | .rxFrameDelivery .. | .cellArrivalEgress .. | .orphanSweepVisit .. | .planeRemoved .. =>
    [.hif, .fcr, .evr, .pipes, .dp, .swc, .bpm, .mrp, .ctrs, .freeSeq, .out]
  | .epTxqCfgWrite .. =>
    [.hif, .fcr, .out]
  | .rxQueueStarved .. | .reseqGapTimeout .. | .mcCopyHoldDrop .. =>
    [.bal, .hif, .fcr, .evr, .pipes, .tmu, .dp, .swc, .bpm, .mrp, .ctrs, .freeSeq, .out]
  | .txFrameFetch .. =>
    [.hif, .fcr, .pipes, .dp, .out]
  | .msixDelayExpiry .. =>
    [.bal, .hif, .tmu, .out]
  | .sofPreIndication .. =>
    [.fcr, .pipes, .pte, .ctrs]
  | .headerWindowComplete .. =>
    [.hif, .fcr, .evr, .pipes, .pte, .rle, .lrn, .dp, .swc, .bpm, .fcps, .spw, .esc, .mrp, .ctrs, .freeSeq, .out]
  | .frameLastByte .. =>
    [.hif, .fcr, .evr, .pipes, .lrn, .dp, .swc, .bpm, .spw, .mrp, .ctrs, .freeSeq, .out]
  | .cellWriteCrossing .. =>
    [.hif, .fcr, .evr, .pipes, .dp, .swc, .bpm, .fcps, .spw, .mrp, .ctrs, .freeSeq, .out]
  | .writeConfirm .. =>
    [.pipes, .dp, .swc, .bpm, .esc]
  | .confirmTimeout .. =>
    [.bal, .hif, .fcr, .evr, .tmu, .dp, .swc, .bpm, .spw, .mrp, .ctrs, .freeSeq, .out]
  | .dispatchDecision .. =>
    [.hif, .fcr, .evr, .pipes, .rle, .lrn, .dp, .swc, .bpm, .fcps, .spw, .esc, .mrp, .ctrs, .freeSeq, .out]
  | .rewriteLengthCharge .. =>
    [.dp, .esc, .ctrs]
  | .frameTransmitEnd .. | .txUnderrun .. =>
    [.hif, .fcr, .evr, .pipes, .pte, .dp, .swc, .bpm, .esc, .mrp, .ctrs, .freeSeq, .out]
  | .cellRelease .. | .freelistRebuildDone .. =>
    [.fcr, .evr, .bpm, .ctrs]
  | .freeListRefill .. =>
    [.fcr, .bpm]
  | .accountRebuildDone .. =>
    [.fcr, .evr, .bpm, .ctrs, .freeSeq]
  | .holdBusNotice .. =>
    [.pipes, .fcps]
  | .pfcFrameSend .. =>
    [.fcps, .ctrs, .out]
  | .pfcRefresh .. =>
    [.bal, .tmu, .fcps, .ctrs, .out]
  | .pfcFrameReceive .. | .pauseFrameReceive .. =>
    [.fcr, .fcps, .ctrs]
  | .macControlReceive .. =>
    [.ctrs]
  | .pauseTimerExpiry .. =>
    [.bal, .fcr, .pipes, .tmu, .fcps]
  | .pauseStorm .. | .pauseBreakEnd .. =>
    [.bal, .fcr, .evr, .tmu, .fcps, .ctrs]
  | .linkLossDeclared .. | .holdExpiry .. =>
    [.bal, .hif, .fcr, .evr, .pipes, .tmu, .pte, .dp, .swc, .bpm, .spw, .mrp, .ctrs, .freeSeq, .out]
  | .laneRecheck .. =>
    [.bal, .fcr, .evr, .tmu, .pte, .ctrs]
  | .realignTimeout .. | .trainingRestart .. =>
    [.bal, .tmu, .pte]
  | .trainingTimeout .. =>
    [.bal, .evr, .tmu, .pte, .ctrs]
  | .macroPowerUpDone .. =>
    [.evr, .pte, .ctrs]
  | .adaptationSlice .. =>
    [.reg]
  | .pipelineSleepEntry .. =>
    [.bal, .pipes, .tmu]
  | .pipelineWake .. =>
    [.fcr, .pipes]
  | .learnEventPass =>
    [.lrn]
  | .learnEventApply .. =>
    [.hif, .fcr, .evr, .lrn, .ctrs]
  | .learnApplyLag .. | .avsConfirmTimeout | .liveWindowExpiry .. =>
    [.bal, .fcr, .tmu]
  | .relocationMove .. =>
    [.fcr, .rle, .lrn, .ctrs]
  | .agingVisit .. =>
    [.bal, .tmu, .lrn, .ctrs]
  | .glLrnSweepWrite .. =>
    [.hif, .lrn]
  | .genDrainDone =>
    [.evr, .rle, .ctrs]
  | .retirementTimerExpiry =>
    [.bal, .evr, .tmu, .rle, .dp, .ctrs]
  | .syncSweepDone =>
    [.hif, .fcr, .rle]
  | .planeFailure .. | .planeSelfCheck .. =>
    [.bal, .fcr, .evr, .tmu, .swc, .ctrs]
  | .planeRestore .. =>
    [.hif, .swc]
  | .planeBistDone .. =>
    [.fcr, .evr, .swc, .ctrs]
  | .basinWriteComplete .. =>
    [.fcr, .evr, .dp, .bpm, .spw, .ctrs, .freeSeq]
  | .basinReadComplete .. | .segmentWalkerReturn | .cxlPortLoss .. =>
    [.hif, .fcr, .evr, .pipes, .dp, .swc, .bpm, .spw, .mrp, .ctrs, .freeSeq, .out]
  | .lrqReturn .. =>
    [.hif, .fcr, .evr, .pipes, .dp, .swc, .bpm, .spw, .esc, .mrp, .ctrs, .freeSeq, .out]
  | .cxlRestore .. =>
    [.hif, .fcr, .spw]
  | .cxlEnumeration .. =>
    [.spw]
  | .cxlEnumerationDone .. | .basinAudit .. =>
    [.fcr, .evr, .spw, .ctrs]
  | .hbmStackFailure .. =>
    [.fcr, .spw, .esc, .mrp]
  | .shaperRefillSweep .. =>
    [.esc]
  | .shaperWheelFire .. =>
    [.bal, .fcr, .tmu, .esc]
  | .coarseWheelSlot .. | .tideGateChange .. | .gaugeSample .. =>
    [.bal, .tmu, .esc]
  | .tideCctReached .. =>
    [.bal, .evr, .tmu, .esc, .ctrs]
  | .tideListEcc .. =>
    [.fcr, .evr, .esc, .ctrs]
  | .gaugeIntervalEnd .. =>
    [.bal, .hif, .fcr, .tmu, .esc, .ctrs, .out]
  | .epochEnd =>
    [.bal, .fcr, .evr, .tmu, .mrp, .ctrs]
  | .bankFreeze .. =>
    [.bal, .fcr, .tmu, .mrp]
  | .minuteRecordWrite .. =>
    [.hif, .mrp, .ctrs, .out]
  | .ledgerMiss .. | .ledgerWalkerVisit .. =>
    [.fcr, .evr, .mrp, .ctrs]
  | .weirExchange | .weirHoldRelease .. =>
    [.bal, .tmu, .mrp]
  | .ppsOutEdge =>
    [.bal, .tmu, .out]
  | .atPpsTimeout =>
    [.bal, .hif, .tmu]
  | .timeRefLoss | .timeRefReturn =>
    [.fcr, .tmu]
  | .slewComplete =>
    [.bal, .tmu]
  | .faultReport | .graceTimerExpiry .. | .criticalGraceExpiry .. =>
    [.bal, .hif, .plc, .fcr, .evr, .boot, .reg, .pipes, .tmu, .pte, .pse, .rle, .lrn, .dp, .swc, .bpm, .fcps, .spw, .esc,
      .mrp, .ctrs, .freeSeq, .out]
  | .faultRetryResult .. | .persistentPageProgram .. | .flashSectorErase .. | .powerOnScanDone .. =>
    [.fcr, .evr, .ctrs]
  | .tourbillonVisit .. =>
    [.hif, .fcr, .evr, .pipes, .rle, .lrn, .dp, .swc, .bpm, .esc, .mrp, .cvu, .ctrs, .freeSeq, .out]
  | .suppressionSummary .. | .hourmark =>
    [.bal, .evr, .tmu, .ctrs]
  | .logFreezeLimit =>
    [.bal, .fcr, .evr, .tmu, .ctrs]
  | .porNDeassert .. =>
    [.bal, .plc, .fcr, .evr, .boot, .ctrs, .freeSeq]
  | .porNAssert =>
    [.bal, .hif, .plc, .fcr, .evr, .boot, .reg, .pipes, .tmu, .pte, .pse, .rle, .lrn, .dp, .swc, .bpm, .fcps, .spw, .esc,
      .mrp, .cvu, .ctrs]
  | .imageLoadAccepted .. =>
    [.bal, .hif, .fcr, .evr, .otp, .boot, .reg, .pipes, .tmu, .pte, .pse, .rle, .lrn, .dp, .swc, .bpm, .fcps, .spw, .esc,
      .mrp, .cvu, .ctrs, .freeSeq, .out]
  | .corePllLockLoss | .ref100Loss | .thermNCrossing .. | .calibrationPass .. | .ref100Return | .serdesRefLoss
  | .serdesRefReturn | .mgmtPllLockLoss | .memMarginBroken .. =>
    [.bal, .fcr]
  | .avsWrite .. | .tapInstruction .. =>
    [.bal, .out]
  | .regulatorTrap .. | .regulatorStoreUe .. =>
    [.fcr, .evr, .reg, .ctrs]
  | .cvuDataWrite .. =>
    [.hif, .cvu, .ctrs]
  | .cvuStart .. | .cvuCompare .. =>
    [.hif, .fcr, .cvu, .ctrs]
  | .cvuSlice .. =>
    [.fcr, .evr, .cvu, .ctrs]
  | .wideRegisterRead .. =>
    [.hif, .fcr, .evr, .cvu, .ctrs, .freeSeq, .out]
  | .setupRegisterWrite .. =>
    [.bal, .hif, .fcr, .evr, .boot, .reg, .pipes, .tmu, .pte, .pse, .rle, .lrn, .dp, .swc, .bpm, .fcps, .spw, .esc, .mrp,
      .cvu, .ctrs, .freeSeq, .out]
  | .smbusSummary .. | .smbusTempMax .. | .smbusTempAll .. | .smbusRails .. | .smbusIdentity .. | .smbusTokenStatus .. =>
    [.out]
  | .smbusTokenLoad .. =>
    [.plc]
  | .smbusTokenApply .. =>
    [.plc, .evr, .ctrs, .freeSeq]
  | .smbusStallTimeout =>
    []
  | .ledFrame =>
    [.bal, .tmu, .pte, .out]
  | .anMismatch .. =>
    [.evr, .ctrs]
  | .railOutOfTolerance .. =>
    [.bal, .fcr, .evr, .ctrs]

/-- A row changes no part of the device but those that the table gives it, and not the queue. -/
theorem exec_onlyIn {i : Instr} {s t : State} (h : exec i s = .next t) : onlyIn (rowAreas i) s t := by
  cases i with
  | opNop => exact (doOpNop_stands ..).onlyIn h
  | opFence => exact (doOpFence_stands ..).onlyIn h
  | opAbort => exact (doOpAbort_stands ..).onlyIn h
  | opSurvey => exact (doOpSurvey_stands ..).onlyIn h
  | opAttestReport => exact (doOpAttestReport_stands ..).onlyIn h
  | opAttestCert => exact (doOpAttestCert_stands ..).onlyIn h
  | opModeSetDevice => exact (doOpModeSetDevice_stands ..).onlyIn h
  | opModeSetPolder => exact (doOpModeSetPolder_stands ..).onlyIn h
  | opTableWrite => exact (doOpTableWrite_stands ..).onlyIn h
  | opTableRead => exact (doOpTableRead_stands ..).onlyIn h
  | opTableSearch => exact (doOpTableSearch_stands ..).onlyIn h
  | opTableDelete => exact (doOpTableDelete_stands ..).onlyIn h
  | opTableBulk => exact (doOpTableBulk_stands ..).onlyIn h
  | opTableAudit => exact (doOpTableAudit_stands ..).onlyIn h
  | opTableScan => exact (doOpTableScan_stands ..).onlyIn h
  | opGenOpen => exact (doOpGenOpen_stands ..).onlyIn h
  | opGenCommit => exact (doOpGenCommit_stands ..).onlyIn h
  | opGenDiscard => exact (doOpGenDiscard_stands ..).onlyIn h
  | opGenStatus => exact (doOpGenStatus_stands ..).onlyIn h
  | opCounterRead => exact (doOpCounterRead_stands ..).onlyIn h
  | opCounterClear => exact (doOpCounterClear_stands ..).onlyIn h
  | opLedgerConfig => exact (doOpLedgerConfig_stands ..).onlyIn h
  | opLedgerExportSetSet => exact (doOpLedgerExportSetSet_stands ..).onlyIn h
  | opLedgerExportSetRead => exact (doOpLedgerExportSetRead_stands ..).onlyIn h
  | opLedgerExportSetFlush => exact (doOpLedgerExportSetFlush_stands ..).onlyIn h
  | opMeterSetWeirSet => exact (doOpMeterSetWeirSet_stands ..).onlyIn h
  | opMeterSetWeirRead => exact (doOpMeterSetWeirRead_stands ..).onlyIn h
  | opMeterSetWeirDelete => exact (doOpMeterSetWeirDelete_stands ..).onlyIn h
  | opMeterSetRuleSet => exact (doOpMeterSetRuleSet_stands ..).onlyIn h
  | opMeterSetRuleDelete => exact (doOpMeterSetRuleDelete_stands ..).onlyIn h
  | opSchedSetSet => exact (doOpSchedSetSet_stands ..).onlyIn h
  | opSchedSetSetMc => exact (doOpSchedSetSetMc_stands ..).onlyIn h
  | opSchedSetRead => exact (doOpSchedSetRead_stands ..).onlyIn h
  | opShaperSetSet => exact (doOpShaperSetSet_stands ..).onlyIn h
  | opShaperSetRead => exact (doOpShaperSetRead_stands ..).onlyIn h
  | opTideTableSetSet => exact (doOpTideTableSetSet_stands ..).onlyIn h
  | opTideTableSetDisable => exact (doOpTideTableSetDisable_stands ..).onlyIn h
  | opTideTableSetRead => exact (doOpTideTableSetRead_stands ..).onlyIn h
  | opGaugeSetSet => exact (doOpGaugeSetSet_stands ..).onlyIn h
  | opGaugeSetRead => exact (doOpGaugeSetRead_stands ..).onlyIn h
  | opGaugeSetArchiveRead => exact (doOpGaugeSetArchiveRead_stands ..).onlyIn h
  | opPoolSetSet => exact (doOpPoolSetSet_stands ..).onlyIn h
  | opPoolSetRead => exact (doOpPoolSetRead_stands ..).onlyIn h
  | opPoolSetRelease => exact (doOpPoolSetRelease_stands ..).onlyIn h
  | opHeadroomSet => exact (doOpHeadroomSet_stands ..).onlyIn h
  | opPfcSet => exact (doOpPfcSet_stands ..).onlyIn h
  | opSpillSetQueue => exact (doOpSpillSetQueue_stands ..).onlyIn h
  | opSpillSetLongReach => exact (doOpSpillSetLongReach_stands ..).onlyIn h
  | opSpillSetReadQueue => exact (doOpSpillSetReadQueue_stands ..).onlyIn h
  | opSpillSetReadLr => exact (doOpSpillSetReadLr_stands ..).onlyIn h
  | opFaultConfigSet => exact (doOpFaultConfigSet_stands ..).onlyIn h
  | opFaultConfigRead => exact (doOpFaultConfigRead_stands ..).onlyIn h
  | opFaultConfigHistory => exact (doOpFaultConfigHistory_stands ..).onlyIn h
  | opFaultConfigLatched => exact (doOpFaultConfigLatched_stands ..).onlyIn h
  | opFaultAck => exact (doOpFaultAck_stands ..).onlyIn h
  | opFaultClear => exact (doOpFaultClear_stands ..).onlyIn h
  | opLogRead => exact (doOpLogRead_stands ..).onlyIn h
  | opLogFreeze => exact (doOpLogFreeze_stands ..).onlyIn h
  | opLogThaw => exact (doOpLogThaw_stands ..).onlyIn h
  | opLogRateSetSet => exact (doOpLogRateSetSet_stands ..).onlyIn h
  | opLogRateSetRead => exact (doOpLogRateSetRead_stands ..).onlyIn h
  | opPolderDefineDefine => exact (doOpPolderDefineDefine_stands ..).onlyIn h
  | opPolderDefineModify => exact (doOpPolderDefineModify_stands ..).onlyIn h
  | opPolderDefineUndefine => exact (doOpPolderDefineUndefine_stands ..).onlyIn h
  | opSluiceSet => exact (doOpSluiceSet_stands ..).onlyIn h
  | opWardenHandover => exact (doOpWardenHandover_stands ..).onlyIn h
  | opPortConfig => exact (doOpPortConfig_stands ..).onlyIn h
  | opPortStateRead => exact (doOpPortStateRead_stands ..).onlyIn h
  | opPortStateAdminUp => exact (doOpPortStateAdminUp_stands ..).onlyIn h
  | opPortStateAdminDown => exact (doOpPortStateAdminDown_stands ..).onlyIn h
  | opPortStateRetrain => exact (doOpPortStateRetrain_stands ..).onlyIn h
  | opPortHoldSet => exact (doOpPortHoldSet_stands ..).onlyIn h
  | opTimeSetSet => exact (doOpTimeSetSet_stands ..).onlyIn h
  | opTimeSetStep => exact (doOpTimeSetStep_stands ..).onlyIn h
  | opTimeSetFreq => exact (doOpTimeSetFreq_stands ..).onlyIn h
  | opTimeSetSlew => exact (doOpTimeSetSlew_stands ..).onlyIn h
  | opTimeCapture => exact (doOpTimeCapture_stands ..).onlyIn h
  | opStoreReload => exact (doOpStoreReload_stands ..).onlyIn h
  | opDiagLoopback => exact (doOpDiagLoopback_stands ..).onlyIn h
  | opDiagBist => exact (doOpDiagBist_stands ..).onlyIn h
  | opDiagPrbsStart => exact (doOpDiagPrbsStart_stands ..).onlyIn h
  | opDiagPrbsRead => exact (doOpDiagPrbsRead_stands ..).onlyIn h
  | opDiagPrbsStop => exact (doOpDiagPrbsStop_stands ..).onlyIn h
  | commandRingDoorbell => exact (doCommandRingDoorbell_stands ..).onlyIn h
  | completionRingDoorbell => exact (doCompletionRingDoorbell_stands ..).onlyIn h
  | receiveQueueDoorbell => exact (doReceiveQueueDoorbell_stands ..).onlyIn h
  | transmitQueueDoorbell => exact (doTransmitQueueDoorbell_stands ..).onlyIn h
  | strayDoorbell => exact (doStrayDoorbell_stands ..).onlyIn h
  | descriptorFetch => exact (doDescriptorFetch_stands ..).onlyIn h
  | descriptorFetchReturn => exact (doDescriptorFetchReturn_stands ..).onlyIn h
  | commandDispatch => exact (doCommandDispatch_stands ..).onlyIn h
  | commandCommit => exact (doCommandCommit_stands ..).onlyIn h
  | completionWrite => exact (doCompletionWrite_stands ..).onlyIn h
  | endpointDown => exact (doEndpointDown_stands ..).onlyIn h
  | epCrCfgWrite => exact (doEpCrCfgWrite_stands ..).onlyIn h
  | epCqCfgWrite => exact (doEpCqCfgWrite_stands ..).onlyIn h
  | epRxqCfgWrite => exact (doEpRxqCfgWrite_stands ..).onlyIn h
  | epTxqCfgWrite => exact (doEpTxqCfgWrite_stands ..).onlyIn h
  | ringDisableDone => exact (doRingDisableDone_stands ..).onlyIn h
  | epResyncGo => exact (doEpResyncGo_stands ..).onlyIn h
  | resyncDone => exact (doResyncDone_stands ..).onlyIn h
  | rxFrameDelivery => exact (doRxFrameDelivery_stands ..).onlyIn h
  | rxQueueStarved => exact (doRxQueueStarved_stands ..).onlyIn h
  | txFrameFetch => exact (doTxFrameFetch_stands ..).onlyIn h
  | msixMessage => exact (doMsixMessage_stands ..).onlyIn h
  | msixDelayExpiry => exact (doMsixDelayExpiry_stands ..).onlyIn h
  | msixUnmask => exact (doMsixUnmask_stands ..).onlyIn h
  | sofPreIndication => exact (doSofPreIndication_stands ..).onlyIn h
  | headerWindowComplete => exact (doHeaderWindowComplete_stands ..).onlyIn h
  | frameLastByte => exact (doFrameLastByte_stands ..).onlyIn h
  | cellWriteCrossing => exact (doCellWriteCrossing_stands ..).onlyIn h
  | writeConfirm => exact (doWriteConfirm_stands ..).onlyIn h
  | confirmTimeout => exact (doConfirmTimeout_stands ..).onlyIn h
  | cellArrivalEgress => exact (doCellArrivalEgress_stands ..).onlyIn h
  | reseqGapTimeout => exact (doReseqGapTimeout_stands ..).onlyIn h
  | dispatchDecision => exact (doDispatchDecision_stands ..).onlyIn h
  | rewriteLengthCharge => exact (doRewriteLengthCharge_stands ..).onlyIn h
  | frameTransmitEnd => exact (doFrameTransmitEnd_stands ..).onlyIn h
  | txUnderrun => exact (doTxUnderrun_stands ..).onlyIn h
  | mcCopyHoldDrop => exact (doMcCopyHoldDrop_stands ..).onlyIn h
  | cellRelease => exact (doCellRelease_stands ..).onlyIn h
  | freeListRefill => exact (doFreeListRefill_stands ..).onlyIn h
  | orphanSweepVisit => exact (doOrphanSweepVisit_stands ..).onlyIn h
  | freelistRebuildDone => exact (doFreelistRebuildDone_stands ..).onlyIn h
  | accountRebuildDone => exact (doAccountRebuildDone_stands ..).onlyIn h
  | holdBusNotice => exact (doHoldBusNotice_stands ..).onlyIn h
  | pfcFrameSend => exact (doPfcFrameSend_stands ..).onlyIn h
  | pfcRefresh => exact (doPfcRefresh_stands ..).onlyIn h
  | pfcFrameReceive => exact (doPfcFrameReceive_stands ..).onlyIn h
  | pauseFrameReceive => exact (doPauseFrameReceive_stands ..).onlyIn h
  | macControlReceive => exact (doMacControlReceive_stands ..).onlyIn h
  | pauseTimerExpiry => exact (doPauseTimerExpiry_stands ..).onlyIn h
  | pauseStorm => exact (doPauseStorm_stands ..).onlyIn h
  | pauseBreakEnd => exact (doPauseBreakEnd_stands ..).onlyIn h
  | linkLossDeclared => exact (doLinkLossDeclared_stands ..).onlyIn h
  | laneRecheck => exact (doLaneRecheck_stands ..).onlyIn h
  | linkUp => exact (doLinkUp_stands ..).onlyIn h
  | holdExpiry => exact (doHoldExpiry_stands ..).onlyIn h
  | realignTimeout => exact (doRealignTimeout_stands ..).onlyIn h
  | trainingTimeout => exact (doTrainingTimeout_stands ..).onlyIn h
  | trainingRestart => exact (doTrainingRestart_stands ..).onlyIn h
  | macroPowerUpDone => exact (doMacroPowerUpDone_stands ..).onlyIn h
  | queueFlushDone => exact (doQueueFlushDone_stands ..).onlyIn h
  | adaptationSlice => exact (doAdaptationSlice_stands ..).onlyIn h
  | pipelineSleepEntry => exact (doPipelineSleepEntry_stands ..).onlyIn h
  | pipelineWake => exact (doPipelineWake_stands ..).onlyIn h
  | learnEventPass => exact (doLearnEventPass_stands ..).onlyIn h
  | learnEventApply => exact (doLearnEventApply_stands ..).onlyIn h
  | learnApplyLag => exact (doLearnApplyLag_stands ..).onlyIn h
  | relocationMove => exact (doRelocationMove_stands ..).onlyIn h
  | agingVisit => exact (doAgingVisit_stands ..).onlyIn h
  | glLrnSweepWrite => exact (doGlLrnSweepWrite_stands ..).onlyIn h
  | genDrainDone => exact (doGenDrainDone_stands ..).onlyIn h
  | retirementTimerExpiry => exact (doRetirementTimerExpiry_stands ..).onlyIn h
  | syncSweepDone => exact (doSyncSweepDone_stands ..).onlyIn h
  | planeFailure => exact (doPlaneFailure_stands ..).onlyIn h
  | planeRemoved => exact (doPlaneRemoved_stands ..).onlyIn h
  | planeSelfCheck => exact (doPlaneSelfCheck_stands ..).onlyIn h
  | planeRestore => exact (doPlaneRestore_stands ..).onlyIn h
  | planeBistDone => exact (doPlaneBistDone_stands ..).onlyIn h
  | basinWriteComplete => exact (doBasinWriteComplete_stands ..).onlyIn h
  | basinReadComplete => exact (doBasinReadComplete_stands ..).onlyIn h
  | segmentWalkerReturn => exact (doSegmentWalkerReturn_stands ..).onlyIn h
  | lrqReturn => exact (doLrqReturn_stands ..).onlyIn h
  | cxlPortLoss => exact (doCxlPortLoss_stands ..).onlyIn h
  | cxlRestore => exact (doCxlRestore_stands ..).onlyIn h
  | cxlEnumeration => exact (doCxlEnumeration_stands ..).onlyIn h
  | cxlEnumerationDone => exact (doCxlEnumerationDone_stands ..).onlyIn h
  | basinAudit => exact (doBasinAudit_stands ..).onlyIn h
  | hbmStackFailure => exact (doHbmStackFailure_stands ..).onlyIn h
  | glSpwMapWrite => exact (doGlSpwMapWrite_stands ..).onlyIn h
  | shaperRefillSweep => exact (doShaperRefillSweep_stands ..).onlyIn h
  | shaperWheelFire => exact (doShaperWheelFire_stands ..).onlyIn h
  | coarseWheelSlot => exact (doCoarseWheelSlot_stands ..).onlyIn h
  | tideCctReached => exact (doTideCctReached_stands ..).onlyIn h
  | tideGateChange => exact (doTideGateChange_stands ..).onlyIn h
  | tideListEcc => exact (doTideListEcc_stands ..).onlyIn h
  | gaugeSample => exact (doGaugeSample_stands ..).onlyIn h
  | gaugeIntervalEnd => exact (doGaugeIntervalEnd_stands ..).onlyIn h
  | epGaugeRingWrite => exact (doEpGaugeRingWrite_stands ..).onlyIn h
  | epochEnd => exact (doEpochEnd_stands ..).onlyIn h
  | bankFreeze => exact (doBankFreeze_stands ..).onlyIn h
  | minuteRecordWrite => exact (doMinuteRecordWrite_stands ..).onlyIn h
  | epMrpRingConsWrite => exact (doEpMrpRingConsWrite_stands ..).onlyIn h
  | combinedUpdate => exact (doCombinedUpdate_stands ..).onlyIn h
  | ledgerMiss => exact (doLedgerMiss_stands ..).onlyIn h
  | ledgerWalkerVisit => exact (doLedgerWalkerVisit_stands ..).onlyIn h
  | weirExchange => exact (doWeirExchange_stands ..).onlyIn h
  | weirHoldRelease => exact (doWeirHoldRelease_stands ..).onlyIn h
  | ppsOutEdge => exact (doPpsOutEdge_stands ..).onlyIn h
  | ppsInEdge => exact (doPpsInEdge_stands ..).onlyIn h
  | atPpsTimeout => exact (doAtPpsTimeout_stands ..).onlyIn h
  | timeRefLoss => exact (doTimeRefLoss_stands ..).onlyIn h
  | slewComplete => exact (doSlewComplete_stands ..).onlyIn h
  | glMrpCfgWrite => exact (doGlMrpCfgWrite_stands ..).onlyIn h
  | faultReport => exact (doFaultReport_stands ..).onlyIn h
  | graceTimerExpiry => exact (doGraceTimerExpiry_stands ..).onlyIn h
  | criticalGraceExpiry => exact (doCriticalGraceExpiry_stands ..).onlyIn h
  | faultRetryResult => exact (doFaultRetryResult_stands ..).onlyIn h
  | tourbillonVisit => exact (doTourbillonVisit_stands ..).onlyIn h
  | recordAdmit => exact (doRecordAdmit_stands ..).onlyIn h
  | suppressionSummary => exact (doSuppressionSummary_stands ..).onlyIn h
  | logFreezeLimit => exact (doLogFreezeLimit_stands ..).onlyIn h
  | holdingFifoDrain => exact (doHoldingFifoDrain_stands ..).onlyIn h
  | persistentPageProgram => exact (doPersistentPageProgram_stands ..).onlyIn h
  | flashSectorErase => exact (doFlashSectorErase_stands ..).onlyIn h
  | hourmark => exact (doHourmark_stands ..).onlyIn h
  | powerOnScanDone => exact (doPowerOnScanDone_stands ..).onlyIn h
  | porNDeassert => exact (doPorNDeassert_stands ..).onlyIn h
  | porNAssert => exact (doPorNAssert_stands ..).onlyIn h
  | sysRstN => exact (doSysRstN_stands ..).onlyIn h
  | loadStart => exact (doLoadStart_stands ..).onlyIn h
  | glBootCtrlGo => exact (doGlBootCtrlGo_stands ..).onlyIn h
  | imageRejected => exact (doImageRejected_stands ..).onlyIn h
  | imageLoadAccepted => exact (doImageLoadAccepted_stands ..).onlyIn h
  | corePllLockTimeout => exact (doCorePllLockTimeout_stands ..).onlyIn h
  | corePllLockLoss => exact (doCorePllLockLoss_stands ..).onlyIn h
  | ref100Loss => exact (doRef100Loss_stands ..).onlyIn h
  | thermalTrip => exact (doThermalTrip_stands ..).onlyIn h
  | thermNCrossing => exact (doThermNCrossing_stands ..).onlyIn h
  | calibrationPass => exact (doCalibrationPass_stands ..).onlyIn h
  | avsWrite => exact (doAvsWrite_stands ..).onlyIn h
  | avsConfirmTimeout => exact (doAvsConfirmTimeout_stands ..).onlyIn h
  | drainComplete => exact (doDrainComplete_stands ..).onlyIn h
  | drainLimitExpiry => exact (doDrainLimitExpiry_stands ..).onlyIn h
  | regulatorTrap => exact (doRegulatorTrap_stands ..).onlyIn h
  | regulatorStoreUe => exact (doRegulatorStoreUe_stands ..).onlyIn h
  | cvuDataWrite => exact (doCvuDataWrite_stands ..).onlyIn h
  | cvuStart => exact (doCvuStart_stands ..).onlyIn h
  | cvuCompare => exact (doCvuCompare_stands ..).onlyIn h
  | cvuSlice => exact (doCvuSlice_stands ..).onlyIn h
  | glCmdArbWrite => exact (doGlCmdArbWrite_stands ..).onlyIn h
  | epVecMapWrite => exact (doEpVecMapWrite_stands ..).onlyIn h
  | wideRegisterRead => exact (doWideRegisterRead_stands ..).onlyIn h
  | setupRegisterWrite => exact (doSetupRegisterWrite_stands ..).onlyIn h
  | smbusSummary => exact (doSmbusSummary_stands ..).onlyIn h
  | smbusTempMax => exact (doSmbusTempMax_stands ..).onlyIn h
  | smbusTempAll => exact (doSmbusTempAll_stands ..).onlyIn h
  | smbusRails => exact (doSmbusRails_stands ..).onlyIn h
  | smbusIdentity => exact (doSmbusIdentity_stands ..).onlyIn h
  | smbusTokenLoad => exact (doSmbusTokenLoad_stands ..).onlyIn h
  | smbusTokenApply => exact (doSmbusTokenApply_stands ..).onlyIn h
  | smbusTokenStatus => exact (doSmbusTokenStatus_stands ..).onlyIn h
  | smbusStallTimeout => exact (doSmbusStallTimeout_stands ..).onlyIn h
  | ledFrame => exact (doLedFrame_stands ..).onlyIn h
  | tapInstruction i =>
    simp only [exec, execTapInstruction] at h
    split at h
    · cases h
    · exact (doTapInstruction_stands ..).onlyIn h
  | endpointUp => exact (doEndpointUp_stands ..).onlyIn h
  | anMismatch => exact (doAnMismatch_stands ..).onlyIn h
  | timeRefReturn => exact (doTimeRefReturn_stands ..).onlyIn h
  | ref100Return => exact (doRef100Return_stands ..).onlyIn h
  | serdesRefLoss => exact (doSerdesRefLoss_stands ..).onlyIn h
  | serdesRefReturn => exact (doSerdesRefReturn_stands ..).onlyIn h
  | mgmtPllLockLoss => exact (doMgmtPllLockLoss_stands ..).onlyIn h
  | railOutOfTolerance => exact (doRailOutOfTolerance_stands ..).onlyIn h
  | memMarginBroken => exact (doMemMarginBroken_stands ..).onlyIn h
  | liveWindowExpiry => exact (doLiveWindowExpiry_stands ..).onlyIn h

/-- Settles O43: the table of rows gives each row of the statement its parts. -/
theorem hostInterfaceRowsStayInTheirParts : Obligations.HostInterfaceRowsStayInTheirParts := by
  intro s t c io
  simp only [List.mem_cons, List.not_mem_nil, or_false, forall_eq_or_imp, forall_eq]
  and_intros
  all_goals
    intros
    next h => exact (exec_onlyIn h :)

/-- Settles O44: the table of rows gives each row of the statement its parts. -/
theorem bufferAndPauseRowsStayInTheirParts : Obligations.BufferAndPauseRowsStayInTheirParts := by
  intro s t c io
  simp only [List.mem_cons, List.not_mem_nil, or_false, forall_eq_or_imp, forall_eq]
  and_intros
  all_goals
    intros
    next h => exact (exec_onlyIn h :)

/-- Settles O45: the table of rows gives each row of the statement its parts. -/
theorem schedulingAndMeteringRowsStayInTheirParts : Obligations.SchedulingAndMeteringRowsStayInTheirParts := by
  intro s t c io
  simp only [List.mem_cons, List.not_mem_nil, or_false, forall_eq_or_imp, forall_eq]
  and_intros
  all_goals
    intros
    next h => exact (exec_onlyIn h :)

/-- Settles O46: the table of rows gives each row of the statement its parts. -/
theorem recorderAndFaultRowsStayInTheirParts : Obligations.RecorderAndFaultRowsStayInTheirParts := by
  intro s t c io
  simp only [List.mem_cons, List.not_mem_nil, or_false, forall_eq_or_imp, forall_eq]
  and_intros
  all_goals
    intros
    next h => exact (exec_onlyIn h :)

/-- Settles O47: the table of rows gives each row of the statement its parts. -/
theorem tableLearningAndPolderRowsStayInTheirParts : Obligations.TableLearningAndPolderRowsStayInTheirParts := by
  intro s t c io
  simp only [List.mem_cons, List.not_mem_nil, or_false, forall_eq_or_imp, forall_eq]
  and_intros
  all_goals
    intros
    next h => exact (exec_onlyIn h :)

/-- Settles O48: the table of rows gives each row of the statement its parts. -/
theorem frameRowsStayInTheirParts : Obligations.FrameRowsStayInTheirParts := by
  intro s t c io
  simp only [List.mem_cons, List.not_mem_nil, or_false, forall_eq_or_imp, forall_eq]
  and_intros
  all_goals
    intros
    next h => exact (exec_onlyIn h :)

/-- Settles O49: the table of rows gives each row of the statement its parts. -/
theorem portTimeAndCompareRowsStayInTheirParts : Obligations.PortTimeAndCompareRowsStayInTheirParts := by
  intro s t c io
  simp only [List.mem_cons, List.not_mem_nil, or_false, forall_eq_or_imp, forall_eq]
  and_intros
  all_goals
    intros
    next h => exact (exec_onlyIn h :)

/-- Settles O50: the table of rows gives each row of the statement its parts. -/
theorem bootAndModeRowsStayInTheirParts : Obligations.BootAndModeRowsStayInTheirParts := by
  intro s t c io
  simp only [List.mem_cons, List.not_mem_nil, or_false, forall_eq_or_imp, forall_eq]
  and_intros
  all_goals
    intros
    next h => exact (exec_onlyIn h :)

end Sys2Proof.Machine
end

section
/-! PROOFS. No step gives a fuse back (17 R507, R509, R510): only the acceptance of an image touches the fuses, and it blows them. -/
namespace Sys2Proof.Machine

/-- Blowing a bit that is clear keeps every bit that is set. -/
theorem testBit_add_two_pow_of_testBit {n k j : Nat} (hk : n.testBit k = false) (hj : n.testBit j = true) :
    (n + 2 ^ k).testBit j = true := by
  rcases lt_trichotomy j k with h | rfl | h
  · rw [Nat.add_comm, Nat.testBit_two_pow_add_gt h, hj]
  · simp [hk] at hj
  · have hk : n / 2 ^ k % 2 = 0 := by simpa [Nat.testBit_eq_decide_div_mod_eq] using hk
    have hdiv : (n + 2 ^ k) / 2 ^ (k + 1) = n / 2 ^ (k + 1) := by
      rw [pow_succ, ← Nat.div_div_eq_div_mul, ← Nat.div_div_eq_div_mul, Nat.add_div_right n (Nat.two_pow_pos k)]
      omega
    obtain ⟨i, rfl⟩ := Nat.exists_eq_add_of_le (Nat.succ_le_of_lt h)
    have shift (m : Nat) : m.testBit (k + 1 + i) = (m / 2 ^ (k + 1)).testBit i := by
      rw [Nat.testBit_div_two_pow, Nat.add_comm]
    rw [Nat.succ_eq_add_one, shift] at hj ⊢
    rwa [hdiv]

/-- From `a` to `b` fuses are blown at most: those that a load blows go one way, and the others stand. -/
def Otp.Blown (a b : Otp) : Prop :=
  a.rollback ≤ b.rollback ∧ (∀ k, a.imageRevoked.testBit k = true → b.imageRevoked.testBit k = true) ∧
    (a.provRevoked = true → b.provRevoked = true) ∧
    b = { a with rollback := b.rollback, imageRevoked := b.imageRevoked, provRevoked := b.provRevoked }

theorem Otp.Blown.of_eq {a b : Otp} (h : b = a) : a.Blown b := by
  subst h
  exact ⟨Nat.le_refl _, fun _ h => h, fun h => h, rfl⟩

theorem Otp.Blown.trans {a b c : Otp} (h : a.Blown b) (h' : b.Blown c) : a.Blown c := by
  obtain ⟨hroll, hrev, hprov, hrest⟩ := h
  obtain ⟨hroll', hrev', hprov', hrest'⟩ := h'
  refine ⟨hroll.trans hroll', fun k hk => hrev' k (hrev k hk), fun h => hprov' (hprov h), ?_⟩
  rw [hrest', hrest]

theorem revokeKey_blown {d : Dev} {k : Nat} (hk : d.otp.imageRevoked.testBit k = false) (r : Dev → Dev)
    (hr : ∀ d, (r d).otp = d.otp) :
    d.otp.Blown (r { d with otp := { d.otp with imageRevoked := d.otp.imageRevoked + 2 ^ k } }).otp := by
  rw [hr]
  exact ⟨Nat.le_refl _, fun j hj => testBit_add_two_pow_of_testBit hk hj, fun h => h, rfl⟩

theorem revoke_blown (d : Dev) (mask : Nat) (prov : Bool) (slot : Nat) : d.otp.Blown (d.revoke mask prov slot).otp := by
  have hkeys (l : List Nat) (d : Dev) : d.otp.Blown (l.foldl (fun (d : Dev) k =>
      if mask.testBit k && decide (k ≠ slot) && !d.otp.imageRevoked.testBit k then
        ({ d with otp := { d.otp with imageRevoked := d.otp.imageRevoked + 2 ^ k } }).record Ev.keyRevoked .shared none
          (dat [(0, 1, k)])
      else d) d).otp := by
    induction l generalizing d with
    | nil => exact .of_eq rfl
    | cons k l ih =>
      rw [List.foldl_cons]
      refine .trans ?_ (ih _)
      split
      next h =>
        simp only [Bool.and_eq_true, Bool.not_eq_true'] at h
        exact revokeKey_blown h.2 (·.record Ev.keyRevoked .shared none (dat [(0, 1, k)])) (by simp)
      · exact .of_eq rfl
  refine .trans (hkeys (List.range 4) d) ?_
  unfold Dev.revoke
  dsimp only
  split
  · simp [Otp.Blown]
  · exact .of_eq rfl

theorem advanceRollback_blown (d : Dev) (v : Nat) : d.otp.Blown (d.advanceRollback v).otp := by
  unfold Dev.advanceRollback
  split
  · exact .of_eq rfl
  · simp [Otp.Blown]
    omega

/-- An image that is accepted revokes keys and advances the rollback counter at most (17 R506). -/
theorem doImageLoadAccepted_blown (src : Nat) (img : List Byte) (tables : ImageTables) (fuseBad : Bool) (d : Dev) :
    d.otp.Blown (doImageLoadAccepted src img tables fuseBad d).otp := by
  unfold doImageLoadAccepted
  generalize layout115 = layout
  split
  · exact .of_eq rfl
  · split
    · exact .of_eq (by simp)
    · extract_lets man m ss of reg d1 d2 persist
      split
      · split
        · exact .of_eq rfl
        next slot _ _ _ =>
          extract_lets blows d3 d4
          have h2 : d2.otp = d.otp := by simp [d2, d1]
          have h3 : d2.otp.Blown d3.otp := revoke_blown ..
          have h4 : d3.otp.Blown d4.otp := by
            unfold d4
            split
            · exact advanceRollback_blown ..
            · exact .of_eq rfl
          refine h2 ▸ (h3.trans h4).trans (.of_eq ?_)
          simp +zetaDelta [doPowerOnScanDone]
      · exact .of_eq rfl

/-- A step is the row at the front of the queue, or one tick of an empty queue. -/
theorem step_next_cases {s t : State} (h : step s = .next t) :
    (∃ i rest, s.pending = i :: rest ∧ exec i { s with pending := rest } = .next t) ∨
      s.pending = [] ∧ t = { s with dev := s.dev.pass 1 } := by
  unfold step at h
  split at h
  next i rest hq => exact .inl ⟨i, rest, hq, h⟩
  next hq => cases h; exact .inr ⟨hq, rfl⟩

/-- Every row but the acceptance of an image leaves the fuses. -/
theorem exec_blown {i : Instr} {s t : State} (h : exec i s = .next t) : s.dev.otp.Blown t.dev.otp := by
  by_cases hi : Area.otp ∈ rowAreas i
  · cases i
    case imageLoadAccepted => cases h; exact doImageLoadAccepted_blown ..
    all_goals simp [rowAreas] at hi
  · exact .of_eq ((exec_onlyIn h).2 _ hi)

/-- Settles O58: the acceptance of an image blows fuses, and nothing else touches them. -/
theorem noStepGivesAFuseBack : Obligations.NoStepGivesAFuseBack := by
  intro s t h
  obtain ⟨i, rest, -, hi⟩ | ⟨-, rfl⟩ := step_next_cases h
  · have hb := exec_blown hi
    exact hb
  · exact Otp.Blown.of_eq rfl

end Sys2Proof.Machine
end

section
/-! PROOFS. Every step keeps the running registers of the check-value contexts within their widths (14 R430). -/
namespace Sys2Proof.Machine

/-- The running register of a context is cut to the width of its running algorithm. -/
def CvuCtx.Fits (x : CvuCtx) : Prop := x.run.toNat < 2 ^ cvuWidth x.runAlg

theorem CvuCtx.toNat_cut_lt (x : CvuCtx) (v : Nat) : (x.cut v).toNat < 2 ^ cvuWidth x.runAlg :=
  (BitVec.toNat_ofNat ..).trans_le (Nat.mod_le ..) |>.trans_lt (Nat.mod_lt _ (Nat.two_pow_pos _))

/-- A buffered write that enters is cut to the width. -/
theorem CvuCtx.enter_fits {x : CvuCtx} (h : x.Fits) (w : CvuWrite) : (x.enter w).1.Fits := by
  cases w with
  | data n v => exact x.toNat_cut_lt _
  | start k =>
    dsimp only [CvuCtx.enter]
    split <;> exact CvuCtx.toNat_cut_lt _ _
  | run hi v => exact CvuCtx.toNat_cut_lt { x with runAlg := x.alg } _
  | bytes v => exact h
  | fold hi v => exact h

theorem CvuCtx.settle_fits {x : CvuCtx} (h : x.Fits) : x.settle.Fits := by
  unfold CvuCtx.settle
  split <;> exact h

theorem RunsFit.ctx {d : Dev} (h : RunsFit d) (n : Nat) : (d.cvuCtx n).Fits := h n

/-- What leaves the check-value unit keeps the widths. -/
theorem RunsFit.congr {d e : Dev} (h : RunsFit d) (he : e.cvu = d.cvu) : RunsFit e := fun n => by
  rw [cvuCtx_cvu he]
  exact h n

theorem RunsFit.modCvu {d : Dev} (h : RunsFit d) {n : Nat} {f : CvuCtx → CvuCtx} (hf : (f (d.cvuCtx n)).Fits) :
    RunsFit (d.modCvu n f) := fun m => by
  rw [Dev.cvuCtx_modCvu]
  split
  next hm => subst hm; exact hf
  · exact h m

theorem RunsFit.foldl {α : Type} {f : Dev → α → Dev} (hf : ∀ d x, RunsFit d → RunsFit (f d x)) (l : List α) {d : Dev}
    (h : RunsFit d) : RunsFit (l.foldl f d) := by
  induction l generalizing d with
  | nil => exact h
  | cons x l ih => exact ih (hf d x h)

theorem RunsFit.cvuSlice {d : Dev} (h : RunsFit d) {r : Nat × Nat × Dev} (hr : d.cvuSlice = some r) : RunsFit r.2.2 := by
  unfold Dev.cvuSlice at hr
  split at hr
  · cases hr
  next n _ =>
    split at hr
    · cases hr
    next w _ =>
      cases hr
      have hs := h.modCvu (n := n) (f := fun _ => ((d.cvuCtx n).enter w).1.settle)
        (CvuCtx.settle_fits (CvuCtx.enter_fits (h n) w))
      exact hs

theorem RunsFit.cvuDrain (n : Nat) (own : Bool) {k cycles : Nat} {d : Dev} (h : RunsFit d) :
    RunsFit (d.cvuDrain n own k cycles) := by
  induction k generalizing cycles d with
  | zero => exact h
  | succ k ih =>
    unfold Dev.cvuDrain
    split
    · split
      · exact h
      · exact h.congr (by simp)
    · split
      · exact h
      next hr => exact ih (h.cvuSlice hr)

theorem RunsFit.cvuWait {d : Dev} (h : RunsFit d) (n : Nat) (own : Bool) : RunsFit (d.cvuWait n own) := h.cvuDrain n own

theorem RunsFit.cvuAccept {d : Dev} (h : RunsFit d) (n : Nat) (w : CvuWrite) : RunsFit (d.cvuAccept n w) :=
  have hw := h.cvuWait n false
  hw.modCvu (hw n)

theorem RunsFit.glWrite {d : Dev} (h : RunsFit d) (e : Nat) (core : Bool) {f : Dev → Dev} (hf : RunsFit (f d)) :
    RunsFit (d.glWrite e core f) := by
  unfold Dev.glWrite
  repeat' split
  · exact h
  · exact h.congr (by simp)
  · exact h.congr (by simp)
  · exact hf

theorem RunsFit.cvuBy {d : Dev} (h : RunsFit d) (who : CvuParty) (n : Nat) (ownerOnly : Bool) {f : Dev → Dev}
    (hf : RunsFit (f d)) : RunsFit (d.cvuBy who n ownerOnly f) := by
  have own (me : Nat) : RunsFit (if ownerOnly && decide ((d.cvuCtx n).holder ≠ me) then d.bump .cvuForeignWrite 0 else f d) := by
    split
    · exact h.congr (by simp)
    · exact hf
  unfold Dev.cvuBy
  cases who with
  | window e =>
    refine h.glWrite e false ?_
    repeat' split
    · exact h
    · exact h.congr (by simp)
    · exact own 0
  | regulator r =>
    dsimp only
    split
    · exact h
    · exact own _

theorem RunsFit.cvuJudge {d : Dev} (h : RunsFit d) (n : Nat) : RunsFit (d.cvuJudge n) := by
  unfold Dev.cvuJudge
  extract_lets x field bad d1 d2
  have h1 : RunsFit d1 := h.modCvu (h n)
  have h2 : RunsFit d2 := h1.congr (by simp [d2])
  repeat' split
  · exact h2
  · exact h2.congr (by simp)
  · exact h2.congr (by simp)
  · exact h2

theorem RunsFit.cvuCtl {d : Dev} (h : RunsFit d) (who : CvuParty) (n : Nat) (v : Word) : RunsFit (d.cvuCtl who n v) := by
  unfold Dev.cvuCtl
  extract_lets b d1 d2
  have h1 : RunsFit d1 := by
    refine h.cvuBy who n false ?_
    have hf := h.modCvu (n := n) (f := fun x => { x with
      alg := bits b 0 2, parMode := b.testBit 2, irqEn := b.testBit 3, foldLen := bits b 4 4 }) (h n)
    cases who with
    | window e => exact hf.modCvu (CvuCtx.settle_fits (hf n))
    | regulator r => exact hf
  have h2 : RunsFit d2 := by
    unfold d2
    split
    · exact h1.cvuBy who n true (h1.cvuAccept _ _)
    · exact h1
  split
  · exact h2.cvuBy who n true ((h2.cvuWait _ _).cvuJudge n)
  · exact h2

theorem RunsFit.doCvuDataWrite {d : Dev} (h : RunsFit d) (who : CvuParty) (n en : Nat) (v : Word) :
    RunsFit (doCvuDataWrite who n en v d) := by
  refine h.cvuBy who n true ?_
  split
  · exact h.cvuAccept _ _
  · exact h.cvuAccept _ _
  · exact h.cvuAccept _ _
  · exact h.congr (by simp)

theorem RunsFit.cvuReg {d : Dev} (h : RunsFit d) (who : CvuParty) (n off : Nat) (v : Word) : RunsFit (d.cvuReg who n off v) := by
  unfold Dev.cvuReg
  dsimp only
  split
  · exact h.cvuCtl who n v
  · exact h.cvuBy who n false (h.modCvu (h n))
  · exact h.cvuBy who n true (h.cvuAccept _ _)
  · exact h.cvuBy who n true (h.modCvu (h n))
  · exact h.cvuBy who n true (h.cvuAccept _ _)
  · exact h.cvuBy who n true (h.cvuAccept _ _)
  · exact h.cvuBy who n true (h.cvuAccept _ _)
  · exact h.cvuBy who n true (h.cvuAccept _ _)
  · exact h.cvuBy who n true (h.modCvu (h n))
  · exact h.cvuBy who n true (h.modCvu (h n))
  · exact h

theorem RunsFit.cvuEngine {d : Dev} (h : RunsFit d) (n first : Nat) (check : Ecc) : RunsFit (d.cvuEngine n first check) := by
  cases check with
  | clean | corrected => exact h
  | once => exact h.congr (by simp [Dev.cvuEngine])
  | lasting =>
    exact (h.modCvu (n := n) (f := fun x => { x with stateErr := true, forced := true }) (h n)).congr (by simp [Dev.cvuEngine])

theorem RunsFit.doCvuStart {d : Dev} (h : RunsFit d) (who : CvuParty) (n : Nat) (v : Word) : RunsFit (doCvuStart who n v d) := by
  unfold Machine.doCvuStart
  split
  · exact h.cvuCtl who n v
  · exact h

theorem RunsFit.doCvuCompare {d : Dev} (h : RunsFit d) (who : CvuParty) (n : Nat) (v : Word) :
    RunsFit (doCvuCompare who n v d) := by
  unfold Machine.doCvuCompare
  split
  · exact h.cvuCtl who n v
  · exact h

theorem RunsFit.doCvuSlice {d : Dev} (h : RunsFit d) (check : Ecc) : RunsFit (doCvuSlice check d) := by
  unfold Machine.doCvuSlice
  split
  · exact h
  · dsimp only
    refine RunsFit.cvuEngine ?_ _ _ _
    split
    next hr => exact h.cvuSlice hr
    · exact h

theorem RunsFit.cvuStateBad {d : Dev} (h : RunsFit d) (n reg : Nat) : RunsFit (d.cvuStateBad n reg) :=
  (h.modCvu (n := n) (f := fun x => { x with stateErr := true, forced := true }) (h n)).congr (by simp [Dev.cvuStateBad])

theorem RunsFit.cvuDescriptor {d : Dev} (h : RunsFit d) (e : Nat) (desc : Descriptor) (check : Ecc) :
    RunsFit (d.cvuDescriptor e desc check).2 := by
  have hfed : RunsFit (d.fed e desc) := by
    refine RunsFit.modCvu (fun n => h n) ?_
    unfold CvuCtx.Fits fedCtx
    rw [cvuBytes_zero, cvuBytes_zero]
    exact (BitVec.toNat_ofNat ..).trans_le (Nat.mod_le ..) |>.trans_lt (crcRefl_lt _ (crcRefl_lt _ (by decide)))
  rw [cvuDescriptor_eq]
  exact (hfed.cvuEngine _ _ _).cvuJudge _

theorem RunsFit.readDword {d : Dev} (h : RunsFit d) (e off : Nat) (check : Ecc) : RunsFit (d.readDword e off check).2 := by
  have hcvu (b : Nat) : RunsFit (d.cvuRead b).2 := by
    unfold Dev.cvuRead
    dsimp only
    split
    · exact h.cvuWait _ _
    · exact h
  have hvalue (b : Nat) : RunsFit (d.regValue e b check).2 := by
    unfold Dev.regValue
    repeat' split
    · exact h
    · exact hcvu _
    · exact h.congr (by simp)
    · exact h
  have hcaptured (b : Nat) (f : Endpoint → Endpoint) : RunsFit ((d.regValue e b check).2.modEp e f) := (hvalue b).congr (by simp)
  unfold Dev.readDword
  dsimp only
  repeat' split
  · exact h.congr (by simp)
  · exact h
  · exact hvalue _
  · exact hcaptured _ _
  · exact h
  · exact hcaptured _ _

theorem RunsFit.doWideRegisterRead {d : Dev} (h : RunsFit d) (e off width : Nat) (check : Ecc) :
    RunsFit (doWideRegisterRead e off width check d) := by
  have hlo := h.readDword e off check
  unfold Machine.doWideRegisterRead
  dsimp only
  repeat' split
  · exact h
  · exact h.congr (by simp)
  · exact h.congr (by simp)
  · exact h.congr (by simp)
  · exact hlo.congr (by simp)
  · exact (hlo.readDword e (off + 4) check).congr (by simp)

theorem RunsFit.ite {c : Prop} [Decidable c] {a b : Dev} (ha : RunsFit a) (hb : RunsFit b) : RunsFit (if c then a else b) := by
  split
  · exact ha
  · exact hb

/-- A dword written to the check-value unit goes to a register of a context; any other leaves the unit. -/
theorem RunsFit.writeDword {d : Dev} (h : RunsFit d) (e off : Nat) (v : Word) : RunsFit (d.writeDword e off v) := by
  unfold Dev.writeDword
  refine .ite (h.congr (by simp)) (.ite (h.congr (by simp)) (.ite (h.congr (by simp)) (.ite (h.congr (by simp))
    (.ite (h.congr (by simp)) (.ite (h.congr (by simp)) (.ite (h.congr (by simp)) (.ite (h.congr (by simp))
    (.ite (h.congr (by simp)) (.ite ?_ (h.congr (by simp)))))))))))
  exact .ite (h.cvuReg _ _ _ _) (.ite (h.cvuBy _ _ _ h) (.ite (h.doCvuDataWrite _ _ _ _) h))

theorem RunsFit.doSetupRegisterWrite {d : Dev} (h : RunsFit d) (e off width : Nat) (v : BitVec 64) :
    RunsFit (doSetupRegisterWrite e off width v d) := by
  have hlo := h.writeDword e off (v.truncate 32)
  unfold Machine.doSetupRegisterWrite
  dsimp only
  repeat' split
  · exact h
  · exact h.congr (by simp)
  · exact h.congr (by simp)
  · exact h.doCvuDataWrite _ _ _ _
  · exact hlo
  · exact hlo.writeDword _ _ _

theorem RunsFit.tbnBad {d : Dev} (h : RunsFit d) (mem inst addr : Nat) (lasting : Bool) (args : List Nat) :
    RunsFit (d.tbnBad mem inst addr lasting args) := by
  by_cases hm : mem = 14
  · subst hm
    exact h.cvuStateBad _ _
  · refine h.congr ?_
    unfold Dev.tbnBad
    split
    case h_7 => split <;> simp
    case h_13 => exact absurd rfl hm
    all_goals simp

theorem RunsFit.doTourbillonVisit {d : Dev} (h : RunsFit d) (sweeper mem inst addr : Nat) (check : Ecc) (weak : Bool)
    (args : List Nat) : RunsFit (doTourbillonVisit sweeper mem inst addr check weak args d) := by
  unfold Machine.doTourbillonVisit
  dsimp only
  split
  · exact h
  · cases check with
    | clean => exact h
    | corrected =>
      refine h.congr ?_
      dsimp only
      repeat' split
      all_goals simp
    | once =>
      have hb : RunsFit ((d.bump .tbnUe 0).tbnBad mem inst addr false args) := (h.congr (by simp) : RunsFit (d.bump .tbnUe 0)).tbnBad _ _ _ _ _
      exact hb.congr (by simp)
    | lasting =>
      have hb : RunsFit ((d.bump .tbnUe 0).tbnBad mem inst addr true args) := (h.congr (by simp) : RunsFit (d.bump .tbnUe 0)).tbnBad _ _ _ _ _
      exact hb.congr (by simp)

theorem RunsFit.doDescriptorFetchReturn {d : Dev} (h : RunsFit d) (e n : Nat) (desc : Option Descriptor) (check : Ecc) :
    RunsFit (doDescriptorFetchReturn e n desc check d) := by
  unfold Machine.doDescriptorFetchReturn
  dsimp only
  split
  · exact h
  · cases desc with
    | none => exact h.congr (by simp)
    | some x =>
      refine (h.cvuDescriptor e x check).congr ?_
      unfold Dev.fetched
      dsimp only
      split
      case h_3 => split <;> simp
      all_goals simp

theorem RunsFit.doPorNAssert {d : Dev} (h : RunsFit d) : RunsFit (doPorNAssert d) := by
  unfold Machine.doPorNAssert
  split
  · exact h
  · intro n
    simp [Dev.cvuCtx]

theorem RunsFit.handOver {d : Dev} (h : RunsFit d) (n o : Nat) :
    RunsFit (d.modCvu n (fun x => ({ x with nextOwner := some o } : CvuCtx).settle)) :=
  h.modCvu (CvuCtx.settle_fits (h n))

theorem RunsFit.applyTables {d : Dev} (h : RunsFit d) (t : ImageTables) : RunsFit (d.applyTables t) := by
  unfold Dev.applyTables
  generalize layout115 = layout
  extract_lets d1 d2 d3
  have h3 : RunsFit d3 := h.congr (by
    simp only [d3, d2]
    split <;> simp [d1])
  exact RunsFit.foldl (fun _ (o : Nat × Nat) hd => hd.handOver o.1 o.2) t.owners h3

/-- An image that is accepted hands contexts to owners, and changes no running register. -/
theorem RunsFit.doImageLoadAccepted {d : Dev} (h : RunsFit d) (src : Nat) (img : List Byte) (tables : ImageTables)
    (fuseBad : Bool) : RunsFit (doImageLoadAccepted src img tables fuseBad d) := by
  unfold Machine.doImageLoadAccepted
  generalize layout115 = layout
  split
  · exact h
  · split
    · exact h.congr (by simp)
    · extract_lets man m ss of reg d1 d2 persist
      split
      · split
        · exact h
        · extract_lets blows d3 d4
          have h1 : RunsFit d1 := h.congr (by simp [d1])
          have h2 : RunsFit d2 := h1.applyTables tables
          refine h2.congr ?_
          simp +zetaDelta [doPowerOnScanDone]
      · exact h

/-- A row keeps the widths of the running registers. -/
theorem RunsFit.exec {i : Instr} {s t : State} (h : RunsFit s.dev) (he : exec i s = .next t) : RunsFit t.dev := by
  by_cases hi : Area.cvu ∈ rowAreas i
  · cases i
    case descriptorFetchReturn => cases he; exact h.doDescriptorFetchReturn _ _ _ _
    case wideRegisterRead => cases he; exact h.doWideRegisterRead _ _ _ _
    case setupRegisterWrite => cases he; exact h.doSetupRegisterWrite _ _ _ _
    case tourbillonVisit => cases he; exact h.doTourbillonVisit _ _ _ _ _ _ _
    case porNAssert => cases he; exact h.doPorNAssert
    case imageLoadAccepted => cases he; exact h.doImageLoadAccepted _ _ _ _
    case cvuDataWrite => cases he; exact h.doCvuDataWrite _ _ _ _
    case cvuStart => cases he; exact h.doCvuStart _ _ _
    case cvuCompare => cases he; exact h.doCvuCompare _ _ _
    case cvuSlice => cases he; exact h.doCvuSlice _
    all_goals simp [rowAreas] at hi
  · exact h.congr ((exec_onlyIn he).2 _ hi)

/-- Settles O57: whatever enters a running register is cut to its width, and a descriptor's CRC-32C fits it. -/
theorem everyStepKeepsTheRunWidths : Obligations.EveryStepKeepsTheRunWidths := by
  intro s t h hs
  obtain ⟨i, rest, -, hi⟩ | ⟨-, rfl⟩ := step_next_cases hs
  · exact RunsFit.exec (s := { s with pending := rest }) h hi
  · exact h.congr rfl

end Sys2Proof.Machine
end

section
/-! PROOFS. Every step keeps the warden present and CHALLENGE other than 0 (03 R105, R110, R111). -/
namespace Sys2Proof.Machine

/-! ### The straps, POR_N, the warden and CHALLENGE stand -/

/-- The straps, POR_N, the warden and CHALLENGE stand. -/
abbrev Moored (d e : Dev) : Prop :=
  e.bal.straps = d.bal.straps ∧ e.bal.porN = d.bal.porN ∧ e.plc.warden = d.plc.warden ∧ e.plc.challenge = d.plc.challenge

theorem Moored.trans {a b c : Dev} (h : Moored a b) (h' : Moored b c) : Moored a c := by
  obtain ⟨hs, hp, hw, hc⟩ := h
  obtain ⟨hs', hp', hw', hc'⟩ := h'
  exact ⟨hs'.trans hs, hp'.trans hp, hw'.trans hw, hc'.trans hc⟩

theorem Moored.step1 {d : Dev} {c : CmdRef} {is : Cmd → Bool} {f : Dev → Cmd → Dev} (h : ∀ x, Moored d (f d x)) :
    Moored d (d.step1 c is f) := by
  unfold Dev.step1
  repeat' split
  · exact h _
  · exact ⟨rfl, rfl, rfl, rfl⟩
  · exact ⟨rfl, rfl, rfl, rfl⟩

theorem Moored.foldl {α : Type} {f : Dev → α → Dev} (h : ∀ d x, Moored d (f d x)) (l : List α) (d : Dev) :
    Moored d (l.foldl f d) := by
  induction l generalizing d with
  | nil => exact ⟨rfl, rfl, rfl, rfl⟩
  | cons x l ih => exact (h d x).trans (ih _)

theorem Moored.pps {d e : Dev} (h : Moored d e) (t : Tmu) (o : Out) : Moored d (({ e with tmu := t }).emit o) := h

theorem Moored.glWrite {d : Dev} {e : Nat} {core : Bool} {f : Dev → Dev} (h : ∀ d, Moored d (f d)) :
    Moored d (d.glWrite e core f) := by
  unfold Dev.glWrite
  repeat' split
  · exact ⟨rfl, rfl, rfl, rfl⟩
  · simp [Moored]
  · simp [Moored]
  · exact h d

theorem Moored.ite {c : Prop} [Decidable c] {d a b : Dev} (ha : Moored d a) (hb : Moored d b) :
    Moored d (if c then a else b) := by
  split
  · exact ha
  · exact hb

@[simp] theorem ite_straps (c : Prop) [Decidable c] (a b : Bal) :
    (if c then a else b).straps = if c then a.straps else b.straps := apply_ite _ _ _ _

@[simp] theorem ite_porN (c : Prop) [Decidable c] (a b : Bal) : (if c then a else b).porN = if c then a.porN else b.porN :=
  apply_ite _ _ _ _

@[simp] theorem ite_warden (c : Prop) [Decidable c] (a b : Plc) :
    (if c then a else b).warden = if c then a.warden else b.warden := apply_ite _ _ _ _

@[simp] theorem ite_challenge (c : Prop) [Decidable c] (a b : Plc) :
    (if c then a else b).challenge = if c then a.challenge else b.challenge := apply_ite _ _ _ _

@[simp] theorem foldl_straps {α} (l : List α) (f : Dev → α → Dev) (h : ∀ d x, (f d x).bal.straps = d.bal.straps) (d : Dev) :
    (l.foldl f d).bal.straps = d.bal.straps := by
  induction l generalizing d with
  | nil => rfl
  | cons x l ih => exact (ih _).trans (h d x)

@[simp] theorem foldl_porN {α} (l : List α) (f : Dev → α → Dev) (h : ∀ d x, (f d x).bal.porN = d.bal.porN) (d : Dev) :
    (l.foldl f d).bal.porN = d.bal.porN := by
  induction l generalizing d with
  | nil => rfl
  | cons x l ih => exact (ih _).trans (h d x)

@[simp] theorem foldl_warden {α} (l : List α) (f : Dev → α → Dev) (h : ∀ d x, (f d x).plc.warden = d.plc.warden) (d : Dev) :
    (l.foldl f d).plc.warden = d.plc.warden := by
  induction l generalizing d with
  | nil => rfl
  | cons x l ih => exact (ih _).trans (h d x)

@[simp] theorem foldl_challenge {α} (l : List α) (f : Dev → α → Dev) (h : ∀ d x, (f d x).plc.challenge = d.plc.challenge) (d : Dev) :
    (l.foldl f d).plc.challenge = d.plc.challenge := by
  induction l generalizing d with
  | nil => rfl
  | cons x l ih => exact (ih _).trans (h d x)

@[simp] theorem Dev.pass_moored (d : Dev) (n : Nat) : Moored d (Dev.pass d n) := by
  simp [Moored, Dev.pass]

@[simp] theorem Dev.reach_moored (d : Dev) (t : Nat) : Moored d (Dev.reach d t) := by
  simp [Moored, Dev.reach]

@[simp] theorem Dev.reachNs_moored (d : Dev) (ns : Nat) : Moored d (Dev.reachNs d ns) := by
  simp [Moored, Dev.reachNs]

@[simp] theorem Dev.coreReset_moored (d : Dev) : Moored d (Dev.coreReset d) := by
  simp [Moored, Dev.coreReset]

@[simp] theorem Dev.goDormant_moored (d : Dev) : Moored d (Dev.goDormant d) := by
  simp [Moored, Dev.goDormant]

@[simp] theorem Dev.entered_moored (d : Dev) (old : DevMode) : Moored d (Dev.entered d old) := by
  unfold Dev.entered
  repeat' split
  all_goals simp [Moored]

@[simp] theorem Dev.modPolder_moored (d : Dev) (p : Nat) (f : Polder → Polder) : Moored d (Dev.modPolder d p f) := by
  simp [Moored, Dev.modPolder]

@[simp] theorem Dev.setPolderSt_moored (d : Dev) (p : Nat) (st : PolderSt) : Moored d (Dev.setPolderSt d p st) := by
  simp [Moored, Dev.setPolderSt]

@[simp] theorem Dev.holdPolder_moored (d : Dev) (p source : Nat) : Moored d (Dev.holdPolder d p source) := by
  unfold Dev.holdPolder
  dsimp only
  repeat' split
  all_goals simp [Moored]

@[simp] theorem Dev.holdPolders_moored (d : Dev) (mask source : Nat) : Moored d (Dev.holdPolders d mask source) :=
  .foldl (fun d p => d.holdPolder_moored p source) ..

@[simp] theorem Dev.polderPut_moored (d : Dev) (p r : Nat) : Moored d (Dev.polderPut d p r) := by
  simp [Moored, Dev.polderPut]

@[simp] theorem Dev.polderSet_moored (d : Dev) (c : CmdRef) (io : Io) (act : Nat) : Moored d (Dev.polderSet d c io act) := by
  unfold Dev.polderSet
  dsimp only
  repeat' split
  all_goals simp [Moored]

@[simp] theorem Dev.polderClear_moored (d : Dev) (p ep : Nat) : Moored d (Dev.polderClear d p ep) := by
  simp [Moored, Dev.polderClear]

@[simp] theorem Dev.polderDrop_moored (d : Dev) (p : Nat) : Moored d (Dev.polderDrop d p) := by
  simp [Moored, Dev.polderDrop]

@[simp] theorem Dev.toMode_moored (d : Dev) (m : DevMode) (code : Nat) (source : Option Nat) (fs : List (Nat × Nat × Nat)) : Moored d (Dev.toMode d m code source fs) := by
  simp [Moored, Dev.toMode]

@[simp] theorem Dev.byCommand_moored (d : Dev) (m : DevMode) (ep : Nat) : Moored d (Dev.byCommand d m ep) := by
  simp [Moored, Dev.byCommand]

@[simp] theorem Dev.safeHoldFor_moored (d : Dev) (source : Nat) : Moored d (Dev.safeHoldFor d source) := by
  unfold Dev.safeHoldFor
  repeat' split
  all_goals simp [Moored]

@[simp] theorem Dev.startDrain_moored (d : Dev) (ms : Nat) (ep : Nat) : Moored d (Dev.startDrain d ms ep) := by
  simp [Moored, Dev.startDrain]

@[simp] theorem Dev.drainEnds_moored (d : Dev) : Moored d (Dev.drainEnds d) := by
  simp [Moored, Dev.drainEnds]

@[simp] theorem Dev.strapEvent_moored (d : Dev) (strap sampled eff : Nat) : Moored d (Dev.strapEvent d strap sampled eff) := by
  simp [Moored, Dev.strapEvent]

@[simp] theorem Dev.loadFails_moored (d : Dev) (wait : Bool) (cause : Nat) : Moored d (Dev.loadFails d wait cause) := by
  simp [Moored, Dev.loadFails]

@[simp] theorem Dev.startLoad_moored (d : Dev) (cands : List Nat) (who : Option Nat) (waiter : Option (Nat × Nat × Nat)) (cert : Nat) : Moored d (Dev.startLoad d cands who waiter cert) := by
  unfold Dev.startLoad
  repeat' split
  all_goals simp [Moored]

@[simp] theorem Dev.flashLoad_moored (d : Dev) (flash : List Byte) (who : Option Nat) (waiter : Option (Nat × Nat × Nat)) : Moored d (Dev.flashLoad d flash who waiter) := by
  simp [Moored, Dev.flashLoad]

@[simp] theorem doGlBootCtrlGo_moored (ep : Nat) (d : Dev) : Moored d (doGlBootCtrlGo ep d) := by
  refine .glWrite fun d => ?_
  repeat' split
  all_goals simp [Moored]

@[simp] theorem Dev.loadEnds_moored (d : Dev) (src version slot : Nat) (m : DevMode) : Moored d (Dev.loadEnds d src version slot m) := by
  simp [Moored, Dev.loadEnds]

@[simp] theorem Dev.readSensors_moored (d : Dev) (temps : List Nat) : Moored d (Dev.readSensors d temps) := by
  simp [Moored, Dev.readSensors]

@[simp] theorem Dev.setRail_moored (d : Dev) (i mv : Nat) : Moored d (Dev.setRail d i mv) := by
  simp [Moored, Dev.setRail]

@[simp] theorem Dev.critical_moored (d : Dev) (s : Nat) : Moored d (Dev.critical d s) := by
  unfold Dev.critical
  repeat' split
  all_goals simp [Moored]

@[simp] theorem Dev.reactTo_moored (d : Dev) (s sev : Nat) : Moored d (Dev.reactTo d s sev) := by
  simp [Moored, Dev.reactTo]

@[simp] theorem Dev.setPrbs_moored (d : Dev) (l : Nat) (v : Option (Nat × Nat × Nat)) : Moored d (Dev.setPrbs d l v) := by
  simp [Moored, Dev.setPrbs]

@[simp] theorem Dev.prbsCounts_moored (d : Dev) (l : Nat) (io : Io) : Moored d (Dev.prbsCounts d l io).2.2 := by
  unfold Dev.prbsCounts
  dsimp only
  repeat' split
  all_goals simp [Moored]

@[simp] theorem Dev.glRegWrite_moored (d : Dev) (e off : Nat) (v : Word) : Moored d (Dev.glRegWrite d e off v) := by
  unfold Dev.glRegWrite
  extract_lets w m c
  have hm {f : Dev → Dev} (h : ∀ d, Moored d (f d)) : Moored d (m f) := .glWrite h
  have hc {f : Dev → Dev} (h : ∀ d, Moored d (f d)) : Moored d (c f) := .glWrite h
  refine .ite (hm ?_) (.ite (hm ?_) (.ite (hm ?_) (.ite (hm ?_) (.ite (hm ?_) (.ite (hm ?_) (.ite (hm ?_) (.ite (hm ?_)
    (.ite (hc ?_) (.ite (hc ?_) (.ite (hc ?_) (.ite (hc ?_) (.ite (hc ?_) (hm ?_)))))))))))))
  all_goals simp [Moored]

@[simp] theorem Dev.writeDword_moored (d : Dev) (e off : Nat) (v : Word) : Moored d (Dev.writeDword d e off v) := by
  simp [Moored, Dev.writeDword]

/-! ### The rows that change the Balance domain or the polders -/

theorem doOpModeSetDevice_moored (c : CmdRef) (io : Io) (d : Dev) : Moored d (doOpModeSetDevice c io d) := by
  refine .step1 fun x => ?_
  dsimp only
  repeat' split
  all_goals simp [Moored]

theorem doSysRstN_moored (d : Dev) : Moored d (doSysRstN d) := by
  simp [Moored, doSysRstN]

theorem doLoadStart_moored (flash : List Byte) (d : Dev) : Moored d (doLoadStart flash d) := by
  simp [Moored, doLoadStart]

theorem doImageRejected_moored (src cause version : Nat) (d : Dev) : Moored d (doImageRejected src cause version d) := by
  simp [Moored, doImageRejected]

theorem doCorePllLockTimeout_moored (d : Dev) : Moored d (doCorePllLockTimeout d) := by
  simp [Moored, doCorePllLockTimeout]

theorem doThermalTrip_moored (temps : List Nat) (d : Dev) : Moored d (doThermalTrip temps d) := by
  simp [Moored, doThermalTrip]

theorem doDrainComplete_moored (d : Dev) : Moored d (doDrainComplete d) := by
  simp [Moored, doDrainComplete]

theorem doDrainLimitExpiry_moored (d : Dev) : Moored d (doDrainLimitExpiry d) := by
  simp [Moored, doDrainLimitExpiry]

theorem doOpModeSetPolder_moored (c : CmdRef) (io : Io) (d : Dev) : Moored d (doOpModeSetPolder c io d) := by
  refine .step1 fun x => ?_
  dsimp only
  repeat' split
  all_goals simp [Moored]

theorem doOpPolderDefineDefine_moored (c : CmdRef) (io : Io) (d : Dev) : Moored d (doOpPolderDefineDefine c io d) := by
  refine .step1 fun x => ?_
  simp [Moored]

theorem doOpPolderDefineModify_moored (c : CmdRef) (io : Io) (d : Dev) : Moored d (doOpPolderDefineModify c io d) := by
  refine .step1 fun x => ?_
  simp [Moored]

theorem doOpPolderDefineUndefine_moored (c : CmdRef) (io : Io) (d : Dev) : Moored d (doOpPolderDefineUndefine c io d) := by
  refine .step1 fun x => ?_
  dsimp only
  repeat' split
  all_goals simp [Moored]

theorem doOpSluiceSet_moored (c : CmdRef) (io : Io) (d : Dev) : Moored d (doOpSluiceSet c io d) := by
  refine .step1 fun x => ?_
  dsimp only
  repeat' split
  all_goals simp [Moored]

theorem doOpDiagLoopback_moored (c : CmdRef) (io : Io) (d : Dev) : Moored d (doOpDiagLoopback c io d) := by
  refine .step1 fun x => ?_
  dsimp only
  repeat' split
  all_goals simp [Moored]

theorem doOpDiagPrbsStart_moored (c : CmdRef) (io : Io) (d : Dev) : Moored d (doOpDiagPrbsStart c io d) := by
  refine .step1 fun x => ?_
  dsimp only
  repeat' split
  all_goals simp [Moored]

theorem doOpDiagPrbsRead_moored (c : CmdRef) (io : Io) (d : Dev) : Moored d (doOpDiagPrbsRead c io d) := by
  refine .step1 fun x => ?_
  dsimp only
  repeat' split
  all_goals simp [Moored]

theorem doOpDiagPrbsStop_moored (c : CmdRef) (io : Io) (d : Dev) : Moored d (doOpDiagPrbsStop c io d) := by
  refine .step1 fun x => ?_
  dsimp only
  repeat' split
  all_goals simp [Moored]

theorem doRxQueueStarved_moored (ep q : Nat) (d : Dev) : Moored d (doRxQueueStarved ep q d) := by
  unfold doRxQueueStarved
  dsimp only
  repeat' split
  all_goals simp [Moored]

theorem doReseqGapTimeout_moored (pipe stream : Nat) (d : Dev) : Moored d (doReseqGapTimeout pipe stream d) := by
  unfold doReseqGapTimeout
  repeat' split
  all_goals simp [Moored]

theorem doMcCopyHoldDrop_moored (port m : Nat) (d : Dev) : Moored d (doMcCopyHoldDrop port m d) := by
  unfold doMcCopyHoldDrop
  dsimp only
  repeat' split
  all_goals simp [Moored]

theorem doMsixDelayExpiry_moored (e v : Nat) (d : Dev) : Moored d (doMsixDelayExpiry e v d) := by
  simp [Moored, doMsixDelayExpiry]

theorem doConfirmTimeout_moored (pid : Nat) (d : Dev) : Moored d (doConfirmTimeout pid d) := by
  unfold doConfirmTimeout
  repeat' split
  all_goals simp [Moored]

theorem doPfcRefresh_moored (port : Nat) (d : Dev) : Moored d (doPfcRefresh port d) := by
  simp [Moored, doPfcRefresh]

theorem doPauseTimerExpiry_moored (port cls : Nat) (d : Dev) : Moored d (doPauseTimerExpiry port cls d) := by
  unfold doPauseTimerExpiry
  repeat' split
  all_goals simp [Moored]

theorem doPauseStorm_moored (port queue : Nat) (d : Dev) : Moored d (doPauseStorm port queue d) := by
  unfold doPauseStorm
  repeat' split
  all_goals simp [Moored]

theorem doPauseBreakEnd_moored (port queue : Nat) (d : Dev) : Moored d (doPauseBreakEnd port queue d) := by
  unfold doPauseBreakEnd
  repeat' split
  all_goals simp [Moored]

theorem doLinkLossDeclared_moored (port cause lane : Nat) (held : Bool) (d : Dev) : Moored d (doLinkLossDeclared port cause lane held d) := by
  unfold doLinkLossDeclared
  extract_lets l d1
  split
  · exact ⟨rfl, rfl, rfl, rfl⟩
  · split
    · split <;> simp [Moored]
    · have h1 : Moored d d1 := by
        unfold d1
        split <;> simp [Moored]
      exact .trans h1 (by simp +zetaDelta [Moored])

theorem doHoldExpiry_moored (port : Nat) (d : Dev) : Moored d (doHoldExpiry port d) := by
  simp [Moored, doHoldExpiry]

theorem doLaneRecheck_moored (l : Nat) (gone : List Nat) (d : Dev) : Moored d (doLaneRecheck l gone d) := by
  simp [Moored, doLaneRecheck]

theorem doRealignTimeout_moored (port : Nat) (d : Dev) : Moored d (doRealignTimeout port d) := by
  simp [Moored, doRealignTimeout]

theorem doTrainingRestart_moored (port : Nat) (d : Dev) : Moored d (doTrainingRestart port d) := by
  unfold doTrainingRestart
  repeat' split
  all_goals simp [Moored]

theorem doTrainingTimeout_moored (port phase : Nat) (d : Dev) : Moored d (doTrainingTimeout port phase d) := by
  simp [Moored, doTrainingTimeout]

theorem doPipelineSleepEntry_moored (pipe : Nat) (d : Dev) : Moored d (doPipelineSleepEntry pipe d) := by
  simp [Moored, doPipelineSleepEntry]

theorem doLearnApplyLag_moored (quad : Nat) (d : Dev) : Moored d (doLearnApplyLag quad d) := by
  unfold doLearnApplyLag
  repeat' split
  all_goals simp [Moored]

theorem doAvsConfirmTimeout_moored (d : Dev) : Moored d (doAvsConfirmTimeout d) := by
  simp [Moored, doAvsConfirmTimeout]

theorem doLiveWindowExpiry_moored (src : Nat) (d : Dev) : Moored d (doLiveWindowExpiry src d) := by
  unfold doLiveWindowExpiry
  repeat' split
  all_goals simp [Moored]

theorem doAgingVisit_moored (quad : Nat) (d : Dev) : Moored d (doAgingVisit quad d) := by
  simp [Moored, doAgingVisit]

theorem doRetirementTimerExpiry_moored (d : Dev) : Moored d (doRetirementTimerExpiry d) := by
  simp [Moored, doRetirementTimerExpiry]

theorem doPlaneFailure_moored (plane pipe cause : Nat) (d : Dev) : Moored d (doPlaneFailure plane pipe cause d) := by
  simp [Moored, doPlaneFailure]

theorem doPlaneSelfCheck_moored (plane : Nat) (ok : Bool) (d : Dev) : Moored d (doPlaneSelfCheck plane ok d) := by
  simp [Moored, doPlaneSelfCheck]

theorem doShaperWheelFire_moored (bucket : Nat) (d : Dev) : Moored d (doShaperWheelFire bucket d) := by
  unfold doShaperWheelFire
  repeat' split
  all_goals simp [Moored]

theorem doCoarseWheelSlot_moored (pipe slot : Nat) (d : Dev) : Moored d (doCoarseWheelSlot pipe slot d) := by
  simp [Moored, doCoarseWheelSlot]

theorem doTideGateChange_moored (port : Nat) (d : Dev) : Moored d (doTideGateChange port d) := by
  unfold doTideGateChange
  repeat' split
  all_goals simp [Moored]

theorem doGaugeSample_moored (port : Nat) (d : Dev) : Moored d (doGaugeSample port d) := by
  simp [Moored, doGaugeSample]

theorem doTideCctReached_moored (port : Nat) (d : Dev) : Moored d (doTideCctReached port d) := by
  unfold doTideCctReached
  repeat' split
  all_goals simp [Moored]

theorem doGaugeIntervalEnd_moored (port : Nat) (d : Dev) : Moored d (doGaugeIntervalEnd port d) := by
  simp [Moored, doGaugeIntervalEnd]

theorem doEpochEnd_moored (d : Dev) : Moored d (doEpochEnd d) := by
  simp [Moored, doEpochEnd]

theorem doBankFreeze_moored (polder : Nat) (d : Dev) : Moored d (doBankFreeze polder d) := by
  unfold doBankFreeze
  repeat' split
  all_goals simp [Moored]

theorem doWeirExchange_moored (d : Dev) : Moored d (doWeirExchange d) := by
  simp [Moored, doWeirExchange]

theorem doWeirHoldRelease_moored (weir port cls : Nat) (d : Dev) : Moored d (doWeirHoldRelease weir port cls d) := by
  unfold doWeirHoldRelease
  dsimp only
  repeat' split
  all_goals simp [Moored]

theorem doPpsOutEdge_moored (d : Dev) : Moored d (doPpsOutEdge d) := by
  unfold doPpsOutEdge
  split
  · exact ⟨rfl, rfl, rfl, rfl⟩
  · exact (d.reachNs_moored _).pps _ _

theorem doAtPpsTimeout_moored (d : Dev) : Moored d (doAtPpsTimeout d) := by
  unfold doAtPpsTimeout
  dsimp only
  repeat' split
  all_goals simp [Moored]

theorem doSlewComplete_moored (d : Dev) : Moored d (doSlewComplete d) := by
  simp [Moored, doSlewComplete]

theorem doFaultReport_moored (d : Dev) : Moored d (doFaultReport d) := by
  simp [Moored, doFaultReport]

theorem doGraceTimerExpiry_moored (src : Nat) (d : Dev) : Moored d (doGraceTimerExpiry src d) := by
  unfold doGraceTimerExpiry
  repeat' split
  all_goals simp [Moored]

theorem doCriticalGraceExpiry_moored (src : Nat) (d : Dev) : Moored d (doCriticalGraceExpiry src d) := by
  unfold doCriticalGraceExpiry
  repeat' split
  all_goals simp [Moored]

theorem doSuppressionSummary_moored (slot : Nat) (d : Dev) : Moored d (doSuppressionSummary slot d) := by
  simp [Moored, doSuppressionSummary]

theorem doHourmark_moored (d : Dev) : Moored d (doHourmark d) := by
  simp [Moored, doHourmark]

theorem doLogFreezeLimit_moored (d : Dev) : Moored d (doLogFreezeLimit d) := by
  simp [Moored, doLogFreezeLimit]

theorem doImageLoadAccepted_moored (src : Nat) (img : List Byte) (tables : ImageTables) (fuseBad : Bool) (d : Dev) : Moored d (doImageLoadAccepted src img tables fuseBad d) := by
  unfold doImageLoadAccepted
  generalize layout115 = layout
  split
  · exact ⟨rfl, rfl, rfl, rfl⟩
  · split
    · simp [Moored]
    · extract_lets man m ss
      split
      · split
        · exact ⟨rfl, rfl, rfl, rfl⟩
        · simp +zetaDelta [Moored, doPowerOnScanDone]
      · exact ⟨rfl, rfl, rfl, rfl⟩

theorem doCorePllLockLoss_moored (d : Dev) : Moored d (doCorePllLockLoss d) := by
  simp [Moored, doCorePllLockLoss]

theorem doRef100Loss_moored (d : Dev) : Moored d (doRef100Loss d) := by
  simp [Moored, doRef100Loss]

theorem doThermNCrossing_moored (temps : List Nat) (d : Dev) : Moored d (doThermNCrossing temps d) := by
  simp [Moored, doThermNCrossing]

theorem doCalibrationPass_moored (temps : List Nat) (d : Dev) : Moored d (doCalibrationPass temps d) := by
  simp [Moored, doCalibrationPass]

theorem doRef100Return_moored (d : Dev) : Moored d (doRef100Return d) := by
  simp [Moored, doRef100Return]

theorem doSerdesRefLoss_moored (d : Dev) : Moored d (doSerdesRefLoss d) := by
  simp [Moored, doSerdesRefLoss]

theorem doSerdesRefReturn_moored (d : Dev) : Moored d (doSerdesRefReturn d) := by
  simp [Moored, doSerdesRefReturn]

theorem doMgmtPllLockLoss_moored (d : Dev) : Moored d (doMgmtPllLockLoss d) := by
  simp [Moored, doMgmtPllLockLoss]

theorem doMemMarginBroken_moored (mem core : Nat) (d : Dev) : Moored d (doMemMarginBroken mem core d) := by
  simp [Moored, doMemMarginBroken]

theorem doAvsWrite_moored (mv : Nat) (confirm : Bool) (d : Dev) : Moored d (doAvsWrite mv confirm d) := by
  simp [Moored, doAvsWrite]

theorem doTapInstruction_moored (i : TapInstr) (d : Dev) : Moored d (doTapInstruction i d) := by
  unfold doTapInstruction
  dsimp only
  repeat' split
  all_goals simp [Moored]

theorem doSetupRegisterWrite_moored (ep off width : Nat) (v : BitVec 64) (d : Dev) : Moored d (doSetupRegisterWrite ep off width v d) := by
  simp [Moored, doSetupRegisterWrite]

theorem doSmbusTokenLoad_moored (data : List Byte) (pec : Option Byte) (d : Dev) : Moored d (doSmbusTokenLoad data pec d) := by
  simp [Moored, doSmbusTokenLoad]

theorem doLedFrame_moored (d : Dev) : Moored d (doLedFrame d) := by
  simp [Moored, doLedFrame]

theorem doRailOutOfTolerance_moored (rail mv : Nat) (d : Dev) : Moored d (doRailOutOfTolerance rail mv d) := by
  unfold doRailOutOfTolerance
  dsimp only
  repeat' split
  all_goals simp [Moored]

/-! ### The warden -/

theorem WardenStands.of_moored {d e : Dev} (h : WardenStands d) (hm : Moored d e) : WardenStands e := by
  obtain ⟨hs, hp, hw, hc⟩ := hm
  obtain ⟨hpresent, hchal⟩ := h
  refine ⟨?_, fun h => ?_⟩
  · rw [Dev.present, Dev.epCount, hs, hw]
    exact hpresent
  · rw [hc]
    exact hchal (hp ▸ h)

theorem present_zero (d : Dev) : d.present 0 = true := by
  refine decide_eq_true ?_
  unfold Dev.epCount
  split <;> decide

/-- A value drawn for CHALLENGE is not 0. -/
theorem challenge_ne_zero {v : Nat} (hv : v < 2 ^ 64) : (if v = 0 then 1 else BitVec.ofNat 64 v) ≠ 0 := by
  split
  · decide
  next h =>
    intro h0
    have := congrArg BitVec.toNat h0
    rw [BitVec.toNat_ofNat, Nat.mod_eq_of_lt hv] at this
    exact h this

theorem drawChallenge_ne_zero (d : Dev) : (d.drawChallenge).plc.challenge ≠ 0 :=
  challenge_ne_zero (Nat.mod_lt _ (Nat.two_pow_pos 64))

theorem WardenStands.drawChallenge {d : Dev} (h : d.present d.plc.warden = true) : WardenStands d.drawChallenge :=
  ⟨h, fun _ => drawChallenge_ne_zero d⟩

/-- A handover names an endpoint that is present, and draws a new CHALLENGE; a token that fails leaves both. -/
theorem WardenStands.handover {d : Dev} (h : WardenStands d) (t : List Byte) (smbus : Bool) :
    WardenStands (d.handover t smbus).2 := by
  unfold Dev.handover
  dsimp only
  split
  · exact h.of_moored (by simp [Moored])
  next hcheck =>
    have hw : d.present (fld (leNat t) 6 0 2) = true := by
      by_contra habsent
      rw [Bool.not_eq_true] at habsent
      simp only [Dev.tokenCheck, habsent, Bool.not_false, Bool.true_or, if_true] at hcheck
      repeat' split at hcheck
      all_goals cases hcheck
    have hnew (d' : Dev) (hb : d'.bal = d.bal) (hd : d'.plc.warden = fld (leNat t) 6 0 2) (hc : d'.plc.challenge ≠ 0) :
        WardenStands d' := ⟨by rw [Dev.present, Dev.epCount, hb, hd]; exact hw, fun _ => hc⟩
    refine hnew _ (by simp) (by simp [Dev.drawChallenge]) ?_
    simpa using drawChallenge_ne_zero _

theorem WardenStands.doSmbusTokenApply {d : Dev} (h : WardenStands d) (pec : Option Byte) :
    WardenStands (doSmbusTokenApply pec d) := by
  unfold Machine.doSmbusTokenApply
  split
  · exact h
  · exact (h.handover d.tokenBytes true).of_moored ⟨rfl, rfl, rfl, rfl⟩

theorem WardenStands.doOpWardenHandover {d : Dev} (h : WardenStands d) (c : CmdRef) (io : Io) :
    WardenStands (doOpWardenHandover c io d) := by
  have hstep {f : Dev → Cmd → Dev} (hf : ∀ x, WardenStands (f d x)) : WardenStands (d.step1 c (isOp 0x82) f) := by
    unfold Dev.step1
    repeat' split
    · exact hf _
    · exact h
    · exact h
  refine hstep fun x => ?_
  split
  next bs _ =>
    have hb := h.handover (bs.map (BitVec.ofNat 8)) false
    split
    all_goals
      next hr =>
        rw [hr] at hb
        exact hb.of_moored (by simp [Moored])
  · repeat' split
    all_goals exact h.of_moored (by simp [Moored])

/-- The straps are sampled: the warden that they name, or endpoint 0, is present, and CHALLENGE is drawn. -/
theorem WardenStands.doPorNDeassert {d : Dev} (h : WardenStands d) (straps broken : List Nat) :
    WardenStands (doPorNDeassert straps broken d) := by
  unfold Machine.doPorNDeassert
  split
  · exact h
  · extract_lets s eff b0 d1 warden p0 t0 d2 e0 d3 d4 s1 s2 s3 l1 l2 l3 rules m
    have hw : d1.present warden = true := by
      unfold warden
      split
      · assumption
      · exact present_zero d1
    have h3 : d3.present d3.plc.warden = true := by
      unfold d3
      split <;> exact hw
    refine (WardenStands.drawChallenge h3).of_moored ?_
    have hm : Moored l3 m := by
      clear_value rules
      unfold m
      split <;> simp [Moored]
    have hl : Moored d3.drawChallenge l3 := by simp [l3, l2, l1, s3, s2, s1, d4, Moored]
    exact (hl.trans hm).trans (by simp [Moored])

theorem WardenStands.doPorNAssert {d : Dev} (h : WardenStands d) : WardenStands (doPorNAssert d) := by
  unfold Machine.doPorNAssert
  split
  · exact h
  · exact ⟨rfl, fun h => nomatch h⟩

/-- A row keeps the warden present and CHALLENGE other than 0. -/
theorem WardenStands.exec {i : Instr} {s t : State} (h : WardenStands s.dev) (he : exec i s = .next t) : WardenStands t.dev := by
  by_cases hi : Area.bal ∈ rowAreas i ∨ Area.plc ∈ rowAreas i
  · cases i
    case opModeSetDevice c io => cases he; exact h.of_moored (doOpModeSetDevice_moored c io _)
    case sysRstN => cases he; exact h.of_moored (doSysRstN_moored _)
    case loadStart => cases he; exact h.of_moored (doLoadStart_moored _ _)
    case glBootCtrlGo => cases he; exact h.of_moored (doGlBootCtrlGo_moored _ _)
    case imageRejected => cases he; exact h.of_moored (doImageRejected_moored _ _ _ _)
    case corePllLockTimeout => cases he; exact h.of_moored (doCorePllLockTimeout_moored _)
    case thermalTrip => cases he; exact h.of_moored (doThermalTrip_moored _ _)
    case drainComplete => cases he; exact h.of_moored (doDrainComplete_moored _)
    case drainLimitExpiry => cases he; exact h.of_moored (doDrainLimitExpiry_moored _)
    case opModeSetPolder c io => cases he; exact h.of_moored (doOpModeSetPolder_moored c io _)
    case opPolderDefineDefine c io => cases he; exact h.of_moored (doOpPolderDefineDefine_moored c io _)
    case opPolderDefineModify c io => cases he; exact h.of_moored (doOpPolderDefineModify_moored c io _)
    case opPolderDefineUndefine c io => cases he; exact h.of_moored (doOpPolderDefineUndefine_moored c io _)
    case opSluiceSet c io => cases he; exact h.of_moored (doOpSluiceSet_moored c io _)
    case opWardenHandover => cases he; exact h.doOpWardenHandover _ _
    case opDiagLoopback c io => cases he; exact h.of_moored (doOpDiagLoopback_moored c io _)
    case opDiagPrbsStart c io => cases he; exact h.of_moored (doOpDiagPrbsStart_moored c io _)
    case opDiagPrbsRead c io => cases he; exact h.of_moored (doOpDiagPrbsRead_moored c io _)
    case opDiagPrbsStop c io => cases he; exact h.of_moored (doOpDiagPrbsStop_moored c io _)
    case rxQueueStarved => cases he; exact h.of_moored (doRxQueueStarved_moored _ _ _)
    case reseqGapTimeout => cases he; exact h.of_moored (doReseqGapTimeout_moored _ _ _)
    case mcCopyHoldDrop => cases he; exact h.of_moored (doMcCopyHoldDrop_moored _ _ _)
    case msixDelayExpiry => cases he; exact h.of_moored (doMsixDelayExpiry_moored _ _ _)
    case confirmTimeout => cases he; exact h.of_moored (doConfirmTimeout_moored _ _)
    case pfcRefresh => cases he; exact h.of_moored (doPfcRefresh_moored _ _)
    case pauseTimerExpiry => cases he; exact h.of_moored (doPauseTimerExpiry_moored _ _ _)
    case pauseStorm => cases he; exact h.of_moored (doPauseStorm_moored _ _ _)
    case pauseBreakEnd => cases he; exact h.of_moored (doPauseBreakEnd_moored _ _ _)
    case linkLossDeclared => cases he; exact h.of_moored (doLinkLossDeclared_moored _ _ _ _ _)
    case holdExpiry => cases he; exact h.of_moored (doHoldExpiry_moored _ _)
    case laneRecheck => cases he; exact h.of_moored (doLaneRecheck_moored _ _ _)
    case realignTimeout => cases he; exact h.of_moored (doRealignTimeout_moored _ _)
    case trainingRestart => cases he; exact h.of_moored (doTrainingRestart_moored _ _)
    case trainingTimeout => cases he; exact h.of_moored (doTrainingTimeout_moored _ _ _)
    case pipelineSleepEntry => cases he; exact h.of_moored (doPipelineSleepEntry_moored _ _)
    case learnApplyLag => cases he; exact h.of_moored (doLearnApplyLag_moored _ _)
    case avsConfirmTimeout => cases he; exact h.of_moored (doAvsConfirmTimeout_moored _)
    case liveWindowExpiry => cases he; exact h.of_moored (doLiveWindowExpiry_moored _ _)
    case agingVisit => cases he; exact h.of_moored (doAgingVisit_moored _ _)
    case retirementTimerExpiry => cases he; exact h.of_moored (doRetirementTimerExpiry_moored _)
    case planeFailure => cases he; exact h.of_moored (doPlaneFailure_moored _ _ _ _)
    case planeSelfCheck => cases he; exact h.of_moored (doPlaneSelfCheck_moored _ _ _)
    case shaperWheelFire => cases he; exact h.of_moored (doShaperWheelFire_moored _ _)
    case coarseWheelSlot => cases he; exact h.of_moored (doCoarseWheelSlot_moored _ _ _)
    case tideGateChange => cases he; exact h.of_moored (doTideGateChange_moored _ _)
    case gaugeSample => cases he; exact h.of_moored (doGaugeSample_moored _ _)
    case tideCctReached => cases he; exact h.of_moored (doTideCctReached_moored _ _)
    case gaugeIntervalEnd => cases he; exact h.of_moored (doGaugeIntervalEnd_moored _ _)
    case epochEnd => cases he; exact h.of_moored (doEpochEnd_moored _)
    case bankFreeze => cases he; exact h.of_moored (doBankFreeze_moored _ _)
    case weirExchange => cases he; exact h.of_moored (doWeirExchange_moored _)
    case weirHoldRelease => cases he; exact h.of_moored (doWeirHoldRelease_moored _ _ _ _)
    case ppsOutEdge => cases he; exact h.of_moored (doPpsOutEdge_moored _)
    case atPpsTimeout => cases he; exact h.of_moored (doAtPpsTimeout_moored _)
    case slewComplete => cases he; exact h.of_moored (doSlewComplete_moored _)
    case faultReport => cases he; exact h.of_moored (doFaultReport_moored _)
    case graceTimerExpiry => cases he; exact h.of_moored (doGraceTimerExpiry_moored _ _)
    case criticalGraceExpiry => cases he; exact h.of_moored (doCriticalGraceExpiry_moored _ _)
    case suppressionSummary => cases he; exact h.of_moored (doSuppressionSummary_moored _ _)
    case hourmark => cases he; exact h.of_moored (doHourmark_moored _)
    case logFreezeLimit => cases he; exact h.of_moored (doLogFreezeLimit_moored _)
    case porNDeassert => cases he; exact h.doPorNDeassert _ _
    case porNAssert => cases he; exact h.doPorNAssert
    case imageLoadAccepted => cases he; exact h.of_moored (doImageLoadAccepted_moored _ _ _ _ _)
    case corePllLockLoss => cases he; exact h.of_moored (doCorePllLockLoss_moored _)
    case ref100Loss => cases he; exact h.of_moored (doRef100Loss_moored _)
    case thermNCrossing => cases he; exact h.of_moored (doThermNCrossing_moored _ _)
    case calibrationPass => cases he; exact h.of_moored (doCalibrationPass_moored _ _)
    case ref100Return => cases he; exact h.of_moored (doRef100Return_moored _)
    case serdesRefLoss => cases he; exact h.of_moored (doSerdesRefLoss_moored _)
    case serdesRefReturn => cases he; exact h.of_moored (doSerdesRefReturn_moored _)
    case mgmtPllLockLoss => cases he; exact h.of_moored (doMgmtPllLockLoss_moored _)
    case memMarginBroken => cases he; exact h.of_moored (doMemMarginBroken_moored _ _ _)
    case avsWrite => cases he; exact h.of_moored (doAvsWrite_moored _ _ _)
    case tapInstruction code =>
      replace he : execTapInstruction code s = .next t := he
      unfold execTapInstruction at he
      split at he
      · cases he
      · cases he; exact h.of_moored (doTapInstruction_moored _ _)
    case setupRegisterWrite => cases he; exact h.of_moored (doSetupRegisterWrite_moored _ _ _ _ _)
    case smbusTokenLoad => cases he; exact h.of_moored (doSmbusTokenLoad_moored _ _ _)
    case smbusTokenApply => cases he; exact h.doSmbusTokenApply _
    case ledFrame => cases he; exact h.of_moored (doLedFrame_moored _)
    case railOutOfTolerance => cases he; exact h.of_moored (doRailOutOfTolerance_moored _ _ _)
    all_goals simp [rowAreas] at hi
  · rw [not_or] at hi
    have hbal := (exec_onlyIn he).2 _ hi.1
    have hplc := (exec_onlyIn he).2 _ hi.2
    simp only [Area.same] at hbal hplc
    exact h.of_moored (by simp [Moored, hbal, hplc])

/-- Settles O56: the warden and CHALLENGE change with POR_N and with a handover alone. -/
theorem everyStepKeepsTheWarden : Obligations.EveryStepKeepsTheWarden := by
  intro s t h hs
  obtain ⟨i, rest, -, hi⟩ | ⟨-, rfl⟩ := step_next_cases hs
  · exact WardenStands.exec (s := { s with pending := rest }) h hi
  · exact h.of_moored ⟨rfl, rfl, rfl, rfl⟩

end Sys2Proof.Machine
end

section
/-! PROOFS. The queue of commands: what a step runs, what a command answers, and the state after reset. -/
namespace Sys2Proof.Machine

/-- Settles O52: `step` is defined so. -/
theorem stepRunsFrontCommand : Obligations.StepRunsFrontCommand := fun _ _ _ => rfl

/-- Settles O53: an empty queue is one tick of `Dev.pass`. -/
theorem emptyQueueTicks : Obligations.EmptyQueueTicks := by
  intro s hs
  refine ⟨{ s with dev := s.dev.pass 1 }, ?_, hs, rfl, ⟨rfl, fun p hp => ?_⟩, fun hcold => ?_⟩
  · simp [step, hs]
  · cases p
    case bal => simp at hp
    case tmu => simp at hp
    all_goals rfl
  · simp [Dev.pass, hcold]

/-- Every row but a TAP instruction answers a next state. -/
theorem exec_next {i : Instr} (h : ∀ code, i ≠ .tapInstruction code) (s : State) : ∃ t, exec i s = .next t := by
  cases i
  case tapInstruction code => exact absurd rfl (h code)
  all_goals exact ⟨_, rfl⟩

/-- Settles O54: only a TAP instruction can be refused, and only where the fuses leave it decoded as undocumented debug. -/
theorem everyCommandAnswers : Obligations.EveryCommandAnswers := by
  intro i s
  by_cases htap : ∀ code, i ≠ .tapInstruction code
  · obtain ⟨t, ht⟩ := exec_next htap s
    exact ⟨fun _ => ⟨t, ht, (exec_onlyIn ht).1⟩, fun code hi => absurd hi (htap code)⟩
  · push Not at htap
    obtain ⟨code, rfl⟩ := htap
    refine ⟨fun hdec => ⟨{ s with dev := doTapInstruction code s.dev }, if_neg (hdec code rfl), rfl⟩, fun code' hc hdec => ?_⟩
    cases hc
    exact if_pos hdec

/-- Settles O59: endpoint 0 is always present, and every running register is 0. -/
theorem resetMeetsTheInvariants : Obligations.ResetMeetsTheInvariants := by
  refine ⟨⟨by decide, fun _ => ?_⟩, fun n => ?_, rfl⟩
  · exact challenge_ne_zero (Nat.mod_lt _ (Nat.two_pow_pos 64))
  · exact Nat.two_pow_pos _

end Sys2Proof.Machine
end

section
/-! PROOFS. The commands that act on commands or report state complete (02 R56, R69, R71, R73). -/
namespace Sys2Proof.Machine

/-- A change of a command by another reference leaves the command that a reference finds. -/
theorem cmd?_modCmd_of_ne {d : Dev} {c r : CmdRef} {x : Cmd} {f : Cmd → Cmd} (hf : ∀ y, names c (f y) = names c y)
    (hx : d.cmd? c = some x) (hne : names r x = false) : (d.modCmd r f).cmd? c = some x := by
  unfold Dev.modCmd Dev.cmd? at *
  rw [ep_modEp]
  split
  next he =>
    have hkeep : names c ∘ (fun y => if names r y then f y else y) = names c := by
      funext y
      simp only [Function.comp_apply]
      split
      · exact hf y
      · rfl
    rw [he]
    dsimp only
    rw [List.find?_map, hkeep, hx]
    simp [hne]
  · exact hx

theorem cmd?_hif {d d' : Dev} (h : d'.hif = d.hif) (c : CmdRef) : d'.cmd? c = d.cmd? c := by simp [Dev.cmd?, Dev.ep, h]

theorem cmd?_endedSweep (d : Dev) (c : CmdRef) : d.endedSweep.cmd? c = d.cmd? c := cmd?_hif (by simp) c

theorem isRunning_hostOut {d : Dev} {c : CmdRef} {x : Cmd} (h : d.isRunning c x) (e a : Nat) (bs : List Byte) (err : Bool) :
    (d.hostOut e a bs err).isRunning c x := isRunning_congr (by simp) h

/-- A change of a command that keeps its ring and its position. -/
theorem names_keep {c : CmdRef} {f : Cmd → Cmd} (hr : ∀ y, (f y).ring = y.ring) (hp : ∀ y, (f y).pos = y.pos) (y : Cmd) :
    names c (f y) = names c y := by
  simp [names, hr, hp]

/-- A command that ends leaves every other one. -/
theorem cmd?_finish_of_ne {d : Dev} {c r : CmdRef} {x : Cmd} {o : Done} (hx : d.cmd? c = some x) (hne : names r x = false) :
    (d.finish r o).cmd? c = some x :=
  cmd?_modCmd_of_ne (names_keep (fun y => by split <;> rfl) (fun y => by split <;> rfl)) hx hne

/-- A command that goes on keeps its record of what it has done. -/
theorem again_scratch {d : Dev} {c : CmdRef} {x : Cmd} (h : d.isRunning c x) (l : List Nat) :
    (d.again c l).cmd? c = some { x with executing := false, steps := x.steps + 1, scratch := l } := by
  obtain ⟨hx, -, -, hm⟩ := h
  unfold Dev.again
  rw [cmd?_modCmd _ _ _ (names_keep (fun y => by split <;> rfl) (fun y => by split <;> rfl)), hx]
  simp [hm]

/-- The pairs that a fence records at its first step are the rings that it names, with their P. -/
theorem doOpFence_first {d : Dev} {c : CmdRef} {io : Io} {x : Cmd} (h : d.isRunning c x) (hop : isOp 0x01 x = true)
    (hs : x.scratch = []) : doOpFence c io d =
      if (setBits (x.fld 16 0 64) 64).any (fun n => d.fenceWaits c n (d.cr c.ep n).p) then
        d.again c (1 :: (setBits (x.fld 16 0 64) 64).flatMap (fun n => [n, (d.cr c.ep n).p.toNat]))
      else d.ok c := by
  unfold doOpFence
  rw [step1_run h hop]
  simp only [hs, List.tail_cons, fencePairs_flatMap _ (fun n => (d.cr c.ep n).p), List.any_map]
  rfl

/-- A target that waits for an engine is marked and ends aborted (02 R71). -/
theorem doOpAbort_waiting {d : Dev} {c : CmdRef} {io : Io} {x y : Cmd} (h : d.isRunning c x) (hop : isOp 0x02 x = true)
    (hy : (d.ep c.ep).cmds.find? (fun y => decide (y.ring = x.fld 16 0 6 ∧ y.pos.toNat % 2 ^ 20 = x.fld 20 0 20)) = some y)
    (hex : y.executing = false) (hout : y.outcome = none) : doOpAbort c io d =
      ((d.modCmd { ep := c.ep, ring := y.ring, pos := y.pos }
        (fun z => { z with marked := true, outcome := some (abortedDone z.steps) })).endedSweep).ok c := by
  unfold doOpAbort
  rw [step1_run h hop]
  dsimp only
  rw [hy]
  simp [hex, hout]

/-- The command that a search of ring and position finds is the one that its own reference names. -/
theorem cmd?_of_find? {d : Dev} {e : Nat} {p : Nat → Word → Bool} {y : Cmd}
    (hy : (d.ep e).cmds.find? (fun y => p y.ring y.pos) = some y) :
    d.cmd? { ep := e, ring := y.ring, pos := y.pos } = some y := by
  have hp : p y.ring y.pos = true := List.find?_some (p := fun y : Cmd => p y.ring y.pos) hy
  obtain ⟨-, as, bs, hl, has⟩ := List.find?_eq_some_iff_append.1 hy
  refine List.find?_eq_some_iff_append.2 ⟨by simp [names], as, bs, hl, fun z hz => ?_⟩
  have := has z hz
  by_contra hn
  simp only [names, Bool.not_eq_true', Bool.not_eq_false, decide_eq_true_eq] at hn
  simp [hn.1, hn.2, hp] at this

/-- Settles O1, by the equation of each row at the command's step. -/
theorem orderingCommandsComplete : Obligations.OrderingCommandsComplete := by
  intro s c io x hrun
  refine ⟨fun hop => ⟨_, rfl, ?_⟩, fun hop hs hw => ⟨_, rfl, ?_⟩, fun hop hs hm hw => ⟨_, rfl, ?_⟩,
    fun y hop hre hy hex hout => ⟨_, rfl, ?_⟩, fun hop hs hpick herr hup => ⟨_, rfl, ?_⟩⟩
  · show (doOpNop c io s.dev).ended c x _
    rw [doOpNop, step1_run hrun hop]
    exact finish_ended hrun
  · show (doOpFence c io s.dev).ended c x _
    rw [doOpFence_first hrun hop hs, if_neg (by simpa using hw)]
    exact ok_ended hrun
  · show (doOpFence c io s.dev).cmd? c = _
    rw [doOpFence_first hrun hop hs, if_pos (by simpa using hw)]
    exact again_scratch hrun _
  · show (doOpAbort c io s.dev).ended c x _ ∧ (doOpAbort c io s.dev).cmd? _ = _
    have hyc : s.dev.cmd? { ep := c.ep, ring := y.ring, pos := y.pos } = some y :=
      cmd?_of_find? (p := fun r q => decide (r = x.fld 16 0 6 ∧ q.toNat % 2 ^ 20 = x.fld 20 0 20)) hy
    obtain ⟨hx, hxe, hxo, hxm⟩ := hrun
    have hdiff : names { ep := c.ep, ring := y.ring, pos := y.pos } x = false := by
      by_contra hn
      have hxn : names c x = true := List.find?_some hx
      simp only [names, Bool.not_eq_false, decide_eq_true_eq] at hn hxn
      have hcr : ({ ep := c.ep, ring := y.ring, pos := y.pos } : CmdRef) = c := by
        rw [← hn.1, ← hn.2, hxn.1, hxn.2]
      rw [hcr, hx, Option.some_inj] at hyc
      rw [← hyc, hxe] at hex
      cases hex
    rw [doOpAbort_waiting ⟨hx, hxe, hxo, hxm⟩ hop hy hex hout]
    have hx' := cmd?_modCmd_of_ne (f := fun z => { z with marked := true, outcome := some (abortedDone z.steps) })
      (names_keep (fun _ => rfl) (fun _ => rfl)) hx hdiff
    have hy' := cmd?_modCmd s.dev { ep := c.ep, ring := y.ring, pos := y.pos }
      (fun z => { z with marked := true, outcome := some (abortedDone z.steps) }) (names_keep (fun _ => rfl) (fun _ => rfl))
    rw [hyc] at hy'
    refine ⟨ok_ended (x := x) ⟨(cmd?_endedSweep ..).trans hx', hxe, hxo, hxm⟩, ?_⟩
    refine cmd?_finish_of_ne ((cmd?_endedSweep ..).trans hy') ?_
    have hcy : names c y = false := by
      by_contra hn
      simp only [names, Bool.not_eq_false, decide_eq_true_eq] at hn hdiff
      have hxn : names c x = true := List.find?_some hx
      simp only [names, decide_eq_true_eq] at hxn
      simp [hn.1, hn.2, hxn.1, hxn.2] at hdiff
    exact hcy
  · show (doOpSurvey c io s.dev).ended c x _ ∧ (doOpSurvey c io s.dev).out = _
    rw [doOpSurvey, step1_run hrun hop]
    simp only [hs, ioChoice, hpick, herr, List.getD_nil, ne_eq, not_true_eq_false, if_false]
    have hrun' : s.dev.takeSurveySeq.isRunning c x := isRunning_eps (d := s.dev) rfl hrun
    constructor
    · convert okBuf_ended (isRunning_hostOut hrun' ..) using 2
      simp [Dev.takeSurveySeq]
    · have hup' : (s.dev.takeSurveySeq.ep c.ep).up = true := hup
      simp [Dev.hostOut, Dev.emit, hup']

end Sys2Proof.Machine
end

section
/-! PROOFS. What the messages, the alarms and the records that leave an endpoint do not touch: its rings, queues and commands. -/
namespace Sys2Proof.Machine

/-- An endpoint but for its messages and alarms, its vector map, its rings of exports and what its accesses leave. -/
def Endpoint.calm (x : Endpoint) : Endpoint :=
  { x with
    gather := [], alarmSummary := 0, alarmOwed := false, vecMap := [], captures := [], gauge := {}, trace := {}, denied := false
    gated := false, badAccess := false }

@[simp] theorem Endpoint.calm_gather (x : Endpoint) (g : Tab VecGather) : ({ x with gather := g } : Endpoint).calm = x.calm := by simp [Endpoint.calm]

@[simp] theorem Endpoint.calm_alarmOwed (x : Endpoint) (b : Bool) : ({ x with alarmOwed := b } : Endpoint).calm = x.calm := by simp [Endpoint.calm]

@[simp] theorem Endpoint.calm_vecMap (x : Endpoint) (m : Tab (BitVec 16)) : ({ x with vecMap := m } : Endpoint).calm = x.calm := by simp [Endpoint.calm]

@[simp] theorem Endpoint.calm_captures (x : Endpoint) (m : Tab (Option Nat)) : ({ x with captures := m } : Endpoint).calm = x.calm := by simp [Endpoint.calm]

@[simp] theorem Endpoint.calm_gauge (x : Endpoint) (r : ExportRing) : ({ x with gauge := r } : Endpoint).calm = x.calm := by simp [Endpoint.calm]

@[simp] theorem Endpoint.calm_trace (x : Endpoint) (r : ExportRing) : ({ x with trace := r } : Endpoint).calm = x.calm := by simp [Endpoint.calm]

@[simp] theorem Endpoint.calm_denied (x : Endpoint) (b : Bool) : ({ x with denied := b } : Endpoint).calm = x.calm := by simp [Endpoint.calm]

@[simp] theorem Endpoint.calm_gated (x : Endpoint) (b : Bool) : ({ x with gated := b } : Endpoint).calm = x.calm := by simp [Endpoint.calm]

@[simp] theorem Endpoint.calm_badAccess (x : Endpoint) (b : Bool) : ({ x with badAccess := b } : Endpoint).calm = x.calm := by simp [Endpoint.calm]

@[simp] theorem Endpoint.calm_alarm (x : Endpoint) (m : BitVec 32) (b : Bool) :
    ({ x with alarmSummary := m, alarmOwed := b } : Endpoint).calm = x.calm := by simp [Endpoint.calm]

/-- The endpoints but for their messages, alarms, rings of exports and what their accesses leave. -/
def Hif.calm (h : Hif) (e : Nat) : Endpoint := (tget h.eps {} e).calm

/-- Endpoints stand but for their messages, alarms, rings of exports and what their accesses leave. -/
abbrev Calm (d d' : Dev) : Prop := d'.hif.calm = d.hif.calm

@[simp] theorem calm_modEp (d : Dev) (e : Nat) (f : Endpoint → Endpoint) (hf : ∀ x, (f x).calm = x.calm) :
    (d.modEp e f).hif.calm = d.hif.calm := by
  funext j
  show ((d.modEp e f).ep j).calm = (d.ep j).calm
  rw [ep_modEp]
  split
  next h => rw [hf, h]
  · rfl

@[simp] theorem calm_ite (c : Prop) [Decidable c] (a b : Hif) : (if c then a else b).calm = if c then a.calm else b.calm :=
  apply_ite _ _ _ _

@[simp] theorem calm_foldl {α : Type} (l : List α) (f : Dev → α → Dev) (h : ∀ d x, (f d x).hif.calm = d.hif.calm) (d : Dev) :
    (l.foldl f d).hif.calm = d.hif.calm := by
  induction l generalizing d with
  | nil => rfl
  | cons x l ih => exact (ih _).trans (h d x)

@[simp] theorem calm_each {α : Type} (l : List α) (f : Dev → α → Dev) (h : ∀ d x, (f d x).hif.calm = d.hif.calm) (d : Dev) :
    (d.each l f).hif.calm = d.hif.calm := calm_foldl l f h d

@[simp] theorem calm_foldl2 {α β : Type} (l : List α) (f : β × Dev → α → β × Dev)
    (h : ∀ a x, (f a x).2.hif.calm = a.2.hif.calm) (a : β × Dev) : (l.foldl f a).2.hif.calm = a.2.hif.calm := by
  induction l generalizing a with
  | nil => rfl
  | cons x l ih => exact (ih _).trans (h a x)

@[simp] theorem calm_foldl3 {α β γ : Type} (l : List α) (f : γ × β × Dev → α → γ × β × Dev)
    (h : ∀ a x, (f a x).2.2.hif.calm = a.2.2.hif.calm) (a : γ × β × Dev) : (l.foldl f a).2.2.hif.calm = a.2.2.hif.calm := by
  induction l generalizing a with
  | nil => rfl
  | cons x l ih => exact (ih _).trans (h a x)

@[simp] theorem calm_foldlP {α β : Type} (l : List α) (f : Dev × β → α → Dev × β)
    (h : ∀ a x, (f a x).1.hif.calm = a.1.hif.calm) (a : Dev × β) : (l.foldl f a).1.hif.calm = a.1.hif.calm := by
  induction l generalizing a with
  | nil => rfl
  | cons x l ih => exact (ih _).trans (h a x)

@[simp] theorem calm_inTurn (d : Dev) (ids : List Nat) (pool : Dev → Nat → Option Pool) (give : Dev → Nat → Dev)
    (h : ∀ d i, (give d i).hif.calm = d.hif.calm) : (d.inTurn ids pool give).hif.calm = d.hif.calm := by
  unfold Dev.inTurn
  dsimp only
  rw [calm_foldl _ _ (by intro d i; split <;> simp [h]), calm_foldl2 _ _ (by intro a i; split <;> simp [h])]

theorem takeFor_hif {d : Dev} {x : Pkt} {pool : Pool} {refs : Nat} {r : Nat × Dev} (h : d.takeFor x pool refs = some r) :
    r.2.hif = d.hif := by
  obtain ⟨-, hhif, -⟩ := Dev.takeFor_frame d x pool refs h
  exact hhif

/-! ### Operations that touch no more of the endpoints -/

@[simp] theorem Dev.modGather_calm (d : Dev) (e v : Nat) (f : VecGather → VecGather) :
    Calm d (Dev.modGather d e v f) := by
  simp [Calm, Dev.modGather]

@[simp] theorem Dev.msixDue_calm (d : Dev) (e v : Nat) : Calm d (Dev.msixDue d e v) := by
  simp [Calm, Dev.msixDue]

@[simp] theorem Dev.signal_calm (d : Dev) (e cause : Nat) : Calm d (Dev.signal d e cause) := by
  simp [Calm, Dev.signal]

@[simp] theorem Dev.alarmTry_calm (d : Dev) (e : Nat) : Calm d (Dev.alarmTry d e) := by
  simp [Calm, Dev.alarmTry]

@[simp] theorem Dev.alarm_calm (d : Dev) (e sev pmask : Nat) : Calm d (Dev.alarm d e sev pmask) := by
  simp [Calm, Dev.alarm]

@[simp] theorem Dev.msixFlush_calm (d : Dev) (e : Nat) : Calm d (Dev.msixFlush d e) := by
  simp [Calm, Dev.msixFlush]

@[simp] theorem Dev.txWriteBack_calm (d : Dev) (ep q addr sec ns status : Nat) :
    Calm d (Dev.txWriteBack d ep q addr sec ns status) := by
  simp [Calm, Dev.txWriteBack]

@[simp] theorem Dev.tidy_calm (d : Dev) (pid : Nat) : Calm d (Dev.tidy d pid) := by
  unfold Dev.tidy
  dsimp only
  repeat' split
  all_goals simp [Calm]

@[simp] theorem Dev.copyEnd_calm (d : Dev) (party : Nat) (e : Ent) (t : Dest) : Calm d (Dev.copyEnd d party e t) := by
  unfold Dev.copyEnd
  repeat' split
  all_goals simp [Calm]

@[simp] theorem Dev.copyDrop_calm (d : Dev) (party : Nat) (e : Ent) (t : Dest) (c : Ctr) (i : Nat) :
    Calm d (Dev.copyDrop d party e t c i) := by
  unfold Dev.copyDrop
  repeat' split
  all_goals simp [Calm]

@[simp] theorem Dev.freeQueue_calm (d : Dev) (k : Nat) (c : Ctr) (byIngress : Bool) :
    Calm d (Dev.freeQueue d k c byIngress).2.2 := by
  unfold Dev.freeQueue
  dsimp only
  have hdetach (d : Dev) : Calm d ((d.modQueue k (fun q => { q with ents := [] })).detach k) := by simp [Calm]
  refine (hdetach _).trans (calm_foldl _ _ (fun d e => ?_) d)
  split <;> simp

@[simp] theorem Dev.freeWaiting_calm (d : Dev) (keys : List Nat) (c : Ctr) (idx : Pkt → Dest → Nat) :
    Calm d (Dev.freeWaiting d keys c idx).2.2 := by
  refine calm_foldl3 _ _ (fun a x => ?_) (0, 0, d)
  split
  · rfl
  · exact calm_foldl3 _ _ (fun a t => by simp) a

@[simp] theorem Dev.freePort_calm (d : Dev) (p : Nat) (c : Ctr) (byIngress : Bool) :
    Calm d (Dev.freePort d p c byIngress).2.2 := by
  simp [Calm, Dev.freePort]

@[simp] theorem Dev.flushPort_calm (d : Dev) (p : Nat) (c : Ctr) (byIngress : Bool) :
    Calm d (Dev.flushPort d p c byIngress).2.2 := by
  simp [Calm, Dev.flushPort]

@[simp] theorem Dev.endAsk_calm (d : Dev) (pid : Nat) (x : Pkt) (n : Nat) : Calm d (Dev.endAsk d pid x n) := by
  simp [Calm, Dev.endAsk]

@[simp] theorem Dev.request_calm (d : Dev) (pid : Nat) : Calm d (Dev.request d pid) := by
  unfold Dev.request
  split
  · rfl
  · split
    · rfl
    · extract_lets r ts d1 d2 mcs repl
      have h1 : Calm d d1 := by simp [Calm, d1, r]
      split
      · exact Eq.trans (by simp) h1
      · have h2 : Calm d d2 := Eq.trans (by simp [d2]) h1
        split
        · exact h2
        · split
          · repeat' split
            · exact Eq.trans (by simp) h2
            · exact Eq.trans (by simp) h2
            · exact h2
          · extract_lets cts
            split
            · exact h2
            next hr => exact Eq.trans (by simp [takeFor_hif hr]) h2

@[simp] theorem Dev.presentAll_calm (d : Dev) : Calm d (Dev.presentAll d) := by
  simp [Calm, Dev.presentAll]

@[simp] theorem Dev.txSettle_calm (d : Dev) (ep : Nat) (h : HostTx) (bad : Bool) :
    Calm d (Dev.txSettle d ep h bad) := by
  simp [Calm, Dev.txSettle]

@[simp] theorem Dev.runPass_calm (d : Dev) (p : Nat) (x : Pkt) (h : Option HostTx) (flaws : Flaws) (upper : Bool) :
    Calm d (Dev.runPass d p x h flaws upper) := by
  unfold Dev.runPass
  dsimp only
  repeat' split
  all_goals simp [Calm]

@[simp] theorem Dev.wireEntry_calm (d : Dev) (port : Nat) (flaws : Flaws) (upper : Bool) :
    Calm d (Dev.wireEntry d port flaws upper) := by
  unfold Dev.wireEntry
  repeat' split
  all_goals simp [Calm]

@[simp] theorem Dev.hostEntry_calm (d : Dev) (ep : Nat) (flaws : Flaws) (upper : Bool) :
    Calm d (Dev.hostEntry d ep flaws upper) := by
  unfold Dev.hostEntry
  repeat' split
  all_goals simp [Calm]

@[simp] theorem Dev.loopEntry_calm (d : Dev) (p : Nat) (flaws : Flaws) (upper : Bool) :
    Calm d (Dev.loopEntry d p flaws upper) := by
  unfold Dev.loopEntry
  dsimp only
  repeat' split
  all_goals simp [Calm]

@[simp] theorem Dev.dropLoop_calm (d : Dev) (p : Nat) : Calm d (Dev.dropLoop d p) := by
  simp [Calm, Dev.dropLoop]

@[simp] theorem Dev.parseNext_calm (d : Dev) (p : Nat) (flaws : Flaws) (upper : Bool) :
    Calm d (Dev.parseNext d p flaws upper) := by
  unfold Dev.parseNext
  repeat' split
  all_goals simp [Calm]

@[simp] theorem Dev.dropWaiting_calm (d : Dev) (pid : Nat) (party : Nat) (c : Ctr) (idx : Pkt → Dest → Nat) :
    Calm d (Dev.dropWaiting d pid party c idx) := by
  unfold Dev.dropWaiting
  repeat' split
  all_goals simp [Calm]

@[simp] theorem Dev.dropQueued_calm (d : Dev) (pid : Nat) (party : Nat) (c : Ctr) (idx : Pkt → Dest → Nat) :
    Calm d (Dev.dropQueued d pid party c idx) := by
  unfold Dev.dropQueued
  repeat' split
  all_goals simp [Calm]

@[simp] theorem Dev.discardPkt_calm (d : Dev) (pid party : Nat) (c : Ctr) (idx : Pkt → Dest → Nat) :
    Calm d (Dev.discardPkt d pid party c idx) := by
  unfold Dev.discardPkt
  repeat' split
  all_goals simp [Calm]

@[simp] theorem Dev.badFrame_calm (d : Dev) (pid : Nat) : Calm d (Dev.badFrame d pid) := by
  unfold Dev.badFrame
  repeat' split
  all_goals simp [Calm]

@[simp] theorem Dev.dropOversize_calm (d : Dev) (x : Pkt) (kin : List Nat) : Calm d (Dev.dropOversize d x kin) := by
  simp [Calm, Dev.dropOversize]

@[simp] theorem Dev.traceWrite_calm (d : Dev) (e : Nat) (r : Rec) : Calm d (Dev.traceWrite d e r) := by
  simp [Calm, Dev.traceWrite]

@[simp] theorem Dev.take_calm (d : Dev) (r0 : Rec) : Calm d (Dev.take d r0) := by
  simp [Calm, Dev.take]

@[simp] theorem Dev.logMemoryError_calm (d : Dev) (i : Nat) (lasting : Bool) :
    Calm d (Dev.logMemoryError d i lasting) := by
  simp [Calm, Dev.logMemoryError]

@[simp] theorem Dev.slotCheck_calm (d : Dev) (i : Nat) (check : Ecc) : Calm d (Dev.slotCheck d i check) := by
  unfold Dev.slotCheck
  repeat' split
  all_goals simp [Calm]

@[simp] theorem Dev.writeCheck_calm (d : Dev) (check : Ecc) : Calm d (Dev.writeCheck d check) := by
  unfold Dev.writeCheck
  repeat' split
  all_goals simp [Calm]

@[simp] theorem Dev.discardCopies_calm (d : Dev) (q pid : Nat) (c : Ctr) (byIngress : Bool) (mine : Dest → Bool) :
    Calm d (Dev.discardCopies d q pid c byIngress mine) := by
  unfold Dev.discardCopies
  repeat' split
  all_goals simp [Calm]

@[simp] theorem Dev.discardIn_calm (d : Dev) (q pid : Nat) (c : Ctr) (byIngress : Bool) :
    Calm d (Dev.discardIn d q pid c byIngress) := by
  simp [Calm, Dev.discardIn]

@[simp] theorem Dev.discardEverywhere_calm (d : Dev) (pid : Nat) (c : Ctr) (byIngress : Bool) :
    Calm d (Dev.discardEverywhere d pid c byIngress) := by
  simp [Calm, Dev.discardEverywhere]

@[simp] theorem Dev.deliver_calm (d : Dev) (q : Nat) (x : Cross) : Calm d (Dev.deliver d q x) := by
  unfold Dev.deliver
  repeat' split
  all_goals simp [Calm]

@[simp] theorem Dev.releaseRun_calm (q1 : Nat) (q2 : Nat) (q3 : Nat) (q4 : Dev) :
    Calm q4 (Dev.releaseRun q1 q2 q3 q4) := by
  induction q1 generalizing q4 with
  | zero => simp [Calm, Dev.releaseRun]
  | succ n ih =>
    unfold Dev.releaseRun
    dsimp only
    split
    · simp [Calm]
    · simp [Calm, ih]

@[simp] theorem Dev.dropLostWhole_calm (d : Dev) (q s : Nat) : Calm d (Dev.dropLostWhole d q s) := by
  simp [Calm, Dev.dropLostWhole]

@[simp] theorem Dev.gapDiscard_calm (d : Dev) (q : Nat) (x : Cross) : Calm d (Dev.gapDiscard d q x) := by
  simp [Calm, Dev.gapDiscard]

@[simp] theorem Dev.skipGap_calm (d : Dev) (q s : Nat) : Calm d (Dev.skipGap d q s) := by
  unfold Dev.skipGap
  dsimp only
  repeat' split
  all_goals simp [Calm]

@[simp] theorem Dev.resequence_calm (d : Dev) (x : Cross) : Calm d (Dev.resequence d x) := by
  unfold Dev.resequence
  dsimp only
  repeat' split
  all_goals simp [Calm]

@[simp] theorem Dev.mcArrive_calm (d : Dev) (x : Cross) : Calm d (Dev.mcArrive d x) := by
  simp [Calm, Dev.mcArrive]

@[simp] theorem Dev.ownError_calm (d : Dev) (c : Nat) : Calm d (Dev.ownError d c) := by
  unfold Dev.ownError
  extract_lets d1
  have h1 : d1.hif.calm = d.hif.calm := by simp [d1]
  refine Eq.trans (calm_foldl _ _ (fun d p => ?_) d1) h1
  refine calm_foldl _ _ (fun d y => ?_) d
  dsimp only
  split <;> simp

@[simp] theorem Dev.descError_calm (d : Dev) (c : Nat) (lasting : Bool) : Calm d (Dev.descError d c lasting) := by
  unfold Dev.descError
  dsimp only
  repeat' split
  all_goals simp [Calm]

@[simp] theorem Dev.replError_calm (d : Dev) (r : Nat) : Calm d (Dev.replError d r) := by
  unfold Dev.replError
  repeat' split
  all_goals simp [Calm]

@[simp] theorem Dev.laterOverrun_calm (d : Dev) (pid : Nat) (x : Pkt) : Calm d (Dev.laterOverrun d pid x) := by
  simp [Calm, Dev.laterOverrun]

@[simp] theorem Dev.laterCell_calm (d : Dev) (pid : Nat) : Calm d (Dev.laterCell d pid) := by
  unfold Dev.laterCell
  repeat' split
  case h_2 hr => simp [Calm, takeFor_hif hr]
  all_goals simp [Calm]

@[simp] theorem Dev.laterCells_calm (d : Dev) (ids : List Nat) : Calm d (Dev.laterCells d ids) := by
  simp [Calm, Dev.laterCells]

@[simp] theorem Dev.writeCross_calm (d : Dev) (pid k : Nat) (how : Carried) :
    Calm d (Dev.writeCross d pid k how) := by
  unfold Dev.writeCross
  repeat' split
  all_goals simp [Calm]

@[simp] theorem Dev.cross_calm (acc : Dev × List Nat × List Nat) (c : Crossing) : Calm acc.1 (Dev.cross acc c).1 := by
  unfold Dev.cross
  dsimp only
  repeat' split
  all_goals simp [Calm]

@[simp] theorem Dev.crossRank_calm (acc : Dev × List Nat) (r : Nat) (cs : List Crossing) :
    Calm acc.1 (Dev.crossRank acc r cs).1 := by
  unfold Dev.crossRank
  dsimp only
  repeat' split
  all_goals simp [Calm]

@[simp] theorem Dev.cycle_calm (d : Dev) (ready : List (Nat × Carried)) : Calm d (Dev.cycle d ready) := by
  simp [Calm, Dev.cycle]

@[simp] theorem Dev.purgeHead_calm (q1 : Nat) (q2 : Nat) (q3 : Nat) (q4 : Dev) :
    Calm q4 (Dev.purgeHead q1 q2 q3 q4) := by
  induction q1 generalizing q4 with
  | zero => rfl
  | succ n ih =>
    unfold Dev.purgeHead
    dsimp only
    repeat' split
    case isFalse => exact (ih _).trans (by simp)
    all_goals rfl

@[simp] theorem Dev.rewriteCopy_calm (d : Dev) (e : Ent) (x : Pkt) (t : Dest) (flaws : Flaws) :
    Calm d (Dev.rewriteCopy d e x t flaws).2 := by
  unfold Dev.rewriteCopy
  dsimp only
  repeat' split
  all_goals simp [Calm]

@[simp] theorem Dev.trapCopy_calm (d : Dev) (e : Ent) (x : Pkt) (t : Dest) (id : Nat) :
    Calm d (Dev.trapCopy d e x t id) := by
  unfold Dev.trapCopy
  repeat' split
  all_goals simp [Calm]

@[simp] theorem Dev.startFrame_calm (d : Dev) (p : Nat) (t : Dest) (e : Ent) (x : Pkt) (bks cells : List Nat) (bad : Option Nat) (bytes : List Byte) (ptp : Option (Nat × Option Nat)) :
    Calm d (Dev.startFrame d p t e x bks cells bad bytes ptp) := by
  simp [Calm, Dev.startFrame]

@[simp] theorem Dev.dispatch_calm (d : Dev) (p : Nat) (t : Dest) (e : Ent) (x : Pkt) (bks : List Nat) (flaws : Flaws) :
    Calm d (Dev.dispatch d p t e x bks flaws) := by
  unfold Dev.dispatch
  dsimp only
  repeat' split
  all_goals simp [Calm]

@[simp] theorem Dev.frontReady_calm (d : Dev) (p : Nat) : Calm d (Dev.frontReady d p) := by
  simp [Calm, Dev.frontReady]

@[simp] theorem Dev.frontDecision_calm (d : Dev) (p : Nat) (flaws : Flaws) :
    Calm d (Dev.frontDecision d p flaws).2 := by
  unfold Dev.frontDecision
  dsimp only
  repeat' split
  all_goals simp [Calm]

@[simp] theorem Dev.recircDecision_calm (d : Dev) (pipe : Nat) (flaws : Flaws) :
    Calm d (Dev.recircDecision d pipe flaws).2 := by
  unfold Dev.recircDecision
  dsimp only
  repeat' split
  all_goals simp [Calm]

@[simp] theorem Dev.hostDecision_calm (d : Dev) (e : Nat) (flaws : Flaws) :
    Calm d (Dev.hostDecision d e flaws).2 := by
  unfold Dev.hostDecision
  dsimp only
  repeat' split
  all_goals simp [Calm]

@[simp] theorem Dev.portDecision_calm (d : Dev) (port : Nat) (flaws : Flaws) :
    Calm d (Dev.portDecision d port flaws).2 := by
  unfold Dev.portDecision
  repeat' split
  all_goals simp [Calm]

@[simp] theorem Dev.askPorts_calm (pipe : Nat) (flaws : Flaws) (q1 : List Nat) (q2 : Dev) :
    Calm q2 (Dev.askPorts pipe flaws q1 q2) := by
  induction q1 generalizing q2 with
  | nil => rfl
  | cons i l ih =>
    unfold Dev.askPorts
    dsimp only
    split
    · simp [Calm]
    · exact (ih _).trans (by simp)

@[simp] theorem Dev.rxLose_calm (d : Dev) (ep : Nat) (y : Tx) (c : Option Ctr) : Calm d (Dev.rxLose d ep y c) := by
  unfold Dev.rxLose
  repeat' split
  all_goals simp [Calm]

@[simp] theorem Dev.freeRx_calm (d : Dev) (ep q : Nat) (c : Ctr) : Calm d (Dev.freeRx d ep q c) := by
  simp [Calm, Dev.freeRx]

@[simp] theorem Dev.dropEnts_calm (d : Dev) (k : Nat) (sel : Ent → Bool) (c : Ctr) :
    Calm d (Dev.dropEnts d k sel c) := by
  simp [Calm, Dev.dropEnts]

@[simp] theorem Dev.dropPart_calm (d : Dev) (k : Nat) (sel : Ent → Bool) (c : Ctr) :
    Calm d (Dev.dropPart d k sel c) := by
  simp [Calm, Dev.dropPart]

@[simp] theorem Dev.chainBreak_calm (d : Dev) (k : Nat) : Calm d (Dev.chainBreak d k) := by
  simp [Calm, Dev.chainBreak]

@[simp] theorem Dev.qstateLost_calm (d : Dev) (k : Nat) : Calm d (Dev.qstateLost d k) := by
  simp [Calm, Dev.qstateLost]

@[simp] theorem Dev.gaugePut_calm (d : Dev) (e : Nat) (r : BitVec 1536) : Calm d (Dev.gaugePut d e r) := by
  simp [Calm, Dev.gaugePut]

@[simp] theorem Dev.gaugeEmit_calm (d : Dev) (port endNs : Nat) (disc : Bool) (q : Nat) :
    Calm d (Dev.gaugeEmit d port endNs disc q) := by
  unfold Dev.gaugeEmit
  dsimp only
  repeat' split
  all_goals simp [Calm]

@[simp] theorem Dev.gaugeClose_calm (d : Dev) (port endNs : Nat) (disc : Bool) :
    Calm d (Dev.gaugeClose d port endNs disc) := by
  simp [Calm, Dev.gaugeClose]

@[simp] theorem Dev.gaugeStep_calm (d : Dev) (old : Nat) : Calm d (Dev.gaugeStep d old) := by
  simp [Calm, Dev.gaugeStep]

@[simp] theorem Dev.mrpPut_calm (d : Dev) (p : Nat) (r : List Byte) : Calm d (Dev.mrpPut d p r).2 := by
  simp [Calm, Dev.mrpPut]

@[simp] theorem Dev.lateUpdate_calm (d : Dev) (tenant polder epoch : Nat) (inc : List Nat) :
    Calm d (Dev.lateUpdate d tenant polder epoch inc) := by
  unfold Dev.lateUpdate
  dsimp only
  repeat' split
  all_goals simp [Calm]

@[simp] theorem Dev.combine_calm (d : Dev) (i : Nat) (bad : Option Nat) : Calm d (Dev.combine d i bad) := by
  unfold Dev.combine
  dsimp only
  repeat' split
  all_goals simp [Calm]

@[simp] theorem Dev.combineOld_calm (q1 : Nat) (q2 : Dev) : Calm q2 (Dev.combineOld q1 q2) := by
  induction q1 generalizing q2 with
  | zero => simp [Calm, Dev.combineOld]
  | succ n ih =>
    unfold Dev.combineOld
    split
    · simp [Calm]
    · simp [Calm, ih]

@[simp] theorem Dev.timeStep_calm (d : Dev) (newTime newOffset cause : Nat) :
    Calm d (Dev.timeStep d newTime newOffset cause) := by
  simp [Calm, Dev.timeStep]

@[simp] theorem Dev.expireHold_calm (d : Dev) (p : Nat) (brk : Bool) : Calm d (Dev.expireHold d p brk) := by
  simp [Calm, Dev.expireHold]

@[simp] theorem Dev.loseLink_calm (d : Dev) (p cause lane : Nat) : Calm d (Dev.loseLink d p cause lane) := by
  simp [Calm, Dev.loseLink]

@[simp] theorem Dev.stopTransmitter_calm (d : Dev) (p : Nat) : Calm d (Dev.stopTransmitter d p) := by
  simp [Calm, Dev.stopTransmitter]

@[simp] theorem Dev.adminDown_calm (d : Dev) (p ep : Nat) : Calm d (Dev.adminDown d p ep) := by
  simp [Calm, Dev.adminDown]

@[simp] theorem Dev.breakBack_calm (d : Dev) (p : Nat) : Calm d (Dev.breakBack d p) := by
  simp [Calm, Dev.breakBack]

@[simp] theorem Dev.polderFree_calm (d : Dev) (p : Nat) : Calm d (Dev.polderFree d p).2 := by
  simp [Calm, Dev.polderFree]

@[simp] theorem Dev.holdPolder_calm (d : Dev) (p source : Nat) : Calm d (Dev.holdPolder d p source) := by
  unfold Dev.holdPolder
  dsimp only
  repeat' split
  all_goals simp [Calm]

@[simp] theorem Dev.holdPolders_calm (d : Dev) (mask source : Nat) : Calm d (Dev.holdPolders d mask source) := by
  simp [Calm, Dev.holdPolders]

@[simp] theorem Dev.vecsFollow_calm (d : Dev) : Calm d (Dev.vecsFollow d) := by
  simp [Calm, Dev.vecsFollow]

@[simp] theorem Dev.unmapVecs_calm (d : Dev) (p : Nat) : Calm d (Dev.unmapVecs d p) := by
  simp [Calm, Dev.unmapVecs]

@[simp] theorem Dev.polderPut_calm (d : Dev) (p r : Nat) : Calm d (Dev.polderPut d p r) := by
  simp [Calm, Dev.polderPut]

@[simp] theorem Dev.polderClear_calm (d : Dev) (p ep : Nat) : Calm d (Dev.polderClear d p ep) := by
  simp [Calm, Dev.polderClear]

@[simp] theorem Dev.freeAll_calm (d : Dev) (c : Ctr) (drain : Bool) : Calm d (Dev.freeAll d c drain) := by
  unfold Dev.freeAll
  extract_lets d1 d2 d3 d4
  have h1 : d1.hif.calm = d.hif.calm := by simp [d1]
  have h2 : d2.hif.calm = d1.hif.calm := by
    refine calm_foldl _ _ (fun d pid => ?_) d1
    split <;> simp
  have h3 : d3.hif.calm = d2.hif.calm := by simp [d3]
  exact h3.trans (h2.trans h1)

@[simp] theorem Dev.alarmAll_calm (d : Dev) (s sev : Nat) : Calm d (Dev.alarmAll d s sev) := by
  simp [Calm, Dev.alarmAll]

@[simp] theorem Dev.deny_calm (d : Dev) (e : Nat) : Calm d (Dev.deny d e) := by
  simp [Calm, Dev.deny]

end Sys2Proof.Machine
end

section
/-! PROOFS. Ring and queue configuration follows the states (02 R41, R44). -/
namespace Sys2Proof.Machine

/-! ### What a change of one part of an endpoint leaves of the others -/

theorem Calm.crs {d d' : Dev} (h : Calm d d') (e : Nat) : (d'.ep e).crs = (d.ep e).crs := by
  show (d'.hif.calm e).crs = (d.hif.calm e).crs
  rw [h]

theorem Calm.cqs {d d' : Dev} (h : Calm d d') (e : Nat) : (d'.ep e).cqs = (d.ep e).cqs := by
  show (d'.hif.calm e).cqs = (d.hif.calm e).cqs
  rw [h]

theorem Calm.rxqs {d d' : Dev} (h : Calm d d') (e : Nat) : (d'.ep e).rxqs = (d.ep e).rxqs := by
  show (d'.hif.calm e).rxqs = (d.hif.calm e).rxqs
  rw [h]

theorem Calm.txqs {d d' : Dev} (h : Calm d d') (e : Nat) : (d'.ep e).txqs = (d.ep e).txqs := by
  show (d'.hif.calm e).txqs = (d.hif.calm e).txqs
  rw [h]

theorem Calm.cmds {d d' : Dev} (h : Calm d d') (e : Nat) : (d'.ep e).cmds = (d.ep e).cmds := by
  show (d'.hif.calm e).cmds = (d.hif.calm e).cmds
  rw [h]

theorem Calm.up {d d' : Dev} (h : Calm d d') (e : Nat) : (d'.ep e).up = (d.ep e).up := by
  show (d'.hif.calm e).up = (d.hif.calm e).up
  rw [h]

theorem Calm.cr {d d' : Dev} (h : Calm d d') (e n : Nat) : d'.cr e n = d.cr e n := by simp [Dev.cr, h.crs]

theorem cr_modEp {d : Dev} {e : Nat} {f : Endpoint → Endpoint} (h : ∀ x, (f x).crs = x.crs) (e' n : Nat) :
    (d.modEp e f).cr e' n = d.cr e' n := by
  unfold Dev.cr
  rw [ep_modEp]
  split <;> simp_all

@[simp] theorem cr_wordSource (d : Dev) (e e' n : Nat) : (d.wordSource e).cr e' n = d.cr e' n :=
  cr_hif (by simp [Dev.wordSource]) e' n

@[simp] theorem cr_wordFresh (d : Dev) (e i e' n : Nat) : (d.wordFresh e i).cr e' n = d.cr e' n := by
  unfold Dev.wordFresh
  split
  · rw [cr_wordSource]
    exact cr_modEp (by simp) e' n
  · rfl

@[simp] theorem cr_epRefresh (d : Dev) (e e' n : Nat) : (d.epRefresh e).cr e' n = d.cr e' n := cr_hif (by simp) e' n

theorem Calm.cq {d d' : Dev} (h : Calm d d') (e n : Nat) : d'.cq e n = d.cq e n := by simp [Dev.cq, h.cqs]

theorem cq_modEp {d : Dev} {e : Nat} {f : Endpoint → Endpoint} (h : ∀ x, (f x).cqs = x.cqs) (e' n : Nat) :
    (d.modEp e f).cq e' n = d.cq e' n := by
  unfold Dev.cq
  rw [ep_modEp]
  split <;> simp_all

@[simp] theorem cq_wordSource (d : Dev) (e e' n : Nat) : (d.wordSource e).cq e' n = d.cq e' n :=
  cq_hif (by simp [Dev.wordSource]) e' n

@[simp] theorem cq_wordFresh (d : Dev) (e i e' n : Nat) : (d.wordFresh e i).cq e' n = d.cq e' n := by
  unfold Dev.wordFresh
  split
  · rw [cq_wordSource]
    exact cq_modEp (by simp) e' n
  · rfl

@[simp] theorem cq_epRefresh (d : Dev) (e e' n : Nat) : (d.epRefresh e).cq e' n = d.cq e' n := cq_hif (by simp) e' n

theorem Calm.rxq {d d' : Dev} (h : Calm d d') (e n : Nat) : d'.rxq e n = d.rxq e n := by simp [Dev.rxq, h.rxqs]

theorem rxq_modEp {d : Dev} {e : Nat} {f : Endpoint → Endpoint} (h : ∀ x, (f x).rxqs = x.rxqs) (e' n : Nat) :
    (d.modEp e f).rxq e' n = d.rxq e' n := by
  unfold Dev.rxq
  rw [ep_modEp]
  split <;> simp_all

@[simp] theorem rxq_wordSource (d : Dev) (e e' n : Nat) : (d.wordSource e).rxq e' n = d.rxq e' n :=
  rxq_hif (by simp [Dev.wordSource]) e' n

@[simp] theorem rxq_wordFresh (d : Dev) (e i e' n : Nat) : (d.wordFresh e i).rxq e' n = d.rxq e' n := by
  unfold Dev.wordFresh
  split
  · rw [rxq_wordSource]
    exact rxq_modEp (by simp) e' n
  · rfl

@[simp] theorem rxq_epRefresh (d : Dev) (e e' n : Nat) : (d.epRefresh e).rxq e' n = d.rxq e' n := rxq_hif (by simp) e' n

theorem Calm.txq {d d' : Dev} (h : Calm d d') (e n : Nat) : d'.txq e n = d.txq e n := by simp [Dev.txq, h.txqs]

theorem txq_modEp {d : Dev} {e : Nat} {f : Endpoint → Endpoint} (h : ∀ x, (f x).txqs = x.txqs) (e' n : Nat) :
    (d.modEp e f).txq e' n = d.txq e' n := by
  unfold Dev.txq
  rw [ep_modEp]
  split <;> simp_all

@[simp] theorem txq_wordSource (d : Dev) (e e' n : Nat) : (d.wordSource e).txq e' n = d.txq e' n :=
  txq_hif (by simp [Dev.wordSource]) e' n

@[simp] theorem txq_wordFresh (d : Dev) (e i e' n : Nat) : (d.wordFresh e i).txq e' n = d.txq e' n := by
  unfold Dev.wordFresh
  split
  · rw [txq_wordSource]
    exact txq_modEp (by simp) e' n
  · rfl

@[simp] theorem txq_epRefresh (d : Dev) (e e' n : Nat) : (d.epRefresh e).txq e' n = d.txq e' n := txq_hif (by simp) e' n

@[simp] theorem crPolder_modCr (d : Dev) (e n : Nat) (f) (e' n' : Nat) :
    (d.modCr e n f).crPolder e' n' = d.crPolder e' n' := rfl

@[simp] theorem cqPolder_modCq (d : Dev) (e n : Nat) (f) (e' n' : Nat) :
    (d.modCq e n f).cqPolder e' n' = d.cqPolder e' n' := rfl

@[simp] theorem rxqPolder_modRxq (d : Dev) (e n : Nat) (f) (e' n' : Nat) :
    (d.modRxq e n f).rxqPolder e' n' = d.rxqPolder e' n' := rfl

@[simp] theorem txqPolder_modTxq (d : Dev) (e n : Nat) (f) (e' n' : Nat) :
    (d.modTxq e n f).txqPolder e' n' = d.txqPolder e' n' := rfl

@[simp] theorem cq_modCr (d : Dev) (e n e' n' : Nat) (f) : (d.modCr e n f).cq e' n' = d.cq e' n' := cq_modEp (by simp) e' n'

/-! ### Command rings -/

theorem ep_answers_of_up {x : Endpoint} (h : x.up = true) : x.answers = true := by simp [Endpoint.answers, h]

theorem doEpCrCfgWrite_cr_of_ne (e n dword : Nat) (v : Word) (d : Dev) {m : Nat} (hm : m ≠ n) (e' : Nat) :
    (doEpCrCfgWrite e n dword v d).cr e' m = d.cr e' m := by
  unfold doEpCrCfgWrite
  dsimp only
  repeat' split
  all_goals simp [hm.symm]

theorem doEpCqCfgWrite_cq_of_ne (e n dword : Nat) (v : Word) (d : Dev) {m : Nat} (hm : m ≠ n) (e' : Nat) :
    (doEpCqCfgWrite e n dword v d).cq e' m = d.cq e' m := by
  unfold doEpCqCfgWrite
  dsimp only
  repeat' split
  all_goals simp [hm.symm]

/-- A command ring that is draining, with nothing fetched or under way, is DISABLED. -/
theorem doRingDisableDone_drained {d : Dev} {e n : Nat} (hst : (d.cr e n).st ≠ .disabled) (hen : (d.cr e n).enable = false)
    (hiss : (d.cr e n).issued = (d.cr e n).f) (hnone : ∀ x ∈ (d.ep e).cmds, x.ring ≠ n) : doRingDisableDone e n d =
      (d.modCr e n (fun r => { r with st := .disabled, stop := none })).epRefresh e := by
  have hany : (d.ep e).cmds.any (fun x => decide (x.ring = n)) = false := by simpa using hnone
  exact if_pos (by simp [hst, hen, hiss, hany])

@[simp] theorem rxq_freeRx (d : Dev) (ep q : Nat) (c : Ctr) (e n : Nat) : (d.freeRx ep q c).rxq e n = d.rxq e n :=
  Calm.rxq (Dev.freeRx_calm ..) e n

theorem doEpRxqCfgWrite_rxq_of_ne (e n dword : Nat) (v : Word) (d : Dev) {m : Nat} (hm : m ≠ n) (e' : Nat) :
    (doEpRxqCfgWrite e n dword v d).rxq e' m = d.rxq e' m := by
  unfold doEpRxqCfgWrite
  dsimp only
  repeat' split
  all_goals simp [hm.symm]

/-- A write of dword 2 to a receive queue's block: what `pktCfg` makes of it, and a queue that is enabled has no buffer. -/
theorem doEpRxqCfgWrite_rxq {e n : Nat} {v : Word} {d : Dev} (hans : (d.ep e).answers = true) (hup : (d.ep e).up = true)
    (hn : n < 256) : (doEpRxqCfgWrite e n 2 v d).rxq e n =
      let r := pktCfg (d.rxq e n) (d.rxqPolder e n).isSome true 2 v
      if (d.rxq e n).st = .disabled ∧ r.st ≠ .disabled then { r with emptySince := some d.bal.tick } else r := by
  have hw : (d.ep e).enableWord 2 v = v := by simp [Endpoint.enableWord, hup]
  unfold doEpRxqCfgWrite
  simp only [hans, hw, ite_self, Nat.not_le.2 hn, decide_false, Bool.not_true, Bool.or_self, Bool.false_eq_true, if_false,
    rxq_epRefresh]
  by_cases hold : (d.rxq e n).st = .disabled <;>
    by_cases hnew : (pktCfg (d.rxq e n) (d.rxqPolder e n).isSome true 2 v).st = .disabled <;> simp [hold, hnew]

@[simp] theorem txq_txWriteBack (d : Dev) (ep q addr sec ns status e n : Nat) :
    (d.txWriteBack ep q addr sec ns status).txq e n = d.txq e n := Calm.txq (Dev.txWriteBack_calm ..) e n

@[simp] theorem txq_emit (d : Dev) (o : Out) (e n : Nat) : (d.emit o).txq e n = d.txq e n := rfl

/-- Steps that each move USED of one queue by one. -/
theorem txq_foldl_used {e q : Nat} {f : Dev → Nat → Dev} (hf : ∀ d i e' n, (f d i).txq e' n =
      if e = e' ∧ q = n then { d.txq e q with used := (d.txq e q).used + 1 } else d.txq e' n) (l : List Nat) (d : Dev)
    (e' n : Nat) : (l.foldl f d).txq e' n =
      if e = e' ∧ q = n then { d.txq e q with used := (d.txq e q).used + BitVec.ofNat 32 l.length } else d.txq e' n := by
  induction l generalizing d with
  | nil =>
    split
    next h => simp [← h.1, ← h.2]
    · rfl
  | cons i l ih =>
    rw [List.foldl_cons, ih]
    split
    · have hlen : BitVec.ofNat 32 (l.length + 1) = 1 + BitVec.ofNat 32 l.length := by
        rw [Nat.add_comm, BitVec.ofNat_add]
        rfl
      simp [hf, hlen, BitVec.add_assoc]
    next h => simp [hf, h]

/-- A flush moves USED up to POSTED, and leaves the other queues. -/
theorem txq_txFlush (d : Dev) (e q : Nat) (eops : List Bool) (e' n : Nat) : (d.txFlush e q eops).txq e' n =
    if e = e' ∧ q = n then { d.txq e q with used := (d.txq e q).posted } else d.txq e' n := by
  unfold Dev.txFlush
  rw [txq_foldl_used (e := e) (q := q)]
  · rw [List.length_range, BitVec.ofNat_toNat, BitVec.setWidth_eq, BitVec.add_comm, BitVec.sub_add_cancel]
  · intro d i e' n
    dsimp only
    split <;> simp

theorem doEpTxqCfgWrite_txq_of_ne (e n dword : Nat) (v : Word) (eops : List Bool) (d : Dev) {m : Nat} (hm : m ≠ n) (e' : Nat) :
    (doEpTxqCfgWrite e n dword v eops d).txq e' m = d.txq e' m := by
  unfold doEpTxqCfgWrite
  dsimp only
  repeat' split
  all_goals simp [hm.symm, txq_txFlush]

/-- A write of dword 2 to a transmit queue's block: what `pktCfg` makes of it, and a queue that is disabled is flushed. -/
theorem doEpTxqCfgWrite_txq {e n : Nat} {v : Word} {eops : List Bool} {d : Dev} (hans : (d.ep e).answers = true)
    (hup : (d.ep e).up = true) (hn : n < 256) : (doEpTxqCfgWrite e n 2 v eops d).txq e n =
      let r := pktCfg (d.txq e n) (d.txqPolder e n).isSome false 2 v
      if (d.txq e n).st ≠ .disabled ∧ r.st = .disabled then { r with used := r.posted } else r := by
  have hw : (d.ep e).enableWord 2 v = v := by simp [Endpoint.enableWord, hup]
  unfold doEpTxqCfgWrite
  simp only [hans, hw, ite_self, Nat.not_le.2 hn, decide_false, Bool.not_true, Bool.or_self, Bool.false_eq_true, if_false,
    txq_epRefresh]
  by_cases hold : (d.txq e n).st = .disabled <;>
    by_cases hnew : (pktCfg (d.txq e n) (d.txqPolder e n).isSome false 2 v).st = .disabled <;> simp [hold, hnew, txq_txFlush]

/-- Settles O3, a register at a time. -/
theorem ringConfigurationFollowsItsStates : Obligations.RingConfigurationFollowsItsStates := by
  intro s e n v hans hup
  refine ⟨fun hn => ⟨_, rfl, ?_, ?_, ?_, ?_, ?_⟩, ?_, ?_, ?_, ?_⟩
  · exact fun m hm => doEpCrCfgWrite_cr_of_ne _ _ _ _ _ hm _
  · intro hst hen hsize hpol hcq
    simp [doEpCrCfgWrite, hans, hup, Nat.not_le.2 hn, hst, hen, hsize, hpol, hcq]
  · intro hst hen hbad
    have hbad' : ¬((sizeOk (bits v.toNat 0 5) = true ∧ (s.dev.crPolder e n).isSome = true) ∧
        (s.dev.cq e (bits v.toNat 8 6)).st = .active) := by
      obtain h | h | h := hbad <;> simp [h]
    simp [doEpCrCfgWrite, hans, hup, Nat.not_le.2 hn, hst, hen, hbad']
  · intro hst hen
    by_cases hsame : bits v.toNat 0 5 = (s.dev.cr e n).sizeLog2 ∧ bits v.toNat 8 6 = (s.dev.cr e n).boundCq
    · simp [doEpCrCfgWrite, hans, Nat.not_le.2 hn, hst, hen, hsame]
    · simp [doEpCrCfgWrite, hans, Nat.not_le.2 hn, hst, hen, hsame]
  · intro hst hen hsize hcq
    simp [doEpCrCfgWrite, hans, Nat.not_le.2 hn, hst, hen, hsize, hcq]
  · intro hn hst hen hiss hnone
    have hd := doRingDisableDone_drained hst hen hiss hnone
    refine ⟨{ s with dev := doRingDisableDone e n s.dev }, rfl, ?_, ?_⟩
    · intro m hm
      simp [hd, hm.symm]
    · simp [hd]
  · refine fun hn => ⟨_, rfl, ?_, ?_, ?_, ?_, ?_⟩
    · exact fun m hm => doEpCqCfgWrite_cq_of_ne _ _ _ _ _ hm _
    · intro hst hen hsize hpol
      simp [doEpCqCfgWrite, hans, hup, Nat.not_le.2 hn, hst, hen, hsize, hpol]
    · intro hst hen hbad
      have hbad' : ¬(sizeOk (bits v.toNat 0 5) = true ∧ (s.dev.cqPolder e n).isSome = true) := by
        obtain h | h := hbad <;> simp [h]
      simp [doEpCqCfgWrite, hans, hup, Nat.not_le.2 hn, hst, hen, hbad']
    · intro hst hen
      by_cases hsame : bits v.toNat 0 5 = (s.dev.cq e n).sizeLog2
      · simp [doEpCqCfgWrite, hans, Nat.not_le.2 hn, hst, hen, hsame]
      · simp [doEpCqCfgWrite, hans, Nat.not_le.2 hn, hst, hen, hsame]
    · intro hst hen hsize
      simp [doEpCqCfgWrite, hans, Nat.not_le.2 hn, hst, hen, hsize]
  · refine fun hn => ⟨_, rfl, ?_, ?_, ?_, ?_, ?_⟩
    · exact fun m hm => doEpRxqCfgWrite_rxq_of_ne _ _ _ _ _ hm _
    · intro hst hen hsize hpol
      exact (doEpRxqCfgWrite_rxq hans hup hn).trans (by simp [pktCfg, hst, hen, hsize, hpol])
    · intro hst hen hbad
      have hbad' : ¬(sizeOk (bits v.toNat 0 5) = true ∧ (s.dev.rxqPolder e n).isSome = true) := by
        obtain h | h := hbad <;> simp [h]
      have h := doEpRxqCfgWrite_rxq hans hup hn (v := v)
      constructor <;> exact (congrArg _ h).trans (by simp [pktCfg, hst, hen, hbad'])
    · intro hst hen
      refine (doEpRxqCfgWrite_rxq hans hup hn).trans ?_
      by_cases hsame : bits v.toNat 0 5 = (s.dev.rxq e n).sizeLog2 <;> simp [pktCfg, hst, hen, hsame]
    · intro hst hen hsize
      exact (doEpRxqCfgWrite_rxq hans hup hn).trans (by simp [pktCfg, hst, hen, hsize])
  · refine fun eops hn => ⟨_, rfl, ?_, ?_, ?_, ?_, ?_⟩
    · exact fun m hm => doEpTxqCfgWrite_txq_of_ne _ _ _ _ _ _ hm _
    · intro hst hen hsize hpol
      exact (doEpTxqCfgWrite_txq hans hup hn).trans (by simp [pktCfg, hst, hen, hsize, hpol])
    · intro hst hen hbad
      have hbad' : ¬(sizeOk (bits v.toNat 0 5) = true ∧ (s.dev.txqPolder e n).isSome = true) := by
        obtain h | h := hbad <;> simp [h]
      have h := doEpTxqCfgWrite_txq hans hup hn (v := v) (eops := eops)
      constructor <;> exact (congrArg _ h).trans (by simp [pktCfg, hst, hen, hbad'])
    · intro hst hen
      refine (doEpTxqCfgWrite_txq hans hup hn).trans ?_
      by_cases hsame : bits v.toNat 0 5 = (s.dev.txq e n).sizeLog2 <;> simp [pktCfg, hst, hen, hsame]
    · intro hst hen hsize
      exact (doEpTxqCfgWrite_txq hans hup hn).trans (by simp [pktCfg, hst, hen, hsize])

end Sys2Proof.Machine
end

section
/-! PROOFS. The life of a command, from its fetch to its completion (02 R44, R45, R53, R54, R57, R58). -/
namespace Sys2Proof.Machine

theorem Calm.icq {d d' : Dev} (h : Calm d d') (e : Nat) : (d'.ep e).icq = (d.ep e).icq := by
  show (d'.hif.calm e).icq = (d.hif.calm e).icq
  rw [h]

theorem defaultSeverity_fetchStop {e : Nat} (he : e < 4) : (defaultSeverity (0x42 + 16 * e)).isSome = true := by
  obtain rfl | rfl | rfl | rfl := endpoint_cases he <;> rfl

/-- A ring that a fetch error stopped keeps source 2 of its endpoint live (02 Table 2-22). -/
theorem epRefresh_src_fetchStop {d : Dev} {e n : Nat} (he : e < 4) (hst : (d.cr e n).st = .stopped)
    (hstop : (d.cr e n).stop = some .fetch) : ((d.epRefresh e).src (0x42 + 16 * e)).live = true := by
  have hany : (d.ep e).crs.any (fun r => decide (r.2.st = .stopped ∧ r.2.stop = some .fetch)) = true :=
    any_of_tget _ ({} : CmdRing) n (fun r => decide (r.st = .stopped ∧ r.stop = some .fetch)) (decide_eq_true ⟨hst, hstop⟩) rfl
  unfold Dev.epRefresh
  dsimp only
  rw [src_live_ne (by omega), src_live_ne (by omega), src_live_ne (by omega), hany,
    show 0x40 + 16 * e + 2 = 0x42 + 16 * e by omega]
  exact src_live_self (defaultSeverity_fetchStop he) _ _

theorem cmds_modCr (d : Dev) (e n e' : Nat) (f : CmdRing → CmdRing) : ((d.modCr e n f).ep e').cmds = (d.ep e').cmds := by
  simp [Dev.modCr]
  split <;> simp_all

theorem icq_modCr (d : Dev) (e n e' : Nat) (f : CmdRing → CmdRing) : ((d.modCr e n f).ep e').icq = (d.ep e').icq := by
  simp [Dev.modCr]
  split <;> simp_all

theorem cr_ringStopped (d : Dev) (e kind n cause a b : Nat) (pol : Option Nat) (e' m : Nat) :
    (d.ringStopped e kind n cause a b pol).cr e' m = d.cr e' m := cr_hif (by simp) e' m

theorem icq_modCq (d : Dev) (e n e' : Nat) (f : CplRing → CplRing) : ((d.modCq e n f).ep e').icq = (d.ep e').icq := by
  simp [Dev.modCq]
  split <;> simp_all

theorem out_signal (d : Dev) (e cause : Nat) : (d.signal e cause).out = d.out := by simp

/-- The next ring in round robin has its next descriptor fetched. -/
theorem doDescriptorFetch_next {d : Dev} {e n : Nat} (hup : (d.ep e).up = true)
    (hroom : (d.ep e).cmds.length + d.inFlight e < 16)
    (hn : nextRound 64 (d.ep e).rrFetch (fun m => (d.cr e m).fetchable) = some n) : doDescriptorFetch e d =
      ((d.modCr e n (fun r => { r with issued := r.issued + 1 })).modEp e (fun x => { x with rrFetch := n })).emit
        (.hostRead e ((d.cr e n).base.toNat + 64 * ((d.cr e n).issued.toNat % 2 ^ (d.cr e n).sizeLog2)) 64) := by
  simp [doDescriptorFetch, hup, Nat.not_le.2 hroom, hn]

/-- A fetch error takes the fetches under way back and stops the ring. -/
theorem doDescriptorFetchReturn_error {d : Dev} {e n : Nat} {check : Ecc} (hup : (d.ep e).up = true)
    (hi : (d.cr e n).issued ≠ (d.cr e n).f) (hst : (d.cr e n).st = .active) : doDescriptorFetchReturn e n none check d =
      (((d.modCr e n (fun r => { r with issued := r.f })).modCr e n
        (fun r => { r with st := .stopped, stop := some .fetch })).ringStopped e 0 n 1 (d.cr e n).p.toNat (d.cr e n).f.toNat
          (d.crPolder e n)).epRefresh e := by
  simp [doDescriptorFetchReturn, hup, hi, hst]

/-- The record of a command that a dispatch puts on an engine: its number of dispatch, and at its first step the modes of then. -/
def Dev.onEngine (d : Dev) (y : Cmd) : Cmd :=
  { y with
    executing := true, reserved := true, disp := if y.disp = 0 then d.hif.dispSeq + 1 else y.disp
    dispMode := if y.steps = 0 then d.bal.mode.code + 16 * (d.polder (y.fld 17 0 3)).st.code else y.dispMode }

/-- A dispatch puts the first ready command of the ring in turn on an engine, and moves the arbiters. -/
theorem doCommandDispatch_dispatches {d : Dev} {e n : Nat} {moves : Bool} {x : Cmd}
    (hroom : d.executing 0 + d.executing 1 + d.executing 2 + d.executing 3 < 8) (harb : d.arbitrate = some (e, moves))
    (hn : nextRound 64 (d.ep e).rrDispatch (fun m => (d.dispatchable e).any (fun y => decide (y.ring = m))) = some n)
    (hx : (d.dispatchable e).find? (fun y => decide (y.ring = n)) = some x) :
    ∃ h : Hif, h.eps = d.hif.eps ∧ doCommandDispatch d = ({ d with hif := h }.modEp e (fun y => { y with rrDispatch := n })).modCmd
      { ep := e, ring := n, pos := x.pos } d.onEngine := by
  unfold doCommandDispatch
  rw [if_neg (Nat.not_le.2 hroom)]
  simp only [harb, hn, hx]
  cases moves
  · refine ⟨_, ?_, rfl⟩
    rfl
  · refine ⟨_, ?_, rfl⟩
    rfl

/-- A commit takes the command out of the window and its completion into the internal queue. -/
theorem doCommandCommit_commits {d : Dev} {c : CmdRef} {x : Cmd} {o : Done} (hx : d.cmd? c = some x) (ho : x.outcome = some o)
    (hdown : (d.ep c.ep).downEv = none) (hmay : d.mayCommit c x = true) : ∃ f, doCommandCommit c d = (d.modEp c.ep (fun y =>
      { y with
        cmds := y.cmds.filter (fun z => !names c z)
        icq := y.icq ++ [{ cq := (d.cr c.ep c.ring).boundCq, image := completionImage x (d.fillDone o) }] })).modCr c.ep c.ring f := by
  refine ⟨fun r => { r with c := leadCommitted r c.ring ((d.ep c.ep).cmds.filter (fun z => !names c z)) }, ?_⟩
  simp [doCommandCommit, hx, ho, hdown, hmay]

/-- The oldest completion of a ring with room is written to the ring's position, with PHASE. -/
theorem doCompletionWrite_oldest {d : Dev} {e n : Nat} {y : Cpl} (hup : (d.ep e).up = true) (hst : (d.cq e n).st = .active)
    (hroom : (d.cq e n).full = false) (hy : (d.ep e).icq.find? (fun z => decide (z.cq = n)) = some y) :
    doCompletionWrite e n d =
      (((d.modEp e (fun x => { x with icq := x.icq.erase y })).modCq e n (fun q => { q with w := q.w + 1 })).emit
        (.hostWrite e ((d.cq e n).base.toNat + 32 * ((d.cq e n).w.toNat % 2 ^ (d.cq e n).sizeLog2))
          (leBytes 32 (y.image.toNat + phaseBit (d.cq e n).w (d.cq e n).sizeLog2 * 2 ^ 255)))).signal e n := by
  simp [doCompletionWrite, hup, hst, hroom, hy]

/-- Settles O5, a row at a time. -/
theorem commandsMoveFromFetchToCompletion : Obligations.CommandsMoveFromFetchToCompletion := by
  intro s e n he
  refine ⟨?_, ?_, ?_, ?_, ?_⟩
  · intro hup hroom hn
    refine ⟨{ s with dev := doDescriptorFetch e s.dev }, rfl, ?_⟩
    rw [doDescriptorFetch_next hup hroom hn]
    refine ⟨?_, ?_, rfl⟩
    · exact (cr_modEp (by simp) e n).trans (by simp)
    · simp [Dev.emit, Dev.ep, Dev.modEp]
  · intro check hup hi hst
    refine ⟨{ s with dev := doDescriptorFetchReturn e n none check s.dev }, rfl, ?_⟩
    rw [doDescriptorFetchReturn_error hup hi hst]
    refine ⟨?_, ?_, epRefresh_src_fetchStop (n := n) he ?_ ?_⟩
    · exact (cr_epRefresh ..).trans ((cr_ringStopped ..).trans (by simp))
    · simp [cmds_modCr]
    · rw [cr_ringStopped]
      simp
    · rw [cr_ringStopped]
      simp
  · intro moves x hroom harb hn hx
    obtain ⟨h, heps, hd⟩ := doCommandDispatch_dispatches hroom harb hn hx
    refine ⟨{ s with dev := doCommandDispatch s.dev }, rfl, ?_⟩
    rw [hd]
    simp [Dev.modCmd, Dev.ep, Dev.modEp, heps, names, Dev.onEngine]
  · intro c x o hc hx ho hdown hmay
    subst hc
    refine ⟨{ s with dev := doCommandCommit c s.dev }, rfl, ?_⟩
    obtain ⟨f, hf⟩ := doCommandCommit_commits hx ho hdown hmay
    rw [hf]
    refine ⟨?_, ?_⟩
    · simp [Dev.cmd?, cmds_modCr]
    · simp [icq_modCr]
  · intro y hup hst hroom hy
    refine ⟨{ s with dev := doCompletionWrite e n s.dev }, rfl, ?_⟩
    rw [doCompletionWrite_oldest hup hst hroom hy]
    refine ⟨?_, ?_, ?_⟩
    · rw [Calm.icq (Dev.signal_calm ..)]
      exact (icq_modCq ..).trans (by simp)
    · rw [Calm.cq (Dev.signal_calm ..)]
      show ((s.dev.modEp e _).modCq e n _).cq e n = _
      rw [cq_modCq, if_pos ⟨rfl, rfl⟩, cq_modEp (by simp)]
    · exact (out_signal ..).trans rfl

end Sys2Proof.Machine
end

section
/-! PROOFS. Endpoints that go down and come up, and the summary that needs no rings (02 R40, R77). -/
namespace Sys2Proof.Machine

/-! ### What leaves the counts of discarded completions as they are -/

/-- The counts of discarded completions, by endpoint, in a table of counters. -/
def discards (t : Tab Nat) (e : Nat) : Nat := tget t 0 (ctrKey .cplDiscard (e % 2 ^ 32))

theorem ctr_cplDiscard {d d' : Dev} (h : discards d'.ctrs = discards d.ctrs) {e : Nat} (he : e < 4) :
    d'.ctr .cplDiscard e = d.ctr .cplDiscard e := by
  have he' := congrFun h e
  rwa [discards, discards, Nat.mod_eq_of_lt (by omega)] at he'

/-- Every counter whose keys lie above those of CPL_DISCARD, and every other one whose index is small. -/
theorem discards_setCtr {c : Ctr} {i : Nat} (h : 9 < c.ctorIdx ∨ c.ctorIdx < 9 ∧ i < 2 ^ 32) (d : Dev) (v : Nat) :
    discards (d.setCtr c i v).ctrs = discards d.ctrs := by
  funext e
  refine tget_tset_ne _ _ _ _ fun hk => ?_
  have he : e % 2 ^ 32 < 2 ^ 32 := Nat.mod_lt _ (Nat.two_pow_pos 32)
  have hidx : Ctr.cplDiscard.ctorIdx = 9 := rfl
  simp only [ctrKey, hidx] at hk
  omega

theorem discards_bump {c : Ctr} (h : 9 < c.ctorIdx) (d : Dev) (i n : Nat) : discards (d.bump c i n).ctrs = discards d.ctrs :=
  discards_setCtr (.inl h) d _

@[simp] theorem discards_ite (c : Prop) [Decidable c] (a b : Tab Nat) :
    discards (if c then a else b) = if c then discards a else discards b := apply_ite _ _ _ _

@[simp] theorem discards_foldl {α : Type} (l : List α) (f : Dev → α → Dev) (h : ∀ d x, discards (f d x).ctrs = discards d.ctrs)
    (d : Dev) : discards (l.foldl f d).ctrs = discards d.ctrs := by
  induction l generalizing d with
  | nil => rfl
  | cons x l ih => exact (ih _).trans (h d x)

theorem discards_foldl3 {α β γ : Type} (l : List α) (f : γ × β × Dev → α → γ × β × Dev)
    (h : ∀ a x, discards (f a x).2.2.ctrs = discards a.2.2.ctrs) (a : γ × β × Dev) :
    discards (l.foldl f a).2.2.ctrs = discards a.2.2.ctrs := by
  induction l generalizing a with
  | nil => rfl
  | cons x l ih => exact (ih _).trans (h a x)

@[simp] theorem discards_pushRec (d : Dev) (r : Rec) : discards (d.pushRec r).ctrs = discards d.ctrs := by
  unfold Dev.pushRec
  split
  · rfl
  · dsimp only
    split
    · simpa using discards_bump (by decide) d 0 1
    next i _ =>
      refine (congrArg discards (?_ : _ = (d.bump .evrInputDrop 0).ctrs)).trans (discards_bump (by decide) ..)
      cases (d.bump .evrInputDrop 0).evr.input.reverse[i]? <;> simp

@[simp] theorem discards_record (d : Dev) (code : Nat) (who : Who) (source : Option Nat) (data : BitVec 160) :
    discards (d.record code who source data).ctrs = discards d.ctrs := discards_pushRec _ _

@[simp] theorem discards_thaw (d : Dev) (b : Bool) : discards (d.thaw b).ctrs = discards d.ctrs := discards_record ..

@[simp] theorem discards_unfreeze (d : Dev) (e : Nat) : discards (d.unfreeze e).ctrs = discards d.ctrs := by
  simp [Dev.unfreeze]

@[simp] theorem discards_readSweep (d : Dev) : discards d.readSweep.ctrs = discards d.ctrs := by
  simp [Dev.readSweep]

@[simp] theorem discards_reloadFails (d : Dev) (cause : Nat) : discards (d.reloadFails cause).ctrs = discards d.ctrs := by
  unfold Dev.reloadFails
  split <;> simp

@[simp] theorem discards_endedSweep (d : Dev) : discards d.endedSweep.ctrs = discards d.ctrs := by
  unfold Dev.endedSweep
  dsimp only
  repeat' split
  all_goals simp

@[simp] theorem discards_judge (d : Dev) (a : Nat) : discards (d.judge a).ctrs = discards d.ctrs := by
  refine discards_foldl _ _ (fun d c => ?_) d
  repeat' split
  · simp
  · rfl
  · exact discards_bump (by decide) _ _ _
  · rfl

@[simp] theorem discards_judgeAll (d : Dev) : discards d.judgeAll.ctrs = discards d.ctrs := by
  simp [Dev.judgeAll]

@[simp] theorem discards_retireCell (d : Dev) (c cause : Nat) : discards (d.retireCell c cause).ctrs = discards d.ctrs := by
  simp [Dev.retireCell]
  exact discards_setCtr (.inr (by decide)) _ _

@[simp] theorem discards_freeCell (d : Dev) (c : Nat) : discards (d.freeCell c).ctrs = discards d.ctrs := by
  simp [Dev.freeCell]

@[simp] theorem discards_release (d : Dev) (party c a : Nat) : discards (d.release party c a).2.ctrs = discards d.ctrs := by
  unfold Dev.release Dev.releaseAs
  dsimp only
  repeat' split
  all_goals simp

@[simp] theorem discards_releaseAll (d : Dev) (party a : Nat) (cs : List Nat) :
    discards (d.releaseAll party a cs).ctrs = discards d.ctrs := by
  simp [Dev.releaseAll]

@[simp] theorem discards_copyEnd (d : Dev) (party : Nat) (e : Ent) (t : Dest) :
    discards (d.copyEnd party e t).ctrs = discards d.ctrs := by
  unfold Dev.copyEnd
  repeat' split
  all_goals simp

/-- Every party that drops a copy counts it in a counter above CPL_DISCARD. -/
theorem discards_copyDrop {c : Ctr} (h : 9 < c.ctorIdx) (d : Dev) (party : Nat) (e : Ent) (t : Dest) (i : Nat) :
    discards (d.copyDrop party e t c i).ctrs = discards d.ctrs := by
  unfold Dev.copyDrop
  split
  · rfl
  · simp [discards_bump h]

theorem discards_rxLose {c : Ctr} (h : 9 < c.ctorIdx) (d : Dev) (ep : Nat) (y : Tx) :
    discards (d.rxLose ep y (some c)).ctrs = discards d.ctrs := by
  simp [Dev.rxLose, discards_copyDrop h]

theorem discards_freeWaiting {c : Ctr} (h : 9 < c.ctorIdx) (d : Dev) (keys : List Nat) (idx : Pkt → Dest → Nat) :
    discards (d.freeWaiting keys c idx).2.2.ctrs = discards d.ctrs := by
  refine discards_foldl3 _ _ (fun a x => ?_) (0, 0, d)
  split
  · rfl
  · exact discards_foldl3 _ _ (fun a t => by simp [discards_copyDrop h]) a

theorem discards_freeRx {c : Ctr} (h : 9 < c.ctorIdx) (d : Dev) (ep q : Nat) :
    discards (d.freeRx ep q c).ctrs = discards d.ctrs := by
  simp [Dev.freeRx, discards_freeWaiting h, discards_rxLose h, discards_copyDrop h]

@[simp] theorem discards_downDone (d : Dev) (e : Nat) : discards (d.downDone e).ctrs = discards d.ctrs := by
  unfold Dev.downDone
  dsimp only
  repeat' split
  all_goals simp

/-! ### Endpoints -/

theorem tget_tmap_of_forall {α : Type} [DecidableEq α] {P : α → Prop} {d : α} {f : α → α} (hd : P d) (hf : ∀ a, P (f a))
    (t : Tab α) (k : Nat) : P (tget (tmap t d f) d k) := by
  induction t with
  | nil => exact hd
  | cons x t ih =>
    unfold tmap at ih ⊢
    rw [List.filterMap_cons]
    by_cases h : f x.2 = d
    · simpa [h] using ih
    · simp only [h, if_false, tget]
      split
      · exact hf _
      · exact ih

/-- What an endpoint that goes down keeps, by its own record: rings and queues disabled, marked commands of an engine. -/
def Endpoint.lies (x : Endpoint) : Prop :=
  x.up = false ∧ (∀ n, (tget x.crs {} n).st = .disabled ∧ (tget x.cqs {} n).st = .disabled ∧ (tget x.rxqs {} n).st = .disabled ∧
    (tget x.txqs {} n).st = .disabled) ∧ x.icq = [] ∧ ∀ y ∈ x.cmds, y.marked = true ∧ y.executing = true

theorem disabled_crs (x : Endpoint) (n : Nat) : (tget x.disabled.crs {} n).st = .disabled := by
  unfold Endpoint.disabled
  dsimp only
  apply tget_tmap_of_forall (P := fun r : CmdRing => r.st = .disabled)
  · rfl
  · exact fun _ => rfl

theorem disabled_cqs (x : Endpoint) (n : Nat) : (tget x.disabled.cqs {} n).st = .disabled := by
  unfold Endpoint.disabled
  dsimp only
  apply tget_tmap_of_forall (P := fun r : CplRing => r.st = .disabled)
  · rfl
  · exact fun _ => rfl

theorem disabled_rxqs (x : Endpoint) (n : Nat) : (tget x.disabled.rxqs {} n).st = .disabled := by
  unfold Endpoint.disabled
  dsimp only
  apply tget_tmap_of_forall (P := fun r : PktQueue => r.st = .disabled)
  · rfl
  · exact fun _ => rfl

theorem disabled_txqs (x : Endpoint) (n : Nat) : (tget x.disabled.txqs {} n).st = .disabled := by
  unfold Endpoint.disabled
  dsimp only
  apply tget_tmap_of_forall (P := fun r : PktQueue => r.st = .disabled)
  · rfl
  · exact fun _ => rfl

theorem disabled_lies (x : Endpoint) (l : List Cmd) (ev : Option (Nat × Nat)) : Endpoint.lies { x.disabled with
    cmds := (l.filter Cmd.onEngine).map (fun y => { y with marked := true }), icq := [], downEv := ev } := by
  refine ⟨rfl, fun n => ⟨?_, ?_, ?_, ?_⟩, rfl, ?_⟩
  · exact disabled_crs ..
  · exact disabled_cqs ..
  · exact disabled_rxqs ..
  · exact disabled_txqs ..
  · intro y hy
    simp [Cmd.onEngine] at hy
    obtain ⟨z, ⟨hz, hexec, -⟩, rfl⟩ := hy
    exact ⟨rfl, hexec⟩

theorem lies_iff (d : Dev) (e : Nat) : (d.ep e).lies ↔ (d.ep e).up = false ∧ (∀ n, (d.cr e n).st = .disabled ∧
    (d.cq e n).st = .disabled ∧ (d.rxq e n).st = .disabled ∧ (d.txq e n).st = .disabled) ∧ (d.ep e).icq = [] ∧
    ∀ y ∈ (d.ep e).cmds, y.marked = true ∧ y.executing = true := Iff.rfl

theorem Calm.lies {d d' : Dev} (h : Calm d d') {e : Nat} (hl : (d.ep e).lies) : (d'.ep e).lies := by
  unfold Endpoint.lies
  rw [h.up e, h.crs e, h.cqs e, h.rxqs e, h.txqs e, h.icq e, h.cmds e]
  exact hl

theorem lies_modEp {d : Dev} {e : Nat} {f : Endpoint → Endpoint} (h : (d.ep e).lies) (hf : ∀ x, x.lies → (f x).lies)
    (e' : Nat) : ((d.modEp e' f).ep e).lies := by
  rw [ep_modEp]
  split
  next he => exact hf _ (he ▸ h)
  · exact h

theorem lies_downDone {d : Dev} {e : Nat} (h : (d.ep e).lies) (e' : Nat) : ((d.downDone e').ep e).lies := by
  unfold Dev.downDone
  split
  · exact h
  · split
    · exact h
    · refine Calm.lies ?_ (lies_modEp (f := fun x => { x with downEv := none }) h (fun x hx => hx) e')
      dsimp only
      split <;> simp [Calm]

/-- The commands and completions that go with the endpoint, as a drop of the endpoint counts them. -/
def Endpoint.discarded (x : Endpoint) : Nat := x.cmds.length - (x.cmds.filter Cmd.onEngine).length + x.icq.length

/-- An endpoint that falls: its record, the rows and the reload that wait for it, its count of discarded completions. -/
def Dev.fallen (d : Dev) (e : Nat) (cause : EpCause) : Dev :=
  let n := (d.ep e).discarded
  let d := d.modEp e (fun x => { (x.struck cause).disabled with
    cmds := ((d.ep e).cmds.filter Cmd.onEngine).map (fun y => { y with marked := true }), icq := []
    downEv := some (epCauseCode cause, n) })
  let d : Dev := { d with
    tmu := { d.tmu with atPps := d.tmu.atPps.filter (fun a => decide (a.ep ≠ e)) }
    boot := { d.boot with waiter := if (d.boot.waiter.map (fun w => w.1)) = some e then none else d.boot.waiter } }
  if n = 0 then d else d.bump .cplDiscard e n

/-- What the fall of an endpoint takes with it beyond its own record. -/
def Dev.afterFall (d : Dev) (e : Nat) : Dev :=
  let d := (setBits (d.owned e) 8).foldl (fun d p => if (d.mrpRing p).enable then d.disableRing p else d) d
  let d := ((List.range 256).filter (d.rxHolds e)).foldl (fun d q => d.freeRx e q .drHostQueueDown) d
  ((((d.endedSweep).epRefresh e).wordSource e).epSources e).downDone e

theorem doEndpointDown_up {d : Dev} {e : Nat} {cause : EpCause} (hp : d.present e = true) (hm : d.bal.mode ≠ .off)
    (hup : (d.ep e).up = true) : doEndpointDown e cause d = (d.fallen e cause).afterFall e := by
  simp only [doEndpointDown, hp, hm, hup, Bool.not_true, decide_false, Bool.or_self, Bool.false_eq_true, if_false]
  rfl

theorem fallen_lies (d : Dev) (e : Nat) (cause : EpCause) : ((d.fallen e cause).ep e).lies := by
  have h : ((d.fallen e cause).ep e) = { ((d.ep e).struck cause).disabled with
      cmds := ((d.ep e).cmds.filter Cmd.onEngine).map (fun y => { y with marked := true }), icq := []
      downEv := some (epCauseCode cause, (d.ep e).discarded) } := by
    unfold Dev.fallen
    dsimp only
    split <;> simp [Dev.ep, Dev.modEp, Dev.bump, Dev.setCtr]
  rw [h]
  exact disabled_lies ((d.ep e).struck cause) _ _

theorem afterFall_lies {d : Dev} {e : Nat} (h : (d.ep e).lies) : ((d.afterFall e).ep e).lies := by
  refine lies_downDone (Calm.lies ?_ h) e
  simp [Calm]

theorem discards_afterFall (d : Dev) (e : Nat) : discards (d.afterFall e).ctrs = discards d.ctrs := by
  have hfree (d : Dev) (q : Nat) : discards (d.freeRx e q .drHostQueueDown).ctrs = discards d.ctrs := discards_freeRx (by decide) ..
  simp [Dev.afterFall, hfree]

theorem length_discarded (x : Endpoint) : x.discarded = (x.cmds.filter (fun y => !y.onEngine)).length + x.icq.length := by
  have h := List.length_eq_length_filter_add (l := x.cmds) Cmd.onEngine
  simp only [Endpoint.discarded]
  omega

theorem ctr_fallen {d : Dev} {e n : Nat} {cause : EpCause} (hn : n = (d.ep e).discarded) (hne : n ≠ 0) :
    (d.fallen e cause).ctr .cplDiscard e = min (d.ctr .cplDiscard e + n) (2 ^ 64 - 1) := by
  subst hn
  simp only [Dev.fallen, hne, if_false]
  rw [ctr_bump]
  rfl

theorem present_lt {d : Dev} {e : Nat} (h : d.present e = true) : e < 4 := by
  have hc : d.epCount ≤ 4 := by
    unfold Dev.epCount
    split <;> decide
  exact Nat.lt_of_lt_of_le (of_decide_eq_true h) hc

/-- The device whose summary of `e` ends: the answer `bs` is out, and the register shows how it went. -/
def Dev.resynced (d : Dev) (e : Nat) (bs : List Byte) (bad : Bool) : Dev :=
  let d := (d.hostOut e (d.ep e).resyncAddr.toNat bs bad).modEp e (fun x =>
    { x with resyncBusy := false, resyncDone := !bad, resyncErr := bad })
  let d := d.record Ev.resync (whoOf (d.owned e)) none (dat [(0, 1, e), (1, 4, d.hif.surveySeq), (5, 1, b2n bad)])
  if !bad && (d.ep e).resyncIrqEn then d.signal e 577 else d

theorem doResyncDone_busy {d : Dev} {e : Nat} (err : Bool) (hbusy : (d.ep e).resyncBusy = true) : doResyncDone e err d =
    d.takeSurveySeq.resynced e (d.takeSurveySeq.survey (d.scope e 0) true (d.surveyCapture (d.scope e 0)))
      (err || !(d.ep e).up) := by
  unfold doResyncDone
  rw [hbusy]
  rfl

theorem Calm.calm_ep {d d' : Dev} (h : Calm d d') (e : Nat) : (d'.ep e).calm = (d.ep e).calm := congrFun h e

/-- The register after a summary that ended so. -/
theorem resynced_register (d : Dev) (e : Nat) (bs : List Byte) (bad : Bool) : ((d.resynced e bs bad).ep e).resyncBusy = false ∧
    ((d.resynced e bs bad).ep e).resyncDone = !bad ∧ ((d.resynced e bs bad).ep e).resyncErr = bad := by
  have hc : Calm ((d.hostOut e (d.ep e).resyncAddr.toNat bs bad).modEp e (fun x =>
      { x with resyncBusy := false, resyncDone := !bad, resyncErr := bad })) (d.resynced e bs bad) := by
    unfold Dev.resynced
    dsimp only
    split <;> simp [Calm]
  have hep := hc.calm_ep e
  rw [ep_modEp, if_pos rfl] at hep
  exact ⟨congrArg Endpoint.resyncBusy hep, congrArg Endpoint.resyncDone hep, congrArg Endpoint.resyncErr hep⟩

theorem surveySeq_signal (d : Dev) (e cause : Nat) : (d.signal e cause).hif.surveySeq = d.hif.surveySeq := by
  unfold Dev.signal
  dsimp only
  split <;> rfl

theorem resynced_surveySeq (d : Dev) (e : Nat) (bs : List Byte) (bad : Bool) :
    (d.resynced e bs bad).hif.surveySeq = d.hif.surveySeq := by
  unfold Dev.resynced
  dsimp only
  split <;> simp [surveySeq_signal, Dev.modEp]

theorem resynced_out (d : Dev) (e : Nat) (bs : List Byte) (bad : Bool) :
    (d.resynced e bs bad).out = (d.hostOut e (d.ep e).resyncAddr.toNat bs bad).out := by
  unfold Dev.resynced
  dsimp only
  split <;> simp

theorem ep_record (d : Dev) (code : Nat) (who : Who) (source : Option Nat) (data : BitVec 160) (e : Nat) :
    (d.record code who source data).ep e = d.ep e := ep_hif (by simp) e

theorem ep_liveFor (d : Dev) (k ticks attr e : Nat) : (d.liveFor k ticks attr).ep e = d.ep e := ep_hif (by simp) e

theorem ep_bump (d : Dev) (c : Ctr) (i n e : Nat) : (d.bump c i n).ep e = d.ep e := ep_hif (by simp) e

theorem ep_epSources (d : Dev) (e' e : Nat) : (d.epSources e').ep e = d.ep e := ep_hif (by simp) e

theorem cmds_downDone (d : Dev) (e e' : Nat) : ((d.downDone e).ep e').cmds = (d.ep e').cmds := by
  unfold Dev.downDone
  dsimp only
  repeat' split
  · rfl
  · rfl
  · rw [ep_record, ep_modEp]
    split <;> simp_all
  · rw [ep_liveFor, ep_record, ep_modEp]
    split <;> simp_all

theorem cmds_discardStopped (d : Dev) (c : CmdRef) :
    ((d.discardStopped c).ep c.ep).cmds = (d.ep c.ep).cmds.filter (fun z => !names c z) := by
  unfold Dev.discardStopped
  rw [cmds_downDone, ep_bump, ep_modEp, if_pos rfl]

theorem cmds_foldl_discardStopped (e : Nat) (l : List Cmd) (d : Dev) :
    ((l.foldl (fun (d : Dev) x => d.discardStopped { ep := e, ring := x.ring, pos := x.pos }) d).ep e).cmds =
      (d.ep e).cmds.filter (fun z => !l.any (fun x => names { ep := e, ring := x.ring, pos := x.pos } z)) := by
  induction l generalizing d with
  | nil => simp
  | cons x l ih =>
    rw [List.foldl_cons, ih]
    have h := cmds_discardStopped d { ep := e, ring := x.ring, pos := x.pos }
    dsimp only at h
    rw [h]
    simp [Bool.and_comm]

/-- An endpoint that comes up has no command, and nothing keeps it down. -/
theorem doEndpointUp_ep {d : Dev} {e : Nat} (hp : d.present e = true) (hm : d.bal.mode ≠ .off) (hup : (d.ep e).up = false) :
    ∃ x : Endpoint, x.cmds = [] ∧ ((doEndpointUp e d).ep e).calm =
      Endpoint.calm { x with up := true, perst := false, flr := false, linkDown := false, bmeClear := false } := by
  have hcmds : (((d.ep e).cmds.foldl (fun (d : Dev) x => d.discardStopped { ep := e, ring := x.ring, pos := x.pos }) d).ep e).cmds =
      [] := by
    rw [cmds_foldl_discardStopped, List.filter_eq_nil_iff]
    intro z hz
    simpa [names] using ⟨z, hz, rfl, rfl⟩
  refine ⟨_, hcmds, ?_⟩
  simp only [doEndpointUp, hp, hm, hup, Bool.not_true, Bool.or_self, decide_false, Bool.false_eq_true, if_false]
  rw [Calm.calm_ep (Dev.msixFlush_calm ..), ep_epSources, ep_modEp, if_pos rfl]

/-- Settles O6, a row at a time. -/
theorem endpointsGoDownAndComeUp : Obligations.EndpointsGoDownAndComeUp := by
  intro s e hp hm
  have he : e < 4 := present_lt hp
  refine ⟨?_, ?_, ?_, ?_, ?_⟩
  · intro cause hup
    refine ⟨{ s with dev := doEndpointDown e cause s.dev }, rfl, ?_⟩
    rw [doEndpointDown_up hp hm hup]
    have hlies := afterFall_lies (fallen_lies s.dev e cause)
    have hctr := ctr_cplDiscard (discards_afterFall (s.dev.fallen e cause) e) he
    generalize (s.dev.fallen e cause).afterFall e = d at hlies hctr ⊢
    obtain ⟨hdown, hrings, hicq, hcmds⟩ := (lies_iff _ _).1 hlies
    exact ⟨hdown, hrings, hicq, hcmds, fun n hn hne =>
      hctr.trans (ctr_fallen (hn.trans (length_discarded ..).symm) hne)⟩
  · intro hup
    refine ⟨{ s with dev := doEndpointUp e s.dev }, rfl, ?_⟩
    obtain ⟨x, hcmds, hx⟩ := doEndpointUp_ep hp hm hup
    exact ⟨congrArg Endpoint.up hx, congrArg Endpoint.perst hx, congrArg Endpoint.flr hx, congrArg Endpoint.linkDown hx,
      congrArg Endpoint.bmeClear hx, (congrArg Endpoint.cmds hx).trans hcmds⟩
  · intro v hans h0 hbusy
    refine ⟨{ s with dev := doEpResyncGo e v s.dev }, rfl, ?_⟩
    simp [doEpResyncGo, hans, hm, h0, hbusy]
  · intro hbusy hup
    refine ⟨{ s with dev := doResyncDone e false s.dev }, rfl, ?_⟩
    rw [doResyncDone_busy _ hbusy, hup]
    obtain ⟨hbusy', hdone, herr⟩ := resynced_register s.dev.takeSurveySeq e
      (s.dev.takeSurveySeq.survey (s.dev.scope e 0) true (s.dev.surveyCapture (s.dev.scope e 0))) false
    refine ⟨hbusy', hdone, herr, resynced_surveySeq .., (resynced_out ..).trans ?_⟩
    have hup' : (s.dev.takeSurveySeq.ep e).up = true := hup
    simp only [Dev.hostOut, hup', if_true]
    rfl
  · intro hbusy
    refine ⟨{ s with dev := doResyncDone e true s.dev }, rfl, ?_⟩
    rw [doResyncDone_busy _ hbusy, Bool.true_or]
    obtain ⟨hbusy', hdone, herr⟩ := resynced_register s.dev.takeSurveySeq e
      (s.dev.takeSurveySeq.survey (s.dev.scope e 0) true (s.dev.surveyCapture (s.dev.scope e 0))) true
    exact ⟨hbusy', hdone, herr, resynced_surveySeq ..⟩

end Sys2Proof.Machine
end

section
/-! PROOFS. Interrupt messages follow their moderation and their masks (02 R65). -/
namespace Sys2Proof.Machine

@[simp] theorem gather_modGather (d : Dev) (e v e' v' : Nat) (f : VecGather → VecGather) :
    (d.modGather e v f).gather e' v' = if e = e' ∧ v = v' then f (d.gather e v) else d.gather e' v' := by
  simp [Dev.modGather, Dev.gather]
  split <;> simp_all

theorem tick_reach (d : Dev) (t : Nat) : t ≤ (d.reach t).bal.tick := by
  simp only [Dev.reach, Dev.pass]
  omega

theorem tick_msixDue (d : Dev) (e v : Nat) : (d.msixDue e v).bal.tick = d.bal.tick := by simp

/-- A message that falls due: sent, held, or of no polder of the endpoint. -/
theorem msixDue_effect (d : Dev) (e v : Nat) :
    (d.vecOwned e v = true → d.msixOpen e v = true → (d.msixDue e v).gather e v = {} ∧
      (d.msixDue e v).out = .msix e v (d.msixEntry e v).addr.toNat (d.msixEntry e v).data.toNat :: d.out) ∧
    (d.vecOwned e v = true → d.msixOpen e v = false →
      ((d.msixDue e v).gather e v).pending = true ∧ (d.msixDue e v).out = d.out) ∧
    (d.vecOwned e v = false → (d.msixDue e v).gather e v = {} ∧ (d.msixDue e v).out = d.out) := by
  refine ⟨fun ho hop => ?_, fun ho hop => ?_, fun ho => ?_⟩
  · simp only [Dev.msixDue, ho, hop, Bool.not_true, Bool.false_eq_true, if_false, if_true]
    exact ⟨(gather_modGather ..).trans (if_pos ⟨rfl, rfl⟩), rfl⟩
  · simp only [Dev.msixDue, ho, hop, Bool.not_true, Bool.false_eq_true, if_false]
    exact ⟨congrArg VecGather.pending ((gather_modGather ..).trans (if_pos ⟨rfl, rfl⟩)), rfl⟩
  · simp only [Dev.msixDue, ho, Bool.not_false, if_true]
    exact ⟨(gather_modGather ..).trans (if_pos ⟨rfl, rfl⟩), rfl⟩

/-- The only message that an endpoint holds goes out once nothing keeps it back, while no alarm is owed. -/
theorem msixFlush_single {d : Dev} {e v : Nat} {g : VecGather} (hg : (d.ep e).gather = [(v, g)]) (hp : g.pending = true)
    (ha : (d.ep e).alarmOwed = false) (ho : d.vecOwned e v = true) (hop : d.msixOpen e v = true) : d.msixFlush e =
      (d.modGather e v (fun x => { x with pending := false })).emit
        (.msix e v (d.msixEntry e v).addr.toNat (d.msixEntry e v).data.toNat) := by
  have htry : d.alarmTry e = d := by simp [Dev.alarmTry, ha]
  simp [Dev.msixFlush, htry, hg, Dev.each, hp, ho, hop, ha]

theorem masked_tmod (t : Tab MsixEntry) (v : Nat) :
    (tget (tmod t {} v (fun m => { m with masked := false })) {} v).masked = false := by
  rw [tget_tmod, if_pos rfl]

/-- A write after which nothing keeps the only held message back sends it. -/
theorem modEp_msixFlush {d : Dev} {e v : Nat} {g : VecGather} {f : Endpoint → Endpoint} (hg : (f (d.ep e)).gather = [(v, g)])
    (hp : g.pending = true) (ha : (f (d.ep e)).alarmOwed = false) (ho : d.vecOwned e v = true)
    (hop : (d.modEp e f).msixOpen e v = true) :
    (((d.modEp e f).msixFlush e).gather e v).pending = false ∧
      ((d.modEp e f).msixFlush e).out = .msix e v (tget (f (d.ep e)).msix {} v).addr.toNat (tget (f (d.ep e)).msix {} v).data.toNat ::
        d.out ∧
      (((d.modEp e f).msixFlush e).ep e).calm = (f (d.ep e)).calm := by
  have hep : (d.modEp e f).ep e = f (d.ep e) := (ep_modEp ..).trans (if_pos rfl)
  refine and_assoc.1 ⟨?_, (Calm.calm_ep (Dev.msixFlush_calm ..) e).trans (congrArg _ hep)⟩
  rw [← hep] at hg ha
  have ho' : (d.modEp e f).vecOwned e v = true := ho
  rw [msixFlush_single hg hp ha ho' hop]
  refine ⟨congrArg VecGather.pending ((gather_modGather ..).trans (if_pos ⟨rfl, rfl⟩)), ?_⟩
  show Out.msix e v ((d.modEp e f).msixEntry e v).addr.toNat ((d.modEp e f).msixEntry e v).data.toNat :: d.out = _
  simp only [Dev.msixEntry, hep]

/-- Settles O7, the two rows of moderation by what is due, the writes by the one message they let go. -/
theorem messagesFollowTheirModeration : Obligations.MessagesFollowTheirModeration := by
  intro s e v
  refine ⟨?_, ?_⟩
  · intro i hn hi
    obtain ⟨rfl, hdue⟩ | rfl := hi
    · refine ⟨{ s with dev := doMsixMessage e v s.dev }, rfl, by simp, ?_⟩
      have hd : doMsixMessage e v s.dev = s.dev.msixDue e v := if_pos ⟨hn, hdue⟩
      rw [hd]
      exact msixDue_effect ..
    · refine ⟨{ s with dev := doMsixDelayExpiry e v s.dev }, rfl, ?_⟩
      have hd : doMsixDelayExpiry e v s.dev =
          (s.dev.reach ((s.dev.gather e v).first + usTicks (s.dev.vecDelay e v))).msixDue e v := if_pos hn
      rw [hd]
      refine ⟨fun _ => ?_, ?_⟩
      · exact (tick_reach ..).trans (Nat.le_of_eq (tick_msixDue ..).symm)
      · exact msixDue_effect (s.dev.reach ((s.dev.gather e v).first + usTicks (s.dev.vecDelay e v))) e v
  · intro g hans hg hp ha ho hup hbme
    refine ⟨fun hen hfm => ?_, fun hen hm => ?_, fun hfm hm => ?_⟩
    · obtain ⟨hpend, hout, hep⟩ := modEp_msixFlush (d := s.dev) (e := e)
        (f := fun x => { x with msix := tmod x.msix {} v (fun m => { m with masked := false }) }) hg hp ha ho
        (by simp [Dev.msixOpen, hup, hbme, hen, hfm, Dev.msixEntry])
      refine ⟨{ s with dev := doMsixUnmask e (.vector v) s.dev }, rfl, ?_⟩
      simp only [doMsixUnmask, hans, Bool.not_true, Bool.false_eq_true, if_false]
      refine ⟨?_, hpend, hout.trans ?_⟩
      · have hmsix := congrArg Endpoint.msix hep
        exact (congrArg (fun t => (tget t ({} : MsixEntry) v).masked) hmsix).trans (masked_tmod ..)
      · dsimp only
        rw [tget_tmod, if_pos rfl]
        rfl
    · obtain ⟨hpend, hout, hep⟩ := modEp_msixFlush (d := s.dev) (e := e) (f := fun x => { x with funcMask := false }) hg hp ha ho
        (by simpa [Dev.msixOpen, hup, hbme, hen, Dev.msixEntry] using hm)
      refine ⟨{ s with dev := doMsixUnmask e .function s.dev }, rfl, ?_⟩
      simp only [doMsixUnmask, hans, Bool.not_true, Bool.false_eq_true, if_false]
      exact ⟨congrArg Endpoint.funcMask hep, hpend, hout⟩
    · obtain ⟨hpend, hout, hep⟩ := modEp_msixFlush (d := s.dev) (e := e) (f := fun x => { x with msixEnable := true }) hg hp ha ho
        (by simpa [Dev.msixOpen, hup, hbme, hfm, Dev.msixEntry] using hm)
      refine ⟨{ s with dev := doMsixUnmask e .enable s.dev }, rfl, ?_⟩
      simp only [doMsixUnmask, hans, Bool.not_true, Bool.false_eq_true, if_false]
      exact ⟨congrArg Endpoint.msixEnable hep, hpend, hout⟩

end Sys2Proof.Machine
end

section
/-! PROOFS. Packet queues of hosts: receive, starve and transmit (02 R60, R61, R63). -/
namespace Sys2Proof.Machine

/-! ### Copies that end leave the entries of every queue, and take nothing back that left the device -/

@[simp] theorem queues_tidy (d : Dev) (pid : Nat) : (d.tidy pid).dp.queues = d.dp.queues := by
  unfold Dev.tidy
  dsimp only
  repeat' split
  all_goals simp

@[simp] theorem queues_copyEnd (d : Dev) (party : Nat) (e : Ent) (t : Dest) : (d.copyEnd party e t).dp.queues = d.dp.queues := by
  unfold Dev.copyEnd
  dsimp only
  repeat' split
  all_goals simp [Dev.modPkt]

@[simp] theorem queues_copyDrop (d : Dev) (party : Nat) (e : Ent) (t : Dest) (c : Ctr) (i : Nat) :
    (d.copyDrop party e t c i).dp.queues = d.dp.queues := by
  unfold Dev.copyDrop
  split <;> simp

theorem queues_foldl {α : Type} (l : List α) (f : Dev → α → Dev) (h : ∀ d x, (f d x).dp.queues = d.dp.queues) (d : Dev) :
    (l.foldl f d).dp.queues = d.dp.queues := by
  induction l generalizing d with
  | nil => rfl
  | cons x l ih => exact (ih _).trans (h d x)

theorem queues_foldl3 {α β γ : Type} (l : List α) (f : γ × β × Dev → α → γ × β × Dev)
    (h : ∀ a x, (f a x).2.2.dp.queues = a.2.2.dp.queues) (a : γ × β × Dev) : (l.foldl f a).2.2.dp.queues = a.2.2.dp.queues := by
  induction l generalizing a with
  | nil => rfl
  | cons x l ih => exact (ih _).trans (h a x)

@[simp] theorem queues_rxLose (d : Dev) (ep : Nat) (y : Tx) (c : Option Ctr) : (d.rxLose ep y c).dp.queues = d.dp.queues := by
  unfold Dev.rxLose
  dsimp only
  split <;> simp [Dev.setTxs]

@[simp] theorem queues_freeWaiting (d : Dev) (keys : List Nat) (c : Ctr) (idx : Pkt → Dest → Nat) :
    (d.freeWaiting keys c idx).2.2.dp.queues = d.dp.queues := by
  refine queues_foldl3 _ _ (fun a x => ?_) (0, 0, d)
  split
  · rfl
  · exact queues_foldl3 _ _ (fun a t => by simp [Dev.modPkt]) a

/-- A receive queue that is freed holds no frame. -/
theorem ents_freeRx (d : Dev) (ep q : Nat) (c : Ctr) : ((d.freeRx ep q c).queue (Dest.host ep q).key).ents = [] := by
  have hq : (d.freeRx ep q c).dp.queues = tmod d.dp.queues {} (Dest.host ep q).key (fun u => { u with ents := [] }) := by
    unfold Dev.freeRx
    dsimp only
    rw [queues_freeWaiting, queues_foldl _ _ (fun d y => queues_rxLose ..), queues_foldl _ _ (fun d e => queues_copyDrop ..)]
    rfl
  unfold Dev.queue
  rw [hq, tget_tmod, if_pos rfl]

theorem mem_out_txWriteBack {d : Dev} {o : Out} (h : o ∈ d.out) (ep q addr sec ns status : Nat) :
    o ∈ (d.txWriteBack ep q addr sec ns status).out := by
  unfold Dev.txWriteBack
  split
  · rw [out_signal]
    exact List.mem_cons_of_mem _ h
  · exact h

theorem mem_out_tidy {d : Dev} {o : Out} (h : o ∈ d.out) (pid : Nat) : o ∈ (d.tidy pid).out := by
  unfold Dev.tidy
  dsimp only
  repeat' split
  · exact mem_out_txWriteBack (by simpa using h) ..
  all_goals exact h

theorem mem_out_copyEnd {d : Dev} {o : Out} (h : o ∈ d.out) (party : Nat) (e : Ent) (t : Dest) : o ∈ (d.copyEnd party e t).out := by
  unfold Dev.copyEnd
  dsimp only
  split
  · exact h
  · refine mem_out_tidy ?_ _
    split <;> simpa using h

/-! ### Frames that a host receives -/

theorem mem_out_hostOut {d : Dev} {o : Out} (h : o ∈ d.out) (e a : Nat) (bs : List Byte) (err : Bool) :
    o ∈ (d.hostOut e a bs err).out := by
  unfold Dev.hostOut
  split
  · exact List.mem_cons_of_mem _ h
  · exact h

theorem mem_out_hostOut_self {d : Dev} {e : Nat} (hup : (d.ep e).up = true) (a : Nat) (bs : List Byte) :
    .hostWrite e a bs ∈ (d.hostOut e a bs false).out := by
  simp [Dev.hostOut, hup, Dev.emit]

theorem hif_foldl_hostOut (e : Nat) (a : Nat → Nat) (b : Nat → List Byte) (l : List Nat) (d : Dev) :
    (l.foldl (fun d i => d.hostOut e (a i) (b i) false) d).hif = d.hif := by simp

theorem mem_out_foldl_hostOut {d : Dev} {o : Out} (h : o ∈ d.out) (e : Nat) (a : Nat → Nat) (b : Nat → List Byte) (l : List Nat) :
    o ∈ (l.foldl (fun d i => d.hostOut e (a i) (b i) false) d).out := by
  induction l generalizing d with
  | nil => exact h
  | cons i l ih => exact ih (mem_out_hostOut h ..)

theorem ep_hostOut (d : Dev) (e a : Nat) (bs : List Byte) (err : Bool) (e' : Nat) : (d.hostOut e a bs err).ep e' = d.ep e' :=
  ep_hif (by simp) e'

/-- Writes of an endpoint that is up are all made. -/
theorem hostWrite_mem_foldl_hostOut {d : Dev} {e i : Nat} {l : List Nat} (hup : (d.ep e).up = true) (hi : i ∈ l) (a : Nat → Nat)
    (b : Nat → List Byte) : .hostWrite e (a i) (b i) ∈ (l.foldl (fun d i => d.hostOut e (a i) (b i) false) d).out := by
  induction l generalizing d with
  | nil => cases hi
  | cons j l ih =>
    obtain rfl | hi := List.mem_cons.1 hi
    · exact mem_out_foldl_hostOut (mem_out_hostOut_self hup ..) ..
    · refine ih ?_ hi
      rwa [ep_hostOut]

/-- A frame on its way to the host: it has left the port, and its bytes and its write-backs are out. -/
def Dev.rxWritten (d : Dev) (e q : Nat) (y : Tx) (x : Pkt) (bufs : List (Nat × Nat)) (ns : List Nat) : Dev :=
  let r := d.rxq e q
  let d := d.setTxs (528 + e) ((d.txs (528 + e)).erase y)
  let d := (List.range ns.length).foldl (fun (d : Dev) i =>
    d.hostOut e (bufs.getD i (0, 0)).1 ((y.bytes.drop ((ns.take i).foldl (· + ·) 0)).take (ns.getD i 0)) false) d
  (List.range ns.length).foldl (fun (d : Dev) i =>
    d.hostOut e (r.base.toNat + 32 * ((r.used.toNat + i) % 2 ^ r.sizeLog2))
      (leBytes 32 (rxWriteBack x (ns.getD i 0) (decide (i = 0)) (decide (i + 1 = ns.length)))) false) d

theorem hif_rxWritten (d : Dev) (e q : Nat) (y : Tx) (x : Pkt) (bufs : List (Nat × Nat)) (ns : List Nat) :
    (d.rxWritten e q y x bufs ns).hif = d.hif := by
  simp [Dev.rxWritten]

theorem hif_meter (d : Dev) (x : Pkt) (pipe i n : Nat) : (d.meter x pipe i n).hif = d.hif := by simp

/-- The buffers that the frame fills take the used count on. -/
theorem used_rxDeliver (d : Dev) (e q : Nat) (y : Tx) (x : Pkt) (bufs : List (Nat × Nat)) (ns : List Nat) :
    ((d.rxDeliver e q y x bufs ns false).rxq e q).used = (d.rxq e q).used + BitVec.ofNat 32 ns.length := by
  have hf : ∃ f : PktQueue → PktQueue, (∀ r, (f r).used = r.used + BitVec.ofNat 32 ns.length) ∧
      Calm ((d.rxWritten e q y x bufs ns).modRxq e q f) (d.rxDeliver e q y x bufs ns false) := by
    refine ⟨_, ?_, (Dev.copyEnd_calm ..).trans ((Dev.signal_calm ..).trans (congrArg Hif.calm (hif_meter ..)))⟩
    exact fun r => rfl
  obtain ⟨f, hused, hc⟩ := hf
  rw [hc.rxq, rxq_modRxq, if_pos ⟨rfl, rfl⟩, hused, rxq_hif (hif_rxWritten ..)]

theorem mem_out_rxDeliver {d : Dev} {e q : Nat} {y : Tx} {x : Pkt} {bufs : List (Nat × Nat)} {ns : List Nat} {o : Out}
    (h : o ∈ (d.rxWritten e q y x bufs ns).out) : o ∈ (d.rxDeliver e q y x bufs ns false).out := by
  unfold Dev.rxDeliver
  refine mem_out_copyEnd ?_ ..
  rw [out_signal]
  simp
  exact h

/-! ### Frames that a host sends -/

/-- An endpoint with a receive queue that has starved keeps its source 7 live (02 Table 2-22). -/
theorem epRefresh_src_starved {d : Dev} {e q : Nat} (he : e < 4) (h : (d.rxq e q).st = .starved) :
    ((d.epRefresh e).src (0x47 + 16 * e)).live = true := by
  have hany : (d.ep e).rxqs.any (fun r => decide (r.2.st = .starved)) = true :=
    any_of_tget _ ({} : PktQueue) q (fun r => decide (r.st = .starved)) (decide_eq_true h) rfl
  have hsev : (defaultSeverity (0x47 + 16 * e)).isSome = true := by
    obtain rfl | rfl | rfl | rfl := endpoint_cases he <;> rfl
  unfold Dev.epRefresh
  dsimp only
  rw [hany, show 0x40 + 16 * e + 7 = 0x47 + 16 * e by omega]
  exact src_live_self hsev _ _

theorem queue_dp {d d' : Dev} (h : d'.dp = d.dp) (k : Nat) : d'.queue k = d.queue k := by simp [Dev.queue, h]

/-- A receive queue that starves: it holds no frame, and the endpoint's source shows it. -/
theorem starve_effect (d : Dev) {e : Nat} (he : e < 4) (q : Nat) :
    let d' := ((d.freeRx e q .drHostRxStarved).modRxq e q (fun z => { z with st := .starved })).epRefresh e
    (d'.rxq e q).st = .starved ∧ (d'.queue (Dest.host e q).key).ents = [] ∧ (d'.src (0x47 + 16 * e)).live = true ∧ d'.bal = d.bal := by
  refine ⟨by simp, ?_, epRefresh_src_starved (q := q) he (by simp), by simp⟩
  rw [queue_dp (d := d.freeRx e q .drHostRxStarved) (by simp)]
  exact ents_freeRx ..

/-- The descriptors' addresses of a frame of `n`, from the queue's position on. -/
def txAddrs (r : PktQueue) (n : Nat) : List Nat :=
  (List.range n).map (fun i => r.base.toNat + 32 * ((r.used.toNat + i) % 2 ^ r.sizeLog2))

/-- A transmit queue's turn taken, and its descriptors used. -/
def Dev.txTaken (d : Dev) (e q n : Nat) : Dev :=
  (d.modEp e (fun x => { x with rrTx := q })).modTxq e q (fun z => { z with used := z.used + BitVec.ofNat 32 n })

/-- A frame handed to the parser of the endpoint's pipeline. -/
def Dev.txPut (d : Dev) (e : Nat) (f : HostTx) : Dev :=
  ({ d with dp := { d.dp with inject := tset d.dp.inject [] e (tget d.dp.inject [] e ++ [f]) } }).trigger (4 * e)

theorem used_txTaken (d : Dev) (e q n : Nat) : ((d.txTaken e q n).txq e q).used = (d.txq e q).used + BitVec.ofNat 32 n := by
  rw [Dev.txTaken, txq_modTxq, if_pos ⟨rfl, rfl⟩, txq_modEp (by simp)]

theorem up_txTaken (d : Dev) (e q n : Nat) : ((d.txTaken e q n).ep e).up = (d.ep e).up := by
  simp [Dev.txTaken, Dev.modTxq]

theorem txq_txRefuse (d : Dev) (e q : Nat) (descs : List Nat) (status e' n : Nat) :
    (d.txRefuse e q descs status).txq e' n = d.txq e' n := by
  refine (txq_txWriteBack ..).trans (txq_hif ?_ _ _)
  split <;> simp

theorem hif_foldl_emit (o : Nat → Out) (l : List Nat) (d : Dev) : (l.foldl (fun d a => d.emit (o a)) d).hif = d.hif := by simp

/-- A refusal completes the frame's last descriptor with its status. -/
theorem mem_out_txRefuse {d : Dev} {e : Nat} (hup : (d.ep e).up = true) (q : Nat) (descs : List Nat) (status : Nat) :
    .hostWrite e (descs.getLastD 0 + 16) (leBytes 4 0 ++ leBytes 4 0 ++ leBytes 4 0 ++ leBytes 3 status ++ [0x80]) ∈
      (d.txRefuse e q descs status).out := by
  have hup' (l : List Nat) : ((l.foldl (fun d a => d.emit (.hostWrite e (a + 31) [0x80])) d).ep e).up = true := by
    rw [ep_hif (hif_foldl_emit ..)]
    exact hup
  simp only [Dev.txRefuse, hup, if_true, Dev.txWriteBack, hup', out_signal]
  exact List.mem_cons_self

theorem liveMs_src_self {k : Nat} (h : (defaultSeverity k).isSome = true) (d : Dev) (attr : Nat) :
    ((d.liveMs k attr).src k).live = true := by
  simp [Dev.liveMs, Dev.liveFor, Option.isNone_eq_false_iff.2 h]

theorem txq_liveMs (d : Dev) (k attr e q : Nat) : (d.liveMs k attr).txq e q = d.txq e q := txq_hif (by simp) e q

theorem txq_trigger (d : Dev) (p e q : Nat) : (d.trigger p).txq e q = d.txq e q := txq_hif (by simp) e q

theorem defaultSeverity_txError {e : Nat} (he : e < 4) : (defaultSeverity (0x46 + 16 * e)).isSome = true := by
  obtain rfl | rfl | rfl | rfl := endpoint_cases he <;> rfl

theorem out_liveMs (d : Dev) (k attr : Nat) : (d.liveMs k attr).out = d.out := by simp

theorem dp_liveMs (d : Dev) (k attr : Nat) : (d.liveMs k attr).dp = d.dp := by simp

theorem inject_txPut (d : Dev) (e : Nat) (f : HostTx) : tget (d.txPut e f).dp.inject [] e = tget d.dp.inject [] e ++ [f] := by
  have hdp : (d.txPut e f).dp.inject = tset d.dp.inject [] e (tget d.dp.inject [] e ++ [f]) := by simp [Dev.txPut]
  rw [hdp, tget_tset, if_pos rfl]

theorem dp_txRefuse (d : Dev) (e q : Nat) (descs : List Nat) (status : Nat) : (d.txRefuse e q descs status).dp = d.dp := by simp

/-- A frame refused leaves the frames that wait for the parser. -/
theorem inject_txRefuse_txTaken (d : Dev) (e q n : Nat) (descs : List Nat) (status : Nat) :
    tget ((d.txTaken e q n).txRefuse e q descs status).dp.inject [] e = tget d.dp.inject [] e := by
  rw [dp_txRefuse]
  rfl

section
variable {d : Dev} {e q p : Nat} {h : BitVec 256} {rest : List (BitVec 256)}

variable (hlad : (d.ladder (528 + e) 0 true).isSome = true) (hup : (d.ep e).up = true)
  (hparse : (d.pipe (4 * e)).parseStopped = false) (hact : (d.pipe (4 * e)).actionStopped = false) (hmode : d.fetchesTx = true)
  (hq : d.txTurn e = some q) (hn : (h :: rest).length ≤ ((d.txq e q).posted - (d.txq e q).used).toNat)
  (hp : d.txqPolder e q = some p)
include hlad hup hparse hact hmode hq hn hp

/-- A frame that cannot be read is refused, and its error is reported. -/
theorem doTxFrameFetch_none : doTxFrameFetch e (h :: rest) none d =
    ((d.txTaken e q (h :: rest).length).txRefuse e q (txAddrs (d.txq e q) (h :: rest).length) 3).liveMs (0x46 + 16 * e) (2 ^ p) := by
  have hp' : (d.txTaken e q (h :: rest).length).txqPolder e q = some p := hp
  unfold doTxFrameFetch
  simp only [Option.isNone_eq_false_iff.2 hlad, hup, hparse, hact, hmode, hq, Nat.not_lt.2 hn, Bool.not_true, Bool.or_self,
    Bool.false_eq_true, if_false]
  show Dev.liveMs _ _ (2 ^ ((d.txTaken e q (h :: rest).length).txqPolder e q).getD 0) = _
  rw [hp']
  rfl

omit hp in
/-- Whatever becomes of the frame, its descriptors are used. -/
theorem used_doTxFrameFetch (bytes : Option (List Byte)) : ((doTxFrameFetch e (h :: rest) bytes d).txq e q).used =
    (d.txq e q).used + BitVec.ofNat 32 (h :: rest).length := by
  have hrefuse (as : List Nat) (k : Nat) := (congrArg PktQueue.used
    (txq_txRefuse (d.txTaken e q (h :: rest).length) e q as k e q)).trans (used_txTaken d e q (h :: rest).length)
  unfold doTxFrameFetch
  simp only [Option.isNone_eq_false_iff.2 hlad, hup, hparse, hact, hmode, hq, Nat.not_lt.2 hn, Bool.not_true, Bool.or_self,
    Bool.false_eq_true, if_false]
  cases bytes with
  | none => exact (congrArg PktQueue.used (txq_liveMs ..)).trans (hrefuse _ _)
  | some bs =>
    dsimp only
    split
    · exact hrefuse _ _
    split
    · exact hrefuse _ _
    split
    · exact hrefuse _ _
    · exact (congrArg PktQueue.used (txq_trigger ..)).trans (used_txTaken ..)

omit hp in
/-- A frame without a good chain, or of less than 60 bytes, is refused. -/
theorem doTxFrameFetch_badLength {bs : List Byte} (hbad : 8 < (h :: rest).length ∨ txF ((h :: rest).getLastD 0) 10 1 1 ≠ 1 ∨
    (h :: rest).foldl (fun m w => m + txF w 8 0 16) 0 < 60) : doTxFrameFetch e (h :: rest) (some bs) d =
      (d.txTaken e q (h :: rest).length).txRefuse e q (txAddrs (d.txq e q) (h :: rest).length) 2 := by
  unfold doTxFrameFetch
  simp only [Option.isNone_eq_false_iff.2 hlad, hup, hparse, hact, hmode, hq, Nat.not_lt.2 hn, Bool.not_true, Bool.or_self,
    Bool.false_eq_true, if_false]
  rw [if_pos]
  · rfl
  · obtain hbad | hbad | hbad := hbad
    · simp only [Nat.not_le.2 hbad, decide_false, Bool.false_and, Bool.not_false, Bool.true_or]
    · simp only [decide_eq_false hbad, Bool.and_false, Bool.not_false, Bool.true_or]
    · simp only [hbad, decide_true, Bool.or_true]

/-- A direct frame to a port of another polder is refused. -/
theorem doTxFrameFetch_foreign {bs : List Byte} (hlen : (h :: rest).length ≤ 8) (heop : txF ((h :: rest).getLastD 0) 10 1 1 = 1)
    (hsize : 60 ≤ (h :: rest).foldl (fun m w => m + txF w 8 0 16) 0) (hdir : txF h 10 2 1 = 1)
    (hforeign : d.lanePolder (txF h 12 0 10) ≠ some p) : doTxFrameFetch e (h :: rest) (some bs) d =
      (d.txTaken e q (h :: rest).length).txRefuse e q (txAddrs (d.txq e q) (h :: rest).length) 1 := by
  unfold doTxFrameFetch
  simp only [Option.isNone_eq_false_iff.2 hlad, hup, hparse, hact, hmode, hq, Nat.not_lt.2 hn, Bool.not_true, Bool.or_self,
    Bool.false_eq_true, if_false]
  simp only [hlen, heop, decide_true, Bool.and_self, Bool.not_true, Nat.not_lt.2 hsize, decide_false, Bool.or_self,
    Bool.false_eq_true, if_false]
  have hpol : d.lanePolder (txF h 12 0 10) ≠ some ((d.txqPolder e q).getD 0) := by
    rw [hp]
    exact hforeign
  exact if_pos (congrArg₂ and (decide_eq_true hdir) (decide_eq_true hpol))

/-- A frame that may be sent waits for the parser. -/
theorem doTxFrameFetch_sent {bs : List Byte} (hbs : bs.length = (h :: rest).foldl (fun m w => m + txF w 8 0 16) 0)
    (hlen : (h :: rest).length ≤ 8) (heop : txF ((h :: rest).getLastD 0) 10 1 1 = 1)
    (hsize : 60 ≤ (h :: rest).foldl (fun m w => m + txF w 8 0 16) 0) (hdir : txF h 10 2 1 = 1 →
      d.lanePolder (txF h 12 0 10) = some p ∧
        (h :: rest).foldl (fun m w => m + txF w 8 0 16) 0 + 4 ≤ (d.port (txF h 12 0 10)).maxFrame) :
    doTxFrameFetch e (h :: rest) (some bs) d = (d.txTaken e q (h :: rest).length).txPut e {
      polder := p, queue := q, descs := txAddrs (d.txq e q) (h :: rest).length, bytes := bs
      direct := if txF h 10 2 1 = 1 then some (txF h 12 0 10, txF h 12 10 4) else none
      tsReq := if txF h 10 3 1 = 1 then some (e, q, (txAddrs (d.txq e q) (h :: rest).length).getLastD 0) else none } := by
  unfold doTxFrameFetch
  simp only [Option.isNone_eq_false_iff.2 hlad, hup, hparse, hact, hmode, hq, Nat.not_lt.2 hn, Bool.not_true, Bool.or_self,
    Bool.false_eq_true, if_false]
  simp only [hlen, heop, decide_true, Bool.and_self, Bool.not_true, Nat.not_lt.2 hsize, decide_false, Bool.or_self,
    Bool.false_eq_true, if_false]
  have hdef : (d.txqPolder e q).getD 0 = p := by rw [hp]; rfl
  have hown : ¬(decide (txF h 10 2 1 = 1) && decide (d.lanePolder (txF h 12 0 10) ≠ some ((d.txqPolder e q).getD 0))) = true := by
    simp only [hdef, Bool.and_eq_true, decide_eq_true_iff, not_and, not_not]
    exact fun hd => (hdir hd).1
  have hfits : ¬(decide (txF h 10 2 1 = 1) && decide ((d.port (txF h 12 0 10)).maxFrame <
      (h :: rest).foldl (fun m w => m + txF w 8 0 16) 0 + 4)) = true := by
    simp only [Bool.and_eq_true, decide_eq_true_iff, not_and, Nat.not_lt]
    exact fun hd => (hdir hd).2
  refine (if_neg hown).trans ((if_neg hfits).trans ?_)
  rw [← hbs, List.take_length, Nat.sub_self, List.replicate_zero, List.append_nil]
  exact congrArg (fun k => (d.txTaken e q (h :: rest).length).txPut e {
    polder := k, queue := q, descs := txAddrs (d.txq e q) (h :: rest).length, bytes := bs
    direct := if txF h 10 2 1 = 1 then some (txF h 12 0 10, txF h 12 10 4) else none
    tsReq := if txF h 10 3 1 = 1 then some (e, q, (txAddrs (d.txq e q) (h :: rest).length).getLastD 0) else none }) hdef

end

/-- Settles O8, a queue and an end of its frame at a time. -/
theorem hostPacketQueuesMoveFrames : Obligations.HostPacketQueuesMoveFrames := by
  intro s e q he
  refine ⟨?_, ?_, ?_⟩
  · intro posted y x bufs hup hy hx hdest hstomp hst hbufs
    have hqnum : y.dest.qnum = q := by rw [hdest]; rfl
    refine ⟨fun ns hns => ?_, fun hns hlen => ?_⟩
    · refine ⟨{ s with dev := doRxFrameDelivery e posted false s.dev }, rfl, ?_⟩
      have hd : doRxFrameDelivery e posted false s.dev = s.dev.rxDeliver e q y x bufs ns false := by
        subst hbufs
        simp only [doRxFrameDelivery, hy, hx, hqnum, hstomp, Bool.false_eq_true, if_false, hst, hns]
      rw [hd]
      refine ⟨used_rxDeliver .., fun i hi => ⟨mem_out_rxDeliver ?_, mem_out_rxDeliver ?_⟩⟩
      · exact mem_out_foldl_hostOut (hostWrite_mem_foldl_hostOut (d := s.dev.setTxs _ _) hup (List.mem_range.2 hi)
          (fun i => (bufs.getD i (0, 0)).1) (fun i => (y.bytes.drop ((ns.take i).foldl (· + ·) 0)).take (ns.getD i 0))) ..
      · refine hostWrite_mem_foldl_hostOut ?_ (List.mem_range.2 hi) (fun i => (s.dev.rxq e q).base.toNat +
          32 * (((s.dev.rxq e q).used.toNat + i) % 2 ^ (s.dev.rxq e q).sizeLog2)) (fun i =>
            leBytes 32 (rxWriteBack x (ns.getD i 0) (decide (i = 0)) (decide (i + 1 = ns.length))))
        rw [ep_hif (hif_foldl_hostOut ..)]
        exact hup
    · refine ⟨{ s with dev := doRxFrameDelivery e posted false s.dev }, rfl, ?_⟩
      have hd : doRxFrameDelivery e posted false s.dev = s.dev.rxLose e y (some .drHostRxOversize) := by
        subst hbufs
        simp only [doRxFrameDelivery, hy, hx, hqnum, hstomp, Bool.false_eq_true, if_false, hst, hns, if_pos hlen]
      rw [hd]
      exact Calm.rxq (Dev.rxLose_calm ..) e q
  · intro t0 ht0 hst hempty
    refine ⟨{ s with dev := doRxQueueStarved e q s.dev }, rfl, ?_⟩
    have hd : doRxQueueStarved e q s.dev = ((((s.dev.reach (t0 + msTicks (min 100 (s.dev.rxq e q).starve))).freeRx e q
        .drHostRxStarved).modRxq e q (fun z => { z with st := .starved }))).epRefresh e := by
      simp [doRxQueueStarved, ht0, hst, hempty]
    obtain ⟨hst', hents, hsrc, hbal⟩ := starve_effect (s.dev.reach (t0 + msTicks (min 100 (s.dev.rxq e q).starve))) he q
    rw [← hd] at hst' hents hsrc hbal
    refine ⟨hst', hents, hsrc, ?_⟩
    show _ ≤ (doRxQueueStarved e q s.dev).bal.tick
    rw [hbal, ← msTicks]
    exact tick_reach ..
  · intro h rest size addrs p hlad hup hparse hact hmode hq hn hsize hp haddrs bytes
    refine ⟨{ s with dev := doTxFrameFetch e (h :: rest) bytes s.dev }, rfl, ?_⟩
    have haddrs' : txAddrs (s.dev.txq e q) (h :: rest).length = addrs := haddrs.symm
    have hup' : ((s.dev.txTaken e q (h :: rest).length).ep e).up = true := (up_txTaken ..).trans hup
    subst hsize
    have hnone := doTxFrameFetch_none hlad hup hparse hact hmode hq hn hp
    have hlen (bs : List Byte) := doTxFrameFetch_badLength hlad hup hparse hact hmode hq hn (bs := bs)
    have hforeign (bs : List Byte) := doTxFrameFetch_foreign hlad hup hparse hact hmode hq hn hp (bs := bs)
    have hsent (bs : List Byte) := doTxFrameFetch_sent hlad hup hparse hact hmode hq hn hp (bs := bs)
    simp only [haddrs'] at hnone hsent
    refine ⟨used_doTxFrameFetch hlad hup hparse hact hmode hq hn bytes, ?_, ?_, ?_, ?_⟩
    · rintro rfl
      show (Dev.src (doTxFrameFetch e (h :: rest) none s.dev) _).live = true ∧ tget (doTxFrameFetch e (h :: rest) none s.dev).dp.inject
        [] e = _ ∧ _ ∈ (doTxFrameFetch e (h :: rest) none s.dev).out
      rw [hnone]
      refine ⟨liveMs_src_self (defaultSeverity_txError he) .., ?_, ?_⟩
      · rw [dp_liveMs]
        exact inject_txRefuse_txTaken ..
      · rw [out_liveMs]
        exact mem_out_txRefuse hup' ..
    · intro hb hbad
      obtain ⟨bs, rfl⟩ := Option.ne_none_iff_exists'.1 hb
      show tget (doTxFrameFetch e (h :: rest) (some bs) s.dev).dp.inject [] e = _ ∧
        _ ∈ (doTxFrameFetch e (h :: rest) (some bs) s.dev).out
      rw [hlen bs hbad, haddrs']
      exact ⟨inject_txRefuse_txTaken .., mem_out_txRefuse hup' ..⟩
    · intro hb hlen' heop hsize hdir hf
      obtain ⟨bs, rfl⟩ := Option.ne_none_iff_exists'.1 hb
      show tget (doTxFrameFetch e (h :: rest) (some bs) s.dev).dp.inject [] e = _ ∧
        _ ∈ (doTxFrameFetch e (h :: rest) (some bs) s.dev).out
      rw [hforeign bs hlen' heop hsize hdir hf, haddrs']
      exact ⟨inject_txRefuse_txTaken .., mem_out_txRefuse hup' ..⟩
    · rintro bs rfl hbs hlen' heop hsize hdir
      show tget (doTxFrameFetch e (h :: rest) (some bs) s.dev).dp.inject [] e = _
      rw [hsent bs hbs hlen' heop hsize hdir]
      exact inject_txPut ..

end Sys2Proof.Machine
end

section
/-! PROOFS. Counter reads and clears, and the diagnostics (13 R424; 18 R536-R538). -/
namespace Sys2Proof.Machine

theorem isRunning_calm {d d' : Dev} {c : CmdRef} {x : Cmd} (hc : Calm d d') (h : d.isRunning c x) : d'.isRunning c x := by
  simpa [Dev.isRunning, Dev.cmd?, hc.cmds] using h

theorem ctr_ctrs {d d' : Dev} (h : d'.ctrs = d.ctrs) (k : Ctr) (i : Nat) : d'.ctr k i = d.ctr k i := by simp [Dev.ctr, h]

/-! ### The counters of a block -/

theorem ctrKey_ne {a b : CtrItem} (h : ctrKey a.ctr a.idx ≠ ctrKey b.ctr b.idx) (d : Dev) (v : Nat) :
    (d.setCtr a.ctr a.idx v).ctr b.ctr b.idx = d.ctr b.ctr b.idx := tget_tset_ne _ _ _ _ h

theorem ctorIdx_of_ctrKey {a b : Ctr} {i j : Nat} (hi : i < 2 ^ 32) (hj : j < 2 ^ 32) (h : ctrKey a i = ctrKey b j) :
    a.ctorIdx = b.ctorIdx := by
  unfold ctrKey at h
  omega

/-- Two counters that share a place in the table have the same value now. -/
def CtrItem.agrees (a b : CtrItem) : Prop := ctrKey a.ctr a.idx = ctrKey b.ctr b.idx → a.now = b.now

/-- What a read leaves of the peaks. -/
def Dev.peaksRestart (d : Dev) (xs : List CtrItem) : Dev :=
  xs.foldl (fun (d : Dev) y => if y.sort = .peak then d.setCtr y.ctr y.idx y.now else d) d

theorem ctr_peaksRestart_of_eq {xs : List CtrItem} {y : CtrItem} (hag : ∀ a ∈ xs, a.sort = .peak → a.agrees y) {d : Dev}
    (h : d.ctr y.ctr y.idx = y.now) : (d.peaksRestart xs).ctr y.ctr y.idx = y.now := by
  induction xs generalizing d with
  | nil => exact h
  | cons a xs ih =>
    refine ih (fun b hb => hag b (.tail a hb)) ?_
    dsimp only
    split
    next ha =>
      by_cases hk : ctrKey a.ctr a.idx = ctrKey y.ctr y.idx
      · simp [Dev.ctr, Dev.setCtr, hk, hag a (.head xs) ha hk]
      · rw [ctrKey_ne hk, h]
    · exact h

theorem ctr_peaksRestart {xs : List CtrItem} {y : CtrItem} (hag : ∀ a ∈ xs, a.sort = .peak → a.agrees y) (hy : y ∈ xs)
    (hs : y.sort = .peak) (d : Dev) : (d.peaksRestart xs).ctr y.ctr y.idx = y.now := by
  induction xs generalizing d with
  | nil => cases hy
  | cons a xs ih =>
    obtain rfl | hy := List.mem_cons.1 hy
    · exact ctr_peaksRestart_of_eq (fun b hb => hag b (.tail y hb)) (by simp [hs])
    · exact ih (fun b hb => hag b (.tail a hb)) hy _

theorem ctr_foldl_clear {xs : List CtrItem} (d : Dev) {y : CtrItem} (hin : y ∈ xs ∧ y.sort ≠ .current ∨ d.ctr y.ctr y.idx = 0) :
    (xs.foldl (fun (d : Dev) y => if y.sort = .current then d else d.setCtr y.ctr y.idx 0) d).ctr y.ctr y.idx = 0 := by
  induction xs generalizing d with
  | nil => exact hin.resolve_left (by simp)
  | cons a xs ih =>
    refine ih _ ?_
    obtain ⟨hy, hs⟩ | h0 := hin
    · obtain rfl | hy := List.mem_cons.1 hy
      · exact .inr (by simp [hs])
      · exact .inl ⟨hy, hs⟩
    · refine .inr ?_
      dsimp only
      split
      · exact h0
      · by_cases hk : ctrKey a.ctr a.idx = ctrKey y.ctr y.idx
        · simp [Dev.ctr, Dev.setCtr, hk]
        · rw [ctrKey_ne hk, h0]

theorem peaks_totals (i : Nat) (cs : List Ctr) : (totals i cs).filter (fun y => decide (y.sort = .peak)) = [] := by
  simp [totals]

/-- The peaks that stand in blocks of index `i`. -/
def Dev.peaksOf (d : Dev) (i : Nat) : List CtrItem :=
  [{ ctr := .hrPeak, idx := i, sort := .peak, now := (d.acct (i / 8)).hu.getD (i % 8) 0 },
    { ctr := .lrqPeak, idx := i, sort := .peak, now := (d.lrq (i / 8) (i % 8)).bytes },
    { ctr := .basinPeak, idx := i, sort := .peak, now := (d.queue i).chain.length }]

theorem ctrItems_peaks (d : Dev) (kind i bank : Nat) :
    ∀ y ∈ (d.ctrItems kind i bank).filter (fun y => decide (y.sort = .peak)), y ∈ d.peaksOf i := by
  unfold Dev.ctrItems
  split
  all_goals simp [peaks_totals, portItems, Dev.deviceItems, Dev.tenantItems, Dev.peaksOf]
  intro y _ hy hs
  simp [totals] at hy
  obtain rfl | rfl | rfl := hy <;> cases hs

/-- The peaks of a block lie at places of their own. -/
theorem ctrItems_agree (d : Dev) {kind i : Nat} (hi : i < 2 ^ 32) (bank : Nat) :
    ∀ a ∈ d.ctrItems kind i bank, ∀ b ∈ d.ctrItems kind i bank, a.sort = .peak → b.sort = .peak → a.agrees b := by
  intro a ha b hb hsa hsb hk
  have ha' := ctrItems_peaks d kind i bank a (List.mem_filter.2 ⟨ha, decide_eq_true hsa⟩)
  have hb' := ctrItems_peaks d kind i bank b (List.mem_filter.2 ⟨hb, decide_eq_true hsb⟩)
  simp only [Dev.peaksOf, List.mem_cons, List.not_mem_nil, or_false] at ha' hb'
  have hidx : a.idx < 2 ^ 32 ∧ b.idx < 2 ^ 32 := by
    refine ⟨?_, ?_⟩
    · obtain rfl | rfl | rfl := ha' <;> exact hi
    · obtain rfl | rfl | rfl := hb' <;> exact hi
  have hctr := ctorIdx_of_ctrKey hidx.1 hidx.2 hk
  obtain rfl | rfl | rfl := ha'
  · obtain rfl | rfl | rfl := hb'
    · rfl
    · exact (Nat.ne_of_beq_eq_false rfl hctr).elim
    · exact (Nat.ne_of_beq_eq_false rfl hctr).elim
  · obtain rfl | rfl | rfl := hb'
    · exact (Nat.ne_of_beq_eq_false rfl hctr).elim
    · rfl
    · exact (Nat.ne_of_beq_eq_false rfl hctr).elim
  · obtain rfl | rfl | rfl := hb'
    · exact (Nat.ne_of_beq_eq_false rfl hctr).elim
    · exact (Nat.ne_of_beq_eq_false rfl hctr).elim
    · rfl

theorem fld_lt (x : Cmd) (off lsb n : Nat) : x.fld off lsb n < 2 ^ n := bits_lt ..

theorem doOpCounterRead_run {d : Dev} {c : CmdRef} {io : Io} {x : Cmd} (h : d.isRunning c x) (hop : isOp 0x40 x = true) {d' : Dev}
    (hd : d' = if x.fld 16 0 8 = 14 then Dev.combineOld d.mrp.merging.length d else d) : doOpCounterRead c io d =
      ((d'.peaksRestart (d'.ctrItems (x.fld 16 0 8) (x.fld 20 0 32) (x.fld 17 0 2))).hostOut c.ep (x.fld 24 0 64)
        (ctrBlock (x.fld 16 0 8) (x.fld 20 0 32) ((d'.ctrItems (x.fld 16 0 8) (x.fld 20 0 32) (x.fld 17 0 2)).map d'.ctrValue))
        io.wrErr).okBuf c io.wrErr 24 := by
  subst hd
  exact step1_run h hop

theorem hif_peaksRestart (d : Dev) (xs : List CtrItem) : (d.peaksRestart xs).hif = d.hif := by
  simp [Dev.peaksRestart]

theorem out_peaksRestart (d : Dev) (xs : List CtrItem) : (d.peaksRestart xs).out = d.out := by
  simp [Dev.peaksRestart]

theorem ctrs_okBuf (d : Dev) (c : CmdRef) (err : Bool) (off : Nat) : (d.okBuf c err off).ctrs = d.ctrs := by simp

theorem out_okBuf (d : Dev) (c : CmdRef) (err : Bool) (off : Nat) : (d.okBuf c err off).out = d.out := by simp

theorem ctrs_ok (d : Dev) (c : CmdRef) (r0 r1 detail : Nat) : (d.ok c r0 r1 detail).ctrs = d.ctrs := by simp

theorem ctrs_hostOut (d : Dev) (e a : Nat) (bs : List Byte) (err : Bool) : (d.hostOut e a bs err).ctrs = d.ctrs := by simp

theorem okBuf_ended' {d : Dev} {c : CmdRef} {x : Cmd} (h : d.isRunning c x) (err : Bool) (off : Nat) :
    (d.okBuf c err off).ended c x (if err then failDone stTimeout off else okDone) := by
  cases err with
  | false => exact okBuf_ended h
  | true => exact fail_ended h

/-! ### The memories of a memory test -/

theorem tget_filter {α : Type} {p : Nat × α → Bool} {d : α} {P : α → Prop} (hd : P d) (hp : ∀ x, p x = true → P x.2) (t : Tab α)
    (k : Nat) : P (tget (t.filter p) d k) := by
  induction t with
  | nil => exact hd
  | cons x t ih =>
    rw [List.filter_cons]
    split
    next hx =>
      unfold tget
      split
      · exact hp x hx
      · exact ih
    · exact ih

theorem tget_map {α : Type} (t : Tab α) (d : α) (f : α → α) (k : Nat) :
    tget (t.map (fun x => (x.1, f x.2))) (f d) k = f (tget t d k) := by
  induction t with
  | nil => rfl
  | cons x t ih =>
    simp only [List.map_cons, tget]
    split <;> simp_all

/-- The buffers are zero: cells, links and packets. -/
theorem bistZero_buffers (d : Dev) : (d.bistZero 0).bpm.cells = [] ∧ (d.bistZero 0).bpm.links = [] ∧
    ∀ k y, tget (d.bistZero 0).dp.pkts none k = some y → ∀ b ∈ y.bytes, b = 0 := by
  refine ⟨rfl, rfl, fun k y hy => ?_⟩
  have hmap : tget (d.bistZero 0).dp.pkts none k = (tget d.dp.pkts none k).map Pkt.zeroed := tget_map _ none (Option.map Pkt.zeroed) k
  rw [hmap, Option.map_eq_some_iff] at hy
  obtain ⟨z, -, rfl⟩ := hy
  simp [Pkt.zeroed]

/-- A quadrant's copies are zero: its MAC entries have gone, and no other entry stands in its copy. -/
theorem bistZero_quadrant (d : Dev) {q : Nat} (hq : q < 4) : (tget (d.bistZero (q + 1)).lrn.quads {} q).ents = [] ∧
    ∀ k y, tget (d.bistZero (q + 1)).rle.ents none k = some y → y.bad.testBit q = true := by
  have hd : d.bistZero (q + 1) = { d with
      rle := { d.rle with
        ents := d.rle.ents.map (fun (e : Nat × Option TabEnt) => (e.1, e.2.map (fun y => { y with bad := y.bad ||| 2 ^ q })))
        relocs := [] }
      lrn := { d.lrn with quads := tmod d.lrn.quads {} q (fun y => { y with ents := [], relocs := [] }) } } := by
    obtain rfl | rfl | rfl | rfl := endpoint_cases hq <;> rfl
  rw [hd]
  refine ⟨by simp, fun k y hy => ?_⟩
  have hmap := tget_map d.rle.ents none (Option.map (fun y : TabEnt => { y with bad := y.bad ||| 2 ^ q })) k
  have hy' := hmap.symm.trans hy
  rw [Option.map_eq_some_iff] at hy'
  obtain ⟨z, -, rfl⟩ := hy'
  simp

/-- The telemetry archive is empty, and of the flows those of the cache stand. -/
theorem bistZero_telemetry (d : Dev) : (d.bistZero 6).esc.archive = [] ∧
    ∀ k f, tget (d.bistZero 6).mrp.flows none k = some f → f.cached = true := by
  refine ⟨rfl, fun k f hf => ?_⟩
  have hp := tget_filter (p := fun f : Nat × Option Flow => (f.2.map Flow.cached).getD false) (d := none)
    (P := fun o => ∀ f, o = some f → f.cached = true) (by simp)
    (by
      rintro ⟨j, o⟩ ho f rfl
      simpa using ho) d.mrp.flows k
  exact hp f hf

/-- Scheduling, gate lists and the counters that no reset keeps are zero. -/
theorem bistZero_scheduling (d : Dev) : (d.bistZero 7).esc.scheds = [] ∧ (d.bistZero 7).esc.buckets = [] ∧
    (d.bistZero 7).esc.tides = [] ∧ ∀ k, keptCtr k = false → tget (d.bistZero 7).ctrs 0 k = 0 := by
  refine ⟨rfl, rfl, rfl, fun k hk => ?_⟩
  show tget (d.ctrs.filter (fun x => keptCtr x.1)) 0 k = 0
  generalize d.ctrs = t
  induction t with
  | nil => rfl
  | cons x t ih =>
    rw [List.filter_cons]
    split
    next hx =>
      unfold tget
      have hne : x.1 ≠ k := by
        rintro rfl
        simp [hk] at hx
      simpa [hne] using ih
    · exact ih

/-- Settles O9, a command at a time. -/
theorem countersAndDiagnosticsComplete : Obligations.CountersAndDiagnosticsComplete := by
  intro s c io x h
  refine ⟨?_, ?_, ?_, ?_, ?_, ?_, ?_⟩
  · intro d is hop hd his
    have hc : Calm s.dev d := by
      rw [hd]
      split
      · exact Dev.combineOld_calm ..
      · rfl
    subst his
    refine ⟨{ s with dev := doOpCounterRead c io s.dev }, rfl, ?_⟩
    have hrun : (d.peaksRestart (d.ctrItems (x.fld 16 0 8) (x.fld 20 0 32) (x.fld 17 0 2))).isRunning c x :=
      isRunning_congr (hif_peaksRestart ..) (isRunning_calm hc h)
    have hend := okBuf_ended' (isRunning_hostOut hrun c.ep (x.fld 24 0 64) (ctrBlock (x.fld 16 0 8) (x.fld 20 0 32)
      ((d.ctrItems (x.fld 16 0 8) (x.fld 20 0 32) (x.fld 17 0 2)).map d.ctrValue)) io.wrErr) io.wrErr 24
    have hrow := doOpCounterRead_run (io := io) h hop hd
    rw [← hrow] at hend
    refine ⟨hend, fun y hy hs => ?_, fun herr hup => ?_⟩
    · show (doOpCounterRead c io s.dev).ctr _ _ = _
      rw [hrow, ctr_ctrs (ctrs_okBuf ..), ctr_ctrs (ctrs_hostOut ..)]
      exact ctr_peaksRestart (fun a ha hsa => ctrItems_agree d (fld_lt ..) _ a ha y hy hsa hs) hy hs d
    · show (doOpCounterRead c io s.dev).out = _
      rw [hrow, out_okBuf, herr]
      have hup' : ((d.peaksRestart (d.ctrItems (x.fld 16 0 8) (x.fld 20 0 32) (x.fld 17 0 2))).ep c.ep).up = true := by
        rw [ep_hif (hif_peaksRestart ..)]
        exact hup
      simp only [Dev.hostOut, hup', if_true, Dev.emit, out_peaksRestart, Bool.false_eq_true, if_false]
  · intro hop
    refine ⟨{ s with dev := doOpCounterClear c io s.dev }, rfl, ?_⟩
    rw [show doOpCounterClear c io s.dev = _ from step1_run h hop]
    refine ⟨ok_ended (isRunning_congr (by simp) h), fun y hy hs => ?_⟩
    exact (ctr_ctrs (ctrs_ok ..) _ _).trans (ctr_foldl_clear s.dev (.inl ⟨hy, hs⟩))
  · intro hop
    refine ⟨{ s with dev := doOpDiagLoopback c io s.dev }, rfl, ?_⟩
    rw [show doOpDiagLoopback c io s.dev = _ from step1_run h hop]
    refine ⟨fun hp => ?_, fun hp => ?_⟩
    · simp only [hp, Bool.not_true, Bool.false_eq_true, if_false]
      exact ⟨ok_ended (isRunning_congr (by simp) h), by simp⟩
    · simp only [hp, Bool.not_false, if_true]
      exact ⟨fail_ended h, by simp⟩
  · intro hop hio
    refine ⟨{ s with dev := doOpDiagBist c io s.dev }, rfl, ?_⟩
    rw [show doOpDiagBist c io s.dev = _ from step1_run h hop]
    simp only [hio, ne_eq, not_true, if_false]
    refine ⟨ok_ended (isRunning_congr (by simp) h), by simp, ?_, ?_, ?_, ?_, ?_⟩
    · intro hg
      rw [hg]
      simpa using bistZero_buffers { s.dev with boot := { s.dev.boot with bistRun := true } }
    · intro q hq hg
      rw [hg]
      simpa using bistZero_quadrant { s.dev with boot := { s.dev.boot with bistRun := true } } hq
    · intro hg
      rw [hg]
      simp [Dev.bistZero]
    · intro hg
      rw [hg]
      simpa using bistZero_telemetry { s.dev with boot := { s.dev.boot with bistRun := true } }
    · intro hg
      rw [hg]
      simpa using bistZero_scheduling { s.dev with boot := { s.dev.boot with bistRun := true } }
  · intro hop
    refine ⟨{ s with dev := doOpDiagPrbsStart c io s.dev }, rfl, ?_⟩
    rw [show doOpDiagPrbsStart c io s.dev = _ from step1_run h hop]
    refine ⟨fun hp => ?_, fun hp => ?_⟩
    · simp only [hp, Bool.not_true, Bool.false_eq_true, if_false]
      exact ⟨ok_ended (isRunning_congr (by simp) h), by simp [Dev.setPrbs]⟩
    · simp only [hp, Bool.not_false, if_true]
      exact fail_ended h
  · intro hop
    refine ⟨{ s with dev := doOpDiagPrbsRead c io s.dev }, rfl, ?_⟩
    rw [show doOpDiagPrbsRead c io s.dev = _ from step1_run h hop]
    refine ⟨fun hp => ?_, fun hp => ⟨fun g hg => ?_, fun hg => ?_⟩⟩
    · simp only [hp, Bool.not_false, if_true]
      exact fail_ended h
    · simp only [hp, Bool.not_true, Bool.false_eq_true, if_false, Dev.prbsCounts, hg]
      exact ⟨ok_ended (isRunning_congr (by simp) h), by simp [Dev.setPrbs]⟩
    · simp only [hp, Bool.not_true, Bool.false_eq_true, if_false, Dev.prbsCounts, hg]
      exact ok_ended (isRunning_congr (by simp) h)
  · intro hop
    refine ⟨{ s with dev := doOpDiagPrbsStop c io s.dev }, rfl, ?_⟩
    rw [show doOpDiagPrbsStop c io s.dev = _ from step1_run h hop]
    refine ⟨fun hp => ?_, fun hp => ⟨?_, fun g hg => ?_, fun hg => ?_⟩⟩
    · simp only [hp, Bool.not_false, if_true]
      exact fail_ended h
    · simp only [hp, Bool.not_true, Bool.false_eq_true, if_false]
      simp [Dev.setPrbs]
    · simp only [hp, Bool.not_true, Bool.false_eq_true, if_false, Dev.prbsCounts, hg]
      exact ok_ended (isRunning_congr (by simp) h)
    · simp only [hp, Bool.not_true, Bool.false_eq_true, if_false, Dev.prbsCounts, hg]
      exact ok_ended (isRunning_congr (by simp) h)

end Sys2Proof.Machine
end

section
/-! PROOFS. The SMBus sideband, the LEDs and the TAP (02 R78; 19 R558-R561). -/
namespace Sys2Proof.Machine

theorem length_leBytes (k n : Nat) : (leBytes k n).length = k := by
  induction k generalizing n with
  | zero => rfl
  | succ k ih => exact congrArg (· + 1) (ih _)

theorem smbOn_of_mode {d : Dev} (h : d.bal.mode ≠ .off) : d.smbOn = true := decide_eq_true h

/-! ### Answers -/

section
variable {d : Dev} {pec : Bool} {check : Nat → List Byte → List Byte} (hm : d.bal.mode ≠ .off)
  (hcheck : ∀ code bs, check code bs = bs ++
    if pec then [BitVec.ofNat 8 (crc8 ([d.smbAddr false, BitVec.ofNat 8 code, d.smbAddr true] ++ bs))] else [])
include hm hcheck

theorem smbAnswer_eq (code : Nat) (bs : List Byte) : d.smbAnswer code bs pec = d.emit (.smbus (check code bs)) := by
  rw [hcheck, Dev.smbAnswer, smbOn_of_mode hm]
  rfl

/-- A block answer of fewer than 256 bytes starts with its length. -/
theorem smbBlock_eq (code : Nat) {bs : List Byte} {n : Byte} (hn : n = BitVec.ofNat 8 bs.length) :
    d.smbBlock code bs pec = d.emit (.smbus (check code (n :: bs))) := by
  rw [hn]
  exact smbAnswer_eq hm hcheck ..

end

theorem length_flatMap_const {α : Type} {l : List α} {f : α → List Byte} {k : Nat} (h : ∀ a, (f a).length = k) :
    (l.flatMap f).length = k * l.length := by
  induction l with
  | nil => rfl
  | cons a l ih => rw [List.flatMap_cons, List.length_append, h, ih, List.length_cons, Nat.mul_succ, Nat.add_comm]

/-! ### Tokens -/

theorem tget_tsetMany_of_outside {α : Type} [DecidableEq α] (dflt : α) (vs : List α) (t : Tab α) (k : Nat) {j : Nat}
    (hj : j < k ∨ k + vs.length ≤ j) : tget (tsetMany dflt t k vs) dflt j = tget t dflt j := by
  induction vs generalizing t k with
  | nil => rfl
  | cons v vs ih =>
    rw [List.length_cons] at hj
    rw [tsetMany, ih _ _ (by omega), tget_tset, if_neg (by omega)]

theorem tget_tsetMany_of_inside {α : Type} [DecidableEq α] (dflt : α) (vs : List α) (t : Tab α) (k : Nat) {i : Nat}
    (hi : i < vs.length) : tget (tsetMany dflt t k vs) dflt (k + i) = vs[i] := by
  induction vs generalizing t k i with
  | nil => cases hi
  | cons v vs ih =>
    rw [tsetMany]
    cases i with
    | zero =>
      show tget (tsetMany dflt (tset t dflt k v) (k + 1) vs) dflt k = v
      rw [tget_tsetMany_of_outside _ _ _ _ (.inl (Nat.lt_succ_self k)), tget_tset, if_pos rfl]
    | succ i =>
      have hk : k + (i + 1) = k + 1 + i := by omega
      rw [hk]
      exact ih _ _ (Nat.lt_of_succ_lt_succ hi)

theorem leNat_pair (a b : Byte) : leNat [a, b] = a.toNat + 256 * b.toNat := rfl

section
variable {d : Dev} {a b : Byte} {bs : List Byte} {pec : Option Byte}

theorem doSmbusTokenLoad_refused (h : d.smbPecOk (0x10 :: BitVec.ofNat 8 (bs.length + 2) :: a :: b :: bs) pec = false ∨
    304 < a.toNat + 256 * b.toNat + bs.length) : doSmbusTokenLoad (a :: b :: bs) pec d = d := by
  unfold doSmbusTokenLoad
  obtain h | h := h
  · rw [show (a :: b :: bs).length = bs.length + 2 from rfl, h]
    simp only [Bool.not_false, Bool.or_true, if_true]
  · have hlong : 304 < leNat ((a :: b :: bs).take 2) + ((a :: b :: bs).drop 2).length := h
    simp only [hlong, if_true, ite_self]

theorem doSmbusTokenLoad_stores (hm : d.bal.mode ≠ .off) (h1 : 1 ≤ bs.length) (h128 : bs.length ≤ 128)
    (hpec : d.smbPecOk (0x10 :: BitVec.ofNat 8 (bs.length + 2) :: a :: b :: bs) pec = true)
    (hfits : a.toNat + 256 * b.toNat + bs.length ≤ 304) : doSmbusTokenLoad (a :: b :: bs) pec d = { d with plc := { d.plc with
      token := tsetMany none d.plc.token (a.toNat + 256 * b.toNat) (bs.map some), tokenState := 1 } } := by
  have hlen : ¬((a :: b :: bs).length < 3 ∨ 130 < (a :: b :: bs).length) := by
    simp only [List.length_cons]
    omega
  unfold doSmbusTokenLoad
  simp only [smbOn_of_mode hm, hlen, decide_false, Bool.not_true, Bool.or_self]
  rw [show (a :: b :: bs).length = bs.length + 2 from rfl, hpec]
  exact if_neg (Nat.not_lt.2 hfits)

end

/-- A token with a good check byte, or none, is judged, and the buffer is empty. -/
theorem doSmbusTokenApply_applies {d : Dev} {pec : Option Byte} (hm : d.bal.mode ≠ .off) (hpec : d.smbPecOk [0x11] pec = true) :
    doSmbusTokenApply pec d = { (d.handover d.tokenBytes true).2 with plc := { (d.handover d.tokenBytes true).2.plc with
      token := [], tokenState := if (d.handover d.tokenBytes true).1.isNone then 3 else 4
      tokenCode := (d.handover d.tokenBytes true).1.getD 0 } } := by
  unfold doSmbusTokenApply
  rw [hpec, smbOn_of_mode hm]
  rfl

/-! ### LEDs -/

/-- Activity is cleared of every port that the table lists; of the others none is noted. -/
theorem active_foldl_clear (l : Tab Port) (d : Dev) (p : Nat) (h : p ∈ l.map Prod.fst ∨ (d.port p).active = false) :
    ((l.foldl (fun (d : Dev) p => d.modPort p.1 (fun x => { x with active := false })) d).port p).active = false := by
  induction l generalizing d with
  | nil => exact h.resolve_left (by simp)
  | cons x l ih =>
    refine ih _ ?_
    by_cases hp : x.1 = p
    · exact .inr (by simp [hp])
    · obtain h | h := h
      · exact .inl (by simpa [Ne.symm hp] using h)
      · exact .inr (by simpa [hp] using h)

theorem port_of_unlisted {d : Dev} {p : Nat} (h : p ∉ d.pte.ports.map Prod.fst) : d.port p = portReset p := by
  unfold Dev.port
  generalize d.pte.ports = t at h
  induction t with
  | nil => rfl
  | cons x t ih =>
    simp only [List.map_cons, List.mem_cons, not_or] at h
    rw [tget, if_neg (Ne.symm h.1)]
    exact ih h.2

theorem out_foldl_clear (l : Tab Port) (d : Dev) :
    (l.foldl (fun (d : Dev) p => d.modPort p.1 (fun x => { x with active := false })) d).out = d.out := by simp

theorem bal_foldl_clear (l : Tab Port) (d : Dev) :
    (l.foldl (fun (d : Dev) p => d.modPort p.1 (fun x => { x with active := false })) d).bal = d.bal := by simp

theorem active_portReset (p : Nat) : (portReset p).active = false := by
  unfold portReset
  split <;> rfl

/-- The device at the time `t` of a frame of the LEDs, which is out. -/
def Dev.ledShown (d : Dev) (t : Nat) : Dev :=
  let d := d.reach t
  let d := d.emit (.led ((List.range 512).flatMap d.ledBits))
  { d with bal := { d.bal with ledFrames := d.bal.ledFrames + 1 } }

theorem tick_ledShown (d : Dev) (t : Nat) : t ≤ (d.ledShown t).bal.tick := tick_reach d t

theorem out_ledShown (d : Dev) (t : Nat) : (d.ledShown t).out = .led ((List.range 512).flatMap d.ledBits) :: d.out := rfl

theorem pte_ledShown (d : Dev) (t : Nat) : (d.ledShown t).pte = d.pte := rfl

theorem foldl_ledShown (d : Dev) (t : Nat) : (let d := d.reach t
    let d := d.emit (.led ((List.range 512).flatMap d.ledBits))
    d.pte.ports.foldl (fun (d : Dev) p => d.modPort p.1 (fun x => { x with active := false }))
      { d with bal := { d.bal with ledFrames := d.bal.ledFrames + 1 } }) =
    d.pte.ports.foldl (fun (d : Dev) p => d.modPort p.1 (fun x => { x with active := false })) (d.ledShown t) := rfl

theorem doLedFrame_on {d : Dev} (hm : d.bal.mode ≠ .off) : doLedFrame d =
    d.pte.ports.foldl (fun (d : Dev) p => d.modPort p.1 (fun x => { x with active := false }))
      (d.ledShown (msTicks 10 * (d.bal.ledFrames + 1))) := by
  unfold doLedFrame
  rw [if_neg hm, foldl_ledShown]

/-- A frame of the LEDs is out, it is not early, and no activity stands. -/
theorem doLedFrame_effect {d : Dev} (hm : d.bal.mode ≠ .off) : (doLedFrame d).out = .led ((List.range 512).flatMap d.ledBits) :: d.out ∧
    msTicks 10 * (d.bal.ledFrames + 1) ≤ (doLedFrame d).bal.tick ∧ ∀ p, ((doLedFrame d).port p).active = false := by
  rw [doLedFrame_on hm]
  generalize msTicks 10 * (d.bal.ledFrames + 1) = t
  refine ⟨?_, ?_, fun p => ?_⟩
  · rw [out_foldl_clear, out_ledShown]
  · rw [bal_foldl_clear]
    exact tick_ledShown d t
  · refine active_foldl_clear _ _ _ ?_
    by_cases hp : p ∈ d.pte.ports.map Prod.fst
    · exact .inl hp
    · refine .inr ?_
      rw [port_of_unlisted (d := d.ledShown t) (by rwa [pte_ledShown])]
      exact active_portReset p

/-- Settles O10, an access of the sideband at a time. -/
theorem sidebandAnswers : Obligations.SidebandAnswers := by
  intro s
  refine ⟨?_, ?_, ?_, ?_, ?_, ?_, ?_, ?_, ?_⟩
  · intro pec check hm hcheck
    refine ⟨⟨_, rfl, ?_⟩, ⟨_, rfl, ?_⟩, ⟨_, rfl, ?_⟩, ⟨_, rfl, ?_⟩, ⟨_, rfl, ?_⟩, ⟨_, rfl, ?_⟩⟩
    · exact smbBlock_eq hm hcheck _ (by rw [length_leBytes]; rfl)
    · exact smbAnswer_eq hm hcheck ..
    · exact smbBlock_eq hm hcheck _ rfl
    · exact smbBlock_eq hm hcheck _ (by rw [length_flatMap_const fun _ => length_leBytes ..]; rfl)
    · exact smbBlock_eq hm hcheck _ (by simp only [List.length_append, length_leBytes]; rfl)
    · refine (smbAnswer_eq hm hcheck ..).trans ?_
      simp [pack]
  · intro a b bs pec hm h1 h128
    refine ⟨{ s with dev := doSmbusTokenLoad (a :: b :: bs) pec s.dev }, rfl, doSmbusTokenLoad_refused, fun hpec hfits => ?_⟩
    rw [doSmbusTokenLoad_stores hm h1 h128 hpec hfits]
    refine ⟨rfl, fun i hi => ?_, fun j hj => ?_⟩
    · refine (tget_tsetMany_of_inside _ _ _ _ (by simpa using hi)).trans ?_
      simp [hi]
    · exact tget_tsetMany_of_outside _ _ _ _ (by simpa using hj)
  · intro pec hm
    refine ⟨{ s with dev := doSmbusTokenApply pec s.dev }, rfl, fun hpec => ?_, fun hpec hk => ?_, fun k hpec hk => ?_⟩
    · exact if_pos (by rw [hpec, Bool.not_false, Bool.or_true])
    · rw [doSmbusTokenApply_applies hm hpec]
      simp [Dev.handover, hk, Dev.drawChallenge]
    · rw [doSmbusTokenApply_applies hm hpec]
      simp [Dev.handover, hk]
  · exact ⟨_, rfl, rfl⟩
  · intro hm
    refine ⟨{ s with dev := doLedFrame s.dev }, rfl, ?_⟩
    obtain ⟨hout, htick, hact⟩ := doLedFrame_effect hm
    refine ⟨hout, ?_, hact⟩
    have hms : msTicks 10 = 250000 := rfl
    rwa [hms] at htick
  · exact ⟨_, rfl, rfl, rfl⟩
  · exact ⟨_, rfl, rfl, rfl⟩
  · intro i hi
    have hdec : s.dev.tapDecode i = .bypass := by
      obtain rfl | rfl | ⟨rfl, hlock⟩ | ⟨hi, hdor, hdiag⟩ := hi
      · rfl
      · rfl
      · simp [Dev.tapDecode, hlock]
      · simp at hi
        obtain rfl | rfl | rfl | rfl | rfl := hi <;> simp [Dev.tapDecode, hdor, hdiag]
    refine ⟨{ s with dev := doTapInstruction i s.dev }, ?_, ?_⟩
    · simp [exec, execTapInstruction, hdec]
    · simp [doTapInstruction, hdec, Dev.emit]
  · intro i hi hmode
    have hdec : s.dev.tapDecode i = i := by
      simp at hi
      obtain rfl | rfl | rfl | rfl | rfl := hi <;> simp [Dev.tapDecode, hmode]
    refine ⟨{ s with dev := doTapInstruction i s.dev }, ?_, ?_⟩
    · simp at hi
      obtain rfl | rfl | rfl | rfl | rfl := hi <;> simp [exec, execTapInstruction, hdec]
    · simp at hi
      obtain rfl | rfl | rfl | rfl | rfl := hi <;> simp [doTapInstruction, hdec]

end Sys2Proof.Machine
end

section
/-! PROOFS. Register accesses follow the map (20 R569-R572). -/
namespace Sys2Proof.Machine

/-! ### Accesses that reach nothing, and dwords -/

section
variable {d : Dev} {e off : Nat} (hans : (d.ep e).answers = true) (hoff : off < 0x40000)
include hans hoff

theorem doSetupRegisterWrite_bad {width : Nat} (hbad : accessOk off width = false) (v : BitVec 64) :
    doSetupRegisterWrite e off width v d = d.modEp e (fun x => { x with badAccess := true }) := by
  simp [doSetupRegisterWrite, hans, Nat.not_le.2 hoff, hbad]

theorem doWideRegisterRead_bad {width : Nat} (hbad : accessOk off width = false) (check : Ecc) :
    doWideRegisterRead e off width check d = (d.modEp e (fun x => { x with badAccess := true })).emit (.regRead e off width 0) := by
  simp [doWideRegisterRead, hans, Nat.not_le.2 hoff, hbad]

theorem doSetupRegisterWrite_dword (hal : off % 4 = 0) (v : BitVec 64) :
    doSetupRegisterWrite e off 32 v d = d.writeDword e off (v.truncate 32) := by
  simp [doSetupRegisterWrite, hans, Nat.not_le.2 hoff, accessOk, hal]

theorem doWideRegisterRead_dword (hal : off % 4 = 0) (check : Ecc) : doWideRegisterRead e off 32 check d =
    (d.readDword e off check).2.emit (.regRead e off 32 (d.readDword e off check).1) := by
  simp [doWideRegisterRead, hans, Nat.not_le.2 hoff, accessOk, hal]

theorem doWideRegisterRead_qword (hal : off % 8 = 0) (check : Ecc) : doWideRegisterRead e off 64 check d =
    ((d.readDword e off check).2.readDword e (off + 4) check).2.emit (.regRead e off 64 ((d.readDword e off check).1 +
      ((d.readDword e off check).2.readDword e (off + 4) check).1 * 2 ^ 32)) := by
  simp [doWideRegisterRead, hans, Nat.not_le.2 hoff, accessOk, hal]

end

theorem regDenied_window {d : Dev} {e off : Nat} (hoff : 0x20000 ≤ off) : d.regDenied e off = !d.isWarden e := if_pos hoff

/-- What a capture changes of an endpoint denies nothing. -/
theorem regDenied_capture (d : Dev) (e b : Nat) (v : Option Nat) (e' off : Nat) :
    (d.modEp e (fun x => { x with captures := tset x.captures none b v })).regDenied e' off = d.regDenied e' off := rfl

theorem regValue_window {d : Dev} {e off : Nat} (hoff : off < 0x20000) (check : Ecc) : d.regValue e off check = (d.epReg e off, d) :=
  if_pos hoff

/-- The device after a capture of a register's value. -/
def Dev.captured (d : Dev) (e b v : Nat) : Dev := d.modEp e (fun x => { x with captures := tset x.captures none b (some v) })

theorem captures_captured (d : Dev) (e b v : Nat) : tget ((d.captured e b v).ep e).captures none b = some v := by
  simp [Dev.captured]

/-- A register of 64 bits is captured with its low half. -/
theorem readDword_low {d : Dev} {e off : Nat} (hden : d.regDenied e off = false) (hreg : regAt off = some (off, 8))
    (hoff : off < 0x20000) (check : Ecc) : d.readDword e off check =
      (bits (d.epReg e off) 0 32, d.captured e off (d.epReg e off)) := by
  simp only [Dev.readDword, hden, hreg, regValue_window hoff, Bool.false_eq_true, if_false]
  cases tget (d.ep e).captures none off with
  | none => simp [Dev.captured]
  | some v => simp [Dev.captured]

/-- The high half is read from the capture. -/
theorem readDword_high {d : Dev} {e off b v : Nat} (hden : d.regDenied e off = false) (hreg : regAt off = some (b, 8))
    (hne : off ≠ b) (hcap : tget (d.ep e).captures none b = some v) (check : Ecc) :
    d.readDword e off check = (bits v (8 * (off - b)) 32, d) := by
  simp [Dev.readDword, hden, hreg, hcap, hne]

theorem bits_eq (n lsb w : Nat) : bits n lsb w = n / 2 ^ lsb % 2 ^ w := by rw [bits, Nat.shiftRight_eq_div_pow]

theorem bits_halves (n : Nat) : bits n 0 32 + bits n 32 32 * 2 ^ 32 = n % 2 ^ 64 := by
  rw [bits_eq, bits_eq]
  omega

theorem sub_and_eq_and_not (a w : BitVec 32) : BitVec.ofNat 32 (a.toNat - (a.toNat &&& w.toNat)) = a &&& ~~~w := by
  have hdisj : (a &&& ~~~w) &&& (a &&& w) = 0#32 := by
    ext i
    simp only [BitVec.getElem_and, BitVec.getElem_not, BitVec.getElem_zero]
    cases a[i] <;> cases w[i] <;> rfl
  have hor : (a &&& ~~~w) ||| (a &&& w) = a := by
    ext i
    simp only [BitVec.getElem_and, BitVec.getElem_not, BitVec.getElem_or]
    cases a[i] <;> cases w[i] <;> rfl
  have hsum : (a &&& ~~~w) + (a &&& w) = a := (BitVec.add_eq_or_of_and_eq_zero _ _ hdisj).trans hor
  have hle : (a &&& w).toNat ≤ a.toNat := Nat.and_le_left
  calc BitVec.ofNat 32 (a.toNat - (a &&& w).toNat) = a - (a &&& w) := (BitVec.ofNat_sub_ofNat_of_le _ _ (a &&& w).isLt hle).symm ▸ (by simp)
    _ = a &&& ~~~w := sub_eq_of_eq_add hsum.symm

/-- Settles O11, an access at a time. -/
theorem registerAccessesFollowTheMap : Obligations.RegisterAccessesFollowTheMap := by
  intro s e off check hans hoff
  refine ⟨fun width v hbad => ⟨⟨_, rfl, ?_⟩, ⟨_, rfl, ?_⟩⟩, fun v hw hwin hal => ⟨⟨_, rfl, ?_⟩, ⟨_, rfl, ?_⟩⟩, ?_, ?_, ?_, ?_, ?_⟩
  · exact doSetupRegisterWrite_bad hans hoff hbad v
  · exact doWideRegisterRead_bad hans hoff hbad check
  · refine (doSetupRegisterWrite_dword hans hoff hal v).trans ?_
    simp [Dev.writeDword, Nat.not_lt.2 hwin, hw, Dev.deny]
  · refine (doWideRegisterRead_dword hans hoff hal check).trans ?_
    simp [Dev.readDword, regDenied_window hwin, hw, Dev.deny]
  · rintro v hw rfl
    refine ⟨_, rfl, (doSetupRegisterWrite_dword hans hoff rfl v).trans ?_⟩
    have hw16 : bits (v.toNat % 4294967296) 0 16 = v.toNat % 65536 := by
      rw [bits_eq]
      omega
    simp [Dev.writeDword, hw, Dev.glRegWrite, Dev.glWrite, hans, hw16]
  · intro hw hlo hhi hal hreg
    refine ⟨_, rfl, (doWideRegisterRead_dword hans hoff hal check).trans ?_⟩
    have hlog : ¬0x24000 ≤ off := by omega
    simp [Dev.readDword, regDenied_window hlo, hw, hreg, Dev.regValue, Nat.not_lt.2 hlo, Nat.not_le.2 hhi, hlog]
  · rintro v rfl
    refine ⟨{ s with dev := doSetupRegisterWrite e 0x10 32 v s.dev }, rfl, ?_⟩
    rw [doSetupRegisterWrite_dword hans hoff rfl v]
    simpa [Dev.writeDword, Dev.epRegWrite] using sub_and_eq_and_not (s.dev.ep e).alarmSummary (v.truncate 32)
  · intro hwin hal hlo hhi hdlo hdhi
    have hread := readDword_low hdlo hlo hwin check
    refine ⟨⟨{ s with dev := doWideRegisterRead e off 64 check s.dev }, rfl, ?_⟩,
      ⟨{ s with dev := doWideRegisterRead e off 32 check s.dev }, rfl, ?_⟩⟩
    · rw [doWideRegisterRead_qword hans hoff hal, hread]
      have hden : (s.dev.captured e off (s.dev.epReg e off)).regDenied e (off + 4) = false := hdhi
      rw [readDword_high hden hhi (by omega) (captures_captured ..), Nat.add_sub_cancel_left, bits_halves]
      rfl
    · rw [doWideRegisterRead_dword hans hoff (by omega), hread]
      exact ⟨by rw [bits_eq]; simp; rfl, captures_captured ..⟩
  · intro v hwin hal hreg hden hcap
    refine ⟨{ s with dev := doWideRegisterRead e off 32 check s.dev }, rfl, ?_⟩
    rw [doWideRegisterRead_dword hans hoff (by omega), readDword_high hden hreg (by omega) hcap, bits_eq, show off - (off - 4) = 4 by omega]
    rfl

end Sys2Proof.Machine
end

section
/-! PROOFS. Writes of registers that act (02 R58; 07 R214; 09 R265; 11 R333, R351; 12 R387; 13 R400, R411; 20 R572, R573). -/
namespace Sys2Proof.Machine

/-- What each pass of a loop keeps, the loop keeps. -/
theorem foldl_keeps {α β : Type} (g : Dev → β) {f : Dev → α → Dev} (h : ∀ d x, g (f d x) = g d) (l : List α) (d : Dev) :
    g (l.foldl f d) = g d := by
  induction l generalizing d with
  | nil => rfl
  | cons x l ih => exact (ih _).trans (h d x)

/-- What one pass brings about, while `I` holds, and every pass keeps stands after the loop. -/
theorem foldl_reaches {α β : Type} {I P : β → Prop} {f : β → α → β} {x : α} (hI : ∀ d y, I d → I (f d y)) (h : ∀ d, I d → P (f d x))
    (hk : ∀ d y, P d → P (f d y)) {l : List α} (hx : x ∈ l) {d : β} (hd : I d) : P (l.foldl f d) := by
  have keep : ∀ (l : List α) d, P d → P (l.foldl f d) := fun l => by
    induction l with
    | nil => exact fun _ h => h
    | cons y l ih => exact fun d h => ih _ (hk d y h)
  induction l generalizing d with
  | nil => cases hx
  | cons y l ih =>
    rcases List.mem_cons.1 hx with rfl | hx
    · exact keep l _ (h d hd)
    · exact ih hx (hI d y hd)

theorem mem_setBits {n k i : Nat} : i ∈ setBits n k ↔ i < k ∧ n.testBit i = true := by simp [setBits]

/-! ### The warden's writes -/

section
variable {d : Dev} {e : Nat} (hans : (d.ep e).answers = true)
include hans

theorem glWrite_other (hw : d.isWarden e = false) {core : Bool} {f : Dev → Dev} :
    d.glWrite e core f = d.modEp e (fun x => { x with denied := true }) := by simp [Dev.glWrite, hans, hw]

theorem glWrite_warden (hw : d.isWarden e = true) (f : Dev → Dev) : d.glWrite e false f = f d := by simp [Dev.glWrite, hans, hw]

theorem glWrite_core (hw : d.isWarden e = true) (hc : d.corePowered = true) (f : Dev → Dev) : d.glWrite e true f = f d := by
  simp [Dev.glWrite, hans, hw, hc]

end

/-- A removed plane that the mask names comes under test (09 R265). -/
theorem plane_planeRestore {d : Dev} {k mask : Nat} (hk : k < 4) (hb : mask.testBit k = true) (hrem : (d.plane k).st = .removed) :
    ((d.planeRestore mask).plane k).st = .testing := by
  refine foldl_reaches (I := fun d : Dev => (d.plane k).st = .removed ∨ (d.plane k).st = .testing)
    (P := fun d : Dev => (d.plane k).st = .testing) ?_ ?_ ?_ (mem_setBits.2 ⟨hk, hb⟩) (.inl hrem)
  · intro d j h
    split <;> rename_i hj
    · by_cases hjk : j = k <;> simp [hjk, h]
    · exact h
  · intro d h
    split <;> rename_i hj
    · simp
    · exact h.resolve_left hj
  · intro d j h
    split <;> rename_i hj
    · by_cases hjk : j = k <;> simp [hjk, h]
    · exact h

/-- A port out of service that the mask names is to be enumerated (11 R351). -/
theorem cxl_cxlAsk {d : Dev} {k mask : Nat} (hk : k < 4) (hb : mask.testBit k = true) (hout : (d.cxl k).inService = false) :
    ((d.cxlAsk mask).cxl k).enumerating = true := by
  refine foldl_reaches (I := fun d : Dev => (d.cxl k).inService = false) (P := fun d : Dev => (d.cxl k).enumerating = true) ?_ ?_ ?_
    (mem_setBits.2 ⟨hk, hb⟩) hout
  · intro d j h
    split
    · exact h
    · by_cases hjk : j = k <;> simp [hjk, h]
  · intro d h
    split <;> rename_i hj
    · simpa [h] using hj
    · simp
  · intro d j h
    split
    · exact h
    · by_cases hjk : j = k <;> simp [hjk, h]

theorem cxlEn_cxlAsk (d : Dev) (mask : Nat) : (d.cxlAsk mask).spw.cxlEn = d.spw.cxlEn := by
  refine foldl_keeps (fun d => d.spw.cxlEn) (fun d i => ?_) _ _
  split <;> rfl

/-- The mask of the indices below 4 that `f` holds of. -/
theorem testBit_mask {f : Nat → Bool} {k : Nat} (hk : k < 4) :
    (((List.range 4).filter f).foldl (fun m i => m + 2 ^ i) 0).testBit k = f k := by
  have hr : List.range 4 = [0, 1, 2, 3] := rfl
  rw [hr]
  obtain rfl | rfl | rfl | rfl : k = 0 ∨ k = 1 ∨ k = 2 ∨ k = 3 := by omega
  all_goals
    cases h0 : f 0 <;> cases h1 : f 1 <;> cases h2 : f 2 <;> cases h3 : f 3 <;> simp [h0, h1, h2, h3] <;> decide

theorem testBit_bits {n lsb w k : Nat} (hk : k < w) : (bits n lsb w).testBit k = n.testBit (lsb + k) := by
  rw [bits, Nat.testBit_mod_two_pow, Nat.testBit_shiftRight]
  simp [hk]

/-! ### A step of device time keeps the timers of the epochs -/

section
variable (g : Mrp → Nat) (hb : ∀ m b, g { m with banks := b } = g m)
include hb

theorem keeps_modBank (d : Dev) (p b : Nat) (f : Bank → Bank) : g (d.modBank p b f).mrp = g d.mrp := hb _ _

theorem keeps_markBanks (d : Dev) (m : StepMark) : g (d.markBanks m).mrp = g d.mrp := by
  refine foldl_keeps (fun d => g d.mrp) (fun d p => ?_) _ _
  split
  · exact hb _ _
  · rfl

theorem keeps_openBank (d : Dev) (p : Nat) : g (d.openBank p).mrp = g d.mrp := by
  unfold Dev.openBank
  split
  · simp [Dev.stall, keeps_modBank g hb]
  · rfl

theorem keeps_endEpoch (he : ∀ m n b, g { m with epoch := n, disc := b } = g m) (d : Dev) (next endNs : Nat) :
    g (d.endEpoch next endNs).mrp = g d.mrp := by
  refine (foldl_keeps (fun d => g d.mrp) (fun d p => ?_) _ _).trans (he ..)
  dsimp only
  repeat' split
  all_goals simp [Dev.stall, keeps_modBank g hb, keeps_openBank g hb]

theorem keeps_timeStep (he : ∀ m n b, g { m with epoch := n, disc := b } = g m) (d : Dev) (t o cause : Nat) :
    ∃ mark, g (d.timeStep t o cause).mrp = g { (d.markBanks mark).mrp with offsetMs := o, disc := true } := by
  refine ⟨{ fwd := decide (d.tmu.time < t), back := decide (t < d.tmu.time), offs := decide (cause = 2) }, ?_⟩
  simp only [Dev.timeStep]
  split
  · rw [keeps_endEpoch g hb he]; simp
  · simp

end

theorem closeMs_timeStep (d : Dev) (t o cause : Nat) : (d.timeStep t o cause).mrp.closeMs = d.mrp.closeMs := by
  obtain ⟨mark, h⟩ := keeps_timeStep Mrp.closeMs (fun _ _ => rfl) (fun _ _ _ => rfl) d t o cause
  exact h.trans (keeps_markBanks Mrp.closeMs (fun _ _ => rfl) d mark)

theorem offsetMs_timeStep (d : Dev) (t o cause : Nat) : (d.timeStep t o cause).mrp.offsetMs = o := by
  obtain ⟨mark, h⟩ := keeps_timeStep Mrp.offsetMs (fun _ _ => rfl) (fun _ _ _ => rfl) d t o cause
  exact h

/-! ### An endpoint's own acts -/

theorem msixFlush_idle {d : Dev} {e : Nat} (hg : (d.ep e).gather = []) (ha : (d.ep e).alarmOwed = false) : d.msixFlush e = d := by
  simp [Dev.msixFlush, Dev.alarmTry, Dev.each, ha, hg]

/-- A cause of an object without a polder is no polder's. -/
theorem causeVec_of_some {d : Dev} {e cause v : Nat} (hc : cause < 576) (h : d.causeVec e cause v = true) :
    (if cause < 64 then (d.cqPolder e cause).isNone else if cause < 320 then (d.rxqPolder e (cause - 64)).isNone
      else (d.txqPolder e (cause - 320)).isNone) = false := by
  unfold Dev.causeVec at h
  dsimp only at h
  split at h
  · rename_i h64
    rw [if_pos h64]
    cases hp : d.cqPolder e cause <;> simp [hp] at h ⊢
  · rename_i h64
    rw [if_neg h64]
    split at h
    · rename_i h320
      rw [if_pos h320]
      cases hp : d.rxqPolder e (cause - 64) <;> simp [hp] at h ⊢
    · rename_i h320
      rw [if_neg h320]
      cases hp : d.txqPolder e (cause - 320) <;> simp [hp] at h ⊢

/-- Settles O12, a register at a time. -/
theorem actingRegistersActWhenWritten : Obligations.ActingRegistersActWhenWritten := by
  intro s e v hans
  refine ⟨?_, ?_, ?_, ?_, ?_, ?_, ?_, ?_, ?_, ?_, ?_⟩
  · intro i dw hw hi
    simp only [List.mem_cons, List.not_mem_nil, or_false] at hi
    rcases hi with rfl | rfl | rfl | rfl | rfl | rfl
    · exact ⟨_, rfl, show doGlCmdArbWrite e dw v s.dev = _ from glWrite_other hans hw⟩
    · exact ⟨_, rfl, show doGlLrnSweepWrite e v s.dev = _ from glWrite_other hans hw⟩
    · exact ⟨_, rfl, show doPlaneRestore e v s.dev = _ from glWrite_other hans hw⟩
    · exact ⟨_, rfl, show doCxlRestore e v s.dev = _ from glWrite_other hans hw⟩
    · exact ⟨_, rfl, show doGlSpwMapWrite e v s.dev = _ from glWrite_other hans hw⟩
    · exact ⟨_, rfl, show doGlMrpCfgWrite e v s.dev = _ from glWrite_other hans hw⟩
  · intro dw hw hdw
    refine ⟨{ s with dev := doGlCmdArbWrite e dw v s.dev }, rfl, ?_⟩
    rw [show doGlCmdArbWrite e dw v s.dev = _ from glWrite_warden hans hw _]
    simp [Nat.not_le.2 hdw]
  · intro hw hc
    refine ⟨{ s with dev := doGlLrnSweepWrite e v s.dev }, rfl, ?_⟩
    rw [show doGlLrnSweepWrite e v s.dev = _ from glWrite_core hans hw hc _]
    constructor
    · dsimp only
      split
      · simp only [Dev.sweepStart]
        split <;> rfl
      · rfl
    · intro hidle hmode hper
      simp [hidle, hmode, hper, Dev.sweepStart]
  · intro k hw hc hk hb hrem
    refine ⟨{ s with dev := doPlaneRestore e v s.dev }, rfl, ?_⟩
    rw [show doPlaneRestore e v s.dev = _ from glWrite_core hans hw hc _]
    exact plane_planeRestore hk (by rwa [testBit_bits hk]) hrem
  · intro k hw hc hk hb4 hb0 hlost hout
    refine ⟨{ s with dev := doCxlRestore e v s.dev }, rfl, ?_⟩
    rw [show doCxlRestore e v s.dev = _ from glWrite_core hans hw hc _]
    constructor
    · exact (cxlEn_cxlAsk ..).trans (by simp)
    · refine cxl_cxlAsk hk ?_ (by simpa [Dev.cxl] using hout)
      rw [Nat.testBit_and, Nat.testBit_and, testBit_mask hk, testBit_bits hk]
      simp [Dev.cxl, hb4, testBit_bits hk, hb0]
      exact hlost
  · intro hw hc hmode hl h1 h2 h3 h4 h5
    refine ⟨{ s with dev := doGlSpwMapWrite e v s.dev }, rfl, ?_⟩
    rw [show doGlSpwMapWrite e v s.dev = _ from glWrite_core hans hw hc _]
    have hfit : (decide (bits v.toNat 0 7 = s.dev.spw.nextMap.ledger) || s.dev.mrp.flows.isEmpty) = true := by
      simpa using hl
    dsimp only
    split
    · rename_i hsame
      simp only [Bool.and_eq_true, decide_eq_true_eq] at hsame
      obtain ⟨⟨hsl, hst, hsr⟩, -⟩ := hsame
      exact ⟨hst.symm, hsr.symm, hsl.symm⟩
    · rw [if_pos (by simp [hmode, h1, h2, h3, h4, h5, hfit])]
      exact ⟨rfl, rfl, rfl⟩
  · intro hw hc hb hbad
    refine ⟨{ s with dev := doGlSpwMapWrite e v s.dev }, rfl, ?_⟩
    rw [show doGlSpwMapWrite e v s.dev = _ from glWrite_core hans hw hc _]
    dsimp only
    rw [if_neg (by simp [hb]), if_neg]
    · exact ⟨rfl, rfl⟩
    · simp only [Bool.and_eq_true, decide_eq_true_eq]
      rintro ⟨hm, ⟨-, -, -, hsum, hneed⟩, -⟩
      rcases hbad with h | h | h
      · exact h hm
      · omega
      · omega
  · intro hw hc ho h1 h2
    refine ⟨{ s with dev := doGlMrpCfgWrite e v s.dev }, rfl, ?_⟩
    rw [show doGlMrpCfgWrite e v s.dev = _ from glWrite_core hans hw hc _]
    dsimp only
    rw [if_neg (by omega)]
    split
    · rename_i h
      exact ⟨rfl, h.symm⟩
    · exact ⟨closeMs_timeStep .., offsetMs_timeStep ..⟩
  · intro cause hcause hv
    have hnot : ¬588 ≤ cause := by omega
    have hmine : s.dev.causeMine e cause = true := by simp [Dev.causeMine, show cause < 580 by omega]
    constructor
    · intro hvec hg ha
      refine ⟨{ s with dev := doEpVecMapWrite e cause v s.dev }, rfl, ?_⟩
      have hput : doEpVecMapWrite e cause v s.dev = s.dev.modEp e (fun x =>
          { x with vecMap := tset x.vecMap (vecMapReset cause) cause (BitVec.ofNat 16 (bits v.toNat 0 9 + 2 ^ 15)) }) := by
        simp only [doEpVecMapWrite, hans, hmine, hv, hvec, hnot, causeVec_of_some hcause hvec, Bool.and_false, decide_false, Bool.or_false,
          Bool.not_true, Bool.false_eq_true, if_false, if_true]
        exact msixFlush_idle (by simpa using hg) (by simpa using ha)
      rw [hput]
      exact ⟨by simp [Dev.vecMap], rfl⟩
    · intro hvec hown
      refine ⟨{ s with dev := doEpVecMapWrite e cause v s.dev }, rfl, ?_⟩
      show doEpVecMapWrite e cause v s.dev = _
      simp [doEpVecMapWrite, hans, hmine, hv, hvec, hown, hnot, Dev.deny]
  · intro hup hoff hb h6 h16
    refine ⟨{ s with dev := doEpGaugeRingWrite e 2 v s.dev }, rfl, ?_⟩
    simp [doEpGaugeRingWrite, hans, Endpoint.enableWord, hup, ExportRing.write, hoff, hb, Nat.not_lt.2 h6, Nat.not_lt.2 h16]
  · intro p hp hown hcons
    refine ⟨{ s with dev := doEpMrpRingConsWrite e p v s.dev }, rfl, ?_⟩
    have hb : ¬(0 < (v - (s.dev.mrpRing p).prod).toNat ∧ (v - (s.dev.mrpRing p).prod).toNat < 2 ^ 31) := by
      rcases hcons with h | h
      · simp [h]
      · omega
    simp only [doEpMrpRingConsWrite, hans, hown, Nat.not_le.2 hp, decide_false, Bool.or_false, Bool.not_true, Bool.false_eq_true,
      if_false, hb]
    simp [Dev.modMrpRing, Dev.mrpRing]

end Sys2Proof.Machine
end

section
/-! PROOFS. Frames that enter (01 R31; 04 R121; 07 R206): the clause of the corrected symbols does not bound the port. -/
namespace Sys2Proof.Machine

/-- A port beyond the 512 of the front panel, whose index carries the key of its FEC_CORRECTED counter on to that of learn events
offered by quadrant 0. -/
def strayPort : Nat := (Ctr.learnOffered.ctorIdx - Ctr.fecCorrected.ctorIdx) * 2 ^ 32

/-- A frame of that port that is to offer a learn event when it is complete. -/
def strayFrame : Pkt :=
  { root := 0, bytes := [], ingress := .wire strayPort, first := strayPort, polder := 0, cls := 0, prio := 0, acct := 0, gen := 0,
    tsSec := 0, tsNs := 0, epoch := 0, learn := some { kind := .new, origin := 0, polder := 0, mac := 0, domain := 0 } }

/-- The device after reset with that frame in its table. -/
def strayDev : Dev := { ({} : Dev) with dp := { ({} : Dev).dp with pkts := [(0, some strayFrame)] } }

theorem ctr_strayDev : strayDev.ctr .fecCorrected strayPort = 0 := by decide

theorem ctr_strayDev_lastByte : (doFrameLastByte 0 true {} strayDev).ctr .fecCorrected strayPort = 1 := by decide

/-- Refutes O13: no bound is put on the number of the port that a frame came from. With a frame of `strayPort`, the event that its
last byte offers is counted in the key of the port's FEC_CORRECTED, which so rises by one more than the corrected symbols. -/
theorem not_framesEnterAndAreStored : ¬ Obligations.FramesEnterAndAreStored := by
  intro h
  obtain ⟨-, -, hlast, -⟩ := h { dev := strayDev }
  obtain ⟨t, hexec, hfec, -⟩ := hlast 0 strayFrame true {} rfl rfl rfl
  obtain rfl : ({ dev := doFrameLastByte 0 true {} strayDev } : State) = t := by cases hexec; rfl
  have hcount := hfec strayPort rfl (by decide) rfl
  rw [ctr_strayDev_lastByte, ctr_strayDev] at hcount
  exact absurd hcount (by decide)

end Sys2Proof.Machine
end

section
/-! PROOFS. Cells cross the planes (09 R256, R259, R260, R264, R265, R279). -/
namespace Sys2Proof.Machine

/-! ### What copies that end and cells that are delivered leave of the switch core -/

theorem swc_liveMs (d : Dev) (k attr : Nat) : (d.liveMs k attr).swc = d.swc := by simp

section
variable {β : Type} (g : Swc → β) (hg : ∀ w reads repl, g { w with reads := reads, repl := repl } = g w)
include hg

theorem swc_replDone (d : Dev) (x : Pkt) (t : Dest) : g (d.replDone x t).swc = g d.swc := by
  unfold Dev.replDone
  split
  · rename_i r p q hr
    dsimp only
    split
    · rw [swc_liveMs]
      exact hg d.swc d.swc.reads _
    · exact hg d.swc d.swc.reads _
  · rfl

theorem swc_copyEnd (d : Dev) (party : Nat) (e : Ent) (t : Dest) : g (d.copyEnd party e t).swc = g d.swc := by
  have hreads (w : Swc) (reads : List Cross) : g { w with reads := reads } = g w := hg w reads w.repl
  unfold Dev.copyEnd
  dsimp only
  split
  · rfl
  · cases e.part <;> simp [Dev.modPkt, swc_replDone g hg, hreads]

theorem swc_copyDrop (d : Dev) (party : Nat) (e : Ent) (t : Dest) (c : Ctr) (i : Nat) :
    g (d.copyDrop party e t c i).swc = g d.swc := by
  unfold Dev.copyDrop
  split
  · rfl
  · simp [swc_copyEnd g hg]

theorem swc_deliver (d : Dev) (q : Nat) (x : Cross) : g (d.deliver q x).swc = g d.swc := by
  unfold Dev.deliver
  split
  · split <;> simp
  · refine (foldl_keeps (fun d => g d.swc) (fun d k => ?_) _ _).trans ?_
    · dsimp only
      repeat' split
      · rfl
      · exact foldl_keeps (fun d => g d.swc) (fun d e => by simp [swc_copyDrop g hg, Dev.modQueue]) _ _
      · rfl
    · split <;> simp

theorem swc_discardCopies (d : Dev) (q pid : Nat) (c : Ctr) (b : Bool) (mine : Dest → Bool) :
    g (d.discardCopies q pid c b mine).swc = g d.swc := by
  unfold Dev.discardCopies
  split
  · rfl
  · refine (foldl_keeps (fun d => g d.swc) (fun d p => ?_) _ _).trans
      ((foldl_keeps (fun d => g d.swc) (fun d k => ?_) _ _).trans (foldl_keeps (fun d => g d.swc) (fun d t => ?_) _ _))
    · exact foldl_keeps (fun d => g d.swc) (fun d y => by split <;> simp) _ _
    · exact foldl_keeps (fun d => g d.swc) (fun d e => by simp [swc_copyDrop g hg, Dev.modQueue]) _ _
    · simp [swc_copyDrop g hg, Dev.modPkt]

theorem swc_gapDiscard (d : Dev) (q : Nat) (x : Cross) : g (d.gapDiscard q x).swc = g d.swc := by
  unfold Dev.gapDiscard
  dsimp only
  split
  · rfl
  · split <;> simp [Dev.modPkt, swc_discardCopies g hg]

end

section
variable {β : Type} (g : Swc → β) (hg : ∀ w reads repl, g { w with reads := reads, repl := repl } = g w)
  (hs : ∀ w streams, g { w with streams := streams } = g w)
include hg hs

theorem swc_releaseRun (n q s : Nat) (d : Dev) : g (d.releaseRun n q s).swc = g d.swc := by
  induction n generalizing d with
  | zero => rfl
  | succ n ih =>
    unfold Dev.releaseRun
    dsimp only
    split
    · rfl
    · exact (ih _).trans ((swc_deliver g hg ..).trans (hs ..))

theorem swc_skipGap (d : Dev) (q s : Nat) : g (d.skipGap q s).swc = g d.swc := by
  have hmod (d : Dev) (f : Stream → Stream) : g (d.modStream q s f).swc = g d.swc := hs ..
  unfold Dev.skipGap
  dsimp only
  split
  · rfl
  · simp [hmod, swc_releaseRun g hg hs, foldl_keeps (fun d => g d.swc) (fun d x => swc_gapDiscard g hg d q x)]

end

/-! ### Streams -/

theorem stream_swc {d d' : Dev} (h : d'.swc.streams = d.swc.streams) (q s : Nat) : d'.stream q s = d.stream q s := by
  rw [Dev.stream, h, Dev.stream]

@[simp] theorem stream_modStream (d : Dev) (q s : Nat) (f : Stream → Stream) : (d.modStream q s f).stream q s = f (d.stream q s) := by
  simp [Dev.modStream, Dev.stream]

theorem stream_deliver (d : Dev) (q' : Nat) (x : Cross) (q s : Nat) : (d.deliver q' x).stream q s = d.stream q s :=
  stream_swc (swc_deliver Swc.streams (fun _ _ _ => rfl) ..) q s

theorem stream_gapDiscard (d : Dev) (q' : Nat) (x : Cross) (q s : Nat) : (d.gapDiscard q' x).stream q s = d.stream q s :=
  stream_swc (swc_gapDiscard Swc.streams (fun _ _ _ => rfl) ..) q s

/-- A run of one held cell, which NEXT expects, is released whole. -/
theorem stream_releaseRun_single {d : Dev} {q s : Nat} {x : Cross} (hheld : (d.stream q s).held = [x])
    (hnext : (d.stream q s).next = x.seq) (n : Nat) : (d.releaseRun (n + 2) q s).stream q s =
      { d.stream q s with next := (x.seq + 1) % 65536, held := [], last := some x } := by
  have hfind : (d.stream q s).held.find? (fun x => decide (x.seq = (d.stream q s).next)) = some x := by simp [hheld, hnext]
  have hstep : ((d.modStream q s (fun z => { z with next := (z.next + 1) % 65536, held := z.held.erase x, last := some x })).deliver
      q x).stream q s = { d.stream q s with next := (x.seq + 1) % 65536, held := [], last := some x } := by
    rw [stream_deliver, stream_modStream, hnext, hheld, List.erase_cons_head]
  unfold Dev.releaseRun
  simp only [hfind]
  unfold Dev.releaseRun
  simp only [hstep, List.find?_nil]

/-- A cell that its stream expects, with nothing held before it, is released at once (09 R259). -/
theorem stream_resequence_expected {d : Dev} {x : Cross} (hheld : (d.stream x.dst x.stream).held = [])
    (hseq : x.seq = (d.stream x.dst x.stream).next) : (d.resequence x).stream x.dst x.stream =
      { d.stream x.dst x.stream with next := (x.seq + 1) % 65536, held := [], last := some x, gapAt := none } := by
  have hahead : (x.seq + 65536 - (d.stream x.dst x.stream).next) % 65536 = 0 := by omega
  have hrun := stream_releaseRun_single
    (d := d.modStream x.dst x.stream (fun y => { y with held := y.held ++ [x] })) (q := x.dst) (s := x.stream) (x := x)
    (by simp [hheld]) (by simp [hseq]) 2047
  have hwin (d : Dev) (q : Nat) : (d.windowSource q).stream x.dst x.stream = d.stream x.dst x.stream := stream_swc (by simp) ..
  unfold Dev.resequence
  simp only [hahead, show ¬(32768 ≤ 0) by decide, show ¬(0 < 0 ∧ 2048 ≤ d.window x.dst) by simp, if_false, hwin, stream_modStream,
    hrun, List.isEmpty_nil, if_true]

theorem flight_resequence_expected {d : Dev} {x : Cross} (hseq : x.seq = (d.stream x.dst x.stream).next) :
    (d.resequence x).swc.flight = d.swc.flight := by
  have hahead : (x.seq + 65536 - (d.stream x.dst x.stream).next) % 65536 = 0 := by omega
  have hmod (d : Dev) (q s : Nat) (f : Stream → Stream) : (d.modStream q s f).swc.flight = d.swc.flight := rfl
  unfold Dev.resequence
  simp only [hahead, show ¬(32768 ≤ 0) by decide, show ¬(0 < 0 ∧ 2048 ≤ d.window x.dst) by simp, if_false]
  simp [hmod, swc_releaseRun Swc.flight (fun _ _ _ => rfl) (fun _ _ => rfl)]

/-- How a gap's skip is reported. -/
theorem swc_gapReported (d : Dev) (q s : Nat) (data : BitVec 160) : (((((d.dropLostWhole q s).windowSource q).bump .reseqSkip q).liveMs
    (0xA10 + q)).record Ev.reseqGap .shared (some (0xA10 + q)) data).swc = d.swc := by simp

/-- The one held cell of a stream is released as its gap is skipped (09 R260). -/
theorem stream_skipGap_single {d : Dev} {q s : Nat} {x : Cross} (hheld : (d.stream q s).held = [x]) :
    (d.skipGap q s).stream q s =
      { d.stream q s with next := (x.seq + 1) % 65536, held := [], last := some x, gapAt := none } := by
  have hbefore (l : List Cross) (d : Dev) : (l.foldl (fun d x => d.gapDiscard q x) d).stream q s = d.stream q s :=
    foldl_keeps (fun d => d.stream q s) (fun d x => stream_gapDiscard d q x q s) l d
  unfold Dev.skipGap
  simp only [hheld, List.foldl_nil]
  rw [stream_swc (congrArg Swc.streams (swc_gapReported ..)), stream_modStream, stream_releaseRun_single (n := 2047) (x := x)]
  · simp [hbefore]
  · simp [hbefore, hheld]
  · simp

theorem live_gapReported {q : Nat} (hq : q < 16) (d : Dev) (s : Nat) (data : BitVec 160) : ((((((d.dropLostWhole q s).windowSource q).bump .reseqSkip q).liveMs
    (0xA10 + q)).record Ev.reseqGap .shared (some (0xA10 + q)) data).src (0xA10 + q)).live = true := by
  have hsev : (defaultSeverity (0xA10 + q)).isSome = true := by
    have : ∀ q < 16, (defaultSeverity (0xA10 + q)).isSome = true := by decide
    exact this q hq
  have hrec (d : Dev) (code : Nat) (who : Who) (source : Option Nat) : (d.record code who source data).src (0xA10 + q) = d.src (0xA10 + q) := by
    simp [Dev.src]
  rw [hrec]
  exact liveMs_src_self hsev ..

theorem src_skipGap {d : Dev} {q s : Nat} (hq : q < 16) (hheld : (d.stream q s).held ≠ []) :
    ((d.skipGap q s).src (0xA10 + q)).live = true := by
  unfold Dev.skipGap
  dsimp only
  split
  · contradiction
  · exact live_gapReported hq _ _ _

/-! ### Planes -/

theorem plane_swc {d d' : Dev} (h : d'.swc.planes = d.swc.planes) (k : Nat) : d'.plane k = d.plane k := by rw [Dev.plane, h, Dev.plane]

theorem spraySet_swc {d d' : Dev} (h : d'.swc.planes = d.swc.planes) : d'.spraySet = d.spraySet := by
  simp [Dev.spraySet, plane_swc h]

theorem mem_spraySet {d : Dev} {k : Nat} : k ∈ d.spraySet ↔ k < 4 ∧ (d.plane k).st = .active := by simp [Dev.spraySet]

/-- The multicast plane of a source may move: off a removed plane at once, off an active one between cells. -/
def Dev.mcFree (d : Dev) (p : Nat) : Bool :=
  match (d.plane (d.mcPlane p)).st with
  | .active => !d.swc.flight.any (fun x => decide (x.src = p) && x.mc)
  | .failed => false
  | _ => true

/-- The multicast plane of one source follows the spray set. -/
def Dev.mcFollow (d : Dev) (p : Nat) : Dev :=
  match d.mcWant p with
  | none => d
  | some k => if k ≠ d.mcPlane p && d.mcFree p then { d with swc := { d.swc with mcOn := tset d.swc.mcOn none p (some k) } } else d

theorem mcSettle_eq (d : Dev) : d.mcSettle = (List.range 16).foldl Dev.mcFollow d := rfl

theorem swc_mcFollow (d : Dev) (p : Nat) : ∃ mcOn, (d.mcFollow p).swc = { d.swc with mcOn := mcOn } ∧
    ∀ j, j ≠ p → tget mcOn none j = tget d.swc.mcOn none j := by
  unfold Dev.mcFollow
  dsimp only
  split
  · exact ⟨_, rfl, fun _ _ => rfl⟩
  · split
    · exact ⟨_, rfl, fun j hj => tget_tset_ne _ _ _ _ (Ne.symm hj)⟩
    · exact ⟨_, rfl, fun _ _ => rfl⟩

theorem planes_mcFollow (d : Dev) (p : Nat) : (d.mcFollow p).swc.planes = d.swc.planes := by
  obtain ⟨_, h, -⟩ := swc_mcFollow d p
  rw [h]

theorem flight_mcFollow (d : Dev) (p : Nat) : (d.mcFollow p).swc.flight = d.swc.flight := by
  obtain ⟨_, h, -⟩ := swc_mcFollow d p
  rw [h]

theorem planes_mcSettle (d : Dev) : d.mcSettle.swc.planes = d.swc.planes := by
  rw [mcSettle_eq]
  exact foldl_keeps (fun d => d.swc.planes) planes_mcFollow _ _

theorem flight_mcSettle (d : Dev) : d.mcSettle.swc.flight = d.swc.flight := by
  rw [mcSettle_eq]
  exact foldl_keeps (fun d => d.swc.flight) flight_mcFollow _ _

theorem mcPlane_mcFollow_ne {d : Dev} {p j : Nat} (h : j ≠ p) : (d.mcFollow p).mcPlane j = d.mcPlane j := by
  obtain ⟨_, hs, hne⟩ := swc_mcFollow d p
  rw [Dev.mcPlane, hs, Dev.mcPlane, hne j h]

/-- A plane that is wanted is active, and there is one while any plane is. -/
theorem mcWant_active {d : Dev} (p : Nat) (h : d.spraySet ≠ []) : ∃ k, d.mcWant p = some k ∧ (d.plane k).st = .active := by
  obtain ⟨k, hk⟩ := List.exists_mem_of_ne_nil _ h
  obtain ⟨hk4, hact⟩ := mem_spraySet.1 hk
  have hmem : k ∈ (List.range 4).map (fun i => (p + i) % 4) :=
    List.mem_map.2 ⟨(k + 4 - p % 4) % 4, List.mem_range.2 (Nat.mod_lt _ (by decide)), by omega⟩
  cases hw : d.mcWant p with
  | none => simpa [hact] using List.find?_eq_none.1 hw k hmem
  | some j => exact ⟨j, rfl, by simpa using List.find?_some hw⟩

theorem mcWant_swc {d d' : Dev} (h : d'.swc.planes = d.swc.planes) (p : Nat) : d'.mcWant p = d.mcWant p := by
  simp [Dev.mcWant, plane_swc h]

/-- A source whose plane is removed moves to a plane that is active; one whose plane is active stays on such a plane. -/
theorem mcPlane_mcFollow {d : Dev} {p : Nat} (hspray : d.spraySet ≠ [])
    (hrem : (d.plane (d.mcPlane p)).st = .removed ∨ (d.plane (d.mcPlane p)).st = .active) :
    (d.plane ((d.mcFollow p).mcPlane p)).st = .active := by
  obtain ⟨k, hk, hact⟩ := mcWant_active p hspray
  unfold Dev.mcFollow
  simp only [hk]
  split
  · simpa [Dev.mcPlane] using hact
  · rename_i hstay
    rcases hrem with hrem | hrem
    · have hne : k ≠ d.mcPlane p := fun h => by rw [h, hrem] at hact; cases hact
      simp [hne, Dev.mcFree, hrem] at hstay
    · exact hrem

theorem mcPlane_mcSettle {d : Dev} {p : Nat} (hp : p < 16) (hspray : d.spraySet ≠ []) (hrem : (d.plane (d.mcPlane p)).st = .removed) :
    (d.plane (d.mcSettle.mcPlane p)).st = .active := by
  have hown (d' : Dev) (h : d'.swc.planes = d.swc.planes ∧ ((d.plane (d'.mcPlane p)).st = .removed ∨ (d.plane (d'.mcPlane p)).st = .active)) :
      (d'.mcFollow p).swc.planes = d.swc.planes ∧ (d.plane ((d'.mcFollow p).mcPlane p)).st = .active := by
    obtain ⟨hpl, hst⟩ := h
    have := mcPlane_mcFollow (d := d') (p := p) (by rwa [spraySet_swc hpl]) (by simpa only [plane_swc hpl] using hst)
    exact ⟨(planes_mcFollow ..).trans hpl, by simpa only [plane_swc hpl] using this⟩
  have hsettle : d.mcSettle.swc.planes = d.swc.planes ∧ (d.plane (d.mcSettle.mcPlane p)).st = .active := by
    rw [mcSettle_eq]
    refine foldl_reaches (f := Dev.mcFollow) (x := p)
      (I := fun d' => d'.swc.planes = d.swc.planes ∧ ((d.plane (d'.mcPlane p)).st = .removed ∨ (d.plane (d'.mcPlane p)).st = .active))
      (P := fun d' => d'.swc.planes = d.swc.planes ∧ (d.plane (d'.mcPlane p)).st = .active) ?_ hown ?_ (List.mem_range.2 hp)
      ⟨rfl, .inl hrem⟩
    · intro d' y h
      by_cases hy : p = y
      · subst hy
        exact ⟨(hown d' h).1, .inr (hown d' h).2⟩
      · exact ⟨(planes_mcFollow ..).trans h.1, by rw [mcPlane_mcFollow_ne hy]; exact h.2⟩
    · intro d' y h
      by_cases hy : p = y
      · subst hy
        exact hown d' ⟨h.1, .inr h.2⟩
      · exact ⟨(planes_mcFollow ..).trans h.1, by rw [mcPlane_mcFollow_ne hy]; exact h.2⟩
  exact hsettle.2

theorem defaultSeverity_plane {k : Nat} (hk : k < 4) : (defaultSeverity (0xA00 + k)).isSome = true := by
  have : ∀ k < 4, (defaultSeverity (0xA00 + k)).isSome = true := by decide
  exact this k hk

theorem defaultSeverity_crossing {k : Nat} (hk : k < 4) : (defaultSeverity (0xA04 + k)).isSome = true := by
  have : ∀ k < 4, (defaultSeverity (0xA04 + k)).isSome = true := by decide
  exact this k hk

/-- The source of a plane follows it (09 R264). -/
theorem src_planeSources {d : Dev} {k : Nat} (hk : k < 4) (hst : (d.plane k).st ≠ .active) : (d.planeSources.src (0xA00 + k)).live = true := by
  have hkeep (d' : Dev) (j : Nat) : (if (d'.src (0xA00 + j)).live = decide ((d'.plane j).st ≠ .active) then d'
      else d'.live (0xA00 + j) (decide ((d'.plane j).st ≠ .active))).swc = d'.swc := by split <;> simp
  have hone (d' : Dev) (j : Nat) (h : d'.swc = d.swc) (hj : j = k ∨ (d'.src (0xA00 + k)).live = true) :
      ((if (d'.src (0xA00 + j)).live = decide ((d'.plane j).st ≠ .active) then d'
        else d'.live (0xA00 + j) (decide ((d'.plane j).st ≠ .active))).src (0xA00 + k)).live = true := by
    by_cases hjk : j = k
    · subst hjk
      have hst' : (d'.plane j).st ≠ .active := by rwa [plane_swc (congrArg Swc.planes h)]
      split <;> rename_i hl
      · simpa [hst'] using hl
      · simp only [hst', ne_eq, not_false_eq_true, decide_true]
        exact src_live_self (defaultSeverity_plane hk) ..
    · split
      · exact hj.resolve_left hjk
      · rw [src_live_ne (by omega)]
        exact hj.resolve_left hjk
  unfold Dev.planeSources
  dsimp only
  rw [src_live_ne (by omega)]
  refine (foldl_reaches (x := k) (I := fun d' : Dev => d'.swc = d.swc)
    (P := fun d' : Dev => d'.swc = d.swc ∧ (d'.src (0xA00 + k)).live = true) ?_ ?_ ?_ (List.mem_range.2 hk) rfl).2
  · exact fun d' j h => (hkeep ..).trans h
  · exact fun d' h => ⟨(hkeep ..).trans h, hone d' k h (.inl rfl)⟩
  · exact fun d' j h => ⟨(hkeep ..).trans h.1, hone d' j h.1 (.inr h.2)⟩

/-! ### Multicast copies that are held -/

theorem foldl_min_head {α : Type} (f : α → Nat) (h : α) (l : List α) (hmin : ∀ b ∈ l, f h ≤ f b) :
    l.foldl (fun a b => if f b < f a then b else a) h = h := by
  induction l with
  | nil => rfl
  | cons x l ih =>
    rw [List.foldl_cons, if_neg (Nat.not_lt.2 (hmin x List.mem_cons_self))]
    exact ih fun b hb => hmin b (List.mem_cons_of_mem _ hb)

/-! ### The obligation -/

/-- A cell under way is taken from the list. -/
def Dev.unflown (d : Dev) (j : Nat) : Dev := { d with swc := { d.swc with flight := d.swc.flight.eraseIdx j } }

theorem doCellArrivalEgress_clean {d : Dev} {k : Nat} {x : Cross} (hx : d.swc.flight[k]? = some x) (hmc : x.mc = false)
    (hp : x.poison = false) : doCellArrivalEgress k .clean d = ((d.unflown k).hear x.plane x.dst true).resequence x := by
  have hdue : d.dueCell k x = k := by simp [Dev.dueCell, hmc]
  simp [doCellArrivalEgress, hx, hdue, hmc, hp, Dev.unflown]

theorem doCellArrivalEgress_lost {d : Dev} {k j : Nat} {x y : Cross} (hx : d.swc.flight[k]? = some x) (hj : d.dueCell k x = j)
    (hy : d.swc.flight[j]? = some y) : doCellArrivalEgress k .lost d =
      if y.mc then (((d.unflown j).liveMs (0xA04 + y.plane)).hear y.plane y.dst false).mcSettle
      else ((d.unflown j).liveMs (0xA04 + y.plane)).hear y.plane y.dst false := by
  simp [doCellArrivalEgress, hx, hj, hy, Dev.unflown]

/-- Of the multicast cells of a source to a pipeline the oldest is due. -/
theorem dueCell_le {d : Dev} {k i : Nat} {x z : Cross} (hmc : x.mc = true) (hz : d.swc.flight[i]? = some z)
    (hzmc : z.mc = true) (hsrc : z.src = x.src) (hdst : z.dst = x.dst) : d.dueCell k x ≤ i := by
  unfold Dev.dueCell
  rw [if_pos hmc]
  have hdue : (z.mc && decide (z.src = x.src ∧ z.dst = x.dst)) = true := by simp [hzmc, hsrc, hdst]
  cases hf : d.swc.flight.findIdx? (fun y => y.mc && decide (y.src = x.src ∧ y.dst = x.dst)) with
  | none =>
    have := List.findIdx?_eq_none_iff.1 hf z (List.mem_of_getElem? hz)
    exact absurd (hdue.symm.trans this) (by decide)
  | some j =>
    obtain ⟨hj, -, hfirst⟩ := List.findIdx?_eq_some_iff_getElem.1 hf
    by_contra hlt
    obtain ⟨hi, hget⟩ := List.getElem?_eq_some_iff.1 hz
    exact absurd hdue (by simpa [hget] using hfirst i (Nat.lt_of_not_le hlt))

theorem fcr_mcSettle (d : Dev) : d.mcSettle.fcr = d.fcr := by simp
theorem dp_mcSettle (d : Dev) : d.mcSettle.dp = d.dp := by simp
theorem flight_liveMs_hear (d : Dev) (s attr k q : Nat) (b : Bool) : ((d.liveMs s attr).hear k q b).swc.flight = d.swc.flight := by
  simp [Dev.hear, Dev.modPlane]
theorem dp_liveMs_hear (d : Dev) (s attr k q : Nat) (b : Bool) : ((d.liveMs s attr).hear k q b).dp = d.dp := by simp

/-- What the loss of a plane's cell leaves of the device. -/
theorem hear_lost {d : Dev} {p q : Nat} (hp : p < 4) : ((((d.liveMs (0xA04 + p)).hear p q false).src (0xA04 + p)).live = true) :=
  liveMs_src_self (defaultSeverity_crossing hp) ..

theorem src_swc (d : Dev) (w : Swc) (k : Nat) : ({ d with swc := w } : Dev).src k = d.src k := rfl

/-- A plane's failure is reported: its source follows, and a record tells of it (09 R264). -/
def Dev.planeLost (d : Dev) (k pipe cause : Nat) : Dev :=
  (d.modPlane k (fun _ => { st := .failed, since := d.bal.tick })).planeSources.record Ev.planeLost .shared (some (0xA00 + k))
    (dat [(0, 1, k), (1, 1, pipe), (2, 1, cause)])

theorem doPlaneFailure_active {d : Dev} {k pipe cause : Nat} (hk : k < 4) (hact : (d.plane k).st = .active)
    (hbad : cause = 1 → (d.plane k).fourBad pipe = true) : doPlaneFailure k pipe cause d =
      (if cause = 0 then d.reach (tget (d.plane k).heard 0 pipe + 8) else d).planeLost k pipe cause := by
  have hguard : (4 ≤ k || decide ((d.plane k).st ≠ .active) || (decide (cause = 1) && !(d.plane k).fourBad pipe)) = false := by
    by_cases h : cause = 1 <;> simp [Nat.not_le.2 hk, hact, h]
    exact hbad h
  simp only [doPlaneFailure, hguard, Bool.false_eq_true, if_false]
  rfl

theorem swc_planeLost (d : Dev) (k pipe cause : Nat) : (d.planeLost k pipe cause).swc =
    (d.modPlane k (fun _ => { st := .failed, since := d.bal.tick })).swc := by simp [Dev.planeLost]

theorem bal_planeLost (d : Dev) (k pipe cause : Nat) : (d.planeLost k pipe cause).bal = d.bal := by simp [Dev.planeLost]

theorem src_planeLost {d : Dev} {k pipe cause : Nat} (hk : k < 4) : ((d.planeLost k pipe cause).src (0xA00 + k)).live = true := by
  have hrec (d : Dev) (code : Nat) (who : Who) (source : Option Nat) (data : BitVec 160) :
      (d.record code who source data).fcr = d.fcr := by simp
  rw [Dev.planeLost, src_fcr (hrec ..)]
  exact src_planeSources hk (by simp)

theorem planeLost_effect {d0 d : Dev} {k : Nat} (hk : k < 4) (pipe cause : Nat) (hpl : ∀ j, d.plane j = d0.plane j)
    (htk : cause = 0 → tget (d0.plane k).heard 0 pipe + 8 ≤ d.bal.tick) :
    (d.planeLost k pipe cause).plane k = { st := .failed, since := (d.planeLost k pipe cause).bal.tick } ∧
      (cause = 0 → tget (d0.plane k).heard 0 pipe + 8 ≤ (d.planeLost k pipe cause).bal.tick) ∧
      ((d.planeLost k pipe cause).src (0xA00 + k)).live = true ∧ k ∉ (d.planeLost k pipe cause).spraySet ∧
      ∀ j, j ≠ k → (d.planeLost k pipe cause).plane j = d0.plane j := by
  have hpl' (j : Nat) : (d.planeLost k pipe cause).plane j = if k = j then { st := .failed, since := d.bal.tick } else d0.plane j := by
    rw [plane_swc (congrArg Swc.planes (swc_planeLost ..)), Dev.plane_modPlane, hpl]
  rw [bal_planeLost]
  refine ⟨by rw [hpl', if_pos rfl], htk, src_planeLost hk, ?_, fun j hj => by rw [hpl', if_neg (Ne.symm hj)]⟩
  rw [mem_spraySet, hpl', if_pos rfl]
  simp

/-- A plane is withdrawn from, and the gaps that wait for its cells are skipped (09 R265). -/
def Dev.planeLeft (d : Dev) (k : Nat) : Dev :=
  (List.range 16).foldl (fun d q => (List.range 17).foldl (fun d s =>
    match (d.stream q s).gapAt with
    | some t => if t + 1 < d.bal.tick then d.skipGap q s else d
    | none => d) d) (d.modPlane k (fun x => { x with st := .removed, since := d.bal.tick, checked := false }))

theorem doPlaneRemoved_failed {d : Dev} {k : Nat} (h : (d.plane k).st = .failed) : doPlaneRemoved k d = (d.planeLeft k).mcSettle := by
  simp only [doPlaneRemoved, h, ne_eq, not_true_eq_false, if_false]
  rfl

theorem swc_planeLeft {β : Type} (g : Swc → β) (hg : ∀ w reads repl, g { w with reads := reads, repl := repl } = g w)
    (hs : ∀ w streams, g { w with streams := streams } = g w) (d : Dev) (k : Nat) :
    g (d.planeLeft k).swc = g (d.modPlane k (fun x => { x with st := .removed, since := d.bal.tick, checked := false })).swc := by
  refine foldl_keeps (fun d => g d.swc) (fun d q => foldl_keeps (fun d => g d.swc) (fun d s => ?_) _ _) _ _
  cases hgap : (d.stream q s).gapAt with
  | none => rfl
  | some t =>
    dsimp only
    split
    · exact swc_skipGap g hg hs ..
    · rfl

theorem planes_planeLeft (d : Dev) (k : Nat) : (d.planeLeft k).swc.planes =
    (d.modPlane k (fun x => { x with st := .removed, since := d.bal.tick, checked := false })).swc.planes :=
  swc_planeLeft Swc.planes (fun _ _ _ => rfl) (fun _ _ => rfl) d k

theorem mcOn_planeLeft (d : Dev) (k : Nat) : (d.planeLeft k).swc.mcOn = d.swc.mcOn :=
  swc_planeLeft Swc.mcOn (fun _ _ _ => rfl) (fun _ _ => rfl) d k

theorem plane_planeLeft (d : Dev) (k j : Nat) : (d.planeLeft k).plane j =
    if k = j then { d.plane j with st := .removed, since := d.bal.tick, checked := false } else d.plane j := by
  rw [plane_swc (planes_planeLeft ..), Dev.plane_modPlane]

theorem plane_planeLeft_mcSettle (d : Dev) (k : Nat) : (d.planeLeft k).mcSettle.plane k =
    { d.plane k with st := .removed, since := d.bal.tick, checked := false } := by
  rw [plane_swc (planes_mcSettle _), plane_planeLeft, if_pos rfl]

theorem mcPlane_planeLeft {d : Dev} {k p : Nat} (hfail : (d.plane k).st = .failed) (hp : p < 16) (hk : d.mcPlane p = k)
    (hspray : d.spraySet ≠ []) : ((d.planeLeft k).mcSettle.plane ((d.planeLeft k).mcSettle.mcPlane p)).st = .active := by
  rw [plane_swc (planes_mcSettle _)]
  refine mcPlane_mcSettle hp ?_ ?_
  · obtain ⟨j, hj⟩ := List.exists_mem_of_ne_nil _ hspray
    obtain ⟨hj4, hact⟩ := mem_spraySet.1 hj
    have hne : k ≠ j := fun h => by rw [← h, hfail] at hact; cases hact
    exact List.ne_nil_of_mem (mem_spraySet.2 ⟨hj4, by rw [plane_planeLeft, if_neg hne]; exact hact⟩)
  · rw [Dev.mcPlane, mcOn_planeLeft, ← Dev.mcPlane, hk, plane_planeLeft, if_pos rfl]

theorem planes_planeRestored (d : Dev) (data : BitVec 160) :
    (d.planeSources.mcSettle.record Ev.planeRestored .shared none data).swc.planes = d.swc.planes := by
  have hrec (d : Dev) : (d.record Ev.planeRestored .shared none data).swc = d.swc := by simp
  have hsrc : d.planeSources.swc = d.swc := by simp
  rw [hrec, planes_mcSettle, hsrc]

/-- A multicast copy whose time is up leaves its queue (09 R279). -/
def Dev.mcHeld (d : Dev) (port m : Nat) (e : Ent) (us : Nat) : Dev :=
  ((((d.modQueue (Dest.mc port m).key (fun u => { u with ents := u.ents.erase e })).copyDrop (partyEgress (pipeOf port)) e (.mc port m)
    .drMcastCopyHold port)).liveMs 0xA30).record Ev.mcCopyHold ((((d.modQueue (Dest.mc port m).key (fun u =>
    { u with ents := u.ents.erase e })).copyDrop (partyEgress (pipeOf port)) e (.mc port m) .drMcastCopyHold port)).attribution
    (0x300 + port)) (some 0xA30) (dat [(0, 2, port), (2, 2, 4 * port + m), (4, 4, us)])

theorem queue_mcHeld (d : Dev) (port m : Nat) (e : Ent) (us : Nat) : ((d.mcHeld port m e us).queue (Dest.mc port m).key).ents =
    (d.queue (Dest.mc port m).key).ents.erase e := by
  have hq : (d.mcHeld port m e us).dp.queues = (d.modQueue (Dest.mc port m).key (fun u => { u with ents := u.ents.erase e })).dp.queues := by
    simp [Dev.mcHeld]
  rw [Dev.queue, hq, ← Dev.queue, Dev.queue_modQueue, if_pos rfl]

theorem src_mcHeld (d : Dev) (port m : Nat) (e : Ent) (us : Nat) : ((d.mcHeld port m e us).src 0xA30).live = true := by
  have hrec (d : Dev) (code : Nat) (who : Who) (source : Option Nat) (data : BitVec 160) :
      (d.record code who source data).fcr = d.fcr := by simp
  rw [Dev.mcHeld, src_fcr (hrec ..)]
  exact liveMs_src_self rfl ..

theorem bal_mcHeld (d : Dev) (port m : Nat) (e : Ent) (us : Nat) : (d.mcHeld port m e us).bal = d.bal := by simp [Dev.mcHeld]

theorem doMcCopyHoldDrop_head {d : Dev} {port m : Nat} {e : Ent} {rest : List Ent} {x : Pkt} (hport : port < 512)
    (hbp : ((d.fcp port).paused (16 + m) || decide ((d.port port).st = .holdRunning)) = true)
    (hents : (d.queue (Dest.mc port m).key).ents = e :: rest) (hx : d.pkt? e.pid = some x)
    (hmin : ∀ b ∈ d.mcQueued (.mc port m), x.holdDue ≤ ((d.pkt? b.1).map Pkt.holdDue).getD 0) :
    doMcCopyHoldDrop port m d = (d.reach x.holdDue).mcHeld port m e x.mcHold := by
  have hdue : ((d.pkt? e.pid).map Pkt.holdDue).getD 0 = x.holdDue := by rw [hx]; rfl
  have hus : ((d.pkt? e.pid).map Pkt.mcHold).getD 0 = x.mcHold := by rw [hx]; rfl
  obtain ⟨l, hl⟩ : ∃ l, d.mcQueued (.mc port m) = (e.pid, some e) :: l := by simp [Dev.mcQueued, hents]
  have hfirst := foldl_min_head (fun b : Nat × Option Ent => ((d.pkt? b.1).map Pkt.holdDue).getD 0) (e.pid, some e) l fun b hb => by
    rw [hdue]
    exact hmin b (hl ▸ List.mem_cons_of_mem _ hb)
  unfold doMcCopyHoldDrop
  simp only [Nat.not_le.2 hport, hbp, decide_false, Bool.not_true, Bool.or_self, Bool.false_eq_true, if_false, hl, hfirst, hdue, hus]
  rfl

/-- Settles O14, an arrival, a plane and a held copy at a time. -/
theorem cellsCrossThePlanes : Obligations.CellsCrossThePlanes := by
  intro s
  refine ⟨?_, ?_, ?_, ?_, ?_, ?_, ?_, ?_⟩
  · intro k x hx hmc hp hheld hseq
    refine ⟨{ s with dev := doCellArrivalEgress k .clean s.dev }, rfl, ?_⟩
    rw [doCellArrivalEgress_clean hx hmc hp]
    have hst : ((s.dev.unflown k).hear x.plane x.dst true).stream x.dst x.stream = s.dev.stream x.dst x.stream := rfl
    constructor
    · exact (flight_resequence_expected (by rw [hst]; exact hseq)).trans rfl
    · have := stream_resequence_expected (d := (s.dev.unflown k).hear x.plane x.dst true) (x := x) (by rw [hst]; exact hheld)
        (by rw [hst]; exact hseq)
      rwa [hst] at this
  · intro k x j y hx hj hy hpl
    refine ⟨{ s with dev := doCellArrivalEgress k .lost s.dev }, rfl, ?_⟩
    rw [doCellArrivalEgress_lost hx hj hy]
    refine ⟨?_, ?_, ?_, fun hmc i z hz hzmc hsrc hdst => hj ▸ dueCell_le hmc hz hzmc hsrc hdst⟩
    · dsimp only
      split
      · exact (flight_mcSettle _).trans (flight_liveMs_hear ..)
      · exact flight_liveMs_hear ..
    · dsimp only
      split
      · rw [src_fcr (fcr_mcSettle _)]
        exact hear_lost hpl
      · exact hear_lost hpl
    · dsimp only
      split
      · exact (dp_mcSettle _).trans (dp_liveMs_hear ..)
      · exact dp_liveMs_hear ..
  · intro q n t0 x hq hgap hheld
    refine ⟨{ s with dev := doReseqGapTimeout q n s.dev }, rfl, ?_⟩
    have hdo : doReseqGapTimeout q n s.dev = (s.dev.reach (t0 + 50)).skipGap q n := by simp [doReseqGapTimeout, hgap, usTicks]
    rw [hdo]
    have hst : (s.dev.reach (t0 + 50)).stream q n = s.dev.stream q n := rfl
    refine ⟨src_skipGap hq (by rw [hst, hheld]; exact List.cons_ne_nil _ _), ?_, ?_⟩
    · simpa using tick_reach s.dev (t0 + 50)
    · rw [stream_skipGap_single (by rw [hst]; exact hheld), hst]
  · intro k pipe cause hk hact hbad
    refine ⟨{ s with dev := doPlaneFailure k pipe cause s.dev }, rfl, ?_⟩
    rw [doPlaneFailure_active hk hact hbad]
    generalize hd : (if cause = 0 then s.dev.reach (tget (s.dev.plane k).heard 0 pipe + 8) else s.dev) = d
    dsimp only
    refine planeLost_effect (d0 := s.dev) hk pipe cause (fun j => ?_) fun h => ?_
    · rw [← hd]
      split <;> rfl
    · rw [← hd, if_pos h]
      exact tick_reach ..
  · intro k hfail
    refine ⟨{ s with dev := doPlaneRemoved k s.dev }, rfl, ?_⟩
    rw [doPlaneRemoved_failed hfail]
    dsimp only
    exact ⟨plane_planeLeft_mcSettle .., fun p hp hk hspray => mcPlane_planeLeft hfail hp hk hspray⟩
  · intro k ok hrem hcheck
    refine ⟨{ s with dev := doPlaneSelfCheck k ok s.dev }, rfl, ?_⟩
    have hrc (d : Dev) : (if ok then d.reclass (0xA00 + k) else d).swc = d.swc := by split <;> simp
    have hrb (d : Dev) : (if ok then d.reclass (0xA00 + k) else d).bal = d.bal := by split <;> simp
    have hdo : doPlaneSelfCheck k ok s.dev = if ok then ((s.dev.reach ((s.dev.plane k).since + 250)).modPlane k
        (fun y => { y with checked := true })).reclass (0xA00 + k) else (s.dev.reach ((s.dev.plane k).since + 250)).modPlane k
        (fun y => { y with checked := true }) := by simp [doPlaneSelfCheck, hrem, hcheck, usTicks]
    rw [hdo]
    constructor
    · rw [plane_swc (congrArg Swc.planes (hrc _))]
      simp
    · rw [hrb]
      exact tick_reach ..
  · intro k hk htest
    constructor
    · refine ⟨{ s with dev := doPlaneBistDone k true s.dev }, rfl, ?_⟩
      have hpl : (doPlaneBistDone k true s.dev).plane k = {} := by
        simp only [doPlaneBistDone, htest, ne_eq, not_true_eq_false, if_false, if_true]
        rw [plane_swc (planes_planeRestored ..), Dev.plane_modPlane, if_pos rfl]
      exact ⟨hpl, mem_spraySet.2 ⟨hk, by rw [hpl]⟩⟩
    · refine ⟨{ s with dev := doPlaneBistDone k false s.dev }, rfl, ?_⟩
      have hrec (d : Dev) (code : Nat) (who : Who) (source : Option Nat) (data : BitVec 160) :
          (d.record code who source data).plane k = d.plane k := plane_swc (by simp) k
      simp [doPlaneBistDone, htest, hrec]
  · intro port m ent rest x hport hheld hents hx hmin
    refine ⟨{ s with dev := doMcCopyHoldDrop port m s.dev }, rfl, ?_⟩
    have hbp : ((s.dev.fcp port).paused (16 + m) || decide ((s.dev.port port).st = .holdRunning)) = true := by simpa using hheld
    rw [doMcCopyHoldDrop_head hport hbp hents hx hmin]
    refine ⟨?_, ?_, ?_⟩
    · rw [queue_mcHeld]
      show (s.dev.queue (Dest.mc port m).key).ents.erase ent = rest
      rw [hents, List.erase_cons_head]
    · exact src_mcHeld ..
    · rw [bal_mcHeld]
      exact tick_reach ..

end Sys2Proof.Machine
end

section
/-! PROOFS. Ports send chosen frames (09 R270, R272, R280; 12 R362, R363, R364). -/
namespace Sys2Proof.Machine

/-! ### Sorted lists -/

theorem mem_insertBy {α : Type} (le : α → α → Bool) (x y : α) (l : List α) : y ∈ insertBy le x l ↔ y = x ∨ y ∈ l := by
  induction l with
  | nil => simp [insertBy]
  | cons z l ih =>
    unfold insertBy
    split
    · simp
    · simp only [List.mem_cons, ih]
      tauto

theorem mem_sortBy {α : Type} (le : α → α → Bool) (y : α) (l : List α) : y ∈ sortBy le l ↔ y ∈ l := by
  induction l with
  | nil => simp [sortBy]
  | cons z l ih => simpa [sortBy, mem_insertBy] using or_congr_right ih

/-! ### Frames under way -/

@[simp] theorem tx_tidy (d : Dev) (pid : Nat) : (d.tidy pid).dp.tx = d.dp.tx := by
  unfold Dev.tidy
  dsimp only
  repeat' split
  all_goals simp

@[simp] theorem tx_copyEnd (d : Dev) (party : Nat) (e : Ent) (t : Dest) : (d.copyEnd party e t).dp.tx = d.dp.tx := by
  unfold Dev.copyEnd
  dsimp only
  repeat' split
  all_goals simp [Dev.modPkt]

theorem txs_dp {d d' : Dev} (h : d'.dp.tx = d.dp.tx) (p : Nat) : d'.txs p = d.txs p := by rw [Dev.txs, h, Dev.txs]

@[simp] theorem txs_setTxs (d : Dev) (p : Nat) (l : List Tx) : (d.setTxs p l).txs p = l := by simp [Dev.setTxs, Dev.txs]

@[simp] theorem tx_settleCharge (d : Dev) (p : Nat) (y : Tx) : (d.settleCharge p y).dp.tx = d.dp.tx := by
  unfold Dev.settleCharge
  split
  · simp
  · split <;> rfl

@[simp] theorem pkts_settleCharge (d : Dev) (p : Nat) (y : Tx) : (d.settleCharge p y).dp.pkts = d.dp.pkts := by
  unfold Dev.settleCharge
  split
  · simp
  · split <;> rfl

theorem pkt?_dp {d d' : Dev} (h : d'.dp.pkts = d.dp.pkts) (pid : Nat) : d'.pkt? pid = d.pkt? pid := by rw [Dev.pkt?, h, Dev.pkt?]

theorem tx_dropKept (d : Dev) (p : Nat) : (d.dropKept p).dp.tx = d.dp.tx := by
  unfold Dev.dropKept
  refine foldl_keeps (fun d => d.dp.tx) (fun d k => ?_) _ _
  split <;> rfl

theorem tx_readCells (d : Dev) (p : Nat) (t : Dest) (pid : Nat) (x : Pkt) (cells : List (Nat × Nat)) :
    (d.readCells p t pid x cells).dp.tx = d.dp.tx := rfl

/-! ### Reads alone cross where no packet is ready -/

theorem dp_cross_read (acc : Dev × List Nat × List Nat) (x : Cross) : (Dev.cross acc (.read x)).1.dp = acc.1.dp := by
  unfold Dev.cross
  dsimp only
  split
  · rfl
  · simp

theorem dp_foldl_cross {cs : List Crossing} (h : ∀ c ∈ cs, ∃ x, c = .read x) (acc : Dev × List Nat × List Nat) :
    (cs.foldl Dev.cross acc).1.dp = acc.1.dp := by
  induction cs generalizing acc with
  | nil => rfl
  | cons c cs ih =>
    obtain ⟨x, rfl⟩ := h c List.mem_cons_self
    exact (ih (fun c hc => h c (List.mem_cons_of_mem _ hc)) _).trans (dp_cross_read ..)

theorem dp_crossRank {cs : List Crossing} (h : ∀ c ∈ cs, ∃ x, c = .read x) (acc : Dev × List Nat) (r : Nat) :
    (Dev.crossRank acc r cs).1.dp = acc.1.dp := by
  have hfold := dp_foldl_cross (cs := sortBy (fun a b => decide ((acc.1.sourceOf a + 16 - tget acc.1.swc.rrRank 0 r) % 16 ≤
    (acc.1.sourceOf b + 16 - tget acc.1.swc.rrRank 0 r) % 16)) cs) (fun c hc => h c ((mem_sortBy ..).1 hc)) (acc.1, acc.2, [])
  unfold Dev.crossRank
  dsimp only
  split <;> exact hfold

theorem dp_cycle_nil (d : Dev) : (d.cycle []).dp = d.dp := by
  have hrank (l : List Nat) (acc : Dev × List Nat) (cs : List Crossing) (f : Nat → Crossing → Bool) (h : ∀ c ∈ cs, ∃ x, c = .read x) :
      (l.foldl (fun acc r => Dev.crossRank acc r (cs.filter (f r))) acc).1.dp = acc.1.dp := by
    induction l generalizing acc with
    | nil => rfl
    | cons r l ih => exact (ih _).trans (dp_crossRank (fun c hc => h c (List.mem_filter.1 hc).1) ..)
  refine (hrank (List.range 4) _ _ (fun r c => decide (_ = r)) ?_).trans rfl
  intro c hc
  obtain ⟨x, -, rfl⟩ := List.mem_map.1 hc
  exact ⟨x, rfl⟩

/-! ### A port's decision -/

/-- A frame that is rewritten and short enough stands in the transmit record as it was read. -/
theorem mem_txs_startFrame {d : Dev} {p : Nat} {t : Dest} {e : Ent} {x : Pkt} {bks cells : List Nat} {bytes : List Byte} (hp : p < 512)
    (hfit : bytes.length + 4 ≤ (d.port p).maxFrame) : ∃ y ∈ (d.startFrame p t e x bks cells none bytes none).txs p,
      y.ent = e ∧ y.bytes = bytes ∧ y.dest = t ∧ y.need = x.need ∧ y.stomp = x.badFcs := by
  have hnot : ¬(d.port p).maxFrame < bytes.length + 4 := Nat.not_lt.2 hfit
  unfold Dev.startFrame
  simp only [hp, hnot, false_and, if_true, if_false, Option.isSome_none, Bool.false_eq_true, decide_false, Bool.false_or, Bool.or_false]
  rw [txs_dp (tx_dropKept ..), txs_dp (tx_readCells ..), txs_setTxs]
  exact ⟨_, List.mem_append_right _ List.mem_cons_self, rfl, rfl, rfl, rfl, rfl⟩

theorem dispatch_clean {d : Dev} {p : Nat} {t : Dest} {e : Ent} {x : Pkt} {bks : List Nat} {bytes : List Byte} (hpart : e.part ≠ .ret)
    (hframe : (d.rewriteCopy e x t {}).1 = .frame bytes none) :
    d.dispatch p t e x bks {} = (d.rewriteCopy e x t {}).2.startFrame p t e x bks x.cells none bytes none := by
  have hread (cells : List Nat) : d.readFlaws cells {} = (none, d) := by simp [Dev.readFlaws]
  simp only [Dev.dispatch, if_neg hpart, hread, hframe, reduceCtorEq, if_false]

theorem askPorts_first {d : Dev} {pipe i : Nat} {flaws : Flaws} {l : List Nat} {r : Dev}
    (h : d.portDecision ((pipePorts pipe).getD i 0) flaws = (true, r)) : Dev.askPorts pipe flaws (i :: l) d =
      { r with dp := { r.dp with rrPort := tset r.dp.rrPort ((pipePorts pipe).length - 1) pipe i } } := by
  simp only [Dev.askPorts, h, if_true]

theorem frontDecision_chosen {d : Dev} {p q : Nat} {sch : Sched} {e : Ent} {x : Pkt} (hch : (d.frontReady p).choose p = some (q, sch))
    (hhd : (d.frontReady p).head? (portKey p q) = some (e, x)) (flaws : Flaws) : d.frontDecision p flaws =
      (true, (((d.frontReady p).takeHead p q sch e x).2.dispatch p (destOf (portKey p q)) e x
        ((d.frontReady p).takeHead p q sch e x).1 flaws).clearDeficits p) := by
  unfold Dev.frontDecision
  dsimp only
  rw [hch]
  dsimp only
  rw [hhd]

theorem txs_clearDeficits (d : Dev) (p : Nat) : (d.clearDeficits p).txs p = d.txs p := rfl

theorem dp_doDispatchDecision {d r : Dev} {pipe i : Nat} {flaws : Flaws} (hpipe : pipe < 16) (htakes : d.takesPackets = true)
    (hstop : (d.pipe pipe).actionStopped = false) (hawake : (d.pipe pipe).asleep = false)
    (hi : i = (tget d.dp.rrPort ((pipePorts pipe).length - 1) pipe + 1) % (pipePorts pipe).length)
    (h : d.portDecision ((pipePorts pipe).getD i 0) flaws = (true, r)) : (doDispatchDecision pipe flaws d).dp =
      { r.dp with rrPort := tset r.dp.rrPort ((pipePorts pipe).length - 1) pipe i } := by
  obtain ⟨n, hn⟩ : ∃ n, (pipePorts pipe).length = n + 1 :=
    Nat.exists_eq_succ_of_ne_zero (by simp [pipePorts])
  have hlist : (List.range (pipePorts pipe).length).map (fun j =>
      (tget d.dp.rrPort ((pipePorts pipe).length - 1) pipe + 1 + j) % (pipePorts pipe).length) =
        i :: (List.range n).map (fun j => (tget d.dp.rrPort ((pipePorts pipe).length - 1) pipe + 1 + (j + 1)) % (pipePorts pipe).length) := by
    rw [hi, hn, List.range_succ_eq_map, List.map_cons, List.map_map]
    rfl
  unfold doDispatchDecision
  simp only [Nat.not_le.2 hpipe, htakes, hstop, hawake, decide_false, Bool.not_true, Bool.or_self, Bool.false_eq_true, if_false, hlist,
    askPorts_first h, dp_cycle_nil]

/-! ### The end of a frame -/

/-- The frame is counted and goes out on the wire. -/
def Dev.framed (d : Dev) (p : Nat) (y : Tx) (x : Pkt) (bytes : List Byte) : Dev :=
  ((d.countSent p y x (bytes.length + 4)).modPort p (fun z => { z with active := true })).emit (.frame p (wireFrame bytes y.stomp))

/-- The timestamp that the descriptor asked for is written back. -/
def Dev.stamped (d : Dev) (y : Tx) (x : Pkt) : Dev :=
  match x.tsReq with
  | some r =>
    let ns := (y.startPs + 8000) / 1000
    (d.txWriteBack r.1 r.2.1 r.2.2 (ns / 1000000000) (ns % 1000000000) 0).modPkt y.ent.pid (fun z => { z with tsReq := none })
  | none => d

theorem tx_stamped (d : Dev) (y : Tx) (x : Pkt) : (d.stamped y x).dp.tx = d.dp.tx := by
  unfold Dev.stamped
  split <;> simp [Dev.modPkt]

theorem mem_out_stamped {d : Dev} {o : Out} (h : o ∈ d.out) (y : Tx) (x : Pkt) : o ∈ (d.stamped y x).out := by
  unfold Dev.stamped
  split
  · exact mem_out_txWriteBack h ..
  · exact h

theorem dp_framed (d : Dev) (p : Nat) (y : Tx) (x : Pkt) (bytes : List Byte) : (d.framed p y x bytes).dp = d.dp := by simp [Dev.framed]

theorem mem_out_framed (d : Dev) (p : Nat) (y : Tx) (x : Pkt) (bytes : List Byte) :
    .frame p (wireFrame bytes y.stomp) ∈ (d.framed p y x bytes).out := by simp [Dev.framed, Dev.emit]

theorem loopKind_bal {d d' : Dev} (h : d'.bal = d.bal) (p : Nat) : d'.loopKind p = d.loopKind p := by
  rw [Dev.loopKind, h, Dev.loopKind]

theorem bal_settled (d : Dev) (p : Nat) (l : List Tx) (y : Tx) : ((d.setTxs p l).settleCharge p y).bal = d.bal := by simp

theorem bal_counted (d : Dev) (p : Nat) (y : Tx) (x : Pkt) (n : Nat) :
    ((d.countSent p y x n).modPort p (fun z => { z with active := true })).bal = d.bal := by simp

section
variable {d : Dev} {p : Nat} {y : Tx} {x : Pkt} {a b : Nat} (hx : d.pkt? y.ent.pid = some x) (hdest : y.dest = .uni a b)
  (hloop : d.loopKind p = 0)
include hx hdest hloop

theorem txEnd_uni : d.txEnd p y = (((((d.setTxs p ((d.txs p).erase y)).settleCharge p y).framed p y x (if x.need ≤ y.got then y.bytes else
    y.bytes.take ((256 * y.got : Int) + y.delta).toNat)).stamped y x)).copyEnd y.dest.party y.ent y.dest := by
  generalize hd0 : (d.setTxs p ((d.txs p).erase y)).settleCharge p y = d0
  have hx0 : d0.pkt? y.ent.pid = some x := by
    rw [← hd0, pkt?_dp (pkts_settleCharge ..)]
    exact hx
  have hloop0 : d0.loopKind p = 0 := by
    rw [← hd0, loopKind_bal (bal_settled ..)]
    exact hloop
  generalize hbytes : (if x.need ≤ y.got then y.bytes else y.bytes.take ((256 * y.got : Int) + y.delta).toNat) = bytes
  have hcount : ((d0.countSent p y x (bytes.length + 4)).modPort p (fun z => { z with active := true })).loopKind p = 0 := by
    rw [loopKind_bal (bal_counted ..)]
    exact hloop0
  have hwire : ((d0.countSent p y x (bytes.length + 4)).modPort p (fun z => { z with active := true })).wireOut p
      (wireFrame bytes y.stomp) = d0.framed p y x bytes := by
    rw [Dev.wireOut, if_pos hcount, Dev.framed]
  have hloop1 : (d0.framed p y x bytes).loopKind p = 0 := hcount
  unfold Dev.txEnd
  simp only [hd0, hx0, hdest, decide_eq_true_eq, hbytes, hwire, hloop1]
  rfl

theorem txEnd_effect {rest : List Tx} (htx : d.txs p = y :: rest) : (d.txEnd p y).txs p = rest ∧
    .frame p (wireFrame (if x.need ≤ y.got then y.bytes else y.bytes.take ((256 * y.got : Int) + y.delta).toNat) y.stomp) ∈
      (d.txEnd p y).out := by
  rw [txEnd_uni hx hdest hloop]
  constructor
  · rw [txs_dp (tx_copyEnd ..), txs_dp (tx_stamped ..), txs_dp (congrArg Dp.tx (dp_framed ..)), txs_dp (tx_settleCharge ..), txs_setTxs,
      htx, List.erase_cons_head]
  · exact mem_out_copyEnd (mem_out_stamped (mem_out_framed ..) ..) ..

end

/-! ### Charges -/

theorem dp_chargeLate (d : Dev) (p : Nat) (y : Tx) : (d.chargeLate p y).dp = d.dp := by simp

/-- Settles O15, a decision, a charge and an end of a frame at a time. -/
theorem portsSendChosenFrames : Obligations.PortsSendChosenFrames := by
  intro s p
  refine ⟨?_, ?_, ?_, ?_, ?_⟩
  · intro pipe i q sch e x bytes hpipe htakes hstop hawake hi hp hp512 hopen hch hhd hpart _ hframe hfit
    refine ⟨{ s with dev := doDispatchDecision pipe {} s.dev }, rfl, ?_⟩
    dsimp only
    have hdec := frontDecision_chosen hch hhd {}
    rw [dispatch_clean hpart hframe] at hdec
    obtain ⟨y, hy, hfields⟩ := mem_txs_startFrame (t := destOf (portKey p q)) (e := e) (x := x)
      (bks := ((s.dev.frontReady p).takeHead p q sch e x).1) (cells := x.cells) hp512 hfit
    have hport : s.dev.portDecision ((pipePorts pipe).getD i 0) {} = s.dev.frontDecision p {} := by
      rw [← hp]
      simp only [Dev.portDecision, hopen, hp512, Bool.not_true, Bool.false_eq_true, if_false, if_true]
    have hdp := dp_doDispatchDecision hpipe htakes hstop hawake hi (hport.trans hdec)
    refine ⟨by rw [hdp, tget_tset, if_pos rfl], y, ?_, hfields⟩
    rw [Dev.txs, hdp]
    exact hy
  · intro i y howed hi hy
    refine ⟨{ s with dev := doRewriteLengthCharge p s.dev }, rfl, ?_⟩
    have hdo : doRewriteLengthCharge p s.dev = (s.dev.setTxs p ((s.dev.txs p).set i { y with charged := true })).chargeLate p y := by
      simp only [doRewriteLengthCharge, howed, List.find?_nil, hi, hy]
    rw [hdo]
    exact ⟨(txs_dp (congrArg Dp.tx (dp_chargeLate ..)) p).trans (txs_setTxs ..), fun _ => rfl⟩
  · intro y hy
    refine ⟨{ s with dev := doRewriteLengthCharge p s.dev }, rfl, ?_⟩
    have hdo : doRewriteLengthCharge p s.dev = (s.dev.setOwed p ((s.dev.owedAt p).erase y)).chargeLate p y := by
      simp only [doRewriteLengthCharge, hy]
    dsimp only
    rw [hdo, Dev.owedAt, Dev.txs, dp_chargeLate]
    exact ⟨by simp [Dev.setOwed], rfl⟩
  · intro y rest x a b hp htx hx hgot hneed hwhole hdest hloop
    refine ⟨{ s with dev := doFrameTransmitEnd p s.dev }, rfl, ?_⟩
    have hdo : doFrameTransmitEnd p s.dev = s.dev.txEnd p y := by
      simp only [doFrameTransmitEnd, Nat.not_le.2 hp, if_false, htx, hx, hgot, hwhole, and_self, if_true]
    rw [hdo]
    simpa [hneed, wireFrame] using txEnd_effect hx hdest hloop htx
  · intro y rest x a b hp htx hx hgot hneed hdest hloop
    refine ⟨{ s with dev := doTxUnderrun p s.dev }, rfl, ?_⟩
    have hdo : doTxUnderrun p s.dev = ((s.dev.setTxs p ({ y with stomp := true, need := y.got } :: rest)).bump .txUnderrun p).txEnd p
        { y with stomp := true, need := y.got } := by
      simp only [doTxUnderrun, Nat.not_le.2 hp, if_false, htx, Nat.not_le.2 hgot]
    rw [hdo]
    have := txEnd_effect (d := (s.dev.setTxs p ({ y with stomp := true, need := y.got } :: rest)).bump .txUnderrun p)
      (y := { y with stomp := true, need := y.got }) (rest := rest) hx hdest hloop (txs_setTxs ..)
    simpa [Nat.not_le.2 hneed, wireFrame] using this

end Sys2Proof.Machine
end

section
/-! PROOFS. The cells of the buffer (10 R286, R300 to R303, R305, R306). -/
namespace Sys2Proof.Machine

/-! ### What the judgement of the classes leaves -/

section
variable {β : Type} (g : Bpm → β) (hg : ∀ b accts, g { b with accts := accts } = g b)
include hg

theorem bpm_judge (d : Dev) (a : Nat) : g (d.judge a).bpm = g d.bpm := by
  unfold Dev.judge
  refine foldl_keeps (fun d => g d.bpm) (fun d c => ?_) _ _
  repeat' split
  all_goals exact hg ..

theorem bpm_judgeAll (d : Dev) : g d.judgeAll.bpm = g d.bpm := by
  have hlive (d : Dev) (k : Nat) (on : Bool) : g (d.live k on).bpm = g d.bpm := by simp
  unfold Dev.judgeAll
  dsimp only
  refine (foldl_keeps (fun d => g d.bpm) (fun d p => ?_) _ _).trans
    ((hlive ..).trans (foldl_keeps (fun d => g d.bpm) (fun d a => bpm_judge g hg d a) _ _))
  split
  · rfl
  · exact hlive ..

end

theorem cell_bpm {d d' : Dev} (h : d'.bpm.cells = d.bpm.cells) (c : Nat) : d'.cell c = d.cell c := by rw [Dev.cell, h, Dev.cell]
theorem flist_bpm {d d' : Dev} (h : d'.bpm.lists = d.bpm.lists) (f : Nat) : d'.flist f = d.flist f := by rw [Dev.flist, h, Dev.flist]
theorem acct_bpm {d d' : Dev} (h : d'.bpm.accts = d.bpm.accts) (a : Nat) : d'.acct a = d.acct a := by rw [Dev.acct, h, Dev.acct]

theorem cell_judgeAll (d : Dev) (c : Nat) : d.judgeAll.cell c = d.cell c := cell_bpm (bpm_judgeAll Bpm.cells (fun _ _ => rfl) d) c
theorem cell_judge (d : Dev) (a c : Nat) : (d.judge a).cell c = d.cell c := cell_bpm (bpm_judge Bpm.cells (fun _ _ => rfl) d a) c
theorem flist_judgeAll (d : Dev) (f : Nat) : d.judgeAll.flist f = d.flist f := flist_bpm (bpm_judgeAll Bpm.lists (fun _ _ => rfl) d) f
theorem flist_judge (d : Dev) (a f : Nat) : (d.judge a).flist f = d.flist f := flist_bpm (bpm_judge Bpm.lists (fun _ _ => rfl) d a) f
theorem retired_judgeAll (d : Dev) : d.judgeAll.bpm.retired = d.bpm.retired := bpm_judgeAll Bpm.retired (fun _ _ => rfl) d
theorem retired_judge (d : Dev) (a : Nat) : (d.judge a).bpm.retired = d.bpm.retired := bpm_judge Bpm.retired (fun _ _ => rfl) d a
theorem sweepPos_judgeAll (d : Dev) : d.judgeAll.bpm.sweepPos = d.bpm.sweepPos := bpm_judgeAll Bpm.sweepPos (fun _ _ => rfl) d

section
variable {β : Type} (g : Account → β) (hg : ∀ x n, g { x with closed := n } = g x)
include hg

theorem acct_judge (d : Dev) (b a : Nat) : g ((d.judge b).acct a) = g (d.acct a) := by
  have hmod (d : Dev) (f : Account → Nat) : g ((d.modAcct b (fun x => { x with closed := f x })).acct a) = g (d.acct a) := by
    rw [Dev.acct_modAcct]
    split
    · exact hg ..
    · rfl
  unfold Dev.judge
  refine foldl_keeps (fun d => g (d.acct a)) (fun d c => ?_) _ _
  repeat' split
  · exact hmod d fun x => x.closed - 2 ^ c
  · rfl
  · exact hmod d fun x => x.closed + 2 ^ c
  · rfl

theorem acct_judgeAll (d : Dev) (a : Nat) : g (d.judgeAll.acct a) = g (d.acct a) := by
  have hlive (d : Dev) (k : Nat) (on : Bool) : g ((d.live k on).acct a) = g (d.acct a) := congrArg g (acct_bpm (by simp) a)
  unfold Dev.judgeAll
  dsimp only
  refine (foldl_keeps (fun d => g (d.acct a)) (fun d p => ?_) _ _).trans
    ((hlive ..).trans (foldl_keeps (fun d => g (d.acct a)) (fun d b => acct_judge g hg d b a) _ _))
  split
  · rfl
  · exact hlive ..

end

theorem fcr_judge (d : Dev) (a : Nat) : (d.judge a).fcr = d.fcr := by simp

/-- The judgement of all classes drives the sources of the shared pool and of the polders alone. -/
theorem src_judgeAll {k : Nat} (hk : 0xC0 ≤ k) (hne : k ≠ 0xB07) (d : Dev) : d.judgeAll.src k = d.src k := by
  unfold Dev.judgeAll
  dsimp only
  have hpolders : ∀ (l : List Nat) (d : Dev), (∀ p ∈ l, p < 8) → (l.foldl (fun d p => if (d.polder p).st = .undefined then d
      else d.live (0x81 + 8 * p) (decide ((d.polder p).cellMax ≤ d.polderDrawn p ∧ 0 < (d.polder p).cellMax))) d).src k = d.src k := by
    intro l
    induction l with
    | nil => exact fun _ _ => rfl
    | cons p l ih =>
      intro d hl
      have hp := hl p List.mem_cons_self
      refine (ih _ fun q hq => hl q (List.mem_cons_of_mem _ hq)).trans ?_
      dsimp only
      split
      · rfl
      · exact src_live_ne (by omega) ..
  rw [hpolders _ _ (fun p hp => List.mem_range.1 hp), src_live_ne (Ne.symm hne)]
  exact src_fcr (foldl_keeps Dev.fcr (fun d a => fcr_judge d a) _ _) k

/-! ### A cell that is freed -/

/-- The cell's account is credited, and the cell is free. -/
def Dev.vacated (d : Dev) (c : Nat) : Dev := (d.credit (d.cell c).owner (d.cell c).cls).modCell c (fun _ => {})

theorem freeCell_condemned {d : Dev} {c : Nat} (h : d.bpm.condemned.contains c = true) : d.freeCell c =
    ({ d.vacated c with bpm := { (d.vacated c).bpm with condemned := d.bpm.condemned.erase c } }).retireCell c 1 := if_pos h

theorem freeCell_sound {d : Dev} {c : Nat} (h : d.bpm.condemned.contains c = false) : d.freeCell c = ((d.vacated c).returnCell c).judgeAll :=
  if_neg fun h' => Bool.false_ne_true (h.symm.trans h')

theorem swc_retireCell_bpm (d : Dev) (c cause : Nat) {β : Type} (g : Bpm → β) (hg : ∀ b accts, g { b with accts := accts } = g b) :
    g (d.retireCell c cause).bpm = g { d.bpm with retired := if d.bpm.retired.contains c then d.bpm.retired else c :: d.bpm.retired } := by
  unfold Dev.retireCell
  dsimp only
  rw [bpm_judgeAll g hg]
  simp

theorem mem_retired_retireCell (d : Dev) (c cause : Nat) : c ∈ (d.retireCell c cause).bpm.retired := by
  rw [swc_retireCell_bpm d c cause Bpm.retired (fun _ _ => rfl)]
  dsimp only
  split
  · rename_i h
    exact List.contains_iff_mem.1 h
  · exact List.mem_cons_self

theorem cell_returnCell (d : Dev) (c j : Nat) : (d.returnCell c).cell j = d.cell j := by
  refine cell_bpm ?_ j
  unfold Dev.returnCell Dev.pushChain
  dsimp only
  repeat' split
  all_goals rfl

theorem cell_freeCell (d : Dev) (c : Nat) : (d.freeCell c).cell c = {} := by
  have hvac : (d.vacated c).cell c = {} := by simp [Dev.vacated]
  cases h : d.bpm.condemned.contains c with
  | true =>
    rw [freeCell_condemned h, cell_bpm (swc_retireCell_bpm _ c 1 Bpm.cells (fun _ _ => rfl))]
    exact hvac
  | false => rw [freeCell_sound h, cell_judgeAll, cell_returnCell, hvac]

theorem sweepPos_returnCell (d : Dev) (c : Nat) : (d.returnCell c).bpm.sweepPos = d.bpm.sweepPos := by
  unfold Dev.returnCell Dev.pushChain
  dsimp only
  repeat' split
  all_goals rfl

theorem retired_returnCell (d : Dev) (c : Nat) : (d.returnCell c).bpm.retired = d.bpm.retired := by
  unfold Dev.returnCell Dev.pushChain
  dsimp only
  repeat' split
  all_goals rfl

theorem fcr_returnCell (d : Dev) (c : Nat) : (d.returnCell c).fcr = d.fcr := by simp

theorem flist_returnCell_room {d : Dev} {c : Nat} (h : (d.flist (listOf c)).retCache.length < 256) :
    ((d.returnCell c).flist (listOf c)).retCache = c :: (d.flist (listOf c)).retCache := by
  unfold Dev.returnCell
  rw [if_neg (Nat.not_le.2 h), Dev.flist_modList, if_pos rfl]

/-- The oldest returned cell heads the chain. -/
theorem flist_pushChain {d : Dev} {f : Nat} (h : (d.flist f).retCache ≠ []) : (d.pushChain f).flist f =
    { d.flist f with head := (d.flist f).retCache.getLast?.getD 0, chain := (d.flist f).chain + 1, retCache := (d.flist f).retCache.dropLast } := by
  obtain ⟨l, a, hl⟩ : ∃ l a, (d.flist f).retCache = l ++ [a] := ⟨_, _, (List.dropLast_append_getLast h).symm⟩
  unfold Dev.pushChain
  simp only [hl, List.reverse_append, List.reverse_cons, List.reverse_nil, List.nil_append, List.singleton_append, List.reverse_reverse,
    Dev.flist_modList, if_true, List.getLast?_append, List.getLast?_singleton, Option.some_or, Option.getD_some, List.dropLast_concat]
  rfl

theorem flist_returnCell_full {d : Dev} {c : Nat} (h : (d.flist (listOf c)).retCache.length = 256) :
    ((d.returnCell c).flist (listOf c)).retCache = c :: (d.flist (listOf c)).retCache.dropLast ∧
      ((d.returnCell c).flist (listOf c)).chain = (d.flist (listOf c)).chain + 1 := by
  have hne : (d.flist (listOf c)).retCache ≠ [] := fun hn => by rw [hn] at h; cases h
  unfold Dev.returnCell
  rw [if_pos h.ge, Dev.flist_modList, if_pos rfl, flist_pushChain hne]
  exact ⟨rfl, rfl⟩

theorem flist_vacated (d : Dev) (c f : Nat) : (d.vacated c).flist f = d.flist f := rfl

theorem flist_freeCell {d : Dev} {c : Nat} (h : d.bpm.condemned.contains c = false) :
    ((d.flist (listOf c)).retCache.length < 256 →
      ((d.freeCell c).flist (listOf c)).retCache = c :: (d.flist (listOf c)).retCache) ∧
    ((d.flist (listOf c)).retCache.length = 256 →
      ((d.freeCell c).flist (listOf c)).retCache = c :: (d.flist (listOf c)).retCache.dropLast ∧
      ((d.freeCell c).flist (listOf c)).chain = (d.flist (listOf c)).chain + 1) := by
  rw [freeCell_sound h, flist_judgeAll, ← flist_vacated d c]
  exact ⟨flist_returnCell_room, flist_returnCell_full⟩

/-! ### What the end of copies does to the record of retired cells, the sweep and a source that is live -/

/-- From `d` to `e` no cell has come back into circulation, the sweep has stood still, and source `k` is live if it was. -/
def Tended (k : Nat) (d e : Dev) : Prop :=
  (∀ c ∈ d.bpm.retired, c ∈ e.bpm.retired) ∧ e.bpm.sweepPos = d.bpm.sweepPos ∧ ((d.src k).live = true → (e.src k).live = true)

theorem Tended.of_eq {k : Nat} {d e : Dev} (hb : e.bpm = d.bpm) (hf : e.fcr = d.fcr) : Tended k d e :=
  ⟨by rw [hb]; exact fun _ h => h, by rw [hb], by rw [src_fcr hf]; exact id⟩

theorem Tended.of_parts {k : Nat} {d e : Dev} (hr : e.bpm.retired = d.bpm.retired) (hs : e.bpm.sweepPos = d.bpm.sweepPos)
    (hf : e.fcr = d.fcr) : Tended k d e :=
  ⟨by rw [hr]; exact fun _ h => h, hs, by rw [src_fcr hf]; exact id⟩

theorem Tended.rfl {k : Nat} {d : Dev} : Tended k d d := .of_eq (Eq.refl _) (Eq.refl _)

theorem Tended.trans {k : Nat} {a b c : Dev} (h : Tended k a b) (h' : Tended k b c) : Tended k a c :=
  ⟨fun x hx => h'.1 x (h.1 x hx), h'.2.1.trans h.2.1, fun hl => h'.2.2 (h.2.2 hl)⟩

theorem Tended.foldl {k : Nat} {α : Type} {f : Dev → α → Dev} (h : ∀ d x, Tended k d (f d x)) (l : List α) (d : Dev) :
    Tended k d (l.foldl f d) := by
  induction l generalizing d with
  | nil => exact .rfl
  | cons x l ih => exact (h d x).trans (ih _)

theorem Tended.live {k : Nat} {d e : Dev} (hb : e.bpm = d.bpm) (h : (d.src k).live = true → (e.src k).live = true) : Tended k d e :=
  ⟨by rw [hb]; exact fun _ h => h, by rw [hb], h⟩

section
variable {k : Nat}

theorem tended_modSrc (d : Dev) (s : Nat) (f : Src → Src) (hf : ∀ x, x.live = true → (f x).live = true) : Tended k d (d.modSrc s f) := by
  refine .live (Eq.refl _) fun h => ?_
  rw [Dev.src_modSrc]
  split
  · exact hf _ h
  · exact h

theorem tended_liveFor (d : Dev) (s n attr : Nat) : Tended k d (d.liveFor s n attr) := by
  unfold Dev.liveFor
  split
  · exact .rfl
  · exact tended_modSrc _ _ _ fun _ _ => Eq.refl _

theorem tended_liveMs (d : Dev) (s attr : Nat) : Tended k d (d.liveMs s attr) := tended_liveFor ..

theorem tended_setLive (d : Dev) (s attr : Nat) : Tended k d (d.setLive s attr) := by
  unfold Dev.setLive
  split
  · exact .rfl
  · exact tended_modSrc _ _ _ fun _ _ => Eq.refl _

theorem tended_record (d : Dev) (code : Nat) (who : Who) (source : Option Nat) (data : BitVec 160) :
    Tended k d (d.record code who source data) := .of_eq (by simp) (by simp)

theorem tended_modPkt (d : Dev) (pid : Nat) (f : Pkt → Pkt) : Tended k d (d.modPkt pid f) := .of_eq (Eq.refl _) (Eq.refl _)
theorem tended_modQueue (d : Dev) (key : Nat) (f : Queue → Queue) : Tended k d (d.modQueue key f) := .of_eq (Eq.refl _) (Eq.refl _)
theorem tended_setTxs (d : Dev) (p : Nat) (l : List Tx) : Tended k d (d.setTxs p l) := .of_eq (Eq.refl _) (Eq.refl _)
theorem tended_touch (d : Dev) (p : Nat) : Tended k d (d.touch p) := .of_eq (by simp) (by simp)

theorem tended_counted (d : Dev) (c : Ctr) (i : Nat) (x : Pkt) (pipe n len : Nat) : Tended k d ((d.bump c i).meter x pipe n len) :=
  .of_eq (by simp) (by simp)

theorem tended_replDone (d : Dev) (x : Pkt) (t : Dest) : Tended k d (d.replDone x t) := by
  refine .live (by simp) fun h => ?_
  unfold Dev.replDone
  split
  · dsimp only
    split
    · exact (tended_liveMs (k := k) ..).2.2 h
    · exact h
  · exact h

variable (hk : 0xC0 ≤ k) (hne : k ≠ 0xB07)
include hk hne

theorem tended_judgeAll (d : Dev) : Tended k d d.judgeAll :=
  ⟨by rw [retired_judgeAll]; exact fun _ h => h, sweepPos_judgeAll d, by rw [src_judgeAll hk hne]; exact id⟩

theorem tended_retireCell (d : Dev) (c cause : Nat) : Tended k d (d.retireCell c cause) := by
  unfold Dev.retireCell
  dsimp only
  refine Tended.trans ?_ (tended_judgeAll hk hne _)
  refine Tended.trans ?_ (tended_record ..)
  refine Tended.trans ?_ (tended_setLive ..)
  refine ⟨fun x hx => ?_, Eq.refl _, id⟩
  show x ∈ if d.bpm.retired.contains c then d.bpm.retired else c :: d.bpm.retired
  split
  · exact hx
  · exact List.mem_cons_of_mem _ hx

theorem tended_freeCell (d : Dev) (c : Nat) : Tended k d (d.freeCell c) := by
  have hret : (d.vacated c).bpm.retired = d.bpm.retired := rfl
  have hsweep : (d.vacated c).bpm.sweepPos = d.bpm.sweepPos := rfl
  have hfcr : (d.vacated c).fcr = d.fcr := rfl
  cases h : d.bpm.condemned.contains c with
  | true =>
    rw [freeCell_condemned h]
    refine Tended.trans ?_ (tended_retireCell hk hne _ c 1)
    exact .of_parts hret hsweep hfcr
  | false =>
    rw [freeCell_sound h]
    refine (Tended.of_parts hret hsweep hfcr).trans (Tended.trans ?_ (tended_judgeAll hk hne _))
    exact .of_parts (retired_returnCell ..) (sweepPos_returnCell ..) (fcr_returnCell ..)

theorem tended_release (d : Dev) (party c a : Nat) : Tended k d (d.release party c a).2 := by
  unfold Dev.release Dev.releaseAs
  simp only [Bool.false_eq_true, if_false]
  repeat' split
  · exact (tended_record ..).trans (tended_liveMs ..)
  · exact (tended_record ..).trans (tended_liveMs ..)
  · exact tended_freeCell hk hne ..
  · exact ⟨fun _ h => h, Eq.refl _, id⟩

theorem tended_releaseAll (d : Dev) (party a : Nat) (cs : List Nat) : Tended k d (d.releaseAll party a cs) :=
  .foldl (fun d c => tended_release hk hne d party c a) cs d

omit hk hne in
theorem tended_tidy (d : Dev) (pid : Nat) : Tended k d (d.tidy pid) := .of_eq (by simp) (by simp)

theorem tended_copyEnd (d : Dev) (party : Nat) (e : Ent) (t : Dest) : Tended k d (d.copyEnd party e t) := by
  have hmod (d : Dev) (w : Swc) : Tended k d { d with swc := w } := .of_eq (Eq.refl _) (Eq.refl _)
  unfold Dev.copyEnd
  dsimp only
  split
  · exact .rfl
  next x hx =>
    refine Tended.trans ?_ (tended_tidy ..)
    refine Tended.trans ?_ (tended_modPkt ..)
    refine Tended.trans ?_ (tended_touch ..)
    refine Tended.trans ?_ (tended_replDone ..)
    refine Tended.trans ?_ (hmod ..)
    cases e.part
    case basin => exact .rfl
    all_goals exact tended_releaseAll hk hne ..

theorem tended_copyDrop (d : Dev) (party : Nat) (e : Ent) (t : Dest) (c : Ctr) (i : Nat) : Tended k d (d.copyDrop party e t c i) := by
  unfold Dev.copyDrop
  split
  · exact .rfl
  · exact (tended_counted ..).trans (tended_copyEnd hk hne ..)

theorem tended_discardCopies (d : Dev) (q pid : Nat) (c : Ctr) (b : Bool) (mine : Dest → Bool) :
    Tended k d (d.discardCopies q pid c b mine) := by
  unfold Dev.discardCopies
  split
  · exact .rfl
  · dsimp only
    refine Tended.trans ?_ (Tended.foldl (fun d p => Tended.foldl (fun d y => ?_) _ _) _ _)
    · refine Tended.trans ?_ (Tended.foldl (fun d k => Tended.foldl (fun d e => ?_) _ _) _ _)
      · exact .foldl (fun d t => (tended_modPkt ..).trans (tended_copyDrop hk hne ..)) _ _
      · exact (tended_modQueue ..).trans (tended_copyDrop hk hne ..)
    · split
      · exact (tended_setTxs ..).trans (tended_counted ..)
      · exact .rfl

theorem tended_discardEverywhere (d : Dev) (pid : Nat) (c : Ctr) (b : Bool) : Tended k d (d.discardEverywhere pid c b) :=
  .foldl (fun d q => tended_discardCopies hk hne d q pid c b _) (List.range 16) d

theorem tended_ownError (d : Dev) (c : Nat) : Tended k d (d.ownError c) := by
  unfold Dev.ownError
  dsimp only
  refine Tended.trans ?_ (Tended.foldl (fun d p => Tended.foldl (fun d y => ?_) _ _) _ _)
  · exact .foldl (fun d k => .foldl (fun d e => (tended_modQueue ..).trans (tended_copyDrop hk hne ..)) _ _) _ _
  · split
    · exact (tended_setTxs ..).trans (tended_counted ..)
    · exact tended_setTxs ..

end

/-- A descriptor that fails has its cell retired, whatever holds it (10 R306). -/
theorem descError_effect (d : Dev) (c : Nat) (lasting : Bool) : c ∈ (d.descError c lasting).bpm.retired ∧
    (d.descError c lasting).bpm.sweepPos = d.bpm.sweepPos ∧ ((d.descError c lasting).src 0xB02).live = true := by
  have hk : 0xC0 ≤ 0xB02 := by decide
  have hne : 0xB02 ≠ 0xB07 := by decide
  obtain ⟨d1, hd1⟩ : ∃ d1, d1 = (d.liveMs 0xB02).modSrc 0xB02 (fun x => { x with lasting := lasting }) := ⟨_, rfl⟩
  have h1 : d1.bpm.sweepPos = d.bpm.sweepPos ∧ (d1.src 0xB02).live = true := by
    constructor
    · rw [hd1]
      simp
    · rw [hd1, Dev.src_modSrc, if_pos rfl]
      exact liveMs_src_self rfl ..
  obtain ⟨d2, hd2⟩ : ∃ d2, d2 = if (d1.cell c).held then (d1.credit (d1.cell c).owner (d1.cell c).cls).modCell c (fun _ => {})
    else d1.modList (listOf c) (fun l => { l with headCache := l.headCache.erase c, retCache := l.retCache.erase c }) := ⟨_, rfl⟩
  have h2 : Tended 0xB02 d1 d2 := by
    rw [hd2]
    split
    · exact .of_parts rfl rfl rfl
    · exact .of_parts rfl rfl rfl
  have hall : Tended 0xB02 (d2.retireCell c 0) (d.descError c lasting) := by
    unfold Dev.descError
    dsimp only
    rw [← hd1, ← hd2]
    split
    · exact tended_ownError hk hne ..
    · refine Tended.trans ?_ (tended_tidy ..)
      refine Tended.trans ?_ (tended_discardEverywhere hk hne ..)
      exact (tended_ownError hk hne ..).trans (tended_modPkt ..)
  obtain ⟨-, hsweep, hlive⟩ := h2.trans ((tended_retireCell hk hne d2 c 0).trans hall)
  exact ⟨hall.1 c (mem_retired_retireCell ..), hsweep.trans h1.1, hlive h1.2⟩

/-! ### Counters that fail -/

theorem cell_counterError (d : Dev) (a c : Nat) : (d.counterError a).cell c = d.cell c := by
  rw [Dev.counterError, cell_judge]
  exact cell_bpm (by simp [Dev.modAcct]) c

theorem flist_counterError (d : Dev) (a f : Nat) : (d.counterError a).flist f = d.flist f := by
  rw [Dev.counterError, flist_judge]
  exact flist_bpm (by simp [Dev.modAcct]) f

theorem retired_counterError (d : Dev) (a : Nat) : (d.counterError a).bpm.retired = d.bpm.retired := by
  rw [Dev.counterError, retired_judge]
  simp [Dev.modAcct]

theorem rebuilding_counterError (d : Dev) (a : Nat) : ((d.counterError a).acct a).rebuilding = true := by
  rw [Dev.counterError, acct_judge Account.rebuilding (fun _ _ => rfl)]
  have h : ((d.modAcct a (fun x => { x with rebuilding := true })).setLive 0xB08).acct a =
    (d.modAcct a (fun x => { x with rebuilding := true })).acct a := acct_bpm (by simp) a
  rw [h, Dev.acct_modAcct, if_pos rfl]

theorem setLive_src_self {k : Nat} (h : (defaultSeverity k).isSome = true) (d : Dev) (attr : Nat) : ((d.setLive k attr).src k).live = true := by
  simp [Dev.setLive, Option.isNone_eq_false_iff.2 h]

theorem src_counterError_self (d : Dev) (a : Nat) : ((d.counterError a).src 0xB08).live = true := by
  rw [Dev.counterError, src_fcr (fcr_judge ..)]
  exact setLive_src_self rfl ..

theorem src_counterError {k : Nat} (h : k ≠ 0xB08) (d : Dev) (a : Nat) : (d.counterError a).src k = d.src k := by
  rw [Dev.counterError, src_fcr (fcr_judge ..)]
  have := src_live_ne (s := 0xB08) (k := k) (Ne.symm h) (d.modAcct a (fun x => { x with rebuilding := true })) true 0
  exact this

/-! ### Accounts that are rebuilt -/

/-- One class of an account is counted again. -/
def Dev.recount (d : Dev) (a c : Nat) : Dev :=
  let n := d.heldBy a c
  let r := d.free 63
  r.2.modAcct a (fun x =>
    let m := r.1 % (min n (x.min - sumN x.m) + 1)
    let hu := r.1 / 2 ^ 21 % (min (n - m) (x.hr.getD c 0) + 1)
    let ov := if a < 512 then r.1 / 2 ^ 42 % (n - m - hu + 1) else 0
    { x with m := x.m.set c m, hu := x.hu.set c hu, ov := x.ov.set c ov, sh := x.sh.set c (n - m - hu - ov) })

/-- The lists of an account hold a count for each of the 8 classes. -/
def Account.shaped (x : Account) : Prop := x.m.length = 8 ∧ x.sh.length = 8 ∧ x.hu.length = 8 ∧ x.ov.length = 8

/-- The cells that an account counts for a class. -/
def Account.counted (x : Account) (c : Nat) : Nat := x.m.getD c 0 + x.sh.getD c 0 + x.hu.getD c 0 + x.ov.getD c 0

theorem getD_set {α : Type} (l : List α) (c j : Nat) (v dflt : α) (hc : c < l.length) :
    (l.set c v).getD j dflt = if c = j then v else l.getD j dflt := by
  by_cases h : c = j
  · subst h
    simp [List.getD, hc]
  · simp [List.getD, h]

theorem mod_succ_le (r n : Nat) : r % (n + 1) ≤ n := Nat.lt_succ_iff.1 (Nat.mod_lt _ (Nat.succ_pos n))

theorem recount_effect {d : Dev} {a c : Nat} (hc : c < 8) (hs : (d.acct a).shaped) : ((d.recount a c).acct a).shaped ∧
    (d.recount a c).bpm.cells = d.bpm.cells ∧ ((d.recount a c).acct a).rebuilding = (d.acct a).rebuilding ∧
    ((d.recount a c).acct a).counted c = d.heldBy a c ∧
    ∀ j, j ≠ c → ((d.recount a c).acct a).counted j = (d.acct a).counted j := by
  obtain ⟨hm, hsh, hhu, hov⟩ := hs
  have hacct : (d.free 63).2.acct a = d.acct a := rfl
  unfold Dev.recount
  dsimp only
  rw [Dev.acct_modAcct, if_pos rfl, hacct]
  generalize hn : d.heldBy a c = n
  generalize d.acct a = x at *
  have h1 := mod_succ_le (d.free 63).1 (min n (x.min - sumN x.m))
  generalize (d.free 63).1 % (min n (x.min - sumN x.m) + 1) = m at *
  have h2 := mod_succ_le ((d.free 63).1 / 2 ^ 21) (min (n - m) (x.hr.getD c 0))
  generalize (d.free 63).1 / 2 ^ 21 % (min (n - m) (x.hr.getD c 0) + 1) = hu at *
  have h3 : (if a < 512 then (d.free 63).1 / 2 ^ 42 % (n - m - hu + 1) else 0) ≤ n - m - hu := by
    split
    · exact mod_succ_le ..
    · exact Nat.zero_le _
  generalize (if a < 512 then (d.free 63).1 / 2 ^ 42 % (n - m - hu + 1) else 0) = ov at *
  refine ⟨⟨?_, ?_, ?_, ?_⟩, rfl, rfl, ?_, fun j hj => ?_⟩
  · simpa using hm
  · simpa using hsh
  · simpa using hhu
  · simpa using hov
  · simp only [Account.counted]
    rw [getD_set _ _ _ _ _ (by omega), getD_set _ _ _ _ _ (by omega), getD_set _ _ _ _ _ (by omega), getD_set _ _ _ _ _ (by omega)]
    simp only [if_true]
    omega
  · simp only [Account.counted]
    rw [getD_set _ _ _ _ _ (by omega), getD_set _ _ _ _ _ (by omega), getD_set _ _ _ _ _ (by omega), getD_set _ _ _ _ _ (by omega)]
    simp only [if_neg (Ne.symm hj)]

theorem heldBy_bpm {d d' : Dev} (h : d'.bpm.cells = d.bpm.cells) (a c : Nat) : d'.heldBy a c = d.heldBy a c := by
  rw [Dev.heldBy, h, Dev.heldBy]

/-- The classes counted again so far. -/
theorem foldl_recount {d : Dev} {a : Nat} (hs : (d.acct a).shaped) (n : Nat) (hn : n ≤ 8) :
    (((List.range n).foldl (fun d c => d.recount a c) d).acct a).shaped ∧
    ((List.range n).foldl (fun d c => d.recount a c) d).bpm.cells = d.bpm.cells ∧
    (((List.range n).foldl (fun d c => d.recount a c) d).acct a).rebuilding = (d.acct a).rebuilding ∧
    ∀ c < n, (((List.range n).foldl (fun d c => d.recount a c) d).acct a).counted c = d.heldBy a c := by
  induction n with
  | zero => exact ⟨hs, rfl, rfl, fun c hc => absurd hc (Nat.not_lt_zero c)⟩
  | succ n ih =>
    obtain ⟨ihs, ihc, ihr, ihn⟩ := ih (by omega)
    rw [List.range_succ, List.foldl_append]
    obtain ⟨h1, h2, h3, h4, h5⟩ := recount_effect (c := n) (by omega) ihs
    refine ⟨h1, h2.trans ihc, h3.trans ihr, fun c hc => ?_⟩
    by_cases hcn : c = n
    · subst hcn
      exact h4.trans (heldBy_bpm ihc ..)
    · exact (h5 c hcn).trans (ihn c (by omega))

/-- The account with nothing counted, as its rebuild begins. -/
def Dev.uncounted (d : Dev) (a : Nat) : Dev := d.modAcct a (fun x =>
  { x with m := List.replicate 8 0, sh := List.replicate 8 0, hu := List.replicate 8 0, ov := List.replicate 8 0, rebuilding := false })

theorem acct_doAccountRebuildDone {d : Dev} {a : Nat} (h : (d.acct a).rebuilding = true) {β : Type} (g : Account → β)
    (hg : ∀ x n, g { x with closed := n } = g x) :
    g ((doAccountRebuildDone a d).acct a) = g (((List.range 8).foldl (fun d c => d.recount a c) (d.uncounted a)).acct a) := by
  have htail (d : Dev) (b : Bool) (code : Nat) (who : Who) (source : Option Nat) (data : BitVec 160) :
      ((d.live 0xB08 b).record code who source data).acct a = d.acct a := acct_bpm (by simp) a
  simp only [doAccountRebuildDone, h, Bool.not_true, Bool.false_eq_true, if_false]
  rw [acct_judgeAll g hg, htail]
  rfl

/-! ### The lists of free cells -/

theorem flist_links (d : Dev) (links : Tab (Option (Nat × Bool))) (f : Nat) :
    ({ d with bpm := { d.bpm with links := links } } : Dev).flist f = d.flist f := rfl

theorem flist_pullHead {d : Dev} {f : Nat} (h : (d.flist f).chain ≠ 0) : (d.pullHead f).flist f = { d.flist f with
    head := (d.link (d.flist f).head).1, chain := (d.flist f).chain - 1
    headCache := if d.bpm.retired.contains (d.flist f).head then (d.flist f).headCache
      else (d.flist f).headCache ++ [(d.flist f).head] } := by
  unfold Dev.pullHead
  simp only [h, if_false]
  rw [flist_links, Dev.flist_modList, if_pos rfl]

theorem doFreeListRefill_sound {d : Dev} {list : Nat} {check : Ecc} (hl : list < 16) (hr : (d.flist list).rebuilding = false)
    (hc : check = .clean ∨ check = .corrected) : doFreeListRefill list check d =
      let e := if (d.flist list).headCache.length < 32 then d.pullHead list else d
      if 192 < (e.flist list).retCache.length then e.pushChain list else e := by
  rcases hc with rfl | rfl <;> simp [doFreeListRefill, Nat.not_le.2 hl, hr]

theorem retCache_pullHead (d : Dev) (f : Nat) : ((d.pullHead f).flist f).retCache = (d.flist f).retCache := by
  by_cases h : (d.flist f).chain = 0
  · simp [Dev.pullHead, h]
  · rw [flist_pullHead h]

theorem flist_doFreelistRebuildDone {d : Dev} {list : Nat} (h : (d.flist list).rebuilding = true) :
    (doFreelistRebuildDone list d).flist list =
      { head := (d.freeOf list).headD 0, chain := (d.freeOf list).length, headCache := [], retCache := [], rebuilding := false } := by
  have htail (d : Dev) (b : Bool) (code : Nat) (who : Who) (source : Option Nat) (data : BitVec 160) :
      ((d.live 0xB03 b).record code who source data).flist list = d.flist list := flist_bpm (by simp) list
  simp only [doFreelistRebuildDone, h, Bool.not_true, Bool.false_eq_true, if_false]
  rw [htail, Dev.flist_modList, if_pos rfl]

/-! ### The sweep -/

/-- The sweep stands at the next descriptor. -/
def Dev.sweptOn (d : Dev) : Dev := { d with bpm := { d.bpm with sweepPos := (d.bpm.sweepPos + 1) % 1048576 } }

theorem doOrphanSweepVisit_failed (d : Dev) {check : Ecc} (hc : check = .once ∨ check = .lasting) :
    ∃ lasting, doOrphanSweepVisit check d = d.sweptOn.descError d.bpm.sweepPos lasting := by
  rcases hc with rfl | rfl
  · exact ⟨false, rfl⟩
  · exact ⟨true, rfl⟩

theorem doOrphanSweepVisit_sound {d : Dev} {check : Ecc} (hc : check = .clean ∨ check = .corrected) :
    ∃ e : Dev, e.bpm = { d.bpm with sweepPos := (d.bpm.sweepPos + 1) % 1048576 } ∧ doOrphanSweepVisit check d =
      if !(d.cell d.bpm.sweepPos).held then e
      else if (d.cell d.bpm.sweepPos).confirmed then e.modCell d.bpm.sweepPos (fun y => { y with mark := false })
      else if !(d.cell d.bpm.sweepPos).mark then e.modCell d.bpm.sweepPos (fun y => { y with mark := true })
      else e.reclaim d.bpm.sweepPos := by
  rcases hc with rfl | rfl
  · exact ⟨_, rfl, rfl⟩
  · exact ⟨({ d with bpm := { d.bpm with sweepPos := (d.bpm.sweepPos + 1) % 1048576 } } : Dev).bump .bpmDescCe 0, rfl, rfl⟩

theorem reclaim_effect (d : Dev) (c : Nat) : (d.reclaim c).cell c = {} ∧ (d.reclaim c).bpm.sweepPos = d.bpm.sweepPos ∧
    ((d.reclaim c).src 0xB06).live = true := by
  have hb (d : Dev) (code : Nat) (who : Who) (source : Option Nat) (data : BitVec 160) :
      (((d.bump .orphanFreed 0).liveMs 0xB06).record code who source data).bpm = d.bpm := by simp
  have hf (d : Dev) (code : Nat) (who : Who) (source : Option Nat) (data : BitVec 160) :
      (d.record code who source data).fcr = d.fcr := by simp
  unfold Dev.reclaim
  dsimp only
  refine ⟨?_, ?_, ?_⟩
  · rw [cell_bpm (congrArg Bpm.cells (hb ..)), cell_freeCell]
  · rw [hb]
    exact (tended_freeCell (k := 0xB06) (by decide) (by decide) d c).2.1
  · rw [src_fcr (hf ..)]
    exact liveMs_src_self rfl ..

/-! ### Releases -/

theorem release_held {d : Dev} {party c a : Nat} (hheld : (d.cell c).held = true) (how : (d.cell c).owner = a) :
    (d.release party c a).2 = if (d.cell c).ref ≤ 1 then d.freeCell c else d.modCell c (fun y => { y with ref := y.ref - 1 }) := by
  unfold Dev.release Dev.releaseAs
  simp only [hheld, how, Bool.not_true, Bool.false_eq_true, if_false, ne_eq, not_true_eq_false]
  split <;> rfl

theorem release_free {d : Dev} {party c a : Nat} (hfree : (d.cell c).held = false) : (d.release party c a).2.bpm = d.bpm ∧
    ((d.release party c a).2.src 0xB00).live = true := by
  unfold Dev.release Dev.releaseAs
  simp only [hfree, Bool.not_false, if_true, Bool.false_eq_true, if_false]
  exact ⟨by simp, liveMs_src_self rfl ..⟩

theorem release_foreign {d : Dev} {party c a : Nat} (hheld : (d.cell c).held = true) (how : (d.cell c).owner ≠ a) :
    (d.release party c a).2.bpm = d.bpm ∧ ((d.release party c a).2.src 0xB01).live = true := by
  unfold Dev.release Dev.releaseAs
  simp only [hheld, Bool.not_true, Bool.false_eq_true, if_false, ne_eq, how, not_false_eq_true, if_true]
  exact ⟨by simp, liveMs_src_self rfl ..⟩

/-- A release with a parity error in the account's counters leaves the cells, the lists and the retired cells to the release. -/
theorem doCellRelease_parts (party c a : Nat) (parity : Bool) (d : Dev) :
    (∀ j, (doCellRelease party c a parity d).cell j = (d.release party c a).2.cell j) ∧
    (∀ f, (doCellRelease party c a parity d).flist f = (d.release party c a).2.flist f) ∧
    (doCellRelease party c a parity d).bpm.retired = (d.release party c a).2.bpm.retired ∧
    ∀ k, k ≠ 0xB08 → (doCellRelease party c a parity d).src k = (d.release party c a).2.src k := by
  unfold doCellRelease
  dsimp only
  split
  · exact ⟨cell_counterError _ _, flist_counterError _ _, retired_counterError .., fun k hk => src_counterError hk ..⟩
  · exact ⟨fun _ => rfl, fun _ => rfl, rfl, fun _ _ => rfl⟩

/-- Settles O16, a row at a time. -/
theorem bufferCellsAreReleasedOnce : Obligations.BufferCellsAreReleasedOnce := by
  intro s
  refine ⟨?_, ?_, ?_, ?_, ?_, ?_, ?_, ?_⟩
  · intro party cell acct parity hheld how
    refine ⟨{ s with dev := doCellRelease party cell acct parity s.dev }, rfl, ?_⟩
    dsimp only
    obtain ⟨hcell, hlist, hret, -⟩ := doCellRelease_parts party cell acct parity s.dev
    have hrel := release_held (party := party) hheld how
    refine ⟨?_, ?_, ?_, ?_⟩
    · rintro rfl
      have hdo : doCellRelease party cell acct true s.dev = (s.dev.release party cell acct).2.counterError acct := by
        simp only [doCellRelease, hheld, how, Bool.and_self, if_true]
      rw [hdo]
      exact ⟨rebuilding_counterError .., src_counterError_self ..⟩
    · intro href hcond
      rw [hcell, hlist, hrel, if_pos href]
      exact ⟨cell_freeCell .., flist_freeCell hcond⟩
    · intro href hcond
      rw [hcell, hret, hrel, if_pos href]
      refine ⟨cell_freeCell .., ?_⟩
      rw [freeCell_condemned hcond]
      exact mem_retired_retireCell ..
    · rintro href rfl
      show (s.dev.release party cell acct).2 = _
      rw [hrel, if_neg (by omega)]
  · intro party cell acct parity
    constructor
    · intro hfree
      refine ⟨{ s with dev := doCellRelease party cell acct parity s.dev }, rfl, ?_⟩
      have hdo : doCellRelease party cell acct parity s.dev = (s.dev.release party cell acct).2 := by
        simp only [doCellRelease, hfree, Bool.and_false, Bool.false_eq_true, if_false]
      rw [hdo]
      exact release_free hfree
    · intro hheld how
      refine ⟨{ s with dev := doCellRelease party cell acct parity s.dev }, rfl, ?_⟩
      dsimp only
      obtain ⟨hcell, -, -, hsrc⟩ := doCellRelease_parts party cell acct parity s.dev
      obtain ⟨hbpm, hlive⟩ := release_foreign (party := party) hheld how
      refine ⟨(hcell _).trans (cell_bpm (congrArg Bpm.cells hbpm) _), ?_, by rw [hsrc _ (by decide)]; exact hlive⟩
      rintro rfl
      exact hbpm
  · intro list check hl hr hc
    refine ⟨{ s with dev := doFreeListRefill list check s.dev }, rfl, ?_⟩
    rw [doFreeListRefill_sound hl hr hc]
    dsimp only
    constructor
    · intro hhead hret hchain
      rw [if_pos hhead, if_neg (by rw [retCache_pullHead]; omega), flist_pullHead hchain]
    · intro hhead hret
      have hne : (s.dev.flist list).retCache ≠ [] := fun h => by rw [h] at hret; exact Nat.not_lt_zero _ hret
      rw [if_neg (Nat.not_lt.2 hhead), if_pos hret, flist_pushChain hne]
  · intro list check hl hr hc
    refine ⟨{ s with dev := doFreeListRefill list check s.dev }, rfl, ?_⟩
    have hdo : doFreeListRefill list check s.dev = s.dev.linkError list (decide (check = .lasting)) := by
      rcases hc with rfl | rfl <;> simp [doFreeListRefill, Nat.not_le.2 hl, hr]
    rw [hdo]
    dsimp only
    have hlist : (s.dev.linkError list (decide (check = .lasting))).flist list =
        (s.dev.modList list (fun l => { l with rebuilding := true })).flist list := flist_bpm (by simp [Dev.linkError]) list
    refine ⟨by rw [hlist, Dev.flist_modList, if_pos rfl], ?_, ?_⟩
    · rw [Dev.linkError, Dev.src_modSrc, if_pos rfl]
      exact setLive_src_self rfl ..
    · rw [Dev.linkError, Dev.src_modSrc, if_pos rfl]
  · intro list hr
    exact ⟨_, rfl, flist_doFreelistRebuildDone hr⟩
  · intro acct hr
    refine ⟨{ s with dev := doAccountRebuildDone acct s.dev }, rfl, ?_⟩
    dsimp only
    have hstart : (s.dev.uncounted acct).acct acct = { s.dev.acct acct with
        m := List.replicate 8 0, sh := List.replicate 8 0, hu := List.replicate 8 0, ov := List.replicate 8 0, rebuilding := false } := by
      rw [Dev.uncounted, Dev.acct_modAcct, if_pos rfl]
    obtain ⟨-, -, hreb, hcount⟩ := foldl_recount (d := s.dev.uncounted acct) (a := acct)
      (by rw [hstart]; exact ⟨rfl, rfl, rfl, rfl⟩) 8 le_rfl
    refine ⟨?_, fun c hc => ?_⟩
    · rw [acct_doAccountRebuildDone hr Account.rebuilding (fun _ _ => rfl), hreb, hstart]
    · exact (acct_doAccountRebuildDone hr (fun x => x.counted c) (fun _ _ => rfl)).trans (hcount c hc)
  · intro check hc
    refine ⟨{ s with dev := doOrphanSweepVisit check s.dev }, rfl, ?_⟩
    dsimp only
    obtain ⟨e, he, hdo⟩ := doOrphanSweepVisit_sound (d := s.dev) hc
    have hcell : e.cell s.dev.bpm.sweepPos = s.dev.cell s.dev.bpm.sweepPos := cell_bpm (by rw [he]) _
    have hpos : e.bpm.sweepPos = (s.dev.bpm.sweepPos + 1) % 1048576 := by rw [he]
    rw [hdo]
    refine ⟨?_, ?_, ?_⟩
    · repeat' split
      · exact hpos
      · exact hpos
      · exact hpos
      · exact (reclaim_effect ..).2.1.trans hpos
    · intro hheld hconf
      rw [if_neg (by simp [hheld]), if_pos hconf, Dev.cell_modCell, if_pos rfl, hcell]
    · intro hheld hconf
      rw [if_neg (by simp [hheld]), if_neg (by simp [hconf])]
      constructor
      · intro hmark
        rw [if_pos (by simp [hmark]), Dev.cell_modCell, if_pos rfl, hcell]
      · intro hmark
        rw [if_neg (by simp [hmark])]
        exact ⟨(reclaim_effect ..).1, (reclaim_effect ..).2.2⟩
  · intro check hc
    refine ⟨{ s with dev := doOrphanSweepVisit check s.dev }, rfl, ?_⟩
    obtain ⟨lasting, hdo⟩ := doOrphanSweepVisit_failed s.dev hc
    obtain ⟨hret, hpos, hlive⟩ := descError_effect s.dev.sweptOn s.dev.bpm.sweepPos lasting
    dsimp only
    rw [hdo]
    exact ⟨hpos, hret, hlive⟩

end Sys2Proof.Machine
end

section
/-! PROOFS. Commands on accounts and flow control (10 R325, R326, R327, R328). -/
namespace Sys2Proof.Machine

theorem min_setMin (y : Account) (n : Nat) : (y.setMin n).min = n := by
  have h (l : List Nat) (z : Account) : (l.foldl (fun (x : Account) c =>
      let excess := Nat.min (sumN x.m - n) (x.m.getD c 0)
      { x with m := subAt x.m c excess, sh := addAt x.sh c excess }) z).min = z.min := by
    induction l generalizing z with
    | nil => rfl
    | cons c l ih => exact (ih _).trans rfl
  exact h _ _

/-- A list of which chosen elements are set. -/
theorem getD_foldl_set {l : List Nat} {k v : Nat} : ∀ (cs : List Nat), (∀ c ∈ cs, c < l.length) → (k ∈ cs ∨ l.getD k 0 = v) →
    (cs.foldl (fun l k => l.set k v) l).getD k 0 = v := by
  intro cs
  induction cs generalizing l with
  | nil => exact fun _ h => h.resolve_left (List.not_mem_nil)
  | cons c cs ih =>
    intro hlen h
    have hc := hlen c List.mem_cons_self
    refine ih (fun i hi => by simpa using hlen i (List.mem_cons_of_mem _ hi)) ?_
    rw [getD_set _ _ _ _ _ hc]
    by_cases hck : c = k
    · exact .inr (if_pos hck)
    · rw [if_neg hck]
      exact h.imp_left fun h => (List.mem_cons.1 h).resolve_left (Ne.symm hck)

theorem acct_ok (d : Dev) (c : CmdRef) (r0 r1 detail a : Nat) : (d.ok c r0 r1 detail).acct a = d.acct a := acct_bpm (by simp) a
theorem fcp_ok (d : Dev) (c : CmdRef) (r0 r1 detail p : Nat) : (d.ok c r0 r1 detail).fcp p = d.fcp p := rfl

theorem fcp_fcps {d d' : Dev} (h : d'.fcps = d.fcps) (p : Nat) : d'.fcp p = d.fcp p := by rw [Dev.fcp, h, Dev.fcp]

/-- The watchdog of a port changes what it watches alone. -/
theorem fcp_watch (d : Dev) (p : Nat) : ∃ since storm, (d.watch p).fcp p = { d.fcp p with pausedSince := since, storm := storm } := by
  have hsrc (d : Dev) : (d.pauseSource p).fcp p = d.fcp p := fcp_fcps (by simp) p
  unfold Dev.watch
  rw [hsrc, Dev.fcp_modFcp, if_pos rfl]
  exact ⟨_, _, rfl⟩

/-- There is room for an account's MIN (10 R325). -/
def Dev.minRoom (d : Dev) (a n : Nat) : Bool :=
  if a < 512 then
    match d.lanePolder a with
    | some p => decide (d.polderReserved p + n ≤ (d.polder p).cellMin + (d.acct a).min)
    | none => true
  else decide (d.internalMin + d.cellMins + n ≤ 1048576 + (d.acct a).min)

/-- An account takes the values of a command. -/
def Account.taken (y : Account) (x : Cmd) : Account :=
  { y.setMin (x.fld 20 0 21) with
    max := if x.fld 24 0 21 = 0 then 1048576 else x.fld 24 0 21, alpha := nibbles (x.fld 28 0 32)
    xonDelta := if x.fld 32 0 16 = 0 then 32 else x.fld 32 0 16 }

/-- A port's flow control takes the values of a command. -/
def Fcp.taken (y : Fcp) (x : Cmd) (owed : Bool) : Fcp :=
  { y with
    pauseMode := decide (x.fld 18 0 2 = 1), stormBreak := (x.fld 18 2 1 = 1), defPcp := x.fld 19 0 3
    quanta := if x.fld 20 0 16 = 0 then 65535 else x.fld 20 0 16, stormMs := if x.fld 22 0 16 = 0 then 50 else x.fld 22 0 16
    recoverMs := if x.fld 24 0 16 = 0 then 100 else x.fld 24 0 16, ecnCells := x.fld 26 0 16
    prioMap := (List.range 8).map (fun i => x.fld 28 (3 * i) 3), qmap := (List.range 8).map (fun i => x.fld (32 + 2 * i) 0 16)
    sa := x.fld 52 0 48, owed := owed }

/-- The headroom of the chosen classes takes its goal (10 R327). -/
def acctHeaded (y : Account) (cs : List Nat) (hr : Nat) : Account :=
  { y with
    hr := cs.foldl (fun l k => l.set k (max hr (min (y.hr.getD k 0) (y.hu.getD k 0)))) y.hr
    hrGoal := cs.foldl (fun l k => l.set k hr) y.hrGoal }

/-- There is room in the polder for the headroom that a command asks for. -/
def Dev.headRoom (d : Dev) (p : Nat) (cs : List Nat) (hr : Nat) : Bool :=
  match d.lanePolder p with
  | some q => decide (d.polderReserved q + cs.length * hr ≤ (d.polder q).cellMin + cs.foldl (fun n k => n + (d.acct p).hr.getD k 0) 0)
  | none => true

section
variable {d : Dev} {c : CmdRef} (io : Io) {x : Cmd} (h : d.isRunning c x)
include h

theorem doOpPoolSetSet_port (hop : isOpAct 0x60 (18, 0, 2) 0 x = true) (hport : x.fld 16 0 10 < 512 → d.isPort (x.fld 16 0 10) = true) :
    doOpPoolSetSet c io d = if !d.minRoom (x.fld 16 0 10) (x.fld 20 0 21) then d.fail c stNoRoom
      else ((d.modAcct (x.fld 16 0 10) (fun y => y.taken x)).judgeAll).ok c :=
  (step1_run h hop).trans (if_neg fun hn => by simp [hport hn.1] at hn)

theorem doOpPoolSetRead_port (hop : isOpAct 0x60 (18, 0, 2) 1 x = true) (hport : x.fld 16 0 10 < 512 → d.isPort (x.fld 16 0 10) = true) :
    doOpPoolSetRead c io d = d.ok c
      (pack [(0, 21, (d.acct (x.fld 16 0 10)).held), (21, 21, sumN (d.acct (x.fld 16 0 10)).m), (42, 21, sumN (d.acct (x.fld 16 0 10)).sh)])
      (pack [(0, 21, sumN (d.acct (x.fld 16 0 10)).hu), (21, 8, (d.acct (x.fld 16 0 10)).closed),
        (29, 8, (List.range 8).foldl (fun m i => if 0 < (d.acct (x.fld 16 0 10)).ov.getD i 0 then m + 2 ^ i else m) 0),
        (37, 21, d.freeShared)]) :=
  (step1_run h hop).trans (if_neg fun hn => by simp [hport hn.1] at hn)

theorem doOpHeadroomSet_room (hop : isOp 0x61 x = true) (hport : d.isPort (x.fld 16 0 10) = true)
    (hlr : x.fld 20 0 16 < 2048 → ∀ k, (d.lrq (x.fld 16 0 10) k).mib = 0)
    (hroom : d.headRoom (x.fld 16 0 10) (setBits (x.fld 18 0 8) 8) (x.fld 20 0 16) = true) : doOpHeadroomSet c io d =
      ((d.modAcct (x.fld 16 0 10) (fun y => acctHeaded y (setBits (x.fld 18 0 8) 8) (x.fld 20 0 16))).judgeAll).ok c
        (sumN (((d.modAcct (x.fld 16 0 10) (fun y => acctHeaded y (setBits (x.fld 18 0 8) 8) (x.fld 20 0 16))).judgeAll).acct
          (x.fld 16 0 10)).hr) := by
  refine (step1_run h hop).trans ((if_neg (by simp [hport])).trans ((if_neg ?_).trans (if_neg fun hn => ?_)))
  · rintro ⟨hlow, hany⟩
    simp [hlr hlow] at hany
  · replace hn : (!d.headRoom (x.fld 16 0 10) (setBits (x.fld 18 0 8) 8) (x.fld 20 0 16)) = true := hn
    rw [hroom] at hn
    cases hn

theorem doOpPfcSet_port (hop : isOp 0x63 x = true) (hport : d.isPort (x.fld 16 0 10) = true) : ∃ (e : Dev) (owed : Bool), e.hif = d.hif ∧
    doOpPfcSet c io d = ((e.modFcp (x.fld 16 0 10) (fun y => y.taken x (y.owed || (owed && decide (y.xoff ≠ 0))))).watch
      (x.fld 16 0 10)).ok c := by
  refine ⟨if decide (decide (x.fld 18 0 2 = 1) ≠ (d.fcp (x.fld 16 0 10)).pauseMode) then d.xonAll (x.fld 16 0 10) else d,
    decide (decide (x.fld 18 0 2 = 1) ≠ (d.fcp (x.fld 16 0 10)).pauseMode), ?_, ?_⟩
  · split <;> simp
  · exact (step1_run h hop).trans (if_neg (by simp [hport]))

end

/-- Settles O17, a command at a time. -/
theorem bufferCommandsComplete : Obligations.BufferCommandsComplete := by
  intro s c io x h
  refine ⟨?_, ?_, ?_, ?_, ?_, ?_⟩
  · rintro a hop rfl hport
    refine ⟨{ s with dev := doOpPoolSetSet c io s.dev }, rfl, ?_⟩
    rw [doOpPoolSetSet_port io h hop hport]
    constructor
    · intro hpol hint
      have hroom : s.dev.minRoom (x.fld 16 0 10) (x.fld 20 0 21) = true := by
        unfold Dev.minRoom
        split
        · rename_i hlt
          split
          · rename_i p hp
            exact decide_eq_true (hpol p hlt hp)
          · rfl
        · rename_i hge
          exact decide_eq_true (hint (Nat.not_lt.1 hge))
      rw [hroom]
      have hacct (a : Nat) {β : Type} (g : Account → β) (hg : ∀ x n, g { x with closed := n } = g x) :
          g ((((s.dev.modAcct a (fun y => y.taken x)).judgeAll).ok c).acct a) = g ((s.dev.acct a).taken x) := by
        rw [acct_ok, acct_judgeAll g hg, Dev.acct_modAcct, if_pos rfl]
      refine ⟨ok_ended (isRunning_congr (by simp) h), ?_, ?_, ?_, ?_⟩
      · exact (hacct _ Account.min (fun _ _ => rfl)).trans (min_setMin (s.dev.acct (x.fld 16 0 10)) (x.fld 20 0 21))
      · exact hacct _ Account.max (fun _ _ => rfl)
      · exact hacct _ Account.alpha (fun _ _ => rfl)
      · exact hacct _ Account.xonDelta (fun _ _ => rfl)
    · intro p hlt hp hno
      have hroom : s.dev.minRoom (x.fld 16 0 10) (x.fld 20 0 21) = false := by
        simp only [Dev.minRoom, hlt, if_true, hp, decide_eq_false_iff_not]
        omega
      rw [hroom]
      exact ⟨fail_ended h, by simp⟩
  · rintro a hop rfl hport
    refine ⟨{ s with dev := doOpPoolSetRead c io s.dev }, rfl, ?_⟩
    rw [doOpPoolSetRead_port io h hop fun hlt => hport.resolve_left (by omega)]
    exact ok_ended h
  · rintro y hop rfl
    refine ⟨{ s with dev := doOpPoolSetRelease c io s.dev }, rfl, ?_⟩
    rw [show doOpPoolSetRelease c io s.dev = _ from step1_run h hop]
    dsimp only
    have hif (d : Dev) : (d.releaseAs true (partyHost c.ep) (x.fld 36 0 20) (x.fld 16 0 10)).2.hif = d.hif := by simp
    refine ⟨fun hheld how href => ?_, fun hfree => ?_, fun hheld how => ?_⟩
    · obtain ⟨e, he, hrel⟩ : ∃ e : Dev, e.hif = s.dev.hif ∧ s.dev.releaseAs true (partyHost c.ep) (x.fld 36 0 20) (x.fld 16 0 10) =
          (.done ((s.dev.cell (x.fld 36 0 20)).ref - 1), e) := by
        refine ⟨_, hif s.dev, ?_⟩
        simp only [Dev.releaseAs, hheld, how, Bool.not_true, Bool.false_eq_true, if_false, ne_eq, not_true_eq_false]
        split
        · rename_i hle
          rw [show (s.dev.cell (x.fld 36 0 20)).ref - 1 = 0 by omega]
        · rfl
      rw [hrel]
      exact ok_ended (isRunning_congr he h)
    · obtain ⟨data, hrel⟩ : ∃ data, s.dev.releaseAs true (partyHost c.ep) (x.fld 36 0 20) (x.fld 16 0 10) =
          (.double, s.dev.record Ev.doubleFree .shared none data) := by
        simp only [Dev.releaseAs, hfree, Bool.not_false, if_true]
        exact ⟨_, rfl⟩
      rw [hrel]
      exact ⟨fail_ended (isRunning_congr (by simp) h), by simp⟩
    · obtain ⟨data, hrel⟩ : ∃ data, s.dev.releaseAs true (partyHost c.ep) (x.fld 36 0 20) (x.fld 16 0 10) =
          (.foreign, s.dev.record Ev.foreignFree .shared none data) := by
        simp only [Dev.releaseAs, hheld, how, Bool.not_true, Bool.false_eq_true, if_false, ne_eq, not_false_eq_true, if_true]
        exact ⟨_, rfl⟩
      rw [hrel]
      exact ⟨fail_ended (isRunning_congr (by simp) h), by simp⟩
  · intro hop hport hlr hroom hlen
    refine ⟨{ s with dev := doOpHeadroomSet c io s.dev }, rfl, ?_⟩
    rw [doOpHeadroomSet_room io h hop hport hlr]
    · dsimp only
      rw [acct_ok]
      refine ⟨ok_ended (isRunning_congr (by simp) h), fun k hk hb => ?_⟩
      rw [acct_judgeAll Account.hrGoal (fun _ _ => rfl), Dev.acct_modAcct, if_pos rfl]
      exact getD_foldl_set _ (fun i hi => hlen ▸ (mem_setBits.1 hi).1) (.inl (mem_setBits.2 ⟨hk, hb⟩))
    · unfold Dev.headRoom
      split
      · rename_i q hq
        exact decide_eq_true (hroom q hq)
      · rfl
  · rintro p hop rfl hport
    refine ⟨{ s with dev := doOpPfcSet c io s.dev }, rfl, ?_⟩
    obtain ⟨e, owed, he, hdo⟩ := doOpPfcSet_port io h hop hport
    obtain ⟨since, storm, hfcp⟩ := fcp_watch (e.modFcp (x.fld 16 0 10) (fun y => y.taken x (y.owed || (owed && decide (y.xoff ≠ 0))))) (x.fld 16 0 10)
    rw [hdo]
    dsimp only
    rw [fcp_ok, hfcp, Dev.fcp_modFcp, if_pos rfl]
    exact ⟨ok_ended (isRunning_congr (by simp [he]) h), rfl, rfl, rfl, rfl, rfl, rfl, rfl, rfl, rfl, rfl⟩
  · intro hlt hno
    refine ⟨fun hop => ⟨{ s with dev := doOpPoolSetSet c io s.dev }, rfl, ?_⟩,
      fun hop => ⟨{ s with dev := doOpPoolSetRead c io s.dev }, rfl, ?_⟩,
      fun hop => ⟨{ s with dev := doOpHeadroomSet c io s.dev }, rfl, ?_⟩,
      fun hop => ⟨{ s with dev := doOpPfcSet c io s.dev }, rfl, ?_⟩⟩
    · rw [show doOpPoolSetSet c io s.dev = s.dev.fail c stNotFound from (step1_run h hop).trans (if_pos ⟨hlt, by simp [hno]⟩)]
      exact fail_ended h
    · rw [show doOpPoolSetRead c io s.dev = s.dev.fail c stNotFound from (step1_run h hop).trans (if_pos ⟨hlt, by simp [hno]⟩)]
      exact fail_ended h
    · rw [show doOpHeadroomSet c io s.dev = s.dev.fail c stNotFound from (step1_run h hop).trans (if_pos (by simp [hno]))]
      exact fail_ended h
    · rw [show doOpPfcSet c io s.dev = s.dev.fail c stNotFound from (step1_run h hop).trans (if_pos (by simp [hno]))]
      exact fail_ended h

end Sys2Proof.Machine
end

section
/-! PROOFS. Pause frames and the watchdog (10 R307 to R311, R318, R319). -/
namespace Sys2Proof.Machine

/-! ### The bits of XOFF -/

theorem testBit_add_pow_of_clear {n c : Nat} (h : n.testBit c = false) (k : Nat) :
    (n + 2 ^ c).testBit k = if k = c then true else n.testBit k := by
  induction c generalizing n k with
  | zero =>
    have hn : n % 2 = 0 := by simpa [Nat.testBit_zero] using h
    cases k with
    | zero => simp only [Nat.testBit_zero]; simp; omega
    | succ k => simp only [Nat.testBit_succ, Nat.pow_zero, show (n + 1) / 2 = n / 2 by omega]; simp
  | succ c ih =>
    rw [Nat.testBit_succ] at h
    have hdiv : (n + 2 ^ (c + 1)) / 2 = n / 2 + 2 ^ c := by omega
    cases k with
    | zero => simp only [Nat.testBit_zero, show (n + 2 ^ (c + 1)) % 2 = n % 2 by omega]; simp
    | succ k => simp only [Nat.testBit_succ, hdiv, ih h, Nat.add_right_cancel_iff]

theorem testBit_sub_pow_of_set {n c : Nat} (h : n.testBit c = true) (k : Nat) :
    (n - 2 ^ c).testBit k = if k = c then false else n.testBit k := by
  induction c generalizing n k with
  | zero =>
    have hn : n % 2 = 1 := by simpa [Nat.testBit_zero] using h
    cases k with
    | zero => simp only [Nat.testBit_zero]; simp; omega
    | succ k => simp only [Nat.testBit_succ, Nat.pow_zero, show (n - 1) / 2 = n / 2 by omega]; simp
  | succ c ih =>
    have hge := Nat.ge_two_pow_of_testBit h
    rw [Nat.testBit_succ] at h
    have hdiv : (n - 2 ^ (c + 1)) / 2 = n / 2 - 2 ^ c := by omega
    cases k with
    | zero => simp only [Nat.testBit_zero, show (n - 2 ^ (c + 1)) % 2 = n % 2 by omega]; simp
    | succ k => simp only [Nat.testBit_succ, hdiv, ih h, Nat.add_right_cancel_iff]

/-! ### Counters of other kinds -/

/-- A counter stands where one of another kind and a small index rises. -/
theorem ctr_bump_ne {a b : Ctr} {i j : Nat} (hne : a.ctorIdx ≠ b.ctorIdx) (hi : i < 2 ^ 32) (hj : j < 2 ^ 32) (d : Dev) (n : Nat) :
    (d.bump a i n).ctr b j = d.ctr b j := tget_tset_ne _ _ _ _ fun h => hne (ctorIdx_of_ctrKey hi hj h)

theorem ctr_countMacControl {b : Ctr} {p j : Nat} {named : List Nat} (hb : Ctr.pfcRx.ctorIdx ≠ b.ctorIdx) (hp : p < 512) (hj : j < 2 ^ 32)
    (hn : ∀ c ∈ named, c < 8) (d : Dev) : (d.countMacControl p named).ctr b j = d.ctr b j := by
  have hfold : ∀ (l : List Nat), (∀ c ∈ l, c < 8) → ∀ d : Dev, (l.foldl (fun d c => d.bump .pfcRx (8 * p + c)) d).ctr b j = d.ctr b j := by
    intro l
    induction l with
    | nil => exact fun _ _ => rfl
    | cons c l ih =>
      intro hl d
      have hc := hl c List.mem_cons_self
      exact (ih (fun i hi => hl i (List.mem_cons_of_mem _ hi)) _).trans (ctr_bump_ne hb (by omega) hj ..)
  unfold Dev.countMacControl
  split
  · exact hfold [0] (by simp) d
  · exact hfold named hn d

theorem fcps_countMacControl (d : Dev) (p : Nat) (named : List Nat) : (d.countMacControl p named).fcps = d.fcps := by simp
theorem bal_countMacControl (d : Dev) (p : Nat) (named : List Nat) : (d.countMacControl p named).bal = d.bal := by simp
theorem pte_countMacControl (d : Dev) (p : Nat) (named : List Nat) : (d.countMacControl p named).pte = d.pte := by simp

/-! ### Frames that go out -/

theorem fcp_emit (d : Dev) (o : Out) (p : Nat) : (d.emit o).fcp p = d.fcp p := rfl

theorem sendPause_out {d : Dev} {p : Nat} (hloop : d.loopKind p = 0) (named on : Nat) :
    (d.sendPause p named on).out = .frame p ((d.fcp p).frame named on) :: d.out ∧
    ((d.sendPause p named on).fcp p).owed = false ∧ ((d.sendPause p named on).fcp p).sent = on ∧ (d.sendPause p named on).bal = d.bal := by
  have hbump (l : List Nat) : (l.foldl (fun d c => d.bump .pfcTx (8 * p + c)) d).out = d.out ∧
      (l.foldl (fun d c => d.bump .pfcTx (8 * p + c)) d).bal = d.bal := by simp
  unfold Dev.sendPause
  dsimp only
  obtain ⟨hout, hbal⟩ := hbump (setBits (if (d.fcp p).pauseMode then 1 else named) 8)
  generalize (setBits (if (d.fcp p).pauseMode then 1 else named) 8).foldl (fun d c => d.bump .pfcTx (8 * p + c)) d = e at hout hbal
  rw [Dev.wireOut, if_pos (by rw [loopKind_bal hbal.symm] at hloop; exact hloop)]
  refine ⟨congrArg _ hout, ?_, ?_, hbal⟩
  · rw [fcp_emit, Dev.fcp_modFcp, if_pos rfl]
  · rw [fcp_emit, Dev.fcp_modFcp, if_pos rfl]

/-! ### Timers -/

theorem mem_timers_load_ne {c k : Nat} (h : c ≠ k) (x : Fcp) (now t : Nat) {u : Nat × Nat} (hu : u.1 = k) :
    u ∈ (x.load c now t).timers ↔ u ∈ x.timers := by
  have hne : u.1 ≠ c := fun he => h (he.symm.trans hu)
  have hpair (v : Nat) : u ≠ (c, v) := fun he => hne (congrArg Prod.fst he)
  unfold Fcp.load
  dsimp only
  split <;> simp [hne, hpair]

theorem mem_timers_load_self {c now t : Nat} (x : Fcp) : (t ≠ 0 → (c, now + t) ∈ (x.load c now t).timers) ∧
    (t = 0 → ∀ u ∈ (x.load c now t).timers, u.1 ≠ c) := by
  constructor
  · intro ht
    simp [Fcp.load, ht]
  · rintro rfl u hu
    simp only [Fcp.load, if_true, List.mem_filter, decide_eq_true_eq] at hu
    exact hu.2

section
variable (ticks : Nat → Nat) (now : Nat)

theorem mem_timers_foldl_load_ne {k : Nat} {u : Nat × Nat} (hu : u.1 = k) (l : List Nat) (hk : k ∉ l) (x : Fcp) :
    u ∈ (l.foldl (fun x c => x.load c now (ticks c)) x).timers ↔ u ∈ x.timers := by
  induction l generalizing x with
  | nil => rfl
  | cons c l ih =>
    obtain ⟨hck, hkl⟩ := not_or.1 (mt List.mem_cons.2 hk)
    exact (ih hkl _).trans (mem_timers_load_ne (Ne.symm hck) x now _ hu)

/-- Each of several classes is loaded once. -/
theorem mem_timers_foldl_load {k : Nat} (l : List Nat) (hl : l.Nodup) (hk : k ∈ l) (x : Fcp) :
    (ticks k ≠ 0 → (k, now + ticks k) ∈ (l.foldl (fun x c => x.load c now (ticks c)) x).timers) ∧
    (ticks k = 0 → ∀ u ∈ (l.foldl (fun x c => x.load c now (ticks c)) x).timers, u.1 ≠ k) := by
  induction l generalizing x with
  | nil => cases hk
  | cons c l ih =>
    obtain ⟨hcl, hnd⟩ := List.nodup_cons.1 hl
    rcases List.mem_cons.1 hk with rfl | hkl
    · obtain ⟨hload, hend⟩ := mem_timers_load_self (c := k) (now := now) (t := ticks k) x
      refine ⟨fun ht => (mem_timers_foldl_load_ne ticks now rfl l hcl _).2 (hload ht), fun ht u hu huk => ?_⟩
      exact hend ht u ((mem_timers_foldl_load_ne ticks now huk l hcl _).1 hu) huk
    · exact ih hnd hkl _

end

theorem nodup_setBits (n k : Nat) : (setBits n k).Nodup := List.nodup_range.filter _

theorem timers_watch (d : Dev) (p : Nat) : ((d.watch p).fcp p).timers = (d.fcp p).timers := by
  obtain ⟨_, _, h⟩ := fcp_watch d p
  rw [h]

theorem breaks_watch (d : Dev) (p : Nat) : ((d.watch p).fcp p).breaks = (d.fcp p).breaks := by
  obtain ⟨_, _, h⟩ := fcp_watch d p
  rw [h]

theorem ignored_watch (d : Dev) (p c : Nat) : ((d.watch p).fcp p).ignored c = (d.fcp p).ignored c := by
  obtain ⟨_, _, h⟩ := fcp_watch d p
  rw [h]
  rfl

theorem bal_watch (d : Dev) (p : Nat) : (d.watch p).bal = d.bal := by simp
theorem fcps_pauseEvent (d : Dev) (code p q : Nat) (classes : List Nat) (src : Option Nat) :
    (d.pauseEvent code p q classes src).fcps = d.fcps := by simp [Dev.pauseEvent]
theorem bal_pauseEvent (d : Dev) (code p q : Nat) (classes : List Nat) (src : Option Nat) :
    (d.pauseEvent code p q classes src).bal = d.bal := by simp [Dev.pauseEvent]
theorem fcr_pauseEvent (d : Dev) (code p q : Nat) (classes : List Nat) (src : Option Nat) :
    (d.pauseEvent code p q classes src).fcr = d.fcr := by simp [Dev.pauseEvent]
theorem fcps_pauseSource (d : Dev) (p : Nat) : (d.pauseSource p).fcps = d.fcps := by simp
theorem bal_pauseSource (d : Dev) (p : Nat) : (d.pauseSource p).bal = d.bal := by simp

/-! ### Rows -/

/-- A received PFC frame is counted, and counted as ignored where a break makes it so. -/
def Dev.pfcSeen (d : Dev) (p vector : Nat) : Dev :=
  let e := d.countMacControl p (setBits vector 8)
  if ((setBits vector 8).filter (e.fcp p).ignored).isEmpty then e else e.bump .pauseRxIgnored p

theorem pfcSeen_parts (d : Dev) (p vector : Nat) : (d.pfcSeen p vector).fcps = d.fcps ∧ (d.pfcSeen p vector).bal = d.bal ∧
    (d.pfcSeen p vector).pte = d.pte := by
  unfold Dev.pfcSeen
  dsimp only
  split <;> simp

theorem macRate_pte {d d' : Dev} (h : d'.pte = d.pte) (p : Nat) : d'.macRate p = d.macRate p := by
  have hport : d'.port p = d.port p := by rw [Dev.port, h, Dev.port]
  have hoctal : d'.octal (p / 8) = d.octal (p / 8) := by rw [Dev.octal, h, Dev.octal]
  rw [Dev.macRate, hport, hoctal, Dev.macRate]

/-- The timers of the classes that a PFC frame names and no break holds are loaded. -/
def Dev.pfcLoaded (d : Dev) (p vector : Nat) (times : List Nat) (x : Fcp) : Fcp :=
  ((setBits vector 8).filter (fun c => !((setBits vector 8).filter (d.fcp p).ignored).contains c)).foldl
    (fun x c => x.load c d.bal.tick (quantaTicks (times.getD c 0) (d.macRate p))) x

theorem doPfcFrameReceive_pfc {d : Dev} {p vector : Nat} {times : List Nat} (hport : d.isPort p = true) (hmode : (d.fcp p).pauseMode = false) :
    doPfcFrameReceive p vector times d = ((d.pfcSeen p vector).modFcp p (d.pfcLoaded p vector times)).watch p := by
  have hcount : (d.countMacControl p (setBits vector 8)).fcp p = d.fcp p := fcp_fcps (fcps_countMacControl ..) p
  obtain ⟨-, hbal, hpte⟩ := pfcSeen_parts d p vector
  have hloaded : d.pfcLoaded p vector times = fun x => ((setBits vector 8).filter (fun c => !((setBits vector 8).filter
      ((d.countMacControl p (setBits vector 8)).fcp p).ignored).contains c)).foldl (fun x c => x.load c (d.pfcSeen p vector).bal.tick
        (quantaTicks (times.getD c 0) ((d.pfcSeen p vector).macRate p))) x := by
    rw [hcount, hbal, macRate_pte hpte]
    rfl
  rw [hloaded]
  unfold doPfcFrameReceive
  rw [if_neg (by simp [hport]), if_neg (by rw [hcount, hmode]; decide)]
  rfl

theorem timers_doPfcFrameReceive {d : Dev} {p vector : Nat} {times : List Nat} (hport : d.isPort p = true)
    (hmode : (d.fcp p).pauseMode = false) {k : Nat} (hk : k < 8) (hb : vector.testBit k = true) (hig : (d.fcp p).ignored k = false) :
    (quantaTicks (times.getD k 0) (d.macRate p) ≠ 0 →
      (k, d.bal.tick + quantaTicks (times.getD k 0) (d.macRate p)) ∈ ((doPfcFrameReceive p vector times d).fcp p).timers) ∧
    (quantaTicks (times.getD k 0) (d.macRate p) = 0 → ∀ u ∈ ((doPfcFrameReceive p vector times d).fcp p).timers, u.1 ≠ k) := by
  rw [doPfcFrameReceive_pfc hport hmode, timers_watch, Dev.fcp_modFcp, if_pos rfl, Dev.pfcLoaded]
  refine mem_timers_foldl_load (fun c => quantaTicks (times.getD c 0) (d.macRate p)) _ _ ((nodup_setBits ..).filter _) ?_ _
  simp [mem_setBits, hk, hb, hig]

theorem doPauseFrameReceive_pause {d : Dev} {p time : Nat} (hport : d.isPort p = true) (hmode : (d.fcp p).pauseMode = true)
    (hig : (d.fcp p).ignored 8 = false) : doPauseFrameReceive p time d = ((d.countMacControl p []).modFcp p (fun x =>
      x.load 8 d.bal.tick (quantaTicks time (d.macRate p)))).watch p := by
  have hcount : (d.countMacControl p []).fcp p = d.fcp p := fcp_fcps (fcps_countMacControl ..) p
  rw [← bal_countMacControl d p [], ← macRate_pte (pte_countMacControl d p [])]
  unfold doPauseFrameReceive
  rw [if_neg (by simp [hport]), if_neg (by rw [hcount, hmode, hig]; decide)]

/-- A queue is in storm, and a record tells of it (10 R318). -/
def Dev.stormed (d : Dev) (p q : Nat) : Dev :=
  ((d.modFcp p (fun x => { x with storm := x.storm ++ [q] })).pauseSource p).pauseEvent Ev.pauseStorm p q ((d.fcp p).holders q)
    (some (0x300 + p))

theorem fcp_stormed (d : Dev) (p q : Nat) : (d.stormed p q).fcp p = { d.fcp p with storm := (d.fcp p).storm ++ [q] } := by
  rw [Dev.stormed, fcp_fcps (fcps_pauseEvent ..), fcp_fcps (fcps_pauseSource ..), Dev.fcp_modFcp, if_pos rfl]

theorem bal_stormed (d : Dev) (p q : Nat) : (d.stormed p q).bal = d.bal := by
  rw [Dev.stormed, bal_pauseEvent, bal_pauseSource]
  rfl

theorem defaultSeverity_portPause {p : Nat} (hp : p < 512) : (defaultSeverity (0x300 + p)).isSome = true := by
  unfold defaultSeverity
  dsimp only
  rw [if_neg (by omega), if_neg (by omega), if_neg (by omega), if_neg (by omega), if_pos (by omega)]
  rfl

theorem src_stormed {p : Nat} (hp : p < 512) (d : Dev) (q : Nat) : ((d.stormed p q).src (0x300 + p)).live = true := by
  rw [Dev.stormed, src_fcr (fcr_pauseEvent ..)]
  unfold Dev.pauseSource
  dsimp only
  rw [if_pos (by rw [Dev.fcp_modFcp, if_pos rfl]; simp)]
  exact setLive_src_self (defaultSeverity_portPause hp) ..

/-- The pauses of a queue in storm are broken off (10 R319). -/
def Dev.broken (d : Dev) (p q : Nat) : Dev :=
  d.modFcp p (fun x =>
    let x := { x with breaks := x.breaks ++ [(q, d.bal.tick + msTicks x.recoverMs)] }
    { x with timers := x.timers.filter (fun t => !x.ignored t.1) })

theorem doPauseStorm_due {d : Dev} {p q since : Nat} (hs : tget (d.fcp p).pausedSince none q = some since)
    (hq : (d.fcp p).storm.contains q = false) : doPauseStorm p q d =
      if !(d.fcp p).stormBreak then (d.reach (since + msTicks (d.fcp p).stormMs)).stormed p q
      else ((((d.reach (since + msTicks (d.fcp p).stormMs)).stormed p q).broken p q).watch p).pauseEvent Ev.pauseBreak p q
        (((d.reach (since + msTicks (d.fcp p).stormMs)).fcp p).holders q) none := by
  unfold doPauseStorm
  simp only [hs, hq, Bool.false_eq_true, if_false]
  rfl

/-- Settles O18, a row at a time. -/
theorem pauseFollowsItsFramesAndTimers : Obligations.PauseFollowsItsFramesAndTimers := by
  intro s p hp
  refine ⟨?_, ?_, ?_, ?_, ?_, ?_, ?_, ?_, ?_⟩
  · intro cls hport hcls
    refine ⟨{ s with dev := doHoldBusNotice p cls s.dev }, rfl, ?_⟩
    dsimp only
    have hguard : ¬((!s.dev.isPort p) = true ∨ 8 ≤ cls) := by simp [hport, hcls]
    simp only [doHoldBusNotice, if_neg hguard]
    by_cases hw : (s.dev.fcp p).xoff.testBit cls = s.dev.wantXoff p cls
    · rw [if_pos hw]
      exact ⟨hw, fun h => absurd hw h, fun _ _ => rfl⟩
    · rw [if_neg hw]
      have hfcp (f : Fcp → Fcp) : ((s.dev.modFcp p f).touch (p / 32)).fcp p = f (s.dev.fcp p) := by
        rw [fcp_fcps (d := s.dev.modFcp p f) (by simp), Dev.fcp_modFcp, if_pos rfl]
      rw [hfcp]
      cases hwant : s.dev.wantXoff p cls with
      | true =>
        have hbits := testBit_add_pow_of_clear (n := (s.dev.fcp p).xoff) (c := cls) (by simpa [hwant] using hw)
        exact ⟨by simp [hbits], fun _ => rfl, fun k hk => by simp [hbits, hk]⟩
      | false =>
        have hbits := testBit_sub_pow_of_set (n := (s.dev.fcp p).xoff) (c := cls) (by simpa [hwant] using hw)
        exact ⟨by simp [hbits], fun _ => rfl, fun k hk => by simp [hbits, hk]⟩
  · intro hport howed hup hloop
    refine ⟨{ s with dev := doPfcFrameSend p s.dev }, rfl, ?_⟩
    have hdo : doPfcFrameSend p s.dev = s.dev.sendPause p ((s.dev.fcp p).xoff ||| (s.dev.fcp p).sent) (s.dev.fcp p).xoff := by
      simp only [doPfcFrameSend, hport, howed, hup, decide_true, Bool.and_self, if_true]
    obtain ⟨hout, ho, hsent, -⟩ := sendPause_out hloop ((s.dev.fcp p).xoff ||| (s.dev.fcp p).sent) (s.dev.fcp p).xoff
    dsimp only
    rw [hdo]
    exact ⟨ho, hsent, hout⟩
  · intro hport hsent0 hxoff hup hloop
    refine ⟨{ s with dev := doPfcRefresh p s.dev }, rfl, ?_⟩
    have hdo : doPfcRefresh p s.dev = (s.dev.reach (s.dev.fcp p).nextRefresh).sendPause p
        ((s.dev.fcp p).xoff ||| (s.dev.fcp p).sent) (s.dev.fcp p).xoff := by
      simp only [doPfcRefresh, hport, hsent0, hxoff, hup, ne_eq, not_false_eq_true, and_self, decide_true, Bool.and_self, if_true]
    obtain ⟨hout, ho, hsent, hbal⟩ := sendPause_out (d := s.dev.reach (s.dev.fcp p).nextRefresh) hloop
      ((s.dev.fcp p).xoff ||| (s.dev.fcp p).sent) (s.dev.fcp p).xoff
    dsimp only
    rw [hdo]
    exact ⟨by rw [hbal]; exact tick_reach .., hsent, ho, hout⟩
  · intro vector times hport
    refine ⟨{ s with dev := doPfcFrameReceive p vector times s.dev }, rfl, ?_, fun hmode k hk hb hig =>
      timers_doPfcFrameReceive hport hmode hk hb hig⟩
    intro hmode
    have hcount : (s.dev.countMacControl p (setBits vector 8)).fcp p = s.dev.fcp p := fcp_fcps (fcps_countMacControl ..) p
    have hdo : doPfcFrameReceive p vector times s.dev = (s.dev.countMacControl p (setBits vector 8)).bump .pauseRxIgnored p := by
      unfold doPfcFrameReceive
      rw [if_neg (by simp [hport]), if_pos (by rw [hcount, hmode])]
    dsimp only
    rw [hdo, ctr_bump, ctr_countMacControl (by decide) hp (by omega) fun c hc => (mem_setBits.1 hc).1]
    exact ⟨fcps_countMacControl .., rfl⟩
  · intro time hport
    refine ⟨{ s with dev := doPauseFrameReceive p time s.dev }, rfl, ?_, ?_⟩
    · intro hmode hig ht
      dsimp only
      rw [doPauseFrameReceive_pause hport hmode hig, timers_watch, Dev.fcp_modFcp, if_pos rfl]
      exact (mem_timers_load_self _).1 ht
    · intro hmode
      have hcount : (s.dev.countMacControl p []).fcp p = s.dev.fcp p := fcp_fcps (fcps_countMacControl ..) p
      have hdo : doPauseFrameReceive p time s.dev = (s.dev.countMacControl p []).bump .pauseRxIgnored p := by
        unfold doPauseFrameReceive
        rw [if_neg (by simp [hport]), if_pos (by rw [hcount, hmode]; rfl)]
      dsimp only
      rw [hdo, ctr_bump, ctr_countMacControl (by decide) hp (by omega) (by simp)]
      exact ⟨fcps_countMacControl .., rfl⟩
  · intro opcode hport h1 h2
    refine ⟨{ s with dev := doMacControlReceive p opcode s.dev }, rfl, ?_⟩
    have hdo : doMacControlReceive p opcode s.dev = (s.dev.countMacControl p []).bump .drMacControl p := by
      simp only [doMacControlReceive, hport, h1, h2, ne_eq, not_false_eq_true, and_self, decide_true, Bool.and_self, if_true]
    dsimp only
    rw [hdo, ctr_bump, ctr_countMacControl (by decide) hp (by omega) (by simp)]
  · intro cls u hu
    refine ⟨{ s with dev := doPauseTimerExpiry p cls s.dev }, rfl, ?_⟩
    have hdo : doPauseTimerExpiry p cls s.dev = (((s.dev.reach u.2).modFcp p (fun x =>
        { x with timers := x.timers.filter (fun u => decide (u.1 ≠ cls)) })).touch (p / 32)).watch p := by
      simp only [doPauseTimerExpiry, hu]
    have htouch (d : Dev) : (d.touch (p / 32)).fcps = d.fcps ∧ (d.touch (p / 32)).bal = d.bal := by simp
    dsimp only
    rw [hdo, timers_watch, fcp_fcps (htouch _).1, Dev.fcp_modFcp, if_pos rfl, bal_watch, (htouch _).2]
    exact ⟨fun w hw => by simpa using (List.mem_filter.1 hw).2, tick_reach ..⟩
  · intro q since hs hq
    refine ⟨{ s with dev := doPauseStorm p q s.dev }, rfl, ?_⟩
    dsimp only
    rw [doPauseStorm_due hs hq]
    obtain ⟨d, hd⟩ : ∃ d, d = s.dev.reach (since + msTicks (s.dev.fcp p).stormMs) := ⟨_, rfl⟩
    have hfcp : d.fcp p = s.dev.fcp p := by rw [hd]; rfl
    have htick : since + 25000 * (s.dev.fcp p).stormMs ≤ d.bal.tick := by rw [hd]; exact tick_reach ..
    rw [← hd]
    cases hbrk : (s.dev.fcp p).stormBreak with
    | false =>
      refine ⟨?_, fun _ => ⟨?_, src_stormed hp d q⟩, fun h => by cases h⟩
      · simp only [Bool.not_false, if_true, bal_stormed]
        exact htick
      · simp [fcp_stormed]
    | true =>
      have hbal : (((((d.stormed p q).broken p q).watch p).pauseEvent Ev.pauseBreak p q ((d.fcp p).holders q) none)).bal = d.bal := by
        rw [bal_pauseEvent, bal_watch]
        exact bal_stormed ..
      have hfin : ((((d.stormed p q).broken p q).watch p).pauseEvent Ev.pauseBreak p q ((d.fcp p).holders q) none).fcp p =
          (((d.stormed p q).broken p q).watch p).fcp p := fcp_fcps (fcps_pauseEvent ..) p
      simp only [Bool.not_true, Bool.false_eq_true, if_false, hbal, hfin, breaks_watch, timers_watch, ignored_watch]
      refine ⟨htick, fun h => absurd h (by decide), fun _ => ?_⟩
      rw [Dev.broken, Dev.fcp_modFcp, if_pos rfl, fcp_stormed, bal_stormed, hfcp]
      exact ⟨rfl, fun u hu => (Bool.not_eq_true' _).mp (List.mem_filter.1 hu).2⟩
  · intro q b hb
    refine ⟨{ s with dev := doPauseBreakEnd p q s.dev }, rfl, ?_⟩
    dsimp only
    simp only [doPauseBreakEnd, hb]
    rw [fcp_fcps (fcps_pauseEvent ..), breaks_watch, Dev.fcp_modFcp, if_pos rfl, bal_pauseEvent, bal_watch]
    exact ⟨rfl, tick_reach ..⟩

end Sys2Proof.Machine
end

section
/-! PROOFS. Links: their loss and return, training, and what the flush of a port frees (04 R124 to R132, 10 R322, R323). -/
namespace Sys2Proof.Machine

/-! ### Ports, lanes and macros beside the other parts -/

theorem port_pte {d d' : Dev} (h : d'.pte.ports = d.pte.ports) (p : Nat) : d'.port p = d.port p := by rw [Dev.port, h, Dev.port]
theorem lane_pte {d d' : Dev} (h : d'.pte.lanes = d.pte.lanes) (l : Nat) : d'.lane l = d.lane l := by rw [Dev.lane, h, Dev.lane]
theorem octal_pte {d d' : Dev} (h : d'.pte.macros = d.pte.macros) (m : Nat) : d'.octal m = d.octal m := by rw [Dev.octal, h, Dev.octal]

theorem pte_reach (d : Dev) (t : Nat) : (d.reach t).pte = d.pte := by simp
theorem pte_laneRefresh (d : Dev) (l : Nat) : (d.laneRefresh l).pte = d.pte := by simp
theorem bal_laneRefresh (d : Dev) (l : Nat) : (d.laneRefresh l).bal = d.bal := by simp
theorem dp_laneRefresh (d : Dev) (l : Nat) : (d.laneRefresh l).dp = d.dp := by simp
theorem pte_portEvent (d : Dev) (code p : Nat) (fs : List (Nat × Nat × Nat)) : (d.portEvent code p fs).pte = d.pte := by simp
theorem bal_portEvent (d : Dev) (code p : Nat) (fs : List (Nat × Nat × Nat)) : (d.portEvent code p fs).bal = d.bal := by simp
theorem dp_portEvent (d : Dev) (code p : Nat) (fs : List (Nat × Nat × Nat)) : (d.portEvent code p fs).dp = d.dp := by simp
theorem bal_setPortSt (d : Dev) (p : Nat) (st : PortSt) : (d.setPortSt p st).bal = d.bal := by simp
theorem dp_setPortSt (d : Dev) (p : Nat) (st : PortSt) : (d.setPortSt p st).dp = d.dp := by simp
theorem bal_trainStart (d : Dev) (p : Nat) : (d.trainStart p).bal = d.bal := by simp
theorem dp_trainStart (d : Dev) (p : Nat) : (d.trainStart p).dp = d.dp := by simp
theorem bal_flushPort (d : Dev) (p : Nat) (c : Ctr) (b : Bool) : (d.flushPort p c b).2.2.bal = d.bal := by simp
theorem bal_freePort (d : Dev) (p : Nat) (c : Ctr) (b : Bool) : (d.freePort p c b).2.2.bal = d.bal := by simp
theorem pte_freePort (d : Dev) (p : Nat) (c : Ctr) (b : Bool) : (d.freePort p c b).2.2.pte = d.pte := by simp

/-! ### The state of a port -/

/-- A port that changes its state. -/
def Port.entered (x : Port) (st : PortSt) (now : Nat) : Port := { x with st := st, since := if x.st = st then x.since else now }

theorem pte_setPortSt (d : Dev) (p : Nat) (st : PortSt) : (d.setPortSt p st).pte = (d.modPort p (fun x => x.entered st d.bal.tick)).pte := by
  unfold Dev.setPortSt
  exact foldl_keeps (fun d => d.pte) (fun d l => pte_laneRefresh d l) _ _

theorem port_setPortSt (d : Dev) (p : Nat) (st : PortSt) (q : Nat) :
    (d.setPortSt p st).port q = if p = q then (d.port q).entered st d.bal.tick else d.port q :=
  (port_pte (congrArg Pte.ports (pte_setPortSt ..)) q).trans (Dev.port_modPort ..)

theorem port_setPortSt_self (d : Dev) (p : Nat) (st : PortSt) : (d.setPortSt p st).port p = (d.port p).entered st d.bal.tick := by
  rw [port_setPortSt, if_pos rfl]

theorem port_setPortSt_ne {p q : Nat} (h : q ≠ p) (d : Dev) (st : PortSt) : (d.setPortSt p st).port q = d.port q := by
  rw [port_setPortSt, if_neg h.symm]

theorem port_trainStart_ne {p q : Nat} (h : q ≠ p) (d : Dev) : (d.trainStart p).port q = d.port q := by
  unfold Dev.trainStart
  split <;> simp [h.symm]

/-- An attempt leaves what it is not about. -/
theorem port_trainStart_keeps {β : Type} (g : Port → β)
    (hg : ∀ (x : Port) a t r ra ph lk, g { x with attempts := a, trainStart := t, retryAt := r, realigned := ra, phase := ph, locked := lk } = g x)
    (d : Dev) (p : Nat) : g ((d.trainStart p).port p) = g (d.port p) := by
  unfold Dev.trainStart
  split
  · rw [Dev.port_modPort, if_pos rfl]
    exact hg (d.port p) ..
  · rw [Dev.port_modPort, if_pos rfl]
    exact hg (d.port p) ..

theorem st_trainStart (d : Dev) (p : Nat) : ((d.trainStart p).port p).st = (d.port p).st :=
  port_trainStart_keeps Port.st (fun _ _ _ _ _ _ _ => rfl) d p

theorem hold_trainStart (d : Dev) (p : Nat) : ((d.trainStart p).port p).hold = (d.port p).hold :=
  port_trainStart_keeps Port.hold (fun _ _ _ _ _ _ _ => rfl) d p

theorem losses_trainStart (d : Dev) (p : Nat) : ((d.trainStart p).port p).losses = (d.port p).losses :=
  port_trainStart_keeps Port.losses (fun _ _ _ _ _ _ _ => rfl) d p

theorem lanes_trainStart (d : Dev) (p : Nat) : ((d.trainStart p).port p).lanes = (d.port p).lanes :=
  port_trainStart_keeps Port.lanes (fun _ _ _ _ _ _ _ => rfl) d p

theorem port_trainStart_on {d : Dev} {p : Nat} (h : (d.octal (p / 8)).st = .on) : (d.trainStart p).port p =
    { d.port p with
      attempts := (d.port p).attempts + 1, trainStart := d.bal.tick, retryAt := none, realigned := true, phase := 0, locked := 0 } := by
  rw [Dev.trainStart, if_pos h, Dev.port_modPort, if_pos rfl]

/-! ### A flush empties the queues of its port -/

theorem queue_queues {d d' : Dev} (h : d'.dp.queues = d.dp.queues) (k : Nat) : d'.queue k = d.queue k := by rw [Dev.queue, h, Dev.queue]

theorem queue_modPort (d : Dev) (p : Nat) (f : Port → Port) (k : Nat) : (d.modPort p f).queue k = d.queue k := rfl

theorem ents_detach (d : Dev) (k j : Nat) : ((d.detach k).queue j).ents = (d.queue j).ents := by
  unfold Dev.detach
  rw [Dev.queue_modQueue]
  split <;> rfl

theorem ents_freeQueue (d : Dev) (k j : Nat) (c : Ctr) (b : Bool) :
    ((d.freeQueue k c b).2.2.queue j).ents = if k = j then [] else (d.queue j).ents := by
  unfold Dev.freeQueue
  dsimp only
  rw [ents_detach, Dev.queue_modQueue]
  split
  · rfl
  · refine congrArg Queue.ents (queue_queues (foldl_keeps (fun d => d.dp.queues) (fun d e => ?_) _ _) j)
    split <;> simp

theorem ents_freePort {p k : Nat} (hk : k ∈ portKeys p) (d : Dev) (c : Ctr) (b : Bool) :
    ((d.freePort p c b).2.2.queue k).ents = [] := by
  unfold Dev.freePort
  dsimp only
  rw [queue_queues (queues_freeWaiting ..)]
  refine foldl_reaches (I := fun _ => True) (P := fun acc : Nat × Nat × Dev => (acc.2.2.queue k).ents = []) (fun _ _ _ => trivial)
    (fun acc _ => ?_) (fun acc j h => ?_) hk trivial
  · dsimp only
    rw [ents_freeQueue, if_pos rfl]
  · dsimp only
    rw [ents_freeQueue, h, ite_self]

/-- What the flush of a port leaves: empty queues, and the port's record but for the flush itself. -/
theorem ents_flushPort {p k : Nat} (hk : k ∈ portKeys p) (d : Dev) (c : Ctr) (b : Bool) :
    ((d.flushPort p c b).2.2.queue k).ents = [] := by
  unfold Dev.flushPort
  dsimp only
  rw [queue_modPort]
  exact ents_freePort hk d c b

theorem port_flushPort (d : Dev) (p : Nat) (c : Ctr) (b : Bool) (q : Nat) : (d.flushPort p c b).2.2.port q = if p = q then
    { d.port q with hold := .flushing, flushAs := some (c, b), flushTick := d.bal.tick } else d.port q := by
  unfold Dev.flushPort
  dsimp only
  rw [Dev.port_modPort, port_pte (congrArg Pte.ports (pte_freePort ..)), bal_freePort]

/-! ### Expiry and loss -/

theorem expireHold_effect (d : Dev) (p : Nat) (brk : Bool) :
    ((d.expireHold p brk).port p).st = .holdExpired ∧ ((d.expireHold p brk).port p).hold = .flushing ∧
    ((d.expireHold p brk).port p).lanes = (d.port p).lanes ∧ (d.expireHold p brk).bal = d.bal ∧
    ∀ k ∈ portKeys p, ((d.expireHold p brk).queue k).ents = [] := by
  unfold Dev.expireHold
  dsimp only
  generalize hf : d.flushPort p .drLinkHoldExpired false = r
  have hport : (r.2.2.setPortSt p .holdExpired).port p =
      ({ d.port p with hold := .flushing, flushAs := some (.drLinkHoldExpired, false), flushTick := d.bal.tick } : Port).entered
        .holdExpired r.2.2.bal.tick := by rw [port_setPortSt_self, ← hf, port_flushPort, if_pos rfl]
  have hbal : r.2.2.bal = d.bal := by rw [← hf, bal_flushPort]
  have hents : ∀ k ∈ portKeys p, (r.2.2.queue k).ents = [] := fun k hk => by rw [← hf]; exact ents_flushPort hk ..
  generalize hev : (r.2.2.setPortSt p .holdExpired).portEvent Ev.portHoldExpired p [(2, 4, r.1), (6, 8, r.2.1), (14, 1, b2n brk)] = e
  have heport : e.port p = (r.2.2.setPortSt p .holdExpired).port p := by rw [← hev]; exact port_pte (congrArg Pte.ports (pte_portEvent ..)) p
  have hebal : e.bal = d.bal := by rw [← hev, bal_portEvent, bal_setPortSt, hbal]
  have heents : ∀ k ∈ portKeys p, (e.queue k).ents = [] := fun k hk => by
    rw [← hev, queue_dp (dp_portEvent ..), queue_dp (dp_setPortSt ..)]
    exact hents k hk
  rw [hport] at heport
  split
  · refine ⟨?_, ?_, ?_, by rw [bal_trainStart, hebal], fun k hk => by rw [queue_dp (dp_trainStart ..)]; exact heents k hk⟩
    · rw [st_trainStart, heport]; rfl
    · rw [hold_trainStart, heport]; rfl
    · rw [lanes_trainStart, heport]; rfl
  · exact ⟨by rw [heport]; rfl, by rw [heport]; rfl, by rw [heport]; rfl, hebal, heents⟩

/-- A port that has lost its link, before its hold. -/
def Dev.lost (d : Dev) (p cause lane : Nat) : Dev :=
  (d.portEvent Ev.portDown p [(2, 1, cause), (3, 2, lane)]).modPort p (fun x =>
    { x with realigned := false, retryAt := none, trainStart := (d.portEvent Ev.portDown p [(2, 1, cause), (3, 2, lane)]).bal.tick })

theorem bal_lost (d : Dev) (p cause lane : Nat) : (d.lost p cause lane).bal = d.bal := bal_portEvent ..

theorem port_lost (d : Dev) (p cause lane q : Nat) : (d.lost p cause lane).port q =
    if p = q then { d.port q with realigned := false, retryAt := none, trainStart := d.bal.tick } else d.port q := by
  unfold Dev.lost
  rw [Dev.port_modPort, port_pte (congrArg Pte.ports (pte_portEvent ..)), bal_portEvent]

/-- The actions of a hold's expiry, taken at once. -/
def Dev.dropped (d : Dev) (p : Nat) : Dev :=
  let d := (d.flushPort p .drLinkHoldExpired false).2.2.setPortSt p .holdExpired
  if (d.port p).iface ≠ 2 then d.trainStart p else d

theorem loseLink_eq (d : Dev) (p cause lane : Nat) : d.loseLink p cause lane =
    if 0 < ((d.lost p cause lane).port p).holdUs then ((d.lost p cause lane).modPort p (fun x =>
      { x with hold := .hold, holdEnd := (d.lost p cause lane).bal.tick + usTicks x.holdUs })).setPortSt p .holdRunning
    else (d.lost p cause lane).dropped p := by
  unfold Dev.loseLink Dev.lost Dev.dropped
  dsimp only

theorem loseLink_hold {d : Dev} {p : Nat} (h : 0 < (d.port p).holdUs) (cause lane : Nat) : d.loseLink p cause lane =
    ((d.lost p cause lane).modPort p (fun x =>
      { x with hold := .hold, holdEnd := (d.lost p cause lane).bal.tick + usTicks x.holdUs })).setPortSt p .holdRunning := by
  have hl : 0 < ((d.lost p cause lane).port p).holdUs := by
    rw [port_lost, if_pos rfl]
    exact h
  rw [loseLink_eq, if_pos hl]

theorem loseLink_expired {d : Dev} {p : Nat} (h : (d.port p).holdUs = 0) (cause lane : Nat) : d.loseLink p cause lane =
    (d.lost p cause lane).dropped p := by
  have hl : ¬ 0 < ((d.lost p cause lane).port p).holdUs := by
    rw [port_lost, if_pos rfl]
    exact Nat.not_lt.2 (Nat.le_of_eq h)
  rw [loseLink_eq, if_neg hl]

theorem bal_loseLink (d : Dev) (p cause lane : Nat) : (d.loseLink p cause lane).bal = d.bal := by simp

theorem port_loseLink_ne {p q : Nat} (h : q ≠ p) (d : Dev) (cause lane : Nat) : (d.loseLink p cause lane).port q = d.port q := by
  have hl : (d.lost p cause lane).port q = d.port q := by rw [port_lost, if_neg h.symm]
  by_cases hh : 0 < (d.port p).holdUs
  · rw [loseLink_hold hh, port_setPortSt_ne h, Dev.port_modPort, if_neg h.symm, hl]
  · rw [loseLink_expired (Nat.eq_zero_of_not_pos hh)]
    unfold Dev.dropped
    dsimp only
    split
    · rw [port_trainStart_ne h, port_setPortSt_ne h, port_flushPort, if_neg h.symm, hl]
    · rw [port_setPortSt_ne h, port_flushPort, if_neg h.symm, hl]

/-- The hold starts. -/
theorem port_loseLink_hold {d : Dev} {p : Nat} (h : 0 < (d.port p).holdUs) (cause lane : Nat) :
    ((d.loseLink p cause lane).port p).st = .holdRunning ∧ ((d.loseLink p cause lane).port p).hold = .hold ∧
    ((d.loseLink p cause lane).port p).holdEnd = d.bal.tick + 25 * (d.port p).holdUs ∧
    ((d.loseLink p cause lane).port p).losses = (d.port p).losses := by
  rw [loseLink_hold h, port_setPortSt_self, Dev.port_modPort, if_pos rfl, port_lost, if_pos rfl, bal_lost]
  exact ⟨rfl, rfl, rfl, rfl⟩

/-- Without a hold the actions of its expiry are taken at once. -/
theorem loseLink_flushed {d : Dev} {p : Nat} (h : (d.port p).holdUs = 0) (cause lane : Nat) :
    ((d.loseLink p cause lane).port p).st = .holdExpired ∧ ((d.loseLink p cause lane).port p).hold = .flushing ∧
    ((d.loseLink p cause lane).port p).losses = (d.port p).losses ∧
    ∀ k ∈ portKeys p, ((d.loseLink p cause lane).queue k).ents = [] := by
  rw [loseLink_expired h]
  unfold Dev.dropped
  generalize hf : ((d.lost p cause lane).flushPort p .drLinkHoldExpired false).2.2 = f
  have hport : f.port p = { d.port p with
      realigned := false, retryAt := none, trainStart := d.bal.tick, hold := .flushing, flushAs := some (.drLinkHoldExpired, false)
      flushTick := d.bal.tick } := by
    rw [← hf, port_flushPort, if_pos rfl, port_lost, if_pos rfl, bal_lost]
  have hents : ∀ k ∈ portKeys p, (f.queue k).ents = [] := fun k hk => by rw [← hf]; exact ents_flushPort hk ..
  dsimp only
  split
  · refine ⟨by rw [st_trainStart, port_setPortSt_self]; rfl, by rw [hold_trainStart, port_setPortSt_self, hport]; rfl,
      by rw [losses_trainStart, port_setPortSt_self, hport]; rfl, fun k hk => ?_⟩
    rw [queue_dp (dp_trainStart ..), queue_dp (dp_setPortSt ..)]
    exact hents k hk
  · refine ⟨by rw [port_setPortSt_self]; rfl, by rw [port_setPortSt_self, hport]; rfl, by rw [port_setPortSt_self, hport]; rfl,
      fun k hk => ?_⟩
    rw [queue_dp (dp_setPortSt ..)]
    exact hents k hk

theorem lane_laneRefresh (d : Dev) (l j : Nat) : (d.laneRefresh l).lane j = d.lane j := lane_pte (congrArg Pte.lanes (pte_laneRefresh ..)) j

/-- A cause that is noted stands on its lane, and touches no port. -/
theorem laneCause_new {d : Dev} {l cause since : Nat} (h : (d.lane l).causes = []) :
    ((d.laneCause l cause since).lane l).causes = [(cause, since)] ∧ ∀ q, (d.laneCause l cause since).port q = d.port q := by
  unfold Dev.laneCause
  rw [h, List.any_nil, if_neg Bool.false_ne_true]
  exact ⟨by rw [lane_laneRefresh, Dev.lane_modLane, if_pos rfl, h]; rfl, fun q => port_pte (congrArg Pte.ports (pte_laneRefresh ..)) q⟩

theorem port_laneCause (d : Dev) (l cause since q : Nat) : (d.laneCause l cause since).port q = d.port q := by
  unfold Dev.laneCause
  split
  · rfl
  · exact port_pte (congrArg Pte.ports (pte_laneRefresh ..)) q

/-! ### The rows of a link -/

/-- The device when the loss of a port's link is declared: a cause that was noted has held for DEBOUNCE_US. -/
def Dev.declared (d : Dev) (p l cause : Nat) : Dev :=
  match (d.lane l).causes.find? (fun x => decide (x.1 = cause)) with
  | some x => d.reach (x.2 + usTicks (d.port p).debounceUs)
  | none => d.laneCause l cause (d.bal.tick - usTicks (d.port p).debounceUs)

/-- A lost link is counted, and the lane of its cause is locked no more. -/
def Dev.lossCounted (d : Dev) (p l cause : Nat) : Dev :=
  (d.modPort p (fun x =>
    { x with
      losses := min 65535 (x.losses + 1)
      locked := if cause ≤ 3 ∧ x.locked.testBit (l - p) then x.locked - 2 ^ (l - p) else x.locked })).bump .linkDown p

theorem port_declared (d : Dev) (p l cause q : Nat) : (d.declared p l cause).port q = d.port q := by
  unfold Dev.declared
  split
  · exact port_pte (congrArg Pte.ports (pte_reach ..)) q
  · exact port_laneCause ..

theorem tick_declared {d : Dev} {p l cause since : Nat}
    (h : (d.lane l).causes.find? (fun x => decide (x.1 = cause)) = some (cause, since)) :
    since + 25 * (d.port p).debounceUs ≤ (d.declared p l cause).bal.tick := by
  unfold Dev.declared
  rw [h]
  exact tick_reach ..

theorem pte_bump (d : Dev) (c : Ctr) (i n : Nat) : (d.bump c i n).pte = d.pte := rfl

theorem port_lossCounted_self (d : Dev) (p l cause : Nat) : ((d.lossCounted p l cause).port p).losses = min 65535 ((d.port p).losses + 1) ∧
    ((d.lossCounted p l cause).port p).holdUs = (d.port p).holdUs := by
  unfold Dev.lossCounted
  rw [port_pte (congrArg Pte.ports (pte_bump ..)), Dev.port_modPort, if_pos rfl]
  exact ⟨rfl, rfl⟩

theorem port_lossCounted_ne {p q : Nat} (h : q ≠ p) (d : Dev) (l cause : Nat) : (d.lossCounted p l cause).port q = d.port q := by
  unfold Dev.lossCounted
  rw [port_pte (congrArg Pte.ports (pte_bump ..)), Dev.port_modPort, if_neg h.symm]

section
variable {d : Dev} {p cause lane l : Nat} {held : Bool} (hport : d.isPort p = true) (hl : l = (if cause = 4 then p else lane))
  (hmem : l ∈ d.lanesOf p) (h1 : 1 ≤ cause) (h6 : cause ≤ 6)
include hport hl hmem h1 h6

theorem doLinkLossDeclared_in : doLinkLossDeclared p cause lane held d =
    if !held && decide ((d.port p).debounceUs ≠ 0) || decide ((d.port p).st ≠ .up) then if held then d else d.laneCause l cause d.bal.tick
    else (((d.declared p l cause).lossCounted p l cause).loseLink p cause l).laneRefresh l := by
  have hin : (!d.isPort p || !(d.lanesOf p).contains l || !decide (1 ≤ cause ∧ cause ≤ 6)) = false := by
    simp [hport, hmem, h1, h6]
  unfold doLinkLossDeclared
  dsimp only
  rw [← hl, if_neg (by rw [hin]; exact Bool.false_ne_true)]
  rfl

theorem doLinkLossDeclared_noted (hd : (d.port p).debounceUs ≠ 0) :
    doLinkLossDeclared p cause lane false d = d.laneCause l cause d.bal.tick := by
  rw [doLinkLossDeclared_in hport hl hmem h1 h6, if_pos (by simp [hd]), if_neg Bool.false_ne_true]

theorem doLinkLossDeclared_lost (hheld : held = true ∨ (d.port p).debounceUs = 0) (hup : (d.port p).st = .up) :
    doLinkLossDeclared p cause lane held d = (((d.declared p l cause).lossCounted p l cause).loseLink p cause l).laneRefresh l := by
  have hno : (!held && decide ((d.port p).debounceUs ≠ 0) || decide ((d.port p).st ≠ .up)) = false := by
    cases hheld with
    | inl h => simp [h, hup]
    | inr h => simp [h, hup]
  rw [doLinkLossDeclared_in hport hl hmem h1 h6, if_neg (by rw [hno]; exact Bool.false_ne_true)]

end

/-- What a declared loss leaves: the device before the hold, or the flush, that it starts. -/
theorem linkLost_effect (d : Dev) (p l cause : Nat) :
    let t := (((d.declared p l cause).lossCounted p l cause).loseLink p cause l).laneRefresh l
    (t.port p).losses = min 65535 ((d.port p).losses + 1) ∧ t.bal = (d.declared p l cause).bal ∧
    (0 < (d.port p).holdUs → (t.port p).st = .holdRunning ∧ (t.port p).hold = .hold ∧
      (t.port p).holdEnd = t.bal.tick + 25 * (d.port p).holdUs) ∧
    ((d.port p).holdUs = 0 → (t.port p).st = .holdExpired ∧ (t.port p).hold = .flushing ∧ ∀ k ∈ portKeys p, (t.queue k).ents = []) ∧
    ∀ q, q ≠ p → t.port q = d.port q := by
  dsimp only
  generalize hc : (d.declared p l cause).lossCounted p l cause = e
  obtain ⟨hloss, hus⟩ := port_lossCounted_self (d.declared p l cause) p l cause
  rw [hc, port_declared] at hloss hus
  have hbal : e.bal = (d.declared p l cause).bal := by rw [← hc]; rfl
  have hpt : ∀ q, ((e.loseLink p cause l).laneRefresh l).port q = (e.loseLink p cause l).port q :=
    port_pte (congrArg Pte.ports (pte_laneRefresh ..))
  simp only [hpt, bal_laneRefresh, bal_loseLink, queue_dp (dp_laneRefresh ..)]
  refine ⟨?_, hbal, fun h => ?_, fun h => ?_, fun q hq => ?_⟩
  · by_cases h : 0 < (e.port p).holdUs
    · rw [(port_loseLink_hold h cause l).2.2.2, hloss]
    · rw [(loseLink_flushed (Nat.eq_zero_of_not_pos h) cause l).2.2.1, hloss]
  · obtain ⟨hst, hhold, hend, -⟩ := port_loseLink_hold (hus.symm ▸ h) cause l
    exact ⟨hst, hhold, by rw [hend, hus]⟩
  · obtain ⟨hst, hhold, -, hents⟩ := loseLink_flushed (hus.trans h) cause l
    exact ⟨hst, hhold, hents⟩
  · rw [port_loseLink_ne hq, ← hc, port_lossCounted_ne hq, port_declared]

theorem port_reopen (d : Dev) (p : Nat) : ((d.reopen p).port p).st = (d.port p).st ∧ ((d.reopen p).port p).locked = (d.port p).locked := by
  unfold Dev.reopen
  split
  · rw [Dev.port_modPort, if_pos rfl]
    exact ⟨rfl, rfl⟩
  · exact ⟨rfl, rfl⟩

/-- A link comes up: its lanes carry no cause, and all are locked. -/
def Dev.linkedUp (d : Dev) (p : Nat) (back : Option Nat) (fs : List (Nat × Nat × Nat)) : Dev :=
  let d := (d.lanesOf p).foldl (fun d l => d.modLane l (fun y => { y with causes := [] })) d
  let d := d.modPort p (fun y => { y with locked := 2 ^ y.lanes - 1, retryAt := none, realigned := false, back := back })
  ((d.setPortSt p .up).portEvent Ev.portUp p fs).reopen p

theorem port_linkedUp (d : Dev) (p : Nat) (back : Option Nat) (fs : List (Nat × Nat × Nat)) :
    ((d.linkedUp p back fs).port p).st = .up ∧ ((d.linkedUp p back fs).port p).locked = 2 ^ (d.port p).lanes - 1 := by
  unfold Dev.linkedUp
  dsimp only
  generalize hf : (d.lanesOf p).foldl (fun d l => d.modLane l (fun y => { y with causes := [] })) d = f
  have hport : f.port p = d.port p := by rw [← hf]; exact foldl_keeps (fun d => d.port p) (fun d l => by simp [Dev.port, Dev.modLane]) _ _
  obtain ⟨hst, hlocked⟩ := port_reopen (((f.modPort p (fun y =>
    { y with locked := 2 ^ y.lanes - 1, retryAt := none, realigned := false, back := back })).setPortSt p .up).portEvent Ev.portUp p fs) p
  rw [hst, hlocked, port_pte (congrArg Pte.ports (pte_portEvent ..)), port_setPortSt_self, Dev.port_modPort, if_pos rfl, hport]
  exact ⟨rfl, rfl⟩

/-- A link that may come up does so, after the expiry of a hold that is due. -/
theorem doLinkUp_up {d : Dev} {p : Nat} (hport : d.isPort p = true) (hon : (d.octal (p / 8)).st = .on)
    (hcal : ∀ l ∈ d.lanesOf p, ∀ c ∈ (d.lane l).causes, c.1 ≠ 6) (hretry : (d.port p).retryAt = none) (hrun : d.regRuns 2 = true)
    (hadp : d.reg.adpStopped.testBit (p / 64) = false) (hidle : d.linkIdle p = false)
    (hst : (d.port p).st = .training ∨ (d.port p).st = .holdExpired ∨ (d.port p).st = .holdRunning) :
    ∃ (e : Dev) (back : Option Nat) (fs : List (Nat × Nat × Nat)), doLinkUp p d = e.linkedUp p back fs ∧ (e.port p).lanes = (d.port p).lanes := by
  have hbad : ¬ ((d.octal (p / 8)).st ≠ .on ∨ (d.lanesOf p).any (fun l => (d.lane l).causes.any (fun c => decide (c.1 = 6))) = true) := by
    simp only [hon, ne_eq, not_true_eq_false, false_or, List.any_eq_true, decide_eq_true_eq, not_exists, not_and]
    exact hcal
  unfold doLinkUp
  dsimp only
  rw [if_neg (by simp only [hport, hretry, hrun, hadp, hidle, decide_eq_false hbad]; simp)]
  generalize he : (if (d.port p).st = .holdRunning ∧ (d.port p).holdEnd ≤ d.bal.tick then d.expireHold p false else d) = e
  have hlanes : (e.port p).lanes = (d.port p).lanes := by
    rw [← he]
    split
    · exact (expireHold_effect ..).2.2.1
    · rfl
  obtain h | h | h := hst <;> rw [h] <;> exact ⟨e, _, _, rfl, hlanes⟩

theorem doQueueFlushDone_effect {d : Dev} {p : Nat} (h : (d.port p).hold = .flushing) :
    ((doQueueFlushDone p d).port p).hold = .barred ∧
    ((d.port p).flushAs ≠ none → ∀ k ∈ portKeys p, ((doQueueFlushDone p d).queue k).ents = []) := by
  rw [doQueueFlushDone, if_pos h]
  dsimp only
  refine ⟨by rw [Dev.port_modPort, if_pos rfl], fun hf k hk => ?_⟩
  obtain ⟨a, ha⟩ := Option.ne_none_iff_exists'.1 hf
  rw [queue_modPort, ha]
  exact ents_freePort hk d a.1 a.2

/-! ### Training -/

/-- An attempt fails. -/
def Dev.untrained (d : Dev) (p ph : Nat) (fs : List (Nat × Nat × Nat)) : Dev :=
  ((d.bump .trainFail p).modPort p (fun y => { y with phase := ph })).portEvent Ev.trainingFailed p fs

theorem untrained_parts (d : Dev) (p ph : Nat) (fs : List (Nat × Nat × Nat)) :
    (d.untrained p ph fs).port p = { d.port p with phase := ph } ∧ (d.untrained p ph fs).bal = d.bal := by
  unfold Dev.untrained
  rw [port_pte (congrArg Pte.ports (pte_portEvent ..)), Dev.port_modPort, if_pos rfl, bal_portEvent]
  exact ⟨rfl, rfl⟩

theorem doTrainingTimeout_tries {d : Dev} {p phase : Nat} (hport : d.isPort p = true) (hrun : d.regRuns 2 = true)
    (htries : (d.port p).tries = true) : ∃ e : Dev, (doTrainingTimeout p phase d =
      if (d.port p).iface = 2 then e.modPort p (fun y => { y with attempts := y.attempts + 1, trainStart := e.bal.tick })
      else e.modPort p (fun y => { y with retryAt := some (e.bal.tick + msTicks 10) })) ∧ (e.port p).attempts = (d.port p).attempts ∧
      e.bal = (d.reach ((d.port p).trainStart + msTicks (d.port p).trainTimeoutMs)).bal := by
  obtain ⟨ph, fs, hd⟩ : ∃ ph fs, doTrainingTimeout p phase d =
      let e := (d.reach ((d.port p).trainStart + msTicks (d.port p).trainTimeoutMs)).untrained p ph fs
      if (d.port p).iface = 2 then e.modPort p (fun y => { y with attempts := y.attempts + 1, trainStart := e.bal.tick })
      else e.modPort p (fun y => { y with retryAt := some (e.bal.tick + msTicks 10) }) :=
    ⟨_, _, if_neg (by rw [hport, hrun, htries]; exact Bool.false_ne_true)⟩
  obtain ⟨hp, hbal⟩ := untrained_parts (d.reach ((d.port p).trainStart + msTicks (d.port p).trainTimeoutMs)) p ph fs
  exact ⟨_, hd, by rw [hp, port_pte (congrArg Pte.ports (pte_reach ..))], hbal⟩

/-! ### Lanes -/

theorem lane_foldl_portEvent (code p : Nat) (l : List Nat) (fs : Nat → List (Nat × Nat × Nat)) (d : Dev) :
    (l.foldl (fun d c => d.portEvent code p (fs c)) d).pte = d.pte :=
  foldl_keeps (fun d => d.pte) (fun d _ => pte_portEvent d ..) l d

theorem lane_doLaneRecheck {d : Dev} {l : Nat} (gone : List Nat) (h : (d.lane l).recheck ≠ []) :
    (doLaneRecheck l gone d).lane l = { causes := (d.lane l).causes.filter (fun c => !(gone.contains c.1)), recheck := [] } := by
  have hreclass (d : Dev) (s : Nat) : (d.reclass s).pte = d.pte := by simp
  unfold doLaneRecheck
  dsimp only
  rw [if_neg (by rwa [List.isEmpty_iff])]
  split
  · rw [lane_pte (congrArg Pte.lanes (lane_foldl_portEvent ..)), lane_laneRefresh, Dev.lane_modLane, if_pos rfl,
      lane_pte (congrArg Pte.lanes (pte_reach ..))]
  · rw [lane_pte (congrArg Pte.lanes (hreclass ..)), lane_pte (congrArg Pte.lanes (lane_foldl_portEvent ..)), lane_laneRefresh,
      Dev.lane_modLane, if_pos rfl, lane_pte (congrArg Pte.lanes (pte_reach ..))]

/-! ### Macros and engines -/

theorem octal_doMacroPowerUpDone {d : Dev} {m failed : Nat} (hrun : d.regRuns 2 = true) (h : (d.octal m).st = .calibrating) :
    (doMacroPowerUpDone m failed d).octal m = { d.octal m with st := .on, calibFail := failed % 256 } := by
  have htrain (d : Dev) (l : Nat) : (d.trainStart l).octal m = d.octal m := by
    unfold Dev.trainStart
    split <;> rfl
  have hlane (d : Dev) (l : Nat) (f : Lane → Lane) : (d.modLane l f).octal m = d.octal m := rfl
  have hevent (d : Dev) (on failed : Nat) : (d.macroEvent m on failed).pte = d.pte := by simp
  unfold doMacroPowerUpDone
  dsimp only
  rw [if_neg (by simp [h, hrun])]
  refine (foldl_keeps (fun d => d.octal m) (fun d l => ?_) _ _).trans ((foldl_keeps (fun d => d.octal m) (fun d l => ?_) _ _).trans ?_)
  · split
    · exact htrain d l
    · rfl
  · split
    · exact hlane ..
    · rfl
  · rw [octal_pte (congrArg Pte.macros (hevent ..)), Dev.octal_modOctal, if_pos rfl]

theorem doAdaptationSlice_reg {d : Dev} {e : Nat} (he : e < 8) (hcore : d.corePowered = true) (hrun : d.reg.adpStopped.testBit e = false) :
    (tget d.reg.adpSlice 0 e ≠ 1 → tget (doAdaptationSlice e d).reg.adpSlice 0 e = 1 ∧
      tget (doAdaptationSlice e d).reg.adpEven 0 e = (tget d.reg.adpEven 0 e + 1) % 64) ∧
    (tget d.reg.adpSlice 0 e = 1 → tget (doAdaptationSlice e d).reg.adpSlice 0 e = 0 ∧
      (doAdaptationSlice e d).reg.adpEven = d.reg.adpEven) := by
  unfold doAdaptationSlice
  dsimp only
  rw [if_neg (by simp [he, hcore, hrun])]
  constructor
  · intro h
    rw [decide_eq_false h]
    simp
  · intro h
    rw [decide_eq_true h]
    simp

/-! ### Records -/

theorem record_input {d : Dev} (h : d.evr.input.length < 1024) (code : Nat) (who : Who) (source : Option Nat) (data : BitVec 160) :
    ∃ r, (d.record code who source data).evr.input = d.evr.input ++ [r] ∧ r.code = code ∧ r.source = source := by
  unfold Dev.record Dev.recordSev Dev.pushRec
  rw [if_pos h]
  exact ⟨_, rfl, rfl, rfl⟩

/-- Settles O19, a row at a time. -/
theorem linksFollowTheirStates : Obligations.LinksFollowTheirStates := by
  intro s p
  refine ⟨?_, ?_, ?_, ?_, ?_, ?_, ?_, ?_, ?_, ?_, ?_, ?_⟩
  · intro cause lane l hport hl hmem h1 h6 hd hnone
    refine ⟨{ s with dev := doLinkLossDeclared p cause lane false s.dev }, rfl, ?_⟩
    dsimp only
    rw [doLinkLossDeclared_noted hport hl hmem h1 h6 hd]
    exact laneCause_new hnone
  · intro cause lane held l hport hl hmem h1 h6 hheld hup
    refine ⟨{ s with dev := doLinkLossDeclared p cause lane held s.dev }, rfl, ?_⟩
    dsimp only
    rw [doLinkLossDeclared_lost hport hl hmem h1 h6 hheld hup]
    obtain ⟨hloss, hbal, hhold, hflush, hother⟩ := linkLost_effect s.dev p l cause
    exact ⟨hloss, fun since h => by rw [hbal]; exact tick_declared h, hhold, hflush, hother⟩
  · intro hport hon hcal hretry hrun hadp hidle hst
    refine ⟨{ s with dev := doLinkUp p s.dev }, rfl, ?_⟩
    dsimp only
    obtain ⟨e, back, fs, hd, hlanes⟩ := doLinkUp_up hport hon hcal hretry hrun hadp hidle hst
    rw [hd, ← hlanes]
    exact port_linkedUp e p back fs
  · intro hport hrun hst
    refine ⟨{ s with dev := doHoldExpiry p s.dev }, rfl, ?_⟩
    dsimp only
    rw [doHoldExpiry, if_pos (by simp [hport, hrun, hst])]
    obtain ⟨hst', hhold, -, hbal, hents⟩ := expireHold_effect (s.dev.reach (s.dev.port p).holdEnd) p false
    exact ⟨hst', hhold, by rw [hbal]; exact tick_reach .., hents⟩
  · intro hhold
    exact ⟨{ s with dev := doQueueFlushDone p s.dev }, rfl, doQueueFlushDone_effect hhold⟩
  · intro hport hrun hst hif hre hretry hon
    refine ⟨{ s with dev := doRealignTimeout p s.dev }, rfl, ?_⟩
    dsimp only
    rw [doRealignTimeout, if_pos (by simp [hport, hrun, hst, hif, hre, hretry]), port_trainStart_on ((congrArg Octal.st (octal_pte
      (congrArg Pte.macros (pte_reach ..)) _)).trans hon), bal_trainStart, port_pte (congrArg Pte.ports (pte_reach ..))]
    exact ⟨rfl, rfl, tick_reach ..⟩
  · intro phase hport hrun htries
    refine ⟨{ s with dev := doTrainingTimeout p phase s.dev }, rfl, ?_⟩
    dsimp only
    obtain ⟨e, hd, hp, hbal⟩ := doTrainingTimeout_tries (phase := phase) hport hrun htries
    have htick : (s.dev.port p).trainStart + 25000 * (s.dev.port p).trainTimeoutMs ≤ e.bal.tick := by
      rw [hbal]
      exact tick_reach ..
    rw [hd]
    refine ⟨?_, fun hne => ?_, fun h2 => ?_⟩
    · split
      · exact htick
      · exact htick
    · rw [if_neg hne, Dev.port_modPort, if_pos rfl]
      rfl
    · rw [if_pos h2, Dev.port_modPort, if_pos rfl, hp]
      exact ⟨rfl, rfl⟩
  · intro t0 hport hrun hretry hon
    refine ⟨{ s with dev := doTrainingRestart p s.dev }, rfl, ?_⟩
    dsimp only
    rw [doTrainingRestart, hretry]
    dsimp only
    rw [if_pos (by simp [hport, hrun]), port_trainStart_on ((congrArg Octal.st (octal_pte
      (congrArg Pte.macros (pte_reach ..)) _)).trans hon), bal_trainStart, port_pte (congrArg Pte.ports (pte_reach ..))]
    exact ⟨rfl, rfl, tick_reach ..⟩
  · intro page hport hrun htries han hroom
    obtain ⟨r, hinput, hcode, hsource⟩ := record_input hroom Ev.anMismatch (s.dev.attribution (0x100 + p)) (some (0x100 + p))
      (dat ((0, 2, p) :: [(2, 6, page)]))
    refine ⟨{ s with dev := doAnMismatch p page s.dev }, r, rfl, ?_, hcode, hsource⟩
    rw [doAnMismatch, if_pos (by simp [hport, hrun, htries, han])]
    exact hinput
  · intro m failed hrun hst
    exact ⟨{ s with dev := doMacroPowerUpDone m failed s.dev }, rfl, octal_doMacroPowerUpDone hrun hst⟩
  · intro l gone hre
    refine ⟨{ s with dev := doLaneRecheck l gone s.dev }, rfl, ?_⟩
    dsimp only
    rw [lane_doLaneRecheck gone hre]
    exact ⟨rfl, rfl⟩
  · intro e he hcore hrun
    exact ⟨{ s with dev := doAdaptationSlice e s.dev }, rfl, doAdaptationSlice_reg he hcore hrun⟩

end Sys2Proof.Machine
end

section
/-! PROOFS. Commands on ports, and the sleep of pipelines (04 R127 to R138; 18 R531, R532). -/
namespace Sys2Proof.Machine

/-! ### What a port's entry reads -/

theorem portEntry_same {d d' : Dev} (hpte : d'.pte = d.pte) (hfcps : d'.fcps = d.fcps) (hbal : d'.bal = d.bal) (p : Nat) :
    d'.portEntry p = d.portEntry p := by
  have hport (q : Nat) : d'.port q = d.port q := port_pte (congrArg Pte.ports hpte) q
  simp only [Dev.portEntry, Dev.portOfLane, Dev.isPort, hport, fcp_fcps hfcps, macRate_pte hpte, hbal]

/-- The results that OP_PORT_STATE returns are those of the state that it leaves. -/
theorem portResult_effect {d : Dev} {c : CmdRef} {x : Cmd} (h : d.isRunning c x) (p : Nat) :
    (d.portResult c p).ended c x (okDone (pack [(0, 32, (d.portResult c p).portEntry p), (32, 16, ((d.portResult c p).port p).losses),
      (48, 8, ((d.portResult c p).port p).locked)]) (((d.portResult c p).port p).since % 2 ^ 40)) ∧
    (d.portResult c p).port p = d.port p ∧ ∀ k, (d.portResult c p).queue k = d.queue k := by
  have hport : (d.portResult c p).port p = d.port p := port_pte (congrArg Pte.ports (by simp)) p
  have hentry : (d.portResult c p).portEntry p = d.portEntry p := portEntry_same (by simp) (by simp) (by simp) p
  refine ⟨?_, hport, fun k => queue_dp (by simp) k⟩
  rw [hport, hentry]
  exact ok_ended h

/-! ### OP_PORT_CONFIG -/

/-- The ports that a new configuration dissolves (04 R136). -/
def Dev.outgoing (d : Dev) (x : Cmd) : List Nat :=
  ((List.range 8).map (8 * (x.fld 16 0 10 / 8) + ·)).filter (fun q =>
    d.isPort q && (decide (q < x.fld 16 0 10 + x.fld 18 0 4 ∧ x.fld 16 0 10 < q + (d.port q).lanes) ||
      decide (decide (x.fld 18 4 1 = 1) ≠ (d.octal (x.fld 16 0 10 / 8)).rate100)))

theorem mem_outgoing {d : Dev} {x : Cmd} {q : Nat} : q ∈ d.outgoing x ↔ d.isPort q = true ∧ q / 8 = x.fld 16 0 10 / 8 ∧
    ((q < x.fld 16 0 10 + x.fld 18 0 4 ∧ x.fld 16 0 10 < q + (d.port q).lanes) ∨
      decide (x.fld 18 4 1 = 1) ≠ (d.octal (x.fld 16 0 10 / 8)).rate100) := by
  have hrange : q ∈ (List.range 8).map (8 * (x.fld 16 0 10 / 8) + ·) ↔ q / 8 = x.fld 16 0 10 / 8 := by
    rw [List.mem_map]
    constructor
    · rintro ⟨i, hi, rfl⟩
      have := List.mem_range.1 hi
      omega
    · exact fun h => ⟨q % 8, List.mem_range.2 (Nat.mod_lt _ (by decide)), by omega⟩
  unfold Dev.outgoing
  rw [List.mem_filter, hrange, Bool.and_eq_true, Bool.or_eq_true, decide_eq_true_eq, decide_eq_true_eq]
  constructor
  · exact fun ⟨h8, hp, ho⟩ => ⟨hp, h8, ho⟩
  · exact fun ⟨hp, h8, ho⟩ => ⟨h8, hp, ho⟩

/-- The port that OP_PORT_CONFIG configures. -/
def Cmd.newPort (x : Cmd) (now : Nat) : Port :=
  { configured := true, lanes := x.fld 18 0 4, iface := x.fld 19 0 2, anEn := decide (x.fld 19 2 1 = 1)
    maxFrame := if x.fld 20 0 14 = 0 then 9216 else x.fld 20 0 14
    debounceUs := if x.fld 22 0 16 = 0xFFFF then 0 else if x.fld 22 0 16 = 0 then 10 else x.fld 22 0 16
    rxInvert := x.fld 24 0 8, txInvert := x.fld 25 0 8, txPreset := x.fld 26 0 4
    trainTimeoutMs := if x.fld 28 0 16 = 0 then 1000 else x.fld 28 0 16, since := now }

/-- The device once the ports that stand in the way are gone and the new one is configured. -/
def Dev.reconfigured (d : Dev) (x : Cmd) : Dev :=
  let d := (d.outgoing x).foldl Dev.dissolve d
  ((((d.modOctal (x.fld 16 0 10 / 8) (fun y => { y with rate100 := decide (x.fld 18 4 1 = 1) })).modPort (x.fld 16 0 10)
    (fun _ => x.newPort d.bal.tick)).portDefaults (x.fld 16 0 10)).refreshPauseAll)

section
variable {d : Dev} {c : CmdRef} {x : Cmd} (io : Io) (h : d.isRunning c x) (hop : isOp 0x90 x = true)
include h hop

theorem doOpPortConfig_busy {l : Nat} (hl : d.busyLane (d.outgoing x) = some l) : doOpPortConfig c io d = d.fail c stWrongMode l := by
  unfold doOpPortConfig
  rw [step1_run h hop]
  dsimp only
  split
  · rename_i l' hl'
    rw [Option.some.inj (hl.symm.trans hl')]
  · rename_i hn
    exact absurd (hl.symm.trans hn) (by simp)

theorem doOpPortConfig_free (hn : d.busyLane (d.outgoing x) = none) : doOpPortConfig c io d = (d.reconfigured x).ok c := by
  unfold doOpPortConfig
  rw [step1_run h hop]
  dsimp only
  split
  · rename_i l hl
    exact absurd (hn.symm.trans hl) (by simp)
  · rfl

end

theorem hif_dissolve (d : Dev) (p : Nat) : (d.dissolve p).hif = d.hif := by simp
theorem pte_portDefaults (d : Dev) (p : Nat) : (d.portDefaults p).pte = d.pte := by simp
theorem hif_portDefaults (d : Dev) (p : Nat) : (d.portDefaults p).hif = d.hif := by simp
theorem pte_refreshPauseAll (d : Dev) : d.refreshPauseAll.pte = d.pte := by simp
theorem hif_refreshPauseAll (d : Dev) : d.refreshPauseAll.hif = d.hif := by simp
theorem pte_ok (d : Dev) (c : CmdRef) (r0 r1 detail : Nat) : (d.ok c r0 r1 detail).pte = d.pte := by simp

theorem octal_modPort (d : Dev) (p : Nat) (f : Port → Port) (m : Nat) : (d.modPort p f).octal m = d.octal m := rfl

theorem reconfigured_effect (d : Dev) (x : Cmd) : (d.reconfigured x).hif = d.hif ∧
    (∃ now, (d.reconfigured x).port (x.fld 16 0 10) = x.newPort now) ∧
    ((d.reconfigured x).octal (x.fld 16 0 10 / 8)).rate100 = decide (x.fld 18 4 1 = 1) := by
  unfold Dev.reconfigured
  dsimp only
  generalize hd : (d.outgoing x).foldl Dev.dissolve d = e
  have hhif : e.hif = d.hif := by rw [← hd]; exact foldl_keeps (fun d => d.hif) hif_dissolve _ _
  refine ⟨by rw [hif_refreshPauseAll, hif_portDefaults]; exact hhif, ⟨e.bal.tick, ?_⟩, ?_⟩
  · rw [port_pte (congrArg Pte.ports (pte_refreshPauseAll _)), port_pte (congrArg Pte.ports (pte_portDefaults ..)), Dev.port_modPort,
      if_pos rfl]
  · rw [octal_pte (congrArg Pte.macros (pte_refreshPauseAll _)), octal_pte (congrArg Pte.macros (pte_portDefaults ..)),
      octal_modPort, Dev.octal_modOctal, if_pos rfl]

/-! ### The state commands -/

theorem linkStarts_same {d d' : Dev} (hbal : d'.bal = d.bal) (hplc : d'.plc = d.plc) (p : Nat) : d'.linkStarts p = d.linkStarts p := by
  have hpol (q : Nat) : d'.polder q = d.polder q := by rw [Dev.polder, hplc, Dev.polder]
  have hlane : d'.lanePolder p = d.lanePolder p := by simp only [Dev.lanePolder, hpol]
  simp only [Dev.linkStarts, Dev.linkIdle, Dev.polderHeld, hlane, hpol, hbal]

theorem st_linkRefresh_down {d : Dev} {p : Nat} (h : (d.port p).st = .down) :
    ((d.linkRefresh p).port p).st = if d.linkStarts p then .training else .down := by
  unfold Dev.linkRefresh
  rw [h]
  dsimp only
  split
  · rw [st_trainStart, port_setPortSt_self]
    rfl
  · exact h

/-- A port that is taken up, before its link is considered. -/
def Dev.raised (d : Dev) (p ep : Nat) : Dev :=
  (((d.macroStart (p / 8)).portEvent Ev.portAdmin p [(2, 1, 1), (3, 1, ep)]).modPort p (fun x =>
    { x with attempts := 0, retryAt := none, realigned := false })).setPortSt p .down

theorem raised_parts (d : Dev) (p ep : Nat) : (d.raised p ep).bal = d.bal ∧ (d.raised p ep).plc = d.plc ∧ ((d.raised p ep).port p).st = .down := by
  refine ⟨by simp [Dev.raised], by simp [Dev.raised], ?_⟩
  unfold Dev.raised
  rw [port_setPortSt_self]
  rfl

theorem adminUp_none {d : Dev} {p ep : Nat} (h : (d.port p).st ≠ .adminDown ∨ d.lanePolder p = none) : d.adminUp p ep = d := if_pos h

theorem st_adminUp {d : Dev} {p ep : Nat} (hst : (d.port p).st = .adminDown) (hpol : d.lanePolder p ≠ none) :
    ((d.adminUp p ep).port p).st = if d.linkStarts p then .training else .down := by
  obtain ⟨hbal, hplc, hdown⟩ := raised_parts d p ep
  have hno : ¬ ((d.port p).st ≠ .adminDown ∨ d.lanePolder p = none) := by simp [hst, hpol]
  have heq : d.adminUp p ep = (d.raised p ep).linkRefresh p := by
    unfold Dev.adminUp Dev.raised
    exact if_neg hno
  rw [heq, st_linkRefresh_down hdown, linkStarts_same hbal hplc]

theorem hif_adminUp (d : Dev) (p ep : Nat) : (d.adminUp p ep).hif = d.hif := by simp

theorem pte_macroIdle (d : Dev) (m : Nat) : (d.macroIdle m).pte.ports = d.pte.ports := by
  have hevent (d : Dev) (m on failed : Nat) : (d.macroEvent m on failed).pte = d.pte := by simp
  have hserdes (d : Dev) : d.serdesRefresh.pte = d.pte := by simp
  have hoctal (d : Dev) (f : Octal → Octal) : (d.modOctal m f).pte.ports = d.pte.ports := rfl
  unfold Dev.macroIdle
  dsimp only
  split
  · rfl
  · rw [hserdes, hevent, hoctal]
    refine foldl_keeps (fun d => d.pte.ports) (fun d l => ?_) _ _
    rw [pte_laneRefresh]
    rfl

theorem dp_macroIdle (d : Dev) (m : Nat) : (d.macroIdle m).dp = d.dp := by simp
theorem pte_stopTransmitter (d : Dev) (p : Nat) : (d.stopTransmitter p).pte = d.pte := by simp

theorem adminDown_down {d : Dev} {p ep : Nat} (h : (d.port p).st = .adminDown) : d.adminDown p ep = d := if_pos h

theorem adminDown_effect {d : Dev} {p ep : Nat} (h : (d.port p).st ≠ .adminDown) : ((d.adminDown p ep).port p).st = .adminDown ∧
    ((d.adminDown p ep).port p).hold = .flushing ∧ ((d.adminDown p ep).port p).locked = 0 ∧
    ∀ k ∈ portKeys p, ((d.adminDown p ep).queue k).ents = [] := by
  unfold Dev.adminDown
  rw [if_neg h]
  dsimp only
  generalize hf : (d.stopTransmitter p).flushPort p .drEgressDown true = r
  have hhold : (r.2.2.port p).hold = .flushing := by rw [← hf, port_flushPort, if_pos rfl]
  have hents : ∀ k ∈ portKeys p, (r.2.2.queue k).ents = [] := fun k hk => by rw [← hf]; exact ents_flushPort hk ..
  rw [port_pte (pte_macroIdle ..), port_pte (congrArg Pte.ports (pte_portEvent ..)), port_setPortSt_self, Dev.port_modPort, if_pos rfl]
  refine ⟨rfl, hhold, rfl, fun k hk => ?_⟩
  rw [queue_dp (dp_macroIdle ..), queue_dp (dp_portEvent ..), queue_dp (dp_setPortSt ..), queue_modPort]
  exact hents k hk

theorem pte_portResult (d : Dev) (c : CmdRef) (p : Nat) : (d.portResult c p).pte = d.pte := by simp

/-! ### OP_PORT_HOLD_SET -/

/-- One port of OP_PORT_HOLD_SET: its HOLD_US, and whether BREAK ended a hold. -/
def Cmd.holdPut (x : Cmd) (a : Bool × Dev) (q : Nat) : Bool × Dev :=
  let e := a.2.modPort q (fun y => { y with holdUs := x.fld 20 0 17 })
  if x.fld 18 0 1 = 0 then (a.1, e)
  else if (e.port q).st = .holdRunning then (true, e.expireHold q true)
  else if (e.port q).st = .up ∧ (e.port q).back = some e.bal.tick then (true, e.breakBack q)
  else (a.1, e)

section
variable {d : Dev} {c : CmdRef} {x : Cmd} (io : Io) (h : d.isRunning c x) (hop : isOp 0x92 x = true)
include h hop

theorem doOpPortHoldSet_one (hall : x.fld 18 1 1 = 0) (hport : d.isPort (x.fld 16 0 10) = true) :
    doOpPortHoldSet c io d = (x.holdPut (false, d) (x.fld 16 0 10)).2.ok c (b2n (x.holdPut (false, d) (x.fld 16 0 10)).1) := by
  unfold doOpPortHoldSet
  rw [step1_run h hop]
  dsimp only
  rw [hall, hport]
  rfl

theorem doOpPortHoldSet_all (hall : x.fld 18 1 1 = 1) : doOpPortHoldSet c io d =
    let r := (d.portList.filter (fun q => decide (d.lanePolder q = some x.polder))).foldl x.holdPut (false, d)
    r.2.ok c (b2n r.1) := by
  unfold doOpPortHoldSet
  rw [step1_run h hop]
  dsimp only
  simp only [hall, decide_true, Bool.not_true, Bool.false_and, Bool.false_eq_true, if_false, if_true]
  rfl

theorem doOpPortHoldSet_none (hall : x.fld 18 1 1 = 0) (hport : d.isPort (x.fld 16 0 10) = false) :
    doOpPortHoldSet c io d = d.fail c stNotFound := by
  unfold doOpPortHoldSet
  rw [step1_run h hop]
  dsimp only
  rw [hall, hport]
  rfl

end

theorem holdPut_set {x : Cmd} (h : x.fld 18 0 1 = 0) (a : Bool × Dev) (q : Nat) :
    x.holdPut a q = (a.1, a.2.modPort q (fun y => { y with holdUs := x.fld 20 0 17 })) := if_pos h

/-- Without BREAK each port of the list takes HOLD_US, and nothing else changes. -/
theorem foldl_holdPut {x : Cmd} (h : x.fld 18 0 1 = 0) (l : List Nat) (a : Bool × Dev) (q : Nat) : (l.foldl x.holdPut a).1 = a.1 ∧
    (l.foldl x.holdPut a).2.hif = a.2.hif ∧
    (l.foldl x.holdPut a).2.port q = if q ∈ l then { a.2.port q with holdUs := x.fld 20 0 17 } else a.2.port q := by
  induction l generalizing a with
  | nil => exact ⟨rfl, rfl, rfl⟩
  | cons p l ih =>
    rw [List.foldl_cons, holdPut_set h]
    obtain ⟨hb, hh, hp⟩ := ih (a.1, a.2.modPort p (fun y => { y with holdUs := x.fld 20 0 17 }))
    refine ⟨hb, hh, ?_⟩
    rw [hp, Dev.port_modPort]
    by_cases hpq : p = q
    · simp [hpq]
    · simp [hpq, Ne.symm hpq]

theorem holdUs_expireHold (d : Dev) (p : Nat) (brk : Bool) : ((d.expireHold p brk).port p).holdUs = (d.port p).holdUs := by
  have htrain (d : Dev) : ((d.trainStart p).port p).holdUs = (d.port p).holdUs :=
    port_trainStart_keeps Port.holdUs (fun _ _ _ _ _ _ _ => rfl) d p
  have hset (d : Dev) (st : PortSt) : ((d.setPortSt p st).port p).holdUs = (d.port p).holdUs := by rw [port_setPortSt_self]; rfl
  have hflush (d : Dev) (c : Ctr) (b : Bool) : ((d.flushPort p c b).2.2.port p).holdUs = (d.port p).holdUs := by
    rw [port_flushPort, if_pos rfl]
  have hev (d : Dev) (code : Nat) (fs : List (Nat × Nat × Nat)) : ((d.portEvent code p fs).port p).holdUs = (d.port p).holdUs :=
    congrArg Port.holdUs (port_pte (congrArg Pte.ports (pte_portEvent ..)) p)
  unfold Dev.expireHold
  dsimp only
  split
  · rw [htrain, hev, hset, hflush]
  · rw [hev, hset, hflush]

theorem breakBack_effect (d : Dev) (p : Nat) : ((d.breakBack p).port p).st = (d.port p).st ∧
    ((d.breakBack p).port p).holdUs = (d.port p).holdUs ∧ ∀ k ∈ portKeys p, ((d.breakBack p).queue k).ents = [] := by
  have hre (d : Dev) : ((d.reopen p).port p).holdUs = (d.port p).holdUs ∧ (d.reopen p).dp = d.dp := by
    refine ⟨?_, by simp⟩
    unfold Dev.reopen
    split
    · rw [Dev.port_modPort, if_pos rfl]
    · rfl
  unfold Dev.breakBack
  dsimp only
  refine ⟨?_, ?_, fun k hk => ?_⟩
  · rw [(port_reopen ..).1, port_pte (congrArg Pte.ports (pte_portEvent ..)), Dev.port_modPort, if_pos rfl, port_flushPort, if_pos rfl]
  · rw [(hre _).1, port_pte (congrArg Pte.ports (pte_portEvent ..)), Dev.port_modPort, if_pos rfl, port_flushPort, if_pos rfl]
  · rw [queue_dp (hre _).2, queue_dp (dp_portEvent ..), queue_modPort]
    exact ents_flushPort hk ..

/-- BREAK on one port: it ends a running hold, or, in the tick of the link's return, frees the frames that were held. -/
theorem holdPut_break {x : Cmd} (h : x.fld 18 0 1 = 1) (d : Dev) (p : Nat) :
    Calm d (x.holdPut (false, d) p).2 ∧ ((x.holdPut (false, d) p).2.port p).holdUs = x.fld 20 0 17 ∧
    ((d.port p).st = .holdRunning → (x.holdPut (false, d) p).1 = true ∧ ((x.holdPut (false, d) p).2.port p).st = .holdExpired ∧
      ∀ k ∈ portKeys p, ((x.holdPut (false, d) p).2.queue k).ents = []) ∧
    ((d.port p).st = .up → (d.port p).back = some d.bal.tick → (x.holdPut (false, d) p).1 = true ∧
      ((x.holdPut (false, d) p).2.port p).st = .up ∧ ∀ k ∈ portKeys p, ((x.holdPut (false, d) p).2.queue k).ents = []) ∧
    ((d.port p).st ≠ .holdRunning → (d.port p).st ≠ .up → (x.holdPut (false, d) p).1 = false) := by
  unfold Cmd.holdPut
  dsimp only
  generalize he : d.modPort p (fun y => { y with holdUs := x.fld 20 0 17 }) = e
  have hport : e.port p = { d.port p with holdUs := x.fld 20 0 17 } := by rw [← he, Dev.port_modPort, if_pos rfl]
  have hbal : e.bal = d.bal := by rw [← he]; rfl
  have hcalm : Calm d e := by rw [← he]; rfl
  have hthen (f : Dev) (hf : Calm e f) : Calm d f := Eq.trans hf hcalm
  have hst : (e.port p).st = (d.port p).st := by rw [hport]
  have hback : (e.port p).back = (d.port p).back := by rw [hport]
  have hus : (e.port p).holdUs = x.fld 20 0 17 := by rw [hport]
  rw [if_neg (by rw [h]; decide), hst, hback, hbal]
  split
  · rename_i hrun
    obtain ⟨hst', -, -, -, hents⟩ := expireHold_effect e p true
    dsimp only
    exact ⟨hthen _ (Dev.expireHold_calm e p true), by rw [holdUs_expireHold, hus], fun _ => ⟨rfl, hst', hents⟩,
      fun hup => absurd (hrun.symm.trans hup) (by decide), fun hn => absurd hrun hn⟩
  · rename_i hrun
    split
    · rename_i hup
      obtain ⟨hst', hus', hents⟩ := breakBack_effect e p
      dsimp only
      exact ⟨hthen _ (Dev.breakBack_calm e p), by rw [hus', hus], fun hr => absurd hr hrun,
        fun _ _ => ⟨rfl, by rw [hst', hst, hup.1], hents⟩, fun _ hn => absurd hup.1 hn⟩
    · rename_i hup
      exact ⟨hcalm, hus, fun hr => absurd hr hrun, fun h1 h2 => absurd ⟨h1, h2⟩ hup, fun _ _ => rfl⟩

/-! ### Skid buffers and sleep -/

theorem pte_trigger (d : Dev) (p : Nat) : (d.trigger p).pte = d.pte := rfl
theorem ctrs_trigger (d : Dev) (p : Nat) : (d.trigger p).ctrs = d.ctrs := rfl
theorem pte_liveMs (d : Dev) (k attr : Nat) : (d.liveMs k attr).pte = d.pte := by simp
theorem ctrs_liveMs (d : Dev) (k attr : Nat) : (d.liveMs k attr).ctrs = d.ctrs := by simp
theorem pipe_liveMs (d : Dev) (k attr j : Nat) : (d.liveMs k attr).pipe j = d.pipe j := by
  have hp : (d.liveMs k attr).pipes = d.pipes := by simp
  rw [Dev.pipe, hp, Dev.pipe]
theorem pipe_reach (d : Dev) (t j : Nat) : (d.reach t).pipe j = d.pipe j := by
  have hp : (d.reach t).pipes = d.pipes := by simp
  rw [Dev.pipe, hp, Dev.pipe]

theorem src_liveMs_self {k : Nat} (h : (defaultSeverity k).isSome = true) (d : Dev) (attr : Nat) : ((d.liveMs k attr).src k).live = true := by
  unfold Dev.liveMs Dev.liveFor
  rw [if_neg (by rw [Option.isNone_iff_eq_none]; exact Option.isSome_iff_ne_none.1 h), Dev.src_modSrc, if_pos rfl]

theorem intoSkid_fits {d : Dev} {p : Nat} {frame : List Byte}
    (h : (d.wakesInTime (p / 32) || decide ((d.port p).skidBytes + frame.length + 4 ≤ (d.port p).lanes * 8192)) = true) :
    d.intoSkid p frame = d.modPort p (fun y => { y with skid := y.skid ++ [frame] }) := if_pos h

theorem intoSkid_full {d : Dev} {p : Nat} {frame : List Byte}
    (h : (d.wakesInTime (p / 32) || decide ((d.port p).skidBytes + frame.length + 4 ≤ (d.port p).lanes * 8192)) = false) :
    d.intoSkid p frame = (d.bump .drSkidOverrun p).liveMs (0x538 + 64 * (p / 32)) := if_neg (by rw [h]; exact Bool.false_ne_true)

theorem doSofPreIndication_waits {d : Dev} {p : Nat} {frame : List Byte} (htake : d.takesPackets = true) (hport : d.isPort p = true)
    (hup : (d.port p).st = .up) (hloop : d.loopKind p = 0) (hwait : d.parserUp (p / 32) = false ∨ (d.port p).skid ≠ []) :
    doSofPreIndication p frame d = (d.trigger (p / 32)).intoSkid p frame := by
  have hno : (d.parserUp (p / 32) && (d.port p).skid.isEmpty) = false := by
    cases hwait with
    | inl h => rw [h]; rfl
    | inr h => simp [h]
  unfold doSofPreIndication
  dsimp only
  rw [if_neg (by rw [htake, hport, hup, hloop, hno]; decide)]

theorem defaultSeverity_wake {k : Nat} (hk : k < 16) : (defaultSeverity (0x539 + 64 * k)).isSome = true := by
  have : ∀ k < 16, (defaultSeverity (0x539 + 64 * k)).isSome = true := by decide
  exact this k hk

/-- Settles O20, a command and a row at a time. -/
theorem portCommandsAndSleep : Obligations.PortCommandsAndSleep := by
  intro s
  refine ⟨?_, ?_, ?_, ?_⟩
  · rintro c io x p res h rfl rfl
    refine ⟨fun hop => ⟨fun hdown => ?_, fun q hq h8 hov hst => ?_⟩, fun hport => ⟨?_, ?_, ?_, ?_, ?_, ?_⟩, ?_, fun hport => ⟨?_, ?_, ?_, ?_, ?_⟩⟩
    · have hn : s.dev.busyLane (s.dev.outgoing x) = none := by
        refine List.find?_eq_none.2 fun q hq => ?_
        obtain ⟨hq, h8, ho⟩ := mem_outgoing.1 hq
        simp [hdown q hq h8 ho]
      refine ⟨{ s with dev := doOpPortConfig c io s.dev }, rfl, ?_⟩
      rw [doOpPortConfig_free io h hop hn]
      obtain ⟨hhif, ⟨now, hp⟩, hrate⟩ := reconfigured_effect s.dev x
      dsimp only
      rw [port_pte (congrArg Pte.ports (pte_ok ..)), octal_pte (congrArg Pte.macros (pte_ok ..)), hp]
      exact ⟨ok_ended (isRunning_congr hhif h), rfl, rfl, rfl, rfl, rfl, hrate⟩
    · obtain ⟨l, hl⟩ : ∃ l, s.dev.busyLane (s.dev.outgoing x) = some l :=
        Option.isSome_iff_exists.1 (List.find?_isSome.2 ⟨q, mem_outgoing.2 ⟨hq, h8, hov⟩, by simpa using hst⟩)
      refine ⟨{ s with dev := doOpPortConfig c io s.dev }, l, rfl, ?_⟩
      rw [doOpPortConfig_busy io h hop hl]
      exact ⟨fail_ended h, fun q' => port_pte (by simp) q'⟩
    · intro hop
      refine ⟨{ s with dev := doOpPortStateRead c io s.dev }, rfl, ?_⟩
      rw [show doOpPortStateRead c io s.dev = s.dev.portResult c (x.fld 16 0 10) from (step1_run h hop).trans (if_pos hport)]
      obtain ⟨hend, hp, -⟩ := portResult_effect h (x.fld 16 0 10)
      exact ⟨hp, hend⟩
    · intro hop
      refine ⟨{ s with dev := doOpPortStateAdminUp c io s.dev }, rfl, ?_⟩
      rw [show doOpPortStateAdminUp c io s.dev = (s.dev.adminUp (x.fld 16 0 10) c.ep).portResult c (x.fld 16 0 10) from
        (step1_run h hop).trans (if_pos hport)]
      obtain ⟨hend, hp, -⟩ := portResult_effect (isRunning_congr (hif_adminUp s.dev (x.fld 16 0 10) c.ep) h) (x.fld 16 0 10)
      exact ⟨hend, fun hno => by rw [hp, adminUp_none hno], fun hst hpol => by rw [hp, st_adminUp hst hpol]⟩
    · intro hop
      refine ⟨{ s with dev := doOpPortStateAdminDown c io s.dev }, rfl, ?_⟩
      rw [show doOpPortStateAdminDown c io s.dev = (s.dev.adminDown (x.fld 16 0 10) c.ep).portResult c (x.fld 16 0 10) from
        (step1_run h hop).trans (if_pos hport)]
      obtain ⟨hend, hp, hq⟩ := portResult_effect (isRunning_calm (Dev.adminDown_calm s.dev (x.fld 16 0 10) c.ep) h) (x.fld 16 0 10)
      refine ⟨hend, ?_, fun hst => ?_⟩
      · rw [hp]
        by_cases hst : (s.dev.port (x.fld 16 0 10)).st = .adminDown
        · rw [adminDown_down hst, hst]
        · exact (adminDown_effect hst).1
      · obtain ⟨-, hhold, hlocked, hents⟩ := adminDown_effect (ep := c.ep) hst
        exact ⟨by rw [hp, hhold], by rw [hp, hlocked], fun k hk => by rw [hq, hents k hk]⟩
    · intro hop
      refine ⟨{ s with dev := doOpPortStateRetrain c io s.dev }, rfl, ?_⟩
      rw [show doOpPortStateRetrain c io s.dev = (if (s.dev.port (x.fld 16 0 10)).st = .up then
        s.dev.loseLink (x.fld 16 0 10) 0 (x.fld 16 0 10) else s.dev).portResult c (x.fld 16 0 10) from
        (step1_run h hop).trans (if_pos hport)]
      by_cases hup : (s.dev.port (x.fld 16 0 10)).st = .up
      · rw [if_pos hup]
        obtain ⟨hend, hp, -⟩ := portResult_effect (isRunning_calm (Dev.loseLink_calm s.dev (x.fld 16 0 10) 0 (x.fld 16 0 10)) h) (x.fld 16 0 10)
        refine ⟨hend, fun hn => absurd hup hn, fun _ hus => ?_, fun _ hus => ?_⟩
        · obtain ⟨hst, -, he, -⟩ := port_loseLink_hold hus 0 (x.fld 16 0 10)
          exact ⟨by rw [hp, hst], by rw [hp, he]⟩
        · rw [hp, (loseLink_flushed hus 0 (x.fld 16 0 10)).1]
      · rw [if_neg hup]
        obtain ⟨hend, hp, -⟩ := portResult_effect h (x.fld 16 0 10)
        exact ⟨hend, fun _ => hp, fun h => absurd h hup, fun h => absurd h hup⟩
    · intro hop hall hbrk
      refine ⟨{ s with dev := doOpPortHoldSet c io s.dev }, rfl, ?_⟩
      rw [doOpPortHoldSet_one io h hop hall hport, holdPut_set hbrk]
      refine ⟨ok_ended (isRunning_congr rfl h), ?_⟩
      dsimp only
      rw [port_pte (congrArg Pte.ports (pte_ok ..)), Dev.port_modPort, if_pos rfl]
    · intro hop hall hbrk
      refine ⟨{ s with dev := doOpPortHoldSet c io s.dev }, rfl, ?_⟩
      rw [doOpPortHoldSet_one io h hop hall hport]
      obtain ⟨hcalm, hus, hrun, hup, hno⟩ := holdPut_break hbrk s.dev (x.fld 16 0 10)
      have hend {n : Nat} := ok_ended (r0 := n) (r1 := 0) (detail := 0) (isRunning_calm hcalm h)
      dsimp only
      rw [port_pte (congrArg Pte.ports (pte_ok ..))]
      simp only [queue_dp (show ((x.holdPut (false, s.dev) (x.fld 16 0 10)).2.ok c (b2n (x.holdPut (false, s.dev) (x.fld 16 0 10)).1)).dp =
        (x.holdPut (false, s.dev) (x.fld 16 0 10)).2.dp by simp)]
      refine ⟨hus, fun h1 => ?_, fun h1 h2 => ?_, fun h1 h2 => ?_⟩
      · obtain ⟨hb, hst, hents⟩ := hrun h1
        rw [hb]
        exact ⟨hend, hst, hents⟩
      · obtain ⟨hb, hst, hents⟩ := hup h1 h2
        rw [hb]
        exact ⟨hend, hst, hents⟩
      · rw [hno h1 h2]
        exact hend
    · intro hop hall hbrk
      refine ⟨{ s with dev := doOpPortHoldSet c io s.dev }, rfl, ?_⟩
      rw [doOpPortHoldSet_all io h hop hall]
      dsimp only
      generalize hl : s.dev.portList.filter (fun q => decide (s.dev.lanePolder q = some x.polder)) = l
      obtain ⟨hb, hhif, -⟩ := foldl_holdPut hbrk l (false, s.dev) 0
      rw [hb]
      refine ⟨ok_ended (isRunning_congr hhif h), fun q hq => ?_⟩
      rw [port_pte (congrArg Pte.ports (pte_ok ..)), (foldl_holdPut hbrk l (false, s.dev) q).2.2]
      have hmem : q ∈ l ↔ s.dev.lanePolder q = some x.polder := by
        have hlt : q < 512 := by simp [Dev.isPort] at hq; exact hq.1
        rw [← hl, List.mem_filter, decide_eq_true_eq, Dev.portList, List.mem_filter, List.mem_range]
        exact ⟨fun h => h.2, fun h => ⟨⟨hlt, hq⟩, h⟩⟩
      simp only [hmem]
    · exact fun hop => ⟨{ s with dev := doOpPortStateRead c io s.dev }, rfl, by
        rw [show doOpPortStateRead c io s.dev = s.dev.fail c stNotFound from
          (step1_run h hop).trans (if_neg (by rw [hport]; exact Bool.false_ne_true))]
        exact fail_ended h⟩
    · exact fun hop => ⟨{ s with dev := doOpPortStateAdminUp c io s.dev }, rfl, by
        rw [show doOpPortStateAdminUp c io s.dev = s.dev.fail c stNotFound from
          (step1_run h hop).trans (if_neg (by rw [hport]; exact Bool.false_ne_true))]
        exact fail_ended h⟩
    · exact fun hop => ⟨{ s with dev := doOpPortStateAdminDown c io s.dev }, rfl, by
        rw [show doOpPortStateAdminDown c io s.dev = s.dev.fail c stNotFound from
          (step1_run h hop).trans (if_neg (by rw [hport]; exact Bool.false_ne_true))]
        exact fail_ended h⟩
    · exact fun hop => ⟨{ s with dev := doOpPortStateRetrain c io s.dev }, rfl, by
        rw [show doOpPortStateRetrain c io s.dev = s.dev.fail c stNotFound from
          (step1_run h hop).trans (if_neg (by rw [hport]; exact Bool.false_ne_true))]
        exact fail_ended h⟩
    · exact fun hop hall => ⟨{ s with dev := doOpPortHoldSet c io s.dev }, rfl, by
        rw [doOpPortHoldSet_none io h hop hall hport]
        exact fail_ended h⟩
  · rintro p frame fits htake hport hup hloop hwait rfl
    refine ⟨{ s with dev := doSofPreIndication p frame s.dev }, rfl, fun hfit => ?_, fun hfull => ?_⟩
    · dsimp only
      rw [doSofPreIndication_waits htake hport hup hloop hwait, intoSkid_fits hfit, Dev.port_modPort, if_pos rfl]
      rfl
    · dsimp only
      rw [doSofPreIndication_waits htake hport hup hloop hwait, intoSkid_full hfull, port_pte (congrArg Pte.ports (pte_liveMs ..)), Dev.ctr,
        ctrs_liveMs]
      exact ⟨rfl, ctr_bump ..⟩
  · intro k hk hcore hasleep hwaking hus hidle
    refine ⟨{ s with dev := doPipelineSleepEntry k s.dev }, rfl, ?_⟩
    dsimp only
    rw [doPipelineSleepEntry, if_neg (by simp [hk, hcore, hasleep, hwaking, hus, hidle]), Dev.pipe_modPipe, if_pos rfl, pipe_reach]
    exact ⟨rfl, tick_reach ..⟩
  · intro k late hk hwaking
    refine ⟨{ s with dev := doPipelineWake k late s.dev }, rfl, ?_⟩
    dsimp only
    rw [doPipelineWake, if_pos hwaking]
    cases late with
    | false => exact ⟨by simp, fun h => absurd h (by decide)⟩
    | true =>
      rw [if_pos rfl]
      exact ⟨by rw [pipe_liveMs, Dev.pipe_modPipe, if_pos rfl], fun _ => src_liveMs_self (defaultSeverity_wake hk) ..⟩

end Sys2Proof.Machine
end

section
/-! PROOFS. Shapers (12 R370): the clause of the sweep does not say that a bucket was last visited in the past. -/
namespace Sys2Proof.Machine

/-- A bucket whose last visit lies one tick in the future. -/
def earlyBucket : Bucket := { rate := 1, burst := 1, credit := 0, last := 1 }

/-- The device after reset with that bucket in place of port 0's own. -/
def earlyDev : Dev := { ({} : Dev) with esc := { ({} : Dev).esc with buckets := [(0, some earlyBucket)] } }

theorem credit_earlyDev_sweep : ((doShaperRefillSweep 0 earlyDev).bucket 0).credit = -1 := by decide

/-- Refutes O21: the statement counts no tick where a bucket's last visit lies after the present tick, as nothing in it forbids, and so
leaves the credit of `earlyBucket` at 0. The sweep takes the difference as an integer, and the credit falls to -1. -/
theorem not_shapersAccrueAndTheirCommandsComplete : ¬ Obligations.ShapersAccrueAndTheirCommandsComplete := by
  intro h
  obtain ⟨hsweep, -⟩ := h { dev := earlyDev }
  obtain ⟨t, hexec, -, -, hnone, -⟩ := hsweep 0 earlyBucket 0 (by decide) (by decide) rfl (by decide)
  obtain rfl : ({ dev := doShaperRefillSweep 0 earlyDev } : State) = t := by cases hexec; rfl
  have hcredit := (hnone rfl).1
  rw [credit_earlyDev_sweep] at hcredit
  exact absurd hcredit (by decide)

end Sys2Proof.Machine
end

section
/-! PROOFS. Gate lists (12 R376, R380, R382, R391). -/
namespace Sys2Proof.Machine

/-! ### Results that go to host memory -/

/-- A command answers with bytes for its buffer, if there are any, and its results. -/
def Dev.answered (d : Dev) (c : CmdRef) (addr : Nat) (bs : List Byte) (err : Bool) (off r0 r1 detail : Nat) : Dev :=
  (if bs.isEmpty then d else d.hostOut c.ep addr bs err).okBuf c (err && !bs.isEmpty) off r0 r1 detail

section
variable {d : Dev} {c : CmdRef} {x : Cmd} (h : d.isRunning c x) (addr : Nat) {bs : List Byte} {err : Bool} (off r0 r1 detail : Nat)

include h in
theorem isRunning_written : (if bs.isEmpty then d else d.hostOut c.ep addr bs err).isRunning c x := by
  split
  · exact h
  · exact isRunning_hostOut h ..

include h in
theorem answered_ended (hok : err = false ∨ bs = []) : (d.answered c addr bs err off r0 r1 detail).ended c x (okDone r0 r1 detail) := by
  have herr : (err && !bs.isEmpty) = false := by
    cases hok with
    | inl h => rw [h]; rfl
    | inr h => simp [h]
  unfold Dev.answered
  rw [herr]
  exact okBuf_ended (isRunning_written h addr)

include h in
theorem answered_failed (herr : err = true) (hbs : bs ≠ []) : (d.answered c addr bs err off r0 r1 detail).ended c x
    { status := stTimeout, r0 := BitVec.ofNat 64 r0, r1 := BitVec.ofNat 64 r1, detail := BitVec.ofNat 32 off } := by
  have hne : (err && !bs.isEmpty) = true := by simp [herr, hbs]
  unfold Dev.answered
  rw [hne]
  exact finish_ended (isRunning_written h addr)

theorem out_answered (herr : err = false) (hbs : bs ≠ []) (hup : (d.ep c.ep).up = true) :
    (d.answered c addr bs err off r0 r1 detail).out = .hostWrite c.ep addr bs :: d.out := by
  have hne : bs.isEmpty = false := by simp [hbs]
  have hok (d : Dev) (err : Bool) : (d.okBuf c err off r0 r1 detail).out = d.out := by simp
  unfold Dev.answered
  rw [hok, hne, herr]
  simp [Dev.hostOut, Dev.emit, hup]

theorem esc_answered : (d.answered c addr bs err off r0 r1 detail).esc = d.esc := by
  unfold Dev.answered
  split <;> simp

end

/-! ### Tables of a port -/

theorem tide_esc {d d' : Dev} (h : d'.esc.tides = d.esc.tides) (p : Nat) : d'.tide p = d.tide p := by rw [Dev.tide, h, Dev.tide]

theorem timePs_modTide (d : Dev) (p : Nat) (f : TidePort → TidePort) : (d.modTide p f).timePs = d.timePs := by
  unfold Dev.timePs Dev.modTide
  rfl

theorem esc_reachNs (d : Dev) (ns : Nat) : (d.reachNs ns).esc = d.esc := by simp

theorem tide_tideReload (d : Dev) (p : Nat) : (d.tideReload p).tide p = { d.tide p with eccOff := false } := by
  have hclear (d : Dev) : (d.clearLive 0xD21).esc = d.esc := by simp
  unfold Dev.tideReload
  dsimp only
  split
  · rw [Dev.tide_modTide, if_pos rfl]
  · rw [tide_esc (congrArg Esc.tides (hclear _)), Dev.tide_modTide, if_pos rfl]

theorem tide_tideStart {d : Dev} {p : Nat} {l : Tide} {cct : Nat} (h : (d.tide p).pending = some (l, cct)) :
    (d.tideStart p).tide p = { d.tide p with oper := some l, pending := none, at_ := 0 } := by
  have hrec (d : Dev) (code : Nat) (who : Who) (source : Option Nat) (data : BitVec 160) : (d.record code who source data).esc = d.esc := by simp
  unfold Dev.tideStart
  rw [h]
  dsimp only
  rw [tide_esc (congrArg Esc.tides (hrec ..)), Dev.tide_modTide, if_pos rfl]

theorem doTideListEcc_effect {d : Dev} {p e : Nat} {l : Tide} (h : (d.tide p).oper = some l) (he : e < l.entries.length) :
    (doTideListEcc p e d).tide p = { d.tide p with oper := none, pending := none, eccOff := true } ∧
    ((doTideListEcc p e d).src 0xD21).live = true := by
  have hrec (d : Dev) (code : Nat) (who : Who) (source : Option Nat) (data : BitVec 160) :
      (d.record code who source data).esc = d.esc ∧ (d.record code who source data).fcr = d.fcr := by simp
  have hset (d : Dev) (k attr : Nat) : (d.setLive k attr).esc = d.esc := by simp
  unfold doTideListEcc
  rw [h]
  dsimp only
  rw [if_neg (Nat.not_le.2 he), tide_esc (congrArg Esc.tides (hrec ..).1), tide_esc (congrArg Esc.tides (hset ..)), Dev.tide_modTide,
    if_pos rfl, src_fcr (hrec ..).2]
  exact ⟨rfl, setLive_src_self rfl ..⟩

/-! ### What wakes a port's pipeline -/

section
variable (d : Dev) (p : Nat)

theorem hif_wakeFor : (d.wakeFor p).hif = d.hif := by simp
theorem esc_wakeFor : (d.wakeFor p).esc = d.esc := by simp
theorem tmu_wakeFor : (d.wakeFor p).tmu = d.tmu := by simp
theorem out_wakeFor : (d.wakeFor p).out = d.out := by simp

theorem isPort_wakeFor (q : Nat) : (d.wakeFor p).isPort q = d.isPort q := by
  have hpte : (d.wakeFor p).pte = d.pte := by simp
  rw [Dev.isPort, port_pte (congrArg Pte.ports hpte), Dev.isPort]

theorem tide_wakeFor (q : Nat) : (d.wakeFor p).tide q = d.tide q := tide_esc (congrArg Esc.tides (esc_wakeFor d p)) q

theorem ep_wakeFor (e : Nat) : (d.wakeFor p).ep e = d.ep e := ep_hif (hif_wakeFor d p) e

theorem timeNsAll_wakeFor : (d.wakeFor p).timeNsAll = d.timeNsAll := by rw [Dev.timeNsAll, tmu_wakeFor, Dev.timeNsAll]

end

theorem esc_fail (d : Dev) (c : CmdRef) (st detail : Nat) : (d.fail c st detail).esc = d.esc := by simp
theorem esc_ok (d : Dev) (c : CmdRef) (r0 r1 detail : Nat) : (d.ok c r0 r1 detail).esc = d.esc := by simp

/-! ### OP_TIDE_TABLE_SET -/

/-- The list that OP_TIDE_TABLE_SET SET loads. -/
def Cmd.gateList (x : Cmd) (bs : List Byte) : Tide :=
  { entries := (tideEntries (x.fld 20 0 16) bs).map (fun e => (e.1, e.2.1)), baseNs := x.fld 32 0 48 * 1000000000 + x.fld 40 0 32
    cycle := x.fld 44 0 32 }

/-- An entry that a list of a cycle may not hold. -/
def badEntry (cycle : Nat) (e : Nat × Nat × Nat) : Bool := decide (e.1 < 8 ∨ cycle < e.1 ∨ e.2.2 ≠ 0)

/-- The time at which a new list becomes operational. -/
def Dev.cctOf (d : Dev) (x : Cmd) : Nat :=
  if d.timeNsAll ≤ x.fld 32 0 48 * 1000000000 + x.fld 40 0 32 then x.fld 32 0 48 * 1000000000 + x.fld 40 0 32
  else x.fld 32 0 48 * 1000000000 + x.fld 40 0 32 +
    cdiv (d.timeNsAll - (x.fld 32 0 48 * 1000000000 + x.fld 40 0 32)) (x.fld 44 0 32) * x.fld 44 0 32

/-- The lengths of a port's lists, and whether it is enabled and has both. -/
def TidePort.readFlags (y : TidePort) : Nat :=
  pack [(0, 11, ((y.oper.map Tide.entries).getD []).length), (11, 11, (y.pending.map (fun t => t.1.entries.length)).getD 0),
    (22, 1, b2n y.enabled), (23, 1, b2n (y.oper.isSome && y.pending.isSome))]

/-- The time of a list that waits. -/
def TidePort.pendingCct (y : TidePort) : Nat := (y.pending.map (fun t => t.2)).getD 0

section
variable {d : Dev} {c : CmdRef} {x : Cmd} (io : Io) (h : d.isRunning c x)
include h

theorem doOpTideTableSetSet_port (hop : isOpAct 0x52 (18, 0, 2) 0 x = true) : doOpTideTableSetSet c io d =
    if !(d.wakeFor (x.fld 16 0 10)).isPort (x.fld 16 0 10) then (d.wakeFor (x.fld 16 0 10)).fail c stNotFound
    else match ioBytes io (8 * x.fld 20 0 16) with
      | none => (d.wakeFor (x.fld 16 0 10)).fail c stTimeout 24
      | some bs =>
        match (tideEntries (x.fld 20 0 16) bs).findIdx? (badEntry (x.fld 44 0 32)) with
        | some i => (d.wakeFor (x.fld 16 0 10)).fail c stBadOperand (24 + 256 * 1 + 65536 * i)
        | none =>
          (((d.wakeFor (x.fld 16 0 10)).modTide (x.fld 16 0 10) (fun y =>
            { y with pending := some (x.gateList bs, (d.wakeFor (x.fld 16 0 10)).cctOf x), growth := x.fld 19 0 8 })).tideReload
              (x.fld 16 0 10)).ok c (b2n ((d.wakeFor (x.fld 16 0 10)).tide (x.fld 16 0 10)).pending.isSome * 2 ^ 24)
              ((d.wakeFor (x.fld 16 0 10)).cctOf x / 1000000000 % 2 ^ 48) ((d.wakeFor (x.fld 16 0 10)).cctOf x % 1000000000) := by
  unfold doOpTideTableSetSet
  rw [step1_run h hop]
  rfl

theorem doOpTideTableSetSet_good (hop : isOpAct 0x52 (18, 0, 2) 0 x = true) (hport : d.isPort (x.fld 16 0 10) = true) {bs : List Byte}
    (hio : ioBytes io (8 * x.fld 20 0 16) = some bs)
    (hgood : ∀ e ∈ tideEntries (x.fld 20 0 16) bs, 8 ≤ e.1 ∧ e.1 ≤ x.fld 44 0 32 ∧ e.2.2 = 0) :
    (doOpTideTableSetSet c io d).ended c x (okDone (b2n (d.tide (x.fld 16 0 10)).pending.isSome * 2 ^ 24)
      (d.cctOf x / 1000000000 % 2 ^ 48) (d.cctOf x % 1000000000)) ∧
    (doOpTideTableSetSet c io d).tide (x.fld 16 0 10) = { d.tide (x.fld 16 0 10) with
      pending := some (x.gateList bs, d.cctOf x), growth := x.fld 19 0 8, eccOff := false } := by
  have hnone : (tideEntries (x.fld 20 0 16) bs).findIdx? (badEntry (x.fld 44 0 32)) = none := by
    refine List.findIdx?_eq_none_iff.2 fun e he => decide_eq_false ?_
    obtain ⟨h8, hc, h0⟩ := hgood e he
    omega
  have hcct : (d.wakeFor (x.fld 16 0 10)).cctOf x = d.cctOf x := by simp only [Dev.cctOf, timeNsAll_wakeFor]
  have hreload (d : Dev) : (d.tideReload (x.fld 16 0 10)).hif = d.hif := by simp
  rw [doOpTideTableSetSet_port io h hop, isPort_wakeFor, hport, if_neg (by decide), hio]
  dsimp only
  rw [hnone]
  dsimp only
  rw [hcct, tide_wakeFor, tide_esc (congrArg Esc.tides (esc_ok ..)), tide_tideReload, Dev.tide_modTide, if_pos rfl, tide_wakeFor]
  exact ⟨ok_ended (isRunning_congr ((hreload _).trans (hif_wakeFor ..)) h), rfl⟩

theorem doOpTideTableSetRead_port (hop : isOpAct 0x52 (18, 0, 2) 2 x = true) (hport : d.isPort (x.fld 16 0 10) = true) :
    doOpTideTableSetRead c io d = (d.wakeFor (x.fld 16 0 10)).answered c (x.fld 24 0 64)
      (((((d.wakeFor (x.fld 16 0 10)).tide (x.fld 16 0 10)).oper.map Tide.entries).getD []).take (x.fld 20 0 16) |>.map
        (fun e => leBytes 8 (e.1 + e.2 * 2 ^ 32))).flatten io.wrErr 24
      (((d.wakeFor (x.fld 16 0 10)).tide (x.fld 16 0 10)).readFlags)
      (((d.wakeFor (x.fld 16 0 10)).tide (x.fld 16 0 10)).pendingCct / 1000000000 % 2 ^ 48)
      (((d.wakeFor (x.fld 16 0 10)).tide (x.fld 16 0 10)).pendingCct % 1000000000) := by
  unfold doOpTideTableSetRead
  rw [step1_run h hop]
  dsimp only
  rw [isPort_wakeFor, hport]
  rfl

end

/-- Settles O22, a row and a command at a time. -/
theorem gateListsFollowTheirTimes : Obligations.GateListsFollowTheirTimes := by
  intro s
  refine ⟨?_, ?_, ?_, ?_⟩
  · intro p l cct hp
    refine ⟨{ s with dev := doTideCctReached p s.dev }, rfl, ?_⟩
    dsimp only
    unfold doTideCctReached
    rw [hp]
    dsimp only
    have hp' : ((s.dev.reachNs cct).tide p).pending = some (l, cct) := by rw [tide_esc (congrArg Esc.tides (esc_reachNs ..)), hp]
    rw [tide_tideStart hp']
    exact ⟨rfl, rfl, rfl⟩
  · intro p l hl
    refine ⟨{ s with dev := doTideGateChange p s.dev }, rfl, ?_⟩
    dsimp only
    unfold doTideGateChange
    rw [hl]
    dsimp only
    rw [Dev.tide_modTide, if_pos rfl, tide_esc (congrArg Esc.tides (esc_reachNs ..)), timePs_modTide, hl]
  · intro p l e hl he
    refine ⟨{ s with dev := doTideListEcc p e s.dev }, rfl, ?_⟩
    obtain ⟨htide, hlive⟩ := doTideListEcc_effect hl he
    dsimp only
    rw [htide]
    exact ⟨rfl, rfl, hlive⟩
  · rintro c io x p h rfl
    have hw (q : Nat) : (s.dev.wakeFor q).isRunning c x := isRunning_congr (hif_wakeFor s.dev q) h
    refine ⟨?_, ?_, ?_, ?_⟩
    · rintro base cct hop rfl rfl
      refine ⟨{ s with dev := doOpTideTableSetSet c io s.dev }, rfl, fun hport => ?_, fun hport hio => ?_, fun bs i hport hio hbad => ?_,
        fun bs hport hio hgood => ?_⟩
      · dsimp only
        rw [doOpTideTableSetSet_port io h hop, isPort_wakeFor, hport, if_pos (show (!false) = true from rfl), esc_fail, esc_wakeFor]
        exact ⟨fail_ended (hw _), rfl⟩
      · dsimp only
        rw [doOpTideTableSetSet_port io h hop, isPort_wakeFor, hport, if_neg (by decide), hio]
        dsimp only
        rw [esc_fail, esc_wakeFor]
        exact ⟨fail_ended (hw _), rfl⟩
      · dsimp only
        rw [doOpTideTableSetSet_port io h hop, isPort_wakeFor, hport, if_neg (by decide), hio]
        dsimp only
        rw [show (tideEntries (x.fld 20 0 16) bs).findIdx? (badEntry (x.fld 44 0 32)) = some i from hbad]
        dsimp only
        rw [esc_fail, esc_wakeFor]
        exact ⟨fail_ended (hw _), rfl⟩
      · obtain ⟨hend, htide⟩ := doOpTideTableSetSet_good io h hop hport hio hgood
        dsimp only
        rw [htide]
        exact ⟨hend, rfl, rfl, x.gateList bs, rfl, rfl, rfl, rfl⟩
    · intro hop
      refine ⟨{ s with dev := doOpTideTableSetDisable c io s.dev }, rfl, fun hport => ?_, fun hport => ?_⟩
      · dsimp only
        rw [show doOpTideTableSetDisable c io s.dev = (s.dev.wakeFor (x.fld 16 0 10)).fail c stNotFound from
          (step1_run h hop).trans (if_pos (by rw [isPort_wakeFor, hport]; rfl)), esc_fail, esc_wakeFor]
        exact ⟨fail_ended (hw _), rfl⟩
      · dsimp only
        rw [show doOpTideTableSetDisable c io s.dev = ((s.dev.wakeFor (x.fld 16 0 10)).modTide (x.fld 16 0 10) (fun y =>
          { y with oper := none, pending := none })).ok c from
          (step1_run h hop).trans (if_neg (by rw [isPort_wakeFor, hport]; decide)), tide_esc (congrArg Esc.tides (esc_ok ..)),
          Dev.tide_modTide, if_pos rfl, tide_wakeFor]
        exact ⟨ok_ended (isRunning_congr rfl (hw _)), rfl⟩
    · rintro es bs r0 cct hop hport rfl rfl rfl rfl
      refine ⟨{ s with dev := doOpTideTableSetRead c io s.dev }, rfl, ?_⟩
      dsimp only
      rw [doOpTideTableSetRead_port io h hop hport, tide_wakeFor]
      refine ⟨(esc_answered ..).trans (esc_wakeFor ..), fun hok => answered_ended (hw _) _ _ _ _ _ hok, fun herr hbs hup => ?_,
        fun herr hbs => ⟨_, answered_failed (hw _) _ _ _ _ _ herr hbs, rfl, rfl⟩⟩
      exact (out_answered _ _ _ _ _ herr hbs (by rw [ep_wakeFor, hup])).trans (by rw [out_wakeFor])
    · exact fun hop hport => ⟨{ s with dev := doOpTideTableSetRead c io s.dev }, rfl, by
        rw [show doOpTideTableSetRead c io s.dev = (s.dev.wakeFor (x.fld 16 0 10)).fail c stNotFound from
          (step1_run h hop).trans (if_pos (by rw [isPort_wakeFor, hport]; rfl))]
        exact fail_ended (hw _)⟩

end Sys2Proof.Machine
end

section
/-! PROOFS. Weirs (13 R418, R419, R420). -/
namespace Sys2Proof.Machine

/-- Both buckets of a weir are under their bursts. -/
def Weir.capped (x : Weir) : Prop := x.c ≤ x.cfg.cbs * 200000 ∧ x.p ≤ x.cfg.pbs * 200000

theorem capped_refill (x : Weir) (now : Nat) : (x.refill now).capped := ⟨min_le_right .., min_le_right ..⟩

/-! ### The steps of an exchange -/

/-- What the satellites hold comes back, and the home meter refills its buckets. -/
def Weir.gathered (x : Weir) (sats : List Nat) (now : Nat) : Weir :=
  ({ x with
    c := x.c + sats.foldl (fun n q => n + (tget x.grants (0, 0) q).1) 0
    p := x.p + sats.foldl (fun n q => n + (tget x.grants (0, 0) q).2) 0
    grants := [] } : Weir).refill now

/-- The first exchange of a new weir fills its buckets. -/
def Weir.opened (x : Weir) (due : Option WeirCfg) : Weir :=
  if x.fresh then
    match due with
    | some c => { x with fresh := false, c := c.cbs * unitsPerByte, p := c.pbs * unitsPerByte }
    | none => x
  else x

/-- Values that were set take the place of those in force. -/
def Weir.takenUp (x : Weir) (due : Option WeirCfg) : Weir :=
  match due with
  | some c => { x with cfg := c, next := none, c := min x.c (c.cbs * unitsPerByte), p := min x.p (c.pbs * unitsPerByte) }
  | none => x

/-- A satellite takes its grant. -/
def Weir.grant (x : Weir) (q : Nat) : Weir :=
  let s := tget x.spent (0, 0) q
  let gc := max 0 (min x.c (weirRequest (x.asked.contains (2 * q)) s.1 * unitsPerByte))
  let gp := max 0 (min x.p (weirRequest (x.asked.contains (2 * q + 1)) s.2 * unitsPerByte))
  { x with
    c := x.c - gc, p := x.p - gp, grants := tset x.grants (0, 0) q (gc, gp)
    granted := x.granted + (gp / unitsPerByte).toNat }

theorem exchange_eq (x : Weir) (home now : Nat) : ∃ order : List Nat, x.exchange home now =
    let g := x.gathered ((List.range 4).filter (· ≠ home)) now
    let due := if g.setTick < now then g.next else none
    let y := order.foldl Weir.grant { (g.opened due).takenUp due with granted := 0 }
    { y with spent := [], asked := [], rr := (y.rr + 1) % 3 } := ⟨_, rfl⟩

/-- Grants leave all but the buckets and the grants, and cap them no less. -/
theorem foldl_grant (l : List Nat) (x : Weir) : (l.foldl Weir.grant x).cfg = x.cfg ∧ (l.foldl Weir.grant x).next = x.next ∧
    (l.foldl Weir.grant x).holds = x.holds ∧ (l.foldl Weir.grant x).rr = x.rr ∧ (x.capped → (l.foldl Weir.grant x).capped) := by
  induction l generalizing x with
  | nil => exact ⟨rfl, rfl, rfl, rfl, id⟩
  | cons q l ih =>
    obtain ⟨hcfg, hnext, hholds, hrr, hcap⟩ := ih (x.grant q)
    refine ⟨hcfg, hnext, hholds, hrr, fun ⟨hc, hp⟩ => hcap ⟨?_, ?_⟩⟩
    · exact (Int.sub_le_self _ (le_max_left ..)).trans hc
    · exact (Int.sub_le_self _ (le_max_left ..)).trans hp

theorem opened_parts (x : Weir) (due : Option WeirCfg) : (x.opened due).cfg = x.cfg ∧ (x.opened due).next = x.next ∧
    (x.opened due).holds = x.holds ∧ (x.opened due).rr = x.rr ∧ (due = none → x.opened due = x) := by
  unfold Weir.opened
  split
  · split
    · exact ⟨rfl, rfl, rfl, rfl, fun h => absurd h (by simp)⟩
    · exact ⟨rfl, rfl, rfl, rfl, fun _ => rfl⟩
  · exact ⟨rfl, rfl, rfl, rfl, fun _ => rfl⟩

/-- The values that are due are in force, and both buckets are under their bursts. -/
theorem takenUp_parts {x : Weir} (due : Option WeirCfg) (h : x.capped) :
    ((x.opened due).takenUp due).cfg = due.getD x.cfg ∧ ((x.opened due).takenUp due).next = (if due.isSome then none else x.next) ∧
    ((x.opened due).takenUp due).holds = x.holds ∧ ((x.opened due).takenUp due).rr = x.rr ∧ ((x.opened due).takenUp due).capped := by
  obtain ⟨hcfg, hnext, hholds, hrr, hsame⟩ := opened_parts x due
  cases due with
  | none => exact ⟨hcfg, hnext, hholds, hrr, by rw [hsame rfl]; exact h⟩
  | some c => exact ⟨rfl, rfl, hholds, hrr, min_le_right .., min_le_right ..⟩

theorem exchange_effect (x : Weir) (home now : Nat) : (x.exchange home now).spent = [] ∧ (x.exchange home now).asked = [] ∧
    (x.exchange home now).rr = (x.rr + 1) % 3 ∧ (x.exchange home now).holds = x.holds ∧
    (x.setTick < now → (x.exchange home now).next = none ∧ (x.exchange home now).cfg = x.next.getD x.cfg) ∧
    (now ≤ x.setTick → (x.exchange home now).next = x.next ∧ (x.exchange home now).cfg = x.cfg) ∧ (x.exchange home now).capped := by
  obtain ⟨order, hx⟩ := exchange_eq x home now
  have hgcfg : (x.gathered ((List.range 4).filter (· ≠ home)) now).cfg = x.cfg := rfl
  have hgnext : (x.gathered ((List.range 4).filter (· ≠ home)) now).next = x.next := rfl
  have hgholds : (x.gathered ((List.range 4).filter (· ≠ home)) now).holds = x.holds := rfl
  have hgrr : (x.gathered ((List.range 4).filter (· ≠ home)) now).rr = x.rr := rfl
  have hgset : (x.gathered ((List.range 4).filter (· ≠ home)) now).setTick = x.setTick := rfl
  have hgcap : (x.gathered ((List.range 4).filter (· ≠ home)) now).capped := capped_refill ..
  rw [hx]
  dsimp only
  generalize x.gathered ((List.range 4).filter (· ≠ home)) now = g at hgcfg hgnext hgholds hgrr hgset hgcap
  rw [hgset, hgnext]
  generalize hdue : (if x.setTick < now then x.next else none) = due
  obtain ⟨hcfg, hnext, hholds, hrr, hcap⟩ := takenUp_parts due hgcap
  obtain ⟨hcfg', hnext', hholds', hrr', hcap'⟩ := foldl_grant order { (g.opened due).takenUp due with granted := 0 }
  refine ⟨rfl, rfl, ?_, ?_, fun hlt => ?_, fun hle => ?_, hcap' hcap⟩
  · rw [hrr']
    exact congrArg (fun n => (n + 1) % 3) (hrr.trans hgrr)
  · exact hholds'.trans (hholds.trans hgholds)
  · rw [if_pos hlt] at hdue
    refine ⟨hnext'.trans (hnext.trans ?_), hcfg'.trans (hcfg.trans (by rw [hgcfg, hdue]))⟩
    cases due with
    | none => exact hgnext.trans hdue
    | some c => rfl
  · rw [if_neg (Nat.not_lt.2 hle)] at hdue
    subst hdue
    exact ⟨hnext'.trans (hnext.trans hgnext), hcfg'.trans (hcfg.trans hgcfg)⟩

/-! ### The weirs of the device -/

theorem tget_map_key {α : Type} (t : Tab (Option α)) (f : Nat → α → α) (k : Nat) :
    tget (t.map (fun x => (x.1, x.2.map (f x.1)))) none k = (tget t none k).map (f k) := by
  induction t with
  | nil => rfl
  | cons x t ih =>
    simp only [List.map_cons, tget]
    split
    next h => rw [h]
    next h => exact ih

theorem mrp_reach (d : Dev) (t : Nat) : (d.reach t).mrp = d.mrp := by simp

theorem weir_doWeirExchange {d : Dev} {w : Nat} {x : Weir} (h : d.weir w = some x) :
    (doWeirExchange d).weir w = some (x.exchange (w / 65536) (d.reach (d.mrp.lastExchange + 100)).bal.tick) := by
  unfold doWeirExchange Dev.weir
  dsimp only
  rw [mrp_reach, tget_map_key d.mrp.weirs (fun k x => x.exchange (k / 65536) (d.reach (d.mrp.lastExchange + 100)).bal.tick), ← Dev.weir, h]
  rfl

theorem weir_modWeir {d : Dev} {w : Nat} {x : Weir} (h : d.weir w = some x) (f : Weir → Weir) : (d.modWeir w f).weir w = some (f x) := by
  simp only [Dev.weir, Dev.modWeir, tget_tmod]
  rw [← Dev.weir, h]
  simp

/-- A hold is looked at 1 µs after it began, once the home meter has refilled its buckets. -/
theorem weir_doWeirHoldRelease {d : Dev} {w port cls at_ : Nat} {x : Weir} (h : d.weir w = some x)
    (hh : x.holds.find? (fun h => decide (h.1 = 8 * port + cls)) = some (8 * port + cls, at_)) :
    (doWeirHoldRelease w port cls d).bal = (d.reach (at_ + 25)).bal ∧
    (doWeirHoldRelease w port cls d).weir w = some (let y := x.refill (d.reach (at_ + 25)).bal.tick
      if y.p < 0 ∨ y.grants.any (fun g => decide (g.2.2 < 0)) then y
      else { y with holds := y.holds.filter (fun g => decide (g.1 ≠ 8 * port + cls)) }) := by
  have hx : (d.reach (at_ + 25)).weir w = some x := by rw [Dev.weir, mrp_reach]; exact h
  have hy := weir_modWeir hx (fun x => x.refill (d.reach (at_ + 25)).bal.tick)
  unfold doWeirHoldRelease
  rw [h, Option.bind_some, hh]
  dsimp only
  rw [show at_ + usTicks 1 = at_ + 25 from rfl, hy]
  dsimp only
  split
  · exact ⟨rfl, hy⟩
  · exact ⟨rfl, weir_modWeir hy _⟩

/-- Settles O23, by the steps of an exchange. -/
theorem weirsExchangeAndRelease : Obligations.WeirsExchangeAndRelease := by
  intro s
  constructor
  · refine ⟨{ s with dev := doWeirExchange s.dev }, rfl, tick_reach .., rfl, fun w x hx => ?_⟩
    exact ⟨_, weir_doWeirExchange hx, exchange_effect ..⟩
  · intro w port cls x at_ hx hh
    obtain ⟨hbal, hw⟩ := weir_doWeirHoldRelease hx hh
    refine ⟨{ s with dev := doWeirHoldRelease w port cls s.dev }, rfl, ?_, _, hw, ?_⟩
    · dsimp only
      rw [hbal]
      exact tick_reach ..
    · dsimp only
      generalize (s.dev.reach (at_ + 25)).bal.tick = now
      have hp : 0 ≤ x.p → 0 ≤ (x.refill now).p := fun h0 =>
        le_min (Int.add_nonneg h0 (Int.mul_nonneg (Int.natCast_nonneg _) (Int.natCast_nonneg _)))
          (Int.mul_nonneg (Int.natCast_nonneg _) (by decide))
      split
      next hdebt =>
        refine ⟨fun h0 hg => absurd hdebt ?_, fun _ => rfl, hp⟩
        rintro (hneg | hany)
        · exact absurd hneg (Int.not_lt.2 h0)
        · obtain ⟨g, hmem, hlt⟩ := List.any_eq_true.1 hany
          exact absurd (of_decide_eq_true hlt) (Int.not_lt.2 (hg g hmem))
      next hnone =>
        refine ⟨fun _ _ => rfl, fun hdebt => absurd ?_ hnone, hp⟩
        exact hdebt.imp_right fun ⟨g, hmem, hlt⟩ => List.any_eq_true.2 ⟨g, hmem, decide_eq_true hlt⟩

end Sys2Proof.Machine
end

section
/-! PROOFS. The rows of the Event Recorder (16 R476 to R488). -/
namespace Sys2Proof.Machine

/-! ### What the operations on records change of the recorder -/

section
variable (d : Dev)

theorem evr_recLost (n : Nat) : ∃ lost, (d.recLost n).evr = { d.evr with lostInFreeze := lost } := by
  have hlive (d : Dev) (k attr : Nat) : (d.liveMs k attr).evr = d.evr := by simp
  unfold Dev.recLost
  dsimp only
  split
  · rw [hlive]
    exact ⟨_, rfl⟩
  · rw [hlive]
    exact ⟨d.evr.lostInFreeze, rfl⟩

theorem evr_untold (r : Rec) : ∃ ovr, (d.untold r).evr = { d.evr with overruns := ovr } := by
  unfold Dev.untold
  split
  · exact ⟨d.evr.overruns, rfl⟩
  · exact ⟨_, rfl⟩

/-- A record that is pushed goes into the input queue. -/
theorem evr_pushRec (r : Rec) : ∃ input ovr, (d.pushRec r).evr = { d.evr with input := input, overruns := ovr } := by
  unfold Dev.pushRec
  split
  · exact ⟨_, _, rfl⟩
  · dsimp only
    split
    · obtain ⟨ovr, h⟩ := evr_untold (d.bump .evrInputDrop 0) r
      exact ⟨d.evr.input, ovr, h⟩
    · rename_i i _
      generalize (d.bump .evrInputDrop 0).evr.input.reverse[i]? = o
      cases o with
      | none => exact ⟨_, d.evr.overruns, rfl⟩
      | some y =>
        obtain ⟨ovr, h⟩ := evr_untold (d.bump .evrInputDrop 0) y
        refine ⟨(d.evr.input.reverse.eraseIdx i).reverse ++ [r], ovr, ?_⟩
        simp only [Option.elim_some, h]
        rfl

theorem evr_recordSev (code sev : Nat) (who : Who) (source : Option Nat) (data : BitVec 160) (hist : Option Nat) :
    ∃ input ovr, (d.recordSev code sev who source data hist).evr = { d.evr with input := input, overruns := ovr } := evr_pushRec ..

theorem evr_record (code : Nat) (who : Who) (source : Option Nat) (data : BitVec 160) :
    ∃ input ovr, (d.record code who source data).evr = { d.evr with input := input, overruns := ovr } := evr_pushRec ..

theorem evr_persistPush (r : Rec) : ∃ q n, (d.persistPush r).evr = { d.evr with pqueue := q, pdropped := n } := by
  have hlive (d : Dev) (k attr : Nat) : (d.liveMs k attr).evr = d.evr := by simp
  unfold Dev.persistPush
  dsimp only
  split
  · exact ⟨_, d.evr.pdropped, rfl⟩
  · split
    · exact ⟨_, d.evr.pdropped, rfl⟩
    · split
      · rw [hlive]
        exact ⟨_, _, rfl⟩
      · rw [hlive]
        exact ⟨d.evr.pqueue, _, rfl⟩

theorem evr_fifoPush (r : Rec) : ∃ fifo lost, (d.fifoPush r).evr = { d.evr with fifo := fifo, lostInFreeze := lost } := by
  obtain ⟨lost, hlost⟩ := evr_recLost d 1
  unfold Dev.fifoPush
  dsimp only
  split
  · exact ⟨_, d.evr.lostInFreeze, rfl⟩
  · split
    · split
      · rw [hlost]
        exact ⟨_, _, rfl⟩
      · exact ⟨d.evr.fifo, lost, hlost⟩
    · exact ⟨d.evr.fifo, lost, hlost⟩

theorem evr_fifoPush_room {r : Rec} (h : d.evr.fifo.length < 256) : (d.fifoPush r).evr = { d.evr with fifo := d.evr.fifo ++ [r] } :=
  congrArg Dev.evr (if_pos h)

theorem evr_logWrite (r : Rec) : ∃ log used bank bankUsed newest any lost, (d.logWrite r).evr = { d.evr with
    log := log, used := used, bank := bank, bankUsed := bankUsed, newest := newest, anyLogged := any, lostInFreeze := lost } := by
  unfold Dev.logWrite
  dsimp only
  split
  · split
    · obtain ⟨lost, h⟩ := evr_recLost { d with evr := { d.evr with
        bank := (placeRec d.evr.bank d.evr.bankUsed 16 r).1, bankUsed := (placeRec d.evr.bank d.evr.bankUsed 16 r).2.1, newest := r.seq
        anyLogged := true } } 1
      exact ⟨d.evr.log, d.evr.used, _, _, _, _, lost, h⟩
    · exact ⟨d.evr.log, d.evr.used, _, _, _, _, d.evr.lostInFreeze, rfl⟩
  · split
    · obtain ⟨lost, h⟩ := evr_recLost { d with evr := { d.evr with
        log := (placeRec d.evr.log d.evr.used 65536 r).1, used := (placeRec d.evr.log d.evr.used 65536 r).2.1, newest := r.seq
        anyLogged := true } } 1
      exact ⟨_, _, d.evr.bank, d.evr.bankUsed, _, _, lost, h⟩
    · exact ⟨_, _, d.evr.bank, d.evr.bankUsed, _, _, d.evr.lostInFreeze, rfl⟩

/-- The log has a slot that was never used. -/
theorem evr_logWrite_room {r : Rec} (hditch : d.evr.lastDitch = false) (h : d.evr.used < 65536) : (d.logWrite r).evr = { d.evr with
    log := tset d.evr.log none d.evr.used (some r), used := d.evr.used + 1, newest := r.seq, anyLogged := true } := by
  have hplace : placeRec d.evr.log d.evr.used 65536 r = (tset d.evr.log none d.evr.used (some r), d.evr.used + 1, false) := if_pos h
  unfold Dev.logWrite
  dsimp only
  rw [hditch, hplace]
  rfl

theorem writeCheck_sound {check : Ecc} (h : check = .clean ∨ check = .corrected) : d.writeCheck check = d := by
  unfold Dev.writeCheck
  split
  · rfl
  · split
    · obtain rfl | rfl := h <;> rfl
    · rfl

end

/-! ### RECORD_ADMIT -/

/-- A record with its SEQ and POWER_CYCLES. -/
def Dev.numbered (d : Dev) (r : Rec) : Rec := { r with seq := d.evr.nextSeq, powerCycles := d.evr.powerCycles }

/-- The device once a record has its SEQ and has gone to the persistent queue and the trace rings. -/
def Dev.announced (d : Dev) (r : Rec) : Dev :=
  let e := (({ d with evr := { d.evr with nextSeq := seqAfter d.evr.nextSeq } }).bump .evrAdmitted 0).histSeq r.hist d.evr.nextSeq
  let e := if decide (sevMajor ≤ r.severity) || r.code ∈ [Ev.powerOn, Ev.hourmark] then e.persistPush (d.numbered r) else e
  e.each (List.range 4) (fun e k => e.traceWrite k (d.numbered r))

theorem take_eq (d : Dev) (r : Rec) : d.take r = if (d.announced r).evr.frozen || (d.announced r).evr.draining then
    (d.announced r).fifoPush (d.numbered r) else (d.announced r).logWrite (d.numbered r) := by
  unfold Dev.take Dev.announced Dev.numbered
  dsimp only

theorem evr_announced (d : Dev) (r : Rec) : ∃ q n, (d.announced r).evr =
    { d.evr with nextSeq := seqAfter d.evr.nextSeq, pqueue := q, pdropped := n } := by
  have hhist (d : Dev) (h : Option Nat) (seq : Nat) : (d.histSeq h seq).evr = d.evr := by simp
  have heach (d : Dev) (r : Rec) : (d.each (List.range 4) (fun d e => d.traceWrite e r)).evr = d.evr :=
    foldl_keeps (fun d => d.evr) (fun d e => by simp) _ _
  unfold Dev.announced
  dsimp only
  rw [heach]
  split
  · obtain ⟨q, n, h⟩ := evr_persistPush ((({ d with evr := { d.evr with nextSeq := seqAfter d.evr.nextSeq } }).bump .evrAdmitted 0).histSeq
      r.hist d.evr.nextSeq) (d.numbered r)
    rw [h, hhist]
    exact ⟨q, n, rfl⟩
  · rw [hhist]
    exact ⟨d.evr.pqueue, d.evr.pdropped, rfl⟩

/-- What the admission of a record leaves of the recorder. -/
structure Admitted (e f : Evr) (r : Rec) : Prop where
  input : f.input = e.input
  nextSeq : f.nextSeq = seqAfter e.nextSeq
  logged : e.frozen = false → e.draining = false → e.lastDitch = false → e.used < 65536 → f.used = e.used + 1 ∧
    tget f.log none e.used = some { r with seq := e.nextSeq, powerCycles := e.powerCycles }
  held : e.frozen = true → e.fifo.length < 256 → f.log = e.log ∧
    f.fifo = e.fifo ++ [{ r with seq := e.nextSeq, powerCycles := e.powerCycles }]

theorem admitted_take (d : Dev) (r : Rec) : Admitted d.evr (d.take r).evr r := by
  obtain ⟨q, n, he⟩ := evr_announced d r
  have hnum : d.numbered r = { r with seq := d.evr.nextSeq, powerCycles := d.evr.powerCycles } := rfl
  rw [take_eq]
  generalize d.announced r = a at he
  generalize d.numbered r = m at hnum
  by_cases hf : a.evr.frozen = true ∨ a.evr.draining = true
  · rw [if_pos (by simpa using hf)]
    obtain ⟨fifo, lost, h⟩ := evr_fifoPush a m
    have hf' : d.evr.frozen = true ∨ d.evr.draining = true := by rw [he] at hf; exact hf
    refine ⟨by rw [h, he], by rw [h, he], fun h1 h2 => absurd hf' (by simp [h1, h2]), fun _ hroom => ?_⟩
    rw [evr_fifoPush_room a (by rw [he]; exact hroom), he, hnum]
    exact ⟨rfl, rfl⟩
  · rw [if_neg (by simpa using hf)]
    obtain ⟨log, used, bank, bankUsed, newest, any, lost, h⟩ := evr_logWrite a m
    refine ⟨by rw [h, he], by rw [h, he], fun _ _ hditch hroom => ?_, fun h1 => absurd (Or.inl (by rw [he]; exact h1)) hf⟩
    rw [evr_logWrite_room a (by rw [he]; exact hditch) (by rw [he]; exact hroom), he, hnum]
    exact ⟨rfl, by simp⟩

/-- The device with the front of the input queue in hand and its slot refilled. -/
def Dev.judging (d : Dev) (r : Rec) (rest : List Rec) : Dev :=
  ({ d with evr := { d.evr with input := rest } }).modSlot (d.slotOf r.code) (refillSlot d.bal.tick)

/-- The slot of an admitted record gives a token. -/
def Dev.paid (d : Dev) (i : Nat) : Dev := d.modSlot i (fun s => if slotTokens s = 0 then s else { s with deficit := s.deficit + tokenUnit })

theorem slot_judging (d : Dev) (r : Rec) (rest : List Rec) :
    (d.judging r rest).slot (d.slotOf r.code) = refillSlot d.bal.tick (d.slot (d.slotOf r.code)) := by
  simp [Dev.judging, Dev.modSlot, Dev.slot]

section
variable {d : Dev} {r : Rec} {rest : List Rec} {check : Ecc} (hin : d.evr.input = r :: rest) (hc : check = .clean ∨ check = .corrected)
include hin

include hc in
/-- A record that is admitted takes its SEQ. -/
theorem doRecordAdmit_admits (h : (decide (0x1400 ≤ r.code ∧ r.code < 0x1500) ||
    slotAdmits (refillSlot d.bal.tick (d.slot (d.slotOf r.code))) r.severity) = true) :
    ∃ e : Dev, doRecordAdmit check d = e.take r ∧ ∃ dir, e.evr = { d.evr with input := rest, dir := dir } := by
  have htake (e : Dev) : (if e.evr.frozen || e.evr.draining then e.take r else (e.take r).writeCheck check) = e.take r := by
    split
    · rfl
    · exact writeCheck_sound _ hc
  unfold doRecordAdmit
  rw [hin]
  dsimp only
  split
  next => exact ⟨_, htake { d with evr := { d.evr with input := rest } }, d.evr.dir, rfl⟩
  next hcode =>
    rw [decide_eq_false hcode, Bool.false_or] at h
    rw [if_pos (by rw [← slot_judging d r rest] at h; exact h)]
    exact ⟨_, htake ((d.judging r rest).paid (d.slotOf r.code)), _, rfl⟩

/-- A record without a token is counted in its slot. -/
theorem doRecordAdmit_suppressed (h : (decide (0x1400 ≤ r.code ∧ r.code < 0x1500) ||
    slotAdmits (refillSlot d.bal.tick (d.slot (d.slotOf r.code))) r.severity) = false) :
    doRecordAdmit check d =
      (((d.judging r rest).modSlot (d.slotOf r.code) (suppress d.bal.tick r)).bump .evrSuppressed 0).untold r := by
  obtain ⟨hcode, hslot⟩ := Bool.or_eq_false_iff.1 h
  unfold doRecordAdmit
  rw [hin]
  dsimp only
  rw [if_neg (of_decide_eq_false hcode), if_neg (by rw [← slot_judging d r rest] at hslot; rw [Bool.not_eq_true]; exact hslot)]
  rfl

end

/-! ### Sectors -/

theorem evr_flashRefresh (d : Dev) : ∃ stop, d.flashRefresh.evr = { d.evr with persistStopped := stop } := by
  have hlive (d : Dev) (k attr : Nat) (b : Bool) : (d.live k b attr).evr = d.evr := by simp
  unfold Dev.flashRefresh
  dsimp only
  rw [hlive, hlive]
  exact ⟨_, rfl⟩

/-- A retired sector is its old self, marked; no other sector and nothing that is queued changes. -/
theorem evr_retireSector (d : Dev) (i : Nat) (b : Bool) : ∃ input ovr stop, (d.retireSector i b).evr =
    { d.evr with
      sectors := tmod d.evr.sectors {} i (fun s => { s with retired := true }), input := input, overruns := ovr, persistStopped := stop } := by
  unfold Dev.retireSector
  dsimp only
  obtain ⟨stop, h⟩ := evr_flashRefresh ((d.modSector i (fun s => { s with retired := true })).record Ev.flashSectorRetired .shared none
    (dat [(0, 2, i), (2, 4, (tget d.evr.sectors {} i).erases), (6, 1, b2n b)]))
  obtain ⟨input, ovr, h'⟩ := evr_record (d.modSector i (fun s => { s with retired := true })) Ev.flashSectorRetired .shared none
    (dat [(0, 2, i), (2, 4, (tget d.evr.sectors {} i).erases), (6, 1, b2n b)])
  rw [h, h']
  exact ⟨input, ovr, stop, rfl⟩

/-- An erased sector. -/
def Sector.erase (s : Sector) (ok : Bool) : Sector :=
  { s with erases := s.erases + 1, erased := ok, opened := false, records := [], fails := if ok then 0 else s.fails + 1 }

theorem doFlashSectorErase_due {d : Dev} {i : Nat} (ok : Bool) (hi : i < 4096) (hp : d.boot.persist = true) (hrun : d.regRuns 3 = true)
    (hcur : d.evr.curSector ≠ some i) (hret : (tget d.evr.sectors {} i).retired = false) (her : (tget d.evr.sectors {} i).erased = false)
    (hdue : (d.evr.curSector = none ∧ d.nextSector 4095 = some i) ∨ (∃ k, d.evr.curSector = some k ∧ d.nextSector k = some i ∧
      ((tget d.evr.sectors {} k).opened = false ∨ 63 ≤ (tget d.evr.sectors {} k).records.length))) :
    doFlashSectorErase i ok d = let e := d.modSector i (fun s => s.erase ok)
      if 2 ≤ (tget e.evr.sectors {} i).fails then e.retireSector i true
      else if 100000 ≤ (tget e.evr.sectors {} i).erases then e.retireSector i false
      else e.flashRefresh := by
  unfold doFlashSectorErase
  dsimp only
  refine if_neg ?_
  rintro (h | h | h | h | h | h | h)
  · exact absurd hi (Nat.not_lt.2 h)
  · exact absurd (hret.symm.trans h) (by decide)
  · exact absurd (her.symm.trans h) (by decide)
  · exact hcur h
  · obtain ⟨h1, h2⟩ | ⟨k, h1, h2, h3⟩ := hdue
    · rw [h1] at h
      simp [h2] at h
    · rw [h1] at h
      obtain h3 | h3 := h3
      · simp [h2, h3] at h
      · simp [h2, h3] at h
  · simp [hp] at h
  · simp [hrun] at h

theorem doFlashSectorErase_effect (d : Dev) (i : Nat) (ok : Bool) :
    let s := tget d.evr.sectors {} i
    let e := d.modSector i (fun s => s.erase ok)
    let f := if 2 ≤ (tget e.evr.sectors {} i).fails then e.retireSector i true
      else if 100000 ≤ (tget e.evr.sectors {} i).erases then e.retireSector i false
      else e.flashRefresh
    (ok = true → s.erases + 1 < 100000 → tget f.evr.sectors {} i = s.erase true) ∧
    (100000 ≤ s.erases + 1 → (tget f.evr.sectors {} i).retired = true) ∧
    (ok = false → 1 ≤ s.fails → (tget f.evr.sectors {} i).retired = true) := by
  dsimp only
  generalize he : d.modSector i (fun s => s.erase ok) = e
  have hs : tget e.evr.sectors {} i = (tget d.evr.sectors {} i).erase ok := by rw [← he]; simp [Dev.modSector]
  have hretire (b : Bool) : (tget (e.retireSector i b).evr.sectors {} i).retired = true := by
    obtain ⟨input, ovr, stop, h⟩ := evr_retireSector e i b
    rw [h]
    simp
  rw [hs]
  refine ⟨fun hok hlt => ?_, fun hle => ?_, fun hok hle => ?_⟩
  · obtain ⟨stop, h⟩ := evr_flashRefresh e
    subst hok
    rw [if_neg (by simp [Sector.erase]), if_neg (by simp only [Sector.erase]; omega), h]
    exact hs
  · split
    · exact hretire true
    · rw [if_pos (show 100000 ≤ ((tget d.evr.sectors {} i).erase ok).erases from hle)]
      exact hretire false
  · subst hok
    rw [if_pos (by simp only [Sector.erase, Bool.false_eq_true, if_false]; omega)]
    exact hretire true

/-! ### PERSISTENT_PAGE_PROGRAM -/

/-- The next erased sector is opened. -/
def Dev.sectorOpened (d : Dev) (i : Nat) : Dev :=
  ({ d with evr := { d.evr with serial := d.evr.serial + 1, curSector := some i } }).modSector i (fun s =>
    { s with
      opened := true, erased := false, serial := d.evr.serial, powerCycles := d.evr.powerCycles
      opHours := d.evr.opHours, firstSeq := (d.evr.pqueue.head?.map Rec.seq).getD 0, records := [] })

/-- How many queued records a program takes to a sector. -/
def Dev.pageRoom (d : Dev) (i n : Nat) : Nat := min (min n 8) (126 - (tget d.evr.sectors {} i).records.length)

/-- A program of `k` queued records that passes. -/
def Dev.programmed (d : Dev) (i k : Nat) : Dev :=
  let rs := d.evr.pqueue.take k
  let d := { d with evr := { d.evr with
    pqueue := d.evr.pqueue.drop k
    persistSeq := (rs.getLast?.map (fun r : Rec => r.seq % 2 ^ 32)).getD d.evr.persistSeq } }
  let d := d.modSector i (fun s => { s with records := s.records ++ rs, fails := 0 })
  if 0 < d.evr.pdropped ∧ 0 < k then
    let m := d.evr.pdropped
    ({ d with evr := { d.evr with pdropped := 0 } }).record Ev.persistDropped .shared none (dat [(0, 4, m)])
  else d

/-- A program that fails verification. -/
def Dev.unprogrammed (d : Dev) (i : Nat) : Dev :=
  let d := d.modSector i (fun s => { s with fails := s.fails + 1 })
  if 2 ≤ (tget d.evr.sectors {} i).fails then d.retireSector i true else d

theorem evr_programmed (d : Dev) (i k : Nat) : ∃ seq input ovr pdropped, (d.programmed i k).evr = { d.evr with
    pqueue := d.evr.pqueue.drop k
    sectors := tmod d.evr.sectors {} i (fun s => { s with records := s.records ++ d.evr.pqueue.take k, fails := 0 })
    persistSeq := seq, input := input, overruns := ovr, pdropped := pdropped } := by
  unfold Dev.programmed
  dsimp only
  split
  · obtain ⟨input, ovr, h⟩ := evr_record _ Ev.persistDropped .shared none _
    exact ⟨_, input, ovr, 0, h⟩
  · exact ⟨_, d.evr.input, d.evr.overruns, d.evr.pdropped, rfl⟩

theorem unprogrammed_effect {d : Dev} {i : Nat} (h : (tget d.evr.sectors {} i).retired = false) :
    (d.unprogrammed i).evr.pqueue = d.evr.pqueue ∧
    (tget (d.unprogrammed i).evr.sectors {} i).retired = decide (1 ≤ (tget d.evr.sectors {} i).fails) := by
  unfold Dev.unprogrammed
  dsimp only
  generalize he : d.modSector i (fun s => { s with fails := s.fails + 1 }) = e
  have hs : tget e.evr.sectors {} i = { tget d.evr.sectors {} i with fails := (tget d.evr.sectors {} i).fails + 1 } := by
    rw [← he]
    simp [Dev.modSector]
  have hq : e.evr.pqueue = d.evr.pqueue := by rw [← he]; rfl
  rw [hs]
  dsimp only
  split
  next hle =>
    obtain ⟨input, ovr, stop, hr⟩ := evr_retireSector e i true
    rw [hr]
    have h1 : 1 ≤ (tget d.evr.sectors {} i).fails := by omega
    exact ⟨hq, by simp [h1]⟩
  next hle =>
    rw [hs]
    exact ⟨hq, h.trans (decide_eq_false (by omega)).symm⟩

/-- The sector that a program goes to. -/
def Dev.pageTarget (d : Dev) : Option Nat :=
  match d.evr.curSector with
  | some i =>
    if !(tget d.evr.sectors {} i).retired && (tget d.evr.sectors {} i).opened && decide ((tget d.evr.sectors {} i).records.length < 126) then
      some i
    else d.nextSector i
  | none => d.nextSector 4095

theorem doPersistentPageProgram_eq (n : Nat) (ok : Bool) (d : Dev) : doPersistentPageProgram n ok d =
    if !d.boot.persist ∨ d.evr.persistStopped ∨ d.evr.pqueue.isEmpty ∨ !d.evr.scanDone ∨ !d.regRuns 3 then d
    else match d.pageTarget with
      | none => d
      | some i =>
        if !(tget d.evr.sectors {} i).opened && !(tget d.evr.sectors {} i).erased then d
        else
          let e := if (tget d.evr.sectors {} i).opened then d else d.sectorOpened i
          if ok then e.programmed i (e.pageRoom i n) else e.unprogrammed i := rfl

section
variable {d : Dev} (n : Nat) (ok : Bool) {i : Nat} (hp : d.boot.persist = true) (hrun : d.regRuns 3 = true)
  (hstop : d.evr.persistStopped = false) (hscan : d.evr.scanDone = true) (hq : d.evr.pqueue ≠ [])
include hp hrun hstop hscan hq

theorem doPersistentPageProgram_target (ht : d.pageTarget = some i) (h : (tget d.evr.sectors {} i).opened = true ∨
    (tget d.evr.sectors {} i).erased = true) : doPersistentPageProgram n ok d =
      let e := if (tget d.evr.sectors {} i).opened then d else d.sectorOpened i
      if ok then e.programmed i (e.pageRoom i n) else e.unprogrammed i := by
  rw [doPersistentPageProgram_eq, if_neg (by simp [hp, hrun, hstop, hscan, hq]), ht]
  dsimp only
  refine if_neg ?_
  cases h with
  | inl h => simp [h]
  | inr h => simp [h]

/-- The open sector takes the records while it has room. -/
theorem doPersistentPageProgram_open (hcur : d.evr.curSector = some i) (hret : (tget d.evr.sectors {} i).retired = false)
    (hop : (tget d.evr.sectors {} i).opened = true) (hroom : (tget d.evr.sectors {} i).records.length < 126) :
    doPersistentPageProgram n ok d = if ok then d.programmed i (d.pageRoom i n) else d.unprogrammed i := by
  have ht : d.pageTarget = some i := by
    unfold Dev.pageTarget
    rw [hcur]
    exact if_pos (by simp [hret, hop, hroom])
  rw [doPersistentPageProgram_target n ok hp hrun hstop hscan hq ht (.inl hop), if_pos hop]

/-- Where the open sector is full, or none is open, the next erased one is opened. -/
theorem doPersistentPageProgram_new (hfull : ∀ k, d.evr.curSector = some k → (tget d.evr.sectors {} k).records.length = 126)
    (hnext : d.nextSector (d.evr.curSector.getD 4095) = some i) (hop : (tget d.evr.sectors {} i).opened = false)
    (her : (tget d.evr.sectors {} i).erased = true) : doPersistentPageProgram n ok d =
      if ok then (d.sectorOpened i).programmed i ((d.sectorOpened i).pageRoom i n) else (d.sectorOpened i).unprogrammed i := by
  have ht : d.pageTarget = some i := by
    unfold Dev.pageTarget
    cases hc : d.evr.curSector with
    | none => rw [hc] at hnext; exact hnext
    | some k =>
      rw [hc] at hnext
      exact (if_neg (by simp [hfull k hc])).trans hnext
  rw [doPersistentPageProgram_target n ok hp hrun hstop hscan hq ht (.inr her), hop, if_neg Bool.false_ne_true]

end

/-! ### POWER_ON_SCAN_DONE -/

theorem lt_foldl_max {α : Type} (f : α → Nat) (l : List α) (b : α) (h : b ∈ l) (m : Nat) : f b ≤ l.foldl (fun m s => max m (f s)) m := by
  have hge : ∀ (l : List α) m, m ≤ l.foldl (fun m s => max m (f s)) m := fun l => by
    induction l with
    | nil => exact fun m => le_rfl
    | cons x l ih => exact fun m => (le_max_left ..).trans (ih _)
  induction l generalizing m with
  | nil => cases h
  | cons x l ih =>
    cases h with
    | head => exact (le_max_right ..).trans (hge l _)
    | tail _ h => exact ih h _

theorem foldl_max_lt {α : Type} (f : α → Nat) (l : List α) {n m : Nat} (hm : m < n) (h : ∀ b ∈ l, f b < n) :
    l.foldl (fun m s => max m (f s)) m < n := by
  induction l generalizing m with
  | nil => exact hm
  | cons x l ih => exact ih (max_lt hm (h x List.mem_cons_self)) fun b hb => h b (List.mem_cons_of_mem _ hb)

/-- An intact header shows a sector in use. -/
theorem sectorOfHeader_ok {bs : List Byte} (h : headerOk bs = true) : (sectorOfHeader bs).retired = false ∧
    (sectorOfHeader bs).erased = false ∧ (sectorOfHeader bs).powerCycles = bits (leNat bs) 48 16 := by
  have hok := of_decide_eq_true h
  obtain ⟨hlen, hmagic, -, -⟩ := hok
  have htake : bs.take 64 = bs := List.take_of_length_le (Nat.le_of_eq hlen)
  have hne : ¬ bs.all (· = 0xFF) = true := by
    intro hall
    have hbs : bs = List.replicate 64 0xFF := List.eq_replicate_iff.2 ⟨hlen, by simpa using hall⟩
    rw [htake, hbs] at hmagic
    exact absurd hmagic (by decide)
  unfold sectorOfHeader
  dsimp only
  rw [if_neg hne, if_pos h, htake]
  exact ⟨rfl, rfl, rfl⟩

theorem sectorOfHeader_live {bs : List Byte} (hr : (sectorOfHeader bs).retired = false) (he : (sectorOfHeader bs).erased = false) :
    headerOk bs = true := by
  unfold sectorOfHeader at hr he
  dsimp only at hr he
  split at he
  · exact absurd he (by decide)
  · next hne =>
    rw [if_neg hne] at hr
    split at hr
    · assumption
    · exact absurd hr (by decide)

/-- The sectors in use that a scan finds. -/
def scanned (sectors : List (Nat × List Byte)) : List (Nat × Sector) :=
  (sectors.map (fun s => (s.1, sectorOfHeader s.2))).filter (fun s => !s.2.retired && !s.2.erased)

/-- The count of power cycles that a scan gives. -/
def scannedCycles (sectors : List (Nat × List Byte)) : Nat :=
  if (scanned sectors).isEmpty then 0 else ((scanned sectors).foldl (fun m s => max m s.2.powerCycles) 0 + 1) % 65536

theorem mem_scanned {sectors : List (Nat × List Byte)} {b : Nat × List Byte} (hb : b ∈ sectors) (h : headerOk b.2 = true) :
    (b.1, sectorOfHeader b.2) ∈ scanned sectors := by
  obtain ⟨hr, he, -⟩ := sectorOfHeader_ok h
  exact List.mem_filter.2 ⟨List.mem_map.2 ⟨b, hb, rfl⟩, by simp [hr, he]⟩

theorem lt_scannedCycles {sectors : List (Nat × List Byte)} (hlt : ∀ b ∈ sectors, headerOk b.2 = true → bits (leNat b.2) 48 16 < 65535)
    {b : Nat × List Byte} (hb : b ∈ sectors) (h : headerOk b.2 = true) : bits (leNat b.2) 48 16 < scannedCycles sectors := by
  have hmem := mem_scanned hb h
  have hmax := lt_foldl_max (fun s : Nat × Sector => s.2.powerCycles) _ _ hmem 0
  have hbound : (scanned sectors).foldl (fun m s => max m s.2.powerCycles) 0 < 65535 := by
    refine foldl_max_lt (fun s : Nat × Sector => s.2.powerCycles) _ (by decide) fun s hs => ?_
    obtain ⟨hs, hflags⟩ := List.mem_filter.1 hs
    obtain ⟨b', hb', rfl⟩ := List.mem_map.1 hs
    obtain ⟨hr, he⟩ := Bool.and_eq_true_iff.1 hflags
    have hok := sectorOfHeader_live (Bool.not_eq_true' _ |>.mp hr) (Bool.not_eq_true' _ |>.mp he)
    dsimp only
    rw [(sectorOfHeader_ok hok).2.2]
    exact hlt b' hb' hok
  have hne : (scanned sectors).isEmpty = false := by
    rw [List.isEmpty_eq_false_iff]
    exact List.ne_nil_of_mem hmem
  unfold scannedCycles
  rw [hne, if_neg Bool.false_ne_true, Nat.mod_eq_of_lt (by omega)]
  dsimp only at hmax
  rw [(sectorOfHeader_ok h).2.2] at hmax
  omega

theorem evr_doPowerOnScanDone {d : Dev} (h : d.evr.scanDone = false) (sectors : List (Nat × List Byte)) (hours : Nat) :
    (doPowerOnScanDone sectors hours d).evr.scanDone = true ∧
    (doPowerOnScanDone sectors hours d).evr.opHours = (hours + d.evr.opHours) % 2 ^ 32 ∧
    (doPowerOnScanDone sectors hours d).evr.powerCycles = scannedCycles sectors := by
  unfold doPowerOnScanDone
  rw [if_neg (by rw [h]; exact Bool.false_ne_true)]
  dsimp only
  obtain ⟨stop, hr⟩ := evr_flashRefresh _
  rw [hr]
  exact ⟨rfl, rfl, rfl⟩

/-! ### Summaries and freezes -/

theorem recordSev_input {d : Dev} (h : d.evr.input.length < 1024) (code sev : Nat) (who : Who) (source : Option Nat) (data : BitVec 160) :
    ∃ r : Rec, (d.recordSev code sev who source data).evr.input = d.evr.input ++ [r] ∧ r.code = code ∧ r.severity = sev := by
  unfold Dev.recordSev Dev.pushRec
  rw [if_pos h]
  exact ⟨_, rfl, rfl, rfl⟩

/-- The device once a slot's episode of suppression is over. -/
def Dev.summed (d : Dev) (i : Nat) : Dev :=
  let s := d.slot i
  (d.reach (min (s.supLast + msTicks 1000) (s.supFirst + msTicks 10000))).recordSev Ev.suppressed s.supSeverity (supWho s) none
    (dat [(0, 2, s.supCode), (2, 4, s.supCount), (6, 5, s.supFirst), (11, 5, s.supLast)])

theorem doSuppressionSummary_due {d : Dev} {i : Nat} (h : (d.slot i).supCount ≠ 0) :
    doSuppressionSummary i d = (d.summed i).modSlot i (fun s => { s with supCount := 0, supSeverity := 0 }) := by
  unfold doSuppressionSummary Dev.summed
  exact if_neg h

theorem slot_modSlot_self (d : Dev) (i : Nat) (f : DirSlot → DirSlot) : (d.modSlot i f).slot i = f (d.slot i) := by
  simp [Dev.modSlot, Dev.slot]

theorem slot_evr {d d' : Dev} (h : d'.evr.dir = d.evr.dir) (i : Nat) : d'.slot i = d.slot i := by rw [Dev.slot, h, Dev.slot]

theorem supTotal_suppress (now t : Nat) (r : Rec) (x : DirSlot) : (suppress now r (refillSlot t x)).supTotal = x.supTotal + 1 := by
  obtain ⟨n, h⟩ : ∃ n, refillSlot t x = { x with deficit := n, lastTick := t } := ⟨_, rfl⟩
  rw [h]
  rfl

theorem slot_bump (d : Dev) (c : Ctr) (n k i : Nat) : (d.bump c n k).slot i = d.slot i := rfl

theorem src_withEvr (d : Dev) (e : Evr) (k : Nat) : ({ d with evr := e } : Dev).src k = d.src k := rfl

theorem evr_reach (d : Dev) (t : Nat) : (d.reach t).evr = d.evr := by simp

theorem slot_summed (d : Dev) (i j : Nat) : (d.summed i).slot j = d.slot j := by
  unfold Dev.summed
  dsimp only
  generalize he : d.reach _ = e
  have hevr : e.evr = d.evr := by rw [← he, evr_reach]
  obtain ⟨input, ovr, h⟩ := evr_recordSev e Ev.suppressed (d.slot i).supSeverity (supWho (d.slot i)) none
    (dat [(0, 2, (d.slot i).supCode), (2, 4, (d.slot i).supCount), (6, 5, (d.slot i).supFirst), (11, 5, (d.slot i).supLast)]) none
  refine slot_evr ?_ j
  rw [h]
  dsimp only
  rw [hevr]

theorem bal_recordSev (d : Dev) (code sev : Nat) (who : Who) (source : Option Nat) (data : BitVec 160) (hist : Option Nat) :
    (d.recordSev code sev who source data hist).bal = d.bal := by simp

/-- The log thaws by the limit. -/
def Dev.thawedByLimit (d : Dev) : Dev := ((d.reach (d.evr.freezeStart + msTicks 100)).thaw true).liveMs 0x0CD

theorem doLogFreezeLimit_frozen {d : Dev} (h : d.evr.frozen = true) : doLogFreezeLimit d = { d.thawedByLimit with
    evr := { d.thawedByLimit.evr with refuseUntil := d.thawedByLimit.bal.tick + msTicks 100, expired := d.evr.holders } } := by
  have hh : (d.reach (d.evr.freezeStart + msTicks 100)).evr.holders = d.evr.holders := by rw [evr_reach]
  unfold doLogFreezeLimit
  rw [if_neg (by simp [h])]
  dsimp only
  rw [hh]
  rfl

theorem thawedByLimit_parts (d : Dev) : d.thawedByLimit.evr.frozen = false ∧ d.thawedByLimit.evr.holders = 0 ∧
    d.thawedByLimit.evr.fifo = d.evr.fifo ∧ d.evr.freezeStart + 2500000 ≤ d.thawedByLimit.bal.tick ∧
    (d.thawedByLimit.src 0x0CD).live = true := by
  have hlive (d : Dev) (k attr : Nat) : (d.liveMs k attr).evr = d.evr ∧ (d.liveMs k attr).bal = d.bal := by simp
  have hthaw (d : Dev) (b : Bool) : (d.thaw b).bal = d.bal := by simp
  have hevr (d : Dev) (b : Bool) : ∃ input ovr, (d.thaw b).evr = { d.evr with
      frozen := false, holders := 0, reading := 0, draining := decide (0 < d.evr.fifo.length), lostInFreeze := 0, input := input
      overruns := ovr } := evr_record _ Ev.logThawed .shared none _
  obtain ⟨input, ovr, h⟩ := hevr (d.reach (d.evr.freezeStart + msTicks 100)) true
  unfold Dev.thawedByLimit
  rw [(hlive ..).1, (hlive ..).2, hthaw, h, evr_reach]
  exact ⟨rfl, rfl, rfl, tick_reach .., src_liveMs_self rfl ..⟩

theorem doHoldingFifoDrain_front {d : Dev} {r : Rec} {rest : List Rec} {check : Ecc} (hfrozen : d.evr.frozen = false)
    (hf : d.evr.fifo = r :: rest) (hc : check = .clean ∨ check = .corrected) : doHoldingFifoDrain check d =
      ({ d with evr := { d.evr with fifo := rest, draining := !rest.isEmpty } }).logWrite r := by
  unfold doHoldingFifoDrain
  rw [if_neg (by rw [hfrozen]; exact Bool.false_ne_true), hf]
  exact writeCheck_sound _ hc

/-- Settles O24, a row at a time. -/
theorem recorderAdmitsAndKeepsRecords : Obligations.RecorderAdmitsAndKeepsRecords := by
  intro s
  refine ⟨?_, ?_, ?_, ?_, ?_, ?_, ?_, ?_, ?_⟩
  · rintro r rest admits check hin hc rfl
    refine ⟨{ s with dev := doRecordAdmit check s.dev }, rfl, ?_⟩
    dsimp only
    cases hadm : decide (0x1400 ≤ r.code ∧ r.code < 0x1500) ||
        slotAdmits (refillSlot s.dev.bal.tick (s.dev.slot (s.dev.slotOf r.code))) r.severity with
    | true =>
      obtain ⟨e, hd, dir, he⟩ := doRecordAdmit_admits hin hc hadm
      obtain ⟨hinput, hseq, hlog, hheld⟩ := admitted_take e r
      rw [hd]
      rw [he] at hinput hseq hlog hheld
      dsimp only at hinput hseq hlog hheld
      exact ⟨hinput, fun _ => ⟨hseq, hlog, hheld⟩, fun h => absurd h (by decide)⟩
    | false =>
      rw [doRecordAdmit_suppressed hin hadm]
      generalize he : ((s.dev.judging r rest).modSlot (s.dev.slotOf r.code) (suppress s.dev.bal.tick r)).bump .evrSuppressed 0 = e
      have hslot : (e.slot (s.dev.slotOf r.code)).supTotal = (s.dev.slot (s.dev.slotOf r.code)).supTotal + 1 := by
        rw [← he, slot_bump, slot_modSlot_self, slot_judging, supTotal_suppress]
      obtain ⟨ovr, h⟩ := evr_untold e r
      have hevr : (e.untold r).evr.input = rest ∧ (e.untold r).evr.log = s.dev.evr.log ∧ (e.untold r).evr.fifo = s.dev.evr.fifo ∧
          (e.untold r).evr.nextSeq = s.dev.evr.nextSeq := by
        rw [h, ← he]
        exact ⟨rfl, rfl, rfl, rfl⟩
      obtain ⟨h1, h2, h3, h4⟩ := hevr
      have hsame : ((e.untold r).slot (s.dev.slotOf r.code)).supTotal = (e.slot (s.dev.slotOf r.code)).supTotal :=
        congrArg DirSlot.supTotal (slot_evr (by rw [h]) _)
      exact ⟨h1, fun h => absurd h (by decide), fun _ => ⟨h2, h3, h4, hsame.trans hslot⟩⟩
  · intro i hi
    refine ⟨{ s with dev := doSuppressionSummary i s.dev }, rfl, ?_⟩
    dsimp only
    rw [doSuppressionSummary_due hi, slot_modSlot_self, slot_summed]
    refine ⟨rfl, rfl, ?_, fun hroom => ?_⟩
    · exact (tick_reach ..).trans (Nat.le_of_eq (congrArg Bal.tick (bal_recordSev ..)).symm)
    · obtain ⟨r, hr, hcode, hsev⟩ := recordSev_input (d := s.dev.reach (min ((s.dev.slot i).supLast + msTicks 1000)
        ((s.dev.slot i).supFirst + msTicks 10000))) (by rw [evr_reach]; exact hroom) Ev.suppressed (s.dev.slot i).supSeverity
        (supWho (s.dev.slot i)) none (dat [(0, 2, (s.dev.slot i).supCode), (2, 4, (s.dev.slot i).supCount), (6, 5, (s.dev.slot i).supFirst),
          (11, 5, (s.dev.slot i).supLast)])
      rw [evr_reach] at hr
      exact ⟨r, hr, hcode, hsev⟩
  · intro hf
    refine ⟨{ s with dev := doLogFreezeLimit s.dev }, rfl, ?_⟩
    dsimp only
    rw [doLogFreezeLimit_frozen hf]
    dsimp only
    rw [src_withEvr]
    obtain ⟨hfrozen, hholders, hfifo, htick, hlive⟩ := thawedByLimit_parts s.dev
    exact ⟨hfrozen, hholders, rfl, htick, rfl, hfifo, hlive⟩
  · intro r rest check hfrozen hf hc
    refine ⟨{ s with dev := doHoldingFifoDrain check s.dev }, rfl, ?_⟩
    dsimp only
    rw [doHoldingFifoDrain_front hfrozen hf hc]
    obtain ⟨log, used, bank, bankUsed, newest, any, lost, h⟩ :=
      evr_logWrite { s.dev with evr := { s.dev.evr with fifo := rest, draining := !rest.isEmpty } } r
    refine ⟨by rw [h], fun hditch hroom => ?_⟩
    rw [evr_logWrite_room { s.dev with evr := { s.dev.evr with fifo := rest, draining := !rest.isEmpty } } hditch hroom]
    exact ⟨rfl, by simp⟩
  · refine ⟨{ s with dev := doHourmark s.dev }, rfl, ?_⟩
    have hbal (d : Dev) (code : Nat) (who : Who) (source : Option Nat) (data : BitVec 160) : (d.record code who source data).bal = d.bal := by
      simp
    dsimp only
    unfold doHourmark
    dsimp only
    obtain ⟨input, ovr, h⟩ := evr_record _ Ev.hourmark .shared none _
    rw [h, hbal]
    dsimp only
    rw [evr_reach]
    exact ⟨tick_reach .., rfl, rfl⟩
  · intro sectors hours hscan
    refine ⟨{ s with dev := doPowerOnScanDone sectors hours s.dev }, rfl, ?_⟩
    dsimp only
    obtain ⟨hdone, hhours, hcycles⟩ := evr_doPowerOnScanDone hscan sectors hours
    rw [hcycles]
    exact ⟨hdone, hhours, fun h => by rw [h]; rfl, fun hlt b hb hok => lt_scannedCycles hlt hb hok⟩
  · intro i ok hi hp hrun hcur hret her hdue
    refine ⟨{ s with dev := doFlashSectorErase i ok s.dev }, rfl, ?_⟩
    dsimp only
    rw [doFlashSectorErase_due ok hi hp hrun hcur hret her hdue]
    exact doFlashSectorErase_effect s.dev i ok
  · rintro i n ok k hp hrun hstop hscan hq hcur hret hop hroom rfl
    refine ⟨{ s with dev := doPersistentPageProgram n ok s.dev }, rfl, ?_⟩
    dsimp only
    rw [doPersistentPageProgram_open n ok hp hrun hstop hscan hq hcur hret hop hroom]
    constructor
    · rintro rfl
      obtain ⟨seq, input, ovr, pdropped, h⟩ := evr_programmed s.dev i (s.dev.pageRoom i n)
      rw [if_pos rfl, h]
      exact ⟨rfl, by simp [Dev.pageRoom]⟩
    · rintro rfl
      rw [if_neg Bool.false_ne_true]
      exact unprogrammed_effect hret
  · intro i n hp hrun hstop hscan hq hfull hnext hop her
    refine ⟨{ s with dev := doPersistentPageProgram n true s.dev }, rfl, ?_⟩
    dsimp only
    rw [doPersistentPageProgram_new n true hp hrun hstop hscan hq hfull hnext hop her, if_pos rfl]
    obtain ⟨seq, input, ovr, pdropped, h⟩ := evr_programmed (s.dev.sectorOpened i) i ((s.dev.sectorOpened i).pageRoom i n)
    have hsec : tget (s.dev.sectorOpened i).evr.sectors {} i = { tget s.dev.evr.sectors {} i with
        opened := true, erased := false, serial := s.dev.evr.serial, powerCycles := s.dev.evr.powerCycles
        opHours := s.dev.evr.opHours, firstSeq := (s.dev.evr.pqueue.head?.map Rec.seq).getD 0, records := [] } := by
      simp [Dev.sectorOpened, Dev.modSector]
    have hroom : (s.dev.sectorOpened i).pageRoom i n = min n 8 := by
      rw [Dev.pageRoom, hsec]
      simp only [List.length_nil]
      omega
    rw [h, hroom]
    refine ⟨rfl, rfl, rfl, ?_⟩
    simp only [tget_tmod, hsec]
    simp [Dev.sectorOpened, Dev.modSector]

end Sys2Proof.Machine
end

section
/-! PROOFS. The commands on the log (16 R484, R486, R493, R494, R495). -/
namespace Sys2Proof.Machine

/-! ### Freezes -/

/-- What a freeze, and the end of one, leave as they are. -/
structure SameLog (d e : Dev) : Prop where
  bal : e.bal = d.bal
  hif : e.hif = d.hif
  plc : e.plc = d.plc
  out : e.out = d.out
  log : e.evr.log = d.evr.log
  bank : e.evr.bank = d.evr.bank
  sectors : e.evr.sectors = d.evr.sectors
  fifo : e.evr.fifo = d.evr.fifo

theorem SameLog.rfl {d : Dev} : SameLog d d := ⟨Eq.refl _, Eq.refl _, Eq.refl _, Eq.refl _, Eq.refl _, Eq.refl _, Eq.refl _, Eq.refl _⟩

theorem SameLog.trans {d e f : Dev} (h : SameLog d e) (h' : SameLog e f) : SameLog d f :=
  ⟨h'.bal.trans h.bal, h'.hif.trans h.hif, h'.plc.trans h.plc, h'.out.trans h.out, h'.log.trans h.log, h'.bank.trans h.bank,
    h'.sectors.trans h.sectors, h'.fifo.trans h.fifo⟩

theorem sameLog_record (d : Dev) (code : Nat) (who : Who) (source : Option Nat) (data : BitVec 160) :
    SameLog d (d.record code who source data) := by
  obtain ⟨input, ovr, h⟩ := evr_record d code who source data
  exact ⟨by simp, by simp, by simp, by simp, by rw [h], by rw [h], by rw [h], by rw [h]⟩

theorem sameLog_thaw (d : Dev) (b : Bool) : SameLog d (d.thaw b) := by
  unfold Dev.thaw
  dsimp only
  refine SameLog.trans ?_ (sameLog_record ..)
  exact ⟨rfl, rfl, rfl, rfl, rfl, rfl, rfl, rfl⟩

theorem evr_thaw (d : Dev) (b : Bool) : (d.thaw b).evr.frozen = false ∧ (d.thaw b).evr.holders = 0 := by
  unfold Dev.thaw
  obtain ⟨input, ovr, h⟩ := evr_record _ Ev.logThawed .shared none _
  rw [h]
  exact ⟨rfl, rfl⟩

theorem sameLog_freeze (d : Dev) (e : Nat) : SameLog d (d.freeze e).2 := by
  unfold Dev.freeze
  split
  · exact .rfl
  · split
    · exact ⟨rfl, rfl, rfl, rfl, rfl, rfl, rfl, rfl⟩
    · split
      · exact .rfl
      · dsimp only
        refine SameLog.trans ?_ (sameLog_record ..)
        exact ⟨rfl, rfl, rfl, rfl, rfl, rfl, rfl, rfl⟩

theorem sameLog_unfreeze (d : Dev) (e : Nat) : SameLog d (d.unfreeze e) := by
  unfold Dev.unfreeze
  dsimp only
  split
  · refine SameLog.trans ?_ (sameLog_thaw ..)
    exact ⟨rfl, rfl, rfl, rfl, rfl, rfl, rfl, rfl⟩
  · exact ⟨rfl, rfl, rfl, rfl, rfl, rfl, rfl, rfl⟩

theorem evr_unfreeze (d : Dev) (e : Nat) : (d.unfreeze e).evr.holders = d.evr.holders &&& (15 - 2 ^ e) ∧
    (d.unfreeze e).evr.frozen = (if d.evr.holders &&& (15 - 2 ^ e) = 0 then false else d.evr.frozen) := by
  unfold Dev.unfreeze
  dsimp only
  split
  next h =>
    obtain ⟨hfrozen, hholders⟩ := evr_thaw { d with evr := { d.evr with
      holders := d.evr.holders &&& (15 - 2 ^ e), reading := d.evr.reading &&& (15 - 2 ^ e) } } false
    rw [hfrozen, hholders, h.1, if_pos rfl]
    exact ⟨rfl, rfl⟩
  next h =>
    refine ⟨rfl, ?_⟩
    split
    next h0 => exact Bool.not_eq_true _ |>.mp fun hf => h ⟨h0, hf⟩
    next => rfl

theorem testBit_masked (n e : Nat) : (n &&& (15 - 2 ^ e)).testBit e = false := by
  rw [Nat.testBit_and, Bool.and_eq_false_iff]
  right
  by_cases he : e < 4
  · have : ∀ e < 4, (15 - 2 ^ e).testBit e = false := by decide
    exact this e he
  · have hge : 15 - 2 ^ e = 0 := Nat.sub_eq_zero_of_le ((by decide : 15 ≤ 2 ^ 4).trans (Nat.pow_le_pow_right (by decide) (Nat.not_lt.1 he)))
    rw [hge, Nat.zero_testBit]

/-- A freeze that is not refused: it joins the episode, or starts one. -/
theorem freeze_taken {d : Dev} {e : Nat} (hditch : d.evr.lastDitch = false) (h : d.evr.frozen = true ∨ d.evr.refuseUntil ≤ d.bal.tick) :
    (d.freeze e).1 = none ∧ (d.freeze e).2.evr.frozen = true ∧
    (d.freeze e).2.evr.holders = (if d.evr.frozen then d.evr.holders ||| 2 ^ e else 2 ^ e) ∧
    (d.freeze e).2.evr.freezeStart = (if d.evr.frozen then d.evr.freezeStart else d.bal.tick) := by
  unfold Dev.freeze
  rw [hditch, if_neg Bool.false_ne_true]
  split
  next hf => exact ⟨rfl, hf, rfl, rfl⟩
  next hf =>
    rw [if_neg (Nat.not_lt.2 (h.resolve_left hf))]
    dsimp only
    obtain ⟨input, ovr, hr⟩ := evr_record { d with evr := { d.evr with
      frozen := true, holders := 2 ^ e, freezeStart := d.bal.tick, expired := 0, lostInFreeze := 0 } } Ev.logFrozen .shared none
      (dat [(0, 1, e), (1, 4, ({ d with evr := { d.evr with
        frozen := true, holders := 2 ^ e, freezeStart := d.bal.tick, expired := 0, lostInFreeze := 0 } } : Dev).aon)])
    rw [hr]
    exact ⟨rfl, rfl, rfl, rfl⟩

theorem expired_freeze {d : Dev} {e : Nat} (h : (d.freeze e).1 = none) : (d.freeze e).2.evr.expired.testBit e = false := by
  unfold Dev.freeze at h ⊢
  split at h
  · exact absurd h (by simp)
  next hditch =>
    rw [if_neg hditch]
    split at h
    next hf =>
      rw [if_pos hf]
      exact testBit_masked ..
    next hf =>
      rw [if_neg hf]
      split at h
      · exact absurd h (by simp)
      next hr =>
        rw [if_neg hr]
        dsimp only
        obtain ⟨input, ovr, hr⟩ := evr_record { d with evr := { d.evr with
          frozen := true, holders := 2 ^ e, freezeStart := d.bal.tick, expired := 0, lostInFreeze := 0 } } Ev.logFrozen .shared none
          (dat [(0, 1, e), (1, 4, ({ d with evr := { d.evr with
            frozen := true, holders := 2 ^ e, freezeStart := d.bal.tick, expired := 0, lostInFreeze := 0 } } : Dev).aon)])
        rw [hr]
        exact Nat.zero_testBit _

theorem freeze_refused {d : Dev} {e : Nat} : (d.evr.lastDitch = true → d.freeze e = (some 0x02, d)) ∧
    (d.evr.lastDitch = false → d.evr.frozen = false → d.bal.tick < d.evr.refuseUntil → d.freeze e = (some 0x01, d)) := by
  unfold Dev.freeze
  refine ⟨fun h => if_pos h, fun h1 h2 h3 => ?_⟩
  rw [h1, h2, if_neg Bool.false_ne_true, if_neg Bool.false_ne_true, if_pos h3]

theorem SameLog.recVisible {d e : Dev} (h : SameLog d e) (k : Nat) (r : Rec) : e.recVisible k r = d.recVisible k r := by
  have hpol (p : Nat) : e.polder p = d.polder p := by rw [Dev.polder, h.plc, Dev.polder]
  have howned : e.owned k = d.owned k := by simp only [Dev.owned, hpol]
  have howns : e.owns k r.polder = d.owns k r.polder := by rw [Dev.owns, howned, Dev.owns]
  rw [Dev.recVisible, Dev.isWarden, h.plc, howned, howns]
  rfl

theorem SameLog.heldRecs {d e : Dev} (h : SameLog d e) : e.heldRecs = d.heldRecs := by rw [Dev.heldRecs, h.log, h.bank, Dev.heldRecs]
theorem SameLog.persistRecs {d e : Dev} (h : SameLog d e) (pc : Nat) : e.persistRecs pc = d.persistRecs pc := by
  rw [Dev.persistRecs, h.sectors, Dev.persistRecs]
theorem SameLog.oldestSeq {d e : Dev} (h : SameLog d e) : e.oldestSeq = d.oldestSeq := by rw [Dev.oldestSeq, h.log, h.bank, Dev.oldestSeq]

/-! ### OP_LOG_READ -/

/-- An endpoint's freeze is its read's. -/
def Dev.noteReading (d : Dev) (e : Nat) : Dev := { d with evr := { d.evr with reading := d.evr.reading ||| 2 ^ e } }

/-- The first step of a read holds the log, where it is to. -/
def Dev.readHeld (d : Dev) (c : CmdRef) (x : Cmd) : Dev :=
  if x.fld 16 1 1 = 1 then
    if d.evr.holders.testBit c.ep then (d.freeze c.ep).2 else (d.freeze c.ep).2.noteReading c.ep
  else d

/-- The records that a read looks through. -/
def Dev.readSrc (d : Dev) (x : Cmd) : List Rec :=
  (if decide (x.fld 16 0 1 = 1) then d.persistRecs (x.fld 18 0 16) else d.heldRecs).filter (fun r => seqAtOrAfter r.seq (x.fld 20 0 32))

/-- The SEQ of the oldest record of the source read. -/
def Dev.readOldest (d : Dev) (x : Cmd) : Nat :=
  if decide (x.fld 16 0 1 = 1) then ((d.persistRecs (x.fld 18 0 16)).head?.map Rec.seq).getD 0 else d.oldestSeq

/-- Of some records, those that the caller sees and wants. -/
def Dev.wanted (d : Dev) (c : CmdRef) (x : Cmd) (rs : List Rec) : List Rec :=
  rs.filter (fun r => d.recVisible c.ep r && decide (x.fld 17 0 3 ≤ r.severity))

/-- The SEQ at which a read of `step` is to go on. -/
def Dev.readAfter (d : Dev) (c : CmdRef) (x : Cmd) (step : List Rec) : Nat :=
  if (d.wanted c x step).length ≤ x.fld 32 0 32 / 32 then (step.getLast?.map (fun r => seqAfter r.seq % 2 ^ 32)).getD (x.fld 20 0 32)
  else ((d.wanted c x step)[x.fld 32 0 32 / 32]?.map Rec.seq).getD (x.fld 20 0 32) % 2 ^ 32

/-- The records that the read of `step` has passed. -/
def Dev.readPast (d : Dev) (c : CmdRef) (x : Cmd) (step : List Rec) : List Rec :=
  if (d.wanted c x step).length ≤ x.fld 32 0 32 / 32 then step else step.takeWhile (fun r => !seqAtOrAfter r.seq (d.readAfter c x step))

/-- The read's records go to its buffer. -/
def Dev.readPut (d : Dev) (c : CmdRef) (io : Io) (x : Cmd) (step : List Rec) : Dev :=
  if ((d.wanted c x step).take (x.fld 32 0 32 / 32)).isEmpty then d
  else d.hostOut c.ep (x.fld 24 0 64) ((((d.wanted c x step).take (x.fld 32 0 32 / 32)).map (fun r => leBytes 32 (recImage r))).flatten) io.wrErr

/-- A freeze that the read holds is given up with its end. -/
def Dev.readFreed (d : Dev) (c : CmdRef) (x : Cmd) : Dev :=
  if decide (x.fld 16 1 1 = 1) && d.evr.reading.testBit c.ep then d.unfreeze c.ep else d

section
variable {d : Dev} {c : CmdRef} {io : Io} {x : Cmd} (h : d.isRunning c x) (hop : isOp 0x73 x = true) (hsteps : x.steps = 0)
  (hscratch : x.scratch = []) (hfz : x.fld 16 1 1 = 1 → (d.freeze c.ep).1 = none)
include h hop hsteps hscratch hfz

theorem doOpLogRead_first (hpick : io.pick.drop 1 = []) : ∃ e, e = d.readHeld c x ∧ doOpLogRead c io d =
    let pick := if ioChoice io 0 = 0 then (e.readSrc x).length else ioChoice io 0
    let step := (e.readSrc x).take pick
    let f := e.readPut c io x step
    if (e.readSrc x).length ≤ pick ∨ x.fld 32 0 32 / 32 ≤ (e.wanted c x step).length then
      (f.readFreed c x).okBuf c io.wrErr 24
        (((e.wanted c x step).take (x.fld 32 0 32 / 32)).length + e.readAfter c x step * 2 ^ 32)
        ((f.readFreed c x).readOldest x % 2 ^ 32 + b2n (decide (x.fld 16 1 1 = 1) && f.evr.expired.testBit c.ep) * 2 ^ 32 +
          b2n (seqGap (step.takeWhile (fun r => !seqAtOrAfter r.seq (e.readAfter c x step)))) * 2 ^ 33)
        (((e.readPast c x step).filter (fun r => !e.recVisible c.ep r)).length)
    else f.again c [e.readAfter c x step, ((e.wanted c x step).take (x.fld 32 0 32 / 32)).length,
      ((e.readPast c x step).filter (fun r => !e.recVisible c.ep r)).length,
      b2n (seqGap (step.takeWhile (fun r => !seqAtOrAfter r.seq (e.readAfter c x step)))), b2n io.wrErr] := by
  refine ⟨_, rfl, ?_⟩
  unfold doOpLogRead
  rw [step1_run h hop]
  extract_lets persistent wantFreeze minSev room addr first had fz d1 r1 d2 d3 next done skipped gap0 src pick' step' want put after read
    skip between gap d4 bad expired d5 oldest pick step f
  have hfirst : first := hsteps
  have hnone : fz.1 = none := by
    dsimp only [fz]
    split
    next hw => exact hfz (of_decide_eq_true hw.2)
    next => rfl
  have hd3 : d3 = d.readHeld c x := by
    have hd2 : d2 = d.readHeld c x := by
      dsimp only [d2, d1, r1, fz, had, wantFreeze, Dev.readHeld]
      simp only [hfirst, true_and, decide_eq_true_eq]
      by_cases hw : x.fld 16 1 1 = 1
      · cases hb : d.evr.holders.testBit c.ep with
        | true => simp [hw]
        | false => simp [hw, Dev.noteReading]
      · simp [hw]
    dsimp only [d3]
    rw [hpick, hd2]
    split <;> rfl
  have hnext : next = x.fld 20 0 32 := if_pos hfirst
  have hdone : done = 0 := by dsimp only [done]; rw [hscratch]; rfl
  have hskipped : skipped = 0 := by dsimp only [skipped]; rw [hscratch]; rfl
  have hgap : gap = seqGap (step'.takeWhile (fun r => !seqAtOrAfter r.seq after)) := by
    dsimp only [gap, gap0, between]
    rw [hscratch, decide_eq_true hfirst]
    rfl
  have hbad : bad = io.wrErr := by
    dsimp only [bad]
    rw [hscratch]
    exact Bool.or_false _
  rw [hnone]
  dsimp only
  rw [hgap, hbad]
  clear_value gap bad skipped next done
  subst hnext hdone hskipped
  clear_value d3
  subst hd3
  rw [Nat.zero_add, Nat.zero_add, Nat.zero_add]
  rfl

end

theorem sameLog_readHeld (d : Dev) (c : CmdRef) (x : Cmd) : SameLog d (d.readHeld c x) := by
  unfold Dev.readHeld
  split
  · split
    · exact sameLog_freeze ..
    · exact (sameLog_freeze d c.ep).trans ⟨rfl, rfl, rfl, rfl, rfl, rfl, rfl, rfl⟩
  · exact .rfl

theorem expired_readHeld {d : Dev} {c : CmdRef} {x : Cmd} (hfz : x.fld 16 1 1 = 1 → (d.freeze c.ep).1 = none) :
    (decide (x.fld 16 1 1 = 1) && (d.readHeld c x).evr.expired.testBit c.ep) = false := by
  by_cases hw : x.fld 16 1 1 = 1
  · rw [decide_eq_true hw, Bool.true_and, Dev.readHeld, if_pos hw]
    split
    · exact expired_freeze (hfz hw)
    · exact expired_freeze (hfz hw)
  · rw [decide_eq_false hw, Bool.false_and]

theorem readPut_parts (d : Dev) (c : CmdRef) (io : Io) (x : Cmd) (step : List Rec) : (d.readPut c io x step).hif = d.hif ∧
    (d.readPut c io x step).evr = d.evr := by
  unfold Dev.readPut
  split
  · exact ⟨rfl, rfl⟩
  · exact ⟨by simp, by simp⟩

theorem out_readPut {d : Dev} {c : CmdRef} {io : Io} {x : Cmd} {step : List Rec} (herr : io.wrErr = false)
    (hput : (d.wanted c x step).take (x.fld 32 0 32 / 32) ≠ []) (hup : (d.ep c.ep).up = true) : (d.readPut c io x step).out =
    .hostWrite c.ep (x.fld 24 0 64) ((((d.wanted c x step).take (x.fld 32 0 32 / 32)).map (fun r => leBytes 32 (recImage r))).flatten) ::
      d.out := by
  unfold Dev.readPut
  rw [if_neg (by rwa [List.isEmpty_iff]), herr]
  simp [Dev.hostOut, Dev.emit, hup]

theorem sameLog_readFreed (d : Dev) (c : CmdRef) (x : Cmd) : SameLog d (d.readFreed c x) := by
  unfold Dev.readFreed
  split
  · exact sameLog_unfreeze ..
  · exact .rfl

section
variable {d e : Dev} (h : SameLog d e)
include h

theorem SameLog.readSrc (x : Cmd) : e.readSrc x = d.readSrc x := by rw [Dev.readSrc, h.persistRecs, h.heldRecs, Dev.readSrc]
theorem SameLog.readOldest (x : Cmd) : e.readOldest x = d.readOldest x := by rw [Dev.readOldest, h.persistRecs, h.oldestSeq, Dev.readOldest]
theorem SameLog.wanted (c : CmdRef) (x : Cmd) (rs : List Rec) : e.wanted c x rs = d.wanted c x rs := by
  simp only [Dev.wanted, h.recVisible]
theorem SameLog.readAfter (c : CmdRef) (x : Cmd) (rs : List Rec) : e.readAfter c x rs = d.readAfter c x rs := by
  simp only [Dev.readAfter, h.wanted]
theorem SameLog.readPast (c : CmdRef) (x : Cmd) (rs : List Rec) : e.readPast c x rs = d.readPast c x rs := by
  simp only [Dev.readPast, h.wanted, h.readAfter]

end

theorem evr_okBuf (d : Dev) (c : CmdRef) (err : Bool) (off r0 r1 detail : Nat) : (d.okBuf c err off r0 r1 detail).evr = d.evr := by simp
theorem evr_ok (d : Dev) (c : CmdRef) (r0 r1 detail : Nat) : (d.ok c r0 r1 detail).evr = d.evr := by simp
theorem evr_fail (d : Dev) (c : CmdRef) (st detail : Nat) : (d.fail c st detail).evr = d.evr := by simp
theorem out_okBuf' (d : Dev) (c : CmdRef) (err : Bool) (off r0 r1 detail : Nat) : (d.okBuf c err off r0 r1 detail).out = d.out := by simp

section
variable {d : Dev} {c : CmdRef} {io : Io} {x : Cmd} (h : d.isRunning c x) (hop : isOp 0x73 x = true) (hsteps : x.steps = 0)
include h hop hsteps

/-- A read that its one step ends. -/
theorem doOpLogRead_whole (hscratch : x.scratch = []) (hfz : x.fld 16 1 1 = 1 → (d.freeze c.ep).1 = none) (hpick : io.pick = []) :
    ∃ e, e = d.readHeld c x ∧ doOpLogRead c io d = (((e.readPut c io x (d.readSrc x)).readFreed c x).okBuf c io.wrErr 24
      (((d.wanted c x (d.readSrc x)).take (x.fld 32 0 32 / 32)).length + d.readAfter c x (d.readSrc x) * 2 ^ 32)
      (d.readOldest x % 2 ^ 32 + b2n (seqGap ((d.readSrc x).takeWhile (fun r => !seqAtOrAfter r.seq (d.readAfter c x (d.readSrc x))))) * 2 ^ 33)
      (((d.readPast c x (d.readSrc x)).filter (fun r => !d.recVisible c.ep r)).length)) := by
  obtain ⟨e, he, hd⟩ := doOpLogRead_first h hop hsteps hscratch hfz (io := io) (by rw [hpick]; rfl)
  have hsame : SameLog d e := by rw [he]; exact sameLog_readHeld ..
  have hchoice : ioChoice io 0 = 0 := by unfold ioChoice; rw [hpick]; rfl
  refine ⟨e, he, ?_⟩
  rw [hd, hchoice]
  dsimp only
  rw [if_pos rfl, if_pos (.inl le_rfl), List.take_length]
  obtain ⟨-, hevr⟩ := readPut_parts e c io x (e.readSrc x)
  have hold : ((e.readPut c io x (e.readSrc x)).readFreed c x).readOldest x = d.readOldest x := by
    rw [(sameLog_readFreed ..).readOldest, Dev.readOldest, Dev.persistRecs, Dev.oldestSeq, hevr]
    exact hsame.readOldest x
  have hexp : (decide (x.fld 16 1 1 = 1) && (e.readPut c io x (e.readSrc x)).evr.expired.testBit c.ep) = false := by
    rw [hevr, he]
    exact expired_readHeld hfz
  rw [hold, hexp, hsame.readSrc, hsame.wanted, hsame.readAfter, hsame.readPast]
  simp only [hsame.recVisible]
  rw [show b2n false * 2 ^ 32 = 0 from rfl, Nat.add_zero]

theorem doOpLogRead_refused {why : Nat} (hw : x.fld 16 1 1 = 1) (hfz : (d.freeze c.ep).1 = some why) :
    doOpLogRead c io d = d.fail c stWrongMode (why * 256) := by
  unfold doOpLogRead
  rw [step1_run h hop]
  extract_lets persistent wantFreeze minSev room addr first had fz
  have hf : fz = d.freeze c.ep := if_pos ⟨hsteps, decide_eq_true hw⟩
  rw [hf, hfz]

/-- Where the device cuts the step short, the command goes on. -/
theorem doOpLogRead_cut (hscratch : x.scratch = []) (hw : x.fld 16 1 1 = 0) {k : Nat} (hpick : io.pick = [k]) (hk : 0 < k)
    (hlt : k < (d.readSrc x).length) (hroom : (d.wanted c x ((d.readSrc x).take k)).length < x.fld 32 0 32 / 32) :
    ∃ (f : Dev) (after skip gap bad : Nat), f.hif = d.hif ∧ doOpLogRead c io d =
      f.again c [after, (d.wanted c x ((d.readSrc x).take k)).length, skip, gap, bad] := by
  obtain ⟨e, he, hd⟩ := doOpLogRead_first h hop hsteps hscratch (fun h1 => absurd (hw.symm.trans h1) (by decide)) (io := io)
    (by rw [hpick]; rfl)
  have hed : e = d := by rw [he, Dev.readHeld, if_neg (by rw [hw]; decide)]
  have hchoice : ioChoice io 0 = k := by unfold ioChoice; rw [hpick]; rfl
  rw [hed, hchoice] at hd
  dsimp only at hd
  rw [if_neg (Nat.pos_iff_ne_zero.1 hk), if_neg (by omega), List.take_of_length_le (Nat.le_of_lt hroom)] at hd
  exact ⟨_, _, _, _, _, (readPut_parts ..).1, hd⟩

end

/-! ### The other commands -/

section
variable {d : Dev} {c : CmdRef} {x : Cmd} (io : Io) (h : d.isRunning c x)
include h

theorem doOpLogFreeze_refused (hop : isOp 0x74 x = true) {why : Nat} (hfz : d.freeze c.ep = (some why, d)) :
    doOpLogFreeze c io d = d.fail c stWrongMode (why * 256) := by
  unfold doOpLogFreeze
  dsimp only
  rw [step1_run h hop, hfz]

/-- A freeze of the log lasts 100 ms from the first of its episode. -/
theorem doOpLogFreeze_taken (hop : isOp 0x74 x = true) (hfz : (d.freeze c.ep).1 = none) : ∃ e, e = (d.freeze c.ep).2 ∧
    doOpLogFreeze c io d = ({ e with evr := { e.evr with reading := e.evr.reading &&& (15 - 2 ^ c.ep) } }).ok c
      ((e.evr.freezeStart + msTicks 100 - e.bal.tick) / 25) := by
  refine ⟨_, rfl, ?_⟩
  unfold doOpLogFreeze
  dsimp only
  rw [step1_run h hop]
  generalize d.freeze c.ep = r at hfz
  obtain ⟨a, b⟩ := r
  obtain rfl : a = none := hfz
  rfl

theorem doOpLogFreeze_effect (hop : isOp 0x74 x = true) (hditch : d.evr.lastDitch = false)
    (hok : d.evr.frozen = true ∨ d.evr.refuseUntil ≤ d.bal.tick) :
    (doOpLogFreeze c io d).ended c x (okDone (((if d.evr.frozen then d.evr.freezeStart else d.bal.tick) + msTicks 100 - d.bal.tick) / 25)) ∧
    (doOpLogFreeze c io d).evr.frozen = true ∧
    (doOpLogFreeze c io d).evr.holders = (if d.evr.frozen then d.evr.holders ||| 2 ^ c.ep else 2 ^ c.ep) ∧
    (doOpLogFreeze c io d).evr.freezeStart = (if d.evr.frozen then d.evr.freezeStart else d.bal.tick) := by
  obtain ⟨hfz, hfrozen, hholders, hstart⟩ := freeze_taken (e := c.ep) hditch hok
  obtain ⟨e, he, hd⟩ := doOpLogFreeze_taken io h hop hfz
  have hsame := sameLog_freeze d c.ep
  rw [← he] at hfrozen hholders hstart hsame
  rw [hd, evr_ok]
  dsimp only
  rw [hstart, hsame.bal]
  exact ⟨ok_ended (isRunning_congr hsame.hif h), hfrozen, hholders, rfl⟩

theorem doOpLogThaw_held (hop : isOp 0x75 x = true) (hb : d.evr.holders.testBit c.ep = true) :
    doOpLogThaw c io d = (d.unfreeze c.ep).ok c d.evr.fifo.length := by
  unfold doOpLogThaw
  dsimp only
  rw [step1_run h hop, if_pos hb]

theorem doOpLogThaw_none (hop : isOp 0x75 x = true) (hb : d.evr.holders.testBit c.ep = false) :
    doOpLogThaw c io d = d.fail c stNotFound := by
  unfold doOpLogThaw
  dsimp only
  rw [step1_run h hop, if_neg (by rw [hb]; exact Bool.false_ne_true)]

theorem doOpLogRateSetSet_run (hop : isOpAct 0x76 (18, 0, 1) 0 x = true) : ∃ deficit : DirSlot → Nat, doOpLogRateSetSet c io d =
    (d.modSlot (x.fld 16 0 10) (fun s =>
      { refillSlot d.bal.tick s with rate := x.fld 20 0 20, burst := x.fld 24 0 16, deficit := deficit s })).ok c := by
  unfold doOpLogRateSetSet
  dsimp only
  rw [step1_run h hop]
  exact ⟨_, rfl⟩

theorem doOpLogRateSetRead_run (hop : isOpAct 0x76 (18, 0, 1) 1 x = true) : doOpLogRateSetRead c io d =
    let s := refillSlot d.bal.tick (d.slot (x.fld 16 0 10))
    d.ok c (s.code.getD 0 + s.rate * 2 ^ 16 + s.burst * 2 ^ 36 + s.severity * 2 ^ 52) (s.supTotal % 2 ^ 32 + slotTokens s * 2 ^ 32) := by
  unfold doOpLogRateSetRead
  dsimp only
  rw [step1_run h hop]

end

/-- Settles O25, a command at a time. -/
theorem logCommandsComplete : Obligations.LogCommandsComplete := by
  intro s c io x h
  refine ⟨?_, ?_, ?_, ?_, ?_, ?_, ?_⟩
  · intro src want put after read oldest hop hfz hsteps hscratch hpick hsrc hwant hput hafter hread holdest
    obtain rfl : src = s.dev.readSrc x := by rw [hsrc, Dev.readSrc]; simp only [decide_eq_true_eq]
    obtain rfl : oldest = s.dev.readOldest x := by rw [holdest, Dev.readOldest]; simp only [decide_eq_true_eq]
    obtain rfl : want = s.dev.wanted c x (s.dev.readSrc x) := hwant
    obtain rfl : after = s.dev.readAfter c x (s.dev.readSrc x) := hafter
    obtain rfl : read = s.dev.readPast c x (s.dev.readSrc x) := hread
    subst hput
    refine ⟨{ s with dev := doOpLogRead c io s.dev }, rfl, ?_⟩
    dsimp only
    obtain ⟨e, he, hd⟩ := doOpLogRead_whole h hop hsteps hscratch hfz hpick
    have hsame : SameLog s.dev e := by rw [he]; exact sameLog_readHeld ..
    obtain ⟨hhif, hevr⟩ := readPut_parts e c io x (s.dev.readSrc x)
    have hfreed := sameLog_readFreed (e.readPut c io x (s.dev.readSrc x)) c x
    have hrun : ((e.readPut c io x (s.dev.readSrc x)).readFreed c x).isRunning c x :=
      isRunning_congr (hfreed.hif.trans (hhif.trans hsame.hif)) h
    rw [hd]
    refine ⟨?_, fun herr => ?_, fun herr => ?_, fun herr hne hup => ?_⟩
    · rw [evr_okBuf, hfreed.log, hevr, hsame.log]
    · rw [herr]
      exact okBuf_ended hrun
    · rw [herr]
      exact ⟨_, finish_ended hrun, rfl, rfl⟩
    · rw [out_okBuf', hfreed.out, out_readPut herr (by rwa [hsame.wanted]) (by rw [ep_hif hsame.hif]; exact hup), hsame.wanted, hsame.out]
  · intro src want k hop hw hsteps hscratch hpick hk hsrc hwant hlt hroom
    obtain rfl : src = s.dev.readSrc x := by rw [hsrc, Dev.readSrc]; simp only [decide_eq_true_eq]
    obtain rfl : want = s.dev.wanted c x ((s.dev.readSrc x).take k) := hwant
    obtain ⟨-, -, houtcome, -⟩ := id h
    obtain ⟨f, after, skip, gap, bad, hhif, hd⟩ := doOpLogRead_cut h hop hsteps hscratch hw hpick hk hlt hroom
    refine ⟨{ s with dev := doOpLogRead c io s.dev }, { x with
      executing := false, steps := x.steps + 1
      scratch := [after, (s.dev.wanted c x ((s.dev.readSrc x).take k)).length, skip, gap, bad] }, rfl, ?_⟩
    dsimp only
    rw [hd]
    exact ⟨again_scratch (isRunning_congr hhif h) _, houtcome, rfl, by rw [hsteps], rfl⟩
  · intro hop hw hsteps why hfz
    refine ⟨{ s with dev := doOpLogRead c io s.dev }, rfl, ?_⟩
    dsimp only
    rw [doOpLogRead_refused h hop hsteps hw hfz]
    exact fail_ended h
  · intro hop
    refine ⟨{ s with dev := doOpLogFreeze c io s.dev }, rfl, fun hditch => ?_, fun hditch hfrozen htick => ?_,
      fun hditch hfrozen htick => ?_, fun hditch hfrozen => ?_⟩
    · dsimp only
      rw [doOpLogFreeze_refused io h hop (freeze_refused.1 hditch)]
      exact ⟨fail_ended h, evr_fail ..⟩
    · dsimp only
      rw [doOpLogFreeze_refused io h hop (freeze_refused.2 hditch hfrozen htick)]
      exact ⟨fail_ended h, evr_fail ..⟩
    · obtain ⟨hend, hfz, hholders, hstart⟩ := doOpLogFreeze_effect io h hop hditch (.inr htick)
      rw [hfrozen, if_neg Bool.false_ne_true] at hend hholders hstart
      rw [Nat.add_sub_cancel_left] at hend
      exact ⟨hend, hfz, hholders, hstart⟩
    · obtain ⟨hend, hfz, hholders, -⟩ := doOpLogFreeze_effect io h hop hditch (.inl hfrozen)
      rw [hfrozen, if_pos rfl] at hend hholders
      exact ⟨hfz, hholders, hend⟩
  · intro hop
    refine ⟨{ s with dev := doOpLogThaw c io s.dev }, rfl, ?_⟩
    dsimp only
    cases hb : s.dev.evr.holders.testBit c.ep with
    | true =>
      rw [doOpLogThaw_held io h hop hb, evr_ok]
      have hsame := sameLog_unfreeze s.dev c.ep
      obtain ⟨hholders, hfrozen⟩ := evr_unfreeze s.dev c.ep
      refine ⟨hsame.fifo, fun _ => ⟨ok_ended (isRunning_congr hsame.hif h), hholders, fun h0 => ?_, fun h0 => ?_⟩, fun h => absurd h (by decide)⟩
      · rw [hfrozen, if_pos (hholders.symm.trans h0)]
      · rw [hfrozen, if_neg (fun h1 => h0 (hholders.trans h1))]
    | false =>
      rw [doOpLogThaw_none io h hop hb, evr_fail]
      exact ⟨rfl, fun h => absurd h (by decide), fun _ => ⟨fail_ended h, rfl⟩⟩
  · intro hop
    refine ⟨{ s with dev := doOpLogRateSetSet c io s.dev }, rfl, ?_⟩
    dsimp only
    obtain ⟨deficit, hd⟩ := doOpLogRateSetSet_run io h hop
    rw [hd, slot_evr (congrArg Evr.dir (evr_ok ..)), slot_modSlot_self]
    exact ⟨ok_ended (isRunning_congr rfl h), rfl, rfl⟩
  · rintro y hop rfl
    refine ⟨{ s with dev := doOpLogRateSetRead c io s.dev }, rfl, ?_⟩
    dsimp only
    rw [doOpLogRateSetRead_run io h hop]
    exact ⟨evr_ok .., ok_ended h⟩

end Sys2Proof.Machine
end

section
/-! PROOFS. Rule generations (06 R186, R187, R188, R189, R197). -/
namespace Sys2Proof.Machine

/-! ### Ending some commands -/

/-- A change of one command keeps or changes each. -/
theorem cmd?_modCmd_or {d : Dev} {c : CmdRef} {x : Cmd} {f : Cmd → Cmd} (r : CmdRef) (hf : ∀ y, names c (f y) = names c y)
    (hx : d.cmd? c = some x) : (d.modCmd r f).cmd? c = some x ∨ (d.modCmd r f).cmd? c = some (f x) := by
  unfold Dev.modCmd Dev.cmd? at *
  rw [ep_modEp]
  split
  next he =>
    have hkeep : names c ∘ (fun y => if names r y then f y else y) = names c := by
      funext y
      simp only [Function.comp_apply]
      split
      · exact hf y
      · rfl
    rw [he]
    dsimp only
    rw [List.find?_map, hkeep, hx, Option.map_some]
    split
    · exact .inr rfl
    · exact .inl rfl
  · exact .inl hx

/-- A command that takes an outcome. -/
def finishCmd (o : Done) (y : Cmd) : Cmd :=
  if y.outcome.isSome then y
  else { y with executing := false, steps := y.steps + 1, outcome := some (if y.marked then abortedDone (y.steps + 1) else o) }

theorem names_finishCmd (c : CmdRef) (o : Done) (y : Cmd) : names c (finishCmd o y) = names c y :=
  names_keep (fun y => by unfold finishCmd; split <;> rfl) (fun y => by unfold finishCmd; split <;> rfl) y

/-- A command is on its engine, or has ended with an outcome. -/
def Dev.runsOr (d : Dev) (c : CmdRef) (x : Cmd) (o : Done) : Prop := d.isRunning c x ∨ d.ended c x o

theorem runsOr_finish {d : Dev} {c : CmdRef} {x : Cmd} {o : Done} (h : d.runsOr c x o) (r : CmdRef) : (d.finish r o).runsOr c x o := by
  cases h with
  | inl h =>
    obtain ⟨hx, he, ho, hm⟩ := h
    cases cmd?_modCmd_or r (names_finishCmd c o) hx with
    | inl h' => exact .inl ⟨h', he, ho, hm⟩
    | inr h' =>
      refine .inr (h'.trans ?_)
      simp [finishCmd, ho, hm]
  | inr h =>
    cases cmd?_modCmd_or r (names_finishCmd c o) h with
    | inl h' => exact .inr h'
    | inr h' => exact .inr h'

theorem ended_finish {d : Dev} {c : CmdRef} {x : Cmd} {o : Done} (h : d.ended c x o) (r : CmdRef) : (d.finish r o).ended c x o := by
  cases cmd?_modCmd_or r (names_finishCmd c o) h with
  | inl h' => exact h'
  | inr h' => exact h'

theorem ended_of_runsOr {d : Dev} {c : CmdRef} {x : Cmd} {o : Done} (h : d.runsOr c x o) : (d.finish c o).ended c x o :=
  h.elim finish_ended fun h => ended_finish h c

/-! ### The steps of a generation -/

theorem rle_record (d : Dev) (code : Nat) (who : Who) (source : Option Nat) (data : BitVec 160) :
    (d.record code who source data).rle = d.rle := by simp
theorem hif_record (d : Dev) (code : Nat) (who : Who) (source : Option Nat) (data : BitVec 160) :
    (d.record code who source data).hif = d.hif := by simp
theorem bal_record (d : Dev) (code : Nat) (who : Who) (source : Option Nat) (data : BitVec 160) :
    (d.record code who source data).bal = d.bal := by simp
theorem dp_record (d : Dev) (code : Nat) (who : Who) (source : Option Nat) (data : BitVec 160) :
    (d.record code who source data).dp = d.dp := by simp
theorem rle_fail (d : Dev) (c : CmdRef) (st detail : Nat) : (d.fail c st detail).rle = d.rle := by simp
theorem rle_ok (d : Dev) (c : CmdRef) (r0 r1 detail : Nat) : (d.ok c r0 r1 detail).rle = d.rle := by simp
theorem rle_again (d : Dev) (c : CmdRef) (l : List Nat) : (d.again c l).rle = d.rle := by simp

theorem rle_genRetire (d : Dev) : d.genRetire.rle = { d.rle with slotSt := .sweeping } := rle_record ..
theorem hif_genDiscard (d : Dev) (ep : Nat) : (d.genDiscard ep).hif = d.hif := hif_record ..
theorem rle_genDiscard (d : Dev) (ep : Nat) : (d.genDiscard ep).rle = { d.rle with slotSt := .sweeping } := rle_record ..

/-- The staged slot is open. -/
def Dev.genOpened (d : Dev) (x : Cmd) : Dev :=
  ({ d with rle := { d.rle with slotSt := .staged, holder := some x.polder } }).record Ev.genOpen (.polders (2 ^ x.polder)) none
    (dat [(0, 4, (d.rle.gen + 1).toNat), (4, 1, x.polder)])

/-- The staged slot is committed. -/
def Dev.genCommitted (d : Dev) (x : Cmd) (us : Nat) : Dev :=
  ({ d with rle := { d.rle with gen := d.rle.gen + 1, slotSt := .draining, commitTick := d.bal.tick, retireUs := us } }).record
    Ev.genCommit (.polders (2 ^ x.polder)) none (dat [(0, 4, (d.rle.gen + 1).toNat), (4, 4, us)])

section
variable {d : Dev} {c : CmdRef} {x : Cmd} (io : Io) (h : d.isRunning c x)
include h

theorem doOpGenOpen_bad (hop : isOp 0x30 x = true) (h0 : x.fld 16 0 32 ≠ 0) (hn : x.fld 16 0 32 ≠ (d.rle.gen + 1).toNat) :
    doOpGenOpen c io d = d.badOp c 16 := (step1_run h hop).trans (if_pos ⟨h0, hn⟩)

theorem doOpGenOpen_next (hop : isOp 0x30 x = true) (hn : x.fld 16 0 32 = 0 ∨ x.fld 16 0 32 = (d.rle.gen + 1).toNat) :
    (d.rle.slotSt = .idle → doOpGenOpen c io d = if 0 < d.liveTag ((d.rle.gen + 1).toNat % 16) then d.fail c stBusyGen 0x200
      else (d.genOpened x).ok c (d.rle.gen + 1).toNat) ∧
    (d.rle.slotSt = .staged → doOpGenOpen c io d = d.fail c stBusyGen 0x300) ∧
    (d.rle.slotSt = .draining ∨ d.rle.slotSt = .sweeping → doOpGenOpen c io d = d.fail c stBusyGen 0x100) := by
  have hno : ¬ (x.fld 16 0 32 ≠ 0 ∧ x.fld 16 0 32 ≠ (d.rle.gen + 1).toNat) := fun ⟨h1, h2⟩ => hn.elim h1 h2
  unfold doOpGenOpen
  rw [step1_run h hop]
  dsimp only
  rw [if_neg hno]
  refine ⟨fun hst => ?_, fun hst => ?_, fun hst => ?_⟩
  · rw [hst]
    rfl
  · rw [hst]
    rfl
  · obtain hst | hst := hst <;> rw [hst] <;> rfl

theorem doOpGenCommit_run (hop : isOp 0x31 x = true) {us : Nat} (hus : us = if x.fld 20 0 32 = 0 then 10000 else x.fld 20 0 32) :
    doOpGenCommit c io d =
      if d.rle.slotSt ≠ .staged then d.fail c stNotFound
      else if d.rle.holder ≠ some x.polder then d.fail c stBusyGen 0x300
      else if x.fld 16 0 32 ≠ (d.rle.gen + 1).toNat then d.badOp c 16
      else if us < 1000 ∨ 1000000 < us then d.badOp c 20
      else if d.stagedWrites x.polder x.disp then d.again c []
      else (d.genCommitted x us).ok c (d.genCommitted x us).rle.gen.toNat (d.genCommitted x us).aon := by
  subst hus
  exact step1_run h hop

theorem doOpGenDiscard_run (hop : isOp 0x32 x = true) (hs : x.scratch = []) : doOpGenDiscard c io d =
    if d.rle.slotSt ≠ .staged ∨ x.fld 16 0 32 ≠ (d.rle.gen + 1).toNat then d.fail c stNotFound
    else if d.rle.holder ≠ some x.polder ∧ !d.mayAs c none then d.fail c stBusyGen 0x300
    else (d.genDiscard c.ep).modCmd c (fun y => { y with scratch := [1] }) :=
  step1_run (is := fun x => isOp 0x32 x && x.scratch.isEmpty) h (by rw [hop, hs]; rfl)

end

/-! ### The sweep -/

/-- What the sweep leaves of an entry. -/
def sweptEntry (cur : Nat) (x : Nat × Option TabEnt) : Option (Nat × Option TabEnt) :=
  if !versioned (x.1 / 2 ^ 32) then some x
  else match x.2 with
    | some e => if sweepVis cur e.vis = 0 then none else some (x.1, some { e with vis := sweepVis cur e.vis })
    | none => none

theorem sweptEntry_visible {cur k : Nat} {e : TabEnt} (hv : versioned (k / 2 ^ 32) = true) (hc : e.vis.testBit cur = true) :
    sweptEntry cur (k, some e) = some (k, some { e with vis := 3 }) := by
  have hvis : sweepVis cur e.vis = 3 := if_pos hc
  unfold sweptEntry
  dsimp only
  rw [hv, hvis]
  rfl

theorem sweptEntry_some {cur : Nat} {y z : Nat × Option TabEnt} (h : sweptEntry cur y = some z) :
    z.1 = y.1 ∧ (versioned (z.1 / 2 ^ 32) = true → ∃ e, z.2 = some e ∧ e.vis = 3) := by
  unfold sweptEntry at h
  split at h
  next hv =>
    cases h
    exact ⟨rfl, fun h => by rw [h] at hv; exact absurd hv (by decide)⟩
  next =>
    split at h
    next e _ =>
      split at h
      · cases h
      next hvis =>
        cases h
        refine ⟨rfl, fun _ => ⟨_, rfl, ?_⟩⟩
        dsimp only
        unfold sweepVis at hvis ⊢
        split
        · rfl
        next hc => exact absurd (if_neg hc) hvis
    · cases h

theorem tget_swept {cur k : Nat} {e : TabEnt} (hv : versioned (k / 2 ^ 32) = true) (hc : e.vis.testBit cur = true)
    (t : Tab (Option TabEnt)) (h : tget t none k = some e) : tget (t.filterMap (sweptEntry cur)) none k = some { e with vis := 3 } := by
  induction t with
  | nil => cases h
  | cons y t ih =>
    obtain ⟨j, y⟩ := y
    unfold tget at h
    split at h
    next hk =>
      subst hk h
      rw [List.filterMap_cons_some (sweptEntry_visible hv hc)]
      exact if_pos rfl
    next hk =>
      cases hs : sweptEntry cur (j, y) with
      | none =>
        rw [List.filterMap_cons_none hs]
        exact ih h
      | some z =>
        rw [List.filterMap_cons_some hs]
        obtain ⟨z1, z2⟩ := z
        obtain rfl : z1 = j := (sweptEntry_some hs).1
        exact (if_neg hk).trans (ih h)

/-- The device once the tables are swept. -/
def Dev.sweptTables (d : Dev) : Dev :=
  (List.range 4).foldl (fun d q => d.parityRefresh q) { d with rle := { d.rle with
    ents := d.rle.ents.filterMap (sweptEntry d.curSlot), slotSt := .idle, holder := none } }

/-- The discards of an endpoint that wait for the sweep. -/
def Endpoint.discarding (x : Endpoint) : List Cmd :=
  x.cmds.filter (fun x => x.executing && x.outcome.isNone && decide (x.opcode = 0x32) && !x.scratch.isEmpty)

/-- The discards of an endpoint end. -/
def Dev.endDiscards (d : Dev) (e : Nat) : Dev :=
  ((d.ep e).discarding).foldl (fun d x => d.ok { ep := e, ring := x.ring, pos := x.pos }) d

theorem doSyncSweepDone_sweeping {d : Dev} (h : d.rle.slotSt = .sweeping) :
    doSyncSweepDone d = (List.range 4).foldl Dev.endDiscards d.sweptTables := by
  unfold doSyncSweepDone
  rw [if_neg (by rw [h]; decide)]
  rfl

theorem sweptTables_parts (d : Dev) : d.sweptTables.hif = d.hif ∧ d.sweptTables.rle = { d.rle with
    ents := d.rle.ents.filterMap (sweptEntry d.curSlot), slotSt := .idle, holder := none } := by
  have hhif (d : Dev) (q : Nat) : (d.parityRefresh q).hif = d.hif := by simp
  have hrle (d : Dev) (q : Nat) : (d.parityRefresh q).rle = d.rle := by simp
  unfold Dev.sweptTables
  exact ⟨foldl_keeps (fun d => d.hif) hhif _ _, foldl_keeps (fun d => d.rle) hrle _ _⟩

theorem rle_endDiscards (d : Dev) (e : Nat) : (d.endDiscards e).rle = d.rle :=
  foldl_keeps (fun d => d.rle) (fun d _ => rle_ok d ..) _ _

theorem runsOr_endDiscards {d : Dev} {c : CmdRef} {x : Cmd} (h : d.runsOr c x okDone) (e : Nat) : (d.endDiscards e).runsOr c x okDone := by
  unfold Dev.endDiscards
  generalize (d.ep e).discarding = l
  induction l generalizing d with
  | nil => exact h
  | cons y l ih => exact ih (runsOr_finish h _)

theorem ended_kept {d : Dev} {c : CmdRef} {x : Cmd} (h : d.ended c x okDone) (e : Nat) : (d.endDiscards e).ended c x okDone := by
  unfold Dev.endDiscards
  generalize (d.ep e).discarding = l
  induction l generalizing d with
  | nil => exact h
  | cons y l ih => exact ih (ended_finish h _)

/-- A discard that waits is among those that end. -/
theorem ended_endDiscards {d : Dev} {c : CmdRef} {x : Cmd} (h : d.runsOr c x okDone) (hop : isOp 0x32 x = true) (hs : x.scratch ≠ []) :
    (d.endDiscards c.ep).ended c x okDone := by
  cases h with
  | inr h => exact ended_kept h c.ep
  | inl h =>
    obtain ⟨hx, he, ho, hm⟩ := id h
    have hfound : names c x = true := List.find?_some hx
    have hname := of_decide_eq_true hfound
    have hopc : x.opcode = 0x32 := of_decide_eq_true hop
    have hmem : x ∈ (d.ep c.ep).discarding := List.mem_filter.2 ⟨List.mem_of_find?_eq_some hx, by simp [he, ho, hopc, hs]⟩
    unfold Dev.endDiscards
    refine foldl_reaches (I := fun d : Dev => d.runsOr c x okDone) (P := fun d : Dev => d.ended c x okDone)
      (fun d y h => runsOr_finish h _) (fun d h => ?_) (fun d y h => ended_finish h _) hmem (.inl h)
    have hc : ({ ep := c.ep, ring := x.ring, pos := x.pos } : CmdRef) = c := by rw [hname.1, hname.2]
    rw [hc]
    exact ended_of_runsOr h

/-! ### Retirement -/

theorem holderLive_reach (d : Dev) (t : Nat) : (d.reach t).holderLive = d.holderLive := by
  have hrle : (d.reach t).rle = d.rle := by simp
  have hdp : (d.reach t).dp = d.dp := by simp
  unfold Dev.holderLive Dev.countPkts Dev.oldTag
  rw [hrle, hdp]

/-- The holder's packets that bear the old tag are doomed. -/
def Dev.genForced (d : Dev) : Dev :=
  let n := d.holderLive
  let h := d.rle.holder.getD 0
  let tag := d.oldTag
  let d := { d with
    dp := { d.dp with pkts := d.dp.pkts.map (fun (x : Nat × Option Pkt) => (x.1, x.2.map (fun (y : Pkt) =>
      if y.gen = tag ∧ y.polder = h then { y with doomed := true } else y))) }
    rle := { d.rle with slotSt := .sweeping, forced := d.rle.forced + 1 } }
  (d.bump .genDoomed 0 n).record Ev.genForced (.polders (2 ^ h)) none (dat [(0, 4, (d.rle.gen - 1).toNat), (4, 4, n)])

theorem doRetirementTimerExpiry_draining {d : Dev} (h : d.rle.slotSt = .draining) : doRetirementTimerExpiry d =
    if (d.reach (d.rle.commitTick + usTicks d.rle.retireUs)).holderLive = 0 then (d.reach (d.rle.commitTick + usTicks d.rle.retireUs)).genRetire
    else (d.reach (d.rle.commitTick + usTicks d.rle.retireUs)).genForced := by
  unfold doRetirementTimerExpiry
  rw [if_neg (by rw [h]; decide)]
  rfl

theorem genForced_effect (d : Dev) : d.genForced.bal = d.bal ∧
    d.genForced.rle = { d.rle with slotSt := .sweeping, forced := d.rle.forced + 1 } ∧
    ∀ pid y, (pid, some y) ∈ d.genForced.dp.pkts → y.gen = d.oldTag → y.polder = d.rle.holder.getD 0 → y.doomed = true := by
  unfold Dev.genForced
  dsimp only
  rw [bal_record, rle_record, dp_record]
  refine ⟨rfl, rfl, fun pid y hy hgen hpol => ?_⟩
  obtain ⟨⟨i, z⟩, -, hz⟩ := List.mem_map.1 hy
  obtain ⟨w, -, hw⟩ := Option.map_eq_some_iff.1 (Prod.mk.inj hz).2
  subst hw
  by_cases hc : w.gen = d.oldTag ∧ w.polder = d.rle.holder.getD 0
  · rw [if_pos hc]
  · rw [if_neg hc] at hgen hpol
    exact absurd ⟨hgen, hpol⟩ hc

/-- Settles O26, a command and a row at a time. -/
theorem generationsAdvance : Obligations.GenerationsAdvance := by
  intro s
  refine ⟨?_, fun hst => ⟨fun h0 => ?_, ?_⟩, fun hst => ?_⟩
  · rintro c io x next h rfl
    refine ⟨fun hop => ?_, fun us hop hus => ?_, fun hop hs => ?_, fun drains hop hdr => ?_⟩
    · refine ⟨{ s with dev := doOpGenOpen c io s.dev }, rfl, fun h0 hn => ?_, fun hn => ⟨fun hst hl => ?_, fun hst hl => ?_, fun hst => ?_, fun hst => ?_⟩⟩
      · dsimp only
        rw [doOpGenOpen_bad io h hop h0 hn]
        exact ⟨badOp_ended h, rle_fail ..⟩
      · dsimp only
        rw [(doOpGenOpen_next io h hop hn).1 hst, if_neg (by rw [hl]; decide), rle_ok]
        exact ⟨ok_ended (isRunning_congr (hif_record ..) h), rle_record ..⟩
      · dsimp only
        rw [(doOpGenOpen_next io h hop hn).1 hst, if_pos (Nat.pos_of_ne_zero hl), rle_fail]
        exact ⟨fail_ended h, rfl⟩
      · dsimp only
        rw [(doOpGenOpen_next io h hop hn).2.1 hst, rle_fail]
        exact ⟨fail_ended h, rfl⟩
      · dsimp only
        rw [(doOpGenOpen_next io h hop hn).2.2 hst, rle_fail]
        exact ⟨fail_ended h, rfl⟩
    · refine ⟨{ s with dev := doOpGenCommit c io s.dev }, rfl, fun hst => ?_, fun hst hh => ?_, fun hst hh hg h1 h2 => ⟨fun hw => ?_, fun hw => ?_⟩⟩
      · dsimp only
        rw [doOpGenCommit_run io h hop hus, if_pos hst, rle_fail]
        exact ⟨fail_ended h, rfl⟩
      · dsimp only
        rw [doOpGenCommit_run io h hop hus, if_neg (not_not.2 hst), if_pos hh, rle_fail]
        exact ⟨fail_ended h, rfl⟩
      · have hrle : (s.dev.genCommitted x us).rle = { s.dev.rle with
            gen := s.dev.rle.gen + 1, slotSt := .draining, commitTick := s.dev.bal.tick, retireUs := us } := rle_record ..
        have haon : (s.dev.genCommitted x us).aon = s.dev.aon := by
          have hbal : (s.dev.genCommitted x us).bal = s.dev.bal := bal_record ..
          rw [Dev.aon, hbal, Dev.aon]
        dsimp only
        rw [doOpGenCommit_run io h hop hus, if_neg (not_not.2 hst), if_neg (not_not.2 hh), if_neg (not_not.2 hg), if_neg (by omega), hw,
          if_neg Bool.false_ne_true, rle_ok, hrle, haon]
        exact ⟨ok_ended (isRunning_congr (hif_record ..) h), rfl⟩
      · dsimp only
        rw [doOpGenCommit_run io h hop hus, if_neg (not_not.2 hst), if_neg (not_not.2 hh), if_neg (not_not.2 hg), if_neg (by omega), hw,
          if_pos rfl, rle_again]
        exact ⟨rfl, again_scratch h []⟩
    · refine ⟨{ s with dev := doOpGenDiscard c io s.dev }, rfl, fun hno => ?_, fun hst hg hh hm => ?_, fun hst hg hmay => ?_⟩
      · dsimp only
        rw [doOpGenDiscard_run io h hop hs, if_pos hno, rle_fail]
        exact ⟨fail_ended h, rfl⟩
      · dsimp only
        rw [doOpGenDiscard_run io h hop hs, if_neg (by simp [hst, hg]), if_pos ⟨hh, by rw [hm]; rfl⟩, rle_fail]
        exact ⟨fail_ended h, rfl⟩
      · obtain ⟨hx, -⟩ := id h
        have hno : ¬ (s.dev.rle.holder ≠ some x.polder ∧ (!s.dev.mayAs c none) = true) := by
          rintro ⟨h1, h2⟩
          cases hmay with
          | inl h => exact h1 h
          | inr h => simp [h] at h2
        dsimp only
        rw [doOpGenDiscard_run io h hop hs, if_neg (by simp [hst, hg]), if_neg hno,
          cmd?_modCmd _ _ _ (names_keep (f := fun y => { y with scratch := [1] }) (fun _ => rfl) (fun _ => rfl)), cmd?_hif (hif_genDiscard ..), hx]
        exact ⟨rfl, rle_genDiscard ..⟩
    · refine ⟨{ s with dev := doOpGenStatus c io s.dev }, rfl, ?_⟩
      dsimp only
      subst hdr
      rw [show doOpGenStatus c io s.dev = _ from step1_run h hop, rle_ok]
      exact ⟨rfl, ok_ended h⟩
  · refine ⟨{ s with dev := doGenDrainDone s.dev }, rfl, ?_⟩
    dsimp only
    rw [doGenDrainDone, if_pos ⟨hst, h0⟩]
    exact rle_genRetire ..
  · have hrle : (s.dev.reach (s.dev.rle.commitTick + usTicks s.dev.rle.retireUs)).rle = s.dev.rle := by simp
    refine ⟨{ s with dev := doRetirementTimerExpiry s.dev }, rfl, ?_⟩
    dsimp only
    rw [doRetirementTimerExpiry_draining hst, holderLive_reach]
    split
    next h0 =>
      have hbal (d : Dev) : d.genRetire.bal = d.bal := by simp
      rw [hbal, rle_genRetire]
      exact ⟨rfl, tick_reach .., fun _ _ h => absurd h0 h⟩
    next h0 =>
      obtain ⟨hbal, hr, hdoom⟩ := genForced_effect (s.dev.reach (s.dev.rle.commitTick + usTicks s.dev.rle.retireUs))
      rw [hbal, hr]
      refine ⟨rfl, tick_reach .., fun h hh _ => ⟨by dsimp only; rw [hrle], fun pid y hy hgen hpol => ?_⟩⟩
      refine hdoom pid y hy ?_ ?_
      · rw [hgen, Dev.oldTag, Dev.oldTag, hrle]
      · rw [hpol, hrle, hh]
        rfl
  · refine ⟨{ s with dev := doSyncSweepDone s.dev }, rfl, ?_⟩
    dsimp only
    rw [doSyncSweepDone_sweeping hst]
    obtain ⟨hhif, hrle⟩ := sweptTables_parts s.dev
    have hend : ((List.range 4).foldl Dev.endDiscards s.dev.sweptTables).rle = s.dev.sweptTables.rle :=
      foldl_keeps (fun d => d.rle) rle_endDiscards _ _
    rw [hend, hrle]
    refine ⟨rfl, rfl, fun k e hv hk hc => tget_swept hv hc _ hk, fun y hy hv => ?_, fun c x hc h hop hs => ?_⟩
    · obtain ⟨z, -, hz⟩ := List.mem_filterMap.1 hy
      exact (sweptEntry_some hz).2 hv
    · exact foldl_reaches (I := fun d : Dev => d.runsOr c x okDone) (P := fun d : Dev => d.ended c x okDone)
        (fun d e h => runsOr_endDiscards h e) (fun d h => ended_endDiscards h hop hs)
        (fun d e h => ended_kept h e) (List.mem_range.2 hc)
        (.inl (isRunning_congr hhif h))

end Sys2Proof.Machine
end

/-! PROOFS. The learn ring, relocation and aging (06, 07): one equation for each of the rows. -/

section

namespace Sys2Proof.Machine

/-! ### What the ring's parts read -/

theorem lrn_stashRefresh (d : Dev) (q : Nat) : (d.stashRefresh q).lrn = d.lrn := by unfold Dev.stashRefresh; simp

theorem lrn_lagRefresh (d : Dev) (q : Nat) : (d.lagRefresh q).lrn = d.lrn := by unfold Dev.lagRefresh; simp

theorem lrn_bump (d : Dev) (c : Ctr) (q n : Nat) : (d.bump c q n).lrn = d.lrn := by simp

theorem macAt_setMac (d : Dev) (q i j : Nat) (e : Option MacEnt) :
    (d.setMac q i e).macAt q j = if i = j then e else d.macAt q j := by
  simp [Dev.macAt, Dev.setMac, Dev.quad_modQuad]

theorem queue_setMac (d : Dev) (q i : Nat) (e : Option MacEnt) : ((d.setMac q i e).quad q).queue = (d.quad q).queue := by
  simp [Dev.setMac, Dev.quad_modQuad]

theorem macAt_congr {d d' : Dev} (h : d'.lrn = d.lrn) (q i : Nat) : d'.macAt q i = d.macAt q i := by
  unfold Dev.macAt Dev.quad; rw [h]

theorem quad_congr {d d' : Dev} (h : d'.lrn = d.lrn) (q : Nat) : d'.quad q = d.quad q := by unfold Dev.quad; rw [h]

/-! ### The sequencer (07 R207) -/

/-- Every copy takes an event behind those that it has not applied. -/
theorem queue_handed (v : LrnEvent) (q : Nat) : ∀ (l : List Nat) (d : Dev), l.Nodup →
    ((l.foldl (fun d k => d.modQuad k (fun x => { x with queue := x.queue ++ [v] })) d).quad q).queue =
      (d.quad q).queue ++ (if q ∈ l then [v] else []) ∧
    ((l.foldl (fun d k => d.modQuad k (fun x => { x with queue := x.queue ++ [v] })) d).quad q).offers = (d.quad q).offers := by
  intro l
  induction l with
  | nil => simp
  | cons k l ih =>
    intro d hnd
    obtain ⟨hk, hl⟩ := List.nodup_cons.1 hnd
    obtain ⟨hq, ho⟩ := ih (d.modQuad k (fun x => { x with queue := x.queue ++ [v] })) hl
    simp only [List.foldl_cons]
    rw [hq, ho, Dev.quad_modQuad]
    by_cases h : k = q
    · subst h
      simp [hk]
    · simp [h, Ne.symm h]

/-- The events offered at a stop of the ring: a quadrant's, or, at stop 4, the host's. -/
def Dev.offered (d : Dev) (k : Nat) : List LrnEvent := if k = 4 then d.lrn.hostOffers else (d.quad k).offers

/-- The sequencer takes the event at a stop, and leaves the others that wait there. -/
def Dev.takeOffer (d : Dev) (k : Nat) (rest : List LrnEvent) : Dev :=
  let d : Dev := { d with lrn := { d.lrn with rr := k, seq := (d.lrn.seq + 1) % 2 ^ 32 } }
  if k = 4 then { d with lrn := { d.lrn with hostOffers := rest } } else d.modQuad k (fun x => { x with offers := rest })

/-- The stamp of the sequencer. -/
def Dev.stamp (d : Dev) (v : LrnEvent) : LrnEvent := { v with seq := d.lrn.seq, tick := d.bal.tick, cfg := d.lrnCfg v.polder }

theorem doLearnEventPass_takes {d : Dev} {k : Nat} {v : LrnEvent} {rest : List LrnEvent}
    (hk : nextRound 5 d.lrn.rr (fun k => !(d.offered k).isEmpty) = some k) (hv : d.offered k = v :: rest) :
    doLearnEventPass d =
      (List.range 4).foldl (fun e q => e.modQuad q (fun x => { x with queue := x.queue ++ [d.stamp v] })) (d.takeOffer k rest) := by
  unfold Dev.offered at hk hv
  unfold doLearnEventPass
  dsimp only
  rw [hk]
  dsimp only
  rw [hv]
  rfl

theorem quad_takeOffer (d : Dev) (k : Nat) (rest : List LrnEvent) (q : Nat) :
    (d.takeOffer k rest).quad q = if k = q ∧ k ≠ 4 then { d.quad q with offers := rest } else d.quad q := by
  by_cases hk : k = 4
  · simp [Dev.takeOffer, hk, Dev.quad]
  · unfold Dev.takeOffer
    dsimp only
    rw [if_neg hk, Dev.quad_modQuad]
    by_cases h : k = q
    · rw [if_pos h, if_pos ⟨h, hk⟩]; rfl
    · rw [if_neg h, if_neg (fun a => h a.1)]; rfl

theorem lrn_handed (v : LrnEvent) (l : List Nat) (d : Dev) :
    (l.foldl (fun e q => e.modQuad q (fun x => { x with queue := x.queue ++ [v] })) d).lrn.rr = d.lrn.rr ∧
    (l.foldl (fun e q => e.modQuad q (fun x => { x with queue := x.queue ++ [v] })) d).lrn.seq = d.lrn.seq ∧
    (l.foldl (fun e q => e.modQuad q (fun x => { x with queue := x.queue ++ [v] })) d).lrn.hostOffers = d.lrn.hostOffers :=
by
  refine ⟨?_, ?_, ?_⟩
  · exact foldl_keeps (fun d => d.lrn.rr) (fun d q => (rfl : (d.modQuad q _).lrn.rr = d.lrn.rr)) _ _
  · exact foldl_keeps (fun d => d.lrn.seq) (fun d q => (rfl : (d.modQuad q _).lrn.seq = d.lrn.seq)) _ _
  · exact foldl_keeps (fun d => d.lrn.hostOffers) (fun d q => (rfl : (d.modQuad q _).lrn.hostOffers = d.lrn.hostOffers)) _ _

theorem lrn_takeOffer (d : Dev) (k : Nat) (rest : List LrnEvent) :
    (d.takeOffer k rest).lrn.rr = k ∧ (d.takeOffer k rest).lrn.seq = (d.lrn.seq + 1) % 2 ^ 32 ∧
    (d.takeOffer k rest).offered k = rest := by
  by_cases hk : k = 4
  · subst hk
    exact ⟨rfl, rfl, rfl⟩
  · refine ⟨?_, ?_, ?_⟩
    · simp [Dev.takeOffer, hk, Dev.modQuad]
    · simp [Dev.takeOffer, hk, Dev.modQuad]
    · rw [Dev.offered, if_neg hk, quad_takeOffer, if_pos ⟨rfl, hk⟩]

theorem doLearnEventPass_hands {d : Dev} {k : Nat} {v : LrnEvent} {rest : List LrnEvent}
    (hk : nextRound 5 d.lrn.rr (fun k => !(d.offered k).isEmpty) = some k) (hv : d.offered k = v :: rest) :
    (doLearnEventPass d).lrn.rr = k ∧ (doLearnEventPass d).lrn.seq = (d.lrn.seq + 1) % 2 ^ 32 ∧
    (doLearnEventPass d).offered k = rest ∧
    ∀ q, q < 4 → ((doLearnEventPass d).quad q).queue = (d.quad q).queue ++ [d.stamp v] := by
  rw [doLearnEventPass_takes hk hv]
  obtain ⟨hrr, hseq, hoff⟩ := lrn_takeOffer d k rest
  obtain ⟨hr, hs, hh⟩ := lrn_handed (d.stamp v) (List.range 4) (d.takeOffer k rest)
  refine ⟨hr.trans hrr, hs.trans hseq, ?_, fun q hq => ?_⟩
  · refine Eq.trans ?_ hoff
    unfold Dev.offered
    rw [hh, (queue_handed (d.stamp v) k (List.range 4) (d.takeOffer k rest) List.nodup_range).2]
  · rw [(queue_handed (d.stamp v) q (List.range 4) (d.takeOffer k rest) List.nodup_range).1, quad_takeOffer,
      if_pos (List.mem_range.2 hq)]
    by_cases h : k = q ∧ k ≠ 4
    · rw [if_pos h]
    · rw [if_neg h]

/-! ### A copy applies its next event (07 R208, R211) -/

/-- A copy takes the next event of its queue. -/
def Dev.dequeued (d : Dev) (q : Nat) (rest : List LrnEvent) : Dev := d.modQuad q (fun x => { x with queue := rest })

theorem queue_dequeued (d : Dev) (q : Nat) (rest : List LrnEvent) : ((d.dequeued q rest).quad q).queue = rest := by
  simp [Dev.dequeued]

theorem macAt_dequeued (d : Dev) (q : Nat) (rest : List LrnEvent) (i : Nat) : (d.dequeued q rest).macAt q i = d.macAt q i := by
  simp [Dev.dequeued, Dev.macAt]

theorem ents_dequeued (d : Dev) (q : Nat) (rest : List LrnEvent) : ((d.dequeued q rest).quad q).ents = (d.quad q).ents := by
  simp [Dev.dequeued]

theorem macFind_dequeued (d : Dev) (q : Nat) (rest : List LrnEvent) (p domain mac : Nat) :
    (d.dequeued q rest).macFind q p domain mac = d.macFind q p domain mac := by
  unfold Dev.macFind; rw [ents_dequeued]

theorem macUse_dequeued (d : Dev) (q : Nat) (rest : List LrnEvent) (p : Nat) : (d.dequeued q rest).macUse q p = d.macUse q p := by
  unfold Dev.macUse; rw [ents_dequeued]

theorem macPlace_dequeued (d : Dev) (q : Nat) (rest : List LrnEvent) (mac domain p : Nat) :
    (d.dequeued q rest).macPlace q mac domain p = d.macPlace q mac domain p := by
  unfold Dev.macPlace; simp only [macAt_dequeued]

/-- A late copy keeps its ECC source as it is. -/
theorem src_lagRefresh_ecc (d : Dev) (q : Nat) : (d.lagRefresh q).src (0x924 + 64 * q) = d.src (0x924 + 64 * q) :=
  src_live_ne (by omega) d _ _

theorem ringEcc_source {q : Nat} (hq : q < 4) : (defaultSeverity (0x924 + 64 * q)).isSome = true := by interval_cases q <;> decide

theorem applyLag_source {q : Nat} (hq : q < 4) : (defaultSeverity (0x921 + 64 * q)).isSome = true := by interval_cases q <;> decide

theorem lagRefresh_late {d : Dev} {q : Nat} {v : LrnEvent} {rest : List LrnEvent} (hq : q < 4) (hv : (d.quad q).queue = v :: rest)
    (ht : v.tick + usTicks 2 < d.bal.tick) : ((d.lagRefresh q).src (0x921 + 64 * q)).live = true := by
  unfold Dev.lagRefresh
  rw [hv]
  dsimp only
  rw [decide_eq_true ht]
  exact src_live_self (applyLag_source hq) d 0

theorem doLearnApplyLag_reaches {d : Dev} {q : Nat} {v : LrnEvent} {rest : List LrnEvent} (hv : (d.quad q).queue = v :: rest) :
    doLearnApplyLag q d = (d.reach (v.tick + usTicks 2 + 1)).lagRefresh q := by
  unfold doLearnApplyLag; rw [hv]

section

variable {d : Dev} {q : Nat} {v : LrnEvent} {rest : List LrnEvent} (hq : q < 4) (hv : (d.quad q).queue = v :: rest) (hop : v.op = none)

include hq hv hop

/-- An event whose ECC fails is lost (07 R211). -/
theorem doLearnEventApply_ecc {check : Ecc} (hc : check = .once ∨ check = .lasting) (draw : Nat) :
    doLearnEventApply q check draw d =
      (((d.dequeued q rest).liveMs (0x924 + 64 * q)).record Ev.lrnRingEcc .shared (some (0x924 + 64 * q))
        (dat [(0, 1, q), (1, 4, v.seq)])).lagRefresh q := by
  unfold doLearnEventApply
  rw [if_neg (Nat.not_le.2 hq), hv]
  dsimp only
  rw [if_pos (decide_eq_true hc), hop]
  rfl

theorem doLearnEventApply_learns (hk : v.kind = .new ∨ v.kind = .move) (draw : Nat) :
    doLearnEventApply q .clean draw d = ((d.dequeued q rest).macLearn q v draw).lagRefresh q := by
  unfold doLearnEventApply
  rw [if_neg (Nat.not_le.2 hq), hv]
  dsimp only
  rw [if_neg (by simp), hop]
  obtain hk | hk := hk <;> rw [hk] <;> rfl

theorem doLearnEventApply_rehomes (hk : v.kind = .rehome) (draw : Nat) :
    doLearnEventApply q .clean draw d = ((d.dequeued q rest).macChecked q v (fun e =>
      some { e with home := v.origin, hit := decide (q = v.origin), agedOnce := false, version := v.seq % 2 ^ 24 })).lagRefresh q := by
  unfold doLearnEventApply
  rw [if_neg (Nat.not_le.2 hq), hv]
  dsimp only
  rw [if_neg (by simp), hop, hk]
  rfl

theorem doLearnEventApply_marks (hk : v.kind = .ageMark) (draw : Nat) :
    doLearnEventApply q .clean draw d =
      ((d.dequeued q rest).macChecked q v (fun e => some { e with agedOnce := true })).lagRefresh q := by
  unfold doLearnEventApply
  rw [if_neg (Nat.not_le.2 hq), hv]
  dsimp only
  rw [if_neg (by simp), hop, hk]
  rfl

theorem doLearnEventApply_removes (hk : v.kind = .remove) (draw : Nat) :
    doLearnEventApply q .clean draw d = ((d.dequeued q rest).macChecked q v (fun _ => none)).lagRefresh q := by
  unfold doLearnEventApply
  rw [if_neg (Nat.not_le.2 hq), hv]
  dsimp only
  rw [if_neg (by simp), hop, hk]
  rfl

end

/-- An event checked on VERSION changes the entry that holds its key. -/
theorem macChecked_held {d : Dev} {q : Nat} {v : LrnEvent} {i : Nat} {e : MacEnt} {f : MacEnt → Option MacEnt}
    (hf : d.macFind q v.polder v.domain v.mac = some (i, e)) (hval : e.valid = true) (hver : e.version = v.version) :
    d.macChecked q v f = (d.setMac q i (f e)).stashRefresh q := by
  unfold Dev.macChecked
  rw [hf]
  exact if_pos (by simp [hval, hver])

/-- What a copy holds after an event that it applies and that changes one place. -/
theorem applied_place (d : Dev) (q : Nat) (rest : List LrnEvent) (i : Nat) (e : Option MacEnt) :
    (((((d.dequeued q rest).setMac q i e).stashRefresh q).lagRefresh q).quad q).queue = rest ∧
    ((((d.dequeued q rest).setMac q i e).stashRefresh q).lagRefresh q).macAt q i = e := by
  have h := (lrn_lagRefresh (((d.dequeued q rest).setMac q i e).stashRefresh q) q).trans
    (lrn_stashRefresh ((d.dequeued q rest).setMac q i e) q)
  exact ⟨by rw [quad_congr h, queue_setMac, queue_dequeued], by rw [macAt_congr h, macAt_setMac, if_pos rfl]⟩

theorem relearned_place (d : Dev) (q : Nat) (rest : List LrnEvent) (i : Nat) (e : Option MacEnt) :
    ((((d.dequeued q rest).setMac q i e).lagRefresh q).quad q).queue = rest ∧
    (((d.dequeued q rest).setMac q i e).lagRefresh q).macAt q i = e := by
  have h := lrn_lagRefresh ((d.dequeued q rest).setMac q i e) q
  exact ⟨by rw [quad_congr h, queue_setMac, queue_dequeued], by rw [macAt_congr h, macAt_setMac, if_pos rfl]⟩

/-- NEW or MOVE of an entry on the port on which it stands relearns it. -/
theorem macLearn_again {d : Dev} {q : Nat} {v : LrnEvent} {i : Nat} {e : MacEnt} (hst : (d.polder v.polder).st ≠ .undefined)
    (hf : d.macFind q v.polder v.domain v.mac = some (i, e)) (hval : e.valid = true) (hport : e.port = v.port) (hlag : e.isLag = v.isLag)
    (draw : Nat) : d.macLearn q v draw = d.setMac q i (some (e.again v q)) := by
  unfold Dev.macLearn
  rw [if_neg hst, hf]
  dsimp only
  rw [if_neg (by simp [hval]), if_pos ⟨hport, hlag⟩]

/-- NEW of a key that has a place and room in the quota. -/
theorem macLearn_new {d : Dev} {q : Nat} {v : LrnEvent} {i : Nat} (hst : (d.polder v.polder).st ≠ .undefined)
    (hf : d.macFind q v.polder v.domain v.mac = none) (huse : d.macUse q v.polder < d.quota v.polder 0)
    (hi : d.macPlace q v.mac v.domain v.polder = some i) (draw : Nat) : d.macLearn q v draw = d.putMac q i (learned v q) := by
  have hr : d.macReserve q (learned v q) = some (d.putMac q i (learned v q)) := by
    unfold Dev.macReserve
    rw [if_neg (by rw [Dev.macFull, decide_eq_true_eq]; exact Nat.not_le.2 huse)]
    exact congrArg (Option.map _) hi
  unfold Dev.macLearn
  rw [if_neg hst, hf]
  dsimp only
  unfold Dev.macInsert
  rw [hr]

theorem putMac_place (d : Dev) (q i : Nat) (e : MacEnt) :
    ∃ n, (d.putMac q i e).macAt q i = some { e with stashed := n } := by
  refine ⟨if inStash i then (d.quad q).stashSeq else 0, ?_⟩
  unfold Dev.putMac
  dsimp only
  rw [macAt_congr (lrn_stashRefresh _ q), macAt_setMac, if_pos rfl]

theorem queue_putMac (d : Dev) (q i : Nat) (e : MacEnt) : ((d.putMac q i e).quad q).queue = (d.quad q).queue := by
  unfold Dev.putMac
  dsimp only
  rw [quad_congr (lrn_stashRefresh _ q), queue_setMac]
  split <;> simp [Dev.quad_modQuad]

/-! ### Relocation (07 R223) -/

/-- One move of an entry of a copy. -/
def Dev.macMoved (d : Dev) (q src dst : Nat) (e : MacEnt) (rest : List Nat) : Dev :=
  ((((d.setMac q dst (some { e with stashed := 0, hit := e.hit || decide (e.home = q) })).setMac q src none).modQuad q
    (fun x => { x with plan := rest, relocs := relocBoth x.relocs id src dst })).bump .reloc q).stashRefresh q

/-- The walker has no path of its own where its copy has a plan. -/
theorem planOf_of_ne_nil {plan : List Nat} (h : plan ≠ []) (oldest : Option Nat) (path : List Nat) (ok : Nat → List Nat → Bool) :
    planOf plan oldest path ok = plan := by
  unfold planOf
  split
  · exact absurd rfl h
  · rfl

theorem planStep_end (pre : List Nat) (src dst : Nat) :
    planStep (pre ++ [src, dst]) = some (src, dst, if pre = [] then [] else pre ++ [src]) := by
  simp [planStep]

theorem lrn_macMoved (d : Dev) (q src dst : Nat) (e : MacEnt) (rest : List Nat) :
    (d.macMoved q src dst e rest).lrn = (((d.setMac q dst (some { e with stashed := 0, hit := e.hit || decide (e.home = q) })).setMac q src
      none).modQuad q (fun x => { x with plan := rest, relocs := relocBoth x.relocs id src dst })).lrn :=
  (lrn_stashRefresh _ q).trans (lrn_bump _ .reloc q 1)

theorem macMoved_places (d : Dev) (q src dst : Nat) (e : MacEnt) (rest : List Nat) (hne : src ≠ dst) :
    (d.macMoved q src dst e rest).macAt q src = none ∧
    (d.macMoved q src dst e rest).macAt q dst = some { e with stashed := 0, hit := e.hit || decide (e.home = q) } ∧
    ((d.macMoved q src dst e rest).quad q).plan = rest := by
  have hl := lrn_macMoved d q src dst e rest
  have hm (b : Dev) (i : Nat) : (b.modQuad q (fun x => { x with plan := rest, relocs := relocBoth x.relocs id src dst })).macAt q i =
      b.macAt q i := by simp [Dev.macAt]
  refine ⟨?_, ?_, ?_⟩
  · rw [macAt_congr hl, hm, macAt_setMac, if_pos rfl]
  · rw [macAt_congr hl, hm, macAt_setMac, if_neg hne, macAt_setMac, if_pos rfl]
  · rw [quad_congr hl]
    simp

/-- The stash entry that has waited longest. -/
def Dev.macOldest (d : Dev) (q : Nat) : Option Nat :=
  oldestOf ((d.quad q).ents.filterMap (fun y => if inStash y.1 then y.2.map (fun e => (y.1, e.stashed)) else none))

/-- The plan that the walker of a copy follows. -/
def Dev.macPlan (d : Dev) (q : Nat) (path : List Nat) : List Nat :=
  planOf (d.quad q).plan (d.macOldest q) path
    (pathOk (d.macCand q) (fun _ dst => (d.macAt q dst).isNone) (fun _ dst => (d.macAt q dst).isSome))

theorem macCand_held {d : Dev} {q i : Nat} {e : MacEnt} (h : d.macAt q i = some e) :
    d.macCand q i = macCandidates e.mac e.domain e.polder := by
  unfold Dev.macCand; rw [h]

theorem macWalk_moves {d : Dev} {q src dst : Nat} {path rest : List Nat} {e : MacEnt}
    (hp : planStep (d.macPlan q path) = some (src, dst, rest)) (he : d.macAt q src = some e) (hfree : d.macAt q dst = none)
    (hc : dst ∈ macCandidates e.mac e.domain e.polder) : d.macWalk q path = d.macMoved q src dst e rest := by
  unfold Dev.macPlan Dev.macOldest at hp
  unfold Dev.macWalk
  dsimp only
  rw [hp]
  dsimp only
  rw [he]
  dsimp only
  rw [if_neg (by simp [hfree, macCand_held he, hc])]
  rfl

theorem macWalk_gives_up {d : Dev} {q src dst : Nat} {path rest : List Nat} {e : MacEnt}
    (hp : planStep (d.macPlan q path) = some (src, dst, rest)) (he : d.macAt q src = some e) (hfull : d.macAt q dst ≠ none) :
    d.macWalk q path = d.modQuad q (fun x => { x with plan := [] }) := by
  unfold Dev.macPlan Dev.macOldest at hp
  unfold Dev.macWalk
  dsimp only
  rw [hp]
  dsimp only
  rw [he]
  dsimp only
  rw [if_pos (by simp [Option.isSome_iff_ne_none, hfull])]

/-- A search begins at the oldest stash entry. -/
theorem macPlan_begins {d : Dev} {q src dst : Nat} {e : MacEnt} (hp : (d.quad q).plan = []) (ho : d.macOldest q = some src)
    (he : d.macAt q src = some e) (hfree : d.macAt q dst = none) (hc : dst ∈ macCandidates e.mac e.domain e.polder)
    (hb : src / 4 ≠ dst / 4) : d.macPlan q [dst] = [src, dst] := by
  unfold Dev.macPlan
  rw [hp, ho]
  exact if_pos (by simp [pathOk, macCand_held he, hc, hb, hfree])

theorem doRelocationMove_mac {q : Nat} (hq : q < 4) (path : List Nat) (d : Dev) : doRelocationMove q 0 path d = d.macWalk q path := by
  unfold doRelocationMove
  rw [if_pos rfl]
  exact if_neg (Nat.not_le.2 hq)

theorem doRelocationMove_wayed {t : Nat} (ht : wayed t = true) (path : List Nat) {q : Nat} (d : Dev) :
    doRelocationMove q t path d = d.tabWalk t path := by
  unfold doRelocationMove
  rw [if_neg (fun h => by subst h; exact absurd ht (by decide)), if_pos ht]

/-- The oldest stash entry of a table that is organised like the MAC table. -/
def Dev.tabOldest (d : Dev) (t : Nat) : Option Nat :=
  oldestOf ((d.tabList t).filterMap (fun x => if capacity t ≤ x.1 then some (x.1, x.2.stashed) else none))

/-- One move in such a table. -/
def Dev.tabMoved (d : Dev) (t src dst : Nat) (e : TabEnt) (rest : List Nat) : Dev :=
  let d := (d.setTab t dst (some { e with stashed := 0 })).setTab t src none
  { d with rle := { d.rle with
    relocs := relocBoth d.rle.relocs (fun b => tabKey t b) src dst, plans := tset d.rle.plans [] t rest } }

theorem tab_setTab (d : Dev) (t i j : Nat) (e : Option TabEnt) : (d.setTab t i e).tab t j = if i = j then e else d.tab t j := by
  simp [Dev.tab, Dev.setTab, tabKey]

theorem tabMoved_places (d : Dev) (t src dst : Nat) (e : TabEnt) (rest : List Nat) (hne : src ≠ dst) :
    (d.tabMoved t src dst e rest).tab t src = none ∧ (d.tabMoved t src dst e rest).tab t dst = some { e with stashed := 0 } := by
  have h (i : Nat) : (d.tabMoved t src dst e rest).tab t i = ((d.setTab t dst (some { e with stashed := 0 })).setTab t src none).tab t i :=
    rfl
  constructor
  · rw [h, tab_setTab, if_pos rfl]
  · rw [h, tab_setTab, if_neg hne, tab_setTab, if_pos rfl]

theorem tabWalk_moves {d : Dev} {t src dst : Nat} {path pre : List Nat} {e : TabEnt} (hp : tget d.rle.plans [] t = pre ++ [src, dst])
    (he : d.tab t src = some e) (hfree : d.placeFree t dst (d.unitsAt t src) = true) (hc : (d.tabCand t src).contains dst = true) :
    ∃ rest, d.tabWalk t path = d.tabMoved t src dst e rest := by
  refine ⟨if pre = [] then [] else pre ++ [src], ?_⟩
  unfold Dev.tabWalk
  dsimp only
  rw [hp, planOf_of_ne_nil (by simp), planStep_end]
  dsimp only
  rw [he]
  dsimp only
  rw [if_neg (by rw [hfree, hc]; exact Bool.noConfusion)]
  rfl

/-! ### Aging (07 R214, R215) -/

/-- The sweeper of quadrant `q` visits this entry: it is its own and not static. -/
def ages (q : Nat) (e : MacEnt) : Bool := e.valid && !e.static && decide (e.home = q)

/-- What a visit leaves of an entry. -/
def aged (q : Nat) (e : MacEnt) : MacEnt := if ages q e && e.hit then { e with hit := false, agedOnce := false } else e

/-- The event that a visit offers of an entry that was not hit. -/
def ageEvent (q : Nat) (e : MacEnt) : LrnEvent :=
  { kind := if e.agedOnce then .remove else .ageMark, origin := q, polder := e.polder, mac := e.mac, domain := e.domain
    version := e.version }

theorem aged_aged (q : Nat) (e : MacEnt) : aged q (aged q e) = aged q e := by
  unfold aged
  by_cases h : (ages q e && e.hit) = true <;> simp [h]

theorem aged_of_not_hit (q : Nat) {e : MacEnt} (h : e.hit = false) : aged q e = e := by simp [aged, h]

/-- A visit finds no entry of the quadrant's own, or one that was hit, or one that it reports. -/
theorem ageVisit_cases (d : Dev) (q i : Nat) :
    (d.ageVisit q i = d ∧ (d.macAt q i).map (aged q) = d.macAt q i ∧ ∀ e, d.macAt q i = some e → ages q e = true → e.hit = true) ∨
    (∃ e, d.macAt q i = some e ∧ ages q e = true ∧ e.hit = true ∧ d.ageVisit q i = d.setMac q i (some (aged q e))) ∨
    (∃ e, d.macAt q i = some e ∧ ages q e = true ∧ e.hit = false ∧
      (d.ageVisit q i).lrn = (d.modQuad q (fun x => { x with offers := x.offers ++ [ageEvent q e] })).lrn) := by
  cases he : d.macAt q i with
  | none => exact .inl ⟨by unfold Dev.ageVisit; rw [he], rfl, nofun⟩
  | some e =>
    have hv : d.ageVisit q i = if !e.valid || e.static || decide (e.home ≠ q) then d
        else if e.hit then d.setMac q i (some { e with hit := false, agedOnce := false })
        else if e.agedOnce then
          (d.modQuad q (fun x => { x with offers := x.offers ++ [{ ageEvent q e with kind := .remove }] })).bump .aged q
        else d.modQuad q (fun x => { x with offers := x.offers ++ [{ ageEvent q e with kind := .ageMark }] }) := by
      unfold Dev.ageVisit; rw [he]; rfl
    have hages : (!e.valid || e.static || decide (e.home ≠ q)) = !ages q e := by
      cases h : e.valid <;> cases h' : e.static <;> simp [ages, h, h']
    rw [hv, hages]
    cases ha : ages q e with
    | false => exact .inl ⟨rfl, by simp [aged, ha], fun e' h => by cases h; simp [ha]⟩
    | true =>
      cases hh : e.hit with
      | true => exact .inr (.inl ⟨e, rfl, ha, hh, by simp [aged, ha, hh]⟩)
      | false =>
        refine .inr (.inr ⟨e, rfl, ha, hh, ?_⟩)
        cases ho : e.agedOnce with
        | true => exact (lrn_bump _ .aged q 1).trans (by simp [ageEvent, ho])
        | false => simp [ageEvent, ho]

theorem macAt_ageVisit (d : Dev) (q i j : Nat) :
    (d.ageVisit q i).macAt q j = if i = j then (d.macAt q j).map (aged q) else d.macAt q j := by
  obtain ⟨hd, ha, -⟩ | ⟨e, he, -, -, hd⟩ | ⟨e, he, -, hh, hd⟩ := ageVisit_cases d q i
  · rw [hd]
    split
    · next h => rw [← h, ha]
    · rfl
  · rw [hd, macAt_setMac]
    split
    · next h => rw [← h, he]; rfl
    · rfl
  · have hm : (d.modQuad q (fun x => { x with offers := x.offers ++ [ageEvent q e] })).macAt q j = d.macAt q j := by simp [Dev.macAt]
    rw [macAt_congr hd, hm]
    split
    · next h => rw [← h, he, Option.map_some, aged_of_not_hit q hh]
    · rfl

theorem offers_ageVisit_mem {d : Dev} {q : Nat} {v : LrnEvent} (i : Nat) (h : v ∈ (d.quad q).offers) :
    v ∈ ((d.ageVisit q i).quad q).offers := by
  obtain ⟨hd, -⟩ | ⟨e, -, -, -, hd⟩ | ⟨e, -, -, -, hd⟩ := ageVisit_cases d q i
  · rw [hd]; exact h
  · rw [hd]; simpa [Dev.setMac] using h
  · rw [quad_congr hd]; simp [h]

theorem ageVisit_reports {d : Dev} {q i : Nat} {e : MacEnt} (he : d.macAt q i = some e) (ha : ages q e = true) (hh : e.hit = false) :
    ageEvent q e ∈ ((d.ageVisit q i).quad q).offers := by
  obtain ⟨-, -, h⟩ | ⟨e', he', -, hh', -⟩ | ⟨e', he', -, -, hd⟩ := ageVisit_cases d q i
  · rw [h e he ha] at hh; cases hh
  · rw [he] at he'; cases he'; rw [hh] at hh'; cases hh'
  · rw [he] at he'; cases he'
    rw [quad_congr hd]
    simp

theorem rows_ageVisit (d : Dev) (q i : Nat) : (d.ageVisit q i).lrn.rows = d.lrn.rows := by
  obtain ⟨hd, -⟩ | ⟨e, -, -, -, hd⟩ | ⟨e, -, -, -, hd⟩ := ageVisit_cases d q i
  · rw [hd]
  · rw [hd]; rfl
  · rw [hd]; rfl

/-- An entry that the sweeper visits, once or more often. -/
theorem macAt_visited {d : Dev} {q j : Nat} {e : MacEnt} {l : List Nat} (hj : j ∈ l) (he : d.macAt q j = some e) :
    (l.foldl (fun d i => d.ageVisit q i) d).macAt q j = some (aged q e) := by
  refine foldl_reaches (I := fun d : Dev => d.macAt q j = some e ∨ d.macAt q j = some (aged q e))
    (P := fun d : Dev => d.macAt q j = some (aged q e))
    (fun d i h => ?_) (fun d h => ?_) (fun d i h => ?_) hj (.inl he)
  · rw [macAt_ageVisit]
    split
    · obtain h | h := h <;> simp [h, aged_aged]
    · exact h
  · rw [macAt_ageVisit, if_pos rfl]
    obtain h | h := h <;> simp [h, aged_aged]
  · rw [macAt_ageVisit]
    split
    · simp [h, aged_aged]
    · exact h

/-- An entry of the sweeper's own that was not hit is reported. -/
theorem offers_visited {d : Dev} {q j : Nat} {e : MacEnt} {l : List Nat} (hj : j ∈ l) (he : d.macAt q j = some e) (ha : ages q e = true)
    (hh : e.hit = false) : ageEvent q e ∈ ((l.foldl (fun d i => d.ageVisit q i) d).quad q).offers := by
  refine foldl_reaches (I := fun d : Dev => d.macAt q j = some e) (P := fun d : Dev => ageEvent q e ∈ (d.quad q).offers)
    (fun d i h => ?_) (fun d h => ageVisit_reports h ha hh) (fun d i h => offers_ageVisit_mem i h) hj he
  rw [macAt_ageVisit]
  split
  · rw [h, Option.map_some, aged_of_not_hit q hh]
  · exact h

/-- The places that a sweeper visits at bucket row `b`. -/
def ageIdx (b : Nat) : List Nat :=
  (List.range 4).flatMap (fun w => (List.range 4).map (fun s => w * 131072 + 4 * b + s)) ++ (if b = 0 then stashIdx else [])

theorem mem_ageIdx {b w k : Nat} (hw : w < 4) (hk : k < 4) : w * 131072 + 4 * b + k ∈ ageIdx b :=
  List.mem_append_left _ (List.mem_flatMap.2 ⟨w, List.mem_range.2 hw, List.mem_map.2 ⟨k, List.mem_range.2 hk, rfl⟩⟩)

/-- The device as the sweeper of quadrant `q` finds it at its next row. -/
def Dev.atRow (d : Dev) (q : Nat) : Dev := d.reach (d.lrn.sweepStart + tget d.lrn.rows 0 q * d.lrn.sweepPeriod * 25000000 / 32768)

theorem lrn_atRow (d : Dev) (q : Nat) : (d.atRow q).lrn = d.lrn := by simp [Dev.atRow]

theorem doAgingVisit_row {d : Dev} {q : Nat} (hq : q < 4) (hs : d.lrn.sweeping = true) (hb : tget d.lrn.rows 0 q < 32767) :
    ∃ e : Dev, doAgingVisit q d = e ∧ e.lrn = { ((ageIdx (tget d.lrn.rows 0 q)).foldl (fun d i => d.ageVisit q i) (d.atRow q)).lrn with
      rows := tset d.lrn.rows 0 q (tget d.lrn.rows 0 q + 1) } := by
  refine ⟨_, rfl, ?_⟩
  have hr : ((ageIdx (tget d.lrn.rows 0 q)).foldl (fun d i => d.ageVisit q i) (d.atRow q)).lrn.rows = d.lrn.rows :=
    (foldl_keeps (fun d => d.lrn.rows) (fun d i => rows_ageVisit d q i) _ _).trans (by rw [lrn_atRow])
  have hall : ¬ ((List.range 4).all (fun k => decide (32768 ≤ tget (tset d.lrn.rows 0 q (tget d.lrn.rows 0 q + 1)) 0 k))) = true := by
    intro h
    have := of_decide_eq_true (List.all_eq_true.1 h q (List.mem_range.2 hq))
    rw [tget_tset, if_pos rfl] at this
    omega
  unfold doAgingVisit
  dsimp only
  rw [if_neg (by simp [hs]; omega)]
  unfold ageIdx Dev.atRow at hr
  rw [hr, if_neg hall]
  rfl

/-- Settles O27: the sequencer, the copies, the walkers and the sweeper each by its row's equation. -/
theorem learnRingAppliesEvents : Obligations.LearnRingAppliesEvents := by
  unfold Obligations.LearnRingAppliesEvents
  intro s
  refine ⟨?_, ?_, ?_, ?_, ?_, ?_, ?_⟩
  · intro src v rest hsrc hv
    obtain ⟨hrr, hseq, hoff, hqueue⟩ := doLearnEventPass_hands (d := s.dev) hsrc hv
    exact ⟨{ s with dev := doLearnEventPass s.dev }, rfl, hrr, hseq, hoff, hqueue⟩
  · intro q v rest draw hq hv hop
    refine ⟨fun check hc => ?_, fun i e hf hval => ⟨fun hk hver => ?_, fun hk hver => ?_, fun hk hver => ?_, fun hk hst hport hlag => ?_⟩,
      fun i hk hst hf huse hi => ?_⟩
    · refine ⟨{ s with dev := doLearnEventApply q check draw s.dev }, rfl, ?_⟩
      dsimp only
      rw [doLearnEventApply_ecc hq hv hop hc]
      have hl : ((((s.dev.dequeued q rest).liveMs (0x924 + 64 * q)).record Ev.lrnRingEcc .shared (some (0x924 + 64 * q))
          (dat [(0, 1, q), (1, 4, v.seq)])).lagRefresh q).lrn = (s.dev.dequeued q rest).lrn := by
        rw [lrn_lagRefresh]; simp
      refine ⟨by rw [quad_congr hl, queue_dequeued], by rw [quad_congr hl, ents_dequeued], ?_⟩
      rw [src_lagRefresh_ecc, src_fcr (d := (s.dev.dequeued q rest).liveMs (0x924 + 64 * q)) (by simp)]
      exact src_liveMs_self (ringEcc_source hq) _ _
    · refine ⟨{ s with dev := doLearnEventApply q .clean draw s.dev }, rfl, ?_⟩
      dsimp only
      rw [doLearnEventApply_marks hq hv hop hk, macChecked_held (by rw [macFind_dequeued]; exact hf) hval hver]
      exact applied_place s.dev q rest i _
    · refine ⟨{ s with dev := doLearnEventApply q .clean draw s.dev }, rfl, ?_⟩
      dsimp only
      rw [doLearnEventApply_removes hq hv hop hk, macChecked_held (by rw [macFind_dequeued]; exact hf) hval hver]
      exact applied_place s.dev q rest i _
    · refine ⟨{ s with dev := doLearnEventApply q .clean draw s.dev }, rfl, ?_⟩
      dsimp only
      rw [doLearnEventApply_rehomes hq hv hop hk, macChecked_held (by rw [macFind_dequeued]; exact hf) hval hver]
      exact applied_place s.dev q rest i _
    · refine ⟨{ s with dev := doLearnEventApply q .clean draw s.dev }, rfl, ?_⟩
      dsimp only
      rw [doLearnEventApply_learns hq hv hop hk,
        macLearn_again (d := s.dev.dequeued q rest) hst (by rw [macFind_dequeued]; exact hf) hval hport hlag]
      exact relearned_place s.dev q rest i _
    · refine ⟨{ s with dev := doLearnEventApply q .clean draw s.dev }, rfl, ?_⟩
      dsimp only
      rw [doLearnEventApply_learns hq hv hop (.inl hk),
        macLearn_new (d := s.dev.dequeued q rest) hst (by rw [macFind_dequeued]; exact hf) (by rw [macUse_dequeued]; exact huse)
          (by rw [macPlace_dequeued]; exact hi)]
      obtain ⟨n, hn⟩ := putMac_place (s.dev.dequeued q rest) q i (learned v q)
      have hl := lrn_lagRefresh ((s.dev.dequeued q rest).putMac q i (learned v q)) q
      refine ⟨by rw [quad_congr hl, queue_putMac, queue_dequeued], { learned v q with stashed := n }, by rw [macAt_congr hl, hn], ?_⟩
      exact ⟨rfl, rfl, rfl, rfl, rfl, rfl, rfl, rfl, rfl, rfl⟩
  · intro q v rest hq hv
    refine ⟨{ s with dev := doLearnApplyLag q s.dev }, rfl, ?_⟩
    dsimp only
    have htick : v.tick + usTicks 2 + 1 ≤ (s.dev.reach (v.tick + usTicks 2 + 1)).bal.tick := tick_reach _ _
    have hq' : ((s.dev.reach (v.tick + usTicks 2 + 1)).quad q).queue = v :: rest := by
      rw [quad_congr (d := s.dev) (by simp), hv]
    rw [doLearnApplyLag_reaches hv]
    refine ⟨?_, lagRefresh_late hq hq' (by omega)⟩
    have hb : ((s.dev.reach (v.tick + usTicks 2 + 1)).lagRefresh q).bal = (s.dev.reach (v.tick + usTicks 2 + 1)).bal := by
      unfold Dev.lagRefresh; simp
    rw [hb]
    exact htick
  · intro q path pre src dst e hq hp he
    have hplan : planStep (s.dev.macPlan q path) = some (src, dst, if pre = [] then [] else pre ++ [src]) := by
      unfold Dev.macPlan
      rw [hp, planOf_of_ne_nil (by simp), planStep_end]
    refine ⟨{ s with dev := doRelocationMove q 0 path s.dev }, rfl, fun hfree hc => ?_, fun hfull => ?_⟩
    · dsimp only
      rw [doRelocationMove_mac hq, macWalk_moves hplan he hfree hc]
      exact macMoved_places s.dev q src dst e _ (fun h => by rw [h, hfree] at he; cases he)
    · dsimp only
      rw [doRelocationMove_mac hq, macWalk_gives_up hplan he hfull]
      simp
  · intro q src dst e hq hp ho he hfree hc hb
    have hplan : planStep (s.dev.macPlan q [dst]) = some (src, dst, []) := by
      rw [macPlan_begins hp ho he hfree hc hb]
      exact planStep_end [] src dst
    refine ⟨{ s with dev := doRelocationMove q 0 [dst] s.dev }, rfl, ?_⟩
    dsimp only
    rw [doRelocationMove_mac hq, macWalk_moves hplan he hfree hc]
    obtain ⟨hsrc, hdst, -⟩ := macMoved_places s.dev q src dst e [] (fun h => hb (by rw [h]))
    exact ⟨hsrc, hdst⟩
  · intro q table path pre src dst e hw hp he hne hfree hc
    refine ⟨{ s with dev := doRelocationMove q table path s.dev }, rfl, ?_⟩
    dsimp only
    obtain ⟨rest, hr⟩ := tabWalk_moves (path := path) hp he hfree hc
    rw [show doRelocationMove q table path s.dev = s.dev.tabWalk table path from doRelocationMove_wayed hw path s.dev, hr]
    exact tabMoved_places s.dev table src dst e rest hne
  · intro q hq hs hb
    obtain ⟨e, he, hl⟩ := doAgingVisit_row hq hs hb
    refine ⟨{ s with dev := e }, by rw [← he]; rfl, ?_, fun w k x hw hk hx hval hst hhome => ?_⟩
    · dsimp only
      rw [hl, tget_tset, if_pos rfl]
    · have hx' : (s.dev.atRow q).macAt q (w * 131072 + 4 * tget s.dev.lrn.rows 0 q + k) = some x := by
        rw [macAt_congr (lrn_atRow s.dev q)]; exact hx
      have ha : ages q x = true := by simp [ages, hval, hst, hhome]
      refine ⟨fun hh => ?_, fun hh => ⟨ageEvent q x, ?_, rfl, rfl, rfl, rfl, rfl⟩⟩
      · dsimp only
        rw [show e.macAt q _ = _ from congrArg (fun l : Lrn => tget (tget l.quads {} q).ents none _) hl]
        exact (macAt_visited (mem_ageIdx hw hk) hx').trans (by simp [aged, ha, hh])
      · dsimp only
        rw [show e.quad q = _ from congrArg (fun l : Lrn => tget l.quads {} q) hl]
        exact offers_visited (mem_ageIdx hw hk) hx' ha hh

end Sys2Proof.Machine

end

section
/-! PROOFS. Table commands (06 R170, R185, R192-R196; 07 R226, R227): what an access of the tables gives, and how its command ends. -/
namespace Sys2Proof.Machine

/-! ### The flags of a table command -/

theorem bits_flags (n a : Nat) : bits n a 1 = bits n a 3 % 2 ∧ bits n (a + 1) 1 = bits n a 3 / 2 % 2 ∧ bits n (a + 2) 1 = bits n a 3 / 4 := by
  simp only [bits_eq, Nat.pow_add, ← Nat.div_div_eq_div_mul]
  generalize n / 2 ^ a = m
  omega

/-- BY_INDEX alone. -/
theorem flags_index {x : Cmd} (h : x.fld 17 0 3 = 1) : x.fld 17 0 1 = 1 ∧ x.fld 17 1 1 = 0 ∧ x.fld 17 2 1 = 0 := by
  obtain ⟨h0, h1, h2⟩ := bits_flags x.d 136
  have h' : bits x.d 136 3 = 1 := h
  rw [h'] at h0 h1 h2
  exact ⟨h0, h1, h2⟩

/-- No flag. -/
theorem flags_none {x : Cmd} (h : x.fld 17 0 3 = 0) : x.fld 17 0 1 = 0 ∧ x.fld 17 1 1 = 0 ∧ x.fld 17 2 1 = 0 := by
  obtain ⟨h0, h1, h2⟩ := bits_flags x.d 136
  have h' : bits x.d 136 3 = 0 := h
  rw [h'] at h0 h1 h2
  exact ⟨h0, h1, h2⟩

theorem flags_low {x : Cmd} (h : x.fld 17 0 2 = 0) : x.fld 17 0 1 = 0 ∧ x.fld 17 1 1 = 0 := by
  have h' : bits x.d 136 2 = 0 := h
  show bits x.d 136 1 = 0 ∧ bits x.d 137 1 = 0
  have h2 : (2 : Nat) ^ 137 = 2 ^ 136 * 2 := rfl
  rw [bits_eq] at h' ⊢
  rw [bits_eq, h2, ← Nat.div_div_eq_div_mul]
  generalize x.d / 2 ^ 136 = m at h' ⊢
  omega

/-! ### How a table command ends -/

/-- The end of a write: index and RELOC, or the failure. -/
def Dev.tabAnswer (d : Dev) (c : CmdRef) (p t : Nat) : Except TabFail (Nat × Dev) → Dev
  | .error f => d.tabFail c p f
  | .ok (i, e) => e.parityAll.ok c i (e.tabReloc t i)

/-- The end of a delete. -/
def Dev.tabDropped (d : Dev) (c : CmdRef) (p : Nat) : Except TabFail (Nat × Dev) → Dev
  | .error f => d.tabFail c p f
  | .ok (_, e) => e.parityAll.ok c

theorem hif_parityAll (d : Dev) : d.parityAll.hif = d.hif :=
  foldl_keeps (fun d => d.hif) (fun d q => by show (d.parityRefresh q).hif = d.hif; simp) _ _
theorem rle_parityAll (d : Dev) : d.parityAll.rle = d.rle :=
  foldl_keeps (fun d => d.rle) (fun d q => by show (d.parityRefresh q).rle = d.rle; simp) _ _
theorem pse_parityAll (d : Dev) : d.parityAll.pse = d.pse :=
  foldl_keeps (fun d => d.pse) (fun d q => by show (d.parityRefresh q).pse = d.pse; simp) _ _
theorem pse_ok (d : Dev) (c : CmdRef) (r0 r1 detail : Nat) : (d.ok c r0 r1 detail).pse = d.pse := by simp

theorem tab_congr {d d' : Dev} (h : d'.rle = d.rle) (t i : Nat) : d'.tab t i = d.tab t i := by unfold Dev.tab; rw [h]

section
variable {d : Dev} {c : CmdRef} {x : Cmd} (h : d.isRunning c x)
include h

theorem tabFail_ended (p : Nat) (f : TabFail) : (d.tabFail c p f).ended c x (failDone f.st f.detail) ∧ (d.tabFail c p f).rle = d.rle := by
  unfold Dev.tabFail
  rw [rle_fail]
  cases f.quota with
  | false => exact ⟨fail_ended h, rfl⟩
  | true => exact ⟨fail_ended (isRunning_congr (by simp) h), by simp⟩

theorem tabAnswer_ended {e : Dev} (p t i : Nat) (hh : e.hif = d.hif) (hr : e.rle.relocs = d.rle.relocs) :
    (d.tabAnswer c p t (.ok (i, e))).ended c x (okDone i (d.tabReloc t i)) ∧ (d.tabAnswer c p t (.ok (i, e))).rle = e.rle ∧
    (d.tabAnswer c p t (.ok (i, e))).pse = e.pse := by
  have he : e.tabReloc t i = d.tabReloc t i := by unfold Dev.tabReloc; rw [hr]
  show (e.parityAll.ok c i (e.tabReloc t i)).ended c x _ ∧ (e.parityAll.ok c i (e.tabReloc t i)).rle = _ ∧
    (e.parityAll.ok c i (e.tabReloc t i)).pse = _
  rw [he, rle_ok, pse_ok, rle_parityAll, pse_parityAll]
  exact ⟨ok_ended (isRunning_congr ((hif_parityAll e).trans hh) h), rfl, rfl⟩

theorem tabDropped_ended {e : Dev} (p i : Nat) (hh : e.hif = d.hif) :
    (d.tabDropped c p (.ok (i, e))).ended c x okDone ∧ (d.tabDropped c p (.ok (i, e))).rle = e.rle := by
  show (e.parityAll.ok c).ended c x _ ∧ (e.parityAll.ok c).rle = _
  rw [rle_ok, rle_parityAll]
  exact ⟨ok_ended (isRunning_congr ((hif_parityAll e).trans hh) h), rfl⟩

/-- A command that goes to the learn ring waits there. -/
theorem lrnStart_waits (kind : LrnKind) (image : BitVec 256) (p : Nat) :
    ((d.lrnStart c kind image p).modCmd c (fun y => { y with scratch := [1] })).cmd? c = some { x with scratch := [1] } ∧
    ∃ v, ((d.lrnStart c kind image p).modCmd c (fun y => { y with scratch := [1] })).lrn.hostOffers = d.lrn.hostOffers ++ [v] ∧
      v.kind = kind ∧ v.polder = p ∧ v.image = image := by
  obtain ⟨hx, -⟩ := h
  constructor
  · rw [cmd?_modCmd _ _ _ (names_keep (f := fun y => { y with scratch := [1] }) (fun _ => rfl) (fun _ => rfl)), show (d.lrnStart c kind image p).cmd? c = d.cmd? c from rfl, hx]
    rfl
  · exact ⟨_, rfl, rfl, rfl, rfl⟩

end

/-! ### OP_TABLE_WRITE -/

section
variable {d : Dev} {c : CmdRef} {io : Io} {x : Cmd} (h : d.isRunning c x) (hop : isOp 0x10 x = true) (hs : x.scratch = [])
include h hop hs

theorem doOpTableWrite_malformed {o : Nat} (hf : tabForm x = some o) : doOpTableWrite c io d = d.badOp c o := by
  unfold doOpTableWrite
  rw [step1_run h (by simp [hop, hs]), hf]

theorem doOpTableWrite_unread (hf : tabForm x = none) (hr : tabRecord x io = none) : doOpTableWrite c io d = d.fail c stTimeout := by
  unfold doOpTableWrite
  rw [step1_run h (by simp [hop, hs]), hf]
  dsimp only
  rw [hr]

variable (hf : tabForm x = none) {r : Nat} (hr : tabRecord x io = some r) (hl : recLen (x.fld 16 0 8) r = x.fld 18 0 16)
include hf hr hl

theorem doOpTableWrite_mac (ht : x.fld 16 0 8 = tMac) (hb : recordBad tMac 0 r = none) :
    doOpTableWrite c io d =
      (d.lrnStart c .hostPlace (BitVec.ofNat 256 r) x.polder).modCmd c (fun y => { y with scratch := [1] }) := by
  unfold doOpTableWrite
  rw [step1_run h (by simp [hop, hs]), hf]
  dsimp only
  rw [hr]
  dsimp only
  rw [if_neg (show ¬ recLen (tabReq c x io).t r ≠ x.fld 18 0 16 from not_not.2 hl), if_pos (show (tabReq c x io).t = tMac from ht), hb]
  rfl

theorem doOpTableWrite_answers (ht : x.fld 16 0 8 ≠ tMac) :
    doOpTableWrite c io d = d.tabAnswer c x.polder (x.fld 16 0 8) (d.tabWrite (tabReq c x io) r) := by
  unfold doOpTableWrite
  rw [step1_run h (by simp [hop, hs]), hf]
  dsimp only
  rw [hr]
  dsimp only
  rw [if_neg (show ¬ recLen (tabReq c x io).t r ≠ x.fld 18 0 16 from not_not.2 hl), if_neg (show ¬ (tabReq c x io).t = tMac from ht)]
  cases d.tabWrite (tabReq c x io) r <;> rfl

end

/-! ### One write -/

/-- A request is of the form that its table takes: by index, or by key. -/
def TabReq.formed (q : TabReq) : Prop := (keyed q.t && decide (q.t ≠ tTcam)) = !q.byIndex ∧ q.mbb = false

theorem tabWrite_barred {d : Dev} {q : TabReq} {r : Nat} {f : TabFail} (hq : q.formed)
    (hf : d.recordBar q r = some f ∨ d.recordBar q r = none ∧ d.stagedBar q = some f) : d.tabWrite q r = .error f := by
  obtain ⟨hk, hm⟩ := hq
  unfold Dev.tabWrite
  dsimp only
  rw [if_neg (by rw [hk, hm]; cases q.byIndex <;> simp)]
  cases hf with
  | inl hf => rw [hf]
  | inr hf => rw [hf.1]; dsimp only; rw [hf.2]

theorem tabWrite_open {d : Dev} {q : TabReq} {r : Nat} (hq : q.formed) (hr : d.recordBar q r = none) (hg : q.gen = false) :
    d.tabWrite q r = if q.t = tDefault then d.writeDefault r else if q.byIndex then d.writeIndexed q r else d.writeKeyed q r := by
  obtain ⟨hk, hm⟩ := hq
  have hst : d.stagedBar q = none := by unfold Dev.stagedBar; rw [hg]; rfl
  unfold Dev.tabWrite
  dsimp only
  rw [if_neg (by rw [hk, hm]; cases q.byIndex <;> simp), hr]
  dsimp only
  rw [hst]
  dsimp only
  rw [hk]
  cases q.byIndex <;> rfl

theorem tab_mem_tabList {d : Dev} {t i : Nat} {e : TabEnt} (hi : i < 2 ^ 32) (h : d.tab t i = some e) : (i, e) ∈ d.tabList t := by
  have hmem : ∀ (l : Tab (Option TabEnt)), tget l none (tabKey t i) = some e → (tabKey t i, some e) ∈ l := by
    intro l
    induction l with
    | nil => exact nofun
    | cons y l ih =>
      intro hl
      simp only [tget] at hl
      split at hl
      next hk => exact List.mem_cons.2 (.inl (by rw [← hk, ← hl]))
      next hk => exact List.mem_cons_of_mem _ (ih hl)
  refine List.mem_filterMap.2 ⟨_, hmem _ h, ?_⟩
  have hdiv : tabKey t i / 2 ^ 32 = t := by unfold tabKey; omega
  have hmod : tabKey t i % 2 ^ 32 = i := by unfold tabKey; omega
  rw [if_pos hdiv, hmod]
  rfl

/-- A write that meets nothing meets no entry at its index. -/
theorem tab_of_hits_nil {d : Dev} {q : TabReq} {r : Nat} (hi : q.index < 2 ^ 32) (hh : d.hits q r q.index = []) :
    d.tab q.t q.index = none := by
  cases he : d.tab q.t q.index with
  | none => rfl
  | some e =>
    have hspan (n : Nat) : 0 < if q.t = tTcam then entUnits q.t n else 1 := by
      split
      · unfold entUnits; split <;> simp
      · exact Nat.one_pos
    have hm : (q.index, e) ∈ d.hits q r q.index :=
      List.mem_filter.2 ⟨tab_mem_tabList hi he, decide_eq_true ⟨Nat.lt_add_of_pos_right (hspan _), Nat.lt_add_of_pos_right (hspan _)⟩⟩
    rw [hh] at hm
    cases hm

theorem writeIndexed_free {d : Dev} {q : TabReq} {r : Nat} (hg : q.gen = false) (hm : q.mbb = false) (hi : q.index < 2 ^ 32)
    (hcap : q.index + (if q.t = tTcam then entUnits q.t r else 1) ≤ capacity q.t)
    (hmod : q.index % (if q.t = tTcam then entUnits q.t r else 1) = 0) (hh : d.hits q r q.index = []) :
    d.writeIndexed q r = if d.quotaShort q.t q.p (entUnits q.t r) 0 then .error { st := stNoRoom, quota := true }
      else .ok (q.index, d.setTab q.t q.index (some { image := keptImage q.t r, polder := q.p, vis := 3 })) := by
  unfold Dev.writeIndexed
  dsimp only
  rw [if_neg (by rw [hh]; simp only [not_or, not_lt, List.any_nil]; exact ⟨hcap, not_not.2 hmod, Bool.noConfusion⟩), hg, hm,
    tab_of_hits_nil hi hh]
  rfl

theorem writeKeyed_new {d : Dev} {q : TabReq} {r j : Nat} (hg : q.gen = false) (hk : d.keyEnts q.t q.p r = [])
    (hq : d.quotaShort q.t q.p (entUnits q.t r) 0 = false) (hp : d.pipeFull q.t r = false) (hj : d.newPlace q r = some j) :
    d.writeKeyed q r = .ok (j, d.putTab q.t j { image := keptImage q.t r, polder := q.p, vis := 3 }) := by
  unfold Dev.writeKeyed
  dsimp only
  rw [hk, hg]
  dsimp only [List.head?_nil]
  rw [hq, hp, hj]
  rfl

theorem writeKeyed_update {d : Dev} {q : TabReq} {r j : Nat} {o : TabEnt} (hg : q.gen = false) (hm : q.mbb = false)
    (hk : d.keyEnts q.t q.p r = [(j, o)]) :
    d.writeKeyed q r = .ok (j, d.setTab q.t j (some { image := keptImage q.t r, polder := q.p, vis := 3, stashed := o.stashed })) := by
  unfold Dev.writeKeyed
  dsimp only
  rw [hk, hg, hm]
  simp [Dev.newVis]

theorem writeDefault_port {d : Dev} {r : Nat} (hp : d.isPort (fld r 0 0 10) = true) (ha : fld r 8 0 3 ≠ 4) :
    ∃ e : Dev, d.writeDefault r = .ok (8 * fld r 0 0 10 + fld r 0 10 3, e) ∧ e.hif = d.hif ∧ e.rle = d.rle ∧
      tget e.pse.entries none (8 * fld r 0 0 10 + fld r 0 10 3) = some (BitVec.ofNat 64 (fld r 8 0 64)) := by
  refine ⟨{ d.wakeFor (fld r 0 0 10) with pse := { d.pse with
    entries := tset d.pse.entries none (8 * fld r 0 0 10 + fld r 0 10 3) (some (BitVec.ofNat 64 (fld r 8 0 64))) } }, ?_, ?_, ?_, ?_⟩
  · unfold Dev.writeDefault
    dsimp only
    rw [if_neg (fun a => ha a.1), if_neg (by rw [hp]; exact Bool.noConfusion)]
  · exact hif_wakeFor ..
  · show (d.wakeFor (fld r 0 0 10)).rle = d.rle
    simp
  · rw [tget_tset, if_pos rfl]

theorem hif_putTab (d : Dev) (t i : Nat) (e : TabEnt) : (d.putTab t i e).hif = d.hif := by unfold Dev.putTab; split <;> rfl

theorem relocs_putTab (d : Dev) (t i : Nat) (e : TabEnt) : (d.putTab t i e).rle.relocs = d.rle.relocs := by
  unfold Dev.putTab; split <;> rfl

theorem tab_putTab (d : Dev) (t i : Nat) (e : TabEnt) :
    (d.putTab t i e).tab t i = some { e with stashed := if capacity t ≤ i then d.rle.stashSeq else 0 } := by
  unfold Dev.putTab
  split
  · next hc => rw [tab_setTab, if_pos rfl]
  · next hc => rw [tab_setTab, if_pos rfl]

/-! ### One delete -/

theorem tabDelete_index {d : Dev} {q : TabReq} (r : Nat) (ht : q.t ≠ tDefault) (hx : q.byIndex = true)
    (hm : d.indexMine (d.mine q) q.t q.index 0 = true) (hl : q.index < lastIndex q.t) (hs : d.stagedBar q = none) :
    d.tabDelete q r = match d.tab q.t q.index with
      | none => .error { st := stNotFound }
      | some e => if !q.gen || e.vis.testBit d.stagedSlot then .ok (q.index, d.dropEnt q q.index e) else .error { st := stNotFound } := by
  unfold Dev.tabDelete
  rw [if_neg ht, hx, hm, if_neg (by simp), if_neg (by simpa using hl), if_neg (by simp), hs]
  dsimp only
  cases d.tab q.t q.index with
  | none => rfl
  | some e =>
    rw [if_pos rfl]
    cases hv : (!q.gen || e.vis.testBit d.stagedSlot) with
    | true => simp [hv]
    | false => simp [hv]

theorem tabDelete_foreign {d : Dev} {q : TabReq} (r : Nat) (ht : q.t ≠ tDefault) (hx : q.byIndex = true)
    (hm : d.indexMine (d.mine q) q.t q.index 0 = false) : d.tabDelete q r = .error { st := stNotOwner } := by
  unfold Dev.tabDelete
  rw [if_neg ht, hx, hm]
  rfl

/-- Deletes of the entries of a list. -/
theorem tab_deleted (t : Nat) : ∀ (l : List (Nat × TabEnt)) (d : Dev) (i : Nat),
    (l.foldl (fun d y => d.setTab t y.1 none) d).tab t i = if i ∈ l.map Prod.fst then none else d.tab t i := by
  intro l
  induction l with
  | nil => exact fun d i => by simp
  | cons y l ih =>
    intro d i
    rw [List.foldl_cons, ih, tab_setTab]
    by_cases hy : y.1 = i
    · simp [hy]
    · have hy' : i ≠ y.1 := Ne.symm hy
      rw [if_neg hy, List.map_cons]
      simp only [List.mem_cons, hy', false_or]

theorem tabDelete_key {d : Dev} {q : TabReq} {r : Nat} (ht : q.t ≠ tDefault) (hk : keyed q.t = true) (hx : q.byIndex = false)
    (hg : q.gen = false) : d.tabDelete q r = match d.keyEnts q.t q.p r with
      | [] => .error { st := stNotFound }
      | y :: l => .ok (y.1, (y :: l).foldl (fun d z => d.setTab q.t z.1 none) d) := by
  have hst : d.stagedBar q = none := by unfold Dev.stagedBar; rw [hg]; rfl
  unfold Dev.tabDelete
  rw [if_neg ht, hx, hk, if_neg (by simp), if_neg (by simp), if_neg (by simp), hst]
  dsimp only
  rw [if_neg Bool.noConfusion, hg, List.filter_eq_self.2 (by simp)]
  unfold Dev.dropEnt
  rw [hg]
  cases d.keyEnts q.t q.p r <;> rfl

/-! ### OP_TABLE_DELETE -/

section
variable {d : Dev} {c : CmdRef} {io : Io} {x : Cmd} (h : d.isRunning c x) (hop : isOp 0x13 x = true) (hs : x.scratch = [])
  (hf : tabForm x = none)
include h hop hs hf

theorem doOpTableDelete_index (hx : x.fld 17 0 1 = 1) (ht : x.fld 16 0 8 ≠ tMac) :
    doOpTableDelete c io d = d.tabDropped c x.polder (d.tabDelete (tabReq c x io) 0) := by
  unfold doOpTableDelete
  rw [step1_run h (by simp [hop, hs]), hf]
  dsimp only
  have hb : (tabReq c x io).byIndex = true := decide_eq_true hx
  rw [hb, if_pos rfl]
  dsimp only
  rw [if_neg (by simp), if_neg (show ¬ (tabReq c x io).t = tMac from ht)]
  cases d.tabDelete (tabReq c x io) 0 <;> rfl

variable {r : Nat} (hx : x.fld 17 0 1 = 0) (hr : tabRecord x io = some r) (hl : recLen (x.fld 16 0 8) r = x.fld 18 0 16)
include hx hr hl

theorem doOpTableDelete_key (ht : x.fld 16 0 8 ≠ tMac) :
    doOpTableDelete c io d = d.tabDropped c x.polder (d.tabDelete (tabReq c x io) r) := by
  unfold doOpTableDelete
  rw [step1_run h (by simp [hop, hs]), hf]
  dsimp only
  have hb : (tabReq c x io).byIndex = false := decide_eq_false (by rw [hx]; decide)
  have hl' : recLen (tabReq c x io).t r = x.fld 18 0 16 := hl
  rw [hb, if_neg Bool.noConfusion, hr]
  dsimp only
  rw [if_neg (by simp [hl']), if_neg (show ¬ (tabReq c x io).t = tMac from ht)]
  cases d.tabDelete (tabReq c x io) r <;> rfl

theorem doOpTableDelete_mac (ht : x.fld 16 0 8 = tMac) :
    doOpTableDelete c io d =
      (d.lrnStart c .hostDelete (BitVec.ofNat 256 r) x.polder).modCmd c (fun y => { y with scratch := [1] }) := by
  unfold doOpTableDelete
  rw [step1_run h (by simp [hop, hs]), hf]
  dsimp only
  have hb : (tabReq c x io).byIndex = false := decide_eq_false (by rw [hx]; decide)
  have hl' : recLen (tabReq c x io).t r = x.fld 18 0 16 := hl
  rw [hb, if_neg Bool.noConfusion, hr]
  dsimp only
  rw [if_neg (by simp [hl']), if_pos (show (tabReq c x io).t = tMac from ht)]
  rfl

end

/-! ### Reads and searches -/

/-- The end of a read or a search. -/
def Dev.tabShown (d : Dev) (c : CmdRef) (x : Cmd) (io : Io) : Except TabFail (Nat × Nat) → Dev
  | .error f => d.fail c f.st f.detail
  | .ok (i, img) =>
    if ioChoice io 0 = 1 then d.fail c stEntryParity i
    else (d.hostOut c.ep (x.fld 32 0 64) (leBytes (x.fld 18 0 16) img) io.wrErr).okBuf c io.wrErr 32 i
      (if x.fld 16 0 8 = tMac then d.macReloc (x.fld 17 4 2) i else d.tabReloc (x.fld 16 0 8) i)

theorem tabReadCmd_shows {d : Dev} {c : CmdRef} {x : Cmd} {io : Io} {r : Nat} (search : Bool) (hf : tabForm x = none)
    (hr : (if x.fld 17 0 1 = 1 then some 0 else ioRecord io (x.fld 18 0 16)) = some r) :
    d.tabReadCmd c x io search = d.tabShown c x io (d.tabLook c x r search) := by
  unfold Dev.tabReadCmd
  rw [hf]
  dsimp only
  rw [hr]
  dsimp only
  cases d.tabLook c x r search <;> rfl

section
variable {d : Dev} {c : CmdRef} {x : Cmd} {io : Io} {i img : Nat} (h : d.isRunning c x)

theorem rle_tabShown (o : Except TabFail (Nat × Nat)) : (d.tabShown c x io o).rle = d.rle := by
  cases o with
  | error f => exact rle_fail ..
  | ok a => unfold Dev.tabShown; dsimp only; split <;> simp

theorem lrn_tabShown (o : Except TabFail (Nat × Nat)) : (d.tabShown c x io o).lrn = d.lrn := by
  cases o with
  | error f => unfold Dev.tabShown; simp
  | ok a => unfold Dev.tabShown; dsimp only; split <;> simp

include h in
theorem tabShown_error (f : TabFail) : (d.tabShown c x io (.error f)).ended c x (failDone f.st f.detail) := fail_ended h

include h in
theorem tabShown_parity (hp : ioChoice io 0 = 1) : (d.tabShown c x io (.ok (i, img))).ended c x (failDone stEntryParity i) := by
  unfold Dev.tabShown
  dsimp only
  rw [if_pos hp]
  exact fail_ended h

include h in
theorem tabShown_ok (hp : ioChoice io 0 ≠ 1) (hw : io.wrErr = false) :
    (d.tabShown c x io (.ok (i, img))).ended c x (okDone i
      (if x.fld 16 0 8 = tMac then d.macReloc (x.fld 17 4 2) i else d.tabReloc (x.fld 16 0 8) i)) ∧
    ((d.ep c.ep).up = true → (d.tabShown c x io (.ok (i, img))).out =
      .hostWrite c.ep (x.fld 32 0 64) (leBytes (x.fld 18 0 16) img) :: d.out) := by
  unfold Dev.tabShown
  dsimp only
  rw [if_neg hp, hw, out_okBuf']
  exact ⟨okBuf_ended (isRunning_hostOut h ..), fun hup => by simp [Dev.hostOut, Dev.emit, hup]⟩

end

theorem tabLook_index {d : Dev} {c : CmdRef} {x : Cmd} {e : TabEnt} (r : Nat) (hx : x.fld 17 0 1 = 1) (ht : x.fld 16 0 8 ≠ tMac)
    (ht' : x.fld 16 0 8 ≠ tDefault) (hm : d.indexMine (d.mayAs c) (x.fld 16 0 8) (x.fld 20 0 32) (x.fld 17 4 2) = true)
    (he : d.tab (x.fld 16 0 8) (x.fld 20 0 32) = some e) : d.tabLook c x r false =
      if e.bad.testBit (x.fld 17 4 2) || !e.vis.testBit (if x.fld 17 1 1 = 1 then d.stagedSlot else d.curSlot) then .error { st := stNotFound }
      else if recLen (x.fld 16 0 8) e.image.toNat ≠ x.fld 18 0 16 then .error { st := stBadOperand, detail := 18 }
      else .ok (x.fld 20 0 32, d.readImage (x.fld 16 0 8) (x.fld 20 0 32) e) := by
  unfold Dev.tabLook
  dsimp only
  rw [if_neg (by simp [hx, ht']), if_neg (by simp [hm]), if_neg ht', if_neg (by simp [ht]), if_pos hx, he]

theorem tabLook_mac {d : Dev} {c : CmdRef} {x : Cmd} {r : Nat} (hx : x.fld 17 0 1 = 0) (ht : x.fld 16 0 8 = tMac)
    (hl : recLen (x.fld 16 0 8) r = x.fld 18 0 16) : d.tabLook c x r true =
      match (d.macFind (x.fld 17 4 2) x.polder (fld r 22 0 14) (fld r 16 0 48)).filter (fun y => y.2.valid) with
      | some (j, e) => .ok (j, d.macImage (x.fld 17 4 2) j e)
      | none => .error { st := stNotFound } := by
  have hk : keyed tMac = true := by decide
  unfold Dev.tabLook
  dsimp only
  rw [if_neg (by simp [hx, ht, hk]), if_neg (by simp [hx]), if_neg (by rw [ht]; decide), if_neg (by simp [hx]),
    if_neg (by simp [hx]), if_neg (not_not.2 hl), if_pos ht]
  unfold Dev.macLook
  dsimp only
  cases d.macFind (x.fld 17 4 2) x.polder (fld r 22 0 14) (fld r 16 0 48) with
  | none => rfl
  | some y => cases hv : y.2.valid <;> simp [hv, Option.filter]

/-! ### Walks -/

/-- A scan or an audit that covers its range in one step. -/
theorem walkStep_whole {d : Dev} {c : CmdRef} {x : Cmd} {io : Io} (audit : Bool) (hs : x.scratch = []) (ht : isTable (x.fld 16 0 8) = true)
    (hch : ioChoice io 0 = 0) (hw : io.wrErr = false) {o : List Byte × Nat × Option Nat}
    (ho : o = walkOut (x.fld 16 0 8) (d.auditMasks (x.fld 16 0 8) (x.fld 17 4 2)) audit
      (d.walk (fun p => d.mayAs c (some p)) (x.fld 16 0 8) (x.fld 17 4 2) (x.fld 20 0 32) (x.fld 20 0 32 + x.fld 24 0 32)) (x.fld 40 0 32)) :
    d.walkStep c x io audit = d.answered c (x.fld 32 0 64) o.1 false 32 o.2.1
      (match o.2.2 with
        | some k => k + 2 ^ 32
        | none => (x.fld 20 0 32 + x.fld 24 0 32) % 2 ^ 32) 0 := by
  unfold Dev.walkStep
  extract_lets t quad start stop pos wrote used err upTo w e
  have hpos : pos = start := by simp only [pos, hs]; rfl
  have hwrote : wrote = 0 := by simp only [wrote, hs]; rfl
  have hused : used = 0 := by simp only [used, hs]; rfl
  have herr : err = false := by simp only [err, hs, hw]; rfl
  have hup : upTo = stop := if_pos hch
  have hwo : w = o := by simp only [w, hpos, hused, hup]; exact ho.symm
  have he : e = if o.1.isEmpty then d else d.hostOut c.ep (x.fld 32 0 64) o.1 false := by
    simp only [e, hwo, hused, hw]; rfl
  clear_value pos wrote used err upTo w e
  subst hpos hwrote hused herr hup hwo he
  rw [if_neg (show ¬ (!isTable t) = true by rw [show isTable t = true from ht]; exact Bool.noConfusion), if_pos (Nat.le_refl _), Nat.zero_add]
  cases w.2.2 <;> rfl

theorem answered_walked {d : Dev} {c : CmdRef} {x : Cmd} (h : d.isRunning c x) (o : List Byte × Nat × Option Nat) (stop : Nat) :
    (o.2.2 = none → (d.answered c (x.fld 32 0 64) o.1 false 32 o.2.1 (match o.2.2 with
      | some k => k + 2 ^ 32
      | none => stop) 0).ended c x (okDone o.2.1 stop)) ∧
    (∀ k, o.2.2 = some k → (d.answered c (x.fld 32 0 64) o.1 false 32 o.2.1 (match o.2.2 with
      | some k => k + 2 ^ 32
      | none => stop) 0).ended c x (okDone o.2.1 (k + 2 ^ 32))) ∧
    (o.1 ≠ [] → (d.ep c.ep).up = true → (d.answered c (x.fld 32 0 64) o.1 false 32 o.2.1 (match o.2.2 with
      | some k => k + 2 ^ 32
      | none => stop) 0).out = .hostWrite c.ep (x.fld 32 0 64) o.1 :: d.out) := by
  refine ⟨fun hn => ?_, fun k hk => ?_, fun hne hup => out_answered _ _ _ _ _ rfl hne hup⟩
  · rw [hn]
    exact answered_ended h _ _ _ _ _ (.inl rfl)
  · rw [hk]
    exact answered_ended h _ _ _ _ _ (.inl rfl)

/-! ### Lists -/

section
variable {d : Dev} {c : CmdRef} {io : Io} {x : Cmd} (h : d.isRunning c x) (hop : isOp 0x14 x = true) (hs : x.scratch = [])
  (ht : isTable (x.fld 16 0 8) = true) (hm : x.fld 18 0 16 % 8 = 0) (hl : 8 + recLen (x.fld 16 0 8) 0 ≤ x.fld 18 0 16)
  (h1 : 1 ≤ x.fld 20 0 32) (hn : x.fld 20 0 32 ≤ 1048576)
include h hop hs ht hm hl h1 hn

theorem doOpTableBulk_unread (hr : io.rd = none) : doOpTableBulk c io d = d.fail c stTimeout := by
  unfold doOpTableBulk
  rw [step1_run h (by simp [hop, hs])]
  dsimp only
  rw [if_neg (by simp [ht]), if_neg (by omega), if_neg (by omega), hr, hs]
  rfl

theorem doOpTableBulk_runs {bs : List Byte} (hr : io.rd = some bs) : doOpTableBulk c io d =
    match d.bulkRun c x (x.fld 18 0 16) (min (x.fld 20 0 32 - 0) (max 1 (bs.length / x.fld 18 0 16))) bs {} with
    | (true, b, d) => d.modCmd c (fun y => { y with scratch := b.toList ++ [1] })
    | (false, b, d) => d.parityAll.bulkNext c x b := by
  unfold doOpTableBulk
  rw [step1_run h (by simp [hop, hs])]
  dsimp only
  rw [if_neg (by simp [ht]), if_neg (by omega), if_neg (by omega), hr, hs]
  rfl

end

/-- The header of an element that deletes by index. -/
theorem bulkHeader_delete {h j : Nat} (hh : h = 5 + j * 2 ^ 32) (hj : h < 2 ^ 64) :
    bits h 0 2 = 1 ∧ bits h 2 1 = 1 ∧ bits h 3 29 = 0 ∧ bits h 32 32 = j := by
  subst hh
  simp only [bits_eq]
  omega

theorem leNat_lt (l : List Byte) : leNat l < 2 ^ (8 * l.length) := by
  induction l with
  | nil => exact Nat.one_pos
  | cons b l ih =>
    have hb : b.toNat < 2 ^ 8 := b.isLt
    have hp : 2 ^ (8 * (b :: l).length) = 2 ^ 8 * 2 ^ (8 * l.length) := by rw [← Nat.pow_add, List.length_cons]; congr 1; omega
    simp only [leNat]
    omega

/-- The request of an element that deletes by index, without GEN. -/
def bulkDeletes (c : CmdRef) (x : Cmd) (j : Nat) : TabReq :=
  { c := c, p := x.polder, t := x.fld 16 0 8, byIndex := true, index := j }

theorem bulkElem_delete {d : Dev} {c : CmdRef} {x : Cmd} {el : List Byte} {j : Nat} {e : TabEnt} (hh : leNat (el.take 8) = 5 + j * 2 ^ 32)
    (hg : x.fld 17 1 1 = 0) (ht : x.fld 16 0 8 ≠ tMac) (ht' : x.fld 16 0 8 ≠ tDefault) (hj : j < lastIndex (x.fld 16 0 8))
    (he : d.tab (x.fld 16 0 8) j = some e) (hm : d.indexMine (d.mayAs c) (x.fld 16 0 8) j 0 = true) :
    d.bulkElem c x el none = (some stOk, d.setTab (x.fld 16 0 8) j none) := by
  have hlt : leNat (el.take 8) < 2 ^ 64 :=
    Nat.lt_of_lt_of_le (leNat_lt _) (Nat.pow_le_pow_right (by decide) (by rw [List.length_take]; omega))
  obtain ⟨hop, hidx, hres, hj'⟩ := bulkHeader_delete hh hlt
  unfold Dev.bulkElem
  extract_lets h op byIndex q r0 r
  have hop' : op = 1 := hop
  have hby : byIndex := hidx
  have hq : q = bulkDeletes c x j := by
    simp only [q, bulkDeletes, op, hop, hg, hj', h]
    simp [hby]
  clear_value q op
  subst hq hop'
  rw [if_neg (by simp [hby, h, hres, bulkDeletes]), if_neg (show ¬ (bulkDeletes c x j).t = tMac from ht), if_neg (by decide),
    tabDelete_index (q := bulkDeletes c x j) r ht' rfl hm hj rfl]
  show (match (match d.tab (x.fld 16 0 8) j with
      | none => Except.error { st := stNotFound }
      | some e => if !(bulkDeletes c x j).gen || e.vis.testBit d.stagedSlot then Except.ok (j, d.dropEnt (bulkDeletes c x j) j e)
        else .error { st := stNotFound } : Except TabFail (Nat × Dev)) with
    | .error f => (some f.st, if f.quota then d.liveMs (0x80 + 8 * (bulkDeletes c x j).p) else d)
    | .ok (_, d) => (some stOk, d)) = _
  rw [he]
  rfl

/-- A list of one element that is applied. -/
theorem bulkRun_one {d e : Dev} {c : CmdRef} {x : Cmd} {stride : Nat} {bs : List Byte} (h1 : x.fld 20 0 32 = 1)
    (he : d.bulkElem c x (bs.take stride) none = (some stOk, e)) :
    d.bulkRun c x stride 1 bs {} = (false, { pos := 1, applied := 1 }, e) := by
  unfold Dev.bulkRun
  rw [if_neg (by simp [Bulk.past, h1]), he]
  rfl

theorem bulkNext_one {d : Dev} {c : CmdRef} {x : Cmd} (h : d.isRunning c x) (h1 : x.fld 20 0 32 = 1) :
    (d.bulkNext c x { pos := 1, applied := 1 }).ended c x (okDone 1) ∧ (d.bulkNext c x { pos := 1, applied := 1 }).rle = d.rle := by
  have he : d.bulkNext c x { pos := 1, applied := 1 } = d.fail c stOk 0 1 0 := by
    unfold Dev.bulkNext
    rw [if_pos (by simp [Bulk.past, h1])]
    rfl
  rw [he]
  exact ⟨finish_ended h, by simp⟩

section
variable {d : Dev} {c : CmdRef} {io : Io} {x : Cmd} (h : d.isRunning c x)
include h

/-- The answer of an access that fails. -/
theorem tabAnswer_error (p t : Nat) (f : TabFail) : (d.tabAnswer c p t (.error f)).ended c x (failDone f.st f.detail) ∧
    (d.tabAnswer c p t (.error f)).rle = d.rle := tabFail_ended h p f

theorem tabAnswer_set (p t i : Nat) (v : Option TabEnt) :
    (d.tabAnswer c p t (.ok (i, d.setTab t i v))).ended c x (okDone i (d.tabReloc t i)) ∧
    (d.tabAnswer c p t (.ok (i, d.setTab t i v))).tab t i = v := by
  obtain ⟨hend, hrle, -⟩ := tabAnswer_ended (e := d.setTab t i v) h p t i rfl rfl
  exact ⟨hend, (tab_congr hrle _ _).trans (by rw [tab_setTab, if_pos rfl])⟩

theorem tabDropped_set (p t i : Nat) (v : Option TabEnt) : (d.tabDropped c p (.ok (i, d.setTab t i v))).ended c x okDone ∧
    (d.tabDropped c p (.ok (i, d.setTab t i v))).tab t i = v := by
  obtain ⟨hend, hrle⟩ := tabDropped_ended (e := d.setTab t i v) h p i rfl
  exact ⟨hend, (tab_congr hrle _ _).trans (by rw [tab_setTab, if_pos rfl])⟩

theorem tabDropped_error (p : Nat) (f : TabFail) : (d.tabDropped c p (.error f)).ended c x (failDone f.st f.detail) ∧
    (d.tabDropped c p (.error f)).rle = d.rle := tabFail_ended h p f

end

/-- Settles O28: each command's answer follows from what its access of the tables gives. -/
theorem tableCommandsComplete : Obligations.TableCommandsComplete := by
  unfold Obligations.TableCommandsComplete
  rintro s c io x tb i h rfl rfl
  refine ⟨fun hop hs => ?_, fun hop hs hf => ?_, ?_, ?_, ?_, ?_, ?_, ?_⟩
  · refine ⟨{ s with dev := doOpTableWrite c io s.dev }, rfl, fun o hf => ?_, fun hf hr => ?_, fun r q hf hr hl hq => ?_⟩
    · dsimp only
      rw [doOpTableWrite_malformed h hop hs hf]
      exact ⟨badOp_ended h, rle_fail ..⟩
    · dsimp only
      rw [doOpTableWrite_unread h hop hs hf hr, rle_fail]
      exact ⟨fail_ended h, rfl⟩
    subst hq
    refine ⟨fun ht hb => ?_, fun ht ht' => ⟨fun hk hfl hb hcap hmod hh => ?_, fun hk hk' hfl hb => ?_, fun f hk hm hb => ?_⟩,
      fun ht hfl hb hp ha => ?_⟩
    · dsimp only
      rw [doOpTableWrite_mac h hop hs hf hr hl ht hb]
      exact lrnStart_waits h _ _ _
    · obtain ⟨h0, h1, h2⟩ := flags_index hfl
      have hg : (tabReq c x io).gen = false := by simp [tabReq, h1]
      have hm : (tabReq c x io).mbb = false := by simp [tabReq, h2]
      have hx : (tabReq c x io).byIndex = true := by simp [tabReq, h0]
      have hform : (tabReq c x io).formed := by
        refine ⟨?_, hm⟩
        rw [hx]
        cases hk with
        | inl hk => simp [tabReq, hk]
        | inr hk => simp [tabReq, hk]
      dsimp only
      rw [doOpTableWrite_answers h hop hs hf hr hl ht, tabWrite_open hform hb hg, if_neg (show ¬ (tabReq c x io).t = tDefault from ht'), hx,
        if_pos rfl, writeIndexed_free hg hm (fld_lt ..) hcap hmod hh]
      refine ⟨fun hq => ?_, fun hq => ?_⟩
      · rw [show s.dev.quotaShort (tabReq c x io).t (tabReq c x io).p (entUnits (tabReq c x io).t r) 0 = false from hq]
        exact tabAnswer_set h ..
      · rw [show s.dev.quotaShort (tabReq c x io).t (tabReq c x io).p (entUnits (tabReq c x io).t r) 0 = true from hq]
        exact tabAnswer_error h ..
    · obtain ⟨h0, h1, h2⟩ := flags_none hfl
      have hg : (tabReq c x io).gen = false := by simp [tabReq, h1]
      have hm : (tabReq c x io).mbb = false := by simp [tabReq, h2]
      have hx : (tabReq c x io).byIndex = false := by simp [tabReq, h0]
      have hform : (tabReq c x io).formed := ⟨by rw [hx]; simp [tabReq, hk, hk'], hm⟩
      dsimp only
      rw [doOpTableWrite_answers h hop hs hf hr hl ht, tabWrite_open hform hb hg, if_neg (show ¬ (tabReq c x io).t = tDefault from ht'), hx,
        if_neg Bool.noConfusion]
      refine ⟨fun j hnew hq hpf hj => ?_, fun j o hold => ?_⟩
      · rw [writeKeyed_new hg hnew hq hpf hj]
        obtain ⟨hend, hrle, -⟩ := tabAnswer_ended (e := s.dev.putTab (x.fld 16 0 8) j
          { image := keptImage (x.fld 16 0 8) r, polder := x.polder, vis := 3 }) h x.polder (x.fld 16 0 8) j (hif_putTab ..) (relocs_putTab ..)
        exact ⟨hend, (tab_congr hrle _ _).trans (tab_putTab ..)⟩
      · rw [writeKeyed_update hg hm hold]
        exact tabAnswer_set h ..
    · have hform : (tabReq c x io).formed := by
        refine ⟨?_, by simp [tabReq, hm]⟩
        obtain ⟨hk | hk, h0⟩ | ⟨hk, hk', h0⟩ := hk
        · simp [tabReq, hk, h0]
        · simp [tabReq, hk, h0]
        · simp [tabReq, hk, hk', h0]
      dsimp only
      rw [doOpTableWrite_answers h hop hs hf hr hl ht, tabWrite_barred hform hb]
      exact tabAnswer_error h ..
    · obtain ⟨h0, h1, h2⟩ := flags_none hfl
      have hg : (tabReq c x io).gen = false := by simp [tabReq, h1]
      have hx : (tabReq c x io).byIndex = false := by simp [tabReq, h0]
      have hform : (tabReq c x io).formed := ⟨by rw [hx]; simp only [tabReq, ht]; decide, by simp [tabReq, h2]⟩
      obtain ⟨e, he, hhif, hrle, hpse⟩ := writeDefault_port hp ha
      dsimp only
      rw [doOpTableWrite_answers h hop hs hf hr hl (by rw [ht]; decide), tabWrite_open hform hb hg,
        if_pos (show (tabReq c x io).t = tDefault from ht), he]
      obtain ⟨hend, -, hp⟩ := tabAnswer_ended h x.polder (x.fld 16 0 8) (8 * fld r 0 0 10 + fld r 0 10 3) hhif (by rw [hrle])
      exact ⟨hend, by rw [hp, hpse]⟩
  · refine ⟨{ s with dev := doOpTableDelete c io s.dev }, rfl, fun ht ht' hx hi hm => ?_, fun ht ht' hx hm => ?_,
      fun r hk ht ht' hfl hr hl => ?_, fun r ht hx hr hl => ?_⟩
    · have hrow := doOpTableDelete_index h hop hs hf hx ht (io := io)
      have hdel (hst : s.dev.stagedBar (tabReq c x io) = none) := tabDelete_index 0 (q := tabReq c x io) ht' (decide_eq_true hx) hm hi hst
      refine ⟨fun hg e he => ?_, fun hg hst e he hv => ?_, fun hg he => ?_⟩
      · have hg' : (tabReq c x io).gen = false := by simp [tabReq, hg]
        have hst : s.dev.stagedBar (tabReq c x io) = none := by unfold Dev.stagedBar; rw [hg']; rfl
        dsimp only
        rw [hrow, hdel hst, show s.dev.tab (tabReq c x io).t (tabReq c x io).index = some e from he]
        dsimp only
        rw [if_pos (by rw [hg']; rfl), Dev.dropEnt, hg']
        exact tabDropped_set h ..
      · have hg' : (tabReq c x io).gen = true := by simp [tabReq, hg]
        dsimp only
        rw [hrow, hdel hst, show s.dev.tab (tabReq c x io).t (tabReq c x io).index = some e from he]
        dsimp only
        rw [if_pos (by rw [hv, Bool.or_true]), Dev.dropEnt, hg']
        exact tabDropped_set h ..
      · have hg' : (tabReq c x io).gen = false := by simp [tabReq, hg]
        have hst : s.dev.stagedBar (tabReq c x io) = none := by unfold Dev.stagedBar; rw [hg']; rfl
        dsimp only
        rw [hrow, hdel hst, show s.dev.tab (tabReq c x io).t (tabReq c x io).index = none from he]
        exact tabDropped_error h ..
    · dsimp only
      rw [doOpTableDelete_index h hop hs hf hx ht, tabDelete_foreign 0 (q := tabReq c x io) ht' (decide_eq_true hx) hm]
      exact tabDropped_error h ..
    · obtain ⟨h0, h1⟩ := flags_low hfl
      have hg : (tabReq c x io).gen = false := by simp [tabReq, h1]
      have hx : (tabReq c x io).byIndex = false := by simp [tabReq, h0]
      dsimp only
      rw [doOpTableDelete_key h hop hs hf h0 hr hl ht, tabDelete_key (q := tabReq c x io) ht' hk hx hg]
      refine ⟨fun hne => ?_, fun he => ?_⟩
      · cases hl : s.dev.keyEnts (x.fld 16 0 8) x.polder r with
        | nil => exact absurd hl hne
        | cons y l =>
          rw [show s.dev.keyEnts (tabReq c x io).t (tabReq c x io).p r = y :: l from hl]
          obtain ⟨hend, hrle⟩ := tabDropped_ended (e := (y :: l).foldl (fun d z => d.setTab (x.fld 16 0 8) z.1 none) s.dev) h x.polder y.1
            (foldl_keeps (fun d => d.hif) (fun d (z : Nat × TabEnt) => (rfl : (d.setTab (x.fld 16 0 8) z.1 none).hif = d.hif)) _ _)
          refine ⟨hend, fun z hz => (tab_congr hrle _ _).trans ?_⟩
          rw [tab_deleted, if_pos (List.mem_map_of_mem hz)]
      · rw [show s.dev.keyEnts (tabReq c x io).t (tabReq c x io).p r = [] from he]
        exact tabDropped_error h ..
    · dsimp only
      rw [doOpTableDelete_mac h hop hs hf hx hr hl ht]
      obtain ⟨hw, v, hv, hk, hp, -⟩ := lrnStart_waits h .hostDelete (BitVec.ofNat 256 r) x.polder
      exact ⟨hw, v, hv, hk, hp⟩
  · intro slot e hop hf hx ht ht' hslot hm he
    subst hslot
    refine ⟨{ s with dev := doOpTableRead c io s.dev }, rfl, ?_⟩
    dsimp only
    rw [show doOpTableRead c io s.dev = _ from step1_run h hop, tabReadCmd_shows false hf (if_pos hx), rle_tabShown,
      tabLook_index 0 hx ht ht' hm he]
    refine ⟨rfl, fun hb => ?_, fun hb hv hl => ?_⟩
    · rw [if_pos (by simpa using hb)]
      exact tabShown_error h _
    · rw [if_neg (by simp [hb, hv]), if_neg (not_not.2 hl)]
      refine ⟨fun hp => tabShown_parity h hp, fun hp hw => ?_⟩
      have hok := tabShown_ok (i := x.fld 20 0 32) (img := s.dev.readImage (x.fld 16 0 8) (x.fld 20 0 32) e) h hp hw
      rw [if_neg ht] at hok
      exact hok
  · intro r hop hf hfl ht hr hl
    obtain ⟨h0, -⟩ := flags_low hfl
    refine ⟨{ s with dev := doOpTableSearch c io s.dev }, rfl, ?_⟩
    dsimp only
    rw [show doOpTableSearch c io s.dev = _ from step1_run h hop,
      tabReadCmd_shows true hf (r := r) (by rw [if_neg (by rw [h0]; decide), hr]), lrn_tabShown, tabLook_mac h0 ht hl]
    refine ⟨rfl, fun hn => ?_, fun j e he hv => ?_⟩
    · rw [hn]
      exact tabShown_error h _
    · rw [he, Option.filter_some, if_pos hv]
      refine ⟨fun hp => tabShown_parity h hp, fun hp hw => ?_⟩
      have hok := tabShown_ok (i := j) (img := s.dev.macImage (x.fld 17 4 2) j e) h hp hw
      rw [if_pos ht] at hok
      exact hok
  · intro bs j e hop hs ht hm hd hg hlen hl h1 hbs hbl hh hj he hmine
    have h8 : ((bs.take (x.fld 18 0 16)).take 8) = bs.take 8 := by rw [List.take_take]; congr 1; omega
    have hcount : min (x.fld 20 0 32 - 0) (max 1 (bs.length / x.fld 18 0 16)) = 1 := by
      rw [h1]; exact Nat.min_eq_left (Nat.le_max_left _ _)
    refine ⟨{ s with dev := doOpTableBulk c io s.dev }, rfl, ?_⟩
    dsimp only
    rw [doOpTableBulk_runs h hop hs ht hlen hl (by omega) (by omega) hbs, hcount,
      bulkRun_one h1 (bulkElem_delete (by rw [h8]; exact hh) hg hm hd hj he hmine)]
    dsimp only
    obtain ⟨hend, hrle⟩ := bulkNext_one (d := (s.dev.setTab (x.fld 16 0 8) j none).parityAll)
      (isRunning_congr (hif_parityAll _) (isRunning_congr (d := s.dev) rfl h)) h1
    refine ⟨hend, ?_⟩
    rw [tab_congr hrle, tab_congr (rle_parityAll _), tab_setTab, if_pos rfl]
  · intro hop hs ht hm hl h1 hn hr
    refine ⟨{ s with dev := doOpTableBulk c io s.dev }, rfl, ?_⟩
    dsimp only
    rw [doOpTableBulk_unread h hop hs ht hm hl h1 hn hr, rle_fail]
    exact ⟨fail_ended h, rfl⟩
  · intro o hop hs ht hch hw ho
    refine ⟨{ s with dev := doOpTableAudit c io s.dev }, rfl, ?_⟩
    dsimp only
    rw [show doOpTableAudit c io s.dev = _ from step1_run h hop, walkStep_whole true hs ht hch hw ho]
    exact answered_walked h o _
  · intro o hop hs ht hch hw ho
    refine ⟨{ s with dev := doOpTableScan c io s.dev }, rfl, ?_⟩
    dsimp only
    rw [show doOpTableScan c io s.dev = _ from step1_run h hop, walkStep_whole false hs ht hch hw ho]
    exact answered_walked h o _

end Sys2Proof.Machine
end

section
/-! PROOFS. The Spillway's rows (11 R335, R338, R340, R342, R345, R347-R352). -/
namespace Sys2Proof.Machine

/-! ### What the Spillway's operations leave of its own state -/

/-- The occupancy of the tiers leaves everything of the Spillway but the mark of a full basin. -/
theorem spw_refreshFull (d : Dev) : ∃ f, d.refreshFull.spw = { d.spw with full := f } := by
  unfold Dev.refreshFull
  dsimp only
  split
  · exact ⟨d.spw.full, rfl⟩
  · refine ⟨!(List.range 5).any d.tierFree, ?_⟩
    split <;> simp

theorem src_refreshFull {k : Nat} (hk : 0xC20 ≠ k) (d : Dev) : d.refreshFull.src k = d.src k := by
  unfold Dev.refreshFull
  dsimp only
  split
  · rfl
  · split
    · exact (src_fcr (d := ({ d with spw := { d.spw with full := !(List.range 5).any d.tierFree } } : Dev).live 0xC20
        (!(List.range 5).any d.tierFree)) (by simp) k).trans (src_live_ne hk _ _ _)
    · exact src_live_ne hk _ _ _

/-- What a freed segment leaves, and where it goes if it is condemned. -/
theorem spw_freeSeg (d : Dev) (s : Nat) : (d.freeSeg s).spw.detached = d.spw.detached ∧ (d.freeSeg s).spw.stray = d.spw.stray ∧
    (s ∈ d.spw.condemned → s ∈ (d.freeSeg s).spw.retired) := by
  unfold Dev.freeSeg
  dsimp only
  obtain ⟨f, hf⟩ := spw_refreshFull (if d.spw.condemned.contains s then
      (({ d with spw := { d.spw with
        links := tset d.spw.links none s none, condemned := d.spw.condemned.erase s, retired := d.spw.retired ++ [s] } }).setLive 0xC21).record
        Ev.segmentRetired .shared (some 0xC21) (dat [(0, 3, s)])
    else ({ d with spw := { d.spw with links := tset d.spw.links none s none } } : Dev))
  rw [hf]
  cases hc : d.spw.condemned.contains s with
  | true => simp
  | false =>
    refine ⟨rfl, rfl, fun h => ?_⟩
    rw [List.contains_iff_mem.2 h] at hc
    cases hc

theorem dp_freeSeg (d : Dev) (s : Nat) : (d.freeSeg s).dp = d.dp := by simp
theorem dp_refreshFull (d : Dev) : d.refreshFull.dp = d.dp := by simp
theorem spw_copyDrop (d : Dev) (party : Nat) (e : Ent) (t : Dest) (c : Ctr) (i : Nat) : (d.copyDrop party e t c i).spw = d.spw := by simp

theorem queue_freeSegs (l : List Nat) (d : Dev) (k : Nat) : (l.foldl Dev.freeSeg d).queue k = d.queue k :=
  queue_dp (foldl_keeps (fun d => d.dp) dp_freeSeg l d) k

/-! ### Cells are written behind a chain (11 R335, R336, R338) -/

/-- Two devices that hold the same chains and segments. -/
structure SameSegs (d e : Dev) : Prop where
  queues : e.dp.queues = d.dp.queues
  plc : e.plc = d.plc
  map : e.spw.map = d.spw.map
  cxl : e.spw.cxl = d.spw.cxl
  caps : e.spw.caps = d.spw.caps
  detached : e.spw.detached = d.spw.detached
  retired : e.spw.retired = d.spw.retired
  stray : e.spw.stray = d.spw.stray

theorem SameSegs.refl (d : Dev) : SameSegs d d := ⟨rfl, rfl, rfl, rfl, rfl, rfl, rfl, rfl⟩

theorem SameSegs.trans {a b c : Dev} (h : SameSegs a b) (h' : SameSegs b c) : SameSegs a c :=
  ⟨h'.queues.trans h.queues, h'.plc.trans h.plc, h'.map.trans h.map, h'.cxl.trans h.cxl, h'.caps.trans h.caps,
    h'.detached.trans h.detached, h'.retired.trans h.retired, h'.stray.trans h.stray⟩

theorem SameSegs.symm {a b : Dev} (h : SameSegs a b) : SameSegs b a :=
  ⟨h.queues.symm, h.plc.symm, h.map.symm, h.cxl.symm, h.caps.symm, h.detached.symm, h.retired.symm, h.stray.symm⟩

theorem sameSegs_refreshFull (d : Dev) : SameSegs d d.refreshFull := by
  obtain ⟨f, hf⟩ := spw_refreshFull d
  refine ⟨by rw [dp_refreshFull], by simp, ?_, ?_, ?_, ?_, ?_, ?_⟩ <;> rw [hf]

theorem sameSegs_bump (d : Dev) (c : Ctr) (i n : Nat) : SameSegs d (d.bump c i n) := ⟨rfl, rfl, rfl, rfl, rfl, rfl, rfl, rfl⟩

theorem SameSegs.modQueue {d e : Dev} (h : SameSegs d e) (k : Nat) (f : Queue → Queue) : SameSegs (d.modQueue k f) (e.modQueue k f) :=
  ⟨congrArg (fun t : Tab Queue => tmod t {} k f) h.queues, h.plc, h.map, h.cxl, h.caps, h.detached, h.retired, h.stray⟩

section
variable {d e : Dev} (h : SameSegs d e)
include h

theorem SameSegs.tierFree (t : Nat) : e.tierFree t = d.tierFree t := by
  unfold Dev.tierFree Dev.tierUsed Dev.tierSize Dev.cxl
  rw [h.queues, h.map, h.cxl, h.detached, h.retired, h.stray]

theorem SameSegs.segObtainable (k : Nat) : e.segObtainable k = d.segObtainable k := by
  have hf : e.tierFree = d.tierFree := funext h.tierFree
  have hk : keyPolder e = keyPolder d := by
    funext j
    unfold keyPolder Dev.lanePolder Dev.polder
    rw [h.plc]
  have hp : e.polderSegs = d.polderSegs := by
    funext p
    unfold Dev.polderSegs
    rw [hk, h.queues]
  unfold Dev.segObtainable Dev.polderCap
  rw [hf, hk, hp, h.caps, queue_queues h.queues]

theorem SameSegs.pickTier (b : List Nat) : e.pickTier b = d.pickTier b := by
  have hf : e.tierFree = d.tierFree := funext h.tierFree
  unfold Dev.pickTier
  rw [hf]

theorem SameSegs.newSeg (t : Nat) : e.newSeg t = d.newSeg t := by
  have hb : e.segBusy = d.segBusy := by
    funext s
    unfold Dev.segBusy
    rw [h.queues, h.detached, h.retired, h.stray]
  unfold Dev.newSeg Dev.tierUsed
  rw [hb, h.queues, h.detached, h.retired, h.stray]

/-- A cell that is written goes to the same segment on both. -/
theorem SameSegs.writeCell {k s : Nat} {b : List Nat} {d' : Dev} (hw : d.writeCell k b = some (s, d')) :
    ∃ e', e.writeCell k b = some (s, e') ∧ SameSegs d' e' := by
  have hn : e.newSeg = d.newSeg := funext h.newSeg
  unfold Dev.writeCell at hw ⊢
  dsimp only at hw ⊢
  rw [queue_queues h.queues, h.segObtainable, h.pickTier, hn]
  split at hw
  next hwant =>
    rw [if_pos hwant]
    split at hw
    · cases hw
    next hob =>
      rw [if_neg hob]
      split at hw
      · cases hw
      next s' hs =>
        cases hw
        exact ⟨_, rfl, (sameSegs_refreshFull _).symm.trans ((h.modQueue ..).trans (sameSegs_refreshFull _))⟩
  next hwant =>
    cases hw
    rw [if_neg hwant]
    exact ⟨_, rfl, h.modQueue ..⟩

omit h in
theorem SameSegs.writeCells {k : Nat} {b : List Nat} : ∀ {n : Nat} {segs r : List Nat} {d e d' : Dev}, SameSegs d e →
    d.writeCells b k n segs = some (r, d') → ∃ e', e.writeCells b k n segs = some (r, e') ∧ SameSegs d' e'
  | 0, segs, r, d, e, d', h, hw => by
    cases hw
    exact ⟨e, rfl, h⟩
  | n + 1, segs, r, d, e, d', h, hw => by
    unfold Dev.writeCells at hw ⊢
    cases hc : d.writeCell k b with
    | none => rw [hc] at hw; cases hw
    | some y =>
      obtain ⟨s, d1⟩ := y
      obtain ⟨e1, he1, h1⟩ := h.writeCell hc
      rw [hc] at hw
      rw [he1]
      exact SameSegs.writeCells ((sameSegs_bump d1 ..).symm.trans (h1.trans (sameSegs_bump e1 ..))) hw

end

/-- What the cells that are written leave of the queue's packets and of the turns. -/
theorem writeCells_keeps {k : Nat} {b : List Nat} : ∀ {n : Nat} {segs r : List Nat} {d e : Dev}, d.writeCells b k n segs = some (r, e) →
    (e.queue k).ents = (d.queue k).ents ∧ e.spw.rrPipe = d.spw.rrPipe ∧ e.spw.rrQueue = d.spw.rrQueue
  | 0, segs, r, d, e, hw => by
    cases hw
    exact ⟨rfl, rfl, rfl⟩
  | n + 1, segs, r, d, e, hw => by
    unfold Dev.writeCells at hw
    cases hc : d.writeCell k b with
    | none => rw [hc] at hw; cases hw
    | some y =>
      obtain ⟨s, d1⟩ := y
      rw [hc] at hw
      obtain ⟨he, hp, hq⟩ := writeCells_keeps hw
      have hb : (d1.bump .spillWrBytes (segTier s) 256).queue k = d1.queue k := rfl
      rw [hb] at he
      suffices h1 : (d1.queue k).ents = (d.queue k).ents ∧ d1.spw.rrPipe = d.spw.rrPipe ∧ d1.spw.rrQueue = d.spw.rrQueue from
        ⟨he.trans h1.1, hp.trans h1.2.1, hq.trans h1.2.2⟩
      unfold Dev.writeCell at hc
      dsimp only at hc
      split at hc
      · split at hc
        · cases hc
        · split at hc
          · cases hc
          next s' hs =>
            cases hc
            obtain ⟨f, hf⟩ := spw_refreshFull (d.modQueue k (fun q => { q with chain := q.chain ++ [s], fill := 1 }))
            refine ⟨?_, by rw [hf]; rfl, by rw [hf]; rfl⟩
            rw [queue_dp (dp_refreshFull _), Dev.queue_modQueue, if_pos rfl]
      · cases hc
        refine ⟨?_, rfl, rfl⟩
        rw [Dev.queue_modQueue, if_pos rfl]

/-- The last segment of a chain takes the cells for which it has room. -/
theorem writeCells_last {k sg : Nat} {b : List Nat} : ∀ {n : Nat} {segs : List Nat} {d : Dev}, (d.queue k).chain.getLast? = some sg →
    (d.queue k).fill + n ≤ segCells sg → (segs = [] ∨ segs = [sg]) →
    ∃ e, d.writeCells b k n segs = some (if n = 0 then segs else [sg], e) ∧ (e.queue k).chain = (d.queue k).chain ∧
      (e.queue k).fill = (d.queue k).fill + n
  | 0, segs, d, _, _, _ => ⟨d, rfl, rfl, rfl⟩
  | n + 1, segs, d, hl, hfill, hsegs => by
    have hwant : (d.queue k).wantsSeg = false := by
      unfold Queue.wantsSeg
      rw [hl]
      exact decide_eq_false (by omega)
    have hc : d.writeCell k b = some (sg, d.modQueue k (fun q => { q with fill := q.fill + 1 })) := by
      unfold Dev.writeCell
      dsimp only
      rw [hwant, hl]
      rfl
    have hq : ((d.modQueue k (fun q => { q with fill := q.fill + 1 })).bump .spillWrBytes (segTier sg) 256).queue k =
        { d.queue k with fill := (d.queue k).fill + 1 } := by
      show (d.modQueue k (fun q => { q with fill := q.fill + 1 })).queue k = _
      rw [Dev.queue_modQueue, if_pos rfl]
    obtain ⟨e, he, hch, hf⟩ := writeCells_last (n := n) (segs := [sg]) (b := b)
      (d := (d.modQueue k (fun q => { q with fill := q.fill + 1 })).bump .spillWrBytes (segTier sg) 256)
      (by rw [hq]; exact hl) (by rw [hq]; dsimp only; omega) (.inr rfl)
    rw [hq] at hch hf
    refine ⟨e, ?_, hch, by rw [hf]; dsimp only; omega⟩
    unfold Dev.writeCells
    rw [hc]
    dsimp only
    have hs : (if segs.getLast? = some sg then segs else segs ++ [sg]) = [sg] := by
      cases hsegs with
      | inl h => subst h; rfl
      | inr h => subst h; exact if_pos rfl
    rw [hs, he, if_neg (Nat.succ_ne_zero n)]
    split <;> rfl

/-! ### The oldest staged packet enters BASIN (11 R338) -/

theorem rr_linkSegs (d : Dev) (k : Nat) (before : Option Nat) (segs : List Nat) (slot : Nat) :
    (d.linkSegs k before segs slot).spw.rrPipe = d.spw.rrPipe ∧ (d.linkSegs k before segs slot).spw.rrQueue = d.spw.rrQueue := ⟨rfl, rfl⟩

/-- An entry that stands in BASIN. -/
def Ent.inBasin (y : Ent) (segs : List Nat) (slot : Nat) (hs : List (BitVec 128)) : Ent :=
  { y with part := .basin, segs := segs, slot := slot, heads := hs }

/-- A queue's packet stands in BASIN. -/
def Dev.basinLinked (d : Dev) (k i : Nat) (y : Ent) (x : Pkt) (segs : List Nat) (before : Option Nat) (slot : Nat) : Dev :=
  let h := d.spillHeads k y.pid x
  (h.2.linkSegs k before segs slot).modQueue k (fun q => { q with ents := q.ents.set i (y.inBasin segs slot h.1) })

/-- The write is counted, and the packet's cells are released. -/
def Dev.basinWritten (d : Dev) (k : Nat) (y : Ent) (x : Pkt) : Dev :=
  let d := ((d.bump .spillPackets k).peak .basinPeak k (d.queue k).chain.length).releaseAll partySpill x.acct x.cells
  if x.copies = 1 then d.modPkt y.pid (fun y => { y with cells := [] }) else d

theorem writeQueue_is {d e : Dev} {k i : Nat} {b segs : List Nat} {y : Ent} {x : Pkt} (hh : d.stagedHead k = some (i, y, x))
    (hw : d.writeCells b k x.need [] = some (segs, e)) : d.writeQueue k b =
      (e.basinLinked k i y x segs (d.queue k).chain.getLast? (if (d.queue k).wantsSeg then 0 else (d.queue k).fill)).basinWritten k y x := by
  unfold Dev.writeQueue
  rw [hh]
  dsimp only
  rw [hw]
  rfl

theorem queue_modPkt (d : Dev) (pid : Nat) (f : Pkt → Pkt) (k : Nat) : (d.modPkt pid f).queue k = d.queue k := rfl
theorem spw_modPkt (d : Dev) (pid : Nat) (f : Pkt → Pkt) : (d.modPkt pid f).spw = d.spw := rfl

theorem basinWritten_keeps (d : Dev) (k : Nat) (y : Ent) (x : Pkt) :
    (d.basinWritten k y x).queue k = d.queue k ∧ (d.basinWritten k y x).spw = d.spw := by
  obtain ⟨hdp, hspw⟩ : (((d.bump .spillPackets k).peak .basinPeak k (d.queue k).chain.length).releaseAll partySpill x.acct x.cells).dp = d.dp ∧
      (((d.bump .spillPackets k).peak .basinPeak k (d.queue k).chain.length).releaseAll partySpill x.acct x.cells).spw = d.spw := by simp
  unfold Dev.basinWritten
  dsimp only
  split
  · rw [queue_modPkt, spw_modPkt, queue_dp hdp]
    exact ⟨rfl, hspw⟩
  · rw [queue_dp hdp]
    exact ⟨rfl, hspw⟩

theorem basinLinked_parts (d : Dev) (k i : Nat) (y : Ent) (x : Pkt) (segs : List Nat) (before : Option Nat) (slot : Nat) : ∃ hs,
    (d.basinLinked k i y x segs before slot).queue k = { d.queue k with ents := (d.queue k).ents.set i (y.inBasin segs slot hs) } ∧
    (d.basinLinked k i y x segs before slot).spw.rrPipe = d.spw.rrPipe ∧
    (d.basinLinked k i y x segs before slot).spw.rrQueue = d.spw.rrQueue := by
  obtain ⟨hdp, hspw⟩ : (d.spillHeads k y.pid x).2.dp = d.dp ∧ (d.spillHeads k y.pid x).2.spw = d.spw := by simp
  have hq : ((d.spillHeads k y.pid x).2.linkSegs k before segs slot).queue k = d.queue k := queue_dp hdp k
  obtain ⟨hp, hr⟩ := rr_linkSegs (d.spillHeads k y.pid x).2 k before segs slot
  refine ⟨(d.spillHeads k y.pid x).1, ?_, ?_, ?_⟩
  · unfold Dev.basinLinked
    dsimp only
    rw [Dev.queue_modQueue, if_pos rfl, hq]
  · exact hp.trans (by rw [hspw])
  · exact hr.trans (by rw [hspw])

/-- What the queue of a packet that has been written holds. -/
theorem writeQueue_writes {d e : Dev} {k i : Nat} {b segs : List Nat} {y : Ent} {x : Pkt} (hh : d.stagedHead k = some (i, y, x))
    (hw : d.writeCells b k x.need [] = some (segs, e)) : ∃ hs,
    (d.writeQueue k b).queue k = { e.queue k with
      ents := (e.queue k).ents.set i (y.inBasin segs (if (d.queue k).wantsSeg then 0 else (d.queue k).fill) hs) } ∧
    (d.writeQueue k b).spw.rrPipe = e.spw.rrPipe ∧ (d.writeQueue k b).spw.rrQueue = e.spw.rrQueue := by
  rw [writeQueue_is hh hw]
  obtain ⟨hq, hs⟩ := basinWritten_keeps (e.basinLinked k i y x segs (d.queue k).chain.getLast?
    (if (d.queue k).wantsSeg then 0 else (d.queue k).fill)) k y x
  rw [hq, hs]
  exact basinLinked_parts ..

/-! ### Whose turn it is (11 R345) -/

theorem nextRound_holds {k last i : Nat} {c : Nat → Bool} (h : nextRound k last c = some i) : c i = true := by
  have := List.find?_some h
  exact this

theorem mayWrite_of_spillTurn {d : Dev} {b : List Nat} {p i : Nat} (h : d.spillTurn b = some (p, i)) : d.mayWrite b (512 * p + i) = true := by
  unfold Dev.spillTurn at h
  dsimp only at h
  obtain ⟨q, -, hq⟩ := Option.bind_eq_some_iff.1 h
  obtain ⟨j, hj, he⟩ := Option.map_eq_some_iff.1 hq
  cases he
  exact nextRound_holds (c := fun i => d.mayWrite b (512 * p + i)) hj

theorem mayWrite_cases {d : Dev} {b : List Nat} {k : Nat} (h : d.mayWrite b k = true) :
    ∃ i e x r, d.stagedHead k = some (i, e, x) ∧ d.writeCells b k x.need [] = some r := by
  unfold Dev.mayWrite at h
  split at h
  next i e x hh =>
    obtain ⟨r, hr⟩ := Option.isSome_iff_exists.1 h
    exact ⟨i, e, x, r, hh, hr⟩
  next => cases h

theorem stagedHead_flooded {d : Dev} {k : Nat} {y : Nat × Ent × Pkt} (h : d.stagedHead k = some y) : (d.queue k).flooded = true := by
  unfold Dev.stagedHead at h
  dsimp only at h
  cases hf : (d.queue k).flooded with
  | true => rfl
  | false => rw [hf] at h; cases h

theorem stagedHead_first {d : Dev} {k : Nat} {pre post : List Ent} {e : Ent} {x : Pkt} (hf : (d.queue k).flooded = true)
    (hq : (d.queue k).ents = pre ++ e :: post) (hpre : ∀ f ∈ pre, f.part ≠ .staging) (he : e.part = .staging)
    (hx : d.pkt? e.pid = some x) : d.stagedHead k = some (pre.length, e, x) := by
  have hi : (pre ++ e :: post).findIdx? (fun e => decide (e.part = .staging)) = some pre.length := by
    rw [List.findIdx?_append, List.findIdx?_eq_none_iff.2 (fun f hf => decide_eq_false (hpre f hf)), List.findIdx?_cons]
    simp [he]
  unfold Dev.stagedHead
  dsimp only
  rw [hf, hq, hi]
  simp [hx]

/-- The turn has come to a queue of a pipeline. -/
def Dev.turned (d : Dev) (p i : Nat) : Dev := { d with spw := { d.spw with rrPipe := p, rrQueue := tset d.spw.rrQueue 511 p i } }

theorem sameSegs_turned (d : Dev) (p i : Nat) : SameSegs d (d.turned p i) := ⟨rfl, rfl, rfl, rfl, rfl, rfl, rfl, rfl⟩

theorem doBasinWriteComplete_queue {d : Dev} {b : List Nat} {p i : Nat}
    (hl : nextRound 4096 d.spw.rrLrq (fun i => (d.lrqReady (i / 8) (i % 8)).isSome) = none) (ht : d.spillTurn b = some (p, i)) :
    doBasinWriteComplete b d = (d.turned p i).writeQueue (512 * p + i) b := by
  unfold doBasinWriteComplete
  rw [hl]
  dsimp only
  rw [ht]
  rfl

/-- The queue whose turn it is has its oldest staged packet written. -/
theorem doBasinWriteComplete_writes {d e : Dev} {b segs : List Nat} {p i k : Nat} {pre post : List Ent} {y : Ent} {x : Pkt}
    (hl : nextRound 4096 d.spw.rrLrq (fun i => (d.lrqReady (i / 8) (i % 8)).isSome) = none) (ht : d.spillTurn b = some (p, i))
    (hk : k = 512 * p + i) (hq : (d.queue k).ents = pre ++ y :: post) (hpre : ∀ f ∈ pre, f.part ≠ .staging) (hy : y.part = .staging)
    (hx : d.pkt? y.pid = some x) (hw : d.writeCells b k x.need [] = some (segs, e)) :
    ∃ hs, (doBasinWriteComplete b d).queue k = { e.queue k with
        ents := pre ++ y.inBasin segs (if (d.queue k).wantsSeg then 0 else (d.queue k).fill) hs :: post } ∧
      (doBasinWriteComplete b d).spw.rrPipe = p ∧ tget (doBasinWriteComplete b d).spw.rrQueue 511 p = i := by
  subst hk
  obtain ⟨_, _, _, _, hh, -⟩ := mayWrite_cases (mayWrite_of_spillTurn ht)
  have hhead : (d.turned p i).stagedHead (512 * p + i) = some (pre.length, y, x) :=
    stagedHead_first (d := d.turned p i) (stagedHead_flooded hh) hq hpre hy hx
  obtain ⟨e', hw', hs⟩ := (sameSegs_turned d p i).writeCells hw
  obtain ⟨hents, hp, hr⟩ := writeCells_keeps hw'
  obtain ⟨heads, hqueue, hp', hr'⟩ := writeQueue_writes hhead hw'
  have hents' : (e'.queue (512 * p + i)).ents = pre ++ y :: post := hents.trans hq
  refine ⟨heads, ?_, ?_, ?_⟩
  · rw [doBasinWriteComplete_queue hl ht, hqueue, hents', List.set_append_right _ _ (Nat.le_refl _), Nat.sub_self, List.set_cons_zero,
      queue_queues hs.queues]
    rfl
  · rw [doBasinWriteComplete_queue hl ht, hp', hp]
    rfl
  · rw [doBasinWriteComplete_queue hl ht, hr', hr]
    show tget (tset d.spw.rrQueue 511 p i) 511 p = i
    rw [tget_tset, if_pos rfl]

/-! ### Long-reach queues (11 R346-R348) -/

theorem lrq_spw {d e : Dev} (h : e.spw = d.spw) (a c : Nat) : e.lrq a c = d.lrq a c := by unfold Dev.lrq; rw [h]

theorem lrq_modLrq (d : Dev) (a c : Nat) (f : Lrq → Lrq) : (d.modLrq a c f).lrq a c = f (d.lrq a c) := by
  unfold Dev.lrq Dev.modLrq
  rw [tget_tmod, if_pos rfl]

theorem spw_releaseCopies (d : Dev) (x : Pkt) : (d.releaseCopies x).spw = d.spw :=
  foldl_keeps (fun d => d.spw) (fun d _ => by show (d.releaseAll partySpill x.acct x.cells).spw = d.spw; simp) _ _

/-- A frame enters its LRQ. -/
def Lrq.entered (l : Lrq) (pid : Nat) (x : Pkt) : Lrq :=
  { l with staged := l.staged.tail, frames := l.frames ++ [pid], stagedBytes := l.stagedBytes - x.record, bytes := l.bytes + x.record }

theorem spw_writeLrq {d : Dev} {a c pid : Nat} {x : Pkt} (h : d.lrqReady a c = some (pid, x)) :
    (d.writeLrq a c).spw = (d.modLrq a c (fun l => l.entered pid x)).spw := by
  have hj (d : Dev) (n m : Nat) : (((d.bump .spillWrBytes 0 n).peak .lrqPeak (8 * a + c) m).judge a).spw = d.spw := by simp
  unfold Dev.writeLrq
  rw [h]
  dsimp only
  rw [hj, spw_modPkt, spw_releaseCopies]
  rfl

theorem doBasinWriteComplete_lrq {d : Dev} {b : List Nat} {a c i pid : Nat} {x : Pkt} (hi : i = 8 * a + c) (hc : c < 8)
    (hl : nextRound 4096 d.spw.rrLrq (fun i => (d.lrqReady (i / 8) (i % 8)).isSome) = some i) (hr : d.lrqReady a c = some (pid, x)) :
    (doBasinWriteComplete b d).spw.rrLrq = i ∧ (doBasinWriteComplete b d).lrq a c = (d.lrq a c).entered pid x := by
  have hrow : doBasinWriteComplete b d = ({ d with spw := { d.spw with rrLrq := i } } : Dev).writeLrq a c := by
    unfold doBasinWriteComplete
    rw [hl, show a = i / 8 by omega, show c = i % 8 by omega]
  have hspw := spw_writeLrq (d := { d with spw := { d.spw with rrLrq := i } }) (a := a) (c := c) hr
  rw [hrow, lrq_spw hspw, hspw, lrq_modLrq]
  exact ⟨rfl, rfl⟩

/-! ### Ends of packets leave the Spillway (11 R348, R349) -/

theorem spw_cutTx (d : Dev) (pid : Nat) : (d.cutTx pid).spw = d.spw := by simp
theorem spw_tidy (d : Dev) (pid : Nat) : (d.tidy pid).spw = d.spw := by simp
theorem spw_dropWaiting (d : Dev) (pid party : Nat) (c : Ctr) (idx : Pkt → Dest → Nat) : (d.dropWaiting pid party c idx).spw = d.spw := by simp
theorem spw_dropQueued (d : Dev) (pid party : Nat) (c : Ctr) (idx : Pkt → Dest → Nat) : (d.dropQueued pid party c idx).spw = d.spw := by simp
theorem spw_endAsk (d : Dev) (pid : Nat) (x : Pkt) (n : Nat) : (d.endAsk pid x n).spw = d.spw := by simp

theorem unstage_lrq (d : Dev) (pid : Nat) (x : Pkt) (a c : Nat) :
    ((d.unstage pid x).lrq a c).frames = (d.lrq a c).frames ∧ ((d.unstage pid x).lrq a c).bytes = (d.lrq a c).bytes := by
  unfold Dev.unstage
  split
  · exact ⟨rfl, rfl⟩
  · unfold Dev.lrq
    rw [tget_tmod]
    split
    next hk =>
      rw [hk]
      split <;> exact ⟨rfl, rfl⟩
    · exact ⟨rfl, rfl⟩

/-- A packet that is discarded leaves the frames that a long-reach queue holds, and their bytes. -/
theorem discardPkt_lrq (d : Dev) (pid party : Nat) (k : Ctr) (idx : Pkt → Dest → Nat) (a c : Nat) :
    ((d.discardPkt pid party k idx).lrq a c).frames = (d.lrq a c).frames ∧
    ((d.discardPkt pid party k idx).lrq a c).bytes = (d.lrq a c).bytes := by
  unfold Dev.discardPkt
  split
  · exact ⟨rfl, rfl⟩
  next x hx =>
    dsimp only
    rw [lrq_spw (spw_tidy ..), lrq_spw (spw_dropQueued ..), lrq_spw (spw_dropWaiting ..), lrq_spw (spw_cutTx ..), lrq_spw (spw_modPkt ..)]
    have hd {d' : Dev} (h : d'.spw = d.spw) : ((d'.unstage pid x).lrq a c).frames = (d.lrq a c).frames ∧
        ((d'.unstage pid x).lrq a c).bytes = (d.lrq a c).bytes := by
      obtain ⟨hf, hb⟩ := unstage_lrq d' pid x a c
      rw [hf, hb, lrq_spw h]
      exact ⟨rfl, rfl⟩
    cases x.ask with
    | none => exact hd rfl
    | some w => exact hd (spw_endAsk ..)

/-- The frame that has been read back leaves its LRQ. -/
def Dev.lrqLeft (d : Dev) (a c : Nat) (rest : List Nat) (x : Pkt) : Dev :=
  (d.modLrq a c (fun l => { l with frames := rest, bytes := l.bytes - x.record })).judge a

/-- The frame that cannot be read is discarded: its event, and the source of its stack. -/
def Dev.lrqLost (d : Dev) (a c pid : Nat) (lasting : Bool) : Dev :=
  let (v, d) := d.lrqAddr
  let src := 0xC08 + stackOf v
  let d := (d.liveMs src).modSrc src (fun y => { y with lasting := lasting })
  let d := d.record Ev.basinEcc .shared (some src) (dat [(0, 1, 0), (1, 6, v), (7, 2, 2 ^ 15 + 8 * a + c), (9, 1, b2n lasting)])
  d.discardPkt pid partySpill .drBasinEcc (fun y _ => y.first)

/-- The destinations that still take the frame; the others' copies are dropped. -/
def Dev.lrqRefused (d : Dev) (pid : Nat) (x : Pkt) : List Dest × Dev :=
  x.waiting.foldl (fun (acc : List Dest × Dev) t =>
    match acc.2.copyRefused x t with
    | some c =>
      let d := acc.2.modPkt pid (fun y => { y with waiting := y.waiting.erase t })
      (acc.1, d.copyDrop partySpill { pid := pid, part := .basin } t c.1 c.2)
    | none => (acc.1 ++ [t], acc.2)) ([], d)

/-- A replication record follows the frame to its new cells. -/
def Dev.replMoved (d : Dev) (repl : Option Nat) (cs : List Nat) : Dev :=
  match repl with
  | some i => { d with swc := { d.swc with repl := tmod d.swc.repl none i (fun o => o.map (fun y => { y with head := cs.headD 0 })) } }
  | none => d

/-- The frame joins the queues of its destinations. -/
def Dev.lrqRejoined (d : Dev) (pid : Nat) (x : Pkt) (cs : List Nat) (ts : List Dest) : Dev :=
  let d := cs.foldl (fun d c => d.modCell c (fun y => { y with ref := ts.length })) d
  let d := ts.foldl (fun d t => d.floodTest t.key) d
  let x' : Pkt := { x with acct := 532, cls := 0, cells := cs, written := x.need, lrq := false, waiting := [] }
  let d := d.modPkt pid (fun y => { y with acct := 532, cls := 0, cells := cs, written := x.need, lrq := false, waiting := [] })
  ts.foldl (fun d t => d.enqueue pid x' t false) (d.replMoved x.repl cs)

/-- An error in a frame that comes back has been corrected. -/
def Dev.lrqFixed (d : Dev) : Dev :=
  let (v, d) := d.lrqAddr
  d.hbmFixed (stackOf v)

theorem spw_hbmFixed (d : Dev) (stack : Nat) : (d.hbmFixed stack).spw = d.spw := by simp

theorem spw_lrqFixed (d : Dev) : d.lrqFixed.spw = d.spw := spw_hbmFixed d.lrqAddr.2 (stackOf d.lrqAddr.1)

/-- A frame comes back under account 532. -/
def Dev.lrqBack (d : Dev) (a c pid : Nat) (rest : List Nat) (x : Pkt) (cs : List Nat) (fixed : Bool) : Dev :=
  let r := d.lrqRefused pid x
  let d := if fixed then r.2.lrqFixed else r.2
  let d := (d.lrqLeft a c rest x).bump .spillRdBytes 0 x.record
  if r.1.isEmpty then d.releaseAll partySpill 532 cs else d.lrqRejoined pid x cs r.1

theorem lrqLost_lrq (d : Dev) (a c pid : Nat) (lasting : Bool) :
    ((d.lrqLost a c pid lasting).lrq a c).frames = (d.lrq a c).frames ∧ ((d.lrqLost a c pid lasting).lrq a c).bytes = (d.lrq a c).bytes := by
  obtain ⟨hf, hb⟩ := discardPkt_lrq (((d.lrqAddr.2.liveMs (0xC08 + stackOf d.lrqAddr.1)).modSrc (0xC08 + stackOf d.lrqAddr.1)
    (fun y => { y with lasting := lasting })).record Ev.basinEcc .shared (some (0xC08 + stackOf d.lrqAddr.1))
    (dat [(0, 1, 0), (1, 6, d.lrqAddr.1), (7, 2, 2 ^ 15 + 8 * a + c), (9, 1, b2n lasting)])) pid partySpill .drBasinEcc (fun y _ => y.first) a c
  have hs : (((d.lrqAddr.2.liveMs (0xC08 + stackOf d.lrqAddr.1)).modSrc (0xC08 + stackOf d.lrqAddr.1)
    (fun y => { y with lasting := lasting })).record Ev.basinEcc .shared (some (0xC08 + stackOf d.lrqAddr.1))
    (dat [(0, 1, 0), (1, 6, d.lrqAddr.1), (7, 2, 2 ^ 15 + 8 * a + c), (9, 1, b2n lasting)])).spw = d.spw := by simp
  rw [lrq_spw hs] at hf hb
  exact ⟨hf, hb⟩

theorem spw_lrqRefused (d : Dev) (pid : Nat) (x : Pkt) : (d.lrqRefused pid x).2.spw = d.spw := by
  have h : ∀ (l : List Dest) (acc : List Dest × Dev), acc.2.spw = d.spw → (l.foldl (fun (acc : List Dest × Dev) t =>
      match acc.2.copyRefused x t with
      | some c => (acc.1, (acc.2.modPkt pid (fun y => { y with waiting := y.waiting.erase t })).copyDrop partySpill
          { pid := pid, part := .basin } t c.1 c.2)
      | none => (acc.1 ++ [t], acc.2)) acc).2.spw = d.spw := by
    intro l
    induction l with
    | nil => exact fun acc h => h
    | cons t l ih =>
      intro acc hacc
      refine ih _ ?_
      dsimp only
      split
      · exact (spw_copyDrop ..).trans hacc
      · exact hacc
  exact h x.waiting ([], d) rfl

theorem spw_floodTest (d : Dev) (k : Nat) : (d.floodTest k).spw = d.spw := by simp
theorem spw_enqueue (d : Dev) (pid : Nat) (x : Pkt) (t : Dest) (b : Bool) : (d.enqueue pid x t b).spw = d.spw := by simp
theorem spw_modCell (d : Dev) (c : Nat) (f : Cell → Cell) : (d.modCell c f).spw = d.spw := rfl

theorem spw_lrqRejoined (d : Dev) (pid : Nat) (x : Pkt) (cs : List Nat) (ts : List Dest) : (d.lrqRejoined pid x cs ts).spw = d.spw := by
  have hrepl (d : Dev) : (d.replMoved x.repl cs).spw = d.spw := by cases x.repl <;> rfl
  unfold Dev.lrqRejoined
  dsimp only
  rw [foldl_keeps (fun d => d.spw) (fun d (t : Dest) => spw_enqueue d pid _ t false), hrepl, spw_modPkt,
    foldl_keeps (fun d => d.spw) (fun d (t : Dest) => spw_floodTest d t.key), foldl_keeps (fun d => d.spw) (fun d c => spw_modCell d c _)]

theorem spw_lrqBack (d : Dev) (a c pid : Nat) (rest : List Nat) (x : Pkt) (cs : List Nat) (fixed : Bool) :
    (d.lrqBack a c pid rest x cs fixed).spw = (d.modLrq a c (fun l => { l with frames := rest, bytes := l.bytes - x.record })).spw := by
  have hrel (d : Dev) : (d.releaseAll partySpill 532 cs).spw = d.spw := by simp
  have hleft {e : Dev} (h : e.spw = d.spw) : ((e.lrqLeft a c rest x).bump .spillRdBytes 0 x.record).spw =
      (d.modLrq a c (fun l => { l with frames := rest, bytes := l.bytes - x.record })).spw := by
    have hj (d : Dev) : ((d.judge a).bump .spillRdBytes 0 x.record).spw = d.spw := by simp
    rw [Dev.lrqLeft, hj]
    unfold Dev.modLrq
    rw [h]
  have hr := spw_lrqRefused d pid x
  unfold Dev.lrqBack
  dsimp only
  split
  · rw [hrel]
    split
    · exact hleft ((spw_lrqFixed _).trans hr)
    · exact hleft hr
  · rw [spw_lrqRejoined]
    split
    · exact hleft ((spw_lrqFixed _).trans hr)
    · exact hleft hr

theorem lrqLeft_lrq {d e : Dev} {a c : Nat} {rest : List Nat} {x : Pkt} (hb : (e.lrq a c).bytes = (d.lrq a c).bytes) : ((e.lrqLeft a c rest x).lrq a c).frames = rest ∧
    ((e.lrqLeft a c rest x).lrq a c).bytes = (d.lrq a c).bytes - x.record := by
  have hj (d : Dev) : (d.judge a).spw = d.spw := by simp
  unfold Dev.lrqLeft
  rw [lrq_spw (hj _), lrq_modLrq]
  exact ⟨rfl, by rw [← hb]⟩

/-- The oldest frame of a long-reach queue is lost, or comes back. -/
theorem doLrqReturn_cases {d : Dev} {a c pid : Nat} {rest : List Nat} {x : Pkt} {err : BasinErr} (hf : (d.lrq a c).frames = pid :: rest)
    (hx : d.pkt? pid = some x) (htake : err = .clean ∨ err = .corrected → (Dev.takeMany x.need [] d).isSome = true) :
    (∃ lasting, doLrqReturn a c err d = (d.lrqLost a c pid lasting).lrqLeft a c rest x) ∨
    (∃ cs e fixed, Dev.takeMany x.need [] d = some (cs, e) ∧ doLrqReturn a c err d = e.lrqBack a c pid rest x cs fixed) := by
  have herr : (∃ l, (if d.spw.stacksDown ≠ 0 then BasinErr.data true else err) = .data l ∨
      (if d.spw.stacksDown ≠ 0 then BasinErr.data true else err) = .header l) ∨
      (if d.spw.stacksDown ≠ 0 then BasinErr.data true else err) = .link ∨
      (if d.spw.stacksDown ≠ 0 then BasinErr.data true else err) = .state ∨
      ((if d.spw.stacksDown ≠ 0 then BasinErr.data true else err) = err ∧ (err = .clean ∨ err = .corrected)) := by
    split
    · exact .inl ⟨true, .inl rfl⟩
    · cases err <;> simp
  unfold doLrqReturn
  rw [hf]
  dsimp only
  rw [hx]
  dsimp only
  obtain ⟨l, h | h⟩ | h | h | ⟨h, hc⟩ := herr
  · rw [h]; exact .inl ⟨l, rfl⟩
  · rw [h]; exact .inl ⟨l, rfl⟩
  · rw [h]; exact .inl ⟨false, rfl⟩
  · rw [h]; exact .inl ⟨false, rfl⟩
  · obtain ⟨⟨cs, e⟩, he⟩ := Option.isSome_iff_exists.1 (htake hc)
    rw [h, he]
    refine .inr ?_
    obtain rfl | rfl := hc
    · exact ⟨cs, e, false, rfl, rfl⟩
    · exact ⟨cs, e, true, rfl, rfl⟩

theorem doLrqReturn_lrq {d : Dev} {a c pid : Nat} {rest : List Nat} {x : Pkt} {err : BasinErr} (hf : (d.lrq a c).frames = pid :: rest)
    (hx : d.pkt? pid = some x) (htake : err = .clean ∨ err = .corrected → (Dev.takeMany x.need [] d).isSome = true) :
    ((doLrqReturn a c err d).lrq a c).frames = rest ∧ ((doLrqReturn a c err d).lrq a c).bytes = (d.lrq a c).bytes - x.record := by
  obtain ⟨l, h⟩ | ⟨cs, e, fixed, he, h⟩ := doLrqReturn_cases hf hx htake
  · rw [h]
    exact lrqLeft_lrq (lrqLost_lrq d a c pid l).2
  · have hs : e.spw = d.spw := by
      have := Dev.takeMany_frame x.need [] d he
      simp only [ButFcrBpmCtrs] at this
      simp [this]
    rw [h, lrq_spw (spw_lrqBack ..), lrq_modLrq, lrq_spw hs]
    exact ⟨rfl, rfl⟩

/-! ### Discards in the basin leave the chains (11 R349, R350) -/

theorem queues_meter (d : Dev) (x : Pkt) (pipe i n : Nat) : (d.meter x pipe i n).dp = d.dp := by simp

theorem queues_dropSent (d : Dev) (k : Nat) (sel : Tx → Bool) (c : Ctr) : (d.dropSent k sel c).dp.queues = d.dp.queues := by
  unfold Dev.dropSent
  dsimp only
  refine foldl_keeps (fun d => d.dp.queues) (fun d y => ?_) _ _
  split
  · split
    · rw [queues_meter]; rfl
    · rfl
  · rfl

/-- A packet that is dropped leaves its queue, which keeps its chain. -/
theorem queue_dropped (d : Dev) (k : Nat) (e : Ent) (c : Ctr) (j : Nat) :
    ((d.modQueue k (fun q => { q with ents := q.ents.filter (fun f => decide (f ≠ e)) })).copyDrop partySpill e (destOf k) c
      (destOf k).port).queue j =
    if k = j then { d.queue j with ents := (d.queue j).ents.filter (fun f => decide (f ≠ e)) } else d.queue j := by
  rw [queue_queues (queues_copyDrop ..), Dev.queue_modQueue]

theorem chain_dropEnts (d : Dev) (k : Nat) (sel : Ent → Bool) (c : Ctr) (j : Nat) :
    ((d.dropEnts k sel c).queue j).chain = (d.queue j).chain := by
  refine foldl_keeps (fun d => (d.queue j).chain) (fun d e => ?_) _ _
  rw [queue_dropped]
  split <;> rfl

theorem chain_dropPart (d : Dev) (k : Nat) (sel : Ent → Bool) (c : Ctr) (j : Nat) :
    ((d.dropPart k sel c).queue j).chain = (d.queue j).chain := by
  unfold Dev.dropPart
  rw [chain_dropEnts, queue_queues (queues_dropSent ..)]

theorem chain_linkStaged (d : Dev) (k j : Nat) : ((d.linkStaged k).queue j).chain = (d.queue j).chain := by
  unfold Dev.linkStaged
  rw [Dev.queue_modQueue]
  split <;> rfl

theorem queue_detach (d : Dev) (k j : Nat) : (d.detach k).queue j =
    if k = j then { d.queue j with flooded := false, chain := [], fill := 0 } else d.queue j := by
  unfold Dev.detach
  dsimp only
  rw [Dev.queue_modQueue]
  rfl

theorem not_mem_dropEnts {d : Dev} {k : Nat} {e : Ent} (c : Ctr) (he : e ∈ (d.queue k).ents) :
    e ∉ ((d.dropEnts k (fun f => decide (f = e)) c).queue k).ents := by
  unfold Dev.dropEnts
  refine foldl_reaches (I := fun _ : Dev => True) (P := fun d : Dev => e ∉ (d.queue k).ents) (fun _ _ _ => trivial) (fun d _ => ?_)
    (fun d f h => ?_) (List.mem_filter.2 ⟨he, decide_eq_true rfl⟩) trivial
  · rw [queue_dropped, if_pos rfl]
    simp
  · rw [queue_dropped, if_pos rfl]
    exact fun hm => h (List.mem_of_mem_filter hm)

theorem ents_trimChain (d : Dev) (k : Nat) : ((d.trimChain k).queue k).ents = (d.queue k).ents := by
  unfold Dev.trimChain
  dsimp only
  split
  · rfl
  · rw [queue_freeSegs, Dev.queue_modQueue, if_pos rfl]

/-- What an emptied BASIN does to the staged packets of its queue. -/
theorem ents_settle (d : Dev) (k : Nat) : ((d.settle k).queue k).ents = (d.queue k).ents ∨
    ((d.settle k).queue k).ents = (d.queue k).ents.map (fun e => if e.part = .staging then { e with part := .head } else e) := by
  unfold Dev.settle
  dsimp only
  split
  · exact .inl rfl
  · refine .inr ?_
    unfold Dev.dry
    dsimp only
    rw [queue_freeSegs, Dev.queue_modQueue, if_pos rfl, Dev.queue_modQueue, if_pos rfl]

theorem settle_of_partRead {d : Dev} {k : Nat} {e : Ent} (he : e ∈ (d.queue k).ents) (hp : d.partRead e = true) : d.settle k = d := by
  unfold Dev.settle
  dsimp only
  rw [if_pos]
  rw [List.any_eq_true.2 ⟨e, he, hp⟩]
  simp

theorem not_mem_settle {d : Dev} {k : Nat} {e : Ent} (he : e ∉ (d.queue k).ents) (hp : e.part ≠ .head) :
    e ∉ ((d.settle k).queue k).ents := by
  obtain h | h := ents_settle d k
  · rw [h]; exact he
  · rw [h]
    intro hm
    obtain ⟨f, hf, hfe⟩ := List.mem_map.1 hm
    split at hfe
    · exact hp (by rw [← hfe])
    · exact he (hfe ▸ hf)

theorem partRead_part {d : Dev} {e : Ent} (h : d.partRead e = true) : e.part ≠ .head := by
  intro hp
  unfold Dev.partRead at h
  rw [hp] at h
  cases h

theorem readNext_queued {d : Dev} {k : Nat} {e : Ent} (h : d.readNext k = some (e, false)) :
    e ∈ (d.queue k).ents ∧ d.partRead e = true := by
  unfold Dev.readNext at h
  split at h
  · cases h
  · obtain ⟨f, hf, he⟩ := Option.map_eq_some_iff.1 h
    cases he
    exact ⟨List.mem_of_find?_eq_some hf, List.find?_some hf⟩

/-! ### What keeps a source live -/

section
variable {k : Nat}

theorem tended_live_ne {s : Nat} (h : s ≠ k) (d : Dev) (on : Bool) (attr : Nat) : Tended k d (d.live s on attr) :=
  .live (by simp) fun hl => by rw [src_live_ne h]; exact hl

theorem tended_refreshFull (hk : 0xC20 ≠ k) (d : Dev) : Tended k d d.refreshFull :=
  .live (by simp) fun hl => by rw [src_refreshFull hk]; exact hl

theorem tended_freeSeg (hk : 0xC20 ≠ k) (d : Dev) (s : Nat) : Tended k d (d.freeSeg s) := by
  unfold Dev.freeSeg
  dsimp only
  refine Tended.trans ?_ (tended_refreshFull hk _)
  split
  · refine Tended.trans ?_ (tended_record ..)
    refine Tended.trans ?_ (tended_setLive ..)
    exact .of_eq rfl rfl
  · exact .of_eq rfl rfl

theorem tended_freeSegs (hk : 0xC20 ≠ k) (l : List Nat) (d : Dev) : Tended k d (l.foldl Dev.freeSeg d) :=
  .foldl (fun d s => tended_freeSeg hk d s) l d

theorem tended_trimChain (hk : 0xC20 ≠ k) (d : Dev) (q : Nat) : Tended k d (d.trimChain q) := by
  unfold Dev.trimChain
  dsimp only
  split
  · exact .rfl
  · exact (tended_modQueue ..).trans (tended_freeSegs hk ..)

theorem tended_settle (hk : 0xC20 ≠ k) (d : Dev) (q : Nat) : Tended k d (d.settle q) := by
  unfold Dev.settle
  dsimp only
  split
  · exact .rfl
  · exact (tended_modQueue ..).trans ((tended_modQueue ..).trans (tended_freeSegs hk ..))

theorem tended_dropEnts (hk : 0xC0 ≤ k) (hne : k ≠ 0xB07) (d : Dev) (q : Nat) (sel : Ent → Bool) (c : Ctr) :
    Tended k d (d.dropEnts q sel c) :=
  .foldl (fun _ _ => (tended_modQueue ..).trans (tended_copyDrop hk hne ..)) _ _

end

/-- An uncorrectable cell of HBM makes the source of its stack live. -/
theorem src_basinBad {d : Dev} {sg : Nat} (hs : sg < 2 ^ 21) (id slot : Nat) (lasting : Bool) :
    ((d.basinBad id sg slot lasting).src (0xC08 + d.basinAddr sg slot / 4096 % 4)).live = true := by
  have htier : segTier sg = 0 := Nat.div_eq_of_lt hs
  have hsev : (defaultSeverity (0xC08 + d.basinAddr sg slot / 4096 % 4)).isSome = true := by
    have h4 : d.basinAddr sg slot / 4096 % 4 < 4 := Nat.mod_lt _ (by decide)
    generalize d.basinAddr sg slot / 4096 % 4 = n at h4
    interval_cases n <;> decide
  unfold Dev.basinBad stackOf
  extract_lets a src d1 d2
  have hsrc : src = 0xC08 + d.basinAddr sg slot / 4096 % 4 := if_pos htier
  rw [← hsrc] at hsev ⊢
  have h1 : (d1.src src).live = true :=
    (tended_modSrc _ _ (fun x => { x with lasting := lasting }) fun _ h => h).2.2 (src_liveMs_self (k := src) hsev d 0)
  have h2 : (d2.src src).live = true := (tended_record ..).2.2 h1
  split
  · exact h2
  · exact h2

/-! ### Reads of the basin (11 R340, R349) -/

theorem entCells_pkts {d d' : Dev} (h : d'.dp.pkts = d.dp.pkts) (e : Ent) : d'.entCells e = d.entCells e := by
  unfold Dev.entCells Dev.pkt?
  rw [h]

theorem readNext_dp {d d' : Dev} (h : d'.dp = d.dp) (k : Nat) : d'.readNext k = d.readNext k := by
  have hp : d'.partRead = d.partRead := funext fun e => by unfold Dev.partRead; rw [entCells_pkts (congrArg Dp.pkts h)]
  have hs : d'.partSent k = d.partSent k := funext fun y => by unfold Dev.partSent; rw [hp]
  unfold Dev.readNext Dev.txs Dev.queue
  rw [hs, hp, h]

theorem dp_bump (d : Dev) (c : Ctr) (i n : Nat) : (d.bump c i n).dp = d.dp := by simp
theorem pkts_modQueue (d : Dev) (k : Nat) (f : Queue → Queue) : (d.modQueue k f).dp.pkts = d.dp.pkts := rfl

theorem pkts_trimChain (d : Dev) (k : Nat) : (d.trimChain k).dp.pkts = d.dp.pkts := by
  unfold Dev.trimChain
  dsimp only
  split
  · rfl
  · rw [foldl_keeps (fun d => d.dp) dp_freeSeg]
    rfl

theorem doBasinReadComplete_idle {d : Dev} {k : Nat} (n : Nat) {err : BasinErr} (h : d.readNext k = none) (he : err ≠ .state) :
    doBasinReadComplete k n err d = d := by
  unfold doBasinReadComplete
  by_cases hk : 8192 ≤ k
  · rw [if_pos hk]
  · rw [if_neg hk, if_neg he, h]

theorem doBasinReadComplete_state {d : Dev} {k : Nat} (n : Nat) (hk : k < 8192) (hf : (d.queue k).flooded = true) :
    doBasinReadComplete k n .state d = d.qstateLost k := by
  unfold doBasinReadComplete
  rw [if_neg (Nat.not_le.2 hk), if_pos rfl, if_pos hf]

theorem queue_qstateLost (d : Dev) (k : Nat) :
    ((d.qstateLost k).queue k).chain = [] ∧ ((d.qstateLost k).queue k).flooded = false := by
  have hl (d : Dev) : (d.liveMs 0xC22).dp = d.dp := by simp
  unfold Dev.qstateLost
  dsimp only
  rw [queue_dp (hl _), queue_detach, if_pos rfl]
  exact ⟨rfl, rfl⟩

section
variable {d : Dev} {k sg slot : Nat} {e : Ent} (hk : k < 8192) (hr : d.readNext k = some (e, false))
  (hp : placeOf e.segs e.slot e.own.length = some (sg, slot))
include hk hr hp

theorem doBasinReadComplete_data (lasting : Bool) : doBasinReadComplete k 1 (.data lasting) d =
    (((d.basinBad k sg slot (decide (d.spw.stacksDown ≠ 0 ∧ segTier sg = 0) || lasting)).dropEnts k (fun f => decide (f = e))
      .drBasinEcc).trimChain k).settle k := by
  unfold doBasinReadComplete
  rw [if_neg (Nat.not_le.2 hk), if_neg (by simp), hr]
  dsimp only
  rw [hp]
  dsimp only
  have herr : (if d.spw.stacksDown ≠ 0 ∧ segTier sg = 0 then BasinErr.data true else BasinErr.data lasting) =
      .data (decide (d.spw.stacksDown ≠ 0 ∧ segTier sg = 0) || lasting) := by
    split
    next hd => rw [decide_eq_true hd]; rfl
    next hd => rw [decide_eq_false hd]; rfl
  rw [herr]
  dsimp only
  rw [if_neg Bool.noConfusion]

theorem doBasinReadComplete_clean (hs : d.spw.stacksDown = 0) : doBasinReadComplete k 1 .clean d = (Dev.readMany k 1 d).settle k := by
  unfold doBasinReadComplete
  rw [if_neg (Nat.not_le.2 hk), if_neg (by simp), hr]
  dsimp only
  rw [hp]
  dsimp only
  rw [if_neg (fun h => h.1 hs)]

theorem doBasinReadComplete_corrected (hs : d.spw.stacksDown = 0) (ht : segTier sg = 0) : doBasinReadComplete k 1 .corrected d =
    (Dev.readMany k 1 (d.hbmFixed (stackOf (d.basinAddr sg slot)))).settle k := by
  unfold doBasinReadComplete
  rw [if_neg (Nat.not_le.2 hk), if_neg (by simp), hr]
  dsimp only
  rw [hp]
  dsimp only
  rw [if_neg (fun h => h.1 hs)]
  dsimp only
  rw [if_pos ht]

/-- A data error discards the packet and makes its stack's source live. -/
theorem doBasinReadComplete_data_lost (lasting : Bool) (hsg : sg < 2 ^ 21) :
    e ∉ ((doBasinReadComplete k 1 (.data lasting) d).queue k).ents ∧
    ((doBasinReadComplete k 1 (.data lasting) d).src (0xC08 + d.basinAddr sg slot / 4096 % 4)).live = true := by
  rw [doBasinReadComplete_data hk hr hp]
  generalize (decide (d.spw.stacksDown ≠ 0 ∧ segTier sg = 0) || lasting) = l
  obtain ⟨he, hpr⟩ := readNext_queued hr
  have hb : (d.basinBad k sg slot l).dp = d.dp := by simp
  constructor
  · refine not_mem_settle ?_ (partRead_part hpr)
    rw [ents_trimChain]
    exact not_mem_dropEnts _ (by rw [queue_dp hb]; exact he)
  · have h4 : d.basinAddr sg slot / 4096 % 4 < 4 := Nat.mod_lt _ (by decide)
    have hlo : 0xC0 ≤ 0xC08 + d.basinAddr sg slot / 4096 % 4 := by omega
    have hne : 0xC08 + d.basinAddr sg slot / 4096 % 4 ≠ 0xB07 := by omega
    have hfull : 0xC20 ≠ 0xC08 + d.basinAddr sg slot / 4096 % 4 := by omega
    have hbad := src_basinBad (d := d) hsg k slot l
    generalize 0xC08 + d.basinAddr sg slot / 4096 % 4 = src at hlo hne hfull hbad ⊢
    have hdrop := (tended_dropEnts hlo hne (d.basinBad k sg slot l) k (fun f => decide (f = e)) .drBasinEcc).2.2 hbad
    exact (tended_settle hfull _ k).2.2 ((tended_trimChain hfull _ k).2.2 hdrop)

omit hk in
/-- The next cell of a queued packet comes back. -/
theorem readBack_ret {cl : Nat} {d' : Dev} (hn : e.own.length + 1 < d.entCells e) (hret : (d.queue k).returned < 1024)
    (ht : d.takeReturn false e.own.getLast? = some (cl, d')) :
    ∃ f, Dev.readMany k 1 d = f ∧ { e with part := .ret, own := e.own ++ [cl] } ∈ (f.queue k).ents ∧
      f.partRead { e with part := .ret, own := e.own ++ [cl] } = true := by
  have hdp : d'.dp = d.dp := by
    have := Dev.takeReturn_frame d false e.own.getLast? ht
    simp only [ButFcrBpmCtrs] at this
    simp [this]
  have hrow : d.readBack k = some (((d'.bump .spillRdBytes (segTier sg) 256).modQueue k (fun q => { q with
      ents := q.ents.map (fun f => if f = e then { e with part := .ret, own := e.own ++ [cl] } else f) })).trimChain k) := by
    unfold Dev.readBack
    rw [hr]
    dsimp only
    rw [if_neg (by simpa using hret), decide_eq_false (by omega), ht, hp]
    rfl
  refine ⟨_, rfl, ?_⟩
  unfold Dev.readMany
  rw [hrow]
  unfold Dev.readMany
  dsimp only
  refine ⟨?_, ?_⟩
  · rw [ents_trimChain, Dev.queue_modQueue, if_pos rfl, queue_dp ((dp_bump ..).trans hdp)]
    exact List.mem_map.2 ⟨e, (readNext_queued hr).1, if_pos rfl⟩
  · have hpk (q : Queue → Queue) : (((d'.bump .spillRdBytes (segTier sg) 256).modQueue k q).trimChain k).entCells
        { e with part := .ret, own := e.own ++ [cl] } = d.entCells e :=
      entCells_pkts (by rw [pkts_trimChain, pkts_modQueue, dp_bump, hdp]) _
    unfold Dev.partRead
    dsimp only
    rw [hpk]
    simpa using hn

end

/-! ### Segments come back (11 R342, R349) -/

/-- The walker takes the oldest detached segment, and counts the packets that began in it. -/
def Dev.walked (d : Dev) (sg : Nat) (rest : List Nat) : Dev :=
  let mine := d.spw.orphans.filter (fun o => decide (o.2.segs.head? = some sg))
  mine.foldl (fun (d : Dev) o => d.copyDrop partySpill o.2 (destOf o.1) .drBasinEcc (destOf o.1).port)
    { d with spw := { d.spw with detached := rest, orphans := d.spw.orphans.filter (fun o => decide (o.2.segs.head? ≠ some sg)) } }

theorem spw_walked (d : Dev) (sg : Nat) (rest : List Nat) : (d.walked sg rest).spw =
    { d.spw with detached := rest, orphans := d.spw.orphans.filter (fun o => decide (o.2.segs.head? ≠ some sg)) } :=
  foldl_keeps (fun d => d.spw) (fun d (o : Nat × Ent) => spw_copyDrop d partySpill o.2 (destOf o.1) .drBasinEcc (destOf o.1).port) _ _

theorem doSegmentWalkerReturn_next {d : Dev} {sg : Nat} {rest : List Nat} (h : d.spw.detached = sg :: rest) :
    (doSegmentWalkerReturn d).spw.detached = rest ∧ (sg ∈ d.spw.condemned → sg ∈ (doSegmentWalkerReturn d).spw.retired) := by
  have hrow : doSegmentWalkerReturn d = (d.walked sg rest).freeSeg sg := by
    unfold doSegmentWalkerReturn
    rw [h]
    rfl
  obtain ⟨hd, -, hc⟩ := spw_freeSeg (d.walked sg rest) sg
  rw [spw_walked] at hd hc
  rw [hrow]
  exact ⟨hd, hc⟩

theorem doBasinAudit_stray {d : Dev} {sg : Nat} (hs : sg ∈ d.spw.stray) (hr : d.regRuns 1 = true) :
    (doBasinAudit sg d).spw.stray = d.spw.stray.erase sg ∧ (sg ∈ d.spw.condemned → sg ∈ (doBasinAudit sg d).spw.retired) := by
  have hrow : doBasinAudit sg d = ({ d with spw := { d.spw with stray := d.spw.stray.erase sg } } : Dev).freeSeg sg :=
    if_pos (by rw [List.contains_iff_mem.2 hs, hr]; rfl)
  obtain ⟨-, hst, hc⟩ := spw_freeSeg ({ d with spw := { d.spw with stray := d.spw.stray.erase sg } } : Dev) sg
  rw [hrow]
  exact ⟨hst, hc⟩

/-! ### CXL ports (11 R350-R353) -/

theorem tget_of_not_mem {α : Type} (d : α) (k : Nat) : ∀ (t : Tab α), k ∉ t.map Prod.fst → tget t d k = d
  | [], _ => rfl
  | y :: t, h => by
    rw [List.map_cons, List.mem_cons, not_or] at h
    unfold tget
    rw [if_neg (fun he => h.1 he.symm)]
    exact tget_of_not_mem d k t h.2

/-- The queues whose chains have a segment on a CXL port. -/
def Dev.cxlQueues (d : Dev) (p : Nat) : List Nat :=
  (d.dp.queues.map (fun q => q.1)).filter (fun k => (d.queue k).chain.any (fun s => decide (segTier s = 1 + p)))

/-- Those queues lose what is in the basin. -/
def Dev.cxlDropped (d : Dev) (p : Nat) : Dev :=
  (d.cxlQueues p).foldl (fun d k => ((d.dropPart k (fun _ => true) .drBasinLinkLost).linkStaged k).detach k) d

theorem chain_cxlDropped (d : Dev) (p k : Nat) : ∀ sg ∈ ((d.cxlDropped p).queue k).chain, segTier sg ≠ 1 + p := by
  have hstep (d : Dev) (j : Nat) : ((((d.dropPart j (fun _ => true) .drBasinLinkLost).linkStaged j).detach j).queue k).chain =
      if j = k then [] else (d.queue k).chain := by
    rw [queue_detach]
    split
    · rfl
    · rw [chain_linkStaged, chain_dropPart]
  by_cases hk : k ∈ d.cxlQueues p
  · have h : ((d.cxlDropped p).queue k).chain = [] := by
      refine foldl_reaches (I := fun _ : Dev => True) (P := fun d : Dev => (d.queue k).chain = []) (fun _ _ _ => trivial)
        (fun d _ => ?_) (fun d j h => ?_) hk trivial
      · rw [hstep, if_pos rfl]
      · rw [hstep, h]
        split <;> rfl
    rw [h]
    exact fun _ h => absurd h (List.not_mem_nil)
  · have h : ∀ (l : List Nat) (d : Dev), k ∉ l → ((l.foldl (fun d k => ((d.dropPart k (fun _ => true) .drBasinLinkLost).linkStaged k).detach k) d).queue
        k).chain = (d.queue k).chain := by
      intro l
      induction l with
      | nil => exact fun _ _ => rfl
      | cons j l ih =>
        intro d hl
        rw [List.mem_cons, not_or] at hl
        rw [List.foldl_cons, ih _ hl.2, hstep, if_neg (fun he => hl.1 he.symm)]
    unfold Dev.cxlDropped
    rw [h _ _ hk]
    intro sg hsg hp
    by_cases hq : k ∈ d.dp.queues.map (fun q => q.1)
    · exact hk (List.mem_filter.2 ⟨hq, List.any_eq_true.2 ⟨sg, hsg, decide_eq_true hp⟩⟩)
    · rw [Dev.queue, tget_of_not_mem {} k d.dp.queues hq] at hsg
      cases hsg

/-- The port is out of service, and its source is live. -/
def Dev.cxlOut (d : Dev) (p : Nat) : Dev :=
  (((d.modCxl p (fun x => { x with inService := false, lost := true })).setLive (0xC10 + p)).clearLive (0xC18 + p)).refreshFull

theorem doCxlPortLoss_lost {d : Dev} {p cause : Nat} (hp : p < 4) (hc : cause < 3) (hs : (d.cxl p).inService = true) :
    ∃ data, doCxlPortLoss p cause d = ((d.cxlDropped p).cxlOut p).record Ev.cxlLost .shared (some (0xC10 + p)) data := by
  unfold doCxlPortLoss
  rw [if_neg (by rw [hs, not_or, not_or]; exact ⟨Nat.not_le.2 hp, Nat.not_le.2 hc, Bool.noConfusion⟩)]
  exact ⟨_, rfl⟩

theorem cxl_spw {d d' : Dev} (h : d'.spw = d.spw) (p : Nat) : d'.cxl p = d.cxl p := by unfold Dev.cxl; rw [h]

theorem cxl_refreshFull (d : Dev) (p : Nat) : d.refreshFull.cxl p = d.cxl p := by
  obtain ⟨f, hf⟩ := spw_refreshFull d
  unfold Dev.cxl
  rw [hf]

theorem cxl_dropPart (d : Dev) (k : Nat) (sel : Ent → Bool) (c : Ctr) (p : Nat) : (d.dropPart k sel c).cxl p = d.cxl p :=
  cxl_spw (by simp) p

theorem src_live_off (d : Dev) (s : Nat) : ((d.live s false).src s).live = false := by
  show ((d.clearLive s).src s).live = false
  unfold Dev.clearLive
  rw [Dev.src_modSrc, if_pos rfl]

theorem src_clearLive_ne {s k : Nat} (h : s ≠ k) (d : Dev) : (d.clearLive s).src k = d.src k := by
  unfold Dev.clearLive
  rw [Dev.src_modSrc, if_neg h]

theorem cxlOut_parts {p : Nat} (hp : p < 4) (d : Dev) : ((d.cxlOut p).cxl p).inService = false ∧ ((d.cxlOut p).cxl p).lost = true ∧
    ((d.cxlOut p).src (0xC10 + p)).live = true ∧ (d.cxlOut p).dp = d.dp := by
  have hsev : (defaultSeverity (0xC10 + p)).isSome = true := by interval_cases p <;> decide
  have hs : (((d.modCxl p (fun x => { x with inService := false, lost := true })).setLive (0xC10 + p)).clearLive (0xC18 + p)).spw =
      (d.modCxl p (fun x => { x with inService := false, lost := true })).spw := by simp
  unfold Dev.cxlOut
  rw [cxl_refreshFull, cxl_spw hs, Dev.cxl_modCxl, if_pos rfl, src_refreshFull (by omega), src_clearLive_ne (by omega), dp_refreshFull]
  exact ⟨rfl, rfl, setLive_src_self hsev _ 0, by simp [Dev.modCxl]⟩

theorem cxlAbsent_parts (d : Dev) : d.cxlAbsent.spw = d.spw := by simp

/-- What FS_SPW_CXL_ABSENT shows of a port. -/
theorem src_cxlAbsent {p : Nat} (hp : p < 4) {d : Dev} (hf : (d.cxl p).failed = true) :
    (d.cxlAbsent.src (0xC1C + p)).live = d.spw.cxlEn.testBit p := by
  have hsev : (defaultSeverity (0xC1C + p)).isSome = true := by interval_cases p <;> decide
  have hspw (d : Dev) (i : Nat) (b : Bool) : (d.live (0xC1C + i) b).spw = d.spw := by simp
  unfold Dev.cxlAbsent
  refine (foldl_reaches (I := fun e : Dev => e.spw = d.spw)
    (P := fun e : Dev => e.spw = d.spw ∧ (e.src (0xC1C + p)).live = d.spw.cxlEn.testBit p)
    (fun e i h => (hspw ..).trans h) (fun e h => ⟨(hspw ..).trans h, ?_⟩) (fun e i h => ⟨(hspw ..).trans h.1, ?_⟩)
    (List.mem_range.2 hp) rfl).2
  · rw [cxl_spw h, hf, h, Bool.and_true]
    cases d.spw.cxlEn.testBit p with
    | true => exact src_live_self hsev e 0
    | false => exact src_live_off e _
  · by_cases hi : i = p
    · subst hi
      rw [cxl_spw h.1, hf, h.1, Bool.and_true]
      cases d.spw.cxlEn.testBit i with
      | true => exact src_live_self hsev e 0
      | false => exact src_live_off e _
    · rw [src_live_ne (by omega)]
      exact h.2

theorem src_cxlAbsent_ne {k : Nat} (h : ∀ p, p < 4 → 0xC1C + p ≠ k) (d : Dev) : d.cxlAbsent.src k = d.src k := by
  have hl : ∀ (l : List Nat) (d : Dev), (∀ p ∈ l, 0xC1C + p ≠ k) →
      (l.foldl (fun d i => d.live (0xC1C + i) (d.spw.cxlEn.testBit i && (d.cxl i).failed)) d).src k = d.src k := by
    intro l
    induction l with
    | nil => exact fun _ _ => rfl
    | cons i l ih =>
      intro d hl
      rw [List.foldl_cons, ih _ (fun p hp => hl p (List.mem_cons_of_mem _ hp)), src_live_ne (hl i (List.mem_cons_self ..))]
  exact hl _ d fun p hp => h p (List.mem_range.1 hp)

section
variable {d : Dev} {p cap : Nat} (hp : p < 4) (he : (d.cxl p).enumerating = true) (hs : (d.cxl p).step ≠ 0)
include hp he hs

theorem doCxlEnumerationDone_served {w r : Nat} (hw : w = 16 ∨ w = 8) (hr : r = 64 ∨ r = 32) :
    (doCxlEnumerationDone p 0 cap w r d).cxl p = { d.cxl p with
      enumerating := false, failed := false, step := 0, inService := true, lost := false, capMib := min cap 524288 / 256 * 256,
      width := w, rate := r } ∧
    ((doCxlEnumerationDone p 0 cap w r d).src (0xC18 + p)).live = decide (w ≠ 16 ∨ r ≠ 64) := by
  have hsev : (defaultSeverity (0xC18 + p)).isSome = true := by interval_cases p <;> decide
  have hrec (d : Dev) (data : BitVec 160) (b : Bool) (k : Nat) :
      (if b then d.record Ev.cxlRestored .shared none data else d).cxl p = d.cxl p ∧
      (if b then d.record Ev.cxlRestored .shared none data else d).src k = d.src k := by
    cases b with
    | true => exact ⟨cxl_spw (by simp) p, src_fcr (d := d) (by simp) k⟩
    | false => exact ⟨rfl, rfl⟩
  have hrec' (d : Dev) (data : BitVec 160) (k : Nat) : (d.record Ev.cxlEnum .shared none data).cxl p = d.cxl p ∧
      (d.record Ev.cxlEnum .shared none data).src k = d.src k := ⟨cxl_spw (by simp) p, src_fcr (d := d) (by simp) k⟩
  unfold doCxlEnumerationDone
  rw [if_neg (by simp [he, hs])]
  extract_lets okLink failed lost d1 c d2 d3 d4 d5
  have hok : okLink = true := decide_eq_true ⟨hw, hr⟩
  have hf : failed = 0 := by simp only [failed, hok]; rfl
  clear_value okLink failed
  subst hok hf
  rw [if_neg (fun h => h rfl), (hrec _ _ _ 0).1, (hrec _ _ _ (0xC18 + p)).2]
  have h3 : d3.cxl p = d2.cxl p := cxl_spw (by simp [d3]) p
  have h4 : d4.spw = d3.spw := by simp [d4]
  refine ⟨?_, ?_⟩
  · rw [show d5.cxl p = d4.refreshFull.cxl p from (hrec' _ _ 0).1, cxl_refreshFull, cxl_spw h4, h3, Dev.cxl_modCxl, if_pos rfl]
  · rw [show d5.src (0xC18 + p) = d4.refreshFull.src (0xC18 + p) from (hrec' _ _ _).2, src_refreshFull (by omega)]
    simp only [d4]
    cases hd : decide (w ≠ 16 ∨ r ≠ 64) with
    | true => exact src_live_self hsev d3 0
    | false => exact src_live_off d3 _

theorem doCxlEnumerationDone_fails {f w r : Nat} (hf : 1 ≤ f ∧ f ≤ 6 ∨ f = 0 ∧ ¬((w = 16 ∨ w = 8) ∧ (r = 64 ∨ r = 32))) :
    ((doCxlEnumerationDone p f cap w r d).cxl p).enumerating = false ∧ ((doCxlEnumerationDone p f cap w r d).cxl p).failed = true ∧
    ((doCxlEnumerationDone p f cap w r d).cxl p).inService = (d.cxl p).inService ∧
    ((doCxlEnumerationDone p f cap w r d).src (0xC1C + p)).live = d.spw.cxlEn.testBit p := by
  unfold doCxlEnumerationDone
  rw [if_neg (by simp [he, hs]; omega)]
  extract_lets okLink failed lost d1 c d2 d3 d4 d5
  have hne : failed ≠ 0 := by
    simp only [failed, okLink]
    split
    · decide
    · next h =>
      obtain hf | ⟨h0, hno⟩ := hf
      · omega
      · exact absurd ⟨h0, by simp [decide_eq_false hno]⟩ h
  rw [if_pos hne]
  have hrec (e : Dev) (data : BitVec 160) : (e.record Ev.cxlEnumFailed .shared (some (0xC1C + p)) data).cxl p = e.cxl p ∧
      (e.record Ev.cxlEnumFailed .shared (some (0xC1C + p)) data).src (0xC1C + p) = e.src (0xC1C + p) :=
    ⟨cxl_spw (by simp) p, src_fcr (d := e) (by simp) _⟩
  have hcxl : (d.modCxl p (fun x => { x with enumerating := false, step := 0, failed := true })).cxl p =
      { d.cxl p with enumerating := false, step := 0, failed := true } := by rw [Dev.cxl_modCxl, if_pos rfl]
  have h1 : d1.cxl p = { d.cxl p with enumerating := false, step := 0, failed := true } := (cxl_spw (cxlAbsent_parts _) p).trans hcxl
  rw [(hrec ..).1, (hrec ..).2, h1]
  exact ⟨rfl, rfl, rfl, src_cxlAbsent hp (by rw [hcxl])⟩

end

/-- A stack of HBM fails: what its regions held is lost. -/
theorem doHbmStackFailure_lost {k : Nat} (hk : k < 4) (d : Dev) : ∃ e : Dev, doHbmStackFailure k d = e.setLive (0xC00 + k) ∧
    e.spw.stacksDown = d.spw.stacksDown ||| 2 ^ k ∧ e.esc.archive = [] ∧ (∀ i x, (i, some x) ∈ e.mrp.flows → x.cached = true) := by
  refine ⟨_, if_neg (Nat.not_le.2 hk), rfl, rfl, fun i x h => ?_⟩
  exact (List.mem_filter.1 h).2

/-- Settles O29: each row by its equation, with the rules for chains, entries, long-reach queues and CXL ports above. -/
theorem spillwayMovesPackets : Obligations.SpillwayMovesPackets := by
  unfold Obligations.SpillwayMovesPackets
  intro s
  refine ⟨?_, ?_, ?_, ?_, ?_, ?_, ?_, ?_, ?_, ?_, ?_, ?_, ?_⟩
  · intro b hl
    refine ⟨fun ht => ?_, fun p i k pre post e x ht hk hq hpre he hx => ?_⟩
    · show Host.Outcome.next { s with dev := doBasinWriteComplete b s.dev } = _
      unfold doBasinWriteComplete
      rw [hl]
      dsimp only
      rw [ht]
    · have hrow {segs : List Nat} {d : Dev} (hw : s.dev.writeCells b k x.need [] = some (segs, d)) :=
        doBasinWriteComplete_writes hl ht hk hq hpre he hx hw
      obtain ⟨_, y, x', ⟨segs, d⟩, hh, hw⟩ := mayWrite_cases (mayWrite_of_spillTurn ht)
      have hhead := stagedHead_first (by rw [hk]; exact stagedHead_flooded hh) hq hpre he hx
      rw [hk, hh] at hhead
      cases hhead
      rw [← hk] at hw
      obtain ⟨_, hqueue, hp, hr⟩ := hrow hw
      refine ⟨{ s with dev := doBasinWriteComplete b s.dev }, rfl, ?_⟩
      dsimp only
      refine ⟨hp, hr, fun sg hlast hneed hfill => ?_, fun segs' d' hw' hwant => ?_⟩
      · obtain ⟨f, hf, hch, hfl⟩ := writeCells_last (b := b) hlast hfill (.inl rfl)
        rw [if_neg (by omega)] at hf
        obtain ⟨hs, hqueue, -⟩ := hrow hf
        have hwant : (s.dev.queue k).wantsSeg = false := by
          unfold Queue.wantsSeg
          rw [hlast]
          exact decide_eq_false (by omega)
        rw [hwant] at hqueue
        rw [hqueue]
        exact ⟨hch, hfl, hs, rfl⟩
      · obtain ⟨hs, hqueue, -⟩ := hrow hw'
        rw [hwant] at hqueue
        rw [hqueue]
        exact ⟨rfl, rfl, hs, rfl⟩
  · intro a c i pid x b hi hc hl hr
    obtain ⟨hrr, hlrq⟩ := doBasinWriteComplete_lrq (b := b) hi hc hl hr
    refine ⟨{ s with dev := doBasinWriteComplete b s.dev }, rfl, ?_⟩
    dsimp only
    exact ⟨hrr, hlrq⟩
  · intro k n err h he
    show Host.Outcome.next { s with dev := doBasinReadComplete k n err s.dev } = _
    rw [doBasinReadComplete_idle n h he]
  · intro k n hk hf
    refine ⟨{ s with dev := doBasinReadComplete k n .state s.dev }, rfl, ?_⟩
    dsimp only
    rw [doBasinReadComplete_state n hk hf]
    exact queue_qstateLost s.dev k
  · intro k e sg slot hk hr hp
    refine ⟨fun cl d hn hret hst => ⟨fun ht => ?_, fun htier ht => ?_⟩, fun lasting hsg => ?_⟩
    · obtain ⟨f, hf, he, hpr⟩ := readBack_ret hr hp hn hret ht
      refine ⟨{ s with dev := doBasinReadComplete k 1 .clean s.dev }, rfl, ?_⟩
      dsimp only
      rw [doBasinReadComplete_clean hk hr hp hst, hf, settle_of_partRead he hpr]
      exact he
    · have hdp : (s.dev.hbmFixed (stackOf (s.dev.basinAddr sg slot))).dp = s.dev.dp := by simp
      obtain ⟨f, hf, he, hpr⟩ := readBack_ret (by rw [readNext_dp hdp]; exact hr) hp (by rw [entCells_pkts (congrArg Dp.pkts hdp)]; exact hn)
        (by rw [queue_dp hdp]; exact hret) ht
      refine ⟨{ s with dev := doBasinReadComplete k 1 .corrected s.dev }, rfl, ?_⟩
      dsimp only
      rw [doBasinReadComplete_corrected hk hr hp hst htier, hf, settle_of_partRead he hpr]
      exact he
    · exact ⟨{ s with dev := doBasinReadComplete k 1 (.data lasting) s.dev }, rfl, doBasinReadComplete_data_lost hk hr hp lasting hsg⟩
  · intro h
    show Host.Outcome.next { s with dev := doSegmentWalkerReturn s.dev } = _
    unfold doSegmentWalkerReturn
    rw [h]
  · intro sg rest h
    exact ⟨{ s with dev := doSegmentWalkerReturn s.dev }, rfl, doSegmentWalkerReturn_next h⟩
  · intro p c pid rest x err hf hx ht
    exact ⟨{ s with dev := doLrqReturn p c err s.dev }, rfl, doLrqReturn_lrq hf hx ht⟩
  · intro p cause hp hc hs
    obtain ⟨data, hrow⟩ := doCxlPortLoss_lost hp hc hs
    have hspw (d : Dev) : (d.record Ev.cxlLost .shared (some (0xC10 + p)) data).spw = d.spw := by simp
    have hfcr (d : Dev) : (d.record Ev.cxlLost .shared (some (0xC10 + p)) data).fcr = d.fcr := by simp
    have hdp (d : Dev) : (d.record Ev.cxlLost .shared (some (0xC10 + p)) data).dp = d.dp := by simp
    obtain ⟨hin, hlost, hsrc, hdp'⟩ := cxlOut_parts hp (s.dev.cxlDropped p)
    refine ⟨{ s with dev := doCxlPortLoss p cause s.dev }, rfl, ?_⟩
    dsimp only
    rw [hrow, cxl_spw (hspw _), src_fcr (hfcr _)]
    refine ⟨hin, hlost, hsrc, fun k => ?_⟩
    rw [queue_dp (hdp _), queue_dp hdp']
    exact chain_cxlDropped s.dev p k
  · intro p he hst hr
    refine ⟨{ s with dev := doCxlEnumeration p s.dev }, rfl, ?_⟩
    have hrow : doCxlEnumeration p s.dev = s.dev.modCxl p (fun x => { x with step := 1, perst := false }) :=
      if_pos (by rw [he, hst, hr]; rfl)
    dsimp only
    rw [hrow, Dev.cxl_modCxl, if_pos rfl]
  · intro p cap hp he hst
    refine ⟨fun w r hw hr => ?_, fun f w r hf => ?_⟩
    · exact ⟨{ s with dev := doCxlEnumerationDone p 0 cap w r s.dev }, rfl, doCxlEnumerationDone_served hp he hst hw hr⟩
    · exact ⟨{ s with dev := doCxlEnumerationDone p f cap w r s.dev }, rfl, doCxlEnumerationDone_fails hp he hst hf⟩
  · intro sg hs hr
    exact ⟨{ s with dev := doBasinAudit sg s.dev }, rfl, doBasinAudit_stray hs hr⟩
  · intro k hk
    obtain ⟨e, he, hdown, harch, hflows⟩ := doHbmStackFailure_lost hk s.dev
    have hsev : (defaultSeverity (0xC00 + k)).isSome = true := by interval_cases k <;> decide
    have hkeep (d : Dev) (n : Nat) : (d.setLive n).spw = d.spw ∧ (d.setLive n).esc = d.esc ∧ (d.setLive n).mrp = d.mrp := by simp
    obtain ⟨hspw, hesc, hmrp⟩ := hkeep e (0xC00 + k)
    refine ⟨{ s with dev := doHbmStackFailure k s.dev }, rfl, ?_⟩
    dsimp only
    rw [he, hspw, hesc, hmrp, hdown]
    refine ⟨?_, harch, hflows, setLive_src_self hsev e 0⟩
    simp [Nat.testBit_or]

end Sys2Proof.Machine
end

section
/-! PROOFS. OP_SPILL_SET (11 R339, R346, R354, R355). -/
namespace Sys2Proof.Machine

theorem queue_ok (d : Dev) (c : CmdRef) (r0 r1 detail k : Nat) : (d.ok c r0 r1 detail).queue k = d.queue k := queue_dp (by simp) k
theorem queue_fail (d : Dev) (c : CmdRef) (st detail k : Nat) : (d.fail c st detail).queue k = d.queue k := queue_dp (by simp) k
theorem lrq_ok (d : Dev) (c : CmdRef) (r0 r1 detail a k : Nat) : (d.ok c r0 r1 detail).lrq a k = d.lrq a k := lrq_spw (by simp) a k
theorem lrq_fail (d : Dev) (c : CmdRef) (st detail a k : Nat) : (d.fail c st detail).lrq a k = d.lrq a k := lrq_spw (by simp) a k

/-! ### What READ_QUEUE counts -/

/-- The tiers in which a chain has segments, one bit for each. -/
theorem testBit_tiers (f : Nat → Bool) {i : Nat} (hi : i < 5) :
    ((List.range 5).foldl (fun n t => if f t then n + 2 ^ t else n) 0).testBit i = f i := by
  have h : ∀ a0 a1 a2 a3 a4 : Bool, ∀ j : Fin 5,
      (([(0, a0), (1, a1), (2, a2), (3, a3), (4, a4)] : List (Nat × Bool)).foldl (fun n (t : Nat × Bool) => if t.2 then n + 2 ^ t.1 else n) 0).testBit j =
        [a0, a1, a2, a3, a4].get j := by decide
  have hl := h (f 0) (f 1) (f 2) (f 3) (f 4) ⟨i, hi⟩
  refine Eq.trans hl ?_
  interval_cases i <;> rfl

theorem staging_none {d : Dev} : ∀ {l : List Ent} (n : Nat), (∀ e ∈ l, e.part ≠ .staging) →
    l.foldl (fun n e => if e.part = .staging then n + d.entCells e else n) n = n
  | [], _, _ => rfl
  | e :: l, n, h => by
    rw [List.foldl_cons, if_neg (h e (List.mem_cons_self ..))]
    exact staging_none n fun f hf => h f (List.mem_cons_of_mem _ hf)

/-- LONG_REACH of a class of a port. -/
theorem doOpSpillSetLongReach_port {d : Dev} {c : CmdRef} {x : Cmd} (io : Io) (h : d.isRunning c x)
    (hop : isOpAct 0x62 (18, 0, 2) 1 x = true) (hz : x.fld 16 10 3 = 0) (hp : d.isPort (x.fld 16 0 10) = true) :
    doOpSpillSetLongReach c io d =
      if !(d.lrq (x.fld 16 0 10) (x.fld 19 0 3)).frames.isEmpty || (d.acct (x.fld 16 0 10)).closed.testBit (x.fld 19 0 3) then
        d.fail c stWrongMode 0x100
      else if 0 < x.fld 28 0 16 ∧ (d.acct (x.fld 16 0 10)).hr.getD (x.fld 19 0 3) 0 < 2048 then d.badOp c 28
      else if d.spw.map.longReach * 1024 < d.lrTotal (x.fld 16 0 10) (x.fld 19 0 3) (x.fld 28 0 16) then d.fail c stNoRoom 0x300
      else if 0 < x.fld 28 0 16 ∧ 6400 < d.lrRate (x.fld 16 0 10) then d.fail c stNoRoom 0x400
      else (d.modLrq (x.fld 16 0 10) (x.fld 19 0 3) (fun y => { y with mib := x.fld 28 0 16 })).ok c :=
  (step1_run h hop).trans ((if_neg (not_not.2 hz)).trans (if_neg (by rw [hp]; exact Bool.noConfusion)))

/-- Settles O30: each action by its branches. -/
theorem spillCommandsComplete : Obligations.SpillCommandsComplete := by
  unfold Obligations.SpillCommandsComplete
  intro s c io x h
  refine ⟨?_, ?_, ?_⟩
  · rintro k rfl
    refine ⟨fun hop => ?_, fun hop => ?_⟩
    · refine ⟨{ s with dev := doOpSpillSetQueue c io s.dev }, rfl, fun hp => ?_, fun hp h0 h1 => ?_, fun hp hth => ?_⟩
      · dsimp only
        rw [show doOpSpillSetQueue c io s.dev = _ from (step1_run h hop).trans (if_pos (by rw [hp]; rfl)), queue_fail]
        exact ⟨fail_ended h, rfl⟩
      · dsimp only
        rw [show doOpSpillSetQueue c io s.dev = _ from
          (step1_run h hop).trans ((if_neg (by rw [hp]; exact Bool.noConfusion)).trans (if_pos ⟨h0, h1⟩)), Dev.badOp, queue_fail]
        exact ⟨badOp_ended h, rfl⟩
      · dsimp only
        rw [show doOpSpillSetQueue c io s.dev = _ from
          (step1_run h hop).trans ((if_neg (by rw [hp]; exact Bool.noConfusion)).trans (if_neg (by omega))), queue_ok,
          Dev.queue_modQueue, if_pos rfl]
        exact ⟨ok_ended (isRunning_congr (d := s.dev) rfl h), rfl⟩
    · refine ⟨{ s with dev := doOpSpillSetReadQueue c io s.dev }, rfl, ?_⟩
      dsimp only
      cases hp : s.dev.isPort (x.fld 16 0 13 / 16) with
      | false =>
        rw [show doOpSpillSetReadQueue c io s.dev = _ from (step1_run h hop).trans (if_pos (by rw [hp]; rfl)), queue_fail]
        exact ⟨rfl, fun _ => fail_ended h, nofun⟩
      | true =>
        rw [show doOpSpillSetReadQueue c io s.dev = _ from (step1_run h hop).trans (if_neg (by rw [hp]; exact Bool.noConfusion)), queue_ok]
        exact ⟨rfl, nofun, fun _ => ⟨_, _, ok_ended h, fun i hi => testBit_tiers
          (fun i => (s.dev.queue (x.fld 16 0 13)).chain.any (fun sg => decide (segTier sg = i))) hi, staging_none 0⟩⟩
  · rintro a k mib rfl rfl rfl hz hp
    have hz' : ¬ x.fld 16 10 3 ≠ 0 := not_not.2 hz
    have hp' : ¬ (!s.dev.isPort (x.fld 16 0 10)) = true := by rw [hp]; exact Bool.noConfusion
    refine ⟨fun hop => ?_, fun hop => ?_⟩
    · have hrow := doOpSpillSetLongReach_port io h hop hz hp
      refine ⟨{ s with dev := doOpSpillSetLongReach c io s.dev }, rfl, fun hbar => ?_, fun hf hc => ⟨fun h0 hr => ?_, fun hr =>
        ⟨fun hroom => ?_, fun hroom h0 hrate => ?_, fun hroom hrate => ?_⟩⟩⟩
      · dsimp only
        rw [hrow, if_pos (by simpa using hbar), lrq_fail]
        exact ⟨fail_ended h, rfl⟩
      all_goals have hopen : ¬ (!(s.dev.lrq (x.fld 16 0 10) (x.fld 19 0 3)).frames.isEmpty ||
          (s.dev.acct (x.fld 16 0 10)).closed.testBit (x.fld 19 0 3)) = true := by simp [hf, hc]
      · dsimp only
        rw [hrow, if_neg hopen, if_pos ⟨h0, hr⟩, Dev.badOp, lrq_fail]
        exact ⟨badOp_ended h, rfl⟩
      all_goals have hhr : ¬ (0 < x.fld 28 0 16 ∧ (s.dev.acct (x.fld 16 0 10)).hr.getD (x.fld 19 0 3) 0 < 2048) := by omega
      · dsimp only
        rw [hrow, if_neg hopen, if_neg hhr, if_pos hroom, lrq_fail]
        exact ⟨fail_ended h, rfl⟩
      · dsimp only
        rw [hrow, if_neg hopen, if_neg hhr, if_neg (Nat.not_lt.2 hroom), if_pos ⟨h0, hrate⟩, lrq_fail]
        exact ⟨fail_ended h, rfl⟩
      · dsimp only
        rw [hrow, if_neg hopen, if_neg hhr, if_neg (Nat.not_lt.2 hroom), if_neg (by omega), lrq_ok, lrq_modLrq]
        exact ⟨ok_ended (isRunning_congr (d := s.dev) rfl h), rfl⟩
    · refine ⟨{ s with dev := doOpSpillSetReadLr c io s.dev }, rfl, ?_⟩
      dsimp only
      rw [show doOpSpillSetReadLr c io s.dev = _ from (step1_run h hop).trans ((if_neg hz').trans (if_neg hp')), lrq_ok]
      exact ⟨rfl, ok_ended h⟩
  · rintro a rfl
    refine ⟨fun hop => ?_, fun hop => ?_⟩
    · refine ⟨{ s with dev := doOpSpillSetLongReach c io s.dev }, rfl, fun hz => ?_, fun hz hp => ?_⟩
      · dsimp only
        rw [show doOpSpillSetLongReach c io s.dev = _ from (step1_run h hop).trans (if_pos hz)]
        exact badOp_ended h
      · dsimp only
        rw [show doOpSpillSetLongReach c io s.dev = _ from
          (step1_run h hop).trans ((if_neg (not_not.2 hz)).trans (if_pos (by rw [hp]; rfl)))]
        exact fail_ended h
    · refine ⟨{ s with dev := doOpSpillSetReadLr c io s.dev }, rfl, fun hz => ?_, fun hz hp => ?_⟩
      · dsimp only
        rw [show doOpSpillSetReadLr c io s.dev = _ from (step1_run h hop).trans (if_pos hz)]
        exact badOp_ended h
      · dsimp only
        rw [show doOpSpillSetReadLr c io s.dev = _ from
          (step1_run h hop).trans ((if_neg (not_not.2 hz)).trans (if_pos (by rw [hp]; rfl)))]
        exact fail_ended h

end Sys2Proof.Machine
end

section
/-! PROOFS. The Tide Gauge (12 R383, R384, R385, R388, R392). -/
namespace Sys2Proof.Machine

/-! ### What a gauge's rows read -/

theorem gauge_esc {d d' : Dev} (h : d'.esc = d.esc) (p : Nat) : d'.gauge p = d.gauge p := by unfold Dev.gauge; rw [h]

theorem esc_reach (d : Dev) (t : Nat) : (d.reach t).esc = d.esc := by simp
theorem esc_gaugePut (d : Dev) (e : Nat) (r : BitVec 1536) : (d.gaugePut e r).esc = d.esc := by simp
theorem spw_gaugePut (d : Dev) (e : Nat) (r : BitVec 1536) : (d.gaugePut e r).spw = d.spw := by simp

theorem queueCells_reach (d : Dev) (t k : Nat) : (d.reach t).queueCells k = d.queueCells k := by
  have hdp : (d.reach t).dp = d.dp := by simp
  have hdie : (d.reach t).dieCells = d.dieCells := by
    funext e
    unfold Dev.dieCells Dev.pkt?
    rw [hdp]
  have hent : (d.reach t).entCells = d.entCells := funext fun e => entCells_pkts (congrArg Dp.pkts hdp) e
  unfold Dev.queueCells Dev.waitingCells
  rw [hdie, hent, queue_dp hdp, hdp]

/-- Entries changed one after the other. -/
theorem tget_tmods {α : Type} [DecidableEq α] (z : α) (f : Nat → α → α) (q : Nat) : ∀ (l : List Nat) (t : Tab α), l.Nodup →
    tget (l.foldl (fun t k => tmod t z k (f k)) t) z q = if q ∈ l then f q (tget t z q) else tget t z q
  | [], _, _ => rfl
  | k :: l, t, h => by
    obtain ⟨hk, hl⟩ := List.nodup_cons.1 h
    rw [List.foldl_cons, tget_tmods z f q l _ hl, tget_tmod]
    by_cases hq : k = q
    · subst hq
      rw [if_neg hk, if_pos rfl, if_pos (List.mem_cons_self ..)]
    · have hq' : q ≠ k := Ne.symm hq
      rw [if_neg hq]
      simp [hq']

/-! ### Samples (12 R383, R384) -/

/-- What a sample leaves of a port's gauge. -/
def Gauge.sampled (g : Gauge) (depth delay : Nat → Nat) : Gauge :=
  { g with taken := g.taken + 1, hists := (setBits g.enable 20).foldl (fun t q => tmod t {} q (fun h => h.take (depth q) (delay q))) g.hists }

theorem hist_sampled (g : Gauge) (depth delay : Nat → Nat) {q : Nat} (hq : q < 20) (he : g.enable.testBit q = true) :
    tget (g.sampled depth delay).hists {} q = (tget g.hists {} q).take (depth q) (delay q) :=
  (tget_tmods ({} : Hist) (fun q h => h.take (depth q) (delay q)) q (setBits g.enable 20) g.hists (nodup_setBits ..)).trans
    (if_pos (mem_setBits.2 ⟨hq, he⟩))

theorem doGaugeSample_port {d : Dev} {p : Nat} (hp : d.isPort p = true) (he : (d.gauge p).enable ≠ 0) : ∃ delay,
    (doGaugeSample p d).gauge p = (d.gauge p).sampled (fun q => d.queueCells (portKey p q)) delay ∧
    (d.gauge p).due ((d.gauge p).taken + 1) ≤ (doGaugeSample p d).bal.tick := by
  have hrow : doGaugeSample p d = (d.reach ((d.gauge p).due ((d.gauge p).taken + 1))).modGauge p (fun g => g.sampled
      (fun q => (d.reach ((d.gauge p).due ((d.gauge p).taken + 1))).queueCells (portKey p q))
      (fun q => (d.reach ((d.gauge p).due ((d.gauge p).taken + 1))).headDelay (portKey p q))) := if_neg (by simp [hp, he])
  rw [hrow]
  generalize hn : (d.gauge p).due ((d.gauge p).taken + 1) = n
  refine ⟨fun q => (d.reach n).headDelay (portKey p q), ?_, tick_reach d n⟩
  rw [Dev.gauge_modGauge, if_pos rfl, gauge_esc (esc_reach d n)]
  simp only [queueCells_reach]

/-! ### Intervals (12 R385, R388) -/

theorem archivePut_form (d : Dev) (polder : Nat) (r : BitVec 1536) : ∃ a,
    d.archivePut polder r = { d with esc := { d.esc with archive := a, archSeq := d.esc.archSeq + 1 } } := ⟨_, rfl⟩

/-- A record goes to the archive. -/
def Dev.gaugeArchived (d : Dev) (p : Nat) (r : BitVec 1536) : Dev :=
  if (d.gauge p).archive && decide (0 < d.archCap) then d.archivePut ((d.lanePolder p).getD 0) r else d

/-- A record goes to the ring of its port's polder. -/
def Dev.gaugeRinged (d : Dev) (pol : Option Nat) (ring : Bool) (r : BitVec 1536) : Dev :=
  match pol with
  | some p => if ring then d.gaugePut (d.polder p).owner r else d
  | none => d

theorem gaugeEmit_form (d : Dev) (p ns : Nat) (disc : Bool) (q : Nat) : ∃ r, d.gaugeEmit p ns disc q =
    ((d.gaugeArchived p r).gaugeRinged (d.lanePolder p) (d.gauge p).ring r).modGauge p
      (fun g => { g with hists := tset g.hists {} q { partial_ := false } }) := ⟨_, rfl⟩

theorem gaugeRinged_parts (d : Dev) (pol : Option Nat) (ring : Bool) (r : BitVec 1536) :
    (d.gaugeRinged pol ring r).esc = d.esc ∧ (d.gaugeRinged pol ring r).spw = d.spw := by
  unfold Dev.gaugeRinged
  cases pol with
  | none => exact ⟨rfl, rfl⟩
  | some o =>
    dsimp only
    cases ring with
    | false => exact ⟨rfl, rfl⟩
    | true => exact ⟨esc_gaugePut .., spw_gaugePut ..⟩

theorem gaugeArchived_parts (d : Dev) (p : Nat) (r : BitVec 1536) :
    (d.gaugeArchived p r).gauge p = d.gauge p ∧ (d.gaugeArchived p r).spw = d.spw ∧
    ((d.gauge p).archive = true → 0 < d.archCap → (d.gaugeArchived p r).esc.archSeq = d.esc.archSeq + 1) ∧
    ((d.gauge p).archive = false → (d.gaugeArchived p r).esc.archive = d.esc.archive) := by
  obtain ⟨a, ha⟩ := archivePut_form d ((d.lanePolder p).getD 0) r
  unfold Dev.gaugeArchived
  rw [ha]
  cases hb : (d.gauge p).archive with
  | false => exact ⟨rfl, rfl, nofun, fun _ => rfl⟩
  | true =>
    refine ⟨?_, ?_, fun _ hc => ?_, nofun⟩
    · split <;> rfl
    · split <;> rfl
    · rw [decide_eq_true hc]
      rfl

/-- What the record of one queue leaves of the gauges and of the archive. -/
theorem gaugeEmit_parts (d : Dev) (p ns : Nat) (disc : Bool) (q : Nat) :
    (d.gaugeEmit p ns disc q).gauge p = { d.gauge p with hists := tset (d.gauge p).hists {} q { partial_ := false } } ∧
    (d.gaugeEmit p ns disc q).spw = d.spw ∧
    ((d.gauge p).archive = true → 0 < d.archCap → (d.gaugeEmit p ns disc q).esc.archSeq = d.esc.archSeq + 1) ∧
    ((d.gauge p).archive = false → (d.gaugeEmit p ns disc q).esc.archive = d.esc.archive) := by
  obtain ⟨r, hr⟩ := gaugeEmit_form d p ns disc q
  obtain ⟨hg, hs, hseq, harch⟩ := gaugeArchived_parts d p r
  obtain ⟨hesc, hspw⟩ := gaugeRinged_parts (d.gaugeArchived p r) (d.lanePolder p) (d.gauge p).ring r
  have hmod (e : Dev) (f : Gauge → Gauge) : (e.modGauge p f).spw = e.spw ∧ (e.modGauge p f).esc.archSeq = e.esc.archSeq ∧
      (e.modGauge p f).esc.archive = e.esc.archive := ⟨rfl, rfl, rfl⟩
  rw [hr, Dev.gauge_modGauge, if_pos rfl, gauge_esc hesc, hg, (hmod ..).1, (hmod ..).2.1, (hmod ..).2.2, hesc, hspw]
  exact ⟨rfl, hs, hseq, harch⟩

/-- What the records of a port's interval leave. -/
theorem gaugeClose_parts (p ns : Nat) (disc : Bool) : ∀ (l : List Nat) (d : Dev),
    (l.foldl (fun d q => d.gaugeEmit p ns disc q) d).gauge p =
      { d.gauge p with hists := l.foldl (fun t q => tset t {} q { partial_ := false }) (d.gauge p).hists } ∧
    ((d.gauge p).archive = true → 0 < d.archCap → (l.foldl (fun d q => d.gaugeEmit p ns disc q) d).esc.archSeq = d.esc.archSeq + l.length) ∧
    ((d.gauge p).archive = false → (l.foldl (fun d q => d.gaugeEmit p ns disc q) d).esc.archive = d.esc.archive)
  | [], d => ⟨rfl, fun _ _ => rfl, fun _ => rfl⟩
  | q :: l, d => by
    obtain ⟨hg, hs, hseq, harch⟩ := gaugeEmit_parts d p ns disc q
    obtain ⟨hg', hseq', harch'⟩ := gaugeClose_parts p ns disc l (d.gaugeEmit p ns disc q)
    rw [List.foldl_cons]
    rw [hg] at hg' hseq' harch'
    refine ⟨hg', fun ha hc => ?_, fun ha => (harch' ha).trans (harch ha)⟩
    have hc' : (d.gaugeEmit p ns disc q).archCap = d.archCap := by unfold Dev.archCap; rw [hs]
    rw [hseq' ha (by rw [hc']; exact hc), hseq ha hc, List.length_cons]
    omega

theorem tget_tsets {α : Type} [DecidableEq α] (z a : α) (q : Nat) : ∀ (l : List Nat) (t : Tab α), q ∈ l →
    tget (l.foldl (fun t k => tset t z k a) t) z q = a := by
  intro l t hq
  refine foldl_reaches (I := fun _ : Tab α => True) (P := fun t : Tab α => tget t z q = a) (fun _ _ _ => trivial) (fun t _ => ?_)
    (fun t k h => ?_) hq trivial
  · rw [tget_tset, if_pos rfl]
  · rw [tget_tset]
    split
    · rfl
    · exact h

theorem doGaugeIntervalEnd_port {d : Dev} {p : Nat} (hp : d.isPort p = true) (he : (d.gauge p).enable ≠ 0) (hx : (d.gauge p).exportMs ≠ 0) :
    doGaugeIntervalEnd p d = ((setBits (d.gauge p).enable 20).foldl
      (fun e q => e.gaugeEmit p ((d.gauge p).boundary (d.gauge p).from_) false q) (d.reachNs ((d.gauge p).boundary (d.gauge p).from_))).modGauge p
      (fun g => { g with from_ := (d.gauge p).boundary (d.gauge p).from_ }) := by
  unfold doGaugeIntervalEnd Dev.gaugeClose
  dsimp only
  rw [if_neg (by simp [hp, he, hx]), gauge_esc (esc_reachNs ..)]

/-! ### OP_GAUGE_SET (12 R392) -/

theorem esc_okBuf (d : Dev) (c : CmdRef) (err : Bool) (off r0 r1 detail : Nat) : (d.okBuf c err off r0 r1 detail).esc = d.esc := by simp
theorem esc_hostOut (d : Dev) (e a : Nat) (bs : List Byte) (err : Bool) : (d.hostOut e a bs err).esc = d.esc := by simp

/-- The archived records from a sequence on. -/
def Dev.archFrom (d : Dev) (x : Cmd) : List (Nat × Nat × BitVec 1536) :=
  d.esc.archive.filter (fun r => decide ((r.1 + 2 ^ 32 - x.fld 40 0 32) % 2 ^ 32 < 2 ^ 31))

/-- Those that the caller may read. -/
def Dev.archGood (d : Dev) (c : CmdRef) (x : Cmd) : List (Nat × Nat × BitVec 1536) :=
  (d.archFrom x).filter (fun r => d.mayAs c none || d.mayAs c (some r.2.1))

/-- The sequence of the oldest archived record. -/
def Dev.archOldest (d : Dev) : Nat := (d.esc.archive.head?.map (fun r => r.1)).getD d.esc.archSeq % 2 ^ 32

/-- The sequence to go on from. -/
def Dev.archAfter (d : Dev) (c : CmdRef) (x : Cmd) : Nat :=
  match (d.archGood c x)[x.fld 44 0 32 / 192]? with
  | some r => r.1 % 2 ^ 32
  | none => match (d.archFrom x).getLast? with
    | some r => (r.1 + 1) % 2 ^ 32
    | none => d.esc.archSeq % 2 ^ 32

/-- The bytes of the records that are returned. -/
def Dev.archBytes (d : Dev) (c : CmdRef) (x : Cmd) : List Byte :=
  (((d.archGood c x).take (x.fld 44 0 32 / 192)).map (fun r => leBytes 192 r.2.2.toNat)).flatten

/-- A read of the archive that its first step ends. -/
theorem doOpGaugeSetArchiveRead_whole {d : Dev} {c : CmdRef} {io : Io} {x : Cmd} (h : d.isRunning c x)
    (hop : isOpAct 0x53 (18, 0, 2) 2 x = true) (hs : x.steps = 0) (hc : x.scratch = []) (hp : io.pick = []) (hz : x.fld 32 0 6 = 0)
    (hl : 192 ≤ x.fld 44 0 32) : doOpGaugeSetArchiveRead c io d =
      (if ((d.archGood c x).take (x.fld 44 0 32 / 192)).isEmpty then d
        else d.hostOut c.ep (x.fld 32 0 64) (d.archBytes c x) io.wrErr).okBuf c io.wrErr 32
        (((d.archGood c x).take (x.fld 44 0 32 / 192)).length + d.archOldest * 2 ^ 32) (d.archAfter c x) := by
  have hch : ioChoice io 0 = 0 := by unfold ioChoice; rw [hp]; rfl
  unfold doOpGaugeSetArchiveRead
  rw [step1_run h hop]
  extract_lets room addr next done lost err all oldest src pick step bad good put after hit d1 d2
  have hroom : ¬ room = 0 := by simp only [room]; omega
  have hnext : next = x.fld 40 0 32 := if_pos hs
  have hdone : done = 0 := by simp only [done, hc]; rfl
  have hlost : lost = 0 := by simp only [lost, hc]; rfl
  have herr : err = io.wrErr := by simp only [err, hc]; exact Bool.or_false _
  have hsrc : src = d.archFrom x := by simp only [src, hnext]; rfl
  have hpick : pick = src.length := by simp only [pick, hch]; rfl
  have hstep : step = src := by simp only [step, hpick, List.take_length]
  have hbad : bad = [] := by simp only [bad, hp]; simp
  have hgood : good = d.archGood c x := by simp only [good, hp, hstep, hsrc]; rfl
  have hput : put = (d.archGood c x).take (x.fld 44 0 32 / 192) := by simp only [put, hgood, hdone]; rfl
  have hafter : after = d.archAfter c x := by
    simp only [after, hgood, hdone, hstep, hsrc, Nat.sub_zero]
    unfold Dev.archAfter
    cases (d.archGood c x)[x.fld 44 0 32 / 192]? with
    | some r => rfl
    | none =>
      cases hr : (d.archFrom x).getLast? with
      | some r => rfl
      | none => rw [List.getLast?_eq_none_iff.1 hr]; rfl
  have hhit : hit = [] := by simp only [hit, hbad]; rfl
  have hd1 : d1 = d := by simp only [d1, hhit]; rfl
  have hd2 : d2 = if ((d.archGood c x).take (x.fld 44 0 32 / 192)).isEmpty then d
      else d.hostOut c.ep (x.fld 32 0 64) (d.archBytes c x) io.wrErr := by
    simp only [d2, hd1, hput, hdone]; rfl
  have hold : oldest = d.archOldest := rfl
  rw [if_neg (not_not.2 hz), if_neg hroom]
  clear_value room next done lost err src pick step bad good put after hit d1 d2 oldest
  subst hpick hdone hlost herr hhit
  rw [if_pos (.inl (Nat.le_refl _)), hd2, hput, hold, hafter, Nat.zero_add]
  rfl

section
variable {d : Dev} {c : CmdRef} {x : Cmd} (h : d.isRunning c x) (bs : List Byte) (err : Bool) (off r0 r1 : Nat)
include h

/-- Bytes that go to a command's buffer, and its end. -/
theorem okBuf_written (b : Bool) (a : Nat) : ((if b then d else d.hostOut c.ep a bs err).okBuf c err off r0 r1).ended c x
    (if err then { status := stTimeout, r0 := BitVec.ofNat 64 r0, r1 := BitVec.ofNat 64 r1, detail := BitVec.ofNat 32 off }
      else okDone r0 r1) := by
  have hr : (if b then d else d.hostOut c.ep a bs err).isRunning c x := by
    cases b with
    | true => exact h
    | false => exact isRunning_hostOut h ..
  cases err <;> exact finish_ended hr

end

theorem out_written {d : Dev} {c : CmdRef} {bs : List Byte} (off r0 r1 a : Nat) (hup : (d.ep c.ep).up = true) :
    ((if false then d else d.hostOut c.ep a bs false).okBuf c false off r0 r1).out = .hostWrite c.ep a bs :: d.out := by
  rw [out_okBuf']
  simp [Dev.hostOut, Dev.emit, hup]

/-- Settles O31: samples, intervals and the three actions, each by its row's equation. -/
theorem tideGaugeSamplesAndReports : Obligations.TideGaugeSamplesAndReports := by
  unfold Obligations.TideGaugeSamplesAndReports
  intro s
  refine ⟨fun p hp he => ?_, fun p hp => ?_, fun p hp he hx => ?_, fun c io x p h hpx => ⟨fun hop => ?_, fun hop => ?_,
    fun hop hs hc hpk => ?_⟩⟩
  · obtain ⟨delay, hg, ht⟩ := doGaugeSample_port hp he
    refine ⟨{ s with dev := doGaugeSample p s.dev }, rfl, ?_⟩
    dsimp only
    rw [hg]
    refine ⟨rfl, ht, fun q hq hb => ?_⟩
    rw [hist_sampled _ _ _ hq hb]
    exact ⟨rfl, rfl, rfl⟩
  · constructor
    · show Host.Outcome.next { s with dev := doGaugeSample p s.dev } = _
      rw [show doGaugeSample p s.dev = s.dev from if_pos (by simpa using hp)]
    · show Host.Outcome.next { s with dev := doGaugeIntervalEnd p s.dev } = _
      rw [show doGaugeIntervalEnd p s.dev = s.dev from if_pos (by obtain hp | hp := hp <;> simp [hp])]
  · have hrow := doGaugeIntervalEnd_port hp he hx
    generalize hns : (s.dev.gauge p).boundary (s.dev.gauge p).from_ = ns at hrow
    obtain ⟨hg, hseq, harch⟩ := gaugeClose_parts p ns false (setBits (s.dev.gauge p).enable 20) (s.dev.reachNs ns)
    have hesc := esc_reachNs s.dev ns
    have hspw : (s.dev.reachNs ns).spw = s.dev.spw := by simp
    have hcap : (s.dev.reachNs ns).archCap = s.dev.archCap := by unfold Dev.archCap; rw [hspw]
    rw [gauge_esc hesc] at hg hseq harch
    rw [hesc] at hseq harch
    rw [hcap] at hseq
    refine ⟨{ s with dev := doGaugeIntervalEnd p s.dev }, rfl, ?_⟩
    dsimp only
    rw [hrow, Dev.gauge_modGauge, if_pos rfl, hg]
    exact ⟨rfl, hseq, harch, fun q hq hb => tget_tsets ({} : Hist) _ q _ _ (mem_setBits.2 ⟨hq, hb⟩)⟩
  · subst hpx
    refine ⟨{ s with dev := doOpGaugeSetSet c io s.dev }, rfl, fun hp => ?_, fun hp hq => ?_, fun hp hq hx => ?_, fun hp hq hx => ?_⟩
    · dsimp only
      rw [show doOpGaugeSetSet c io s.dev = _ from (step1_run h hop).trans (if_pos (by rw [hp]; rfl)), esc_fail]
      exact ⟨fail_ended h, rfl⟩
    all_goals have hp' : ¬ (!s.dev.isPort (x.fld 16 0 10)) = true := by rw [hp]; exact Bool.noConfusion
    · dsimp only
      rw [show doOpGaugeSetSet c io s.dev = _ from (step1_run h hop).trans ((if_neg hp').trans (if_pos (by split <;> omega))), Dev.badOp,
        esc_fail]
      exact ⟨badOp_ended h, rfl⟩
    all_goals have hq' : ¬ 4000 < (if x.fld 24 0 12 = 0 then 4 else x.fld 24 0 12) := by split <;> omega
    · dsimp only
      rw [show doOpGaugeSetSet c io s.dev = _ from (step1_run h hop).trans ((if_neg hp').trans ((if_neg hq').trans (if_pos hx))), Dev.badOp,
        esc_fail]
      exact ⟨badOp_ended h, rfl⟩
    · dsimp only
      rw [show doOpGaugeSetSet c io s.dev = _ from
        (step1_run h hop).trans ((if_neg hp').trans ((if_neg hq').trans (if_neg (Nat.not_lt.2 hx)))), gauge_esc (esc_ok ..),
        Dev.gauge_modGauge, if_pos rfl]
      exact ⟨ok_ended (isRunning_congr (d := s.dev) rfl h), rfl, rfl, rfl, rfl, rfl, rfl, rfl⟩
  · subst hpx
    refine ⟨{ s with dev := doOpGaugeSetRead c io s.dev }, rfl, ?_⟩
    dsimp only
    cases hp : s.dev.isPort (x.fld 16 0 10) with
    | false =>
      rw [show doOpGaugeSetRead c io s.dev = _ from (step1_run h hop).trans (if_pos (by rw [hp]; rfl)), esc_fail]
      exact ⟨rfl, fun _ => fail_ended h, nofun, nofun, nofun, nofun⟩
    | true =>
      have hp' : ¬ (!s.dev.isPort (x.fld 16 0 10)) = true := by rw [hp]; exact Bool.noConfusion
      have hrow : doOpGaugeSetRead c io s.dev = if 20 ≤ x.fld 19 0 5 then s.dev.badOp c 19
          else if x.fld 32 0 6 ≠ 0 then s.dev.badOp c 32
          else if x.fld 44 0 32 < 192 then s.dev.badOp c 44
          else (if false then s.dev else s.dev.hostOut c.ep (x.fld 32 0 64) (leBytes 192 (s.dev.gaugeImage (x.fld 16 0 10) (x.fld 19 0 5) 0
            s.dev.timeNsAll false true).toNat) io.wrErr).okBuf c io.wrErr 32 := (step1_run h hop).trans (if_neg hp')
      rw [hrow]
      refine ⟨?_, nofun, fun _ hq => ?_, fun _ hq hz => ?_, fun _ hq hz hl => ?_, fun _ hq hz hl => ⟨fun hw => ?_, fun hw => ?_⟩⟩
      · split
        · exact esc_fail ..
        · split
          · exact esc_fail ..
          · split
            · exact esc_fail ..
            · exact (esc_okBuf ..).trans (esc_hostOut ..)
      · rw [if_pos hq]; exact badOp_ended h
      · rw [if_neg (Nat.not_le.2 hq), if_pos hz]; exact badOp_ended h
      · rw [if_neg (Nat.not_le.2 hq), if_neg (not_not.2 hz), if_pos hl]; exact badOp_ended h
      · rw [if_neg (Nat.not_le.2 hq), if_neg (not_not.2 hz), if_neg (Nat.not_lt.2 hl), hw]
        exact okBuf_written h _ true 32 0 0 false _
      · rw [if_neg (Nat.not_le.2 hq), if_neg (not_not.2 hz), if_neg (Nat.not_lt.2 hl), hw]
        exact ⟨okBuf_written h _ false 32 0 0 false _, fun hup => out_written 32 0 0 _ hup⟩
  · refine ⟨{ s with dev := doOpGaugeSetArchiveRead c io s.dev }, rfl, ?_⟩
    dsimp only
    by_cases hz : x.fld 32 0 6 = 0
    · by_cases hl : 192 ≤ x.fld 44 0 32
      · rw [doOpGaugeSetArchiveRead_whole h hop hs hc hpk hz hl]
        refine ⟨?_, fun hz' => absurd hz hz', fun _ hl' => absurd hl (Nat.not_le.2 hl'), ?_⟩
        · rw [esc_okBuf]
          split
          · rfl
          · exact esc_hostOut ..
        · rintro src good put oldest after - - rfl rfl rfl rfl rfl
          refine ⟨fun hw => ?_, fun hw => ?_⟩
          · have hend := okBuf_written h (s.dev.archBytes c x) true 32 (((s.dev.archGood c x).take (x.fld 44 0 32 / 192)).length +
              s.dev.archOldest * 2 ^ 32) (s.dev.archAfter c x) ((s.dev.archGood c x).take (x.fld 44 0 32 / 192)).isEmpty (x.fld 32 0 64)
            rw [hw]
            exact ⟨_, hend, rfl, rfl⟩
          · rw [hw]
            refine ⟨okBuf_written h (s.dev.archBytes c x) false 32 _ (s.dev.archAfter c x) _ (x.fld 32 0 64), fun hne hup => ?_⟩
            have he : ((s.dev.archGood c x).take (x.fld 44 0 32 / 192)).isEmpty = false := List.isEmpty_eq_false_iff.2 hne
            rw [he]
            exact out_written 32 _ _ _ hup
      · have hroom : x.fld 44 0 32 / 192 = 0 := by omega
        rw [show doOpGaugeSetArchiveRead c io s.dev = _ from (step1_run h hop).trans ((if_neg (not_not.2 hz)).trans (if_pos hroom)),
          Dev.badOp, esc_fail]
        exact ⟨rfl, fun hz' => absurd hz hz', fun _ _ => badOp_ended h, fun _ _ _ _ _ _ hl' => absurd hl' hl⟩
    · rw [show doOpGaugeSetArchiveRead c io s.dev = _ from (step1_run h hop).trans (if_pos hz), Dev.badOp, esc_fail]
      exact ⟨rfl, fun _ => badOp_ended h, fun hz' => absurd hz' hz, fun _ _ _ _ _ hz' => absurd hz' hz⟩

end Sys2Proof.Machine
end

section
/-! PROOFS. The Minute Repeater and the ledger (13 R405, R406, R408, R410-R412, R414-R416). -/
namespace Sys2Proof.Machine

/-! ### Banks and rings -/

theorem bank_mrp {d d' : Dev} (h : d'.mrp = d.mrp) (p b : Nat) : d'.bank p b = d.bank p b := by unfold Dev.bank; rw [h]
theorem mrpRing_mrp {d d' : Dev} (h : d'.mrp = d.mrp) (p : Nat) : d'.mrpRing p = d.mrpRing p := by unfold Dev.mrpRing; rw [h]

theorem bank_modBank (d : Dev) (p b : Nat) (f : Bank → Bank) (q c : Nat) :
    (d.modBank p b f).bank q c = if 2 * p + b = 2 * q + c then f (d.bank q c) else d.bank q c := by
  unfold Dev.bank Dev.modBank
  rw [tget_tmod]
  split
  next h => rw [h]
  next => rfl

theorem mrp_stall (d : Dev) (p : Nat) : (d.stall p).mrp = d.mrp := by simp
theorem mrp_record (d : Dev) (code : Nat) (who : Who) (source : Option Nat) (data : BitVec 160) :
    (d.record code who source data).mrp = d.mrp := by simp
theorem plc_reachNs (d : Dev) (ns : Nat) : (d.reachNs ns).plc = d.plc := by simp
theorem polder_of_plc {d d' : Dev} (h : d'.plc = d.plc) (p : Nat) : d'.polder p = d.polder p := by unfold Dev.polder; rw [h]
theorem mrp_reachNs (d : Dev) (ns : Nat) : (d.reachNs ns).mrp = d.mrp := by simp

theorem bankIn_of_mrp {d d' : Dev} (h : d'.mrp = d.mrp) (p : Nat) (s : BankSt) : d'.bankIn p s = d.bankIn p s := by
  unfold Dev.bankIn
  simp only [bank_mrp h]

theorem bankIn_spec {d : Dev} {p b : Nat} {s : BankSt} (h : d.bankIn p s = some b) : b < 2 ∧ (d.bank p b).st = s := by
  unfold Dev.bankIn at h
  have hm := List.mem_of_find?_eq_some h
  have hs := List.find?_some h
  simp only [List.mem_cons, List.not_mem_nil, or_false] at hm
  exact ⟨by omega, of_decide_eq_true hs⟩

/-- A state that one bank of a polder has and the other has not. -/
theorem bankIn_only {d : Dev} {p b : Nat} {s : BankSt} (hb : b < 2) (h : (d.bank p b).st = s) (h' : (d.bank p (1 - b)).st ≠ s) :
    d.bankIn p s = some b := by
  unfold Dev.bankIn
  interval_cases b
  · simp [h]
  · simp [h, show ¬ (d.bank p 0).st = s from h']

theorem bankIn_neither {d : Dev} {p b : Nat} {s : BankSt} (hb : b < 2) (h : (d.bank p b).st ≠ s) (h' : (d.bank p (1 - b)).st ≠ s) :
    d.bankIn p s = none := by
  unfold Dev.bankIn
  interval_cases b
  · simp [h, show ¬ (d.bank p 1).st = s from h']
  · simp [h, show ¬ (d.bank p 0).st = s from h']

/-! ### The end of an epoch (13 R406, R408) -/

/-- What the end of an epoch does to the banks of one polder. -/
def Dev.epochStep (next endNs : Nat) (d : Dev) (p : Nat) : Dev :=
  match d.bankIn p .opened with
  | none => if d.bal.mode = .forwarding then d.openBank p else d
  | some b =>
    let x := d.bank p b
    if (d.bank p (1 - b)).st = .free then
      let d := d.modBank p b (fun x => { x with st := .closing, endNs := endNs, endTick := d.bal.tick })
      let d := d.record Ev.minuteClose (.polders (2 ^ p)) none (dat [(0, 8, x.first), (8, 2, x.span)])
      d.openBank p
    else
      let d := d.modBank p b (fun x => { x with epochs := x.epochs ++ [next], endNs := endNs })
      (d.stall p).record Ev.minuteMerged (.polders (2 ^ p)) (some (0xE10 + p)) (dat [(0, 8, x.first), (8, 2, x.span + 1)])

/-- One polder's banks stand, and so do the epoch and the time. -/
structure BanksStand (q : Nat) (d e : Dev) : Prop where
  bank : ∀ b, b < 2 → e.bank q b = d.bank q b
  epoch : e.mrp.epoch = d.mrp.epoch
  offset : e.mrp.offsetMs = d.mrp.offsetMs
  tmu : e.tmu = d.tmu

theorem BanksStand.of_mrp {q : Nat} {d e : Dev} (h : e.mrp = d.mrp) (ht : e.tmu = d.tmu) : BanksStand q d e :=
  ⟨fun b _ => bank_mrp h q b, by rw [h], by rw [h], ht⟩

theorem BanksStand.trans {q : Nat} {a b c : Dev} (h : BanksStand q a b) (h' : BanksStand q b c) : BanksStand q a c :=
  ⟨fun i hi => (h'.bank i hi).trans (h.bank i hi), h'.epoch.trans h.epoch, h'.offset.trans h.offset, h'.tmu.trans h.tmu⟩

theorem banksStand_modBank {p q b : Nat} (hb : b < 2) (hpq : p ≠ q) (d : Dev) (f : Bank → Bank) : BanksStand q d (d.modBank p b f) :=
  ⟨fun c hc => by rw [bank_modBank, if_neg (by omega)], rfl, rfl, rfl⟩

theorem banksStand_stall (q : Nat) (d : Dev) (p : Nat) : BanksStand q d (d.stall p) := .of_mrp (mrp_stall ..) (by simp)

theorem banksStand_record (q : Nat) (d : Dev) (code : Nat) (who : Who) (source : Option Nat) (data : BitVec 160) :
    BanksStand q d (d.record code who source data) := .of_mrp (mrp_record ..) (by simp)

theorem banksStand_openBank {p q : Nat} (hpq : p ≠ q) (d : Dev) : BanksStand q d (d.openBank p) := by
  unfold Dev.openBank
  split
  next b _ hf => exact (banksStand_modBank (bankIn_spec hf).1 hpq d _).trans (banksStand_stall ..)
  next => exact .of_mrp rfl rfl

/-- The banks of the other polders stand. -/
theorem banksStand_epochStep {p q : Nat} (hpq : p ≠ q) (next ns : Nat) (d : Dev) : BanksStand q d (d.epochStep next ns p) := by
  unfold Dev.epochStep
  split
  next => split
          · exact banksStand_openBank hpq d
          · exact .of_mrp rfl rfl
  next b hb =>
    have hb2 := (bankIn_spec hb).1
    dsimp only
    split
    · exact ((banksStand_modBank hb2 hpq d _).trans (banksStand_record ..)).trans (banksStand_openBank hpq _)
    · exact ((banksStand_modBank hb2 hpq d _).trans (banksStand_stall ..)).trans (banksStand_record ..)

/-- The epoch and the time stand through every step. -/
theorem epochStep_keeps (next ns : Nat) (d : Dev) (p : Nat) : (d.epochStep next ns p).mrp.epoch = d.mrp.epoch ∧
    (d.epochStep next ns p).mrp.offsetMs = d.mrp.offsetMs ∧ (d.epochStep next ns p).tmu = d.tmu := by
  obtain ⟨-, he, ho, ht⟩ := banksStand_epochStep (q := p + 1) (Nat.ne_of_lt (Nat.lt_succ_self p)) next ns d
  exact ⟨he, ho, ht⟩

/-- A bank opens where the other has closed. -/
theorem bank_openBank {d : Dev} {p b : Nat} (hb : b < 2) (hc : (d.bank p b).st = .closing) (hf : (d.bank p (1 - b)).st = .free) :
    (d.openBank p).bank p b = d.bank p b ∧ ((d.openBank p).bank p (1 - b)).st = .opened ∧
    ((d.openBank p).bank p (1 - b)).epochs = [d.mrp.epoch] := by
  have ho : d.bankIn p .opened = none := bankIn_neither hb (by rw [hc]; decide) (by rw [hf]; decide)
  have hfr : d.bankIn p .free = some (1 - b) :=
    bankIn_only (by omega) hf (by rw [show 1 - (1 - b) = b by omega, hc]; decide)
  unfold Dev.openBank
  rw [ho, hfr]
  dsimp only
  rw [bank_mrp (mrp_stall ..), bank_mrp (mrp_stall ..), bank_modBank, bank_modBank, if_neg (by omega), if_pos rfl]
  exact ⟨rfl, rfl, rfl⟩

/-- The banks of a polder whose bank is open. -/
theorem bank_epochStep {d : Dev} {p b : Nat} (next ns : Nat) (hb : d.bankIn p .opened = some b) :
    ((d.bank p (1 - b)).st = .free →
      ((d.epochStep next ns p).bank p b).st = .closing ∧ ((d.epochStep next ns p).bank p b).epochs = (d.bank p b).epochs ∧
      ((d.epochStep next ns p).bank p (1 - b)).st = .opened ∧ ((d.epochStep next ns p).bank p (1 - b)).epochs = [d.mrp.epoch]) ∧
    ((d.bank p (1 - b)).st ≠ .free →
      ((d.epochStep next ns p).bank p b).st = .opened ∧ ((d.epochStep next ns p).bank p b).epochs = (d.bank p b).epochs ++ [next] ∧
      (d.epochStep next ns p).bank p (1 - b) = d.bank p (1 - b)) := by
  obtain ⟨hb2, hst⟩ := bankIn_spec hb
  unfold Dev.epochStep
  rw [hb]
  dsimp only
  refine ⟨fun hf => ?_, fun hf => ?_⟩
  · rw [if_pos hf]
    generalize hd : (d.modBank p b (fun x => { x with st := .closing, endNs := ns, endTick := d.bal.tick })).record Ev.minuteClose
      (.polders (2 ^ p)) none (dat [(0, 8, (d.bank p b).first), (8, 2, (d.bank p b).span)]) = e
    have hm : e.mrp = (d.modBank p b (fun x => { x with st := .closing, endNs := ns, endTick := d.bal.tick })).mrp := by
      rw [← hd, mrp_record]
    have h1 : e.bank p b = { d.bank p b with st := .closing, endNs := ns, endTick := d.bal.tick } := by
      rw [bank_mrp hm, bank_modBank, if_pos rfl]
    have h2 : e.bank p (1 - b) = d.bank p (1 - b) := by rw [bank_mrp hm, bank_modBank, if_neg (by omega)]
    obtain ⟨hk, ho, he⟩ := bank_openBank (d := e) (p := p) hb2 (by rw [h1]) (by rw [h2]; exact hf)
    rw [hk, h1, he, hm]
    exact ⟨rfl, rfl, ho, rfl⟩
  · rw [if_neg hf, bank_mrp (mrp_record ..), bank_mrp (mrp_stall ..), bank_mrp (mrp_record ..), bank_mrp (mrp_stall ..), bank_modBank,
      bank_modBank, if_pos rfl, if_neg (by omega)]
    exact ⟨hst, rfl, rfl⟩

/-- After all steps a defined polder's banks are as its own step leaves them. -/
theorem bank_epochSteps (next ns q : Nat) : ∀ (l : List Nat) (d : Dev), l.Nodup → q ∈ l → ∃ e, BanksStand q d e ∧
    BanksStand q (e.epochStep next ns q) (l.foldl (fun d p => d.epochStep next ns p) d)
  | [], _, _, hq => absurd hq (List.not_mem_nil)
  | p :: l, d, hnd, hq => by
    obtain ⟨hp, hl⟩ := List.nodup_cons.1 hnd
    rw [List.foldl_cons]
    by_cases h : p = q
    · subst h
      refine ⟨d, .of_mrp rfl rfl, ?_⟩
      have hrest : ∀ (l : List Nat) (d : Dev), p ∉ l → BanksStand p d (l.foldl (fun d k => d.epochStep next ns k) d) := by
        intro l
        induction l with
        | nil => exact fun d _ => .of_mrp rfl rfl
        | cons k l ih =>
          intro d hk
          rw [List.mem_cons, not_or] at hk
          exact (banksStand_epochStep (fun he => hk.1 he.symm) next ns d).trans (ih _ hk.2)
      exact hrest l _ hp
    · obtain ⟨e, he, hs⟩ := bank_epochSteps next ns q l (d.epochStep next ns p) hl ((List.mem_cons.1 hq).resolve_left (fun he => h he.symm))
      exact ⟨e, (banksStand_epochStep h next ns d).trans he, hs⟩

theorem epochOf_congr {d d' : Dev} (h : d'.mrp.offsetMs = d.mrp.offsetMs) (ns : Nat) : d'.epochOf ns = d.epochOf ns := by
  unfold Dev.epochOf
  rw [h]
theorem timeNsAll_congr {d d' : Dev} (h : d'.tmu = d.tmu) : d'.timeNsAll = d.timeNsAll := by unfold Dev.timeNsAll; rw [h]

/-- An epoch becomes current. -/
def Dev.setEpoch (d : Dev) (n : Nat) : Dev := { d with mrp := { d.mrp with epoch := n, disc := false } }

theorem setEpoch_bank (d : Dev) (n p b : Nat) : (d.setEpoch n).bank p b = d.bank p b := rfl
theorem setEpoch_epoch (d : Dev) (n : Nat) : (d.setEpoch n).mrp.epoch = n := rfl
theorem setEpoch_offset (d : Dev) (n : Nat) : (d.setEpoch n).mrp.offsetMs = d.mrp.offsetMs := rfl
theorem setEpoch_tmu (d : Dev) (n : Nat) : (d.setEpoch n).tmu = d.tmu := rfl
theorem setEpoch_polder (d : Dev) (n p : Nat) : (d.setEpoch n).polder p = d.polder p := rfl

/-- The epoch of the device's time is current, before its banks turn. -/
def Dev.inEpoch (d : Dev) : Dev := d.setEpoch (d.epochOf d.timeNsAll)

theorem inEpoch_epoch (d : Dev) : d.inEpoch.mrp.epoch = d.inEpoch.epochOf d.inEpoch.timeNsAll := by
  unfold Dev.inEpoch
  rw [setEpoch_epoch, epochOf_congr (setEpoch_offset ..), timeNsAll_congr (setEpoch_tmu ..)]

/-- The device in its next epoch, before its banks turn. -/
def Dev.nextEpoch (d : Dev) : Dev := (d.reachNs (d.epochStart (d.mrp.epoch + 1))).inEpoch

theorem doEpochEnd_steps {d : Dev} (h : d.corePowered = true) : doEpochEnd d =
    d.nextEpoch.defined.foldl (fun e p => e.epochStep d.nextEpoch.mrp.epoch (d.epochStart (d.mrp.epoch + 1)) p) d.nextEpoch := by
  unfold doEpochEnd
  rw [if_neg (by rw [h]; exact Bool.noConfusion)]
  rfl

/-- The epoch and the time that the steps leave. -/
theorem epochSteps_keep (next ns : Nat) : ∀ (l : List Nat) (d : Dev),
    (l.foldl (fun e p => e.epochStep next ns p) d).mrp.epoch = d.mrp.epoch ∧
    (l.foldl (fun e p => e.epochStep next ns p) d).mrp.offsetMs = d.mrp.offsetMs ∧
    (l.foldl (fun e p => e.epochStep next ns p) d).tmu = d.tmu
  | [], _ => ⟨rfl, rfl, rfl⟩
  | p :: l, d => by
    obtain ⟨he, ho, ht⟩ := epochSteps_keep next ns l (d.epochStep next ns p)
    obtain ⟨he', ho', ht'⟩ := epochStep_keeps next ns d p
    rw [List.foldl_cons]
    exact ⟨he.trans he', ho.trans ho', ht.trans ht'⟩

theorem nextEpoch_bank (d : Dev) (p b : Nat) : d.nextEpoch.bank p b = d.bank p b := by
  unfold Dev.nextEpoch
  unfold Dev.inEpoch
  rw [setEpoch_bank, bank_mrp (mrp_reachNs ..)]

theorem nextEpoch_bankIn (d : Dev) (p : Nat) (s : BankSt) : d.nextEpoch.bankIn p s = d.bankIn p s := by
  unfold Dev.bankIn
  simp only [nextEpoch_bank d]

theorem nextEpoch_epoch (d : Dev) : d.nextEpoch.mrp.epoch = d.nextEpoch.epochOf d.nextEpoch.timeNsAll :=
  inEpoch_epoch _

theorem nextEpoch_defined {d : Dev} {p : Nat} (hp : p < 8) (h : (d.polder p).st ≠ .undefined) : p ∈ d.nextEpoch.defined := by
  unfold Dev.defined
  rw [List.mem_filter]
  refine ⟨List.mem_range.2 hp, decide_eq_true ?_⟩
  have hk : d.nextEpoch.polder p = d.polder p := by
    unfold Dev.nextEpoch
    unfold Dev.inEpoch
    rw [setEpoch_polder]
    exact polder_of_plc (plc_reachNs ..) p
  rw [hk]
  exact h

/-- The banks of one polder after the end of an epoch, as its own step leaves them. -/
theorem bank_doEpochEnd {d : Dev} (h : d.corePowered = true) {p b : Nat} (hp : p < 8) (hst : (d.polder p).st ≠ .undefined)
    (hb : d.bankIn p .opened = some b) :
    ((d.bank p (1 - b)).st = .free →
      ((doEpochEnd d).bank p b).st = .closing ∧ ((doEpochEnd d).bank p b).epochs = (d.bank p b).epochs ∧
      ((doEpochEnd d).bank p (1 - b)).st = .opened ∧ ((doEpochEnd d).bank p (1 - b)).epochs = [(doEpochEnd d).mrp.epoch]) ∧
    ((d.bank p (1 - b)).st ≠ .free → ((doEpochEnd d).bank p b).st = .opened ∧
      ((doEpochEnd d).bank p b).epochs = (d.bank p b).epochs ++ [(doEpochEnd d).mrp.epoch] ∧
      (doEpochEnd d).bank p (1 - b) = d.bank p (1 - b)) := by
  rw [doEpochEnd_steps h, (epochSteps_keep _ _ _ _).1]
  have hnd : d.nextEpoch.defined.Nodup := List.nodup_range.filter _
  obtain ⟨e, he, hs⟩ := bank_epochSteps d.nextEpoch.mrp.epoch (d.epochStart (d.mrp.epoch + 1)) p _ d.nextEpoch hnd
    (nextEpoch_defined hp hst)
  have hb2 := (bankIn_spec hb).1
  have hk (c : Nat) (hc : c < 2) : e.bank p c = d.bank p c := (he.bank c hc).trans (nextEpoch_bank d p c)
  have hbe : e.bankIn p .opened = some b := by
    rw [← hb]
    unfold Dev.bankIn
    simp only [List.find?_cons, List.find?_nil, hk 0 (by omega), hk 1 (by omega)]
  obtain ⟨hfree, hfull⟩ := bank_epochStep d.nextEpoch.mrp.epoch (d.epochStart (d.mrp.epoch + 1)) hbe
  rw [he.epoch, hk b hb2, hk (1 - b) (by omega)] at hfree
  rw [hk b hb2, hk (1 - b) (by omega)] at hfull
  rw [hs.bank b hb2, hs.bank (1 - b) (by omega)]
  exact ⟨hfree, hfull⟩

/-! ### Freezing (13 R411, R412) -/

theorem mrpRing_modMrpRing (d : Dev) (p : Nat) (f : MrpRing → MrpRing) : (d.modMrpRing p f).mrpRing p = f (d.mrpRing p) := by
  unfold Dev.mrpRing Dev.modMrpRing
  rw [tget_tmod, if_pos rfl]

theorem mrpRing_modBank (d : Dev) (p q b : Nat) (f : Bank → Bank) : (d.modBank q b f).mrpRing p = d.mrpRing p := rfl
theorem bank_modMrpRing (d : Dev) (p q b : Nat) (f : MrpRing → MrpRing) : (d.modMrpRing q f).bank p b = d.bank p b := rfl

theorem bank_freeBank (d : Dev) (p b : Nat) : (d.freeBank p b).bank p b = {} := by
  unfold Dev.freeBank
  rw [bank_modBank, if_pos rfl]

theorem freeze_enabled {d : Dev} {p : Nat} (h : (d.mrpRing p).enable = true) (b : Nat) :
    ((d.freeze_ p b).bank p b).st = .exporting ∧ ((d.freeze_ p b).mrpRing p).runs.length = (d.mrpRing p).runs.length + 1 := by
  have hf : ∃ (e : Dev) (n : Nat) (recs : List (List Byte)), e.mrp.rings = d.mrp.rings ∧ d.freeze_ p b =
      (e.modBank p b (fun x => { x with st := .exporting })).modMrpRing p
        (fun r => { r with runs := r.runs ++ [(b, (d.bank p b).first, n, recs)] }) := by
    unfold Dev.freeze_
    dsimp only
    rw [if_neg (by rw [h]; exact Bool.noConfusion)]
    refine ⟨_, _, _, ?_, rfl⟩
    rfl
  obtain ⟨e, n, recs, he, hf⟩ := hf
  rw [hf, bank_modMrpRing, mrpRing_modMrpRing, bank_modBank, if_pos rfl, mrpRing_modBank]
  refine ⟨rfl, ?_⟩
  unfold Dev.mrpRing
  rw [he, List.length_append]
  rfl

theorem freeze_disabled {d : Dev} {p : Nat} (h : (d.mrpRing p).enable = false) (b : Nat) :
    (d.freeze_ p b).bank p b = {} ∧ (d.freeze_ p b).mrpRing p = d.mrpRing p := by
  unfold Dev.freeze_
  extract_lets x r lates d1
  rw [if_pos (by rw [show r.enable = false from h]; rfl)]
  exact ⟨bank_freeBank .., rfl⟩

/-! ### Records (13 R411) -/

theorem mrp_bump (d : Dev) (k : Ctr) (n : Nat) : (d.bump k n).mrp = d.mrp := by simp
theorem mrp_signal (d : Dev) (e v : Nat) : (d.signal e v).mrp = d.mrp := by simp
theorem mrp_emit (d : Dev) (o : Out) : (d.emit o).mrp = d.mrp := by simp
theorem mrp_liveMs (d : Dev) (k : Nat) : (d.liveMs k).mrp = d.mrp := by simp

theorem stampRec_slots (r : List Byte) (seq cycles : Nat) : (stampRec r seq cycles).length / 64 = r.length / 64 := by
  unfold stampRec
  simp only [List.length_append, List.length_take, List.length_drop, length_leBytes]
  omega

theorem slots_stampRec (x : MrpRing) (r : List Byte) (seq cycles : Nat) : x.slots (stampRec r seq cycles).length = x.slots r.length := by
  unfold MrpRing.slots
  simp only [stampRec_slots]

/-- What a record written leaves of the ring and of the banks. -/
theorem mrpRing_mrpPut (d : Dev) (p : Nat) (r : List Byte) : ((d.mrpPut p r).2.mrpRing p) =
    { d.mrpRing p with prod := (d.mrpRing p).prod + BitVec.ofNat 32 ((d.mrpRing p).slots r.length), seq := (d.mrpRing p).seq + 1 } ∧
    ∀ b, (d.mrpPut p r).2.bank p b = d.bank p b := by
  unfold Dev.mrpPut
  extract_lets x e r' n at_ prod d1 d2
  have hn : n = (d.mrpRing p).slots r.length := slots_stampRec _ _ _ _
  have hm : (((d2.emit (.hostWrite e x.wb (leBytes 4 prod.toNat))).bump .exportRecords p).signal e (580 + p)).mrp = d2.mrp := by
    rw [mrp_signal, mrp_bump, mrp_emit]
  refine ⟨?_, fun b => ?_⟩
  · rw [mrpRing_mrp hm, mrpRing_modMrpRing, mrpRing_mrp (mrp_emit d _), ← hn]
  · rw [bank_mrp hm, bank_modMrpRing, bank_mrp (mrp_emit d _)]

theorem doMinuteRecordWrite_next {d : Dev} {p b first skipped : Nat} {r : List Byte} {rest : List (List Byte)}
    {more : List (Nat × Nat × Nat × List (List Byte))} (hup : (d.ep (d.polder p).owner).up = true) (hreg : d.regRuns 3 = true)
    (hr : (d.mrpRing p).runs = (b, first, skipped, r :: rest) :: more) (hx : (d.mrpRing p).extra = [] ∨ (d.mrpRing p).written ≠ 0) :
    doMinuteRecordWrite p d = if (d.mrpRing p).room r.length = true then
      (d.mrpPut p r).2.modMrpRing p (fun q => { q with
        runs := (b, first, skipped, rest) :: more, written := q.written + 1, check := crcRefl 0x82F63B78 (d.mrpPut p r).1 q.check })
      else d := by
  unfold doMinuteRecordWrite
  dsimp only
  have hne : (decide ((d.mrpRing p).written = 0) && !(d.mrpRing p).extra.isEmpty) = false := by
    rcases hx with h | h
    · rw [h]; simp
    · rw [decide_eq_false h, Bool.false_and]
  rw [if_neg (by rw [hup, hreg]; decide), hr]
  dsimp only
  rw [hne, if_neg Bool.false_ne_true]
  cases (d.mrpRing p).room r.length
  · rfl
  · rfl

/-- The ring after its run's next record. -/
theorem doMinuteRecordWrite_trailer {d : Dev} {p b first skipped : Nat} {more : List (Nat × Nat × Nat × List (List Byte))}
    (hup : (d.ep (d.polder p).owner).up = true) (hreg : d.regRuns 3 = true)
    (hr : (d.mrpRing p).runs = (b, first, skipped, []) :: more) (hroom : (d.mrpRing p).room 64 = true) :
    ∃ t, doMinuteRecordWrite p d = ((d.mrpPut p t).2.modMrpRing p
      (fun r => { r with runs := more, written := 0, check := 0xFFFFFFFF, unrecorded := 0 })).freeBank p b := by
  unfold doMinuteRecordWrite
  dsimp only
  rw [if_neg (by rw [hup, hreg]; decide), hr]
  dsimp only
  rw [if_neg (by rw [hroom]; decide)]
  exact ⟨_, rfl⟩

theorem doMinuteRecordWrite_extra {d : Dev} {p : Nat} {r : List Byte} {rest : List (List Byte)}
    (hup : (d.ep (d.polder p).owner).up = true) (hreg : d.regRuns 3 = true) (hr : (d.mrpRing p).runs = [])
    (hx : (d.mrpRing p).extra = r :: rest) (hroom : (d.mrpRing p).room r.length = true) :
    doMinuteRecordWrite p d = ((d.modMrpRing p (fun r => { r with extra := rest })).mrpPut p r).2 := by
  unfold doMinuteRecordWrite
  dsimp only
  rw [if_neg (by rw [hup, hreg]; decide), hr]
  dsimp only
  rw [hx]
  dsimp only
  rw [if_pos hroom]

/-! ### Updates (13 R409, R410) -/

theorem bankOf_congr {d d' : Dev} (h : d'.mrp.banks = d.mrp.banks) (p epoch : Nat) : d'.bankOf p epoch = d.bankOf p epoch := by
  unfold Dev.bankOf Dev.bank
  rw [h]

/-- A merged update has left its front end. -/
def Dev.unmerge (d : Dev) (i : Nat) : Dev := { d with mrp := { d.mrp with merging := d.mrp.merging.eraseIdx i } }

theorem combine_bank {d : Dev} {i b : Nat} {u : Merge} (h : d.mrp.merging[i]? = some u) (hb : d.bankOf u.polder u.epoch = some b) :
    d.combine i none = (d.unmerge i).modBank u.polder b (fun x => { x with counts := tmod x.counts [] u.tenant (fun l => addCounts l u.inc) }) := by
  unfold Dev.combine
  rw [h]
  dsimp only
  rw [show Dev.bankOf { d with mrp := { d.mrp with merging := d.mrp.merging.eraseIdx i } } u.polder u.epoch = some b from hb]
  rfl

/-- The counter that failed restarts, and its tenant's counts are invalid. -/
def Bank.spoil (x : Bank) (tenant k : Nat) : Bank :=
  { x with
    counts := tmod x.counts [] tenant (fun l => l.set k 0)
    invalid := if x.invalid.contains tenant then x.invalid else x.invalid ++ [tenant] }

theorem mem_spoil (x : Bank) (tenant k : Nat) : tenant ∈ (x.spoil tenant k).invalid := by
  unfold Bank.spoil
  dsimp only
  split
  next h => exact List.contains_iff_mem.1 h
  next => simp

theorem combine_bad {d : Dev} {i b : Nat} {u : Merge} (h : d.mrp.merging[i]? = some u) (hb : d.bankOf u.polder u.epoch = some b) (k : Nat) :
    d.combine i (some k) = (((d.unmerge i).modBank u.polder b (fun x => x.spoil u.tenant k)).liveMs 0xE19).modBank u.polder b
      (fun x => { x with counts := tmod x.counts [] u.tenant (fun l => addCounts l u.inc) }) := by
  unfold Dev.combine
  rw [h]
  dsimp only
  rw [show Dev.bankOf { d with mrp := { d.mrp with merging := d.mrp.merging.eraseIdx i } } u.polder u.epoch = some b from hb]
  rfl

theorem combine_late {d : Dev} {i : Nat} {u : Merge} (h : d.mrp.merging[i]? = some u) (hb : d.bankOf u.polder u.epoch = none)
    (hl : d.mrp.late = []) (bad : Option Nat) :
    (d.combine i bad).mrp.merging = d.mrp.merging.eraseIdx i ∧ (d.combine i bad).mrp.late =
      [{ tenant := u.tenant, epoch := d.epochOfTag u.epoch, polder := u.polder, delta := u.inc }] := by
  unfold Dev.combine
  rw [h]
  dsimp only
  rw [show Dev.bankOf { d with mrp := { d.mrp with merging := d.mrp.merging.eraseIdx i } } u.polder u.epoch = none from hb]
  dsimp only
  change ((d.unmerge i).lateUpdate u.tenant u.polder (d.epochOfTag u.epoch) u.inc).mrp.merging = _ ∧
    ((d.unmerge i).lateUpdate u.tenant u.polder (d.epochOfTag u.epoch) u.inc).mrp.late = _
  unfold Dev.lateUpdate
  generalize hd : (d.unmerge i).bump .lateUpdates u.polder = e
  have he : e.mrp = (d.unmerge i).mrp := by rw [← hd, mrp_bump]
  have hel : e.mrp.late = [] := by rw [he]; exact hl
  dsimp only
  rw [hel, if_neg (by simp), if_pos (by simp), he]
  exact ⟨rfl, rfl⟩

/-! ### The ledger (13 R414-R416) -/

theorem bal_bump (d : Dev) (k : Ctr) (n : Nat) : (d.bump k n).bal = d.bal := by simp

/-- The oldest update that missed leaves, and is counted. -/
def Dev.takeMiss (d : Dev) (rest : List (Flow × Nat)) : Dev := ({ d with mrp := { d.mrp with misses := rest } }).bump .ledgerMiss 0

theorem mrp_takeMiss (d : Dev) (rest : List (Flow × Nat)) : (d.takeMiss rest).mrp = { d.mrp with misses := rest } := mrp_bump ..
theorem bal_takeMiss (d : Dev) (rest : List (Flow × Nat)) : (d.takeMiss rest).bal = d.bal := bal_bump ..

/-- An access of the ledger within its budget is counted. -/
def Dev.spend (d : Dev) (used : Nat) : Dev := { d with mrp := { d.mrp with budgetTick := d.bal.tick / 25, budgetUsed := used + 1 } }

theorem mrp_spend (d : Dev) (used : Nat) : (d.spend used).mrp = { d.mrp with budgetTick := d.bal.tick / 25, budgetUsed := used + 1 } := rfl
theorem bal_spend (d : Dev) (used : Nat) : (d.spend used).bal = d.bal := rfl
theorem spw_spend (d : Dev) (used : Nat) : (d.spend used).spw = d.spw := rfl

/-- The accesses of the present microsecond. -/
def Dev.budgetNow (d : Dev) : Nat := if d.mrp.budgetTick = d.bal.tick / 25 then d.mrp.budgetUsed else 0

theorem doLedgerMiss_over {d : Dev} {f : Flow} {slot : Nat} {rest : List (Flow × Nat)} (h : d.mrp.misses = (f, slot) :: rest)
    (hu : 9375 ≤ d.budgetNow) (bad : Bool) (ev : Option Nat) : doLedgerMiss bad ev d = (d.takeMiss rest).toUnattr f true := by
  unfold doLedgerMiss
  rw [h]
  dsimp -zeta only
  extract_lets s1 d1 d2 now used
  have h2 : d2 = d.takeMiss rest := rfl
  have hused : used = d.budgetNow := by
    unfold used now Dev.budgetNow
    rw [h2, mrp_takeMiss, bal_takeMiss]
  rw [if_pos (by rw [hused]; exact hu), h2]

/-- What an update within its budget does by what its home slot holds. -/
def Dev.meetFlow (e : Dev) (f : Flow) (slot : Nat) : Option Flow → Dev
  | none => if e.ledgerSlots ≤ slot ∨ e.ledgerCap f.polder ≤ e.flowsOf f.polder then e.toUnattr f false else e.setFlow slot (some f)
  | some g =>
    if g.key = f.key ∧ g.polder = f.polder then
      e.setFlow slot (some { g with
        bytes := g.bytes + f.bytes, pkts := g.pkts + f.pkts, firstSec := if g.pkts = 0 then f.firstSec else g.firstSec
        lastSec := f.lastSec, lastTick := f.lastTick, cached := true })
    else if !e.flowIdle g || e.ledgerRingFull g.polder then e.toUnattr f false
    else if e.ledgerCap f.polder + (if g.polder = f.polder then 1 else 0) ≤ e.flowsOf f.polder then e.toUnattr f false
    else (e.exportFlow g true true).setFlow slot (some f)

theorem meetFlow_free {e : Dev} {f : Flow} {slot : Nat} (hs : slot < e.ledgerSlots) (hc : e.flowsOf f.polder < e.ledgerCap f.polder) :
    e.meetFlow f slot none = e.setFlow slot (some f) := by
  unfold Dev.meetFlow
  dsimp only
  exact if_neg (not_or.2 ⟨Nat.not_le.2 hs, Nat.not_le.2 hc⟩)

theorem meetFlow_same {f g : Flow} (hk : g.key = f.key) (hp : g.polder = f.polder) (e : Dev) (slot : Nat) : e.meetFlow f slot (some g) =
    e.setFlow slot (some { g with
      bytes := g.bytes + f.bytes, pkts := g.pkts + f.pkts, firstSec := if g.pkts = 0 then f.firstSec else g.firstSec
      lastSec := f.lastSec, lastTick := f.lastTick, cached := true }) := by
  unfold Dev.meetFlow
  dsimp only
  exact if_pos ⟨hk, hp⟩

theorem meetFlow_other {e : Dev} {f g : Flow} (hk : g.key ≠ f.key) (hi : e.flowIdle g = false) (slot : Nat) :
    e.meetFlow f slot (some g) = e.toUnattr f false := by
  unfold Dev.meetFlow
  dsimp only
  rw [if_neg (fun h => hk h.1), if_pos (by rw [hi]; rfl)]

/-- An update within its budget meets what its home slot holds. -/
theorem doLedgerMiss_within {d : Dev} {f : Flow} {slot : Nat} {rest : List (Flow × Nat)} (h : d.mrp.misses = (f, slot) :: rest)
    (hu : d.budgetNow < 9375) {bad : Bool} (hok : ∀ g, tget d.mrp.flows none slot = some g → (bad && !g.cached) = false) {e : Dev}
    (he : e = (d.takeMiss rest).spend d.budgetNow) :
    doLedgerMiss bad none d = e.meetFlow f slot (tget d.mrp.flows none slot) := by
  unfold doLedgerMiss
  rw [h]
  dsimp -zeta only
  extract_lets s1 d1 d2 now used s3 d3 d4 d5 install
  have h2 : d2 = d.takeMiss rest := rfl
  have hused : used = d.budgetNow := by
    unfold used now Dev.budgetNow
    rw [h2, mrp_takeMiss, bal_takeMiss]
  have h4 : d4 = e := by
    rw [he]
    show d2.spend used = _
    rw [hused, h2]
  have hflows : d4.mrp.flows = d.mrp.flows := by
    rw [h4, he]
    show (d.takeMiss rest).mrp.flows = _
    rw [mrp_takeMiss]
  have h5 : d5 = d4 := by
    unfold d5
    rw [hflows]
    cases hg : tget d.mrp.flows none slot with
    | none => rfl
    | some g =>
      dsimp only
      rw [hok g hg, if_neg Bool.false_ne_true]
  rw [if_neg (by rw [hused]; omega)]
  clear_value d5
  rw [h5, hflows]
  unfold install
  clear_value d4
  subst h4
  unfold Dev.meetFlow
  rfl

theorem toUnattr_mrp (d : Dev) (f : Flow) (budget : Bool) : (d.toUnattr f budget).mrp = { d.mrp with
    unattr := tmod d.mrp.unattr {} f.tenant (fun u => { u with
      bytes := u.bytes + f.bytes, pkts := u.pkts + f.pkts
      budget := u.budget + (if budget then f.pkts else 0), collide := u.collide + (if budget then 0 else f.pkts) }) } := by
  unfold Dev.toUnattr
  rw [mrp_liveMs, mrp_bump]

theorem unattr_toUnattr (d : Dev) (f : Flow) (budget : Bool) : (d.toUnattr f budget).unattr f.tenant =
    { d.unattr f.tenant with
      bytes := (d.unattr f.tenant).bytes + f.bytes, pkts := (d.unattr f.tenant).pkts + f.pkts
      budget := (d.unattr f.tenant).budget + (if budget then f.pkts else 0)
      collide := (d.unattr f.tenant).collide + (if budget then 0 else f.pkts) } := by
  unfold Dev.unattr
  rw [toUnattr_mrp, tget_tmod, if_pos rfl]

theorem flow_setFlow (d : Dev) (slot : Nat) (f : Option Flow) : tget (d.setFlow slot f).mrp.flows none slot = f := by
  unfold Dev.setFlow
  rw [tget_tset, if_pos rfl]

theorem misses_setFlow (d : Dev) (slot : Nat) (f : Option Flow) : (d.setFlow slot f).mrp.misses = d.mrp.misses := rfl

theorem mrp_exportFlow (d : Dev) (f : Flow) (final evicted : Bool) : (d.exportFlow f final evicted).mrp.flows = d.mrp.flows := by
  unfold Dev.exportFlow
  dsimp only
  split <;> rfl

theorem extra_exportFlow {d : Dev} {f : Flow} (h : (d.mrpRing f.polder).enable = true) (h' : (d.mrpRing f.polder).ledger = true)
    (final evicted : Bool) : ((d.exportFlow f final evicted).mrpRing f.polder).extra =
      (d.mrpRing f.polder).extra ++ [flowRec f d.mrp.epoch final evicted] := by
  unfold Dev.exportFlow
  dsimp only
  rw [if_pos (by rw [h, h']; rfl), mrpRing_modMrpRing]

/-- A flow that cannot be read is lost. -/
theorem ledgerBad_lost (d : Dev) (slot : Nat) (f : Flow) :
    tget (d.ledgerBad slot f).mrp.flows none slot = none ∧ ((d.ledgerBad slot f).src 0xE1A).live = true := by
  unfold Dev.ledgerBad
  constructor
  · rw [mrp_record, mrp_liveMs, mrp_bump, flow_setFlow]
  · rw [src_fcr (show Dev.fcr _ = (((d.setFlow slot none).bump .ledgerEcc f.polder).liveMs 0xE1A).fcr by simp)]
    exact src_liveMs_self (by decide) ..

theorem spw_takeMiss (d : Dev) (rest : List (Flow × Nat)) : (d.takeMiss rest).spw = d.spw := by
  unfold Dev.takeMiss
  simp

theorem ledgerSlots_congr {d d' : Dev} (h : d'.spw = d.spw) : d'.ledgerSlots = d.ledgerSlots := by unfold Dev.ledgerSlots; rw [h]

section
variable {d d' : Dev} {rest : List (Flow × Nat)} {n k : Nat}

theorem ledgerCap_congr (h : d'.mrp = { d.mrp with misses := rest, budgetTick := n, budgetUsed := k }) (p : Nat) :
    d'.ledgerCap p = d.ledgerCap p := by unfold Dev.ledgerCap; rw [h]
theorem flowsOf_congr (h : d'.mrp = { d.mrp with misses := rest, budgetTick := n, budgetUsed := k }) (p : Nat) :
    d'.flowsOf p = d.flowsOf p := by unfold Dev.flowsOf; rw [h]
theorem flowIdle_congr (h : d'.mrp = { d.mrp with misses := rest, budgetTick := n, budgetUsed := k }) (hb : d'.bal = d.bal) (f : Flow) :
    d'.flowIdle f = d.flowIdle f := by unfold Dev.flowIdle Dev.ledgerCfg; rw [h, hb]
end

theorem unattr_congr {d d' : Dev} (h : d'.mrp.unattr = d.mrp.unattr) (t : Nat) : d'.unattr t = d.unattr t := by unfold Dev.unattr; rw [h]

theorem readable_flow {bad : Bool} {g g' : Flow} (h : bad = false ∨ g.cached = true) (hg : some g = some g') : (bad && !g'.cached) = false := by
  obtain rfl := Option.some.inj hg
  rcases h with h | h
  · rw [h, Bool.false_and]
  · rw [h, Bool.not_true, Bool.and_false]

theorem mrpRing_freeBank (d : Dev) (p q b : Nat) : (d.freeBank q b).mrpRing p = d.mrpRing p := rfl

theorem bal_freeze_stall (d : Dev) (p b q : Nat) : ((d.freeze_ p b).stall q).bal = d.bal := by simp

theorem doBankFreeze_bank {d : Dev} {p b : Nat} (h : d.bankIn p .closing = some b) :
    doBankFreeze p d = ((d.reach ((d.bank p b).endTick + msTicks d.mrp.closeMs)).freeze_ p b).stall p := by
  unfold doBankFreeze
  rw [h]

theorem epoch_doEpochEnd {d : Dev} (h : d.corePowered = true) :
    (doEpochEnd d).mrp.epoch = (doEpochEnd d).epochOf (doEpochEnd d).timeNsAll := by
  rw [doEpochEnd_steps h]
  obtain ⟨he, ho, ht⟩ := epochSteps_keep d.nextEpoch.mrp.epoch (d.epochStart (d.mrp.epoch + 1)) d.nextEpoch.defined d.nextEpoch
  rw [he, epochOf_congr ho, timeNsAll_congr ht]
  exact nextEpoch_epoch d

/-- A row that leaves the device answers the same state. -/
theorem next_same {s : State} {d : Dev} (h : d = s.dev) : (.next { s with dev := d } : Host.Outcome State Fault Refusal) = .next s := by
  rw [h]

/-- Settles O32: each row by its equation; the end of an epoch by the step of each defined polder. -/
theorem minuteRepeaterCountsAndExports : Obligations.MinuteRepeaterCountsAndExports := by
  unfold Obligations.MinuteRepeaterCountsAndExports
  intro s
  refine ⟨fun h => ?_, fun h => ?_, fun p h => ?_, fun p b h => ?_, fun p h => ?_, fun p hup hreg => ⟨?_, ?_, ?_⟩, fun i bad h => ?_,
    fun i u hu => ⟨fun b hb => ⟨?_, fun k => ?_⟩, fun hb hl bad => ?_⟩, fun bad ev h => ?_, ?_, fun slot bad h => ?_,
    fun slot f hf => ⟨fun hc => ?_, fun hi => ?_, fun hi => ?_⟩⟩
  · exact next_same (d := doEpochEnd s.dev) (by unfold doEpochEnd; rw [h]; rfl)
  · refine ⟨{ s with dev := doEpochEnd s.dev }, rfl, ?_, fun p b hp hst hb => bank_doEpochEnd h hp hst hb⟩
    dsimp only
    exact epoch_doEpochEnd h
  · exact next_same (d := doBankFreeze p s.dev) (by unfold doBankFreeze; rw [h])
  · refine ⟨{ s with dev := doBankFreeze p s.dev }, rfl, ?_⟩
    dsimp only
    rw [doBankFreeze_bank h]
    generalize ht : (s.dev.bank p b).endTick + msTicks s.dev.mrp.closeMs = n
    have hr : (s.dev.reach n).mrpRing p = s.dev.mrpRing p := mrpRing_mrp (mrp_reach ..) p
    rw [bank_mrp (mrp_stall ..), mrpRing_mrp (mrp_stall ..), ← hr]
    refine ⟨?_, fun he => freeze_enabled he b, fun he => freeze_disabled he b⟩
    have hm : n = (s.dev.bank p b).endTick + 25000 * s.dev.mrp.closeMs := ht.symm
    rw [← hm, bal_freeze_stall]
    exact tick_reach ..
  · refine next_same (d := doMinuteRecordWrite p s.dev) ?_
    unfold doMinuteRecordWrite
    rcases h with h | h
    · rw [h]; rfl
    · rw [h, Bool.not_false, Bool.or_true]; rfl
  · intro b first skipped r rest more hr hx
    refine ⟨fun hroom => next_same (d := doMinuteRecordWrite p s.dev) ?_, fun hroom => ⟨{ s with dev := doMinuteRecordWrite p s.dev }, rfl, ?_⟩⟩
    · rw [doMinuteRecordWrite_next hup hreg hr hx, hroom]; rfl
    · dsimp only
      rw [doMinuteRecordWrite_next hup hreg hr hx, if_pos hroom, mrpRing_modMrpRing, (mrpRing_mrpPut _ _ _).1]
      exact ⟨rfl, rfl, rfl, rfl⟩
  · intro b first skipped more hr hroom
    obtain ⟨t, ht⟩ := doMinuteRecordWrite_trailer hup hreg hr hroom
    refine ⟨{ s with dev := doMinuteRecordWrite p s.dev }, rfl, ?_⟩
    dsimp only
    rw [ht, bank_freeBank, mrpRing_freeBank, mrpRing_modMrpRing, (mrpRing_mrpPut _ _ _).1]
    exact ⟨rfl, rfl, rfl, rfl⟩
  · intro r rest hr hx hroom
    refine ⟨{ s with dev := doMinuteRecordWrite p s.dev }, rfl, ?_⟩
    dsimp only
    rw [doMinuteRecordWrite_extra hup hreg hr hx hroom, (mrpRing_mrpPut _ _ _).1, mrpRing_modMrpRing]
    exact ⟨rfl, rfl⟩
  · exact next_same (d := doCombinedUpdate i bad s.dev) (by unfold doCombinedUpdate Dev.combine; rw [h])
  · refine ⟨{ s with dev := doCombinedUpdate i none s.dev }, rfl, ?_⟩
    unfold doCombinedUpdate
    dsimp only
    rw [combine_bank hu hb, bank_modBank, if_pos rfl]
    refine ⟨rfl, ?_⟩
    rw [tget_tmod, if_pos rfl]
    rfl
  · refine ⟨{ s with dev := doCombinedUpdate i (some k) s.dev }, rfl, ?_⟩
    unfold doCombinedUpdate
    dsimp only
    rw [combine_bad hu hb, bank_modBank, if_pos rfl, bank_mrp (mrp_liveMs ..), bank_modBank, if_pos rfl]
    refine ⟨?_, ?_, mem_spoil _ _ k, src_liveMs_self (by decide) ..⟩
    · exact congrArg Mrp.merging (mrp_liveMs ..)
    · rw [tget_tmod, if_pos rfl]
      unfold Bank.spoil
      rw [tget_tmod, if_pos rfl]
      rfl
  · exact ⟨{ s with dev := doCombinedUpdate i bad s.dev }, rfl, combine_late hu hb hl bad⟩
  · exact next_same (d := doLedgerMiss bad ev s.dev) (by unfold doLedgerMiss; rw [h])
  · intro f slot rest bad used h hused
    have hused : used = s.dev.budgetNow := hused
    subst hused
    generalize he : (s.dev.takeMiss rest).spend s.dev.budgetNow = e
    have hmrp : e.mrp = { s.dev.mrp with misses := rest, budgetTick := s.dev.bal.tick / 25, budgetUsed := s.dev.budgetNow + 1 } := by
      rw [← he, mrp_spend, mrp_takeMiss, bal_takeMiss]
    have hbal : e.bal = s.dev.bal := by rw [← he, bal_spend, bal_takeMiss]
    have hspw : e.spw = s.dev.spw := by rw [← he, spw_spend, spw_takeMiss]
    refine ⟨fun hu hn hs hc => ?_, fun g hu hg hb hk hp => ?_, fun g hu hg hb hk hi => ?_, fun hu => ?_⟩
    · refine ⟨{ s with dev := doLedgerMiss bad none s.dev }, rfl, ?_⟩
      dsimp only
      rw [doLedgerMiss_within h hu (fun g hg => absurd (hn.symm.trans hg) (by simp)) he.symm, hn,
        meetFlow_free (by rw [ledgerSlots_congr hspw]; exact hs) (by rw [ledgerCap_congr hmrp, flowsOf_congr hmrp]; exact hc)]
      exact ⟨by rw [misses_setFlow, hmrp], flow_setFlow ..⟩
    · refine ⟨{ s with dev := doLedgerMiss bad none s.dev }, rfl, ?_⟩
      dsimp only
      rw [doLedgerMiss_within h hu (fun g' hg' => readable_flow hb (hg.symm.trans hg')) he.symm, hg, meetFlow_same hk hp]
      exact ⟨by rw [misses_setFlow, hmrp], flow_setFlow ..⟩
    · refine ⟨{ s with dev := doLedgerMiss bad none s.dev }, rfl, ?_⟩
      dsimp only
      rw [doLedgerMiss_within h hu (fun g' hg' => readable_flow hb (hg.symm.trans hg')) he.symm, hg,
        meetFlow_other hk ((flowIdle_congr hmrp hbal g).trans hi), unattr_toUnattr, toUnattr_mrp, unattr_congr (d := s.dev) (by rw [hmrp]), hmrp]
      exact ⟨rfl, rfl, rfl, rfl⟩
    · refine ⟨{ s with dev := doLedgerMiss bad none s.dev }, rfl, ?_⟩
      dsimp only
      rw [doLedgerMiss_over h hu, unattr_toUnattr, toUnattr_mrp, unattr_congr (d := s.dev) (by rw [mrp_takeMiss]), mrp_takeMiss]
      exact ⟨rfl, rfl, rfl, rfl⟩
  · exact next_same (d := doLedgerWalkerVisit slot bad s.dev) (by unfold doLedgerWalkerVisit; rw [h])
  · refine ⟨{ s with dev := doLedgerWalkerVisit slot true s.dev }, rfl, ?_⟩
    dsimp only
    unfold doLedgerWalkerVisit
    rw [hf]
    dsimp only
    rw [hc, if_pos (by decide)]
    exact ledgerBad_lost ..
  · refine ⟨{ s with dev := doLedgerWalkerVisit slot false s.dev }, rfl, ?_⟩
    dsimp only
    unfold doLedgerWalkerVisit
    rw [hf]
    dsimp only
    rw [Bool.false_and, if_neg Bool.false_ne_true, if_pos hi]
    exact ⟨flow_setFlow .., fun he hl => extra_exportFlow he hl ..⟩
  · refine ⟨{ s with dev := doLedgerWalkerVisit slot false s.dev }, rfl, ?_⟩
    dsimp only
    unfold doLedgerWalkerVisit
    rw [hf]
    dsimp only
    rw [Bool.false_and, if_neg Bool.false_ne_true, hi, if_neg Bool.false_ne_true]
    refine ⟨fun ha hd => ?_, fun hd => ?_⟩
    · rw [if_pos ⟨ha, hd⟩, flow_setFlow]
      rfl
    · rw [if_neg (by omega)]

end Sys2Proof.Machine
end

section
/-! PROOFS. The commands of the ledger, its exports and the meters (13 R403, R412, R420-R423). -/
namespace Sys2Proof.Machine

theorem mrp_fail (d : Dev) (c : CmdRef) (st detail : Nat) : (d.fail c st detail).mrp = d.mrp := by simp
theorem mrp_ok (d : Dev) (c : CmdRef) (r0 r1 detail : Nat) : (d.ok c r0 r1 detail).mrp = d.mrp := by simp

theorem isRunning_mrp {d : Dev} {c : CmdRef} {x : Cmd} (h : d.isRunning c x) (m : Mrp) : ({ d with mrp := m }).isRunning c x := h
theorem isRunning_liveMs {d : Dev} {c : CmdRef} {x : Cmd} (h : d.isRunning c x) (k : Nat) : (d.liveMs k).isRunning c x := by
  unfold Dev.isRunning Dev.cmd? Dev.ep
  rw [show (d.liveMs k).hif = d.hif by simp]
  exact h

/-- A step that ends a command in an error leaves the meter. -/
theorem fail_mrp {d e : Dev} {c : CmdRef} {x : Cmd} (h : d.isRunning c x) {st detail : Nat} (he : e = d.fail c st detail) :
    e.ended c x (failDone st detail) ∧ e.mrp = d.mrp := by
  subst he
  exact ⟨fail_ended h, mrp_fail ..⟩

/-! ### OP_LEDGER_CONFIG (13 R422) -/

/-- The ledger settings that a command brings. -/
def ledgerAsked (x : Cmd) : LedgerCfg :=
  { enable := decide (x.fld 17 0 1 = 1), idleS := if x.fld 20 0 16 = 0 then 60 else x.fld 20 0 16, activeS := x.fld 22 0 16 }

theorem doOpLedgerConfig_run {c : CmdRef} {io : Io} {d : Dev} {x : Cmd} (h : d.isRunning c x) (hop : isOp 0x42 x = true) :
    doOpLedgerConfig c io d = if 3600 < x.fld 20 0 16 then d.badOp c 20 else if 3600 < x.fld 22 0 16 then d.badOp c 22
      else ({ d with mrp := { d.mrp with ledgers := tset d.mrp.ledgers {} (x.fld 16 0 3) (ledgerAsked x) } }).ok c :=
  step1_run h hop

/-! ### OP_LEDGER_EXPORT_SET (13 R412, R423) -/

/-- The flags that SET stores. -/
def MrpRing.flagged (r : MrpRing) (x : Cmd) : MrpRing :=
  { r with skipZero := decide (x.fld 18 1 1 = 1), ledger := decide (x.fld 18 2 1 = 1) }

/-- A ring that SET enables. -/
def MrpRing.enabled (r : MrpRing) (x : Cmd) : MrpRing :=
  ({ r with
    enable := true, base := x.fld 24 0 64, sizeLog2 := x.fld 19 0 5, wb := x.fld 32 0 64, prod := 0, cons := 0, seq := 0 }).flagged x

theorem doOpLedgerExportSetSet_run {c : CmdRef} {io : Io} {d : Dev} {x : Cmd} (h : d.isRunning c x)
    (hop : isOpAct 0x43 (17, 0, 2) 0 x = true) : doOpLedgerExportSetSet c io d =
      if (!decide (x.fld 18 0 1 = 1)) = true then
        ((if (d.mrpRing (x.fld 16 0 3)).enable = true then d.disableRing (x.fld 16 0 3) else d).modMrpRing (x.fld 16 0 3) (fun r => r.flagged x)).ok c
      else if x.fld 19 0 5 < 6 ∨ 20 < x.fld 19 0 5 then d.badOp c 19
      else if x.fld 24 0 64 % 4096 ≠ 0 then d.badOp c 24
      else if x.fld 32 0 64 % 8 ≠ 0 then d.badOp c 32
      else if (d.mrpRing (x.fld 16 0 3)).enable = true then
        if x.fld 24 0 64 = (d.mrpRing (x.fld 16 0 3)).base ∧ x.fld 19 0 5 = (d.mrpRing (x.fld 16 0 3)).sizeLog2 then
          (d.modMrpRing (x.fld 16 0 3) (fun r => r.flagged x)).ok c
        else d.fail c stWrongMode
      else (d.modMrpRing (x.fld 16 0 3) (fun r => r.enabled x)).ok c :=
  step1_run h hop

/-- Banks freed stay free while others are freed. -/
theorem bank_freeBanks {p b : Nat} (runs : List (Nat × Nat × Nat × List (List Byte))) : ∀ (d : Dev),
    (d.bank p b = {} ∨ ∃ y ∈ runs, y.1 = b) → (runs.foldl (fun (d : Dev) r => d.freeBank p r.1) d).bank p b = {} := by
  induction runs with
  | nil => exact fun d h => h.elim id fun ⟨_, hy, _⟩ => absurd hy List.not_mem_nil
  | cons r runs ih =>
    intro d h
    rw [List.foldl_cons]
    refine ih _ ?_
    by_cases hb : r.1 = b
    · left
      rw [hb]
      exact bank_freeBank ..
    · refine h.imp (fun h => ?_) fun ⟨y, hy, hyb⟩ => ⟨y, (List.mem_cons.1 hy).resolve_left fun he => hb (he ▸ hyb), hyb⟩
      unfold Dev.freeBank
      rw [bank_modBank, if_neg (by omega), h]

theorem mrpRing_freeBanks (p : Nat) (runs : List (Nat × Nat × Nat × List (List Byte))) (d : Dev) :
    (runs.foldl (fun (d : Dev) r => d.freeBank p r.1) d).mrpRing p = d.mrpRing p :=
  foldl_keeps (fun d => d.mrpRing p) (f := fun (d : Dev) r => d.freeBank p r.1) (fun _ _ => rfl) runs d

/-- A ring that is disabled loses its runs, and their banks are freed. -/
theorem disableRing_parts (d : Dev) (p : Nat) : ((d.disableRing p).mrpRing p).enable = false ∧ ((d.disableRing p).mrpRing p).runs = [] ∧
    ∀ y ∈ (d.mrpRing p).runs, (d.disableRing p).bank p y.1 = {} := by
  unfold Dev.disableRing
  dsimp only
  rw [mrpRing_modMrpRing]
  exact ⟨rfl, rfl, fun y hy => by rw [bank_modMrpRing]; exact bank_freeBanks _ _ (.inr ⟨y, hy, rfl⟩)⟩

theorem isRunning_disableRing {d : Dev} {c : CmdRef} {x : Cmd} (h : d.isRunning c x) (p : Nat) : (d.disableRing p).isRunning c x := by
  unfold Dev.isRunning Dev.cmd? Dev.ep
  rw [show (d.disableRing p).hif = d.hif by simp]
  exact h

/-! ### FLUSH -/

/-- The flows of a polder with their slots. -/
def Dev.polderFlows (d : Dev) (p : Nat) : List (Nat × Flow) :=
  d.mrp.flows.filterMap (fun f => match f.2 with
    | some y => if y.polder = p ∧ 0 ≤ f.1 then some (f.1, y) else none
    | none => none)

/-- A flow is exported, and its counts restart. -/
def Dev.flushFlow (d : Dev) (f : Nat × Flow) : Dev := (d.exportFlow f.2 false false).setFlow f.1 (some (f.2.restart d.bal.tick))

theorem mem_of_tget {α : Type} {t : Tab α} {z a : α} {k : Nat} (h : tget t z k = a) (hz : a ≠ z) : (k, a) ∈ t := by
  induction t with
  | nil => exact absurd h.symm hz
  | cons e t ih =>
    obtain ⟨j, b⟩ := e
    unfold tget at h
    split at h
    next hj => rw [← hj, ← h]; exact List.mem_cons_self
    next => exact List.mem_cons_of_mem _ (ih h)

theorem mem_polderFlows {d : Dev} {p k : Nat} {f : Flow} (h : tget d.mrp.flows none k = some f) (hp : f.polder = p) :
    (k, f) ∈ d.polderFlows p := by
  refine List.mem_filterMap.2 ⟨(k, some f), mem_of_tget h (by simp), ?_⟩
  dsimp only
  rw [if_pos ⟨hp, Nat.zero_le k⟩]

/-- A slot holds no flow of a polder with counts. -/
def Dev.flushed (d : Dev) (p k : Nat) : Prop := ∀ f, tget d.mrp.flows none k = some f → f.polder = p → f.bytes = 0 ∧ f.pkts = 0

theorem flows_flushFlow (d : Dev) (f : Nat × Flow) (k : Nat) : tget (d.flushFlow f).mrp.flows none k =
    if f.1 = k then some (f.2.restart d.bal.tick) else tget d.mrp.flows none k := by
  unfold Dev.flushFlow Dev.setFlow
  dsimp only
  rw [tget_tset, mrp_exportFlow]

/-- A slot among those flushed is flushed, and so is one that was so. -/
theorem flushed_fold {p k : Nat} : ∀ (l : List (Nat × Flow)) (d : Dev), (d.flushed p k ∨ ∃ f ∈ l, f.1 = k) →
    (l.foldl Dev.flushFlow d).flushed p k
  | [], d, h => h.elim id fun ⟨_, hf, _⟩ => absurd hf List.not_mem_nil
  | f :: l, d, h => by
    rw [List.foldl_cons]
    refine flushed_fold l _ ?_
    by_cases hk : f.1 = k
    · refine .inl fun g hg _ => ?_
      rw [flows_flushFlow, if_pos hk] at hg
      obtain rfl := Option.some.inj hg
      exact ⟨rfl, rfl⟩
    · refine h.imp (fun h g hg => ?_) fun ⟨y, hy, hyk⟩ => ⟨y, (List.mem_cons.1 hy).resolve_left fun he => hk (he ▸ hyk), hyk⟩
      rw [flows_flushFlow, if_neg hk] at hg
      exact h g hg

/-- Every slot is flushed once all flows of the polder are exported. -/
theorem flushed_all (d : Dev) (p k : Nat) : ((d.polderFlows p).foldl Dev.flushFlow d).flushed p k := by
  refine flushed_fold _ _ ?_
  by_cases h : ∃ f, tget d.mrp.flows none k = some f ∧ f.polder = p
  · obtain ⟨f, hf, hp⟩ := h
    exact .inr ⟨(k, f), mem_polderFlows hf hp, rfl⟩
  · exact .inl fun f hf hp => absurd ⟨f, hf, hp⟩ h

theorem isRunning_flush {c : CmdRef} {x : Cmd} (l : List (Nat × Flow)) {d : Dev} (h : d.isRunning c x) : (l.foldl Dev.flushFlow d).isRunning c x := by
  have hh : (l.foldl Dev.flushFlow d).hif = d.hif :=
    foldl_keeps (fun d => d.hif) (f := Dev.flushFlow) (fun d f => by unfold Dev.flushFlow; simp) l d
  unfold Dev.isRunning Dev.cmd? Dev.ep
  rw [hh]
  exact h

theorem doOpLedgerExportSetFlush_all {c : CmdRef} {io : Io} {d : Dev} {x : Cmd} (h : d.isRunning c x)
    (hop : isOpAct 0x43 (17, 0, 2) 2 x = true) (hs : x.scratch = []) (hp : io.pick = []) :
    doOpLedgerExportSetFlush c io d = ((d.polderFlows (x.fld 16 0 3)).foldl Dev.flushFlow d).ok c := by
  unfold doOpLedgerExportSetFlush
  rw [step1_run h hop]
  dsimp only
  rw [show ioChoice io 0 = 0 by unfold ioChoice; rw [hp]; rfl, if_pos rfl, hs]
  change (match (d.polderFlows (x.fld 16 0 3))[(d.polderFlows (x.fld 16 0 3)).length]? with
    | none => (((d.polderFlows (x.fld 16 0 3)).take (d.polderFlows (x.fld 16 0 3)).length).foldl Dev.flushFlow d).ok c
    | some f => (((d.polderFlows (x.fld 16 0 3)).take (d.polderFlows (x.fld 16 0 3)).length).foldl Dev.flushFlow d).again c [f.1]) = _
  rw [List.getElem?_eq_none (Nat.le_refl _), List.take_length]

/-! ### OP_METER_SET (13 R403, R421) -/

/-- The weir configuration that a command brings. -/
def weirAsked (x : Cmd) : WeirCfg :=
  { aware := decide (x.fld 17 0 1 = 1), yellow := decide (x.fld 17 1 1 = 1), red := x.fld 17 2 2, yellowPrio := x.fld 18 0 3
    redPrio := x.fld 18 3 3, cir := x.fld 24 0 32, pir := x.fld 28 0 32, cbs := x.fld 32 0 32, pbs := x.fld 36 0 32 }

/-- A weir as it is made. -/
def freshWeir (p : Nat) (cfg : WeirCfg) (now : Nat) : Weir :=
  { polder := p, cfg := cfg, next := some cfg, setTick := now, fresh := true, last := now }

/-- A weir is made. -/
def Dev.newWeir (d : Dev) (w p : Nat) (cfg : WeirCfg) : Dev :=
  { d with mrp := { d.mrp with weirs := tset d.mrp.weirs none w (some (freshWeir p cfg d.bal.tick)) } }

/-- WEIR_SET with a configuration in range. -/
def Dev.takeWeir (d : Dev) (c : CmdRef) (x : Cmd) (w : Nat) (cfg : WeirCfg) : Option Weir → Dev
  | some _ => (d.modWeir w (fun y => { y with next := some cfg, setTick := d.bal.tick })).ok c
  | none =>
    if d.quota x.polder 11 ≤ d.weirCount x.polder (w / 65536) then (d.liveMs (0x80 + 8 * x.polder)).fail c stNoRoom
    else (d.newWeir w x.polder cfg).ok c

theorem doOpMeterSetWeirSet_run {c : CmdRef} {io : Io} {d : Dev} {x : Cmd} (h : d.isRunning c x)
    (hop : isOpAct 0x44 (16, 0, 3) 0 x = true) : doOpMeterSetWeirSet c io d =
      if d.foreignWeir (d.mayAs c) (x.fld 20 0 18) = true then d.fail c stNotOwner
      else if (weirAsked x).red = 3 then d.badOp c 17
      else if (weirAsked x).cir < 1000 ∨ 1600000000 < (weirAsked x).cir then d.badOp c 24
      else if (weirAsked x).pir < (weirAsked x).cir ∨ 1600000000 < (weirAsked x).pir then d.badOp c 28
      else if (!decide (64 ≤ (weirAsked x).cbs ∧ (weirAsked x).cbs ≤ 16777216)) = true then d.badOp c 32
      else if (!decide (64 ≤ (weirAsked x).pbs ∧ (weirAsked x).pbs ≤ 16777216)) = true then d.badOp c 36
      else d.takeWeir c x (x.fld 20 0 18) (weirAsked x) (d.weir (x.fld 20 0 18)) := by
  unfold doOpMeterSetWeirSet
  rw [step1_run h hop]
  unfold Dev.takeWeir Dev.newWeir weirAsked
  rfl

theorem foreignWeir_some {d : Dev} {w : Nat} {y : Weir} (h : d.weir w = some y) (mine : Option Nat → Bool) :
    d.foreignWeir mine w = !mine (some y.polder) := by
  unfold Dev.foreignWeir
  rw [h]

theorem foreignWeir_mine {d : Dev} {w : Nat} {mine : Option Nat → Bool} (h : ∀ y, d.weir w = some y → mine (some y.polder) = true) :
    d.foreignWeir mine w = false := by
  unfold Dev.foreignWeir
  cases hw : d.weir w with
  | none => rfl
  | some y => simp [h y hw]

theorem weir_mrp {d d' : Dev} (h : d'.mrp = d.mrp) (w : Nat) : d'.weir w = d.weir w := by unfold Dev.weir; rw [h]

theorem weir_newWeir (d : Dev) (w p : Nat) (cfg : WeirCfg) : (d.newWeir w p cfg).weir w =
    some (freshWeir p cfg d.bal.tick) := by
  unfold Dev.weir Dev.newWeir
  rw [tget_tset, if_pos rfl]

theorem takeWeir_some {d : Dev} {c : CmdRef} {x : Cmd} (h : d.isRunning c x) {w : Nat} {y : Weir} (hw : d.weir w = some y) (cfg : WeirCfg) :
    (d.takeWeir c x w cfg (d.weir w)).ended c x okDone ∧
    (d.takeWeir c x w cfg (d.weir w)).weir w = some { y with next := some cfg, setTick := d.bal.tick } := by
  rw [hw]
  unfold Dev.takeWeir
  dsimp only
  refine ⟨ok_ended (isRunning_mrp h _), ?_⟩
  rw [weir_mrp (mrp_ok ..), weir_modWeir hw]

theorem takeWeir_room {d : Dev} {c : CmdRef} {x : Cmd} (h : d.isRunning c x) {w : Nat}
    (hq : d.weirCount x.polder (w / 65536) < d.quota x.polder 11) (cfg : WeirCfg) : (d.takeWeir c x w cfg none).ended c x okDone ∧
    ∃ y, (d.takeWeir c x w cfg none).weir w = some y ∧ y.polder = x.polder ∧ y.next = some cfg ∧ y.fresh = true := by
  unfold Dev.takeWeir
  dsimp only
  rw [if_neg (Nat.not_le.2 hq)]
  refine ⟨ok_ended (isRunning_mrp h _), ?_⟩
  rw [weir_mrp (mrp_ok ..), weir_newWeir]
  exact ⟨_, rfl, rfl, rfl, rfl⟩

theorem takeWeir_noRoom {d : Dev} {c : CmdRef} {x : Cmd} (h : d.isRunning c x) {w : Nat}
    (hq : d.quota x.polder 11 ≤ d.weirCount x.polder (w / 65536)) (cfg : WeirCfg) :
    (d.takeWeir c x w cfg none).ended c x (failDone stNoRoom) ∧ (d.takeWeir c x w cfg none).mrp = d.mrp := by
  unfold Dev.takeWeir
  dsimp only
  rw [if_pos hq]
  exact ⟨fail_ended (isRunning_liveMs h _), (mrp_fail ..).trans (mrp_liveMs ..)⟩

/-- The buckets of a weir refilled at the tick of its last refill. -/
theorem refill_now {y : Weir} {now : Nat} (hl : y.last = now) (hc : y.c ≤ y.cfg.cbs * 200000) (hp : y.p ≤ y.cfg.pbs * 200000) :
    (y.refill now).c = y.c ∧ (y.refill now).p = y.p := by
  unfold Weir.refill
  dsimp only
  rw [hl, Nat.sub_self]
  simp only [Nat.cast_zero, mul_zero, add_zero]
  exact ⟨min_eq_left hc, min_eq_left hp⟩

theorem doOpMeterSetWeirRead_run {c : CmdRef} {io : Io} {d : Dev} {x : Cmd} (h : d.isRunning c x)
    (hop : isOpAct 0x44 (16, 0, 3) 1 x = true) : doOpMeterSetWeirRead c io d =
      if d.foreignWeir (d.mayAs c) (x.fld 20 0 18) = true then d.fail c stNotOwner
      else match d.weir (x.fld 20 0 18) with
        | none => d.fail c stNotFound
        | some y => d.ok c (pack [(0, 32, unsigned 32 ((y.refill d.bal.tick).c / unitsPerByte)),
            (32, 32, unsigned 32 ((y.refill d.bal.tick).p / unitsPerByte))]) (y.granted % 2 ^ 32) := by
  unfold doOpMeterSetWeirRead
  exact (step1_run h hop).trans rfl

theorem doOpMeterSetWeirDelete_run {c : CmdRef} {io : Io} {d : Dev} {x : Cmd} (h : d.isRunning c x)
    (hop : isOpAct 0x44 (16, 0, 3) 2 x = true) : doOpMeterSetWeirDelete c io d =
      if d.foreignWeir (d.mayAs c) (x.fld 20 0 18) = true then d.fail c stNotOwner
      else if (d.weir (x.fld 20 0 18)).isNone = true then d.fail c stNotFound
      else ({ d with mrp := { d.mrp with weirs := tset d.mrp.weirs none (x.fld 20 0 18) none } }).ok c :=
  step1_run h hop

/-- A rule of a polder for a key. -/
def sameRule (x : Cmd) (r : Nat × Nat × Nat × Nat) : Bool := decide (r.1 = x.polder ∧ r.2.1 = x.fld 40 0 2 ∧ r.2.2.1 = x.fld 44 0 32)

theorem doOpMeterSetRuleSet_run {c : CmdRef} {io : Io} {d : Dev} {x : Cmd} (h : d.isRunning c x)
    (hop : isOpAct 0x44 (16, 0, 3) 3 x = true) : doOpMeterSetRuleSet c io d =
      if badRuleKey (x.fld 40 0 2) (x.fld 44 0 32) = true then d.badOp c 44
      else if x.fld 48 0 18 < (d.polder x.polder).tenantBase ∨
          (d.polder x.polder).tenantBase + (d.polder x.polder).tenantCount ≤ x.fld 48 0 18 then d.fail c stNotOwner
      else if 65536 ≤ (d.mrp.rules.filter (fun r => !sameRule x r)).length then d.fail c stNoRoom
      else ({ d with mrp := { d.mrp with rules := d.mrp.rules.filter (fun r => !sameRule x r) ++
        [(x.polder, x.fld 40 0 2, x.fld 44 0 32, x.fld 48 0 18)] } }).ok c :=
  step1_run h hop

theorem doOpMeterSetRuleDelete_run {c : CmdRef} {io : Io} {d : Dev} {x : Cmd} (h : d.isRunning c x)
    (hop : isOpAct 0x44 (16, 0, 3) 4 x = true) : doOpMeterSetRuleDelete c io d =
      if badRuleKey (x.fld 40 0 2) (x.fld 44 0 32) = true then d.badOp c 44
      else if (!d.mrp.rules.any (sameRule x)) = true then d.fail c stNotFound
      else ({ d with mrp := { d.mrp with rules := d.mrp.rules.filter (fun r => !sameRule x r) } }).ok c :=
  step1_run h hop

theorem sameRule_self (x : Cmd) (u : Nat) : sameRule x (x.polder, x.fld 40 0 2, x.fld 44 0 32, u) = true := by simp [sameRule]

/-- Settles O33: each command by its row's equation. -/
theorem meterAndLedgerCommandsComplete : Obligations.MeterAndLedgerCommandsComplete := by
  unfold Obligations.MeterAndLedgerCommandsComplete
  intro s c io x h
  refine ⟨fun hop => ?_, ?_, ?_, ?_, ?_⟩
  · have hrow := doOpLedgerConfig_run (io := io) h hop
    refine ⟨{ s with dev := doOpLedgerConfig c io s.dev }, rfl, fun h1 => ?_, fun h1 h2 => ?_, fun h1 h2 => ?_⟩
    · exact fail_mrp h (hrow.trans (if_pos h1))
    · exact fail_mrp h (hrow.trans ((if_neg (Nat.not_lt.2 h1)).trans (if_pos h2)))
    · dsimp only
      rw [hrow, if_neg (Nat.not_lt.2 h1), if_neg (Nat.not_lt.2 h2)]
      refine ⟨ok_ended (isRunning_mrp h _), ?_⟩
      unfold Dev.ledgerCfg
      rw [mrp_ok, tget_tset, if_pos rfl]
      rfl
  · intro p r hpx hr
    subst hpx hr
    refine ⟨fun hop => ?_, fun hop => ?_, fun hop hs hp => ?_⟩
    · have hrow := doOpLedgerExportSetSet_run (io := io) h hop
      refine ⟨{ s with dev := doOpLedgerExportSetSet c io s.dev }, rfl, fun hen => ?_, fun hen => ?_⟩
      · rw [if_neg (by rw [hen]; decide)] at hrow
        refine ⟨fun hz => ?_, fun hz hz' => ?_⟩
        · exact fail_mrp h (hrow.trans (if_pos hz))
        rw [if_neg (by omega)] at hrow
        refine ⟨fun hb => ?_, fun hb hw => ?_, fun hb hw => ⟨fun he => ?_, fun he hb' hz => ?_, fun he hz => ?_⟩⟩
        · exact fail_mrp h (hrow.trans (if_pos hb))
        · exact fail_mrp h (hrow.trans ((if_neg (not_not.2 hb)).trans (if_pos hw)))
        all_goals rw [if_neg (not_not.2 hb), if_neg (not_not.2 hw)] at hrow
        · dsimp only
          rw [hrow, if_neg (by rw [he]; exact Bool.false_ne_true), mrpRing_mrp (mrp_ok ..), mrpRing_modMrpRing]
          exact ⟨ok_ended (isRunning_mrp h _), rfl⟩
        · dsimp only
          rw [hrow, if_pos he, if_pos ⟨hb', hz⟩, mrpRing_mrp (mrp_ok ..), mrpRing_modMrpRing]
          exact ⟨ok_ended (isRunning_mrp h _), rfl⟩
        · exact fail_mrp h (hrow.trans ((if_pos he).trans (if_neg (fun hs => hz.elim (fun hn => hn hs.1) fun hn => hn hs.2))))
      · dsimp only
        rw [hrow, if_pos (by rw [hen]; decide)]
        refine ⟨ok_ended (isRunning_mrp ?_ _), fun he => ?_⟩
        · split
          · exact isRunning_disableRing h _
          · exact h
        · obtain ⟨hen', hruns, hbanks⟩ := disableRing_parts s.dev (x.fld 16 0 3)
          rw [if_pos he, mrpRing_mrp (mrp_ok ..), mrpRing_modMrpRing]
          refine ⟨hen', hruns, fun y hy => ?_⟩
          rw [bank_mrp (mrp_ok ..), bank_modMrpRing, hbanks y hy]
    · refine ⟨{ s with dev := doOpLedgerExportSetRead c io s.dev }, rfl, ?_⟩
      dsimp only
      unfold doOpLedgerExportSetRead
      rw [step1_run h hop]
      dsimp only
      rw [mrp_ok]
      refine ⟨rfl, ?_⟩
      cases s.dev.bankIn (x.fld 16 0 3) .opened with
      | none => exact ok_ended h
      | some b => exact ok_ended h
    · refine ⟨{ s with dev := doOpLedgerExportSetFlush c io s.dev }, rfl, ?_⟩
      dsimp only
      rw [doOpLedgerExportSetFlush_all h hop hs hp, mrp_ok]
      refine ⟨ok_ended (isRunning_flush _ h), fun k f hf => ?_⟩
      have hk := flushed_all s.dev (x.fld 16 0 3) k
      exact hk f hf
  · intro w cfg hop hw hcfg
    have hcfg : cfg = weirAsked x := hcfg
    subst hw hcfg
    have hrow := doOpMeterSetWeirSet_run (io := io) h hop
    refine ⟨{ s with dev := doOpMeterSetWeirSet c io s.dev }, rfl, fun y hy hm => ?_, fun hm => ?_⟩
    · exact fail_mrp h (hrow.trans (if_pos (by rw [foreignWeir_some hy, hm]; rfl)))
    rw [foreignWeir_mine hm, if_neg Bool.false_ne_true] at hrow
    refine ⟨fun hr => ?_, fun hr hc => ?_, fun hr hc hc' hp => ?_, fun hr hc hp hp' => ⟨fun hb => ?_, fun hb hb' => ⟨fun hb => ?_,
      fun hp hp' => ⟨fun y hy => ?_, fun hn hq => ?_, fun hn hq => ?_⟩⟩⟩⟩
    · exact fail_mrp h (hrow.trans (if_pos hr))
    all_goals rw [if_neg hr] at hrow
    · exact fail_mrp h (hrow.trans (if_pos hc))
    all_goals rw [if_neg (by omega)] at hrow
    · exact fail_mrp h (hrow.trans (if_pos hp))
    all_goals rw [if_neg (by omega)] at hrow
    · exact fail_mrp h (hrow.trans (if_pos (by simp only [Bool.not_eq_true', decide_eq_false_iff_not]; omega)))
    all_goals rw [if_neg (by simp only [Bool.not_eq_true', decide_eq_false_iff_not]; omega)] at hrow
    · exact fail_mrp h (hrow.trans (if_pos (by simp only [Bool.not_eq_true', decide_eq_false_iff_not]; omega)))
    all_goals
      rw [if_neg (by simp only [Bool.not_eq_true', decide_eq_false_iff_not]; omega)] at hrow
      dsimp only
      rw [hrow]
    · exact takeWeir_some h hy _
    · rw [hn]
      exact takeWeir_room h hq _
    · rw [hn]
      exact takeWeir_noRoom h hq _
  · intro w hw
    subst hw
    refine ⟨fun hop => ?_, fun hop => ?_⟩
    · have hrow := doOpMeterSetWeirRead_run (io := io) h hop
      refine ⟨{ s with dev := doOpMeterSetWeirRead c io s.dev }, rfl, ?_, fun hn => ?_, fun y hy => ⟨fun hm => ?_, fun hm hl hc hp => ?_⟩⟩
      · dsimp only
        rw [hrow]
        split
        · exact mrp_fail ..
        · split
          · exact mrp_fail ..
          · exact mrp_ok ..
      · dsimp only
        rw [hrow, foreignWeir_mine (fun y hy => absurd (hn.symm.trans hy) (by simp)), if_neg Bool.false_ne_true, hn]
        exact fail_ended h
      · exact (fail_mrp h (hrow.trans (if_pos (by rw [foreignWeir_some hy, hm]; rfl)))).1
      · dsimp only
        obtain ⟨hc, hp⟩ := refill_now hl hc hp
        rw [hrow, foreignWeir_some hy, hm, if_neg (by decide), hy]
        dsimp only
        rw [hc, hp]
        exact ok_ended h
    · have hrow := doOpMeterSetWeirDelete_run (io := io) h hop
      refine ⟨{ s with dev := doOpMeterSetWeirDelete c io s.dev }, rfl, fun hn => ?_, fun y hy => ⟨fun hm => ?_, fun hm => ?_⟩⟩
      · rw [foreignWeir_mine (fun y hy => absurd (hn.symm.trans hy) (by simp)), if_neg Bool.false_ne_true] at hrow
        exact fail_mrp h (hrow.trans (if_pos (by rw [hn]; rfl)))
      · exact fail_mrp h (hrow.trans (if_pos (by rw [foreignWeir_some hy, hm]; rfl)))
      · dsimp only
        rw [hrow, foreignWeir_some hy, hm, if_neg (by decide), hy, Option.isNone_some, if_neg Bool.false_ne_true]
        refine ⟨ok_ended (isRunning_mrp h _), ?_⟩
        unfold Dev.weir
        rw [mrp_ok, tget_tset, if_pos rfl]
  · intro k key rule tn hk hkey htn hrule
    subst hk hkey htn hrule
    refine ⟨fun hop => ?_, fun hop => ?_⟩
    · have hrow := doOpMeterSetRuleSet_run (io := io) h hop
      refine ⟨{ s with dev := doOpMeterSetRuleSet c io s.dev }, rfl, fun hb => ?_, fun hb => ⟨fun ht => ?_, fun ht ht' hl => ?_⟩⟩
      · exact fail_mrp h (hrow.trans (if_pos hb))
      · exact fail_mrp h (hrow.trans ((if_neg (by rw [hb]; exact Bool.false_ne_true)).trans (if_pos ht)))
      · have hlen := List.length_filter_le (fun r => !sameRule x r) s.dev.mrp.rules
        dsimp only
        rw [hrow, if_neg (by rw [hb]; exact Bool.false_ne_true), if_neg (by omega), if_neg (by omega), mrp_ok]
        refine ⟨ok_ended (isRunning_mrp h _), List.mem_append_right _ List.mem_cons_self, fun u hu => ?_⟩
        rcases List.mem_append.1 hu with hu | hu
        · exact absurd (List.mem_filter.1 hu).2 (by rw [sameRule_self]; decide)
        · simpa using hu
    · have hrow := doOpMeterSetRuleDelete_run (io := io) h hop
      refine ⟨{ s with dev := doOpMeterSetRuleDelete c io s.dev }, rfl, fun hb => ?_, fun hb => ⟨fun u hu => ?_, fun hn => ?_⟩⟩
      · exact fail_mrp h (hrow.trans (if_pos hb))
      · have hany : s.dev.mrp.rules.any (sameRule x) = true := List.any_eq_true.2 ⟨_, hu, sameRule_self x u⟩
        dsimp only
        rw [hrow, if_neg (by rw [hb]; exact Bool.false_ne_true), hany, if_neg (by decide), mrp_ok]
        exact ⟨ok_ended (isRunning_mrp h _), fun v hv => absurd (List.mem_filter.1 hv).2 (by rw [sameRule_self]; decide)⟩
      · have hany : s.dev.mrp.rules.any (sameRule x) = false := List.any_eq_false.2 fun ⟨p, k, key, u⟩ hr hs => by
          obtain ⟨rfl, rfl, rfl⟩ := of_decide_eq_true hs
          exact hn u hr
        exact fail_mrp h (hrow.trans ((if_neg (by rw [hb]; exact Bool.false_ne_true)).trans (if_pos (by rw [hany]; rfl))))

end Sys2Proof.Machine
end

section
/-! PROOFS. The Time Unit (13 R396, R398-R402). -/
namespace Sys2Proof.Machine

/-! ### Commands that wait, and the clock -/

theorem cmd?_calm {d d' : Dev} (hc : Calm d d') (c : CmdRef) : d'.cmd? c = d.cmd? c := by simp [Dev.cmd?, hc.cmds]

/-- A command without an outcome that no abort has marked ends with the outcome given, on its engine or off it. -/
theorem finish_waiting {d : Dev} {c : CmdRef} {x : Cmd} (hx : d.cmd? c = some x) (ho : x.outcome = none) (hm : x.marked = false) (o : Done) :
    (d.finish c o).ended c x o := by
  unfold Dev.ended Dev.finish
  rw [cmd?_modCmd]
  · rw [hx, Option.map_some, hm, ho]
    rfl
  · exact names_keep (fun y => by split <;> rfl) (fun y => by split <;> rfl)

theorem park_cmd {d : Dev} {c : CmdRef} {x : Cmd} (hx : d.cmd? c = some x) (ho : x.outcome = none) :
    (d.park c).cmd? c = some { x with executing := false, steps := x.steps + 1 } := by
  unfold Dev.park
  rw [cmd?_modCmd]
  · rw [hx, Option.map_some, ho]
    rfl
  · exact names_keep (fun y => by split <;> rfl) (fun y => by split <;> rfl)

theorem tmu_park (d : Dev) (c : CmdRef) : (d.park c).tmu = d.tmu := by simp
theorem tmu_fail (d : Dev) (c : CmdRef) (st detail : Nat) : (d.fail c st detail).tmu = d.tmu := by simp
theorem tmu_ok (d : Dev) (c : CmdRef) (r0 r1 detail : Nat) : (d.ok c r0 r1 detail).tmu = d.tmu := by simp
theorem tmu_finish (d : Dev) (c : CmdRef) (o : Done) : (d.finish c o).tmu = d.tmu := by simp
theorem bal_ok (d : Dev) (c : CmdRef) (r0 r1 detail : Nat) : (d.ok c r0 r1 detail).bal = d.bal := by simp

/-- A step that ends a command in an error leaves the Time Unit. -/
theorem fail_tmu {d e : Dev} {c : CmdRef} {x : Cmd} (h : d.isRunning c x) {st detail : Nat} (he : e = d.fail c st detail) :
    e.ended c x (failDone st detail) ∧ e.tmu = d.tmu := by
  subst he
  exact ⟨fail_ended h, tmu_fail ..⟩

/-! ### Steps (13 R400, R401) -/

theorem tmu_endEpoch (d : Dev) (next ns : Nat) : (d.endEpoch next ns).tmu = d.tmu := by simp
theorem tmu_gaugeStep (d : Dev) (old : Nat) : (d.gaugeStep old).tmu = d.tmu := by simp
theorem tmu_tideStep (d : Dev) (ns : Int) : (d.tideStep ns).tmu = d.tmu := by simp
theorem tmu_record (d : Dev) (code : Nat) (who : Who) (source : Option Nat) (data : BitVec 160) :
    (d.record code who source data).tmu = d.tmu := by simp
theorem tmu_liveMs (d : Dev) (k : Nat) : (d.liveMs k).tmu = d.tmu := by simp
theorem tmu_bump (d : Dev) (k : Ctr) (n : Nat) : (d.bump k n).tmu = d.tmu := by simp
theorem tmu_markBanks (d : Dev) (m : StepMark) : (d.markBanks m).tmu = d.tmu := by simp

/-- A step sets the time, and leaves the commands that wait for an edge. -/
theorem tmu_timeStep (d : Dev) (t o cause : Nat) : (d.timeStep t o cause).tmu.time = t ∧ (d.timeStep t o cause).tmu.atPps = d.tmu.atPps := by
  unfold Dev.timeStep
  extract_lets old stepped mark d1 s1 s2 d2 d3 d4 e
  have h4 : d4.tmu = d2.tmu := by
    unfold d4
    rw [tmu_gaugeStep, tmu_tideStep]
    unfold d3
    rw [tmu_record, tmu_liveMs, tmu_bump]
  have h2 : d2.tmu.time = t ∧ d2.tmu.atPps = d.tmu.atPps := by
    refine ⟨rfl, ?_⟩
    show (d.markBanks mark).tmu.atPps = _
    rw [tmu_markBanks]
  rw [← h4] at h2
  clear_value d4 e
  split
  · rw [tmu_endEpoch]
    exact h2
  · exact h2

theorem bal_timeStep (d : Dev) (t o cause : Nat) : (d.timeStep t o cause).bal = d.bal := by simp

/-- A SET or STEP that takes effect. -/
theorem timeApply_ends {d : Dev} {c : CmdRef} {x : Cmd} (hx : d.cmd? c = some x) (ho : x.outcome = none) (hm : x.marked = false)
    (setTo : Option Nat) (offset : Int) {n : Nat} (hn : n = setTo.getD (d.tmu.offsetBy offset)) :
    (d.timeApply c setTo offset).ended c x (okDone (timeDiff n d.tmu.time)) ∧ (d.timeApply c setTo offset).tmu.time = n ∧
    (d.timeApply c setTo offset).tmu.atPps = d.tmu.atPps ∧ (d.timeApply c setTo offset).bal = d.bal := by
  subst hn
  unfold Dev.timeApply
  dsimp only
  rw [tmu_ok, bal_ok, bal_timeStep]
  obtain ⟨ht, ha⟩ := tmu_timeStep d (setTo.getD (d.tmu.offsetBy offset)) d.mrp.offsetMs (if setTo.isSome then 0 else 1)
  exact ⟨finish_waiting ((cmd?_calm (Dev.timeStep_calm ..) c).trans hx) ho hm _, ht, ha, rfl⟩

/-- A command that waits for an edge from now on. -/
def Dev.waitPps (d : Dev) (c : CmdRef) (setTo : Option Nat) (offset : Int) : Dev :=
  ({ d with tmu := { d.tmu with atPps := d.tmu.atPps ++
    [({ ep := c.ep, ring := c.ring, pos := c.pos, setTo := setTo, offset := offset, deadline := d.bal.tick + msTicks 2000 } : AtPps)] } }).park c

theorem timeWhen_now {d : Dev} {c : CmdRef} {x : Cmd} (h : d.isRunning c x) (hw : x.fld 16 3 1 = 0) (setTo : Option Nat) (offset : Int)
    {n : Nat} (hn : n = setTo.getD (d.tmu.offsetBy offset)) : (d.timeWhen c x setTo offset).ended c x (okDone (timeDiff n d.tmu.time)) ∧
    (d.timeWhen c x setTo offset).tmu.time = n := by
  obtain ⟨hx, -, ho, hm⟩ := h
  obtain ⟨he, ht, -, -⟩ := timeApply_ends hx ho hm setTo offset hn
  rw [show d.timeWhen c x setTo offset = d.timeApply c setTo offset from if_pos hw]
  exact ⟨he, ht⟩

theorem timeWhen_edge {d : Dev} {c : CmdRef} {x : Cmd} (h : d.isRunning c x) (hw : x.fld 16 3 1 = 1) (setTo : Option Nat) (offset : Int) :
    (d.timeWhen c x setTo offset).cmd? c = some { x with executing := false, steps := x.steps + 1 } ∧
    (d.timeWhen c x setTo offset).tmu = { d.tmu with atPps := d.tmu.atPps ++
      [{ ep := c.ep, ring := c.ring, pos := c.pos, setTo := setTo, offset := offset, deadline := d.bal.tick + 50000000 }] } := by
  obtain ⟨hx, -, ho, -⟩ := h
  rw [show d.timeWhen c x setTo offset = d.waitPps c setTo offset from if_neg (by omega)]
  unfold Dev.waitPps
  exact ⟨park_cmd hx ho, tmu_park ..⟩

/-! ### The rows of the commands -/

theorem doOpTimeSetSet_run {c : CmdRef} {io : Io} {d : Dev} {x : Cmd} (h : d.isRunning c x) (hop : isOpAct 0xA0 (16, 0, 3) 0 x = true) :
    doOpTimeSetSet c io d = if 1000000000 ≤ x.fld 32 0 32 then d.badOp c 32
      else d.timeWhen c x (some (timeOf (x.fld 24 0 48) (x.fld 32 0 32) (x.fld 30 0 16))) 0 := step1_run h hop

theorem doOpTimeSetStep_run {c : CmdRef} {io : Io} {d : Dev} {x : Cmd} (h : d.isRunning c x) (hop : isOpAct 0xA0 (16, 0, 3) 1 x = true) :
    doOpTimeSetStep c io d = d.timeWhen c x none (signed 64 (x.fld 40 0 64)) := step1_run h hop

theorem doOpTimeSetFreq_run {c : CmdRef} {io : Io} {d : Dev} {x : Cmd} (h : d.isRunning c x) (hop : isOpAct 0xA0 (16, 0, 3) 2 x = true) :
    doOpTimeSetFreq c io d = if x.fld 16 3 1 ≠ 0 then d.badOp c 16
      else if 128000000 < (signed 32 (x.fld 48 0 32)).natAbs then d.badOp c 48
      else ({ d with tmu := { d.tmu with freq := signed 32 (x.fld 48 0 32) } }).ok c := step1_run h hop

theorem doOpTimeSetSlew_run {c : CmdRef} {io : Io} {d : Dev} {x : Cmd} (h : d.isRunning c x) (hop : isOpAct 0xA0 (16, 0, 3) 3 x = true) :
    doOpTimeSetSlew c io d = if x.fld 16 3 1 ≠ 0 then d.badOp c 16
      else if 1000000000 < (signed 64 (x.fld 40 0 64)).natAbs then d.badOp c 40
      else ({ d with tmu := { d.tmu with
        slewRem := (signed 64 (x.fld 40 0 64)).natAbs * timeNs, slewNeg := decide (signed 64 (x.fld 40 0 64) < 0) } }).ok c := step1_run h hop

/-- What a capture that was asked for returns. -/
def Dev.giveCapture (d : Dev) (c : CmdRef) : Option Capture → Dev
  | none => d.ok c
  | some k => d.ok c (timeSec k.time + timeFrac k.time * 2 ^ 48) (timeNano k.time + (k.tick % 2 ^ 32) * 2 ^ 32) (1 + 2 * b2n k.stepped)

theorem giveCapture_ends {d : Dev} {c : CmdRef} {x : Cmd} (h : d.isRunning c x) (k : Option Capture) :
    (d.giveCapture c k).tmu = d.tmu ∧ (k = none → (d.giveCapture c k).ended c x okDone) ∧
    (∀ y, k = some y → (d.giveCapture c k).ended c x (okDone (timeSec y.time + timeFrac y.time * 2 ^ 48)
      (timeNano y.time + (y.tick % 2 ^ 32) * 2 ^ 32) (1 + 2 * b2n y.stepped))) := by
  refine ⟨?_, fun hk => ?_, fun y hk => ?_⟩
  · cases k with
    | none => exact tmu_ok ..
    | some k => exact tmu_ok ..
  · subst hk
    exact ok_ended h
  · subst hk
    exact ok_ended h

/-- OP_TIME_CAPTURE by its source. -/
def Dev.captureAsked (d : Dev) (c : CmdRef) : Nat → Dev
  | 0 => d.finish c { status := stOk, detail := 1, fill := .deviceTime }
  | 1 => d.giveCapture c d.tmu.capIn
  | 2 => d.giveCapture c d.tmu.capOut
  | _ => d.badOp c 16

theorem doOpTimeCapture_run {c : CmdRef} {io : Io} {d : Dev} {x : Cmd} (h : d.isRunning c x) (hop : isOp 0xA1 x = true) :
    doOpTimeCapture c io d = d.captureAsked c (x.fld 16 0 2) := by
  unfold doOpTimeCapture
  rw [step1_run h hop]
  unfold Dev.captureAsked Dev.giveCapture
  rfl

/-! ### Pulses and the reference (13 R396, R399) -/

theorem tmu_clearLive (d : Dev) (k : Nat) : (d.clearLive k).tmu = d.tmu := by simp
theorem bal_clearLive (d : Dev) (k : Nat) : (d.clearLive k).bal = d.bal := by simp
theorem hif_clearLive (d : Dev) (k : Nat) : (d.clearLive k).hif = d.hif := by simp
theorem hif_reach (d : Dev) (n : Nat) : (d.reach n).hif = d.hif := by simp
theorem out_reachNs (d : Dev) (n : Nat) : (d.reachNs n).out = d.out := by simp
theorem tmu_live (d : Dev) (k : Nat) (on : Bool) : (d.live k on).tmu = d.tmu := by simp

/-- Pulses keep their width. -/
theorem width_pass (d : Dev) (n : Nat) : (d.pass n).tmu.ppsWidthUs = d.tmu.ppsWidthUs := by
  unfold Dev.pass
  dsimp only
  split <;> rfl

theorem width_ite_pass (d : Dev) (p : Prop) [Decidable p] (k : Nat) :
    (if p then d else d.pass k).tmu.ppsWidthUs = d.tmu.ppsWidthUs := by
  split
  · rfl
  · exact width_pass ..

theorem width_reachNs (d : Dev) (n : Nat) : (d.reachNs n).tmu.ppsWidthUs = d.tmu.ppsWidthUs := by
  unfold Dev.reachNs
  exact (width_ite_pass _ _ _).trans (width_ite_pass _ _ _)

/-- The reference state that a source and a choice give. -/
theorem refState_parts (d : Dev) : d.refState.tmu = { d.tmu with refLocked := d.tmu.refSel && d.tmu.refPresent } ∧
    (d.refState.src 0xE00).live = (d.tmu.refSel && !d.tmu.refPresent) := by
  unfold Dev.refState
  refine ⟨tmu_live .., ?_⟩
  cases hl : d.tmu.refSel && !d.tmu.refPresent with
  | true => exact src_live_self (by decide) ..
  | false => exact src_live_off ..

/-- A slew is over once its ticks have passed. -/
theorem slewRem_pass {d : Dev} (h : d.corePowered = true) : (d.pass (cdiv d.tmu.slewRem (40 * 65536 * 25600000))).tmu.slewRem = 0 := by
  unfold Dev.pass
  dsimp only
  rw [if_pos h]
  unfold Tmu.advance
  dsimp only
  have hc := Nat.div_add_mod (d.tmu.slewRem + 40 * 65536 * 25600000 - 1) (40 * 65536 * 25600000)
  have hm := Nat.mod_lt (d.tmu.slewRem + 40 * 65536 * 25600000 - 1) (show 40 * 65536 * 25600000 > 0 by decide)
  unfold cdiv
  omega

/-- A command that waits for an edge. -/
def AtPps.cmd (a : AtPps) : CmdRef := { ep := a.ep, ring := a.ring, pos := a.pos }

/-- An edge of PPS_IN captures the time. -/
def Dev.captureIn (d : Dev) : Dev := { d with tmu := { d.tmu with capIn := some { time := d.tmu.time, tick := d.bal.tick } } }

/-- An edge of PPS_IN finds the commands that wait, and its source is no longer live. -/
def Dev.edgeIn (d : Dev) : Dev := ({ d with tmu := { d.tmu with atPps := [] } }).clearLive 0xE01

/-- An edge that meets one waiting command: the time is set before the capture. -/
theorem doPpsInEdge_one {d : Dev} {a : AtPps} {x : Cmd} (hcore : d.corePowered = true) (ha : d.tmu.atPps = [a])
    (hx : d.cmd? a.cmd = some x) (ho : x.outcome = none) :
    doPpsInEdge d = (d.edgeIn.timeApply a.cmd a.setTo a.offset).captureIn := by
  unfold doPpsInEdge Dev.edgeIn
  rw [if_neg (by rw [hcore]; exact Bool.noConfusion), ha]
  have he : ∃ e, (({ d with tmu := { d.tmu with atPps := [] } }).clearLive 0xE01) = e ∧ e.cmd? a.cmd = some x :=
    ⟨_, rfl, (cmd?_hif (hif_clearLive ..) _).trans hx⟩
  obtain ⟨e, he, hx'⟩ := he
  dsimp only
  rw [he, List.foldl_cons, List.foldl_nil]
  rw [show e.cmd? { ep := a.ep, ring := a.ring, pos := a.pos } = some x from hx']
  dsimp only
  rw [ho, Option.isNone_none, if_pos rfl]
  rfl

theorem doPpsInEdge_idle {d : Dev} (hcore : d.corePowered = true) (ha : d.tmu.atPps = []) : doPpsInEdge d = d.edgeIn.captureIn := by
  unfold doPpsInEdge Dev.edgeIn
  rw [if_neg (by rw [hcore]; exact Bool.noConfusion), ha]
  rfl

theorem tmu_edgeIn (d : Dev) : d.edgeIn.tmu = { d.tmu with atPps := [] } := tmu_clearLive ..
theorem offsetBy_time {t t' : Tmu} (h : t'.time = t.time) (ns : Int) : t'.offsetBy ns = t.offsetBy ns := by unfold Tmu.offsetBy; rw [h]
theorem bal_edgeIn (d : Dev) : d.edgeIn.bal = d.bal := bal_clearLive ..
theorem cmd?_edgeIn (d : Dev) (c : CmdRef) : d.edgeIn.cmd? c = d.cmd? c := cmd?_hif (hif_clearLive ..) c
theorem captureIn_tmu (d : Dev) : d.captureIn.tmu = { d.tmu with capIn := some { time := d.tmu.time, tick := d.bal.tick } } := rfl
theorem captureIn_time (d : Dev) : d.captureIn.tmu.time = d.tmu.time := rfl
theorem captureIn_atPps (d : Dev) : d.captureIn.tmu.atPps = d.tmu.atPps := rfl
theorem captureIn_capIn (d : Dev) : d.captureIn.tmu.capIn = some { time := d.tmu.time, tick := d.bal.tick } := rfl
theorem captureIn_fcr (d : Dev) : d.captureIn.fcr = d.fcr := rfl
theorem captureIn_cmd (d : Dev) (c : CmdRef) : d.captureIn.cmd? c = d.cmd? c := rfl

/-- The pulse of a second. -/
def Dev.pulseOut (d : Dev) (sec : Int) (ns : Nat) : Dev :=
  ({ d with tmu := { d.tmu with lastPps := sec, capOut := some { time := ns * timeNs, tick := d.bal.tick } } }).emit (.ppsOut d.tmu.ppsWidthUs)

theorem pulseOut_tmu (d : Dev) (sec : Int) (ns : Nat) : (d.pulseOut sec ns).tmu =
    { d.tmu with lastPps := sec, capOut := some { time := ns * timeNs, tick := d.bal.tick } } := rfl
theorem pulseOut_out (d : Dev) (sec : Int) (ns : Nat) : (d.pulseOut sec ns).out = .ppsOut d.tmu.ppsWidthUs :: d.out := rfl

theorem doPpsOutEdge_pulse {d : Dev} (hcore : d.corePowered = true) : doPpsOutEdge d =
    (d.reachNs ((d.tmu.lastPps + 1) * 1000000000 + d.tmu.ppsOffset).toNat).pulseOut (d.tmu.lastPps + 1)
      ((d.tmu.lastPps + 1) * 1000000000 + d.tmu.ppsOffset).toNat := by
  unfold doPpsOutEdge Dev.pulseOut
  rw [if_neg (by rw [hcore]; exact Bool.noConfusion)]

/-- The oldest waiting command's time has come. -/
theorem doAtPpsTimeout_first {d : Dev} {a : AtPps} {rest : List AtPps} {x : Cmd} (ha : d.tmu.atPps = a :: rest)
    (hx : d.cmd? a.cmd = some x) (ho : x.outcome = none) : ∃ e : Dev, e.cmd? a.cmd = some x ∧ e.tmu.atPps = rest ∧ a.deadline ≤ e.bal.tick ∧
    doAtPpsTimeout d = e.fail a.cmd stTimeout := by
  unfold doAtPpsTimeout
  rw [ha]
  dsimp -zeta only
  extract_lets r m e c
  have hr : e.cmd? c = some x := (cmd?_hif (hif_reach d a.deadline) a.cmd).trans hx
  refine ⟨e, hr, rfl, tick_reach d a.deadline, ?_⟩
  rw [hr]
  dsimp only
  rw [ho, Option.isNone_none, if_pos rfl]
  rfl

theorem bal_fail (d : Dev) (c : CmdRef) (st detail : Nat) : (d.fail c st detail).bal = d.bal := by simp

theorem isRunning_tmu {d : Dev} {c : CmdRef} {x : Cmd} (h : d.isRunning c x) (m : Tmu) : ({ d with tmu := m }).isRunning c x := h

/-- Settles O34: the commands, the pulses, the edge that a command waits for, and the reference, each by its row's equation. -/
theorem timeUnitKeepsTime : Obligations.TimeUnitKeepsTime := by
  unfold Obligations.TimeUnitKeepsTime
  intro s
  refine ⟨fun c io x h => ⟨fun hop => ?_, ?_, ?_, ?_, fun hop => ?_⟩, fun hcore => ⟨?_, ?_⟩, fun hcore => ⟨?_, fun ha => ?_, ?_, ?_⟩, fun ha => ?_, ?_, ?_, ?_⟩
  · have hrow := doOpTimeSetSet_run (io := io) h hop
    refine ⟨{ s with dev := doOpTimeSetSet c io s.dev }, rfl, fun hb => fail_tmu h (hrow.trans (if_pos hb)), fun n hb hn => ?_⟩
    have hn : n = timeOf (x.fld 24 0 48) (x.fld 32 0 32) (x.fld 30 0 16) := by unfold timeOf; exact hn
    rw [if_neg (by omega), ← hn] at hrow
    refine ⟨fun hw => ?_, fun hw => ?_⟩
    · dsimp only
      rw [hrow]
      exact timeWhen_now h hw (some n) 0 rfl
    · dsimp only
      rw [hrow]
      exact timeWhen_edge h hw _ _
  · intro o n hop ho hn
    have hrow := doOpTimeSetStep_run (io := io) h hop
    subst ho
    refine ⟨{ s with dev := doOpTimeSetStep c io s.dev }, rfl, fun hw => ?_, fun hw => ?_⟩
    · dsimp only
      rw [hrow]
      exact timeWhen_now h hw _ _ hn
    · dsimp only
      rw [hrow]
      exact timeWhen_edge h hw _ _
  · intro f hop hf
    subst hf
    have hrow := doOpTimeSetFreq_run (io := io) h hop
    refine ⟨{ s with dev := doOpTimeSetFreq c io s.dev }, rfl, fun hw => ?_, fun hw hb => ?_, fun hw hb => ?_⟩
    · exact fail_tmu h (hrow.trans (if_pos (by omega)))
    · exact fail_tmu h (hrow.trans ((if_neg (by omega)).trans (if_pos hb)))
    · dsimp only
      rw [hrow, if_neg (by omega), if_neg (Nat.not_lt.2 hb)]
      exact ⟨ok_ended (isRunning_tmu h _), tmu_ok ..⟩
  · intro o hop ho
    subst ho
    have hrow := doOpTimeSetSlew_run (io := io) h hop
    refine ⟨{ s with dev := doOpTimeSetSlew c io s.dev }, rfl, fun hw => ?_, fun hw hb => ?_, fun hw hb => ?_⟩
    · exact fail_tmu h (hrow.trans (if_pos (by omega)))
    · exact fail_tmu h (hrow.trans ((if_neg (by omega)).trans (if_pos hb)))
    · dsimp only
      rw [hrow, if_neg (by omega), if_neg (Nat.not_lt.2 hb)]
      exact ⟨ok_ended (isRunning_tmu h _), tmu_ok ..⟩
  · have hrow := doOpTimeCapture_run (io := io) h hop
    have hlt := fld_lt x 16 0 2
    refine ⟨{ s with dev := doOpTimeCapture c io s.dev }, rfl, ?_⟩
    dsimp only
    rw [hrow]
    generalize x.fld 16 0 2 = n at hlt
    refine ⟨?_, fun hn => ?_, fun hn => ?_, fun k hk hn => ?_⟩
    · interval_cases n
      · exact tmu_finish ..
      · exact (giveCapture_ends h _).1
      · exact (giveCapture_ends h _).1
      · exact tmu_fail ..
    · subst hn
      exact finish_ended h
    · subst hn
      exact badOp_ended h
    · subst hk
      rcases hn with hn | hn
      · subst hn
        exact (giveCapture_ends h _).2
      · subst hn
        exact (giveCapture_ends h _).2
  · exact next_same (d := doPpsOutEdge s.dev) (by unfold doPpsOutEdge; rw [hcore]; rfl)
  · exact next_same (d := doPpsInEdge s.dev) (by unfold doPpsInEdge; rw [hcore]; rfl)
  · refine ⟨{ s with dev := doPpsOutEdge s.dev }, rfl, ?_⟩
    dsimp only
    rw [doPpsOutEdge_pulse hcore, pulseOut_tmu, pulseOut_out, width_reachNs, out_reachNs]
    exact ⟨rfl, rfl, _, rfl, rfl, rfl⟩
  · refine ⟨{ s with dev := doPpsInEdge s.dev }, rfl, ?_⟩
    dsimp only
    rw [doPpsInEdge_idle hcore ha, src_fcr (captureIn_fcr _), captureIn_tmu, tmu_edgeIn, bal_edgeIn]
    refine ⟨src_live_off _ 0xE01, ?_⟩
    rw [← ha]
  · intro a c x n ha hc hx ho hm hn
    subst hc
    have hx' : s.dev.edgeIn.cmd? a.cmd = some x := (cmd?_edgeIn ..).trans hx
    have hoff : n = a.setTo.getD (s.dev.edgeIn.tmu.offsetBy a.offset) := by rw [hn, offsetBy_time (t' := s.dev.edgeIn.tmu) (t := s.dev.tmu) (by rw [tmu_edgeIn])]
    obtain ⟨he, ht, hp, hb⟩ := timeApply_ends hx' ho hm a.setTo a.offset hoff
    refine ⟨{ s with dev := doPpsInEdge s.dev }, rfl, ?_⟩
    dsimp only
    rw [doPpsInEdge_one hcore ha hx ho, captureIn_time, captureIn_atPps, captureIn_capIn, hb, bal_edgeIn, ht]
    rw [tmu_edgeIn] at hp
    rw [show s.dev.edgeIn.tmu.time = s.dev.tmu.time by rw [tmu_edgeIn]] at he
    exact ⟨rfl, hp, rfl, (captureIn_cmd ..).trans he⟩
  · exact ⟨{ s with dev := doSlewComplete s.dev }, rfl, slewRem_pass hcore⟩
  · exact next_same (d := doAtPpsTimeout s.dev) (by unfold doAtPpsTimeout; rw [ha])
  · intro a rest c x ha hc hx ho hm
    subst hc
    obtain ⟨e, he, hrest, hb, hrow⟩ := doAtPpsTimeout_first ha hx ho
    refine ⟨{ s with dev := doAtPpsTimeout s.dev }, rfl, ?_⟩
    dsimp only
    rw [hrow, tmu_fail, bal_fail]
    exact ⟨hrest, hb, finish_waiting he ho hm _⟩
  · refine ⟨{ s with dev := doTimeRefLoss s.dev }, rfl, ?_⟩
    obtain ⟨ht, hl⟩ := refState_parts { s.dev with tmu := { s.dev.tmu with refPresent := false } }
    dsimp only
    unfold doTimeRefLoss
    rw [ht, hl]
    exact ⟨by rw [Bool.and_false], by rw [Bool.not_false, Bool.and_true]⟩
  · refine ⟨{ s with dev := doTimeRefReturn s.dev }, rfl, ?_⟩
    obtain ⟨ht, hl⟩ := refState_parts { s.dev with tmu := { s.dev.tmu with refPresent := true } }
    dsimp only
    unfold doTimeRefReturn
    rw [ht, hl]
    exact ⟨by rw [Bool.and_true], by rw [Bool.not_true, Bool.and_false]⟩

end Sys2Proof.Machine
end

section
/-! PROOFS. The Check-Value Unit (14 R429, R431-R433, R437, R438). -/
namespace Sys2Proof.Machine

/-! ### Parties and waits (14 R432-R434) -/

/-- A party reaches a context and holds it. -/
def Dev.cvuHeldBy (d : Dev) (who : CvuParty) (n : Nat) : Prop :=
  (∃ e, who = .window e ∧ (d.ep e).answers = true ∧ d.isWarden e = true ∧ (d.cvuCtx n).holder = 0) ∨
    (∃ r, who = .regulator r ∧ r < 4 ∧ d.regRuns r = true ∧ (d.cvuCtx n).holder = r + 1)

theorem cvuCtx_modCvu (d : Dev) (n : Nat) (f : CvuCtx → CvuCtx) : (d.modCvu n f).cvuCtx n = f (d.cvuCtx n) := by
  unfold Dev.cvuCtx Dev.modCvu
  rw [tget_tmod, if_pos rfl]

/-- A write by the party that holds a context is made. -/
theorem cvuBy_held {d : Dev} {who : CvuParty} {n : Nat} (h : d.cvuHeldBy who n) (hn : 8 ≤ n) (hn' : n < 64) (own : Bool) (f : Dev → Dev) :
    d.cvuBy who n own f = f d := by
  unfold Dev.cvuBy
  rcases h with ⟨e, rfl, ha, hw, hh⟩ | ⟨r, rfl, hr, hrun, hh⟩
  · dsimp only
    rw [glWrite_warden ha hw, if_neg (by omega), if_neg (by omega), hh, if_neg (by simp)]
  · dsimp only
    rw [if_neg (by rw [hrun]; simp; omega), hh, if_neg (by simp)]

/-- A write of another party, to a register that only the holder may write, is counted. -/
theorem cvuBy_foreign {d : Dev} {r n : Nat} (hn : 8 ≤ n) (hn' : n < 64) (hr : r < 4) (hrun : d.regRuns r = true)
    (hh : (d.cvuCtx n).holder ≠ r + 1) (f : Dev → Dev) : d.cvuBy (.regulator r) n true f = d.bump .cvuForeignWrite 0 := by
  unfold Dev.cvuBy
  dsimp only
  rw [if_neg (by rw [hrun]; simp; omega), if_pos (by simp [hh])]

/-- Who holds a context stands while its parties and its owner do. -/
theorem cvuHeldBy_of {d e : Dev} {who : CvuParty} {n : Nat} (h : d.cvuHeldBy who n) (hhif : e.hif = d.hif) (hplc : e.plc = d.plc)
    (hreg : e.reg = d.reg) (hh : (e.cvuCtx n).holder = (d.cvuCtx n).holder) : e.cvuHeldBy who n := by
  unfold Dev.cvuHeldBy Dev.isWarden Dev.regRuns Dev.ep at *
  rw [hhif, hplc, hreg, hh]
  exact h

/-- A context with no buffered write makes nobody wait. -/
theorem cvuWait_empty {d : Dev} {n : Nat} (h : (d.cvuCtx n).buf = none) (own : Bool) : d.cvuWait n own = d := by
  unfold Dev.cvuWait Dev.cvuDrain
  rw [h]
  rfl

theorem cvuAccept_empty {d : Dev} {n : Nat} (h : (d.cvuCtx n).buf = none) (w : CvuWrite) :
    (d.cvuAccept n w).cvuCtx n = { d.cvuCtx n with buf := some w } := by
  unfold Dev.cvuAccept
  rw [cvuWait_empty h, cvuCtx_modCvu]

/-! ### Writes of CTL (14 R430, R432) -/

/-- The plain fields of CTL. -/
def CvuCtx.plain (x : CvuCtx) (v : Word) : CvuCtx :=
  { x with alg := bits v.toNat 0 2, parMode := v.toNat.testBit 2, irqEn := v.toNat.testBit 3, foldLen := bits v.toNat 4 4 }

/-- The plain fields are stored; what the window stores as the owner is the owner at once where nothing is buffered. -/
def Dev.cvuPlain (d : Dev) (who : CvuParty) (n : Nat) (v : Word) : Dev :=
  match who with
  | .window _ => (d.modCvu n (fun x => x.plain v)).modCvu n (fun x => ({ x with nextOwner := some (bits v.toNat 8 3) }).settle)
  | .regulator _ => d.modCvu n (fun x => x.plain v)

theorem cvuPlain_others (d : Dev) (who : CvuParty) (n : Nat) (v : Word) :
    (d.cvuPlain who n v).hif = d.hif ∧ (d.cvuPlain who n v).plc = d.plc ∧ (d.cvuPlain who n v).reg = d.reg := by
  cases who <;> exact ⟨rfl, rfl, rfl⟩

/-- What the plain fields and the owner leave of a context. -/
theorem cvuPlain_ctx {d : Dev} {who : CvuParty} {n : Nat} {v : Word} (hb : (d.cvuCtx n).buf = none) :
    ∃ o m, (d.cvuPlain who n v).cvuCtx n = { (d.cvuCtx n).plain v with owner := o, nextOwner := m } ∧
      (o = (d.cvuCtx n).owner ∨ ∃ e, who = .window e ∧ o = bits v.toNat 8 3) := by
  cases who with
  | window e =>
    unfold Dev.cvuPlain
    dsimp only
    rw [cvuCtx_modCvu, cvuCtx_modCvu]
    refine ⟨bits v.toNat 8 3, none, ?_, .inr ⟨e, rfl, rfl⟩⟩
    unfold CvuCtx.settle CvuCtx.plain
    dsimp only
    rw [hb]
  | regulator r =>
    unfold Dev.cvuPlain
    dsimp only
    rw [cvuCtx_modCvu]
    exact ⟨_, _, rfl, .inl rfl⟩

/-- A write of CTL by the party that holds the context and keeps it. -/
theorem cvuCtl_held {d : Dev} {who : CvuParty} {n : Nat} {v : Word} (hn : 8 ≤ n) (hn' : n < 64) (hb : (d.cvuCtx n).buf = none)
    (h : d.cvuHeldBy who n) (ho : ∀ e, who = .window e → bits v.toNat 8 3 = 0) : ∃ (e : Dev) (o : Nat) (m : Option Nat),
      e.cvuHeldBy who n ∧ e.cvuCtx n = { (d.cvuCtx n).plain v with owner := o, nextOwner := m } ∧
      (v.toNat.testBit 16 = true → v.toNat.testBit 17 = false → d.cvuCtl who n v = e.cvuAccept n (.start 0)) ∧
      (v.toNat.testBit 16 = false → v.toNat.testBit 17 = true → d.cvuCtl who n v = e.cvuJudge n) := by
  obtain ⟨o, m, hctx, hown⟩ := cvuPlain_ctx (who := who) (v := v) hb
  obtain ⟨hhif, hplc, hreg⟩ := cvuPlain_others d who n v
  have hheld : (d.cvuPlain who n v).cvuHeldBy who n := by
    refine cvuHeldBy_of h hhif hplc hreg ?_
    rw [hctx]
    rcases hown with rfl | ⟨e, rfl, rfl⟩
    · rfl
    · rcases h with ⟨e', -, -, -, hh⟩ | ⟨r, hr, -⟩
      · rw [hh, ho e rfl]
        rfl
      · cases hr
  have hempty : ((d.cvuPlain who n v).cvuCtx n).buf = none := by rw [hctx]; exact hb
  refine ⟨_, o, m, hheld, hctx, fun h16 h17 => ?_, fun h16 h17 => ?_⟩
  · unfold Dev.cvuCtl
    dsimp only
    rw [h16, h17, if_pos rfl, if_neg Bool.false_ne_true, cvuBy_held h hn hn' false]
    exact cvuBy_held hheld hn hn' true _
  · unfold Dev.cvuCtl
    dsimp only
    rw [h16, h17, if_neg Bool.false_ne_true, if_pos rfl, cvuBy_held h hn hn' false]
    refine (cvuBy_held hheld hn hn' true _).trans ?_
    rw [cvuWait_empty hempty]

/-! ### Compares (14 R437, R438) -/

theorem cvuJudge_rest (d : Dev) (n : Nat) : ((d.cvuJudge n).cvuCtx n).forced = false ∧ ((d.cvuJudge n).cvuCtx n).run = (d.cvuCtx n).run ∧
    ((d.cvuJudge n).cvuCtx n).isMatch =
      (!(d.cvuCtx n).forced && (d.cvuCtx n).parityOk && decide ((d.cvuCtx n).result = (d.cvuCtx n).expect)) := by
  have hm : (!(!(d.cvuCtx n).forced && !(d.cvuCtx n).parityOk) &&
      !((d.cvuCtx n).forced || (d.cvuCtx n).parityOk && decide ((d.cvuCtx n).result ≠ (d.cvuCtx n).expect))) =
      (!(d.cvuCtx n).forced && (d.cvuCtx n).parityOk && decide ((d.cvuCtx n).result = (d.cvuCtx n).expect)) := by
    rw [decide_not]
    cases (d.cvuCtx n).forced <;> cases (d.cvuCtx n).parityOk <;> simp
  rw [← hm]
  unfold Dev.cvuJudge
  dsimp only
  repeat' split
  all_goals simp [Dev.cvuCtx, Dev.modCvu]

/-! ### Slices (14 R433, R441) -/

/-- A slice enters the buffered write of the next context. -/
theorem cvuSlice_next {d : Dev} {n : Nat} (h : d.cvuNext = some n) {w : CvuWrite} (hw : (d.cvuCtx n).buf = some w) :
    ∃ (k : Nat) (e : Dev), d.cvuSlice = some (n, k, e) ∧ e.cvu.rr = n ∧ e.cvuCtx n = ((d.cvuCtx n).enter w).1.settle := by
  unfold Dev.cvuSlice
  rw [h]
  dsimp only
  rw [hw]
  refine ⟨_, _, rfl, rfl, ?_⟩
  exact cvuCtx_modCvu d n (fun _ => ((d.cvuCtx n).enter w).1.settle)

theorem doCvuSlice_clean {d : Dev} {n : Nat} (h : d.cvuNext = some n) {w : CvuWrite} (hw : (d.cvuCtx n).buf = some w) :
    (doCvuSlice .clean d).cvu.rr = n ∧ (doCvuSlice .clean d).cvuCtx n = ((d.cvuCtx n).enter w).1.settle := by
  obtain ⟨k, e, hs, hr, hc⟩ := cvuSlice_next h hw
  unfold doCvuSlice
  rw [h]
  dsimp only
  rw [hs]
  exact ⟨hr, hc⟩

/-- A change of the owner that takes effect leaves the rest. -/
theorem settle_keeps (x : CvuCtx) : x.settle.buf = x.buf ∧ x.settle.run = x.run ∧ x.settle.bytes = x.bytes ∧ x.settle.runAlg = x.runAlg ∧
    x.settle.isMatch = x.isMatch ∧ x.settle.mismatch = x.mismatch ∧ x.settle.checkField = x.checkField := by
  unfold CvuCtx.settle
  split <;> exact ⟨rfl, rfl, rfl, rfl, rfl, rfl, rfl⟩

theorem doCvuSlice_lasting {d : Dev} {n : Nat} (h : d.cvuNext = some n) : ∃ e : Dev, doCvuSlice .lasting d =
    e.cvuEngine n (d.cvuCtx n).bytes.toNat .lasting := by
  unfold doCvuSlice
  rw [h]
  exact ⟨_, rfl⟩

theorem fcr_record (d : Dev) (code : Nat) (who : Who) (source : Option Nat) (data : BitVec 160) :
    (d.record code who source data).fcr = d.fcr := by simp

/-- A lasting failure raises its source. -/
theorem cvuEngine_lasting (d : Dev) (n first : Nat) : ((d.cvuEngine n first .lasting).src 0xF02).live = true := by
  unfold Dev.cvuEngine
  dsimp only
  rw [src_fcr (fcr_record ..), Dev.src_modSrc, if_pos rfl]
  exact src_liveMs_self (by decide) ..

/-- Settles O35: the writes of a context's holder, of another party and of a bad width, and the engine's slices. -/
theorem checkValueUnitRunsAndCompares : Obligations.CheckValueUnitRunsAndCompares := by
  unfold Obligations.CheckValueUnitRunsAndCompares
  intro s
  refine ⟨fun who n v hn hn' hb h => ?_, fun who n v en k hn hn' hb h => ⟨fun hen => ?_, fun h1 h3 h15 => ?_⟩,
    fun r n en v hn hn' hr hrun hh => ?_, fun check h => ?_, fun n h => ⟨fun k v hw => ?_, fun hw hf => ?_, ?_⟩⟩
  · have hheld : s.dev.cvuHeldBy who n := h.imp (fun ⟨e, he, ha, hw, hh, _⟩ => ⟨e, he, ha, hw, hh⟩) id
    have hown : ∀ e, who = .window e → bits v.toNat 8 3 = 0 := by
      rintro e rfl
      rcases h with ⟨_, _, _, _, _, h0⟩ | ⟨r, hr, -⟩
      · exact h0
      · cases hr
    obtain ⟨e, o, m, -, hctx, hstart, hcmp⟩ := cvuCtl_held hn hn' hb hheld hown
    have he : (e.cvuCtx n).buf = none := by rw [hctx]; exact hb
    refine ⟨fun h16 h17 => ?_, fun y h16 h17 hy => ?_⟩
    · refine ⟨{ s with dev := doCvuStart who n v s.dev }, rfl, ?_⟩
      dsimp only
      unfold doCvuStart
      rw [if_pos h16, hstart h16 h17, cvuAccept_empty he, hctx]
      exact ⟨rfl, rfl, rfl, rfl, rfl, rfl⟩
    · refine ⟨{ s with dev := doCvuCompare who n v s.dev }, rfl, ?_⟩
      dsimp only
      unfold doCvuCompare
      rw [if_pos (by rw [h16, h17]; rfl), hcmp h16 h17]
      obtain ⟨hfield, hbad⟩ := cvuJudge_verdict e n
      obtain ⟨hforced, hrun, hmatch⟩ := cvuJudge_rest e n
      rw [hfield, hbad, hforced, hrun, hmatch, hctx, hy]
      exact ⟨rfl, rfl, rfl, rfl, rfl⟩
  · refine ⟨{ s with dev := doCvuDataWrite who n en v s.dev }, rfl, ?_⟩
    dsimp only
    unfold doCvuDataWrite
    rw [cvuBy_held h hn hn' true]
    rcases hen with ⟨rfl, rfl⟩ | ⟨rfl, rfl⟩ | ⟨rfl, rfl⟩
    · exact cvuAccept_empty hb _
    · exact cvuAccept_empty hb _
    · exact cvuAccept_empty hb _
  · refine ⟨{ s with dev := doCvuDataWrite who n en v s.dev }, rfl, ?_⟩
    dsimp only
    unfold doCvuDataWrite
    rw [cvuBy_held h hn hn' true]
    split
    · exact absurd rfl h1
    · exact absurd rfl h3
    · exact absurd rfl h15
    · exact ⟨rfl, ctr_bump ..⟩
  · refine ⟨{ s with dev := doCvuDataWrite (.regulator r) n en v s.dev }, rfl, ?_⟩
    dsimp only
    unfold doCvuDataWrite
    rw [cvuBy_foreign hn hn' hr hrun hh]
    exact ⟨rfl, ctr_bump ..⟩
  · exact next_same (d := doCvuSlice check s.dev) (by unfold doCvuSlice; rw [h])
  · obtain ⟨hr, hc⟩ := doCvuSlice_clean h hw
    obtain ⟨hbuf, hrun, hbytes, -⟩ := settle_keeps ((s.dev.cvuCtx n).enter (.data k v)).1
    refine ⟨{ s with dev := doCvuSlice .clean s.dev }, rfl, hr, ?_⟩
    dsimp only
    rw [hc, hbuf, hrun, hbytes]
    exact ⟨rfl, rfl, rfl⟩
  · obtain ⟨hr, hc⟩ := doCvuSlice_clean h hw
    obtain ⟨hbuf, hrun, hbytes, halg, hmatch, hmis, hfield⟩ := settle_keeps ((s.dev.cvuCtx n).enter (.start 0)).1
    refine ⟨{ s with dev := doCvuSlice .clean s.dev }, rfl, hr, ?_⟩
    dsimp only
    rw [hc, hbuf, hbytes, halg, hmatch, hmis, hfield]
    refine ⟨?_, rfl, rfl, rfl, rfl, rfl⟩
    unfold CvuCtx.enter CvuCtx.folds
    dsimp only
    rw [if_pos rfl, hf]
    rfl
  · obtain ⟨e, he⟩ := doCvuSlice_lasting h
    refine ⟨{ s with dev := doCvuSlice .lasting s.dev }, rfl, ?_⟩
    dsimp only
    rw [he, cvuCtx_cvuEngine, if_pos rfl]
    exact ⟨rfl, rfl, cvuEngine_lasting ..⟩

end Sys2Proof.Machine
end

section
/-! PROOFS. Polders, sluices and the warden (03 R88-R90, R98, R108, R109, R111). -/
namespace Sys2Proof.Machine

/-! ### Polders -/

theorem plc_fail (d : Dev) (c : CmdRef) (st detail : Nat) : (d.fail c st detail).plc = d.plc := by simp
theorem plc_ok (d : Dev) (c : CmdRef) (r0 r1 detail : Nat) : (d.ok c r0 r1 detail).plc = d.plc := by simp
theorem plc_again (d : Dev) (c : CmdRef) (l : List Nat) : (d.again c l).plc = d.plc := by simp

theorem isRunning_hif {d d' : Dev} {c : CmdRef} {x : Cmd} (hh : d'.hif = d.hif) (h : d.isRunning c x) : d'.isRunning c x := by
  unfold Dev.isRunning at *
  rw [cmd?_hif hh]
  exact h

/-- A step that ends a command in an error leaves the polders. -/
theorem fail_plc {d e : Dev} {c : CmdRef} {x : Cmd} (h : d.isRunning c x) {st detail : Nat} (he : e = d.fail c st detail) :
    e.ended c x (failDone st detail) ∧ e.plc = d.plc := by
  subst he
  exact ⟨fail_ended h, plc_fail ..⟩

theorem polder_modPolder (d : Dev) (p : Nat) (f : Polder → Polder) : (d.modPolder p f).polder p = f (d.polder p) := by
  unfold Dev.polder Dev.modPolder
  rw [tget_tmod, if_pos rfl]

/-- No rule that a definition of an undefined polder breaks, or that a change of a defined one breaks, leaves it in the other state. -/
theorem polderBar_state {d : Dev} {p act r : Nat} (h : d.polderBar p act r = none) : decide (act = 0) = decide ((d.polder p).st = .undefined) := by
  by_contra hne
  unfold Dev.polderBar at h
  dsimp only at h
  rw [if_pos (by simpa using hne)] at h
  cases h

/-! ### DEFINE and MODIFY (03 R88, R90) -/

/-- The definition stands in a polder that has come into force. -/
def Polder.defined (x : Polder) (r now : Nat) : Polder :=
  { polderOf r with
    st := if x.st = .undefined then .forwarding else x.st, since := if x.st = .undefined then now else x.since }

/-- The sources of newly assigned lanes take their defaults. -/
def Dev.freshLane (d : Dev) (l : Nat) : Dev :=
  (d.modSrc (0x100 + l) (fun s => { s with cfg := none })).modSrc (0x300 + l) (fun s => { s with cfg := none })

/-- The definition is stored. -/
def Dev.storePolder (d : Dev) (p r : Nat) : Dev := d.modPolder p (fun x => x.defined r d.bal.tick)

/-- What follows once a definition has changed. -/
def Dev.polderFollows (d : Dev) (p : Nat) (x y : Polder) : Dev :=
  if x.st = .undefined then (if d.bal.mode = .forwarding then d.openBank p else d)
  else if x.owner ≠ y.owner then
    d.record Ev.polderOwner (.polders (2 ^ p)) none (dat [(0, 1, p), (1, 1, x.owner), (2, 1, y.owner)])
  else d

theorem plc_polderFollows (d : Dev) (p : Nat) (x y : Polder) : (d.polderFollows p x y).plc = d.plc := by
  unfold Dev.polderFollows
  repeat' split
  all_goals simp

/-- A definition that comes into force stands as it was given, in the state that the polder keeps or takes. -/
theorem polder_polderPut (d : Dev) (p r : Nat) : (d.polderPut p r).polder p = (d.polder p).defined r d.bal.tick := by
  unfold Dev.polderPut
  extract_lets x y old fresh d1 d2 d3 d4
  have h1p : d1.plc = d.plc := foldl_keeps (fun d => d.plc) (f := Dev.freshLane) (fun _ _ => rfl) fresh d
  have h1b : d1.bal = d.bal := foldl_keeps (fun d => d.bal) (f := Dev.freshLane) (fun _ _ => rfl) fresh d
  have h2 : d2.plc = d.plc ∧ d2.bal = d.bal := by
    unfold d2
    split
    · exact ⟨Eq.trans (by simp) h1p, Eq.trans (by simp) h1b⟩
    · exact ⟨h1p, h1b⟩
  obtain ⟨h2p, h2b⟩ := h2
  have h3 : d3.polder p = (d.polder p).defined r d.bal.tick := by
    refine (polder_modPolder d2 p _).trans ?_
    rw [polder_of_plc h2p]
    unfold Polder.defined
    dsimp only
    rw [h2b]
  have h4 : d4.plc = d3.plc := by
    unfold d4
    simp
  clear_value d4 d3
  change (d4.polderFollows p x y).polder p = _
  rw [polder_of_plc ((plc_polderFollows d4 p x y).trans h4), h3]

theorem doPolderSet {d : Dev} {c : CmdRef} {io : Io} {x : Cmd} (h : d.isRunning c x) (act : Nat) :
    (ioRecord io 256 = none → (d.polderSet c io act).ended c x (failDone stTimeout 16) ∧ (d.polderSet c io act).plc = d.plc) ∧
    ∀ r, ioRecord io 256 = some r →
      (∀ f, d.polderBar (fld r 0 0 3) act r = some f →
        (d.polderSet c io act).ended c x (failDone f.1 (16 + 256 * f.2)) ∧ (d.polderSet c io act).plc = d.plc) ∧
      (d.polderBar (fld r 0 0 3) act r = none → (d.polderSet c io act).ended c x okDone ∧
        (d.polderSet c io act).polder (fld r 0 0 3) = (d.polder (fld r 0 0 3)).defined r d.bal.tick) := by
  unfold Dev.polderSet
  refine ⟨fun hr => ?_, fun r hr => ⟨fun f hf => ?_, fun hf => ?_⟩⟩
  · rw [hr]
    exact fail_plc h rfl
  · rw [hr]
    dsimp only
    rw [hf]
    exact fail_plc h rfl
  · rw [hr]
    dsimp only
    rw [hf]
    refine ⟨ok_ended (isRunning_calm (Dev.polderPut_calm ..) h), ?_⟩
    rw [polder_of_plc (plc_ok ..), polder_polderPut]

/-! ### UNDEFINE (03 R89) -/

/-- A polder without ports, rings, queues and vectors. -/
def Polder.cleared (x : Polder) : Polder := { x with portMap := 0, crMask := 0, cqMask := 0, rxqMask := 0, txqMask := 0, vecCount := 0 }

theorem plc_adminDown (d : Dev) (l e : Nat) : (d.adminDown l e).plc = d.plc := by simp
theorem plc_genDiscard (d : Dev) (e : Nat) : (d.genDiscard e).plc = d.plc := by simp
theorem plc_disableRing (d : Dev) (p : Nat) : (d.disableRing p).plc = d.plc := by simp

/-- A port goes down, and its default actions return to the image's. -/
def Dev.portCleared (d : Dev) (e l : Nat) : Dev :=
  let d := d.adminDown l e
  { d with pse := { d.pse with entries := (List.range 6).foldl (fun t k => tset t none (8 * l + k) none) d.pse.entries } }

theorem plc_portCleared (d : Dev) (e l : Nat) : (d.portCleared e l).plc = d.plc := by
  unfold Dev.portCleared
  exact plc_adminDown ..

theorem polder_polderClear (d : Dev) (p e : Nat) : (d.polderClear p e).polder p = (d.polder p).cleared := by
  unfold Dev.polderClear
  extract_lets lanes d1 d2 d3
  have h1 : d1.plc = d.plc := foldl_keeps (fun d => d.plc) (f := fun d l => d.portCleared e l) (fun d l => plc_portCleared d e l) _ d
  have h2 : d2.plc = d.plc := by
    unfold d2
    split
    · exact (plc_genDiscard ..).trans h1
    · exact h1
  have h3 : d3.polder p = (d.polder p).cleared := by
    refine (polder_modPolder _ p _).trans ?_
    rw [polder_of_plc ((plc_disableRing d2 p).trans h2)]
    rfl
  clear_value d3
  have h4 : (((lanes.foldl Dev.laneRefresh d3).judgeAll).portsFollow.vecsFollow).plc = d3.plc :=
    Eq.trans (by simp) (foldl_keeps (fun d => d.plc) (f := Dev.laneRefresh) (fun d l => by simp) lanes d3)
  rw [polder_of_plc h4, h3]

/-- What the last step of UNDEFINE leaves of the polder, the sluices, the rules and the tables. -/
theorem polderDrop_parts (d : Dev) (p : Nat) : (d.polderDrop p).polder p = {} ∧
    (d.polderDrop p).plc.sluices = d.plc.sluices.filter (fun s => decide (s.1 ≠ p ∧ s.2.1 ≠ p)) ∧
    (d.polderDrop p).mrp.rules = d.mrp.rules.filter (fun r => decide (r.1 ≠ p)) ∧
    ∀ i e, (i, some e) ∈ (d.polderDrop p).rle.ents → e.polder ≠ p := by
  unfold Dev.polderDrop
  extract_lets keep s1 d1 d2 s2 s3 d3 d4 d5
  have h2p : d2.plc = d.plc := foldl_keeps (fun d => d.plc) (fun d q => by simp) _ d1
  have h2m : d2.mrp = d.mrp := foldl_keeps (fun d => d.mrp) (fun d q => by simp) _ d1
  have h2r : d2.rle = d1.rle := foldl_keeps (fun d => d.rle) (fun d q => by simp) _ d1
  have h5p : d5.plc = d4.plc := foldl_keeps (fun d => d.plc) (fun d k => by simp) _ d4
  have h5m : d5.mrp = d4.mrp := foldl_keeps (fun d => d.mrp) (fun d k => by simp) _ d4
  have h5r : d5.rle = d4.rle := foldl_keeps (fun d => d.rle) (fun d k => by simp) _ d4
  clear_value d5 d2
  rw [polder_of_plc (show d5.judgeAll.parityAll.plc = d4.plc from Eq.trans (by simp) h5p),
    show d5.judgeAll.parityAll.plc = d4.plc from Eq.trans (by simp) h5p,
    show d5.judgeAll.parityAll.mrp = d4.mrp from Eq.trans (by simp) h5m,
    show d5.judgeAll.parityAll.rle = d4.rle from Eq.trans (by simp) h5r]
  refine ⟨polder_modPolder .., ?_, ?_, ?_⟩
  · show d2.plc.sluices.filter _ = _
    rw [h2p]
  · show d2.mrp.rules.filter _ = _
    rw [h2m]
  · show ∀ i e, (i, some e) ∈ d2.rle.ents → e.polder ≠ p
    rw [h2r]
    exact fun i e he => of_decide_eq_true (List.mem_filter.1 he).2

/-! ### Sluices (03 R98) -/

/-- The directions that a command names. -/
def sluiceWays (x : Cmd) : List (Nat × Nat × Nat) :=
  if x.fld 20 1 1 = 1 then [(x.fld 16 0 3, x.fld 17 0 3, x.fld 18 0 14), (x.fld 17 0 3, x.fld 16 0 3, x.fld 18 0 14)]
  else [(x.fld 16 0 3, x.fld 17 0 3, x.fld 18 0 14)]

theorem doOpSluiceSet_run {c : CmdRef} {io : Io} {d : Dev} {x : Cmd} (h : d.isRunning c x) (hop : isOp 0x81 x = true) :
    doOpSluiceSet c io d = if x.fld 16 0 3 = x.fld 17 0 3 then d.badOp c 17
      else if (d.polder (x.fld 16 0 3)).st = .undefined ∨ (d.polder (x.fld 17 0 3)).st = .undefined then d.fail c stNotFound
      else if x.fld 20 0 1 = 1 then
        if 4096 < d.plc.sluices.length + ((sluiceWays x).filter (fun w => !d.plc.sluices.contains w)).length then d.fail c stNoRoom
        else ({ d with plc := { d.plc with
          sluices := d.plc.sluices ++ (sluiceWays x).filter (fun w => !d.plc.sluices.contains w) } }).ok c
      else if (sluiceWays x).all d.plc.sluices.contains = true then
        ({ d with plc := { d.plc with sluices := d.plc.sluices.filter (fun s => !(sluiceWays x).contains s) } }).ok c
      else d.fail c stNotFound := step1_run h hop

theorem isRunning_plc {d : Dev} {c : CmdRef} {x : Cmd} (h : d.isRunning c x) (m : Plc) : ({ d with plc := m }).isRunning c x := h

theorem sluiceWays_length (x : Cmd) : (sluiceWays x).length ≤ 2 := by
  unfold sluiceWays
  split
  · exact Nat.le_refl 2
  · exact Nat.le_succ 1

/-- The directions named: one, and the other where both are. -/
theorem mem_sluiceWays {x : Cmd} {u : Nat × Nat × Nat} : u ∈ sluiceWays x ↔ u = (x.fld 16 0 3, x.fld 17 0 3, x.fld 18 0 14) ∨
    (x.fld 20 1 1 = 1 ∧ u = (x.fld 17 0 3, x.fld 16 0 3, x.fld 18 0 14)) := by
  unfold sluiceWays
  split
  next h => simp [h]
  next h => simp [h]

/-- Opening makes every named direction open, and closes none. -/
theorem mem_opened {l ways : List (Nat × Nat × Nat)} {u : Nat × Nat × Nat} :
    u ∈ l ++ ways.filter (fun w => !l.contains w) ↔ u ∈ l ∨ u ∈ ways := by
  rw [List.mem_append, List.mem_filter]
  by_cases h : u ∈ l
  · simp [h]
  · simp [h]

/-! ### The handover (03 R108, R109, R111) -/

theorem doOpWardenHandover_first {c : CmdRef} {io : Io} {d : Dev} {x : Cmd} (h : d.isRunning c x) (hop : isOp 0x82 x = true)
    (hs : x.scratch = []) : doOpWardenHandover c io d = if x.fld 24 0 16 ≠ 304 then d.again c [1]
      else match ioBytes io 304 with
        | none => d.fail c stTimeout 0x10
        | some bs => d.again c (1 :: bs.map BitVec.toNat) := by
  unfold doOpWardenHandover
  rw [step1_run h hop, hs] <;> rfl

theorem doOpWardenHandover_judged {c : CmdRef} {io : Io} {d : Dev} {x : Cmd} (h : d.isRunning c x) (hop : isOp 0x82 x = true)
    {k : Nat} {bs : List Nat} (hs : x.scratch = k :: bs) :
    (d.tokenCheck (bs.map (BitVec.ofNat 8)) false = none →
      (doOpWardenHandover c io d).ended c x okDone ∧
      (doOpWardenHandover c io d).plc.warden = fld (leNat (bs.map (BitVec.ofNat 8))) 6 0 2 ∧
      (doOpWardenHandover c io d).plc.handovers = d.plc.handovers + 1 ∧ (doOpWardenHandover c io d).plc.challenge ≠ 0) ∧
    (∀ why, d.tokenCheck (bs.map (BitVec.ofNat 8)) false = some why →
      (doOpWardenHandover c io d).ended c x (failDone stBadOperand (16 + 256 * why)) ∧ (doOpWardenHandover c io d).plc = d.plc) := by
  have hplc (d : Dev) (code : Nat) (who : Who) (source : Option Nat) (data : BitVec 160) : (d.record code who source data).plc = d.plc := by
    simp
  have hrec (d : Dev) (code : Nat) (who : Who) (source : Option Nat) (data : BitVec 160) : (d.record code who source data).hif = d.hif := by
    simp
  unfold doOpWardenHandover Dev.handover
  rw [step1_run h hop, hs]
  dsimp only
  refine ⟨fun hk => ?_, fun why hk => ?_⟩
  · rw [hk]
    dsimp only
    refine ⟨ok_ended (isRunning_hif (hrec ..) h), ?_⟩
    rw [plc_ok, hplc]
    exact ⟨rfl, rfl, drawChallenge_ne_zero _⟩
  · rw [hk]
    dsimp only
    refine ⟨badOp_ended (isRunning_hif (hrec ..) h), ?_⟩
    exact (plc_fail ..).trans (hplc ..)

/-- Settles O36: definitions by the rule that they break or by what they store, the two steps of UNDEFINE, sluices, and the handover. -/
theorem poldersSluicesAndWarden : Obligations.PoldersSluicesAndWarden := by
  unfold Obligations.PoldersSluicesAndWarden
  intro s c io x h
  refine ⟨fun hop => ?_, fun hop => ?_, fun hop => ⟨fun hs => ?_, ?_⟩, ?_, fun hop => ⟨fun hs => ?_, ?_⟩⟩
  · have hrow : doOpPolderDefineDefine c io s.dev = s.dev.polderSet c io 0 := step1_run h hop
    obtain ⟨hnone, hsome⟩ := doPolderSet (io := io) h 0
    refine ⟨{ s with dev := doOpPolderDefineDefine c io s.dev }, rfl, ?_⟩
    dsimp only
    rw [hrow]
    refine ⟨hnone, ?_⟩
    intro r p hr hp
    subst hp
    obtain ⟨hbad, hgood⟩ := hsome r hr
    refine ⟨hbad, fun hb => ?_⟩
    obtain ⟨he, hpol⟩ := hgood hb
    have hst : (s.dev.polder (fld r 0 0 3)).st = .undefined := of_decide_eq_true (polderBar_state hb).symm
    refine ⟨he, hpol.trans ?_⟩
    unfold Polder.defined
    rw [if_pos hst, if_pos hst]
  · have hrow : doOpPolderDefineModify c io s.dev = s.dev.polderSet c io 1 := step1_run h hop
    obtain ⟨hnone, hsome⟩ := doPolderSet (io := io) h 1
    refine ⟨{ s with dev := doOpPolderDefineModify c io s.dev }, rfl, ?_⟩
    dsimp only
    rw [hrow]
    refine ⟨hnone, ?_⟩
    intro r p hr hp
    subst hp
    obtain ⟨hbad, hgood⟩ := hsome r hr
    refine ⟨hbad, fun hb => ?_⟩
    obtain ⟨he, hpol⟩ := hgood hb
    have hst : (s.dev.polder (fld r 0 0 3)).st ≠ .undefined := of_decide_eq_false (polderBar_state hb).symm
    refine ⟨he, hpol.trans ?_⟩
    unfold Polder.defined
    rw [if_neg hst, if_neg hst]
  · refine ⟨{ s with dev := doOpPolderDefineUndefine c io s.dev }, rfl, ?_⟩
    dsimp only
    unfold doOpPolderDefineUndefine
    rw [step1_run h hop, hs]
    dsimp only
    refine ⟨fun hr => ?_, ?_⟩
    · rw [hr]
      exact fail_plc h rfl
    · intro r p hr hp
      subst hp
      rw [hr]
      dsimp only
      refine ⟨fun f hf => ?_, fun hf => ?_⟩
      · rw [hf]
        exact fail_plc h rfl
      · rw [hf]
        dsimp only
        refine ⟨again_scratch (isRunning_calm (Dev.polderClear_calm ..) h) _, ?_⟩
        rw [polder_of_plc (plc_again ..), polder_polderClear]
        rfl
  · intro p rest hs
    have hrow : doOpPolderDefineUndefine c io s.dev = (s.dev.polderDrop p).ok c := by
      unfold doOpPolderDefineUndefine
      rw [step1_run h hop, hs]
    obtain ⟨hpol, hslu, hrules, hents⟩ := polderDrop_parts s.dev p
    refine ⟨{ s with dev := doOpPolderDefineUndefine c io s.dev }, rfl, ?_⟩
    dsimp only
    rw [hrow, polder_of_plc (plc_ok ..), plc_ok, mrp_ok, hpol, hslu, hrules, show ((s.dev.polderDrop p).ok c).rle = (s.dev.polderDrop p).rle by simp]
    refine ⟨ok_ended (isRunning_hif (by simp) h), rfl, fun w hw => of_decide_eq_true (List.mem_filter.1 hw).2,
      fun w hw => of_decide_eq_true (List.mem_filter.1 hw).2, hents⟩
  · intro a b w v hop ha hb hw hv
    subst ha hb hw hv
    have hrow := doOpSluiceSet_run (io := io) h hop
    refine ⟨{ s with dev := doOpSluiceSet c io s.dev }, rfl, fun hab => ?_, fun hab hst => ?_, fun hab ha hb => ⟨fun hset => ⟨fun hl => ?_,
      fun hl hw => ?_⟩, fun hset => ⟨fun hw hv => ?_, fun hw => ?_⟩⟩⟩
    · exact fail_plc h (hrow.trans (if_pos hab))
    all_goals rw [if_neg hab] at hrow
    · exact fail_plc h (hrow.trans (if_pos hst))
    all_goals rw [if_neg (not_or.2 ⟨ha, hb⟩)] at hrow
    · have hlen := Nat.le_trans (List.length_filter_le (fun w => !s.dev.plc.sluices.contains w) (sluiceWays x)) (sluiceWays_length x)
      dsimp only
      rw [hrow, if_pos hset, if_neg (by omega), plc_ok]
      exact ⟨ok_ended (isRunning_plc h _), mem_opened.2 (.inr (mem_sluiceWays.2 (.inl rfl))),
        fun hb => mem_opened.2 (.inr (mem_sluiceWays.2 (.inr ⟨hb, rfl⟩))), fun u hu => mem_opened.2 (.inl hu)⟩
    · have hnew : 0 < ((sluiceWays x).filter (fun w => !s.dev.plc.sluices.contains w)).length :=
        List.length_pos_of_mem (List.mem_filter.2 ⟨mem_sluiceWays.2 (.inl rfl), by simpa using hw⟩)
      exact fail_plc h (hrow.trans ((if_pos hset).trans (if_pos (by omega))))
    all_goals rw [if_neg (by omega)] at hrow
    · have hall : (sluiceWays x).all s.dev.plc.sluices.contains = true := by
        rw [List.all_eq_true]
        intro u hu
        rw [List.contains_iff_mem]
        rcases mem_sluiceWays.1 hu with rfl | ⟨hb, rfl⟩
        · exact hw
        · exact hv.resolve_left (by omega)
      have hgone (u : Nat × Nat × Nat) (hu : u ∈ sluiceWays x) : u ∉ s.dev.plc.sluices.filter (fun s => !(sluiceWays x).contains s) := by
        intro hm
        have hn := (List.mem_filter.1 hm).2
        rw [List.contains_iff_mem.2 hu] at hn
        cases hn
      dsimp only
      rw [hrow, if_pos hall, plc_ok]
      exact ⟨ok_ended (isRunning_plc h _), hgone _ (mem_sluiceWays.2 (.inl rfl)), fun hb => hgone _ (mem_sluiceWays.2 (.inr ⟨hb, rfl⟩))⟩
    · have hall : ¬ (sluiceWays x).all s.dev.plc.sluices.contains = true := by
        rw [List.all_eq_true]
        intro hall
        rcases hw with hw | ⟨hb, hv⟩
        · exact hw (List.contains_iff_mem.1 (hall _ (mem_sluiceWays.2 (.inl rfl))))
        · exact hv (List.contains_iff_mem.1 (hall _ (mem_sluiceWays.2 (.inr ⟨hb, rfl⟩))))
      exact fail_plc h (hrow.trans (if_neg hall))
  · have hrow := doOpWardenHandover_first (io := io) h hop hs
    refine ⟨{ s with dev := doOpWardenHandover c io s.dev }, rfl, ?_, fun hl => ?_, fun hl hb => ?_, fun bs hl hb => ?_⟩
    · dsimp only
      rw [hrow]
      repeat' split
      · exact plc_again ..
      · exact plc_fail ..
      · exact plc_again ..
    · dsimp only
      rw [hrow, if_pos hl]
      exact again_scratch h _
    · dsimp only
      rw [hrow, if_neg (not_not.2 hl), hb]
      exact fail_ended h
    · dsimp only
      rw [hrow, if_neg (not_not.2 hl), hb]
      exact again_scratch h _
  · intro k bs hs
    exact ⟨{ s with dev := doOpWardenHandover c io s.dev }, rfl, doOpWardenHandover_judged h hop hs⟩

end Sys2Proof.Machine
end

section
/-! PROOFS. Modes (18 R525, R526, R528; 03 R100; 15 R463). -/
namespace Sys2Proof.Machine

/-! ### What entering a mode that carries frames, or may, leaves -/

theorem bal_applyMap (d : Dev) : d.applyMap.bal = d.bal := by simp
theorem map_applyMap (d : Dev) : d.applyMap.spw.map = d.spw.nextMap := by
  unfold Dev.applyMap
  extract_lets s1 d1 s2
  have h1 : d1.spw = d.spw := by
    unfold d1
    split <;> rfl
  obtain ⟨f, hf⟩ := spw_refreshFull { d1 with spw := { s2 with map := d1.spw.nextMap } }
  rw [hf]
  exact congrArg Spw.nextMap h1

/-- A mode that is entered with no loss of the core domain and no end of a diagnosis. -/
def keepsBalance (m old : DevMode) : Prop := m = .forwarding ∨ m = .draining ∨ m = .safeHold ∨ (m = .provisioning ∧ old ≠ .diagnostic)

theorem entered_forwarding {d : Dev} (h : d.bal.mode = .forwarding) (old : DevMode) :
    (d.entered old).bal = d.bal ∧ (d.entered old).hif = d.hif ∧ (d.entered old).spw.map = d.spw.nextMap := by
  unfold Dev.entered
  rw [h]
  dsimp only
  rw [show ∀ e : Dev, (e.openBanks.sweepStart.portsFollow).bal = e.bal from fun e => by simp,
    show ∀ e : Dev, (e.openBanks.sweepStart.portsFollow).hif = e.hif from fun e => by simp,
    show ∀ e : Dev, (e.openBanks.sweepStart.portsFollow).spw = e.spw from fun e => by simp]
  split
  · exact ⟨bal_applyMap d, show d.applyMap.hif = d.hif by simp, map_applyMap d⟩
  · exact ⟨bal_applyMap d, by simp, map_applyMap d⟩

theorem entered_keeps {d : Dev} {old : DevMode} (h : keepsBalance d.bal.mode old) : (d.entered old).bal = d.bal ∧ Calm d (d.entered old) := by
  rcases h with h | h | h | ⟨h, ho⟩
  · obtain ⟨hb, hh, -⟩ := entered_forwarding h old
    exact ⟨hb, congrArg Hif.calm hh⟩
  · unfold Dev.entered
    rw [h]
    exact ⟨by simp, congrArg Hif.calm (show d.portsFollow.hif = d.hif by simp)⟩
  · unfold Dev.entered
    rw [h]
    refine ⟨by simp, ?_⟩
    exact (congrArg Hif.calm (show (d.freeAll .drSafeHold false).sweepStop.portsFollow.hif = (d.freeAll .drSafeHold false).hif by simp)).trans
      (Dev.freeAll_calm ..)
  · unfold Dev.entered
    rw [h]
    dsimp only
    rw [if_neg ho]
    exact ⟨by simp, congrArg Hif.calm (show d.cxlEnter.sweepStop.portsFollow.hif = d.hif by simp)⟩

/-! ### The commands that a mode change leaves (18 R527) -/

theorem names_ended (c : CmdRef) (y : Cmd) : names c y.ended = names c y := by
  unfold Cmd.ended
  split <;> rfl

/-- The command stands where its opcode may run in the new mode. -/
def stillRuns (m : DevMode) (x : Cmd) : Cmd := if x.outcome.isNone && !opModes x.opcode m then x.ended else x

theorem names_stillRuns (c : CmdRef) (m : DevMode) (y : Cmd) : names c (stillRuns m y) = names c y := by
  unfold stillRuns
  split
  · exact names_ended c y
  · rfl

theorem cmd?_endCommands {d : Dev} {c : CmdRef} {x : Cmd} (hx : d.cmd? c = some x) (ho : opModes x.opcode d.bal.mode = true) :
    d.endCommands.cmd? c = some x := by
  have hstep (e : Dev) (k : Nat) (h : e.cmd? c = some x) :
      (e.modEp k (fun y => { y with cmds := y.cmds.map (stillRuns d.bal.mode) })).cmd? c = some x := by
    unfold Dev.cmd? at *
    rw [ep_modEp]
    split
    next hk =>
      dsimp only
      rw [List.find?_map, show names c ∘ stillRuns d.bal.mode = names c from funext (names_stillRuns c d.bal.mode), hk, h, Option.map_some]
      unfold stillRuns
      rw [ho, Bool.not_true, Bool.and_false, if_neg Bool.false_ne_true]
    next => exact h
  have hfold : ∀ (l : List Nat) (e : Dev), e.cmd? c = some x →
      (l.foldl (fun e k => e.modEp k (fun y => { y with cmds := y.cmds.map (stillRuns d.bal.mode) })) e).cmd? c = some x := by
    intro l
    induction l with
    | nil => exact fun e h => h
    | cons k l ih => exact fun e h => ih _ (hstep e k h)
  unfold Dev.endCommands
  extract_lets d1 running
  have h1 : d1.cmd? c = some x := hfold (List.range 4) d hx
  clear_value running d1
  exact (cmd?_hif (show Dev.hif _ = d1.hif by simp) c).trans h1

theorem toMode_keeps {d : Dev} {m : DevMode} (hm : keepsBalance m d.bal.mode) (code : Nat) (source : Option Nat) (fs : List (Nat × Nat × Nat)) :
    (d.toMode m code source fs).bal = { d.bal with mode := m, prevMode := d.bal.mode, reason := code, since := d.bal.tick } ∧
    ∀ c x, d.cmd? c = some x → opModes x.opcode m = true → (d.toMode m code source fs).cmd? c = some x := by
  unfold Dev.toMode
  extract_lets old d1 s2 d2
  have h1 : d1.bal = d.bal ∧ d1.hif = d.hif := by
    unfold d1
    split
    · exact ⟨by simp, by simp⟩
    · exact ⟨rfl, rfl⟩
  have h2 : d2.bal = { d.bal with mode := m, prevMode := d.bal.mode, reason := code, since := d.bal.tick } := by
    show { d1.bal with mode := m, prevMode := d.bal.mode, reason := code, since := d1.bal.tick } = _
    rw [h1.1]
  have h2h : d2.hif = d.hif := h1.2
  clear_value d2
  have h3 : (d2.record code .shared source (dat fs)).bal = d2.bal ∧ (d2.record code .shared source (dat fs)).hif = d2.hif :=
    ⟨by simp, by simp⟩
  obtain ⟨h3, h3h⟩ := h3
  generalize d2.record code .shared source (dat fs) = d3 at h3 h3h ⊢
  have hmode : d3.bal.mode = m := by rw [h3, h2]
  obtain ⟨h4, h4h⟩ := entered_keeps (d := d3) (old := old) (by rw [hmode]; exact hm)
  generalize d3.entered old = d4 at h4 h4h ⊢
  refine ⟨?_, fun c x hx ho => ?_⟩
  · rw [show d4.endCommands.bal = d4.bal by simp, h4, h3, h2]
  · refine cmd?_endCommands ?_ (by rw [h4, hmode]; exact ho)
    rw [cmd?_calm h4h, cmd?_hif (h3h.trans h2h), hx]

theorem map_toMode {d : Dev} (code : Nat) (source : Option Nat) (fs : List (Nat × Nat × Nat)) :
    (d.toMode .forwarding code source fs).spw.map = d.spw.nextMap := by
  unfold Dev.toMode
  extract_lets old d1 s2 d2
  have h1 : d1.spw = d.spw := by
    unfold d1
    split
    · simp
    · rfl
  have h2 : d2.spw = d.spw := h1
  have h2m : d2.bal.mode = .forwarding := rfl
  clear_value d2
  have hm : (d2.record code .shared source (dat fs)).bal.mode = .forwarding := by
    rw [show (d2.record code .shared source (dat fs)).bal = d2.bal by simp]
    exact h2m
  rw [show ∀ e : Dev, e.endCommands.spw = e.spw from fun e => by simp, (entered_forwarding hm old).2.2,
    show (d2.record code .shared source (dat fs)).spw = d2.spw by simp, h2]

/-! ### OP_MODE_SET of the device (18 R525) -/

theorem bal_again (d : Dev) (c : CmdRef) (l : List Nat) : (d.again c l).bal = d.bal := by simp
theorem spw_ok (d : Dev) (c : CmdRef) (r0 r1 detail : Nat) : (d.ok c r0 r1 detail).spw = d.spw := by simp

/-- A step that ends a command in an error leaves the mode. -/
theorem fail_bal {d e : Dev} {c : CmdRef} {x : Cmd} (h : d.isRunning c x) {st detail : Nat} (he : e = d.fail c st detail) :
    e.bal = d.bal ∧ e.ended c x (failDone st detail) := by
  subst he
  exact ⟨bal_fail .., fail_ended h⟩

/-- The command returns the mode, the mode at its dispatch, and since when. -/
def Dev.modeDone (d : Dev) (c : CmdRef) (x : Cmd) : Dev := d.ok c (d.bal.mode.code + 16 * (x.dispMode % 16)) (d.bal.since % 2 ^ 40)

theorem modeDone_ends {d : Dev} {c : CmdRef} {x : Cmd} (hx : d.cmd? c = some x) (ho : x.outcome = none) (hm : x.marked = false) :
    (d.modeDone c x).bal = d.bal ∧
    (d.modeDone c x).ended c x (okDone (d.bal.mode.code + 16 * (x.dispMode % 16)) (d.bal.since % 2 ^ 40)) :=
  ⟨bal_ok .., finish_waiting hx ho hm _⟩

theorem byCommand_keeps {d : Dev} {m : DevMode} (hm : keepsBalance m d.bal.mode) (e : Nat) :
    (d.byCommand m e).bal = { d.bal with mode := m, prevMode := d.bal.mode, reason := Ev.modeCommand, since := d.bal.tick } ∧
    ∀ c x, d.cmd? c = some x → opModes x.opcode m = true → (d.byCommand m e).cmd? c = some x := toMode_keeps hm ..

/-- A mode set by command, and the command's answer. -/
theorem byCommand_modeDone {d : Dev} {c : CmdRef} {x : Cmd} (h : d.isRunning c x) (hop : x.opcode = 5) {m : DevMode}
    (hm : keepsBalance m d.bal.mode) : ((d.byCommand m c.ep).modeDone c x).bal =
      { d.bal with mode := m, prevMode := d.bal.mode, reason := Ev.modeCommand, since := d.bal.tick } ∧
    ((d.byCommand m c.ep).modeDone c x).ended c x (okDone (m.code + 16 * (x.dispMode % 16)) (d.bal.tick % 2 ^ 40)) := by
  obtain ⟨hx, -, ho, hmk⟩ := h
  obtain ⟨hb, hc⟩ := byCommand_keeps hm c.ep
  have hmode : opModes x.opcode m = true := by
    rw [hop]
    rcases hm with rfl | rfl | rfl | ⟨rfl, -⟩ <;> rfl
  obtain ⟨hb', he⟩ := modeDone_ends (hc c x hx hmode) ho hmk
  rw [hb] at hb' he
  exact ⟨hb', he⟩

/-- OP_MODE_SET by the mode that the device is in. -/
def Dev.modeAsked (d : Dev) (c : CmdRef) (x : Cmd) (t : Nat) : DevMode → Dev
  | .forwarding =>
    if t = 5 then
      (d.startDrain (if x.fld 18 0 16 ≠ 0 then x.fld 18 0 16 else if d.bal.drainMs = 0 then 1000 else d.bal.drainMs) c.ep).modeDone c x
    else (d.byCommand .safeHold c.ep).modeDone c x
  | .safeHold | .diagnostic =>
    if (t = 3 ∨ t = 4) ∧ (d.boot.diagRom ∨ d.boot.bistRun) then d.fail c stWrongMode 0x0100
    else if (t = 3 ∨ t = 4) ∧ d.bal.mode = .safeHold ∧ d.exitBlocked then d.fail c stClearRefused
    else (d.byCommand (modeOfCode t) c.ep).modeDone c x
  | _ => (d.byCommand (modeOfCode t) c.ep).modeDone c x

theorem doOpModeSetDevice_same {d : Dev} {c : CmdRef} {io : Io} {x : Cmd} (h : d.isRunning c x) (hop : isOpAct 0x05 (16, 4, 1) 0 x = true)
    (ht : x.fld 16 0 4 = d.bal.mode.code) : doOpModeSetDevice c io d = d.modeDone c x := (step1_run h hop).trans (if_pos ht)

theorem doOpModeSetDevice_other {d : Dev} {c : CmdRef} {io : Io} {x : Cmd} (h : d.isRunning c x) (hop : isOpAct 0x05 (16, 4, 1) 0 x = true)
    (ht : x.fld 16 0 4 ≠ d.bal.mode.code) :
    (reaches d.bal.mode (x.fld 16 0 4) = false → doOpModeSetDevice c io d = d.fail c stWrongMode 0x100) ∧
    (reaches d.bal.mode (x.fld 16 0 4) = true → d.bal.mode ≠ .dormant →
      (d.regRuns 0 = false → doOpModeSetDevice c io d = d.again c []) ∧
      (d.regRuns 0 = true → doOpModeSetDevice c io d = d.modeAsked c x (x.fld 16 0 4) d.bal.mode)) := by
  unfold doOpModeSetDevice
  rw [step1_run h hop]
  dsimp only
  rw [if_neg ht]
  refine ⟨fun hr => if_pos (by rw [hr]; rfl), fun hr hd => ?_⟩
  rw [if_neg (by rw [hr]; decide)]
  refine ⟨fun hg => if_pos ⟨hd, by rw [hg]; rfl⟩, fun hg => ?_⟩
  rw [if_neg (by rw [hg]; simp)]
  unfold Dev.modeAsked Dev.modeDone Dev.modeResult
  cases hmode : d.bal.mode with
  | dormant => exact absurd hmode hd
  | off => rfl
  | loading => rfl
  | provisioning => rfl
  | forwarding => rfl
  | draining => rfl
  | safeHold => rfl
  | diagnostic => rfl

theorem startDrain_modeDone {d : Dev} {c : CmdRef} {x : Cmd} (h : d.isRunning c x) (hop : x.opcode = 5) (ms : Nat) :
    ((d.startDrain ms c.ep).modeDone c x).bal.mode = .draining ∧ ((d.startDrain ms c.ep).modeDone c x).bal.drainStart = d.bal.tick ∧
    ((d.startDrain ms c.ep).modeDone c x).bal.drainEnd = d.bal.tick + 25000 * ms ∧
    ((d.startDrain ms c.ep).modeDone c x).ended c x (okDone (5 + 16 * (x.dispMode % 16)) (d.bal.tick % 2 ^ 40)) := by
  obtain ⟨hx, -, ho, hmk⟩ := h
  obtain ⟨hb, hc⟩ := byCommand_keeps (d := d) (m := .draining) (.inr (.inl rfl)) c.ep
  have hx' : (d.startDrain ms c.ep).cmd? c = some x := hc c x hx (by rw [hop]; rfl)
  have hbal : (d.startDrain ms c.ep).bal = { (d.byCommand .draining c.ep).bal with
    drainStart := (d.byCommand .draining c.ep).bal.tick, drainEnd := (d.byCommand .draining c.ep).bal.tick + msTicks ms } := rfl
  rw [hb] at hbal
  obtain ⟨hb', he⟩ := modeDone_ends hx' ho hmk
  rw [hbal] at hb' he
  rw [hb']
  exact ⟨rfl, rfl, rfl, he⟩

/-! ### OP_MODE_SET of a polder (03 R100, 18 R526) -/

/-- A mode in which polders have states of their own. -/
def modeBears (m : DevMode) : Bool :=
  match m with
  | .provisioning | .forwarding | .draining | .safeHold => true
  | _ => false

/-- OP_MODE_SET of a polder by the polder's state. -/
def Dev.polderAsked (d : Dev) (c : CmdRef) (x : Cmd) (t p : Nat) : PolderSt → Dev
  | .undefined => d.fail c stNotFound
  | .forwarding => if t = 4 then d.polderResult c x p else (d.setPolderSt p .draining).polderResult c x p
  | .draining => if t = 5 then d.polderResult c x p else (d.setPolderSt p .forwarding).polderResult c x p
  | .safeHold =>
    if t = 5 then d.fail c stWrongMode 0x0100
    else if d.polderBlocked p then d.fail c stClearRefused
    else ((d.setPolderSt p .forwarding).clearLive (0x83 + 8 * p)).polderResult c x p

theorem doOpModeSetPolder_run {d : Dev} {c : CmdRef} {io : Io} {x : Cmd} (h : d.isRunning c x) (hop : isOpAct 0x05 (16, 4, 1) 1 x = true) :
    doOpModeSetPolder c io d = if (!modeBears d.bal.mode) = true then d.fail c stWrongMode 0x0200
      else d.polderAsked c x (x.fld 16 0 4) (x.fld 17 0 3) (d.polder (x.fld 17 0 3)).st := by
  unfold doOpModeSetPolder
  rw [step1_run h hop]
  unfold modeBears Dev.polderAsked
  rfl

theorem polderResult_ends {d : Dev} {c : CmdRef} {x : Cmd} (h : d.isRunning c x) (p : Nat) : (d.polderResult c x p).plc = d.plc ∧
    (d.polderResult c x p).fcr = d.fcr ∧ (d.polderResult c x p).ended c x
      (okDone (pack [(0, 4, (d.polder p).st.code), (4, 4, x.dispMode / 16), (8, 4, d.bal.mode.code)]) ((d.polder p).since % 2 ^ 40)) := by
  unfold Dev.polderResult
  exact ⟨plc_ok .., by simp, ok_ended h⟩

theorem setPolderSt_parts (d : Dev) (p : Nat) (st : PolderSt) : ((d.setPolderSt p st).polder p).st = st ∧
    ((d.setPolderSt p st).polder p).since = d.bal.tick ∧ (d.setPolderSt p st).bal = d.bal ∧ (d.setPolderSt p st).hif = d.hif := by
  have hp (e : Dev) : e.portsFollow.plc = e.plc := by simp
  unfold Dev.setPolderSt
  rw [polder_of_plc (hp _), polder_modPolder]
  exact ⟨rfl, rfl, by simp, by simp⟩

/-- A polder that takes a state answers with it. -/
theorem setPolderSt_result {d : Dev} {c : CmdRef} {x : Cmd} (h : d.isRunning c x) (p : Nat) (st : PolderSt) :
    ∀ e : Dev, e.plc = (d.setPolderSt p st).plc → e.bal = d.bal → e.hif = d.hif →
    ((e.polderResult c x p).polder p).st = st ∧ ((e.polderResult c x p).polder p).since = d.bal.tick ∧
    (e.polderResult c x p).ended c x
      (okDone (pack [(0, 4, st.code), (4, 4, x.dispMode / 16), (8, 4, d.bal.mode.code)]) (d.bal.tick % 2 ^ 40)) := by
  intro e hp hb hh
  obtain ⟨hst, hsince, -, -⟩ := setPolderSt_parts d p st
  obtain ⟨hplc, -, hend⟩ := polderResult_ends (isRunning_hif hh h) p
  rw [polder_of_plc hp, hst, hsince, hb] at hend
  rw [polder_of_plc (hplc.trans hp)]
  exact ⟨hst, hsince, hend⟩

/-! ### Draining ends (18 R528) -/

theorem drained_reach (d : Dev) (n : Nat) : (d.reach n).drained = d.drained := rfl

theorem drainEnds_bal {d : Dev} (h : d.bal.mode = .draining) : d.drainEnds.bal =
    { d.bal with mode := .provisioning, prevMode := d.bal.mode, reason := Ev.modeDrained, since := d.bal.tick } :=
  (toMode_keeps (.inr (.inr (.inr ⟨rfl, by rw [h]; decide⟩))) ..).1

theorem mode_reach (d : Dev) (n : Nat) : (d.reach n).bal.mode = d.bal.mode := rfl

theorem doDrainLimitExpiry_frees {d : Dev} (hm : d.bal.mode = .draining) (hr : d.regRuns 0 = true) (hd : d.drained = false) :
    ∃ fs, doDrainLimitExpiry d =
      (((d.reach d.bal.drainEnd).freeAll .drDrainLimit true).toMode .provisioning Ev.modeDrainLimit (some 4) fs).liveMs 4 := by
  unfold doDrainLimitExpiry
  rw [if_neg (by rw [hm, hr]; decide)]
  dsimp only
  rw [drained_reach, hd, if_neg Bool.false_ne_true]
  exact ⟨_, rfl⟩

theorem doDrainLimitExpiry_drained {d : Dev} (hm : d.bal.mode = .draining) (hr : d.regRuns 0 = true) (hd : d.drained = true) :
    doDrainLimitExpiry d = (d.reach d.bal.drainEnd).drainEnds := by
  unfold doDrainLimitExpiry
  rw [if_neg (by rw [hm, hr]; decide)]
  dsimp only
  rw [drained_reach, if_pos hd]

/-- Settles O37: the answers of OP_MODE_SET by the mode and the polder's state, and the end of DRAINING. -/
theorem modesChangeAsCommanded : Obligations.ModesChangeAsCommanded := by
  unfold Obligations.ModesChangeAsCommanded
  intro s
  refine ⟨fun c io x tm h htm => ⟨fun hop => ?_, ?_⟩, fun hn => ?_, fun hm hr => ?_⟩
  · subst htm
    have hop5 : x.opcode = 5 := (of_decide_eq_true hop).1
    have hother := doOpModeSetDevice_other (io := io) h hop
    refine ⟨fun ht => ?_, fun ht hr => ?_, fun ht hr hd hg => ?_, fun hg => ⟨fun ht hm => ?_, ?_, fun ht hm => ?_, fun ht hm => ?_⟩⟩
    · refine ⟨{ s with dev := doOpModeSetDevice c io s.dev }, rfl, ?_⟩
      dsimp only
      rw [doOpModeSetDevice_same h hop ht]
      obtain ⟨hx, -, ho, hmk⟩ := h
      exact modeDone_ends hx ho hmk
    · exact ⟨{ s with dev := doOpModeSetDevice c io s.dev }, rfl, fail_bal h ((hother ht).1 hr)⟩
    · refine ⟨{ s with dev := doOpModeSetDevice c io s.dev }, rfl, ?_⟩
      dsimp only
      rw [((hother ht).2 hr hd).1 hg]
      exact ⟨bal_again .., again_scratch h _⟩
    · have hrow := ((hother (by rw [ht, hm]; decide)).2 (by rw [ht, hm]; rfl) (by rw [hm]; decide)).2 hg
      rw [ht, hm] at hrow
      obtain ⟨hb, he⟩ := byCommand_modeDone h hop5 (m := .forwarding) (.inl rfl)
      refine ⟨{ s with dev := doOpModeSetDevice c io s.dev }, rfl, ?_⟩
      dsimp only
      rw [show doOpModeSetDevice c io s.dev = (s.dev.byCommand .forwarding c.ep).modeDone c x from hrow, hb]
      exact ⟨rfl, hm, rfl, rfl, (congrArg Spw.map (spw_ok ..)).trans (map_toMode ..), he⟩
    · intro ms ht hm hms
      have hrow := ((hother (by rw [ht, hm]; decide)).2 (by rw [ht, hm]; rfl) (by rw [hm]; decide)).2 hg
      rw [ht, hm] at hrow
      refine ⟨{ s with dev := doOpModeSetDevice c io s.dev }, rfl, ?_⟩
      dsimp only
      rw [show doOpModeSetDevice c io s.dev = (s.dev.startDrain ms c.ep).modeDone c x from hms ▸ hrow]
      exact startDrain_modeDone h hop5 ms
    · have hrow := ((hother (by rw [ht]; rcases hm with hm | hm | hm <;> rw [hm] <;> decide)).2
        (by rw [ht]; rcases hm with hm | hm | hm <;> rw [hm] <;> rfl) (by rcases hm with hm | hm | hm <;> rw [hm] <;> decide)).2 hg
      obtain ⟨hb, he⟩ := byCommand_modeDone h hop5 (m := .safeHold) (.inr (.inr (.inl rfl)))
      have hrow' : doOpModeSetDevice c io s.dev = (s.dev.byCommand .safeHold c.ep).modeDone c x := by
        rw [hrow, ht]
        rcases hm with hm | hm | hm <;> rw [hm] <;> rfl
      refine ⟨{ s with dev := doOpModeSetDevice c io s.dev }, rfl, ?_⟩
      dsimp only
      rw [hrow', hb]
      exact ⟨rfl, rfl, he⟩
    · have hrow := ((hother (by rw [hm]; rcases ht with ht | ht <;> rw [ht] <;> decide)).2
        (by rw [hm]; rcases ht with ht | ht <;> rw [ht] <;> rfl) (by rw [hm]; decide)).2 hg
      rw [hm] at hrow
      refine ⟨{ s with dev := doOpModeSetDevice c io s.dev }, rfl, fun hb => ?_, fun hd hb he => ?_, fun hd hb he => ?_⟩
      · exact fail_bal h (hrow.trans (if_pos ⟨ht, hb⟩))
      all_goals have hno : ¬ ((x.fld 16 0 4 = 3 ∨ x.fld 16 0 4 = 4) ∧ (s.dev.boot.diagRom = true ∨ s.dev.boot.bistRun = true)) := by
                  rw [hd, hb]; simp
      · exact fail_bal h (hrow.trans ((if_neg hno).trans (if_pos ⟨ht, hm, he⟩)))
      · have hrow := hrow.trans ((if_neg hno).trans (if_neg (by rw [he]; simp)))
        dsimp only
        rw [hrow]
        have hk : keepsBalance (modeOfCode (x.fld 16 0 4)) s.dev.bal.mode := by
          rcases ht with ht | ht <;> rw [ht]
          · exact .inr (.inr (.inr ⟨rfl, by rw [hm]; decide⟩))
          · exact .inl rfl
        have hcode : (modeOfCode (x.fld 16 0 4)).code = x.fld 16 0 4 := by rcases ht with ht | ht <;> rw [ht] <;> rfl
        obtain ⟨hb, he⟩ := byCommand_modeDone h hop5 hk
        rw [hcode] at he
        rw [hb]
        exact ⟨hcode, he⟩
  · intro p m hop hp hm
    subst htm hp hm
    have hrow := doOpModeSetPolder_run (io := io) h hop
    refine ⟨{ s with dev := doOpModeSetPolder c io s.dev }, rfl, fun hm => ?_, fun hm => ?_⟩
    · rw [if_pos (by rcases hm with hm | hm | hm <;> rw [hm] <;> rfl)] at hrow
      exact (fail_plc h hrow).symm
    rw [if_neg (by rcases hm with hm | hm | hm | hm <;> rw [hm] <;> decide)] at hrow
    refine ⟨fun hst => ?_, fun hst ht => ?_, fun hst ht => ?_, fun hst ht => ?_, fun hst ht => ?_, fun hst ht hb => ?_, fun hst ht hb => ?_⟩
    all_goals rw [hst] at hrow
    · exact (fail_plc h hrow).symm
    all_goals rw [ht] at hrow
    · obtain ⟨hplc, -, hend⟩ := polderResult_ends h (x.fld 17 0 3)
      rw [hst] at hend
      dsimp only
      rw [show doOpModeSetPolder c io s.dev = s.dev.polderResult c x (x.fld 17 0 3) from hrow]
      exact ⟨hplc, hend⟩
    · obtain ⟨-, -, hb, hh⟩ := setPolderSt_parts s.dev (x.fld 17 0 3) .draining
      dsimp only
      rw [show doOpModeSetPolder c io s.dev = (s.dev.setPolderSt (x.fld 17 0 3) .draining).polderResult c x (x.fld 17 0 3) from hrow]
      exact setPolderSt_result h _ _ _ rfl hb hh
    · obtain ⟨-, -, hb, hh⟩ := setPolderSt_parts s.dev (x.fld 17 0 3) .forwarding
      dsimp only
      rw [show doOpModeSetPolder c io s.dev = (s.dev.setPolderSt (x.fld 17 0 3) .forwarding).polderResult c x (x.fld 17 0 3) from hrow]
      exact setPolderSt_result h _ _ _ rfl hb hh
    · exact (fail_plc h hrow).symm
    · exact (fail_plc h (hrow.trans (if_pos hb))).symm
    · have hrow := hrow.trans (if_neg (by rw [hb]; exact Bool.false_ne_true))
      obtain ⟨-, -, hb, hh⟩ := setPolderSt_parts s.dev (x.fld 17 0 3) .forwarding
      dsimp only
      rw [hrow]
      obtain ⟨hst, -, hend⟩ := setPolderSt_result h (x.fld 17 0 3) .forwarding
        ((s.dev.setPolderSt (x.fld 17 0 3) .forwarding).clearLive (0x83 + 8 * x.fld 17 0 3)) (by simp) ((bal_clearLive ..).trans hb)
        ((hif_clearLive ..).trans hh)
      refine ⟨hst, ?_, hend⟩
      rw [src_fcr (show Dev.fcr _ = ((s.dev.setPolderSt (x.fld 17 0 3) .forwarding).clearLive (0x83 + 8 * x.fld 17 0 3)).fcr by
        unfold Dev.polderResult; simp)]
      exact src_live_off ..
  · constructor
    · refine next_same (d := doDrainComplete s.dev) ?_
      refine if_neg ?_
      rintro ⟨hm, -, -, hr⟩
      rcases hn with h | h
      · exact h hm
      · rw [h] at hr
        cases hr
    · refine next_same (d := doDrainLimitExpiry s.dev) ?_
      refine if_pos ?_
      rcases hn with h | h
      · exact .inl h
      · exact .inr (by rw [h]; rfl)
  · refine ⟨fun hd ht => ?_, fun hd => ?_, ?_⟩
    · refine ⟨{ s with dev := doDrainComplete s.dev }, rfl, ?_⟩
      dsimp only
      rw [show doDrainComplete s.dev = s.dev.drainEnds from if_pos ⟨hm, hd, ht, hr⟩, drainEnds_bal hm]
      exact ⟨rfl, hm, rfl, rfl⟩
    · refine next_same (d := doDrainComplete s.dev) (if_neg ?_)
      rintro ⟨-, h, -⟩
      rw [hd] at h
      cases h
    · refine ⟨{ s with dev := doDrainLimitExpiry s.dev }, rfl, ?_⟩
      dsimp only
      have htick := tick_reach s.dev s.dev.bal.drainEnd
      cases hd : s.dev.drained with
      | true =>
        rw [doDrainLimitExpiry_drained hm hr hd, drainEnds_bal (d := s.dev.reach s.dev.bal.drainEnd) (by rw [mode_reach]; exact hm)]
        exact ⟨rfl, htick, fun _ => rfl, fun h => absurd h (by decide)⟩
      | false =>
        obtain ⟨fs, hrow⟩ := doDrainLimitExpiry_frees hm hr hd
        have hf : ((s.dev.reach s.dev.bal.drainEnd).freeAll .drDrainLimit true).bal = (s.dev.reach s.dev.bal.drainEnd).bal := by simp
        have hk := (toMode_keeps (d := (s.dev.reach s.dev.bal.drainEnd).freeAll .drDrainLimit true) (m := .provisioning)
          (.inr (.inr (.inr ⟨rfl, by rw [hf, mode_reach, hm]; decide⟩))) Ev.modeDrainLimit (some 4) fs).1
        rw [hrow, show ∀ e : Dev, (e.liveMs 4).bal = e.bal from fun e => by simp, hk, hf]
        exact ⟨rfl, htick, fun h => absurd h (by decide), fun _ => ⟨rfl, src_liveMs_self (by decide) ..⟩⟩

end Sys2Proof.Machine
end

section
/-! PROOFS. Power-on, resets and loads (17 R498-R500, R505; 18 R525; 19 R554). -/
namespace Sys2Proof.Machine

/-! ### The boot status through a mode change -/

/-- The boot registers but for the stores that a failed reload leaves unlocked. -/
def Boot.status (b : Boot) : Boot := { b with unlocked := [], locked := false, reloading := none }

theorem boot_storeLost (d : Dev) (kind i : Nat) : (d.storeLost kind i).boot.status = d.boot.status := by
  unfold Dev.storeLost
  dsimp only
  repeat' split
  all_goals rfl

theorem boot_reloadFails (d : Dev) (cause : Nat) : (d.reloadFails cause).boot.status = d.boot.status := by
  unfold Dev.reloadFails
  split
  · rfl
  next e n p kind i t _ =>
    dsimp only
    rw [show ∀ e : Dev, (e.setLive 0x015).boot = e.boot from fun e => by simp,
      show ∀ (e : Dev) data, (e.record Ev.storeReloadFailed .shared (some 0x015) data).boot = e.boot from fun e data => by simp,
      boot_storeLost]
    rfl

theorem boot_endedSweep (d : Dev) : d.endedSweep.boot.status = d.boot.status ∧ (d.boot.reloading = none → d.endedSweep.boot = d.boot) := by
  have h1 : d.readSweep.boot = d.boot := by simp
  unfold Dev.endedSweep
  dsimp only
  generalize d.readSweep = e at h1 ⊢
  have hfails (goes : Bool) : (if goes = true then e else (e.reloadFails 0xFF).refreshPauseAll).boot.status = d.boot.status := by
    split
    · exact congrArg Boot.status h1
    · rw [show ∀ e : Dev, e.refreshPauseAll.boot = e.boot from fun e => by simp, boot_reloadFails]
      exact congrArg Boot.status h1
  split
  · exact ⟨congrArg Boot.status h1, fun _ => h1⟩
  next hr =>
    refine ⟨hfails _, fun hn => ?_⟩
    rw [h1, hn] at hr
    cases hr

theorem boot_endCommands (d : Dev) : d.endCommands.boot.status = d.boot.status ∧ (d.boot.reloading = none → d.endCommands.boot = d.boot) := by
  unfold Dev.endCommands
  extract_lets d1 running
  have h1 : d1.boot = d.boot := by
    unfold d1
    exact foldl_keeps (fun d => d.boot) (fun d k => (rfl : (d.modEp k _).boot = d.boot)) _ d
  clear_value d1
  rw [← h1]
  exact boot_endedSweep _

/-- A mode change enters the mode with the balance set, and then ends commands. -/
theorem toMode_enters (d : Dev) (m : DevMode) (code : Nat) (source : Option Nat) (fs : List (Nat × Nat × Nat)) : ∃ e : Dev,
    d.toMode m code source fs = (e.entered d.bal.mode).endCommands ∧
    e.bal = { d.bal with mode := m, prevMode := d.bal.mode, reason := code, since := d.bal.tick } ∧ e.boot = d.boot ∧ e.otp = d.otp := by
  unfold Dev.toMode
  extract_lets old d1 s2 d2
  have h1 : d1.bal = d.bal ∧ d1.boot = d.boot ∧ d1.otp = d.otp := by
    unfold d1
    split
    · exact ⟨by simp, by simp, by simp⟩
    · exact ⟨rfl, rfl, rfl⟩
  obtain ⟨hb, hboot, hotp⟩ := h1
  have h2 : d2.bal = { d.bal with mode := m, prevMode := d.bal.mode, reason := code, since := d.bal.tick } := by
    show { d1.bal with mode := m, prevMode := d.bal.mode, reason := code, since := d1.bal.tick } = _
    rw [hb]
  have h2b : d2.boot = d.boot := hboot
  have h2o : d2.otp = d.otp := hotp
  clear_value d2
  exact ⟨_, rfl, Eq.trans (by simp) h2, Eq.trans (by simp) h2b, Eq.trans (by simp) h2o⟩

/-- LOADING is entered with nothing else. -/
theorem toMode_loading (d : Dev) (code : Nat) (source : Option Nat) (fs : List (Nat × Nat × Nat)) :
    (d.toMode .loading code source fs).bal = { d.bal with mode := .loading, prevMode := d.bal.mode, reason := code, since := d.bal.tick } ∧
    (d.toMode .loading code source fs).boot.status = d.boot.status := by
  obtain ⟨e, he, hb, hboot, -⟩ := toMode_enters d .loading code source fs
  have hent : e.entered d.bal.mode = e := by
    unfold Dev.entered
    rw [hb]
  rw [he, hent, show e.endCommands.bal = e.bal by simp, (boot_endCommands e).1, hb, hboot]
  exact ⟨rfl, rfl⟩

theorem toMode_diagnostic (d : Dev) (code : Nat) (source : Option Nat) (fs : List (Nat × Nat × Nat)) :
    (d.toMode .diagnostic code source fs).bal.mode = .diagnostic ∧
    (d.boot.reloading = none → (d.toMode .diagnostic code source fs).boot = d.boot) ∧
    (d.toMode .diagnostic code source fs).otp = d.otp := by
  obtain ⟨e, he, hb, hboot, hotp⟩ := toMode_enters d .diagnostic code source fs
  have hent : e.entered d.bal.mode = e.sweepStop.portsFollow := by
    unfold Dev.entered
    rw [hb]
  have hkeep : e.sweepStop.portsFollow.bal = e.bal ∧ e.sweepStop.portsFollow.boot = e.boot ∧ e.sweepStop.portsFollow.otp = e.otp :=
    ⟨by simp, by simp, by simp⟩
  obtain ⟨h1, h2, h3⟩ := hkeep
  rw [he, hent]
  generalize e.sweepStop.portsFollow = e' at h1 h2 h3 ⊢
  rw [show e'.endCommands.bal = e'.bal by simp, show e'.endCommands.otp = e'.otp by simp, h1, h3, hotp, hb]
  refine ⟨rfl, fun hr => ?_, rfl⟩
  rw [(boot_endCommands e').2 (by rw [h2, hboot]; exact hr), h2, hboot]

/-! ### DORMANT (18 R530) -/

theorem coreReset_parts (d : Dev) : d.coreReset.bal = { d.bal with corePll := false, loopback := [], prbs := [] } ∧
    d.coreReset.boot = { d.boot with unlocked := [], reloading := none } := by
  unfold Dev.coreReset
  extract_lets d1 d2 d3
  have h1 : d1.bal = d.bal ∧ d1.boot = d.boot :=
    ⟨foldl_keeps (fun d => d.bal) (fun d c => by simp) _ d, foldl_keeps (fun d => d.boot) (fun d c => by simp) _ d⟩
  have h2 : d2.bal = d1.bal ∧ d2.boot = d1.boot :=
    ⟨foldl_keeps (fun d => d.bal) (fun d c => by simp) _ d1, foldl_keeps (fun d => d.boot) (fun d c => by simp) _ d1⟩
  have h3 : d3.bal = d2.bal ∧ d3.boot = d2.boot :=
    ⟨foldl_keeps (fun d => d.bal) (fun d c => by split <;> simp) _ d2,
      foldl_keeps (fun d => d.boot) (fun d c => by split <;> simp) _ d2⟩
  have hb : d3.bal = d.bal := h3.1.trans (h2.1.trans h1.1)
  have hboot : d3.boot = d.boot := h3.2.trans (h2.2.trans h1.2)
  clear_value d3
  refine ⟨?_, ?_⟩
  · show ({ d3.bal with corePll := false, loopback := [], prbs := [] } : Bal) = _
    rw [hb]
  · show ({ d3.boot with unlocked := [], reloading := none } : Boot) = _
    rw [hboot]

theorem goDormant_parts (d : Dev) : d.goDormant.bal = { d.bal with corePll := false, loopback := [], prbs := [] } ∧
    d.goDormant.boot.reloading = none ∧
    (d.boot.st ≠ .loaded → d.boot.st ≠ .loading → d.goDormant.boot = { d.boot with unlocked := [], reloading := none, locked := false }) := by
  obtain ⟨hb, hboot⟩ := coreReset_parts d
  have h : (d.coreReset.clearLive 0x021).bal = d.coreReset.bal ∧ (d.coreReset.clearLive 0x021).boot = d.coreReset.boot := ⟨by simp, by simp⟩
  obtain ⟨h1, h2⟩ := h
  unfold Dev.goDormant
  dsimp only
  generalize d.coreReset.clearLive 0x021 = e at h1 h2 ⊢
  rw [hb] at h1
  rw [hboot] at h2
  split
  next hl =>
    refine ⟨h1, ?_, fun hn hn' => absurd (of_decide_eq_true hl) (not_or.2 ⟨hn, hn'⟩)⟩
    show e.boot.reloading = none
    rw [h2]
  next =>
    refine ⟨h1, ?_, fun _ _ => ?_⟩
    · show e.boot.reloading = none
      rw [h2]
    · show ({ e.boot with locked := false } : Boot) = _
      rw [h2]

theorem toMode_dormant (d : Dev) (code : Nat) (source : Option Nat) (fs : List (Nat × Nat × Nat)) :
    (d.toMode .dormant code source fs).bal = { d.bal with
      mode := .dormant, prevMode := d.bal.mode, reason := code, since := d.bal.tick, corePll := false, loopback := [], prbs := [] } ∧
    (d.boot.st ≠ .loaded → d.boot.st ≠ .loading →
      (d.toMode .dormant code source fs).boot = { d.boot with unlocked := [], reloading := none, locked := false }) := by
  obtain ⟨e, he, hb, hboot, -⟩ := toMode_enters d .dormant code source fs
  have hent : e.entered d.bal.mode = e.goDormant := by
    unfold Dev.entered
    rw [hb]
  obtain ⟨hgb, hgr, hgs⟩ := goDormant_parts e
  rw [he, hent, show e.goDormant.endCommands.bal = e.goDormant.bal by simp, (boot_endCommands e.goDormant).2 hgr, hgb, hb]
  refine ⟨rfl, fun h h' => ?_⟩
  rw [hgs (by rw [hboot]; exact h) (by rw [hboot]; exact h'), hboot]

/-! ### Loads (17 R498, R500, R505) -/

theorem bal_loadAnswer (d : Dev) (st detail r0 r1 : Nat) : (d.loadAnswer st detail r0 r1).bal = d.bal := by simp
theorem otp_loadAnswer (d : Dev) (st detail r0 r1 : Nat) : (d.loadAnswer st detail r0 r1).otp = d.otp := by simp

/-- The command that waits is no longer waiting. -/
theorem boot_loadAnswer (d : Dev) (st detail r0 r1 : Nat) : (d.loadAnswer st detail r0 r1).boot = { d.boot with waiter := none } := by
  unfold Dev.loadAnswer
  split
  next h =>
    rw [← h]
  next =>
    dsimp only
    rw [show ∀ (e : Dev) (c : CmdRef), (e.fail c st detail r0 r1).boot = e.boot from fun e c => by simp]

theorem startLoad_parts (d : Dev) (k : Nat) (rest : List Nat) (who : Option Nat) (w : Option (Nat × Nat × Nat)) (cert : Nat) :
    (d.startLoad (k :: rest) who w cert).bal.mode = .loading ∧ (d.startLoad (k :: rest) who w cert).boot.st = .loading ∧
    (d.startLoad (k :: rest) who w cert).boot.candidates = k :: rest := by
  unfold Dev.startLoad
  extract_lets s1 d1 d2 d3 d4
  have h1s : d1.boot.st = .loading ∧ d1.boot.candidates = k :: rest := ⟨rfl, rfl⟩
  have h2 : d2.boot = d1.boot := by
    unfold d2
    simp
  clear_value d1
  have h3 : d3.bal.mode = .loading ∧ d3.boot.status = d2.boot.status := by
    unfold d3
    cases who with
    | none =>
      obtain ⟨hb, hs⟩ := toMode_loading d2 Ev.modeReset none [(0, 1, 1)]
      exact ⟨by rw [hb], hs⟩
    | some e =>
      obtain ⟨hb, hs⟩ := toMode_loading d2 Ev.modeCommand none [(0, 1, DevMode.loading.code), (1, 1, d2.bal.mode.code), (2, 1, e)]
      exact ⟨congrArg Bal.mode hb, hs⟩
  obtain ⟨hm, hs⟩ := h3
  clear_value d2 d3
  rw [if_neg (show ¬ (k :: rest).isEmpty = true from Bool.false_ne_true)]
  refine ⟨hm, ?_, ?_⟩
  · exact (congrArg Boot.st hs).trans ((congrArg Boot.st h2).trans h1s.1)
  · exact (congrArg Boot.candidates hs).trans ((congrArg Boot.candidates h2).trans h1s.2)

theorem loadFails_parts (d : Dev) (wait : Bool) (cause : Nat) : (d.loadFails wait cause).bal.mode = .dormant ∧
    (d.loadFails wait cause).boot.cause = d.boot.cause ∧ (d.loadFails wait cause).boot.st = (if wait = true then .waitHost else .failed) := by
  unfold Dev.loadFails
  extract_lets s1 d1 d2
  have h1 : d1.boot.cause = d.boot.cause ∧ d1.boot.st = (if wait = true then .waitHost else .failed) := ⟨rfl, rfl⟩
  have h2 : d2.boot = d1.boot := by
    unfold d2
    simp
  clear_value d1 d2
  obtain ⟨hb, hs⟩ := toMode_dormant d2 Ev.modeFault (some 0x010) [(0, 1, 1), (1, 1, 2), (2, 2, 0x010)]
  have hst : d2.boot.st ≠ .loaded ∧ d2.boot.st ≠ .loading := by
    rw [h2, h1.2]
    split <;> decide
  rw [bal_loadAnswer, boot_loadAnswer, hb, hs hst.1 hst.2, h2]
  exact ⟨rfl, h1⟩

theorem doImageRejected_next {d : Dev} {src cause : Nat} {rest : List Nat} (version : Nat) (hm : d.bal.mode = .loading)
    (hc : d.boot.candidates = src :: rest) (hs : src ≠ 3) (hk : 1 ≤ cause ∧ cause ≤ 8 ∨ cause = 10) : ∃ e : Dev, e.bal = d.bal ∧
    e.boot = { d.boot with slot := src, cause := cause, rejected := true, candidates := rest } ∧ doImageRejected src cause version d =
      if rest.isEmpty = true then e.loadFails (decide (d.bal.bootEff = 2 ∧ src ≠ 2)) cause else e.attempt := by
  unfold doImageRejected
  rw [if_neg (by rw [hm, hc, List.head?_cons]; simp; omega)]
  have hr : ∀ data, (d.record Ev.imageRejected .shared none data).bal = d.bal ∧ (d.record Ev.imageRejected .shared none data).boot = d.boot :=
    fun data => ⟨by simp, by simp⟩
  obtain ⟨hb, hboot⟩ := hr (dat [(0, 1, src), (1, 1, cause), (2, 4, version)])
  generalize d.record Ev.imageRejected .shared none (dat [(0, 1, src), (1, 1, cause), (2, 4, version)]) = e at hb hboot ⊢
  dsimp only
  refine ⟨{ e with boot := { e.boot with slot := src, cause := cause, rejected := true, candidates := e.boot.candidates.tail } }, hb, ?_, ?_⟩
  · show ({ e.boot with slot := src, cause := cause, rejected := true, candidates := e.boot.candidates.tail } : Boot) = _
    rw [hboot, hc]
    rfl
  · rw [hboot, hc, List.tail_cons, hb]

/-! ### The diagnostic ROM (17 R499, R506) -/

/-- The stores and the ports as the boot ROM's diagnostic contents leave them. -/
def Dev.romFilled (d : Dev) : Dev :=
  layout115.foldl Dev.layPort
    (d.fillStores (romWords 512 1 4096) (romWords 512 2 2048) (fun r => romWords 128 (16 + r) 8192) (romWords 64 4 2048))

theorem romFilled_parts (d : Dev) : d.romFilled.bal = d.bal ∧ d.romFilled.boot = d.boot ∧ d.romFilled.otp = d.otp := by
  unfold Dev.romFilled
  generalize romWords 512 1 4096 = a
  generalize romWords 512 2 2048 = b
  generalize romWords 64 4 2048 = z
  generalize (fun r => romWords 128 (16 + r) 8192) = y
  have h : (d.fillStores a b y z).bal = d.bal ∧ (d.fillStores a b y z).boot = d.boot ∧ (d.fillStores a b y z).otp = d.otp :=
    ⟨by simp, by simp, by simp⟩
  obtain ⟨h1, h2, h3⟩ := h
  exact ⟨(foldl_keeps (fun d => d.bal) (fun d l => by simp) layout115 _).trans h1,
    (foldl_keeps (fun d => d.boot) (fun d l => by simp) layout115 _).trans h2,
    (foldl_keeps (fun d => d.otp) (fun d l => by simp) layout115 _).trans h3⟩

theorem loadEnds_rom {d : Dev} (hr : d.boot.reloading = none) : (d.loadEnds 3 0 0 .diagnostic).bal.mode = .diagnostic ∧
    (d.loadEnds 3 0 0 .diagnostic).boot.st = .loaded ∧ (d.loadEnds 3 0 0 .diagnostic).boot.locked = true ∧
    (d.loadEnds 3 0 0 .diagnostic).boot.diagRom = d.boot.diagRom ∧ (d.loadEnds 3 0 0 .diagnostic).boot.path = 3 ∧
    (d.loadEnds 3 0 0 .diagnostic).otp = d.otp := by
  unfold Dev.loadEnds
  extract_lets us s1 d1 d2 s2 d3 d4 r
  have h1 : d1.boot.reloading = none ∧ d1.boot.st = .loaded ∧ d1.boot.locked = true ∧ d1.boot.diagRom = d.boot.diagRom ∧ d1.boot.path = 3 ∧
      d1.otp = d.otp := ⟨hr, rfl, rfl, rfl, rfl, rfl⟩
  have h2 : d2.boot = d1.boot ∧ d2.otp = d1.otp := ⟨by unfold d2; simp, by unfold d2; simp⟩
  have h3 : d3 = d2 := if_neg (by simp)
  clear_value d1 d2
  obtain ⟨hm, hboot, hotp⟩ := toMode_diagnostic d3 Ev.modeLoaded none [(0, 1, DevMode.diagnostic.code), (1, 4, 0)]
  rw [if_neg (by decide), bal_loadAnswer, otp_loadAnswer, boot_loadAnswer]
  rw [h3] at hm hboot hotp
  have hb := hboot (by rw [h2.1]; exact h1.1)
  have hd4 : d4.boot = d1.boot := by
    unfold d4
    rw [h3]
    exact hb.trans h2.1
  have hd4o : d4.otp = d.otp := by
    unfold d4
    rw [h3]
    exact hotp.trans (h2.2.trans h1.2.2.2.2.2)
  have hd4m : d4.bal.mode = .diagnostic := by
    unfold d4
    rw [h3]
    exact hm
  clear_value d4
  obtain ⟨-, hst, hlock, hrom, hpath, -⟩ := h1
  rw [hd4]
  exact ⟨hd4m, hst, hlock, hrom, hpath, hd4o⟩

/-- The boot registers name the diagnostic ROM. -/
def Dev.romBooted (d : Dev) : Dev :=
  { d with boot := { d.boot with diagRom := true, sections := [], manifestHash := 0, persist := false } }

theorem romBooted_boot (d : Dev) : d.romBooted.boot = { d.boot with diagRom := true, sections := [], manifestHash := 0, persist := false } := rfl
theorem romBooted_otp (d : Dev) : d.romBooted.otp = d.otp := rfl

/-- The diagnostic ROM fills the stores, and the load ends. -/
theorem doImageLoadAccepted_rom {d : Dev} {rest : List Nat} (hm : d.bal.mode = .loading) (hc : d.boot.candidates = 3 :: rest)
    (img : List Byte) (tables : ImageTables) (bad : Bool) : ∃ e : Dev, e.boot = { d.boot with
      diagRom := true, sections := [], manifestHash := 0, persist := false } ∧ e.otp = d.otp ∧
    doImageLoadAccepted 3 img tables bad d = e.loadEnds 3 0 0 .diagnostic := by
  obtain ⟨-, hboot, hotp⟩ := romFilled_parts d
  unfold doImageLoadAccepted
  rw [if_neg (by rw [hm, hc, List.head?_cons]; simp), if_pos rfl]
  refine ⟨d.romFilled.romBooted, ?_, ?_, ?_⟩
  · rw [romBooted_boot, hboot]
  · rw [romBooted_otp, hotp]
  · unfold Dev.romBooted Dev.romFilled
    rfl

/-! ### Power-on (17 R498; 18 R525; 19 R554) -/

theorem bal_strapEvent (d : Dev) (strap a b : Nat) : ∃ bad, (d.strapEvent strap a b).bal = { d.bal with strapInvalid := bad } := by
  unfold Dev.strapEvent
  split
  · exact ⟨d.bal.strapInvalid, rfl⟩
  · exact ⟨true, Eq.trans (by simp) rfl⟩

theorem plc_strapEvent (d : Dev) (strap a b : Nat) : (d.strapEvent strap a b).plc = d.plc := by simp

/-- Only the record of invalid straps may have changed in the balance, and the polders stand. -/
def SameButStraps (d e : Dev) : Prop := (∃ bad, e.bal = { d.bal with strapInvalid := bad }) ∧ e.plc = d.plc

theorem SameButStraps.of_same {d e : Dev} (hb : e.bal = d.bal) (hp : e.plc = d.plc) : SameButStraps d e := ⟨⟨d.bal.strapInvalid, by rw [hb]⟩, hp⟩

theorem SameButStraps.trans {a b c : Dev} (h : SameButStraps a b) (h' : SameButStraps b c) : SameButStraps a c := by
  obtain ⟨⟨x, hx⟩, hp⟩ := h
  obtain ⟨⟨y, hy⟩, hp'⟩ := h'
  exact ⟨⟨y, by rw [hy, hx]⟩, hp'.trans hp⟩

theorem sameButStraps_strapEvent (d : Dev) (strap a b : Nat) : SameButStraps d (d.strapEvent strap a b) :=
  ⟨bal_strapEvent .., plc_strapEvent ..⟩
theorem sameButStraps_live (d : Dev) (k : Nat) (on : Bool) : SameButStraps d (d.live k on) := .of_same (by simp) (by simp)

theorem present_bal {d e : Dev} (h : e.bal = d.bal) (k : Nat) : e.present k = d.present k := by
  unfold Dev.present Dev.epCount
  rw [h]

/-- What POR_N released leaves of the balance and the polders. -/
theorem doPorNDeassert_parts {d : Dev} (straps broken : List Nat) (hp : d.bal.porN = false) (hm : d.bal.mode = .off) : ∃ e : Dev,
    SameButStraps e (doPorNDeassert straps broken d) ∧
    e.bal = { d.bal with
      porN := true, mode := .dormant, prevMode := .off, reason := Ev.powerOn, tick := 0, since := 0
      straps := { peBif := straps.getD 0 0 % 4, wardenSel := straps.getD 1 0 % 4, bootSrc := straps.getD 2 0 % 4, smbAddr := straps.getD 3 0 % 8 }
      bootEff := d.otp.bootEff (straps.getD 2 0 % 4) } ∧
    e.plc.warden = (if e.present (straps.getD 1 0 % 4) = true then straps.getD 1 0 % 4 else 0) ∧
    e.plc.polders = tset [] {} 0 (bootPolder e.plc.warden) ∧ e.plc.challenge ≠ 0 := by
  unfold doPorNDeassert
  rw [if_neg (by rw [hp, hm]; decide)]
  extract_lets s eff s1 d1 warden s2 s3 d2 s4 d3 d4 d5 d6 d7 d8 d9 d10 rules d11
  have h4 : SameButStraps d3.drawChallenge d4 := .of_same (by unfold d4; simp) (by unfold d4; simp)
  have h7 : SameButStraps d4 d7 := ((sameButStraps_strapEvent ..).trans (sameButStraps_strapEvent ..)).trans (sameButStraps_strapEvent ..)
  have h10 : SameButStraps d7 d10 := ((sameButStraps_live ..).trans (sameButStraps_live ..)).trans (sameButStraps_live ..)
  have h11 : SameButStraps d10 d11 := by
    unfold d11
    clear_value rules
    cases rules with
    | nil => exact .of_same rfl rfl
    | cons r more => exact .of_same (by simp) (by simp)
  have h3 : d3.bal = d1.bal ∧ d3.plc = d2.plc := by
    unfold d3
    split <;> exact ⟨rfl, rfl⟩
  have hb : d3.drawChallenge.bal = d3.bal := by simp
  have hw : d3.drawChallenge.plc.warden = d3.plc.warden := rfl
  have hpol : d3.drawChallenge.plc.polders = d3.plc.polders := rfl
  refine ⟨d3.drawChallenge, ?_, ?_, ?_, ?_, drawChallenge_ne_zero d3⟩
  · refine ((h4.trans h7).trans h10).trans (h11.trans (.of_same ?_ ?_))
    · exact Eq.trans (by simp) (foldl_keeps (fun d => d.bal) (f := Dev.epSources) (fun d e => by simp) (List.range 4) d11)
    · exact Eq.trans (by simp) (foldl_keeps (fun d => d.plc) (f := Dev.epSources) (fun d e => by simp) (List.range 4) d11)
  · rw [hb, h3.1]
  · rw [hw, present_bal (hb.trans h3.1), h3.2]
  · rw [hpol, hw, h3.2]

/-! ### SYS_RST_N (17 R500; 18 R525) -/

theorem doSysRstN_parts {d : Dev} (hm : d.bal.mode ≠ .off) : (doSysRstN d).bal.mode = .dormant ∧ (doSysRstN d).bal.reason = Ev.modeReset ∧
    (doSysRstN d).bal.straps = d.bal.straps ∧ (doSysRstN d).boot.auto = decide (d.bal.bootEff ≠ 1) ∧ (doSysRstN d).boot.candidates = [] := by
  unfold doSysRstN
  rw [if_neg hm]
  dsimp only
  rw [bal_loadAnswer, boot_loadAnswer]
  have hb := (toMode_dormant d Ev.modeReset none [(0, 1, d.bal.mode.code)]).1
  generalize d.toMode .dormant Ev.modeReset none [(0, 1, d.bal.mode.code)] = e at hb ⊢
  dsimp only
  rw [hb]
  exact ⟨rfl, rfl, rfl, rfl, rfl⟩

theorem doLoadStart_starts {d : Dev} (flash : List Byte) (hm : d.bal.mode = .dormant) (ha : d.boot.auto = true) (ht : d.tripped = false)
    (hb : d.bal.bootEff ≠ 1) : doLoadStart flash d =
      if d.bal.bootEff = 3 then d.startLoad [3] none none 0 else d.flashLoad flash none none := by
  unfold doLoadStart
  rw [if_neg (by rw [hm, ha, ht]; simpa using hb)]

/-- Settles O38: POR_N, loads and SYS_RST_N, by what a change of mode leaves of the boot registers. -/
theorem resetsAndLoadsFollowTheirSources : Obligations.ResetsAndLoadsFollowTheirSources := by
  unfold Obligations.ResetsAndLoadsFollowTheirSources
  intro s
  refine ⟨?_, fun hp => ?_, fun flash hm ha ht => ⟨?_, fun hb => ?_⟩, fun ep hans hw hm ht hb hst => ?_, ?_, ?_, fun hm => ?_⟩
  · intro straps broken sel hp hm hsel
    subst hsel
    obtain ⟨e, ⟨⟨bad, hb⟩, hplc⟩, hbal, hw, hpol, hch⟩ := doPorNDeassert_parts straps broken hp hm
    refine ⟨{ s with dev := doPorNDeassert straps broken s.dev }, rfl, ?_⟩
    dsimp only
    have hpres : (doPorNDeassert straps broken s.dev).present (straps.getD 1 0 % 4) = e.present (straps.getD 1 0 % 4) := by
      unfold Dev.present Dev.epCount
      rw [hb]
    rw [hpres, hplc, ← hw]
    have hp0 (p : Nat) : (doPorNDeassert straps broken s.dev).polder p = if 0 = p then bootPolder e.plc.warden else {} := by
      unfold Dev.polder
      rw [hplc, hpol, tget_tset]
      rfl
    rw [hb, hbal, hp0]
    exact ⟨rfl, rfl, rfl, rfl, rfl, rfl, hch, if_pos rfl, fun p hp => (hp0 p).trans (if_neg (fun h => hp h.symm))⟩
  · refine ⟨{ s with dev := doPorNAssert s.dev }, rfl, ?_⟩
    dsimp only
    unfold doPorNAssert
    rw [if_neg (by rw [hp]; decide)]
    exact ⟨rfl, rfl, rfl, rfl, rfl, rfl, rfl, rfl⟩
  · intro k rest hb ho
    refine ⟨{ s with dev := doLoadStart flash s.dev }, rfl, ?_⟩
    dsimp only
    rw [doLoadStart_starts flash hm ha ht (by rw [hb]; decide), if_neg (by rw [hb]; decide)]
    unfold Dev.flashLoad
    rw [ho]
    exact startLoad_parts ..
  · refine ⟨{ s with dev := doLoadStart flash s.dev }, rfl, ?_⟩
    dsimp only
    rw [doLoadStart_starts flash hm ha ht (by rw [hb]; decide), if_pos hb]
    exact startLoad_parts ..
  · refine ⟨{ s with dev := doGlBootCtrlGo ep s.dev }, rfl, ?_⟩
    dsimp only
    unfold doGlBootCtrlGo
    rw [glWrite_warden hans hw, if_pos ⟨hm, hb, hst, by rw [ht]; rfl⟩]
    exact startLoad_parts ..
  · intro src rest cause version hm hc hs hk
    obtain ⟨e, hb, hboot, hrow⟩ := doImageRejected_next version hm hc hs hk
    refine ⟨fun hr => ?_, fun hr => ?_⟩
    · refine ⟨{ s with dev := doImageRejected src cause version s.dev }, rfl, ?_⟩
      dsimp only
      rw [hrow, if_neg (by rw [List.isEmpty_iff]; exact hr)]
      unfold Dev.attempt
      dsimp only
      rw [hb, hboot]
      exact ⟨hm, rfl, rfl, rfl⟩
    · refine ⟨{ s with dev := doImageRejected src cause version s.dev }, rfl, ?_⟩
      dsimp only
      rw [hrow, if_pos (by rw [List.isEmpty_iff]; exact hr)]
      obtain ⟨hmode, hcause, hstat⟩ := loadFails_parts e (decide (s.dev.bal.bootEff = 2 ∧ src ≠ 2)) cause
      rw [hmode, hcause, hstat, hboot]
      exact ⟨rfl, rfl, by simp only [decide_eq_true_eq]⟩
  · intro rest img tables bad hm hc hr
    obtain ⟨e, hboot, hotp, hrow⟩ := doImageLoadAccepted_rom hm hc img tables bad
    refine ⟨{ s with dev := doImageLoadAccepted 3 img tables bad s.dev }, rfl, ?_⟩
    dsimp only
    obtain ⟨hmode, hst, hlock, hrom, hpath, ho⟩ := loadEnds_rom (d := e) (by rw [hboot]; exact hr)
    rw [hrow, hmode, hst, hlock, hrom, hpath, ho, hotp, hboot]
    exact ⟨rfl, rfl, rfl, rfl, rfl, rfl⟩
  · exact ⟨{ s with dev := doSysRstN s.dev }, rfl, doSysRstN_parts hm⟩

end Sys2Proof.Machine
end

section
/-! PROOFS. Clocks, temperature and supplies (18 R523, R524, R540; 19 R550, R551, R563, R568). -/
namespace Sys2Proof.Machine

/-! ### Sources that are seen and gone -/

theorem bal_setLive (d : Dev) (k attr : Nat) : (d.setLive k attr).bal = d.bal := by simp
theorem bal_liveFor (d : Dev) (k n attr : Nat) : (d.liveFor k n attr).bal = d.bal := by simp
theorem boot_liveFor (d : Dev) (k n attr : Nat) : (d.liveFor k n attr).boot = d.boot := by simp
theorem bal_live (d : Dev) (k : Nat) (on : Bool) : (d.live k on).bal = d.bal := by simp
theorem bal_serdesRefresh (d : Dev) : d.serdesRefresh.bal = d.bal := bal_live ..

theorem src_clearLive_self (d : Dev) (k : Nat) : ((d.clearLive k).src k).live = false := src_live_off d k

theorem bal_balanceRefresh (d : Dev) : d.balanceRefresh.bal = d.bal := by
  unfold Dev.balanceRefresh
  extract_lets d1 d2 d3 d4 d5 d6 d7
  have h3 : d3.bal = d.bal :=
    (foldl_keeps (fun d => d.bal) (f := fun d n => d.live (0x023 + n) (d.bal.railsBad.testBit n)) (fun d n => bal_live ..) _ d2).trans
      ((bal_live ..).trans (bal_live ..))
  have h6 : d6.bal = d3.bal := (bal_live ..).trans ((bal_live ..).trans (bal_live ..))
  have h7 : d7.bal = d6.bal := by
    unfold d7
    split
    · exact bal_clearLive ..
    · rfl
  exact (bal_serdesRefresh d7).trans (h7.trans (h6.trans h3))

/-! ### Clocks (18 R523, R524, R540) -/

theorem doCorePllLockTimeout_waits {d : Dev} (hm : d.bal.mode = .loading) (ht : d.bal.tick ≤ d.bal.since + 2500) :
    ¬(d.bal.mode ≠ .loading ∨ d.bal.tick > d.bal.since + usTicks 100) := by
  unfold usTicks
  rw [hm]
  simpa using ht

theorem doCorePllLockTimeout_first {d : Dev} (hm : d.bal.mode = .loading) (ht : d.bal.tick ≤ d.bal.since + 2500)
    (hr : d.bal.corePllRetried = false) : (doCorePllLockTimeout d).bal.corePllRetried = true ∧
    (doCorePllLockTimeout d).bal.mode = .loading ∧ d.bal.since + 1250 ≤ (doCorePllLockTimeout d).bal.tick := by
  have hreach := tick_reach d (d.bal.since + 1250)
  have hmode := mode_reach d (d.bal.since + 1250)
  have hret : (d.reach (d.bal.since + 1250)).bal.corePllRetried = d.bal.corePllRetried := rfl
  unfold doCorePllLockTimeout
  rw [if_neg (doCorePllLockTimeout_waits hm ht), if_neg (show ¬ d.bal.corePllRetried = true by rw [hr]; decide),
    show usTicks 50 = 1250 from rfl]
  dsimp only
  generalize d.reach (d.bal.since + 1250) = e at hreach hmode hret ⊢
  rw [if_pos (by rw [hret, hr]; rfl)]
  exact ⟨rfl, hmode.trans hm, hreach⟩

theorem doCorePllLockTimeout_second {d : Dev} (hm : d.bal.mode = .loading) (ht : d.bal.tick ≤ d.bal.since + 2500)
    (hr : d.bal.corePllRetried = true) : (doCorePllLockTimeout d).bal.mode = .dormant ∧
    d.bal.since + 2500 ≤ (doCorePllLockTimeout d).bal.tick ∧ (doCorePllLockTimeout d).boot.candidates = [] := by
  have hreach := tick_reach d (d.bal.since + 2500)
  have hret : (d.reach (d.bal.since + 2500)).bal.corePllRetried = d.bal.corePllRetried := rfl
  unfold doCorePllLockTimeout
  rw [if_neg (doCorePllLockTimeout_waits hm ht), if_pos hr, show usTicks 100 = 2500 from rfl]
  generalize d.reach (d.bal.since + 2500) = e at hreach hret ⊢
  extract_lets d0 b1 d1 d2 d3 b2 d4
  rw [if_neg (by rw [hret, hr]; decide), bal_loadAnswer, boot_loadAnswer, bal_liveFor, boot_liveFor]
  have htick : d2.bal.tick = e.bal.tick :=
    (congrArg Bal.tick (show d2.bal = d1.bal from bal_record ..)).trans (show d1.bal.tick = e.bal.tick from rfl)
  clear_value d2
  obtain ⟨hb, -⟩ := toMode_dormant d2 Ev.modeFault (some 0x002) [(0, 1, 1), (1, 1, 2), (2, 2, 0x002)]
  have hd3 : d4.bal = d3.bal := rfl
  rw [hd3]
  refine ⟨congrArg Bal.mode hb, ?_, rfl⟩
  rw [congrArg Bal.tick (show d3.bal = _ from hb)]
  exact hreach.trans_eq htick.symm

theorem src_serdesRefresh {d : Dev} {m : Nat} (hr : d.bal.serdesRef = false) (hm : m < 64) (hst : (d.octal m).st ≠ .off) :
    (d.serdesRefresh.src 0x003).live = true := by
  unfold Dev.serdesRefresh
  rw [hr, List.any_eq_true.2 ⟨m, List.mem_range.2 hm, decide_eq_true hst⟩]
  exact setLive_src_self (k := 0x003) rfl d 0

theorem doSerdesRefLoss_parts (d : Dev) : (doSerdesRefLoss d).bal = { d.bal with serdesRef := false } ∧
    ∀ m, m < 64 → (d.octal m).st ≠ .off → ((doSerdesRefLoss d).src 0x003).live = true :=
  ⟨bal_serdesRefresh _, fun _ hm hst => src_serdesRefresh rfl hm hst⟩

theorem doSerdesRefReturn_parts (d : Dev) : (doSerdesRefReturn d).bal = { d.bal with serdesRef := true } ∧
    ((doSerdesRefReturn d).src 0x003).live = false := by
  refine ⟨bal_serdesRefresh _, ?_⟩
  exact src_live_off ..

/-! ### Temperature (19 R563, R568) -/

theorem tget_foldl_tset {α : Type} [DecidableEq α] (z : α) (f : Nat → α) (k : Nat) : ∀ (l : List Nat) (t : Tab α),
    tget (l.foldl (fun t i => tset t z i (f i)) t) z k = if k ∈ l then f k else tget t z k
  | [], t => by simp
  | i :: l, t => by
    rw [List.foldl_cons, tget_foldl_tset z f k l, tget_tset]
    by_cases hk : k = i
    · simp [hk]
    · simp [hk, Ne.symm hk]

theorem sensors_readSensors (temps : List Nat) (d : Dev) {i : Nat} (hi : i < 16) :
    tget (d.readSensors temps).bal.sensors 0 i = temps.getD i 0 % 65536 := by
  unfold Dev.readSensors
  dsimp only
  rw [tget_foldl_tset 0 (fun i => temps.getD i 0 % 65536), if_pos (List.mem_range.2 hi)]

theorem doCalibrationPass_sensors {temps : List Nat} {d : Dev} (ht : temps.length = 16) (hp : d.bal.porN = true) {i : Nat} (hi : i < 16) :
    tget (doCalibrationPass temps d).bal.sensors 0 i = temps.getD i 0 % 65536 := by
  unfold doCalibrationPass
  rw [if_neg (by rw [hp, ht]; decide), bal_balanceRefresh]
  exact sensors_readSensors temps d hi

/-- THERM_N as the hottest sensor and its former level give it. -/
def Dev.thermSet (d : Dev) (t : Int) : Dev :=
  { d with bal := { d.bal with thermN := if 460 ≤ t then true else if t < 440 then false else d.bal.thermN } }

theorem doThermNCrossing_thermN {temps : List Nat} (ht : temps.length = 16) (d : Dev) :
    (doThermNCrossing temps d).bal.thermN =
      if 460 ≤ (hottest temps).2 then true else if (hottest temps).2 < 440 then false else d.bal.thermN := by
  have hrow : doThermNCrossing temps d = if ((d.readSensors temps).thermSet (hottest temps).2).bal.porN = true then
      ((d.readSensors temps).thermSet (hottest temps).2).balanceRefresh else (d.readSensors temps).thermSet (hottest temps).2 := by
    unfold doThermNCrossing
    rw [if_neg (not_not.2 ht)]
    rfl
  have hkeep : (doThermNCrossing temps d).bal = ((d.readSensors temps).thermSet (hottest temps).2).bal := by
    rw [hrow]
    split
    · exact bal_balanceRefresh _
    · rfl
  rw [hkeep]
  rfl

theorem doThermalTrip_trips {temps : List Nat} {d : Dev} (ht : temps.length = 16) (hp : d.bal.porN = true) (hh : 500 ≤ (hottest temps).2)
    (hn : d.tripped = false) : (doThermalTrip temps d).bal.mode = .dormant ∧ (doThermalTrip temps d).tripped = true := by
  unfold doThermalTrip
  rw [if_neg (by rw [hp, ht, hn]; simpa using hh)]
  extract_lets h fs d1 d2 b2 d3
  refine ⟨?_, setLive_src_self rfl ..⟩
  rw [bal_setLive]
  unfold d3
  split
  next hm => rw [bal_record, hm]
  next =>
    rw [bal_loadAnswer]
    exact congrArg Bal.mode (toMode_dormant d1 Ev.modeThermalTrip (some 0x032) fs).1

/-! ### Supplies (19 R551, R568) -/

theorem doAvsWrite_writes {mv : Nat} {confirm : Bool} {d : Dev} (hp : d.bal.porN = true) (hlo : 680 ≤ mv) (hhi : mv ≤ 820)
    (hup : mv ≤ d.bal.vddCore + 5) (hdn : d.bal.vddCore ≤ mv + 5) (hpend : d.bal.avsPending = none) (hsrc : (d.src 0x022).live = false)
    (htick : d.bal.avsTick = 0 ∨ d.bal.avsTick + 250 ≤ d.bal.tick) (hw : ∀ p ∈ d.pipes, p.2.waking = false) :
    (doAvsWrite mv confirm d).out = .avs mv :: d.out ∧ (doAvsWrite mv confirm d).bal = { d.bal with
      avsTick := d.bal.tick, vddCore := if confirm = true then mv else d.bal.vddCore, avsPending := if confirm = true then none else some mv } := by
  have hany : d.pipes.any (fun p => p.2.waking) = false := by
    rw [List.any_eq_false]
    exact fun p h => by rw [hw p h]; decide
  unfold doAvsWrite
  dsimp only
  rw [if_neg (by rw [hp, hpend, hsrc, hany]; simp [usTicks]; omega)]
  exact ⟨rfl, rfl⟩

theorem doAvsConfirmTimeout_ends {mv : Nat} {d : Dev} (h : d.bal.avsPending = some mv) : (doAvsConfirmTimeout d).bal.avsPending = none ∧
    d.bal.avsTick + 25000 ≤ (doAvsConfirmTimeout d).bal.tick ∧ (doAvsConfirmTimeout d).bal.vddCore = d.bal.vddCore ∧
    ((doAvsConfirmTimeout d).src 0x022).live = true := by
  have hreach := tick_reach d (d.bal.avsTick + msTicks 1)
  have hv : (d.reach (d.bal.avsTick + msTicks 1)).bal.vddCore = d.bal.vddCore := rfl
  unfold doAvsConfirmTimeout
  rw [if_neg (show ¬ d.bal.avsPending.isNone = true by rw [h]; exact Bool.false_ne_true)]
  rw [show d.bal.avsTick + 25000 = d.bal.avsTick + msTicks 1 from rfl]
  generalize d.reach (d.bal.avsTick + msTicks 1) = e at hreach hv ⊢
  dsimp only
  rw [bal_setLive]
  exact ⟨rfl, hreach, hv, setLive_src_self rfl ..⟩

theorem bal_marginEnds (d : Dev) : d.marginEnds.bal = d.bal := by
  unfold Dev.marginEnds
  split
  · rfl
  · exact bal_clearLive ..

/-- The rail's voltage stands in its register. -/
theorem railOut_measured (d : Dev) (rail mv : Nat) : (d.setRail (rail + 2) mv).marginEnds.railOut rail mv = d.railOut rail mv ∧
    (d.setRail (rail + 2) mv).marginEnds.bal.railsBad = d.bal.railsBad := by
  unfold Dev.railOut
  rw [bal_marginEnds]
  exact ⟨rfl, rfl⟩

theorem doRailOutOfTolerance_leaves {rail mv : Nat} {d : Dev} {above : Bool} (hp : d.bal.porN = true) (hr : rail < 10)
    (ho : d.railOut rail mv = some above) (hb : d.bal.railsBad.testBit rail = false) : ∃ e : Dev,
    e.bal.railsBad = d.bal.railsBad + 2 ^ rail ∧ doRailOutOfTolerance rail mv d = e.setLive (0x023 + rail) := by
  obtain ⟨hout, hbad⟩ := railOut_measured d rail mv
  unfold doRailOutOfTolerance
  rw [if_neg (by rw [hp]; simpa using hr)]
  generalize (d.setRail (rail + 2) mv).marginEnds = e at hout hbad ⊢
  rw [ho] at hout
  dsimp only
  rw [hout, hbad, hb]
  exact ⟨_, congrArg Bal.railsBad (bal_record ..), rfl⟩

theorem doRailOutOfTolerance_enters {rail mv : Nat} {d : Dev} (hp : d.bal.porN = true) (hr : rail < 10)
    (ho : d.railOut rail mv = none) (hb : d.bal.railsBad.testBit rail = true) : ∃ e : Dev,
    e.bal.railsBad = d.bal.railsBad - 2 ^ rail ∧ doRailOutOfTolerance rail mv d = e.clearLive (0x023 + rail) := by
  obtain ⟨hout, hbad⟩ := railOut_measured d rail mv
  unfold doRailOutOfTolerance
  rw [if_neg (by rw [hp]; simpa using hr)]
  generalize (d.setRail (rail + 2) mv).marginEnds = e at hout hbad ⊢
  rw [ho] at hout
  dsimp only
  rw [hout, hbad, hb]
  exact ⟨_, rfl, rfl⟩

theorem defaultSeverity_rail : ∀ {rail : Nat}, rail < 10 → (defaultSeverity (0x023 + rail)).isSome = true := by decide

/-- Settles O39: each row's own parts, and the balance that the sources' updates keep. -/
theorem clocksSuppliesAndTemperatureAreFollowed : Obligations.ClocksSuppliesAndTemperatureAreFollowed := by
  unfold Obligations.ClocksSuppliesAndTemperatureAreFollowed
  intro s
  refine ⟨fun hm ht => ⟨fun hr => ?_, fun hr => ?_⟩, fun hc => ?_, ?_, ?_, ?_, ?_, fun hp => ?_, fun temps ht => ⟨fun hp => ?_, ?_, fun hp hh hn => ?_⟩,
    ?_, ?_, fun rail mv hp hr => ?_, fun mem core hc hlt => ?_⟩
  · exact ⟨_, rfl, doCorePllLockTimeout_first hm ht hr⟩
  · exact ⟨_, rfl, doCorePllLockTimeout_second hm ht hr⟩
  · refine ⟨{ s with dev := doCorePllLockLoss s.dev }, rfl, ?_⟩
    dsimp only
    unfold doCorePllLockLoss
    rw [if_pos hc, bal_setLive]
    exact ⟨rfl, setLive_src_self rfl ..⟩
  · refine ⟨{ s with dev := doRef100Loss s.dev }, rfl, ?_⟩
    dsimp only
    unfold doRef100Loss
    dsimp only
    split
    · rw [bal_setLive]
      exact ⟨rfl, fun _ => setLive_src_self rfl ..⟩
    next hp => exact ⟨rfl, fun h => absurd h hp⟩
  · refine ⟨{ s with dev := doRef100Return s.dev }, rfl, ?_⟩
    dsimp only
    unfold doRef100Return
    rw [bal_clearLive]
    exact ⟨rfl, src_clearLive_self ..⟩
  · exact ⟨_, rfl, doSerdesRefLoss_parts s.dev⟩
  · exact ⟨_, rfl, doSerdesRefReturn_parts s.dev⟩
  · refine ⟨{ s with dev := doMgmtPllLockLoss s.dev }, rfl, ?_⟩
    dsimp only
    unfold doMgmtPllLockLoss
    rw [if_pos hp, bal_setLive]
    exact ⟨rfl, setLive_src_self rfl ..⟩
  · exact ⟨_, rfl, fun i hi => doCalibrationPass_sensors ht hp hi⟩
  · refine ⟨{ s with dev := doThermNCrossing temps s.dev }, rfl, fun h => ?_, fun h => ?_⟩
    · dsimp only
      rw [doThermNCrossing_thermN ht, if_pos h]
    · dsimp only
      rw [doThermNCrossing_thermN ht, if_neg (by omega), if_pos h]
  · exact ⟨_, rfl, doThermalTrip_trips ht hp hh hn⟩
  · intro mv confirm hp hlo hhi hup hdn hpend hsrc htick hw
    obtain ⟨ho, hb⟩ := doAvsWrite_writes (confirm := confirm) hp hlo hhi hup hdn hpend hsrc htick hw
    refine ⟨{ s with dev := doAvsWrite mv confirm s.dev }, rfl, ho, ?_⟩
    dsimp only
    rw [hb]
    exact ⟨rfl, rfl⟩
  · exact fun mv h => ⟨_, rfl, doAvsConfirmTimeout_ends h⟩
  · refine ⟨fun above ho hb => ?_, fun ho hb => ?_⟩
    · obtain ⟨e, hbad, hrow⟩ := doRailOutOfTolerance_leaves hp hr ho hb
      refine ⟨{ s with dev := doRailOutOfTolerance rail mv s.dev }, rfl, ?_⟩
      dsimp only
      rw [hrow, bal_setLive]
      exact ⟨hbad, setLive_src_self (defaultSeverity_rail hr) ..⟩
    · obtain ⟨e, hbad, hrow⟩ := doRailOutOfTolerance_enters hp hr ho hb
      refine ⟨{ s with dev := doRailOutOfTolerance rail mv s.dev }, rfl, ?_⟩
      dsimp only
      rw [hrow, bal_clearLive]
      exact ⟨hbad, src_clearLive_self ..⟩
  · refine ⟨{ s with dev := doMemMarginBroken mem core s.dev }, rfl, ?_⟩
    dsimp only
    unfold doMemMarginBroken
    rw [if_pos ⟨hc, hlt⟩]
    exact setLive_src_self rfl ..

end Sys2Proof.Machine
end

section
/-! PROOFS. Regulators, stores and attestation (15 R463; 17 R513-R519). -/
namespace Sys2Proof.Machine

/-! ### Regulators and adaptation engines (15 R463; 17 R513) -/

theorem reg_clearLive (d : Dev) (k : Nat) : (d.clearLive k).reg = d.reg := by simp
theorem reg_setLive (d : Dev) (k attr : Nat) : (d.setLive k attr).reg = d.reg := by simp
theorem reg_record (d : Dev) (code : Nat) (who : Who) (source : Option Nat) (data : BitVec 160) :
    (d.record code who source data).reg = d.reg := by simp
theorem boot_record (d : Dev) (code : Nat) (who : Who) (source : Option Nat) (data : BitVec 160) :
    (d.record code who source data).boot = d.boot := by simp

theorem testBit_set {n i : Nat} (h : n.testBit i = false) : (n + 2 ^ i).testBit i = true :=
  (testBit_add_pow_of_clear h i).trans (if_pos rfl)

theorem testBit_cleared (n i : Nat) : (if n.testBit i = true then n - 2 ^ i else n).testBit i = false := by
  split
  next h => exact (testBit_sub_pow_of_set h i).trans (if_pos rfl)
  next h => simpa using h

theorem defaultSeverity_trap : ∀ {r : Nat}, r < 4 → (defaultSeverity (0x0D0 + r)).isSome = true := by decide
theorem defaultSeverity_regStore : ∀ {r : Nat}, r < 4 → (defaultSeverity (0xF10 + r)).isSome = true := by decide
theorem defaultSeverity_adpStore : ∀ {i : Nat}, i < 8 → (defaultSeverity (0xF18 + i)).isSome = true := by decide

theorem regRuns_iff (d : Dev) (r : Nat) : d.regRuns r = true ↔ d.reg.regStopped.testBit r = false ∧ d.reg.regTrapped.testBit r = false := by
  simp [Dev.regRuns]

theorem doRegulatorTrap_stops {r word kind : Nat} {d : Dev} (hm : d.bal.mode ≠ .off) (hr : r < 4) (hw : word < 8192) (hk : kind < 2)
    (hruns : d.regRuns r = true) : (doRegulatorTrap r word kind d).regRuns r = false ∧
    ((doRegulatorTrap r word kind d).src (0x0D0 + r)).live = true := by
  unfold doRegulatorTrap
  rw [if_neg (by rw [hruns]; simp [hm]; omega)]
  refine ⟨?_, setLive_src_self (defaultSeverity_trap hr) ..⟩
  unfold Dev.regRuns
  rw [reg_setLive, reg_record]
  dsimp only
  rw [testBit_set ((regRuns_iff d r).1 hruns).2]
  exact Bool.and_false _

theorem doRegulatorStoreUe_stops {r word : Nat} (lasting : Bool) {d : Dev} (hm : d.bal.mode ≠ .off) (hr : r < 4) (hw : word < 8192)
    (hruns : d.regRuns r = true) : (doRegulatorStoreUe false r word lasting d).regRuns r = false ∧
    ((doRegulatorStoreUe false r word lasting d).src (0xF10 + r)).live = true := by
  unfold doRegulatorStoreUe
  dsimp only
  rw [if_neg Bool.false_ne_true, if_neg (by rw [hruns]; simp [hm]; omega)]
  refine ⟨?_, setLive_src_self (defaultSeverity_regStore hr) ..⟩
  unfold Dev.regRuns
  rw [reg_setLive, reg_record]
  dsimp only
  rw [testBit_set ((regRuns_iff d r).1 hruns).1]
  rfl

theorem doRegulatorStoreUe_adaptation {i word : Nat} (lasting : Bool) {d : Dev} (hc : d.corePowered = true) (hi : i < 8) (hw : word < 2048)
    (hruns : d.reg.adpStopped.testBit i = false) : (doRegulatorStoreUe true i word lasting d).reg.adpStopped.testBit i = true ∧
    ((doRegulatorStoreUe true i word lasting d).src (0xF18 + i)).live = true := by
  unfold doRegulatorStoreUe
  dsimp only
  rw [if_pos rfl, if_neg (by rw [hc, hruns]; simp; omega)]
  refine ⟨?_, setLive_src_self (defaultSeverity_adpStore hi) ..⟩
  rw [reg_setLive, reg_record]
  exact testBit_set hruns

/-! ### OP_STORE_RELOAD (17 R514, R515) -/

/-- The endpoints, the time, the boot registers, the pipelines and the regulators, which the end of a reload's command leaves as its
store's filling set them. -/
structure SameStores (d e : Dev) : Prop where
  hif : e.hif = d.hif
  bal : e.bal = d.bal
  boot : e.boot = d.boot
  reg : e.reg = d.reg
  pipes : e.pipes = d.pipes

theorem SameStores.trans {a b c : Dev} (h : SameStores a b) (h' : SameStores b c) : SameStores a c :=
  ⟨h'.hif.trans h.hif, h'.bal.trans h.bal, h'.boot.trans h.boot, h'.reg.trans h.reg, h'.pipes.trans h.pipes⟩

theorem sameStores_record (d : Dev) (code : Nat) (who : Who) (source : Option Nat) (data : BitVec 160) :
    SameStores d (d.record code who source data) := ⟨by simp, by simp, by simp, by simp, by simp⟩
theorem sameStores_refreshPauseAll (d : Dev) : SameStores d d.refreshPauseAll := ⟨by simp, by simp, by simp, by simp, by simp⟩
theorem sameStores_readSweep (d : Dev) : SameStores d d.readSweep := ⟨by simp, by simp, by simp, by simp, by simp⟩
theorem sameStores_clearLive (d : Dev) (k : Nat) : SameStores d (d.clearLive k) := ⟨by simp, by simp, by simp, by simp, by simp⟩
theorem sameStores_setLive (d : Dev) (k attr : Nat) : SameStores d (d.setLive k attr) := ⟨by simp, by simp, by simp, by simp, by simp⟩

/-- While no reload runs, the sweep after a command leaves the stores. -/
theorem sameStores_endedSweep {d : Dev} (h : d.boot.reloading = none) : SameStores d d.endedSweep := by
  have hs := sameStores_readSweep d
  unfold Dev.endedSweep
  dsimp only
  generalize d.readSweep = e at hs ⊢
  rw [hs.boot, h]
  exact hs

theorem parts_finish (d : Dev) (c : CmdRef) (o : Done) : (d.finish c o).boot = d.boot ∧ (d.finish c o).reg = d.reg ∧
    (d.finish c o).pipes = d.pipes := ⟨by simp, by simp, by simp⟩

/-- A command that ends while no reload runs ends with the outcome given, and leaves the boot registers, the pipelines and the
regulators. -/
theorem reloadAnswers {d : Dev} {c : CmdRef} {x : Cmd} (h : d.isRunning c x) (hr : d.boot.reloading = none) (o : Done) :
    (d.finish c o).endedSweep.ended c x o ∧ (d.finish c o).endedSweep.boot = d.boot ∧ (d.finish c o).endedSweep.reg = d.reg ∧
    (d.finish c o).endedSweep.pipes = d.pipes := by
  obtain ⟨hb, hg, hp⟩ := parts_finish d c o
  have hs := sameStores_endedSweep (d := d.finish c o) (by rw [hb]; exact hr)
  exact ⟨(cmd?_endedSweep ..).trans (finish_ended h), hs.boot.trans hb, hs.reg.trans hg, hs.pipes.trans hp⟩

/-- A pipeline's parser store is filled, and the parser restarted. -/
theorem restoreStore_parser (d : Dev) (i : Nat) (bs : List Byte) : ((d.restoreStore 0 i bs).pipe i).parseStopped = false ∧
    ((d.restoreStore 0 i bs).pipe i).parseStore = storeWords 64 4096 0 bs := by
  unfold Dev.restoreStore
  extract_lets drop b1 d1 b2 d2 d3
  clear_value d3
  have hp : ((d3.modPipe i (fun x => { x with parseStore := storeWords 64 4096 0 bs, parseStopped := false })).clearLive
      (0x500 + 64 * i)).pipe i = { d3.pipe i with parseStore := storeWords 64 4096 0 bs, parseStopped := false } := by
    unfold Dev.pipe
    rw [(sameStores_clearLive ..).pipes]
    exact (Dev.pipe_modPipe ..).trans (if_pos rfl)
  exact ⟨congrArg Pipe.parseStopped hp, congrArg Pipe.parseStore hp⟩

/-- A regulator's store is filled, and the regulator restarted. -/
theorem restoreStore_regulator (d : Dev) (i : Nat) (bs : List Byte) : (d.restoreStore 2 i bs).reg.regStopped.testBit i = false ∧
    tget (d.restoreStore 2 i bs).reg.regStore [] i = storeWords 16 8192 0 bs := by
  unfold Dev.restoreStore
  extract_lets drop b1 d1 b2 d2 d3
  clear_value d3
  have hreg := (reg_clearLive (({ d3 with reg := { d3.reg with
        regStore := tset d3.reg.regStore [] i (storeWords 16 8192 0 bs), regStopped := drop d3.reg.regStopped
        regTrapped := drop d3.reg.regTrapped } } : Dev).clearLive (0xF10 + i)) (0x0D0 + i)).trans (reg_clearLive _ (0xF10 + i))
  refine ⟨(congrArg (fun r => r.regStopped.testBit i) hreg).trans ?_, (congrArg (fun r => tget r.regStore [] i) hreg).trans ?_⟩
  · exact testBit_cleared ..
  · exact (tget_tset ..).trans (if_pos rfl)

/-- The last step of a reload fills the store, and answers with the time that the reload took. -/
theorem doOpStoreReload_last {d : Dev} {c : CmdRef} {io : Io} {x : Cmd} {bs : List Byte} {t0 : Nat} {r : Nat × Nat × Nat × Nat × Nat}
    (h : d.isRunning c x) (hop : isOp 0xB0 x = true) (hs : x.scratch = [bs.length, leNat (sha512 bs)]) (hio : io.rd = some bs)
    (hr : d.boot.reloading = some (r.1, r.2.1, r.2.2.1, r.2.2.2.1, r.2.2.2.2, t0)) : ∃ e : Dev, e.isRunning c x ∧
    e.boot.reloading = none ∧ e.reg = (d.restoreStore (x.fld 16 0 2) (x.fld 17 0 4) bs).reg ∧
    e.pipes = (d.restoreStore (x.fld 16 0 2) (x.fld 17 0 4) bs).pipes ∧
    doOpStoreReload c io d = (e.finish c (okDone (min (2 ^ 32 - 1) ((d.bal.tick - t0) / 25)))).endedSweep := by
  unfold doOpStoreReload
  rw [step1_run h hop]
  simp only [hs, hio, hr, ne_eq, not_true_eq_false, or_self, if_false]
  have hfill : (d.restoreStore (x.fld 16 0 2) (x.fld 17 0 4) bs).hif = d.hif := by simp
  generalize d.restoreStore (x.fld 16 0 2) (x.fld 17 0 4) bs = f at hfill ⊢
  have hsame (g : Dev) (data : BitVec 160) : SameStores g (g.record Ev.storeReloaded .shared none data).refreshPauseAll :=
    (sameStores_record ..).trans (sameStores_refreshPauseAll _)
  refine ⟨_, ?_, ?_, ?_, ?_, rfl⟩
  · exact isRunning_congr ((hsame ..).hif.trans hfill) h
  · rw [(hsame ..).boot]
  · rw [(hsame ..).reg]
  · rw [(hsame ..).pipes]

/-- A pipeline's parser store is lost: it stays zeroed and unlocked, and the parser stopped. -/
theorem storeLost_parser (d : Dev) (i : Nat) : ((d.storeLost 0 i).pipe i).parseStopped = true ∧
    ((d.storeLost 0 i).pipe i).parseStore = [] ∧ (d.storeLost 0 i).boot.locked = false ∧
    (d.storeLost 0 i).boot.reloading = d.boot.reloading := by
  have hp (e : Dev) : (e.modPipe i (fun x => { x with parseStore := [], parseStopped := true })).pipe i =
      { e.pipe i with parseStore := [], parseStopped := true } := (Dev.pipe_modPipe ..).trans (if_pos rfl)
  unfold Dev.storeLost
  dsimp only
  exact ⟨congrArg Pipe.parseStopped (hp _), congrArg Pipe.parseStore (hp _), rfl, rfl⟩

/-- A reload of a parser's store that fails loses the store. -/
theorem reloadFails_parser {d : Dev} {e n p i t : Nat} (hr : d.boot.reloading = some (e, n, p, 0, i, t)) (cause : Nat) :
    ((d.reloadFails cause).pipe i).parseStopped = true ∧ ((d.reloadFails cause).pipe i).parseStore = [] ∧
    (d.reloadFails cause).boot.locked = false ∧ (d.reloadFails cause).boot.reloading = none := by
  have hsame (f : Dev) (data : BitVec 160) : SameStores f ((f.record Ev.storeReloadFailed .shared (some 0x015) data).setLive 0x015) :=
    (sameStores_record ..).trans (sameStores_setLive ..)
  obtain ⟨h1, h2, h3, h4⟩ := storeLost_parser { d with boot := { d.boot with reloading := none } } i
  unfold Dev.reloadFails
  rw [hr]
  dsimp only
  unfold Dev.pipe at h1 h2 ⊢
  rw [(hsame ..).pipes, (hsame ..).boot]
  exact ⟨h1, h2, h3, h4⟩

/-- The boot registers name a reload that begins. -/
def Dev.reloadBegins (d : Dev) (c : CmdRef) (kind i : Nat) : Dev :=
  { d with boot := { d.boot with reloading := some (c.ep, c.ring, c.pos.toNat, kind, i, d.bal.tick) } }

/-- A manifest that is not the loaded one fails the reload. -/
theorem doOpStoreReload_mismatch {d : Dev} {c : CmdRef} {io : Io} {x : Cmd} {man : List Byte} (h : d.isRunning c x)
    (hop : isOp 0xB0 x = true) (hs : x.scratch = []) (hr : d.boot.reloading = none) (hio : io.rd = some man)
    (hne : leNat (sha512 (man.take 1024)) ≠ d.boot.manifestHash.toNat) : doOpStoreReload c io d =
      ((((d.reloadBegins c (x.fld 16 0 2) (x.fld 17 0 4)).reloadFails 9).badOp c (16 + 256 * 9)).refreshPauseAll).endedSweep := by
  unfold doOpStoreReload
  rw [step1_run h hop]
  simp only [hs, hio, hr, Option.isSome_none, Bool.false_eq_true, if_false, if_pos hne]
  rfl

/-- While another reload runs, the command is refused. -/
theorem doOpStoreReload_busy {d : Dev} {c : CmdRef} {io : Io} {x : Cmd} (h : d.isRunning c x) (hop : isOp 0xB0 x = true)
    (hs : x.scratch = []) (hr : d.boot.reloading ≠ none) : doOpStoreReload c io d = (d.fail c stWrongMode 0x200).endedSweep := by
  unfold doOpStoreReload
  rw [step1_run h hop]
  simp only [hs, Option.isSome_iff_ne_none, hr, ne_eq, not_false_eq_true, if_true]

/-- A command that ends leaves the command of another reference. -/
theorem cmd?_finish_other {d : Dev} {r c : CmdRef} {y : Cmd} (hy : d.cmd? r = some y)
    (hne : ¬(r.ep = c.ep ∧ r.ring = c.ring ∧ r.pos = c.pos)) (o : Done) : (d.finish c o).cmd? r = some y := by
  by_cases he : r.ep = c.ep
  · refine cmd?_finish_of_ne hy ?_
    obtain ⟨hring, hpos⟩ : y.ring = r.ring ∧ y.pos = r.pos := of_decide_eq_true (List.find?_some (p := names r) hy)
    exact decide_eq_false (fun h => hne ⟨he, hring.symm.trans h.1, hpos.symm.trans h.2⟩)
  · unfold Dev.finish Dev.modCmd Dev.cmd? at *
    rw [ep_modEp, if_neg (fun h => he h.symm)]
    exact hy

/-- While the command of a reload runs and no read holds the log, the sweep after a command changes nothing. -/
theorem endedSweep_running {d : Dev} {e n p : Nat} {r : Nat × Nat × Nat} {y : Cmd} (hr : d.boot.reloading = some (e, n, p, r))
    (hy : d.cmd? { ep := e, ring := n, pos := BitVec.ofNat 32 p } = some y) (ho : y.outcome = none) (he : d.evr.reading = 0) :
    d.endedSweep = d := by
  have hsweep : d.readSweep = d := by
    unfold Dev.readSweep
    rw [he]
    rfl
  unfold Dev.endedSweep
  dsimp only
  rw [hsweep, hr]
  dsimp only
  exact if_pos (by rw [hy]; simp only [ho, Option.isNone_none])

/-! ### OP_ATTEST (17 R517-R519) -/

theorem doOpAttestReport_run {d : Dev} {c : CmdRef} {io : Io} {x : Cmd} (h : d.isRunning c x) (hop : isOpAct 0x04 (16, 0, 1) 0 x = true) :
    doOpAttestReport c io d =
      if (!d.otp.identity) = true then d.fail c stNotFound 0x0100
      else if x.fld 20 0 32 < 864 then d.badOp c 20
      else
        let seq := (d.boot.reportSeq + 1) % 2 ^ 32
        let d := { d with boot := { d.boot with reportSeq := seq } }
        let body := d.reportBody c.ep (x.fld 32 0 256) seq
        let sig := ecdsaSign d.otp.idPriv body
        let d := d.hostOut c.ep (x.fld 24 0 64) (body ++ sig.1 ++ sig.2 ++ List.replicate 12 0) io.wrErr
        let d := d.record Ev.attest .shared none (dat [(0, 1, c.ep), (1, 4, seq), (5, 1, 0)])
        d.okBuf c io.wrErr 24 864 seq := step1_run h hop

theorem doOpAttestCert_run {d : Dev} {c : CmdRef} {io : Io} {x : Cmd} (h : d.isRunning c x) (hop : isOpAct 0x04 (16, 0, 1) 1 x = true) :
    doOpAttestCert c io d =
      if (!d.otp.identity) = true then d.fail c stNotFound 0x0100
      else if d.boot.certLen = 0 ∨ d.boot.path ≠ 0 then d.fail c stNotFound 0x0200
      else if x.fld 20 0 32 < d.boot.certLen then d.badOp c 20
      else match ioBytes io d.boot.certLen with
        | none => d.fail c stTimeout
        | some bs =>
          let d := d.hostOut c.ep (x.fld 24 0 64) bs io.wrErr
          let d := d.record Ev.attest .shared none (dat [(0, 1, c.ep), (1, 4, d.boot.reportSeq), (5, 1, 1)])
          d.okBuf c io.wrErr 24 d.boot.certLen d.boot.reportSeq := step1_run h hop

/-- Bytes written for the caller, an event and the results: the command ends, and the bytes are the last output. -/
theorem attestAnswers {d : Dev} {c : CmdRef} {x : Cmd} (h : d.isRunning c x) (addr : Nat) (bs : List Byte) (data : BitVec 160)
    (off r0 r1 : Nat) : (((d.hostOut c.ep addr bs false).record Ev.attest .shared none data).okBuf c false off r0 r1).ended c x (okDone r0 r1) ∧
    (((d.hostOut c.ep addr bs false).record Ev.attest .shared none data).okBuf c false off r0 r1).boot = d.boot ∧
    ((d.ep c.ep).up = true → (((d.hostOut c.ep addr bs false).record Ev.attest .shared none data).okBuf c false off r0 r1).out =
      .hostWrite c.ep addr bs :: d.out) := by
  refine ⟨okBuf_ended (isRunning_hif (hif_record ..) (isRunning_hostOut h ..)), by simp, fun hup => ?_⟩
  have hok (e : Dev) : (e.okBuf c false off r0 r1).out = e.out := by simp
  have hrec (e : Dev) : (e.record Ev.attest .shared none data).out = e.out := by simp
  rw [hok, hrec]
  simp [Dev.hostOut, Dev.emit, hup]

/-- Settles O40: what each row sets of the stores, through the parts that the end of a command leaves. -/
theorem storesAndAttestationComplete : Obligations.StoresAndAttestationComplete := by
  unfold Obligations.StoresAndAttestationComplete
  intro s
  refine ⟨fun r word hm hr hw hruns => ⟨fun kind hk => ⟨_, rfl, doRegulatorTrap_stops hm hr hw hk hruns⟩,
    fun lasting => ⟨_, rfl, doRegulatorStoreUe_stops lasting hm hr hw hruns⟩⟩,
    fun i word lasting hc hi hw hruns => ⟨_, rfl, doRegulatorStoreUe_adaptation lasting hc hi hw hruns⟩, fun c io x h => ?_⟩
  refine ⟨?_, ?_, ?_, ?_, ?_, ?_, ?_⟩
  · intro i bs hash t0 hop hi hs hio hhash hr
    subst hi hhash
    obtain ⟨e, hrun, hnone, hreg, hpipes, hrow⟩ := doOpStoreReload_last (r := (c.ep, c.ring, c.pos.toNat, x.fld 16 0 2, x.fld 17 0 4))
      h hop hs hio hr
    obtain ⟨hend, hboot, hreg', hpipes'⟩ := reloadAnswers hrun hnone (okDone (min (2 ^ 32 - 1) ((s.dev.bal.tick - t0) / 25)))
    refine ⟨fun hk => ⟨{ s with dev := doOpStoreReload c io s.dev }, rfl, ?_⟩, fun hk => ⟨{ s with dev := doOpStoreReload c io s.dev }, rfl, ?_⟩⟩
    · obtain ⟨hstop, hstore⟩ := restoreStore_parser s.dev (x.fld 17 0 4) bs
      dsimp only
      rw [hk] at hpipes
      rw [hrow]
      unfold Dev.pipe at hstop hstore ⊢
      rw [hpipes', hpipes, hboot]
      exact ⟨hend, hstop, hstore, hnone⟩
    · dsimp only
      rw [hk] at hreg
      rw [hrow, hreg', hreg, hboot]
      obtain ⟨hstop, hstore⟩ := restoreStore_regulator s.dev (x.fld 17 0 4) bs
      exact ⟨hend, hstop, hstore, hnone⟩
  · intro man hop hk hs hr hio hne
    refine ⟨{ s with dev := doOpStoreReload c io s.dev }, rfl, ?_⟩
    dsimp only
    rw [doOpStoreReload_mismatch h hop hs hr hio hne, hk]
    have hhif : ((s.dev.reloadBegins c 0 (x.fld 17 0 4)).reloadFails 9).hif = s.dev.hif :=
      show ((s.dev.reloadBegins c 0 (x.fld 17 0 4)).reloadFails 9).hif = (s.dev.reloadBegins c 0 (x.fld 17 0 4)).hif by simp
    obtain ⟨hstop, hstore, hlock, hnone⟩ := reloadFails_parser (d := s.dev.reloadBegins c 0 (x.fld 17 0 4)) rfl 9
    generalize (s.dev.reloadBegins c 0 (x.fld 17 0 4)).reloadFails 9 = e at hhif hstop hstore hlock hnone ⊢
    obtain ⟨hb, -, hp⟩ := parts_finish e c (failDone stBadOperand (16 + 256 * 9))
    have hsame : SameStores (e.finish c (failDone stBadOperand (16 + 256 * 9)))
        ((e.finish c (failDone stBadOperand (16 + 256 * 9))).refreshPauseAll).endedSweep :=
      (sameStores_refreshPauseAll _).trans (sameStores_endedSweep (by rw [(sameStores_refreshPauseAll _).boot, hb]; exact hnone))
    refine ⟨(cmd?_hif hsame.hif c).trans (finish_ended (isRunning_hif hhif h)), ?_, ?_, ?_⟩
    · unfold Dev.pipe at hstop ⊢
      exact (congrArg (fun t => (tget t {} (x.fld 17 0 4)).parseStopped) (hsame.pipes.trans hp)).trans hstop
    · unfold Dev.pipe at hstore ⊢
      exact (congrArg (fun t => (tget t {} (x.fld 17 0 4)).parseStore) (hsame.pipes.trans hp)).trans hstore
    · exact (congrArg Boot.locked (hsame.boot.trans hb)).trans hlock
  · intro hop hs hr hother hread
    refine ⟨{ s with dev := doOpStoreReload c io s.dev }, rfl, ?_⟩
    dsimp only
    rw [doOpStoreReload_busy h hop hs hr]
    obtain ⟨⟨e, n, p, k, i, t0⟩, hrel⟩ := Option.ne_none_iff_exists'.1 hr
    obtain ⟨y, hy, ho, hne⟩ := hother e n p k i t0 hrel
    have hb : (s.dev.fail c stWrongMode 0x200).boot = s.dev.boot := (parts_finish ..).1
    have he : (s.dev.fail c stWrongMode 0x200).evr = s.dev.evr := by simp
    have hy' : (s.dev.fail c stWrongMode 0x200).cmd? { ep := e, ring := n, pos := BitVec.ofNat 32 p } = some y :=
      cmd?_finish_other hy hne _
    rw [endedSweep_running (by rw [hb]; exact hrel) hy' ho (by rw [he]; exact hread)]
    exact ⟨fail_ended h, hb⟩
  · intro hop hbad
    refine ⟨{ s with dev := doOpAttestReport c io s.dev }, rfl, ?_⟩
    dsimp only
    rw [doOpAttestReport_run h hop]
    cases hid : s.dev.otp.identity with
    | false => exact ⟨(parts_finish ..).1, fail_ended h⟩
    | true =>
      rw [if_neg (by decide), if_pos (hbad.resolve_left (by rw [hid]; decide))]
      exact ⟨(parts_finish ..).1, badOp_ended h⟩
  · intro hop hbad
    refine ⟨{ s with dev := doOpAttestCert c io s.dev }, rfl, ?_⟩
    dsimp only
    rw [doOpAttestCert_run h hop]
    cases hid : s.dev.otp.identity with
    | false => exact fail_ended h
    | true =>
      rw [if_neg (by decide), if_pos (hbad.resolve_left (by rw [hid]; decide))]
      exact fail_ended h
  · intro seq hop hid hlen hio hseq
    subst hseq
    refine ⟨{ s with dev := doOpAttestReport c io s.dev }, rfl, ?_⟩
    dsimp only
    have hrun : ({ s.dev with boot := { s.dev.boot with reportSeq := (s.dev.boot.reportSeq + 1) % 2 ^ 32 } } : Dev).isRunning c x := h
    rw [doOpAttestReport_run h hop, if_neg (by rw [hid]; decide), if_neg (by omega), hio]
    extract_lets seq b d1 body sig d2 d3
    clear_value sig
    obtain ⟨hend, hboot, hout⟩ := attestAnswers (d := d1) hrun (x.fld 24 0 64) (body ++ sig.1 ++ sig.2 ++ List.replicate 12 0)
      (dat [(0, 1, c.ep), (1, 4, seq), (5, 1, 0)]) 24 864 seq
    refine ⟨hend, congrArg Boot.reportSeq hboot, fun hup => ⟨sig.1 ++ sig.2 ++ List.replicate 12 0, (hout hup).trans ?_⟩⟩
    have hbody : body = s.dev.reportBody c.ep (x.fld 32 0 256) seq := rfl
    rw [hbody, List.append_assoc, List.append_assoc, List.append_assoc]
  · intro bs hop hid hcert hpath hlen hbs hio
    refine ⟨{ s with dev := doOpAttestCert c io s.dev }, rfl, ?_⟩
    dsimp only
    have hrec (data : BitVec 160) : ((s.dev.hostOut c.ep (x.fld 24 0 64) bs false).record Ev.attest .shared none data).boot = s.dev.boot := by simp
    have hhost : (s.dev.hostOut c.ep (x.fld 24 0 64) bs false).boot = s.dev.boot := by simp
    rw [doOpAttestCert_run h hop, if_neg (by rw [hid]; decide), if_neg (not_or.2 ⟨hcert, not_not.2 hpath⟩), if_neg (by omega), hbs, hio]
    dsimp only
    rw [hhost, hrec]
    obtain ⟨hend, -, hout⟩ := attestAnswers h (x.fld 24 0 64) bs (dat [(0, 1, c.ep), (1, 4, s.dev.boot.reportSeq), (5, 1, 1)]) 24
      s.dev.boot.certLen s.dev.boot.reportSeq
    exact ⟨hend, hout⟩

end Sys2Proof.Machine
end

section
/-! PROOFS. What the Dike Watch keeps of its sources: of a source, all but its live status, which the rest of the device sets. -/
namespace Sys2Proof.Machine

/-- A source but for its live status, the window that ends it and what it was concerned with. -/
def Src.filed (x : Src) : Src := { x with live := false, windowEnd := none, recent := [], attr := 0 }

/-- The sources but for their live status. -/
def Fcr.filed (f : Fcr) (k : Nat) : Src := (tget f.srcs {} k).filed

/-- The sources stand but for their live status. -/
abbrev Filed (d d' : Dev) : Prop := d'.fcr.filed = d.fcr.filed

theorem filed_src {d d' : Dev} (h : Filed d d') (k : Nat) : (d'.src k).filed = (d.src k).filed := congrFun h k

@[simp] theorem filed_modSrc (d : Dev) (s : Nat) (f : Src → Src) (hf : ∀ x, (f x).filed = x.filed) :
    (d.modSrc s f).fcr.filed = d.fcr.filed := by
  funext j
  show ((d.modSrc s f).src j).filed = (d.src j).filed
  rw [Dev.src_modSrc]
  split
  · exact hf _
  · rfl

@[simp] theorem filed_ite (c : Prop) [Decidable c] (a b : Fcr) : (if c then a else b).filed = if c then a.filed else b.filed :=
  apply_ite _ _ _ _

@[simp] theorem filed_foldl {α : Type} (l : List α) (f : Dev → α → Dev) (h : ∀ d x, (f d x).fcr.filed = d.fcr.filed) (d : Dev) :
    (l.foldl f d).fcr.filed = d.fcr.filed := foldl_keeps (fun d => d.fcr.filed) h l d

@[simp] theorem filed_foldl2 {α β : Type} (l : List α) (f : β × Dev → α → β × Dev)
    (h : ∀ a x, (f a x).2.fcr.filed = a.2.fcr.filed) (a : β × Dev) : (l.foldl f a).2.fcr.filed = a.2.fcr.filed := by
  induction l generalizing a with
  | nil => rfl
  | cons x l ih => exact (ih _).trans (h a x)

@[simp] theorem filed_foldl3 {α β γ : Type} (l : List α) (f : γ × β × Dev → α → γ × β × Dev)
    (h : ∀ a x, (f a x).2.2.fcr.filed = a.2.2.fcr.filed) (a : γ × β × Dev) : (l.foldl f a).2.2.fcr.filed = a.2.2.fcr.filed := by
  induction l generalizing a with
  | nil => rfl
  | cons x l ih => exact (ih _).trans (h a x)

/-! ### Operations that set no more than live status -/

@[simp] theorem Dev.setLive_filed (d : Dev) (s attr : Nat) : Filed d (d.setLive s attr) := by
  unfold Dev.setLive
  split
  · rfl
  · exact filed_modSrc d s _ (fun _ => rfl)

@[simp] theorem Dev.clearLive_filed (d : Dev) (s : Nat) : Filed d (d.clearLive s) := filed_modSrc d s _ (fun _ => rfl)

@[simp] theorem Dev.live_filed (d : Dev) (s : Nat) (on : Bool) (attr : Nat) : Filed d (d.live s on attr) := by
  unfold Dev.live
  split
  · exact Dev.setLive_filed ..
  · exact Dev.clearLive_filed ..

@[simp] theorem Dev.liveFor_filed (d : Dev) (s n attr : Nat) : Filed d (d.liveFor s n attr) := by
  unfold Dev.liveFor
  split
  · rfl
  · exact filed_modSrc d s _ (fun _ => rfl)

@[simp] theorem Dev.liveMs_filed (d : Dev) (s attr : Nat) : Filed d (d.liveMs s attr) := Dev.liveFor_filed ..

@[simp] theorem Dev.stall_filed (d : Dev) (p : Nat) : Filed d (d.stall p) := Dev.live_filed ..

@[simp] theorem Dev.closeBanks_filed (d : Dev) : Filed d d.closeBanks := by
  refine filed_foldl _ _ (fun d p => ?_) d
  dsimp only
  repeat' split
  all_goals simp

@[simp] theorem Dev.reloadFails_filed (d : Dev) (cause : Nat) : Filed d (d.reloadFails cause) := by
  unfold Dev.reloadFails
  split <;> simp [Filed]

@[simp] theorem Dev.endedSweep_filed (d : Dev) : Filed d d.endedSweep := by
  unfold Dev.endedSweep
  dsimp only
  repeat' split
  all_goals simp [Filed]

@[simp] theorem Dev.endCommands_filed (d : Dev) : Filed d d.endCommands := by
  unfold Dev.endCommands
  extract_lets d1 running
  have h : d1.fcr = d.fcr := foldl_keeps (fun d => d.fcr) (fun d e => (rfl : (d.modEp e _).fcr = d.fcr)) _ d
  exact (Dev.endedSweep_filed _).trans (congrArg Fcr.filed h)

@[simp] theorem Dev.judgeAll_filed (d : Dev) : Filed d d.judgeAll := by
  unfold Dev.judgeAll
  dsimp only
  refine (filed_foldl _ _ (fun d p => ?_) _).trans ((Dev.live_filed ..).trans (congrArg Fcr.filed ?_))
  · split <;> simp
  · simp

@[simp] theorem Dev.retireCell_filed (d : Dev) (c cause : Nat) : Filed d (d.retireCell c cause) := by
  simp [Filed, Dev.retireCell]

@[simp] theorem Dev.freeCell_filed (d : Dev) (c : Nat) : Filed d (d.freeCell c) := by
  unfold Dev.freeCell
  dsimp only
  split <;> simp [Filed]

@[simp] theorem Dev.releaseAs_filed (d : Dev) (soft : Bool) (party c a : Nat) : Filed d (d.releaseAs soft party c a).2 := by
  unfold Dev.releaseAs
  dsimp only
  repeat' split
  all_goals simp [Filed]

@[simp] theorem Dev.releaseAll_filed (d : Dev) (party a : Nat) (cs : List Nat) : Filed d (d.releaseAll party a cs) :=
  filed_foldl cs _ (fun d c => Dev.releaseAs_filed d false party c a) d

@[simp] theorem Dev.replDone_filed (d : Dev) (x : Pkt) (t : Dest) : Filed d (d.replDone x t) := by
  unfold Dev.replDone
  dsimp only
  repeat' split
  all_goals simp [Filed]

@[simp] theorem Dev.copyEnd_filed (d : Dev) (party : Nat) (e : Ent) (t : Dest) : Filed d (d.copyEnd party e t) := by
  unfold Dev.copyEnd
  repeat' split
  all_goals simp [Filed]

@[simp] theorem Dev.copyDrop_filed (d : Dev) (party : Nat) (e : Ent) (t : Dest) (c : Ctr) (i : Nat) :
    Filed d (d.copyDrop party e t c i) := by
  unfold Dev.copyDrop
  split <;> simp [Filed]

@[simp] theorem Dev.dropWaiting_filed (d : Dev) (pid : Nat) (party : Nat) (c : Ctr) (idx : Pkt → Dest → Nat) :
    Filed d (d.dropWaiting pid party c idx) := by
  unfold Dev.dropWaiting
  split <;> simp [Filed]

@[simp] theorem Dev.freeQueue_filed (d : Dev) (k : Nat) (c : Ctr) (byIngress : Bool) : Filed d (d.freeQueue k c byIngress).2.2 := by
  have hdetach (d : Dev) : Filed d ((d.modQueue k (fun q => { q with ents := [] })).detach k) := by simp [Filed]
  refine (hdetach _).trans (filed_foldl _ _ (fun d e => ?_) d)
  split <;> simp

@[simp] theorem Dev.freeAll_filed (d : Dev) (c : Ctr) (drain : Bool) : Filed d (d.freeAll c drain) := by
  unfold Dev.freeAll
  extract_lets d1 d2 d3 d4
  have h1 : d1.fcr.filed = d.fcr.filed := by simp [d1]
  have h2 : d2.fcr.filed = d1.fcr.filed := by
    refine filed_foldl _ _ (fun d pid => ?_) d1
    split <;> simp
  have h3 : d3.fcr.filed = d2.fcr.filed := by simp [d3]
  exact h3.trans (h2.trans h1)

@[simp] theorem Dev.freeWaiting_filed (d : Dev) (keys : List Nat) (c : Ctr) (idx : Pkt → Dest → Nat) :
    Filed d (d.freeWaiting keys c idx).2.2 := by
  refine filed_foldl3 _ _ (fun a x => ?_) (0, 0, d)
  split
  · rfl
  · exact filed_foldl3 _ _ (fun a t => by simp) a

@[simp] theorem Dev.flushPort_filed (d : Dev) (p : Nat) (c : Ctr) (byIngress : Bool) : Filed d (d.flushPort p c byIngress).2.2 := by
  simp [Filed, Dev.flushPort, Dev.freePort]

@[simp] theorem Dev.laneRefresh_filed (d : Dev) (l : Nat) : Filed d (d.laneRefresh l) := by
  unfold Dev.laneRefresh
  extract_lets on
  clear_value on
  split
  · rfl
  · exact Dev.live_filed ..

@[simp] theorem Dev.setPortSt_filed (d : Dev) (p : Nat) (st : PortSt) : Filed d (d.setPortSt p st) :=
  filed_foldl _ _ Dev.laneRefresh_filed _

@[simp] theorem Dev.linkRefresh_filed (d : Dev) (p : Nat) : Filed d (d.linkRefresh p) := by
  unfold Dev.linkRefresh
  repeat' split
  all_goals simp [Filed]

@[simp] theorem Dev.portsFollow_filed (d : Dev) : Filed d d.portsFollow := by
  have h (e : Dev) : Filed e e.refreshPauseAll := by simp [Filed]
  refine (h _).trans (filed_foldl _ _ (fun d p => ?_) d)
  exact Eq.trans (by simp) (Dev.linkRefresh_filed d p)

@[simp] theorem Dev.polderFree_filed (d : Dev) (p : Nat) : Filed d (d.polderFree p).2 := by
  simp [Filed, Dev.polderFree]

@[simp] theorem Dev.holdPolder_filed (d : Dev) (p source : Nat) : Filed d (d.holdPolder p source) := by
  unfold Dev.holdPolder
  dsimp only
  repeat' split
  all_goals simp [Filed]

@[simp] theorem Dev.holdPolders_filed (d : Dev) (mask source : Nat) : Filed d (d.holdPolders mask source) :=
  filed_foldl _ _ (fun d p => Dev.holdPolder_filed d p source) d

/-- SAFE_HOLD is entered. -/
theorem filed_safeHold (d : Dev) (code : Nat) (source : Option Nat) (fs : List (Nat × Nat × Nat)) :
    Filed d (d.toMode .safeHold code source fs) := by
  unfold Dev.toMode
  extract_lets old d1 b1 d2
  have h1 : Filed d d1 := by
    unfold d1
    split
    · exact Dev.closeBanks_filed d
    · rfl
  have h2 : Filed d d2 := h1
  have hm : (d2.record code .shared source (dat fs)).bal.mode = .safeHold := congrArg Bal.mode (bal_record ..)
  have h3 : Filed d (d2.record code .shared source (dat fs)) := (congrArg Fcr.filed (fcr_record ..)).trans h2
  generalize d2.record code .shared source (dat fs) = e at hm h3 ⊢
  refine (Dev.endCommands_filed _).trans ?_
  unfold Dev.entered
  rw [hm]
  have hstop (e : Dev) : Filed e e.sweepStop := by simp [Filed]
  exact (Dev.portsFollow_filed _).trans ((hstop _).trans ((Dev.freeAll_filed ..).trans h3))

@[simp] theorem Dev.safeHoldFor_filed (d : Dev) (source : Nat) : Filed d (d.safeHoldFor source) := by
  unfold Dev.safeHoldFor
  split
  · exact filed_safeHold ..
  · exact filed_safeHold ..
  · exact filed_safeHold ..
  · exact filed_safeHold ..
  · rfl

end Sys2Proof.Machine
end

section
/-! PROOFS. The Dike Watch (15 R444-R455). -/
namespace Sys2Proof.Machine

/-! ### Attribution, and the mode while a fault holds traffic -/

/-- Which sources are shared does not depend on the state. -/
theorem attribution_shared_iff (d : Dev) (k : Nat) : d.attribution k = .shared ↔ k < 0x40 ∨ 0xC0 ≤ k ∧ k < 0x100 ∨ 0x500 ≤ k := by
  have hwho (m : Nat) : whoOf m ≠ .shared := by unfold whoOf; split <;> exact Who.noConfusion
  have hlane (l : Nat) : (match d.lanePolder l with
      | some p => Who.polders (2 ^ p)
      | none => .nobody) ≠ .shared := by split <;> exact Who.noConfusion
  unfold Dev.attribution
  dsimp only
  split
  · exact iff_of_true rfl (by omega)
  · split
    · refine iff_of_false ?_ (by omega)
      split <;> exact hwho _
    · split
      · exact iff_of_false Who.noConfusion (by omega)
      · split
        · exact iff_of_true rfl (by omega)
        · split
          · exact iff_of_false (hlane _) (by omega)
          · split
            · exact iff_of_false (hlane _) (by omega)
            · exact iff_of_true rfl (by omega)

theorem attribution_shared {d : Dev} {k : Nat} (h : d.attribution k = .shared) (e : Dev) : e.attribution k = .shared :=
  (attribution_shared_iff e k).2 ((attribution_shared_iff d k).1 h)

/-- The time stands, and FORWARDING and SAFE_HOLD go on or pass to SAFE_HOLD. -/
structure Steady (d e : Dev) : Prop where
  tick : e.bal.tick = d.bal.tick
  held : d.bal.mode = .safeHold → e.bal.mode = .safeHold
  holds : d.bal.mode = .forwarding → e.bal.mode = .forwarding ∨ e.bal.mode = .safeHold

theorem Steady.of_bal {d e : Dev} (h : e.bal = d.bal) : Steady d e :=
  ⟨congrArg Bal.tick h, fun hm => by rw [h]; exact hm, fun hm => .inl (by rw [h]; exact hm)⟩

theorem Steady.trans {a b c : Dev} (h : Steady a b) (h' : Steady b c) : Steady a c :=
  ⟨h'.tick.trans h.tick, fun hm => h'.held (h.held hm), fun hm => (h.holds hm).elim h'.holds (fun hs => .inr (h'.held hs))⟩

theorem safeHoldFor_mode (d : Dev) (s : Nat) : (d.safeHoldFor s).bal.tick = d.bal.tick ∧
    (d.bal.mode = .safeHold ∨ d.bal.mode = .forwarding → (d.safeHoldFor s).bal.mode = .safeHold) := by
  have hset (fs : List (Nat × Nat × Nat)) : (d.toMode .safeHold Ev.modeFault (some s) fs).bal.tick = d.bal.tick ∧
      (d.toMode .safeHold Ev.modeFault (some s) fs).bal.mode = .safeHold := by
    rw [(toMode_keeps (d := d) (m := .safeHold) (.inr (.inr (.inl rfl))) Ev.modeFault (some s) fs).1]
    exact ⟨rfl, rfl⟩
  unfold Dev.safeHoldFor
  split
  · exact ⟨(hset _).1, fun _ => (hset _).2⟩
  · exact ⟨(hset _).1, fun _ => (hset _).2⟩
  · exact ⟨(hset _).1, fun _ => (hset _).2⟩
  · exact ⟨(hset _).1, fun _ => (hset _).2⟩
  next hf _ _ => exact ⟨rfl, fun hm => hm.resolve_right hf⟩

theorem steady_safeHoldFor (d : Dev) (s : Nat) : Steady d (d.safeHoldFor s) := by
  obtain ⟨ht, hm⟩ := safeHoldFor_mode d s
  exact ⟨ht, fun h => hm (.inl h), fun h => .inr (hm (.inr h))⟩

/-! ### Reactions (15 R450-R453) -/

theorem steady_critical (d : Dev) (s : Nat) : Steady d (d.critical s) := by
  unfold Dev.critical
  split
  · exact (Steady.of_bal (by simp)).trans (steady_safeHoldFor _ s)
  · exact .of_bal (by simp)
  · exact .of_bal rfl

theorem filed_critical_ne {d : Dev} {s k : Nat} (h : s ≠ k) : ((d.critical s).src k).filed = (d.src k).filed := by
  unfold Dev.critical
  split
  · rw [filed_src (Dev.safeHoldFor_filed ..), Dev.src_modSrc, if_neg h]
  · exact filed_src (Dev.holdPolders_filed ..) k
  · rfl

/-- A shared source's critical reaction holds the device. -/
theorem critical_shared {d : Dev} {s : Nat} (h : d.attribution s = .shared) :
    ((d.critical s).src s).filed = { (d.src s).filed with critTaken := true } ∧ (d.critical s).bal.tick = d.bal.tick ∧
    (d.bal.mode = .safeHold ∨ d.bal.mode = .forwarding → (d.critical s).bal.mode = .safeHold) := by
  unfold Dev.critical
  rw [h]
  dsimp only
  refine ⟨?_, safeHoldFor_mode ..⟩
  rw [filed_src (Dev.safeHoldFor_filed ..), Dev.src_modSrc, if_pos rfl]
  rfl

theorem fcr_alarmAll (d : Dev) (s sev : Nat) : (d.alarmAll s sev).fcr = d.fcr := by simp
theorem bal_alarmAll (d : Dev) (s sev : Nat) : (d.alarmAll s sev).bal = d.bal := by simp

/-- A reaction but for the timer or the critical reaction that ends it: the lane's causes are judged again, and the alarms are raised. -/
def Dev.reacts (d : Dev) (s sev : Nat) : Dev :=
  let d' := if 0x100 ≤ s ∧ s < 0x300 then d.modLane (s - 0x100) (fun x => { x with recheck := x.causes.map Prod.fst }) else d
  if sev = 4 ∨ (2 ≤ sev ∧ !(d.srcCfg s).irqOff) then d'.alarmAll s sev else d'

theorem reacts_parts (d : Dev) (s sev : Nat) : (d.reacts s sev).fcr = d.fcr ∧ (d.reacts s sev).bal = d.bal := by
  unfold Dev.reacts
  extract_lets d'
  have h : d'.fcr = d.fcr ∧ d'.bal = d.bal := by
    unfold d'
    split <;> exact ⟨rfl, rfl⟩
  split
  · exact ⟨(fcr_alarmAll ..).trans h.1, (bal_alarmAll ..).trans h.2⟩
  · exact h

theorem reactTo_eq (d : Dev) (s sev : Nat) : d.reactTo s sev =
    if sev = 3 then
      (d.reacts s sev).modSrc s (fun x => { x with
        timer := if x.timer.isSome then x.timer else some ((d.reacts s sev).bal.tick +
          usTicks (if (d.srcCfg s).graceUs = 0 then 10000 else (d.srcCfg s).graceUs),
          if (d.srcCfg s).graceUs = 0 then 10000 else (d.srcCfg s).graceUs) })
    else if sev = 4 then
      if (d.srcCfg s).graceUs = 0 then (d.reacts s sev).critical s
      else (d.reacts s sev).modSrc s (fun x => { x with
        crit := if x.crit.isSome then x.crit else some ((d.reacts s sev).bal.tick + usTicks (d.srcCfg s).graceUs, (d.srcCfg s).graceUs) })
    else d.reacts s sev := rfl

/-- A reaction keeps the time, and leaves the other sources but for their live status. -/
theorem reactTo_keeps (d : Dev) (s sev : Nat) : Steady d (d.reactTo s sev) ∧
    ∀ k, s ≠ k → ((d.reactTo s sev).src k).filed = (d.src k).filed := by
  obtain ⟨hf, hb⟩ := reacts_parts d s sev
  have hsrc (k : Nat) : (d.reacts s sev).src k = d.src k := src_fcr hf k
  rw [reactTo_eq]
  split
  · exact ⟨.of_bal (Eq.trans (by simp) hb), fun k hk => by rw [Dev.src_modSrc, if_neg hk, hsrc]⟩
  · split
    · split
      · exact ⟨(Steady.of_bal hb).trans (steady_critical ..), fun k hk => by rw [filed_critical_ne hk, hsrc]⟩
      · exact ⟨.of_bal (Eq.trans (by simp) hb), fun k hk => by rw [Dev.src_modSrc, if_neg hk, hsrc]⟩
    · exact ⟨.of_bal hb, fun k _ => by rw [hsrc]⟩

/-! ### Reports (15 R446, R450, R455) -/

/-- What one pass over an element of the list brings about, while `I` holds, and every pass keeps stands after the loop. -/
theorem foldl_reaches_mem {α β : Type} {I P : β → Prop} {f : β → α → β} {x : α} {l : List α} (hx : x ∈ l)
    (hI : ∀ d, ∀ y ∈ l, I d → I (f d y)) (h : ∀ d, I d → P (f d x)) (hk : ∀ d, ∀ y ∈ l, P d → P (f d y)) {d : β} (hd : I d) :
    P (l.foldl f d) := by
  have keep : ∀ (l : List α), (∀ d, ∀ y ∈ l, P d → P (f d y)) → ∀ d, P d → P (l.foldl f d) := fun l => by
    induction l with
    | nil => exact fun _ _ h => h
    | cons y l ih => exact fun hk d h => ih (fun d z hz => hk d z (List.mem_cons_of_mem _ hz)) _ (hk d y List.mem_cons_self h)
  induction l generalizing d with
  | nil => cases hx
  | cons y l ih =>
    rw [List.foldl_cons]
    rcases List.mem_cons.1 hx with rfl | hx
    · exact keep l (fun d z hz => hk d z (List.mem_cons_of_mem _ hz)) _ (h d hd)
    · exact ih hx (fun d z hz => hI d z (List.mem_cons_of_mem _ hz)) (fun d z hz => hk d z (List.mem_cons_of_mem _ hz))
        (hI d y List.mem_cons_self hd)

theorem tget_tmap_of_ne {α : Type} [DecidableEq α] {z : α} {f : α → α} (hz : f z = z) {t : Tab α} {k : Nat} (h : f (tget t z k) ≠ z) :
    tget (tmap t z f) z k = f (tget t z k) := by
  induction t with
  | nil => exact absurd hz h
  | cons e t ih =>
    obtain ⟨j, a⟩ := e
    have hmap : tmap ((j, a) :: t) z f = if f a = z then tmap t z f else (j, f a) :: tmap t z f := by
      by_cases ha : f a = z <;> simp [tmap, ha]
    have hget (b : α) (u : Tab α) : tget ((j, b) :: u) z k = if j = k then b else tget u z k := rfl
    rw [hget] at h ⊢
    rw [hmap]
    by_cases hj : j = k
    · rw [if_pos hj] at h ⊢
      rw [if_neg h, hget, if_pos hj]
    · rw [if_neg hj] at h ⊢
      split
      · exact ih h
      · rw [hget, if_neg hj, ih h]

/-- A source stands latched with the severity at least, sampled, and lasting until a retry says otherwise. -/
structure Src.Reported (x : Src) (sev : Nat) : Prop where
  latched : x.latched = true
  sampled : x.sampled = true
  lasting : x.lasting = true
  sev : sev ≤ x.latchedSev

theorem Src.Reported.of_filed {x y : Src} {sev : Nat} (h : y.filed = x.filed) (hx : x.Reported sev) : y.Reported sev :=
  ⟨(congrArg Src.latched h).trans hx.latched, (congrArg Src.sampled h).trans hx.sampled, (congrArg Src.lasting h).trans hx.lasting,
    hx.sev.trans_eq (congrArg Src.latchedSev h).symm⟩

theorem latch_src (d : Dev) (s sev k : Nat) : (d.latch s sev).src k = if s = k then
    { d.src k with
      sampled := true, latched := true, latchedSev := if (d.src k).latched then max (d.src k).latchedSev sev else sev, lastTick := d.aon
      reports := min (2 ^ 24 - 1) ((d.src k).reports + 1), lasting := true
      escalated := (d.src k).latched && (d.src k).escalated, critTaken := (d.src k).latched && (d.src k).critTaken } else d.src k :=
  Dev.src_modSrc ..

/-- A report latches its source, and leaves its timer and its configuration. -/
theorem latches_src {d : Dev} {rs : List (Nat × Nat)} {k sev : Nat} (hr : (k, sev) ∈ rs) :
    ((rs.foldl (fun d r => d.latch r.1 r.2) d).src k).Reported sev ∧
    ((rs.foldl (fun d r => d.latch r.1 r.2) d).src k).timer = (d.src k).timer ∧
    ((rs.foldl (fun d r => d.latch r.1 r.2) d).src k).cfg = (d.src k).cfg := by
  refine foldl_reaches_mem (I := fun e : Dev => (e.src k).timer = (d.src k).timer ∧ (e.src k).cfg = (d.src k).cfg)
    (P := fun e : Dev => (e.src k).Reported sev ∧ (e.src k).timer = (d.src k).timer ∧ (e.src k).cfg = (d.src k).cfg)
    hr (fun e r _ he => ?_) (fun e he => ?_) (fun e r _ he => ?_) ⟨rfl, rfl⟩
  · rw [latch_src]
    split
    · exact he
    · exact he
  · rw [latch_src, if_pos rfl]
    refine ⟨⟨rfl, rfl, rfl, ?_⟩, he⟩
    show sev ≤ if (e.src k).latched = true then max (e.src k).latchedSev sev else sev
    split
    · exact le_max_right ..
    · exact le_rfl
  · obtain ⟨⟨hl, hs, hlast, hsev⟩, hrest⟩ := he
    rw [latch_src]
    split
    · refine ⟨⟨rfl, rfl, rfl, ?_⟩, hrest⟩
      exact hsev.trans (le_max_left ..)
    · exact ⟨⟨hl, hs, hlast, hsev⟩, hrest⟩

theorem reportMade_keeps (d : Dev) (n : Nat) (r : Nat × Nat × Nat) : Filed d (d.reportMade n r) ∧ (d.reportMade n r).bal = d.bal := by
  have hhist (s sev : Nat) (a b : Bool) : Filed d (d.histAdd s sev a b) := rfl
  unfold Dev.reportMade
  dsimp only
  unfold Dev.reportRecord
  repeat' split
  · exact ⟨rfl, rfl⟩
  · exact ⟨by simp [Filed], by simp⟩
  · exact ⟨Eq.trans (by simp) (hhist r.2.1 r.2.2 true (decide (1 < n))), by simp⟩
  · exact ⟨by simp [Filed], by simp⟩

theorem capture_keeps (d : Dev) (rs : List (Nat × Nat)) : Filed d (d.capture rs) ∧ (d.capture rs).bal = d.bal := by
  unfold Dev.capture
  dsimp only
  split <;> exact ⟨rfl, rfl⟩

/-- A new source is among the reports of the cycle, latched before the reactions begin. -/
theorem doFaultReport_reports {d : Dev} {k : Nat} (hm : d.bal.mode ≠ .off) (hl : (d.src k).live = true) (hs : (d.src k).sampled = false) :
    ∃ e : Dev, e.bal = d.bal ∧ (e.src k).Reported (d.effSeverity k) ∧ (e.src k).timer = (d.src k).timer ∧
      (e.src k).cfg = (d.src k).cfg ∧ (k, d.effSeverity k) ∈ d.newReports ∧ (∀ r ∈ d.newReports, r.1 = k → r.2 = d.effSeverity k) ∧
      doFaultReport d = (d.newReports.foldl (fun d r => d.reactTo r.1 r.2) e).faultPins := by
  have hmem : (k, d.effSeverity k) ∈ d.newReports := by
    unfold Dev.newReports
    rw [mem_sortBy]
    refine List.mem_map.2 ⟨(k, d.src k), List.mem_filter.2 ⟨mem_of_tget rfl ?_, ?_⟩, rfl⟩
    · intro h
      rw [h] at hl
      cases hl
    · rw [hl, hs]
      rfl
  have hsev : ∀ r ∈ d.newReports, r.1 = k → r.2 = d.effSeverity k := by
    intro r hr hk
    unfold Dev.newReports at hr
    rw [mem_sortBy] at hr
    obtain ⟨x, -, rfl⟩ := List.mem_map.1 hr
    exact congrArg d.effSeverity hk
  unfold doFaultReport
  rw [if_neg hm]
  extract_lets rs n f0 d0 d1 d2 d3
  have h0 : d0.bal = d.bal ∧ d0.src k = { d.src k with sampled := true } := by
    refine ⟨rfl, Eq.trans (tget_tmap_of_ne (f := fun x : Src => { x with sampled := x.live }) rfl ?_)
      (congrArg (fun b => ({ d.src k with sampled := b } : Src)) hl)⟩
    intro h
    exact absurd (hl.symm.trans (show (d.src k).live = false from congrArg Src.live h)) Bool.noConfusion
  clear_value d0
  obtain ⟨h1, htimer, hcfg⟩ := latches_src (d := d0) hmem
  have hb1 : d1.bal = d0.bal := foldl_keeps (fun d => d.bal) (fun d r => (rfl : (d.latch r.1 r.2).bal = d.bal)) rs d0
  have h2 : Filed d1 d2 ∧ d2.bal = d1.bal := ⟨filed_foldl _ _ (fun d r => (reportMade_keeps d n r).1) d1,
    foldl_keeps (fun d => d.bal) (fun d r => (reportMade_keeps d n r).2) _ d1⟩
  have h3 := capture_keeps d2 rs
  have hfiled : (d3.src k).filed = (d1.src k).filed := (filed_src h3.1 k).trans (filed_src h2.1 k)
  refine ⟨d3, ?_, h1.of_filed hfiled, ?_, ?_, hmem, hsev, rfl⟩
  · exact h3.2.trans (h2.2.trans (hb1.trans h0.1))
  · exact (congrArg Src.timer hfiled).trans (htimer.trans ((congrArg Src.timer h0.2).trans rfl))
  · exact (congrArg Src.cfg hfiled).trans (hcfg.trans ((congrArg Src.cfg h0.2).trans rfl))

theorem reactTo_major (d : Dev) (s : Nat) : (d.reactTo s 3).src s = { d.src s with
    timer := if (d.src s).timer.isSome then (d.src s).timer else some (d.bal.tick +
      usTicks (if (d.srcCfg s).graceUs = 0 then 10000 else (d.srcCfg s).graceUs),
      if (d.srcCfg s).graceUs = 0 then 10000 else (d.srcCfg s).graceUs) } := by
  obtain ⟨hf, hb⟩ := reacts_parts d s 3
  rw [reactTo_eq, if_pos rfl, Dev.src_modSrc, if_pos rfl, src_fcr hf, hb]

theorem reactTo_critical {d : Dev} {s : Nat} (hg : (d.srcCfg s).graceUs = 0) (ha : d.attribution s = .shared) :
    ((d.reactTo s 4).src s).filed = { (d.src s).filed with critTaken := true } ∧
    (d.bal.mode = .safeHold ∨ d.bal.mode = .forwarding → (d.reactTo s 4).bal.mode = .safeHold) := by
  obtain ⟨hf, hb⟩ := reacts_parts d s 4
  rw [reactTo_eq, if_neg (by decide), if_pos rfl, if_pos hg]
  obtain ⟨hsrc, -, hmode⟩ := critical_shared (d := d.reacts s 4) (attribution_shared ha _)
  rw [hsrc, src_fcr hf]
  exact ⟨rfl, fun hm => hmode (by rw [hb]; exact hm)⟩

theorem srcCfg_of_filed {d e : Dev} {k : Nat} (h : (e.src k).cfg = (d.src k).cfg) : e.srcCfg k = d.srcCfg k := by
  unfold Dev.srcCfg
  rw [h]

theorem src_faultPins (d : Dev) (k : Nat) : d.faultPins.src k = d.src k := rfl
theorem bal_faultPins (d : Dev) : d.faultPins.bal = d.bal := rfl

/-- A source that is latched and has taken its critical reaction asserts FAULT_N. -/
theorem faultN_faultPins {d : Dev} {k : Nat} (hl : (d.src k).latched = true) (hc : (d.src k).critTaken = true) : d.faultPins.fcr.faultN = true := by
  refine List.any_eq_true.2 ⟨(k, d.src k), mem_of_tget rfl ?_, ?_⟩
  · intro h
    exact absurd (hl.symm.trans (congrArg Src.latched h)) Bool.noConfusion
  · rw [hl, hc]
    rfl

/-- While the reactions of a cycle are taken: the time stands, and the source is reported and has no timer, or one of this cycle. -/
structure Timing (d : Dev) (k us : Nat) (f : Dev) : Prop where
  tick : f.bal.tick = d.bal.tick
  reported : (f.src k).Reported 3
  cfg : (f.src k).cfg = (d.src k).cfg
  timer : (f.src k).timer = none ∨ (f.src k).timer = some (d.bal.tick + 25 * us, us)

/-- A reaction keeps the timer of the cycle, and that of the source itself starts it. -/
theorem Timing.reactTo {d f : Dev} {k us : Nat} (h : Timing d k us f) {r : Nat × Nat} (hsev : r.1 = k → r.2 = 3)
    (hus : us = (if (d.srcCfg k).graceUs = 0 then 10000 else (d.srcCfg k).graceUs)) : Timing d k us (f.reactTo r.1 r.2) ∧
    (r.1 = k ∨ (f.src k).timer = some (d.bal.tick + 25 * us, us) →
      ((f.reactTo r.1 r.2).src k).timer = some (d.bal.tick + 25 * us, us)) := by
  obtain ⟨ht, hr, hc, htimer⟩ := h
  have htick := (reactTo_keeps f r.1 r.2).1.tick.trans ht
  by_cases hk : r.1 = k
  · rw [hk, hsev hk] at htick ⊢
    have hstarts : ((f.reactTo k 3).src k).timer = some (d.bal.tick + 25 * us, us) := by
      rw [reactTo_major, srcCfg_of_filed hc, ← hus, ht]
      rcases htimer with htimer | htimer
      · rw [htimer]
        rfl
      · rw [htimer]
        rfl
    refine ⟨⟨htick, ?_, ?_, .inr hstarts⟩, fun _ => hstarts⟩
    · rw [reactTo_major]
      exact ⟨hr.latched, hr.sampled, hr.lasting, hr.sev⟩
    · rw [reactTo_major]
      exact hc
  · have hfiled := (reactTo_keeps f r.1 r.2).2 k hk
    have hsame : ((f.reactTo r.1 r.2).src k).timer = (f.src k).timer :=
      show ((f.reactTo r.1 r.2).src k).filed.timer = (f.src k).filed.timer from congrArg Src.timer hfiled
    exact ⟨⟨htick, hr.of_filed hfiled, (congrArg Src.cfg hfiled).trans hc, by rw [hsame]; exact htimer⟩,
      fun h => hsame.trans (h.resolve_left hk)⟩

/-- A new source of severity MAJOR is latched and starts its timer. -/
theorem doFaultReport_major {d : Dev} {k us : Nat} (hm : d.bal.mode ≠ .off) (hl : (d.src k).live = true) (hs : (d.src k).sampled = false)
    (he : d.effSeverity k = 3) (ht : (d.src k).timer = none)
    (hus : us = (if (d.srcCfg k).graceUs = 0 then 10000 else (d.srcCfg k).graceUs)) :
    ((doFaultReport d).src k).Reported 3 ∧ ((doFaultReport d).src k).timer = some (d.bal.tick + 25 * us, us) := by
  obtain ⟨e, hb, hrep, htimer, hcfg, hmem, hsev, hrow⟩ := doFaultReport_reports hm hl hs
  rw [he] at hrep hmem hsev
  rw [hrow, src_faultPins]
  have hfold := foldl_reaches_mem (f := fun (d : Dev) (r : Nat × Nat) => d.reactTo r.1 r.2) (d := e) (I := Timing d k us)
    (P := fun f : Dev => Timing d k us f ∧ (f.src k).timer = some (d.bal.tick + 25 * us, us)) hmem
    (fun f r hr hf => (hf.reactTo (hsev r hr) hus).1)
    (fun f hf => ⟨(hf.reactTo (hsev _ hmem) hus).1, (hf.reactTo (hsev _ hmem) hus).2 (.inl rfl)⟩)
    (fun f r hr hf => ⟨(hf.1.reactTo (hsev r hr) hus).1, (hf.1.reactTo (hsev r hr) hus).2 (.inr hf.2)⟩)
    ⟨by rw [hb], hrep, hcfg, .inl (htimer.trans ht)⟩
  exact ⟨hfold.1.reported, hfold.2⟩

/-- While the reactions of a cycle are taken: the source is reported as CRITICAL without grace, and FORWARDING goes on until SAFE_HOLD. -/
structure Holding (d : Dev) (k : Nat) (f : Dev) : Prop where
  reported : (f.src k).Reported 4
  cfg : (f.src k).cfg = (d.src k).cfg
  mode : f.bal.mode = .safeHold ∨ f.bal.mode = .forwarding

/-- A reaction keeps SAFE_HOLD, and that of the source itself brings it. -/
theorem Holding.reactTo {d f : Dev} {k : Nat} (h : Holding d k f) {r : Nat × Nat} (hsev : r.1 = k → r.2 = 4)
    (hg : (d.srcCfg k).graceUs = 0) (ha : d.attribution k = .shared) : Holding d k (f.reactTo r.1 r.2) ∧
    (r.1 = k ∨ (f.src k).critTaken = true ∧ f.bal.mode = .safeHold →
      ((f.reactTo r.1 r.2).src k).critTaken = true ∧ (f.reactTo r.1 r.2).bal.mode = .safeHold) := by
  obtain ⟨hr, hc, hm⟩ := h
  by_cases hk : r.1 = k
  · rw [hk, hsev hk]
    obtain ⟨hsrc, hmode⟩ := reactTo_critical (d := f) (s := k) (by rw [srcCfg_of_filed hc]; exact hg) (attribution_shared ha f)
    refine ⟨⟨?_, (congrArg Src.cfg hsrc).trans hc, .inl (hmode hm)⟩, fun _ => ⟨congrArg Src.critTaken hsrc, hmode hm⟩⟩
    exact ⟨(congrArg Src.latched hsrc).trans hr.latched, (congrArg Src.sampled hsrc).trans hr.sampled,
      (congrArg Src.lasting hsrc).trans hr.lasting, hr.sev.trans_eq (congrArg Src.latchedSev hsrc).symm⟩
  · obtain ⟨hsteady, hother⟩ := reactTo_keeps f r.1 r.2
    have hfiled := hother k hk
    exact ⟨⟨hr.of_filed hfiled, (congrArg Src.cfg hfiled).trans hc, hm.elim (fun h => .inl (hsteady.held h)) (fun h => (hsteady.holds h).symm)⟩,
      fun h => ⟨(congrArg Src.critTaken hfiled).trans (h.resolve_left hk).1, hsteady.held (h.resolve_left hk).2⟩⟩

/-- A new shared source of severity CRITICAL without grace holds the device. -/
theorem doFaultReport_critical {d : Dev} {k : Nat} (hl : (d.src k).live = true) (hs : (d.src k).sampled = false)
    (he : d.effSeverity k = 4) (ha : d.attribution k = .shared) (hg : (d.srcCfg k).graceUs = 0) (hm : d.bal.mode = .forwarding) :
    ((doFaultReport d).src k).latched = true ∧ ((doFaultReport d).src k).critTaken = true ∧ (doFaultReport d).bal.mode = .safeHold ∧
    (doFaultReport d).fcr.faultN = true := by
  obtain ⟨e, hb, hrep, -, hcfg, hmem, hsev, hrow⟩ := doFaultReport_reports (by rw [hm]; decide) hl hs
  rw [he] at hrep hmem hsev
  rw [hrow, src_faultPins, bal_faultPins]
  have hfold := foldl_reaches_mem (f := fun (d : Dev) (r : Nat × Nat) => d.reactTo r.1 r.2) (d := e) (I := Holding d k)
    (P := fun f : Dev => Holding d k f ∧ (f.src k).critTaken = true ∧ f.bal.mode = .safeHold) hmem
    (fun f r hr hf => (hf.reactTo (hsev r hr) hg ha).1)
    (fun f hf => ⟨(hf.reactTo (hsev _ hmem) hg ha).1, (hf.reactTo (hsev _ hmem) hg ha).2 (.inl rfl)⟩)
    (fun f r hr hf => ⟨(hf.1.reactTo (hsev r hr) hg ha).1, (hf.1.reactTo (hsev r hr) hg ha).2 (.inr hf.2)⟩)
    ⟨hrep, hcfg, .inr (by rw [hb]; exact hm)⟩
  obtain ⟨⟨hr, -, -⟩, hcrit, hmode⟩ := hfold
  exact ⟨hr.latched, hcrit, hmode, faultN_faultPins hr.latched hcrit⟩

/-! ### Timers (15 R451-R453) -/

theorem src_reach (d : Dev) (t k : Nat) : (d.reach t).src k = d.src k := rfl

theorem fcr_bumpScope (d : Dev) (c : Ctr) (mask : Nat) : (d.bumpScope c mask).fcr = d.fcr := by simp
theorem bal_bumpScope (d : Dev) (c : Ctr) (mask : Nat) : (d.bumpScope c mask).bal = d.bal := by simp

/-- A timer that runs out on a shared source escalates it to CRITICAL. -/
theorem doGraceTimerExpiry_shared {d : Dev} {k due us : Nat} (ht : (d.src k).timer = some (due, us)) (ha : d.attribution k = .shared) :
    due ≤ (doGraceTimerExpiry k d).bal.tick ∧ ((doGraceTimerExpiry k d).src k).timer = none ∧
    ((doGraceTimerExpiry k d).src k).escalated = true ∧ ((doGraceTimerExpiry k d).src k).latchedSev = 4 ∧
    ((doGraceTimerExpiry k d).src k).critTaken = true ∧ (d.bal.mode = .forwarding → (doGraceTimerExpiry k d).bal.mode = .safeHold) := by
  have hreach := tick_reach d due
  have hmode := mode_reach d due
  have hsrc := src_reach d due k
  unfold doGraceTimerExpiry
  rw [ht]
  dsimp -zeta only
  generalize d.reach due = e at hreach hmode hsrc ⊢
  extract_lets d1 shared crit mask d2 data d3 h d4 d5 d6
  have hcrit : crit = true := by
    unfold crit shared
    rw [attribution_shared ha d1]
    rfl
  rw [if_pos hcrit, src_faultPins, bal_faultPins]
  have h1 : d1.src k = { d.src k with timer := none, escalated := true } := by
    unfold d1
    rw [Dev.src_modSrc, if_pos rfl, hsrc]
  have hb1 : d1.bal = e.bal := rfl
  have h2 : d2.fcr = d1.fcr ∧ d2.bal = d1.bal := ⟨fcr_bumpScope .., bal_bumpScope ..⟩
  clear_value d1
  have h3 : d3.src k = { d.src k with timer := none, escalated := true, latchedSev := 4 } := by
    unfold d3
    rw [Dev.src_modSrc, if_pos rfl, src_fcr h2.1, h1]
  have hb3 : d3.bal = e.bal := h2.2.trans hb1
  clear_value d2 d3
  have h4 : Filed d3 d4 ∧ d4.bal = d3.bal := ⟨rfl, rfl⟩
  have h5 : Filed d4 d5 ∧ d5.bal = d4.bal := ⟨congrArg Fcr.filed (show d5.fcr = d4.fcr by unfold d5; simp), by unfold d5; simp⟩
  clear_value d4 d5
  have hc := capture_keeps d5 [(k, 4)]
  have h6 : Filed d5 d6 ∧ d6.bal = d5.bal := ⟨(congrArg Fcr.filed (fcr_alarmAll ..)).trans hc.1, (bal_alarmAll ..).trans hc.2⟩
  clear_value d6
  have hf : (d6.src k).filed = (d3.src k).filed := (filed_src h6.1 k).trans ((filed_src h5.1 k).trans (filed_src h4.1 k))
  have hb : d6.bal = e.bal := h6.2.trans (h5.2.trans (h4.2.trans hb3))
  obtain ⟨hsrc6, htick, hheld⟩ := critical_shared (attribution_shared ha d6)
  rw [hf, h3] at hsrc6
  refine ⟨?_, ?_, ?_, ?_, ?_, fun hf => hheld (.inr ?_)⟩
  · rw [htick, hb]
    exact hreach
  · exact congrArg Src.timer hsrc6
  · exact congrArg Src.escalated hsrc6
  · exact congrArg Src.latchedSev hsrc6
  · exact congrArg Src.critTaken hsrc6
  · rw [hb]
    exact hmode.trans hf

theorem doCriticalGraceExpiry_avoided {d : Dev} {k due us : Nat} (hc : (d.src k).crit = some (due, us)) (hl : (d.src k).live = false)
    (hn : (d.src k).lasting = false) : due ≤ (doCriticalGraceExpiry k d).bal.tick ∧ (doCriticalGraceExpiry k d).bal.mode = d.bal.mode ∧
    (doCriticalGraceExpiry k d).src k = { d.src k with crit := none } := by
  have hreach := tick_reach d due
  have hmode := mode_reach d due
  have hsrc := src_reach d due k
  unfold doCriticalGraceExpiry
  rw [hc]
  dsimp only
  generalize d.reach due = e at hreach hmode hsrc ⊢
  have h1 : (e.modSrc k (fun x => { x with crit := none })).src k = { d.src k with crit := none } := by
    rw [Dev.src_modSrc, if_pos rfl, hsrc]
  have hb : (e.modSrc k (fun x => { x with crit := none })).bal = e.bal := rfl
  generalize e.modSrc k (fun x => { x with crit := none }) = f at h1 hb ⊢
  rw [if_neg (by rw [h1]; simp [hl, hn]), bal_record, src_fcr (fcr_record ..), hb]
  exact ⟨hreach, hmode, h1⟩

theorem doCriticalGraceExpiry_taken {d : Dev} {k due us : Nat} (hc : (d.src k).crit = some (due, us))
    (hl : (d.src k).live = true ∨ (d.src k).lasting = true) (ha : d.attribution k = .shared) :
    due ≤ (doCriticalGraceExpiry k d).bal.tick ∧ ((doCriticalGraceExpiry k d).src k).crit = none ∧
    ((doCriticalGraceExpiry k d).src k).critTaken = true ∧ (d.bal.mode = .forwarding → (doCriticalGraceExpiry k d).bal.mode = .safeHold) := by
  have hreach := tick_reach d due
  have hmode := mode_reach d due
  have hsrc := src_reach d due k
  unfold doCriticalGraceExpiry
  rw [hc]
  dsimp only
  generalize d.reach due = e at hreach hmode hsrc ⊢
  have h1 : (e.modSrc k (fun x => { x with crit := none })).src k = { d.src k with crit := none } := by
    rw [Dev.src_modSrc, if_pos rfl, hsrc]
  have hb : (e.modSrc k (fun x => { x with crit := none })).bal = e.bal := rfl
  generalize e.modSrc k (fun x => { x with crit := none }) = f at h1 hb ⊢
  rw [if_pos (by rw [h1]; exact hl), src_faultPins, bal_faultPins]
  obtain ⟨hcrit, htick, hheld⟩ := critical_shared (attribution_shared ha f)
  refine ⟨?_, ?_, congrArg Src.critTaken hcrit, fun hf => hheld (.inr ?_)⟩
  · rw [htick, hb]
    exact hreach
  · exact (congrArg Src.crit hcrit).trans (congrArg Src.crit h1)
  · rw [hb]
    exact hmode.trans hf

/-! ### Retries and windows (15 R454; 13 R402) -/

/-- A retry that passes makes the source transient. -/
theorem src_reclass (d : Dev) (k : Nat) : (d.reclass k).src k = { d.src k with lasting := false } := by
  unfold Dev.reclass
  dsimp only
  split
  next h =>
    have hn : (d.src k).lasting = false := by simpa using h
    rw [← hn]
  next =>
    have hsrc (e : Dev) (h : e.src k = d.src k) : (e.modSrc k (fun y => { y with lasting := false })).src k = { d.src k with lasting := false } := by
      rw [Dev.src_modSrc, if_pos rfl, h]
    split
    · exact hsrc _ rfl
    · rw [src_fcr (fcr_record ..)]
      exact hsrc _ rfl

theorem doLiveWindowExpiry_pps {d : Dev} {cp : Capture} (hc : d.tmu.capIn = some cp) (hl : (d.src 0xE01).live = false) :
    cp.tick + msTicks 2000 ≤ (doLiveWindowExpiry 0xE01 d).bal.tick ∧ ((doLiveWindowExpiry 0xE01 d).src 0xE01).live = true := by
  unfold doLiveWindowExpiry
  rw [if_pos rfl, hc]
  dsimp only
  rw [if_neg (by rw [hl]; exact Bool.false_ne_true), bal_setLive]
  exact ⟨tick_reach .., setLive_src_self rfl ..⟩

theorem doLiveWindowExpiry_ends {d : Dev} {k due : Nat} (hk : k ≠ 0xE01) (hw : (d.src k).windowEnd = some due) :
    due ≤ (doLiveWindowExpiry k d).bal.tick ∧ (doLiveWindowExpiry k d).src k = { d.src k with live := false, windowEnd := none } := by
  unfold doLiveWindowExpiry
  rw [if_neg hk, hw]
  dsimp only
  rw [bal_clearLive]
  refine ⟨tick_reach .., ?_⟩
  unfold Dev.clearLive
  rw [Dev.src_modSrc, if_pos rfl, src_reach]

/-! ### The Tourbillon (15 R444) -/

/-- A record counts nothing but what its unit's input loses. -/
theorem ctr_record {c : Ctr} (hc : Ctr.evrInputDrop.ctorIdx ≠ c.ctorIdx) {i : Nat} (hi : i < 2 ^ 32) (d : Dev) (code : Nat) (who : Who)
    (source : Option Nat) (data : BitVec 160) : (d.record code who source data).ctr c i = d.ctr c i := by
  unfold Dev.record Dev.recordSev Dev.pushRec
  generalize ({ code := code, severity := _, source := source, data := data, hist := none, shared := _, polder := _, noPolder := _ } : Rec) = r
  split
  · rfl
  · dsimp only
    have hb := ctr_bump_ne hc (by decide : 0 < 2 ^ 32) hi d 1
    have hun (e : Dev) (r : Rec) : (e.untold r).ctrs = e.ctrs := by simp
    generalize d.bump .evrInputDrop 0 = e at hb ⊢
    split
    · exact (ctr_ctrs (hun e r) c i).trans hb
    next n _ =>
      refine Eq.trans ?_ hb
      cases e.evr.input.reverse[n]? with
      | none => rfl
      | some y => exact ctr_ctrs (hun e y) c i

theorem defaultSeverity_parseCe : ∀ {i : Nat}, i < 16 → (defaultSeverity (0x501 + 64 * i)).isSome = true := by decide
theorem defaultSeverity_actionCe : ∀ {i : Nat}, i < 16 → (defaultSeverity (0x511 + 64 * i)).isSome = true := by decide
theorem defaultSeverity_regCe : ∀ {i : Nat}, i < 4 → (defaultSeverity (0xF14 + i)).isSome = true := by decide
theorem defaultSeverity_adpCe : ∀ {i : Nat}, i < 8 → (defaultSeverity (0xF20 + i)).isSome = true := by decide

theorem defaultSeverity_ce {w mem inst src : Nat} (hs : sweeps w mem inst = true) (hc : ceSource mem inst = some src) :
    (defaultSeverity src).isSome = true := by
  unfold ceSource at hc
  split at hc
  · cases hc
    exact defaultSeverity_parseCe (of_decide_eq_true hs).1
  · cases hc
    exact defaultSeverity_actionCe (of_decide_eq_true hs).1
  · cases hc
    exact defaultSeverity_regCe (of_decide_eq_true hs).2
  · cases hc
    exact defaultSeverity_adpCe (of_decide_eq_true hs).2
  · cases hc

theorem doTourbillonVisit_corrected {w mem inst k : Nat} (args : List Nat) {d : Dev} (hp : d.corePowered = true) (hw : w < 4)
    (hs : sweeps w mem inst = true) (hpar : parityOnly mem = false) :
    (doTourbillonVisit w mem inst k .corrected false args d).ctr .tbnCe 0 = min (d.ctr .tbnCe 0 + 1) (2 ^ 64 - 1) ∧
    ∀ src, ceSource mem inst = some src → ((doTourbillonVisit w mem inst k .corrected false args d).src src).live = true := by
  unfold doTourbillonVisit
  rw [if_neg (by rw [hp, hs]; simp; omega)]
  dsimp only
  rw [if_neg (by rw [hpar]; exact Bool.false_ne_true), if_neg Bool.false_ne_true]
  rw [ctr_record (by decide) (by decide)]
  refine ⟨?_, fun src hsrc => ?_⟩
  · split
    · exact (ctr_ctrs (show Dev.ctrs _ = (d.bump .tbnCe 0).ctrs by simp) ..).trans (ctr_bump ..)
    · exact ctr_bump ..
  · rw [src_fcr (fcr_record ..), hsrc]
    exact src_liveMs_self (defaultSeverity_ce hs hsrc) ..

theorem doTourbillonVisit_config {w inst k : Nat} (args : List Nat) {d : Dev} (hp : d.corePowered = true) (hw : w < 4)
    (hs : sweeps w 4 inst = true) (hk : k < 4096) : ((doTourbillonVisit w 4 inst k .lasting false args d).src k).cfg = none ∧
    ((doTourbillonVisit w 4 inst k .lasting false args d).src 0x0C0).live = true ∧
    (doTourbillonVisit w 4 inst k .lasting false args d).ctr .tbnUe 0 = min (d.ctr .tbnUe 0 + 1) (2 ^ 64 - 1) := by
  unfold doTourbillonVisit
  rw [if_neg (by rw [hp, hs]; simp; omega)]
  dsimp only
  unfold Dev.tbnBad
  dsimp only
  rw [if_pos hk]
  refine ⟨?_, ?_, ?_⟩
  · rw [src_faultPins, src_fcr (fcr_record ..)]
    refine (congrArg Src.cfg (filed_src (Dev.liveMs_filed ..) k)).trans ?_
    rw [Dev.src_modSrc, if_pos rfl]
    rfl
  · rw [src_faultPins, src_fcr (fcr_record ..)]
    exact src_liveMs_self rfl ..
  · have hpins (e : Dev) : e.faultPins.ctr .tbnUe 0 = e.ctr .tbnUe 0 := rfl
    rw [hpins, ctr_record (by decide) (by decide)]
    exact (ctr_ctrs (show Dev.ctrs _ = (d.bump .tbnUe 0).ctrs by simp) ..).trans (ctr_bump ..)

/-- Settles O41: reports by what a cycle's reactions keep of a source; timers, retries, windows and the Tourbillon a row at a time. -/
theorem faultsAreReportedAndEscalate : Obligations.FaultsAreReportedAndEscalate := by
  unfold Obligations.FaultsAreReportedAndEscalate
  intro s k
  refine ⟨fun hm hl hs => ⟨?_, ?_⟩, fun hm => ?_, fun h => ?_, fun h => ?_, ?_, fun due us hc => ⟨?_, ?_⟩, ?_, ?_, ?_, ?_, ?_⟩
  · intro us he ht hus
    obtain ⟨hr, htimer⟩ := doFaultReport_major hm hl hs he ht hus
    exact ⟨{ s with dev := doFaultReport s.dev }, rfl, hr.latched, hr.sampled, hr.lasting, hr.sev, htimer⟩
  · intro he ha hg hf
    exact ⟨{ s with dev := doFaultReport s.dev }, rfl, doFaultReport_critical hl hs he ha hg hf⟩
  · exact next_same (d := doFaultReport s.dev) (by unfold doFaultReport; rw [if_pos hm])
  · exact next_same (d := doGraceTimerExpiry k s.dev) (by unfold doGraceTimerExpiry; rw [h])
  · exact next_same (d := doCriticalGraceExpiry k s.dev) (by unfold doCriticalGraceExpiry; rw [h])
  · exact fun due us ht ha => ⟨{ s with dev := doGraceTimerExpiry k s.dev }, rfl, doGraceTimerExpiry_shared ht ha⟩
  · exact fun hl hn => ⟨{ s with dev := doCriticalGraceExpiry k s.dev }, rfl, doCriticalGraceExpiry_avoided hc hl hn⟩
  · exact fun hl ha => ⟨{ s with dev := doCriticalGraceExpiry k s.dev }, rfl, doCriticalGraceExpiry_taken hc hl ha⟩
  · intro ho hr
    refine ⟨{ s with dev := doFaultRetryResult k true s.dev }, rfl, ?_⟩
    dsimp only
    unfold doFaultRetryResult
    rw [if_pos (by rw [ho]; simpa using hr)]
    exact src_reclass ..
  · intro passed h
    refine next_same (d := doFaultRetryResult k passed s.dev) ?_
    unfold doFaultRetryResult
    refine if_neg ?_
    rcases h with h | h | h
    · simp [h]
    · simp [h]
    · simp [h]
  · intro cp hk hc hl
    subst hk
    obtain ⟨ht, hlive⟩ := doLiveWindowExpiry_pps hc hl
    exact ⟨{ s with dev := doLiveWindowExpiry 0xE01 s.dev }, rfl, ht, hlive⟩
  · exact fun due hk hw => ⟨{ s with dev := doLiveWindowExpiry k s.dev }, rfl, doLiveWindowExpiry_ends hk hw⟩
  · intro w mem inst args hp hw hs
    refine ⟨fun weak => ?_, fun hpar => ?_, fun hmem hk => ?_⟩
    · refine next_same (d := doTourbillonVisit w mem inst k .clean weak args s.dev) ?_
      unfold doTourbillonVisit
      dsimp only
      split <;> rfl
    · exact ⟨{ s with dev := doTourbillonVisit w mem inst k .corrected false args s.dev }, rfl, doTourbillonVisit_corrected args hp hw hs hpar⟩
    · subst hmem
      exact ⟨{ s with dev := doTourbillonVisit w 4 inst k .lasting false args s.dev }, rfl, doTourbillonVisit_config args hp hw hs hk⟩

end Sys2Proof.Machine
end

section
/-! PROOFS. The fault commands (15 R446, R450, R455, R466-R469). -/
namespace Sys2Proof.Machine

variable {d : Dev} {c : CmdRef} {io : Io} {x : Cmd}

theorem fcr_ok (d : Dev) (c : CmdRef) (r0 r1 detail : Nat) : (d.ok c r0 r1 detail).fcr = d.fcr := by simp
theorem fcr_finish (d : Dev) (c : CmdRef) (o : Done) : (d.finish c o).fcr = d.fcr := by simp
theorem fcr_okBuf (d : Dev) (c : CmdRef) (err : Bool) (off r0 r1 detail : Nat) : (d.okBuf c err off r0 r1 detail).fcr = d.fcr := by simp
theorem fcr_hostOut (d : Dev) (e a : Nat) (bs : List Byte) (err : Bool) : (d.hostOut e a bs err).fcr = d.fcr := by simp
theorem hif_modSrc (d : Dev) (k : Nat) (f : Src → Src) : (d.modSrc k f).hif = d.hif := rfl

theorem mem_sources {k : Nat} : k ∈ x.sources ↔ x.fld 16 0 12 ≤ k ∧ k < x.fld 16 0 12 + max 1 (x.fld 20 0 13) := by
  unfold Cmd.sources
  constructor
  · intro h
    obtain ⟨i, hi, rfl⟩ := List.mem_map.1 h
    exact ⟨Nat.le_add_right .., Nat.add_lt_add_left (List.mem_range.1 hi) _⟩
  · rintro ⟨hle, hlt⟩
    exact List.mem_map.2 ⟨k - x.fld 16 0 12, List.mem_range.2 (by omega), by omega⟩

theorem sources_single (h : x.fld 20 0 13 ≤ 1) : x.sources = [x.fld 16 0 12] := by
  unfold Cmd.sources
  rw [Nat.max_eq_left h]
  rfl

/-! ### OP_FAULT_CONFIG (15 R446, R466, R467) -/

/-- A change of every source of a list, which brings about what it keeps, holds of each of them. -/
theorem foldl_modSrc_reaches {P : Src → Prop} {f : Src → Src} (hf : ∀ y, P (f y)) (l : List Nat) (d : Dev) {k : Nat} (hk : k ∈ l) :
    P ((l.foldl (fun d s => d.modSrc s f) d).src k) := by
  refine foldl_reaches_mem (f := fun (d : Dev) s => d.modSrc s f) (I := fun _ => True) (P := fun e : Dev => P (e.src k)) hk
    (fun _ _ _ _ => trivial) (fun e _ => ?_) (fun e s _ he => ?_) trivial
  · rw [Dev.src_modSrc, if_pos rfl]
    exact hf _
  · rw [Dev.src_modSrc]
    split
    · exact hf _
    · exact he

/-- The configuration that a SET gives. -/
def Cmd.faultCfg (x : Cmd) : SrcCfg :=
  { severity := x.fld 24 0 3, escalate := decide (x.fld 24 3 1 = 1), irqOff := decide (x.fld 24 4 1 = 1)
    graceUs := if x.fld 24 0 3 = 3 ∧ x.fld 28 0 24 = 0 then 10000 else x.fld 28 0 24 }

/-- A source as a SET of that configuration leaves it. -/
def Cmd.setCfg (x : Cmd) (y : Src) : Src :=
  { y with cfg := some x.faultCfg, timer := if x.fld 24 0 3 = 0 then none else y.timer }

theorem doOpFaultConfigSet_stores (h : d.isRunning c x) (hop : isOpAct 0x70 (18, 0, 2) 0 x = true) :
    (doOpFaultConfigSet c io d).ended c x okDone ∧ ∀ k ∈ x.sources, ((doOpFaultConfigSet c io d).src k).cfg = some x.faultCfg ∧
      (x.faultCfg.severity = 0 → ((doOpFaultConfigSet c io d).src k).timer = none) := by
  obtain ⟨who, data, hrow⟩ : ∃ who data, doOpFaultConfigSet c io d =
      ((x.sources.foldl (fun d s => d.modSrc s x.setCfg) d).record Ev.faultConfig who (some (x.fld 16 0 12)) data).ok c :=
    ⟨_, _, step1_run h hop⟩
  have hkept {k : Nat} (hk : k ∈ x.sources) := foldl_modSrc_reaches (f := x.setCfg)
    (P := fun y => y.cfg = some x.faultCfg ∧ (x.faultCfg.severity = 0 → y.timer = none)) (fun y => ⟨rfl, fun h0 => if_pos h0⟩) x.sources d hk
  have hhif : (x.sources.foldl (fun d s => d.modSrc s x.setCfg) d).hif = d.hif := foldl_keeps (fun d => d.hif) (fun d s => hif_modSrc ..) _ d
  rw [hrow]
  generalize x.sources.foldl (fun d s => d.modSrc s x.setCfg) d = e at hkept hhif ⊢
  refine ⟨ok_ended (isRunning_hif ((hif_record ..).trans hhif) h), fun k hk => ?_⟩
  rw [src_fcr ((fcr_ok ..).trans (fcr_record ..))]
  exact hkept hk

/-- A field of value 0 adds nothing. -/
theorem pack_zero (l r : List (Nat × Nat × Nat)) (a w : Nat) : pack (l ++ (a, w, 0) :: r) = pack (l ++ r) := by
  simp [pack, List.foldl_append]

theorem doOpFaultConfigRead_idle (h : d.isRunning c x) (hop : isOpAct 0x70 (18, 0, 2) 1 x = true)
    (ht : (d.src (x.fld 16 0 12)).timer = none) (hc : (d.src (x.fld 16 0 12)).crit = none) : doOpFaultConfigRead c io d = d.ok c
      (pack [(0, 24, (d.srcCfg (x.fld 16 0 12)).graceUs), (24, 3, d.effSeverity (x.fld 16 0 12)),
        (27, 1, b2n (d.srcCfg (x.fld 16 0 12)).escalate), (28, 1, b2n (d.srcCfg (x.fld 16 0 12)).irqOff),
        (29, 1, b2n (d.src (x.fld 16 0 12)).live), (30, 1, b2n (d.src (x.fld 16 0 12)).latched),
        (31, 1, b2n (d.src (x.fld 16 0 12)).lasting), (33, 1, b2n (d.src (x.fld 16 0 12)).escalated)])
      ((d.src (x.fld 16 0 12)).lastTick + (d.src (x.fld 16 0 12)).reports * 2 ^ 40) := by
  unfold doOpFaultConfigRead
  rw [step1_run h hop]
  dsimp only
  rw [ht, hc]
  exact congrArg (fun n => d.ok c n _ 0) (pack_zero [_, _, _, _, _, _, _] [_] 32 1)

/-- Bytes written for the caller, and the results: what an error of the buffer and a good write leave. -/
theorem bufferAnswers (h : d.isRunning c x) (addr : Nat) (bs : List Byte) (err : Bool) (off r0 r1 : Nat) :
    ((d.hostOut c.ep addr bs err).okBuf c err off r0 r1).fcr = d.fcr ∧
    (err = true → ∃ o, ((d.hostOut c.ep addr bs err).okBuf c err off r0 r1).ended c x o ∧ o.status = stTimeout ∧ o.detail = BitVec.ofNat 32 off) ∧
    (err = false → ((d.hostOut c.ep addr bs err).okBuf c err off r0 r1).ended c x (okDone r0 r1)) ∧
    (err = false → (d.ep c.ep).up = true →
      ((d.hostOut c.ep addr bs err).okBuf c err off r0 r1).out = .hostWrite c.ep addr bs :: d.out) := by
  have hrun := isRunning_hostOut h c.ep addr bs err
  refine ⟨(fcr_okBuf ..).trans (fcr_hostOut ..), fun he => ?_, fun he => ?_, fun he hup => ?_⟩
  · subst he
    exact ⟨_, finish_ended hrun, rfl, rfl⟩
  · subst he
    exact okBuf_ended hrun
  · subst he
    have hout (e : Dev) : (e.okBuf c false off r0 r1).out = e.out := by simp
    rw [hout]
    simp [Dev.hostOut, Dev.emit, hup]

/-! ### OP_FAULT_ACK and OP_FAULT_CLEAR (15 R450, R455, R468, R469) -/

theorem doOpFaultAck_run (h : d.isRunning c x) (hop : isOp 0x71 x = true) : doOpFaultAck c io d =
    match (d.src (x.fld 16 0 12)).timer with
    | none => d.fail c stNotFound (if (d.src (x.fld 16 0 12)).escalated then 0x0100 else 0x0200)
    | some _ =>
      let d := d.modSrc (x.fld 16 0 12) (fun y => { y with timer := none })
      (d.record Ev.faultAck (d.attribution (x.fld 16 0 12)) (some (x.fld 16 0 12)) (dat [(0, 2, x.fld 16 0 12), (2, 1, c.ep)])).ok c 1 :=
  (step1_run h hop).trans rfl

theorem hif_bumpScope (d : Dev) (k : Ctr) (mask : Nat) : (d.bumpScope k mask).hif = d.hif := by simp
theorem hif_clearSrc (d : Dev) (s ep : Nat) : (d.clearSrc s ep).hif = d.hif := by simp
theorem hif_clearRefused (d : Dev) (s ep : Nat) : (d.clearRefused s ep).hif = d.hif := by simp

theorem src_clearSrc (d : Dev) (s ep : Nat) : ((d.clearSrc s ep).src s).latched = false ∧ ((d.clearSrc s ep).src s).timer = none := by
  unfold Dev.clearSrc
  dsimp only
  rw [Dev.src_modSrc, if_pos rfl]
  exact ⟨rfl, rfl⟩

theorem latched_clearRefused (d : Dev) (s ep k : Nat) : ((d.clearRefused s ep).src k).latched = (d.src k).latched := by
  have h : Filed d (d.clearRefused s ep) :=
    (congrArg Fcr.filed (fcr_record ..)).trans ((Dev.liveMs_filed ..).trans (congrArg Fcr.filed (fcr_bumpScope ..)))
  have hk : ((d.clearRefused s ep).src k).filed.latched = (d.src k).filed.latched := congrArg Src.latched (filed_src h k)
  exact hk

/-- A clear of the sources of its range, that is not to empty the first-fault registers. -/
theorem doOpFaultClear_range (h : d.isRunning c x) (hop : isOp 0x72 x = true) (hf : x.fld 18 0 1 = 0) {ss : List Nat}
    (hss : x.sources.filter (fun s => (d.src s).latched || (d.src s).live) = ss) : doOpFaultClear c io d =
      let e := (ss.foldl (fun (d : Dev) s => if (d.src s).live then d.clearRefused s c.ep else d.clearSrc s c.ep) d).faultPins
      if (ss.filter (fun s => (d.src s).live)).isEmpty then e.ok c (ss.filter (fun s => !(d.src s).live)).length
        (ss.filter (fun s => (d.src s).live)).length
      else e.fail c stClearRefused ((ss.filter (fun s => (d.src s).live)).head?.getD 0) (ss.filter (fun s => !(d.src s).live)).length
        (ss.filter (fun s => (d.src s).live)).length := by
  subst hss
  unfold doOpFaultClear
  rw [step1_run h hop, hf]
  simp only [Nat.zero_ne_one, if_false, List.filter_nil, List.map_nil, List.foldl_nil, List.isEmpty_nil, Bool.and_true, List.contains_nil,
    Bool.false_eq_true, List.head?_nil, Option.map_none, Option.getD_none, Nat.add_zero, Nat.mul_zero]

/-- Settles O42, a row at a time. -/
theorem faultCommandsComplete : Obligations.FaultCommandsComplete := by
  unfold Obligations.FaultCommandsComplete
  intro s c io x h
  refine ⟨?_, fun hop ht hc => ?_, ?_, fun hop => ?_, fun hop ht => ?_, ?_, fun hop hf hnone => ?_, fun hop hn hf hl => ⟨fun hlive => ?_, fun hlive => ?_⟩⟩
  · intro cfg hop hcfg
    obtain ⟨hend, hsrc⟩ := doOpFaultConfigSet_stores (io := io) h hop
    refine ⟨{ s with dev := doOpFaultConfigSet c io s.dev }, rfl, hend, fun k hlo hhi => ?_⟩
    rw [show cfg = x.faultCfg from hcfg]
    exact hsrc k (mem_sources.2 ⟨hlo, hhi⟩)
  · refine ⟨{ s with dev := doOpFaultConfigRead c io s.dev }, rfl, ?_⟩
    dsimp only
    rw [doOpFaultConfigRead_idle h hop ht hc]
    exact ⟨fcr_ok .., ok_ended h⟩
  · intro es hop hes
    subst hes
    refine ⟨{ s with dev := doOpFaultConfigHistory c io s.dev }, rfl, ?_⟩
    dsimp only
    rw [show doOpFaultConfigHistory c io s.dev = _ from step1_run h hop]
    dsimp only
    rw [fcr_hostOut]
    exact bufferAnswers h ..
  · refine ⟨{ s with dev := doOpFaultConfigLatched c io s.dev }, rfl, ?_⟩
    dsimp only
    rw [show doOpFaultConfigLatched c io s.dev = _ from step1_run h hop]
    dsimp only
    rw [List.length_map]
    obtain ⟨hfcr, herr, hend, -⟩ := bufferAnswers h (x.fld 32 0 64) (leBytes 512
      (((s.dev.fcr.srcs.filter (fun y => y.2.latched && s.dev.srcVisible c.ep y.1)).map Prod.fst).foldl (fun n s => n + 2 ^ s) 0)) io.wrErr 32
      (s.dev.fcr.srcs.filter (fun y => y.2.latched && s.dev.srcVisible c.ep y.1)).length 0
    exact ⟨hfcr, herr, hend⟩
  · refine ⟨{ s with dev := doOpFaultAck c io s.dev }, rfl, ?_⟩
    dsimp only
    rw [doOpFaultAck_run h hop, ht]
    exact ⟨fcr_finish .., fail_ended h⟩
  · intro tm hop ht
    refine ⟨{ s with dev := doOpFaultAck c io s.dev }, rfl, ?_⟩
    dsimp only
    rw [doOpFaultAck_run h hop, ht]
    dsimp only
    refine ⟨ok_ended (isRunning_hif ((hif_record ..).trans (hif_modSrc ..)) h), ?_⟩
    rw [src_fcr ((fcr_ok ..).trans (fcr_record ..)), Dev.src_modSrc, if_pos rfl]
  · refine ⟨{ s with dev := doOpFaultClear c io s.dev }, rfl, ?_⟩
    dsimp only
    have hss : x.sources.filter (fun k => (s.dev.src k).latched || (s.dev.src k).live) = [] := by
      refine List.filter_eq_nil_iff.2 (fun k hk => ?_)
      rw [(hnone k hk).1, (hnone k hk).2]
      decide
    rw [doOpFaultClear_range h hop hf hss]
    exact ok_ended (isRunning_hif rfl h)
  · refine ⟨{ s with dev := doOpFaultClear c io s.dev }, rfl, ?_⟩
    have hss : x.sources.filter (fun k => (s.dev.src k).latched || (s.dev.src k).live) = [x.fld 16 0 12] := by
      rw [sources_single hn]
      simp [hl]
    dsimp only
    rw [doOpFaultClear_range h hop hf hss]
    simp only [List.foldl_cons, List.foldl_nil, hlive, Bool.false_eq_true, if_false, List.filter_cons, List.filter_nil, List.isEmpty_nil,
      if_true, Bool.not_false]
    rw [src_fcr (fcr_ok ..)]
    exact ⟨ok_ended (isRunning_hif (show Dev.hif (Dev.faultPins _) = _ from hif_clearSrc ..) h), src_clearSrc ..⟩
  · refine ⟨{ s with dev := doOpFaultClear c io s.dev }, rfl, ?_⟩
    have hss : x.sources.filter (fun k => (s.dev.src k).latched || (s.dev.src k).live) = [x.fld 16 0 12] := by
      rw [sources_single hn]
      simp [hl]
    dsimp only
    rw [doOpFaultClear_range h hop hf hss]
    simp only [List.foldl_cons, List.foldl_nil, hlive, Bool.false_eq_true, if_false, List.filter_cons, List.filter_nil, List.isEmpty_cons,
      if_true, Bool.not_true, List.head?_cons, Option.getD_some]
    have hrun : (s.dev.clearRefused (x.fld 16 0 12) c.ep).faultPins.isRunning c x := isRunning_hif (show Dev.hif (Dev.faultPins _) = _ from hif_clearRefused ..) h
    refine ⟨ended_outcome (finish_ended hrun), ?_⟩
    rw [src_fcr (show Dev.fcr (Dev.fail _ _ _ _ _ _) = _ from fcr_finish ..), src_faultPins, latched_clearRefused]
    exact hl

end Sys2Proof.Machine
end

section
/-! PROOFS. A step of a command changes no other command (02 R56, R57, R71). -/
namespace Sys2Proof.Machine

/-- The device changes by no more of its commands, rings and queues than the record of the command that a reference names; and that
record, where an abort has marked it, ends as aborted or does not end. -/
def Stepped (c : CmdRef) (d e : Dev) : Prop :=
  ∃ f : Cmd → Cmd, (∀ y, names c (f y) = names c y) ∧
    (∀ y, y.outcome = none → y.marked = true → (f y).outcome = none ∨ (f y).outcome = some (abortedDone (y.steps + 1))) ∧
    ∀ k, (e.ep k).cmds = (if k = c.ep then (d.ep k).cmds.map (fun y => if names c y then f y else y) else (d.ep k).cmds) ∧
      (e.ep k).crs = (d.ep k).crs ∧ (e.ep k).cqs = (d.ep k).cqs

variable {c : CmdRef} {d e e' : Dev}

theorem Calm.lists {d e : Dev} (h : Calm d e) (k : Nat) : (e.ep k).cmds = (d.ep k).cmds ∧ (e.ep k).crs = (d.ep k).crs ∧ (e.ep k).cqs = (d.ep k).cqs :=
  ⟨h.cmds k, h.crs k, h.cqs k⟩

/-- A change of the named command after calm ones. -/
theorem stepped_modCmd (h : Calm d e) {f : Cmd → Cmd} (hn : ∀ y, names c (f y) = names c y)
    (ha : ∀ y, y.outcome = none → y.marked = true → (f y).outcome = none ∨ (f y).outcome = some (abortedDone (y.steps + 1))) :
    Stepped c d (e.modCmd c f) := by
  refine ⟨f, hn, ha, fun k => ?_⟩
  obtain ⟨hcmds, hcrs, hcqs⟩ := Calm.lists h k
  unfold Dev.modCmd
  rw [ep_modEp]
  split
  next hk =>
    subst hk
    rw [if_pos rfl]
    exact ⟨congrArg (List.map _) hcmds, hcrs, hcqs⟩
  next hk =>
    rw [if_neg (fun h => hk h.symm)]
    exact ⟨hcmds, hcrs, hcqs⟩

@[simp] theorem stepped_calm (h : e.hif.calm = d.hif.calm) : Stepped c d e := by
  refine ⟨id, fun _ => rfl, fun _ ho _ => .inl ho, fun k => ?_⟩
  obtain ⟨hcmds, hcrs, hcqs⟩ := Calm.lists h k
  simp [hcmds, hcrs, hcqs]

theorem Stepped.calm (h : Stepped c d e) (h' : Calm e e') : Stepped c d e' := by
  obtain ⟨f, hn, ha, hk⟩ := h
  refine ⟨f, hn, ha, fun k => ?_⟩
  obtain ⟨hcmds, hcrs, hcqs⟩ := h'.lists k
  rw [hcmds, hcrs, hcqs]
  exact hk k

@[simp] theorem stepped_finish (h : e.hif.calm = d.hif.calm) (o : Done) : Stepped c d (e.finish c o) := by
  refine stepped_modCmd h (names_keep (fun y => by split <;> rfl) (fun y => by split <;> rfl)) (fun y ho hm => ?_)
  rw [ho, hm]
  exact .inr rfl

@[simp] theorem stepped_ok (h : e.hif.calm = d.hif.calm) (r0 r1 detail : Nat) : Stepped c d (e.ok c r0 r1 detail) := stepped_finish h _
@[simp] theorem stepped_fail (h : e.hif.calm = d.hif.calm) (st detail r0 r1 : Nat) : Stepped c d (e.fail c st detail r0 r1) := stepped_finish h _
@[simp] theorem stepped_badOp (h : e.hif.calm = d.hif.calm) (off : Nat) : Stepped c d (e.badOp c off) := stepped_finish h _

@[simp] theorem stepped_okBuf (h : e.hif.calm = d.hif.calm) (err : Bool) (off r0 r1 detail : Nat) : Stepped c d (e.okBuf c err off r0 r1 detail) := by
  unfold Dev.okBuf
  split
  · exact stepped_finish h _
  · exact stepped_finish h _

@[simp] theorem stepped_again (h : e.hif.calm = d.hif.calm) (l : List Nat) : Stepped c d (e.again c l) := by
  refine stepped_modCmd h (names_keep (fun y => by split <;> rfl) (fun y => by split <;> rfl)) (fun y ho hm => ?_)
  rw [hm]
  exact .inr rfl

@[simp] theorem stepped_park (h : e.hif.calm = d.hif.calm) : Stepped c d (e.park c) := by
  refine stepped_modCmd h (names_keep (fun y => by split <;> rfl) (fun y => by split <;> rfl)) (fun y ho _ => .inl ?_)
  rw [ho]
  rfl

@[simp] theorem stepped_scratch (h : e.hif.calm = d.hif.calm) (l : List Nat) : Stepped c d (e.modCmd c (fun y => { y with scratch := l })) :=
  stepped_modCmd h (f := fun y => { y with scratch := l }) (fun _ => rfl) (fun _ ho _ => .inl ho)

theorem Stepped.step1 {is : Cmd → Bool} {f : Dev → Cmd → Dev} (h : ∀ x, Stepped c d (f d x)) : Stepped c d (d.step1 c is f) := by
  unfold Dev.step1
  split
  · split
    · exact h _
    · exact stepped_calm rfl
  · exact stepped_calm rfl

/-- What a step of that kind says of the other commands and of an abort. -/
theorem Stepped.others {s : State} (h : Stepped c s.dev e) : ownCommandOnly c s { s with dev := e } ∧ endsAborted c s { s with dev := e } := by
  obtain ⟨f, hn, ha, hk⟩ := h
  refine ⟨⟨f, hn, hk⟩, fun x y hx _ ho hm hy => ?_⟩
  have hcmd : e.cmd? c = (s.dev.cmd? c).map f := by
    unfold Dev.cmd?
    rw [(hk c.ep).1, if_pos rfl, find?_map_names hn]
  rw [show ({ s with dev := e } : State).dev.cmd? c = e.cmd? c from rfl, hcmd, hx] at hy
  cases hy
  exact ha x ho hm

/-! ### Answers that several rows share -/

@[simp] theorem calm_takeSurveySeq (d : Dev) : d.takeSurveySeq.hif.calm = d.hif.calm := rfl

theorem hif_tabWrite {q : TabReq} {r : Nat} {t : Nat × Dev} (h : d.tabWrite q r = .ok t) : t.2.hif = d.hif := by
  obtain ⟨-, hhif, -⟩ := Dev.tabWrite_frame d q r h
  exact hhif

theorem hif_tabDelete {q : TabReq} {r : Nat} {t : Nat × Dev} (h : d.tabDelete q r = .ok t) : t.2.hif = d.hif := by
  obtain ⟨-, hhif, -⟩ := Dev.tabDelete_frame d q r h
  exact hhif

theorem hif_endedSweep (d : Dev) : d.endedSweep.hif = d.hif := by simp

theorem hif_releaseAs (d : Dev) (soft : Bool) (party k a : Nat) : (d.releaseAs soft party k a).2.hif = d.hif := by simp
theorem hif_handover (d : Dev) (t : List Byte) (smbus : Bool) : (d.handover t smbus).2.hif = d.hif := by simp
theorem hif_freeze (d : Dev) (e : Nat) : (d.freeze e).2.hif = d.hif := by simp
theorem hif_bulkRun (d : Dev) (c : CmdRef) (x : Cmd) (stride n : Nat) (bs : List Byte) (b : Bulk) :
    (d.bulkRun c x stride n bs b).2.2.hif = d.hif := by simp

theorem calm_pair {α : Type} {a : α} {r : α × Dev} (h : r = (a, e)) (hr : r.2.hif = d.hif) : e.hif.calm = d.hif.calm := by
  rw [h] at hr
  exact congrArg Hif.calm hr

theorem calm_pair3 {α β : Type} {a : α} {b : β} {r : α × β × Dev} (h : r = (a, b, e)) (hr : r.2.2.hif = d.hif) :
    e.hif.calm = d.hif.calm := by
  rw [h] at hr
  exact congrArg Hif.calm hr

@[simp] theorem stepped_busyGen (h : e.hif.calm = d.hif.calm) (why : Nat) : Stepped c d (e.busyGen c why) := stepped_finish h _
@[simp] theorem stepped_polderResult (h : e.hif.calm = d.hif.calm) (x : Cmd) (p : Nat) : Stepped c d (e.polderResult c x p) := stepped_finish h _
@[simp] theorem stepped_portResult (h : e.hif.calm = d.hif.calm) (p : Nat) : Stepped c d (e.portResult c p) := stepped_finish h _

@[simp] theorem stepped_tabFail (h : e.hif.calm = d.hif.calm) (p : Nat) (f : TabFail) : Stepped c d (e.tabFail c p f) := by
  unfold Dev.tabFail
  split
  · exact stepped_fail (Eq.trans (by simp) h) ..
  · exact stepped_fail h ..

theorem stepped_tabReadCmd (d : Dev) (c : CmdRef) (x : Cmd) (io : Io) (search : Bool) : Stepped c d (d.tabReadCmd c x io search) := by
  unfold Dev.tabReadCmd
  dsimp only
  repeat' split
  all_goals simp

theorem stepped_walkStep (d : Dev) (c : CmdRef) (x : Cmd) (io : Io) (audit : Bool) : Stepped c d (d.walkStep c x io audit) := by
  unfold Dev.walkStep
  dsimp only
  repeat' split
  all_goals simp

theorem stepped_polderSet (d : Dev) (c : CmdRef) (io : Io) (act : Nat) : Stepped c d (d.polderSet c io act) := by
  unfold Dev.polderSet
  dsimp only
  repeat' split
  all_goals simp

@[simp] theorem stepped_timeApply (h : e.hif.calm = d.hif.calm) (setTo : Option Nat) (offset : Int) : Stepped c d (e.timeApply c setTo offset) := by
  unfold Dev.timeApply
  dsimp only
  exact stepped_ok (Eq.trans (by simp) h) ..

@[simp] theorem stepped_timeWhen (d : Dev) (c : CmdRef) (x : Cmd) (setTo : Option Nat) (offset : Int) :
    Stepped c d (d.timeWhen c x setTo offset) := by
  unfold Dev.timeWhen
  split
  · exact stepped_timeApply rfl ..
  · exact stepped_park rfl

@[simp] theorem stepped_bulkNext (h : e.hif.calm = d.hif.calm) (x : Cmd) (b : Bulk) : Stepped c d (e.bulkNext c x b) := by
  unfold Dev.bulkNext
  split
  · exact stepped_finish h _
  · exact stepped_again h _

/-! ### The rows -/

theorem stepped_doOpNop (io : Io) : Stepped c d (doOpNop c io d) :=
  .step1 fun _ => stepped_finish rfl _

theorem stepped_doOpFence (io : Io) : Stepped c d (doOpFence c io d) := by
  refine .step1 fun x => ?_
  dsimp only
  repeat' split
  all_goals simp

theorem stepped_doOpSurvey (io : Io) : Stepped c d (doOpSurvey c io d) := by
  refine .step1 fun x => ?_
  dsimp only
  repeat' split
  all_goals simp

theorem stepped_doOpAttestReport (io : Io) : Stepped c d (doOpAttestReport c io d) := by
  refine .step1 fun x => ?_
  dsimp only
  repeat' split
  all_goals simp

theorem stepped_doOpAttestCert (io : Io) : Stepped c d (doOpAttestCert c io d) := by
  refine .step1 fun x => ?_
  dsimp only
  repeat' split
  all_goals simp

theorem stepped_doOpModeSetPolder (io : Io) : Stepped c d (doOpModeSetPolder c io d) := by
  refine .step1 fun x => ?_
  dsimp only
  repeat' split
  all_goals simp

theorem stepped_doOpTableWrite (io : Io) : Stepped c d (doOpTableWrite c io d) := by
  refine .step1 fun x => ?_
  split
  · simp
  split
  · simp
  dsimp only
  split
  · simp
  split
  · split <;> simp
  split
  · simp
  next h => exact stepped_ok (congrArg Hif.calm ((hif_parityAll _).trans (hif_tabWrite h))) ..

theorem stepped_doOpTableRead (io : Io) : Stepped c d (doOpTableRead c io d) :=
  .step1 fun _ => stepped_tabReadCmd ..

theorem stepped_doOpTableSearch (io : Io) : Stepped c d (doOpTableSearch c io d) :=
  .step1 fun _ => stepped_tabReadCmd ..

theorem stepped_doOpTableDelete (io : Io) : Stepped c d (doOpTableDelete c io d) := by
  refine .step1 fun x => ?_
  split
  · simp
  dsimp only
  split
  · simp
  split
  · simp
  split
  · simp
  split
  · simp
  next h => exact stepped_ok (congrArg Hif.calm ((hif_parityAll _).trans (hif_tabDelete h))) ..

theorem stepped_doOpTableBulk (io : Io) : Stepped c d (doOpTableBulk c io d) := by
  refine .step1 fun x => ?_
  dsimp only
  split
  · simp
  split
  · simp
  split
  · simp
  split
  · simp
  next bs _ =>
    have hhif := hif_bulkRun d c x (x.fld 18 0 16) (min (x.fld 20 0 32 - (Bulk.ofList x.scratch).pos) (max 1 (bs.length / x.fld 18 0 16))) bs
      (Bulk.ofList x.scratch)
    split
    next h => exact stepped_scratch (calm_pair3 h hhif) _
    next h => exact stepped_bulkNext ((congrArg Hif.calm (hif_parityAll _)).trans (calm_pair3 h hhif)) ..

theorem stepped_doOpTableAudit (io : Io) : Stepped c d (doOpTableAudit c io d) :=
  .step1 fun _ => stepped_walkStep ..

theorem stepped_doOpTableScan (io : Io) : Stepped c d (doOpTableScan c io d) :=
  .step1 fun _ => stepped_walkStep ..

theorem stepped_doOpGenOpen (io : Io) : Stepped c d (doOpGenOpen c io d) := by
  refine .step1 fun x => ?_
  dsimp only
  repeat' split
  all_goals simp

theorem stepped_doOpGenCommit (io : Io) : Stepped c d (doOpGenCommit c io d) := by
  refine .step1 fun x => ?_
  dsimp only
  repeat' split
  all_goals simp

theorem stepped_doOpGenDiscard (io : Io) : Stepped c d (doOpGenDiscard c io d) := by
  refine .step1 fun x => ?_
  repeat' split
  all_goals simp

theorem stepped_doOpGenStatus (io : Io) : Stepped c d (doOpGenStatus c io d) := by
  refine .step1 fun x => ?_
  dsimp only
  repeat' split
  all_goals simp

theorem stepped_doOpCounterRead (io : Io) : Stepped c d (doOpCounterRead c io d) := by
  refine .step1 fun x => ?_
  dsimp only
  repeat' split
  all_goals simp

theorem stepped_doOpCounterClear (io : Io) : Stepped c d (doOpCounterClear c io d) := by
  refine .step1 fun x => ?_
  dsimp only
  simp

theorem stepped_doOpLedgerConfig (io : Io) : Stepped c d (doOpLedgerConfig c io d) := by
  refine .step1 fun x => ?_
  dsimp only
  repeat' split
  all_goals simp

theorem stepped_doOpLedgerExportSetSet (io : Io) : Stepped c d (doOpLedgerExportSetSet c io d) := by
  refine .step1 fun x => ?_
  dsimp only
  repeat' split
  all_goals simp

theorem stepped_doOpLedgerExportSetRead (io : Io) : Stepped c d (doOpLedgerExportSetRead c io d) := by
  refine .step1 fun x => ?_
  dsimp only
  repeat' split
  all_goals simp

theorem stepped_doOpLedgerExportSetFlush (io : Io) : Stepped c d (doOpLedgerExportSetFlush c io d) := by
  refine .step1 fun x => ?_
  dsimp only
  repeat' split
  all_goals simp

theorem stepped_doOpMeterSetWeirSet (io : Io) : Stepped c d (doOpMeterSetWeirSet c io d) := by
  refine .step1 fun x => ?_
  dsimp only
  repeat' split
  all_goals simp

theorem stepped_doOpMeterSetWeirRead (io : Io) : Stepped c d (doOpMeterSetWeirRead c io d) := by
  refine .step1 fun x => ?_
  dsimp only
  repeat' split
  all_goals simp

theorem stepped_doOpMeterSetWeirDelete (io : Io) : Stepped c d (doOpMeterSetWeirDelete c io d) := by
  refine .step1 fun x => ?_
  dsimp only
  repeat' split
  all_goals simp

theorem stepped_doOpMeterSetRuleSet (io : Io) : Stepped c d (doOpMeterSetRuleSet c io d) := by
  refine .step1 fun x => ?_
  dsimp only
  repeat' split
  all_goals simp

theorem stepped_doOpMeterSetRuleDelete (io : Io) : Stepped c d (doOpMeterSetRuleDelete c io d) := by
  refine .step1 fun x => ?_
  dsimp only
  repeat' split
  all_goals simp

theorem stepped_doOpSchedSetSet (io : Io) : Stepped c d (doOpSchedSetSet c io d) := by
  refine .step1 fun x => ?_
  dsimp only
  repeat' split
  all_goals simp

theorem stepped_doOpSchedSetSetMc (io : Io) : Stepped c d (doOpSchedSetSetMc c io d) := by
  refine .step1 fun x => ?_
  dsimp only
  repeat' split
  all_goals simp

theorem stepped_doOpSchedSetRead (io : Io) : Stepped c d (doOpSchedSetRead c io d) := by
  refine .step1 fun x => ?_
  dsimp only
  repeat' split
  all_goals simp

theorem stepped_doOpShaperSetSet (io : Io) : Stepped c d (doOpShaperSetSet c io d) := by
  refine .step1 fun x => ?_
  dsimp only
  repeat' split
  all_goals simp

theorem stepped_doOpShaperSetRead (io : Io) : Stepped c d (doOpShaperSetRead c io d) := by
  refine .step1 fun x => ?_
  dsimp only
  repeat' split
  all_goals simp

theorem stepped_doOpTideTableSetSet (io : Io) : Stepped c d (doOpTideTableSetSet c io d) := by
  refine .step1 fun x => ?_
  dsimp only
  repeat' split
  all_goals simp

theorem stepped_doOpTideTableSetDisable (io : Io) : Stepped c d (doOpTideTableSetDisable c io d) := by
  refine .step1 fun x => ?_
  dsimp only
  repeat' split
  all_goals simp

theorem stepped_doOpTideTableSetRead (io : Io) : Stepped c d (doOpTideTableSetRead c io d) := by
  refine .step1 fun x => ?_
  dsimp only
  repeat' split
  all_goals simp

theorem stepped_doOpGaugeSetSet (io : Io) : Stepped c d (doOpGaugeSetSet c io d) := by
  refine .step1 fun x => ?_
  dsimp only
  repeat' split
  all_goals simp

theorem stepped_doOpGaugeSetRead (io : Io) : Stepped c d (doOpGaugeSetRead c io d) := by
  refine .step1 fun x => ?_
  dsimp only
  repeat' split
  all_goals simp

theorem stepped_doOpGaugeSetArchiveRead (io : Io) : Stepped c d (doOpGaugeSetArchiveRead c io d) := by
  refine .step1 fun x => ?_
  extract_lets room addr next done lost err all oldest src pick step bad good put after hit d1 d2
  have h1 : d1.hif = d.hif := by simp [d1]
  have h2 : d2.hif = d1.hif := by
    unfold d2
    split <;> simp
  clear_value d1 d2
  repeat' split
  all_goals simp [h1, h2]

theorem stepped_doOpPoolSetSet (io : Io) : Stepped c d (doOpPoolSetSet c io d) := by
  refine .step1 fun x => ?_
  dsimp only
  repeat' split
  all_goals simp

theorem stepped_doOpPoolSetRead (io : Io) : Stepped c d (doOpPoolSetRead c io d) := by
  refine .step1 fun x => ?_
  dsimp only
  repeat' split
  all_goals simp

theorem stepped_doOpPoolSetRelease (io : Io) : Stepped c d (doOpPoolSetRelease c io d) := by
  refine .step1 fun x => ?_
  have hhif := hif_releaseAs d true (partyHost c.ep) (x.fld 36 0 20) (x.fld 16 0 10)
  split
  next h => exact stepped_ok (calm_pair h hhif) ..
  next h => exact stepped_fail (calm_pair h hhif) ..
  next h => exact stepped_fail (calm_pair h hhif) ..

theorem stepped_doOpHeadroomSet (io : Io) : Stepped c d (doOpHeadroomSet c io d) := by
  refine .step1 fun x => ?_
  dsimp only
  repeat' split
  all_goals simp

theorem stepped_doOpPfcSet (io : Io) : Stepped c d (doOpPfcSet c io d) := by
  refine .step1 fun x => ?_
  dsimp only
  repeat' split
  all_goals simp

theorem stepped_doOpSpillSetQueue (io : Io) : Stepped c d (doOpSpillSetQueue c io d) := by
  refine .step1 fun x => ?_
  dsimp only
  repeat' split
  all_goals simp

theorem stepped_doOpSpillSetLongReach (io : Io) : Stepped c d (doOpSpillSetLongReach c io d) := by
  refine .step1 fun x => ?_
  dsimp only
  repeat' split
  all_goals simp

theorem stepped_doOpSpillSetReadQueue (io : Io) : Stepped c d (doOpSpillSetReadQueue c io d) := by
  refine .step1 fun x => ?_
  dsimp only
  repeat' split
  all_goals simp

theorem stepped_doOpSpillSetReadLr (io : Io) : Stepped c d (doOpSpillSetReadLr c io d) := by
  refine .step1 fun x => ?_
  dsimp only
  repeat' split
  all_goals simp

theorem stepped_doOpFaultConfigSet (io : Io) : Stepped c d (doOpFaultConfigSet c io d) := by
  refine .step1 fun x => ?_
  dsimp only
  repeat' split
  all_goals simp

theorem stepped_doOpFaultConfigRead (io : Io) : Stepped c d (doOpFaultConfigRead c io d) := by
  refine .step1 fun x => ?_
  dsimp only
  simp

theorem stepped_doOpFaultConfigHistory (io : Io) : Stepped c d (doOpFaultConfigHistory c io d) := by
  refine .step1 fun x => ?_
  dsimp only
  simp

theorem stepped_doOpFaultConfigLatched (io : Io) : Stepped c d (doOpFaultConfigLatched c io d) := by
  refine .step1 fun x => ?_
  dsimp only
  simp

theorem stepped_doOpFaultAck (io : Io) : Stepped c d (doOpFaultAck c io d) := by
  refine .step1 fun x => ?_
  dsimp only
  repeat' split
  all_goals simp

theorem stepped_doOpFaultClear (io : Io) : Stepped c d (doOpFaultClear c io d) := by
  refine .step1 fun x => ?_
  dsimp only
  repeat' split
  all_goals simp

theorem stepped_doOpLogRead (io : Io) : Stepped c d (doOpLogRead c io d) := by
  refine .step1 fun x => ?_
  extract_lets persistent wantFreeze minSev room addr first had fz d1 e1 d2 d3 next done skipped gap0 src pick step want put after read skip
    between gap d4 bad expired d5 oldest
  have h1 : d1.hif = d.hif := by
    unfold d1 fz
    split
    · exact hif_freeze ..
    · rfl
  have h2 : d2.hif = d1.hif := by
    unfold d2
    split <;> rfl
  have h3 : d3.hif.calm = d2.hif.calm := by
    unfold d3
    split <;> simp
  have h4 : d4.hif.calm = d.hif.calm := by
    refine Eq.trans ?_ (h3.trans (congrArg Hif.calm (h2.trans h1)))
    unfold d4
    split <;> simp
  have h5 : d5.hif.calm = d.hif.calm := by
    refine Eq.trans ?_ h4
    unfold d5
    split <;> simp
  clear_value d4 d5 fz
  split
  · exact stepped_fail rfl ..
  split
  · exact stepped_okBuf h5 ..
  · exact stepped_again h4 _

theorem stepped_doOpLogFreeze (io : Io) : Stepped c d (doOpLogFreeze c io d) := by
  refine .step1 fun x => ?_
  have hhif := hif_freeze d c.ep
  split
  next h => exact stepped_fail rfl ..
  next h => exact stepped_ok (calm_pair h hhif) ..

theorem stepped_doOpLogThaw (io : Io) : Stepped c d (doOpLogThaw c io d) := by
  refine .step1 fun x => ?_
  dsimp only
  repeat' split
  all_goals simp

theorem stepped_doOpLogRateSetSet (io : Io) : Stepped c d (doOpLogRateSetSet c io d) := by
  refine .step1 fun x => ?_
  dsimp only
  simp

theorem stepped_doOpLogRateSetRead (io : Io) : Stepped c d (doOpLogRateSetRead c io d) := by
  refine .step1 fun x => ?_
  dsimp only
  simp

theorem stepped_doOpPolderDefineDefine (io : Io) : Stepped c d (doOpPolderDefineDefine c io d) :=
  .step1 fun _ => stepped_polderSet ..

theorem stepped_doOpPolderDefineModify (io : Io) : Stepped c d (doOpPolderDefineModify c io d) :=
  .step1 fun _ => stepped_polderSet ..

theorem stepped_doOpPolderDefineUndefine (io : Io) : Stepped c d (doOpPolderDefineUndefine c io d) := by
  refine .step1 fun x => ?_
  dsimp only
  repeat' split
  all_goals simp

theorem stepped_doOpSluiceSet (io : Io) : Stepped c d (doOpSluiceSet c io d) := by
  refine .step1 fun x => ?_
  dsimp only
  repeat' split
  all_goals simp

theorem stepped_doOpWardenHandover (io : Io) : Stepped c d (doOpWardenHandover c io d) := by
  refine .step1 fun x => ?_
  split
  next bs _ =>
    have hhif := hif_handover d (bs.map (BitVec.ofNat 8)) false
    split
    next h => exact stepped_badOp (calm_pair h hhif) _
    next h => exact stepped_ok (calm_pair h hhif) ..
  · repeat' split
    all_goals simp

theorem stepped_doOpPortConfig (io : Io) : Stepped c d (doOpPortConfig c io d) := by
  refine .step1 fun x => ?_
  dsimp only
  repeat' split
  all_goals simp

theorem stepped_doOpPortStateRead (io : Io) : Stepped c d (doOpPortStateRead c io d) := by
  refine .step1 fun x => ?_
  repeat' split
  all_goals simp

theorem stepped_doOpPortStateAdminUp (io : Io) : Stepped c d (doOpPortStateAdminUp c io d) := by
  refine .step1 fun x => ?_
  dsimp only
  repeat' split
  all_goals simp

theorem stepped_doOpPortStateAdminDown (io : Io) : Stepped c d (doOpPortStateAdminDown c io d) := by
  refine .step1 fun x => ?_
  dsimp only
  repeat' split
  all_goals simp

theorem stepped_doOpPortStateRetrain (io : Io) : Stepped c d (doOpPortStateRetrain c io d) := by
  refine .step1 fun x => ?_
  dsimp only
  repeat' split
  all_goals simp

theorem stepped_doOpPortHoldSet (io : Io) : Stepped c d (doOpPortHoldSet c io d) := by
  refine .step1 fun x => ?_
  extract_lets all p ps r
  have hr : r.2.hif.calm = d.hif.calm := by
    refine calm_foldl2 _ _ (fun a q => ?_) (false, d)
    dsimp only
    repeat' split
    all_goals simp
  split
  · simp
  · exact stepped_ok hr ..

theorem stepped_doOpTimeSetSet (io : Io) : Stepped c d (doOpTimeSetSet c io d) := by
  refine .step1 fun x => ?_
  repeat' split
  all_goals simp

theorem stepped_doOpTimeSetStep (io : Io) : Stepped c d (doOpTimeSetStep c io d) :=
  .step1 fun _ => stepped_timeWhen ..

theorem stepped_doOpTimeSetFreq (io : Io) : Stepped c d (doOpTimeSetFreq c io d) := by
  refine .step1 fun x => ?_
  dsimp only
  repeat' split
  all_goals simp

theorem stepped_doOpTimeSetSlew (io : Io) : Stepped c d (doOpTimeSetSlew c io d) := by
  refine .step1 fun x => ?_
  dsimp only
  repeat' split
  all_goals simp

theorem stepped_doOpTimeCapture (io : Io) : Stepped c d (doOpTimeCapture c io d) := by
  refine .step1 fun x => ?_
  dsimp only
  repeat' split
  all_goals simp

theorem stepped_doOpStoreReload (io : Io) : Stepped c d (doOpStoreReload c io d) := by
  unfold doOpStoreReload
  refine Stepped.calm (.step1 fun x => ?_) (congrArg Hif.calm (hif_endedSweep _))
  extract_lets kind i src fails bootA d1 bootB d2 micros counted
  have h1 : d1.hif = d.hif := rfl
  have h2 : d2.hif = d.hif := rfl
  have hfails (e : Dev) (he : e.hif = d.hif) (k : Nat) : Stepped c d (fails e k) := by
    have hlost : (e.reloadFails k).hif = d.hif := Eq.trans (by simp) he
    refine Stepped.calm ?_ (congrArg Hif.calm (hif_refreshPauseAll _))
    split
    · exact stepped_fail (congrArg Hif.calm hlost) ..
    · exact stepped_badOp (congrArg Hif.calm hlost) _
  clear_value fails d1 d2
  split
  · split
    · simp
    split
    · exact hfails _ h1 _
    dsimp only
    split
    · exact hfails _ h1 _
    split
    · exact hfails _ h1 _
    split
    · exact hfails _ h1 _
    split
    · exact hfails _ h1 _
    · exact stepped_again (by simp [h2]) _
  · split
    · exact hfails _ rfl _
    split
    · exact hfails _ rfl _
    extract_lets d3 bootC d4 d5
    have h3 : d3.hif = d.hif := by simp [d3]
    have h4 : d4.hif = d.hif := h3
    have h5 : d5.hif.calm = d.hif.calm := by simp [d5, h4]
    clear_value d4 d5
    exact stepped_ok (by simp [h5]) _ _ _
  · exact stepped_calm rfl


theorem stepped_doOpDiagLoopback (io : Io) : Stepped c d (doOpDiagLoopback c io d) := by
  refine .step1 fun x => ?_
  dsimp only
  repeat' split
  all_goals simp

theorem stepped_doOpDiagBist (io : Io) : Stepped c d (doOpDiagBist c io d) := by
  refine .step1 fun x => ?_
  dsimp only
  repeat' split
  all_goals simp

theorem stepped_doOpDiagPrbsStart (io : Io) : Stepped c d (doOpDiagPrbsStart c io d) := by
  refine .step1 fun x => ?_
  dsimp only
  repeat' split
  all_goals simp

theorem stepped_doOpDiagPrbsRead (io : Io) : Stepped c d (doOpDiagPrbsRead c io d) := by
  refine .step1 fun x => ?_
  dsimp only
  repeat' split
  all_goals simp

theorem stepped_doOpDiagPrbsStop (io : Io) : Stepped c d (doOpDiagPrbsStop c io d) := by
  refine .step1 fun x => ?_
  dsimp only
  repeat' split
  all_goals simp

/-! ### The rows -/

/-- What O51 says of each row of a list follows row by row, from what the row does to the device. -/
theorem others_cons {s t : State} {i : Instr} {l : List Instr} (h : Stepped c s.dev e) (hrow : exec i s = .next { s with dev := e })
    (hl : ∀ j ∈ l, exec j s = .next t → ownCommandOnly c s t ∧ endsAborted c s t) :
    ∀ j ∈ i :: l, exec j s = .next t → ownCommandOnly c s t ∧ endsAborted c s t := by
  refine List.forall_mem_cons.mpr ⟨fun hexec => ?_, hl⟩
  rw [hrow] at hexec
  cases hexec
  exact h.others

/-- Settles O51: each row's answer is a change of the command that it runs, by `finish`, `again`, `park` or its scratch, after changes that
keep the commands, rings and queues of every endpoint. -/
theorem commandStepsLeaveOtherCommands : Obligations.CommandStepsLeaveOtherCommands := by
  intro s t c io
  refine others_cons (stepped_doOpNop io) rfl ?_
  refine others_cons (stepped_doOpFence io) rfl ?_
  refine others_cons (stepped_doOpSurvey io) rfl ?_
  refine others_cons (stepped_doOpAttestReport io) rfl ?_
  refine others_cons (stepped_doOpAttestCert io) rfl ?_
  refine others_cons (stepped_doOpModeSetPolder io) rfl ?_
  refine others_cons (stepped_doOpTableWrite io) rfl ?_
  refine others_cons (stepped_doOpTableRead io) rfl ?_
  refine others_cons (stepped_doOpTableSearch io) rfl ?_
  refine others_cons (stepped_doOpTableDelete io) rfl ?_
  refine others_cons (stepped_doOpTableBulk io) rfl ?_
  refine others_cons (stepped_doOpTableAudit io) rfl ?_
  refine others_cons (stepped_doOpTableScan io) rfl ?_
  refine others_cons (stepped_doOpGenOpen io) rfl ?_
  refine others_cons (stepped_doOpGenCommit io) rfl ?_
  refine others_cons (stepped_doOpGenDiscard io) rfl ?_
  refine others_cons (stepped_doOpGenStatus io) rfl ?_
  refine others_cons (stepped_doOpCounterRead io) rfl ?_
  refine others_cons (stepped_doOpCounterClear io) rfl ?_
  refine others_cons (stepped_doOpLedgerConfig io) rfl ?_
  refine others_cons (stepped_doOpLedgerExportSetSet io) rfl ?_
  refine others_cons (stepped_doOpLedgerExportSetRead io) rfl ?_
  refine others_cons (stepped_doOpLedgerExportSetFlush io) rfl ?_
  refine others_cons (stepped_doOpMeterSetWeirSet io) rfl ?_
  refine others_cons (stepped_doOpMeterSetWeirRead io) rfl ?_
  refine others_cons (stepped_doOpMeterSetWeirDelete io) rfl ?_
  refine others_cons (stepped_doOpMeterSetRuleSet io) rfl ?_
  refine others_cons (stepped_doOpMeterSetRuleDelete io) rfl ?_
  refine others_cons (stepped_doOpSchedSetSet io) rfl ?_
  refine others_cons (stepped_doOpSchedSetSetMc io) rfl ?_
  refine others_cons (stepped_doOpSchedSetRead io) rfl ?_
  refine others_cons (stepped_doOpShaperSetSet io) rfl ?_
  refine others_cons (stepped_doOpShaperSetRead io) rfl ?_
  refine others_cons (stepped_doOpTideTableSetSet io) rfl ?_
  refine others_cons (stepped_doOpTideTableSetDisable io) rfl ?_
  refine others_cons (stepped_doOpTideTableSetRead io) rfl ?_
  refine others_cons (stepped_doOpGaugeSetSet io) rfl ?_
  refine others_cons (stepped_doOpGaugeSetRead io) rfl ?_
  refine others_cons (stepped_doOpGaugeSetArchiveRead io) rfl ?_
  refine others_cons (stepped_doOpPoolSetSet io) rfl ?_
  refine others_cons (stepped_doOpPoolSetRead io) rfl ?_
  refine others_cons (stepped_doOpPoolSetRelease io) rfl ?_
  refine others_cons (stepped_doOpHeadroomSet io) rfl ?_
  refine others_cons (stepped_doOpPfcSet io) rfl ?_
  refine others_cons (stepped_doOpSpillSetQueue io) rfl ?_
  refine others_cons (stepped_doOpSpillSetLongReach io) rfl ?_
  refine others_cons (stepped_doOpSpillSetReadQueue io) rfl ?_
  refine others_cons (stepped_doOpSpillSetReadLr io) rfl ?_
  refine others_cons (stepped_doOpFaultConfigSet io) rfl ?_
  refine others_cons (stepped_doOpFaultConfigRead io) rfl ?_
  refine others_cons (stepped_doOpFaultConfigHistory io) rfl ?_
  refine others_cons (stepped_doOpFaultConfigLatched io) rfl ?_
  refine others_cons (stepped_doOpFaultAck io) rfl ?_
  refine others_cons (stepped_doOpFaultClear io) rfl ?_
  refine others_cons (stepped_doOpLogRead io) rfl ?_
  refine others_cons (stepped_doOpLogFreeze io) rfl ?_
  refine others_cons (stepped_doOpLogThaw io) rfl ?_
  refine others_cons (stepped_doOpLogRateSetSet io) rfl ?_
  refine others_cons (stepped_doOpLogRateSetRead io) rfl ?_
  refine others_cons (stepped_doOpPolderDefineDefine io) rfl ?_
  refine others_cons (stepped_doOpPolderDefineModify io) rfl ?_
  refine others_cons (stepped_doOpPolderDefineUndefine io) rfl ?_
  refine others_cons (stepped_doOpSluiceSet io) rfl ?_
  refine others_cons (stepped_doOpWardenHandover io) rfl ?_
  refine others_cons (stepped_doOpPortConfig io) rfl ?_
  refine others_cons (stepped_doOpPortStateRead io) rfl ?_
  refine others_cons (stepped_doOpPortStateAdminUp io) rfl ?_
  refine others_cons (stepped_doOpPortStateAdminDown io) rfl ?_
  refine others_cons (stepped_doOpPortStateRetrain io) rfl ?_
  refine others_cons (stepped_doOpPortHoldSet io) rfl ?_
  refine others_cons (stepped_doOpTimeSetSet io) rfl ?_
  refine others_cons (stepped_doOpTimeSetStep io) rfl ?_
  refine others_cons (stepped_doOpTimeSetFreq io) rfl ?_
  refine others_cons (stepped_doOpTimeSetSlew io) rfl ?_
  refine others_cons (stepped_doOpTimeCapture io) rfl ?_
  refine others_cons (stepped_doOpStoreReload io) rfl ?_
  refine others_cons (stepped_doOpDiagLoopback io) rfl ?_
  refine others_cons (stepped_doOpDiagBist io) rfl ?_
  refine others_cons (stepped_doOpDiagPrbsStart io) rfl ?_
  refine others_cons (stepped_doOpDiagPrbsRead io) rfl ?_
  refine others_cons (stepped_doOpDiagPrbsStop io) rfl ?_
  exact fun _ h => absurd h List.not_mem_nil

end Sys2Proof.Machine
end
